-- ==== Sys2Proof/Syntax.lean ====
section
/-! DEFINITION. Syntax.lean: the commands the block takes (Instr, one constructor per row of the opcode table) and the
types of their operands. -/

namespace Sys2Proof

/-- Tile number T00 to T47 (R3). -/
abbrev Tile := Fin 48

/-- Port number P000 to P143 (R3). -/
abbrev Port := Fin 144

/-- Host queue number (R59). -/
abbrev Queue := Fin 16

/-- Lane number 0 to 15, and 16 for lane S (R3, R51). -/
abbrev Lane := Fin 17

/-- The way a Camdan packet reached the Proctor (R50): a host queue, the management chain with the sender's chain address,
the command flits of a port or of an expansion-site sublink (R456), or the test access port. `mirror` marks a command that a
mirror record brought to a standby (R437): it came in no packet and no reply answers it. -/
inductive Path where
  | host (q : Queue)
  | chain (src : BitVec 8)
  | port (p : Port)
  | site (k : Fin 4)
  | jtag
  | mirror
  deriving DecidableEq, Repr

/-- A Camdan command packet after steps 1 to 3 of R58: the header fields of R46 but for OPCODE, which is the constructor,
and for ORIGIN, which the module fills from the path (R49). `data` is the inline data buffer of R68 and R70. -/
structure Packet where
  path : Path
  flags : BitVec 16
  tag : BitVec 16
  dataLen : BitVec 32
  dataAddr : BitVec 64
  target : BitVec 32
  params : List Byte
  data : List Byte
  deriving DecidableEq, Repr

/-- Who makes a direct BAR0 access (R77). -/
inductive BusSrc where
  | cxl (n : Fin 2)
  | chain
  | jtag
  deriving DecidableEq, Repr

/-- The scope of a fault state or a first-source latch: one tile, or the module (R406, R407). -/
inductive Scope where
  | tile (t : Tile)
  | module
  deriving DecidableEq, Repr

/-- A cell's payload that a tile's engines hand to the fabrics for another tile (R195, R199). -/
structure CellOffer where
  src : Tile
  dst : Tile
  vc : Fin 3
  payload : List Byte
  deriving DecidableEq, Repr

/-- What the tile's symbol code found in the lines of an access (R255): nothing, or an error in one of them. -/
inductive Ecc where
  | clean
  | corrected (line : Fin 5)
  | uncorrectable (line : Fin 5)
  deriving DecidableEq, Repr

/-- A stage of a collective segment (R321): the entry stage at a tile, a row's collector, the owner. -/
inductive Stage where
  | entry (t : Tile)
  | collector (row : Fin 4)
  | owner
  deriving DecidableEq, Repr

/-- Where a transport unit enters: a port, or sublink k of the expansion sites (port codes 0xF0 to 0xF3, R448). -/
inductive Via where
  | port (p : Port)
  | site (k : Fin 4)
  deriving DecidableEq, Repr

/-- The port code of a way in (R448). -/
def Via.code : Via → Nat
  | .port p => p.val
  | .site k => 240 + k.val

/-- What the start of a comb shows: whether it locked on its trace, and the fade read on it, in 0.01 dB (R118, R139). -/
structure CombStarted where
  locked : Bool
  fade : BitVec 12
  deriving DecidableEq, Repr

/-- What an evaluation of fade reads on a tile: monitors, each with its selection in the layout of MON_SEL and its reading, and
the laser junctions in °C (R131). -/
structure FadeReadings where
  monitors : List (BitVec 12 × BitVec 16)
  tj : List (BitVec 8)
  deriving DecidableEq, Repr

/-- What a Blocking run found (R342): for a lane the CTLE setting, taps 1 to 12 and the three thresholds of its shadow and
this end's error count in the 20 µs check; whether the other corrections keep their limits; whether the residual check of
the other kinds passed. -/
structure BlkFound where
  eq : List (BitVec 8)
  errs : BitVec 32
  limits : Bool
  residual : Bool
  deriving DecidableEq, Repr

/-- What a reference trace found (R355): whether the Crown delays, the OME items and the other items pass their checks, and
the values that registers show. -/
structure TraceFound where
  crown : Bool
  ome : Bool
  other : Bool
  line23 : BitVec 12
  txDly : BitVec 10
  rxDly : BitVec 10
  deriving DecidableEq, Repr

/-- An ageing measure of R359: days until a comb's bias trend reaches its limit; a channel's heater headroom in 0.25 °C
units; a port's eye openings, as the margin sweep left them; corrected lines per hour over 24 h; the worst row's pilot
residual over 1 h in 0.01° units. -/
inductive AgeMeasure where
  | laser (c : Fin 8) (days : BitVec 16)
  | ring (chan : BitVec 16) (head : BitVec 8)
  | eye (i : Fin 3)
  | memory (perHour : BitVec 32)
  | pilot (worst : BitVec 16)
  deriving DecidableEq, Repr

/-- How a site's sublinks trained (R454, R455): the UCIe modules that run and those at ×32, at this side and at the die's, the
die's link epoch, and the sublinks whose module maps still disagree after three rounds. -/
structure SiteTrain where
  up : BitVec 4
  x32 : BitVec 4
  farUp : BitVec 4
  farX32 : BitVec 4
  farEpoch : BitVec 16
  held : BitVec 2
  deriving DecidableEq, Repr

/-- Where twin traffic comes in or goes out (R425): a twin port, or the management chain. -/
inductive TwinPath where
  | port (p : Port)
  | chain (src : BitVec 8)
  deriving DecidableEq, Repr

/-- What a PAIR_HELLO carries (R426): node ID, chain address, home role, tile stepping, Proctor firmware version, digest of
the tile microcode, LEASE_T in its register's units, PAIR_NODE and the SHA-256 of the identity public key. -/
structure PairHello where
  node : BitVec 15
  chain : BitVec 6
  home : BitVec 2
  stepping : BitVec 32
  fw : BitVec 64
  ucode : List Byte
  leaseT : BitVec 5
  pairNode : BitVec 15
  idHash : List Byte
  deriving DecidableEq, Repr

/-- The reply of a gang member to a command that the leader forwarded (R447). -/
structure GangReply where
  status : BitVec 16
  detail : BitVec 32
  result : List Byte
  deriving DecidableEq, Repr

/-- The commands and events of spec/opcode_table.json, one constructor per row, in the table's order. A Camdan opcode's
constructor takes the packet as the Proctor has taken it (steps 1 to 3 of R58 passed); an event's constructor takes what
arrives or is measured. -/
inductive Instr where
  /-- NOP (R75). Command that does nothing and returns an OK reply. -/
  | nop (p : Packet)
  /-- IDENTIFY (R75). Command that returns node ID, chain address, twin role, stepping, firmware version and serial. -/
  | identify (p : Packet)
  /-- WHOAMI (R75). Command that returns the ORIGIN the module assigned to the packet. -/
  | whoami (p : Packet)
  /-- ATTEST (R470). Command that builds and signs the attestation report with the identity key. -/
  | attest (p : Packet)
  /-- ID_CERT_READ (R463). Command that returns the identity certificate. -/
  | idCertRead (p : Packet)
  /-- REG_READ (R76). Command that reads COUNT registers from a BAR0 offset. -/
  | regRead (p : Packet)
  /-- REG_WRITE (R76). Command that writes COUNT offset and value pairs in order. -/
  | regWrite (p : Packet)
  /-- REG_UPDATE (R76). Command that does a masked read-modify-write of one register and returns the old value. -/
  | regUpdate (p : Packet)
  /-- JOURNAL_HEAD (R75). Command that returns the journal head SEQ and head hash. -/
  | journalHead (p : Packet)
  /-- JOURNAL_READ (R76). Command that copies COUNT journal entries from a SEQ into the data buffer. -/
  | journalRead (p : Packet)
  /-- RESET (R386). Command that starts a warm, cold, tile or port reset. -/
  | reset (p : Packet)
  /-- XSITE_RESET (R460). Command that takes an expansion site's sublinks down, resets the die and runs discovery. -/
  | xsiteReset (p : Packet)
  /-- XSITE_CAP_READ (R460). Command that returns the die capability record last read. -/
  | xsiteCapRead (p : Packet)
  /-- TILE_TEST_ENTER (R482). Command that moves a tile's duties, downs its ports and resets it into test microcode. -/
  | tileTestEnter (p : Packet)
  /-- TILE_TEST_RUN (R480). Command that runs the masked self-test items on a tile in test mode. -/
  | tileTestRun (p : Packet)
  /-- TILE_TEST_EXIT (R483). Command that resets a tile back into service, optionally restoring its engine duties. -/
  | tileTestExit (p : Packet)
  /-- PORT_TRAIN (R190). Command that starts a fast or full training of a port. -/
  | portTrain (p : Packet)
  /-- PORT_LANESET (R190). Command that changes a port's lane map, width or rate by LANESET. -/
  | portLaneset (p : Packet)
  /-- PHO_COMMISSION (R124). Command that stores every monitor reading of the target as commissioned values. -/
  | phoCommission (p : Packet)
  /-- PHO_MON_READ (R139). Command that returns all monitor readings and commissioned values of a port. -/
  | phoMonRead (p : Packet)
  /-- PHO_SUBSTITUTE (R139). Command that starts substitution of a laser role by a free Substitute comb. -/
  | phoSubstitute (p : Packet)
  /-- PHO_RESTORE (R139). Command that moves a substituted role back to its own comb. -/
  | phoRestore (p : Packet)
  /-- PHO_REFMON (R139). Command that chooses the comb routed to REF_OPT_MON, or darkens it. -/
  | phoRefmon (p : Packet)
  /-- PORT_EYE_SCAN (R153). Command that counts offset-sampler mismatches over a grid of phase and voltage points. -/
  | portEyeScan (p : Packet)
  /-- PORT_PRBS (R153). Command that runs a PRBS check on masked lanes and returns error counts. -/
  | portPrbs (p : Packet)
  /-- BRIM_FENCE (R211). Command that fences a Brim link by command. -/
  | brimFence (p : Packet)
  /-- BRIM_UNFENCE (R210). Command that starts the PRBS test of a fenced Brim link before returning it to service. -/
  | brimUnfence (p : Packet)
  /-- MEM_ALLOC (R248). Command that places, zeroes and maps a new region. -/
  | memAlloc (p : Packet)
  /-- MEM_FREE (R251). Command that unmaps a region and returns its frames. -/
  | memFree (p : Packet)
  /-- MEM_MIGRATE (R252). Command that reserves destination frames and starts moving frames of a region. -/
  | memMigrate (p : Packet)
  /-- MEM_QUERY (R250). Command that returns a region's record. -/
  | memQuery (p : Packet)
  /-- MEM_POOL_STAT (R251). Command that returns free and unavailable frames per tile. -/
  | memPoolStat (p : Packet)
  /-- MEM_ATTR (R248). Command that changes the RO bit of every entry of a region. -/
  | memAttr (p : Packet)
  /-- OME_JOB_SUBMIT (R302). Command that checks, plans and accepts a matrix job. -/
  | omeJobSubmit (p : Packet)
  /-- OME_JOB_QUERY (R311). Command that returns a job's completion record. -/
  | omeJobQuery (p : Packet)
  /-- OME_JOB_CANCEL (R307). Command that stops a job at its tiles' next pass-group boundaries. -/
  | omeJobCancel (p : Packet)
  /-- OME_STAGE_LOAD (R298). Command that creates a named staging set and starts its copy. -/
  | omeStageLoad (p : Packet)
  /-- OME_STAGE_RELEASE (R311). Command that releases a named staging set. -/
  | omeStageRelease (p : Packet)
  /-- OME_STAGE_QUERY (R311). Command that returns a staging set's state. -/
  | omeStageQuery (p : Packet)
  /-- COLL_GROUP_CREATE (R338). Command that creates a collective context over a member list and tile mask. -/
  | collGroupCreate (p : Packet)
  /-- COLL_GROUP_DESTROY (R338). Command that aborts posted operations and frees a collective context. -/
  | collGroupDestroy (p : Packet)
  /-- COLL_GROUP_MODIFY (R336). Command that adds or removes members between operations. -/
  | collGroupModify (p : Packet)
  /-- COLL_GROUP_QUERY (R338). Command that returns a group's size, state and OPSEQ. -/
  | collGroupQuery (p : Packet)
  /-- COLL_OP_POST (R317). Command that queues REPEAT collective operations on a context. -/
  | collOpPost (p : Packet)
  /-- COLL_OP_QUERY (R334). Command that returns an operation's record. -/
  | collOpQuery (p : Packet)
  /-- COLL_OP_ABORT (R333). Command that ends the running and queued operations of a context. -/
  | collOpAbort (p : Packet)
  /-- STREAM_OPEN (R227). Command that sets up a stream context with Homeroom and ports. -/
  | streamOpen (p : Packet)
  /-- STREAM_CLOSE (R229). Command that closes a stream gracefully or by abort. -/
  | streamClose (p : Packet)
  /-- STREAM_QUERY (R229). Command that returns a stream's 32-byte record. -/
  | streamQuery (p : Packet)
  /-- STREAM_RESERVE_RELEASE (R236). Command that releases a reserve tile into service. -/
  | streamReserveRelease (p : Packet)
  /-- STREAM_RESERVE_RETURN (R236). Command that returns a released tile with no contexts to reserve. -/
  | streamReserveReturn (p : Packet)
  /-- FAM_MAP (R239). Command that writes an UNMAPPED or REMOTE FAM entry. -/
  | famMap (p : Packet)
  /-- FAM_READ (R239). Command that returns COUNT FAM entries. -/
  | famRead (p : Packet)
  /-- BLOCK_RUN (R360). Command that queues a Blocking run at command priority on a channel or all channels. -/
  | blockRun (p : Packet)
  /-- BLOCK_TRACE (R360). Command that runs a reference trace on a tile. -/
  | blockTrace (p : Packet)
  /-- BLOCK_RELEASE (R360). Command that runs a detained channel once and returns it to service on commit. -/
  | blockRelease (p : Packet)
  /-- BLOCK_QUERY (R360). Command that returns a channel's Blocking state. -/
  | blockQuery (p : Packet)
  /-- AGE_REPLAN_RESET (R360). Command that clears re-planned rate floors, withdrawn classes or memory rate plans. -/
  | ageReplanReset (p : Packet)
  /-- AGE_QUERY (R360). Command that returns AGE_PLAN. -/
  | ageQuery (p : Packet)
  /-- FAULT_STATUS (R420). Command that returns the fault words, latch and state of a tile or the module. -/
  | faultStatus (p : Packet)
  /-- FAULT_CLEAR (R420). Command that clears masked FSW bits, the first-source latch or tile summaries. -/
  | faultClear (p : Packet)
  /-- FAULT_RELEASE (R411). Command that takes a HELD scope into EXIT and zeroes RECOV_HOUR. -/
  | faultRelease (p : Packet)
  /-- FAULT_UNFENCE (R404). Command that lifts a CONTAIN fence of a source whose line is low. -/
  | faultUnfence (p : Packet)
  /-- FAULT_INJECT (R420). Command that asserts a fault source as its block would. -/
  | faultInject (p : Packet)
  /-- RC_READ (R420). Command that returns Report Card records from a SEQ onward. -/
  | rcRead (p : Packet)
  /-- RC_CONDENSE (R420). Command that runs a condensation and replies when it ends. -/
  | rcCondense (p : Packet)
  /-- RC_CLEAR (R420). Command that closes and discards records of the live log or flash ring. -/
  | rcClear (p : Packet)
  /-- RC_CODE_LIST (R420). Command that returns every record code with severity, shift, unit and name. -/
  | rcCodeList (p : Packet)
  /-- FW_STAGE (R472). Command that writes a signed image or manifest into the inactive slot. -/
  | fwStage (p : Packet)
  /-- FW_ACTIVATE (R473). Command that activates a staged manifest or starts the Proctor A/B switchover. -/
  | fwActivate (p : Packet)
  /-- FW_TILE_UPDATE (R475). Command that drains a tile and resets it with the staged microcode. -/
  | fwTileUpdate (p : Packet)
  /-- SEC_SVN_COMMIT (R467). Command that advances the anti-rollback fuse count. -/
  | secSvnCommit (p : Packet)
  /-- SEC_KEY_REVOKE (R462). Command that blows the KEY0 revocation fuse. -/
  | secKeyRevoke (p : Packet)
  /-- TWIN_STATUS (R444). Command that returns twin state, partner, epoch and lease ages. -/
  | twinStatus (p : Packet)
  /-- TWIN_BIND (R444). Command that stores the present partner's identity hash. -/
  | twinBind (p : Packet)
  /-- TWIN_HANDOVER (R435). Command that passes the Hall Pass to a SYNCED standby in a planned way. -/
  | twinHandover (p : Packet)
  /-- TWIN_FORCE_TAKE (R444). Command that makes this module holder when no lease traffic has arrived. -/
  | twinForceTake (p : Packet)
  /-- GANG_CFG (R444). Command that configures gang membership for the next warm reset. -/
  | gangCfg (p : Packet)
  /-- PWR_TILE_MODE (R386). Command that writes a tile's power mode and replies when the state is reached. -/
  | pwrTileMode (p : Packet)
  /-- PWR_MODULE_STANDBY (R383). Command that puts the module into M1. -/
  | pwrModuleStandby (p : Packet)
  /-- PWR_MODULE_RESUME (R383). Chain command that brings the module out of M1. -/
  | pwrModuleResume (p : Packet)
  /-- PWR_CAP_SET (R513). Command that sets the input power cap. -/
  | pwrCapSet (p : Packet)
  /-- PWR_POLICY_SET (R513). Command that sets the power policy enable and idle times. -/
  | pwrPolicySet (p : Packet)
  /-- PWR_QUERY (R513). Command that returns the power registers. -/
  | pwrQuery (p : Packet)
  /-- PROCTOR_TAKE_PACKET (R72). Proctor takes the next packet in its round over chain, twin, host queues and ports. -/
  | proctorTakePacket
  /-- COMMAND_COMPLETE (R55). A long-running command ends and its final reply is posted. -/
  | commandComplete (path : Path) (tag : BitVec 16) (meas : List Byte) (gang : Option GangReply)
  /-- QDB_SQ_TAIL_WRITE (R64). Submission tail doorbell write, checked against the free entries, that makes packets available. -/
  | qdbSqTailWrite (src : BusSrc) (q : Queue) (v : BitVec 32)
  /-- QDB_CQ_HEAD_WRITE (R64). Completion head doorbell write that frees completion entries and restarts a full ring. -/
  | qdbCqHeadWrite (src : BusSrc) (q : Queue) (v : BitVec 32)
  /-- Q_ENABLE (R63). Q_CTL.EN written 1 on a DISABLED queue; indexes zeroed and the queue runs. -/
  | qEnable (src : BusSrc) (q : Queue) (v : BitVec 32)
  /-- Q_DISABLE (R63). Q_CTL.EN written 0; no new packets and replies discarded while started commands drain. -/
  | qDisable (src : BusSrc) (q : Queue) (v : BitVec 32)
  /-- Q_DRAIN_DONE (R63). The last started command of a DRAINING queue ends and the queue becomes DISABLED. -/
  | qDrainDone (q : Queue)
  /-- CXL_IO_ERROR (R63). A CXL.io completion or buffer access fails; DMA_ERR set and the queue HALTED. -/
  | cxlIoError (q : Queue)
  /-- CXL_HOT_RESET (R374). Hot reset, link-down, FLR or PERST on a host port disables its queues. -/
  | cxlHotReset (n : Fin 2) (lost : Bool)
  /-- CXL_LINK_TRAINED (R160). A host port finishes training and CXL.mem is enabled or the port marked DEGRADED. -/
  | cxlLinkTrained (n : Fin 2) (rate : Fin 6) (width : Fin 17) (rev : Bool)
  /-- CXL_MEM_READ (R264). A host CXL.mem read resolved through the port tile's FAM cache. -/
  | cxlMemRead (n : Fin 2) (dpa : BitVec 64) (ecc : Ecc)
  /-- CXL_MEM_WRITE (R264). A host CXL.mem write resolved and made visible, or discarded. -/
  | cxlMemWrite (n : Fin 2) (dpa : BitVec 64) (bytes : List Byte)
  /-- BAR0_BAD_ACCESS (R7). A BAR0 access of wrong width or alignment completes without effect and writes a NOTICE. -/
  | bar0BadAccess (src : BusSrc) (off : BitVec 27) (write : Option (List Byte))
  /-- BAR0_REG_WRITE (R10). A BAR0 write to a register without a row of its own, applied by its access code and journaled. -/
  | bar0RegWrite (src : BusSrc) (off : BitVec 27) (v : BitVec 32)
  /-- REG_LO_READ (R8). A read of a _LO register that latches the matching _HI half. -/
  | regLoRead (src : BusSrc) (off : BitVec 27)
  /-- JRNL_HEAD_SEQ_LO_READ (R83). A read of JRNL_HEAD_SEQ_LO that latches the SEQ high half and the head hash. -/
  | jrnlHeadSeqLoRead (src : BusSrc)
  /-- SLEEPING_TILE_ACCESS (R366). BAR0 access to a non-island part of a tile in D1, D2 or reset returns 0 and writes a NOTICE. -/
  | sleepingTileAccess (src : BusSrc) (t : Tile) (rel : BitVec 20) (w : Option (BitVec 32))
  /-- NODE_CFG_WRITE (R77). A write of NODE_CFG.NODE that downs and retrains every port with the new node ID, or is refused. -/
  | nodeCfgWrite (src : BusSrc) (v : BitVec 32)
  /-- LINK_ENABLE (R183). LINK_CTL.EN written 1 on a DISABLED port; lanes relit and port DOWN. -/
  | linkEnable (src : BusSrc) (p : Port) (v : BitVec 32)
  /-- LINK_DISABLE (R183). LINK_CTL.EN written 0; port declared down and transmit lanes darkened. -/
  | linkDisable (src : BusSrc) (p : Port) (v : BitVec 32)
  /-- CROWN_DISABLE (R204). CROWN_CTL.EN written 0; transmitters silent and all the tile's planes marked dead. -/
  | crownDisable (src : BusSrc) (t : Tile) (v : BitVec 32)
  /-- OME_DISABLE (R287). OME_CTL.EN written 0; running pass discarded and the engine goes OFF. -/
  | omeDisable (src : BusSrc) (t : Tile) (v : BitVec 32)
  /-- TILE_PWR_CTL_WRITE (R377). A change of a tile's requested power mode, which wakes or sleeps the tile. -/
  | tilePwrCtlWrite (src : BusSrc) (t : Tile) (v : BitVec 32)
  /-- STRM_RING_HEAD_WRITE (R233). Consumer advances a stream's ring head, freeing slots and returning data credits. -/
  | strmRingHeadWrite (src : BusSrc) (t : Tile) (v : BitVec 32)
  /-- FFIRST_VALID_CLEAR (R405). W1C of FFIRST.VALID clears the first-source latch and its Bell time. -/
  | ffirstValidClear (scope : Scope)
  /-- JOURNAL_ENTRY_DURABLE (R82). A journal entry reaches flash and the held reply is posted. -/
  | journalEntryDurable
  /-- JOURNAL_WRITE_TIMEOUT (R82). A journal entry is not durable within 10 ms; the change is undone with ERR_FAULT and a CRIT record. -/
  | journalWriteTimeout
  /-- JOURNAL_FLASH_RECOVER (R82). Flash recovers after lost entries; a GAP entry is written and JRNL_STAT.GAP set. -/
  | journalFlashRecover
  /-- CHAIN_FRAME_RECEIVE (R68). A chain frame arrives; forwarded, dropped for CRC, or taken as COMMAND, REPLY or TWIN. -/
  | chainFrameReceive (bytes : List Byte)
  /-- ROLLCALL (R69). A ROLLCALL frame assigns or keeps this module's chain address and forwards NEXT. -/
  | rollcall (next : BitVec 8)
  /-- MCH_LINK_CHANGE (R69). MCH_IN or MCH_OUT loses and regains link, and LINK_CHANGE is sent to the head. -/
  | mchLinkChange (outSide : Bool)
  /-- CMD_PACKET_ASSEMBLED (R182). The last CMD flit of an in-band packet arrives and the packet is queued or refused. -/
  | cmdPacketAssembled (v : Via) (bytes : List Byte)
  /-- REF_LOSS (R115). Reference below -6.0 dBm for 10 ms; REF_OK clears, combs hold their trace, WARN. -/
  | refLoss (pwr : BitVec 16)
  /-- REF_RETURN (R115). Reference light returns and each tile retraces its combs. -/
  | refReturn (pwr : BitVec 16) (ofs : List (BitVec 12))
  /-- COMB_START (R118). A comb started from dark reaches stable traced lines. -/
  | combStart (t : Tile) (c : Fin 8) (found : CombStarted)
  /-- LASER_OVERTEMP (R119). Laser junction reaches 95 °C; comb stopped, Substitute invoked, CRIT. -/
  | laserOvertemp (t : Tile) (c : Fin 8) (tj : BitVec 8)
  /-- RING_RESONANCE_FOUND (R121). A ring in SEARCH finds its resonance and closes its loop. -/
  | ringResonanceFound (t : Tile) (ring : BitVec 12)
  /-- RING_SEARCH_TIMEOUT (R121). 2 ms without resonance; ring counted lost, WARN, sweep repeats. -/
  | ringSearchTimeout (t : Tile) (ring : BitVec 12)
  /-- RING_LOCK_LOST (R121). Ring error beyond capture range for 5 µs; ring returns to SEARCH. -/
  | ringLockLost (t : Tile) (ring : BitVec 12)
  /-- RING_HEADROOM_LOW (R121). Heater headroom below 5 °C; HEADROOM_LOW set and NOTICE. -/
  | ringHeadroomLow (t : Tile) (ring : BitVec 12) (head : BitVec 8)
  /-- FADE_EVALUATION (R131). Once-per-second fade check of every role acting on the fade thresholds. -/
  | fadeEvaluation (t : Tile) (readings : FadeReadings)
  /-- SUBSTITUTE_LOCKED (R132). The Substitute comb locks and the role begins moving its lanes or lines. -/
  | substituteLocked (t : Tile) (u : Fin 2)
  /-- SUBSTITUTE_LOCK_TIMEOUT (R132). Substitute not locked in 20 ms; released, marked failed, CRIT. -/
  | substituteLockTimeout (t : Tile) (u : Fin 2)
  /-- LANE_SOURCE_MOVED (R134). One lane's source move and verify completes and the lane is restored to the map. -/
  | laneSourceMoved (t : Tile) (role : Fin 6) (unit : Fin 64) (lock : Bool)
  /-- LOS_ASSERT (R128). Receive power below -20 dBm for 0.5 µs; shutter closes and beacon starts. -/
  | losAssert (p : Port)
  /-- LOS_DEASSERT (R128). Receive power rises above -16 dBm. -/
  | losDeassert (p : Port)
  /-- BEACON_WORD_RECEIVE (R129). A valid beacon word arrives; two matching words open the shutter. -/
  | beaconWordReceive (p : Port) (w : BitVec 64)
  /-- TRAINING_WORD_RECEIVE (R143). A training word with valid CRC arrives and drives stage, rate or retrain decisions. -/
  | trainingWordReceive (p : Port) (line : Lane) (w : BitVec 128)
  /-- TRAIN_STAGE_DONE (R144). A training stage reaches its exit condition and the next stage starts. -/
  | trainStageDone (p : Port) (pass : BitVec 17)
  /-- TRAIN_STAGE_TIMEOUT (R146). A stage limit is missed and the attempt fails, stepping to the next rate or DOWN. -/
  | trainStageTimeout (p : Port) (pass : BitVec 17)
  /-- RATE_HUNT_STEP (R528). No training blocks at the own rate in 4 µs; receiver hunts the other rates. -/
  | rateHuntStep (p : Port)
  /-- TRAIN_RETRY_TIMER (R146). 1 s after a failed 64 Gb/s attempt, training restarts from the rate ceiling. -/
  | trainRetryTimer (p : Port)
  /-- LANE_OFFSET_CHECK (R141). Each 1 ms the peak frequency offset sets or clears A1_BLOCKED. -/
  | laneOffsetCheck (p : Port) (ofs : List (BitVec 16))
  /-- TAP_SATURATED (R149). A tap held at its limit for 1 ms sets TAP_SAT and writes a NOTICE. -/
  | tapSaturated (p : Port) (j : Lane)
  /-- A1_ENTRY (R154). Transmit direction idle for QUIET_IDLE sends STAGE 6 and stops modulation. -/
  | a1Entry (p : Port)
  /-- KEEP_PHASE_BURST (R155). Every 1.0 µs in A1 a keep-phase burst is sent and the receiver realigns. -/
  | keepPhaseBurst (p : Port)
  /-- A1_EXIT (R156). A flit becomes ready in A1; drivers biased, wake burst sent, flits resume. -/
  | a1Exit (p : Port)
  /-- EYE_SCAN_POINT_DONE (R152). An offset-sampler dwell ends and the next scan point starts. -/
  | eyeScanPointDone (p : Port) (mism : BitVec 64)
  /-- MARGIN_SWEEP_STEP (R359). Background margin sweep measures a lane's eye for ageing. -/
  | marginSweepStep (p : Port) (j : Lane) (opening : BitVec 16)
  /-- CODEWORD_RECEIVE (R177). A codeword is decoded, its header acted on and its flit classified by sequence. -/
  | codewordReceive (v : Via) (bytes : List Byte) (onNew : Bool)
  /-- FLIT_SEND (R164). The transmitter sends the next flit: replay, sequenced, ACK or FILL. -/
  | flitSend (v : Via)
  /-- ACK_IDLE_TIMER (R170). Acknowledgement advanced and unsent for ACK_IDLE; an ACK flit is sent. -/
  | ackIdleTimer (v : Via)
  /-- REPLAY_TIMER_EXPIRY (R172). Replay timer expires and triggers a replay from TX_ACKED. -/
  | replayTimerExpiry (v : Via)
  /-- FAST_RETRAIN_DONE (R183). A fast retrain succeeds or fails; replay resumes or the port goes down. -/
  | fastRetrainDone (v : Via) (ok : Bool)
  /-- RTT_MEASURE (R178). At UP entry and every 1 s an ECHO is sent to measure RTT. -/
  | rttMeasure (v : Via)
  /-- LANESET (R188). LANESET message received; responder checks it and answers LANESET_ACK. -/
  | laneset (p : Port) (msg : List Byte)
  /-- LANESET_ACK (R188). LANESET_ACK received; the initiator switches at E_A or ends the request. -/
  | lanesetAck (p : Port) (msg : List Byte)
  /-- LANESET_BOUNDARY (R188). Flit E_A or E_B is reached and the transmit map switches. -/
  | lanesetBoundary (p : Port)
  /-- LANESET_ACK_TIMEOUT (R533). No accepted LANESET_ACK after 2 × REPLAY_T; the initiator sends CANCEL. -/
  | lanesetAckTimeout (p : Port)
  /-- LANESET_CANCEL (R533). CANCEL received; responder withdraws the request unless it has switched. -/
  | lanesetCancel (p : Port) (msg : List Byte)
  /-- LANESET_CANCEL_WINDOW_END (R533). 2 × REPLAY_T after CANCEL with no new-map decode; LANESET withdrawn, LANESET_TIMEOUT set. -/
  | lanesetCancelWindowEnd (p : Port)
  /-- ECHO (R187). ECHO received and answered with ECHO_REPLY carrying the turnaround. -/
  | echo (v : Via) (msg : List Byte)
  /-- ECHO_REPLY (R178). ECHO_REPLY received; RTT_MEAS, REPLAY_T and headroom updated. -/
  | echoReply (v : Via) (msg : List Byte) (elapsed : BitVec 32)
  /-- VERIFY (R187). VERIFY message received with a lane's PRBS error count. -/
  | verify (p : Port) (msg : List Byte)
  /-- DOZE (R379). DOZE received; the far end stops sequenced flits until AWAKE. -/
  | doze (p : Port)
  /-- AWAKE (R379). AWAKE received; sequenced flits resume. -/
  | awake (p : Port)
  /-- AWAKE_TIMEOUT (R379). AWAKE not accepted 1 ms after the first FILL; the port is declared down. -/
  | awakeTimeout (p : Port)
  /-- PORT_RESET (R373). Port reset: declared down, class K to default, epoch 0, full training. -/
  | portReset (p : Port)
  /-- CROWN_START_PULSE (R192). Clock master starts the Crown slot count on all tiles. -/
  | crownStartPulse
  /-- CROWN_SLOT (R193). At each slot boundary bursts are committed and sent per plane by the Timetable. -/
  | crownSlot (offers : List CellOffer)
  /-- CROWN_BURST_RECEIVE (R196). A burst arrives; its cells are checked, acknowledged, reordered, delivered or relayed. -/
  | crownBurstReceive (t : Tile) (plane : Fin 16) (lock : Bool) (body : List Byte)
  /-- CROWN_HOLD_EXPIRY (R200). A later cell held HOLD while the next is missing; ENAK set. -/
  | crownHoldExpiry (t : Tile) (orig : Tile) (vc : Fin 3)
  /-- CROWN_RTO_EXPIRY (R200). Oldest unacknowledged cell waited RTO; ORIG resends it directly. -/
  | crownRtoExpiry (t : Tile) (final : Tile) (vc : Fin 3)
  /-- CROWN_PROBE_DUE (R198). No burst to a destination for 64 cycles; a PROBE burst is sent. -/
  | crownProbeDue (t : Tile) (dst : Tile)
  /-- CROWN_DEAD_MAP_UPDATE (R204). Proctor changes the dead or sleep map and updates every tile's copy. -/
  | crownDeadMapUpdate (t : Tile) (tx : BitVec 16) (rx : BitVec 16) (asleep : Bool)
  /-- BRIM_FRAME_RECEIVE (R207). A Brim frame arrives, with SECDED correction, link replay and cut-through or delivery. -/
  | brimFrameReceive (t : Tile) (e : Fin 2) (bytes : List Byte) (ce : BitVec 8) (ue : BitVec 8)
  /-- BRIM_UE_LIMIT (R209). Uncorrectable beats exceed UE_LIM in the window; the link is fenced. -/
  | brimUeLimit (t : Tile) (e : Fin 2)
  /-- BRIM_TEST_DONE (R210). The 1 ms unfence PRBS test ends and the link returns to UP or stays fenced. -/
  | brimTestDone (t : Tile) (e : Fin 2) (ue : BitVec 16) (ce : BitVec 16) (farUe : BitVec 16) (farCe : BitVec 16)
  /-- STENT_STANDIN_MOVE (R31). Proctor moves a failed tile's engine duties to a free reserve tile. -/
  | stentStandinMove (t : Tile)
  /-- STREAM_DATA (R232). A STREAM_DATA TU arrives, is checked by TSN and written into the ring. -/
  | streamData (v : Via) (bytes : List Byte)
  /-- MEM_READ (R222). A MEM_READ TU is checked and executed, and MEM_READ_RSP returned. -/
  | memRead (v : Via) (bytes : List Byte) (ecc : Ecc)
  /-- MEM_WRITE (R222). A MEM_WRITE TU is checked and executed, or MEM_ERR returned. -/
  | memWrite (v : Via) (bytes : List Byte)
  /-- CREDIT (R234). A CREDIT TU arrives and newer cumulative counts are taken. -/
  | credit (v : Via) (bytes : List Byte)
  /-- CREDIT_REPORT_DUE (R234). 64 unreported credits or 1 µs after the first; a CREDIT TU is sent. -/
  | creditReportDue (h : BitVec 32)
  /-- STREAM_RETURN_HOLD (R230). Primary UP for RETURN_HOLD; an ON_ALT stream moves back to its primary. -/
  | streamReturnHold (h : BitVec 32)
  /-- STREAM_SUSPEND_TIMEOUT (R230). SUSPEND_TMO expires; the slot is freed and CLOSE_NOTICE held. -/
  | streamSuspendTimeout (h : BitVec 32)
  /-- STREAM_CLOSE_DRAINED (R230). A CLOSING stream drains or reaches 100 ms and is freed with CLOSE_NOTICE. -/
  | streamCloseDrained (h : BitVec 32)
  /-- CLOSE_NOTICE_DELIVER (R230). A port comes UP to the endpoint and held CLOSE_NOTICEs are sent. -/
  | closeNoticeDeliver (v : Via)
  /-- FAM_INVALIDATE_DONE (R218). All tiles acknowledge a FAM invalidation and the change completes. -/
  | famInvalidateDone
  /-- FAM_CACHE_MISS_FILL (R217). A FAM cache miss fetches the entry from the tile's copy. -/
  | famCacheMissFill (t : Tile) (index : BitVec 21)
  /-- FAM_COPY_LOST (R214). A FAM copy's half-stack fails; tiles switch copies and SINGLE set. -/
  | famCopyLost (c : Fin 2)
  /-- FAM_COPY_REBUILT (R214). The lost copy is rebuilt and SINGLE cleared. -/
  | famCopyRebuilt (c : Fin 2)
  /-- FRAME_ZEROED (R246). Zeroing of a new region's frames ends and its entries become LOCAL. -/
  | frameZeroed (slot : BitVec 16)
  /-- MIGRATE_PASS1_DONE (R252). First copy of a frame ends and MIGRATING is set. -/
  | migratePass1Done (t : Tile)
  /-- MIGRATE_FRAME_SWITCH (R252). Last pass ends; entry switched, held writes released, source freed. -/
  | migrateFrameSwitch (t : Tile)
  /-- PATROL_SCRUB_STEP (R257). Scrub reads a line, writes back corrections or marks poison. -/
  | patrolScrubStep (t : Tile) (ecc : Ecc)
  /-- MEMORY_UNAVAILABLE (R258). A tile's memory becomes UNAVAILABLE and its regions DEGRADED. -/
  | memoryUnavailable (t : Tile)
  /-- MEMORY_RETURN (R258). A tile's memory returns to service. -/
  | memoryReturn (t : Tile)
  /-- MEM_TEMP_SAMPLE (R391). Each 1 ms stack and package temperatures act on refresh, bandwidth and shutdown limits. -/
  | memTempSample (t : Tile) (temp : BitVec 8)
  /-- OME_PASS_START (R287). A ready pass starts on its reloaded bank. -/
  | omePassStart (t : Tile)
  /-- OME_PASS_END (R282). A pass ends; results accumulated, or discarded as bad. -/
  | omePassEnd (t : Tile) (pilot : BitVec 16) (row : BitVec 7) (bank : Fin 2) (readings : List (BitVec 12))
  /-- OME_BANK_RELOAD_DONE (R270). A bank's 8 ns weight reload completes. -/
  | omeBankReloadDone (t : Tile) (bank : Fin 2)
  /-- PILOT_LIMIT_EXCEEDED (R282). Pilot error beyond PILOT_LIM; pass marked bad, engine to REACQ. -/
  | pilotLimitExceeded (t : Tile) (pilot : BitVec 16) (row : BitVec 7) (bank : Fin 2)
  /-- PILOT_ACQUIRED (R287). Every row's pilot within limit; engine leaves ACQ or REACQ. -/
  | pilotAcquired (t : Tile)
  /-- REACQ_TIMEOUT (R282). Pilot not settled in 50 µs; engine leaves REACQ with PILOT_LOCK 0. -/
  | reacqTimeout (t : Tile)
  /-- OME_SUBSTITUTE_CHANGE (R283). Substitute row or line assignment takes effect at a pass boundary. -/
  | omeSubstituteChange (t : Tile)
  /-- OME_FAIL (R285). Detention or loss leaves the OME unable to run; state FAILED and shares move. -/
  | omeFail (t : Tile)
  /-- JOB_STAGING_DONE (R308). Staged row-blocks copied; job goes RUNNING. -/
  | jobStagingDone (origin : BitVec 16) (tag : BitVec 16)
  /-- JOB_UNIT_WRITTEN (R303). A unit's outputs are written and UNITS_DONE counted. -/
  | jobUnitWritten (origin : BitVec 16) (tag : BitVec 16) (t : Tile)
  /-- JOB_SHARES_ENDED (R308). Every tile's share ends; outputs visible, job DONE or MIRROR_WAIT. -/
  | jobSharesEnded (origin : BitVec 16) (tag : BitVec 16)
  /-- JOB_MIRROR_DONE (R310). Standby reports completion of a mirrored job and the final reply is posted. -/
  | jobMirrorDone (origin : BitVec 16) (tag : BitVec 16)
  /-- PROJECT_BATCH_WAIT (R304). PROJ_WAIT passes after a first vector and the PROJECT batch runs. -/
  | projectBatchWait (origin : BitVec 16) (tag : BitVec 16)
  /-- COLL_OP_START (R333). Earlier operations end and quotas are reserved; operation RUNNING. -/
  | collOpStart (c : BitVec 12)
  /-- COLL_DATA (R320). A COLL_DATA TU is taken when its segment is open and reduced or forwarded. -/
  | collData (v : Via) (bytes : List Byte)
  /-- COLL_ROUTE (R330). A COLL_ROUTE TU records a token's experts and gates and admits copies. -/
  | collRoute (v : Via) (bytes : List Byte)
  /-- COLL_END (R330). A COLL_END TU marks a source's or expert host's last token. -/
  | collEnd (v : Via) (bytes : List Byte)
  /-- COLL_SEGMENT_REDUCED (R321). A segment stage finishes its reduction and passes its partial or result on. -/
  | collSegmentReduced (c : BitVec 12) (seg : BitVec 32) (stage : Stage)
  /-- COLL_OP_COMPLETE (R324). Every result and COLL_DONE acknowledged; operation DONE. -/
  | collOpComplete (c : BitVec 12)
  /-- PEER_PARTIAL_RECEIVE (R332). A peer module's FP32 partial arrives as one more contribution. -/
  | peerPartialReceive (v : Via) (bytes : List Byte) (digestOk : Bool)
  /-- BLOCK_TEMP_EVALUATION (R343). Every 100 µs the tile temperature queues channels beyond DT. -/
  | blockTempEvaluation (t : Tile) (avg : BitVec 16)
  /-- BLOCK_SETTLE_TIMEOUT (R344). Temperature unsettled 1 ms after trigger; the run starts anyway. -/
  | blockSettleTimeout (t : Tile)
  /-- BLOCK_TIMETABLE_DUE (R345). A channel's Blocking Timetable interval lapses and it is queued. -/
  | blockTimetableDue (t : Tile) (chan : BitVec 16)
  /-- BLOCK_RUN_START (R347). A run slot takes its next entry by priority and starts the run. -/
  | blockRunStart (t : Tile) (slot : Fin 5)
  /-- BLOCK_RUN_END (R349). A run ends; the shadow is checked and committed or rejected. -/
  | blockRunEnd (t : Tile) (chan : BitVec 16) (found : BlkFound)
  /-- BLOCK_RUN_ABORT (R351). An outside event aborts a run; shadow discarded and channel requeued. -/
  | blockRunAbort (t : Tile) (chan : BitVec 16)
  /-- LANE_RUN_REFUSED (R353). Far end refuses a lane run's LANESET; the run waits and restarts. -/
  | laneRunRefused (p : Port)
  /-- REFERENCE_TRACE_DUE (R356). Start-up, REF_INT, 4 × DT or REF_OK return queues a reference trace. -/
  | referenceTraceDue (t : Tile)
  /-- REFERENCE_TRACE_END (R357). A trace ends; committed, or a failure counted with CRIT actions at three. -/
  | referenceTraceEnd (t : Tile) (found : TraceFound)
  /-- AGEING_EVALUATION (R359). Ageing measures cross thresholds and margins are re-planned. -/
  | ageingEvaluation (t : Tile) (m : AgeMeasure)
  /-- REFCLK_LOSS (R363). No REFCLK edge for 100 ns; PLL holdover, Bell on oscillator, WARN. -/
  | refclkLoss
  /-- REFCLK_RETURN (R363). REFCLK returns; PLL relocks and HOLDOVER clears. -/
  | refclkReturn (t00 : Bool) (t47 : Bool)
  /-- CDC_TIMEOUT (R365). A crossing handshake is abandoned after 64 Bell ticks. -/
  | cdcTimeout (t : Tile)
  /-- STRAP_SAMPLE (R367). Straps sampled at the first MRESET_N rise and journaled. -/
  | strapSample (straps : BitVec 8)
  /-- POWER_ON (R369). VIN rises through 50 V; power-on sequence runs to PROCTOR_READY. -/
  | powerOn (a : Bool) (b : Bool)
  /-- PROCTOR_READY (R369). Primary CXL port trained; the Proctor takes packets from all paths. -/
  | proctorReady
  /-- MRESET_N_LOW (R368). MRESET_N low for 10 µs starts a cold reset. -/
  | mresetNLow
  /-- COLD_RESET (R370). Steps 5 to 10 of power-on run with rails up; DRAM reinitialised. -/
  | coldReset
  /-- WARM_RESET (R371). Warm reset: packets stop, DRAM self-refresh, tiles reset, firmware reloaded. -/
  | warmReset
  /-- TILE_RESET (R372). Tile reset: ports down, jobs end, memory UNAVAILABLE, tile restarted. -/
  | tileReset (t : Tile)
  /-- D1_ENTRY (R378). A tile enters D1 once passes, runs, migrations and port dozes allow. -/
  | d1Entry (t : Tile)
  /-- D1_ENTRY_ABANDON (R378). D1 conditions not met in 100 µs; entry abandoned and AWAKE sent. -/
  | d1EntryAbandon (t : Tile)
  /-- PORT_ACTIVITY_WAKE (R379). Modulation over 200 ns on a dozed port raises a wake. -/
  | portActivityWake (p : Port)
  /-- D1_EXIT (R380). Wake request; clocks, combs and rings return and AWAKE is sent. -/
  | d1Exit (t : Tile)
  /-- D2_ENTRY (R381). A tile downs its ports, darkens combs and power-gates, or is refused. -/
  | d2Entry (t : Tile)
  /-- D2_EXIT (R382). A D2 tile restores state, relocks, traces and returns to A0. -/
  | d2Exit (t : Tile)
  /-- M1_EXIT (R383). Rows leave D2 one at a time and the primary CXL port trains. -/
  | m1Exit (row : Fin 4)
  /-- TJ_SAMPLE (R389). Every 10 µs diode readings set TJ and act on the thermal thresholds. -/
  | tjSample (t : Tile) (diodes : List (BitVec 16)) (ring : Option (BitVec 16))
  /-- THERMTRIP (R390). A tile at 110 °C drives THERMTRIP_N and powers the module down. -/
  | thermtrip (t : Tile)
  /-- THROTTLE_LOOP_TICK (R392). Every 1 ms OME and Crown thermal duties step down, up or hold. -/
  | throttleLoopTick (t : Tile)
  /-- REMOTE_DIODE_UPDATE (R396). Every 100 ms a remote-diode channel is read and checked against limits. -/
  | remoteDiodeUpdate (n : Fin 8) (v : BitVec 16) (open_ : Bool) (short : Bool)
  /-- COOLANT_CHECK (R398). Every 1 s inlet and rise are checked and the power ceiling adjusted. -/
  | coolantCheck
  /-- FAULT_SOURCE_ASSERT (R403). A fault line rises; FSW, latch and summary set and the severity's reaction acts. -/
  | faultSourceAssert (scope : Scope) (bit : BitVec 6) (hold : Bool)
  /-- SAFE_ENTERED (R409). REACT window ends; Proctor downs ports, ends jobs, writes CRIT, condenses. -/
  | safeEntered (scope : Scope)
  /-- QUIET_TIMER_EXPIRY (R410). QUIET reached; scope enters EXIT, or HELD at RECOV_MAX. -/
  | quietTimerExpiry (scope : Scope)
  /-- FAULT_RECOVERY_DONE (R410). Fault-recovery reset ends; scope NORMAL, FAULT_N released, RECOV_CNT up. -/
  | faultRecoveryDone (scope : Scope)
  /-- CONDENSATION_DUE (R419). CONDENSE period lapses and closed records are copied to flash. -/
  | condensationDue
  /-- CONDENSATION_DONE (R419). A condensation finishes writing to flash. -/
  | condensationDone
  /-- ISLAND_BUFFER_COPY (R418). Clock-master LPDDR5X returns and island records are copied to the live log. -/
  | islandBufferCopy
  /-- PAIR_HELLO (R426). PAIR_HELLO received and the pairing checks made. -/
  | pairHello (via : TwinPath) (h : PairHello)
  /-- PAIR_HELLO_RESEND (R426). Every 100 ms until paired PAIR_HELLO is resent on the chain. -/
  | pairHelloResend
  /-- PARTNER_WAIT_TIMEOUT (R427). No partner seen 1 s after PROCTOR_READY; home-active becomes HOLDER_ALONE. -/
  | partnerWaitTimeout
  /-- LEASE_RENEWAL_DUE (R428). Every 100 µs the holder sends LEASE on every path. -/
  | leaseRenewalDue
  /-- LEASE (R428). LEASE received; standby renews the lease and answers LEASE_ACK. -/
  | lease (via : TwinPath) (epoch : BitVec 64) (bell : BitVec 64) (leaseT : BitVec 32) (mseq : BitVec 64) (health : BitVec 8)
  /-- LEASE_ACK (R432). LEASE_ACK received; holder's fence timer renewed. -/
  | leaseAck (via : TwinPath) (epoch : BitVec 64) (bell : BitVec 64) (mseq : BitVec 64)
  /-- RELEASE (R434). RELEASE received; the SYNCED standby takes the Hall Pass. -/
  | release (via : TwinPath) (epoch : BitVec 64) (mseq : BitVec 64) (reason : BitVec 8)
  /-- LEASE_EXPIRY (R431). No LEASE for LEASE_T + 100 µs; a SYNCED standby takes over. -/
  | leaseExpiry
  /-- SELF_FENCE (R432). No LEASE_ACK for LEASE_T; the holder fences. -/
  | selfFence
  /-- SELF_DIAGNOSIS_FAIL (R433). Holder's self-diagnosis fails and RELEASE is sent. -/
  | selfDiagnosisFail
  /-- LEASE_PATH_LOSS (R430). One path without LEASE for 1 ms; TWIN_PATH asserted. -/
  | leasePathLoss
  /-- HOLDER_NOTICE (R436). Non-holder answers a TU for PAIR_NODE with HOLDER_NOTICE. -/
  | holderNotice (v : Via) (bytes : List Byte)
  /-- MIRROR (R438). Standby executes a MIRROR record in MSEQ order, or enters RESYNC on a break. -/
  | mirror (p : Port) (bytes : List Byte)
  /-- MIRROR_ACK (R439). MIRROR_ACK received; held completions released. -/
  | mirrorAck (p : Port) (bytes : List Byte)
  /-- MIRROR_ACK_DUE (R438). 64 records or 1 µs; standby sends MIRROR_ACK. -/
  | mirrorAckDue (t : Tile)
  /-- TWIN_PORTS_UNREACHABLE (R438). No twin port for 200 µs with chain ACKs; holder HOLDER_ALONE. -/
  | twinPortsUnreachable
  /-- RESYNC_COMPLETE (R440). Every frame sent and acknowledged; standby SYNCED. -/
  | resyncComplete
  /-- REVERT_HOLD_EXPIRY (R442). Home-active SYNCED for REVERT_HOLD sends RELEASE reason 2. -/
  | revertHoldExpiry
  /-- SITE_DISCOVERY (R451). Site rails raised, die released, capability read, admission checked, trained. -/
  | siteDiscovery (n : Fin 2) (reads : List (List Byte)) (train : SiteTrain)
  /-- SIDEBAND_TIMEOUT (R451). No sideband answer by 50 ms; site EMPTY, rails off. -/
  | sidebandTimeout (n : Fin 2)
  /-- UCIE_WIDTH_DEGRADE (R454). A module degrades to ×32 in service and the sublink fast-retrains. -/
  | ucieWidthDegrade (n : Fin 2) (k : Fin 4)
  /-- DIE_TEMP_REPORT (R458). Die temperature report acts on warn, throttle and trip thresholds. -/
  | dieTempReport (n : Fin 2) (temp : BitVec 8)
  /-- DIE_THROTTLE_STEP (R458). Every 10 ms at T_THROTTLE the die power limit drops by 25 % of P_MAX. -/
  | dieThrottleStep (n : Fin 2)
  /-- DIE_TEMP_REPORT_TIMEOUT (R458). No die temperature report for 10 ms; Xn_FAIL. -/
  | dieTempReportTimeout (n : Fin 2)
  /-- SITE_POWER_SAMPLE (R457). Every 10 µs site power is checked against limits. -/
  | sitePowerSample (n : Fin 2) (p : BitVec 16)
  /-- BOOT_LOAD (R466). ROM loads and verifies the Proctor image by boot strap. -/
  | bootLoad (chain : List Byte)
  /-- TRIAL_EXPIRY (R474). 10 min in TRIAL without fallback; the slot becomes VALID. -/
  | trialExpiry
  /-- TRIAL_BOOT_FAIL (R466). TRIAL slot fails PROCTOR_READY or raises PROCTOR_WDT; marked BAD, other slot booted. -/
  | trialBootFail
  /-- SWITCHOVER_DONE (R473). New Proctor restored; SWITCHOVER cleared and held packets taken. -/
  | switchoverDone
  /-- LEAF_TREE_BUILT (R468). Background build of the next identity bottom tree completes. -/
  | leafTreeBuilt
  /-- BLADE_BREAKER (R500). Blade overcurrent opens its switch. -/
  | bladeBreaker (x : Fin 2)
  /-- FEED_LOST (R500). A blade below 48.0 V counts as lost. -/
  | feedLost (x : Fin 2)
  /-- OV_TRIP (R501). VIN above 66 V opens both switches and latches the trip. -/
  | ovTrip
  /-- OV_RECOVERY (R501). VIN in range for 100 ms; module starts as power-on. -/
  | ovRecovery (a : Bool) (b : Bool)
  /-- CONVERTER_FAIL (R506). A stage-1 converter fails; ceiling lowered, or SAFE on a second. -/
  | converterFail (k : Fin 4)
  /-- VIN_LOW (R402). VIN below 52 V for 1 ms asserts VIN_LOW. -/
  | vinLow
  /-- CEILING_LOOP_TICK (R508). Every 1 ms input power is compared with the ceiling and one step taken, undone or held. -/
  | ceilingLoopTick (va : BitVec 16) (ia : BitVec 16) (vb : BitVec 16) (ib : BitVec 16) (pin : BitVec 16) (vbus : BitVec 16) (pbus : BitVec 16)
  /-- POLICY_IDLE_D1 (R510). A POLICY tile idle for D1_IDLE is requested into D1. -/
  | policyIdleD1 (t : Tile)
  /-- POLICY_IDLE_D2 (R510). A POLICY tile idle for D2_IDLE is requested into D2. -/
  | policyIdleD2 (t : Tile)
  /-- PROCTOR_WDT (R402). Watchdog not serviced for 100 ms; Proctor restarted. -/
  | proctorWdt
  /-- FAULT_SOURCE_DEASSERT (R410). A fault source's error line falls, which re-arms the source, updates FLVL/MFLVL and starts the scope's QUIET timer when no SAFE source remains high. -/
  | faultSourceDeassert (scope : Scope) (bit : BitVec 6)
  /-- FEED_RETURN (R500). A blade's VIN returns to 48.0 V or above; its switch closes, FEED_x_OK reads 1 and the single-feed ceiling is lifted. -/
  | feedReturn (x : Fin 2)
  /-- REFERENCE_TRACE_CROWN_END (R340). 0.4 ms into a reference trace the tile's Crown transmitters resume and CROWN_STAT leaves BYPASS while the OME stays in TRACE. -/
  | referenceTraceCrownEnd (t : Tile)
  deriving DecidableEq, Repr

end Sys2Proof
end

