-- ==== Sys2Proof/Decode.lean ====
section
/-! DEFINITION. Decode.lean: the block has no instruction decoder: no row of the opcode table gives its command any bits. -/

namespace Sys2Proof

/-- The command that a word spells by the table's bits: no row of the table gives bits, so no word spells one. -/
def decodeTableWord (nbits w : Nat) : Option Instr :=
  let _ := nbits
  let _ := w
  none

end Sys2Proof
end

