-- ==== Sys2Proof/Config.lean ====
section
/-! DEFINITION. Config.lean: what the spec leaves open, as constants with no body. -/

namespace Sys2Proof

/-- The n-th value that the spec leaves open (assumption 1). No body: nothing can be proved of it. -/
opaque Config.freeValue : Nat → BitVec 64

/-- The number n of a chapter's record code 0x1000 + group × 0x0100 + n (R415), by the model's own index of the event
(assumption 5). -/
opaque Config.recordNumber : Nat → Nat → BitVec 8

/-- HSHIFT of a chapter's record code (R416), which the Proctor image fixes (assumption 5). -/
opaque Config.recordShift : Nat → Nat → BitVec 5

/-- Unit and name of a record code in RC_CODE_LIST (R420): 44 bytes, by code (assumption 5). -/
opaque Config.recordName : Nat → Nat → BitVec 8

/-- Does the HSS/LMS signature over an object verify against a key (R461 to R465)? By key index and the object's bytes
(assumption 6). -/
opaque Config.signatureOk : Nat → List Byte → Bool

/-- The FP8 E5M2 code that a NaN result takes (R325 states none; assumption 7). -/
opaque Config.e5m2NaN : BitVec 8

/-- Measurement of the factory's images, by kind and byte: no section gives their contents (assumption 8). -/
opaque Config.factoryDigest : Nat → Nat → BitVec 8

/-- The identity key's signature with a leaf over a message, by byte (assumption 6). -/
opaque Config.identitySig : Nat → List Byte → Nat → BitVec 8

/-- What the identity certificate holds beside its version, serial and lengths (R463), by byte (assumption 8). -/
opaque Config.certificate : Nat → BitVec 8

/-- The commissioned reading of a monitor point that stands until the first PHO_COMMISSION (R124), by tile and monitor point: no
section gives the factory's values (assumption 8). -/
opaque Config.factoryLevel : Nat → Nat → BitVec 16

/-- The commissioned bias of a comb that stands until then, by tile and comb. -/
opaque Config.factoryBias : Nat → Nat → BitVec 16

/-- Number of rings of a tile (RING_SUM): no section gives it (assumption 8). -/
opaque Config.ringCount : Nat → BitVec 12

/-- Is a die of a vendor, type and revision in the qualified list of a package manifest (R453)? No section lays the list out;
the empty manifest stands for the factory's (assumption 8). -/
opaque Config.dieListed : List Byte → Nat → Nat → Nat → Bool

/-- Is a firmware digest the one that a manifest lists for a die (R453)? -/
opaque Config.dieFirmware : List Byte → Nat → Nat → Nat → List Byte → Bool

end Sys2Proof
end

