-- ==== Sys2Proof/Machine/Float.lean ====
section
/-! DEFINITION. Machine/Float.lean: the number formats of the engines (R272 to R276, R293, R325, R535): exact dyadic
values, binary32 with round to nearest even, BF16 and FP8, and the OME block conversion. -/

namespace Sys2Proof.Machine

/-- An exact value: num × 2^exp. -/
structure Dy where
  num : Int
  exp : Int
  deriving DecidableEq, Repr

/-- A decoded value: not a number, an infinity (negative or not), or an exact value. -/
inductive Num where
  | nan
  | inf (neg : Bool)
  | fin (d : Dy)
  deriving DecidableEq, Repr

/-- Exact product. -/
def Dy.mul (a b : Dy) : Dy := ⟨a.num * b.num, a.exp + b.exp⟩

/-- Exact sum. -/
def Dy.add (a b : Dy) : Dy :=
  let e := min a.exp b.exp
  ⟨a.num * (2 : Int) ^ (a.exp - e).toNat + b.num * (2 : Int) ^ (b.exp - e).toNat, e⟩

/-- Is |a| below |b|? -/
def Dy.absLt (a b : Dy) : Bool :=
  let e := min a.exp b.exp
  decide (a.num.natAbs * 2 ^ (a.exp - e).toNat < b.num.natAbs * 2 ^ (b.exp - e).toNat)

/-- a ≤ b. -/
def Dy.le (a b : Dy) : Bool := decide ((a.add ⟨-b.num, b.exp⟩).num ≤ 0)

/-- floor(log2 |a|) of a value that is not 0. -/
def Dy.log2 (a : Dy) : Int := (Nat.log2 a.num.natAbs : Int) + a.exp

/-- n / 2^k rounded to the nearest integer, ties to even; n × 2^(−k) for k ≤ 0. -/
def roundShift (n : Nat) (k : Int) : Nat :=
  if k ≤ 0 then n * 2 ^ (-k).toNat
  else
    let d := 2 ^ k.toNat
    let q := n / d
    let r := n % d
    if d < 2 * r || (2 * r == d && q % 2 == 1) then q + 1 else q

/-- An exact value rounded to the nearest integer, ties to even (RNE of R274). -/
def Dy.rne (a : Dy) : Int :=
  let m := roundShift a.num.natAbs (-a.exp)
  if a.num < 0 then -(m : Int) else (m : Int)

/-- A binary code with `ebits` exponent bits, bias and `mbits` fraction bits, rounded to nearest even with subnormals;
the answer is exponent and fraction together, `none` where the rounded value is beyond the largest exponent `emax`. -/
def encodeMag (mbits : Nat) (bias emax : Nat) (a : Dy) : Option Nat :=
  let n := a.num.natAbs
  if n = 0 then some 0
  else
    let e := a.log2
    if e < 1 - (bias : Int) then
      some (roundShift n (1 - (bias : Int) - mbits - a.exp))
    else
      let q := roundShift n (e - mbits - a.exp)
      let code : Nat := ((e + (bias : Int)).toNat - 1) * 2 ^ mbits + q
      if emax * 2 ^ mbits ≤ code then none else some code

/-- The quiet NaN of R274 and R325. -/
def f32NaN : Nat := 0x7FC00000

/-- The binary32 code of a decoded value, round to nearest even. -/
def f32Of : Num → Nat
  | .nan => f32NaN
  | .inf neg => if neg then 0xFF800000 else 0x7F800000
  | .fin a =>
    let s : Nat := if a.num < 0 then 0x80000000 else 0
    match encodeMag 23 127 255 a with
    | some c => s + c
    | none => s + 0x7F800000

/-- A binary32 code decoded. -/
def f32Num (w : Nat) : Num :=
  let neg := decide (2 ^ 31 ≤ w)
  let e : Nat := w / 2 ^ 23 % 256
  let f : Nat := w % 2 ^ 23
  let sg : Nat → Int := fun n => if neg then -(n : Int) else (n : Int)
  if e = 255 then (if f = 0 then .inf neg else .nan)
  else if e = 0 then .fin ⟨sg f, -149⟩
  else .fin ⟨sg (f + 2 ^ 23), (e : Int) - 150⟩

/-- IEEE binary32 addition, round to nearest even (R276, R325). -/
def f32Add (a b : Nat) : Nat :=
  match f32Num a, f32Num b with
  | .nan, _ => f32NaN
  | _, .nan => f32NaN
  | .inf x, .inf y => if x = y then f32Of (.inf x) else f32NaN
  | .inf x, _ => f32Of (.inf x)
  | _, .inf y => f32Of (.inf y)
  | .fin x, .fin y =>
    let z := x.add y
    if z.num = 0 then (if 2 ^ 31 ≤ a && 2 ^ 31 ≤ b then 0x80000000 else 0) else f32Of (.fin z)

/-- IEEE maximum (`mx`) or minimum of two binary32 codes; a NaN gives the quiet NaN (R325). -/
def f32Pick (mx : Bool) (a b : Nat) : Nat :=
  match f32Num a, f32Num b with
  | .nan, _ => f32NaN
  | _, .nan => f32NaN
  | x, y =>
    let le := match x, y with
      | .inf n, _ => n
      | _, .inf n => !n
      | .fin u, .fin v => if u.num = 0 && v.num = 0 then decide (2 ^ 31 ≤ a) else u.le v
      | _, _ => false
    if le == mx then b else a

/-- A row result in binary32 (R276): beyond the range ±infinity, below the normal range 0. -/
def f32Row (a : Dy) : Nat := if a.num = 0 || a.log2 < -126 then 0 else f32Of (.fin a)

/-- A BF16 result (R535): 8 significant bits to nearest even, zero with its sign where that is below the normal range,
infinity beyond the range. -/
def bf16Of (w : Nat) : Nat :=
  let s : Nat := if 2 ^ 31 ≤ w then 0x8000 else 0
  match f32Num w with
  | .nan => 0x7FC0
  | .inf _ => s + 0x7F80
  | .fin a =>
    let q := roundShift a.num.natAbs (a.log2 - 7 - a.exp)
    let code : Int := (a.log2 + 126) * 128 + q
    if a.num = 0 || code < 128 then s
    else if 0x7F80 ≤ code then s + 0x7F80
    else s + code.toNat

/-- An FP8 E4M3 result: ±448 beyond the range (R325). -/
def e4m3Of (w : Nat) : Nat :=
  match f32Num w with
  | .nan => 0x7F
  | .inf neg => if neg then 0xFE else 0x7E
  | .fin a =>
    let s : Nat := if 2 ^ 31 ≤ w then 0x80 else 0
    match encodeMag 3 7 16 a with
    | none => s + 0x7E
    | some c => if c = 0x7F then s + 0x7E else s + c

/-- An FP8 E5M2 result: ±infinity beyond the range (R325). -/
def e5m2Of (w : Nat) : Nat :=
  match f32Num w with
  | .nan => Config.e5m2NaN.toNat
  | .inf neg => if neg then 0xFC else 0x7C
  | .fin a =>
    let s : Nat := if 2 ^ 31 ≤ w then 0x80 else 0
    match encodeMag 2 15 31 a with
    | none => s + 0x7C
    | some c => s + c

/-- FP8 E4M3, subnormals decoded (R273). -/
def e4m3Num (b : Nat) : Num :=
  let e : Nat := b / 8 % 16
  let m : Nat := b % 8
  let sg : Nat → Int := fun n => if 0x80 ≤ b then -(n : Int) else (n : Int)
  if e = 15 && m = 7 then .nan
  else if e = 0 then .fin ⟨sg m, -9⟩
  else .fin ⟨sg (8 + m), (e : Int) - 10⟩

/-- FP8 E5M2, subnormals decoded (R273). -/
def e5m2Num (b : Nat) : Num :=
  let e : Nat := b / 4 % 32
  let m : Nat := b % 4
  let neg := decide (0x80 ≤ b)
  let sg : Nat → Int := fun n => if neg then -(n : Int) else (n : Int)
  if e = 31 then (if m = 0 then .inf neg else .nan)
  else if e = 0 then .fin ⟨sg m, -16⟩
  else .fin ⟨sg (4 + m), (e : Int) - 17⟩

/-- BF16, subnormals taken as 0 (R273). -/
def bf16Num (w : Nat) : Num := if w / 2 ^ 7 % 256 = 0 then .fin ⟨0, 0⟩ else f32Num (w * 2 ^ 16)

/-- A value times an exact scale. -/
def Num.scale (d : Dy) : Num → Num
  | .fin a => .fin (a.mul d)
  | x => x

/-- A value times a scale that may itself be special. -/
def Num.scaleBy (s : Num) (x : Num) : Num :=
  match s with
  | .fin d => x.scale d
  | _ => .nan

/-- E8M0: 2^(b − 127); 0xFF is NaN (R273). -/
def e8m0Num (b : Nat) : Num := if b = 0xFF then .nan else .fin ⟨1, (b : Int) - 127⟩

/-- Is a format code of R293 an MX format? -/
def isMx (fmt : Nat) : Bool := fmt == 3 || fmt == 4 || fmt == 5

/-- Packed bytes of `k` elements (R293). -/
def packedLen (fmt k : Nat) : Nat := if fmt = 6 then 2 * k else if isMx fmt then k / 32 * 33 else k

/-- The 32 elements of block `j` of a packed row or vector, with scales applied; elements beyond K are 0 (R289). -/
def unpackBlock (fmt scale k : Nat) (row : List Byte) (j : Nat) : List Num :=
  (List.range 32).map (fun i =>
    if k ≤ 32 * j + i then .fin ⟨0, 0⟩
    else
      let one := fun (o : Nat) => leAt row o 1
      match fmt with
      | 0 => e4m3Num (one (32 * j + i))
      | 1 => e5m2Num (one (32 * j + i))
      | 2 => Num.scaleBy (f32Num scale) (.fin ⟨signedOf 8 (one (32 * j + i)), 0⟩)
      | 3 => Num.scaleBy (e8m0Num (one (33 * j))) (e4m3Num (one (33 * j + 1 + i)))
      | 4 => Num.scaleBy (e8m0Num (one (33 * j))) (e5m2Num (one (33 * j + 1 + i)))
      | 5 => Num.scaleBy (e8m0Num (one (33 * j))) (.fin ⟨signedOf 8 (one (33 * j + 1 + i)), -6⟩)
      | _ => bf16Num (leAt row (2 * (32 * j + i)) 2))

/-- A block in the OME format (R272). -/
structure OmeBlk where
  exp : Nat
  hi : List Int
  lo : List Int
  nonfinite : Bool
  deriving DecidableEq, Repr

/-- clamp(v, −31, 31). -/
def clamp31 (v : Int) : Int := max (-31) (min 31 v)

/-- CONVERT_BLOCK of R274. -/
def convertBlock (x : List Num) : OmeBlk :=
  let zero : OmeBlk := { exp := 0, hi := List.replicate 32 0, lo := List.replicate 32 0, nonfinite := false }
  let ds := x.filterMap (fun v => match v with | .fin d => some d | _ => none)
  if ds.length ≠ x.length then { zero with nonfinite := true }
  else
    let a := ds.foldl (fun m d => if Dy.absLt m d then d else m) ⟨0, 0⟩
    if a.num = 0 then zero
    else if 128 ≤ a.log2 then { zero with nonfinite := true }
    else if a.log2 < -126 then zero
    else
      let e := a.log2 + 1
      let t := ds.map (fun d => (⟨d.num, d.exp + 5 - e⟩ : Dy))
      let hi := t.map (fun d => clamp31 d.rne)
      { exp := (e + 127).toNat, hi := hi,
        lo := (t.zip hi).map (fun x => clamp31 (Dy.rne (let r := x.1.add ⟨-x.2, 0⟩; ⟨r.num, r.exp + 5⟩))),
        nonfinite := false }

/-- The row sum of R275 in product units. -/
def rowSum (w x : List Int) : Int := ((w.zip x).map (fun p => p.1 * p.2)).foldl (· + ·) 0

/-- Does a row sum exceed the full scale of a RANGE (R275)? -/
def saturates (range : Nat) (s : Int) : Bool := decide (127 * 2 ^ (8 - range) < s.natAbs)

/-- The reading q of a row: held at ±2,032 where the sum saturates, else what the digitiser gave, limited to ±2,032. -/
def readingOf (range : Nat) (s given : Int) : Int :=
  if saturates range s then (if s < 0 then -2032 else 2032) else max (-2032) (min 2032 given)

end Sys2Proof.Machine
end

