-- ==== Sys2Proof/Machine/Codec.lean ====
section
/-! DEFINITION. Machine/Codec.lean: the checks and digests the spec names: CRC-16 (R22), CRC-32C (R47), CRC-64 (R165),
the Reed–Solomon code (R166) and SHA-256 (R80). -/

namespace Sys2Proof.Machine

/-- The bits of a byte, most significant first. -/
def byteBits (b : Byte) : List Bool := (List.range 8).map (fun i => b.getLsbD (7 - i))

/-- One step of an unreflected CRC of width `w`. -/
def crcStep (w poly : Nat) (r : Nat) (bit : Bool) : Nat :=
  let top := (r / 2 ^ (w - 1)) % 2 == 1
  let r' := (2 * r) % 2 ^ w
  if top != bit then r' ^^^ poly else r'

/-- CRC-16 over bits, most significant first (R22). -/
def crc16Bits (bits : List Bool) : Nat := bits.foldl (crcStep 16 0x1021) 0xFFFF

/-- CRC-16 over bytes in ascending order (R22). -/
def crc16 (bs : List Byte) : Nat := crc16Bits (bs.flatMap byteBits)

/-- The bits `[hi:lo]` of a number, most significant first. -/
def bitsDown (v hi lo : Nat) : List Bool := (List.range (hi + 1 - lo)).map (fun i => v.testBit (hi - i))

/-- One reflected CRC-32C step. -/
def crc32cBit (r : Nat) : Nat := if r % 2 == 1 then (r / 2) ^^^ 0x82F63B78 else r / 2

/-- One byte of CRC-32C. -/
def crc32cByte (r : Nat) (b : Byte) : Nat := Nat.repeat crc32cBit 8 (r ^^^ b.toNat)

/-- CRC-32C of RFC 3720 (R47). -/
def crc32c (bs : List Byte) : Nat := (bs.foldl crc32cByte 0xFFFFFFFF) ^^^ 0xFFFFFFFF

/-- CRC-64 with the ECMA-182 polynomial (R165). -/
def crc64 (bs : List Byte) : Nat :=
  ((bs.flatMap byteBits).foldl (crcStep 64 0x42F0E1EBA9EA3693) 0xFFFFFFFFFFFFFFFF) ^^^ 0xFFFFFFFFFFFFFFFF

/-! ### Reed–Solomon over GF(2^8) -/

/-- Multiply by α = 0x02 modulo x^8+x^4+x^3+x^2+1 (R166). -/
def gfDouble (a : Nat) : Nat := let b := 2 * a; if 256 ≤ b then b ^^^ 0x11D else b

/-- Product in GF(2^8), by shift and add over the 8 bits of `b`. -/
def gfMul (a b : Nat) : Nat :=
  ((List.range 8).foldl (fun (acc : Nat × Nat) i =>
    (if b.testBit i then acc.1 ^^^ acc.2 else acc.1, gfDouble acc.2)) (0, a)).1

/-- α^n. -/
def gfExp (n : Nat) : Nat := Nat.repeat gfDouble (n % 255) 1

/-- a^n in GF(2^8) by repeated product, for small `n`. -/
def gfPow (a n : Nat) : Nat := Nat.repeat (gfMul a) n 1

/-- Multiplicative inverse, a^254; 0 for 0. -/
def gfInv (a : Nat) : Nat :=
  let a2 := gfMul a a
  let a4 := gfMul a2 a2
  let a8 := gfMul a4 a4
  let a16 := gfMul a8 a8
  let a32 := gfMul a16 a16
  let a64 := gfMul a32 a32
  let a128 := gfMul a64 a64
  gfMul a128 (gfMul a64 (gfMul a32 (gfMul a16 (gfMul a8 (gfMul a4 a2)))))

/-- The generator polynomial (x−α^0)…(x−α^15), highest coefficient first, without its leading 1 (R166). -/
def rsGen : List Nat :=
  ((List.range 16).foldl (fun (g : List Nat) i =>
    let r := gfExp i
    List.zipWith (· ^^^ ·) (g ++ [0]) (0 :: g.map (gfMul r))) [1]).drop 1

/-- The 16 check bytes of a message, message byte 0 being the highest coefficient (R166). -/
def rsCheck (msg : List Byte) : List Byte :=
  let g := rsGen
  let rem := msg.foldl (fun (r : List Nat) b =>
    let f := b.toNat ^^^ r.headD 0
    List.zipWith (· ^^^ ·) (r.drop 1 ++ [0]) (g.map (gfMul f))) (List.replicate 16 0)
  rem.map (BitVec.ofNat 8)

/-- Value of a polynomial (highest coefficient first) at a point. -/
def gfEval (p : List Nat) (x : Nat) : Nat := p.foldl (fun acc c => gfMul acc x ^^^ c) 0

/-- The 16 syndromes of a codeword. -/
def rsSyn (cw : List Byte) : List Nat :=
  let p := cw.map BitVec.toNat
  (List.range 16).map (fun i => gfEval p (gfExp i))

/-- Berlekamp–Massey: the error locator, lowest coefficient first, from the syndromes. -/
def rsLocator (syn : List Nat) : List Nat :=
  let init : List Nat × List Nat × Nat × Nat × Nat := ([1], [1], 0, 1, 1)
  let r := (List.range 16).foldl (fun (st : List Nat × List Nat × Nat × Nat × Nat) n =>
    let (c, b, l, m, bb) := st
    let d := (List.range (l + 1)).foldl (fun acc i => acc ^^^ gfMul (c.getD i 0) (if i ≤ n then syn.getD (n - i) 0 else 0)) 0
    if d = 0 then (c, b, l, m + 1, bb)
    else
      let coef := gfMul d (gfInv bb)
      let sh := List.replicate m 0 ++ b.map (gfMul coef)
      let len := max c.length sh.length
      let c' := List.zipWith (· ^^^ ·) (c ++ List.replicate (len - c.length) 0) (sh ++ List.replicate (len - sh.length) 0)
      if 2 * l ≤ n then (c', c, n + 1 - l, 1, d) else (c', b, l, m + 1, bb)) init
  r.1.take (r.2.2.1 + 1)

/-- One choice from each list. -/
def choices {α : Type} : List (List α) → List (List α)
  | [] => [[]]
  | l :: ls => l.flatMap (fun x => (choices ls).map (x :: ·))

/-- The corrections of a codeword by at most 8 byte changes: each candidate with the byte positions corrected, none
where the decoder cannot correct it (R166). A codeword of 272 bytes is longer than the 255 places of GF(2^8), so two byte
positions 255 apart share one locator: the candidates are all the readings, and the caller keeps the one whose CRC
passes (assumption 21). -/
def rsCandidates (cw : List Byte) : List (List Byte × List Nat) :=
  let syn := rsSyn cw
  if syn.all (· == 0) then [(cw, [])]
  else
    let loc := rsLocator syn
    let n := cw.length
    let deg := loc.length - 1
    -- byte position i is the coefficient of x^(n-1-i): its locator is α^(n-1-i)
    let roots := (List.range 255).filter (fun e => gfEval loc.reverse (gfInv (gfExp e)) == 0)
    if 8 < deg || roots.length != deg then []
    else
      let places := roots.map (fun e => (List.range n).filter (fun i => (n - 1 - i) % 255 == e))
      let omega := (List.range 16).map (fun k =>
        (List.range (k + 1)).foldl (fun acc i => acc ^^^ gfMul (loc.getD i 0) (syn.getD (k - i) 0)) 0)
      let fix := fun (e : Nat) =>
        let x := gfExp e
        let xi := gfInv x
        let num := gfEval (omega.take deg).reverse xi
        let den := (List.range loc.length).foldl (fun acc j =>
          if j % 2 = 1 then acc ^^^ gfMul (loc.getD j 0) (gfPow xi (j - 1)) else acc) 0
        gfMul x (gfMul num (gfInv den))
      (choices places).map (fun pos =>
        ((cw.zipIdx).map (fun (b, i) =>
          if pos.contains i then b ^^^ BitVec.ofNat 8 (fix ((n - 1 - i) % 255)) else b), pos))

/-- The correction whose bytes pass `ok`, if any. -/
def rsDecode (ok : List Byte → Bool) (cw : List Byte) : Option (List Byte × List Nat) :=
  (rsCandidates cw).find? (fun c => ok c.1)

/-- Cut a list into blocks of `n`, on fuel. -/
def chunks {α : Type} (n : Nat) : Nat → List α → List (List α)
  | 0, _ => []
  | _, [] => []
  | fuel + 1, l => l.take n :: chunks n fuel (l.drop n)

/-! ### SHA-256 (R80) -/

/-- The first `n` primes, by trial division below 312, the 64th prime being 311. -/
def primesUpTo (n : Nat) : List Nat :=
  ((List.range 312).filter (fun p => decide (2 ≤ p) && (List.range 18).all (fun d => d < 2 || p ≤ d || p % d != 0))).take n

/-- The first 32 fraction bits of the k-th root of a number below 512, found bit by bit. -/
def rootFraction (k p : Nat) : Nat :=
  (List.range 37).foldr (fun i r => if (r + 2 ^ i) ^ k ≤ p * 2 ^ (32 * k) then r + 2 ^ i else r) 0 % 2 ^ 32

/-- A 32-bit word turned right. -/
def turn (n x : Nat) : Nat := (x >>> n + x <<< (32 - n)) % 2 ^ 32

/-- Two turns and a third turn or shift, as every mixing function of SHA-256 has them. -/
def mix (i j : Nat) (last : Nat → Nat) (x : Nat) : Nat := turn i x ^^^ turn j x ^^^ last x

/-- One round: the sixteen schedule words from this round on, and the eight working words, under one round constant. -/
def shaTurn (st : List Nat × List Nat) (k : Nat) : List Nat × List Nat :=
  match st with
  | (w :: ws, [a, b, c, d, e, f, g, h]) =>
    let next := (w + mix 7 18 (· >>> 3) (ws.headD 0) + ws.getD 8 0 + mix 17 19 (· >>> 10) (ws.getD 13 0)) % 2 ^ 32
    let pick := g ^^^ (e &&& (f ^^^ g))
    let most := (a &&& b) ||| (c &&& (a ||| b))
    let t := h + mix 6 11 (turn 25) e + pick + k + w
    (ws ++ [next], [(t + mix 2 13 (turn 22) a + most) % 2 ^ 32, a, b, c, (d + t) % 2 ^ 32, e, f, g])
  | other => other

/-- Fold one block of 64 bytes into the digest. -/
def shaBlock (digest : List Nat) (blk : List Byte) : List Nat :=
  let words := (chunks 4 16 blk).map (fun c => leAt c.reverse 0 4)
  let worked := ((primesUpTo 64).map (rootFraction 3)).foldl shaTurn (words, digest)
  List.zipWith (fun x y => (x + y) % 2 ^ 32) digest worked.2

/-- The message with its end mark and its bit length. -/
def shaPad (bs : List Byte) : List Byte :=
  bs ++ [0x80] ++ zeros ((119 - bs.length % 64) % 64) ++ (leBytes 8 (8 * bs.length)).reverse

/-- SHA-256 of a byte list: 32 bytes. -/
def sha256 (bs : List Byte) : List Byte :=
  let padded := shaPad bs
  let start := (primesUpTo 8).map (rootFraction 2)
  ((chunks 64 (padded.length / 64) padded).foldl shaBlock start).flatMap (fun w => (leBytes 4 w).reverse)

end Sys2Proof.Machine
end

