-- ==== Sys2Proof/Machine/Sparse.lean ====
section
/-! DEFINITION. Machine/Sparse.lean: sorted association lists in one canonical form, the shape of every memory,
register file and table of the model. -/

namespace Sys2Proof.Machine

/-- A table keyed by a number: keys strictly rising. -/
abbrev Map (α : Type) := List (Nat × α)

/-- Insert or replace the entry at key `k`, keeping the keys rising. -/
def Map.put {α : Type} (k : Nat) (v : α) : List (Nat × α) → List (Nat × α)
  | [] => [(k, v)]
  | (k', v') :: m =>
    if k < k' then (k, v) :: (k', v') :: m
    else if k = k' then (k, v) :: m
    else (k', v') :: Map.put k v m

/-- Remove the entry at key `k`. -/
def Map.del {α : Type} (k : Nat) : List (Nat × α) → List (Nat × α)
  | [] => []
  | (k', v') :: m =>
    if k = k' then m
    else (k', v') :: Map.del k m

/-- The entry at key `k`. -/
def Map.find {α : Type} (k : Nat) : List (Nat × α) → Option α
  | [] => none
  | (k', v') :: m => if k = k' then some v' else Map.find k m

/-- The entry at key `k`, an unlisted key reading as `d`. -/
def Map.get {α : Type} (d : α) (m : List (Nat × α)) (k : Nat) : α := (Map.find k m).getD d

/-- Write `v` at key `k`; writing what an unlisted key reads as removes the entry, so equal tables are equal lists. -/
def Map.set {α : Type} [DecidableEq α] (d : α) (m : List (Nat × α)) (k : Nat) (v : α) : List (Nat × α) :=
  if v = d then Map.del k m else Map.put k v m

/-- Change the entry at key `k`. -/
def Map.upd {α : Type} [DecidableEq α] (d : α) (m : List (Nat × α)) (k : Nat) (f : α → α) : List (Nat × α) :=
  Map.set d m k (f (Map.get d m k))

/-- The keys of a table. -/
def Map.keys {α : Type} (m : List (Nat × α)) : List Nat := m.map (·.1)

/-- Strictly rising keys. -/
def Map.rising {α : Type} : List (Nat × α) → Bool
  | [] => true
  | [_] => true
  | a :: b :: m => decide (a.1 < b.1) && Map.rising (b :: m)

/-- The canonical form: keys strictly rising and no entry equal to what an unlisted key reads as. -/
def Map.canon {α : Type} [DecidableEq α] (d : Nat → α) (m : List (Nat × α)) : Bool :=
  Map.rising m && m.all (fun e => !decide (e.2 = d e.1))

/-- Keys at which two tables differ, with the value the first gives there. -/
def Map.diff {α : Type} [DecidableEq α] (old new : List (Nat × α)) : List (Nat × Option α) :=
  ((Map.keys old ++ Map.keys new).eraseDups.filter (fun k => !decide (Map.find k old = Map.find k new))).map
    (fun k => (k, Map.find k old))

/-- Put back the entries of a difference. -/
def Map.undo {α : Type} (m : List (Nat × α)) : List (Nat × Option α) → List (Nat × α)
  | [] => m
  | (k, some v) :: d => Map.undo (Map.put k v m) d
  | (k, none) :: d => Map.undo (Map.del k m) d

/-- A byte memory in canonical form: addresses strictly rising, no entry equal to 0, which is what an unlisted
address reads as (assumption 2). -/
def Memory.wf (m : List Host.Cell) : Bool := Map.canon (fun _ => (0 : BitVec 8)) m

/-- The byte at an address. -/
def Memory.byte (m : List Host.Cell) (a : Nat) : Byte := Map.get 0 m a

/-- `n` bytes from an address upwards. -/
def Memory.read (m : List Host.Cell) (a : Nat) : Nat → List Byte
  | 0 => []
  | n + 1 => Memory.byte m a :: Memory.read m (a + 1) n

/-- Write bytes from an address upwards. -/
def Memory.write (m : List Host.Cell) (a : Nat) : List Byte → List Host.Cell
  | [] => m
  | b :: bs => Memory.write (Map.set 0 m a b) (a + 1) bs

/-- Write zeros over `[a, a+n)`: the listed bytes of the range are removed. -/
def Memory.clear (m : List Host.Cell) (a n : Nat) : List Host.Cell :=
  m.filter (fun e => !(decide (a ≤ e.1) && decide (e.1 < a + n)))

end Sys2Proof.Machine
end

