-- ==== Sys2Proof/Machine/RegMap.lean ====
section
/-! DEFINITION. Machine/RegMap.lean: the BAR0 register map of R16 to R18 and the register and field tables of every chapter
(R15): offsets, reset classes, defaults and access masks. -/

namespace Sys2Proof.Machine

/-- Reset classes of R13. -/
inductive Cls where
  | P | C | W | T | K | N
  deriving DecidableEq, Repr

/-- Parts of a tile that R36 fuses off by role, with whose registers R19 deals. -/
inductive Fuse where
  | none | memory | brim
  deriving DecidableEq, Repr

/-- One row of a register table: `count` registers, `stride` bytes apart, from `base`. The masks say which bits a
software write sets (RW) and which it clears by writing 1 (W1C); every other bit ignores writes (R9, R10). -/
structure RegRow where
  base : Nat
  stride : Nat
  count : Nat
  cls : Cls
  dflt : Nat
  rw : Nat
  w1c : Nat
  fuse : Fuse := .none
  deriving DecidableEq, Repr

/-- A field of a register: the register's BAR0 offset, the field's low bit and its width. -/
structure Fld where
  off : Nat
  lo : Nat
  width : Nat
  deriving DecidableEq, Repr

/-- Base of tile n's block (R16). -/
def tileBase (n : Nat) : Nat := 0x01000000 + n * 0x100000

/-- Base of port p's sub-block: port index i = p mod 3 of tile p / 3 (R3, R18). -/
def portBase (p : Nat) : Nat := tileBase (p / 3) + 0x10000 + (p % 3) * 0x4000

/-- Rows of the module global block (R17). -/
def globalRows0 : List RegRow := [
  ⟨0x100, 0x4, 1, .C, 0xA00078, 0x0, 0x0, .none⟩,
  ⟨0x104, 0x4, 1, .C, 0xB7B58F04, 0x0, 0x0, .none⟩,
  ⟨0x10000, 0x8, 16, .C, 0x0, 0xFFF, 0x0, .none⟩,
  ⟨0x10004, 0x8, 16, .C, 0x0, 0xFFF, 0x0, .none⟩,
  ⟨0x10100, 0x20, 16, .C, 0x0, 0xFF, 0x0, .none⟩,
  ⟨0x10104, 0x20, 16, .C, 0x0, 0x0, 0x0, .none⟩,
  ⟨0x10108, 0x20, 16, .C, 0x0, 0x0, 0xF, .none⟩,
  ⟨0x10110, 0x20, 16, .C, 0x0, 0xFFFFF000, 0x0, .none⟩,
  ⟨0x10114, 0x20, 16, .C, 0x0, 0xFFFFFFFF, 0x0, .none⟩,
  ⟨0x10300, 0x4, 1, .C, 0x0, 0x0, 0x0, .none⟩,
  ⟨0x20, 0x4, 1, .N, 0x0, 0x7FFF, 0x0, .none⟩,
  ⟨0xB000, 0x4, 1, .N, 0x0, 0x0, 0x0, .none⟩,
  ⟨0xB004, 0x4, 1, .N, 0x0, 0x0, 0x0, .none⟩,
  ⟨0xB008, 0x4, 1, .N, 0x0, 0x0, 0x0, .none⟩,
  ⟨0xB00C, 0x4, 1, .N, 0x0, 0x0, 0x0, .none⟩,
  ⟨0xB010, 0x4, 1, .C, 0x0, 0x0, 0x1, .none⟩,
  ⟨0xB020, 0x4, 8, .N, 0x0, 0x0, 0x0, .none⟩,
  ⟨0x8000, 0x40, 2, .C, 0x30, 0x3F, 0x0, .none⟩,
  ⟨0x8004, 0x40, 2, .W, 0x0, 0x0, 0x0, .none⟩,
  ⟨0x1000, 0x4, 1, .P, 0x0, 0x0, 0x0, .none⟩,
  ⟨0x1004, 0x4, 1, .C, 0x0, 0x0, 0x0, .none⟩,
  ⟨0x1008, 0x4, 1, .P, 0x0, 0x0, 0x0, .none⟩,
  ⟨0x100C, 0x4, 1, .P, 0x0, 0x0, 0x0, .none⟩,
  ⟨0x2000, 0x4, 1, .P, 0x20, 0x0, 0x0, .none⟩]

/-- More of the rows of globalRows. -/
def globalRows1 : List RegRow := [
  ⟨0x2008, 0x4, 1, .P, 0x0, 0x0, 0x0, .none⟩,
  ⟨0x200C, 0x4, 1, .P, 0x0, 0x0, 0x0, .none⟩,
  ⟨0x4000, 0x4, 1, .C, 0xF2D48, 0xFFFF7F, 0x0, .none⟩,
  ⟨0x4004, 0x4, 1, .W, 0x0, 0x0, 0x0, .none⟩,
  ⟨0x4100, 0x10, 8, .C, 0xD6B020, 0xFFFFFFF, 0x0, .none⟩,
  ⟨0x4104, 0x10, 8, .W, 0x8000, 0x0, 0x0, .none⟩,
  ⟨0x4108, 0x10, 8, .C, 0x7F7F, 0xFFFF, 0x0, .none⟩,
  ⟨0x5000, 0x4, 1, .C, 0x0, 0x0, 0xFFFFFFFF, .none⟩,
  ⟨0x5004, 0x4, 1, .C, 0x0, 0x0, 0xFFFF, .none⟩,
  ⟨0x5008, 0x4, 1, .C, 0x0, 0x0, 0xFFFFFFFF, .none⟩,
  ⟨0x500C, 0x4, 1, .C, 0x0, 0x0, 0x0, .none⟩,
  ⟨0x5010, 0x4, 1, .C, 0x0, 0x0, 0x600, .none⟩,
  ⟨0x5018, 0x4, 1, .C, 0x0, 0x0, 0x0, .none⟩,
  ⟨0x501C, 0x4, 1, .C, 0x0, 0x0, 0x0, .none⟩,
  ⟨0x5020, 0x4, 1, .C, 0xA5555756, 0xFFFFFFFF, 0x0, .none⟩,
  ⟨0x5024, 0x4, 1, .C, 0x315, 0xFFFFFFFF, 0x0, .none⟩,
  ⟨0x5030, 0x4, 1, .C, 0x3C832, 0x1FFFFFFF, 0x0, .none⟩,
  ⟨0x5034, 0x4, 1, .C, 0x0, 0x0, 0x0, .none⟩,
  ⟨0x6000, 0x4, 1, .C, 0x3C0A4010, 0xFFFFFFFF, 0x0, .none⟩,
  ⟨0x6004, 0x4, 1, .C, 0x0, 0x0, 0x0, .none⟩,
  ⟨0x6008, 0x4, 1, .N, 0x0, 0x0, 0x0, .none⟩,
  ⟨0x600C, 0x4, 1, .N, 0x0, 0x0, 0x0, .none⟩,
  ⟨0x6010, 0x4, 1, .C, 0x0, 0x0, 0x0, .none⟩,
  ⟨0x6014, 0x4, 1, .C, 0x0, 0x0, 0x0, .none⟩]

/-- More of the rows of globalRows. -/
def globalRows2 : List RegRow := [
  ⟨0x6018, 0x4, 1, .C, 0x0, 0x0, 0x0, .none⟩,
  ⟨0x7000, 0x4, 1, .C, 0x27888000, 0x7FFFFFFF, 0x0, .none⟩,
  ⟨0x7004, 0x4, 1, .C, 0x1, 0x0, 0x0, .none⟩,
  ⟨0x7008, 0x4, 1, .C, 0x0, 0x0, 0x0, .none⟩,
  ⟨0x7010, 0x4, 1, .N, 0x0, 0x0, 0x0, .none⟩,
  ⟨0x7014, 0x4, 1, .N, 0x0, 0x0, 0x0, .none⟩,
  ⟨0x7018, 0x4, 1, .C, 0xFFFFFFFF, 0x0, 0x0, .none⟩,
  ⟨0x701C, 0x4, 1, .C, 0x0, 0x0, 0x0, .none⟩,
  ⟨0x7020, 0x4, 1, .C, 0x0, 0x0, 0x0, .none⟩,
  ⟨0x7024, 0x4, 1, .C, 0x0, 0x0, 0x0, .none⟩,
  ⟨0x7028, 0x4, 1, .C, 0x0, 0x0, 0x0, .none⟩,
  ⟨0x702C, 0x4, 1, .C, 0x0, 0x0, 0x0, .none⟩,
  ⟨0x9000, 0x100, 2, .C, 0x10001, 0x1FFFF, 0x0, .none⟩,
  ⟨0x9004, 0x100, 2, .W, 0x0, 0x0, 0x0, .none⟩,
  ⟨0x9008, 0x100, 2, .W, 0x0, 0x0, 0x0, .none⟩,
  ⟨0x900C, 0x100, 2, .W, 0x0, 0x0, 0x0, .none⟩,
  ⟨0xA000, 0x4, 1, .N, 0x2, 0x0, 0x0, .none⟩,
  ⟨0xA004, 0x4, 1, .C, 0x0, 0x0, 0x0, .none⟩,
  ⟨0xA008, 0x4, 1, .C, 0x0, 0x0, 0x0, .none⟩,
  ⟨0xA00C, 0x4, 1, .C, 0x0, 0x0, 0x0, .none⟩,
  ⟨0xA010, 0x4, 1, .N, 0x0, 0x0, 0x0, .none⟩,
  ⟨0xA014, 0x4, 1, .C, 0x0, 0x0, 0x0, .none⟩,
  ⟨0xA018, 0x4, 1, .C, 0x0, 0x0, 0x0, .none⟩,
  ⟨0xA020, 0x4, 1, .N, 0x0, 0x0, 0x0, .none⟩]

/-- More of the rows of globalRows. -/
def globalRows3 : List RegRow := [
  ⟨0xA024, 0x4, 1, .N, 0x0, 0x0, 0x0, .none⟩,
  ⟨0x200, 0x4, 1, .P, 0x0, 0x0, 0x0, .none⟩,
  ⟨0x204, 0x4, 1, .P, 0x0, 0x0, 0x0, .none⟩,
  ⟨0x3000, 0x4, 1, .C, 0x128000, 0x1FFFFF, 0x0, .none⟩,
  ⟨0x3004, 0x4, 1, .C, 0xC8, 0xFFFFFFFF, 0x0, .none⟩,
  ⟨0x3008, 0x4, 1, .W, 0x4000, 0x0, 0x0, .none⟩,
  ⟨0x300C, 0x4, 1, .W, 0x0, 0x0, 0x0, .none⟩,
  ⟨0x3010, 0x4, 1, .W, 0x0, 0x0, 0x0, .none⟩,
  ⟨0x3014, 0x4, 1, .W, 0x0, 0x0, 0x0, .none⟩,
  ⟨0x3018, 0x4, 1, .W, 0x0, 0x0, 0x0, .none⟩,
  ⟨0x301C, 0x4, 1, .P, 0x0, 0x0, 0x1FF, .none⟩]

/-- Rows of the module global block (R17). All of them. -/
def globalRows : List RegRow := globalRows0 ++ globalRows1 ++ globalRows2 ++ globalRows3

/-- Rows of a tile block, offsets from its base (R18). -/
def tileRows0 : List RegRow := [
  ⟨0x10, 0x4, 1, .C, 0x3F0, 0x0, 0x0, .none⟩,
  ⟨0x400, 0x4, 1, .C, 0x0, 0x0, 0x0, .none⟩,
  ⟨0x500, 0x4, 48, .C, 0x0, 0x0, 0x0, .none⟩,
  ⟨0x80000, 0x10, 8, .T, 0x70, 0x0, 0x0, .none⟩,
  ⟨0x80004, 0x10, 8, .T, 0x0, 0x0, 0x0, .none⟩,
  ⟨0x80008, 0x10, 8, .C, 0x82, 0xFF, 0x0, .none⟩,
  ⟨0x80100, 0x4, 1, .T, 0x77, 0x0, 0x0, .none⟩,
  ⟨0x80110, 0x4, 6, .T, 0x3F0000, 0x0, 0x0, .none⟩,
  ⟨0x80200, 0x4, 3, .K, 0x5, 0x0, 0x0, .none⟩,
  ⟨0x80300, 0x4, 1, .T, 0x1, 0xFFF, 0x0, .none⟩,
  ⟨0x80304, 0x4, 1, .T, 0x80008000, 0x0, 0x0, .none⟩,
  ⟨0x80400, 0x4, 1, .T, 0x0, 0x0, 0x0, .none⟩,
  ⟨0x80500, 0x4, 1, .T, 0x80000000, 0x0, 0x0, .none⟩,
  ⟨0x20000, 0x4, 1, .C, 0x14281B, 0xFFFFFF, 0x0, .none⟩,
  ⟨0x20004, 0x4, 1, .T, 0x0, 0x0, 0x0, .none⟩,
  ⟨0x20008, 0x4, 1, .C, 0x0, 0x0, 0x0, .none⟩,
  ⟨0x2000C, 0x4, 1, .C, 0x0, 0x0, 0x0, .none⟩,
  ⟨0x20010, 0x4, 1, .T, 0x0, 0x0, 0x0, .none⟩,
  ⟨0x20014, 0x4, 1, .T, 0x0, 0x0, 0x0, .none⟩,
  ⟨0x20018, 0x4, 1, .T, 0x0, 0x0, 0x0, .none⟩,
  ⟨0x20020, 0x4, 1, .T, 0x0, 0x0, 0x0, .none⟩,
  ⟨0x20024, 0x4, 1, .T, 0x0, 0x0, 0x0, .none⟩,
  ⟨0x20028, 0x4, 1, .T, 0x0, 0x0, 0x0, .none⟩,
  ⟨0x2002C, 0x4, 1, .T, 0x0, 0x0, 0x0, .none⟩]

/-- More of the rows of tileRows. -/
def tileRows1 : List RegRow := [
  ⟨0x20030, 0x4, 1, .T, 0x0, 0x0, 0x0, .none⟩,
  ⟨0x20034, 0x4, 1, .T, 0x0, 0x0, 0x0, .none⟩,
  ⟨0x20100, 0x4, 16, .T, 0x0, 0x0, 0x0, .none⟩,
  ⟨0x30000, 0x40, 2, .C, 0x10004, 0xFFFFFF, 0x0, .brim⟩,
  ⟨0x30004, 0x40, 2, .T, 0x0, 0x0, 0x0, .brim⟩,
  ⟨0x30008, 0x40, 2, .T, 0x0, 0x0, 0x0, .brim⟩,
  ⟨0x3000C, 0x40, 2, .T, 0x0, 0x0, 0x0, .brim⟩,
  ⟨0x30010, 0x40, 2, .T, 0x0, 0x0, 0x0, .brim⟩,
  ⟨0x70000, 0x4, 1, .C, 0xA0A0078, 0xFFFFFFFF, 0x0, .none⟩,
  ⟨0x70004, 0x4, 1, .T, 0x0, 0x0, 0x0, .none⟩,
  ⟨0x70008, 0x4, 1, .T, 0x0, 0x0, 0x0, .none⟩,
  ⟨0x7000C, 0x4, 1, .T, 0x0, 0x0, 0x0, .none⟩,
  ⟨0x70010, 0x4, 1, .T, 0x0, 0x0, 0x0, .none⟩,
  ⟨0x70014, 0x4, 1, .T, 0x0, 0x0, 0x0, .none⟩,
  ⟨0x70018, 0x4, 1, .T, 0x0, 0x0, 0x0, .none⟩,
  ⟨0x70020, 0x4, 1, .T, 0xFFFFFFFF, 0xFFFFFFFF, 0x0, .none⟩,
  ⟨0x70024, 0x4, 1, .T, 0x0, 0x1FFF, 0x0, .none⟩,
  ⟨0x70100, 0x4, 1, .T, 0x0, 0x0, 0x0, .none⟩,
  ⟨0x70104, 0x4, 1, .T, 0x0, 0x0, 0x0, .none⟩,
  ⟨0x70108, 0x4, 1, .T, 0x0, 0x0, 0x0, .none⟩,
  ⟨0x40000, 0x4, 1, .C, 0x204018, 0xFFFFFF, 0x0, .memory⟩,
  ⟨0x40004, 0x4, 1, .T, 0x1, 0x0, 0x0, .memory⟩,
  ⟨0x40008, 0x4, 1, .N, 0x100, 0x1FFF, 0x0, .memory⟩,
  ⟨0x40010, 0x4, 1, .T, 0x0, 0x0, 0x0, .memory⟩]

/-- More of the rows of tileRows. -/
def tileRows2 : List RegRow := [
  ⟨0x40014, 0x4, 1, .N, 0x0, 0x0, 0x0, .memory⟩,
  ⟨0x40018, 0x4, 1, .T, 0x0, 0x0, 0x0, .memory⟩,
  ⟨0x40020, 0x4, 1, .T, 0x0, 0x0, 0x0, .memory⟩,
  ⟨0x40024, 0x4, 1, .T, 0x0, 0x0, 0x0, .memory⟩,
  ⟨0x40028, 0x4, 1, .T, 0x0, 0x0, 0x0, .memory⟩,
  ⟨0x4002C, 0x4, 1, .T, 0x0, 0x0, 0x0, .memory⟩,
  ⟨0x40030, 0x4, 1, .T, 0x0, 0x0, 0x0, .memory⟩,
  ⟨0x40034, 0x4, 1, .T, 0x0, 0x0, 0x0, .memory⟩,
  ⟨0x50000, 0x4, 1, .C, 0x141, 0xFF3, 0x0, .none⟩,
  ⟨0x50004, 0x4, 1, .T, 0x0, 0x0, 0x0, .none⟩,
  ⟨0x50008, 0x4, 1, .T, 0x3F7F7F, 0x0, 0x0, .none⟩,
  ⟨0x50010, 0x4, 1, .T, 0x0, 0x0, 0x0, .none⟩,
  ⟨0x50014, 0x4, 1, .T, 0x0, 0x0, 0x0, .none⟩,
  ⟨0x50018, 0x4, 1, .T, 0x0, 0x0, 0x0, .none⟩,
  ⟨0x5001C, 0x4, 1, .T, 0x0, 0x0, 0x0, .none⟩,
  ⟨0x50020, 0x4, 1, .T, 0x0, 0x0, 0x0, .none⟩,
  ⟨0x50030, 0x4, 1, .T, 0x7F0000, 0x0, 0x0, .none⟩,
  ⟨0x50034, 0x4, 1, .T, 0x64, 0x0, 0x0, .none⟩,
  ⟨0x50040, 0x4, 1, .T, 0x0, 0x0, 0x0, .none⟩,
  ⟨0x50044, 0x4, 1, .T, 0x0, 0x0, 0x0, .none⟩,
  ⟨0x50048, 0x4, 1, .T, 0x0, 0x0, 0x0, .none⟩,
  ⟨0x5004C, 0x4, 1, .T, 0x0, 0x0, 0x0, .none⟩,
  ⟨0x50050, 0x4, 1, .T, 0x0, 0x0, 0x0, .none⟩,
  ⟨0x50054, 0x4, 1, .T, 0x0, 0x0, 0x0, .none⟩]

/-- More of the rows of tileRows. -/
def tileRows3 : List RegRow := [
  ⟨0x50060, 0x4, 1, .T, 0x0, 0x0, 0x0, .none⟩,
  ⟨0x50064, 0x4, 1, .T, 0x0, 0x0, 0x0, .none⟩,
  ⟨0x50100, 0x4, 1, .C, 0xA, 0xFF, 0x0, .none⟩,
  ⟨0x50104, 0x4, 1, .T, 0x0, 0x0, 0x0, .none⟩,
  ⟨0x50108, 0x4, 1, .T, 0x8000000, 0x0, 0x0, .none⟩,
  ⟨0x50110, 0x4, 1, .T, 0x0, 0x0, 0x0, .none⟩,
  ⟨0x50114, 0x4, 1, .T, 0x0, 0x0, 0x0, .none⟩,
  ⟨0x50118, 0x4, 1, .T, 0x0, 0x0, 0x0, .none⟩,
  ⟨0x5011C, 0x4, 1, .T, 0x0, 0x0, 0x0, .none⟩,
  ⟨0x60000, 0x4, 1, .C, 0x211, 0x1FFF, 0x0, .none⟩,
  ⟨0x60004, 0x4, 1, .T, 0x0, 0x0, 0x0, .none⟩,
  ⟨0x60010, 0x4, 1, .T, 0x0, 0x0, 0x0, .none⟩,
  ⟨0x60014, 0x4, 1, .T, 0x0, 0x0, 0x0, .none⟩,
  ⟨0x60018, 0x4, 1, .T, 0x0, 0x0, 0x0, .none⟩,
  ⟨0x6001C, 0x4, 1, .T, 0x0, 0x0, 0x0, .none⟩,
  ⟨0x60020, 0x4, 1, .T, 0x0, 0x0, 0x0, .none⟩,
  ⟨0x60024, 0x4, 1, .T, 0x0, 0x0, 0x0, .none⟩,
  ⟨0x90000, 0x4, 1, .C, 0x3004B051, 0xFFFFFFFF, 0x0, .none⟩,
  ⟨0x90004, 0x4, 1, .T, 0xFFFF0000, 0x0, 0x0, .none⟩,
  ⟨0x90008, 0x4, 1, .T, 0x0, 0xFFFF, 0x0, .none⟩,
  ⟨0x9000C, 0x4, 1, .T, 0xFFFF0001, 0x0, 0x0, .none⟩,
  ⟨0x90010, 0x4, 1, .T, 0xFFFF, 0x0, 0x0, .none⟩,
  ⟨0x90014, 0x4, 3, .T, 0x0, 0x0, 0x0, .none⟩,
  ⟨0x90020, 0x4, 1, .T, 0x0, 0x0, 0x0, .none⟩]

/-- More of the rows of tileRows. -/
def tileRows4 : List RegRow := [
  ⟨0x90024, 0x4, 1, .T, 0x0, 0x0, 0x0, .none⟩,
  ⟨0x90028, 0x4, 1, .T, 0x0, 0x0, 0x0, .none⟩,
  ⟨0x90030, 0x4, 1, .N, 0x0, 0x0, 0x0, .none⟩,
  ⟨0x1000, 0x4, 1, .C, 0x0, 0x3, 0x0, .none⟩,
  ⟨0x1004, 0x4, 1, .T, 0x0, 0x0, 0x0, .none⟩,
  ⟨0x1008, 0x4, 1, .P, 0x0, 0x0, 0x0, .none⟩,
  ⟨0x100C, 0x4, 1, .T, 0x0, 0x0, 0x0, .none⟩,
  ⟨0xB0000, 0x4, 1, .T, 0x0, 0x0, 0x0, .none⟩,
  ⟨0xB0004, 0x4, 1, .T, 0x6464, 0x0, 0x0, .none⟩,
  ⟨0xB0008, 0x4, 1, .T, 0x0, 0x0, 0x1F, .none⟩,
  ⟨0xA0000, 0x4, 1, .C, 0x0, 0x0, 0xFFFFFFFF, .none⟩,
  ⟨0xA0004, 0x4, 1, .C, 0x0, 0x0, 0xFFFFFFFF, .none⟩,
  ⟨0xA0008, 0x4, 1, .T, 0x0, 0x0, 0x0, .none⟩,
  ⟨0xA000C, 0x4, 1, .T, 0x0, 0x0, 0x0, .none⟩,
  ⟨0xA0010, 0x4, 1, .C, 0x0, 0x0, 0x300, .none⟩,
  ⟨0xA0018, 0x4, 1, .C, 0x0, 0x0, 0x0, .none⟩,
  ⟨0xA001C, 0x4, 1, .C, 0x0, 0x0, 0x0, .none⟩,
  ⟨0xA0020, 0x4, 1, .C, 0x555453DF, 0xFFFFFFFF, 0x0, .none⟩,
  ⟨0xA0024, 0x4, 1, .C, 0x619596A5, 0xFFFFFFFF, 0x0, .none⟩,
  ⟨0xA0028, 0x4, 1, .C, 0x75BD56, 0xFFFFFFFF, 0x0, .none⟩,
  ⟨0xA002C, 0x4, 1, .C, 0x0, 0xFFFFFFFF, 0x0, .none⟩,
  ⟨0xA0030, 0x4, 1, .C, 0x0, 0x0, 0x0, .none⟩,
  ⟨0x20, 0x4, 1, .C, 0xF0, 0x0, 0x0, .none⟩,
  ⟨0x24, 0x4, 1, .C, 0x0, 0x0, 0x0, .none⟩]

/-- More of the rows of tileRows. -/
def tileRows5 : List RegRow := [
  ⟨0x28, 0x4, 1, .C, 0x0, 0x0, 0x0, .none⟩]

/-- Rows of a tile block, offsets from its base (R18). All of them. -/
def tileRows : List RegRow := tileRows0 ++ tileRows1 ++ tileRows2 ++ tileRows3 ++ tileRows4 ++ tileRows5

/-- Rows of a port sub-block, offsets from its base (R18). -/
def portRows0 : List RegRow := [
  ⟨0x2000, 0x4, 1, .C, 0x24, 0xFF, 0x0, .none⟩,
  ⟨0x2004, 0x4, 1, .K, 0x0, 0x0, 0x0, .none⟩,
  ⟨0x2010, 0x4, 1, .K, 0x0, 0x0, 0x0, .none⟩,
  ⟨0x2100, 0x20, 17, .K, 0x7C0, 0x0, 0x0, .none⟩,
  ⟨0x2104, 0x20, 17, .K, 0x0, 0x0, 0x0, .none⟩,
  ⟨0x2108, 0x20, 17, .K, 0x0, 0x0, 0x0, .none⟩,
  ⟨0x210C, 0x20, 17, .K, 0x0, 0x0, 0x0, .none⟩,
  ⟨0x2110, 0x20, 17, .K, 0x0, 0x0, 0x0, .none⟩,
  ⟨0x2114, 0x20, 17, .K, 0x5500AB, 0x0, 0x0, .none⟩,
  ⟨0x0, 0x4, 1, .C, 0xFF887, 0x1FFFFF, 0x0, .none⟩,
  ⟨0x4, 0x4, 1, .K, 0x1, 0x0, 0x0, .none⟩,
  ⟨0x8, 0x4, 1, .K, 0x0, 0x0, 0x0, .none⟩,
  ⟨0xC, 0x4, 1, .K, 0x0, 0x0, 0x0, .none⟩,
  ⟨0x10, 0x4, 1, .K, 0x0, 0x0, 0x0, .none⟩,
  ⟨0x14, 0x4, 1, .K, 0x0, 0x0, 0x0, .none⟩,
  ⟨0x18, 0x4, 1, .K, 0x0, 0x0, 0x0, .none⟩,
  ⟨0x1C, 0x4, 1, .K, 0x0, 0x0, 0x0, .none⟩,
  ⟨0x20, 0x4, 1, .K, 0x0, 0x0, 0x0, .none⟩,
  ⟨0x24, 0x4, 1, .K, 0x0, 0x0, 0x3F, .none⟩,
  ⟨0x30, 0x4, 1, .K, 0x0, 0x0, 0x0, .none⟩,
  ⟨0x34, 0x4, 1, .K, 0x0, 0x0, 0x0, .none⟩,
  ⟨0x38, 0x4, 1, .K, 0x0, 0x0, 0x0, .none⟩,
  ⟨0x3C, 0x4, 1, .K, 0x0, 0x0, 0x0, .none⟩,
  ⟨0x40, 0x4, 4, .K, 0xFFFFFFFF, 0x0, 0x0, .none⟩]

/-- Rows of a port sub-block, offsets from its base (R18). All of them. -/
def portRows : List RegRow := portRows0

/-- Where a BAR0 offset lies: the tile (48 for the global block), the port index of a port sub-block (3 elsewhere) and
the offset within that part. -/
structure Place where
  tile : Nat
  port : Nat
  rel : Nat
  deriving DecidableEq, Repr

/-- The place of a BAR0 offset below the submission area, or none in a reserved range (R16). -/
def placeOf (off : Nat) : Option Place :=
  if off < 0x100000 then some ⟨48, 3, off⟩
  else if 0x01000000 ≤ off && off < 0x01000000 + 48 * 0x100000 then
    let t := (off - 0x01000000) / 0x100000
    let r := (off - 0x01000000) % 0x100000
    if 0x10000 ≤ r && r < 0x1C000 then some ⟨t, (r - 0x10000) / 0x4000, (r - 0x10000) % 0x4000⟩
    else some ⟨t, 3, r⟩
  else none

/-- Does an offset fall on a register of the row? -/
def RegRow.has (r : RegRow) (o : Nat) : Bool :=
  decide (r.base ≤ o) && decide ((o - r.base) % r.stride = 0) && decide ((o - r.base) / r.stride < r.count)

/-- The row at a place. -/
def rowAtPlace (p : Place) : Option RegRow :=
  (if p.tile = 48 then globalRows else if p.port < 3 then portRows else tileRows).find? (fun r => r.has p.rel)

/-- The row of a BAR0 offset; none at a reserved offset (R9). -/
def rowAt (off : Nat) : Option RegRow := (placeOf off).bind rowAtPlace

/-- Row of tile n in the grid (R3). -/
def tileRow (n : Nat) : Nat := n / 12

/-- Column of tile n in the grid (R3). -/
def tileCol (n : Nat) : Nat := n % 12

/-- Corner tiles (R29). -/
def isCorner (n : Nat) : Bool := n == 0 || n == 11 || n == 36 || n == 47

/-- Reserve tiles (R29). -/
def isReserve (n : Nat) : Bool := n == 12 || n == 23 || n == 24 || n == 35

/-- Memory tiles (R29). -/
def isMemTile (n : Nat) : Bool := decide (n < 48) && !isCorner n && !isReserve n

/-- TILE_ROLE.ROLE by position (R29). -/
def roleCode (n : Nat) : Nat := if isCorner n then 1 else if isReserve n then 2 else 0

/-- Is a fused part off on tile n (R36, R19)? Brim edge e: 0 west, 1 east. -/
def fusedOff (n : Nat) (f : Fuse) (idx : Nat) : Bool :=
  match f with
  | .none => false
  | .memory => isReserve n
  | .brim => (idx == 0 && tileCol n == 0) || (idx == 1 && tileCol n == 11)

/-- Is the register at a place on a fused-off part, so that it reads 0 and ignores writes (R19)? -/
def placeFused (p : Place) (r : RegRow) : Bool :=
  decide (p.tile < 48) && fusedOff p.tile r.fuse ((p.rel - r.base) / r.stride)

/-- The default of the register at a place: the table's number, with the "By position", "By row" and "By role" fields
of R14 filled in. Strap-dependent fields take the value of straps that read 0 (R367: an open land reads 0). -/
def placeDefault (p : Place) : Nat :=
  match rowAtPlace p with
  | none => 0
  | some r =>
    if placeFused p r then 0
    else if decide (p.tile < 48) && p.port == 3 && p.rel == 0x10 then r.dflt + roleCode p.tile
    else if decide (p.tile < 48) && p.port == 3 && p.rel == 0x70100 then r.dflt + (if tileRow p.tile < 2 then 0 else 1)
    else if decide (p.tile < 48) && p.port == 3 && p.rel == 0x40004 then r.dflt + (if isCorner p.tile then 8 else 0)
    else r.dflt

/-- The default of the register at a BAR0 offset; 0 at a reserved offset (R9). -/
def regDefault (off : Nat) : Word :=
  match placeOf off with
  | none => 0
  | some p => BitVec.ofNat 32 (placeDefault p)

/-! ### Register offsets -/

namespace R

/-- Local access terms (01). -/
def DIST_LOCAL : Nat := 0x100
/-- Brim hop and Crown crossing terms (01). -/
def DIST_TERMS : Nat := 0x104
/-- Position role and stand-in state (01). -/
def TILE_ROLE (t : Nat) : Nat := tileBase t + 0x10
/-- Distance row generation count (01). -/
def TILE_DIST_GEN (t : Nat) : Nat := tileBase t + 0x400
/-- Distance from this tile to the memory of tile n (01). -/
def TILE_DIST (t n : Nat) : Nat := tileBase t + 0x500 + 0x4 * n
/-- Submission tail doorbell, queue q (02). -/
def QDB_SQ_TAIL (q : Nat) : Nat := 0x10000 + 0x8 * q
/-- Completion head doorbell, queue q (02). -/
def QDB_CQ_HEAD (q : Nat) : Nat := 0x10004 + 0x8 * q
/-- Queue enable, port and interrupt (02). -/
def Q_CTL (q : Nat) : Nat := 0x10100 + 0x20 * q
/-- Queue head, tail and state (02). -/
def Q_STAT (q : Nat) : Nat := 0x10104 + 0x20 * q
/-- Queue error flags (02). -/
def Q_ERR (q : Nat) : Nat := 0x10108 + 0x20 * q
/-- Completion ring address, bits [31:12] in [31:12] (02). -/
def Q_CQ_BASE_LO (q : Nat) : Nat := 0x10110 + 0x20 * q
/-- Completion ring address, bits [63:32] (02). -/
def Q_CQ_BASE_HI (q : Nat) : Nat := 0x10114 + 0x20 * q
/-- Proctor readiness (02). -/
def Q_GLOBAL : Nat := 0x10300
/-- Module node ID (02). -/
def NODE_CFG : Nat := 0x20
/-- Newest SEQ, bits [31:0] (02). -/
def JRNL_HEAD_SEQ_LO : Nat := 0xB000
/-- Newest SEQ, bits [63:32] (02). -/
def JRNL_HEAD_SEQ_HI : Nat := 0xB004
/-- Oldest held SEQ, bits [31:0] (02). -/
def JRNL_OLDEST_SEQ_LO : Nat := 0xB008
/-- Oldest held SEQ, bits [63:32] (02). -/
def JRNL_OLDEST_SEQ_HI : Nat := 0xB00C
/-- Journal condition (02). -/
def JRNL_STAT : Nat := 0xB010
/-- Head hash bytes 4i to 4i+3, byte 4i in [7:0] (02). -/
def JRNL_HEAD_HASH (i : Nat) : Nat := 0xB020 + 0x4 * i
/-- Comb state, role and junction temperature (03). -/
def LAS_STAT (t c : Nat) : Nat := tileBase t + 0x80000 + 0x10 * c
/-- Present and commissioned bias (03). -/
def LAS_BIAS (t c : Nat) : Nat := tileBase t + 0x80004 + 0x10 * c
/-- Bias limit (03). -/
def LAS_LIM (t c : Nat) : Nat := tileBase t + 0x80008 + 0x10 * c
/-- Roles served by SUB0 and SUB1 (03). -/
def SUB_MAP (t : Nat) : Nat := tileBase t + 0x80100
/-- Fade stage and location per role (03). -/
def FADE_STAT (t r : Nat) : Nat := tileBase t + 0x80110 + 0x4 * r
/-- Shutter state of port index i (03). -/
def EYESAFE (t i : Nat) : Nat := tileBase t + 0x80200 + 0x4 * i
/-- Monitor point selection (03). -/
def MON_SEL (t : Nat) : Nat := tileBase t + 0x80300
/-- Selected monitor reading (03). -/
def MON_VAL (t : Nat) : Nat := tileBase t + 0x80304
/-- Ring lock summary (03). -/
def RING_SUM (t : Nat) : Nat := tileBase t + 0x80400
/-- Reference and trace state (03). -/
def GRID_STAT (t : Nat) : Nat := tileBase t + 0x80500
/-- Rate ceiling and A1 control (04). -/
def SDS_CTL (p : Nat) : Nat := portBase p + 0x2000
/-- Stage, rate, width and training counts (04). -/
def SDS_STAT (p : Nat) : Nat := portBase p + 0x2004
/-- Offset sampler user (04). -/
def ESCAN_STAT (p : Nat) : Nat := portBase p + 0x2010
/-- Lane state (04). -/
def LANE_STAT (p j : Nat) : Nat := portBase p + 0x2100 + 0x20 * j
/-- FEC-corrected bytes on the lane, saturating (04). -/
def LANE_CERR (p j : Nat) : Nat := portBase p + 0x2104 + 0x20 * j
/-- DFE taps 4n+1 to 4n+4 (04). -/
def LANE_TAP (p j n : Nat) : Nat := portBase p + 0x2108 + 0x20 * j + 0x4 * n
/-- Slicer thresholds (04). -/
def LANE_THR (p j : Nat) : Nat := portBase p + 0x2114 + 0x20 * j
/-- Rate, width and power limits (04). -/
def CXL_PHY_CTL (n : Nat) : Nat := 0x8000 + 0x40 * n
/-- Trained state (04). -/
def CXL_PHY_STAT (n : Nat) : Nat := 0x8004 + 0x40 * n
/-- Enable, replay limit, ACK delay, VC split (05). -/
def LINK_CTL (p : Nat) : Nat := portBase p + 0x0
/-- State, replay count, epoch (05). -/
def LINK_STAT (p : Nat) : Nat := portBase p + 0x4
/-- Round trip and headroom (05). -/
def LINK_RTT (p : Nat) : Nat := portBase p + 0x8
/-- Flow-control state and partitions (05). -/
def LINK_FC (p : Nat) : Nat := portBase p + 0xC
/-- TX_NEXT in [23:0] (05). -/
def LINK_SEQ_TX (p : Nat) : Nat := portBase p + 0x10
/-- TX_ACKED in [23:0] (05). -/
def LINK_SEQ_ACK (p : Nat) : Nat := portBase p + 0x14
/-- RX_NEXT in [23:0] (05). -/
def LINK_SEQ_RX (p : Nat) : Nat := portBase p + 0x18
/-- Unacknowledged flits on the tile, [13:0], 0 to 8,192 (05). -/
def LINK_REPLAY_TILE (p : Nat) : Nat := portBase p + 0x1C
/-- Unacknowledged flits in the spill region, [18:0], 0 to 262,144 (05). -/
def LINK_REPLAY_SPILL (p : Nat) : Nat := portBase p + 0x20
/-- Link error flags (05). -/
def LINK_ERR (p : Nat) : Nat := portBase p + 0x24
/-- Codewords dropped by FEC or CRC; saturates (05). -/
def LINK_CNT_DROP (p : Nat) : Nat := portBase p + 0x30
/-- Replays started; saturates (05). -/
def LINK_CNT_REPLAY (p : Nat) : Nat := portBase p + 0x34
/-- Duplicates dropped; saturates (05). -/
def LINK_CNT_DUP (p : Nat) : Nat := portBase p + 0x38
/-- Codewords corrected; saturates (05). -/
def LINK_CNT_CORR (p : Nat) : Nat := portBase p + 0x3C
/-- Stripe positions 4n to 4n+3 (05). -/
def LINK_POS (p n : Nat) : Nat := portBase p + 0x40 + 0x4 * n
/-- Enable, relay and recovery settings (06). -/
def CROWN_CTL (t : Nat) : Nat := tileBase t + 0x20000
/-- Crown state and slot phase (06). -/
def CROWN_STAT (t : Nat) : Nat := tileBase t + 0x20004
/-- Slot number t, bits [31:0] (R8) (06). -/
def CROWN_SLOT_LO (t : Nat) : Nat := tileBase t + 0x20008
/-- Slot number t, bits [63:32] (06). -/
def CROWN_SLOT_HI (t : Nat) : Nat := tileBase t + 0x2000C
/-- Path delays set by Blocking (06). -/
def CROWN_DLY (t : Nat) : Nat := tileBase t + 0x20010
/-- This tile's dead transmitter and receiver planes (06). -/
def CROWN_DEAD (t : Nat) : Nat := tileBase t + 0x20014
/-- Relay buffer state (06). -/
def CROWN_RELAY_STAT (t : Nat) : Nat := tileBase t + 0x20018
/-- Bursts received; saturates (06). -/
def CROWN_CNT_BURST (t : Nat) : Nat := tileBase t + 0x20020
/-- Bursts lost in the preamble; saturates (06). -/
def CROWN_CNT_PRE_FAIL (t : Nat) : Nat := tileBase t + 0x20024
/-- Cells dropped by Reed–Solomon, CRC or header checks; saturates (06). -/
def CROWN_CNT_UNCORR (t : Nat) : Nat := tileBase t + 0x20028
/-- Cells retransmitted; saturates (06). -/
def CROWN_CNT_RETX (t : Nat) : Nat := tileBase t + 0x2002C
/-- Own cells sent by relay; saturates (06). -/
def CROWN_CNT_RELAY_OUT (t : Nat) : Nat := tileBase t + 0x20030
/-- Cells forwarded for other tiles; saturates (06). -/
def CROWN_CNT_RELAY_FWD (t : Nat) : Nat := tileBase t + 0x20034
/-- State of this tile's channel on plane p (06). -/
def CROWN_PLANE (t pl : Nat) : Nat := tileBase t + 0x20100 + 0x4 * pl
/-- Fence limits (06). -/
def BRIM_CTL (t e : Nat) : Nat := tileBase t + 0x30000 + 0x40 * e
/-- Link state (06). -/
def BRIM_STAT (t e : Nat) : Nat := tileBase t + 0x30004 + 0x40 * e
/-- Corrected beats received; saturates (06). -/
def BRIM_CE (t e : Nat) : Nat := tileBase t + 0x30008 + 0x40 * e
/-- Uncorrectable beats received; saturates (06). -/
def BRIM_UE (t e : Nat) : Nat := tileBase t + 0x3000C + 0x40 * e
/-- Link replays started; saturates (06). -/
def BRIM_RETRY (t e : Nat) : Nat := tileBase t + 0x30010 + 0x40 * e
/-- Reclaim, return and suspend timing (07). -/
def STRM_CTL (t : Nat) : Nat := tileBase t + 0x70000
/-- Open and ON_ALT counts (07). -/
def STRM_STAT (t : Nat) : Nat := tileBase t + 0x70004
/-- Duplicate TUs dropped; saturates (07). -/
def STRM_CNT_DUP (t : Nat) : Nat := tileBase t + 0x70008
/-- TUs for stale handles dropped; saturates (07). -/
def STRM_CNT_CLOSED (t : Nat) : Nat := tileBase t + 0x7000C
/-- Reserved types and credit overruns; saturates (07). -/
def STRM_CNT_BAD (t : Nat) : Nat := tileBase t + 0x70010
/-- Opens refused ERR_TABLE_FULL; saturates (07). -/
def STRM_CNT_FULL (t : Nat) : Nat := tileBase t + 0x70014
/-- Streams reclaimed; saturates (07). -/
def STRM_CNT_RECLAIM (t : Nat) : Nat := tileBase t + 0x70018
/-- Slot whose ring head is accessed (07). -/
def STRM_RING_SEL (t : Nat) : Nat := tileBase t + 0x70020
/-- Ring head of the selected stream (07). -/
def STRM_RING_HEAD (t : Nat) : Nat := tileBase t + 0x70024
/-- Cache and copy state (07). -/
def FAMC_STAT (t : Nat) : Nat := tileBase t + 0x70100
/-- Cache hits; saturates (07). -/
def FAMC_CNT_HIT (t : Nat) : Nat := tileBase t + 0x70104
/-- Cache misses; saturates (07). -/
def FAMC_CNT_MISS (t : Nat) : Nat := tileBase t + 0x70108
/-- Scrub period, retirement threshold, migration rate (08). -/
def MEM_CTL (t : Nat) : Nat := tileBase t + 0x40000
/-- State, tier, refresh and temperature (08). -/
def MEM_STAT (t : Nat) : Nat := tileBase t + 0x40004
/-- OME weight staging size (08). -/
def MEM_CFG (t : Nat) : Nat := tileBase t + 0x40008
/-- Free frames (08). -/
def MEM_FRAMES (t : Nat) : Nat := tileBase t + 0x40010
/-- Retired frames (08). -/
def MEM_RETIRED (t : Nat) : Nat := tileBase t + 0x40014
/-- Next line the scrub reads (08). -/
def MEM_SCRUB_POS (t : Nat) : Nat := tileBase t + 0x40018
/-- Lines corrected by the tile code; saturates (08). -/
def MEM_CE (t : Nat) : Nat := tileBase t + 0x40020
/-- Uncorrectable lines; saturates (08). -/
def MEM_UE (t : Nat) : Nat := tileBase t + 0x40024
/-- On-die ECC corrections reported by the stack; saturates (08). -/
def MEM_ODECC (t : Nat) : Nat := tileBase t + 0x40028
/-- Lines poisoned at present (08). -/
def MEM_POISON (t : Nat) : Nat := tileBase t + 0x4002C
/-- Copy engine state (08). -/
def MEM_MIG_STAT (t : Nat) : Nat := tileBase t + 0x40030
/-- Writes discarded (R256, R258, R264); saturates (08). -/
def MEM_LOST_WR (t : Nat) : Nat := tileBase t + 0x40034
/-- Enable, pilot limit, calibration strictness (09). -/
def OME_CTL (t : Nat) : Nat := tileBase t + 0x50000
/-- Engine state, bank and lock state (09). -/
def OME_STAT (t : Nat) : Nat := tileBase t + 0x50004
/-- Substitute row and line assignments (09). -/
def OME_SUB (t : Nat) : Nat := tileBase t + 0x50008
/-- Bank A rows 0 to 31 in Detention (09). -/
def OME_DET_A_LO (t : Nat) : Nat := tileBase t + 0x50010
/-- Bank A rows 32 to 63 in Detention (09). -/
def OME_DET_A_HI (t : Nat) : Nat := tileBase t + 0x50014
/-- Bank B rows 0 to 31 in Detention (09). -/
def OME_DET_B_LO (t : Nat) : Nat := tileBase t + 0x50018
/-- Bank B rows 32 to 63 in Detention (09). -/
def OME_DET_B_HI (t : Nat) : Nat := tileBase t + 0x5001C
/-- Lines 0 to 31 in Detention (09). -/
def OME_DET_LINE (t : Nat) : Nat := tileBase t + 0x50020
/-- Pilot error of the last pass (09). -/
def OME_PILOT (t : Nat) : Nat := tileBase t + 0x50030
/-- Duty limit and its cause (09). -/
def OME_DUTY (t : Nat) : Nat := tileBase t + 0x50034
/-- Passes run; saturates (09). -/
def OME_CNT_PASS (t : Nat) : Nat := tileBase t + 0x50040
/-- Passes marked bad by the pilot; saturates (09). -/
def OME_CNT_PASS_BAD (t : Nat) : Nat := tileBase t + 0x50044
/-- Entries to REACQ; saturates (09). -/
def OME_CNT_REACQ (t : Nat) : Nat := tileBase t + 0x50048
/-- Row results saturated; saturates (09). -/
def OME_CNT_SAT (t : Nat) : Nat := tileBase t + 0x5004C
/-- NONFINITE blocks converted; saturates (09). -/
def OME_CNT_NONFIN (t : Nat) : Nat := tileBase t + 0x50050
/-- Passes run without calibration currency; saturates (09). -/
def OME_CNT_STALE (t : Nat) : Nat := tileBase t + 0x50054
/-- MACs performed, bits [31:0] (R8) (09). -/
def OME_MAC_LO (t : Nat) : Nat := tileBase t + 0x50060
/-- MACs performed, bits [63:32]; the pair wraps (09). -/
def OME_MAC_HI (t : Nat) : Nat := tileBase t + 0x50064
/-- PROJECT batching wait (10). -/
def OMEJ_CTL (t : Nat) : Nat := tileBase t + 0x50100
/-- Jobs holding a share on this tile (10). -/
def OMEJ_STAT (t : Nat) : Nat := tileBase t + 0x50104
/-- Free staging (10). -/
def OMEJ_STAGE (t : Nat) : Nat := tileBase t + 0x50108
/-- Units written; saturates (10). -/
def OMEJ_CNT_UNITS (t : Nat) : Nat := tileBase t + 0x50110
/-- Pass groups rerun; saturates (10). -/
def OMEJ_CNT_RERUN (t : Nat) : Nat := tileBase t + 0x50114
/-- Jobs ended ERR_PHASE_UNSTABLE here; saturates (10). -/
def OMEJ_CNT_UNSTABLE (t : Nat) : Nat := tileBase t + 0x50118
/-- Input messages of wrong length dropped; saturates (10). -/
def OMEJ_CNT_BADMSG (t : Nat) : Nat := tileBase t + 0x5011C
/-- Optical permission and AUTO thresholds (11). -/
def COLL_CTL (t : Nat) : Nat := tileBase t + 0x60000
/-- Slots, running operations and contexts (11). -/
def COLL_STAT (t : Nat) : Nat := tileBase t + 0x60004
/-- Elements reduced digitally, bits [31:0] (R8) (11). -/
def COLL_CNT_DIG_LO (t : Nat) : Nat := tileBase t + 0x60010
/-- Elements reduced digitally, bits [63:32]; the pair wraps (11). -/
def COLL_CNT_DIG_HI (t : Nat) : Nat := tileBase t + 0x60014
/-- Collective OME passes; saturates (11). -/
def COLL_CNT_OPT_PASS (t : Nat) : Nat := tileBase t + 0x60018
/-- Segments reduced digitally after optical failure (R328); saturates (11). -/
def COLL_CNT_FALLBACK (t : Nat) : Nat := tileBase t + 0x6001C
/-- Token copies dropped at admission (R330); saturates (11). -/
def COLL_CNT_DROP_TOK (t : Nat) : Nat := tileBase t + 0x60020
/-- Collective TUs dropped (R320); saturates (11). -/
def COLL_CNT_BADTU (t : Nat) : Nat := tileBase t + 0x60024
/-- Enable, DT, interval, trace interval (12). -/
def BLK_CTL (t : Nat) : Nat := tileBase t + 0x90000
/-- Busy slots, trace state, queue depth (12). -/
def BLK_STAT (t : Nat) : Nat := tileBase t + 0x90004
/-- Channel shown in BLK_CH_STAT (12). -/
def BLK_CH_SEL (t : Nat) : Nat := tileBase t + 0x90008
/-- State of the selected channel (12). -/
def BLK_CH_STAT (t : Nat) : Nat := tileBase t + 0x9000C
/-- Last run ended on the tile (12). -/
def BLK_LAST (t : Nat) : Nat := tileBase t + 0x90010
/-- Lanes of port index i in Detention, bit j for lane j, bit 16 for S (12). -/
def BLK_DET_PORT (t i : Nat) : Nat := tileBase t + 0x90014 + 0x4 * i
/-- Runs committed; saturates (12). -/
def BLK_CNT_RUN (t : Nat) : Nat := tileBase t + 0x90020
/-- Runs rejected; saturates (12). -/
def BLK_CNT_REJ (t : Nat) : Nat := tileBase t + 0x90024
/-- Lane runs deferred; saturates (12). -/
def BLK_CNT_DEFER (t : Nat) : Nat := tileBase t + 0x90028
/-- Re-planned rates and withdrawn classes (12). -/
def AGE_PLAN (t : Nat) : Nat := tileBase t + 0x90030
/-- Strap values (R367) (13). -/
def STRAP_STAT : Nat := 0x1000
/-- Management chain address (R69) (13). -/
def MCH_ADDR : Nat := 0x1004
/-- Last module reset (13). -/
def RST_CAUSE : Nat := 0x1008
/-- Module reset counts (13). -/
def RST_CNT : Nat := 0x100C
/-- Reference and clock state (13). -/
def CLK_STAT : Nat := 0x2000
/-- Bell count, bits [31:0] (R8) (13). -/
def BELL_LO : Nat := 0x2008
/-- Bell count, bits [63:32] (13). -/
def BELL_HI : Nat := 0x200C
/-- Requested power mode (13). -/
def TILE_PWR_CTL (t : Nat) : Nat := tileBase t + 0x1000
/-- Power state and refusal cause (13). -/
def TILE_PWR_STAT (t : Nat) : Nat := tileBase t + 0x1004
/-- Last tile-level reset (13). -/
def TILE_RST_CAUSE (t : Nat) : Nat := tileBase t + 0x1008
/-- Abandoned crossings (R365); saturates (13). -/
def TILE_CDC_TMO (t : Nat) : Nat := tileBase t + 0x100C
/-- Coolant channels and limits (14). -/
def TH_CTL : Nat := 0x4000
/-- Hottest readings and coolant state (14). -/
def TH_STAT : Nat := 0x4004
/-- Channel mode and sensor constants (14). -/
def TH_RD_CFG (n : Nat) : Nat := 0x4100 + 0x10 * n
/-- Channel reading (14). -/
def TH_RD_VAL (n : Nat) : Nat := 0x4104 + 0x10 * n
/-- Channel limits (14). -/
def TH_RD_LIM (n : Nat) : Nat := 0x4108 + 0x10 * n
/-- Junction, PIC and laser readings (14). -/
def TTH_STAT (t : Nat) : Nat := tileBase t + 0xB0000
/-- Thermal duty limits (14). -/
def TTH_DUTY (t : Nat) : Nat := tileBase t + 0xB0004
/-- Thermal events (14). -/
def TTH_EVT (t : Nat) : Nat := tileBase t + 0xB0008
/-- Sources 0 to 31, sticky (15). -/
def FSW_LO (t : Nat) : Nat := tileBase t + 0xA0000
/-- Sources 32 to 63, sticky (15). -/
def FSW_HI (t : Nat) : Nat := tileBase t + 0xA0004
/-- Present line levels, sources 0 to 31 (15). -/
def FLVL_LO (t : Nat) : Nat := tileBase t + 0xA0008
/-- Present line levels, sources 32 to 63 (15). -/
def FLVL_HI (t : Nat) : Nat := tileBase t + 0xA000C
/-- First-source latch (15). -/
def FFIRST (t : Nat) : Nat := tileBase t + 0xA0010
/-- Bell time of the latched assertion, bits [31:0] (R8) (15). -/
def FFIRST_BELL_LO (t : Nat) : Nat := tileBase t + 0xA0018
/-- Bits [63:32] (15). -/
def FFIRST_BELL_HI (t : Nat) : Nat := tileBase t + 0xA001C
/-- Severities of sources 16k to 16k + 15 (15). -/
def FSEV (t k : Nat) : Nat := tileBase t + 0xA0020 + 0x4 * k
/-- Fault state and recovery counts (15). -/
def FSTATE (t : Nat) : Nat := tileBase t + 0xA0030
/-- Tile summaries 0 to 31 (15). -/
def MFSW_TILE_LO : Nat := 0x5000
/-- Tile summaries 32 to 47 in [15:0] (15). -/
def MFSW_TILE_HI : Nat := 0x5004
/-- Module sources, sticky (15). -/
def MFSW_SRC : Nat := 0x5008
/-- Module source levels (15). -/
def MFLVL_SRC : Nat := 0x500C
/-- Module first-source latch (15). -/
def MFIRST : Nat := 0x5010
/-- Bell time, bits [31:0] (R8) (15). -/
def MFIRST_BELL_LO : Nat := 0x5018
/-- Bits [63:32] (15). -/
def MFIRST_BELL_HI : Nat := 0x501C
/-- Module source severities (15). -/
def MFSEV (k : Nat) : Nat := 0x5020 + 0x4 * k
/-- Timers and limits (15). -/
def MFCTL : Nat := 0x5030
/-- Module fault state, FAULT_N (15). -/
def MFSTATE : Nat := 0x5034
/-- Rate limit, window and condensation period (15). -/
def RC_CTL : Nat := 0x6000
/-- Log state (15). -/
def RC_STAT : Nat := 0x6004
/-- SEQ of the newest record issued; numbering continues across every reset (R416) (15). -/
def RC_SEQ : Nat := 0x6008
/-- SEQ of the newest record in flash (15). -/
def RC_FLASH_SEQ : Nat := 0x600C
/-- Non-CRIT records dropped (15). -/
def RC_DROP : Nat := 0x6010
/-- CRIT records dropped (15). -/
def RC_DROP_CRIT : Nat := 0x6014
/-- Events folded by the rate limit (15). -/
def RC_FOLD : Nat := 0x6018
/-- Pair node, lease, revert, resync rate (16). -/
def TWIN_CFG : Nat := 0x7000
/-- State, paths, partner address (16). -/
def TWIN_STAT : Nat := 0x7004
/-- Partner node ID (16). -/
def TWIN_PARTNER : Nat := 0x7008
/-- HP_EPOCH, bits [31:0] (R8) (16). -/
def TWIN_HP_EPOCH_LO : Nat := 0x7010
/-- HP_EPOCH, bits [63:32] (16). -/
def TWIN_HP_EPOCH_HI : Nat := 0x7014
/-- Lease age per path (16). -/
def TWIN_LEASE : Nat := 0x7018
/-- Mirror records awaiting acknowledgement (16). -/
def TWIN_MIRROR : Nat := 0x701C
/-- Resync progress (16). -/
def TWIN_RESYNC : Nat := 0x7020
/-- Takeovers by this module; saturates (16). -/
def TWIN_CNT_HANDOVER : Nat := 0x7024
/-- TUs answered with HOLDER_NOTICE (R436); saturates (16). -/
def TWIN_CNT_NOTHOLDER : Nat := 0x7028
/-- Gang membership (16). -/
def GANG_STAT : Nat := 0x702C
/-- Enable, node ID, degrade permission (17). -/
def XSITE_CFG (n : Nat) : Nat := 0x9000 + 0x100 * n
/-- Site state and width (17). -/
def XSITE_STAT (n : Nat) : Nat := 0x9004 + 0x100 * n
/-- Die power and limit (17). -/
def XSITE_PWR (n : Nat) : Nat := 0x9008 + 0x100 * n
/-- Die temperature and declared thresholds (17). -/
def XSITE_TEMP (n : Nat) : Nat := 0x900C + 0x100 * n
/-- Slots, fuse count, boot source (18). -/
def SEC_STAT : Nat := 0xA000
/-- Running Proctor VERSION, bits [31:0] (R8) (18). -/
def SEC_FW_VER_LO : Nat := 0xA004
/-- Bits [63:32] (18). -/
def SEC_FW_VER_HI : Nat := 0xA008
/-- Next identity leaf, [29:0] (18). -/
def SEC_LEAF_NEXT : Nat := 0xA00C
/-- First unreserved leaf, [29:0] (18). -/
def SEC_LEAF_RES : Nat := 0xA010
/-- Checks failed with DETAIL 2 or above; saturates (18). -/
def SEC_AUTH_CNT : Nat := 0xA014
/-- Seconds left in TRIAL; 0 none (18). -/
def SEC_TRIAL : Nat := 0xA018
/-- Bit n: tile n loads the staged microcode (18). -/
def SEC_UCODE_NEW_LO : Nat := 0xA020
/-- Tiles 32 to 47 in [15:0] (18). -/
def SEC_UCODE_NEW_HI : Nat := 0xA024
/-- Test state and last run (19). -/
def TILE_TEST_STAT (t : Nat) : Nat := tileBase t + 0x20
/-- PASS mask of the last run (19). -/
def TILE_TEST_PASS (t : Nat) : Nat := tileBase t + 0x24
/-- FAIL mask of the last run (19). -/
def TILE_TEST_FAIL (t : Nat) : Nat := tileBase t + 0x28
/-- Bit n: tile n's stepping differs from the manifest (19). -/
def MOD_MISMATCH_LO : Nat := 0x200
/-- Tiles 32 to 47 in [15:0] (19). -/
def MOD_MISMATCH_HI : Nat := 0x204
/-- Cap, hysteresis and policy enable (20). -/
def PWR_CTL : Nat := 0x3000
/-- Idle times of the power policy (20). -/
def PWR_POLICY : Nat := 0x3004
/-- Ceiling, feeds and converters (20). -/
def PWR_STAT : Nat := 0x3008
/-- Input power (20). -/
def PWR_IN : Nat := 0x300C
/-- Blade A voltage and current (20). -/
def PWR_VIN_A : Nat := 0x3010
/-- Blade B voltage and current (20). -/
def PWR_VIN_B : Nat := 0x3014
/-- 12 V bus voltage and power (20). -/
def PWR_BUS : Nat := 0x3018
/-- Power events (20). -/
def PWR_EVT : Nat := 0x301C

end R

/-! ### Register fields -/

namespace F

def DIST_LOCAL_HBM_NS : Fld := ⟨R.DIST_LOCAL, 0, 16⟩
def DIST_LOCAL_LP_NS : Fld := ⟨R.DIST_LOCAL, 16, 16⟩
def DIST_TERMS_BRIM_HOP_NS : Fld := ⟨R.DIST_TERMS, 0, 6⟩
def DIST_TERMS_CROWN_MIN_NS : Fld := ⟨R.DIST_TERMS, 6, 8⟩
def DIST_TERMS_CROWN_TYP_NS : Fld := ⟨R.DIST_TERMS, 14, 9⟩
def DIST_TERMS_CROWN_MAX_NS : Fld := ⟨R.DIST_TERMS, 23, 9⟩
def TILE_ROLE_ROLE (t : Nat) : Fld := ⟨R.TILE_ROLE t, 0, 2⟩
def TILE_ROLE_RELEASED (t : Nat) : Fld := ⟨R.TILE_ROLE t, 2, 1⟩
def TILE_ROLE_STANDIN (t : Nat) : Fld := ⟨R.TILE_ROLE t, 3, 1⟩
def TILE_ROLE_STANDIN_FOR (t : Nat) : Fld := ⟨R.TILE_ROLE t, 4, 6⟩
def TILE_ROLE_ENGINE_OUT (t : Nat) : Fld := ⟨R.TILE_ROLE t, 10, 1⟩
def TILE_DIST_GEN (t : Nat) : Fld := ⟨R.TILE_DIST_GEN t, 0, 32⟩
def TILE_DIST_TYP_NS (t n : Nat) : Fld := ⟨R.TILE_DIST t n, 0, 16⟩
def TILE_DIST_BRIM_HOPS (t n : Nat) : Fld := ⟨R.TILE_DIST t n, 16, 4⟩
def TILE_DIST_CROWN (t n : Nat) : Fld := ⟨R.TILE_DIST t n, 20, 1⟩
def TILE_DIST_NO_MEMORY (t n : Nat) : Fld := ⟨R.TILE_DIST t n, 21, 1⟩
def TILE_DIST_UNREACHABLE (t n : Nat) : Fld := ⟨R.TILE_DIST t n, 22, 1⟩
def QDB_SQ_TAIL_TAIL (q : Nat) : Fld := ⟨R.QDB_SQ_TAIL q, 0, 12⟩
def QDB_CQ_HEAD_HEAD (q : Nat) : Fld := ⟨R.QDB_CQ_HEAD q, 0, 12⟩
def Q_CTL_EN (q : Nat) : Fld := ⟨R.Q_CTL q, 0, 1⟩
def Q_CTL_PORT (q : Nat) : Fld := ⟨R.Q_CTL q, 1, 1⟩
def Q_CTL_IRQ_EN (q : Nat) : Fld := ⟨R.Q_CTL q, 2, 1⟩
def Q_CTL_VEC (q : Nat) : Fld := ⟨R.Q_CTL q, 3, 5⟩
def Q_STAT_SQ_HEAD (q : Nat) : Fld := ⟨R.Q_STAT q, 0, 12⟩
def Q_STAT_STATE (q : Nat) : Fld := ⟨R.Q_STAT q, 12, 2⟩
def Q_STAT_CQ_FULL (q : Nat) : Fld := ⟨R.Q_STAT q, 14, 1⟩
def Q_STAT_CQ_TAIL (q : Nat) : Fld := ⟨R.Q_STAT q, 16, 12⟩
def Q_ERR_TORN (q : Nat) : Fld := ⟨R.Q_ERR q, 0, 1⟩
def Q_ERR_WRONG_PORT (q : Nat) : Fld := ⟨R.Q_ERR q, 1, 1⟩
def Q_ERR_DMA_ERR (q : Nat) : Fld := ⟨R.Q_ERR q, 2, 1⟩
def Q_ERR_BAD_DB (q : Nat) : Fld := ⟨R.Q_ERR q, 3, 1⟩
def Q_CQ_BASE_LO_ADDR (q : Nat) : Fld := ⟨R.Q_CQ_BASE_LO q, 12, 20⟩
def Q_CQ_BASE_HI_ADDR (q : Nat) : Fld := ⟨R.Q_CQ_BASE_HI q, 0, 32⟩
def Q_GLOBAL_PROCTOR_READY : Fld := ⟨R.Q_GLOBAL, 0, 1⟩
def Q_GLOBAL_SWITCHOVER : Fld := ⟨R.Q_GLOBAL, 1, 1⟩
def NODE_CFG_NODE : Fld := ⟨R.NODE_CFG, 0, 15⟩
def JRNL_HEAD_SEQ_LO : Fld := ⟨R.JRNL_HEAD_SEQ_LO, 0, 32⟩
def JRNL_HEAD_SEQ_HI : Fld := ⟨R.JRNL_HEAD_SEQ_HI, 0, 32⟩
def JRNL_OLDEST_SEQ_LO : Fld := ⟨R.JRNL_OLDEST_SEQ_LO, 0, 32⟩
def JRNL_OLDEST_SEQ_HI : Fld := ⟨R.JRNL_OLDEST_SEQ_HI, 0, 32⟩
def JRNL_STAT_GAP : Fld := ⟨R.JRNL_STAT, 0, 1⟩
def JRNL_STAT_WRAPPED : Fld := ⟨R.JRNL_STAT, 1, 1⟩
def JRNL_HEAD_HASH (i : Nat) : Fld := ⟨R.JRNL_HEAD_HASH i, 0, 32⟩
def LAS_STAT_STATE (t c : Nat) : Fld := ⟨R.LAS_STAT t c, 0, 3⟩
def LAS_STAT_ROLE (t c : Nat) : Fld := ⟨R.LAS_STAT t c, 4, 3⟩
def LAS_STAT_TJ (t c : Nat) : Fld := ⟨R.LAS_STAT t c, 8, 8⟩
def LAS_BIAS_BIAS (t c : Nat) : Fld := ⟨R.LAS_BIAS t c, 0, 16⟩
def LAS_BIAS_COMM_BIAS (t c : Nat) : Fld := ⟨R.LAS_BIAS t c, 16, 16⟩
def LAS_LIM_LIM_PCT (t c : Nat) : Fld := ⟨R.LAS_LIM t c, 0, 8⟩
def SUB_MAP_SUB0_FOR (t : Nat) : Fld := ⟨R.SUB_MAP t, 0, 3⟩
def SUB_MAP_SUB1_FOR (t : Nat) : Fld := ⟨R.SUB_MAP t, 4, 3⟩
def FADE_STAT_STAGE (t r : Nat) : Fld := ⟨R.FADE_STAT t r, 0, 4⟩
def FADE_STAT_FADE_CDB (t r : Nat) : Fld := ⟨R.FADE_STAT t r, 4, 12⟩
def FADE_STAT_WORST (t r : Nat) : Fld := ⟨R.FADE_STAT t r, 16, 6⟩
def FADE_STAT_FIRST_POINT (t r : Nat) : Fld := ⟨R.FADE_STAT t r, 22, 3⟩
def FADE_STAT_FAST (t r : Nat) : Fld := ⟨R.FADE_STAT t r, 25, 1⟩
def EYESAFE_STATE (t i : Nat) : Fld := ⟨R.EYESAFE t i, 0, 2⟩
def EYESAFE_LOS (t i : Nat) : Fld := ⟨R.EYESAFE t i, 2, 1⟩
def EYESAFE_BEACON_OK (t i : Nat) : Fld := ⟨R.EYESAFE t i, 3, 1⟩
def EYESAFE_SHUT_CNT (t i : Nat) : Fld := ⟨R.EYESAFE t i, 16, 16⟩
def MON_SEL_POINT (t : Nat) : Fld := ⟨R.MON_SEL t, 0, 3⟩
def MON_SEL_PATH (t : Nat) : Fld := ⟨R.MON_SEL t, 3, 3⟩
def MON_SEL_INDEX (t : Nat) : Fld := ⟨R.MON_SEL t, 6, 6⟩
def MON_VAL_PWR (t : Nat) : Fld := ⟨R.MON_VAL t, 0, 16⟩
def MON_VAL_COMM (t : Nat) : Fld := ⟨R.MON_VAL t, 16, 16⟩
def RING_SUM_LOCKED (t : Nat) : Fld := ⟨R.RING_SUM t, 0, 12⟩
def RING_SUM_LOST (t : Nat) : Fld := ⟨R.RING_SUM t, 12, 8⟩
def RING_SUM_MIN_HEAD (t : Nat) : Fld := ⟨R.RING_SUM t, 20, 8⟩
def RING_SUM_HEADROOM_LOW (t : Nat) : Fld := ⟨R.RING_SUM t, 28, 1⟩
def GRID_STAT_REF_OK (t : Nat) : Fld := ⟨R.GRID_STAT t, 0, 1⟩
def GRID_STAT_GRID_OFS (t : Nat) : Fld := ⟨R.GRID_STAT t, 1, 1⟩
def GRID_STAT_LINE23_OFS (t : Nat) : Fld := ⟨R.GRID_STAT t, 2, 12⟩
def GRID_STAT_REF_PWR (t : Nat) : Fld := ⟨R.GRID_STAT t, 16, 16⟩
def SDS_CTL_MAX_RATE (p : Nat) : Fld := ⟨R.SDS_CTL p, 0, 2⟩
def SDS_CTL_A1_EN (p : Nat) : Fld := ⟨R.SDS_CTL p, 2, 1⟩
def SDS_CTL_QUIET_IDLE (p : Nat) : Fld := ⟨R.SDS_CTL p, 3, 5⟩
def SDS_STAT_STAGE (p : Nat) : Fld := ⟨R.SDS_STAT p, 0, 3⟩
def SDS_STAT_RATE (p : Nat) : Fld := ⟨R.SDS_STAT p, 3, 2⟩
def SDS_STAT_WIDTH (p : Nat) : Fld := ⟨R.SDS_STAT p, 5, 5⟩
def SDS_STAT_REVERSED (p : Nat) : Fld := ⟨R.SDS_STAT p, 10, 1⟩
def SDS_STAT_RX_QUIET (p : Nat) : Fld := ⟨R.SDS_STAT p, 11, 1⟩
def SDS_STAT_A1_BLOCKED (p : Nat) : Fld := ⟨R.SDS_STAT p, 12, 1⟩
def SDS_STAT_FULL_CNT (p : Nat) : Fld := ⟨R.SDS_STAT p, 16, 8⟩
def SDS_STAT_FAST_CNT (p : Nat) : Fld := ⟨R.SDS_STAT p, 24, 8⟩
def ESCAN_STAT_LANE (p : Nat) : Fld := ⟨R.ESCAN_STAT p, 0, 5⟩
def ESCAN_STAT_USER (p : Nat) : Fld := ⟨R.ESCAN_STAT p, 5, 2⟩
def LANE_STAT_CDR_LOCK (p j : Nat) : Fld := ⟨R.LANE_STAT p j, 0, 1⟩
def LANE_STAT_POL_INV (p j : Nat) : Fld := ⟨R.LANE_STAT p j, 1, 1⟩
def LANE_STAT_IN_MAP (p j : Nat) : Fld := ⟨R.LANE_STAT p j, 2, 1⟩
def LANE_STAT_STANDBY (p j : Nat) : Fld := ⟨R.LANE_STAT p j, 3, 1⟩
def LANE_STAT_TAP_SAT (p j : Nat) : Fld := ⟨R.LANE_STAT p j, 4, 1⟩
def LANE_STAT_EQ_FAIL (p j : Nat) : Fld := ⟨R.LANE_STAT p j, 5, 1⟩
def LANE_STAT_FAR_LANE (p j : Nat) : Fld := ⟨R.LANE_STAT p j, 6, 5⟩
def LANE_STAT_CTLE (p j : Nat) : Fld := ⟨R.LANE_STAT p j, 11, 4⟩
def LANE_STAT_FREQ_OFS (p j : Nat) : Fld := ⟨R.LANE_STAT p j, 16, 16⟩
def LANE_CERR (p j : Nat) : Fld := ⟨R.LANE_CERR p j, 0, 32⟩
def LANE_TAP_TAP_A (p j n : Nat) : Fld := ⟨R.LANE_TAP p j n, 0, 8⟩
def LANE_TAP_TAP_B (p j n : Nat) : Fld := ⟨R.LANE_TAP p j n, 8, 8⟩
def LANE_TAP_TAP_C (p j n : Nat) : Fld := ⟨R.LANE_TAP p j n, 16, 8⟩
def LANE_TAP_TAP_D (p j n : Nat) : Fld := ⟨R.LANE_TAP p j n, 24, 8⟩
def LANE_THR_THR_LO (p j : Nat) : Fld := ⟨R.LANE_THR p j, 0, 8⟩
def LANE_THR_THR_MID (p j : Nat) : Fld := ⟨R.LANE_THR p j, 8, 8⟩
def LANE_THR_THR_HI (p j : Nat) : Fld := ⟨R.LANE_THR p j, 16, 8⟩
def CXL_PHY_CTL_MAX_RATE (n : Nat) : Fld := ⟨R.CXL_PHY_CTL n, 0, 2⟩
def CXL_PHY_CTL_MAX_WIDTH (n : Nat) : Fld := ⟨R.CXL_PHY_CTL n, 2, 2⟩
def CXL_PHY_CTL_L0P_EN (n : Nat) : Fld := ⟨R.CXL_PHY_CTL n, 4, 1⟩
def CXL_PHY_CTL_L1_EN (n : Nat) : Fld := ⟨R.CXL_PHY_CTL n, 5, 1⟩
def CXL_PHY_STAT_LINK_UP (n : Nat) : Fld := ⟨R.CXL_PHY_STAT n, 0, 1⟩
def CXL_PHY_STAT_RATE (n : Nat) : Fld := ⟨R.CXL_PHY_STAT n, 1, 3⟩
def CXL_PHY_STAT_WIDTH (n : Nat) : Fld := ⟨R.CXL_PHY_STAT n, 4, 5⟩
def CXL_PHY_STAT_L0P_WIDTH (n : Nat) : Fld := ⟨R.CXL_PHY_STAT n, 9, 5⟩
def CXL_PHY_STAT_MEM_EN (n : Nat) : Fld := ⟨R.CXL_PHY_STAT n, 14, 1⟩
def CXL_PHY_STAT_DEGRADED (n : Nat) : Fld := ⟨R.CXL_PHY_STAT n, 15, 1⟩
def CXL_PHY_STAT_LANE_REV (n : Nat) : Fld := ⟨R.CXL_PHY_STAT n, 16, 1⟩
def LINK_CTL_EN (p : Nat) : Fld := ⟨R.LINK_CTL p, 0, 1⟩
def LINK_CTL_REPLAY_LIMIT (p : Nat) : Fld := ⟨R.LINK_CTL p, 1, 4⟩
def LINK_CTL_ACK_IDLE (p : Nat) : Fld := ⟨R.LINK_CTL p, 5, 4⟩
def LINK_CTL_VC0_SPLIT (p : Nat) : Fld := ⟨R.LINK_CTL p, 9, 12⟩
def LINK_STAT_STATE (p : Nat) : Fld := ⟨R.LINK_STAT p, 0, 3⟩
def LINK_STAT_FC_LIMITED (p : Nat) : Fld := ⟨R.LINK_STAT p, 3, 1⟩
def LINK_STAT_CONFLICT (p : Nat) : Fld := ⟨R.LINK_STAT p, 4, 1⟩
def LINK_STAT_REPLAY_NUM (p : Nat) : Fld := ⟨R.LINK_STAT p, 5, 4⟩
def LINK_STAT_POST_RETRAIN (p : Nat) : Fld := ⟨R.LINK_STAT p, 9, 1⟩
def LINK_STAT_LANESET_PEND (p : Nat) : Fld := ⟨R.LINK_STAT p, 10, 1⟩
def LINK_STAT_EPOCH (p : Nat) : Fld := ⟨R.LINK_STAT p, 16, 16⟩
def LINK_RTT_RTT_NS (p : Nat) : Fld := ⟨R.LINK_RTT p, 0, 16⟩
def LINK_RTT_HR (p : Nat) : Fld := ⟨R.LINK_RTT p, 16, 12⟩
def LINK_FC_RX_XOFF0 (p : Nat) : Fld := ⟨R.LINK_FC p, 0, 1⟩
def LINK_FC_RX_XOFF1 (p : Nat) : Fld := ⟨R.LINK_FC p, 1, 1⟩
def LINK_FC_TX_XOFF0 (p : Nat) : Fld := ⟨R.LINK_FC p, 2, 1⟩
def LINK_FC_TX_XOFF1 (p : Nat) : Fld := ⟨R.LINK_FC p, 3, 1⟩
def LINK_FC_VC0_PART (p : Nat) : Fld := ⟨R.LINK_FC p, 4, 12⟩
def LINK_FC_VC1_PART (p : Nat) : Fld := ⟨R.LINK_FC p, 16, 12⟩
def LINK_SEQ_TX_SEQ (p : Nat) : Fld := ⟨R.LINK_SEQ_TX p, 0, 24⟩
def LINK_SEQ_ACK_SEQ (p : Nat) : Fld := ⟨R.LINK_SEQ_ACK p, 0, 24⟩
def LINK_SEQ_RX_SEQ (p : Nat) : Fld := ⟨R.LINK_SEQ_RX p, 0, 24⟩
def LINK_REPLAY_TILE_N (p : Nat) : Fld := ⟨R.LINK_REPLAY_TILE p, 0, 14⟩
def LINK_REPLAY_SPILL_N (p : Nat) : Fld := ⟨R.LINK_REPLAY_SPILL p, 0, 19⟩
def LINK_ERR_PROTO (p : Nat) : Fld := ⟨R.LINK_ERR p, 0, 1⟩
def LINK_ERR_RX_OVF (p : Nat) : Fld := ⟨R.LINK_ERR p, 1, 1⟩
def LINK_ERR_WINDOW_FULL (p : Nat) : Fld := ⟨R.LINK_ERR p, 2, 1⟩
def LINK_ERR_SPILL_STALL (p : Nat) : Fld := ⟨R.LINK_ERR p, 3, 1⟩
def LINK_ERR_NAK_STALE (p : Nat) : Fld := ⟨R.LINK_ERR p, 4, 1⟩
def LINK_ERR_LANESET_TIMEOUT (p : Nat) : Fld := ⟨R.LINK_ERR p, 5, 1⟩
def LINK_CNT_DROP (p : Nat) : Fld := ⟨R.LINK_CNT_DROP p, 0, 32⟩
def LINK_CNT_REPLAY (p : Nat) : Fld := ⟨R.LINK_CNT_REPLAY p, 0, 32⟩
def LINK_CNT_DUP (p : Nat) : Fld := ⟨R.LINK_CNT_DUP p, 0, 32⟩
def LINK_CNT_CORR (p : Nat) : Fld := ⟨R.LINK_CNT_CORR p, 0, 32⟩
def LINK_POS_POS_A (p n : Nat) : Fld := ⟨R.LINK_POS p n, 0, 8⟩
def LINK_POS_POS_B (p n : Nat) : Fld := ⟨R.LINK_POS p n, 8, 8⟩
def LINK_POS_POS_C (p n : Nat) : Fld := ⟨R.LINK_POS p n, 16, 8⟩
def LINK_POS_POS_D (p n : Nat) : Fld := ⟨R.LINK_POS p n, 24, 8⟩
def CROWN_CTL_EN (t : Nat) : Fld := ⟨R.CROWN_CTL t, 0, 1⟩
def CROWN_CTL_RELAY_EN (t : Nat) : Fld := ⟨R.CROWN_CTL t, 1, 1⟩
def CROWN_CTL_RELAY_THR (t : Nat) : Fld := ⟨R.CROWN_CTL t, 2, 6⟩
def CROWN_CTL_RTO (t : Nat) : Fld := ⟨R.CROWN_CTL t, 8, 8⟩
def CROWN_CTL_HOLD (t : Nat) : Fld := ⟨R.CROWN_CTL t, 16, 8⟩
def CROWN_STAT_STATE (t : Nat) : Fld := ⟨R.CROWN_STAT t, 0, 2⟩
def CROWN_STAT_PHASE (t : Nat) : Fld := ⟨R.CROWN_STAT t, 2, 2⟩
def CROWN_STAT_ASLEEP (t : Nat) : Fld := ⟨R.CROWN_STAT t, 4, 1⟩
def CROWN_SLOT_LO (t : Nat) : Fld := ⟨R.CROWN_SLOT_LO t, 0, 32⟩
def CROWN_SLOT_HI (t : Nat) : Fld := ⟨R.CROWN_SLOT_HI t, 0, 32⟩
def CROWN_DLY_TX_DLY (t : Nat) : Fld := ⟨R.CROWN_DLY t, 0, 10⟩
def CROWN_DLY_RX_DLY (t : Nat) : Fld := ⟨R.CROWN_DLY t, 16, 10⟩
def CROWN_DEAD_TX_DEAD (t : Nat) : Fld := ⟨R.CROWN_DEAD t, 0, 16⟩
def CROWN_DEAD_RX_DEAD (t : Nat) : Fld := ⟨R.CROWN_DEAD t, 16, 16⟩
def CROWN_RELAY_STAT_OCC (t : Nat) : Fld := ⟨R.CROWN_RELAY_STAT t, 0, 14⟩
def CROWN_RELAY_STAT_RBUSY (t : Nat) : Fld := ⟨R.CROWN_RELAY_STAT t, 14, 1⟩
def CROWN_RELAY_STAT_DROP (t : Nat) : Fld := ⟨R.CROWN_RELAY_STAT t, 16, 16⟩
def CROWN_CNT_BURST (t : Nat) : Fld := ⟨R.CROWN_CNT_BURST t, 0, 32⟩
def CROWN_CNT_PRE_FAIL (t : Nat) : Fld := ⟨R.CROWN_CNT_PRE_FAIL t, 0, 32⟩
def CROWN_CNT_UNCORR (t : Nat) : Fld := ⟨R.CROWN_CNT_UNCORR t, 0, 32⟩
def CROWN_CNT_RETX (t : Nat) : Fld := ⟨R.CROWN_CNT_RETX t, 0, 32⟩
def CROWN_CNT_RELAY_OUT (t : Nat) : Fld := ⟨R.CROWN_CNT_RELAY_OUT t, 0, 32⟩
def CROWN_CNT_RELAY_FWD (t : Nat) : Fld := ⟨R.CROWN_CNT_RELAY_FWD t, 0, 32⟩
def CROWN_PLANE_TX_OK (t pl : Nat) : Fld := ⟨R.CROWN_PLANE t pl, 0, 1⟩
def CROWN_PLANE_RX_OK (t pl : Nat) : Fld := ⟨R.CROWN_PLANE t pl, 1, 1⟩
def CROWN_PLANE_DETENTION (t pl : Nat) : Fld := ⟨R.CROWN_PLANE t pl, 2, 1⟩
def CROWN_PLANE_BLOCKING (t pl : Nat) : Fld := ⟨R.CROWN_PLANE t pl, 3, 1⟩
def CROWN_PLANE_UNCORR (t pl : Nat) : Fld := ⟨R.CROWN_PLANE t pl, 16, 16⟩
def BRIM_CTL_UE_LIM (t e : Nat) : Fld := ⟨R.BRIM_CTL t e, 0, 16⟩
def BRIM_CTL_UE_WIN (t e : Nat) : Fld := ⟨R.BRIM_CTL t e, 16, 8⟩
def BRIM_STAT_STATE (t e : Nat) : Fld := ⟨R.BRIM_STAT t e, 0, 2⟩
def BRIM_STAT_BY_CMD (t e : Nat) : Fld := ⟨R.BRIM_STAT t e, 2, 1⟩
def BRIM_STAT_TEST_FAILS (t e : Nat) : Fld := ⟨R.BRIM_STAT t e, 3, 2⟩
def BRIM_CE (t e : Nat) : Fld := ⟨R.BRIM_CE t e, 0, 32⟩
def BRIM_UE (t e : Nat) : Fld := ⟨R.BRIM_UE t e, 0, 32⟩
def BRIM_RETRY (t e : Nat) : Fld := ⟨R.BRIM_RETRY t e, 0, 32⟩
def STRM_CTL_RECLAIM_EN (t : Nat) : Fld := ⟨R.STRM_CTL t, 0, 1⟩
def STRM_CTL_RECLAIM_IDLE (t : Nat) : Fld := ⟨R.STRM_CTL t, 1, 15⟩
def STRM_CTL_RETURN_HOLD (t : Nat) : Fld := ⟨R.STRM_CTL t, 16, 8⟩
def STRM_CTL_SUSPEND_TMO (t : Nat) : Fld := ⟨R.STRM_CTL t, 24, 8⟩
def STRM_STAT_OPEN (t : Nat) : Fld := ⟨R.STRM_STAT t, 0, 15⟩
def STRM_STAT_ON_ALT (t : Nat) : Fld := ⟨R.STRM_STAT t, 16, 15⟩
def STRM_CNT_DUP (t : Nat) : Fld := ⟨R.STRM_CNT_DUP t, 0, 32⟩
def STRM_CNT_CLOSED (t : Nat) : Fld := ⟨R.STRM_CNT_CLOSED t, 0, 32⟩
def STRM_CNT_BAD (t : Nat) : Fld := ⟨R.STRM_CNT_BAD t, 0, 32⟩
def STRM_CNT_FULL (t : Nat) : Fld := ⟨R.STRM_CNT_FULL t, 0, 32⟩
def STRM_CNT_RECLAIM (t : Nat) : Fld := ⟨R.STRM_CNT_RECLAIM t, 0, 32⟩
def STRM_RING_SEL_HANDLE (t : Nat) : Fld := ⟨R.STRM_RING_SEL t, 0, 32⟩
def STRM_RING_HEAD_HEAD (t : Nat) : Fld := ⟨R.STRM_RING_HEAD t, 0, 13⟩
def FAMC_STAT_COPY (t : Nat) : Fld := ⟨R.FAMC_STAT t, 0, 1⟩
def FAMC_STAT_SINGLE (t : Nat) : Fld := ⟨R.FAMC_STAT t, 1, 1⟩
def FAMC_STAT_INVAL_PEND (t : Nat) : Fld := ⟨R.FAMC_STAT t, 2, 1⟩
def FAMC_CNT_HIT (t : Nat) : Fld := ⟨R.FAMC_CNT_HIT t, 0, 32⟩
def FAMC_CNT_MISS (t : Nat) : Fld := ⟨R.FAMC_CNT_MISS t, 0, 32⟩
def MEM_CTL_SCRUB_HOURS (t : Nat) : Fld := ⟨R.MEM_CTL t, 0, 8⟩
def MEM_CTL_RETIRE_CE (t : Nat) : Fld := ⟨R.MEM_CTL t, 8, 8⟩
def MEM_CTL_MIG_RATE (t : Nat) : Fld := ⟨R.MEM_CTL t, 16, 8⟩
def MEM_STAT_STATE (t : Nat) : Fld := ⟨R.MEM_STAT t, 0, 3⟩
def MEM_STAT_TIER (t : Nat) : Fld := ⟨R.MEM_STAT t, 3, 1⟩
def MEM_STAT_REFRESH_2X (t : Nat) : Fld := ⟨R.MEM_STAT t, 4, 1⟩
def MEM_STAT_SCRUB_ACTIVE (t : Nat) : Fld := ⟨R.MEM_STAT t, 5, 1⟩
def MEM_STAT_TEMP (t : Nat) : Fld := ⟨R.MEM_STAT t, 8, 8⟩
def MEM_CFG_OME_FRAMES (t : Nat) : Fld := ⟨R.MEM_CFG t, 0, 13⟩
def MEM_FRAMES_FREE (t : Nat) : Fld := ⟨R.MEM_FRAMES t, 0, 18⟩
def MEM_RETIRED_N (t : Nat) : Fld := ⟨R.MEM_RETIRED t, 0, 18⟩
def MEM_SCRUB_POS_POS (t : Nat) : Fld := ⟨R.MEM_SCRUB_POS t, 0, 29⟩
def MEM_CE (t : Nat) : Fld := ⟨R.MEM_CE t, 0, 32⟩
def MEM_UE (t : Nat) : Fld := ⟨R.MEM_UE t, 0, 32⟩
def MEM_ODECC (t : Nat) : Fld := ⟨R.MEM_ODECC t, 0, 32⟩
def MEM_POISON (t : Nat) : Fld := ⟨R.MEM_POISON t, 0, 32⟩
def MEM_MIG_STAT_ACTIVE (t : Nat) : Fld := ⟨R.MEM_MIG_STAT t, 0, 1⟩
def MEM_MIG_STAT_HOLD (t : Nat) : Fld := ⟨R.MEM_MIG_STAT t, 1, 1⟩
def MEM_MIG_STAT_QUEUED (t : Nat) : Fld := ⟨R.MEM_MIG_STAT t, 2, 14⟩
def MEM_MIG_STAT_DIRTY_BLK (t : Nat) : Fld := ⟨R.MEM_MIG_STAT t, 16, 10⟩
def MEM_LOST_WR (t : Nat) : Fld := ⟨R.MEM_LOST_WR t, 0, 32⟩
def OME_CTL_EN (t : Nat) : Fld := ⟨R.OME_CTL t, 0, 1⟩
def OME_CTL_CAL_STRICT (t : Nat) : Fld := ⟨R.OME_CTL t, 1, 1⟩
def OME_CTL_PILOT_LIM (t : Nat) : Fld := ⟨R.OME_CTL t, 4, 8⟩
def OME_STAT_STATE (t : Nat) : Fld := ⟨R.OME_STAT t, 0, 4⟩
def OME_STAT_ACTIVE_BANK (t : Nat) : Fld := ⟨R.OME_STAT t, 4, 1⟩
def OME_STAT_BANK_A_OK (t : Nat) : Fld := ⟨R.OME_STAT t, 5, 1⟩
def OME_STAT_BANK_B_OK (t : Nat) : Fld := ⟨R.OME_STAT t, 6, 1⟩
def OME_STAT_PILOT_LOCK (t : Nat) : Fld := ⟨R.OME_STAT t, 7, 1⟩
def OME_STAT_CAL_STALE (t : Nat) : Fld := ⟨R.OME_STAT t, 8, 1⟩
def OME_STAT_DEGRADED (t : Nat) : Fld := ⟨R.OME_STAT t, 9, 1⟩
def OME_SUB_SUBROW_A (t : Nat) : Fld := ⟨R.OME_SUB t, 0, 7⟩
def OME_SUB_SUBROW_B (t : Nat) : Fld := ⟨R.OME_SUB t, 8, 7⟩
def OME_SUB_SUBLINE (t : Nat) : Fld := ⟨R.OME_SUB t, 16, 6⟩
def OME_SUB_USE_A (t : Nat) : Fld := ⟨R.OME_SUB t, 22, 2⟩
def OME_SUB_USE_B (t : Nat) : Fld := ⟨R.OME_SUB t, 24, 2⟩
def OME_SUB_USE_LINE (t : Nat) : Fld := ⟨R.OME_SUB t, 26, 2⟩
def OME_DET_A_LO (t : Nat) : Fld := ⟨R.OME_DET_A_LO t, 0, 32⟩
def OME_DET_A_HI (t : Nat) : Fld := ⟨R.OME_DET_A_HI t, 0, 32⟩
def OME_DET_B_LO (t : Nat) : Fld := ⟨R.OME_DET_B_LO t, 0, 32⟩
def OME_DET_B_HI (t : Nat) : Fld := ⟨R.OME_DET_B_HI t, 0, 32⟩
def OME_DET_LINE (t : Nat) : Fld := ⟨R.OME_DET_LINE t, 0, 32⟩
def OME_PILOT_LAST_MAX (t : Nat) : Fld := ⟨R.OME_PILOT t, 0, 16⟩
def OME_PILOT_WORST_ROW (t : Nat) : Fld := ⟨R.OME_PILOT t, 16, 7⟩
def OME_PILOT_WORST_BANK (t : Nat) : Fld := ⟨R.OME_PILOT t, 23, 1⟩
def OME_DUTY_DUTY_PCT (t : Nat) : Fld := ⟨R.OME_DUTY t, 0, 8⟩
def OME_DUTY_CAUSE (t : Nat) : Fld := ⟨R.OME_DUTY t, 8, 2⟩
def OME_CNT_PASS (t : Nat) : Fld := ⟨R.OME_CNT_PASS t, 0, 32⟩
def OME_CNT_PASS_BAD (t : Nat) : Fld := ⟨R.OME_CNT_PASS_BAD t, 0, 32⟩
def OME_CNT_REACQ (t : Nat) : Fld := ⟨R.OME_CNT_REACQ t, 0, 32⟩
def OME_CNT_SAT (t : Nat) : Fld := ⟨R.OME_CNT_SAT t, 0, 32⟩
def OME_CNT_NONFIN (t : Nat) : Fld := ⟨R.OME_CNT_NONFIN t, 0, 32⟩
def OME_CNT_STALE (t : Nat) : Fld := ⟨R.OME_CNT_STALE t, 0, 32⟩
def OME_MAC_LO (t : Nat) : Fld := ⟨R.OME_MAC_LO t, 0, 32⟩
def OME_MAC_HI (t : Nat) : Fld := ⟨R.OME_MAC_HI t, 0, 32⟩
def OMEJ_CTL_PROJ_WAIT (t : Nat) : Fld := ⟨R.OMEJ_CTL t, 0, 8⟩
def OMEJ_STAT_JOBS (t : Nat) : Fld := ⟨R.OMEJ_STAT t, 0, 11⟩
def OMEJ_STAT_RUN_PRIO (t : Nat) : Fld := ⟨R.OMEJ_STAT t, 12, 2⟩
def OMEJ_STAT_STREAMED (t : Nat) : Fld := ⟨R.OMEJ_STAT t, 14, 1⟩
def OMEJ_STAGE_HBM_FREE (t : Nat) : Fld := ⟨R.OMEJ_STAGE t, 0, 13⟩
def OMEJ_STAGE_SRAM_FREE (t : Nat) : Fld := ⟨R.OMEJ_STAGE t, 16, 12⟩
def OMEJ_CNT_UNITS (t : Nat) : Fld := ⟨R.OMEJ_CNT_UNITS t, 0, 32⟩
def OMEJ_CNT_RERUN (t : Nat) : Fld := ⟨R.OMEJ_CNT_RERUN t, 0, 32⟩
def OMEJ_CNT_UNSTABLE (t : Nat) : Fld := ⟨R.OMEJ_CNT_UNSTABLE t, 0, 32⟩
def OMEJ_CNT_BADMSG (t : Nat) : Fld := ⟨R.OMEJ_CNT_BADMSG t, 0, 32⟩
def COLL_CTL_OPT_EN (t : Nat) : Fld := ⟨R.COLL_CTL t, 0, 1⟩
def COLL_CTL_AUTO_MINC (t : Nat) : Fld := ⟨R.COLL_CTL t, 1, 4⟩
def COLL_CTL_AUTO_MIN (t : Nat) : Fld := ⟨R.COLL_CTL t, 5, 8⟩
def COLL_STAT_SLOTS_USED (t : Nat) : Fld := ⟨R.COLL_STAT t, 0, 7⟩
def COLL_STAT_OPS_RUNNING (t : Nat) : Fld := ⟨R.COLL_STAT t, 7, 3⟩
def COLL_STAT_OPT_BUSY (t : Nat) : Fld := ⟨R.COLL_STAT t, 10, 1⟩
def COLL_STAT_CTXS (t : Nat) : Fld := ⟨R.COLL_STAT t, 12, 13⟩
def COLL_CNT_DIG_LO (t : Nat) : Fld := ⟨R.COLL_CNT_DIG_LO t, 0, 32⟩
def COLL_CNT_DIG_HI (t : Nat) : Fld := ⟨R.COLL_CNT_DIG_HI t, 0, 32⟩
def COLL_CNT_OPT_PASS (t : Nat) : Fld := ⟨R.COLL_CNT_OPT_PASS t, 0, 32⟩
def COLL_CNT_FALLBACK (t : Nat) : Fld := ⟨R.COLL_CNT_FALLBACK t, 0, 32⟩
def COLL_CNT_DROP_TOK (t : Nat) : Fld := ⟨R.COLL_CNT_DROP_TOK t, 0, 32⟩
def COLL_CNT_BADTU (t : Nat) : Fld := ⟨R.COLL_CNT_BADTU t, 0, 32⟩
def BLK_CTL_EN (t : Nat) : Fld := ⟨R.BLK_CTL t, 0, 1⟩
def BLK_CTL_DT (t : Nat) : Fld := ⟨R.BLK_CTL t, 1, 8⟩
def BLK_CTL_INTERVAL (t : Nat) : Fld := ⟨R.BLK_CTL t, 9, 16⟩
def BLK_CTL_REF_INT (t : Nat) : Fld := ⟨R.BLK_CTL t, 25, 7⟩
def BLK_STAT_BUSY (t : Nat) : Fld := ⟨R.BLK_STAT t, 0, 5⟩
def BLK_STAT_TRACE (t : Nat) : Fld := ⟨R.BLK_STAT t, 5, 1⟩
def BLK_STAT_TRACE_OK (t : Nat) : Fld := ⟨R.BLK_STAT t, 6, 1⟩
def BLK_STAT_QUEUED (t : Nat) : Fld := ⟨R.BLK_STAT t, 7, 9⟩
def BLK_STAT_TRACE_AGE (t : Nat) : Fld := ⟨R.BLK_STAT t, 16, 16⟩
def BLK_CH_SEL_CHAN (t : Nat) : Fld := ⟨R.BLK_CH_SEL t, 0, 16⟩
def BLK_CH_STAT_STATE (t : Nat) : Fld := ⟨R.BLK_CH_STAT t, 0, 3⟩
def BLK_CH_STAT_FAILS (t : Nat) : Fld := ⟨R.BLK_CH_STAT t, 3, 2⟩
def BLK_CH_STAT_TEMP_LAST (t : Nat) : Fld := ⟨R.BLK_CH_STAT t, 8, 8⟩
def BLK_CH_STAT_AGE_S (t : Nat) : Fld := ⟨R.BLK_CH_STAT t, 16, 16⟩
def BLK_LAST_CHAN (t : Nat) : Fld := ⟨R.BLK_LAST t, 0, 16⟩
def BLK_LAST_RESULT (t : Nat) : Fld := ⟨R.BLK_LAST t, 16, 4⟩
def BLK_LAST_TRIGGER (t : Nat) : Fld := ⟨R.BLK_LAST t, 20, 4⟩
def BLK_DET_PORT_LANES (t i : Nat) : Fld := ⟨R.BLK_DET_PORT t i, 0, 17⟩
def BLK_CNT_RUN (t : Nat) : Fld := ⟨R.BLK_CNT_RUN t, 0, 32⟩
def BLK_CNT_REJ (t : Nat) : Fld := ⟨R.BLK_CNT_REJ t, 0, 32⟩
def BLK_CNT_DEFER (t : Nat) : Fld := ⟨R.BLK_CNT_DEFER t, 0, 32⟩
def AGE_PLAN_PORT_RATE (t : Nat) : Fld := ⟨R.AGE_PLAN t, 0, 6⟩
def AGE_PLAN_HBM_RATE (t : Nat) : Fld := ⟨R.AGE_PLAN t, 6, 2⟩
def AGE_PLAN_LP_RATE (t : Nat) : Fld := ⟨R.AGE_PLAN t, 8, 2⟩
def AGE_PLAN_SPLIT3_OFF (t : Nat) : Fld := ⟨R.AGE_PLAN t, 10, 1⟩
def AGE_PLAN_SPLIT2_OFF (t : Nat) : Fld := ⟨R.AGE_PLAN t, 11, 1⟩
def AGE_PLAN_MEM_PENDING (t : Nat) : Fld := ⟨R.AGE_PLAN t, 12, 1⟩
def STRAP_STAT_CLKM : Fld := ⟨R.STRAP_STAT, 0, 1⟩
def STRAP_STAT_BOOT : Fld := ⟨R.STRAP_STAT, 1, 2⟩
def STRAP_STAT_TWIN : Fld := ⟨R.STRAP_STAT, 3, 2⟩
def STRAP_STAT_CXLP : Fld := ⟨R.STRAP_STAT, 5, 1⟩
def STRAP_STAT_GRID : Fld := ⟨R.STRAP_STAT, 6, 1⟩
def STRAP_STAT_SAFE : Fld := ⟨R.STRAP_STAT, 7, 1⟩
def MCH_ADDR_ADDR : Fld := ⟨R.MCH_ADDR, 0, 6⟩
def RST_CAUSE_KIND : Fld := ⟨R.RST_CAUSE, 0, 3⟩
def RST_CAUSE_ORIGIN : Fld := ⟨R.RST_CAUSE, 4, 4⟩
def RST_CNT_COLD : Fld := ⟨R.RST_CNT, 0, 16⟩
def RST_CNT_WARM : Fld := ⟨R.RST_CNT, 16, 16⟩
def CLK_STAT_REF_T00 : Fld := ⟨R.CLK_STAT, 0, 1⟩
def CLK_STAT_REF_T47 : Fld := ⟨R.CLK_STAT, 1, 1⟩
def CLK_STAT_MASTER : Fld := ⟨R.CLK_STAT, 2, 1⟩
def CLK_STAT_PLL_LOCK : Fld := ⟨R.CLK_STAT, 3, 1⟩
def CLK_STAT_HOLDOVER : Fld := ⟨R.CLK_STAT, 4, 1⟩
def CLK_STAT_BELL_OSC : Fld := ⟨R.CLK_STAT, 5, 1⟩
def CLK_STAT_LOSS_CNT : Fld := ⟨R.CLK_STAT, 16, 16⟩
def BELL_LO : Fld := ⟨R.BELL_LO, 0, 32⟩
def BELL_HI : Fld := ⟨R.BELL_HI, 0, 32⟩
def TILE_PWR_CTL_MODE (t : Nat) : Fld := ⟨R.TILE_PWR_CTL t, 0, 2⟩
def TILE_PWR_STAT_STATE (t : Nat) : Fld := ⟨R.TILE_PWR_STAT t, 0, 3⟩
def TILE_PWR_STAT_BLOCK (t : Nat) : Fld := ⟨R.TILE_PWR_STAT t, 3, 3⟩
def TILE_PWR_STAT_EXIT_US (t : Nat) : Fld := ⟨R.TILE_PWR_STAT t, 16, 16⟩
def TILE_RST_CAUSE_LAST (t : Nat) : Fld := ⟨R.TILE_RST_CAUSE t, 0, 2⟩
def TILE_RST_CAUSE_COUNT (t : Nat) : Fld := ⟨R.TILE_RST_CAUSE t, 16, 16⟩
def TILE_CDC_TMO_COUNT (t : Nat) : Fld := ⟨R.TILE_CDC_TMO t, 0, 32⟩
def TH_CTL_INLET_CH : Fld := ⟨R.TH_CTL, 0, 3⟩
def TH_CTL_OUTLET_CH : Fld := ⟨R.TH_CTL, 3, 3⟩
def TH_CTL_COOL_EN : Fld := ⟨R.TH_CTL, 6, 1⟩
def TH_CTL_INLET_MAX : Fld := ⟨R.TH_CTL, 8, 8⟩
def TH_CTL_RISE_MAX : Fld := ⟨R.TH_CTL, 16, 8⟩
def TH_STAT_TJ_MAX : Fld := ⟨R.TH_STAT, 0, 8⟩
def TH_STAT_TJ_TILE : Fld := ⟨R.TH_STAT, 8, 6⟩
def TH_STAT_MEM_MAX : Fld := ⟨R.TH_STAT, 16, 8⟩
def TH_STAT_INLET_HIGH : Fld := ⟨R.TH_STAT, 24, 1⟩
def TH_STAT_RISE_HIGH : Fld := ⟨R.TH_STAT, 25, 1⟩
def TH_STAT_THERMTRIP : Fld := ⟨R.TH_STAT, 26, 1⟩
def TH_RD_CFG_MODE (n : Nat) : Fld := ⟨R.TH_RD_CFG n, 0, 2⟩
def TH_RD_CFG_IDEAL (n : Nat) : Fld := ⟨R.TH_RD_CFG n, 2, 10⟩
def TH_RD_CFG_BETA (n : Nat) : Fld := ⟨R.TH_RD_CFG n, 12, 16⟩
def TH_RD_VAL_TEMP (n : Nat) : Fld := ⟨R.TH_RD_VAL n, 0, 16⟩
def TH_RD_VAL_OPEN (n : Nat) : Fld := ⟨R.TH_RD_VAL n, 16, 1⟩
def TH_RD_VAL_SHORT (n : Nat) : Fld := ⟨R.TH_RD_VAL n, 17, 1⟩
def TH_RD_VAL_WARN (n : Nat) : Fld := ⟨R.TH_RD_VAL n, 18, 1⟩
def TH_RD_VAL_CRIT (n : Nat) : Fld := ⟨R.TH_RD_VAL n, 19, 1⟩
def TH_RD_LIM_WARN_C (n : Nat) : Fld := ⟨R.TH_RD_LIM n, 0, 8⟩
def TH_RD_LIM_CRIT_C (n : Nat) : Fld := ⟨R.TH_RD_LIM n, 8, 8⟩
def TTH_STAT_TJ (t : Nat) : Fld := ⟨R.TTH_STAT t, 0, 8⟩
def TTH_STAT_PIC (t : Nat) : Fld := ⟨R.TTH_STAT t, 8, 8⟩
def TTH_STAT_LAS_MAX (t : Nat) : Fld := ⟨R.TTH_STAT t, 16, 8⟩
def TTH_STAT_DIODE_FAIL (t : Nat) : Fld := ⟨R.TTH_STAT t, 24, 1⟩
def TTH_STAT_RING_FAIL (t : Nat) : Fld := ⟨R.TTH_STAT t, 25, 1⟩
def TTH_STAT_THROTTLE (t : Nat) : Fld := ⟨R.TTH_STAT t, 26, 1⟩
def TTH_STAT_SAFE_SRC (t : Nat) : Fld := ⟨R.TTH_STAT t, 27, 1⟩
def TTH_DUTY_OME_PCT (t : Nat) : Fld := ⟨R.TTH_DUTY t, 0, 8⟩
def TTH_DUTY_CROWN_PCT (t : Nat) : Fld := ⟨R.TTH_DUTY t, 8, 8⟩
def TTH_EVT_WARN (t : Nat) : Fld := ⟨R.TTH_EVT t, 0, 1⟩
def TTH_EVT_THROTTLED (t : Nat) : Fld := ⟨R.TTH_EVT t, 1, 1⟩
def TTH_EVT_SAFE (t : Nat) : Fld := ⟨R.TTH_EVT t, 2, 1⟩
def TTH_EVT_SENSOR (t : Nat) : Fld := ⟨R.TTH_EVT t, 3, 1⟩
def TTH_EVT_STEP (t : Nat) : Fld := ⟨R.TTH_EVT t, 4, 1⟩
def FSW_LO (t : Nat) : Fld := ⟨R.FSW_LO t, 0, 32⟩
def FSW_HI (t : Nat) : Fld := ⟨R.FSW_HI t, 0, 32⟩
def FLVL_LO (t : Nat) : Fld := ⟨R.FLVL_LO t, 0, 32⟩
def FLVL_HI (t : Nat) : Fld := ⟨R.FLVL_HI t, 0, 32⟩
def FFIRST_SRC (t : Nat) : Fld := ⟨R.FFIRST t, 0, 6⟩
def FFIRST_SEV (t : Nat) : Fld := ⟨R.FFIRST t, 6, 2⟩
def FFIRST_VALID (t : Nat) : Fld := ⟨R.FFIRST t, 8, 1⟩
def FFIRST_OVF (t : Nat) : Fld := ⟨R.FFIRST t, 9, 1⟩
def FFIRST_BELL_LO (t : Nat) : Fld := ⟨R.FFIRST_BELL_LO t, 0, 32⟩
def FFIRST_BELL_HI (t : Nat) : Fld := ⟨R.FFIRST_BELL_HI t, 0, 32⟩
/-- Severity of source number `src` (FSEV_k.SEV_j, k = src / 16, j = src mod 16). -/
def FSEV_SEV (t src : Nat) : Fld := ⟨R.FSEV t (src / 16), 2 * (src % 16), 2⟩
def FSTATE_STATE (t : Nat) : Fld := ⟨R.FSTATE t, 0, 3⟩
def FSTATE_FENCED (t : Nat) : Fld := ⟨R.FSTATE t, 3, 1⟩
def FSTATE_RECOV_CNT (t : Nat) : Fld := ⟨R.FSTATE t, 8, 8⟩
def FSTATE_RECOV_HOUR (t : Nat) : Fld := ⟨R.FSTATE t, 16, 4⟩
def MFSW_TILE_LO : Fld := ⟨R.MFSW_TILE_LO, 0, 32⟩
def MFSW_TILE_HI_BITS : Fld := ⟨R.MFSW_TILE_HI, 0, 16⟩
def MFSW_SRC : Fld := ⟨R.MFSW_SRC, 0, 32⟩
def MFLVL_SRC : Fld := ⟨R.MFLVL_SRC, 0, 32⟩
def MFIRST_SRC : Fld := ⟨R.MFIRST, 0, 7⟩
def MFIRST_SEV : Fld := ⟨R.MFIRST, 7, 2⟩
def MFIRST_VALID : Fld := ⟨R.MFIRST, 9, 1⟩
def MFIRST_OVF : Fld := ⟨R.MFIRST, 10, 1⟩
def MFIRST_BELL_LO : Fld := ⟨R.MFIRST_BELL_LO, 0, 32⟩
def MFIRST_BELL_HI : Fld := ⟨R.MFIRST_BELL_HI, 0, 32⟩
/-- Severity of source number `src` (MFSEV_k.SEV_j, k = src / 16, j = src mod 16). -/
def MFSEV_SEV (src : Nat) : Fld := ⟨R.MFSEV (src / 16), 2 * (src % 16), 2⟩
def MFCTL_QUIET : Fld := ⟨R.MFCTL, 0, 8⟩
def MFCTL_RECOV_MAX : Fld := ⟨R.MFCTL, 8, 4⟩
def MFCTL_ESC_WIN : Fld := ⟨R.MFCTL, 12, 16⟩
def MFCTL_INJECT_EN : Fld := ⟨R.MFCTL, 28, 1⟩
def MFSTATE_STATE : Fld := ⟨R.MFSTATE, 0, 3⟩
def MFSTATE_FENCED : Fld := ⟨R.MFSTATE, 3, 1⟩
def MFSTATE_RECOV_CNT : Fld := ⟨R.MFSTATE, 8, 8⟩
def MFSTATE_RECOV_HOUR : Fld := ⟨R.MFSTATE, 16, 4⟩
def MFSTATE_FAULT_N : Fld := ⟨R.MFSTATE, 20, 1⟩
def RC_CTL_RATE : Fld := ⟨R.RC_CTL, 0, 8⟩
def RC_CTL_BURST : Fld := ⟨R.RC_CTL, 8, 8⟩
def RC_CTL_WINDOW : Fld := ⟨R.RC_CTL, 16, 8⟩
def RC_CTL_CONDENSE : Fld := ⟨R.RC_CTL, 24, 8⟩
def RC_STAT_LIVE_PCT : Fld := ⟨R.RC_STAT, 0, 8⟩
def RC_STAT_FLASH_PCT : Fld := ⟨R.RC_STAT, 8, 8⟩
def RC_STAT_CONDENSING : Fld := ⟨R.RC_STAT, 16, 1⟩
def RC_STAT_ISLAND : Fld := ⟨R.RC_STAT, 17, 1⟩
def RC_STAT_OPEN : Fld := ⟨R.RC_STAT, 18, 13⟩
def RC_SEQ : Fld := ⟨R.RC_SEQ, 0, 32⟩
def RC_FLASH_SEQ : Fld := ⟨R.RC_FLASH_SEQ, 0, 32⟩
def RC_DROP : Fld := ⟨R.RC_DROP, 0, 32⟩
def RC_DROP_CRIT : Fld := ⟨R.RC_DROP_CRIT, 0, 32⟩
def RC_FOLD : Fld := ⟨R.RC_FOLD, 0, 32⟩
def TWIN_CFG_PAIR_NODE : Fld := ⟨R.TWIN_CFG, 0, 15⟩
def TWIN_CFG_REVERT_EN : Fld := ⟨R.TWIN_CFG, 15, 1⟩
def TWIN_CFG_LEASE_T : Fld := ⟨R.TWIN_CFG, 16, 5⟩
def TWIN_CFG_REVERT_HOLD : Fld := ⟨R.TWIN_CFG, 21, 6⟩
def TWIN_CFG_RESYNC_RATE : Fld := ⟨R.TWIN_CFG, 27, 4⟩
def TWIN_STAT_STATE : Fld := ⟨R.TWIN_STAT, 0, 4⟩
def TWIN_STAT_HOME : Fld := ⟨R.TWIN_STAT, 4, 2⟩
def TWIN_STAT_HOLDER : Fld := ⟨R.TWIN_STAT, 6, 1⟩
def TWIN_STAT_SYNCED : Fld := ⟨R.TWIN_STAT, 7, 1⟩
def TWIN_STAT_PATH_PORT : Fld := ⟨R.TWIN_STAT, 8, 1⟩
def TWIN_STAT_PATH_CHAIN : Fld := ⟨R.TWIN_STAT, 9, 1⟩
def TWIN_STAT_CAUSE : Fld := ⟨R.TWIN_STAT, 10, 3⟩
def TWIN_STAT_PARTNER_MCH : Fld := ⟨R.TWIN_STAT, 16, 6⟩
def TWIN_PARTNER_NODE : Fld := ⟨R.TWIN_PARTNER, 0, 15⟩
def TWIN_HP_EPOCH_LO : Fld := ⟨R.TWIN_HP_EPOCH_LO, 0, 32⟩
def TWIN_HP_EPOCH_HI : Fld := ⟨R.TWIN_HP_EPOCH_HI, 0, 32⟩
def TWIN_LEASE_AGE_PORT : Fld := ⟨R.TWIN_LEASE, 0, 16⟩
def TWIN_LEASE_AGE_CHAIN : Fld := ⟨R.TWIN_LEASE, 16, 16⟩
def TWIN_MIRROR_N : Fld := ⟨R.TWIN_MIRROR, 0, 24⟩
def TWIN_RESYNC_N : Fld := ⟨R.TWIN_RESYNC, 0, 22⟩
def TWIN_CNT_HANDOVER : Fld := ⟨R.TWIN_CNT_HANDOVER, 0, 32⟩
def TWIN_CNT_NOTHOLDER : Fld := ⟨R.TWIN_CNT_NOTHOLDER, 0, 32⟩
def GANG_STAT_EN : Fld := ⟨R.GANG_STAT, 0, 1⟩
def GANG_STAT_MEMBER : Fld := ⟨R.GANG_STAT, 1, 2⟩
def GANG_STAT_COUNT : Fld := ⟨R.GANG_STAT, 3, 2⟩
def GANG_STAT_PRESENT : Fld := ⟨R.GANG_STAT, 5, 4⟩
def XSITE_CFG_EN (n : Nat) : Fld := ⟨R.XSITE_CFG n, 0, 1⟩
def XSITE_CFG_NODE (n : Nat) : Fld := ⟨R.XSITE_CFG n, 1, 15⟩
def XSITE_CFG_X32_EN (n : Nat) : Fld := ⟨R.XSITE_CFG n, 16, 1⟩
def XSITE_STAT_STATE (n : Nat) : Fld := ⟨R.XSITE_STAT n, 0, 3⟩
def XSITE_STAT_REASON (n : Nat) : Fld := ⟨R.XSITE_STAT n, 3, 3⟩
def XSITE_STAT_MOD_UP (n : Nat) : Fld := ⟨R.XSITE_STAT n, 6, 4⟩
def XSITE_STAT_MOD_X32 (n : Nat) : Fld := ⟨R.XSITE_STAT n, 10, 4⟩
def XSITE_STAT_SUB_UP (n : Nat) : Fld := ⟨R.XSITE_STAT n, 14, 2⟩
def XSITE_STAT_EPOCH (n : Nat) : Fld := ⟨R.XSITE_STAT n, 16, 16⟩
def XSITE_PWR_P (n : Nat) : Fld := ⟨R.XSITE_PWR n, 0, 16⟩
def XSITE_PWR_LIMIT (n : Nat) : Fld := ⟨R.XSITE_PWR n, 16, 16⟩
def XSITE_TEMP_TEMP (n : Nat) : Fld := ⟨R.XSITE_TEMP n, 0, 8⟩
def XSITE_TEMP_T_WARN (n : Nat) : Fld := ⟨R.XSITE_TEMP n, 8, 8⟩
def XSITE_TEMP_T_THROTTLE (n : Nat) : Fld := ⟨R.XSITE_TEMP n, 16, 8⟩
def XSITE_TEMP_T_TRIP (n : Nat) : Fld := ⟨R.XSITE_TEMP n, 24, 8⟩
def SEC_STAT_ACTIVE : Fld := ⟨R.SEC_STAT, 0, 1⟩
def SEC_STAT_A_STATE : Fld := ⟨R.SEC_STAT, 1, 2⟩
def SEC_STAT_B_STATE : Fld := ⟨R.SEC_STAT, 3, 2⟩
def SEC_STAT_KEY0_REVOKED : Fld := ⟨R.SEC_STAT, 5, 1⟩
def SEC_STAT_SVN : Fld := ⟨R.SEC_STAT, 6, 7⟩
def SEC_STAT_BOOT_SRC : Fld := ⟨R.SEC_STAT, 13, 2⟩
def SEC_STAT_UCODE_MIXED : Fld := ⟨R.SEC_STAT, 15, 1⟩
def SEC_STAT_KEY_LOW : Fld := ⟨R.SEC_STAT, 16, 1⟩
def SEC_FW_VER_LO : Fld := ⟨R.SEC_FW_VER_LO, 0, 32⟩
def SEC_FW_VER_HI : Fld := ⟨R.SEC_FW_VER_HI, 0, 32⟩
def SEC_LEAF_NEXT_LEAF : Fld := ⟨R.SEC_LEAF_NEXT, 0, 30⟩
def SEC_LEAF_RES_LEAF : Fld := ⟨R.SEC_LEAF_RES, 0, 30⟩
def SEC_AUTH_CNT : Fld := ⟨R.SEC_AUTH_CNT, 0, 32⟩
def SEC_TRIAL : Fld := ⟨R.SEC_TRIAL, 0, 32⟩
def SEC_UCODE_NEW_LO : Fld := ⟨R.SEC_UCODE_NEW_LO, 0, 32⟩
def SEC_UCODE_NEW_HI_BITS : Fld := ⟨R.SEC_UCODE_NEW_HI, 0, 16⟩
def TILE_TEST_STAT_STATE (t : Nat) : Fld := ⟨R.TILE_TEST_STAT t, 0, 3⟩
def TILE_TEST_STAT_MEM_OUT (t : Nat) : Fld := ⟨R.TILE_TEST_STAT t, 3, 1⟩
def TILE_TEST_STAT_ITEM (t : Nat) : Fld := ⟨R.TILE_TEST_STAT t, 4, 4⟩
def TILE_TEST_STAT_RUN_MS (t : Nat) : Fld := ⟨R.TILE_TEST_STAT t, 8, 24⟩
def TILE_TEST_PASS_MASK (t : Nat) : Fld := ⟨R.TILE_TEST_PASS t, 0, 14⟩
def TILE_TEST_FAIL_MASK (t : Nat) : Fld := ⟨R.TILE_TEST_FAIL t, 0, 14⟩
def MOD_MISMATCH_LO : Fld := ⟨R.MOD_MISMATCH_LO, 0, 32⟩
def MOD_MISMATCH_HI_BITS : Fld := ⟨R.MOD_MISMATCH_HI, 0, 16⟩
def PWR_CTL_CAP_W : Fld := ⟨R.PWR_CTL, 0, 12⟩
def PWR_CTL_HYST_W : Fld := ⟨R.PWR_CTL, 12, 8⟩
def PWR_CTL_POLICY_EN : Fld := ⟨R.PWR_CTL, 20, 1⟩
def PWR_POLICY_D1_IDLE : Fld := ⟨R.PWR_POLICY, 0, 16⟩
def PWR_POLICY_D2_IDLE : Fld := ⟨R.PWR_POLICY, 16, 16⟩
def PWR_STAT_CEIL_W : Fld := ⟨R.PWR_STAT, 0, 12⟩
def PWR_STAT_CEIL_SRC : Fld := ⟨R.PWR_STAT, 12, 3⟩
def PWR_STAT_CAP_UNMET : Fld := ⟨R.PWR_STAT, 15, 1⟩
def PWR_STAT_FEED_A_OK : Fld := ⟨R.PWR_STAT, 16, 1⟩
def PWR_STAT_FEED_B_OK : Fld := ⟨R.PWR_STAT, 17, 1⟩
def PWR_STAT_CONV_OK : Fld := ⟨R.PWR_STAT, 18, 4⟩
def PWR_STAT_OME_STEP : Fld := ⟨R.PWR_STAT, 22, 3⟩
def PWR_STAT_CROWN_STEP : Fld := ⟨R.PWR_STAT, 25, 3⟩
def PWR_IN_PIN : Fld := ⟨R.PWR_IN, 0, 16⟩
def PWR_IN_PEAK_W : Fld := ⟨R.PWR_IN, 16, 16⟩
def PWR_VIN_A_VIN : Fld := ⟨R.PWR_VIN_A, 0, 16⟩
def PWR_VIN_A_IIN : Fld := ⟨R.PWR_VIN_A, 16, 16⟩
def PWR_VIN_B_VIN : Fld := ⟨R.PWR_VIN_B, 0, 16⟩
def PWR_VIN_B_IIN : Fld := ⟨R.PWR_VIN_B, 16, 16⟩
def PWR_BUS_VBUS : Fld := ⟨R.PWR_BUS, 0, 16⟩
def PWR_BUS_PBUS : Fld := ⟨R.PWR_BUS, 16, 16⟩
def PWR_EVT_OV_TRIP : Fld := ⟨R.PWR_EVT, 0, 1⟩
def PWR_EVT_VIN_LOW : Fld := ⟨R.PWR_EVT, 1, 1⟩
def PWR_EVT_FEED_LOST_A : Fld := ⟨R.PWR_EVT, 2, 1⟩
def PWR_EVT_FEED_LOST_B : Fld := ⟨R.PWR_EVT, 3, 1⟩
def PWR_EVT_BREAKER_A : Fld := ⟨R.PWR_EVT, 4, 1⟩
def PWR_EVT_BREAKER_B : Fld := ⟨R.PWR_EVT, 5, 1⟩
def PWR_EVT_CONV_FAIL : Fld := ⟨R.PWR_EVT, 6, 1⟩
def PWR_EVT_CAP_UNMET : Fld := ⟨R.PWR_EVT, 7, 1⟩
def PWR_EVT_FAST_STEP : Fld := ⟨R.PWR_EVT, 8, 1⟩

end F

end Sys2Proof.Machine
end

