-- ==== Sys2Proof/Machine/State.lean ====
section
/-! DEFINITION. Machine/State.lean: everything the spec gives the block, as plain data, with its state after reset. The
registers of BAR0 stand in one sparse register file under their offsets; what the chapters hold beside the registers
stands in one structure per chapter. -/

namespace Sys2Proof.Machine

/-! ### Replies, packets under way and the change journal (chapter 02) -/

/-- A reply before it is laid out for its path (R53). -/
structure Reply where
  tag : BitVec 16
  status : Nat
  detail : Nat
  result : List Byte
  /-- Result bytes written to the data buffer instead of the reply (R54). -/
  inBuffer : Nat := 0
  deriving DecidableEq, Repr


/-- A packet as it stands in the Proctor's chain, twin and in-band queues: the path and the bytes of the packet with any
inline data after it (R68, R70). -/
structure RawPacket where
  path : Path
  bytes : List Byte
  deriving DecidableEq, Repr

/-- Per host queue state that no register shows: PHASE (R61) and the replies that wait for room in the ring (R62). -/
structure QueueSt where
  phase : Bool := true
  held : List Reply := []
  /-- A CXL.io error has HALTED the queue: no further reply is posted until it is enabled again (R55, R63). -/
  dead : Bool := false
  deriving DecidableEq, Repr

/-- A change journal entry (R80). -/
structure JEntry where
  seq : Nat
  bell : Nat
  origin : Nat
  opcode : Nat
  target : Nat
  offset : Nat
  tag : Nat
  oldDigest : List Byte
  newDigest : List Byte
  link : List Byte
  deriving DecidableEq, Repr

/-! ### Faults and the Report Card (chapter 15) -/

/-- Events the chapters write as records of their own (R415: codes 0x1000 + group × 0x0100 + n; the spec gives no n). -/
inductive RecEv where
  | badBar | authRefused | badDoorbell | journalLost | sleepingAccess | nodeCfgRefused
  | refLoss | headroomLow | ringLost | fade1 | fade2 | fade3 | fastFade | laneRetired | laserOvertemp | subFailed | subStarted
  | tapSat | cxlDegraded
  | portDown | laneMapConflict
  | brimFence
  | streamNoAlt | streamReclaim | streamSuspend | streamFault | famSingle
  | poison | retireMark | cxlWriteLost | memUnavailable | memTemp
  | omeFailed
  | collDrop
  | detention | blockRejected | laneDeferred | traceFail | ageReplan
  | refclkLoss | strapTwin
  | thermWarn | thermThrottle | thermSafe | thermSensor | thermStep | remoteDiode | coolant
  | notHolderWrite | holderChange | twinConflict | twinResync | pairingRefused
  | siteState | sitePower | siteTemp
  | keyLow | bootFail | capUnmet
  deriving DecidableEq, Repr

/-- Record codes of R415. -/
inductive RecCode where
  | tileSrc (bit : Nat)
  | modSrc (bit : Nat)
  | safeEntered
  | exitDone
  | heldEntered
  | faultRelease
  | escalation
  | chapter (group : Nat) (ev : RecEv) (sev : Nat)
  deriving DecidableEq, Repr

/-- A Report Card record (R416). `sev`: 0 INFO, 1 NOTICE, 2 WARN, 3 CRIT. `source` is in the TARGET encoding of R51. -/
structure Rec where
  code : RecCode
  sev : Nat
  opn : Bool
  island : Bool
  source : Nat
  tStart : Nat
  tEnd : Nat
  count : Nat
  mn : Int
  mx : Int
  hist : List Nat
  seq : Nat
  deriving DecidableEq, Repr

/-- A token bucket of one record code (R414): millionths of a token and the Bell time of the last refill. -/
structure Bucket where
  code : RecCode
  micro : Nat
  at_ : Nat
  deriving DecidableEq, Repr

/-- The Report Card's stores (R417 to R419): the live log, the island buffer, the flash ring, all oldest first; the token
buckets; and the condensation's progress. -/
structure Report where
  live : List Rec := []
  island : List Rec := []
  flash : List Rec := []
  buckets : List Bucket := []
  nextSeq : Nat := 0
  /-- SEQs of the closed records held that an earlier condensation copied. -/
  condensed : List Nat := []
  /-- A condensation runs, and the RC_CONDENSE commands that wait for its end. -/
  condensing : Bool := false
  critFirst : Bool := false
  condRuns : List Nat := []
  deriving DecidableEq, Repr

/-- The state of one CONTAIN fence (R404): in force, held by escalation, and when it was last lifted. -/
structure Fence where
  on : Bool := false
  esc : Bool := false
  lifted : Option Nat := none
  deriving DecidableEq, Repr

/-- Fault state that no register shows: the fences by source (tile × 64 + bit, module sources from 48 × 64), the Bell times
at which each scope's EXIT began (tile number, 48 the module), and the source that put each scope into SAFE (R404, R409 to R411). -/
structure FaultSt where
  fences : List (Nat × Fence) := []
  exits : List (Nat × List Nat) := []
  cause : List (Nat × Nat) := []
  /-- Bell time from which each scope's QUIET counts (R410). -/
  quiet : List (Nat × Nat) := []
  deriving DecidableEq, Repr

/-! ### The Fabric Address Map and the pool (chapters 07 and 08) -/

/-- Kinds of a FAM entry (R215). -/
inductive FamKind where
  | unmapped | local_ | remote
  deriving DecidableEq, Repr

/-- A FAM entry (R215, R216). -/
structure FamEntry where
  kind : FamKind := .unmapped
  tier : Nat := 0
  ro : Bool := false
  migrating : Bool := false
  tile : Nat := 0
  gen : Nat := 0
  frame : Nat := 0
  region : Nat := 0
  remNode : Nat := 0
  remBase : Nat := 0
  deriving DecidableEq, Repr

/-- A live region (R244): first FAM index and number of frames; `ready` once its entries are LOCAL (R246). -/
structure Region where
  base : Nat
  frames : Nat
  ro : Bool
  ready : Bool
  deriving DecidableEq, Repr

/-- A region slot (R244). -/
structure RegionSlot where
  gen : Nat := 0
  live : Option Region := none
  deriving DecidableEq, Repr

/-- What holds a frame that is not free: a region by its slot, a migration's reservation, a finished move waiting for its
source to be freed, or retirement (R251, R252, R257). -/
inductive FrameUse where
  | region (slot : Nat)
  | reserved (mig : Nat)
  | job (id : Nat)
  | retired
  deriving DecidableEq, Repr

/-- Phases of the frame a migration has in hand (R252). -/
inductive MigPhase where
  | queued | pass1 | hold
  deriving DecidableEq, Repr

/-- One frame of a migration still to be moved: FAM index, source and destination (R252). -/
structure MigFrame where
  index : Nat
  srcTile : Nat
  srcFrame : Nat
  dstTile : Nat
  dstFrame : Nat
  deriving DecidableEq, Repr

/-- A running MEM_MIGRATE (R252): the frames left, the first in hand, its phase and its dirty 4 KiB blocks. -/
structure Migration where
  id : Nat
  slot : Nat
  tier : Nat
  todo : List MigFrame
  done : Nat
  phase : MigPhase
  dirty : List Nat
  run : Nat
  /-- The region's record before the migration, for the journal (R248). -/
  old : List Byte := []
  deriving DecidableEq, Repr

/-- A write that MIGRATING holds (R253), at the tile that resolved it: of a stream with its TU, or of a host port. -/
structure HeldWrite where
  tile : Nat
  stream : Option Nat
  cxl : Option Nat
  addr : Nat
  bytes : List Byte
  /-- The mirror record of a holder's write: source tile and MSEQ (R439). -/
  mir : Option (Nat × Nat) := none
  deriving DecidableEq, Repr

/-- What completes when every tile has acknowledged an invalidation (R218). -/
inductive InvalKind where
  | map | alloc (slot : Nat) | free (slot : Nat) | attr | migHold (mig : Nat) | migSwitch (mig : Nat)
  deriving DecidableEq, Repr

/-- A FAM change waiting for its acknowledgements: the run of indexes and the running command it ends (R218). -/
structure Inval where
  base : Nat
  count : Nat
  kind : InvalKind
  run : Option Nat
  /-- The encoding of what changes as it was, for the journal (R80). -/
  old : Option (List Byte) := none
  deriving DecidableEq, Repr

/-- The pool's state (chapters 07 and 08). Frames are keyed tile × 2^17 + frame, lines and bytes by
tile × 2^40 + the tile-local byte address (R214 to R218, R243 to R258). -/
structure Pool where
  fam : List (Nat × FamEntry) := []
  /-- Availability of the two FAM copies (R214). -/
  copyUp : Bool × Bool := (true, true)
  /-- FAM caches: set key tile × 4096 + index mod 4096, the entries most recently used first (R217). -/
  cache : List (Nat × List (Nat × FamEntry)) := []
  regions : List (Nat × RegionSlot) := []
  used : List (Nat × FrameUse) := []
  marked : List Nat := []
  corrected : List (Nat × List Nat) := []
  /-- OME staging frames in force since the last cold reset, where not 256 (R243). -/
  omeFrames : List (Nat × Nat) := []
  poison : List Nat := []
  migs : List Migration := []
  nextMig : Nat := 0
  held : List HeldWrite := []
  invals : List Inval := []
  /-- Allocations whose frames are being zeroed: region slot and running command (R246). -/
  zeroing : List (Nat × Nat) := []
  /-- Bits 29 and up of a tile's next scrub line: MEM_SCRUB_POS holds [28:0] (assumption 46). -/
  scrubHi : List (Nat × Nat) := []
  deriving DecidableEq, Repr

/-! ### Streams (chapter 07) -/

/-- Stream states (R230). -/
inductive StreamState where
  | free | open_ | onAlt | suspended | faulted | closing
  deriving DecidableEq, Repr

/-- A transport unit (R220). -/
structure Tu where
  type : Nat
  flags : Nat
  stream : Nat
  tsn : Nat
  aux : Nat
  addr : Nat
  data : List Byte
  deriving DecidableEq, Repr

/-- A stream context (R223, R227 to R234). Counts run since open, modulo 2^32 where the wire carries them so. -/
structure Stream where
  state : StreamState
  epNode : Nat
  epQueue : Nat
  pri : Nat
  alt : Option Nat
  memOnly : Bool
  rxSlots : Nat
  ring : Nat
  epCredits : Nat
  reqCredits : Nat
  tx0 : Nat := 0
  tx1 : Nat := 0
  rx0 : Nat := 0
  rx1 : Nat := 0
  /-- TUs accepted that hold a module data credit, and credits returned (R233). -/
  written : Nat := 0
  freed : Nat := 0
  /-- STREAM_DATA TUs delivered into the ring, and ring slots freed by the consumer (R233). -/
  ringW : Nat := 0
  ringR : Nat := 0
  /-- Memory requests accepted, and executed (R234). -/
  reqs : Nat := 0
  executed : Nat := 0
  /-- DATA_CUM taken from the endpoint and STREAM_DATA TUs sent to it. -/
  epFreed : Nat := 0
  sent : Nat := 0
  /-- Counts last reported in a CREDIT TU. -/
  repData : Nat := 0
  repReq : Nat := 0
  /-- TUs held at the Homeroom while no port can send them (R230), oldest first, with their VC. -/
  heldTx : List (Nat × Tu) := []
  /-- STREAM_DATA TUs that wait for endpoint data credit (R233), oldest first. -/
  outData : List Tu := []
  /-- COLL_DONE TUs that leave after the last STREAM_DATA and COLL_DATA TU that waits for credit (R324). -/
  doneTus : List Tu := []
  /-- VC0 TUs held behind a write that MIGRATING holds (R232), oldest first. -/
  waiting : List Tu := []
  lastTu : Nat := 0
  /-- Bell time at which the stream became SUSPENDED or FAULTED (STRM_CTL.SUSPEND_TMO). -/
  stateAt : Nat := 0
  openedAt : Nat := 0
  /-- New TUs are held until the alternate has acknowledged every TU (R230). -/
  returning : Bool := false
  /-- The running STREAM_CLOSE commands of a CLOSING stream. -/
  closeRuns : List Nat := []
  deriving DecidableEq, Repr

/-- A stream slot (R224). -/
structure StreamSlot where
  gen : Nat := 0
  ctx : Option Stream := none
  deriving DecidableEq, Repr

/-- A CLOSE_NOTICE held for its endpoint (R230). -/
structure HeldNotice where
  epNode : Nat
  epQueue : Nat
  reason : Nat
  deriving DecidableEq, Repr

/-- All stream slots, keyed HOME × 2^15 + SLOT, and the held notices (R230). -/
structure Streams where
  slots : List (Nat × StreamSlot) := []
  notices : List HeldNotice := []
  deriving DecidableEq, Repr

/-! ### Links and lanes (chapters 04 and 05) -/

/-- A flit's type (R164). -/
inductive FlitType where
  | fill | ack | data | cmd | lctl | pad
  deriving DecidableEq, Repr

/-- A flit that waits to be sent or to be acknowledged: type, VC, payload bytes used, LAST and REPLY (R164). -/
structure Flit where
  type : FlitType
  vc : Nat
  payload : List Byte
  last : Bool := false
  reply : Bool := false
  /-- The stream whose TU a DATA flit carries, by its slot key (R184). -/
  owner : Option Nat := none
  deriving DecidableEq, Repr

/-- A LANESET in hand (R188): who asked, its number, the new map, and the boundaries of the two directions. -/
structure Laneset where
  mine : Bool
  reqId : Nat
  width : Nat
  rate : Nat
  pos : List Nat
  newEpoch : Nat
  /-- First sequence number on the new map in this end's transmit direction. -/
  txAt : Nat
  /-- The far end's boundary, once told. -/
  rxAt : Option Nat
  acked : Bool
  txDone : Bool
  rxDone : Bool
  cancelled : Bool
  run : Option Nat
  /-- Started by a Blocking run of a lane (R352). -/
  blk : Bool := false
  deriving DecidableEq, Repr

/-- An offset-sampler scan in progress (R152, R153). -/
structure EyeScan where
  run : Nat
  lane : Nat
  eye : Nat
  points : List (Int × Int)
  counts : List Nat
  dwell : Nat
  deriving DecidableEq, Repr

/-- Training in progress at one port (R144 to R146, R528). -/
structure Training where
  full : Bool
  rate : Nat
  /-- Lanes that have passed the stages so far, bit j. -/
  lanes : Nat
  /-- Rounds of lane map disagreement (R185). -/
  rounds : Nat
  ready : Bool
  farReady : Bool
  /-- Training blocks seen at this end's own rate since LOCK was entered (R528). -/
  seen : Bool
  /-- The rate the receiver hunts at while it has seen none (R528). -/
  hunt : Option Nat := none
  /-- The far end's offer that the running round answers (R185). -/
  lastFar : Option Nat := none
  /-- LANE fields received by line in LOCK and ALIGN, with the polarity (R145). -/
  lines : List (Nat × Nat × Bool) := []
  /-- ALIGN has found the order, so that `lanes` names lanes and no longer lines (R145). -/
  aligned : Bool := false
  deriving DecidableEq, Repr

/-- A lane's equaliser: CTLE setting, taps 1 to 12 and thresholds as LANE_TAPn and LANE_THR hold them (R148). -/
structure EqSet where
  ctle : Nat
  tap0 : Word
  tap1 : Word
  tap2 : Word
  thr : Word
  deriving DecidableEq, Repr

/-- What a port or sublink holds beside its registers (chapters 04 and 05) (R143 to R188, R450). -/
structure Link where
  train : Option Training := none
  /-- The retry timer of R146 runs. -/
  retryWait : Bool := false
  farNode : Nat := 0
  farPort : Nat := 0
  farEpoch : Nat := 0
  farMap : Nat := 0
  /-- Rate ceiling lowered by R179, in rate codes above SDS_CTL.MAX_RATE. -/
  fcLower : Nat := 0
  ackIdle : Nat := 4
  rttDone : Bool := false
  /-- ACK_V may be sent: a flit has been accepted since full training (R170). -/
  ackValid : Bool := false
  ackSent : Option Nat := none
  /-- When a duplicate was last answered at once (R169). -/
  dupAt : Option Nat := none
  nakOut : Option Nat := none
  nakAt : Nat := 0
  nakDue : Bool := false
  /-- Unacknowledged flits, oldest first; the first has sequence TX_ACKED. -/
  unacked : List Flit := []
  /-- Next unacknowledged flit to send again, as a position in `unacked` (R173). -/
  replayPos : Option Nat := none
  timerOn : Bool := false
  txq : List Flit := []
  rxq : List Flit := []
  /-- In-band assembly: bytes so far and flits taken; `none` while discarding to the next LAST (R182). -/
  asmBytes : List Byte := []
  asmFlits : Nat := 0
  asmDrop : Bool := false
  /-- Outstanding in-band packets of the port, by TAG (R70). -/
  inband : List Nat := []
  telLane : Nat := 0
  /-- Received power the far end reports, by lane (R163). -/
  tel : List (Nat × Nat) := []
  laneset : Option Laneset := none
  nextReq : Nat := 0
  echoAt : Option Nat := none
  /-- This end has sent DOZE, and the far end has asked this end to doze (R379). -/
  dozeSent : Bool := false
  dozeAcked : Bool := false
  dozed : Bool := false
  txQuiet : Bool := false
  /-- Held DOWN by the CONTAIN fence of PORT_RX_OVF (R401). -/
  fenced : Bool := false
  upSince : Nat := 0
  scan : Option EyeScan := none
  beacon : Option Nat := none
  /-- The far end's last check of a lane: checked bits and errors (R151). -/
  verify : List (Nat × Nat × Nat) := []
  /-- Rate of the map agreed last (R185). -/
  mapRate : Nat := 0
  /-- Stripe position of the next codeword's first byte, by direction (R167). -/
  rxPhase : Nat := 0
  txPhase : Nat := 0
  /-- The stored equaliser sets, by lane × 4 + rate code (R149). -/
  eq : List (Nat × EqSet) := []
  /-- Bell time at which a quiet receiver last realigned its cached phase (R155). -/
  phaseAt : Option Nat := none
  /-- Lanes that the Proctor takes out of the map, those of them that are verified and come back, and the lane in whose place
  lane S stands meanwhile (R134, R135). -/
  away : Nat := 0
  back : Nat := 0
  swap : Option Nat := none
  /-- The map and rate that the port goes back to, where a PORT_LANESET has been undone (R82). -/
  revert : Option (List Nat × Nat) := none
  /-- Lanes of the map on which training words of stages 1 to 4 have come while UP, as lane × 2 + FULL (R183). -/
  trainSeen : List Nat := []
  /-- Vertical eye opening of each lane by the margin sweep, with the Bell time since which it is below 16 units (R359). -/
  eyes : List (Nat × Nat × Option Nat) := []
  /-- A Proctor-started LANESET's journal entry, and the lane map the port held before (R529). -/
  oldMap : Option (List Byte) := none
  deriving DecidableEq, Repr

/-! ### Photonics (chapter 03) -/

/-- States of a ring's lock loop (R121). -/
inductive RingState where
  | off | search | locked | hold
  deriving DecidableEq, Repr

/-- A substitution in progress on a role (R134, R137): the Substitute (6 or 7) or, on the way back, the role's own comb;
the lanes, planes or lines still to move, and the command that asked. -/
structure Subst where
  target : Nat
  todo : List Nat
  restore : Bool
  run : Option Nat
  /-- The lane being verified has failed once and has relocked (R134). -/
  tried : Bool := false
  /-- Line 32 carries the line that moves next, or the passes pause for it (R137, R286). -/
  held : Bool := false
  deriving DecidableEq, Repr

/-- What a tile's photonics hold beside the registers. Monitor keys are path × 512 + index × 8 + point with the paths of
MON_SEL; source keys are role × 64 + lane, plane or line (R121, R128, R132). -/
structure Photo where
  mon : List (Nat × Nat) := []
  /-- Source comb of a lane, plane or line moved off its own comb (R117). -/
  source : List (Nat × Nat) := []
  /-- State of the rings that `rings` does not list. -/
  ringBase : RingState := .off
  rings : List (Nat × RingState) := []
  /-- Heater headroom by ring, 0.25 °C units, as last reported. -/
  heads : List (Nat × Nat) := []
  /-- The readings of the last 1 s, by Bell time, for the fast-fade window (R131). -/
  hist : List (Nat × List (Nat × Nat)) := []
  /-- Bell time since which the role's fade has been below 0.5 dB (R132). -/
  calmSince : List (Nat × Nat) := []
  /-- The service bias of the combs that D1 has reduced (R118). -/
  service : List (Nat × Nat) := []
  /-- The slot from which a Crown plane's transmitter sends again after its move (R137, R204). -/
  quiet : List (Nat × Nat) := []
  subst : List (Nat × Subst) := []
  deriving DecidableEq, Repr

/-- Commissioned and other non-volatile photonic values of a tile (R124, R136). -/
structure PhotoNv where
  comm : List (Nat × Nat) := []
  /-- Retired lanes by port index, bit j (R136). -/
  retired : List (Nat × Nat) := []
  /-- Commissioned bias of each comb, 0.1 mA units; the factory's where none is listed (R119, R124). -/
  bias : List (Nat × Nat) := []
  deriving DecidableEq, Repr

/-! ### Crown and Brim (chapter 06) -/

/-- A Crown or Brim cell (R195, R196). CTYPE: 0 EMPTY, 1 DATA, 2 PROBE. -/
structure Cell where
  ctype : Nat
  cvc : Nat
  orig : Nat
  final : Nat
  eseq : Nat
  payload : List Byte
  deriving DecidableEq, Repr

/-- The sending end of a flow (R199): next ESEQ, cells sent and not acknowledged, payloads that wait, and whether the
oldest unacknowledged cell is to be sent again (R200). -/
structure TxFlow where
  next : Nat := 0
  unacked : List Cell := []
  queue : List (List Byte) := []
  resend : Bool := false
  /-- The slot since which the oldest unacknowledged cell has waited (R200). -/
  since : Nat := 0
  deriving DecidableEq, Repr

/-- The receiving end of a flow: next ESEQ to deliver, later cells held, ENAK due, EACK changed since last sent, the slot since
which a cell has been missing, and that of the last ENAK for it (R200). -/
structure RxFlow where
  next : Nat := 0
  held : List Cell := []
  enak : Bool := false
  acked : Bool := false
  changed : Bool := false
  since : Nat := 0
  enakAt : Option Nat := none
  deriving DecidableEq, Repr

/-- A tile's Crown and Brim engines: flows keyed FINAL or ORIG × 4 + CVC, the relay buffer, the peers that signal RBUSY,
the slot of the last burst to each destination (R198), the Bell times of cells dropped in the last second (R401), the slot of the
last preamble that refined what the receiver keeps for a source × 16 + plane (R198), the slot at which ALIGN ends once PROBEs
are exchanged, and cells of flows towards it that have restarted (R205). -/
structure Crown where
  tx : List (Nat × TxFlow) := []
  rx : List (Nat × RxFlow) := []
  relay : List Cell := []
  busyPeers : List Nat := []
  last : List (Nat × Nat) := []
  drops : List Nat := []
  cache : List (Nat × Nat) := []
  align : Option Nat := none
  stale : List Cell := []
  deriving DecidableEq, Repr

/-- One end of a Brim link (R207): frame sequence numbers, frames kept for replay, and the Bell times of uncorrectable
beats in the window and of failed unfence tests (R209, R210). -/
structure Brim where
  txSeq : Nat := 0
  rxSeq : Nat := 0
  kept : List (Nat × Cell) := []
  /-- Cells that wait for room in the replay buffer, and the NAK that is due. -/
  waitq : List Cell := []
  nak : Bool := false
  ueTimes : List Nat := []
  failTimes : List Nat := []
  testRun : Option Nat := none
  testing : Bool := false
  deriving DecidableEq, Repr

/-- The module's Crown map: has the start pulse come, the slot number, and the tiles asleep (R192, R204). -/
structure CrownMap where
  started : Bool := false
  slot : Nat := 0
  asleep : List Nat := []
  deriving DecidableEq, Repr

/-! ### Clocks and identity (chapters 13, 18) -/

/-- Reset and power sequencing that no register shows (chapter 13) (R369 to R384). -/
structure Clocks where
  /-- The stage of the start sequence (R369): 0 straps not sampled, 1 firmware to load, 2 waits for REFCLK, 3 up and waits for
  the primary CXL port, 4 ready. -/
  phase : Nat := 0
  /-- The strap values of this power-on stand in the journal (R79). -/
  strapsLogged : Bool := false
  /-- The start under way is a warm reset's (R371). -/
  warm : Bool := false
  mresetLow : Bool := false
  /-- THERMTRIP_N has latched (R390). -/
  tripped : Bool := false
  /-- The overvoltage latch of the hot-swap controller (R501). -/
  ovLatch : Bool := false
  /-- Every supply is off, the always-on islands' included (R501, R511): the next start is a power-on. -/
  off : Bool := false
  /-- A module reset that is due: RST_CAUSE.KIND and origin code (R370, R371, R404). -/
  resetDue : Option (Nat × Nat) := none
  /-- Bell time at which REFCLK was lost (R363). -/
  refLostAt : Option Nat := none
  /-- The module is in M1, and the rows that M1's exit has still to wake (R383). -/
  standby : Bool := false
  wakeOrder : List Nat := []
  /-- Tiles entering D1 (2) or D2 (3), tiles to wake once their entry ends, the state a sleeping tile is in, and the Bell
  time at which its exit began (R377, R384, EXIT_US). -/
  entering : List (Nat × Nat) := []
  wake : List Nat := []
  sleep : List (Nat × Nat) := []
  exitAt : List (Nat × Nat) := []
  /-- Tiles that leave D1 for a D2 that the policy has requested (R384). -/
  wantD2 : List Nat := []
  /-- PWR_TILE_MODE commands that wait for a tile's state: tile, command, MODE before it. -/
  powerRuns : List (Nat × Nat × Nat) := []
  /-- Register values that the change journal holds and that a module reset has not yet put back (R31, R209, R372). -/
  reapply : List (Nat × Word) := []
  deriving DecidableEq, Repr

/-- Ordering codes of the part (R524). -/
inductive Part where
  | a0 | a1 | n0 | n1
  deriving DecidableEq, Repr

/-- What is fixed in the part: ordering code, lid serial, tile steppings other than B1 (R1, R526). -/
structure Ident where
  part : Part := .a0
  serial : List Byte := []
  steppings : List (Nat × Nat) := []
  deriving DecidableEq, Repr

/-- A Proctor A/B switchover in progress (R473): its command, the slot it starts, NO_TRIAL, and whether the state has been
saved. -/
structure Switch where
  run : Nat
  slot : Nat
  noTrial : Bool
  deriving DecidableEq, Repr

/-- A FW_STAGE that writes a slot, or an object that waits for one: kind, slot, command and object (R472). -/
structure Staging where
  kind : Nat
  slot : Nat
  run : Nat
  obj : List Byte
  deriving DecidableEq, Repr

/-- Security beside its registers (chapter 18). Slots are keyed kind × 2 + slot, kinds 1 Proctor, 2 microcode, 3 manifest; a
slot of state VALID or current that the map does not list holds the factory's image (R464 to R476). -/
structure Sec where
  slots : List (Nat × List Byte) := []
  /-- The current microcode and manifest slots. -/
  ucode : Nat := 0
  manifest : Nat := 0
  /-- The running Proctor image with its header; empty: the factory's. -/
  image : List Byte := []
  /-- Chain recovery (R466): only the always-on islands run. -/
  recovery : Bool := false
  /-- Measurements of the microcode images that tiles loaded; unlisted: the factory's. -/
  tileMeas : List (Nat × List Byte) := []
  writing : Option Staging := none
  trialAt : Option Nat := none
  /-- Slots that a boot marked BAD, whose CRIT record is still due (R466). -/
  badDue : List Nat := []
  /-- Bell times of the last minute's failed checks, for SEC_AUTH (R402). -/
  authFails : List Nat := []
  /-- Bell times of the reports signed in the last second (R469). -/
  signed : List Nat := []
  /-- Bottom trees of the identity key built so far, and the ATTEST commands that wait for the next (R468). -/
  trees : Nat := 1
  waiting : List Nat := []
  /-- Has SEC_LEAF_NEXT, and has SEC_LEAF_RES, come to 2^30, one more than its 30 bits show (R468)? -/
  nextEnd : Bool := false
  resEnd : Bool := false
  switch : Option Switch := none
  /-- FW_TILE_UPDATE in progress: tile and command (R475). -/
  update : List (Nat × Nat) := []
  deriving DecidableEq, Repr

/-- A tile's thermal state beside its registers (chapter 14): Bell time since which each diode has been out of line, the
diodes now invalid, the last reading with its time, the half steps of the throttle (0 to 6) and the last raise (R388 to R392). -/
structure Therm where
  off : List (Nat × Nat) := []
  bad : List Nat := []
  /-- TJ in 0.1 °C, and the reading of at least 1 ms ago that slew is measured from. -/
  tj : Int := 0
  last : Option (Int × Nat) := none
  /-- The 95 °C threshold is in force. -/
  warn : Bool := false
  steps : Nat := 0
  raisedAt : Nat := 0
  /-- Memory (R391): WARN in force, and the Bell time since which a stack held out by 105 °C is below 95 °C. -/
  memWarn : Bool := false
  memTrip : Bool := false
  memCool : Option Nat := none
  deriving DecidableEq, Repr

/-- A stand-alone test run (R480): tile, command, items, when it began, and the Brim edges and dead marks it withdrew. -/
structure TestRun where
  run : Nat
  items : Nat
  at_ : Nat
  edges : List Nat := []
  deriving DecidableEq, Repr

/-- Coolant checks and the power ceiling beside their registers (R398, R507 to R509). `steps` holds the loop's steps, newest
first: 0 OME, 1 Crown, 2 dies. -/
structure Power where
  inletHighAt : Option Nat := none
  inletOkAt : Option Nat := none
  riseAt : Option Nat := none
  inletCrit : Bool := false
  /-- The coolant ceiling, in W (R398). -/
  coolant : Option Nat := none
  steps : List Nat := []
  dieSteps : Nat := 0
  /-- Bell time since which the input is at or below the undo threshold. -/
  underAt : Option Nat := none
  /-- 1 ms averages of the last second, in W (PEAK_W). -/
  peaks : List (Nat × Nat) := []
  /-- Blades below 48.0 V (0 A, 1 B). -/
  feedLost : List Nat := []
  /-- Blade breakers that stay open until their feed falls and returns (R500). -/
  breakers : List Nat := []
  convFail : List Nat := []
  overAt : Option Nat := none
  deriving DecidableEq, Repr
/-! ### Matrix engine and jobs (chapters 09 and 10) -/

/-- A job descriptor (R292). -/
structure JobDesc where
  kind : Nat
  cls : Nat
  range : Nat
  prio : Nat
  xfmt : Nat
  wfmt : Nat
  yfmt : Nat
  isrc : Nat
  odst : Nat
  flags : Nat
  m : Nat
  k : Nat
  n : Nat
  mask : Nat
  waddr : Nat
  xaddr : Nat
  yaddr : Nat
  ldx : Nat
  ldy : Nat
  wscale : Nat
  xscale : Nat
  stage : Nat
  groups : Nat
  deriving DecidableEq, Repr

/-- States of a job (R308). -/
inductive JobState where
  | queued | staging | running | done | failed | cancelled | mirrorWait
  deriving DecidableEq, Repr

/-- A mask tile's share of a job: its row-blocks in ascending order, those it runs by streamed staging, the units written,
and the unit in hand: its weight tile, the passes of the group so far with their readings (vector by vector, row by row),
the times the group was bad, and the row results per output, still to be added (R276, R303, R305). -/
structure Share where
  tile : Nat
  blocks : List Nat
  streamed : List Nat := []
  next : Nat := 0
  active : Bool := false
  ready : Bool := false
  wt : Nat := 0
  reads : List (List Int) := []
  tries : Nat := 0
  terms : List (List Nat) := []
  sat : Nat := 0
  vecs : List (List Byte) := []
  deriving DecidableEq, Repr

/-- The vectors of a chunk that came by stream: its number, the first vector's number, the packed vectors (R289, R304). -/
structure ChunkIn where
  num : Nat
  base : Nat
  vecs : List (List Byte)
  deriving DecidableEq, Repr

/-- A job (R302 to R310), named by its running command. -/
structure Job where
  id : Nat
  origin : Nat
  tag : Nat
  desc : JobDesc
  /-- Input streams by slot key, in source order. -/
  srcs : List Nat
  nc : Nat
  shares : List Share
  /-- Staging set slot in use. -/
  set : Option Nat
  state : JobState
  unitsDone : Nat := 0
  unitsTotal : Nat := 0
  passes : Nat := 0
  reruns : Nat := 0
  satRows : Nat := 0
  rflags : Nat := 0
  derate : Nat := 256
  startBell : Nat := 0
  endBell : Option Nat := none
  failTile : Nat := 255
  /-- Tier-2 frames taken for overflow (R301). -/
  frames : List Nat := []
  /-- Vectors received and not yet in a chunk, by source; the message in assembly, by source; vectors received in all; the
  chunks formed of them that some share still needs, and the number formed (R295, R304). -/
  inq : List (Nat × List (List Byte)) := []
  asm : List (Nat × List Byte) := []
  /-- Output parts delivered, by output vector then part, and the next vector to send. -/
  outq : List (Nat × List (Nat × List Byte)) := []
  nextOut : Nat := 0
  received : Nat := 0
  chunkIn : List ChunkIn := []
  formed : Nat := 0
  /-- PROJECT: a batch may run although it is short (PROJ_WAIT). -/
  due : Bool := false
  inputClosed : Bool := false
  mirrored : Bool := false
  deriving DecidableEq, Repr

/-- A staging set (R297, R298). -/
structure StageSet where
  gen : Nat := 0
  live : Bool := false
  temp : Bool := false
  origin : Nat := 0
  waddr : Nat := 0
  m : Nat := 0
  k : Nat := 0
  wfmt : Nat := 0
  mask : Nat := 0
  /-- Bytes staged by mask tile, and the free bytes of each when it was made. -/
  need : List (Nat × Nat) := []
  free : List (Nat × Nat) := []
  /-- The copies, by row-block; none of one while it loads. -/
  data : List (Nat × List Byte) := []
  ready : Bool := false
  run : Option Nat := none
  deriving DecidableEq, Repr

/-- What a pass works for: a job's share on a tile, or a collective segment's optical entry stage. -/
inductive PassWork where
  | job (id : Nat)
  | coll (ctx opseq seg : Nat)
  deriving DecidableEq, Repr

/-- A change of the Substitute row or line that waits for a pass boundary (R283, R284): which (0 bank A row, 1 bank B row,
2 line), what it serves (none: free), and its use code in OME_SUB. -/
structure SubChange where
  which : Nat
  unit : Option Nat
  use : Nat
  deriving DecidableEq, Repr

/-- A tile's OME beside its registers (chapter 09) (R270, R283 to R287, R304). -/
structure Ome where
  ready : List Nat := []
  work : Option PassWork := none
  /-- The pass group in hand holds a bad pass and waits for REACQ to end (R305). -/
  regroup : Option PassWork := none
  /-- Passes of the collective group in hand and its bad runs. -/
  collPass : Nat := 0
  collTries : Nat := 0
  subs : List SubChange := []
  traceReq : Bool := false
  dozeReq : Bool := false
  lastJob : Nat := 0
  lastColl : Bool := false
  withdrawn : List Nat := []
  /-- Banks withheld, and all passes paused, by Blocking runs (R286). -/
  withheld : List Nat := []
  paused : Nat := 0
  /-- A MAT or LO line has moved: the pilot acquires phase again at the next pass boundary (R137). -/
  reacqReq : Bool := false
  deriving DecidableEq, Repr

/-! ### Collectives (chapter 11) -/

/-- A member of a group (R313). -/
structure Member where
  stream : Nat
  peer : Bool
  firstExpert : Nat
  experts : Nat
  deriving DecidableEq, Repr

/-- A collective operation descriptor (R317). -/
structure OpDesc where
  op : Nat
  redop : Nat
  path : Nat
  tol : Nat
  itype : Nat
  otype : Nat
  isrc : Nat
  odst : Nat
  root : Nat
  rep : Nat
  count : Nat
  src : Nat
  dst : Nat
  lds : Nat
  ldd : Nat
  hidden : Nat
  topk : Nat
  cap : Nat
  tokens : Nat
  deriving DecidableEq, Repr

/-- A segment in hand (R321): contributions by rank as FP32 words, partials of entry tiles and of rows, peer partials by
rank of the module, and the entry tiles whose optical pass group has ended (true: fell back to digital). -/
structure Segment where
  got : List (Nat × List Nat) := []
  entry : List (Nat × List Nat) := []
  rows : List (Nat × List Nat) := []
  peers : List (Nat × List Nat) := []
  optical : List (Nat × Bool) := []
  result : Option (List Nat) := none
  sentPeer : Bool := false
  deriving DecidableEq, Repr

/-- A route record (R330): source rank, token, and per slot the expert, the gate and whether the copy was admitted. -/
structure Route where
  src : Nat
  token : Nat
  slots : List (Nat × Nat × Bool)
  deriving DecidableEq, Repr

/-- The running operation of a context (R333). -/
structure CollOp where
  seq : Nat
  run : Nat
  desc : OpDesc
  /-- The path and class the module chose (R329): 0 digital, 1 optical; class or 0xFF. -/
  path : Nat := 0
  cls : Nat := 255
  segs : List (Nat × Segment) := []
  nextSeg : Nat := 0
  /-- Next element index or token expected of each rank (R320). -/
  expect : List (Nat × Nat) := []
  /-- Ranks that have ended, with the counts they gave. -/
  ended : List (Nat × Nat) := []
  admitted : List (Nat × Nat) := []
  /-- Copies delivered to each expert host (COMBINE: tokens returned to each source), and expert outputs by source, token
  and slot, with whether the message is whole. -/
  copies : List (Nat × Nat) := []
  outs : List (Nat × Bool × List Byte) := []
  /-- DISPATCH: bytes taken of the token that each source has in hand (R319). -/
  part : List (Nat × Nat) := []
  resultsOut : Bool := false
  deriving DecidableEq, Repr

/-- A COLL_OP_POST with its REPEAT run (R334). -/
structure CollRun where
  id : Nat
  desc : OpDesc
  first : Nat
  count : Nat
  done : Nat := 0
  state : Nat := 0
  path : Option Nat := none
  cls : Nat := 255
  flags : Nat := 0
  startBell : Option Nat := none
  endBell : Option Nat := none
  dropped : Nat := 0
  failRank : Nat := 0xFFFF
  failTile : Nat := 255
  deriving DecidableEq, Repr

/-- A group in its context (R312, R313). -/
structure Group where
  members : List Member
  mask : Nat
  moduleRank : Nat
  broken : Option Nat := none
  nextSeq : Nat := 0
  lastOp : Option OpDesc := none
  /-- The operation that runs: at most one (R333). -/
  cur : Option CollOp := none
  runs : List CollRun := []
  routes : List Route := []
  deriving DecidableEq, Repr

/-- A collective context slot (R312). -/
structure CollCtx where
  gen : Nat := 0
  group : Option Group := none
  deriving DecidableEq, Repr

/-- The matrix engines, jobs, staging sets and collective contexts (R289, R297, R312). -/
structure Work where
  ome : List (Nat × Ome) := []
  jobs : List Job := []
  sets : List (Nat × StageSet) := []
  ctxs : List (Nat × CollCtx) := []
  deriving DecidableEq, Repr

/-! ### Blocking (chapter 12) and expansion sites (chapter 17) -/

/-- A queued Blocking run (R343, R348): its channel, priority (0 command, 1 start-up, 2 temperature, 3 timetable), the
temperature difference of a temperature trigger, and the Bell time it was queued. -/
structure BlkEntry where
  chan : Nat
  prio : Nat
  diff : Nat
  at_ : Nat
  deriving DecidableEq, Repr

/-- How a lane run's traffic is carried (R352). -/
inductive Carrier where
  | none | laneS | narrow
  deriving DecidableEq, Repr

/-- An active run (R347): its slot (0 to 2 the ports, 3 OME, 4 Crown), channel, priority, how its work is carried, and when
it began. A lane run whose LANESET was refused waits; `refused` counts refusals in a row (R353). -/
structure BlkRun where
  slot : Nat
  chan : Nat
  prio : Nat
  carrier : Carrier
  at_ : Nat
  refused : Nat := 0
  /-- 0 waits for the LANESET that takes its lane out, 1 measures, 2 waits for the LANESET that brings it back. -/
  phase : Nat := 1
  again : Bool := false
  deriving DecidableEq, Repr

/-- A BLOCK_RUN, BLOCK_RELEASE or BLOCK_TRACE command in progress: the channels it still waits for, the worst RESULT so far,
and the opcode's kind (R360). -/
structure BlkCmd where
  run : Nat
  chan : Nat
  left : List Nat
  result : Nat
  release : Bool
  at_ : Nat
  deriving DecidableEq, Repr

/-- A tile's Blocking state beside its registers (R339 to R359). Temperatures in 0.1 °C. -/
structure Blk where
  queue : List BlkEntry := []
  runs : List BlkRun := []
  /-- Temperature and Bell time of each channel's last committed run. -/
  temp : List (Nat × Int) := []
  done : List (Nat × Nat) := []
  fails : List (Nat × Nat) := []
  detained : List Nat := []
  deferred : List Nat := []
  cmds : List BlkCmd := []
  avg : Int := 0
  settled : Bool := false
  /-- Reference trace: due, running (and its Crown part running), last temperature and time, failures in a row, marks. -/
  traceDue : Option Nat := none
  tracePrio : Nat := 3
  traceBegan : Nat := 0
  /-- The trigger of the trace that runs or ran last, and the Bell time of the last trace, committed or not. -/
  traceTrig : Nat := 3
  traceTried : Option Nat := none
  tracing : Bool := false
  traceCrown : Bool := false
  traceTemp : Option Int := none
  traceAt : Option Nat := none
  traceFails : Nat := 0
  traceDead : Bool := false
  traceOme : Bool := false
  traceRuns : List Nat := []
  /-- Memory rate codes in force since the last warm or cold reset: HBM3E, LPDDR5X (R359). -/
  memRate : Nat × Nat := (0, 0)
  deriving DecidableEq, Repr

/-- An expansion site beside its registers (chapter 17): the capability record last read, the XSITE_RESETs that wait for
discovery, the fence by Xn_FAIL, the sublinks that are HELD (bit s), the Bell time of the last temperature report, since when
each power limit is exceeded (0 P_MAX, 1 the limit sent, 2 210 W), and the steps of 25 % that its temperature takes off (R451 to R459). -/
structure Site where
  cap : List Byte := []
  runs : List Nat := []
  fenced : Bool := false
  held : Nat := 0
  lastReport : Option Nat := none
  overs : List (Nat × Nat) := []
  steps : Nat := 0
  deriving DecidableEq, Repr

/-! ### Running commands and the change journal (chapter 02) -/

/-- A change that can be put back if its journal entry is not durable within 10 ms (R82): the old values of the registers,
FAM entries, region slots, frames, staging sets, contexts, commissioned values, Detention, fences, images and roles that
changed. -/
structure Undo where
  regs : List (Nat × Option Word) := []
  fam : List (Nat × Option FamEntry) := []
  regions : List (Nat × Option RegionSlot) := []
  used : List (Nat × Option FrameUse) := []
  marked : Option (List Nat) := none
  sets : List (Nat × Option StageSet) := []
  ctxs : List (Nat × Option CollCtx) := []
  slots : List (Nat × Option StreamSlot) := []
  photoNv : List (Nat × Option PhotoNv) := []
  /-- What feeds a lane, plane or line: tile, key in `Photo.source`, comb (R117). -/
  sources : List (Nat × Nat × Nat) := []
  /-- Lane maps and rates, by port. -/
  maps : List (Nat × List Nat × Nat) := []
  /-- Channels in Detention, by tile (R350). -/
  detained : List (Nat × List Nat) := []
  fences : List (Nat × Option Fence) := []
  images : List (Nat × Option (List Byte)) := []
  /-- The slots in force: microcode and manifest (R472). -/
  current : Option (Nat × Nat) := none
  /-- The tile and comb that the reference monitor shows (R115). -/
  refmon : Option (Option (Nat × Nat)) := none
  /-- The identity held and the gang values that wait (R421, R447). -/
  roles : Option (Option (List Byte) × Option (Bool × Nat × Nat × Nat)) := none
  deriving DecidableEq, Repr

/-- One journaled change: TARGET, OFFSET and the encodings of the old and the new value, where there was one (R80). -/
structure JChange where
  target : Nat
  offset : Nat
  old : Option (List Byte)
  new : Option (List Byte)
  deriving DecidableEq, Repr

/-- How a long-running command has ended: its final reply, its journaled changes and how to undo them (R55). -/
structure Finish where
  status : Nat
  detail : Nat
  result : List Byte
  changes : List JChange
  undo : Undo
  deriving DecidableEq, Repr

/-- A command that has started and has not posted its final reply (R55, R73). `fin` is set once its work has ended. -/
structure Running where
  id : Nat
  opcode : Nat
  origin : Nat
  pkt : Packet
  fin : Option Finish
  /-- How to put back what the command changed when it started (R82). -/
  start : Undo := {}
  deriving DecidableEq, Repr

/-- A journal entry on its way to flash, with what its durability releases (R82). Entries of one command share a group. -/
structure JPending where
  group : Nat
  bell : Nat
  origin : Nat
  opcode : Nat
  target : Nat
  offset : Nat
  tag : Nat
  oldDigest : List Byte
  newDigest : List Byte
  /-- The path and reply that wait for this entry; none for a BAR0 write or a policy change. -/
  reply : Option (Path × Reply)
  undo : Undo
  deriving DecidableEq, Repr

/-- The change journal (R79 to R83): entries held, oldest first, the number of entries ever written, the entries waiting
for flash, oldest first, and the number lost since the last GAP entry. -/
structure Journal where
  entries : List JEntry := []
  count : Nat := 0
  waiting : List JPending := []
  nextGroup : Nat := 0
  lost : Nat := 0
  deriving DecidableEq, Repr

/-- What the Proctor holds: its packet queues (R68, R70), the place of its round (R72), the commands that run, and the
reset it starts once the journal entry of its command is durable (R370, R371). The first round starts at host queue 0 and
the lowest port code (DESIGN CHOICE, assumption 154). -/
structure Proctor where
  chainQ : List RawPacket := []
  twinQ : List RawPacket := []
  portQ : List RawPacket := []
  /-- What is left of the round (R72): 0 the chain, 1 the twin partner, 2 + q host queue q, 18 + c port code c. -/
  round : List Nat := []
  lastQueue : Nat := 15
  lastPort : Nat := 143
  running : List Running := []
  nextId : Nat := 0
  /-- What a switchover holds (R65): doorbell writes, by queue, tail or head, and value; and replies, with their paths and
  whether each is its command's final one. -/
  doorbells : List (Nat × Bool × Nat) := []
  replies : List (Path × Reply × Bool) := []
  deriving DecidableEq, Repr

/-! ### Twin pairs and gang mode (chapter 16) -/

/-- A completion that waits for the partner's MIRROR_ACK (R439): a request credit or data credits of a stream, a CXL.mem
write of a host port, or the end of a command. -/
inductive Held where
  | req (key : Nat)
  | data (key n : Nat)
  | cxl (n : Nat)
  | cmd (opcode origin : Nat) (journaled : Bool) (path : Path) (reply : Reply) (changes : List JChange) (undo : Undo)
  deriving DecidableEq, Repr

/-- A held completion with the mirror record it waits for: source tile and MSEQ (R439). -/
structure MirWait where
  tile : Nat
  mseq : Nat
  what : Held
  deriving DecidableEq, Repr

/-- The twin engine beside its registers (R421 to R443): the identity held (non-volatile), the partner's last hello, mirror
numbers sent, acknowledged and executed by tile, records that wait for a port, held completions, Bell times of the last
LEASE and LEASE_ACK by path, frames left to resynchronise, and what waits for a lease answer. -/
structure Twin where
  identity : Option (List Byte) := none
  partner : Option PairHello := none
  sent : List (Nat × Nat) := []
  acked : List (Nat × Nat) := []
  done : List (Nat × Nat) := []
  doneAcked : List (Nat × Nat) := []
  asm : List (Nat × List Byte) := []
  queue : List Tu := []
  waits : List MirWait := []
  leasePort : Option Nat := none
  leaseChain : Option Nat := none
  ackPort : Option Nat := none
  ackChain : Option Nat := none
  /-- Sending time of the last LEASE that an ACK answered (R432). -/
  ackedLease : Option Nat := none
  /-- Frames sent in a resync and not yet acknowledged: source tile and MSEQ of each one's last record. -/
  frames : List (Nat × Nat) := []
  resyncing : Bool := false
  /-- A RELEASE that has been sent and its reason; the TWIN_HANDOVER and the reset that wait for it. -/
  released : Option Nat := none
  handover : Option Nat := none
  resetAfter : Option Nat := none
  /-- A planned handover goes to SYNCED when the new holder's LEASE arrives (R435). -/
  planned : Bool := false
  syncedAt : Option Nat := none
  /-- REVERT_HOLD has run out: the next LEASE is answered with a RELEASE (R442). -/
  revertDue : Bool := false
  /-- Bell time at which the Proctor became ready (R427). -/
  readyAt : Option Nat := none
  /-- On a standby: the holder's copy has begun, and it has come whole (R440). -/
  begun : Bool := false
  copyDone : Bool := false
  /-- The slot that the mirror record in hand names, for what it creates (R437). -/
  want : Option Nat := none
  /-- GANG_CFG values for the next warm reset: enable, member, count, leader node; and the leader's node in force (R445). -/
  gangNext : Option (Bool × Nat × Nat × Nat) := none
  gangLeader : Nat := 0
  deriving DecidableEq, Repr

/-! ### Outward effects and the whole state -/

/-- What leaves the block: on the host ports, the chain, the fibres, the interposer and the pins. -/
inductive Out where
  | msix (cxl vec : Nat)
  | chain (frame : List Byte)
  | jtag (reply : List Byte)
  /-- A flit on a sublink, without check bytes (R450). -/
  | site (sub : Nat) (bytes : List Byte)
  /-- A codeword: the rate code, its bytes, and by stripe position the lane and its PAM4 levels (R162, R167). -/
  | flit (port rate : Nat) (bytes : List Byte) (wire : List (Nat × List Nat))
  /-- Training blocks: the lanes and their training words (R143). -/
  | training (port : Nat) (words : List (Nat × Nat))
  /-- A beacon word (R129). -/
  | beacon (port word : Nat)
  /-- A keep-phase burst, and a wake burst at a rate code (R155 to R157). -/
  | keepPhase (port : Nat)
  | wake (port rate : Nat)
  | burst (src dst plane : Nat) (body : List Byte)
  | frame (tile edge : Nat) (bytes : List Byte)
  | busRead (value : Word)
  | cxlData (n : Nat) (poison : Bool) (data : List Byte)
  | cxlDone (n : Nat)
  | faultN (low : Bool)
  | thermtripN
  /-- MOD_PWROK released, or pulled low (R494). -/
  | modPwrok (ok : Bool)
  | pass (tile : Nat) (out : List Nat)
  | engine (tile : Nat) (data : List Byte)
  /-- A payload that a flow returns to its transport layer as undeliverable (R205). -/
  | undelivered (tile : Nat) (data : List Byte)
  | gang (member opcode : Nat) (params : List Byte)
  | gangFam (index : Nat)
  | hello (port : Option Nat) (h : PairHello)
  deriving DecidableEq, Repr

/-- The whole block. -/
structure State where
  /-- BAR0 registers that differ from their default, by offset (canonical form). -/
  regs : List (Nat × Word)
  /-- Halves latched by a read of their _LO register, by offset (R8, R83). -/
  latch : List (Nat × Word)
  /-- The Bell count of the clock master, µs since power-on (R364). -/
  bell : Nat
  /-- The model's own counter of free values drawn (assumption 1). -/
  free : Nat
  /-- What the block has driven outward, newest first (the model's own record). -/
  out : List Out
  /-- Host physical memory, the far side of CXL.io (assumption 3). -/
  host : List Host.Cell
  /-- The submission areas of the sixteen host queues, by BAR0 offset (R59). -/
  sq : List Host.Cell
  /-- DRAM contents, keyed tile × 2^40 + tile-local byte address. -/
  dram : List Host.Cell
  queues : List (Nat × QueueSt)
  proctor : Proctor
  journal : Journal
  report : Report
  faults : FaultSt
  pool : Pool
  streams : Streams
  links : List (Nat × Link)
  photo : List (Nat × Photo)
  photoNv : List (Nat × PhotoNv)
  refmon : Option (Nat × Nat)
  /-- Is the optical reference present (R114, R115)? -/
  refOn : Bool
  crown : List (Nat × Crown)
  crownMap : CrownMap
  brim : List (Nat × Brim)
  /-- Matrix engines, jobs and collectives. -/
  work : Work
  blk : List (Nat × Blk)
  site : List (Nat × Site)
  twin : Twin
  clocks : Clocks
  sec : Sec
  therm : List (Nat × Therm)
  tests : List (Nat × TestRun)
  power : Power
  ident : Ident
  /-- The commands that wait, first in, first out. -/
  pending : List Instr
  deriving DecidableEq, Repr

/-- No command of the spec stops the block: nothing raises a fault. -/
inductive Fault where
  deriving DecidableEq, Repr

/-- Why a command has no meaning. -/
inductive Refusal where
  /-- The named command's meaning is not modelled (safe): raised by no arm once every arm has its meaning. -/
  | notModelled (mnemonic : String)
  deriving DecidableEq, Repr

/-- The block right after reset: the always-on islands have left reset at power-on and nothing else has run (R369 step 3),
every register at the default of its field table, the straps reading 0, every queue and table empty. -/
def State.reset : State where
  regs := []
  latch := []
  bell := 0
  free := 0
  out := []
  host := []
  sq := []
  dram := []
  queues := []
  proctor := {}
  journal := {}
  report := {}
  faults := {}
  pool := {}
  streams := {}
  links := []
  photo := []
  photoNv := []
  refmon := none
  refOn := true
  crown := []
  crownMap := {}
  brim := []
  work := {}
  blk := []
  site := []
  twin := {}
  clocks := {}
  sec := {}
  therm := []
  tests := []
  power := {}
  ident := {}
  pending := []

end Sys2Proof.Machine
end

