-- ==== Sys2Proof/Machine/Ops.lean ====
section
/-! DEFINITION. Machine/Ops.lean: the named operations over registers, memories and the outward record that every meaning
uses. -/

namespace Sys2Proof.Machine

/-! ### Registers -/

/-- The stored value of the register at a BAR0 offset. -/
def State.rd (s : State) (off : Nat) : Word := (Map.find off s.regs).getD (regDefault off)

/-- Store a register value, keeping the register file canonical. -/
def State.wr (s : State) (off : Nat) (v : Word) : State :=
  { s with regs := if v = regDefault off then Map.del off s.regs else Map.put off v s.regs }

/-- The mask of a field in its register. -/
def Fld.mask (x : Fld) : Word := BitVec.ofNat 32 ((2 ^ x.width - 1) <<< x.lo)

/-- A register value with a field replaced; the value is cut to the field's width. -/
def Fld.ins (x : Fld) (w : Word) (v : Nat) : Word :=
  (w &&& ~~~ x.mask) ||| (BitVec.ofNat 32 (v <<< x.lo) &&& x.mask)

/-- The field's value in a register value. -/
def Fld.ext (x : Fld) (w : Word) : Nat := (w.toNat >>> x.lo) % 2 ^ x.width

/-- A field's stored value. -/
def State.f (s : State) (x : Fld) : Nat := x.ext (s.rd x.off)

/-- Is a one-bit field set? -/
def State.b (s : State) (x : Fld) : Bool := s.f x != 0

/-- Store a field. -/
def State.setF (s : State) (x : Fld) (v : Nat) : State := s.wr x.off (x.ins (s.rd x.off) v)

/-- Store a one-bit field. -/
def State.setB (s : State) (x : Fld) (v : Bool) : State := s.setF x (if v then 1 else 0)

/-- Store a value in a field, the largest the field holds where the value is larger. -/
def State.setSat (s : State) (x : Fld) (v : Nat) : State := s.setF x (min v (2 ^ x.width - 1))

/-- Add to a counter that saturates at all ones (R12). -/
def State.bump (s : State) (x : Fld) (n : Nat := 1) : State := s.setSat x (s.f x + n)

/-- Store several fields. -/
def State.setFs (s : State) : List (Fld × Nat) → State
  | [] => s
  | (x, v) :: r => (s.setF x v).setFs r

/-- The 64-bit value of a _LO and _HI pair. -/
def State.pair (s : State) (lo hi : Fld) : Nat := s.f lo + 2 ^ 32 * s.f hi

/-- Store a 64-bit value in a _LO and _HI pair. -/
def State.setPair (s : State) (lo hi : Fld) (v : Nat) : State := (s.setF lo (v % 2 ^ 32)).setF hi (v / 2 ^ 32 % 2 ^ 32)

/-- Return to default every register whose place and row satisfy `p` (R13). -/
def State.resetRegs (s : State) (p : Place → RegRow → Bool) : State :=
  { s with regs := s.regs.filter (fun e =>
      match placeOf e.1 with
      | none => true
      | some pl => match rowAtPlace pl with
        | none => true
        | some r => !p pl r) }

/-! ### Apply a function over a range of units -/

/-- Fold a state change over a list. -/
def State.each {α : Type} (s : State) (l : List α) (f : State → α → State) : State := l.foldl f s

/-- All tiles. -/
def allTiles : List Nat := List.range 48

/-- The three ports of a tile (R3). -/
def portsOf (t : Nat) : List Nat := [3 * t, 3 * t + 1, 3 * t + 2]

/-! ### Time and free values -/

/-- A value that the spec leaves open: nothing constrains it, and the next one drawn is another (assumption 1). -/
def State.fresh (s : State) : BitVec 64 × State := (Config.freeValue s.free, { s with free := s.free + 1 })

/-- Bytes that the spec leaves open. -/
def State.freshBytes : Nat → State → List Byte × State
  | 0, s => ([], s)
  | n + 1, s =>
    let (v, s1) := s.fresh
    let (l, s2) := State.freshBytes n s1
    (BitVec.ofNat 8 v.toNat :: l, s2)

/-- A duty limit after a number of 12.5-point steps, in whole % (R392, R508). Where it falls between two whole values the spec
does not say which one a register shows: a free value. -/
def State.dutyPct (s : State) (steps : Nat) : Nat × State :=
  let whole := (800 - 100 * steps) / 8
  if steps % 2 = 0 then (whole, s) else (whole + s.fresh.1.toNat % 2, s.fresh.2)

/-- Bring OME_DUTY in line with the thermal limit and the power cap (R286, R508): the lower one. -/
def State.syncDuty (s : State) (t : Nat) : State :=
  let th := (Map.get ({} : Therm) s.therm t).steps
  let cap := s.f F.PWR_STAT_OME_STEP
  let r := if cap ≤ th then (s.f (F.TTH_DUTY_OME_PCT t), s) else s.dutyPct cap
  r.2.setFs [(F.OME_DUTY_DUTY_PCT t, r.1), (F.OME_DUTY_CAUSE t, (if th = 0 then 0 else 1) + (if cap = 0 then 0 else 2))]

/-! ### Outward record -/

/-- Drive something outward. -/
def State.emit (s : State) (o : Out) : State := { s with out := o :: s.out }

/-! ### TARGET encodings of units (R51) -/

/-- TARGET of the module. -/
def tgtModule : Nat := 0
/-- TARGET of a tile. -/
def tgtTile (t : Nat) : Nat := 0x01 + t * 0x100
/-- TARGET of a port. -/
def tgtPort (p : Nat) : Nat := 0x02 + p * 0x100
/-- TARGET of a lane. -/
def tgtLane (p j : Nat) : Nat := 0x03 + p * 0x100 + j * 0x10000
/-- TARGET of an expansion site. -/
def tgtSite (n : Nat) : Nat := 0x07 + n * 0x100
/-- TARGET of a host port. -/
def tgtHost (n : Nat) : Nat := 0x08 + n * 0x100

/-- FSRC of a tile source (R400). -/
def fsrcTile (t bit : Nat) : Nat := bit + t * 0x100
/-- FSRC of a module source (R400). -/
def fsrcModule (bit : Nat) : Nat := bit + 0x8000

/-! ### Roles and places -/

/-- The clock-master tile, by STRAP_CLKM (R35). -/
def State.clockMaster (s : State) : Nat := if s.b F.STRAP_STAT_CLKM then 47 else 0

/-- An in-service tile, or a reserve tile that is released or stands in (R30, R223). -/
def State.inService (s : State) (t : Nat) : Bool :=
  decide (t < 48) && (!isReserve t || s.b (F.TILE_ROLE_RELEASED t) || s.b (F.TILE_ROLE_STANDIN t))

/-- The tile that serves the engine duties of tile `t`: itself, or its stand-in while ENGINE_OUT is 1 (R225); none where
no tile serves them. -/
def State.server (s : State) (t : Nat) : Option Nat :=
  if s.b (F.TILE_ROLE_ENGINE_OUT t) then
    [12, 23, 24, 35].find? (fun r => s.b (F.TILE_ROLE_STANDIN r) && s.f (F.TILE_ROLE_STANDIN_FOR r) == t)
  else some t

/-- This module's node ID (R77). -/
def State.node (s : State) : Nat := s.f F.NODE_CFG_NODE

/-- Is the module in stand-alone test mode as a whole: by strap, or after a stepping mismatch at start-up (R479, R486)? -/
def State.standAlone (s : State) : Bool :=
  s.f F.STRAP_STAT_BOOT == 3 || s.f F.MOD_MISMATCH_LO != 0 || s.f F.MOD_MISMATCH_HI_BITS != 0

/-- Is a tile in stand-alone test mode (TILE_TEST_STAT.STATE TEST or RUNNING)? -/
def State.inTest (s : State) (t : Nat) : Bool := let x := s.f (F.TILE_TEST_STAT_STATE t); x == 2 || x == 3

/-! ### Table access -/

/-- A port's link state. -/
def State.link (s : State) (p : Nat) : Link := Map.get {} s.links p
/-- Change a port's link state. -/
def State.updLink (s : State) (p : Nat) (f : Link → Link) : State := { s with links := Map.upd {} s.links p f }
/-- A tile's photonics. -/
def State.ph (s : State) (t : Nat) : Photo := Map.get {} s.photo t
/-- Change a tile's photonics. -/
def State.updPh (s : State) (t : Nat) (f : Photo → Photo) : State := { s with photo := Map.upd {} s.photo t f }
/-- A tile's non-volatile photonic values. -/
def State.phNv (s : State) (t : Nat) : PhotoNv := Map.get {} s.photoNv t
/-- Change a tile's non-volatile photonic values. -/
def State.updPhNv (s : State) (t : Nat) (f : PhotoNv → PhotoNv) : State := { s with photoNv := Map.upd {} s.photoNv t f }
/-- A tile's Crown engines. -/
def State.cr (s : State) (t : Nat) : Crown := Map.get {} s.crown t
/-- Change a tile's Crown engines. -/
def State.updCr (s : State) (t : Nat) (f : Crown → Crown) : State := { s with crown := Map.upd {} s.crown t f }
/-- One end of a Brim link: edge 0 west, 1 east. -/
def State.br (s : State) (t e : Nat) : Brim := Map.get {} s.brim (2 * t + e)
/-- Change one end of a Brim link. -/
def State.updBr (s : State) (t e : Nat) (f : Brim → Brim) : State := { s with brim := Map.upd {} s.brim (2 * t + e) f }
/-- A tile's Blocking state. -/
def State.bl (s : State) (t : Nat) : Blk := Map.get {} s.blk t
/-- Change a tile's Blocking state. -/
def State.updBl (s : State) (t : Nat) (f : Blk → Blk) : State := { s with blk := Map.upd {} s.blk t f }
/-- An expansion site. -/
def State.st (s : State) (n : Nat) : Site := Map.get {} s.site n
/-- Change an expansion site. -/
def State.updSt (s : State) (n : Nat) (f : Site → Site) : State := { s with site := Map.upd {} s.site n f }
/-- A host queue's hidden state. -/
def State.qu (s : State) (q : Nat) : QueueSt := Map.get {} s.queues q
/-- Change a host queue's hidden state. -/
def State.updQu (s : State) (q : Nat) (f : QueueSt → QueueSt) : State := { s with queues := Map.upd {} s.queues q f }
/-- A tile's thermal state. -/
def State.th (s : State) (t : Nat) : Therm := Map.get {} s.therm t
/-- Change a tile's thermal state. -/
def State.updTh (s : State) (t : Nat) (f : Therm → Therm) : State := { s with therm := Map.upd {} s.therm t f }
/-- Change the reset and power sequencing. -/
def State.updClk (s : State) (f : Clocks → Clocks) : State := { s with clocks := f s.clocks }
/-- Change the security state. -/
def State.updSec (s : State) (f : Sec → Sec) : State := { s with sec := f s.sec }
/-- Change the power sequencing. -/
def State.updPow (s : State) (f : Power → Power) : State := { s with power := f s.power }
/-- Change the pool. -/
def State.updPool (s : State) (f : Pool → Pool) : State := { s with pool := f s.pool }
/-- Change the Proctor. -/
def State.updPr (s : State) (f : Proctor → Proctor) : State := { s with proctor := f s.proctor }

end Sys2Proof.Machine
end

