-- ==== Sys2Proof/Machine/Records.lean ====
section
/-! DEFINITION. Machine/Records.lean: the Report Card (R414 to R419): folding, tokens, capacity and the record layout. -/

namespace Sys2Proof.Machine

/-- The model's index of a chapter event; with the severity, which R415 fixes by the code, it keys the free numbers. -/
def RecEv.index (e : RecEv) : Nat := e.ctorIdx

/-- The 16-bit CODE of a record code (R415). -/
def RecCode.num : RecCode → Nat
  | .tileSrc b => b
  | .modSrc b => 0x0100 + b
  | .safeEntered => 0x0200
  | .exitDone => 0x0201
  | .heldEntered => 0x0202
  | .faultRelease => 0x0203
  | .escalation => 0x0204
  | .chapter g e v => 0x1000 + g * 0x100 + (Config.recordNumber g (e.index * 4 + v)).toNat

/-- HSHIFT of a code: 0 for codes below 0x0300 (R416). -/
def RecCode.shift : RecCode → Nat
  | .chapter g e v => (Config.recordShift g (e.index * 4 + v)).toNat
  | _ => 0

/-- The histogram bin of a value (R416). -/
def histBin (shift : Nat) (v : Int) : Nat :=
  let m := v.natAbs >>> shift
  if m = 0 then 0 else if 64 ≤ m then 7 else Nat.log2 m + 1

/-- A histogram with a value counted, 16-bit saturating (R416). -/
def histAdd (h : List Nat) (shift : Nat) (v : Int) : List Nat :=
  h.modify (histBin shift v) (fun n => min (n + 1) 0xFFFF)

/-- A new open record (R414, R416). -/
def Rec.start (code : RecCode) (sev source bell seq : Nat) (island : Bool) (v : Int) : Rec :=
  { code := code, sev := sev, opn := true, island := island, source := source, tStart := bell, tEnd := bell, count := 1,
    mn := v, mx := v, hist := histAdd (List.replicate 8 0) code.shift v, seq := seq }

/-- An event folded into an open record (R414). -/
def Rec.fold (r : Rec) (bell : Nat) (v : Int) : Rec :=
  { r with count := min (r.count + 1) 0xFFFFFFFF, tEnd := bell, mn := min r.mn v, mx := max r.mx v,
           hist := histAdd r.hist r.code.shift v }

/-- The 64 bytes of a record (R416). -/
def Rec.bytes (r : Rec) : List Byte :=
  let body := leBytes 2 r.code.num ++
    leBytes 1 (r.sev + (if r.opn then 4 else 0) + (if r.island then 8 else 0)) ++ [0] ++
    leBytes 4 r.source ++ leBytes 8 r.tStart ++ leBytes 8 r.tEnd ++ leBytes 4 r.count ++
    leBytes 4 (fieldOf 32 r.mn) ++ leBytes 4 (fieldOf 32 r.mx) ++ r.hist.flatMap (leBytes 2) ++
    leBytes 1 r.code.shift ++ zeros 3 ++ leBytes 4 r.seq
  body ++ leBytes 4 (crc32c body)

/-- Is the live log out of reach, so that records go to the island buffer (R418)? The clock-master tile's LPDDR5X serves
while its memory runs or refreshes itself (assumption 9). -/
def State.islandMode (s : State) : Bool :=
  let st := s.f (F.MEM_STAT_STATE s.clockMaster)
  !(st == 2 || st == 3)

/-- Is the record the open one of a key? -/
def Rec.isKey (code : RecCode) (source : Nat) (r : Rec) : Bool := r.opn && decide (r.code = code) && r.source == source

/-- The tokens of a code's bucket now, in millionths (R414). A full bucket is what an unused code has. -/
def State.tokens (s : State) (code : RecCode) : Nat :=
  let burst := s.f F.RC_CTL_BURST * 1000000
  match s.report.buckets.find? (fun b => decide (b.code = code)) with
  | none => burst
  | some b => min burst (b.micro + (s.bell - b.at_) * s.f F.RC_CTL_RATE)

/-- Take one token of a code's bucket, if it holds one. -/
def State.takeToken (s : State) (code : RecCode) : State :=
  let t := s.tokens code
  let b : Bucket := { code := code, micro := if 1000000 ≤ t then t - 1000000 else t, at_ := s.bell }
  { s with report := { s.report with buckets := b :: s.report.buckets.filter (fun x => !decide (x.code = code)) } }

/-- Make room in a full store (R417): the store without the record that a new one of severity `sev` overwrites; none
where the new record is dropped. -/
def makeRoom (cap sev : Nat) (l : List Rec) : Option (List Rec) :=
  if l.length < cap then some l
  else
    match l.find? (fun r => !r.opn && decide (r.sev < sev)) with
    | some v => some (l.erase v)
    | none =>
      if sev = 3 then none
      else match l.find? (fun r => !r.opn && r.sev == sev) with
        | some v => some (l.erase v)
        | none => none

/-- Close the open record with the oldest T_START when 4,096 are open (R414). -/
def closeOldest (l : List Rec) : List Rec :=
  if (l.countP (·.opn)) < 4096 then l
  else
    match (l.filter (·.opn)).foldl (fun (m : Option Rec) r =>
      match m with
      | none => some r
      | some x => if r.tStart < x.tStart then some r else some x) none with
    | none => l
    | some x => l.map (fun r => if r = x then { r with opn := false } else r)

/-- Percentage of a store that is filled. -/
def fillPct (n cap : Nat) : Nat := min 100 (n * 100 / cap)

/-- Bring RC_STAT and the SEQ registers in line with the stores. -/
def State.syncRc (s : State) : State :=
  s.setFs [(F.RC_STAT_LIVE_PCT, fillPct s.report.live.length 1048576),
           (F.RC_STAT_FLASH_PCT, fillPct s.report.flash.length 4194304),
           (F.RC_STAT_ISLAND, if s.islandMode then 1 else 0),
           (F.RC_STAT_OPEN, (s.report.live ++ s.report.island).countP (·.opn)),
           (F.RC_SEQ, if s.report.nextSeq = 0 then s.f F.RC_SEQ else (s.report.nextSeq - 1) % 2 ^ 32),
           (F.RC_FLASH_SEQ, (s.report.flash.getLast?.map (·.seq)).getD (s.f F.RC_FLASH_SEQ))]

/-- Add a new record to the live log or the island buffer; true where it had to be dropped (R417, R418). -/
def State.addRec (s : State) (r : Rec) : State × Bool :=
  let isl := s.islandMode
  let store := closeOldest (if isl then s.report.island else s.report.live)
  match makeRoom (if isl then 4096 else 1048576) r.sev store with
  | none => (s, true)
  | some l =>
    let rep := { s.report with nextSeq := s.report.nextSeq + 1 }
    ({ s with report := if isl then { rep with island := l ++ [r] } else { rep with live := l ++ [r] } }, false)

/-- Handle one event (R414); true where a record had to be dropped. -/
def State.event (s : State) (code : RecCode) (sev source : Nat) (v : Int) : State × Bool :=
  let key := Rec.isKey code source
  let empty := decide (s.tokens code < 1000000)
  let window := s.f F.RC_CTL_WINDOW * 100000
  match (s.report.live ++ s.report.island).find? key with
  | some r =>
    if s.bell - r.tStart < window || empty then
      let up := fun (l : List Rec) => l.map (fun x => if key x then x.fold s.bell v else x)
      let s1 := { s with report := { s.report with live := up s.report.live, island := up s.report.island } }
      ((if s.bell - r.tStart < window then s1 else s1.bump F.RC_FOLD).syncRc, false)
    else
      let cl := fun (l : List Rec) => l.map (fun x => if key x then { x with opn := false } else x)
      let s1 := ({ s with report := { s.report with live := cl s.report.live, island := cl s.report.island } }).takeToken code
      let (s2, d) := s1.addRec (Rec.start code sev source s.bell (s1.report.nextSeq % 2 ^ 32) s1.islandMode v)
      (s2.syncRc, d)
  | none =>
    let s1 := if empty then s else s.takeToken code
    let (s2, d) := s1.addRec (Rec.start code sev source s.bell (s1.report.nextSeq % 2 ^ 32) s1.islandMode v)
    (s2.syncRc, d)

/-- The module first-source latch (R406): entered as `src` with severity `sev`. -/
def State.latchModule (s : State) (src sev : Nat) : State :=
  if s.b F.MFIRST_VALID then s.setB F.MFIRST_OVF true
  else (s.setFs [(F.MFIRST_SRC, src), (F.MFIRST_SEV, sev), (F.MFIRST_VALID, 1)]).setPair F.MFIRST_BELL_LO F.MFIRST_BELL_HI s.bell

/-- Set a bit of a 32-bit register. -/
def State.setBit (s : State) (off i : Nat) : State := s.wr off (s.rd off ||| (1 <<< i))

/-- Clear a bit of a 32-bit register. -/
def State.clrBit (s : State) (off i : Nat) : State := s.wr off (s.rd off &&& ~~~ ((1 : Word) <<< i))

/-- A bit of a register. -/
def State.bit (s : State) (off i : Nat) : Bool := (s.rd off).getLsbD i

/-- Write an event to the Report Card. A dropped record is counted, and a dropped CRIT asserts RC_DROP_CRIT (R417): its
bit, latch and its own NOTICE, which is not counted again. -/
def State.record (s : State) (code : RecCode) (sev source : Nat) (v : Int := 0) : State :=
  let (s1, dropped) := s.event code sev source v
  if !dropped then s1
  else if sev = 3 then
    let s2 := (s1.bump F.RC_DROP_CRIT).setBit R.MFSW_SRC 18
    let msev := s2.f (F.MFSEV_SEV 18)
    if msev = 0 then s2
    else
      let (s3, d) := (s2.latchModule (64 + 18) msev).event (.modSrc 18) msev tgtModule 0
      if d then s3.bump F.RC_DROP else s3
  else s1.bump F.RC_DROP

/-- A record put in its place by SEQ. -/
def insertSeq (r : Rec) : List Rec → List Rec
  | [] => [r]
  | x :: l => if x.seq < r.seq then x :: insertSeq r l else r :: x :: l

/-- Records in SEQ order. -/
def seqSort (l : List Rec) : List Rec := l.foldr insertSeq []

/-- A condensation begins, and every open record is closed (R414). -/
def State.closeRecords (s : State) : State :=
  let shut : List Rec → List Rec := fun l => l.map (fun r => { r with opn := false })
  ({ s with report := { s.report with live := shut s.report.live, island := shut s.report.island } }).syncRc

/-- The closed records that no condensation has copied, in SEQ order (R419). -/
def State.toCondense (s : State) : List Rec :=
  seqSort ((s.report.live ++ s.report.island).filter (fun r => !r.opn && !s.report.condensed.contains r.seq))

/-- Condensation (R419): the records copied into the flash ring under R417, CRIT records first where asked. -/
def State.condense (s : State) (critFirst : Bool) : State :=
  let l : List Rec := s.toCondense
  let l : List Rec := if critFirst then l.filter (fun r => r.sev == 3) ++ l.filter (fun r => r.sev != 3) else l
  let s1 := s.each l (fun s r =>
    match makeRoom 4194304 r.sev s.report.flash with
    | some fl => { s with report := { s.report with flash := fl ++ [r] } }
    | none => if r.sev = 3 then s.bump F.RC_DROP_CRIT else s.bump F.RC_DROP)
  let held : List Nat := (s1.report.live ++ s1.report.island).map (fun r => r.seq)
  let new : List Nat := l.map (fun (r : Rec) => r.seq)
  let s2 : State := { s1 with report := { s1.report with condensed := (s1.report.condensed ++ new).filter (fun q => held.contains q) } }
  s2.syncRc

/-- A condensation falls due (R414, R419): CONDENSATION_DONE copies what is closed by then. -/
def State.beginCondense (s : State) : State :=
  let s1 := s.closeRecords
  { s1 with report := { s1.report with condensing := true } }

/-- A condensation that goes before a reset or M1 entry (R419). -/
def State.condenseAll (s : State) : State := s.closeRecords.condense s.report.critFirst

/-- A chapter's own record. -/
def State.note (s : State) (g : Nat) (e : RecEv) (sev source : Nat) (v : Int := 0) : State :=
  s.record (.chapter g e sev) sev source v

end Sys2Proof.Machine
end

