-- ==== Sys2Proof/Machine/Collector.lean ====
section
/-! DEFINITION. Machine/Collector.lean: the fault collectors (R399 to R408): latching an assertion, its record, and the
SAFE reaction of the hardware. The block fences of CONTAIN stand in Machine/Effects.lean. -/

namespace Sys2Proof.Machine

/-- Severity of a tile source: fixed SAFE for THERM_SAFE, SENSOR_LOST and EYE_SAFETY (R401, R403). -/
def State.sevTile (s : State) (t bit : Nat) : Nat :=
  if bit = 3 || bit = 4 || bit = 42 then 3 else s.f (F.FSEV_SEV t bit)

/-- Severity of a module source (R402). -/
def State.sevModule (s : State) (bit : Nat) : Nat := s.f (F.MFSEV_SEV bit)

/-- Does a CONTAIN row of R401 name a block? -/
def tileBlock (bit : Nat) : Bool :=
  bit == 18 || bit == 19 || bit == 20 || bit == 23 || bit == 27 || bit == 30 || bit == 32 || bit == 39

/-- Does a CONTAIN row of R402 name a block? -/
def moduleBlock (bit : Nat) : Bool := bit == 0 || bit == 14 || bit == 15

/-- The fence of a source, keyed tile × 64 + bit, module sources from 48 × 64. -/
def State.fence (s : State) (key : Nat) : Fence := Map.get {} s.faults.fences key

/-- Change a fence and the FENCED bits of FSTATE and MFSTATE. -/
def State.setFence (s : State) (key : Nat) (f : Fence) : State :=
  let s1 := { s with faults := { s.faults with fences := Map.set {} s.faults.fences key f } }
  let any := s1.faults.fences.any (fun e => e.1 / 64 == key / 64 && e.2.on)
  if key < 48 * 64 then s1.setB (F.FSTATE_FENCED (key / 64)) any else s1.setB F.MFSTATE_FENCED any

/-- Are assertions of a tile's sources lost now: in REACT or EXIT of the tile or of the module scope (R408, R410)? -/
def State.lostTile (s : State) (t : Nat) : Bool :=
  let a := s.f (F.FSTATE_STATE t)
  let m := s.f F.MFSTATE_STATE
  a == 1 || a == 3 || m == 1 || m == 3

/-- Are module assertions lost now (R408)? -/
def State.lostModule (s : State) : Bool := let m := s.f F.MFSTATE_STATE; m == 1 || m == 3

/-- Is a tile inside a fault reaction, so that its write gates are closed (R407)? -/
def State.gated (s : State) (t : Nat) : Bool := s.f (F.FSTATE_STATE t) != 0 || s.f F.MFSTATE_STATE != 0

/-- Has a tile yet to make the reference trace of its start (R356)? -/
def State.startTrace1 (s : State) (t : Nat) : Bool :=
  (s.bl t).traceDue.isSome && decide ((s.bl t).tracePrio ≤ 1) && s.b (F.BLK_CTL_EN t)

/-- Steps 1 to 3 of the SAFE reaction on one tile: every comb dark, every shutter shut and dark (R407). The write gates
close because the scope is no longer NORMAL. -/
def State.darken (s : State) (t : Nat) : State :=
  (s.each (List.range 8) (fun s c => s.setFs [(F.LAS_STAT_STATE t c, 0), (F.LAS_BIAS_BIAS t c, 0)])).each (List.range 3) (fun s i =>
    (if s.f (F.EYESAFE_STATE t i) = 0 then s.bump (F.EYESAFE_SHUT_CNT t i) else s).setF (F.EYESAFE_STATE t i) 2)

/-- A tile leaves stand-alone test mode (R484). -/
def State.leaveTest (s : State) (t : Nat) : State :=
  s.setFs [(F.TILE_TEST_STAT_STATE t, 0), (F.TILE_TEST_STAT_MEM_OUT t, 0), (F.TILE_TEST_STAT_ITEM t, 0xF)]

/-- QUIET of a scope (tile number, 48 the module) counts from now (R410). -/
def State.startQuiet (s : State) (scope : Nat) : State := { s with faults := { s.faults with quiet := Map.put scope s.bell s.faults.quiet } }

/-- A SAFE assertion takes a tile scope into REACT (R407, R412); a tile already in the reaction keeps its state, and one
that asserts while the module scope is in SAFE becomes SAFE at once (R413). QUIET restarts (R410). -/
def State.reactTile (s : State) (t bit : Nat) : State :=
  let s0 := s.startQuiet t
  let s1 := { s0 with faults := { s0.faults with cause := Map.put t (fsrcTile t bit) s0.faults.cause } }
  if s.f (F.FSTATE_STATE t) ≠ 0 then s0
  else if s.f F.MFSTATE_STATE = 2 then (s1.setF (F.FSTATE_STATE t) 2).leaveTest t
  else ((s1.setF (F.FSTATE_STATE t) 1).darken t).leaveTest t

/-- A SAFE assertion takes the module scope into REACT over all 48 tiles (R407). -/
def State.reactModule (s : State) (bit : Nat) : State :=
  let s0 := s.startQuiet 48
  if s.f F.MFSTATE_STATE ≠ 0 then s0
  else
    let s1 := { s0 with faults := { s0.faults with cause := Map.put 48 (fsrcModule bit) s0.faults.cause } }
    (s1.setF F.MFSTATE_STATE 1).each allTiles (fun s t => (s.darken t).leaveTest t)

/-- Latch a tile source's assertion (R403, R405, R406) and, at SAFE, start the reaction. CONTAIN fences are the caller's. -/
def State.latchTile (s : State) (t bit : Nat) (v : Int) : State :=
  let s1 := s.setBit (if bit < 32 then R.FSW_LO t else R.FSW_HI t) (bit % 32)
  let sev := s.sevTile t bit
  let fenced := sev == 2 && tileBlock bit && (s.fence (t * 64 + bit)).on
  if sev = 0 then s1
  else
    let s2 := if s1.b (F.FFIRST_VALID t) then s1.setB (F.FFIRST_OVF t) true
      else (s1.setFs [(F.FFIRST_SRC t, bit), (F.FFIRST_SEV t, sev), (F.FFIRST_VALID t, 1)]).setPair
        (F.FFIRST_BELL_LO t) (F.FFIRST_BELL_HI t) s1.bell
    let s3 := (s2.setBit (if t < 32 then R.MFSW_TILE_LO else R.MFSW_TILE_HI) (t % 32)).latchModule t sev
    if fenced then s3
    else
      let s4 := s3.record (.tileSrc bit) sev (tgtTile t) v
      if sev = 3 then s4.reactTile t bit else s4

/-- Latch a module source's assertion (R403, R405, R406) and, at SAFE, start the reaction. -/
def State.latchMod (s : State) (bit : Nat) (v : Int) : State :=
  let s1 := s.setBit R.MFSW_SRC bit
  let sev := s.sevModule bit
  let fenced := sev == 2 && moduleBlock bit && (s.fence (48 * 64 + bit)).on
  if sev = 0 then s1
  else
    let s2 := s1.latchModule (64 + bit) sev
    if fenced then s2
    else
      let s3 := s2.record (.modSrc bit) sev tgtModule v
      if sev = 3 then s3.reactModule bit else s3

/-- A tile source's line rises (R399): an assertion only where it was low, lost in the reaction window (R408). `hold`
says whether the line stays high after it. True where an assertion was latched. -/
def State.lineTile (s : State) (t bit : Nat) (hold : Bool) (v : Int) : State × Bool :=
  let off := if bit < 32 then R.FLVL_LO t else R.FLVL_HI t
  if s.bit off (bit % 32) then (s, false)
  else
    let s1 := if hold then s.setBit off (bit % 32) else s
    if s.lostTile t then (s1, false) else (s1.latchTile t bit v, true)

/-- A module source's line rises. -/
def State.lineMod (s : State) (bit : Nat) (hold : Bool) (v : Int) : State × Bool :=
  if s.bit R.MFLVL_SRC bit then (s, false)
  else
    let s1 := if hold then s.setBit R.MFLVL_SRC bit else s
    if s.lostModule then (s1, false) else (s1.latchMod bit v, true)

/-- A tile source with no block to fence asserts (a pulse unless `hold`). -/
def State.raise (s : State) (t bit : Nat) (v : Int := 0) (hold : Bool := false) : State := (s.lineTile t bit hold v).1

/-- A module source with no block to fence asserts. -/
def State.raiseMod (s : State) (bit : Nat) (v : Int := 0) (hold : Bool := false) : State := (s.lineMod bit hold v).1

/-- Is a SAFE-severity source of a tile high (R410)? -/
def State.safeHighTile (s : State) (t : Nat) : Bool :=
  (List.range 44).any (fun b => s.bit (if b < 32 then R.FLVL_LO t else R.FLVL_HI t) (b % 32) && s.sevTile t b == 3)

/-- Is a SAFE-severity module source high (R410)? -/
def State.safeHighMod (s : State) : Bool := (List.range 21).any (fun b => s.bit R.MFLVL_SRC b && s.sevModule b == 3)

/-- A tile source's line falls (R399). Where no SAFE source of the tile stays high, QUIET counts from now (R389, R410). -/
def State.fall (s : State) (t bit : Nat) : State :=
  let s1 := s.clrBit (if bit < 32 then R.FLVL_LO t else R.FLVL_HI t) (bit % 32)
  if s.safeHighTile t && !s1.safeHighTile t then s1.startQuiet t else s1

/-- A module source's line falls. -/
def State.fallMod (s : State) (bit : Nat) : State :=
  let s1 := s.clrBit R.MFLVL_SRC bit
  if s.safeHighMod && !s1.safeHighMod then s1.startQuiet 48 else s1

/-- FAULT_N is low while a scope is in REACT, SAFE, EXIT or HELD (R407, R410); the pin is driven when that changes. -/
def State.syncFaultN (s : State) : State :=
  let low := s.f F.MFSTATE_STATE != 0 || allTiles.any (fun t => s.f (F.FSTATE_STATE t) != 0)
  if s.b F.MFSTATE_FAULT_N = low then s else (s.setB F.MFSTATE_FAULT_N low).emit (.faultN low)

/-- Clear a first-source latch, with its OVF and Bell time (R405, FFIRST.VALID). -/
def State.clearFirst (s : State) : Scope → State
  | .tile t => ((s.setFs [(F.FFIRST_SRC t, 0), (F.FFIRST_SEV t, 0), (F.FFIRST_VALID t, 0), (F.FFIRST_OVF t, 0)]).setPair
      (F.FFIRST_BELL_LO t) (F.FFIRST_BELL_HI t) 0)
  | .module => ((s.setFs [(F.MFIRST_SRC, 0), (F.MFIRST_SEV, 0), (F.MFIRST_VALID, 0), (F.MFIRST_OVF, 0)]).setPair
      F.MFIRST_BELL_LO F.MFIRST_BELL_HI 0)

end Sys2Proof.Machine
end

