-- ==== Sys2Proof/Machine/Ports.lean ====
section
/-! DEFINITION. Machine/Ports.lean: ports and sublinks as every chapter meets them: tiles, far ends, reachability (R226), and the
flits that carry transport units (R220) and link control messages (R187). -/

namespace Sys2Proof.Machine

/-! ### Ports and sublinks (R3, R448) -/

/-- The four sublinks of the expansion sites, by port code (R448). -/
def sitePorts : List Nat := [240, 241, 242, 243]

/-- The tile of a port or sublink (R3, R448). -/
def portTile (p : Nat) : Nat :=
  if p < 240 then p / 3 else if p = 240 then 12 else if p = 241 then 24 else if p = 242 then 23 else 35

/-- The node at the far end: as learned in training, or the die's node ID (R143, R456). -/
def State.farOf (s : State) (p : Nat) : Nat :=
  if p < 240 then (s.link p).farNode else s.f (F.XSITE_CFG_NODE ((p - 240) / 2))

/-- LINK_STAT.STATE is UP, or the sublink is UP: a sublink that is HELD leaves the other one in service (R455). -/
def State.linkUp (s : State) (p : Nat) : Bool :=
  if p < 240 then s.f (F.LINK_STAT_STATE p) == 3
  else (s.f (F.XSITE_STAT_STATE ((p - 240) / 2)) == 3 || s.f (F.XSITE_STAT_STATE ((p - 240) / 2)) == 6) &&
    s.f (F.XSITE_STAT_SUB_UP ((p - 240) / 2)) / 2 ^ (p % 2) % 2 == 1

/-- Does a link carry flits: its port is UP, or its sublink is UP and not in a fast retrain (R454)? -/
def State.linkRuns (s : State) (p : Nat) : Bool := s.linkUp p && (decide (p < 240) || (s.link p).train.isNone)

/-- The link holds its traffic: UP or in a fast retrain (R183). -/
def State.linkKeeps (s : State) (p : Nat) : Bool :=
  if p < 240 then s.f (F.LINK_STAT_STATE p) == 3 || s.f (F.LINK_STAT_STATE p) == 4 else s.linkUp p

/-- Is the port UP with the node as its far end (R226)? -/
def State.upTo (s : State) (p node : Nat) : Bool := s.linkUp p && s.farOf p == node

/-- Does the port keep traffic for the node: UP or RETRAIN to it? -/
def State.keepsTo (s : State) (p node : Nat) : Bool := s.linkKeeps p && s.farOf p == node

/-- All ports. -/
def allPorts : List Nat := List.range 144

/-- Hand flits to the transmit queue of a port or of a sublink, which runs the same link layer (R450). -/
def State.enqueue (s : State) (p : Nat) (fs : List Flit) : State := s.updLink p (fun l => { l with txq := l.txq ++ fs })

/-! ### Flits -/

/-- The 232 bytes of a transport unit (R220). -/
def Tu.bytes (t : Tu) : List Byte :=
  leBytes 1 t.type ++ leBytes 1 t.flags ++ leBytes 2 t.data.length ++ leBytes 4 t.stream ++ leBytes 4 t.tsn ++
  leBytes 4 t.aux ++ leBytes 8 t.addr ++ fitBytes 208 t.data

/-- The transport unit in a payload of 232 bytes; a DLEN above 208 counts as 208. -/
def Tu.parse (bs : List Byte) : Tu :=
  let b := fitBytes 232 bs
  { type := leAt b 0 1, flags := leAt b 1 1, stream := leAt b 4 4, tsn := leAt b 8 4, aux := leAt b 12 4,
    addr := leAt b 16 8, data := (b.drop 24).take (min (leAt b 2 2) 208) }

/-- The DATA flit that carries a transport unit. -/
def tuFlit (vc : Nat) (tu : Tu) (owner : Option Nat) : Flit :=
  { type := .data, vc := vc, payload := tu.bytes, owner := owner }

/-- The LCTL flit of a link control message (R187). -/
def lctlFlit (msg : List Byte) : Flit := { type := .lctl, vc := 2, payload := msg }

/-- The ports of the reserve tiles, which are the twin ports (R30). -/
def isTwinPort (p : Nat) : Bool := isReserve (p / 3)

/-- The gang jumper that is UP to another member (R445). -/
def State.jumperTo (s : State) (node : Nat) : Option Nat := allPorts.find? (fun p => isTwinPort p && s.upTo p node)

end Sys2Proof.Machine
end

