-- ==== Sys2Proof/Machine/Fam.lean ====
section
/-! DEFINITION. Machine/Fam.lean: fabric addresses, the Fabric Address Map and its caches (R212 to R218), and accesses to
pool memory with poison, unavailability and migration (R222, R252 to R258). -/

namespace Sys2Proof.Machine

/-! ### Status codes (R56) -/

def stOk : Nat := 0x0000
def stOkEmpty : Nat := 0x0001
def stAccepted : Nat := 0x0002
def stOpcode : Nat := 0x0101
def stParam : Nat := 0x0102
def stLength : Nat := 0x0103
def stCrc : Nat := 0x0104
def stBusy : Nat := 0x0105
def stState : Nat := 0x0106
def stCapacity : Nat := 0x0201
def stTableFull : Nat := 0x0202
def stNotFound : Nat := 0x0203
def stAuth : Nat := 0x0301
def stLocked : Nat := 0x0302
def stSetMismatch : Nat := 0x0303
def stFault : Nat := 0x0401
def stNotHolder : Nat := 0x0402
def stUnstable : Nat := 0x0501
def stCalRejected : Nat := 0x0502
def stLaneConflict : Nat := 0x0601

/-! ### FAM entries -/

/-- FAM entry i (R214); an entry nothing has written is UNMAPPED with GEN 0. -/
def State.famEntry (s : State) (i : Nat) : FamEntry := Map.get {} s.pool.fam i

/-- KIND code of an entry (R215). -/
def FamKind.code : FamKind → Nat
  | .unmapped => 0
  | .local_ => 1
  | .remote => 2

/-- The 16 bytes of an entry (R215, R216). -/
def FamEntry.bytes (e : FamEntry) : List Byte :=
  leBytes 4 (e.kind.code + (e.tier % 4) * 4 + (if e.ro then 0x10 else 0) + (if e.migrating then 0x20 else 0) +
    (e.tile % 64) * 0x100 + (e.gen % 0x10000) * 0x10000) ++
  (match e.kind with
   | .local_ => leBytes 4 e.frame ++ leBytes 4 e.region ++ zeros 4
   | .remote => leBytes 4 e.remNode ++ leBytes 8 e.remBase
   | .unmapped => zeros 12)

/-- Write an entry with GEN one above the old one (R215, R218). -/
def State.setFam (s : State) (i : Nat) (e : FamEntry) : State :=
  let s1 := s.updPool (fun p => { p with fam := Map.set {} p.fam i { e with gen := ((Map.get {} p.fam i).gen + 1) % 0x10000 } })
  -- the leader of a gang copies the change to every member (R446)
  if s.b F.GANG_STAT_EN && s.f F.GANG_STAT_MEMBER == 0 then s1.emit (.gangFam i) else s1

/-- Is at least one FAM copy available (R214)? -/
def State.famUp (s : State) : Bool := s.pool.copyUp.1 || s.pool.copyUp.2

/-- Drop an index from every tile's FAM cache (R218 step 3). -/
def State.dropCache (s : State) (i : Nat) : State :=
  s.updPool (fun p => { p with cache := p.cache.map (fun e => (e.1, e.2.filter (fun x => x.1 != i))) |>.filter (fun e => !e.2.isEmpty) })

/-- Drop a run of indexes from every cache. -/
def State.dropRange (s : State) (base count : Nat) : State :=
  s.updPool (fun p => { p with cache := p.cache.map (fun e => (e.1, e.2.filter (fun x => !(decide (base ≤ x.1) && decide (x.1 < base + count))))) |>.filter (fun e => !e.2.isEmpty) })

/-- Clear a tile's whole FAM cache. -/
def State.clearCache (s : State) (t : Nat) : State :=
  s.updPool (fun p => { p with cache := p.cache.filter (fun e => e.1 / 4096 != t) })

/-- Look an index up through a tile's FAM cache (R217): a hit moves the entry to the front of its set; a miss fetches it
from the copy and replaces the least recently used of 16; none on a miss while both copies are unavailable (R214). -/
def State.lookup (s : State) (t i : Nat) : Option FamEntry × State :=
  let key := t * 4096 + i % 4096
  let set := Map.get [] s.pool.cache key
  match set.find? (fun x => x.1 == i) with
  | some x =>
    (some x.2, (s.updPool (fun p => { p with cache := Map.put key (x :: set.filter (fun y => y.1 != i)) p.cache })).bump (F.FAMC_CNT_HIT t))
  | none =>
    if s.famUp then
      let e := s.famEntry i
      (some e, (s.updPool (fun p => { p with cache := Map.put key (((i, e) :: set).take 16) p.cache })).bump (F.FAMC_CNT_MISS t))
    else (none, s.bump (F.FAMC_CNT_MISS t))

/-! ### Fabric addresses (R212) -/

/-- NODE[63:49] of a fabric address. -/
def addrNode (a : Nat) : Nat := a / 2 ^ 49 % 2 ^ 15

/-- OFFSET[48:0]. -/
def addrOffset (a : Nat) : Nat := a % 2 ^ 49

/-- Is OFFSET[48:42] zero? -/
def addrValid (a : Nat) : Bool := decide (addrOffset a < 2 ^ 42)

/-- FAM index, OFFSET[41:21]. -/
def addrIndex (a : Nat) : Nat := addrOffset a / 2 ^ 21 % 2 ^ 21

/-- Byte within the 2 MiB region, OFFSET[20:0]. -/
def addrByte (a : Nat) : Nat := a % 2 ^ 21

/-- The fabric address of an offset of this module's pool. -/
def State.fabricAddr (s : State) (off : Nat) : Nat := 2 ^ 49 * s.node + off

/-- Key of a byte of a tile's memory in `State.dram`. -/
def dramKey (t frame byte : Nat) : Nat := 2 ^ 40 * t + 2 ^ 21 * frame + byte

/-- Key of a frame. -/
def frameKey (t frame : Nat) : Nat := 2 ^ 17 * t + frame

/-- Key of the frame that holds a byte key. -/
def frameOfKey (k : Nat) : Nat := frameKey (k / 2 ^ 40) (k % 2 ^ 40 / 2 ^ 21)

/-- Is a tile's memory out of reach: UNAVAILABLE, or not in service at all (R258)? -/
def State.memDown (s : State) (t : Nat) : Bool :=
  let st := s.f (F.MEM_STAT_STATE t)
  !(st == 2 || st == 3)

/-! ### Fault sources in DETAIL (R56, R400) -/

/-- FAM indexes that a byte range of this module touches. -/
def rangeIndexes (a n : Nat) : List Nat :=
  if n = 0 then [] else (List.range ((addrOffset a + n - 1) / 2 ^ 21 + 1 - addrIndex a)).map (fun i => addrIndex a + i)

/-- The source of the fault reaction that a tile is in (R407). -/
def State.scopeCause (s : State) (t : Nat) : Option Nat :=
  if s.f F.MFSTATE_STATE ≠ 0 then Map.find 48 s.faults.cause
  else if s.f (F.FSTATE_STATE t) ≠ 0 then Map.find t s.faults.cause
  else none

/-- The source that makes a tile's memory UNAVAILABLE (R258): a reaction, a fence of MEM_CTRL or POL_MEM, or MEM_THERM. -/
def State.memCause (s : State) (t : Nat) : Option Nat :=
  (s.scopeCause t).orElse (fun _ =>
    if (s.fence (t * 64 + 27)).on then some (fsrcTile t 27)
    else if (s.fence (t * 64 + 39)).on then some (fsrcTile t 39)
    else if (s.th t).memTrip then some (fsrcTile t 28) else none)

/-- The source that takes a tile's engines (R31): a reaction, OME_FAIL or COLL_ERR. -/
def State.engineCause (s : State) (t : Nat) : Option Nat :=
  (s.scopeCause t).orElse (fun _ =>
    if (s.fence (t * 64 + 30)).on || s.f (F.OME_STAT_STATE t) == 8 then some (fsrcTile t 30)
    else if (s.fence (t * 64 + 32)).on then some (fsrcTile t 32) else none)

/-- The source that makes a range unreadable: both FAM copies gone (R214), memory UNAVAILABLE, or a poisoned line (R256). -/
def State.rangeCause (s : State) (a n : Nat) : Option Nat :=
  if !s.famUp then some (fsrcModule 10)
  else (rangeIndexes a n).findSome? (fun i =>
    let e := s.famEntry i
    if e.kind ≠ .local_ then none
    else if s.memDown e.tile then s.memCause e.tile
    else if s.pool.poison.any (fun l => l / 2 ^ 15 == dramKey e.tile e.frame 0 / 2 ^ 21) then some (fsrcTile e.tile 26)
    else none)

/-- The first source that stands for one of several ranges. -/
def State.rangesCause (s : State) (rs : List (Nat × Nat)) : Option Nat := rs.findSome? (fun r => s.rangeCause r.1 r.2)

/-- DETAIL of an ERR_FAULT (R400): the source's FSRC, or, where none of R401 and R402 stands behind it, a free value
(assumption 159). -/
def State.faultDetail (s : State) (c : Option Nat) : Nat := c.getD (s.fresh.1.toNat % 2 ^ 32)

/-! ### Frames (R242, R245) -/

/-- OME staging frames of a tile in force since the last cold reset (R243). -/
def State.stagingFrames (s : State) (t : Nat) : Nat := Map.get 256 s.pool.omeFrames t

/-- Does a memory tile hold the replay spill of a neighbour (R175, R242)? -/
def holdsNeighbourSpill (t : Nat) : Bool :=
  t == 1 || t == 10 || t == 13 || t == 22 || t == 25 || t == 34 || t == 37 || t == 46

/-- The half-open range of frames of a tile that may be allocated: the carve-outs of R242 left out. -/
def State.frameRange (s : State) (t : Nat) : Nat × Nat :=
  if isMemTile t then
    (0, 12288 - (if t == 1 || t == 25 then 16 else 0) - (if holdsNeighbourSpill t then 96 else 0) - 96 - s.stagingFrames t)
  else if isCorner t then (if t = s.clockMaster then 32 else 0, 131072)
  else (0, 0)

/-- May a frame be allocated, by its place (R242)? -/
def State.allocatable (s : State) (fk : Nat) : Bool :=
  let (lo, hi) := s.frameRange (fk / 2 ^ 17)
  decide (lo ≤ fk % 2 ^ 17) && decide (fk % 2 ^ 17 < hi)

/-- Does the patrol scrub of a tile's memory run (R257): in service, its period not 0? -/
def State.scrubbing (s : State) (t : Nat) : Bool := s.f (F.MEM_STAT_STATE t) == 2 && s.f (F.MEM_CTL_SCRUB_HOURS t) != 0

/-- The lowest `n` free frames from `lo` below `hi`, walking the numbers of the frames in use (rising). -/
def freeWalk (hi : Nat) : List Nat → Nat → Nat → List Nat
  | [], lo, n => (List.range (min n (hi - lo))).map (lo + ·)
  | f :: m, lo, n =>
    if f < lo then freeWalk hi m lo n
    else
      let gap := min n (min f hi - lo)
      (List.range gap).map (lo + ·) ++ freeWalk hi m (f + 1) (n - gap)

/-- The lowest `n` free frames of a tile, fewer where fewer are free (R245). -/
def State.freeFrames (s : State) (t n : Nat) : List Nat :=
  let (lo, hi) := s.frameRange t
  freeWalk hi ((s.pool.used.filter (fun e => e.1 / 2 ^ 17 == t)).map (fun e => e.1 % 2 ^ 17)) lo n

/-- The number of free frames of a tile (MEM_FRAMES.FREE): the allocatable frames that nothing holds. -/
def State.freeCount (s : State) (t : Nat) : Nat :=
  let (lo, hi) := s.frameRange t
  (hi - lo) - s.pool.used.countP (fun e => e.1 / 2 ^ 17 == t && decide (lo ≤ e.1 % 2 ^ 17) && decide (e.1 % 2 ^ 17 < hi))

/-- Return a frame to its tile's free list, or retire it where it is marked (R251, R257). -/
def State.releaseFrame (s : State) (t frame : Nat) : State :=
  let k := frameKey t frame
  if s.pool.marked.contains k then
    (s.updPool (fun p => { p with used := Map.put k .retired p.used, marked := p.marked.erase k })).bump (F.MEM_RETIRED_N t)
  else s.updPool (fun p => { p with used := Map.del k p.used })

/-! ### Poison and retirement (R256, R257) -/

/-- The 64-byte lines that `n` bytes from key `k` touch. -/
def linesOf (k n : Nat) : List Nat :=
  if n = 0 then [] else (List.range ((k + n - 1) / 64 + 1 - k / 64)).map (fun i => k / 64 + i)

/-- Is a line poisoned? -/
def State.poisoned (s : State) (line : Nat) : Bool := s.pool.poison.contains line

/-- Mark a line poisoned: counted in MEM_UE and MEM_POISON, a CRIT record, and MEM_UE asserts (R256, R401). -/
def State.poisonLine (s : State) (line : Nat) : State :=
  if s.poisoned line then s
  else
    let t := line * 64 / 2 ^ 40
    let s1 := s.updPool (fun p => { p with poison := line :: p.poison })
    ((((s1.bump (F.MEM_UE t)).bump (F.MEM_POISON t)).note 0x3 .poison 3 (tgtTile t))).raise t 26

/-- Clear a line's poison (R256). -/
def State.clearPoison (s : State) (line : Nat) : State :=
  if s.poisoned line then
    let t := line * 64 / 2 ^ 40
    (s.updPool (fun p => { p with poison := p.poison.erase line })).setF (F.MEM_POISON t) (s.f (F.MEM_POISON t) - 1)
  else s

/-- A corrected line of a frame is counted; above RETIRE_CE within 24 h the frame is marked for retirement, and a free
frame is retired at once (R257). -/
def State.correctedLine (s : State) (line : Nat) : State :=
  let t := line * 64 / 2 ^ 40
  let fk := frameOfKey (line * 64)
  let day := 86400000000
  let times := s.bell :: (Map.get [] s.pool.corrected fk).filter (fun b => decide (s.bell < b + day))
  let s1 := (s.bump (F.MEM_CE t)).updPool (fun p => { p with corrected := Map.put fk times p.corrected })
  if times.length ≤ s1.f (F.MEM_CTL_RETIRE_CE t) || s1.pool.marked.contains fk ||
      decide (Map.find fk s1.pool.used = some FrameUse.retired) then s1
  else
    let s2 := (s1.note 0x3 .retireMark 2 (tgtTile t)).raise t 29
    if (Map.find fk s2.pool.used).isNone && s2.allocatable fk then
      (s2.updPool (fun p => { p with used := Map.put fk .retired p.used })).bump (F.MEM_RETIRED_N t)
    else s2.updPool (fun p => { p with marked := fk :: p.marked })

/-! ### Accesses -/

/-- Does the module take addresses of a node as its own: its node ID, and PAIR_NODE while it holds the Hall Pass (R213,
R422)? -/
def State.ownNode (s : State) (n : Nat) : Bool :=
  n != 0 && (n == s.node || (s.b F.GANG_STAT_EN && n == s.twin.gangLeader) || (n == s.f F.TWIN_CFG_PAIR_NODE && (s.f F.TWIN_STAT_STATE == 4 || s.f F.TWIN_STAT_STATE == 5)))

/-- Outcome of resolving an access (R222). -/
inductive Resolved where
  | bad (status : Nat)
  | at_ (tile : Nat) (key : Nat) (entry : FamEntry)
  | remote (node : Nat) (addr : Nat)
  | noCopy
  deriving DecidableEq, Repr

/-- An address of another node is resolved only in gang mode, by a REMOTE entry that names that node (R213, R216). -/
def State.foreign (s : State) (a : Nat) : Bool :=
  let e := s.famEntry (addrIndex a)
  s.b F.GANG_STAT_EN && decide (e.kind = .remote) && e.remNode == addrNode a

/-- Resolve `n` bytes at a fabric address through tile `t`'s FAM cache, with the checks of R222 in their order. -/
def State.resolve (s : State) (t a n : Nat) (write : Bool) : Resolved × State :=
  if !addrValid a || !(s.ownNode (addrNode a) || s.foreign a) then (.bad stNotFound, s)
  else
    match s.lookup t (addrIndex a) with
    | (none, s1) => (.noCopy, s1)
    | (some e, s1) =>
      if e.kind = .unmapped then (.bad stNotFound, s1)
      else if 2 ^ 21 < addrByte a + n then (.bad stParam, s1)
      else if write && e.ro then (.bad stLocked, s1)
      else if e.kind = .remote then (.remote e.remNode (e.remBase + addrByte a), s1)
      else (.at_ e.tile (dramKey e.tile e.frame (addrByte a)) e, s1)

/-- The bytes of one tile's memory, or ERR_FAULT where the memory is UNAVAILABLE or a line is poisoned (R222, R256). -/
def State.fetch (s : State) (t key n : Nat) : Except Nat (List Byte) :=
  if s.memDown t then .error stFault
  else if (linesOf key n).any s.poisoned then .error stFault
  else .ok (Memory.read s.dram key n)

/-- Mark the 4 KiB blocks a write dirties while their frame is in the first pass of a migration (R252). -/
def State.markDirty (s : State) (key n : Nat) : State :=
  let fk := frameOfKey key
  let blocks := (List.range ((key % 2 ^ 21 + (n - 1)) / 4096 + 1 - key % 2 ^ 21 / 4096)).map (fun i => key % 2 ^ 21 / 4096 + i)
  s.updPool (fun p => { p with migs := p.migs.map (fun m =>
    match m.phase, m.todo with
    | .pass1, f :: _ =>
      if frameKey f.srcTile f.srcFrame = fk then { m with dirty := (m.dirty ++ blocks).eraseDups } else m
    | _, _ => m) })

/-- Write bytes to one tile's memory: refused with ERR_FAULT where the memory is UNAVAILABLE, or where the write covers
only part of a poisoned line; a write over a whole line clears its poison; closed write gates discard it (R256, R258,
R407). -/
def State.store (s : State) (t key : Nat) (bs : List Byte) : Except Nat State :=
  if bs.isEmpty then .ok s
  else if s.memDown t then .error stFault
  else if s.gated t then .ok s
  else
    let n := bs.length
    let whole := fun (l : Nat) => decide (key ≤ l * 64) && decide (l * 64 + 64 ≤ key + n)
    let ls := (linesOf key n).filter s.poisoned
    if ls.any (fun l => !whole l) then .error stFault
    else .ok ((ls.foldl State.clearPoison { s with dram := Memory.write s.dram key bs }).markDirty key n)

/-- A read by fabric address from this module's own memory. -/
def State.readHere (s : State) (t a n : Nat) : Except Nat (List Byte) × State :=
  match s.resolve t a n false with
  | (.bad st, s1) => (.error st, s1)
  | (.noCopy, s1) => (.error stFault, s1)
  | (.remote _ _, s1) => (.error stNotFound, s1)
  | (.at_ mt key _, s1) => (s1.fetch mt key n, s1)

/-- Write at a resolved place of this module's memory: held where the entry is MIGRATING (R253), and then as good as done. -/
def State.writeAt (s : State) (t a : Nat) (bs : List Byte) (mt key : Nat) (e : FamEntry) : Except Nat State × State :=
  if e.migrating then (.ok (s.updPool (fun p => { p with held := p.held ++ [⟨t, none, none, a, bs, none⟩] })), s)
  else match s.store mt key bs with
    | .ok s2 => (.ok s2, s)
    | .error st => (.error st, s)

/-- A write by fabric address to this module's own memory. -/
def State.writeHere (s : State) (t a : Nat) (bs : List Byte) : Except Nat State × State :=
  match s.resolve t a bs.length true with
  | (.bad st, s1) => (.error st, s1)
  | (.noCopy, s1) => (.error stFault, s1)
  | (.remote _ _, s1) => (.error stNotFound, s1)
  | (.at_ mt key e, s1) => s1.writeAt t a bs mt key e

/-- The transport units, of at most 208 bytes each, that carry an access to another module (R220, R446). -/
def remoteTus (tu : Tu) (addr n : Nat) : List Tu :=
  if tu.type = 2 then
    (List.range (max 1 ((n + 207) / 208))).map (fun i => { tu with addr := addr + 208 * i, aux := min 208 (n - 208 * i) })
  else if tu.data.length ≤ 208 then [{ tu with addr := addr }]
  else (chunks 208 (tu.data.length / 208 + 1) tu.data).mapIdx (fun i d => { tu with addr := addr + 208 * i, data := d })

/-- An access to a REMOTE entry (R446): served here where it names this module, else forwarded over the gang jumpers;
ERR_FAULT while the member cannot be reached (R447). What a remote read returns comes from the other module. -/
def State.remoteAccess (s : State) (t : Nat) (node addr : Nat) (tu : Tu) (n : Nat) : Except Nat (List Byte) × State :=
  if node = s.node then
    if tu.type = 2 then s.readHere t addr n
    else match s.writeHere t addr tu.data with
      | (.ok s1, _) => (.ok [], s1)
      | (.error st, s1) => (.error st, s1)
  else match s.jumperTo node with
    | none => (.error stFault, s)
    | some p =>
      let s1 := s.enqueue p ((remoteTus tu addr n).map (fun u => tuFlit 0 u none))
      if tu.type = 2 then let (bs, s2) := State.freshBytes n s1; (.ok bs, s2) else (.ok [], s1)

/-- The transport unit of an access that no stream sent. -/
def bareTu (type : Nat) (bs : List Byte) : Tu := { type := type, flags := 0, stream := 0, tsn := 0, aux := 0, addr := 0, data := bs }

/-- A read by fabric address on behalf of tile `t`: the status and the bytes (R222, R446). -/
def State.readFabric (s : State) (t a n : Nat) : Except Nat (List Byte) × State :=
  match s.resolve t a n false with
  | (.bad st, s1) => (.error st, s1)
  | (.noCopy, s1) => (.error stFault, s1)
  | (.remote node addr, s1) => s1.remoteAccess t node addr (bareTu 2 []) n
  | (.at_ mt key _, s1) => (s1.fetch mt key n, s1)

/-- A write by fabric address on behalf of tile `t`: the module's own writes (R222, R446, R531). -/
def State.writeFabric (s : State) (t a : Nat) (bs : List Byte) : Except Nat State × State :=
  match s.resolve t a bs.length true with
  | (.bad st, s1) => (.error st, s1)
  | (.noCopy, s1) => (.error stFault, s1)
  | (.remote node addr, s1) =>
    (match s1.remoteAccess t node addr (bareTu 3 bs) 0 with
     | (.ok _, s2) => (.ok s2, s1)
     | (.error st, s2) => (.error st, s2))
  | (.at_ mt key e, s1) => s1.writeAt t a bs mt key e

end Sys2Proof.Machine
end

