-- ==== Sys2Proof/Machine/Reply.lean ====
section
/-! DEFINITION. Machine/Reply.lean: origins (R49, R50), replies on every path (R53, R54, R61, R62, R531) and the change
journal's waiting entries (R79 to R82, R529). -/

namespace Sys2Proof

/-! ### Packet fields -/

/-- Parameter word i of a packet. -/
def Packet.w (p : Packet) (i : Nat) : Nat := leAt p.params (4 * i) 4
/-- A parameter word read as signed. -/
def Packet.int (p : Packet) (i : Nat) : Int := signedOf 32 (p.w i)
/-- PARAM_LEN. -/
def Packet.plen (p : Packet) : Nat := p.params.length
/-- KIND of TARGET (R51). -/
def Packet.kind (p : Packet) : Nat := p.target.toNat % 256
/-- UNIT of TARGET. -/
def Packet.unit (p : Packet) : Nat := p.target.toNat / 0x100 % 256
/-- SUB of TARGET. -/
def Packet.sub (p : Packet) : Nat := p.target.toNat / 0x10000 % 256
/-- The gang member that TARGET[25:24] names (R447). -/
def Packet.member (p : Packet) : Nat := p.target.toNat / 0x1000000 % 4
/-- FLAGS[0]. -/
def Packet.async (p : Packet) : Bool := p.flags.getLsbD 0
/-- FLAGS[1]. -/
def Packet.fence (p : Packet) : Bool := p.flags.getLsbD 1
/-- FLAGS[2]. -/
def Packet.dataFabric (p : Packet) : Bool := p.flags.getLsbD 2

/-- The data buffer's length for a result: on the chain and on VC2 without DATA_FABRIC there is none (R54). -/
def Packet.bufLen (p : Packet) : Nat :=
  if p.dataFabric then p.dataLen.toNat
  else match p.path with
    | .host _ => p.dataLen.toNat
    | _ => 0

end Sys2Proof

namespace Sys2Proof.Machine

/-! ### Origins (R49, R50) -/

/-- The ORIGIN the module writes for a path (R49, R50, R68). A chain address that is neither the head's nor the twin
partner's has none. -/
def State.originOf (s : State) : Path → Option Nat
  | .host q => some ((if s.b (F.Q_CTL_PORT q) then 2 else 1) + q * 16)
  | .chain src =>
    if src.toNat = 0x7F then some 3
    else if src.toNat ≠ 0 && src.toNat = s.f F.TWIN_STAT_PARTNER_MCH then some 4
    else none
  | .port p =>
    let n := (s.link p).farNode
    if isTwinPort p && n != 0 && n == s.f F.TWIN_PARTNER_NODE then some 4 else some (0x8000 + n % 0x8000)
  | .site k => some (0x8000 + s.f (F.XSITE_CFG_NODE (k.val / 2)))
  | .jtag => some 6
  | .mirror => none

/-- The origin code of an ORIGIN (R49). -/
def originCode (o : Nat) : Nat := if 0x8000 ≤ o then 5 else o % 16

/-! ### Posting a reply -/

/-- The 16-byte status header and the result (R53). -/
def Reply.bytes (r : Reply) (ringWord : Nat) : List Byte :=
  leBytes 2 r.tag.toNat ++ leBytes 2 r.status ++ leBytes 4 r.detail ++
  leBytes 4 (r.result.length + r.inBuffer) ++ leBytes 4 ringWord ++ r.result

/-- CQ full: CQ tail + 1 = CQ head (R62). -/
def State.cqFull (s : State) (q : Nat) : Bool :=
  (s.f (F.Q_STAT_CQ_TAIL q) + 1) % 4096 == s.f (F.QDB_CQ_HEAD_HEAD q)

/-- Write one reply into a completion ring with room, advance CQ_TAIL, toggle PHASE at the wrap, set CQ_FULL and raise
the MSI-X vector (R61, R62). -/
def State.ringWrite (s : State) (q : Nat) (r : Reply) : State :=
  let tail := s.f (F.Q_STAT_CQ_TAIL q)
  let phase := (s.qu q).phase
  let base := 2 ^ 12 * s.f (F.Q_CQ_BASE_LO_ADDR q) + 2 ^ 32 * s.f (F.Q_CQ_BASE_HI_ADDR q)
  let word := s.f (F.Q_STAT_SQ_HEAD q) + (if phase then 0x10000 else 0)
  let s1 := { s with host := Memory.write s.host (base + tail * 64) (r.bytes word) }
  let s2 := (s1.setF (F.Q_STAT_CQ_TAIL q) ((tail + 1) % 4096)).updQu q (fun u => if tail = 4095 then { u with phase := !u.phase } else u)
  let s3 := s2.setB (F.Q_STAT_CQ_FULL q) (s2.cqFull q)
  if s3.b (F.Q_CTL_IRQ_EN q) then s3.emit (.msix (s3.f (F.Q_CTL_PORT q)) (s3.f (F.Q_CTL_VEC q))) else s3

/-- Does a host queue drop its replies: DISABLED, DRAINING, or HALTED by a CXL.io error (R55, R63)? -/
def State.dropsReplies (s : State) (q : Nat) : Bool :=
  let st := s.f (F.Q_STAT_STATE q)
  st == 0 || st == 3 || (st == 2 && (s.qu q).dead)

/-- A chain frame (R67). -/
def chainFrame (dest src type : Nat) (payload : List Byte) : List Byte :=
  let body := leBytes 1 dest ++ leBytes 1 src ++ leBytes 1 type ++ [0] ++ leBytes 2 payload.length ++ payload
  body ++ leBytes 4 (crc32c body)

/-- A packet or reply cut into CMD flits of 232 bytes, LAST on the last (R182). -/
def cmdFlits (isReply : Bool) (bs : List Byte) : List Flit :=
  let parts := chunks 232 (bs.length / 232 + 1) bs
  parts.mapIdx (fun i b => { type := .cmd, vc := 2, payload := b, last := decide (i + 1 = parts.length), reply := isReply })

/-- Send a reply on its path; a command that a mirror record brought has none (R437). A host ring without room keeps it in
order (R62); a port whose in-band command is no longer outstanding drops it (R184). -/
def State.sendReply (s : State) (path : Path) (r : Reply) : State :=
  match path with
  | .host q =>
    if s.dropsReplies q then s
    else if s.cqFull q || !(s.qu q).held.isEmpty then
      (s.updQu q (fun u => { u with held := u.held ++ [r] })).setB (F.Q_STAT_CQ_FULL q) true
    else s.ringWrite q r
  | .chain src => s.emit (.chain (chainFrame src.toNat (s.f F.MCH_ADDR_ADDR) 0x11 (r.bytes 0)))
  | .port p =>
    if (s.link p).inband.contains r.tag.toNat then
      s.updLink p (fun l => { l with txq := l.txq ++ cmdFlits true (r.bytes 0) })
    else s
  | .site k =>
    if (s.link (240 + k.val)).inband.contains r.tag.toNat then s.enqueue (240 + k.val) (cmdFlits true (r.bytes 0)) else s
  | .jtag => s.emit (.jtag (r.bytes 0))
  | .mirror => s

/-- Send a final reply: it also ends the in-band packet (R70), and lets a DRAINING queue become DISABLED through its own
event. -/
def State.sendFinal (s : State) (path : Path) (r : Reply) : State :=
  let s1 := s.sendReply path r
  match path with
  | .port p => s1.updLink p (fun l => { l with inband := l.inband.erase r.tag.toNat })
  | .site k => s1.updLink (240 + k.val) (fun l => { l with inband := l.inband.erase r.tag.toNat })
  | _ => s1

/-- Hold a reply until the switchover ends (R65). -/
def State.holdReply (s : State) (path : Path) (r : Reply) (final : Bool) : State :=
  s.updPr (fun pr => { pr with replies := pr.replies ++ [(path, r, final)] })

/-- Post a reply that is not the final one: held during a switchover (R65). -/
def State.post (s : State) (path : Path) (r : Reply) : State :=
  if s.b F.Q_GLOBAL_SWITCHOVER then s.holdReply path r false else s.sendReply path r

/-- Post a final reply: held during a switchover (R65). -/
def State.postFinal (s : State) (path : Path) (r : Reply) : State :=
  if s.b F.Q_GLOBAL_SWITCHOVER then s.holdReply path r true else s.sendFinal path r

/-- Post held replies while the ring has room (R62). -/
def State.flushHeld : Nat → Nat → State → State
  | 0, _, s => s
  | n + 1, q, s =>
    match (s.qu q).held with
    | [] => s.setB (F.Q_STAT_CQ_FULL q) (s.cqFull q)
    | r :: rest =>
      if s.cqFull q then s
      else State.flushHeld n q ((s.updQu q (fun u => { u with held := rest })).ringWrite q r)

/-! ### Doorbells (R62 to R65) -/

/-- An ignored doorbell write: BAD_DB and a NOTICE. -/
def State.badDoorbell (s : State) (q : Nat) : State := (s.setF (F.Q_ERR_BAD_DB q) 1).note 0x0 .badDoorbell 1 tgtModule q

/-- A tail doorbell (R63, R64). -/
def State.tailMoves (s : State) (q v : Nat) : State :=
  let st := s.f (F.Q_STAT_STATE q)
  let new := v % 4096
  let old := s.f (F.QDB_SQ_TAIL_TAIL q)
  if st = 2 then s
  else if st ≠ 1 then s.badDoorbell q
  else if (s.f (F.Q_STAT_SQ_HEAD q) + 8192 - old - 1) % 4096 < (new + 4096 - old) % 4096 then s.badDoorbell q
  else s.setF (F.QDB_SQ_TAIL_TAIL q) new

/-- A head doorbell (R62, R64): replies that waited for room are posted. -/
def State.headMoves (s : State) (q v : Nat) : State :=
  let st := s.f (F.Q_STAT_STATE q)
  let new := v % 4096
  let old := s.f (F.QDB_CQ_HEAD_HEAD q)
  if st = 0 || st = 3 then s.badDoorbell q
  else if (s.f (F.Q_STAT_CQ_TAIL q) + 4096 - old) % 4096 < (new + 4096 - old) % 4096 then s.badDoorbell q
  else
    let s1 := s.setF (F.QDB_CQ_HEAD_HEAD q) new
    State.flushHeld ((s1.qu q).held.length + 1) q s1

/-- A doorbell write, of a tail or of a head: held during a switchover (R65). -/
def State.doorbell (s : State) (q : Nat) (tail : Bool) (v : Nat) : State :=
  if s.b F.Q_GLOBAL_SWITCHOVER then s.updPr (fun pr => { pr with doorbells := pr.doorbells ++ [(q, tail, v)] })
  else if tail then s.tailMoves q v
  else s.headMoves q v

/-- A switchover ends (R65): the doorbells it held act, and the replies it held are posted, in their order. -/
def State.endSwitchover (s : State) : State :=
  let bells := s.proctor.doorbells
  let replies := s.proctor.replies
  let s1 := (s.setB F.Q_GLOBAL_SWITCHOVER false).updPr (fun pr => { pr with doorbells := [], replies := [] })
  (s1.each bells (fun s d => if d.2.1 then s.tailMoves d.1 d.2.2 else s.headMoves d.1 d.2.2)).each replies (fun s x =>
    if x.2.2 then s.sendFinal x.1 x.2.1 else s.sendReply x.1 x.2.1)

/-! ### Result placement (R54, R531) -/

/-- Is the module paired with a twin (R427: a state in which a partner has been seen)? The chain then carries at most 496
result bytes (R54, R521). -/
def State.paired (s : State) : Bool := s.f F.TWIN_PARTNER_NODE != 0

/-- The largest result that travels in the reply on a path (R54). The test port takes the chain's limit (assumption 10). -/
def State.inlineLimit (s : State) : Path → Nat
  | .host _ => 48
  | .chain _ => if s.paired then 496 else 1840
  | .port _ => 1840
  | .site _ => 1840
  | .jtag => 1840
  | .mirror => 1840

/-- Has a CXL.io error of the path's queue made its buffers unreachable (R63, R531)? -/
def State.bufferLost (s : State) : Path → Bool
  | .host q => (s.qu q.val).dead
  | _ => false

/-- Write a result into a buffer given by fabric address, part by part at 2 MiB boundaries; the status and offset of the
first part that fails (R531). -/
def State.writeParts (s : State) (a off : Nat) : Nat → List Byte → State × Option (Nat × Nat)
  | 0, _ => (s, none)
  | fuel + 1, bs =>
    if bs.isEmpty then (s, none)
    else
      let room := 2 ^ 21 - addrByte a
      match s.writeFabric s.clockMaster a (bs.take room) with
      | (.error st, s1) => (s1, some (st, off))
      | (.ok s1, _) => State.writeParts s1 (a + room) (off + room) fuel (bs.drop room)

/-- Place a result in the reply or in the data buffer and give the reply (R54, R531). -/
def State.place (s : State) (p : Packet) (status detail : Nat) (result : List Byte) : State × Reply :=
  if result.length ≤ s.inlineLimit p.path then (s, { tag := p.tag, status := status, detail := detail, result := result })
  else if p.bufLen < result.length then
    (s, { tag := p.tag, status := stLength, detail := result.length, result := [] })
  else if p.dataFabric then
    match s.writeParts p.dataAddr.toNat 0 (result.length / 2 ^ 21 + 2) result with
    | (s1, some (st, off)) => (s1, { tag := p.tag, status := st, detail := off, result := [] })
    | (s1, none) => (s1, { tag := p.tag, status := status, detail := detail, result := [], inBuffer := result.length })
  else
    -- a CXL.io error on the queue has been its own event, and no reply follows it (R63, R531)
    (if s.bufferLost p.path then s else { s with host := Memory.write s.host p.dataAddr.toNat result },
      { tag := p.tag, status := status, detail := detail, result := [], inBuffer := result.length })

/-- Read a command's input data of `n` bytes: inline on the chain and VC2, from host memory, or by fabric address. -/
def State.input (s : State) (p : Packet) (n : Nat) : Except Nat (List Byte) :=
  if p.dataFabric then (s.readFabric s.clockMaster p.dataAddr.toNat n).1
  else match p.path with
    | .host _ => .ok (Memory.read s.host p.dataAddr.toNat n)
    | _ => .ok (fitBytes n p.data)

/-! ### The change journal -/

/-- The digest of an encoding; all zeros where there is none (R80). -/
def digestOf : Option (List Byte) → List Byte
  | none => zeros 32
  | some bs => sha256 bs

/-- Queue journal entries for changes, the last of them holding the reply (R82). -/
def State.journalise (s : State) (origin opcode tag : Nat) (cs : List JChange) (reply : Option (Path × Reply)) (undo : Undo) : State :=
  let g := s.journal.nextGroup
  let mk := fun (i : Nat) (c : JChange) =>
    let last : Bool := decide (i + 1 = cs.length)
    ({ group := g, bell := s.bell, origin := origin, opcode := opcode, target := c.target, offset := c.offset, tag := tag,
       oldDigest := digestOf c.old, newDigest := digestOf c.new,
       reply := if last then reply else none, undo := if last then undo else {} } : JPending)
  { s with journal := { s.journal with waiting := s.journal.waiting ++ cs.mapIdx mk, nextGroup := g + 1 } }

/-- The change of a register value (R80: its 4 bytes, little-endian). -/
def regChange (off : Nat) (old new : Word) : JChange :=
  { target := 0, offset := off, old := some (leBytes 4 old.toNat), new := some (leBytes 4 new.toNat) }

/-- A journaled policy change of the Proctor, with origin 0x0 (R79). The spec states no OPCODE for it: a free value
(assumption 13). -/
def State.policy (s : State) (target off : Nat) (old new : Option (List Byte)) : State :=
  let (v, s1) := s.fresh
  s1.journalise 0 (v.toNat % 65536) 0 [{ target := target, offset := off, old := old, new := new }] none {}

/-- A policy change that is neither a register value nor an object with an encoding (R529). -/
def State.policyNote (s : State) (target : Nat) : State := s.policy target 0xFFFFFFFF none (some [])

/-- A journaled policy write of a register. -/
def State.policyReg (s : State) (target off : Nat) (v : Word) : State :=
  if s.rd off = v then s
  else (s.wr off v).policy target off (some (leBytes 4 (s.rd off).toNat)) (some (leBytes 4 v.toNat))

/-- The journal entry of any other command (R529): its TARGET, OFFSET none, and its parameter bytes as new value. -/
def paramChange (p : Packet) : List JChange :=
  [{ target := p.target.toNat, offset := 0xFFFFFFFF, old := none, new := some p.params }]

/-- How to put back what differs between two states (R82). -/
def undoOf (old new : State) : Undo where
  regs := Map.diff old.regs new.regs
  fam := Map.diff old.pool.fam new.pool.fam
  regions := Map.diff old.pool.regions new.pool.regions
  used := Map.diff old.pool.used new.pool.used
  marked := if old.pool.marked = new.pool.marked then none else some old.pool.marked
  sets := Map.diff old.work.sets new.work.sets
  ctxs := Map.diff old.work.ctxs new.work.ctxs
  slots := Map.diff old.streams.slots new.streams.slots
  photoNv := Map.diff old.photoNv new.photoNv
  detained := (allTiles.filter (fun t => !decide ((old.bl t).detained = (new.bl t).detained))).map (fun t => (t, (old.bl t).detained))
  fences := Map.diff old.faults.fences new.faults.fences
  images := Map.diff old.sec.slots new.sec.slots
  current := if old.sec.ucode = new.sec.ucode ∧ old.sec.manifest = new.sec.manifest then none else some (old.sec.ucode, old.sec.manifest)
  refmon := if old.refmon = new.refmon then none else some old.refmon
  roles := if old.twin.identity = new.twin.identity ∧ old.twin.gangNext = new.twin.gangNext then none
    else some (old.twin.identity, old.twin.gangNext)

/-- Two changes of one command, the older first, as one. -/
def Undo.join (a b : Undo) : Undo where
  regs := b.regs ++ a.regs
  fam := b.fam ++ a.fam
  regions := b.regions ++ a.regions
  used := b.used ++ a.used
  marked := a.marked.or b.marked
  sets := b.sets ++ a.sets
  ctxs := b.ctxs ++ a.ctxs
  slots := b.slots ++ a.slots
  photoNv := b.photoNv ++ a.photoNv
  sources := b.sources ++ a.sources
  maps := b.maps ++ a.maps
  detained := b.detained ++ a.detained
  fences := b.fences ++ a.fences
  images := b.images ++ a.images
  current := a.current.or b.current
  refmon := a.refmon.or b.refmon
  roles := a.roles.or b.roles

/-- Put a change back. -/
def State.undo (s : State) (u : Undo) : State :=
  let s1 := s.each u.regs (fun s e => s.wr e.1 (e.2.getD (regDefault e.1)))
  let s2 := ((s1.each u.detained (fun s e => s.updBl e.1 (fun b => { b with detained := e.2 }))).each u.maps
    (fun s e => s.updLink e.1 (fun l => { l with revert := some e.2 }))).each u.sources
    (fun s e => s.updPh e.1 (fun p => { p with source := Map.set (e.2.1 / 64) p.source e.2.1 e.2.2 }))
  let pool : Pool := { s2.pool with
    fam := Map.undo s2.pool.fam u.fam, regions := Map.undo s2.pool.regions u.regions, used := Map.undo s2.pool.used u.used
    marked := u.marked.getD s2.pool.marked }
  let work : Work := { s2.work with sets := Map.undo s2.work.sets u.sets, ctxs := Map.undo s2.work.ctxs u.ctxs }
  let twin : Twin := match u.roles with | some (i, g) => { s2.twin with identity := i, gangNext := g } | none => s2.twin
  let cur := u.current.getD (s2.sec.ucode, s2.sec.manifest)
  let sec : Sec := { s2.sec with slots := Map.undo s2.sec.slots u.images, ucode := cur.1, manifest := cur.2 }
  { s2 with
    pool := pool, work := work, twin := twin, photoNv := Map.undo s2.photoNv u.photoNv
    streams := { s2.streams with slots := Map.undo s2.streams.slots u.slots }
    faults := { s2.faults with fences := Map.undo s2.faults.fences u.fences }
    sec := sec
    refmon := u.refmon.getD s2.refmon }

/-- The 128 bytes of a journal entry (R80). -/
def JEntry.bytes (e : JEntry) : List Byte :=
  leBytes 8 e.seq ++ leBytes 8 e.bell ++ leBytes 2 e.origin ++ leBytes 2 e.opcode ++ leBytes 4 e.target ++
  leBytes 4 e.offset ++ leBytes 4 e.tag ++ fitBytes 32 e.oldDigest ++ fitBytes 32 e.newDigest ++ fitBytes 32 e.link

/-- The head hash: SHA-256 of the newest entry's bytes; all zeros while there is none (R80, assumption 12). -/
def State.headHash (s : State) : List Byte :=
  match s.journal.entries.getLast? with
  | none => zeros 32
  | some e => sha256 e.bytes

/-- Write an entry to flash (R80, R81): the next SEQ, linked to the entry before, the oldest overwritten when full. -/
def State.appendEntry (s : State) (p : JPending) : State :=
  let j := s.journal
  let e : JEntry :=
    { seq := j.count, bell := p.bell, origin := p.origin, opcode := p.opcode, target := p.target,
      offset := p.offset, tag := p.tag, oldDigest := p.oldDigest,
      newDigest := p.newDigest, link := s.headHash }
  let full := decide (1048576 ≤ j.entries.length)
  let entries := (if full then j.entries.drop 1 else j.entries) ++ [e]
  let s1 := { s with journal := { j with entries := entries, count := j.count + 1 } }
  let s2 := ((s1.setPair F.JRNL_HEAD_SEQ_LO F.JRNL_HEAD_SEQ_HI e.seq).setPair F.JRNL_OLDEST_SEQ_LO F.JRNL_OLDEST_SEQ_HI
    ((entries.head?.map (·.seq)).getD 0))
  let h := s1.headHash
  let s3 := s2.each (List.range 8) (fun s i => s.setF (F.JRNL_HEAD_HASH i) (leAt h (4 * i) 4))
  if full then s3.setB F.JRNL_STAT_WRAPPED true else s3

end Sys2Proof.Machine
end

