-- ==== Sys2Proof/Machine/Mirror.lean ====
section
/-! DEFINITION. Machine/Mirror.lean: the Hall Pass as every chapter meets it (R422, R427, R437 to R439): which addresses and
inputs a module takes, and the mirror records a holder sends. -/

namespace Sys2Proof.Machine

/-- TWIN_STAT.STATE (R427): 0 SOLO, 1 PAIRING, 2 RESYNC, 3 SYNCED, 4 HOLDER, 5 HOLDER_ALONE, 6 FENCED, 7 MISMATCH. -/
def State.twinState (s : State) : Nat := s.f F.TWIN_STAT_STATE

/-- Enter a twin state: HOLDER reads 1 in HOLDER and HOLDER_ALONE, SYNCED in SYNCED and HOLDER (R441). -/
def State.setTwin (s : State) (st : Nat) : State :=
  s.setFs [(F.TWIN_STAT_STATE, st), (F.TWIN_STAT_HOLDER, if st = 4 || st = 5 then 1 else 0),
    (F.TWIN_STAT_SYNCED, if st = 3 || st = 4 then 1 else 0)]

/-- Does this module's state keep it from acting: any but SOLO, HOLDER and HOLDER_ALONE (R427)? It discards what its
streams would send (R337, R432). -/
def State.passive (s : State) : Bool :=
  let st := s.twinState
  !(st == 0 || st == 4 || st == 5)

/-- Does this module take no state-changing input (R422, R427): it does not hold the Hall Pass, or has sent RELEASE
(R434)? -/
def State.notHolder (s : State) : Bool := s.passive || s.twin.released.isSome

/-- Does a holder mirror its inputs: to a synchronised standby, or to one that resynchronises (R437, R440)? -/
def State.mirrors (s : State) : Bool := s.twinState == 4 || (s.twinState == 5 && s.twin.resyncing)

/-- The reserve tiles whose twin ports carry a tile's mirror traffic, in the order of R425. -/
def mirrorTiles (t : Nat) : List Nat :=
  if tileRow t < 2 then (if tileCol t < 6 then [12, 23, 24, 35] else [23, 12, 24, 35])
  else if tileCol t < 6 then [24, 35, 12, 23] else [35, 24, 12, 23]

/-- The twin ports that are UP to the partner (R424). -/
def State.twinUp (s : State) (p : Nat) : Bool :=
  s.f (F.LINK_STAT_STATE p) == 3 && (s.link p).farNode == s.f F.TWIN_PARTNER_NODE && s.f F.TWIN_PARTNER_NODE != 0

/-- The twin port that mirror traffic of tile t takes, spread by `spread` over the tile's UP ones (R425). -/
def State.mirrorPort (s : State) (t spread : Nat) : Option Nat :=
  (mirrorTiles t).findSome? (fun r =>
    let up := (portsOf r).filter s.twinUp
    if up.isEmpty then none else up[spread % up.length]?)

/-! ### Ports -/

/-- Send the mirror records that wait while a twin port can take them. -/
def State.flushMirror : Nat → State → State
  | 0, s => s
  | n + 1, s =>
    match s.twin.queue with
    | [] => s
    | tu :: rest =>
      match s.mirrorPort (tu.stream % 64) tu.addr with
      | none => s
      | some p =>
        State.flushMirror n (({ s with twin := { s.twin with queue := rest } }).updLink p (fun l =>
          { l with txq := l.txq ++ [({ type := .data, vc := 0, payload := tu.bytes } : Flit)] }))

/-- Records sent and not acknowledged, in TWIN_MIRROR. -/
def State.syncMirror (s : State) : State :=
  s.setSat F.TWIN_MIRROR_N ((s.twin.sent.map (fun e => e.2 - Map.get 0 s.twin.acked e.1)).foldl (· + ·) 0)

/-- The MIRROR transport units that a port hands back when it is declared down go to the next port that can take them; none
is dropped (R425). -/
def State.mirrorBack (s : State) (back : List Flit) : State :=
  let tus := (back.filter (fun f => leAt f.payload 0 1 == 9)).map (fun f => Tu.parse f.payload)
  if tus.isEmpty then s
  else
    let s1 := { s with twin := { s.twin with queue := tus ++ s.twin.queue } }
    State.flushMirror s1.twin.queue.length s1

/-- Send one mirror record of a tile (R438), in runs of 208 bytes from FIRST to LAST: the state and its MSEQ. -/
def State.mirror (s : State) (t kind aux addr : Nat) (data : List Byte) : State × Nat :=
  let m := Map.get 0 s.twin.sent t
  let parts := if data.isEmpty then [[]] else chunks 208 (data.length / 208 + 1) data
  let tus := parts.mapIdx (fun i d =>
    ({ type := 0x09, flags := (if i = 0 then 1 else 0) + (if i + 1 = parts.length then 2 else 0), stream := t, tsn := m,
       aux := kind + aux * 256, addr := addr, data := d } : Tu))
  let s1 := { s with twin := { s.twin with queue := s.twin.queue ++ tus, sent := Map.put t (m + 1) s.twin.sent } }
  ((State.flushMirror s1.twin.queue.length s1).syncMirror, m)

/-- A command's mirror record (R437): ORIGIN, TAG, FLAGS, result length, TARGET, DATA_LEN, DATA_ADDR, parameter length, then
the result, the parameters and the list data of a group command (the layout is the model's own). -/
def State.cmdRecord (s : State) (opcode origin : Nat) (p : Packet) (result : List Byte) : List Byte :=
  let data := if opcode = 0x500 || opcode = 0x502 then (match s.input p p.dataLen.toNat with | .ok d => d | .error _ => []) else []
  leBytes 2 origin ++ leBytes 2 p.tag.toNat ++ leBytes 2 p.flags.toNat ++ leBytes 2 result.length ++ leBytes 4 p.target.toNat ++
  leBytes 4 p.dataLen.toNat ++ leBytes 8 p.dataAddr.toNat ++ leBytes 4 p.params.length ++ result ++ p.params ++ data

/-- Hold a completion for its record's MIRROR_ACK: only a HOLDER waits (R438, R439). -/
def State.holdFor (s : State) (t m : Nat) (h : Held) : State :=
  { s with twin := { s.twin with waits := s.twin.waits ++ [⟨t, m, h⟩] } }

/-- The commands whose completion a holder mirrors, with the record's kind (R437). -/
def mirroredKind (opcode : Nat) : Option Nat :=
  if opcode = 0x600 || opcode = 0x601 then some 1
  else if [0x500, 0x501, 0x502, 0x512].contains opcode then some 2
  else if [0x300, 0x301, 0x302, 0x305, 0x610, 0x620, 0x621].contains opcode then some 3
  else none

/-- Does a standby refuse the opcode with ERR_NOT_HOLDER (R439)? -/
def holderOnly (opcode : Nat) : Bool :=
  opcode / 256 == 3 || opcode / 256 == 6 || opcode == 0x400 || opcode == 0x510 || (opcode / 256 == 5 && decide (opcode < 0x504))

/-- This module's PAIR_HELLO (R426). -/
def State.ownHello (s : State) : PairHello where
  node := BitVec.ofNat 15 s.node
  chain := BitVec.ofNat 6 (s.f F.MCH_ADDR_ADDR)
  home := BitVec.ofNat 2 (s.f F.TWIN_STAT_HOME)
  stepping := 0x3142
  fw := BitVec.ofNat 64 (s.f F.SEC_FW_VER_LO + s.f F.SEC_FW_VER_HI * 2 ^ 32)
  ucode := sha256 (allTiles.flatMap (fun t => (Map.find t s.sec.tileMeas).getD ((List.range 32).map (fun i => Config.factoryDigest 2 i))))
  leaseT := BitVec.ofNat 5 (s.f F.TWIN_CFG_LEASE_T)
  pairNode := BitVec.ofNat 15 (s.f F.TWIN_CFG_PAIR_NODE)
  idHash := sha256 ((List.range 60).map (fun i => Config.certificate (20 + i)))

/-- A twin port has trained: a module with a home role sends PAIR_HELLO (R426); once paired, a far end that is not the partner
is noted (R424). -/
def State.twinPortUp (s : State) (p : Nat) : State :=
  if !isTwinPort p || s.f F.TWIN_STAT_HOME == 0 || 240 ≤ p then s
  else if s.f F.TWIN_PARTNER_NODE == 0 then s.emit (.hello (some p) s.ownHello)
  else if s.twinUp p then State.flushMirror s.twin.queue.length s
  else s.note 0xA .twinConflict 2 (2 + p * 256)

/-- Does an engine register belong to the sub-blocks that a twin mirrors: memory controller, OME, collectives, streams
(R437)? -/
def mirroredReg (off : Nat) : Bool :=
  match placeOf off with
  | some pl => decide (pl.tile < 48) && pl.port == 3 && decide (0x40000 ≤ pl.rel) && decide (pl.rel < 0x80000)
  | none => false

end Sys2Proof.Machine
end

