-- ==== Sys2Proof/Machine/Command.lean ====
section
/-! DEFINITION. Machine/Command.lean: how every Camdan command is checked (R58), started, answered and journaled (R54, R55,
R73, R82), over one description per opcode. -/

namespace Sys2Proof.Machine

/-- What an opcode does once its checks have passed: end at once with a status, DETAIL, result and journaled changes in a
new state, or go on as a long-running command in a new state. -/
inductive Effect where
  | now (s : State) (status detail : Nat) (result : List Byte) (changes : List JChange)
  | later (s : State)

/-- An opcode as its chapter defines it. Offsets in `par` are byte offsets in the packet of the first invalid field (R56). -/
structure CmdDef where
  code : Nat
  /-- PARAM_LEN that fits, by packet; none where none fits. -/
  len : Packet → Option Nat := fun _ => some 0
  /-- KINDs of TARGET the opcode takes. -/
  kinds : List Nat := [0]
  /-- Group-specific FLAGS bits it defines, as a mask of [15:8]. -/
  gflags : Nat := 0
  /-- Origin codes it is open to within its group. -/
  origins : List Nat := [1, 2, 3, 4, 5, 6]
  /-- A further origin check with a DETAIL of its own (ERR_AUTH). -/
  auth : State → Packet → Nat → Option Nat := fun _ _ _ => none
  /-- Required DATA_LEN where DATA_LEN does not fit. -/
  dataLen : Packet → Option Nat := fun _ => none
  par : State → Packet → Nat → Option Nat := fun _ _ _ => none
  zero : Packet → Bool := fun _ => false
  /-- Result length where it is known before the opcode acts (R54). -/
  resLen : State → Packet → Option Nat := fun _ _ => none
  /-- State checks in the chapter's order: status and DETAIL. -/
  pre : State → Packet → Nat → Option (Nat × Nat) := fun _ _ _ => none
  /-- A result that goes with a failed state check (R249). -/
  preResult : State → Packet → List Byte := fun _ _ => []
  journaled : Bool := false
  /-- The effect: state, packet, ORIGIN, and the number a long-running command gets. -/
  act : State → Packet → Nat → Nat → Effect

/-- Which origin codes may use an opcode group (R71). -/
def groupOrigins (g : Nat) : List Nat :=
  match g with
  | 0x0 => [1, 2, 3, 4, 5, 6]
  | 0x4 => [1, 2, 3, 5, 6]
  | 0x5 => [1, 2, 3, 5, 6]
  | 0x6 => [1, 2, 3, 5, 6]
  | 0x9 => [1, 2, 3]
  | 0xA => [1, 2, 3, 4]
  | _ => [1, 2, 3, 6]

/-- May the origin use the group? JTAG/test is accepted only while at least one tile is in test mode (R50, R479). -/
def State.mayUse (s : State) (group code : Nat) : Bool :=
  (groupOrigins group).contains code && (code != 6 || allTiles.any s.inTest)

/-- Number of units of a TARGET kind (R51). -/
def unitCount (k : Nat) : Nat :=
  match k with
  | 0 => 1 | 1 => 48 | 2 => 144 | 3 => 144 | 4 => 20 | 5 => 8 | 6 => 16 | 7 => 2 | 8 => 2
  | _ => 0

/-- Is TARGET well formed and of a kind that suits the opcode (R51)? In gang mode bits [25:24] name the member (R447). -/
def State.targetOk (s : State) (kinds : List Nat) (p : Packet) : Bool :=
  kinds.contains p.kind && decide (p.unit < unitCount p.kind) && decide (p.member ≤ s.f F.GANG_STAT_COUNT) &&
  (if p.kind = 3 then decide (p.sub ≤ 16) else p.sub == 0) &&
  decide (p.target.toNat < if s.b F.GANG_STAT_EN then 0x4000000 else 0x1000000)

/-- The generic part of step 6: reserved FLAGS bits, a DATA_ADDR that the path does not allow (R48, R68, R70) or that is
no address of this module's pool (R212), and TARGET. -/
def State.genericPar (s : State) (d : CmdDef) (p : Packet) : Option Nat :=
  let g := p.flags.toNat
  if g % 256 / 8 ≠ 0 || (g / 256) &&& (255 - d.gflags % 256) ≠ 0 then some 2
  else if !p.dataFabric && p.dataAddr.toNat ≠ 0 && (match p.path with | .host _ => false | _ => true) then some 16
  else if p.dataFabric && p.dataLen.toNat ≠ 0 && (!addrValid p.dataAddr.toNat || !s.ownNode (addrNode p.dataAddr.toNat)) then some 16
  else if !s.targetOk d.kinds p then some 24
  else none

/-- The tiles that TARGET names: the tile, a port's or lane's tile, a stack's two tiles, a package's corner tile. -/
def targetTiles (p : Packet) : List Nat :=
  let u := p.unit
  match p.kind with
  | 1 => [u]
  | 2 => [u / 3]
  | 3 => [u / 3]
  | 4 => if u < 10 then [u + 1, u + 13] else [u - 10 + 25, u - 10 + 37]
  | 5 => [if u < 2 then 0 else if u < 4 then 11 else if u < 6 then 36 else 47]
  | 8 => [if u = 0 then 0 else 47]
  | _ => []

/-- The lowest tile whose stepping differs from the manifest (R486). -/
def State.mismatched (s : State) : Option Nat :=
  allTiles.find? (fun t => if t < 32 then s.bit R.MOD_MISMATCH_LO t else s.bit R.MOD_MISMATCH_HI (t - 32))

/-- The checks of the module's mode ahead of the opcode's own: THERMTRIP (R390), a set mismatch (R486), stand-alone test mode
(R479). -/
def State.modeCheck (s : State) (code : Nat) : Option (Nat × Nat) :=
  let g := code / 256
  if s.clocks.tripped && g ≠ 0 && code ≠ 0x810 then some (stState, 0)
  else match s.mismatched with
    | some t => if g = 0 || g = 1 || g = 8 || g = 9 then none else some (stSetMismatch, t)
    | none => if s.standAlone && (g = 3 || g = 4 || g = 5 || g = 6 || g = 0xA) then some (stState, 0) else none

/-- The fault-state check ahead of the opcode's own (R409): status and DETAIL. -/
def State.faultCheck (s : State) (group : Nat) (p : Packet) : Option (Nat × Nat) :=
  if group = 0 || group = 8 then none
  else if s.f F.MFSTATE_STATE ≠ 0 && group ≠ 0xA then some (stState, s.f F.MFSTATE_STATE)
  else match (targetTiles p).find? (fun t => s.f (F.FSTATE_STATE t) != 0) with
    | some t => some (stState, s.f (F.FSTATE_STATE t))
    | none => none

/-- Steps 6 and 7 of R58. -/
def State.verdict6 (s : State) (d : CmdDef) (p : Packet) (o : Nat) : Option (Nat × Nat) :=
  match s.genericPar d p with
  | some off => some (stParam, off)
  | none =>
  match d.par s p o with
  | some off => some (stParam, off)
  | none => if d.zero p then some (stOkEmpty, 0) else none

/-- Steps 4 to 7 of R58: the origin, the lengths, the fields. -/
def State.early (s : State) (d : CmdDef) (p : Packet) (o g : Nat) : Option (Nat × Nat) :=
  if !s.mayUse g (originCode o) || !d.origins.contains (originCode o) then some (stAuth, 1)
  else match d.auth s p o with
  | some det => some (stAuth, det)
  | none =>
  if d.len p ≠ some p.plen then some (stLength, (d.len p).getD 0xFFFFFFFF)
  else match d.dataLen p with
  | some n => some (stLength, n)
  | none =>
  match d.resLen s p with
  | some n =>
    if s.inlineLimit p.path < n && p.bufLen < n then some (stLength, n) else s.verdict6 d p o
  | none => s.verdict6 d p o

/-- Is this module a gang member other than the leader, which answers groups 0x00 and 0x08 only (R447)? -/
def State.gangFollows (s : State) (g : Nat) : Bool :=
  s.b F.GANG_STAT_EN && s.f F.GANG_STAT_MEMBER != 0 && g != 0 && g != 8

/-- Does the leader of a gang pass the packet on to the member that it names (R447)? -/
def State.gangPasses (s : State) (p : Packet) : Bool :=
  s.b F.GANG_STAT_EN && s.f F.GANG_STAT_MEMBER == 0 && p.member != 0

/-- Step 8 of R58: the modes that hold every command, fault states, the Hall Pass, and the opcode's own checks. A tile in
HELD may enter test mode (R482). -/
def State.verdict8 (s : State) (d : CmdDef) (p : Packet) (o g : Nat) : Option (Nat × Nat) :=
  if s.gangFollows g then some (stState, 0)
  else match (s.modeCheck d.code).orElse (fun _ =>
      if d.code = 0x150 && s.f F.MFSTATE_STATE = 0 && s.f (F.FSTATE_STATE p.unit) = 4 then none else s.faultCheck g p) with
  | some e => some e
  | none => if s.notHolder && holderOnly d.code then some (stNotHolder, 0) else d.pre s p o

/-- Steps 4 to 8 of R58 in order: the status and DETAIL of the first failure. -/
def State.verdict (s : State) (d : CmdDef) (p : Packet) (o : Nat) : Option (Nat × Nat) :=
  let g := d.code / 256
  match s.early d p o g with
  | some e => some e
  | none => s.verdict8 d p o g

/-- May a path's packets be taken as its queue stands: a host queue in RUN whose completion ring has room (R62, R63)? -/
def State.queueOpen (s : State) : Path → Bool
  | .host q => s.f (F.Q_STAT_STATE q.val) == 1 && !s.cqFull q.val && (s.qu q.val).held.isEmpty
  | _ => true

/-- Does the Proctor take the packet (R59, R62, R63, R65, R369)? After THERMTRIP only the chain is powered (R390); in chain
recovery the module answers group 0x00 and takes a Proctor image, over the chain (R466). -/
def State.takes (s : State) (path : Path) (code : Nat) : Bool :=
  let chain := match path with | .chain _ => true | _ => false
  if !s.queueOpen path then false
  else if s.clocks.tripped then chain
  else if s.sec.recovery then chain && (code / 256 == 0 || code == 0x900)
  else s.b F.Q_GLOBAL_PROCTOR_READY && !s.b F.Q_GLOBAL_SWITCHOVER

/-- Is a command of the path still without its final reply (FENCE, R48)? -/
def State.outstanding (s : State) (path : Path) : Bool :=
  s.proctor.running.any (fun r => decide (r.pkt.path = path)) ||
  s.journal.waiting.any (fun w => match w.reply with | some (q, _) => decide (q = path) | none => false) ||
  s.twin.waits.any (fun w => match w.what with | .cmd _ _ _ q _ _ _ => decide (q = path) | _ => false) ||
  s.proctor.replies.any (fun r => decide (r.1 = path)) ||
  (match path with | .host q => !(s.qu q.val).held.isEmpty | _ => false)

/-- Answer a packet with a status and no result. -/
def State.answer (s : State) (p : Packet) (status detail : Nat) (result : List Byte := []) : State :=
  s.postFinal p.path { tag := p.tag, status := status, detail := detail, result := result }

/-- Post the final reply, or hold it until the change is durable in the journal (R82). -/
def State.settle (s : State) (opcode origin : Nat) (journaled : Bool) (path : Path) (r : Reply)
    (changes : List JChange) (undo : Undo) : State :=
  if journaled && r.status == stOk && !changes.isEmpty then
    s.journalise origin opcode r.tag.toNat changes (some (path, r)) undo
  else s.postFinal path r

/-- End a command: place its result, mirror it where a holder does, and post the reply once the partner has executed it
(R437, R439). -/
def State.conclude (s : State) (opcode origin : Nat) (journaled : Bool) (p : Packet) (status detail : Nat)
    (result : List Byte) (changes : List JChange) (undo : Undo) : State :=
  let (s1, r) := s.place p status detail result
  match mirroredKind opcode with
  | some kind =>
    if s1.mirrors && r.status == stOk then
      let (s2, m) := s1.mirror s1.clockMaster kind opcode (leAt p.params 0 4) (s1.cmdRecord opcode origin p result)
      if s2.twinState = 4 then s2.holdFor s1.clockMaster m (.cmd opcode origin journaled p.path r changes undo)
      else s2.settle opcode origin journaled p.path r changes undo
    else s1.settle opcode origin journaled p.path r changes undo
  | none =>
    -- a register write that the twin mirrors completes with its record too (R437, R439)
    let wait := s1.twinState == 4 && (opcode == 0x101 || opcode == 0x102) && r.status == stOk && changes.any (fun c => mirroredReg c.offset)
    let k := Map.get 0 s1.twin.sent s1.clockMaster
    if wait && k ≠ 0 then s1.holdFor s1.clockMaster (k - 1) (.cmd opcode origin journaled p.path r changes undo)
    else s1.settle opcode origin journaled p.path r changes undo

/-- The leader of a gang forwards a command to the member it names and returns that member's reply (R447). The member makes
the checks of step 8. -/
def State.forwardGang (s : State) (opcode origin : Nat) (p : Packet) : State :=
  (s.emit (.gang p.member opcode p.params)).updPr (fun pr => { pr with
    running := pr.running ++ [{ id := pr.nextId, opcode := opcode, origin := origin, pkt := p, fin := none }], nextId := pr.nextId + 1 })

/-- Run a command that the Proctor takes: nothing happens while it takes no packets, or while FENCE waits for an earlier
command of the path; a failed check has no effect but its reply (R58), with the NOTICE of R71 for an origin that may not
use the opcode; else ACCEPTED where ASYNC asks for it (R55), then the effect, here or at the gang member named (R447). -/
def runCmd (d : CmdDef) (p : Packet) (s : State) : State :=
  if !s.takes p.path d.code || (p.fence && s.outstanding p.path) then s
  else match s.originOf p.path with
  | none => s.answer p stAuth 1
  | some o =>
    match (if s.gangPasses p then s.early d p o (d.code / 256) else s.verdict d p o) with
    | some (st, det) =>
      let s1 := if st = stAuth && det = 1 then s.note 0x0 .authRefused 1 tgtModule else s
      s1.answer p st det (d.preResult s p)
    | none =>
      let s1 := if p.async then s.post p.path { tag := p.tag, status := stAccepted, detail := 0, result := [] } else s
      if s.gangPasses p then s1.forwardGang d.code o p
      else
        let id := s1.proctor.nextId
        match d.act s1 p o id with
        | .now s2 st det res ch => s2.conclude d.code o d.journaled p st det res ch (undoOf s1 s2)
        | .later s2 =>
          s2.updPr (fun pr => { pr with
            running := pr.running ++ [{ id := id, opcode := d.code, origin := o, pkt := p, fin := none, start := undoOf s1 s2 }],
            nextId := id + 1 })

/-- A long-running command's work ends: its outcome waits for COMMAND_COMPLETE (R55). -/
def State.finish (s : State) (id status detail : Nat) (result : List Byte := []) (changes : List JChange := []) (undo : Undo := {}) : State :=
  s.updPr (fun pr => { pr with running := pr.running.map (fun r =>
    if r.id = id && r.fin.isNone then
      { r with fin := some { status := status, detail := detail, result := result, changes := changes, undo := r.start.join undo } } else r) })

/-- The running command of a number. -/
def State.running (s : State) (id : Nat) : Option Running := s.proctor.running.find? (fun r => r.id == id)

/-- End a long-running command of a journaled opcode whose entry is the generic one of R529. -/
def State.finishParam (s : State) (id status detail : Nat) (result : List Byte := []) (undo : Undo := {}) : State :=
  match s.running id with
  | none => s
  | some r => s.finish id status detail result (paramChange r.pkt) undo

/-- Is a running command of one of the opcodes aimed at a TARGET? -/
def State.busyWith (s : State) (codes : List Nat) (q : Packet → Bool) : Bool :=
  s.proctor.running.any (fun r => codes.contains r.opcode && q r.pkt && r.fin.isNone)

end Sys2Proof.Machine
end

