-- ==== Sys2Proof/Machine/LinkOps.lean ====
section
/-! DEFINITION. Machine/LinkOps.lean: what the link of a port or sublink does that other chapters ask for: lane maps, training
blocks, the receive and replay buffers, clearing a link that goes down (R184), the shutter and the start of training. What a
sublink's link layer holds stands under the offsets that a port of its code would have: they lie beyond BAR0 (R16), so that no
access reaches them (R450). -/

namespace Sys2Proof.Machine

/-! ### Lanes -/

/-- Lane rate in Gb/s (R142). -/
def laneRate (code : Nat) : Nat := match code with | 0 => 128 | 1 => 112 | 2 => 96 | _ => 64

/-- The lanes at stripe positions 0 to 15, 0xFF where unused (LINK_POSn). -/
def State.posOf (s : State) (p : Nat) : List Nat :=
  (List.range 16).map (fun i => (s.rd (R.LINK_POS p (i / 4))).toNat / 256 ^ (i % 4) % 256)

/-- A mask of lanes as a list, data lanes ascending, lane S last. -/
def lanesOf (mask : Nat) : List Nat := (List.range 17).filter (fun j => mask.testBit j)

/-- The mask of a list of lanes. -/
def maskOf (l : List Nat) : Nat := ((l.filter (fun j => decide (j ≤ 16))).eraseDups.map (fun j => 2 ^ j)).foldl (· + ·) 0

/-- The lanes in a port's map. -/
def State.mapLanes (s : State) (p : Nat) : List Nat := (s.posOf p).filter (fun j => decide (j ≤ 16))

/-- Number of data lanes in a mask. -/
def dataLanes (mask : Nat) : Nat := (lanesOf (mask % 65536)).length

/-- Lanes that stay out of a port's map: those retired by R136 and those in Detention (R350). -/
def State.barred (s : State) (p : Nat) : Nat :=
  ((s.bl (p / 3)).detained.filter (fun c => decide (c < 4096) && c / 32 == p % 3)).foldl (fun m c => m ||| 2 ^ (c % 32))
    (Map.get 0 (s.phNv (p / 3)).retired (p % 3))

/-! ### Equaliser sets (R148, R149, R158) -/

/-- A lane's equaliser as its registers show it. -/
def State.eqOf (s : State) (p j : Nat) : EqSet where
  ctle := s.f (F.LANE_STAT_CTLE p j)
  tap0 := s.rd (R.LANE_TAP p j 0)
  tap1 := s.rd (R.LANE_TAP p j 1)
  tap2 := s.rd (R.LANE_TAP p j 2)
  thr := s.rd (R.LANE_THR p j)

/-- Put an equaliser set in force on a lane. -/
def State.putEq (s : State) (p j : Nat) (e : EqSet) : State :=
  ((((s.setF (F.LANE_STAT_CTLE p j) e.ctle).wr (R.LANE_TAP p j 0) e.tap0).wr (R.LANE_TAP p j 1) e.tap1).wr (R.LANE_TAP p j 2) e.tap2).wr
    (R.LANE_THR p j) e.thr

/-- Store a lane's set for a rate (R149). -/
def State.saveEq (s : State) (p j rate : Nat) : State :=
  s.updLink p (fun l => { l with eq := Map.put (4 * j + rate) (s.eqOf p j) l.eq })

/-- The set a lane starts from at a rate: the one stored for it, or for the nearest rate it has trained at (R158): of two
equally near, the higher rate (DESIGN CHOICE, assumption 160). -/
def State.storedEq (s : State) (p j rate : Nat) : Option EqSet :=
  let dist := fun (r : Nat) => max (laneRate r) (laneRate rate) - min (laneRate r) (laneRate rate)
  let have_ := (List.range 4).filter (fun r => (Map.find (4 * j + r) (s.link p).eq).isSome)
  match have_.foldl (fun (m : Option Nat) r => match m with
      | none => some r
      | some x => if dist r < dist x then some r else some x) none with
  | some r => Map.find (4 * j + r) (s.link p).eq
  | none => none

/-- A lane loads its stored set for a rate (R149, R157). -/
def State.loadEq (s : State) (p j rate : Nat) : State :=
  match s.storedEq p j rate with
  | some e => s.putEq p j e
  | none => s

/-! ### Training blocks and bursts -/

/-- The training word of a lane (R143). FULL is 0 with STAGE 5 and 6. -/
def State.trainWordOf (s : State) (p j stage : Nat) : Nat :=
  let bit := fun (b : Bool) (i : Nat) => if b then 2 ^ i else 0
  let (full, ready, map) := match (s.link p).train with
    | some t => (t.full && decide (stage < 5), t.ready, t.lanes &&& (0x1FFFF ^^^ s.barred p))
    | none => (false, false, maskOf (s.mapLanes p))
  let v := j * 2 ^ 123 + stage * 2 ^ 120 + s.f (F.SDS_STAT_RATE p) * 2 ^ 118 + bit ready 117 + s.node * 2 ^ 102 + p * 2 ^ 94 +
    s.f (F.LINK_STAT_EPOCH p) * 2 ^ 78 + map * 2 ^ 61 + bit full 60
  v + crc16Bits (bitsDown v 127 16)

/-- Send training blocks of a stage on some lanes. -/
def State.sendBlocks (s : State) (p stage : Nat) (lanes : List Nat) : State :=
  s.emit (.training p (lanes.map (fun j => (j, s.trainWordOf p j stage))))

/-- Leave A1 in the transmit direction with a wake burst (R156). -/
def State.wakeTx (s : State) (p : Nat) : State :=
  if (s.link p).txQuiet then
    ((s.updLink p (fun l => { l with txQuiet := false })).setF (F.SDS_STAT_STAGE p) 5).emit (.wake p (s.link p).mapRate)
  else s

/-! ### Buffers -/

/-- REPLAY_T in ns (R172). -/
def State.replayT (s : State) (p : Nat) : Nat := max (4 * s.f (F.LINK_RTT_RTT_NS p)) (2 * (250 * (s.link p).ackIdle))

/-- Slots that a VC's received flits fill. -/
def Link.occ (l : Link) (vc : Nat) : Nat := l.rxq.countP (fun f => f.vc == vc)

/-- Bring the XOFF levels of a link in line with its receive buffer; a change wakes a direction in A1 to send a FILL (R180). -/
def State.syncXoff (s : State) (p : Nat) : State :=
  let hr := s.f (F.LINK_RTT_HR p)
  let lvl := fun (vc part : Nat) (old : Bool) =>
    let free := part - (s.link p).occ vc
    if free ≤ hr then true else if hr + 64 ≤ free then false else old
  let x0 := lvl 0 (s.f (F.LINK_FC_VC0_PART p)) (s.b (F.LINK_FC_RX_XOFF0 p))
  let x1 := lvl 1 (s.f (F.LINK_FC_VC1_PART p)) (s.b (F.LINK_FC_RX_XOFF1 p))
  let s1 := (s.setB (F.LINK_FC_RX_XOFF0 p) x0).setB (F.LINK_FC_RX_XOFF1 p) x1
  if x0 = s.b (F.LINK_FC_RX_XOFF0 p) && x1 = s.b (F.LINK_FC_RX_XOFF1 p) then s1 else s1.wakeTx p

/-- Take a received DATA or LCTL flit with the given payload out of a link's buffer; none where no such flit waits. -/
def State.popRx (s : State) (p : Nat) (vc : Nat) (payload : List Byte) : Option State :=
  match (s.link p).rxq.find? (fun f => !decide (f.type = .cmd) && f.vc == vc && decide (f.payload = payload)) with
  | none => none
  | some f => some ((s.updLink p (fun l => { l with rxq := l.rxq.erase f })).syncXoff p)

/-- Registers of the replay buffer and spill region in line with the unacknowledged flits (R175). -/
def State.syncReplay (s : State) (p : Nat) : State :=
  let n := (s.link p).unacked.length
  (s.setF (F.LINK_REPLAY_TILE_N p) (min n 8192)).setF (F.LINK_REPLAY_SPILL_N p) (min (n - 8192) 262144)

/-- TAGs of a link's in-band commands that have no final reply: those taken, those that wait whole in its buffer, and the one
in assembly (R182, R184). -/
def Link.openTags (l : Link) : List Nat :=
  l.inband ++ (l.rxq.filter (fun f => decide (f.type = .cmd))).map (fun f => leAt f.payload 4 2) ++
    (if l.asmFlits = 0 then [] else [leAt l.asmBytes 4 2])

/-- Answer a link's in-band commands that have no final reply when it goes down: ERR_FAULT with a DETAIL, on another link;
discarded where there is none (R184). -/
def State.answerOn (s : State) (p det : Nat) (out : Option Nat) : State :=
  match out with
  | none => s
  | some q => s.enqueue q ((s.link p).openTags.flatMap (fun tag =>
      cmdFlits true (Reply.bytes { tag := BitVec.ofNat 16 tag, status := stFault, detail := det, result := [] } 0)))

/-- The in-band commands of a port that goes down: DETAIL is the FSRC of PORT_DOWN_i, and the answer takes the lowest other UP
port whose far end is the origin node (R184). -/
def State.answerInband (s : State) (p : Nat) : State :=
  let node := (s.link p).farNode
  let s1 := s.answerOn p (fsrcTile (p / 3) (9 + p % 3)) (allPorts.find? (fun q => q != p && s.upTo q node))
  (s1.updLink p (fun l => { l with inband := [], asmBytes := [], asmFlits := 0, asmDrop := false })).updPr
    (fun pr => { pr with portQ := pr.portQ.filter (fun r => match r.path with | .port q => q.val != p | _ => true) })

/-- A LANESET in hand ends because the port leaves UP: its command is answered ERR_STATE with the state then in force
(R189, R190). -/
def State.cancelLaneset (s : State) (p state : Nat) : State :=
  match (s.link p).laneset with
  | none => s
  | some ls =>
    let s1 := (s.updLink p (fun l => { l with laneset := none, oldMap := none })).setF (F.LINK_STAT_LANESET_PEND p) 0
    match ls.run with
    | some id => s1.finish id stState state
    | none => s1

/-- Clear a port that is declared down: buffers, replay state, LANESET, training and quiet state (R184 steps 1 and 2,
R189). The DATA flits handed back are `handback`. -/
def State.clearLink (s : State) (p state : Nat) : State :=
  let s1 := s.cancelLaneset p state
  let s2 := s1.updLink p (fun l => { l with
    train := none, unacked := [], txq := [], rxq := [], replayPos := none, timerOn := false, laneset := none, echoAt := none,
    nakOut := none, nakDue := false, ackValid := false, ackSent := none, dupAt := none,
    dozeSent := false, dozeAcked := false, dozed := false, txQuiet := false, rttDone := false, verify := [], trainSeen := [], oldMap := none,
    phaseAt := none, away := 0, back := 0, swap := none, revert := none })
  let s3 := s2.each (List.range 17) (fun s j => s.setF (F.LANE_STAT_STANDBY p j) 0)
  ((s3.setFs [(F.LINK_STAT_STATE p, state), (F.LINK_STAT_REPLAY_NUM p, 0), (F.LINK_STAT_POST_RETRAIN p, 0),
    (F.LINK_STAT_LANESET_PEND p, 0), (F.SDS_STAT_RX_QUIET p, 0), (F.SDS_STAT_STAGE p, 0), (F.SDS_STAT_WIDTH p, 0),
    (F.LINK_FC_RX_XOFF0 p, 0), (F.LINK_FC_RX_XOFF1 p, 0), (F.LINK_FC_TX_XOFF0 p, 0), (F.LINK_FC_TX_XOFF1 p, 0)]).syncReplay p)

/-- Clear what a sublink's link layer holds (R184 step 2). -/
def State.clearSub (s : State) (p : Nat) : State :=
  ({ s with regs := s.regs.filter (fun e => !(decide (portBase p ≤ e.1) && decide (e.1 < portBase p + 0x4000))) }).updLink p (fun _ => {})

/-- The DATA flits a port hands back: unacknowledged in sequence order, then queued in queue order (R184 step 1). -/
def State.handback (s : State) (p : Nat) : List Flit :=
  ((s.link p).unacked ++ (s.link p).txq).filter (fun f => decide (f.type = .data))

/-! ### Shutter and training entry (R129, R144, R146) -/

/-- Start a training attempt: a full one in LOCK with the shutter open, at the given rate; a fast one starts from the stored
equaliser values (R144). -/
def State.beginTraining (s : State) (p : Nat) (full : Bool) (rate : Nat) : State :=
  let s1 := (s.cancelLaneset p (if full then 2 else 4)).updLink p (fun l => { l with
    train := some { full := full, rate := rate, lanes := 0x1FFFF, rounds := 0, ready := false, farReady := false, seen := false },
    retryWait := false, trainSeen := [] })
  let s2 := s1.setFs [(F.LINK_STAT_STATE p, if full then 2 else 4), (F.SDS_STAT_STAGE p, 1), (F.SDS_STAT_RATE p, rate),
    (F.SDS_STAT_RX_QUIET p, 0), (F.SDS_STAT_WIDTH p, 0)]
  -- EQ_FAIL of a training is read until the next (R147's example)
  let s3 := s2.each (List.range 17) (fun s j =>
    let s1 := s.setF (F.LANE_STAT_EQ_FAIL p j) 0
    if full then s1.setF (F.LANE_STAT_CDR_LOCK p j) 0 else s1.loadEq p j rate)
  (s3.updLink p (fun l => { l with txQuiet := false })).sendBlocks p 1 (List.range 17)

/-- The rate a full training starts at (R146): the lower of SDS_CTL.MAX_RATE and the re-planned floor; a lower rate has
the higher code. -/
def State.startRate (s : State) (p : Nat) : Nat := 
  max (s.f (F.SDS_CTL_MAX_RATE p)) (s.f (F.AGE_PLAN_PORT_RATE (p / 3)) / 4 ^ (p % 3) % 4)

/-- May a port train: enabled, not fenced, not in a fault reaction, its shutter open, and at least 4 lanes that
are neither retired nor in Detention (R129, R136, R350, R401)? -/
def State.mayTrain (s : State) (p : Nat) : Bool :=
  decide (4 ≤ ((List.range 17).filter (fun j => !(s.barred p).testBit j)).length) &&
  s.b (F.LINK_CTL_EN p) && !(s.link p).fenced && !s.gated (p / 3) && s.f (F.EYESAFE_STATE (p / 3) (p % 3)) == 0

/-- Start a full training from DOWN where the shutter is open (R183). -/
def State.startFull (s : State) (p : Nat) : State :=
  if s.mayTrain p && s.f (F.LINK_STAT_STATE p) == 1 then s.beginTraining p true (s.startRate p) else s

/-- The beacon word of a port (R129). -/
def State.beaconWord (s : State) (p : Nat) : Nat :=
  let v := s.node * 2 ^ 49 + p * 2 ^ 41 + s.f (F.LINK_STAT_EPOCH p) * 2 ^ 25
  v + crc16Bits (bitsDown v 63 16)

/-- Shut a port's shutter: the beacon starts, or the port is dark where it is DISABLED, the node is 0 or its tile is in a fault
reaction (R129). -/
def State.shut (s : State) (p : Nat) : State :=
  let t := p / 3
  let i := p % 3
  let dark := !s.b (F.LINK_CTL_EN p) || s.node == 0 || s.gated t
  let s1 := if s.f (F.EYESAFE_STATE t i) = 0 then s.bump (F.EYESAFE_SHUT_CNT t i) else s
  let s2 := (s1.setFs [(F.EYESAFE_STATE t i, if dark then 2 else 1), (F.EYESAFE_BEACON_OK t i, 0)]).updLink p (fun l => { l with beacon := none })
  if dark then s2 else s2.emit (.beacon p (s2.beaconWord p))

/-- Open a port's shutter where LOS is clear and the far end has been seen (R129); full training follows (R183). -/
def State.openShutter (s : State) (p : Nat) : State :=
  let t := p / 3
  let i := p % 3
  if s.b (F.LINK_CTL_EN p) && s.node != 0 && !s.gated t && !s.b (F.EYESAFE_LOS t i) &&
      s.f (F.EYESAFE_STATE t i) != 0 then
    (s.setF (F.EYESAFE_STATE t i) 0).startFull p
  else s

end Sys2Proof.Machine
end

