-- ==== Sys2Proof/Machine/StreamOps.lean ====
section
/-! DEFINITION. Machine/StreamOps.lean: stream contexts (R223 to R234): handles, sending, states at port events, closing,
credits and the held CLOSE_NOTICEs. -/

namespace Sys2Proof.Machine

/-- Key of a slot: HOME × 2^15 + SLOT. -/
def slotKey (home slot : Nat) : Nat := 2 ^ 15 * home + slot

/-- Slots of a tile (R223). -/
def slotsPerTile : Nat := 24576

/-- Key of the slot a handle names (R224). -/
def handleKey (h : Nat) : Nat := slotKey (h / 2 ^ 15 % 64) (h % 2 ^ 15)

/-- The handle of a slot with its present GEN. -/
def State.handleOf (s : State) (key : Nat) : Nat := key % 2 ^ 21 + 2 ^ 21 * (Map.get {} s.streams.slots key).gen

/-- A stream context by slot key. -/
def State.stream (s : State) (key : Nat) : Option Stream := (Map.get {} s.streams.slots key).ctx

/-- The slot key of a handle that is not stale (R224). -/
def State.liveKey (s : State) (h : Nat) : Option Nat :=
  let key := handleKey h
  let sl := Map.get {} s.streams.slots key
  if sl.ctx.isSome && sl.gen == h / 2 ^ 21 % 2048 && decide (key / 2 ^ 15 < 48) && decide (key % 2 ^ 15 < slotsPerTile) then some key
  else none

/-- Change a stream context. -/
def State.updStream (s : State) (key : Nat) (f : Stream → Stream) : State :=
  { s with streams := { s.streams with slots := Map.upd {} s.streams.slots key (fun sl => { sl with ctx := sl.ctx.map f }) } }

/-- The slot keys of all streams. -/
def State.streamKeys (s : State) : List Nat := (s.streams.slots.filter (fun e => e.2.ctx.isSome)).map (·.1)

/-- The tile that serves a home tile's slots: itself, its stand-in, or the HOME tile when no stand-in serves (R224). -/
def State.homeServer (s : State) (home : Nat) : Nat := (s.server home).getD home

/-- Open streams of a home tile. -/
def State.openCount (s : State) (home : Nat) : Nat :=
  s.streams.slots.countP (fun e => e.1 / 2 ^ 15 == home && e.2.ctx.isSome)

/-- The port that a stream sends on, where it has one: the state names it (R230); a CLOSING stream takes whichever of its
two ports keeps traffic. -/
def State.txPort (s : State) (st : Stream) : Option Nat :=
  match st.state with
  | .open_ => some st.pri
  | .onAlt => st.alt
  | .closing =>
    if s.keepsTo st.pri st.epNode then some st.pri
    else match st.alt with
      | some a => if s.keepsTo a st.epNode then some a else none
      | none => none
  | _ => none

/-- The lowest UP port to a node. -/
def State.portTo (s : State) (node : Nat) : Option Nat := (allPorts ++ sitePorts).find? (fun p => s.upTo p node)

/-- Put a transport unit with its TSN on the stream's port, or hold it at the Homeroom (R230). -/
def State.dispatchTu (s : State) (key vc : Nat) (tu : Tu) : State :=
  match s.stream key with
  | none => s
  | some st =>
    let hold := s.updStream key (fun c => { c with heldTx := c.heldTx ++ [(vc, tu)] })
    if s.passive then s
    else if st.returning || !st.heldTx.isEmpty then hold
    else match s.txPort st with
      | none => hold
      | some p => (s.enqueue p [tuFlit vc tu (some key)]).updStream key (fun c => { c with lastTu := s.bell })

/-- Give a sequenced transport unit towards the endpoint the next TSN of its VC, and send it (R231). -/
def State.sendTu (s : State) (key vc : Nat) (tu : Tu) : State :=
  match s.stream key with
  | none => s
  | some st =>
    if st.state = .faulted then s
    else
      let tsn := if vc = 0 then st.tx0 else st.tx1
      let s1 := s.updStream key (fun c =>
        if vc = 0 then { c with tx0 := (tsn + 1) % 2 ^ 32 } else { c with tx1 := (tsn + 1) % 2 ^ 32 })
      s1.dispatchTu key vc { tu with tsn := tsn, stream := st.epQueue }

/-- TUs that need endpoint data credit go out only against it (R233), and COLL_DONE after the last of them (R324). -/
def State.pumpData : Nat → Nat → State → State
  | 0, _, s => s
  | n + 1, key, s =>
    match s.stream key with
    | none => s
    | some st =>
      match st.outData with
      | [] => (s.updStream key (fun c => { c with doneTus := [] })).each st.doneTus (fun s tu => s.sendTu key 1 tu)
      | tu :: rest =>
        if (st.sent + 2 ^ 32 - st.epFreed) % 2 ^ 32 < st.epCredits then
          State.pumpData n key ((s.updStream key (fun c => { c with outData := rest, sent := (c.sent + 1) % 2 ^ 32 })).sendTu key 0 tu)
        else s

/-- Send what a stream's endpoint data credit allows. -/
def State.pump (s : State) (key : Nat) : State :=
  State.pumpData (((s.stream key).map (fun c => c.outData.length)).getD 0 + 1) key s

/-- Queue a TU of VC0 that needs endpoint data credit (R221, R319), and send it as credit allows. A stream that is FAULTED or
CLOSING takes no new work to send (R229, R230). -/
def State.queueTu (s : State) (key : Nat) (tu : Tu) : State :=
  (s.updStream key (fun c => if c.state = .faulted then c else if c.state = .closing then c else { c with outData := c.outData ++ [tu] })).pump key

/-- Send one STREAM_DATA transport unit of the module's own on a stream. -/
def State.sendData (s : State) (key : Nat) (first last : Bool) (data : List Byte) : State :=
  s.queueTu key { type := 1, flags := (if first then 1 else 0) + (if last then 2 else 0), stream := 0, tsn := 0, aux := 0,
                  addr := 0, data := data }

/-- Send a message as a run of STREAM_DATA transport units of 208 bytes, FIRST on the first and LAST on the last (R220). -/
def State.sendMessage (s : State) (key : Nat) (msg : List Byte) : State :=
  let parts := chunks 208 (msg.length / 208 + 1) msg
  (parts.mapIdx (fun i d => (i, d))).foldl (fun s x =>
    s.sendData key (x.1 == 0) (decide (x.1 + 1 = parts.length)) x.2) s

/-- Send the held transport units of a stream on its port (R230). -/
def State.flushHeldTx (s : State) (key : Nat) : State :=
  match s.stream key with
  | none => s
  | some st =>
    match s.txPort st with
    | none => s
    | some p =>
      (s.enqueue p (st.heldTx.map (fun x => tuFlit x.1 x.2 (some key)))).updStream key (fun c =>
        { c with heldTx := [], lastTu := if st.heldTx.isEmpty then c.lastTu else s.bell })

/-- Is every flit of a stream acknowledged at link level? -/
def State.linkClear (s : State) (key : Nat) : Bool :=
  s.links.all (fun e => (e.2.unacked ++ e.2.txq).all (fun f => f.owner != some key))

/-- A stream that returns to its primary does so once the alternate has acknowledged every unit of it (R230). -/
def State.returnPrimary (s : State) (key : Nat) : State :=
  match s.stream key with
  | none => s
  | some c =>
    if c.returning && decide (c.state = .onAlt) && s.linkClear key then
      (s.updStream key (fun c => { c with state := .open_, returning := false })).flushHeldTx key
    else s

/-! ### CLOSE_NOTICE -/

/-- The CLOSE_NOTICE transport unit (R221). -/
def closeNotice (queue reason : Nat) : Tu :=
  { type := 7, flags := 0, stream := queue, tsn := 0, aux := reason, addr := 0, data := [] }

/-- Send a CLOSE_NOTICE on the stream's port or the lowest port UP to the endpoint; held where there is none (R230). -/
def State.sendNotice (s : State) (node queue reason : Nat) (prefer : Option Nat) : State :=
  let p := match prefer with
    | some q => if s.upTo q node then some q else s.portTo node
    | none => s.portTo node
  if s.passive then s
  else match p with
  | some q => s.enqueue q [tuFlit 1 (closeNotice queue reason) none]
  | none => { s with streams := { s.streams with notices := s.streams.notices ++ [⟨node, queue, reason⟩] } }

/-- Send the notices held for a node that a port has just reached. -/
def State.flushNotices (s : State) (p node : Nat) : State :=
  let mine := s.streams.notices.filter (fun n => n.epNode == node)
  let s1 := { s with streams := { s.streams with notices := s.streams.notices.filter (fun n => n.epNode != node) } }
  s1.enqueue p (mine.map (fun n => tuFlit 1 (closeNotice n.epQueue n.reason) none))

/-! ### Freeing and faulting -/

/-- Take a stream's flits that have not been sent out of every transmit queue (abort, R229). -/
def State.dropUnsent (s : State) (key : Nat) : State :=
  { s with links := s.links.map (fun e => (e.1, { e.2 with txq := e.2.txq.filter (fun f => f.owner != some key) })) }

/-- Free a slot: its GEN increments, wrapping from 2,047 (R224). A holder mirrors the close (R437). -/
def State.freeSlot (s : State) (key : Nat) : State :=
  let s := if s.mirrors then (s.mirror (s.homeServer (key / 2 ^ 15)) 1 0x601 (s.handleOf key) []).1 else s
  { s with streams := { s.streams with slots := Map.upd {} s.streams.slots key (fun sl => { gen := (sl.gen + 1) % 2048, ctx := none }) } }

/-- Discard what a stream has received and not delivered, and its held writes (R229). -/
def State.dropUndelivered (s : State) (key : Nat) : State :=
  (s.updPool (fun p => { p with held := p.held.filter (fun h => h.stream != some key) })).updStream key (fun c => { c with waiting := [] })

/-- A stream becomes FAULTED (R230): CLOSE_NOTICE 2, no further delivery, a WARN record, and STRM_CTX asserts. -/
def State.faultStream (s : State) (key : Nat) : State :=
  match s.stream key with
  | none => s
  | some st =>
    if st.state = .faulted then s
    else
      let t := s.homeServer (key / 2 ^ 15)
      let s1 := s.sendNotice st.epNode st.epQueue 2 (s.txPort st)
      let s2 := (s1.dropUndelivered key).updStream key (fun c => { c with state := .faulted, stateAt := s.bell, heldTx := [], outData := [], doneTus := [] })
      ((s2.note 0x6 .streamFault 2 (tgtTile t)).raise t 33)

/-! ### Port events (R230) -/

/-- A stream's port has gone down with the DATA flits it hands back. -/
def State.streamPortDown (s : State) (p key : Nat) (back : List (Nat × Tu)) : State :=
  match s.stream key with
  | none => s
  | some st =>
    let move := fun (state : StreamState) =>
      (s.updStream key (fun c => { c with state := state, heldTx := back ++ c.heldTx, returning := false })).flushHeldTx key
    let suspend := s.updStream key (fun c =>
      { c with state := .suspended, stateAt := s.bell, heldTx := back ++ c.heldTx, returning := false })
    match st.state with
    | .open_ =>
      if st.pri ≠ p then s
      else match st.alt with
        | some a => if s.upTo a st.epNode then move .onAlt else suspend
        | none => suspend
    | .onAlt =>
      if st.alt = some p then (if s.upTo st.pri st.epNode then move .open_ else suspend)
      else if st.pri = p && st.returning then (s.updStream key (fun c => { c with returning := false })).flushHeldTx key
      else s
    | .closing =>
      if back.isEmpty then s
      else (s.updStream key (fun c => { c with heldTx := back ++ c.heldTx })).flushHeldTx key
    | _ => s

/-- Every stream at a port that has gone down, with its share of the flits handed back (R184, R230). -/
def State.streamsPortDown (s : State) (p : Nat) (back : List Flit) : State :=
  (s.mirrorBack (back.filter (fun f => f.owner.isNone))).each s.streamKeys (fun s key => s.streamPortDown p key
    ((back.filter (fun f => f.owner == some key)).map (fun f => (f.vc, Tu.parse f.payload))))

/-- A port has come UP to a node: SUSPENDED streams resume on it, and held notices leave (R230). -/
def State.streamsPortUp (s : State) (p node : Nat) : State :=
  let s1 := s.each s.streamKeys (fun s key =>
    match s.stream key with
    | none => s
    | some st =>
      if st.epNode ≠ node then s
      else if st.state = .suspended && st.pri == p then (s.updStream key (fun c => { c with state := .open_ })).flushHeldTx key
      else if st.state = .suspended && st.alt == some p then (s.updStream key (fun c => { c with state := .onAlt })).flushHeldTx key
      else if st.state = .closing && (st.pri == p || st.alt == some p) then s.flushHeldTx key
      else s)
  (s1.flushNotices p node).twinPortUp p

/-! ### Credits (R233, R234) -/

/-- Credits earned since the last CREDIT TU. -/
def Stream.unreported (c : Stream) : Nat :=
  (c.freed + 2 ^ 32 - c.repData) % 2 ^ 32 + (c.executed + 2 ^ 32 - c.repReq) % 2 ^ 32

/-- Send the cumulative counts in a CREDIT TU on VC1 (R221, R234). -/
def State.sendCredit (s : State) (key : Nat) : State :=
  match s.stream key with
  | none => s
  | some st =>
    let tu : Tu := { type := 6, flags := 0, stream := st.epQueue, tsn := 0, aux := st.freed % 2 ^ 32, addr := st.executed % 2 ^ 32, data := [] }
    (s.updStream key (fun c => { c with repData := c.freed, repReq := c.executed })).dispatchTu key 1 tu

/-- Send a CREDIT TU once 64 credits are unreported (R234); fewer wait for CREDIT_REPORT_DUE. -/
def State.creditCheck (s : State) (key : Nat) : State :=
  match s.stream key with
  | none => s
  | some st => if 64 ≤ st.unreported then s.sendCredit key else s

/-- Must a completion wait for the partner's MIRROR_ACK of its record (R439)? -/
def State.mustWait (s : State) (m : Option (Nat × Nat)) : Bool :=
  match m with
  | some (t, k) => s.twinState == 4 && decide (Map.get 0 s.twin.acked t ≤ k)
  | none => false

/-- A request has been executed: its credit is returned, at once or once the partner has executed it too (R234, R439). -/
def State.reqDone (s : State) (key : Nat) (m : Option (Nat × Nat)) : State :=
  match m with
  | some (t, k) => if s.mustWait m then s.holdFor t k (.req key)
    else (s.updStream key (fun c => { c with executed := (c.executed + 1) % 2 ^ 32 })).creditCheck key
  | none => (s.updStream key (fun c => { c with executed := (c.executed + 1) % 2 ^ 32 })).creditCheck key

/-- Module data credits in use (R233). -/
def Stream.dataUsed (c : Stream) : Nat := (c.written + 2 ^ 32 - c.freed) % 2 ^ 32

/-- Slots of the ring delivered and not yet freed (R233). -/
def Stream.ringUsed (c : Stream) : Nat := c.ringW - c.ringR

/-- Return `n` module data credits (R233). -/
def State.returnData (s : State) (key n : Nat) : State :=
  (s.updStream key (fun c => { c with freed := (c.freed + n) % 2 ^ 32 })).creditCheck key

/-- The consumer frees `n` slots of the ring, and their credits are due. -/
def State.freeRing (s : State) (key n : Nat) : State :=
  (s.updStream key (fun c => { c with ringR := c.ringR + n })).returnData key n

/-- Is everything a stream has sent acknowledged at link level, and nothing held (R229)? -/
def State.allAcked (s : State) (key : Nat) : Bool :=
  (match s.stream key with
   | none => true
   | some st => st.heldTx.isEmpty && st.outData.isEmpty && st.doneTus.isEmpty) && s.linkClear key

end Sys2Proof.Machine
end

