-- ==== Sys2Proof/Machine/JobOps.lean ====
section
/-! DEFINITION. Machine/JobOps.lean: OME jobs as other chapters meet them (chapter 10): the descriptor, planning and staging
room (R289 to R301), the completion record (R309), and how a job ends (R305 to R308). -/

namespace Sys2Proof.Machine

/-! ### Engine access -/

/-- A tile's OME. -/
def State.ome (s : State) (t : Nat) : Ome := Map.get {} s.work.ome t
/-- Change a tile's OME. -/
def State.updOme (s : State) (t : Nat) (f : Ome → Ome) : State := { s with work := { s.work with ome := Map.upd {} s.work.ome t f } }
/-- The job of a running command. -/
def State.job (s : State) (id : Nat) : Option Job := s.work.jobs.find? (fun j => j.id == id)
/-- Change a job. -/
def State.updJob (s : State) (id : Nat) (f : Job → Job) : State :=
  { s with work := { s.work with jobs := s.work.jobs.map (fun j => if j.id = id then f j else j) } }
/-- Is a job at work: QUEUED, STAGING or RUNNING (R308)? -/
def Job.live (j : Job) : Bool := decide (j.state = .queued) || decide (j.state = .staging) || decide (j.state = .running)

/-! ### The descriptor (R292 to R296) -/

/-- The descriptor in 128 bytes. -/
def JobDesc.parse (b : List Byte) : JobDesc :=
  { kind := leAt b 0 1, cls := leAt b 1 1, range := leAt b 2 1, prio := leAt b 3 1, xfmt := leAt b 4 1, wfmt := leAt b 5 1,
    yfmt := leAt b 6 1, isrc := leAt b 7 1 % 16, odst := leAt b 7 1 / 16, flags := leAt b 8 2, m := leAt b 12 4,
    k := leAt b 16 4, n := leAt b 20 4, mask := leAt b 24 8, waddr := leAt b 32 8, xaddr := leAt b 40 8, yaddr := leAt b 48 8,
    ldx := leAt b 56 4, ldy := leAt b 60 4, wscale := leAt b 64 4, xscale := leAt b 68 4, stage := leAt b 72 4,
    groups := leAt b 76 4 }

/-- JFLAGS bits. -/
def JobDesc.flag (d : JobDesc) (i : Nat) : Bool := d.flags / 2 ^ i % 2 == 1
/-- K rounded up to a multiple of 32. -/
def JobDesc.k32 (d : JobDesc) : Nat := ceilDiv d.k 32 * 32
/-- Bytes of a packed weight row. -/
def JobDesc.wRow (d : JobDesc) : Nat := packedLen d.wfmt d.k
/-- Row-blocks of the job: for COMBINE, the groups (assumption 30). -/
def JobDesc.blocks (d : JobDesc) : Nat := if d.kind = 2 then d.groups else ceilDiv d.m 64
/-- Rows of row-block `b`. -/
def JobDesc.rows (d : JobDesc) (b : Nat) : Nat := if d.kind = 2 then d.m else min 64 (d.m - 64 * b)
/-- Address and bytes of row-block `b` of W. -/
def JobDesc.blockRange (d : JobDesc) (b : Nat) : Nat × Nat :=
  if d.kind = 2 then (d.waddr + b * d.m * d.wRow, d.m * d.wRow) else (d.waddr + b * 64 * d.wRow, d.rows b * d.wRow)
/-- Elements of one input vector: K, and for COMBINE the N elements of a source vector. -/
def JobDesc.xElems (d : JobDesc) : Nat := if d.kind = 2 then d.n else d.k
/-- Bytes of one packed input vector. -/
def JobDesc.xLen (d : JobDesc) : Nat := packedLen d.xfmt d.xElems
/-- Bytes of one output element. -/
def JobDesc.ySize (d : JobDesc) : Nat := if d.yfmt = 1 then 2 else 4
/-- Bytes of one output vector. -/
def JobDesc.yLen (d : JobDesc) : Nat := (if d.kind = 2 then d.n else d.m) * d.ySize
/-- Input vectors and output vectors in memory. -/
def JobDesc.xCount (d : JobDesc) : Nat := if d.kind = 2 then d.groups * d.k else d.n
/-- Output vectors. -/
def JobDesc.yCount (d : JobDesc) : Nat := if d.kind = 2 then d.groups * d.m else d.n
/-- The chunk length N_c (R289). -/
def JobDesc.nc (d : JobDesc) : Nat :=
  let cap := min 8192 (8388608 / (2 * (if d.kind = 2 then 32 else d.k32)))
  if d.kind = 3 then cap else min d.n cap
/-- Chunks of the job; 0 for PROJECT. -/
def JobDesc.chunks (d : JobDesc) : Nat := if d.kind = 3 then 0 else ceilDiv d.n d.nc
/-- Bytes of all weights. -/
def JobDesc.wBytes (d : JobDesc) : Nat := (if d.kind = 2 then d.groups * d.m else d.m) * d.wRow
/-- Mask tiles in ascending order. -/
def maskTiles (mask : Nat) : List Nat := allTiles.filter (fun t => mask / 2 ^ t % 2 == 1)
/-- Operand ranges in memory: W, X, Y, each with its field's byte offset in the descriptor (R296). -/
def JobDesc.ranges (d : JobDesc) : List (Nat × Nat × Nat) :=
  [(32, d.waddr, d.wBytes)] ++
  (if d.isrc = 0 then [(40, d.xaddr, (d.xCount - 1) * d.ldx + d.xLen)] else []) ++
  (if d.odst = 0 then [(48, d.yaddr, (d.yCount - 1) * d.ldy + d.yLen)] else [])

/-- Do two byte ranges overlap? -/
def overlaps (a n b m : Nat) : Bool := decide (a < b + m) && decide (b < a + n) && n != 0 && m != 0

/-- The first field of the descriptor that breaks R292 to R296, as a byte offset in the descriptor. -/
def JobDesc.firstBad (d : JobDesc) (b : List Byte) : Option Nat :=
  let combine := d.kind == 2
  let project := d.kind == 3
  let clash := fun (off a n : Nat) => d.ranges.any (fun r => decide (r.1 < off) && overlaps a n r.2.1 r.2.2)
  let checks : List (Nat × Bool) := [
    (0, decide (3 < d.kind)), (1, decide (2 < d.cls)), (2, decide (4 < d.range)), (3, decide (3 < d.prio)),
    (4, decide (6 < d.xfmt)), (5, decide (6 < d.wfmt)), (6, decide (1 < d.yfmt)),
    (7, decide (1 < d.isrc) || decide (1 < d.odst) || (project && !(d.isrc == 1 && d.odst == 1))),
    (8, decide (16 ≤ d.flags) || (d.flag 2 && !(d.yfmt == 0 && d.odst == 0))),
    (10, leAt b 10 2 != 0),
    (12, d.m == 0 || decide (16777216 < d.m) || (combine && decide (64 < d.m))),
    (16, d.k == 0 || decide (1048576 < d.k) || (combine && decide (32 < d.k)) ||
      ((isMx d.wfmt || (isMx d.xfmt && !combine)) && d.k % 32 != 0)),
    (20, if project then d.n != 0
         else d.n == 0 || decide ((if combine then 1048576 else 16777216) < d.n) ||
           (d.kind == 0 && decide (d.nc < d.n)) || (combine && isMx d.xfmt && d.n % 32 != 0)),
    (24, (maskTiles d.mask).isEmpty || decide (2 ^ 48 ≤ d.mask)),
    (32, !addrValid d.waddr),
    (40, if d.isrc = 0 then !addrValid d.xaddr || clash 40 d.xaddr ((d.xCount - 1) * d.ldx + d.xLen)
         else if combine then d.xaddr != 0 else decide (2 ^ 32 ≤ d.xaddr)),
    (48, if d.odst = 0 then !addrValid d.yaddr || clash 48 d.yaddr ((d.yCount - 1) * d.ldy + d.yLen)
         else decide (2 ^ 32 ≤ d.yaddr)),
    (56, if d.isrc = 0 then decide (d.ldx < d.xLen) else d.ldx != 0),
    (60, if d.odst = 0 then decide (d.ldy < d.yLen) else d.ldy != 0),
    (64, d.wfmt != 2 && d.wscale != 0), (68, d.xfmt != 2 && d.xscale != 0),
    (76, if combine then d.groups == 0 || decide (65536 < d.groups) else d.groups != 0),
    (80, leAt b 80 48 != 0)]
  (checks.find? (fun c => c.2)).map (·.1)

/-! ### Planning (R291) and staging room (R297 to R301) -/

/-- Can a tile not run an accuracy class: a bank is withdrawn (R285), or ageing has withdrawn the class (R359)? -/
def State.classOff (s : State) (t cls : Nat) : Bool :=
  (cls == 2 && (!(s.ome t).withdrawn.isEmpty || s.b (F.AGE_PLAN_SPLIT3_OFF t))) || (cls != 0 && s.b (F.AGE_PLAN_SPLIT2_OFF t))

/-- Is every byte of a range LOCAL on this module (R302)? -/
def State.rangeLocal (s : State) (a n : Nat) : Bool :=
  s.ownNode (addrNode a) && (rangeIndexes a n).all (fun i => decide ((s.famEntry i).kind = .local_))

/-- Does a byte range touch a tile's memory? -/
def State.rangeOn (s : State) (a n t : Nat) : Bool :=
  (rangeIndexes a n).any (fun i => decide ((s.famEntry i).kind = .local_) && (s.famEntry i).tile == t)

/-- Is a row-block resident on a tile: every byte in frames of the tile's own half-stack (R291)? -/
def State.resident (s : State) (d : JobDesc) (b t : Nat) : Bool :=
  let r := d.blockRange b
  isMemTile t && s.rangeLocal r.1 r.2 && (rangeIndexes r.1 r.2).all (fun i => (s.famEntry i).tile == t)

/-- Can a mask tile's OME take work: served, and neither OFF nor FAILED (R302)? -/
def State.omeServes (s : State) (t : Nat) : Bool :=
  s.inService t && (match s.server t with
    | none => false
    | some u => let st := s.f (F.OME_STAT_STATE u); st != 0 && st != 8 && !(st == 1))

/-- The half-stack frames, or the SRAM, that receive a mask tile's staged row-blocks (R297, R299), in bytes. -/
def State.stagingCap (s : State) (t : Nat) : Nat :=
  if isMemTile t && !s.b (F.TILE_ROLE_ENGINE_OUT t) then s.stagingFrames t * 2 ^ 21 else 8388608

/-- Free staging bytes of a mask tile, FREE(t) of R300. -/
def State.stagingFree (s : State) (t : Nat) : Nat :=
  s.stagingCap t - (s.work.sets.map (fun e => if e.2.live then Map.get 0 e.2.need t else 0)).foldl (· + ·) 0

/-- Deal the row-blocks (R291): the blocks of each mask tile and whether each is resident. -/
def State.deal (s : State) (d : JobDesc) : List (Nat × List (Nat × Bool)) :=
  let tiles := maskTiles d.mask
  let home := fun b => tiles.find? (fun t => s.resident d b t && s.omeServes t)
  let start := tiles.map (fun t => (t, ([] : List (Nat × Bool))))
  let add := fun (l : List (Nat × List (Nat × Bool))) (t b : Nat) (r : Bool) =>
    l.map (fun e => if e.1 = t then (e.1, e.2 ++ [(b, r)]) else e)
  let l1 := (List.range d.blocks).foldl (fun l b => match home b with | some t => add l t b true | none => l) start
  (List.range d.blocks).foldl (fun l b =>
    match home b with
    | some _ => l
    | none =>
      match l.foldl (fun (m : Option (Nat × Nat)) e =>
          match m with
          | none => some (e.1, e.2.length)
          | some x => if e.2.length < x.2 then some (e.1, e.2.length) else some x) none with
      | none => l
      | some x => add l x.1 b false) l1

/-- NEED(t) in bytes for every mask tile (R300). -/
def needOf (d : JobDesc) (deal : List (Nat × List (Nat × Bool))) : List (Nat × Nat) :=
  deal.map (fun e => (e.1, ((e.2.filter (fun b => !b.2)).map (fun b => (d.blockRange b.1).2)).foldl (· + ·) 0))

/-- The ERR_CAPACITY answer of R300, where NEED exceeds FREE: the tile with the largest ratio, SHORTFALL and SPLIT. -/
def State.shortage (s : State) (need : List (Nat × Nat)) : Option (Nat × Nat × Nat) :=
  let rows := need.map (fun e => (e.1, e.2, s.stagingFree e.1))
  if rows.all (fun r => decide (r.2.1 ≤ r.2.2)) then none
  else
    let worse := fun (a b : Nat × Nat × Nat) => decide (a.2.1 * b.2.2 < b.2.1 * a.2.2) || (b.2.2 == 0 && b.2.1 != 0 && a.2.2 != 0)
    let top := (rows.drop 1).foldl (fun m r => if worse m r then r else m) (rows.headD (0, 0, 0))
    let short := (rows.map (fun r => r.2.1 - r.2.2)).foldl (· + ·) 0
    let split := if rows.any (fun r => r.2.1 != 0 && r.2.2 == 0) then 0
      else (rows.map (fun r => ceilDiv r.2.1 r.2.2)).foldl max 0
    some (top.1, short, split)

/-- The 16-byte result of R300. -/
def shortageBytes (short split : Nat) : List Byte := leBytes 8 short ++ leBytes 4 split ++ zeros 4

/-- Overflow row-blocks of each mask tile under ALLOW_TIER2: the staged ones that do not fit, from the highest b down
(R301). -/
def State.overflow (s : State) (d : JobDesc) (deal : List (Nat × List (Nat × Bool))) : List (Nat × List Nat) :=
  deal.map (fun e =>
    let staged := (e.2.filter (fun b => !b.2)).map (·.1)
    let total := (staged.map (fun b => (d.blockRange b).2)).foldl (· + ·) 0
    let above := staged.reverse.foldl (fun (x : List Nat × Nat) b =>
      if s.stagingFree e.1 < x.2 then (b :: x.1, x.2 - (d.blockRange b).2) else x) ([], total)
    (e.1, above.1))

/-- Does a row-block lie in LPDDR5X already (R301)? -/
def State.inTier2 (s : State) (d : JobDesc) (b : Nat) : Bool :=
  let r := d.blockRange b
  (rangeIndexes r.1 r.2).all (fun i => isCorner (s.famEntry i).tile)

/-- Do row-blocks of a share run from tier 2: its job's own set holds copies beyond the staging it takes (R301)? -/
def State.overflowed (s : State) (j : Job) (sh : Share) : Bool :=
  match j.set with
  | none => false
  | some k =>
    let x := Map.get ({} : StageSet) s.work.sets k
    x.temp && decide (Map.get 0 x.need sh.tile <
      ((sh.blocks.filter (fun b => (Map.find b x.data).isSome)).map (fun b => (j.desc.blockRange b).2)).foldl (· + ·) 0)

/-- Take `n` tier-2 frames for a job, each from the corner tile with the most free frames (R301). -/
def State.takeTier2 (s : State) (id : Nat) : Nat → List Nat → Option (State × List Nat)
  | 0, got => some (s, got)
  | n + 1, got =>
    let best := [0, 11, 36, 47].foldl (fun (m : Nat × Nat) t =>
      if s.memDown t then m else if m.2 < s.freeCount t then (t, s.freeCount t) else m) (0, 0)
    match s.freeFrames best.1 1 with
    | [] => none
    | f :: _ =>
      if best.2 = 0 then none
      else State.takeTier2 (s.updPool (fun p => { p with used := Map.put (frameKey best.1 f) (.job id) p.used })) id n (frameKey best.1 f :: got)

/-! ### Ending a job -/

/-- The 32-byte completion record (R309). -/
def State.jobRecord (s : State) (j : Job) : List Byte :=
  let st := match j.state with
    | .queued => 0 | .staging => 1 | .running => 2 | .done => 3 | .failed => 4 | .cancelled => 5 | .mirrorWait => 6
  leBytes 4 j.unitsDone ++ leBytes 4 j.unitsTotal ++ leBytes 4 (min j.passes 0xFFFFFFFF) ++ leBytes 2 (min j.reruns 0xFFFF) ++
  leBytes 2 (min j.satRows 0xFFFF) ++ leBytes 1 st ++ leBytes 1 j.rflags ++ leBytes 2 j.derate ++
  leBytes 8 (min (((j.endBell.getD s.bell) - j.startBell) * 1000) (2 ^ 64 - 1)) ++ leBytes 1 j.failTile ++
  leBytes 1 j.desc.cls ++ zeros 2

/-- Release a staging set's slot: its GEN increments. Slots from 256 up are temporary sets, which have no handle (R298). -/
def State.freeSet (s : State) (slot : Nat) : State :=
  let sets := if 256 ≤ slot then Map.del slot s.work.sets
    else Map.upd ({} : StageSet) s.work.sets slot (fun x => { gen := (x.gen + 1) % 2 ^ 24 })
  { s with work := { s.work with sets := sets } }

/-- Give back what a job holds: its temporary set, its tier-2 frames, and the engines' work for it (R298, R301). -/
def State.releaseJob (s : State) (j : Job) : State :=
  let s1 := match j.set with
    | some slot => if (Map.get ({} : StageSet) s.work.sets slot).temp then s.freeSet slot else s
    | none => s
  let s2 := s1.each j.frames (fun s k => s.releaseFrame (k / 2 ^ 17) (k % 2 ^ 17))
  let s3 := s2.updJob j.id (fun x => { x with frames := [], set := none, shares := x.shares.map (fun sh =>
    { sh with active := false, ready := false, reads := [], terms := [] }) })
  { s3 with work := { s3.work with ome := s3.work.ome.map (fun e =>
      (e.1, if e.2.regroup = some (.job j.id) then { e.2 with regroup := none } else e.2)) } }

/-- A job that no running command names, as a standby runs it from its mirror record, leaves the table with its end. -/
def State.dropUnnamed (s : State) (id : Nat) : State :=
  if (s.running id).isSome then s
  else { s with work := { s.work with jobs := s.work.jobs.filter (fun j => j.id != id || j.live) } }

/-- A job ends with a status (R305 to R308): FAILED or CANCELLED for an error, DONE else; its record goes with the reply. -/
def State.endJob (s : State) (id status detail failTile : Nat) : State :=
  match s.job id with
  | none => s
  | some j =>
    if !(j.live || decide (j.state = .mirrorWait)) then s
    else
      let st : JobState := if status = 0x8401 then .cancelled else if status = stOk then .done else .failed
      let s1 := s.updJob id (fun x => { x with state := st, failTile := failTile, endBell := some s.bell })
      match s1.job id with
      | none => s1
      | some j1 => ((s1.releaseJob j1).finish id status detail (s1.jobRecord j1)).dropUnnamed id

/-- The row-blocks of a job's share run by streamed staging from now on (R299, R307). -/
def State.streamShare (s : State) (id t : Nat) (standin : Bool) : State :=
  s.updJob id (fun j => { j with
    rflags := if standin then j.rflags ||| 32 else j.rflags
    shares := j.shares.map (fun sh => if sh.tile = t then { sh with streamed := sh.blocks } else sh) })

/-- The live jobs with an unfinished share on a mask tile. -/
def State.jobsOn (s : State) (t : Nat) : List Job := s.work.jobs.filter (fun j => j.live && j.shares.any (fun sh => sh.tile == t))

/-- A mask tile's OME has failed or its duties have moved (R307): its units go on at the stand-in, or the jobs end
ERR_FAULT with FAIL_TILE. The unit in hand starts again there. -/
def State.jobsMoved (s : State) (t : Nat) (cause : Option Nat) : State :=
  let standin := match s.server t with | some u => u != t | none => false
  s.each (s.jobsOn t) (fun s j =>
    let s1 := s.updJob j.id (fun x => { x with shares := x.shares.map (fun sh => if sh.tile = t then
      { sh with active := false, ready := false, wt := 0, reads := [], terms := [], tries := 0 } else sh) })
    if standin then s1.streamShare j.id t true else s1.endJob j.id stFault (s1.faultDetail cause) t)

/-- Jobs one of whose operand ranges a predicate names end with a status and DETAIL (R307). -/
def State.endJobsOver (s : State) (hit : Nat → Nat → Bool) (status detail failTile : Nat) : State :=
  s.each (s.work.jobs.filter (fun j => j.live && j.desc.ranges.any (fun r => hit r.2.1 r.2.2))) (fun s j =>
    s.endJob j.id status detail failTile)

/-- An input stream has closed or faulted (R307): PROJECT finishes what it has received, the others end ERR_FAULT. -/
def State.jobsStreamGone (s : State) (key : Nat) : State :=
  s.each (s.work.jobs.filter (fun j => j.live && j.srcs.contains key)) (fun s j =>
    if j.desc.kind = 3 then s.updJob j.id (fun x => { x with inputClosed := true })
    else
      let faulted : Bool := match s.stream key with | some c => decide (c.state = .faulted) | none => false
      s.endJob j.id stFault (s.faultDetail (if faulted then some (fsrcTile (key / 2 ^ 15) 33) else none)) 255)

end Sys2Proof.Machine
end

