-- ==== Sys2Proof/Machine/CollOps.lean ====
section
/-! DEFINITION. Machine/CollOps.lean: collective groups and operations as other chapters meet them (chapter 11): handles,
descriptors, completion records, COLL_DONE, and how operations end (R312 to R335). -/

namespace Sys2Proof.Machine

/-- A collective context. -/
def State.ctx (s : State) (n : Nat) : CollCtx := Map.get ({} : CollCtx) s.work.ctxs n
/-- Change a context. -/
def State.updCtx (s : State) (n : Nat) (f : CollCtx → CollCtx) : State :=
  { s with work := { s.work with ctxs := Map.upd ({} : CollCtx) s.work.ctxs n f } }
/-- The group of a context. -/
def State.group (s : State) (n : Nat) : Option Group := (s.ctx n).group
/-- Change a group. -/
def State.updGroup (s : State) (n : Nat) (f : Group → Group) : State :=
  s.updCtx n (fun c => { c with group := c.group.map f })
/-- Change the running operation of a context. -/
def State.updOp (s : State) (n : Nat) (f : CollOp → CollOp) : State :=
  s.updGroup n (fun g => { g with cur := g.cur.map f })
/-- The context a handle names, where it is not stale (R312). -/
def State.ctxOf (s : State) (h : Nat) : Option Nat :=
  let n := h % 4096
  let c := s.ctx n
  if c.group.isSome && c.gen == h / 4096 % 2 ^ 20 then some n else none
/-- The contexts that hold a group. -/
def State.ctxKeys (s : State) : List Nat := (s.work.ctxs.filter (fun e => e.2.group.isSome)).map (·.1)

/-- The slot key of a member's stream. -/
def Member.key (m : Member) : Nat := handleKey m.stream
/-- The entry tile of a member: its stream's Homeroom, or the stand-in in its place (R312, R321). -/
def State.entryTile (s : State) (m : Member) : Nat := s.homeServer (m.key / 2 ^ 15)

/-- The group's touched rows in ascending order, and its mask tiles of a row (R314, R321). -/
def maskRows (mask : Nat) : List Nat := (List.range 4).filter (fun r => (maskTiles mask).any (fun t => tileRow t == r))
/-- Mask tiles of one row. -/
def maskRow (mask r : Nat) : List Nat := (maskTiles mask).filter (fun t => tileRow t == r)
/-- q of R314. -/
def maskQ (mask : Nat) : Nat := ((maskRows mask).head?.map (fun r => (maskRow mask r).length)).getD 0

/-- Bytes of an element of ITYPE or OTYPE (R317). -/
def elemSize (ty : Nat) : Nat := if ty = 0 then 4 else if ty = 1 then 2 else 1

/-- An element decoded to binary32, exactly (R325). -/
def elemIn (ty : Nat) (bs : List Byte) (i : Nat) : Nat :=
  match ty with
  | 0 => leAt bs (4 * i) 4
  | 1 => f32Of (bf16Num (leAt bs (2 * i) 2))
  | 2 => f32Of (e4m3Num (leAt bs i 1))
  | _ => f32Of (e5m2Num (leAt bs i 1))

/-- An element encoded from binary32 (R325, R535). -/
def elemOut (ty w : Nat) : List Byte :=
  match ty with
  | 0 => leBytes 4 w
  | 1 => leBytes 2 (bf16Of w)
  | 2 => leBytes 1 (e4m3Of w)
  | _ => leBytes 1 (e5m2Of w)

/-- The descriptor in 64 bytes (R317). -/
def OpDesc.parse (b : List Byte) : OpDesc :=
  { op := leAt b 0 1, redop := leAt b 1 1, path := leAt b 2 1, tol := leAt b 3 1, itype := leAt b 4 1, otype := leAt b 5 1,
    isrc := leAt b 6 1 % 16, odst := leAt b 6 1 / 16, root := leAt b 8 2, rep := leAt b 10 2, count := leAt b 12 4,
    src := leAt b 16 8, dst := leAt b 24 8, lds := leAt b 32 4, ldd := leAt b 36 4, hidden := leAt b 40 4, topk := leAt b 44 1,
    cap := leAt b 48 4, tokens := leAt b 52 4 }

/-- Elements one rank sends, and receives, in a group of n (R316; codes 0 to 4). -/
def OpDesc.sends (d : OpDesc) (n rank : Nat) : Nat :=
  match d.op with
  | 1 => n * d.count
  | 3 => if rank = d.root then d.count else 0
  | 4 => n * d.count
  | _ => d.count
/-- Elements one rank receives. -/
def OpDesc.receives (d : OpDesc) (n : Nat) : Nat := if d.op = 2 || d.op = 4 then n * d.count else d.count
/-- Elements of the whole reduction (codes 0 and 1). -/
def OpDesc.total (d : OpDesc) (n : Nat) : Nat := if d.op = 1 then n * d.count else d.count
/-- Segments of a reduction (R321). -/
def OpDesc.segments (d : OpDesc) (n : Nat) : Nat := ceilDiv (d.total n) 16384
/-- Elements of segment g. -/
def OpDesc.segLen (d : OpDesc) (n g : Nat) : Nat := min 16384 (d.total n - 16384 * g)

/-- The tiles an operation uses (R323): the mask and the entry tiles. -/
def State.opTiles (s : State) (g : Group) (d : OpDesc) : List Nat :=
  ((maskTiles g.mask).map (fun t => (s.server t).getD t) ++
    (if d.isrc = 1 || d.odst = 1 then g.members.map s.entryTile else [])).eraseDups

/-- Operations that run on a tile: those that hold a quota there (R323). -/
def State.opsOn (s : State) (t : Nat) : List Nat :=
  s.ctxKeys.filter (fun n => match s.group n with
    | some g => (match g.cur with | some o => (s.opTiles g o.desc).contains t | none => false)
    | none => false)

/-- Slots of the collective buffer held on a tile (R323, R330): 16 for each operation that runs there, and the route records of
its sources, 1,365 to a slot. -/
def State.collSlots (s : State) (t : Nat) : Nat :=
  16 * min 4 (s.opsOn t).length + (s.ctxKeys.map (fun n => match s.group n with
    | some g => ceilDiv (g.routes.countP (fun r => s.homeServer ((g.members.getD r.src ⟨0, false, 0, 0⟩).key / 2 ^ 15) == t)) 1365
    | none => 0)).foldl (· + ·) 0

/-- AUX of a collective TU (R319). -/
def collAux (ctx seq : Nat) : Nat := ctx % 4096 + seq % 65536 * 4096

/-- The first live run of a group. -/
def Group.head (g : Group) : Option CollRun := g.runs.find? (fun r => decide (r.state < 2))

/-- The 32-byte record of R334. -/
def State.collRecord (s : State) (r : CollRun) : List Byte :=
  leBytes 2 r.first ++ leBytes 2 r.done ++ leBytes 1 r.state ++ leBytes 1 (r.path.getD 0) ++ leBytes 1 r.cls ++ leBytes 1 r.flags ++
  leBytes 8 (match r.startBell with | some b => min ((r.endBell.getD s.bell - b) * 1000) (2 ^ 64 - 1) | none => 0) ++
  leBytes 4 r.dropped ++ leBytes 2 r.failRank ++ leBytes 1 r.failTile ++ zeros 9

/-- Change a run. -/
def State.updRun (s : State) (n id : Nat) (f : CollRun → CollRun) : State :=
  s.updGroup n (fun g => { g with runs := g.runs.map (fun r => if r.id = id then f r else r) })

/-- COLL_DONE to a member (R319, R324): it leaves after the stream's last TU that waits for credit. -/
def State.sendDone (s : State) (n seq status path flags recv drop : Nat) (m : Member) : State :=
  let tu : Tu :=
    { type := 0x13, flags := 0, stream := 0, tsn := 0, aux := collAux n seq, addr := seq % 65536,
      data := leBytes 2 status ++ leBytes 1 path ++ leBytes 1 flags ++ leBytes 4 recv ++ leBytes 4 drop ++ zeros 4 }
  if m.peer || (s.liveKey m.stream).isNone then s
  else (s.updStream m.key (fun c => if c.state = .faulted then c else { c with doneTus := c.doneTus ++ [tu] })).pump m.key

/-- Held collective TUs of a context are dropped from a member's stream with their credits returned (R333, R336). -/
def State.dropHeldColl (s : State) (n : Nat) (upto : Nat → Bool) (m : Member) : State :=
  match s.stream m.key with
  | none => s
  | some st =>
    let mine := fun (tu : Tu) => decide (0x10 ≤ tu.type) && decide (tu.type ≤ 0x12) && tu.aux % 4096 == n && upto (tu.aux / 4096 % 65536)
    let k := st.waiting.countP mine
    if k = 0 then s
    else (s.updStream m.key (fun c => { c with waiting := c.waiting.filter (fun tu => !mine tu) })).returnData m.key k

/-- End the head run of a context with a status, and every run behind it with ERR_OP_ABORTED (R333). -/
def State.stopOps (s : State) (n status detail state failRank failTile : Nat) : State :=
  match s.group n with
  | none => s
  | some g =>
    match g.head with
    | none => s
    | some r =>
      let seq := match g.cur with | some o => o.seq | none => (r.first + r.done) % 65536
      let s1 := s.updRun n r.id (fun x => { x with state := state, failRank := failRank, failTile := failTile, endBell := some s.bell })
      let s2 := s1.updGroup n (fun g => { g with cur := none, routes := [], lastOp := none })
      let s3 := s2.each g.members (fun s m => s.sendDone n seq status (r.path.getD 0) r.flags 0 r.dropped m)
      let behind := (g.runs.filter (fun x => decide (x.state < 2) && x.id != r.id))
      let s4 := s3.each behind (fun s x =>
        (s.updRun n x.id (fun y => { y with state := 4, endBell := some s.bell })).each g.members (fun s m =>
          s.sendDone n x.first 0x8503 0 x.flags 0 0 m))
      let s5 := s4.each g.members (fun s m => s.dropHeldColl n (fun _ => true) m)
      s5.each (r :: behind) (fun s x =>
        match s.group n with
        | none => s
        | some g2 => match g2.runs.find? (fun y => y.id == x.id) with
          | none => s
          | some y => if x.id = r.id then s.finish x.id status detail (s.collRecord y) else s.finish x.id 0x8503 0 (s.collRecord y))

/-- A member's stream has become FAULTED or FREE (R335): the operation that runs or comes next ends ERR_MEMBER_LOST, and the
group is BROKEN. -/
def State.memberLost (s : State) (key : Nat) : State :=
  s.each s.ctxKeys (fun s n =>
    match s.group n with
    | none => s
    | some g =>
      match g.members.findIdx? (fun m => m.key == key) with
      | none => s
      | some rank =>
        let s1 := s.updGroup n (fun g => { g with broken := some rank })
        if g.head.isSome then s1.stopOps n 0x8501 rank 3 rank 255 else s1)

/-- A tile the running operations use is lost (R335): reset, collective engine error, or duties moved. -/
def State.collTileLost (s : State) (t : Nat) (cause : Option Nat) : State :=
  s.each s.ctxKeys (fun s n =>
    match s.group n with
    | none => s
    | some g =>
      match g.cur with
      | none => s
      | some o => if (s.opTiles g o.desc).contains t || (maskTiles g.mask).contains t then s.stopOps n stFault (s.faultDetail cause) 3 0xFFFF t else s)

/-- The memory ranges of an operation of k ranks: source and destination. -/
def OpDesc.ranges (d : OpDesc) (k : Nat) : List (Nat × Nat) :=
  (if d.isrc == 0 && decide (d.op < 5) then [(d.src, (k - 1) * d.lds + d.sends k 0 * elemSize d.itype)] else []) ++
  (if d.odst == 0 && decide (d.op < 5) then [(d.dst, d.receives k * elemSize d.otype)] else [])

/-- Operations whose source or destination range a predicate names end with a status and DETAIL (R335). -/
def State.collOver (s : State) (hit : Nat → Nat → Bool) (status detail : Nat) : State :=
  s.each s.ctxKeys (fun s n =>
    match s.group n with
    | none => s
    | some g =>
      match g.cur with
      | none => s
      | some o =>
        if (o.desc.ranges g.members.length).any (fun r => hit r.1 r.2) then s.stopOps n status detail 3 0xFFFF 255 else s)

/-- A stream is gone for jobs and collectives (R307, R335). -/
def State.streamGone (s : State) (key : Nat) : State := (s.jobsStreamGone key).memberLost key

end Sys2Proof.Machine
end

