-- ==== Sys2Proof/Machine/BlkOps.lean ====
section
/-! DEFINITION. Machine/BlkOps.lean: Blocking as other chapters meet it (chapter 12): channels, the queue, aborts (R351) and
calibration currency (R279). -/

namespace Sys2Proof.Machine

/-- Is CHAN a channel code (R341)? Kind 4 is the trace. -/
def chanOk (c : Nat) : Bool :=
  match c / 4096 with
  | 0 => decide (c % 4096 / 32 < 3) && decide (c % 32 ≤ 16)
  | 1 => decide (c % 4096 < 16)
  | 2 => decide (c % 4096 < 256) && decide (c % 128 ≤ 64)
  | 3 => decide (c % 4096 ≤ 32)
  | 4 => c % 4096 == 0
  | _ => false

/-- All channels of a tile (R339). -/
def allChans : List Nat := (List.range 0x4000).filter chanOk

/-- The run slot of a channel (R347): 0 to 2 the ports, 3 OME, 4 Crown. -/
def slotOf (c : Nat) : Nat :=
  match c / 4096 with
  | 0 => c % 4096 / 32
  | 1 => 4
  | _ => 3

/-- The channel of a port's lane. -/
def laneChan (p j : Nat) : Nat := (p % 3) * 32 + j

/-- Is the channel its slot's Substitute unit: lane S, row 64 or line 32 (R339)? -/
def isSubUnit (c : Nat) : Bool :=
  match c / 4096 with
  | 0 => c % 32 == 16
  | 2 => c % 128 == 64
  | 3 => c % 64 == 32
  | _ => false

/-- Is the channel in Detention? -/
def State.detained (s : State) (t c : Nat) : Bool := (s.bl t).detained.contains c

/-- The trigger code of BLK_LAST for a priority (R360's field table). -/
def triggerOf (prio : Nat) : Nat := match prio with | 0 => 2 | 1 => 3 | 2 => 0 | 3 => 1 | _ => 4

/-- Bring BLK_STAT in line with the queue and the runs. -/
def State.syncBlk (s : State) (t : Nat) : State :=
  let b := s.bl t
  let trace := (if b.tracing then [3] else []) ++ (if b.traceCrown then [4] else [])
  let busy := ((b.runs.map (·.slot) ++ trace).eraseDups.map (fun k => 2 ^ k)).foldl (· + ·) 0
  s.setFs [(F.BLK_STAT_BUSY t, busy), (F.BLK_STAT_QUEUED t, b.queue.length), (F.BLK_STAT_TRACE t, if b.tracing then 1 else 0)]

/-- Queue a channel, or raise its entry's priority (R343). -/
def State.queueChan (s : State) (t c prio diff : Nat) : State :=
  let b := s.bl t
  if b.runs.any (fun r => r.chan == c && r.phase != 2) then s
  else
    let s1 := if b.queue.any (fun e => e.chan == c) then
        s.updBl t (fun b => { b with queue := b.queue.map (fun e =>
          if e.chan = c && prio < e.prio then { e with prio := prio, diff := diff } else e) })
      else s.updBl t (fun b => { b with queue := b.queue ++ [{ chan := c, prio := prio, diff := diff, at_ := s.bell }] })
    s1.syncBlk t

/-- Take a run off its slot and give back what it held (R286): the Substitute at the next pass boundary, or the bank or the
passes that it kept waiting. -/
def State.dropRun (s : State) (t c : Nat) : State :=
  let bank := c % 256 / 128
  let sub := decide (((s.bl t).runs.find? (fun r => r.chan == c)).map (·.carrier) = some Carrier.laneS)
  let held := decide (((s.bl t).runs.find? (fun r => r.chan == c)).map (·.carrier) = some Carrier.narrow)
  let s1 := s.updBl t (fun b => { b with runs := b.runs.filter (fun r => r.chan != c) })
  let give := fun (which use : Nat) (o : Ome) =>
    { o with subs := o.subs.filter (fun x => x.which != which) ++ (if use = 1 then [(⟨which, none, 0⟩ : SubChange)] else []) }
  let s2 := match c / 4096 with
    | 0 =>
      let p := 3 * t + c / 32
      let (lane, user) := match (s1.link p).scan with
        | some sc => (sc.lane, 2)
        | none => (0, 0)
      s1.setFs [(F.ESCAN_STAT_LANE p, lane), (F.ESCAN_STAT_USER p, user)]
    | 1 => s1.setF (F.CROWN_PLANE_BLOCKING t (c % 16)) 0
    | 2 => s1.updOme t (fun o =>
        if sub then give bank (s1.f (if bank = 0 then F.OME_SUB_USE_A t else F.OME_SUB_USE_B t)) o
        else if held then { o with withheld := o.withheld.erase bank } else o)
    | 3 => s1.updOme t (fun o => if sub then give 2 (s1.f (F.OME_SUB_USE_LINE t)) o else if held then { o with paused := o.paused - 1 } else o)
    | _ => s1
  s2.syncBlk t

/-- Abort the runs of a tile that a predicate names (R351): the shadow is discarded, the fail count stands, and the channel
is queued again at its former priority. A lane run that only waits for its lane to come back has ended. -/
def State.abortRuns (s : State) (t : Nat) (p : BlkRun → Bool) : State :=
  s.each ((s.bl t).runs.filter p) (fun s r =>
    if r.phase = 2 then s.dropRun t r.chan
    else
      let s1 := (s.dropRun t r.chan).setFs [(F.BLK_LAST_CHAN t, r.chan), (F.BLK_LAST_RESULT t, 3), (F.BLK_LAST_TRIGGER t, triggerOf r.prio)]
      (s1.updBl t (fun b => { b with queue := { chan := r.chan, prio := r.prio, diff := 0, at_ := s.bell } :: b.queue })).syncBlk t)

/-- The LANESET of a lane run is in force (R352): the lane is out and is measured, or is back and its run gives up its
slot. -/
def State.laneRunMapped (s : State) (p : Nat) : State :=
  let t := p / 3
  match (s.bl t).runs.find? (fun r => r.slot == p % 3 && r.phase != 1) with
  | none => s
  | some r =>
    if r.phase = 2 then s.dropRun t r.chan
    else s.updBl t (fun b => { b with runs := b.runs.map (fun x =>
      if x.chan = r.chan then { x with phase := 1, refused := 0, again := false, at_ := s.bell } else x) })

/-- The LANESET of a lane run has ended without a change: refused with 1, 3 or 4, it is tried again (R353), and so is one
that brings a lane back; any other end aborts the run. -/
def State.laneRunUnmapped (s : State) (p result : Nat) : State :=
  let t := p / 3
  match (s.bl t).runs.find? (fun r => r.slot == p % 3 && r.phase != 1) with
  | none => s
  | some r =>
    if r.phase = 2 || result = 1 || result = 3 || result = 4 then
      s.updBl t (fun b => { b with runs := b.runs.map (fun x => if x.chan = r.chan then { x with again := true, refused := x.refused + 1 } else x) })
    else s.abortRuns t (fun x => x.chan == r.chan)

/-- Calibration currency of a channel (R279): within 2 × DT and 2 × INTERVAL of its last committed run. -/
def State.current (s : State) (t c : Nat) : Bool :=
  let b := s.bl t
  match Map.find c b.temp, Map.find c b.done with
  | some tl, some at_ =>
    decide ((b.avg - tl).natAbs ≤ 2 * s.f (F.BLK_CTL_DT t)) &&
      decide (s.bell - at_ ≤ 2 * s.f (F.BLK_CTL_INTERVAL t) * 1000000)
  | _, _ => false

/-- Record a committed run of a channel: the tile temperature and the Bell time become its reference (R349). -/
def State.commitChan (s : State) (t c : Nat) : State :=
  s.updBl t (fun b => { b with
    temp := Map.put c b.avg b.temp, done := Map.put c s.bell b.done, fails := Map.del c b.fails,
    deferred := b.deferred.erase c })

/-- Queue every channel and a trace at a tile's start (R343, R356), where Blocking is enabled. -/
def State.startUpRuns (s : State) (t : Nat) : State :=
  if s.b (F.BLK_CTL_EN t) then
    s.each (allChans.filter (fun c => !s.detained t c && (c / 4096 < 2 || s.inService t))) (fun s c => s.queueChan t c 1 0)
  else s

end Sys2Proof.Machine
end

