-- ==== Sys2Proof/Machine/Effects.lean ====
section
/-! DEFINITION. Machine/Effects.lean: what crosses chapters: a port declared down (R184), distance rows (R43 to R45), Crown
flows restarted (R205), memory UNAVAILABLE (R258), engine duties moved (R31), CONTAIN fences (R403, R404), an assertion with
its reaction, and the reset of a tile (R372). -/

namespace Sys2Proof.Machine

/-! ### Ports -/

/-- A sublink goes down (R184, R459): its streams use the other sublink and its DATA flits go back to them; the in-band commands
it carried are answered there where they can be; what its link layer held is cleared. -/
def State.sublinkDown (s : State) (k : Nat) : State :=
  let n := k / 2
  let p := 240 + k
  if s.linkUp p then
    let back := s.handback p
    let other := if p % 2 = 0 then p + 1 else p - 1
    let s1 := s.answerOn p (fsrcModule (14 + n)) (if s.linkUp other then some other else none)
    let s2 := (s1.setF (F.XSITE_STAT_SUB_UP n) (s1.f (F.XSITE_STAT_SUB_UP n) - 2 ^ (k % 2))).updPr
      (fun pr => { pr with portQ := pr.portQ.filter (fun r => match r.path with | .site j => j.val != k | _ => true) })
    (s2.clearSub p).streamsPortDown p back
  else s

/-- Declare a port down (R184) and enter the given link state: DATA flits go back to their streams, buffers clear, in-band
commands are answered, the WARN record is written, and PORT_DOWN_i asserts. -/
def State.declareDown (s : State) (p state : Nat) : State :=
  let t := p / 3
  let back := s.handback p
  let s1 := ((s.answerInband p).clearLink p state).streamsPortDown p back
  let s2 := s1.abortRuns t (fun r => r.slot == p % 3)
  (s2.note 0x2 .portDown 2 (tgtPort p)).raise t (9 + p % 3)

/-- Declare down and train again at once where the shutter is open (R183); a sublink trains its mainband again. -/
def State.downAndTrain (s : State) (p : Nat) : State :=
  if p < 240 then (s.declareDown p 1).startFull p else s.sublinkDown (p - 240)

/-- A fast retrain of a port (R144), or of a sublink, which stays UP and keeps its sequences (R454). -/
def State.fastRetrain (s : State) (p : Nat) : State :=
  if p < 240 then s.beginTraining p false (s.link p).mapRate
  else s.updLink p (fun l => { l with
    train := some { full := false, rate := 0, lanes := 0, rounds := 0, ready := false, farReady := false, seen := true } })

/-! ### The distance table -/

/-- Is every Brim link between two tiles of a row unfenced? -/
def State.brimClear (s : State) (a b : Nat) : Bool :=
  (List.range (max a b - min a b)).all (fun i => s.f (F.BRIM_STAT_STATE (min a b + i) 1) != 3)

/-- A tile failed or fenced, so that its memory cannot be reached (R45): HELD, alone or with the module, or its memory
fenced. Memory UNAVAILABLE for another cause leaves the entry as it is (DESIGN CHOICE, assumption 152). -/
def State.unreachable (s : State) (t : Nat) : Bool :=
  s.f (F.FSTATE_STATE t) == 4 || s.f F.MFSTATE_STATE == 4 || (s.fence (t * 64 + 27)).on || (s.fence (t * 64 + 39)).on

/-- The TILE_DIST_n value of tile a's row (R43, R44). A reserve tile shows NO_MEMORY and its route, failed or not (DESIGN
CHOICE, assumption 151). -/
def State.distEntry (s : State) (a n : Nat) : Nat :=
  let near := tileRow a == tileRow n && s.brimClear a n
  let hops := if near then max a n - min a n else 0
  let local_ := if isCorner n then s.f F.DIST_LOCAL_LP_NS else s.f F.DIST_LOCAL_HBM_NS
  let typ := local_ + (if near then hops * s.f F.DIST_TERMS_BRIM_HOP_NS else s.f F.DIST_TERMS_CROWN_TYP_NS)
  if isReserve n then 2 ^ 21 + hops * 2 ^ 16 + (if near then 0 else 2 ^ 20)
  else if s.unreachable n then 2 ^ 22
  else typ + hops * 2 ^ 16 + (if near then 0 else 2 ^ 20)

/-- Rewrite a tile's row where it has changed, GEN odd while it lasts and even after (R45). A row that comes out as it was is
not rewritten, and its GEN stays (DESIGN CHOICE, assumption 150). -/
def State.rewriteRow (s : State) (a : Nat) : State :=
  let row := allTiles.map (fun n => s.distEntry a n)
  if (row.zip allTiles).all (fun x => (s.rd (R.TILE_DIST a x.2)).toNat == x.1) then s
  else ((row.zip allTiles).foldl (fun s x => s.wr (R.TILE_DIST a x.2) (BitVec.ofNat 32 x.1)) s).setF (F.TILE_DIST_GEN a)
    ((s.f (F.TILE_DIST_GEN a) + 2) % 2 ^ 32)

/-- Recompute the affected rows (R44). -/
def State.rewriteDist (s : State) : State := s.each allTiles State.rewriteRow

/-! ### Crown flows -/

/-- The payloads a tile has sent tile `t` without acknowledgement, or holds for it. -/
def Crown.heldFor (c : Crown) (t : Nat) : List (List Byte) :=
  (c.tx.filter (fun f => f.1 / 4 == t)).flatMap (fun f => f.2.unacked.map (fun x => x.payload) ++ f.2.queue)

/-- A tile's flows with `t` restart: `stale` are the relayed cells that name `t` as ORIG and end here (R205). -/
def Crown.forget (c : Crown) (t : Nat) (stale : List Cell) : Crown :=
  { c with
    tx := c.tx.filter (fun e => e.1 / 4 != t), rx := c.rx.filter (fun e => e.1 / 4 != t)
    relay := c.relay.filter (fun x => x.final != t), busyPeers := c.busyPeers.filter (fun x => x != t)
    stale := c.stale.filter (fun x => x.orig != t) ++ stale }

/-- A tile is reset, fenced or failed: every flow with it restarts at ESEQ 0, relayed cells to it are discarded, and FINAL will
discard the relayed cells that name it as ORIG (R205). What its peers have sent it without acknowledgement, or hold for it, goes back
to their transport layer as undeliverable. -/
def State.crownRestart (s : State) (t : Nat) : State :=
  let old := s.crown.flatMap (fun e => e.2.relay.filter (fun c => c.orig == t))
  let lost := s.crown.flatMap (fun e => if e.1 = t then [] else (e.2.heldFor t).map (fun d => (e.1, d)))
  let s1 := { s with crown := (s.crown.map (fun (e : Nat × Crown) => (e.1, if e.1 = t then ({} : Crown) else
    e.2.forget t (old.filter (fun x => x.final == e.1))))).filter (fun e => !decide (e.2 = ({} : Crown))) }
  s1.each lost (fun s x => s.emit (.undelivered x.1 x.2))

/-- Mark planes of a tile's transmitters or receivers dead, or clear the marks (R204); a new mark asserts CROWN_DEAD. -/
def State.markDead (s : State) (t : Nat) (txm rxm : Nat) : State :=
  let worse := ((txm ||| s.f (F.CROWN_DEAD_TX_DEAD t)) != s.f (F.CROWN_DEAD_TX_DEAD t)) ||
    ((rxm ||| s.f (F.CROWN_DEAD_RX_DEAD t)) != s.f (F.CROWN_DEAD_RX_DEAD t))
  let s1 := s.setFs [(F.CROWN_DEAD_TX_DEAD t, txm), (F.CROWN_DEAD_RX_DEAD t, rxm)]
  let s2 := s1.each (List.range 16) (fun s pl => s.setFs [(F.CROWN_PLANE_TX_OK t pl, 1 - txm / 2 ^ pl % 2), (F.CROWN_PLANE_RX_OK t pl, 1 - rxm / 2 ^ pl % 2)])
  if worse then s2.raise t 22 else s2

/-! ### Brim -/

/-- The other end of a Brim edge: none at the package edge (R206). -/
def brimPeer (t e : Nat) : Option (Nat × Nat) :=
  if e = 0 then (if tileCol t = 0 then none else some (t - 1, 1)) else (if tileCol t = 11 then none else some (t + 1, 0))

/-- Fence a Brim link in both directions (R209): replay buffers go, distance rows are rewritten, a WARN record. -/
def State.fenceBrim (s : State) (t e : Nat) (byCmd : Bool) : State :=
  match brimPeer t e with
  | none => s
  | some (u, d) =>
    let one := fun (s : State) (t e : Nat) =>
      ((s.setFs [(F.BRIM_STAT_STATE t e, 3), (F.BRIM_STAT_BY_CMD t e, if byCmd then 1 else 0)]).updBr t e
        (fun b => { b with kept := [], ueTimes := [], testing := false })).raise t (24 + e)
    ((one (one s t e) u d).rewriteDist).note 0x2 .brimFence 2 (tgtTile t)

/-! ### Memory -/

/-- Show in a tile's FAMC_STAT whether one FAM copy is lost, and the copy its cache fills from (R214). -/
def State.showCopies (s : State) (t : Nat) : State :=
  let (c0, c1) := s.pool.copyUp
  s.setFs [(F.FAMC_STAT_SINGLE t, if c0 && c1 then 0 else 1),
    (F.FAMC_STAT_COPY t, if !c0 && c1 then 1 else if c0 && !c1 then 0 else if tileRow t < 2 then 0 else 1)]

/-- Bring the FAM copies and the SINGLE bits in line (R214): a copy is available while its half-stack is, and each one that
fails writes a WARN record. -/
def State.setCopies (s : State) (c0 c1 : Bool) : State :=
  let s2 := (s.updPool (fun p => { p with copyUp := (c0, c1) })).each allTiles State.showCopies
  if (s.pool.copyUp.1 && !c0) || (s.pool.copyUp.2 && !c1) then (s2.note 0x6 .famSingle 2 tgtModule).raiseMod 10 else s2

/-- The FAM copy on a tile whose memory is out of reach is lost (R214). -/
def State.copyLost (s : State) (t : Nat) : State :=
  if t = 1 then s.setCopies false s.pool.copyUp.2 else if t = 25 then s.setCopies s.pool.copyUp.1 false else s

/-- The frame in hand at the end of a migration (R254): MIGRATING is cleared in the entry and in the caches, or, where the
entry names the destination already, the source is free. Answers whether the frame has moved. -/
def State.dropMigFrame (s : State) (m : Migration) : Bool × State :=
  match m.todo with
  | [] => (false, s)
  | f :: _ =>
    let e := s.famEntry f.index
    if m.phase = .queued then (false, s)
    else if e.migrating then (false, (s.setFam f.index { e with migrating := false }).dropCache f.index)
    else if m.phase = .hold then (true, (s.releaseFrame f.srcTile f.srcFrame).dropCache f.index)
    else (false, s)

/-- End the migration command in hand (R254): reservations freed, held writes released by the caller; frames already switched
stay. -/
def State.abortMig (s : State) (m : Migration) : State :=
  let (moved, s1) := s.dropMigFrame m
  let s2 := s1.updPool (fun p => { p with
    used := p.used.filter (fun e => !decide (e.2 = .reserved m.id)), migs := p.migs.filter (fun x => x.id != m.id),
    invals := p.invals.filter (fun i => !(decide (i.kind = .migHold m.id) || decide (i.kind = .migSwitch m.id))) })
  s2.finish m.run 0x8301 (if moved then m.done + 1 else m.done)

/-- Release held writes whose entry holds no longer: they resolve again in the order they were held (R252, R253). A write
that then fails is answered MEM_ERR on its stream; a host port's is counted in MEM_LOST_WR. -/
def State.releaseHeld (s : State) : State :=
  let free := s.pool.held.filter (fun h => !(s.famEntry (addrIndex h.addr)).migrating)
  let s1 := s.updPool (fun p => { p with held := p.held.filter (fun h => (s.famEntry (addrIndex h.addr)).migrating) })
  s1.each free (fun s h =>
    match s.writeFabric h.tile h.addr h.bytes with
    | (.ok s2, _) => match h.stream, h.cxl with
      | some key, _ => s2.reqDone key h.mir
      | none, some n => (match h.mir with
        | some (t, k) => if s2.mustWait h.mir then s2.holdFor t k (.cxl n) else s2.emit (.cxlDone n)
        | none => s2.emit (.cxlDone n))
      | none, none => s2
    | (.error st, s2) => match h.stream, h.cxl with
      | some key, _ =>
        let tu : Tu := { type := 5, flags := 0, stream := 0, tsn := 0, aux := st, addr := h.addr, data := [] }
        (s2.sendTu key 1 tu).reqDone key h.mir
      | none, some n => (s2.bump (F.MEM_LOST_WR h.tile)).emit (.cxlDone n)
      | none, none => s2)

/-- A tile's memory becomes UNAVAILABLE (R258): migrations over it abort, jobs and operations over it end ERR_FAULT, and its
FAM copy is lost; its frames stay mapped. -/
def State.memUnavailable (s : State) (t : Nat) : State :=
  if s.f (F.MEM_STAT_STATE t) = 0 || s.f (F.MEM_STAT_STATE t) = 4 then s
  else
    let s1 := (s.setF (F.MEM_STAT_STATE t) 4).note 0x3 .memUnavailable 2 (tgtTile t)
    let hits := s1.pool.migs.filter (fun m => m.todo.any (fun f => f.srcTile == t || f.dstTile == t))
    let s2 := (s1.each hits State.abortMig).releaseHeld
    let overs := fun (s : State) (a n : Nat) => s.rangeOn a n t
    let det := s2.faultDetail (s2.memCause t)
    let s3 := s2.endJobsOver (overs s2) stFault det t
    let s4 := s3.collOver (overs s3) stFault det
    s4.copyLost t

/-- A tile's memory is in service, its tier shown. Its FAM copy, where the other one is lost too, serves again as it is; else it
waits for the Proctor's rebuild (R214, R258). -/
def State.memStart (s : State) (t : Nat) : State :=
  if isReserve t then s
  else
    let s1 := s.setFs [(F.MEM_STAT_STATE t, 2), (F.MEM_STAT_TIER t, if isCorner t then 1 else 0)]
    if s1.famUp then s1
    else if t = 1 then s1.setCopies true false
    else if t = 25 then s1.setCopies false true
    else s1

/-- Does anything keep a tile's memory UNAVAILABLE (R258): a reaction, a fence, its temperature, a test? -/
def State.memBarred (s : State) (t : Nat) : Bool :=
  s.gated t || (s.fence (t * 64 + 27)).on || (s.fence (t * 64 + 39)).on || (s.th t).memTrip || s.b (F.TILE_TEST_STAT_MEM_OUT t)

/-- A memory that nothing keeps UNAVAILABLE any more returns to service (R258). -/
def State.memReturn (s : State) (t : Nat) : State :=
  if s.f (F.MEM_STAT_STATE t) ≠ 4 then s else if s.memBarred t then s else s.memStart t

/-! ### Engine duties (R31) -/

/-- Is a reserve tile free to stand in (R31)? Neither released nor a stand-in, its engines at work: no tile or module fault
state, its OME not failed, not in test mode (DESIGN CHOICE, assumption 149). -/
def State.freeReserve (s : State) (r : Nat) : Bool :=
  !s.b (F.TILE_ROLE_RELEASED r) && !s.b (F.TILE_ROLE_STANDIN r) && !s.b (F.TILE_ROLE_ENGINE_OUT r) &&
  s.f (F.OME_STAT_STATE r) != 8 && s.f (F.FSTATE_STATE r) == 0 && s.f F.MFSTATE_STATE == 0 && s.f (F.TILE_TEST_STAT_STATE r) == 0

/-- Start a tile's OME where it may run: served, enabled, MAT and LO lit (R287): OFF or HELD to ACQ with zero weights. -/
def State.omeStart (s : State) (t : Nat) : State :=
  let lit := fun (role : Nat) => s.f (F.LAS_STAT_STATE t role) == 2 ||
    (s.f (F.SUB_MAP_SUB0_FOR t) == role && s.f (F.LAS_STAT_STATE t 6) == 2) ||
    (s.f (F.SUB_MAP_SUB1_FOR t) == role && s.f (F.LAS_STAT_STATE t 7) == 2)
  let st := s.f (F.OME_STAT_STATE t)
  if (st == 0 || st == 1) && s.inService t && s.b (F.OME_CTL_EN t) && lit 4 && lit 5 && (s.ome t).withdrawn.length < 2 then
    (s.setFs [(F.OME_STAT_STATE t, 2), (F.OME_STAT_PILOT_LOCK t, 0),
      (F.OME_STAT_BANK_A_OK t, if (s.ome t).withdrawn.contains 0 then 0 else 1),
      (F.OME_STAT_BANK_B_OK t, if (s.ome t).withdrawn.contains 1 then 0 else 1)]).updOme t (fun o => { o with ready := [], work := none })
  else s

/-- Put a tile's OME out of a running state: the running pass is discarded (R287). -/
def State.omeStop (s : State) (t state : Nat) : State :=
  let s1 := (s.setFs [(F.OME_STAT_STATE t, state), (F.OME_STAT_PILOT_LOCK t, 0), (F.OME_STAT_BANK_A_OK t, 0),
    (F.OME_STAT_BANK_B_OK t, 0)]).updOme t (fun o => { o with ready := [], work := none, regroup := none, collPass := 0, collTries := 0,
                                                               traceReq := false, reacqReq := false, dozeReq := false })
  { s1 with work := { s1.work with jobs := s1.work.jobs.map (fun j => { j with shares := j.shares.map (fun sh =>
      if s1.server sh.tile = some t then { sh with reads := [] } else sh) }) } }

/-- The tile whose duties a tile carries now: itself, the tile it stands in for, or none. -/
def State.dutiesOf (s : State) (t : Nat) : Option Nat :=
  if s.b (F.TILE_ROLE_STANDIN t) then some (s.f (F.TILE_ROLE_STANDIN_FOR t))
  else if s.b (F.TILE_ROLE_ENGINE_OUT t) then none
  else if isReserve t && !s.b (F.TILE_ROLE_RELEASED t) then none
  else some t

/-- Move the engine duties that tile `t` carries to a free reserve tile, in the owner's row first, else end them (R31):
streams follow or fault, jobs go on by streamed staging or end, collective operations end ERR_FAULT (R335). Journaled. -/
def State.moveDuties (s : State) (t : Nat) : State :=
  match s.dutiesOf t with
  | none => s
  | some owner =>
    let cause := s.engineCause t
    let cands := [12, 23, 24, 35].filter (fun r => r != t && s.freeReserve r)
    let pick := match cands.find? (fun r => tileRow r == tileRow owner) with
      | some r => some r
      | none => cands.head?
    let role := fun (s : State) (u : Nat) (fs : List (Fld × Nat)) =>
      s.policyReg (tgtTile u) (R.TILE_ROLE u) (fs.foldl (fun w x => x.1.ins w x.2) (s.rd (R.TILE_ROLE u)))
    let s1 := if t = owner then s else role s t [(F.TILE_ROLE_STANDIN t, 0), (F.TILE_ROLE_STANDIN_FOR t, 0x3F)]
    let s2 := role s1 owner [(F.TILE_ROLE_ENGINE_OUT owner, 1)]
    match pick with
    | some r =>
      let s3 := (role s2 r [(F.TILE_ROLE_STANDIN r, 1), (F.TILE_ROLE_STANDIN_FOR r, owner)]).omeStart r
      ((s3.jobsMoved owner cause).collTileLost owner cause).rewriteDist
    | none =>
      let s3 := s2.each (s2.streamKeys.filter (fun k => k / 2 ^ 15 == owner)) (fun s k => (s.faultStream k).streamGone k)
      ((s3.jobsMoved owner cause).collTileLost owner cause).rewriteDist

/-- A reserve tile that has become free stands in, with no contexts, for a tile whose duties had ended (R31): of several, the
lowest tile number (DESIGN CHOICE, assumption 148). -/
def State.adoptOrphan (s : State) (r : Nat) : State :=
  let orphans := allTiles.filter (fun t => s.b (F.TILE_ROLE_ENGINE_OUT t) && s.server t == none)
  if !s.freeReserve r then s
  else match orphans with
    | [] => s
    | t :: _ =>
      let w := (F.TILE_ROLE_STANDIN_FOR r).ins ((F.TILE_ROLE_STANDIN r).ins (s.rd (R.TILE_ROLE r)) 1) t
      ((s.policyReg (tgtTile r) (R.TILE_ROLE r) w).omeStart r).rewriteDist

/-- Every reserve tile that is free adopts a tile whose duties had ended (R31). -/
def State.adoptFree (s : State) : State := s.each [12, 23, 24, 35] State.adoptOrphan

/-! ### CONTAIN (R403, R404) and assertions -/

/-- Fence the block of a tile source (R401). -/
def State.fenceTileBlock (s : State) (t bit : Nat) : State :=
  match bit with
  | 18 | 19 | 20 =>
    let p := 3 * t + (bit - 18)
    (s.updLink p (fun l => { l with fenced := true })).declareDown p 1
  | 23 => s.markDead t 0xFFFF 0xFFFF
  | 27 | 39 => (s.memUnavailable t).rewriteDist
  | 30 => (s.omeStop t 8).moveDuties t
  | 32 => s.collTileLost t (some (fsrcTile t 32))
  | _ => s

/-- A site goes down into a state, its rails off (R402, R454, R459): 0 OFF, 1 DISCOVER, 4 FENCED, 5 MISMATCH. -/
def State.siteDown (s : State) (n state : Nat) : State :=
  let s1 := (s.sublinkDown (2 * n)).sublinkDown (2 * n + 1)
  (s1.setFs [(F.XSITE_STAT_STATE n, state), (F.XSITE_STAT_REASON n, 0), (F.XSITE_STAT_MOD_UP n, 0), (F.XSITE_STAT_MOD_X32 n, 0), (F.XSITE_STAT_SUB_UP n, 0),
    (F.XSITE_PWR_P n, 0), (F.XSITE_PWR_LIMIT n, 0)]).updSt n (fun x => { x with
      fenced := state == 4, held := 0, lastReport := none, overs := [], steps := 0 })

/-- A site that may be discovered starts discovery (R451, R459): enabled and not fenced. -/
def State.siteStart (s : State) (n : Nat) : State :=
  if s.b (F.XSITE_CFG_EN n) && !(s.st n).fenced then s.siteDown n 1 else s

/-- A sublink that may carry traffic comes UP (R451 step 6, R454, R455): its site runs, at least one of its two modules runs, it
is not HELD, its tile is in service and the site has a node ID. -/
def State.sublinkUp (s : State) (k : Nat) : State :=
  let n := k / 2
  let st := s.f (F.XSITE_STAT_STATE n)
  let node := s.f (F.XSITE_CFG_NODE n)
  if (st == 3 || st == 6) && node != 0 && s.f (F.XSITE_STAT_MOD_UP n) / 4 ^ (k % 2) % 4 != 0 && (s.st n).held / 2 ^ (k % 2) % 2 == 0 &&
      !s.gated (portTile (240 + k)) && s.f (F.XSITE_STAT_SUB_UP n) / 2 ^ (k % 2) % 2 == 0 then
    (s.setF (F.XSITE_STAT_SUB_UP n) (s.f (F.XSITE_STAT_SUB_UP n) + 2 ^ (k % 2))).streamsPortUp (240 + k) node
  else s

/-- The sublinks of a site that may carry traffic come UP. -/
def State.sublinksUp (s : State) (n : Nat) : State := (s.sublinkUp (2 * n)).sublinkUp (2 * n + 1)

/-- The sublink of a reserve tile (R448). -/
def sublinkOf (t : Nat) : Option Nat :=
  if t = 12 then some 0 else if t = 24 then some 1 else if t = 23 then some 2 else if t = 35 then some 3 else none

/-- Fence the block of a module source (R402): the Proctor restarted with its queues held, or an expansion site fenced with
its rails off. -/
def State.fenceModuleBlock (s : State) (bit : Nat) : State :=
  match bit with
  | 0 => s.setB F.Q_GLOBAL_SWITCHOVER true
  | 14 | 15 =>
    let s1 := s.siteDown (bit - 14) 4
    (s1.each (s.st (bit - 14)).runs (fun s id => s.finish id stFault (fsrcModule bit))).updSt (bit - 14) (fun x => { x with runs := [] })
  | _ => s

/-- The CONTAIN reaction after an assertion: the block is fenced unless it already is. -/
def State.containTile (s : State) (t bit : Nat) : State :=
  let key := t * 64 + bit
  if s.sevTile t bit = 2 && tileBlock bit && !(s.fence key).on then
    (s.setFence key { s.fence key with on := true, esc := false }).fenceTileBlock t bit
  else s

/-- The same for a module source. -/
def State.containModule (s : State) (bit : Nat) : State :=
  let key := 48 * 64 + bit
  if s.sevModule bit = 2 && moduleBlock bit && !(s.fence key).on then
    (s.setFence key { s.fence key with on := true, esc := false }).fenceModuleBlock bit
  else s

/-- Does an assertion fall within ESC_WIN of its block being unfenced (R404)? -/
def State.escalates (s : State) (key : Nat) : Bool :=
  match (s.fence key).lifted with
  | some b => !(s.fence key).on && decide (s.bell < b + s.f F.MFCTL_ESC_WIN * 1000000)
  | none => false

/-! ### Tile start and reset -/

/-- The lanes, planes or lines of a role in the order they move: lane S first (R134, R137). -/
def roleUnits (r : Nat) : List Nat := if r < 3 then 16 :: List.range 16 else if r = 3 then List.range 16 else List.range 34

/-- A comb's commissioned bias: as PHO_COMMISSION left it, else the factory's (R119, R124). -/
def State.commBias (s : State) (t c : Nat) : Nat := (Map.find c (s.phNv t).bias).getD (Config.factoryBias t c).toNat

/-- Put a comb in service at its commissioned bias (R118). -/
def State.lightComb (s : State) (t c state role : Nat) : State :=
  s.setFs [(F.LAS_STAT_STATE t c, state), (F.LAS_STAT_ROLE t c, role), (F.LAS_BIAS_BIAS t c, s.commBias t c), (F.LAS_BIAS_COMM_BIAS t c, s.commBias t c)]

/-- Stop a comb. -/
def State.darkComb (s : State) (t c : Nat) : State :=
  s.setFs [(F.LAS_STAT_STATE t c, 0), (F.LAS_STAT_ROLE t c, 7), (F.LAS_BIAS_BIAS t c, 0)]

/-- A tile traces its combs against the reference, where it is present: its power at the tile, in service from −6 dBm to 0 dBm, and
the offset of line 23, held within ±1.0 GHz, are measurements (R112, R114, R115). -/
def State.traceGrid (s : State) (t : Nat) : State :=
  if s.refOn then
    let (a, s1) := s.fresh
    let (b, s2) := s1.fresh
    s2.setFs [(F.GRID_STAT_REF_OK t, 1), (F.GRID_STAT_REF_PWR t, fieldOf 16 ((a.toNat % 601 : Nat) - 600)),
      (F.GRID_STAT_LINE23_OFS t, fieldOf 12 ((b.toNat % 201 : Nat) - 100))]
  else s

/-- Light a tile's combs: each role's own comb, or the Substitute that serves it with the role's source switches on it; the rings
search, and the lines are traced (R117, R118, R121, R372 step 6). -/
def State.lightTile (s : State) (t : Nat) : State :=
  let sub := fun (u : Nat) => s.f (if u = 6 then F.SUB_MAP_SUB0_FOR t else F.SUB_MAP_SUB1_FOR t)
  let s1 := s.each (List.range 6) (fun s c => if sub 6 = c || sub 7 = c then s.darkComb t c else s.lightComb t c 2 c)
  let s2 := s1.each [6, 7] (fun s u =>
    if sub u < 6 then
      ((s.lightComb t u 2 (sub u)).setF (F.FADE_STAT_STAGE t (sub u)) 6).updPh t (fun p => { p with
        source := (roleUnits (sub u)).foldl (fun m i => Map.put (sub u * 64 + i) u m) p.source })
    else s.darkComb t u)
  let s3 := s2.each (List.range 8) (fun s c => s.setF (F.LAS_BIAS_COMM_BIAS t c) (s.commBias t c))
  (s3.updPh t (fun p => { p with ringBase := .search, rings := [], heads := [] })).traceGrid t

/-- Show a tile's channels in Detention in its registers (R350, R285). A Substitute that serves a running row or line keeps
it. -/
def State.showDetention (s : State) (t : Nat) : State :=
  let d := (s.bl t).detained
  let set := fun (p : Nat → Bool) (bitOf : Nat → Nat) => (((d.filter p).map bitOf).eraseDups.map (fun i => 2 ^ i)).foldl (· + ·) 0
  let row := fun (bank lo : Nat) => set (fun c => c / 4096 == 2 && c % 256 / 128 == bank && decide (lo ≤ c % 128) && decide (c % 128 < lo + 32)) (fun c => c % 128 - lo)
  let firstRow := fun (bank : Nat) => d.find? (fun c => c / 4096 == 2 && c % 256 / 128 == bank && decide (c % 128 < 64))
  let rows := fun (bank : Nat) => d.countP (fun c => c / 4096 == 2 && c % 256 / 128 == bank)
  let line := d.find? (fun c => c / 4096 == 3 && decide (c % 64 < 32))
  let wd := (List.range 2).filter (fun b => 2 ≤ rows b)
  let s1 := s.setFs [(F.OME_DET_A_LO t, row 0 0), (F.OME_DET_A_HI t, row 0 32), (F.OME_DET_B_LO t, row 1 0), (F.OME_DET_B_HI t, row 1 32),
    (F.OME_DET_LINE t, set (fun c => c / 4096 == 3 && decide (c % 64 < 32)) (fun c => c % 64))]
  let sub := fun (unit use : Fld) (none_ : Nat) (d : Option Nat) (s : State) =>
    match d with
    | some u => s.setFs [(unit, u), (use, 2)]
    | none => if s.f use = 2 then s.setFs [(unit, none_), (use, 0)] else s
  let s2 := sub (F.OME_SUB_SUBLINE t) (F.OME_SUB_USE_LINE t) 0x3F (line.map (fun c => c % 64))
    (sub (F.OME_SUB_SUBROW_B t) (F.OME_SUB_USE_B t) 0x7F ((firstRow 1).map (fun c => c % 128))
      (sub (F.OME_SUB_SUBROW_A t) (F.OME_SUB_USE_A t) 0x7F ((firstRow 0).map (fun c => c % 128)) s1))
  let s3 := (s2.setF (F.OME_STAT_DEGRADED t) (if (firstRow 0).isSome || (firstRow 1).isSome || !wd.isEmpty then 1 else 0)).each (List.range 3)
    (fun s i => s.setF (F.BLK_DET_PORT_LANES t i) (set (fun c => c / 4096 == 0 && c % 4096 / 32 == i) (fun c => c % 32)))
  let dead := set (fun c => c / 4096 == 1) (fun c => c % 16)
  (s3.each (List.range 16) (fun s pl => s.setF (F.CROWN_PLANE_DETENTION t pl) (dead / 2 ^ pl % 2))).updOme t (fun o => { o with withdrawn := wd })

/-- The marks that the tile's own state asks for (R204, R350, R357, R401): all planes of a disabled or fenced Crown, all
transmitters after three failed traces, and the transmitters in Detention. -/
def State.dueMarks (s : State) (t : Nat) : Nat × Nat :=
  let det := (s.bl t).detained.filter (fun c => c / 4096 == 1)
  if (s.fence (t * 64 + 23)).on || !s.b (F.CROWN_CTL_EN t) then (0xFFFF, 0xFFFF)
  else if (s.bl t).traceDead then (0xFFFF, 0)
  else ((List.range 16).foldl (fun m p => if det.any (fun c => c % 16 == p) then m ||| 2 ^ p else m) 0, 0)

/-- Re-apply Detention of a tile's channels, and its marks in the dead map (R350, R204). -/
def State.reapplyDetention (s : State) (t : Nat) : State :=
  let due := s.dueMarks t
  (s.showDetention t).markDead t due.1 due.2

/-- A tile start loads the microcode image that the tile's SEC_UCODE_NEW bit names (R475): 1 the staged one. Its measurement is
kept; where all 48 bits are 1 the staged slot becomes current. UCODE_MIXED shows whether tiles differ (R478). -/
def State.loadUcode (s : State) (t : Nat) : State :=
  let new := fun (s : State) (t : Nat) => if t < 32 then s.bit R.SEC_UCODE_NEW_LO t else s.bit R.SEC_UCODE_NEW_HI (t - 32)
  let slot := 4 + (if new s t then 1 - s.sec.ucode else s.sec.ucode)
  let s1 := s.updSec (fun x => { x with tileMeas := match Map.find slot x.slots with
    | some o => Map.put t (sha256 o) x.tileMeas
    | none => Map.del t x.tileMeas })
  let mixed := allTiles.any (fun u => decide (Map.find u s1.sec.tileMeas ≠ Map.find 0 s1.sec.tileMeas))
  let s2 := s1.setB F.SEC_STAT_UCODE_MIXED mixed
  if allTiles.all (new s2) then
    ((s2.wr R.SEC_UCODE_NEW_LO 0).wr R.SEC_UCODE_NEW_HI 0).updSec (fun x => { x with ucode := 1 - x.ucode })
  else s2

/-- Class T and K registers of a tile to default (R13, R14, R372 step 5). Rows of class P, C, W and N stay. -/
def State.tileDefaults (s : State) (t : Nat) : State :=
  ((s.resetRegs (fun pl r => pl.tile == t && (decide (r.cls = .T) || decide (r.cls = .K)))).setF (F.GRID_STAT_GRID_OFS t)
    (s.f F.STRAP_STAT_GRID)).showCopies t

/-- A tile starts after a reset or D2 (R372 steps 5 to 8): class T and K registers at default, journal state re-applied
(Substitutes, Brim fences, Detention), combs lit and rings searching, the start-up reference trace due (R356), Blocking's start-up
runs queued, memory back, the Crown in ALIGN (R192), Brim in service, and the ports dark or sending beacons until they train. -/
def State.startTile (s : State) (t : Nat) : State :=
  let subMap := s.rd (R.SUB_MAP t)
  let brim := fun (e : Nat) => if s.f (F.BRIM_STAT_STATE t e) = 3 then (s.rd (R.BRIM_STAT t e)).toNat else if (brimPeer t e).isSome then 2 else 0
  let s1 := (s.tileDefaults t).wr (R.SUB_MAP t) subMap
  let s2 := (s1.wr (R.BRIM_STAT t 0) (BitVec.ofNat 32 (brim 0))).wr (R.BRIM_STAT t 1) (BitVec.ofNat 32 (brim 1))
  let safe := s.gated t
  let test := s.inTest t || s.standAlone
  let lit := fun (s : State) => if safe then s else s.lightTile t
  let own := t == s.clockMaster && decide (3 ≤ s.clocks.phase)
  let s3 := (lit ((if own then s2 else s2.loadUcode t).updPh t (fun _ => {}))).updOme t (fun _ => {})
  let s4 := (s3.reapplyDetention t).setF (F.CROWN_STAT_STATE t) (if s.b (F.CROWN_CTL_EN t) then 1 else 0)
  let s5 := s4.updBl t (fun b => { b with
    runs := [], tracing := false, traceCrown := false, traceDue := some s.bell, tracePrio := 1, traceTemp := none, traceAt := none, traceTried := none })
  let s6 := s5.each (portsOf t) (fun s p =>
    let dark := !s.b (F.LINK_CTL_EN p) || s.node == 0 || test || safe
    let s1 := (s.setFs [(F.LINK_STAT_STATE p, if s.b (F.LINK_CTL_EN p) && !test then 1 else 0), (F.EYESAFE_STATE t (p % 3), if dark then 2 else 1)]).updLink p
      (fun l => { ({} : Link) with fenced := l.fenced, inband := l.inband, eq := l.eq })
    if dark then s1 else s1.emit (.beacon p (s1.beaconWord p)))
  let s7 := if isReserve t then s6
    else if s.memBarred t then (s6.setFs [(F.MEM_STAT_STATE t, 4), (F.MEM_STAT_TIER t, if isCorner t then 1 else 0)]).copyLost t
    else s6.memStart t
  let s8 := if test || (isReserve t && !s7.inService t) then s7.setF (F.OME_STAT_STATE t) 1
    else if safe then s7 else s7.omeStart t
  let s9 : State := if test then s8 else s8.startUpRuns t
  let s10 : State := match sublinkOf t with | some k => s9.sublinksUp (k / 2) | none => s9
  (({ s10 with therm := Map.del t s10.therm }).syncDuty t).rewriteDist

/-- Steps 2 to 4 of a tile reset (R372): ports down and shut, flows restarted, jobs and operations that use the tile ended
ERR_FAULT with FAIL_TILE, memory UNAVAILABLE, Blocking runs aborted. -/
def State.stopTile (s : State) (t : Nat) (cause : Option Nat) : State :=
  let s0 := match sublinkOf t with | some k => s.sublinkDown k | none => s
  let s1 := s0.each (portsOf t) (fun s p => (s.declareDown p (if s.b (F.LINK_CTL_EN p) then 1 else 0)).shut p)
  let s2 := (s1.crownRestart t).abortRuns t (fun _ => true)
  let s3 := s2.each (s2.work.jobs.filter (fun j => j.live && j.shares.any (fun sh => s2.server sh.tile == some t)))
    (fun s j => s.endJob j.id stFault (s.faultDetail cause) t)
  let s4 := match s3.dutiesOf t with | some o => s3.collTileLost o cause | none => s3
  (s4.omeStop t 0).memUnavailable t

/-- Lift every CONTAIN fence of a tile (R404: a tile reset lifts them). -/
def State.liftFences (s : State) (t : Nat) : State :=
  s.each ((s.faults.fences.filter (fun e => e.1 / 64 == t && e.2.on)).map (·.1)) (fun s k =>
    let s1 := s.setFence k { s.fence k with on := false, lifted := some s.bell }
    if k % 64 = 18 || k % 64 = 19 || k % 64 = 20 then s1.updLink (3 * t + (k % 64 - 18)) (fun l => { l with fenced := false }) else s1)

/-- A tile leaves D1 or D2, or an entry, by a reset (R375): its sleep bit goes, and the commands that wait for its power
state end. -/
def State.dropSleep (s : State) (t : Nat) : State :=
  let s1 := s.each (s.clocks.powerRuns.filter (fun e => e.1 == t)) (fun s e => s.finish e.2.1 stState 0)
  ({ s1 with crownMap := { s1.crownMap with asleep := s1.crownMap.asleep.filter (fun x => x != t) } }).updClk (fun c => { c with
    entering := Map.del t c.entering, wake := c.wake.filter (fun x => x != t), sleep := Map.del t c.sleep,
    exitAt := Map.del t c.exitAt, wantD2 := c.wantD2.filter (fun x => x != t), powerRuns := c.powerRuns.filter (fun e => e.1 != t) })

/-- A whole tile reset (R372). -/
def State.resetTile (s : State) (t cause : Nat) : State :=
  let s1 := (((s.stopTile t (s.engineCause t)).liftFences t).clearCache t).dropSleep t
  ((s1.startTile t).setFs [(F.TILE_RST_CAUSE_LAST t, cause), (F.TILE_RST_CAUSE_COUNT t, min (s.f (F.TILE_RST_CAUSE_COUNT t) + 1) (2 ^ (F.TILE_RST_CAUSE_COUNT t).width - 1)),
    (F.TILE_PWR_STAT_STATE t, 0)]).adoptFree

/-! ### Assertions -/

/-- A tile source asserts: line, latch, record, SAFE reaction or CONTAIN fence, or the escalation of R404 to a tile
reset. -/
def State.assertTile (s : State) (t bit : Nat) (v : Int := 0) (hold : Bool := false) : State :=
  let esc := s.sevTile t bit == 2 && tileBlock bit && s.escalates (t * 64 + bit)
  let (s1, hit) := s.lineTile t bit hold v
  if !hit then s1
  else if esc then (s1.record .escalation 3 (tgtTile t)).resetTile t 3
  else s1.containTile t bit

/-- A module source asserts. The escalation of PROCTOR_WDT is its own row's; that of Xn_FAIL leaves the site fenced for
good. -/
def State.assertModule (s : State) (bit : Nat) (v : Int := 0) (hold : Bool := false) : State :=
  let esc := s.sevModule bit == 2 && moduleBlock bit && s.escalates (48 * 64 + bit)
  let (s1, hit) := s.lineMod bit hold v
  if !hit then s1
  else
    let s2 := s1.containModule bit
    if esc then
      let k := 48 * 64 + bit
      (s2.record .escalation 3 tgtModule).setFence k { s2.fence k with esc := true }
    else s2

end Sys2Proof.Machine
end

