-- ==== Sys2Proof/Machine/PowerOps.lean ====
section
/-! DEFINITION. Machine/PowerOps.lean: a tile's power state as other chapters ask for it (R377 to R384): requests, wakes
and the Crown's sleep mask (R204). -/

namespace Sys2Proof.Machine

/-- TILE_PWR_STAT.STATE: 0 A0, 1 ENTERING, 2 D1, 3 D2, 4 EXITING, 5 RESET. -/
def State.pwr (s : State) (t : Nat) : Nat := s.f (F.TILE_PWR_STAT_STATE t)

/-- Is a tile in D1, D2 or on the way out of one? -/
def State.dozing (s : State) (t : Nat) : Bool := let x := s.pwr t; x == 2 || x == 3 || x == 4

/-- Set or clear a tile's sleep bit in the module map (R204). -/
def State.setAsleep (s : State) (t : Nat) (b : Bool) : State :=
  let l := s.crownMap.asleep.filter (fun x => x != t)
  { s with crownMap := { s.crownMap with asleep := if b then t :: l else l } }.setB (F.CROWN_STAT_ASLEEP t) b

/-- A wake request (R377, R384): a tile in D1 or D2 begins its exit; during an entry the exit follows the entry at
once. -/
def State.requestWake (s : State) (t : Nat) : State :=
  if s.clocks.standby then s
  else match s.pwr t with
  | 2 => (s.setF (F.TILE_PWR_STAT_STATE t) 4).updClk (fun c => { c with exitAt := Map.put t s.bell c.exitAt })
  | 3 => (s.setF (F.TILE_PWR_STAT_STATE t) 4).updClk (fun c => { c with exitAt := Map.put t s.bell c.exitAt })
  | 1 => s.updClk (fun c => { c with wake := t :: c.wake.filter (fun x => x != t) })
  | _ => s

/-- A tile in A0 begins to enter D1 (2) or D2 (3) (R377). -/
def State.beginEntry (s : State) (t mode : Nat) : State :=
  if s.pwr t = 0 && s.f (F.FSTATE_STATE t) = 0 && !s.inTest t then
    (s.setFs [(F.TILE_PWR_STAT_STATE t, 1), (F.TILE_PWR_STAT_BLOCK t, 0)]).updClk (fun c => { c with entering := Map.put t mode c.entering })
  else s

/-- MODE changes (R377, R384): a tile in A0 begins the entry the new MODE asks for; a tile in D1 or D2, or entering one,
wakes, unless the new MODE asks for the state it is in. -/
def State.applyMode (s : State) (t : Nat) : State :=
  let m := s.f (F.TILE_PWR_CTL_MODE t)
  if s.pwr t = 0 then (if 2 ≤ m then s.beginEntry t m else s)
  else if Map.get 0 s.clocks.entering t = m || Map.get 0 s.clocks.sleep t = m then s
  else s.requestWake t

/-! ### The power ceiling (R507) -/

/-- The part's maximum input power (R524). -/
def State.maxInput (s : State) : Nat :=
  match s.ident.part with
  | .a0 => 2500 | .a1 => 2500 | .n0 => 2050 | .n1 => 2050

/-- The values of R507 that apply, with their codes. -/
def State.ceilings (s : State) : List (Nat × Nat) :=
  let vin := fun (x : Nat) => if x = 0 then s.f F.PWR_VIN_A_VIN else s.f F.PWR_VIN_B_VIN
  let out := fun (x : Nat) => s.power.feedLost.contains x || s.power.breakers.contains x
  [(s.f F.PWR_CTL_CAP_W, 0)] ++ (match s.power.coolant with | some w => [(w, 1)] | none => []) ++
  (if out 0 && !out 1 then [(29 * vin 1 / 100, 2)] else if out 1 && !out 0 then [(29 * vin 0 / 100, 2)] else []) ++
  (if s.power.convFail.isEmpty then [] else [(2154, 3)])

/-- The lowest ceiling below the part's maximum, the lower code where two are equal (R507). -/
def State.updCeil (s : State) : State :=
  let best := s.ceilings.foldl (fun (m : Nat × Nat) c => if c.1 < m.1 then c else m) (s.maxInput, 4)
  s.setFs [(F.PWR_STAT_CEIL_W, min best.1 4095), (F.PWR_STAT_CEIL_SRC, best.2)]

/-- Show the feeds and converters in PWR_STAT. -/
def State.syncFeeds (s : State) : State :=
  let ok := fun (x : Nat) => !s.power.feedLost.contains x && !s.power.breakers.contains x
  (s.setFs [(F.PWR_STAT_FEED_A_OK, if ok 0 then 1 else 0), (F.PWR_STAT_FEED_B_OK, if ok 1 then 1 else 0),
    (F.PWR_STAT_CONV_OK, ((List.range 4).filter (fun k => !s.power.convFail.contains k)).foldl (fun n k => n + 2 ^ k) 0)]).updCeil

end Sys2Proof.Machine
end

