-- ==== Sys2Proof/Machine/Crown.lean ====
section
/-! DEFINITION. Machine/Crown.lean: the Crown fabric and the Brim links (chapter 06): the Timetable, bursts and cells, flows
and their recovery, relay, Brim frames, fencing and the unfence test. -/

namespace Sys2Proof.Machine

/-! ### The Timetable (R192, R193) -/

/-- Colour of plane p in slot t. -/
def colourOf (p t : Nat) : Nat := 1 + (16 * (t % 3) + p) % 47

/-- The tile that tile `x` reaches on plane p in slot t. -/
def destOf (x p t : Nat) : Nat := (x + colourOf p t) % 48

/-- The tile whose burst reaches tile `y` on plane p in slot t. -/
def sourceTile (y p t : Nat) : Nat := (y + 48 - colourOf p t) % 48

/-- The plane-slots of a pair as (phase, plane): one, and a second for the next tile (R193). -/
def pairSlots (x y : Nat) : List (Nat × Nat) :=
  let o := (y + 48 - x) % 48
  if o = 0 then [] else if o = 1 then [(0, 0), (2, 15)] else [((o - 1) / 16, (o - 1) % 16)]

/-! ### Cells on the wire (R195, R196) -/

/-- The cell of a new payload, which is cut at 232 bytes. -/
def dataCell (orig final vc eseq : Nat) (payload : List Byte) : Cell :=
  { ctype := 1, cvc := vc, orig := orig, final := final, eseq := eseq, payload := payload.take 232 }

/-- A cell with no payload: EMPTY (0) or PROBE (2). -/
def bareCell (ctype x y : Nat) : Cell := { ctype := ctype, cvc := 0, orig := x, final := y, eseq := 0, payload := [] }

/-- The acknowledgement that rides with a cell: EACK, whether it is valid, and ENAK (R197). -/
structure Eack where
  eack : Nat := 0
  valid : Bool := false
  enak : Bool := false
  deriving DecidableEq, Repr

/-- The 240 bytes of a cell: header, CRC and payload (R196). -/
def Cell.bytes (c : Cell) (a : Eack) (rbusy : Bool) : List Byte :=
  let b := fun (x : Bool) => if x then 1 else 0
  let h := c.ctype + c.cvc * 2 ^ 3 + c.orig * 2 ^ 5 + c.final * 2 ^ 11 + c.eseq % 1024 * 2 ^ 17 + a.eack % 1024 * 2 ^ 27 +
    b a.valid * 2 ^ 37 + b a.enak * 2 ^ 38 + b rbusy * 2 ^ 39 + c.payload.length * 2 ^ 40
  let head := leBytes 6 h
  let body := fitBytes 232 c.payload
  head ++ leBytes 2 (crc16 (head ++ body)) ++ body

/-- Does a cell's CRC pass (R196)? -/
def cellCrcOk (bs : List Byte) : Bool := crc16 (bs.take 6 ++ bs.drop 8) == leAt bs 6 2

/-- The cell, acknowledgement and RBUSY in 240 bytes whose CRC passes; none for a cell that is dropped and counted. -/
def Cell.parse (bs : List Byte) : Option (Cell × Eack × Bool) :=
  let h := leAt bs 0 8
  let c : Cell := { ctype := h % 8, cvc := h / 2 ^ 3 % 4, orig := h / 2 ^ 5 % 64, final := h / 2 ^ 11 % 64,
                    eseq := h / 2 ^ 17 % 1024, payload := (bs.drop 8).take (min (h / 2 ^ 40 % 256) 232) }
  if !cellCrcOk bs || 2 < c.ctype || c.cvc = 3 || c.orig = c.final || 48 ≤ c.orig || 48 ≤ c.final then none
  else some (c, { eack := h / 2 ^ 27 % 1024, valid := h.testBit 37, enak := h.testBit 38 }, h.testBit 39)

/-- The body of a burst: three codewords of 240 data bytes and 16 check bytes (R195). -/
def burstBody (cells : List (List Byte)) : List Byte := cells.flatMap (fun c => c ++ rsCheck c)

/-! ### Flows -/

/-- Key of a flow at one end: the other tile × 4 + VC. -/
def flowKey (other vc : Nat) : Nat := other * 4 + vc

/-- Cells a sender may have unacknowledged (R199). -/
def flowWindow (vc : Nat) : Nat := if vc = 2 then 8 else 256

/-- A flow that tile x sends. -/
def State.txFlow (s : State) (x y vc : Nat) : TxFlow := Map.get {} (s.cr x).tx (flowKey y vc)
/-- Change a flow that tile x sends. -/
def State.updTx (s : State) (x y vc : Nat) (f : TxFlow → TxFlow) : State :=
  s.updCr x (fun c => { c with tx := Map.upd {} c.tx (flowKey y vc) f })
/-- A flow that tile x receives. -/
def State.rxFlow (s : State) (x orig vc : Nat) : RxFlow := Map.get {} (s.cr x).rx (flowKey orig vc)
/-- Change a flow that tile x receives. -/
def State.updRx (s : State) (x orig vc : Nat) (f : RxFlow → RxFlow) : State :=
  s.updCr x (fun c => { c with rx := Map.upd {} c.rx (flowKey orig vc) f })

/-- Does the flow between two tiles take the Brim links: one row, none fenced between (R37)? -/
def State.viaBrim (s : State) (x y : Nat) : Bool := tileRow x == tileRow y && s.brimClear x y

/-- The acknowledgement that tile x owes tile y on a VC (R197). -/
def State.eackTo (s : State) (x y vc : Nat) : Eack :=
  let r := s.rxFlow x y vc
  { eack := (r.next + 1023) % 1024, valid := r.acked, enak := r.enak }

/-- The acknowledgement has been sent. -/
def State.eackSent (s : State) (x y vc : Nat) : State := s.updRx x y vc (fun r => { r with changed := false, enak := false })

/-- Is a tile asleep in the module map? -/
def State.asleep (s : State) (t : Nat) : Bool := s.crownMap.asleep.contains t

/-- Is plane p dead for the pair: its transmitter or its receiver (R204)? -/
def State.planeDead (s : State) (x y p : Nat) : Bool :=
  (s.f (F.CROWN_DEAD_TX_DEAD x)).testBit p || (s.f (F.CROWN_DEAD_RX_DEAD y)).testBit p

/-- Is every plane-slot of the pair dead? -/
def State.pairDead (s : State) (x y : Nat) : Bool := (pairSlots x y).all (fun ps => s.planeDead x y ps.2)

/-- The next new cells of a flow, at most `n`, as its window allows (R199). -/
def State.newCells (s : State) (x y vc n : Nat) : List Cell × State :=
  let f := s.txFlow x y vc
  let k := min n (min f.queue.length (flowWindow vc - f.unacked.length))
  let cells := (f.queue.take k).mapIdx (fun i d => dataCell x y vc ((f.next + i) % 1024) d)
  if k = 0 then ([], s)
  else (cells, s.updTx x y vc (fun f => { f with
    next := (f.next + k) % 1024, queue := f.queue.drop k, unacked := f.unacked ++ cells,
    since := if f.unacked.isEmpty then s.crownMap.slot else f.since }))

/-- The cell of a flow that is due again (R200). -/
def State.againCell (s : State) (x y vc : Nat) : List Cell × State :=
  let f := s.txFlow x y vc
  match f.unacked with
  | c :: _ => if f.resend then ([c], (s.updTx x y vc (fun f => { f with resend := false, since := s.crownMap.slot })).bump (F.CROWN_CNT_RETX x)) else ([], s)
  | [] => ([], s)

/-- Bring CROWN_RELAY_STAT in line with the relay buffer and its marks (R203). -/
def State.syncRelay (s : State) (t : Nat) : State :=
  let n := (s.cr t).relay.length
  s.setFs [(F.CROWN_RELAY_STAT_OCC t, n),
    (F.CROWN_RELAY_STAT_RBUSY t, if 6144 < n then 1 else if n < 4096 then 0 else s.f (F.CROWN_RELAY_STAT_RBUSY t))]

/-- Take the first `n` elements that satisfy `p` out of a list. -/
def takeWhere {α : Type} (p : α → Bool) : Nat → List α → List α × List α
  | 0, l => ([], l)
  | _, [] => ([], [])
  | n + 1, a :: l =>
    if p a then let (x, y) := takeWhere p n l; (a :: x, y)
    else let (x, y) := takeWhere p (n + 1) l; (x, a :: y)

/-- Relayed cells due to tile y on a VC, at most `n` (R203). -/
def State.relayCells (s : State) (x y vc n : Nat) : List Cell × State :=
  let (go, stay) := takeWhere (fun (c : Cell) => c.final == y && c.cvc == vc) n (s.cr x).relay
  if go.isEmpty then ([], s)
  else (go, ((s.updCr x (fun c => { c with relay := stay })).syncRelay x).bump (F.CROWN_CNT_RELAY_FWD x) go.length)

/-- The cells of one VC due to tile y, at most `n`: retransmissions, relayed cells, new cells (R197). Own cells of a flow
that takes the Brim links are not the Crown's. -/
def State.cellsOfVc (s : State) (x y vc n : Nat) : List Cell × State :=
  let own := !s.viaBrim x y
  let (a, s1) := if own && n != 0 then s.againCell x y vc else ([], s)
  let (b, s2) := s1.relayCells x y vc (n - a.length)
  let (c, s3) := if own then s2.newCells x y vc (n - a.length - b.length) else ([], s2)
  (a ++ b ++ c, s3)

/-- The cells due to tile y directly: VC2, then VC1, then VC0 (R197). -/
def State.cellsTo (s : State) (x y n : Nat) : List Cell × State :=
  let (a, s1) := s.cellsOfVc x y 2 n
  let (b, s2) := s1.cellsOfVc x y 1 (n - a.length)
  let (c, s3) := s2.cellsOfVc x y 0 (n - a.length - b.length)
  (a ++ b ++ c, s3)

/-- May a cell for `d` be relayed by tile `i` out of tile x on plane p (R202)? -/
def State.canRelay (s : State) (x i d p : Nat) : Bool :=
  i != x && i != d && !(s.cr x).busyPeers.contains i && !s.asleep i && !s.asleep d && s.f (F.CROWN_STAT_STATE i) == 2 &&
  !s.planeDead x i p && !s.pairDead i d

/-- The flow that the next free position of a burst to intermediate `i` goes to: a Crown flow on VC0 or VC1 with more than
RELAY_THR new cells waiting, or whose own plane-slots are dead, the most cells waiting first, then the lower FINAL, then
VC1 (R202, R204). -/
def State.relayPick (s : State) (x i p : Nat) : Option (Nat × Nat) :=
  let fit := (s.cr x).tx.filter (fun e =>
    let y := e.1 / 4
    let vc := e.1 % 4
    vc < 2 && !e.2.queue.isEmpty && e.2.unacked.length < flowWindow vc && !s.viaBrim x y && s.canRelay x i y p &&
    (s.f (F.CROWN_CTL_RELAY_THR x) < e.2.queue.length || s.pairDead x y))
  (fit.foldl (fun (m : Option (Nat × TxFlow)) e =>
    match m with
    | none => some e
    | some b =>
      if b.2.queue.length < e.2.queue.length || (b.2.queue.length == e.2.queue.length && b.1 / 4 == e.1 / 4 && b.1 % 4 < e.1 % 4)
      then some e else some b) none).map (fun e => (e.1 / 4, e.1 % 4))

/-- Fill free positions of a burst to intermediate `i` with cells to relay (R202). -/
def State.relayFill (x i p : Nat) : Nat → State → List Cell × State
  | 0, s => ([], s)
  | n + 1, s =>
    match s.relayPick x i p with
    | none => ([], s)
    | some (y, vc) =>
      let (c, s1) := s.newCells x y vc 1
      let (r, s2) := State.relayFill x i p n (s1.bump (F.CROWN_CNT_RELAY_OUT x))
      (c ++ r, s2)

/-- Does a tile signal RBUSY in the cells that it sends: its relay buffer is above its mark (R203), or heat limits its Crown? -/
def State.rbusy (s : State) (x : Nat) : Bool := s.b (F.CROWN_RELAY_STAT_RBUSY x) || decide (s.f (F.TTH_DUTY_CROWN_PCT x) < 100)

/-- Launch a burst from x to y on plane p: the cells at positions 0 to 2 with the acknowledgements of VC 0 to 2, positions
without a cell holding `pad` (R197). -/
def State.launch (s : State) (x y p pad : Nat) (cells : List Cell) : State :=
  let three := cells ++ List.replicate (3 - cells.length) (bareCell pad x y)
  let busy := s.rbusy x
  let body := burstBody ((three.take 3).mapIdx (fun k c => c.bytes (s.eackTo x y k) busy))
  ((s.each [0, 1, 2] (fun s k => s.eackSent x y k)).updCr x (fun c => { c with last := Map.put y s.crownMap.slot c.last })).emit
    (.burst x y p body)

/-- Is a tile in ALIGN, with PROBEs exchanged (R192, R198)? -/
def State.probing (s : State) (t : Nat) : Bool := s.f (F.CROWN_STAT_STATE t) == 1 && (s.cr t).align.isSome

/-- May tile x transmit on plane p: its Crown enabled and in RUN, or in ALIGN with PROBEs exchanged, no Blocking run on the channel
and no FAB move of the plane, the write gates open (R192, R204)? -/
def State.mayTransmit (s : State) (x p : Nat) : Bool :=
  (s.f (F.CROWN_STAT_STATE x) == 2 || s.probing x) && s.b (F.CROWN_CTL_EN x) && !s.asleep x && !s.b (F.CROWN_PLANE_BLOCKING x p) &&
  !s.gated x && decide (Map.get 0 (s.ph x).quiet p ≤ s.crownMap.slot)

/-- One transmitter's slot: PROBEs to and from a tile that leaves ALIGN, else direct cells, relayed traffic, acknowledgements; dark
where nothing is due (R198). -/
def State.planeSlot (s : State) (x p : Nat) : State :=
  let y := destOf x p s.crownMap.slot
  if !s.mayTransmit x p || s.planeDead x y p || s.asleep y then s
  else if s.probing x || s.probing y then s.launch x y p 2 []
  else if s.f (F.CROWN_STAT_STATE y) = 1 then s
  else
    let (direct, s1) := s.cellsTo x y 3
    let (relay, s2) := if s1.b (F.CROWN_CTL_RELAY_EN x) then State.relayFill x y p (3 - direct.length) s1 else ([], s1)
    let cells := direct ++ relay
    if cells.isEmpty && !([0, 1, 2].any (fun k => (s.rxFlow x y k).changed)) then s else s2.launch x y p 0 cells

/-! ### Brim frames (R207) -/

/-- An end-to-end acknowledgement record of a frame's link header. -/
structure AckRec where
  orig : Nat := 0
  final : Nat := 0
  vc : Nat := 0
  ack : Eack := {}
  deriving DecidableEq, Repr

/-- The 16-byte link header: the fields in the order of R207 from bit 0 up. -/
def brimHeader (seq ack : Nat) (nak : Bool) (type : Nat) (r : AckRec) : List Byte :=
  let b := fun (x : Bool) => if x then 1 else 0
  leBytes 16 (seq % 4096 + ack % 4096 * 2 ^ 12 + b nak * 2 ^ 24 + type * 2 ^ 25 + r.orig * 2 ^ 28 + r.final * 2 ^ 34 + r.vc * 2 ^ 40 +
    r.ack.eack % 1024 * 2 ^ 42 + b r.ack.valid * 2 ^ 52 + b r.ack.enak * 2 ^ 53)

/-- Put a frame on a Brim edge, with the link acknowledgement of its receive direction. -/
def State.putFrame (s : State) (t e type seq : Nat) (r : AckRec) (cell : List Byte) : State :=
  let b := s.br t e
  (s.updBr t e (fun b => { b with nak := false })).emit
    (.frame t e (brimHeader seq ((b.rxSeq + 4095) % 4096) b.nak type r ++ fitBytes 240 cell))

/-- The edge of tile t towards tile y of its row. -/
def edgeTo (t y : Nat) : Nat := if t < y then 1 else 0

/-- Send the waiting cells of an edge while the replay buffer has room: 128 frames (R207). -/
def State.pumpEdge (t e : Nat) : Nat → State → State
  | 0, s => s
  | n + 1, s =>
    let b := s.br t e
    match b.waitq with
    | [] => s
    | c :: rest =>
      if 128 ≤ b.kept.length || s.f (F.BRIM_STAT_STATE t e) ≠ 2 || b.testing then s
      else
        let far := { orig := c.final, final := t, vc := c.cvc, ack := s.eackTo t c.final c.cvc : AckRec }
        let s1 := (s.putFrame t e 0 b.txSeq far (c.bytes {} (s.rbusy t))).eackSent t c.final c.cvc
        State.pumpEdge t e n (s1.updBr t e (fun b =>
          { b with waitq := rest, kept := b.kept ++ [(b.txSeq, c)], txSeq := (b.txSeq + 1) % 4096 }))

/-- Send a cell over a Brim edge. -/
def State.sendEdge (s : State) (t e : Nat) (c : Cell) : State :=
  let s1 := s.updBr t e (fun b => { b with waitq := b.waitq ++ [c] })
  State.pumpEdge t e (s1.br t e).waitq.length s1

/-- Send an acknowledgement record over a Brim edge in an ACK frame. -/
def State.sendAckRec (s : State) (t e : Nat) (r : AckRec) : State :=
  if s.f (F.BRIM_STAT_STATE t e) = 2 && !(s.br t e).testing then s.putFrame t e 1 (s.br t e).txSeq r [] else s

/-- Send the own cells of a same-row flow that its window allows (R199, R37); cells for a sleeping tile wait (R204). -/
def State.pumpFlow (s : State) (x y vc : Nat) : State :=
  if s.viaBrim x y && !s.asleep y then
    let (again, s1) := s.againCell x y vc
    let (fresh, s2) := s1.newCells x y vc 256
    s2.each (again ++ fresh) (fun s c => s.sendEdge x (edgeTo x y) c)
  else s

/-- An acknowledgement of the flow x → y arrives at x: cells up to EACK are taken off, and ENAK asks for the oldest cell
left again (R200). -/
def State.takeEack (s : State) (x y vc : Nat) (a : Eack) : State :=
  if !a.valid && !a.enak then s
  else
    let f := s.txFlow x y vc
    let base := match f.unacked with | c :: _ => c.eseq | [] => f.next
    let n := (a.eack + 1 + 1024 - base) % 1024
    let k := if a.valid && n ≤ f.unacked.length then n else 0
    let fits := a.enak && (k != 0 || n == 0) && k < f.unacked.length
    (s.updTx x y vc (fun f => { f with
      unacked := f.unacked.drop k, resend := fits || (f.resend && k == 0), since := if k = 0 then f.since else s.crownMap.slot })).pumpFlow x y vc

/-! ### Receiving cells -/

/-- Deliver held cells that have come in order to the engines (R199). -/
def State.deliverHeld (t orig vc : Nat) : Nat → State → State
  | 0, s => s
  | n + 1, s =>
    let r := s.rxFlow t orig vc
    match r.held.find? (fun c => c.eseq == r.next) with
    | none => s
    | some c =>
      State.deliverHeld t orig vc n ((s.updRx t orig vc (fun r =>
        { r with next := (r.next + 1) % 1024, held := r.held.filter (fun x => x.eseq != c.eseq), acked := true, changed := true,
                 since := s.crownMap.slot, enakAt := none })).emit
        (.engine t c.payload))

/-- FINAL takes a cell: delivered once and in ESEQ order, held when a cell before it is missing, discarded when already
delivered or held (R199), or when a restart has left it behind in a relay buffer (R205). -/
def State.takeCell (s : State) (t : Nat) (c : Cell) : State :=
  let r := s.rxFlow t c.orig c.cvc
  if (s.cr t).stale.contains c then s.updCr t (fun x => { x with stale := x.stale.erase c })
  else if 256 ≤ (c.eseq + 1024 - r.next) % 1024 || r.held.any (fun x => x.eseq == c.eseq) then s
  else
    let s1 := s.updRx t c.orig c.cvc (fun r => { r with held := r.held ++ [c], since := if r.held.isEmpty then s.crownMap.slot else r.since })
    let s2 := State.deliverHeld t c.orig c.cvc (s1.rxFlow t c.orig c.cvc).held.length s1
    if s2.viaBrim t c.orig && (s2.rxFlow t c.orig c.cvc).changed then
      (s2.sendAckRec t (edgeTo t c.orig) { orig := c.orig, final := t, vc := c.cvc, ack := s2.eackTo t c.orig c.cvc }).eackSent t c.orig c.cvc
    else s2

/-- A cell to relay: dropped and counted where the buffer of 8,192 is full (R203). -/
def State.takeRelay (s : State) (t : Nat) (c : Cell) : State :=
  if 8192 ≤ (s.cr t).relay.length then s.bump (F.CROWN_RELAY_STAT_DROP t)
  else (s.updCr t (fun x => { x with relay := x.relay ++ [c] })).syncRelay t

/-- Count cells dropped at a tile, and assert CROWN_UNCORR beyond 1,000 in 1 s (R401). -/
def State.countDrop (s : State) (t : Nat) : State :=
  let s1 := s.bump (F.CROWN_CNT_UNCORR t)
  let recent := (s.bell :: (s1.cr t).drops).filter (fun b => s.bell < b + 1000000)
  let s2 := s1.updCr t (fun c => { c with drops := if 1000 < recent.length then [] else recent })
  if 1000 < recent.length then s2.raise t 21 else s2

/-- A cell from a tile shows whether it signals RBUSY (R203). -/
def State.noteBusy (s : State) (t x : Nat) (busy : Bool) : State :=
  s.updCr t (fun r => { r with busyPeers := if busy then x :: r.busyPeers.filter (· != x) else r.busyPeers.filter (· != x) })

/-- One cell position of a burst from x at tile t on plane p (R196, R197). -/
def State.takePosition (s : State) (x t p k : Nat) (cw : List Byte) : State :=
  match (rsDecode (fun b => cellCrcOk (b.take 240)) cw).bind (fun d => Cell.parse (d.1.take 240)) with
  | none => (s.countDrop t).bump (F.CROWN_PLANE_UNCORR t p)
  | some (c, a, busy) =>
    let s1 := s.noteBusy t x busy
    let s2 := s1.takeEack t x k a
    if c.ctype ≠ 1 then s2
    else if c.final = t then s2.takeCell t c
    else s2.takeRelay t c

/-- A Brim frame's cell: the tile's own, passed on along the row cut-through where its flow takes the Brim links, or to the relay
buffer, from which it makes one Crown crossing (R37, R204, R208). -/
def State.takeRowCell (s : State) (t e : Nat) (c : Cell) : State :=
  let on := edgeTo t c.final
  if c.ctype ≠ 1 then s
  else if c.final = t then s.takeCell t c
  else if s.viaBrim c.orig c.final && tileRow c.final = tileRow t && on ≠ e && s.f (F.BRIM_STAT_STATE t on) = 2 then s.sendEdge t on c
  else s.takeRelay t c

/-- Send the kept frames of an edge again from a sequence number on: one link replay (R207). -/
def State.replayEdge (s : State) (t e seq : Nat) : State :=
  let again := (s.br t e).kept.filter (fun x => (x.1 + 4096 - seq) % 4096 < 128)
  if again.isEmpty then s
  else (s.each again (fun s x => s.putFrame t e 0 x.1 {} (x.2.bytes {} (s.rbusy t)))).bump (F.BRIM_RETRY t e)

/-- A frame without uncorrectable beats at an edge: the link acknowledgement, the end-to-end record, then its cell in
sequence (R207). -/
def State.takeFrame (s : State) (t e : Nat) (bs : List Byte) : State :=
  let h := leAt bs 0 16
  let seq := h % 4096
  let ack := h / 2 ^ 12 % 4096
  let rec_ : AckRec := { orig := h / 2 ^ 28 % 64, final := h / 2 ^ 34 % 64, vc := h / 2 ^ 40 % 4,
                         ack := { eack := h / 2 ^ 42 % 1024, valid := h.testBit 52, enak := h.testBit 53 } }
  let s1 := s.updBr t e (fun b =>
    let n := match b.kept with | x :: _ => (ack + 1 + 4096 - x.1) % 4096 | [] => 0
    if n ≤ b.kept.length then { b with kept := b.kept.drop n } else b)
  let s2 := if h.testBit 24 then s1.replayEdge t e ((ack + 1) % 4096) else s1
  let s3 := State.pumpEdge t e (s2.br t e).waitq.length s2
  let s4 := if rec_.vc = 3 || (!rec_.ack.valid && !rec_.ack.enak) then s3
    else if rec_.orig = t then s3.takeEack t rec_.final rec_.vc rec_.ack
    else s3.sendAckRec t (1 - e) rec_
  if h / 2 ^ 25 % 8 ≠ 0 then s4
  else if seq ≠ (s4.br t e).rxSeq then
    if (seq + 4096 - (s4.br t e).rxSeq) % 4096 < 2048 then (s4.updBr t e (fun b => { b with nak := true })).putFrame t e 1 (s4.br t e).txSeq {} [] else s4
  else
    let s5 := s4.updBr t e (fun b => { b with rxSeq := (b.rxSeq + 1) % 4096 })
    let s6 := match Cell.parse ((bs.drop 16).take 240) with
      | none => s5.countDrop t
      | some (c, _, busy) =>
        let s6 := match brimPeer t e with | some (u, _) => s5.noteBusy t u busy | none => s5
        s6.takeRowCell t e c
    s6.putFrame t e 1 (s6.br t e).txSeq {} []

/-- Traffic of a tile in BYPASS: new Crown cells cross a Brim link to the row neighbour with the lower number, else the
other (R204). -/
def State.bypassOut (s : State) (x : Nat) : State :=
  let live := fun (e : Nat) => (brimPeer x e).isSome && s.f (F.BRIM_STAT_STATE x e) == 2
  let edge := if live 0 then some 0 else if live 1 then some 1 else none
  match edge with
  | none => s
  | some e => s.each ((s.cr x).tx.map (·.1)) (fun s k =>
      if s.viaBrim x (k / 4) || s.asleep (k / 4) then s
      else
        let (cells, s1) := s.newCells x (k / 4) (k % 4) 256
        s1.each cells (fun s c => s.sendEdge x e c))

/-! ### Commands of the Timetable -/

/-- CROWN_START_PULSE (R192): the slot count starts from 0, once after a cold or power-on reset. -/
def execCrownStartPulse (s : State) : Host.Outcome State Fault Refusal :=
  .next (if s.crownMap.started then s else { s with crownMap := { s.crownMap with started := true, slot := 0 } })

/-- ALIGN (R192, R198, R356): with the slot count loaded and the trace of the start made, PROBEs are exchanged for 4 cycles of three
slots; then the Crown is in RUN. -/
def State.alignStep (s : State) (t : Nat) : State :=
  if s.f (F.CROWN_STAT_STATE t) ≠ 1 || s.startTrace1 t || (s.bl t).traceCrown then s
  else match (s.cr t).align with
  | none => s.updCr t (fun c => { c with align := some (s.crownMap.slot + 12) })
  | some a => if a ≤ s.crownMap.slot then (s.setF (F.CROWN_STAT_STATE t) 2).updCr t (fun c => { c with align := none }) else s

/-- CROWN_SLOT (R193): the count advances, the engines' cells join their flows, and every transmitter has its slot. Cells
for a sleeping tile raise its wake request and wait (R204). -/
def execCrownSlot (offers : List CellOffer) (s : State) : Host.Outcome State Fault Refusal :=
  .next (
    if !s.crownMap.started then s
    else
      let s1 := ({ s with crownMap := { s.crownMap with slot := s.crownMap.slot + 1 } } : State).each allTiles State.alignStep
      let s2 := s1.each offers (fun s o =>
        if o.src = o.dst then s
        else (s.updTx o.src o.dst o.vc (fun f => { f with queue := f.queue ++ [o.payload.take 232] })).pumpFlow o.src o.dst o.vc)
      let s3 := s2.each (s2.crownMap.asleep.filter (fun d => allTiles.any (fun x => (s2.cr x).tx.any (fun e => e.1 / 4 == d && !e.2.queue.isEmpty))))
        State.requestWake
      let s4 := s3.each (allTiles.filter (fun x => s3.f (F.CROWN_STAT_STATE x) == 3)) State.bypassOut
      let s5 := s4.each allTiles (fun s x => s.each ((s.cr x).tx.map (·.1)) (fun s k => s.pumpFlow x (k / 4) (k % 4)))
      s5.each allTiles (fun s x => s.each (List.range 16) (fun s p => s.planeSlot x p)))

/-- CROWN_BURST_RECEIVE (R195 to R203): a burst at tile t on a plane in the present slot, whose source the Timetable names;
a preamble that does not lock loses it (R198). -/
def execCrownBurstReceive (t : Tile) (plane : Fin 16) (lock : Bool) (body : List Byte) (s : State) : Host.Outcome State Fault Refusal :=
  .next (
    if !s.crownMap.started || s.f (F.CROWN_STAT_STATE t) = 0 || (s.f (F.CROWN_DEAD_RX_DEAD t)).testBit plane then s
    else if !lock then s.bump (F.CROWN_CNT_PRE_FAIL t)
    else
      let x := sourceTile t plane s.crownMap.slot
      let b := fitBytes 768 body
      -- the preamble refines what the receiver keeps for the source and plane
      ((s.updCr t (fun c => { c with cache := Map.put (x * 16 + plane.val) s.crownMap.slot c.cache })).bump (F.CROWN_CNT_BURST t)).each [0, 1, 2] (fun s k => s.takePosition x t plane k ((b.drop (256 * k)).take 256)))

/-- Have `units` of 0.1 µs passed since a slot of 51.2 ns (R192)? -/
def State.slotsPast (s : State) (since units : Nat) : Bool := decide (units * 1000 ≤ (s.crownMap.slot - since) * 512)

/-- CROWN_HOLD_EXPIRY (R200): a later cell is held for HOLD while the next is missing: ENAK in the next acknowledgement, once per
HOLD. -/
def execCrownHoldExpiry (t orig : Tile) (vc : Fin 3) (s : State) : Host.Outcome State Fault Refusal :=
  .next (
    let hold := s.f (F.CROWN_CTL_HOLD t)
    let r := s.rxFlow t orig vc
    let again := match r.enakAt with | some a => s.slotsPast a hold | none => true
    if r.held.isEmpty || !s.slotsPast r.since hold || !again then s
    else
      let s1 := s.updRx t orig vc (fun r => { r with enak := true, changed := true, enakAt := some s.crownMap.slot })
      if s1.viaBrim t orig then
        (s1.sendAckRec t (edgeTo t orig) { orig := orig, final := t, vc := vc, ack := s1.eackTo t orig vc }).eackSent t orig vc
      else s1)

/-- CROWN_RTO_EXPIRY (R200): the oldest unacknowledged cell has waited RTO and is sent again by the direct route. -/
def execCrownRtoExpiry (t final : Tile) (vc : Fin 3) (s : State) : Host.Outcome State Fault Refusal :=
  .next (
    if (s.txFlow t final vc).unacked.isEmpty || !s.slotsPast (s.txFlow t final vc).since (s.f (F.CROWN_CTL_RTO t)) then s
    else (s.updTx t final vc (fun f => { f with resend := true })).pumpFlow t final vc)

/-- CROWN_PROBE_DUE (R193, R198): no burst to a destination for 64 cycles of three slots: three PROBE cells in the pair's
plane-slot, where the present slot is one. -/
def execCrownProbeDue (t dst : Tile) (s : State) : Host.Outcome State Fault Refusal :=
  .next (
    match (pairSlots t dst).find? (fun ps => ps.1 == s.crownMap.slot % 3 && s.mayTransmit t ps.2 && !s.planeDead t dst ps.2) with
    | none => s
    | some ps =>
      if s.crownMap.started && !s.asleep dst && Map.get 0 (s.cr t).last dst.val + 192 ≤ s.crownMap.slot then s.launch t dst ps.2 2 []
      else s)

/-- CROWN_DEAD_MAP_UPDATE (R204): the Proctor's marks and sleep bit of a tile, beside those that its state asks for, in
every tile's copy. -/
def execCrownDeadMapUpdate (t : Tile) (tx rx : BitVec 16) (asleep : Bool) (s : State) : Host.Outcome State Fault Refusal :=
  .next (
    let due := s.dueMarks t
    ((s.markDead t (tx.toNat ||| due.1) (rx.toNat ||| due.2)).setAsleep t (asleep || s.dozing t)))

/-! ### Commands of the Brim links -/

/-- BRIM_FRAME_RECEIVE (R206, R207): a frame after SECDED with the beats corrected and found uncorrectable in it; an
uncorrectable beat drops the frame and asks for replay. A fenced link, or one under test, takes no traffic. -/
def execBrimFrameReceive (t : Tile) (e : Fin 2) (bytes : List Byte) (ce ue : BitVec 8) (s : State) : Host.Outcome State Fault Refusal :=
  .next (
    if s.f (F.BRIM_STAT_STATE t e) ≠ 2 || (s.br t e).testing then s
    else
      let s1 := (s.bump (F.BRIM_CE t e) ce.toNat).bump (F.BRIM_UE t e) ue.toNat
      if ue = 0 then s1.takeFrame t e (fitBytes 256 bytes)
      else
        let s2 := s1.updBr t e (fun b => { b with nak := true, ueTimes := b.ueTimes ++ List.replicate ue.toNat s.bell })
        s2.putFrame t e 1 (s2.br t e).txSeq {} [])

/-- The lower UE_LIM of a link's two ends (R209). -/
def State.ueLimit (s : State) (t e : Nat) : Nat :=
  match brimPeer t e with
  | none => s.f (F.BRIM_CTL_UE_LIM t e)
  | some (u, d) => min (s.f (F.BRIM_CTL_UE_LIM t e)) (s.f (F.BRIM_CTL_UE_LIM u d))

/-- BRIM_UE_LIMIT (R209): more than UE_LIM uncorrectable beats in the window at this end: the link is fenced, journaled
with origin 0x0. -/
def execBrimUeLimit (t : Tile) (e : Fin 2) (s : State) : Host.Outcome State Fault Refusal :=
  .next (
    let win := s.f (F.BRIM_CTL_UE_WIN t e) * 1000000
    let n := (s.br t e).ueTimes.countP (fun b => s.bell < b + win)
    if s.f (F.BRIM_STAT_STATE t e) ≠ 2 || n ≤ s.ueLimit t e then s
    else (s.fenceBrim t e false).policyNote (tgtTile t))

/-- Does an EDGE parameter name an edge of the package (R211)? -/
def edgeBad (p : Packet) : Option Nat :=
  if 1 < p.w 0 || (brimPeer p.unit (p.w 0)).isNone then some 32 else none

/-- BRIM_FENCE (R211). -/
def brimFenceDef : CmdDef where
  code := 0x0260
  len := fun _ => some 4
  kinds := [1]
  par := fun _ p _ => edgeBad p
  journaled := true
  act := fun s p _ _ =>
    if s.f (F.BRIM_STAT_STATE p.unit (p.w 0)) = 3 then .now s stOk 0 [] []
    else .now (s.fenceBrim p.unit (p.w 0) true) stOk 0 [] (paramChange p)

/-- Failed unfence tests of a link in the last 24 h; three of them stay until a cold reset (R210). -/
def State.testFails (s : State) (t e : Nat) : List Nat :=
  let l := (s.br t e).failTimes
  if 3 ≤ l.length then l else l.filter (fun b => s.bell < b + 86400000000)

/-- BRIM_UNFENCE (R210, R211): the test begins at both ends. -/
def brimUnfenceDef : CmdDef where
  code := 0x0261
  len := fun _ => some 4
  kinds := [1]
  par := fun _ p _ => edgeBad p
  pre := fun s p _ =>
    let st := s.f (F.BRIM_STAT_STATE p.unit (p.w 0))
    if (s.br p.unit (p.w 0)).testing then some (stBusy, 0)
    else if st ≠ 3 then some (stState, st)
    else if 3 ≤ (s.testFails p.unit (p.w 0)).length then some (stLocked, 0)
    else none
  journaled := true
  act := fun s p _ id =>
    let e := p.w 0
    let one := fun (s : State) (t e : Nat) (run : Option Nat) => s.updBr t e (fun b => { b with testing := true, testRun := run })
    let s1 := one s p.unit e (some id)
    .later (match brimPeer p.unit e with
      | some (u, d) => one s1 u d none
      | none => s1)

/-- BRIM_FENCE. -/
def execBrimFence (p : Packet) (s : State) : Host.Outcome State Fault Refusal := .next (runCmd brimFenceDef p s)

/-- BRIM_UNFENCE. -/
def execBrimUnfence (p : Packet) (s : State) : Host.Outcome State Fault Refusal := .next (runCmd brimUnfenceDef p s)

/-- BRIM_TEST_DONE (R210): back UP where neither end counts an uncorrectable beat and each at most 16 corrected; else the
link stays fenced and the command fails with the worse end's counts. The operands name the end where the command was. -/
def execBrimTestDone (t : Tile) (e : Fin 2) (ue ce farUe farCe : BitVec 16) (s : State) : Host.Outcome State Fault Refusal :=
  .next (
    match (s.br t e).testRun, brimPeer t e with
    | some id, some (u, d) =>
      let stop := fun (s : State) (t e : Nat) => s.updBr t e (fun b => { b with testing := false, testRun := none })
      let s1 := stop (stop s t e) u d
      let fails := s.testFails t e
      let set := fun (s : State) (l : List Nat) =>
        ((s.updBr t e (fun b => { b with failTimes := l })).updBr u d (fun b => { b with failTimes := l })).setFs
          [(F.BRIM_STAT_TEST_FAILS t e, min 3 l.length), (F.BRIM_STAT_TEST_FAILS u d, min 3 l.length)]
      if ue.toNat = 0 && farUe.toNat = 0 && decide (ce.toNat ≤ 16) && decide (farCe.toNat ≤ 16) then
        let up := fun (s : State) (t e : Nat) => (s.setFs [(F.BRIM_STAT_STATE t e, 2), (F.BRIM_STAT_BY_CMD t e, 0)]).updBr t e
          (fun b => { b with txSeq := 0, rxSeq := 0, kept := [], ueTimes := [], nak := false })
        let s2 := (set (up (up s1 t e) u d) fails).rewriteDist
        s2.finishParam id stOk 0 [] (undoOf s1 s2)
      else
        let near := decide (farUe.toNat < ue.toNat) || (ue == farUe && decide (farCe.toNat ≤ ce.toNat))
        let det := if near then ue.toNat + ce.toNat * 2 ^ 16 else farUe.toNat + farCe.toNat * 2 ^ 16
        (set s1 (fails ++ [s.bell])).finish id 0x8260 det
    | _, _ => s)

/-- STENT_STANDIN_MOVE (R31): the engines of a tile have failed, or it is held in a fault state: its duties move to a free
reserve tile, or end. -/
def execStentStandinMove (t : Tile) (s : State) : Host.Outcome State Fault Refusal :=
  .next (if s.f (F.OME_STAT_STATE t) = 8 || s.f (F.FSTATE_STATE t) = 4 then s.moveDuties t else s)

end Sys2Proof.Machine
end

