-- ==== Sys2Proof/Machine/JobRun.lean ====
section
/-! DEFINITION. Machine/JobRun.lean: how a job's work is done (R289 to R307): stream input, chunks, the passes of a unit and
its outputs. -/

namespace Sys2Proof.Machine

/-! ### Ranges of memory -/

/-- Read a range by fabric address, part by part at 2 MiB boundaries. -/
def State.readParts (t a : Nat) : Nat → Nat → State → Except Nat (List Byte) × State
  | 0, _, s => (.ok [], s)
  | fuel + 1, n, s =>
    if n = 0 then (.ok [], s)
    else
      let k := min n (2 ^ 21 - addrByte a)
      match s.readFabric t a k with
      | (.error st, s1) => (.error st, s1)
      | (.ok bs, s1) =>
        match State.readParts t (a + k) fuel (n - k) s1 with
        | (.error st, s2) => (.error st, s2)
        | (.ok rest, s2) => (.ok (bs ++ rest), s2)

/-- Read a range of any length on behalf of tile t. -/
def State.readRange (s : State) (t a n : Nat) : Except Nat (List Byte) × State := State.readParts t a (n / 2 ^ 21 + 2) n s

/-- Write a range of any length on behalf of tile t: the state, and the status of the first part that fails. -/
def State.writeRange (t a : Nat) : Nat → List Byte → State → State × Option Nat
  | 0, _, s => (s, none)
  | fuel + 1, bs, s =>
    if bs.isEmpty then (s, none)
    else
      let k := 2 ^ 21 - addrByte a
      match s.writeFabric t a (bs.take k) with
      | (.error st, s1) => (s1, some st)
      | (.ok s1, _) => State.writeRange t (a + k) fuel (bs.drop k) s1

/-! ### Sums in an order that is not fixed (R276, R325) -/

/-- Combine the elements of a list two by two in an order that nothing fixes, from a first value. -/
def State.foldFree (f : Nat → Nat → Nat) : Nat → Nat → List Nat → State → Nat × State
  | 0, acc, _, s => (acc, s)
  | fuel + 1, acc, l, s =>
    if l.isEmpty then (acc, s)
    else
      let (v, s1) := s.fresh
      let i := v.toNat % l.length
      State.foldFree f fuel (f acc (l.getD i 0)) (l.eraseIdx i) s1

/-- The sum of binary32 values in an order that is not fixed, from 0. -/
def State.sumFree (s : State) (l : List Nat) : Nat × State := State.foldFree f32Add l.length 0 l s

/-! ### Stream input (R295, R304) -/

/-- Form the chunks that the vectors received allow: full ones, a last or short one where it is due; at most two stand
ready, one in use and one being staged (R290, R303). -/
def Job.form : Nat → Job → Job
  | 0, j => j
  | n + 1, j =>
    let d := j.desc
    let q := Map.get [] j.inq 0
    let base := match j.chunkIn.getLast? with | some c => c.base + c.vecs.length | none => j.received - q.length
    let size := if d.kind = 3 then (if j.nc ≤ q.length then j.nc else if j.due || j.inputClosed then q.length else 0)
      else min j.nc (d.n - j.nc * j.formed)
    if d.kind = 2 || d.isrc = 0 || size = 0 || q.length < size || 2 ≤ j.chunkIn.length then j
    else
      Job.form n { j with
        chunkIn := j.chunkIn ++ [⟨j.formed, base, q.take size⟩], formed := j.formed + 1, due := false,
        inq := Map.set [] j.inq 0 (q.drop size) }

/-- A job's chunks brought up to date. -/
def Job.formAll (j : Job) : Job := Job.form 2 j

/-- May the engine take more of source i now: the job is RUNNING and its staging has room? -/
def Job.room (j : Job) (i : Nat) : Bool :=
  decide (j.state = .running) &&
  (if j.desc.kind = 2 then true else decide ((Map.get [] j.inq i).length < 2 * j.nc))

/-- Does the job still want vectors of its source i? -/
def Job.wants (j : Job) (i : Nat) : Bool :=
  j.live && !j.inputClosed &&
  (match j.desc.kind with
   | 3 => true
   | 2 => decide ((Map.get [] j.inq i).length < j.desc.groups)
   | _ => decide (j.received < j.desc.n))

/-- The live job that consumes a stream, and the number of the source in it. -/
def State.jobOfStream (s : State) (key : Nat) : Option (Job × Nat) :=
  s.work.jobs.findSome? (fun j =>
    (j.srcs.zipIdx.find? (fun x => x.1 == key && j.wants x.2)).map (fun x => (j, x.2)))

/-- The engine takes a STREAM_DATA transport unit of a source: a message of one packed vector, or of a wrong length, which
is dropped and counted (OMEJ_CNT_BADMSG). -/
def State.jobTake (s : State) (j : Job) (i key : Nat) (tu : Tu) : State :=
  let first := tu.flags % 2 == 1
  let msg := (if first then [] else Map.get [] j.asm i) ++ tu.data
  if tu.flags / 2 % 2 = 0 then s.updJob j.id (fun x => { x with asm := Map.set [] x.asm i msg })
  else if msg.length ≠ j.desc.xLen then
    (s.updJob j.id (fun x => { x with asm := Map.del i x.asm })).bump (F.OMEJ_CNT_BADMSG (s.homeServer (key / 2 ^ 15)))
  else s.updJob j.id (fun x =>
    Job.formAll { x with asm := Map.del i x.asm, inq := Map.set [] x.inq i (Map.get [] x.inq i ++ [msg]), received := x.received + 1 })

/-! ### Units (R289, R303) -/

/-- Row-blocks of a share. -/
def Share.nb (sh : Share) : Nat := sh.blocks.length
/-- The row-block of the unit in hand or next. -/
def Share.block (sh : Share) : Nat := sh.blocks.getD (sh.next % sh.nb) 0
/-- Its chunk. -/
def Share.chunk (sh : Share) : Nat := sh.next / sh.nb

/-- Has the share written all its units? -/
def Job.shareDone (j : Job) (sh : Share) : Bool :=
  sh.nb == 0 ||
  (if j.desc.kind = 3 then j.inputClosed && (Map.get [] j.inq 0).isEmpty && sh.next == sh.nb * j.formed
   else sh.next == sh.nb * j.desc.chunks)

/-- Are the inputs of the share's next unit at hand? -/
def Job.unitReady (j : Job) (sh : Share) : Bool :=
  if sh.nb = 0 then false
  else if j.desc.kind ≠ 3 && j.desc.chunks ≤ sh.chunk then false
  else if j.desc.isrc = 0 then true
  else if j.desc.kind = 2 then j.srcs.zipIdx.all (fun x => decide (sh.block < (Map.get [] j.inq x.2).length))
  else j.chunkIn.any (fun c => c.num == sh.chunk)

/-- Number of the first vector of a chunk, and the number of vectors in it. -/
def Job.span (j : Job) (c : Nat) : Nat × Nat :=
  match j.chunkIn.find? (fun x => x.num == c) with
  | some x => (x.base, x.vecs.length)
  | none => (c * j.nc, min j.nc (j.desc.n - c * j.nc))

/-- Read several vectors of memory. -/
def State.readVecs (t : Nat) : List (Nat × Nat) → State → Except Nat (List (List Byte)) × State
  | [], s => (.ok [], s)
  | (a, n) :: r, s =>
    match s.readRange t a n with
    | (.error st, s1) => (.error st, s1)
    | (.ok bs, s1) =>
      match State.readVecs t r s1 with
      | (.error st, s2) => (.error st, s2)
      | (.ok l, s2) => (.ok (bs :: l), s2)

/-- The packed input vectors of a unit: for COMBINE the K source vectors of its group, else the vectors of its chunk. -/
def State.unitInputs (s : State) (t : Nat) (j : Job) (sh : Share) : Except Nat (List (List Byte)) × State :=
  let d := j.desc
  if d.isrc = 0 then
    let at_ := fun (v : Nat) => (d.xaddr + v * d.ldx, d.xLen)
    if d.kind = 2 then State.readVecs t ((List.range d.k).map (fun i => at_ (sh.block * d.k + i))) s
    else let (b, n) := j.span sh.chunk; State.readVecs t ((List.range n).map (fun i => at_ (b + i))) s
  else if d.kind = 2 then (.ok ((List.range d.k).map (fun i => (Map.get [] j.inq i).getD sh.block [])), s)
  else (.ok ((j.chunkIn.find? (fun c => c.num == sh.chunk)).map (·.vecs) |>.getD []), s)

/-- End a job whose operand could not be read or written: ERR_NOT_FOUND for an entry that is no longer mapped, else
ERR_FAULT with FAIL_TILE (R307). -/
def State.operandFail (s : State) (id t status : Nat) : State :=
  if status = stFault then
    let cause := (s.job id).bind (fun j => s.rangesCause (j.desc.ranges.map (·.2)))
    s.endJob id stFault (s.faultDetail cause) t
  else s.endJob id status 0 255

/-- Change a job's share on a mask tile. -/
def State.updShare (s : State) (id tile : Nat) (f : Share → Share) : State :=
  s.updJob id (fun j => { j with shares := j.shares.map (fun sh => if sh.tile = tile then f sh else sh) })

/-- Begin the next unit of a share: accumulators cleared, inputs staged. A resident row-block whose frame has been moved
away goes on by streamed staging (R307). -/
def State.beginUnit (s : State) (t : Nat) (j : Job) (sh : Share) : State :=
  let moved := !(s.resident j.desc sh.block sh.tile) && !sh.streamed.contains sh.block &&
    (match j.set with | some k => (Map.find sh.block (Map.get ({} : StageSet) s.work.sets k).data).isNone | none => true)
  match s.unitInputs t j sh with
  | (.error st, s1) => s1.operandFail j.id t st
  | (.ok v, s1) => s1.updShare j.id sh.tile (fun x => { x with
      active := true, ready := false, wt := 0, reads := [], terms := [], tries := 0, sat := 0, vecs := v,
      streamed := if moved then x.streamed ++ [sh.block] else x.streamed })

/-- The packed weights of a row-block: the staged copy, or the memory itself for resident and streamed ones (R291, R297,
R299). -/
def State.blockWeights (s : State) (t : Nat) (j : Job) (sh : Share) : Except Nat (List Byte) × State :=
  let copy := match j.set with | some k => Map.find sh.block (Map.get ({} : StageSet) s.work.sets k).data | none => none
  match copy with
  | some bs => if sh.streamed.contains sh.block then let r := j.desc.blockRange sh.block; s.readRange t r.1 r.2 else (.ok bs, s)
  | none => let r := j.desc.blockRange sh.block; s.readRange t r.1 r.2

/-- The blocks of a weight tile's rows. -/
def JobDesc.weightTile (d : JobDesc) (b wt : Nat) (bytes : List Byte) : List OmeBlk :=
  (List.range (d.rows b)).map (fun r => convertBlock (unpackBlock d.wfmt d.wscale d.k ((bytes.drop (r * d.wRow)).take d.wRow) wt))

/-- The input blocks of a unit for weight tile wt: slice wt of each vector, and for COMBINE the sources' values at each
element position (R294). -/
def Job.inputTile (j : Job) (sh : Share) (wt : Nat) : List OmeBlk :=
  let d := j.desc
  if d.kind = 2 then
    let (b, n) := j.span sh.chunk
    (List.range n).map (fun v => convertBlock ((List.range 32).map (fun i =>
      match sh.vecs[i]? with
      | some x => (unpackBlock d.xfmt d.xscale d.n x ((b + v) / 32)).getD ((b + v) % 32) (.fin ⟨0, 0⟩)
      | none => .fin ⟨0, 0⟩)))
  else sh.vecs.map (fun x => convertBlock (unpackBlock d.xfmt d.xscale d.k x wt))

/-- Weight tiles of a row-block in K direction. -/
def JobDesc.wts (d : JobDesc) : Nat := ceilDiv d.k 32

/-- The slices of weights and inputs in pass p of a group (R278). -/
def passSlices (p : Nat) (w x : OmeBlk) : List Int × List Int :=
  match p with
  | 0 => (w.hi, x.hi)
  | 1 => (w.hi, x.lo)
  | _ => (w.lo, x.hi)

/-- The sums of a pass, vector by vector and row by row, with the pair's exponents and whether a block is NONFINITE. -/
def passSums (p : Nat) (ws xs : List OmeBlk) : List (Int × Nat × Nat × Bool) :=
  xs.flatMap (fun x => ws.map (fun w =>
    let sl := passSlices p w x
    (rowSum sl.1 sl.2, w.exp, x.exp, w.nonfinite || x.nonfinite)))

/-- The row result of a pass group in binary32 (R275, R276, R278): NaN for a NONFINITE block, 0 where an exponent is 0,
else the readings combined. -/
def rowResult (cls range : Nat) (ew ex : Nat) (nonfin : Bool) (q : List Int) : Nat :=
  let e : Int := (ex : Int) + ew - 260 - range
  if nonfin then f32NaN
  else if ew = 0 || ex = 0 then 0
  else match cls with
    | 0 => f32Row ⟨q.getD 0 0, e⟩
    | 1 => f32Row ⟨q.getD 0 0 * 32 + q.getD 1 0, e - 5⟩
    | _ => f32Row ⟨q.getD 0 0 * 32 + q.getD 1 0 + q.getD 2 0, e - 5⟩

/-- One good pass of a job's unit (R275 to R278): the readings are what the digitisers gave; after the class's last pass
the group's row results join the sums, and after the last weight tile the unit's sums are complete. -/
def State.jobPass (s : State) (t : Nat) (j : Job) (sh : Share) (given : List Int) : State :=
  match s.blockWeights t j sh with
  | (.error st, s1) => s1.operandFail j.id t st
  | (.ok bytes, s1) =>
    let d := j.desc
    let p := sh.reads.length
    let ws := d.weightTile sh.block sh.wt bytes
    let xs := j.inputTile sh sh.wt
    let sums := passSums p ws xs
    let (v, s2) := s1.fresh
    let q := sums.mapIdx (fun i x => readingOf d.range x.1 (given.getD i (signedOf 12 (v.toNat % 4096))))
    let sat := sums.countP (fun x => x.2.1 != 0 && x.2.2.1 != 0 && saturates d.range x.1)
    let nonfin := if p = 0 then ws.countP (·.nonfinite) + (if sh.next % sh.nb = 0 then xs.countP (·.nonfinite) else 0) else 0
    let s3 := (s2.bump (F.OME_CNT_SAT t) sat).bump (F.OME_CNT_NONFIN t) nonfin
    let last := decide (d.cls ≤ p)
    let reads := sh.reads ++ [q]
    let terms := if last then [sums.mapIdx (fun i x =>
      rowResult d.cls d.range x.2.1 x.2.2.1 x.2.2.2 (reads.map (fun l => l.getD i 0)))] else []
    let flags := (if sat = 0 then 0 else 1) ||| (if (ws ++ xs).any (·.nonfinite) then 4 else 0)
    (s3.updShare j.id sh.tile (fun x => { x with
        reads := if last then [] else reads, terms := x.terms ++ terms, tries := if last then 0 else x.tries,
        wt := if last then x.wt + 1 else x.wt, ready := last && x.wt + 1 == d.wts, sat := x.sat + sat })).updJob j.id (fun x =>
      { x with satRows := x.satRows + sat, rflags := x.rflags ||| flags })

/-- The outputs of a complete unit, vector by vector and row by row, as binary32: the K-direction terms added in an order
that is not fixed (R276). -/
def State.unitSums : List Nat → List (List Nat) → State → List Nat × State
  | [], _, s => ([], s)
  | i :: r, terms, s =>
    let (y, s1) := s.sumFree (terms.map (fun l => l.getD i 0))
    let (l, s2) := State.unitSums r terms s1
    (y :: l, s2)

/-- The bytes of an output element (R292: YFMT, R535). -/
def JobDesc.yBytes (d : JobDesc) (w : Nat) : List Byte := if d.yfmt = 1 then leBytes 2 (bf16Of w) else leBytes 4 w

/-- Write a unit's outputs to memory: address by address, adding to Y with ACCUM. -/
def State.writeOuts (t : Nat) (d : JobDesc) : List (Nat × Nat) → State → State × Option Nat
  | [], s => (s, none)
  | (a, w) :: r, s =>
    let old : Except Nat Nat × State := if d.flag 2 then
        (match s.readRange t a 4 with | (.error st, s1) => (.error st, s1) | (.ok bs, s1) => (.ok (f32Add (leNat bs) w), s1))
      else (.ok w, s)
    match old with
    | (.error st, s1) => (s1, some st)
    | (.ok y, s1) =>
      match State.writeRange t a 2 (d.yBytes y) s1 with
      | (s2, some st) => (s2, some st)
      | (s2, none) => State.writeOuts t d r s2

/-- Send the output vectors that are complete, in order (R295, R304). -/
def State.sendOuts (id key parts : Nat) : Nat → State → State
  | 0, s => s
  | n + 1, s =>
    match s.job id with
    | none => s
    | some j =>
      let got := Map.get [] j.outq j.nextOut
      if got.length < parts || parts = 0 then s
      else
        let msg := (List.range parts).flatMap (fun i => (Map.find i got).getD [])
        let s1 := (s.updJob id (fun x => { x with outq := Map.del x.nextOut x.outq, nextOut := x.nextOut + 1,
                                                  unitsDone := if x.desc.kind = 3 then x.unitsDone + 1 else x.unitsDone }))
        let s2 := if s.notHolder then s1 else s1.sendMessage key msg
        State.sendOuts id key parts n s2

/-- Write the outputs of a share's complete unit (R303): to memory at once in full, or to the output stream, whose
messages leave in order. SAT_FAIL ends the job instead (R306). -/
def State.writeUnit (s : State) (t : Nat) (j : Job) (sh : Share) : State :=
  let d := j.desc
  if d.flag 3 && sh.sat != 0 then s.endJob j.id 0x8402 0 255
  else
    let rows := d.rows sh.block
    let (base, n) := j.span sh.chunk
    let (ys, s1) := State.unitSums (List.range (n * rows)) sh.terms s
    let done := fun (s : State) =>
      let s2 := (s.updShare j.id sh.tile (fun x => { x with
        active := false, ready := false, wt := 0, terms := [], reads := [], vecs := [], next := x.next + 1 })).updJob j.id (fun x =>
          Job.formAll { x with
            unitsDone := if x.desc.kind = 3 then x.unitsDone else x.unitsDone + 1
            chunkIn := x.chunkIn.filter (fun c => x.shares.any (fun y => y.nb != 0 && decide (y.next < (c.num + 1) * y.nb))) })
      s2.bump (F.OMEJ_CNT_UNITS t)
    if d.odst = 0 then
      let place := fun (i : Nat) =>
        if d.kind = 2 then d.yaddr + (sh.block * d.m + i % rows) * d.ldy + (base + i / rows) * d.ySize
        else d.yaddr + (base + i / rows) * d.ldy + (64 * sh.block + i % rows) * d.ySize
      match State.writeOuts t d (ys.mapIdx (fun i y => (place i, y))) s1 with
      | (s2, some st) => s2.operandFail j.id t st
      | (s2, none) => done s2
    else
      match s1.liveKey d.yaddr with
      | none => s1.operandFail j.id t stNotFound
      | some key =>
        let parts := if d.kind = 2 then d.chunks else d.blocks
        let put := fun (x : Job) (v part : Nat) (bs : List Byte) =>
          { x with outq := Map.set [] x.outq v (Map.put part bs (Map.get [] x.outq v)) }
        let s2 := s1.updJob j.id (fun x =>
          if d.kind = 2 then (List.range rows).foldl (fun x r => put x (sh.block * d.m + r) sh.chunk
            ((List.range n).flatMap (fun v => d.yBytes (ys.getD (v * rows + r) 0)))) x
          else (List.range n).foldl (fun x v => put x (base + v) sh.block
            ((List.range rows).flatMap (fun r => d.yBytes (ys.getD (v * rows + r) 0)))) x)
        State.sendOuts j.id key parts (n * rows + 1) (done s2)

end Sys2Proof.Machine
end

