-- ==== Sys2Proof/Machine/CollRun.lean ====
section
/-! DEFINITION. Machine/CollRun.lean: how a collective operation's work is done (R319 to R332): taking contributions,
segments and stages, expert routing, peer modules, and its start. -/

namespace Sys2Proof.Machine

/-! ### Reducing (R325) -/

/-- Combine a list in an order that is not fixed; 0 for none. -/
def State.foldAny (f : Nat → Nat → Nat) (l : List Nat) (s : State) : Nat × State :=
  if l.isEmpty then (0, s)
  else
    let (v, s1) := s.fresh
    let i := v.toNat % l.length
    State.foldFree f l.length (l.getD i 0) (l.eraseIdx i) s1

/-- REDOP on two binary32 words; a NaN gives the quiet NaN. -/
def redOp (redop : Nat) (a b : Nat) : Nat :=
  match redop with
  | 0 => f32Add a b
  | 1 => f32Pick true a b
  | _ => f32Pick false a b

/-- Reduce vectors element by element, each in an order that is not fixed. -/
def State.reduceAny (redop : Nat) : List Nat → List (List Nat) → State → List Nat × State
  | [], _, s => ([], s)
  | i :: r, vs, s =>
    let (y, s1) := s.foldAny (redOp redop) (vs.map (fun v => v.getD i 0))
    let (l, s2) := State.reduceAny redop r vs s1
    (y :: l, s2)

/-- A NaN contribution that stands alone is the quiet NaN as well (R325). -/
def quiet (w : Nat) : Nat := match f32Num w with | .nan => f32NaN | _ => w

/-- Elements reduced digitally at a tile. -/
def State.countDig (s : State) (t n : Nat) : State :=
  s.setPair (F.COLL_CNT_DIG_LO t) (F.COLL_CNT_DIG_HI t) ((s.pair (F.COLL_CNT_DIG_LO t) (F.COLL_CNT_DIG_HI t) + n) % 2 ^ 64)

/-! ### Places of a segment (R321) -/

/-- Ranks of the group's endpoint members. -/
def Group.ends (g : Group) : List Nat := (g.members.zipIdx.filter (fun m => !m.1.peer)).map (·.2)

/-- The stream key of a rank. -/
def Group.key (g : Group) (rank : Nat) : Nat := (g.members.getD rank ⟨0, false, 0, 0⟩).key

/-- The entry tile of a rank's part of segment sg. -/
def State.entryOf (s : State) (g : Group) (d : OpDesc) (rank sg : Nat) : Nat :=
  if d.isrc = 1 then s.homeServer (g.key rank / 2 ^ 15)
  else (s.famEntry (addrIndex (d.src + rank * d.lds + sg * 16384 * elemSize d.itype))).tile

/-- The entry tiles of a segment. -/
def State.entries (s : State) (g : Group) (d : OpDesc) (sg : Nat) : List Nat :=
  (g.ends.map (fun r => s.entryOf g d r sg)).eraseDups

/-- The collector of a row, and the owner, of segment sg, with stand-ins in their places. -/
def State.collectorOf (s : State) (g : Group) (sg row : Nat) : Nat :=
  let t := (maskRow g.mask row).getD (sg % maskQ g.mask) 0
  (s.server t).getD t
/-- The owner's row. -/
def ownerRow (g : Group) (sg : Nat) : Nat :=
  let rows := maskRows g.mask
  rows.getD (sg / maskQ g.mask % rows.length) 0

/-- Rank of a rank's contribution complete for a segment? -/
def State.gotAll (s : State) (g : Group) (d : OpDesc) (sg : Nat) (seg : Segment) (t : Nat) : Bool :=
  d.isrc == 0 || (g.ends.filter (fun r => s.entryOf g d r sg == t)).all (fun r =>
    (Map.get [] seg.got r).length == d.segLen g.members.length sg)

/-! ### Sending results -/

/-- The COLL_DATA transport units of a run of elements from an index, whole elements in each (R319). -/
def elemTus (n seq ty idx : Nat) (words : List Nat) : List Tu :=
  let per := 208 / elemSize ty
  (chunks per (words.length / per + 1) words).mapIdx (fun i ws =>
    { type := 0x10, flags := 0, stream := 0, tsn := 0, aux := collAux n seq, addr := idx + i * per, data := ws.flatMap (elemOut ty) })

/-- Send elements to a rank's stream, unless this module is the standby (R337). -/
def State.sendElems (s : State) (n : Nat) (g : Group) (o : CollOp) (rank ty idx : Nat) (words : List Nat) : State :=
  if s.notHolder then s
  else s.each (elemTus n o.seq ty idx words) (fun s tu => s.queueTu (g.key rank) tu)

/-- The rank that hosts an expert. -/
def Group.host (g : Group) (e : Nat) : Option Nat :=
  g.members.findIdx? (fun m => decide (m.firstExpert ≤ e) && decide (e < m.firstExpert + m.experts))

/-- Token copies dropped that concern a rank (R319, R330): in DISPATCH those for its experts, in COMBINE those of its tokens. -/
def Group.dropsOf (g : Group) (op rank : Nat) : Nat :=
  (g.routes.map (fun rt =>
    if op = 5 then rt.slots.countP (fun x => !x.2.2 && g.host x.1 == some rank)
    else if rt.src = rank then rt.slots.countP (fun x => !x.2.2) else 0)).foldl (· + ·) 0

/-- COLL_DONE to every endpoint member, once the results are out (R324). -/
def State.sendDones (s : State) (n : Nat) (g : Group) (o : CollOp) (flags : Nat) : State :=
  let s1 := s.updOp n (fun o => { o with resultsOut := true })
  if s.notHolder then s1
  else s1.each g.ends (fun s r => s.sendDone n o.seq stOk o.path flags (Map.get 0 o.copies r) (g.dropsOf o.desc.op r) (g.members.getD r ⟨0, false, 0, 0⟩))

/-- Flags of the head run. -/
def Group.flags (g : Group) : Nat := (g.head.map (·.flags)).getD 0

/-- Set CFLAGS bits in the head run. -/
def State.collFlag (s : State) (n bits : Nat) : State :=
  match (s.group n).bind Group.head with
  | none => s
  | some r => s.updRun n r.id (fun x => { x with flags := x.flags ||| bits })

/-- The running operation ends with a status (R333). -/
def State.collFail (s : State) (n status detail failRank failTile : Nat) : State := s.stopOps n status detail 3 failRank failTile

/-- The running operation ends because its memory cannot be read or written (R335). -/
def State.collMemFail (s : State) (n status failTile : Nat) : State :=
  let cause := (s.group n).bind (fun g => g.cur.bind (fun o => s.rangesCause (o.desc.ranges g.members.length)))
  s.collFail n status (if status = stFault then s.faultDetail cause else 0) 0xFFFF failTile

/-- Write result words to memory through a tile; a failure ends the operation (R335). -/
def State.collStore (s : State) (n t a ty : Nat) (words : List Nat) : State :=
  let bs := words.flatMap (elemOut ty)
  match State.writeRange t a (bs.length / 2 ^ 21 + 2) bs s with
  | (s1, none) => s1
  | (s1, some st) => s1.collMemFail n st 255

/-- Open the segments that the quota of 8 entry slots allows, in ascending order, where `waits` slots hold results (R323). -/
def CollOp.openSegs (segments waits : Nat) (o : CollOp) : CollOp :=
  let k := min (8 - (o.segs.length + waits)) (segments - o.nextSeg)
  { o with segs := o.segs ++ (List.range k).map (fun i => (o.nextSeg + i, ({} : Segment))), nextSeg := o.nextSeg + k }

/-- Segments of a reduction whose results wait for a member's credit, which hold their entry slots (R324). -/
def State.segsWaiting (s : State) (n : Nat) (g : Group) (o : CollOp) : Nat :=
  ((g.ends.flatMap (fun r => match s.stream (g.key r) with
    | some c => (c.outData.filter (fun tu => tu.type == 0x10 && tu.aux == collAux n o.seq)).map (fun tu => tu.addr % 2 ^ 40 / 16384)
    | none => [])).eraseDups).length

/-- Open what the running reduction's quota allows now. -/
def State.openMore (s : State) (n : Nat) : State :=
  match s.group n with
  | none => s
  | some g => match g.cur with
    | none => s
    | some o =>
      if 2 ≤ o.desc.op then s else s.updOp n (CollOp.openSegs (o.desc.segments g.members.length) (s.segsWaiting n g o))

/-- A segment's result is known: it goes to the members' streams or to memory, and its slots open the next segment
(R321, R323, R324). -/
def State.finishSeg (s : State) (n sg : Nat) (words : List Nat) : State :=
  match s.group n with
  | none => s
  | some g => match g.cur with
    | none => s
    | some o =>
      let d := o.desc
      let k := g.members.length
      let lo := sg * 16384
      let s1 :=
        if d.odst = 0 then s.collStore n (s.collectorOf g sg (ownerRow g sg)) (d.dst + lo * elemSize d.otype) d.otype words
        else if d.op = 0 then s.each g.ends (fun s r => s.sendElems n g o r d.otype lo words)
        else s.each g.ends (fun s r =>
          let a := max lo (r * d.count)
          let b := min (lo + words.length) ((r + 1) * d.count)
          if a < b then s.sendElems n g o r d.otype a ((words.drop (a - lo)).take (b - a)) else s)
      let s2 := (s1.updOp n (fun o => { o with segs := Map.del sg o.segs })).openMore n
      match s2.group n with
      | none => s2
      | some g2 => match g2.cur with
        | none => s2
        | some o2 => if o2.segs.isEmpty && o2.nextSeg == d.segments k then s2.sendDones n g2 o2 g2.flags else s2

/-! ### Peer modules (R332) -/

/-- Modules that a group spans. -/
def Group.modules (g : Group) : Nat := (g.members.countP (·.peer)) + 1

/-- The rank of the PEER member that stands for module m: the PEER entries in list order are the other modules in ascending
order. -/
def Group.peerRank (g : Group) (m : Nat) : Nat :=
  let peers := (g.members.zipIdx.filter (fun x => x.1.peer)).map (·.2)
  peers.getD (if m < g.moduleRank then m else m - 1) 0

/-- The owner's own reduction of segment sg is done: it is the result, unless peers have a part in it; a module that does
not finish the segment sends its partial on and waits; the one that does sends the result to every peer (R332). -/
def State.ownerDone (s : State) (n sg : Nat) (words : List Nat) : State :=
  match s.group n with
  | none => s
  | some g => match g.cur with
    | none => s
    | some o =>
      let m := g.modules
      if m = 1 then s.finishSeg n sg words
      else if sg % m = g.moduleRank then
        let others := (List.range m).filter (fun i => i != g.moduleRank)
        (s.each others (fun s i => s.sendElems n g o (g.peerRank i) o.desc.otype (sg * 16384) words)).finishSeg n sg words
      else
        (s.sendElems n g o (g.peerRank (sg % m)) 0 (sg * 16384) words).updOp n (fun o =>
          { o with segs := Map.upd ({} : Segment) o.segs sg (fun x => { x with sentPeer := true }) })

/-! ### Optical entry stages (R326 to R328) -/

/-- Can a tile's OME run an optical entry stage of a class? -/
def State.optOk (s : State) (t cls : Nat) : Bool :=
  let st := s.f (F.OME_STAT_STATE t)
  s.b (F.COLL_CTL_OPT_EN t) && s.inService t && st != 0 && st != 1 && st != 8 && !s.classOff t cls

/-- The contributions of a segment that enter at a tile, by rank; memory contributions are read now (R321). -/
def State.contribs (s : State) (g : Group) (d : OpDesc) (sg t : Nat) : Except Nat (List (List Nat)) × State :=
  let len := d.segLen g.members.length sg
  let ranks := g.ends.filter (fun r => s.entryOf g d r sg == t)
  if d.isrc = 1 then
    let seg := match g.cur with | some o => Map.get ({} : Segment) o.segs sg | none => {}
    (.ok (ranks.map (fun r => Map.get [] seg.got r)), s)
  else
    let size := elemSize d.itype
    match State.readVecs t (ranks.map (fun r => (d.src + r * d.lds + sg * 16384 * size, len * size))) s with
    | (.error st, s1) => (.error st, s1)
    | (.ok l, s1) => (.ok (l.map (fun bs => (List.range len).map (fun i => quiet (elemIn d.itype bs i)))), s1)

/-- One group of at most 32 contributions reduced on the OME (R326): per input vector of ⌊32 / c⌋ positions, NaN where its
block is NONFINITE, 0 where it is a zero block, else what the engine gives, which nothing fixes beyond R327. -/
def State.opticalGroup (s : State) (vs : List (List Nat)) (len : Nat) : List Nat × Bool × State :=
  let c := vs.length
  let per := 32 / max c 1
  (List.range len).foldl (fun (acc : List Nat × Bool × State) i =>
    let (out, bad, s) := acc
    let first := i / per * per
    let blk := convertBlock ((List.range 32).map (fun l =>
      if l < per * c then
        let pos := first + l / c
        if pos < len then f32Num ((vs.getD (l % c) []).getD pos 0) else .fin ⟨0, 0⟩
      else .fin ⟨0, 0⟩))
    if blk.nonfinite then (out ++ [f32NaN], true, s)
    else if blk.exp = 0 then (out ++ [0], bad, s)
    else let (v, s1) := s.fresh; (out ++ [v.toNat % 2 ^ 32], bad, s1)) ([], false, s)

/-- The optical partial of a tile: groups of 32 contributions, the group results added in binary32 (R326). -/
def State.opticalPartial (len : Nat) : List (List (List Nat)) → State → List (List Nat) × Bool × State
  | [], s => ([], false, s)
  | g :: r, s =>
    let (a, bad, s1) := s.opticalGroup g len
    let (l, bad2, s2) := State.opticalPartial len r s1
    (a :: l, bad || bad2, s2)

/-- Passes of a segment's optical entry stage at a tile with c contributions: groups × runs of 8,192 vectors × the class's
passes (R271, R326). -/
def opticalPasses (c len cls : Nat) : Nat :=
  let per := 32 / max 1 (min c 32)
  ceilDiv c 32 * ceilDiv (ceilDiv len per) 8192 * (cls + 1)

/-- The optical entry stage that a tile's OME takes next: context, operation and segment. -/
def State.collNext (s : State) (t : Nat) : Option (Nat × Nat × Nat) :=
  s.ctxKeys.findSome? (fun n =>
    match s.group n with
    | none => none
    | some g => match g.cur with
      | none => none
      | some o =>
        if o.path = 1 && decide (o.desc.op < 2) && s.optOk t o.cls then
          (o.segs.find? (fun x => (s.entries g o.desc x.1).contains t && (Map.find t x.2.optical).isNone &&
            (Map.find t x.2.entry).isNone && s.gotAll g o.desc x.1 x.2 t)).map (fun x => (n, o.seq, x.1))
        else none)

/-! ### Stages (R321) -/

/-- The entry stage at a tile: the contributions that enter there reduced into one partial. -/
def State.entryStage (s : State) (n sg t : Nat) : State :=
  match s.group n with
  | none => s
  | some g => match g.cur with
    | none => s
    | some o => match Map.find sg o.segs with
      | none => s
      | some seg =>
        let d := o.desc
        let len := d.segLen g.members.length sg
        let opt := o.path == 1
        if !(s.entries g d sg).contains t || (Map.find t seg.entry).isSome || !s.gotAll g d sg seg t ||
            (opt && (Map.find t seg.optical).isNone && s.optOk t o.cls) then s
        else
          match s.contribs g d sg t with
          | (.error st, s1) => s1.collMemFail n st (if st = stFault then t else 255)
          | (.ok vs, s1) =>
            let put := fun (s : State) (w : List Nat) => s.updOp n (fun o =>
              { o with segs := Map.upd ({} : Segment) o.segs sg (fun x => { x with entry := Map.put t w x.entry }) })
            if opt && Map.find t seg.optical == some false then
              let (l, bad, s2) := State.opticalPartial len (chunks 32 (vs.length / 32 + 1) vs) s1
              let (w, s3) := if l.length ≤ 1 then (l.headD [], s2) else State.reduceAny 0 (List.range len) l s2
              put (if bad then s3.collFlag n 2 else s3) w
            else
              let s2 := if opt then (s1.collFlag n 1).bump (F.COLL_CNT_FALLBACK t) else s1
              let (w, s3) := State.reduceAny d.redop (List.range len) vs s2
              put (s3.countDig t (len * vs.length)) w

/-- The collector's stage in a row. -/
def State.collectStage (s : State) (n sg row : Nat) : State :=
  match s.group n with
  | none => s
  | some g => match g.cur with
    | none => s
    | some o => match Map.find sg o.segs with
      | none => s
      | some seg =>
        let len := o.desc.segLen g.members.length sg
        let mine := (s.entries g o.desc sg).filter (fun t => tileRow t == row)
        if !(maskRows g.mask).contains row || mine.isEmpty || (Map.find row seg.rows).isSome ||
            !mine.all (fun t => (Map.find t seg.entry).isSome) then s
        else
          let (w, s1) := State.reduceAny o.desc.redop (List.range len) (mine.map (fun t => Map.get [] seg.entry t)) s
          (s1.countDig (s.collectorOf g sg row) (len * mine.length)).updOp n (fun o =>
            { o with segs := Map.upd ({} : Segment) o.segs sg (fun x => { x with rows := Map.put row w x.rows }) })

/-- The owner's stage: the row partials, those of entry tiles in rows the mask does not touch, and, in the module that
finishes the segment, the partials of every peer (R321, R332). -/
def State.ownerStage (s : State) (n sg : Nat) : State :=
  match s.group n with
  | none => s
  | some g => match g.cur with
    | none => s
    | some o => match Map.find sg o.segs with
      | none => s
      | some seg =>
        let len := o.desc.segLen g.members.length sg
        let es := s.entries g o.desc sg
        let rows := (maskRows g.mask).filter (fun r => es.any (fun t => tileRow t == r))
        let direct := es.filter (fun t => !(maskRows g.mask).contains (tileRow t))
        let finisher := sg % g.modules == g.moduleRank
        let peers := seg.peers.filter (fun x => x.2.length == len)
        if seg.sentPeer || !rows.all (fun r => (Map.find r seg.rows).isSome) || !direct.all (fun t => (Map.find t seg.entry).isSome) ||
            (finisher && peers.length + 1 != g.modules) then s
        else
          let parts := rows.map (fun r => Map.get [] seg.rows r) ++ direct.map (fun t => Map.get [] seg.entry t) ++
            (if finisher then peers.map (·.2) else [])
          let (w, s1) := State.reduceAny o.desc.redop (List.range len) parts s
          (s1.countDig (s.collectorOf g sg (ownerRow g sg)) (len * parts.length)).ownerDone n sg w

/-! ### Codes 2 to 4: copies (R316, R322) -/

/-- Forward elements of a rank to those that receive them: `idx` counts in what the rank sends. -/
def State.forward (s : State) (n : Nat) (g : Group) (o : CollOp) (rank idx : Nat) (words : List Nat) : State :=
  let d := o.desc
  let b := d.count
  let out := fun (s : State) (dest at_ : Nat) (ws : List Nat) =>
    if d.odst = 1 then s.sendElems n g o dest d.otype at_ ws
    else s.collStore n (s.homeServer ((maskTiles g.mask).headD 0)) (d.dst + (if d.op = 4 then dest * d.ldd else 0) + at_ * elemSize d.otype) d.otype ws
  let targets := if d.odst = 1 then g.ends else g.ends.take 1
  match d.op with
  | 2 => s.each targets (fun s r => out s r (rank * b + idx) words)
  | 3 => s.each targets (fun s r => out s r idx words)
  | _ =>
    -- the run may reach into the blocks of several ranks
    s.each g.ends (fun s r =>
      let a := max idx (r * b)
      let e := min (idx + words.length) ((r + 1) * b)
      if a < e then out s r (rank * b + (a - r * b)) ((words.drop (a - idx)).take (e - a)) else s)

/-- Has every rank sent all it sends (codes 2 to 4)? -/
def Group.allSent (g : Group) (o : CollOp) : Bool :=
  g.ends.all (fun r => Map.get 0 o.expect r == o.desc.sends g.members.length r)

/-! ### Expert routing (R330, R331) -/

/-- Key of an expert output: source, token and slot. -/
def outKey (src token slot : Nat) : Nat := 2 ^ 40 * src + 16 * token + slot

/-- Admit the copies of a token at their experts' hosts (R330): those within CAP, the others dropped and counted. -/
def State.admitToken (s : State) (n rank token : Nat) : State :=
  match s.group n with
  | none => s
  | some g => match g.cur, g.routes.find? (fun r => r.src == rank && r.token == token) with
    | some o, some rt =>
      let step := fun (acc : List (Nat × Nat × Bool) × List (Nat × Nat) × List Nat) (sl : Nat × Nat × Bool) =>
        let (slots, adm, drops) := acc
        let k := Map.get 0 adm sl.1
        match g.host sl.1 with
        | some h => if k < o.desc.cap then (slots ++ [(sl.1, sl.2.1, true)], Map.put sl.1 (k + 1) adm, drops)
                    else (slots ++ [(sl.1, sl.2.1, false)], adm, drops ++ [s.homeServer (g.key h / 2 ^ 15)])
        | none => (slots ++ [(sl.1, sl.2.1, false)], adm, drops ++ [s.homeServer (g.key rank / 2 ^ 15)])
      let (slots, adm, drops) := rt.slots.foldl step ([], o.admitted, [])
      let s1 := s.updGroup n (fun g => { g with
        routes := g.routes.map (fun r => if r.src = rank && r.token = token then { r with slots := slots } else r),
        cur := g.cur.map (fun o => { o with admitted := adm }) })
      let s2 := s1.each drops (fun s t => (s.bump (F.COLL_CNT_DROP_TOK t)).note 0x5 .collDrop 1 (tgtTile t))
      match g.head with
      | some r => s2.updRun n r.id (fun x => { x with dropped := x.dropped + drops.length })
      | none => s2
    | _, _ => s

/-- A token's transport unit goes to the host of each of its admitted copies (R330). -/
def State.sendCopies (s : State) (n rank token : Nat) (tu : Tu) : State :=
  match s.group n with
  | none => s
  | some g => match g.cur, g.routes.find? (fun r => r.src == rank && r.token == token) with
    | some o, some rt =>
      let k := tu.data.length / elemSize o.desc.itype
      let data := (List.range k).flatMap (fun i => elemOut o.desc.otype (elemIn o.desc.itype tu.data i))
      s.each (rt.slots.zipIdx.filter (fun x => x.1.2.2)) (fun s x =>
        match g.host x.1.1 with
        | none => s
        | some h =>
          let s1 := if s.notHolder then s else
            -- a copy may be longer in OTYPE than one transport unit
            let parts := chunks (208 / elemSize o.desc.otype * elemSize o.desc.otype) (data.length / 104 + 2) data
            s.each parts.zipIdx (fun s y => s.queueTu (g.key h)
              { type := 0x10, flags := (if y.2 = 0 then tu.flags % 2 else 0) + (if y.2 + 1 = parts.length then tu.flags / 2 % 2 * 2 else 0),
                stream := 0, tsn := 0, aux := collAux n o.seq, addr := token + rank * 2 ^ 32 + x.2 * 2 ^ 48, data := y.1 })
          if tu.flags / 2 % 2 = 1 then s1.updOp n (fun o => { o with copies := Map.put h (Map.get 0 o.copies h + 1) o.copies }) else s1)
    | _, _ => s

/-- One element of a token's gated sum (R331): the gates as weights over the admitted slots, on the OME: NaN for a NONFINITE
block, 0 for a zero block, else what the engine gives. -/
def State.gatedElem (s : State) (gates vals : List Nat) : Nat × Bool × State :=
  let pad := fun (l : List Nat) => convertBlock ((List.range 32).map (fun i => if i < l.length then f32Num (l.getD i 0) else .fin ⟨0, 0⟩))
  let w := pad gates
  let x := pad vals
  if w.nonfinite || x.nonfinite then (f32NaN, true, s)
  else if w.exp = 0 || x.exp = 0 then (0, false, s)
  else let (v, s1) := s.fresh; (v.toNat % 2 ^ 32, false, s1)

/-- The gated sums of a token's elements. -/
def State.gatedSum (gates : List Nat) : List (List Nat) → State → List Nat × Bool × State
  | [], s => ([], false, s)
  | vals :: r, s =>
    let (y, bad, s1) := s.gatedElem gates vals
    let (l, bad2, s2) := State.gatedSum gates r s1
    (y :: l, bad || bad2, s2)

/-- Return a source's next token whose admitted copies have all come back (R331), in its token order; true where one was
returned. -/
def State.returnToken (s : State) (n rank : Nat) : Option State :=
  match s.group n with
  | none => none
  | some g => match g.cur with
    | none => none
    | some o =>
      let token := Map.get 0 o.copies rank
      match g.routes.find? (fun r => r.src == rank && r.token == token) with
      | none => none
      | some rt =>
        let live := rt.slots.zipIdx.filter (fun x => x.1.2.2)
        let outs := live.map (fun x => Map.get (false, []) o.outs (outKey rank token x.2))
        if !outs.all (·.1) then none
        else
          let d := o.desc
          let vals := (List.range d.hidden).map (fun j => outs.map (fun b => elemIn d.itype b.2 j))
          let (ws, bad, s1) := State.gatedSum (live.map (fun x => x.1.2.1)) vals s
          let t := s.homeServer (g.key rank / 2 ^ 15)
          let s2 := (if bad then s1.collFlag n 2 else s1).bump (F.COLL_CNT_OPT_PASS t) (o.cls % 4 + 1)
          let data := ws.flatMap (elemOut d.otype)
          let parts := chunks (208 / elemSize d.otype * elemSize d.otype) (data.length / 104 + 2) data
          let s3 := if s2.notHolder then s2 else s2.each parts.zipIdx (fun s y => s.queueTu (g.key rank)
            { type := 0x10, flags := (if y.2 = 0 then 1 else 0) + (if y.2 + 1 = parts.length then 2 else 0), stream := 0, tsn := 0,
              aux := collAux n o.seq, addr := token + rank * 2 ^ 32 + 0xFF * 2 ^ 48, data := y.1 })
          some (s3.updOp n (fun o => { o with copies := Map.put rank (token + 1) o.copies }))

/-- Return all tokens of a source that are ready; once every token of every source is back and every host has ended, the
results are out. -/
def State.returnTokens (n rank : Nat) : Nat → State → State
  | 0, s => s
  | k + 1, s => match s.returnToken n rank with | some s1 => State.returnTokens n rank k s1 | none => s

/-- Close a DISPATCH or COMBINE whose work is complete (R330, R331). -/
def State.routeDone (s : State) (n : Nat) : State :=
  match s.group n with
  | none => s
  | some g => match g.cur with
    | none => s
    | some o =>
      if o.resultsOut then s
      else if o.desc.op = 5 then
        if g.ends.all (fun r => (Map.find r o.ended).isSome) then s.sendDones n g o g.flags else s
      else
        let hosts := g.ends.filter (fun r => (g.members.getD r ⟨0, false, 0, 0⟩).experts != 0)
        let back := g.routes.all (fun r => decide (r.token < Map.get 0 o.copies r.src))
        if hosts.all (fun r => (Map.find r o.ended).isSome) && back then
          (s.sendDones n g o g.flags).updGroup n (fun g => { g with routes := [] })
        else s

/-! ### Taking contributions (R320) -/

/-- What becomes of a collective transport unit at the head of its stream: held, dropped and counted, an error of the
operation, or taken. -/
inductive CollTake where
  | hold
  | drop
  | fail
  | taken (s : State)

/-- Does a unit continue a token's message of `size` bytes, of which `got` are in (R319, R320): FIRST on the first one, LAST on
the one that completes it, and nothing beyond? -/
def inMessage (size got : Nat) (tu : Tu) : Bool :=
  !tu.data.isEmpty && decide (got + tu.data.length ≤ size) && (tu.flags % 2 == 1) == (got == 0) &&
    (tu.flags / 2 % 2 == 1) == (got + tu.data.length == size)

/-- Take a transport unit of the running operation from a rank. -/
def State.takeInto (s : State) (n : Nat) (g : Group) (o : CollOp) (rank : Nat) (tu : Tu) : CollTake :=
  let d := o.desc
  let k := g.members.length
  let m := g.members.getD rank ⟨0, false, 0, 0⟩
  let size := if m.peer then (if o.desc.op = 0 && (tu.addr % 2 ^ 40 / 16384) % g.modules == g.moduleRank then 4 else elemSize d.otype) else elemSize d.itype
  let cnt := tu.data.length / size
  let ty := if m.peer then (if size = 4 then 0 else d.otype) else d.itype
  let words := (List.range cnt).map (fun i => quiet (elemIn ty tu.data i))
  let idx := tu.addr % 2 ^ 40
  if tu.type = 0x10 && d.op < 2 then
    let sg := idx / 16384
    if m.peer then
      match Map.find sg o.segs with
      | none => if idx < d.total k then .hold else .fail
      | some seg =>
        let have_ := Map.get [] seg.peers rank
        if idx ≠ sg * 16384 + have_.length || d.segLen k sg < have_.length + cnt then .fail
        else
          let s1 := s.updOp n (fun o => { o with segs := Map.upd ({} : Segment) o.segs sg (fun x => { x with peers := Map.put rank (have_ ++ words) x.peers }) })
          -- the finished result coming back from the module that finishes the segment
          if sg % g.modules ≠ g.moduleRank && (have_ ++ words).length = d.segLen k sg then .taken (s1.finishSeg n sg (have_ ++ words))
          else .taken s1
    else if d.isrc = 0 || idx ≠ Map.get 0 o.expect rank || d.sends k rank < idx + cnt || 16384 < idx % 16384 + cnt then .fail
    else if (Map.find sg o.segs).isNone then .hold
    else .taken (s.updOp n (fun o => { o with
      expect := Map.put rank (idx + cnt) o.expect,
      segs := Map.upd ({} : Segment) o.segs sg (fun x => { x with got := Map.put rank (Map.get [] x.got rank ++ words) x.got }) }))
  else if tu.type = 0x10 && d.op < 5 then
    if d.isrc = 0 || idx ≠ Map.get 0 o.expect rank || d.sends k rank < idx + cnt then .fail
    else
      let s1 := (s.updOp n (fun o => { o with expect := Map.put rank (idx + cnt) o.expect })).forward n g o rank idx words
      match (s1.group n).bind (·.cur) with
      | some o1 => if g.allSent o1 then .taken (s1.sendDones n g o1 g.flags) else .taken s1
      | none => .taken s1
  else if d.op = 5 then
    let token := tu.addr % 2 ^ 32
    let size := d.hidden * elemSize d.itype
    let part := Map.get 0 o.part rank
    let whole := Map.get 0 o.expect rank == 0 || part == size
    match tu.type with
    | 0x11 =>
      if !whole || (Map.find rank o.ended).isSome || token ≠ Map.get 0 o.expect rank || d.tokens ≤ token then .fail
      else
        let slots := (List.range d.topk).map (fun i => (leAt tu.data (8 * i) 2, leAt tu.data (8 * i + 4) 4, false))
        .taken (s.updGroup n (fun g => { g with routes := g.routes ++ [⟨rank, token, slots⟩],
                                                cur := g.cur.map (fun o => { o with expect := Map.put rank (token + 1) o.expect, part := Map.put rank 0 o.part }) }))
    | 0x12 => if !whole || (Map.find rank o.ended).isSome then .fail else .taken ((s.updOp n (fun o => { o with ended := Map.put rank tu.addr o.ended })).routeDone n)
    | _ =>
      if token + 1 ≠ Map.get 0 o.expect rank || !inMessage size part tu then .fail
      else
        let s1 := s.updOp n (fun o => { o with part := Map.put rank (part + tu.data.length) o.part })
        .taken ((if part = 0 then s1.admitToken n rank token else s1).sendCopies n rank token tu)
  else if d.op = 6 then
    let token := tu.addr % 2 ^ 32
    let src := tu.addr / 2 ^ 32 % 2 ^ 16
    let slot := tu.addr / 2 ^ 48 % 256
    match tu.type with
    | 0x12 =>
      if (Map.find rank o.ended).isSome then .fail
      else .taken ((s.updOp n (fun o => { o with ended := Map.put rank tu.addr o.ended })).routeDone n)
    | 0x10 =>
      let ok := g.routes.any (fun r => r.src == src && r.token == token &&
        (match r.slots[slot]? with | some x => x.2.2 && g.host x.1 == some rank | none => false))
      let key := outKey src token slot
      let old := (Map.get (false, []) o.outs key).2
      if !ok || (Map.find rank o.ended).isSome || !inMessage (d.hidden * elemSize d.itype) old.length tu then .fail
      else .taken (s.updOp n (fun o => { o with outs := Map.put key (tu.flags / 2 % 2 == 1, old ++ tu.data) o.outs }))
    | _ => .fail
  else .fail

/-- A collective transport unit at the head of a member's stream (R320). -/
def State.collTake (s : State) (key : Nat) (tu : Tu) : CollTake :=
  let n := tu.aux % 4096
  let seq := tu.aux / 4096 % 65536
  match s.group n with
  | none => .drop
  | some g =>
    match g.members.findIdx? (fun m => m.key == key) with
    | none => .drop
    | some rank =>
      let now := match g.cur with
        | some o => o.seq
        | none => (g.head.map (fun r => (r.first + r.done) % 65536)).getD g.nextSeq
      if 32768 ≤ (seq + 65536 - now) % 65536 then .drop
      else match g.cur with
        | none => .hold
        | some o => if o.seq ≠ seq then .hold else if o.resultsOut then .drop else s.takeInto n g o rank tu

/-! ### Starting an operation (R323, R329, R333) -/

/-- The OME class that TOL names: SPLIT3, SPLIT2, SINGLE. -/
def tolClass (tol : Nat) : Nat := 3 - tol

/-- The path and class of an operation (R317, R329). -/
def State.choosePath (s : State) (g : Group) (d : OpDesc) : Nat × Nat :=
  let lead := (maskTiles g.mask).headD 0
  let ents := (List.range (d.segments g.members.length)).foldl (fun l sg => (l ++ s.entries g d sg).eraseDups) []
  let busiest := (ents.map (fun t => (List.range (d.segments g.members.length)).foldl (fun m sg =>
    max m (g.ends.countP (fun r => s.entryOf g d r sg == t))) 0)).foldl max 0
  let cls := if d.tol = 0 then none
    else ([0, 1, 2].filter (fun c => tolClass d.tol ≤ c)).find? (fun c => ents.all (fun t => s.optOk t c))
  if 2 ≤ d.op then (0, if d.op = 6 then tolClass d.tol else 255)
  else if d.path = 0 then (0, 255)
  else if d.path = 1 then (1, cls.getD (tolClass d.tol))
  else if d.redop = 0 && d.tol != 0 && decide (s.f (F.COLL_CTL_AUTO_MINC lead) ≤ busiest) &&
      decide (s.f (F.COLL_CTL_AUTO_MIN lead) * 65536 ≤ d.sends g.members.length 0) && ents.all (fun t => s.b (F.COLL_CTL_OPT_EN t)) then
    match cls with
    | some c => (1, c)
    | none => (0, 255)
  else (0, 255)

/-- Contributions of codes 2 to 4 that lie in memory are read and forwarded when the operation runs. -/
def State.copyMemory (n : Nat) (g : Group) (o : CollOp) : List Nat → State → State
  | [], s => s
  | r :: rest, s =>
    let d := o.desc
    let k := d.sends g.members.length r
    let size := elemSize d.itype
    match s.readRange ((maskTiles g.mask).headD 0) (d.src + r * d.lds) (k * size) with
    | (.error st, s1) => s1.collMemFail n st 255
    | (.ok bs, s1) =>
      let words := (List.range k).map (fun i => quiet (elemIn d.itype bs i))
      State.copyMemory n g o rest ((s1.forward n g o r 0 words).updOp n (fun o => { o with expect := Map.put r k o.expect }))

/-- Start the next operation of a context, where none runs and every tile it uses can reserve its quota (R323, R333). -/
def State.startOp (s : State) (n : Nat) : State :=
  match s.group n with
  | none => s
  | some g => match g.cur, g.head with
    | none, some r =>
      let d := r.desc
      let dead := (maskTiles g.mask).find? (fun t => (s.server t).isNone)
      if (s.opTiles g d).any (fun t => 4 ≤ (s.opsOn t).length) || g.broken.isSome then s
      else
        let (path, cls) := s.choosePath g d
        let seq := (r.first + r.done) % 65536
        let o : CollOp := { seq := seq, run := r.id, desc := d, path := path, cls := cls }
        let o1 := if d.op < 2 then CollOp.openSegs (d.segments g.members.length) 0 o else o
        let moved := (maskTiles g.mask).any (fun t => s.b (F.TILE_ROLE_ENGINE_OUT t))
        let solo := s.f F.TWIN_STAT_STATE == 0
        let s1 := (s.updGroup n (fun g => { g with cur := some o1, routes := if d.op = 6 then g.routes else [], lastOp := some d })).updRun n r.id (fun x => { x with
          state := 1, cls := if cls = 255 then x.cls else cls, startBell := some (x.startBell.getD s.bell),
          path := (match x.path with | none => some path | some p => some (if p = path then p else 2)),
          flags := x.flags ||| (if moved then 16 else 0) ||| (if solo then 8 else 0) })
        match dead with
        | some t => s1.collFail n stFault (s1.faultDetail (s1.engineCause t)) 0xFFFF t
        | none =>
          if 2 ≤ d.op && d.op < 5 && d.isrc = 0 then
            let s2 := State.copyMemory n g o1 g.ends s1
            match (s2.group n).bind (·.cur) with
            | some o2 => s2.sendDones n g o2 g.flags
            | none => s2
          else s1
    | _, _ => s

end Sys2Proof.Machine
end

