-- ==== Sys2Proof/Machine/StreamRun.lean ====
section
/-! DEFINITION. Machine/StreamRun.lean: transport units that reach a Homeroom: acceptance by TSN and credit (R221 to R226,
R231 to R234), their execution in order (R232), the HOLDER_NOTICE of a module without the Hall Pass (R436), and how a
stream's slot is freed. -/

namespace Sys2Proof.Machine

/-! ### Accesses of a stream (R222) -/

/-- Execute a MEM_READ: its status and data. A length above 208 is answered ERR_PARAM (assumption 33); length 0 is checked
and answered OK_EMPTY. -/
def State.memRead (s : State) (t : Nat) (tu : Tu) : Nat × List Byte × State :=
  let n := tu.aux
  if 208 < n then (stParam, [], s)
  else match s.resolve t tu.addr n false with
    | (.bad st, s1) => (st, [], s1)
    | (.noCopy, s1) => (stFault, [], s1)
    | (.remote node addr, s1) =>
      (match s1.remoteAccess t node addr tu n with
       | (.error st, s2) => (st, [], s2)
       | (.ok bs, s2) => (if n = 0 then stOkEmpty else stOk, bs, s2))
    | (.at_ mt key _, s1) =>
      if n = 0 then (stOkEmpty, [], s1)
      else match s1.fetch mt key n with
        | .error st => (st, [], s1)
        | .ok bs => (stOk, bs, s1)

/-- The tile whose memory an access reaches. -/
def State.memTileOf (s : State) (a : Nat) : Option Nat :=
  let e := s.famEntry (addrIndex a)
  if decide (e.kind = .local_) && addrValid a then some e.tile else none

/-- Does an access find its frame's tile in D1 or D2, so that it waits while the tile wakes (R259)? -/
def State.waitsForTile (s : State) (a : Nat) : Option Nat :=
  match s.memTileOf a with
  | some t => if s.dozing t then some t else none
  | none => none

/-- Is the entry of an address being moved, so that writes are held (R253)? -/
def State.migratingAt (s : State) (a : Nat) : Bool := (s.famEntry (addrIndex a)).migrating

/-! ### Execution in TSN order (R232) -/

/-- Data credits of a stream are returned, at once or once the partner has executed the record (R233, R439). -/
def State.dataDone (s : State) (key n : Nat) (m : Option (Nat × Nat)) : State :=
  match m with
  | some (t, k) => if s.mustWait m then s.holdFor t k (.data key n) else s.returnData key n
  | none => s.returnData key n

/-- A mirror record for an input, where a holder mirrors. -/
def State.mirrorIf (s : State) (t kind aux addr : Nat) (data : List Byte) : State × Option (Nat × Nat) :=
  if s.mirrors then let (s1, m) := s.mirror t kind aux addr data; (s1, some (t, m)) else (s, none)

/-- The counts of a stream once what it has accepted and executed is complete, as a mirror record carries them (R437): TSN
expected, send TSNs, data written and freed, ring counts, requests executed, endpoint credit and data sent. -/
def State.countWords (s : State) (key : Nat) (c : Stream) : List Nat :=
  let reqs := c.waiting.countP (fun tu => tu.type == 2 || tu.type == 3)
  let held := s.twin.waits.foldl (fun n w => match w.what with | .data k x => if k = key then n + x else n | _ => n) 0
  [(c.rx0 + 2 ^ 32 - c.waiting.length) % 2 ^ 32, c.tx0, c.tx1, (c.written + 2 ^ 32 - (c.waiting.length - reqs)) % 2 ^ 32,
   (c.freed + held) % 2 ^ 32, c.ringW, c.ringR, (c.reqs + 2 ^ 32 - reqs) % 2 ^ 32, c.epFreed, c.sent]

/-- Mirror a stream's counts, where a holder mirrors (R437). -/
def State.mirrorCounts (s : State) (key : Nat) : State × Option (Nat × Nat) :=
  match s.stream key with
  | some c => s.mirrorIf (s.homeServer (key / 2 ^ 15)) 1 1 (s.handleOf key) ((s.countWords key c).flatMap (leBytes 8))
  | none => (s, none)

/-- Write a STREAM_DATA transport unit into the stream's ring (R233): slot by slot, 232 bytes and 24 that the spec leaves
open (assumption 31). A ring that cannot be written makes the stream FAULTED (assumption 32). -/
def State.ringPut (s : State) (key : Nat) (st : Stream) (tu : Tu) : State :=
  let t := s.homeServer (key / 2 ^ 15)
  let a := st.ring + st.ringW % st.rxSlots * 256
  let (pad, s1) := State.freshBytes 24 s
  let bytes := tu.bytes ++ pad
  match s1.writeFabric t a bytes with
  | (.error _, s2) => s2.faultStream key
  | (.ok s2, _) => ((s2.mirrorIf t 0 0 a bytes).1).updStream key (fun c => { c with ringW := c.ringW + 1 })

/-- The oldest unit has left its stream. -/
def State.popTu (s : State) (key : Nat) : State := s.updStream key (fun c => { c with waiting := c.waiting.drop 1 })

/-- STREAM_DATA: to the job that reads the stream, or into its ring (R232). -/
def State.dataTu (s : State) (key : Nat) (st : Stream) (tu : Tu) : Option State :=
  match s.jobOfStream key with
  | some (j, i) => if j.room i then some (((s.popTu key).jobTake j i key tu).returnData key 1) else none
  | none =>
    let a := st.ring + st.ringW % st.rxSlots * 256
    if s.migratingAt a || (s.waitsForTile a).isSome then none else some ((s.popTu key).ringPut key st tu)

/-- MEM_READ: the answer carries the bytes or the status; a mirrored read sends only a TSN advance (R437). -/
def State.pumpRead (s : State) (key t : Nat) (tu : Tu) : State :=
  let r := s.memRead t tu
  let s2 := r.2.2.sendTu key 1 { type := 4, flags := 0, stream := 0, tsn := 0, aux := r.1, addr := tu.addr, data := r.2.1 }
  let m := s2.mirrorCounts key
  m.1.reqDone key m.2

/-- A MEM_WRITE that failed is answered with its status. -/
def State.writeFailed (s : State) (key status addr : Nat) (m : Option (Nat × Nat)) : State :=
  (s.sendTu key 1 { type := 5, flags := 0, stream := 0, tsn := 0, aux := status, addr := addr, data := [] }).reqDone key m

/-- MEM_WRITE, whose mirror record is `m`: stored, held behind a migration (R253), or answered with its status. -/
def State.pumpWrite (s : State) (key t : Nat) (tu : Tu) (m : Option (Nat × Nat)) : State :=
  match s.resolve t tu.addr tu.data.length true with
  | (.bad status, s2) => s2.writeFailed key status tu.addr m
  | (.noCopy, s2) => s2.writeFailed key stFault tu.addr m
  | (.remote node addr, s2) =>
    (match s2.remoteAccess t node addr tu 0 with
     | (.error status, s3) => s3.writeFailed key status tu.addr m
     | (.ok _, s3) => s3.reqDone key m)
  | (.at_ _ _ e, s2) =>
    if tu.data.isEmpty then s2.reqDone key m
    else if e.migrating then
      s2.updPool (fun p => { p with held := p.held ++ [⟨t, some key, none, tu.addr, tu.data, m⟩] })
    else match s2.store e.tile (dramKey e.tile e.frame (addrByte tu.addr)) tu.data with
      | .ok s3 => s3.reqDone key m
      | .error status => s2.writeFailed key status tu.addr m

/-- A collective unit: it waits, is dropped, fails its operation, or is taken (in the state from which it has left its stream). -/
def State.pumpColl (s : State) (key t : Nat) (tu : Tu) : Option State :=
  match s.collTake key tu with
  | .hold => none
  | .drop => some ((((s.popTu key).bump (F.COLL_CNT_BADTU t))).returnData key 1)
  | .fail =>
    let n := tu.aux % 4096
    let rank := ((s.group n).bind (fun g => g.members.findIdx? (fun m => m.key == key))).getD 0xFFFF
    some (((s.popTu key).collFail n stParam 0 rank 255).returnData key 1)
  | .taken _ =>
    match (s.popTu key).collTake key tu with
    | .taken s1 =>
      let m := s1.mirrorIf t 2 0 (s1.handleOf key) tu.bytes
      some (m.1.dataDone key 1 m.2)
    | _ => none

/-- What becomes of the oldest transport unit that a stream has accepted: it waits, or it is executed and leaves. -/
def State.pumpOne (s : State) (key : Nat) : Option State :=
  match s.stream key with
  | none => none
  | some st =>
    match st.waiting with
    | [] => none
    | tu :: _ =>
      let t := s.homeServer (key / 2 ^ 15)
      if s.pool.held.any (fun h => h.stream == some key) then none
      else match tu.type with
        | 1 => s.dataTu key st tu
        | 2 => if (s.waitsForTile tu.addr).isSome then none else some ((s.popTu key).pumpRead key t tu)
        | 3 =>
          if (s.waitsForTile tu.addr).isSome then none
          else
            let m := (s.popTu key).mirrorIf t 0 0 tu.addr tu.data
            some (m.1.pumpWrite key t tu m.2)
        | _ => s.pumpColl key t tu

/-- Execute what a stream has accepted, as far as nothing holds it. -/
def State.pumpStreamN (key : Nat) : Nat → State → State
  | 0, s => s
  | n + 1, s => match s.pumpOne key with | some s1 => State.pumpStreamN key n s1 | none => s

/-- Execute what a stream has accepted. Accesses that wait for a tile in D1 or D2 wake it. -/
def State.pumpStream (s : State) (key : Nat) : State :=
  let n := fun (s : State) => ((s.stream key).map (fun c => c.waiting.length)).getD 0
  let s0 := State.pumpStreamN key (n s) s
  let s1 := if n s0 = n s then s0 else (s0.mirrorCounts key).1
  match (s1.stream key).bind (fun c => c.waiting.head?.map (fun tu => (c, tu))) with
  | some (c, tu) =>
    let a := if tu.type = 1 then c.ring + c.ringW % c.rxSlots * 256 else tu.addr
    if tu.type ≤ 3 then (match s1.waitsForTile a with | some t => s1.requestWake t | none => s1) else s1
  | none => s1

/-- Contributions of a group's members that waited for an operation or a segment are tried again. -/
def State.pumpMembers (s : State) (n : Nat) : State :=
  match s.group n with
  | none => s
  | some g => s.each (g.members.map Member.key) (fun s k => s.pumpStream k)

/-- A member's stream has sent what waited for credit: the slots that its results held open the next segments (R323, R324). -/
def State.collRoom (s : State) (key : Nat) : State :=
  s.each (s.ctxKeys.filter (fun n => match s.group n with
    | some g => g.cur.isSome && g.members.any (fun m => m.key == key) | none => false)) (fun s n => (s.openMore n).pumpMembers n)

/-- Execute what any stream has accepted and waits. -/
def State.pumpStreams (s : State) : State :=
  s.each (s.streamKeys.filter (fun k => match s.stream k with | some c => !c.waiting.isEmpty | none => false)) State.pumpStream

/-! ### Acceptance (R221, R224, R226, R231, R234) -/

/-- A transport unit of a stale handle is dropped and counted at the tile that serves its HOME (R224). -/
def State.staleTu (s : State) (h : Nat) : State :=
  let home := h / 2 ^ 15 % 64
  if home < 48 then s.bump (F.STRM_CNT_CLOSED (s.homeServer home)) else s

/-- A transport unit that the table gives no place is dropped and counted (R221). -/
def State.badTu (s : State) (h : Nat) : State :=
  let home := h / 2 ^ 15 % 64
  if home < 48 then s.bump (F.STRM_CNT_BAD (s.homeServer home)) else s

/-- A module without the Hall Pass answers a stream's unit with a HOLDER_NOTICE that names the holder it knows (R436); a
fenced module drops it (R432). -/
def State.noticeTu (s : State) (key : Nat) : State :=
  match s.stream key with
  | none => s
  | some c =>
    let holder := s.f F.TWIN_PARTNER_NODE
    if s.twinState = 6 || holder = 0 then s
    else
      let tu : Tu := { type := 8, flags := 0, stream := c.epQueue, tsn := 0, aux := c.rx0,
                       addr := holder + s.f F.TWIN_HP_EPOCH_LO * 2 ^ 32,
                       data := leBytes 4 (s.handleOf key) ++ leBytes 4 c.tx0 ++ leBytes 4 c.tx1 }
      match s.portTo c.epNode with
      | some p => (s.enqueue p [tuFlit 1 tu none]).bump F.TWIN_CNT_NOTHOLDER
      | none => s.bump F.TWIN_CNT_NOTHOLDER

/-- The stream that a transport unit on port p belongs to, or the state after it is dropped. -/
def State.tuStream (s : State) (p : Nat) (tu : Tu) : Except State (Nat × Stream) :=
  match s.liveKey tu.stream with
  | none => .error (s.staleTu tu.stream)
  | some key =>
    if s.notHolder then .error (s.noticeTu key)
    else match s.stream key with
      | none => .error s
      | some c =>
        if s.farOf p ≠ c.epNode then .error (s.bump (F.STRM_CNT_BAD (s.homeServer (key / 2 ^ 15)))) else .ok (key, c)

/-- A sequenced unit of VC0 at its Homeroom: dropped as a duplicate, a gap or an overrun of its credit pool, or accepted
and executed in its turn. -/
def State.acceptTu (s : State) (p : Nat) (tu : Tu) : State :=
  match s.tuStream p tu with
  | .error s1 => s1
  | .ok (key, c) =>
    let t := s.homeServer (key / 2 ^ 15)
    let d := (tu.tsn + 2 ^ 32 - c.rx0) % 2 ^ 32
    let isReq := tu.type == 2 || tu.type == 3
    if c.state = .faulted then s
    else if 2 ^ 31 ≤ d then s.bump (F.STRM_CNT_DUP t)
    else if d ≠ 0 then (s.faultStream key).streamGone key
    else if isReq && decide (c.reqCredits ≤ (c.reqs + 2 ^ 32 - c.executed) % 2 ^ 32) then
      ((s.bump (F.STRM_CNT_BAD t)).faultStream key).streamGone key
    else if !isReq && decide (c.rxSlots ≤ c.dataUsed) then
      ((s.bump (F.STRM_CNT_BAD t)).faultStream key).streamGone key
    else
      let s1 := s.updStream key (fun c => { c with
        rx0 := (c.rx0 + 1) % 2 ^ 32, lastTu := s.bell, waiting := c.waiting ++ [tu],
        reqs := if isReq then (c.reqs + 1) % 2 ^ 32 else c.reqs, written := if isReq then c.written else (c.written + 1) % 2 ^ 32 })
      s1.pumpStream key

/-- Take a DATA flit with the given payload on a VC out of a port's receive buffer and hand its transport unit on; nothing
happens where no such flit waits. -/
def State.takeTu (s : State) (p vc : Nat) (bytes : List Byte) (f : State → Tu → State) : State :=
  match s.popRx p vc (fitBytes 232 bytes) with
  | none => s
  | some s1 => f s1 (Tu.parse bytes)

/-- What an access to the memory found in a 64-byte line (R255, R256). -/
def State.applyEcc (s : State) (key n : Nat) : Ecc → State
  | .clean => s
  | .corrected l => match (linesOf key n)[l.val]? with | some line => s.correctedLine line | none => s
  | .uncorrectable l => match (linesOf key n)[l.val]? with | some line => s.poisonLine line | none => s

/-- Apply what the memory found on a read at a fabric address. -/
def State.eccAt (s : State) (a n : Nat) (ecc : Ecc) : State :=
  let e := s.famEntry (addrIndex a)
  if decide (e.kind = .local_) && addrValid a then s.applyEcc (dramKey e.tile e.frame (addrByte a)) n ecc else s

/-! ### Closing (R229, R230) -/

/-- Free a stream's slot after its CLOSE_NOTICE, and tell jobs and collectives. -/
def State.closeStream (s : State) (key reason : Nat) : State :=
  match s.stream key with
  | none => s
  | some c =>
    let s1 := s.sendNotice c.epNode c.epQueue reason (s.txPort c)
    let s2 := ((s1.dropUnsent key).dropUndelivered key).freeSlot key
    let s3 := s2.streamGone key
    s3.each c.closeRuns (fun s id => s.finish id stOk 0)

end Sys2Proof.Machine
end

