-- ==== Sys2Proof/Machine/Streams.lean ====
section
/-! DEFINITION. Machine/Streams.lean: stream and FAM commands and events (R212 to R239). -/

namespace Sys2Proof.Machine

/-! ### Small helpers -/

/-- One of the first `n` numbers that are free, at the spec's discretion: the first one at or after a value it leaves
open. Where a mirror record names the slot, that one (R437). -/
def State.pickFree (s : State) (n : Nat) (taken : Nat → Bool) : Option Nat × State :=
  match s.twin.want with
  | some k => (if k < n && !taken k then some k else none, s)
  | none =>
    let (v, s1) := s.fresh
    (((List.range n).map (fun i => (v.toNat + i) % n)).find? (fun i => !taken i), s1)

/-- The journal change of a register under a command's TARGET (R80). -/
def State.regChangeAt (s : State) (target off : Nat) (new : Word) : List JChange :=
  [{ target := target, offset := off, old := some (leBytes 4 (s.rd off).toNat), new := some (leBytes 4 new.toNat) }]

/-- DETAIL while both FAM copies are unavailable: the FSRC of FAM_SINGLE (R214). -/
def famGone : Nat := fsrcModule 10

/-! ### STREAM_OPEN (R227, R228, R235, R237, R238) -/

/-- Has a tile failed, so that it takes no new streams: in a fault reaction, or its engine duties have ended (R228)? -/
def State.homeFailed (s : State) (t : Nat) : Bool := s.f (F.FSTATE_STATE t) != 0 || (s.server t).isNone

/-- The tiles that hold stream contexts of their own: in-service and released ones (R235). -/
def State.homeTiles (s : State) : List Nat := allTiles.filter (fun t => !isReserve t || s.b (F.TILE_ROLE_RELEASED t))

/-- EP_NODE of a STREAM_OPEN: a fabric endpoint may leave it 0 (R227). -/
def openNode (p : Packet) (o : Nat) : Nat := if originCode o = 5 && p.w 0 = 0 then o % 0x8000 else p.w 0

/-- The ring's address of a STREAM_OPEN. -/
def openRing (p : Packet) : Nat := p.w 5 + p.w 6 * 2 ^ 32

/-- FLAGS[8] MEM_ONLY. -/
def memOnly (p : Packet) : Bool := p.flags.getLsbD 8

/-- Is a byte a port or sublink code (R227, R448)? -/
def portCode (x : Nat) : Bool := decide (x < 144) || sitePorts.contains x

/-- PRI_PORT of a STREAM_OPEN: named, or the port the packet came on. -/
def openPri (p : Packet) : Nat :=
  let x := p.w 3 % 256
  if x ≠ 255 then x
  else match p.path with
    | .port q => q.val
    | .site k => 240 + k.val
    | _ => 255

/-- Does the ring lie in one LOCAL region of this module (R227)? -/
def State.ringOk (s : State) (a n : Nat) : Bool :=
  s.rangeLocal a n && (rangeIndexes a n).all (fun i => (s.famEntry i).region == (s.famEntry (addrIndex a)).region)

/-- The first invalid parameter of STREAM_OPEN. -/
def State.openPar (s : State) (p : Packet) : Option Nat :=
  let onFabric := match p.path with | .port _ => true | .site _ => true | _ => false
  let pri := p.w 3 % 256
  let alt := p.w 3 / 256 % 256
  let checks : List (Nat × Bool) := [
    (32, decide (0x7FFF < p.w 0) || (p.w 0 == 0 && !onFabric)),
    (36, decide (0xFFFF < p.w 1)),
    (40, decide (47 < p.w 2) && p.w 2 != 0xFF),
    (44, decide (0xFFFF < p.w 3) || !(portCode pri || (pri == 255 && onFabric)) || !(portCode alt || alt == 255) ||
      (alt != 255 && portTile alt == portTile (openPri p))),
    (48, if memOnly p then p.w 4 != 0 else p.w 4 == 0 || decide (8192 < p.w 4)),
    (52, if memOnly p then openRing p != 0 else openRing p % 256 != 0 || !addrValid (openRing p) || !s.ringOk (openRing p) (p.w 4 * 256)),
    (60, (p.w 7 == 0 && !memOnly p) || decide (1048576 < p.w 7)),
    (64, (p.w 8 == 0 && !memOnly p) || decide (4096 < p.w 8))]
  (checks.find? (fun c => c.2)).map (·.1)

/-- The lowest-numbered port on another tile whose link is UP to the node (R227). -/
def State.autoAlt (s : State) (pri node : Nat) : Option Nat :=
  (allPorts ++ sitePorts).find? (fun q => portTile q != portTile pri && s.upTo q node)

/-- May an idle stream of a Homeroom be reclaimed (R237, R238)? -/
def State.reclaimable (s : State) (key : Nat) : Bool :=
  let t := s.homeServer (key / 2 ^ 15)
  let idle := s.f (F.STRM_CTL_RECLAIM_IDLE t) * 1000000
  match s.stream key with
  | none => false
  | some c =>
    s.b (F.STRM_CTL_RECLAIM_EN t) && decide (c.state = .open_) && decide (c.lastTu + idle ≤ s.bell) &&
      decide (c.openedAt + idle ≤ s.bell) && c.waiting.isEmpty && s.allAcked key && c.reqs == c.executed &&
      !s.pool.held.any (fun h => h.stream == some key)

/-- The stream that a full open reclaims: the one idle longest on the homes given (R238). -/
def State.reclaimPick (s : State) (homes : List Nat) : Option Nat :=
  ((s.streamKeys.filter (fun k => homes.contains (k / 2 ^ 15) && s.reclaimable k)).foldl (fun (m : Option (Nat × Nat)) k =>
    let at_ := ((s.stream k).map (·.lastTu)).getD 0
    match m with
    | none => some (k, at_)
    | some x => if at_ < x.2 then some (k, at_) else some x) none).map (·.1)

/-- Reclaim a stream: CLOSE_NOTICE 1, slot freed, NOTICE, counted (R238). -/
def State.reclaim (s : State) (key : Nat) : State :=
  let t := s.homeServer (key / 2 ^ 15)
  ((s.closeStream key 1).note 0x6 .streamReclaim 1 (tgtTile t)).bump (F.STRM_CNT_RECLAIM t)

/-- The Homeroom of an automatic choice: fewest open streams; ties to the primary's tile, its row, the lowest number
(R227). -/
def State.autoHome (s : State) (pri : Nat) (homes : List Nat) : Option Nat :=
  let t0 := portTile pri
  let rank := fun (t : Nat) => s.openCount t * 4096 + (if t = t0 then 0 else if tileRow t = tileRow t0 then 1 else 2) * 64 + t
  (homes.filter (fun t => decide (s.openCount t < slotsPerTile))).foldl (fun (m : Option Nat) t =>
    match m with
    | none => some t
    | some x => if rank t < rank x then some t else some x) none

/-- A new context (R223, R230). -/
def newStream (p : Packet) (node pri : Nat) (alt : Option Nat) (bell : Nat) : Stream :=
  { state := .open_, epNode := node, epQueue := p.w 1, pri := pri, alt := alt, memOnly := memOnly p, rxSlots := p.w 4,
    ring := openRing p, epCredits := p.w 7, reqCredits := p.w 8, lastTu := bell, openedAt := bell }

/-- STREAM_OPEN. -/
def streamOpenDef : CmdDef where
  code := 0x0600
  len := fun _ => some 36
  gflags := 1
  auth := fun _ p o => if originCode o = 5 && p.w 0 ≠ 0 && p.w 0 ≠ o % 0x8000 then some 1 else none
  par := fun s p _ => s.openPar p
  resLen := fun _ _ => some 8
  pre := fun s p o =>
    if s.node = 0 then some (stState, 0x20)
    else if p.w 2 ≠ 0xFF && (!s.inService (p.w 2) || s.homeFailed (p.w 2)) then some (stState, 0x01000000 + p.w 2)
    else if !s.upTo (openPri p) (openNode p o) then some (0x8601, 0)
    else none
  act := fun s p o _ =>
    let node := openNode p o
    let pri := openPri p
    let named := p.w 2 != 0xFF
    let homes := if named then [p.w 2] else s.homeTiles.filter (fun t => !s.homeFailed t)
    let full := homes.all (fun t => decide (slotsPerTile ≤ s.openCount t))
    let s1 := if full then (match s.reclaimPick homes with | some k => s.reclaim k | none => s) else s
    match s1.autoHome pri homes with
    | none => .now (s1.bump (F.STRM_CNT_FULL (portTile pri))) stTableFull
        (if named then slotsPerTile else slotsPerTile * s.homeTiles.length) [] []
    | some home =>
      let altN := p.w 3 / 256 % 256
      let alt := if altN ≠ 255 then some altN else s1.autoAlt pri node
      let (slot, s2) := s1.pickFree slotsPerTile (fun i => (s1.stream (slotKey home i)).isSome)
      let key := slotKey home (slot.getD 0)
      let s3 := { s2 with streams := { s2.streams with slots := Map.upd {} s2.streams.slots key (fun sl =>
        { sl with ctx := some (newStream p node pri alt s.bell) }) } }
      let s4 := if alt.isNone then s3.note 0x6 .streamNoAlt 1 (tgtTile (s.homeServer home)) else s3
      .now s4 stOk 0 (leBytes 4 (s4.handleOf key) ++ leBytes 1 home ++ leBytes 1 pri ++ leBytes 1 (alt.getD 255) ++ [0]) []

/-- STREAM_OPEN (R227). -/
def execStreamOpen (p : Packet) (s : State) : Host.Outcome State Fault Refusal := .next (runCmd streamOpenDef p s)

/-! ### STREAM_CLOSE and STREAM_QUERY (R229) -/

/-- A fabric endpoint may close only its own streams. -/
def State.closeAuth (s : State) (p : Packet) (o : Nat) : Option Nat :=
  match (s.liveKey (p.w 0)).bind s.stream with
  | some c => if originCode o = 5 && c.epNode ≠ o % 0x8000 then some 1 else none
  | none => none

/-- STREAM_CLOSE: MODE 1, and any close of a FAULTED stream, frees the slot at once; MODE 0 drains first. -/
def streamCloseDef : CmdDef where
  code := 0x0601
  len := fun _ => some 8
  auth := State.closeAuth
  par := fun _ p _ => if 1 < p.w 1 then some 36 else none
  pre := fun s p _ => if (s.liveKey (p.w 0)).isNone then some (stNotFound, 0) else none
  act := fun s p _ id =>
    match s.liveKey (p.w 0) with
    | none => .now s stNotFound 0 [] []
    | some key =>
      let faulted := match s.stream key with | some c => decide (c.state = .faulted) | none => false
      if p.w 1 = 1 || faulted then .now (s.closeStream key 0).pumpStreams stOk 0 [] []
      else .later (s.updStream key (fun c => { c with
        state := .closing, stateAt := (if c.state = .closing then c.stateAt else s.bell), closeRuns := c.closeRuns ++ [id] }))

/-- STREAM_CLOSE (R229). -/
def execStreamClose (p : Packet) (s : State) : Host.Outcome State Fault Refusal := .next (runCmd streamCloseDef p s)

/-- State codes of R230. -/
def StreamState.code : StreamState → Nat
  | .free => 0 | .open_ => 1 | .onAlt => 2 | .suspended => 3 | .faulted => 4 | .closing => 5

/-- The 32-byte record of R229. The port in use reads 0xFF while the stream has none (assumption 47). -/
def State.streamRecord (s : State) (key : Nat) (c : Stream) : List Byte :=
  leBytes 1 c.state.code ++ leBytes 1 (s.homeServer (key / 2 ^ 15)) ++ leBytes 1 ((s.txPort c).getD 255) ++ leBytes 1 (c.alt.getD 255) ++
  leBytes 2 c.epNode ++ leBytes 2 c.epQueue ++ leBytes 4 c.tx0 ++ leBytes 4 c.rx0 ++
  leBytes 4 (c.epCredits - (c.sent + 2 ^ 32 - c.epFreed) % 2 ^ 32) ++ leBytes 4 c.repData ++
  leBytes 4 ((c.reqs + 2 ^ 32 - c.executed) % 2 ^ 32) ++ leBytes 4 (min ((s.bell - c.lastTu) / 1000000) 0xFFFFFFFF)

/-- STREAM_QUERY. -/
def streamQueryDef : CmdDef where
  code := 0x0602
  len := fun _ => some 4
  resLen := fun _ _ => some 32
  pre := fun s p _ => if (s.liveKey (p.w 0)).isNone then some (stNotFound, 0) else none
  act := fun s p _ _ =>
    match (s.liveKey (p.w 0)).bind (fun k => (s.stream k).map (fun c => (k, c))) with
    | none => .now s stNotFound 0 [] []
    | some (k, c) => .now s stOk 0 (s.streamRecord k c) []

/-- STREAM_QUERY (R229). -/
def execStreamQuery (p : Packet) (s : State) : Host.Outcome State Fault Refusal := .next (runCmd streamQueryDef p s)

/-! ### Reserve tiles (R32, R236) -/

/-- Does a tile hold a stream, job or collective context (R32)? -/
def State.holdsContexts (s : State) (t : Nat) : Bool :=
  decide (s.openCount t ≠ 0) ||
  s.work.jobs.any (fun j => j.live && j.shares.any (fun sh => sh.tile == t)) ||
  s.ctxKeys.any (fun n => match s.group n with
    | some g => (maskTiles g.mask).contains t || g.members.any (fun m => m.key / 2 ^ 15 == t)
    | none => false)

/-- TARGET names a reserve tile. -/
def reserveBad (p : Packet) : Option Nat := if isReserve p.unit then none else some 24

/-- STREAM_RESERVE_RELEASE: the tile serves as an in-service tile from now on, and its OME starts (R287). -/
def reserveReleaseDef : CmdDef where
  code := 0x0620
  kinds := [1]
  origins := [1, 2, 3]
  par := fun _ p _ => reserveBad p
  pre := fun s p _ => if s.b (F.TILE_ROLE_STANDIN p.unit) then some (stState, (s.rd (R.TILE_ROLE p.unit)).toNat) else none
  journaled := true
  act := fun s p _ _ =>
    let t := p.unit
    if s.b (F.TILE_ROLE_RELEASED t) then .now s stOk 0 [] []
    else
      let s1 := (s.setB (F.TILE_ROLE_RELEASED t) true).omeStart t
      .now s1.rewriteDist stOk 0 [] (s.regChangeAt p.target.toNat (R.TILE_ROLE t) (s1.rd (R.TILE_ROLE t)))

/-- STREAM_RESERVE_RELEASE (R236). -/
def execStreamReserveRelease (p : Packet) (s : State) : Host.Outcome State Fault Refusal := .next (runCmd reserveReleaseDef p s)

/-- STREAM_RESERVE_RETURN: ERR_BUSY while the tile holds a context (R32). A stand-in with none of the covered tile's
contexts is no longer one. -/
def reserveReturnDef : CmdDef where
  code := 0x0621
  kinds := [1]
  origins := [1, 2, 3]
  par := fun _ p _ => reserveBad p
  pre := fun s p _ =>
    let t := p.unit
    let covered := if s.b (F.TILE_ROLE_STANDIN t) then s.holdsContexts (s.f (F.TILE_ROLE_STANDIN_FOR t)) else false
    if (s.b (F.TILE_ROLE_RELEASED t) || s.b (F.TILE_ROLE_STANDIN t)) && (s.holdsContexts t || covered) then some (stBusy, 0) else none
  journaled := true
  act := fun s p _ _ =>
    let t := p.unit
    if !s.b (F.TILE_ROLE_RELEASED t) && !s.b (F.TILE_ROLE_STANDIN t) then .now s stOk 0 [] []
    else
      let s1 := s.setFs [(F.TILE_ROLE_RELEASED t, 0), (F.TILE_ROLE_STANDIN t, 0), (F.TILE_ROLE_STANDIN_FOR t, 0x3F)]
      .now (if s.b (F.TILE_ROLE_STANDIN t) then (s1.omeStop t 1).rewriteDist else ((s1.omeStop t 1).rewriteDist).adoptFree) stOk 0 [] (s.regChangeAt p.target.toNat (R.TILE_ROLE t) (s1.rd (R.TILE_ROLE t)))

/-- STREAM_RESERVE_RETURN (R236). -/
def execStreamReserveReturn (p : Packet) (s : State) : Host.Outcome State Fault Refusal := .next (runCmd reserveReturnDef p s)

/-! ### FAM_MAP and FAM_READ (R239) -/

/-- The entry that FAM_MAP's words spell; GEN is the module's. -/
def mapEntry (p : Packet) : FamEntry :=
  if p.w 1 % 4 = 2 then
    { kind := .remote, ro := p.w 1 / 0x10 % 2 == 1, remNode := p.w 2 % 0x10000, remBase := p.w 3 + p.w 4 * 2 ^ 32 }
  else { kind := .unmapped, ro := p.w 1 / 0x10 % 2 == 1 }

/-- The first invalid field of FAM_MAP, as a byte offset in the packet. -/
def State.mapPar (s : State) (p : Packet) : Option Nat :=
  let kind := p.w 1 % 4
  let base := p.w 3 + p.w 4 * 2 ^ 32
  if 2097151 < p.w 0 then some 32
  else if kind % 2 = 1 || p.w 1 / 4 % 4 ≠ 0 || p.w 1 / 0x20 % 8 ≠ 0 then some 36
  else if p.w 1 / 0x100 % 256 ≠ 0 then some 37
  else if kind = 0 then (if p.w 2 ≠ 0 then some 40 else if p.w 3 ≠ 0 then some 44 else if p.w 4 ≠ 0 then some 48 else none)
  else if p.w 2 % 0x10000 = 0 || 0x7FFF < p.w 2 % 0x10000 || p.w 2 % 0x10000 = s.node then some 40
  else if p.w 2 / 0x10000 ≠ 0 then some 42
  else if !addrValid base || addrNode base ≠ p.w 2 % 0x10000 then some 44
  else none

/-- FAM_MAP: the entry is written, and the command replies when every tile has acknowledged the invalidation (R218). -/
def famMapDef : CmdDef where
  code := 0x0610
  len := fun _ => some 20
  origins := [1, 2, 3]
  par := fun s p _ => s.mapPar p
  pre := fun s p _ =>
    if p.w 1 % 4 = 2 && !s.b F.GANG_STAT_EN then some (stState, 0)
    else if (s.famEntry (p.w 0)).migrating then some (stBusy, 0)
    else if !s.famUp then some (stFault, famGone)
    else none
  journaled := true
  act := fun s p _ id =>
    .later ((s.setFam (p.w 0) (mapEntry p)).updPool (fun x => { x with
      invals := x.invals ++ [{ base := p.w 0, count := 1, kind := .map, run := some id, old := some (s.famEntry (p.w 0)).bytes }] }))

/-- FAM_MAP (R239). -/
def execFamMap (p : Packet) (s : State) : Host.Outcome State Fault Refusal := .next (runCmd famMapDef p s)

/-- FAM_READ. -/
def famReadDef : CmdDef where
  code := 0x0611
  len := fun _ => some 8
  par := fun _ p _ => if 2097151 < p.w 0 then some 32 else if 4096 < p.w 1 || 2097152 < p.w 0 + p.w 1 then some 36 else none
  zero := fun p => p.w 1 == 0
  resLen := fun _ p => if p.w 1 ≤ 4096 then some (p.w 1 * 16) else none
  pre := fun s _ _ => if !s.famUp then some (stFault, famGone) else none
  act := fun s p _ _ => .now s stOk 0 ((List.range (p.w 1)).flatMap (fun i => (s.famEntry (p.w 0 + i)).bytes)) []

/-- FAM_READ (R239). -/
def execFamRead (p : Packet) (s : State) : Host.Outcome State Fault Refusal := .next (runCmd famReadDef p s)

/-! ### Transport units on a port or sublink (R221 to R226, R231 to R234) -/

/-- The VC on which the module takes a type of unit (R221, R319, R436 to R438); none where it takes none. -/
def rowVc (type : Nat) : Option Nat :=
  if type = 6 || type = 0xA then some 1 else if [1, 2, 3, 9, 0x10, 0x11, 0x12].contains type then some 0 else none

/-- A unit that the table gives no place on this VC is dropped and counted (R221); one of a known type on another VC than its
own is dropped in the same way (DESIGN CHOICE, assumption 176). -/
def State.takeMisplaced (s : State) (p : Nat) (bytes : List Byte) (vc : Nat) : State :=
  if rowVc (Tu.parse bytes).type = some vc then s else s.takeTu p vc bytes (fun s tu => s.badTu tu.stream)

/-- STREAM_DATA (R221, R231 to R233): accepted, ordered and delivered. Also every unit that the module takes in no other
row, which is dropped and counted. -/
def execStreamData (v : Via) (bytes : List Byte) (s : State) : Host.Outcome State Fault Refusal :=
  let s1 := if (Tu.parse bytes).type = 1 then s.takeTu v.code 0 bytes (fun s tu => s.acceptTu v.code tu) else s
  .next (s1.each [0, 1] (fun s vc => s.takeMisplaced v.code bytes vc))

/-- MEM_READ (R222, R231, R232): the memory's own code first shows what it found in the line read (R255, R256). -/
def execMemRead (v : Via) (bytes : List Byte) (ecc : Ecc) (s : State) : Host.Outcome State Fault Refusal :=
  if (Tu.parse bytes).type ≠ 2 then .next s
  else .next (s.takeTu v.code 0 bytes (fun s tu => (s.eccAt tu.addr tu.aux ecc).acceptTu v.code tu))

/-- MEM_WRITE (R222, R231, R232). -/
def execMemWrite (v : Via) (bytes : List Byte) (s : State) : Host.Outcome State Fault Refusal :=
  if (Tu.parse bytes).type ≠ 3 then .next s
  else .next (s.takeTu v.code 0 bytes (fun s tu => s.acceptTu v.code tu))

/-- A CREDIT's counts are taken where they are newer (R234). -/
def State.takeCredit (s : State) (v : Nat) (tu : Tu) : State :=
  match s.tuStream v tu with
  | .error s1 => s1
  | .ok (key, c) =>
    let d := (tu.aux + 2 ^ 32 - c.epFreed) % 2 ^ 32
    let s1 := s.updStream key (fun c => { c with lastTu := s.bell })
    if c.state = .faulted || d = 0 || 2 ^ 31 ≤ d then s1
    else
      let s2 := ((s1.updStream key (fun c => { c with epFreed := tu.aux })).pump key).collRoom key
      (s2.mirrorCounts key).1

/-- CREDIT (R234), on VC1. -/
def execCredit (v : Via) (bytes : List Byte) (s : State) : Host.Outcome State Fault Refusal :=
  if (Tu.parse bytes).type ≠ 6 then .next s else .next (s.takeTu v.code 1 bytes (fun s tu => s.takeCredit v.code tu))

/-! ### Stream timers (R230, R234) -/

/-- CREDIT_REPORT_DUE (R234): 1 µs after the first unreported credit. -/
def execCreditReportDue (h : BitVec 32) (s : State) : Host.Outcome State Fault Refusal :=
  match (s.liveKey h.toNat).bind (fun k => (s.stream k).map (fun c => (k, c))) with
  | some (k, c) => .next (if c.unreported = 0 || c.state = .faulted then s else s.sendCredit k)
  | none => .next s

/-- STREAM_RETURN_HOLD (R230): the primary has been UP for RETURN_HOLD: new units are held until the alternate has
acknowledged every one, and then sent on the primary. -/
def execStreamReturnHold (h : BitVec 32) (s : State) : Host.Outcome State Fault Refusal :=
  match (s.liveKey h.toNat).bind (fun k => (s.stream k).map (fun c => (k, c))) with
  | some (k, c) =>
    let hold := s.f (F.STRM_CTL_RETURN_HOLD (s.homeServer (k / 2 ^ 15))) * 100000
    if c.state = .onAlt && s.upTo c.pri c.epNode && decide ((s.link c.pri).upSince + hold ≤ s.bell) then
      .next ((s.updStream k (fun c => { c with returning := true })).returnPrimary k)
    else .next s
  | none => .next s

/-- STREAM_SUSPEND_TIMEOUT (R230): a stream that has been SUSPENDED or FAULTED for SUSPEND_TMO is freed. -/
def execStreamSuspendTimeout (h : BitVec 32) (s : State) : Host.Outcome State Fault Refusal :=
  match (s.liveKey h.toNat).bind (fun k => (s.stream k).map (fun c => (k, c))) with
  | some (k, c) =>
    let t := s.homeServer (k / 2 ^ 15)
    if s.bell < c.stateAt + s.f (F.STRM_CTL_SUSPEND_TMO t) * 1000000 then .next s
    else if c.state = .suspended then .next (((s.closeStream k 3).note 0x6 .streamSuspend 2 (tgtTile t)).pumpStreams)
    else if c.state = .faulted then .next ((s.freeSlot k).streamGone k)
    else .next s
  | none => .next s

/-- STREAM_CLOSE_DRAINED (R229): everything sent is acknowledged and everything received is delivered, or 100 ms have
passed. -/
def execStreamCloseDrained (h : BitVec 32) (s : State) : Host.Outcome State Fault Refusal :=
  match (s.liveKey h.toNat).bind (fun k => (s.stream k).map (fun c => (k, c))) with
  | some (k, c) =>
    let drained := s.allAcked k && c.waiting.isEmpty && !s.pool.held.any (fun x => x.stream == some k)
    if c.state = .closing && (drained || decide (c.stateAt + 100000 ≤ s.bell)) then .next (s.closeStream k 0).pumpStreams else .next s
  | none => .next s

/-- CLOSE_NOTICE_DELIVER (R230): the notices held for the far end of a port that is UP leave on it. -/
def execCloseNoticeDeliver (v : Via) (s : State) : Host.Outcome State Fault Refusal :=
  .next (if s.linkUp v.code then s.flushNotices v.code (s.farOf v.code) else s)

end Sys2Proof.Machine
end

