-- ==== Sys2Proof/Machine/Pool.lean ====
section
/-! DEFINITION. Machine/Pool.lean: the memory pool's commands and events (R240 to R260): regions, placement, migration,
poison, scrub and unavailable memory. -/

namespace Sys2Proof.Machine

/-! ### Regions (R244, R250) -/

/-- A region slot. -/
def State.slot (s : State) (n : Nat) : RegionSlot := Map.get ({} : RegionSlot) s.pool.regions n

/-- The handle of a slot with its present GEN. -/
def State.regionHandle (s : State) (n : Nat) : Nat := n + (s.slot n).gen * 0x10000

/-- The slot and region that a handle names, where it is not stale. -/
def State.regionOf (s : State) (h : Nat) : Option (Nat × Region) :=
  let n := h % 0x10000
  if (s.slot n).gen = h / 0x10000 % 0x10000 then (s.slot n).live.map (fun r => (n, r)) else none

/-- The running migration of a region. -/
def State.migOf (s : State) (n : Nat) : Option Migration := s.pool.migs.find? (fun m => m.slot == n)

/-- FAM indexes of a region. -/
def Region.indexes (r : Region) : List Nat := (List.range r.frames).map (r.base + ·)

/-- The 40-byte record of R250. -/
def State.regionRecord (s : State) (n : Nat) : List Byte :=
  match (s.slot n).live with
  | none => zeros 40
  | some r =>
    let es := r.indexes.map s.famEntry
    let loc := es.filter (fun e => decide (e.kind = .local_))
    let un := loc.countP (fun e => s.memDown e.tile)
    let mig := s.migOf n
    let tier := if loc.all (fun e => e.tier == 0) then 0 else if loc.all (fun e => e.tier == 1) then 1 else 2
    let mask := (((loc.map (·.tile)).eraseDups).map (fun t => 2 ^ t)).foldl (· + ·) 0
    leBytes 4 (s.regionHandle n) ++ leBytes 4 r.frames ++ leBytes 8 (s.fabricAddr (r.base * 2 ^ 21)) ++
    leBytes 1 tier ++ leBytes 1 (if loc.all (·.ro) && r.ro then 1 else 0) ++
    leBytes 1 (if un ≠ 0 then 2 else if mig.isSome then 1 else 0) ++ [0] ++
    leBytes 4 ((mig.map (·.done)).getD 0) ++ leBytes 6 mask ++ zeros 2 ++ leBytes 4 un ++ zeros 4

/-- A journal change of a region object (R248). -/
def regionChange (old new : Option (List Byte)) : List JChange := [{ target := 0, offset := 0xFFFFFFFF, old := old, new := new }]

/-! ### Placement (R245, R249) -/

/-- The first invalid of TIER and the two MASK words at parameter words i, i + 1 and i + 2. -/
def maskBad (p : Packet) (i : Nat) : Option Nat :=
  let mask := p.w (i + 1) + p.w (i + 2) % 0x10000 * 2 ^ 32
  let okTile := fun (t : Nat) => if p.w i = 0 then isMemTile t else isCorner t
  if 1 < p.w i then some (32 + 4 * i)
  else if 0xFFFF < p.w (i + 2) then some (32 + 4 * (i + 2))
  else if mask = 0 then some (32 + 4 * (i + 1))
  else if !(maskTiles (p.w (i + 1))).all okTile then some (32 + 4 * (i + 1))
  else if !(maskTiles (p.w (i + 2) % 0x10000 * 2 ^ 32)).all okTile then some (32 + 4 * (i + 2))
  else none

/-- The mask tiles of the words at i + 1 and i + 2. -/
def poolTiles (p : Packet) (i : Nat) : List Nat := maskTiles (p.w (i + 1) + p.w (i + 2) % 0x10000 * 2 ^ 32)

/-- A mask tile whose memory is UNAVAILABLE. -/
def State.downIn (s : State) (tiles : List Nat) : Option Nat := tiles.find? s.memDown

/-- The mask tile with the most missing frames for the shares given, with the missing frames in all; none where all fit
(R249, R530). -/
def State.missing (s : State) (share : List (Nat × Nat)) : Option (Nat × Nat) :=
  let miss := share.map (fun x => (x.1, x.2 - s.freeCount x.1))
  let total := (miss.map (·.2)).foldl (· + ·) 0
  if total = 0 then none
  else some ((miss.foldl (fun (m : Nat × Nat) x => if m.2 < x.2 then x else m) (0, 0)).1, total)

/-- The 16-byte result of R249. -/
def State.fitBytes16 (s : State) (frames total : Nat) (tiles : List Nat) : List Byte :=
  let fewest := (tiles.map s.freeCount).foldl min (2 ^ 32)
  leBytes 8 (total * 2 ^ 21) ++ leBytes 4 (ceilDiv frames (tiles.length * fewest)) ++ zeros 4

/-- Frames of a placement of n frames that go to the j-th of m mask tiles (R245). -/
def shareOf (n m j : Nat) : Nat := (n + m - 1 - j) / m

/-- The shares of n frames over mask tiles. -/
def shares (tiles : List Nat) (n : Nat) : List (Nat × Nat) := tiles.mapIdx (fun j t => (t, shareOf n tiles.length j))

/-- The frames chosen, in placement order: the lowest-numbered free ones of each tile (R245). -/
def State.chosen (s : State) (tiles : List Nat) (n : Nat) : List (Nat × Nat) :=
  let free := (shares tiles n).map (fun x => s.freeFrames x.1 x.2)
  (List.range n).map (fun f => (tiles.getD (f % tiles.length) 0, (free.getD (f % tiles.length) []).getD (f / tiles.length) 0))

/-! ### FAM runs -/

/-- The first index of a run that a mapped entry or an allocation under way holds. -/
def State.runTaken (s : State) (base n : Nat) : Option Nat :=
  let mapped := (s.pool.fam.filter (fun e => decide (base ≤ e.1) && decide (e.1 < base + n) && !decide (e.2.kind = .unmapped))).map (·.1)
  let under := s.pool.regions.filterMap (fun e => e.2.live.bind (fun r =>
    if r.base < base + n && base < r.base + r.frames then some (max base r.base) else none))
  (mapped ++ under).foldl (fun (m : Option Nat) i => match m with | none => some i | some x => some (min x i)) none

/-- The lowest free run of n indexes (R248). -/
def State.lowestRun (s : State) (n : Nat) : Option Nat :=
  let starts := 0 :: (s.pool.fam.filter (fun e => !decide (e.2.kind = .unmapped))).map (fun e => e.1 + 1) ++
    s.pool.regions.filterMap (fun e => e.2.live.map (fun r => r.base + r.frames))
  (starts.filter (fun b => decide (b + n ≤ 2097152) && (s.runTaken b n).isNone)).foldl
    (fun (m : Option Nat) b => match m with | none => some b | some x => some (min x b)) none

/-! ### Completing FAM changes (R218, R247) -/

/-- The entries of an allocation become LOCAL, and the range invalidation starts. -/
def State.mapRegion (s : State) (n : Nat) (frames : List (Nat × Nat)) (run : Option Nat) : State :=
  match (s.slot n).live with
  | none => s
  | some r =>
    let h := s.regionHandle n
    let s1 := s.each (r.indexes.zip frames) (fun s x =>
      s.setFam x.1 { kind := .local_, tier := if isCorner x.2.1 then 1 else 0, ro := r.ro, tile := x.2.1, frame := x.2.2, region := h })
    s1.updPool (fun p => { p with invals := p.invals ++ [{ base := r.base, count := r.frames, kind := .alloc n, run := run }] })

/-- Begin the frame each migration has in hand, where its source tile's engine is free, in command order (R252). -/
def State.startMigs (s : State) : State :=
  s.each (s.pool.migs.map (·.id)) (fun s id =>
    match s.pool.migs.find? (fun m => m.id == id) with
    | none => s
    | some m => match m.todo with
      | [] => s
      | f :: _ =>
        let busy := s.pool.migs.any (fun x => x.id != id && !decide (x.phase = .queued) &&
          (match x.todo with | g :: _ => g.srcTile == f.srcTile | [] => false))
        if decide (m.phase = .queued) && !busy then
          s.updPool (fun p => { p with migs := p.migs.map (fun x => if x.id = id then { x with phase := .pass1, dirty := [] } else x) })
        else s)

/-- End a migration command that has moved its last frame. -/
def State.endMig (s : State) (m : Migration) : State :=
  let s1 := s.updPool (fun p => { p with migs := p.migs.filter (fun x => x.id != m.id) })
  s1.finish m.run stOk 0 [] (regionChange (some m.old) (some (s1.regionRecord m.slot))) (undoOf s s1)

/-- What follows when every tile has acknowledged a FAM change. -/
def State.invalDone (s : State) (i : Inval) : State :=
  match i.kind with
  | .map => match i.run with
    | some id => s.finish id stOk 0 [] [{ target := 0, offset := 0xFFFFFFFF, old := i.old, new := some (s.famEntry i.base).bytes }]
    | none => s
  | .alloc n =>
    let s1 := s.updPool (fun p => { p with regions := Map.upd ({} : RegionSlot) p.regions n (fun x => { x with live := x.live.map (fun r => { r with ready := true }) }) })
    match i.run with
    | some id => s1.finish id stOk 0 (leBytes 4 (s1.regionHandle n) ++ zeros 4 ++ leBytes 8 (s1.fabricAddr (i.base * 2 ^ 21)))
        (regionChange none (some (s1.regionRecord n))) (undoOf s s1)
    | none => s1
  | .free n =>
    let frames := (s.pool.used.filter (fun e => decide (e.2 = .region n))).map (·.1)
    let s1 := s.each frames (fun s k => s.releaseFrame (k / 2 ^ 17) (k % 2 ^ 17))
    let s2 := s1.updPool (fun p => { p with regions := Map.upd ({} : RegionSlot) p.regions n (fun x => { gen := (x.gen + 1) % 0x10000, live := none }) })
    match i.run with
    | some id => s2.finish id stOk 0 [] (regionChange i.old none) (undoOf s s2)
    | none => s2
  | .attr => match i.run with
    | some id =>
      let n := (s.famEntry i.base).region % 0x10000
      s.finish id stOk 0 [] (regionChange i.old (some (s.regionRecord n)))
    | none => s
  | .migHold id =>
    s.updPool (fun p => { p with migs := p.migs.map (fun m => if m.id = id then { m with phase := .hold } else m) })
  | .migSwitch id =>
    match s.pool.migs.find? (fun m => m.id == id) with
    | none => s
    | some m => match m.todo with
      | [] => s
      | f :: rest =>
        let s1 := (s.releaseFrame f.srcTile f.srcFrame).releaseHeld
        let m1 := { m with todo := rest, done := m.done + 1, phase := .queued, dirty := [] }
        let s2 := s1.updPool (fun p => { p with migs := p.migs.map (fun x => if x.id = id then m1 else x) })
        (if rest.isEmpty then s2.endMig m1 else s2).startMigs.pumpStreams

/-- FAM_INVALIDATE_DONE (R218 steps 3 and 4): every tile has dropped the oldest change's entries; one that is asleep has
cleared its whole cache. -/
def execFamInvalidateDone (s : State) : Host.Outcome State Fault Refusal :=
  match s.pool.invals with
  | [] => .next s
  | i :: rest =>
    let s1 := (s.updPool (fun p => { p with invals := rest })).dropRange i.base i.count
    .next ((s1.each (allTiles.filter s.dozing) State.clearCache).invalDone i)

/-- FAM_CACHE_MISS_FILL (R217): a tile fetches an entry from its copy. -/
def execFamCacheMissFill (t : Tile) (index : BitVec 21) (s : State) : Host.Outcome State Fault Refusal :=
  .next (s.lookup t.val index.toNat).2

/-- FAM_COPY_LOST (R214). -/
def execFamCopyLost (c : Fin 2) (s : State) : Host.Outcome State Fault Refusal :=
  .next (if c = 0 then s.setCopies false s.pool.copyUp.2 else s.setCopies s.pool.copyUp.1 false)

/-- FAM_COPY_REBUILT (R214), once the copy's half-stack has returned. -/
def execFamCopyRebuilt (c : Fin 2) (s : State) : Host.Outcome State Fault Refusal :=
  .next (if c = 0 then (if s.memDown 1 then s else s.setCopies true s.pool.copyUp.2)
    else if s.memDown 25 then s else s.setCopies s.pool.copyUp.1 true)

/-! ### MEM_ALLOC (R248) -/

/-- MEM_ALLOC: the placement is reserved, its frames are zeroed, and its entries mapped (R246, R247). -/
def memAllocDef : CmdDef where
  code := 0x0300
  len := fun _ => some 24
  par := fun _ p _ =>
    if p.w 0 = 0 || 2097152 < p.w 0 then some 32
    else match maskBad p 1 with
      | some o => some o
      | none =>
        if p.w 4 ≠ 0xFFFFFFFF && 2097152 < p.w 4 + p.w 0 then some 48 else if 3 < p.w 5 then some 52 else none
  resLen := fun _ _ => some 16
  pre := fun s p _ =>
    let tiles := poolTiles p 1
    if s.node = 0 then some (stState, 0x20)
    else if !s.famUp then some (stFault, famGone)
    else match s.downIn tiles with
    | some t => some (stState, 0x01000000 + t)
    | none =>
      match (if p.w 4 = 0xFFFFFFFF then none else s.runTaken (p.w 4) (p.w 0)) with
      | some i => some (stState, i)
      | none =>
        if (List.range 65536).all (fun n => (s.slot n).live.isSome) then some (stTableFull, 65536)
        else if p.w 4 = 0xFFFFFFFF && (s.lowestRun (p.w 0)).isNone then some (stTableFull, 2097152)
        else (s.missing (shares tiles (p.w 0))).map (fun x => (stCapacity, x.1))
  preResult := fun s p =>
    let tiles := poolTiles p 1
    if s.node ≠ 0 && s.famUp && (s.downIn tiles).isNone then
      match s.missing (shares tiles (p.w 0)) with
      | some x => s.fitBytes16 (p.w 0) x.2 tiles
      | none => []
    else []
  journaled := true
  act := fun s p _ id =>
    let tiles := poolTiles p 1
    let base := if p.w 4 = 0xFFFFFFFF then (s.lowestRun (p.w 0)).getD 0 else p.w 4
    let (slot, s1) := s.pickFree 65536 (fun n => (s.slot n).live.isSome)
    let n := slot.getD 0
    let frames := s.chosen tiles (p.w 0)
    let s2 := s1.updPool (fun x => { x with
      used := frames.foldl (fun u f => Map.put (frameKey f.1 f.2) (.region n) u) x.used
      regions := Map.upd ({} : RegionSlot) x.regions n (fun y => { y with live := some { base := base, frames := p.w 0, ro := p.w 5 % 2 == 1, ready := false } }) })
    .later (if p.w 5 / 2 % 2 = 1 then s2.mapRegion n frames (some id)
      else s2.updPool (fun x => { x with zeroing := x.zeroing ++ [(n, id)] }))

/-- MEM_ALLOC (R248). -/
def execMemAlloc (p : Packet) (s : State) : Host.Outcome State Fault Refusal := .next (runCmd memAllocDef p s)

/-- The frames of a region that is being allocated, in placement order: the mask of its command, frame f on mask tile
f mod m with that tile's frames in ascending order. -/
def State.placed (s : State) (n : Nat) (tiles : List Nat) (frames : Nat) : List (Nat × Nat) :=
  let mine := s.pool.used.filter (fun e => decide (e.2 = .region n))
  let per := tiles.map (fun t => (mine.filter (fun e => e.1 / 2 ^ 17 == t)).map (fun e => e.1 % 2 ^ 17))
  (List.range frames).map (fun f => (tiles.getD (f % tiles.length) 0, (per.getD (f % tiles.length) []).getD (f / tiles.length) 0))

/-- Write zeros to a whole frame: its listed bytes go, and its poison is cleared (R246, R256). -/
def State.zeroFrame (s : State) (k : Nat) : State :=
  let a := dramKey (k / 2 ^ 17) (k % 2 ^ 17) 0
  let ls := s.pool.poison.filter (fun l => decide (a / 64 ≤ l) && decide (l < a / 64 + 32768))
  ls.foldl State.clearPoison { s with dram := Memory.clear s.dram a (2 ^ 21) }

/-- FRAME_ZEROED (R246): the last frame of an allocation is zero, and its entries are mapped. -/
def execFrameZeroed (slot : BitVec 16) (s : State) : Host.Outcome State Fault Refusal :=
  let n := slot.toNat
  match s.pool.zeroing.find? (fun x => x.1 == n), (s.slot n).live with
  | some (_, id), some r =>
    let s1 := s.updPool (fun p => { p with zeroing := p.zeroing.filter (fun x => x.1 != n) })
    let keys := (s1.pool.used.filter (fun e => decide (e.2 = .region n))).map (·.1)
    let tiles := (keys.map (· / 2 ^ 17)).eraseDups
    let mask := match s1.running id with | some x => poolTiles x.pkt 1 | none => tiles
    .next ((keys.foldl State.zeroFrame s1).mapRegion n (s1.placed n mask r.frames) (some id))
  | _, _ => .next s

/-! ### MEM_FREE, MEM_ATTR, MEM_QUERY, MEM_POOL_STAT -/

/-- Checks of a command on a region: the FAM copies, the handle, a running migration. -/
def State.regionPre (s : State) (p : Packet) : Option (Nat × Nat) :=
  if !s.famUp then some (stFault, famGone)
  else match s.regionOf (p.w 0) with
    | none => some (stNotFound, 0)
    | some (n, r) =>
      if (s.migOf n).isSome || !r.ready || s.pool.invals.any (fun i => i.base == r.base && i.run.isSome) then some (stBusy, 0) else none

/-- MEM_FREE: every entry becomes UNMAPPED; the frames and the slot go once every tile has acknowledged (R251). -/
def memFreeDef : CmdDef where
  code := 0x0301
  len := fun _ => some 4
  pre := fun s p _ => s.regionPre p
  journaled := true
  act := fun s p _ id =>
    match s.regionOf (p.w 0) with
    | none => .now s stNotFound 0 [] []
    | some (n, r) =>
      let s1 := s.each r.indexes (fun s i => s.setFam i {})
      .later (s1.updPool (fun x => { x with
        invals := x.invals ++ [{ base := r.base, count := r.frames, kind := .free n, run := some id, old := some (s.regionRecord n) }] }))

/-- MEM_FREE (R251). Jobs over the region go on until an access finds it unmapped. -/
def execMemFree (p : Packet) (s : State) : Host.Outcome State Fault Refusal := .next (runCmd memFreeDef p s)

/-- MEM_ATTR: the RO bit of every entry. -/
def memAttrDef : CmdDef where
  code := 0x0305
  len := fun _ => some 8
  par := fun _ p _ => if 1 < p.w 1 then some 36 else none
  pre := fun s p _ => s.regionPre p
  journaled := true
  act := fun s p _ id =>
    match s.regionOf (p.w 0) with
    | none => .now s stNotFound 0 [] []
    | some (n, r) =>
      let ro := p.w 1 == 1
      let s1 := s.each r.indexes (fun s i => s.setFam i { s.famEntry i with ro := ro })
      .later (s1.updPool (fun x => { x with
        regions := Map.upd ({} : RegionSlot) x.regions n (fun y => { y with live := y.live.map (fun r => { r with ro := ro }) })
        invals := x.invals ++ [{ base := r.base, count := r.frames, kind := .attr, run := some id, old := some (s.regionRecord n) }] }))

/-- MEM_ATTR (R248). -/
def execMemAttr (p : Packet) (s : State) : Host.Outcome State Fault Refusal := .next (runCmd memAttrDef p s)

/-- MEM_QUERY. -/
def memQueryDef : CmdDef where
  code := 0x0303
  len := fun _ => some 4
  resLen := fun _ _ => some 40
  pre := fun s p _ => if !s.famUp then some (stFault, famGone) else if (s.regionOf (p.w 0)).isNone then some (stNotFound, 0) else none
  act := fun s p _ _ => .now s stOk 0 (s.regionRecord (p.w 0 % 0x10000)) []

/-- MEM_QUERY (R250). -/
def execMemQuery (p : Packet) (s : State) : Host.Outcome State Fault Refusal := .next (runCmd memQueryDef p s)

/-- Free and unavailable frames of a tile (R251). -/
def State.poolStat (s : State) (t : Nat) : Nat × Nat :=
  if isReserve t then (0, 0) else if s.memDown t then (0, s.freeCount t) else (s.freeCount t, 0)

/-- MEM_POOL_STAT. -/
def memPoolStatDef : CmdDef where
  code := 0x0304
  resLen := fun _ _ => some 384
  act := fun s _ _ _ => .now s stOk 0 (allTiles.flatMap (fun t => leBytes 4 (s.poolStat t).1 ++ leBytes 4 (s.poolStat t).2)) []

/-- MEM_POOL_STAT (R251). -/
def execMemPoolStat (p : Packet) (s : State) : Host.Outcome State Fault Refusal := .next (runCmd memPoolStatDef p s)

/-! ### Migration (R252 to R254) -/

/-- The frames a MEM_MIGRATE moves, with their destination tiles; those already in place are skipped. -/
def State.migPlan (s : State) (r : Region) (first count : Nat) (tiles : List Nat) : List (Nat × Nat) :=
  ((List.range count).map (fun f => (r.base + first + f, tiles.getD (f % tiles.length) 0))).filter (fun x =>
    (s.famEntry x.1).tile != x.2)

/-- Shares of a migration plan over the mask tiles. -/
def planShares (tiles : List Nat) (plan : List (Nat × Nat)) : List (Nat × Nat) := tiles.map (fun t => (t, plan.countP (fun x => x.2 == t)))

/-- MEM_MIGRATE. -/
def memMigrateDef : CmdDef where
  code := 0x0302
  len := fun _ => some 24
  par := fun s p _ =>
    match maskBad p 3 with
    | some o => some o
    | none => match s.regionOf (p.w 0) with
      | some (_, r) => if r.frames < p.w 1 + p.w 2 then some 40 else none
      | none => none
  zero := fun p => p.w 2 == 0
  pre := fun s p _ =>
    match s.regionPre p with
    | some e => some e
    | none => match s.downIn (poolTiles p 3) with
      | some t => some (stState, 0x01000000 + t)
      | none => match s.regionOf (p.w 0) with
        | none => some (stNotFound, 0)
        | some (_, r) =>
          (s.missing (planShares (poolTiles p 3) (s.migPlan r (p.w 1) (p.w 2) (poolTiles p 3)))).map (fun x => (stCapacity, x.1))
  preResult := fun s p =>
    if (s.regionPre p).isNone && (s.downIn (poolTiles p 3)).isNone then
      match s.regionOf (p.w 0) with
      | none => []
      | some (_, r) =>
        match s.missing (planShares (poolTiles p 3) (s.migPlan r (p.w 1) (p.w 2) (poolTiles p 3))) with
        | some x => s.fitBytes16 (p.w 2) x.2 (poolTiles p 3)
        | none => []
    else []
  journaled := true
  act := fun s p _ id =>
    match s.regionOf (p.w 0) with
    | none => .now s stNotFound 0 [] []
    | some (n, r) =>
      let tiles := poolTiles p 3
      let plan := s.migPlan r (p.w 1) (p.w 2) tiles
      let mid := s.pool.nextMig
      let free := (planShares tiles plan).map (fun x => (x.1, s.freeFrames x.1 x.2))
      let todo := plan.mapIdx (fun i x =>
        let e := s.famEntry x.1
        let k := (plan.take i).countP (fun y => y.2 == x.2)
        ({ index := x.1, srcTile := e.tile, srcFrame := e.frame, dstTile := x.2, dstFrame := (Map.get [] free x.2).getD k 0 } : MigFrame))
      if plan.isEmpty then .now s stOk 0 [] []
      else
        let m : Migration := { id := mid, slot := n, tier := p.w 3, todo := todo, done := 0, phase := .queued, dirty := [], run := id, old := s.regionRecord n }
        .later ((s.updPool (fun x => { x with
          used := todo.foldl (fun u f => Map.put (frameKey f.dstTile f.dstFrame) (.reserved mid) u) x.used
          migs := x.migs ++ [m], nextMig := mid + 1 })).startMigs)

/-- MEM_MIGRATE (R252). -/
def execMemMigrate (p : Packet) (s : State) : Host.Outcome State Fault Refusal := .next (runCmd memMigrateDef p s)

/-- Copy `n` bytes from one place of the pool's memory to another, poisoned lines as poisoned (R254). -/
def State.copyMem (s : State) (src dst n : Nat) : State :=
  let cells := s.dram.filter (fun e => decide (src ≤ e.1) && decide (e.1 < src + n))
  let base := Memory.clear s.dram dst n
  let s1 := { s with dram := cells.foldl (fun (m : List Host.Cell) (e : Host.Cell) => Map.set 0 m (dst + (e.1 - src)) e.2) base }
  let lines := fun (a : Nat) => s1.pool.poison.filter (fun l => decide (a / 64 ≤ l) && decide (l < (a + n) / 64))
  let s2 := (lines dst).foldl State.clearPoison s1
  let bad := (lines src).map (fun l => l - src / 64 + dst / 64)
  let t := dst / 2 ^ 40
  (s2.updPool (fun p => { p with poison := bad ++ p.poison })).setF (F.MEM_POISON t) (s2.f (F.MEM_POISON t) + bad.length)

/-- MIGRATE_PASS1_DONE (R252): the frame in hand at a source tile has been copied, and MIGRATING is set. -/
def execMigratePass1Done (t : Tile) (s : State) : Host.Outcome State Fault Refusal :=
  match s.pool.migs.find? (fun m => decide (m.phase = .pass1) && (match m.todo with | f :: _ => f.srcTile == t.val | [] => false)) with
  | none => .next s
  | some m => match m.todo with
    | [] => .next s
    | f :: _ =>
      -- frames wait while a switchover runs (R473)
      if (s.famEntry f.index).migrating || s.sec.switch.isSome then .next s
      else
        let s1 := s.copyMem (dramKey f.srcTile f.srcFrame 0) (dramKey f.dstTile f.dstFrame 0) (2 ^ 21)
        let s2 := s1.setFam f.index { s1.famEntry f.index with migrating := true }
        .next (s2.updPool (fun p => { p with invals := p.invals ++ [{ base := f.index, count := 1, kind := .migHold m.id, run := none }] }))

/-- MIGRATE_FRAME_SWITCH (R252): the dirty blocks have been copied, and the entry names the new frame. -/
def execMigrateFrameSwitch (t : Tile) (s : State) : Host.Outcome State Fault Refusal :=
  match s.pool.migs.find? (fun m => decide (m.phase = .hold) && (match m.todo with | f :: _ => f.srcTile == t.val | [] => false)) with
  | none => .next s
  | some m => match m.todo with
    | [] => .next s
    | f :: _ =>
      let e := s.famEntry f.index
      if !e.migrating then .next s
      else
        let s1 := s.each m.dirty (fun s b => s.copyMem (dramKey f.srcTile f.srcFrame (b * 4096)) (dramKey f.dstTile f.dstFrame (b * 4096)) 4096)
        let s2 := s1.setFam f.index { e with tier := m.tier, migrating := false, tile := f.dstTile, frame := f.dstFrame }
        .next (s2.updPool (fun p => { p with
          used := Map.put (frameKey f.dstTile f.dstFrame) (.region m.slot) p.used
          invals := p.invals ++ [{ base := f.index, count := 1, kind := .migSwitch m.id, run := none }] }))

/-! ### Scrub and availability (R255 to R258) -/

/-- Lines of a tile's memory. -/
def lineCount (t : Nat) : Nat := if isMemTile t then 12288 * 32768 else 131072 * 32768

/-- The line the scrub reads next. -/
def State.scrubLine (s : State) (t : Nat) : Nat := s.f (F.MEM_SCRUB_POS_POS t) + Map.get 0 s.pool.scrubHi t * 2 ^ 29

/-- PATROL_SCRUB_STEP (R257): the next line is read; a frame being copied is skipped until its switch. -/
def execPatrolScrubStep (t : Tile) (ecc : Ecc) (s : State) : Host.Outcome State Fault Refusal :=
  let n := t.val
  if !s.scrubbing n then .next s
  else
    let pos := s.scrubLine n
    let frame := pos / 32768
    let copied := s.pool.migs.any (fun m => !decide (m.phase = .queued) && (match m.todo with | f :: _ => f.srcTile == n && f.srcFrame == frame | [] => false))
    let s1 := if copied then s else s.applyEcc (dramKey n 0 (pos * 64)) 64 ecc
    let next := (if copied then (frame + 1) * 32768 else pos + 1) % lineCount n
    .next ((s1.setF (F.MEM_SCRUB_POS_POS n) (next % 2 ^ 29)).updPool (fun p =>
      { p with scrubHi := Map.set 0 p.scrubHi n (next / 2 ^ 29) }))

/-- MEMORY_UNAVAILABLE (R258). -/
def execMemoryUnavailable (t : Tile) (s : State) : Host.Outcome State Fault Refusal := .next ((s.memUnavailable t.val).rewriteDist.pumpStreams)

/-- MEMORY_RETURN (R258): a memory that nothing keeps UNAVAILABLE returns to service. -/
def execMemoryReturn (t : Tile) (s : State) : Host.Outcome State Fault Refusal :=
  if s.f (F.MEM_STAT_STATE t.val) ≠ 4 then .next s else .next ((s.memReturn t.val).rewriteDist.pumpStreams)

end Sys2Proof.Machine
end

