-- ==== Sys2Proof/Machine/Engine.lean ====
section
/-! DEFINITION. Machine/Engine.lean: the matrix engine's events (R265 to R287) and how passes are chosen and end (R304,
R305, R328). -/

namespace Sys2Proof.Machine

/-! ### Pass boundaries (R283, R284, R286, R287) -/

/-- A Substitute row or line takes up, or gives up, what it serves. -/
def State.applySub (s : State) (t : Nat) (c : SubChange) : State :=
  match c.which with
  | 0 => s.setFs [(F.OME_SUB_SUBROW_A t, c.unit.getD 0x7F), (F.OME_SUB_USE_A t, c.use)]
  | 1 => s.setFs [(F.OME_SUB_SUBROW_B t, c.unit.getD 0x7F), (F.OME_SUB_USE_B t, c.use)]
  | _ => s.setFs [(F.OME_SUB_SUBLINE t, c.unit.getD 0x3F), (F.OME_SUB_USE_LINE t, c.use)]

/-- What waits for a pass boundary happens, where no pass runs: Substitute changes outside REACQ, then a reference trace,
then the pilot's acquisition after a line's move (R137), then D1 entry. -/
def State.passBoundary (s : State) (t : Nat) : State :=
  let o := s.ome t
  let st := s.f (F.OME_STAT_STATE t)
  if o.work.isSome || st = 5 then s
  else
    let s1 := (s.each o.subs (fun s c => s.applySub t c)).updOme t (fun o => { o with subs := [] })
    if o.traceReq && (st == 3 || st == 4) then
      (s1.setFs [(F.OME_STAT_STATE t, 6), (F.OME_STAT_PILOT_LOCK t, 0)]).updOme t (fun o => { o with traceReq := false })
    else if o.reacqReq && (st == 3 || st == 4) then
      ((s1.setFs [(F.OME_STAT_STATE t, 5), (F.OME_STAT_PILOT_LOCK t, 0)]).bump (F.OME_CNT_REACQ t)).updOme t (fun o => { o with reacqReq := false })
    else if o.dozeReq && (st == 3 || st == 4) then
      (s1.setF (F.OME_STAT_STATE t) 7).updOme t (fun o => { o with dozeReq := false })
    else s1

/-! ### Choosing the next pass (R304, R328) -/

/-- The job's share that the OME of tile t works on: that of the mask tile whose duties it carries. -/
def State.shareAt (s : State) (t : Nat) (j : Job) : Option Share :=
  (s.dutiesOf t).bind (fun o => j.shares.find? (fun sh => sh.tile == o))

/-- May a job's share take a pass now: RUNNING, with a unit in hand that is not complete, or the next one ready? -/
def State.canPass (s : State) (t : Nat) (j : Job) : Bool :=
  decide (j.state = .running) &&
  (match s.shareAt t j with
   | some sh => !sh.ready && (sh.active || j.unitReady sh)
   | none => false)

/-- Has the share a unit in hand? -/
def State.midUnit (s : State) (t : Nat) (j : Job) : Bool := match s.shareAt t j with | some sh => sh.active | none => false

/-- The next job in turn after the last one, among those of the highest PRIO. -/
def State.turn (last : Nat) (js : List Job) : Option Job :=
  let top := (js.map (·.desc.prio)).foldl max 0
  let l := js.filter (fun j => j.desc.prio == top)
  match l.find? (fun j => decide (last < j.id)) with
  | some j => some j
  | none => l.head?

/-- The job whose pass comes next: a PROJECT batch that is ready ahead of other work of its PRIO and below, the unit in
hand, else the next unit in turn (R304). -/
def State.nextJob (s : State) (t : Nat) : Option Job :=
  let js := s.work.jobs.filter (s.canPass t)
  let last := (s.ome t).lastJob
  let active := js.filter (s.midUnit t)
  let proj := js.filter (fun j => j.desc.kind == 3 && !s.midUnit t j)
  match State.turn last active, State.turn last proj with
  | some a, some p => if a.desc.kind ≠ 3 && a.desc.prio ≤ p.desc.prio then some p else some a
  | some a, none => some a
  | none, some p => if js.all (fun j => decide (j.desc.prio ≤ p.desc.prio)) then some p else State.turn last js
  | none, none => State.turn last js

/-- The work that comes next: the pass group in hand, then collective passes ahead of PRIO 2 and below and in turn with
PRIO 3. -/
def State.nextWork (s : State) (t : Nat) : Option PassWork :=
  match (s.ome t).regroup with
  | some w => some w
  | none =>
    let job := s.nextJob t
    match s.collNext t with
    | none => job.map (fun j => .job j.id)
    | some (n, seq, sg) =>
      match job with
      | some j => if j.desc.prio = 3 && (s.ome t).lastColl then some (.job j.id) else some (.coll n seq sg)
      | none => some (.coll n seq sg)

/-- The pass of its group, and the accuracy class, of a piece of work. -/
def State.passOf (s : State) (t : Nat) (w : PassWork) : Option (Nat × Nat) :=
  match w with
  | .job id => (s.job id).bind (fun j => (s.shareAt t j).map (fun sh => (sh.reads.length, j.desc.cls)))
  | .coll n _ _ => ((s.group n).bind (·.cur)).map (fun o => ((s.ome t).collPass % (o.cls + 1), o.cls))

/-- The bank of pass p of a class (R278, R285): the same bank for a group's second pass; A then B in SPLIT3; else the banks
in turn, or the one that is left. -/
def State.bankFor (s : State) (t p cls : Nat) : Option Nat :=
  let o := s.ome t
  let ok := fun (b : Nat) => !o.withdrawn.contains b && !o.withheld.contains b
  let rdy := fun (b : Nat) => ok b && o.ready.contains b
  let last := s.f (F.OME_STAT_ACTIVE_BANK t)
  if p = 1 then (if ok last then some last else none)
  else if cls = 2 then (let b := if p = 0 then 0 else 1; if rdy b then some b else none)
  else if rdy (1 - last) then some (1 - last)
  else if o.withdrawn.contains (1 - last) && rdy last then some last
  else none

/-- Does a pass on a bank with so many rows and lines use one without calibration currency (R279)? Row 64 and line 32 stand
for what they serve. -/
def State.stalePass (s : State) (t bank rows lines : Nat) : Bool :=
  let subRow := if bank = 0 then s.f (F.OME_SUB_SUBROW_A t) else s.f (F.OME_SUB_SUBROW_B t)
  (List.range rows).any (fun r => !s.current t (0x2000 + bank * 128 + (if r = subRow then 64 else r))) ||
  (List.range lines).any (fun l => !s.current t (0x3000 + (if l = s.f (F.OME_SUB_SUBLINE t) then 32 else l)))

/-- Rows and lines that a piece of work uses, and its vectors. -/
def State.passShape (s : State) (t : Nat) (w : PassWork) : Nat × Nat × Nat :=
  match w with
  | .job id => match s.job id with
    | none => (0, 0, 0)
    | some j => match s.shareAt t j with
      | none => (0, 0, 0)
      | some sh => (j.desc.rows sh.block, min 32 (j.desc.k - 32 * sh.wt), if j.desc.kind = 2 then (j.span sh.chunk).2 else sh.vecs.length)
  | .coll n _ sg => match s.group n with
    | none => (0, 0, 0)
    | some g => match g.cur with
      | none => (0, 0, 0)
      | some o =>
        let c := max 1 (min 32 (g.ends.countP (fun r => s.entryOf g o.desc r sg == t)))
        (32 / c, 32 / c * c, min 8192 (ceilDiv (o.desc.segLen g.members.length sg) (32 / c)))

/-- OME_PASS_START (R270, R278, R287, R304): a pass of the next work starts on its bank. -/
def execOmePassStart (t : Tile) (s : State) : Host.Outcome State Fault Refusal :=
  let n := t.val
  let o := s.ome n
  let st := s.f (F.OME_STAT_STATE n)
  if !(st == 3 || st == 4) || o.work.isSome || o.paused ≠ 0 || o.traceReq || o.reacqReq || o.dozeReq || s.startTrace1 n || s.gated n then .next s
  else match s.nextWork n with
  | none => .next s
  | some w => match s.passOf n w with
    | none => .next (s.updOme n (fun o => { o with regroup := none }))
    | some (p, cls) => match s.bankFor n p cls with
      | none => .next s
      | some bank =>
        let s1 := match w with
          | .job id => (match s.job id with
            | some j => (match s.shareAt n j with
              | some sh => if sh.active then s else s.beginUnit n j sh
              | none => s)
            | none => s)
          | .coll .. => s
        let live := match w with
          | .job id => (match s1.job id with | some j => j.live | none => false)
          | .coll .. => true
        let (rows, lines, _) := s1.passShape n w
        if !live then .next (s1.updOme n (fun o => { o with regroup := none }))
        else if s1.b (F.OME_CTL_CAL_STRICT n) && s1.stalePass n bank rows lines then .next s1
        else
          let prio := match w with
            | .job id => ((s1.job id).map (·.desc.prio)).getD 0
            | .coll .. => s1.f (F.OMEJ_STAT_RUN_PRIO n)
          .next ((s1.setFs [(F.OME_STAT_STATE n, 4), (F.OME_STAT_ACTIVE_BANK n, bank), (F.OMEJ_STAT_RUN_PRIO n, prio)]).updOme n (fun o => { o with
            work := some w, ready := if p = 1 then o.ready else o.ready.erase bank,
            lastJob := (match w with | .job id => id | .coll .. => o.lastJob),
            lastColl := (match w with | .job _ => false | .coll .. => true) }))

/-- OME_BANK_RELOAD_DONE (R270): a bank in service holds its next weights. -/
def execOmeBankReloadDone (t : Tile) (bank : Fin 2) (s : State) : Host.Outcome State Fault Refusal :=
  let st := s.f (F.OME_STAT_STATE t.val)
  if st = 0 || st = 1 || st = 8 || (s.ome t.val).withdrawn.contains bank.val || (s.ome t.val).ready.contains bank.val then .next s
  else .next (s.updOme t.val (fun o => { o with ready := o.ready ++ [bank.val] }))

/-! ### How passes end -/

/-- Leave RUN at the end of a pass: IDLE where no pass is ready, then what waits for the boundary. -/
def State.afterPass (s : State) (t : Nat) : State :=
  let ready := match s.nextWork t with
    | some w => (match s.passOf t w with | some (p, cls) => (s.bankFor t p cls).isSome | none => false)
    | none => false
  let s1 := if s.f (F.OME_STAT_STATE t) = 4 && !ready then s.setF (F.OME_STAT_STATE t) 3 else s
  s1.passBoundary t

/-- Record the largest pilot error of a pass (R282). -/
def State.notePilot (s : State) (t : Nat) (pilot row bank : Nat) : State :=
  s.setFs [(F.OME_PILOT_LAST_MAX t, pilot), (F.OME_PILOT_WORST_ROW t, row), (F.OME_PILOT_WORST_BANK t, bank)]

/-- A bad pass group of a job is counted, and run again at most twice; the third time ends the job (R305). -/
def State.badJob (s : State) (t id : Nat) : State :=
  match s.job id with
  | none => s
  | some j => match s.shareAt t j with
    | none => s
    | some sh =>
      if 2 ≤ sh.tries then
        ((s.bump (F.OMEJ_CNT_UNSTABLE t)).raise t 31).endJob id stUnstable t t
      else
        ((s.updShare id sh.tile (fun x => { x with reads := [], tries := x.tries + 1 })).updJob id (fun x => { x with reruns := x.reruns + 1 })
          |>.bump (F.OMEJ_CNT_RERUN t)).updOme t (fun o => { o with regroup := some (.job id) })

/-- A bad pass group of a collective segment is run again at most twice; the third time the segment is reduced digitally
(R328). -/
def State.badColl (s : State) (t n sg : Nat) : State :=
  match (s.group n).bind (·.cur) with
  | none => s
  | some o =>
    if 2 ≤ (s.ome t).collTries then
      (s.updOp n (fun o => { o with segs := Map.upd ({} : Segment) o.segs sg (fun x => { x with optical := Map.put t true x.optical }) })).updOme t
        (fun e => { e with collPass := 0, collTries := 0, regroup := none })
    else s.updOme t (fun e => { e with
      collPass := e.collPass / (o.cls + 1) * (o.cls + 1), collTries := e.collTries + 1, regroup := some (.coll n o.seq sg) })

/-- Is a collective piece of work still that of the running operation? -/
def State.collLive (s : State) (n seq sg : Nat) : Bool :=
  match (s.group n).bind (·.cur) with
  | some o => o.seq == seq && (Map.find sg o.segs).isSome
  | none => false

/-- A pass is marked bad and discarded (R282): counted, and its group run again; beyond the limit the engine enters
REACQ. -/
def State.badPass (s : State) (t : Nat) (w : PassWork) (reacq : Bool) : State :=
  let s1 := (s.bump (F.OME_CNT_PASS_BAD t)).updOme t (fun o => { o with work := none, regroup := none })
  let s2 := if reacq then (s1.setFs [(F.OME_STAT_STATE t, 5), (F.OME_STAT_PILOT_LOCK t, 0)]).bump (F.OME_CNT_REACQ t) else s1
  let s3 := match w with
    | .job id => s2.badJob t id
    | .coll n seq sg => if s2.collLive n seq sg then s2.badColl t n sg else s2
  s3.afterPass t

/-- A good pass of a collective segment: after the last one the tile's entry stage may close (R326). -/
def State.collPassDone (s : State) (t n sg : Nat) : State :=
  match s.group n with
  | none => s
  | some g => match g.cur with
    | none => s
    | some o =>
      let c := g.ends.countP (fun r => s.entryOf g o.desc r sg == t)
      let total := opticalPasses c (o.desc.segLen g.members.length sg) o.cls
      let k := (s.ome t).collPass + 1
      let s1 := s.bump (F.COLL_CNT_OPT_PASS t)
      if total ≤ k then
        (s1.updOp n (fun o => { o with segs := Map.upd ({} : Segment) o.segs sg (fun x => { x with optical := Map.put t false x.optical }) })).updOme t
          (fun e => { e with collPass := 0, collTries := 0, regroup := none })
      else s1.updOme t (fun e => { e with
        collPass := k, collTries := if k % (o.cls + 1) = 0 then 0 else e.collTries,
        regroup := if k % (o.cls + 1) = 0 then none else some (.coll n o.seq sg) })

/-- The counters of every pass that runs (R269, R279): passes, MACs, passes without calibration currency. -/
def State.countPass (s : State) (t : Nat) (w : PassWork) : State :=
  let (rows, lines, n) := s.passShape t w
  let s1 := (s.bump (F.OME_CNT_PASS t)).setPair (F.OME_MAC_LO t) (F.OME_MAC_HI t) ((s.pair (F.OME_MAC_LO t) (F.OME_MAC_HI t) + 2048 * n) % 2 ^ 64)
  let stale := s.stalePass t (s.f (F.OME_STAT_ACTIVE_BANK t)) rows lines
  let s2 := if stale then s1.bump (F.OME_CNT_STALE t) else s1
  match w with
  | .job id => s2.updJob id (fun j => { j with passes := j.passes + 1, rflags := if stale then j.rflags ||| 2 else j.rflags })
  | .coll n _ _ => if stale then s2.collFlag n 4 else s2

/-- OME_PASS_END (R275, R279, R282, R287): the pass's largest pilot error and its readings, vector by vector and row by
row. -/
def execOmePassEnd (t : Tile) (pilot : BitVec 16) (row : BitVec 7) (bank : Fin 2) (readings : List (BitVec 12)) (s : State) :
    Host.Outcome State Fault Refusal :=
  let n := t.val
  match (s.ome n).work with
  | none => .next s
  | some w =>
    if s.f (F.OME_STAT_STATE n) ≠ 4 then .next s
    else
      let s1 := (s.notePilot n pilot.toNat row.toNat bank.val).countPass n w
      let above := decide (s.f (F.OME_CTL_PILOT_LIM n) * 10 < pilot.toNat)
      if above || !s.b (F.OME_STAT_PILOT_LOCK n) then .next (s1.badPass n w above)
      else
        let s2 := s1.updOme n (fun o => { o with work := none, regroup := none })
        let s3 := match w with
          | .job id => (match s2.job id with
            | none => s2
            | some j => (match s2.shareAt n j with
              | none => s2
              | some sh =>
                if decide (j.state = JobState.running) && sh.active then
                  let s4 := s2.jobPass n j sh (readings.map (fun (x : BitVec 12) => signedOf 12 x.toNat))
                  if sh.reads.length < j.desc.cls then s4.updOme n (fun o => { o with regroup := some (.job id) }) else s4
                else s2))
          | .coll k seq sg => if s2.collLive k seq sg then s2.collPassDone n k sg else s2
        .next (s3.afterPass n)

/-- PILOT_LIMIT_EXCEEDED (R282): the running pass is marked bad, and the engine enters REACQ. -/
def execPilotLimitExceeded (t : Tile) (pilot : BitVec 16) (row : BitVec 7) (bank : Fin 2) (s : State) : Host.Outcome State Fault Refusal :=
  let n := t.val
  match (s.ome n).work with
  | none => .next s
  | some w =>
    if s.f (F.OME_STAT_STATE n) ≠ 4 then .next s
    else .next (((s.notePilot n pilot.toNat row.toNat bank.val).countPass n w).badPass n w true)

/-- PILOT_ACQUIRED (R281, R287): every row's pilot error is within PILOT_LIM: ACQ or REACQ ends, and lock returns. -/
def execPilotAcquired (t : Tile) (s : State) : Host.Outcome State Fault Refusal :=
  let n := t.val
  let st := s.f (F.OME_STAT_STATE n)
  if st = 2 || st = 5 then .next (((s.setFs [(F.OME_STAT_STATE n, 3), (F.OME_STAT_PILOT_LOCK n, 1)])).passBoundary n)
  else if st = 3 || st = 4 then .next (s.setF (F.OME_STAT_PILOT_LOCK n) 1)
  else .next s

/-- REACQ_TIMEOUT (R282): 50 µs have passed without lock; the engine leaves REACQ with PILOT_LOCK at 0. -/
def execReacqTimeout (t : Tile) (s : State) : Host.Outcome State Fault Refusal :=
  .next (if s.f (F.OME_STAT_STATE t.val) = 5 then (s.setFs [(F.OME_STAT_STATE t.val, 3), (F.OME_STAT_PILOT_LOCK t.val, 0)]).passBoundary t.val else s)

/-- OME_SUBSTITUTE_CHANGE (R283, R284): a waiting assignment takes effect at a pass boundary. -/
def execOmeSubstituteChange (t : Tile) (s : State) : Host.Outcome State Fault Refusal := .next (s.passBoundary t.val)

/-- An OME fails (R285, R287): the running pass is discarded, and its job share moves (R31). -/
def State.failOme (s : State) (t : Nat) : State :=
  if s.f (F.OME_STAT_STATE t) = 0 || s.f (F.OME_STAT_STATE t) = 8 then s
  else (((s.omeStop t 8).moveDuties t).note 0x4 .omeFailed 2 (tgtTile t)).assertTile t 30

/-- OME_FAIL (R285, R287). -/
def execOmeFail (t : Tile) (s : State) : Host.Outcome State Fault Refusal := .next (s.failOme t.val).pumpStreams

/-- OME_CTL.EN written 0 (R287): the running pass is discarded, the engine is OFF, and its share is held until it runs
again. -/
def State.disableOme (s : State) (t : Nat) : State :=
  (s.omeStop t 0).updOme t (fun o => { o with subs := [] })

end Sys2Proof.Machine
end

