-- ==== Sys2Proof/Machine/Jobs.lean ====
section
/-! DEFINITION. Machine/Jobs.lean: the matrix job and staging commands and events (R289 to R311). -/

namespace Sys2Proof.Machine

/-! ### OME_JOB_SUBMIT (R292 to R302) -/

/-- A staging set by slot. -/
def State.set_ (s : State) (n : Nat) : StageSet := Map.get ({} : StageSet) s.work.sets n

/-- The slot of a live named set that a handle names (R311). -/
def State.setOf (s : State) (h : Nat) : Option Nat :=
  let n := h % 256
  if (s.set_ n).live && (s.set_ n).gen == h / 256 then some n else none

/-- The source stream handles of a job (R295): the COMBINE list, or the one of X_ADDR. -/
def srcHandles (d : JobDesc) (p : Packet) : List Nat :=
  if d.isrc = 0 then [] else if d.kind = 2 then (List.range d.k).map (fun i => p.w (32 + i)) else [d.xaddr]

/-- The first invalid field of a submit, as a byte offset in the packet. -/
def State.jobPar (s : State) (p : Packet) : Option Nat :=
  let d := JobDesc.parse p.params
  match d.firstBad p.params with
  | some o => some (32 + o)
  | none =>
    let extra := if d.kind = 2 && d.isrc = 1 then (List.range 32).find? (fun i => decide (d.k ≤ i) && p.w (32 + i) != 0) else none
    match extra with
    | some i => some (160 + 4 * i)
    | none =>
      match s.setOf d.stage with
      | some n =>
        let x := s.set_ n
        if x.waddr = d.waddr && x.m = d.m && x.k = d.k && x.wfmt = d.wfmt && x.mask = d.mask then none else some 104
      | none => none

/-- Staged row-blocks of a deal. -/
def stagedOf (deal : List (Nat × List (Nat × Bool))) : List Nat := deal.flatMap (fun e => (e.2.filter (fun b => !b.2)).map (·.1))

/-- Bytes of row-blocks. -/
def blockBytes (d : JobDesc) (l : List Nat) : Nat := (l.map (fun b => (d.blockRange b).2)).foldl (· + ·) 0

/-- Overflow row-blocks that must be copied to tier 2, and the frames they take (R301). -/
def State.spill (s : State) (d : JobDesc) (above : List (Nat × List Nat)) : List Nat × Nat :=
  let l := (above.flatMap (·.2)).filter (fun b => !s.inTier2 d b)
  (l, ceilDiv (blockBytes d l) (2 ^ 21))

/-- Free tier-2 frames. -/
def State.tier2Free (s : State) : Nat := (([0, 11, 36, 47].filter (fun t => !s.memDown t)).map s.freeCount).foldl (· + ·) 0

/-- ERR_CAPACITY of a submit: DETAIL and the 16-byte result (R300, R301). -/
def State.jobShort (s : State) (d : JobDesc) : Option (Nat × List Byte) :=
  if d.stage ≠ 0xFFFFFFFF then none
  else
    let deal := s.deal d
    match s.shortage (needOf d deal) with
    | none => none
    | some (t, short, split) =>
      if !d.flag 1 then some (t, shortageBytes short split)
      else
        let (_, need) := s.spill d (s.overflow d deal)
        if need ≤ s.tier2Free then none else some (t, shortageBytes ((need - s.tier2Free) * 2 ^ 21) split)

/-- A mask tile whose OME takes no work, or cannot run the class (R302). -/
def State.noClass (s : State) (d : JobDesc) : Option Nat :=
  (maskTiles d.mask).find? (fun t => match s.server t with | some u => s.classOff u d.cls | none => false)

/-- The frames of tier 2 that a submitted job takes, where there are that many (R301). -/
def State.tier2For (s : State) (id n : Nat) : State × List Nat := (s.takeTier2 id n []).getD (s, [])

/-- Enter a job, with the staging sets as they are from then on. -/
def State.putJob (s : State) (j : Job) (sets : List (Nat × StageSet)) : State :=
  { s with work := { s.work with jobs := s.work.jobs ++ [j], sets := sets } }

/-- What an accepted OME_JOB_SUBMIT leaves: the deal, the frames of tier 2 and the staging it takes, the job and its mirror
record (R291, R298, R301, R310). -/
def State.submitJob (s : State) (p : Packet) (o id : Nat) : State :=
  let d := JobDesc.parse p.params
  let deal := s.deal d
  let above := if (s.shortage (needOf d deal)).isSome && d.stage = 0xFFFFFFFF then s.overflow d deal else []
  let taken := s.tier2For id (s.spill d above).2
  let stays := (above.flatMap (·.2)).filter (s.inTier2 d)
  let staged := (stagedOf deal).filter (fun b => !stays.contains b)
  let inHalf := staged.filter (fun b => !above.any (fun e => e.2.contains b))
  let temp := d.stage = 0xFFFFFFFF && !staged.isEmpty
  let need := deal.map (fun e => (e.1, blockBytes d ((e.2.map (·.1)).filter inHalf.contains)))
  let x : StageSet := {
    live := true, temp := true, origin := o, waddr := d.waddr, m := d.m, k := d.k, wfmt := d.wfmt, mask := d.mask
    need := need
    free := need.map (fun e => (e.1, s.stagingFree e.1))
    data := staged.foldl (fun (m : List (Nat × List Byte)) b => Map.put b [] m) [] }
  let sets := if temp then Map.put (256 + id) x taken.1.work.sets else taken.1.work.sets
  let mir := d.flag 0 && s.mirrors
  let j : Job := {
    id := id, origin := o, tag := p.tag.toNat, desc := d, srcs := (srcHandles d p).map handleKey, nc := d.nc
    shares := deal.map (fun e =>
      let mine := e.2.map (·.1)
      { tile := e.1, blocks := (List.range d.blocks).filter mine.contains, streamed := stays.filter mine.contains })
    set := if temp then some (256 + id) else s.setOf d.stage
    state := if temp then .staging else .running
    unitsTotal := d.blocks * d.chunks
    rflags := (if above.any (fun e => !e.2.isEmpty) then 8 else 0) + (if d.flag 0 && !s.mirrors && s.twinState ≠ 2 && s.twinState ≠ 3 then 16 else 0)
    derate := ceilDiv (256 * (d.wBytes + 39 * blockBytes d (above.flatMap (·.2)))) d.wBytes
    startBell := s.bell, frames := taken.2, mirrored := mir }
  let s2 := taken.1.putJob j sets
  let s3 := if mir then (s2.mirror s2.clockMaster 3 0x0400 id (s2.cmdRecord 0x0400 o p [])).1 else s2
  s3.pumpStreams

/-- OME_JOB_SUBMIT. -/
def omeJobSubmitDef : CmdDef where
  code := 0x0400
  len := fun p => let d := JobDesc.parse p.params; if d.kind = 2 && d.isrc = 1 then some 256 else some 128
  par := fun s p _ => s.jobPar p
  resLen := fun _ _ => some 32
  pre := fun s p _ =>
    let d := JobDesc.parse p.params
    match (maskTiles d.mask).find? (fun t => !s.omeServes t) with
    | some t => some (stState, t)
    | none => match s.noClass d with
    | some t => some (0x8403, t)
    | none =>
      if (match s.setOf d.stage with | some n => !(s.set_ n).ready | none => false) then some (stBusy, 0)
      else match s.jobShort d with
      | some x => some (stCapacity, x.1)
      | none =>
        if 1024 ≤ s.work.jobs.length then some (stTableFull, 1024)
        else if d.kind = 3 && 64 ≤ s.work.jobs.countP (fun j => j.desc.kind == 3) then some (stTableFull, 64)
        else if !d.ranges.all (fun r => s.rangeLocal r.2.1 r.2.2) || (srcHandles d p).any (fun h => (s.liveKey h).isNone) ||
            (d.odst == 1 && (s.liveKey d.yaddr).isNone) || (d.stage != 0xFFFFFFFF && (s.setOf d.stage).isNone) then some (stNotFound, 0)
        else none
  preResult := fun s p =>
    let d := JobDesc.parse p.params
    let early := (maskTiles d.mask).any (fun t => !s.omeServes t) || (s.noClass d).isSome ||
      (match s.setOf d.stage with | some n => !(s.set_ n).ready | none => false)
    if early then [] else ((s.jobShort d).map (·.2)).getD []
  act := fun s p o id => .later (s.submitJob p o id)

/-- OME_JOB_SUBMIT (R302). -/
def execOmeJobSubmit (p : Packet) (s : State) : Host.Outcome State Fault Refusal := .next (runCmd omeJobSubmitDef p s)

/-! ### OME_JOB_QUERY and OME_JOB_CANCEL (R307, R311) -/

/-- The job that an ORIGIN and a TAG name. -/
def State.jobNamed (s : State) (origin tag : Nat) : Option Job := s.work.jobs.find? (fun j => j.origin == origin && j.tag == tag)

/-- A fabric endpoint acts only on what carries its own ORIGIN. -/
def ownOrigin (p : Packet) (o : Nat) : Option Nat := if originCode o = 5 && p.w 0 ≠ o then some 1 else none

/-- JORIGIN and JTAG take 16 bits each. -/
def jobNamePar (p : Packet) : Option Nat := if 0xFFFF < p.w 0 then some 32 else if 0xFFFF < p.w 1 then some 36 else none

/-- OME_JOB_QUERY. -/
def omeJobQueryDef : CmdDef where
  code := 0x0401
  len := fun _ => some 8
  auth := fun _ p o => ownOrigin p o
  par := fun _ p _ => jobNamePar p
  resLen := fun _ _ => some 32
  pre := fun s p _ => if (s.jobNamed (p.w 0) (p.w 1)).isNone then some (stNotFound, 0) else none
  act := fun s p _ _ =>
    match s.jobNamed (p.w 0) (p.w 1) with
    | some j => .now s stOk 0 (s.jobRecord j) []
    | none => .now s stNotFound 0 [] []

/-- OME_JOB_QUERY (R311). -/
def execOmeJobQuery (p : Packet) (s : State) : Host.Outcome State Fault Refusal := .next (runCmd omeJobQueryDef p s)

/-- OME_JOB_CANCEL: the units in progress are not written, and the submit ends ERR_CANCELLED. -/
def omeJobCancelDef : CmdDef where
  code := 0x0402
  len := fun _ => some 8
  auth := fun _ p o => ownOrigin p o
  par := fun _ p _ => jobNamePar p
  pre := fun s p _ => match s.jobNamed (p.w 0) (p.w 1) with
    | some j => if j.live then none else some (stNotFound, 0)
    | none => some (stNotFound, 0)
  act := fun s p _ _ =>
    match s.jobNamed (p.w 0) (p.w 1) with
    | some j => .now (s.endJob j.id 0x8401 0 255).pumpStreams stOk 0 [] []
    | none => .now s stNotFound 0 [] []

/-- OME_JOB_CANCEL (R307). -/
def execOmeJobCancel (p : Packet) (s : State) : Host.Outcome State Fault Refusal := .next (runCmd omeJobCancelDef p s)

/-! ### Staging sets (R297, R298, R311) -/

/-- The matrix that OME_STAGE_LOAD names, as a job descriptor. -/
def stageDesc (p : Packet) : JobDesc :=
  { JobDesc.parse [] with kind := 1, cls := 0, waddr := p.w 0 + p.w 1 * 2 ^ 32, m := p.w 2, k := p.w 3, wfmt := p.w 4,
                          mask := p.w 5 + p.w 6 % 0x10000 * 2 ^ 32 }

/-- OME_STAGE_LOAD. -/
def omeStageLoadDef : CmdDef where
  code := 0x0410
  len := fun _ => some 28
  par := fun _ p _ =>
    let d := stageDesc p
    if !addrValid d.waddr then some 32 else if d.m = 0 || 16777216 < d.m then some 40
    else if d.k = 0 || 1048576 < d.k || (isMx d.wfmt && d.k % 32 != 0) then some 44
    else if 6 < d.wfmt then some 48 else if (maskTiles d.mask).isEmpty then some 52 else if 0xFFFF < p.w 6 then some 56 else none
  resLen := fun _ _ => some 4
  pre := fun s p _ =>
    let d := stageDesc p
    match (maskTiles d.mask).find? (fun t => !s.omeServes t) with
    | some t => some (stState, t)
    | none => match s.shortage (needOf d (s.deal d)) with
      | some x => some (stCapacity, x.1)
      | none =>
        if (List.range 256).all (fun n => (s.set_ n).live) then some (stTableFull, 256)
        else if !s.rangeLocal d.waddr d.wBytes then some (stNotFound, 0) else none
  preResult := fun s p =>
    let d := stageDesc p
    if (maskTiles d.mask).any (fun t => !s.omeServes t) then []
    else match s.shortage (needOf d (s.deal d)) with
      | some (_, short, split) => shortageBytes short split
      | none => []
  act := fun s p o id =>
    let d := stageDesc p
    let deal := s.deal d
    let need := needOf d deal
    let (slot, s1) := s.pickFree 256 (fun n => (s.set_ n).live)
    let x : StageSet := {
      gen := (s.set_ (slot.getD 0)).gen, live := true, origin := o, waddr := d.waddr, m := d.m, k := d.k, wfmt := d.wfmt, mask := d.mask
      need := need
      free := need.map (fun e => (e.1, s.stagingFree e.1))
      data := (stagedOf deal).foldl (fun (m : List (Nat × List Byte)) b => Map.put b [] m) []
      run := some id }
    .later { s1 with work := { s1.work with sets := Map.put (slot.getD 0) x s1.work.sets } }

/-- OME_STAGE_LOAD (R298). -/
def execOmeStageLoad (p : Packet) (s : State) : Host.Outcome State Fault Refusal := .next (runCmd omeStageLoadDef p s)

/-- A fabric endpoint acts only on sets of its own ORIGIN. -/
def State.setAuth (s : State) (p : Packet) (o : Nat) : Option Nat :=
  match s.setOf (p.w 0) with
  | some n => if originCode o = 5 && (s.set_ n).origin ≠ o then some 1 else none
  | none => none

/-- OME_STAGE_RELEASE. -/
def omeStageReleaseDef : CmdDef where
  code := 0x0411
  len := fun _ => some 4
  auth := State.setAuth
  pre := fun s p _ => match s.setOf (p.w 0) with
    | none => some (stNotFound, 0)
    | some n => if !(s.set_ n).ready || s.work.jobs.any (fun j => j.live && j.set == some n) then some (stBusy, 0) else none
  act := fun s p _ _ => .now (s.freeSet (p.w 0 % 256)) stOk 0 [] []

/-- OME_STAGE_RELEASE (R311). -/
def execOmeStageRelease (p : Packet) (s : State) : Host.Outcome State Fault Refusal := .next (runCmd omeStageReleaseDef p s)

/-- The 16 bytes of OME_STAGE_QUERY. How far a copy under way has come, and how a ratio that is no whole number of 1/256
units is rounded, the spec leaves open. -/
def State.stageRecord (s : State) (n : Nat) : List Byte × State :=
  let x := s.set_ n
  let total := (x.need.map (·.2)).foldl (· + ·) 0
  let (v, s1) := s.fresh
  let ratio := (x.need.map (fun e =>
    let f := Map.get 0 x.free e.1
    if f = 0 then (if e.2 = 0 then 0 else 0xFFFFFFFF) else (e.2 * 256 + (if v.getLsbD 63 then f - 1 else 0)) / f)).foldl max 0
  (leBytes 8 (if x.ready then total else v.toNat % (total + 1)) ++ leBytes 4 ratio ++ leBytes 1 (if x.ready then 1 else 0) ++ zeros 3, s1)

/-- OME_STAGE_QUERY. -/
def omeStageQueryDef : CmdDef where
  code := 0x0412
  len := fun _ => some 4
  auth := State.setAuth
  resLen := fun _ _ => some 16
  pre := fun s p _ => if (s.setOf (p.w 0)).isNone then some (stNotFound, 0) else none
  act := fun s p _ _ => let (r, s1) := s.stageRecord (p.w 0 % 256); .now s1 stOk 0 r []

/-- OME_STAGE_QUERY (R311). -/
def execOmeStageQuery (p : Packet) (s : State) : Host.Outcome State Fault Refusal := .next (runCmd omeStageQueryDef p s)

/-! ### Job events (R303, R304, R308, R310) -/

/-- Copy the row-blocks of a set, in order; the status of the first that cannot be read. -/
def State.copyBlocks (t : Nat) (d : JobDesc) : List Nat → List (Nat × List Byte) → State → Except Nat (List (Nat × List Byte)) × State
  | [], got, s => (.ok got, s)
  | b :: r, got, s =>
    let x := d.blockRange b
    match s.readRange t x.1 x.2 with
    | (.error st, s1) => (.error st, s1)
    | (.ok bs, s1) => State.copyBlocks t d r (Map.put b bs got) s1

/-- JOB_STAGING_DONE (R297, R308): the staged row-blocks of a job, or of a named set, have been copied. -/
def execJobStagingDone (origin tag : BitVec 16) (s : State) : Host.Outcome State Fault Refusal :=
  match s.work.jobs.find? (fun j => j.origin == origin.toNat && j.tag == tag.toNat && decide (j.state = .staging)) with
  | some j => match j.set with
    | none => .next s
    | some n =>
      let x := s.set_ n
      match State.copyBlocks ((maskTiles j.desc.mask).headD 0) j.desc (Map.keys x.data) [] s with
      | (.error st, s1) => .next (s1.operandFail j.id ((maskTiles j.desc.mask).headD 0) st)
      | (.ok data, s1) =>
        let s2 := { s1 with work := { s1.work with sets := Map.put n { x with data := data, ready := true } s1.work.sets } }
        .next (s2.updJob j.id (fun j => { j with state := .running })).pumpStreams
  | none =>
    match s.proctor.running.find? (fun r => r.opcode == 0x0410 && r.origin == origin.toNat && r.pkt.tag == tag && r.fin.isNone) with
    | none => .next s
    | some r => match s.work.sets.find? (fun e => e.2.run == some r.id) with
      | none => .next s
      | some (n, x) =>
        let d := stageDesc r.pkt
        match State.copyBlocks ((maskTiles d.mask).headD 0) d (Map.keys x.data) [] s with
        | (.error st, s1) =>
          let det := if st = stFault then s1.faultDetail (s1.rangesCause (d.ranges.map (·.2))) else 0
          .next ((s1.freeSet n).finish r.id st det)
        | (.ok data, s1) =>
          let s2 := { s1 with work := { s1.work with sets := Map.put n { x with data := data, ready := true, run := none } s1.work.sets } }
          .next (s2.finish r.id stOk 0 (leBytes 4 (n + x.gen * 256)))

/-- JOB_UNIT_WRITTEN (R303): a mask tile's complete unit is written; one for a stream without credit is held (R307). -/
def execJobUnitWritten (origin tag : BitVec 16) (t : Tile) (s : State) : Host.Outcome State Fault Refusal :=
  match s.work.jobs.find? (fun j => j.origin == origin.toNat && j.tag == tag.toNat && decide (j.state = .running)) with
  | none => .next s
  | some j => match j.shares.find? (fun sh => sh.tile == t.val) with
    | none => .next s
    | some sh =>
      let held := decide (j.desc.odst = 1) && (match (s.liveKey j.desc.yaddr).bind s.stream with | some c => !c.outData.isEmpty | none => false)
      if !sh.ready || held then .next s
      else .next (s.writeUnit ((s.server t.val).getD t.val) j sh).pumpStreams

/-- JOB_SHARES_ENDED (R308): every share has ended: DONE, or MIRROR_WAIT with a mirrored job. -/
def execJobSharesEnded (origin tag : BitVec 16) (s : State) : Host.Outcome State Fault Refusal :=
  match s.work.jobs.find? (fun j => j.origin == origin.toNat && j.tag == tag.toNat && decide (j.state = .running)) with
  | none => .next s
  | some j =>
    if !j.shares.all j.shareDone then .next s
    else if j.mirrored && s.mirrors then .next (s.updJob j.id (fun j => { j with state := .mirrorWait }))
    else .next (s.endJob j.id stOk 0 255)

/-- JOB_MIRROR_DONE (R308, R310): the standby reports completion. -/
def execJobMirrorDone (origin tag : BitVec 16) (s : State) : Host.Outcome State Fault Refusal :=
  match s.work.jobs.find? (fun j => j.origin == origin.toNat && j.tag == tag.toNat && decide (j.state = .mirrorWait)) with
  | none => .next s
  | some j => .next (s.endJob j.id stOk 0 255)

/-- PROJECT_BATCH_WAIT (R304): PROJ_WAIT has passed since the first waiting vector arrived. -/
def execProjectBatchWait (origin tag : BitVec 16) (s : State) : Host.Outcome State Fault Refusal :=
  match s.work.jobs.find? (fun j => j.origin == origin.toNat && j.tag == tag.toNat && decide (j.state = .running)) with
  | none => .next s
  | some j =>
    if j.desc.kind ≠ 3 || (Map.get [] j.inq 0).isEmpty then .next s
    else .next ((s.updJob j.id (fun j => Job.formAll { j with due := true })).pumpStreams)

end Sys2Proof.Machine
end

