-- ==== Sys2Proof/Machine/CollRows.lean ====
section
/-! DEFINITION. Machine/CollRows.lean: the collective commands and events (R312 to R338). -/

namespace Sys2Proof.Machine

/-! ### Groups (R312 to R315, R336, R338) -/

/-- Does a fabric endpoint act on a group in which none of its streams is a member (R338)? -/
def State.groupAuth (s : State) (p : Packet) (o : Nat) : Option Nat :=
  if originCode o ≠ 5 then none
  else match (s.ctxOf (p.w 0)).bind s.group with
    | none => none
    | some g => if g.members.any (fun m => match s.stream m.key with | some c => c.epNode == o % 0x8000 | none => false) then none else some 1

/-- Entry i of a member list (R313). -/
def memberAt (b : List Byte) (i : Nat) : Member :=
  let w := leAt b (8 * i + 4) 4
  ⟨leAt b (8 * i) 4, w % 4 == 1, w / 2 ^ 8 % 2 ^ 12, w / 2 ^ 20 % 2 ^ 12⟩

/-- The members of a list of n entries. -/
def memberList (b : List Byte) (n : Nat) : List Member := (List.range n).map (memberAt b)

/-- Is an entry's second word well formed (R313)? -/
def memberWord (w : Nat) : Bool :=
  decide (w % 4 < 2) && w / 4 % 64 == 0 && decide (w / 2 ^ 8 % 2 ^ 12 + w / 2 ^ 20 % 2 ^ 12 ≤ 4096) && (w % 4 == 0 || w / 2 ^ 20 % 2 ^ 12 == 0)

/-- Are the experts of the members hosted once each (R313)? -/
def expertsOk : List Member → Bool
  | [] => true
  | m :: r => r.all (fun x => !overlaps m.firstExpert m.experts x.firstExpert x.experts) && expertsOk r

/-- Is a member list of n entries well formed: entries, experts, and at most 255 PEER entries (R313, R332)? -/
def listOk (b : List Byte) (n : Nat) (old : List Member) : Bool :=
  (List.range n).all (fun i => memberWord (leAt b (8 * i + 4) 4)) && expertsOk (old ++ memberList b n) &&
    decide ((old ++ memberList b n).countP (·.peer) ≤ 255)

/-- The owner-tile mask of R314: the same number of tiles in each row it touches, and no reserve tile that is neither
released nor a stand-in. -/
def State.maskOk (s : State) (mask : Nat) : Bool :=
  let rows := maskRows mask
  !rows.isEmpty && rows.all (fun r => (maskRow mask r).length == maskQ mask) &&
    (maskTiles mask).all (fun t => !isReserve t || s.b (F.TILE_ROLE_RELEASED t) || s.b (F.TILE_ROLE_STANDIN t))

/-- The rank of the first entry whose stream is stale, or a member already of a group or of the list itself (R315): the
status and the rank. -/
def State.badMember (s : State) (l : List Member) : Option (Nat × Nat) :=
  match l.findIdx? (fun m => (s.liveKey m.stream).isNone) with
  | some i => some (stNotFound, i)
  | none =>
    let taken := s.ctxKeys.flatMap (fun n => match s.group n with | some g => g.members.map Member.key | none => [])
    (l.zipIdx.find? (fun x => taken.contains x.1.key || (l.take x.2).any (fun y => y.key == x.1.key))).map (fun x => (stState, x.2))

/-- Input data that a command's checks read; none where it cannot be read. -/
def State.inputOr (s : State) (p : Packet) (n : Nat) : List Byte := match s.input p n with | .ok b => b | .error _ => []

/-- The status of input data that cannot be read. -/
def State.inputBad (s : State) (p : Packet) (n : Nat) : Option (Nat × Nat) := 
  match s.input p n with
  | .ok _ => none
  | .error st => some (st, if st = stFault then s.faultDetail (s.rangeCause p.dataAddr.toNat n) else 0)

/-- TILE_MASK of a COLL_GROUP_CREATE. -/
def createMask (p : Packet) : Nat := p.w 1 + p.w 2 % 0x10000 * 2 ^ 32

/-- COLL_GROUP_CREATE. -/
def collGroupCreateDef : CmdDef where
  code := 0x0500
  len := fun _ => some 16
  dataLen := fun p => if p.w 0 = 0 || 65536 < p.w 0 || p.dataLen.toNat = p.w 0 * 8 then none else some (p.w 0 * 8)
  par := fun s p _ =>
    let n := p.w 0
    if n = 0 || 65536 < n then some 32
    else if 0xFFFF < p.w 2 then some 40
    else if !s.maskOk (createMask p) then some 36
    else
      let b := s.inputOr p (n * 8)
      let peers := (memberList b n).countP (·.peer)
      if (s.inputBad p (n * 8)).isNone && !listOk b n [] then some 16
      else if (if peers = 0 then p.w 3 != 0 else decide (peers < p.w 3)) then some 44 else none
  resLen := fun _ _ => some 4
  pre := fun s p o =>
    let l := memberList (s.inputOr p (p.w 0 * 8)) (p.w 0)
    match s.inputBad p (p.w 0 * 8) with
    | some e => some e
    | none =>
      if s.node = 0 then some (stState, 0x20)
      else match s.badMember l with
      | some e => some e
      | none =>
        if originCode o = 5 && !l.any (fun m => match s.stream m.key with | some c => c.epNode == o % 0x8000 | none => false) then some (stAuth, 1)
        else if (List.range 4096).all (fun n => (s.group n).isSome) then some (stTableFull, 4096) else none
  act := fun s p _ _ =>
    let (slot, s1) := s.pickFree 4096 (fun n => (s.group n).isSome)
    let n := slot.getD 0
    let g : Group := { members := memberList (s.inputOr p (p.w 0 * 8)) (p.w 0), mask := createMask p, moduleRank := p.w 3 }
    let s2 := s1.updCtx n (fun c => { c with group := some g })
    .now (s2.each (g.members.map Member.key) (fun s k => s.pumpStream k)) stOk 0 (leBytes 4 (n + (s1.ctx n).gen * 4096)) []

/-- COLL_GROUP_CREATE (R312 to R315, R338). -/
def execCollGroupCreate (p : Packet) (s : State) : Host.Outcome State Fault Refusal := .next (runCmd collGroupCreateDef p s)

/-- A stale handle is ERR_NOT_FOUND (R312). -/
def State.staleCtx (s : State) (h : Nat) : Option (Nat × Nat) := if (s.ctxOf h).isNone then some (stNotFound, 0) else none

/-- Operations posted on a context and not ended (R333): a REPEAT run counts once. -/
def State.collPosted (s : State) (n : Nat) : Nat := match s.group n with | some g => g.runs.countP (fun r => decide (r.state < 2)) | none => 0

/-- COLL_GROUP_DESTROY: what is posted ends ERR_OP_ABORTED first; the context is freed and GEN counts on (R312). -/
def collGroupDestroyDef : CmdDef where
  code := 0x0501
  len := fun _ => some 4
  auth := State.groupAuth
  pre := fun s p _ => s.staleCtx (p.w 0)
  act := fun s p _ _ =>
    let n := p.w 0 % 4096
    let s1 := s.stopOps n 0x8503 0 4 0xFFFF 255
    let keys := ((s1.group n).map (fun g => g.members.map Member.key)).getD []
    let s2 := s1.updCtx n (fun c => { gen := (c.gen + 1) % 2 ^ 20, group := none })
    .now (s2.each keys (fun s k => s.pumpStream k)) stOk 0 [] []

/-- COLL_GROUP_DESTROY (R338). -/
def execCollGroupDestroy (p : Packet) (s : State) : Host.Outcome State Fault Refusal := .next (runCmd collGroupDestroyDef p s)

/-- Bytes of the data buffer of a COLL_GROUP_MODIFY. -/
def modifyBytes (p : Packet) : Nat := if p.w 1 = 0 then p.w 2 * 8 else p.w 2 * 4

/-- The ranks that a REMOVE names. -/
def removeRanks (b : List Byte) (k : Nat) : List Nat := (List.range k).map (fun i => leAt b (4 * i) 4)

/-- The members of the group that a MODIFY names. -/
def State.membersOf (s : State) (h : Nat) : List Member := (((s.ctxOf h).bind s.group).map (·.members)).getD []

/-- Has a member's stream been lost (R335)? -/
def State.memberGone (s : State) (m : Member) : Bool :=
  match (s.liveKey m.stream).bind s.stream with | some c => decide (c.state = .faulted) | none => true

/-- Is a context's group BROKEN (R335)? -/
def State.collBroken (s : State) (n : Nat) : Bool := match s.group n with | some g => g.broken.isSome | none => false

/-- COLL_GROUP_MODIFY. -/
def collGroupModifyDef : CmdDef where
  code := 0x0502
  len := fun _ => some 12
  auth := State.groupAuth
  dataLen := fun p => if 1 < p.w 1 || 65536 < p.w 2 || p.dataLen.toNat = modifyBytes p then none else some (modifyBytes p)
  par := fun s p _ =>
    let k := p.w 2
    let old := s.membersOf (p.w 0)
    let n := old.length
    let b := s.inputOr p (modifyBytes p)
    if 1 < p.w 1 then some 36
    else if k = 0 || (s.ctxOf (p.w 0)).isNone then none
    else if p.w 1 = 0 then
      if 65536 < n + k then some 40 else if (s.inputBad p (modifyBytes p)).isNone && !listOk b k old then some 16 else none
    else if n ≤ k then some 40
    else
      let l := removeRanks b k
      if (s.inputBad p (modifyBytes p)).isNone && (l.any (fun r => decide (n ≤ r)) || l.eraseDups.length != k) then some 16 else none
  zero := fun p => p.w 2 == 0
  resLen := fun _ _ => some 4
  pre := fun s p _ =>
    match s.staleCtx (p.w 0) with
    | some e => some e
    | none =>
      let n := p.w 0 % 4096
      let broken := ((s.group n).bind (·.broken))
      match s.inputBad p (modifyBytes p) with
      | some e => some e
      | none =>
        if (match broken with | some r => p.w 1 == 0 || !(removeRanks (s.inputOr p (modifyBytes p)) (p.w 2)).contains r | none => false) then some (stState, 0)
        else if 0 < s.collPosted n then some (stBusy, 0)
        else if p.w 1 = 0 then (s.badMember (memberList (s.inputOr p (modifyBytes p)) (p.w 2))).map (fun e => (e.1, e.2 + (s.membersOf (p.w 0)).length))
        else none
  act := fun s p _ _ =>
    let n := p.w 0 % 4096
    let b := s.inputOr p (modifyBytes p)
    let old := s.membersOf (p.w 0)
    let gone := if p.w 1 = 1 then removeRanks b (p.w 2) else []
    let kept := (old.zipIdx.filter (fun x => !gone.contains x.2)).map (·.1)
    let now := if p.w 1 = 0 then old ++ memberList b (p.w 2) else kept
    let s1 := s.each (gone.map (fun r => old.getD r ⟨0, false, 0, 0⟩)) (fun s m => s.dropHeldColl n (fun _ => true) m)
    let s2 := s1.updGroup n (fun g => { g with
      members := now,
      broken := match g.broken with
        | some _ => now.findIdx? (fun m => s.memberGone m)
        | none => none })
    .now (s2.each (now.map Member.key) (fun s k => s.pumpStream k)) stOk 0 (leBytes 4 now.length) []

/-- COLL_GROUP_MODIFY (R336, R338). -/
def execCollGroupModify (p : Packet) (s : State) : Host.Outcome State Fault Refusal := .next (runCmd collGroupModifyDef p s)

/-- COLL_GROUP_QUERY. -/
def collGroupQueryDef : CmdDef where
  code := 0x0503
  len := fun _ => some 4
  auth := State.groupAuth
  resLen := fun _ _ => some 16
  pre := fun s p _ => s.staleCtx (p.w 0)
  act := fun s p _ _ =>
    let n := p.w 0 % 4096
    match s.group n with
    | none => .now s stNotFound 0 [] []
    | some g =>
      let st := if g.broken.isSome then 2 else if 0 < s.collPosted n then 1 else 0
      .now s stOk 0 (leBytes 4 g.members.length ++ leBytes 4 st ++ leBytes 4 g.nextSeq ++ leBytes 4 (s.collPosted n)) []

/-- COLL_GROUP_QUERY (R338). -/
def execCollGroupQuery (p : Packet) (s : State) : Host.Outcome State Fault Refusal := .next (runCmd collGroupQueryDef p s)

/-! ### Operations (R316 to R318, R333, R334) -/

/-- Source ranges of an operation: each rank's contribution in memory. -/
def OpDesc.sources (d : OpDesc) (n : Nat) : List (Nat × Nat) :=
  if d.isrc ≠ 0 then []
  else if d.op = 3 then [(d.src + d.root * d.lds, d.count * elemSize d.itype)]
  else (List.range n).map (fun r => (d.src + r * d.lds, d.sends n r * elemSize d.itype))

/-- Destination ranges: one result array, or one for each rank in ALL_TO_ALL (R317). -/
def OpDesc.dests (d : OpDesc) (n : Nat) : List (Nat × Nat) :=
  if d.odst ≠ 0 then []
  else if d.op = 4 then (List.range n).map (fun r => (d.dst + r * d.ldd, d.receives n * elemSize d.otype))
  else [(d.dst, (if d.op = 1 then d.total n else d.receives n) * elemSize d.otype)]

/-- Does a range lie within the pool space of one node (R212)? -/
def rangeFits (x : Nat × Nat) : Bool := addrValid x.1 && decide (addrOffset x.1 + x.2 ≤ 2 ^ 42)

/-- The offset in the descriptor of the first field that fails R318. -/
def OpDesc.firstBad (d : OpDesc) (b : List Byte) (n : Nat) (peers : Bool) : Option Nat :=
  let red := decide (d.op < 2)
  let tok := d.op == 5 || d.op == 6
  let srcs := d.sources n
  let dsts := d.dests n
  let checks : List (Nat × Bool) := [
    (0, decide (6 < d.op) || (peers && d.op != 0)),
    (1, if red then decide (2 < d.redop) || (d.path == 1 && d.redop != 0) else d.redop != 0),
    (2, if red then decide (2 < d.path) else d.path != 0),
    (3, if red then decide (3 < d.tol) || (d.path == 1 && d.tol == 0)
        else if d.op = 6 then d.tol == 0 || decide (3 < d.tol) else d.tol != 0),
    (4, decide (3 < d.itype)), (5, decide (3 < d.otype)),
    (6, decide (1 < d.isrc) || decide (1 < d.odst) || (tok && !(d.isrc == 1 && d.odst == 1))),
    (7, leAt b 7 1 != 0),
    (8, if d.op = 3 then decide (n ≤ d.root) else d.root != 0),
    (12, if tok then d.count != 0 else d.count == 0 ||
      (decide (d.op = 1 ∨ d.op = 2 ∨ d.op = 4) && decide (4294967295 < n * d.count))),
    (16, if d.isrc = 0 then !srcs.all rangeFits else d.src != 0),
    (24, if d.odst = 0 then !dsts.all rangeFits || dsts.any (fun x => srcs.any (fun y => overlaps x.1 x.2 y.1 y.2)) else d.dst != 0),
    (32, if d.isrc = 0 then decide (d.lds < (if d.op = 3 then d.count else d.sends n 0) * elemSize d.itype) else d.lds != 0),
    (36, if d.odst = 0 && d.op = 4 then decide (d.ldd < d.receives n * elemSize d.otype) else d.ldd != 0),
    (40, if tok then d.hidden == 0 || decide (65536 < d.hidden) else d.hidden != 0),
    (44, if d.op = 5 then d.topk == 0 || decide (8 < d.topk) else d.topk != 0),
    (45, leAt b 45 3 != 0),
    (48, if d.op = 5 then d.cap == 0 || decide (1048576 < d.cap) else d.cap != 0),
    (52, if d.op = 5 then d.tokens == 0 || decide (4096 < d.tokens) else d.tokens != 0),
    (56, leAt b 56 8 != 0)]
  (checks.find? (fun c => c.2)).map (·.1)

/-- The descriptor in a COLL_OP_POST. -/
def postDesc (p : Packet) : OpDesc := OpDesc.parse (p.params.drop 4)

/-- The operation that runs before one posted now: the last run posted, else the last that ran (R331). -/
def Group.before (g : Group) : Option OpDesc :=
  match (g.runs.filter (fun r => decide (r.state < 2))).getLast? with
  | some r => some r.desc
  | none => g.lastOp

/-- COLL_OP_POST. -/
def collOpPostDef : CmdDef where
  code := 0x0510
  len := fun _ => some 68
  auth := State.groupAuth
  par := fun s p _ =>
    match (s.ctxOf (p.w 0)).bind s.group with
    | none => none
    | some g => ((postDesc p).firstBad (p.params.drop 4) g.members.length (g.members.any (·.peer))).map (· + 36)
  zero := fun p => (postDesc p).rep == 0
  resLen := fun _ _ => some 32
  pre := fun s p _ =>
    match s.staleCtx (p.w 0) with
    | some e => some e
    | none =>
      match s.group (p.w 0 % 4096) with
      | none => some (stNotFound, 0)
      | some g =>
        let d := postDesc p
        if g.broken.isSome then some (stState, 0)
        else if d.op = 6 && (d.rep != 1 || (match g.before with | some x => x.op != 5 || x.hidden != d.hidden | none => true)) then some (stState, 0)
        else if 64 ≤ s.collPosted (p.w 0 % 4096) then some (stTableFull, 64) else none
  act := fun s p o id =>
    let n := p.w 0 % 4096
    let d := postDesc p
    let s1 := if s.mirrors then (s.mirror s.clockMaster 2 0x0510 n (s.cmdRecord 0x0510 o p [])).1 else s
    .later (s1.updGroup n (fun g => { g with
      runs := g.runs ++ [{ id := id, desc := d, first := g.nextSeq, count := d.rep }], nextSeq := (g.nextSeq + d.rep) % 65536 }))

/-- COLL_OP_POST (R317, R318, R333, R338). -/
def execCollOpPost (p : Packet) (s : State) : Host.Outcome State Fault Refusal := .next (runCmd collOpPostDef p s)

/-- The run of a group that an OPSEQ lies in. -/
def Group.runOf (g : Group) (seq : Nat) : Option CollRun :=
  g.runs.find? (fun r => decide ((seq + 65536 - r.first) % 65536 < r.count))

/-- COLL_OP_QUERY. -/
def collOpQueryDef : CmdDef where
  code := 0x0511
  len := fun _ => some 8
  auth := State.groupAuth
  par := fun _ p _ => if 0xFFFF < p.w 1 then some 36 else none
  resLen := fun _ _ => some 32
  pre := fun s p _ =>
    match (s.ctxOf (p.w 0)).bind s.group with
    | none => some (stNotFound, 0)
    | some g => if g.broken.isSome then some (stState, 0) else if (g.runOf (p.w 1)).isNone then some (stNotFound, 0) else none
  act := fun s p _ _ =>
    match ((s.ctxOf (p.w 0)).bind s.group).bind (fun g => g.runOf (p.w 1)) with
    | none => .now s stNotFound 0 [] []
    | some r => .now s stOk 0 (s.collRecord r) []

/-- COLL_OP_QUERY (R334, R338). -/
def execCollOpQuery (p : Packet) (s : State) : Host.Outcome State Fault Refusal := .next (runCmd collOpQueryDef p s)

/-- COLL_OP_ABORT: the running and the queued operations end (R333); OK_EMPTY where none is posted. -/
def collOpAbortDef : CmdDef where
  code := 0x0512
  len := fun _ => some 4
  auth := State.groupAuth
  pre := fun s p _ =>
    match s.staleCtx (p.w 0) with
    | some e => some e
    | none =>
      if s.collBroken (p.w 0 % 4096) then some (stState, 0)
      else if s.collPosted (p.w 0 % 4096) = 0 then some (stOkEmpty, 0) else none
  act := fun s p _ _ => .now (s.stopOps (p.w 0 % 4096) 0x8503 0 4 0xFFFF 255) stOk 0 [] []

/-- COLL_OP_ABORT (R333, R338). -/
def execCollOpAbort (p : Packet) (s : State) : Host.Outcome State Fault Refusal := .next (runCmd collOpAbortDef p s)

/-! ### Events (R319 to R335) -/

/-- COLL_OP_START (R323, R333). -/
def execCollOpStart (c : BitVec 12) (s : State) : Host.Outcome State Fault Refusal :=
  .next ((s.startOp c.toNat).pumpMembers c.toNat)

/-- A transport unit of a collective type comes in (R319, R320, R323). -/
def State.collTu (s : State) (v : Via) (bytes : List Byte) (ty : Nat) : State :=
  if (Tu.parse bytes).type ≠ ty then s else s.takeTu v.code 0 bytes (fun s tu => s.acceptTu v.code tu)

/-- COLL_DATA. -/
def execCollData (v : Via) (bytes : List Byte) (s : State) : Host.Outcome State Fault Refusal := .next (s.collTu v bytes 0x10)
/-- COLL_ROUTE (R319, R330). -/
def execCollRoute (v : Via) (bytes : List Byte) (s : State) : Host.Outcome State Fault Refusal := .next (s.collTu v bytes 0x11)
/-- COLL_END (R319, R330, R331). -/
def execCollEnd (v : Via) (bytes : List Byte) (s : State) : Host.Outcome State Fault Refusal := .next (s.collTu v bytes 0x12)

/-- PEER_PARTIAL_RECEIVE (R332): a partial or a result from a peer; a digest that differs ends the operation. How the
digest is made and carried the spec leaves open: the operand says whether it agrees. -/
def execPeerPartialReceive (v : Via) (bytes : List Byte) (digestOk : Bool) (s : State) : Host.Outcome State Fault Refusal :=
  let tu := Tu.parse bytes
  let n := tu.aux % 4096
  let peer := match s.group n with | some g => g.members.any (fun m => m.peer && m.key == handleKey tu.stream) | none => false
  if tu.type ≠ 0x10 || !peer then .next s
  else
    let running := match (s.group n).bind (·.cur) with | some o => o.seq == tu.aux / 4096 % 65536 | none => false
    if !digestOk && running then .next (s.takeTu v.code 0 bytes (fun s _ => s.collFail n 0x8502 0 0xFFFF 255))
    else .next (s.takeTu v.code 0 bytes (fun s tu => s.acceptTu v.code tu))

/-- COLL_SEGMENT_REDUCED (R321, R325, R326, R331): a stage of a segment is reduced; for a COMBINE, the source of rank
`seg` gets the tokens that are ready, in order. -/
def execCollSegmentReduced (c : BitVec 12) (seg : BitVec 32) (stage : Stage) (s : State) : Host.Outcome State Fault Refusal :=
  let n := c.toNat
  match s.group n with
  | none => .next s
  | some g => match g.cur with
    | none => .next s
    | some o =>
      if o.desc.op < 2 then
        let s1 := match stage with
          | .entry t => s.entryStage n seg.toNat t.val
          | .collector r => s.collectStage n seg.toNat r.val
          | .owner => s.ownerStage n seg.toNat
        .next (s1.pumpMembers n)
      else if o.desc.op = 6 then .next ((State.returnTokens n seg.toNat (g.routes.length + 1) s).routeDone n)
      else .next s

/-- Is the running operation complete (R324): its results are out, and every member has acknowledged all it was sent? -/
def State.collComplete (s : State) (g : Group) (o : CollOp) : Bool := o.resultsOut && (s.notHolder || g.ends.all (fun r => s.allAcked (g.key r)))

/-- COLL_OP_COMPLETE (R324, R333, R334): the next operation of the run is due, or its final reply. -/
def execCollOpComplete (c : BitVec 12) (s : State) : Host.Outcome State Fault Refusal :=
  let n := c.toNat
  match s.group n with
  | none => .next s
  | some g => match g.cur, g.head with
    | some o, some r =>
      if !s.collComplete g o then .next s
      else
        let last := decide (r.count ≤ r.done + 1)
        let r2 : CollRun := { r with done := r.done + 1, state := (if last then 2 else 0), endBell := (if last then some s.bell else none) }
        let s1 := (s.updGroup n (fun g => { g with cur := none })).updRun n r.id (fun _ => r2)
        .next ((if last then s1.finish r.id stOk 0 (s1.collRecord r2) else s1).pumpMembers n)
    | _, _ => .next s

end Sys2Proof.Machine
end

