-- ==== Sys2Proof/Machine/Lanes.lean ====
section
/-! DEFINITION. Machine/Lanes.lean: training, the shutter, A1, eye scans and the CXL lanes (chapter 04; R128, R129, R185,
R186). -/

namespace Sys2Proof.Machine

/-! ### Lane maps -/

/-- Store the stripe positions. -/
def State.setPos (s : State) (p : Nat) (pos : List Nat) : State :=
  s.each (List.range 4) (fun s n => s.wr (R.LINK_POS p n) (BitVec.ofNat 32
    (pos.getD (4 * n) 0xFF + pos.getD (4 * n + 1) 0xFF * 2 ^ 8 + pos.getD (4 * n + 2) 0xFF * 2 ^ 16 + pos.getD (4 * n + 3) 0xFF * 2 ^ 24)))

/-- Lanes retired by R136. -/
def State.retired (s : State) (p : Nat) : Nat := Map.get 0 (s.phNv (p / 3)).retired (p % 3)

/-- The 20 bytes of a lane map (R529). -/
def mapBytes (width rate epoch : Nat) (pos : List Nat) : List Byte :=
  leBytes 1 width ++ leBytes 1 rate ++ leBytes 2 epoch ++ (List.range 16).flatMap (fun i => leBytes 1 (pos.getD i 0xFF))

/-- The lane map a port holds, encoded. -/
def State.mapNow (s : State) (p : Nat) : List Byte :=
  mapBytes (s.mapLanes p).length (s.link p).mapRate (s.f (F.LINK_STAT_EPOCH p)) (s.posOf p)

/-- Put a lane map in force: positions, IN_MAP and STANDBY bits, width and rate. `healthy` are the lanes locked and
adapted. -/
def State.installMap (s : State) (p : Nat) (pos : List Nat) (rate healthy : Nat) : State :=
  let m := maskOf pos
  let s1 := (s.setPos p pos).each (List.range 17) (fun s j =>
    s.setFs [(F.LANE_STAT_IN_MAP p j, if m.testBit j then 1 else 0),
             (F.LANE_STAT_STANDBY p j, if healthy.testBit j && !m.testBit j then 1 else 0)])
  (s1.setFs [(F.SDS_STAT_WIDTH p, (lanesOf m).length), (F.SDS_STAT_RATE p, rate)]).updLink p (fun l => { l with mapRate := rate })

/-- Lanes of a port that are locked and adapted, not retired and not in Detention. -/
def State.healthyLanes (s : State) (p : Nat) : Nat :=
  maskOf ((List.range 17).filter (fun j => !(s.barred p).testBit j && (s.b (F.LANE_STAT_IN_MAP p j) || s.b (F.LANE_STAT_STANDBY p j))))

/-- Epoch a is older than b (R185 step 3). -/
def epochOlder (a b : Nat) : Bool :=
  if a = b then false
  else if a = 0 then true
  else if b = 0 then false
  else decide ((b + 65535 - a) % 65535 < 32768)

/-- The epoch after the newer of two (R185). -/
def epochNext (a b : Nat) : Nat :=
  let n := if epochOlder a b then b else a
  if n = 65535 then 1 else n + 1

/-- Is this end the older side of a port (R185 step 3)? -/
def State.olderSide (s : State) (p : Nat) : Bool :=
  let l := s.link p
  let e := s.f (F.LINK_STAT_EPOCH p)
  if e ≠ l.farEpoch then epochOlder e l.farEpoch
  else if s.node ≠ l.farNode then decide (s.node < l.farNode)
  else decide (p < l.farPort)

/-! ### Training -/

/-- Change a port's training. -/
def State.updTrain (s : State) (p : Nat) (f : Training → Training) : State := s.updLink p (fun l => { l with train := l.train.map f })

/-- Enter a stage of training: its blocks leave on lanes 0 to 15 and S (R144, R146). -/
def State.toStage (s : State) (p stage : Nat) : State := (s.setF (F.SDS_STAT_STAGE p) stage).sendBlocks p stage (List.range 17)

/-- An attempt fails (R146): a fast retrain is followed by a full training at the same rate first; a full one goes one rate
code lower, or after 64 Gb/s the port is DOWN and waits 1 s. -/
def State.attemptFails (s : State) (p : Nat) : State :=
  match (s.link p).train with
  | none => s
  | some tr =>
    if !tr.full then
      let s1 := s.declareDown p 1
      if s1.mayTrain p then s1.beginTraining p true tr.rate else s1
    else if tr.rate < 3 then s.beginTraining p true (tr.rate + 1)
    else (s.setFs [(F.LINK_STAT_STATE p, 1), (F.SDS_STAT_STAGE p, 0)]).updLink p (fun l => { l with train := none, retryWait := true })

/-- The port is HELD by lane map conflict (R185 step 4); out of a fast retrain its traffic goes back to its streams. -/
def State.holdPort (s : State) (p : Nat) : State :=
  let s0 := if s.linkKeeps p then s.declareDown p 5 else s
  let s1 := (s0.setFs [(F.LINK_STAT_STATE p, 5), (F.LINK_STAT_CONFLICT p, 1), (F.SDS_STAT_STAGE p, 0)]).updLink p (fun l => { l with train := none })
  (s1.note 0x2 .laneMapConflict 2 (tgtPort p) p).raise (p / 3) (15 + p % 3)

/-- A port enters UP on the agreed lanes (R183, R185, R186): after a full training the sequences are 0; a fast retrain
keeps them and sends again from TX_ACKED. A full training counts as a committed Blocking run of its lanes (R351). -/
def State.enterUp (s : State) (p : Nat) (offer : Nat) : State :=
  match (s.link p).train with
  | none => s
  | some tr =>
    let lanes := if offer = 0x1FFFF then 0xFFFF else offer
    let pos := lanesOf lanes
    let l := s.link p
    let mine := s.f (F.LINK_STAT_EPOCH p)
    let same := maskOf (s.posOf p) == lanes && l.mapRate == tr.rate && mine != 0 && l.farEpoch != 0
    let epoch := if same then mine else epochNext mine l.farEpoch
    let s1 := (s.installMap p pos tr.rate offer).setFs [(F.LINK_STAT_STATE p, 3), (F.LINK_STAT_EPOCH p, epoch), (F.LINK_STAT_CONFLICT p, 0),
      (F.LINK_STAT_FC_LIMITED p, 0)]
    let s2 := s1.updLink p (fun l => { l with
      train := none, farEpoch := epoch, fcLower := 0, ackIdle := s.f (F.LINK_CTL_ACK_IDLE p), upSince := s.bell, trainSeen := [], rttDone := false,
      rxPhase := 0, txPhase := 0, away := 0, back := 0, swap := none, revert := none })
    let s3 := if tr.full then
        ((s2.setFs [(F.LINK_SEQ_TX_SEQ p, 0), (F.LINK_SEQ_ACK_SEQ p, 0), (F.LINK_SEQ_RX_SEQ p, 0), (F.LINK_STAT_REPLAY_NUM p, 0),
          (F.LINK_STAT_POST_RETRAIN p, 0)]).bump (F.SDS_STAT_FULL_CNT p)).updLink p (fun l => { l with ackValid := false, ackSent := none, unacked := [] })
      else (s2.bump (F.SDS_STAT_FAST_CNT p)).updLink p (fun l => { l with replayPos := if l.unacked.isEmpty then none else some 0 })
    let s4 := if tr.full then s3.each (lanesOf tr.lanes) (fun s j => s.commitChan (p / 3) (laneChan p j)) else s3
    -- a STANDBY lane sends training blocks with STAGE 5 (R147)
    ((s4.setF (F.SDS_STAT_STAGE p) 5).sendBlocks p 5 ((List.range 17).filter (fun j => s4.b (F.LANE_STAT_STANDBY p j)))).streamsPortUp p l.farNode

/-- Compare the two offers of the MAP stage (R185 steps 1, 2 and 4). -/
def State.compareOffers (s : State) (p far : Nat) (farReady : Bool) : State :=
  match (s.link p).train with
  | none => s
  | some tr =>
    let mine := tr.lanes &&& (0x1FFFF ^^^ s.barred p)
    if mine = far then
      let s1 := s.updTrain p (fun t => { t with ready := true, farReady := farReady, lastFar := none })
      if tr.ready then s1 else s1.sendBlocks p 4 (List.range 17)
    else if tr.lastFar = some far then s
    else if dataLanes (mine &&& far) < 4 then s.attemptFails p
    else if 3 ≤ tr.rounds then s.holdPort p
    else
      let s1 := s.updTrain p (fun t => { t with lanes := mine &&& far, rounds := t.rounds + 1, ready := false, farReady := false, lastFar := some far })
      if s.olderSide p then s1.toStage p 1 else s1.sendBlocks p 4 (List.range 17)

/-- Clip a signed byte to ±lim. -/
def clipByte (lim v : Nat) : Nat := fieldOf 8 (max (-(lim : Int)) (min lim (signedOf 8 (v % 256))))

/-- Adaptation of a lane: taps and thresholds as LMS leaves them (R148, R149), which no rule fixes but for the limits of the
taps: free values. -/
def State.adapt (s : State) (p j : Nat) : State :=
  let (a, s1) := s.fresh
  let (b, s3) := s1.fresh
  let v := a.toNat
  let w := b.toNat
  let tap := fun (x i lim : Nat) => clipByte lim (x / 256 ^ i) * 256 ^ (i % 4)
  let s4 := (s3.wr (R.LANE_TAP p j 0) (BitVec.ofNat 32 (tap v 0 96 + tap v 1 32 + tap v 2 32 + tap v 3 32))).wr (R.LANE_TAP p j 1)
    (BitVec.ofNat 32 (tap v 4 32 + tap v 5 32 + tap v 6 32 + tap v 7 32))
  (s4.wr (R.LANE_TAP p j 2) (BitVec.ofNat 32 (tap w 0 32 + tap w 1 32 + tap w 2 32 + tap w 3 32))).wr (R.LANE_THR p j)
    (BitVec.ofNat 32 (w / 2 ^ 32 % 2 ^ 24))

/-- Equalisation of a lane ends: a CTLE setting of the 16, a free value, with the taps and thresholds of the adaptation (R148). -/
def State.equalise (s : State) (p j : Nat) : State :=
  let (a, s1) := s.fresh
  (s1.setF (F.LANE_STAT_CTLE p j) (a.toNat % 16)).adapt p j

/-- ALIGN's choice of order (R145): reversed where LANE is 15 − j on every locked data lane, else normal. The lanes that
match it, and whether it is reversed. -/
def alignLanes (lanes : Nat) (lines : List (Nat × Nat × Bool)) : Nat × Bool :=
  let lane := fun (j : Nat) => (Map.find j lines).map (·.1)
  let locked := lanesOf (lanes % 65536)
  let rev := !locked.isEmpty && locked.all (fun j => lane j == some (15 - j))
  let ok := (lanesOf lanes).filter (fun j => if j = 16 then lane j == some 16 else if rev then true else lane j == some j)
  (maskOf (ok.map (fun j => if rev && j != 16 then 15 - j else j)), rev)

/-- Lines as lanes, or lanes as lines: data lane j is read from line 15 − j where the order is reversed (R145). -/
def lineMask (rev : Bool) (m : Nat) : Nat := maskOf ((lanesOf m).map (fun j => if rev && j != 16 then 15 - j else j))

/-- A stage of training ends on the lanes in `pass`, which names lines until ALIGN has found the order (R144, R145). -/
def State.stageEnds (s : State) (p pass : Nat) : State :=
  match (s.link p).train with
  | none => s
  | some tr =>
    let lanes := tr.lanes &&& pass
    match s.f (F.SDS_STAT_STAGE p) with
    | 1 =>
      if dataLanes lanes < 4 then s
      else
        let s1 := s.each (List.range 17) (fun s j => s.setF (F.LANE_STAT_CDR_LOCK p j) (if lanes.testBit j then 1 else 0))
        (s1.updTrain p (fun t => { t with lanes := lanes, seen := true, hunt := none })).toStage p 2
    | 2 =>
      let fresh := tr.full && !tr.aligned
      let (ok, rev) := if fresh then alignLanes lanes tr.lines else (lanes, s.b (F.SDS_STAT_REVERSED p))
      if dataLanes ok < 4 then s
      else
        let s1 := if fresh then
            ((s.setB (F.SDS_STAT_REVERSED p) rev).each tr.lines (fun s x => s.setF (F.LANE_STAT_POL_INV p x.1) (if x.2.2 then 1 else 0))).each
              (List.range 17) (fun s j => s.setF (F.LANE_STAT_CDR_LOCK p j) (if (lineMask rev lanes).testBit j then 1 else 0))
          else s
        (s1.updTrain p (fun t => { t with lanes := ok, aligned := true })).toStage p 3
    | 3 =>
      if dataLanes lanes < 4 then s
      else
        let s1 := s.each (lanesOf tr.lanes) (fun s j =>
          if lanes.testBit j then ((s.setF (F.LANE_STAT_EQ_FAIL p j) 0).equalise p j).saveEq p j tr.rate
          else s.setF (F.LANE_STAT_EQ_FAIL p j) 1)
        (s1.updTrain p (fun t => { t with lanes := lanes, lastFar := none })).toStage p 4
    | _ => s

/-! ### Meanings: the shutter -/

/-- LOS_ASSERT (R128, R183): the shutter closes, the beacon starts, and a port that was UP or retraining is declared down. -/
def execLosAssert (p : Port) (s : State) : Host.Outcome State Fault Refusal :=
  let q := p.val
  let dark := s.each (List.range 17) (fun s j => s.setFs [(F.LANE_STAT_CDR_LOCK q j, 0), (F.LANE_STAT_STANDBY q j, 0)])
  let s1 := (dark.setF (F.EYESAFE_LOS (q / 3) (q % 3)) 1).shut q
  .next (if s1.linkKeeps q then s1.declareDown q 1
    else if s1.f (F.LINK_STAT_STATE q) = 2 then
      (s1.setFs [(F.LINK_STAT_STATE q, 1), (F.SDS_STAT_STAGE q, 0)]).updLink q (fun l => { l with train := none, retryWait := false })
    else s1.updLink q (fun l => { l with retryWait := false }))

/-- LOS_DEASSERT (R128, R129, R183): light again; a HELD port is DOWN; the shutter opens where the far end has been seen. -/
def execLosDeassert (p : Port) (s : State) : Host.Outcome State Fault Refusal :=
  let q := p.val
  let s1 := s.setF (F.EYESAFE_LOS (q / 3) (q % 3)) 0
  let s2 := if s1.f (F.LINK_STAT_STATE q) = 5 then s1.setFs [(F.LINK_STAT_STATE q, 1), (F.LINK_STAT_CONFLICT q, 0)] else s1
  .next (if s2.b (F.EYESAFE_BEACON_OK (q / 3) (q % 3)) then s2.openShutter q else s2)

/-- BEACON_WORD_RECEIVE (R129): two consecutive words with a correct CRC and the same content show the far end, and the
shutter opens once LOS is clear. -/
def execBeaconWordReceive (p : Port) (w : BitVec 64) (s : State) : Host.Outcome State Fault Refusal :=
  let q := p.val
  let v := w.toNat
  if crc16Bits (bitsDown v 63 16) ≠ v % 65536 then .next (s.updLink q (fun l => { l with beacon := none }))
  else if (s.link q).beacon = some v then
    .next (((s.setF (F.EYESAFE_BEACON_OK (q / 3) (q % 3)) 1).updLink q (fun l => { l with
      farNode := v / 2 ^ 49, farPort := v / 2 ^ 41 % 256, farEpoch := v / 2 ^ 25 % 65536 })).openShutter q)
  else .next (s.updLink q (fun l => { l with beacon := some v }))

/-! ### Meanings: training -/

/-- Is the port resolving polarity and lane identity: ALIGN of a full training (R145)? -/
def State.aligning (s : State) (p : Nat) : Bool :=
  s.f (F.SDS_STAT_STAGE p) == 2 && (match (s.link p).train with | some t => t.full && !t.aligned | none => false)

/-- A training word with a correct CRC and whether the lane is inverted (R143, R145): in ALIGN as received, or inverted where only
that passes; else by the polarity found for the lane. -/
def State.trainWord (s : State) (p line : Nat) (w : BitVec 128) : Option (Nat × Bool) :=
  let ok := fun (v : Nat) => crc16Bits (bitsDown v 127 16) == v % 65536
  let asIs := if ok w.toNat then some (w.toNat, false) else none
  let flipped := if ok (~~~ w).toNat then some ((~~~ w).toNat, true) else none
  if s.aligning p then asIs.or flipped
  else if s.b (F.LANE_STAT_POL_INV p line) then flipped else asIs

/-- What a training word does at a port, by its state. -/
def State.takeTrainWord (s : State) (p line v : Nat) (inv : Bool) : State :=
  let lane := v / 2 ^ 123 % 32
  let stage := v / 2 ^ 120 % 8
  let rate := v / 2 ^ 118 % 4
  let full := v / 2 ^ 60 % 2 == 1
  let working := decide (1 ≤ stage) && decide (stage ≤ 4)
  let know := s.updLink p (fun l => { l with farNode := v / 2 ^ 102 % 2 ^ 15, farPort := v / 2 ^ 94 % 256, farEpoch := v / 2 ^ 78 % 65536 })
  let st := s.f (F.LINK_STAT_STATE p)
  if st = 2 || st = 4 then
    match (s.link p).train with
    | none => s
    | some tr =>
      -- training blocks of a full training end a fast retrain (R183)
      if st = 4 && full && working && (s.mapLanes p).contains line then
        let s1 := s.updLink p (fun l => { l with trainSeen := (2 * line + 1) :: l.trainSeen.erase (2 * line + 1) })
        if 4 ≤ ((s1.link p).trainSeen.filter (fun x => x % 2 == 1)).length then s1.downAndTrain p else s1
      else if rate ≠ tr.rate then
        -- seen only while hunting at that rate (R528)
        if tr.hunt = some rate && !tr.seen && tr.rate < rate then know.beginTraining p true rate else s
      else
        let s1 := (know.setF (F.LANE_STAT_FAR_LANE p line) lane).updTrain p (fun t => { t with
          seen := true, hunt := none, lines := Map.put line (lane, inv) t.lines })
        if s.f (F.SDS_STAT_STAGE p) = 4 && stage = 4 then
          (s1.updLink p (fun l => { l with farMap := v / 2 ^ 61 % 2 ^ 17 })).compareOffers p (v / 2 ^ 61 % 2 ^ 17) (v / 2 ^ 117 % 2 == 1)
        else s1
  else if st = 3 then
    if stage = 6 then s.setF (F.SDS_STAT_RX_QUIET p) 1
    else if working && (s.mapLanes p).contains line then
      let key := 2 * line + (if full then 1 else 0)
      let s1 := know.updLink p (fun l => { l with trainSeen := key :: l.trainSeen.erase key })
      let n := fun (b : Nat) => ((s1.link p).trainSeen.filter (fun x => x % 2 == b)).length
      if 4 ≤ n 1 then s1.downAndTrain p
      else if 4 ≤ n 0 then (s1.beginTraining p false (s.link p).mapRate)
      else s1
    else s
  else if st = 1 then
    -- the far end has been seen in link training (R129)
    if working && s.f (F.EYESAFE_STATE (p / 3) (p % 3)) ≠ 0 then know.openShutter p else know
  else s

/-- TRAINING_WORD_RECEIVE (R143): a word whose CRC fails is ignored. `line` is the line it came on. -/
def execTrainingWordReceive (p : Port) (line : Lane) (w : BitVec 128) (s : State) : Host.Outcome State Fault Refusal :=
  match s.trainWord p.val line.val w with
  | none => .next s
  | some (v, inv) => .next (s.takeTrainWord p.val line.val v inv)

/-- Is a stage's exit condition met on the lanes in `pass` (R144): in ALIGN and EQ on every candidate lane? -/
def State.stageMet (s : State) (p pass : Nat) : Bool :=
  match (s.link p).train with
  | none => false
  | some tr => s.f (F.SDS_STAT_STAGE p) == 1 || tr.lanes &&& pass == tr.lanes

/-- TRAIN_STAGE_DONE (R144): the lanes in `pass` have met the stage's exit condition; in MAP both sides are READY and a
full training ends in UP. -/
def execTrainStageDone (p : Port) (pass : BitVec 17) (s : State) : Host.Outcome State Fault Refusal :=
  let q := p.val
  if s.f (F.SDS_STAT_STAGE q) = 4 && s.f (F.LINK_STAT_STATE q) = 2 then
    match (s.link q).train with
    | some tr => .next (if tr.ready && tr.farReady then s.enterUp q (tr.lanes &&& (0x1FFFF ^^^ s.barred q)) else s)
    | none => .next s
  else .next (if s.stageMet q pass.toNat then s.stageEnds q pass.toNat else s)

/-- TRAIN_STAGE_TIMEOUT (R144, R146): the lanes outside `pass` are left out; with fewer than 4 data lanes, or in MAP, the
attempt fails. -/
def execTrainStageTimeout (p : Port) (pass : BitVec 17) (s : State) : Host.Outcome State Fault Refusal :=
  let q := p.val
  match (s.link q).train with
  | none => .next s
  | some tr =>
    let lanes := tr.lanes &&& pass.toNat
    let left := if s.f (F.SDS_STAT_STAGE q) = 2 && tr.full && !tr.aligned then (alignLanes lanes tr.lines).1 else lanes
    .next (if s.f (F.SDS_STAT_STAGE q) = 4 || dataLanes left < 4 then s.attemptFails q else s.stageEnds q pass.toNat)

/-- RATE_HUNT_STEP (R528): in LOCK without training blocks at its own rate, the receiver moves to the next other rate. -/
def execRateHuntStep (p : Port) (s : State) : Host.Outcome State Fault Refusal :=
  let q := p.val
  match (s.link q).train with
  | none => .next s
  | some tr =>
    if s.f (F.SDS_STAT_STAGE q) = 1 && tr.full && !tr.seen then
      let n := ((tr.hunt.getD tr.rate) + 1) % 4
      .next (s.updTrain q (fun t => { t with hunt := some (if n = tr.rate then (n + 1) % 4 else n) }))
    else .next s

/-- TRAIN_RETRY_TIMER (R146): 1 s after a failed attempt at 64 Gb/s the rates restart while light is present. -/
def execTrainRetryTimer (p : Port) (s : State) : Host.Outcome State Fault Refusal :=
  let q := p.val
  .next (if (s.link q).retryWait && !s.b (F.EYESAFE_LOS (q / 3) (q % 3)) then
    (s.updLink q (fun l => { l with retryWait := false })).startFull q else s)

/-! ### Meanings: lanes in service -/

/-- Has a lane continuous adaptation: UP or in STANDBY, its receive direction not in QUIET (R149)? -/
def State.adapts (s : State) (p j : Nat) : Bool :=
  s.linkUp p && !s.b (F.SDS_STAT_RX_QUIET p) && (s.b (F.LANE_STAT_IN_MAP p j) || s.b (F.LANE_STAT_STANDBY p j))

/-- LANE_OFFSET_CHECK (R141, R149): the peak offset of each lane over 1 ms, 0.1 ppm; above 250 ppm the port does not enter A1,
above 300 ppm the lane loses CDR lock. In that 1 ms the LMS steps, one unit per 2^16 UI, may have taken each tap and threshold
anywhere within its limits: free values (assumption 161). -/
def execLaneOffsetCheck (p : Port) (ofs : List (BitVec 16)) (s : State) : Host.Outcome State Fault Refusal :=
  let q := p.val
  let xs := (List.range 17).zip ofs
  let s1 := s.each xs (fun s x =>
    let s1 := s.setF (F.LANE_STAT_FREQ_OFS q x.1) x.2.toNat
    if 3000 < x.2.toInt.natAbs then s1.setFs [(F.LANE_STAT_CDR_LOCK q x.1, 0), (F.LANE_STAT_STANDBY q x.1, 0)]
    else if s1.adapts q x.1 then (s1.adapt q x.1).saveEq q x.1 (s1.link q).mapRate
    else s1)
  .next (s1.setB (F.SDS_STAT_A1_BLOCKED q) (xs.any (fun x => decide (2500 < x.2.toInt.natAbs))))

/-- TAP_SATURATED (R149). -/
def execTapSaturated (p : Port) (j : Lane) (s : State) : Host.Outcome State Fault Refusal :=
  .next ((s.setF (F.LANE_STAT_TAP_SAT p.val j.val) 1).note 0x2 .tapSat 1 (tgtLane p.val j.val))

/-- Does the transmitter have nothing to send (R154)? -/
def Link.idle (l : Link) : Bool :=
  l.txq.isEmpty && l.replayPos.isNone && !l.nakDue && l.laneset.isNone && l.scan.isNone

/-- Is an acknowledgement due that nothing has carried (R170)? -/
def State.ackDue (s : State) (p : Nat) : Bool :=
  (s.link p).ackValid && !decide ((s.link p).ackSent = some ((s.f (F.LINK_SEQ_RX_SEQ p) + 2 ^ 24 - 1) % 2 ^ 24))

/-- Does a Blocking run on one of the port's lanes hold the offset sampler? -/
def State.laneRunOn (s : State) (p : Nat) : Bool := (s.bl (p / 3)).runs.any (fun r => r.slot == p % 3)

/-- A1_ENTRY (R154): one training block with STAGE 6, and modulation stops. -/
def execA1Entry (p : Port) (s : State) : Host.Outcome State Fault Refusal :=
  let q := p.val
  .next (if s.linkUp q && s.b (F.SDS_CTL_A1_EN q) && !s.b (F.SDS_STAT_A1_BLOCKED q) && (s.link q).idle && !s.ackDue q &&
      !(s.bl (q / 3)).runs.any (fun r => r.slot == q % 3) then
    ((s.updLink q (fun l => { l with txQuiet := true })).setF (F.SDS_STAT_STAGE q) 6).sendBlocks q 6 (s.mapLanes q) else s)

/-- KEEP_PHASE_BURST (R155): every 1.0 µs a direction in A1 sends a burst, and a receiver whose direction is in A1 realigns its
cached phase on the one it gets. -/
def execKeepPhaseBurst (p : Port) (s : State) : Host.Outcome State Fault Refusal :=
  let q := p.val
  let s1 := if (s.link q).txQuiet then s.emit (.keepPhase q) else s
  .next (if s1.b (F.SDS_STAT_RX_QUIET q) then s1.updLink q (fun l => { l with phaseAt := some s.bell }) else s1)

/-- A1_EXIT (R156): a flit or control flit is ready, or a LANESET, a Blocking run or a scan; the wake burst is sent. -/
def execA1Exit (p : Port) (s : State) : Host.Outcome State Fault Refusal :=
  let q := p.val
  .next (if !(s.link q).idle || s.ackDue q || s.laneRunOn q then s.wakeTx q else s)

/-! ### Meanings: eye scans and margins (R152, R153, R359) -/

/-- The points of a scan: VOFS outer, PHASE inner, ascending. -/
def scanPoints (ph0 ph1 v0 v1 : Int) : List (Int × Int) :=
  (List.range (v1 - v0 + 1).toNat).flatMap (fun (v : Nat) => (List.range (ph1 - ph0 + 1).toNat).map (fun (h : Nat) => (ph0 + h, v0 + v)))

/-- The number of points of a scan's parameters. -/
def scanCount (p : Packet) : Nat := (p.int 2 - p.int 1 + 1).toNat * (p.int 4 - p.int 3 + 1).toNat

/-- PORT_EYE_SCAN (R153). -/
def portEyeScanDef : CmdDef where
  code := 0x0250
  len := fun _ => some 24
  kinds := [3]
  par := fun _ p _ =>
    if 2 < p.w 0 then some 32
    else if p.int 1 < -32 || 31 < p.int 1 then some 36
    else if p.int 2 < -32 || 31 < p.int 2 then some 40
    else if p.int 2 < p.int 1 then some 36
    else if p.int 3 < -127 || 127 < p.int 3 then some 44
    else if p.int 4 < -127 || 127 < p.int 4 then some 48
    else if p.int 4 < p.int 3 then some 44
    else if p.w 5 < 20 || 36 < p.w 5 then some 52
    else if 2 ^ 40 < scanCount p * 2 ^ p.w 5 then some 52
    else none
  resLen := fun _ p => some (8 * min 16320 (scanCount p))
  pre := fun s p _ =>
    if !(s.linkUp p.unit && s.b (F.LANE_STAT_IN_MAP p.unit p.sub)) && !s.b (F.LANE_STAT_STANDBY p.unit p.sub) then some (stState, 0)
    else if (s.link p.unit).scan.isSome then some (stBusy, 0)
    else none
  act := fun s p _ id => .later ((((s.updLink p.unit (fun l => { l with
      scan := some ⟨id, p.sub, p.w 0, scanPoints (p.int 1) (p.int 2) (p.int 3) (p.int 4), [], p.w 5⟩ })).wakeTx p.unit).setFs
    (if s.laneRunOn p.unit then [] else [(F.ESCAN_STAT_LANE p.unit, p.sub), (F.ESCAN_STAT_USER p.unit, 2)])))

/-- PORT_EYE_SCAN (R153). -/
def execPortEyeScan (p : Packet) (s : State) : Host.Outcome State Fault Refusal := .next (runCmd portEyeScanDef p s)

/-- EYE_SCAN_POINT_DONE (R152): a dwell ends with its mismatch count; a scan that a Blocking run has suspended restarts its
point. -/
def execEyeScanPointDone (p : Port) (mism : BitVec 64) (s : State) : Host.Outcome State Fault Refusal :=
  let q := p.val
  match (s.link q).scan with
  | none => .next s
  | some sc =>
    if s.laneRunOn q then .next s
    else
      let counts := sc.counts ++ [mism.toNat]
      match sc.points.drop 1 with
      | [] => .next (((s.updLink q (fun l => { l with scan := none })).setFs [(F.ESCAN_STAT_LANE q, 0), (F.ESCAN_STAT_USER q, 0)]).finish
          sc.run stOk 0 (counts.flatMap (leBytes 8)))
      | rest => .next (s.updLink q (fun l => { l with scan := some { sc with points := rest, counts := counts } }))

/-- The middle value of a list of openings. -/
def median (l : List Nat) : Nat := (l.mergeSort).getD (l.length / 2) 0

/-- MARGIN_SWEEP_STEP (R152, R359): the background sweep measures a lane's vertical opening where no higher user holds the
sampler. Entry 31 keeps the median. -/
def execMarginSweepStep (p : Port) (j : Lane) (opening : BitVec 16) (s : State) : Host.Outcome State Fault Refusal :=
  let q := p.val
  if s.laneRunOn q || (s.link q).scan.isSome || !(s.linkUp q) || !s.b (F.LANE_STAT_IN_MAP q j.val) then .next s
  else
    let note := fun (k v lim : Nat) (m : List (Nat × Nat × Option Nat)) =>
      let since := match Map.find k m with
        | some (_, some b) => some b
        | _ => some s.bell
      Map.put k (v, if v < lim then since else none) m
    let s1 := s.updLink q (fun l => { l with eyes := note j.val opening.toNat 16 l.eyes })
    let med := median (((s1.link q).eyes.filter (fun e => e.1 != 31)).map (fun e => e.2.1))
    .next ((s1.updLink q (fun l => { l with eyes := note 31 med 24 l.eyes })).setFs [(F.ESCAN_STAT_LANE q, j.val), (F.ESCAN_STAT_USER q, 1)])

/-- PORT_PRBS (R153): the counts come with its completion. -/
def portPrbsDef : CmdDef where
  code := 0x0251
  len := fun _ => some 12
  kinds := [2]
  par := fun _ p _ =>
    if 2 ^ 17 ≤ p.w 0 then some 32 else if 2 < p.w 1 then some 36 else if 1000000 < p.w 2 then some 40 else none
  zero := fun p => p.w 0 == 0 || p.w 2 == 0
  resLen := fun _ _ => some 76
  pre := fun s p _ =>
    let st := s.f (F.SDS_STAT_STAGE p.unit)
    if (st = 5 || st = 6) && maskOf (s.mapLanes p.unit) &&& p.w 0 ≠ 0 then some (stState, 0) else none
  act := fun s _ _ _ => .later s

/-- PORT_PRBS (R153). -/
def execPortPrbs (p : Packet) (s : State) : Host.Outcome State Fault Refusal := .next (runCmd portPrbsDef p s)

/-! ### CXL lanes -/

/-- May a host link train at a rate and width: one of the base specification's widths, and no more than CXL_PHY_CTL allows (R159)?
A reserved value of MAX_RATE or MAX_WIDTH limits nothing (DESIGN CHOICE, assumption 162). -/
def State.cxlTrains (s : State) (n rate width : Nat) : Bool :=
  let r := s.f (F.CXL_PHY_CTL_MAX_RATE n)
  let w := s.f (F.CXL_PHY_CTL_MAX_WIDTH n)
  [1, 2, 4, 8, 16].contains width && (r == 3 || decide (rate + r ≤ 5)) && (w == 3 || decide (width * 2 ^ w ≤ 16))

/-- CXL_LINK_TRAINED (R159, R160): rate codes of CXL_PHY_STAT; below 16 GT/s or ×4 the link carries CXL.io only. -/
def execCxlLinkTrained (n : Fin 2) (rate : Fin 6) (width : Fin 17) (rev : Bool) (s : State) : Host.Outcome State Fault Refusal :=
  if !s.cxlTrains n.val rate.val width.val then .next s else
  let deg := decide (rate.val < 3) || decide (width.val < 4)
  let s1 := s.setFs [(F.CXL_PHY_STAT_LINK_UP n.val, 1), (F.CXL_PHY_STAT_RATE n.val, rate.val), (F.CXL_PHY_STAT_WIDTH n.val, width.val),
    (F.CXL_PHY_STAT_L0P_WIDTH n.val, width.val), (F.CXL_PHY_STAT_MEM_EN n.val, if deg || s.standAlone then 0 else 1),
    (F.CXL_PHY_STAT_DEGRADED n.val, if deg then 1 else 0), (F.CXL_PHY_STAT_LANE_REV n.val, if rev then 1 else 0)]
  let s2 := s1.fallMod (8 + n.val)
  .next (if deg then s2.note 0x2 .cxlDegraded 2 (tgtHost n.val) else s2)

end Sys2Proof.Machine
end

