-- ==== Sys2Proof/Machine/Link.lean ====
section
/-! DEFINITION. Machine/Link.lean: flits, acknowledgement and replay, the link states, LANESET and doze (chapter 05; R373,
R379, R533). -/

namespace Sys2Proof.Machine

/-- Sequence numbers are 24 bits wide. -/
def seqMod : Nat := 2 ^ 24

/-- REPLAY_LIMIT and the requested VC0 slots. A sublink has no LINK_CTL and takes its defaults (DESIGN CHOICE, assumption 163). -/
def State.replayLimit (s : State) (p : Nat) : Nat := if p < 240 then s.f (F.LINK_CTL_REPLAY_LIMIT p) else 3
@[inherit_doc State.replayLimit]
def State.vc0Split (s : State) (p : Nat) : Nat := if p < 240 then s.f (F.LINK_CTL_VC0_SPLIT p) else 2044

/-- TYPE code (R164). -/
def FlitType.code : FlitType → Nat
  | .fill => 0 | .ack => 1 | .data => 2 | .cmd => 3 | .lctl => 4 | .pad => 5

/-- The type of a code with a VC that suits it; none where either is reserved or they do not match (R164). -/
def flitType (code vc : Nat) : Option FlitType :=
  match code, vc with
  | 0, 0 => some .fill
  | 1, 0 => some .ack
  | 2, 0 => some .data
  | 2, 1 => some .data
  | 3, 2 => some .cmd
  | 4, 2 => some .lctl
  | 5, 0 => some .pad
  | _, _ => none

/-! ### Sending -/

/-- A flit's 256 bytes: header, payload and CRC-64 (R162, R163, R165). -/
def flitBytes (hdr : Nat) (payload : List Byte) : List Byte :=
  let body := leBytes 16 hdr ++ fitBytes 232 payload
  body ++ leBytes 8 (crc64 body)

/-- The PAM4 levels of a byte, bits [7:6] first: 00, 01, 11 and 10 are levels 0 to 3 (R167). -/
def pam4 (b : Byte) : List Nat :=
  [6, 4, 2, 0].map (fun i => match b.toNat / 2 ^ i % 4 with | 0 => 0 | 1 => 1 | 3 => 2 | _ => 3)

/-- What each lane of a map carries of some bytes, the first of which goes to stripe position `phase` (R167). -/
def stripes (lanes : List Nat) (phase : Nat) (bytes : List Byte) : List (Nat × List Nat) :=
  lanes.zipIdx.map (fun x => (x.1, (bytes.zipIdx.filter (fun b => (phase + b.2) % lanes.length == x.2)).flatMap (fun b => pam4 b.1)))

/-- The stripe position of the byte after `n` more. -/
def phaseAfter (lanes : List Nat) (phase n : Nat) : Nat := if lanes.isEmpty then 0 else (phase + n) % lanes.length

/-- The map and the rate in force in the receive (`rx`) or the transmit direction: of a pending LANESET's once that direction has
switched (R157, R188). -/
def State.dirMap (s : State) (p : Nat) (rx : Bool) : List Nat × Nat :=
  let now := (s.mapLanes p, (s.link p).mapRate)
  match (s.link p).laneset with
  | some ls => if (if rx then ls.rxDone else ls.txDone) then (ls.pos, ls.rate) else now
  | none => now

/-- Put a flit on the line: a port sends a codeword with check bytes, striped over its map (R166, R167); a sublink sends the 256
bytes (R450). -/
def State.putFlit (s : State) (p : Nat) (flit : List Byte) : State :=
  if 240 ≤ p then s.emit (.site (p - 240) flit)
  else
    let (lanes, rate) := s.dirMap p false
    let word := flit ++ rsCheck flit
    let phase := (s.link p).txPhase
    (s.emit (.flit p rate word (stripes lanes phase word))).updLink p (fun l => { l with txPhase := phaseAfter lanes phase 272 })

/-- Send one flit: the current acknowledgement where its type allows one, a NAK that is due, the XOFF levels, and the
received power of the next lane in turn, which is a measurement (R163, R170, R171, R180); a sublink reports none (R450). -/
def State.sendFlit (s : State) (p seq : Nat) (f : Flit) : State :=
  let l := s.link p
  let rx := s.f (F.LINK_SEQ_RX_SEQ p)
  let ack := (rx + seqMod - 1) % seqMod
  let withAck := l.ackValid && !decide (f.type = .fill)
  let (v, s1) := s.fresh
  let (lane, pwr) := if 240 ≤ p then (31, 0x8000)
    else (l.telLane, if s.b (F.EYESAFE_LOS (p / 3) (p % 3)) then 0x8000 else v.toNat % 65536)
  let hdr := f.type.code + f.vc * 2 ^ 4 + (if withAck then 2 ^ 6 + ack * 2 ^ 32 else 0) + (if l.nakDue then 2 ^ 7 + rx * 2 ^ 56 else 0) +
    seq * 2 ^ 8 + s.f (F.LINK_FC_RX_XOFF0 p) * 2 ^ 80 + s.f (F.LINK_FC_RX_XOFF1 p) * 2 ^ 81 + lane * 2 ^ 82 + pwr * 2 ^ 88 +
    min 232 f.payload.length * 2 ^ 112 + (if f.last then 2 ^ 120 else 0) + (if f.reply then 2 ^ 121 else 0)
  (s1.putFlit p (flitBytes hdr f.payload)).updLink p (fun l => { l with
    telLane := (l.telLane + 1) % 17, nakDue := false, ackSent := if withAck then some ack else l.ackSent })

/-- Does the initiator of a LANESET wait at its boundary for the LANESET_ACK, so that it holds every sequenced flit (R188)? -/
def State.awaitsAck (s : State) (p : Nat) : Bool :=
  match (s.link p).laneset with
  | some ls => ls.mine && !ls.acked && !ls.cancelled && s.f (F.LINK_SEQ_TX_SEQ p) == ls.txAt
  | none => false

/-- Is new sequenced traffic held: at a LANESET's boundary until the map switches there (R188), by the far end's doze (R379), or
by a full window (R175)? -/
def State.txHeld (s : State) (p : Nat) : Bool :=
  let l := s.link p
  (match l.laneset with
   | some ls => !ls.txDone && !ls.cancelled && s.f (F.LINK_SEQ_TX_SEQ p) == ls.txAt
   | none => false) || l.dozed || decide (270336 ≤ l.unacked.length)

/-- May a new flit of a VC leave (R178, R180, R181)? -/
def State.vcOpen (s : State) (p : Nat) (f : Flit) : Bool :=
  let l := s.link p
  match f.vc with
  | 0 => (l.rttDone || !decide (f.type = .data)) && !s.b (F.LINK_FC_TX_XOFF0 p)
  | 1 => l.rttDone && !s.b (F.LINK_FC_TX_XOFF1 p)
  | _ => decide (l.unacked.countP (fun g => g.vc == 2) < 8)

/-- The next new flit: the oldest whose VC is open, order within each VC kept. -/
def State.nextFlit (s : State) (p : Nat) : Option Flit := (s.link p).txq.find? (fun f => s.vcOpen p f)

/-- Send a new sequenced flit (R172, R175). -/
def State.sendNew (s : State) (p : Nat) (f : Flit) : State :=
  let seq := s.f (F.LINK_SEQ_TX_SEQ p)
  let s1 := (s.sendFlit p seq f).updLink p (fun l => { l with unacked := l.unacked ++ [f], timerOn := true })
  let s2 := (s1.setF (F.LINK_SEQ_TX_SEQ p) ((seq + 1) % seqMod)).syncReplay p
  if 270336 ≤ (s2.link p).unacked.length then s2.setF (F.LINK_ERR_WINDOW_FULL p) 1 else s2

/-- The tile whose half-stack holds the spill region of a tile's ports: its own, or its neighbour's (R175). -/
def spillTile (t : Nat) : Nat :=
  match t with
  | 0 => 1 | 11 => 10 | 12 => 13 | 23 => 22 | 24 => 25 | 35 => 34 | 36 => 37 | 47 => 46
  | t => t

/-- Is the spill region behind the send rate, where the replay buffer is full: its memory is out of service, or its bandwidth is
short, which is a free value (R175)? -/
def State.spillShort (s : State) (p : Nat) : Bool × State :=
  if (s.link p).unacked.length < 8192 then (false, s)
  else
    let (v, s1) := s.fresh
    (v.getLsbD 0 || s1.f (F.MEM_STAT_STATE (spillTile (portTile p))) != 2, s1)

/-- The next new flit to send: the oldest whose VC is open, or PAD while a LANESET waits for its boundary (R188). -/
def State.dueFlit (s : State) (p : Nat) : Option Flit :=
  if s.txHeld p then none
  else match s.nextFlit p with
  | some f => some f
  | none => match (s.link p).laneset with
    | some ls => if !ls.txDone && !ls.cancelled then some { type := .pad, vc := 0, payload := [] } else none
    | none => none

/-- Send a FILL (R164). -/
def State.sendFill (s : State) (p : Nat) : State := s.sendFlit p 0 { type := .fill, vc := 0, payload := [] }

/-- FLIT_SEND (R164, R173, R175, R188): a replayed flit first, then a new sequenced flit, else FILL. -/
def State.sendNext (s : State) (p : Nat) : State :=
  let l := s.link p
  match (if s.awaitsAck p then none else l.replayPos) with
  | some k =>
    match l.unacked[k]? with
    | some f => (s.sendFlit p ((s.f (F.LINK_SEQ_ACK_SEQ p) + k) % seqMod) f).updLink p (fun l => { l with
        replayPos := if k + 1 < l.unacked.length then some (k + 1) else none, timerOn := true })
    | none => s.updLink p (fun l => { l with replayPos := none })
  | none =>
    match s.dueFlit p with
    | none => s.sendFill p
    | some f =>
      let (short, s1) := s.spillShort p
      if short then (s1.setF (F.LINK_ERR_SPILL_STALL p) 1).sendFill p
      else (s1.updLink p (fun l => { l with txq := l.txq.erase f })).sendNew p f

/-! ### Link errors and retrains -/

/-- LINK_ERR.PROTO: PORT_PROTO_i asserts for a port (R401), and the link retrains (R183). -/
def State.proto (s : State) (p : Nat) : State :=
  let s1 := s.setF (F.LINK_ERR_PROTO p) 1
  let s2 := if p < 240 then s1.raise (p / 3) (12 + p % 3) else s1
  if s2.linkRuns p then s2.fastRetrain p else s2

/-- A replay trigger (R174). -/
def State.replayTrigger (s : State) (p : Nat) : State :=
  if s.f (F.LINK_STAT_REPLAY_NUM p) < s.replayLimit p then
    ((s.bump (F.LINK_STAT_REPLAY_NUM p)).bump (F.LINK_CNT_REPLAY p)).updLink p (fun l => { l with
      replayPos := if l.unacked.isEmpty then none else some 0, timerOn := !l.unacked.isEmpty })
  else if s.f (F.LINK_STAT_POST_RETRAIN p) = 0 then
    (s.setFs [(F.LINK_STAT_REPLAY_NUM p, 0), (F.LINK_STAT_POST_RETRAIN p, 1)]).fastRetrain p
  else s.downAndTrain p

/-- Free the n oldest unacknowledged flits (R172, R174). -/
def State.freeFlits (s : State) (p n : Nat) : State :=
  if n = 0 then s
  else
    let sent := (s.link p).unacked.take n
    let s1 := s.updLink p (fun l => { l with
      unacked := l.unacked.drop n, timerOn := decide (n < l.unacked.length),
      replayPos := match l.replayPos with
        | some k => if l.unacked.length ≤ n then none else some (k - n)
        | none => none
      dozeAcked := l.dozeAcked || (l.dozeSent && sent.any (fun f => decide (f.type = .lctl) && f.payload.headD 0 == 6)) })
    ((s1.setFs [(F.LINK_SEQ_ACK_SEQ p, (s.f (F.LINK_SEQ_ACK_SEQ p) + n) % seqMod), (F.LINK_STAT_REPLAY_NUM p, 0),
      (F.LINK_STAT_POST_RETRAIN p, 0)]).syncReplay p).each (sent.filterMap (fun f => f.owner)) State.returnPrimary

/-- A cumulative acknowledgement (R170); one beyond TX_NEXT − 1 is a protocol error. -/
def State.takeAck (s : State) (p ack : Nat) : State :=
  let n := (ack + 1 + seqMod - s.f (F.LINK_SEQ_ACK_SEQ p)) % seqMod
  if n ≤ (s.link p).unacked.length then s.freeFlits p n
  else if n ≤ seqMod - 2 ^ 22 then s.proto p
  else s

/-- A NAK (R171, R173, R174): it frees what is before it and is a replay trigger. -/
def State.takeNak (s : State) (p n : Nat) : State :=
  let d := (n + seqMod - s.f (F.LINK_SEQ_ACK_SEQ p)) % seqMod
  if (s.link p).unacked.length < d then s.setF (F.LINK_ERR_NAK_STALE p) 1
  else (s.freeFlits p d).replayTrigger p

/-- A flit is lost: NAK for RX_NEXT in the next flit, once until the replay timer value has passed (R171). -/
def State.lostFlit (s : State) (p : Nat) : State :=
  let rx := s.f (F.LINK_SEQ_RX_SEQ p)
  let l := s.link p
  if l.nakOut ≠ some rx || s.replayT p ≤ (s.bell - l.nakAt) * 1000 then
    (s.wakeTx p).updLink p (fun l => { l with nakOut := some rx, nakAt := s.bell, nakDue := true })
  else s

/-! ### LANESET (R187, R188, R189, R533) -/

/-- Flits of one round trip and 1 µs at the port's map (R188). -/
def State.boundaryFlits (s : State) (p : Nat) : Nat :=
  ceilDiv ((s.f (F.LINK_RTT_RTT_NS p) + 1000) * ((s.mapLanes p).length * laneRate (s.link p).mapRate)) 2176

/-- The LANESET message (R187). -/
def lanesetMsg (ls : Laneset) (cancel : Bool) : List Byte :=
  [1] ++ leBytes 1 ls.reqId ++ leBytes 1 ls.width ++ leBytes 1 ls.rate ++ leBytes 3 ls.txAt ++ [0] ++ leBytes 2 ls.newEpoch ++
  (List.range 16).flatMap (fun i => leBytes 1 (ls.pos.getD i 0xFF)) ++ (if cancel then [1] else [0])

/-- Start a LANESET of this end, for a command, for a Blocking run or for the Proctor. -/
def State.startLaneset (s : State) (p : Nat) (pos : List Nat) (rate : Nat) (run : Option Nat) (blk : Bool := false) : State :=
  let ls : Laneset :=
    { mine := true, reqId := (s.link p).nextReq, width := pos.length, rate := rate, pos := pos,
      newEpoch := epochNext (s.f (F.LINK_STAT_EPOCH p)) 0, txAt := (s.f (F.LINK_SEQ_TX_SEQ p) + s.boundaryFlits p + 1) % seqMod,
      rxAt := none, acked := false, txDone := false, rxDone := false, cancelled := false, run := run, blk := blk }
  (((s.wakeTx p).updLink p (fun l => { l with laneset := some ls, nextReq := (l.nextReq + 1) % 256, oldMap := some (s.mapNow p) })).setF
    (F.LINK_STAT_LANESET_PEND p) 1).enqueue p [lctlFlit (lanesetMsg ls false)]

/-- End a LANESET without a change: its command is answered. -/
def State.endLaneset (s : State) (p status detail : Nat) : State :=
  match (s.link p).laneset with
  | none => s
  | some ls =>
    let s1 := (s.updLink p (fun l => { l with laneset := none, oldMap := none })).setF (F.LINK_STAT_LANESET_PEND p) 0
    match ls.run with
    | some id => s1.finish id status detail
    | none => if ls.mine && ls.blk then s1.laneRunUnmapped p detail else s1

/-! ### The map that the Proctor wants (R134 to R136, R179, R359) -/

/-- A lane put back among the lanes of a map, before the first that is greater. -/
def insertLane (j : Nat) : List Nat → List Nat
  | [] => [j]
  | x :: xs => if j < x then j :: x :: xs else x :: insertLane j xs

/-- Is lane S free to carry another lane's traffic: in STANDBY, neither retired nor in Detention, and not taken out? -/
def State.laneSFree (s : State) (p : Nat) : Bool :=
  s.b (F.LANE_STAT_STANDBY p 16) && !(s.mapLanes p).contains 16 && !(s.barred p).testBit 16 && !(s.link p).away.testBit 16

/-- The map with the lanes that leave taken out, lane S in the place of a retired lane or of one being moved, and with the
lanes that come back put in. -/
def State.wantedMap (s : State) (p : Nat) : List Nat :=
  let l := s.link p
  let leave := fun (pos : List Nat) (j : Nat) =>
    if ((s.retired p).testBit j || decide (l.swap = some j)) && j != 16 && s.laneSFree p && !pos.contains 16 then
      pos.map (fun x => if x = j then 16 else x)
    else pos.filter (fun x => x != j)
  let come := fun (pos : List Nat) (j : Nat) =>
    if decide (l.swap = some j) && pos.contains 16 then pos.map (fun x => if x = 16 then j else x)
    else if s.b (F.LANE_STAT_STANDBY p j) && !(s.barred p).testBit j && decide (pos.length < 16) then insertLane j pos
    else pos
  let map := s.mapLanes p
  (lanesOf (l.back &&& (0x1FFFF ^^^ maskOf map))).foldl come ((map.filter (fun j => (l.away ||| s.retired p).testBit j)).foldl leave map)

/-- The map and rate that the Proctor wants: what an undone command goes back to (R82), else the map above at a rate no higher
than the planned rate (R359) and the ceiling of R179. -/
def State.wanted (s : State) (p : Nat) : List Nat × Nat :=
  ((s.link p).revert).getD (s.wantedMap p,
    max (s.link p).mapRate (max (s.link p).fcLower (s.f (F.AGE_PLAN_PORT_RATE (p / 3)) / 4 ^ (p % 3) % 4)))

/-- The lane of a MOVING role that moves next leaves the map first where it carries traffic; lane S stands in where it is
free (R134). -/
def State.outFirst (s : State) (p : Nat) : State :=
  match Map.find (p % 3) (s.ph (p / 3)).subst with
  | none => s
  | some x => match x.todo with
    | [] => s
    | j :: _ =>
      if s.f (F.FADE_STAT_STAGE (p / 3) (p % 3)) = 5 && (s.mapLanes p).contains j && !(s.link p).away.testBit j then
        s.updLink p (fun l => { l with
          away := l.away ||| 2 ^ j, verify := Map.del j l.verify, swap := if j ≠ 16 && s.laneSFree p then some j else l.swap })
      else s

/-- Bring a port's map and rate to what the Proctor wants by LANESET, where the port is UP with no LANESET pending and no
Blocking run; a map of fewer than 4 lanes is never asked for (R134, R188). -/
def State.tendMap (s : State) (p : Nat) : State :=
  if s.linkUp p && (s.link p).laneset.isNone && !s.laneRunOn p then
    let s1 := s.outFirst p
    let (pos, rate) := s1.wanted p
    if (pos = s1.mapLanes p && rate = (s1.link p).mapRate) || pos.length < 4 then s1 else s1.startLaneset p pos rate none
  else s

/-- This end checks a lane that the far end has taken out of the map over 20 µs and reports the count (R151): how many errors it
finds is a measurement. -/
def State.sendVerify (s : State) (p j : Nat) : State :=
  let (v, s1) := s.fresh
  s1.enqueue p [lctlFlit ([5] ++ leBytes 1 j ++ [0, 0] ++ leBytes 8 (20000 * laneRate (s.link p).mapRate) ++ leBytes 4 (v.toNat % 2 ^ 32))]

/-- Both directions have switched: the new map and epoch are in force, and the change is journaled but for a Blocking run's
(R190, R529). Where the far end asked, the healthy lanes that have left the map are checked for it (R151). -/
def State.commitLaneset (s : State) (p : Nat) : State :=
  match (s.link p).laneset with
  | none => s
  | some ls =>
    if ls.txDone && ls.rxDone then
      let was := s.mapLanes p
      let m := maskOf ls.pos
      let s1 := ((s.installMap p ls.pos ls.rate (s.healthyLanes p)).setFs [(F.LINK_STAT_EPOCH p, ls.newEpoch),
        (F.LINK_STAT_LANESET_PEND p, 0)]).updLink p (fun l => { l with
          laneset := none, farEpoch := ls.newEpoch, oldMap := none, back := l.back &&& (0x1FFFF ^^^ m)
          swap := match l.swap with | some j => if m.testBit j && !l.away.testBit j then none else some j | none => none
          revert := if l.revert = some (ls.pos, ls.rate) then none else l.revert })
      let old := (s.link p).oldMap
      let new := some (s1.mapNow p)
      let s2 := match ls.run with
        | some id => s1.finish id stOk 0 [] [{ target := tgtPort p, offset := 0xFFFFFFFF, old := old, new := new }]
            { maps := [(p, was, (s.link p).mapRate)] }
        | none =>
          if ls.mine then (if ls.blk then s1.laneRunMapped p else s1.policy (tgtPort p) 0xFFFFFFFF old new)
          else s1.each (was.filter (fun j => s1.b (F.LANE_STAT_STANDBY p j))) (fun s j => s.sendVerify p j)
      s2.tendMap p
    else s

/-- The transmit map switches at its boundary; a rate change sends the wake burst at the new rate (R157). -/
def State.switchTx (s : State) (p : Nat) : State :=
  match (s.link p).laneset with
  | none => s
  | some ls =>
    let s1 := s.updLink p (fun l => { l with laneset := some { ls with txDone := true }, txPhase := 0 })
    (if ls.rate = (s.link p).mapRate then s1 else s1.emit (.wake p ls.rate)).commitLaneset p

/-- The first codeword decoded on the new map completes the receive direction, whose lanes load the stored sets of a new rate
(R157); after CANCEL it completes the LANESET, the transmit map following at the next sequenced flit (R188, R533). -/
def State.switchRx (s : State) (p : Nat) : State :=
  match (s.link p).laneset with
  | none => s
  | some ls =>
    let tx := s.f (F.LINK_SEQ_TX_SEQ p)
    let done : Laneset := if ls.cancelled then { ls with rxDone := true, cancelled := false, acked := true, txAt := tx } else { ls with rxDone := true }
    let s1 := s.updLink p (fun l => { l with laneset := some done, rxPhase := 0 })
    (if ls.rate = (s.link p).mapRate then s1 else s1.each ls.pos (fun s j => s.loadEq p j ls.rate)).commitLaneset p

/-- A responder's answer to a LANESET (R188, R189): RESULT, none where it is accepted. -/
def State.lanesetRefusal (s : State) (p width rate : Nat) (pos : List Nat) : Option Nat :=
  let used := pos.take width
  if width < 4 || 16 < width || used.any (fun j => decide (16 < j)) || used.eraseDups.length ≠ used.length || 3 < rate then some 3
  else if s.b (F.LINK_STAT_FC_LIMITED p) && rate < (s.link p).fcLower then some 3
  else if used.any (fun j => !(s.healthyLanes p).testBit j || (s.link p).away.testBit j) then some 2
  else none

/-! ### Receiving -/

/-- Put a received CMD flit into the packet under assembly (R182): a ninth flit ends it with ERR_LENGTH, and flits are discarded
to the next LAST. The module sends no in-band command, so that a reply answers nothing of it. -/
def State.takeCmd (s : State) (p : Nat) (f : Flit) : State :=
  let l := s.link p
  let bytes := l.asmBytes ++ f.payload
  if f.reply then s
  else if l.asmDrop then s.updLink p (fun l => { l with asmDrop := !f.last })
  else if l.asmFlits = 8 then
    (s.updLink p (fun l => { l with asmBytes := [], asmFlits := 0, asmDrop := !f.last })).enqueue p
      (cmdFlits true (Reply.bytes { tag := BitVec.ofNat 16 (leAt bytes 4 2), status := stLength, detail := 1856, result := [] } 0))
  else if f.last then s.updLink p (fun l => { l with asmBytes := [], asmFlits := 0, rxq := l.rxq ++ [{ f with payload := bytes }] })
  else s.updLink p (fun l => { l with asmBytes := bytes, asmFlits := l.asmFlits + 1 })

/-- Codes of the link control messages: another one has no meaning and is dropped (R187, R379). -/
def lctlKnown (payload : List Byte) : Bool := decide (1 ≤ leAt payload 0 1) && decide (leAt payload 0 1 ≤ 7)

/-- Take a sequenced flit in order: room in its partition, delivery, and RX_NEXT (R177, R179). -/
def State.acceptFlit (s : State) (p : Nat) (f : Flit) : State :=
  let part := s.f (if f.vc = 0 then F.LINK_FC_VC0_PART p else F.LINK_FC_VC1_PART p)
  if f.type = .data && part ≤ (s.link p).occ f.vc then
    -- the flit is lost; a port's assertion takes it down under CONTAIN
    let s1 := (s.setF (F.LINK_ERR_RX_OVF p) 1).lostFlit p
    if p < 240 then s1.assertTile (p / 3) (18 + p % 3) else s1
  else
    let s1 := match f.type with
      | .data => (s.updLink p (fun l => { l with rxq := l.rxq ++ [f] })).syncXoff p
      | .lctl => if lctlKnown f.payload then s.updLink p (fun l => { l with rxq := l.rxq ++ [f] }) else s
      | .cmd => s.takeCmd p f
      | _ => s
    let s2 := (s1.setF (F.LINK_SEQ_RX_SEQ p) ((s.f (F.LINK_SEQ_RX_SEQ p) + 1) % seqMod)).updLink p (fun l => { l with
      nakOut := none, ackValid := true, dozeSent := false, dozeAcked := false })
    -- a sequenced flit cancels a doze that this end has sent (R379 rule 1)
    if (s.link p).dozeSent then s2.enqueue p [lctlFlit [7]] else s2

/-- Act on a flit that has passed its checks (R169, R177): its header first, then its class. A link that the header has taken
down takes no more of it. -/
def State.takeFlit (s : State) (p : Nat) (b : List Byte) : State :=
  let h := leAt b 0 16
  let field := fun (lo n : Nat) => h / 2 ^ lo % 2 ^ n
  let s1 := if field 6 1 = 1 && field 0 4 ≠ 0 then s.takeAck p (field 32 24) else s
  let s2 := if field 7 1 = 1 then s1.takeNak p (field 56 24) else s1
  if !s2.linkKeeps p then s2
  else
    let s3 := (s2.setFs [(F.LINK_FC_TX_XOFF0 p, field 80 1), (F.LINK_FC_TX_XOFF1 p, field 81 1)]).updLink p (fun l =>
      if field 82 5 ≤ 16 then { l with tel := Map.put (field 82 5) (field 88 16) l.tel } else l)
    match flitType (field 0 4) (field 4 2) with
    | none => (if 2 ≤ field 0 4 && field 0 4 ≤ 5 then s3.lostFlit p else s3).proto p
    | some .fill => s3
    | some .ack => s3
    | some t =>
      let rx := s3.f (F.LINK_SEQ_RX_SEQ p)
      let d := (field 8 24 + seqMod - rx) % seqMod
      let len := min 232 (field 112 8)
      let pay := if t = .data || t = .lctl then (b.drop 16).take 232 else (b.drop 16).take len
      if d = 0 then s3.acceptFlit p { type := t, vc := field 4 2, payload := pay, last := field 120 1 == 1, reply := field 121 1 == 1 }
      else if d < 2 ^ 22 then s3.lostFlit p
      else if seqMod - 2 ^ 22 ≤ d then
        let l := s3.link p
        let soon := match l.dupAt with
          | some b => decide ((s3.bell - b) * 4 < l.ackIdle)
          | none => false
        let s4 := s3.bump (F.LINK_CNT_DUP p)
        if soon then s4
        else ((s4.updLink p (fun l => { l with dupAt := some s3.bell })).wakeTx p).sendFlit p 0 { type := .ack, vc := 0, payload := [] }
      else s3.proto p

/-! ### Meanings: flits -/

/-- CODEWORD_RECEIVE (R166, R177, R450): the 272 bytes of a port's codeword in stream order, or the 256 of a sublink's flit, whose
CRC alone is checked; `onNew` says that, with a LANESET pending, they are what the receiver read on the new map (R188).
Corrections count at the lane that carried the byte (R168). -/
def execCodewordReceive (v : Via) (bytes : List Byte) (onNew : Bool) (s : State) : Host.Outcome State Fault Refusal :=
  let q := v.code
  let crcOk := fun (c : List Byte) => crc64 (c.take 248) == leAt c 248 8
  if !s.linkRuns q then .next s
  else
    let s1 := if s.b (F.SDS_STAT_RX_QUIET q) then s.setF (F.SDS_STAT_RX_QUIET q) 0 else s
    let step := fun (s : State) => s.updLink q (fun l => { l with rxPhase := phaseAfter (s.dirMap q true).1 l.rxPhase 272 })
    let word := if q < 240 then rsDecode crcOk (fitBytes 272 bytes)
      else if crcOk (fitBytes 256 bytes) then some (fitBytes 256 bytes, []) else none
    match word with
    | none => .next (((step s1).bump (F.LINK_CNT_DROP q)).lostFlit q)
    | some (b, fixed) =>
      let pend := match (s1.link q).laneset with
        | some ls => !ls.rxDone && onNew
        | none => false
      let s2 := if pend then s1.switchRx q else s1
      let lanes := (s2.dirMap q true).1
      let phase := (s2.link q).rxPhase
      let s3 := if fixed.isEmpty then s2
        else (s2.bump (F.LINK_CNT_CORR q)).each fixed (fun s i => s.bump (F.LANE_CERR q (lanes.getD ((phase + i) % lanes.length) 0)))
      .next ((step s3).takeFlit q b)

/-- FLIT_SEND (R164). -/
def execFlitSend (v : Via) (s : State) : Host.Outcome State Fault Refusal :=
  .next (if s.linkRuns v.code && !(s.link v.code).txQuiet then s.sendNext v.code else s)

/-- ACK_IDLE_TIMER (R170): the acknowledgement has advanced and nothing has carried it for ACK_IDLE: an ACK flit is sent. -/
def execAckIdleTimer (v : Via) (s : State) : Host.Outcome State Fault Refusal :=
  .next (if s.linkRuns v.code && s.ackDue v.code then (s.wakeTx v.code).sendFlit v.code 0 { type := .ack, vc := 0, payload := [] } else s)

/-- REPLAY_TIMER_EXPIRY (R172, R173): a replay from TX_ACKED. -/
def execReplayTimerExpiry (v : Via) (s : State) : Host.Outcome State Fault Refusal :=
  let l := s.link v.code
  .next (if s.linkRuns v.code && l.timerOn && !l.unacked.isEmpty then s.replayTrigger v.code else s)

/-- A sublink's training ends (R454): a fast retrain that succeeds sends again from TX_ACKED, and one that fails takes the
sublink down; a sublink that is DOWN comes UP where it may (assumption 164). -/
def State.subTrained (s : State) (k : Nat) (ok : Bool) : State :=
  let q := 240 + k
  if !s.linkUp q then (if ok then s.sublinkUp k else s)
  else if (s.link q).train.isNone then s
  else if ok then s.updLink q (fun l => { l with train := none, replayPos := if l.unacked.isEmpty then none else some 0 })
  else s.sublinkDown k

/-- FAST_RETRAIN_DONE (R146, R183): with the lane map agreed the link is UP and sends again from TX_ACKED; a retrain that
fails takes the port down, and a full training follows. -/
def execFastRetrainDone (v : Via) (ok : Bool) (s : State) : Host.Outcome State Fault Refusal :=
  match v with
  | .site k => .next (s.subTrained k.val ok)
  | .port p =>
    let q := p.val
    match (s.link q).train with
    | none => .next s
    | some tr =>
      if s.f (F.LINK_STAT_STATE q) ≠ 4 then .next s
      else if !ok then .next (s.attemptFails q)
      else .next (if tr.ready && tr.farReady && s.f (F.SDS_STAT_STAGE q) == 4 then s.enterUp q (tr.lanes &&& (0x1FFFF ^^^ s.barred q)) else s)

/-! ### Meanings: link control -/

/-- RTT_MEASURE (R178): an ECHO with a time stamp of the module's own choice. -/
def execRttMeasure (v : Via) (s : State) : Host.Outcome State Fault Refusal :=
  let q := v.code
  if s.linkRuns q && !(s.link q).dozed then
    let (v, s1) := s.fresh
    .next ((s1.updLink q (fun l => { l with echoAt := some v.toNat })).enqueue q [lctlFlit ([3, 0, 0, 0] ++ leBytes 8 v.toNat)])
  else .next s

/-- ECHO (R187): answered with the time stamp and the turnaround in ns, which is a measurement. -/
def execEcho (v : Via) (msg : List Byte) (s : State) : Host.Outcome State Fault Refusal :=
  match s.popRx v.code 2 (fitBytes 232 msg) with
  | none => .next s
  | some s1 =>
    if leAt msg 0 1 ≠ 3 then .next s1
    else
      let (n, s2) := s1.fresh
      .next (s2.enqueue v.code [lctlFlit ([4, 0, 0, 0] ++ fitBytes 8 (msg.drop 4) ++ leBytes 4 (n.toNat % 2 ^ 32))])

/-- The headroom for a round trip at a rate in Gb/s, and the least slots a partition needs with it (R178, R179). -/
def roomFor (rtt rate : Nat) : Nat × Nat :=
  let hr := ceilDiv (rtt * rate) 2176 + 2
  (hr, max 512 (hr + 64))

/-- The headroom rate with a ceiling: 16 lanes of a port at that rate code, or a sublink's 4,096 Gb/s (R178, R450). -/
def headRate (p code : Nat) : Nat := if p < 240 then 16 * laneRate code else 4096

/-- Fix HR and the partitions after the first measurement of an UP (R178, R179). -/
def State.fixPartitions (s : State) (p rtt : Nat) : State :=
  match (List.range (if p < 240 then 4 else 1)).find? (fun c => decide (2 * (roomFor rtt (headRate p c)).2 ≤ 4088)) with
  | none => if p < 240 then (s.declareDown p 1).updLink p (fun l => { l with retryWait := true }) else s.sublinkDown (p - 240)
  | some c =>
    let (hr, least) := roomFor rtt (headRate p c)
    let vc0 := min (max (s.vc0Split p) least) (4088 - least)
    let s1 := (s.setFs [(F.LINK_RTT_HR p, hr), (F.LINK_FC_VC0_PART p, vc0), (F.LINK_FC_VC1_PART p, 4088 - vc0),
      (F.LINK_STAT_FC_LIMITED p, if 0 < c then 1 else 0)]).updLink p (fun l => { l with rttDone := true, fcLower := c })
    let s2 := s1.syncXoff p
    if p < 240 then s2.tendMap p else s2

/-- ECHO_REPLY (R178, R187): `elapsed` ns from the ECHO to this reply, less the turnaround, is RTT_MEAS. -/
def execEchoReply (v : Via) (msg : List Byte) (elapsed : BitVec 32) (s : State) : Host.Outcome State Fault Refusal :=
  let q := v.code
  match s.popRx q 2 (fitBytes 232 msg) with
  | none => .next s
  | some s1 =>
    if leAt msg 0 1 ≠ 4 || (s1.link q).echoAt ≠ some (leAt msg 4 8) || !s1.linkRuns q then .next s1
    else
      let rtt := min 65535 (elapsed.toNat - leAt msg 12 4)
      let s2 := (s1.setF (F.LINK_RTT_RTT_NS q) rtt).updLink q (fun l => { l with echoAt := none })
      .next (if (s2.link q).rttDone then s2 else s2.fixPartitions q rtt)

/-- LANESET (R187 to R189): the responder checks the request and answers. -/
def execLaneset (p : Port) (msg : List Byte) (s : State) : Host.Outcome State Fault Refusal :=
  let q := p.val
  if leAt msg 0 1 ≠ 1 || leAt msg 26 1 = 1 then .next s
  else match s.popRx q 2 (fitBytes 232 msg) with
  | none => .next s
  | some s1 =>
    let id := leAt msg 1 1
    let width := leAt msg 2 1
    let rate := leAt msg 3 1
    let pos := (List.range 16).map (fun i => leAt msg (10 + i) 1)
    let answer := fun (s : State) (res at_ : Nat) => s.enqueue q [lctlFlit ([2] ++ leBytes 1 id ++ leBytes 1 res ++ [0] ++ leBytes 3 at_)]
    let take := fun (s : State) =>
      match s.lanesetRefusal q width rate pos with
      | some r => answer s r 0
      | none =>
        let eb := (s.f (F.LINK_SEQ_TX_SEQ q) + s.boundaryFlits q + 1) % seqMod
        let ls : Laneset :=
          { mine := false, reqId := id, width := width, rate := rate, pos := pos.take width, newEpoch := leAt msg 8 2, txAt := eb,
            rxAt := some (leAt msg 4 3), acked := true, txDone := false, rxDone := false, cancelled := false, run := none }
        answer ((s.updLink q (fun l => { l with laneset := some ls, oldMap := some (s.mapNow q) })).setF (F.LINK_STAT_LANESET_PEND q) 1) 0 eb
    if !s1.linkUp q then .next s1
    else match (s1.link q).laneset with
    | none => .next (take s1)
    | some ls =>
      if ls.mine && !ls.acked then
        if s1.olderSide q then .next (take (s1.endLaneset q 0x8201 1)) else .next (answer s1 1 0)
      else .next (answer s1 4 0)

/-- LANESET_ACK (R188, R533): accepted, the initiator switches at E_A, or after CANCEL at the next sequenced flit; any
other RESULT ends the request. -/
def execLanesetAck (p : Port) (msg : List Byte) (s : State) : Host.Outcome State Fault Refusal :=
  let q := p.val
  if leAt msg 0 1 ≠ 2 then .next s
  else match s.popRx q 2 (fitBytes 232 msg) with
  | none => .next s
  | some s1 =>
    match (s1.link q).laneset with
    | none => .next s1
    | some ls =>
      if !ls.mine || ls.reqId ≠ leAt msg 1 1 then .next s1
      else if leAt msg 2 1 ≠ 0 then .next (if ls.acked then s1 else s1.endLaneset q 0x8201 (leAt msg 2 1))
      else .next (s1.updLink q (fun l => { l with laneset := some { ls with
        acked := true, rxAt := some (leAt msg 4 3), cancelled := false,
        txAt := if ls.cancelled then s1.f (F.LINK_SEQ_TX_SEQ q) else ls.txAt } }))

/-- LANESET_BOUNDARY (R188): the next sequenced flit is E_A or E_B, and the transmit map switches. -/
def execLanesetBoundary (p : Port) (s : State) : Host.Outcome State Fault Refusal :=
  let q := p.val
  match (s.link q).laneset with
  | none => .next s
  | some ls => .next (if ls.acked && !ls.txDone && s.f (F.LINK_SEQ_TX_SEQ q) == ls.txAt then s.switchTx q else s)

/-- LANESET_ACK_TIMEOUT (R188, R533): flit E_A − 1 is sent and no accepted answer came for 2 × REPLAY_T: CANCEL. -/
def execLanesetAckTimeout (p : Port) (s : State) : Host.Outcome State Fault Refusal :=
  let q := p.val
  match (s.link q).laneset with
  | none => .next s
  | some ls =>
    if ls.mine && !ls.acked && !ls.cancelled && s.f (F.LINK_SEQ_TX_SEQ q) == ls.txAt then
      .next ((s.updLink q (fun l => { l with laneset := some { ls with cancelled := true } })).enqueue q [lctlFlit (lanesetMsg ls true)])
    else .next s

/-- LANESET_CANCEL (R533): the responder withdraws a request in whose direction it has not switched; one that has switched stays
on the new map and stores NEW_EPOCH. -/
def execLanesetCancel (p : Port) (msg : List Byte) (s : State) : Host.Outcome State Fault Refusal :=
  let q := p.val
  if leAt msg 0 1 ≠ 1 || leAt msg 26 1 ≠ 1 then .next s
  else match s.popRx q 2 (fitBytes 232 msg) with
  | none => .next s
  | some s1 =>
    match (s1.link q).laneset with
    | none => .next s1
    | some ls =>
      .next (if ls.mine || ls.reqId != leAt msg 1 1 then s1
        else if !ls.txDone then s1.endLaneset q stOk 0
        else (s1.setF (F.LINK_STAT_EPOCH q) ls.newEpoch).updLink q (fun l => { l with farEpoch := ls.newEpoch }))

/-- LANESET_CANCEL_WINDOW_END (R533): nothing decoded on the new map: the LANESET is withdrawn. -/
def execLanesetCancelWindowEnd (p : Port) (s : State) : Host.Outcome State Fault Refusal :=
  let q := p.val
  match (s.link q).laneset with
  | none => .next s
  | some ls => .next (if ls.cancelled then (s.setF (F.LINK_ERR_LANESET_TIMEOUT q) 1).endLaneset q 0x8201 0x100 else s)

/-- The far end's check of a lane: none while its report is still to come, else whether it counted no more errors than R151
allows. -/
def Link.verified (l : Link) (j : Nat) : Option Bool := (Map.find j l.verify).map (fun v => decide (v.2 ≤ v.1 / 100000))

/-- VERIFY (R151, R187): the far end's count of checked bits and of errors on a lane. -/
def execVerify (p : Port) (msg : List Byte) (s : State) : Host.Outcome State Fault Refusal :=
  if leAt msg 0 1 ≠ 5 then .next s
  else match s.popRx p.val 2 (fitBytes 232 msg) with
  | none => .next s
  | some s1 => .next (s1.updLink p.val (fun l => { l with verify := Map.put (leAt msg 1 1) (leAt msg 4 8, leAt msg 12 4) l.verify }))

/-- DOZE (R379 rule 2): no sequenced flit leaves this end until AWAKE. -/
def execDoze (p : Port) (s : State) : Host.Outcome State Fault Refusal :=
  match s.popRx p.val 2 (fitBytes 232 [6]) with
  | none => .next s
  | some s1 => .next (s1.updLink p.val (fun l => { l with dozed := true }))

/-- AWAKE (R379 rule 5). -/
def execAwake (p : Port) (s : State) : Host.Outcome State Fault Refusal :=
  match s.popRx p.val 2 (fitBytes 232 [7]) with
  | none => .next s
  | some s1 => .next (s1.updLink p.val (fun l => { l with dozed := false }))

/-- AWAKE_TIMEOUT (R379 rule 6): a flit has been due to a dozing far end for 1 ms. -/
def execAwakeTimeout (p : Port) (s : State) : Host.Outcome State Fault Refusal :=
  .next (if s.linkUp p.val && (s.link p.val).dozed && !(s.link p.val).txq.isEmpty then s.downAndTrain p.val else s)

/-! ### Meanings: in-band packets and port commands -/

/-- CMD_PACKET_ASSEMBLED (R70, R182): a command beyond 4 outstanding is answered ERR_BUSY by the tile. -/
def execCmdPacketAssembled (v : Via) (bytes : List Byte) (s : State) : Host.Outcome State Fault Refusal :=
  let q := v.code
  match (s.link q).rxq.find? (fun f => decide (f.type = .cmd) && decide (f.payload = bytes)) with
  | none => .next s
  | some f =>
    let s1 := s.updLink q (fun l => { l with rxq := l.rxq.erase f })
    let tag := leAt bytes 4 2
    if 4 ≤ (s1.link q).inband.length then
      .next (s1.enqueue q (cmdFlits true (Reply.bytes { tag := BitVec.ofNat 16 tag, status := stBusy, detail := 0, result := [] } 0)))
    else .next ((s1.updLink q (fun l => { l with inband := l.inband ++ [tag] })).updPr (fun pr => { pr with
      portQ := pr.portQ ++ [{ path := (match v with | .port p => .port p | .site k => .site k), bytes := bytes }] }))

/-- PORT_TRAIN (R190): journaled, since it changes the link's state (R79); a port in a retrain or with a LANESET pending is
busy (R73). -/
def portTrainDef : CmdDef where
  code := 0x0201
  len := fun _ => some 4
  kinds := [2]
  par := fun _ p _ => if 1 < p.w 0 then some 32 else none
  pre := fun s p _ =>
    let st := s.f (F.LINK_STAT_STATE p.unit)
    if st = 0 || (p.w 0 = 0 && st ≠ 3) then some (stState, st)
    else if st = 4 || (s.link p.unit).laneset.isSome then some (stBusy, 0) else none
  journaled := true
  act := fun s p _ _ =>
    let q := p.unit
    let s1 := if p.w 0 = 0 then s.fastRetrain q
      else if s.f (F.LINK_STAT_STATE q) = 3 then s.downAndTrain q
      else ((s.setFs [(F.LINK_STAT_STATE q, 1), (F.LINK_STAT_CONFLICT q, 0)]).updLink q (fun l => { l with train := none })).startFull q
    .now s1 stOk 0 [] (paramChange p)

/-- PORT_TRAIN (R190). -/
def execPortTrain (p : Packet) (s : State) : Host.Outcome State Fault Refusal := .next (runCmd portTrainDef p s)

/-- The first WIDTH positions of PORT_LANESET's parameters. -/
def lanesetPos (p : Packet) : List Nat := (List.range (min 16 (p.w 0))).map (fun i => leAt p.params (8 + i) 1)

/-- PORT_LANESET (R190). -/
def portLanesetDef : CmdDef where
  code := 0x0202
  len := fun _ => some 24
  kinds := [2]
  par := fun s p _ =>
    let pos := lanesetPos p
    if p.w 0 < 4 || 16 < p.w 0 then some 32
    else if 3 < p.w 1 || (s.b (F.LINK_STAT_FC_LIMITED p.unit) && p.w 1 < (s.link p.unit).fcLower) then some 36
    else ((List.range pos.length).find? (fun i => decide (16 < pos.getD i 0) || (pos.take i).contains (pos.getD i 0))).map (40 + ·)
  pre := fun s p _ =>
    let q := p.unit
    if !s.linkUp q then some (stState, s.f (F.LINK_STAT_STATE q))
    else match (lanesetPos p).find? (fun j => !(s.healthyLanes q).testBit j) with
      | some j => some (stState, 0x10000 + j)
      | none =>
        if (s.link q).laneset.isSome || s.f (F.FADE_STAT_STAGE (q / 3) (q % 3)) = 5 then some (stBusy, 0) else none
  journaled := true
  act := fun s p _ id => .later (s.startLaneset p.unit (lanesetPos p) (p.w 1) (some id))

/-- PORT_LANESET (R190). -/
def execPortLaneset (p : Packet) (s : State) : Host.Outcome State Fault Refusal := .next (runCmd portLanesetDef p s)

/-- A port reset (R373): declared down, class K registers to default, epoch 0, and a full training. -/
def State.resetPort (s : State) (p : Nat) : State :=
  let state := if s.b (F.LINK_CTL_EN p) then 1 else 0
  let s1 := s.declareDown p state
  let s2 := (s1.resetRegs (fun pl r => pl.tile == p / 3 && pl.port == p % 3 && decide (r.cls = .K))).updLink p (fun l =>
    { ({} : Link) with fenced := l.fenced, inband := l.inband, farNode := l.farNode, farPort := l.farPort, beacon := l.beacon, eq := l.eq })
  ((s2.setFs [(F.LINK_STAT_STATE p, state), (F.EYESAFE_SHUT_CNT (p / 3) (p % 3), 0)]).startFull p)

/-! ### Rate re-planning (R132, R359) -/

/-- Re-plan a margin: journaled with origin 0x0, and a WARN record (R359). -/
def State.replan (s : State) (t : Nat) (fs : List (Fld × Nat)) (v : Int) : State :=
  let w := fs.foldl (fun (w : Word) x => x.1.ins w x.2) (s.rd (R.AGE_PLAN t))
  if w = s.rd (R.AGE_PLAN t) then s else (s.policyReg (tgtTile t) (R.AGE_PLAN t) w).note 0x7 .ageReplan 2 (tgtTile t) v

/-- The rate floor of port index i in AGE_PLAN.PORT_RATE. -/
def floorWith (old i c : Nat) : Nat := old - old / 4 ^ i % 4 * 4 ^ i + c * 4 ^ i

/-- Re-plan a port one rate code lower, by LANESET (R359). -/
def State.replanRate (s : State) (p : Nat) : State :=
  let c := (s.link p).mapRate + 1
  if 3 < c then s
  else (s.replan (p / 3) [(F.AGE_PLAN_PORT_RATE (p / 3), floorWith (s.f (F.AGE_PLAN_PORT_RATE (p / 3))) (p % 3) c)] c).tendMap p

/-- The running RESET command aimed at a TARGET kind and unit. -/
def State.resetRun (s : State) (kind unit : Nat) : Option Nat :=
  (s.proctor.running.find? (fun r => r.opcode == 0x0120 && r.pkt.kind == kind && r.pkt.unit == unit && r.fin.isNone)).map (·.id)

/-- PORT_RESET (R373, R386): the reply of the RESET command follows the reset. -/
def execPortReset (p : Port) (s : State) : Host.Outcome State Fault Refusal :=
  match s.resetRun 2 p.val with
  | none => .next s
  | some id => .next ((s.resetPort p.val).finishParam id stOk 0)

end Sys2Proof.Machine
end

