-- ==== Sys2Proof/Machine/Photonics.lean ====
section
/-! DEFINITION. Machine/Photonics.lean: the optical reference, combs, ring loops, monitors, fade and substitution
(chapter 03). -/

namespace Sys2Proof.Machine

/-! ### Monitors (R122 to R125) -/

/-- Key of a monitor point: path of MON_SEL, index, point. -/
def monKey (path idx point : Nat) : Nat := path * 512 + idx * 8 + point

/-- Key of a Substitute's commissioned M1 value: Substitute 6 or 7, index. -/
def subKey (u idx : Nat) : Nat := 5000 + (u - 6) * 64 + idx

/-- The present reading of a monitor point, 0x8000 for none: M5 of a port comes from the partner's telemetry and reads none
while the port is down (R123). -/
def State.monitor (s : State) (t path idx point : Nat) : Nat :=
  if point = 5 && path < 3 then
    if s.linkUp (3 * t + path) then Map.get 0x8000 (s.link (3 * t + path)).tel idx else 0x8000
  else Map.get 0x8000 (s.ph t).mon (monKey path idx point)

/-- The commissioned value under a key of monitor points: the factory's until the first PHO_COMMISSION (R124). -/
def State.commAt (s : State) (t key : Nat) : Nat := (Map.find key (s.phNv t).comm).getD (Config.factoryLevel t key).toNat

/-- The commissioned value of a monitor point. -/
def State.commissioned (s : State) (t path idx point : Nat) : Nat := s.commAt t (monKey path idx point)

/-- A drop to a reading in 0.01 dB; none where there is no reading on either side. -/
def dropFrom (comm now : Nat) : Option Int :=
  if now = 0x8000 then none else if comm = 0x8000 then none else some (signedOf 16 comm - signedOf 16 now)

/-- The comb that feeds a lane or line of a role, or a plane of FAB (R117). -/
def State.sourceOf (s : State) (t r idx : Nat) : Nat := Map.get r (s.ph t).source (r * 64 + idx)

/-- The comb whose line is read at M1: the one that feeds the lane or line; FAB's lines serve all planes, so that its M1 is the
Substitute's once every plane is on it. -/
def State.combAt (s : State) (t r idx : Nat) : Nat := s.sourceOf t r (if r = 3 then 15 else idx)

/-- The commissioned value a reading is measured against: M1 against the comb that feeds the path. -/
def State.against (s : State) (t r idx point : Nat) : Nat :=
  let u := s.combAt t r idx
  if point = 1 && 6 ≤ u then s.commAt t (subKey u idx) else s.commissioned t r idx point

/-- The drop of a monitor point from its commissioned value. -/
def State.dropAt (s : State) (t r idx point : Nat) : Int := (dropFrom (s.against t r idx point) (s.monitor t r idx point)).getD 0

/-- Indexes of a role: lanes, lines of FAB, lines of MAT and LO. -/
def roleIndexes (r : Nat) : List Nat := List.range (if r < 3 then 17 else if r = 3 then 48 else 34)

/-- The fade of one lane or line: the larger of its drops at M1 and M3, 0 where it has none. -/
def State.fadeAt (s : State) (t r idx : Nat) : Nat :=
  max (s.dropAt t r idx 1).toNat (s.dropAt t r idx 3).toNat

/-- The fade of a role and where it is worst: 63 where there is no fade. -/
def State.roleFade (s : State) (t r : Nat) : Nat × Nat :=
  (roleIndexes r).foldl (fun acc i => let f := s.fadeAt t r i; if acc.1 < f then (f, i) else acc) (0, 63)

/-- The lowest far-end margin of a port role's lanes, but for retired ones, 0.01 dB (R127, R131). -/
def State.roleMargin (s : State) (t r : Nat) : Option Int :=
  if 3 ≤ r then none
  else (((List.range 17).filter (fun j => !(s.retired (3 * t + r)).testBit j)).filterMap (fun j =>
    let v := s.monitor t r j 5
    if v = 0x8000 then none else some (signedOf 16 v + 1200))).foldl (fun (m : Option Int) v =>
      match m with
      | none => some v
      | some x => some (min x v)) none

/-- Where a loss of a lane or line is located (R125): the first point 0.5 dB or more down; 6, beyond the coupler, where M1 to M4
show none and M5 has no reading; 0 where there is none. -/
def State.located (s : State) (t r idx : Nat) : Nat :=
  match (List.range 5).find? (fun i => decide (50 ≤ s.dropAt t r idx (i + 1))) with
  | some i => i + 1
  | none => if s.monitor t r idx 5 = 0x8000 then 6 else 0

/-- FIRST_POINT of a role: of its worst lane or line, else the first that shows a loss. -/
def State.firstPoint (s : State) (t r worst : Nat) : Nat :=
  if worst ≠ 63 then s.located t r worst
  else
    let all := (roleIndexes r).map (fun i => s.located t r i)
    match all.find? (fun x => decide (1 ≤ x) && decide (x ≤ 5)) with
    | some x => x
    | none => if all.contains 6 then 6 else 0

/-! ### Rings (R121) -/

/-- The state of a ring. Rings of port index i, lane j are numbered (17 i + j) × 4 + k; the Crown's selector banks follow
from 204, one a plane. -/
def State.ring (s : State) (t n : Nat) : RingState := Map.get (s.ph t).ringBase (s.ph t).rings n

/-- Set a ring's state. -/
def State.setRing (s : State) (t n : Nat) (r : RingState) : State := s.updPh t (fun p => { p with rings := Map.set p.ringBase p.rings n r })

/-- Are the rings from `lo` below `hi` all LOCKED? -/
def State.ringsLocked (s : State) (t lo hi : Nat) : Bool :=
  (List.range (hi - lo)).all (fun k => decide (s.ring t (lo + k) = .locked))

/-- MIN_HEAD and HEADROOM_LOW (R121): the least of the low headrooms reported; where none is low, a measurement of 5 °C to 30 °C. -/
def State.syncHeads (s : State) (t : Nat) : State :=
  match (s.ph t).heads with
  | [] =>
    let (v, s1) := s.fresh
    s1.setFs [(F.RING_SUM_MIN_HEAD t, 20 + v.toNat % 101), (F.RING_SUM_HEADROOM_LOW t, 0)]
  | l => s.setFs [(F.RING_SUM_MIN_HEAD t, (l.map (·.2)).foldl min 255), (F.RING_SUM_HEADROOM_LOW t, 1)]

/-- The rings of a Blocking channel: a port lane's four, or a plane's selector bank. -/
def chanRings (c : Nat) : List Nat :=
  match c / 4096 with
  | 0 => (List.range 4).map (fun k => (17 * (c / 32 % 4) + c % 32) * 4 + k)
  | 1 => [204 + c % 16]
  | _ => []

/-- A Blocking run re-centres the rings of its channel (R121): their headroom is low no longer. -/
def State.recentre (s : State) (t c : Nat) : State :=
  if (s.ph t).heads.any (fun e => (chanRings c).contains e.1) then
    (s.updPh t (fun p => { p with heads := p.heads.filter (fun e => !(chanRings c).contains e.1) })).syncHeads t
  else s

/-- RING_RESONANCE_FOUND (R121): the loop is closed, and the headroom is read. -/
def execRingResonanceFound (t : Tile) (ring : BitVec 12) (s : State) : Host.Outcome State Fault Refusal :=
  .next (if s.ring t.val ring.toNat = .search then (s.setRing t.val ring.toNat .locked).syncHeads t.val else s)

/-- RING_SEARCH_TIMEOUT (R121): counted lost, WARN, and the sweep repeats. -/
def execRingSearchTimeout (t : Tile) (ring : BitVec 12) (s : State) : Host.Outcome State Fault Refusal :=
  .next (if s.ring t.val ring.toNat = .search then (s.bump (F.RING_SUM_LOST t.val)).note 0x2 .ringLost 2 (tgtTile t.val) ring.toNat else s)

/-- RING_LOCK_LOST (R121, R401). -/
def execRingLockLost (t : Tile) (ring : BitVec 12) (s : State) : Host.Outcome State Fault Refusal :=
  .next (if s.ring t.val ring.toNat = .locked then ((s.setRing t.val ring.toNat .search).bump (F.RING_SUM_LOST t.val)).raise t.val 8 else s)

/-- RING_HEADROOM_LOW (R121): `head` in 0.25 °C units, below 5 °C. -/
def execRingHeadroomLow (t : Tile) (ring : BitVec 12) (head : BitVec 8) (s : State) : Host.Outcome State Fault Refusal :=
  let n := ring.toNat
  if s.ring t.val n = .locked && head.toNat < 20 then
    let s1 := s.updPh t.val (fun p => { p with heads := Map.put n head.toNat p.heads })
    .next ((s1.syncHeads t.val).note 0x2 .headroomLow 1 (tgtTile t.val) head.toNat)
  else .next s

/-! ### The reference (R114, R115) -/

/-- REF_LOSS (R115): the reference, now at `pwr`, has been below −6.0 dBm for 10 ms. -/
def execRefLoss (pwr : BitVec 16) (s : State) : Host.Outcome State Fault Refusal :=
  .next ((({ s with refOn := false }).each allTiles (fun s t => s.setFs [(F.GRID_STAT_REF_OK t, 0), (F.GRID_STAT_REF_PWR t, pwr.toNat)])).note
    0x2 .refLoss 2 tgtModule)

/-- REF_RETURN (R115, R356): each tile retraces its combs, with the offset of its line 23, and a reference trace is due. -/
def execRefReturn (pwr : BitVec 16) (ofs : List (BitVec 12)) (s : State) : Host.Outcome State Fault Refusal :=
  .next (({ s with refOn := true }).each allTiles (fun s t =>
    if s.b (F.GRID_STAT_REF_OK t) then s
    else (s.setFs [(F.GRID_STAT_REF_OK t, 1), (F.GRID_STAT_REF_PWR t, pwr.toNat), (F.GRID_STAT_LINE23_OFS t, (ofs.getD t 0).toNat),
      (F.GRID_STAT_GRID_OFS t, s.f F.STRAP_STAT_GRID)]).updBl t (fun b => { b with traceDue := some s.bell, tracePrio := min 1 b.tracePrio })))

/-! ### Retired lanes (R136) -/

/-- Retire a lane: it leaves the map by LANESET, lane S in its place where it is free; a retirement that leaves fewer than 4
lanes holds the port DOWN. Journaled with origin 0x0, WARN. -/
def State.retireLane (s : State) (p j : Nat) : State :=
  if (s.retired p).testBit j then s
  else
    let s1 := (s.updPhNv (p / 3) (fun v => { v with retired := Map.set 0 v.retired (p % 3) (s.retired p ||| 2 ^ j) })).policyNote (tgtLane p j)
    let s2 := (s1.setF (F.LANE_STAT_STANDBY p j) 0).note 0x2 .laneRetired 2 (tgtLane p j)
    let left := if s2.linkUp p then (s2.wantedMap p).length else (lanesOf (0x1FFFF ^^^ s2.barred p)).length
    if left < 4 then (if s2.linkKeeps p then (s2.declareDown p 1).shut p else s2) else s2.tendMap p

/-! ### Substitution (R131 to R138) -/

/-- SUB_MAP's field of a Substitute. -/
def subFor (t u : Nat) : Fld := if u = 6 then F.SUB_MAP_SUB0_FOR t else F.SUB_MAP_SUB1_FOR t

/-- A free Substitute of a tile: not serving, not failed, not claimed. -/
def State.freeSub (s : State) (t : Nat) : Option Nat :=
  [6, 7].find? (fun u => s.f (subFor t u) == 7 && !(s.ph t).subst.any (fun e => e.2.target == u))

/-- A role claims a free Substitute and starts it, or has none, and a port's rate is re-planned (R132, R359). -/
def State.claimSub (s : State) (t r : Nat) (run : Option Nat) : State :=
  match s.freeSub t with
  | some u =>
    let x : Subst := { target := u, todo := roleUnits r, restore := false, run := run }
    (((s.updPh t (fun p => { p with subst := Map.put r x p.subst })).lightComb t u 1 r).setF (F.FADE_STAT_STAGE t r) 4).note
      0x2 .subStarted 2 (tgtTile t) r
  | none =>
    let s1 := (s.updPh t (fun p => { p with subst := Map.del r p.subst })).setF (F.FADE_STAT_STAGE t r) 3
    let s2 := s1.note 0x2 .subFailed 2 (tgtTile t) 0x8240
    let s2 := if r < 3 then s2.replanRate (3 * t + r) else s2
    match run with
    | some id => s2.finish id 0x8240 0
    | none => s2

/-- Roles in NO_SUB claim a Substitute that has become free (R132, R133): outside an evaluation the lower role number first (DESIGN
CHOICE, assumption 155). -/
def State.reclaimSubs (s : State) (t : Nat) : State :=
  s.each (List.range 6) (fun s r => if s.f (F.FADE_STAT_STAGE t r) = 3 && (s.freeSub t).isSome then s.claimSub t r none else s)

/-- Raise a comb's bias by 1 % of its commissioned bias within its limit, never at 90 °C or more; a NOTICE at the limit
(R119, R131). Fractions of 0.1 mA are dropped (DESIGN CHOICE, assumption 157). -/
def State.raiseBias (s : State) (t r : Nat) : State :=
  let comm := s.f (F.LAS_BIAS_COMM_BIAS t r)
  let lim := comm * s.f (F.LAS_LIM_LIM_PCT t r) / 100
  let old := s.f (F.LAS_BIAS_BIAS t r)
  if 90 ≤ s.f (F.LAS_STAT_TJ t r) || lim ≤ old then s
  else
    let s1 := s.setSat (F.LAS_BIAS_BIAS t r) (min lim (old + comm / 100))
    if lim ≤ old + comm / 100 then s1.note 0x2 .fade2 1 (tgtTile t) r else s1

/-- Lanes or lines of a role that have dropped more than 0.5 dB from a reading of the last 1 s (R131). -/
def State.fastLanes (s : State) (t r : Nat) : List Nat :=
  (roleIndexes r).filter (fun i => [1, 3].any (fun m => (s.ph t).hist.any (fun h =>
    decide (50 < (dropFrom (Map.get 0x8000 h.2 (monKey r i m)) (s.monitor t r i m)).getD 0))))

/-- A fast fade: the affected lanes of a port leave the map by LANESET, or the port retrains with fewer than 4 left (R135). -/
def State.fastFade (s : State) (t r : Nat) (lanes : List Nat) : State :=
  let s1 := (s.setF (F.FADE_STAT_FAST t r) 1).note 0x2 .fastFade 2 (tgtTile t) r
  let p := 3 * t + r
  let hit := if r < 3 && s1.linkUp p then (s1.mapLanes p).filter (fun j => lanes.contains j) else []
  if hit.isEmpty then s1
  else if (s1.mapLanes p).length < hit.length + 4 then s1.fastRetrain p
  else (s1.updLink p (fun l => { l with away := l.away ||| maskOf hit, verify := l.verify.filter (fun e => !hit.contains e.1) })).tendMap p

/-- Is a role to be substituted (R125, R131): a fade of 3.0 dB, a fast fade, a far-end margin below 1.5 dB, or a loss located at
M2, which no bias cures? -/
def State.substDue (s : State) (t r fade : Nat) (fast : Bool) : Bool :=
  decide (300 ≤ fade) || fast || (match s.roleMargin t r with | some m => decide (m < 150) | none => false) ||
  (roleIndexes r).any (fun i => s.located t r i == 2)

/-- The fade stage of a role at one evaluation (R131, R132). In NORMAL, a condition of substitution leads to WATCH and to the claim
in one evaluation (DESIGN CHOICE, assumption 156). -/
def State.fadeStage (s : State) (t r fade : Nat) (fast : Bool) : State :=
  let subst := s.substDue t r fade fast
  let calm := Map.find r (s.ph t).calmSince
  let s1 := s.updPh t (fun p => { p with calmSince := if fade < 50 then Map.put r (calm.getD s.bell) p.calmSince else Map.del r p.calmSince })
  let rested := fade < 50 && (match calm with | some b => decide (60000000 ≤ s1.bell - b) | none => false)
  let stage := s1.f (F.FADE_STAT_STAGE t r)
  let s2 := if stage = 0 && (100 ≤ fade || subst) then (s1.setF (F.FADE_STAT_STAGE t r) 1).note 0x2 .fade1 1 (tgtTile t) fade else s1
  match s2.f (F.FADE_STAT_STAGE t r) with
  | 3 => if (s2.freeSub t).isSome then s2.claimSub t r none else s2
  | 1 =>
    if subst then (s2.note 0x2 .fade3 2 (tgtTile t) fade).claimSub t r none
    else if 200 ≤ fade then ((s2.setF (F.FADE_STAT_STAGE t r) 2).note 0x2 .fade2 1 (tgtTile t) fade).raiseBias t r
    else if rested then s2.setF (F.FADE_STAT_STAGE t r) 0
    else s2
  | 2 =>
    if subst then (s2.note 0x2 .fade3 2 (tgtTile t) fade).claimSub t r none
    else if rested then s2.setF (F.FADE_STAT_STAGE t r) 0
    else if 100 ≤ fade then s2.raiseBias t r
    else s2
  | _ => s2

/-- The Blocking channel of a lane, plane or line, where it is one. -/
def roleChan (r idx : Nat) : Option Nat :=
  if r < 3 then (if idx ≤ 16 then some (r * 32 + idx) else none)
  else if r = 3 then (if idx < 16 then some (0x1000 + idx) else none)
  else if idx ≤ 32 then some (0x3000 + idx) else none

/-- The responses to a loss located on one lane or line (R125): from M3 a Blocking run, at the Timetable's priority (DESIGN CHOICE,
assumption 165); a lane is retired at 6.0 dB where M3 or M4 shows it first, and by its fade once its role is substituted or has no
Substitute (R131). -/
def State.respond (s : State) (t r idx : Nat) : State :=
  let at_ := s.located t r idx
  let s1 := match (if at_ = 3 then roleChan r idx else none) with
    | some c => if s.detained t c then s else s.queueChan t c 3 0
    | none => s
  let st := s1.f (F.FADE_STAT_STAGE t r)
  let gone := ((at_ == 3 || at_ == 4) && decide (600 ≤ s.dropAt t r idx at_)) || ((st == 3 || st == 6) && decide (600 ≤ s.fadeAt t r idx))
  if r < 3 && gone then s1.retireLane (3 * t + r) idx else s1

/-- One role at one evaluation. -/
def State.evalRole (s : State) (t r : Nat) : State :=
  let (fade, worst) := s.roleFade t r
  let fast := s.fastLanes t r
  let s1 := s.setFs [(F.FADE_STAT_FADE_CDB t r, min fade 4095), (F.FADE_STAT_WORST t r, worst), (F.FADE_STAT_FIRST_POINT t r, s.firstPoint t r worst)]
  let s2 := if fast.isEmpty then s1 else s1.fastFade t r fast
  ((s2.fadeStage t r fade (!fast.isEmpty)).each (roleIndexes r) (fun s i => s.respond t r i))

/-- The order in which roles claim: port roles by margin, then FAB, MAT, LO (R133). -/
def State.roleOrder (s : State) (t : Nat) : List Nat :=
  let key := fun (r : Nat) => (s.roleMargin t r).getD 100000
  ([0, 1, 2].mergeSort (fun a b => decide (key a ≤ key b))) ++ [3, 4, 5]

/-- FADE_EVALUATION (R131): the readings of the tile's monitors, each with its selection in the layout of MON_SEL, and of the
laser junctions, °C; then every role. A map that the Proctor wants and has not had is asked for again. -/
def execFadeEvaluation (t : Tile) (readings : FadeReadings) (s : State) : Host.Outcome State Fault Refusal :=
  let n := t.val
  let s1 := s.updPh n (fun p => { p with
    hist := p.hist.filter (fun h => decide (s.bell ≤ h.1 + 1000000))
    mon := readings.monitors.foldl (fun m x =>
      let v := x.1.toNat
      Map.set 0x8000 m (monKey (v / 8 % 8) (v / 64) (v % 8)) x.2.toNat) p.mon })
  let s2 := s1.setFs (readings.tj.zipIdx.map (fun x => (F.LAS_STAT_TJ n x.2, x.1.toNat)))
  let s3 := s2.each (s2.roleOrder n) (fun s r => s.evalRole n r)
  .next ((s3.updPh n (fun p => { p with hist := p.hist ++ [(s.bell, p.mon)] })).each (portsOf n) State.tendMap)

/-- Does a Blocking run keep a role from moving (R138): on the port's lanes, on a Crown channel, or on an OME line? -/
def State.runBars (s : State) (t r : Nat) : Bool :=
  (s.bl t).runs.any (fun x => if r < 3 then x.slot == r else if r = 3 then x.slot == 4 else x.chan / 4096 == 3)

/-- Line 32 takes over the work of the MAT or LO line that moves next; the passes pause where it replaces a line in Detention
(R137, R286). The move waits for a Blocking run, and for a move of the other role. -/
def State.readyLine (s : State) (t r : Nat) : State :=
  match Map.find r (s.ph t).subst with
  | none => s
  | some x =>
    let use := s.f (F.OME_SUB_USE_LINE t)
    let held := fun (s : State) => s.updPh t (fun q => { q with subst := Map.put r { x with held := true } q.subst })
    match x.todo with
    | [] => s
    | i :: _ =>
      if x.held || s.f (F.FADE_STAT_STAGE t r) ≠ 5 || s.runBars t r then s
      else if 32 ≤ i then held s
      else if use = 0 && !(s.ome t).subs.any (fun c => c.which == 2) then
        ((held s).updOme t (fun o => { o with subs := o.subs ++ [(⟨2, some i, 3⟩ : SubChange)] })).passBoundary t
      else if use = 2 then (held s).updOme t (fun o => { o with paused := o.paused + 1 })
      else s

/-- Start the moves of a role: MOVING. The first lane leaves the map, or line 32 takes over the first line. -/
def State.startMoves (s : State) (t r : Nat) : State :=
  let s1 := s.setF (F.FADE_STAT_STAGE t r) 5
  if r < 3 then s1.tendMap (3 * t + r) else if 4 ≤ r then s1.readyLine t r else s1

/-- COMB_START (R118): a comb started from dark has locked, or has not and is FAILED. For PHO_RESTORE the role's own comb, with the
fade read on it: locked and below 1.0 dB the reverse moves begin, else the command fails and the comb is stopped (R139). -/
def execCombStart (t : Tile) (c : Fin 8) (found : CombStarted) (s : State) : Host.Outcome State Fault Refusal :=
  let n := t.val
  let r := c.val
  if 6 ≤ r || s.f (F.LAS_STAT_STATE n r) ≠ 1 then .next s
  else match Map.find r (s.ph n).subst with
  | some x =>
    if !x.restore then .next s
    else if found.locked && found.fade.toNat < 100 then .next ((s.setFs [(F.LAS_STAT_STATE n r, 2), (F.LAS_STAT_ROLE n r, r)]).startMoves n r)
    else
      let s1 := (s.darkComb n r).updPh n (fun p => { p with subst := Map.del r p.subst })
      .next (match x.run with | some id => s1.finish id stState 0 | none => s1)
  | none =>
    if !found.locked then .next (s.setF (F.LAS_STAT_STATE n r) 4)
    else
      let s1 := s.setFs [(F.LAS_STAT_STATE n r, 2), (F.LAS_STAT_ROLE n r, r)]
      .next (if r = 4 || r = 5 then s1.omeStart n else s1)

/-- SUBSTITUTE_LOCKED (R132): the role begins to move. -/
def execSubstituteLocked (t : Tile) (u : Fin 2) (s : State) : Host.Outcome State Fault Refusal :=
  let n := t.val
  let c := 6 + u.val
  match (s.ph n).subst.find? (fun e => e.2.target == c && !e.2.restore) with
  | some e => .next (if s.f (F.LAS_STAT_STATE n c) = 1 then (s.setF (F.LAS_STAT_STATE n c) 2).startMoves n e.1 else s)
  | none => .next s

/-- SUBSTITUTE_LOCK_TIMEOUT (R132, R401): released and marked failed, CRIT; the role goes on with the other Substitute or has
none. -/
def execSubstituteLockTimeout (t : Tile) (u : Fin 2) (s : State) : Host.Outcome State Fault Refusal :=
  let n := t.val
  let c := 6 + u.val
  match (s.ph n).subst.find? (fun e => e.2.target == c && !e.2.restore) with
  | some e =>
    if s.f (F.LAS_STAT_STATE n c) ≠ 1 then .next s
    else
      let s1 := (s.updPh n (fun p => { p with subst := Map.del e.1 p.subst })).setFs
        [(subFor n c, 6), (F.LAS_STAT_STATE n c, 4), (F.LAS_STAT_ROLE n c, 7)]
      .next (((s1.note 0x2 .subFailed 3 (tgtTile n) c).raise n 7).claimSub n e.1 e.2.run)
  | none => .next s

/-- The last unit of a role has moved (R132, R134): the comb it left is stopped and SUB_MAP shows who serves it; journaled
by its command, or with origin 0x0. -/
def State.substDone (s : State) (t r : Nat) (x : Subst) : State :=
  let s1 := s.updPh t (fun p => { p with subst := Map.del r p.subst })
  let old := s1.rd (R.SUB_MAP t)
  let s2 := if x.restore then ((s1.darkComb t x.target).setFs [(subFor t x.target, 7), (F.FADE_STAT_STAGE t r, 0)])
    else (s1.darkComb t r).setFs [(subFor t x.target, r), (F.FADE_STAT_STAGE t r, 6)]
  -- where the change cannot be journaled, the role is back on the comb that fed it (R82)
  let before := if x.restore then (s1.darkComb t r).setF (F.FADE_STAT_STAGE t r) 6
    else (s1.darkComb t x.target).setFs [(subFor t x.target, 7), (F.FADE_STAT_STAGE t r, 0)]
  let back : Undo := { undoOf before s2 with sources := (roleUnits r).map (fun i => (t, r * 64 + i, if x.restore then x.target else r)) }
  let s3 := match x.run with
    | some id => s2.finishParam id stOk 0 [] back
    | none => s2.policy (tgtTile t) (R.SUB_MAP t) (some (leBytes 4 old.toNat)) (some (leBytes 4 (s2.rd (R.SUB_MAP t)).toNat))
  if x.restore then s3.reclaimSubs t else s3

/-- The unit of a role that moves next is on its new source. -/
def State.unitMoved (s : State) (t r : Nat) (x : Subst) (i : Nat) : State :=
  let s1 := s.updPh t (fun q => { q with
    source := Map.set r q.source (r * 64 + i) (if x.restore then r else x.target)
    subst := Map.put r { x with todo := x.todo.drop 1, tried := false, held := false } q.subst })
  if x.todo.length ≤ 1 then s1.substDone t r x else s1

/-- A port's lane is on its new source (R134, R135). With the port UP a lane with traffic must have left the map first, and the far
end's check decides: passed, the lane comes back by LANESET; failed once, it relocks and is checked again; failed twice, it is
retired. Lane S and a lane that no map of 4 lanes can spare move without the check, and so does every lane of a port that is
not UP. -/
def State.laneMoved (s : State) (t r : Nat) (x : Subst) (j : Nat) : State :=
  let p := 3 * t + r
  let on := fun (s : State) => s.updPh t (fun q => { q with source := Map.set r q.source (r * 64 + j) (if x.restore then r else x.target) })
  let back := fun (s : State) => s.updLink p (fun l => { l with
    away := l.away &&& (0x1FFFF ^^^ 2 ^ j), back := if l.away.testBit j then l.back ||| 2 ^ j else l.back, verify := Map.del j l.verify })
  if !s.linkKeeps p then s.unitMoved t r x j
  else if !s.linkUp p || (s.link p).laneset.isSome || s.laneRunOn p then s
  else
    let s1 := s.outFirst p
    if (s1.mapLanes p).contains j then
      if (s1.wantedMap p).length < 4 then ((back s1).unitMoved t r x j).tendMap p else s1.tendMap p
    else if j = 16 then ((back s1).unitMoved t r x j).tendMap p
    else match (s1.link p).verified j with
    | none => on s1
    | some true => ((back s1).unitMoved t r x j).tendMap p
    | some false =>
      if x.tried then
        ((s1.updLink p (fun l => { l with away := l.away &&& (0x1FFFF ^^^ 2 ^ j), swap := none })).retireLane p j).unitMoved t r x j
      else ((on s1).updLink p (fun l => { l with verify := Map.del j l.verify })).updPh t (fun q => { q with
        subst := Map.put r { x with tried := true } q.subst })

/-- A MAT or LO line is on its new source (R137): line 32 is free again, or the passes go on, and the pilot acquires phase at the
next pass boundary. -/
def State.lineMoved (s : State) (t r : Nat) (x : Subst) (i : Nat) : State :=
  let use := s.f (F.OME_SUB_USE_LINE t)
  let carried := use == 3 && s.f (F.OME_SUB_SUBLINE t) == i
  if !x.held || s.runBars t r then s.readyLine t r
  else if decide (i < 32) && !carried && use != 2 then s
  else
    let s1 := s.updOme t (fun o =>
      let o1 : Ome := if 32 ≤ i then o else if carried then { o with subs := o.subs ++ [⟨2, none, 0⟩] } else { o with paused := o.paused - 1 }
      { o1 with reacqReq := true })
    ((s1.unitMoved t r x i).readyLine t r).passBoundary t

/-- LANE_SOURCE_MOVED (R134, R137, R138): the next lane, plane or line of a MOVING role is on its new source. A plane's transmitter
is silent for 2 slots. A Blocking run on the role's port, planes or lines keeps the move waiting, and so does a ring without
lock; a plane has none. -/
def execLaneSourceMoved (t : Tile) (role : Fin 6) (unit : Fin 64) (lock : Bool) (s : State) : Host.Outcome State Fault Refusal :=
  let n := t.val
  let r := role.val
  let i := unit.val
  match Map.find r (s.ph n).subst with
  | none => .next s
  | some x =>
    if s.f (F.FADE_STAT_STAGE n r) ≠ 5 || x.todo.head? ≠ some i || (!lock && r != 3) then .next s
    else if r < 3 then .next (s.laneMoved n r x i)
    else if r = 3 then
      .next (if s.runBars n r then s
        else (s.updPh n (fun q => { q with quiet := Map.put i (s.crownMap.slot + 2) q.quiet })).unitMoved n r x i)
    else .next (s.lineMoved n r x i)

/-- LASER_OVERTEMP (R119, R401): the comb is stopped, a Substitute is invoked for the role it served, and a CRIT record is
written. -/
def execLaserOvertemp (t : Tile) (c : Fin 8) (tj : BitVec 8) (s : State) : Host.Outcome State Fault Refusal :=
  let n := t.val
  let k := c.val
  let served := s.f (F.LAS_STAT_ROLE n k)
  let s1 := (s.setF (F.LAS_STAT_TJ n k) tj.toNat).darkComb n k
  let s2 := (s1.note 0x2 .laserOvertemp 3 (tgtTile n) tj.toNat).raise n 6 tj.toNat
  match Map.find served (s2.ph n).subst with
  | some x =>
    if x.restore && k < 6 then
      let s3 := s2.updPh n (fun p => { p with subst := Map.del served p.subst })
      .next (match x.run with | some id => s3.finish id stState 0 | none => s3)
    else if x.target = k then
      .next (((s2.setF (subFor n k) 6).updPh n (fun p => { p with subst := Map.del served p.subst })).claimSub n served x.run)
    else .next s2
  | none =>
    if served = 7 then .next s2
    else if 6 ≤ k then .next ((s2.setF (subFor n k) 6).claimSub n served none)
    else .next (s2.claimSub n served none)

/-! ### Commands (R139) -/

/-- The monitor points of a port or a whole tile, in ascending order of path, index and point. -/
def monPoints (p : Packet) : List (Nat × Nat × Nat) :=
  let paths := if p.kind = 2 then [p.unit % 3] else List.range 6
  paths.flatMap (fun path => (roleIndexes path).flatMap (fun i => (List.range 5).map (fun m => (path, i, m + 1))))

/-- The encoding of a stored value table that is journaled: its SHA-256 (R124). -/
def State.tableOf (s : State) (t : Nat) (pts : List (Nat × Nat × Nat)) : List Byte :=
  sha256 (pts.flatMap (fun x => leBytes 2 (s.commissioned t x.1 x.2.1 x.2.2)))

/-- The tile of a tile or port TARGET. -/
def phoTile (p : Packet) : Nat := if p.kind = 2 then p.unit / 3 else p.unit

/-- PHO_COMMISSION (R124, R139): the commissioned values, the bias of the combs that feed the target among them (assumption 52), and
with them what holds until the next PHO_COMMISSION: retired
lanes (R136), FAST, and a port's re-planned rate (R359). -/
def phoCommissionDef : CmdDef where
  code := 0x0240
  kinds := [1, 2]
  pre := fun s p _ =>
    let t := phoTile p
    let ports := if p.kind = 2 then [p.unit % 3] else [0, 1, 2]
    let locked := if p.kind = 2 then s.ringsLocked t (p.unit % 3 * 68) (p.unit % 3 * 68 + 68) else s.ringsLocked t 0 220
    if !locked || ports.any (fun i => s.b (F.EYESAFE_LOS t i)) then some (stState, 0) else none
  journaled := true
  act := fun s p _ _ =>
    let t := phoTile p
    let pts := monPoints p
    let ports := if p.kind = 2 then [p.unit % 3] else [0, 1, 2]
    let comm := pts.foldl (fun m x =>
      let v := s.monitor t x.1 x.2.1 x.2.2
      let m1 := Map.put (monKey x.1 x.2.1 x.2.2) v m
      let u := s.combAt t x.1 x.2.1
      if x.2.2 = 1 && 6 ≤ u then Map.put (subKey u x.2.1) v m1 else m1) (s.phNv t).comm
    let combs := ((if p.kind = 2 then ports else List.range 6).map (fun r => s.combAt t r 0)).filter (fun c => s.f (F.LAS_STAT_STATE t c) == 2)
    let bias := combs.foldl (fun m c => Map.put c (s.f (F.LAS_BIAS_BIAS t c)) m) (s.phNv t).bias
    let s0 := s.updPhNv t (fun v => { comm := comm, retired := v.retired.filter (fun e => !ports.contains e.1), bias := bias })
    let s1 := s0.each combs (fun s c => s.setF (F.LAS_BIAS_COMM_BIAS t c) (s.commBias t c))
    let roles := if p.kind = 2 then ports else List.range 6
    let s2 := s1.each roles (fun s r => s.setF (F.FADE_STAT_FAST t r) 0)
    let rates := ports.foldl (fun v i => v - v / 4 ^ i % 4 * 4 ^ i) (s2.f (F.AGE_PLAN_PORT_RATE t))
    .now (s2.setF (F.AGE_PLAN_PORT_RATE t) rates) stOk 0 []
      [{ target := p.target.toNat, offset := 0xFFFFFFFF, old := some (s.tableOf t pts), new := some (s2.tableOf t pts) }]

/-- PHO_COMMISSION (R124). -/
def execPhoCommission (p : Packet) (s : State) : Host.Outcome State Fault Refusal := .next (runCmd phoCommissionDef p s)

/-- PHO_MON_READ (R139). -/
def phoMonReadDef : CmdDef where
  code := 0x0241
  kinds := [2]
  resLen := fun _ _ => some 340
  act := fun s p _ _ =>
    let t := p.unit / 3
    let i := p.unit % 3
    .now s stOk 0 ((List.range 17).flatMap (fun j => (List.range 5).flatMap (fun m =>
      leBytes 2 (s.monitor t i j (m + 1)) ++ leBytes 2 (s.commissioned t i j (m + 1))))) []

/-- PHO_MON_READ (R139). -/
def execPhoMonRead (p : Packet) (s : State) : Host.Outcome State Fault Refusal := .next (runCmd phoMonReadDef p s)

/-- PHO_SUBSTITUTE (R132, R139). -/
def phoSubstituteDef : CmdDef where
  code := 0x0242
  len := fun _ => some 4
  kinds := [1]
  par := fun _ p _ => if 5 < p.w 0 then some 32 else none
  pre := fun s p _ =>
    let st := s.f (F.FADE_STAT_STAGE p.unit (p.w 0))
    if 2 < st then some (stState, st) else if (s.freeSub p.unit).isNone then some (0x8240, 0) else none
  journaled := true
  act := fun s p _ id => .later (s.claimSub p.unit (p.w 0) (some id))

/-- PHO_SUBSTITUTE (R132, R139). -/
def execPhoSubstitute (p : Packet) (s : State) : Host.Outcome State Fault Refusal := .next (runCmd phoSubstituteDef p s)

/-- PHO_RESTORE (R132, R139): the role's own comb is started; it answers when the reverse moves have ended. While the comb of an
earlier one still starts it is busy (DESIGN CHOICE, assumption 158). -/
def phoRestoreDef : CmdDef where
  code := 0x0243
  len := fun _ => some 4
  kinds := [1]
  par := fun _ p _ => if 5 < p.w 0 then some 32 else none
  pre := fun s p _ =>
    let r := p.w 0
    if s.f (F.FADE_STAT_STAGE p.unit r) ≠ 6 then some (stState, 0)
    else if (Map.find r (s.ph p.unit).subst).isSome then some (stBusy, 0)
    else none
  journaled := true
  act := fun s p _ id =>
    let t := p.unit
    let r := p.w 0
    let u := if s.f (F.SUB_MAP_SUB0_FOR t) = r then 6 else 7
    let x : Subst := { target := u, todo := roleUnits r, restore := true, run := some id }
    .later ((s.updPh t (fun q => { q with subst := Map.put r x q.subst })).lightComb t r 1 r)

/-- PHO_RESTORE (R132, R139). -/
def execPhoRestore (p : Packet) (s : State) : Host.Outcome State Fault Refusal := .next (runCmd phoRestoreDef p s)

/-- PHO_REFMON (R115, R139). -/
def phoRefmonDef : CmdDef where
  code := 0x0244
  len := fun _ => some 4
  kinds := [1]
  par := fun _ p _ => if 7 < p.w 0 && p.w 0 ≠ 0xFF then some 32 else none
  journaled := true
  act := fun s p _ _ =>
    let now := if p.w 0 = 0xFF then none else some (p.unit, p.w 0)
    .now { s with refmon := now } stOk 0 [] (if s.refmon = now then [] else paramChange p)

/-- PHO_REFMON (R115, R139). -/
def execPhoRefmon (p : Packet) (s : State) : Host.Outcome State Fault Refusal := .next (runCmd phoRefmonDef p s)

end Sys2Proof.Machine
end

