-- ==== Sys2Proof/Machine/Blocking.lean ====
section
/-! DEFINITION. Machine/Blocking.lean: Blocking runs, reference traces and ageing: their commands and events (R339 to
R360). -/

namespace Sys2Proof.Machine

/-! ### Commands in progress (R360) -/

/-- The eight bytes of BLOCK_RUN and BLOCK_TRACE. -/
def blkReply (chan result trigger us : Nat) : List Byte := leBytes 2 chan ++ leBytes 1 result ++ leBytes 1 trigger ++ leBytes 4 (min us (2 ^ 32 - 1))

/-- End what a single command waits for: committed, rejected with the fail count and RESULT, or deferred. -/
def State.blkAnswer (s : State) (c : BlkCmd) (result trigger fails us : Nat) : State :=
  match result with
  | 0 => if c.release then s.finishParam c.run stOk 0 else s.finish c.run stOk 0 (blkReply c.chan 0 trigger us)
  | 4 => s.finish c.run 0x8702 0
  | r => s.finish c.run stCalRejected (fails + r * 256)

/-- A run of channel c has ended: the commands that wait for it hear of it. -/
def State.blkNotify (s : State) (t c result trigger fails us : Nat) : State :=
  let upd := fun (x : BlkCmd) => if x.left.contains c then { x with left := x.left.erase c, result := if x.result = 0 then result else x.result } else x
  let s1 := s.each ((s.bl t).cmds.filter (fun x => x.left.contains c)) (fun s x =>
    if x.chan ≠ 0xFFFF then s.blkAnswer x result trigger fails us
    else if (upd x).left.isEmpty then s.finish x.run stOk 0 (blkReply 0xFFFF (upd x).result 2 (s.bell - x.at_))
    else s)
  s1.updBl t (fun b => { b with cmds := (b.cmds.map upd).filter (fun x => !x.left.isEmpty) })

/-! ### Detention (R350, R285) -/

/-- Both banks withdrawn, or two lines in Detention: the OME fails (R285). -/
def State.omeLost (s : State) (t : Nat) : Bool :=
  (s.ome t).withdrawn.length == 2 || decide (2 ≤ ((s.bl t).detained.countP (fun c => c / 4096 == 3)))

/-- BANK_x_OK follows the banks withdrawn. -/
def State.syncBanks (s : State) (t : Nat) : State :=
  let up := s.f (F.OME_STAT_STATE t)
  if up = 0 || up = 1 || up = 8 then s
  else s.setFs [(F.OME_STAT_BANK_A_OK t, if (s.ome t).withdrawn.contains 0 then 0 else 1),
    (F.OME_STAT_BANK_B_OK t, if (s.ome t).withdrawn.contains 1 then 0 else 1)]

/-- The lane or tile that a channel's Detention names. -/
def chanTarget (t c : Nat) : Nat := if c / 4096 = 0 then tgtLane (3 * t + c / 32) (c % 32) else tgtTile t

/-- A channel enters Detention: journaled with origin 0x0, a WARN record, and its unit out of service (R350). -/
def State.detain (s : State) (t c : Nat) : State :=
  if s.detained t c then s
  else
    let s1 := s.updBl t (fun b => { b with detained := b.detained ++ [c], fails := Map.del c b.fails, queue := b.queue.filter (fun e => e.chan != c) })
    let s2 := (((s1.policyNote (chanTarget t c)).note 0x7 .detention 2 (chanTarget t c) c).showDetention t).syncBlk t
    match c / 4096 with
    | 0 => s2.setF (F.LANE_STAT_STANDBY (3 * t + c / 32) (c % 32)) 0
    | 1 => s2.markDead t (s2.f (F.CROWN_DEAD_TX_DEAD t) ||| 2 ^ (c % 16)) (s2.f (F.CROWN_DEAD_RX_DEAD t))
    | _ =>
      let lost := (s2.ome t).withdrawn.filter (fun b => !(s.ome t).withdrawn.contains b)
      let s3 := (s2.updOme t (fun o => { o with subs := if c / 4096 = 2 then o.subs.filter (fun x => x.which != c % 256 / 128) else o.subs.filter (fun x => x.which != 2) })).syncBanks t
      let s4 := if lost.isEmpty then s3
        else s3.each (s3.work.jobs.filter (fun j => j.live && j.desc.cls == 2 && j.shares.any (fun sh => s.server sh.tile == some t)))
          (fun s j => s.endJob j.id 0x8403 t t)
      if s4.omeLost t then s4.failOme t else s4

/-- BLOCK_RELEASE commits: Detention undone (R360). -/
def State.undetain (s : State) (t c : Nat) : State :=
  let s1 := s.updBl t (fun b => { b with detained := b.detained.erase c })
  let s2 := (s1.showDetention t).syncBanks t
  match c / 4096 with
  | 0 => s2.setF (F.LANE_STAT_STANDBY (3 * t + c / 32) (c % 32)) (if s2.linkUp (3 * t + c / 32) then 1 else 0)
  | 1 =>
    let m := s2.f (F.CROWN_DEAD_TX_DEAD t)
    s2.markDead t ((m - m / 2 ^ (c % 16) % 2 * 2 ^ (c % 16)) ||| (s2.dueMarks t).1) (s2.f (F.CROWN_DEAD_RX_DEAD t))
  | _ => s2

/-! ### Starting runs (R347, R348, R352) -/

/-- Put a run in its slot. -/
def State.addRun (s : State) (t : Nat) (e : BlkEntry) (carrier : Carrier) (phase : Nat) : State :=
  let r : BlkRun := { slot := slotOf e.chan, chan := e.chan, prio := e.prio, carrier := carrier, at_ := s.bell, phase := phase }
  (s.updBl t (fun b => { b with runs := b.runs ++ [r], queue := b.queue.filter (fun x => x.chan != e.chan), deferred := b.deferred.erase e.chan })).syncBlk t

/-- A lane run without a carrier is deferred: counted, with a NOTICE (R352). -/
def State.deferLane (s : State) (t c prio : Nat) : State :=
  let s1 := s.updBl t (fun b => { b with queue := b.queue.filter (fun x => x.chan != c), deferred := c :: b.deferred.erase c })
  let s2 := ((s1.bump (F.BLK_CNT_DEFER t)).note 0x7 .laneDeferred 1 (chanTarget t c) c).setFs
    [(F.BLK_LAST_CHAN t, c), (F.BLK_LAST_RESULT t, 4), (F.BLK_LAST_TRIGGER t, triggerOf prio)]
  (s2.syncBlk t).blkNotify t c 4 (triggerOf prio) 0 0

/-- Is a port's role WARMING or MOVING (R138)? -/
def State.roleMoves (s : State) (t r : Nat) : Bool := let x := s.f (F.FADE_STAT_STAGE t r); x == 4 || x == 5

/-- Start a lane run (R352); none while it must stay queued. -/
def State.startLane (s : State) (t : Nat) (e : BlkEntry) : Option State :=
  let i := e.chan / 32
  let j := e.chan % 32
  let p := 3 * t + i
  let map := s.mapLanes p
  let sub := laneChan p 16
  if !s.linkUp p || (s.link p).laneset.isSome || s.roleMoves t i || (s.bl t).runs.any (fun r => r.slot == i) then none
  else if !s.detained t e.chan && !map.contains j && !s.b (F.LANE_STAT_STANDBY p j) then none
  else
    let s0 := s.setFs [(F.ESCAN_STAT_LANE p, j), (F.ESCAN_STAT_USER p, 3)]
    if !map.contains j then some ((s0.wakeTx p).addRun t e .none 1)
    else if j ≠ 16 && s.b (F.LANE_STAT_STANDBY p 16) && s.current t sub && !s.detained t sub then
      some ((s0.addRun t e .laneS 0).startLaneset p (map.map (fun x => if x = j then 16 else x)) (s.link p).mapRate none true)
    else if 5 ≤ map.length then
      some ((s0.addRun t e .narrow 0).startLaneset p (map.filter (fun x => x != j)) (s.link p).mapRate none true)
    else some (s.deferLane t e.chan e.prio)

/-- Start a Crown run (R204): its transmitter is silent for 2 slots. -/
def State.startCrown (s : State) (t : Nat) (e : BlkEntry) : Option State :=
  if s.f (F.CROWN_STAT_STATE t) ≠ 2 || s.roleMoves t 3 then none
  else some ((s.setF (F.CROWN_PLANE_BLOCKING t (e.chan % 16)) 1).addRun t e .none 1)

/-- Start an OME row or line run (R283, R284, R286). -/
def State.startOme (s : State) (t : Nat) (e : BlkEntry) : Option State :=
  let st := s.f (F.OME_STAT_STATE t)
  let line := e.chan / 4096 == 3
  let which := if line then 2 else e.chan % 256 / 128
  let unit := if line then e.chan % 64 else e.chan % 128
  let subUnit := if line then 0x3020 else 0x2000 + which * 128 + 64
  let use := s.f (if line then F.OME_SUB_USE_LINE t else if which = 0 then F.OME_SUB_USE_A t else F.OME_SUB_USE_B t)
  let pending := (s.ome t).subs.any (fun x => x.which == which)
  let hold := fun (s : State) => s.updOme t (fun o => if line then { o with paused := o.paused + 1 } else { o with withheld := o.withheld ++ [which] })
  if !(st == 3 || st == 4) || s.roleMoves t 4 || s.roleMoves t 5 || use = 1 || pending then none
  else if s.detained t e.chan && !isSubUnit e.chan then some (s.addRun t e .none 1)
  else if isSubUnit e.chan then some (if use = 2 then (hold s).addRun t e .narrow 1 else s.addRun t e .none 1)
  else if use = 0 && s.current t subUnit && !s.detained t subUnit then
    some (((s.updOme t (fun o => { o with subs := o.subs ++ [(⟨which, some unit, 1⟩ : SubChange)] })).addRun t e .laneS 1).passBoundary t)
  else some ((hold s).addRun t e .narrow 1)

/-- Does entry x come before y in its slot (R348)? -/
def State.entryFirst (s : State) (t : Nat) (x y : BlkEntry) : Bool :=
  let age := fun (e : BlkEntry) => Map.get 0 (s.bl t).done e.chan
  if x.prio ≠ y.prio then decide (x.prio < y.prio)
  else if isSubUnit x.chan ≠ isSubUnit y.chan then isSubUnit x.chan
  else if x.prio = 2 && x.diff ≠ y.diff then decide (y.diff < x.diff)
  else if x.prio = 3 && age x ≠ age y then decide (age x < age y)
  else decide (x.chan < y.chan)

/-- Put an entry in its place in an ordered list. -/
def State.insertEntry (s : State) (t : Nat) (e : BlkEntry) : List BlkEntry → List BlkEntry
  | [] => [e]
  | x :: r => if s.entryFirst t e x then e :: x :: r else x :: State.insertEntry s t e r

/-- May an entry run now: Blocking enabled or a command, and a temperature run settled or 1 ms old (R344, R346)? -/
def State.entryDue (s : State) (t : Nat) (e : BlkEntry) : Bool :=
  (e.prio == 0 || s.b (F.BLK_CTL_EN t)) && (e.prio != 2 || (s.bl t).settled || decide (e.at_ + 1000 ≤ s.bell))

/-- The entries of a slot that are due, in order. -/
def State.slotQueue (s : State) (t slot : Nat) : List BlkEntry :=
  ((s.bl t).queue.filter (fun e => slotOf e.chan == slot && s.entryDue t e)).foldl (fun l e => s.insertEntry t e l) []

/-- Does a waiting reference trace keep a slot from starting an entry (R347, R348)? One that waits for REFCLK does not. -/
def State.traceHolds (s : State) (t slot prio : Nat) : Bool :=
  let b := s.bl t
  (slot == 3 && b.tracing) || (slot == 4 && b.traceCrown) ||
  (decide (3 ≤ slot) && b.traceDue.isSome && decide (b.tracePrio ≤ prio) && !s.b F.CLK_STAT_HOLDOVER)

/-- Start one entry. -/
def State.startEntry (s : State) (t : Nat) (e : BlkEntry) : Option State :=
  if s.traceHolds t (slotOf e.chan) e.prio then none
  else match e.chan / 4096 with
  | 0 => s.startLane t e
  | 1 => s.startCrown t e
  | _ => s.startOme t e

/-- Is the tile awake and in no fault reaction, so that runs may start (R345, R351)? -/
def State.blkAwake (s : State) (t : Nat) : Bool := s.pwr t == 0 && !s.gated t

/-- The first entry of a list that can start. -/
def State.startFirst (t : Nat) : List BlkEntry → State → Option (BlkEntry × State)
  | [], _ => none
  | e :: r, s => match s.startEntry t e with | some s1 => some (e, s1) | none => State.startFirst t r s

/-- A slot that is free takes its next entry; a row of one bank takes one of the other bank with it (R347). -/
def State.startSlot (s : State) (t slot : Nat) : State :=
  if !s.blkAwake t || (s.bl t).runs.any (fun r => r.slot == slot) then s
  else match State.startFirst t (s.slotQueue t slot) s with
  | none => s
  | some (e, s1) =>
    if e.chan / 4096 ≠ 2 then s1
    else match State.startFirst t ((s1.slotQueue t 3).filter (fun x => x.chan / 4096 == 2 && x.chan % 256 / 128 != e.chan % 256 / 128)) s1 with
      | some (_, s2) => s2
      | none => s1

/-! ### The reference trace (R340, R347, R355 to R358) -/

/-- A trace is due, at a priority. -/
def State.wantTrace (s : State) (t prio : Nat) : State :=
  s.updBl t (fun b => { b with traceDue := some (b.traceDue.getD s.bell), tracePrio := if b.traceDue.isSome then min b.tracePrio prio else prio })

/-- Start a trace that is due, once the OME and Crown slots are free of runs and of entries of higher priority, REFCLK is
present, and the temperature has settled where temperature asked for it. -/
def State.startTrace (s : State) (t : Nat) : State :=
  let b := s.bl t
  match b.traceDue with
  | none => s
  | some at_ =>
    let ahead := (s.slotQueue t 3 ++ s.slotQueue t 4).any (fun e => decide (e.prio < b.tracePrio))
    let due := (b.tracePrio == 0 || s.b (F.BLK_CTL_EN t)) && (b.tracePrio != 2 || b.settled || decide (at_ + 1000 ≤ s.bell))
    if b.tracing || !due || ahead || !s.blkAwake t || s.b F.CLK_STAT_HOLDOVER || b.runs.any (fun r => decide (3 ≤ r.slot)) then s
    else
      let b1 := { b with traceDue := none, tracePrio := 3, tracing := true, traceCrown := true }
      let s1 := s.updBl t (fun _ => { b1 with traceBegan := s.bell, traceTrig := triggerOf b.tracePrio })
      let s2 := if s1.f (F.CROWN_STAT_STATE t) = 2 then s1.setF (F.CROWN_STAT_STATE t) 3 else s1
      let st := s2.f (F.OME_STAT_STATE t)
      let s3 := if decide (2 ≤ st) && decide (st ≤ 5) then (s2.updOme t (fun o => { o with traceReq := true })).passBoundary t else s2
      s3.syncBlk t

/-- REFERENCE_TRACE_DUE (R356): by REF_INT, by 4 × DT, or already asked for; it starts where it can. -/
def execReferenceTraceDue (t : Tile) (s : State) : Host.Outcome State Fault Refusal :=
  let n := t.val
  let b := s.bl n
  let hot := match b.traceTemp with | some x => decide (4 * s.f (F.BLK_CTL_DT n) < (b.avg - x).natAbs) | none => false
  let old := match b.traceTried with | some a => decide (a + s.f (F.BLK_CTL_REF_INT n) * 3600000000 ≤ s.bell) | none => true
  let s1 := if !s.b (F.BLK_CTL_EN n) || b.tracing then s
    else if hot then s.wantTrace n 2 else if old then s.wantTrace n 3 else s
  .next (s1.startTrace n)

/-- REFERENCE_TRACE_CROWN_END (R204, R340): 0.4 ms in, the Crown's transmitters resume. -/
def execReferenceTraceCrownEnd (t : Tile) (s : State) : Host.Outcome State Fault Refusal :=
  let n := t.val
  if !(s.bl n).traceCrown then .next s
  else .next (((if s.f (F.CROWN_STAT_STATE n) = 3 then s.setF (F.CROWN_STAT_STATE n) 2 else s).updBl n (fun b => { b with traceCrown := false })).syncBlk n)

/-- Three failures in a row (R357): a CRIT record; the Crown's transmitters dead, and the OME FAILED. -/
def State.traceGivesUp (s : State) (t : Nat) (f : TraceFound) : State :=
  let s1 := s.note 0x7 .traceFail 3 (tgtTile t)
  let s2 := if f.crown then s1 else (s1.updBl t (fun b => { b with traceDead := true })).markDead t 0xFFFF (s1.f (F.CROWN_DEAD_RX_DEAD t))
  if f.ome then s2 else (s2.updBl t (fun b => { b with traceOme := true })).failOme t

/-- A reference trace of tile `n` is over: the engine that waited for it is ready again. -/
def State.traceOver (s : State) (n : Nat) : State :=
  let s1 := (s.updBl n (fun b => { b with tracing := false, traceRuns := [] })).updOme n (fun o => { o with traceReq := false })
  (if s1.f (F.OME_STAT_STATE n) = 6 then s1.setF (F.OME_STAT_STATE n) 2 else s1).syncBlk n

/-- A reference trace of tile `n` that found all it looked for: its results are in use, what an earlier trace withdrew returns,
and the commands that asked for it complete (R355, R357). -/
def State.traceTaken (s : State) (b : Blk) (n us trig ok : Nat) (found : TraceFound) : State :=
  let s3 := ((s.bump (F.BLK_CNT_RUN n)).setFs [(F.CROWN_DLY_TX_DLY n, found.txDly.toNat), (F.CROWN_DLY_RX_DLY n, found.rxDly.toNat),
    (F.GRID_STAT_LINE23_OFS n, found.line23.toNat), (F.BLK_STAT_TRACE_AGE n, 0), (F.BLK_STAT_TRACE_OK n, ok),
    (F.BLK_LAST_CHAN n, 0x4000), (F.BLK_LAST_RESULT n, 0), (F.BLK_LAST_TRIGGER n, trig)]).updBl n (fun b =>
      { b with traceFails := 0, traceTemp := some b.avg, traceAt := some s.bell, traceTried := some s.bell })
  let s4 := s3.updBl n (fun b => { b with traceDead := false, traceOme := false })
  let s5 := if b.traceDead then s4.markDead n (s4.dueMarks n).1 (s4.f (F.CROWN_DEAD_RX_DEAD n)) else s4
  let s6 := if b.traceOme then (s5.setF (F.OME_STAT_STATE n) 0).omeStart n else s5
  (if b.traceRuns.isEmpty then s3 else s6).each b.traceRuns (fun s id => s.finish id stOk 0 (blkReply 0x4000 0 trig us))

/-- A reference trace of tile `n` that did not: the old items are kept, and the third failure in a row gives up (R357, R358). -/
def State.traceKept (s : State) (b : Blk) (n trig : Nat) (found : TraceFound) : State :=
  let s3 := (s.bump (F.BLK_CNT_REJ n)).setFs [(F.BLK_LAST_CHAN n, 0x4000), (F.BLK_LAST_RESULT n, 2), (F.BLK_LAST_TRIGGER n, trig)]
  let s4 := s3.updBl n (fun b => { b with traceFails := b.traceFails + 1, traceTemp := some b.avg, traceTried := some s.bell })
  let s5 := if b.traceFails + 1 = 3 then s4.traceGivesUp n found else s4
  s5.each b.traceRuns (fun s id => s.finish id stCalRejected (min (b.traceFails + 1) 255 + 2 * 256))

/-- REFERENCE_TRACE_END (R355, R357, R358): committed, or the old items kept and a failure counted. -/
def execReferenceTraceEnd (t : Tile) (found : TraceFound) (s : State) : Host.Outcome State Fault Refusal :=
  let n := t.val
  let b := s.bl n
  let us := s.bell - b.traceBegan
  let ref := if s.b (F.GRID_STAT_REF_OK n) && !s.b F.CLK_STAT_HOLDOVER then 1 else 0
  .next (if !b.tracing || b.traceCrown then s
    else if found.crown && found.ome && found.other then (s.traceOver n).traceTaken b n us b.traceTrig ref found
    else (s.traceOver n).traceKept b n b.traceTrig found)

/-! ### Triggers (R343 to R346) -/

/-- May a channel be queued by a trigger: not in Detention, and its OME not OFF or HELD (R339)? -/
def State.mayQueue (s : State) (t c : Nat) : Bool :=
  let st := s.f (F.OME_STAT_STATE t)
  !s.detained t c && (c / 4096 < 2 || (st != 0 && st != 1))

/-- BLOCK_TEMP_EVALUATION (R343, R344): the 100 µs average of the tile temperature, in 0.1 °C. -/
def execBlockTempEvaluation (t : Tile) (avg : BitVec 16) (s : State) : Host.Outcome State Fault Refusal :=
  let n := t.val
  let now := avg.toInt
  let s1 := s.updBl n (fun b => { b with settled := decide ((now - b.avg).natAbs ≤ 10), avg := now })
  if !s.b (F.BLK_CTL_EN n) || s.dozing n then .next s1
  else .next (s1.each (allChans.filter (s1.mayQueue n)) (fun s c =>
    match Map.find c (s1.bl n).temp with
    | some x => let d := (now - x).natAbs; if s1.f (F.BLK_CTL_DT n) < d then s.queueChan n c 2 d else s
    | none => s))

/-- BLOCK_SETTLE_TIMEOUT (R344): a temperature run that has waited 1 ms starts anyway. -/
def execBlockSettleTimeout (t : Tile) (s : State) : Host.Outcome State Fault Refusal :=
  .next ((s.startTrace t.val).each (List.range 5) (fun s k => s.startSlot t.val k))

/-- BLOCK_TIMETABLE_DUE (R343, R345, R352): a channel whose last committed run is older than INTERVAL. -/
def execBlockTimetableDue (t : Tile) (chan : BitVec 16) (s : State) : Host.Outcome State Fault Refusal :=
  let n := t.val
  let c := chan.toNat
  let due := match Map.find c (s.bl n).done with
    | some a => decide (a + s.f (F.BLK_CTL_INTERVAL n) * 1000000 ≤ s.bell)
    | none => true
  .next (if chanOk c && decide (c < 0x4000) && due && s.b (F.BLK_CTL_EN n) && !s.dozing n && s.mayQueue n c then s.queueChan n c 3 0 else s)

/-! ### Runs (R347 to R353) -/

/-- BLOCK_RUN_START (R347, R348, R352, R354): a trace that is due comes first in its slots. -/
def execBlockRunStart (t : Tile) (slot : Fin 5) (s : State) : Host.Outcome State Fault Refusal :=
  .next ((if 3 ≤ slot.val then s.startTrace t.val else s).startSlot t.val slot.val)

/-- Does a lane's shadow keep its limits (R342, R148): CTLE setting, taps 1 to 12, and the lower, middle and upper
thresholds against the committed values? -/
def State.shadowOk (s : State) (p j : Nat) (eq : List (BitVec 8)) : Bool :=
  let v := fun (i : Nat) => (eq.getD i 0).toInt
  let old := fun (i : Nat) =>
    if i = 0 then (s.f (F.LANE_STAT_CTLE p j) : Int)
    else if i < 13 then signedOf 8 ((s.rd (R.LANE_TAP p j ((i - 1) / 4))).toNat / 256 ^ ((i - 1) % 4) % 256)
    else signedOf 8 ((s.rd (R.LANE_THR p j)).toNat / 256 ^ (i - 13) % 256)
  let near := fun (i d : Nat) => decide ((v i - old i).natAbs ≤ d)
  near 0 2 && decide (0 ≤ v 0) && decide (v 0 ≤ 15) &&
  near 1 16 && decide ((v 1).natAbs ≤ 96) &&
  (List.range 11).all (fun i => near (i + 2) 8 && decide ((v (i + 2)).natAbs ≤ 32)) &&
  [13, 15].all (fun i => near i 12 && decide (60 ≤ (v i).natAbs) && decide ((v i).natAbs ≤ 110)) &&
  near 14 12 && decide ((v 14).natAbs ≤ 20)

/-- A lane's shadow becomes its committed set. -/
def State.commitEq (s : State) (p j : Nat) (eq : List (BitVec 8)) : State :=
  let v := fun (i : Nat) => (eq.getD i 0).toNat
  let word := fun (k : Nat) => BitVec.ofNat 32 (v (4 * k + 1) + v (4 * k + 2) * 2 ^ 8 + v (4 * k + 3) * 2 ^ 16 + v (4 * k + 4) * 2 ^ 24)
  ((((s.setF (F.LANE_STAT_CTLE p j) (v 0 % 16)).wr (R.LANE_TAP p j 0) (word 0)).wr (R.LANE_TAP p j 1) (word 1)).wr (R.LANE_TAP p j 2) (word 2)).wr
    (R.LANE_THR p j) (BitVec.ofNat 32 (v 13 + v 14 * 2 ^ 8 + v 15 * 2 ^ 16))

/-- Errors that the verification of R151 allows, by rate code. -/
def verifyLimit (rate : Nat) : Nat := match rate with | 0 => 25 | 1 => 22 | 2 => 19 | _ => 12

/-- What a run's checks give: none where the far end's report is still to come; 0 committed, 1 limits broken, 2 residual
check failed. -/
def State.runResult (s : State) (t c : Nat) (f : BlkFound) : Option Nat :=
  if c / 4096 ≠ 0 then some (if !f.limits then 1 else if !f.residual then 2 else 0)
  else
    let p := 3 * t + c / 32
    if !f.limits || !s.shadowOk p (c % 32) f.eq then some 1
    else (Map.find (c % 32) (s.link p).verify).map (fun far =>
      let lim := verifyLimit (s.link p).mapRate
      if far.1 / 100000 < far.2 || lim < f.errs.toNat then 2 else 0)

/-- A lane that a run, or Detention, took out comes back by LANESET (R352); its run keeps the slot until then. -/
def State.restoreLane (s : State) (t : Nat) (r : BlkRun) : State :=
  let p := 3 * t + r.chan / 32
  let j := r.chan % 32
  let map := s.mapLanes p
  let again := fun (s : State) (v : Bool) => s.updBl t (fun b => { b with runs := b.runs.map (fun x =>
    if x.chan = r.chan then { x with phase := 2, again := v } else x) })
  if map.contains j || (s.barred p).testBit j || !s.linkUp p then s.dropRun t r.chan
  else if (s.link p).laneset.isSome then again s true
  else
    let pos := if decide (r.carrier = .laneS) && map.contains 16 then map.map (fun x => if x = 16 then j else x) else lanesOf (maskOf (j :: map))
    (again s false).startLaneset p (pos.take 16) (s.link p).mapRate none true

/-- How a lane returns after BLOCK_RELEASE: in lane S's place where S stands in the map and no other lane is out. -/
def State.releaseRun (s : State) (t : Nat) (r : BlkRun) : BlkRun :=
  let p := 3 * t + r.chan / 32
  let others := (List.range 16).any (fun j => j != r.chan % 32 && (s.barred p).testBit j)
  { r with carrier := if (s.mapLanes p).contains 16 && !others then .laneS else .narrow }

/-- The run `r` of channel `c` of tile `n` found `found`, with result `res`: the shadow is committed or discarded, and the channel
detained, returned to its map or left as it was (R349, R350, R352). -/
def State.runFound (s : State) (n c res : Nat) (r : BlkRun) (found : BlkFound) : State :=
  let lane := c / 4096 == 0
  let p := 3 * n + c / 32
  let wasOut := s.detained n c
  let fails := if res = 0 then 0 else if wasOut then 0 else Map.get 0 (s.bl n).fails c + 1
  let s1 := (s.setFs [(F.BLK_LAST_CHAN n, c), (F.BLK_LAST_RESULT n, res), (F.BLK_LAST_TRIGGER n, triggerOf r.prio)]).updLink p (fun l =>
    if lane then { l with verify := Map.del (c % 32) l.verify } else l)
  let s2 := if res = 0 then
      ((if lane then s1.commitEq p (c % 32) found.eq else s1).commitChan n c).bump (F.BLK_CNT_RUN n)
    else ((s1.updBl n (fun b => { b with fails := if wasOut then b.fails else Map.put c fails b.fails })).bump (F.BLK_CNT_REJ n)).note 0x7 .blockRejected 1 (chanTarget n c) c
  let s3 := (s2.recentre n c).blkNotify n c res (triggerOf r.prio) fails (s.bell - r.at_)
  let release := wasOut && res = 0
  let s4 := if release then s3.undetain n c else s3
  if fails = 3 then (s4.dropRun n c).detain n c
  else if lane && (release || decide (r.carrier ≠ .none)) then s4.restoreLane n (if release then s4.releaseRun n r else r)
  else (s4.dropRun n c).passBoundary n

/-- BLOCK_RUN_END (R342, R349, R350, R352): the shadow is committed at the channel's boundary or discarded. -/
def execBlockRunEnd (t : Tile) (chan : BitVec 16) (found : BlkFound) (s : State) : Host.Outcome State Fault Refusal :=
  .next (match (s.bl t).runs.find? (fun r => r.chan == chan.toNat && r.phase == 1), s.runResult t chan.toNat found with
    | some r, some res => s.runFound t chan.toNat res r found
    | _, _ => s)

/-- BLOCK_RUN_ABORT (R351): an event outside the run ends it. -/
def execBlockRunAbort (t : Tile) (chan : BitVec 16) (s : State) : Host.Outcome State Fault Refusal :=
  .next (s.abortRuns t.val (fun r => r.chan == chan.toNat && r.phase != 2))

/-- LANE_RUN_REFUSED (R353): a lane run whose LANESET the far end refused starts again when the port is clear; 16 refusals
in a row defer it. -/
def execLaneRunRefused (p : Port) (s : State) : Host.Outcome State Fault Refusal :=
  let q := p.val
  let t := q / 3
  match (s.bl t).runs.find? (fun r => r.slot == q % 3 && r.again) with
  | none => .next s
  | some r =>
    if r.phase = 2 then .next (s.restoreLane t r)
    else if 16 ≤ r.refused then .next ((s.dropRun t r.chan).deferLane t r.chan r.prio)
    else if (s.link q).laneset.isSome then .next s
    else match (s.dropRun t r.chan).startLane t { chan := r.chan, prio := r.prio, diff := 0, at_ := s.bell } with
      | none => .next s
      | some s1 => .next (s1.updBl t (fun b => { b with runs := b.runs.map (fun x => if x.chan = r.chan then { x with refused := r.refused } else x) }))

/-! ### Ageing (R359) -/

/-- The two tiles of the stack that a tile belongs to, or the corner tile itself (R240). -/
def stackTiles (t : Nat) : List Nat :=
  match tileRow t with
  | 0 => [t, t + 12]
  | 1 => [t - 12, t]
  | 2 => [t, t + 12]
  | _ => [t - 12, t]

/-- The eye openings of a port (R359): single lanes retired, or the port's rate lowered. -/
def State.ageEyes (s : State) (p : Nat) : State :=
  let l := s.link p
  let hour := fun (x : Option Nat) => match x with | some b => decide (b + 3600000000 ≤ s.bell) | none => false
  let med := match Map.find 31 l.eyes with | some x => x | none => (24, none)
  let bad := (l.eyes.filter (fun e => e.1 != 31 && e.2.1 < 16 && hour e.2.2)).map (·.1)
  let fresh := fun (s : State) => s.updLink p (fun l => { l with eyes := [] })
  if 24 ≤ med.1 then (match bad with | j :: _ => fresh (s.retireLane p j) | [] => s)
  else if !hour med.2 then s
  else if l.mapRate = 3 then fresh (s.each ((l.eyes.filter (fun e => e.1 != 31 && e.2.1 < 16)).map (·.1)) (fun s j => s.retireLane p j))
  else (fresh s).replanRate p

/-- AGEING_EVALUATION (R359): a measure is held against its threshold. -/
def execAgeingEvaluation (t : Tile) (m : AgeMeasure) (s : State) : Host.Outcome State Fault Refusal :=
  let n := t.val
  match m with
  | .laser c days => .next (if days.toNat ≤ 30 then s.note 0x7 .ageReplan 1 (tgtTile n) c.val else s)
  | .ring chan head =>
    let c := chan.toNat
    if 20 ≤ head.toNat || !chanOk c || 0x4000 ≤ c then .next s
    else if c / 4096 = 0 then .next (s.retireLane (3 * n + c / 32) (c % 32))
    else .next ((s.abortRuns n (fun r => r.chan == c)).detain n c)
  | .eye i => .next (s.ageEyes (3 * n + i.val))
  | .memory perHour =>
    if perHour.toNat ≤ 1000 || isReserve n then .next s
    else if s.f (F.MEM_STAT_TIER n) = 1 then
      let r := s.f (F.AGE_PLAN_LP_RATE n)
      .next (if r < 2 then s.replan n [(F.AGE_PLAN_LP_RATE n, r + 1), (F.AGE_PLAN_MEM_PENDING n, 1)] r else s)
    else .next (s.each (stackTiles n) (fun s u =>
      let r := s.f (F.AGE_PLAN_HBM_RATE u)
      if r < 2 then s.replan u [(F.AGE_PLAN_HBM_RATE u, r + 1), (F.AGE_PLAN_MEM_PENDING u, 1)] r else s))
  | .pilot worst =>
    if 120 < worst.toNat then .next (s.replan n [(F.AGE_PLAN_SPLIT3_OFF n, 1), (F.AGE_PLAN_SPLIT2_OFF n, 1)] worst.toNat)
    else if 80 < worst.toNat then .next (s.replan n [(F.AGE_PLAN_SPLIT3_OFF n, 1)] worst.toNat)
    else .next s

/-! ### Commands (R360) -/

/-- Is a channel's unit there to be run: its port UP, its OME working? -/
def State.chanThere (s : State) (t c : Nat) : Bool :=
  let st := s.f (F.OME_STAT_STATE t)
  match c / 4096 with
  | 0 => s.linkUp (3 * t + c / 32)
  | 1 => true
  | _ => st != 0 && st != 1 && st != 8

/-- Add a Blocking command. -/
def State.addBlkCmd (s : State) (t id chan : Nat) (left : List Nat) (release : Bool) : State :=
  s.updBl t (fun b => { b with cmds := b.cmds ++ [{ run := id, chan := chan, left := left, result := 0, release := release, at_ := s.bell }] })

/-- A command asks for a reference trace; one that runs already answers it. -/
def State.askTrace (s : State) (t id : Nat) : State :=
  (if (s.bl t).tracing then s else s.wantTrace t 0).updBl t (fun b => { b with traceRuns := b.traceRuns ++ [id] })

/-- BLOCK_RUN: a channel, every channel of the tile, or the trace, whose code is 0x4000 (R340, R341). -/
def blockRunDef : CmdDef where
  code := 0x0700
  len := fun _ => some 4
  kinds := [1]
  par := fun _ p _ => if p.w 0 = 0xFFFF || chanOk (p.w 0) then none else some 32
  resLen := fun _ _ => some 8
  pre := fun s p _ =>
    let c := p.w 0
    if c = 0xFFFF then none
    else if c = 0x4000 then (if s.b F.CLK_STAT_HOLDOVER then some (stState, 0) else none)
    else if !s.chanThere p.unit c then some (stState, 0)
    else if s.detained p.unit c then some (0x8701, 0) else none
  act := fun s p _ id =>
    let t := p.unit
    if p.w 0 = 0xFFFF then
      let l := allChans.filter (fun c => !s.detained t c && s.chanThere t c)
      .later ((s.each l (fun s c => s.queueChan t c 0 0)).addBlkCmd t id 0xFFFF l false)
    else if p.w 0 = 0x4000 then .later (s.askTrace t id)
    else .later ((s.queueChan t (p.w 0) 0 0).addBlkCmd t id (p.w 0) [p.w 0] false)

/-- BLOCK_RUN (R343, R354, R360). -/
def execBlockRun (p : Packet) (s : State) : Host.Outcome State Fault Refusal := .next (runCmd blockRunDef p s)

/-- BLOCK_TRACE. -/
def blockTraceDef : CmdDef where
  code := 0x0701
  kinds := [1]
  resLen := fun _ _ => some 8
  pre := fun s _ _ => if s.b F.CLK_STAT_HOLDOVER then some (stState, 0) else none
  act := fun s p _ id => .later (s.askTrace p.unit id)

/-- BLOCK_TRACE (R356, R357, R360). -/
def execBlockTrace (p : Packet) (s : State) : Host.Outcome State Fault Refusal := .next (runCmd blockTraceDef p s)

/-- BLOCK_RELEASE. -/
def blockReleaseDef : CmdDef where
  code := 0x0702
  len := fun _ => some 4
  kinds := [1]
  journaled := true
  par := fun _ p _ => if chanOk (p.w 0) then none else some 32
  pre := fun s p _ => if !s.detained p.unit (p.w 0) then some (stState, 0) else none
  act := fun s p _ id => .later ((s.queueChan p.unit (p.w 0) 0 0).addBlkCmd p.unit id (p.w 0) [p.w 0] true)

/-- BLOCK_RELEASE (R350, R360). -/
def execBlockRelease (p : Packet) (s : State) : Host.Outcome State Fault Refusal := .next (runCmd blockReleaseDef p s)

/-- BLK_CH_STAT of a channel. -/
def State.chanStat (s : State) (t c : Nat) : Nat :=
  if !chanOk c then 0xFFFFFFFF
  else
    let b := s.bl t
    let st := if s.detained t c then 4 else if b.runs.any (fun r => r.chan == c) then 3 else if b.queue.any (fun e => e.chan == c) then 2
      else if b.deferred.contains c then 5 else if s.current t c then 0 else 1
    let temp := match Map.find c b.temp with | some x => (x / 10).toNat % 256 | none => 0
    let age := match Map.find c b.done with | some a => min 0xFFFF ((s.bell - a) / 1000000) | none => 0xFFFF
    st + Map.get 0 b.fails c % 4 * 8 + temp * 2 ^ 8 + age * 2 ^ 16

/-- BLOCK_QUERY. -/
def blockQueryDef : CmdDef where
  code := 0x0703
  len := fun _ => some 4
  kinds := [1]
  par := fun _ p _ => if chanOk (p.w 0) then none else some 32
  resLen := fun _ _ => some 16
  act := fun s p _ _ => .now s stOk 0 (leBytes 4 (s.chanStat p.unit (p.w 0)) ++ leBytes 8 (Map.get 0 (s.bl p.unit).done (p.w 0)) ++ zeros 4) []

/-- BLOCK_QUERY (R360). -/
def execBlockQuery (p : Packet) (s : State) : Host.Outcome State Fault Refusal := .next (runCmd blockQueryDef p s)

/-- AGE_REPLAN_RESET. -/
def ageReplanResetDef : CmdDef where
  code := 0x0710
  len := fun _ => some 4
  kinds := [1]
  journaled := true
  par := fun _ p _ => if 31 < p.w 0 then some 32 else none
  zero := fun p => p.w 0 == 0
  act := fun s p _ _ =>
    let t := p.unit
    let b := fun (i : Nat) => (p.w 0).testBit i
    let rates := (List.range 3).foldl (fun v i => if b i then floorWith v i 0 else v) (s.f (F.AGE_PLAN_PORT_RATE t))
    let s1 := (s.setF (F.AGE_PLAN_PORT_RATE t) rates).setFs (if b 3 then [(F.AGE_PLAN_SPLIT3_OFF t, 0), (F.AGE_PLAN_SPLIT2_OFF t, 0)] else [])
    let cancel := fun (s : State) (u : Nat) =>
      let inForce := (s.bl u).memRate
      if s.b (F.AGE_PLAN_MEM_PENDING u) then
        s.setFs [(F.AGE_PLAN_HBM_RATE u, inForce.1), (F.AGE_PLAN_LP_RATE u, inForce.2), (F.AGE_PLAN_MEM_PENDING u, 0)]
      else s.setFs [(F.AGE_PLAN_HBM_RATE u, 0), (F.AGE_PLAN_LP_RATE u, 0), (F.AGE_PLAN_MEM_PENDING u, if inForce = (0, 0) then 0 else 1)]
    let s2 := if b 4 then (if s1.f (F.MEM_STAT_TIER t) = 1 || !isMemTile t then cancel s1 t else s1.each (stackTiles t) cancel) else s1
    .now s2 stOk 0 [] (paramChange p)

/-- AGE_REPLAN_RESET (R359, R360). -/
def execAgeReplanReset (p : Packet) (s : State) : Host.Outcome State Fault Refusal := .next (runCmd ageReplanResetDef p s)

/-- AGE_QUERY. -/
def ageQueryDef : CmdDef where
  code := 0x0711
  kinds := [1]
  resLen := fun _ _ => some 4
  act := fun s p _ _ => .now s stOk 0 (leBytes 4 (s.rd (R.AGE_PLAN p.unit)).toNat) []

/-- AGE_QUERY (R360). -/
def execAgeQuery (p : Packet) (s : State) : Host.Outcome State Fault Refusal := .next (runCmd ageQueryDef p s)

end Sys2Proof.Machine
end

