-- ==== Sys2Proof/Machine/SecOps.lean ====
section
/-! DEFINITION. Machine/SecOps.lean: signed objects and their check (R464, R465), the flash slots and the boot (R466), and the
identity key's leaves (R468). -/

namespace Sys2Proof.Machine

/-! ### Signed objects (R464) -/

def objType (o : List Byte) : Nat := leAt o 0 4
def objVer (o : List Byte) : Nat := leAt o 4 4
def objSerial (o : List Byte) : List Byte := fitBytes 16 ((o.drop 8).take 16)
def objVersion (o : List Byte) : Nat := leAt o 24 8
def objSvn (o : List Byte) : Nat := leAt o 32 1
def objKey (o : List Byte) : Nat := leAt o 33 1
def objBodyLen (o : List Byte) : Nat := leAt o 36 4
def objDigest (o : List Byte) : List Byte := fitBytes 32 ((o.drop 40).take 32)
def objBody (o : List Byte) : List Byte := (o.drop 5320).take (objBodyLen o)

/-- Bytes of the header of a signed object. -/
def objHeader : Nat := 5320

/-- The serial that IDENTIFY returns (R75). -/
def State.serial16 (s : State) : List Byte := fitBytes 16 s.ident.serial

/-- Fuse count (R467). -/
def State.svn (s : State) : Nat := s.f F.SEC_STAT_SVN

/-- Is a key revoked, or no key at all (R462)? -/
def State.keyBad (s : State) (k : Nat) : Bool := decide (1 < k) || (k == 0 && s.b F.SEC_STAT_KEY0_REVOKED)

/-- Checks 2 to 7 of R465 on an object of `len` bytes: the DETAIL of the first that fails. A command that takes the header
only has no body to check. -/
def State.objFault (s : State) (o : List Byte) (len type : Nat) (body : Bool) : Option Nat :=
  if len < objHeader + (if body then objBodyLen o else 0) || objVer o ≠ 1 then some 2
  else if s.keyBad (objKey o) then some 4
  else if !Config.signatureOk (objKey o) (o.take objHeader) then some 3
  else if !(decide (objSerial o = zeros 16) || decide (objSerial o = s.serial16)) || leAt o 72 4 ≠ 0x3142 || objType o ≠ type ||
      (type = 5 && objKey o ≠ 1) then some 8
  else if objSvn o < s.svn then some 5
  else if body && !decide (objDigest o = sha256 (objBody o)) then some 6
  else none

/-- A failed check with DETAIL 2 or above counts (R465): SEC_AUTH_CNT, and SEC_AUTH at 16 failures within 1 min (R402). -/
def State.authFail (s : State) : State :=
  let t : List Nat := s.bell :: s.sec.authFails.filter (fun b => decide (s.bell < b + 60000000))
  let s1 := (s.bump F.SEC_AUTH_CNT).updSec (fun x => { x with authFails := if 16 ≤ t.length then [] else t })
  if 16 ≤ t.length then s1.raiseMod 17 else s1

/-! ### Identity leaves (R468)

The two counts go to 2^30, and the registers show their low 30 bits (DESIGN CHOICE, log 147). -/

/-- SEC_LEAF_NEXT as a count. -/
def State.nextLeaf (s : State) : Nat := s.f F.SEC_LEAF_NEXT_LEAF + (if s.sec.nextEnd then 2 ^ 30 else 0)

/-- SEC_LEAF_RES as a count. -/
def State.resLeaf (s : State) : Nat := s.f F.SEC_LEAF_RES_LEAF + (if s.sec.resEnd then 2 ^ 30 else 0)

/-- Set SEC_LEAF_NEXT. -/
def State.setNextLeaf (s : State) (q : Nat) : State :=
  (s.setF F.SEC_LEAF_NEXT_LEAF (q % 2 ^ 30)).updSec (fun x => { x with nextEnd := decide (2 ^ 30 ≤ q) })

/-- Set SEC_LEAF_RES. -/
def State.setResLeaf (s : State) (q : Nat) : State :=
  (s.setF F.SEC_LEAF_RES_LEAF (q % 2 ^ 30)).updSec (fun x => { x with resEnd := decide (2 ^ 30 ≤ q) })

/-! ### Slots and boot (R466) -/

/-- State of a Proctor slot: 0 EMPTY, 1 VALID, 2 TRIAL, 3 BAD. -/
def State.slotState (s : State) (k : Nat) : Nat := if k = 0 then s.f F.SEC_STAT_A_STATE else s.f F.SEC_STAT_B_STATE

/-- Set a Proctor slot's state. -/
def State.setSlot (s : State) (k v : Nat) : State := if k = 0 then s.setF F.SEC_STAT_A_STATE v else s.setF F.SEC_STAT_B_STATE v

/-- The object in a slot, by kind and slot; none: the factory's. -/
def State.slotObj (s : State) (kind k : Nat) : Option (List Byte) := Map.find (kind * 2 + k) s.sec.slots

/-- The checks of R465 on the image in a Proctor slot. The factory's image carries SVN 0 and KEY0. -/
def State.slotFault (s : State) (k : Nat) : Option Nat :=
  match s.slotObj 1 k with
  | some o => s.objFault o o.length 1 true
  | none => if s.keyBad 0 then some 4 else if 0 < s.svn then some 5 else none

/-- Measurement of an image: the SHA-256 of header and body (R466); the factory's is not known. -/
def measure (kind : Nat) : Option (List Byte) → List Byte
  | some o => sha256 o
  | none => (List.range 32).map (fun i => Config.factoryDigest kind i)

/-- A Proctor image runs: SEC_FW_VER, BOOT_SRC, the leaves never used again (R468), and its TRIAL time. -/
def State.runImage (s : State) (o : Option (List Byte)) (src : Nat) (trial : Bool) : State :=
  let v := match o with | some o => objVersion o | none => 0
  let s1 := (((s.setF F.SEC_FW_VER_LO (v % 2 ^ 32)).setF F.SEC_FW_VER_HI (v / 2 ^ 32)).setF F.SEC_STAT_BOOT_SRC src).setNextLeaf s.resLeaf
  s1.updSec (fun x => { x with image := o.getD [], recovery := false,
                               trialAt := if trial then some (x.trialAt.getD s.bell) else none })

/-- Try the slots in order: a slot EMPTY or BAD is passed over, one whose image fails the check is marked BAD (R466). True
where one runs. -/
def State.bootSlots (s : State) : List (Nat × Nat) → State × Bool
  | [] => (s, false)
  | (k, src) :: rest =>
    let st := s.slotState k
    if st ≠ 1 && st ≠ 2 then s.bootSlots rest
    else match s.slotFault k with
      | some _ => (((s.setSlot k 3).authFail).updSec (fun x => { x with badDue := x.badDue ++ [k] })).bootSlots rest
      | none => (s.runImage (s.slotObj 1 k) src (st == 2), true)

/-- The boot by STRAP_BOOT (R466), with the image that the chain head offers; chain recovery where nothing runs. -/
def State.boot (s : State) (chain : List Byte) : State × Bool :=
  let a := s.f F.SEC_STAT_ACTIVE
  let r := match s.f F.STRAP_STAT_BOOT with
    | 0 => s.bootSlots [(a, 0), (1 - a, 1)]
    | 1 => s.bootSlots [(1 - a, 1), (a, 0)]
    | 2 => match s.objFault chain chain.length 1 true with
      | none => (s.runImage (some chain) 2 false, true)
      | some _ => (s.authFail, false)
    | _ => s.bootSlots [(a, 3)]
  if r.2 then r else (r.1.updSec (fun x => { x with recovery := true }), false)

/-- Take the next leaf, reserving 1,024 more in flash where it is not reserved yet: the leaf; none where the key is
exhausted (R468). -/
def State.takeLeaf (s : State) : Option Nat × State :=
  let q := s.nextLeaf
  if 2 ^ 30 ≤ q then (none, s)
  else (some q, (if s.resLeaf ≤ q then s.setResLeaf (q + 1024) else s).setNextLeaf (q + 1))

end Sys2Proof.Machine
end

