-- ==== Sys2Proof/Machine/Clocks.lean ====
section
/-! DEFINITION. Machine/Clocks.lean: references, straps, module resets and the start sequence (R361 to R375), and the power
states of tiles and module (R376 to R386). -/

namespace Sys2Proof.Machine

/-! ### Host queues and ports as resets use them (R63, R374) -/

/-- EN written 0 on a host queue (R63): no new packet; started commands run to completion and their replies are discarded: the
queue drains, or is DISABLED at once where none runs. -/
def State.disableQueue (s : State) (q : Nat) : State :=
  let mine := Path.host (Fin.ofNat 16 q)
  let s1 := ((s.setF (F.Q_CTL_EN q) 0).updQu q (fun u => { u with held := [] })).updPr (fun pr => { pr with
    doorbells := pr.doorbells.filter (fun d => d.1 != q), replies := pr.replies.filter (fun r => !decide (r.1 = mine)) })
  if s1.f (F.Q_STAT_STATE q) = 0 then s1
  else s1.setFs [(F.Q_STAT_STATE q, if s1.outstanding mine then 3 else 0), (F.Q_STAT_CQ_FULL q, 0)]

/-- A host port leaves the trained state (R374): its queues end as EN written 0, and CXLn_DOWN asserts. -/
def State.hostPortDown (s : State) (n : Nat) : State :=
  let was := s.b (F.CXL_PHY_STAT_LINK_UP n)
  let s1 := s.setFs [(F.CXL_PHY_STAT_LINK_UP n, 0), (F.CXL_PHY_STAT_RATE n, 0), (F.CXL_PHY_STAT_WIDTH n, 0),
    (F.CXL_PHY_STAT_L0P_WIDTH n, 0), (F.CXL_PHY_STAT_MEM_EN n, 0), (F.CXL_PHY_STAT_DEGRADED n, 0)]
  let s2 := s1.each ((List.range 16).filter (fun q => s1.f (F.Q_CTL_PORT q) == n)) State.disableQueue
  if was then s2.raiseMod (8 + n) 0 true else s2

/-! ### What a module reset restores and loses (R13, R368, R385) -/

/-- The registers whose values the change journal holds, where they differ from their defaults: engine duties, Substitutes and
fenced Brim links (R31, R209, R372 step 7). -/
def State.journaled (s : State) : List (Nat × Word) :=
  let keep := allTiles.flatMap (fun t => [R.SUB_MAP t, R.TILE_ROLE t] ++
    (List.range 2).filterMap (fun e => if s.f (F.BRIM_STAT_STATE t e) = 3 then some (R.BRIM_STAT t e) else none))
  (keep.filter (fun o => !decide (s.rd o = regDefault o))).map (fun o => (o, s.rd o))

/-- The defaults that the table gives as "Strap" (R14, R367): the clock master, the home role, the reference offset. -/
def State.strapDefaults (s : State) : State :=
  (s.setFs [(F.CLK_STAT_MASTER, s.f F.STRAP_STAT_CLKM), (F.TWIN_STAT_HOME, if s.f F.STRAP_STAT_TWIN = 3 then 0 else s.f F.STRAP_STAT_TWIN)]).each
    allTiles (fun s t => s.setF (F.GRID_STAT_GRID_OFS t) (s.f F.STRAP_STAT_GRID))

/-- Registers of the reset classes return to default (R13, R14). What the journal holds, TILE_ROLE whatever its class, reads
default until the Proctor rebuilds it (R31). -/
def State.wipe (s : State) (classes : Cls → Bool) : State :=
  let saved := if s.clocks.reapply.isEmpty then s.journaled else s.clocks.reapply
  let s1 := (s.resetRegs (fun _ r => classes r.cls)).each allTiles (fun s t => s.wr (R.TILE_ROLE t) (regDefault (R.TILE_ROLE t)))
  s1.strapDefaults.updClk (fun c => { c with reapply := saved })

/-- The Proctor rebuilds what the change journal holds, before any command queue opens (R31, R209, R372). -/
def State.rebuildRoles (s : State) : State :=
  (s.each s.clocks.reapply (fun s e => s.wr e.1 e.2)).updClk (fun c => { c with reapply := [] })

/-- The memory rates planned take effect (R359). -/
def State.commitRates (s : State) : State :=
  s.each allTiles (fun s t => (s.setF (F.AGE_PLAN_MEM_PENDING t) 0).updBl t (fun b => { b with
    memRate := (s.f (F.AGE_PLAN_HBM_RATE t), s.f (F.AGE_PLAN_LP_RATE t)) }))

/-- Packets, links, streams, jobs, collectives and engine state are lost at every module reset; Detention, retirement and
commissioned values stay; committed calibration stays unless `cold` (R385). -/
def State.dropWork (s : State) (cold : Bool) : State :=
  let blk : List (Nat × Blk) := s.blk.map (fun (e : Nat × Blk) =>
    let b : Blk := { detained := e.2.detained, fails := e.2.fails, avg := e.2.avg, memRate := e.2.memRate,
                     temp := if cold then [] else e.2.temp, done := if cold then [] else e.2.done }
    (e.1, b))
  let clocks : Clocks := { s.clocks with standby := false, wakeOrder := [], entering := [], wake := [], sleep := [], exitAt := [], wantD2 := [], powerRuns := [] }
  let twin : Twin := { identity := s.twin.identity, gangNext := s.twin.gangNext, gangLeader := s.twin.gangLeader }
  let power : Power := { feedLost := s.power.feedLost, breakers := s.power.breakers, convFail := s.power.convFail }
  let sec : Sec := { s.sec with writing := none, waiting := [], switch := none, update := [] }
  -- the failed unfence tests of a link count until a cold reset (R210)
  let brim : List (Nat × Brim) := if cold then [] else
    (s.brim.map (fun (e : Nat × Brim) => (e.1, ({ failTimes := e.2.failTimes } : Brim)))).filter (fun e => !e.2.failTimes.isEmpty)
  -- registers lie below this offset; above it stands what the sublinks' link layers hold (R450)
  let regs : List (Nat × Word) := s.regs.filter (fun e => decide (e.1 < portBase 144))
  let s1 : State := { s with regs := regs, latch := [], queues := [], proctor := { nextId := s.proctor.nextId }, links := [], streams := {}, work := {},
                             crown := [], brim := brim, photo := [], site := [], tests := [], therm := [],
                             blk := blk.filter (fun e => !decide (e.2 = {})), clocks := clocks, twin := twin, power := power, sec := sec,
                             report := { s.report with condensing := false, condRuns := [] },
                             journal := { s.journal with waiting := s.journal.waiting.map (fun w => { w with reply := none }) } }
  (s1.each (List.range 16) (fun s q => (s.setF (F.Q_CTL_EN q) 0).wr (R.Q_STAT q) 0)).setFs
    [(F.Q_GLOBAL_PROCTOR_READY, 0), (F.Q_GLOBAL_SWITCHOVER, 0)]

/-- DRAM, FAM and regions are lost (R259); retired frames stay retired, and marked ones become so. -/
def State.dropPool (s : State) : State :=
  let used := s.pool.used.filter (fun (e : Nat × FrameUse) => decide (e.2 = .retired))
  let pool : Pool := { used := s.pool.marked.foldl (fun u k => Map.put k .retired u) used, nextMig := s.pool.nextMig }
  { s with dram := [], pool := pool }

/-- OME staging carve-outs as MEM_CFG.OME_FRAMES asks (R242, R243). -/
def State.carveOut (s : State) : State :=
  let l := (allTiles.filter (fun t => isMemTile t && s.f (F.MEM_CFG_OME_FRAMES t) != 256)).map (fun t => (t, s.f (F.MEM_CFG_OME_FRAMES t)))
  s.updPool (fun p => { p with omeFrames := l })

/-- STRAP_SAFE: every source whose default is CONTAIN defaults to SAFE (R367, R403). -/
def State.strapSafe (s : State) : State :=
  if !s.b F.STRAP_STAT_SAFE then s
  else
    let s1 := s.each allTiles (fun s t => s.each ((List.range 44).filter (fun k => s.f (F.FSEV_SEV t k) == 2)) (fun s k => s.setF (F.FSEV_SEV t k) 3))
    s1.each ((List.range 21).filter (fun k => s1.f (F.MFSEV_SEV k) == 2)) (fun s k => s.setF (F.MFSEV_SEV k) 3)

/-- The Report Card at a loss of DRAM: what flash does not hold is lost (R419). -/
def State.dropLog (s : State) : State :=
  { s with report := { s.report with live := [], island := [], buckets := [], condensed := [] } }

/-- A cold reset begins (R370): RST_CAUSE.KIND 1 or 2. A reset by command condenses first (R419). -/
def State.coldReset (s : State) (kind origin : Nat) : State :=
  let s0 := if kind = 2 then s.condenseAll else s
  let cls : Cls → Bool := fun c => decide (c = .C) || decide (c = .W) || decide (c = .T) || decide (c = .K)
  let s1 := (((((s0.dropWork true).wipe cls).dropPool).dropLog).strapSafe)
  let s2 : State := { s1 with crownMap := {}, faults := {} }
  let s3 := if s.b F.MFSTATE_FAULT_N then s2.emit (.faultN false) else s2
  (((s3.setFs [(F.RST_CAUSE_KIND, kind), (F.RST_CAUSE_ORIGIN, origin)]).bump F.RST_CNT_COLD).updClk (fun c => { c with
    phase := 1, warm := false, resetDue := none })).syncRc

/-- A warm reset begins (R371): KIND 3 or 4. DRAM waits in self-refresh; a scope in REACT counts as SAFE, and one in EXIT
returns to NORMAL with its recovery counted (R413); CONTAIN fences are lifted with every tile's reset (R404). -/
def State.warmReset (s : State) (kind origin : Nat) : State :=
  let s0 := s.condenseAll
  let cls : Cls → Bool := fun c => decide (c = .W) || decide (c = .T) || decide (c = .K)
  let s1 := (s0.dropWork false).wipe cls
  let scope := fun (s : State) (st cnt : Fld) =>
    if s.f st = 1 then s.setF st 2 else if s.f st = 3 then (s.setF st 0).bump cnt else s
  let s2 := scope (s1.each allTiles (fun s t => scope s (F.FSTATE_STATE t) (F.FSTATE_RECOV_CNT t))) F.MFSTATE_STATE F.MFSTATE_RECOV_CNT
  let s3 := (s2.each allTiles (fun s t => (s.setF (F.FSTATE_FENCED t) 0).leaveTest t)).setF F.MFSTATE_FENCED 0
  let s4 : State := { s3 with faults := { s3.faults with fences := [], quiet := (Map.keys s3.faults.quiet).map (fun k => (k, s3.bell)) }, crownMap := { s3.crownMap with asleep := [] } }
  ((s4.setFs [(F.RST_CAUSE_KIND, kind), (F.RST_CAUSE_ORIGIN, origin)]).bump F.RST_CNT_WARM).updClk (fun c => { c with
    phase := 1, warm := true, resetDue := none })

/-- Power is applied (R369 steps 1 to 3), or has been lost: only what non-volatile storage holds stays. -/
def State.powerOn (s : State) : State :=
  let cls : Cls → Bool := fun c => !decide (c = .N)
  let s1 := ((((s.dropWork true).wipe cls).dropPool).dropLog)
  let clocks : Clocks := { ovLatch := s.clocks.ovLatch, reapply := s1.clocks.reapply }
  let blk : List (Nat × Blk) := (s1.blk.map (fun (e : Nat × Blk) => (e.1, { e.2 with avg := 0 }))).filter (fun e => !decide (e.2 = {}))
  let s2 : State := { s1 with bell := 0, crownMap := {}, faults := {}, clocks := clocks, refmon := none, blk := blk,
                              journal := { s1.journal with waiting := [] },
                              power := {},
                              sec := { s1.sec with recovery := false, authFails := [], signed := [], trialAt := none, tileMeas := [], badDue := [] } }
  (s2.setB F.PWR_EVT_OV_TRIP s2.clocks.ovLatch).syncRc

/-! ### The start sequence (R369 to R371) -/

/-- The region table is rebuilt after a warm reset (R534): frees in progress complete, an allocation is kept only where its
entries had all been written, migrations end, and a region stays only where every entry of its run is LOCAL and names it. -/
def State.rebuildPool (s : State) : State :=
  let s1 := s.each s.pool.migs State.abortMig
  let s2 := s1.each s1.pool.invals (fun s i => s.invalDone { i with run := none })
  let s3 := s2.updPool (fun p => { p with invals := [], zeroing := [], held := [], migs := [], cache := [] })
  let live := s3.pool.regions.filterMap (fun (e : Nat × RegionSlot) => e.2.live.map (fun r => (e.1, r)))
  let s4 := if s3.b F.GANG_STAT_EN then s3 else s3.updPool (fun p => { p with fam := p.fam.filter (fun e => !decide (e.2.kind = .remote)) })
  s4.each live (fun s e =>
    let n := e.1
    let r := e.2
    let mine := fun (i : Nat) => decide ((s.famEntry i).kind = .local_) && (s.famEntry i).region == s.regionHandle n
    if r.indexes.all mine then s
    else
      let s1 := s.each (r.indexes.filter mine) (fun s i => s.setFam i {})
      let frames := (s1.pool.used.filter (fun (e : Nat × FrameUse) => decide (e.2 = .region n))).map (·.1)
      (s1.each frames (fun s k => s.releaseFrame (k / 2 ^ 17) (k % 2 ^ 17))).updPool (fun p => { p with
        regions := Map.upd ({} : RegionSlot) p.regions n (fun x => { gen := (x.gen + 1) % 0x10000, live := none }) }))

/-- Step 7 of R369: steppings against the manifest. A mismatch is shown and SET_MISMATCH asserts (R486). -/
def State.checkSteppings (s : State) : State :=
  let bad := allTiles.filter (fun t => Map.get 0 s.ident.steppings t != 0)
  let mask := fun (l : List Nat) (lo : Nat) => (l.filter (fun t => decide (lo ≤ t) && decide (t < lo + 32))).foldl (fun n t => n + 2 ^ (t - lo)) 0
  let s1 := (s.wr R.MOD_MISMATCH_LO (BitVec.ofNat 32 (mask bad 0))).wr R.MOD_MISMATCH_HI (BitVec.ofNat 32 (mask bad 32))
  if bad.isEmpty then s1 else s1.raiseMod 16

/-- Twin and gang roles at a start (R421, R427, R447): the home role by strap; solo, or pairing; the gang configured for the
next warm reset. -/
def State.startRoles (s : State) : State :=
  let home := if s.f F.STRAP_STAT_TWIN = 3 then 0 else s.f F.STRAP_STAT_TWIN
  let s1 := ((s.setFs [(F.TWIN_STAT_HOME, home), (F.TWIN_STAT_CAUSE, 0), (F.TWIN_STAT_PATH_PORT, 0), (F.TWIN_STAT_PATH_CHAIN, 0),
    (F.TWIN_STAT_PARTNER_MCH, 0), (F.TWIN_PARTNER_NODE, 0), (F.TWIN_MIRROR_N, 0), (F.TWIN_RESYNC_N, 0)]).setTwin (if home = 0 then 0 else 1))
  match s1.twin.gangNext with
  | some (en, member, count, leader) =>
    if s1.clocks.warm then
      (s1.setFs [(F.GANG_STAT_EN, if en then 1 else 0), (F.GANG_STAT_MEMBER, member), (F.GANG_STAT_COUNT, count - 1),
        (F.GANG_STAT_PRESENT, if en then 2 ^ member else 0)]) |> fun s => { s with twin := { s.twin with gangNext := none, gangLeader := if en then leader else 0 } }
    else { s1 with twin := { s1.twin with gangNext := none } }
  | none => s1

/-- Steps 7 to 9 of R369 once firmware runs and the package PLL is locked; a warm reset runs step 9 and rebuilds the pool
(R371). The ports then send beacons until they train. -/
def State.coreStart (s : State) : State :=
  let warm := s.clocks.warm
  let s1 := if warm then s else ((s.checkSteppings.carveOut).setCopies true true).setF F.PWR_CTL_CAP_W s.maxInput
  let s2 := s1.rebuildRoles.syncFeeds.commitRates.startRoles
  let bad := fun (t : Nat) => if t < 32 then s2.bit R.MOD_MISMATCH_LO t else s2.bit R.MOD_MISMATCH_HI (t - 32)
  let s3 := s2.each allTiles (fun s t =>
    if bad t then s.setF (F.TILE_PWR_STAT_STATE t) 5
    else
      let s1 := if s.standAlone then s.setF (F.TILE_TEST_STAT_STATE t) 2 else s
      (s1.startTile t).setFs [(F.TILE_RST_CAUSE_LAST t, 0), (F.TILE_PWR_STAT_STATE t, 0)])
  let s4 := if warm then s3.rebuildPool else s3
  ((((s4.siteStart 0).siteStart 1).updClk (fun c => { c with phase := 3 })).adoptFree).syncFaultN

/-- POWER_ON (R368, R369): VIN rises through 50 V; which blades are at 48 V or above. -/
def execPowerOn (a b : Bool) (s : State) : Host.Outcome State Fault Refusal :=
  .next (((s.powerOn.updClk (fun c => { c with ovLatch := false })).updPow (fun p => { p with
    feedLost := (if a then [] else [0]) ++ (if b then [] else [1]) })).emit (.modPwrok true))

/-- STRAP_SAMPLE (R367): the straps of R367 in the order of STRAP_STAT. -/
def execStrapSample (straps : BitVec 8) (s : State) : Host.Outcome State Fault Refusal :=
  if s.clocks.phase ≠ 0 || s.clocks.off then .next s
  else
    let s1 := (s.wr R.STRAP_STAT (straps.setWidth 32))
    let s2 := (s1.strapDefaults.strapSafe).updClk (fun c => { c with phase := 1, warm := false })
    .next (if s2.f F.STRAP_STAT_TWIN = 3 then s2.note 0x1 .strapTwin 2 tgtModule else s2)

/-- BOOT_LOAD (R369 step 6, R466): the Proctor image is loaded; the strap entries are journaled at a power-on (R79); the
start goes on where the PLL is locked. -/
def execBootLoad (chain : List Byte) (s : State) : Host.Outcome State Fault Refusal :=
  if s.clocks.phase ≠ 1 || s.clocks.mresetLow || s.clocks.tripped then .next s
  else match s.boot chain with
  | (s1, false) => .next s1
  | (s1, true) =>
    let s2 := if s1.clocks.strapsLogged then s1
      else (s1.journalise 0x7 0xFFFE 0 [{ target := 0, offset := R.STRAP_STAT, old := none, new := some (leBytes 4 (s1.rd R.STRAP_STAT).toNat) }]
        none {}).updClk (fun c => { c with strapsLogged := true })
    let s3 := s2.updClk (fun c => { c with phase := 2 })
    .next (if s3.b F.CLK_STAT_PLL_LOCK then s3.coreStart else s3)

/-- PROCTOR_READY (R369 step 10): the primary CXL port is trained and the Proctor takes packets; slots that the boot marked
BAD are recorded (R466). -/
def execProctorReady (s : State) : Host.Outcome State Fault Refusal :=
  if s.clocks.phase ≠ 3 || !s.b (F.CXL_PHY_STAT_LINK_UP (s.f F.STRAP_STAT_CXLP)) then .next s
  else
    let s1 := (s.setB F.Q_GLOBAL_PROCTOR_READY true).updClk (fun c => { c with phase := 4, warm := false })
    let s2 := s1.each s1.sec.badDue (fun s k => s.note 0x9 .bootFail 3 tgtModule k)
    .next (({ s2 with twin := { s2.twin with readyAt := some s2.bell } }).updSec (fun x => { x with badDue := [] }))

/-- MRESET_N_LOW (R368, R369): a cold reset from step 5, held until MRESET_N rises; before the straps are sampled the pin
only holds the start. -/
def execMresetNLow (s : State) : Host.Outcome State Fault Refusal :=
  if s.clocks.phase = 0 || s.clocks.tripped then .next s
  else .next ((s.coldReset 1 0).updClk (fun c => { c with mresetLow := true }))

/-- Does a reset that a command asked for still wait: for its reply's journal entry (R370), or for the partner's answer to
RELEASE, at most 1 ms (R434)? -/
def State.resetWaits (s : State) : Bool :=
  s.journal.waiting.any (fun w => w.opcode == 0x120 && w.reply.isSome) ||
  ((s.twinState == 4 || s.twinState == 5) && s.paired &&
    (match s.twin.resetAfter with | some b => decide (s.bell < b) | none => true))

/-- COLD_RESET (R370): the cold reset that a RESET command asked for, or the rise of MRESET_N. -/
def execColdReset (s : State) : Host.Outcome State Fault Refusal :=
  if s.clocks.tripped then .next s
  else if s.clocks.mresetLow then .next (s.updClk (fun c => { c with mresetLow := false }))
  else match s.clocks.resetDue with
  | some (2, o) => .next (if s.resetWaits then s else s.coldReset 2 o)
  | _ => .next s

/-- WARM_RESET (R371): the warm reset that a RESET command or the escalation of PROCTOR_WDT asked for. -/
def execWarmReset (s : State) : Host.Outcome State Fault Refusal :=
  match s.clocks.resetDue with
  | some (k, o) => .next (if k < 3 || s.clocks.tripped || s.resetWaits then s else s.warmReset k o)
  | none => .next s

/-! ### References (R361 to R366) -/

/-- REFCLK_LOSS (R363). -/
def execRefclkLoss (s : State) : Host.Outcome State Fault Refusal :=
  if s.b F.CLK_STAT_HOLDOVER || !s.b F.CLK_STAT_PLL_LOCK then
    .next (s.setFs [(F.CLK_STAT_REF_T00, 0), (F.CLK_STAT_REF_T47, 0)])
  else
    let s1 := (s.setFs [(F.CLK_STAT_REF_T00, 0), (F.CLK_STAT_REF_T47, 0), (F.CLK_STAT_PLL_LOCK, 0), (F.CLK_STAT_HOLDOVER, 1),
      (F.CLK_STAT_BELL_OSC, 1)]).bump F.CLK_STAT_LOSS_CNT
    let s2 := (s1.each allTiles (fun s t => s.setF (F.BLK_STAT_TRACE_OK t) 0)).updClk (fun c => { c with refLostAt := some s.bell })
    .next ((s2.note 0x1 .refclkLoss 2 tgtModule).raiseMod 2 0 true)

/-- REFCLK_RETURN (R361, R363): edges at the pin pairs of T00 and T47; the PLL locks to the clock master's, and a start that
waited goes on (R369). -/
def execRefclkReturn (t00 t47 : Bool) (s : State) : Host.Outcome State Fault Refusal :=
  let s1 := s.setFs [(F.CLK_STAT_REF_T00, if t00 then 1 else 0), (F.CLK_STAT_REF_T47, if t47 then 1 else 0)]
  if !(if s1.clockMaster = 0 then t00 else t47) || s1.clocks.phase = 0 then .next s1
  else
    let s2 := ((s1.setFs [(F.CLK_STAT_PLL_LOCK, 1), (F.CLK_STAT_HOLDOVER, 0), (F.CLK_STAT_BELL_OSC, 0)]).fallMod 2).updClk
      (fun c => { c with refLostAt := none })
    .next (if s2.clocks.phase = 2 then s2.coreStart else s2)

/-- CDC_TIMEOUT (R365). -/
def execCdcTimeout (t : Tile) (s : State) : Host.Outcome State Fault Refusal :=
  .next ((s.bump (F.TILE_CDC_TMO_COUNT t.val)).assertTile t.val 2)

/-! ### RESET (R368, R386) -/

/-- RESET (R386). -/
def resetDef : CmdDef where
  code := 0x0120
  len := fun _ => some 4
  kinds := [0, 1, 2]
  journaled := true
  par := fun _ p _ =>
    let k := p.w 0
    if (k ≤ 1 && p.kind == 0) || (k == 2 && p.kind == 1) || (k == 3 && p.kind == 2) then none else some 32
  pre := fun s p _ =>
    if p.kind = 1 && p.unit == s.clockMaster then some (stState, 0)
    else if p.kind = 1 && (s.pwr p.unit == 5 || (s.resetRun 1 p.unit).isSome) then some (stBusy, 0)
    else if p.kind = 2 && (s.resetRun 2 p.unit).isSome then some (stBusy, 0)
    else if p.kind = 0 && s.clocks.resetDue.isSome then some (stBusy, 0)
    else none
  act := fun s p o _ =>
    match p.kind with
    | 0 => .now (s.updClk (fun c => { c with resetDue := some (if p.w 0 = 0 then 3 else 2, originCode o) })) stOk 0 [] (paramChange p)
    | 1 => .later (s.setF (F.TILE_PWR_STAT_STATE p.unit) 5)
    | _ => .later s

def execReset (p : Packet) (s : State) : Host.Outcome State Fault Refusal := .next (runCmd resetDef p s)

/-! ### Power states of a tile (R376 to R384) -/

/-- Is the port's exchange quiet in both directions (R379 rule 1)? -/
def State.settledPort (s : State) (p : Nat) : Bool := (s.link p).unacked.isEmpty && (s.link p).txq.isEmpty && !s.ackDue p

/-- Send DOZE on each UP port whose exchange is quiet. -/
def State.sendDoze (s : State) (t : Nat) : State :=
  s.each (portsOf t) (fun s p =>
    if s.linkUp p && !(s.link p).dozeSent && s.settledPort p then (s.updLink p (fun l => { l with dozeSent := true })).enqueue p [lctlFlit [6]]
    else s)

/-- Send AWAKE on each port that has sent DOZE (R378, R379 rule 5). -/
def State.sendAwake (s : State) (t : Nat) : State :=
  s.each (portsOf t) (fun s p =>
    if (s.link p).dozeSent then
      (s.updLink p (fun l => { l with dozeSent := false, dozeAcked := false, txQuiet := false })).enqueue p [lctlFlit [7]]
    else s)

/-- What keeps a tile out of D1 now, as BLOCK shows it (R378); 0: nothing. -/
def State.d1Block (s : State) (t : Nat) : Nat :=
  if (s.ome t).work.isSome then 1
  else if s.pool.migs.any (fun m => m.todo.any (fun f => f.srcTile == t || f.dstTile == t)) then 2
  else if !(s.bl t).runs.isEmpty || (s.bl t).tracing then 3
  else if (portsOf t).any (fun p => s.linkUp p && !(s.link p).dozeAcked) then 5
  else 0

/-- The tile whose replay spill a tile holds beside its own (R175). -/
def spillOf (t : Nat) : Option Nat :=
  match t with
  | 1 => some 0 | 10 => some 11 | 13 => some 12 | 22 => some 23 | 25 => some 24 | 34 => some 35 | 37 => some 36 | 46 => some 47
  | _ => none

/-- Is a tile excluded from D2, or busy, as BLOCK shows it (R381)? 0: no. -/
def State.d2Block (s : State) (t : Nat) : Nat :=
  let spill := match spillOf t with | some u => (portsOf u).any s.linkUp | none => false
  let site := match sublinkOf t with
    | some k => s.linkUp (240 + k)
    | none => false
  if t = s.clockMaster || (t = 0 && s.b (F.CXL_PHY_STAT_LINK_UP 0)) || (t = 47 && s.b (F.CXL_PHY_STAT_LINK_UP 1)) || t = 1 || t = 25 || spill || site
  then 4
  else if s.work.jobs.any (fun j => j.live && j.shares.any (fun sh => sh.tile == t || s.server sh.tile == some t)) ||
      s.work.ctxs.any (fun c => match c.2.group with | some g => g.cur.isSome && g.mask.testBit t | none => false) then 1
  else if s.pool.migs.any (fun m => m.todo.any (fun f => f.srcTile == t || f.dstTile == t)) ||
      s.work.sets.any (fun x => x.2.live && !x.2.ready && x.2.mask.testBit t) then 2
  else 0

/-- End the PWR_TILE_MODE commands of a tile: OK with the change of TILE_PWR_CTL, or ERR_STATE with the BLOCK code and MODE
put back. -/
def State.endPowerRuns (s : State) (t : Nat) (block : Nat) : State :=
  let mine := s.clocks.powerRuns.filter (fun e => e.1 == t)
  let s1 := s.updClk (fun c => { c with powerRuns := c.powerRuns.filter (fun e => e.1 != t) })
  s1.each mine (fun s e =>
    let now := s.rd (R.TILE_PWR_CTL t)
    let old := (F.TILE_PWR_CTL_MODE t).ins now e.2.2
    if block = 0 then s.finish e.2.1 stOk 0 [] (if old = now then [] else [({ regChange (R.TILE_PWR_CTL t) old now with target := tgtTile t } : JChange)])
    else (s.setF (F.TILE_PWR_CTL_MODE t) e.2.2).finish e.2.1 stState block)

/-- A tile has reached D1 (2) or D2 (3): its sleep bit, then its Crown stops (R204), and a wake that came during the entry (R384). -/
def State.asleepNow (s : State) (t mode : Nat) : State :=
  let woken := s.clocks.wake.contains t
  let s1 := ((((s.setF (F.TILE_PWR_STAT_STATE t) mode).setAsleep t true).setF (F.CROWN_STAT_STATE t) 0).updClk (fun c => { c with
    entering := Map.del t c.entering, wake := c.wake.filter (fun x => x != t), sleep := Map.put t mode c.sleep }))
  let s2 := if s1.f (F.TILE_PWR_CTL_MODE t) = mode then s1.endPowerRuns t 0 else s1
  if woken then s2.requestWake t else s2

/-- An entry is given up: AWAKE on the dozed ports, BLOCK shows the cause, the tile is back in A0. -/
def State.abandon (s : State) (t block : Nat) : State :=
  let s1 := (s.sendAwake t).setFs [(F.TILE_PWR_STAT_STATE t, 0), (F.TILE_PWR_STAT_BLOCK t, block)]
  let s2 := s1.updClk (fun c => { c with entering := Map.del t c.entering, wake := c.wake.filter (fun x => x != t) })
  (s2.updOme t (fun o => { o with dozeReq := false })).endPowerRuns t block

/-- A tile enters D1 (R376): combs reduced, rings in HOLD, OME in DOZE, memory in self-refresh, dozed ports in A1. -/
def State.enterD1 (s : State) (t : Nat) : State :=
  let s1 := s.each (List.range 8) (fun s c =>
    if s.f (F.LAS_STAT_STATE t c) = 2 then
      let v := s.f (F.LAS_BIAS_BIAS t c)
      (s.setFs [(F.LAS_STAT_STATE t c, 3), (F.LAS_BIAS_BIAS t c, v * 30 / 100)]).updPh t (fun p => { p with service := Map.put c v p.service })
    else s)
  let hold := fun (r : RingState) => if r = .locked then RingState.hold else r
  let s2 := s1.updPh t (fun p => { p with ringBase := hold p.ringBase, rings := p.rings.map (fun e => (e.1, hold e.2)) })
  let s3 := if s2.f (F.OME_STAT_STATE t) = 3 then s2.setF (F.OME_STAT_STATE t) 7 else s2
  let s4 := if s3.f (F.MEM_STAT_STATE t) = 2 then s3.setF (F.MEM_STAT_STATE t) 3 else s3
  let s5 := s4.each (portsOf t) (fun s p => if s.linkUp p then s.updLink p (fun l => { l with txQuiet := true }) else s)
  s5.asleepNow t 2

/-- D1_ENTRY (R378, R379): DOZE goes out on the quiet ports, and the entry completes once nothing keeps it. -/
def execD1Entry (t : Tile) (s : State) : Host.Outcome State Fault Refusal :=
  let n := t.val
  if s.pwr n ≠ 1 || Map.get 0 s.clocks.entering n ≠ 2 || s.gated n then .next s
  else
    let s1 := s.sendDoze n
    let s2 := if s1.f (F.OME_STAT_STATE n) = 4 then s1.updOme n (fun o => { o with dozeReq := true }) else s1
    .next (if s2.d1Block n = 0 then s2.enterD1 n else s2)

/-- D1_ENTRY_ABANDON (R378): 100 µs have passed without the conditions. -/
def execD1EntryAbandon (t : Tile) (s : State) : Host.Outcome State Fault Refusal :=
  let n := t.val
  if s.pwr n ≠ 1 || Map.get 0 s.clocks.entering n ≠ 2 || s.d1Block n = 0 then .next s else .next (s.abandon n (s.d1Block n))

/-- PORT_ACTIVITY_WAKE (R379 rule 4): modulation for more than 200 ns at a port of a sleeping tile. -/
def execPortActivityWake (p : Port) (s : State) : Host.Outcome State Fault Refusal := .next (s.requestWake (p.val / 3))

/-- A tile is back in A0 (R380, R382): EXIT_US, its sleep bit, streams that waited; a MODE changed meanwhile applies, and a
command that waits for A0 ends (R384). -/
def State.awakeNow (s : State) (t left : Nat) : State :=
  let us := s.bell - Map.get s.bell s.clocks.exitAt t
  let s1 := (((s.setF (F.TILE_PWR_STAT_STATE t) 0).setSat (F.TILE_PWR_STAT_EXIT_US t) us).setAsleep t false).updClk (fun c => { c with
    sleep := Map.del t c.sleep, exitAt := Map.del t c.exitAt, wantD2 := c.wantD2.filter (fun x => x != t) })
  let m := s1.f (F.TILE_PWR_CTL_MODE t)
  let s2 := s1.pumpStreams
  if 2 ≤ m && m ≠ left then s2.beginEntry t m
  else if m = 0 && s.clocks.wantD2.contains t then (s2.endPowerRuns t 0).beginEntry t 3
  else if m < 2 then s2.endPowerRuns t 0 else s2

/-- D1_EXIT (R380). -/
def execD1Exit (t : Tile) (s : State) : Host.Outcome State Fault Refusal :=
  let n := t.val
  if s.pwr n ≠ 4 || Map.get 0 s.clocks.sleep n ≠ 2 || s.gated n then .next s
  else
    let back := s.each (List.range 8) (fun s c =>
      if s.f (F.LAS_STAT_STATE n c) = 3 then
        s.setFs [(F.LAS_STAT_STATE n c, 2), (F.LAS_BIAS_BIAS n c, (Map.find c (s.ph n).service).getD (s.f (F.LAS_BIAS_BIAS n c)))]
      else s)
    let s1 := back.updPh n (fun p => { p with service := [] })
    let lock := fun (r : RingState) => if r = .hold then RingState.locked else r
    let s2 := s1.updPh n (fun p => { p with ringBase := lock p.ringBase, rings := p.rings.map (fun e => (e.1, lock e.2)) })
    let s3 := if s2.f (F.OME_STAT_STATE n) = 7 then s2.setFs [(F.OME_STAT_STATE n, 2), (F.OME_STAT_PILOT_LOCK n, 0)] else s2
    let s4 := if s3.f (F.MEM_STAT_STATE n) = 3 then s3.setF (F.MEM_STAT_STATE n) 2 else s3
    -- the Crown returns through ALIGN (R192)
    let s5 := (s4.setF (F.CROWN_STAT_STATE n) (if s4.b (F.CROWN_CTL_EN n) then 1 else 0)).updCr n (fun c => { c with align := none })
    .next ((s5.sendAwake n).awakeNow n 2)

/-- A tile is power-gated (R376, R381): ports down before the combs darken, weights and SRAM copies lost, memory in
self-refresh. -/
def State.enterD2 (s : State) (t : Nat) : State :=
  let s1 := s.each (portsOf t) (fun s p => ((if s.linkUp p then s.declareDown p 1 else s)).shut p)
  let s2 := (s1.abortRuns t (fun _ => true)).omeStop t 0
  let s3 := if s2.f (F.MEM_STAT_STATE t) = 2 then s2.setF (F.MEM_STAT_STATE t) 3 else s2
  let s4 := (s3.each (List.range 8) (fun s c => s.darkComb t c)).updPh t (fun p => { p with ringBase := .off, rings := [], heads := [] })
  s4.asleepNow t 3

/-- D2_ENTRY (R381): refused where the tile's role or work excludes it. -/
def execD2Entry (t : Tile) (s : State) : Host.Outcome State Fault Refusal :=
  let n := t.val
  if s.pwr n ≠ 1 || Map.get 0 s.clocks.entering n ≠ 3 || s.gated n then .next s
  else .next (if s.d2Block n = 0 then s.enterD2 n else s.abandon n (s.d2Block n))

/-- D2_EXIT (R382, R384): a tile start; it waits while REFCLK is lost. -/
def execD2Exit (t : Tile) (s : State) : Host.Outcome State Fault Refusal :=
  let n := t.val
  if s.pwr n ≠ 4 || Map.get 0 s.clocks.sleep n ≠ 3 || s.gated n || s.b F.CLK_STAT_HOLDOVER then .next s
  else .next ((s.startTile n).awakeNow n 3)

/-- PWR_TILE_MODE (R386): it replies when the state is reached. -/
def pwrTileModeDef : CmdDef where
  code := 0x0B00
  len := fun _ => some 4
  kinds := [1]
  journaled := true
  par := fun _ p _ => if 3 < p.w 0 then some 32 else none
  act := fun s p _ id =>
    let t := p.unit
    let m := p.w 0
    let old := s.rd (R.TILE_PWR_CTL t)
    let block := if m = 3 then s.d2Block t else 0
    if block ≠ 0 then .now (s.setF (F.TILE_PWR_STAT_BLOCK t) block) stState block [] []
    else
      let s1 := (s.setF (F.TILE_PWR_CTL_MODE t) m).applyMode t
      let there := if m < 2 then s1.pwr t == 0 else s1.pwr t == m
      if there then
        .now s1 stOk 0 [] (if old = s1.rd (R.TILE_PWR_CTL t) then [] else
          [({ regChange (R.TILE_PWR_CTL t) old (s1.rd (R.TILE_PWR_CTL t)) with target := tgtTile t } : JChange)])
      else .later (s1.updClk (fun c => { c with powerRuns := c.powerRuns ++ [(t, id, (F.TILE_PWR_CTL_MODE t).ext old)] }))

def execPwrTileMode (p : Packet) (s : State) : Host.Outcome State Fault Refusal := .next (runCmd pwrTileModeDef p s)

/-! ### M1 (R383) -/

/-- Does the module belong to a paired twin, in either role? -/
def State.inPair (s : State) : Bool := s.twinState != 0 && s.paired

/-- PWR_MODULE_STANDBY (R383): the entry follows its reply. -/
def pwrModuleStandbyDef : CmdDef where
  code := 0x0B10
  kinds := [0]
  journaled := true
  pre := fun s _ _ =>
    if s.inPair || s.clocks.phase ≠ 4 then some (stState, 0)
    else if s.work.jobs.any Job.live || s.work.ctxs.any (fun c => match c.2.group with | some g => g.cur.isSome | none => false) ||
        !s.pool.migs.isEmpty || s.work.sets.any (fun x => x.2.live && !x.2.ready) then some (stBusy, 0)
    else none
  act := fun s p _ _ => .now s stOk 0 [] (if s.clocks.standby then [] else paramChange p)

def execPwrModuleStandby (p : Packet) (s : State) : Host.Outcome State Fault Refusal := .next (runCmd pwrModuleStandbyDef p s)

/-- The module enters M1 once the command's reply is posted: records condensed (R419), queues disabled, both CXL links
down, every tile in D2. -/
def State.enterM1 (s : State) : State :=
  let s1 := (((s.condenseAll).each (List.range 16) State.disableQueue).hostPortDown 0).hostPortDown 1
  let s2 := s1.each (allTiles.filter (fun t => !s1.gated t && s1.pwr t != 5)) (fun s t => if s.pwr t = 3 then s else s.enterD2 t)
  s2.updClk (fun c => { c with standby := true, wakeOrder := [], entering := [], wake := [] })

/-- PWR_MODULE_RESUME (R383, R386). -/
def pwrModuleResumeDef : CmdDef where
  code := 0x0B11
  kinds := [0]
  origins := [3]
  journaled := true
  act := fun s p _ _ =>
    if s.clocks.standby then .now (s.updClk (fun c => { c with wakeOrder := [0, 1, 2, 3] })) stOk 0 [] (paramChange p)
    else .now s stOk 0 [] []

def execPwrModuleResume (p : Packet) (s : State) : Host.Outcome State Fault Refusal := .next (runCmd pwrModuleResumeDef p s)

/-- M1_EXIT (R383): the next row leaves D2; after the last the module is out of M1 and the CXL ports train. -/
def execM1Exit (row : Fin 4) (s : State) : Host.Outcome State Fault Refusal :=
  match s.clocks.wakeOrder with
  | [] => .next s
  | r :: rest =>
    if r ≠ row.val then .next s
    else
      let s1 := s.each (allTiles.filter (fun t => tileRow t == r && (s.pwr t == 3 || s.pwr t == 4))) (fun s t => (s.startTile t).awakeNow t 3)
      .next (s1.updClk (fun c => { c with wakeOrder := rest, standby := !rest.isEmpty }))

end Sys2Proof.Machine
end

