-- ==== Sys2Proof/Machine/Thermal.lean ====
section
/-! DEFINITION. Machine/Thermal.lean: tile sensing and thresholds (R387 to R390), memory temperatures (R391), throttling
(R392 to R394), remote diodes (R396) and coolant checks (R398). -/

namespace Sys2Proof.Machine

/-! ### Memory (R391) -/

/-- Bring TH_STAT.MEM_MAX in line. -/
def State.syncMemMax (s : State) : State :=
  s.setF F.TH_STAT_MEM_MAX (allTiles.foldl (fun m t => max m (s.f (F.MEM_STAT_TEMP t))) 0)

/-- One tile's share of its stack's or package's temperature (R391). -/
def State.memTempTile (s : State) (t temp : Nat) (trip : Bool) : State :=
  let h := s.th t
  let twoX := if 85 ≤ temp then 1 else if temp < 82 then 0 else s.f (F.MEM_STAT_REFRESH_2X t)
  let warn := decide (95 ≤ temp) || (h.memWarn && decide (92 ≤ temp))
  let cool := if temp < 95 then some (h.memCool.getD s.bell) else none
  let s1 := (s.setFs [(F.MEM_STAT_TEMP t, temp), (F.MEM_STAT_REFRESH_2X t, twoX)]).updTh t (fun x => { x with
    memWarn := warn, memTrip := trip, memCool := if trip then cool else none })
  if trip && !h.memTrip then s1.memUnavailable t
  else if h.memTrip && !trip then s1.memReturn t
  else s1

/-- One memory temperature `v` of the tiles of one stack, the first of them being the one its records name (R391). -/
def State.memSample (s : State) (first : Nat) (tiles : List Nat) (v : Nat) : State :=
  let h := s.th first
  let cooled := match h.memCool with | some b => decide (v < 95) && decide (b + 10000000 ≤ s.bell) | none => false
  let trip := decide (105 ≤ v) || (h.memTrip && !cooled)
  let s1 := if 95 ≤ v && !h.memWarn then s.note 0x3 .memTemp 2 (tgtTile first) v else s
  let s2 := if trip && !h.memTrip then (s1.note 0x3 .memTemp 3 (tgtTile first) v) else s1
  let s3 := s2.each tiles (fun s u => s.memTempTile u v trip)
  let s4 := if trip && !h.memTrip then s3.each tiles (fun s u => s.assertTile u 28 v) else s3
  s4.syncMemMax.rewriteDist.pumpStreams

/-- MEM_TEMP_SAMPLE (R391): the reading of the stack or package that holds tile t's memory. At 105 °C it is held out until it
has been below 95 °C for 10 s. -/
def execMemTempSample (t : Tile) (temp : BitVec 8) (s : State) : Host.Outcome State Fault Refusal :=
  match if isMemTile t.val then stackTiles t.val else if isCorner t.val then [t.val] else [] with
  | [] => .next s
  | first :: rest => .next (s.memSample first (first :: rest) temp.toNat)

/-! ### Junction temperature (R387 to R389) -/

/-- Insert a reading in rising order. -/
def insertInt (x : Int) : List Int → List Int
  | [] => [x]
  | y :: l => if y < x then y :: insertInt x l else x :: y :: l

/-- Twice the median of readings. -/
def median2 (l : List Int) : Int :=
  let r := l.foldr insertInt []
  r.getD ((r.length - 1) / 2) 0 + r.getD (r.length / 2) 0

/-- Whole °C as an 8-bit field shows a reading in 0.1 °C. -/
def wholeC (v : Int) : Nat := fieldOf 8 (v / 10)

/-- Bring TH_STAT's hottest tile in line: the lowest numbered of those with the highest TJ. -/
def State.syncTjMax (s : State) : State :=
  let hot := allTiles.foldl (fun (m : Int × Nat) t => if m.1 < (s.th t).tj / 10 then ((s.th t).tj / 10, t) else m) ((s.th 0).tj / 10, 0)
  s.setFs [(F.TH_STAT_TJ_MAX, fieldOf 8 hot.1), (F.TH_STAT_TJ_TILE, hot.2)]

/-- The thresholds of R389 and the slew of R394 acting on a new TJ in 0.1 °C. -/
def State.tjActs (s : State) (t : Nat) (tj : Int) : State :=
  let h := s.th t
  let s1 := s.setF (F.TTH_STAT_TJ t) (wholeC tj)
  let warn := decide (950 ≤ tj) || (h.warn && decide (920 ≤ tj))
  let s2 := if 950 ≤ tj && !h.warn then (s1.setF (F.TTH_EVT_WARN t) 1).note 0xB .thermWarn 2 (tgtTile t) (tj / 10) else s1
  let slew := match h.last with
    | some (v, b) => decide (b + 1000 ≤ s.bell) && decide (50 * ((s.bell - b : Nat) : Int) < (tj - v).natAbs * 1000)
    | none => false
  let last := match h.last with
    | some (v, b) => if b + 1000 ≤ s.bell then some (tj, s.bell) else some (v, b)
    | none => some (tj, s.bell)
  let s3 := if slew then (s2.setF (F.TTH_EVT_STEP t) 1).note 0xB .thermStep 1 (tgtTile t) (tj / 10) else s2
  let s4 := s3.updTh t (fun x => { x with tj := tj, warn := warn, last := last })
  let held := s.bit (R.FLVL_LO t) 3
  if 1050 ≤ tj && !held then
    ((s4.setFs [(F.TTH_EVT_SAFE t, 1), (F.TTH_STAT_SAFE_SRC t, 1)]).assertTile t 3 (tj / 10) true)
  else if held && tj < 1000 then (s4.setF (F.TTH_STAT_SAFE_SRC t) 0).fall t 3
  else s4

/-- TJ_SAMPLE (R387 to R389, R394): the eight diodes and the ring estimate, in 0.1 °C; no estimate while no ring is locked. -/
def execTjSample (t : Tile) (diodes : List (BitVec 16)) (ring : Option (BitVec 16)) (s : State) : Host.Outcome State Fault Refusal :=
  let n := t.val
  if s.pwr n = 3 || s.clocks.tripped then .next s
  else
    let vs : List (Nat × Int) := (diodes.take 8).mapIdx (fun i v => (i, v.toInt))
    let inRange := vs.filter (fun x => decide (-200 ≤ x.2) && decide (x.2 ≤ 1500))
    let m2 := median2 (inRange.map (·.2))
    let h := s.th n
    let offNow := (inRange.filter (fun x => decide (160 < (2 * x.2 - m2).natAbs))).map (·.1)
    let off := offNow.map (fun i => (i, Map.get s.bell h.off i))
    let bad := (vs.filter (fun x => !inRange.contains x)).map (·.1) ++ (off.filter (fun e => decide (e.2 + 1000000 ≤ s.bell))).map (·.1)
    let new := bad.filter (fun i => !h.bad.contains i)
    let good := (vs.filter (fun x => !bad.contains x.1)).map (·.2)
    let est := ring.map (·.toInt)
    let tj : Option Int := match good with
      | x :: l => some (l.foldl max x)
      | [] => est.map (· + 100)
    let s1 := s.updTh n (fun x => { x with off := off, bad := bad })
    let las := (List.range 8).foldl (fun m c => max m (s.f (F.LAS_STAT_TJ n c))) 0
    let s2 := s1.setFs [(F.TTH_STAT_PIC n, match est with | some v => wholeC v | none => s.f (F.TTH_STAT_PIC n)), (F.TTH_STAT_LAS_MAX n, las),
      (F.TTH_STAT_DIODE_FAIL n, if bad.isEmpty then 0 else 1), (F.TTH_STAT_RING_FAIL n, if est.isNone then 1 else 0)]
    let s3 := if new.isEmpty then s2 else (s2.setF (F.TTH_EVT_SENSOR n) 1).note 0xB .thermSensor 2 (tgtTile n)
    match tj with
    | some v => .next ((((s3.fall n 4).tjActs n v).syncTjMax))
    | none => .next (s3.assertTile n 4 0 true)

/-- The flash log with one closed record put into the room made for it; dropped where there is none. -/
def State.logClosed (s : State) (r : Rec) (room : Option (List Rec)) : State :=
  match room with
  | some fl => { s with report := { s.report with flash := fl ++ [r], nextSeq := s.report.nextSeq + 1 } }
  | none => s.bump F.RC_DROP_CRIT

/-- The cut-off of the module by the comparator of tile `t` (R390). -/
def State.thermtrip (s : State) (t : Nat) : State :=
  let s1 := ((s.emit .thermtripN).emit (.modPwrok false)).each allTiles State.darken
  let s2 := ((s1.dropWork true).dropPool).dropLog
  let s3 := (((s2.siteDown 0 0).siteDown 1 0).each allTiles (fun s t => s.setFs [(F.TILE_PWR_STAT_STATE t, 5), (F.MEM_STAT_STATE t, 0)])).setF F.TH_STAT_THERMTRIP 1
  let r := { Rec.start (.chapter 0xB .thermSafe 3) 3 (tgtTile t) s3.bell (s3.report.nextSeq % 2 ^ 32) false 110 with opn := false }
  let s4 := s3.logClosed r (makeRoom 4194304 3 s3.report.flash)
  (({ s4 with crownMap := {} } : State).updClk (fun c => { c with tripped := true, resetDue := none })).syncRc

/-- THERMTRIP (R390): the comparator of a tile cuts the module off. DRAM is lost, the always-on islands and the chain stay,
and the CRIT record goes straight to flash. -/
def execThermtrip (t : Tile) (s : State) : Host.Outcome State Fault Refusal :=
  .next (if s.clocks.tripped then s else s.thermtrip t.val)

/-! ### Throttling (R392, R393) -/

/-- Show a tile's thermal duty (R392). -/
def State.setThermSteps (s : State) (t k : Nat) : State :=
  let (ome, s1) := s.dutyPct k
  let (crown, s2) := s1.dutyPct k
  ((s2.updTh t (fun x => { x with steps := k })).setFs [(F.TTH_DUTY_OME_PCT t, ome), (F.TTH_DUTY_CROWN_PCT t, crown)]).syncDuty t

/-- THROTTLE_LOOP_TICK (R392). -/
def execThrottleLoopTick (t : Tile) (s : State) : Host.Outcome State Fault Refusal :=
  let n := t.val
  let h := s.th n
  if s.pwr n = 3 || s.clocks.tripped then .next s
  else if 1000 ≤ h.tj then
    let s1 := if h.steps < 6 then s.setThermSteps n (h.steps + 1) else s
    .next (if s.b (F.TTH_STAT_THROTTLE n) then s1
      else ((s1.setFs [(F.TTH_STAT_THROTTLE n, 1), (F.TTH_EVT_THROTTLED n, 1)]).note 0xB .thermThrottle 2 (tgtTile n) (h.tj / 10)).assertTile n 5 (h.tj / 10) true)
  else
    let up := decide (h.tj ≤ 970) && decide (0 < h.steps) && decide (h.raisedAt + 10000 ≤ s.bell)
    let s1 := if up then (s.setThermSteps n (h.steps - 1)).updTh n (fun x => { x with raisedAt := s.bell }) else s
    .next (if s1.b (F.TTH_STAT_THROTTLE n) && (s1.th n).steps == 0 && decide (h.tj < 970) then
        ((s1.setF (F.TTH_STAT_THROTTLE n) 0).note 0xB .thermThrottle 2 (tgtTile n) (h.tj / 10)).fall n 5
      else s1)

/-! ### Remote diodes and coolant (R396 to R398) -/

/-- REMOTE_DIODE_UPDATE (R396): a channel's reading in 0.0625 °C, or an open or shorted sensor. -/
def execRemoteDiodeUpdate (n : Fin 8) (v : BitVec 16) (open_ short : Bool) (s : State) : Host.Outcome State Fault Refusal :=
  let k := n.val
  let m := s.f (F.TH_RD_CFG_MODE k)
  if m ≠ 1 && m ≠ 2 then .next s
  else
    let good := !open_ && !short
    let above := fun (x : Fld) => good && s.f x != 127 && decide (signedOf 8 (s.f x) * 16 < v.toInt)
    let warn := above (F.TH_RD_LIM_WARN_C k)
    let crit := above (F.TH_RD_LIM_CRIT_C k)
    let s1 := s.setFs [(F.TH_RD_VAL_TEMP k, if good then v.toNat else 0x8000), (F.TH_RD_VAL_OPEN k, if open_ then 1 else 0),
      (F.TH_RD_VAL_SHORT k, if short then 1 else 0), (F.TH_RD_VAL_WARN k, if warn then 1 else 0), (F.TH_RD_VAL_CRIT k, if crit then 1 else 0)]
    let s2 := if warn && !s.b (F.TH_RD_VAL_WARN k) then s1.note 0xB .remoteDiode 2 tgtModule (v.toInt / 16) else s1
    let s3 := if crit && !s.b (F.TH_RD_VAL_CRIT k) then (s2.note 0xB .remoteDiode 3 tgtModule (v.toInt / 16)).raiseMod 6 (v.toInt / 16) true else s2
    .next (if (List.range 8).any (fun i => s3.b (F.TH_RD_VAL_CRIT i)) then s3 else s3.fallMod 6)

/-- A remote-diode channel's reading in 0.0625 °C; none where it has none. -/
def State.channel (s : State) (n : Nat) : Option Int :=
  if s.f (F.TH_RD_VAL_TEMP n) = 0x8000 then none else some (signedOf 16 (s.f (F.TH_RD_VAL_TEMP n)))

/-- The inlet's part of the coolant check (R398). -/
def State.inletCheck (s : State) (v : Int) : State :=
  let lim : Int := s.f F.TH_CTL_INLET_MAX * 16
  let p := s.power
  if v ≤ lim then
    let since := p.inletOkAt.getD s.bell
    let s1 := (s.updPow (fun x => { x with inletHighAt := none, inletOkAt := some since })).fallMod 7
    if since + 60000000 ≤ s.bell then
      (s1.updPow (fun x => { x with coolant := none, inletCrit := false })).setF F.TH_STAT_INLET_HIGH 0
    else s1
  else
    let since := p.inletHighAt.getD s.bell
    let s1 := s.updPow (fun x => { x with inletHighAt := some since, inletOkAt := none })
    let low := fun (s : State) (w : Nat) => s.updPow (fun x => { x with coolant := some (min w (x.coolant.getD w)) })
    let crit := decide (lim + 80 ≤ v)
    let s2 := if crit || since + 10000000 ≤ s.bell then
        let s2 := if s1.b F.TH_STAT_INLET_HIGH then s1 else (s1.setF F.TH_STAT_INLET_HIGH 1).note 0xB .coolant 2 tgtModule (v / 16)
        low s2 (s2.maxInput - 80 * ((v - lim) / 16).toNat)
      else s1
    if crit then
      let s3 := low s2 1100
      let s4 := if p.inletCrit then s3 else (s3.updPow (fun x => { x with inletCrit := true })).note 0xB .coolant 3 tgtModule (v / 16)
      s4.raiseMod 7 (v / 16) true
    else s2.fallMod 7

/-- The rise's part of the coolant check (R398). -/
def State.riseCheck (s : State) (v : Int) : State :=
  if v ≤ s.f F.TH_CTL_RISE_MAX * 16 then (s.updPow (fun x => { x with riseAt := none })).setF F.TH_STAT_RISE_HIGH 0
  else
    let since := s.power.riseAt.getD s.bell
    let s1 := s.updPow (fun x => { x with riseAt := some since })
    if since + 10000000 ≤ s.bell && !s.b F.TH_STAT_RISE_HIGH then (s1.setF F.TH_STAT_RISE_HIGH 1).note 0xB .coolant 2 tgtModule (v / 16) else s1

/-- COOLANT_CHECK (R398). -/
def execCoolantCheck (s : State) : Host.Outcome State Fault Refusal :=
  if !s.b F.TH_CTL_COOL_EN then .next s
  else match s.channel (s.f F.TH_CTL_INLET_CH) with
  | none => .next s
  | some v =>
    let s1 := s.inletCheck v
    let s2 := match s1.channel (s1.f F.TH_CTL_OUTLET_CH) with | some o => s1.riseCheck (o - v) | none => s1
    .next s2.updCeil

end Sys2Proof.Machine
end

