-- ==== Sys2Proof/Machine/Faults.lean ====
section
/-! DEFINITION. Machine/Faults.lean: assertions and their ends, the fault state of a scope (R407 to R413), the group 0x08
commands (R420) and the Report Card's copies to flash (R418, R419). -/

namespace Sys2Proof

/-! ### Scopes -/

/-- A scope's key: the tile number, 48 for the module. -/
def Scope.key : Scope → Nat
  | .tile t => t.val
  | .module => 48

/-- A scope's state register field. -/
def Scope.stateF : Scope → Machine.Fld
  | .tile t => Machine.F.FSTATE_STATE t.val
  | .module => Machine.F.MFSTATE_STATE

def Scope.hourF : Scope → Machine.Fld
  | .tile t => Machine.F.FSTATE_RECOV_HOUR t.val
  | .module => Machine.F.MFSTATE_RECOV_HOUR

def Scope.cntF : Scope → Machine.Fld
  | .tile t => Machine.F.FSTATE_RECOV_CNT t.val
  | .module => Machine.F.MFSTATE_RECOV_CNT

/-- TARGET of a scope (R51). -/
def Scope.target : Scope → Nat
  | .tile t => Machine.tgtTile t.val
  | .module => Machine.tgtModule

/-- The tiles of a scope. -/
def Scope.tiles : Scope → List Nat
  | .tile t => [t.val]
  | .module => Machine.allTiles

end Sys2Proof

namespace Sys2Proof.Machine

/-- The recoveries of a scope whose EXIT began within the last 3,600 Bell seconds (R411). -/
def State.recovHour (s : State) (sc : Scope) : List Nat :=
  (Map.get [] s.faults.exits sc.key).filter (fun b => decide (s.bell < b + 3600000000))

/-- Bring RECOV_HOUR in line. -/
def State.syncHour (s : State) (sc : Scope) : State := s.setSat sc.hourF (s.recovHour sc).length

/-- Is a SAFE-severity source of the scope high (R410)? The module scope's sources are the module sources only. -/
def State.safeHigh (s : State) : Scope → Bool
  | .tile t => s.safeHighTile t.val
  | .module => s.safeHighMod

/-- Has QUIET run out for a scope? -/
def State.quietOver (s : State) (sc : Scope) : Bool :=
  !s.safeHigh sc && decide (Map.get 0 s.faults.quiet sc.key + s.f F.MFCTL_QUIET * 1000 ≤ s.bell)

/-! ### Assertions -/

/-- PROCTOR_WDT asserts (R402, R404): the Proctor is restarted with its packets held; within ESC_WIN of the last restart a
warm reset of the module follows. -/
def State.watchdog (s : State) : State :=
  let key := 48 * 64
  if s.b F.Q_GLOBAL_SWITCHOVER && !(s.fence key).on then s
  else
    let esc := s.sevModule 0 == 2 && s.escalates key
    let hit := (s.lineMod 0 false 0).2
    let s1 := s.assertModule 0
    if hit && esc then s1.updClk (fun c => { c with resetDue := some (4, 0) }) else s1

/-- A source asserts as its block makes it (R399, R401, R402); reserved bits never assert. -/
def State.assertSource (s : State) (sc : Scope) (bit : Nat) (hold : Bool) : State :=
  match sc with
  | .tile t =>
    if 44 ≤ bit then s
    else
      let s1 := s.assertTile t.val bit 0 hold
      if bit = 34 then s1.clearCache t.val else s1
  | .module => if 21 ≤ bit then s else if bit = 0 then s.watchdog else s.assertModule bit 0 hold

/-- FAULT_SOURCE_ASSERT (R399, R403). -/
def execFaultSourceAssert (scope : Scope) (bit : BitVec 6) (hold : Bool) (s : State) : Host.Outcome State Fault Refusal :=
  .next (s.assertSource scope bit.toNat hold)

/-- FAULT_SOURCE_DEASSERT (R399, R410): the line falls; where no SAFE source of the scope stays high, QUIET counts. -/
def execFaultSourceDeassert (scope : Scope) (bit : BitVec 6) (s : State) : Host.Outcome State Fault Refusal :=
  .next (match scope with
    | .tile t => if bit.toNat < 44 then s.fall t.val bit.toNat else s
    | .module => if bit.toNat < 21 then s.fallMod bit.toNat else s)

/-- PROCTOR_WDT (R402). -/
def execProctorWdt (s : State) : Host.Outcome State Fault Refusal := .next s.watchdog

/-- FFIRST_VALID_CLEAR (R405): a 1 written to FFIRST.VALID or MFIRST.VALID. -/
def execFfirstValidClear (scope : Scope) (s : State) : Host.Outcome State Fault Refusal := .next (s.clearFirst scope)

/-! ### The fault state (R407 to R413) -/

/-- SAFE_ENTERED (R407 step 4, R409): FAULT_N low; the Proctor downs the ports, ends the work that uses the scope, makes its
memory UNAVAILABLE, restarts its Crown flows, writes a CRIT record and starts a condensation. -/
def execSafeEntered (scope : Scope) (s : State) : Host.Outcome State Fault Refusal :=
  if s.f scope.stateF ≠ 1 then .next s
  else
    let src := s.faultDetail (Map.find scope.key s.faults.cause)
    let s1 := (s.setF scope.stateF 2).syncFaultN
    let s2 := s1.each scope.tiles (fun s t => s.stopTile t (some src))
    let s2 := if scope = .module then s2.each [0, 1] (fun s n => if (s.st n).fenced then s else s.siteDown n 0) else s2
    let s3 := (s2.record .safeEntered 3 scope.target src).rewriteDist
    let s4 := s3.beginCondense
    .next { s4 with report := { s4.report with critFirst := true } }

/-- At the module's EXIT both sites are discovered again (R459). -/
def State.sitesExit (s : State) (scope : Scope) : State :=
  match scope with
  | .module => (s.siteStart 0).siteStart 1
  | .tile _ => s

/-- QUIET_TIMER_EXPIRY (R410, R411): EXIT, or HELD at RECOV_MAX recoveries within the hour; a tile held is failed, and its
engine duties move. -/
def execQuietTimerExpiry (scope : Scope) (s : State) : Host.Outcome State Fault Refusal :=
  if s.f scope.stateF ≠ 2 || !s.quietOver scope then .next s
  else
    let hour := s.recovHour scope
    if s.f F.MFCTL_RECOV_MAX ≤ hour.length then
      let s1 := ((s.setF scope.stateF 4).record .heldEntered 3 scope.target).syncHour scope
      .next ((s1.each scope.tiles State.moveDuties).rewriteDist)
    else
      let s1 := { s with faults := { s.faults with exits := Map.put scope.key (s.bell :: hour) s.faults.exits } }
      .next (((s1.setF scope.stateF 3).syncHour scope).sitesExit scope)

/-- The fault-recovery reset of one tile: steps 4 to 8 of R372 (R373). -/
def State.recoverTile (s : State) (t : Nat) : State :=
  let s1 := (((s.liftFences t).clearCache t).dropSleep t).crownRestart t
  (s1.startTile t).setFs [(F.TILE_RST_CAUSE_LAST t, 2), (F.TILE_RST_CAUSE_COUNT t, min (s.f (F.TILE_RST_CAUSE_COUNT t) + 1) 0xFFFF),
    (F.TILE_PWR_STAT_STATE t, 0)]

/-- FAULT_RECOVERY_DONE (R410, R413): the scope is NORMAL, its tiles start again, the recovery is counted, and FAULT_N is
released where no scope is left. A tile with a fault state of its own stays in it unless its own QUIET has run. -/
def execFaultRecoveryDone (scope : Scope) (s : State) : Host.Outcome State Fault Refusal :=
  if s.f scope.stateF ≠ 3 then .next s
  else
    let s1 := (s.setF scope.stateF 0).bump scope.cntF
    let s2 := match scope with
      | .tile _ => s1
      | .module => s1.each allTiles (fun s t =>
          if s.f (F.FSTATE_STATE t) = 2 && s.quietOver (.tile (Fin.ofNat 48 t))
          then s.setF (F.FSTATE_STATE t) 0 else s)
    let s3 := s2.each (scope.tiles.filter (fun t => !s2.gated t)) State.recoverTile
    .next (((s3.record .exitDone 2 scope.target (s3.recovHour scope).length).syncFaultN).adoptFree)

/-! ### Group 0x08 (R420) -/

/-- The scope that TARGET names. -/
def scopeOf (p : Packet) : Scope := if p.kind = 1 then .tile (Fin.ofNat 48 p.unit) else .module

/-- FAULT_STATUS (R420). -/
def faultStatusDef : CmdDef where
  code := 0x0800
  kinds := [0, 1]
  resLen := fun _ _ => some 32
  act := fun s p _ _ =>
    let s := s.syncHour (scopeOf p)
    let t := p.unit
    let r := fun (o : Nat) => leBytes 4 (s.rd o).toNat
    .now s stOk 0 (if p.kind = 1 then
        r (R.FSW_LO t) ++ r (R.FSW_HI t) ++ r (R.FLVL_LO t) ++ r (R.FLVL_HI t) ++ r (R.FFIRST t) ++ r (R.FFIRST_BELL_LO t) ++ r (R.FFIRST_BELL_HI t) ++ r (R.FSTATE t)
      else r R.MFSW_SRC ++ zeros 4 ++ r R.MFLVL_SRC ++ zeros 4 ++ r R.MFIRST ++ r R.MFIRST_BELL_LO ++ r R.MFIRST_BELL_HI ++ r R.MFSTATE) []

def execFaultStatus (p : Packet) (s : State) : Host.Outcome State Fault Refusal := .next (runCmd faultStatusDef p s)

/-- FAULT_CLEAR (R420). -/
def faultClearDef : CmdDef where
  code := 0x0801
  len := fun _ => some 12
  kinds := [0, 1]
  journaled := true
  par := fun _ p _ =>
    if p.kind = 0 && p.w 1 ≠ 0 then some 36 else if (if p.kind = 0 then 3 else 1) < p.w 2 then some 40 else none
  zero := fun p => p.w 0 == 0 && p.w 1 == 0 && p.w 2 == 0
  act := fun s p _ _ =>
    let clr := fun (s : State) (o m : Nat) => s.wr o (s.rd o &&& ~~~ (BitVec.ofNat 32 m))
    let s1 := if p.kind = 1 then clr (clr s (R.FSW_LO p.unit) (p.w 0)) (R.FSW_HI p.unit) (p.w 1) else clr s R.MFSW_SRC (p.w 0)
    let s2 := if p.w 2 % 2 = 1 then s1.clearFirst (scopeOf p) else s1
    let s3 := if p.kind = 0 && p.w 2 / 2 % 2 = 1 then (s2.wr R.MFSW_TILE_LO 0).wr R.MFSW_TILE_HI 0 else s2
    .now s3 stOk 0 [] (paramChange p)

def execFaultClear (p : Packet) (s : State) : Host.Outcome State Fault Refusal := .next (runCmd faultClearDef p s)

/-- FAULT_RELEASE (R411): EXIT at once, RECOV_HOUR 0. -/
def faultReleaseDef : CmdDef where
  code := 0x0802
  kinds := [0, 1]
  journaled := true
  pre := fun s p _ => let st := s.f (scopeOf p).stateF; if st = 4 then none else some (stState, st)
  act := fun s p _ _ =>
    let sc := scopeOf p
    let s1 := { s with faults := { s.faults with exits := Map.del sc.key s.faults.exits } }
    .now ((((s1.setF sc.stateF 3).syncHour sc).sitesExit sc).record .faultRelease 1 sc.target) stOk 0 [] (paramChange p)

def execFaultRelease (p : Packet) (s : State) : Host.Outcome State Fault Refusal := .next (runCmd faultReleaseDef p s)

/-- What a block that is no longer fenced does (R404): a port trains again, the Crown's own marks stand alone, the memory
returns, the OME starts, the Proctor takes packets, a site is discovered again. -/
def State.unfenceBlock (s : State) (sc : Scope) (bit : Nat) : State :=
  match sc with
  | .tile t =>
    let n := t.val
    if bit = 18 || bit = 19 || bit = 20 then
      let p := 3 * n + (bit - 18)
      (s.updLink p (fun l => { l with fenced := false })).startFull p
    else if bit = 23 then s.reapplyDetention n
    else if bit = 27 || bit = 39 then
      if s.memBarred n then s else ((s.memReturn n).rewriteDist).pumpStreams
    else if bit = 30 then (if s.f (F.OME_STAT_STATE n) = 8 then (s.setF (F.OME_STAT_STATE n) 0).omeStart n else s)
    else s
  | .module =>
    if bit = 0 then s.endSwitchover
    else if bit = 14 || bit = 15 then (s.updSt (bit - 14) (fun x => { x with fenced := false })).siteStart (bit - 14)
    else s

/-- FAULT_UNFENCE (R404, R420). -/
def faultUnfenceDef : CmdDef where
  code := 0x0803
  len := fun _ => some 4
  kinds := [0, 1]
  journaled := true
  par := fun _ p _ => if (if p.kind = 1 then tileBlock (p.w 0) else moduleBlock (p.w 0)) then none else some 32
  pre := fun s p _ =>
    let key := (scopeOf p).key * 64 + p.w 0
    let high := match scopeOf p with
      | .tile t => s.bit (if p.w 0 < 32 then R.FLVL_LO t.val else R.FLVL_HI t.val) (p.w 0 % 32)
      | .module => s.bit R.MFLVL_SRC (p.w 0)
    if !(s.fence key).on then some (stState, 0) else if high then some (stState, 1) else if (s.fence key).esc then some (stState, 2) else none
  act := fun s p _ _ =>
    let key := (scopeOf p).key * 64 + p.w 0
    let s1 := s.setFence key { s.fence key with on := false, lifted := some s.bell }
    .now (s1.unfenceBlock (scopeOf p) (p.w 0)).adoptFree stOk 0 [] (paramChange p)

def execFaultUnfence (p : Packet) (s : State) : Host.Outcome State Fault Refusal := .next (runCmd faultUnfenceDef p s)

/-- FAULT_INJECT (R420): the source asserts as its block would. -/
def faultInjectDef : CmdDef where
  code := 0x0804
  len := fun _ => some 4
  kinds := [0, 1]
  origins := [3, 6]
  journaled := true
  par := fun _ p _ => if p.w 0 < (if p.kind = 1 then 44 else 21) then none else some 32
  pre := fun s _ _ => if s.b F.MFCTL_INJECT_EN then none else some (stLocked, 0)
  act := fun s p _ _ => .now (s.assertSource (scopeOf p) (p.w 0) false) stOk 0 [] (paramChange p)

def execFaultInject (p : Packet) (s : State) : Host.Outcome State Fault Refusal := .next (runCmd faultInjectDef p s)

/-! ### The Report Card's commands (R420) -/

/-- The records of a store in SEQ order; the live log with the island buffer (R418). -/
def State.store_ (s : State) (n : Nat) : List Rec := seqSort (if n = 0 then s.report.live ++ s.report.island else s.report.flash)

/-- RC_READ (R420). -/
def rcReadDef : CmdDef where
  code := 0x0810
  len := fun _ => some 12
  par := fun _ p _ => if 1 < p.w 0 then some 32 else if 65536 < p.w 2 then some 40 else none
  zero := fun p => p.w 2 == 0
  pre := fun s p _ =>
    match s.store_ (p.w 0) with
    | r :: _ => if p.w 1 < r.seq then some (stNotFound, r.seq) else none
    | [] => none
  act := fun s p _ _ =>
    .now s stOk 0 ((((s.store_ (p.w 0)).filter (fun r => decide (p.w 1 ≤ r.seq))).take (p.w 2)).flatMap Rec.bytes) []

def execRcRead (p : Packet) (s : State) : Host.Outcome State Fault Refusal := .next (runCmd rcReadDef p s)

/-- RC_CONDENSE (R420): it replies when the condensation ends. -/
def rcCondenseDef : CmdDef where
  code := 0x0811
  act := fun s _ _ id =>
    let s1 := s.beginCondense
    .later { s1 with report := { s1.report with condRuns := s1.report.condRuns ++ [id] } }

def execRcCondense (p : Packet) (s : State) : Host.Outcome State Fault Refusal := .next (runCmd rcCondenseDef p s)

/-- RC_CLEAR (R420): open records are closed, then all of the stores named are discarded. -/
def rcClearDef : CmdDef where
  code := 0x0812
  len := fun _ => some 4
  journaled := true
  par := fun _ p _ => if 3 < p.w 0 then some 32 else none
  zero := fun p => p.w 0 == 0
  act := fun s p _ _ =>
    let s1 := if p.w 0 % 2 = 1 then { s with report := { s.report with live := [], island := [], condensed := [] } } else s
    let s2 := if 2 ≤ p.w 0 then { s1 with report := { s1.report with flash := [] } } else s1
    .now s2.syncRc stOk 0 [] (paramChange p)

def execRcClear (p : Packet) (s : State) : Host.Outcome State Fault Refusal := .next (runCmd rcClearDef p s)

/-- The chapters' own events with their opcode group and severity (R415). -/
def chapterCodes : List RecCode :=
  ([(0, .badBar, 1), (0, .authRefused, 1), (0, .badDoorbell, 1), (0, .journalLost, 3), (0, .sleepingAccess, 1), (0, .nodeCfgRefused, 1),
    (1, .refclkLoss, 2), (1, .strapTwin, 2), (1, .siteState, 1), (1, .siteState, 3), (1, .sitePower, 2), (1, .siteTemp, 2),
    (2, .refLoss, 2), (2, .headroomLow, 1), (2, .ringLost, 2), (2, .fade1, 1), (2, .fade2, 1), (2, .fade3, 2), (2, .fastFade, 2),
    (2, .laneRetired, 2), (2, .laserOvertemp, 3), (2, .subFailed, 2), (2, .subFailed, 3), (2, .subStarted, 2), (2, .tapSat, 1),
    (2, .cxlDegraded, 2), (2, .portDown, 2), (2, .laneMapConflict, 2), (2, .brimFence, 2)] : List (Nat × RecEv × Nat)).map
    (fun x => .chapter x.1 x.2.1 x.2.2) ++
  ([(3, .poison, 3), (3, .retireMark, 2), (3, .cxlWriteLost, 1), (3, .memUnavailable, 2), (3, .memTemp, 2), (3, .memTemp, 3), (4, .omeFailed, 2), (5, .collDrop, 1),
    (6, .streamNoAlt, 1), (6, .streamReclaim, 1), (6, .streamSuspend, 2), (6, .streamFault, 2), (6, .famSingle, 2),
    (7, .detention, 2), (7, .blockRejected, 1), (7, .laneDeferred, 1), (7, .traceFail, 3), (7, .ageReplan, 1), (7, .ageReplan, 2)] : List (Nat × RecEv × Nat)).map
    (fun x => .chapter x.1 x.2.1 x.2.2) ++
  ([(9, .bootFail, 3), (9, .keyLow, 2), (0xA, .notHolderWrite, 1), (0xA, .twinResync, 2), (0xA, .holderChange, 3), (0xA, .twinConflict, 2), (0xA, .twinConflict, 3),
    (0xA, .pairingRefused, 2), (0xA, .pairingRefused, 3), (0xB, .thermWarn, 2), (0xB, .thermThrottle, 2), (0xB, .thermSafe, 3), (0xB, .thermSensor, 2), (0xB, .thermStep, 1),
    (0xB, .remoteDiode, 2), (0xB, .remoteDiode, 3), (0xB, .coolant, 2), (0xB, .coolant, 3), (0xB, .capUnmet, 2)] : List (Nat × RecEv × Nat)).map
    (fun x => .chapter x.1 x.2.1 x.2.2)

/-- Every record code with its severity now. -/
def State.codeList (s : State) : List (RecCode × Nat) :=
  (List.range 44).map (fun b => (.tileSrc b, s.sevTile 0 b)) ++ (List.range 21).map (fun b => (.modSrc b, s.sevModule b)) ++
  [(.safeEntered, 3), (.exitDone, 2), (.heldEntered, 3), (.faultRelease, 1), (.escalation, 3)] ++
  chapterCodes.map (fun c => (c, match c with | .chapter _ _ v => v | _ => 0))

/-- RC_CODE_LIST (R420): unit and name are the Proctor image's own (assumption 5). -/
def rcCodeListDef : CmdDef where
  code := 0x0813
  resLen := fun s _ => some (48 * s.codeList.length)
  act := fun s _ _ _ =>
    .now s stOk 0 (s.codeList.flatMap (fun x =>
      leBytes 2 x.1.num ++ leBytes 1 x.2 ++ leBytes 1 x.1.shift ++ (List.range 44).map (fun i => Config.recordName x.1.num i))) []

def execRcCodeList (p : Packet) (s : State) : Host.Outcome State Fault Refusal := .next (runCmd rcCodeListDef p s)

/-! ### Condensation and the island buffer (R418, R419) -/

/-- CONDENSATION_DUE (R419): CONDENSE seconds have passed. -/
def execCondensationDue (s : State) : Host.Outcome State Fault Refusal :=
  .next s.beginCondense

/-- CONDENSATION_DONE (R419): the closed records stand in flash, and RC_CONDENSE replies. -/
def execCondensationDone (s : State) : Host.Outcome State Fault Refusal :=
  if !s.report.condensing then .next s
  else
    let s1 := s.condense s.report.critFirst
    let s2 := s1.each s.report.condRuns (fun s id => s.finish id stOk 0)
    .next { s2 with report := { s2.report with condensing := false, critFirst := false, condRuns := [] } }

/-- ISLAND_BUFFER_COPY (R418): the clock master's LPDDR5X is back, and the buffer goes into the live log in SEQ order. -/
def execIslandBufferCopy (s : State) : Host.Outcome State Fault Refusal :=
  if s.islandMode then .next s
  else
    let l := s.report.island
    let s1 : State := { s with report := { s.report with island := [] } }
    let s2 := s1.each l (fun s r =>
      match makeRoom 1048576 r.sev (if r.opn then closeOldest s.report.live else s.report.live) with
      | some live => { s with report := { s.report with live := seqSort (live ++ [r]) } }
      | none => if r.sev = 3 then s.bump F.RC_DROP_CRIT else s.bump F.RC_DROP)
    .next s2.syncRc

end Sys2Proof.Machine
end

