-- ==== Sys2Proof/Machine/Sites.lean ====
section
/-! DEFINITION. Machine/Sites.lean: the expansion sites (R448 to R460): discovery and admission, width, power and temperature,
and their commands. -/

namespace Sys2Proof.Machine

/-! ### The capability record (R452) -/

/-- Is a capability record readable: 64 bytes, a valid CRC and CAP_VER 1? -/
def capOk (b : List Byte) : Bool := b.length == 64 && leAt b 60 4 == (crc32c (b.take 60)) && leAt b 6 1 == 1

/-- P_MAX of a record, 0.1 W units. -/
def capPmax (b : List Byte) : Nat := leAt b 48 2

/-- The manifest in force (R472); empty: the factory's. -/
def State.manifest (s : State) : List Byte := (s.slotObj 3 s.sec.manifest).getD []

/-- The REASON why a die is not admitted (R453); 0: admitted. A record that cannot be read has no fields to check, so that
check comes first. -/
def State.admission (s : State) (b : List Byte) : Nat :=
  let v := leAt b 0 2
  let d := leAt b 2 2
  let r := leAt b 4 2
  if !capOk b || leAt b 7 1 ≠ 0xF then 4
  else if !Config.dieListed s.manifest v d r then 1
  else if !Config.dieFirmware s.manifest v d r (fitBytes 32 (b.drop 16)) then 2
  else if 1750 < capPmax b || leAt b 51 1 ≤ leAt b 50 1 || leAt b 52 1 ≤ leAt b 51 1 || 110 < leAt b 52 1 then 3
  else 0

/-! ### Power limit (R457, R458, R508) -/

/-- Percentage of P_MAX that the temperature steps and the power cap's steps leave a die: each has its floor of 25 %. -/
def State.diePct (s : State) (n : Nat) : Nat :=
  min (100 - 25 * min 3 (s.st n).steps) (max 25 (100 - 10 * s.power.dieSteps))

/-- Send the die its power limit where it has changed (R457): 0 shows none. -/
def State.sendLimit (s : State) (n : Nat) : State :=
  let pct := s.diePct n
  let lim := if pct = 100 then 0 else capPmax (s.st n).cap * pct / 100
  if s.f (F.XSITE_PWR_LIMIT n) = lim then s else s.setF (F.XSITE_PWR_LIMIT n) lim

/-! ### Discovery (R451) -/

/-- End the XSITE_RESET commands of a site. -/
def State.endSiteRuns (s : State) (n status detail : Nat) : State :=
  (s.each (s.st n).runs (fun s id => s.finishParam id status detail)).updSt n (fun x => { x with runs := [] })

/-- The modules of a site that run, and those at ×32, as both sides agree (R455): the narrower map; without X32_EN a module
that cannot run at ×64 is left out (R454). -/
def State.siteWidth (s : State) (n : Nat) (t : SiteTrain) : Nat × Nat :=
  let up := t.up &&& t.farUp
  let x32 := (t.x32 ||| t.farX32) &&& up
  if s.b (F.XSITE_CFG_X32_EN n) then (up.toNat, x32.toNat) else ((up &&& ~~~x32).toNat, 0)

/-- An admitted die's sublinks train (R451 steps 5 and 6, R454, R455). -/
def State.siteTrain (s : State) (n : Nat) (t : SiteTrain) : State :=
  let (up, x32) := s.siteWidth n t
  let e := s.f (F.XSITE_STAT_EPOCH n)
  let epoch := if e = t.farEpoch.toNat && e ≠ 0 then e else epochNext e t.farEpoch.toNat
  let held := t.held.toNat
  let node := s.f (F.XSITE_CFG_NODE n)
  let s1 := s.setFs [(F.XSITE_STAT_MOD_UP n, up), (F.XSITE_STAT_MOD_X32 n, x32), (F.XSITE_STAT_EPOCH n, epoch),
    (F.XSITE_STAT_STATE n, if held ≠ 0 then 6 else if node = 0 then 2 else 3), (F.XSITE_STAT_REASON n, if node = 0 then 5 else 0)]
  let s2 := (s1.updSt n (fun x => { x with held := held, lastReport := some s.bell })).sublinksUp n
  if held ≠ 0 then s2.note 0x2 .laneMapConflict 2 (tgtSite n) else s2

/-- SITE_DISCOVERY (R451 to R456): the records of up to three capability reads, and how the sublinks trained. -/
def execSiteDiscovery (n : Fin 2) (reads : List (List Byte)) (train : SiteTrain) (s : State) : Host.Outcome State Fault Refusal :=
  let k := n.val
  if s.f (F.XSITE_STAT_STATE k) ≠ 1 then .next s
  else
    let cap := fitBytes 64 (((reads.take 3).find? capOk).getD ((reads.take 3).getLast?.getD []))
    let reason := if ((reads.take 3).find? capOk).isSome then s.admission cap else 4
    let s1 := (s.updSt k (fun x => { x with cap := cap })).setFs [(F.XSITE_TEMP_T_WARN k, leAt cap 50 1), (F.XSITE_TEMP_T_THROTTLE k, leAt cap 51 1),
      (F.XSITE_TEMP_T_TRIP k, leAt cap 52 1)]
    if reason ≠ 0 then
      let s2 := ((s1.siteDown k 5).setF (F.XSITE_STAT_REASON k) reason).note 0x1 .siteState 3 (tgtSite k)
      .next (s2.endSiteRuns k stSetMismatch reason)
    else .next (((s1.siteTrain k train).sendLimit k).endSiteRuns k stOk 0)

/-- SIDEBAND_TIMEOUT (R451 step 2): no sideband answer by 50 ms. -/
def execSidebandTimeout (n : Fin 2) (s : State) : Host.Outcome State Fault Refusal :=
  if s.f (F.XSITE_STAT_STATE n.val) ≠ 1 then .next s
  else .next (((s.siteDown n.val 0).note 0x1 .siteState 1 (tgtSite n.val)).endSiteRuns n.val stOk 0)

/-- A sublink that is UP makes a fast retrain (R454). -/
def State.subRetrain (s : State) (k : Nat) : State := if s.linkUp (240 + k) then s.fastRetrain (240 + k) else s

/-- UCIE_WIDTH_DEGRADE (R454): repair cannot cover the failed lanes of a module in service; it goes on at ×32 where that is
permitted and it was at ×64, else it is left out, and a sublink with neither module running is DOWN. A sublink that goes on
makes a fast retrain, which FAST_RETRAIN_DONE ends. -/
def execUcieWidthDegrade (n : Fin 2) (k : Fin 4) (s : State) : Host.Outcome State Fault Refusal :=
  let m := n.val
  let up := s.f (F.XSITE_STAT_MOD_UP m)
  let x32 := s.f (F.XSITE_STAT_MOD_X32 m)
  let bit := 2 ^ k.val
  if up / bit % 2 = 0 then .next s
  else
    let epoch := epochNext (s.f (F.XSITE_STAT_EPOCH m)) 0
    let s1 := s.setF (F.XSITE_STAT_EPOCH m) epoch
    if s.b (F.XSITE_CFG_X32_EN m) && x32 / bit % 2 = 0 then .next ((s1.setF (F.XSITE_STAT_MOD_X32 m) (x32 + bit)).subRetrain (2 * m + k.val / 2))
    else
      let j := k.val / 2
      let rest := (up - bit) / 4 ^ j % 4
      let s2 := if rest = 0 then s1.sublinkDown (2 * m + j) else s1.subRetrain (2 * m + j)
      .next (s2.setFs [(F.XSITE_STAT_MOD_UP m, up - bit), (F.XSITE_STAT_MOD_X32 m, x32 - (x32 / bit % 2) * bit)])

/-! ### Readings of the die (R457, R458) -/

/-- Is a die admitted and powered? -/
def State.diePowered (s : State) (n : Nat) : Bool := let st := s.f (F.XSITE_STAT_STATE n); st == 2 || st == 3 || st == 6

/-- DIE_TEMP_REPORT (R458). -/
def execDieTempReport (n : Fin 2) (temp : BitVec 8) (s : State) : Host.Outcome State Fault Refusal :=
  let k := n.val
  if !s.diePowered k then .next s
  else
    let t := temp.toNat
    let s1 := (s.setF (F.XSITE_TEMP_TEMP k) t).updSt k (fun x => { x with lastReport := some s.bell })
    let s2 := if s1.f (F.XSITE_TEMP_T_WARN k) ≤ t then s1.note 0x1 .siteTemp 2 (tgtSite k) t else s1
    let s3 := if t + 3 < s2.f (F.XSITE_TEMP_T_THROTTLE k) then (s2.updSt k (fun x => { x with steps := 0 })).sendLimit k else s2
    .next (if s3.f (F.XSITE_TEMP_T_TRIP k) ≤ t then s3.assertModule (14 + k) t else s3)

/-- DIE_THROTTLE_STEP (R458): 10 ms at T_THROTTLE or above. -/
def execDieThrottleStep (n : Fin 2) (s : State) : Host.Outcome State Fault Refusal :=
  let k := n.val
  if !s.diePowered k || s.f (F.XSITE_TEMP_TEMP k) < s.f (F.XSITE_TEMP_T_THROTTLE k) then .next s
  else .next ((s.updSt k (fun x => { x with steps := min 3 (x.steps + 1) })).sendLimit k)

/-- DIE_TEMP_REPORT_TIMEOUT (R458). -/
def execDieTempReportTimeout (n : Fin 2) (s : State) : Host.Outcome State Fault Refusal :=
  match (s.st n.val).lastReport with
  | some b => .next (if s.diePowered n.val && decide (b + 10000 ≤ s.bell) then s.assertModule (14 + n.val) else s)
  | none => .next s

/-- SITE_POWER_SAMPLE (R457, R458): each limit's timer runs while the power is above it. -/
def execSitePowerSample (n : Fin 2) (p : BitVec 16) (s : State) : Host.Outcome State Fault Refusal :=
  let k := n.val
  if !s.diePowered k then .next s
  else
    let w := p.toNat
    let pmax := capPmax (s.st k).cap
    let lim := s.f (F.XSITE_PWR_LIMIT k)
    let above : List (Nat × Nat) :=
      (if pmax * 11 < w * 10 then [(0, 1000)] else []) ++ (if lim ≠ 0 && lim * 11 < w * 10 then [(1, 20000)] else []) ++
      (if 2100 < w then [(2, 100)] else [])
    let since := fun (i : Nat) => Map.get s.bell (s.st k).overs i
    let fail := above.any (fun e => decide (since e.1 + e.2 ≤ s.bell))
    let s1 := (s.setF (F.XSITE_PWR_P k) w).updSt k (fun x => { x with overs := above.map (fun e => (e.1, since e.1)) })
    .next (if fail then (s1.note 0x1 .sitePower 2 (tgtSite k) w).assertModule (14 + k) w else s1)

/-! ### Commands (R460) -/

/-- XSITE_RESET: it replies when discovery ends; a site that EN keeps OFF has none. A fenced site leaves its fence, and its
escalation, by this reset (R404, R451; assumption 105). -/
def xsiteResetDef : CmdDef where
  code := 0x0140
  kinds := [7]
  journaled := true
  act := fun s p _ id =>
    let k := 48 * 64 + 14 + p.unit
    let s := if (s.fence k).on then s.setFence k { on := false, lifted := some s.bell, esc := false } else s
    if s.b (F.XSITE_CFG_EN p.unit) then .later ((s.siteDown p.unit 1).updSt p.unit (fun x => { x with runs := x.runs ++ [id] }))
    else .now (s.siteDown p.unit 0) stOk 0 [] (paramChange p)

def execXsiteReset (p : Packet) (s : State) : Host.Outcome State Fault Refusal := .next (runCmd xsiteResetDef p s)

/-- XSITE_CAP_READ. -/
def xsiteCapReadDef : CmdDef where
  code := 0x0141
  kinds := [7]
  resLen := fun _ _ => some 64
  pre := fun s p _ =>
    let st := s.f (F.XSITE_STAT_STATE p.unit)
    if st = 5 then some (stSetMismatch, s.f (F.XSITE_STAT_REASON p.unit)) else if st = 0 then some (stState, 0) else none
  act := fun s p _ _ => .now s stOk 0 (fitBytes 64 (s.st p.unit).cap) []

def execXsiteCapRead (p : Packet) (s : State) : Host.Outcome State Fault Refusal := .next (runCmd xsiteCapReadDef p s)

end Sys2Proof.Machine
end

