-- ==== Sys2Proof/Machine/Bus.lean ====
section
/-! DEFINITION. Machine/Bus.lean: direct register access through BAR0 (R7 to R12, R16 to R19, R366) and its special registers:
doorbells and queue control (R59 to R64), NODE_CFG (R77), and the enables of links, Crown, OME and power. -/

namespace Sys2Proof.Machine

/-! ### What a register reads as -/

/-- The duties of a tile, as its read-only job registers show them. -/
def State.jobsHere (s : State) (t : Nat) : List Job :=
  s.work.jobs.filter (fun j => j.live && j.shares.any (fun sh => s.server sh.tile == some t))

/-- Age in units of `u` µs, cut to 16 bits. -/
def State.age16 (s : State) (since : Option Nat) (u : Nat) : Nat :=
  match since with | some b => min 0xFFFF ((s.bell - b) / u) | none => 0xFFFF

/-- A module register's value where the module computes it (R364, R410, R430, R474). -/
def State.viewGlobal (s : State) (rel : Nat) (w : Word) : Word :=
  let n := fun (x : Nat) => BitVec.ofNat 32 x
  let latest := fun (a b : Option Nat) => match a, b with
    | some x, some y => some (max x y) | some x, none => some x | none, y => y
  match rel with
  | 0x2008 => n (s.bell % 2 ^ 32)
  | 0x200C => n (s.bell / 2 ^ 32)
  | 0x5034 => F.MFSTATE_RECOV_HOUR.ins w (min 15 (s.recovHour .module).length)
  | 0x7004 =>
    let near := fun (a b : Option Nat) => if s.age16 (latest a b) 1 ≤ s.f F.TWIN_CFG_LEASE_T * 50 then 1 else 0
    F.TWIN_STAT_PATH_PORT.ins (F.TWIN_STAT_PATH_CHAIN.ins w (near s.twin.leaseChain s.twin.ackChain)) (near s.twin.leasePort s.twin.ackPort)
  | 0x7018 => n (s.age16 (latest s.twin.leasePort s.twin.ackPort) 1 + s.age16 (latest s.twin.leaseChain s.twin.ackChain) 1 * 2 ^ 16)
  | 0xA018 => match s.sec.trialAt with
    | some b => n (600 - min 600 ((s.bell - b) / 1000000))
    | none => 0
  | _ => w

/-- The stream that STRM_RING_SEL names. -/
def State.ringSel (s : State) (t : Nat) : Option (Nat × Stream) :=
  (s.liveKey (s.rd (R.STRM_RING_SEL t)).toNat).bind (fun k => (s.stream k).map (fun c => (k, c)))

/-- MEM_MIG_STAT of a tile (R252): the frame its copy engine has in hand and the frames that wait. -/
def State.migStat (s : State) (t : Nat) : Nat :=
  let mine := s.pool.migs.filter (fun m => m.todo.any (fun f => f.srcTile == t))
  let active := mine.find? (fun m => match m.todo with | f :: _ => f.srcTile == t && !decide (m.phase = .queued) | [] => false)
  let waits := (mine.map (fun m => m.todo.countP (fun f => f.srcTile == t))).foldl (· + ·) 0
  match active with
  | some m => 1 + (if m.phase = .hold then 2 else 0) + (waits - 1) % 16384 * 4 + min 512 m.dirty.length * 2 ^ 16
  | none => waits % 16384 * 4

/-- A tile register's value where the module computes it. -/
def State.viewTile (s : State) (t rel : Nat) (w : Word) : Word :=
  let n := fun (x : Nat) => BitVec.ofNat 32 x
  match rel with
  | 0x20004 => (F.CROWN_STAT_PHASE t).ins w (s.crownMap.slot % 3)
  | 0x20008 => n (s.crownMap.slot % 2 ^ 32)
  | 0x2000C => n (s.crownMap.slot / 2 ^ 32)
  | 0x40004 => (F.MEM_STAT_SCRUB_ACTIVE t).ins w (if s.scrubbing t then 1 else 0)
  | 0x40010 => n (s.freeCount t)
  | 0x40030 => n (s.migStat t)
  | 0x50004 =>
    let st := s.f (F.OME_STAT_STATE t)
    (F.OME_STAT_CAL_STALE t).ins w (if st != 0 && st != 1 && (s.stalePass t 0 64 32 || s.stalePass t 1 64 32) then 1 else 0)
  | 0x50104 =>
    let js := s.jobsHere t
    let streamed := js.any (fun j => j.shares.any (fun sh => s.server sh.tile == some t && (!sh.streamed.isEmpty || sh.tile != t || s.overflowed j sh)))
    (F.OMEJ_STAT_STREAMED t).ins ((F.OMEJ_STAT_JOBS t).ins w (min 1024 js.length)) (if streamed then 1 else 0)
  | 0x50108 =>
    if isMemTile t then n (min 4096 (s.stagingFree t / 2 ^ 21) + 2048 * 2 ^ 16) else n (min 2048 (s.stagingFree t / 4096) * 2 ^ 16)
  | 0x60004 =>
    let ops := (s.opsOn t).length
    let opt := match (s.ome t).work with | some (.coll ..) => true | _ => false
    let ctxs := s.ctxKeys.countP (fun c => match s.group c with
      | some g => (maskTiles g.mask).any (fun m => (s.server m).getD m == t) || g.members.any (fun m => s.entryTile m == t)
      | none => false)
    n (min 64 (s.collSlots t) + min 4 ops * 2 ^ 7 + (if opt then 2 ^ 10 else 0) + min 4096 ctxs * 2 ^ 12)
  | 0x70004 =>
    let mine := s.streamKeys.filter (fun k => k / 2 ^ 15 == t)
    n (min 24576 mine.length + mine.countP (fun k => match s.stream k with
      | some c => decide (c.state = .onAlt) || decide (c.state = .suspended) | none => false) * 2 ^ 16)
  | 0x70024 => match s.ringSel t with
    | some (_, c) => n (if c.rxSlots = 0 then 0 else c.ringR % c.rxSlots)
    | none => 0xFFFFFFFF
  | 0x70100 => (F.FAMC_STAT_INVAL_PEND t).ins w (if s.pool.invals.isEmpty then 0 else 1)
  | 0x80304 =>
    let sel := (s.rd (R.MON_SEL t)).toNat
    let point := sel % 8
    let path := sel / 8 % 8
    if point = 0 || 5 < point || 5 < path then 0x80008000
    else n (s.monitor t path (sel / 64 % 64) point + s.commissioned t path (sel / 64 % 64) point * 2 ^ 16)
  | 0x80400 =>
    let total := (Config.ringCount t).toNat
    let listed := (s.ph t).rings
    let base := if decide ((s.ph t).ringBase = .locked) then total - listed.length else 0
    (F.RING_SUM_LOCKED t).ins w (min total (base + listed.countP (fun e => decide (e.2 = .locked))))
  | 0x90004 => (F.BLK_STAT_TRACE_AGE t).ins w (s.age16 (s.bl t).traceAt 60000000)
  | 0x9000C => n (s.chanStat t (s.rd (R.BLK_CH_SEL t)).toNat)
  | 0xA0030 => (F.FSTATE_RECOV_HOUR t).ins w (min 15 (s.recovHour (.tile (Fin.ofNat 48 t))).length)
  | _ => w

/-- Does a register read 0 and ignore writes as R19 states: it is on a fused-off part, or it is one of the OME's, other
than OME_STAT, while the OME is HELD (chapter 09, "OME registers")? -/
def State.hidden (s : State) (pl : Place) (r : RegRow) : Bool :=
  placeFused pl r ||
  (decide (pl.tile < 48) && pl.port == 3 && decide (0x50000 ≤ pl.rel) && decide (pl.rel < 0x50100) && pl.rel != 0x50004 &&
    s.f (F.OME_STAT_STATE pl.tile) == 1)

/-- What a register reads as: 0 at a reserved offset (R9) and where R19 hides it. -/
def State.view (s : State) (off : Nat) : Word :=
  match placeOf off with
  | none => 0
  | some pl => match rowAtPlace pl with
    | none => 0
    | some r =>
      if s.hidden pl r then 0
      else if pl.tile = 48 then s.viewGlobal pl.rel (s.rd off)
      else if pl.port < 3 then s.rd off
      else s.viewTile pl.tile pl.rel (s.rd off)

/-! ### Reads (R8, R9, R83, R366) -/

/-- Does BAR0 access to the offset find a sleeping tile's part outside its always-on island (R366)? -/
def State.sleepsAt (s : State) (off : Nat) : Bool :=
  match placeOf off with
  | none => false
  | some pl =>
    let island := pl.port == 3 && (decide (pl.rel < 0x2000) || (decide (0xA0000 ≤ pl.rel) && decide (pl.rel < 0xB0000)))
    decide (pl.tile < 48) && !island && (s.dozing pl.tile || s.pwr pl.tile == 5)

/-- The _HI partner of a _LO register of a 64-bit quantity (R8). -/
def hiOf (off : Nat) : Option Nat :=
  match placeOf off with
  | none => none
  | some pl =>
    let lo := if pl.tile = 48 then
        [0x2008, 0x5018, 0x7010, 0xA004, 0xB000, 0xB008].contains pl.rel || (decide (0x10110 ≤ pl.rel) && decide (pl.rel < 0x10310) && (pl.rel - 0x10110) % 0x20 == 0)
      else pl.port == 3 && [0x20008, 0x50060, 0x60010, 0xA0018].contains pl.rel
    if lo then some (off + 4) else none

/-- The registers that a read of an offset latches (R8, R83). -/
def latches (off : Nat) : List Nat :=
  if off = R.JRNL_HEAD_SEQ_LO then R.JRNL_HEAD_SEQ_HI :: (List.range 8).map R.JRNL_HEAD_HASH
  else (hiOf off).toList

/-- Is the register one of the journal head's, whose latched value stays until JRNL_HEAD_SEQ_LO is read again (R83)? -/
def jrnlHeld (off : Nat) : Bool := decide (off = R.JRNL_HEAD_SEQ_HI) || (decide (R.JRNL_HEAD_HASH 0 ≤ off) && decide (off ≤ R.JRNL_HEAD_HASH 7))

/-- One register read, with the NOTICE of a sleeping tile, the latched half and the latches it sets. -/
def State.readReg (s : State) (off : Nat) : Word × State :=
  if s.sleepsAt off then (0, s.note 0x0 .sleepingAccess 1 (tgtTile (((placeOf off).map (·.tile)).getD 0)) off)
  else
    let v := (Map.find off s.latch).getD (s.view off)
    let kept := if jrnlHeld off then s.latch else Map.del off s.latch
    (v, { s with latch := (latches off).foldl (fun m h => Map.put h (s.view h) m) kept })

/-! ### The stored value of a write (R10, and the field tables) -/

/-- The bounds that a field table sets on what a write stores: low bit, width, least and greatest value. -/
def clampsAt (pl : Place) (maxW : Nat) : List (Nat × Nat × Nat × Nat) :=
  if pl.tile = 48 then
    match pl.rel with
    | 0x3000 => [(0, 12, 800, maxW), (12, 8, 10, 255)]
    | 0x3004 => [(0, 16, 10, 65535)]
    | 0x4000 => [(8, 8, 0, 45), (16, 8, 1, 255)]
    | 0x5030 => [(0, 8, 1, 255), (8, 4, 1, 15)]
    | 0x6000 => [(0, 8, 1, 255), (8, 8, 1, 255), (16, 8, 1, 255), (24, 8, 10, 255)]
    | 0x7000 => [(16, 5, 4, 31), (21, 6, 1, 63), (27, 4, 1, 15)]
    | _ => []
  else if pl.port < 3 then
    match pl.rel with
    | 0x0 => [(1, 4, 1, 15), (5, 4, 1, 15), (9, 12, 512, 3576)]
    | 0x2000 => [(3, 5, 3, 31)]
    | _ => []
  else
    match pl.rel with
    | 0x20000 => [(2, 6, 3, 63), (8, 8, 10, 255), (16, 8, 5, 255)]
    | 0x30000 => [(0, 16, 1, 65535), (16, 8, 1, 255)]
    | 0x30040 => [(0, 16, 1, 65535), (16, 8, 1, 255)]
    | 0x40000 => [(8, 8, 1, 255), (16, 8, 8, 128)]
    | 0x40008 => [(0, 13, 0, 4096)]
    | 0x50000 => [(4, 8, 5, 100)]
    | 0x50100 => [(0, 8, 1, 255)]
    | 0x60000 => [(1, 4, 2, 15), (5, 8, 1, 255)]
    | 0x70000 => [(1, 15, 1, 32767), (16, 8, 1, 255), (24, 8, 1, 255)]
    | 0x90000 => [(1, 8, 10, 255), (9, 16, 60, 65535), (25, 7, 1, 127)]
    | r => if 0x80008 ≤ r && r < 0x80088 && (r - 0x80008) % 0x10 == 0 then [(0, 8, 100, 150)] else []

/-- The bits of FSEV_k whose severity is fixed at SAFE (R403): THERM_SAFE, SENSOR_LOST and EYE_SAFETY. -/
def fixedSev (rel : Nat) : Word := if rel = 0xA0020 then 0x3C0 else if rel = 0xA0028 then 0x300000 else 0

/-- The value that a write leaves in a register of the row at a place (R9, R10). -/
def State.written (s : State) (off : Nat) (pl : Place) (r : RegRow) (v : Word) : Word :=
  let old := s.rd off
  let rw := BitVec.ofNat 32 r.rw &&& ~~~ (if pl.tile < 48 && pl.port == 3 then fixedSev pl.rel else 0)
  let w := ((old &&& ~~~ rw) ||| (v &&& rw)) &&& ~~~ (v &&& BitVec.ofNat 32 r.w1c)
  (clampsAt pl s.maxInput).foldl (fun (w : Word) c =>
    let x : Fld := ⟨off, c.1, c.2.1⟩
    x.ins w (max c.2.2.1 (min c.2.2.2 (x.ext w)))) w

/-! ### Queue control (R63, R64) -/

/-- A write of Q_CTL (R63, R64). -/
def State.ctlWrite (s : State) (q : Nat) (v : Word) : State :=
  let st := s.f (F.Q_STAT_STATE q)
  let v := v &&& 0xFF
  if st = 0 then
    let s1 := s.wr (R.Q_CTL q) v
    if v.getLsbD 0 then
      (s1.setFs [(F.QDB_SQ_TAIL_TAIL q, 0), (F.QDB_CQ_HEAD_HEAD q, 0), (F.Q_STAT_SQ_HEAD q, 0), (F.Q_STAT_CQ_TAIL q, 0),
        (F.Q_STAT_CQ_FULL q, 0), (F.Q_STAT_STATE q, 1)]).updQu q (fun _ => {})
    else s1
  else
    let port := if (s.rd (R.Q_CTL q)).getLsbD 1 then (2 : Word) else 0
    let en := if st = 3 then (0 : Word) else v &&& 1
    let s1 := s.wr (R.Q_CTL q) ((v &&& 0xFC) ||| port ||| en)
    if st ≠ 3 && en = 0 then s1.disableQueue q else s1

/-! ### Writes with an effect of their own -/

/-- Every optical port is declared down, and trains again with the node ID now held (R77). -/
def State.renumber (s : State) : State :=
  s.each allPorts (fun s p =>
    let en := s.b (F.LINK_CTL_EN p)
    let s1 := if s.linkKeeps p then s.declareDown p (if en then 1 else 0) else s.clearLink p (if en then 1 else 0)
    if s.inTest (p / 3) then s1 else s1.shut p)

/-- Does the module hold a mapped region, a stream context or a collective context (R77)? -/
def State.holdsContext (s : State) : Bool :=
  s.pool.fam.any (fun e => !decide (e.2.kind = .unmapped)) || !s.streamKeys.isEmpty || !s.ctxKeys.isEmpty

/-- Is a write of NODE_CFG one that R77 refuses? -/
def State.nodeRefused (s : State) (v : Word) : Bool := v.toNat % 0x8000 != s.node && s.holdsContext

/-- LINK_CTL.EN changes (R183): lanes relit and the port DOWN, or declared down and dark. -/
def State.linkEnable (s : State) (p : Nat) (on : Bool) : State :=
  if on then
    if s.f (F.LINK_STAT_STATE p) = 0 then
      let s1 := s.setF (F.LINK_STAT_STATE p) 1
      if s1.inTest (p / 3) then s1 else s1.shut p
    else s
  else (s.declareDown p 0).shut p

/-- CROWN_CTL.EN changes (R204). -/
def State.crownEnable (s : State) (t : Nat) (on : Bool) : State :=
  ((s.setF (F.CROWN_STAT_STATE t) (if on then 1 else 0)).updCr t (fun c => { c with align := none })).reapplyDetention t

/-- XSITE_CFG changes: a site that trains without a node ID goes UP with one, and back (R451). -/
def State.siteNode (s : State) (n old : Nat) : State :=
  let node := s.f (F.XSITE_CFG_NODE n)
  if node = old then s
  else
    let s1 := (s.sublinkDown (2 * n)).sublinkDown (2 * n + 1)
    let st := s1.f (F.XSITE_STAT_STATE n)
    if st = 2 || st = 3 || st = 6 then
      let next := if (s1.st n).held ≠ 0 then 6 else if node = 0 then 2 else 3
      (s1.setFs [(F.XSITE_STAT_STATE n, next), (F.XSITE_STAT_REASON n, if node = 0 then 5 else 0)]).sublinksUp n
    else s1

/-- The consumer writes STRM_RING_HEAD (R233): an invalid value frees nothing. -/
def State.ringHeadWrite (s : State) (t v : Nat) : State :=
  match s.ringSel t with
  | none => s
  | some (k, c) =>
    let head := v % 8192
    if c.rxSlots ≤ head then s
    else
      let n := (head + c.rxSlots - c.ringR % c.rxSlots) % c.rxSlots
      if n = 0 || c.ringUsed < n then s
      else
        let (s1, m) := s.mirrorIf (s.homeServer (k / 2 ^ 15)) 1 7 (s.handleOf k) (leBytes 4 head)
        let s2 := s1.updStream k (fun c => { c with ringR := c.ringR + n })
        (s2.dataDone k n m).pumpStream k

/-- What follows a register's new value. -/
def State.afterWrite (s : State) (pl : Place) (old new : Word) : State :=
  let bit0 := old.getLsbD 0 != new.getLsbD 0
  let t := pl.tile
  if t = 48 then
    if pl.rel = 0x20 then (if old = new then s else s.renumber)
    else if pl.rel = 0x3000 then s.updCeil
    else if pl.rel = 0x9000 then s.siteNode 0 (old.toNat / 2 % 2 ^ 15)
    else if pl.rel = 0x9100 then s.siteNode 1 (old.toNat / 2 % 2 ^ 15)
    else if pl.rel = 0x5010 && old.getLsbD 9 && !new.getLsbD 9 then s.clearFirst .module
    else s
  else if pl.port < 3 then (if pl.rel = 0 && bit0 then s.linkEnable (3 * t + pl.port) (new.getLsbD 0) else s)
  else if pl.rel = 0x20000 && bit0 then s.crownEnable t (new.getLsbD 0)
  else if pl.rel = 0x50000 && bit0 then (if new.getLsbD 0 then s.omeStart t else s.disableOme t)
  else if pl.rel = 0x1000 && old ≠ new then s.applyMode t
  else if pl.rel = 0xA0010 && old.getLsbD 8 && !new.getLsbD 8 then s.clearFirst (.tile (Fin.ofNat 48 t))
  else s

/-- Does a module without the Hall Pass refuse the write of a register (R439)? -/
def State.standbyReg (s : State) (off : Nat) : Bool := s.notHolder && mirroredReg off

/-- A register write that has passed every check on who writes: the state, and the change that the journal records (R79):
doorbells, W1C bits and unchanged values are none. -/
def State.storeReg (s : State) (off : Nat) (v : Word) : State × List JChange :=
  match placeOf off with
  | none => (s, [])
  | some pl => match rowAtPlace pl with
    | none => (s, [])
    | some r =>
      if s.hidden pl r then (s, [])
      else if pl.tile = 48 && 0x10000 ≤ pl.rel && pl.rel < 0x10080 then
        let q := (pl.rel - 0x10000) / 8
        (s.doorbell q (pl.rel % 8 == 0) v.toNat, [])
      else if pl.tile = 48 && 0x10100 ≤ pl.rel && pl.rel < 0x10300 && (pl.rel - 0x10100) % 0x20 = 0 then
        let s1 := s.ctlWrite ((pl.rel - 0x10100) / 0x20) v
        (s1, if s.rd off = s1.rd off then [] else [regChange off (s.rd off) (s1.rd off)])
      else if pl.tile < 48 && pl.port = 3 && pl.rel = 0x70024 then
        let s1 := s.ringHeadWrite pl.tile v.toNat
        (s1, if s.view off = s1.view off then [] else [regChange off (s.view off) (s1.view off)])
      else
        let new := s.written off pl r v
        let s1 := (s.wr off new).afterWrite pl (s.rd off) new
        let m := BitVec.ofNat 32 r.rw
        let change := if s.rd off &&& m = new &&& m then [] else [regChange off (s.rd off) new]
        let s2 := if mirroredReg off && s.mirrors && !change.isEmpty then
            (s1.mirror s1.clockMaster 5 0 off (leBytes 4 new.toNat)).1
          else s1
        (s2, change)

/-! ### Writes and reads on BAR0 -/

end Sys2Proof.Machine

namespace Sys2Proof

/-- ORIGIN of a direct BAR0 access (R49, R50). -/
def BusSrc.origin : BusSrc → Nat
  | .cxl n => n.val + 1
  | .chain => 3
  | .jtag => 6

end Sys2Proof

namespace Sys2Proof.Machine

/-- May the access be made: the test port needs a tile in test mode (R50, R479)? -/
def State.busOk (s : State) : BusSrc → Bool
  | .jtag => allTiles.any s.inTest
  | _ => true

/-- The submission areas of the host queues (R59): queue q's 4,096 entries at 0x0400_0000 + q × 0x0010_0000. -/
def sqArea (off : Nat) : Bool := decide (0x04000000 ≤ off) && decide (off < 0x05000000) && decide (off % 0x100000 < 0x40000)

/-- The queue of a doorbell register, where the offset is one. -/
def doorbellOf (off : Nat) : Option Nat := if 0x10000 ≤ off && off < 0x10080 then some ((off - 0x10000) / 8) else none

/-- A direct BAR0 write of an aligned word (R9, R10, R59, R64, R77, R366, R439), journaled with opcode 0xFFFF (R79, R80). -/
def State.busWrite (s : State) (src : BusSrc) (off : Nat) (v : Word) : State :=
  if !s.busOk src then s
  else if off % 4 ≠ 0 then s.note 0x0 .badBar 1 tgtModule off
  else if sqArea off then { s with sq := Memory.write s.sq off (leBytes 4 v.toNat) }
  else if s.sleepsAt off then s.note 0x0 .sleepingAccess 1 (tgtTile (((placeOf off).map (·.tile)).getD 0)) off
  else if s.standbyReg off then s.note 0xA .notHolderWrite 1 tgtModule off
  else if off = R.NODE_CFG && s.nodeRefused v then s.note 0x0 .nodeCfgRefused 1 tgtModule
  else
    let wrong := match doorbellOf off, src with
      | some q, .cxl n => if s.f (F.Q_CTL_PORT q) = n.val then none else some q
      | _, _ => none
    match wrong with
    | some q => s.setF (F.Q_ERR_WRONG_PORT q) 1
    | none =>
      let r := s.storeReg off v
      if r.2.isEmpty then r.1 else r.1.journalise src.origin 0xFFFF 0 r.2 none {}

/-- A direct BAR0 read of an aligned word. Reads of the submission area return 0 (R59). -/
def State.busRead (s : State) (src : BusSrc) (off : Nat) : State :=
  if !s.busOk src then s
  else if off % 4 ≠ 0 then (s.note 0x0 .badBar 1 tgtModule off).emit (.busRead 0)
  else let r := s.readReg off; r.2.emit (.busRead r.1)

/-! ### Meanings -/

/-- Is a write one that the submission area takes: aligned, of 4, 8, 16, 32 or 64 bytes (R59)? -/
def sqWrite (off : Nat) (bs : List Byte) : Bool := sqArea off && [4, 8, 16, 32, 64].contains bs.length && off % bs.length == 0

/-- BAR0_BAD_ACCESS (R7): an access of another width or alignment than a register takes; a read returns 0. The submission
area takes its own widths (R59), and any read of it returns 0. -/
def execBar0BadAccess (src : BusSrc) (off : BitVec 27) (write : Option (List Byte)) (s : State) : Host.Outcome State Fault Refusal :=
  if !s.busOk src then .next s
  else match write with
    | some bs =>
      .next (if sqWrite off.toNat bs then { s with sq := Memory.write s.sq off.toNat bs } else s.note 0x0 .badBar 1 tgtModule off.toNat)
    | none => .next ((s.note 0x0 .badBar 1 tgtModule off.toNat).emit (.busRead 0))

/-- BAR0_REG_WRITE (R9, R10, R59). -/
def execBar0RegWrite (src : BusSrc) (off : BitVec 27) (v : BitVec 32) (s : State) : Host.Outcome State Fault Refusal :=
  .next (s.busWrite src off.toNat v)

/-- REG_LO_READ (R8): a read of a _LO register latches its _HI half; any other register reads as R10 states. -/
def execRegLoRead (src : BusSrc) (off : BitVec 27) (s : State) : Host.Outcome State Fault Refusal := .next (s.busRead src off.toNat)

/-- JRNL_HEAD_SEQ_LO_READ (R83). -/
def execJrnlHeadSeqLoRead (src : BusSrc) (s : State) : Host.Outcome State Fault Refusal := .next (s.busRead src R.JRNL_HEAD_SEQ_LO)

/-- SLEEPING_TILE_ACCESS (R366): a read, or a write of the value given, at an offset of a tile's block. -/
def execSleepingTileAccess (src : BusSrc) (t : Tile) (rel : BitVec 20) (w : Option (BitVec 32)) (s : State) : Host.Outcome State Fault Refusal :=
  match w with
  | some v => .next (s.busWrite src (tileBase t.val + rel.toNat) v)
  | none => .next (s.busRead src (tileBase t.val + rel.toNat))

/-- NODE_CFG_WRITE (R77). -/
def execNodeCfgWrite (src : BusSrc) (v : BitVec 32) (s : State) : Host.Outcome State Fault Refusal := .next (s.busWrite src R.NODE_CFG v)

/-- QDB_SQ_TAIL_WRITE (R63, R64). -/
def execQdbSqTailWrite (src : BusSrc) (q : Queue) (v : BitVec 32) (s : State) : Host.Outcome State Fault Refusal :=
  .next (s.busWrite src (R.QDB_SQ_TAIL q.val) v)

/-- QDB_CQ_HEAD_WRITE (R62, R64). -/
def execQdbCqHeadWrite (src : BusSrc) (q : Queue) (v : BitVec 32) (s : State) : Host.Outcome State Fault Refusal :=
  .next (s.busWrite src (R.QDB_CQ_HEAD q.val) v)

/-- Q_ENABLE (R63): a write of Q_CTL with EN 1. -/
def execQEnable (src : BusSrc) (q : Queue) (v : BitVec 32) (s : State) : Host.Outcome State Fault Refusal :=
  .next (s.busWrite src (R.Q_CTL q.val) (v ||| 1))

/-- Q_DISABLE (R63): a write of Q_CTL with EN 0. -/
def execQDisable (src : BusSrc) (q : Queue) (v : BitVec 32) (s : State) : Host.Outcome State Fault Refusal :=
  .next (s.busWrite src (R.Q_CTL q.val) (v &&& ~~~ 1))

/-- LINK_ENABLE (R183): a write of LINK_CTL with EN 1. -/
def execLinkEnable (src : BusSrc) (p : Port) (v : BitVec 32) (s : State) : Host.Outcome State Fault Refusal :=
  .next (s.busWrite src (R.LINK_CTL p.val) (v ||| 1))

/-- LINK_DISABLE (R183): a write of LINK_CTL with EN 0. -/
def execLinkDisable (src : BusSrc) (p : Port) (v : BitVec 32) (s : State) : Host.Outcome State Fault Refusal :=
  .next (s.busWrite src (R.LINK_CTL p.val) (v &&& ~~~ 1))

/-- CROWN_DISABLE (R204): a write of CROWN_CTL with EN 0. -/
def execCrownDisable (src : BusSrc) (t : Tile) (v : BitVec 32) (s : State) : Host.Outcome State Fault Refusal :=
  .next (s.busWrite src (R.CROWN_CTL t.val) (v &&& ~~~ 1))

/-- OME_DISABLE (R287): a write of OME_CTL with EN 0. -/
def execOmeDisable (src : BusSrc) (t : Tile) (v : BitVec 32) (s : State) : Host.Outcome State Fault Refusal :=
  .next (s.busWrite src (R.OME_CTL t.val) (v &&& ~~~ 1))

/-- TILE_PWR_CTL_WRITE (R377, R384). -/
def execTilePwrCtlWrite (src : BusSrc) (t : Tile) (v : BitVec 32) (s : State) : Host.Outcome State Fault Refusal :=
  .next (s.busWrite src (R.TILE_PWR_CTL t.val) v)

/-- STRM_RING_HEAD_WRITE (R233): on the stream that STRM_RING_SEL of the tile names. -/
def execStrmRingHeadWrite (src : BusSrc) (t : Tile) (v : BitVec 32) (s : State) : Host.Outcome State Fault Refusal :=
  .next (s.busWrite src (R.STRM_RING_HEAD t.val) v)

end Sys2Proof.Machine
end

