-- ==== Sys2Proof/Machine/Twin.lean ====
section
/-! DEFINITION. Machine/Twin.lean: what the Hall Pass moves between modules: lease messages and takeovers (R428 to R435),
mirror records on both sides (R436 to R440), resynchronisation. -/

namespace Sys2Proof.Machine

/-- Change the twin engine's state. -/
def State.updTwin (s : State) (f : Twin → Twin) : State := { s with twin := f s.twin }

/-- LEASE_T in µs (R429). -/
def State.leaseUs (s : State) : Nat := s.f F.TWIN_CFG_LEASE_T * 50

/-- HP_EPOCH (R428). -/
def State.epoch (s : State) : Nat := s.pair F.TWIN_HP_EPOCH_LO F.TWIN_HP_EPOCH_HI

/-- Set HP_EPOCH. -/
def State.setEpoch (s : State) (e : Nat) : State := s.setPair F.TWIN_HP_EPOCH_LO F.TWIN_HP_EPOCH_HI e

/-- The later of two times, where there are any. -/
def latest (a b : Option Nat) : Option Nat :=
  match a, b with
  | some x, some y => some (max x y)
  | some x, none => some x
  | none, y => y

/-- Has nothing of the partner been heard on either path for `us` µs? -/
def State.silentFor (s : State) (us : Nat) : Bool :=
  match latest (latest s.twin.leasePort s.twin.ackPort) (latest s.twin.leaseChain s.twin.ackChain) with
  | some b => decide (b + us ≤ s.bell)
  | none => true

/-! ### Messages (R428) -/

/-- Mirror MSEQ sent and executed, summed over tiles. -/
def mseqSum (m : List (Nat × Nat)) : Nat := (m.map (·.2)).foldl (· + ·) 0

/-- Send a lease message on one path: an LCTL message with its code byte, or a TWIN chain frame without it. -/
def State.twinSend (s : State) (via : TwinPath) (code : Nat) (body : List Byte) : State :=
  match via with
  | .port p => s.enqueue p.val [lctlFlit (leBytes 1 code ++ zeros 3 ++ body)]
  | .chain dest => s.emit (.chain (chainFrame dest.toNat (s.f F.MCH_ADDR_ADDR) 0x20 body))

/-- The paths to the partner: each twin port UP to it, and the chain (R425). -/
def State.twinPaths (s : State) : List TwinPath :=
  (allPorts.filter (fun p => isTwinPort p && s.twinUp p)).map (fun p => TwinPath.port (Fin.ofNat 144 p)) ++
  (if s.f F.TWIN_STAT_PARTNER_MCH = 0 then [] else [.chain (BitVec.ofNat 8 (s.f F.TWIN_STAT_PARTNER_MCH))])

/-- Send a message on every path. -/
def State.twinSendAll (s : State) (code : Nat) (body : List Byte) : State :=
  s.each s.twinPaths (fun s via => s.twinSend via code body)

/-- What fails a holder's self-diagnosis (R433). -/
def State.diagnosisFails (s : State) : Bool :=
  let failed := allTiles.countP (fun t => s.inService t && s.f (F.FSTATE_STATE t) == 4 && (s.server t).isNone)
  s.f F.MFSTATE_STATE != 0 || (s.fence (48 * 64)).on || s.bit R.MFLVL_SRC 4 ||
  (match s.clocks.refLostAt with | some b => decide (b + 600000000 ≤ s.bell) | none => false) ||
  decide (4 < failed) || s.clocks.resetDue.isSome

/-- Send LEASE on every path (R428). -/
def State.sendLease (s : State) : State :=
  s.twinSendAll 8 (leBytes 8 s.epoch ++ leBytes 8 s.bell ++ leBytes 4 s.leaseUs ++ leBytes 8 (mseqSum s.twin.sent) ++
    leBytes 1 (if s.diagnosisFails then 0 else 1))

/-- Answer a LEASE or a RELEASE on the path it came by. -/
def State.sendLeaseAck (s : State) (via : TwinPath) (epoch bell : Nat) : State :=
  s.twinSend via 9 (leBytes 8 epoch ++ leBytes 8 bell ++ leBytes 8 (mseqSum s.twin.done))

/-- Send RELEASE on every path, with its reason: 0 self-diagnosis, 1 planned, 2 revert. -/
def State.sendRelease (s : State) (reason : Nat) : State :=
  (State.flushMirror s.twin.queue.length s).twinSendAll 10 (leBytes 8 s.epoch ++ leBytes 8 (mseqSum s.twin.sent) ++ leBytes 1 reason)

/-! ### Held completions (R439) -/

/-- Release a completion that waited for its record. -/
def State.releaseHold (s : State) (w : MirWait) : State :=
  match w.what with
  | .req key => (s.updStream key (fun c => { c with executed := (c.executed + 1) % 2 ^ 32 })).creditCheck key
  | .data key n => s.returnData key n
  | .cxl n => s.emit (.cxlDone n)
  | .cmd opcode origin journaled path reply changes undo => s.settle opcode origin journaled path reply changes undo

/-- Release the completions that a predicate names. -/
def State.releaseHolds (s : State) (f : MirWait → Bool) : State :=
  let go := s.twin.waits.filter f
  (s.updTwin (fun t => { t with waits := t.waits.filter (fun w => !f w) })).each go State.releaseHold

/-- A module that becomes a standby drops its held completions; its commands end ERR_NOT_HOLDER. -/
def State.dropHolds (s : State) : State :=
  let go := s.twin.waits
  (s.updTwin (fun t => { t with waits := [] })).each go (fun s w =>
    match w.what with
    | .cmd _ _ _ path reply _ _ => s.postFinal path { tag := reply.tag, status := stNotHolder, detail := 0, result := [] }
    | _ => s)

/-! ### Entering a state (R427) -/

/-- Enter RESYNC: a copy of the holder's state is due (R440). -/
def State.enterResync (s : State) : State :=
  (((s.dropHolds.setTwin 2).setFs [(F.TWIN_MIRROR_N, 0), (F.TWIN_RESYNC_N, 0)]).updTwin (fun t => { t with
    done := [], doneAcked := [], asm := [], queue := [], frames := [], resyncing := false, released := none, planned := false,
    begun := false, copyDone := false, syncedAt := none, revertDue := false, ackedLease := none, resetAfter := none, want := none }))

/-- A break in the mirror stream (R438). -/
def State.mirrorBreak (s : State) : State := (s.note 0xA .twinResync 2 tgtModule).enterResync

/-- A holder no longer mirrors (R438): HOLDER_ALONE, every completion released, mirrored work marked. -/
def State.standbyLost (s : State) : State :=
  let s1 := (((s.setTwin 5).setF F.TWIN_STAT_CAUSE 5).setFs [(F.TWIN_MIRROR_N, 0), (F.TWIN_RESYNC_N, 0)]).updTwin (fun t => { t with
    queue := [], resyncing := false, frames := [] })
  let s2 := s1.releaseHolds (fun _ => true)
  let jobs : List Job := s2.work.jobs.map (fun (j : Job) =>
    if j.mirrored && (j.live || decide (j.state = .mirrorWait)) then { j with rflags := j.rflags ||| 16, mirrored := false } else j)
  let s3 : State := { s2 with work := { s2.work with jobs := jobs } }
  let mark := fun (r : CollRun) => if r.state < 2 then ({ r with flags := r.flags ||| 8 } : CollRun) else r
  let s4 := s3.each s3.ctxKeys (fun s n => s.updGroup n (fun g => { g with runs := g.runs.map mark }))
  let ended := s4.work.jobs.filter (fun (j : Job) => decide (j.state = .mirrorWait))
  (s4.each ended (fun s j => s.endJob j.id stOk 0 255)).note 0xA .twinResync 2 tgtModule

/-- The holder fences itself (R432). -/
def State.fenceSelf (s : State) : State :=
  ((s.setTwin 6).setF F.TWIN_STAT_CAUSE 4).updTwin (fun t => { t with resyncing := false, released := none, planned := false, queue := [], frames := [] })

/-! ### Mirror records on the standby (R437 to R440) -/

/-- The opcodes that mirror records carry. -/
def mirroredDef (code : Nat) : Option CmdDef :=
  [memAllocDef, memFreeDef, memMigrateDef, memAttrDef, omeJobSubmitDef, collGroupCreateDef, collGroupDestroyDef, collGroupModifyDef,
   collOpPostDef, collOpAbortDef, famMapDef, reserveReleaseDef, reserveReturnDef].find? (fun d => d.code == code)

/-- The payload of a command's record, taken apart: ORIGIN, the packet, the result. -/
def parseRecord (d : List Byte) : Nat × Packet × List Byte :=
  let rl := leAt d 6 2
  let pl := leAt d 24 4
  let p : Packet := {
    path := .mirror, flags := BitVec.ofNat 16 (leAt d 4 2 / 8 * 8), tag := BitVec.ofNat 16 (leAt d 2 2)
    dataLen := BitVec.ofNat 32 (leAt d 12 4), dataAddr := 0, target := BitVec.ofNat 32 (leAt d 8 4)
    params := (d.drop (28 + rl)).take pl, data := d.drop (28 + rl + pl) }
  (leAt d 0 2, p, (d.drop 28).take rl)

/-- Execute a mirrored command from its record: as on the holder, with the slot and base that its result names, journaled with
ORIGIN 0x4. One that cannot be executed breaks the mirror, but for a job, which then runs on the holder alone. -/
def State.runRecord (s : State) (code : Nat) (data : List Byte) : State :=
  match mirroredDef code with
  | none => s
  | some d =>
    let (o, p0, res) := parseRecord data
    let base := leAt res 8 8 % 2 ^ 49 / 2 ^ 21
    let p : Packet := if code = 0x300 then { p0 with params := p0.params.take 16 ++ leBytes 4 base ++ p0.params.drop 20 } else p0
    let want := if code = 0x300 then some (leAt res 0 4 % 65536) else if code = 0x500 then some (leAt res 0 4 % 4096) else none
    let s1 := s.updTwin (fun t => { t with want := want })
    let clear := fun (s : State) => s.updTwin (fun t => { t with want := none })
    if (d.pre s1 p o).isSome then (if code = 0x400 then s else s.mirrorBreak)
    else match d.act s1 p o s1.proctor.nextId with
      | .now s2 st _ _ ch =>
        let s3 := clear s2
        if d.journaled && st == stOk && !ch.isEmpty then s3.journalise 4 code p.tag.toNat ch none {} else s3
      | .later s2 => (clear s2).updPr (fun pr => { pr with
          running := pr.running ++ [{ id := pr.nextId, opcode := code, origin := 4, pkt := p, fin := none }], nextId := pr.nextId + 1 })

/-- A stream context with the holder's handle, on this module's own ports to EP_NODE (R437). -/
def State.putStream (s : State) (h : Nat) (c : Stream) : State :=
  let key := handleKey h
  let pri := (s.portTo c.epNode).getD c.pri
  let c1 : Stream := { c with pri := pri, alt := s.autoAlt pri c.epNode, state := if s.upTo pri c.epNode then .open_ else .suspended, stateAt := s.bell }
  { s with streams := { s.streams with slots := Map.set {} s.streams.slots key { gen := h / 2 ^ 21 % 2048, ctx := some c1 } } }

/-- Counts that a record carries, put into a context. -/
def Stream.putCounts (c : Stream) (w : Nat → Nat) : Stream :=
  { c with rx0 := w 0, tx0 := w 1, tx1 := w 2, written := w 3, freed := w 4, ringW := w 5, ringR := w 6, reqs := w 7, executed := w 7,
           repData := w 4, repReq := w 7, epFreed := w 8, sent := w 9 }

/-- The 64-bit words of a payload. -/
def wordAt (d : List Byte) (i : Nat) : Nat := leAt d (8 * i) 8

/-- A stream state record (R437): an open, a close, counts, a ring head, or a context of a resync. -/
def State.streamRec (s : State) (aux h : Nat) (data : List Byte) : State :=
  match aux with
  | 0x600 =>
    let (o, p, res) := parseRecord data
    let node := openNode p o
    s.putStream (leAt res 0 4) (newStream p node (openPri p) none s.bell)
  | 0x601 => match s.liveKey h with
    | some k => (s.closeStream k 0).pumpStreams
    | none => s
  | 1 => match s.liveKey h with
    | some k => s.updStream k (fun c => c.putCounts (wordAt data))
    | none => s
  | 7 => match s.liveKey h with
    | some k => s.updStream k (fun c =>
      let n := if c.rxSlots = 0 then 0 else (leAt data 0 4 + c.rxSlots - c.ringR % c.rxSlots) % c.rxSlots
      ({ c with ringR := c.ringR + n, freed := (c.freed + n) % 2 ^ 32 } : Stream))
    | none => s
  | 0xF3 =>
    let w := wordAt data
    let c : Stream := { state := .open_, epNode := w 0, epQueue := w 1, pri := w 17, alt := none, memOnly := w 2 == 1, rxSlots := w 3,
                        ring := w 4, epCredits := w 5, reqCredits := w 6, lastTu := s.bell, openedAt := s.bell }
    s.putStream h (c.putCounts (fun i => w (7 + i)))
  | 0xF4 =>
    let w := wordAt data
    let members : List Member := (List.range (w 4)).map (fun i =>
      { stream := w (6 + 4 * i), peer := w (7 + 4 * i) == 1, firstExpert := w (8 + 4 * i), experts := w (9 + 4 * i) })
    let g : Group := { members := members, mask := w 0, moduleRank := w 1, broken := if w 2 = 0 then none else some (w 2 - 1), nextSeq := w 3 }
    s.updCtx (h % 4096) (fun _ => { gen := w 5, group := some g })
  | _ => s

/-- A contribution to a collective (R437): reduced here, its stream outputs discarded. -/
def State.contribution (s : State) (h : Nat) (data : List Byte) : State :=
  match s.liveKey h with
  | none => s
  | some k => match s.collTake k (Tu.parse data) with | .taken s1 => s1 | _ => s

/-- What a resync replaces: the FAM and region table, stream and collective contexts, staging sets, mirrored registers (R440). -/
def State.clearCopy (s : State) : State :=
  let keep : List (Nat × FrameUse) := s.pool.used.filter (fun (e : Nat × FrameUse) => decide (e.2 = .retired))
  let s1 := s.updPool (fun p => { p with fam := [], regions := [], used := keep, cache := [], migs := [], held := [], invals := [], zeroing := [] })
  let s2 : State := { s1 with streams := {}, work := { s1.work with ctxs := [], sets := [], jobs := [] } }
  let s3 := s2.each (Map.keys s2.regs) (fun s off => if mirroredReg off then (s.storeReg off (regDefault off)).1 else s)
  s3.updTwin (fun t => { t with begun := true, copyDone := false })

/-- A table entry of a resync: FAM, region, staging set, and the first and last record of the copy. -/
def State.copyRec (s : State) (aux addr : Nat) (data : List Byte) : State :=
  let w := wordAt data
  match aux with
  | 0xF0 => s.clearCopy
  | 0xF1 =>
    let e : FamEntry := {
      kind := if w 0 = 1 then .local_ else if w 0 = 2 then .remote else .unmapped
      tier := w 1, ro := w 2 == 1, tile := w 3, gen := w 4, frame := w 5, region := w 6, remNode := w 7, remBase := w 8 }
    let use := fun (u : List (Nat × FrameUse)) => if w 0 = 1 then Map.put (frameKey e.tile e.frame) (.region (e.region % 65536)) u else u
    s.updPool (fun p => { p with fam := Map.set {} p.fam addr e, used := use p.used })
  | 0xF2 =>
    let r : Region := { base := w 2, frames := w 3, ro := w 4 == 1, ready := w 5 == 1 }
    let x : RegionSlot := { gen := w 0, live := if w 1 = 1 then some r else none }
    s.updPool (fun p => { p with regions := Map.set {} p.regions addr x })
  | 0xF5 =>
    let nn := w 8
    let nf := w 9
    let nb := w 10
    let pairs := fun (from_ n : Nat) => (List.range n).map (fun i => (w (from_ + 2 * i), w (from_ + 2 * i + 1)))
    let blocks := pairs (11 + 2 * nn + 2 * nf) nb
    let body := data.drop (8 * (11 + 2 * nn + 2 * nf + 2 * nb))
    let cut := blocks.foldl (fun (x : List (Nat × List Byte) × List Byte) b => (x.1 ++ [(b.1, x.2.take b.2)], x.2.drop b.2)) ([], body)
    let x : StageSet := { gen := w 0, live := true, origin := w 1, waddr := w 2, m := w 3, k := w 4, wfmt := w 5, mask := w 6, ready := w 7 == 1,
                          need := pairs 11 nn, free := pairs (11 + 2 * nn) nf, data := cut.1 }
    { s with work := { s.work with sets := Map.put addr x s.work.sets } }
  | 0xFF => s.updTwin (fun t => { t with copyDone := true })
  | _ => s

/-- A memory write of the holder, at the same offset of this module's pool (R437). -/
def State.writeCopy (s : State) (t addr : Nat) (data : List Byte) : State :=
  match s.writeFabric t (s.fabricAddr (addrOffset addr)) data with
  | (.ok s1, _) => s1
  | (.error _, s1) => s1

/-- Execute one whole mirror record of source tile t (R437): KIND, the rest of AUX, ADDR, payload. -/
def State.execRecord (s : State) (t kind aux addr : Nat) (data : List Byte) : State :=
  match kind with
  | 0 => s.writeCopy t addr data
  | 1 => s.streamRec aux addr data
  | 2 => if aux = 0 then s.contribution addr data else s.runRecord aux data
  | 3 => if aux / 16 = 15 then s.copyRec aux addr data else s.runRecord aux data
  | 4 => s.writeCopy t addr data
  | 5 =>
    let r := s.storeReg addr (BitVec.ofNat 32 (leAt data 0 4))
    if r.2.isEmpty then r.1 else r.1.journalise 4 0xFFFF 0 r.2 none {}
  | 6 =>
    let e := s.famEntry (addrIndex addr)
    if decide (e.kind = .local_) then { s with dram := Memory.write s.dram (dramKey e.tile e.frame (addrByte addr)) data } else s
  | _ => s

/-- Answer a tile's records with a cumulative MIRROR_ACK (R438). -/
def State.sendMirrorAck (s : State) (t : Nat) : State :=
  let n := Map.get 0 s.twin.done t
  match s.mirrorPort t 0 with
  | none => s
  | some p =>
    let tu : Tu := { type := 0x0A, flags := 0, stream := t, tsn := (n + 2 ^ 32 - 1) % 2 ^ 32, aux := 0, addr := 0, data := [] }
    (s.enqueue p [tuFlit 1 tu none]).updTwin (fun x => { x with doneAcked := Map.put t n x.doneAcked })

/-- Take the next record of a tile, in MSEQ order: runs of transport units from FIRST to LAST (R438). -/
def State.takeRecord (s : State) (tu : Tu) : State :=
  let t := tu.stream % 64
  let got := (if tu.flags % 2 = 1 then [] else Map.get [] s.twin.asm t) ++ tu.data
  let last := tu.flags / 2 % 2 == 1
  let n := match Map.find t s.twin.done with | some e => e | none => tu.tsn
  let s1 := s.updTwin (fun x => { x with asm := if last then Map.del t x.asm else Map.put t got x.asm })
  if !last then s1
  else
    let s2 := s1.updTwin (fun x => { x with done := Map.put t (n + 1) x.done, doneAcked := Map.put t (Map.get n x.doneAcked t) x.doneAcked })
    let s3 := s2.execRecord t (tu.aux % 256) (tu.aux / 256) tu.addr got
    if s3.twinState ≠ 2 && s3.twinState ≠ 3 then s3
    else if 64 ≤ Map.get 0 s3.twin.done t - Map.get 0 s3.twin.doneAcked t then s3.sendMirrorAck t else s3

/-- Is a mirror record the next of its tile: the expected MSEQ, and after a resync has been asked for any first? -/
def State.nextRecord (s : State) (tu : Tu) : Bool :=
  match Map.find (tu.stream % 64) s.twin.done with
  | some e => e % 2 ^ 32 == tu.tsn
  | none => true

/-- The mirror records that wait in the receive buffers of the twin ports. -/
def State.waitingRecords (s : State) : List (Nat × Flit) :=
  (allPorts.filter isTwinPort).flatMap (fun p => ((s.link p).rxq.filter (fun f => decide (f.type = .data) && f.vc == 0 && leAt f.payload 0 1 == 9)).map
    (fun f => (p, f)))

/-- Execute every mirror record received, in MSEQ order per tile (R434). -/
def State.drainRecords : Nat → State → State
  | 0, s => s
  | n + 1, s =>
    match s.waitingRecords.find? (fun x => s.nextRecord (Tu.parse x.2.payload)) with
    | none => s
    | some (p, f) => match s.popRx p 0 f.payload with
      | none => s
      | some s1 => State.drainRecords n (s1.takeRecord (Tu.parse f.payload))

/-! ### Taking the Hall Pass (R434, R436) -/

/-- HOLDER_NOTICE of this module on a stream (R436). -/
def State.ownNotice (s : State) (key : Nat) : State :=
  match s.stream key with
  | none => s
  | some c =>
    let tu : Tu := { type := 8, flags := 0, stream := c.epQueue, tsn := 0, aux := c.rx0, addr := s.node + s.epoch % 2 ^ 32 * 2 ^ 32,
                     data := leBytes 4 (s.handleOf key) ++ leBytes 4 c.tx0 ++ leBytes 4 c.tx1 }
    match s.txPort c with
    | some p => s.enqueue p [tuFlit 1 tu none]
    | none => match s.portTo c.epNode with
      | some p => s.enqueue p [tuFlit 1 tu none]
      | none => s

/-- A stream context of the new holder: OPEN on its own port, or SUSPENDED if none is UP. -/
def State.claimStream (s : State) (key : Nat) : State :=
  let s1 := s.updStream key (fun c =>
    let onAlt := match c.alt with | some a => s.upTo a c.epNode | none => false
    let st : StreamState := if s.upTo c.pri c.epNode then .open_ else if onAlt then .onAlt else .suspended
    if c.state = .faulted || c.state = .closing then c else { c with stateAt := s.bell, state := st })
  s1.ownNotice key

/-- The reply path of a mirrored job on this module, by the job's ORIGIN (R310). -/
def State.pathOf (s : State) (o : Nat) : Path :=
  match originCode o with
  | 3 => .chain 0x7F
  | 5 => match s.portTo (o % 0x8000) with
    | some p => if 240 ≤ p then .site (Fin.ofNat 4 (p - 240)) else .port (Fin.ofNat 144 p)
    | none => .mirror
  | 6 => .jtag
  | _ => .host (Fin.ofNat 16 (o / 16))

/-- A mirrored job that this module completes posts its final reply here (R310). -/
def State.adoptReply (s : State) (r : Running) : State :=
  match s.work.jobs.find? (fun j => j.id == r.id) with
  | none => s
  | some j =>
    let path := s.pathOf j.origin
    let pkt : Packet := { r.pkt with path := path }
    let swap := fun (x : Running) => if x.id = r.id then ({ x with origin := j.origin, pkt := pkt } : Running) else x
    let s1 := s.updPr (fun pr => { pr with running := pr.running.map swap })
    match path with
    | .port p => s1.updLink p.val (fun l => { l with inband := l.inband ++ [j.tag] })
    | .site k => s1.updLink (240 + k.val) (fun l => { l with inband := l.inband ++ [j.tag] })
    | _ => s1

/-- TAKE_HALL_PASS (R434): by RELEASE, expiry, a planned handover or a revert; `planned` where the other module executed every
record (R435). -/
def State.takeHallPass (s : State) (planned : Bool) : State :=
  let s1 := State.drainRecords s.waitingRecords.length s
  let e := s1.epoch + 1
  let old := leBytes 8 s1.epoch
  let s2 := ((s1.setEpoch e).policy tgtModule R.TWIN_HP_EPOCH_LO (some old) (some (leBytes 8 e))).raiseMod 12
  let s3 := ((s2.setTwin 5).setF F.TWIN_STAT_CAUSE 0).bump F.TWIN_CNT_HANDOVER
  let s4 := s3.updTwin (fun t => { t with
    planned := planned, released := none, resyncing := false, queue := [], frames := [], ackedLease := none, acked := t.sent, asm := [], waits := [],
    syncedAt := none, revertDue := false, resetAfter := none })
  let s5 := s4.each s4.streamKeys State.claimStream
  let s6 := s5.each s5.ctxKeys (fun s n => match s.group n with
    | some g => if g.cur.isSome then s.stopOps n 0x8503 0 4 0xFFFF 255 else s
    | none => s)
  let s7 := s6.each (s6.proctor.running.filter (fun r => r.opcode == 0x400 && decide (r.pkt.path = .mirror))) State.adoptReply
  s7.pumpStreams.sendLease

/-! ### Resynchronisation at the holder (R440) -/

/-- A mirror record of a resync. -/
def State.copyOut (s : State) (t kind aux addr : Nat) (words : List Nat) (tail : List Byte := []) : State :=
  (s.mirror t kind aux addr (words.flatMap (leBytes 8) ++ tail)).1

/-- The contexts and tables of a resync, as kind 1, 3 and 5 records. -/
def State.copyTables (s : State) : State :=
  let cm := s.clockMaster
  let s1 := s.copyOut cm 3 0xF0 0 []
  let s2 := s1.each s.pool.regions (fun s (e : Nat × RegionSlot) => s.copyOut cm 3 0xF2 e.1
    (match e.2.live with
     | some r => [e.2.gen, 1, r.base, r.frames, if r.ro then 1 else 0, if r.ready then 1 else 0]
     | none => [e.2.gen, 0]))
  let s3 := s2.each s.pool.fam (fun s (e : Nat × FamEntry) => s.copyOut cm 3 0xF1 e.1
    [match e.2.kind with | .unmapped => 0 | .local_ => 1 | .remote => 2, e.2.tier, if e.2.ro then 1 else 0, e.2.tile, e.2.gen, e.2.frame,
     e.2.region, e.2.remNode, e.2.remBase])
  let s4 := s3.each s.streamKeys (fun s k => match s.stream k with
    | none => s
    | some c => s.copyOut (s.homeServer (k / 2 ^ 15)) 1 0xF3 (s.handleOf k)
        ([c.epNode, c.epQueue, if c.memOnly then 1 else 0, c.rxSlots, c.ring, c.epCredits, c.reqCredits] ++ s.countWords k c ++ [c.pri]))
  let s5 := s4.each s.ctxKeys (fun s n => match s.group n with
    | none => s
    | some g => s.copyOut cm 1 0xF4 n
        ([g.mask, g.moduleRank, (match g.broken with | some x => x + 1 | none => 0), g.nextSeq, g.members.length, (s.ctx n).gen] ++
         g.members.flatMap (fun m => [m.stream, if m.peer then 1 else 0, m.firstExpert, m.experts])))
  let s6 := s5.each (s.regs.filter (fun e => mirroredReg e.1)) (fun s (e : Nat × Word) => (s.mirror cm 5 0 e.1 (leBytes 4 e.2.toNat)).1)
  s6.each (s.work.sets.filter (fun e => e.2.live && !e.2.temp)) (fun s (e : Nat × StageSet) =>
    let x := e.2
    s.copyOut cm 3 0xF5 e.1
      ([x.gen, x.origin, x.waddr, x.m, x.k, x.wfmt, x.mask, if x.ready then 1 else 0, x.need.length, x.free.length, x.data.length] ++
       x.need.flatMap (fun p => [p.1, p.2]) ++ x.free.flatMap (fun p => [p.1, p.2]) ++ x.data.flatMap (fun b => [b.1, b.2.length]))
      (x.data.flatMap (·.2)))

/-- Start a resync of the partner: tables and contexts, then every mapped frame in ascending FAM index. Inputs are mirrored
from here on. -/
def State.startResync (s : State) : State :=
  let s1 := (s.updTwin (fun t => { t with acked := t.sent, queue := [], frames := [] })).copyTables
  let mapped := (s1.pool.fam.filter (fun (e : Nat × FamEntry) => decide (e.2.kind = .local_)))
  let s2 := s1.each mapped (fun s (e : Nat × FamEntry) =>
    let (s1, m) := s.mirror e.2.tile 6 0 (s.fabricAddr (e.1 * 2 ^ 21)) (Memory.read s.dram (dramKey e.2.tile e.2.frame 0) (2 ^ 21))
    s1.updTwin (fun t => { t with frames := t.frames ++ [(e.2.tile, m)] }))
  let s3 := s2.copyOut s2.clockMaster 3 0xFF 0 []
  (s3.setSat F.TWIN_RESYNC_N s3.twin.frames.length).updTwin (fun t => { t with resyncing := true })

end Sys2Proof.Machine
end

