-- ==== Sys2Proof/Machine/TwinRows.lean ====
section
/-! DEFINITION. Machine/TwinRows.lean: the events of twin pairs (R426 to R443) and the commands of group 0x0A (R444, R447). -/

namespace Sys2Proof.Machine

/-! ### Pairing (R426, R427) -/

/-- Pairing fails for good: MISMATCH. -/
def State.pairMismatch (s : State) : State := ((s.setTwin 7).setF F.TWIN_STAT_CAUSE 1).note 0xA .pairingRefused 3 tgtModule

/-- The checks of R426 have passed: the partner is known, LEASE_T is the home-active module's, and the roles begin. `lead`: this
module becomes holder. -/
def State.pairUp (s : State) (h : PairHello) (lead : Bool) : State :=
  let lease := if s.f F.TWIN_STAT_HOME = 1 then s.f F.TWIN_CFG_LEASE_T else h.leaseT.toNat
  let s1 := s.policyReg tgtModule R.TWIN_CFG (F.TWIN_CFG_LEASE_T.ins (s.rd R.TWIN_CFG) (max 4 lease))
  let s2 := (s1.setFs [(F.TWIN_PARTNER_NODE, h.node.toNat), (F.TWIN_STAT_PARTNER_MCH, h.chain.toNat), (F.TWIN_STAT_CAUSE, 0)]).setEpoch
    (max 1 s1.epoch)
  let s3 := s2.updTwin (fun t => { t with partner := some h, identity := some (t.identity.getD h.idHash) })
  if s3.twinState ≠ 1 then s3
  else if lead && s3.silentFor s3.leaseUs then s3.setTwin 5
  else s3.enterResync

/-- PAIR_HELLO (R426): received on a twin port or the chain, and checked. It is read while the module pairs, and by a holder
whose partner returns. -/
def State.hello (s : State) (h : PairHello) : State :=
  let home := s.f F.TWIN_STAT_HOME
  let own := s.ownHello
  if home = 0 || !(s.twinState == 1 || s.twinState == 5) then s
  else if h.stepping ≠ own.stepping || h.fw ≠ own.fw || h.ucode ≠ own.ucode || h.pairNode ≠ own.pairNode then s.pairMismatch
  else
    let s1 := s.updTwin (fun t => { t with partner := some h })
    if (match s.twin.identity with | some x => !decide (x = h.idHash) | none => false) then
      (s1.setF F.TWIN_STAT_CAUSE 2).note 0xA .pairingRefused 2 tgtModule
    else if h.home.toNat = home then
      if home = 1 then (s1.note 0xA .twinConflict 2 tgtModule).pairUp h (decide (s.node < h.node.toNat))
      else if s.twinState = 5 then s1.pairUp h true
      else (s1.setF F.TWIN_STAT_CAUSE 3).note 0xA .twinConflict 3 tgtModule
    else s1.pairUp h (home == 1)

/-- Does a message on a path come from where the partner may be: a twin port that is UP, or the chain? -/
def State.twinVia (s : State) : TwinPath → Bool
  | .port p => isTwinPort p.val && s.linkUp p.val
  | .chain _ => true

/-- Does a lease message come from the partner (R425, R428)? -/
def State.fromPartner (s : State) : TwinPath → Bool
  | .port p => isTwinPort p.val && s.twinUp p.val
  | .chain src => src.toNat != 0 && src.toNat == s.f F.TWIN_STAT_PARTNER_MCH

/-- PAIR_HELLO (R426). -/
def execPairHello (via : TwinPath) (h : PairHello) (s : State) : Host.Outcome State Fault Refusal :=
  .next (if s.twinVia via then s.hello h else s)

/-- PAIR_HELLO_RESEND (R426): on the chain, every 100 ms until the module is paired. -/
def execPairHelloResend (s : State) : Host.Outcome State Fault Refusal :=
  .next (if s.f F.TWIN_STAT_HOME ≠ 0 && !s.paired then s.emit (.hello none s.ownHello) else s)

/-- PARTNER_WAIT_TIMEOUT (R427, R443): a home-active module that has paired with no partner 1 s after PROCTOR_READY. -/
def execPartnerWaitTimeout (s : State) : Host.Outcome State Fault Refusal :=
  let due := match s.twin.readyAt with | some b => decide (b + 1000000 ≤ s.bell) | none => false
  .next (if s.twinState = 1 && s.f F.TWIN_STAT_HOME = 1 && due then (s.setTwin 5).setEpoch (max 1 s.epoch) else s)

/-! ### The lease (R428 to R432) -/

/-- LEASE_RENEWAL_DUE (R428). -/
def execLeaseRenewalDue (s : State) : Host.Outcome State Fault Refusal :=
  .next (if (s.twinState == 4 || s.twinState == 5) && s.paired && s.twin.released.isNone then s.sendLease else s)

/-- Do both paths carry lease messages (R430)? -/
def State.bothPaths (s : State) : Bool :=
  let near := fun (a b : Option Nat) => match latest a b with | some x => decide (s.bell < x + 1000) | none => false
  near s.twin.leasePort s.twin.ackPort && near s.twin.leaseChain s.twin.ackChain

/-- A lease message has been seen: TWIN_PATH clears once both paths carry them again (R430). -/
def State.pathSeen (s : State) : State :=
  if !s.bothPaths then s
  else
    let s1 := s.fallMod 13
    if s1.twinState = 3 && s1.twin.syncedAt.isNone then s1.updTwin (fun t => { t with syncedAt := some s1.bell }) else s1

/-- A module that has handed the Hall Pass over, or sees that it has moved on, becomes a standby: SYNCED after a planned
handover, whose TWIN_HANDOVER ends now (R435), else RESYNC. -/
def State.yield (s : State) (planned : Bool) : State :=
  let s1 := match s.twin.handover with | some id => s.finishParam id stOk 0 | none => s
  let s2 := (s1.updTwin (fun t => { t with handover := none })).enterResync
  let s3 := if planned then (s2.setTwin 3).updTwin (fun t => { t with syncedAt := if s2.bothPaths then some s2.bell else none }) else s2
  s3.raiseMod 12

/-- A home-active standby whose REVERT_HOLD has run out asks for the Hall Pass at a LEASE (R442). -/
def State.revert (s : State) : State :=
  if s.twinState = 3 && s.twin.revertDue then
    (s.sendRelease 2).updTwin (fun t => { t with released := some 2, revertDue := false })
  else s

/-- LEASE received (R428): the lease is renewed and answered on the path it came by. A fenced module enters RESYNC (R427); a
module that held the Hall Pass sees the newer epoch of its successor. -/
def State.lease (s : State) (via : TwinPath) (epoch bell : Nat) : State :=
  if !s.fromPartner via || epoch < s.epoch then s
  else
    let s1 := (s.updTwin (fun t => match via with
      | .port _ => { t with leasePort := some s.bell }
      | .chain _ => { t with leaseChain := some s.bell })).pathSeen
    let st := s1.twinState
    let go := fun (s : State) => (s.setEpoch epoch).sendLeaseAck via epoch bell
    if st = 2 || st = 3 then (go s1).revert
    else if st = 6 then go s1.enterResync
    else if (st = 4 || st = 5) && s1.epoch < epoch then go (s1.yield s1.twin.planned)
    else s1

/-- LEASE (R428). The health bit changes nothing at the standby. -/
def execLease (via : TwinPath) (epoch bell : BitVec 64) (_leaseT : BitVec 32) (_mseq : BitVec 64) (_health : BitVec 8) (s : State) :
    Host.Outcome State Fault Refusal := .next (s.lease via epoch.toNat bell.toNat)

/-- LEASE_ACK received (R432): the fence timer counts from the LEASE it answers. It also answers a RELEASE (R434, R435, R442),
and tells a holder that serves alone that its partner listens. -/
def State.leaseAck (s : State) (via : TwinPath) (epoch bell : Nat) : State :=
  if !s.fromPartner via || epoch < s.epoch then s
  else
    let s1 := (s.updTwin (fun t => match via with
      | .port _ => { t with ackPort := some s.bell, ackedLease := latest t.ackedLease (some bell) }
      | .chain _ => { t with ackChain := some s.bell, ackedLease := latest t.ackedLease (some bell) })).pathSeen
    let st := s1.twinState
    match s1.twin.released with
    | some 0 => if st = 4 || st = 5 then s1.yield false else s1
    | some 2 => if st = 3 then s1.takeHallPass true else s1
    | some _ => s1
    | none =>
      if st ≠ 5 then s1
      else if s1.twin.planned then (s1.setTwin 4).updTwin (fun t => { t with planned := false })
      else if !s1.twin.resyncing && (allPorts.any (fun p => isTwinPort p && s1.twinUp p)) then s1.startResync
      else s1

/-- LEASE_ACK (R428, R432). -/
def execLeaseAck (via : TwinPath) (epoch bell : BitVec 64) (_mseq : BitVec 64) (s : State) : Host.Outcome State Fault Refusal :=
  .next (s.leaseAck via epoch.toNat bell.toNat)

/-- RELEASE received (R434, R435, R442, R443): a SYNCED standby takes the Hall Pass; one in RESYNC writes a CRIT record; a
holder asked to revert stops, flushes its records and answers. -/
def State.release (s : State) (via : TwinPath) (epoch reason : Nat) : State :=
  if !s.fromPartner via || epoch < s.epoch then s
  else
    let st := s.twinState
    if reason ≤ 1 then
      if st = 3 then (s.sendLeaseAck via epoch s.bell).takeHallPass (reason == 1)
      else if st = 2 then s.note 0xA .holderChange 3 tgtModule
      else s
    else if reason = 2 && st = 4 then
      ((State.flushMirror s.twin.queue.length s).updTwin (fun t => { t with released := some 1, planned := true })).sendLeaseAck via epoch s.bell
    else s

/-- RELEASE (R428, R434). -/
def execRelease (via : TwinPath) (epoch : BitVec 64) (_mseq : BitVec 64) (reason : BitVec 8) (s : State) :
    Host.Outcome State Fault Refusal := .next (s.release via epoch.toNat reason.toNat)

/-- LEASE_EXPIRY (R431): no LEASE on either path for LEASE_T + 100 µs after the last one seen. -/
def execLeaseExpiry (s : State) : Host.Outcome State Fault Refusal :=
  let due := match latest s.twin.leasePort s.twin.leaseChain with | some b => decide (b + s.leaseUs + 100 ≤ s.bell) | none => false
  if !due then .next s
  else match s.twinState with
    | 3 => .next (s.takeHallPass false)
    | 1 => .next (s.note 0xA .holderChange 3 tgtModule)
    | 2 => .next (s.note 0xA .holderChange 3 tgtModule)
    | 6 => .next (s.note 0xA .holderChange 3 tgtModule)
    | _ => .next s

/-- SELF_FENCE (R432): no LEASE_ACK for LEASE_T, counted from the sending of the last LEASE that one answered. -/
def execSelfFence (s : State) : Host.Outcome State Fault Refusal :=
  let due := match s.twin.ackedLease with | some b => decide (b + s.leaseUs ≤ s.bell) | none => false
  .next (if (s.twinState == 4 || s.twinState == 5) && due then s.fenceSelf else s)

/-- SELF_DIAGNOSIS_FAIL (R433, R434): RELEASE leaves on every path; a reset by command starts once it is answered, or after
1 ms. -/
def execSelfDiagnosisFail (s : State) : Host.Outcome State Fault Refusal :=
  if !((s.twinState == 4 || s.twinState == 5) && s.paired && s.twin.released.isNone && s.diagnosisFails) then .next s
  else .next ((s.sendRelease 0).updTwin (fun t => { t with released := some 0, resetAfter := some (s.bell + 1000) }))

/-- LEASE_PATH_LOSS (R430): one path has carried none for 1 ms while the other has. -/
def execLeasePathLoss (s : State) : Host.Outcome State Fault Refusal :=
  let near := fun (a b : Option Nat) => match latest a b with | some x => decide (s.bell < x + 1000) | none => false
  let p := near s.twin.leasePort s.twin.ackPort
  let c := near s.twin.leaseChain s.twin.ackChain
  .next (if p = c || s.twinState = 0 then s else (s.updTwin (fun t => { t with syncedAt := none, revertDue := false })).raiseMod 13 0 true)

/-! ### Notices and mirroring (R436 to R442) -/

/-- HOLDER_NOTICE (R436): a stream transport unit reaches a module without the Hall Pass, which names the holder it knows. -/
def execHolderNotice (v : Via) (bytes : List Byte) (s : State) : Host.Outcome State Fault Refusal :=
  let t := (Tu.parse bytes).type
  if !s.notHolder || t = 0 || 3 < t then .next s
  else .next (s.takeTu v.code 0 bytes (fun s tu => match s.tuStream v.code tu with | .error s1 => s1 | .ok _ => s))

/-- MIRROR (R438): the standby executes a record that is its tile's next; one that comes before its turn waits where the next is
on its way in another port's buffer, and is a break else. A record already executed is dropped, and so is one that reaches a
module that executes none (DESIGN CHOICE, assumption 182). -/
def execMirror (p : Port) (bytes : List Byte) (s : State) : Host.Outcome State Fault Refusal :=
  let tu := Tu.parse bytes
  if tu.type ≠ 9 then .next s
  else if !s.twinUp p.val || !(s.twinState == 2 || s.twinState == 3) then .next ((s.popRx p.val 0 (fitBytes 232 bytes)).getD s)
  else if s.nextRecord tu then
    .next (match s.popRx p.val 0 (fitBytes 232 bytes) with | some s1 => s1.takeRecord tu | none => s)
  else if (s.waitingRecords.any (fun x => let y := Tu.parse x.2.payload; y.stream % 64 == tu.stream % 64 && s.nextRecord y)) then .next s
  else match s.popRx p.val 0 (fitBytes 232 bytes) with
    | none => .next s
    | some s1 =>
      let e := (Map.find (tu.stream % 64) s.twin.done).getD 0
      .next (if 2 ^ 31 ≤ (tu.tsn + 2 ^ 32 - e % 2 ^ 32) % 2 ^ 32 then s1 else s1.mirrorBreak)

/-- MIRROR_ACK (R438, R439): completions whose record it covers are released, and a resync shows the frames left. -/
def execMirrorAck (p : Port) (bytes : List Byte) (s : State) : Host.Outcome State Fault Refusal :=
  let tu := Tu.parse bytes
  if tu.type ≠ 10 then .next s
  else if !s.twinUp p.val || !(s.twinState == 4 || s.twinState == 5) then .next ((s.popRx p.val 1 (fitBytes 232 bytes)).getD s)
  else match s.popRx p.val 1 (fitBytes 232 bytes) with
    | none => .next s
    | some s1 =>
      let t := tu.stream % 64
      let a := Map.get 0 s1.twin.acked t
      let d := (tu.tsn + 1 + 2 ^ 32 - a % 2 ^ 32) % 2 ^ 32
      if d = 0 || Map.get 0 s1.twin.sent t < a + d then .next s1
      else
        let s2 := s1.updTwin (fun x => { x with acked := Map.put t (a + d) x.acked, frames := x.frames.filter (fun f => !(f.1 == t && decide (f.2 < a + d))) })
        let s3 := if s2.twin.resyncing then s2.setSat F.TWIN_RESYNC_N s2.twin.frames.length else s2
        .next ((s3.releaseHolds (fun w => w.tile == t && decide (w.mseq < a + d))).syncMirror)

/-- MIRROR_ACK_DUE (R438): 1 µs after the first record of a tile not yet acknowledged. -/
def execMirrorAckDue (t : Tile) (s : State) : Host.Outcome State Fault Refusal :=
  .next (if (s.twinState == 2 || s.twinState == 3) && decide (Map.get 0 s.twin.doneAcked t.val < Map.get 0 s.twin.done t.val) then s.sendMirrorAck t.val else s)

/-- TWIN_PORTS_UNREACHABLE (R438, R443): no twin port for 200 µs while LEASE_ACK still arrives on the chain; at a SYNCED
standby the mirror stream is broken. -/
def execTwinPortsUnreachable (s : State) : Host.Outcome State Fault Refusal :=
  if (allPorts.any (fun p => isTwinPort p && s.twinUp p)) || !s.paired then .next s
  else
    let acks := match s.twin.ackChain with | some b => decide (s.bell ≤ b + s.leaseUs) | none => false
    if (s.twinState == 4 || s.twinState == 5 && s.twin.resyncing) && acks then .next s.standbyLost
    else if s.twinState = 3 then .next s.mirrorBreak
    else .next s

/-- RESYNC_COMPLETE (R440): every record of the copy sent and acknowledged: the holder is HOLDER, the standby SYNCED. -/
def execResyncComplete (s : State) : Host.Outcome State Fault Refusal :=
  if s.twinState = 5 && s.twin.resyncing && s.twin.queue.isEmpty && s.twin.frames.isEmpty &&
      s.twin.sent.all (fun e => Map.get 0 s.twin.acked e.1 == e.2) then
    .next (((s.setTwin 4).setFs [(F.TWIN_STAT_CAUSE, 0), (F.TWIN_RESYNC_N, 0)]).updTwin (fun t => { t with resyncing := false }))
  else if s.twinState = 2 && s.twin.copyDone && s.twin.asm.isEmpty && s.twin.done.all (fun e => Map.get 0 s.twin.doneAcked e.1 == e.2) then
    .next ((s.setTwin 3).updTwin (fun t => { t with syncedAt := if s.bothPaths then some s.bell else none }))
  else .next s

/-- REVERT_HOLD_EXPIRY (R442): RELEASE goes at the next LEASE. -/
def execRevertHoldExpiry (s : State) : Host.Outcome State Fault Refusal :=
  let due := match s.twin.syncedAt with | some b => decide (b + s.f F.TWIN_CFG_REVERT_HOLD * 1000000 ≤ s.bell) | none => false
  .next (if s.twinState = 3 && s.f F.TWIN_STAT_HOME = 1 && s.b F.TWIN_CFG_REVERT_EN && s.bothPaths && due then
      s.updTwin (fun t => { t with revertDue := true })
    else s)

/-! ### Commands of group 0x0A (R444) -/

/-- In MISMATCH every command of the group is refused (R426). -/
def State.twinPre (s : State) (rest : Option (Nat × Nat)) : Option (Nat × Nat) :=
  if s.twinState = 7 then some (stSetMismatch, 0) else rest

/-- TWIN_STATUS. -/
def twinStatusDef : CmdDef where
  code := 0x0A00
  resLen := fun _ _ => some 32
  pre := fun s _ _ => s.twinPre none
  act := fun s _ _ _ =>
    let v := fun (off : Nat) => leBytes 4 (s.view off).toNat
    .now s stOk 0 (v R.TWIN_STAT ++ v R.TWIN_PARTNER ++ v R.TWIN_HP_EPOCH_LO ++ v R.TWIN_HP_EPOCH_HI ++ v R.TWIN_LEASE ++ v R.TWIN_MIRROR ++
      v R.TWIN_RESYNC ++ zeros 4) []

/-- TWIN_STATUS (R444). -/
def execTwinStatus (p : Packet) (s : State) : Host.Outcome State Fault Refusal := .next (runCmd twinStatusDef p s)

/-- TWIN_BIND: the present partner's identity hash is stored. -/
def twinBindDef : CmdDef where
  code := 0x0A01
  origins := [1, 2, 3]
  pre := fun s _ _ => s.twinPre (if s.f F.TWIN_STAT_CAUSE = 2 then none else some (stState, 0))
  journaled := true
  act := fun s p _ _ =>
    let s1 := (s.updTwin (fun t => { t with identity := (t.partner.map (·.idHash)).or t.identity })).setF F.TWIN_STAT_CAUSE 0
    .now s1 stOk 0 [] (paramChange p)

/-- TWIN_BIND (R426, R444). -/
def execTwinBind (p : Packet) (s : State) : Host.Outcome State Fault Refusal := .next (runCmd twinBindDef p s)

/-- TWIN_HANDOVER: RELEASE with reason 1; the reply follows the new holder's LEASE. -/
def twinHandoverDef : CmdDef where
  code := 0x0A02
  pre := fun s _ _ => s.twinPre (
    if s.notHolder then some (stNotHolder, 0) else if s.twinState ≠ 4 then some (0x8A01, 0) else none)
  journaled := true
  act := fun s _ _ id => .later ((s.sendRelease 1).updTwin (fun t => { t with released := some 1, planned := true, handover := some id }))

/-- TWIN_HANDOVER (R435, R444). -/
def execTwinHandover (p : Packet) (s : State) : Host.Outcome State Fault Refusal := .next (runCmd twinHandoverDef p s)

/-- TWIN_FORCE_TAKE. -/
def twinForceTakeDef : CmdDef where
  code := 0x0A03
  origins := [1, 2, 3]
  pre := fun s _ _ => s.twinPre (
    if [1, 2, 3, 6].contains s.twinState && s.silentFor (s.leaseUs + 100) then none else some (stState, 0))
  journaled := true
  act := fun s p _ _ => .now (s.takeHallPass false) stOk 0 [] (paramChange p)

/-- TWIN_FORCE_TAKE (R444). -/
def execTwinForceTake (p : Packet) (s : State) : Host.Outcome State Fault Refusal := .next (runCmd twinForceTakeDef p s)

/-- GANG_CFG: takes effect at the next warm reset. -/
def gangCfgDef : CmdDef where
  code := 0x0A10
  len := fun _ => some 16
  par := fun _ p _ =>
    if 1 < p.w 0 then some 32 else if 3 < p.w 1 then some 36 else if p.w 2 < 2 || 4 < p.w 2 then some 40
    else if p.w 2 ≤ p.w 1 then some 36 else if 0x7FFF < p.w 3 then some 44 else none
  pre := fun s _ _ => s.twinPre (if s.twinState = 0 then none else some (stState, 0))
  journaled := true
  act := fun s p _ _ =>
    let next := some (p.w 0 == 1, p.w 1, p.w 2, p.w 3)
    .now (s.updTwin (fun t => { t with gangNext := next })) stOk 0 [] (if s.twin.gangNext = next then [] else paramChange p)

/-- GANG_CFG (R444, R445). -/
def execGangCfg (p : Packet) (s : State) : Host.Outcome State Fault Refusal := .next (runCmd gangCfgDef p s)

end Sys2Proof.Machine
end

