-- ==== Sys2Proof/Machine/Service.lean ====
section
/-! DEFINITION. Machine/Service.lean: engine duties that move without ending anything (R31, R475), and stand-alone test mode on a
tile in service (R479 to R484). -/

namespace Sys2Proof.Machine

/-! ### Engine duties (R31, R475, R483) -/

/-- Write TILE_ROLE of a tile; the change is journaled with origin 0x0 (R31). -/
def State.setRole (s : State) (t : Nat) (fs : List (Fld × Nat)) : State :=
  s.policyReg (tgtTile t) (R.TILE_ROLE t) (fs.foldl (fun w x => x.1.ins w x.2) (s.rd (R.TILE_ROLE t)))

/-- The reserve tile that R31 would choose for the duties that a tile carries. -/
def State.standInFor (s : State) (t : Nat) : Option Nat :=
  match s.dutiesOf t with
  | none => none
  | some owner =>
    let cands := [12, 23, 24, 35].filter (fun r => r != t && s.freeReserve r)
    (cands.find? (fun r => tileRow r == tileRow owner)).orElse (fun _ => cands.head?)

/-- Move the duties that a tile carries to a reserve tile, ending no job, operation or stream (R475): units finish at pass-group
boundaries. -/
def State.shiftDuties (s : State) (t r : Nat) : State :=
  match s.dutiesOf t with
  | none => s
  | some owner =>
    let s1 := if t = owner then s else s.setRole t [(F.TILE_ROLE_STANDIN t, 0), (F.TILE_ROLE_STANDIN_FOR t, 0x3F)]
    let s2 := s1.setRole owner [(F.TILE_ROLE_ENGINE_OUT owner, 1)]
    let s3 := (s2.setRole r [(F.TILE_ROLE_STANDIN r, 1), (F.TILE_ROLE_STANDIN_FOR r, owner)]).omeStart r
    (s3.jobsMoved owner none).rewriteDist

/-- A tile takes its duties back; its stand-in returns to reserve (R483). -/
def State.takeBack (s : State) (t : Nat) : State :=
  match [12, 23, 24, 35].find? (fun r => s.b (F.TILE_ROLE_STANDIN r) && s.f (F.TILE_ROLE_STANDIN_FOR r) == t) with
  | none => if s.b (F.TILE_ROLE_ENGINE_OUT t) then ((s.setRole t [(F.TILE_ROLE_ENGINE_OUT t, 0)]).omeStart t).rewriteDist else s
  | some r =>
    let s1 := (s.setRole t [(F.TILE_ROLE_ENGINE_OUT t, 0)]).setRole r [(F.TILE_ROLE_STANDIN r, 0), (F.TILE_ROLE_STANDIN_FOR r, 0x3F)]
    let restart := fun (sh : Share) => if sh.tile = t then
      ({ sh with active := false, ready := false, wt := 0, reads := [], terms := [], tries := 0 } : Share) else sh
    let jobs : List Job := s1.work.jobs.map (fun (j : Job) => if j.live then { j with shares := j.shares.map restart } else j)
    let s2 : State := { s1 with work := { s1.work with jobs := jobs } }
    (((s2.omeStop r 1).omeStart t).rewriteDist).adoptFree

/-- A tile reset after which everything goes on: the ports go down, flows restart, but no job or operation ends (R475, R482). -/
def State.quietReset (s : State) (t : Nat) : State :=
  let s0 := match sublinkOf t with | some k => s.sublinkDown k | none => s
  let s1 := s0.each (portsOf t) (fun s p => (s.declareDown p (if s.b (F.LINK_CTL_EN p) then 1 else 0)).shut p)
  let s2 := ((s1.crownRestart t).abortRuns t (fun _ => true)).omeStop t 0
  let s3 := ((s2.liftFences t).clearCache t).dropSleep t
  ((s3.startTile t).setF (F.TILE_PWR_STAT_STATE t) 0).bump (F.TILE_RST_CAUSE_COUNT t)

/-! ### Test mode (R479 to R484) -/

/-- Does a test item's part live on the tile's role (R36, R480)? -/
def itemLive (t i : Nat) : Bool :=
  match i with
  | 0 => decide (tileCol t ≠ 0)
  | 1 => decide (tileCol t ≠ 11)
  | 9 => !isCorner t && !isReserve t
  | 10 => isCorner t
  | 11 => t == 0 || t == 47
  | _ => decide (i < 14)

/-- The items that are live on a tile, as a mask. -/
def liveItems (t : Nat) : Nat := maskOf ((List.range 14).filter (itemLive t))

/-- TILE_TEST_ENTER: duties move to a stand-in; the tile's reset completes the entry. -/
def tileTestEnterDef : CmdDef where
  code := 0x0150
  kinds := [1]
  gflags := 1
  pre := fun s p _ =>
    let t := p.unit
    if s.inTest t then none
    else if t = s.clockMaster then some (stState, 0)
    else if p.flags.getLsbD 8 && (match spillOf t with | some u => (portsOf u).any s.linkUp | none => false) then some (stState, 0)
    else if s.pwr t = 5 || ((s.dutiesOf t).isSome && (s.standInFor t).isNone) then some (stBusy, 0)
    else none
  journaled := true
  act := fun s p _ _ =>
    let t := p.unit
    if s.inTest t then .now s stOk 0 [] []
    else
      let s1 := match s.standInFor t with | some r => s.shiftDuties t r | none => s
      .later (s1.setFs [(F.TILE_PWR_STAT_STATE t, 5), (F.TILE_TEST_STAT_STATE t, 1)])

/-- TILE_TEST_ENTER (R482). -/
def execTileTestEnter (p : Packet) (s : State) : Host.Outcome State Fault Refusal := .next (runCmd tileTestEnterDef p s)

/-- The tile's reset into the test microcode ends the entry (R482); one in HELD leaves it. -/
def State.testEntered (s : State) (t : Nat) (away : Bool) : State :=
  let s1 := if away then (s.memUnavailable t).setF (F.TILE_TEST_STAT_MEM_OUT t) 1 else s
  let s2 := s1.setFs [(F.TILE_TEST_STAT_STATE t, 2), (F.FSTATE_STATE t, 0)]
  (s2.quietReset t).syncFaultN

/-- Withdraw what test items touch (R481): Brim edges, and the tile's Crown planes; the edges withdrawn. -/
def State.withdraw (s : State) (t items : Nat) : State × List Nat :=
  let edges := [0, 1].filter (fun e => items.testBit e && (brimPeer t e).isSome && s.f (F.BRIM_STAT_STATE t e) != 3)
  let s1 := s.each edges (fun s e => match brimPeer t e with
    | some (u, d) => (s.setFs [(F.BRIM_STAT_STATE t e, 3), (F.BRIM_STAT_STATE u d, 3)]).updBr t e (fun b => { b with kept := [] })
    | none => s)
  let s2 := if edges.isEmpty then s1 else s1.rewriteDist
  let dark := if items.testBit 8 then
      (s2.setFs [(F.CROWN_DEAD_TX_DEAD t, 0xFFFF), (F.CROWN_DEAD_RX_DEAD t, 0xFFFF)]).each (List.range 16) (fun s pl =>
        s.setFs [(F.CROWN_PLANE_TX_OK t pl, 0), (F.CROWN_PLANE_RX_OK t pl, 0)])
    else s2
  (dark, edges)

/-- TILE_TEST_RUN: what the items find comes with its completion. -/
def tileTestRunDef : CmdDef where
  code := 0x0151
  len := fun _ => some 4
  kinds := [1]
  par := fun _ p _ => if p.w 0 &&& liveItems p.unit ≠ p.w 0 then some 32 else none
  zero := fun p => p.w 0 == 0
  resLen := fun _ _ => some 16
  pre := fun s p _ =>
    let t := p.unit
    if s.f (F.TILE_TEST_STAT_STATE t) = 3 then some (stBusy, 0)
    else if s.f (F.TILE_TEST_STAT_STATE t) ≠ 2 then some (stState, 0)
    else if ((p.w 0).testBit 9 || (p.w 0).testBit 10) && s.f (F.MEM_STAT_STATE t) ≠ 4 then some (stState, 0) else none
  act := fun s p _ id =>
    let t := p.unit
    let (s1, edges) := s.withdraw t (p.w 0)
    let first := ((List.range 14).find? (fun i => (p.w 0).testBit i)).getD 0xF
    .later { (s1.setFs [(F.TILE_TEST_STAT_STATE t, 3), (F.TILE_TEST_STAT_ITEM t, first)]) with
      tests := Map.put t { run := id, items := p.w 0, at_ := s.bell, edges := edges } s1.tests }

/-- TILE_TEST_RUN (R480, R481). -/
def execTileTestRun (p : Packet) (s : State) : Host.Outcome State Fault Refusal := .next (runCmd tileTestRunDef p s)

/-- The items of a TILE_TEST_RUN have run (R480): the mask of those that failed and the error count of the first; what they
withdrew returns. -/
def State.testDone (s : State) (r : Running) (meas : List Byte) : State :=
  let t := r.pkt.unit
  match Map.find t s.tests with
  | none => s.finish r.id stState 0
  | some x =>
    let fail := leAt meas 0 4 &&& x.items
    let pass := x.items - fail
    let first := (List.range 14).find? (fun i => fail.testBit i)
    let s1 := x.edges.foldl (fun s e => match brimPeer t e with
      | some (u, d) => s.setFs [(F.BRIM_STAT_STATE t e, 2), (F.BRIM_STAT_STATE u d, 2)]
      | none => s) { s with tests := Map.del t s.tests }
    let s2 := if x.edges.isEmpty then s1 else s1.rewriteDist
    let s3 := if x.items.testBit 8 then s2.reapplyDetention t else s2
    let s4 := s3.setFs [(F.TILE_TEST_STAT_ITEM t, 0xF), (F.TILE_TEST_PASS_MASK t, pass), (F.TILE_TEST_FAIL_MASK t, fail)]
    let s5 := (if s4.f (F.TILE_TEST_STAT_STATE t) = 3 then s4.setF (F.TILE_TEST_STAT_STATE t) 2 else s4).setSat (F.TILE_TEST_STAT_RUN_MS t)
      ((s.bell - x.at_) / 1000)
    s5.finish r.id stOk 0 (leBytes 4 pass ++ leBytes 4 fail ++ leBytes 1 (first.getD 0xFF) ++ zeros 3 ++
      leBytes 4 (if first.isSome then leAt meas 4 4 else 0))

/-- TILE_TEST_EXIT: the tile's reset completes the exit. -/
def tileTestExitDef : CmdDef where
  code := 0x0152
  len := fun _ => some 4
  kinds := [1]
  par := fun _ p _ => if 1 < p.w 0 then some 32 else none
  pre := fun s p _ =>
    let t := p.unit
    if s.f (F.TILE_TEST_STAT_STATE t) = 3 || s.pwr t = 5 then some (stBusy, 0)
    else if s.f (F.TILE_TEST_STAT_STATE t) ≠ 2 || s.standAlone then some (stState, 0)
    else if p.w 0 = 1 && (s.f (F.TILE_TEST_PASS_MASK t) ≠ liveItems t || s.f (F.TILE_TEST_FAIL_MASK t) ≠ 0) then some (stState, 0)
    else none
  journaled := true
  act := fun s p _ _ => .later (s.setFs [(F.TILE_PWR_STAT_STATE p.unit, 5), (F.TILE_TEST_STAT_STATE p.unit, 4)])

/-- TILE_TEST_EXIT (R483). -/
def execTileTestExit (p : Packet) (s : State) : Host.Outcome State Fault Refusal := .next (runCmd tileTestExitDef p s)

/-- The tile's reset into service ends the exit (R483). -/
def State.testExited (s : State) (t : Nat) (restore : Bool) : State :=
  let s1 := (s.leaveTest t).quietReset t
  if restore then
    let sc : Scope := .tile (Fin.ofNat 48 t)
    let s2 := s1.takeBack t
    (({ s2 with faults := { s2.faults with exits := Map.del sc.key s2.faults.exits } }).syncHour sc).adoptFree
  else s1.adoptFree

end Sys2Proof.Machine
end

