-- ==== Sys2Proof/Machine/Security.lean ====
section
/-! DEFINITION. Machine/Security.lean: attestation and the identity certificate (R463, R468 to R471), signed firmware commands
(R465, R472 to R478), the switchover (R473) and TRIAL (R466, R474); and the end of a tile reset (R372, R475, R482, R483). -/

namespace Sys2Proof.Machine

/-! ### Attestation (R468 to R471) -/

/-- The offsets of BAR0 registers that software writes and that M_CONFIG covers, ascending (R471). -/
def configOffsets : List Nat :=
  let covered := fun (r : RegRow) => (decide (r.cls = .C) || decide (r.cls = .W) || decide (r.cls = .N)) && r.rw != 0
  let offs := fun (base : Nat) (rows : List RegRow) => (rows.filter covered).flatMap (fun r => (List.range r.count).map (fun i => base + r.base + i * r.stride))
  let queue := fun (o : Nat) => decide (0x10000 ≤ o) && decide (o < 0x10300)
  let fused := fun (o : Nat) => match placeOf o with
    | some pl => (match rowAtPlace pl with | some r => placeFused pl r | none => true)
    | none => true
  let all := (offs 0 globalRows).filter (fun o => !queue o) ++
    allTiles.flatMap (fun t => offs (tileBase t) tileRows ++ (List.range 3).flatMap (fun i => offs (tileBase t + 0x10000 + i * 0x4000) portRows))
  Map.keys ((all.filter (fun o => !fused o)).foldl (fun (m : List (Nat × Unit)) o => Map.put o () m) [])

/-- M_CONFIG (R471). -/
def State.configDigest (s : State) : List Byte :=
  sha256 (configOffsets.flatMap (fun o => leBytes 4 o ++ leBytes 4 (s.rd o).toNat) ++ leBytes 1 ((s.rd R.STRAP_STAT).toNat % 256))

/-- FW_DIGEST of the die admitted at a site (R453); zeros where there is none. -/
def State.dieDigest (s : State) (n : Nat) : List Byte :=
  let st := s.f (F.XSITE_STAT_STATE n)
  if st = 2 || st = 3 || st = 6 then fitBytes 32 (((s.st n).cap).drop 16) else zeros 32

/-- The measurement of the microcode that a tile loaded. -/
def State.tileMeasure (s : State) (t : Nat) : List Byte := (Map.find t s.sec.tileMeas).getD (measure 2 none)

/-- The report of R470 up to its signature. -/
def State.reportBody (s : State) (nonce : List Byte) : List Byte :=
  let src := s.f F.SEC_STAT_BOOT_SRC
  let flags := s.f F.SEC_STAT_UCODE_MIXED + 2 * s.f F.SEC_STAT_KEY0_REVOKED + (if src = 2 then 4 else 0) + (if src = 1 then 8 else 0) +
    (if src = 3 || s.standAlone then 16 else 0) + (if s.slotState 0 = 2 || s.slotState 1 = 2 then 32 else 0)
  leBytes 4 1 ++ s.serial16 ++ leBytes 2 s.node ++ leBytes 1 (s.f F.SEC_STAT_ACTIVE + 2 * src) ++ leBytes 1 s.svn ++ leBytes 8 s.bell ++
  fitBytes 32 nonce ++ measure 1 (if s.sec.image.isEmpty then none else some s.sec.image) ++ sha256 (allTiles.flatMap s.tileMeasure) ++
  s.dieDigest 0 ++ s.dieDigest 1 ++ s.configDigest ++ s.headHash ++ leBytes 8 (s.journal.count - 1) ++
  (match s.slotObj 3 s.sec.manifest with | some o => sha256 o | none => measure 3 none) ++ leBytes 4 flags ++ zeros 4 ++ leBytes 4 5396

/-- The report of R470 with the signature of a leaf. -/
def State.report5704 (s : State) (nonce : List Byte) (leaf : Nat) : List Byte :=
  let body := s.reportBody nonce
  body ++ (List.range 5396).map (fun i => Config.identitySig leaf body i)

/-- Does a signature need a leaf that is not reserved while flash cannot be written (R468)? -/
def State.leafBlocked (s : State) : Bool := decide (s.resLeaf ≤ s.nextLeaf) && s.bit R.MFLVL_SRC 1

/-- Sign a report with the next leaf (R468, R469): KEY_LOW and one WARN record under 2^20 leaves left. -/
def State.sign (s : State) (nonce : List Byte) : Option (List Byte) × State :=
  match s.takeLeaf with
  | (none, s1) => (none, s1)
  | (some q, s1) =>
    let rep := s1.report5704 nonce q
    let s2 := s1.updSec (fun x => { x with signed := s1.bell :: x.signed.filter (fun b => decide (s1.bell < b + 1000000)) })
    let low := decide (2 ^ 30 - (q + 1) < 2 ^ 20) && !s2.b F.SEC_STAT_KEY_LOW
    (some rep, if low then (s2.setB F.SEC_STAT_KEY_LOW true).note 0x9 .keyLow 2 tgtModule else s2)

/-- ATTEST. A signature due on a bottom tree that is not built waits for it. -/
def attestDef : CmdDef where
  code := 0x0010
  len := fun _ => some 32
  resLen := fun _ _ => some 5704
  pre := fun s _ _ =>
    if 4 ≤ (s.sec.signed.filter (fun b => decide (s.bell < b + 1000000))).length then some (stBusy, 0)
    else if 2 ^ 30 ≤ s.nextLeaf then some (0x8001, 0)
    else if s.leafBlocked then some (stFault, fsrcModule 1) else none
  act := fun s p _ id =>
    if s.sec.trees ≤ s.nextLeaf / 2 ^ 15 then .later (s.updSec (fun x => { x with waiting := x.waiting ++ [id] }))
    else match s.sign p.params with
      | (some r, s1) => .now s1 stOk 0 r []
      | (none, s1) => .now s1 0x8001 0 [] []

/-- ATTEST (R470, R478). -/
def execAttest (p : Packet) (s : State) : Host.Outcome State Fault Refusal := .next (runCmd attestDef p s)

/-- LEAF_TREE_BUILT (R468): the next bottom tree stands, and reports that waited for it are signed. -/
def execLeafTreeBuilt (s : State) : Host.Outcome State Fault Refusal :=
  let s1 := s.updSec (fun x => { x with trees := max (x.trees + 1) (s.nextLeaf / 2 ^ 15 + 1), waiting := [] })
  .next (s1.each s.sec.waiting (fun s id =>
    match s.running id with
    | none => s
    | some r => match s.sign r.pkt.params with
      | (some rep, s2) => s2.finish id stOk 0 rep
      | (none, s2) => s2.finish id 0x8001 0))

/-- ID_CERT_READ. -/
def idCertReadDef : CmdDef where
  code := 0x0011
  resLen := fun _ _ => some 5332
  act := fun s _ _ _ => .now s stOk 0 (leBytes 4 1 ++ s.serial16 ++ (List.range 72).map (fun i => Config.certificate (20 + i)) ++ leBytes 4 5236 ++
    (List.range 5236).map (fun i => Config.certificate (96 + i))) []

/-- ID_CERT_READ (R463, R478). -/
def execIdCertRead (p : Packet) (s : State) : Host.Outcome State Fault Refusal := .next (runCmd idCertReadDef p s)

/-! ### Signed commands (R465, R478) -/

/-- The object in the data buffer of a command. -/
def State.object (s : State) (p : Packet) : List Byte := s.inputOr p p.dataLen.toNat

/-- The signed-object check as step 4 of R58; a buffer that cannot be read is the state check's. -/
def State.objectAuth (s : State) (p : Packet) (type : Nat) (body : Bool) : Option Nat :=
  if (s.inputBad p p.dataLen.toNat).isSome then none else s.objFault (s.object p) p.dataLen.toNat type body

/-- Run a signed command; a failed check with DETAIL 2 or above counts (R465). -/
def runSigned (d : CmdDef) (p : Packet) (s : State) : State :=
  let s1 := runCmd d p s
  let failed := match s.originOf p.path with
    | some o => (match s.verdict d p o with | some (st, det) => st == stAuth && decide (2 ≤ det) | none => false)
    | none => false
  if failed && s.takes p.path d.code && !(p.fence && s.outstanding p.path) then s1.authFail else s1

/-- The journaled encoding: bytes 0 to 83 of the object's header (R478). -/
def headerChange (p : Packet) (o : List Byte) : List JChange :=
  [{ target := p.target.toNat, offset := 0xFFFFFFFF, old := none, new := some (o.take 84) }]

/-- Is a slot in TRIAL (R474)? -/
def State.inTrial (s : State) : Bool := s.slotState 0 == 2 || s.slotState 1 == 2

/-- The slot that FW_STAGE writes: neither active nor current (R472). -/
def State.spareSlot (s : State) (kind : Nat) : Nat :=
  if kind = 1 then 1 - s.f F.SEC_STAT_ACTIVE else if kind = 2 then 1 - s.sec.ucode else 1 - s.sec.manifest

/-- Does a group 0x09 command act on a kind of slot now (R477)? -/
def State.kindBusy (s : State) (kind : Nat) : Bool :=
  (match s.sec.writing with | some w => w.kind == kind | none => false) || (kind == 1 && s.sec.switch.isSome) ||
  (kind == 2 && !s.sec.update.isEmpty)

/-- FW_STAGE: while it is written the slot is EMPTY; the write ends with the command. -/
def fwStageDef : CmdDef where
  code := 0x0900
  len := fun _ => some 4
  auth := fun s p _ => s.objectAuth p (p.w 0) true
  par := fun _ p _ => if p.w 0 = 0 || 3 < p.w 0 then some 32 else none
  pre := fun s p _ => (s.inputBad p p.dataLen.toNat).orElse (fun _ => if s.kindBusy (p.w 0) || s.sec.writing.isSome then some (stBusy, 0) else none)
  journaled := true
  act := fun s p _ id =>
    let k := p.w 0
    let slot := s.spareSlot k
    let o := (s.object p).take (objHeader + objBodyLen (s.object p))
    let s1 := if k = 1 then s.setSlot slot 0 else s
    .later (s1.updSec (fun x => { x with slots := Map.del (2 * k + slot) x.slots, writing := some { kind := k, slot := slot, run := id, obj := o } }))

/-- FW_STAGE (R472). -/
def execFwStage (p : Packet) (s : State) : Host.Outcome State Fault Refusal := .next (runSigned fwStageDef p s)

/-- The slot of a FW_STAGE has been written. -/
def State.stageWritten (s : State) (r : Running) : State :=
  match s.sec.writing with
  | none => s.finish r.id stFault (fsrcModule 1)
  | some w =>
    let s1 := s.updSec (fun x => { x with writing := none, slots := Map.put (2 * w.kind + w.slot) w.obj x.slots })
    let s2 := if w.kind = 1 then s1.setSlot w.slot 1 else s1
    s2.finish r.id stOk 0 [] (headerChange r.pkt w.obj) (undoOf s s2)

/-- Is the header in the buffer the one of the object staged in the spare slot? -/
def State.stagedHeader (s : State) (p : Packet) (kind : Nat) : Bool :=
  match s.slotObj kind (s.spareSlot kind) with
  | some o => decide ((s.object p).take objHeader = o.take objHeader)
  | none => false

/-- FW_ACTIVATE: a Proctor image by the switchover, a manifest at once; microcode is activated by FW_TILE_UPDATE. -/
def fwActivateDef : CmdDef where
  code := 0x0901
  len := fun _ => some 4
  gflags := 2
  auth := fun s p _ => s.objectAuth p (p.w 0) false
  par := fun s p _ =>
    if p.w 0 ≠ 1 && p.w 0 ≠ 3 then some 32
    else if (s.inputBad p p.dataLen.toNat).isNone && !s.stagedHeader p (p.w 0) then some 16 else none
  pre := fun s p _ => (s.inputBad p p.dataLen.toNat).orElse (fun _ =>
    if s.kindBusy (p.w 0) then some (stBusy, 0) else if s.inTrial then some (stState, 0) else none)
  journaled := true
  act := fun s p _ id =>
    if p.w 0 = 3 then .now (s.updSec (fun x => { x with manifest := 1 - x.manifest })) stOk 0 [] (headerChange p (s.object p))
    else .later ((s.setB F.Q_GLOBAL_SWITCHOVER true).updSec (fun x => { x with
      switch := some { run := id, slot := s.spareSlot 1, noTrial := p.flags.getLsbD 9 } }))

/-- FW_ACTIVATE (R472 to R474). -/
def execFwActivate (p : Packet) (s : State) : Host.Outcome State Fault Refusal := .next (runSigned fwActivateDef p s)

/-- A slot's boot failure is recorded by the Proctor that runs then (R466). -/
def State.noteBad (s : State) : State :=
  (s.each s.sec.badDue (fun s k => s.note 0x9 .bootFail 3 tgtModule k)).updSec (fun x => { x with badDue := [] })

/-- SWITCHOVER_DONE (R473): the new image runs where the ROM accepts it, in TRIAL unless NO_TRIAL; else the old one goes on and
the command ends ERR_AUTH. A Proctor restarted by its watchdog (R404) ends its own switchover here. -/
def execSwitchoverDone (s : State) : Host.Outcome State Fault Refusal :=
  if !s.b F.Q_GLOBAL_SWITCHOVER || s.pool.fam.any (fun e => e.2.migrating) then .next s
  else
    let key := 48 * 64
    let s1 := if (s.fence key).on then s.setFence key { s.fence key with on := false, lifted := some s.bell } else s
    let s2 := (s1.updSec (fun x => { x with switch := none })).endSwitchover
    match s.sec.switch with
    | none => .next s2.noteBad
    | some w => match s.slotFault w.slot with
      | some det => .next ((s2.authFail.finish w.run stAuth det).noteBad)
      | none =>
        let s3 := (s2.setF F.SEC_STAT_ACTIVE w.slot).setSlot w.slot (if w.noTrial then 1 else 2)
        let s4 := (s3.updSec (fun x => { x with trialAt := none })).runImage (s.slotObj 1 w.slot) 0 (!w.noTrial)
        let header := match s.running w.run with | some r => headerChange r.pkt ((s.slotObj 1 w.slot).getD []) | none => []
        .next ((s4.finish w.run stOk 0 [] header (undoOf s2 s4)).noteBad)

/-- TRIAL_EXPIRY (R474): 10 min without a fallback. -/
def execTrialExpiry (s : State) : Host.Outcome State Fault Refusal :=
  match s.sec.trialAt with
  | none => .next s
  | some b =>
    if s.bell < b + 600000000 then .next s
    else
      let one := fun (s : State) (k : Nat) => if s.slotState k = 2 then s.setSlot k 1 else s
      .next ((one (one s 0) 1).updSec (fun x => { x with trialAt := none }))

/-- TRIAL_BOOT_FAIL (R466): the slot in TRIAL fails to become ready within 1.0 s, or its Proctor raises PROCTOR_WDT: it is BAD,
and the ROM boots the other slot at once. -/
def execTrialBootFail (s : State) : Host.Outcome State Fault Refusal :=
  match [0, 1].find? (fun k => s.slotState k == 2) with
  | none => .next s
  | some k =>
    let s1 := (s.setSlot k 3).updSec (fun x => { x with trialAt := none, badDue := x.badDue ++ [k] })
    let r := s1.bootSlots [(1 - k, 1)]
    let s2 := if r.2 then r.1 else r.1.updSec (fun x => { x with recovery := true })
    .next (if s.b F.Q_GLOBAL_PROCTOR_READY then s2.noteBad else s2)

/-! ### FW_TILE_UPDATE and tile resets (R372, R475) -/

/-- The SEC_UCODE_NEW bit of a tile is set. -/
def State.setUcodeNew (s : State) (t : Nat) : State := if t < 32 then s.setBit R.SEC_UCODE_NEW_LO t else s.setBit R.SEC_UCODE_NEW_HI (t - 32)

/-- FW_TILE_UPDATE: the tile is drained, and its reset loads the staged microcode. -/
def fwTileUpdateDef : CmdDef where
  code := 0x0902
  kinds := [1]
  auth := fun s p _ => s.objectAuth p 2 false
  par := fun s p _ => if (s.inputBad p p.dataLen.toNat).isNone && !s.stagedHeader p 2 then some 16 else none
  resLen := fun _ _ => some 4
  pre := fun s p _ => (s.inputBad p p.dataLen.toNat).orElse (fun _ =>
    let t := p.unit
    if s.kindBusy 2 then some (stBusy, 0)
    else if t = s.clockMaster then none
    else if s.f (F.TILE_TEST_STAT_STATE t) ≠ 0 then some (stState, 0)
    else if s.pwr t = 5 || ((s.dutiesOf t).isSome && (s.standInFor t).isNone) then some (stBusy, 0) else none)
  journaled := true
  act := fun s p _ id =>
    let t := p.unit
    if t = s.clockMaster then .now (s.setUcodeNew t) stOk 0 (leBytes 4 1) (headerChange p (s.object p))
    else
      let s1 := match s.standInFor t with | some r => s.shiftDuties t r | none => s
      .later ((s1.setF (F.TILE_PWR_STAT_STATE t) 5).updSec (fun x => { x with update := x.update ++ [(t, id)] }))

/-- FW_TILE_UPDATE (R475). -/
def execFwTileUpdate (p : Packet) (s : State) : Host.Outcome State Fault Refusal := .next (runSigned fwTileUpdateDef p s)

/-- A tile update's reset: the staged microcode loads, and the duties move back; a tile that has failed keeps its duties on the
stand-in, and the command ends ERR_FAULT (R477). -/
def State.updateDone (s : State) (t : Nat) (r : Running) : State :=
  let s1 := s.updSec (fun x => { x with update := x.update.filter (fun e => e.1 != t) })
  if s.f (F.FSTATE_STATE t) ≠ 0 then (s1.setF (F.TILE_PWR_STAT_STATE t) 0).finish r.id stFault (s1.faultDetail (s1.scopeCause t))
  else
    let s2 := ((s1.setUcodeNew t).quietReset t).takeBack t
    s2.finish r.id stOk 0 (leBytes 4 0) (headerChange r.pkt ((s.slotObj 2 (s.spareSlot 2)).getD [])) (undoOf s1 s2)

/-- TILE_RESET (R372): a tile reset that a command waits for has ended: RESET, FW_TILE_UPDATE, or entry to and exit from test
mode. -/
def execTileReset (t : Tile) (s : State) : Host.Outcome State Fault Refusal :=
  let n := t.val
  let mine := fun (r : Running) => [0x120, 0x150, 0x152, 0x902].contains r.opcode && r.pkt.kind == 1 && r.pkt.unit == n && r.fin.isNone
  match s.proctor.running.find? mine with
  | none => .next s
  | some r =>
    if r.opcode = 0x120 then .next ((s.resetTile n 1).finishParam r.id stOk 0)
    else if r.opcode = 0x902 then .next (s.updateDone n r)
    else if s.f (F.TILE_TEST_STAT_STATE n) = 0 then
      -- a SAFE assertion has taken the tile out of test mode (R484)
      .next ((s.setF (F.TILE_PWR_STAT_STATE n) 0).finish r.id stState (s.f (F.FSTATE_STATE n)))
    else if r.opcode = 0x150 then
      let s1 := s.testEntered n (r.pkt.flags.getLsbD 8)
      .next (s1.finishParam r.id stOk 0 [] (undoOf s s1))
    else
      let s1 := s.testExited n (r.pkt.w 0 == 1)
      .next (s1.finishParam r.id stOk 0 [] (undoOf s s1))

/-! ### Anti-rollback and key revocation (R462, R467) -/

/-- Does the image in a slot carry an SVN below a value? A slot EMPTY or BAD has none. -/
def State.slotBelow (s : State) (k v : Nat) : Bool :=
  (s.slotState k == 1 || s.slotState k == 2) && decide ((match s.slotObj 1 k with | some o => objSvn o | none => 0) < v)

/-- SEC_SVN_COMMIT. -/
def secSvnCommitDef : CmdDef where
  code := 0x0903
  len := fun _ => some 4
  gflags := 1
  auth := fun s p _ => s.objectAuth p 4 true
  par := fun s p _ => if 64 < p.w 0 || ((s.inputBad p p.dataLen.toNat).isNone && objSvn (s.object p) ≠ p.w 0) then some 32 else none
  pre := fun s p _ => (s.inputBad p p.dataLen.toNat).orElse (fun _ =>
    let a := s.f F.SEC_STAT_ACTIVE
    if s.inTrial then some (stState, 0)
    else if s.sec.switch.isSome then some (stBusy, 0)
    else if s.svn = p.w 0 then none
    else if s.slotBelow a (p.w 0) || (s.slotBelow (1 - a) (p.w 0) && !p.flags.getLsbD 8) then some (stState, 0) else none)
  journaled := true
  act := fun s p _ _ =>
    if s.svn = p.w 0 then .now s stOk 0 [] []
    else
      let a := s.f F.SEC_STAT_ACTIVE
      let s1 := if s.slotBelow (1 - a) (p.w 0) then s.setSlot (1 - a) 3 else s
      .now (s1.setF F.SEC_STAT_SVN (p.w 0)) stOk 0 [] (headerChange p (s.object p))

/-- SEC_SVN_COMMIT (R467). -/
def execSecSvnCommit (p : Packet) (s : State) : Host.Outcome State Fault Refusal := .next (runSigned secSvnCommitDef p s)

/-- SEC_KEY_REVOKE. -/
def secKeyRevokeDef : CmdDef where
  code := 0x0904
  auth := fun s p _ => s.objectAuth p 5 true
  pre := fun s p _ => s.inputBad p p.dataLen.toNat
  journaled := true
  act := fun s p _ _ =>
    if s.b F.SEC_STAT_KEY0_REVOKED then .now s stOk 0 [] []
    else .now (s.setB F.SEC_STAT_KEY0_REVOKED true) stOk 0 [] (headerChange p (s.object p))

/-- SEC_KEY_REVOKE (R462). -/
def execSecKeyRevoke (p : Packet) (s : State) : Host.Outcome State Fault Refusal := .next (runSigned secKeyRevokeDef p s)

end Sys2Proof.Machine
end

