-- ==== Sys2Proof/Machine/Power.lean ====
section
/-! DEFINITION. Machine/Power.lean: feeds, breakers, overvoltage and converters (R500 to R506), the power ceiling and its loop (R507
to R511), the power policy (R510) and the power commands (R513). -/

namespace Sys2Proof.Machine

/-! ### Feeds and converters (R500, R501, R506) -/

/-- OME and Crown duty steps and die steps of the loop, shown and applied (R508). -/
def State.applySteps (s : State) (steps : List Nat) : State :=
  let n := fun (k : Nat) => steps.countP (fun x => x == k)
  let s1 := (s.updPow (fun p => { p with steps := steps, dieSteps := n 2 })).setFs [(F.PWR_STAT_OME_STEP, n 0), (F.PWR_STAT_CROWN_STEP, n 1)]
  let s2 := s1.each allTiles State.syncDuty
  s2.each [0, 1] (fun s x => let st := s.f (F.XSITE_STAT_STATE x); if st = 2 || st = 3 || st = 6 then s.sendLimit x else s)

/-- The fast step (R509): every tile's OME and Crown duty at most 50 %. -/
def State.fastStep (s : State) : State :=
  let n := fun (k : Nat) => s.power.steps.countP (fun x => x == k)
  (s.applySteps (List.replicate (4 - n 1) 1 ++ List.replicate (4 - n 0) 0 ++ s.power.steps)).setB F.PWR_EVT_FAST_STEP true

/-- Is a blade without power: its feed lost or its breaker open? -/
def State.bladeOut (s : State) (x : Nat) : Bool := s.power.feedLost.contains x || s.power.breakers.contains x

/-- The module loses all power (R501, R511). -/
def State.powerOff (s : State) : State := ((s.powerOn).updClk (fun c => { c with off := true })).emit (.modPwrok false)

/-- A blade's switch has opened or its feed is lost: the fast step under the new ceiling (R507, R509), or, with both out, the
module is off. -/
def State.bladeEvent (s : State) : State := if s.bladeOut 0 && s.bladeOut 1 then s.powerOff else s.syncFeeds.fastStep

/-- BLADE_BREAKER (R500). -/
def execBladeBreaker (x : Fin 2) (s : State) : Host.Outcome State Fault Refusal :=
  if s.clocks.off || s.power.breakers.contains x.val then .next s
  else .next ((s.updPow (fun p => { p with breakers := p.breakers ++ [x.val] })).setB (if x.val = 0 then F.PWR_EVT_BREAKER_A else F.PWR_EVT_BREAKER_B) true).bladeEvent

/-- FEED_LOST (R500): a blade below 48.0 V. -/
def execFeedLost (x : Fin 2) (s : State) : Host.Outcome State Fault Refusal :=
  if s.clocks.off || s.power.feedLost.contains x.val then .next s
  else .next ((s.updPow (fun p => { p with feedLost := p.feedLost ++ [x.val] })).setB (if x.val = 0 then F.PWR_EVT_FEED_LOST_A else F.PWR_EVT_FEED_LOST_B) true).bladeEvent

/-- FEED_RETURN (R500): the blade's VIN is back; a breaker that its fall has released closes too. -/
def execFeedReturn (x : Fin 2) (s : State) : Host.Outcome State Fault Refusal :=
  if s.clocks.off || !s.power.feedLost.contains x.val then .next s
  else .next (s.updPow (fun p => { p with feedLost := p.feedLost.filter (fun y => y != x.val), breakers := p.breakers.filter (fun y => y != x.val) })).syncFeeds

/-- OV_TRIP (R501): both switches open; the hot-swap controller latches the trip. -/
def execOvTrip (s : State) : Host.Outcome State Fault Refusal :=
  .next (if s.clocks.off then s.updClk (fun c => { c with ovLatch := true }) else (s.updClk (fun c => { c with ovLatch := true })).powerOff)

/-- OV_RECOVERY (R501): the module starts as at power-on; OV_TRIP reads 1 from the latch. Which blades are at 48.0 V or above. -/
def execOvRecovery (a b : Bool) (s : State) : Host.Outcome State Fault Refusal :=
  if !(s.clocks.off && s.clocks.ovLatch) then .next s
  else .next (((s.powerOn.updClk (fun c => { c with ovLatch := false })).updPow (fun p => { p with
    feedLost := (if a then [] else [0]) ++ (if b then [] else [1]) })).emit (.modPwrok true))

/-- CONVERTER_FAIL (R402, R506): CONV_ONE with the converter ceiling and the fast step, CONV_TWO at a second one. -/
def execConverterFail (k : Fin 4) (s : State) : Host.Outcome State Fault Refusal :=
  if s.clocks.off || s.power.convFail.contains k.val then .next s
  else
    let s1 := ((s.updPow (fun p => { p with convFail := p.convFail ++ [k.val] })).setB F.PWR_EVT_CONV_FAIL true).syncFeeds.fastStep
    .next (match s.power.convFail.length with
      | 0 => s1.assertModule 3 0 true
      | 1 => s1.assertModule 4 0 true
      | _ => s1)

/-- VIN_LOW (R402): VIN below 52 V for 1 ms. -/
def execVinLow (s : State) : Host.Outcome State Fault Refusal :=
  if s.clocks.off then .next s else .next ((s.setB F.PWR_EVT_VIN_LOW true).assertModule 5 0 true)

/-! ### The ceiling loop (R508) -/

/-- What the power sensors show: blade voltages and currents, input power (1 ms average, 0.1 W), bus voltage and power; PEAK_W over
the last second. -/
def State.powerSample (s : State) (va ia vb ib pin vbus pbus : Nat) : State :=
  let peaks := (s.bell, pin / 10) :: s.power.peaks.filter (fun e => decide (s.bell < e.1 + 1000000))
  (s.updPow (fun p => { p with peaks := peaks })).setFs [(F.PWR_VIN_A_VIN, va), (F.PWR_VIN_A_IIN, ia), (F.PWR_VIN_B_VIN, vb), (F.PWR_VIN_B_IIN, ib),
    (F.PWR_IN_PIN, pin), (F.PWR_IN_PEAK_W, (peaks.map (·.2)).foldl max 0), (F.PWR_BUS_VBUS, vbus), (F.PWR_BUS_PBUS, pbus)]

/-- One run of the loop (R508): above the ceiling, the first step that is not at its floor; at or below the undo threshold for
10 ms, the newest step undone; else the loop holds. -/
def State.ceilingStep (s : State) (pin : Nat) : State :=
  let ceil := 10 * s.f F.PWR_STAT_CEIL_W
  let n := fun (k : Nat) => s.power.steps.countP (fun x => x == k)
  let dies := [0, 1].any (fun x => let st := s.f (F.XSITE_STAT_STATE x); st == 2 || st == 3 || st == 6)
  if ceil < pin then
    let s1 := s.updPow (fun p => { p with underAt := none })
    if n 0 < 6 then s1.applySteps (0 :: s.power.steps)
    else if n 1 < 6 then s1.applySteps (1 :: s.power.steps)
    else if n 2 < 8 && dies then s1.applySteps (2 :: s.power.steps)
    else if s1.b F.PWR_STAT_CAP_UNMET then s1
    else ((s1.setB F.PWR_STAT_CAP_UNMET true).setB F.PWR_EVT_CAP_UNMET true).note 0xB .capUnmet 2 tgtModule
  else
    let s1 := s.setB F.PWR_STAT_CAP_UNMET false
    if pin + 10 * s.f F.PWR_CTL_HYST_W ≤ ceil then
      let since := s.power.underAt.getD s.bell
      if s.bell < since + 10000 then s1.updPow (fun p => { p with underAt := some since })
      else match s.power.steps with
        | [] => s1.updPow (fun p => { p with underAt := some since })
        | _ :: rest => (s1.applySteps rest).updPow (fun p => { p with underAt := some s.bell })
    else s1.updPow (fun p => { p with underAt := none })

/-- CEILING_LOOP_TICK (R507, R508). -/
def execCeilingLoopTick (va ia vb ib pin vbus pbus : BitVec 16) (s : State) : Host.Outcome State Fault Refusal :=
  if s.clocks.phase < 3 || s.clocks.tripped || s.clocks.off then .next s
  else .next (((s.powerSample va.toNat ia.toNat vb.toNat ib.toNat pin.toNat vbus.toNat pbus.toNat).updCeil).ceilingStep pin.toNat)

/-! ### The power policy (R510) -/

/-- Is a tile idle in what the module holds of it (R510)? That no unit or access reaches it for the idle time is the timer's. -/
def State.policyIdle (s : State) (t : Nat) : Bool :=
  (s.ome t).work.isNone && !s.work.jobs.any (fun j => j.live && j.shares.any (fun sh => s.server sh.tile == some t)) &&
  !s.ctxKeys.any (fun c => match s.group c with
    | some g => g.cur.isSome && (maskTiles g.mask).any (fun m => s.server m == some t)
    | none => false) &&
  (s.bl t).runs.isEmpty && !(s.bl t).tracing &&
  !s.pool.migs.any (fun m => m.todo.any (fun f => f.srcTile == t || f.dstTile == t)) &&
  (portsOf t).all (fun p => !s.linkUp p || s.settledPort p)

/-- Does the policy act on a tile: MODE POLICY while POLICY_EN is 1? -/
def State.policyOn (s : State) (t : Nat) : Bool := s.b F.PWR_CTL_POLICY_EN && s.f (F.TILE_PWR_CTL_MODE t) == 0 && decide (s.clocks.phase = 4)

/-- POLICY_IDLE_D1 (R510): idle for D1_IDLE. -/
def execPolicyIdleD1 (t : Tile) (s : State) : Host.Outcome State Fault Refusal :=
  .next (if s.policyOn t.val && s.policyIdle t.val && s.pwr t.val = 0 then s.beginEntry t.val 2 else s)

/-- POLICY_IDLE_D2 (R510): idle for D2_IDLE, where that is not 0 and R381 does not exclude the tile. A tile in D1 leaves it first
(R384). -/
def execPolicyIdleD2 (t : Tile) (s : State) : Host.Outcome State Fault Refusal :=
  if !(s.policyOn t.val && s.policyIdle t.val) || s.f F.PWR_POLICY_D2_IDLE = 0 || s.d2Block t.val ≠ 0 then .next s
  else .next (if s.pwr t.val = 0 then s.beginEntry t.val 3
    else if s.pwr t.val = 2 then (s.requestWake t.val).updClk (fun c => { c with wantD2 := t.val :: c.wantD2.filter (fun x => x != t.val) })
    else s)

/-! ### Commands (R513) -/

/-- PWR_CAP_SET. -/
def pwrCapSetDef : CmdDef where
  code := 0x0B20
  len := fun _ => some 4
  par := fun s p _ => if p.w 0 < 800 || s.maxInput < p.w 0 then some 32 else none
  journaled := true
  act := fun s p _ _ =>
    let old := s.rd R.PWR_CTL
    let new := F.PWR_CTL_CAP_W.ins old (p.w 0)
    .now (s.wr R.PWR_CTL new).updCeil stOk 0 [] (if old = new then [] else [regChange R.PWR_CTL old new])

/-- PWR_CAP_SET (R507, R513). -/
def execPwrCapSet (p : Packet) (s : State) : Host.Outcome State Fault Refusal := .next (runCmd pwrCapSetDef p s)

/-- PWR_POLICY_SET. -/
def pwrPolicySetDef : CmdDef where
  code := 0x0B21
  len := fun _ => some 12
  par := fun _ p _ => if 1 < p.w 0 then some 32 else if p.w 1 < 10 || 65535 < p.w 1 then some 36 else if 65535 < p.w 2 then some 40 else none
  journaled := true
  act := fun s p _ _ =>
    let c0 := s.rd R.PWR_CTL
    let c1 := F.PWR_CTL_POLICY_EN.ins c0 (p.w 0)
    let d0 := s.rd R.PWR_POLICY
    let d1 := F.PWR_POLICY_D2_IDLE.ins (F.PWR_POLICY_D1_IDLE.ins d0 (p.w 1)) (p.w 2)
    .now ((s.wr R.PWR_CTL c1).wr R.PWR_POLICY d1) stOk 0 []
      ((if c0 = c1 then [] else [regChange R.PWR_CTL c0 c1]) ++ (if d0 = d1 then [] else [regChange R.PWR_POLICY d0 d1]))

/-- PWR_POLICY_SET (R510, R513). -/
def execPwrPolicySet (p : Packet) (s : State) : Host.Outcome State Fault Refusal := .next (runCmd pwrPolicySetDef p s)

/-- PWR_QUERY. -/
def pwrQueryDef : CmdDef where
  code := 0x0B22
  resLen := fun _ _ => some 32
  act := fun s _ _ _ => .now s stOk 0 ([R.PWR_STAT, R.PWR_IN, R.PWR_VIN_A, R.PWR_VIN_B, R.PWR_BUS, R.PWR_CTL, R.PWR_POLICY, R.PWR_EVT].flatMap (fun o =>
    leBytes 4 (s.rd o).toNat)) []

/-- PWR_QUERY (R513). -/
def execPwrQuery (p : Packet) (s : State) : Host.Outcome State Fault Refusal := .next (runCmd pwrQueryDef p s)

end Sys2Proof.Machine
end

