-- ==== Sys2Proof/Machine/Host.lean ====
section
/-! DEFINITION. Machine/Host.lean: host queues and CXL.mem (R63, R263, R264, R374), the management chain and Roll Call (R67
to R69), the writing of the change journal (R82), and the commands of groups 0x00 and 0x01 (R75 to R77). -/

namespace Sys2Proof.Machine

/-! ### Host queues and ports (R63, R374) -/

/-- Q_DRAIN_DONE (R63): the last started command of a DRAINING queue has ended. -/
def execQDrainDone (q : Queue) (s : State) : Host.Outcome State Fault Refusal :=
  if s.f (F.Q_STAT_STATE q.val) = 3 && !s.outstanding (.host q) then .next (s.setF (F.Q_STAT_STATE q.val) 0) else .next s

/-- CXL_IO_ERROR (R63): DMA_ERR is set, the queue is HALTED, and no further reply is posted (R55). -/
def execCxlIoError (q : Queue) (s : State) : Host.Outcome State Fault Refusal :=
  let st := s.f (F.Q_STAT_STATE q.val)
  if st = 1 || st = 2 then
    .next ((s.setFs [(F.Q_ERR_DMA_ERR q.val, 1), (F.Q_STAT_STATE q.val, 2)]).updQu q.val (fun u => { u with held := [], dead := true }))
  else .next s

/-- CXL_HOT_RESET (R374): a hot reset, link-down, function-level reset or CXLn_PERST_N; `lost` says whether the link leaves its
trained state with it, as it does in all but the function-level reset. -/
def execCxlHotReset (n : Fin 2) (lost : Bool) (s : State) : Host.Outcome State Fault Refusal :=
  if lost then .next (s.hostPortDown n.val)
  else .next (s.each ((List.range 16).filter (fun q => s.f (F.Q_CTL_PORT q) == n.val)) State.disableQueue)

/-! ### CXL.mem (R263, R264) -/

/-- The tile of a host port. -/
def cxlTile (n : Fin 2) : Nat := if n.val = 0 then 0 else 47

/-- A transport unit that stands for a host access where a gang member serves it (R446). -/
def cxlTu (type a : Nat) (bs : List Byte) : Tu :=
  { type := type, flags := 0, stream := 0, tsn := 0, aux := 64, addr := a, data := bs }

/-- What a CXL.mem read of the line at a fabric address returns: its bytes, or none for poison. -/
def State.cxlFetch (s : State) (t a : Nat) : Option (List Byte) × State :=
  match s.resolve t a 64 false with
  | (.bad _, s1) => (none, s1)
  | (.noCopy, s1) => (none, s1)
  | (.remote node addr, s1) =>
    (match s1.remoteAccess t node addr (cxlTu 2 addr []) 64 with
     | (.ok bs, s2) => (some bs, s2)
     | (.error _, s2) => (none, s2))
  | (.at_ mt key _, s1) =>
    (match s1.fetch mt key 64 with
     | .ok bs => (some bs, s1)
     | .error _ => (none, s1))

/-- CXL_MEM_READ (R263, R264, R432, R439): the 64-byte line at a DPA. Poison answers an unmapped or invalid DPA, UNAVAILABLE
memory, a poisoned line, and any read of a FENCED module. A read of a tile in D1 or D2 wakes it and waits (R259). -/
def execCxlMemRead (n : Fin 2) (dpa : BitVec 64) (ecc : Ecc) (s : State) : Host.Outcome State Fault Refusal :=
  let d := dpa.toNat / 64 * 64
  let a := s.fabricAddr d
  let poison := fun (s : State) => s.emit (.cxlData n.val true [])
  if !s.b (F.CXL_PHY_STAT_MEM_EN n.val) then .next s
  else if s.twinState = 6 || 2 ^ 42 ≤ d then .next (poison s)
  else match s.waitsForTile a with
  | some t => .next (s.requestWake t)
  | none =>
    match (s.eccAt a 64 ecc).cxlFetch (cxlTile n) a with
    | (some bs, s1) => .next (s1.emit (.cxlData n.val false bs))
    | (none, s1) => .next (poison s1)

/-- A host write completes, at once or once the partner has executed its record (R439). -/
def State.cxlWritten (s : State) (n : Nat) (m : Option (Nat × Nat)) : State :=
  match m with
  | some (t, k) => if s.mustWait m then s.holdFor t k (.cxl n) else s.emit (.cxlDone n)
  | none => s.emit (.cxlDone n)

/-- A host write is discarded and counted at its port's tile, with the NOTICE of R264 where the entry refuses it. -/
def State.cxlLost (s : State) (n : Fin 2) (a : Nat) (m : Option (Nat × Nat)) (notice : Bool) : State :=
  let s1 := s.bump (F.MEM_LOST_WR (cxlTile n))
  (if notice then s1.note 0x3 .cxlWriteLost 1 (tgtHost n.val) a else s1).cxlWritten n.val m

/-- A host write of bytes within one line: stored, held while its entry is MIGRATING (R253), or discarded. -/
def State.cxlStore (s : State) (n : Fin 2) (a : Nat) (bs : List Byte) (m : Option (Nat × Nat)) : State :=
  match s.resolve (cxlTile n) a bs.length true with
  | (.bad _, s1) => s1.cxlLost n a m true
  | (.noCopy, s1) => s1.cxlLost n a m false
  | (.remote node addr, s1) =>
    (match s1.remoteAccess (cxlTile n) node addr (cxlTu 3 addr bs) 0 with
     | (.ok _, s2) => s2.cxlWritten n.val m
     | (.error _, s2) => s2.cxlLost n a m false)
  | (.at_ mt key e, s1) =>
    if e.migrating then s1.updPool (fun p => { p with held := p.held ++ [⟨cxlTile n, none, some n.val, a, bs, m⟩] })
    else match s1.store mt key bs with
      | .ok s2 => s2.cxlWritten n.val m
      | .error _ => s1.cxlLost n a m false

/-- CXL_MEM_WRITE (R256, R258, R264, R432, R437, R439): bytes within the 64-byte line of a DPA. -/
def execCxlMemWrite (n : Fin 2) (dpa : BitVec 64) (bytes : List Byte) (s : State) : Host.Outcome State Fault Refusal :=
  let d := dpa.toNat
  let a := s.fabricAddr d
  if !s.b (F.CXL_PHY_STAT_MEM_EN n.val) || bytes.isEmpty || 64 < d % 64 + bytes.length then .next s
  else if s.notHolder then .next (s.cxlLost n a none false)
  else if 2 ^ 42 ≤ d then .next (s.cxlLost n d none true)
  else match s.waitsForTile a with
  | some t => .next (s.requestWake t)
  | none => let (s1, m) := s.mirrorIf (cxlTile n) 4 0 a bytes; .next (s1.cxlStore n a bytes m)

/-! ### The change journal's flash (R82) -/

/-- JOURNAL_ENTRY_DURABLE (R82): the oldest waiting entry reaches flash; the reply it held is posted, and the module enters M1
where that reply answers PWR_MODULE_STANDBY (R383). -/
def execJournalEntryDurable (s : State) : Host.Outcome State Fault Refusal :=
  match s.journal.waiting with
  | [] => .next s
  | e :: rest =>
    let s0 : State := { s with journal := { s.journal with waiting := rest } }
    let s1 := s0.appendEntry e
    match e.reply with
    | none => .next s1
    | some (path, r) =>
      let s2 := s1.postFinal path r
      .next (if e.opcode = 0xB10 && r.status == stOk then s2.enterM1 else s2)

/-- JOURNAL_WRITE_TIMEOUT (R82): the oldest waiting entry cannot be written within 10 ms. A command's change is undone and
answered ERR_FAULT with a CRIT record; an entry of a BAR0 write or of a policy change is lost. -/
def execJournalWriteTimeout (s : State) : Host.Outcome State Fault Refusal :=
  match s.journal.waiting with
  | [] => .next s
  | e :: rest =>
    match (s.journal.waiting.filter (fun w => w.group == e.group)).findSome? (fun w => w.reply.map (fun r => (r, w.undo))) with
    | none =>
      let j : Journal := { s.journal with waiting := rest, lost := s.journal.lost + 1 }
      .next { s with journal := j }
    | some ((path, r), u) =>
      let s0 : State := { s with journal := { s.journal with waiting := s.journal.waiting.filter (fun w => w.group != e.group) } }
      let s1 := ((s0.undo u).each (u.maps.map (·.1)) State.tendMap).updClk (fun c => if e.opcode = 0x120 && e.target = 0 then { c with resetDue := none } else c)
      let s2 := s1.note 0x0 .journalLost 3 tgtModule e.opcode
      .next (s2.postFinal path { tag := r.tag, status := stFault, detail := fsrcModule 1, result := [] })

/-- JOURNAL_FLASH_RECOVER (R82): one GAP entry with the number of lost entries. -/
def execJournalFlashRecover (s : State) : Host.Outcome State Fault Refusal :=
  if s.journal.lost = 0 then .next s
  else
    let gap : JPending := { group := 0, bell := s.bell, origin := 0, opcode := 0xFFFD, target := 0, offset := s.journal.lost, tag := 0,
                            oldDigest := zeros 32, newDigest := zeros 32, reply := none, undo := {} }
    let s1 := s.appendEntry gap
    let s2 : State := { s1 with journal := { s1.journal with lost := 0 } }
    .next ((s2.setF F.JRNL_STAT_GAP 1).raiseMod 11)

/-! ### The management chain (R67 to R69, R428) -/

/-- Take a ROLLCALL with NEXT, and forward it (R69). A NEXT above 63 leaves the module without an address. -/
def State.rollcall (s : State) (src next : Nat) : State :=
  let a := s.f F.MCH_ADDR_ADDR
  if 64 ≤ next then (s.setF F.MCH_ADDR_ADDR 0).emit (.chain (chainFrame 0 src 1 [64]))
  else
    let b := if a < next then next else a
    (s.setF F.MCH_ADDR_ADDR b).emit (.chain (chainFrame 0 src 1 (leBytes 1 (b + 1))))

/-- ROLLCALL (R69): a Roll Call frame of the chain head. -/
def execRollcall (next : BitVec 8) (s : State) : Host.Outcome State Fault Refusal := .next (s.rollcall 0x7F next.toNat)

/-- MCH_LINK_CHANGE (R69): MCH_IN or, with `outSide`, MCH_OUT lost and regained link. -/
def execMchLinkChange (_outSide : Bool) (s : State) : Host.Outcome State Fault Refusal :=
  .next (s.emit (.chain (chainFrame 0 (s.f F.MCH_ADDR_ADDR) 2 [])))

/-- A COMMAND frame for this module (R68): refused from a sender that is neither head nor partner, or while 64 packets are
held, and else queued. -/
def State.chainCommand (s : State) (src : BitVec 8) (bytes : List Byte) : State :=
  let path := Path.chain src
  let reply := fun (status detail : Nat) =>
    s.postFinal path { tag := BitVec.ofNat 16 (leAt bytes 4 2), status := status, detail := detail, result := [] }
  match s.originOf path with
  | none => reply stAuth 1
  | some o =>
    if 64 ≤ s.proctor.chainQ.length + s.proctor.twinQ.length then reply stBusy 0
    else s.updPr (fun pr => if o = 4 then { pr with twinQ := pr.twinQ ++ [{ path := path, bytes := bytes }] }
      else { pr with chainQ := pr.chainQ ++ [{ path := path, bytes := bytes }] })

/-- A TWIN frame for this module (R428): LEASE, LEASE_ACK or RELEASE, known by its length. -/
def State.chainTwin (s : State) (src : BitVec 8) (d : List Byte) : State :=
  if d.length = 29 then s.lease (.chain src) (leAt d 0 8) (leAt d 8 8)
  else if d.length = 24 then s.leaseAck (.chain src) (leAt d 0 8) (leAt d 8 8)
  else if d.length = 17 then s.release (.chain src) (leAt d 0 8) (leAt d 16 1)
  else s

/-- Is a frame whole, with its CRC (R67)? -/
def chainFrameOk (bytes : List Byte) : Bool :=
  let n := leAt bytes 4 2
  decide (n ≤ 4096) && decide (bytes.length = n + 10) && leAt bytes (6 + n) 4 == crc32c (bytes.take (6 + n))

/-- CHAIN_FRAME_RECEIVE (R67, R68). -/
def execChainFrameReceive (bytes : List Byte) (s : State) : Host.Outcome State Fault Refusal :=
  let dest := leAt bytes 0 1
  let src := BitVec.ofNat 8 (leAt bytes 1 1)
  let type := leAt bytes 2 1
  let payload := (bytes.drop 6).take (leAt bytes 4 2)
  if !chainFrameOk bytes then .next (s.raiseMod 19)
  else if type = 1 then .next (s.rollcall src.toNat (leAt payload 0 1))
  else if dest = 0 || dest ≠ s.f F.MCH_ADDR_ADDR then .next (s.emit (.chain bytes))
  else if type = 0x10 then .next (s.chainCommand src payload)
  else if type = 0x20 then .next (s.chainTwin src payload)
  else .next s

/-! ### Identity (R75) -/

def nopDef : CmdDef where
  code := 0x0000
  act := fun s _ _ _ => .now s stOk 0 [] []

/-- NOP (R75). -/
def execNop (p : Packet) (s : State) : Host.Outcome State Fault Refusal := .next (runCmd nopDef p s)

/-- The 32 bytes of IDENTIFY. -/
def State.identity32 (s : State) : List Byte :=
  let home := if s.f F.STRAP_STAT_TWIN = 3 then 0 else s.f F.STRAP_STAT_TWIN
  leBytes 2 s.node ++ leBytes 1 (s.f F.MCH_ADDR_ADDR) ++
  leBytes 1 (home + (if s.twinState = 4 || s.twinState = 5 then 4 else 0)) ++ [0x42, 0x31, 0, 0] ++
  leBytes 4 (s.f F.SEC_FW_VER_LO) ++ leBytes 4 (s.f F.SEC_FW_VER_HI) ++ fitBytes 16 s.ident.serial

def identifyDef : CmdDef where
  code := 0x0001
  resLen := fun _ _ => some 32
  act := fun s _ _ _ => .now s stOk 0 s.identity32 []

/-- IDENTIFY (R75). -/
def execIdentify (p : Packet) (s : State) : Host.Outcome State Fault Refusal := .next (runCmd identifyDef p s)

def whoamiDef : CmdDef where
  code := 0x0002
  resLen := fun _ _ => some 4
  act := fun s _ o _ => .now s stOk 0 (leBytes 4 o) []

/-- WHOAMI (R75): the ORIGIN the module assigned. -/
def execWhoami (p : Packet) (s : State) : Host.Outcome State Fault Refusal := .next (runCmd whoamiDef p s)

/-! ### Register commands (R75 to R77) -/

/-- One end of the BAR0 register space, above which command queues lie (R76). -/
def regTop : Nat := 0x04000000

/-- Is a parameter no register offset (R76)? -/
def badOffset (off : Nat) : Bool := off % 4 != 0 || decide (regTop ≤ off)

/-- Read `n` registers from an offset upwards. -/
def State.readRegs (s : State) (off : Nat) : Nat → List Byte × State
  | 0 => ([], s)
  | n + 1 =>
    let r := s.readReg off
    let rest := State.readRegs r.2 (off + 4) n
    (leBytes 4 r.1.toNat ++ rest.1, rest.2)

def regReadDef : CmdDef where
  code := 0x0100
  len := fun _ => some 8
  par := fun _ p _ =>
    if badOffset (p.w 0) then some 32 else if 256 < p.w 1 || regTop < p.w 0 + 4 * p.w 1 then some 36 else none
  zero := fun p => p.w 1 == 0
  resLen := fun _ p => if p.w 1 ≤ 256 then some (4 * p.w 1) else none
  act := fun s p _ _ => let r := s.readRegs (p.w 0) (p.w 1); .now r.2 stOk 0 r.1 []

/-- REG_READ (R75, R76). -/
def execRegRead (p : Packet) (s : State) : Host.Outcome State Fault Refusal := .next (runCmd regReadDef p s)

/-- The OFFSET and VALUE pairs of REG_WRITE. -/
def writePairs (p : Packet) : List (Nat × Word) :=
  (List.range (p.w 0)).map (fun k => (p.w (1 + 2 * k), BitVec.ofNat 32 (p.w (2 + 2 * k))))

/-- A register write by command: as a BAR0 write would act (R76), with its change for the journal. -/
def State.cmdWrite (s : State) (off : Nat) (v : Word) : State × List JChange :=
  if s.sleepsAt off then (s.note 0x0 .sleepingAccess 1 (tgtTile (((placeOf off).map (·.tile)).getD 0)) off, [])
  else s.storeReg off v

/-- Writes by command, in order. -/
def State.cmdWrites (s : State) : List (Nat × Word) → State × List JChange
  | [] => (s, [])
  | e :: rest =>
    let r := s.cmdWrite e.1 e.2
    let q := State.cmdWrites r.1 rest
    (q.1, r.2 ++ q.2)

/-- What refuses register writes by command: no Hall Pass for a mirrored register (R439), and NODE in use (R77, R530). -/
def State.writesRefused (s : State) (l : List (Nat × Word)) : Option (Nat × Nat) :=
  if l.any (fun e => s.standbyReg e.1) then some (stNotHolder, 0)
  else if l.any (fun e => e.1 == R.NODE_CFG && s.nodeRefused e.2) then some (stState, 0x20)
  else none

def regWriteDef : CmdDef where
  code := 0x0101
  len := fun p => if p.w 0 ≤ 507 then some (4 + 8 * p.w 0) else none
  par := fun _ p _ =>
    if 128 < p.w 0 then some 32
    else ((List.range (p.w 0)).find? (fun k => badOffset (p.w (1 + 2 * k)))).map (fun k => 36 + 8 * k)
  zero := fun p => p.w 0 == 0
  pre := fun s p _ => s.writesRefused (writePairs p)
  journaled := true
  act := fun s p _ _ => let r := s.cmdWrites (writePairs p); .now r.1 stOk 0 [] r.2

/-- REG_WRITE (R75 to R77). -/
def execRegWrite (p : Packet) (s : State) : Host.Outcome State Fault Refusal := .next (runCmd regWriteDef p s)

/-- What REG_UPDATE writes over an old value: (old AND NOT MASK) OR (VALUE AND MASK). -/
def updated (p : Packet) (old : Word) : Word :=
  let m := BitVec.ofNat 32 (p.w 1)
  (old &&& ~~~ m) ||| (BitVec.ofNat 32 (p.w 2) &&& m)

def regUpdateDef : CmdDef where
  code := 0x0102
  len := fun _ => some 12
  par := fun _ p _ => if badOffset (p.w 0) then some 32 else none
  resLen := fun _ _ => some 4
  pre := fun s p _ => s.writesRefused [(p.w 0, updated p (s.view (p.w 0)))]
  journaled := true
  act := fun s p _ _ =>
    let r := s.readReg (p.w 0)
    let w := r.2.cmdWrite (p.w 0) (updated p r.1)
    .now w.1 stOk 0 (leBytes 4 r.1.toNat) w.2

/-- REG_UPDATE (R75, R76). -/
def execRegUpdate (p : Packet) (s : State) : Host.Outcome State Fault Refusal := .next (runCmd regUpdateDef p s)

/-! ### Reading the journal (R75, R76) -/

def journalHeadDef : CmdDef where
  code := 0x0110
  resLen := fun _ _ => some 40
  act := fun s _ _ _ => .now s stOk 0 (leBytes 8 ((s.journal.entries.getLast?.map (·.seq)).getD 0) ++ s.headHash) []

/-- JOURNAL_HEAD (R75). -/
def execJournalHead (p : Packet) (s : State) : Host.Outcome State Fault Refusal := .next (runCmd journalHeadDef p s)

/-- SEQ of JOURNAL_READ. -/
def journalSeq (p : Packet) : Nat := p.w 0 + 2 ^ 32 * p.w 1

/-- The oldest SEQ held. -/
def State.oldestSeq (s : State) : Nat := (s.journal.entries.head?.map (·.seq)).getD s.journal.count

/-- The entries that JOURNAL_READ returns. -/
def State.journalFrom (s : State) (p : Packet) : List JEntry :=
  (s.journal.entries.drop (journalSeq p - s.oldestSeq)).take (p.w 2)

def journalReadDef : CmdDef where
  code := 0x0111
  len := fun _ => some 12
  par := fun _ p _ => if 8192 < p.w 2 then some 40 else none
  zero := fun p => p.w 2 == 0
  resLen := fun s p => if p.w 2 ≤ 8192 && s.oldestSeq ≤ journalSeq p then some (128 * (s.journalFrom p).length) else none
  pre := fun s p _ => if journalSeq p < s.oldestSeq then some (stNotFound, s.oldestSeq % 2 ^ 32) else none
  act := fun s p _ _ => .now s stOk 0 ((s.journalFrom p).flatMap JEntry.bytes) []

/-- JOURNAL_READ (R75, R76). -/
def execJournalRead (p : Packet) (s : State) : Host.Outcome State Fault Refusal := .next (runCmd journalReadDef p s)

end Sys2Proof.Machine
end

