-- ==== Sys2Proof/Machine/Proctor.lean ====
section
/-! DEFINITION. Machine/Proctor.lean: how the Proctor takes packets in rounds (R58 steps 1 to 3, R60, R62, R63, R72) and ends
long-running commands (R55). -/

namespace Sys2Proof.Machine

/-! ### The opcodes -/

/-- The opcodes of group 0x00. -/
def group0 : List CmdDef :=
  [nopDef, identifyDef, whoamiDef, attestDef, idCertReadDef]

/-- The opcodes of group 0x01. -/
def group1 : List CmdDef :=
  [regReadDef, regWriteDef, regUpdateDef, journalHeadDef, journalReadDef, resetDef, xsiteResetDef, xsiteCapReadDef,
   tileTestEnterDef, tileTestRunDef, tileTestExitDef]

/-- The opcodes of group 0x02. -/
def group2 : List CmdDef :=
  [portTrainDef, portLanesetDef, phoCommissionDef, phoMonReadDef, phoSubstituteDef, phoRestoreDef, phoRefmonDef,
   portEyeScanDef, portPrbsDef, brimFenceDef, brimUnfenceDef]

/-- The opcodes of group 0x03. -/
def group3 : List CmdDef :=
  [memAllocDef, memFreeDef, memMigrateDef, memQueryDef, memPoolStatDef, memAttrDef]

/-- The opcodes of group 0x04. -/
def group4 : List CmdDef :=
  [omeJobSubmitDef, omeJobQueryDef, omeJobCancelDef, omeStageLoadDef, omeStageReleaseDef, omeStageQueryDef]

/-- The opcodes of group 0x05. -/
def group5 : List CmdDef :=
  [collGroupCreateDef, collGroupDestroyDef, collGroupModifyDef, collGroupQueryDef, collOpPostDef, collOpQueryDef,
   collOpAbortDef]

/-- The opcodes of group 0x06. -/
def group6 : List CmdDef :=
  [streamOpenDef, streamCloseDef, streamQueryDef, famMapDef, famReadDef, reserveReleaseDef, reserveReturnDef]

/-- The opcodes of group 0x07. -/
def group7 : List CmdDef :=
  [blockRunDef, blockTraceDef, blockReleaseDef, blockQueryDef, ageReplanResetDef, ageQueryDef]

/-- The opcodes of group 0x08. -/
def group8 : List CmdDef :=
  [faultStatusDef, faultClearDef, faultReleaseDef, faultUnfenceDef, faultInjectDef, rcReadDef, rcCondenseDef,
   rcClearDef, rcCodeListDef]

/-- The opcodes of group 0x09. -/
def group9 : List CmdDef :=
  [fwStageDef, fwActivateDef, fwTileUpdateDef, secSvnCommitDef, secKeyRevokeDef]

/-- The opcodes of group 0x0A. -/
def groupA : List CmdDef :=
  [twinStatusDef, twinBindDef, twinHandoverDef, twinForceTakeDef, gangCfgDef]

/-- The opcodes of group 0x0B. -/
def groupB : List CmdDef :=
  [pwrTileModeDef, pwrModuleStandbyDef, pwrModuleResumeDef, pwrCapSetDef, pwrPolicySetDef, pwrQueryDef]

/-- Every Camdan opcode. -/
def cmdDefs : List CmdDef :=
  group0 ++ group1 ++ group2 ++ group3 ++ group4 ++ group5 ++ group6 ++ group7 ++ group8 ++ group9 ++ groupA ++ groupB

/-- The opcode of a number. -/
def cmdDef (code : Nat) : Option CmdDef := cmdDefs.find? (fun d => d.code == code)

/-- Run a packet's command: group 0x09 with the count of failed signatures (R465). -/
def State.dispatch (s : State) (d : CmdDef) (p : Packet) : State :=
  if d.code / 256 = 9 then runSigned d p s else runCmd d p s

/-! ### Steps 1 to 3 of R58 -/

/-- The largest PARAM_LEN of a path (R52). On the JTAG path, for which no limit is stated, it is 4,064 (DESIGN CHOICE,
assumption 153). -/
def paramLimit : Path → Nat
  | .port _ => 1824
  | .site _ => 1824
  | _ => 4064

/-- A packet's bytes as a Packet: header fields, parameters, and inline data after them. -/
def parsePacket (path : Path) (bs : List Byte) : Packet :=
  let n := leAt bs 8 4
  { path := path, flags := BitVec.ofNat 16 (leAt bs 2 2), tag := BitVec.ofNat 16 (leAt bs 4 2),
    dataLen := BitVec.ofNat 32 (leAt bs 12 4), dataAddr := BitVec.ofNat 64 (leAt bs 16 8),
    target := BitVec.ofNat 32 (leAt bs 24 4), params := (bs.drop 32).take n, data := bs.drop (32 + n) }

/-- Does the CRC match: bytes 0 to 27 with ORIGIN as 0, and the parameters (R47)? Missing bytes match none. -/
def packetCrcOk (bs : List Byte) : Bool :=
  let n := leAt bs 8 4
  decide (32 + n ≤ bs.length) &&
  leAt bs 28 4 == crc32c (bs.take 6 ++ [0, 0] ++ (bs.drop 8).take 20 ++ (bs.drop 32).take n)

/-- The first failure of steps 1 to 3: status and DETAIL. -/
def earlyFault (path : Path) (bs : List Byte) : Option (Nat × Nat) :=
  let n := leAt bs 8 4
  let up := (n + 3) / 4 * 4
  let limit := paramLimit path
  if n % 4 ≠ 0 || limit < n then some (stLength, if up ≤ limit then up else limit)
  else if !packetCrcOk bs then some (stCrc, 0)
  else if (cmdDef (leAt bs 0 2)).isNone then some (stOpcode, 0)
  else none

/-- Run a packet that the Proctor has taken: its checks, its effect, its reply. -/
def State.runPacket (s : State) (path : Path) (bs : List Byte) : State :=
  let p := parsePacket path bs
  match earlyFault path bs with
  | some (st, det) => s.answer p st det
  | none => match cmdDef (leAt bs 0 2) with
    | none => s
    | some d => s.dispatch d p

/-! ### Rounds (R72) -/

/-- Does a packet with FENCE wait for an earlier command of its path (R48)? -/
def State.fenceWaits (s : State) (path : Path) (bs : List Byte) : Bool := (leAt bs 2 2).testBit 1 && s.outstanding path

/-- Does the Proctor take packets from a path now (R65, R369, R390, R466)? -/
def State.listens (s : State) (path : Path) : Bool :=
  let chain := match path with | .chain _ => true | _ => false
  if s.clocks.tripped || s.sec.recovery then chain else s.b F.Q_GLOBAL_PROCTOR_READY && !s.b F.Q_GLOBAL_SWITCHOVER

/-- The address of entry e of a queue's submission area (R59). -/
def sqEntry (q e : Nat) : Nat := 0x04000000 + q * 0x100000 + e % 4096 * 64

/-- The bytes of n entries from entry e, wrapping (R60). -/
def State.sqRead (s : State) (q e n : Nat) : List Byte := (List.range n).flatMap (fun i => Memory.read s.sq (sqEntry q (e + i)) 64)

/-- Entries that a packet of a PARAM_LEN occupies (R60). -/
def entriesOf (plen : Nat) : Nat := if 4064 < plen then 64 else (32 + plen + 63) / 64

/-- The bytes at the head of a host queue with entries waiting. -/
def State.sqHead (s : State) (q : Nat) : List Byte :=
  let h := s.f (F.Q_STAT_SQ_HEAD q)
  s.sqRead q h (entriesOf (leAt (s.sqRead q h 1) 8 4))

/-- The code of an in-band path. -/
def pathCode : Path → Nat
  | .port p => p.val
  | .site k => 240 + k.val
  | _ => 256

/-- The next packet of a place in the round: 0 the chain, 1 the twin partner, 2 + q host queue q, 18 + c port code c. -/
def State.waitingAt (s : State) (place : Nat) : Option RawPacket :=
  let partner := fun (r : RawPacket) => s.originOf r.path == some 4
  let found :=
    if place = 0 then s.proctor.chainQ.head?
    else if place = 1 then s.proctor.twinQ.head?.or (s.proctor.portQ.find? partner)
    else if place < 18 then
      let q := place - 2
      if s.f (F.Q_STAT_STATE q) = 1 && !s.cqFull q && (s.qu q).held.isEmpty && s.f (F.Q_STAT_SQ_HEAD q) != s.f (F.QDB_SQ_TAIL_TAIL q) then
        some { path := .host (Fin.ofNat 16 q), bytes := s.sqHead q }
      else none
    else s.proctor.portQ.find? (fun r => pathCode r.path == place - 18 && !partner r)
  match found with
  | some r => if s.listens r.path && !s.fenceWaits r.path r.bytes then some r else none
  | none => none

/-- The order of a new round. -/
def State.newRound (s : State) : List Nat :=
  let ports := allPorts ++ sitePorts
  let after := ports.filter (fun c => decide (s.proctor.lastPort < c))
  let before := ports.filter (fun c => decide (c ≤ s.proctor.lastPort))
  [0, 1] ++ (List.range 16).map (fun i => 2 + (s.proctor.lastQueue + 1 + i) % 16) ++ (after ++ before).map (· + 18)

/-- The next place with a packet, the packet, and what is then left of the round. -/
def State.nextPlace (s : State) : List Nat → Option (Nat × RawPacket × List Nat)
  | [] => none
  | c :: rest => match s.waitingAt c with
    | some r => some (c, r, rest)
    | none => State.nextPlace s rest

/-- Take a packet of a host queue: TORN where its entries reach past the tail (R60, R63), else SQ_HEAD moves past it and it
runs. -/
def State.takeHost (s : State) (q : Nat) (bs : List Byte) : State :=
  let n := leAt bs 8 4
  let head := s.f (F.Q_STAT_SQ_HEAD q)
  let there := (s.f (F.QDB_SQ_TAIL_TAIL q) + 4096 - head) % 4096
  let path := Path.host (Fin.ofNat 16 q)
  if there < entriesOf n then
    let s1 := s.answer (parsePacket path bs) stLength (if 4064 < n then 4096 else 32 + n)
    s1.setFs [(F.Q_ERR_TORN q, 1), (F.Q_STAT_STATE q, 2)]
  else (s.setF (F.Q_STAT_SQ_HEAD q) ((head + entriesOf n) % 4096)).runPacket path bs

/-- Take the packet at a place of the round. -/
def State.takeAt (s : State) (place : Nat) (r : RawPacket) (left : List Nat) : State :=
  let s0 := s.updPr (fun pr => { pr with round := left })
  if place = 0 then (s0.updPr (fun pr => { pr with chainQ := pr.chainQ.drop 1 })).runPacket r.path r.bytes
  else if 2 ≤ place && place < 18 then (s0.updPr (fun pr => { pr with lastQueue := place - 2 })).takeHost (place - 2) r.bytes
  else
    let s1 := s0.updPr (fun pr => { pr with
      twinQ := if place = 1 then pr.twinQ.erase r else pr.twinQ, portQ := pr.portQ.erase r,
      lastPort := if place = 1 then pr.lastPort else place - 18 })
    s1.runPacket r.path r.bytes

/-- PROCTOR_TAKE_PACKET (R72): the next packet of the round, or of a new round. -/
def execProctorTakePacket (s : State) : Host.Outcome State Fault Refusal :=
  match s.nextPlace s.proctor.round with
  | some (c, r, left) => .next (s.takeAt c r left)
  | none => match s.nextPlace s.newRound with
    | some (c, r, left) => .next (s.takeAt c r left)
    | none => .next s

/-! ### The end of a long-running command (R55) -/

/-- Give a running command its outcome where only the event can: the counts of PORT_PRBS, the result of a tile test, the write
of a staged image, the reply of a gang member. -/
def State.outcome (s : State) (r : Running) (meas : List Byte) (gang : Option GangReply) : State :=
  if r.fin.isSome then s
  else if s.b F.GANG_STAT_EN && r.pkt.member != 0 then
    (match gang with
     | some g => s.finish r.id g.status.toNat g.detail.toNat g.result
     | none => s)
  else if r.opcode = 0x251 then s.finish r.id stOk 0 (fitBytes 76 meas)
  else if r.opcode = 0x151 then s.testDone r meas
  else if r.opcode = 0x900 then s.stageWritten r
  else s

/-- COMMAND_COMPLETE (R55): the running command of a path and TAG ends and its final reply is posted. -/
def execCommandComplete (path : Path) (tag : BitVec 16) (meas : List Byte) (gang : Option GangReply) (s : State) :
    Host.Outcome State Fault Refusal :=
  match s.proctor.running.find? (fun r => decide (r.pkt.path = path) && r.pkt.tag == tag) with
  | none => .next s
  | some r0 =>
    let s1 := s.outcome r0 meas gang
    match (s1.running r0.id).bind (fun r => r.fin) with
    | none => .next s1
    | some f =>
      let s2 := s1.updPr (fun pr => { pr with running := pr.running.filter (fun x => x.id != r0.id) })
      let journaled := r0.pkt.member = 0 && (match cmdDef r0.opcode with | some d => d.journaled | none => false)
      .next (s2.conclude r0.opcode r0.origin journaled r0.pkt f.status f.detail f.result f.changes f.undo)

end Sys2Proof.Machine
end

