-- ==== Sys2Proof/Machine/Dispatch.lean ====
section
/-! DEFINITION. Machine/Dispatch.lean: one arm per command of the opcode table. -/

namespace Sys2Proof.Machine

/-- The meaning of a command: its effect on everything but the queue of waiting commands. -/
def exec (i : Instr) (s : State) : Host.Outcome State Fault Refusal :=
  match i with
  | .nop p => Sys2Proof.Machine.execNop p s
  | .identify p => Sys2Proof.Machine.execIdentify p s
  | .whoami p => Sys2Proof.Machine.execWhoami p s
  | .attest p => Sys2Proof.Machine.execAttest p s
  | .idCertRead p => Sys2Proof.Machine.execIdCertRead p s
  | .regRead p => Sys2Proof.Machine.execRegRead p s
  | .regWrite p => Sys2Proof.Machine.execRegWrite p s
  | .regUpdate p => Sys2Proof.Machine.execRegUpdate p s
  | .journalHead p => Sys2Proof.Machine.execJournalHead p s
  | .journalRead p => Sys2Proof.Machine.execJournalRead p s
  | .reset p => Sys2Proof.Machine.execReset p s
  | .xsiteReset p => Sys2Proof.Machine.execXsiteReset p s
  | .xsiteCapRead p => Sys2Proof.Machine.execXsiteCapRead p s
  | .tileTestEnter p => Sys2Proof.Machine.execTileTestEnter p s
  | .tileTestRun p => Sys2Proof.Machine.execTileTestRun p s
  | .tileTestExit p => Sys2Proof.Machine.execTileTestExit p s
  | .portTrain p => Sys2Proof.Machine.execPortTrain p s
  | .portLaneset p => Sys2Proof.Machine.execPortLaneset p s
  | .phoCommission p => Sys2Proof.Machine.execPhoCommission p s
  | .phoMonRead p => Sys2Proof.Machine.execPhoMonRead p s
  | .phoSubstitute p => Sys2Proof.Machine.execPhoSubstitute p s
  | .phoRestore p => Sys2Proof.Machine.execPhoRestore p s
  | .phoRefmon p => Sys2Proof.Machine.execPhoRefmon p s
  | .portEyeScan p => Sys2Proof.Machine.execPortEyeScan p s
  | .portPrbs p => Sys2Proof.Machine.execPortPrbs p s
  | .brimFence p => Sys2Proof.Machine.execBrimFence p s
  | .brimUnfence p => Sys2Proof.Machine.execBrimUnfence p s
  | .memAlloc p => Sys2Proof.Machine.execMemAlloc p s
  | .memFree p => Sys2Proof.Machine.execMemFree p s
  | .memMigrate p => Sys2Proof.Machine.execMemMigrate p s
  | .memQuery p => Sys2Proof.Machine.execMemQuery p s
  | .memPoolStat p => Sys2Proof.Machine.execMemPoolStat p s
  | .memAttr p => Sys2Proof.Machine.execMemAttr p s
  | .omeJobSubmit p => Sys2Proof.Machine.execOmeJobSubmit p s
  | .omeJobQuery p => Sys2Proof.Machine.execOmeJobQuery p s
  | .omeJobCancel p => Sys2Proof.Machine.execOmeJobCancel p s
  | .omeStageLoad p => Sys2Proof.Machine.execOmeStageLoad p s
  | .omeStageRelease p => Sys2Proof.Machine.execOmeStageRelease p s
  | .omeStageQuery p => Sys2Proof.Machine.execOmeStageQuery p s
  | .collGroupCreate p => Sys2Proof.Machine.execCollGroupCreate p s
  | .collGroupDestroy p => Sys2Proof.Machine.execCollGroupDestroy p s
  | .collGroupModify p => Sys2Proof.Machine.execCollGroupModify p s
  | .collGroupQuery p => Sys2Proof.Machine.execCollGroupQuery p s
  | .collOpPost p => Sys2Proof.Machine.execCollOpPost p s
  | .collOpQuery p => Sys2Proof.Machine.execCollOpQuery p s
  | .collOpAbort p => Sys2Proof.Machine.execCollOpAbort p s
  | .streamOpen p => Sys2Proof.Machine.execStreamOpen p s
  | .streamClose p => Sys2Proof.Machine.execStreamClose p s
  | .streamQuery p => Sys2Proof.Machine.execStreamQuery p s
  | .streamReserveRelease p => Sys2Proof.Machine.execStreamReserveRelease p s
  | .streamReserveReturn p => Sys2Proof.Machine.execStreamReserveReturn p s
  | .famMap p => Sys2Proof.Machine.execFamMap p s
  | .famRead p => Sys2Proof.Machine.execFamRead p s
  | .blockRun p => Sys2Proof.Machine.execBlockRun p s
  | .blockTrace p => Sys2Proof.Machine.execBlockTrace p s
  | .blockRelease p => Sys2Proof.Machine.execBlockRelease p s
  | .blockQuery p => Sys2Proof.Machine.execBlockQuery p s
  | .ageReplanReset p => Sys2Proof.Machine.execAgeReplanReset p s
  | .ageQuery p => Sys2Proof.Machine.execAgeQuery p s
  | .faultStatus p => Sys2Proof.Machine.execFaultStatus p s
  | .faultClear p => Sys2Proof.Machine.execFaultClear p s
  | .faultRelease p => Sys2Proof.Machine.execFaultRelease p s
  | .faultUnfence p => Sys2Proof.Machine.execFaultUnfence p s
  | .faultInject p => Sys2Proof.Machine.execFaultInject p s
  | .rcRead p => Sys2Proof.Machine.execRcRead p s
  | .rcCondense p => Sys2Proof.Machine.execRcCondense p s
  | .rcClear p => Sys2Proof.Machine.execRcClear p s
  | .rcCodeList p => Sys2Proof.Machine.execRcCodeList p s
  | .fwStage p => Sys2Proof.Machine.execFwStage p s
  | .fwActivate p => Sys2Proof.Machine.execFwActivate p s
  | .fwTileUpdate p => Sys2Proof.Machine.execFwTileUpdate p s
  | .secSvnCommit p => Sys2Proof.Machine.execSecSvnCommit p s
  | .secKeyRevoke p => Sys2Proof.Machine.execSecKeyRevoke p s
  | .twinStatus p => Sys2Proof.Machine.execTwinStatus p s
  | .twinBind p => Sys2Proof.Machine.execTwinBind p s
  | .twinHandover p => Sys2Proof.Machine.execTwinHandover p s
  | .twinForceTake p => Sys2Proof.Machine.execTwinForceTake p s
  | .gangCfg p => Sys2Proof.Machine.execGangCfg p s
  | .pwrTileMode p => Sys2Proof.Machine.execPwrTileMode p s
  | .pwrModuleStandby p => Sys2Proof.Machine.execPwrModuleStandby p s
  | .pwrModuleResume p => Sys2Proof.Machine.execPwrModuleResume p s
  | .pwrCapSet p => Sys2Proof.Machine.execPwrCapSet p s
  | .pwrPolicySet p => Sys2Proof.Machine.execPwrPolicySet p s
  | .pwrQuery p => Sys2Proof.Machine.execPwrQuery p s
  | .proctorTakePacket => Sys2Proof.Machine.execProctorTakePacket s
  | .commandComplete path tag meas gang => Sys2Proof.Machine.execCommandComplete path tag meas gang s
  | .qdbSqTailWrite src q v => Sys2Proof.Machine.execQdbSqTailWrite src q v s
  | .qdbCqHeadWrite src q v => Sys2Proof.Machine.execQdbCqHeadWrite src q v s
  | .qEnable src q v => Sys2Proof.Machine.execQEnable src q v s
  | .qDisable src q v => Sys2Proof.Machine.execQDisable src q v s
  | .qDrainDone q => Sys2Proof.Machine.execQDrainDone q s
  | .cxlIoError q => Sys2Proof.Machine.execCxlIoError q s
  | .cxlHotReset n lost => Sys2Proof.Machine.execCxlHotReset n lost s
  | .cxlLinkTrained n rate width rev => Sys2Proof.Machine.execCxlLinkTrained n rate width rev s
  | .cxlMemRead n dpa ecc => Sys2Proof.Machine.execCxlMemRead n dpa ecc s
  | .cxlMemWrite n dpa bytes => Sys2Proof.Machine.execCxlMemWrite n dpa bytes s
  | .bar0BadAccess src off write => Sys2Proof.Machine.execBar0BadAccess src off write s
  | .bar0RegWrite src off v => Sys2Proof.Machine.execBar0RegWrite src off v s
  | .regLoRead src off => Sys2Proof.Machine.execRegLoRead src off s
  | .jrnlHeadSeqLoRead src => Sys2Proof.Machine.execJrnlHeadSeqLoRead src s
  | .sleepingTileAccess src t rel w => Sys2Proof.Machine.execSleepingTileAccess src t rel w s
  | .nodeCfgWrite src v => Sys2Proof.Machine.execNodeCfgWrite src v s
  | .linkEnable src p v => Sys2Proof.Machine.execLinkEnable src p v s
  | .linkDisable src p v => Sys2Proof.Machine.execLinkDisable src p v s
  | .crownDisable src t v => Sys2Proof.Machine.execCrownDisable src t v s
  | .omeDisable src t v => Sys2Proof.Machine.execOmeDisable src t v s
  | .tilePwrCtlWrite src t v => Sys2Proof.Machine.execTilePwrCtlWrite src t v s
  | .strmRingHeadWrite src t v => Sys2Proof.Machine.execStrmRingHeadWrite src t v s
  | .ffirstValidClear scope => Sys2Proof.Machine.execFfirstValidClear scope s
  | .journalEntryDurable => Sys2Proof.Machine.execJournalEntryDurable s
  | .journalWriteTimeout => Sys2Proof.Machine.execJournalWriteTimeout s
  | .journalFlashRecover => Sys2Proof.Machine.execJournalFlashRecover s
  | .chainFrameReceive bytes => Sys2Proof.Machine.execChainFrameReceive bytes s
  | .rollcall next => Sys2Proof.Machine.execRollcall next s
  | .mchLinkChange outSide => Sys2Proof.Machine.execMchLinkChange outSide s
  | .cmdPacketAssembled v bytes => Sys2Proof.Machine.execCmdPacketAssembled v bytes s
  | .refLoss pwr => Sys2Proof.Machine.execRefLoss pwr s
  | .refReturn pwr ofs => Sys2Proof.Machine.execRefReturn pwr ofs s
  | .combStart t c found => Sys2Proof.Machine.execCombStart t c found s
  | .laserOvertemp t c tj => Sys2Proof.Machine.execLaserOvertemp t c tj s
  | .ringResonanceFound t ring => Sys2Proof.Machine.execRingResonanceFound t ring s
  | .ringSearchTimeout t ring => Sys2Proof.Machine.execRingSearchTimeout t ring s
  | .ringLockLost t ring => Sys2Proof.Machine.execRingLockLost t ring s
  | .ringHeadroomLow t ring head => Sys2Proof.Machine.execRingHeadroomLow t ring head s
  | .fadeEvaluation t readings => Sys2Proof.Machine.execFadeEvaluation t readings s
  | .substituteLocked t u => Sys2Proof.Machine.execSubstituteLocked t u s
  | .substituteLockTimeout t u => Sys2Proof.Machine.execSubstituteLockTimeout t u s
  | .laneSourceMoved t role unit lock => Sys2Proof.Machine.execLaneSourceMoved t role unit lock s
  | .losAssert p => Sys2Proof.Machine.execLosAssert p s
  | .losDeassert p => Sys2Proof.Machine.execLosDeassert p s
  | .beaconWordReceive p w => Sys2Proof.Machine.execBeaconWordReceive p w s
  | .trainingWordReceive p line w => Sys2Proof.Machine.execTrainingWordReceive p line w s
  | .trainStageDone p pass => Sys2Proof.Machine.execTrainStageDone p pass s
  | .trainStageTimeout p pass => Sys2Proof.Machine.execTrainStageTimeout p pass s
  | .rateHuntStep p => Sys2Proof.Machine.execRateHuntStep p s
  | .trainRetryTimer p => Sys2Proof.Machine.execTrainRetryTimer p s
  | .laneOffsetCheck p ofs => Sys2Proof.Machine.execLaneOffsetCheck p ofs s
  | .tapSaturated p j => Sys2Proof.Machine.execTapSaturated p j s
  | .a1Entry p => Sys2Proof.Machine.execA1Entry p s
  | .keepPhaseBurst p => Sys2Proof.Machine.execKeepPhaseBurst p s
  | .a1Exit p => Sys2Proof.Machine.execA1Exit p s
  | .eyeScanPointDone p mism => Sys2Proof.Machine.execEyeScanPointDone p mism s
  | .marginSweepStep p j opening => Sys2Proof.Machine.execMarginSweepStep p j opening s
  | .codewordReceive v bytes onNew => Sys2Proof.Machine.execCodewordReceive v bytes onNew s
  | .flitSend v => Sys2Proof.Machine.execFlitSend v s
  | .ackIdleTimer v => Sys2Proof.Machine.execAckIdleTimer v s
  | .replayTimerExpiry v => Sys2Proof.Machine.execReplayTimerExpiry v s
  | .fastRetrainDone v ok => Sys2Proof.Machine.execFastRetrainDone v ok s
  | .rttMeasure v => Sys2Proof.Machine.execRttMeasure v s
  | .laneset p msg => Sys2Proof.Machine.execLaneset p msg s
  | .lanesetAck p msg => Sys2Proof.Machine.execLanesetAck p msg s
  | .lanesetBoundary p => Sys2Proof.Machine.execLanesetBoundary p s
  | .lanesetAckTimeout p => Sys2Proof.Machine.execLanesetAckTimeout p s
  | .lanesetCancel p msg => Sys2Proof.Machine.execLanesetCancel p msg s
  | .lanesetCancelWindowEnd p => Sys2Proof.Machine.execLanesetCancelWindowEnd p s
  | .echo v msg => Sys2Proof.Machine.execEcho v msg s
  | .echoReply v msg elapsed => Sys2Proof.Machine.execEchoReply v msg elapsed s
  | .verify p msg => Sys2Proof.Machine.execVerify p msg s
  | .doze p => Sys2Proof.Machine.execDoze p s
  | .awake p => Sys2Proof.Machine.execAwake p s
  | .awakeTimeout p => Sys2Proof.Machine.execAwakeTimeout p s
  | .portReset p => Sys2Proof.Machine.execPortReset p s
  | .crownStartPulse => Sys2Proof.Machine.execCrownStartPulse s
  | .crownSlot offers => Sys2Proof.Machine.execCrownSlot offers s
  | .crownBurstReceive t plane lock body => Sys2Proof.Machine.execCrownBurstReceive t plane lock body s
  | .crownHoldExpiry t orig vc => Sys2Proof.Machine.execCrownHoldExpiry t orig vc s
  | .crownRtoExpiry t final vc => Sys2Proof.Machine.execCrownRtoExpiry t final vc s
  | .crownProbeDue t dst => Sys2Proof.Machine.execCrownProbeDue t dst s
  | .crownDeadMapUpdate t tx rx asleep => Sys2Proof.Machine.execCrownDeadMapUpdate t tx rx asleep s
  | .brimFrameReceive t e bytes ce ue => Sys2Proof.Machine.execBrimFrameReceive t e bytes ce ue s
  | .brimUeLimit t e => Sys2Proof.Machine.execBrimUeLimit t e s
  | .brimTestDone t e ue ce farUe farCe => Sys2Proof.Machine.execBrimTestDone t e ue ce farUe farCe s
  | .stentStandinMove t => Sys2Proof.Machine.execStentStandinMove t s
  | .streamData v bytes => Sys2Proof.Machine.execStreamData v bytes s
  | .memRead v bytes ecc => Sys2Proof.Machine.execMemRead v bytes ecc s
  | .memWrite v bytes => Sys2Proof.Machine.execMemWrite v bytes s
  | .credit v bytes => Sys2Proof.Machine.execCredit v bytes s
  | .creditReportDue h => Sys2Proof.Machine.execCreditReportDue h s
  | .streamReturnHold h => Sys2Proof.Machine.execStreamReturnHold h s
  | .streamSuspendTimeout h => Sys2Proof.Machine.execStreamSuspendTimeout h s
  | .streamCloseDrained h => Sys2Proof.Machine.execStreamCloseDrained h s
  | .closeNoticeDeliver v => Sys2Proof.Machine.execCloseNoticeDeliver v s
  | .famInvalidateDone => Sys2Proof.Machine.execFamInvalidateDone s
  | .famCacheMissFill t index => Sys2Proof.Machine.execFamCacheMissFill t index s
  | .famCopyLost c => Sys2Proof.Machine.execFamCopyLost c s
  | .famCopyRebuilt c => Sys2Proof.Machine.execFamCopyRebuilt c s
  | .frameZeroed slot => Sys2Proof.Machine.execFrameZeroed slot s
  | .migratePass1Done t => Sys2Proof.Machine.execMigratePass1Done t s
  | .migrateFrameSwitch t => Sys2Proof.Machine.execMigrateFrameSwitch t s
  | .patrolScrubStep t ecc => Sys2Proof.Machine.execPatrolScrubStep t ecc s
  | .memoryUnavailable t => Sys2Proof.Machine.execMemoryUnavailable t s
  | .memoryReturn t => Sys2Proof.Machine.execMemoryReturn t s
  | .memTempSample t temp => Sys2Proof.Machine.execMemTempSample t temp s
  | .omePassStart t => Sys2Proof.Machine.execOmePassStart t s
  | .omePassEnd t pilot row bank readings => Sys2Proof.Machine.execOmePassEnd t pilot row bank readings s
  | .omeBankReloadDone t bank => Sys2Proof.Machine.execOmeBankReloadDone t bank s
  | .pilotLimitExceeded t pilot row bank => Sys2Proof.Machine.execPilotLimitExceeded t pilot row bank s
  | .pilotAcquired t => Sys2Proof.Machine.execPilotAcquired t s
  | .reacqTimeout t => Sys2Proof.Machine.execReacqTimeout t s
  | .omeSubstituteChange t => Sys2Proof.Machine.execOmeSubstituteChange t s
  | .omeFail t => Sys2Proof.Machine.execOmeFail t s
  | .jobStagingDone origin tag => Sys2Proof.Machine.execJobStagingDone origin tag s
  | .jobUnitWritten origin tag t => Sys2Proof.Machine.execJobUnitWritten origin tag t s
  | .jobSharesEnded origin tag => Sys2Proof.Machine.execJobSharesEnded origin tag s
  | .jobMirrorDone origin tag => Sys2Proof.Machine.execJobMirrorDone origin tag s
  | .projectBatchWait origin tag => Sys2Proof.Machine.execProjectBatchWait origin tag s
  | .collOpStart c => Sys2Proof.Machine.execCollOpStart c s
  | .collData v bytes => Sys2Proof.Machine.execCollData v bytes s
  | .collRoute v bytes => Sys2Proof.Machine.execCollRoute v bytes s
  | .collEnd v bytes => Sys2Proof.Machine.execCollEnd v bytes s
  | .collSegmentReduced c seg stage => Sys2Proof.Machine.execCollSegmentReduced c seg stage s
  | .collOpComplete c => Sys2Proof.Machine.execCollOpComplete c s
  | .peerPartialReceive v bytes digestOk => Sys2Proof.Machine.execPeerPartialReceive v bytes digestOk s
  | .blockTempEvaluation t avg => Sys2Proof.Machine.execBlockTempEvaluation t avg s
  | .blockSettleTimeout t => Sys2Proof.Machine.execBlockSettleTimeout t s
  | .blockTimetableDue t chan => Sys2Proof.Machine.execBlockTimetableDue t chan s
  | .blockRunStart t slot => Sys2Proof.Machine.execBlockRunStart t slot s
  | .blockRunEnd t chan found => Sys2Proof.Machine.execBlockRunEnd t chan found s
  | .blockRunAbort t chan => Sys2Proof.Machine.execBlockRunAbort t chan s
  | .laneRunRefused p => Sys2Proof.Machine.execLaneRunRefused p s
  | .referenceTraceDue t => Sys2Proof.Machine.execReferenceTraceDue t s
  | .referenceTraceEnd t found => Sys2Proof.Machine.execReferenceTraceEnd t found s
  | .ageingEvaluation t m => Sys2Proof.Machine.execAgeingEvaluation t m s
  | .refclkLoss => Sys2Proof.Machine.execRefclkLoss s
  | .refclkReturn t00 t47 => Sys2Proof.Machine.execRefclkReturn t00 t47 s
  | .cdcTimeout t => Sys2Proof.Machine.execCdcTimeout t s
  | .strapSample straps => Sys2Proof.Machine.execStrapSample straps s
  | .powerOn a b => Sys2Proof.Machine.execPowerOn a b s
  | .proctorReady => Sys2Proof.Machine.execProctorReady s
  | .mresetNLow => Sys2Proof.Machine.execMresetNLow s
  | .coldReset => Sys2Proof.Machine.execColdReset s
  | .warmReset => Sys2Proof.Machine.execWarmReset s
  | .tileReset t => Sys2Proof.Machine.execTileReset t s
  | .d1Entry t => Sys2Proof.Machine.execD1Entry t s
  | .d1EntryAbandon t => Sys2Proof.Machine.execD1EntryAbandon t s
  | .portActivityWake p => Sys2Proof.Machine.execPortActivityWake p s
  | .d1Exit t => Sys2Proof.Machine.execD1Exit t s
  | .d2Entry t => Sys2Proof.Machine.execD2Entry t s
  | .d2Exit t => Sys2Proof.Machine.execD2Exit t s
  | .m1Exit row => Sys2Proof.Machine.execM1Exit row s
  | .tjSample t diodes ring => Sys2Proof.Machine.execTjSample t diodes ring s
  | .thermtrip t => Sys2Proof.Machine.execThermtrip t s
  | .throttleLoopTick t => Sys2Proof.Machine.execThrottleLoopTick t s
  | .remoteDiodeUpdate n v open_ short => Sys2Proof.Machine.execRemoteDiodeUpdate n v open_ short s
  | .coolantCheck => Sys2Proof.Machine.execCoolantCheck s
  | .faultSourceAssert scope bit hold => Sys2Proof.Machine.execFaultSourceAssert scope bit hold s
  | .safeEntered scope => Sys2Proof.Machine.execSafeEntered scope s
  | .quietTimerExpiry scope => Sys2Proof.Machine.execQuietTimerExpiry scope s
  | .faultRecoveryDone scope => Sys2Proof.Machine.execFaultRecoveryDone scope s
  | .condensationDue => Sys2Proof.Machine.execCondensationDue s
  | .condensationDone => Sys2Proof.Machine.execCondensationDone s
  | .islandBufferCopy => Sys2Proof.Machine.execIslandBufferCopy s
  | .pairHello via h => Sys2Proof.Machine.execPairHello via h s
  | .pairHelloResend => Sys2Proof.Machine.execPairHelloResend s
  | .partnerWaitTimeout => Sys2Proof.Machine.execPartnerWaitTimeout s
  | .leaseRenewalDue => Sys2Proof.Machine.execLeaseRenewalDue s
  | .lease via epoch bell leaseT mseq health => Sys2Proof.Machine.execLease via epoch bell leaseT mseq health s
  | .leaseAck via epoch bell mseq => Sys2Proof.Machine.execLeaseAck via epoch bell mseq s
  | .release via epoch mseq reason => Sys2Proof.Machine.execRelease via epoch mseq reason s
  | .leaseExpiry => Sys2Proof.Machine.execLeaseExpiry s
  | .selfFence => Sys2Proof.Machine.execSelfFence s
  | .selfDiagnosisFail => Sys2Proof.Machine.execSelfDiagnosisFail s
  | .leasePathLoss => Sys2Proof.Machine.execLeasePathLoss s
  | .holderNotice v bytes => Sys2Proof.Machine.execHolderNotice v bytes s
  | .mirror p bytes => Sys2Proof.Machine.execMirror p bytes s
  | .mirrorAck p bytes => Sys2Proof.Machine.execMirrorAck p bytes s
  | .mirrorAckDue t => Sys2Proof.Machine.execMirrorAckDue t s
  | .twinPortsUnreachable => Sys2Proof.Machine.execTwinPortsUnreachable s
  | .resyncComplete => Sys2Proof.Machine.execResyncComplete s
  | .revertHoldExpiry => Sys2Proof.Machine.execRevertHoldExpiry s
  | .siteDiscovery n reads train => Sys2Proof.Machine.execSiteDiscovery n reads train s
  | .sidebandTimeout n => Sys2Proof.Machine.execSidebandTimeout n s
  | .ucieWidthDegrade n k => Sys2Proof.Machine.execUcieWidthDegrade n k s
  | .dieTempReport n temp => Sys2Proof.Machine.execDieTempReport n temp s
  | .dieThrottleStep n => Sys2Proof.Machine.execDieThrottleStep n s
  | .dieTempReportTimeout n => Sys2Proof.Machine.execDieTempReportTimeout n s
  | .sitePowerSample n p => Sys2Proof.Machine.execSitePowerSample n p s
  | .bootLoad chain => Sys2Proof.Machine.execBootLoad chain s
  | .trialExpiry => Sys2Proof.Machine.execTrialExpiry s
  | .trialBootFail => Sys2Proof.Machine.execTrialBootFail s
  | .switchoverDone => Sys2Proof.Machine.execSwitchoverDone s
  | .leafTreeBuilt => Sys2Proof.Machine.execLeafTreeBuilt s
  | .bladeBreaker x => Sys2Proof.Machine.execBladeBreaker x s
  | .feedLost x => Sys2Proof.Machine.execFeedLost x s
  | .ovTrip => Sys2Proof.Machine.execOvTrip s
  | .ovRecovery a b => Sys2Proof.Machine.execOvRecovery a b s
  | .converterFail k => Sys2Proof.Machine.execConverterFail k s
  | .vinLow => Sys2Proof.Machine.execVinLow s
  | .ceilingLoopTick va ia vb ib pin vbus pbus => Sys2Proof.Machine.execCeilingLoopTick va ia vb ib pin vbus pbus s
  | .policyIdleD1 t => Sys2Proof.Machine.execPolicyIdleD1 t s
  | .policyIdleD2 t => Sys2Proof.Machine.execPolicyIdleD2 t s
  | .proctorWdt => Sys2Proof.Machine.execProctorWdt s
  | .faultSourceDeassert scope bit => Sys2Proof.Machine.execFaultSourceDeassert scope bit s
  | .feedReturn x => Sys2Proof.Machine.execFeedReturn x s
  | .referenceTraceCrownEnd t => Sys2Proof.Machine.execReferenceTraceCrownEnd t s

end Sys2Proof.Machine
end

