-- ==== Sys2Proof/WellFormed.lean ====
section
/-! DEFINITION. WellFormed.lean: which commands can reach the block: packets within the limits of their path (R46, R52, R58),
accesses of the widths the spec gives, messages no longer than what carries them, and as many readings as there are sensors. -/

namespace Sys2Proof

/-- The largest packet of a path, in bytes (R52). -/
def Path.packetMax : Path → Nat
  | .host _ => 4096
  | .chain _ => 4096
  | .port _ => 1856
  | .site _ => 1856
  | .jtag => 4096
  | .mirror => 0

/-- Does inline data travel on the path (R68, R70)? -/
def Path.carriesData : Path → Bool
  | .host _ => false
  | _ => true

/-- A packet that has passed steps 1 and 2 of R58: PARAM_LEN a multiple of 4 and within its path, and inline data only where
the path carries it. -/
def Packet.wf (p : Packet) : Bool :=
  p.params.length % 4 == 0 && decide (32 + p.params.length ≤ p.path.packetMax) && (p.path.carriesData || p.data.isEmpty)

/-- Number of fault sources of a scope (R401, R402). -/
def sourceCount : Scope → Nat
  | .tile _ => 44
  | .module => 21

/-- Is a command one that can reach the block? -/
def Instr.wellFormed : Instr → Bool
  | .nop p => p.wf
  | .identify p => p.wf
  | .whoami p => p.wf
  | .attest p => p.wf
  | .idCertRead p => p.wf
  | .regRead p => p.wf
  | .regWrite p => p.wf
  | .regUpdate p => p.wf
  | .journalHead p => p.wf
  | .journalRead p => p.wf
  | .reset p => p.wf
  | .xsiteReset p => p.wf
  | .xsiteCapRead p => p.wf
  | .tileTestEnter p => p.wf
  | .tileTestRun p => p.wf
  | .tileTestExit p => p.wf
  | .portTrain p => p.wf
  | .portLaneset p => p.wf
  | .phoCommission p => p.wf
  | .phoMonRead p => p.wf
  | .phoSubstitute p => p.wf
  | .phoRestore p => p.wf
  | .phoRefmon p => p.wf
  | .portEyeScan p => p.wf
  | .portPrbs p => p.wf
  | .brimFence p => p.wf
  | .brimUnfence p => p.wf
  | .memAlloc p => p.wf
  | .memFree p => p.wf
  | .memMigrate p => p.wf
  | .memQuery p => p.wf
  | .memPoolStat p => p.wf
  | .memAttr p => p.wf
  | .omeJobSubmit p => p.wf
  | .omeJobQuery p => p.wf
  | .omeJobCancel p => p.wf
  | .omeStageLoad p => p.wf
  | .omeStageRelease p => p.wf
  | .omeStageQuery p => p.wf
  | .collGroupCreate p => p.wf
  | .collGroupDestroy p => p.wf
  | .collGroupModify p => p.wf
  | .collGroupQuery p => p.wf
  | .collOpPost p => p.wf
  | .collOpQuery p => p.wf
  | .collOpAbort p => p.wf
  | .streamOpen p => p.wf
  | .streamClose p => p.wf
  | .streamQuery p => p.wf
  | .streamReserveRelease p => p.wf
  | .streamReserveReturn p => p.wf
  | .famMap p => p.wf
  | .famRead p => p.wf
  | .blockRun p => p.wf
  | .blockTrace p => p.wf
  | .blockRelease p => p.wf
  | .blockQuery p => p.wf
  | .ageReplanReset p => p.wf
  | .ageQuery p => p.wf
  | .faultStatus p => p.wf
  | .faultClear p => p.wf
  | .faultRelease p => p.wf
  | .faultUnfence p => p.wf
  | .faultInject p => p.wf
  | .rcRead p => p.wf
  | .rcCondense p => p.wf
  | .rcClear p => p.wf
  | .rcCodeList p => p.wf
  | .fwStage p => p.wf
  | .fwActivate p => p.wf
  | .fwTileUpdate p => p.wf
  | .secSvnCommit p => p.wf
  | .secKeyRevoke p => p.wf
  | .twinStatus p => p.wf
  | .twinBind p => p.wf
  | .twinHandover p => p.wf
  | .twinForceTake p => p.wf
  | .gangCfg p => p.wf
  | .pwrTileMode p => p.wf
  | .pwrModuleStandby p => p.wf
  | .pwrModuleResume p => p.wf
  | .pwrCapSet p => p.wf
  | .pwrPolicySet p => p.wf
  | .pwrQuery p => p.wf
  | .proctorTakePacket => true
  | .commandComplete _ _ meas _ => decide (meas.length ≤ 76)
  | .qdbSqTailWrite _ _ _ => true
  | .qdbCqHeadWrite _ _ _ => true
  | .qEnable _ _ _ => true
  | .qDisable _ _ _ => true
  | .qDrainDone _ => true
  | .cxlIoError _ => true
  | .cxlHotReset _ _ => true
  | .cxlLinkTrained _ _ _ _ => true
  | .cxlMemRead _ _ _ => true
  | .cxlMemWrite _ dpa bytes => !bytes.isEmpty && decide (dpa.toNat % 64 + bytes.length ≤ 64)
  | .bar0BadAccess _ _ w => match w with | some bs => !bs.isEmpty && decide (bs.length ≤ 64) | none => true
  | .bar0RegWrite _ off _ => off.toNat % 4 == 0
  | .regLoRead _ off => off.toNat % 4 == 0
  | .jrnlHeadSeqLoRead _ => true
  | .sleepingTileAccess _ _ rel _ => rel.toNat % 4 == 0
  | .nodeCfgWrite _ _ => true
  | .linkEnable _ _ _ => true
  | .linkDisable _ _ _ => true
  | .crownDisable _ _ _ => true
  | .omeDisable _ _ _ => true
  | .tilePwrCtlWrite _ _ _ => true
  | .strmRingHeadWrite _ _ _ => true
  | .ffirstValidClear _ => true
  | .journalEntryDurable => true
  | .journalWriteTimeout => true
  | .journalFlashRecover => true
  | .chainFrameReceive bytes => decide (bytes.length ≤ 4106)
  | .rollcall _ => true
  | .mchLinkChange _ => true
  | .cmdPacketAssembled _ bytes => decide (bytes.length ≤ 1856)
  | .refLoss _ => true
  | .refReturn _ ofs => decide (ofs.length = 48)
  | .combStart _ _ _ => true
  | .laserOvertemp _ _ _ => true
  | .ringResonanceFound _ _ => true
  | .ringSearchTimeout _ _ => true
  | .ringLockLost _ _ => true
  | .ringHeadroomLow _ _ _ => true
  | .fadeEvaluation _ r => r.monitors.all (fun x => decide (x.1.toNat / 8 % 8 ≤ 5)) && decide (r.tj.length ≤ 8)
  | .substituteLocked _ _ => true
  | .substituteLockTimeout _ _ => true
  | .laneSourceMoved _ _ _ _ => true
  | .losAssert _ => true
  | .losDeassert _ => true
  | .beaconWordReceive _ _ => true
  | .trainingWordReceive _ _ _ => true
  | .trainStageDone _ _ => true
  | .trainStageTimeout _ _ => true
  | .rateHuntStep _ => true
  | .trainRetryTimer _ => true
  | .laneOffsetCheck _ ofs => decide (ofs.length ≤ 17)
  | .tapSaturated _ _ => true
  | .a1Entry _ => true
  | .keepPhaseBurst _ => true
  | .a1Exit _ => true
  | .eyeScanPointDone _ _ => true
  | .marginSweepStep _ _ _ => true
  | .codewordReceive v bytes _ => decide (bytes.length = match v with | .port _ => 272 | .site _ => 256)
  | .flitSend _ => true
  | .ackIdleTimer _ => true
  | .replayTimerExpiry _ => true
  | .fastRetrainDone _ _ => true
  | .rttMeasure _ => true
  | .laneset _ msg => decide (msg.length ≤ 232)
  | .lanesetAck _ _ => true
  | .lanesetBoundary _ => true
  | .lanesetAckTimeout _ => true
  | .lanesetCancel _ msg => decide (msg.length ≤ 232)
  | .lanesetCancelWindowEnd _ => true
  | .echo _ msg => decide (msg.length ≤ 232)
  | .echoReply _ msg _ => decide (msg.length ≤ 232)
  | .verify _ msg => decide (msg.length ≤ 232)
  | .doze _ => true
  | .awake _ => true
  | .awakeTimeout _ => true
  | .portReset _ => true
  | .crownStartPulse => true
  | .crownSlot offers => offers.all (fun o => decide (o.payload.length ≤ 232) && !decide (o.src = o.dst))
  | .crownBurstReceive _ _ _ body => decide (body.length = 768)
  | .crownHoldExpiry _ _ _ => true
  | .crownRtoExpiry _ _ _ => true
  | .crownProbeDue _ _ => true
  | .crownDeadMapUpdate _ _ _ _ => true
  | .brimFrameReceive _ _ bytes _ _ => decide (bytes.length = 256)
  | .brimUeLimit _ _ => true
  | .brimTestDone _ _ _ _ _ _ => true
  | .stentStandinMove _ => true
  | .streamData _ bytes => decide (bytes.length ≤ 232)
  | .memRead _ bytes _ => decide (bytes.length ≤ 232)
  | .memWrite _ bytes => decide (bytes.length ≤ 232)
  | .credit _ bytes => decide (bytes.length ≤ 232)
  | .creditReportDue _ => true
  | .streamReturnHold _ => true
  | .streamSuspendTimeout _ => true
  | .streamCloseDrained _ => true
  | .closeNoticeDeliver _ => true
  | .famInvalidateDone => true
  | .famCacheMissFill _ _ => true
  | .famCopyLost _ => true
  | .famCopyRebuilt _ => true
  | .frameZeroed _ => true
  | .migratePass1Done _ => true
  | .migrateFrameSwitch _ => true
  | .patrolScrubStep _ _ => true
  | .memoryUnavailable _ => true
  | .memoryReturn _ => true
  | .memTempSample _ _ => true
  | .omePassStart _ => true
  | .omePassEnd _ _ _ _ _ => true
  | .omeBankReloadDone _ _ => true
  | .pilotLimitExceeded _ _ _ _ => true
  | .pilotAcquired _ => true
  | .reacqTimeout _ => true
  | .omeSubstituteChange _ => true
  | .omeFail _ => true
  | .jobStagingDone _ _ => true
  | .jobUnitWritten _ _ _ => true
  | .jobSharesEnded _ _ => true
  | .jobMirrorDone _ _ => true
  | .projectBatchWait _ _ => true
  | .collOpStart _ => true
  | .collData _ bytes => decide (bytes.length ≤ 232)
  | .collRoute _ bytes => decide (bytes.length ≤ 232)
  | .collEnd _ bytes => decide (bytes.length ≤ 232)
  | .collSegmentReduced _ _ _ => true
  | .collOpComplete _ => true
  | .peerPartialReceive _ bytes _ => decide (bytes.length ≤ 232)
  | .blockTempEvaluation _ _ => true
  | .blockSettleTimeout _ => true
  | .blockTimetableDue _ _ => true
  | .blockRunStart _ _ => true
  | .blockRunEnd _ _ _ => true
  | .blockRunAbort _ _ => true
  | .laneRunRefused _ => true
  | .referenceTraceDue _ => true
  | .referenceTraceEnd _ _ => true
  | .ageingEvaluation _ _ => true
  | .refclkLoss => true
  | .refclkReturn _ _ => true
  | .cdcTimeout _ => true
  | .strapSample _ => true
  | .powerOn _ _ => true
  | .proctorReady => true
  | .mresetNLow => true
  | .coldReset => true
  | .warmReset => true
  | .tileReset _ => true
  | .d1Entry _ => true
  | .d1EntryAbandon _ => true
  | .portActivityWake _ => true
  | .d1Exit _ => true
  | .d2Entry _ => true
  | .d2Exit _ => true
  | .m1Exit _ => true
  | .tjSample _ diodes _ => decide (diodes.length = 8)
  | .thermtrip _ => true
  | .throttleLoopTick _ => true
  | .remoteDiodeUpdate _ _ _ _ => true
  | .coolantCheck => true
  | .faultSourceAssert scope bit _ => decide (bit.toNat < sourceCount scope)
  | .safeEntered _ => true
  | .quietTimerExpiry _ => true
  | .faultRecoveryDone _ => true
  | .condensationDue => true
  | .condensationDone => true
  | .islandBufferCopy => true
  | .pairHello _ h => decide (h.ucode.length = 32) && decide (h.idHash.length = 32)
  | .pairHelloResend => true
  | .partnerWaitTimeout => true
  | .leaseRenewalDue => true
  | .lease _ _ _ _ _ _ => true
  | .leaseAck _ _ _ _ => true
  | .release _ _ _ _ => true
  | .leaseExpiry => true
  | .selfFence => true
  | .selfDiagnosisFail => true
  | .leasePathLoss => true
  | .holderNotice _ bytes => decide (bytes.length ≤ 232)
  | .mirror _ bytes => decide (bytes.length ≤ 232)
  | .mirrorAck _ bytes => decide (bytes.length ≤ 232)
  | .mirrorAckDue _ => true
  | .twinPortsUnreachable => true
  | .resyncComplete => true
  | .revertHoldExpiry => true
  | .siteDiscovery _ _ _ => true
  | .sidebandTimeout _ => true
  | .ucieWidthDegrade _ _ => true
  | .dieTempReport _ _ => true
  | .dieThrottleStep _ => true
  | .dieTempReportTimeout _ => true
  | .sitePowerSample _ _ => true
  | .bootLoad _ => true
  | .trialExpiry => true
  | .trialBootFail => true
  | .switchoverDone => true
  | .leafTreeBuilt => true
  | .bladeBreaker _ => true
  | .feedLost _ => true
  | .ovTrip => true
  | .ovRecovery _ _ => true
  | .converterFail _ => true
  | .vinLow => true
  | .ceilingLoopTick _ _ _ _ _ _ _ => true
  | .policyIdleD1 _ => true
  | .policyIdleD2 _ => true
  | .proctorWdt => true
  | .faultSourceDeassert scope bit => decide (bit.toNat < sourceCount scope)
  | .feedReturn _ => true
  | .referenceTraceCrownEnd _ => true

end Sys2Proof
end

