-- ==== Sys2Proof/Safety.lean ====
section
/-! DEFINITION. Safety.lean: what the statements mean by a state in canonical form, by a command that is accepted, by what a
command leaves alone, and by a run. -/

namespace Sys2Proof.Machine

/-- The tables of a state are in canonical form: equal register files and equal memories are equal data. The register file lists
no register at the value an unlisted one reads as, and each memory (the submission area, host memory, the module's DRAM) lists its
addresses rising and no byte equal to what an unlisted address reads as (assumptions 2 and 3). -/
abbrev State.canonical (s : State) : Prop :=
  Map.canon regDefault s.regs = true ∧ Memory.wf s.sq = true ∧ Memory.wf s.host = true ∧ Memory.wf s.dram = true

/-- A command completes in a state: exec answers a next state. -/
def completes (c : Instr) (s : State) : Prop := ∃ t, exec c s = .next t

/-- `s` reaches `t` in `n` steps that all answer a next state. -/
def Reaches : Nat → State → State → Prop
  | 0, s, t => s = t
  | n + 1, s, t => ∃ u, step s = .next u ∧ Reaches n u t

/-- The run of a list of commands from a state, each of them completing. -/
def Runs : List Instr → State → State → Prop
  | [], s, t => s = t
  | c :: cs, s, t => ∃ u, exec c s = .next u ∧ Runs cs u t

/-! ### Frames -/

/-- Every register keeps its value but those listed. -/
def State.keepsRegs (s t : State) (written : List Nat) : Prop := ∀ off, off ∉ written → t.rd off = s.rd off

/-- Every byte of the submission areas, of host memory and of the module's DRAM reads as before. -/
def State.keepsMemory (s t : State) : Prop :=
  ∀ a, Memory.byte t.sq a = Memory.byte s.sq a ∧ Memory.byte t.host a = Memory.byte s.host a ∧ Memory.byte t.dram a = Memory.byte s.dram a

/-- Nothing changes but registers. -/
def State.onlyRegs (s t : State) : Prop := t = { s with regs := t.regs }

/-- Nothing changes but registers and the Report Card. -/
def State.onlyLog (s t : State) : Prop := t = { s with regs := t.regs, report := t.report }

/-- The registers that a Report Card record may write: RC_STAT, the SEQ registers, RC_FOLD, the drop counters, and the module
fault word and latch of RC_DROP_CRIT (R414 to R419). -/
def logRegs : List Nat :=
  [R.RC_STAT, R.RC_SEQ, R.RC_FLASH_SEQ, R.RC_FOLD, R.RC_DROP, R.RC_DROP_CRIT, R.MFSW_SRC, R.MFIRST, R.MFIRST_BELL_LO, R.MFIRST_BELL_HI]

/-- Nothing changes but registers, the Report Card and what the fault collectors keep. -/
def State.onlyFaults (s t : State) : Prop := t = { s with regs := t.regs, report := t.report, faults := t.faults }

/-- The registers that the SAFE reaction darkens on a tile, with its test mode's status (R407, R484). -/
def darkRegs (t : Nat) : List Nat :=
  R.TILE_TEST_STAT t :: ((List.range 8).map (R.LAS_STAT t) ++ ((List.range 8).map (R.LAS_BIAS t) ++ (List.range 3).map (R.EYESAFE t)))

/-- The registers that an assertion of a tile's source may write: fault words, levels, latches and summaries, the tile's fault state,
what its SAFE reaction darkens, and those of the record (R399 to R413). -/
def tileFaultRegs (t : Nat) : List Nat :=
  logRegs ++ ([R.MFSW_TILE_LO, R.MFSW_TILE_HI, R.FSW_LO t, R.FSW_HI t, R.FLVL_LO t, R.FLVL_HI t, R.FFIRST t, R.FFIRST_BELL_LO t,
    R.FFIRST_BELL_HI t, R.FSTATE t] ++ darkRegs t)

/-- The registers that an assertion of a module source may write. -/
def moduleFaultRegs : List Nat := logRegs ++ ([R.MFLVL_SRC, R.MFSTATE] ++ allTiles.flatMap darkRegs)

/-! ### Commands -/

end Sys2Proof.Machine

namespace Sys2Proof

open Sys2Proof.Machine in
/-- The opcode and the packet of a Camdan command; none for an event. -/
def Instr.command : Instr → Option (CmdDef × Packet)
  | .nop p => some (nopDef, p)
  | .identify p => some (identifyDef, p)
  | .whoami p => some (whoamiDef, p)
  | .attest p => some (attestDef, p)
  | .idCertRead p => some (idCertReadDef, p)
  | .regRead p => some (regReadDef, p)
  | .regWrite p => some (regWriteDef, p)
  | .regUpdate p => some (regUpdateDef, p)
  | .journalHead p => some (journalHeadDef, p)
  | .journalRead p => some (journalReadDef, p)
  | .reset p => some (resetDef, p)
  | .xsiteReset p => some (xsiteResetDef, p)
  | .xsiteCapRead p => some (xsiteCapReadDef, p)
  | .tileTestEnter p => some (tileTestEnterDef, p)
  | .tileTestRun p => some (tileTestRunDef, p)
  | .tileTestExit p => some (tileTestExitDef, p)
  | .portTrain p => some (portTrainDef, p)
  | .portLaneset p => some (portLanesetDef, p)
  | .phoCommission p => some (phoCommissionDef, p)
  | .phoMonRead p => some (phoMonReadDef, p)
  | .phoSubstitute p => some (phoSubstituteDef, p)
  | .phoRestore p => some (phoRestoreDef, p)
  | .phoRefmon p => some (phoRefmonDef, p)
  | .portEyeScan p => some (portEyeScanDef, p)
  | .portPrbs p => some (portPrbsDef, p)
  | .brimFence p => some (brimFenceDef, p)
  | .brimUnfence p => some (brimUnfenceDef, p)
  | .memAlloc p => some (memAllocDef, p)
  | .memFree p => some (memFreeDef, p)
  | .memMigrate p => some (memMigrateDef, p)
  | .memQuery p => some (memQueryDef, p)
  | .memPoolStat p => some (memPoolStatDef, p)
  | .memAttr p => some (memAttrDef, p)
  | .omeJobSubmit p => some (omeJobSubmitDef, p)
  | .omeJobQuery p => some (omeJobQueryDef, p)
  | .omeJobCancel p => some (omeJobCancelDef, p)
  | .omeStageLoad p => some (omeStageLoadDef, p)
  | .omeStageRelease p => some (omeStageReleaseDef, p)
  | .omeStageQuery p => some (omeStageQueryDef, p)
  | .collGroupCreate p => some (collGroupCreateDef, p)
  | .collGroupDestroy p => some (collGroupDestroyDef, p)
  | .collGroupModify p => some (collGroupModifyDef, p)
  | .collGroupQuery p => some (collGroupQueryDef, p)
  | .collOpPost p => some (collOpPostDef, p)
  | .collOpQuery p => some (collOpQueryDef, p)
  | .collOpAbort p => some (collOpAbortDef, p)
  | .streamOpen p => some (streamOpenDef, p)
  | .streamClose p => some (streamCloseDef, p)
  | .streamQuery p => some (streamQueryDef, p)
  | .streamReserveRelease p => some (reserveReleaseDef, p)
  | .streamReserveReturn p => some (reserveReturnDef, p)
  | .famMap p => some (famMapDef, p)
  | .famRead p => some (famReadDef, p)
  | .blockRun p => some (blockRunDef, p)
  | .blockTrace p => some (blockTraceDef, p)
  | .blockRelease p => some (blockReleaseDef, p)
  | .blockQuery p => some (blockQueryDef, p)
  | .ageReplanReset p => some (ageReplanResetDef, p)
  | .ageQuery p => some (ageQueryDef, p)
  | .faultStatus p => some (faultStatusDef, p)
  | .faultClear p => some (faultClearDef, p)
  | .faultRelease p => some (faultReleaseDef, p)
  | .faultUnfence p => some (faultUnfenceDef, p)
  | .faultInject p => some (faultInjectDef, p)
  | .rcRead p => some (rcReadDef, p)
  | .rcCondense p => some (rcCondenseDef, p)
  | .rcClear p => some (rcClearDef, p)
  | .rcCodeList p => some (rcCodeListDef, p)
  | .fwStage p => some (fwStageDef, p)
  | .fwActivate p => some (fwActivateDef, p)
  | .fwTileUpdate p => some (fwTileUpdateDef, p)
  | .secSvnCommit p => some (secSvnCommitDef, p)
  | .secKeyRevoke p => some (secKeyRevokeDef, p)
  | .twinStatus p => some (twinStatusDef, p)
  | .twinBind p => some (twinBindDef, p)
  | .twinHandover p => some (twinHandoverDef, p)
  | .twinForceTake p => some (twinForceTakeDef, p)
  | .gangCfg p => some (gangCfgDef, p)
  | .pwrTileMode p => some (pwrTileModeDef, p)
  | .pwrModuleStandby p => some (pwrModuleStandbyDef, p)
  | .pwrModuleResume p => some (pwrModuleResumeDef, p)
  | .pwrCapSet p => some (pwrCapSetDef, p)
  | .pwrPolicySet p => some (pwrPolicySetDef, p)
  | .pwrQuery p => some (pwrQueryDef, p)
  | _ => none

end Sys2Proof

namespace Sys2Proof.Machine

/-- The Proctor takes the packet, knows its ORIGIN, no command of its path keeps it waiting, and no gang member's name takes it
elsewhere (R48, R49, R65, R446). -/
abbrev State.receives (s : State) (d : CmdDef) (p : Packet) (o : Nat) : Prop :=
  s.takes p.path d.code = true ∧ (p.fence && s.outstanding p.path) = false ∧ s.originOf p.path = some o ∧ s.gangPasses p = false

/-- The packet is received and passes steps 4 to 8 of R58. -/
abbrev State.accepts (s : State) (d : CmdDef) (p : Packet) (o : Nat) : Prop := s.receives d p o ∧ s.verdict d p o = none

/-- Where an accepted command's effect starts: ACCEPTED is answered first where the packet sets ASYNC (R55). -/
def State.begun (s : State) (p : Packet) : State :=
  if p.async then s.post p.path { tag := p.tag, status := stAccepted, detail := 0, result := [] } else s

/-- The final reply OK with a result, placed as R54 says. -/
def State.replies (s : State) (p : Packet) (result : List Byte) : State :=
  (s.place p stOk 0 result).1.postFinal p.path (s.place p stOk 0 result).2

/-- The command is listed in `t` as running from `b`, with no outcome yet and with what would undo its start (R55, R82). -/
def State.runsOn (b t : State) (p : Packet) (o code : Nat) : Prop :=
  t.proctor.running = b.proctor.running ++ [{ id := b.proctor.nextId, opcode := code, origin := o, pkt := p, fin := none, start := undoOf b t }]

/-- A long-running command has started from `z`: it is listed with no outcome yet, and with what would undo its start (R55, R82). -/
def State.startsRunning (s z : State) (d : CmdDef) (p : Packet) (o : Nat) : State :=
  s.updPr (fun pr => { pr with
    running := pr.running ++ [{ id := pr.nextId, opcode := d.code, origin := o, pkt := p, fin := none, start := undoOf z s }], nextId := pr.nextId + 1 })

end Sys2Proof.Machine
end

