-- ==== Sys2Proof/Certificates/Slice0/Obligations.lean ====
section
/-! DEFINITION. Certificates/Slice0/Obligations.lean: the statements about the block that the provers are to settle. -/

open Sys2Proof Sys2Proof.Machine

/-- A step runs the command at the front of the queue. With no command waiting, a step advances the Bell count by one and
changes nothing else (the model's choice, assumption 41). (spec/95_what_each_step_holds.md, R72, R364) -/
def Obligations.StepRunsFront : Prop :=
  (∀ (c : Instr) (rest : List Instr) (s : State), s.pending = c :: rest → step s = exec c { s with pending := rest }) ∧
  (∀ s : State, s.pending = [] → step s = .next { s with bell := s.bell + 1 })

/-- No command stops the block or touches the queue. (spec/opcode_table.json, R58, R72) -/
def Obligations.EveryCommandCompletes : Prop :=
  ∀ (c : Instr) (s : State), ∃ t : State, exec c s = .next t ∧ t.pending = s.pending

/-- Every step keeps the canonical form. (R9, R15, R59, R61, R212) -/
def Obligations.StepKeepsCanonical : Prop :=
  ∀ s t : State, s.canonical → step s = .next t → t.canonical

/-- The state after reset is canonical and reads the defaults. (R14, R15) -/
def Obligations.ResetCanonical : Prop :=
  State.reset.canonical ∧ (∀ off, State.reset.rd off = regDefault off) ∧ State.reset.pending = []

/-- Memory, table entries and fields read back what is stored. (R3, R6, R10, R12, R15, R59, R61, R212) -/
def Obligations.MemoryReadsBack : Prop :=
  (∀ (m : List Host.Cell) (a n : Nat) (bs : List Byte), Memory.wf m = true →
    Memory.wf (Memory.write m a bs) = true ∧
    (∀ i (h : i < bs.length), Memory.byte (Memory.write m a bs) (a + i) = bs[i]) ∧
    (∀ b, b < a ∨ a + bs.length ≤ b → Memory.byte (Memory.write m a bs) b = Memory.byte m b) ∧
    Memory.read (Memory.write m a bs) a bs.length = bs ∧
    (∀ b, Memory.byte (Memory.clear m a n) b = if a ≤ b ∧ b < a + n then 0 else Memory.byte m b)) ∧
  (∀ (m : List (Nat × QueueSt)) (k j : Nat) (f : QueueSt → QueueSt), Map.rising m = true →
    Map.get {} (Map.upd {} m k f) k = f (Map.get {} m k) ∧ (j ≠ k → Map.get {} (Map.upd {} m k f) j = Map.get {} m j) ∧
    Map.rising (Map.upd {} m k f) = true) ∧
  (∀ (s : State) (x y : Fld) (v n : Nat), s.canonical → x.lo + x.width ≤ 32 →
    (s.setF x v).f x = v % 2 ^ x.width ∧
    (y.off ≠ x.off ∨ x.lo + x.width ≤ y.lo ∨ y.lo + y.width ≤ x.lo → (s.setF x v).f y = s.f y) ∧
    (s.bump x n).f x = min (s.f x + n) (2 ^ x.width - 1) ∧
    s.onlyRegs (s.setF x v) ∧ s.keepsRegs (s.setF x v) [x.off] ∧ (s.setF x v).canonical)

/-- Misaligned accesses and accesses to a sleeping tile have no effect. (R7, R366) -/
def Obligations.BarBadAccess : Prop :=
  (∀ (src : BusSrc) (off : BitVec 27) (bs : List Byte) (s : State), s.busOk src = true →
    (sqWrite off.toNat bs = false →
      ∃ t : State, exec (.bar0BadAccess src off (some bs)) s = .next t ∧ exec (.bar0BadAccess src off none) s = .next (t.emit (.busRead 0)) ∧
        t = s.note 0x0 .badBar 1 tgtModule off.toNat ∧ s.onlyLog t ∧ s.keepsRegs t logRegs) ∧
    (s.canonical → sqWrite off.toNat bs = true →
      ∃ t : State, exec (.bar0BadAccess src off (some bs)) s = .next t ∧ t = { s with sq := t.sq } ∧ Memory.read t.sq off.toNat bs.length = bs ∧
        ∀ a, a < off.toNat ∨ off.toNat + bs.length ≤ a → Memory.byte t.sq a = Memory.byte s.sq a)) ∧
  (∀ (src : BusSrc) (t : Tile) (rel : BitVec 20) (v : BitVec 32) (s : State),
    s.busOk src = true → rel.toNat % 4 = 0 → s.sleepsAt (tileBase t.val + rel.toNat) = true →
    ∃ u : State, exec (.sleepingTileAccess src t rel (some v)) s = .next u ∧
      exec (.sleepingTileAccess src t rel none) s = .next (u.emit (.busRead 0)) ∧
      u = s.note 0x0 .sleepingAccess 1 (tgtTile t.val) (tileBase t.val + rel.toNat) ∧ s.onlyLog u ∧ s.keepsRegs u logRegs) ∧
  (∀ (t : Tile) (rel : BitVec 20) (s : State),
    (rel.toNat < 0x2000 ∨ (0xA0000 ≤ rel.toNat ∧ rel.toNat < 0xB0000) → s.sleepsAt (tileBase t.val + rel.toNat) = false) ∧
    (0x2000 ≤ rel.toNat ∧ rel.toNat < 0xA0000 ∨ 0xB0000 ≤ rel.toNat →
      s.f (F.TILE_PWR_STAT_STATE t.val) = 2 ∨ s.f (F.TILE_PWR_STAT_STATE t.val) = 3 ∨ s.f (F.TILE_PWR_STAT_STATE t.val) = 5 →
      s.sleepsAt (tileBase t.val + rel.toNat) = true))

/-- A BAR0 write stores what the register's masks let it store. (R9, R10, R79, R80) -/
def Obligations.BarWrite : Prop :=
  ∀ (src : BusSrc) (off : BitVec 27) (v : BitVec 32) (s : State) (pl : Place) (r : RegRow),
    s.canonical → s.busOk src = true → off.toNat % 4 = 0 → placeOf off.toNat = some pl → rowAtPlace pl = some r →
    pl.tile = 48 → pl.rel < 0x10000 → pl.rel ∉ [0x20, 0x3000, 0x5010, 0x9000, 0x9100] →
    (∃ t : State, exec (.bar0RegWrite src off v) s = .next t ∧ t.rd off.toNat = s.written off.toNat pl r v ∧
      s.keepsRegs t [off.toNat] ∧ s.keepsMemory t ∧ t.out = s.out ∧ t.report = s.report ∧
      (if s.rd off.toNat &&& BitVec.ofNat 32 r.rw = t.rd off.toNat &&& BitVec.ofNat 32 r.rw then t.journal = s.journal
       else ∃ w, t.journal.waiting = s.journal.waiting ++ [w] ∧ w.opcode = 0xFFFF ∧ w.origin = src.origin ∧ w.offset = off.toNat ∧
         w.oldDigest = sha256 (leBytes 4 (s.rd off.toNat).toNat) ∧ w.newDigest = sha256 (leBytes 4 (t.rd off.toNat).toNat))) ∧
    (clampsAt pl s.maxInput = [] → ∀ i < 32, (s.written off.toNat pl r v).getLsbD i =
      if r.rw.testBit i then v.getLsbD i && !(r.w1c.testBit i) else (s.rd off.toNat).getLsbD i && !(v.getLsbD i && r.w1c.testBit i))

/-- The submission areas store what is written; a reserved offset ignores it. (R9, R59) -/
def Obligations.SubmissionWrite : Prop :=
  (∀ (src : BusSrc) (off : BitVec 27) (v : BitVec 32) (s : State),
    s.canonical → s.busOk src = true → off.toNat % 4 = 0 → sqArea off.toNat = true →
    (∃ t : State, exec (.bar0RegWrite src off v) s = .next t ∧ t = { s with sq := t.sq } ∧
      Memory.read t.sq off.toNat 4 = leBytes 4 v.toNat ∧
      ∀ a, a < off.toNat ∨ off.toNat + 4 ≤ a → Memory.byte t.sq a = Memory.byte s.sq a) ∧
    (Map.find off.toNat s.latch = none →
      exec (.regLoRead src off) s = .next ({ s with latch := Map.del off.toNat s.latch }.emit (.busRead 0)))) ∧
  (∀ (src : BusSrc) (off : BitVec 27) (v : BitVec 32) (s : State),
    s.busOk src = true → off.toNat % 4 = 0 → rowAt off.toNat = none → s.sleepsAt off.toNat = false →
    (sqArea off.toNat = false → s.standbyReg off.toNat = false → exec (.bar0RegWrite src off v) s = .next s) ∧
    (Map.find off.toNat s.latch = none → jrnlHeld off.toNat = false →
      exec (.regLoRead src off) s = .next ({ s with latch := Map.del off.toNat s.latch }.emit (.busRead 0))))

/-- A read of a _LO register latches the upper half for the next read. (R8, R83) -/
def Obligations.LatchedHalf : Prop :=
  (∀ (src : BusSrc) (off : BitVec 27) (hi : Nat) (s : State), s.busOk src = true → off.toNat % 4 = 0 → hiOf off.toNat = some hi →
    off.toNat ≠ R.JRNL_HEAD_SEQ_LO → s.sleepsAt off.toNat = false → Map.find off.toNat s.latch = none →
    ∃ t : State, exec (.regLoRead src off) s = .next t ∧ hi = off.toNat + 4 ∧ t.out = .busRead (s.view off.toNat) :: s.out ∧
      Map.find hi t.latch = some (s.view hi) ∧ t = { s with latch := t.latch, out := t.out }) ∧
  (∀ (src : BusSrc) (off : BitVec 27) (w : Word) (s : State), s.busOk src = true → off.toNat % 4 = 0 → s.sleepsAt off.toNat = false →
    off.toNat ≠ R.JRNL_HEAD_SEQ_LO → Map.find off.toNat s.latch = some w →
    ∃ t : State, exec (.regLoRead src off) s = .next t ∧ t.out = .busRead w :: s.out ∧ t = { s with latch := t.latch, out := t.out } ∧
      (jrnlHeld off.toNat = true → Map.find off.toNat t.latch = some w)) ∧
  (∀ (src : BusSrc) (s : State), s.busOk src = true → Map.find R.JRNL_HEAD_SEQ_LO s.latch = none →
    ∃ t : State, exec (.jrnlHeadSeqLoRead src) s = .next t ∧ t.out = .busRead (s.rd R.JRNL_HEAD_SEQ_LO) :: s.out ∧
      Map.find R.JRNL_HEAD_SEQ_HI t.latch = some (s.rd R.JRNL_HEAD_SEQ_HI) ∧
      (∀ i < 8, Map.find (R.JRNL_HEAD_HASH i) t.latch = some (s.rd (R.JRNL_HEAD_HASH i))) ∧ t = { s with latch := t.latch, out := t.out })

/-- A packet that fails a check has no effect but its reply. (R48, R58, R65, R71, R369, R390) -/
def Obligations.RefusedCommand : Prop :=
  (∀ (c : Instr) (d : CmdDef) (p : Packet) (s : State) (o st det : Nat), c.command = some (d, p) → d.code / 256 ≠ 9 →
    s.receives d p o → s.verdict d p o = some (st, det) →
    exec c s = .next ((if st = stAuth ∧ det = 1 then s.note 0x0 .authRefused 1 tgtModule else s).answer p st det
      (d.preResult s p))) ∧
  (∀ (d : CmdDef) (p : Packet) (s : State) (o : Nat),
    (s.mayUse (d.code / 256) (originCode o) = false ∨ d.origins.contains (originCode o) = false → s.verdict d p o = some (stAuth, 1)) ∧
    (s.mayUse (d.code / 256) (originCode o) = true → d.origins.contains (originCode o) = true → d.auth s p o = none →
      (d.len p ≠ some p.plen → s.verdict d p o = some (stLength, (d.len p).getD 0xFFFFFFFF)) ∧
      (d.len p = some p.plen → d.dataLen p = none → d.resLen s p = none →
        (∀ off, s.genericPar d p = some off → s.verdict d p o = some (stParam, off)) ∧
        (s.genericPar d p = none → ∀ off, d.par s p o = some off → s.verdict d p o = some (stParam, off)) ∧
        (s.genericPar d p = none → d.par s p o = none → d.zero p = true → s.verdict d p o = some (stOkEmpty, 0))))) ∧
  (∀ (c : Instr) (d : CmdDef) (p : Packet) (s : State), c.command = some (d, p) → d.code / 256 ≠ 9 →
    s.takes p.path d.code = false ∨ (p.fence && s.outstanding p.path) = true → exec c s = .next s)

/-- A reply is posted on the path its command came by. (R53, R55, R61, R62, R65, R67, R70, R437) -/
def Obligations.ReplyPosting : Prop :=
  (∀ (q : Queue) (r : Reply) (s : State), s.canonical → s.b F.Q_GLOBAL_SWITCHOVER = false → s.dropsReplies q.val = false →
      let base := 2 ^ 12 * s.f (F.Q_CQ_BASE_LO_ADDR q.val) + 2 ^ 32 * s.f (F.Q_CQ_BASE_HI_ADDR q.val)
      let tail := s.f (F.Q_STAT_CQ_TAIL q.val)
      let at_ := base + tail * 64
      let t := s.postFinal (.host q) r
      (s.cqFull q.val = false → (s.qu q.val).held = [] → r.result.length ≤ 48 → r.inBuffer = 0 →
        Memory.read t.host at_ 2 = leBytes 2 r.tag.toNat ∧ Memory.read t.host (at_ + 2) 2 = leBytes 2 r.status ∧
        Memory.read t.host (at_ + 4) 4 = leBytes 4 r.detail ∧ Memory.read t.host (at_ + 8) 4 = leBytes 4 r.result.length ∧
        Memory.read t.host (at_ + 12) 4 = leBytes 4 (s.f (F.Q_STAT_SQ_HEAD q.val) + if (s.qu q.val).phase then 0x10000 else 0) ∧
        Memory.read t.host (at_ + 16) r.result.length = r.result ∧
        (∀ a, a < at_ ∨ at_ + 64 ≤ a → Memory.byte t.host a = Memory.byte s.host a) ∧
        t.f (F.Q_STAT_CQ_TAIL q.val) = (tail + 1) % 4096 ∧ 
        t.queues = Map.upd {} s.queues q.val (fun u => if tail = 4095 then { u with phase := !u.phase } else u) ∧
        (t.b (F.Q_STAT_CQ_FULL q.val) = t.cqFull q.val) ∧ s.keepsRegs t [R.Q_STAT q.val] ∧ t.dram = s.dram ∧ t.sq = s.sq) ∧
      (s.cqFull q.val = true → t.queues = Map.upd {} s.queues q.val (fun u => { u with held := u.held ++ [r] }) ∧ t.f (F.Q_STAT_CQ_FULL q.val) = 1 ∧ t.host = s.host)) ∧
  (∀ (s : State) (r : Reply) (path : Sys2Proof.Path), s.b F.Q_GLOBAL_SWITCHOVER = true →
    s.postFinal path r = s.updPr (fun pr => { pr with replies := pr.replies ++ [(path, r, true)] }) ∧
    s.post path r = s.updPr (fun pr => { pr with replies := pr.replies ++ [(path, r, false)] })) ∧
  (∀ (s : State) (r : Reply), s.b F.Q_GLOBAL_SWITCHOVER = false →
      (∀ src : BitVec 8, s.postFinal (.chain src) r =
        s.emit (.chain (chainFrame src.toNat (s.f F.MCH_ADDR_ADDR) 0x11 (r.bytes 0)))) ∧
      s.postFinal .jtag r = s.emit (.jtag (r.bytes 0)) ∧
      (∀ q : Queue, s.dropsReplies q.val = true → s.postFinal (.host q) r = s) ∧
      (∀ p : Port, (s.link p.val).inband.contains r.tag.toNat = false → s.post (.port p) r = s))

/-- Where a result goes. (R54, R531) -/
def Obligations.ResultPlacement : Prop :=
  ∀ (s : State) (p : Packet) (st det : Nat) (res : List Byte), s.canonical →
    (res.length ≤ s.inlineLimit p.path → s.place p st det res = (s, { tag := p.tag, status := st, detail := det, result := res })) ∧
    (s.inlineLimit p.path < res.length → p.bufLen < res.length →
      s.place p st det res = (s, { tag := p.tag, status := stLength, detail := res.length, result := [] })) ∧
    (s.inlineLimit p.path < res.length → res.length ≤ p.bufLen → p.dataFabric = false → s.bufferLost p.path = false →
      let t := (s.place p st det res).1
      (s.place p st det res).2 = { tag := p.tag, status := st, detail := det, result := [], inBuffer := res.length } ∧
      Memory.read t.host p.dataAddr.toNat res.length = res ∧ t = { s with host := t.host } ∧
      ∀ a, a < p.dataAddr.toNat ∨ p.dataAddr.toNat + res.length ≤ a → Memory.byte t.host a = Memory.byte s.host a) ∧
    (s.inlineLimit p.path < res.length → res.length ≤ p.bufLen → p.dataFabric = false → s.bufferLost p.path = true →
      s.place p st det res = (s, { tag := p.tag, status := st, detail := det, result := [], inBuffer := res.length }))

/-- NOP, IDENTIFY, WHOAMI, the journal's commands and the register commands. (R8, R49, R50, R75, R76, R77, R79, R80, R82) -/
def Obligations.IdentityCommands : Prop :=
  ∀ (p : Packet) (s : State) (o : Nat), let b := s.begun p
    (s.accepts nopDef p o → exec (.nop p) s = .next (b.replies p [])) ∧
    (s.accepts identifyDef p o → exec (.identify p) s = .next (b.replies p b.identity32)) ∧
    (b.identity32.length = 32 ∧ leAt b.identity32 0 2 = b.node ∧ leAt b.identity32 2 1 = b.f F.MCH_ADDR_ADDR ∧
      b.identity32.drop 16 = fitBytes 16 b.ident.serial) ∧
    (s.accepts whoamiDef p o → exec (.whoami p) s = .next (b.replies p (leBytes 4 o))) ∧
    (s.accepts journalHeadDef p o → exec (.journalHead p) s =
      .next (b.replies p (leBytes 8 ((b.journal.entries.getLast?.map (·.seq)).getD 0) ++ b.headHash))) ∧
    (s.accepts journalReadDef p o → exec (.journalRead p) s = .next (b.replies p
      (((b.journal.entries.drop (p.w 0 + 2 ^ 32 * p.w 1 - b.oldestSeq)).take (p.w 2)).flatMap JEntry.bytes))) ∧
    (s.accepts regReadDef p o → exec (.regRead p) s = .next ((b.readRegs (p.w 0) (p.w 1)).2.replies p (b.readRegs (p.w 0) (p.w 1)).1)) ∧
    (s.accepts regWriteDef p o → ∀ t ch, b.cmdWrites (writePairs p) = (t, ch) → t.twinState ≠ 4 →
      exec (.regWrite p) s = .next (if ch.isEmpty then t.replies p []
        else t.journalise o 0x101 p.tag.toNat ch (some (p.path, { tag := p.tag, status := stOk, detail := 0, result := [] })) (undoOf b t))) ∧
    (s.accepts regUpdateDef p o → ∀ t ch, (b.readReg (p.w 0)).2.cmdWrite (p.w 0) (updated p (b.readReg (p.w 0)).1) = (t, ch) →
      t.twinState ≠ 4 → let old := leBytes 4 (b.readReg (p.w 0)).1.toNat
      exec (.regUpdate p) s = .next (if ch.isEmpty then t.replies p old
        else t.journalise o 0x102 p.tag.toNat ch (some (p.path, { tag := p.tag, status := stOk, detail := 0, result := old })) (undoOf b t)))

/-- The states of a host queue. (R55, R61, R63, R64) -/
def Obligations.QueueStates : Prop :=
  ∀ (src : BusSrc) (q : Queue) (v : BitVec 32) (s : State), s.canonical → s.busOk src = true →
    (s.f (F.Q_STAT_STATE q.val) = 0 →
      ∃ t : State, exec (.qEnable src q v) s = .next t ∧ t.f (F.Q_STAT_STATE q.val) = 1 ∧ t.rd (R.Q_CTL q.val) = (v ||| 1) &&& 0xFF ∧
        t.f (F.QDB_SQ_TAIL_TAIL q.val) = 0 ∧ t.f (F.QDB_CQ_HEAD_HEAD q.val) = 0 ∧ t.f (F.Q_STAT_SQ_HEAD q.val) = 0 ∧
        t.f (F.Q_STAT_CQ_TAIL q.val) = 0 ∧ t.f (F.Q_STAT_CQ_FULL q.val) = 0 ∧ t.queues = Map.upd {} s.queues q.val (fun _ => {}) ∧
        s.keepsRegs t [R.Q_CTL q.val, R.Q_STAT q.val, R.QDB_SQ_TAIL q.val, R.QDB_CQ_HEAD q.val] ∧ s.keepsMemory t) ∧
    (s.f (F.Q_STAT_STATE q.val) = 1 ∨ s.f (F.Q_STAT_STATE q.val) = 2 →
      ∃ t : State, exec (.qDisable src q v) s = .next t ∧
        t.f (F.Q_STAT_STATE q.val) = (if t.outstanding (.host q) then 3 else 0) ∧ t.proctor.running = s.proctor.running ∧ t.f (F.Q_CTL_EN q.val) = 0 ∧
        t.f (F.Q_CTL_PORT q.val) = s.f (F.Q_CTL_PORT q.val) ∧ t.queues = Map.upd {} s.queues q.val (fun u => { u with held := [] }) ∧
        s.keepsRegs t [R.Q_CTL q.val, R.Q_STAT q.val] ∧ s.keepsMemory t) ∧
    (s.f (F.Q_STAT_STATE q.val) = 3 → s.outstanding (.host q) = false →
      exec (.qDrainDone q) s = .next (s.setF (F.Q_STAT_STATE q.val) 0)) ∧
    (s.f (F.Q_STAT_STATE q.val) = 1 ∨ s.f (F.Q_STAT_STATE q.val) = 2 →
      exec (.cxlIoError q) s = .next ((s.setFs [(F.Q_ERR_DMA_ERR q.val, 1), (F.Q_STAT_STATE q.val, 2)]).updQu q.val (fun u => { u with held := [], dead := true })))

/-- Doorbell writes are checked against the queue's indexes. (R64) -/
def Obligations.Doorbells : Prop :=
  ∀ (src : BusSrc) (q : Queue) (v : BitVec 32) (s : State), s.canonical → s.busOk src = true →
    (∀ n, src = .cxl n → s.f (F.Q_CTL_PORT q.val) = n.val) →
    let st := s.f (F.Q_STAT_STATE q.val)
    let new := v.toNat % 4096
    let tail := s.f (F.QDB_SQ_TAIL_TAIL q.val)
    let head := s.f (F.QDB_CQ_HEAD_HEAD q.val)
    let bad := (s.setF (F.Q_ERR_BAD_DB q.val) 1).note 0x0 .badDoorbell 1 tgtModule q.val
    let now := s.b F.Q_GLOBAL_SWITCHOVER = false
    (s.b F.Q_GLOBAL_SWITCHOVER = true →
      exec (.qdbSqTailWrite src q v) s = .next (s.updPr (fun pr => { pr with doorbells := pr.doorbells ++ [(q.val, true, v.toNat)] })) ∧
      exec (.qdbCqHeadWrite src q v) s = .next (s.updPr (fun pr => { pr with doorbells := pr.doorbells ++ [(q.val, false, v.toNat)] }))) ∧
    (now → st = 1 → exec (.qdbSqTailWrite src q v) s = .next
      (if (s.f (F.Q_STAT_SQ_HEAD q.val) + 8192 - tail - 1) % 4096 < (new + 4096 - tail) % 4096 then bad else s.setF (F.QDB_SQ_TAIL_TAIL q.val) new)) ∧
    (now → st = 2 → exec (.qdbSqTailWrite src q v) s = .next s) ∧
    (now → st = 0 ∨ st = 3 → exec (.qdbSqTailWrite src q v) s = .next bad ∧ exec (.qdbCqHeadWrite src q v) s = .next bad) ∧
    (now → st = 1 ∨ st = 2 → (s.f (F.Q_STAT_CQ_TAIL q.val) + 4096 - head) % 4096 < (new + 4096 - head) % 4096 →
      exec (.qdbCqHeadWrite src q v) s = .next bad) ∧
    (now → st = 1 ∨ st = 2 → (new + 4096 - head) % 4096 ≤ (s.f (F.Q_STAT_CQ_TAIL q.val) + 4096 - head) % 4096 → (s.qu q.val).held = [] →
      ∃ t : State, exec (.qdbCqHeadWrite src q v) s = .next t ∧ t.f (F.QDB_CQ_HEAD_HEAD q.val) = new ∧ t.b (F.Q_STAT_CQ_FULL q.val) = t.cqFull q.val ∧
        s.keepsRegs t [R.QDB_CQ_HEAD q.val, R.Q_STAT q.val] ∧ s.onlyRegs t) ∧
    (st ≠ 0 → ∀ t, exec (.qEnable src q v) s = .next t ∨ exec (.qDisable src q v) s = .next t →
      t.f (F.Q_CTL_PORT q.val) = s.f (F.Q_CTL_PORT q.val) ∧ t.f (F.Q_CTL_IRQ_EN q.val) = v.toNat / 4 % 2 ∧
        t.f (F.Q_CTL_VEC q.val) = v.toNat / 8 % 32 ∧ t.f (F.Q_ERR_BAD_DB q.val) = s.f (F.Q_ERR_BAD_DB q.val)) ∧
    (st = 1 ∨ st = 2 → (∀ t, exec (.qEnable src q v) s = .next t → t.f (F.Q_CTL_EN q.val) = 1) ∧
      ∀ t, exec (.qDisable src q v) s = .next t → t.f (F.Q_CTL_EN q.val) = 0) ∧
    (st = 3 → ∀ t, exec (.qEnable src q v) s = .next t → t.f (F.Q_CTL_EN q.val) = 0 ∧ t.f (F.Q_STAT_STATE q.val) = 3)

/-- The Proctor takes packets in rounds and ends commands. (R48, R55, R58, R60, R63, R72) -/
def Obligations.ProctorRounds : Prop :=
  (∀ (s : State) (r : RawPacket) (rest : List RawPacket), s.proctor.round = [] → s.proctor.chainQ = r :: rest →
    s.listens r.path = true → s.fenceWaits r.path r.bytes = false →
    let u := s.updPr (fun pr => { pr with round := s.newRound.drop 1, chainQ := rest })
    let p := parsePacket r.path r.bytes
    (∀ st det, earlyFault r.path r.bytes = some (st, det) → exec .proctorTakePacket s = .next (u.answer p st det)) ∧
    (∀ d, earlyFault r.path r.bytes = none → cmdDef (leAt r.bytes 0 2) = some d →
      exec .proctorTakePacket s = .next (if d.code / 256 = 9 then runSigned d p u else runCmd d p u))) ∧
  (∀ s : State, (∀ c, s.waitingAt c = none) → exec .proctorTakePacket s = .next s) ∧
  (∀ (s : State) (q : Queue) (bs : List Byte), s.canonical → s.b F.Q_GLOBAL_SWITCHOVER = false → s.f (F.Q_STAT_STATE q.val) = 1 → s.cqFull q.val = false →
    (s.qu q.val).held = [] → (s.f (F.QDB_SQ_TAIL_TAIL q.val) + 4096 - s.f (F.Q_STAT_SQ_HEAD q.val)) % 4096 < entriesOf (leAt bs 8 4) →
    let t := s.takeHost q.val bs
    t.f (F.Q_STAT_STATE q.val) = 2 ∧ t.f (F.Q_ERR_TORN q.val) = 1 ∧ t.f (F.Q_STAT_SQ_HEAD q.val) = s.f (F.Q_STAT_SQ_HEAD q.val) ∧
    t.proctor = s.proctor ∧ t.dram = s.dram) ∧
  (∀ (path : Sys2Proof.Path) (tag : BitVec 16) (meas : List Byte) (g : Option GangReply) (s : State) (r : Running) (f : Finish),
    s.proctor.running.find? (fun r => decide (r.pkt.path = path) && r.pkt.tag == tag) = some r → r.fin = some f →
    s.running r.id = some r →
    let u := s.updPr (fun pr => { pr with running := pr.running.filter (fun x => x.id != r.id) })
    let logged := decide (r.pkt.member = 0) && (match cmdDef r.opcode with | some d => d.journaled | none => false)
    exec (.commandComplete path tag meas g) s = .next (u.conclude r.opcode r.origin logged r.pkt f.status f.detail f.result f.changes f.undo) ∧
    (mirroredKind r.opcode = none → r.opcode ≠ 0x101 → r.opcode ≠ 0x102 → f.result.length ≤ s.inlineLimit path →
      let reply : Reply := { tag := tag, status := f.status, detail := f.detail, result := f.result }
      exec (.commandComplete path tag meas g) s = .next
        (if logged && f.status == stOk && !f.changes.isEmpty then u.journalise r.origin r.opcode tag.toNat f.changes (some (path, reply)) f.undo
         else u.postFinal path reply))) ∧
  (∀ (path : Sys2Proof.Path) (tag : BitVec 16) (meas : List Byte) (g : Option GangReply) (s : State),
    s.proctor.running.find? (fun r => decide (r.pkt.path = path) && r.pkt.tag == tag) = none →
    exec (.commandComplete path tag meas g) s = .next s)

/-- What a CXL.mem read returns. (R222, R256, R258, R263, R264, R432) -/
def Obligations.HostMemoryReads : Prop :=
  ∀ (n : Fin 2) (dpa : BitVec 64) (s : State), s.b (F.CXL_PHY_STAT_MEM_EN n.val) = true →
    let d := dpa.toNat / 64 * 64
    let a := s.fabricAddr d
    (s.twinState ≠ 6 → d < 2 ^ 42 → s.waitsForTile a = none →
      (∀ mt key e s1, s.resolve (cxlTile n) a 64 false = (.at_ mt key e, s1) → s1.memDown mt = false → (linesOf key 64).any s1.poisoned = false →
        exec (.cxlMemRead n dpa .clean) s = .next (s1.emit (.cxlData n.val false (Memory.read s1.dram key 64)))) ∧
      (∀ mt key e s1, s.resolve (cxlTile n) a 64 false = (.at_ mt key e, s1) → s1.memDown mt = true ∨ (linesOf key 64).any s1.poisoned = true →
        exec (.cxlMemRead n dpa .clean) s = .next (s1.emit (.cxlData n.val true []))) ∧
      (∀ st s1, s.resolve (cxlTile n) a 64 false = (.bad st, s1) → exec (.cxlMemRead n dpa .clean) s = .next (s1.emit (.cxlData n.val true []))) ∧
      (∀ s1, s.resolve (cxlTile n) a 64 false = (.noCopy, s1) → exec (.cxlMemRead n dpa .clean) s = .next (s1.emit (.cxlData n.val true [])))) ∧
    (s.twinState = 6 ∨ 2 ^ 42 ≤ d → ∀ ecc, exec (.cxlMemRead n dpa ecc) s = .next (s.emit (.cxlData n.val true []))) ∧
    (∀ r, (s.resolve (cxlTile n) a 64 false).2 = r → s.keepsMemory r)

/-- What a CXL.mem write stores. (R222, R256, R263, R264, R437, R439) -/
def Obligations.HostMemoryWrites : Prop :=
  ∀ (n : Fin 2) (dpa : BitVec 64) (bytes : List Byte) (s : State), s.canonical → s.b (F.CXL_PHY_STAT_MEM_EN n.val) = true →
    bytes ≠ [] → dpa.toNat % 64 + bytes.length ≤ 64 → dpa.toNat < 2 ^ 42 →
    let a := s.fabricAddr dpa.toNat
    (s.notHolder = false → s.mirrors = false → s.waitsForTile a = none →
      (∀ mt key e s1, s.resolve (cxlTile n) a bytes.length true = (.at_ mt key e, s1) → e.migrating = false → s1.memDown mt = false →
        s1.gated mt = false → (linesOf key bytes.length).any s1.poisoned = false →
        ∃ t : State, exec (.cxlMemWrite n dpa bytes) s = .next t ∧ Memory.read t.dram key bytes.length = bytes ∧
          (∀ b, b < key ∨ key + bytes.length ≤ b → Memory.byte t.dram b = Memory.byte s.dram b) ∧
          t.host = s.host ∧ t.sq = s.sq ∧ t.out = .cxlDone n.val :: s.out ∧ s.keepsRegs t [R.FAMC_CNT_HIT (cxlTile n), R.FAMC_CNT_MISS (cxlTile n)]) ∧
      (∀ st s1, s.resolve (cxlTile n) a bytes.length true = (.bad st, s1) →
        exec (.cxlMemWrite n dpa bytes) s = .next (((s1.bump (F.MEM_LOST_WR (cxlTile n))).note 0x3 .cxlWriteLost 1 (tgtHost n.val) a).emit (.cxlDone n.val)))) ∧
    (s.notHolder = true → exec (.cxlMemWrite n dpa bytes) s = .next ((s.bump (F.MEM_LOST_WR (cxlTile n))).emit (.cxlDone n.val)))

/-- A host port's link and its queues. (R55, R63, R159, R160, R374) -/
def Obligations.HostPorts : Prop :=
  (∀ (n : Fin 2) (s : State), s.canonical →
    ∃ t : State, exec (.cxlHotReset n false) s = .next t ∧
      (∀ q : Queue, s.f (F.Q_CTL_PORT q.val) = n.val → t.f (F.Q_CTL_EN q.val) = 0 ∧ t.f (F.Q_CTL_PORT q.val) = n.val ∧
        t.f (F.Q_STAT_STATE q.val) = (if s.f (F.Q_STAT_STATE q.val) = 0 then 0 else if t.outstanding (.host q) then 3 else 0)) ∧
      (∀ q : Queue, s.f (F.Q_CTL_PORT q.val) ≠ n.val → t.rd (R.Q_CTL q.val) = s.rd (R.Q_CTL q.val) ∧ t.rd (R.Q_STAT q.val) = s.rd (R.Q_STAT q.val)) ∧
      s.keepsRegs t ((List.range 16).flatMap (fun q => [R.Q_CTL q, R.Q_STAT q])) ∧ s.keepsMemory t) ∧
  (∀ (n : Fin 2) (s : State), s.canonical →
    ∃ u : State, (if s.b (F.CXL_PHY_STAT_LINK_UP n.val) then exec (.cxlHotReset n true) s = .next (u.raiseMod (8 + n.val) 0 true)
        else exec (.cxlHotReset n true) s = .next u) ∧
      u.f (F.CXL_PHY_STAT_LINK_UP n.val) = 0 ∧ u.f (F.CXL_PHY_STAT_MEM_EN n.val) = 0 ∧
      ∀ q : Queue, s.f (F.Q_CTL_PORT q.val) = n.val → u.f (F.Q_CTL_EN q.val) = 0) ∧
  (∀ (n : Fin 2) (rate : Fin 6) (width : Fin 17) (rev : Bool) (s : State), s.canonical → s.cxlTrains n.val rate.val width.val = true →
    let deg := decide (rate.val < 3) || decide (width.val < 4)
    ∃ t : State, exec (.cxlLinkTrained n rate width rev) s = .next t ∧ t.f (F.CXL_PHY_STAT_LINK_UP n.val) = 1 ∧
      t.f (F.CXL_PHY_STAT_RATE n.val) = rate.val ∧ t.f (F.CXL_PHY_STAT_WIDTH n.val) = width.val ∧
      t.f (F.CXL_PHY_STAT_MEM_EN n.val) = (if deg || s.standAlone then 0 else 1) ∧ t.f (F.CXL_PHY_STAT_DEGRADED n.val) = (if deg then 1 else 0) ∧
      t.f (F.CXL_PHY_STAT_LANE_REV n.val) = (if rev then 1 else 0) ∧ t.bit R.MFLVL_SRC (8 + n.val) = false ∧
      s.keepsRegs t (R.CXL_PHY_STAT n.val :: R.MFLVL_SRC :: logRegs) ∧ s.onlyFaults t) ∧
  (∀ (n : Fin 2) (rate : Fin 6) (width : Fin 17) (rev : Bool) (s : State), s.cxlTrains n.val rate.val width.val = false →
    exec (.cxlLinkTrained n rate width rev) s = .next s)

/-- A journal entry reaches flash, or its change is undone. (R80, R81, R82, R383) -/
def Obligations.JournalDurability : Prop :=
  (∀ (s : State) (e : JPending) (rest : List JPending), s.canonical → s.journal.waiting = e :: rest →
    ∃ t : State, (e.reply = none → exec .journalEntryDurable s = .next t) ∧
      (∀ path r, e.reply = some (path, r) →
        (e.opcode ≠ 0xB10 ∨ r.status ≠ stOk → exec .journalEntryDurable s = .next (t.postFinal path r)) ∧
        (e.opcode = 0xB10 → r.status = stOk → exec .journalEntryDurable s = .next (t.postFinal path r).enterM1)) ∧
      t.journal.waiting = rest ∧ t.journal.count = s.journal.count + 1 ∧
      (∃ x, t.journal.entries = (if 1048576 ≤ s.journal.entries.length then s.journal.entries.drop 1 else s.journal.entries) ++ [x] ∧
        x.seq = s.journal.count ∧ x.opcode = e.opcode ∧ x.origin = e.origin ∧ x.offset = e.offset ∧ x.oldDigest = e.oldDigest ∧
        x.newDigest = e.newDigest ∧ x.link = s.headHash) ∧ s.keepsMemory t ∧ t.pool = s.pool) ∧
  (∀ (s : State) (e : JPending) (rest : List JPending), s.journal.waiting = e :: rest →
    (∀ w ∈ s.journal.waiting, w.group = e.group → w.reply = none) →
    ∃ t : State, exec .journalWriteTimeout s = .next t ∧ t.journal.waiting = rest ∧ t.journal.lost = s.journal.lost + 1 ∧ t.regs = s.regs ∧
      t.report = s.report ∧ t.pool = s.pool ∧ t.dram = s.dram) ∧
  (∀ (s : State) (e : JPending) (path : Sys2Proof.Path) (r : Reply), s.journal.waiting = [e] → e.reply = some (path, r) → e.opcode ≠ 0x120 →
    e.undo.maps = [] →
    ∃ u : State, exec .journalWriteTimeout s = .next (u.postFinal path { tag := r.tag, status := stFault, detail := fsrcModule 1, result := [] }) ∧
      u.journal.waiting = [] ∧ u.out = s.out ∧
      (({ s with journal := u.journal }).undo e.undo).onlyLog u ∧ (({ s with journal := u.journal }).undo e.undo).keepsRegs u logRegs) ∧
  (∀ s : State, s.canonical → s.journal.lost ≠ 0 →
    ∃ u : State, exec .journalFlashRecover s = .next (u.raiseMod 11) ∧ u.journal.lost = 0 ∧ u.f F.JRNL_STAT_GAP = 1 ∧
      u.journal.waiting = s.journal.waiting ∧ ∃ x, u.journal.entries.getLast? = some x ∧ x.opcode = 0xFFFD ∧ x.offset = s.journal.lost)

/-- An undone change leaves registers, entries and frames as before it. (R82, R212, R245) -/
def Obligations.ChangeUndone : Prop :=
  ∀ old new : State, old.canonical → new.canonical → Map.rising new.pool.fam = true → Map.rising new.pool.regions = true → Map.rising new.pool.used = true → Map.rising new.blk = true →
    let t := new.undo (undoOf old new)
    (∀ off, t.rd off = old.rd off) ∧ (∀ i, t.famEntry i = old.famEntry i) ∧ (∀ i, Map.find i t.pool.regions = Map.find i old.pool.regions) ∧
    (∀ k, Map.find k t.pool.used = Map.find k old.pool.used) ∧ (∀ n : Tile, (t.bl n.val).detained = (old.bl n.val).detained) ∧
    t.sec.ucode = old.sec.ucode ∧ t.sec.manifest = old.sec.manifest ∧ t.refmon = old.refmon ∧ t.twin.identity = old.twin.identity ∧
    t.twin.gangNext = old.twin.gangNext ∧ t.pool.marked = old.pool.marked ∧ t.dram = new.dram ∧ t.host = new.host ∧ t.sq = new.sq

/-- Frames on the management chain. (R68) -/
def Obligations.ChainFrames : Prop :=
  (∀ (bytes : List Byte) (s : State),
    let dest := leAt bytes 0 1
    let src := BitVec.ofNat 8 (leAt bytes 1 1)
    let payload := (bytes.drop 6).take (leAt bytes 4 2)
    let tag := BitVec.ofNat 16 (leAt payload 4 2)
    (chainFrameOk bytes = false → exec (.chainFrameReceive bytes) s = .next (s.raiseMod 19)) ∧
    (chainFrameOk bytes = true → leAt bytes 2 1 ≠ 1 → dest = 0 ∨ dest ≠ s.f F.MCH_ADDR_ADDR →
      exec (.chainFrameReceive bytes) s = .next (s.emit (.chain bytes))) ∧
    (chainFrameOk bytes = true → leAt bytes 2 1 = 0x10 → dest ≠ 0 → dest = s.f F.MCH_ADDR_ADDR →
      (src = 0x7F → s.proctor.chainQ.length + s.proctor.twinQ.length < 64 →
        exec (.chainFrameReceive bytes) s = .next (s.updPr (fun pr => { pr with chainQ := pr.chainQ ++ [{ path := .chain src, bytes := payload }] }))) ∧
      (src = 0x7F → 64 ≤ s.proctor.chainQ.length + s.proctor.twinQ.length →
        exec (.chainFrameReceive bytes) s = .next (s.postFinal (.chain src) { tag := tag, status := stBusy, detail := 0, result := [] })) ∧
      (s.originOf (.chain src) = none →
        exec (.chainFrameReceive bytes) s = .next (s.postFinal (.chain src) { tag := tag, status := stAuth, detail := 1, result := [] })))) ∧
  (∀ (next : BitVec 8) (s : State), next.toNat < 64 →
    let a := s.f F.MCH_ADDR_ADDR
    let b := if a < next.toNat then next.toNat else a
    exec (.rollcall next) s = .next ((s.setF F.MCH_ADDR_ADDR b).emit (.chain (chainFrame 0 0x7F 1 (leBytes 1 (b + 1)))))) ∧
  (∀ (next : BitVec 8) (s : State), 64 ≤ next.toNat →
    exec (.rollcall next) s = .next ((s.setF F.MCH_ADDR_ADDR 0).emit (.chain (chainFrame 0 0x7F 1 [64])))) ∧
  (∀ (side : Bool) (s : State), exec (.mchLinkChange side) s = .next (s.emit (.chain (chainFrame 0 (s.f F.MCH_ADDR_ADDR) 2 []))))

/-- The registers whose writes act. (R77, R79, R183, R204, R287, R377, R405) -/
def Obligations.EnableRegisters : Prop :=
  (∀ (src : BusSrc) (v : BitVec 32) (s : State), s.busOk src = true →
    (s.nodeRefused v = true → exec (.nodeCfgWrite src v) s = .next (s.note 0x0 .nodeCfgRefused 1 tgtModule)) ∧
    (∀ new, new = (s.rd R.NODE_CFG &&& ~~~(0x7FFF : Word)) ||| (v &&& 0x7FFF) → s.nodeRefused v = false → new ≠ s.rd R.NODE_CFG →
      let u := (s.wr R.NODE_CFG new).renumber
      exec (.nodeCfgWrite src v) s = .next (u.journalise src.origin 0xFFFF 0
        [regChange R.NODE_CFG (s.rd R.NODE_CFG) new] none {}))) ∧
  (∀ (src : BusSrc) (p : Port) (v : BitVec 32) (s : State), s.canonical → s.busOk src = true → s.sleepsAt (R.LINK_CTL p.val) = false →
    (s.f (F.LINK_CTL_EN p.val) = 0 → s.f (F.LINK_STAT_STATE p.val) = 0 → s.inTest (p.val / 3) = false →
      ∃ t : State, exec (.linkEnable src p v) s = .next t ∧ t.f (F.LINK_CTL_EN p.val) = 1 ∧ t.f (F.LINK_STAT_STATE p.val) = 1 ∧
        t.f (F.EYESAFE_STATE (p.val / 3) (p.val % 3)) = (if s.node = 0 ∨ s.gated (p.val / 3) = true then 2 else 1) ∧
        s.keepsRegs t [R.LINK_CTL p.val, R.LINK_STAT p.val, R.EYESAFE (p.val / 3) (p.val % 3)] ∧ s.keepsMemory t) ∧
    (s.f (F.LINK_CTL_EN p.val) = 1 → s.f (F.LINK_STAT_STATE p.val) = 1 → (s.link p.val).laneset = none →
      ∃ t : State, exec (.linkDisable src p v) s = .next t ∧ t.f (F.LINK_CTL_EN p.val) = 0 ∧ t.f (F.LINK_STAT_STATE p.val) = 0 ∧
        t.f (F.EYESAFE_STATE (p.val / 3) (p.val % 3)) = 2 ∧ s.keepsMemory t)) ∧
  (∀ (src : BusSrc) (t : Tile) (v : BitVec 32) (s : State), s.canonical → s.busOk src = true →
    (s.sleepsAt (R.CROWN_CTL t.val) = false → s.f (F.CROWN_CTL_EN t.val) = 1 →
      ∃ u : State, exec (.crownDisable src t v) s = .next u ∧ u.f (F.CROWN_CTL_EN t.val) = 0 ∧ u.f (F.CROWN_STAT_STATE t.val) = 0 ∧
        u.f (F.CROWN_DEAD_TX_DEAD t.val) = 0xFFFF ∧ u.f (F.CROWN_DEAD_RX_DEAD t.val) = 0xFFFF ∧ s.keepsMemory u) ∧
    (s.sleepsAt (R.OME_CTL t.val) = false → s.standbyReg (R.OME_CTL t.val) = false → s.mirrors = false → s.f (F.OME_STAT_STATE t.val) ≠ 1 → s.f (F.OME_CTL_EN t.val) = 1 →
      ∃ new, (new : Word).getLsbD 0 = false ∧
        let u := (s.wr (R.OME_CTL t.val) new).disableOme t.val
        exec (.omeDisable src t v) s = .next (u.journalise src.origin 0xFFFF 0
          [regChange (R.OME_CTL t.val) (s.rd (R.OME_CTL t.val)) new] none {})) ∧
    (∀ new, new = (s.rd (R.TILE_PWR_CTL t.val) &&& ~~~(3 : Word)) ||| (v &&& 3) → new ≠ s.rd (R.TILE_PWR_CTL t.val) →
      let u := (s.wr (R.TILE_PWR_CTL t.val) new).applyMode t.val
      exec (.tilePwrCtlWrite src t v) s = .next (u.journalise src.origin 0xFFFF 0
        [regChange (R.TILE_PWR_CTL t.val) (s.rd (R.TILE_PWR_CTL t.val)) new] none {}))) ∧
  (∀ (s : State), s.canonical →
    (∀ t : Tile, ∃ u : State, exec (.ffirstValidClear (.tile t)) s = .next u ∧ u.f (F.FFIRST_VALID t.val) = 0 ∧ u.f (F.FFIRST_SRC t.val) = 0 ∧
      u.f (F.FFIRST_SEV t.val) = 0 ∧ u.f (F.FFIRST_OVF t.val) = 0 ∧ u.pair (F.FFIRST_BELL_LO t.val) (F.FFIRST_BELL_HI t.val) = 0 ∧
      s.onlyRegs u ∧ s.keepsRegs u [R.FFIRST t.val, R.FFIRST_BELL_LO t.val, R.FFIRST_BELL_HI t.val]) ∧
    (∃ u : State, exec (.ffirstValidClear .module) s = .next u ∧ u.f F.MFIRST_VALID = 0 ∧ u.f F.MFIRST_SRC = 0 ∧ u.f F.MFIRST_SEV = 0 ∧
      u.f F.MFIRST_OVF = 0 ∧ u.pair F.MFIRST_BELL_LO F.MFIRST_BELL_HI = 0 ∧ s.onlyRegs u ∧
      s.keepsRegs u [R.MFIRST, R.MFIRST_BELL_LO, R.MFIRST_BELL_HI]))

/-- Light lost, light back, and beacon words. (R128, R129, R183) -/
def Obligations.ShutterEvents : Prop :=
  ∀ (p : Port) (s : State), s.canonical →
    let q := p.val
    let t := q / 3
    let i := q % 3
    (s.f (F.LINK_STAT_STATE q) < 2 ∨ s.f (F.LINK_STAT_STATE q) = 5 →
      ∃ u : State, exec (.losAssert p) s = .next u ∧ u.f (F.EYESAFE_LOS t i) = 1 ∧ u.f (F.EYESAFE_BEACON_OK t i) = 0 ∧
        u.f (F.EYESAFE_STATE t i) = (if s.b (F.LINK_CTL_EN q) = false ∨ s.node = 0 ∨ s.gated t = true then 2 else 1) ∧
        (∀ j < 17, u.f (F.LANE_STAT_CDR_LOCK q j) = 0 ∧ u.f (F.LANE_STAT_STANDBY q j) = 0) ∧
        s.keepsRegs u (R.EYESAFE t i :: (List.range 17).map (R.LANE_STAT q)) ∧ u = { s with regs := u.regs, links := u.links, out := u.out }) ∧
    (let dark := (((s.each (List.range 17) (fun s j => s.setFs [(F.LANE_STAT_CDR_LOCK q j, 0), (F.LANE_STAT_STANDBY q j, 0)])).setF
        (F.EYESAFE_LOS t i) 1).shut q);
      (s.linkKeeps q = true → exec (.losAssert p) s = .next (dark.declareDown q 1)) ∧
      (s.f (F.LINK_STAT_STATE q) = 2 → exec (.losAssert p) s = .next ((dark.setFs [(F.LINK_STAT_STATE q, 1), (F.SDS_STAT_STAGE q, 0)]).updLink q
        (fun l => { l with train := none, retryWait := false })))) ∧
    (s.b (F.EYESAFE_BEACON_OK t i) = false → s.f (F.LINK_STAT_STATE q) ≠ 5 →
      exec (.losDeassert p) s = .next (s.setF (F.EYESAFE_LOS t i) 0)) ∧
    (s.b (F.EYESAFE_BEACON_OK t i) = false → s.f (F.LINK_STAT_STATE q) = 5 →
      exec (.losDeassert p) s = .next ((s.setF (F.EYESAFE_LOS t i) 0).setFs [(F.LINK_STAT_STATE q, 1), (F.LINK_STAT_CONFLICT q, 0)])) ∧
    (s.b (F.EYESAFE_BEACON_OK t i) = true → s.f (F.LINK_STAT_STATE q) ≠ 5 → s.b (F.LINK_CTL_EN q) = true → s.node ≠ 0 → s.gated t = false →
      s.f (F.EYESAFE_STATE t i) ≠ 0 →
      exec (.losDeassert p) s = .next (((s.setF (F.EYESAFE_LOS t i) 0).setF (F.EYESAFE_STATE t i) 0).startFull q)) ∧
    (∀ w : BitVec 64, crc16Bits (bitsDown w.toNat 63 16) ≠ w.toNat % 65536 →
      exec (.beaconWordReceive p w) s = .next (s.updLink q (fun l => { l with beacon := none }))) ∧
    (∀ w : BitVec 64, crc16Bits (bitsDown w.toNat 63 16) = w.toNat % 65536 →
      ((s.link q).beacon ≠ some w.toNat → exec (.beaconWordReceive p w) s = .next (s.updLink q (fun l => { l with beacon := some w.toNat }))) ∧
      ((s.link q).beacon = some w.toNat → exec (.beaconWordReceive p w) s = .next
        (((s.setF (F.EYESAFE_BEACON_OK t i) 1).updLink q (fun l => { l with
          farNode := w.toNat / 2 ^ 49, farPort := w.toNat / 2 ^ 41 % 256, farEpoch := w.toNat / 2 ^ 25 % 65536 })).openShutter q)))

/-- Training stages, their limits, and the rate hunt. (R143, R144, R145, R146, R183, R528) -/
def Obligations.TrainingEvents : Prop :=
  ∀ (p : Port) (s : State),
    let q := p.val
    (∀ line w, s.trainWord q line.val w = none → exec (.trainingWordReceive p line w) s = .next s) ∧
    (∀ line w v inv, s.trainWord q line.val w = some (v, inv) → s.f (F.LINK_STAT_STATE q) = 3 → v / 2 ^ 120 % 8 = 6 →
      exec (.trainingWordReceive p line w) s = .next (s.setF (F.SDS_STAT_RX_QUIET q) 1)) ∧
    (∀ line w v inv tr, s.trainWord q line.val w = some (v, inv) → s.f (F.LINK_STAT_STATE q) = 2 → (s.link q).train = some tr → v / 2 ^ 118 % 4 = tr.rate →
      s.f (F.SDS_STAT_STAGE q) ≠ 4 →
      exec (.trainingWordReceive p line w) s = .next (((s.updLink q (fun l => { l with
        farNode := v / 2 ^ 102 % 2 ^ 15, farPort := v / 2 ^ 94 % 256, farEpoch := v / 2 ^ 78 % 65536 })).setF
          (F.LANE_STAT_FAR_LANE q line.val) (v / 2 ^ 123 % 32)).updTrain q (fun t => { t with
            seen := true, hunt := none, lines := Map.put line.val (v / 2 ^ 123 % 32, inv) t.lines }))) ∧
    (∀ pass tr, s.canonical → (s.link q).train = some tr → s.f (F.SDS_STAT_STAGE q) = 1 → 4 ≤ dataLanes (tr.lanes &&& pass.toNat) →
      ∃ t : State, exec (.trainStageDone p pass) s = .next t ∧ t.f (F.SDS_STAT_STAGE q) = 2 ∧
        t.out = .training q ((List.range 17).map (fun j => (j, t.trainWordOf q j 2))) :: s.out ∧
        (∀ j < 17, t.f (F.LANE_STAT_CDR_LOCK q j) = if (tr.lanes &&& pass.toNat).testBit j then 1 else 0) ∧
        t = { s with regs := t.regs, links := t.links, out := t.out }) ∧
    (∀ pass tr, (s.link q).train = some tr → s.f (F.SDS_STAT_STAGE q) = 1 → dataLanes (tr.lanes &&& pass.toNat) < 4 →
      exec (.trainStageDone p pass) s = .next s) ∧
    (∀ pass tr, (s.link q).train = some tr → s.f (F.SDS_STAT_STAGE q) = 4 → s.f (F.LINK_STAT_STATE q) = 2 → tr.ready = true → tr.farReady = true →
      exec (.trainStageDone p pass) s = .next (s.enterUp q (tr.lanes &&& (0x1FFFF ^^^ s.barred q)))) ∧
    (∀ pass tr, (s.link q).train = some tr → s.f (F.SDS_STAT_STAGE q) = 4 ∨ (s.f (F.SDS_STAT_STAGE q) = 1 ∧ dataLanes (tr.lanes &&& pass.toNat) < 4) →
      (tr.full = true → tr.rate < 3 → exec (.trainStageTimeout p pass) s = .next (s.beginTraining q true (tr.rate + 1))) ∧
      (tr.full = true → 3 ≤ tr.rate → exec (.trainStageTimeout p pass) s = .next
        ((s.setFs [(F.LINK_STAT_STATE q, 1), (F.SDS_STAT_STAGE q, 0)]).updLink q (fun l => { l with train := none, retryWait := true }))) ∧
      (tr.full = false → exec (.trainStageTimeout p pass) s = .next
        (if (s.declareDown q 1).mayTrain q = true then (s.declareDown q 1).beginTraining q true tr.rate else s.declareDown q 1))) ∧
    (∀ tr, (s.link q).train = some tr → s.f (F.SDS_STAT_STAGE q) = 1 → tr.full = true → tr.seen = false → tr.rate < 4 →
      ∃ n, n < 4 ∧ n ≠ tr.rate ∧ exec (.rateHuntStep p) s = .next (s.updTrain q (fun t => { t with hunt := some n }))) ∧
    ((s.link q).retryWait = true → s.b (F.EYESAFE_LOS (q / 3) (q % 3)) = false →
      exec (.trainRetryTimer p) s = .next ((s.updLink q (fun l => { l with retryWait := false })).startFull q))

/-- Lanes in service: offsets, taps, A1, eye scans and PRBS. The offset check shows each lane's peak, clears CDR_LOCK above
300 ppm and blocks A1 above 250 ppm, and takes taps and thresholds where adaptation may have moved them (free values,
assumption 161). (R141, R149, R152, R153, R154, R155, R156, R359) -/
def Obligations.LaneEvents : Prop :=
  ∀ (p : Port) (s : State),
    let q := p.val
    (∀ ofs : List (BitVec 16), ofs.length = 17 → s.canonical →
      ∃ t : State, exec (.laneOffsetCheck p ofs) s = .next t ∧ t = { s with regs := t.regs, links := t.links, free := t.free } ∧
        s.keepsRegs t (R.SDS_STAT q :: (List.range 17).flatMap (fun j => [R.LANE_STAT q j, R.LANE_TAP q j 0, R.LANE_TAP q j 1, R.LANE_TAP q j 2,
          R.LANE_THR q j])) ∧
        (∀ j (h : j < ofs.length), t.f (F.LANE_STAT_FREQ_OFS q j) = ofs[j].toNat ∧
          t.f (F.LANE_STAT_CDR_LOCK q j) = if 3000 < ofs[j].toInt.natAbs then 0 else s.f (F.LANE_STAT_CDR_LOCK q j)) ∧
        t.f (F.SDS_STAT_A1_BLOCKED q) = if ofs.any (fun x => decide (2500 < x.toInt.natAbs)) then 1 else 0) ∧
    (∀ j, exec (.tapSaturated p j) s = .next ((s.setF (F.LANE_STAT_TAP_SAT q j.val) 1).note 0x2 .tapSat 1 (tgtLane q j.val))) ∧
    (s.linkUp q = true → s.b (F.SDS_CTL_A1_EN q) = true → s.b (F.SDS_STAT_A1_BLOCKED q) = false → (s.link q).idle = true → s.ackDue q = false →
      (∀ r ∈ (s.bl (q / 3)).runs, r.slot ≠ q % 3) →
      exec (.a1Entry p) s = .next (((s.updLink q (fun l => { l with txQuiet := true })).setF (F.SDS_STAT_STAGE q) 6).sendBlocks q 6 (s.mapLanes q))) ∧
    (let sent := if (s.link q).txQuiet then s.emit (.keepPhase q) else s;
      exec (.keepPhaseBurst p) s = .next (if s.b (F.SDS_STAT_RX_QUIET q) then sent.updLink q (fun l => { l with phaseAt := some s.bell }) else sent)) ∧
    ((s.link q).txQuiet = true → (s.link q).idle = false ∨ s.ackDue q = true ∨ s.laneRunOn q = true →
      exec (.a1Exit p) s = .next (((s.updLink q (fun l => { l with txQuiet := false })).setF (F.SDS_STAT_STAGE q) 5).emit (.wake q (s.link q).mapRate))) ∧
    ((s.link q).txQuiet = false ∨ ((s.link q).idle = true ∧ s.ackDue q = false ∧ s.laneRunOn q = false) → exec (.a1Exit p) s = .next s) ∧
    (∀ mism sc, (s.link q).scan = some sc → s.laneRunOn q = false →
      (sc.points.length ≤ 1 → exec (.eyeScanPointDone p mism) s = .next (((s.updLink q (fun l => { l with scan := none })).setFs
        [(F.ESCAN_STAT_LANE q, 0), (F.ESCAN_STAT_USER q, 0)]).finish sc.run stOk 0 ((sc.counts ++ [mism.toNat]).flatMap (leBytes 8)))) ∧
      (1 < sc.points.length → exec (.eyeScanPointDone p mism) s = .next (s.updLink q (fun l => { l with
        scan := some { sc with points := sc.points.drop 1, counts := sc.counts ++ [mism.toNat] } })))) ∧
    (∀ mism, s.laneRunOn q = true → exec (.eyeScanPointDone p mism) s = .next s) ∧
    (∀ j opening, s.laneRunOn q = false → (s.link q).scan = none → s.linkUp q = true → s.b (F.LANE_STAT_IN_MAP q j.val) = true →
      s.canonical → ∃ t : State, exec (.marginSweepStep p j opening) s = .next t ∧ t.f (F.ESCAN_STAT_LANE q) = j.val ∧ t.f (F.ESCAN_STAT_USER q) = 1 ∧
        s.keepsRegs t [R.ESCAN_STAT q] ∧ t = { s with regs := t.regs, links := t.links } ∧
        ∃ since, Map.find j.val (t.link q).eyes = some (opening.toNat, since)) ∧
    (∀ o pk, s.accepts portEyeScanDef pk o →
      let b := s.begun pk
      let n := pk.unit
      let u := ((b.updLink n (fun l => { l with scan := some (⟨b.proctor.nextId, pk.sub, pk.w 0,
        scanPoints (pk.int 1) (pk.int 2) (pk.int 3) (pk.int 4), [], pk.w 5⟩ : EyeScan) })).wakeTx n).setFs
          (if b.laneRunOn n then [] else [(F.ESCAN_STAT_LANE n, pk.sub), (F.ESCAN_STAT_USER n, 2)])
      exec (.portEyeScan pk) s = .next (u.startsRunning b portEyeScanDef pk o)) ∧
    (∀ o pk, s.accepts portPrbsDef pk o → exec (.portPrbs pk) s = .next ((s.begun pk).startsRunning (s.begun pk) portPrbsDef pk o))

/-- What a received codeword, or a sublink's flit, does. (R163, R164, R166, R168, R169, R170, R171, R177, R179, R450) -/
def Obligations.FlitsReceived : Prop :=
  ∀ (v : Via) (bytes : List Byte) (s : State),
    let q := v.code
    (s.linkRuns q = false → ∀ n, exec (.codewordReceive v bytes n) s = .next s) ∧
    (s.linkRuns q = true → s.b (F.SDS_STAT_RX_QUIET q) = false →
      let s2 := s.updLink q (fun l => { l with rxPhase := phaseAfter (s.dirMap q true).1 l.rxPhase 272 })
      let crcOk := fun (c : List Byte) => crc64 (c.take 248) == leAt c 248 8
      let dec := if q < 240 then rsDecode crcOk (fitBytes 272 bytes)
        else if crcOk (fitBytes 256 bytes) then some (fitBytes 256 bytes, []) else none
      (dec = none → exec (.codewordReceive v bytes false) s = .next ((s2.bump (F.LINK_CNT_DROP q)).lostFlit q)) ∧
      (∀ b, dec = some (b, []) →
        let h := leAt b 0 16
        let s3 := (s2.setFs [(F.LINK_FC_TX_XOFF0 q, h / 2 ^ 80 % 2), (F.LINK_FC_TX_XOFF1 q, h / 2 ^ 81 % 2)]).updLink q (fun l =>
          if h / 2 ^ 82 % 32 ≤ 16 then { l with tel := Map.put (h / 2 ^ 82 % 32) (h / 2 ^ 88 % 65536) l.tel } else l)
        let rx := s3.f (F.LINK_SEQ_RX_SEQ q)
        let d := (h / 2 ^ 8 % 2 ^ 24 + seqMod - rx) % seqMod
        h / 2 ^ 6 % 2 = 0 → h / 2 ^ 7 % 2 = 0 →
        (h % 16 = 0 ∨ h % 16 = 1 → h / 2 ^ 4 % 4 = 0 → exec (.codewordReceive v bytes false) s = .next s3) ∧
        (h % 16 = 2 → h / 2 ^ 4 % 4 ≤ 1 →
          let f : Flit := { type := .data, vc := h / 2 ^ 4 % 4, payload := (b.drop 16).take 232, last := h / 2 ^ 120 % 2 == 1, reply := h / 2 ^ 121 % 2 == 1 }
          (d = 0 → (s3.link q).occ f.vc < s3.f (if f.vc = 0 then F.LINK_FC_VC0_PART q else F.LINK_FC_VC1_PART q) → (s3.link q).dozeSent = false →
            exec (.codewordReceive v bytes false) s = .next (((((s3.updLink q (fun l => { l with rxq := l.rxq ++ [f] })).syncXoff q).setF
              (F.LINK_SEQ_RX_SEQ q) ((rx + 1) % seqMod)).updLink q (fun l => { l with nakOut := none, ackValid := true, dozeSent := false, dozeAcked := false })))) ∧
          (0 < d → d < 2 ^ 22 → exec (.codewordReceive v bytes false) s = .next (s3.lostFlit q)) ∧
          (seqMod - 2 ^ 22 ≤ d → (s3.link q).dupAt = some s3.bell → 0 < (s3.link q).ackIdle →
            exec (.codewordReceive v bytes false) s = .next (s3.bump (F.LINK_CNT_DUP q)))))) ∧
    (∀ n, (s.link q).unacked.length < (n + seqMod - s.f (F.LINK_SEQ_ACK_SEQ q)) % seqMod → s.takeNak q n = s.setF (F.LINK_ERR_NAK_STALE q) 1)

/-- What a port or sublink sends, and what it sends again. (R164, R166, R167, R170, R172, R173, R174, R175, R183, R188,
R450, R454) -/
def Obligations.FlitsSent : Prop :=
  (∀ (v : Via) (s : State),
    let q := v.code
    let acked := s.f (F.LINK_SEQ_ACK_SEQ q)
    let fill : Flit := { type := .fill, vc := 0, payload := [] }
    let pad : Flit := { type := .pad, vc := 0, payload := [] }
    (s.linkRuns q = false ∨ (s.link q).txQuiet = true → exec (.flitSend v) s = .next s) ∧
    (s.linkRuns q = true → (s.link q).txQuiet = false →
      (∀ k f, s.awaitsAck q = false → (s.link q).replayPos = some k → (s.link q).unacked[k]? = some f →
        exec (.flitSend v) s = .next ((s.sendFlit q ((acked + k) % seqMod) f).updLink q (fun l => { l with
          replayPos := if k + 1 < l.unacked.length then some (k + 1) else none, timerOn := true }))) ∧
      ((s.link q).replayPos = none →
        (s.txHeld q = true → exec (.flitSend v) s = .next (s.sendFlit q 0 fill)) ∧
        (s.txHeld q = false → (s.link q).unacked.length < 8192 →
          (∀ f, s.nextFlit q = some f →
            exec (.flitSend v) s = .next ((s.updLink q (fun l => { l with txq := l.txq.erase f })).sendNew q f)) ∧
          (∀ ls, s.nextFlit q = none → (s.link q).laneset = some ls → ls.txDone = false → ls.cancelled = false →
            exec (.flitSend v) s = .next ((s.updLink q (fun l => { l with txq := l.txq.erase pad })).sendNew q pad)) ∧
          (s.nextFlit q = none → (s.link q).laneset = none → exec (.flitSend v) s = .next (s.sendFlit q 0 fill))))) ∧
    (∀ f : Flit, s.canonical → (s.sendNew q f).f (F.LINK_SEQ_TX_SEQ q) = (s.f (F.LINK_SEQ_TX_SEQ q) + 1) % seqMod ∧
      ∃ hdr, (s.sendNew q f).out =
        (if 240 ≤ q then Out.site (q - 240) (flitBytes hdr f.payload)
         else
          let word := flitBytes hdr f.payload ++ rsCheck (flitBytes hdr f.payload)
          Out.flit q (s.dirMap q false).2 word (stripes (s.dirMap q false).1 (s.link q).txPhase word)) :: s.out) ∧
    (s.linkRuns q = true → s.ackDue q = true → exec (.ackIdleTimer v) s = .next ((s.wakeTx q).sendFlit q 0 { type := .ack, vc := 0, payload := [] })) ∧
    (s.linkRuns q = true → (s.link q).timerOn = true → (s.link q).unacked ≠ [] →
      (s.f (F.LINK_STAT_REPLAY_NUM q) < s.replayLimit q → exec (.replayTimerExpiry v) s = .next
        (((s.bump (F.LINK_STAT_REPLAY_NUM q)).bump (F.LINK_CNT_REPLAY q)).updLink q (fun l => { l with replayPos := some 0, timerOn := true }))) ∧
      (s.replayLimit q ≤ s.f (F.LINK_STAT_REPLAY_NUM q) → s.f (F.LINK_STAT_POST_RETRAIN q) = 0 → exec (.replayTimerExpiry v) s = .next
        ((s.setFs [(F.LINK_STAT_REPLAY_NUM q, 0), (F.LINK_STAT_POST_RETRAIN q, 1)]).fastRetrain q)) ∧
      (s.replayLimit q ≤ s.f (F.LINK_STAT_REPLAY_NUM q) → s.f (F.LINK_STAT_POST_RETRAIN q) ≠ 0 →
        exec (.replayTimerExpiry v) s = .next (s.downAndTrain q)))) ∧
  (∀ (p : Port) (s : State) tr, (s.link p.val).train = some tr → s.f (F.LINK_STAT_STATE p.val) = 4 →
    let q := p.val
    (tr.ready = true → tr.farReady = true → s.f (F.SDS_STAT_STAGE q) = 4 →
      exec (.fastRetrainDone (.port p) true) s = .next (s.enterUp q (tr.lanes &&& (0x1FFFF ^^^ s.barred q)))) ∧
    (tr.full = false → exec (.fastRetrainDone (.port p) false) s = .next
      (if (s.declareDown q 1).mayTrain q = true then (s.declareDown q 1).beginTraining q true tr.rate else s.declareDown q 1))) ∧
  (∀ (k : Fin 4) (s : State), s.linkUp (240 + k.val) = true → (s.link (240 + k.val)).train ≠ none →
    exec (.fastRetrainDone (.site k) true) s = .next (s.updLink (240 + k.val) (fun l => { l with
      train := none, replayPos := if l.unacked.isEmpty then none else some 0 })) ∧
    exec (.fastRetrainDone (.site k) false) s = .next (s.sublinkDown k.val))

/-- Link control messages. (R151, R157, R178, R179, R187, R188, R189, R379, R533) -/
def Obligations.LinkControl : Prop :=
  (∀ (v : Via) (msg : List Byte) (s s1 : State),
    let q := v.code
    (s.linkRuns q = true → (s.link q).dozed = false → exec (.rttMeasure v) s =
      .next ((s.fresh.2.updLink q (fun l => { l with echoAt := some s.fresh.1.toNat })).enqueue q [lctlFlit ([3, 0, 0, 0] ++ leBytes 8 s.fresh.1.toNat)])) ∧
    (s.popRx q 2 (fitBytes 232 msg) = some s1 →
      (leAt msg 0 1 = 3 → exec (.echo v msg) s = .next (s1.fresh.2.enqueue q
        [lctlFlit ([4, 0, 0, 0] ++ fitBytes 8 (msg.drop 4) ++ leBytes 4 (s1.fresh.1.toNat % 2 ^ 32))])) ∧
      (∀ elapsed, leAt msg 0 1 = 4 → (s1.link q).echoAt = some (leAt msg 4 8) → s1.linkRuns q = true →
        let rtt := min 65535 ((elapsed : BitVec 32).toNat - leAt msg 12 4)
        let s2 := (s1.setF (F.LINK_RTT_RTT_NS q) rtt).updLink q (fun l => { l with echoAt := none })
        exec (.echoReply v msg elapsed) s = .next (if (s2.link q).rttDone then s2 else s2.fixPartitions q rtt)))) ∧
  (∀ (p : Port) (msg : List Byte) (s s1 : State),
    let q := p.val
    (s.popRx q 2 (fitBytes 232 msg) = some s1 →
      (leAt msg 0 1 = 1 → leAt msg 26 1 ≠ 1 → s1.linkUp q = true → (s1.link q).laneset = none →
        let pos := (List.range 16).map (fun i => leAt msg (10 + i) 1)
        let answer := fun (s : State) (res at_ : Nat) => s.enqueue q [lctlFlit ([2] ++ leBytes 1 (leAt msg 1 1) ++ leBytes 1 res ++ [0] ++ leBytes 3 at_)]
        (∀ r, s1.lanesetRefusal q (leAt msg 2 1) (leAt msg 3 1) pos = some r → exec (.laneset p msg) s = .next (answer s1 r 0)) ∧
        (s1.lanesetRefusal q (leAt msg 2 1) (leAt msg 3 1) pos = none →
          let eb := (s1.f (F.LINK_SEQ_TX_SEQ q) + s1.boundaryFlits q + 1) % seqMod
          let ls : Laneset :=
            { mine := false, reqId := leAt msg 1 1, width := leAt msg 2 1, rate := leAt msg 3 1, pos := pos.take (leAt msg 2 1),
              newEpoch := leAt msg 8 2, txAt := eb, rxAt := some (leAt msg 4 3), acked := true, txDone := false, rxDone := false, cancelled := false, run := none }
          exec (.laneset p msg) s = .next (answer ((s1.updLink q (fun l => { l with laneset := some ls, oldMap := some (s1.mapNow q) })).setF
            (F.LINK_STAT_LANESET_PEND q) 1) 0 eb))) ∧
      (∀ ls, (s1.link q).laneset = some ls →
        (leAt msg 0 1 = 2 → ls.mine = true → ls.reqId = leAt msg 1 1 →
          (leAt msg 2 1 ≠ 0 → ls.acked = false → exec (.lanesetAck p msg) s = .next (s1.endLaneset q 0x8201 (leAt msg 2 1))) ∧
          (leAt msg 2 1 = 0 →
            let at_ := if ls.cancelled then s1.f (F.LINK_SEQ_TX_SEQ q) else ls.txAt
            let ls1 : Laneset := { ls with acked := true, rxAt := some (leAt msg 4 3), cancelled := false, txAt := at_ }
            exec (.lanesetAck p msg) s = .next (s1.updLink q (fun l => { l with laneset := some ls1 })))) ∧
        (leAt msg 0 1 = 1 → leAt msg 26 1 = 1 → ls.mine = false → ls.reqId = leAt msg 1 1 →
          (ls.txDone = false → exec (.lanesetCancel p msg) s = .next (s1.endLaneset q stOk 0)) ∧
          (ls.txDone = true → exec (.lanesetCancel p msg) s = .next ((s1.setF (F.LINK_STAT_EPOCH q) ls.newEpoch).updLink q (fun l => { l with
            farEpoch := ls.newEpoch }))))) ∧
      (leAt msg 0 1 = 5 → exec (.verify p msg) s = .next (s1.updLink q (fun l => { l with
        verify := Map.put (leAt msg 1 1) (leAt msg 4 8, leAt msg 12 4) l.verify })))) ∧
    (∀ ls, (s.link q).laneset = some ls → s.f (F.LINK_SEQ_TX_SEQ q) = ls.txAt →
      (ls.acked = true → ls.txDone = false →
        let u := s.updLink q (fun l => { l with laneset := some { ls with txDone := true }, txPhase := 0 })
        exec (.lanesetBoundary p) s = .next ((if ls.rate = (s.link q).mapRate then u else u.emit (.wake q ls.rate)).commitLaneset q)) ∧
      (ls.mine = true → ls.acked = false → ls.cancelled = false → exec (.lanesetAckTimeout p) s = .next
        ((s.updLink q (fun l => { l with laneset := some { ls with cancelled := true } })).enqueue q [lctlFlit (lanesetMsg ls true)])) ∧
      (ls.cancelled = true → exec (.lanesetCancelWindowEnd p) s = .next ((s.setF (F.LINK_ERR_LANESET_TIMEOUT q) 1).endLaneset q 0x8201 0x100))) ∧
    (s.popRx q 2 (fitBytes 232 [6]) = some s1 → exec (.doze p) s = .next (s1.updLink q (fun l => { l with dozed := true }))) ∧
    (s.popRx q 2 (fitBytes 232 [7]) = some s1 → exec (.awake p) s = .next (s1.updLink q (fun l => { l with dozed := false }))) ∧
    (s.linkUp q = true → (s.link q).dozed = true → (s.link q).txq ≠ [] → exec (.awakeTimeout p) s = .next (s.downAndTrain q)))

/-- In-band packets and the port commands. (R70, R79, R182, R190, R373, R386) -/
def Obligations.PortCommands : Prop :=
  (∀ (v : Via) (bytes : List Byte) (f : Flit) (s : State),
    let q := v.code
    let path : Sys2Proof.Path := match v with | .port p => .port p | .site k => .site k
    let s1 := s.updLink q (fun l => { l with rxq := l.rxq.erase f })
    (s.link q).rxq.find? (fun f => decide (f.type = .cmd) && decide (f.payload = bytes)) = some f →
    ((s1.link q).inband.length < 4 → exec (.cmdPacketAssembled v bytes) s = .next ((s1.updLink q (fun l => { l with
      inband := l.inband ++ [leAt bytes 4 2] })).updPr (fun pr => { pr with portQ := pr.portQ ++ [{ path := path, bytes := bytes }] }))) ∧
    (4 ≤ (s1.link q).inband.length → exec (.cmdPacketAssembled v bytes) s = .next (s1.enqueue q (cmdFlits true
      (Reply.bytes { tag := BitVec.ofNat 16 (leAt bytes 4 2), status := stBusy, detail := 0, result := [] } 0))))) ∧
  (∀ (p : Packet) (s : State) (o : Nat),
    let b := s.begun p
    let q := p.unit
    let logged := fun (u : State) => u.journalise o 0x201 p.tag.toNat (paramChange p)
      (some (p.path, { tag := p.tag, status := stOk, detail := 0, result := [] })) (undoOf b u)
    (s.accepts portTrainDef p o →
      (p.w 0 = 0 → exec (.portTrain p) s = .next (logged (b.fastRetrain q))) ∧
      (p.w 0 ≠ 0 → b.f (F.LINK_STAT_STATE q) = 3 → exec (.portTrain p) s = .next (logged (b.downAndTrain q))) ∧
      (p.w 0 ≠ 0 → b.f (F.LINK_STAT_STATE q) ≠ 3 → exec (.portTrain p) s = .next
        (logged (((b.setFs [(F.LINK_STAT_STATE q, 1), (F.LINK_STAT_CONFLICT q, 0)]).updLink q (fun l => { l with train := none })).startFull q)))) ∧
    (s.accepts portLanesetDef p o → exec (.portLaneset p) s = .next
      ((b.startLaneset q (lanesetPos p) (p.w 1) (some b.proctor.nextId)).startsRunning b portLanesetDef p o))) ∧
  (∀ (p : Port) (s : State) (id : Nat), s.resetRun 2 p.val = some id → exec (.portReset p) s = .next ((s.resetPort p.val).finishParam id stOk 0))

/-- Ring locks, the reference and the combs. (R114, R115, R117, R118, R119, R121, R356, R401) -/
def Obligations.RingsAndReference : Prop :=
  (∀ (t : Tile) (n : BitVec 12) (s : State),
    (s.ring t.val n.toNat = .search →
      exec (.ringResonanceFound t n) s = .next ((s.setRing t.val n.toNat .locked).syncHeads t.val) ∧
      exec (.ringSearchTimeout t n) s = .next ((s.bump (F.RING_SUM_LOST t.val)).note 0x2 .ringLost 2 (tgtTile t.val) n.toNat) ∧
      exec (.ringLockLost t n) s = .next s) ∧
    (s.ring t.val n.toNat = .locked →
      exec (.ringResonanceFound t n) s = .next s ∧ exec (.ringSearchTimeout t n) s = .next s ∧
      exec (.ringLockLost t n) s = .next (((s.setRing t.val n.toNat .search).bump (F.RING_SUM_LOST t.val)).raise t.val 8) ∧
      ∀ head : BitVec 8, head.toNat < 20 → s.canonical → ∃ t', exec (.ringHeadroomLow t n head) s = .next t' ∧
        t'.f (F.RING_SUM_HEADROOM_LOW t.val) = 1 ∧ t'.f (F.RING_SUM_MIN_HEAD t.val) ≤ head.toNat ∧ t'.ring t.val n.toNat = .locked ∧
        s.keepsRegs t' (R.RING_SUM t.val :: logRegs) ∧ s.keepsMemory t')) ∧
  (∀ (pwr : BitVec 16) (s : State), s.canonical → ∃ t : State, exec (.refLoss pwr) s = .next t ∧
    (∀ k : Tile, t.f (F.GRID_STAT_REF_OK k.val) = 0 ∧ t.f (F.GRID_STAT_REF_PWR k.val) = pwr.toNat) ∧
    s.keepsRegs t (allTiles.map R.GRID_STAT ++ logRegs) ∧ t = { s with refOn := false, regs := t.regs, report := t.report }) ∧
  (∀ (pwr : BitVec 16) (ofs : List (BitVec 12)) (s : State), s.canonical → ofs.length = 48 → ∃ t : State, exec (.refReturn pwr ofs) s = .next t ∧
    (∀ k : Tile, s.b (F.GRID_STAT_REF_OK k.val) = false → t.f (F.GRID_STAT_REF_OK k.val) = 1 ∧ t.f (F.GRID_STAT_REF_PWR k.val) = pwr.toNat ∧
      t.f (F.GRID_STAT_LINE23_OFS k.val) = (ofs.getD k.val 0).toNat ∧ (t.bl k.val).traceDue = some s.bell) ∧
    (∀ k : Tile, s.b (F.GRID_STAT_REF_OK k.val) = true → t.rd (R.GRID_STAT k.val) = s.rd (R.GRID_STAT k.val) ∧ t.bl k.val = s.bl k.val) ∧ t.refOn = true ∧ s.keepsMemory t) ∧
  (∀ (t : Tile) (c : Fin 8) (fade : BitVec 12) (s : State), s.f (F.LAS_STAT_STATE t.val c.val) = 1 → c.val < 6 → Map.find c.val (s.ph t.val).subst = none →
    let s1 := s.setFs [(F.LAS_STAT_STATE t.val c.val, 2), (F.LAS_STAT_ROLE t.val c.val, c.val)]
    exec (.combStart t c ⟨true, fade⟩) s = .next (if c.val = 4 ∨ c.val = 5 then s1.omeStart t.val else s1) ∧
    exec (.combStart t c ⟨false, fade⟩) s = .next (s.setF (F.LAS_STAT_STATE t.val c.val) 4)) ∧
  (∀ (t : Tile) (c : Fin 8) (tj : BitVec 8) (s : State),
    let r := s.f (F.LAS_STAT_ROLE t.val c.val)
    let dark := ((s.setFs [(F.LAS_STAT_TJ t.val c.val, tj.toNat), (F.LAS_STAT_STATE t.val c.val, 0), (F.LAS_STAT_ROLE t.val c.val, 7),
      (F.LAS_BIAS_BIAS t.val c.val, 0)]).note 0x2 .laserOvertemp 3 (tgtTile t.val) tj.toNat).raise t.val 6 tj.toNat
    Map.find r (dark.ph t.val).subst = none → exec (.laserOvertemp t c tj) s =
      .next (if r = 7 then dark else if 6 ≤ c.val then (dark.setF (subFor t.val c.val) 6).claimSub t.val r none else dark.claimSub t.val r none))

/-- What the monitors read, what is commissioned and how a fade is evaluated. (R115, R122, R123, R124, R131, R133, R136,
R139, R359) -/
def Obligations.FadesAndMonitors : Prop :=
  (∀ (p : Packet) (o : Nat) (s : State), s.accepts phoMonReadDef p o → exec (.phoMonRead p) s =
    .next ((s.begun p).replies p ((List.range 17).flatMap (fun j => (List.range 5).flatMap (fun m =>
      leBytes 2 ((s.begun p).monitor (p.unit / 3) (p.unit % 3) j (m + 1)) ++ leBytes 2 ((s.begun p).commissioned (p.unit / 3) (p.unit % 3) j (m + 1))))))) ∧
  (∀ (p : Packet) (o : Nat) (s : State), s.accepts phoCommissionDef p o → p.kind = 2 →
    let t := p.unit / 3
    let i := p.unit % 3
    let b := s.begun p
    let c := b.combAt t i 0
    Map.rising b.photoNv = true → Map.rising (b.phNv t).comm = true →
    ∃ u : State, exec (.phoCommission p) s = .next (u.conclude 0x240 o true p stOk 0 []
        [{ target := p.target.toNat, offset := 0xFFFFFFFF, old := some (b.tableOf t (monPoints p)), new := some (u.tableOf t (monPoints p)) }] (undoOf b u)) ∧
      (∀ j m, j < 17 → m < 5 → u.commissioned t i j (m + 1) = b.monitor t i j (m + 1)) ∧
      (∀ path j m, path ≠ i → path < 8 → j < 64 → m < 5 → u.commissioned t path j (m + 1) = b.commissioned t path j (m + 1)) ∧
      (s.canonical → u.f (F.FADE_STAT_FAST t i) = 0 ∧ Map.find i (u.phNv t).retired = none) ∧
      (s.canonical → b.f (F.LAS_STAT_STATE t c) = 2 → u.f (F.LAS_BIAS_COMM_BIAS t c) = b.f (F.LAS_BIAS_BIAS t c)) ∧
      b.keepsRegs u [R.FADE_STAT t i, R.AGE_PLAN t, R.LAS_BIAS t c] ∧ b.keepsMemory u) ∧
  (∀ (p : Packet) (o : Nat) (s : State), s.accepts phoRefmonDef p o → 
    let b := s.begun p
    let now := if p.w 0 = 0xFF then none else some (p.unit, p.w 0)
    let u : State := { b with refmon := now }
    exec (.phoRefmon p) s = .next (if b.refmon = now then u.replies p [] else u.journalise o 0x244 p.tag.toNat (paramChange p)
      (some (p.path, { tag := p.tag, status := stOk, detail := 0, result := [] })) (undoOf b u))) ∧
  (∀ (t : Tile) (readings : FadeReadings) (s : State),
    let s1 := (s.updPh t.val (fun p => { p with hist := p.hist.filter (fun h => decide (s.bell ≤ h.1 + 1000000)), mon := readings.monitors.foldl (fun m x =>
      Map.set 0x8000 m (monKey (x.1.toNat / 8 % 8) (x.1.toNat / 64) (x.1.toNat % 8)) x.2.toNat) p.mon })).setFs
        (readings.tj.zipIdx.map (fun x => (F.LAS_STAT_TJ t.val x.2, x.1.toNat)))
    exec (.fadeEvaluation t readings) s = .next (((s1.each (s1.roleOrder t.val) (fun s r => s.evalRole t.val r)).updPh t.val (fun p =>
      { p with hist := p.hist ++ [(s.bell, p.mon)] })).each (portsOf t.val) State.tendMap) ∧
    (s1.roleOrder t.val).Perm [0, 1, 2, 3, 4, 5] ∧ (s1.roleOrder t.val).drop 3 = [3, 4, 5]) ∧
  (∀ (t r : Nat) (s : State), r < 6 → s.f (F.FADE_STAT_STAGE t r) = 1 → s.canonical →
    (∀ f, 300 ≤ f → s.fadeStage t r f false = ((s.updPh t (fun p => { p with calmSince := Map.del r p.calmSince })).note 0x2 .fade3 2 (tgtTile t) f).claimSub t r none) ∧
    (∀ f, 200 ≤ f → f < 300 → s.substDue t r f false = false → s.fadeStage t r f false =
      (((s.updPh t (fun p => { p with calmSince := Map.del r p.calmSince })).setF (F.FADE_STAT_STAGE t r) 2).note 0x2 .fade2 1 (tgtTile t) f).raiseBias t r))

/-- A Substitute takes a role over, and gives it back. (R131, R132, R134, R137, R138, R139, R401) -/
def Obligations.Substitution : Prop :=
  (∀ (t r u : Nat) (run : Option Nat) (s : State), s.freeSub t = some u → s.claimSub t r run =
    ((((s.updPh t (fun p => { p with subst := Map.put r { target := u, todo := roleUnits r, restore := false, run := run } p.subst })).setFs
      [(F.LAS_STAT_STATE t u, 1), (F.LAS_STAT_ROLE t u, r), (F.LAS_BIAS_BIAS t u, s.commBias t u), (F.LAS_BIAS_COMM_BIAS t u, s.commBias t u)]).setF
        (F.FADE_STAT_STAGE t r) 4).note 0x2 .subStarted 2 (tgtTile t) r)) ∧
  (∀ (t r : Nat) (s : State), s.freeSub t = none →
    let u := ((s.updPh t (fun p => { p with subst := Map.del r p.subst })).setF (F.FADE_STAT_STAGE t r) 3).note 0x2 .subFailed 2 (tgtTile t) 0x8240
    s.claimSub t r none = if r < 3 then u.replanRate (3 * t + r) else u) ∧
  (∀ (p : Packet) (o : Nat) (s : State), s.accepts phoSubstituteDef p o →
    exec (.phoSubstitute p) s = .next (((s.begun p).claimSub p.unit (p.w 0) (some (s.begun p).proctor.nextId)).startsRunning (s.begun p) phoSubstituteDef p o)) ∧
  (∀ (p : Packet) (o : Nat) (s : State), s.accepts phoRestoreDef p o →
    let b := s.begun p
    let r := p.w 0
    let x : Subst := { target := if b.f (F.SUB_MAP_SUB0_FOR p.unit) = r then 6 else 7, todo := roleUnits r, restore := true, run := some b.proctor.nextId }
    let c := b.commBias p.unit r
    exec (.phoRestore p) s = .next (((b.updPh p.unit (fun q => { q with subst := Map.put r x q.subst })).setFs
      [(F.LAS_STAT_STATE p.unit r, 1), (F.LAS_STAT_ROLE p.unit r, r), (F.LAS_BIAS_BIAS p.unit r, c), (F.LAS_BIAS_COMM_BIAS p.unit r, c)]).startsRunning
        b phoRestoreDef p o)) ∧
  (∀ (t : Tile) (u : Fin 2) (e : Nat × Subst) (s : State), (s.ph t.val).subst.find? (fun e => e.2.target == 6 + u.val && !e.2.restore) = some e →
    s.f (F.LAS_STAT_STATE t.val (6 + u.val)) = 1 →
    (let v := s.setFs [(F.LAS_STAT_STATE t.val (6 + u.val), 2), (F.FADE_STAT_STAGE t.val e.1, 5)];
      exec (.substituteLocked t u) s = .next
        (if e.1 < 3 then v.tendMap (3 * t.val + e.1) else if 4 ≤ e.1 then v.readyLine t.val e.1 else v)) ∧
    exec (.substituteLockTimeout t u) s = .next (((((s.updPh t.val (fun p => { p with subst := Map.del e.1 p.subst })).setFs
      [(subFor t.val (6 + u.val), 6), (F.LAS_STAT_STATE t.val (6 + u.val), 4), (F.LAS_STAT_ROLE t.val (6 + u.val), 7)]).note 0x2 .subFailed 3 (tgtTile t.val) (6 + u.val)).raise
        t.val 7).claimSub t.val e.1 e.2.run)) ∧
  (∀ (t : Tile) (u : Fin 2) (s : State), (s.ph t.val).subst.find? (fun e => e.2.target == 6 + u.val && !e.2.restore) = none →
    exec (.substituteLocked t u) s = .next s ∧ exec (.substituteLockTimeout t u) s = .next s) ∧
  (∀ (t : Tile) (r : Fin 6) (i : Fin 64) (lock : Bool) (x : Subst) (rest : List Nat) (s : State), Map.find r.val (s.ph t.val).subst = some x → x.todo = i.val :: rest →
    s.f (F.FADE_STAT_STAGE t.val r.val) = 5 →
    let p := 3 * t.val + r.val
    (∀ z : State,
      let src := if x.restore then r.val else x.target
      let y : Subst := { x with todo := rest, tried := false, held := false }
      let z1 := z.updPh t.val (fun q => { q with source := Map.set r.val q.source (r.val * 64 + i.val) src, subst := Map.put r.val y q.subst })
      z.unitMoved t.val r.val x i.val = if rest = [] then z1.substDone t.val r.val x else z1) ∧
    (r.val ≠ 3 → exec (.laneSourceMoved t r i false) s = .next s) ∧
    (r.val < 3 → s.linkKeeps p = false → exec (.laneSourceMoved t r i true) s = .next (s.unitMoved t.val r.val x i.val)) ∧
    (r.val < 3 → s.linkUp p = true → (s.link p).laneset = none → s.laneRunOn p = false → i.val ≠ 16 →
      let s1 := s.outFirst p
      (s1.mapLanes p).contains i.val = false → (s1.link p).verified i.val = some true →
      let s2 := s1.updLink p (fun l => { l with
        away := l.away &&& (0x1FFFF ^^^ 2 ^ i.val), back := if l.away.testBit i.val then l.back ||| 2 ^ i.val else l.back, verify := Map.del i.val l.verify })
      exec (.laneSourceMoved t r i true) s = .next ((s2.unitMoved t.val r.val x i.val).tendMap p)) ∧
    (r.val = 3 → s.runBars t.val 3 = false → exec (.laneSourceMoved t r i lock) s =
      .next ((s.updPh t.val (fun q => { q with quiet := Map.put i.val (s.crownMap.slot + 2) q.quiet })).unitMoved t.val 3 x i.val)) ∧
    (4 ≤ r.val → s.runBars t.val r.val = false → x.held = true → 32 ≤ i.val → exec (.laneSourceMoved t r i true) s =
      .next ((((s.updOme t.val (fun o => { o with reacqReq := true })).unitMoved t.val r.val x i.val).readyLine t.val r.val).passBoundary t.val))) ∧
  (∀ (t : Tile) (c : Fin 8) (x : Subst) (fade : BitVec 12) (s : State), c.val < 6 → s.f (F.LAS_STAT_STATE t.val c.val) = 1 →
    Map.find c.val (s.ph t.val).subst = some x → x.restore = true →
    (fade.toNat < 100 → exec (.combStart t c ⟨true, fade⟩) s =
      .next ((s.setFs [(F.LAS_STAT_STATE t.val c.val, 2), (F.LAS_STAT_ROLE t.val c.val, c.val)]).startMoves t.val c.val)) ∧
    (∀ id locked, locked = false ∨ 100 ≤ fade.toNat → x.run = some id → exec (.combStart t c ⟨locked, fade⟩) s =
      .next (((s.darkComb t.val c.val).updPh t.val (fun p => { p with subst := Map.del c.val p.subst })).finish id stState 0)))

/-- Where the Timetable sends every burst. (R191, R192, R193) -/
def Obligations.TimetableRoutes : Prop :=
  (∀ x p n, x < 48 → p < 16 → destOf x p n < 48 ∧ destOf x p n ≠ x ∧ sourceTile (destOf x p n) p n = x) ∧
  (∀ x y p n, x < 48 → y < 48 → p < 16 → (destOf x p n = y ↔ (n % 3, p) ∈ pairSlots x y)) ∧
  (∀ s : State, s.crownMap.started = false →
    exec .crownStartPulse s = .next { s with crownMap := { s.crownMap with started := true, slot := 0 } } ∧ ∀ offers, exec (.crownSlot offers) s = .next s) ∧
  (∀ s : State, s.crownMap.started = true → exec .crownStartPulse s = .next s ∧
    ∀ offers, ∃ t : State, exec (.crownSlot offers) s = .next t ∧ t.crownMap = { s.crownMap with slot := s.crownMap.slot + 1 } ∧ t.bell = s.bell ∧
      t.report = s.report ∧ t.faults = s.faults ∧ s.keepsMemory t)

/-- A cell on the wire gives back the cell. (R195, R196) -/
def Obligations.CellsRoundTrip : Prop :=
  (∀ (c : Cell) (a : Eack) (busy : Bool), c.ctype < 8 → c.cvc < 4 → c.orig < 64 → c.final < 64 → c.eseq < 1024 → c.payload.length ≤ 232 → a.eack < 1024 →
    (c.bytes a busy).length = 240 ∧
    Cell.parse (c.bytes a busy) = (if c.ctype ≤ 2 ∧ c.cvc ≠ 3 ∧ c.orig ≠ c.final ∧ c.orig < 48 ∧ c.final < 48 then some (c, a, busy) else none)) ∧
  (∀ (x y p pad : Nat) (cells : List Cell) (s : State), cells.length ≤ 3 →
    ∃ body, body.length = 768 ∧ (s.launch x y p pad cells).out = .burst x y p body :: s.out)

/-- What a tile sends and takes over the Crown. (R192, R195, R196, R197, R198, R199, R200, R202, R203, R204) -/
def Obligations.CrownTraffic : Prop :=
  (∀ (x p : Nat) (s : State), s.mayTransmit x p = false ∨ s.planeDead x (destOf x p s.crownMap.slot) p = true ∨ s.asleep (destOf x p s.crownMap.slot) = true →
    s.planeSlot x p = s) ∧
  (∀ (x p : Nat) (cells : List Cell) (s s1 : State), let y := destOf x p s.crownMap.slot
    s.mayTransmit x p = true → s.planeDead x y p = false → s.asleep y = false → s.probing x = false → s.probing y = false → s.f (F.CROWN_STAT_STATE y) ≠ 1 → s.cellsTo x y 3 = (cells, s1) → s1.f (F.CROWN_CTL_RELAY_EN x) = 0 → cells ≠ [] →
    s.planeSlot x p = s1.launch x y p 0 cells) ∧
  (∀ (x p : Nat) (s : State), let y := destOf x p s.crownMap.slot
    s.mayTransmit x p = true → s.planeDead x y p = false → s.asleep y = false → s.probing x = true ∨ s.probing y = true → s.planeSlot x p = s.launch x y p 2 []) ∧
  (∀ (t a : Nat) (s : State), s.f (F.CROWN_STAT_STATE t) = 1 → (s.cr t).align = some a → s.startTrace1 t = false → (s.bl t).traceCrown = false → s.canonical →
    (s.crownMap.slot < a → s.alignStep t = s) ∧ (a ≤ s.crownMap.slot → (s.alignStep t).f (F.CROWN_STAT_STATE t) = 2 ∧ s.keepsRegs (s.alignStep t) [R.CROWN_STAT t])) ∧
  (∀ (t : Tile) (p : Fin 16) (lock : Bool) (body : List Byte) (s : State),
    (s.crownMap.started = false ∨ s.f (F.CROWN_STAT_STATE t.val) = 0 ∨ (s.f (F.CROWN_DEAD_RX_DEAD t.val)).testBit p.val = true →
      exec (.crownBurstReceive t p lock body) s = .next s) ∧
    (s.crownMap.started = true → s.f (F.CROWN_STAT_STATE t.val) ≠ 0 → (s.f (F.CROWN_DEAD_RX_DEAD t.val)).testBit p.val = false →
      exec (.crownBurstReceive t p false body) s = .next (s.bump (F.CROWN_CNT_PRE_FAIL t.val)) ∧
      (body.length = 768 → exec (.crownBurstReceive t p true body) s = .next (((s.updCr t.val (fun c => { c with
        cache := Map.put (sourceTile t.val p.val s.crownMap.slot * 16 + p.val) s.crownMap.slot c.cache })).bump (F.CROWN_CNT_BURST t.val)).each [0, 1, 2] (fun s k =>
        s.takePosition (sourceTile t.val p.val s.crownMap.slot) t.val p.val k ((body.drop (256 * k)).take 256))))) ∧
    (∀ x k cw, rsDecode (fun b => cellCrcOk (b.take 240)) cw = none → s.takePosition x t.val p.val k cw = (s.countDrop t.val).bump (F.CROWN_PLANE_UNCORR t.val p.val))) ∧
  (∀ (t : Nat) (c : Cell) (s : State), let r := s.rxFlow t c.orig c.cvc
    ((s.cr t).stale.contains c = true → s.takeCell t c = s.updCr t (fun x => { x with stale := x.stale.erase c })) ∧
    ((s.cr t).stale.contains c = false → c.eseq = r.next → r.next < 1024 → r.held = [] → s.viaBrim t c.orig = false → c.cvc < 4 →
      (s.takeCell t c).out = .engine t c.payload :: s.out ∧
      (s.takeCell t c).rxFlow t c.orig c.cvc = { r with next := (r.next + 1) % 1024, held := [], acked := true, changed := true, since := s.crownMap.slot, enakAt := none } ∧
      (s.takeCell t c).regs = s.regs ∧ s.keepsMemory (s.takeCell t c)) ∧
    ((s.cr t).stale.contains c = false → 256 ≤ (c.eseq + 1024 - r.next) % 1024 ∨ r.held.any (fun x => x.eseq == c.eseq) = true → s.takeCell t c = s) ∧
    ((s.cr t).relay.length < 8192 → s.takeRelay t c = (s.updCr t (fun x => { x with relay := x.relay ++ [c] })).syncRelay t) ∧
    (8192 ≤ (s.cr t).relay.length → s.takeRelay t c = s.bump (F.CROWN_RELAY_STAT_DROP t))) ∧
  (∀ (t o : Tile) (vc : Fin 3) (s : State),
    let r := s.rxFlow t.val o.val vc.val
    let f := s.txFlow t.val o.val vc.val
    let hold := s.f (F.CROWN_CTL_HOLD t.val)
    let rto := s.f (F.CROWN_CTL_RTO t.val)
    (r.held = [] ∨ s.slotsPast r.since hold = false ∨ (∃ a, r.enakAt = some a ∧ s.slotsPast a hold = false) → exec (.crownHoldExpiry t o vc) s = .next s) ∧
    (r.held ≠ [] → s.slotsPast r.since hold = true → (∀ a, r.enakAt = some a → s.slotsPast a hold = true) → s.viaBrim t.val o.val = false →
      exec (.crownHoldExpiry t o vc) s = .next (s.updRx t.val o.val vc.val (fun r => { r with enak := true, changed := true, enakAt := some s.crownMap.slot }))) ∧
    (f.unacked = [] ∨ s.slotsPast f.since rto = false → exec (.crownRtoExpiry t o vc) s = .next s) ∧
    (f.unacked ≠ [] → s.slotsPast f.since rto = true → s.viaBrim t.val o.val = false →
      exec (.crownRtoExpiry t o vc) s = .next (s.updTx t.val o.val vc.val (fun f => { f with resend := true })))) ∧
  (∀ (t d : Tile) (ps : Nat × Nat) (s : State), (pairSlots t.val d.val).find? (fun ps => ps.1 == s.crownMap.slot % 3 && s.mayTransmit t.val ps.2 && !s.planeDead t.val d.val ps.2) = some ps →
    s.crownMap.started = true → s.asleep d.val = false → Map.get 0 (s.cr t.val).last d.val + 192 ≤ s.crownMap.slot →
    exec (.crownProbeDue t d) s = .next (s.launch t.val d.val ps.2 2 [])) ∧
  (∀ (t : Tile) (tx rx : BitVec 16) (a : Bool) (s : State), s.canonical → s.dueMarks t.val = (0, 0) → s.dozing t.val = false →
    ∃ u : State, exec (.crownDeadMapUpdate t tx rx a) s = .next u ∧ u.f (F.CROWN_DEAD_TX_DEAD t.val) = tx.toNat ∧ u.f (F.CROWN_DEAD_RX_DEAD t.val) = rx.toNat ∧
      u.asleep t.val = a ∧ u.f (F.CROWN_STAT_ASLEEP t.val) = (if a then 1 else 0) ∧ ∀ k : Tile, k ≠ t → u.asleep k.val = s.asleep k.val)

/-- Frames, fences and tests of a Brim link. (R31, R206, R207, R209, R210, R211) -/
def Obligations.BrimLinks : Prop :=
  (∀ (t : Tile) (e : Fin 2) (bytes : List Byte) (ce ue : BitVec 8) (s : State),
    (s.f (F.BRIM_STAT_STATE t.val e.val) ≠ 2 ∨ (s.br t.val e.val).testing = true → exec (.brimFrameReceive t e bytes ce ue) s = .next s) ∧
    (s.f (F.BRIM_STAT_STATE t.val e.val) = 2 → (s.br t.val e.val).testing = false →
      let s1 := (s.bump (F.BRIM_CE t.val e.val) ce.toNat).bump (F.BRIM_UE t.val e.val) ue.toNat
      (ue = 0 → bytes.length = 256 → exec (.brimFrameReceive t e bytes ce ue) s = .next (s1.takeFrame t.val e.val bytes)) ∧
      (ue ≠ 0 → ∃ frame u, exec (.brimFrameReceive t e bytes ce ue) s = .next u ∧ u.out = .frame t.val e.val frame :: s.out ∧ frame.length = 256 ∧
        (leAt frame 0 16).testBit 24 = true ∧ s.keepsRegs u [R.BRIM_CE t.val e.val, R.BRIM_UE t.val e.val] ∧ s.keepsMemory u))) ∧
  (∀ (t : Tile) (e : Fin 2) (s : State), s.f (F.BRIM_STAT_STATE t.val e.val) = 2 →
    let n := (s.br t.val e.val).ueTimes.countP (fun b => s.bell < b + s.f (F.BRIM_CTL_UE_WIN t.val e.val) * 1000000)
    (n ≤ s.ueLimit t.val e.val → exec (.brimUeLimit t e) s = .next s) ∧
    (s.ueLimit t.val e.val < n → exec (.brimUeLimit t e) s = .next ((s.fenceBrim t.val e.val false).policyNote (tgtTile t.val)))) ∧
  (∀ (p : Packet) (o : Nat) (s : State), s.accepts brimFenceDef p o → let b := s.begun p
    (b.f (F.BRIM_STAT_STATE p.unit (p.w 0)) = 3 → exec (.brimFence p) s = .next (b.replies p [])) ∧
    (b.f (F.BRIM_STAT_STATE p.unit (p.w 0)) ≠ 3 → ∃ u : State, u = b.fenceBrim p.unit (p.w 0) true ∧
      exec (.brimFence p) s = .next (u.conclude 0x260 o true p stOk 0 [] (paramChange p) (undoOf b u)))) ∧
  (∀ (t e u d : Nat) (c : Bool) (s : State), brimPeer t e = some (u, d) → s.canonical → t < 48 → e < 2 →
    let f := s.fenceBrim t e c
    f.f (F.BRIM_STAT_STATE t e) = 3 ∧ f.f (F.BRIM_STAT_STATE u d) = 3 ∧ f.f (F.BRIM_STAT_BY_CMD t e) = (if c then 1 else 0) ∧ brimPeer u d = some (t, e)) ∧
  (∀ (p : Packet) (o u d : Nat) (s : State), s.accepts brimUnfenceDef p o → brimPeer p.unit (p.w 0) = some (u, d) →
    let b := s.begun p
    ∃ t : State, exec (.brimUnfence p) s = .next t ∧ (t.br p.unit (p.w 0)).testing = true ∧ (t.br p.unit (p.w 0)).testRun = some b.proctor.nextId ∧
      (t.br u d).testing = true ∧ b.runsOn t p o 0x261 ∧
      t.regs = b.regs ∧ b.keepsMemory t) ∧
  (∀ (t : Tile) (e : Fin 2) (ue ce fue fce : BitVec 16) (id u d : Nat) (s : State), s.canonical → (s.br t.val e.val).testRun = some id →
    brimPeer t.val e.val = some (u, d) →
    (ue.toNat = 0 → fue.toNat = 0 → ce.toNat ≤ 16 → fce.toNat ≤ 16 → ∃ (v w : State) (z : Undo), exec (.brimTestDone t e ue ce fue fce) s = .next v ∧ v = w.finishParam id stOk 0 [] z ∧
      v.f (F.BRIM_STAT_STATE t.val e.val) = 2 ∧ v.f (F.BRIM_STAT_STATE u d) = 2) ∧
    (0 < ue.toNat → fue.toNat ≤ ue.toNat → (fue = ue → fce.toNat ≤ ce.toNat) → ∃ w : State, exec (.brimTestDone t e ue ce fue fce) s =
      .next (w.finish id 0x8260 (ue.toNat + ce.toNat * 65536)) ∧ w.f (F.BRIM_STAT_STATE t.val e.val) = s.f (F.BRIM_STAT_STATE t.val e.val) ∧
      w.f (F.BRIM_STAT_TEST_FAILS t.val e.val) = min 3 ((s.testFails t.val e.val).length + 1))) ∧
  (∀ (t : Tile) (s : State), s.f (F.OME_STAT_STATE t.val) = 8 ∨ s.f (F.FSTATE_STATE t.val) = 4 → exec (.stentStandinMove t) s = .next (s.moveDuties t.val))

/-- Opening, closing and querying streams. (R223, R224, R227, R229, R230, R235, R236, R238, R437) -/
def Obligations.StreamLifecycle : Prop :=
  (∀ (p : Packet) (o home : Nat) (s : State), s.accepts streamOpenDef p o → (s.begun p).mirrors = false → (s.begun p).twin.want = none →
    let b := s.begun p
    let homes := if p.w 2 ≠ 0xFF then [p.w 2] else b.homeTiles.filter (fun t => !b.homeFailed t)
    let alt := if p.w 3 / 256 % 256 ≠ 255 then some (p.w 3 / 256 % 256) else b.autoAlt (openPri p) (openNode p o)
    (b.autoHome (openPri p) homes = some home → (∃ i, i < slotsPerTile ∧ b.stream (slotKey home i) = none) → home < 64 →
      ∃ u slot, exec (.streamOpen p) s = .next (u.replies p (leBytes 4 (u.handleOf (slotKey home slot)) ++ leBytes 1 home ++ leBytes 1 (openPri p) ++ leBytes 1 (alt.getD 255) ++ [0])) ∧
        slot < slotsPerTile ∧ b.stream (slotKey home slot) = none ∧ u.stream (slotKey home slot) = some (newStream p (openNode p o) (openPri p) alt b.bell) ∧
        (∀ k, k ≠ slotKey home slot → u.stream k = b.stream k) ∧ b.keepsRegs u logRegs ∧ b.keepsMemory u) ∧
    (b.autoHome (openPri p) homes = none → b.reclaimPick homes = none →
      let r := (b.bump (F.STRM_CNT_FULL (portTile (openPri p)))).place p stTableFull (if p.w 2 ≠ 0xFF then slotsPerTile else slotsPerTile * b.homeTiles.length) []
      exec (.streamOpen p) s = .next (r.1.postFinal p.path r.2))) ∧
  (∀ (p : Packet) (o key : Nat) (c : Stream) (s : State), s.accepts streamCloseDef p o →
    (s.begun p).liveKey (p.w 0) = some key → (s.begun p).stream key = some c →
    let b := s.begun p
    (p.w 1 = 1 ∨ c.state = .faulted → ∃ u : State, u = (b.closeStream key 0).pumpStreams ∧ exec (.streamClose p) s = .next (u.conclude 0x601 o false p stOk 0 [] [] (undoOf b u))) ∧
    (p.w 1 = 0 → c.state ≠ .faulted → ∃ t : State, exec (.streamClose p) s = .next t ∧
      t.stream key = some { c with state := .closing, stateAt := (if c.state = .closing then c.stateAt else b.bell), closeRuns := c.closeRuns ++ [b.proctor.nextId] } ∧
      b.runsOn t p o 0x601 ∧ t.regs = b.regs ∧ b.keepsMemory t)) ∧
  (∀ (p : Packet) (o key : Nat) (c : Stream) (s : State), s.accepts streamQueryDef p o → (s.begun p).liveKey (p.w 0) = some key → (s.begun p).stream key = some c →
    exec (.streamQuery p) s = .next ((s.begun p).replies p ((s.begun p).streamRecord key c)) ∧ ((s.begun p).streamRecord key c).length = 32) ∧
  (∀ (h : BitVec 32) (key : Nat) (c : Stream) (s : State), s.liveKey h.toNat = some key → s.stream key = some c →
    let t := s.homeServer (key / 2 ^ 15)
    let drained := s.allAcked key = true ∧ c.waiting = [] ∧ s.pool.held.any (fun x => x.stream == some key) = false
    (c.state = .closing → drained ∨ c.stateAt + 100000 ≤ s.bell → exec (.streamCloseDrained h) s = .next (s.closeStream key 0).pumpStreams) ∧
    (c.state ≠ .closing ∨ (¬ drained ∧ s.bell < c.stateAt + 100000) → exec (.streamCloseDrained h) s = .next s) ∧
    (c.stateAt + s.f (F.STRM_CTL_SUSPEND_TMO t) * 1000000 ≤ s.bell →
      (c.state = .suspended → exec (.streamSuspendTimeout h) s = .next (((s.closeStream key 3).note 0x6 .streamSuspend 2 (tgtTile t)).pumpStreams)) ∧
      (c.state = .faulted → exec (.streamSuspendTimeout h) s = .next ((s.freeSlot key).streamGone key))) ∧
    (s.bell < c.stateAt + s.f (F.STRM_CTL_SUSPEND_TMO t) * 1000000 → exec (.streamSuspendTimeout h) s = .next s) ∧
    (c.state = .onAlt → s.upTo c.pri c.epNode = true → (s.link c.pri).upSince + s.f (F.STRM_CTL_RETURN_HOLD t) * 100000 ≤ s.bell →
      let s1 := s.updStream key (fun c => { c with returning := true })
      exec (.streamReturnHold h) s = .next (if s1.linkClear key then (s1.updStream key (fun c => { c with state := .open_, returning := false })).flushHeldTx key else s1))) ∧
  (∀ (key : Nat) (s : State), s.mirrors = false → Map.rising s.streams.slots = true →
    ∀ h, handleKey h = key → (s.freeSlot key).liveKey h = none ∧ ∀ k, k ≠ key → (s.freeSlot key).stream k = s.stream k) ∧
  (∀ (v : Via) (s : State), (s.linkUp v.code = true → exec (.closeNoticeDeliver v) s = .next (s.flushNotices v.code (s.farOf v.code))) ∧
    (s.linkUp v.code = false → exec (.closeNoticeDeliver v) s = .next s)) ∧
  (∀ (p : Packet) (o : Nat) (s : State), (s.begun p).mirrors = false → let b := s.begun p
    (s.accepts reserveReleaseDef p o → b.f (F.TILE_ROLE_RELEASED p.unit) = 1 → exec (.streamReserveRelease p) s = .next (b.replies p [])) ∧
    (s.accepts reserveReleaseDef p o → b.f (F.TILE_ROLE_RELEASED p.unit) = 0 → ∃ (u : State) (ch : List JChange), ch ≠ [] ∧ u = ((b.setF (F.TILE_ROLE_RELEASED p.unit) 1).omeStart p.unit).rewriteDist ∧
      exec (.streamReserveRelease p) s = .next (u.conclude 0x620 o true p stOk 0 [] ch (undoOf b u)) ∧ (s.canonical → u.f (F.TILE_ROLE_RELEASED p.unit) = 1)) ∧
    (s.accepts reserveReturnDef p o → b.f (F.TILE_ROLE_RELEASED p.unit) = 0 → b.f (F.TILE_ROLE_STANDIN p.unit) = 0 → exec (.streamReserveReturn p) s = .next (b.replies p [])) ∧
    (s.accepts reserveReturnDef p o → b.f (F.TILE_ROLE_RELEASED p.unit) = 1 ∨ b.f (F.TILE_ROLE_STANDIN p.unit) = 1 → ∃ (u : State) (ch : List JChange), ch ≠ [] ∧
      exec (.streamReserveReturn p) s = .next (u.conclude 0x621 o true p stOk 0 [] ch (undoOf b u)) ∧ (s.canonical → u.f (F.TILE_ROLE_RELEASED p.unit) = 0)))

/-- What a stream's transport units do. (R221, R222, R226, R231, R232, R233, R234, R437) -/
def Obligations.StreamUnits : Prop :=
  (∀ (v : Via) (bytes : List Byte) (ecc : Ecc) (s s1 : State) (vc : Nat), s.popRx v.code vc (fitBytes 232 bytes) = some s1 →
    let tu := Tu.parse bytes
    (vc = 0 → tu.type = 1 → exec (.streamData v bytes) s = .next ((s1.acceptTu v.code tu).takeMisplaced v.code bytes 1)) ∧
    (vc = 0 → tu.type ∉ [1, 2, 3, 6, 9, 0xA, 0x10, 0x11, 0x12, 0x20] → exec (.streamData v bytes) s = .next ((s1.badTu tu.stream).takeMisplaced v.code bytes 1)) ∧
    (vc = 0 → tu.type = 2 → exec (.memRead v bytes ecc) s = .next ((s1.eccAt tu.addr tu.aux ecc).acceptTu v.code tu)) ∧
    (vc = 0 → tu.type = 3 → exec (.memWrite v bytes) s = .next (s1.acceptTu v.code tu)) ∧
    (vc = 1 → tu.type = 6 → exec (.credit v bytes) s = .next (s1.takeCredit v.code tu))) ∧
  (∀ (p key : Nat) (tu : Tu) (c : Stream) (s : State), s.tuStream p tu = .ok (key, c) →
    let t := s.homeServer (key / 2 ^ 15)
    let d := (tu.tsn + 2 ^ 32 - c.rx0) % 2 ^ 32
    let req := tu.type = 2 ∨ tu.type = 3
    (c.state = .faulted → s.acceptTu p tu = s) ∧
    (c.state ≠ .faulted → 2 ^ 31 ≤ d → s.acceptTu p tu = s.bump (F.STRM_CNT_DUP t)) ∧
    (c.state ≠ .faulted → 0 < d → d < 2 ^ 31 → s.acceptTu p tu = (s.faultStream key).streamGone key) ∧
    (c.state ≠ .faulted → d = 0 → (req ∧ c.reqCredits ≤ (c.reqs + 2 ^ 32 - c.executed) % 2 ^ 32) ∨ (¬ req ∧ c.rxSlots ≤ c.dataUsed) →
      s.acceptTu p tu = ((s.bump (F.STRM_CNT_BAD t)).faultStream key).streamGone key) ∧
    (c.state ≠ .faulted → d = 0 → req → (c.reqs + 2 ^ 32 - c.executed) % 2 ^ 32 < c.reqCredits → s.acceptTu p tu = (s.updStream key (fun c =>
      { c with rx0 := (c.rx0 + 1) % 2 ^ 32, lastTu := s.bell, waiting := c.waiting ++ [tu], reqs := (c.reqs + 1) % 2 ^ 32 })).pumpStream key) ∧
    (c.state ≠ .faulted → d = 0 → ¬ req → c.dataUsed < c.rxSlots → s.acceptTu p tu = (s.updStream key (fun c =>
      { c with rx0 := (c.rx0 + 1) % 2 ^ 32, lastTu := s.bell, waiting := c.waiting ++ [tu], written := (c.written + 1) % 2 ^ 32 })).pumpStream key) ∧
    (∀ e, e = (tu.aux + 2 ^ 32 - c.epFreed) % 2 ^ 32 → e = 0 ∨ 2 ^ 31 ≤ e → s.takeCredit p tu = s.updStream key (fun c => { c with lastTu := s.bell }))) ∧
  (∀ (t : Nat) (tu : Tu) (s : State), tu.type = 2 →
    (208 < tu.aux → s.memRead t tu = (stParam, [], s)) ∧
    (tu.aux ≤ 208 → addrValid tu.addr = false ∨ (s.ownNode (addrNode tu.addr) = false ∧ s.foreign tu.addr = false) → s.memRead t tu = (stNotFound, [], s)) ∧
    (tu.aux ≤ 208 → addrValid tu.addr = true → s.ownNode (addrNode tu.addr) = true → ∀ e s1, s.lookup t (addrIndex tu.addr) = (some e, s1) →
      (e.kind = .unmapped → s.memRead t tu = (stNotFound, [], s1)) ∧
      (e.kind ≠ .unmapped → 2 ^ 21 < addrByte tu.addr + tu.aux → s.memRead t tu = (stParam, [], s1)) ∧
      (e.kind = .local_ → addrByte tu.addr + tu.aux ≤ 2 ^ 21 →
        let key := dramKey e.tile e.frame (addrByte tu.addr)
        (tu.aux = 0 → s.memRead t tu = (stOkEmpty, [], s1)) ∧
        (0 < tu.aux → s1.memDown e.tile = true ∨ (linesOf key tu.aux).any s1.poisoned = true → s.memRead t tu = (stFault, [], s1)) ∧
        (0 < tu.aux → s1.memDown e.tile = false → (linesOf key tu.aux).any s1.poisoned = false → s.memRead t tu = (stOk, Memory.read s.dram key tu.aux, s1))))) ∧
  (∀ (key t mt a : Nat) (tu : Tu) (e : FamEntry) (s s1 : State), s.canonical → s.resolve t tu.addr tu.data.length true = (.at_ mt a e, s1) → tu.data ≠ [] → e.migrating = false →
    s1.memDown e.tile = false → s1.gated e.tile = false → (linesOf a tu.data.length).any s1.poisoned = false →
    let u := s.pumpWrite key t tu none
    Memory.read u.dram a tu.data.length = tu.data ∧ (∀ b, b < a ∨ a + tu.data.length ≤ b → Memory.byte u.dram b = Memory.byte s.dram b) ∧ u.host = s.host ∧ u.sq = s.sq) ∧
  (∀ (src : BusSrc) (t : Tile) (v : BitVec 32) (s : State), exec (.strmRingHeadWrite src t v) s = .next (s.busWrite src (R.STRM_RING_HEAD t.val) v)) ∧
  (∀ (h : BitVec 32) (key : Nat) (c : Stream) (s : State), s.liveKey h.toNat = some key → s.stream key = some c → c.state ≠ .faulted →
    (c.unreported = 0 → exec (.creditReportDue h) s = .next s) ∧ (c.unreported ≠ 0 → exec (.creditReportDue h) s = .next (s.sendCredit key)))

/-- The Fabric Address Map and its caches. (R212, R214, R215, R217, R218, R239) -/
def Obligations.AddressMap : Prop :=
  (∀ (p : Packet) (o : Nat) (s : State), s.accepts famMapDef p o → Map.rising (s.begun p).pool.fam = true →
    let b := s.begun p
    let e := b.famEntry (p.w 0)
    ∃ t : State, exec (.famMap p) s = .next t ∧ t.famEntry (p.w 0) = { mapEntry p with gen := (e.gen + 1) % 65536 } ∧ (∀ i, i ≠ p.w 0 → t.famEntry i = b.famEntry i) ∧
      t.pool.invals = b.pool.invals ++ [{ base := p.w 0, count := 1, kind := .map, run := some b.proctor.nextId, old := some e.bytes }] ∧
      b.runsOn t p o 0x610 ∧ t.regs = b.regs ∧ b.keepsMemory t) ∧
  (∀ (p : Packet) (o : Nat) (s : State), s.accepts famReadDef p o →
    exec (.famRead p) s = .next ((s.begun p).replies p ((List.range (p.w 1)).flatMap (fun i => ((s.begun p).famEntry (p.w 0 + i)).bytes)))) ∧
  (∀ e : FamEntry, e.bytes.length = 16) ∧
  (∀ s : State, (s.pool.invals = [] → exec .famInvalidateDone s = .next s) ∧
    (∀ i rest, s.pool.invals = i :: rest → ∃ s1 : State, exec .famInvalidateDone s = .next (s1.invalDone i) ∧ s1.pool.invals = rest ∧ s1.pool.fam = s.pool.fam ∧ s1.regs = s.regs ∧
      ∀ x ∈ s1.pool.cache, ∀ y ∈ x.2, ¬ (i.base ≤ y.1 ∧ y.1 < i.base + i.count))) ∧
  (∀ (t : Tile) (i : BitVec 21) (s : State), ∃ u : State, exec (.famCacheMissFill t i) s = .next u ∧ s.keepsMemory u ∧ s.keepsRegs u [R.FAMC_CNT_HIT t.val, R.FAMC_CNT_MISS t.val] ∧
    (s.famUp = true → (u.lookup t.val i.toNat).1 = (s.lookup t.val i.toNat).1 ∧
      ((Map.get [] s.pool.cache (t.val * 4096 + i.toNat % 4096)).find? (fun x => x.1 == i.toNat) = none → (s.lookup t.val i.toNat).1 = some (s.famEntry i.toNat)))) ∧
  (∀ (c : Fin 2) (s : State), ∃ t u, exec (.famCopyLost c) s = .next t ∧ exec (.famCopyRebuilt c) s = .next u ∧
    t.pool.copyUp = (if c = 0 then (false, s.pool.copyUp.2) else (s.pool.copyUp.1, false)) ∧
    (s.memDown (if c = 0 then 1 else 25) = true → u = s) ∧
    (s.memDown (if c = 0 then 1 else 25) = false → u.pool.copyUp = (if c = 0 then (true, s.pool.copyUp.2) else (s.pool.copyUp.1, true))))

/-- Allocating, freeing and changing regions of the pool. (R242, R244, R245, R246, R247, R248, R250, R251) -/
def Obligations.MemoryRegions : Prop :=
  (∀ (p : Packet) (o : Nat) (s : State), s.accepts memAllocDef p o → (s.begun p).twin.want = none → p.w 5 / 2 % 2 = 0 →
    let b := s.begun p
    let base := if p.w 4 = 0xFFFFFFFF then (b.lowestRun (p.w 0)).getD 0 else p.w 4
    let tiles := poolTiles p 1
    (∃ n, n < 65536 ∧ (b.slot n).live = none) → ∃ (t : State) (n : Nat), exec (.memAlloc p) s = .next t ∧ n < 65536 ∧ (b.slot n).live = none ∧
      t.slot n = { gen := (b.slot n).gen, live := some { base := base, frames := p.w 0, ro := p.w 5 % 2 == 1, ready := false } } ∧
      (∀ f, f < p.w 0 → ∃ k, (b.chosen tiles (p.w 0))[f]? = some (tiles.getD (f % tiles.length) 0, k) ∧
        Map.find (frameKey (tiles.getD (f % tiles.length) 0) k) t.pool.used = some (.region n)) ∧
      t.pool.fam = b.pool.fam ∧ t.pool.zeroing = b.pool.zeroing ++ [(n, b.proctor.nextId)] ∧
      b.runsOn t p o 0x300 ∧ t.regs = b.regs ∧ b.keepsMemory t) ∧
  (∀ (slot : BitVec 16) (x : Nat × Nat) (r : Region) (s : State), s.canonical → Map.rising s.pool.fam = true →
    s.pool.zeroing.find? (fun x => x.1 == slot.toNat) = some x → (s.slot slot.toNat).live = some r →
    ∃ t : State, exec (.frameZeroed slot) s = .next t ∧
      (∀ e ∈ s.pool.used, e.2 = .region slot.toNat → ∀ a, a < 2 ^ 21 → Memory.byte t.dram (dramKey (e.1 / 2 ^ 17) (e.1 % 2 ^ 17) 0 + a) = 0) ∧
      (∀ a, (∀ e ∈ s.pool.used, e.2 = .region slot.toNat → a < dramKey (e.1 / 2 ^ 17) (e.1 % 2 ^ 17) 0 ∨ dramKey (e.1 / 2 ^ 17) (e.1 % 2 ^ 17) 0 + 2 ^ 21 ≤ a) →
        Memory.byte t.dram a = Memory.byte s.dram a) ∧
      (∀ i, i < r.frames → (t.famEntry (r.base + i)).kind = .local_ ∧ (t.famEntry (r.base + i)).ro = r.ro ∧ (t.famEntry (r.base + i)).region = s.regionHandle slot.toNat) ∧
      (∀ i, i < r.base ∨ r.base + r.frames ≤ i → t.famEntry i = s.famEntry i)) ∧
  (∀ (p : Packet) (o n : Nat) (r : Region) (s : State), Map.rising (s.begun p).pool.fam = true → (s.begun p).regionOf (p.w 0) = some (n, r) → let b := s.begun p
    (s.accepts memFreeDef p o → ∃ t : State, exec (.memFree p) s = .next t ∧ (∀ i, i < r.frames → (t.famEntry (r.base + i)).kind = .unmapped) ∧
      (∀ i, i < r.base ∨ r.base + r.frames ≤ i → t.famEntry i = b.famEntry i) ∧ t.regs = b.regs ∧ b.keepsMemory t ∧
      t.pool.invals = b.pool.invals ++ [{ base := r.base, count := r.frames, kind := .free n, run := some b.proctor.nextId, old := some (b.regionRecord n) }]) ∧
    (s.accepts memAttrDef p o → ∃ t : State, exec (.memAttr p) s = .next t ∧ (∀ i, i < r.frames → t.famEntry (r.base + i) =
        { b.famEntry (r.base + i) with ro := p.w 1 == 1, gen := ((b.famEntry (r.base + i)).gen + 1) % 65536 }) ∧
      (∀ i, i < r.base ∨ r.base + r.frames ≤ i → t.famEntry i = b.famEntry i) ∧ t.regs = b.regs ∧ b.keepsMemory t)) ∧
  (∀ (n : Nat) (i : Inval) (s : State), i.kind = .free n → Map.rising s.pool.regions = true →
    (s.invalDone i).slot n = { gen := ((s.slot n).gen + 1) % 65536, live := none } ∧ ∀ h, h % 65536 = n → (s.invalDone i).regionOf h = none) ∧
  (∀ (p : Packet) (o : Nat) (s : State),
    (s.accepts memQueryDef p o → exec (.memQuery p) s = .next ((s.begun p).replies p ((s.begun p).regionRecord (p.w 0 % 65536)))) ∧
    (s.accepts memPoolStatDef p o → exec (.memPoolStat p) s = .next ((s.begun p).replies p (allTiles.flatMap (fun t =>
      leBytes 4 ((s.begun p).poolStat t).1 ++ leBytes 4 ((s.begun p).poolStat t).2)))))

/-- Moving a region's frames. (R248, R252, R253, R254) -/
def Obligations.MemoryMigration : Prop :=
  (∀ (p : Packet) (o n : Nat) (r : Region) (s : State), s.accepts memMigrateDef p o → (s.begun p).regionOf (p.w 0) = some (n, r) →
    let b := s.begun p
    let plan := b.migPlan r (p.w 1) (p.w 2) (poolTiles p 3)
    (plan = [] → b.mirrors = false → exec (.memMigrate p) s = .next (b.replies p [])) ∧
    (plan ≠ [] → ∃ (t : State) (m : Migration), exec (.memMigrate p) s = .next t ∧ m ∈ t.pool.migs ∧ m.id = b.pool.nextMig ∧ m.slot = n ∧ m.done = 0 ∧
      m.todo.map (fun f => (f.index, f.dstTile)) = plan ∧ (∀ f ∈ m.todo, f.srcTile = (b.famEntry f.index).tile ∧ f.srcFrame = (b.famEntry f.index).frame ∧
        Map.find (frameKey f.dstTile f.dstFrame) t.pool.used = some (.reserved m.id)) ∧ t.pool.fam = b.pool.fam ∧
      b.runsOn t p o 0x302 ∧ t.regs = b.regs ∧ b.keepsMemory t)) ∧
  (∀ (t : Tile) (m : Migration) (f : MigFrame) (rest : List MigFrame) (s : State), s.canonical → Map.rising s.pool.fam = true → m.todo = f :: rest →
    (s.pool.migs.find? (fun m => decide (m.phase = .pass1) && (match m.todo with | f :: _ => f.srcTile == t.val | [] => false)) = some m →
      (s.famEntry f.index).migrating = false → s.sec.switch = none →
      let src := dramKey f.srcTile f.srcFrame 0
      let dst := dramKey f.dstTile f.dstFrame 0
      ∃ u : State, exec (.migratePass1Done t) s = .next u ∧ (∀ a, a < 2 ^ 21 → Memory.byte u.dram (dst + a) = Memory.byte s.dram (src + a)) ∧
        (∀ a, a < dst ∨ dst + 2 ^ 21 ≤ a → Memory.byte u.dram a = Memory.byte s.dram a) ∧
        u.famEntry f.index = { s.famEntry f.index with migrating := true, gen := ((s.famEntry f.index).gen + 1) % 65536 } ∧
        (∀ i, i ≠ f.index → u.famEntry i = s.famEntry i) ∧ u.pool.invals = s.pool.invals ++ [{ base := f.index, count := 1, kind := .migHold m.id, run := none }] ∧
        u.host = s.host ∧ u.sq = s.sq ∧ s.keepsRegs u ((allTiles.map R.MEM_POISON) ++ [R.MEM_POISON (dst / 2 ^ 40)] ++
          (s.pool.poison.map (fun l => R.MEM_POISON (l * 64 / 2 ^ 40))))) ∧
    (s.pool.migs.find? (fun m => decide (m.phase = .hold) && (match m.todo with | f :: _ => f.srcTile == t.val | [] => false)) = some m →
      (s.famEntry f.index).migrating = true →
      ∃ u : State, exec (.migrateFrameSwitch t) s = .next u ∧ u.famEntry f.index = { s.famEntry f.index with
          tier := m.tier, migrating := false, tile := f.dstTile, frame := f.dstFrame, gen := ((s.famEntry f.index).gen + 1) % 65536 } ∧
        (∀ i, i ≠ f.index → u.famEntry i = s.famEntry i) ∧ Map.find (frameKey f.dstTile f.dstFrame) u.pool.used = some (.region m.slot) ∧
        u.pool.invals = s.pool.invals ++ [{ base := f.index, count := 1, kind := .migSwitch m.id, run := none }]) ∧
    ((s.pool.migs.find? (fun m => decide (m.phase = .pass1) && (match m.todo with | f :: _ => f.srcTile == t.val | [] => false)) = none →
      exec (.migratePass1Done t) s = .next s) ∧
      (s.pool.migs.find? (fun m => decide (m.phase = .hold) && (match m.todo with | f :: _ => f.srcTile == t.val | [] => false)) = none →
        exec (.migrateFrameSwitch t) s = .next s)))

/-- Poisoned lines, the scrub and memory that is out of reach. (R256, R257, R258, R407) -/
def Obligations.MemoryHealth : Prop :=
  (∀ (line : Nat) (s : State), (s.poisoned line = true → s.poisonLine line = s) ∧
    (s.poisoned line = false → (s.poisonLine line).poisoned line = true ∧ s.keepsMemory (s.poisonLine line) ∧
      let t := line * 64 / 2 ^ 40
      s.poisonLine line = (((((s.updPool (fun p => { p with poison := line :: p.poison })).bump (F.MEM_UE t)).bump (F.MEM_POISON t)).note 0x3 .poison 3 (tgtTile t))).raise t 26)) ∧
  (∀ (t key : Nat) (bs : List Byte) (s : State), bs ≠ [] →
    (s.memDown t = true → s.store t key bs = .error stFault) ∧
    (s.memDown t = false → s.gated t = true → s.store t key bs = .ok s) ∧
    (s.memDown t = false → s.gated t = false →
      ((∃ l ∈ linesOf key bs.length, s.poisoned l = true ∧ (l * 64 < key ∨ key + bs.length < l * 64 + 64)) → s.store t key bs = .error stFault) ∧
      ((∀ l ∈ linesOf key bs.length, s.poisoned l = true → key ≤ l * 64 ∧ l * 64 + 64 ≤ key + bs.length) → s.canonical → s.pool.poison.Nodup →
        ∃ u : State, s.store t key bs = .ok u ∧ Memory.read u.dram key bs.length = bs ∧ (∀ a, a < key ∨ key + bs.length ≤ a → Memory.byte u.dram a = Memory.byte s.dram a) ∧
          ∀ l ∈ linesOf key bs.length, u.poisoned l = false))) ∧
  (∀ (t : Tile) (ecc : Ecc) (s : State),
    (s.f (F.MEM_CTL_SCRUB_HOURS t.val) = 0 ∨ s.f (F.MEM_STAT_STATE t.val) ≠ 2 → exec (.patrolScrubStep t ecc) s = .next s) ∧
    (s.f (F.MEM_CTL_SCRUB_HOURS t.val) ≠ 0 → s.f (F.MEM_STAT_STATE t.val) = 2 → s.pool.migs = [] → s.canonical → Map.rising s.pool.scrubHi = true →
      ∃ u : State, exec (.patrolScrubStep t ecc) s = .next u ∧ u.scrubLine t.val = (s.scrubLine t.val + 1) % lineCount t.val ∧ s.keepsMemory u ∧
        (ecc = .clean → s.keepsRegs u [R.MEM_SCRUB_POS t.val]))) ∧
  (∀ (t : Tile) (s : State),
    exec (.memoryUnavailable t) s = .next ((s.memUnavailable t.val).rewriteDist.pumpStreams) ∧
    (s.f (F.MEM_STAT_STATE t.val) = 0 ∨ s.f (F.MEM_STAT_STATE t.val) = 4 → s.memUnavailable t.val = s) ∧
    (s.f (F.MEM_STAT_STATE t.val) ≠ 4 → exec (.memoryReturn t) s = .next s) ∧
    (s.f (F.MEM_STAT_STATE t.val) = 4 → exec (.memoryReturn t) s = .next ((s.memReturn t.val).rewriteDist.pumpStreams) ∧
      (s.gated t.val = true ∨ (s.fence (t.val * 64 + 27)).on = true ∨ (s.fence (t.val * 64 + 39)).on = true ∨ (s.th t.val).memTrip = true ∨
        s.f (F.TILE_TEST_STAT_MEM_OUT t.val) = 1 → s.memReturn t.val = s) ∧
      (s.memBarred t.val = false → s.canonical → isReserve t.val = false → (s.memReturn t.val).f (F.MEM_STAT_STATE t.val) = 2 ∧ (s.memReturn t.val).memDown t.val = false)))

/-- Blocks, readings and binary32 sums of the engine. (R272, R274, R275, R276, R325) -/
def Obligations.NumberFormats : Prop :=
  (∀ x : List Sys2Proof.Machine.Num, x.length = 32 → let b := convertBlock x
    b.hi.length = 32 ∧ b.lo.length = 32 ∧ (∀ m ∈ b.hi ++ b.lo, -31 ≤ m ∧ m ≤ 31) ∧ (b.exp = 0 ∨ (2 ≤ b.exp ∧ b.exp ≤ 255)) ∧
    (b.exp = 0 → ∀ m ∈ b.hi ++ b.lo, m = 0) ∧ (b.nonfinite = true → b.exp = 0)) ∧
  (∀ (range : Nat) (sum given : Int), -2032 ≤ readingOf range sum given ∧ readingOf range sum given ≤ 2032 ∧
    (range ≤ 8 → ((127 * 2 ^ (8 - range) : Nat) : Int) < sum → readingOf range sum given = 2032) ∧
    (range ≤ 8 → sum < -((127 * 2 ^ (8 - range) : Nat) : Int) → readingOf range sum given = -2032)) ∧
  (∀ w : Nat, w < 2 ^ 32 → w / 2 ^ 23 % 256 ≠ 255 → w ≠ 2 ^ 31 → f32Of (f32Num w) = w) ∧
  (∀ a b : Nat, a < 2 ^ 32 → b < 2 ^ 32 → f32Add a b = f32Add b a)

/-- A matrix engine's passes, pilots and Substitutes. (R270, R278, R281, R282, R283, R284, R285, R287, R304) -/
def Obligations.EnginePasses : Prop :=
  (∀ (t : Tile) (s : State), let n := t.val
    let st := s.f (F.OME_STAT_STATE n)
    ((st ≠ 3 ∧ st ≠ 4) ∨ (s.ome n).work ≠ none ∨ (s.ome n).paused ≠ 0 ∨ (s.ome n).traceReq = true ∨ (s.ome n).reacqReq = true ∨ (s.ome n).dozeReq = true ∨ s.startTrace1 n = true ∨ s.gated n = true ∨ s.nextWork n = none →
      exec (.omePassStart t) s = .next s) ∧
    (∀ id j sh p cls bank, st = 3 ∨ st = 4 → (s.ome n).work = none → (s.ome n).paused = 0 → (s.ome n).traceReq = false → (s.ome n).reacqReq = false → (s.ome n).dozeReq = false → s.startTrace1 n = false → s.gated n = false →
      s.nextWork n = some (.job id) → s.passOf n (.job id) = some (p, cls) → s.bankFor n p cls = some bank → s.job id = some j → s.shareAt n j = some sh →
      sh.active = true → j.state = .running → s.f (F.OME_CTL_CAL_STRICT n) = 0 →
      exec (.omePassStart t) s = .next ((s.setFs [(F.OME_STAT_STATE n, 4), (F.OME_STAT_ACTIVE_BANK n, bank), (F.OMEJ_STAT_RUN_PRIO n, j.desc.prio)]).updOme n (fun o =>
        { o with work := some (.job id), ready := if p = 1 then o.ready else o.ready.erase bank, lastJob := id, lastColl := false })))) ∧
  (∀ (t : Tile) (b : Fin 2) (s : State),
    (s.f (F.OME_STAT_STATE t.val) ∉ [0, 1, 8] → (s.ome t.val).withdrawn.contains b.val = false → (s.ome t.val).ready.contains b.val = false →
      exec (.omeBankReloadDone t b) s = .next (s.updOme t.val (fun o => { o with ready := o.ready ++ [b.val] }))) ∧
    (s.f (F.OME_STAT_STATE t.val) ∈ [0, 1, 8] ∨ (s.ome t.val).withdrawn.contains b.val = true ∨ (s.ome t.val).ready.contains b.val = true →
      exec (.omeBankReloadDone t b) s = .next s)) ∧
  (∀ (t : Tile) (pilot : BitVec 16) (row : BitVec 7) (bank : Fin 2) (readings : List (BitVec 12)) (s : State), let n := t.val
    ((s.ome n).work = none ∨ s.f (F.OME_STAT_STATE n) ≠ 4 → exec (.omePassEnd t pilot row bank readings) s = .next s ∧ exec (.pilotLimitExceeded t pilot row bank) s = .next s) ∧
    (∀ w, (s.ome n).work = some w → s.f (F.OME_STAT_STATE n) = 4 →
      let s1 := (s.notePilot n pilot.toNat row.toNat bank.val).countPass n w
      (s.canonical → s1.f (F.OME_CNT_PASS n) = min (2 ^ 32 - 1) (s.f (F.OME_CNT_PASS n) + 1) ∧ s1.f (F.OME_PILOT_LAST_MAX n) = pilot.toNat) ∧
      exec (.pilotLimitExceeded t pilot row bank) s = .next (s1.badPass n w true) ∧
      (s.f (F.OME_CTL_PILOT_LIM n) * 10 < pilot.toNat → exec (.omePassEnd t pilot row bank readings) s = .next (s1.badPass n w true)) ∧
      (pilot.toNat ≤ s.f (F.OME_CTL_PILOT_LIM n) * 10 → s.f (F.OME_STAT_PILOT_LOCK n) = 0 → exec (.omePassEnd t pilot row bank readings) s = .next (s1.badPass n w false)) ∧
      (∀ id j sh, w = .job id → pilot.toNat ≤ s.f (F.OME_CTL_PILOT_LIM n) * 10 → s.f (F.OME_STAT_PILOT_LOCK n) = 1 → s1.job id = some j → s1.shareAt n j = some sh →
        j.state = .running → sh.active = true → j.desc.cls ≤ sh.reads.length →
        exec (.omePassEnd t pilot row bank readings) s = .next (((s1.updOme n (fun o => { o with work := none, regroup := none })).jobPass n j sh
          (readings.map (fun (x : BitVec 12) => signedOf 12 x.toNat))).afterPass n)))) ∧
  (∀ (t : Tile) (s : State), let n := t.val
    let st := s.f (F.OME_STAT_STATE n)
    (st = 2 ∨ st = 5 → exec (.pilotAcquired t) s = .next ((s.setFs [(F.OME_STAT_STATE n, 3), (F.OME_STAT_PILOT_LOCK n, 1)]).passBoundary n)) ∧
    (st = 3 ∨ st = 4 → exec (.pilotAcquired t) s = .next (s.setF (F.OME_STAT_PILOT_LOCK n) 1)) ∧
    (st = 5 → exec (.reacqTimeout t) s = .next ((s.setFs [(F.OME_STAT_STATE n, 3), (F.OME_STAT_PILOT_LOCK n, 0)]).passBoundary n)) ∧
    (st ≠ 5 → exec (.reacqTimeout t) s = .next s) ∧
    ((s.ome n).work ≠ none ∨ st = 5 → exec (.omeSubstituteChange t) s = .next s) ∧
    (∀ c, (s.ome n).work = none → st ≠ 5 → (s.ome n).subs = [c] → (s.ome n).traceReq = false → (s.ome n).reacqReq = false → (s.ome n).dozeReq = false →
      exec (.omeSubstituteChange t) s = .next ((s.applySub n c).updOme n (fun o => { o with subs := [] }))) ∧
    (st ≠ 0 → st ≠ 8 → exec (.omeFail t) s = .next (((((s.omeStop n 8).moveDuties n).note 0x4 .omeFailed 2 (tgtTile n)).assertTile n 30)).pumpStreams) ∧
    (st = 0 ∨ st = 8 → exec (.omeFail t) s = .next s.pumpStreams))

/-- Submitting, running and ending a matrix job. (R291, R302, R303, R304, R307, R308, R309, R310, R311) -/
def Obligations.MatrixJobs : Prop :=
  (∀ (p : Packet) (o : Nat) (s : State), s.accepts omeJobSubmitDef p o → let b := s.begun p
    exec (.omeJobSubmit p) s = .next ((b.submitJob p o b.proctor.nextId).updPr (fun pr => { pr with
      running := pr.running ++ [{ id := b.proctor.nextId, opcode := 0x400, origin := o, pkt := p, fin := none, start := undoOf b (b.submitJob p o b.proctor.nextId) }], nextId := b.proctor.nextId + 1 })) ∧
    (b.mirrors = false → (∀ k ∈ b.streamKeys, ∀ c, b.stream k = some c → c.waiting = []) → ∃ j, (b.submitJob p o b.proctor.nextId).work.jobs = b.work.jobs ++ [j] ∧
      j.id = b.proctor.nextId ∧ j.origin = o ∧ j.tag = p.tag.toNat ∧ j.desc = JobDesc.parse p.params ∧ (j.state = .staging ∨ j.state = .running) ∧
      j.shares.map (·.tile) = maskTiles (JobDesc.parse p.params).mask ∧ j.mirrored = false ∧ (b.submitJob p o b.proctor.nextId).regs = b.regs ∧
      b.keepsMemory (b.submitJob p o b.proctor.nextId))) ∧
  (∀ (p : Packet) (o : Nat) (j : Job) (s : State), (s.begun p).jobNamed (p.w 0) (p.w 1) = some j → let b := s.begun p
    (s.accepts omeJobQueryDef p o → exec (.omeJobQuery p) s = .next (b.replies p (b.jobRecord j)) ∧ (b.jobRecord j).length = 32) ∧
    (s.accepts omeJobCancelDef p o → exec (.omeJobCancel p) s = .next ((b.endJob j.id 0x8401 0 255).pumpStreams.replies p []))) ∧
  (∀ (id st det tile : Nat) (j : Job) (s : State), s.job id = some j → j.live = true ∨ j.state = .mirrorWait →
    (∀ x, (s.endJob id st det tile).job id = some x → x.state = (if st = 0x8401 then .cancelled else if st = stOk then .done else .failed) ∧ x.failTile = tile ∧ x.endBell = some s.bell) ∧
    ((s.running id).isSome = true → ((s.endJob id st det tile).job id).isSome = true)) ∧
  (∀ (o g : BitVec 16) (j : Job) (s : State), s.work.jobs.find? (fun j => j.origin == o.toNat && j.tag == g.toNat && decide (j.state = .running)) = some j →
    (∀ (t : Tile) sh, j.shares.find? (fun sh => sh.tile == t.val) = some sh →
      (sh.ready = false → exec (.jobUnitWritten o g t) s = .next s) ∧
      (sh.ready = true → j.desc.odst = 0 → exec (.jobUnitWritten o g t) s = .next (s.writeUnit ((s.server t.val).getD t.val) j sh).pumpStreams)) ∧
    (j.shares.all j.shareDone = false → exec (.jobSharesEnded o g) s = .next s) ∧
    (j.shares.all j.shareDone = true → j.mirrored = true → s.mirrors = true → exec (.jobSharesEnded o g) s = .next (s.updJob j.id (fun j => { j with state := .mirrorWait }))) ∧
    (j.shares.all j.shareDone = true → j.mirrored = false ∨ s.mirrors = false → exec (.jobSharesEnded o g) s = .next (s.endJob j.id stOk 0 255)) ∧
    (j.desc.kind = 3 → Map.get [] j.inq 0 ≠ [] → exec (.projectBatchWait o g) s = .next ((s.updJob j.id (fun j => Job.formAll { j with due := true })).pumpStreams)) ∧
    (j.desc.kind ≠ 3 ∨ Map.get [] j.inq 0 = [] → exec (.projectBatchWait o g) s = .next s)) ∧
  (∀ (o g : BitVec 16) (s : State),
    (∀ j, s.work.jobs.find? (fun j => j.origin == o.toNat && j.tag == g.toNat && decide (j.state = .mirrorWait)) = some j → exec (.jobMirrorDone o g) s = .next (s.endJob j.id stOk 0 255)) ∧
    (s.work.jobs.find? (fun j => j.origin == o.toNat && j.tag == g.toNat && decide (j.state = .mirrorWait)) = none → exec (.jobMirrorDone o g) s = .next s))

/-- Staging sets. (R297, R298, R300, R303, R311) -/
def Obligations.StagingSets : Prop :=
  (∀ (p : Packet) (o : Nat) (s : State), s.accepts omeStageLoadDef p o → (s.begun p).twin.want = none → let b := s.begun p
    let d := stageDesc p
    (∃ n, n < 256 ∧ (b.set_ n).live = false) → ∃ (t : State) (n : Nat), exec (.omeStageLoad p) s = .next t ∧ n < 256 ∧ (b.set_ n).live = false ∧
      (t.set_ n).live = true ∧ (t.set_ n).ready = false ∧ (t.set_ n).gen = (b.set_ n).gen ∧ (t.set_ n).origin = o ∧ (t.set_ n).waddr = d.waddr ∧ (t.set_ n).m = d.m ∧
      (t.set_ n).k = d.k ∧ (t.set_ n).wfmt = d.wfmt ∧ (t.set_ n).mask = d.mask ∧ (t.set_ n).need = needOf d (b.deal d) ∧ (t.set_ n).run = some b.proctor.nextId ∧
      (∀ i, i ≠ n → t.set_ i = b.set_ i) ∧ t.regs = b.regs ∧ b.keepsMemory t ∧
      b.runsOn t p o 0x410) ∧
  (∀ (p : Packet) (o : Nat) (s : State),
    (s.accepts omeStageReleaseDef p o → exec (.omeStageRelease p) s = .next (((s.begun p).freeSet (p.w 0 % 256)).replies p [])) ∧
    (s.accepts omeStageQueryDef p o → ∃ (t : State) (bytes ratio : Nat), exec (.omeStageQuery p) s = .next (t.replies p (leBytes 8 bytes ++ leBytes 4 ratio ++
        leBytes 1 (if ((s.begun p).set_ (p.w 0 % 256)).ready then 1 else 0) ++ zeros 3)) ∧ t = { s.begun p with free := t.free } ∧
      bytes ≤ ((((s.begun p).set_ (p.w 0 % 256)).need.map (·.2)).foldl (· + ·) 0) ∧
      (((s.begun p).set_ (p.w 0 % 256)).ready = true → bytes = ((((s.begun p).set_ (p.w 0 % 256)).need.map (·.2)).foldl (· + ·) 0)))) ∧
  (∀ (n : Nat) (s : State), n < 256 → Map.rising s.work.sets = true → ((s.freeSet n).set_ n).gen = ((s.set_ n).gen + 1) % 2 ^ 24 ∧
    (∀ h, h % 256 = n → (s.freeSet n).setOf h = none) ∧ ∀ i, i ≠ n → (s.freeSet n).set_ i = s.set_ i) ∧
  (∀ (o g : BitVec 16) (j : Job) (n : Nat) (data : List (Nat × List Byte)) (s s1 : State),
    s.work.jobs.find? (fun j => j.origin == o.toNat && j.tag == g.toNat && decide (j.state = .staging)) = some j → j.set = some n →
    State.copyBlocks ((maskTiles j.desc.mask).headD 0) j.desc (Map.keys (s.set_ n).data) [] s = (.ok data, s1) →
    exec (.jobStagingDone o g) s = .next ({ s1 with work := { s1.work with sets := Map.put n { s.set_ n with data := data, ready := true } s1.work.sets } }.updJob j.id
      (fun j => { j with state := .running })).pumpStreams) ∧
  (∀ (o g : BitVec 16) (r : Running) (x : Nat × StageSet) (data : List (Nat × List Byte)) (s s1 : State),
    s.work.jobs.find? (fun j => j.origin == o.toNat && j.tag == g.toNat && decide (j.state = .staging)) = none →
    s.proctor.running.find? (fun r => r.opcode == 0x410 && r.origin == o.toNat && r.pkt.tag == g && r.fin.isNone) = some r →
    s.work.sets.find? (fun e => e.2.run == some r.id) = some x →
    State.copyBlocks ((maskTiles (stageDesc r.pkt).mask).headD 0) (stageDesc r.pkt) (Map.keys x.2.data) [] s = (.ok data, s1) →
    exec (.jobStagingDone o g) s = .next ({ s1 with work := { s1.work with sets := Map.put x.1 { x.2 with data := data, ready := true, run := none } s1.work.sets } }.finish
      r.id stOk 0 (leBytes 4 (x.1 + x.2.gen * 256))))

/-- Creating, changing and querying collective groups, and posting operations. (R312, R313, R314, R333, R334, R336, R338) -/
def Obligations.CollectiveGroups : Prop :=
  (∀ (p : Packet) (o : Nat) (s : State), s.accepts collGroupCreateDef p o → (s.begun p).mirrors = false → (s.begun p).twin.want = none → let b := s.begun p
    let l := memberList (b.inputOr p (p.w 0 * 8)) (p.w 0)
    (∃ n, n < 4096 ∧ b.group n = none) → (∀ m ∈ l, ∀ c, b.stream m.key = some c → c.waiting = []) →
    ∃ (t : State) (n : Nat), exec (.collGroupCreate p) s = .next (t.replies p (leBytes 4 (n + (b.ctx n).gen * 4096))) ∧ n < 4096 ∧ b.group n = none ∧
      t.group n = some { members := l, mask := createMask p, moduleRank := p.w 3 } ∧ (∀ i, i ≠ n → t.ctx i = b.ctx i) ∧ t.streams = b.streams ∧ t.regs = b.regs ∧ b.keepsMemory t) ∧
  (∀ (p : Packet) (o : Nat) (g : Group) (s : State), s.accepts collGroupModifyDef p o → (s.begun p).mirrors = false → let b := s.begun p
    let n := p.w 0 % 4096
    let old := b.membersOf (p.w 0)
    let bytes := b.inputOr p (modifyBytes p)
    let now := if p.w 1 = 0 then old ++ memberList bytes (p.w 2) else (old.zipIdx.filter (fun x => !(removeRanks bytes (p.w 2)).contains x.2)).map (·.1)
    b.group n = some g → (∀ m ∈ old ++ now, ∀ c, b.stream m.key = some c → c.waiting = []) →
    ∃ t : State, exec (.collGroupModify p) s = .next (t.replies p (leBytes 4 now.length)) ∧ (∃ g2, t.group n = some g2 ∧ g2.members = now ∧ g2.mask = g.mask ∧ g2.nextSeq = g.nextSeq ∧ g2.runs = g.runs) ∧
      (∀ i, i ≠ n → t.ctx i = b.ctx i) ∧ t.regs = b.regs ∧ b.keepsMemory t) ∧
  (∀ (n : Nat) (s : State), n < 4096 → Map.rising s.work.ctxs = true → ∀ h, h % 4096 = n → (s.updCtx n (fun c => { gen := (c.gen + 1) % 2 ^ 20, group := none })).ctxOf h = none) ∧
  (∀ (p : Packet) (o : Nat) (s : State), s.accepts collGroupDestroyDef p o → let b := s.begun p
    let n := p.w 0 % 4096
    b.group n = none ∨ b.collPosted n = 0 → ∀ u, u = ((b.updCtx n (fun c => { gen := (c.gen + 1) % 2 ^ 20, group := none })).each
        (((b.group n).map (fun g => g.members.map Member.key)).getD []) (fun s k => s.pumpStream k)) →
      exec (.collGroupDestroy p) s = .next (u.conclude 0x501 o false p stOk 0 [] [] (undoOf b u))) ∧
  (∀ (p : Packet) (o : Nat) (g : Group) (s : State), let b := s.begun p
    let n := p.w 0 % 4096
    b.group n = some g →
    (s.accepts collGroupQueryDef p o → exec (.collGroupQuery p) s = .next (b.replies p (leBytes 4 g.members.length ++
      leBytes 4 (if g.broken.isSome then 2 else if 0 < b.collPosted n then 1 else 0) ++ leBytes 4 g.nextSeq ++ leBytes 4 (b.collPosted n)))) ∧
    (∀ r : CollRun, r = { id := b.proctor.nextId, desc := postDesc p, first := g.nextSeq, count := (postDesc p).rep } →
      s.accepts collOpPostDef p o → b.mirrors = false → ∃ t : State, exec (.collOpPost p) s = .next t ∧
      t.group n = some { g with runs := g.runs ++ [r], nextSeq := (g.nextSeq + r.count) % 65536 } ∧ (∀ i, i ≠ n → t.ctx i = b.ctx i) ∧
      b.runsOn t p o 0x510 ∧ t.regs = b.regs ∧ b.keepsMemory t) ∧
    (∀ r, s.accepts collOpQueryDef p o → b.ctxOf (p.w 0) = some n → g.runOf (p.w 1) = some r →
      exec (.collOpQuery p) s = .next (b.replies p (b.collRecord r)) ∧ (b.collRecord r).length = 32))

/-- How a collective operation runs and ends. (R319, R320, R321, R323, R324, R325, R330, R331, R333, R335) -/
def Obligations.CollectiveWork : Prop :=
  (∀ (c : BitVec 12) (s : State), exec (.collOpStart c) s = .next ((s.startOp c.toNat).pumpMembers c.toNat) ∧
    (s.group c.toNat = none → exec (.collOpStart c) s = .next s) ∧ (∀ g, s.group c.toNat = some g → g.cur ≠ none → s.startOp c.toNat = s)) ∧
  (∀ (v : Via) (bytes : List Byte) (s s1 : State), s.popRx v.code 0 (fitBytes 232 bytes) = some s1 → let tu := Tu.parse bytes
    (tu.type = 0x10 → exec (.collData v bytes) s = .next (s1.acceptTu v.code tu)) ∧ (tu.type = 0x11 → exec (.collRoute v bytes) s = .next (s1.acceptTu v.code tu)) ∧
    (tu.type = 0x12 → exec (.collEnd v bytes) s = .next (s1.acceptTu v.code tu)) ∧
    (∀ g o, tu.type = 0x10 → s.group (tu.aux % 4096) = some g → g.members.any (fun m => m.peer && m.key == handleKey tu.stream) = true →
      (exec (.peerPartialReceive v bytes true) s = .next (s1.acceptTu v.code tu)) ∧
      (g.cur = some o → o.seq = tu.aux / 4096 % 65536 → exec (.peerPartialReceive v bytes false) s = .next (s1.collFail (tu.aux % 4096) 0x8502 0 0xFFFF 255)))) ∧
  (∀ (key rank : Nat) (tu : Tu) (g : Group) (s : State), let seq := tu.aux / 4096 % 65536
    (s.group (tu.aux % 4096) = none → s.collTake key tu = .drop) ∧
    (s.group (tu.aux % 4096) = some g → (g.members.findIdx? (fun m => m.key == key) = none → s.collTake key tu = .drop) ∧
      (∀ o, g.members.findIdx? (fun m => m.key == key) = some rank → g.cur = some o →
        (32768 ≤ (seq + 65536 - o.seq) % 65536 → s.collTake key tu = .drop) ∧
        (0 < (seq + 65536 - o.seq) % 65536 → (seq + 65536 - o.seq) % 65536 < 32768 → s.collTake key tu = .hold) ∧
        (o.seq = seq → o.resultsOut = true → s.collTake key tu = .drop) ∧
        (o.seq = seq → o.resultsOut = false → s.collTake key tu = s.takeInto (tu.aux % 4096) g o rank tu)))) ∧
  (∀ (c : BitVec 12) (seg : BitVec 32) (g : Group) (o : CollOp) (s : State), s.group c.toNat = some g → g.cur = some o →
    (o.desc.op < 2 → (∀ t : Tile, exec (.collSegmentReduced c seg (.entry t)) s = .next ((s.entryStage c.toNat seg.toNat t.val).pumpMembers c.toNat)) ∧
      (∀ r, exec (.collSegmentReduced c seg (.collector r)) s = .next ((s.collectStage c.toNat seg.toNat r.val).pumpMembers c.toNat)) ∧
      exec (.collSegmentReduced c seg .owner) s = .next ((s.ownerStage c.toNat seg.toNat).pumpMembers c.toNat)) ∧
    (∀ st, o.desc.op = 6 → exec (.collSegmentReduced c seg st) s = .next ((State.returnTokens c.toNat seg.toNat (g.routes.length + 1) s).routeDone c.toNat)) ∧
    (∀ r, g.head = some r →
      (s.collComplete g o = false → exec (.collOpComplete c) s = .next s) ∧
      (s.collComplete g o = true → (∀ m ∈ g.members, ∀ x, s.stream m.key = some x → x.waiting = []) →
        ∃ t : State, exec (.collOpComplete c) s = .next t ∧ (∃ g2, t.group c.toNat = some g2 ∧ g2.cur = none ∧ g2.members = g.members ∧ g2.nextSeq = g.nextSeq) ∧
          (∀ i, i ≠ c.toNat → t.ctx i = s.ctx i) ∧ t.regs = s.regs ∧ s.keepsMemory t ∧ t.streams = s.streams ∧
          (r.done + 1 < r.count → t.proctor = s.proctor)))) ∧
  (∀ (words : List Nat) (s : State), words.length = 1 → s.foldAny (redOp 0) words = ((words.headD 0), { s with free := s.free + 1 })) ∧
  (∀ (p : Packet) (o : Nat) (s : State), s.accepts collOpAbortDef p o → ∃ u : State, u = (s.begun p).stopOps (p.w 0 % 4096) 0x8503 0 4 0xFFFF 255 ∧
    exec (.collOpAbort p) s = .next (u.conclude 0x512 o false p stOk 0 [] [] (undoOf (s.begun p) u)))

/-- References, straps and the start sequence. (R361, R363, R365, R367, R368, R369) -/
def Obligations.ClockAndStart : Prop :=
  (∀ s : State, s.canonical →
    (s.f F.CLK_STAT_HOLDOVER = 0 → s.f F.CLK_STAT_PLL_LOCK = 1 →
      ∃ t : State, exec .refclkLoss s = .next t ∧ t.f F.CLK_STAT_REF_T00 = 0 ∧ t.f F.CLK_STAT_REF_T47 = 0 ∧ t.f F.CLK_STAT_PLL_LOCK = 0 ∧
        t.f F.CLK_STAT_HOLDOVER = 1 ∧ t.f F.CLK_STAT_BELL_OSC = 1 ∧ t.f F.CLK_STAT_LOSS_CNT = min (s.f F.CLK_STAT_LOSS_CNT + 1) 65535 ∧
        (∀ n < 48, t.f (F.BLK_STAT_TRACE_OK n) = 0) ∧ t.clocks = { s.clocks with refLostAt := some s.bell } ∧ s.keepsMemory t ∧
        s.keepsRegs t (R.CLK_STAT :: moduleFaultRegs ++ allTiles.map R.BLK_STAT)) ∧
    (s.f F.CLK_STAT_HOLDOVER = 1 ∨ s.f F.CLK_STAT_PLL_LOCK = 0 →
      ∃ t : State, exec .refclkLoss s = .next t ∧ t.f F.CLK_STAT_REF_T00 = 0 ∧ t.f F.CLK_STAT_REF_T47 = 0 ∧
        t.f F.CLK_STAT_LOSS_CNT = s.f F.CLK_STAT_LOSS_CNT ∧ s.onlyRegs t ∧ s.keepsRegs t [R.CLK_STAT])) ∧
  (∀ (a b : Bool) (s : State), s.canonical → s.clocks.phase ≠ 0 → s.clocks.phase ≠ 2 →
    ∃ t : State, exec (.refclkReturn a b) s = .next t ∧ t.b F.CLK_STAT_REF_T00 = a ∧ t.b F.CLK_STAT_REF_T47 = b ∧
      s.keepsRegs t [R.CLK_STAT, R.MFLVL_SRC] ∧
      (if (if s.clockMaster = 0 then a else b) = true then
        t.f F.CLK_STAT_PLL_LOCK = 1 ∧ t.f F.CLK_STAT_HOLDOVER = 0 ∧ t.f F.CLK_STAT_BELL_OSC = 0 ∧ t.clocks = { s.clocks with refLostAt := none }
      else t.f F.CLK_STAT_PLL_LOCK = s.f F.CLK_STAT_PLL_LOCK ∧ t.f F.CLK_STAT_HOLDOVER = s.f F.CLK_STAT_HOLDOVER ∧ t.clocks = s.clocks)) ∧
  (∀ (n : Tile) (s : State), s.canonical →
    exec (.cdcTimeout n) s = .next ((s.bump (F.TILE_CDC_TMO_COUNT n.val)).assertTile n.val 2) ∧
    (s.bump (F.TILE_CDC_TMO_COUNT n.val)).f (F.TILE_CDC_TMO_COUNT n.val) = min (s.f (F.TILE_CDC_TMO_COUNT n.val) + 1) (2 ^ 32 - 1)) ∧
  (∀ (straps : BitVec 8) (s : State), s.canonical →
    (s.clocks.phase ≠ 0 ∨ s.clocks.off = true → exec (.strapSample straps) s = .next s) ∧
    (s.clocks.phase = 0 → s.clocks.off = false →
      ∃ t : State, exec (.strapSample straps) s = .next t ∧ t.rd R.STRAP_STAT = straps.setWidth 32 ∧
        t.b F.CLK_STAT_MASTER = straps.getLsbD 0 ∧ t.clocks = { s.clocks with phase := 1, warm := false } ∧
        (∀ n < 48, ∀ k < 44, t.f (F.FSEV_SEV n k) = if straps.getLsbD 7 && s.f (F.FSEV_SEV n k) == 2 then 3 else s.f (F.FSEV_SEV n k)) ∧
        s.keepsMemory t)) ∧
  (∀ (chain : List Byte) (s u : State) (ok : Bool), s.clocks.phase = 1 → s.clocks.mresetLow = false → s.clocks.tripped = false →
    s.boot chain = (u, ok) →
    (ok = false → exec (.bootLoad chain) s = .next u ∧ u.sec.recovery = true) ∧
    (ok = true → u.clocks.strapsLogged = true → exec (.bootLoad chain) s = .next
      (if u.b F.CLK_STAT_PLL_LOCK = true then (u.updClk (fun c => { c with phase := 2 })).coreStart else u.updClk (fun c => { c with phase := 2 }))) ∧
    (ok = true → u.clocks.strapsLogged = false → u.f F.CLK_STAT_PLL_LOCK = 0 →
      ∃ (t : State) (w : JPending), exec (.bootLoad chain) s = .next t ∧ t.clocks.phase = 2 ∧ t.clocks.strapsLogged = true ∧
        t.journal.waiting = u.journal.waiting ++ [w] ∧ w.opcode = 0xFFFE ∧ w.offset = R.STRAP_STAT ∧
        w.newDigest = sha256 (leBytes 4 (u.rd R.STRAP_STAT).toNat))) ∧
  (∀ s : State, s.coreStart.clocks.phase = 3) ∧
  (∀ s : State, s.canonical →
    (s.clocks.phase ≠ 3 ∨ s.b (F.CXL_PHY_STAT_LINK_UP (s.f F.STRAP_STAT_CXLP)) = false → exec .proctorReady s = .next s) ∧
    (s.clocks.phase = 3 → s.b (F.CXL_PHY_STAT_LINK_UP (s.f F.STRAP_STAT_CXLP)) = true → s.sec.badDue = [] →
      ∃ t : State, exec .proctorReady s = .next t ∧ t.f F.Q_GLOBAL_PROCTOR_READY = 1 ∧ t.clocks = { s.clocks with phase := 4, warm := false } ∧
        t.twin.readyAt = some s.bell ∧ s.keepsRegs t [R.Q_GLOBAL]))

/-- Power-on, cold, warm and tile resets and the RESET command. (R13, R368, R369, R370, R371, R372, R386, R419) -/
def Obligations.ModuleResets : Prop :=
  (∀ (a b : Bool) (s : State),
    ∃ t : State, exec (.powerOn a b) s = .next t ∧ t.bell = 0 ∧ t.clocks.phase = 0 ∧ t.clocks.off = false ∧ t.dram = [] ∧ t.pool.regions = [] ∧
      t.proctor.running = [] ∧ t.work = {} ∧ t.streams = {} ∧ t.journal.entries = s.journal.entries ∧ t.journal.waiting = [] ∧
      t.f F.Q_GLOBAL_PROCTOR_READY = 0 ∧ t.power.feedLost = (if a then [] else [0]) ++ (if b then [] else [1]) ∧
      ∀ off pl r, placeOf off = some pl → rowAtPlace pl = some r → pl.port < 3 →
        t.rd off = if r.cls = .N then s.rd off else regDefault off) ∧
  (∀ s : State, s.canonical →
    (s.clocks.phase = 0 ∨ s.clocks.tripped = true → exec .mresetNLow s = .next s) ∧
    (s.clocks.phase ≠ 0 → s.clocks.tripped = false →
      ∃ t : State, exec .mresetNLow s = .next t ∧ t.clocks.mresetLow = true ∧ t.clocks.phase = 1 ∧ t.f F.RST_CAUSE_KIND = 1 ∧
        t.f F.RST_CNT_COLD = min (s.f F.RST_CNT_COLD + 1) 65535 ∧ t.dram = [] ∧ t.pool.regions = [] ∧ t.proctor.running = []) ∧
    (s.clocks.tripped = false → s.clocks.mresetLow = true →
      exec .coldReset s = .next (s.updClk (fun c => { c with mresetLow := false }))) ∧
    (∀ o : Nat, s.clocks.tripped = false → s.clocks.mresetLow = false → s.clocks.resetDue = some (2, o) → s.resetWaits = false → o < 16 →
      ∃ t : State, exec .coldReset s = .next t ∧ t.clocks.phase = 1 ∧ t.clocks.resetDue = none ∧ t.f F.RST_CAUSE_KIND = 2 ∧ t.f F.RST_CAUSE_ORIGIN = o ∧
        t.f F.RST_CNT_COLD = min (s.f F.RST_CNT_COLD + 1) 65535 ∧ t.dram = [] ∧ t.pool.regions = [] ∧ t.proctor.running = [] ∧ t.work = {} ∧
        ∀ off pl r, placeOf off = some pl → rowAtPlace pl = some r → pl.port < 3 →
          t.rd off = if r.cls = .N ∨ r.cls = .P then s.rd off else regDefault off) ∧
    (∀ k o : Nat, s.clocks.tripped = false → s.clocks.resetDue = some (k, o) → 3 ≤ k → k < 8 → s.resetWaits = false → o < 16 →
      ∃ t : State, exec .warmReset s = .next t ∧ t.clocks.phase = 1 ∧ t.clocks.warm = true ∧ t.f F.RST_CAUSE_KIND = k ∧ t.f F.RST_CAUSE_ORIGIN = o ∧
        t.f F.RST_CNT_WARM = min (s.f F.RST_CNT_WARM + 1) 65535 ∧ t.dram = s.dram ∧ t.proctor.running = [] ∧ t.work = {} ∧
        ∀ off pl r, placeOf off = some pl → rowAtPlace pl = some r → pl.port < 3 →
          t.rd off = if r.cls = .N ∨ r.cls = .P ∨ r.cls = .C then s.rd off else regDefault off) ∧
    (s.clocks.resetDue = none ∨ s.resetWaits = true → s.clocks.mresetLow = false → exec .coldReset s = .next s ∧ exec .warmReset s = .next s)) ∧
  (∀ (p : Packet) (s : State) (o : Nat), s.accepts resetDef p o → let b := s.begun p
    (p.kind = 0 → ∃ u : State, exec (.reset p) s = .next (u.conclude 0x120 o true p stOk 0 [] (paramChange p) (undoOf b u)) ∧
      u = b.updClk (fun c => { c with resetDue := some (if p.w 0 = 0 then 3 else 2, originCode o) })) ∧
    (p.kind ≠ 0 → ∃ t : State, exec (.reset p) s = .next t ∧
      b.runsOn t p o 0x120 ∧
      (p.kind = 1 → s.canonical → t.f (F.TILE_PWR_STAT_STATE p.unit) = 5))) ∧
  (∀ (n : Tile) (s : State),
    (s.proctor.running.find? (fun r => [0x120, 0x150, 0x152, 0x902].contains r.opcode && r.pkt.kind == 1 && r.pkt.unit == n.val && r.fin.isNone) = none →
      exec (.tileReset n) s = .next s) ∧
    (∀ r, s.proctor.running.find? (fun r => [0x120, 0x150, 0x152, 0x902].contains r.opcode && r.pkt.kind == 1 && r.pkt.unit == n.val && r.fin.isNone) = some r →
      r.opcode = 0x120 → exec (.tileReset n) s = .next ((s.resetTile n.val 1).finishParam r.id stOk 0)) ∧
    (s.canonical → (s.resetTile n.val 1).f (F.TILE_PWR_STAT_STATE n.val) = 0 ∧ (s.resetTile n.val 1).f (F.TILE_RST_CAUSE_LAST n.val) = 1 ∧
      (s.resetTile n.val 1).f (F.TILE_RST_CAUSE_COUNT n.val) = min (s.f (F.TILE_RST_CAUSE_COUNT n.val) + 1) 65535))

/-- Entering and leaving D1, D2 and M1. (R376, R377, R378, R379, R380, R381, R382, R383, R384, R386, R510) -/
def Obligations.TilePowerStates : Prop :=
  (∀ (n : Tile) (s : State), s.canonical → s.f (F.TILE_PWR_STAT_STATE n.val) = 1 → Map.get 0 s.clocks.entering n.val = 2 →
    s.gated n.val = false →
    ((∀ p ∈ portsOf n.val, s.linkUp p = false) → s.f (F.OME_STAT_STATE n.val) ≠ 4 →
      (s.d1Block n.val ≠ 0 → exec (.d1Entry n) s = .next s) ∧
      (s.d1Block n.val = 0 → ∃ u : State, exec (.d1Entry n) s = .next u ∧
        u.f (F.TILE_PWR_STAT_STATE n.val) = (if s.clocks.wake.contains n.val && !s.clocks.standby then 4 else 2) ∧
        u.f (F.CROWN_STAT_ASLEEP n.val) = 1 ∧ n.val ∈ u.crownMap.asleep ∧ s.keepsMemory u ∧
        (∀ c < 8, u.f (F.LAS_STAT_STATE n.val c) = if s.f (F.LAS_STAT_STATE n.val c) = 2 then 3 else s.f (F.LAS_STAT_STATE n.val c)) ∧
        u.f (F.MEM_STAT_STATE n.val) = (if s.f (F.MEM_STAT_STATE n.val) = 2 then 3 else s.f (F.MEM_STAT_STATE n.val)) ∧
        u.f (F.OME_STAT_STATE n.val) = (if s.f (F.OME_STAT_STATE n.val) = 3 then 7 else s.f (F.OME_STAT_STATE n.val)))) ∧
    ((∃ p ∈ portsOf n.val, s.linkUp p = true ∧ (s.link p).dozeAcked = false) →
      ∃ u : State, exec (.d1Entry n) s = .next u ∧ u.f (F.TILE_PWR_STAT_STATE n.val) = 1 ∧ s.keepsRegs u [] ∧ s.keepsMemory u ∧
        ∀ p ∈ portsOf n.val, s.linkUp p = true → s.settledPort p = true → (u.link p).dozeSent = true) ∧
    (s.d1Block n.val ≠ 0 → ∃ u : State, exec (.d1EntryAbandon n) s = .next u ∧ u.f (F.TILE_PWR_STAT_STATE n.val) = 0 ∧
      u.f (F.TILE_PWR_STAT_BLOCK n.val) = s.d1Block n.val ∧ u.clocks.entering = Map.del n.val s.clocks.entering ∧
      s.keepsRegs u [R.TILE_PWR_STAT n.val, R.TILE_PWR_CTL n.val] ∧ s.keepsMemory u)) ∧
  (∀ (p : Port) (s : State), s.clocks.standby = false → let t := p.val / 3
    (s.f (F.TILE_PWR_STAT_STATE t) = 2 ∨ s.f (F.TILE_PWR_STAT_STATE t) = 3 →
      exec (.portActivityWake p) s = .next ((s.setF (F.TILE_PWR_STAT_STATE t) 4).updClk (fun c => { c with exitAt := Map.put t s.bell c.exitAt }))) ∧
    (s.f (F.TILE_PWR_STAT_STATE t) = 0 ∨ s.f (F.TILE_PWR_STAT_STATE t) = 4 ∨ s.f (F.TILE_PWR_STAT_STATE t) = 5 →
      exec (.portActivityWake p) s = .next s)) ∧
  (∀ (n : Tile) (s : State), s.canonical → s.f (F.TILE_PWR_STAT_STATE n.val) = 4 → s.gated n.val = false →
    (Map.get 0 s.clocks.sleep n.val = 2 → s.f (F.TILE_PWR_CTL_MODE n.val) ≠ 3 →
      (s.f (F.TILE_PWR_CTL_MODE n.val) = 0 → n.val ∉ s.clocks.wantD2) → (∀ k ∈ s.streamKeys, ∀ c, s.stream k = some c → c.waiting = []) →
      ∃ u : State, exec (.d1Exit n) s = .next u ∧ u.f (F.TILE_PWR_STAT_STATE n.val) = 0 ∧ u.f (F.CROWN_STAT_ASLEEP n.val) = 0 ∧ s.keepsMemory u ∧
        u.f (F.TILE_PWR_STAT_EXIT_US n.val) = min (s.bell - Map.get s.bell s.clocks.exitAt n.val) 65535 ∧
        (∀ c < 8, u.f (F.LAS_STAT_STATE n.val c) = if s.f (F.LAS_STAT_STATE n.val c) = 3 then 2 else s.f (F.LAS_STAT_STATE n.val c)) ∧
        u.f (F.MEM_STAT_STATE n.val) = (if s.f (F.MEM_STAT_STATE n.val) = 3 then 2 else s.f (F.MEM_STAT_STATE n.val)) ∧
        u.f (F.OME_STAT_STATE n.val) = (if s.f (F.OME_STAT_STATE n.val) = 7 then 2 else s.f (F.OME_STAT_STATE n.val))) ∧
    (Map.get 0 s.clocks.sleep n.val = 3 → exec (.d2Exit n) s = .next
      (if s.f F.CLK_STAT_HOLDOVER = 1 then s else (s.startTile n.val).awakeNow n.val 3))) ∧
  (∀ (n : Tile) (s : State), s.canonical → s.f (F.TILE_PWR_STAT_STATE n.val) = 1 → Map.get 0 s.clocks.entering n.val = 3 → s.gated n.val = false →
    (s.d2Block n.val = 0 → ∃ u : State, exec (.d2Entry n) s = .next u ∧
      (u.f (F.TILE_PWR_STAT_STATE n.val) = 3 ∨ u.f (F.TILE_PWR_STAT_STATE n.val) = 4) ∧ u.f (F.CROWN_STAT_ASLEEP n.val) = 1 ∧
      (∀ c < 8, u.f (F.LAS_STAT_STATE n.val c) = 0) ∧
      Map.find n.val u.clocks.sleep = some 3) ∧
    (s.d2Block n.val ≠ 0 → ∃ u : State, exec (.d2Entry n) s = .next u ∧ u.f (F.TILE_PWR_STAT_STATE n.val) = 0 ∧
      u.f (F.TILE_PWR_STAT_BLOCK n.val) = s.d2Block n.val ∧ s.keepsRegs u [R.TILE_PWR_STAT n.val, R.TILE_PWR_CTL n.val])) ∧
  (∀ (row : Fin 4) (rest : List Nat) (s : State),
    (s.clocks.wakeOrder = [] → exec (.m1Exit row) s = .next s) ∧
    (s.clocks.wakeOrder = row.val :: rest → ∃ u : State, exec (.m1Exit row) s = .next u ∧ u.clocks.wakeOrder = rest ∧ u.clocks.standby = !rest.isEmpty)) ∧
  (∀ (n : Tile) (s : State), s.policyOn n.val = true → s.policyIdle n.val = true → s.f (F.FSTATE_STATE n.val) = 0 → s.inTest n.val = false →
    let entry := fun (m : Nat) => (s.setFs [(F.TILE_PWR_STAT_STATE n.val, 1), (F.TILE_PWR_STAT_BLOCK n.val, 0)]).updClk
      (fun c => { c with entering := Map.put n.val m c.entering })
    (s.f (F.TILE_PWR_STAT_STATE n.val) = 0 → exec (.policyIdleD1 n) s = .next (entry 2)) ∧
    (s.f (F.TILE_PWR_STAT_STATE n.val) ≠ 0 → exec (.policyIdleD1 n) s = .next s) ∧
    (s.f F.PWR_POLICY_D2_IDLE ≠ 0 → s.d2Block n.val = 0 →
      (s.f (F.TILE_PWR_STAT_STATE n.val) = 0 → exec (.policyIdleD2 n) s = .next (entry 3)) ∧
      (s.f (F.TILE_PWR_STAT_STATE n.val) = 2 → exec (.policyIdleD2 n) s = .next ((s.requestWake n.val).updClk (fun c =>
        { c with wantD2 := n.val :: c.wantD2.filter (fun x => x != n.val) })))) ∧
    (s.f F.PWR_POLICY_D2_IDLE = 0 ∨ s.d2Block n.val ≠ 0 → exec (.policyIdleD2 n) s = .next s)) ∧
  (∀ (p : Packet) (s : State) (o : Nat), let b := s.begun p
    (s.accepts pwrTileModeDef p o →
      (p.w 0 = 3 → b.d2Block p.unit ≠ 0 → ∃ u : State, exec (.pwrTileMode p) s = .next
          (u.conclude 0xB00 o true p stState (b.d2Block p.unit) [] [] (undoOf b u)) ∧ u = b.setF (F.TILE_PWR_STAT_BLOCK p.unit) (b.d2Block p.unit)) ∧
      (p.w 0 < 2 → b.f (F.TILE_PWR_STAT_STATE p.unit) = 0 → ∃ (u : State) (ch : List JChange), exec (.pwrTileMode p) s = .next
          (u.conclude 0xB00 o true p stOk 0 [] ch (undoOf b u)) ∧ u = b.setF (F.TILE_PWR_CTL_MODE p.unit) (p.w 0) ∧
          (ch = [] ↔ b.rd (R.TILE_PWR_CTL p.unit) = u.rd (R.TILE_PWR_CTL p.unit))) ∧
      (2 ≤ p.w 0 → s.canonical → (p.w 0 = 3 → b.d2Block p.unit = 0) → b.f (F.TILE_PWR_STAT_STATE p.unit) = 0 → b.f (F.FSTATE_STATE p.unit) = 0 → b.inTest p.unit = false →
        ∃ t : State, exec (.pwrTileMode p) s = .next t ∧ t.f (F.TILE_PWR_STAT_STATE p.unit) = 1 ∧ t.f (F.TILE_PWR_CTL_MODE p.unit) = p.w 0 ∧
          b.runsOn t p o 0xB00)) ∧
    (s.accepts pwrModuleStandbyDef p o → exec (.pwrModuleStandby p) s = .next
      (b.conclude 0xB10 o true p stOk 0 [] (if b.clocks.standby then [] else paramChange p) (undoOf b b))) ∧
    (s.accepts pwrModuleResumeDef p o →
      (b.clocks.standby = true → ∃ u : State, exec (.pwrModuleResume p) s = .next (u.conclude 0xB11 o true p stOk 0 [] (paramChange p) (undoOf b u)) ∧
        u = b.updClk (fun c => { c with wakeOrder := [0, 1, 2, 3] })) ∧
      (b.clocks.standby = false → exec (.pwrModuleResume p) s = .next (b.conclude 0xB11 o true p stOk 0 [] [] (undoOf b b))))) ∧
  (∀ s : State, s.enterM1.clocks.standby = true ∧ s.enterM1.clocks.entering = [] ∧ (s.canonical → ∀ q < 16, s.enterM1.f (F.Q_CTL_EN q) = 0))

/-- Feeds, converters and the power ceiling. (R500, R501, R506, R507, R508, R509, R511, R513) -/
def Obligations.PowerInput : Prop :=
  (∀ (x : Fin 2) (s : State), s.canonical → s.clocks.off = false → (s.power.steps.countP (fun k => k == 0)) ≤ 6 → (s.power.steps.countP (fun k => k == 1)) ≤ 6 →
    (s.power.breakers.contains x.val = false → s.bladeOut (1 - x.val) = false → ∃ t : State, exec (.bladeBreaker x) s = .next t ∧
      t.f (if x.val = 0 then F.PWR_EVT_BREAKER_A else F.PWR_EVT_BREAKER_B) = 1 ∧ t.f F.PWR_EVT_FAST_STEP = 1 ∧
      t.f (if x.val = 0 then F.PWR_STAT_FEED_A_OK else F.PWR_STAT_FEED_B_OK) = 0 ∧ t.power.breakers = s.power.breakers ++ [x.val] ∧
      t.f F.PWR_STAT_OME_STEP = max 4 (s.power.steps.countP (fun k => k == 0)) ∧ t.f F.PWR_STAT_CROWN_STEP = max 4 (s.power.steps.countP (fun k => k == 1)) ∧
      t.f F.PWR_STAT_CEIL_W ≤ 29 * s.f (if x.val = 0 then F.PWR_VIN_B_VIN else F.PWR_VIN_A_VIN) / 100 ∧ s.keepsMemory t) ∧
    (s.power.feedLost.contains x.val = false → s.bladeOut (1 - x.val) = false → ∃ t : State, exec (.feedLost x) s = .next t ∧
      t.f (if x.val = 0 then F.PWR_EVT_FEED_LOST_A else F.PWR_EVT_FEED_LOST_B) = 1 ∧ t.f F.PWR_EVT_FAST_STEP = 1 ∧
      t.f (if x.val = 0 then F.PWR_STAT_FEED_A_OK else F.PWR_STAT_FEED_B_OK) = 0 ∧ t.power.feedLost = s.power.feedLost ++ [x.val] ∧ s.keepsMemory t) ∧
    (s.bladeOut (1 - x.val) = true →
      (s.power.breakers.contains x.val = false → ∃ t : State, exec (.bladeBreaker x) s = .next t ∧ t.clocks.off = true ∧ t.dram = [] ∧ t.proctor.running = []) ∧
      (s.power.feedLost.contains x.val = false → ∃ t : State, exec (.feedLost x) s = .next t ∧ t.clocks.off = true ∧ t.dram = [] ∧ t.proctor.running = [])) ∧
    (s.power.feedLost.contains x.val = true → ∃ t : State, exec (.feedReturn x) s = .next t ∧ t.bladeOut x.val = false ∧
      t.bladeOut (1 - x.val) = s.bladeOut (1 - x.val) ∧ t.f (if x.val = 0 then F.PWR_STAT_FEED_A_OK else F.PWR_STAT_FEED_B_OK) = 1 ∧
      s.keepsRegs t [R.PWR_STAT] ∧ s.keepsMemory t)) ∧
  (∀ s : State, s.canonical →
    (s.clocks.off = true → exec .ovTrip s = .next (s.updClk (fun c => { c with ovLatch := true }))) ∧
    (s.clocks.off = false → ∃ t : State, exec .ovTrip s = .next t ∧ t.clocks.off = true ∧ t.clocks.ovLatch = true ∧ t.out.head? = some (.modPwrok false) ∧ t.dram = [] ∧ t.pool.regions = [] ∧ t.f F.PWR_EVT_OV_TRIP = 1) ∧
    (∀ a b : Bool, s.clocks.off = true → s.clocks.ovLatch = true → ∃ t : State, exec (.ovRecovery a b) s = .next t ∧ t.clocks.off = false ∧ t.clocks.ovLatch = false ∧
      t.clocks.phase = 0 ∧ t.f F.PWR_EVT_OV_TRIP = 1 ∧ t.power.feedLost = (if a then [] else [0]) ++ (if b then [] else [1])) ∧
    (s.clocks.off = false →
      exec .vinLow s = .next ((s.setF F.PWR_EVT_VIN_LOW 1).assertModule 5 0 true) ∧
      ∀ k : Fin 4, s.power.convFail.contains k.val = false → ∃ t : State, t.f F.PWR_EVT_CONV_FAIL = 1 ∧ t.f F.PWR_STAT_CEIL_W ≤ 2154 ∧
        t.power.convFail = s.power.convFail ++ [k.val] ∧ t.f F.PWR_EVT_FAST_STEP = 1 ∧
        exec (.converterFail k) s = .next (match s.power.convFail.length with
          | 0 => t.assertModule 3 0 true
          | 1 => t.assertModule 4 0 true
          | _ => t))) ∧
  (∀ (va ia vb ib pin vbus pbus : BitVec 16) (s : State), s.canonical →
    (s.clocks.phase < 3 ∨ s.clocks.tripped = true ∨ s.clocks.off = true → exec (.ceilingLoopTick va ia vb ib pin vbus pbus) s = .next s) ∧
    (3 ≤ s.clocks.phase → s.clocks.tripped = false → s.clocks.off = false →
      ∃ b, (b : State).f F.PWR_IN_PIN = pin.toNat ∧ b.f F.PWR_VIN_A_VIN = va.toNat ∧ b.f F.PWR_VIN_B_IIN = ib.toNat ∧ b.f F.PWR_BUS_PBUS = pbus.toNat ∧
        ((∀ e ∈ s.power.peaks, e.2 < 65536) → pin.toNat / 10 ≤ b.f F.PWR_IN_PEAK_W) ∧ b.f F.PWR_STAT_CEIL_W ≤ s.maxInput ∧ b.power.steps = s.power.steps ∧ b.bell = s.bell ∧
        exec (.ceilingLoopTick va ia vb ib pin vbus pbus) s = .next (b.ceilingStep pin.toNat))) ∧
  (∀ (pin : Nat) (s : State), s.canonical →
    let n0 := s.power.steps.countP (fun k => k == 0)
    let n1 := s.power.steps.countP (fun k => k == 1)
    let t := s.ceilingStep pin
    let ceil := 10 * s.f F.PWR_STAT_CEIL_W
    (ceil < pin → n0 < 6 → t.power.steps = 0 :: s.power.steps ∧ t.f F.PWR_STAT_OME_STEP = n0 + 1) ∧
    (ceil < pin → 6 ≤ n0 → n1 < 6 → t.power.steps = 1 :: s.power.steps ∧ t.f F.PWR_STAT_CROWN_STEP = n1 + 1) ∧
    (pin ≤ ceil → t.f F.PWR_STAT_CAP_UNMET = 0) ∧
    (pin ≤ ceil → ceil < pin + 10 * s.f F.PWR_CTL_HYST_W → t.power = { s.power with underAt := none }) ∧
    (pin + 10 * s.f F.PWR_CTL_HYST_W ≤ ceil →
      (s.power.underAt = none → t.power = { s.power with underAt := some s.bell }) ∧
      (∀ (since k : Nat) (rest : List Nat), s.power.underAt = some since → since + 10000 ≤ s.bell → s.power.steps = k :: rest →
        t.power.steps = rest ∧ t.power.underAt = some s.bell))) ∧
  (∀ (p : Packet) (s : State) (o : Nat), s.canonical → let b := s.begun p
    (s.accepts pwrCapSetDef p o → ∃ (u : State) (ch : List JChange), exec (.pwrCapSet p) s = .next (u.conclude 0xB20 o true p stOk 0 [] ch (undoOf b u)) ∧
      u.f F.PWR_CTL_CAP_W = p.w 0 ∧ u.f F.PWR_STAT_CEIL_W ≤ p.w 0 ∧ (ch = [] ↔ b.rd R.PWR_CTL = u.rd R.PWR_CTL) ∧ b.keepsRegs u [R.PWR_CTL, R.PWR_STAT]) ∧
    (s.accepts pwrPolicySetDef p o → ∃ (u : State) (ch : List JChange), exec (.pwrPolicySet p) s = .next (u.conclude 0xB21 o true p stOk 0 [] ch (undoOf b u)) ∧
      u.f F.PWR_CTL_POLICY_EN = p.w 0 ∧ u.f F.PWR_POLICY_D1_IDLE = p.w 1 ∧ u.f F.PWR_POLICY_D2_IDLE = p.w 2 ∧ b.keepsRegs u [R.PWR_CTL, R.PWR_POLICY]) ∧
    (s.accepts pwrQueryDef p o → exec (.pwrQuery p) s = .next (b.replies p
      ([R.PWR_STAT, R.PWR_IN, R.PWR_VIN_A, R.PWR_VIN_B, R.PWR_BUS, R.PWR_CTL, R.PWR_POLICY, R.PWR_EVT].flatMap (fun off => leBytes 4 (b.rd off).toNat)))))

/-- Blocking runs are queued, started, committed, rejected and aborted. (R339, R343, R344, R345, R347, R348, R349, R350,
R351, R353, R360) -/
def Obligations.BlockingRuns : Prop :=
  (∀ (s : State) (t c prio diff : Nat), Map.rising s.blk = true → (s.bl t).runs.any (fun r => r.chan == c) = false →
    let u := s.queueChan t c prio diff
    (∃ e ∈ (u.bl t).queue, e.chan = c ∧ e.prio ≤ prio) ∧ (∀ e ∈ (s.bl t).queue, e.chan ≠ c → e ∈ (u.bl t).queue) ∧
      s.keepsRegs u [R.BLK_STAT t] ∧ s.keepsMemory u) ∧
  (∀ (n : Tile) (avg : BitVec 16) (s : State), Map.rising s.blk = true →
    (s.f (F.BLK_CTL_EN n.val) = 0 ∨ s.dozing n.val = true → exec (.blockTempEvaluation n avg) s =
      .next (s.updBl n.val (fun b => { b with settled := decide ((avg.toInt - b.avg).natAbs ≤ 10), avg := avg.toInt }))) ∧
    (s.f (F.BLK_CTL_EN n.val) = 1 → s.dozing n.val = false → ∃ u : State, exec (.blockTempEvaluation n avg) s = .next u ∧
      (u.bl n.val).avg = avg.toInt ∧ s.keepsRegs u [R.BLK_STAT n.val] ∧ s.keepsMemory u ∧
      ∀ c ∈ allChans, ∀ x, s.mayQueue n.val c = true → Map.find c (s.bl n.val).temp = some x → s.f (F.BLK_CTL_DT n.val) < (avg.toInt - x).natAbs →
        (s.bl n.val).runs.any (fun r => r.chan == c) = false → ∃ e ∈ (u.bl n.val).queue, e.chan = c ∧ e.prio ≤ 2)) ∧
  (∀ (n : Tile) (chan : BitVec 16) (s : State), let c := chan.toNat
    (chanOk c = true → c < 0x4000 → s.f (F.BLK_CTL_EN n.val) = 1 → s.dozing n.val = false → s.mayQueue n.val c = true →
      (∀ a, Map.find c (s.bl n.val).done = some a → a + s.f (F.BLK_CTL_INTERVAL n.val) * 1000000 ≤ s.bell) →
      exec (.blockTimetableDue n chan) s = .next (s.queueChan n.val c 3 0)) ∧
    ((chanOk c = false ∨ s.f (F.BLK_CTL_EN n.val) = 0 ∨ s.dozing n.val = true ∨ s.detained n.val c = true ∨
        ∃ a, Map.find c (s.bl n.val).done = some a ∧ s.bell < a + s.f (F.BLK_CTL_INTERVAL n.val) * 1000000) →
      exec (.blockTimetableDue n chan) s = .next s)) ∧
  (∀ (n : Tile) (slot : Fin 5) (e : BlkEntry) (s : State), s.canonical → Map.rising s.blk = true →
    (s.bl n.val).traceDue = none →
    (s.blkAwake n.val = false ∨ (s.bl n.val).queue = [] → exec (.blockRunStart n slot) s = .next s ∧ exec (.blockSettleTimeout n) s = .next s) ∧
    (s.blkAwake n.val = true → slot.val = 4 → (s.bl n.val).queue = [e] → 0x1000 ≤ e.chan → e.chan < 0x1010 → s.entryDue n.val e = true →
      (s.bl n.val).runs = [] → (s.bl n.val).traceCrown = false → s.f (F.CROWN_STAT_STATE n.val) = 2 → s.roleMoves n.val 3 = false →
      ∃ u : State, exec (.blockRunStart n slot) s = .next u ∧ exec (.blockSettleTimeout n) s = .next u ∧
        u.f (F.CROWN_PLANE_BLOCKING n.val (e.chan % 16)) = 1 ∧ (u.bl n.val).queue = [] ∧
        (u.bl n.val).runs = [{ slot := 4, chan := e.chan, prio := e.prio, carrier := .none, at_ := s.bell, phase := 1 }] ∧ s.keepsMemory u)) ∧
  (∀ (n : Tile) (chan : BitVec 16) (found : BlkFound) (r : BlkRun) (s : State), s.canonical → Map.rising s.blk = true → let c := chan.toNat
    0x1000 ≤ c → c < 0x1010 → (s.bl n.val).runs.find? (fun r => r.chan == c && r.phase == 1) = some r → s.detained n.val c = false →
    (found.limits = true → found.residual = true → ∃ u : State, exec (.blockRunEnd n chan found) s = .next u ∧
      u.f (F.BLK_LAST_CHAN n.val) = c ∧ u.f (F.BLK_LAST_RESULT n.val) = 0 ∧ u.f (F.BLK_CNT_RUN n.val) = min (s.f (F.BLK_CNT_RUN n.val) + 1) (2 ^ 32 - 1) ∧
      Map.find c (u.bl n.val).temp = some (s.bl n.val).avg ∧ Map.find c (u.bl n.val).done = some s.bell ∧ u.f (F.CROWN_PLANE_BLOCKING n.val (c % 16)) = 0 ∧
      (u.bl n.val).runs.any (fun r => r.chan == c) = false) ∧
    (found.limits = false ∨ found.residual = false → ∃ u : State, exec (.blockRunEnd n chan found) s = .next u ∧
      u.f (F.BLK_LAST_RESULT n.val) = (if found.limits then 2 else 1) ∧ u.f (F.BLK_CNT_REJ n.val) = min (s.f (F.BLK_CNT_REJ n.val) + 1) (2 ^ 32 - 1) ∧
      (u.bl n.val).runs.any (fun r => r.chan == c) = false ∧ (Map.get 0 (s.bl n.val).fails c = 2 → u.detained n.val c = true) ∧
      (Map.get 0 (s.bl n.val).fails c < 2 → Map.find c (u.bl n.val).fails = some (Map.get 0 (s.bl n.val).fails c + 1) ∧ u.detained n.val c = false))) ∧
  (∀ (n : Tile) (chan : BitVec 16) (found : BlkFound) (s : State), let c := chan.toNat
    (s.bl n.val).runs.any (fun r => r.chan == c) = false → exec (.blockRunEnd n chan found) s = .next s ∧ exec (.blockRunAbort n chan) s = .next s) ∧
  (∀ (n : Tile) (chan : BitVec 16) (r : BlkRun) (s : State), s.canonical → Map.rising s.blk = true → let c := chan.toNat
    (s.bl n.val).runs.filter (fun r => r.chan == c && r.phase != 2) = [r] →
    ∃ u : State, exec (.blockRunAbort n chan) s = .next u ∧ u.f (F.BLK_LAST_CHAN n.val) = c ∧ u.f (F.BLK_LAST_RESULT n.val) = 3 ∧
      (u.bl n.val).runs.any (fun r => r.chan == c) = false ∧ (u.bl n.val).queue = { chan := c, prio := r.prio, diff := 0, at_ := s.bell } :: (s.bl n.val).queue ∧
      (u.bl n.val).fails = (s.bl n.val).fails) ∧
  (∀ (p : Port) (s : State),
    let run := (s.bl (p.val / 3)).runs.find? (fun r => r.slot == p.val % 3 && r.again)
    (run = none → exec (.laneRunRefused p) s = .next s) ∧
    (∀ r, run = some r → (r.phase = 2 → exec (.laneRunRefused p) s = .next (s.restoreLane (p.val / 3) r)) ∧
      (r.phase ≠ 2 → 16 ≤ r.refused → exec (.laneRunRefused p) s = .next ((s.dropRun (p.val / 3) r.chan).deferLane (p.val / 3) r.chan r.prio)))) ∧
  (∀ (p : Packet) (s : State) (o : Nat), Map.rising s.blk = true → let b := s.begun p
    (s.accepts blockRunDef p o → ∃ t : State, exec (.blockRun p) s = .next t ∧ (p.w 0 = 0x4000 → (t.bl p.unit).traceRuns = (b.bl p.unit).traceRuns ++ [b.proctor.nextId]) ∧
      (p.w 0 ≠ 0xFFFF → p.w 0 ≠ 0x4000 → (b.bl p.unit).runs = [] → ∃ e ∈ (t.bl p.unit).queue, e.chan = p.w 0 ∧ e.prio = 0) ∧
      b.runsOn t p o 0x700) ∧
    (s.accepts blockTraceDef p o → ∃ t : State, exec (.blockTrace p) s = .next t ∧ (t.bl p.unit).traceRuns = (b.bl p.unit).traceRuns ++ [b.proctor.nextId] ∧
      ((b.bl p.unit).tracing = false → (t.bl p.unit).tracePrio = 0 ∧ (t.bl p.unit).traceDue.isSome = true) ∧
      b.runsOn t p o 0x701) ∧
    (s.accepts blockReleaseDef p o → ∃ t : State, exec (.blockRelease p) s = .next t ∧ ((b.bl p.unit).runs = [] → ∃ e ∈ (t.bl p.unit).queue, e.chan = p.w 0 ∧ e.prio = 0) ∧
      b.runsOn t p o 0x702) ∧
    (s.accepts blockQueryDef p o → exec (.blockQuery p) s = .next (b.replies p
      (leBytes 4 (b.chanStat p.unit (p.w 0)) ++ leBytes 8 (Map.get 0 (b.bl p.unit).done (p.w 0)) ++ zeros 4))))

/-- Reference traces and ageing. (R204, R340, R355, R356, R357, R358, R359, R360) -/
def Obligations.TracesAndAgeing : Prop :=
  (∀ (n : Tile) (s : State), Map.rising s.blk = true → let b := s.bl n.val
    (b.traceDue = none → s.f (F.BLK_CTL_EN n.val) = 0 ∨ b.tracing = true → exec (.referenceTraceDue n) s = .next s) ∧
    (s.f (F.BLK_CTL_EN n.val) = 1 → b.tracing = false → s.b F.CLK_STAT_HOLDOVER = true ∨ s.blkAwake n.val = false →
      (∀ x, b.traceTemp = some x → 4 * s.f (F.BLK_CTL_DT n.val) < (b.avg - x).natAbs →
        ∃ u : State, exec (.referenceTraceDue n) s = .next u ∧ (u.bl n.val).traceDue = some (b.traceDue.getD s.bell) ∧ (u.bl n.val).tracePrio ≤ 2 ∧ s.keepsRegs u []) ∧
      (b.traceTemp = none → b.traceTried = none → ∃ u : State, exec (.referenceTraceDue n) s = .next u ∧ (u.bl n.val).traceDue = some (b.traceDue.getD s.bell) ∧ s.keepsRegs u [])) ∧
    (b.traceCrown = false → exec (.referenceTraceCrownEnd n) s = .next s) ∧
    (s.canonical → b.traceCrown = true → ∃ u : State, exec (.referenceTraceCrownEnd n) s = .next u ∧ (u.bl n.val).traceCrown = false ∧
      u.f (F.CROWN_STAT_STATE n.val) = (if s.f (F.CROWN_STAT_STATE n.val) = 3 then 2 else s.f (F.CROWN_STAT_STATE n.val)) ∧
      s.keepsRegs u [R.CROWN_STAT n.val, R.BLK_STAT n.val])) ∧
  (∀ (n : Tile) (found : TraceFound) (s : State), s.canonical → Map.rising s.blk = true → let b := s.bl n.val
    (b.tracing = false ∨ b.traceCrown = true → exec (.referenceTraceEnd n found) s = .next s) ∧
    (b.tracing = true → b.traceCrown = false → b.traceRuns = [] →
      (found.crown = true → found.ome = true → found.other = true → ∃ u : State, exec (.referenceTraceEnd n found) s = .next u ∧
        (u.bl n.val).tracing = false ∧ (u.bl n.val).traceFails = 0 ∧ (u.bl n.val).traceAt = some s.bell ∧ (u.bl n.val).traceTemp = some b.avg ∧
        u.f (F.BLK_CNT_RUN n.val) = min (s.f (F.BLK_CNT_RUN n.val) + 1) (2 ^ 32 - 1) ∧ u.f (F.BLK_LAST_CHAN n.val) = 0x4000 ∧ u.f (F.BLK_LAST_RESULT n.val) = 0 ∧
        u.f (F.CROWN_DLY_TX_DLY n.val) = found.txDly.toNat % 2 ^ (F.CROWN_DLY_TX_DLY n.val).width ∧ u.f (F.BLK_STAT_TRACE_AGE n.val) = 0 ∧
        u.f (F.BLK_STAT_TRACE_OK n.val) = (if s.b (F.GRID_STAT_REF_OK n.val) && !s.b F.CLK_STAT_HOLDOVER then 1 else 0) ∧
        u.f (F.OME_STAT_STATE n.val) = (if s.f (F.OME_STAT_STATE n.val) = 6 then 2 else s.f (F.OME_STAT_STATE n.val))) ∧
      (found.crown = false ∨ found.ome = false ∨ found.other = false → b.traceFails ≠ 2 → ∃ u : State, exec (.referenceTraceEnd n found) s = .next u ∧
        (u.bl n.val).tracing = false ∧ (u.bl n.val).traceFails = b.traceFails + 1 ∧ u.f (F.BLK_LAST_RESULT n.val) = 2 ∧
        u.f (F.BLK_CNT_REJ n.val) = min (s.f (F.BLK_CNT_REJ n.val) + 1) (2 ^ 32 - 1) ∧ s.keepsRegs u [R.OME_STAT n.val, R.BLK_STAT n.val, R.BLK_LAST n.val, R.BLK_CNT_REJ n.val]))) ∧
  (∀ (n : Tile) (s : State), s.canonical →
    (∀ (c : Fin 8) (days : BitVec 16), exec (.ageingEvaluation n (.laser c days)) s =
      .next (if days.toNat ≤ 30 then s.note 0x7 .ageReplan 1 (tgtTile n.val) c.val else s)) ∧
    (∀ (chan : BitVec 16) (head : BitVec 8),
      (20 ≤ head.toNat ∨ chanOk chan.toNat = false → exec (.ageingEvaluation n (.ring chan head)) s = .next s) ∧
      (head.toNat < 20 → 0x1000 ≤ chan.toNat → chan.toNat < 0x1010 → Map.rising s.blk = true →
        ∃ u : State, exec (.ageingEvaluation n (.ring chan head)) s = .next u ∧ u.detained n.val chan.toNat = true)) ∧
    (∀ perHour : BitVec 32,
      (perHour.toNat ≤ 1000 ∨ isReserve n.val = true → exec (.ageingEvaluation n (.memory perHour)) s = .next s) ∧
      (1000 < perHour.toNat → isReserve n.val = false → s.f (F.MEM_STAT_TIER n.val) = 1 → s.f (F.AGE_PLAN_LP_RATE n.val) < 2 →
        ∃ u : State, exec (.ageingEvaluation n (.memory perHour)) s = .next u ∧ u.f (F.AGE_PLAN_LP_RATE n.val) = s.f (F.AGE_PLAN_LP_RATE n.val) + 1 ∧
          u.f (F.AGE_PLAN_MEM_PENDING n.val) = 1 ∧ s.keepsMemory u)) ∧
    (∀ worst : BitVec 16, ∃ u : State, exec (.ageingEvaluation n (.pilot worst)) s = .next u ∧
      u.f (F.AGE_PLAN_SPLIT3_OFF n.val) = (if 80 < worst.toNat then 1 else s.f (F.AGE_PLAN_SPLIT3_OFF n.val)) ∧
      u.f (F.AGE_PLAN_SPLIT2_OFF n.val) = (if 120 < worst.toNat then 1 else s.f (F.AGE_PLAN_SPLIT2_OFF n.val)) ∧ s.keepsMemory u) ∧
    (∀ i : Fin 3, exec (.ageingEvaluation n (.eye i)) s = .next (s.ageEyes (3 * n.val + i.val)))) ∧
  (∀ (p : Packet) (s : State) (o : Nat), s.canonical → let b := s.begun p
    (s.accepts ageReplanResetDef p o → ∃ u : State, exec (.ageReplanReset p) s = .next (u.conclude 0x710 o true p stOk 0 [] (paramChange p) (undoOf b u)) ∧
      ((p.w 0).testBit 3 = true → u.f (F.AGE_PLAN_SPLIT3_OFF p.unit) = 0 ∧ u.f (F.AGE_PLAN_SPLIT2_OFF p.unit) = 0) ∧
      ((p.w 0).testBit 3 = false → u.f (F.AGE_PLAN_SPLIT3_OFF p.unit) = b.f (F.AGE_PLAN_SPLIT3_OFF p.unit)) ∧
      ∀ i < 3, u.f (F.AGE_PLAN_PORT_RATE p.unit) / 4 ^ i % 4 = if (p.w 0).testBit i then 0 else b.f (F.AGE_PLAN_PORT_RATE p.unit) / 4 ^ i % 4) ∧
    (s.accepts ageQueryDef p o → exec (.ageQuery p) s = .next (b.replies p (leBytes 4 (b.rd (R.AGE_PLAN p.unit)).toNat))))

/-- Assertions, the fault state of a scope and its commands. (R399, R401, R402, R403, R404, R405, R407, R408, R409, R410,
R411, R413) -/
def Obligations.FaultStates : Prop :=
  (∀ (n : Tile) (bit : BitVec 6) (hold : Bool) (s : State), let lvl := if bit.toNat < 32 then R.FLVL_LO n.val else R.FLVL_HI n.val
    let word := if bit.toNat < 32 then R.FSW_LO n.val else R.FSW_HI n.val
    (44 ≤ bit.toNat → exec (.faultSourceAssert (.tile n) bit hold) s = .next s ∧ exec (.faultSourceDeassert (.tile n) bit) s = .next s) ∧
    (bit.toNat ≠ 34 → s.bit lvl (bit.toNat % 32) = true → exec (.faultSourceAssert (.tile n) bit hold) s = .next s) ∧
    (bit.toNat ≠ 34 → s.lostTile n.val = true → exec (.faultSourceAssert (.tile n) bit false) s = .next s) ∧
    (s.canonical → bit.toNat < 44 → bit.toNat ≠ 34 → s.bit lvl (bit.toNat % 32) = false → s.lostTile n.val = false →
      (s.sevTile n.val bit.toNat = 0 → ∃ u : State, exec (.faultSourceAssert (.tile n) bit hold) s = .next u ∧ u.bit word (bit.toNat % 32) = true ∧
        u.bit lvl (bit.toNat % 32) = hold ∧ s.keepsRegs u [word, lvl] ∧ s.onlyRegs u) ∧
      (s.sevTile n.val bit.toNat = 3 → s.f (F.FSTATE_STATE n.val) = 0 → s.f F.MFSTATE_STATE = 0 →
        ∃ u : State, exec (.faultSourceAssert (.tile n) bit hold) s = .next u ∧ u.bit word (bit.toNat % 32) = true ∧ u.f (F.FSTATE_STATE n.val) = 1 ∧
          (∀ c < 8, u.f (F.LAS_STAT_STATE n.val c) = 0) ∧ (∀ i < 3, u.f (F.EYESAFE_STATE n.val i) = 2) ∧
          (s.f (F.FFIRST_VALID n.val) = 0 → u.f (F.FFIRST_SRC n.val) = bit.toNat ∧ u.f (F.FFIRST_SEV n.val) = 3 ∧ u.f (F.FFIRST_VALID n.val) = 1) ∧
          s.onlyFaults u ∧ s.keepsRegs u (tileFaultRegs n.val))) ∧
    (s.canonical → bit.toNat < 44 → ∃ u : State, exec (.faultSourceDeassert (.tile n) bit) s = .next u ∧ u.bit lvl (bit.toNat % 32) = false ∧ s.keepsRegs u [lvl])) ∧
  (∀ (bit : BitVec 6) (hold : Bool) (s : State),
    (21 ≤ bit.toNat → exec (.faultSourceAssert .module bit hold) s = .next s ∧ exec (.faultSourceDeassert .module bit) s = .next s) ∧
    (s.canonical → bit.toNat ≠ 0 → bit.toNat < 21 → s.bit R.MFLVL_SRC bit.toNat = false → s.sevModule bit.toNat = 3 → s.f F.MFSTATE_STATE = 0 →
      ∃ u : State, exec (.faultSourceAssert .module bit hold) s = .next u ∧ u.bit R.MFSW_SRC bit.toNat = true ∧ u.f F.MFSTATE_STATE = 1 ∧
        (∀ n < 48, ∀ c < 8, u.f (F.LAS_STAT_STATE n c) = 0) ∧ s.keepsMemory u) ∧
    (s.canonical → bit.toNat < 21 → ∃ u : State, exec (.faultSourceDeassert .module bit) s = .next u ∧ u.bit R.MFLVL_SRC bit.toNat = false ∧ s.keepsRegs u [R.MFLVL_SRC])) ∧
  (∀ s : State,
    (s.f F.Q_GLOBAL_SWITCHOVER = 1 → (s.fence (48 * 64)).on = false → exec .proctorWdt s = .next s) ∧
    (s.f F.Q_GLOBAL_SWITCHOVER = 0 → s.sevModule 0 = 2 → s.bit R.MFLVL_SRC 0 = false → s.lostModule = false → s.escalates (48 * 64) = true →
      ∃ u : State, exec .proctorWdt s = .next u ∧ u.clocks.resetDue = some (4, 0)) ∧
    (s.canonical → s.f F.Q_GLOBAL_SWITCHOVER = 0 → s.sevModule 0 = 2 → s.bit R.MFLVL_SRC 0 = false → s.lostModule = false → (s.fence (48 * 64)).on = false →
      s.escalates (48 * 64) = false → ∃ u : State, exec .proctorWdt s = .next u ∧ u.f F.Q_GLOBAL_SWITCHOVER = 1 ∧ (u.fence (48 * 64)).on = true ∧ u.clocks = s.clocks)) ∧
  (∀ (sc : Scope) (s : State),
    (s.f sc.stateF ≠ 1 → exec (.safeEntered sc) s = .next s) ∧
    (s.canonical → s.f sc.stateF = 1 → ∃ u : State, exec (.safeEntered sc) s = .next u ∧ u.f sc.stateF = 2 ∧ u.f F.MFSTATE_FAULT_N = 1 ∧
      u.report.condensing = true ∧ u.report.critFirst = true) ∧
    (s.f sc.stateF ≠ 2 ∨ s.quietOver sc = false → exec (.quietTimerExpiry sc) s = .next s) ∧
    (s.canonical → s.f sc.stateF = 2 → s.quietOver sc = true →
      ∃ u : State, exec (.quietTimerExpiry sc) s = .next u ∧ u.f sc.stateF = (if s.f F.MFCTL_RECOV_MAX ≤ (s.recovHour sc).length then 4 else 3)) ∧
    (s.f sc.stateF ≠ 3 → exec (.faultRecoveryDone sc) s = .next s) ∧
    (s.canonical → s.f sc.stateF = 3 → ∃ u : State, exec (.faultRecoveryDone sc) s = .next u ∧ u.f sc.stateF ≠ 3 ∧ u.f sc.cntF = min (s.f sc.cntF + 1) 255 ∧
      (∀ n : Tile, sc = .tile n → s.f F.MFSTATE_STATE = 0 → u.f (F.TILE_RST_CAUSE_LAST n.val) = 2 ∧ u.f (F.TILE_PWR_STAT_STATE n.val) = 0))) ∧
  (∀ (p : Packet) (s : State) (o : Nat), let b := s.begun p
    let key := (scopeOf p).key * 64 + p.w 0
    (s.accepts faultStatusDef p o → let v := b.syncHour (scopeOf p)
      (p.kind = 1 → exec (.faultStatus p) s = .next (v.replies p ([R.FSW_LO p.unit, R.FSW_HI p.unit, R.FLVL_LO p.unit, R.FLVL_HI p.unit, R.FFIRST p.unit,
        R.FFIRST_BELL_LO p.unit, R.FFIRST_BELL_HI p.unit, R.FSTATE p.unit].flatMap (fun off => leBytes 4 (v.rd off).toNat)))) ∧
      (p.kind = 0 → exec (.faultStatus p) s = .next (v.replies p (leBytes 4 (v.rd R.MFSW_SRC).toNat ++ zeros 4 ++ leBytes 4 (v.rd R.MFLVL_SRC).toNat ++ zeros 4 ++
        [R.MFIRST, R.MFIRST_BELL_LO, R.MFIRST_BELL_HI, R.MFSTATE].flatMap (fun off => leBytes 4 (v.rd off).toNat))))) ∧
    (s.accepts faultClearDef p o → s.canonical → ∃ u : State, exec (.faultClear p) s = .next (u.conclude 0x801 o true p stOk 0 [] (paramChange p) (undoOf b u)) ∧
      (p.kind = 1 → u.rd (R.FSW_LO p.unit) = b.rd (R.FSW_LO p.unit) &&& ~~~ (BitVec.ofNat 32 (p.w 0)) ∧
        u.rd (R.FSW_HI p.unit) = b.rd (R.FSW_HI p.unit) &&& ~~~ (BitVec.ofNat 32 (p.w 1)) ∧ (p.w 2 = 1 → u.f (F.FFIRST_VALID p.unit) = 0)) ∧
      (p.kind = 0 → u.rd R.MFSW_SRC = b.rd R.MFSW_SRC &&& ~~~ (BitVec.ofNat 32 (p.w 0)) ∧ (p.w 2 % 2 = 1 → u.f F.MFIRST_VALID = 0) ∧
        (2 ≤ p.w 2 → u.rd R.MFSW_TILE_LO = 0 ∧ u.rd R.MFSW_TILE_HI = 0)) ∧ b.onlyRegs u) ∧
    (s.accepts faultReleaseDef p o → s.canonical → ∃ u : State, exec (.faultRelease p) s = .next (u.conclude 0x802 o true p stOk 0 [] (paramChange p) (undoOf b u)) ∧
      u.f (scopeOf p).stateF = 3 ∧ b.f (scopeOf p).stateF = 4) ∧
    (s.accepts faultUnfenceDef p o → ∃ v, (b.fence key).on = true ∧ (v : State).fence key = { b.fence key with on := false, lifted := some b.bell } ∧
      let u := (v.unfenceBlock (scopeOf p) (p.w 0)).adoptFree
      exec (.faultUnfence p) s = .next (u.conclude 0x803 o true p stOk 0 [] (paramChange p) (undoOf b u))) ∧
    (s.accepts faultInjectDef p o → let u := b.assertSource (scopeOf p) (p.w 0) false
      exec (.faultInject p) s = .next (u.conclude 0x804 o true p stOk 0 [] (paramChange p) (undoOf b u)) ∧ b.f F.MFCTL_INJECT_EN = 1))

/-- Records, folding, condensation and the Report Card's commands. (R414, R416, R417, R418, R419, R420) -/
def Obligations.ReportCard : Prop :=
  (∀ (s : State) (code : RecCode) (sev source : Nat) (v : Int), s.islandMode = false →
    ((s.report.live ++ s.report.island).find? (Rec.isKey code source) = none → s.report.live.length < 1048576 → s.report.live.countP (·.opn) < 4096 →
      (s.record code sev source v).report.live = s.report.live ++ [Rec.start code sev source s.bell (s.report.nextSeq % 2 ^ 32) false v] ∧
      (s.record code sev source v).report.nextSeq = s.report.nextSeq + 1 ∧ s.onlyLog (s.record code sev source v)) ∧
    (∀ r, (s.report.live ++ s.report.island).find? (Rec.isKey code source) = some r → s.bell - r.tStart < s.f F.RC_CTL_WINDOW * 100000 →
      (s.record code sev source v).report.live = s.report.live.map (fun x => if Rec.isKey code source x then x.fold s.bell v else x) ∧
      (s.record code sev source v).report.nextSeq = s.report.nextSeq)) ∧
  (∀ s : State,
    (∃ u : State, exec .condensationDue s = .next u ∧ u.report.condensing = true ∧ u.report.live = s.report.live.map (fun r => { r with opn := false }) ∧
      u.report.island = s.report.island.map (fun r => { r with opn := false }) ∧ u.report.flash = s.report.flash ∧ s.onlyLog u ∧
      s.keepsRegs u [R.RC_STAT, R.RC_SEQ, R.RC_FLASH_SEQ]) ∧
    (s.report.condensing = false → exec .condensationDone s = .next s) ∧
    (s.report.condensing = true → ∃ u : State, exec .condensationDone s = .next u ∧ u.report.condensing = false ∧ u.report.condRuns = [] ∧
      u.report.live = s.report.live ∧ u.report.island = s.report.island ∧
      (s.report.critFirst = false → s.report.flash.length + s.toCondense.length ≤ 4194304 → u.report.flash = s.report.flash ++ s.toCondense)) ∧
    (s.islandMode = true → exec .islandBufferCopy s = .next s) ∧
    (s.islandMode = false → ∃ u : State, exec .islandBufferCopy s = .next u ∧ u.report.island = [] ∧ u.report.flash = s.report.flash ∧
      (s.report.live.length + s.report.island.length ≤ 1048576 → (s.report.island.all (fun r => !r.opn)) = true →
        ∀ r, r ∈ u.report.live ↔ r ∈ s.report.live ∨ r ∈ s.report.island))) ∧
  (∀ r : Rec, r.hist.length = 8 → r.bytes.length = 64) ∧
  (∀ (p : Packet) (s : State) (o : Nat), let b := s.begun p
    (s.accepts rcReadDef p o → exec (.rcRead p) s = .next (b.replies p
      ((((b.store_ (p.w 0)).filter (fun r => decide (p.w 1 ≤ r.seq))).take (p.w 2)).flatMap Rec.bytes))) ∧
    (s.accepts rcCondenseDef p o → ∃ t : State, exec (.rcCondense p) s = .next t ∧ t.report.condensing = true ∧ t.report.condRuns = b.report.condRuns ++ [b.proctor.nextId] ∧
      t.report.live = b.report.live.map (fun r => { r with opn := false }) ∧
      b.runsOn t p o 0x811) ∧
    (s.accepts rcClearDef p o → ∃ u : State, exec (.rcClear p) s = .next (u.conclude 0x812 o true p stOk 0 [] (paramChange p) (undoOf b u)) ∧
      u.report.live = (if p.w 0 % 2 = 1 then [] else b.report.live) ∧ u.report.island = (if p.w 0 % 2 = 1 then [] else b.report.island) ∧
      u.report.flash = (if 2 ≤ p.w 0 then [] else b.report.flash)) ∧
    (s.accepts rcCodeListDef p o → ∃ res : List Byte, exec (.rcCodeList p) s = .next (b.replies p res) ∧ res.length = 48 * b.codeList.length))

/-- Pairing, leases, mirror records and commands of a twin. (R426, R427, R428, R431, R432, R433, R435, R436, R439, R444,
R445, R447) -/
def Obligations.TwinPairs : Prop :=
  (∀ (s : State) (st : Nat), s.canonical → st < 8 → let u := s.setTwin st
    u.f F.TWIN_STAT_STATE = st ∧ u.f F.TWIN_STAT_HOLDER = (if st = 4 ∨ st = 5 then 1 else 0) ∧ u.f F.TWIN_STAT_SYNCED = (if st = 3 ∨ st = 4 then 1 else 0) ∧
      u.f F.TWIN_STAT_HOME = s.f F.TWIN_STAT_HOME ∧ s.onlyRegs u ∧ s.keepsRegs u [R.TWIN_STAT]) ∧
  (∀ (via : TwinPath) (h : PairHello) (s : State), s.canonical →
    (s.twinVia via = false ∨ s.f F.TWIN_STAT_HOME = 0 ∨ (s.twinState ≠ 1 ∧ s.twinState ≠ 5) → exec (.pairHello via h) s = .next s) ∧
    (s.twinVia via = true → s.f F.TWIN_STAT_HOME ≠ 0 → s.twinState = 1 ∨ s.twinState = 5 →
      (h.stepping ≠ s.ownHello.stepping ∨ h.fw ≠ s.ownHello.fw ∨ h.ucode ≠ s.ownHello.ucode ∨ h.pairNode ≠ s.ownHello.pairNode →
        ∃ u : State, exec (.pairHello via h) s = .next u ∧ u.f F.TWIN_STAT_STATE = 7 ∧ u.f F.TWIN_STAT_CAUSE = 1 ∧ s.keepsRegs u (R.TWIN_STAT :: logRegs) ∧ s.onlyLog u) ∧
      (h.stepping = s.ownHello.stepping → h.fw = s.ownHello.fw → h.ucode = s.ownHello.ucode → h.pairNode = s.ownHello.pairNode →
        s.twin.identity.getD h.idHash = h.idHash → s.f F.TWIN_STAT_HOME = 2 → h.home = 1 → s.twinState = 1 →
        ∃ u : State, exec (.pairHello via h) s = .next u ∧ u.f F.TWIN_STAT_STATE = 2 ∧ u.f F.TWIN_PARTNER_NODE = h.node.toNat ∧
          u.f F.TWIN_STAT_PARTNER_MCH = h.chain.toNat ∧ u.f F.TWIN_CFG_LEASE_T = max 4 h.leaseT.toNat ∧ u.epoch = max 1 s.epoch ∧
          u.twin.partner = some h ∧ u.twin.identity = some h.idHash))) ∧
  (∀ s : State,
    exec .pairHelloResend s = .next (if s.f F.TWIN_STAT_HOME ≠ 0 ∧ s.paired = false then s.emit (.hello none s.ownHello) else s) ∧
    (s.canonical → s.twinState = 1 → s.f F.TWIN_STAT_HOME = 1 → (∃ b, s.twin.readyAt = some b ∧ b + 1000000 ≤ s.bell) →
      ∃ u : State, exec .partnerWaitTimeout s = .next u ∧ u.f F.TWIN_STAT_STATE = 5 ∧ u.f F.TWIN_STAT_HOLDER = 1 ∧ u.epoch = max 1 s.epoch ∧ s.onlyRegs u) ∧
    (s.twinState ≠ 1 ∨ s.f F.TWIN_STAT_HOME ≠ 1 ∨ s.twin.readyAt = none → exec .partnerWaitTimeout s = .next s) ∧
    (s.twinState ≠ 4 → s.twinState ≠ 5 → exec .leaseRenewalDue s = .next s ∧ exec .selfFence s = .next s ∧ exec .selfDiagnosisFail s = .next s) ∧
    (s.twinState = 4 ∨ s.twinState = 5 → s.paired = true → s.twin.released = none → exec .leaseRenewalDue s = .next s.sendLease) ∧
    (s.keepsRegs s.sendLease [] ∧ s.sendLease.twin = s.twin ∧ s.keepsMemory s.sendLease) ∧
    (s.canonical → s.twinState = 4 ∨ s.twinState = 5 → (∃ b, s.twin.ackedLease = some b ∧ b + s.leaseUs ≤ s.bell) →
      ∃ u : State, exec .selfFence s = .next u ∧ u.f F.TWIN_STAT_STATE = 6 ∧ u.f F.TWIN_STAT_CAUSE = 4 ∧ u.f F.TWIN_STAT_HOLDER = 0 ∧ s.keepsRegs u [R.TWIN_STAT] ∧ u.twin.queue = []) ∧
    (s.twinState = 4 ∨ s.twinState = 5 → s.paired = true → s.twin.released = none → s.diagnosisFails = true →
      ∃ u : State, exec .selfDiagnosisFail s = .next u ∧ u.twin.released = some 0 ∧ u.twin.resetAfter = some (s.bell + 1000)) ∧
    (s.twinState = 3 → (∃ b, latest s.twin.leasePort s.twin.leaseChain = some b ∧ b + s.leaseUs + 100 ≤ s.bell) → exec .leaseExpiry s = .next (s.takeHallPass false)) ∧
    (s.twinState = 2 ∨ s.twinState = 6 → (∃ b, latest s.twin.leasePort s.twin.leaseChain = some b ∧ b + s.leaseUs + 100 ≤ s.bell) →
      exec .leaseExpiry s = .next (s.note 0xA .holderChange 3 tgtModule)) ∧
    ((∀ b, latest s.twin.leasePort s.twin.leaseChain = some b → s.bell < b + s.leaseUs + 100) → exec .leaseExpiry s = .next s) ∧
    (∀ planned : Bool, s.canonical → s.waitingRecords = [] → s.streams.slots = [] → s.work.ctxs = [] →
      let u := s.takeHallPass planned
      u.f F.TWIN_STAT_STATE = 5 ∧ u.f F.TWIN_STAT_HOLDER = 1 ∧ u.f F.TWIN_STAT_CAUSE = 0 ∧ u.epoch = (s.epoch + 1) % 2 ^ 64 ∧
        u.f F.TWIN_CNT_HANDOVER = min (s.f F.TWIN_CNT_HANDOVER + 1) (2 ^ 32 - 1) ∧ u.twin.waits = [] ∧ u.twin.released = none)) ∧
  (∀ (via : TwinPath) (e bell mseq : BitVec 64) (lt : BitVec 32) (health reason : BitVec 8) (s : State),
    (s.fromPartner via = false ∨ e.toNat < s.epoch → exec (.lease via e bell lt mseq health) s = .next s ∧ exec (.leaseAck via e bell mseq) s = .next s ∧
      exec (.release via e mseq reason) s = .next s) ∧
    (s.canonical → s.fromPartner via = true → s.epoch ≤ e.toNat →
      (s.twinState = 2 ∨ s.twinState = 3 → ∃ u : State, exec (.lease via e bell lt mseq health) s = .next u ∧ u.epoch = e.toNat ∧ u.twinState = s.twinState ∧
        (match via with | .port _ => u.twin.leasePort = some s.bell | .chain _ => u.twin.leaseChain = some s.bell)) ∧
      (s.twinState = 6 → ∃ u : State, exec (.lease via e bell lt mseq health) s = .next u ∧ u.twinState = 2 ∧ u.epoch = e.toNat) ∧
      (s.twinState = 4 ∨ s.twinState = 5 → s.epoch < e.toNat →
        ∃ u : State, exec (.lease via e bell lt mseq health) s = .next u ∧ u.epoch = e.toNat ∧ u.twinState = (if s.twin.planned then 3 else 2)) ∧
      (s.twinState = 4 ∨ s.twinState = 5 → s.twin.released = some 0 → ∃ u : State, exec (.leaseAck via e bell mseq) s = .next u ∧ u.twinState = 2) ∧
      (s.twinState = 5 → s.twin.released = none → s.twin.planned = true → ∃ u : State, exec (.leaseAck via e bell mseq) s = .next u ∧ u.twinState = 4 ∧ u.twin.planned = false ∧
        u.twin.ackedLease = latest s.twin.ackedLease (some bell.toNat)) ∧
      (s.twinState = 3 → reason.toNat ≤ 1 → exec (.release via e mseq reason) s = .next ((s.sendLeaseAck via e.toNat s.bell).takeHallPass (reason.toNat == 1))) ∧
      (s.twinState = 3 → s.twin.revertDue = true → ∃ u : State, exec (.lease via e bell lt mseq health) s = .next u ∧ u.twin.released = some 2 ∧ u.twin.revertDue = false) ∧
      (s.twinState = 3 → s.twin.released = some 2 → ∃ v, exec (.leaseAck via e bell mseq) s = .next ((v : State).takeHallPass true) ∧ s.keepsRegs v [R.MFLVL_SRC]) ∧
      (s.twinState = 2 → reason.toNat ≤ 1 → exec (.release via e mseq reason) s = .next (s.note 0xA .holderChange 3 tgtModule)) ∧
      (s.twinState = 4 → reason.toNat = 2 → ∃ u : State, exec (.release via e mseq reason) s = .next u ∧ u.twin.released = some 1 ∧ u.twin.planned = true))) ∧
  (∀ s : State, let near := fun (a b : Option Nat) => match latest a b with | some x => decide (s.bell < x + 1000) | none => false
    let p := near s.twin.leasePort s.twin.ackPort
    let c := near s.twin.leaseChain s.twin.ackChain
    (p = c ∨ s.twinState = 0 → exec .leasePathLoss s = .next s) ∧
    (p ≠ c → s.twinState ≠ 0 → exec .leasePathLoss s = .next ((s.updTwin (fun t => { t with syncedAt := none, revertDue := false })).raiseMod 13 0 true)) ∧
    (s.canonical → s.mirrorBreak.f F.TWIN_STAT_STATE = 2 ∧ s.mirrorBreak.twin.done = [] ∧ s.mirrorBreak.twin.copyDone = false) ∧
    (s.paired = false ∨ (allPorts.any (fun p => isTwinPort p && s.twinUp p)) = true → exec .twinPortsUnreachable s = .next s) ∧
    (s.paired = true → (allPorts.any (fun p => isTwinPort p && s.twinUp p)) = false →
      (s.twinState = 3 → exec .twinPortsUnreachable s = .next s.mirrorBreak) ∧
      (s.twinState = 4 → (∃ b, s.twin.ackChain = some b ∧ s.bell ≤ b + s.leaseUs) → exec .twinPortsUnreachable s = .next s.standbyLost)) ∧
    (s.canonical → s.twinState = 5 → s.twin.resyncing = true → s.twin.queue = [] → s.twin.frames = [] → (∀ e ∈ s.twin.sent, Map.get 0 s.twin.acked e.1 = e.2) →
      ∃ u : State, exec .resyncComplete s = .next u ∧ u.twinState = 4 ∧ u.f F.TWIN_STAT_SYNCED = 1 ∧ u.twin.resyncing = false) ∧
    (s.canonical → s.twinState = 2 → s.twin.copyDone = true → s.twin.asm = [] → (∀ e ∈ s.twin.done, Map.get 0 s.twin.doneAcked e.1 = e.2) →
      ∃ u : State, exec .resyncComplete s = .next u ∧ u.twinState = 3 ∧ u.f F.TWIN_STAT_SYNCED = 1) ∧
    (s.twinState = 3 → s.f F.TWIN_STAT_HOME = 1 → s.f F.TWIN_CFG_REVERT_EN = 1 → s.bothPaths = true →
      (∃ b, s.twin.syncedAt = some b ∧ b + s.f F.TWIN_CFG_REVERT_HOLD * 1000000 ≤ s.bell) → exec .revertHoldExpiry s = .next (s.updTwin (fun t => { t with revertDue := true }))) ∧
    (s.twinState ≠ 3 ∨ s.f F.TWIN_CFG_REVERT_EN = 0 → exec .revertHoldExpiry s = .next s)) ∧
  (∀ (v : Via) (p : Port) (n : Tile) (bytes : List Byte) (s s1 : State), let tu := Tu.parse bytes
    (s.notHolder = false ∨ tu.type = 0 ∨ 3 < tu.type → exec (.holderNotice v bytes) s = .next s) ∧
    (s.notHolder = true → tu.type ≠ 0 → tu.type ≤ 3 → exec (.holderNotice v bytes) s = .next
      (s.takeTu v.code 0 bytes (fun s tu => match s.tuStream v.code tu with | .error s1 => s1 | .ok _ => s))) ∧
    (tu.type ≠ 9 → exec (.mirror p bytes) s = .next s) ∧
    (tu.type = 9 → s.twinUp p.val = false ∨ (s.twinState ≠ 2 ∧ s.twinState ≠ 3) → exec (.mirror p bytes) s = .next ((s.popRx p.val 0 (fitBytes 232 bytes)).getD s)) ∧
    (tu.type = 9 → s.twinUp p.val = true → s.twinState = 2 ∨ s.twinState = 3 → s.popRx p.val 0 (fitBytes 232 bytes) = some s1 →
      (s.nextRecord tu = true → exec (.mirror p bytes) s = .next (s1.takeRecord tu)) ∧
      (s.canonical → s.waitingRecords = [(p.val, { type := .data, vc := 0, payload := bytes })] → ∀ x, Map.find (tu.stream % 64) s.twin.done = some x →
        x % 2 ^ 32 < tu.tsn → tu.tsn < x % 2 ^ 32 + 2 ^ 31 → ∃ u : State, exec (.mirror p bytes) s = .next u ∧ u.twinState = 2)) ∧
    (tu.type ≠ 10 → exec (.mirrorAck p bytes) s = .next s) ∧
    (tu.type = 10 → s.twinUp p.val = false ∨ (s.twinState ≠ 4 ∧ s.twinState ≠ 5) → exec (.mirrorAck p bytes) s = .next ((s.popRx p.val 1 (fitBytes 232 bytes)).getD s)) ∧
    (tu.type = 10 → s.twinUp p.val = true → s.twinState = 4 ∨ s.twinState = 5 → s.popRx p.val 1 (fitBytes 232 bytes) = some s1 →
      ∀ a d, a = Map.get 0 s.twin.acked (tu.stream % 64) → d = (tu.tsn + 1 + 2 ^ 32 - a % 2 ^ 32) % 2 ^ 32 →
        (d = 0 ∨ Map.get 0 s.twin.sent (tu.stream % 64) < a + d → exec (.mirrorAck p bytes) s = .next s1) ∧
        (d ≠ 0 → a + d ≤ Map.get 0 s.twin.sent (tu.stream % 64) → s.twin.waits = [] → ∃ u : State, exec (.mirrorAck p bytes) s = .next u ∧
          Map.find (tu.stream % 64) u.twin.acked = some (a + d) ∧ u.twin.frames = s.twin.frames.filter (fun f => !(f.1 == tu.stream % 64 && decide (f.2 < a + d))))) ∧
    (Map.get 0 s.twin.done n.val ≤ Map.get 0 s.twin.doneAcked n.val → exec (.mirrorAckDue n) s = .next s) ∧
    (s.twinState = 2 ∨ s.twinState = 3 → Map.get 0 s.twin.doneAcked n.val < Map.get 0 s.twin.done n.val → exec (.mirrorAckDue n) s = .next (s.sendMirrorAck n.val))) ∧
  (∀ (p : Packet) (s : State) (o : Nat), let b := s.begun p
    (s.accepts twinStatusDef p o → exec (.twinStatus p) s = .next (b.replies p (([R.TWIN_STAT, R.TWIN_PARTNER, R.TWIN_HP_EPOCH_LO, R.TWIN_HP_EPOCH_HI, R.TWIN_LEASE,
      R.TWIN_MIRROR, R.TWIN_RESYNC].flatMap (fun off => leBytes 4 (b.view off).toNat)) ++ zeros 4))) ∧
    (s.accepts twinBindDef p o → s.canonical → ∃ u : State, exec (.twinBind p) s = .next (u.conclude 0xA01 o true p stOk 0 [] (paramChange p) (undoOf b u)) ∧
      u.f F.TWIN_STAT_CAUSE = 0 ∧ (∀ h, b.twin.partner = some h → u.twin.identity = some h.idHash) ∧ b.keepsRegs u [R.TWIN_STAT]) ∧
    (s.accepts twinHandoverDef p o → ∃ t : State, exec (.twinHandover p) s = .next t ∧ t.twin.released = some 1 ∧ t.twin.planned = true ∧
      t.twin.handover = some b.proctor.nextId ∧
      b.runsOn t p o 0xA02) ∧
    (s.accepts twinForceTakeDef p o → let u := b.takeHallPass false
      exec (.twinForceTake p) s = .next (u.conclude 0xA03 o true p stOk 0 [] (paramChange p) (undoOf b u))) ∧
    (s.accepts gangCfgDef p o → ∃ u : State, u = b.updTwin (fun t => { t with gangNext := some (p.w 0 == 1, p.w 1, p.w 2, p.w 3) }) ∧
      exec (.gangCfg p) s = .next (u.conclude 0xA10 o true p stOk 0 [] (if b.twin.gangNext = u.twin.gangNext then [] else paramChange p) (undoOf b u))) ∧
    (s.f F.TWIN_STAT_STATE = 7 → ¬ s.accepts twinStatusDef p o ∧ ¬ s.accepts twinBindDef p o ∧ ¬ s.accepts twinHandoverDef p o ∧
      ¬ s.accepts twinForceTakeDef p o ∧ ¬ s.accepts gangCfgDef p o))

/-- Tile, memory, inlet and die temperatures, and the discovery of dies. (R387, R388, R389, R390, R391, R392, R396, R398,
R451, R454, R457, R458) -/
def Obligations.ThermalAndSites : Prop :=
  (∀ (n : Tile) (diodes : List (BitVec 16)) (ring : Option (BitVec 16)) (s : State),
    (s.f (F.TILE_PWR_STAT_STATE n.val) = 3 ∨ s.clocks.tripped = true → exec (.tjSample n diodes ring) s = .next s ∧ exec (.throttleLoopTick n) s = .next s) ∧
    (s.canonical → s.f (F.TILE_PWR_STAT_STATE n.val) ≠ 3 → s.clocks.tripped = false → Map.rising s.therm = true → ∀ d : BitVec 16, 0 ≤ d.toInt → d.toInt < 1050 →
      diodes = List.replicate 8 d → ring = none → s.bit (R.FLVL_LO n.val) 3 = false →
      ∃ u : State, exec (.tjSample n diodes ring) s = .next u ∧ (u.th n.val).tj = d.toInt ∧ u.f (F.TTH_STAT_TJ n.val) = (d.toInt / 10).toNat ∧
        u.f (F.TTH_STAT_DIODE_FAIL n.val) = 0 ∧ u.f (F.TTH_STAT_RING_FAIL n.val) = 1 ∧ (950 ≤ d.toInt → (u.th n.val).warn = true) ∧
        (950 ≤ d.toInt → (s.th n.val).warn = false → u.f (F.TTH_EVT_WARN n.val) = 1) ∧ s.keepsMemory u ∧ (∀ m < 48, (u.th m).tj / 10 ≤ (u.th (u.f F.TH_STAT_TJ_TILE)).tj / 10)) ∧
    (∀ (tj : Int), s.canonical → 1050 ≤ tj → s.bit (R.FLVL_LO n.val) 3 = false → s.lostTile n.val = false → s.f (F.FSTATE_STATE n.val) = 0 → s.f F.MFSTATE_STATE = 0 →
      (s.tjActs n.val tj).f (F.FSTATE_STATE n.val) = 1 ∧ (s.tjActs n.val tj).f (F.TTH_EVT_SAFE n.val) = 1 ∧ (s.tjActs n.val tj).bit (R.FLVL_LO n.val) 3 = true) ∧
    (∀ (tj : Int), s.canonical → tj < 1000 → s.bit (R.FLVL_LO n.val) 3 = true → (s.tjActs n.val tj).bit (R.FLVL_LO n.val) 3 = false ∧ (s.tjActs n.val tj).f (F.TTH_STAT_SAFE_SRC n.val) = 0) ∧
    (s.clocks.tripped = true → exec (.thermtrip n) s = .next s) ∧
    (s.canonical → s.clocks.tripped = false → ∃ u : State, exec (.thermtrip n) s = .next u ∧ u.clocks.tripped = true ∧ Out.thermtripN ∈ u.out ∧ u.dram = [] ∧ u.proctor.running = [] ∧
      u.f F.TH_STAT_THERMTRIP = 1 ∧ (∀ m < 48, u.f (F.TILE_PWR_STAT_STATE m) = 5 ∧ u.f (F.MEM_STAT_STATE m) = 0) ∧ u.report.live = []) ∧
    (s.canonical → Map.rising s.therm = true → s.f (F.TILE_PWR_STAT_STATE n.val) ≠ 3 → s.clocks.tripped = false → 1000 ≤ (s.th n.val).tj → (s.th n.val).steps < 6 →
      ∃ u : State, exec (.throttleLoopTick n) s = .next u ∧ (u.th n.val).steps = (s.th n.val).steps + 1 ∧ u.f (F.TTH_STAT_THROTTLE n.val) = 1) ∧
    (s.f (F.TILE_PWR_STAT_STATE n.val) ≠ 3 → s.clocks.tripped = false → (s.th n.val).tj < 1000 → (s.th n.val).steps = 0 → s.f (F.TTH_STAT_THROTTLE n.val) = 0 →
      exec (.throttleLoopTick n) s = .next s)) ∧
  (∀ (n : Tile) (temp : BitVec 8) (s : State),
    (isReserve n.val = true → exec (.memTempSample n temp) s = .next s) ∧
    (isCorner n.val = true → exec (.memTempSample n temp) s = .next (s.memSample n.val [n.val] temp.toNat)) ∧
    (isMemTile n.val = true → ∃ first rest, stackTiles n.val = first :: rest ∧ exec (.memTempSample n temp) s = .next (s.memSample first (first :: rest) temp.toNat)) ∧
    (s.canonical → Map.rising s.therm = true → temp.toNat < 105 → (s.th n.val).memTrip = false →
      (s.memTempTile n.val temp.toNat false).f (F.MEM_STAT_TEMP n.val) = temp.toNat ∧ ((s.memTempTile n.val temp.toNat false).th n.val).memTrip = false ∧
      (85 ≤ temp.toNat → (s.memTempTile n.val temp.toNat false).f (F.MEM_STAT_REFRESH_2X n.val) = 1) ∧
      (temp.toNat < 82 → (s.memTempTile n.val temp.toNat false).f (F.MEM_STAT_REFRESH_2X n.val) = 0))) ∧
  (∀ (n : Fin 8) (v : BitVec 16) (op sh : Bool) (s : State),
    (s.f (F.TH_RD_CFG_MODE n.val) ≠ 1 → s.f (F.TH_RD_CFG_MODE n.val) ≠ 2 → exec (.remoteDiodeUpdate n v op sh) s = .next s) ∧
    (s.canonical → s.f (F.TH_RD_CFG_MODE n.val) = 1 ∨ s.f (F.TH_RD_CFG_MODE n.val) = 2 → ∃ u : State, exec (.remoteDiodeUpdate n v op sh) s = .next u ∧
      u.b (F.TH_RD_VAL_OPEN n.val) = op ∧ u.b (F.TH_RD_VAL_SHORT n.val) = sh ∧ u.f (F.TH_RD_VAL_TEMP n.val) = (if op || sh then 0x8000 else v.toNat) ∧
      (op = false → sh = false → s.f (F.TH_RD_LIM_WARN_C n.val) ≠ 127 →
        (u.b (F.TH_RD_VAL_WARN n.val) = true ↔ signedOf 8 (s.f (F.TH_RD_LIM_WARN_C n.val)) * 16 < v.toInt)) ∧
      (op = true ∨ sh = true → u.f (F.TH_RD_VAL_WARN n.val) = 0 ∧ u.f (F.TH_RD_VAL_CRIT n.val) = 0) ∧ s.keepsMemory u)) ∧
  (∀ s : State,
    (s.f F.TH_CTL_COOL_EN = 0 ∨ s.channel (s.f F.TH_CTL_INLET_CH) = none → exec .coolantCheck s = .next s) ∧
    (s.canonical → s.f F.TH_CTL_COOL_EN = 1 → ∀ v, s.channel (s.f F.TH_CTL_INLET_CH) = some v → v ≤ s.f F.TH_CTL_INLET_MAX * 16 → s.power.inletOkAt = none →
      s.channel (s.f F.TH_CTL_OUTLET_CH) = none →
      ∃ u : State, exec .coolantCheck s = .next u ∧ u.power.inletOkAt = some s.bell ∧ u.power.inletHighAt = none ∧ u.bit R.MFLVL_SRC 7 = false ∧ s.keepsRegs u [R.MFLVL_SRC, R.PWR_STAT]) ∧
    (s.canonical → s.f F.TH_CTL_COOL_EN = 1 → ∀ v, s.channel (s.f F.TH_CTL_INLET_CH) = some v → s.f F.TH_CTL_INLET_MAX * 16 + 80 ≤ v →
      ∃ u : State, exec .coolantCheck s = .next u ∧ u.f F.TH_STAT_INLET_HIGH = 1 ∧ u.f F.PWR_STAT_CEIL_W ≤ 1100 ∧ u.power.inletCrit = true)) ∧
  (∀ (n : Fin 2) (reads : List (List Byte)) (train : SiteTrain) (k : Fin 4) (s : State), s.canonical → Map.rising s.site = true →
    (s.f (F.XSITE_STAT_STATE n.val) ≠ 1 → exec (.siteDiscovery n reads train) s = .next s ∧ exec (.sidebandTimeout n) s = .next s) ∧
    (s.f (F.XSITE_STAT_STATE n.val) = 1 →
      (∃ u : State, exec (.sidebandTimeout n) s = .next u ∧ u.f (F.XSITE_STAT_STATE n.val) = 0 ∧ (u.st n.val).runs = []) ∧
      ((reads.take 3).find? capOk = none → ∃ u : State, exec (.siteDiscovery n reads train) s = .next u ∧ u.f (F.XSITE_STAT_STATE n.val) = 5 ∧ u.f (F.XSITE_STAT_REASON n.val) = 4) ∧
      (∀ cap, (reads.take 3).find? capOk = some cap → cap.length = 64 → train.held = 0 → ∃ u : State, exec (.siteDiscovery n reads train) s = .next u ∧
        (s.admission cap ≠ 0 → u.f (F.XSITE_STAT_STATE n.val) = 5 ∧ u.f (F.XSITE_STAT_REASON n.val) = s.admission cap) ∧
        (s.admission cap = 0 → u.f (F.XSITE_STAT_STATE n.val) = (if s.f (F.XSITE_CFG_NODE n.val) = 0 then 2 else 3) ∧
          u.f (F.XSITE_STAT_MOD_UP n.val) = (s.siteWidth n.val train).1 ∧
          u.f (F.XSITE_STAT_MOD_X32 n.val) = (s.siteWidth n.val train).2 ∧ u.f (F.XSITE_TEMP_T_TRIP n.val) = leAt cap 52 1))) ∧
    (s.f (F.XSITE_STAT_MOD_UP n.val) / 2 ^ k.val % 2 = 0 → exec (.ucieWidthDegrade n k) s = .next s) ∧
    (s.f (F.XSITE_STAT_MOD_UP n.val) / 2 ^ k.val % 2 = 1 → ∃ u : State, exec (.ucieWidthDegrade n k) s = .next u ∧
      (s.f (F.XSITE_CFG_X32_EN n.val) = 1 → s.f (F.XSITE_STAT_MOD_X32 n.val) / 2 ^ k.val % 2 = 0 →
        u.f (F.XSITE_STAT_MOD_X32 n.val) / 2 ^ k.val % 2 = 1 ∧ u.f (F.XSITE_STAT_MOD_UP n.val) = s.f (F.XSITE_STAT_MOD_UP n.val)) ∧
      (s.f (F.XSITE_CFG_X32_EN n.val) = 0 ∨ s.f (F.XSITE_STAT_MOD_X32 n.val) / 2 ^ k.val % 2 = 1 →
        u.f (F.XSITE_STAT_MOD_UP n.val) = s.f (F.XSITE_STAT_MOD_UP n.val) - 2 ^ k.val))) ∧
  (∀ (n : Fin 2) (t : BitVec 8) (w : BitVec 16) (s : State),
    (s.diePowered n.val = false → exec (.dieTempReport n t) s = .next s ∧ exec (.dieThrottleStep n) s = .next s ∧ exec (.dieTempReportTimeout n) s = .next s ∧
      exec (.sitePowerSample n w) s = .next s) ∧
    (s.canonical → Map.rising s.site = true → s.diePowered n.val = true →
      (t.toNat < s.f (F.XSITE_TEMP_T_TRIP n.val) → ∃ u : State, exec (.dieTempReport n t) s = .next u ∧ u.f (F.XSITE_TEMP_TEMP n.val) = t.toNat ∧ (u.st n.val).lastReport = some s.bell ∧
        (t.toNat + 3 < s.f (F.XSITE_TEMP_T_THROTTLE n.val) → (u.st n.val).steps = 0)) ∧
      (s.f (F.XSITE_TEMP_T_TRIP n.val) ≤ t.toNat → ∃ v, (v : State).f (F.XSITE_TEMP_TEMP n.val) = t.toNat ∧
        exec (.dieTempReport n t) s = .next (v.assertModule (14 + n.val) t.toNat)) ∧
      (s.f (F.XSITE_TEMP_T_THROTTLE n.val) ≤ s.f (F.XSITE_TEMP_TEMP n.val) → ∃ u : State, exec (.dieThrottleStep n) s = .next u ∧
        (u.st n.val).steps = min 3 ((s.st n.val).steps + 1) ∧ s.keepsRegs u [R.XSITE_PWR n.val]) ∧
      (s.f (F.XSITE_TEMP_TEMP n.val) < s.f (F.XSITE_TEMP_T_THROTTLE n.val) → exec (.dieThrottleStep n) s = .next s) ∧
      (∀ b, (s.st n.val).lastReport = some b → exec (.dieTempReportTimeout n) s = .next (if b + 10000 ≤ s.bell then s.assertModule (14 + n.val) else s)) ∧
      (w.toNat * 10 ≤ capPmax (s.st n.val).cap * 11 → s.f (F.XSITE_PWR_LIMIT n.val) = 0 → w.toNat ≤ 2100 → ∃ u : State, exec (.sitePowerSample n w) s = .next u ∧
        u.f (F.XSITE_PWR_P n.val) = w.toNat ∧ (u.st n.val).overs = [] ∧ s.keepsRegs u [R.XSITE_PWR n.val]))) ∧
  (∀ (p : Packet) (s : State) (o : Nat), s.canonical → let b := s.begun p
    (s.accepts xsiteResetDef p o →
      (b.f (F.XSITE_CFG_EN p.unit) = 1 → ∃ t : State, exec (.xsiteReset p) s = .next t ∧ t.f (F.XSITE_STAT_STATE p.unit) = 1 ∧ b.proctor.nextId ∈ (t.st p.unit).runs ∧
        (t.fence (48 * 64 + 14 + p.unit)).on = false ∧
        b.runsOn t p o 0x140) ∧
      (b.f (F.XSITE_CFG_EN p.unit) = 0 → ∃ u : State, exec (.xsiteReset p) s = .next (u.conclude 0x140 o true p stOk 0 [] (paramChange p) (undoOf b u)) ∧ u.f (F.XSITE_STAT_STATE p.unit) = 0)) ∧
    (s.accepts xsiteCapReadDef p o → exec (.xsiteCapRead p) s = .next (b.replies p (fitBytes 64 (b.st p.unit).cap))))

/-- Attestation, signed updates, the switchover and test mode. (R462, R463, R466, R467, R468, R470, R472, R473, R474, R475,
R478, R482) -/
def Obligations.FirmwareAndTest : Prop :=
  (∀ (p : Packet) (s : State) (o : Nat), 2 ^ 30 ≤ s.nextLeaf → ¬ s.accepts attestDef p o) ∧
  (∀ (p : Packet) (s : State) (o : Nat), s.canonical → let b := s.begun p
    (s.accepts attestDef p o →
      (b.sec.trees ≤ b.nextLeaf / 2 ^ 15 → ∃ t : State, exec (.attest p) s = .next t ∧ b.runsOn t p o 0x10 ∧ t.sec.waiting = b.sec.waiting ++ [b.proctor.nextId]) ∧
      (b.nextLeaf / 2 ^ 15 < b.sec.trees → ∃ (u : State) (rep : List Byte), exec (.attest p) s = .next (u.replies p rep) ∧
        rep.length = 5704 ∧ u.nextLeaf = b.nextLeaf + 1 ∧ u.sec.signed.head? = some s.bell)) ∧
    (s.accepts idCertReadDef p o → ∃ rep : List Byte, exec (.idCertRead p) s = .next (b.replies p rep) ∧ rep.length = 5332 ∧ leAt rep 0 4 = 1 ∧
      (rep.drop 4).take 16 = fitBytes 16 b.ident.serial) ∧
    (s.accepts fwStageDef p o → ∃ t : State, exec (.fwStage p) s = .next t ∧ b.runsOn t p o 0x900 ∧
      (∃ w, t.sec.writing = some w ∧ w.kind = p.w 0 ∧ w.slot = b.spareSlot (p.w 0)) ∧ (p.w 0 = 1 → t.slotState (1 - b.f F.SEC_STAT_ACTIVE) = 0)) ∧
    (s.accepts fwActivateDef p o →
      (p.w 0 = 3 → ∃ u : State, exec (.fwActivate p) s = .next (u.conclude 0x901 o true p stOk 0 [] (headerChange p (b.object p)) (undoOf b u)) ∧
        u.sec.manifest = 1 - b.sec.manifest ∧ u = { b with sec := u.sec }) ∧
      (p.w 0 = 1 → ∃ t : State, exec (.fwActivate p) s = .next t ∧ b.runsOn t p o 0x901 ∧ t.f F.Q_GLOBAL_SWITCHOVER = 1 ∧ t.sec.switch.isSome = true)) ∧
    (s.accepts fwTileUpdateDef p o →
      (p.unit = b.clockMaster → ∃ u : State, exec (.fwTileUpdate p) s = .next (u.conclude 0x902 o true p stOk 0 (leBytes 4 1) (headerChange p (b.object p)) (undoOf b u)) ∧
        u = b.setUcodeNew p.unit) ∧
      (p.unit ≠ b.clockMaster → ∃ t : State, exec (.fwTileUpdate p) s = .next t ∧ t.f (F.TILE_PWR_STAT_STATE p.unit) = 5 ∧ (p.unit, b.proctor.nextId) ∈ t.sec.update)) ∧
    (s.accepts secSvnCommitDef p o → b.svn ≠ p.w 0 → ∃ u : State, exec (.secSvnCommit p) s = .next (u.conclude 0x903 o true p stOk 0 [] (headerChange p (b.object p)) (undoOf b u)) ∧
      u.svn = p.w 0 ∧ b.keepsRegs u [R.SEC_STAT]) ∧
    (s.accepts secSvnCommitDef p o → b.svn = p.w 0 → exec (.secSvnCommit p) s = .next (b.conclude 0x903 o true p stOk 0 [] [] (undoOf b b))) ∧
    (s.accepts secKeyRevokeDef p o → ∃ (u : State) (ch : List JChange), exec (.secKeyRevoke p) s = .next (u.conclude 0x904 o true p stOk 0 [] ch (undoOf b u)) ∧
      u.f F.SEC_STAT_KEY0_REVOKED = 1 ∧ u.keyBad 0 = true ∧ b.keepsRegs u [R.SEC_STAT]) ∧
    (s.accepts tileTestEnterDef p o →
      (b.inTest p.unit = true → exec (.tileTestEnter p) s = .next (b.conclude 0x150 o true p stOk 0 [] [] (undoOf b b))) ∧
      (b.inTest p.unit = false → ∃ t : State, exec (.tileTestEnter p) s = .next t ∧ t.f (F.TILE_PWR_STAT_STATE p.unit) = 5 ∧ t.f (F.TILE_TEST_STAT_STATE p.unit) = 1)) ∧
    (s.accepts tileTestRunDef p o → ∃ t : State, exec (.tileTestRun p) s = .next t ∧ t.f (F.TILE_TEST_STAT_STATE p.unit) = 3 ∧
      (∃ x, Map.find p.unit t.tests = some x ∧ x.run = b.proctor.nextId ∧ x.items = p.w 0 ∧ x.at_ = s.bell)) ∧
    (s.accepts tileTestExitDef p o → ∃ t : State, exec (.tileTestExit p) s = .next t ∧ b.runsOn t p o 0x152 ∧ t.f (F.TILE_PWR_STAT_STATE p.unit) = 5 ∧
      t.f (F.TILE_TEST_STAT_STATE p.unit) = 4)) ∧
  (∀ (n : Tile) (r : Running) (s : State), s.canonical →
    s.proctor.running.find? (fun r => [0x120, 0x150, 0x152, 0x902].contains r.opcode && r.pkt.kind == 1 && r.pkt.unit == n.val && r.fin.isNone) = some r →
    (r.opcode = 0x150 → s.f (F.TILE_TEST_STAT_STATE n.val) ≠ 0 → ∃ u : State, exec (.tileReset n) s = .next (u.finishParam r.id stOk 0 [] (undoOf s u)) ∧
      u = s.testEntered n.val (r.pkt.flags.getLsbD 8)) ∧
    (r.opcode = 0x152 → s.f (F.TILE_TEST_STAT_STATE n.val) ≠ 0 → ∃ u : State, exec (.tileReset n) s = .next (u.finishParam r.id stOk 0 [] (undoOf s u)) ∧
      u = s.testExited n.val (r.pkt.w 0 == 1)) ∧
    (r.opcode = 0x150 ∨ r.opcode = 0x152 → s.f (F.TILE_TEST_STAT_STATE n.val) = 0 → ∃ u : State, exec (.tileReset n) s = .next (u.finish r.id stState (s.f (F.FSTATE_STATE n.val))) ∧
      u.f (F.TILE_PWR_STAT_STATE n.val) = 0 ∧ s.keepsRegs u [R.TILE_PWR_STAT n.val]) ∧
    (r.opcode = 0x902 → exec (.tileReset n) s = .next (s.updateDone n.val r))) ∧
  (∀ s : State,
    (s.sec.waiting = [] → ∃ u : State, exec .leafTreeBuilt s = .next u ∧ u.sec.trees = max (s.sec.trees + 1) (s.nextLeaf / 2 ^ 15 + 1) ∧ s.keepsRegs u []) ∧
    (s.sec.trialAt = none → exec .trialExpiry s = .next s) ∧
    (∀ a, s.sec.trialAt = some a → s.bell < a + 600000000 → exec .trialExpiry s = .next s) ∧
    (∀ a, s.canonical → s.sec.trialAt = some a → a + 600000000 ≤ s.bell → ∃ u : State, exec .trialExpiry s = .next u ∧ u.sec.trialAt = none ∧
      (∀ k < 2, u.slotState k = if s.slotState k = 2 then 1 else s.slotState k) ∧ s.keepsRegs u [R.SEC_STAT]) ∧
    (s.slotState 0 ≠ 2 → s.slotState 1 ≠ 2 → exec .trialBootFail s = .next s) ∧
    (∀ k < 2, s.canonical → s.slotState k = 2 → s.slotState (1 - k) = 1 → s.slotFault (1 - k) = none → ∃ u : State, exec .trialBootFail s = .next u ∧ u.slotState k = 3 ∧
      u.f F.SEC_STAT_BOOT_SRC = 1 ∧ u.sec.trialAt = none ∧ u.sec.image = (s.slotObj 1 (1 - k)).getD []) ∧
    (s.f F.Q_GLOBAL_SWITCHOVER = 0 ∨ s.pool.fam.any (fun e => e.2.migrating) = true → exec .switchoverDone s = .next s) ∧
    (∀ w, s.canonical → s.f F.Q_GLOBAL_SWITCHOVER = 1 → s.pool.fam.any (fun e => e.2.migrating) = false → s.sec.switch = some w → w.slot < 2 → ∃ u : State, exec .switchoverDone s = .next u ∧
      u.f F.Q_GLOBAL_SWITCHOVER = 0 ∧ u.sec.switch = none ∧
      (s.slotFault w.slot = none → u.f F.SEC_STAT_ACTIVE = w.slot ∧ u.slotState w.slot = (if w.noTrial then 1 else 2) ∧ u.sec.image = (s.slotObj 1 w.slot).getD []) ∧
      (∀ det, s.slotFault w.slot = some det → u.f F.SEC_STAT_ACTIVE = s.f F.SEC_STAT_ACTIVE ∧ u.f F.SEC_AUTH_CNT = min (s.f F.SEC_AUTH_CNT + 1) (2 ^ (F.SEC_AUTH_CNT).width - 1))))
end

