-- ==== Sys2Proof/Laws/Map.lean ====
section
/-! SUPPORT. Laws/Map.lean: the canonical form of tables and memories, and that every table and memory operation keeps it. -/

namespace Sys2Proof.Machine

/-- Every key of a table lies above k. -/
def Map.above {α : Type} (k : Nat) (m : List (Nat × α)) : Prop := ∀ e ∈ m, k < e.1

theorem Map.rising_cons {α : Type} (a : Nat × α) (m : List (Nat × α)) :
    Map.rising (a :: m) = true ↔ Map.above a.1 m ∧ Map.rising m = true := by
  induction m generalizing a with
  | nil => simp [Map.rising, Map.above]
  | cons b m ih =>
    rw [Map.rising, Bool.and_eq_true, decide_eq_true_eq, ih b]
    simp only [Map.above, List.mem_cons, forall_eq_or_imp]
    constructor
    · rintro ⟨h, hb, hm⟩
      exact ⟨⟨h, fun e he => Nat.lt_trans h (hb e he)⟩, hb, hm⟩
    · rintro ⟨⟨h, _⟩, hb, hm⟩
      exact ⟨h, hb, hm⟩

theorem Map.above_put {α : Type} {k k' : Nat} {v : α} {m : List (Nat × α)} (h : Map.above k m) (hk : k < k') :
    Map.above k (Map.put k' v m) := by
  induction m with
  | nil => simpa [Map.put, Map.above] using hk
  | cons b m ih =>
    have hb : k < b.1 := h b (List.mem_cons_self ..)
    have hm : Map.above k m := fun e he => h e (List.mem_cons_of_mem _ he)
    have := ih hm
    unfold Map.put
    simp only [Map.above] at *
    grind

theorem Map.above_del {α : Type} {k k' : Nat} {m : List (Nat × α)} (h : Map.above k m) : Map.above k (Map.del k' m) := by
  induction m with
  | nil => exact h
  | cons b m ih =>
    have hm : Map.above k m := fun e he => h e (List.mem_cons_of_mem _ he)
    have := ih hm
    unfold Map.del
    simp only [Map.above] at *
    grind

theorem Map.above_mono {α : Type} {k k' : Nat} {m : List (Nat × α)} (h : Map.above k m) (hk : k' ≤ k) : Map.above k' m :=
  fun e he => Nat.lt_of_le_of_lt hk (h e he)

theorem Map.rising_put {α : Type} {k : Nat} {v : α} {m : List (Nat × α)} (h : Map.rising m = true) :
    Map.rising (Map.put k v m) = true := by
  induction m with
  | nil => rfl
  | cons b m ih =>
    obtain ⟨hb, hm⟩ := (Map.rising_cons b m).1 h
    obtain ⟨k', v'⟩ := b
    unfold Map.put
    split
    · next hlt =>
      refine (Map.rising_cons _ _).2 ⟨?_, h⟩
      intro e he
      rcases List.mem_cons.1 he with rfl | he
      · exact hlt
      · exact Nat.lt_trans hlt (hb e he)
    · split
      · next heq => exact (Map.rising_cons _ _).2 ⟨fun e he => heq ▸ hb e he, hm⟩
      · next h1 h2 =>
        exact (Map.rising_cons _ _).2 ⟨Map.above_put hb (by simp only at h1 h2 ⊢; omega), ih hm⟩

theorem Map.rising_del {α : Type} {k : Nat} {m : List (Nat × α)} (h : Map.rising m = true) : Map.rising (Map.del k m) = true := by
  induction m with
  | nil => rfl
  | cons b m ih =>
    obtain ⟨hb, hm⟩ := (Map.rising_cons b m).1 h
    obtain ⟨k', v'⟩ := b
    unfold Map.del
    split
    · exact hm
    · exact (Map.rising_cons _ _).2 ⟨Map.above_del hb, ih hm⟩

theorem Map.rising_filter {α : Type} (p : Nat × α → Bool) {m : List (Nat × α)} (h : Map.rising m = true) :
    Map.rising (m.filter p) = true := by
  induction m with
  | nil => rfl
  | cons b m ih =>
    obtain ⟨hb, hm⟩ := (Map.rising_cons b m).1 h
    rw [List.filter_cons]
    split
    · exact (Map.rising_cons _ _).2 ⟨fun e he => hb e ((List.mem_filter.1 he).1), ih hm⟩
    · exact ih hm

theorem Map.mem_put {α : Type} {k : Nat} {v : α} {m : List (Nat × α)} {e : Nat × α} (h : e ∈ Map.put k v m) : e = (k, v) ∨ e ∈ m := by
  induction m with
  | nil => simpa [Map.put] using h
  | cons b m ih =>
    unfold Map.put at h
    grind

theorem Map.mem_del {α : Type} {k : Nat} {m : List (Nat × α)} {e : Nat × α} (h : e ∈ Map.del k m) : e ∈ m := by
  induction m with
  | nil => exact h
  | cons b m ih =>
    unfold Map.del at h
    grind

variable {α : Type} [DecidableEq α] {d : Nat → α} {m : List (Nat × α)}

theorem Map.canon_iff : Map.canon d m = true ↔ Map.rising m = true ∧ ∀ e ∈ m, e.2 ≠ d e.1 := by
  simp [Map.canon]

/-- The empty table is canonical. -/
theorem Map.canon_nil : Map.canon d ([] : List (Nat × α)) = true := rfl

/-- Writing a value that an unlisted key does not read as keeps the canonical form. -/
theorem Map.canon_put {k : Nat} {v : α} (h : Map.canon d m = true) (hv : v ≠ d k) : Map.canon d (Map.put k v m) = true := by
  obtain ⟨h1, h2⟩ := Map.canon_iff.1 h
  refine Map.canon_iff.2 ⟨Map.rising_put h1, fun e he => ?_⟩
  rcases Map.mem_put he with rfl | he
  · exact hv
  · exact h2 e he

/-- Removing an entry keeps the canonical form. -/
theorem Map.canon_del {k : Nat} (h : Map.canon d m = true) : Map.canon d (Map.del k m) = true := by
  obtain ⟨h1, h2⟩ := Map.canon_iff.1 h
  exact Map.canon_iff.2 ⟨Map.rising_del h1, fun e he => h2 e (Map.mem_del he)⟩

/-- Dropping entries keeps the canonical form. -/
theorem Map.canon_filter (p : Nat × α → Bool) (h : Map.canon d m = true) : Map.canon d (m.filter p) = true := by
  obtain ⟨h1, h2⟩ := Map.canon_iff.1 h
  exact Map.canon_iff.2 ⟨Map.rising_filter p h1, fun e he => h2 e ((List.mem_filter.1 he).1)⟩

/-- Map.set keeps the canonical form. -/
theorem Map.canon_set {c : α} {k : Nat} {v : α} (h : Map.canon (fun _ => c) m = true) : Map.canon (fun _ => c) (Map.set c m k v) = true := by
  unfold Map.set
  split
  · exact Map.canon_del h
  · next hv => exact Map.canon_put h hv

/-- Memory writes keep the canonical form. -/
theorem Memory.wf_write {l : List Host.Cell} (h : Memory.wf l = true) (a : Nat) (bs : List Byte) : Memory.wf (Memory.write l a bs) = true := by
  induction bs generalizing l a with
  | nil => exact h
  | cons b bs ih => exact ih (Map.canon_set h) (a + 1)

/-- Memory.clear keeps the canonical form. -/
theorem Memory.wf_clear {l : List Host.Cell} (h : Memory.wf l = true) (a n : Nat) : Memory.wf (Memory.clear l a n) = true :=
  Map.canon_filter _ h

/-- Copying cells one by one keeps the canonical form. -/
theorem Memory.wf_sets {l : List Host.Cell} (h : Memory.wf l = true) (cs : List Host.Cell) (f : Host.Cell → Nat) :
    Memory.wf (cs.foldl (fun m e => Map.set 0 m (f e) e.2) l) = true := by
  induction cs generalizing l with
  | nil => exact h
  | cons c cs ih => exact ih (Map.canon_set h)

/-! ### Reading after writing -/

/-- A key put is found. -/
theorem Map.find_put_same {α : Type} (k : Nat) (v : α) (m : List (Nat × α)) : Map.find k (Map.put k v m) = some v := by
  induction m with
  | nil => simp [Map.put, Map.find]
  | cons e m ih =>
    obtain ⟨k', v'⟩ := e
    simp only [Map.put]
    split
    · simp [Map.find]
    · split
      · simp [Map.find]
      · next h => simp [Map.find, h, ih]

/-- Putting one key leaves the others. -/
theorem Map.find_put_ne {α : Type} {j k : Nat} (h : j ≠ k) (v : α) (m : List (Nat × α)) : Map.find j (Map.put k v m) = Map.find j m := by
  induction m with
  | nil => simp [Map.put, Map.find, h]
  | cons e m ih =>
    obtain ⟨k', v'⟩ := e
    simp only [Map.put]
    split
    · simp [Map.find, h]
    · split
      · next hk => subst hk; simp [Map.find, h]
      · simp [Map.find, ih]

/-- Removing one key leaves the others. -/
theorem Map.find_del_ne {α : Type} {j k : Nat} (h : j ≠ k) (m : List (Nat × α)) : Map.find j (Map.del k m) = Map.find j m := by
  induction m with
  | nil => rfl
  | cons e m ih =>
    obtain ⟨k', v'⟩ := e
    simp only [Map.del]
    split
    · next hk => subst hk; simp [Map.find, h]
    · simp [Map.find, ih]

/-- A key below every key of a rising table is not listed. -/
theorem Map.find_above {α : Type} {k : Nat} {m : List (Nat × α)} (h : Map.above k m) : Map.find k m = none := by
  induction m with
  | nil => rfl
  | cons e m ih =>
    obtain ⟨k', v'⟩ := e
    simp [Map.above] at h
    simp only [Map.find]
    rw [if_neg (by omega)]
    exact ih (by simpa [Map.above] using h.2)

/-- A key removed from a rising table is not found. -/
theorem Map.find_del_same {α : Type} {k : Nat} {m : List (Nat × α)} (h : Map.rising m = true) : Map.find k (Map.del k m) = none := by
  induction m with
  | nil => rfl
  | cons e m ih =>
    obtain ⟨k', v'⟩ := e
    have hr := (Map.rising_cons (k', v') m).mp h
    simp only [Map.del]
    split
    · next hk => subst hk; exact Map.find_above hr.1
    · next hk => simp only [Map.find, if_neg hk]; exact ih hr.2

/-- A key set in a rising table reads as set. -/
theorem Map.get_set_same {α : Type} [DecidableEq α] {d : α} {m : List (Nat × α)} (h : Map.rising m = true) (k : Nat) (v : α) :
    Map.get d (Map.set d m k v) k = v := by
  simp only [Map.get, Map.set]
  split
  · next hv => rw [Map.find_del_same h, hv]; rfl
  · rw [Map.find_put_same]; rfl

/-- Setting one key leaves the others. -/
theorem Map.get_set_ne {α : Type} [DecidableEq α] {d : α} {j k : Nat} (h : j ≠ k) (m : List (Nat × α)) (v : α) :
    Map.get d (Map.set d m k v) j = Map.get d m j := by
  simp only [Map.get, Map.set]
  split
  · rw [Map.find_del_ne h]
  · rw [Map.find_put_ne h]

/-- Bytes outside a write read as before it. -/
theorem Memory.byte_write_outside (m : List Host.Cell) (a : Nat) (bs : List Byte) (b : Nat) (h : b < a ∨ a + bs.length ≤ b) :
    Memory.byte (Memory.write m a bs) b = Memory.byte m b := by
  induction bs generalizing m a with
  | nil => rfl
  | cons x bs ih =>
    simp only [Memory.write]
    simp only [List.length_cons] at h
    rw [ih _ _ (by omega)]
    exact Map.get_set_ne (by omega) _ _

/-- Bytes inside a write read as written. -/
theorem Memory.byte_write_inside {m : List Host.Cell} (hm : Memory.wf m = true) (a : Nat) (bs : List Byte) (i : Nat) (h : i < bs.length) :
    Memory.byte (Memory.write m a bs) (a + i) = bs[i] := by
  induction bs generalizing m a i with
  | nil => simp at h
  | cons x bs ih =>
    simp only [Memory.write]
    cases i with
    | zero =>
      rw [Memory.byte_write_outside _ _ _ _ (by omega)]
      simp only [Nat.add_zero, List.getElem_cons_zero]
      exact Map.get_set_same (Map.canon_iff.mp hm).1 _ _
    | succ i =>
      have h1 := ih (m := Map.set 0 m a x) (Map.canon_set hm) (a + 1) i (by simpa using h)
      rw [List.getElem_cons_succ, ← h1, Nat.add_right_comm, Nat.add_assoc]

end Sys2Proof.Machine
end

