-- ==== Sys2Proof/Laws/Regs.lean ====
section
/-! SUPPORT. Laws/Regs.lean: a register and a field read as they were last written. -/

namespace Sys2Proof.Machine

/-- A register written reads as written. -/
theorem State.rd_wr_same {s : State} (h : Map.rising s.regs = true) (off : Nat) (v : Word) : (s.wr off v).rd off = v := by
  simp only [State.rd, State.wr]
  split
  · next hv => rw [Map.find_del_same h, hv]; rfl
  · rw [Map.find_put_same]; rfl

/-- Writing one register leaves the others. -/
theorem State.rd_wr_ne {s : State} {a b : Nat} (h : a ≠ b) (v : Word) : (s.wr b v).rd a = s.rd a := by
  simp only [State.rd, State.wr]
  split
  · rw [Map.find_del_ne h]
  · rw [Map.find_put_ne h]

/-- A field put into a register value reads back, cut to its width. -/
theorem Fld.ext_ins (x : Fld) (w : Word) (v : Nat) (hw : x.lo + x.width ≤ 32) : x.ext (x.ins w v) = v % 2 ^ x.width := by
  apply Nat.eq_of_testBit_eq
  intro i
  simp only [Fld.ext, Fld.ins, Fld.mask, Nat.testBit_mod_two_pow, Nat.testBit_shiftRight]
  by_cases hi : i < x.width
  · have h32 : x.lo + i < 32 := by omega
    have hm : ((2 ^ x.width - 1) <<< x.lo).testBit (x.lo + i) = true := by
      rw [Nat.testBit_shiftLeft]; simp; omega
    rw [BitVec.testBit_toNat]
    simp only [hi, h32, BitVec.getLsbD_or, BitVec.getLsbD_and, BitVec.getLsbD_not, BitVec.getLsbD_ofNat, hm, decide_true, Bool.true_and,
      Bool.not_true, Bool.and_false, Bool.false_or, Bool.and_true, Nat.testBit_shiftLeft]
    simp
  · simp [hi]

/-- Putting one field leaves a field apart from it. -/
theorem Fld.ext_ins_ne (x y : Fld) (w : Word) (v : Nat) (h : x.lo + x.width ≤ y.lo ∨ y.lo + y.width ≤ x.lo) : y.ext (x.ins w v) = y.ext w := by
  apply Nat.eq_of_testBit_eq
  intro i
  simp only [Fld.ext, Fld.ins, Fld.mask, Nat.testBit_mod_two_pow, Nat.testBit_shiftRight]
  by_cases hi : i < y.width
  · have hm : ((2 ^ x.width - 1) <<< x.lo).testBit (y.lo + i) = false := by
      rw [Nat.testBit_shiftLeft]; simp; omega
    rw [BitVec.testBit_toNat, BitVec.testBit_toNat]
    simp [hi, BitVec.getLsbD_or, BitVec.getLsbD_and, BitVec.getLsbD_not, BitVec.getLsbD_ofNat, hm]
    intro h1
    exact BitVec.lt_of_getLsbD h1
  · simp [hi]

/-- A field stored reads back, cut to its width. -/
theorem State.f_setF_same {s : State} (h : Map.rising s.regs = true) (x : Fld) (v : Nat) (hw : x.lo + x.width ≤ 32) :
    (s.setF x v).f x = v % 2 ^ x.width := by
  simp only [State.f, State.setF]
  rw [State.rd_wr_same h, Fld.ext_ins _ _ _ hw]

/-- Storing a field leaves the fields of other registers. -/
theorem State.f_setF_off {s : State} {x y : Fld} (h : y.off ≠ x.off) (v : Nat) : (s.setF x v).f y = s.f y := by
  simp only [State.f, State.setF, State.rd_wr_ne h]

/-- Storing a field leaves the fields apart from it. -/
theorem State.f_setF_apart {s : State} {x y : Fld} (hr : Map.rising s.regs = true)
    (h : x.lo + x.width ≤ y.lo ∨ y.lo + y.width ≤ x.lo) (v : Nat) : (s.setF x v).f y = s.f y := by
  by_cases ho : y.off = x.off
  · simp only [State.f, State.setF]
    rw [ho, State.rd_wr_same hr, Fld.ext_ins_ne _ _ _ _ h]
  · exact State.f_setF_off ho v
end Sys2Proof.Machine
end

