-- ==== Sys2Proof/Laws/State.lean ====
section
/-! SUPPORT. Laws/State.lean: what each update of a state leaves as it was, one lemma per field and update. -/

namespace Sys2Proof.Machine

variable (s : State)

/-! ### wr changes regs only -/

@[simp] theorem State.wr_latch (off : Nat) (v : Word) : (s.wr off v).latch = s.latch := rfl
@[simp] theorem State.wr_bell (off : Nat) (v : Word) : (s.wr off v).bell = s.bell := rfl
@[simp] theorem State.wr_free (off : Nat) (v : Word) : (s.wr off v).free = s.free := rfl
@[simp] theorem State.wr_out (off : Nat) (v : Word) : (s.wr off v).out = s.out := rfl
@[simp] theorem State.wr_host (off : Nat) (v : Word) : (s.wr off v).host = s.host := rfl
@[simp] theorem State.wr_sq (off : Nat) (v : Word) : (s.wr off v).sq = s.sq := rfl
@[simp] theorem State.wr_dram (off : Nat) (v : Word) : (s.wr off v).dram = s.dram := rfl
@[simp] theorem State.wr_queues (off : Nat) (v : Word) : (s.wr off v).queues = s.queues := rfl
@[simp] theorem State.wr_proctor (off : Nat) (v : Word) : (s.wr off v).proctor = s.proctor := rfl
@[simp] theorem State.wr_journal (off : Nat) (v : Word) : (s.wr off v).journal = s.journal := rfl
@[simp] theorem State.wr_report (off : Nat) (v : Word) : (s.wr off v).report = s.report := rfl
@[simp] theorem State.wr_faults (off : Nat) (v : Word) : (s.wr off v).faults = s.faults := rfl
@[simp] theorem State.wr_pool (off : Nat) (v : Word) : (s.wr off v).pool = s.pool := rfl
@[simp] theorem State.wr_streams (off : Nat) (v : Word) : (s.wr off v).streams = s.streams := rfl
@[simp] theorem State.wr_links (off : Nat) (v : Word) : (s.wr off v).links = s.links := rfl
@[simp] theorem State.wr_photo (off : Nat) (v : Word) : (s.wr off v).photo = s.photo := rfl
@[simp] theorem State.wr_photoNv (off : Nat) (v : Word) : (s.wr off v).photoNv = s.photoNv := rfl
@[simp] theorem State.wr_refmon (off : Nat) (v : Word) : (s.wr off v).refmon = s.refmon := rfl
@[simp] theorem State.wr_refOn (off : Nat) (v : Word) : (s.wr off v).refOn = s.refOn := rfl
@[simp] theorem State.wr_crown (off : Nat) (v : Word) : (s.wr off v).crown = s.crown := rfl
@[simp] theorem State.wr_crownMap (off : Nat) (v : Word) : (s.wr off v).crownMap = s.crownMap := rfl
@[simp] theorem State.wr_brim (off : Nat) (v : Word) : (s.wr off v).brim = s.brim := rfl
@[simp] theorem State.wr_work (off : Nat) (v : Word) : (s.wr off v).work = s.work := rfl
@[simp] theorem State.wr_blk (off : Nat) (v : Word) : (s.wr off v).blk = s.blk := rfl
@[simp] theorem State.wr_site (off : Nat) (v : Word) : (s.wr off v).site = s.site := rfl
@[simp] theorem State.wr_twin (off : Nat) (v : Word) : (s.wr off v).twin = s.twin := rfl
@[simp] theorem State.wr_clocks (off : Nat) (v : Word) : (s.wr off v).clocks = s.clocks := rfl
@[simp] theorem State.wr_sec (off : Nat) (v : Word) : (s.wr off v).sec = s.sec := rfl
@[simp] theorem State.wr_therm (off : Nat) (v : Word) : (s.wr off v).therm = s.therm := rfl
@[simp] theorem State.wr_tests (off : Nat) (v : Word) : (s.wr off v).tests = s.tests := rfl
@[simp] theorem State.wr_power (off : Nat) (v : Word) : (s.wr off v).power = s.power := rfl
@[simp] theorem State.wr_ident (off : Nat) (v : Word) : (s.wr off v).ident = s.ident := rfl
@[simp] theorem State.wr_pending (off : Nat) (v : Word) : (s.wr off v).pending = s.pending := rfl

/-! ### setF changes regs only -/

@[simp] theorem State.setF_latch (x : Fld) (v : Nat) : (s.setF x v).latch = s.latch := rfl
@[simp] theorem State.setF_bell (x : Fld) (v : Nat) : (s.setF x v).bell = s.bell := rfl
@[simp] theorem State.setF_free (x : Fld) (v : Nat) : (s.setF x v).free = s.free := rfl
@[simp] theorem State.setF_out (x : Fld) (v : Nat) : (s.setF x v).out = s.out := rfl
@[simp] theorem State.setF_host (x : Fld) (v : Nat) : (s.setF x v).host = s.host := rfl
@[simp] theorem State.setF_sq (x : Fld) (v : Nat) : (s.setF x v).sq = s.sq := rfl
@[simp] theorem State.setF_dram (x : Fld) (v : Nat) : (s.setF x v).dram = s.dram := rfl
@[simp] theorem State.setF_queues (x : Fld) (v : Nat) : (s.setF x v).queues = s.queues := rfl
@[simp] theorem State.setF_proctor (x : Fld) (v : Nat) : (s.setF x v).proctor = s.proctor := rfl
@[simp] theorem State.setF_journal (x : Fld) (v : Nat) : (s.setF x v).journal = s.journal := rfl
@[simp] theorem State.setF_report (x : Fld) (v : Nat) : (s.setF x v).report = s.report := rfl
@[simp] theorem State.setF_faults (x : Fld) (v : Nat) : (s.setF x v).faults = s.faults := rfl
@[simp] theorem State.setF_pool (x : Fld) (v : Nat) : (s.setF x v).pool = s.pool := rfl
@[simp] theorem State.setF_streams (x : Fld) (v : Nat) : (s.setF x v).streams = s.streams := rfl
@[simp] theorem State.setF_links (x : Fld) (v : Nat) : (s.setF x v).links = s.links := rfl
@[simp] theorem State.setF_photo (x : Fld) (v : Nat) : (s.setF x v).photo = s.photo := rfl
@[simp] theorem State.setF_photoNv (x : Fld) (v : Nat) : (s.setF x v).photoNv = s.photoNv := rfl
@[simp] theorem State.setF_refmon (x : Fld) (v : Nat) : (s.setF x v).refmon = s.refmon := rfl
@[simp] theorem State.setF_refOn (x : Fld) (v : Nat) : (s.setF x v).refOn = s.refOn := rfl
@[simp] theorem State.setF_crown (x : Fld) (v : Nat) : (s.setF x v).crown = s.crown := rfl
@[simp] theorem State.setF_crownMap (x : Fld) (v : Nat) : (s.setF x v).crownMap = s.crownMap := rfl
@[simp] theorem State.setF_brim (x : Fld) (v : Nat) : (s.setF x v).brim = s.brim := rfl
@[simp] theorem State.setF_work (x : Fld) (v : Nat) : (s.setF x v).work = s.work := rfl
@[simp] theorem State.setF_blk (x : Fld) (v : Nat) : (s.setF x v).blk = s.blk := rfl
@[simp] theorem State.setF_site (x : Fld) (v : Nat) : (s.setF x v).site = s.site := rfl
@[simp] theorem State.setF_twin (x : Fld) (v : Nat) : (s.setF x v).twin = s.twin := rfl
@[simp] theorem State.setF_clocks (x : Fld) (v : Nat) : (s.setF x v).clocks = s.clocks := rfl
@[simp] theorem State.setF_sec (x : Fld) (v : Nat) : (s.setF x v).sec = s.sec := rfl
@[simp] theorem State.setF_therm (x : Fld) (v : Nat) : (s.setF x v).therm = s.therm := rfl
@[simp] theorem State.setF_tests (x : Fld) (v : Nat) : (s.setF x v).tests = s.tests := rfl
@[simp] theorem State.setF_power (x : Fld) (v : Nat) : (s.setF x v).power = s.power := rfl
@[simp] theorem State.setF_ident (x : Fld) (v : Nat) : (s.setF x v).ident = s.ident := rfl
@[simp] theorem State.setF_pending (x : Fld) (v : Nat) : (s.setF x v).pending = s.pending := rfl

/-! ### setB changes regs only -/

@[simp] theorem State.setB_latch (x : Fld) (v : Bool) : (s.setB x v).latch = s.latch := rfl
@[simp] theorem State.setB_bell (x : Fld) (v : Bool) : (s.setB x v).bell = s.bell := rfl
@[simp] theorem State.setB_free (x : Fld) (v : Bool) : (s.setB x v).free = s.free := rfl
@[simp] theorem State.setB_out (x : Fld) (v : Bool) : (s.setB x v).out = s.out := rfl
@[simp] theorem State.setB_host (x : Fld) (v : Bool) : (s.setB x v).host = s.host := rfl
@[simp] theorem State.setB_sq (x : Fld) (v : Bool) : (s.setB x v).sq = s.sq := rfl
@[simp] theorem State.setB_dram (x : Fld) (v : Bool) : (s.setB x v).dram = s.dram := rfl
@[simp] theorem State.setB_queues (x : Fld) (v : Bool) : (s.setB x v).queues = s.queues := rfl
@[simp] theorem State.setB_proctor (x : Fld) (v : Bool) : (s.setB x v).proctor = s.proctor := rfl
@[simp] theorem State.setB_journal (x : Fld) (v : Bool) : (s.setB x v).journal = s.journal := rfl
@[simp] theorem State.setB_report (x : Fld) (v : Bool) : (s.setB x v).report = s.report := rfl
@[simp] theorem State.setB_faults (x : Fld) (v : Bool) : (s.setB x v).faults = s.faults := rfl
@[simp] theorem State.setB_pool (x : Fld) (v : Bool) : (s.setB x v).pool = s.pool := rfl
@[simp] theorem State.setB_streams (x : Fld) (v : Bool) : (s.setB x v).streams = s.streams := rfl
@[simp] theorem State.setB_links (x : Fld) (v : Bool) : (s.setB x v).links = s.links := rfl
@[simp] theorem State.setB_photo (x : Fld) (v : Bool) : (s.setB x v).photo = s.photo := rfl
@[simp] theorem State.setB_photoNv (x : Fld) (v : Bool) : (s.setB x v).photoNv = s.photoNv := rfl
@[simp] theorem State.setB_refmon (x : Fld) (v : Bool) : (s.setB x v).refmon = s.refmon := rfl
@[simp] theorem State.setB_refOn (x : Fld) (v : Bool) : (s.setB x v).refOn = s.refOn := rfl
@[simp] theorem State.setB_crown (x : Fld) (v : Bool) : (s.setB x v).crown = s.crown := rfl
@[simp] theorem State.setB_crownMap (x : Fld) (v : Bool) : (s.setB x v).crownMap = s.crownMap := rfl
@[simp] theorem State.setB_brim (x : Fld) (v : Bool) : (s.setB x v).brim = s.brim := rfl
@[simp] theorem State.setB_work (x : Fld) (v : Bool) : (s.setB x v).work = s.work := rfl
@[simp] theorem State.setB_blk (x : Fld) (v : Bool) : (s.setB x v).blk = s.blk := rfl
@[simp] theorem State.setB_site (x : Fld) (v : Bool) : (s.setB x v).site = s.site := rfl
@[simp] theorem State.setB_twin (x : Fld) (v : Bool) : (s.setB x v).twin = s.twin := rfl
@[simp] theorem State.setB_clocks (x : Fld) (v : Bool) : (s.setB x v).clocks = s.clocks := rfl
@[simp] theorem State.setB_sec (x : Fld) (v : Bool) : (s.setB x v).sec = s.sec := rfl
@[simp] theorem State.setB_therm (x : Fld) (v : Bool) : (s.setB x v).therm = s.therm := rfl
@[simp] theorem State.setB_tests (x : Fld) (v : Bool) : (s.setB x v).tests = s.tests := rfl
@[simp] theorem State.setB_power (x : Fld) (v : Bool) : (s.setB x v).power = s.power := rfl
@[simp] theorem State.setB_ident (x : Fld) (v : Bool) : (s.setB x v).ident = s.ident := rfl
@[simp] theorem State.setB_pending (x : Fld) (v : Bool) : (s.setB x v).pending = s.pending := rfl

/-! ### setSat changes regs only -/

@[simp] theorem State.setSat_latch (x : Fld) (v : Nat) : (s.setSat x v).latch = s.latch := rfl
@[simp] theorem State.setSat_bell (x : Fld) (v : Nat) : (s.setSat x v).bell = s.bell := rfl
@[simp] theorem State.setSat_free (x : Fld) (v : Nat) : (s.setSat x v).free = s.free := rfl
@[simp] theorem State.setSat_out (x : Fld) (v : Nat) : (s.setSat x v).out = s.out := rfl
@[simp] theorem State.setSat_host (x : Fld) (v : Nat) : (s.setSat x v).host = s.host := rfl
@[simp] theorem State.setSat_sq (x : Fld) (v : Nat) : (s.setSat x v).sq = s.sq := rfl
@[simp] theorem State.setSat_dram (x : Fld) (v : Nat) : (s.setSat x v).dram = s.dram := rfl
@[simp] theorem State.setSat_queues (x : Fld) (v : Nat) : (s.setSat x v).queues = s.queues := rfl
@[simp] theorem State.setSat_proctor (x : Fld) (v : Nat) : (s.setSat x v).proctor = s.proctor := rfl
@[simp] theorem State.setSat_journal (x : Fld) (v : Nat) : (s.setSat x v).journal = s.journal := rfl
@[simp] theorem State.setSat_report (x : Fld) (v : Nat) : (s.setSat x v).report = s.report := rfl
@[simp] theorem State.setSat_faults (x : Fld) (v : Nat) : (s.setSat x v).faults = s.faults := rfl
@[simp] theorem State.setSat_pool (x : Fld) (v : Nat) : (s.setSat x v).pool = s.pool := rfl
@[simp] theorem State.setSat_streams (x : Fld) (v : Nat) : (s.setSat x v).streams = s.streams := rfl
@[simp] theorem State.setSat_links (x : Fld) (v : Nat) : (s.setSat x v).links = s.links := rfl
@[simp] theorem State.setSat_photo (x : Fld) (v : Nat) : (s.setSat x v).photo = s.photo := rfl
@[simp] theorem State.setSat_photoNv (x : Fld) (v : Nat) : (s.setSat x v).photoNv = s.photoNv := rfl
@[simp] theorem State.setSat_refmon (x : Fld) (v : Nat) : (s.setSat x v).refmon = s.refmon := rfl
@[simp] theorem State.setSat_refOn (x : Fld) (v : Nat) : (s.setSat x v).refOn = s.refOn := rfl
@[simp] theorem State.setSat_crown (x : Fld) (v : Nat) : (s.setSat x v).crown = s.crown := rfl
@[simp] theorem State.setSat_crownMap (x : Fld) (v : Nat) : (s.setSat x v).crownMap = s.crownMap := rfl
@[simp] theorem State.setSat_brim (x : Fld) (v : Nat) : (s.setSat x v).brim = s.brim := rfl
@[simp] theorem State.setSat_work (x : Fld) (v : Nat) : (s.setSat x v).work = s.work := rfl
@[simp] theorem State.setSat_blk (x : Fld) (v : Nat) : (s.setSat x v).blk = s.blk := rfl
@[simp] theorem State.setSat_site (x : Fld) (v : Nat) : (s.setSat x v).site = s.site := rfl
@[simp] theorem State.setSat_twin (x : Fld) (v : Nat) : (s.setSat x v).twin = s.twin := rfl
@[simp] theorem State.setSat_clocks (x : Fld) (v : Nat) : (s.setSat x v).clocks = s.clocks := rfl
@[simp] theorem State.setSat_sec (x : Fld) (v : Nat) : (s.setSat x v).sec = s.sec := rfl
@[simp] theorem State.setSat_therm (x : Fld) (v : Nat) : (s.setSat x v).therm = s.therm := rfl
@[simp] theorem State.setSat_tests (x : Fld) (v : Nat) : (s.setSat x v).tests = s.tests := rfl
@[simp] theorem State.setSat_power (x : Fld) (v : Nat) : (s.setSat x v).power = s.power := rfl
@[simp] theorem State.setSat_ident (x : Fld) (v : Nat) : (s.setSat x v).ident = s.ident := rfl
@[simp] theorem State.setSat_pending (x : Fld) (v : Nat) : (s.setSat x v).pending = s.pending := rfl

/-! ### bump changes regs only -/

@[simp] theorem State.bump_latch (x : Fld) (n : Nat) : (s.bump x n).latch = s.latch := rfl
@[simp] theorem State.bump_bell (x : Fld) (n : Nat) : (s.bump x n).bell = s.bell := rfl
@[simp] theorem State.bump_free (x : Fld) (n : Nat) : (s.bump x n).free = s.free := rfl
@[simp] theorem State.bump_out (x : Fld) (n : Nat) : (s.bump x n).out = s.out := rfl
@[simp] theorem State.bump_host (x : Fld) (n : Nat) : (s.bump x n).host = s.host := rfl
@[simp] theorem State.bump_sq (x : Fld) (n : Nat) : (s.bump x n).sq = s.sq := rfl
@[simp] theorem State.bump_dram (x : Fld) (n : Nat) : (s.bump x n).dram = s.dram := rfl
@[simp] theorem State.bump_queues (x : Fld) (n : Nat) : (s.bump x n).queues = s.queues := rfl
@[simp] theorem State.bump_proctor (x : Fld) (n : Nat) : (s.bump x n).proctor = s.proctor := rfl
@[simp] theorem State.bump_journal (x : Fld) (n : Nat) : (s.bump x n).journal = s.journal := rfl
@[simp] theorem State.bump_report (x : Fld) (n : Nat) : (s.bump x n).report = s.report := rfl
@[simp] theorem State.bump_faults (x : Fld) (n : Nat) : (s.bump x n).faults = s.faults := rfl
@[simp] theorem State.bump_pool (x : Fld) (n : Nat) : (s.bump x n).pool = s.pool := rfl
@[simp] theorem State.bump_streams (x : Fld) (n : Nat) : (s.bump x n).streams = s.streams := rfl
@[simp] theorem State.bump_links (x : Fld) (n : Nat) : (s.bump x n).links = s.links := rfl
@[simp] theorem State.bump_photo (x : Fld) (n : Nat) : (s.bump x n).photo = s.photo := rfl
@[simp] theorem State.bump_photoNv (x : Fld) (n : Nat) : (s.bump x n).photoNv = s.photoNv := rfl
@[simp] theorem State.bump_refmon (x : Fld) (n : Nat) : (s.bump x n).refmon = s.refmon := rfl
@[simp] theorem State.bump_refOn (x : Fld) (n : Nat) : (s.bump x n).refOn = s.refOn := rfl
@[simp] theorem State.bump_crown (x : Fld) (n : Nat) : (s.bump x n).crown = s.crown := rfl
@[simp] theorem State.bump_crownMap (x : Fld) (n : Nat) : (s.bump x n).crownMap = s.crownMap := rfl
@[simp] theorem State.bump_brim (x : Fld) (n : Nat) : (s.bump x n).brim = s.brim := rfl
@[simp] theorem State.bump_work (x : Fld) (n : Nat) : (s.bump x n).work = s.work := rfl
@[simp] theorem State.bump_blk (x : Fld) (n : Nat) : (s.bump x n).blk = s.blk := rfl
@[simp] theorem State.bump_site (x : Fld) (n : Nat) : (s.bump x n).site = s.site := rfl
@[simp] theorem State.bump_twin (x : Fld) (n : Nat) : (s.bump x n).twin = s.twin := rfl
@[simp] theorem State.bump_clocks (x : Fld) (n : Nat) : (s.bump x n).clocks = s.clocks := rfl
@[simp] theorem State.bump_sec (x : Fld) (n : Nat) : (s.bump x n).sec = s.sec := rfl
@[simp] theorem State.bump_therm (x : Fld) (n : Nat) : (s.bump x n).therm = s.therm := rfl
@[simp] theorem State.bump_tests (x : Fld) (n : Nat) : (s.bump x n).tests = s.tests := rfl
@[simp] theorem State.bump_power (x : Fld) (n : Nat) : (s.bump x n).power = s.power := rfl
@[simp] theorem State.bump_ident (x : Fld) (n : Nat) : (s.bump x n).ident = s.ident := rfl
@[simp] theorem State.bump_pending (x : Fld) (n : Nat) : (s.bump x n).pending = s.pending := rfl

/-! ### resetRegs changes regs only -/

@[simp] theorem State.resetRegs_latch (p : Place → RegRow → Bool) : (s.resetRegs p).latch = s.latch := rfl
@[simp] theorem State.resetRegs_bell (p : Place → RegRow → Bool) : (s.resetRegs p).bell = s.bell := rfl
@[simp] theorem State.resetRegs_free (p : Place → RegRow → Bool) : (s.resetRegs p).free = s.free := rfl
@[simp] theorem State.resetRegs_out (p : Place → RegRow → Bool) : (s.resetRegs p).out = s.out := rfl
@[simp] theorem State.resetRegs_host (p : Place → RegRow → Bool) : (s.resetRegs p).host = s.host := rfl
@[simp] theorem State.resetRegs_sq (p : Place → RegRow → Bool) : (s.resetRegs p).sq = s.sq := rfl
@[simp] theorem State.resetRegs_dram (p : Place → RegRow → Bool) : (s.resetRegs p).dram = s.dram := rfl
@[simp] theorem State.resetRegs_queues (p : Place → RegRow → Bool) : (s.resetRegs p).queues = s.queues := rfl
@[simp] theorem State.resetRegs_proctor (p : Place → RegRow → Bool) : (s.resetRegs p).proctor = s.proctor := rfl
@[simp] theorem State.resetRegs_journal (p : Place → RegRow → Bool) : (s.resetRegs p).journal = s.journal := rfl
@[simp] theorem State.resetRegs_report (p : Place → RegRow → Bool) : (s.resetRegs p).report = s.report := rfl
@[simp] theorem State.resetRegs_faults (p : Place → RegRow → Bool) : (s.resetRegs p).faults = s.faults := rfl
@[simp] theorem State.resetRegs_pool (p : Place → RegRow → Bool) : (s.resetRegs p).pool = s.pool := rfl
@[simp] theorem State.resetRegs_streams (p : Place → RegRow → Bool) : (s.resetRegs p).streams = s.streams := rfl
@[simp] theorem State.resetRegs_links (p : Place → RegRow → Bool) : (s.resetRegs p).links = s.links := rfl
@[simp] theorem State.resetRegs_photo (p : Place → RegRow → Bool) : (s.resetRegs p).photo = s.photo := rfl
@[simp] theorem State.resetRegs_photoNv (p : Place → RegRow → Bool) : (s.resetRegs p).photoNv = s.photoNv := rfl
@[simp] theorem State.resetRegs_refmon (p : Place → RegRow → Bool) : (s.resetRegs p).refmon = s.refmon := rfl
@[simp] theorem State.resetRegs_refOn (p : Place → RegRow → Bool) : (s.resetRegs p).refOn = s.refOn := rfl
@[simp] theorem State.resetRegs_crown (p : Place → RegRow → Bool) : (s.resetRegs p).crown = s.crown := rfl
@[simp] theorem State.resetRegs_crownMap (p : Place → RegRow → Bool) : (s.resetRegs p).crownMap = s.crownMap := rfl
@[simp] theorem State.resetRegs_brim (p : Place → RegRow → Bool) : (s.resetRegs p).brim = s.brim := rfl
@[simp] theorem State.resetRegs_work (p : Place → RegRow → Bool) : (s.resetRegs p).work = s.work := rfl
@[simp] theorem State.resetRegs_blk (p : Place → RegRow → Bool) : (s.resetRegs p).blk = s.blk := rfl
@[simp] theorem State.resetRegs_site (p : Place → RegRow → Bool) : (s.resetRegs p).site = s.site := rfl
@[simp] theorem State.resetRegs_twin (p : Place → RegRow → Bool) : (s.resetRegs p).twin = s.twin := rfl
@[simp] theorem State.resetRegs_clocks (p : Place → RegRow → Bool) : (s.resetRegs p).clocks = s.clocks := rfl
@[simp] theorem State.resetRegs_sec (p : Place → RegRow → Bool) : (s.resetRegs p).sec = s.sec := rfl
@[simp] theorem State.resetRegs_therm (p : Place → RegRow → Bool) : (s.resetRegs p).therm = s.therm := rfl
@[simp] theorem State.resetRegs_tests (p : Place → RegRow → Bool) : (s.resetRegs p).tests = s.tests := rfl
@[simp] theorem State.resetRegs_power (p : Place → RegRow → Bool) : (s.resetRegs p).power = s.power := rfl
@[simp] theorem State.resetRegs_ident (p : Place → RegRow → Bool) : (s.resetRegs p).ident = s.ident := rfl
@[simp] theorem State.resetRegs_pending (p : Place → RegRow → Bool) : (s.resetRegs p).pending = s.pending := rfl

/-! ### emit changes out only -/

@[simp] theorem State.emit_regs (o : Out) : (s.emit o).regs = s.regs := rfl
@[simp] theorem State.emit_latch (o : Out) : (s.emit o).latch = s.latch := rfl
@[simp] theorem State.emit_bell (o : Out) : (s.emit o).bell = s.bell := rfl
@[simp] theorem State.emit_free (o : Out) : (s.emit o).free = s.free := rfl
@[simp] theorem State.emit_host (o : Out) : (s.emit o).host = s.host := rfl
@[simp] theorem State.emit_sq (o : Out) : (s.emit o).sq = s.sq := rfl
@[simp] theorem State.emit_dram (o : Out) : (s.emit o).dram = s.dram := rfl
@[simp] theorem State.emit_queues (o : Out) : (s.emit o).queues = s.queues := rfl
@[simp] theorem State.emit_proctor (o : Out) : (s.emit o).proctor = s.proctor := rfl
@[simp] theorem State.emit_journal (o : Out) : (s.emit o).journal = s.journal := rfl
@[simp] theorem State.emit_report (o : Out) : (s.emit o).report = s.report := rfl
@[simp] theorem State.emit_faults (o : Out) : (s.emit o).faults = s.faults := rfl
@[simp] theorem State.emit_pool (o : Out) : (s.emit o).pool = s.pool := rfl
@[simp] theorem State.emit_streams (o : Out) : (s.emit o).streams = s.streams := rfl
@[simp] theorem State.emit_links (o : Out) : (s.emit o).links = s.links := rfl
@[simp] theorem State.emit_photo (o : Out) : (s.emit o).photo = s.photo := rfl
@[simp] theorem State.emit_photoNv (o : Out) : (s.emit o).photoNv = s.photoNv := rfl
@[simp] theorem State.emit_refmon (o : Out) : (s.emit o).refmon = s.refmon := rfl
@[simp] theorem State.emit_refOn (o : Out) : (s.emit o).refOn = s.refOn := rfl
@[simp] theorem State.emit_crown (o : Out) : (s.emit o).crown = s.crown := rfl
@[simp] theorem State.emit_crownMap (o : Out) : (s.emit o).crownMap = s.crownMap := rfl
@[simp] theorem State.emit_brim (o : Out) : (s.emit o).brim = s.brim := rfl
@[simp] theorem State.emit_work (o : Out) : (s.emit o).work = s.work := rfl
@[simp] theorem State.emit_blk (o : Out) : (s.emit o).blk = s.blk := rfl
@[simp] theorem State.emit_site (o : Out) : (s.emit o).site = s.site := rfl
@[simp] theorem State.emit_twin (o : Out) : (s.emit o).twin = s.twin := rfl
@[simp] theorem State.emit_clocks (o : Out) : (s.emit o).clocks = s.clocks := rfl
@[simp] theorem State.emit_sec (o : Out) : (s.emit o).sec = s.sec := rfl
@[simp] theorem State.emit_therm (o : Out) : (s.emit o).therm = s.therm := rfl
@[simp] theorem State.emit_tests (o : Out) : (s.emit o).tests = s.tests := rfl
@[simp] theorem State.emit_power (o : Out) : (s.emit o).power = s.power := rfl
@[simp] theorem State.emit_ident (o : Out) : (s.emit o).ident = s.ident := rfl
@[simp] theorem State.emit_pending (o : Out) : (s.emit o).pending = s.pending := rfl
@[simp] theorem State.emit_rd (o : Out) (off : Nat) : (s.emit o).rd off = s.rd off := rfl
@[simp] theorem State.emit_f (o : Out) (y : Fld) : (s.emit o).f y = s.f y := rfl
@[simp] theorem State.emit_b (o : Out) (y : Fld) : (s.emit o).b y = s.b y := rfl

/-! ### updLink changes links only -/

@[simp] theorem State.updLink_regs (p : Nat) (g : Link → Link) : (s.updLink p g).regs = s.regs := rfl
@[simp] theorem State.updLink_latch (p : Nat) (g : Link → Link) : (s.updLink p g).latch = s.latch := rfl
@[simp] theorem State.updLink_bell (p : Nat) (g : Link → Link) : (s.updLink p g).bell = s.bell := rfl
@[simp] theorem State.updLink_free (p : Nat) (g : Link → Link) : (s.updLink p g).free = s.free := rfl
@[simp] theorem State.updLink_out (p : Nat) (g : Link → Link) : (s.updLink p g).out = s.out := rfl
@[simp] theorem State.updLink_host (p : Nat) (g : Link → Link) : (s.updLink p g).host = s.host := rfl
@[simp] theorem State.updLink_sq (p : Nat) (g : Link → Link) : (s.updLink p g).sq = s.sq := rfl
@[simp] theorem State.updLink_dram (p : Nat) (g : Link → Link) : (s.updLink p g).dram = s.dram := rfl
@[simp] theorem State.updLink_queues (p : Nat) (g : Link → Link) : (s.updLink p g).queues = s.queues := rfl
@[simp] theorem State.updLink_proctor (p : Nat) (g : Link → Link) : (s.updLink p g).proctor = s.proctor := rfl
@[simp] theorem State.updLink_journal (p : Nat) (g : Link → Link) : (s.updLink p g).journal = s.journal := rfl
@[simp] theorem State.updLink_report (p : Nat) (g : Link → Link) : (s.updLink p g).report = s.report := rfl
@[simp] theorem State.updLink_faults (p : Nat) (g : Link → Link) : (s.updLink p g).faults = s.faults := rfl
@[simp] theorem State.updLink_pool (p : Nat) (g : Link → Link) : (s.updLink p g).pool = s.pool := rfl
@[simp] theorem State.updLink_streams (p : Nat) (g : Link → Link) : (s.updLink p g).streams = s.streams := rfl
@[simp] theorem State.updLink_photo (p : Nat) (g : Link → Link) : (s.updLink p g).photo = s.photo := rfl
@[simp] theorem State.updLink_photoNv (p : Nat) (g : Link → Link) : (s.updLink p g).photoNv = s.photoNv := rfl
@[simp] theorem State.updLink_refmon (p : Nat) (g : Link → Link) : (s.updLink p g).refmon = s.refmon := rfl
@[simp] theorem State.updLink_refOn (p : Nat) (g : Link → Link) : (s.updLink p g).refOn = s.refOn := rfl
@[simp] theorem State.updLink_crown (p : Nat) (g : Link → Link) : (s.updLink p g).crown = s.crown := rfl
@[simp] theorem State.updLink_crownMap (p : Nat) (g : Link → Link) : (s.updLink p g).crownMap = s.crownMap := rfl
@[simp] theorem State.updLink_brim (p : Nat) (g : Link → Link) : (s.updLink p g).brim = s.brim := rfl
@[simp] theorem State.updLink_work (p : Nat) (g : Link → Link) : (s.updLink p g).work = s.work := rfl
@[simp] theorem State.updLink_blk (p : Nat) (g : Link → Link) : (s.updLink p g).blk = s.blk := rfl
@[simp] theorem State.updLink_site (p : Nat) (g : Link → Link) : (s.updLink p g).site = s.site := rfl
@[simp] theorem State.updLink_twin (p : Nat) (g : Link → Link) : (s.updLink p g).twin = s.twin := rfl
@[simp] theorem State.updLink_clocks (p : Nat) (g : Link → Link) : (s.updLink p g).clocks = s.clocks := rfl
@[simp] theorem State.updLink_sec (p : Nat) (g : Link → Link) : (s.updLink p g).sec = s.sec := rfl
@[simp] theorem State.updLink_therm (p : Nat) (g : Link → Link) : (s.updLink p g).therm = s.therm := rfl
@[simp] theorem State.updLink_tests (p : Nat) (g : Link → Link) : (s.updLink p g).tests = s.tests := rfl
@[simp] theorem State.updLink_power (p : Nat) (g : Link → Link) : (s.updLink p g).power = s.power := rfl
@[simp] theorem State.updLink_ident (p : Nat) (g : Link → Link) : (s.updLink p g).ident = s.ident := rfl
@[simp] theorem State.updLink_pending (p : Nat) (g : Link → Link) : (s.updLink p g).pending = s.pending := rfl
@[simp] theorem State.updLink_rd (p : Nat) (g : Link → Link) (off : Nat) : (s.updLink p g).rd off = s.rd off := rfl
@[simp] theorem State.updLink_f (p : Nat) (g : Link → Link) (y : Fld) : (s.updLink p g).f y = s.f y := rfl
@[simp] theorem State.updLink_b (p : Nat) (g : Link → Link) (y : Fld) : (s.updLink p g).b y = s.b y := rfl

/-! ### updPh changes photo only -/

@[simp] theorem State.updPh_regs (t : Nat) (g : Photo → Photo) : (s.updPh t g).regs = s.regs := rfl
@[simp] theorem State.updPh_latch (t : Nat) (g : Photo → Photo) : (s.updPh t g).latch = s.latch := rfl
@[simp] theorem State.updPh_bell (t : Nat) (g : Photo → Photo) : (s.updPh t g).bell = s.bell := rfl
@[simp] theorem State.updPh_free (t : Nat) (g : Photo → Photo) : (s.updPh t g).free = s.free := rfl
@[simp] theorem State.updPh_out (t : Nat) (g : Photo → Photo) : (s.updPh t g).out = s.out := rfl
@[simp] theorem State.updPh_host (t : Nat) (g : Photo → Photo) : (s.updPh t g).host = s.host := rfl
@[simp] theorem State.updPh_sq (t : Nat) (g : Photo → Photo) : (s.updPh t g).sq = s.sq := rfl
@[simp] theorem State.updPh_dram (t : Nat) (g : Photo → Photo) : (s.updPh t g).dram = s.dram := rfl
@[simp] theorem State.updPh_queues (t : Nat) (g : Photo → Photo) : (s.updPh t g).queues = s.queues := rfl
@[simp] theorem State.updPh_proctor (t : Nat) (g : Photo → Photo) : (s.updPh t g).proctor = s.proctor := rfl
@[simp] theorem State.updPh_journal (t : Nat) (g : Photo → Photo) : (s.updPh t g).journal = s.journal := rfl
@[simp] theorem State.updPh_report (t : Nat) (g : Photo → Photo) : (s.updPh t g).report = s.report := rfl
@[simp] theorem State.updPh_faults (t : Nat) (g : Photo → Photo) : (s.updPh t g).faults = s.faults := rfl
@[simp] theorem State.updPh_pool (t : Nat) (g : Photo → Photo) : (s.updPh t g).pool = s.pool := rfl
@[simp] theorem State.updPh_streams (t : Nat) (g : Photo → Photo) : (s.updPh t g).streams = s.streams := rfl
@[simp] theorem State.updPh_links (t : Nat) (g : Photo → Photo) : (s.updPh t g).links = s.links := rfl
@[simp] theorem State.updPh_photoNv (t : Nat) (g : Photo → Photo) : (s.updPh t g).photoNv = s.photoNv := rfl
@[simp] theorem State.updPh_refmon (t : Nat) (g : Photo → Photo) : (s.updPh t g).refmon = s.refmon := rfl
@[simp] theorem State.updPh_refOn (t : Nat) (g : Photo → Photo) : (s.updPh t g).refOn = s.refOn := rfl
@[simp] theorem State.updPh_crown (t : Nat) (g : Photo → Photo) : (s.updPh t g).crown = s.crown := rfl
@[simp] theorem State.updPh_crownMap (t : Nat) (g : Photo → Photo) : (s.updPh t g).crownMap = s.crownMap := rfl
@[simp] theorem State.updPh_brim (t : Nat) (g : Photo → Photo) : (s.updPh t g).brim = s.brim := rfl
@[simp] theorem State.updPh_work (t : Nat) (g : Photo → Photo) : (s.updPh t g).work = s.work := rfl
@[simp] theorem State.updPh_blk (t : Nat) (g : Photo → Photo) : (s.updPh t g).blk = s.blk := rfl
@[simp] theorem State.updPh_site (t : Nat) (g : Photo → Photo) : (s.updPh t g).site = s.site := rfl
@[simp] theorem State.updPh_twin (t : Nat) (g : Photo → Photo) : (s.updPh t g).twin = s.twin := rfl
@[simp] theorem State.updPh_clocks (t : Nat) (g : Photo → Photo) : (s.updPh t g).clocks = s.clocks := rfl
@[simp] theorem State.updPh_sec (t : Nat) (g : Photo → Photo) : (s.updPh t g).sec = s.sec := rfl
@[simp] theorem State.updPh_therm (t : Nat) (g : Photo → Photo) : (s.updPh t g).therm = s.therm := rfl
@[simp] theorem State.updPh_tests (t : Nat) (g : Photo → Photo) : (s.updPh t g).tests = s.tests := rfl
@[simp] theorem State.updPh_power (t : Nat) (g : Photo → Photo) : (s.updPh t g).power = s.power := rfl
@[simp] theorem State.updPh_ident (t : Nat) (g : Photo → Photo) : (s.updPh t g).ident = s.ident := rfl
@[simp] theorem State.updPh_pending (t : Nat) (g : Photo → Photo) : (s.updPh t g).pending = s.pending := rfl
@[simp] theorem State.updPh_rd (t : Nat) (g : Photo → Photo) (off : Nat) : (s.updPh t g).rd off = s.rd off := rfl
@[simp] theorem State.updPh_f (t : Nat) (g : Photo → Photo) (y : Fld) : (s.updPh t g).f y = s.f y := rfl
@[simp] theorem State.updPh_b (t : Nat) (g : Photo → Photo) (y : Fld) : (s.updPh t g).b y = s.b y := rfl

/-! ### updPhNv changes photoNv only -/

@[simp] theorem State.updPhNv_regs (t : Nat) (g : PhotoNv → PhotoNv) : (s.updPhNv t g).regs = s.regs := rfl
@[simp] theorem State.updPhNv_latch (t : Nat) (g : PhotoNv → PhotoNv) : (s.updPhNv t g).latch = s.latch := rfl
@[simp] theorem State.updPhNv_bell (t : Nat) (g : PhotoNv → PhotoNv) : (s.updPhNv t g).bell = s.bell := rfl
@[simp] theorem State.updPhNv_free (t : Nat) (g : PhotoNv → PhotoNv) : (s.updPhNv t g).free = s.free := rfl
@[simp] theorem State.updPhNv_out (t : Nat) (g : PhotoNv → PhotoNv) : (s.updPhNv t g).out = s.out := rfl
@[simp] theorem State.updPhNv_host (t : Nat) (g : PhotoNv → PhotoNv) : (s.updPhNv t g).host = s.host := rfl
@[simp] theorem State.updPhNv_sq (t : Nat) (g : PhotoNv → PhotoNv) : (s.updPhNv t g).sq = s.sq := rfl
@[simp] theorem State.updPhNv_dram (t : Nat) (g : PhotoNv → PhotoNv) : (s.updPhNv t g).dram = s.dram := rfl
@[simp] theorem State.updPhNv_queues (t : Nat) (g : PhotoNv → PhotoNv) : (s.updPhNv t g).queues = s.queues := rfl
@[simp] theorem State.updPhNv_proctor (t : Nat) (g : PhotoNv → PhotoNv) : (s.updPhNv t g).proctor = s.proctor := rfl
@[simp] theorem State.updPhNv_journal (t : Nat) (g : PhotoNv → PhotoNv) : (s.updPhNv t g).journal = s.journal := rfl
@[simp] theorem State.updPhNv_report (t : Nat) (g : PhotoNv → PhotoNv) : (s.updPhNv t g).report = s.report := rfl
@[simp] theorem State.updPhNv_faults (t : Nat) (g : PhotoNv → PhotoNv) : (s.updPhNv t g).faults = s.faults := rfl
@[simp] theorem State.updPhNv_pool (t : Nat) (g : PhotoNv → PhotoNv) : (s.updPhNv t g).pool = s.pool := rfl
@[simp] theorem State.updPhNv_streams (t : Nat) (g : PhotoNv → PhotoNv) : (s.updPhNv t g).streams = s.streams := rfl
@[simp] theorem State.updPhNv_links (t : Nat) (g : PhotoNv → PhotoNv) : (s.updPhNv t g).links = s.links := rfl
@[simp] theorem State.updPhNv_photo (t : Nat) (g : PhotoNv → PhotoNv) : (s.updPhNv t g).photo = s.photo := rfl
@[simp] theorem State.updPhNv_refmon (t : Nat) (g : PhotoNv → PhotoNv) : (s.updPhNv t g).refmon = s.refmon := rfl
@[simp] theorem State.updPhNv_refOn (t : Nat) (g : PhotoNv → PhotoNv) : (s.updPhNv t g).refOn = s.refOn := rfl
@[simp] theorem State.updPhNv_crown (t : Nat) (g : PhotoNv → PhotoNv) : (s.updPhNv t g).crown = s.crown := rfl
@[simp] theorem State.updPhNv_crownMap (t : Nat) (g : PhotoNv → PhotoNv) : (s.updPhNv t g).crownMap = s.crownMap := rfl
@[simp] theorem State.updPhNv_brim (t : Nat) (g : PhotoNv → PhotoNv) : (s.updPhNv t g).brim = s.brim := rfl
@[simp] theorem State.updPhNv_work (t : Nat) (g : PhotoNv → PhotoNv) : (s.updPhNv t g).work = s.work := rfl
@[simp] theorem State.updPhNv_blk (t : Nat) (g : PhotoNv → PhotoNv) : (s.updPhNv t g).blk = s.blk := rfl
@[simp] theorem State.updPhNv_site (t : Nat) (g : PhotoNv → PhotoNv) : (s.updPhNv t g).site = s.site := rfl
@[simp] theorem State.updPhNv_twin (t : Nat) (g : PhotoNv → PhotoNv) : (s.updPhNv t g).twin = s.twin := rfl
@[simp] theorem State.updPhNv_clocks (t : Nat) (g : PhotoNv → PhotoNv) : (s.updPhNv t g).clocks = s.clocks := rfl
@[simp] theorem State.updPhNv_sec (t : Nat) (g : PhotoNv → PhotoNv) : (s.updPhNv t g).sec = s.sec := rfl
@[simp] theorem State.updPhNv_therm (t : Nat) (g : PhotoNv → PhotoNv) : (s.updPhNv t g).therm = s.therm := rfl
@[simp] theorem State.updPhNv_tests (t : Nat) (g : PhotoNv → PhotoNv) : (s.updPhNv t g).tests = s.tests := rfl
@[simp] theorem State.updPhNv_power (t : Nat) (g : PhotoNv → PhotoNv) : (s.updPhNv t g).power = s.power := rfl
@[simp] theorem State.updPhNv_ident (t : Nat) (g : PhotoNv → PhotoNv) : (s.updPhNv t g).ident = s.ident := rfl
@[simp] theorem State.updPhNv_pending (t : Nat) (g : PhotoNv → PhotoNv) : (s.updPhNv t g).pending = s.pending := rfl
@[simp] theorem State.updPhNv_rd (t : Nat) (g : PhotoNv → PhotoNv) (off : Nat) : (s.updPhNv t g).rd off = s.rd off := rfl
@[simp] theorem State.updPhNv_f (t : Nat) (g : PhotoNv → PhotoNv) (y : Fld) : (s.updPhNv t g).f y = s.f y := rfl
@[simp] theorem State.updPhNv_b (t : Nat) (g : PhotoNv → PhotoNv) (y : Fld) : (s.updPhNv t g).b y = s.b y := rfl

/-! ### updCr changes crown only -/

@[simp] theorem State.updCr_regs (t : Nat) (g : Crown → Crown) : (s.updCr t g).regs = s.regs := rfl
@[simp] theorem State.updCr_latch (t : Nat) (g : Crown → Crown) : (s.updCr t g).latch = s.latch := rfl
@[simp] theorem State.updCr_bell (t : Nat) (g : Crown → Crown) : (s.updCr t g).bell = s.bell := rfl
@[simp] theorem State.updCr_free (t : Nat) (g : Crown → Crown) : (s.updCr t g).free = s.free := rfl
@[simp] theorem State.updCr_out (t : Nat) (g : Crown → Crown) : (s.updCr t g).out = s.out := rfl
@[simp] theorem State.updCr_host (t : Nat) (g : Crown → Crown) : (s.updCr t g).host = s.host := rfl
@[simp] theorem State.updCr_sq (t : Nat) (g : Crown → Crown) : (s.updCr t g).sq = s.sq := rfl
@[simp] theorem State.updCr_dram (t : Nat) (g : Crown → Crown) : (s.updCr t g).dram = s.dram := rfl
@[simp] theorem State.updCr_queues (t : Nat) (g : Crown → Crown) : (s.updCr t g).queues = s.queues := rfl
@[simp] theorem State.updCr_proctor (t : Nat) (g : Crown → Crown) : (s.updCr t g).proctor = s.proctor := rfl
@[simp] theorem State.updCr_journal (t : Nat) (g : Crown → Crown) : (s.updCr t g).journal = s.journal := rfl
@[simp] theorem State.updCr_report (t : Nat) (g : Crown → Crown) : (s.updCr t g).report = s.report := rfl
@[simp] theorem State.updCr_faults (t : Nat) (g : Crown → Crown) : (s.updCr t g).faults = s.faults := rfl
@[simp] theorem State.updCr_pool (t : Nat) (g : Crown → Crown) : (s.updCr t g).pool = s.pool := rfl
@[simp] theorem State.updCr_streams (t : Nat) (g : Crown → Crown) : (s.updCr t g).streams = s.streams := rfl
@[simp] theorem State.updCr_links (t : Nat) (g : Crown → Crown) : (s.updCr t g).links = s.links := rfl
@[simp] theorem State.updCr_photo (t : Nat) (g : Crown → Crown) : (s.updCr t g).photo = s.photo := rfl
@[simp] theorem State.updCr_photoNv (t : Nat) (g : Crown → Crown) : (s.updCr t g).photoNv = s.photoNv := rfl
@[simp] theorem State.updCr_refmon (t : Nat) (g : Crown → Crown) : (s.updCr t g).refmon = s.refmon := rfl
@[simp] theorem State.updCr_refOn (t : Nat) (g : Crown → Crown) : (s.updCr t g).refOn = s.refOn := rfl
@[simp] theorem State.updCr_crownMap (t : Nat) (g : Crown → Crown) : (s.updCr t g).crownMap = s.crownMap := rfl
@[simp] theorem State.updCr_brim (t : Nat) (g : Crown → Crown) : (s.updCr t g).brim = s.brim := rfl
@[simp] theorem State.updCr_work (t : Nat) (g : Crown → Crown) : (s.updCr t g).work = s.work := rfl
@[simp] theorem State.updCr_blk (t : Nat) (g : Crown → Crown) : (s.updCr t g).blk = s.blk := rfl
@[simp] theorem State.updCr_site (t : Nat) (g : Crown → Crown) : (s.updCr t g).site = s.site := rfl
@[simp] theorem State.updCr_twin (t : Nat) (g : Crown → Crown) : (s.updCr t g).twin = s.twin := rfl
@[simp] theorem State.updCr_clocks (t : Nat) (g : Crown → Crown) : (s.updCr t g).clocks = s.clocks := rfl
@[simp] theorem State.updCr_sec (t : Nat) (g : Crown → Crown) : (s.updCr t g).sec = s.sec := rfl
@[simp] theorem State.updCr_therm (t : Nat) (g : Crown → Crown) : (s.updCr t g).therm = s.therm := rfl
@[simp] theorem State.updCr_tests (t : Nat) (g : Crown → Crown) : (s.updCr t g).tests = s.tests := rfl
@[simp] theorem State.updCr_power (t : Nat) (g : Crown → Crown) : (s.updCr t g).power = s.power := rfl
@[simp] theorem State.updCr_ident (t : Nat) (g : Crown → Crown) : (s.updCr t g).ident = s.ident := rfl
@[simp] theorem State.updCr_pending (t : Nat) (g : Crown → Crown) : (s.updCr t g).pending = s.pending := rfl
@[simp] theorem State.updCr_rd (t : Nat) (g : Crown → Crown) (off : Nat) : (s.updCr t g).rd off = s.rd off := rfl
@[simp] theorem State.updCr_f (t : Nat) (g : Crown → Crown) (y : Fld) : (s.updCr t g).f y = s.f y := rfl
@[simp] theorem State.updCr_b (t : Nat) (g : Crown → Crown) (y : Fld) : (s.updCr t g).b y = s.b y := rfl

/-! ### updBr changes brim only -/

@[simp] theorem State.updBr_regs (t e : Nat) (g : Brim → Brim) : (s.updBr t e g).regs = s.regs := rfl
@[simp] theorem State.updBr_latch (t e : Nat) (g : Brim → Brim) : (s.updBr t e g).latch = s.latch := rfl
@[simp] theorem State.updBr_bell (t e : Nat) (g : Brim → Brim) : (s.updBr t e g).bell = s.bell := rfl
@[simp] theorem State.updBr_free (t e : Nat) (g : Brim → Brim) : (s.updBr t e g).free = s.free := rfl
@[simp] theorem State.updBr_out (t e : Nat) (g : Brim → Brim) : (s.updBr t e g).out = s.out := rfl
@[simp] theorem State.updBr_host (t e : Nat) (g : Brim → Brim) : (s.updBr t e g).host = s.host := rfl
@[simp] theorem State.updBr_sq (t e : Nat) (g : Brim → Brim) : (s.updBr t e g).sq = s.sq := rfl
@[simp] theorem State.updBr_dram (t e : Nat) (g : Brim → Brim) : (s.updBr t e g).dram = s.dram := rfl
@[simp] theorem State.updBr_queues (t e : Nat) (g : Brim → Brim) : (s.updBr t e g).queues = s.queues := rfl
@[simp] theorem State.updBr_proctor (t e : Nat) (g : Brim → Brim) : (s.updBr t e g).proctor = s.proctor := rfl
@[simp] theorem State.updBr_journal (t e : Nat) (g : Brim → Brim) : (s.updBr t e g).journal = s.journal := rfl
@[simp] theorem State.updBr_report (t e : Nat) (g : Brim → Brim) : (s.updBr t e g).report = s.report := rfl
@[simp] theorem State.updBr_faults (t e : Nat) (g : Brim → Brim) : (s.updBr t e g).faults = s.faults := rfl
@[simp] theorem State.updBr_pool (t e : Nat) (g : Brim → Brim) : (s.updBr t e g).pool = s.pool := rfl
@[simp] theorem State.updBr_streams (t e : Nat) (g : Brim → Brim) : (s.updBr t e g).streams = s.streams := rfl
@[simp] theorem State.updBr_links (t e : Nat) (g : Brim → Brim) : (s.updBr t e g).links = s.links := rfl
@[simp] theorem State.updBr_photo (t e : Nat) (g : Brim → Brim) : (s.updBr t e g).photo = s.photo := rfl
@[simp] theorem State.updBr_photoNv (t e : Nat) (g : Brim → Brim) : (s.updBr t e g).photoNv = s.photoNv := rfl
@[simp] theorem State.updBr_refmon (t e : Nat) (g : Brim → Brim) : (s.updBr t e g).refmon = s.refmon := rfl
@[simp] theorem State.updBr_refOn (t e : Nat) (g : Brim → Brim) : (s.updBr t e g).refOn = s.refOn := rfl
@[simp] theorem State.updBr_crown (t e : Nat) (g : Brim → Brim) : (s.updBr t e g).crown = s.crown := rfl
@[simp] theorem State.updBr_crownMap (t e : Nat) (g : Brim → Brim) : (s.updBr t e g).crownMap = s.crownMap := rfl
@[simp] theorem State.updBr_work (t e : Nat) (g : Brim → Brim) : (s.updBr t e g).work = s.work := rfl
@[simp] theorem State.updBr_blk (t e : Nat) (g : Brim → Brim) : (s.updBr t e g).blk = s.blk := rfl
@[simp] theorem State.updBr_site (t e : Nat) (g : Brim → Brim) : (s.updBr t e g).site = s.site := rfl
@[simp] theorem State.updBr_twin (t e : Nat) (g : Brim → Brim) : (s.updBr t e g).twin = s.twin := rfl
@[simp] theorem State.updBr_clocks (t e : Nat) (g : Brim → Brim) : (s.updBr t e g).clocks = s.clocks := rfl
@[simp] theorem State.updBr_sec (t e : Nat) (g : Brim → Brim) : (s.updBr t e g).sec = s.sec := rfl
@[simp] theorem State.updBr_therm (t e : Nat) (g : Brim → Brim) : (s.updBr t e g).therm = s.therm := rfl
@[simp] theorem State.updBr_tests (t e : Nat) (g : Brim → Brim) : (s.updBr t e g).tests = s.tests := rfl
@[simp] theorem State.updBr_power (t e : Nat) (g : Brim → Brim) : (s.updBr t e g).power = s.power := rfl
@[simp] theorem State.updBr_ident (t e : Nat) (g : Brim → Brim) : (s.updBr t e g).ident = s.ident := rfl
@[simp] theorem State.updBr_pending (t e : Nat) (g : Brim → Brim) : (s.updBr t e g).pending = s.pending := rfl
@[simp] theorem State.updBr_rd (t e : Nat) (g : Brim → Brim) (off : Nat) : (s.updBr t e g).rd off = s.rd off := rfl
@[simp] theorem State.updBr_f (t e : Nat) (g : Brim → Brim) (y : Fld) : (s.updBr t e g).f y = s.f y := rfl
@[simp] theorem State.updBr_b (t e : Nat) (g : Brim → Brim) (y : Fld) : (s.updBr t e g).b y = s.b y := rfl

/-! ### updBl changes blk only -/

@[simp] theorem State.updBl_regs (t : Nat) (g : Blk → Blk) : (s.updBl t g).regs = s.regs := rfl
@[simp] theorem State.updBl_latch (t : Nat) (g : Blk → Blk) : (s.updBl t g).latch = s.latch := rfl
@[simp] theorem State.updBl_bell (t : Nat) (g : Blk → Blk) : (s.updBl t g).bell = s.bell := rfl
@[simp] theorem State.updBl_free (t : Nat) (g : Blk → Blk) : (s.updBl t g).free = s.free := rfl
@[simp] theorem State.updBl_out (t : Nat) (g : Blk → Blk) : (s.updBl t g).out = s.out := rfl
@[simp] theorem State.updBl_host (t : Nat) (g : Blk → Blk) : (s.updBl t g).host = s.host := rfl
@[simp] theorem State.updBl_sq (t : Nat) (g : Blk → Blk) : (s.updBl t g).sq = s.sq := rfl
@[simp] theorem State.updBl_dram (t : Nat) (g : Blk → Blk) : (s.updBl t g).dram = s.dram := rfl
@[simp] theorem State.updBl_queues (t : Nat) (g : Blk → Blk) : (s.updBl t g).queues = s.queues := rfl
@[simp] theorem State.updBl_proctor (t : Nat) (g : Blk → Blk) : (s.updBl t g).proctor = s.proctor := rfl
@[simp] theorem State.updBl_journal (t : Nat) (g : Blk → Blk) : (s.updBl t g).journal = s.journal := rfl
@[simp] theorem State.updBl_report (t : Nat) (g : Blk → Blk) : (s.updBl t g).report = s.report := rfl
@[simp] theorem State.updBl_faults (t : Nat) (g : Blk → Blk) : (s.updBl t g).faults = s.faults := rfl
@[simp] theorem State.updBl_pool (t : Nat) (g : Blk → Blk) : (s.updBl t g).pool = s.pool := rfl
@[simp] theorem State.updBl_streams (t : Nat) (g : Blk → Blk) : (s.updBl t g).streams = s.streams := rfl
@[simp] theorem State.updBl_links (t : Nat) (g : Blk → Blk) : (s.updBl t g).links = s.links := rfl
@[simp] theorem State.updBl_photo (t : Nat) (g : Blk → Blk) : (s.updBl t g).photo = s.photo := rfl
@[simp] theorem State.updBl_photoNv (t : Nat) (g : Blk → Blk) : (s.updBl t g).photoNv = s.photoNv := rfl
@[simp] theorem State.updBl_refmon (t : Nat) (g : Blk → Blk) : (s.updBl t g).refmon = s.refmon := rfl
@[simp] theorem State.updBl_refOn (t : Nat) (g : Blk → Blk) : (s.updBl t g).refOn = s.refOn := rfl
@[simp] theorem State.updBl_crown (t : Nat) (g : Blk → Blk) : (s.updBl t g).crown = s.crown := rfl
@[simp] theorem State.updBl_crownMap (t : Nat) (g : Blk → Blk) : (s.updBl t g).crownMap = s.crownMap := rfl
@[simp] theorem State.updBl_brim (t : Nat) (g : Blk → Blk) : (s.updBl t g).brim = s.brim := rfl
@[simp] theorem State.updBl_work (t : Nat) (g : Blk → Blk) : (s.updBl t g).work = s.work := rfl
@[simp] theorem State.updBl_site (t : Nat) (g : Blk → Blk) : (s.updBl t g).site = s.site := rfl
@[simp] theorem State.updBl_twin (t : Nat) (g : Blk → Blk) : (s.updBl t g).twin = s.twin := rfl
@[simp] theorem State.updBl_clocks (t : Nat) (g : Blk → Blk) : (s.updBl t g).clocks = s.clocks := rfl
@[simp] theorem State.updBl_sec (t : Nat) (g : Blk → Blk) : (s.updBl t g).sec = s.sec := rfl
@[simp] theorem State.updBl_therm (t : Nat) (g : Blk → Blk) : (s.updBl t g).therm = s.therm := rfl
@[simp] theorem State.updBl_tests (t : Nat) (g : Blk → Blk) : (s.updBl t g).tests = s.tests := rfl
@[simp] theorem State.updBl_power (t : Nat) (g : Blk → Blk) : (s.updBl t g).power = s.power := rfl
@[simp] theorem State.updBl_ident (t : Nat) (g : Blk → Blk) : (s.updBl t g).ident = s.ident := rfl
@[simp] theorem State.updBl_pending (t : Nat) (g : Blk → Blk) : (s.updBl t g).pending = s.pending := rfl
@[simp] theorem State.updBl_rd (t : Nat) (g : Blk → Blk) (off : Nat) : (s.updBl t g).rd off = s.rd off := rfl
@[simp] theorem State.updBl_f (t : Nat) (g : Blk → Blk) (y : Fld) : (s.updBl t g).f y = s.f y := rfl
@[simp] theorem State.updBl_b (t : Nat) (g : Blk → Blk) (y : Fld) : (s.updBl t g).b y = s.b y := rfl

/-! ### updSt changes site only -/

@[simp] theorem State.updSt_regs (n : Nat) (g : Site → Site) : (s.updSt n g).regs = s.regs := rfl
@[simp] theorem State.updSt_latch (n : Nat) (g : Site → Site) : (s.updSt n g).latch = s.latch := rfl
@[simp] theorem State.updSt_bell (n : Nat) (g : Site → Site) : (s.updSt n g).bell = s.bell := rfl
@[simp] theorem State.updSt_free (n : Nat) (g : Site → Site) : (s.updSt n g).free = s.free := rfl
@[simp] theorem State.updSt_out (n : Nat) (g : Site → Site) : (s.updSt n g).out = s.out := rfl
@[simp] theorem State.updSt_host (n : Nat) (g : Site → Site) : (s.updSt n g).host = s.host := rfl
@[simp] theorem State.updSt_sq (n : Nat) (g : Site → Site) : (s.updSt n g).sq = s.sq := rfl
@[simp] theorem State.updSt_dram (n : Nat) (g : Site → Site) : (s.updSt n g).dram = s.dram := rfl
@[simp] theorem State.updSt_queues (n : Nat) (g : Site → Site) : (s.updSt n g).queues = s.queues := rfl
@[simp] theorem State.updSt_proctor (n : Nat) (g : Site → Site) : (s.updSt n g).proctor = s.proctor := rfl
@[simp] theorem State.updSt_journal (n : Nat) (g : Site → Site) : (s.updSt n g).journal = s.journal := rfl
@[simp] theorem State.updSt_report (n : Nat) (g : Site → Site) : (s.updSt n g).report = s.report := rfl
@[simp] theorem State.updSt_faults (n : Nat) (g : Site → Site) : (s.updSt n g).faults = s.faults := rfl
@[simp] theorem State.updSt_pool (n : Nat) (g : Site → Site) : (s.updSt n g).pool = s.pool := rfl
@[simp] theorem State.updSt_streams (n : Nat) (g : Site → Site) : (s.updSt n g).streams = s.streams := rfl
@[simp] theorem State.updSt_links (n : Nat) (g : Site → Site) : (s.updSt n g).links = s.links := rfl
@[simp] theorem State.updSt_photo (n : Nat) (g : Site → Site) : (s.updSt n g).photo = s.photo := rfl
@[simp] theorem State.updSt_photoNv (n : Nat) (g : Site → Site) : (s.updSt n g).photoNv = s.photoNv := rfl
@[simp] theorem State.updSt_refmon (n : Nat) (g : Site → Site) : (s.updSt n g).refmon = s.refmon := rfl
@[simp] theorem State.updSt_refOn (n : Nat) (g : Site → Site) : (s.updSt n g).refOn = s.refOn := rfl
@[simp] theorem State.updSt_crown (n : Nat) (g : Site → Site) : (s.updSt n g).crown = s.crown := rfl
@[simp] theorem State.updSt_crownMap (n : Nat) (g : Site → Site) : (s.updSt n g).crownMap = s.crownMap := rfl
@[simp] theorem State.updSt_brim (n : Nat) (g : Site → Site) : (s.updSt n g).brim = s.brim := rfl
@[simp] theorem State.updSt_work (n : Nat) (g : Site → Site) : (s.updSt n g).work = s.work := rfl
@[simp] theorem State.updSt_blk (n : Nat) (g : Site → Site) : (s.updSt n g).blk = s.blk := rfl
@[simp] theorem State.updSt_twin (n : Nat) (g : Site → Site) : (s.updSt n g).twin = s.twin := rfl
@[simp] theorem State.updSt_clocks (n : Nat) (g : Site → Site) : (s.updSt n g).clocks = s.clocks := rfl
@[simp] theorem State.updSt_sec (n : Nat) (g : Site → Site) : (s.updSt n g).sec = s.sec := rfl
@[simp] theorem State.updSt_therm (n : Nat) (g : Site → Site) : (s.updSt n g).therm = s.therm := rfl
@[simp] theorem State.updSt_tests (n : Nat) (g : Site → Site) : (s.updSt n g).tests = s.tests := rfl
@[simp] theorem State.updSt_power (n : Nat) (g : Site → Site) : (s.updSt n g).power = s.power := rfl
@[simp] theorem State.updSt_ident (n : Nat) (g : Site → Site) : (s.updSt n g).ident = s.ident := rfl
@[simp] theorem State.updSt_pending (n : Nat) (g : Site → Site) : (s.updSt n g).pending = s.pending := rfl
@[simp] theorem State.updSt_rd (n : Nat) (g : Site → Site) (off : Nat) : (s.updSt n g).rd off = s.rd off := rfl
@[simp] theorem State.updSt_f (n : Nat) (g : Site → Site) (y : Fld) : (s.updSt n g).f y = s.f y := rfl
@[simp] theorem State.updSt_b (n : Nat) (g : Site → Site) (y : Fld) : (s.updSt n g).b y = s.b y := rfl

/-! ### updQu changes queues only -/

@[simp] theorem State.updQu_regs (q : Nat) (g : QueueSt → QueueSt) : (s.updQu q g).regs = s.regs := rfl
@[simp] theorem State.updQu_latch (q : Nat) (g : QueueSt → QueueSt) : (s.updQu q g).latch = s.latch := rfl
@[simp] theorem State.updQu_bell (q : Nat) (g : QueueSt → QueueSt) : (s.updQu q g).bell = s.bell := rfl
@[simp] theorem State.updQu_free (q : Nat) (g : QueueSt → QueueSt) : (s.updQu q g).free = s.free := rfl
@[simp] theorem State.updQu_out (q : Nat) (g : QueueSt → QueueSt) : (s.updQu q g).out = s.out := rfl
@[simp] theorem State.updQu_host (q : Nat) (g : QueueSt → QueueSt) : (s.updQu q g).host = s.host := rfl
@[simp] theorem State.updQu_sq (q : Nat) (g : QueueSt → QueueSt) : (s.updQu q g).sq = s.sq := rfl
@[simp] theorem State.updQu_dram (q : Nat) (g : QueueSt → QueueSt) : (s.updQu q g).dram = s.dram := rfl
@[simp] theorem State.updQu_proctor (q : Nat) (g : QueueSt → QueueSt) : (s.updQu q g).proctor = s.proctor := rfl
@[simp] theorem State.updQu_journal (q : Nat) (g : QueueSt → QueueSt) : (s.updQu q g).journal = s.journal := rfl
@[simp] theorem State.updQu_report (q : Nat) (g : QueueSt → QueueSt) : (s.updQu q g).report = s.report := rfl
@[simp] theorem State.updQu_faults (q : Nat) (g : QueueSt → QueueSt) : (s.updQu q g).faults = s.faults := rfl
@[simp] theorem State.updQu_pool (q : Nat) (g : QueueSt → QueueSt) : (s.updQu q g).pool = s.pool := rfl
@[simp] theorem State.updQu_streams (q : Nat) (g : QueueSt → QueueSt) : (s.updQu q g).streams = s.streams := rfl
@[simp] theorem State.updQu_links (q : Nat) (g : QueueSt → QueueSt) : (s.updQu q g).links = s.links := rfl
@[simp] theorem State.updQu_photo (q : Nat) (g : QueueSt → QueueSt) : (s.updQu q g).photo = s.photo := rfl
@[simp] theorem State.updQu_photoNv (q : Nat) (g : QueueSt → QueueSt) : (s.updQu q g).photoNv = s.photoNv := rfl
@[simp] theorem State.updQu_refmon (q : Nat) (g : QueueSt → QueueSt) : (s.updQu q g).refmon = s.refmon := rfl
@[simp] theorem State.updQu_refOn (q : Nat) (g : QueueSt → QueueSt) : (s.updQu q g).refOn = s.refOn := rfl
@[simp] theorem State.updQu_crown (q : Nat) (g : QueueSt → QueueSt) : (s.updQu q g).crown = s.crown := rfl
@[simp] theorem State.updQu_crownMap (q : Nat) (g : QueueSt → QueueSt) : (s.updQu q g).crownMap = s.crownMap := rfl
@[simp] theorem State.updQu_brim (q : Nat) (g : QueueSt → QueueSt) : (s.updQu q g).brim = s.brim := rfl
@[simp] theorem State.updQu_work (q : Nat) (g : QueueSt → QueueSt) : (s.updQu q g).work = s.work := rfl
@[simp] theorem State.updQu_blk (q : Nat) (g : QueueSt → QueueSt) : (s.updQu q g).blk = s.blk := rfl
@[simp] theorem State.updQu_site (q : Nat) (g : QueueSt → QueueSt) : (s.updQu q g).site = s.site := rfl
@[simp] theorem State.updQu_twin (q : Nat) (g : QueueSt → QueueSt) : (s.updQu q g).twin = s.twin := rfl
@[simp] theorem State.updQu_clocks (q : Nat) (g : QueueSt → QueueSt) : (s.updQu q g).clocks = s.clocks := rfl
@[simp] theorem State.updQu_sec (q : Nat) (g : QueueSt → QueueSt) : (s.updQu q g).sec = s.sec := rfl
@[simp] theorem State.updQu_therm (q : Nat) (g : QueueSt → QueueSt) : (s.updQu q g).therm = s.therm := rfl
@[simp] theorem State.updQu_tests (q : Nat) (g : QueueSt → QueueSt) : (s.updQu q g).tests = s.tests := rfl
@[simp] theorem State.updQu_power (q : Nat) (g : QueueSt → QueueSt) : (s.updQu q g).power = s.power := rfl
@[simp] theorem State.updQu_ident (q : Nat) (g : QueueSt → QueueSt) : (s.updQu q g).ident = s.ident := rfl
@[simp] theorem State.updQu_pending (q : Nat) (g : QueueSt → QueueSt) : (s.updQu q g).pending = s.pending := rfl
@[simp] theorem State.updQu_rd (q : Nat) (g : QueueSt → QueueSt) (off : Nat) : (s.updQu q g).rd off = s.rd off := rfl
@[simp] theorem State.updQu_f (q : Nat) (g : QueueSt → QueueSt) (y : Fld) : (s.updQu q g).f y = s.f y := rfl
@[simp] theorem State.updQu_b (q : Nat) (g : QueueSt → QueueSt) (y : Fld) : (s.updQu q g).b y = s.b y := rfl

/-! ### updTh changes therm only -/

@[simp] theorem State.updTh_regs (t : Nat) (g : Therm → Therm) : (s.updTh t g).regs = s.regs := rfl
@[simp] theorem State.updTh_latch (t : Nat) (g : Therm → Therm) : (s.updTh t g).latch = s.latch := rfl
@[simp] theorem State.updTh_bell (t : Nat) (g : Therm → Therm) : (s.updTh t g).bell = s.bell := rfl
@[simp] theorem State.updTh_free (t : Nat) (g : Therm → Therm) : (s.updTh t g).free = s.free := rfl
@[simp] theorem State.updTh_out (t : Nat) (g : Therm → Therm) : (s.updTh t g).out = s.out := rfl
@[simp] theorem State.updTh_host (t : Nat) (g : Therm → Therm) : (s.updTh t g).host = s.host := rfl
@[simp] theorem State.updTh_sq (t : Nat) (g : Therm → Therm) : (s.updTh t g).sq = s.sq := rfl
@[simp] theorem State.updTh_dram (t : Nat) (g : Therm → Therm) : (s.updTh t g).dram = s.dram := rfl
@[simp] theorem State.updTh_queues (t : Nat) (g : Therm → Therm) : (s.updTh t g).queues = s.queues := rfl
@[simp] theorem State.updTh_proctor (t : Nat) (g : Therm → Therm) : (s.updTh t g).proctor = s.proctor := rfl
@[simp] theorem State.updTh_journal (t : Nat) (g : Therm → Therm) : (s.updTh t g).journal = s.journal := rfl
@[simp] theorem State.updTh_report (t : Nat) (g : Therm → Therm) : (s.updTh t g).report = s.report := rfl
@[simp] theorem State.updTh_faults (t : Nat) (g : Therm → Therm) : (s.updTh t g).faults = s.faults := rfl
@[simp] theorem State.updTh_pool (t : Nat) (g : Therm → Therm) : (s.updTh t g).pool = s.pool := rfl
@[simp] theorem State.updTh_streams (t : Nat) (g : Therm → Therm) : (s.updTh t g).streams = s.streams := rfl
@[simp] theorem State.updTh_links (t : Nat) (g : Therm → Therm) : (s.updTh t g).links = s.links := rfl
@[simp] theorem State.updTh_photo (t : Nat) (g : Therm → Therm) : (s.updTh t g).photo = s.photo := rfl
@[simp] theorem State.updTh_photoNv (t : Nat) (g : Therm → Therm) : (s.updTh t g).photoNv = s.photoNv := rfl
@[simp] theorem State.updTh_refmon (t : Nat) (g : Therm → Therm) : (s.updTh t g).refmon = s.refmon := rfl
@[simp] theorem State.updTh_refOn (t : Nat) (g : Therm → Therm) : (s.updTh t g).refOn = s.refOn := rfl
@[simp] theorem State.updTh_crown (t : Nat) (g : Therm → Therm) : (s.updTh t g).crown = s.crown := rfl
@[simp] theorem State.updTh_crownMap (t : Nat) (g : Therm → Therm) : (s.updTh t g).crownMap = s.crownMap := rfl
@[simp] theorem State.updTh_brim (t : Nat) (g : Therm → Therm) : (s.updTh t g).brim = s.brim := rfl
@[simp] theorem State.updTh_work (t : Nat) (g : Therm → Therm) : (s.updTh t g).work = s.work := rfl
@[simp] theorem State.updTh_blk (t : Nat) (g : Therm → Therm) : (s.updTh t g).blk = s.blk := rfl
@[simp] theorem State.updTh_site (t : Nat) (g : Therm → Therm) : (s.updTh t g).site = s.site := rfl
@[simp] theorem State.updTh_twin (t : Nat) (g : Therm → Therm) : (s.updTh t g).twin = s.twin := rfl
@[simp] theorem State.updTh_clocks (t : Nat) (g : Therm → Therm) : (s.updTh t g).clocks = s.clocks := rfl
@[simp] theorem State.updTh_sec (t : Nat) (g : Therm → Therm) : (s.updTh t g).sec = s.sec := rfl
@[simp] theorem State.updTh_tests (t : Nat) (g : Therm → Therm) : (s.updTh t g).tests = s.tests := rfl
@[simp] theorem State.updTh_power (t : Nat) (g : Therm → Therm) : (s.updTh t g).power = s.power := rfl
@[simp] theorem State.updTh_ident (t : Nat) (g : Therm → Therm) : (s.updTh t g).ident = s.ident := rfl
@[simp] theorem State.updTh_pending (t : Nat) (g : Therm → Therm) : (s.updTh t g).pending = s.pending := rfl
@[simp] theorem State.updTh_rd (t : Nat) (g : Therm → Therm) (off : Nat) : (s.updTh t g).rd off = s.rd off := rfl
@[simp] theorem State.updTh_f (t : Nat) (g : Therm → Therm) (y : Fld) : (s.updTh t g).f y = s.f y := rfl
@[simp] theorem State.updTh_b (t : Nat) (g : Therm → Therm) (y : Fld) : (s.updTh t g).b y = s.b y := rfl

/-! ### updClk changes clocks only -/

@[simp] theorem State.updClk_regs (g : Clocks → Clocks) : (s.updClk g).regs = s.regs := rfl
@[simp] theorem State.updClk_latch (g : Clocks → Clocks) : (s.updClk g).latch = s.latch := rfl
@[simp] theorem State.updClk_bell (g : Clocks → Clocks) : (s.updClk g).bell = s.bell := rfl
@[simp] theorem State.updClk_free (g : Clocks → Clocks) : (s.updClk g).free = s.free := rfl
@[simp] theorem State.updClk_out (g : Clocks → Clocks) : (s.updClk g).out = s.out := rfl
@[simp] theorem State.updClk_host (g : Clocks → Clocks) : (s.updClk g).host = s.host := rfl
@[simp] theorem State.updClk_sq (g : Clocks → Clocks) : (s.updClk g).sq = s.sq := rfl
@[simp] theorem State.updClk_dram (g : Clocks → Clocks) : (s.updClk g).dram = s.dram := rfl
@[simp] theorem State.updClk_queues (g : Clocks → Clocks) : (s.updClk g).queues = s.queues := rfl
@[simp] theorem State.updClk_proctor (g : Clocks → Clocks) : (s.updClk g).proctor = s.proctor := rfl
@[simp] theorem State.updClk_journal (g : Clocks → Clocks) : (s.updClk g).journal = s.journal := rfl
@[simp] theorem State.updClk_report (g : Clocks → Clocks) : (s.updClk g).report = s.report := rfl
@[simp] theorem State.updClk_faults (g : Clocks → Clocks) : (s.updClk g).faults = s.faults := rfl
@[simp] theorem State.updClk_pool (g : Clocks → Clocks) : (s.updClk g).pool = s.pool := rfl
@[simp] theorem State.updClk_streams (g : Clocks → Clocks) : (s.updClk g).streams = s.streams := rfl
@[simp] theorem State.updClk_links (g : Clocks → Clocks) : (s.updClk g).links = s.links := rfl
@[simp] theorem State.updClk_photo (g : Clocks → Clocks) : (s.updClk g).photo = s.photo := rfl
@[simp] theorem State.updClk_photoNv (g : Clocks → Clocks) : (s.updClk g).photoNv = s.photoNv := rfl
@[simp] theorem State.updClk_refmon (g : Clocks → Clocks) : (s.updClk g).refmon = s.refmon := rfl
@[simp] theorem State.updClk_refOn (g : Clocks → Clocks) : (s.updClk g).refOn = s.refOn := rfl
@[simp] theorem State.updClk_crown (g : Clocks → Clocks) : (s.updClk g).crown = s.crown := rfl
@[simp] theorem State.updClk_crownMap (g : Clocks → Clocks) : (s.updClk g).crownMap = s.crownMap := rfl
@[simp] theorem State.updClk_brim (g : Clocks → Clocks) : (s.updClk g).brim = s.brim := rfl
@[simp] theorem State.updClk_work (g : Clocks → Clocks) : (s.updClk g).work = s.work := rfl
@[simp] theorem State.updClk_blk (g : Clocks → Clocks) : (s.updClk g).blk = s.blk := rfl
@[simp] theorem State.updClk_site (g : Clocks → Clocks) : (s.updClk g).site = s.site := rfl
@[simp] theorem State.updClk_twin (g : Clocks → Clocks) : (s.updClk g).twin = s.twin := rfl
@[simp] theorem State.updClk_sec (g : Clocks → Clocks) : (s.updClk g).sec = s.sec := rfl
@[simp] theorem State.updClk_therm (g : Clocks → Clocks) : (s.updClk g).therm = s.therm := rfl
@[simp] theorem State.updClk_tests (g : Clocks → Clocks) : (s.updClk g).tests = s.tests := rfl
@[simp] theorem State.updClk_power (g : Clocks → Clocks) : (s.updClk g).power = s.power := rfl
@[simp] theorem State.updClk_ident (g : Clocks → Clocks) : (s.updClk g).ident = s.ident := rfl
@[simp] theorem State.updClk_pending (g : Clocks → Clocks) : (s.updClk g).pending = s.pending := rfl
@[simp] theorem State.updClk_rd (g : Clocks → Clocks) (off : Nat) : (s.updClk g).rd off = s.rd off := rfl
@[simp] theorem State.updClk_f (g : Clocks → Clocks) (y : Fld) : (s.updClk g).f y = s.f y := rfl
@[simp] theorem State.updClk_b (g : Clocks → Clocks) (y : Fld) : (s.updClk g).b y = s.b y := rfl

/-! ### updSec changes sec only -/

@[simp] theorem State.updSec_regs (g : Sec → Sec) : (s.updSec g).regs = s.regs := rfl
@[simp] theorem State.updSec_latch (g : Sec → Sec) : (s.updSec g).latch = s.latch := rfl
@[simp] theorem State.updSec_bell (g : Sec → Sec) : (s.updSec g).bell = s.bell := rfl
@[simp] theorem State.updSec_free (g : Sec → Sec) : (s.updSec g).free = s.free := rfl
@[simp] theorem State.updSec_out (g : Sec → Sec) : (s.updSec g).out = s.out := rfl
@[simp] theorem State.updSec_host (g : Sec → Sec) : (s.updSec g).host = s.host := rfl
@[simp] theorem State.updSec_sq (g : Sec → Sec) : (s.updSec g).sq = s.sq := rfl
@[simp] theorem State.updSec_dram (g : Sec → Sec) : (s.updSec g).dram = s.dram := rfl
@[simp] theorem State.updSec_queues (g : Sec → Sec) : (s.updSec g).queues = s.queues := rfl
@[simp] theorem State.updSec_proctor (g : Sec → Sec) : (s.updSec g).proctor = s.proctor := rfl
@[simp] theorem State.updSec_journal (g : Sec → Sec) : (s.updSec g).journal = s.journal := rfl
@[simp] theorem State.updSec_report (g : Sec → Sec) : (s.updSec g).report = s.report := rfl
@[simp] theorem State.updSec_faults (g : Sec → Sec) : (s.updSec g).faults = s.faults := rfl
@[simp] theorem State.updSec_pool (g : Sec → Sec) : (s.updSec g).pool = s.pool := rfl
@[simp] theorem State.updSec_streams (g : Sec → Sec) : (s.updSec g).streams = s.streams := rfl
@[simp] theorem State.updSec_links (g : Sec → Sec) : (s.updSec g).links = s.links := rfl
@[simp] theorem State.updSec_photo (g : Sec → Sec) : (s.updSec g).photo = s.photo := rfl
@[simp] theorem State.updSec_photoNv (g : Sec → Sec) : (s.updSec g).photoNv = s.photoNv := rfl
@[simp] theorem State.updSec_refmon (g : Sec → Sec) : (s.updSec g).refmon = s.refmon := rfl
@[simp] theorem State.updSec_refOn (g : Sec → Sec) : (s.updSec g).refOn = s.refOn := rfl
@[simp] theorem State.updSec_crown (g : Sec → Sec) : (s.updSec g).crown = s.crown := rfl
@[simp] theorem State.updSec_crownMap (g : Sec → Sec) : (s.updSec g).crownMap = s.crownMap := rfl
@[simp] theorem State.updSec_brim (g : Sec → Sec) : (s.updSec g).brim = s.brim := rfl
@[simp] theorem State.updSec_work (g : Sec → Sec) : (s.updSec g).work = s.work := rfl
@[simp] theorem State.updSec_blk (g : Sec → Sec) : (s.updSec g).blk = s.blk := rfl
@[simp] theorem State.updSec_site (g : Sec → Sec) : (s.updSec g).site = s.site := rfl
@[simp] theorem State.updSec_twin (g : Sec → Sec) : (s.updSec g).twin = s.twin := rfl
@[simp] theorem State.updSec_clocks (g : Sec → Sec) : (s.updSec g).clocks = s.clocks := rfl
@[simp] theorem State.updSec_therm (g : Sec → Sec) : (s.updSec g).therm = s.therm := rfl
@[simp] theorem State.updSec_tests (g : Sec → Sec) : (s.updSec g).tests = s.tests := rfl
@[simp] theorem State.updSec_power (g : Sec → Sec) : (s.updSec g).power = s.power := rfl
@[simp] theorem State.updSec_ident (g : Sec → Sec) : (s.updSec g).ident = s.ident := rfl
@[simp] theorem State.updSec_pending (g : Sec → Sec) : (s.updSec g).pending = s.pending := rfl
@[simp] theorem State.updSec_rd (g : Sec → Sec) (off : Nat) : (s.updSec g).rd off = s.rd off := rfl
@[simp] theorem State.updSec_f (g : Sec → Sec) (y : Fld) : (s.updSec g).f y = s.f y := rfl
@[simp] theorem State.updSec_b (g : Sec → Sec) (y : Fld) : (s.updSec g).b y = s.b y := rfl

/-! ### updPow changes power only -/

@[simp] theorem State.updPow_regs (g : Power → Power) : (s.updPow g).regs = s.regs := rfl
@[simp] theorem State.updPow_latch (g : Power → Power) : (s.updPow g).latch = s.latch := rfl
@[simp] theorem State.updPow_bell (g : Power → Power) : (s.updPow g).bell = s.bell := rfl
@[simp] theorem State.updPow_free (g : Power → Power) : (s.updPow g).free = s.free := rfl
@[simp] theorem State.updPow_out (g : Power → Power) : (s.updPow g).out = s.out := rfl
@[simp] theorem State.updPow_host (g : Power → Power) : (s.updPow g).host = s.host := rfl
@[simp] theorem State.updPow_sq (g : Power → Power) : (s.updPow g).sq = s.sq := rfl
@[simp] theorem State.updPow_dram (g : Power → Power) : (s.updPow g).dram = s.dram := rfl
@[simp] theorem State.updPow_queues (g : Power → Power) : (s.updPow g).queues = s.queues := rfl
@[simp] theorem State.updPow_proctor (g : Power → Power) : (s.updPow g).proctor = s.proctor := rfl
@[simp] theorem State.updPow_journal (g : Power → Power) : (s.updPow g).journal = s.journal := rfl
@[simp] theorem State.updPow_report (g : Power → Power) : (s.updPow g).report = s.report := rfl
@[simp] theorem State.updPow_faults (g : Power → Power) : (s.updPow g).faults = s.faults := rfl
@[simp] theorem State.updPow_pool (g : Power → Power) : (s.updPow g).pool = s.pool := rfl
@[simp] theorem State.updPow_streams (g : Power → Power) : (s.updPow g).streams = s.streams := rfl
@[simp] theorem State.updPow_links (g : Power → Power) : (s.updPow g).links = s.links := rfl
@[simp] theorem State.updPow_photo (g : Power → Power) : (s.updPow g).photo = s.photo := rfl
@[simp] theorem State.updPow_photoNv (g : Power → Power) : (s.updPow g).photoNv = s.photoNv := rfl
@[simp] theorem State.updPow_refmon (g : Power → Power) : (s.updPow g).refmon = s.refmon := rfl
@[simp] theorem State.updPow_refOn (g : Power → Power) : (s.updPow g).refOn = s.refOn := rfl
@[simp] theorem State.updPow_crown (g : Power → Power) : (s.updPow g).crown = s.crown := rfl
@[simp] theorem State.updPow_crownMap (g : Power → Power) : (s.updPow g).crownMap = s.crownMap := rfl
@[simp] theorem State.updPow_brim (g : Power → Power) : (s.updPow g).brim = s.brim := rfl
@[simp] theorem State.updPow_work (g : Power → Power) : (s.updPow g).work = s.work := rfl
@[simp] theorem State.updPow_blk (g : Power → Power) : (s.updPow g).blk = s.blk := rfl
@[simp] theorem State.updPow_site (g : Power → Power) : (s.updPow g).site = s.site := rfl
@[simp] theorem State.updPow_twin (g : Power → Power) : (s.updPow g).twin = s.twin := rfl
@[simp] theorem State.updPow_clocks (g : Power → Power) : (s.updPow g).clocks = s.clocks := rfl
@[simp] theorem State.updPow_sec (g : Power → Power) : (s.updPow g).sec = s.sec := rfl
@[simp] theorem State.updPow_therm (g : Power → Power) : (s.updPow g).therm = s.therm := rfl
@[simp] theorem State.updPow_tests (g : Power → Power) : (s.updPow g).tests = s.tests := rfl
@[simp] theorem State.updPow_ident (g : Power → Power) : (s.updPow g).ident = s.ident := rfl
@[simp] theorem State.updPow_pending (g : Power → Power) : (s.updPow g).pending = s.pending := rfl
@[simp] theorem State.updPow_rd (g : Power → Power) (off : Nat) : (s.updPow g).rd off = s.rd off := rfl
@[simp] theorem State.updPow_f (g : Power → Power) (y : Fld) : (s.updPow g).f y = s.f y := rfl
@[simp] theorem State.updPow_b (g : Power → Power) (y : Fld) : (s.updPow g).b y = s.b y := rfl

/-! ### updPool changes pool only -/

@[simp] theorem State.updPool_regs (g : Pool → Pool) : (s.updPool g).regs = s.regs := rfl
@[simp] theorem State.updPool_latch (g : Pool → Pool) : (s.updPool g).latch = s.latch := rfl
@[simp] theorem State.updPool_bell (g : Pool → Pool) : (s.updPool g).bell = s.bell := rfl
@[simp] theorem State.updPool_free (g : Pool → Pool) : (s.updPool g).free = s.free := rfl
@[simp] theorem State.updPool_out (g : Pool → Pool) : (s.updPool g).out = s.out := rfl
@[simp] theorem State.updPool_host (g : Pool → Pool) : (s.updPool g).host = s.host := rfl
@[simp] theorem State.updPool_sq (g : Pool → Pool) : (s.updPool g).sq = s.sq := rfl
@[simp] theorem State.updPool_dram (g : Pool → Pool) : (s.updPool g).dram = s.dram := rfl
@[simp] theorem State.updPool_queues (g : Pool → Pool) : (s.updPool g).queues = s.queues := rfl
@[simp] theorem State.updPool_proctor (g : Pool → Pool) : (s.updPool g).proctor = s.proctor := rfl
@[simp] theorem State.updPool_journal (g : Pool → Pool) : (s.updPool g).journal = s.journal := rfl
@[simp] theorem State.updPool_report (g : Pool → Pool) : (s.updPool g).report = s.report := rfl
@[simp] theorem State.updPool_faults (g : Pool → Pool) : (s.updPool g).faults = s.faults := rfl
@[simp] theorem State.updPool_streams (g : Pool → Pool) : (s.updPool g).streams = s.streams := rfl
@[simp] theorem State.updPool_links (g : Pool → Pool) : (s.updPool g).links = s.links := rfl
@[simp] theorem State.updPool_photo (g : Pool → Pool) : (s.updPool g).photo = s.photo := rfl
@[simp] theorem State.updPool_photoNv (g : Pool → Pool) : (s.updPool g).photoNv = s.photoNv := rfl
@[simp] theorem State.updPool_refmon (g : Pool → Pool) : (s.updPool g).refmon = s.refmon := rfl
@[simp] theorem State.updPool_refOn (g : Pool → Pool) : (s.updPool g).refOn = s.refOn := rfl
@[simp] theorem State.updPool_crown (g : Pool → Pool) : (s.updPool g).crown = s.crown := rfl
@[simp] theorem State.updPool_crownMap (g : Pool → Pool) : (s.updPool g).crownMap = s.crownMap := rfl
@[simp] theorem State.updPool_brim (g : Pool → Pool) : (s.updPool g).brim = s.brim := rfl
@[simp] theorem State.updPool_work (g : Pool → Pool) : (s.updPool g).work = s.work := rfl
@[simp] theorem State.updPool_blk (g : Pool → Pool) : (s.updPool g).blk = s.blk := rfl
@[simp] theorem State.updPool_site (g : Pool → Pool) : (s.updPool g).site = s.site := rfl
@[simp] theorem State.updPool_twin (g : Pool → Pool) : (s.updPool g).twin = s.twin := rfl
@[simp] theorem State.updPool_clocks (g : Pool → Pool) : (s.updPool g).clocks = s.clocks := rfl
@[simp] theorem State.updPool_sec (g : Pool → Pool) : (s.updPool g).sec = s.sec := rfl
@[simp] theorem State.updPool_therm (g : Pool → Pool) : (s.updPool g).therm = s.therm := rfl
@[simp] theorem State.updPool_tests (g : Pool → Pool) : (s.updPool g).tests = s.tests := rfl
@[simp] theorem State.updPool_power (g : Pool → Pool) : (s.updPool g).power = s.power := rfl
@[simp] theorem State.updPool_ident (g : Pool → Pool) : (s.updPool g).ident = s.ident := rfl
@[simp] theorem State.updPool_pending (g : Pool → Pool) : (s.updPool g).pending = s.pending := rfl
@[simp] theorem State.updPool_rd (g : Pool → Pool) (off : Nat) : (s.updPool g).rd off = s.rd off := rfl
@[simp] theorem State.updPool_f (g : Pool → Pool) (y : Fld) : (s.updPool g).f y = s.f y := rfl
@[simp] theorem State.updPool_b (g : Pool → Pool) (y : Fld) : (s.updPool g).b y = s.b y := rfl

/-! ### updPr changes proctor only -/

@[simp] theorem State.updPr_regs (g : Proctor → Proctor) : (s.updPr g).regs = s.regs := rfl
@[simp] theorem State.updPr_latch (g : Proctor → Proctor) : (s.updPr g).latch = s.latch := rfl
@[simp] theorem State.updPr_bell (g : Proctor → Proctor) : (s.updPr g).bell = s.bell := rfl
@[simp] theorem State.updPr_free (g : Proctor → Proctor) : (s.updPr g).free = s.free := rfl
@[simp] theorem State.updPr_out (g : Proctor → Proctor) : (s.updPr g).out = s.out := rfl
@[simp] theorem State.updPr_host (g : Proctor → Proctor) : (s.updPr g).host = s.host := rfl
@[simp] theorem State.updPr_sq (g : Proctor → Proctor) : (s.updPr g).sq = s.sq := rfl
@[simp] theorem State.updPr_dram (g : Proctor → Proctor) : (s.updPr g).dram = s.dram := rfl
@[simp] theorem State.updPr_queues (g : Proctor → Proctor) : (s.updPr g).queues = s.queues := rfl
@[simp] theorem State.updPr_journal (g : Proctor → Proctor) : (s.updPr g).journal = s.journal := rfl
@[simp] theorem State.updPr_report (g : Proctor → Proctor) : (s.updPr g).report = s.report := rfl
@[simp] theorem State.updPr_faults (g : Proctor → Proctor) : (s.updPr g).faults = s.faults := rfl
@[simp] theorem State.updPr_pool (g : Proctor → Proctor) : (s.updPr g).pool = s.pool := rfl
@[simp] theorem State.updPr_streams (g : Proctor → Proctor) : (s.updPr g).streams = s.streams := rfl
@[simp] theorem State.updPr_links (g : Proctor → Proctor) : (s.updPr g).links = s.links := rfl
@[simp] theorem State.updPr_photo (g : Proctor → Proctor) : (s.updPr g).photo = s.photo := rfl
@[simp] theorem State.updPr_photoNv (g : Proctor → Proctor) : (s.updPr g).photoNv = s.photoNv := rfl
@[simp] theorem State.updPr_refmon (g : Proctor → Proctor) : (s.updPr g).refmon = s.refmon := rfl
@[simp] theorem State.updPr_refOn (g : Proctor → Proctor) : (s.updPr g).refOn = s.refOn := rfl
@[simp] theorem State.updPr_crown (g : Proctor → Proctor) : (s.updPr g).crown = s.crown := rfl
@[simp] theorem State.updPr_crownMap (g : Proctor → Proctor) : (s.updPr g).crownMap = s.crownMap := rfl
@[simp] theorem State.updPr_brim (g : Proctor → Proctor) : (s.updPr g).brim = s.brim := rfl
@[simp] theorem State.updPr_work (g : Proctor → Proctor) : (s.updPr g).work = s.work := rfl
@[simp] theorem State.updPr_blk (g : Proctor → Proctor) : (s.updPr g).blk = s.blk := rfl
@[simp] theorem State.updPr_site (g : Proctor → Proctor) : (s.updPr g).site = s.site := rfl
@[simp] theorem State.updPr_twin (g : Proctor → Proctor) : (s.updPr g).twin = s.twin := rfl
@[simp] theorem State.updPr_clocks (g : Proctor → Proctor) : (s.updPr g).clocks = s.clocks := rfl
@[simp] theorem State.updPr_sec (g : Proctor → Proctor) : (s.updPr g).sec = s.sec := rfl
@[simp] theorem State.updPr_therm (g : Proctor → Proctor) : (s.updPr g).therm = s.therm := rfl
@[simp] theorem State.updPr_tests (g : Proctor → Proctor) : (s.updPr g).tests = s.tests := rfl
@[simp] theorem State.updPr_power (g : Proctor → Proctor) : (s.updPr g).power = s.power := rfl
@[simp] theorem State.updPr_ident (g : Proctor → Proctor) : (s.updPr g).ident = s.ident := rfl
@[simp] theorem State.updPr_pending (g : Proctor → Proctor) : (s.updPr g).pending = s.pending := rfl
@[simp] theorem State.updPr_rd (g : Proctor → Proctor) (off : Nat) : (s.updPr g).rd off = s.rd off := rfl
@[simp] theorem State.updPr_f (g : Proctor → Proctor) (y : Fld) : (s.updPr g).f y = s.f y := rfl
@[simp] theorem State.updPr_b (g : Proctor → Proctor) (y : Fld) : (s.updPr g).b y = s.b y := rfl

/-! ### updTwin changes twin only -/

@[simp] theorem State.updTwin_regs (g : Twin → Twin) : (s.updTwin g).regs = s.regs := rfl
@[simp] theorem State.updTwin_latch (g : Twin → Twin) : (s.updTwin g).latch = s.latch := rfl
@[simp] theorem State.updTwin_bell (g : Twin → Twin) : (s.updTwin g).bell = s.bell := rfl
@[simp] theorem State.updTwin_free (g : Twin → Twin) : (s.updTwin g).free = s.free := rfl
@[simp] theorem State.updTwin_out (g : Twin → Twin) : (s.updTwin g).out = s.out := rfl
@[simp] theorem State.updTwin_host (g : Twin → Twin) : (s.updTwin g).host = s.host := rfl
@[simp] theorem State.updTwin_sq (g : Twin → Twin) : (s.updTwin g).sq = s.sq := rfl
@[simp] theorem State.updTwin_dram (g : Twin → Twin) : (s.updTwin g).dram = s.dram := rfl
@[simp] theorem State.updTwin_queues (g : Twin → Twin) : (s.updTwin g).queues = s.queues := rfl
@[simp] theorem State.updTwin_proctor (g : Twin → Twin) : (s.updTwin g).proctor = s.proctor := rfl
@[simp] theorem State.updTwin_journal (g : Twin → Twin) : (s.updTwin g).journal = s.journal := rfl
@[simp] theorem State.updTwin_report (g : Twin → Twin) : (s.updTwin g).report = s.report := rfl
@[simp] theorem State.updTwin_faults (g : Twin → Twin) : (s.updTwin g).faults = s.faults := rfl
@[simp] theorem State.updTwin_pool (g : Twin → Twin) : (s.updTwin g).pool = s.pool := rfl
@[simp] theorem State.updTwin_streams (g : Twin → Twin) : (s.updTwin g).streams = s.streams := rfl
@[simp] theorem State.updTwin_links (g : Twin → Twin) : (s.updTwin g).links = s.links := rfl
@[simp] theorem State.updTwin_photo (g : Twin → Twin) : (s.updTwin g).photo = s.photo := rfl
@[simp] theorem State.updTwin_photoNv (g : Twin → Twin) : (s.updTwin g).photoNv = s.photoNv := rfl
@[simp] theorem State.updTwin_refmon (g : Twin → Twin) : (s.updTwin g).refmon = s.refmon := rfl
@[simp] theorem State.updTwin_refOn (g : Twin → Twin) : (s.updTwin g).refOn = s.refOn := rfl
@[simp] theorem State.updTwin_crown (g : Twin → Twin) : (s.updTwin g).crown = s.crown := rfl
@[simp] theorem State.updTwin_crownMap (g : Twin → Twin) : (s.updTwin g).crownMap = s.crownMap := rfl
@[simp] theorem State.updTwin_brim (g : Twin → Twin) : (s.updTwin g).brim = s.brim := rfl
@[simp] theorem State.updTwin_work (g : Twin → Twin) : (s.updTwin g).work = s.work := rfl
@[simp] theorem State.updTwin_blk (g : Twin → Twin) : (s.updTwin g).blk = s.blk := rfl
@[simp] theorem State.updTwin_site (g : Twin → Twin) : (s.updTwin g).site = s.site := rfl
@[simp] theorem State.updTwin_clocks (g : Twin → Twin) : (s.updTwin g).clocks = s.clocks := rfl
@[simp] theorem State.updTwin_sec (g : Twin → Twin) : (s.updTwin g).sec = s.sec := rfl
@[simp] theorem State.updTwin_therm (g : Twin → Twin) : (s.updTwin g).therm = s.therm := rfl
@[simp] theorem State.updTwin_tests (g : Twin → Twin) : (s.updTwin g).tests = s.tests := rfl
@[simp] theorem State.updTwin_power (g : Twin → Twin) : (s.updTwin g).power = s.power := rfl
@[simp] theorem State.updTwin_ident (g : Twin → Twin) : (s.updTwin g).ident = s.ident := rfl
@[simp] theorem State.updTwin_pending (g : Twin → Twin) : (s.updTwin g).pending = s.pending := rfl
@[simp] theorem State.updTwin_rd (g : Twin → Twin) (off : Nat) : (s.updTwin g).rd off = s.rd off := rfl
@[simp] theorem State.updTwin_f (g : Twin → Twin) (y : Fld) : (s.updTwin g).f y = s.f y := rfl
@[simp] theorem State.updTwin_b (g : Twin → Twin) (y : Fld) : (s.updTwin g).b y = s.b y := rfl

/-! ### updOme changes work only -/

@[simp] theorem State.updOme_regs (t : Nat) (g : Ome → Ome) : (s.updOme t g).regs = s.regs := rfl
@[simp] theorem State.updOme_latch (t : Nat) (g : Ome → Ome) : (s.updOme t g).latch = s.latch := rfl
@[simp] theorem State.updOme_bell (t : Nat) (g : Ome → Ome) : (s.updOme t g).bell = s.bell := rfl
@[simp] theorem State.updOme_free (t : Nat) (g : Ome → Ome) : (s.updOme t g).free = s.free := rfl
@[simp] theorem State.updOme_out (t : Nat) (g : Ome → Ome) : (s.updOme t g).out = s.out := rfl
@[simp] theorem State.updOme_host (t : Nat) (g : Ome → Ome) : (s.updOme t g).host = s.host := rfl
@[simp] theorem State.updOme_sq (t : Nat) (g : Ome → Ome) : (s.updOme t g).sq = s.sq := rfl
@[simp] theorem State.updOme_dram (t : Nat) (g : Ome → Ome) : (s.updOme t g).dram = s.dram := rfl
@[simp] theorem State.updOme_queues (t : Nat) (g : Ome → Ome) : (s.updOme t g).queues = s.queues := rfl
@[simp] theorem State.updOme_proctor (t : Nat) (g : Ome → Ome) : (s.updOme t g).proctor = s.proctor := rfl
@[simp] theorem State.updOme_journal (t : Nat) (g : Ome → Ome) : (s.updOme t g).journal = s.journal := rfl
@[simp] theorem State.updOme_report (t : Nat) (g : Ome → Ome) : (s.updOme t g).report = s.report := rfl
@[simp] theorem State.updOme_faults (t : Nat) (g : Ome → Ome) : (s.updOme t g).faults = s.faults := rfl
@[simp] theorem State.updOme_pool (t : Nat) (g : Ome → Ome) : (s.updOme t g).pool = s.pool := rfl
@[simp] theorem State.updOme_streams (t : Nat) (g : Ome → Ome) : (s.updOme t g).streams = s.streams := rfl
@[simp] theorem State.updOme_links (t : Nat) (g : Ome → Ome) : (s.updOme t g).links = s.links := rfl
@[simp] theorem State.updOme_photo (t : Nat) (g : Ome → Ome) : (s.updOme t g).photo = s.photo := rfl
@[simp] theorem State.updOme_photoNv (t : Nat) (g : Ome → Ome) : (s.updOme t g).photoNv = s.photoNv := rfl
@[simp] theorem State.updOme_refmon (t : Nat) (g : Ome → Ome) : (s.updOme t g).refmon = s.refmon := rfl
@[simp] theorem State.updOme_refOn (t : Nat) (g : Ome → Ome) : (s.updOme t g).refOn = s.refOn := rfl
@[simp] theorem State.updOme_crown (t : Nat) (g : Ome → Ome) : (s.updOme t g).crown = s.crown := rfl
@[simp] theorem State.updOme_crownMap (t : Nat) (g : Ome → Ome) : (s.updOme t g).crownMap = s.crownMap := rfl
@[simp] theorem State.updOme_brim (t : Nat) (g : Ome → Ome) : (s.updOme t g).brim = s.brim := rfl
@[simp] theorem State.updOme_blk (t : Nat) (g : Ome → Ome) : (s.updOme t g).blk = s.blk := rfl
@[simp] theorem State.updOme_site (t : Nat) (g : Ome → Ome) : (s.updOme t g).site = s.site := rfl
@[simp] theorem State.updOme_twin (t : Nat) (g : Ome → Ome) : (s.updOme t g).twin = s.twin := rfl
@[simp] theorem State.updOme_clocks (t : Nat) (g : Ome → Ome) : (s.updOme t g).clocks = s.clocks := rfl
@[simp] theorem State.updOme_sec (t : Nat) (g : Ome → Ome) : (s.updOme t g).sec = s.sec := rfl
@[simp] theorem State.updOme_therm (t : Nat) (g : Ome → Ome) : (s.updOme t g).therm = s.therm := rfl
@[simp] theorem State.updOme_tests (t : Nat) (g : Ome → Ome) : (s.updOme t g).tests = s.tests := rfl
@[simp] theorem State.updOme_power (t : Nat) (g : Ome → Ome) : (s.updOme t g).power = s.power := rfl
@[simp] theorem State.updOme_ident (t : Nat) (g : Ome → Ome) : (s.updOme t g).ident = s.ident := rfl
@[simp] theorem State.updOme_pending (t : Nat) (g : Ome → Ome) : (s.updOme t g).pending = s.pending := rfl
@[simp] theorem State.updOme_rd (t : Nat) (g : Ome → Ome) (off : Nat) : (s.updOme t g).rd off = s.rd off := rfl
@[simp] theorem State.updOme_f (t : Nat) (g : Ome → Ome) (y : Fld) : (s.updOme t g).f y = s.f y := rfl
@[simp] theorem State.updOme_b (t : Nat) (g : Ome → Ome) (y : Fld) : (s.updOme t g).b y = s.b y := rfl

/-! ### setFs changes regs only -/

@[simp] theorem State.setFs_latch (l : List (Fld × Nat)) : (s.setFs l).latch = s.latch := by
  induction l generalizing s with
  | nil => rfl
  | cons a l ih => exact ih (s.setF a.1 a.2)
@[simp] theorem State.setFs_bell (l : List (Fld × Nat)) : (s.setFs l).bell = s.bell := by
  induction l generalizing s with
  | nil => rfl
  | cons a l ih => exact ih (s.setF a.1 a.2)
@[simp] theorem State.setFs_free (l : List (Fld × Nat)) : (s.setFs l).free = s.free := by
  induction l generalizing s with
  | nil => rfl
  | cons a l ih => exact ih (s.setF a.1 a.2)
@[simp] theorem State.setFs_out (l : List (Fld × Nat)) : (s.setFs l).out = s.out := by
  induction l generalizing s with
  | nil => rfl
  | cons a l ih => exact ih (s.setF a.1 a.2)
@[simp] theorem State.setFs_host (l : List (Fld × Nat)) : (s.setFs l).host = s.host := by
  induction l generalizing s with
  | nil => rfl
  | cons a l ih => exact ih (s.setF a.1 a.2)
@[simp] theorem State.setFs_sq (l : List (Fld × Nat)) : (s.setFs l).sq = s.sq := by
  induction l generalizing s with
  | nil => rfl
  | cons a l ih => exact ih (s.setF a.1 a.2)
@[simp] theorem State.setFs_dram (l : List (Fld × Nat)) : (s.setFs l).dram = s.dram := by
  induction l generalizing s with
  | nil => rfl
  | cons a l ih => exact ih (s.setF a.1 a.2)
@[simp] theorem State.setFs_queues (l : List (Fld × Nat)) : (s.setFs l).queues = s.queues := by
  induction l generalizing s with
  | nil => rfl
  | cons a l ih => exact ih (s.setF a.1 a.2)
@[simp] theorem State.setFs_proctor (l : List (Fld × Nat)) : (s.setFs l).proctor = s.proctor := by
  induction l generalizing s with
  | nil => rfl
  | cons a l ih => exact ih (s.setF a.1 a.2)
@[simp] theorem State.setFs_journal (l : List (Fld × Nat)) : (s.setFs l).journal = s.journal := by
  induction l generalizing s with
  | nil => rfl
  | cons a l ih => exact ih (s.setF a.1 a.2)
@[simp] theorem State.setFs_report (l : List (Fld × Nat)) : (s.setFs l).report = s.report := by
  induction l generalizing s with
  | nil => rfl
  | cons a l ih => exact ih (s.setF a.1 a.2)
@[simp] theorem State.setFs_faults (l : List (Fld × Nat)) : (s.setFs l).faults = s.faults := by
  induction l generalizing s with
  | nil => rfl
  | cons a l ih => exact ih (s.setF a.1 a.2)
@[simp] theorem State.setFs_pool (l : List (Fld × Nat)) : (s.setFs l).pool = s.pool := by
  induction l generalizing s with
  | nil => rfl
  | cons a l ih => exact ih (s.setF a.1 a.2)
@[simp] theorem State.setFs_streams (l : List (Fld × Nat)) : (s.setFs l).streams = s.streams := by
  induction l generalizing s with
  | nil => rfl
  | cons a l ih => exact ih (s.setF a.1 a.2)
@[simp] theorem State.setFs_links (l : List (Fld × Nat)) : (s.setFs l).links = s.links := by
  induction l generalizing s with
  | nil => rfl
  | cons a l ih => exact ih (s.setF a.1 a.2)
@[simp] theorem State.setFs_photo (l : List (Fld × Nat)) : (s.setFs l).photo = s.photo := by
  induction l generalizing s with
  | nil => rfl
  | cons a l ih => exact ih (s.setF a.1 a.2)
@[simp] theorem State.setFs_photoNv (l : List (Fld × Nat)) : (s.setFs l).photoNv = s.photoNv := by
  induction l generalizing s with
  | nil => rfl
  | cons a l ih => exact ih (s.setF a.1 a.2)
@[simp] theorem State.setFs_refmon (l : List (Fld × Nat)) : (s.setFs l).refmon = s.refmon := by
  induction l generalizing s with
  | nil => rfl
  | cons a l ih => exact ih (s.setF a.1 a.2)
@[simp] theorem State.setFs_refOn (l : List (Fld × Nat)) : (s.setFs l).refOn = s.refOn := by
  induction l generalizing s with
  | nil => rfl
  | cons a l ih => exact ih (s.setF a.1 a.2)
@[simp] theorem State.setFs_crown (l : List (Fld × Nat)) : (s.setFs l).crown = s.crown := by
  induction l generalizing s with
  | nil => rfl
  | cons a l ih => exact ih (s.setF a.1 a.2)
@[simp] theorem State.setFs_crownMap (l : List (Fld × Nat)) : (s.setFs l).crownMap = s.crownMap := by
  induction l generalizing s with
  | nil => rfl
  | cons a l ih => exact ih (s.setF a.1 a.2)
@[simp] theorem State.setFs_brim (l : List (Fld × Nat)) : (s.setFs l).brim = s.brim := by
  induction l generalizing s with
  | nil => rfl
  | cons a l ih => exact ih (s.setF a.1 a.2)
@[simp] theorem State.setFs_work (l : List (Fld × Nat)) : (s.setFs l).work = s.work := by
  induction l generalizing s with
  | nil => rfl
  | cons a l ih => exact ih (s.setF a.1 a.2)
@[simp] theorem State.setFs_blk (l : List (Fld × Nat)) : (s.setFs l).blk = s.blk := by
  induction l generalizing s with
  | nil => rfl
  | cons a l ih => exact ih (s.setF a.1 a.2)
@[simp] theorem State.setFs_site (l : List (Fld × Nat)) : (s.setFs l).site = s.site := by
  induction l generalizing s with
  | nil => rfl
  | cons a l ih => exact ih (s.setF a.1 a.2)
@[simp] theorem State.setFs_twin (l : List (Fld × Nat)) : (s.setFs l).twin = s.twin := by
  induction l generalizing s with
  | nil => rfl
  | cons a l ih => exact ih (s.setF a.1 a.2)
@[simp] theorem State.setFs_clocks (l : List (Fld × Nat)) : (s.setFs l).clocks = s.clocks := by
  induction l generalizing s with
  | nil => rfl
  | cons a l ih => exact ih (s.setF a.1 a.2)
@[simp] theorem State.setFs_sec (l : List (Fld × Nat)) : (s.setFs l).sec = s.sec := by
  induction l generalizing s with
  | nil => rfl
  | cons a l ih => exact ih (s.setF a.1 a.2)
@[simp] theorem State.setFs_therm (l : List (Fld × Nat)) : (s.setFs l).therm = s.therm := by
  induction l generalizing s with
  | nil => rfl
  | cons a l ih => exact ih (s.setF a.1 a.2)
@[simp] theorem State.setFs_tests (l : List (Fld × Nat)) : (s.setFs l).tests = s.tests := by
  induction l generalizing s with
  | nil => rfl
  | cons a l ih => exact ih (s.setF a.1 a.2)
@[simp] theorem State.setFs_power (l : List (Fld × Nat)) : (s.setFs l).power = s.power := by
  induction l generalizing s with
  | nil => rfl
  | cons a l ih => exact ih (s.setF a.1 a.2)
@[simp] theorem State.setFs_ident (l : List (Fld × Nat)) : (s.setFs l).ident = s.ident := by
  induction l generalizing s with
  | nil => rfl
  | cons a l ih => exact ih (s.setF a.1 a.2)
@[simp] theorem State.setFs_pending (l : List (Fld × Nat)) : (s.setFs l).pending = s.pending := by
  induction l generalizing s with
  | nil => rfl
  | cons a l ih => exact ih (s.setF a.1 a.2)

end Sys2Proof.Machine
end

