-- ==== Sys2Proof/Laws/Commands.lean ====
section
/-! SUPPORT. Laws/Commands.lean: what an accepted command, a refused command, a record and a reply can do, once for every chapter. -/

namespace Sys2Proof.Machine

variable {s : State} {d : CmdDef} {p : Packet} {o : Nat}

/-! ### Commands (R55, R58) -/

/-- An accepted command does what its opcode does, after ACCEPTED where ASYNC asks for it. -/
theorem runCmd_accepted (h : s.accepts d p o) :
    runCmd d p s = match d.act (s.begun p) p o (s.begun p).proctor.nextId with
      | .now s2 st det res ch => s2.conclude d.code o d.journaled p st det res ch (undoOf (s.begun p) s2)
      | .later s2 => s2.updPr (fun pr => { pr with
          running := pr.running ++ [{ id := (s.begun p).proctor.nextId, opcode := d.code, origin := o, pkt := p, fin := none, start := undoOf (s.begun p) s2 }],
          nextId := (s.begun p).proctor.nextId + 1 }) := by
  obtain ⟨⟨h1, h2, h3, h4⟩, h5⟩ := h
  simp only [runCmd, h1, h2, h3, h4, h5, State.begun, Bool.not_true, Bool.false_or, Bool.false_eq_true, if_false]
  all_goals (generalize d.act _ p o _ = e; cases e <;> rfl)

/-- A refused command answers its status and DETAIL; an origin that may not use the opcode is noted (R71). -/
theorem runCmd_refused {st det : Nat} (h : s.receives d p o) (hv : s.verdict d p o = some (st, det)) :
    runCmd d p s = (if st = stAuth ∧ det = 1 then s.note 0x0 .authRefused 1 tgtModule else s).answer p st det
      (d.preResult s p) := by
  obtain ⟨h1, h2, h3, h4⟩ := h
  simp [runCmd, h1, h2, h3, h4, hv]

/-- A final reply of an opcode that no twin mirrors and no journal records. -/
theorem State.conclude_plain (u : State) {code : Nat} {st det : Nat} {res : List Byte} {ch : List JChange} {un : Undo}
    (hm : mirroredKind code = none) (hr : code ≠ 0x101 ∧ code ≠ 0x102) :
    u.conclude code o false p st det res ch un = (u.place p st det res).1.postFinal p.path (u.place p st det res).2 := by
  simp [State.conclude, hm, hr.1, hr.2, State.settle]

/-! ### Records (R414 to R419) -/

theorem State.setFs_keeps (l : List (Fld × Nat)) (off : Nat) (h : ∀ e ∈ l, off ≠ e.1.off) : (s.setFs l).rd off = s.rd off := by
  induction l generalizing s with
  | nil => rfl
  | cons e l ih =>
    have h1 := ih (s := s.setF e.1 e.2) (fun x hx => h x (List.mem_cons_of_mem _ hx))
    simp only [State.setFs]
    rw [h1]
    exact State.rd_wr_ne (h e (List.mem_cons_self ..)) _

/-- A state that differs from another by the registers a record may write and by the Report Card. -/
def Logged (z s : State) : Prop := s = { z with regs := s.regs, report := s.report } ∧ z.keepsRegs s logRegs

theorem Logged.refl (z : State) : Logged z z := ⟨rfl, fun _ _ => rfl⟩

theorem Logged.trans {z s t : State} (h1 : Logged z s) (h2 : Logged s t) : Logged z t := by
  refine ⟨?_, fun off h => (h2.2 off h).trans (h1.2 off h)⟩
  have a := h1.1
  have b := h2.1
  rw [b, a]

theorem Logged.wr {z s : State} (h : Logged z s) {off : Nat} (hm : off ∈ logRegs) (v : Word) : Logged z (s.wr off v) := by
  refine h.trans ⟨rfl, fun a ha => State.rd_wr_ne (by rintro rfl; exact ha hm) v⟩

theorem Logged.setF {z s : State} (h : Logged z s) {x : Fld} (hm : x.off ∈ logRegs) (v : Nat) : Logged z (s.setF x v) := h.wr hm _

theorem Logged.setFs {z s : State} (h : Logged z s) (l : List (Fld × Nat)) (hl : ∀ e ∈ l, e.1.off ∈ logRegs) : Logged z (s.setFs l) := by
  induction l generalizing s with
  | nil => exact h
  | cons e l ih => exact ih (h.setF (hl e (List.mem_cons_self ..)) e.2) (fun x hx => hl x (List.mem_cons_of_mem _ hx))

theorem Logged.bump {z s : State} (h : Logged z s) {x : Fld} (hm : x.off ∈ logRegs) (n : Nat) : Logged z (s.bump x n) := h.wr hm _

theorem Logged.report {z s : State} (h : Logged z s) (r : Report) : Logged z { s with report := r } := h.trans ⟨rfl, fun _ _ => rfl⟩

theorem Logged.syncRc {z s : State} (h : Logged z s) : Logged z s.syncRc := by
  unfold State.syncRc
  exact h.setFs _ (by simp [logRegs, F.RC_STAT_LIVE_PCT, F.RC_STAT_FLASH_PCT, F.RC_STAT_ISLAND, F.RC_STAT_OPEN, F.RC_SEQ, F.RC_FLASH_SEQ])

theorem Logged.addRec {z s : State} (h : Logged z s) (r : Rec) : Logged z (s.addRec r).1 := by
  unfold State.addRec
  dsimp only
  split
  · exact h
  · exact h.report _

theorem Logged.event {z s : State} (h : Logged z s) (code : RecCode) (sev source : Nat) (v : Int) :
    Logged z (s.event code sev source v).1 := by
  have hf : F.RC_FOLD.off ∈ logRegs := by simp [logRegs, F.RC_FOLD]
  have tk : ∀ s : State, Logged z s → Logged z (s.takeToken code) := fun s h => h.report _
  unfold State.event
  dsimp only
  split
  · split
    · dsimp only
      refine Logged.syncRc ?_
      split
      · exact h.report _
      · exact (h.report _).bump hf 1
    · exact ((tk _ (h.report _)).addRec _).syncRc
  · refine Logged.syncRc (Logged.addRec ?_ _)
    split
    · exact h
    · exact tk _ h

theorem Logged.latchModule {z s : State} (h : Logged z s) (src sev : Nat) : Logged z (s.latchModule src sev) := by
  have h1 : F.MFIRST_OVF.off ∈ logRegs := by simp [logRegs, F.MFIRST_OVF]
  have h2 : F.MFIRST_BELL_LO.off ∈ logRegs := by simp [logRegs, F.MFIRST_BELL_LO]
  have h3 : F.MFIRST_BELL_HI.off ∈ logRegs := by simp [logRegs, F.MFIRST_BELL_HI]
  unfold State.latchModule
  split
  · exact h.setF h1 _
  · exact ((h.setFs _ (by simp [logRegs, F.MFIRST_SRC, F.MFIRST_SEV, F.MFIRST_VALID])).setF h2 _).setF h3 _

/-- A record writes only the Report Card and its registers (R414 to R419). -/
theorem Logged.record {z s : State} (h : Logged z s) (code : RecCode) (sev source : Nat) (v : Int) :
    Logged z (s.record code sev source v) := by
  have h1 : F.RC_DROP.off ∈ logRegs := by simp [logRegs, F.RC_DROP]
  have h2 : F.RC_DROP_CRIT.off ∈ logRegs := by simp [logRegs, F.RC_DROP_CRIT]
  have h3 : R.MFSW_SRC ∈ logRegs := by simp [logRegs]
  have he := h.event code sev source v
  unfold State.record
  dsimp only
  split
  · exact he
  · split
    · have hs := (he.bump h2 1).wr h3 (((s.event code sev source v).1.bump F.RC_DROP_CRIT).rd R.MFSW_SRC ||| (1 <<< 18))
      split
      · exact hs
      · split
        · exact ((hs.latchModule _ _).event ..).bump h1 1
        · exact (hs.latchModule _ _).event ..
    · exact he.bump h1 1

/-- A chapter's record writes only the Report Card and its registers. -/
theorem State.note_logged (s : State) (g : Nat) (e : RecEv) (sev source : Nat) (v : Int) : Logged s (s.note g e sev source v) :=
  (Logged.refl s).record ..

/-- A record leaves every register that does not log. -/
theorem State.note_rd (s : State) (g : Nat) (e : RecEv) (sev source : Nat) (v : Int) {off : Nat} (h : off ∉ logRegs) :
    (s.note g e sev source v).rd off = s.rd off := (s.note_logged g e sev source v).2 off h

/-- A record leaves every field of a register that does not log. -/
theorem State.note_f (s : State) (g : Nat) (e : RecEv) (sev source : Nat) (v : Int) {x : Fld} (h : x.off ∉ logRegs) :
    (s.note g e sev source v).f x = s.f x := by simp only [State.f, s.note_rd g e sev source v h]

/-! ### Assertions (R399 to R413) -/

/-- A state that differs from another by registers of a list, by the Report Card and by what the fault collectors keep. -/
def Faulted (W : List Nat) (z s : State) : Prop := z.onlyFaults s ∧ z.keepsRegs s W

theorem Faulted.refl (W : List Nat) (z : State) : Faulted W z z := ⟨rfl, fun _ _ => rfl⟩

theorem Faulted.trans {W : List Nat} {z s t : State} (h1 : Faulted W z s) (h2 : Faulted W s t) : Faulted W z t := by
  refine ⟨?_, fun off h => (h2.2 off h).trans (h1.2 off h)⟩
  have a := h1.1
  have b := h2.1
  unfold State.onlyFaults at a b ⊢
  rw [b, a]

theorem Faulted.of_logged {W : List Nat} (hW : ∀ a ∈ logRegs, a ∈ W) {z s : State} (h : Logged z s) : Faulted W z s := by
  refine ⟨?_, fun off ho => h.2 off (fun hl => ho (hW off hl))⟩
  have a := h.1
  unfold State.onlyFaults
  rw [a]

theorem Faulted.wr {W : List Nat} {z s : State} (h : Faulted W z s) {off : Nat} (hm : off ∈ W) (v : Word) : Faulted W z (s.wr off v) :=
  h.trans ⟨rfl, fun a ha => State.rd_wr_ne (by rintro rfl; exact ha hm) v⟩

theorem Faulted.setF {W : List Nat} {z s : State} (h : Faulted W z s) {x : Fld} (hm : x.off ∈ W) (v : Nat) : Faulted W z (s.setF x v) := h.wr hm _

theorem Faulted.bump {W : List Nat} {z s : State} (h : Faulted W z s) {x : Fld} (hm : x.off ∈ W) (n : Nat) : Faulted W z (s.bump x n) := h.wr hm _

theorem Faulted.setFs {W : List Nat} {z s : State} (h : Faulted W z s) (l : List (Fld × Nat)) (hl : ∀ e ∈ l, e.1.off ∈ W) :
    Faulted W z (s.setFs l) := by
  induction l generalizing s with
  | nil => exact h
  | cons e l ih => exact ih (h.setF (hl e (List.mem_cons_self ..)) e.2) (fun x hx => hl x (List.mem_cons_of_mem _ hx))

theorem Faulted.faults {W : List Nat} {z s : State} (h : Faulted W z s) (f : FaultSt) : Faulted W z { s with faults := f } :=
  h.trans ⟨rfl, fun _ _ => rfl⟩

theorem Faulted.record {W : List Nat} (hW : ∀ a ∈ logRegs, a ∈ W) {z s : State} (h : Faulted W z s) (code : RecCode) (sev source : Nat) (v : Int) :
    Faulted W z (s.record code sev source v) := h.trans (.of_logged hW ((Logged.refl s).record ..))

theorem Faulted.latchModule {W : List Nat} (hW : ∀ a ∈ logRegs, a ∈ W) {z s : State} (h : Faulted W z s) (src sev : Nat) :
    Faulted W z (s.latchModule src sev) := h.trans (.of_logged hW ((Logged.refl s).latchModule ..))

theorem Faulted.each {W : List Nat} {α : Type} {z s : State} (h : Faulted W z s) (l : List α) (f : State → α → State)
    (hf : ∀ x ∈ l, ∀ s, Faulted W z s → Faulted W z (f s x)) : Faulted W z (s.each l f) := by
  unfold State.each
  induction l generalizing s with
  | nil => exact h
  | cons a l ih => exact ih (hf a (List.mem_cons_self ..) s h) (fun x hx => hf x (List.mem_cons_of_mem _ hx))

/-- A tile goes dark within its own registers. -/
theorem Faulted.darken {W : List Nat} {z s : State} (h : Faulted W z s) (t : Nat) (hW : ∀ a ∈ darkRegs t, a ∈ W) :
    Faulted W z ((s.darken t).leaveTest t) := by
  have hl : ∀ c ∈ List.range 8, (F.LAS_STAT_STATE t c).off ∈ W := fun c hc =>
    hW _ (List.mem_cons_of_mem _ (List.mem_append_left _ (List.mem_map_of_mem hc)))
  have hb : ∀ c ∈ List.range 8, (F.LAS_BIAS_BIAS t c).off ∈ W := fun c hc =>
    hW _ (List.mem_cons_of_mem _ (List.mem_append_right _ (List.mem_append_left _ (List.mem_map_of_mem hc))))
  have he : ∀ i ∈ List.range 3, (F.EYESAFE_STATE t i).off ∈ W := fun i hi =>
    hW _ (List.mem_cons_of_mem _ (List.mem_append_right _ (List.mem_append_right _ (List.mem_map_of_mem hi))))
  have ht : R.TILE_TEST_STAT t ∈ W := hW _ (List.mem_cons_self ..)
  unfold State.leaveTest State.darken
  refine Faulted.setFs ?_ _ (by simp [F.TILE_TEST_STAT_STATE, F.TILE_TEST_STAT_MEM_OUT, F.TILE_TEST_STAT_ITEM, ht])
  refine Faulted.each (Faulted.each h _ _ (fun c hc s hs => (hs.setF (hl c hc) 0).setF (hb c hc) 0)) _ _ (fun i hi s hs => ?_)
  refine Faulted.setF ?_ (he i hi) _
  split
  · exact hs.bump (x := F.EYESAFE_SHUT_CNT t i) (he i hi) 1
  · exact hs

theorem Faulted.startQuiet {W : List Nat} {z s : State} (h : Faulted W z s) (k : Nat) : Faulted W z (s.startQuiet k) := h.faults _

theorem log_tileFaultRegs (t : Nat) : ∀ a ∈ logRegs, a ∈ tileFaultRegs t := fun _ h => List.mem_append_left _ h

theorem log_moduleFaultRegs : ∀ a ∈ logRegs, a ∈ moduleFaultRegs := fun _ h => List.mem_append_left _ h

theorem Faulted.reactTile {z s : State} {t : Nat} (h : Faulted (tileFaultRegs t) z s) (bit : Nat) :
    Faulted (tileFaultRegs t) z (s.reactTile t bit) := by
  have hd : ∀ a ∈ darkRegs t, a ∈ tileFaultRegs t := fun _ h => List.mem_append_right _ (List.mem_append_right _ h)
  have hf : (F.FSTATE_STATE t).off ∈ tileFaultRegs t := List.mem_append_right _ (List.mem_append_left _ (by simp [F.FSTATE_STATE]))
  have ht : R.TILE_TEST_STAT t ∈ tileFaultRegs t := hd _ (List.mem_cons_self ..)
  unfold State.reactTile
  dsimp only
  split
  · exact h.startQuiet t
  · split
    · unfold State.leaveTest
      exact (((h.startQuiet t).faults _).setF hf _).setFs _
        (by simp [F.TILE_TEST_STAT_STATE, F.TILE_TEST_STAT_MEM_OUT, F.TILE_TEST_STAT_ITEM, ht])
    · exact (((h.startQuiet t).faults _).setF hf _).darken t hd

theorem Faulted.reactModule {z s : State} (h : Faulted moduleFaultRegs z s) (bit : Nat) : Faulted moduleFaultRegs z (s.reactModule bit) := by
  have hf : F.MFSTATE_STATE.off ∈ moduleFaultRegs := List.mem_append_right _ (List.mem_append_left _ (by simp [F.MFSTATE_STATE]))
  unfold State.reactModule
  dsimp only
  split
  · exact h.startQuiet 48
  · refine Faulted.each (((h.startQuiet 48).faults _).setF hf _) _ _ (fun t ht s hs => hs.darken t (fun a ha => ?_))
    exact List.mem_append_right _ (List.mem_append_right _ (List.mem_flatMap.2 ⟨t, ht, ha⟩))

theorem Faulted.latchTile {z s : State} {t : Nat} (h : Faulted (tileFaultRegs t) z s) (bit : Nat) (v : Int) :
    Faulted (tileFaultRegs t) z (s.latchTile t bit v) := by
  have hl := log_tileFaultRegs t
  have hm : ∀ a ∈ [R.MFSW_TILE_LO, R.MFSW_TILE_HI, R.FSW_LO t, R.FSW_HI t, R.FLVL_LO t, R.FLVL_HI t, R.FFIRST t, R.FFIRST_BELL_LO t,
      R.FFIRST_BELL_HI t, R.FSTATE t], a ∈ tileFaultRegs t := fun a ha => List.mem_append_right _ (List.mem_append_left _ ha)
  have hff : R.FFIRST t ∈ tileFaultRegs t := hm _ (by simp)
  have hbl : R.FFIRST_BELL_LO t ∈ tileFaultRegs t := hm _ (by simp)
  have hbh : R.FFIRST_BELL_HI t ∈ tileFaultRegs t := hm _ (by simp)
  have h1 : Faulted (tileFaultRegs t) z (s.setBit (if bit < 32 then R.FSW_LO t else R.FSW_HI t) (bit % 32)) :=
    h.wr (hm _ (by split <;> simp)) _
  unfold State.latchTile
  dsimp only
  generalize s.setBit (if bit < 32 then R.FSW_LO t else R.FSW_HI t) (bit % 32) = s1 at h1 ⊢
  generalize s.sevTile t bit = sev
  have h2 : Faulted (tileFaultRegs t) z (if s1.b (F.FFIRST_VALID t) = true then s1.setB (F.FFIRST_OVF t) true
      else (s1.setFs [(F.FFIRST_SRC t, bit), (F.FFIRST_SEV t, sev), (F.FFIRST_VALID t, 1)]).setPair (F.FFIRST_BELL_LO t) (F.FFIRST_BELL_HI t) s1.bell) := by
    split
    · exact h1.setF (x := F.FFIRST_OVF t) hff _
    · exact ((h1.setFs _ (by simp [F.FFIRST_SRC, F.FFIRST_SEV, F.FFIRST_VALID, hff])).setF (x := F.FFIRST_BELL_LO t) hbl _).setF
        (x := F.FFIRST_BELL_HI t) hbh _
  generalize (if s1.b (F.FFIRST_VALID t) = true then s1.setB (F.FFIRST_OVF t) true
      else (s1.setFs [(F.FFIRST_SRC t, bit), (F.FFIRST_SEV t, sev), (F.FFIRST_VALID t, 1)]).setPair (F.FFIRST_BELL_LO t) (F.FFIRST_BELL_HI t) s1.bell) = s2
      at h2 ⊢
  have h3 := Faulted.latchModule hl (h2.wr (hm (if t < 32 then R.MFSW_TILE_LO else R.MFSW_TILE_HI) (by split <;> simp))
    (s2.rd (if t < 32 then R.MFSW_TILE_LO else R.MFSW_TILE_HI) ||| (1 <<< (t % 32)))) t sev
  split
  · exact h1
  · split
    · exact h3
    · have h4 := h3.record hl (.tileSrc bit) sev (tgtTile t) v
      split
      · exact h4.reactTile bit
      · exact h4

theorem Faulted.latchMod {z s : State} (h : Faulted moduleFaultRegs z s) (bit : Nat) (v : Int) : Faulted moduleFaultRegs z (s.latchMod bit v) := by
  have hl := log_moduleFaultRegs
  have h1 : Faulted moduleFaultRegs z (s.setBit R.MFSW_SRC bit) := h.wr (hl _ (by simp [logRegs])) _
  unfold State.latchMod
  dsimp only
  split
  · exact h1
  · split
    · exact h1.latchModule hl _ _
    · have h4 := (h1.latchModule hl (64 + bit) (s.sevModule bit)).record hl (.modSrc bit) (s.sevModule bit) tgtModule v
      split
      · exact h4.reactModule bit
      · exact h4

/-- An assertion of a tile's source writes only the tile's fault registers, the Report Card and what the collectors keep. -/
theorem State.raise_faulted (s : State) (t bit : Nat) (v : Int) (hold : Bool) : Faulted (tileFaultRegs t) s (s.raise t bit v hold) := by
  have hm : (if bit < 32 then R.FLVL_LO t else R.FLVL_HI t) ∈ tileFaultRegs t :=
    List.mem_append_right _ (List.mem_append_left _ (by split <;> simp))
  have h0 := Faulted.refl (tileFaultRegs t) s
  unfold State.raise State.lineTile
  dsimp only
  generalize (if bit < 32 then R.FLVL_LO t else R.FLVL_HI t) = off at hm ⊢
  split
  · exact h0
  · have h1 : Faulted (tileFaultRegs t) s (if hold = true then s.setBit off (bit % 32) else s) := by
      split
      · exact h0.wr hm _
      · exact h0
    split
    · exact h1
    · exact h1.latchTile bit v

/-- An assertion of a module source writes only the module's fault registers, what its reaction darkens, and the record. -/
theorem State.raiseMod_faulted (s : State) (bit : Nat) (v : Int) (hold : Bool) : Faulted moduleFaultRegs s (s.raiseMod bit v hold) := by
  have hm : R.MFLVL_SRC ∈ moduleFaultRegs := List.mem_append_right _ (List.mem_append_left _ (by simp))
  have h0 := Faulted.refl moduleFaultRegs s
  unfold State.raiseMod State.lineMod
  dsimp only
  split
  · exact h0
  · have h1 : Faulted moduleFaultRegs s (if hold = true then s.setBit R.MFLVL_SRC bit else s) := by
      split
      · exact h0.wr hm _
      · exact h0
    split
    · exact h1
    · exact h1.latchMod bit v

end Sys2Proof.Machine
end

