-- ==== Sys2Proof/Laws/KeptBase.lean ====
section
/-! SUPPORT. Laws/KeptBase.lean: the relation Kept (the queue untouched, the canonical forms kept), how it composes, and the
primitive updates of a state. -/

namespace Sys2Proof.Machine

/-- `s` comes from `z` with the queue untouched and the canonical forms kept. -/
def Kept (z s : State) : Prop := s.pending = z.pending ∧ (z.canonical → s.canonical)

theorem Kept.refl (z : State) : Kept z z := ⟨rfl, id⟩

/-- An update that leaves the queue, the registers and the memories alone. -/
theorem Kept.of_same {z s t : State} (h : Kept z s) (hp : t.pending = s.pending) (hr : t.regs = s.regs) (hq : t.sq = s.sq)
    (hh : t.host = s.host) (hd : t.dram = s.dram) : Kept z t := by
  obtain ⟨h1, h2⟩ := h
  refine ⟨hp.trans h1, fun hz => ?_⟩
  simpa [State.canonical, hr, hq, hh, hd] using h2 hz

/-- The same, for a state written out field by field. -/
theorem Kept.mk {z s : State} (h : Kept z s) (latch : List (Nat × Word)) (bell : Nat) (free : Nat) (out : List Out) (queues : List (Nat × QueueSt)) (proctor
    : Proctor) (journal : Journal) (report : Report) (faults : FaultSt) (pool : Pool) (streams : Streams) (links :
    List (Nat × Link)) (photo : List (Nat × Photo)) (photoNv : List (Nat × PhotoNv)) (refmon : Option (Nat × Nat))
    (refOn : Bool) (crown : List (Nat × Crown)) (crownMap : CrownMap) (brim : List (Nat × Brim)) (work : Work) (blk
    : List (Nat × Blk)) (site : List (Nat × Site)) (twin : Twin) (clocks : Clocks) (sec : Sec) (therm : List (Nat ×
    Therm)) (tests : List (Nat × TestRun)) (power : Power) (ident : Ident) :
    Kept z (State.mk s.regs latch bell free out s.host s.sq s.dram queues proctor journal report faults pool streams links photo
    photoNv refmon refOn crown crownMap brim work blk site twin clocks sec therm tests power ident s.pending) := h.of_same rfl rfl rfl rfl rfl

theorem Kept.foldl {α : Type} {z s : State} (h : Kept z s) (l : List α) (f : State → α → State)
    (hf : ∀ s x, Kept z s → Kept z (f s x)) : Kept z (l.foldl f s) := by
  induction l generalizing s with
  | nil => exact h
  | cons a l ih => exact ih (hf s a h)

theorem Kept.each {α : Type} {z s : State} (h : Kept z s) (l : List α) (f : State → α → State)
    (hf : ∀ s x, Kept z s → Kept z (f s x)) : Kept z (s.each l f) := h.foldl l f hf

theorem Kept.ite {z a b : State} {c : Prop} [Decidable c] (ha : Kept z a) (hb : Kept z b) : Kept z (if c then a else b) := by
  split
  · exact ha
  · exact hb

theorem Kept.setDram {z s : State} (h : Kept z s) (m : List Host.Cell) (hm : Memory.wf s.dram = true → Memory.wf m = true) :
    Kept z { s with dram := m } :=
  ⟨h.1, fun hz => ⟨(h.2 hz).1, (h.2 hz).2.1, (h.2 hz).2.2.1, hm (h.2 hz).2.2.2⟩⟩

theorem Kept.setHost {z s : State} (h : Kept z s) (m : List Host.Cell) (hm : Memory.wf s.host = true → Memory.wf m = true) :
    Kept z { s with host := m } :=
  ⟨h.1, fun hz => ⟨(h.2 hz).1, (h.2 hz).2.1, hm (h.2 hz).2.2.1, (h.2 hz).2.2.2⟩⟩

theorem Kept.setSq {z s : State} (h : Kept z s) (m : List Host.Cell) (hm : Memory.wf s.sq = true → Memory.wf m = true) :
    Kept z { s with sq := m } :=
  ⟨h.1, fun hz => ⟨(h.2 hz).1, hm (h.2 hz).2.1, (h.2 hz).2.2.1, (h.2 hz).2.2.2⟩⟩

/-- A register write keeps the register file canonical. -/
theorem Kept.wr {z s : State} (h : Kept z s) (off : Nat) (v : Word) : Kept z (s.wr off v) := by
  refine ⟨h.1, fun hz => ⟨?_, (h.2 hz).2⟩⟩
  have hr := (h.2 hz).1
  simp only [State.wr]
  split
  · exact Map.canon_del hr
  · next hv => exact Map.canon_put hr hv

theorem Kept.resetRegs {z s : State} (h : Kept z s) (p : Place → RegRow → Bool) : Kept z (s.resetRegs p) :=
  ⟨h.1, fun hz => ⟨Map.canon_filter _ (h.2 hz).1, (h.2 hz).2⟩⟩

end Sys2Proof.Machine
end

