-- ==== Sys2Proof/Laws/KeptOps.lean ====
section
/-! SUPPORT. Laws/KeptOps.lean: the shared operations leave the queue alone and keep the canonical forms; one lemma per definition. -/

namespace Sys2Proof.Machine

/-! ### Machine/Ops.lean -/

theorem Kept.setF {z s : State} (hk : Kept z s) (x : Fld) (v : Nat) : Kept z (State.setF s x v) := by
    grind -ring -linarith -lia [State.setF, Kept.wr, Kept.each, Kept.foldl, Kept.mk]
theorem Kept.setB {z s : State} (hk : Kept z s) (x : Fld) (v : Bool) : Kept z (State.setB s x v) := by
    grind -ring -linarith -lia [State.setB, Kept.setF, Kept.each, Kept.foldl, Kept.mk]
theorem Kept.setSat {z s : State} (hk : Kept z s) (x : Fld) (v : Nat) : Kept z (State.setSat s x v) := by
    grind -ring -linarith -lia [State.setSat, Kept.setF, Kept.each, Kept.foldl, Kept.mk]
theorem Kept.bump {z s : State} (hk : Kept z s) (x : Fld) (n : Nat) : Kept z (State.bump s x n) := by
    grind -ring -linarith -lia [State.bump, Kept.setSat, Kept.each, Kept.foldl, Kept.mk]
theorem Kept.setFs {z s : State} (hk : Kept z s) (x0 : List (Fld × Nat)) : Kept z (State.setFs s x0) := by
  induction x0 generalizing s <;> grind -ring -linarith -lia [State.setFs, Kept.setF, Kept.each, Kept.foldl, Kept.mk]
theorem Kept.setPair {z s : State} (hk : Kept z s) (lo : Fld) (hi : Fld) (v : Nat) : Kept z (State.setPair s lo hi v) := by
    grind -ring -linarith -lia [State.setPair, Kept.setF, Kept.each, Kept.foldl, Kept.mk]
theorem Kept.fresh {z s : State} (hk : Kept z s)  : Kept z (State.fresh s).2 := by grind -ring -linarith -lia [State.fresh,
    Kept.each, Kept.foldl, Kept.mk]
theorem Kept.freshBytes {z s : State} (hk : Kept z s) (x0 : Nat) : Kept z (State.freshBytes x0 s).2 := by
  induction x0 generalizing s <;> grind -ring -linarith -lia [State.freshBytes, Kept.fresh, Kept.each, Kept.foldl, Kept.mk]
theorem Kept.dutyPct {z s : State} (hk : Kept z s) (steps : Nat) : Kept z (State.dutyPct s steps).2 := by
    grind -ring -linarith -lia [State.dutyPct, Kept.fresh, Kept.each, Kept.foldl, Kept.mk]
theorem Kept.syncDuty {z s : State} (hk : Kept z s) (t : Nat) : Kept z (State.syncDuty s t) := by grind -ring -linarith -lia
    [State.syncDuty, Kept.dutyPct, Kept.setFs, Kept.each, Kept.foldl, Kept.mk]
theorem Kept.emit {z s : State} (hk : Kept z s) (o : Out) : Kept z (State.emit s o) := hk.of_same rfl rfl rfl rfl rfl
theorem Kept.updLink {z s : State} (hk : Kept z s) (p : Nat) (f : Link → Link) : Kept z (State.updLink s p f) := hk.of_same
    rfl rfl rfl rfl rfl
theorem Kept.updPh {z s : State} (hk : Kept z s) (t : Nat) (f : Photo → Photo) : Kept z (State.updPh s t f) := hk.of_same
    rfl rfl rfl rfl rfl
theorem Kept.updPhNv {z s : State} (hk : Kept z s) (t : Nat) (f : PhotoNv → PhotoNv) : Kept z (State.updPhNv s t f) :=
    hk.of_same rfl rfl rfl rfl rfl
theorem Kept.updCr {z s : State} (hk : Kept z s) (t : Nat) (f : Crown → Crown) : Kept z (State.updCr s t f) := hk.of_same
    rfl rfl rfl rfl rfl
theorem Kept.updBr {z s : State} (hk : Kept z s) (t : Nat) (e : Nat) (f : Brim → Brim) : Kept z (State.updBr s t e f) :=
    hk.of_same rfl rfl rfl rfl rfl
theorem Kept.updBl {z s : State} (hk : Kept z s) (t : Nat) (f : Blk → Blk) : Kept z (State.updBl s t f) := hk.of_same rfl
    rfl rfl rfl rfl
theorem Kept.updSt {z s : State} (hk : Kept z s) (n : Nat) (f : Site → Site) : Kept z (State.updSt s n f) := hk.of_same rfl
    rfl rfl rfl rfl
theorem Kept.updQu {z s : State} (hk : Kept z s) (q : Nat) (f : QueueSt → QueueSt) : Kept z (State.updQu s q f) :=
    hk.of_same rfl rfl rfl rfl rfl
theorem Kept.updTh {z s : State} (hk : Kept z s) (t : Nat) (f : Therm → Therm) : Kept z (State.updTh s t f) := hk.of_same
    rfl rfl rfl rfl rfl
theorem Kept.updClk {z s : State} (hk : Kept z s) (f : Clocks → Clocks) : Kept z (State.updClk s f) := hk.of_same rfl rfl
    rfl rfl rfl
theorem Kept.updSec {z s : State} (hk : Kept z s) (f : Sec → Sec) : Kept z (State.updSec s f) := hk.of_same rfl rfl rfl rfl rfl
theorem Kept.updPow {z s : State} (hk : Kept z s) (f : Power → Power) : Kept z (State.updPow s f) := hk.of_same rfl rfl rfl
    rfl rfl
theorem Kept.updPool {z s : State} (hk : Kept z s) (f : Pool → Pool) : Kept z (State.updPool s f) := hk.of_same rfl rfl rfl
    rfl rfl
theorem Kept.updPr {z s : State} (hk : Kept z s) (f : Proctor → Proctor) : Kept z (State.updPr s f) := hk.of_same rfl rfl
    rfl rfl rfl

/-! ### Machine/Records.lean -/

theorem Kept.takeToken {z s : State} (hk : Kept z s) (code : RecCode) : Kept z (State.takeToken s code) := by
    grind -ring -linarith -lia [State.takeToken, Kept.each, Kept.foldl, Kept.mk]
theorem Kept.syncRc {z s : State} (hk : Kept z s)  : Kept z (State.syncRc s) := by grind -ring -linarith -lia [State.syncRc,
    Kept.setFs, Kept.each, Kept.foldl, Kept.mk]
theorem Kept.addRec {z s : State} (hk : Kept z s) (r : Rec) : Kept z (State.addRec s r).1 := by grind -ring -linarith -lia
    [State.addRec, Kept.each, Kept.foldl, Kept.mk]
theorem Kept.event {z s : State} (hk : Kept z s) (code : RecCode) (sev : Nat) (source : Nat) (v : Int) : Kept z (State.event
    s code sev source v).1 := by grind -ring -linarith -lia [State.event, Kept.bump, Kept.syncRc, Kept.takeToken,
    Kept.addRec, Kept.each, Kept.foldl, Kept.mk]
theorem Kept.latchModule {z s : State} (hk : Kept z s) (src : Nat) (sev : Nat) : Kept z (State.latchModule s src sev) := by
    grind -ring -linarith -lia [State.latchModule, Kept.setB, Kept.setFs, Kept.setPair, Kept.each, Kept.foldl, Kept.mk]
theorem Kept.setBit {z s : State} (hk : Kept z s) (off : Nat) (i : Nat) : Kept z (State.setBit s off i) := by
    grind -ring -linarith -lia [State.setBit, Kept.wr, Kept.each, Kept.foldl, Kept.mk]
theorem Kept.clrBit {z s : State} (hk : Kept z s) (off : Nat) (i : Nat) : Kept z (State.clrBit s off i) := by
    grind -ring -linarith -lia [State.clrBit, Kept.wr, Kept.each, Kept.foldl, Kept.mk]
theorem Kept.record {z s : State} (hk : Kept z s) (code : RecCode) (sev : Nat) (source : Nat) (v : Int) : Kept z
    (State.record s code sev source v) := by grind (splits := 30) (ematch := 20) [State.record, Kept.event, Kept.bump,
    Kept.setBit, Kept.latchModule, Kept.each, Kept.foldl, Kept.mk]
theorem Kept.closeRecords {z s : State} (hk : Kept z s)  : Kept z (State.closeRecords s) := by grind -ring -linarith -lia
    [State.closeRecords, Kept.syncRc, Kept.each, Kept.foldl, Kept.mk]
theorem Kept.condense {z s : State} (hk : Kept z s) (critFirst : Bool) : Kept z (State.condense s critFirst) := by
    grind -ring -linarith -lia [State.condense, Kept.each, Kept.bump, Kept.syncRc, Kept.each, Kept.foldl, Kept.mk]
theorem Kept.beginCondense {z s : State} (hk : Kept z s)  : Kept z (State.beginCondense s) := by grind -ring -linarith -lia
    [State.beginCondense, Kept.closeRecords, Kept.each, Kept.foldl, Kept.mk]
theorem Kept.condenseAll {z s : State} (hk : Kept z s)  : Kept z (State.condenseAll s) := by grind -ring -linarith -lia
    [State.condenseAll, Kept.closeRecords, Kept.condense, Kept.each, Kept.foldl, Kept.mk]
theorem Kept.note {z s : State} (hk : Kept z s) (g : Nat) (e : RecEv) (sev : Nat) (source : Nat) (v : Int) : Kept z
    (State.note s g e sev source v) := by grind -ring -linarith -lia [State.note, Kept.record, Kept.each, Kept.foldl,
    Kept.mk]

/-! ### Machine/Collector.lean -/

theorem Kept.setFence {z s : State} (hk : Kept z s) (key : Nat) (f : Fence) : Kept z (State.setFence s key f) := by
    grind -ring -linarith -lia [State.setFence, Kept.setB, Kept.each, Kept.foldl, Kept.mk]
theorem Kept.darken {z s : State} (hk : Kept z s) (t : Nat) : Kept z (State.darken s t) := by grind -ring -linarith -lia
    [State.darken, Kept.each, Kept.setFs, Kept.bump, Kept.setF, Kept.each, Kept.foldl, Kept.mk]
theorem Kept.leaveTest {z s : State} (hk : Kept z s) (t : Nat) : Kept z (State.leaveTest s t) := by
    grind -ring -linarith -lia [State.leaveTest, Kept.setFs, Kept.each, Kept.foldl, Kept.mk]
theorem Kept.startQuiet {z s : State} (hk : Kept z s) (scope : Nat) : Kept z (State.startQuiet s scope) := hk.of_same rfl
    rfl rfl rfl rfl
theorem Kept.reactTile {z s : State} (hk : Kept z s) (t : Nat) (bit : Nat) : Kept z (State.reactTile s t bit) := by
    grind -ring -linarith -lia [State.reactTile, Kept.startQuiet, Kept.setF, Kept.leaveTest, Kept.darken, Kept.each,
    Kept.foldl, Kept.mk]
theorem Kept.reactModule {z s : State} (hk : Kept z s) (bit : Nat) : Kept z (State.reactModule s bit) := by
    grind -ring -linarith -lia [State.reactModule, Kept.startQuiet, Kept.setF, Kept.each, Kept.darken, Kept.leaveTest,
    Kept.each, Kept.foldl, Kept.mk]
theorem Kept.latchTile {z s : State} (hk : Kept z s) (t : Nat) (bit : Nat) (v : Int) : Kept z (State.latchTile s t bit v) :=
    by grind -ring -linarith -lia [State.latchTile, Kept.setBit, Kept.setB, Kept.setFs, Kept.setPair, Kept.latchModule,
    Kept.record, Kept.reactTile, Kept.each, Kept.foldl, Kept.mk]
theorem Kept.latchMod {z s : State} (hk : Kept z s) (bit : Nat) (v : Int) : Kept z (State.latchMod s bit v) := by
    grind -ring -linarith -lia [State.latchMod, Kept.setBit, Kept.latchModule, Kept.record, Kept.reactModule, Kept.each,
    Kept.foldl, Kept.mk]
theorem Kept.lineTile {z s : State} (hk : Kept z s) (t : Nat) (bit : Nat) (hold : Bool) (v : Int) : Kept z (State.lineTile s
    t bit hold v).1 := by grind -ring -linarith -lia [State.lineTile, Kept.setBit, Kept.latchTile, Kept.each, Kept.foldl,
    Kept.mk]
theorem Kept.lineMod {z s : State} (hk : Kept z s) (bit : Nat) (hold : Bool) (v : Int) : Kept z (State.lineMod s bit hold
    v).1 := by grind -ring -linarith -lia [State.lineMod, Kept.setBit, Kept.latchMod, Kept.each, Kept.foldl, Kept.mk]
theorem Kept.raise {z s : State} (hk : Kept z s) (t : Nat) (bit : Nat) (v : Int) (hold : Bool) : Kept z (State.raise s t bit
    v hold) := by grind -ring -linarith -lia [State.raise, Kept.lineTile, Kept.each, Kept.foldl, Kept.mk]
theorem Kept.raiseMod {z s : State} (hk : Kept z s) (bit : Nat) (v : Int) (hold : Bool) : Kept z (State.raiseMod s bit v
    hold) := by grind -ring -linarith -lia [State.raiseMod, Kept.lineMod, Kept.each, Kept.foldl, Kept.mk]
theorem Kept.fall {z s : State} (hk : Kept z s) (t : Nat) (bit : Nat) : Kept z (State.fall s t bit) := by
    grind -ring -linarith -lia [State.fall, Kept.clrBit, Kept.startQuiet, Kept.each, Kept.foldl, Kept.mk]
theorem Kept.fallMod {z s : State} (hk : Kept z s) (bit : Nat) : Kept z (State.fallMod s bit) := by
    grind -ring -linarith -lia [State.fallMod, Kept.clrBit, Kept.startQuiet, Kept.each, Kept.foldl, Kept.mk]
theorem Kept.syncFaultN {z s : State} (hk : Kept z s)  : Kept z (State.syncFaultN s) := by grind -ring -linarith -lia
    [State.syncFaultN, Kept.setB, Kept.emit, Kept.each, Kept.foldl, Kept.mk]
theorem Kept.clearFirst {z s : State} (hk : Kept z s) (x0 : Scope) : Kept z (State.clearFirst s x0) := by
  induction x0 generalizing s <;> grind -ring -linarith -lia [State.clearFirst, Kept.setFs, Kept.setPair, Kept.each, Kept.foldl, Kept.mk]

/-! ### Machine/Ports.lean -/

theorem Kept.enqueue {z s : State} (hk : Kept z s) (p : Nat) (fs : List Flit) : Kept z (State.enqueue s p fs) := by
    grind -ring -linarith -lia [State.enqueue, Kept.updLink, Kept.each, Kept.foldl, Kept.mk]

/-! ### Machine/Fam.lean -/

theorem Kept.setFam {z s : State} (hk : Kept z s) (i : Nat) (e : FamEntry) : Kept z (State.setFam s i e) := by
    grind -ring -linarith -lia [State.setFam, Kept.updPool, Kept.emit, Kept.each, Kept.foldl, Kept.mk]
theorem Kept.dropCache {z s : State} (hk : Kept z s) (i : Nat) : Kept z (State.dropCache s i) := by
    grind -ring -linarith -lia [State.dropCache, Kept.updPool, Kept.each, Kept.foldl, Kept.mk]
theorem Kept.dropRange {z s : State} (hk : Kept z s) (base : Nat) (count : Nat) : Kept z (State.dropRange s base count) :=
    by grind -ring -linarith -lia [State.dropRange, Kept.updPool, Kept.each, Kept.foldl, Kept.mk]
theorem Kept.clearCache {z s : State} (hk : Kept z s) (t : Nat) : Kept z (State.clearCache s t) := by
    grind -ring -linarith -lia [State.clearCache, Kept.updPool, Kept.each, Kept.foldl, Kept.mk]
theorem Kept.lookup {z s : State} (hk : Kept z s) (t : Nat) (i : Nat) : Kept z (State.lookup s t i).2 := by
    grind -ring -linarith -lia [State.lookup, Kept.updPool, Kept.bump, Kept.each, Kept.foldl, Kept.mk]
theorem Kept.releaseFrame {z s : State} (hk : Kept z s) (t : Nat) (frame : Nat) : Kept z (State.releaseFrame s t frame) :=
    by grind -ring -linarith -lia [State.releaseFrame, Kept.updPool, Kept.bump, Kept.each, Kept.foldl, Kept.mk]
theorem Kept.poisonLine {z s : State} (hk : Kept z s) (line : Nat) : Kept z (State.poisonLine s line) := by
    grind -ring -linarith -lia [State.poisonLine, Kept.updPool, Kept.bump, Kept.note, Kept.raise, Kept.each, Kept.foldl,
    Kept.mk]
theorem Kept.clearPoison {z s : State} (hk : Kept z s) (line : Nat) : Kept z (State.clearPoison s line) := by
    grind -ring -linarith -lia [State.clearPoison, Kept.updPool, Kept.setF, Kept.each, Kept.foldl, Kept.mk]
theorem Kept.correctedLine {z s : State} (hk : Kept z s) (line : Nat) : Kept z (State.correctedLine s line) := by
  unfold State.correctedLine
  dsimp only
  split
  · exact (hk.bump ..).updPool ..
  · split
    · exact (((((hk.bump ..).updPool ..).note ..).raise ..).updPool ..).bump ..
    · exact ((((hk.bump ..).updPool ..).note ..).raise ..).updPool ..
theorem Kept.resolve {z s : State} (hk : Kept z s) (t : Nat) (a : Nat) (n : Nat) (write : Bool) : Kept z (State.resolve s t
    a n write).2 := by grind -ring -linarith -lia [State.resolve, Kept.lookup, Kept.each, Kept.foldl, Kept.mk]
theorem Kept.markDirty {z s : State} (hk : Kept z s) (key : Nat) (n : Nat) : Kept z (State.markDirty s key n) := by
    grind -ring -linarith -lia [State.markDirty, Kept.updPool, Kept.each, Kept.foldl, Kept.mk]
theorem Kept.store {z s : State} (hk : Kept z s) (t : Nat) (key : Nat) (bs : List Byte) : ∀ z2, State.store s t key bs = .ok z2 → Kept z z2 := by
  intro z2 h
  unfold State.store at h
  split at h
  · cases h; exact hk
  · split at h
    · cases h
    · split at h
      · cases h; exact hk
      · dsimp only at h
        split at h
        · cases h
        · cases h
          exact Kept.markDirty (Kept.foldl (hk.setDram _ fun hm => Memory.wf_write hm ..) _ _ fun s x hs => hs.clearPoison x) ..
theorem Kept.readHere {z s : State} (hk : Kept z s) (t : Nat) (a : Nat) (n : Nat) : Kept z (State.readHere s t a n).2 := by
    grind -ring -linarith -lia [State.readHere, Kept.resolve, Kept.each, Kept.foldl, Kept.mk]
theorem Kept.writeAt {z s : State} (hk : Kept z s) (t : Nat) (a : Nat) (bs : List Byte) (mt : Nat) (key : Nat) (e :
    FamEntry) : (∀ z2, (State.writeAt s t a bs mt key e).1 = .ok z2 → Kept z z2) ∧ Kept z (State.writeAt s t a bs mt key
    e).2 := by grind -ring -linarith -lia [State.writeAt, Kept.updPool, Kept.store, Kept.each, Kept.foldl, Kept.mk]
theorem Kept.writeHere {z s : State} (hk : Kept z s) (t : Nat) (a : Nat) (bs : List Byte) : (∀ z2, (State.writeHere s t a
    bs).1 = .ok z2 → Kept z z2) ∧ Kept z (State.writeHere s t a bs).2 := by grind -ring -linarith -lia [State.writeHere,
    Kept.resolve, Kept.writeAt, Kept.each, Kept.foldl, Kept.mk]
theorem Kept.remoteAccess {z s : State} (hk : Kept z s) (t : Nat) (node : Nat) (addr : Nat) (tu : Tu) (n : Nat) : Kept z (State.remoteAccess s t node addr tu n).2 := by
  unfold State.remoteAccess
  have h := Kept.writeHere hk t addr tu.data
  split
  · split
    · exact hk.readHere ..
    · split
      · next heq => rw [heq] at h; exact h.1 _ rfl
      · next heq => rw [heq] at h; exact h.2
  · split
    · exact hk
    · dsimp only
      split
      · exact Kept.freshBytes (hk.enqueue ..) ..
      · exact hk.enqueue ..
theorem Kept.readFabric {z s : State} (hk : Kept z s) (t : Nat) (a : Nat) (n : Nat) : Kept z (State.readFabric s t a n).2 :=
    by grind -ring -linarith -lia [State.readFabric, Kept.resolve, Kept.remoteAccess, Kept.each, Kept.foldl, Kept.mk]
theorem Kept.writeFabric {z s : State} (hk : Kept z s) (t : Nat) (a : Nat) (bs : List Byte) : (∀ z2, (State.writeFabric s t
    a bs).1 = .ok z2 → Kept z z2) ∧ Kept z (State.writeFabric s t a bs).2 := by grind -ring -linarith -lia
    [State.writeFabric, Kept.resolve, Kept.remoteAccess, Kept.writeAt, Kept.each, Kept.foldl, Kept.mk]

/-! ### Machine/Reply.lean -/

theorem Kept.writeFabric_ok {z s s1 x : State} (hk : Kept z s) {t a : Nat} {bs : List Byte}
    (h : s.writeFabric t a bs = (.ok s1, x)) : Kept z s1 :=
  (Kept.writeFabric hk t a bs).1 s1 (by rw [h])

theorem Kept.writeFabric_state {z s s1 : State} (hk : Kept z s) {t a : Nat} {bs : List Byte}
    {r : Except Nat State} (h : s.writeFabric t a bs = (r, s1)) : Kept z s1 := by
  have h1 := (Kept.writeFabric hk t a bs).2
  rwa [h] at h1


theorem Kept.ringWrite {z s : State} (hk : Kept z s) (q : Nat) (r : Reply) : Kept z (State.ringWrite s q r) := by
  unfold State.ringWrite
  dsimp only
  refine Kept.ite (Kept.emit ?_ ..) ?_ <;>
    exact Kept.setB (Kept.updQu (Kept.setF (hk.setHost _ fun hm => Memory.wf_write hm ..) ..) ..) ..
theorem Kept.sendReply {z s : State} (hk : Kept z s) (path : Path) (r : Reply) : Kept z (State.sendReply s path r) := by
  unfold State.sendReply
  cases path <;> simp only [] <;> (repeat' split) <;> grind -ring -linarith -lia [Kept.updQu, Kept.setB, Kept.ringWrite, Kept.emit, Kept.updLink, Kept.enqueue, Kept.each, Kept.foldl, Kept.mk]
theorem Kept.sendFinal {z s : State} (hk : Kept z s) (path : Path) (r : Reply) : Kept z (State.sendFinal s path r) := by
  unfold State.sendFinal
  cases path <;> simp only [] <;> (repeat' split) <;> grind -ring -linarith -lia [Kept.sendReply, Kept.updLink, Kept.each, Kept.foldl, Kept.mk]
theorem Kept.holdReply {z s : State} (hk : Kept z s) (path : Path) (r : Reply) (final : Bool) : Kept z (State.holdReply s
    path r final) := by grind -ring -linarith -lia [State.holdReply, Kept.updPr, Kept.each, Kept.foldl, Kept.mk]
theorem Kept.post {z s : State} (hk : Kept z s) (path : Path) (r : Reply) : Kept z (State.post s path r) := by
    grind -ring -linarith -lia [State.post, Kept.holdReply, Kept.sendReply, Kept.each, Kept.foldl, Kept.mk]
theorem Kept.postFinal {z s : State} (hk : Kept z s) (path : Path) (r : Reply) : Kept z (State.postFinal s path r) := by
    grind -ring -linarith -lia [State.postFinal, Kept.holdReply, Kept.sendFinal, Kept.each, Kept.foldl, Kept.mk]
theorem Kept.flushHeld {z s : State} (hk : Kept z s) (x0 : Nat) (x1 : Nat) : Kept z (State.flushHeld x0 x1 s) := by
    fun_induction State.flushHeld <;> grind -ring -linarith -lia [Kept.setB, Kept.updQu, Kept.ringWrite, Kept.each,
    Kept.foldl, Kept.mk]
theorem Kept.badDoorbell {z s : State} (hk : Kept z s) (q : Nat) : Kept z (State.badDoorbell s q) := by
    grind -ring -linarith -lia [State.badDoorbell, Kept.setF, Kept.note, Kept.each, Kept.foldl, Kept.mk]
theorem Kept.tailMoves {z s : State} (hk : Kept z s) (q : Nat) (v : Nat) : Kept z (State.tailMoves s q v) := by
    grind -ring -linarith -lia [State.tailMoves, Kept.badDoorbell, Kept.setF, Kept.each, Kept.foldl, Kept.mk]
theorem Kept.headMoves {z s : State} (hk : Kept z s) (q : Nat) (v : Nat) : Kept z (State.headMoves s q v) := by
    grind -ring -linarith -lia [State.headMoves, Kept.badDoorbell, Kept.setF, Kept.flushHeld, Kept.each, Kept.foldl,
    Kept.mk]
theorem Kept.doorbell {z s : State} (hk : Kept z s) (q : Nat) (tail : Bool) (v : Nat) : Kept z (State.doorbell s q tail v)
    := by grind -ring -linarith -lia [State.doorbell, Kept.updPr, Kept.tailMoves, Kept.headMoves, Kept.each, Kept.foldl,
    Kept.mk]
theorem Kept.endSwitchover {z s : State} (hk : Kept z s)  : Kept z (State.endSwitchover s) := by grind -ring -linarith -lia
    [State.endSwitchover, Kept.setB, Kept.updPr, Kept.each, Kept.tailMoves, Kept.headMoves, Kept.sendFinal, Kept.sendReply,
    Kept.each, Kept.foldl, Kept.mk]
theorem Kept.writeParts {z s : State} (hk : Kept z s) (a : Nat) (off : Nat) (x0 : Nat) (x1 : List Byte) : Kept z (State.writeParts s a off x0 x1).1 := by
  fun_induction State.writeParts
  · exact hk
  · exact hk
  · next heq => exact Kept.writeFabric_state hk heq
  · next heq ih => exact ih (Kept.writeFabric_ok hk heq)
theorem Kept.place {z s : State} (hk : Kept z s) (p : Packet) (status : Nat) (detail : Nat) (result : List Byte) : Kept z (State.place s p status detail result).1 := by
  unfold State.place
  split
  · exact hk
  · split
    · exact hk
    · split
      · have h := Kept.writeParts hk p.dataAddr.toNat 0 (result.length / 2 ^ 21 + 2) result
        generalize State.writeParts s p.dataAddr.toNat 0 (result.length / 2 ^ 21 + 2) result = w at h
        obtain ⟨s1, _ | ⟨st, off⟩⟩ := w <;> exact h
      · exact Kept.ite hk (hk.setHost _ fun hm => Memory.wf_write hm ..)
theorem Kept.journalise {z s : State} (hk : Kept z s) (origin : Nat) (opcode : Nat) (tag : Nat) (cs : List JChange) (reply :
    Option (Path × Reply)) (undo : Undo) : Kept z (State.journalise s origin opcode tag cs reply undo) := by
    grind -ring -linarith -lia [State.journalise, Kept.each, Kept.foldl, Kept.mk]
theorem Kept.policy {z s : State} (hk : Kept z s) (target : Nat) (off : Nat) (old : Option (List Byte)) (new : Option (List
    Byte)) : Kept z (State.policy s target off old new) := by grind -ring -linarith -lia [State.policy, Kept.fresh,
    Kept.journalise, Kept.each, Kept.foldl, Kept.mk]
theorem Kept.policyNote {z s : State} (hk : Kept z s) (target : Nat) : Kept z (State.policyNote s target) := by
    grind -ring -linarith -lia [State.policyNote, Kept.policy, Kept.each, Kept.foldl, Kept.mk]
theorem Kept.policyReg {z s : State} (hk : Kept z s) (target : Nat) (off : Nat) (v : Word) : Kept z (State.policyReg s
    target off v) := by grind -ring -linarith -lia [State.policyReg, Kept.wr, Kept.policy, Kept.each, Kept.foldl, Kept.mk]
theorem Kept.undo {z s : State} (hk : Kept z s) (u : Undo) : Kept z (State.undo s u) := by grind -ring -linarith -lia
    [State.undo, Kept.each, Kept.wr, Kept.updBl, Kept.updLink, Kept.updPh, Kept.each, Kept.foldl, Kept.mk]
theorem Kept.appendEntry {z s : State} (hk : Kept z s) (p : JPending) : Kept z (State.appendEntry s p) := by
    grind -ring -linarith -lia [State.appendEntry, Kept.setPair, Kept.each, Kept.setF, Kept.setB, Kept.each, Kept.foldl,
    Kept.mk]

/-! ### Machine/Mirror.lean -/

theorem Kept.setTwin {z s : State} (hk : Kept z s) (st : Nat) : Kept z (State.setTwin s st) := by grind -ring -linarith -lia
    [State.setTwin, Kept.setFs, Kept.each, Kept.foldl, Kept.mk]
theorem Kept.flushMirror {z s : State} (hk : Kept z s) (x0 : Nat) : Kept z (State.flushMirror x0 s) := by
  induction x0 generalizing s <;> grind -ring -linarith -lia [State.flushMirror, Kept.updLink, Kept.each, Kept.foldl, Kept.mk]
theorem Kept.syncMirror {z s : State} (hk : Kept z s)  : Kept z (State.syncMirror s) := by grind -ring -linarith -lia
    [State.syncMirror, Kept.setSat, Kept.each, Kept.foldl, Kept.mk]
theorem Kept.mirrorBack {z s : State} (hk : Kept z s) (back : List Flit) : Kept z (State.mirrorBack s back) := by
    grind -ring -linarith -lia [State.mirrorBack, Kept.flushMirror, Kept.each, Kept.foldl, Kept.mk]
theorem Kept.mirror {z s : State} (hk : Kept z s) (t : Nat) (kind : Nat) (aux : Nat) (addr : Nat) (data : List Byte) : Kept
    z (State.mirror s t kind aux addr data).1 := by grind -ring -linarith -lia [State.mirror, Kept.flushMirror,
    Kept.syncMirror, Kept.each, Kept.foldl, Kept.mk]
theorem Kept.holdFor {z s : State} (hk : Kept z s) (t : Nat) (m : Nat) (h : Held) : Kept z (State.holdFor s t m h) := by
  unfold State.holdFor
  (repeat' split) <;> grind -ring -linarith -lia [Kept.each, Kept.foldl, Kept.mk]
theorem Kept.twinPortUp {z s : State} (hk : Kept z s) (p : Nat) : Kept z (State.twinPortUp s p) := by
    grind -ring -linarith -lia [State.twinPortUp, Kept.emit, Kept.flushMirror, Kept.note, Kept.each, Kept.foldl, Kept.mk]

/-! ### Machine/Command.lean -/

/-- What an opcode's act leaves is Kept. -/
def Effect.kept (z : State) : Effect → Prop
  | .now s _ _ _ _ => Kept z s
  | .later s => Kept z s

theorem Effect.kept_now {z s : State} (h : Kept z s) (a b : Nat) (c : List Byte) (d : List JChange) : (Effect.now s a b c d).kept z := h

theorem Effect.kept_later {z s : State} (h : Kept z s) : (Effect.later s).kept z := h

theorem Effect.kept_ite {z : State} {c : Prop} [Decidable c] {a b : Effect} (ha : a.kept z) (hb : b.kept z) :
    (if c then a else b).kept z := by
  split
  · exact ha
  · exact hb

theorem Kept.answer {z s : State} (hk : Kept z s) (p : Packet) (status : Nat) (detail : Nat) (result : List Byte) : Kept z
    (State.answer s p status detail result) := by grind -ring -linarith -lia [State.answer, Kept.postFinal, Kept.each,
    Kept.foldl, Kept.mk]
theorem Kept.settle {z s : State} (hk : Kept z s) (opcode : Nat) (origin : Nat) (journaled : Bool) (path : Path) (r : Reply)
    (changes : List JChange) (undo : Undo) : Kept z (State.settle s opcode origin journaled path r changes undo) := by
    grind -ring -linarith -lia [State.settle, Kept.journalise, Kept.undo, Kept.postFinal, Kept.each, Kept.foldl, Kept.mk]
theorem Kept.conclude {z s : State} (hk : Kept z s) (opcode : Nat) (origin : Nat) (journaled : Bool) (p : Packet) (status :
    Nat) (detail : Nat) (result : List Byte) (changes : List JChange) (undo : Undo) : Kept z (State.conclude s opcode origin
    journaled p status detail result changes undo) := by grind -ring -linarith -lia [State.conclude, Kept.place,
    Kept.mirror, Kept.holdFor, Kept.undo, Kept.settle, Kept.each, Kept.foldl, Kept.mk]
theorem Kept.forwardGang {z s : State} (hk : Kept z s) (opcode : Nat) (origin : Nat) (p : Packet) : Kept z
    (State.forwardGang s opcode origin p) := by grind -ring -linarith -lia [State.forwardGang, Kept.emit, Kept.updPr,
    Kept.each, Kept.foldl, Kept.mk]
/-- A command keeps what its opcode's act keeps. -/
theorem Kept.runCmd {z s : State} (hk : Kept z s) (d : CmdDef) (p : Packet)
    (hd : ∀ s p o id, Kept z s → (d.act s p o id).kept z) : Kept z (Machine.runCmd d p s) := by
  unfold Machine.runCmd
  split
  · exact hk
  · split
    · exact hk.answer ..
    · next o _ =>
      dsimp only
      generalize (if s.gangPasses p = true then _ else _) = chk
      cases chk with
      | some x => exact Kept.answer (by split <;> first | exact hk.note .. | exact hk) ..
      | none =>
        dsimp only
        generalize hs1 : (if p.async = true then _ else s) = s1
        have h1 : Kept z s1 := by
          rw [← hs1]; split
          · exact hk.post ..
          · exact hk
        split
        · exact h1.forwardGang ..
        · have h2 := hd s1 p o s1.proctor.nextId h1
          split
          · next he => rw [he] at h2; exact Kept.conclude h2 ..
          · next he => rw [he] at h2; exact Kept.updPr h2 ..
theorem Kept.finish {z s : State} (hk : Kept z s) (id : Nat) (status : Nat) (detail : Nat) (result : List Byte) (changes :
    List JChange) (undo : Undo) : Kept z (State.finish s id status detail result changes undo) := by
    grind -ring -linarith -lia [State.finish, Kept.updPr, Kept.undo, Kept.each, Kept.foldl, Kept.mk]
theorem Kept.finishParam {z s : State} (hk : Kept z s) (id : Nat) (status : Nat) (detail : Nat) (result : List Byte) (undo :
    Undo) : Kept z (State.finishParam s id status detail result undo) := by grind -ring -linarith -lia [State.finishParam,
    Kept.finish, Kept.undo, Kept.each, Kept.foldl, Kept.mk]

/-! ### Machine/LinkOps.lean -/

theorem Kept.putEq {z s : State} (hk : Kept z s) (p : Nat) (j : Nat) (e : EqSet) : Kept z (State.putEq s p j e) := by
  unfold State.putEq
  repeat' (first | assumption | split | with_reducible apply Kept.setF | with_reducible apply Kept.wr | with_reducible apply Kept.each | with_reducible apply Kept.foldl | intro _)
  all_goals grind -ring -linarith -lia [Kept.setF, Kept.wr, Kept.each, Kept.foldl, Kept.mk]
theorem Kept.saveEq {z s : State} (hk : Kept z s) (p : Nat) (j : Nat) (rate : Nat) : Kept z (State.saveEq s p j rate) := by
    grind -ring -linarith -lia [State.saveEq, Kept.updLink, Kept.each, Kept.foldl, Kept.mk]
theorem Kept.loadEq {z s : State} (hk : Kept z s) (p : Nat) (j : Nat) (rate : Nat) : Kept z (State.loadEq s p j rate) := by
    grind -ring -linarith -lia [State.loadEq, Kept.putEq, Kept.each, Kept.foldl, Kept.mk]
theorem Kept.sendBlocks {z s : State} (hk : Kept z s) (p : Nat) (stage : Nat) (lanes : List Nat) : Kept z (State.sendBlocks
    s p stage lanes) := by grind -ring -linarith -lia [State.sendBlocks, Kept.emit, Kept.each, Kept.foldl, Kept.mk]
theorem Kept.wakeTx {z s : State} (hk : Kept z s) (p : Nat) : Kept z (State.wakeTx s p) := by grind -ring -linarith -lia
    [State.wakeTx, Kept.updLink, Kept.setF, Kept.emit, Kept.each, Kept.foldl, Kept.mk]
theorem Kept.syncXoff {z s : State} (hk : Kept z s) (p : Nat) : Kept z (State.syncXoff s p) := by grind -ring -linarith -lia
    [State.syncXoff, Kept.setB, Kept.wakeTx, Kept.each, Kept.foldl, Kept.mk]
theorem Kept.popRx {z s : State} (hk : Kept z s) (p : Nat) (vc : Nat) (payload : List Byte) : ∀ z2, State.popRx s p vc
    payload = some z2 → Kept z z2 := by grind -ring -linarith -lia [State.popRx, Kept.updLink, Kept.syncXoff, Kept.each,
    Kept.foldl, Kept.mk]
theorem Kept.syncReplay {z s : State} (hk : Kept z s) (p : Nat) : Kept z (State.syncReplay s p) := by
    grind -ring -linarith -lia [State.syncReplay, Kept.setF, Kept.each, Kept.foldl, Kept.mk]
theorem Kept.answerOn {z s : State} (hk : Kept z s) (p : Nat) (det : Nat) (out : Option Nat) : Kept z (State.answerOn s p det out) := by
  unfold State.answerOn
  repeat' (first | assumption | split | with_reducible apply Kept.enqueue | with_reducible apply Kept.each | with_reducible apply Kept.foldl | intro _)
  all_goals grind -ring -linarith -lia [Kept.enqueue, Kept.each, Kept.foldl, Kept.mk]
theorem Kept.answerInband {z s : State} (hk : Kept z s) (p : Nat) : Kept z (State.answerInband s p) := by
    grind -ring -linarith -lia [State.answerInband, Kept.answerOn, Kept.updLink, Kept.updPr, Kept.each, Kept.foldl, Kept.mk]
theorem Kept.cancelLaneset {z s : State} (hk : Kept z s) (p : Nat) (state : Nat) : Kept z (State.cancelLaneset s p state) :=
    by grind -ring -linarith -lia [State.cancelLaneset, Kept.updLink, Kept.setF, Kept.finish, Kept.each, Kept.foldl,
    Kept.mk]
theorem Kept.clearLink {z s : State} (hk : Kept z s) (p : Nat) (state : Nat) : Kept z (State.clearLink s p state) := by
  unfold State.clearLink
  exact ((Kept.each (Kept.updLink (Kept.cancelLaneset hk ..) ..) _ _ fun s j hs => hs.setF ..).setFs ..).syncReplay ..
theorem Kept.clearSub {z s : State} (hk : Kept z s) (p : Nat) : Kept z (State.clearSub s p) := by
  unfold State.clearSub
  have h : Kept z { s with regs := s.regs.filter (fun e => !(decide (portBase p ≤ e.1) && decide (e.1 < portBase p + 0x4000))) } :=
    ⟨hk.1, fun hz => ⟨Map.canon_filter _ (hk.2 hz).1, (hk.2 hz).2⟩⟩
  exact h.updLink ..
theorem Kept.beginTraining {z s : State} (hk : Kept z s) (p : Nat) (full : Bool) (rate : Nat) : Kept z (State.beginTraining
    s p full rate) := by grind -ring -linarith -lia [State.beginTraining, Kept.cancelLaneset, Kept.updLink, Kept.setFs,
    Kept.each, Kept.setF, Kept.loadEq, Kept.sendBlocks, Kept.each, Kept.foldl, Kept.mk]
theorem Kept.startFull {z s : State} (hk : Kept z s) (p : Nat) : Kept z (State.startFull s p) := by
    grind -ring -linarith -lia [State.startFull, Kept.beginTraining, Kept.each, Kept.foldl, Kept.mk]
theorem Kept.shut {z s : State} (hk : Kept z s) (p : Nat) : Kept z (State.shut s p) := by grind -ring -linarith -lia
    [State.shut, Kept.bump, Kept.setFs, Kept.updLink, Kept.emit, Kept.each, Kept.foldl, Kept.mk]
theorem Kept.openShutter {z s : State} (hk : Kept z s) (p : Nat) : Kept z (State.openShutter s p) := by
    grind -ring -linarith -lia [State.openShutter, Kept.setF, Kept.startFull, Kept.each, Kept.foldl, Kept.mk]

/-! ### Machine/StreamOps.lean -/

theorem Kept.updStream {z s : State} (hk : Kept z s) (key : Nat) (f : Stream → Stream) : Kept z (State.updStream s key f) :=
    hk.of_same rfl rfl rfl rfl rfl
theorem Kept.dispatchTu {z s : State} (hk : Kept z s) (key : Nat) (vc : Nat) (tu : Tu) : Kept z (State.dispatchTu s key vc
    tu) := by grind -ring -linarith -lia [State.dispatchTu, Kept.updStream, Kept.enqueue, Kept.each, Kept.foldl, Kept.mk]
theorem Kept.sendTu {z s : State} (hk : Kept z s) (key : Nat) (vc : Nat) (tu : Tu) : Kept z (State.sendTu s key vc tu) := by
    grind -ring -linarith -lia [State.sendTu, Kept.updStream, Kept.dispatchTu, Kept.each, Kept.foldl, Kept.mk]
theorem Kept.pumpData {z s : State} (hk : Kept z s) (x0 : Nat) (x1 : Nat) : Kept z (State.pumpData x0 x1 s) := by
    fun_induction State.pumpData <;> grind -ring -linarith -lia [Kept.updStream, Kept.each, Kept.sendTu, Kept.each,
    Kept.foldl, Kept.mk]
theorem Kept.pump {z s : State} (hk : Kept z s) (key : Nat) : Kept z (State.pump s key) := by grind -ring -linarith -lia
    [State.pump, Kept.pumpData, Kept.each, Kept.foldl, Kept.mk]
theorem Kept.queueTu {z s : State} (hk : Kept z s) (key : Nat) (tu : Tu) : Kept z (State.queueTu s key tu) := by
    grind -ring -linarith -lia [State.queueTu, Kept.updStream, Kept.pump, Kept.each, Kept.foldl, Kept.mk]
theorem Kept.sendData {z s : State} (hk : Kept z s) (key : Nat) (first : Bool) (last : Bool) (data : List Byte) : Kept z
    (State.sendData s key first last data) := by grind -ring -linarith -lia [State.sendData, Kept.queueTu, Kept.each,
    Kept.foldl, Kept.mk]
theorem Kept.sendMessage {z s : State} (hk : Kept z s) (key : Nat) (msg : List Byte) : Kept z (State.sendMessage s key msg)
    := by grind -ring -linarith -lia [State.sendMessage, Kept.sendData, Kept.each, Kept.foldl, Kept.mk]
theorem Kept.flushHeldTx {z s : State} (hk : Kept z s) (key : Nat) : Kept z (State.flushHeldTx s key) := by
    grind -ring -linarith -lia [State.flushHeldTx, Kept.enqueue, Kept.updStream, Kept.each, Kept.foldl, Kept.mk]
theorem Kept.returnPrimary {z s : State} (hk : Kept z s) (key : Nat) : Kept z (State.returnPrimary s key) := by
    grind -ring -linarith -lia [State.returnPrimary, Kept.updStream, Kept.flushHeldTx, Kept.each, Kept.foldl, Kept.mk]
theorem Kept.sendNotice {z s : State} (hk : Kept z s) (node : Nat) (queue : Nat) (reason : Nat) (prefer : Option Nat) : Kept z (State.sendNotice s node queue reason prefer) := by
  unfold State.sendNotice
  (repeat' split) <;> grind -ring -linarith -lia [Kept.enqueue, Kept.each, Kept.foldl, Kept.mk]
theorem Kept.flushNotices {z s : State} (hk : Kept z s) (p : Nat) (node : Nat) : Kept z (State.flushNotices s p node) := by
    grind -ring -linarith -lia [State.flushNotices, Kept.enqueue, Kept.each, Kept.foldl, Kept.mk]
theorem Kept.dropUnsent {z s : State} (hk : Kept z s) (key : Nat) : Kept z (State.dropUnsent s key) := hk.of_same rfl rfl
    rfl rfl rfl
theorem Kept.freeSlot {z s : State} (hk : Kept z s) (key : Nat) : Kept z (State.freeSlot s key) := by
    grind -ring -linarith -lia [State.freeSlot, Kept.mirror, Kept.each, Kept.foldl, Kept.mk]
theorem Kept.dropUndelivered {z s : State} (hk : Kept z s) (key : Nat) : Kept z (State.dropUndelivered s key) := by
    grind -ring -linarith -lia [State.dropUndelivered, Kept.updPool, Kept.updStream, Kept.each, Kept.foldl, Kept.mk]
theorem Kept.faultStream {z s : State} (hk : Kept z s) (key : Nat) : Kept z (State.faultStream s key) := by
    grind -ring -linarith -lia [State.faultStream, Kept.sendNotice, Kept.dropUndelivered, Kept.updStream, Kept.note,
    Kept.raise, Kept.each, Kept.foldl, Kept.mk]
theorem Kept.streamPortDown {z s : State} (hk : Kept z s) (p : Nat) (key : Nat) (back : List (Nat × Tu)) : Kept z
    (State.streamPortDown s p key back) := by grind -ring -linarith -lia [State.streamPortDown, Kept.updStream,
    Kept.flushHeldTx, Kept.each, Kept.foldl, Kept.mk]
theorem Kept.streamsPortDown {z s : State} (hk : Kept z s) (p : Nat) (back : List Flit) : Kept z (State.streamsPortDown s p
    back) := by grind -ring -linarith -lia [State.streamsPortDown, Kept.mirrorBack, Kept.each, Kept.streamPortDown,
    Kept.each, Kept.foldl, Kept.mk]
theorem Kept.streamsPortUp {z s : State} (hk : Kept z s) (p : Nat) (node : Nat) : Kept z (State.streamsPortUp s p node) :=
    by grind -ring -linarith -lia [State.streamsPortUp, Kept.each, Kept.updStream, Kept.flushHeldTx, Kept.flushNotices,
    Kept.twinPortUp, Kept.each, Kept.foldl, Kept.mk]
theorem Kept.sendCredit {z s : State} (hk : Kept z s) (key : Nat) : Kept z (State.sendCredit s key) := by
    grind -ring -linarith -lia [State.sendCredit, Kept.updStream, Kept.dispatchTu, Kept.each, Kept.foldl, Kept.mk]
theorem Kept.creditCheck {z s : State} (hk : Kept z s) (key : Nat) : Kept z (State.creditCheck s key) := by
  unfold State.creditCheck
  (repeat' split) <;> grind -ring -linarith -lia [Kept.sendCredit, Kept.each, Kept.foldl, Kept.mk]
theorem Kept.reqDone {z s : State} (hk : Kept z s) (key : Nat) (m : Option (Nat × Nat)) : Kept z (State.reqDone s key m) := by
  unfold State.reqDone
  (repeat' split) <;> grind -ring -linarith -lia [Kept.holdFor, Kept.updStream, Kept.creditCheck, Kept.each, Kept.foldl, Kept.mk]
theorem Kept.returnData {z s : State} (hk : Kept z s) (key : Nat) (n : Nat) : Kept z (State.returnData s key n) := by
    grind -ring -linarith -lia [State.returnData, Kept.updStream, Kept.creditCheck, Kept.each, Kept.foldl, Kept.mk]
theorem Kept.freeRing {z s : State} (hk : Kept z s) (key : Nat) (n : Nat) : Kept z (State.freeRing s key n) := by
    grind -ring -linarith -lia [State.freeRing, Kept.updStream, Kept.returnData, Kept.each, Kept.foldl, Kept.mk]

/-! ### Machine/JobOps.lean -/

theorem Kept.updOme {z s : State} (hk : Kept z s) (t : Nat) (f : Ome → Ome) : Kept z (State.updOme s t f) := hk.of_same rfl
    rfl rfl rfl rfl
theorem Kept.updJob {z s : State} (hk : Kept z s) (id : Nat) (f : Job → Job) : Kept z (State.updJob s id f) := hk.of_same
    rfl rfl rfl rfl rfl
theorem Kept.takeTier2 {z s : State} (hk : Kept z s) (id : Nat) (x0 : Nat) (x1 : List Nat) : ∀ x2 z2, State.takeTier2 s id
    x0 x1 = some (z2, x2) → Kept z z2 := by fun_induction State.takeTier2 <;> grind -ring -linarith -lia [Kept.updPool,
    Kept.each, Kept.foldl, Kept.mk]
theorem Kept.freeSet {z s : State} (hk : Kept z s) (slot : Nat) : Kept z (State.freeSet s slot) := by
    grind -ring -linarith -lia [State.freeSet, Kept.each, Kept.foldl, Kept.mk]
theorem Kept.releaseJob {z s : State} (hk : Kept z s) (j : Job) : Kept z (State.releaseJob s j) := by
    grind -ring -linarith -lia [State.releaseJob, Kept.freeSet, Kept.each, Kept.releaseFrame, Kept.updJob, Kept.each,
    Kept.foldl, Kept.mk]
theorem Kept.dropUnnamed {z s : State} (hk : Kept z s) (id : Nat) : Kept z (State.dropUnnamed s id) := by
    grind -ring -linarith -lia [State.dropUnnamed, Kept.each, Kept.foldl, Kept.mk]
theorem Kept.endJob {z s : State} (hk : Kept z s) (id : Nat) (status : Nat) (detail : Nat) (failTile : Nat) : Kept z (State.endJob s id status detail failTile) := by
  unfold State.endJob
  (repeat' split) <;> grind -ring -linarith -lia [Kept.updJob, Kept.releaseJob, Kept.finish, Kept.dropUnnamed, Kept.each, Kept.foldl, Kept.mk]
theorem Kept.streamShare {z s : State} (hk : Kept z s) (id : Nat) (t : Nat) (standin : Bool) : Kept z (State.streamShare s
    id t standin) := by grind -ring -linarith -lia [State.streamShare, Kept.updJob, Kept.each, Kept.foldl, Kept.mk]
theorem Kept.jobsMoved {z s : State} (hk : Kept z s) (t : Nat) (cause : Option Nat) : Kept z (State.jobsMoved s t cause) :=
    by grind -ring -linarith -lia [State.jobsMoved, Kept.each, Kept.updJob, Kept.streamShare, Kept.endJob, Kept.each,
    Kept.foldl, Kept.mk]
theorem Kept.endJobsOver {z s : State} (hk : Kept z s) (hit : Nat → Nat → Bool) (status : Nat) (detail : Nat) (failTile :
    Nat) : Kept z (State.endJobsOver s hit status detail failTile) := by grind -ring -linarith -lia [State.endJobsOver,
    Kept.each, Kept.endJob, Kept.each, Kept.foldl, Kept.mk]
theorem Kept.jobsStreamGone {z s : State} (hk : Kept z s) (key : Nat) : Kept z (State.jobsStreamGone s key) := by
    grind -ring -linarith -lia [State.jobsStreamGone, Kept.each, Kept.updJob, Kept.endJob, Kept.each, Kept.foldl, Kept.mk]

/-! ### Machine/CollOps.lean -/

theorem Kept.updCtx {z s : State} (hk : Kept z s) (n : Nat) (f : CollCtx → CollCtx) : Kept z (State.updCtx s n f) :=
    hk.of_same rfl rfl rfl rfl rfl
theorem Kept.updGroup {z s : State} (hk : Kept z s) (n : Nat) (f : Group → Group) : Kept z (State.updGroup s n f) := by
    grind -ring -linarith -lia [State.updGroup, Kept.updCtx, Kept.each, Kept.foldl, Kept.mk]
theorem Kept.updOp {z s : State} (hk : Kept z s) (n : Nat) (f : CollOp → CollOp) : Kept z (State.updOp s n f) := by
    grind -ring -linarith -lia [State.updOp, Kept.updGroup, Kept.each, Kept.foldl, Kept.mk]
theorem Kept.updRun {z s : State} (hk : Kept z s) (n : Nat) (id : Nat) (f : CollRun → CollRun) : Kept z (State.updRun s n id
    f) := by grind -ring -linarith -lia [State.updRun, Kept.updGroup, Kept.each, Kept.foldl, Kept.mk]
theorem Kept.sendDone {z s : State} (hk : Kept z s) (n : Nat) (seq : Nat) (status : Nat) (path : Nat) (flags : Nat) (recv :
    Nat) (drop : Nat) (m : Member) : Kept z (State.sendDone s n seq status path flags recv drop m) := by
    grind -ring -linarith -lia [State.sendDone, Kept.updStream, Kept.pump, Kept.each, Kept.foldl, Kept.mk]
theorem Kept.dropHeldColl {z s : State} (hk : Kept z s) (n : Nat) (upto : Nat → Bool) (m : Member) : Kept z
    (State.dropHeldColl s n upto m) := by grind -ring -linarith -lia [State.dropHeldColl, Kept.updStream, Kept.returnData,
    Kept.each, Kept.foldl, Kept.mk]
theorem Kept.stopOps {z s : State} (hk : Kept z s) (n : Nat) (status : Nat) (detail : Nat) (state : Nat) (failRank : Nat) (failTile : Nat) : Kept z (State.stopOps s n status detail state failRank failTile) := by
  unfold State.stopOps
  (repeat' split) <;> grind -ring -linarith -lia [Kept.updRun, Kept.updGroup, Kept.each, Kept.sendDone, Kept.dropHeldColl, Kept.finish, Kept.each, Kept.foldl, Kept.mk]
theorem Kept.memberLost {z s : State} (hk : Kept z s) (key : Nat) : Kept z (State.memberLost s key) := by
    grind -ring -linarith -lia [State.memberLost, Kept.each, Kept.updGroup, Kept.stopOps, Kept.each, Kept.foldl, Kept.mk]
theorem Kept.collTileLost {z s : State} (hk : Kept z s) (t : Nat) (cause : Option Nat) : Kept z (State.collTileLost s t
    cause) := by grind -ring -linarith -lia [State.collTileLost, Kept.each, Kept.stopOps, Kept.each, Kept.foldl, Kept.mk]
theorem Kept.collOver {z s : State} (hk : Kept z s) (hit : Nat → Nat → Bool) (status : Nat) (detail : Nat) : Kept z
    (State.collOver s hit status detail) := by grind -ring -linarith -lia [State.collOver, Kept.each, Kept.stopOps,
    Kept.each, Kept.foldl, Kept.mk]
theorem Kept.streamGone {z s : State} (hk : Kept z s) (key : Nat) : Kept z (State.streamGone s key) := by
    grind -ring -linarith -lia [State.streamGone, Kept.jobsStreamGone, Kept.memberLost, Kept.each, Kept.foldl, Kept.mk]

/-! ### Machine/BlkOps.lean -/

theorem Kept.syncBlk {z s : State} (hk : Kept z s) (t : Nat) : Kept z (State.syncBlk s t) := by grind -ring -linarith -lia
    [State.syncBlk, Kept.setFs, Kept.each, Kept.foldl, Kept.mk]
theorem Kept.queueChan {z s : State} (hk : Kept z s) (t : Nat) (c : Nat) (prio : Nat) (diff : Nat) : Kept z (State.queueChan
    s t c prio diff) := by grind -ring -linarith -lia [State.queueChan, Kept.updBl, Kept.syncBlk, Kept.each, Kept.foldl,
    Kept.mk]
theorem Kept.dropRun {z s : State} (hk : Kept z s) (t : Nat) (c : Nat) : Kept z (State.dropRun s t c) := by
    grind -ring -linarith -lia [State.dropRun, Kept.updBl, Kept.setFs, Kept.setF, Kept.updOme, Kept.syncBlk, Kept.each,
    Kept.foldl, Kept.mk]
theorem Kept.abortRuns {z s : State} (hk : Kept z s) (t : Nat) (p : BlkRun → Bool) : Kept z (State.abortRuns s t p) := by
    grind -ring -linarith -lia [State.abortRuns, Kept.each, Kept.dropRun, Kept.setFs, Kept.updBl, Kept.syncBlk, Kept.each,
    Kept.foldl, Kept.mk]
theorem Kept.laneRunMapped {z s : State} (hk : Kept z s) (p : Nat) : Kept z (State.laneRunMapped s p) := by
    grind -ring -linarith -lia [State.laneRunMapped, Kept.dropRun, Kept.updBl, Kept.each, Kept.foldl, Kept.mk]
theorem Kept.laneRunUnmapped {z s : State} (hk : Kept z s) (p : Nat) (result : Nat) : Kept z (State.laneRunUnmapped s p
    result) := by grind -ring -linarith -lia [State.laneRunUnmapped, Kept.updBl, Kept.abortRuns, Kept.each, Kept.foldl,
    Kept.mk]
theorem Kept.commitChan {z s : State} (hk : Kept z s) (t : Nat) (c : Nat) : Kept z (State.commitChan s t c) := by
    grind -ring -linarith -lia [State.commitChan, Kept.updBl, Kept.each, Kept.foldl, Kept.mk]
theorem Kept.startUpRuns {z s : State} (hk : Kept z s) (t : Nat) : Kept z (State.startUpRuns s t) := by
    grind -ring -linarith -lia [State.startUpRuns, Kept.each, Kept.queueChan, Kept.each, Kept.foldl, Kept.mk]

/-! ### Machine/Effects.lean -/

theorem Kept.sublinkDown {z s : State} (hk : Kept z s) (k : Nat) : Kept z (State.sublinkDown s k) := by
    grind -ring -linarith -lia [State.sublinkDown, Kept.answerOn, Kept.setF, Kept.updPr, Kept.clearSub,
    Kept.streamsPortDown, Kept.each, Kept.foldl, Kept.mk]
theorem Kept.declareDown {z s : State} (hk : Kept z s) (p : Nat) (state : Nat) : Kept z (State.declareDown s p state) := by
    grind (splits := 30) (ematch := 20) [State.declareDown, Kept.answerInband, Kept.clearLink, Kept.streamsPortDown,
    Kept.abortRuns, Kept.note, Kept.raise, Kept.each, Kept.foldl, Kept.mk]
theorem Kept.downAndTrain {z s : State} (hk : Kept z s) (p : Nat) : Kept z (State.downAndTrain s p) := by
    grind -ring -linarith -lia [State.downAndTrain, Kept.declareDown, Kept.startFull, Kept.sublinkDown, Kept.each,
    Kept.foldl, Kept.mk]
theorem Kept.fastRetrain {z s : State} (hk : Kept z s) (p : Nat) : Kept z (State.fastRetrain s p) := by
    grind -ring -linarith -lia [State.fastRetrain, Kept.beginTraining, Kept.updLink, Kept.each, Kept.foldl, Kept.mk]
theorem Kept.rewriteRow {z s : State} (hk : Kept z s) (a : Nat) : Kept z (State.rewriteRow s a) := by
    grind -ring -linarith -lia [State.rewriteRow, Kept.wr, Kept.setF, Kept.each, Kept.foldl, Kept.mk]
theorem Kept.rewriteDist {z s : State} (hk : Kept z s)  : Kept z (State.rewriteDist s) := by grind -ring -linarith -lia
    [State.rewriteDist, Kept.each, Kept.rewriteRow, Kept.each, Kept.foldl, Kept.mk]
theorem Kept.crownRestart {z s : State} (hk : Kept z s) (t : Nat) : Kept z (State.crownRestart s t) := by
    grind -ring -linarith -lia [State.crownRestart, Kept.each, Kept.emit, Kept.each, Kept.foldl, Kept.mk]
theorem Kept.markDead {z s : State} (hk : Kept z s) (t : Nat) (txm : Nat) (rxm : Nat) : Kept z (State.markDead s t txm rxm)
    := by grind -ring -linarith -lia [State.markDead, Kept.setFs, Kept.each, Kept.raise, Kept.each, Kept.foldl, Kept.mk]
theorem Kept.fenceBrim {z s : State} (hk : Kept z s) (t : Nat) (e : Nat) (byCmd : Bool) : Kept z (State.fenceBrim s t e byCmd) := by
  unfold State.fenceBrim
  split
  · exact hk
  · exact ((Kept.rewriteDist (((((((hk.setFs ..).updBr ..).raise ..).setFs ..).updBr ..).raise ..))).note ..)
theorem Kept.showCopies {z s : State} (hk : Kept z s) (t : Nat) : Kept z (State.showCopies s t) := by
    grind -ring -linarith -lia [State.showCopies, Kept.setFs, Kept.each, Kept.foldl, Kept.mk]
theorem Kept.setCopies {z s : State} (hk : Kept z s) (c0 : Bool) (c1 : Bool) : Kept z (State.setCopies s c0 c1) := by
    grind -ring -linarith -lia [State.setCopies, Kept.updPool, Kept.each, Kept.showCopies, Kept.note, Kept.raiseMod,
    Kept.each, Kept.foldl, Kept.mk]
theorem Kept.copyLost {z s : State} (hk : Kept z s) (t : Nat) : Kept z (State.copyLost s t) := by grind -ring -linarith -lia
    [State.copyLost, Kept.setCopies, Kept.each, Kept.foldl, Kept.mk]
theorem Kept.dropMigFrame {z s : State} (hk : Kept z s) (m : Migration) : Kept z (State.dropMigFrame s m).2 := by
    grind -ring -linarith -lia [State.dropMigFrame, Kept.setFam, Kept.dropCache, Kept.releaseFrame, Kept.each, Kept.foldl,
    Kept.mk]
theorem Kept.abortMig {z s : State} (hk : Kept z s) (m : Migration) : Kept z (State.abortMig s m) := by
    grind -ring -linarith -lia [State.abortMig, Kept.dropMigFrame, Kept.updPool, Kept.finish, Kept.each, Kept.foldl,
    Kept.mk]
theorem Kept.releaseHeld {z s : State} (hk : Kept z s)  : Kept z (State.releaseHeld s) := by
  unfold State.releaseHeld
  dsimp only
  refine Kept.each (hk.updPool ..) _ _ fun s x hs => ?_
  split
  · next s2 _ heq =>
    have h2 := Kept.writeFabric_ok hs heq
    split
    · exact h2.reqDone ..
    · split
      · split
        · exact h2.holdFor ..
        · exact h2.emit ..
      · exact h2.emit ..
    · exact h2
  · next heq =>
    have h2 := Kept.writeFabric_state hs heq
    split
    · exact (h2.sendTu ..).reqDone ..
    · exact (h2.bump ..).emit ..
    · exact h2
theorem Kept.memUnavailable {z s : State} (hk : Kept z s) (t : Nat) : Kept z (State.memUnavailable s t) := by
  unfold State.memUnavailable
  refine Kept.ite hk ?_
  extract_lets s1 hits s2 overs det s3 s4
  have h1 : Kept z s1 := (hk.setF ..).note ..
  clear_value s1
  have h2 : Kept z s2 := (Kept.each h1 _ _ fun s m hs => hs.abortMig ..).releaseHeld
  clear_value s2
  have h3 : Kept z s3 := h2.endJobsOver ..
  clear_value s3
  exact (Kept.collOver h3 ..).copyLost ..
theorem Kept.memStart {z s : State} (hk : Kept z s) (t : Nat) : Kept z (State.memStart s t) := by grind -ring -linarith -lia
    [State.memStart, Kept.setFs, Kept.setCopies, Kept.each, Kept.foldl, Kept.mk]
theorem Kept.memReturn {z s : State} (hk : Kept z s) (t : Nat) : Kept z (State.memReturn s t) := by
    grind -ring -linarith -lia [State.memReturn, Kept.memStart, Kept.each, Kept.foldl, Kept.mk]
theorem Kept.omeStart {z s : State} (hk : Kept z s) (t : Nat) : Kept z (State.omeStart s t) := by grind -ring -linarith -lia
    [State.omeStart, Kept.setFs, Kept.updOme, Kept.each, Kept.foldl, Kept.mk]
theorem Kept.omeStop {z s : State} (hk : Kept z s) (t : Nat) (state : Nat) : Kept z (State.omeStop s t state) := by
    grind -ring -linarith -lia [State.omeStop, Kept.setFs, Kept.updOme, Kept.each, Kept.foldl, Kept.mk]
theorem Kept.moveDuties {z s : State} (hk : Kept z s) (t : Nat) : Kept z (State.moveDuties s t) := by
  unfold State.moveDuties
  dsimp only
  (repeat' split) <;> grind -ring -linarith -lia [Kept.policyReg, Kept.omeStart, Kept.jobsMoved, Kept.collTileLost, Kept.rewriteDist, Kept.each, Kept.faultStream, Kept.streamGone, Kept.each, Kept.foldl, Kept.mk]
theorem Kept.adoptOrphan {z s : State} (hk : Kept z s) (r : Nat) : Kept z (State.adoptOrphan s r) := by
    grind -ring -linarith -lia [State.adoptOrphan, Kept.policyReg, Kept.omeStart, Kept.rewriteDist, Kept.each, Kept.foldl,
    Kept.mk]
theorem Kept.adoptFree {z s : State} (hk : Kept z s)  : Kept z (State.adoptFree s) := by grind -ring -linarith -lia
    [State.adoptFree, Kept.each, Kept.adoptOrphan, Kept.each, Kept.foldl, Kept.mk]
theorem Kept.fenceTileBlock {z s : State} (hk : Kept z s) (t : Nat) (bit : Nat) : Kept z (State.fenceTileBlock s t bit) := by
  unfold State.fenceTileBlock
  (repeat' split) <;> grind -ring -linarith -lia [Kept.updLink, Kept.declareDown, Kept.markDead, Kept.memUnavailable, Kept.rewriteDist, Kept.omeStop, Kept.moveDuties, Kept.collTileLost, Kept.each, Kept.foldl, Kept.mk]
theorem Kept.siteDown {z s : State} (hk : Kept z s) (n : Nat) (state : Nat) : Kept z (State.siteDown s n state) := by
    grind -ring -linarith -lia [State.siteDown, Kept.sublinkDown, Kept.setFs, Kept.updSt, Kept.each, Kept.foldl, Kept.mk]
theorem Kept.siteStart {z s : State} (hk : Kept z s) (n : Nat) : Kept z (State.siteStart s n) := by
    grind -ring -linarith -lia [State.siteStart, Kept.siteDown, Kept.each, Kept.foldl, Kept.mk]
theorem Kept.sublinkUp {z s : State} (hk : Kept z s) (k : Nat) : Kept z (State.sublinkUp s k) := by
    grind -ring -linarith -lia [State.sublinkUp, Kept.setF, Kept.streamsPortUp, Kept.each, Kept.foldl, Kept.mk]
theorem Kept.sublinksUp {z s : State} (hk : Kept z s) (n : Nat) : Kept z (State.sublinksUp s n) := by
    grind -ring -linarith -lia [State.sublinksUp, Kept.sublinkUp, Kept.each, Kept.foldl, Kept.mk]
theorem Kept.fenceModuleBlock {z s : State} (hk : Kept z s) (bit : Nat) : Kept z (State.fenceModuleBlock s bit) := by
  unfold State.fenceModuleBlock
  (repeat' split) <;> grind -ring -linarith -lia [Kept.setB, Kept.siteDown, Kept.each, Kept.finish, Kept.updSt, Kept.each, Kept.foldl, Kept.mk]
theorem Kept.containTile {z s : State} (hk : Kept z s) (t : Nat) (bit : Nat) : Kept z (State.containTile s t bit) := by
    grind -ring -linarith -lia [State.containTile, Kept.setFence, Kept.fenceTileBlock, Kept.each, Kept.foldl, Kept.mk]
theorem Kept.containModule {z s : State} (hk : Kept z s) (bit : Nat) : Kept z (State.containModule s bit) := by
    grind -ring -linarith -lia [State.containModule, Kept.setFence, Kept.fenceModuleBlock, Kept.each, Kept.foldl, Kept.mk]
theorem Kept.lightComb {z s : State} (hk : Kept z s) (t : Nat) (c : Nat) (state : Nat) (role : Nat) : Kept z
    (State.lightComb s t c state role) := by grind -ring -linarith -lia [State.lightComb, Kept.setFs, Kept.each, Kept.foldl,
    Kept.mk]
theorem Kept.darkComb {z s : State} (hk : Kept z s) (t : Nat) (c : Nat) : Kept z (State.darkComb s t c) := by
    grind -ring -linarith -lia [State.darkComb, Kept.setFs, Kept.each, Kept.foldl, Kept.mk]
theorem Kept.traceGrid {z s : State} (hk : Kept z s) (t : Nat) : Kept z (State.traceGrid s t) := by
    grind -ring -linarith -lia [State.traceGrid, Kept.fresh, Kept.setFs, Kept.each, Kept.foldl, Kept.mk]
theorem Kept.lightTile {z s : State} (hk : Kept z s) (t : Nat) : Kept z (State.lightTile s t) := by
  unfold State.lightTile
  extract_lets sub s1 s2 s3
  have h1 : Kept z s1 := Kept.each hk _ _ fun s c hs => Kept.ite (hs.darkComb ..) (hs.lightComb ..)
  clear_value s1
  have h2 : Kept z s2 := Kept.each h1 _ _ fun s u hs => Kept.ite (((hs.lightComb ..).setF ..).updPh ..) (hs.darkComb ..)
  clear_value s2
  have h3 : Kept z s3 := Kept.each h2 _ _ fun s c hs => hs.setF ..
  clear_value s3
  exact (h3.updPh ..).traceGrid ..
theorem Kept.showDetention {z s : State} (hk : Kept z s) (t : Nat) : Kept z (State.showDetention s t) := by
  unfold State.showDetention
  extract_lets d set row firstRow rows line wd s1 sub s2 s3 dead
  have hsub : ∀ (s : State) (a b : Fld) (c : Nat) (d : Option Nat), Kept z s → Kept z (sub a b c d s) := by
    intro s a b c d hs
    simp only [sub]
    split
    · exact hs.setFs ..
    · exact Kept.ite (hs.setFs ..) hs
  have h2 : Kept z s2 := hsub _ _ _ _ _ (hsub _ _ _ _ _ (hsub _ _ _ _ _ (hk.setFs ..)))
  exact Kept.updOme (Kept.each (Kept.each (h2.setF ..) _ _ fun s x hs => hs.setF ..) _ _ fun s x hs => hs.setF ..) ..
theorem Kept.reapplyDetention {z s : State} (hk : Kept z s) (t : Nat) : Kept z (State.reapplyDetention s t) := by
    grind -ring -linarith -lia [State.reapplyDetention, Kept.showDetention, Kept.markDead, Kept.each, Kept.foldl, Kept.mk]
theorem Kept.loadUcode {z s : State} (hk : Kept z s) (t : Nat) : Kept z (State.loadUcode s t) := by
    grind -ring -linarith -lia [State.loadUcode, Kept.updSec, Kept.setB, Kept.wr, Kept.each, Kept.foldl, Kept.mk]
theorem Kept.tileDefaults {z s : State} (hk : Kept z s) (t : Nat) : Kept z (State.tileDefaults s t) := by
    grind -ring -linarith -lia [State.tileDefaults, Kept.resetRegs, Kept.setF, Kept.showCopies, Kept.each, Kept.foldl,
    Kept.mk]
theorem Kept.startTile {z s : State} (hk : Kept z s) (t : Nat) : Kept z (State.startTile s t) := by
  unfold State.startTile
  extract_lets subMap brim s1 s2 safe test lit own s3 s4 s5 l0 s6 s7 s8 s9 s10
  have h2 : Kept z s2 := (((Kept.tileDefaults hk ..).wr ..).wr ..).wr ..
  have hl : ∀ s : State, Kept z s → Kept z (lit s) := fun s hs => Kept.ite hs (hs.lightTile ..)
  clear_value s2 lit
  have h3 : Kept z s3 := (hl _ ((Kept.ite h2 (h2.loadUcode ..)).updPh ..)).updOme ..
  clear_value s3
  have h4 : Kept z s4 := (h3.reapplyDetention ..).setF ..
  clear_value s4
  have h5 : Kept z s5 := h4.updBl ..
  clear_value s5
  have h6 : Kept z s6 := Kept.each h5 _ _ fun s p hs => by
    extract_lets dark s1
    have h1 : Kept z s1 := (hs.setFs ..).updLink ..
    exact Kept.ite h1 (h1.emit ..)
  clear_value s6
  have h7 : Kept z s7 := Kept.ite h6 (Kept.ite ((h6.setFs ..).copyLost ..) (h6.memStart ..))
  clear_value s7
  have h8 : Kept z s8 := Kept.ite (h7.setF ..) (Kept.ite h7 (h7.omeStart ..))
  clear_value s8
  have h9 : Kept z s9 := Kept.ite h8 (h8.startUpRuns ..)
  clear_value s9
  have h10 : Kept z s10 := by
    simp only [s10]
    split
    · exact h9.sublinksUp ..
    · exact h9
  clear_value s10
  have h11 := Kept.of_same (t := { s10 with therm := Map.del t s10.therm }) h10 rfl rfl rfl rfl rfl
  exact (h11.syncDuty ..).rewriteDist
theorem Kept.stopTile {z s : State} (hk : Kept z s) (t : Nat) (cause : Option Nat) : Kept z (State.stopTile s t cause) := by
  unfold State.stopTile
  extract_lets s0 s1 s2 s3 s4
  have h0 : Kept z s0 := by
    simp only [s0]
    split
    · exact hk.sublinkDown ..
    · exact hk
  have h1 : Kept z s1 := Kept.each h0 _ _ fun s p hs => (hs.declareDown ..).shut ..
  have h3 : Kept z s3 := Kept.each ((h1.crownRestart ..).abortRuns ..) _ _ fun s j hs => hs.endJob ..
  have h4 : Kept z s4 := by
    simp only [s4]
    split
    · exact h3.collTileLost ..
    · exact h3
  exact (h4.omeStop ..).memUnavailable ..
theorem Kept.liftFences {z s : State} (hk : Kept z s) (t : Nat) : Kept z (State.liftFences s t) := by
    grind -ring -linarith -lia [State.liftFences, Kept.each, Kept.setFence, Kept.updLink, Kept.each, Kept.foldl, Kept.mk]
theorem Kept.dropSleep {z s : State} (hk : Kept z s) (t : Nat) : Kept z (State.dropSleep s t) := by
    grind -ring -linarith -lia [State.dropSleep, Kept.each, Kept.finish, Kept.updClk, Kept.each, Kept.foldl, Kept.mk]
theorem Kept.resetTile {z s : State} (hk : Kept z s) (t : Nat) (cause : Nat) : Kept z (State.resetTile s t cause) := by
    grind -ring -linarith -lia [State.resetTile, Kept.stopTile, Kept.liftFences, Kept.clearCache, Kept.dropSleep,
    Kept.startTile, Kept.setFs, Kept.adoptFree, Kept.each, Kept.foldl, Kept.mk]
theorem Kept.assertTile {z s : State} (hk : Kept z s) (t : Nat) (bit : Nat) (v : Int) (hold : Bool) : Kept z
    (State.assertTile s t bit v hold) := by grind -ring -linarith -lia [State.assertTile, Kept.lineTile, Kept.record,
    Kept.resetTile, Kept.containTile, Kept.each, Kept.foldl, Kept.mk]
theorem Kept.assertModule {z s : State} (hk : Kept z s) (bit : Nat) (v : Int) (hold : Bool) : Kept z (State.assertModule s
    bit v hold) := by grind -ring -linarith -lia [State.assertModule, Kept.lineMod, Kept.containModule, Kept.record,
    Kept.setFence, Kept.each, Kept.foldl, Kept.mk]

/-! ### Machine/PowerOps.lean -/

theorem Kept.setAsleep {z s : State} (hk : Kept z s) (t : Nat) (b : Bool) : Kept z (State.setAsleep s t b) := by
    grind -ring -linarith -lia [State.setAsleep, Kept.setB, Kept.each, Kept.foldl, Kept.mk]
theorem Kept.requestWake {z s : State} (hk : Kept z s) (t : Nat) : Kept z (State.requestWake s t) := by
    grind -ring -linarith -lia [State.requestWake, Kept.setF, Kept.updClk, Kept.each, Kept.foldl, Kept.mk]
theorem Kept.beginEntry {z s : State} (hk : Kept z s) (t : Nat) (mode : Nat) : Kept z (State.beginEntry s t mode) := by
    grind -ring -linarith -lia [State.beginEntry, Kept.setFs, Kept.updClk, Kept.each, Kept.foldl, Kept.mk]
theorem Kept.applyMode {z s : State} (hk : Kept z s) (t : Nat) : Kept z (State.applyMode s t) := by
    grind -ring -linarith -lia [State.applyMode, Kept.beginEntry, Kept.requestWake, Kept.each, Kept.foldl, Kept.mk]
theorem Kept.updCeil {z s : State} (hk : Kept z s)  : Kept z (State.updCeil s) := by grind -ring -linarith -lia
    [State.updCeil, Kept.setFs, Kept.each, Kept.foldl, Kept.mk]
theorem Kept.syncFeeds {z s : State} (hk : Kept z s)  : Kept z (State.syncFeeds s) := by grind -ring -linarith -lia
    [State.syncFeeds, Kept.setFs, Kept.updCeil, Kept.each, Kept.foldl, Kept.mk]

end Sys2Proof.Machine
end

