-- ==== Sys2Proof/Laws/KeptData.lean ====
section
/-! SUPPORT. Laws/KeptData.lean: Crown, streams, memory pool, engine, jobs and collectives leave the queue alone and keep the canonical forms; one lemma per definition. -/

namespace Sys2Proof.Machine

/-! ### Machine/Crown.lean -/

theorem Kept.updTx {z s : State} (hk : Kept z s) (x : Nat) (y : Nat) (vc : Nat) (f : TxFlow → TxFlow) : Kept z (State.updTx
    s x y vc f) := by grind -ring -linarith -lia [State.updTx, Kept.updCr, Kept.each, Kept.foldl, Kept.mk]
theorem Kept.updRx {z s : State} (hk : Kept z s) (x : Nat) (orig : Nat) (vc : Nat) (f : RxFlow → RxFlow) : Kept z
    (State.updRx s x orig vc f) := by grind -ring -linarith -lia [State.updRx, Kept.updCr, Kept.each, Kept.foldl, Kept.mk]
theorem Kept.eackSent {z s : State} (hk : Kept z s) (x : Nat) (y : Nat) (vc : Nat) : Kept z (State.eackSent s x y vc) := by
    grind -ring -linarith -lia [State.eackSent, Kept.updRx, Kept.each, Kept.foldl, Kept.mk]
theorem Kept.newCells {z s : State} (hk : Kept z s) (x : Nat) (y : Nat) (vc : Nat) (n : Nat) : Kept z (State.newCells s x y
    vc n).2 := by grind -ring -linarith -lia [State.newCells, Kept.updTx, Kept.each, Kept.foldl, Kept.mk]
theorem Kept.againCell {z s : State} (hk : Kept z s) (x : Nat) (y : Nat) (vc : Nat) : Kept z (State.againCell s x y vc).2 :=
    by grind -ring -linarith -lia [State.againCell, Kept.updTx, Kept.bump, Kept.each, Kept.foldl, Kept.mk]
theorem Kept.syncRelay {z s : State} (hk : Kept z s) (t : Nat) : Kept z (State.syncRelay s t) := by
    grind -ring -linarith -lia [State.syncRelay, Kept.setFs, Kept.each, Kept.foldl, Kept.mk]
theorem Kept.relayCells {z s : State} (hk : Kept z s) (x : Nat) (y : Nat) (vc : Nat) (n : Nat) : Kept z (State.relayCells s
    x y vc n).2 := by grind -ring -linarith -lia [State.relayCells, Kept.updCr, Kept.syncRelay, Kept.bump, Kept.each,
    Kept.foldl, Kept.mk]
theorem Kept.cellsOfVc {z s : State} (hk : Kept z s) (x : Nat) (y : Nat) (vc : Nat) (n : Nat) : Kept z (State.cellsOfVc s x
    y vc n).2 := by grind -ring -linarith -lia [State.cellsOfVc, Kept.againCell, Kept.relayCells, Kept.newCells, Kept.each,
    Kept.foldl, Kept.mk]
theorem Kept.cellsTo {z s : State} (hk : Kept z s) (x : Nat) (y : Nat) (n : Nat) : Kept z (State.cellsTo s x y n).2 := by
    grind -ring -linarith -lia [State.cellsTo, Kept.cellsOfVc, Kept.each, Kept.foldl, Kept.mk]
theorem Kept.relayFill {z s : State} (hk : Kept z s) (x : Nat) (i : Nat) (p : Nat) (x0 : Nat) : Kept z (State.relayFill x i
    p x0 s).2 := by fun_induction State.relayFill <;> grind -ring -linarith -lia [Kept.newCells, Kept.bump, Kept.each,
    Kept.foldl, Kept.mk]
theorem Kept.launch {z s : State} (hk : Kept z s) (x : Nat) (y : Nat) (p : Nat) (pad : Nat) (cells : List Cell) : Kept z
    (State.launch s x y p pad cells) := by grind -ring -linarith -lia [State.launch, Kept.each, Kept.eackSent, Kept.updCr,
    Kept.emit, Kept.each, Kept.foldl, Kept.mk]
theorem Kept.planeSlot {z s : State} (hk : Kept z s) (x : Nat) (p : Nat) : Kept z (State.planeSlot s x p) := by
    grind -ring -linarith -lia [State.planeSlot, Kept.launch, Kept.cellsTo, Kept.relayFill, Kept.each, Kept.foldl, Kept.mk]
theorem Kept.putFrame {z s : State} (hk : Kept z s) (t : Nat) (e : Nat) (type : Nat) (seq : Nat) (r : AckRec) (cell : List
    Byte) : Kept z (State.putFrame s t e type seq r cell) := by grind -ring -linarith -lia [State.putFrame, Kept.updBr,
    Kept.emit, Kept.each, Kept.foldl, Kept.mk]
theorem Kept.pumpEdge {z s : State} (hk : Kept z s) (t : Nat) (e : Nat) (x0 : Nat) : Kept z (State.pumpEdge t e x0 s) := by
    fun_induction State.pumpEdge <;> grind -ring -linarith -lia [Kept.putFrame, Kept.eackSent, Kept.updBr, Kept.each,
    Kept.foldl, Kept.mk]
theorem Kept.sendEdge {z s : State} (hk : Kept z s) (t : Nat) (e : Nat) (c : Cell) : Kept z (State.sendEdge s t e c) := by
    grind -ring -linarith -lia [State.sendEdge, Kept.updBr, Kept.pumpEdge, Kept.each, Kept.foldl, Kept.mk]
theorem Kept.sendAckRec {z s : State} (hk : Kept z s) (t : Nat) (e : Nat) (r : AckRec) : Kept z (State.sendAckRec s t e r)
    := by grind -ring -linarith -lia [State.sendAckRec, Kept.putFrame, Kept.each, Kept.foldl, Kept.mk]
theorem Kept.pumpFlow {z s : State} (hk : Kept z s) (x : Nat) (y : Nat) (vc : Nat) : Kept z (State.pumpFlow s x y vc) := by
    grind -ring -linarith -lia [State.pumpFlow, Kept.againCell, Kept.fresh, Kept.newCells, Kept.each, Kept.sendEdge,
    Kept.each, Kept.foldl, Kept.mk]
theorem Kept.takeEack {z s : State} (hk : Kept z s) (x : Nat) (y : Nat) (vc : Nat) (a : Eack) : Kept z (State.takeEack s x y
    vc a) := by grind -ring -linarith -lia [State.takeEack, Kept.updTx, Kept.pumpFlow, Kept.each, Kept.foldl, Kept.mk]
theorem Kept.deliverHeld {z s : State} (hk : Kept z s) (t : Nat) (orig : Nat) (vc : Nat) (x0 : Nat) : Kept z
    (State.deliverHeld t orig vc x0 s) := by fun_induction State.deliverHeld <;> grind -ring -linarith -lia [Kept.updRx,
    Kept.emit, Kept.each, Kept.foldl, Kept.mk]
theorem Kept.takeCell {z s : State} (hk : Kept z s) (t : Nat) (c : Cell) : Kept z (State.takeCell s t c) := by
    grind -ring -linarith -lia [State.takeCell, Kept.updCr, Kept.updRx, Kept.deliverHeld, Kept.sendAckRec, Kept.eackSent,
    Kept.each, Kept.foldl, Kept.mk]
theorem Kept.takeRelay {z s : State} (hk : Kept z s) (t : Nat) (c : Cell) : Kept z (State.takeRelay s t c) := by
    grind -ring -linarith -lia [State.takeRelay, Kept.bump, Kept.updCr, Kept.syncRelay, Kept.each, Kept.foldl, Kept.mk]
theorem Kept.countDrop {z s : State} (hk : Kept z s) (t : Nat) : Kept z (State.countDrop s t) := by
    grind -ring -linarith -lia [State.countDrop, Kept.bump, Kept.updCr, Kept.raise, Kept.each, Kept.foldl, Kept.mk]
theorem Kept.noteBusy {z s : State} (hk : Kept z s) (t : Nat) (x : Nat) (busy : Bool) : Kept z (State.noteBusy s t x busy)
    := by grind -ring -linarith -lia [State.noteBusy, Kept.updCr, Kept.each, Kept.foldl, Kept.mk]
theorem Kept.takePosition {z s : State} (hk : Kept z s) (x : Nat) (t : Nat) (p : Nat) (k : Nat) (cw : List Byte) : Kept z
    (State.takePosition s x t p k cw) := by grind -ring -linarith -lia [State.takePosition, Kept.countDrop, Kept.bump,
    Kept.noteBusy, Kept.takeEack, Kept.takeCell, Kept.takeRelay, Kept.each, Kept.foldl, Kept.mk]
theorem Kept.takeRowCell {z s : State} (hk : Kept z s) (t : Nat) (e : Nat) (c : Cell) : Kept z (State.takeRowCell s t e c)
    := by grind -ring -linarith -lia [State.takeRowCell, Kept.takeCell, Kept.sendEdge, Kept.takeRelay, Kept.each,
    Kept.foldl, Kept.mk]
theorem Kept.replayEdge {z s : State} (hk : Kept z s) (t : Nat) (e : Nat) (seq : Nat) : Kept z (State.replayEdge s t e seq)
    := by grind -ring -linarith -lia [State.replayEdge, Kept.each, Kept.putFrame, Kept.bump, Kept.each, Kept.foldl, Kept.mk]
theorem Kept.takeFrame {z s : State} (hk : Kept z s) (t : Nat) (e : Nat) (bs : List Byte) : Kept z (State.takeFrame s t e bs) := by
  unfold State.takeFrame
  repeat' (first | assumption | split | with_reducible apply Kept.updBr | with_reducible apply Kept.replayEdge | with_reducible apply Kept.pumpEdge | with_reducible apply Kept.takeEack | with_reducible apply Kept.sendAckRec | with_reducible apply Kept.putFrame | with_reducible apply Kept.countDrop | with_reducible apply Kept.noteBusy | with_reducible apply Kept.takeRowCell | with_reducible apply Kept.each | with_reducible apply Kept.foldl | intro _)
  all_goals grind -ring -linarith -lia [Kept.updBr, Kept.replayEdge, Kept.pumpEdge, Kept.takeEack, Kept.sendAckRec, Kept.putFrame, Kept.countDrop, Kept.noteBusy, Kept.takeRowCell, Kept.each, Kept.foldl, Kept.mk]
theorem Kept.bypassOut {z s : State} (hk : Kept z s) (x : Nat) : Kept z (State.bypassOut s x) := by
    grind -ring -linarith -lia [State.bypassOut, Kept.each, Kept.newCells, Kept.sendEdge, Kept.each, Kept.foldl, Kept.mk]
theorem Kept.execCrownStartPulse {z s : State} (hk : Kept z s)  : ∀ z2, Machine.execCrownStartPulse s = .next z2 → Kept z z2
    := by grind -ring -linarith -lia [Machine.execCrownStartPulse, Kept.each, Kept.foldl, Kept.mk]
theorem Kept.alignStep {z s : State} (hk : Kept z s) (t : Nat) : Kept z (State.alignStep s t) := by
    grind -ring -linarith -lia [State.alignStep, Kept.updCr, Kept.setF, Kept.each, Kept.foldl, Kept.mk]
theorem Kept.execCrownSlot {z s : State} (hk : Kept z s) (offers : List CellOffer) : ∀ z2, Machine.execCrownSlot offers s = .next z2 → Kept z z2 := by
  unfold Machine.execCrownSlot
  repeat' (first | assumption | split | with_reducible apply Kept.each | with_reducible apply Kept.alignStep | with_reducible apply Kept.updTx | with_reducible apply Kept.pumpFlow | with_reducible apply Kept.requestWake | with_reducible apply Kept.bypassOut | with_reducible apply Kept.planeSlot | with_reducible apply Kept.each | with_reducible apply Kept.foldl | intro _)
  all_goals grind -ring -linarith -lia [Kept.each, Kept.alignStep, Kept.updTx, Kept.pumpFlow, Kept.requestWake, Kept.bypassOut, Kept.planeSlot, Kept.each, Kept.foldl, Kept.mk]
theorem Kept.execCrownBurstReceive {z s : State} (hk : Kept z s) (t : Tile) (plane : Fin 16) (lock : Bool) (body : List
    Byte) : ∀ z2, Machine.execCrownBurstReceive t plane lock body s = .next z2 → Kept z z2 := by grind -ring -linarith -lia
    [Machine.execCrownBurstReceive, Kept.bump, Kept.updCr, Kept.each, Kept.takePosition, Kept.each, Kept.foldl, Kept.mk]
theorem Kept.execCrownHoldExpiry {z s : State} (hk : Kept z s) (t : Tile) (orig : Tile) (vc : Fin 3) : ∀ z2,
    Machine.execCrownHoldExpiry t orig vc s = .next z2 → Kept z z2 := by grind -ring -linarith -lia
    [Machine.execCrownHoldExpiry, Kept.updRx, Kept.sendAckRec, Kept.eackSent, Kept.each, Kept.foldl, Kept.mk]
theorem Kept.execCrownRtoExpiry {z s : State} (hk : Kept z s) (t : Tile) (final : Tile) (vc : Fin 3) : ∀ z2,
    Machine.execCrownRtoExpiry t final vc s = .next z2 → Kept z z2 := by grind -ring -linarith -lia
    [Machine.execCrownRtoExpiry, Kept.updTx, Kept.pumpFlow, Kept.each, Kept.foldl, Kept.mk]
theorem Kept.execCrownProbeDue {z s : State} (hk : Kept z s) (t : Tile) (dst : Tile) : ∀ z2, Machine.execCrownProbeDue t dst
    s = .next z2 → Kept z z2 := by grind -ring -linarith -lia [Machine.execCrownProbeDue, Kept.launch, Kept.each,
    Kept.foldl, Kept.mk]
theorem Kept.execCrownDeadMapUpdate {z s : State} (hk : Kept z s) (t : Tile) (tx : BitVec 16) (rx : BitVec 16) (asleep :
    Bool) : ∀ z2, Machine.execCrownDeadMapUpdate t tx rx asleep s = .next z2 → Kept z z2 := by grind -ring -linarith -lia
    [Machine.execCrownDeadMapUpdate, Kept.markDead, Kept.setAsleep, Kept.each, Kept.foldl, Kept.mk]
theorem Kept.execBrimFrameReceive {z s : State} (hk : Kept z s) (t : Tile) (e : Fin 2) (bytes : List Byte) (ce : BitVec 8)
    (ue : BitVec 8) : ∀ z2, Machine.execBrimFrameReceive t e bytes ce ue s = .next z2 → Kept z z2 := by
    grind -ring -linarith -lia [Machine.execBrimFrameReceive, Kept.bump, Kept.takeFrame, Kept.updBr, Kept.putFrame,
    Kept.each, Kept.foldl, Kept.mk]
theorem Kept.execBrimUeLimit {z s : State} (hk : Kept z s) (t : Tile) (e : Fin 2) : ∀ z2, Machine.execBrimUeLimit t e s =
    .next z2 → Kept z z2 := by grind -ring -linarith -lia [Machine.execBrimUeLimit, Kept.fenceBrim, Kept.policyNote,
    Kept.each, Kept.foldl, Kept.mk]
theorem Kept.brimFenceDef {z : State} : ∀ s p o id, Kept z s → (Machine.brimFenceDef.act s p o id).kept z := by
  intro s p o id hk
  dsimp only [Machine.brimFenceDef]
  grind -ring -linarith -lia [Effect.kept, Kept.fenceBrim, Kept.each, Kept.foldl, Kept.mk]
theorem Kept.brimUnfenceDef {z : State} : ∀ s p o id, Kept z s → (Machine.brimUnfenceDef.act s p o id).kept z := by
  intro s p o id hk
  dsimp only [Machine.brimUnfenceDef]
  grind -ring -linarith -lia [Effect.kept, Kept.updBr, Kept.each, Kept.foldl, Kept.mk]
theorem Kept.execBrimFence {z s : State} (hk : Kept z s) (p : Packet) : ∀ z2, Machine.execBrimFence p s = .next z2 → Kept z
    z2 := fun _ e => by cases e; exact Kept.runCmd hk _ p Kept.brimFenceDef
theorem Kept.execBrimUnfence {z s : State} (hk : Kept z s) (p : Packet) : ∀ z2, Machine.execBrimUnfence p s = .next z2 →
    Kept z z2 := fun _ e => by cases e; exact Kept.runCmd hk _ p Kept.brimUnfenceDef
theorem Kept.execBrimTestDone {z s : State} (hk : Kept z s) (t : Tile) (e : Fin 2) (ue : BitVec 16) (ce : BitVec 16) (farUe : BitVec 16) (farCe : BitVec 16) : ∀ z2, Machine.execBrimTestDone t e ue ce farUe farCe s = .next z2 → Kept z z2 := by
  intro z2 e
  cases e
  split
  · next id u d _ _ =>
    extract_lets stop s1 fails set up near det
    have h1 : Kept z s1 := (hk.updBr ..).updBr ..
    have hset : ∀ (s : State) (l : List Nat), Kept z s → Kept z (set s l) := fun s l hs => ((hs.updBr ..).updBr ..).setFs ..
    have hup : ∀ (s : State) (t e : Nat), Kept z s → Kept z (up s t e) := fun s t e hs => (hs.setFs ..).updBr ..
    exact Kept.ite ((hset _ _ (hup _ _ _ (hup _ _ _ h1))).rewriteDist.finishParam ..) ((hset _ _ h1).finish ..)
  · exact hk
theorem Kept.execStentStandinMove {z s : State} (hk : Kept z s) (t : Tile) : ∀ z2, Machine.execStentStandinMove t s = .next
    z2 → Kept z z2 := by grind -ring -linarith -lia [Machine.execStentStandinMove, Kept.moveDuties, Kept.each, Kept.foldl,
    Kept.mk]

/-! ### Machine/JobRun.lean -/

theorem Kept.readParts {z s : State} (hk : Kept z s) (t : Nat) (a : Nat) (x0 : Nat) (x1 : Nat) : Kept z (State.readParts t a
    x0 x1 s).2 := by fun_induction State.readParts <;> grind -ring -linarith -lia [Kept.readFabric, Kept.each, Kept.foldl,
    Kept.mk]
theorem Kept.readRange {z s : State} (hk : Kept z s) (t : Nat) (a : Nat) (n : Nat) : Kept z (State.readRange s t a n).2 :=
    by grind -ring -linarith -lia [State.readRange, Kept.readParts, Kept.each, Kept.foldl, Kept.mk]
theorem Kept.writeRange {z s : State} (hk : Kept z s) (t : Nat) (a : Nat) (x0 : Nat) (x1 : List Byte) : Kept z (State.writeRange t a x0 x1 s).1 := by
  fun_induction State.writeRange
  · exact hk
  · exact hk
  · next heq => exact Kept.writeFabric_state hk heq
  · next heq ih => exact ih (Kept.writeFabric_ok hk heq)
theorem Kept.foldFree {z s : State} (hk : Kept z s) (f : Nat → Nat → Nat) (x0 : Nat) (x1 : Nat) (x2 : List Nat) : Kept z
    (State.foldFree f x0 x1 x2 s).2 := by fun_induction State.foldFree <;> grind -ring -linarith -lia [Kept.fresh,
    Kept.each, Kept.foldl, Kept.mk]
theorem Kept.sumFree {z s : State} (hk : Kept z s) (l : List Nat) : Kept z (State.sumFree s l).2 := by
    grind -ring -linarith -lia [State.sumFree, Kept.foldFree, Kept.each, Kept.foldl, Kept.mk]
theorem Kept.jobTake {z s : State} (hk : Kept z s) (j : Job) (i : Nat) (key : Nat) (tu : Tu) : Kept z (State.jobTake s j i
    key tu) := by grind -ring -linarith -lia [State.jobTake, Kept.updJob, Kept.bump, Kept.each, Kept.foldl, Kept.mk]
theorem Kept.readVecs {z s : State} (hk : Kept z s) (t : Nat) (x0 : List (Nat × Nat)) : Kept z (State.readVecs t x0 s).2 :=
    by fun_induction State.readVecs <;> grind -ring -linarith -lia [Kept.readRange, Kept.each, Kept.foldl, Kept.mk]
theorem Kept.unitInputs {z s : State} (hk : Kept z s) (t : Nat) (j : Job) (sh : Share) : Kept z (State.unitInputs s t j
    sh).2 := by grind -ring -linarith -lia [State.unitInputs, Kept.readVecs, Kept.each, Kept.foldl, Kept.mk]
theorem Kept.operandFail {z s : State} (hk : Kept z s) (id : Nat) (t : Nat) (status : Nat) : Kept z (State.operandFail s id
    t status) := by grind -ring -linarith -lia [State.operandFail, Kept.endJob, Kept.each, Kept.foldl, Kept.mk]
theorem Kept.updShare {z s : State} (hk : Kept z s) (id : Nat) (tile : Nat) (f : Share → Share) : Kept z (State.updShare s
    id tile f) := by grind -ring -linarith -lia [State.updShare, Kept.updJob, Kept.each, Kept.foldl, Kept.mk]
theorem Kept.beginUnit {z s : State} (hk : Kept z s) (t : Nat) (j : Job) (sh : Share) : Kept z (State.beginUnit s t j sh) :=
    by grind -ring -linarith -lia [State.beginUnit, Kept.unitInputs, Kept.operandFail, Kept.updShare, Kept.each, Kept.foldl,
    Kept.mk]
theorem Kept.blockWeights {z s : State} (hk : Kept z s) (t : Nat) (j : Job) (sh : Share) : Kept z (State.blockWeights s t j
    sh).2 := by grind -ring -linarith -lia [State.blockWeights, Kept.readRange, Kept.each, Kept.foldl, Kept.mk]
theorem Kept.jobPass {z s : State} (hk : Kept z s) (t : Nat) (j : Job) (sh : Share) (given : List Int) : Kept z (State.jobPass s t j sh given) := by
  unfold State.jobPass
  (repeat' split) <;> grind -ring -linarith -lia [Kept.blockWeights, Kept.operandFail, Kept.fresh, Kept.bump, Kept.updShare, Kept.updJob, Kept.each, Kept.foldl, Kept.mk]
theorem Kept.unitSums {z s : State} (hk : Kept z s) (x0 : List Nat) (x1 : List (List Nat)) : Kept z (State.unitSums x0 x1
    s).2 := by fun_induction State.unitSums <;> grind -ring -linarith -lia [Kept.sumFree, Kept.each, Kept.foldl, Kept.mk]
theorem Kept.writeOuts {z s : State} (hk : Kept z s) (t : Nat) (d : JobDesc) (x0 : List (Nat × Nat)) : Kept z
    (State.writeOuts t d x0 s).1 := by fun_induction State.writeOuts <;> grind -ring -linarith -lia [Kept.readRange,
    Kept.writeRange, Kept.each, Kept.foldl, Kept.mk]
theorem Kept.sendOuts {z s : State} (hk : Kept z s) (id : Nat) (key : Nat) (parts : Nat) (x0 : Nat) : Kept z (State.sendOuts
    id key parts x0 s) := by fun_induction State.sendOuts <;> grind -ring -linarith -lia [Kept.updJob, Kept.sendMessage,
    Kept.each, Kept.foldl, Kept.mk]
theorem Kept.writeUnit {z s : State} (hk : Kept z s) (t : Nat) (j : Job) (sh : Share) : Kept z (State.writeUnit s t j sh) := by
  unfold State.writeUnit
  (repeat' split) <;> grind -ring -linarith -lia [Kept.endJob, Kept.unitSums, Kept.updShare, Kept.updJob, Kept.bump, Kept.place, Kept.writeOuts, Kept.operandFail, Kept.sendOuts, Kept.each, Kept.foldl, Kept.mk]

/-! ### Machine/CollRun.lean -/

theorem Kept.foldAny {z s : State} (hk : Kept z s) (f : Nat → Nat → Nat) (l : List Nat) : Kept z (State.foldAny f l s).2 :=
    by grind -ring -linarith -lia [State.foldAny, Kept.fresh, Kept.foldFree, Kept.each, Kept.foldl, Kept.mk]
theorem Kept.reduceAny {z s : State} (hk : Kept z s) (redop : Nat) (x0 : List Nat) (x1 : List (List Nat)) : Kept z
    (State.reduceAny redop x0 x1 s).2 := by fun_induction State.reduceAny <;> grind -ring -linarith -lia [Kept.foldAny,
    Kept.each, Kept.foldl, Kept.mk]
theorem Kept.countDig {z s : State} (hk : Kept z s) (t : Nat) (n : Nat) : Kept z (State.countDig s t n) := by
    grind -ring -linarith -lia [State.countDig, Kept.setPair, Kept.each, Kept.foldl, Kept.mk]
theorem Kept.sendElems {z s : State} (hk : Kept z s) (n : Nat) (g : Group) (o : CollOp) (rank : Nat) (ty : Nat) (idx : Nat)
    (words : List Nat) : Kept z (State.sendElems s n g o rank ty idx words) := by grind -ring -linarith -lia
    [State.sendElems, Kept.each, Kept.queueTu, Kept.each, Kept.foldl, Kept.mk]
theorem Kept.sendDones {z s : State} (hk : Kept z s) (n : Nat) (g : Group) (o : CollOp) (flags : Nat) : Kept z
    (State.sendDones s n g o flags) := by grind -ring -linarith -lia [State.sendDones, Kept.updOp, Kept.each, Kept.sendDone,
    Kept.each, Kept.foldl, Kept.mk]
theorem Kept.collFlag {z s : State} (hk : Kept z s) (n : Nat) (bits : Nat) : Kept z (State.collFlag s n bits) := by
    grind -ring -linarith -lia [State.collFlag, Kept.updRun, Kept.each, Kept.foldl, Kept.mk]
theorem Kept.collFail {z s : State} (hk : Kept z s) (n : Nat) (status : Nat) (detail : Nat) (failRank : Nat) (failTile :
    Nat) : Kept z (State.collFail s n status detail failRank failTile) := by grind -ring -linarith -lia [State.collFail,
    Kept.stopOps, Kept.each, Kept.foldl, Kept.mk]
theorem Kept.collMemFail {z s : State} (hk : Kept z s) (n : Nat) (status : Nat) (failTile : Nat) : Kept z (State.collMemFail
    s n status failTile) := by grind -ring -linarith -lia [State.collMemFail, Kept.collFail, Kept.each, Kept.foldl, Kept.mk]
theorem Kept.collStore {z s : State} (hk : Kept z s) (n : Nat) (t : Nat) (a : Nat) (ty : Nat) (words : List Nat) : Kept z
    (State.collStore s n t a ty words) := by grind -ring -linarith -lia [State.collStore, Kept.writeRange, Kept.collMemFail,
    Kept.each, Kept.foldl, Kept.mk]
theorem Kept.openMore {z s : State} (hk : Kept z s) (n : Nat) : Kept z (State.openMore s n) := by grind -ring -linarith -lia
    [State.openMore, Kept.updOp, Kept.each, Kept.foldl, Kept.mk]
theorem Kept.finishSeg {z s : State} (hk : Kept z s) (n : Nat) (sg : Nat) (words : List Nat) : Kept z (State.finishSeg s n sg words) := by
  unfold State.finishSeg
  dsimp only
  repeat' (first | assumption | split | with_reducible apply Kept.collStore | with_reducible apply Kept.each | with_reducible apply Kept.sendElems | with_reducible apply Kept.updOp | with_reducible apply Kept.openMore | with_reducible apply Kept.sendDones | with_reducible apply Kept.each | with_reducible apply Kept.foldl | intro _)
  all_goals grind -ring -linarith -lia [Kept.collStore, Kept.each, Kept.sendElems, Kept.updOp, Kept.openMore, Kept.sendDones, Kept.each, Kept.foldl, Kept.mk]
theorem Kept.ownerDone {z s : State} (hk : Kept z s) (n : Nat) (sg : Nat) (words : List Nat) : Kept z (State.ownerDone s n
    sg words) := by grind -ring -linarith -lia [State.ownerDone, Kept.finishSeg, Kept.each, Kept.sendElems, Kept.updOp,
    Kept.each, Kept.foldl, Kept.mk]
theorem Kept.contribs {z s : State} (hk : Kept z s) (g : Group) (d : OpDesc) (sg : Nat) (t : Nat) : Kept z (State.contribs s
    g d sg t).2 := by grind -ring -linarith -lia [State.contribs, Kept.readVecs, Kept.each, Kept.foldl, Kept.mk]
theorem Kept.opticalGroup {z s : State} (hk : Kept z s) (vs : List (List Nat)) (len : Nat) : Kept z (State.opticalGroup s vs len).2.2 := by
  unfold State.opticalGroup
  extract_lets c per
  suffices h : ∀ (l : List Nat) (f : List Nat × Bool × State → Nat → List Nat × Bool × State) (a : List Nat × Bool × State),
      (∀ a i, Kept z a.2.2 → Kept z (f a i).2.2) → Kept z a.2.2 → Kept z (l.foldl f a).2.2 from by
    refine h _ _ _ ?_ hk
    intro a i ha
    obtain ⟨x, y, s⟩ := a
    dsimp only
    split
    · exact ha
    · split
      · exact ha
      · exact Kept.fresh ha
  intro l f a hf ha
  induction l generalizing a with
  | nil => exact ha
  | cons b l ih => exact ih _ (hf _ _ ha)
theorem Kept.opticalPartial {z s : State} (hk : Kept z s) (len : Nat) (x0 : List (List (List Nat))) : Kept z
    (State.opticalPartial len x0 s).2.2 := by fun_induction State.opticalPartial <;> grind -ring -linarith -lia
    [Kept.opticalGroup, Kept.each, Kept.foldl, Kept.mk]
theorem Kept.entryStage {z s : State} (hk : Kept z s) (n : Nat) (sg : Nat) (t : Nat) : Kept z (State.entryStage s n sg t) := by
  unfold State.entryStage
  repeat' (first | assumption | split | with_reducible apply Kept.contribs | with_reducible apply Kept.collMemFail | with_reducible apply Kept.updOp | with_reducible apply Kept.opticalPartial | with_reducible apply Kept.reduceAny | with_reducible apply Kept.collFlag | with_reducible apply Kept.bump | with_reducible apply Kept.countDig | with_reducible apply Kept.each | with_reducible apply Kept.foldl | intro _)
  all_goals grind -ring -linarith -lia [Kept.contribs, Kept.collMemFail, Kept.updOp, Kept.opticalPartial, Kept.reduceAny, Kept.collFlag, Kept.bump, Kept.countDig, Kept.each, Kept.foldl, Kept.mk]
theorem Kept.collectStage {z s : State} (hk : Kept z s) (n : Nat) (sg : Nat) (row : Nat) : Kept z (State.collectStage s n sg row) := by
  unfold State.collectStage
  (repeat' split) <;> grind -ring -linarith -lia [Kept.reduceAny, Kept.countDig, Kept.updOp, Kept.each, Kept.foldl, Kept.mk]
theorem Kept.ownerStage {z s : State} (hk : Kept z s) (n : Nat) (sg : Nat) : Kept z (State.ownerStage s n sg) := by
  unfold State.ownerStage
  (repeat' split) <;> grind -ring -linarith -lia [Kept.reduceAny, Kept.countDig, Kept.ownerDone, Kept.each, Kept.foldl, Kept.mk]
theorem Kept.forward {z s : State} (hk : Kept z s) (n : Nat) (g : Group) (o : CollOp) (rank : Nat) (idx : Nat) (words : List
    Nat) : Kept z (State.forward s n g o rank idx words) := by grind -ring -linarith -lia [State.forward, Kept.sendElems,
    Kept.collStore, Kept.each, Kept.each, Kept.foldl, Kept.mk]
theorem Kept.admitToken {z s : State} (hk : Kept z s) (n : Nat) (rank : Nat) (token : Nat) : Kept z (State.admitToken s n rank token) := by
  unfold State.admitToken
  split
  · exact hk
  · split
    · dsimp only
      split
      · exact Kept.updRun (Kept.each (hk.updGroup ..) _ _ fun s t hs => (hs.bump ..).note ..) ..
      · exact Kept.each (hk.updGroup ..) _ _ fun s t hs => (hs.bump ..).note ..
    · exact hk
theorem Kept.sendCopies {z s : State} (hk : Kept z s) (n : Nat) (rank : Nat) (token : Nat) (tu : Tu) : Kept z (State.sendCopies s n rank token tu) := by
  unfold State.sendCopies
  (repeat' split) <;> grind -ring -linarith -lia [Kept.each, Kept.queueTu, Kept.updOp, Kept.each, Kept.foldl, Kept.mk]
theorem Kept.gatedElem {z s : State} (hk : Kept z s) (gates : List Nat) (vals : List Nat) : Kept z (State.gatedElem s gates
    vals).2.2 := by grind -ring -linarith -lia [State.gatedElem, Kept.fresh, Kept.each, Kept.foldl, Kept.mk]
theorem Kept.gatedSum {z s : State} (hk : Kept z s) (gates : List Nat) (x0 : List (List Nat)) : Kept z (State.gatedSum gates
    x0 s).2.2 := by fun_induction State.gatedSum <;> grind -ring -linarith -lia [Kept.gatedElem, Kept.each, Kept.foldl,
    Kept.mk]
theorem Kept.returnToken {z s : State} (hk : Kept z s) (n : Nat) (rank : Nat) : ∀ z2, State.returnToken s n rank = some z2 → Kept z z2 := by
  unfold State.returnToken
  dsimp only
  (repeat' split) <;> grind -ring -linarith -lia [Kept.gatedSum, Kept.collFlag, Kept.bump, Kept.each, Kept.queueTu, Kept.updOp, Kept.each, Kept.foldl, Kept.mk]
theorem Kept.returnTokens {z s : State} (hk : Kept z s) (n : Nat) (rank : Nat) (x0 : Nat) : Kept z (State.returnTokens n
    rank x0 s) := by fun_induction State.returnTokens <;> grind -ring -linarith -lia [Kept.returnToken, Kept.each,
    Kept.foldl, Kept.mk]
theorem Kept.routeDone {z s : State} (hk : Kept z s) (n : Nat) : Kept z (State.routeDone s n) := by
    grind -ring -linarith -lia [State.routeDone, Kept.sendDones, Kept.updGroup, Kept.each, Kept.foldl, Kept.mk]
theorem Kept.takeInto {z s : State} (hk : Kept z s) (n : Nat) (g : Group) (o : CollOp) (rank : Nat) (tu : Tu) : ∀ z2, State.takeInto s n g o rank tu = .taken z2 → Kept z z2 := by
  unfold State.takeInto
  repeat' (first | assumption | split | with_reducible apply Kept.updOp | with_reducible apply Kept.finishSeg | with_reducible apply Kept.forward | with_reducible apply Kept.sendDones | with_reducible apply Kept.updGroup | with_reducible apply Kept.routeDone | with_reducible apply Kept.admitToken | with_reducible apply Kept.sendCopies | with_reducible apply Kept.each | with_reducible apply Kept.foldl | intro _)
  all_goals grind -ring -linarith -lia [Kept.updOp, Kept.finishSeg, Kept.forward, Kept.sendDones, Kept.updGroup, Kept.routeDone, Kept.admitToken, Kept.sendCopies, Kept.each, Kept.foldl, Kept.mk]
theorem Kept.collTake {z s : State} (hk : Kept z s) (key : Nat) (tu : Tu) : ∀ z2, State.collTake s key tu = .taken z2 → Kept z z2 := by
  intro z2 e
  unfold State.collTake at e
  extract_lets n seq at e
  repeat' (first | split at e | extract_lets at e)
  all_goals first
    | exact CollTake.noConfusion e
    | exact hk.takeInto _ _ _ _ _ _ e
theorem Kept.copyMemory {z s : State} (hk : Kept z s) (n : Nat) (g : Group) (o : CollOp) (x0 : List Nat) : Kept z
    (State.copyMemory n g o x0 s) := by fun_induction State.copyMemory <;> grind -ring -linarith -lia [Kept.readRange,
    Kept.collMemFail, Kept.forward, Kept.updOp, Kept.each, Kept.foldl, Kept.mk]
theorem Kept.startOp {z s : State} (hk : Kept z s) (n : Nat) : Kept z (State.startOp s n) := by
  unfold State.startOp
  (repeat' split) <;> grind -ring -linarith -lia [Kept.updGroup, Kept.updRun, Kept.collFail, Kept.copyMemory, Kept.sendDones, Kept.each, Kept.foldl, Kept.mk]

/-! ### Machine/StreamRun.lean -/

theorem Kept.memRead {z s : State} (hk : Kept z s) (t : Nat) (tu : Tu) : Kept z (State.memRead s t tu).2.2 := by
    grind -ring -linarith -lia [State.memRead, Kept.resolve, Kept.remoteAccess, Kept.each, Kept.foldl, Kept.mk]
theorem Kept.dataDone {z s : State} (hk : Kept z s) (key : Nat) (n : Nat) (m : Option (Nat × Nat)) : Kept z (State.dataDone s key n m) := by
  unfold State.dataDone
  (repeat' split) <;> grind -ring -linarith -lia [Kept.holdFor, Kept.returnData, Kept.each, Kept.foldl, Kept.mk]
theorem Kept.mirrorIf {z s : State} (hk : Kept z s) (t : Nat) (kind : Nat) (aux : Nat) (addr : Nat) (data : List Byte) :
    Kept z (State.mirrorIf s t kind aux addr data).1 := by grind -ring -linarith -lia [State.mirrorIf, Kept.mirror,
    Kept.each, Kept.foldl, Kept.mk]
theorem Kept.mirrorCounts {z s : State} (hk : Kept z s) (key : Nat) : Kept z (State.mirrorCounts s key).1 := by
    grind -ring -linarith -lia [State.mirrorCounts, Kept.mirrorIf, Kept.each, Kept.foldl, Kept.mk]
theorem Kept.ringPut {z s : State} (hk : Kept z s) (key : Nat) (st : Stream) (tu : Tu) : Kept z (State.ringPut s key st tu) := by
  unfold State.ringPut
  have hp := Kept.freshBytes hk 24
  generalize State.freshBytes 24 s = w at hp
  obtain ⟨pad, s1⟩ := w
  dsimp only
  split
  · next heq => exact (Kept.writeFabric_state hp heq).faultStream ..
  · next heq => exact ((Kept.writeFabric_ok hp heq).mirrorIf ..).updStream ..
theorem Kept.popTu {z s : State} (hk : Kept z s) (key : Nat) : Kept z (State.popTu s key) := by grind -ring -linarith -lia
    [State.popTu, Kept.updStream, Kept.each, Kept.foldl, Kept.mk]
theorem Kept.dataTu {z s : State} (hk : Kept z s) (key : Nat) (st : Stream) (tu : Tu) : ∀ z2, State.dataTu s key st tu = some z2 → Kept z z2 := by
  intro z2 e
  unfold State.dataTu at e
  split at e
  · split at e
    · cases e; exact ((hk.popTu ..).jobTake ..).returnData ..
    · cases e
  · dsimp only at e
    split at e
    · cases e
    · cases e; exact (hk.popTu ..).ringPut ..
theorem Kept.pumpRead {z s : State} (hk : Kept z s) (key : Nat) (t : Nat) (tu : Tu) : Kept z (State.pumpRead s key t tu) := by
  exact Kept.reqDone (Kept.mirrorCounts (Kept.sendTu (hk.memRead ..) ..) ..) ..
theorem Kept.writeFailed {z s : State} (hk : Kept z s) (key : Nat) (status : Nat) (addr : Nat) (m : Option (Nat × Nat)) :
    Kept z (State.writeFailed s key status addr m) := by grind -ring -linarith -lia [State.writeFailed, Kept.sendTu,
    Kept.reqDone, Kept.each, Kept.foldl, Kept.mk]
theorem Kept.pumpWrite {z s : State} (hk : Kept z s) (key : Nat) (t : Nat) (tu : Tu) (m : Option (Nat × Nat)) : Kept z (State.pumpWrite s key t tu m) := by
  unfold State.pumpWrite
  have h := Kept.resolve hk t tu.addr tu.data.length true
  generalize s.resolve t tu.addr tu.data.length true = w at h
  obtain ⟨r, s1⟩ := w
  dsimp only at h ⊢
  cases r with
  | bad st => exact h.writeFailed ..
  | noCopy => exact h.writeFailed ..
  | remote node addr =>
    dsimp only
    have h2 := Kept.remoteAccess h t node addr tu 0
    generalize s1.remoteAccess t node addr tu 0 = w at h2
    obtain ⟨_ | _, s2⟩ := w
    · exact Kept.writeFailed h2 ..
    · exact Kept.reqDone h2 ..
  | at_ mt key e =>
    refine Kept.ite (h.reqDone ..) (Kept.ite (h.updPool ..) ?_)
    have h2 := fun a b c => Kept.store h a b c
    split
    · next heq => exact Kept.reqDone (h2 _ _ _ _ heq) ..
    · exact h.writeFailed ..
theorem Kept.pumpColl {z s : State} (hk : Kept z s) (key : Nat) (t : Nat) (tu : Tu) : ∀ z2, State.pumpColl s key t tu = some z2 → Kept z z2 := by
  intro z2 e
  unfold State.pumpColl at e
  split at e
  · cases e
  · cases e; exact ((hk.popTu ..).bump ..).returnData ..
  · cases e; exact ((hk.popTu ..).collFail ..).returnData ..
  · split at e
    · next heq => cases e; exact Kept.dataDone (Kept.mirrorIf (Kept.collTake (hk.popTu ..) _ _ _ heq) ..) ..
    · cases e
theorem Kept.pumpOne {z s : State} (hk : Kept z s) (key : Nat) : ∀ z2, State.pumpOne s key = some z2 → Kept z z2 := by
  intro z2 e
  unfold State.pumpOne at e
  split at e
  · cases e
  · split at e
    · cases e
    · extract_lets t m at e
      split at e
      · cases e
      · split at e
        · exact hk.dataTu _ _ _ _ e
        · split at e
          · cases e
          · rw [← Option.some.inj e]; exact (hk.popTu ..).pumpRead ..
        · split at e
          · cases e
          · rw [← Option.some.inj e]; exact Kept.pumpWrite ((hk.popTu ..).mirrorIf ..) ..
        · exact hk.pumpColl _ _ _ _ e
theorem Kept.pumpStreamN {z s : State} (hk : Kept z s) (key : Nat) (x0 : Nat) : Kept z (State.pumpStreamN key x0 s) := by
    fun_induction State.pumpStreamN <;> grind -ring -linarith -lia [Kept.pumpOne, Kept.each, Kept.foldl, Kept.mk]
theorem Kept.pumpStream {z s : State} (hk : Kept z s) (key : Nat) : Kept z (State.pumpStream s key) := by
    grind -ring -linarith -lia [State.pumpStream, Kept.pumpStreamN, Kept.mirrorCounts, Kept.requestWake, Kept.each,
    Kept.foldl, Kept.mk]
theorem Kept.pumpMembers {z s : State} (hk : Kept z s) (n : Nat) : Kept z (State.pumpMembers s n) := by
    grind -ring -linarith -lia [State.pumpMembers, Kept.each, Kept.pumpStream, Kept.each, Kept.foldl, Kept.mk]
theorem Kept.collRoom {z s : State} (hk : Kept z s) (key : Nat) : Kept z (State.collRoom s key) := by
    grind -ring -linarith -lia [State.collRoom, Kept.each, Kept.openMore, Kept.pumpMembers, Kept.each, Kept.foldl, Kept.mk]
theorem Kept.pumpStreams {z s : State} (hk : Kept z s)  : Kept z (State.pumpStreams s) := by grind -ring -linarith -lia
    [State.pumpStreams, Kept.each, Kept.pumpStream, Kept.each, Kept.foldl, Kept.mk]
theorem Kept.staleTu {z s : State} (hk : Kept z s) (h : Nat) : Kept z (State.staleTu s h) := by grind -ring -linarith -lia
    [State.staleTu, Kept.bump, Kept.each, Kept.foldl, Kept.mk]
theorem Kept.badTu {z s : State} (hk : Kept z s) (h : Nat) : Kept z (State.badTu s h) := by grind -ring -linarith -lia
    [State.badTu, Kept.bump, Kept.each, Kept.foldl, Kept.mk]
theorem Kept.noticeTu {z s : State} (hk : Kept z s) (key : Nat) : Kept z (State.noticeTu s key) := by
    grind -ring -linarith -lia [State.noticeTu, Kept.enqueue, Kept.bump, Kept.each, Kept.foldl, Kept.mk]
theorem Kept.tuStream {z s : State} (hk : Kept z s) (p : Nat) (tu : Tu) : ∀ z2, State.tuStream s p tu = .error z2 → Kept z
    z2 := by grind -ring -linarith -lia [State.tuStream, Kept.staleTu, Kept.noticeTu, Kept.bump, Kept.each, Kept.foldl,
    Kept.mk]
theorem Kept.acceptTu {z s : State} (hk : Kept z s) (p : Nat) (tu : Tu) : Kept z (State.acceptTu s p tu) := by
  unfold State.acceptTu
  dsimp only
  (repeat' split) <;> grind -ring -linarith -lia [Kept.tuStream, Kept.bump, Kept.faultStream, Kept.streamGone, Kept.updStream, Kept.pumpStream, Kept.each, Kept.foldl, Kept.mk]
theorem Kept.takeTu {z s : State} (hk : Kept z s) (p : Nat) (vc : Nat) (bytes : List Byte) (f : State → Tu → State) (hf : ∀
    y0 y1, Kept z y0 → Kept z (f y0 y1)) : Kept z (State.takeTu s p vc bytes f) := by grind -ring -linarith -lia
    [State.takeTu, Kept.popRx, Kept.each, Kept.foldl, Kept.mk]
theorem Kept.applyEcc {z s : State} (hk : Kept z s) (key : Nat) (n : Nat) (x0 : Ecc) : Kept z (State.applyEcc s key n x0) := by
  induction x0 generalizing s <;> grind -ring -linarith -lia [State.applyEcc, Kept.correctedLine, Kept.poisonLine, Kept.each, Kept.foldl, Kept.mk]
theorem Kept.eccAt {z s : State} (hk : Kept z s) (a : Nat) (n : Nat) (ecc : Ecc) : Kept z (State.eccAt s a n ecc) := by
    grind -ring -linarith -lia [State.eccAt, Kept.applyEcc, Kept.each, Kept.foldl, Kept.mk]
theorem Kept.closeStream {z s : State} (hk : Kept z s) (key : Nat) (reason : Nat) : Kept z (State.closeStream s key reason) := by
  unfold State.closeStream
  repeat' (first | assumption | split | with_reducible apply Kept.sendNotice | with_reducible apply Kept.dropUnsent | with_reducible apply Kept.dropUndelivered | with_reducible apply Kept.freeSlot | with_reducible apply Kept.streamGone | with_reducible apply Kept.each | with_reducible apply Kept.finish | with_reducible apply Kept.each | with_reducible apply Kept.foldl | with_reducible apply Kept.mk | intro _)
  all_goals grind -ring -linarith -lia [Kept.sendNotice, Kept.dropUnsent, Kept.dropUndelivered, Kept.freeSlot, Kept.streamGone, Kept.each, Kept.finish, Kept.each, Kept.foldl, Kept.mk]

/-! ### Machine/Streams.lean -/

theorem Kept.pickFree {z s : State} (hk : Kept z s) (n : Nat) (taken : Nat → Bool) : Kept z (State.pickFree s n taken).2 :=
    by grind -ring -linarith -lia [State.pickFree, Kept.fresh, Kept.each, Kept.foldl, Kept.mk]
theorem Kept.reclaim {z s : State} (hk : Kept z s) (key : Nat) : Kept z (State.reclaim s key) := by
    grind -ring -linarith -lia [State.reclaim, Kept.closeStream, Kept.note, Kept.bump, Kept.each, Kept.foldl, Kept.mk]
theorem Kept.streamOpenDef {z : State} : ∀ s p o id, Kept z s → (Machine.streamOpenDef.act s p o id).kept z := by
  intro s p o id hk
  dsimp only [Machine.streamOpenDef]
  grind -ring -linarith -lia [Effect.kept, Kept.reclaim, Kept.bump, Kept.pickFree, Kept.note, Kept.each, Kept.foldl, Kept.mk]
theorem Kept.execStreamOpen {z s : State} (hk : Kept z s) (p : Packet) : ∀ z2, Machine.execStreamOpen p s = .next z2 → Kept
    z z2 := fun _ e => by cases e; exact Kept.runCmd hk _ p Kept.streamOpenDef
theorem Kept.streamCloseDef {z : State} : ∀ s p o id, Kept z s → (Machine.streamCloseDef.act s p o id).kept z := by
  intro s p o id hk
  dsimp only [Machine.streamCloseDef]
  grind -ring -linarith -lia [Effect.kept, Kept.closeStream, Kept.pumpStreams, Kept.updStream, Kept.each, Kept.foldl, Kept.mk]
theorem Kept.execStreamClose {z s : State} (hk : Kept z s) (p : Packet) : ∀ z2, Machine.execStreamClose p s = .next z2 →
    Kept z z2 := fun _ e => by cases e; exact Kept.runCmd hk _ p Kept.streamCloseDef
theorem Kept.streamQueryDef {z : State} : ∀ s p o id, Kept z s → (Machine.streamQueryDef.act s p o id).kept z := by
  intro s p o id hk
  dsimp only [Machine.streamQueryDef]
  grind -ring -linarith -lia [Effect.kept, Kept.each, Kept.foldl, Kept.mk]
theorem Kept.execStreamQuery {z s : State} (hk : Kept z s) (p : Packet) : ∀ z2, Machine.execStreamQuery p s = .next z2 →
    Kept z z2 := fun _ e => by cases e; exact Kept.runCmd hk _ p Kept.streamQueryDef
theorem Kept.reserveReleaseDef {z : State} : ∀ s p o id, Kept z s → (Machine.reserveReleaseDef.act s p o id).kept z := by
  intro s p o id hk
  dsimp only [Machine.reserveReleaseDef]
  grind -ring -linarith -lia [Effect.kept, Kept.setB, Kept.omeStart, Kept.rewriteDist, Kept.each, Kept.foldl, Kept.mk]
theorem Kept.execStreamReserveRelease {z s : State} (hk : Kept z s) (p : Packet) : ∀ z2, Machine.execStreamReserveRelease p
    s = .next z2 → Kept z z2 := fun _ e => by cases e; exact Kept.runCmd hk _ p Kept.reserveReleaseDef
theorem Kept.reserveReturnDef {z : State} : ∀ s p o id, Kept z s → (Machine.reserveReturnDef.act s p o id).kept z := by
  intro s p o id hk
  dsimp only [Machine.reserveReturnDef]
  grind -ring -linarith -lia [Effect.kept, Kept.setFs, Kept.omeStop, Kept.rewriteDist, Kept.adoptFree, Kept.each, Kept.foldl, Kept.mk]
theorem Kept.execStreamReserveReturn {z s : State} (hk : Kept z s) (p : Packet) : ∀ z2, Machine.execStreamReserveReturn p s
    = .next z2 → Kept z z2 := fun _ e => by cases e; exact Kept.runCmd hk _ p Kept.reserveReturnDef
theorem Kept.famMapDef {z : State} : ∀ s p o id, Kept z s → (Machine.famMapDef.act s p o id).kept z := by
  intro s p o id hk
  dsimp only [Machine.famMapDef]
  grind -ring -linarith -lia [Effect.kept, Kept.setFam, Kept.updPool, Kept.each, Kept.foldl, Kept.mk]
theorem Kept.execFamMap {z s : State} (hk : Kept z s) (p : Packet) : ∀ z2, Machine.execFamMap p s = .next z2 → Kept z z2 :=
    fun _ e => by cases e; exact Kept.runCmd hk _ p Kept.famMapDef
theorem Kept.famReadDef {z : State} : ∀ s p o id, Kept z s → (Machine.famReadDef.act s p o id).kept z := by
  intro s p o id hk
  dsimp only [Machine.famReadDef]
  grind -ring -linarith -lia [Effect.kept, Kept.each, Kept.foldl, Kept.mk]
theorem Kept.execFamRead {z s : State} (hk : Kept z s) (p : Packet) : ∀ z2, Machine.execFamRead p s = .next z2 → Kept z z2
    := fun _ e => by cases e; exact Kept.runCmd hk _ p Kept.famReadDef
theorem Kept.takeMisplaced {z s : State} (hk : Kept z s) (p : Nat) (bytes : List Byte) (vc : Nat) : Kept z
    (State.takeMisplaced s p bytes vc) := by grind -ring -linarith -lia [State.takeMisplaced, Kept.takeTu, Kept.badTu,
    Kept.each, Kept.foldl, Kept.mk]
theorem Kept.execStreamData {z s : State} (hk : Kept z s) (v : Via) (bytes : List Byte) : ∀ z2, Machine.execStreamData v
    bytes s = .next z2 → Kept z z2 := by grind -ring -linarith -lia [Machine.execStreamData, Kept.takeTu, Kept.acceptTu,
    Kept.each, Kept.takeMisplaced, Kept.each, Kept.foldl, Kept.mk]
theorem Kept.execMemRead {z s : State} (hk : Kept z s) (v : Via) (bytes : List Byte) (ecc : Ecc) : ∀ z2, Machine.execMemRead
    v bytes ecc s = .next z2 → Kept z z2 := by grind -ring -linarith -lia [Machine.execMemRead, Kept.takeTu, Kept.eccAt,
    Kept.acceptTu, Kept.each, Kept.foldl, Kept.mk]
theorem Kept.execMemWrite {z s : State} (hk : Kept z s) (v : Via) (bytes : List Byte) : ∀ z2, Machine.execMemWrite v bytes s
    = .next z2 → Kept z z2 := by grind -ring -linarith -lia [Machine.execMemWrite, Kept.takeTu, Kept.acceptTu, Kept.each,
    Kept.foldl, Kept.mk]
theorem Kept.takeCredit {z s : State} (hk : Kept z s) (v : Nat) (tu : Tu) : Kept z (State.takeCredit s v tu) := by
    grind -ring -linarith -lia [State.takeCredit, Kept.tuStream, Kept.updStream, Kept.pump, Kept.collRoom,
    Kept.mirrorCounts, Kept.each, Kept.foldl, Kept.mk]
theorem Kept.execCredit {z s : State} (hk : Kept z s) (v : Via) (bytes : List Byte) : ∀ z2, Machine.execCredit v bytes s =
    .next z2 → Kept z z2 := by grind -ring -linarith -lia [Machine.execCredit, Kept.takeTu, Kept.takeCredit, Kept.each,
    Kept.foldl, Kept.mk]
theorem Kept.execCreditReportDue {z s : State} (hk : Kept z s) (h : BitVec 32) : ∀ z2, Machine.execCreditReportDue h s = .next z2 → Kept z z2 := by
  unfold Machine.execCreditReportDue
  (repeat' split) <;> grind -ring -linarith -lia [Kept.sendCredit, Kept.each, Kept.foldl, Kept.mk]
theorem Kept.execStreamReturnHold {z s : State} (hk : Kept z s) (h : BitVec 32) : ∀ z2, Machine.execStreamReturnHold h s =
    .next z2 → Kept z z2 := by grind -ring -linarith -lia [Machine.execStreamReturnHold, Kept.updStream, Kept.returnPrimary,
    Kept.each, Kept.foldl, Kept.mk]
theorem Kept.execStreamSuspendTimeout {z s : State} (hk : Kept z s) (h : BitVec 32) : ∀ z2, Machine.execStreamSuspendTimeout
    h s = .next z2 → Kept z z2 := by grind -ring -linarith -lia [Machine.execStreamSuspendTimeout, Kept.closeStream,
    Kept.note, Kept.pumpStreams, Kept.freeSlot, Kept.streamGone, Kept.each, Kept.foldl, Kept.mk]
theorem Kept.execStreamCloseDrained {z s : State} (hk : Kept z s) (h : BitVec 32) : ∀ z2, Machine.execStreamCloseDrained h s
    = .next z2 → Kept z z2 := by grind -ring -linarith -lia [Machine.execStreamCloseDrained, Kept.closeStream,
    Kept.pumpStreams, Kept.each, Kept.foldl, Kept.mk]
theorem Kept.execCloseNoticeDeliver {z s : State} (hk : Kept z s) (v : Via) : ∀ z2, Machine.execCloseNoticeDeliver v s =
    .next z2 → Kept z z2 := by grind -ring -linarith -lia [Machine.execCloseNoticeDeliver, Kept.flushNotices, Kept.each,
    Kept.foldl, Kept.mk]

/-! ### Machine/Pool.lean -/

theorem Kept.mapRegion {z s : State} (hk : Kept z s) (n : Nat) (frames : List (Nat × Nat)) (run : Option Nat) : Kept z
    (State.mapRegion s n frames run) := by grind -ring -linarith -lia [State.mapRegion, Kept.each, Kept.setFam,
    Kept.updPool, Kept.each, Kept.foldl, Kept.mk]
theorem Kept.startMigs {z s : State} (hk : Kept z s)  : Kept z (State.startMigs s) := by grind -ring -linarith -lia
    [State.startMigs, Kept.each, Kept.updPool, Kept.each, Kept.foldl, Kept.mk]
theorem Kept.endMig {z s : State} (hk : Kept z s) (m : Migration) : Kept z (State.endMig s m) := by
    grind -ring -linarith -lia [State.endMig, Kept.updPool, Kept.finish, Kept.each, Kept.foldl, Kept.mk]
theorem Kept.invalDone {z s : State} (hk : Kept z s) (i : Inval) : Kept z (State.invalDone s i) := by
  unfold State.invalDone
  repeat' (first | assumption | split | with_reducible apply Kept.finish | with_reducible apply Kept.updPool | with_reducible apply Kept.each | with_reducible apply Kept.releaseFrame | with_reducible apply Kept.releaseHeld | with_reducible apply Kept.endMig | with_reducible apply Kept.startMigs | with_reducible apply Kept.pumpStreams | with_reducible apply Kept.each | with_reducible apply Kept.foldl | with_reducible apply Kept.mk | intro _)
  all_goals grind -ring -linarith -lia [Kept.finish, Kept.updPool, Kept.each, Kept.releaseFrame, Kept.releaseHeld, Kept.endMig, Kept.startMigs, Kept.pumpStreams, Kept.each, Kept.foldl, Kept.mk]
theorem Kept.execFamInvalidateDone {z s : State} (hk : Kept z s)  : ∀ z2, Machine.execFamInvalidateDone s = .next z2 → Kept
    z z2 := by grind -ring -linarith -lia [Machine.execFamInvalidateDone, Kept.updPool, Kept.dropRange, Kept.each,
    Kept.clearCache, Kept.invalDone, Kept.each, Kept.foldl, Kept.mk]
theorem Kept.execFamCacheMissFill {z s : State} (hk : Kept z s) (t : Tile) (index : BitVec 21) : ∀ z2,
    Machine.execFamCacheMissFill t index s = .next z2 → Kept z z2 := by grind -ring -linarith -lia
    [Machine.execFamCacheMissFill, Kept.lookup, Kept.each, Kept.foldl, Kept.mk]
theorem Kept.execFamCopyLost {z s : State} (hk : Kept z s) (c : Fin 2) : ∀ z2, Machine.execFamCopyLost c s = .next z2 → Kept
    z z2 := by grind -ring -linarith -lia [Machine.execFamCopyLost, Kept.setCopies, Kept.each, Kept.foldl, Kept.mk]
theorem Kept.execFamCopyRebuilt {z s : State} (hk : Kept z s) (c : Fin 2) : ∀ z2, Machine.execFamCopyRebuilt c s = .next z2
    → Kept z z2 := by grind -ring -linarith -lia [Machine.execFamCopyRebuilt, Kept.setCopies, Kept.each, Kept.foldl,
    Kept.mk]
theorem Kept.memAllocDef {z : State} : ∀ s p o id, Kept z s → (Machine.memAllocDef.act s p o id).kept z := by
  intro s p o id hk
  dsimp only [Machine.memAllocDef]
  grind -ring -linarith -lia [Effect.kept, Kept.pickFree, Kept.updPool, Kept.mapRegion, Kept.each, Kept.foldl, Kept.mk]
theorem Kept.execMemAlloc {z s : State} (hk : Kept z s) (p : Packet) : ∀ z2, Machine.execMemAlloc p s = .next z2 → Kept z z2
    := fun _ e => by cases e; exact Kept.runCmd hk _ p Kept.memAllocDef
theorem Kept.zeroFrame {z s : State} (hk : Kept z s) (k : Nat) : Kept z (State.zeroFrame s k) := by
  unfold State.zeroFrame
  exact Kept.foldl (hk.setDram _ fun hm => Memory.wf_clear hm ..) _ _ fun s x hs => hs.clearPoison x
theorem Kept.execFrameZeroed {z s : State} (hk : Kept z s) (slot : BitVec 16) : ∀ z2, Machine.execFrameZeroed slot s = .next
    z2 → Kept z z2 := by grind -ring -linarith -lia [Machine.execFrameZeroed, Kept.updPool, Kept.zeroFrame, Kept.mapRegion,
    Kept.each, Kept.foldl, Kept.mk]
theorem Kept.memFreeDef {z : State} : ∀ s p o id, Kept z s → (Machine.memFreeDef.act s p o id).kept z := by
  intro s p o id hk
  dsimp only [Machine.memFreeDef]
  grind -ring -linarith -lia [Effect.kept, Kept.each, Kept.setFam, Kept.updPool, Kept.each, Kept.foldl, Kept.mk]
theorem Kept.execMemFree {z s : State} (hk : Kept z s) (p : Packet) : ∀ z2, Machine.execMemFree p s = .next z2 → Kept z z2
    := fun _ e => by cases e; exact Kept.runCmd hk _ p Kept.memFreeDef
theorem Kept.memAttrDef {z : State} : ∀ s p o id, Kept z s → (Machine.memAttrDef.act s p o id).kept z := by
  intro s p o id hk
  dsimp only [Machine.memAttrDef]
  grind -ring -linarith -lia [Effect.kept, Kept.each, Kept.setFam, Kept.updPool, Kept.each, Kept.foldl, Kept.mk]
theorem Kept.execMemAttr {z s : State} (hk : Kept z s) (p : Packet) : ∀ z2, Machine.execMemAttr p s = .next z2 → Kept z z2
    := fun _ e => by cases e; exact Kept.runCmd hk _ p Kept.memAttrDef
theorem Kept.memQueryDef {z : State} : ∀ s p o id, Kept z s → (Machine.memQueryDef.act s p o id).kept z := by
  intro s p o id hk
  dsimp only [Machine.memQueryDef]
  grind -ring -linarith -lia [Effect.kept, Kept.each, Kept.foldl, Kept.mk]
theorem Kept.execMemQuery {z s : State} (hk : Kept z s) (p : Packet) : ∀ z2, Machine.execMemQuery p s = .next z2 → Kept z z2
    := fun _ e => by cases e; exact Kept.runCmd hk _ p Kept.memQueryDef
theorem Kept.memPoolStatDef {z : State} : ∀ s p o id, Kept z s → (Machine.memPoolStatDef.act s p o id).kept z := by
  intro s p o id hk
  dsimp only [Machine.memPoolStatDef]
  grind -ring -linarith -lia [Effect.kept, Kept.each, Kept.foldl, Kept.mk]
theorem Kept.execMemPoolStat {z s : State} (hk : Kept z s) (p : Packet) : ∀ z2, Machine.execMemPoolStat p s = .next z2 →
    Kept z z2 := fun _ e => by cases e; exact Kept.runCmd hk _ p Kept.memPoolStatDef
theorem Kept.memMigrateDef {z : State} : ∀ s p o id, Kept z s → (Machine.memMigrateDef.act s p o id).kept z := by
  intro s p o id hk
  dsimp only [Machine.memMigrateDef]
  grind -ring -linarith -lia [Effect.kept, Kept.updPool, Kept.startMigs, Kept.each, Kept.foldl, Kept.mk]
theorem Kept.execMemMigrate {z s : State} (hk : Kept z s) (p : Packet) : ∀ z2, Machine.execMemMigrate p s = .next z2 → Kept
    z z2 := fun _ e => by cases e; exact Kept.runCmd hk _ p Kept.memMigrateDef
theorem Kept.copyMem {z s : State} (hk : Kept z s) (src : Nat) (dst : Nat) (n : Nat) : Kept z (State.copyMem s src dst n) := by
  unfold State.copyMem
  dsimp only
  exact Kept.setF (Kept.updPool (Kept.foldl (hk.setDram _ fun hm => Memory.wf_sets (Memory.wf_clear hm ..) ..) _ _ fun s x hs => hs.clearPoison x) ..) ..
theorem Kept.execMigratePass1Done {z s : State} (hk : Kept z s) (t : Tile) : ∀ z2, Machine.execMigratePass1Done t s = .next
    z2 → Kept z z2 := by grind -ring -linarith -lia [Machine.execMigratePass1Done, Kept.copyMem, Kept.setFam, Kept.updPool,
    Kept.each, Kept.foldl, Kept.mk]
theorem Kept.execMigrateFrameSwitch {z s : State} (hk : Kept z s) (t : Tile) : ∀ z2, Machine.execMigrateFrameSwitch t s = .next z2 → Kept z z2 := by
  unfold Machine.execMigrateFrameSwitch
  (repeat' split) <;> grind -ring -linarith -lia [Kept.each, Kept.copyMem, Kept.setFam, Kept.updPool, Kept.each, Kept.foldl, Kept.mk]
theorem Kept.execPatrolScrubStep {z s : State} (hk : Kept z s) (t : Tile) (ecc : Ecc) : ∀ z2, Machine.execPatrolScrubStep t
    ecc s = .next z2 → Kept z z2 := by grind -ring -linarith -lia [Machine.execPatrolScrubStep, Kept.applyEcc, Kept.setF,
    Kept.updPool, Kept.each, Kept.foldl, Kept.mk]
theorem Kept.execMemoryUnavailable {z s : State} (hk : Kept z s) (t : Tile) : ∀ z2, Machine.execMemoryUnavailable t s =
    .next z2 → Kept z z2 := by grind -ring -linarith -lia [Machine.execMemoryUnavailable, Kept.memUnavailable,
    Kept.rewriteDist, Kept.pumpStreams, Kept.each, Kept.foldl, Kept.mk]
theorem Kept.execMemoryReturn {z s : State} (hk : Kept z s) (t : Tile) : ∀ z2, Machine.execMemoryReturn t s = .next z2 →
    Kept z z2 := by grind -ring -linarith -lia [Machine.execMemoryReturn, Kept.memReturn, Kept.rewriteDist,
    Kept.pumpStreams, Kept.each, Kept.foldl, Kept.mk]

/-! ### Machine/Engine.lean -/

theorem Kept.applySub {z s : State} (hk : Kept z s) (t : Nat) (c : SubChange) : Kept z (State.applySub s t c) := by
    grind -ring -linarith -lia [State.applySub, Kept.setFs, Kept.each, Kept.foldl, Kept.mk]
theorem Kept.passBoundary {z s : State} (hk : Kept z s) (t : Nat) : Kept z (State.passBoundary s t) := by
    grind -ring -linarith -lia [State.passBoundary, Kept.each, Kept.applySub, Kept.updOme, Kept.setFs, Kept.bump, Kept.setF,
    Kept.each, Kept.foldl, Kept.mk]
theorem Kept.execOmePassStart {z s : State} (hk : Kept z s) (t : Tile) : ∀ z2, Machine.execOmePassStart t s = .next z2 → Kept z z2 := by
  unfold Machine.execOmePassStart
  dsimp only
  (repeat' split) <;> grind -ring -linarith -lia [Kept.updOme, Kept.beginUnit, Kept.setFs, Kept.each, Kept.foldl, Kept.mk]
theorem Kept.execOmeBankReloadDone {z s : State} (hk : Kept z s) (t : Tile) (bank : Fin 2) : ∀ z2,
    Machine.execOmeBankReloadDone t bank s = .next z2 → Kept z z2 := by grind -ring -linarith -lia
    [Machine.execOmeBankReloadDone, Kept.updOme, Kept.each, Kept.foldl, Kept.mk]
theorem Kept.afterPass {z s : State} (hk : Kept z s) (t : Nat) : Kept z (State.afterPass s t) := by
    grind -ring -linarith -lia [State.afterPass, Kept.setF, Kept.passBoundary, Kept.each, Kept.foldl, Kept.mk]
theorem Kept.notePilot {z s : State} (hk : Kept z s) (t : Nat) (pilot : Nat) (row : Nat) (bank : Nat) : Kept z
    (State.notePilot s t pilot row bank) := by grind -ring -linarith -lia [State.notePilot, Kept.setFs, Kept.each,
    Kept.foldl, Kept.mk]
theorem Kept.badJob {z s : State} (hk : Kept z s) (t : Nat) (id : Nat) : Kept z (State.badJob s t id) := by
  unfold State.badJob
  (repeat' split) <;> grind -ring -linarith -lia [Kept.bump, Kept.raise, Kept.endJob, Kept.updShare, Kept.updJob, Kept.updOme, Kept.each, Kept.foldl, Kept.mk]
theorem Kept.badColl {z s : State} (hk : Kept z s) (t : Nat) (n : Nat) (sg : Nat) : Kept z (State.badColl s t n sg) := by
    grind -ring -linarith -lia [State.badColl, Kept.updOp, Kept.updOme, Kept.each, Kept.foldl, Kept.mk]
theorem Kept.badPass {z s : State} (hk : Kept z s) (t : Nat) (w : PassWork) (reacq : Bool) : Kept z (State.badPass s t w reacq) := by
  unfold State.badPass
  extract_lets s1 s2 s3
  have h1 : Kept z s1 := (hk.bump ..).updOme ..
  have h2 : Kept z s2 := Kept.ite ((h1.setFs ..).bump ..) h1
  have h3 : Kept z s3 := by
    simp only [s3]
    split
    · exact h2.badJob ..
    · exact Kept.ite (h2.badColl ..) h2
  exact h3.afterPass ..
theorem Kept.collPassDone {z s : State} (hk : Kept z s) (t : Nat) (n : Nat) (sg : Nat) : Kept z (State.collPassDone s t n
    sg) := by grind -ring -linarith -lia [State.collPassDone, Kept.bump, Kept.updOp, Kept.updOme, Kept.each, Kept.foldl,
    Kept.mk]
theorem Kept.countPass {z s : State} (hk : Kept z s) (t : Nat) (w : PassWork) : Kept z (State.countPass s t w) := by
    grind -ring -linarith -lia [State.countPass, Kept.bump, Kept.setPair, Kept.updJob, Kept.collFlag, Kept.each, Kept.foldl,
    Kept.mk]
theorem Kept.execOmePassEnd {z s : State} (hk : Kept z s) (t : Tile) (pilot : BitVec 16) (row : BitVec 7) (bank : Fin 2) (readings : List (BitVec 12)) : ∀ z2, Machine.execOmePassEnd t pilot row bank readings s = .next z2 → Kept z z2 := by
  unfold Machine.execOmePassEnd
  dsimp only
  (repeat' split) <;> grind -ring -linarith -lia [Kept.notePilot, Kept.countPass, Kept.badPass, Kept.updOme, Kept.jobPass, Kept.collPassDone, Kept.afterPass, Kept.each, Kept.foldl, Kept.mk]
theorem Kept.execPilotLimitExceeded {z s : State} (hk : Kept z s) (t : Tile) (pilot : BitVec 16) (row : BitVec 7) (bank :
    Fin 2) : ∀ z2, Machine.execPilotLimitExceeded t pilot row bank s = .next z2 → Kept z z2 := by grind -ring -linarith -lia
    [Machine.execPilotLimitExceeded, Kept.notePilot, Kept.countPass, Kept.badPass, Kept.each, Kept.foldl, Kept.mk]
theorem Kept.execPilotAcquired {z s : State} (hk : Kept z s) (t : Tile) : ∀ z2, Machine.execPilotAcquired t s = .next z2 →
    Kept z z2 := by grind -ring -linarith -lia [Machine.execPilotAcquired, Kept.setFs, Kept.passBoundary, Kept.setF,
    Kept.each, Kept.foldl, Kept.mk]
theorem Kept.execReacqTimeout {z s : State} (hk : Kept z s) (t : Tile) : ∀ z2, Machine.execReacqTimeout t s = .next z2 →
    Kept z z2 := by grind -ring -linarith -lia [Machine.execReacqTimeout, Kept.setFs, Kept.passBoundary, Kept.each,
    Kept.foldl, Kept.mk]
theorem Kept.execOmeSubstituteChange {z s : State} (hk : Kept z s) (t : Tile) : ∀ z2, Machine.execOmeSubstituteChange t s =
    .next z2 → Kept z z2 := by grind -ring -linarith -lia [Machine.execOmeSubstituteChange, Kept.passBoundary, Kept.each,
    Kept.foldl, Kept.mk]
theorem Kept.failOme {z s : State} (hk : Kept z s) (t : Nat) : Kept z (State.failOme s t) := by grind -ring -linarith -lia
    [State.failOme, Kept.omeStop, Kept.moveDuties, Kept.note, Kept.assertTile, Kept.each, Kept.foldl, Kept.mk]
theorem Kept.execOmeFail {z s : State} (hk : Kept z s) (t : Tile) : ∀ z2, Machine.execOmeFail t s = .next z2 → Kept z z2 :=
    by grind -ring -linarith -lia [Machine.execOmeFail, Kept.failOme, Kept.pumpStreams, Kept.each, Kept.foldl, Kept.mk]
theorem Kept.disableOme {z s : State} (hk : Kept z s) (t : Nat) : Kept z (State.disableOme s t) := by
    grind -ring -linarith -lia [State.disableOme, Kept.omeStop, Kept.updOme, Kept.each, Kept.foldl, Kept.mk]

/-! ### Machine/Jobs.lean -/

theorem Kept.tier2For {z s : State} (hk : Kept z s) (id : Nat) (n : Nat) : Kept z (State.tier2For s id n).1 := by
  unfold State.tier2For
  cases ht : s.takeTier2 id n [] with
  | none => exact hk
  | some w => exact Kept.takeTier2 hk id _ _ w.2 w.1 ht
theorem Kept.putJob {z s : State} (hk : Kept z s) (j : Job) (sets : List (Nat × StageSet)) : Kept z (State.putJob s j sets)
    := Kept.mk hk ..
theorem Kept.submitJob {z s : State} (hk : Kept z s) (p : Packet) (o : Nat) (id : Nat) : Kept z (State.submitJob s p o id) := by
  unfold State.submitJob
  dsimp only
  exact Kept.pumpStreams (Kept.ite (((hk.tier2For ..).putJob ..).mirror ..) ((hk.tier2For ..).putJob ..))
theorem Kept.omeJobSubmitDef {z : State} : ∀ s p o id, Kept z s → (Machine.omeJobSubmitDef.act s p o id).kept z := by
  intro s p o id hk
  exact hk.submitJob ..
theorem Kept.execOmeJobSubmit {z s : State} (hk : Kept z s) (p : Packet) : ∀ z2, Machine.execOmeJobSubmit p s = .next z2 →
    Kept z z2 := fun _ e => by cases e; exact Kept.runCmd hk _ p Kept.omeJobSubmitDef
theorem Kept.omeJobQueryDef {z : State} : ∀ s p o id, Kept z s → (Machine.omeJobQueryDef.act s p o id).kept z := by
  intro s p o id hk
  dsimp only [Machine.omeJobQueryDef]
  grind -ring -linarith -lia [Effect.kept, Kept.each, Kept.foldl, Kept.mk]
theorem Kept.execOmeJobQuery {z s : State} (hk : Kept z s) (p : Packet) : ∀ z2, Machine.execOmeJobQuery p s = .next z2 →
    Kept z z2 := fun _ e => by cases e; exact Kept.runCmd hk _ p Kept.omeJobQueryDef
theorem Kept.omeJobCancelDef {z : State} : ∀ s p o id, Kept z s → (Machine.omeJobCancelDef.act s p o id).kept z := by
  intro s p o id hk
  dsimp only [Machine.omeJobCancelDef]
  grind -ring -linarith -lia [Effect.kept, Kept.endJob, Kept.pumpStreams, Kept.each, Kept.foldl, Kept.mk]
theorem Kept.execOmeJobCancel {z s : State} (hk : Kept z s) (p : Packet) : ∀ z2, Machine.execOmeJobCancel p s = .next z2 →
    Kept z z2 := fun _ e => by cases e; exact Kept.runCmd hk _ p Kept.omeJobCancelDef
theorem Kept.omeStageLoadDef {z : State} : ∀ s p o id, Kept z s → (Machine.omeStageLoadDef.act s p o id).kept z := by
  intro s p o id hk
  dsimp only [Machine.omeStageLoadDef]
  grind -ring -linarith -lia [Effect.kept, Kept.pickFree, Kept.each, Kept.foldl, Kept.mk]
theorem Kept.execOmeStageLoad {z s : State} (hk : Kept z s) (p : Packet) : ∀ z2, Machine.execOmeStageLoad p s = .next z2 →
    Kept z z2 := fun _ e => by cases e; exact Kept.runCmd hk _ p Kept.omeStageLoadDef
theorem Kept.omeStageReleaseDef {z : State} : ∀ s p o id, Kept z s → (Machine.omeStageReleaseDef.act s p o id).kept z := by
  intro s p o id hk
  dsimp only [Machine.omeStageReleaseDef]
  grind -ring -linarith -lia [Effect.kept, Kept.freeSet, Kept.each, Kept.foldl, Kept.mk]
theorem Kept.execOmeStageRelease {z s : State} (hk : Kept z s) (p : Packet) : ∀ z2, Machine.execOmeStageRelease p s = .next
    z2 → Kept z z2 := fun _ e => by cases e; exact Kept.runCmd hk _ p Kept.omeStageReleaseDef
theorem Kept.stageRecord {z s : State} (hk : Kept z s) (n : Nat) : Kept z (State.stageRecord s n).2 := by
    grind -ring -linarith -lia [State.stageRecord, Kept.fresh, Kept.each, Kept.foldl, Kept.mk]
theorem Kept.omeStageQueryDef {z : State} : ∀ s p o id, Kept z s → (Machine.omeStageQueryDef.act s p o id).kept z := by
  intro s p o id hk
  dsimp only [Machine.omeStageQueryDef]
  grind -ring -linarith -lia [Effect.kept, Kept.stageRecord, Kept.each, Kept.foldl, Kept.mk]
theorem Kept.execOmeStageQuery {z s : State} (hk : Kept z s) (p : Packet) : ∀ z2, Machine.execOmeStageQuery p s = .next z2 →
    Kept z z2 := fun _ e => by cases e; exact Kept.runCmd hk _ p Kept.omeStageQueryDef
theorem Kept.copyBlocks {z s : State} (hk : Kept z s) (t : Nat) (d : JobDesc) (x0 : List Nat) (x1 : List (Nat × List Byte))
    : Kept z (State.copyBlocks t d x0 x1 s).2 := by fun_induction State.copyBlocks <;> grind -ring -linarith -lia
    [Kept.readRange, Kept.each, Kept.foldl, Kept.mk]
theorem Kept.execJobStagingDone {z s : State} (hk : Kept z s) (origin : BitVec 16) (tag : BitVec 16) : ∀ z2, Machine.execJobStagingDone origin tag s = .next z2 → Kept z z2 := by
  unfold Machine.execJobStagingDone
  (repeat' split) <;> grind -ring -linarith -lia [Kept.copyBlocks, Kept.operandFail, Kept.updJob, Kept.pumpStreams, Kept.freeSet, Kept.finish, Kept.each, Kept.foldl, Kept.mk]
theorem Kept.execJobUnitWritten {z s : State} (hk : Kept z s) (origin : BitVec 16) (tag : BitVec 16) (t : Tile) : ∀ z2,
    Machine.execJobUnitWritten origin tag t s = .next z2 → Kept z z2 := by grind -ring -linarith -lia
    [Machine.execJobUnitWritten, Kept.writeUnit, Kept.pumpStreams, Kept.each, Kept.foldl, Kept.mk]
theorem Kept.execJobSharesEnded {z s : State} (hk : Kept z s) (origin : BitVec 16) (tag : BitVec 16) : ∀ z2,
    Machine.execJobSharesEnded origin tag s = .next z2 → Kept z z2 := by grind -ring -linarith -lia
    [Machine.execJobSharesEnded, Kept.updJob, Kept.endJob, Kept.each, Kept.foldl, Kept.mk]
theorem Kept.execJobMirrorDone {z s : State} (hk : Kept z s) (origin : BitVec 16) (tag : BitVec 16) : ∀ z2,
    Machine.execJobMirrorDone origin tag s = .next z2 → Kept z z2 := by grind -ring -linarith -lia
    [Machine.execJobMirrorDone, Kept.endJob, Kept.each, Kept.foldl, Kept.mk]
theorem Kept.execProjectBatchWait {z s : State} (hk : Kept z s) (origin : BitVec 16) (tag : BitVec 16) : ∀ z2,
    Machine.execProjectBatchWait origin tag s = .next z2 → Kept z z2 := by grind -ring -linarith -lia
    [Machine.execProjectBatchWait, Kept.updJob, Kept.pumpStreams, Kept.each, Kept.foldl, Kept.mk]

/-! ### Machine/CollRows.lean -/

theorem Kept.collGroupCreateDef {z : State} : ∀ s p o id, Kept z s → (Machine.collGroupCreateDef.act s p o id).kept z := by
  intro s p o id hk
  dsimp only [Machine.collGroupCreateDef]
  grind -ring -linarith -lia [Effect.kept, Kept.pickFree, Kept.updCtx, Kept.each, Kept.pumpStream, Kept.each, Kept.foldl, Kept.mk]
theorem Kept.execCollGroupCreate {z s : State} (hk : Kept z s) (p : Packet) : ∀ z2, Machine.execCollGroupCreate p s = .next
    z2 → Kept z z2 := fun _ e => by cases e; exact Kept.runCmd hk _ p Kept.collGroupCreateDef
theorem Kept.collGroupDestroyDef {z : State} : ∀ s p o id, Kept z s → (Machine.collGroupDestroyDef.act s p o id).kept z := by
  intro s p o id hk
  dsimp only [Machine.collGroupDestroyDef]
  grind -ring -linarith -lia [Effect.kept, Kept.stopOps, Kept.updCtx, Kept.each, Kept.pumpStream, Kept.each, Kept.foldl, Kept.mk]
theorem Kept.execCollGroupDestroy {z s : State} (hk : Kept z s) (p : Packet) : ∀ z2, Machine.execCollGroupDestroy p s =
    .next z2 → Kept z z2 := fun _ e => by cases e; exact Kept.runCmd hk _ p Kept.collGroupDestroyDef
theorem Kept.collGroupModifyDef {z : State} : ∀ s p o id, Kept z s → (Machine.collGroupModifyDef.act s p o id).kept z := by
  intro s p o id hk
  dsimp only [Machine.collGroupModifyDef]
  grind -ring -linarith -lia [Effect.kept, Kept.each, Kept.dropHeldColl, Kept.updGroup, Kept.pumpStream, Kept.each, Kept.foldl, Kept.mk]
theorem Kept.execCollGroupModify {z s : State} (hk : Kept z s) (p : Packet) : ∀ z2, Machine.execCollGroupModify p s = .next
    z2 → Kept z z2 := fun _ e => by cases e; exact Kept.runCmd hk _ p Kept.collGroupModifyDef
theorem Kept.collGroupQueryDef {z : State} : ∀ s p o id, Kept z s → (Machine.collGroupQueryDef.act s p o id).kept z := by
  intro s p o id hk
  dsimp only [Machine.collGroupQueryDef]
  grind -ring -linarith -lia [Effect.kept, Kept.each, Kept.foldl, Kept.mk]
theorem Kept.execCollGroupQuery {z s : State} (hk : Kept z s) (p : Packet) : ∀ z2, Machine.execCollGroupQuery p s = .next z2
    → Kept z z2 := fun _ e => by cases e; exact Kept.runCmd hk _ p Kept.collGroupQueryDef
theorem Kept.collOpPostDef {z : State} : ∀ s p o id, Kept z s → (Machine.collOpPostDef.act s p o id).kept z := by
  intro s p o id hk
  dsimp only [Machine.collOpPostDef]
  grind -ring -linarith -lia [Effect.kept, Kept.mirror, Kept.updGroup, Kept.each, Kept.foldl, Kept.mk]
theorem Kept.execCollOpPost {z s : State} (hk : Kept z s) (p : Packet) : ∀ z2, Machine.execCollOpPost p s = .next z2 → Kept
    z z2 := fun _ e => by cases e; exact Kept.runCmd hk _ p Kept.collOpPostDef
theorem Kept.collOpQueryDef {z : State} : ∀ s p o id, Kept z s → (Machine.collOpQueryDef.act s p o id).kept z := by
  intro s p o id hk
  dsimp only [Machine.collOpQueryDef]
  grind -ring -linarith -lia [Effect.kept, Kept.each, Kept.foldl, Kept.mk]
theorem Kept.execCollOpQuery {z s : State} (hk : Kept z s) (p : Packet) : ∀ z2, Machine.execCollOpQuery p s = .next z2 →
    Kept z z2 := fun _ e => by cases e; exact Kept.runCmd hk _ p Kept.collOpQueryDef
theorem Kept.collOpAbortDef {z : State} : ∀ s p o id, Kept z s → (Machine.collOpAbortDef.act s p o id).kept z := by
  intro s p o id hk
  dsimp only [Machine.collOpAbortDef]
  grind -ring -linarith -lia [Effect.kept, Kept.stopOps, Kept.each, Kept.foldl, Kept.mk]
theorem Kept.execCollOpAbort {z s : State} (hk : Kept z s) (p : Packet) : ∀ z2, Machine.execCollOpAbort p s = .next z2 →
    Kept z z2 := fun _ e => by cases e; exact Kept.runCmd hk _ p Kept.collOpAbortDef
theorem Kept.execCollOpStart {z s : State} (hk : Kept z s) (c : BitVec 12) : ∀ z2, Machine.execCollOpStart c s = .next z2 →
    Kept z z2 := by grind -ring -linarith -lia [Machine.execCollOpStart, Kept.startOp, Kept.pumpMembers, Kept.each,
    Kept.foldl, Kept.mk]
theorem Kept.collTu {z s : State} (hk : Kept z s) (v : Via) (bytes : List Byte) (ty : Nat) : Kept z (State.collTu s v bytes
    ty) := by grind -ring -linarith -lia [State.collTu, Kept.takeTu, Kept.acceptTu, Kept.each, Kept.foldl, Kept.mk]
theorem Kept.execCollData {z s : State} (hk : Kept z s) (v : Via) (bytes : List Byte) : ∀ z2, Machine.execCollData v bytes s
    = .next z2 → Kept z z2 := by grind -ring -linarith -lia [Machine.execCollData, Kept.collTu, Kept.each, Kept.foldl,
    Kept.mk]
theorem Kept.execCollRoute {z s : State} (hk : Kept z s) (v : Via) (bytes : List Byte) : ∀ z2, Machine.execCollRoute v bytes
    s = .next z2 → Kept z z2 := by grind -ring -linarith -lia [Machine.execCollRoute, Kept.collTu, Kept.each, Kept.foldl,
    Kept.mk]
theorem Kept.execCollEnd {z s : State} (hk : Kept z s) (v : Via) (bytes : List Byte) : ∀ z2, Machine.execCollEnd v bytes s =
    .next z2 → Kept z z2 := by grind -ring -linarith -lia [Machine.execCollEnd, Kept.collTu, Kept.each, Kept.foldl, Kept.mk]
theorem Kept.execPeerPartialReceive {z s : State} (hk : Kept z s) (v : Via) (bytes : List Byte) (digestOk : Bool) : ∀ z2,
    Machine.execPeerPartialReceive v bytes digestOk s = .next z2 → Kept z z2 := by grind -ring -linarith -lia
    [Machine.execPeerPartialReceive, Kept.takeTu, Kept.collFail, Kept.acceptTu, Kept.each, Kept.foldl, Kept.mk]
theorem Kept.execCollSegmentReduced {z s : State} (hk : Kept z s) (c : BitVec 12) (seg : BitVec 32) (stage : Stage) : ∀ z2, Machine.execCollSegmentReduced c seg stage s = .next z2 → Kept z z2 := by
  unfold Machine.execCollSegmentReduced
  (repeat' split) <;> grind -ring -linarith -lia [Kept.entryStage, Kept.collectStage, Kept.ownerStage, Kept.pumpMembers, Kept.returnTokens, Kept.routeDone, Kept.each, Kept.foldl, Kept.mk]
theorem Kept.execCollOpComplete {z s : State} (hk : Kept z s) (c : BitVec 12) : ∀ z2, Machine.execCollOpComplete c s = .next z2 → Kept z z2 := by
  unfold Machine.execCollOpComplete
  (repeat' split) <;> grind -ring -linarith -lia [Kept.updGroup, Kept.updRun, Kept.finish, Kept.pumpMembers, Kept.each, Kept.foldl, Kept.mk]

end Sys2Proof.Machine
end

