-- ==== Sys2Proof/Laws/KeptParts.lean ====
section
/-! SUPPORT. Laws/KeptParts.lean: lanes, links, photonics, Blocking, clocks, thermal, faults, sites and the bus leave the queue alone and keep the canonical forms; one lemma per definition. -/

namespace Sys2Proof.Machine

/-! ### Machine/Lanes.lean -/

theorem Kept.setPos {z s : State} (hk : Kept z s) (p : Nat) (pos : List Nat) : Kept z (State.setPos s p pos) := by
    grind -ring -linarith -lia [State.setPos, Kept.each, Kept.wr, Kept.each, Kept.foldl, Kept.mk]
theorem Kept.installMap {z s : State} (hk : Kept z s) (p : Nat) (pos : List Nat) (rate : Nat) (healthy : Nat) : Kept z
    (State.installMap s p pos rate healthy) := by grind -ring -linarith -lia [State.installMap, Kept.setPos, Kept.each,
    Kept.setFs, Kept.updLink, Kept.each, Kept.foldl, Kept.mk]
theorem Kept.updTrain {z s : State} (hk : Kept z s) (p : Nat) (f : Training → Training) : Kept z (State.updTrain s p f) :=
    by grind -ring -linarith -lia [State.updTrain, Kept.updLink, Kept.each, Kept.foldl, Kept.mk]
theorem Kept.toStage {z s : State} (hk : Kept z s) (p : Nat) (stage : Nat) : Kept z (State.toStage s p stage) := by
    grind -ring -linarith -lia [State.toStage, Kept.setF, Kept.sendBlocks, Kept.each, Kept.foldl, Kept.mk]
theorem Kept.attemptFails {z s : State} (hk : Kept z s) (p : Nat) : Kept z (State.attemptFails s p) := by
    grind -ring -linarith -lia [State.attemptFails, Kept.declareDown, Kept.beginTraining, Kept.setFs, Kept.updLink,
    Kept.each, Kept.foldl, Kept.mk]
theorem Kept.holdPort {z s : State} (hk : Kept z s) (p : Nat) : Kept z (State.holdPort s p) := by grind -ring -linarith -lia
    [State.holdPort, Kept.declareDown, Kept.setFs, Kept.updLink, Kept.note, Kept.raise, Kept.each, Kept.foldl, Kept.mk]
theorem Kept.enterUp {z s : State} (hk : Kept z s) (p : Nat) (offer : Nat) : Kept z (State.enterUp s p offer) := by
  unfold State.enterUp
  split
  · exact hk
  · next tr _ =>
    extract_lets lanes pos l mine same epoch s1 s2 s3 s4
    have h2 : Kept z s2 := ((hk.installMap ..).setFs ..).updLink ..
    have h3 : Kept z s3 := Kept.ite (((h2.setFs ..).bump ..).updLink ..) ((h2.bump ..).updLink ..)
    have h4 : Kept z s4 := Kept.ite (Kept.each h3 _ _ fun s j hs => hs.commitChan ..) h3
    exact ((h4.setF ..).sendBlocks ..).streamsPortUp ..
theorem Kept.compareOffers {z s : State} (hk : Kept z s) (p : Nat) (far : Nat) (farReady : Bool) : Kept z
    (State.compareOffers s p far farReady) := by grind -ring -linarith -lia [State.compareOffers, Kept.updTrain,
    Kept.sendBlocks, Kept.attemptFails, Kept.holdPort, Kept.toStage, Kept.each, Kept.foldl, Kept.mk]
theorem Kept.adapt {z s : State} (hk : Kept z s) (p : Nat) (j : Nat) : Kept z (State.adapt s p j) := by
  unfold State.adapt
  dsimp only
  repeat' (first | assumption | with_reducible apply Kept.ite | with_reducible apply Kept.fresh | with_reducible apply Kept.wr | with_reducible apply Kept.each | with_reducible apply Kept.foldl | split | intro _)
  all_goals grind -ring -linarith -lia [Kept.fresh, Kept.wr, Kept.each, Kept.foldl, Kept.mk]
theorem Kept.equalise {z s : State} (hk : Kept z s) (p : Nat) (j : Nat) : Kept z (State.equalise s p j) := by
    grind -ring -linarith -lia [State.equalise, Kept.fresh, Kept.setF, Kept.adapt, Kept.each, Kept.foldl, Kept.mk]
theorem Kept.stageEnds {z s : State} (hk : Kept z s) (p : Nat) (pass : Nat) : Kept z (State.stageEnds s p pass) := by
  unfold State.stageEnds
  repeat' (first | assumption | split | with_reducible apply Kept.each | with_reducible apply Kept.setF | with_reducible apply Kept.updTrain | with_reducible apply Kept.toStage | with_reducible apply Kept.fresh | with_reducible apply Kept.setB | with_reducible apply Kept.equalise | with_reducible apply Kept.saveEq | with_reducible apply Kept.each | with_reducible apply Kept.foldl | intro _)
  all_goals grind -ring -linarith -lia [Kept.each, Kept.setF, Kept.updTrain, Kept.toStage, Kept.fresh, Kept.setB, Kept.equalise, Kept.saveEq, Kept.each, Kept.foldl, Kept.mk]
theorem Kept.execLosAssert {z s : State} (hk : Kept z s) (p : Port) : ∀ z2, Machine.execLosAssert p s = .next z2 → Kept z z2 := by
  unfold Machine.execLosAssert
  dsimp only
  (repeat' split) <;> grind -ring -linarith -lia [Kept.setF, Kept.shut, Kept.declareDown, Kept.setFs, Kept.updLink, Kept.each, Kept.foldl, Kept.mk]
theorem Kept.execLosDeassert {z s : State} (hk : Kept z s) (p : Port) : ∀ z2, Machine.execLosDeassert p s = .next z2 → Kept z z2 := by
  unfold Machine.execLosDeassert
  dsimp only
  (repeat' split) <;> grind -ring -linarith -lia [Kept.setF, Kept.setFs, Kept.openShutter, Kept.each, Kept.foldl, Kept.mk]
theorem Kept.execBeaconWordReceive {z s : State} (hk : Kept z s) (p : Port) (w : BitVec 64) : ∀ z2,
    Machine.execBeaconWordReceive p w s = .next z2 → Kept z z2 := by grind -ring -linarith -lia
    [Machine.execBeaconWordReceive, Kept.updLink, Kept.setF, Kept.openShutter, Kept.each, Kept.foldl, Kept.mk]
theorem Kept.takeTrainWord {z s : State} (hk : Kept z s) (p : Nat) (line : Nat) (v : Nat) (inv : Bool) : Kept z
    (State.takeTrainWord s p line v inv) := by grind -ring -linarith -lia [State.takeTrainWord, Kept.updLink,
    Kept.downAndTrain, Kept.beginTraining, Kept.setF, Kept.updTrain, Kept.compareOffers, Kept.openShutter, Kept.each,
    Kept.foldl, Kept.mk]
theorem Kept.execTrainingWordReceive {z s : State} (hk : Kept z s) (p : Port) (line : Lane) (w : BitVec 128) : ∀ z2,
    Machine.execTrainingWordReceive p line w s = .next z2 → Kept z z2 := by grind -ring -linarith -lia
    [Machine.execTrainingWordReceive, Kept.takeTrainWord, Kept.each, Kept.foldl, Kept.mk]
theorem Kept.execTrainStageDone {z s : State} (hk : Kept z s) (p : Port) (pass : BitVec 17) : ∀ z2,
    Machine.execTrainStageDone p pass s = .next z2 → Kept z z2 := by grind -ring -linarith -lia [Machine.execTrainStageDone,
    Kept.enterUp, Kept.stageEnds, Kept.each, Kept.foldl, Kept.mk]
theorem Kept.execTrainStageTimeout {z s : State} (hk : Kept z s) (p : Port) (pass : BitVec 17) : ∀ z2,
    Machine.execTrainStageTimeout p pass s = .next z2 → Kept z z2 := by grind -ring -linarith -lia
    [Machine.execTrainStageTimeout, Kept.attemptFails, Kept.stageEnds, Kept.each, Kept.foldl, Kept.mk]
theorem Kept.execRateHuntStep {z s : State} (hk : Kept z s) (p : Port) : ∀ z2, Machine.execRateHuntStep p s = .next z2 →
    Kept z z2 := by grind -ring -linarith -lia [Machine.execRateHuntStep, Kept.updTrain, Kept.each, Kept.foldl, Kept.mk]
theorem Kept.execTrainRetryTimer {z s : State} (hk : Kept z s) (p : Port) : ∀ z2, Machine.execTrainRetryTimer p s = .next z2
    → Kept z z2 := by grind -ring -linarith -lia [Machine.execTrainRetryTimer, Kept.updLink, Kept.startFull, Kept.each,
    Kept.foldl, Kept.mk]
theorem Kept.execLaneOffsetCheck {z s : State} (hk : Kept z s) (p : Port) (ofs : List (BitVec 16)) : ∀ z2,
    Machine.execLaneOffsetCheck p ofs s = .next z2 → Kept z z2 := by grind -ring -linarith -lia
    [Machine.execLaneOffsetCheck, Kept.each, Kept.setF, Kept.setFs, Kept.adapt, Kept.saveEq, Kept.setB, Kept.each,
    Kept.foldl, Kept.mk]
theorem Kept.execTapSaturated {z s : State} (hk : Kept z s) (p : Port) (j : Lane) : ∀ z2, Machine.execTapSaturated p j s =
    .next z2 → Kept z z2 := by grind -ring -linarith -lia [Machine.execTapSaturated, Kept.setF, Kept.note, Kept.each,
    Kept.foldl, Kept.mk]
theorem Kept.execA1Entry {z s : State} (hk : Kept z s) (p : Port) : ∀ z2, Machine.execA1Entry p s = .next z2 → Kept z z2 :=
    by grind -ring -linarith -lia [Machine.execA1Entry, Kept.updLink, Kept.setF, Kept.sendBlocks, Kept.each, Kept.foldl,
    Kept.mk]
theorem Kept.execKeepPhaseBurst {z s : State} (hk : Kept z s) (p : Port) : ∀ z2, Machine.execKeepPhaseBurst p s = .next z2 →
    Kept z z2 := by grind -ring -linarith -lia [Machine.execKeepPhaseBurst, Kept.emit, Kept.updLink, Kept.each, Kept.foldl,
    Kept.mk]
theorem Kept.execA1Exit {z s : State} (hk : Kept z s) (p : Port) : ∀ z2, Machine.execA1Exit p s = .next z2 → Kept z z2 := by
    grind -ring -linarith -lia [Machine.execA1Exit, Kept.wakeTx, Kept.each, Kept.foldl, Kept.mk]
theorem Kept.portEyeScanDef {z : State} : ∀ s p o id, Kept z s → (Machine.portEyeScanDef.act s p o id).kept z := by
  intro s p o id hk
  dsimp only [Machine.portEyeScanDef]
  grind -ring -linarith -lia [Effect.kept, Kept.updLink, Kept.wakeTx, Kept.setFs, Kept.each, Kept.foldl, Kept.mk]
theorem Kept.execPortEyeScan {z s : State} (hk : Kept z s) (p : Packet) : ∀ z2, Machine.execPortEyeScan p s = .next z2 →
    Kept z z2 := fun _ e => by cases e; exact Kept.runCmd hk _ p Kept.portEyeScanDef
theorem Kept.execEyeScanPointDone {z s : State} (hk : Kept z s) (p : Port) (mism : BitVec 64) : ∀ z2,
    Machine.execEyeScanPointDone p mism s = .next z2 → Kept z z2 := by grind -ring -linarith -lia
    [Machine.execEyeScanPointDone, Kept.updLink, Kept.setFs, Kept.finish, Kept.each, Kept.foldl, Kept.mk]
theorem Kept.execMarginSweepStep {z s : State} (hk : Kept z s) (p : Port) (j : Lane) (opening : BitVec 16) : ∀ z2,
    Machine.execMarginSweepStep p j opening s = .next z2 → Kept z z2 := by grind -ring -linarith -lia
    [Machine.execMarginSweepStep, Kept.note, Kept.updLink, Kept.setFs, Kept.each, Kept.foldl, Kept.mk]
theorem Kept.portPrbsDef {z : State} : ∀ s p o id, Kept z s → (Machine.portPrbsDef.act s p o id).kept z := by
  intro s p o id hk
  dsimp only [Machine.portPrbsDef]
  grind -ring -linarith -lia [Effect.kept, Kept.each, Kept.foldl, Kept.mk]
theorem Kept.execPortPrbs {z s : State} (hk : Kept z s) (p : Packet) : ∀ z2, Machine.execPortPrbs p s = .next z2 → Kept z z2
    := fun _ e => by cases e; exact Kept.runCmd hk _ p Kept.portPrbsDef
theorem Kept.execCxlLinkTrained {z s : State} (hk : Kept z s) (n : Fin 2) (rate : Fin 6) (width : Fin 17) (rev : Bool) : ∀
    z2, Machine.execCxlLinkTrained n rate width rev s = .next z2 → Kept z z2 := by grind -ring -linarith -lia
    [Machine.execCxlLinkTrained, Kept.setFs, Kept.fallMod, Kept.note, Kept.each, Kept.foldl, Kept.mk]

/-! ### Machine/Link.lean -/

theorem Kept.putFlit {z s : State} (hk : Kept z s) (p : Nat) (flit : List Byte) : Kept z (State.putFlit s p flit) := by
    grind -ring -linarith -lia [State.putFlit, Kept.emit, Kept.updLink, Kept.each, Kept.foldl, Kept.mk]
theorem Kept.sendFlit {z s : State} (hk : Kept z s) (p : Nat) (seq : Nat) (f : Flit) : Kept z (State.sendFlit s p seq f) :=
    by grind -ring -linarith -lia [State.sendFlit, Kept.fresh, Kept.putFlit, Kept.updLink, Kept.each, Kept.foldl, Kept.mk]
theorem Kept.sendNew {z s : State} (hk : Kept z s) (p : Nat) (f : Flit) : Kept z (State.sendNew s p f) := by
    grind -ring -linarith -lia [State.sendNew, Kept.sendFlit, Kept.updLink, Kept.setF, Kept.syncReplay, Kept.each,
    Kept.foldl, Kept.mk]
theorem Kept.spillShort {z s : State} (hk : Kept z s) (p : Nat) : Kept z (State.spillShort s p).2 := by
    grind -ring -linarith -lia [State.spillShort, Kept.fresh, Kept.each, Kept.foldl, Kept.mk]
theorem Kept.sendFill {z s : State} (hk : Kept z s) (p : Nat) : Kept z (State.sendFill s p) := by grind -ring -linarith -lia
    [State.sendFill, Kept.sendFlit, Kept.each, Kept.foldl, Kept.mk]
theorem Kept.sendNext {z s : State} (hk : Kept z s) (p : Nat) : Kept z (State.sendNext s p) := by grind -ring -linarith -lia
    [State.sendNext, Kept.sendFlit, Kept.updLink, Kept.sendFill, Kept.spillShort, Kept.setF, Kept.sendNew, Kept.each,
    Kept.foldl, Kept.mk]
theorem Kept.proto {z s : State} (hk : Kept z s) (p : Nat) : Kept z (State.proto s p) := by grind -ring -linarith -lia
    [State.proto, Kept.setF, Kept.raise, Kept.fastRetrain, Kept.each, Kept.foldl, Kept.mk]
theorem Kept.replayTrigger {z s : State} (hk : Kept z s) (p : Nat) : Kept z (State.replayTrigger s p) := by
    grind -ring -linarith -lia [State.replayTrigger, Kept.bump, Kept.updLink, Kept.setFs, Kept.fastRetrain,
    Kept.downAndTrain, Kept.each, Kept.foldl, Kept.mk]
theorem Kept.freeFlits {z s : State} (hk : Kept z s) (p : Nat) (n : Nat) : Kept z (State.freeFlits s p n) := by
    grind -ring -linarith -lia [State.freeFlits, Kept.updLink, Kept.setFs, Kept.syncReplay, Kept.each, Kept.returnPrimary,
    Kept.each, Kept.foldl, Kept.mk]
theorem Kept.takeAck {z s : State} (hk : Kept z s) (p : Nat) (ack : Nat) : Kept z (State.takeAck s p ack) := by
  unfold State.takeAck
  dsimp only
  (repeat' split) <;> grind -ring -linarith -lia [Kept.freeFlits, Kept.proto, Kept.each, Kept.foldl, Kept.mk]
theorem Kept.takeNak {z s : State} (hk : Kept z s) (p : Nat) (n : Nat) : Kept z (State.takeNak s p n) := by
  unfold State.takeNak
  dsimp only
  (repeat' split) <;> grind -ring -linarith -lia [Kept.setF, Kept.freeFlits, Kept.replayTrigger, Kept.each, Kept.foldl, Kept.mk]
theorem Kept.lostFlit {z s : State} (hk : Kept z s) (p : Nat) : Kept z (State.lostFlit s p) := by grind -ring -linarith -lia
    [State.lostFlit, Kept.wakeTx, Kept.updLink, Kept.each, Kept.foldl, Kept.mk]
theorem Kept.startLaneset {z s : State} (hk : Kept z s) (p : Nat) (pos : List Nat) (rate : Nat) (run : Option Nat) (blk :
    Bool) : Kept z (State.startLaneset s p pos rate run blk) := by grind -ring -linarith -lia [State.startLaneset,
    Kept.wakeTx, Kept.updLink, Kept.setF, Kept.enqueue, Kept.each, Kept.foldl, Kept.mk]
theorem Kept.endLaneset {z s : State} (hk : Kept z s) (p : Nat) (status : Nat) (detail : Nat) : Kept z (State.endLaneset s p
    status detail) := by grind -ring -linarith -lia [State.endLaneset, Kept.updLink, Kept.setF, Kept.finish,
    Kept.laneRunUnmapped, Kept.each, Kept.foldl, Kept.mk]
theorem Kept.outFirst {z s : State} (hk : Kept z s) (p : Nat) : Kept z (State.outFirst s p) := by grind -ring -linarith -lia
    [State.outFirst, Kept.updLink, Kept.each, Kept.foldl, Kept.mk]
theorem Kept.tendMap {z s : State} (hk : Kept z s) (p : Nat) : Kept z (State.tendMap s p) := by grind -ring -linarith -lia
    [State.tendMap, Kept.outFirst, Kept.startLaneset, Kept.each, Kept.foldl, Kept.mk]
theorem Kept.sendVerify {z s : State} (hk : Kept z s) (p : Nat) (j : Nat) : Kept z (State.sendVerify s p j) := by
    grind -ring -linarith -lia [State.sendVerify, Kept.fresh, Kept.enqueue, Kept.each, Kept.foldl, Kept.mk]
theorem Kept.commitLaneset {z s : State} (hk : Kept z s) (p : Nat) : Kept z (State.commitLaneset s p) := by
  unfold State.commitLaneset
  split
  · exact hk
  · next ls _ =>
    split
    · extract_lets was m s1 old new s2
      have h1 : Kept z s1 := ((hk.installMap ..).setFs ..).updLink ..
      clear_value s1
      have h2 : Kept z s2 := by
        simp only [s2]
        split
        · exact h1.finish ..
        · exact Kept.ite (Kept.ite (h1.laneRunMapped ..) (h1.policy ..)) (Kept.each h1 _ _ fun s j hs => hs.sendVerify ..)
      exact h2.tendMap ..
    · exact hk
theorem Kept.switchTx {z s : State} (hk : Kept z s) (p : Nat) : Kept z (State.switchTx s p) := by grind -ring -linarith -lia
    [State.switchTx, Kept.updLink, Kept.emit, Kept.commitLaneset, Kept.each, Kept.foldl, Kept.mk]
theorem Kept.switchRx {z s : State} (hk : Kept z s) (p : Nat) : Kept z (State.switchRx s p) := by grind -ring -linarith -lia
    [State.switchRx, Kept.updLink, Kept.each, Kept.loadEq, Kept.commitLaneset, Kept.each, Kept.foldl, Kept.mk]
theorem Kept.takeCmd {z s : State} (hk : Kept z s) (p : Nat) (f : Flit) : Kept z (State.takeCmd s p f) := by
    grind -ring -linarith -lia [State.takeCmd, Kept.updLink, Kept.enqueue, Kept.each, Kept.foldl, Kept.mk]
theorem Kept.acceptFlit {z s : State} (hk : Kept z s) (p : Nat) (f : Flit) : Kept z (State.acceptFlit s p f) := by
    grind -ring -linarith -lia [State.acceptFlit, Kept.setF, Kept.lostFlit, Kept.assertTile, Kept.updLink, Kept.syncXoff,
    Kept.takeCmd, Kept.enqueue, Kept.each, Kept.foldl, Kept.mk]
theorem Kept.takeFlit {z s : State} (hk : Kept z s) (p : Nat) (b : List Byte) : Kept z (State.takeFlit s p b) := by
  unfold State.takeFlit
  dsimp only
  repeat' (first | assumption | with_reducible apply Kept.ite | with_reducible apply Kept.takeAck | with_reducible apply Kept.takeNak | with_reducible apply Kept.setFs | with_reducible apply Kept.updLink | with_reducible apply Kept.lostFlit | with_reducible apply Kept.proto | with_reducible apply Kept.acceptFlit | with_reducible apply Kept.bump | with_reducible apply Kept.wakeTx | with_reducible apply Kept.sendFlit | with_reducible apply Kept.each | with_reducible apply Kept.foldl | split | intro _)
  all_goals grind -ring -linarith -lia [Kept.takeAck, Kept.takeNak, Kept.setFs, Kept.updLink, Kept.lostFlit, Kept.proto, Kept.acceptFlit, Kept.bump, Kept.wakeTx, Kept.sendFlit, Kept.each, Kept.foldl, Kept.mk]
theorem Kept.execCodewordReceive {z s : State} (hk : Kept z s) (v : Via) (bytes : List Byte) (onNew : Bool) : ∀ z2, Machine.execCodewordReceive v bytes onNew s = .next z2 → Kept z z2 := by
  unfold Machine.execCodewordReceive
  (repeat' split) <;> grind -ring -linarith -lia [Kept.setF, Kept.updLink, Kept.bump, Kept.lostFlit, Kept.each, Kept.switchRx, Kept.takeFlit, Kept.each, Kept.foldl, Kept.mk]
theorem Kept.execFlitSend {z s : State} (hk : Kept z s) (v : Via) : ∀ z2, Machine.execFlitSend v s = .next z2 → Kept z z2 :=
    by grind -ring -linarith -lia [Machine.execFlitSend, Kept.sendNext, Kept.each, Kept.foldl, Kept.mk]
theorem Kept.execAckIdleTimer {z s : State} (hk : Kept z s) (v : Via) : ∀ z2, Machine.execAckIdleTimer v s = .next z2 → Kept
    z z2 := by grind -ring -linarith -lia [Machine.execAckIdleTimer, Kept.wakeTx, Kept.sendFlit, Kept.each, Kept.foldl,
    Kept.mk]
theorem Kept.execReplayTimerExpiry {z s : State} (hk : Kept z s) (v : Via) : ∀ z2, Machine.execReplayTimerExpiry v s = .next
    z2 → Kept z z2 := by grind -ring -linarith -lia [Machine.execReplayTimerExpiry, Kept.replayTrigger, Kept.each,
    Kept.foldl, Kept.mk]
theorem Kept.subTrained {z s : State} (hk : Kept z s) (k : Nat) (ok : Bool) : Kept z (State.subTrained s k ok) := by
    grind -ring -linarith -lia [State.subTrained, Kept.sublinkUp, Kept.updLink, Kept.sublinkDown, Kept.each, Kept.foldl,
    Kept.mk]
theorem Kept.execFastRetrainDone {z s : State} (hk : Kept z s) (v : Via) (ok : Bool) : ∀ z2, Machine.execFastRetrainDone v ok s = .next z2 → Kept z z2 := by
  unfold Machine.execFastRetrainDone
  cases v <;> simp only [] <;> (repeat' split) <;> grind -ring -linarith -lia [Kept.subTrained, Kept.attemptFails, Kept.enterUp, Kept.each, Kept.foldl, Kept.mk]
theorem Kept.execRttMeasure {z s : State} (hk : Kept z s) (v : Via) : ∀ z2, Machine.execRttMeasure v s = .next z2 → Kept z
    z2 := by grind -ring -linarith -lia [Machine.execRttMeasure, Kept.fresh, Kept.updLink, Kept.enqueue, Kept.each,
    Kept.foldl, Kept.mk]
theorem Kept.execEcho {z s : State} (hk : Kept z s) (v : Via) (msg : List Byte) : ∀ z2, Machine.execEcho v msg s = .next z2
    → Kept z z2 := by grind -ring -linarith -lia [Machine.execEcho, Kept.popRx, Kept.fresh, Kept.enqueue, Kept.each,
    Kept.foldl, Kept.mk]
theorem Kept.fixPartitions {z s : State} (hk : Kept z s) (p : Nat) (rtt : Nat) : Kept z (State.fixPartitions s p rtt) := by
    grind -ring -linarith -lia [State.fixPartitions, Kept.declareDown, Kept.updLink, Kept.sublinkDown, Kept.setFs,
    Kept.syncXoff, Kept.tendMap, Kept.each, Kept.foldl, Kept.mk]
theorem Kept.execEchoReply {z s : State} (hk : Kept z s) (v : Via) (msg : List Byte) (elapsed : BitVec 32) : ∀ z2,
    Machine.execEchoReply v msg elapsed s = .next z2 → Kept z z2 := by grind -ring -linarith -lia [Machine.execEchoReply,
    Kept.popRx, Kept.setF, Kept.updLink, Kept.fixPartitions, Kept.each, Kept.foldl, Kept.mk]
theorem Kept.execLaneset {z s : State} (hk : Kept z s) (p : Port) (msg : List Byte) : ∀ z2, Machine.execLaneset p msg s = .next z2 → Kept z z2 := by
  unfold Machine.execLaneset
  dsimp only
  (repeat' split) <;> grind -ring -linarith -lia [Kept.popRx, Kept.answer, Kept.enqueue, Kept.updLink, Kept.setF, Kept.endLaneset, Kept.each, Kept.foldl, Kept.mk]
theorem Kept.execLanesetAck {z s : State} (hk : Kept z s) (p : Port) (msg : List Byte) : ∀ z2, Machine.execLanesetAck p msg
    s = .next z2 → Kept z z2 := by grind -ring -linarith -lia [Machine.execLanesetAck, Kept.popRx, Kept.endLaneset,
    Kept.updLink, Kept.each, Kept.foldl, Kept.mk]
theorem Kept.execLanesetBoundary {z s : State} (hk : Kept z s) (p : Port) : ∀ z2, Machine.execLanesetBoundary p s = .next z2
    → Kept z z2 := by grind -ring -linarith -lia [Machine.execLanesetBoundary, Kept.switchTx, Kept.each, Kept.foldl,
    Kept.mk]
theorem Kept.execLanesetAckTimeout {z s : State} (hk : Kept z s) (p : Port) : ∀ z2, Machine.execLanesetAckTimeout p s =
    .next z2 → Kept z z2 := by grind -ring -linarith -lia [Machine.execLanesetAckTimeout, Kept.updLink, Kept.enqueue,
    Kept.each, Kept.foldl, Kept.mk]
theorem Kept.execLanesetCancel {z s : State} (hk : Kept z s) (p : Port) (msg : List Byte) : ∀ z2, Machine.execLanesetCancel
    p msg s = .next z2 → Kept z z2 := by grind -ring -linarith -lia [Machine.execLanesetCancel, Kept.popRx, Kept.endLaneset,
    Kept.setF, Kept.updLink, Kept.each, Kept.foldl, Kept.mk]
theorem Kept.execLanesetCancelWindowEnd {z s : State} (hk : Kept z s) (p : Port) : ∀ z2, Machine.execLanesetCancelWindowEnd
    p s = .next z2 → Kept z z2 := by grind -ring -linarith -lia [Machine.execLanesetCancelWindowEnd, Kept.setF,
    Kept.endLaneset, Kept.each, Kept.foldl, Kept.mk]
theorem Kept.execVerify {z s : State} (hk : Kept z s) (p : Port) (msg : List Byte) : ∀ z2, Machine.execVerify p msg s =
    .next z2 → Kept z z2 := by grind -ring -linarith -lia [Machine.execVerify, Kept.popRx, Kept.updLink, Kept.each,
    Kept.foldl, Kept.mk]
theorem Kept.execDoze {z s : State} (hk : Kept z s) (p : Port) : ∀ z2, Machine.execDoze p s = .next z2 → Kept z z2 := by
    grind -ring -linarith -lia [Machine.execDoze, Kept.popRx, Kept.updLink, Kept.each, Kept.foldl, Kept.mk]
theorem Kept.execAwake {z s : State} (hk : Kept z s) (p : Port) : ∀ z2, Machine.execAwake p s = .next z2 → Kept z z2 := by
    grind -ring -linarith -lia [Machine.execAwake, Kept.popRx, Kept.updLink, Kept.each, Kept.foldl, Kept.mk]
theorem Kept.execAwakeTimeout {z s : State} (hk : Kept z s) (p : Port) : ∀ z2, Machine.execAwakeTimeout p s = .next z2 →
    Kept z z2 := by grind -ring -linarith -lia [Machine.execAwakeTimeout, Kept.downAndTrain, Kept.each, Kept.foldl, Kept.mk]
theorem Kept.execCmdPacketAssembled {z s : State} (hk : Kept z s) (v : Via) (bytes : List Byte) : ∀ z2, Machine.execCmdPacketAssembled v bytes s = .next z2 → Kept z z2 := by
  unfold Machine.execCmdPacketAssembled
  cases v <;> simp only [] <;> (repeat' split) <;> grind -ring -linarith -lia [Kept.updLink, Kept.enqueue, Kept.updPr, Kept.each, Kept.foldl, Kept.mk]
theorem Kept.portTrainDef {z : State} : ∀ s p o id, Kept z s → (Machine.portTrainDef.act s p o id).kept z := by
  intro s p o id hk
  dsimp only [Machine.portTrainDef]
  grind -ring -linarith -lia [Effect.kept, Kept.fastRetrain, Kept.downAndTrain, Kept.setFs, Kept.updLink, Kept.startFull, Kept.each, Kept.foldl, Kept.mk]
theorem Kept.execPortTrain {z s : State} (hk : Kept z s) (p : Packet) : ∀ z2, Machine.execPortTrain p s = .next z2 → Kept z
    z2 := fun _ e => by cases e; exact Kept.runCmd hk _ p Kept.portTrainDef
theorem Kept.portLanesetDef {z : State} : ∀ s p o id, Kept z s → (Machine.portLanesetDef.act s p o id).kept z := by
  intro s p o id hk
  dsimp only [Machine.portLanesetDef]
  grind -ring -linarith -lia [Effect.kept, Kept.startLaneset, Kept.each, Kept.foldl, Kept.mk]
theorem Kept.execPortLaneset {z s : State} (hk : Kept z s) (p : Packet) : ∀ z2, Machine.execPortLaneset p s = .next z2 →
    Kept z z2 := fun _ e => by cases e; exact Kept.runCmd hk _ p Kept.portLanesetDef
theorem Kept.resetPort {z s : State} (hk : Kept z s) (p : Nat) : Kept z (State.resetPort s p) := by
    grind -ring -linarith -lia [State.resetPort, Kept.declareDown, Kept.resetRegs, Kept.updLink, Kept.setFs, Kept.startFull,
    Kept.each, Kept.foldl, Kept.mk]
theorem Kept.replan {z s : State} (hk : Kept z s) (t : Nat) (fs : List (Fld × Nat)) (v : Int) : Kept z (State.replan s t fs
    v) := by grind -ring -linarith -lia [State.replan, Kept.policyReg, Kept.note, Kept.each, Kept.foldl, Kept.mk]
theorem Kept.replanRate {z s : State} (hk : Kept z s) (p : Nat) : Kept z (State.replanRate s p) := by
    grind -ring -linarith -lia [State.replanRate, Kept.replan, Kept.tendMap, Kept.each, Kept.foldl, Kept.mk]
theorem Kept.execPortReset {z s : State} (hk : Kept z s) (p : Port) : ∀ z2, Machine.execPortReset p s = .next z2 → Kept z z2
    := by grind -ring -linarith -lia [Machine.execPortReset, Kept.resetPort, Kept.finishParam, Kept.each, Kept.foldl,
    Kept.mk]

/-! ### Machine/Photonics.lean -/

theorem Kept.setRing {z s : State} (hk : Kept z s) (t : Nat) (n : Nat) (r : RingState) : Kept z (State.setRing s t n r) :=
    by grind -ring -linarith -lia [State.setRing, Kept.updPh, Kept.each, Kept.foldl, Kept.mk]
theorem Kept.syncHeads {z s : State} (hk : Kept z s) (t : Nat) : Kept z (State.syncHeads s t) := by
    grind -ring -linarith -lia [State.syncHeads, Kept.fresh, Kept.setFs, Kept.each, Kept.foldl, Kept.mk]
theorem Kept.recentre {z s : State} (hk : Kept z s) (t : Nat) (c : Nat) : Kept z (State.recentre s t c) := by
    grind -ring -linarith -lia [State.recentre, Kept.updPh, Kept.syncHeads, Kept.each, Kept.foldl, Kept.mk]
theorem Kept.execRingResonanceFound {z s : State} (hk : Kept z s) (t : Tile) (ring : BitVec 12) : ∀ z2,
    Machine.execRingResonanceFound t ring s = .next z2 → Kept z z2 := by grind -ring -linarith -lia
    [Machine.execRingResonanceFound, Kept.setRing, Kept.syncHeads, Kept.each, Kept.foldl, Kept.mk]
theorem Kept.execRingSearchTimeout {z s : State} (hk : Kept z s) (t : Tile) (ring : BitVec 12) : ∀ z2,
    Machine.execRingSearchTimeout t ring s = .next z2 → Kept z z2 := by grind -ring -linarith -lia
    [Machine.execRingSearchTimeout, Kept.bump, Kept.note, Kept.each, Kept.foldl, Kept.mk]
theorem Kept.execRingLockLost {z s : State} (hk : Kept z s) (t : Tile) (ring : BitVec 12) : ∀ z2, Machine.execRingLockLost t
    ring s = .next z2 → Kept z z2 := by grind -ring -linarith -lia [Machine.execRingLockLost, Kept.setRing, Kept.bump,
    Kept.raise, Kept.each, Kept.foldl, Kept.mk]
theorem Kept.execRingHeadroomLow {z s : State} (hk : Kept z s) (t : Tile) (ring : BitVec 12) (head : BitVec 8) : ∀ z2,
    Machine.execRingHeadroomLow t ring head s = .next z2 → Kept z z2 := by grind -ring -linarith -lia
    [Machine.execRingHeadroomLow, Kept.updPh, Kept.syncHeads, Kept.note, Kept.each, Kept.foldl, Kept.mk]
theorem Kept.execRefLoss {z s : State} (hk : Kept z s) (pwr : BitVec 16) : ∀ z2, Machine.execRefLoss pwr s = .next z2 → Kept
    z z2 := by grind -ring -linarith -lia [Machine.execRefLoss, Kept.each, Kept.setFs, Kept.note, Kept.each, Kept.foldl,
    Kept.mk]
theorem Kept.execRefReturn {z s : State} (hk : Kept z s) (pwr : BitVec 16) (ofs : List (BitVec 12)) : ∀ z2,
    Machine.execRefReturn pwr ofs s = .next z2 → Kept z z2 := by grind -ring -linarith -lia [Machine.execRefReturn,
    Kept.each, Kept.setFs, Kept.updBl, Kept.each, Kept.foldl, Kept.mk]
theorem Kept.retireLane {z s : State} (hk : Kept z s) (p : Nat) (j : Nat) : Kept z (State.retireLane s p j) := by
  unfold State.retireLane
  dsimp only
  repeat' (first | assumption | with_reducible apply Kept.ite | with_reducible apply Kept.updPhNv | with_reducible apply Kept.policyNote | with_reducible apply Kept.setF | with_reducible apply Kept.note | with_reducible apply Kept.declareDown | with_reducible apply Kept.shut | with_reducible apply Kept.tendMap | with_reducible apply Kept.each | with_reducible apply Kept.foldl | split | intro _)
  all_goals grind -ring -linarith -lia [Kept.updPhNv, Kept.policyNote, Kept.setF, Kept.note, Kept.declareDown, Kept.shut, Kept.tendMap, Kept.each, Kept.foldl, Kept.mk]
theorem Kept.claimSub {z s : State} (hk : Kept z s) (t : Nat) (r : Nat) (run : Option Nat) : Kept z (State.claimSub s t r run) := by
  unfold State.claimSub
  dsimp only
  repeat' (first | assumption | with_reducible apply Kept.ite | with_reducible apply Kept.updPh | with_reducible apply Kept.lightComb | with_reducible apply Kept.setF | with_reducible apply Kept.note | with_reducible apply Kept.replanRate | with_reducible apply Kept.finish | with_reducible apply Kept.each | with_reducible apply Kept.foldl | split | intro _)
  all_goals grind -ring -linarith -lia [Kept.updPh, Kept.lightComb, Kept.setF, Kept.note, Kept.replanRate, Kept.finish, Kept.each, Kept.foldl, Kept.mk]
theorem Kept.reclaimSubs {z s : State} (hk : Kept z s) (t : Nat) : Kept z (State.reclaimSubs s t) := by
    grind -ring -linarith -lia [State.reclaimSubs, Kept.each, Kept.claimSub, Kept.each, Kept.foldl, Kept.mk]
theorem Kept.raiseBias {z s : State} (hk : Kept z s) (t : Nat) (r : Nat) : Kept z (State.raiseBias s t r) := by
    grind -ring -linarith -lia [State.raiseBias, Kept.setSat, Kept.note, Kept.each, Kept.foldl, Kept.mk]
theorem Kept.fastFade {z s : State} (hk : Kept z s) (t : Nat) (r : Nat) (lanes : List Nat) : Kept z (State.fastFade s t r
    lanes) := by grind -ring -linarith -lia [State.fastFade, Kept.setF, Kept.note, Kept.fastRetrain, Kept.updLink,
    Kept.tendMap, Kept.each, Kept.foldl, Kept.mk]
theorem Kept.fadeStage {z s : State} (hk : Kept z s) (t : Nat) (r : Nat) (fade : Nat) (fast : Bool) : Kept z (State.fadeStage s t r fade fast) := by
  unfold State.fadeStage
  dsimp only
  (repeat' split) <;> grind -ring -linarith -lia [Kept.updPh, Kept.setF, Kept.note, Kept.claimSub, Kept.raiseBias, Kept.each, Kept.foldl, Kept.mk]
theorem Kept.respond {z s : State} (hk : Kept z s) (t : Nat) (r : Nat) (idx : Nat) : Kept z (State.respond s t r idx) := by
    grind -ring -linarith -lia [State.respond, Kept.queueChan, Kept.retireLane, Kept.each, Kept.foldl, Kept.mk]
theorem Kept.evalRole {z s : State} (hk : Kept z s) (t : Nat) (r : Nat) : Kept z (State.evalRole s t r) := by
    grind -ring -linarith -lia [State.evalRole, Kept.setFs, Kept.fastFade, Kept.fadeStage, Kept.each, Kept.respond,
    Kept.each, Kept.foldl, Kept.mk]
theorem Kept.execFadeEvaluation {z s : State} (hk : Kept z s) (t : Tile) (readings :
    FadeReadings) : ∀ z2, Machine.execFadeEvaluation t readings s = .next z2 → Kept z z2 := by
    grind -ring -linarith -lia [Machine.execFadeEvaluation, Kept.updPh, Kept.setFs, Kept.each, Kept.evalRole, Kept.tendMap,
    Kept.each, Kept.foldl, Kept.mk]
theorem Kept.readyLine {z s : State} (hk : Kept z s) (t : Nat) (r : Nat) : Kept z (State.readyLine s t r) := by
    grind -ring -linarith -lia [State.readyLine, Kept.updPh, Kept.updOme, Kept.passBoundary, Kept.each, Kept.foldl, Kept.mk]
theorem Kept.startMoves {z s : State} (hk : Kept z s) (t : Nat) (r : Nat) : Kept z (State.startMoves s t r) := by
    grind -ring -linarith -lia [State.startMoves, Kept.setF, Kept.tendMap, Kept.readyLine, Kept.each, Kept.foldl, Kept.mk]
theorem Kept.execCombStart {z s : State} (hk : Kept z s) (t : Tile) (c : Fin 8) (found : CombStarted) : ∀ z2,
    Machine.execCombStart t c found s = .next z2 → Kept z z2 := by grind -ring -linarith -lia [Machine.execCombStart,
    Kept.setFs, Kept.startMoves, Kept.darkComb, Kept.updPh, Kept.finish, Kept.setF, Kept.omeStart, Kept.each, Kept.foldl,
    Kept.mk]
theorem Kept.execSubstituteLocked {z s : State} (hk : Kept z s) (t : Tile) (u : Fin 2) : ∀ z2, Machine.execSubstituteLocked
    t u s = .next z2 → Kept z z2 := by grind -ring -linarith -lia [Machine.execSubstituteLocked, Kept.setF, Kept.startMoves,
    Kept.each, Kept.foldl, Kept.mk]
theorem Kept.execSubstituteLockTimeout {z s : State} (hk : Kept z s) (t : Tile) (u : Fin 2) : ∀ z2,
    Machine.execSubstituteLockTimeout t u s = .next z2 → Kept z z2 := by grind -ring -linarith -lia
    [Machine.execSubstituteLockTimeout, Kept.updPh, Kept.setFs, Kept.note, Kept.raise, Kept.claimSub, Kept.each, Kept.foldl,
    Kept.mk]
theorem Kept.substDone {z s : State} (hk : Kept z s) (t : Nat) (r : Nat) (x : Subst) : Kept z (State.substDone s t r x) :=
    by grind -ring -linarith -lia [State.substDone, Kept.updPh, Kept.darkComb, Kept.setFs, Kept.setF, Kept.finishParam,
    Kept.policy, Kept.reclaimSubs, Kept.each, Kept.foldl, Kept.mk]
theorem Kept.unitMoved {z s : State} (hk : Kept z s) (t : Nat) (r : Nat) (x : Subst) (i : Nat) : Kept z (State.unitMoved s t
    r x i) := by grind -ring -linarith -lia [State.unitMoved, Kept.updPh, Kept.substDone, Kept.each, Kept.foldl, Kept.mk]
theorem Kept.laneMoved {z s : State} (hk : Kept z s) (t : Nat) (r : Nat) (x : Subst) (j : Nat) : Kept z (State.laneMoved s t
    r x j) := by grind -ring -linarith -lia [State.laneMoved, Kept.updPh, Kept.updLink, Kept.unitMoved, Kept.outFirst,
    Kept.tendMap, Kept.retireLane, Kept.each, Kept.foldl, Kept.mk]
theorem Kept.lineMoved {z s : State} (hk : Kept z s) (t : Nat) (r : Nat) (x : Subst) (i : Nat) : Kept z (State.lineMoved s t
    r x i) := by grind -ring -linarith -lia [State.lineMoved, Kept.readyLine, Kept.updOme, Kept.unitMoved,
    Kept.passBoundary, Kept.each, Kept.foldl, Kept.mk]
theorem Kept.execLaneSourceMoved {z s : State} (hk : Kept z s) (t : Tile) (role : Fin 6) (unit : Fin 64)
    (lock : Bool) : ∀ z2, Machine.execLaneSourceMoved t role unit lock s = .next z2 → Kept z z2 := by grind -ring -linarith -lia
    [Machine.execLaneSourceMoved, Kept.laneMoved, Kept.updPh, Kept.unitMoved, Kept.lineMoved, Kept.each, Kept.foldl,
    Kept.mk]
theorem Kept.execLaserOvertemp {z s : State} (hk : Kept z s) (t : Tile) (c : Fin 8) (tj : BitVec 8) : ∀ z2, Machine.execLaserOvertemp t c tj s = .next z2 → Kept z z2 := by
  intros
  rename_i e
  unfold Machine.execLaserOvertemp at e
  dsimp only at e
  (repeat' split at e)
  all_goals (try contradiction)
  all_goals (cases e)
  all_goals (repeat' (first | assumption | with_reducible apply Kept.ite | with_reducible apply Kept.setF | with_reducible apply Kept.darkComb | with_reducible apply Kept.note | with_reducible apply Kept.raise | with_reducible apply Kept.updPh | with_reducible apply Kept.finish | with_reducible apply Kept.claimSub | with_reducible apply Kept.each | with_reducible apply Kept.foldl | split | intro _))
  all_goals grind -ring -linarith -lia [Kept.setF, Kept.darkComb, Kept.note, Kept.raise, Kept.updPh, Kept.finish, Kept.claimSub, Kept.each, Kept.foldl, Kept.mk]
theorem Kept.phoCommissionDef {z : State} : ∀ s p o id, Kept z s → (Machine.phoCommissionDef.act s p o id).kept z := by
  intro s p o id hk
  dsimp only [Machine.phoCommissionDef]
  exact Kept.setF (Kept.each (Kept.each (hk.updPhNv ..) _ _ fun s c hs => hs.setF ..) _ _ fun s r hs => hs.setF ..) ..
theorem Kept.execPhoCommission {z s : State} (hk : Kept z s) (p : Packet) : ∀ z2, Machine.execPhoCommission p s = .next z2 →
    Kept z z2 := fun _ e => by cases e; exact Kept.runCmd hk _ p Kept.phoCommissionDef
theorem Kept.phoMonReadDef {z : State} : ∀ s p o id, Kept z s → (Machine.phoMonReadDef.act s p o id).kept z := by
  intro s p o id hk
  dsimp only [Machine.phoMonReadDef]
  grind -ring -linarith -lia [Effect.kept, Kept.each, Kept.foldl, Kept.mk]
theorem Kept.execPhoMonRead {z s : State} (hk : Kept z s) (p : Packet) : ∀ z2, Machine.execPhoMonRead p s = .next z2 → Kept
    z z2 := fun _ e => by cases e; exact Kept.runCmd hk _ p Kept.phoMonReadDef
theorem Kept.phoSubstituteDef {z : State} : ∀ s p o id, Kept z s → (Machine.phoSubstituteDef.act s p o id).kept z := by
  intro s p o id hk
  dsimp only [Machine.phoSubstituteDef]
  grind -ring -linarith -lia [Effect.kept, Kept.claimSub, Kept.each, Kept.foldl, Kept.mk]
theorem Kept.execPhoSubstitute {z s : State} (hk : Kept z s) (p : Packet) : ∀ z2, Machine.execPhoSubstitute p s = .next z2 →
    Kept z z2 := fun _ e => by cases e; exact Kept.runCmd hk _ p Kept.phoSubstituteDef
theorem Kept.phoRestoreDef {z : State} : ∀ s p o id, Kept z s → (Machine.phoRestoreDef.act s p o id).kept z := by
  intro s p o id hk
  dsimp only [Machine.phoRestoreDef]
  grind -ring -linarith -lia [Effect.kept, Kept.updPh, Kept.lightComb, Kept.each, Kept.foldl, Kept.mk]
theorem Kept.execPhoRestore {z s : State} (hk : Kept z s) (p : Packet) : ∀ z2, Machine.execPhoRestore p s = .next z2 → Kept
    z z2 := fun _ e => by cases e; exact Kept.runCmd hk _ p Kept.phoRestoreDef
theorem Kept.phoRefmonDef {z : State} : ∀ s p o id, Kept z s → (Machine.phoRefmonDef.act s p o id).kept z := by
  intro s p o id hk
  dsimp only [Machine.phoRefmonDef]
  grind -ring -linarith -lia [Effect.kept, Kept.each, Kept.foldl, Kept.mk]
theorem Kept.execPhoRefmon {z s : State} (hk : Kept z s) (p : Packet) : ∀ z2, Machine.execPhoRefmon p s = .next z2 → Kept z
    z2 := fun _ e => by cases e; exact Kept.runCmd hk _ p Kept.phoRefmonDef

/-! ### Machine/Blocking.lean -/

theorem Kept.blkAnswer {z s : State} (hk : Kept z s) (c : BlkCmd) (result : Nat) (trigger : Nat) (fails : Nat) (us : Nat) : Kept z (State.blkAnswer s c result trigger fails us) := by
  unfold State.blkAnswer
  (repeat' split) <;> grind -ring -linarith -lia [Kept.finishParam, Kept.finish, Kept.each, Kept.foldl, Kept.mk]
theorem Kept.blkNotify {z s : State} (hk : Kept z s) (t : Nat) (c : Nat) (result : Nat) (trigger : Nat) (fails : Nat) (us :
    Nat) : Kept z (State.blkNotify s t c result trigger fails us) := by grind -ring -linarith -lia [State.blkNotify,
    Kept.each, Kept.blkAnswer, Kept.finish, Kept.updBl, Kept.each, Kept.foldl, Kept.mk]
theorem Kept.syncBanks {z s : State} (hk : Kept z s) (t : Nat) : Kept z (State.syncBanks s t) := by
    grind -ring -linarith -lia [State.syncBanks, Kept.setFs, Kept.each, Kept.foldl, Kept.mk]
theorem Kept.detain {z s : State} (hk : Kept z s) (t : Nat) (c : Nat) : Kept z (State.detain s t c) := by
  unfold State.detain
  refine Kept.ite hk ?_
  extract_lets s1 s2 lost s3 s4
  have h2 : Kept z s2 := ((((hk.updBl ..).policyNote ..).note ..).showDetention ..).syncBlk ..
  clear_value s2
  split
  · exact h2.setF ..
  · exact h2.markDead ..
  · have h3 : Kept z s3 := (h2.updOme ..).syncBanks ..
    clear_value s3
    have h4 : Kept z s4 := Kept.ite h3 (Kept.each h3 _ _ fun s j hs => hs.endJob ..)
    exact Kept.ite (h4.failOme ..) h4
theorem Kept.undetain {z s : State} (hk : Kept z s) (t : Nat) (c : Nat) : Kept z (State.undetain s t c) := by
    grind -ring -linarith -lia [State.undetain, Kept.updBl, Kept.showDetention, Kept.syncBanks, Kept.setF, Kept.markDead,
    Kept.each, Kept.foldl, Kept.mk]
theorem Kept.addRun {z s : State} (hk : Kept z s) (t : Nat) (e : BlkEntry) (carrier : Carrier) (phase : Nat) : Kept z
    (State.addRun s t e carrier phase) := by grind -ring -linarith -lia [State.addRun, Kept.updBl, Kept.syncBlk, Kept.each,
    Kept.foldl, Kept.mk]
theorem Kept.deferLane {z s : State} (hk : Kept z s) (t : Nat) (c : Nat) (prio : Nat) : Kept z (State.deferLane s t c prio)
    := by grind (splits := 30) (ematch := 20) [State.deferLane, Kept.updBl, Kept.bump, Kept.note, Kept.setFs, Kept.syncBlk,
    Kept.blkNotify, Kept.each, Kept.foldl, Kept.mk]
theorem Kept.startLane {z s : State} (hk : Kept z s) (t : Nat) (e : BlkEntry) : ∀ z2, State.startLane s t e = some z2 → Kept
    z z2 := by grind -ring -linarith -lia [State.startLane, Kept.setFs, Kept.wakeTx, Kept.addRun, Kept.startLaneset,
    Kept.deferLane, Kept.each, Kept.foldl, Kept.mk]
theorem Kept.startCrown {z s : State} (hk : Kept z s) (t : Nat) (e : BlkEntry) : ∀ z2, State.startCrown s t e = some z2 →
    Kept z z2 := by grind -ring -linarith -lia [State.startCrown, Kept.setF, Kept.addRun, Kept.each, Kept.foldl, Kept.mk]
theorem Kept.startOme {z s : State} (hk : Kept z s) (t : Nat) (e : BlkEntry) : ∀ z2, State.startOme s t e = some z2 → Kept z
    z2 := by grind -ring -linarith -lia [State.startOme, Kept.updOme, Kept.addRun, Kept.passBoundary, Kept.each, Kept.foldl,
    Kept.mk]
theorem Kept.startEntry {z s : State} (hk : Kept z s) (t : Nat) (e : BlkEntry) : ∀ z2, State.startEntry s t e = some z2 →
    Kept z z2 := by grind -ring -linarith -lia [State.startEntry, Kept.startLane, Kept.startCrown, Kept.startOme, Kept.each,
    Kept.foldl, Kept.mk]
theorem Kept.startFirst {z s : State} (hk : Kept z s) (t : Nat) (x0 : List BlkEntry) : ∀ x2 z2, State.startFirst t x0 s =
    some (x2, z2) → Kept z z2 := by fun_induction State.startFirst <;> grind -ring -linarith -lia [Kept.startEntry,
    Kept.each, Kept.foldl, Kept.mk]
theorem Kept.startSlot {z s : State} (hk : Kept z s) (t : Nat) (slot : Nat) : Kept z (State.startSlot s t slot) := by
  unfold State.startSlot
  refine Kept.ite hk ?_
  split
  · exact hk
  · next e s1 heq =>
    have h1 := Kept.startFirst hk t _ _ _ heq
    refine Kept.ite h1 ?_
    split
    · next heq2 => exact Kept.startFirst h1 t _ _ _ heq2
    · exact h1
theorem Kept.wantTrace {z s : State} (hk : Kept z s) (t : Nat) (prio : Nat) : Kept z (State.wantTrace s t prio) := by
    grind -ring -linarith -lia [State.wantTrace, Kept.updBl, Kept.each, Kept.foldl, Kept.mk]
theorem Kept.startTrace {z s : State} (hk : Kept z s) (t : Nat) : Kept z (State.startTrace s t) := by
    grind -ring -linarith -lia [State.startTrace, Kept.updBl, Kept.setF, Kept.updOme, Kept.passBoundary, Kept.syncBlk,
    Kept.each, Kept.foldl, Kept.mk]
theorem Kept.execReferenceTraceDue {z s : State} (hk : Kept z s) (t : Tile) : ∀ z2, Machine.execReferenceTraceDue t s =
    .next z2 → Kept z z2 := by grind -ring -linarith -lia [Machine.execReferenceTraceDue, Kept.wantTrace, Kept.startTrace,
    Kept.each, Kept.foldl, Kept.mk]
theorem Kept.execReferenceTraceCrownEnd {z s : State} (hk : Kept z s) (t : Tile) : ∀ z2, Machine.execReferenceTraceCrownEnd
    t s = .next z2 → Kept z z2 := by grind -ring -linarith -lia [Machine.execReferenceTraceCrownEnd, Kept.setF, Kept.updBl,
    Kept.syncBlk, Kept.each, Kept.foldl, Kept.mk]
theorem Kept.traceGivesUp {z s : State} (hk : Kept z s) (t : Nat) (f : TraceFound) : Kept z (State.traceGivesUp s t f) := by
    grind -ring -linarith -lia [State.traceGivesUp, Kept.note, Kept.updBl, Kept.markDead, Kept.failOme, Kept.each,
    Kept.foldl, Kept.mk]
theorem Kept.traceOver {z s : State} (hk : Kept z s) (n : Nat) : Kept z (State.traceOver s n) := by
  unfold State.traceOver
  extract_lets s1
  have h1 : Kept z s1 := (hk.updBl ..).updOme ..
  exact Kept.syncBlk (Kept.ite (h1.setF ..) h1) ..
theorem Kept.traceTaken {z s : State} (hk : Kept z s) (b : Blk) (n : Nat) (us : Nat) (trig : Nat) (ok : Nat) (found : TraceFound) : Kept z (State.traceTaken s b n us trig ok found) := by
  unfold State.traceTaken
  extract_lets s3 s4 s5 s6
  have h3 : Kept z s3 := ((hk.bump ..).setFs ..).updBl ..
  have h4 : Kept z s4 := h3.updBl ..
  have h5 : Kept z s5 := Kept.ite (h4.markDead ..) h4
  have h6 : Kept z s6 := Kept.ite ((h5.setF ..).omeStart ..) h5
  exact Kept.each (Kept.ite h3 h6) _ _ fun s id hs => hs.finish ..
theorem Kept.traceKept {z s : State} (hk : Kept z s) (b : Blk) (n : Nat) (trig : Nat) (found : TraceFound) : Kept z (State.traceKept s b n trig found) := by
  unfold State.traceKept
  extract_lets s3 s4 s5
  have h4 : Kept z s4 := ((hk.bump ..).setFs ..).updBl ..
  exact Kept.each (Kept.ite (h4.traceGivesUp ..) h4) _ _ fun s id hs => hs.finish ..
theorem Kept.execReferenceTraceEnd {z s : State} (hk : Kept z s) (t : Tile) (found : TraceFound) : ∀ z2, Machine.execReferenceTraceEnd t found s = .next z2 → Kept z z2 := by
  intro z2 e
  rw [← Host.Outcome.next.inj e]
  exact Kept.ite hk (Kept.ite ((hk.traceOver ..).traceTaken ..) ((hk.traceOver ..).traceKept ..))
theorem Kept.execBlockTempEvaluation {z s : State} (hk : Kept z s) (t : Tile) (avg : BitVec 16) : ∀ z2,
    Machine.execBlockTempEvaluation t avg s = .next z2 → Kept z z2 := by grind -ring -linarith -lia
    [Machine.execBlockTempEvaluation, Kept.updBl, Kept.each, Kept.queueChan, Kept.each, Kept.foldl, Kept.mk]
theorem Kept.execBlockSettleTimeout {z s : State} (hk : Kept z s) (t : Tile) : ∀ z2, Machine.execBlockSettleTimeout t s =
    .next z2 → Kept z z2 := by grind -ring -linarith -lia [Machine.execBlockSettleTimeout, Kept.startTrace, Kept.each,
    Kept.startSlot, Kept.each, Kept.foldl, Kept.mk]
theorem Kept.execBlockTimetableDue {z s : State} (hk : Kept z s) (t : Tile) (chan : BitVec 16) : ∀ z2,
    Machine.execBlockTimetableDue t chan s = .next z2 → Kept z z2 := by grind -ring -linarith -lia
    [Machine.execBlockTimetableDue, Kept.queueChan, Kept.each, Kept.foldl, Kept.mk]
theorem Kept.execBlockRunStart {z s : State} (hk : Kept z s) (t : Tile) (slot : Fin 5) : ∀ z2, Machine.execBlockRunStart t
    slot s = .next z2 → Kept z z2 := by grind -ring -linarith -lia [Machine.execBlockRunStart, Kept.startTrace,
    Kept.startSlot, Kept.each, Kept.foldl, Kept.mk]
theorem Kept.commitEq {z s : State} (hk : Kept z s) (p : Nat) (j : Nat) (eq : List (BitVec 8)) : Kept z (State.commitEq s p
    j eq) := by grind -ring -linarith -lia [State.commitEq, Kept.setF, Kept.wr, Kept.each, Kept.foldl, Kept.mk]
theorem Kept.restoreLane {z s : State} (hk : Kept z s) (t : Nat) (r : BlkRun) : Kept z (State.restoreLane s t r) := by
    grind -ring -linarith -lia [State.restoreLane, Kept.updBl, Kept.dropRun, Kept.startLaneset, Kept.each, Kept.foldl,
    Kept.mk]
theorem Kept.runFound {z s : State} (hk : Kept z s) (n : Nat) (c : Nat) (res : Nat) (r : BlkRun) (found : BlkFound) : Kept z (State.runFound s n c res r found) := by
  unfold State.runFound
  extract_lets lane p wasOut fails s1 s2 s3 release s4
  have h1 : Kept z s1 := (hk.setFs ..).updLink ..
  clear_value s1
  have h2 : Kept z s2 := Kept.ite ((Kept.commitChan (Kept.ite (h1.commitEq ..) h1) ..).bump ..) (((h1.updBl ..).bump ..).note ..)
  clear_value s2
  have h3 : Kept z s3 := (h2.recentre ..).blkNotify ..
  clear_value s3
  have h4 : Kept z s4 := Kept.ite (h3.undetain ..) h3
  exact Kept.ite ((h4.dropRun ..).detain ..) (Kept.ite (h4.restoreLane ..) ((h4.dropRun ..).passBoundary ..))
theorem Kept.execBlockRunEnd {z s : State} (hk : Kept z s) (t : Tile) (chan : BitVec 16) (found : BlkFound) : ∀ z2, Machine.execBlockRunEnd t chan found s = .next z2 → Kept z z2 := by
  intro z2 e
  rw [← Host.Outcome.next.inj e]
  generalize List.find? _ _ = a
  generalize s.runResult _ _ _ = b
  cases a <;> cases b
  · exact hk
  · exact hk
  · exact hk
  · exact hk.runFound ..
theorem Kept.execBlockRunAbort {z s : State} (hk : Kept z s) (t : Tile) (chan : BitVec 16) : ∀ z2, Machine.execBlockRunAbort
    t chan s = .next z2 → Kept z z2 := by grind -ring -linarith -lia [Machine.execBlockRunAbort, Kept.abortRuns, Kept.each,
    Kept.foldl, Kept.mk]
theorem Kept.execLaneRunRefused {z s : State} (hk : Kept z s) (p : Port) : ∀ z2, Machine.execLaneRunRefused p s = .next z2 → Kept z z2 := by
  intro z2 e
  unfold Machine.execLaneRunRefused at e
  extract_lets q t at e
  split at e
  · cases e; exact hk
  · next r _ =>
    split at e
    · rw [← Host.Outcome.next.inj e]; exact hk.restoreLane ..
    · split at e
      · rw [← Host.Outcome.next.inj e]; exact (hk.dropRun ..).deferLane ..
      · split at e
        · cases e; exact hk
        · split at e
          · cases e; exact hk
          · next heq => rw [← Host.Outcome.next.inj e]; exact (Kept.startLane (hk.dropRun ..) _ _ _ heq).updBl ..
theorem Kept.ageEyes {z s : State} (hk : Kept z s) (p : Nat) : Kept z (State.ageEyes s p) := by grind -ring -linarith -lia
    [State.ageEyes, Kept.fresh, Kept.updLink, Kept.retireLane, Kept.each, Kept.replanRate, Kept.each, Kept.foldl, Kept.mk]
theorem Kept.execAgeingEvaluation {z s : State} (hk : Kept z s) (t : Tile) (m : AgeMeasure) : ∀ z2, Machine.execAgeingEvaluation t m s = .next z2 → Kept z z2 := by
  unfold Machine.execAgeingEvaluation
  (repeat' split) <;> grind -ring -linarith -lia [Kept.note, Kept.retireLane, Kept.abortRuns, Kept.detain, Kept.ageEyes, Kept.replan, Kept.each, Kept.each, Kept.foldl, Kept.mk]
theorem Kept.addBlkCmd {z s : State} (hk : Kept z s) (t : Nat) (id : Nat) (chan : Nat) (left : List Nat) (release : Bool) :
    Kept z (State.addBlkCmd s t id chan left release) := by grind -ring -linarith -lia [State.addBlkCmd, Kept.updBl,
    Kept.each, Kept.foldl, Kept.mk]
theorem Kept.askTrace {z s : State} (hk : Kept z s) (t : Nat) (id : Nat) : Kept z (State.askTrace s t id) := by
    grind -ring -linarith -lia [State.askTrace, Kept.wantTrace, Kept.updBl, Kept.each, Kept.foldl, Kept.mk]
theorem Kept.blockRunDef {z : State} : ∀ s p o id, Kept z s → (Machine.blockRunDef.act s p o id).kept z := by
  intro s p o id hk
  dsimp only [Machine.blockRunDef]
  grind -ring -linarith -lia [Effect.kept, Kept.each, Kept.queueChan, Kept.addBlkCmd, Kept.askTrace, Kept.each, Kept.foldl, Kept.mk]
theorem Kept.execBlockRun {z s : State} (hk : Kept z s) (p : Packet) : ∀ z2, Machine.execBlockRun p s = .next z2 → Kept z z2
    := fun _ e => by cases e; exact Kept.runCmd hk _ p Kept.blockRunDef
theorem Kept.blockTraceDef {z : State} : ∀ s p o id, Kept z s → (Machine.blockTraceDef.act s p o id).kept z := by
  intro s p o id hk
  dsimp only [Machine.blockTraceDef]
  grind -ring -linarith -lia [Effect.kept, Kept.askTrace, Kept.each, Kept.foldl, Kept.mk]
theorem Kept.execBlockTrace {z s : State} (hk : Kept z s) (p : Packet) : ∀ z2, Machine.execBlockTrace p s = .next z2 → Kept
    z z2 := fun _ e => by cases e; exact Kept.runCmd hk _ p Kept.blockTraceDef
theorem Kept.blockReleaseDef {z : State} : ∀ s p o id, Kept z s → (Machine.blockReleaseDef.act s p o id).kept z := by
  intro s p o id hk
  dsimp only [Machine.blockReleaseDef]
  grind -ring -linarith -lia [Effect.kept, Kept.queueChan, Kept.addBlkCmd, Kept.each, Kept.foldl, Kept.mk]
theorem Kept.execBlockRelease {z s : State} (hk : Kept z s) (p : Packet) : ∀ z2, Machine.execBlockRelease p s = .next z2 →
    Kept z z2 := fun _ e => by cases e; exact Kept.runCmd hk _ p Kept.blockReleaseDef
theorem Kept.blockQueryDef {z : State} : ∀ s p o id, Kept z s → (Machine.blockQueryDef.act s p o id).kept z := by
  intro s p o id hk
  dsimp only [Machine.blockQueryDef]
  grind -ring -linarith -lia [Effect.kept, Kept.each, Kept.foldl, Kept.mk]
theorem Kept.execBlockQuery {z s : State} (hk : Kept z s) (p : Packet) : ∀ z2, Machine.execBlockQuery p s = .next z2 → Kept
    z z2 := fun _ e => by cases e; exact Kept.runCmd hk _ p Kept.blockQueryDef
theorem Kept.ageReplanResetDef {z : State} : ∀ s p o id, Kept z s → (Machine.ageReplanResetDef.act s p o id).kept z := by
  intro s p o id hk
  dsimp only [Machine.ageReplanResetDef]
  grind -ring -linarith -lia [Effect.kept, Kept.setF, Kept.setFs, Kept.each, Kept.each, Kept.foldl, Kept.mk]
theorem Kept.execAgeReplanReset {z s : State} (hk : Kept z s) (p : Packet) : ∀ z2, Machine.execAgeReplanReset p s = .next z2
    → Kept z z2 := fun _ e => by cases e; exact Kept.runCmd hk _ p Kept.ageReplanResetDef
theorem Kept.ageQueryDef {z : State} : ∀ s p o id, Kept z s → (Machine.ageQueryDef.act s p o id).kept z := by
  intro s p o id hk
  dsimp only [Machine.ageQueryDef]
  grind -ring -linarith -lia [Effect.kept, Kept.each, Kept.foldl, Kept.mk]
theorem Kept.execAgeQuery {z s : State} (hk : Kept z s) (p : Packet) : ∀ z2, Machine.execAgeQuery p s = .next z2 → Kept z z2
    := fun _ e => by cases e; exact Kept.runCmd hk _ p Kept.ageQueryDef

/-! ### Machine/SecOps.lean -/

theorem Kept.authFail {z s : State} (hk : Kept z s)  : Kept z (State.authFail s) := by grind -ring -linarith -lia
    [State.authFail, Kept.bump, Kept.updSec, Kept.raiseMod, Kept.each, Kept.foldl, Kept.mk]
theorem Kept.setNextLeaf {z s : State} (hk : Kept z s) (q : Nat) : Kept z (State.setNextLeaf s q) := by
    grind -ring -linarith -lia [State.setNextLeaf, Kept.setF, Kept.updSec, Kept.each, Kept.foldl, Kept.mk]
theorem Kept.setResLeaf {z s : State} (hk : Kept z s) (q : Nat) : Kept z (State.setResLeaf s q) := by
    grind -ring -linarith -lia [State.setResLeaf, Kept.setF, Kept.updSec, Kept.each, Kept.foldl, Kept.mk]
theorem Kept.setSlot {z s : State} (hk : Kept z s) (k : Nat) (v : Nat) : Kept z (State.setSlot s k v) := by
    grind -ring -linarith -lia [State.setSlot, Kept.setF, Kept.each, Kept.foldl, Kept.mk]
theorem Kept.runImage {z s : State} (hk : Kept z s) (o : Option (List Byte)) (src : Nat) (trial : Bool) : Kept z (State.runImage s o src trial) := by
  unfold State.runImage
  dsimp only
  repeat' (first | assumption | with_reducible apply Kept.ite | with_reducible apply Kept.setF | with_reducible apply Kept.setNextLeaf | with_reducible apply Kept.updSec | with_reducible apply Kept.each | with_reducible apply Kept.foldl | split | intro _)
  all_goals grind -ring -linarith -lia [Kept.setF, Kept.setNextLeaf, Kept.updSec, Kept.each, Kept.foldl, Kept.mk]
theorem Kept.bootSlots {z s : State} (hk : Kept z s) (x0 : List (Nat × Nat)) : Kept z (State.bootSlots s x0).1 := by
    fun_induction State.bootSlots <;> grind -ring -linarith -lia [Kept.setSlot, Kept.authFail, Kept.updSec, Kept.runImage,
    Kept.each, Kept.foldl, Kept.mk]
theorem Kept.boot {z s : State} (hk : Kept z s) (chain : List Byte) : Kept z (State.boot s chain).1 := by
    grind -ring -linarith -lia [State.boot, Kept.bootSlots, Kept.runImage, Kept.authFail, Kept.updSec, Kept.each,
    Kept.foldl, Kept.mk]
theorem Kept.takeLeaf {z s : State} (hk : Kept z s)  : Kept z (State.takeLeaf s).2 := by grind -ring -linarith -lia
    [State.takeLeaf, Kept.setResLeaf, Kept.setNextLeaf, Kept.each, Kept.foldl, Kept.mk]

/-! ### Machine/Clocks.lean -/

theorem Kept.disableQueue {z s : State} (hk : Kept z s) (q : Nat) : Kept z (State.disableQueue s q) := by
    grind -ring -linarith -lia [State.disableQueue, Kept.setF, Kept.updQu, Kept.updPr, Kept.setFs, Kept.each, Kept.foldl,
    Kept.mk]
theorem Kept.hostPortDown {z s : State} (hk : Kept z s) (n : Nat) : Kept z (State.hostPortDown s n) := by
    grind -ring -linarith -lia [State.hostPortDown, Kept.setFs, Kept.each, Kept.disableQueue, Kept.raiseMod, Kept.each,
    Kept.foldl, Kept.mk]
theorem Kept.strapDefaults {z s : State} (hk : Kept z s)  : Kept z (State.strapDefaults s) := by grind -ring -linarith -lia
    [State.strapDefaults, Kept.setFs, Kept.each, Kept.setF, Kept.each, Kept.foldl, Kept.mk]
theorem Kept.wipe {z s : State} (hk : Kept z s) (classes : Cls → Bool) : Kept z (State.wipe s classes) := by
    grind -ring -linarith -lia [State.wipe, Kept.resetRegs, Kept.each, Kept.wr, Kept.strapDefaults, Kept.updClk, Kept.each,
    Kept.foldl, Kept.mk]
theorem Kept.rebuildRoles {z s : State} (hk : Kept z s)  : Kept z (State.rebuildRoles s) := by grind -ring -linarith -lia
    [State.rebuildRoles, Kept.each, Kept.wr, Kept.updClk, Kept.each, Kept.foldl, Kept.mk]
theorem Kept.commitRates {z s : State} (hk : Kept z s)  : Kept z (State.commitRates s) := by grind -ring -linarith -lia
    [State.commitRates, Kept.each, Kept.setF, Kept.updBl, Kept.each, Kept.foldl, Kept.mk]
theorem Kept.dropWork {z s : State} (hk : Kept z s) (cold : Bool) : Kept z (State.dropWork s cold) := by
  unfold State.dropWork
  extract_lets
  refine Kept.setFs (Kept.each ?_ _ _ fun s q hs => (hs.setF ..).wr ..) ..
  exact ⟨hk.1, fun hz => ⟨Map.canon_filter _ (hk.2 hz).1, (hk.2 hz).2⟩⟩
theorem Kept.dropPool {z s : State} (hk : Kept z s)  : Kept z (State.dropPool s) := by
  exact ⟨hk.1, fun hz => ⟨(hk.2 hz).1, (hk.2 hz).2.1, (hk.2 hz).2.2.1, rfl⟩⟩
theorem Kept.carveOut {z s : State} (hk : Kept z s)  : Kept z (State.carveOut s) := by grind -ring -linarith -lia
    [State.carveOut, Kept.updPool, Kept.each, Kept.foldl, Kept.mk]
theorem Kept.strapSafe {z s : State} (hk : Kept z s)  : Kept z (State.strapSafe s) := by grind -ring -linarith -lia
    [State.strapSafe, Kept.each, Kept.setF, Kept.each, Kept.foldl, Kept.mk]
theorem Kept.dropLog {z s : State} (hk : Kept z s)  : Kept z (State.dropLog s) := hk.of_same rfl rfl rfl rfl rfl
theorem Kept.coldReset {z s : State} (hk : Kept z s) (kind : Nat) (origin : Nat) : Kept z (State.coldReset s kind origin) := by
  unfold State.coldReset
  extract_lets s0 cls s1 s2 s3
  have h0 : Kept z s0 := Kept.ite hk.condenseAll hk
  clear_value s0
  have h1 : Kept z s1 := ((((h0.dropWork ..).wipe ..).dropPool).dropLog).strapSafe
  clear_value s1
  have h2 : Kept z s2 := h1.of_same rfl rfl rfl rfl rfl
  clear_value s2
  have h3 : Kept z s3 := Kept.ite (h2.emit ..) h2
  exact (((h3.setFs ..).bump ..).updClk ..).syncRc
theorem Kept.warmReset {z s : State} (hk : Kept z s) (kind : Nat) (origin : Nat) : Kept z (State.warmReset s kind origin) := by
  unfold State.warmReset
  extract_lets s0 cls s1 scope s2 s3 fl cm s4
  have h1 : Kept z s1 := ((hk.condenseAll).dropWork ..).wipe ..
  clear_value s1
  have hs : ∀ (s : State) (a b : Fld), Kept z s → Kept z (scope s a b) := fun s a b hs =>
    Kept.ite (hs.setF ..) (Kept.ite ((hs.setF ..).bump ..) hs)
  clear_value scope
  have h2 : Kept z s2 := hs _ _ _ (Kept.each h1 _ _ fun s t h => hs _ _ _ h)
  clear_value s2
  have h3 : Kept z s3 := Kept.setF (Kept.each h2 _ _ fun s t hs => (hs.setF ..).leaveTest ..) ..
  clear_value s3
  have h4 : Kept z s4 := h3.of_same rfl rfl rfl rfl rfl
  exact ((h4.setFs ..).bump ..).updClk ..
theorem Kept.powerOn {z s : State} (hk : Kept z s)  : Kept z (State.powerOn s) := by grind (splits := 30) (ematch := 20)
    [State.powerOn, Kept.dropWork, Kept.wipe, Kept.dropPool, Kept.dropLog, Kept.setB, Kept.syncRc, Kept.each, Kept.foldl,
    Kept.mk]
theorem Kept.rebuildPool {z s : State} (hk : Kept z s)  : Kept z (State.rebuildPool s) := by grind -ring -linarith -lia
    [State.rebuildPool, Kept.each, Kept.abortMig, Kept.invalDone, Kept.updPool, Kept.setFam, Kept.releaseFrame, Kept.each,
    Kept.foldl, Kept.mk]
theorem Kept.checkSteppings {z s : State} (hk : Kept z s)  : Kept z (State.checkSteppings s) := by
    grind -ring -linarith -lia [State.checkSteppings, Kept.wr, Kept.raiseMod, Kept.each, Kept.foldl, Kept.mk]
theorem Kept.startRoles {z s : State} (hk : Kept z s)  : Kept z (State.startRoles s) := by grind -ring -linarith -lia
    [State.startRoles, Kept.setFs, Kept.setTwin, Kept.each, Kept.foldl, Kept.mk]
theorem Kept.coreStart {z s : State} (hk : Kept z s)  : Kept z (State.coreStart s) := by
  unfold State.coreStart
  extract_lets warm s1 s2 bad s3 s4
  have h1 : Kept z s1 := Kept.ite hk (((hk.checkSteppings.carveOut).setCopies ..).setF ..)
  clear_value s1
  have h2 : Kept z s2 := h1.rebuildRoles.syncFeeds.commitRates.startRoles
  clear_value s2
  have h3 : Kept z s3 := Kept.each h2 _ _ fun s t hs => Kept.ite (hs.setF ..) (Kept.setFs (Kept.startTile (Kept.ite (hs.setF ..) hs) ..) ..)
  clear_value s3
  have h4 : Kept z s4 := Kept.ite h3.rebuildPool h3
  exact ((((h4.siteStart ..).siteStart ..).updClk ..).adoptFree).syncFaultN
theorem Kept.execPowerOn {z s : State} (hk : Kept z s) (a : Bool) (b : Bool) : ∀ z2, Machine.execPowerOn a b s = .next z2 →
    Kept z z2 := by grind -ring -linarith -lia [Machine.execPowerOn, Kept.powerOn, Kept.updClk, Kept.updPow, Kept.emit,
    Kept.each, Kept.foldl, Kept.mk]
theorem Kept.execStrapSample {z s : State} (hk : Kept z s) (straps : BitVec 8) : ∀ z2, Machine.execStrapSample straps s =
    .next z2 → Kept z z2 := by grind -ring -linarith -lia [Machine.execStrapSample, Kept.wr, Kept.strapDefaults,
    Kept.strapSafe, Kept.updClk, Kept.note, Kept.each, Kept.foldl, Kept.mk]
theorem Kept.execBootLoad {z s : State} (hk : Kept z s) (chain : List Byte) : ∀ z2, Machine.execBootLoad chain s = .next z2
    → Kept z z2 := by grind -ring -linarith -lia [Machine.execBootLoad, Kept.boot, Kept.journalise, Kept.updClk,
    Kept.coreStart, Kept.each, Kept.foldl, Kept.mk]
theorem Kept.execProctorReady {z s : State} (hk : Kept z s)  : ∀ z2, Machine.execProctorReady s = .next z2 → Kept z z2 := by
    grind -ring -linarith -lia [Machine.execProctorReady, Kept.setB, Kept.updClk, Kept.each, Kept.note, Kept.updSec,
    Kept.each, Kept.foldl, Kept.mk]
theorem Kept.execMresetNLow {z s : State} (hk : Kept z s)  : ∀ z2, Machine.execMresetNLow s = .next z2 → Kept z z2 := by
    grind -ring -linarith -lia [Machine.execMresetNLow, Kept.coldReset, Kept.updClk, Kept.each, Kept.foldl, Kept.mk]
theorem Kept.execColdReset {z s : State} (hk : Kept z s)  : ∀ z2, Machine.execColdReset s = .next z2 → Kept z z2 := by
    grind -ring -linarith -lia [Machine.execColdReset, Kept.updClk, Kept.coldReset, Kept.each, Kept.foldl, Kept.mk]
theorem Kept.execWarmReset {z s : State} (hk : Kept z s)  : ∀ z2, Machine.execWarmReset s = .next z2 → Kept z z2 := by
    grind -ring -linarith -lia [Machine.execWarmReset, Kept.warmReset, Kept.each, Kept.foldl, Kept.mk]
theorem Kept.execRefclkLoss {z s : State} (hk : Kept z s)  : ∀ z2, Machine.execRefclkLoss s = .next z2 → Kept z z2 := by
    grind (splits := 30) (ematch := 20) [Machine.execRefclkLoss, Kept.setFs, Kept.bump, Kept.each, Kept.setF, Kept.updClk,
    Kept.note, Kept.raiseMod, Kept.each, Kept.foldl, Kept.mk]
theorem Kept.execRefclkReturn {z s : State} (hk : Kept z s) (t00 : Bool) (t47 : Bool) : ∀ z2, Machine.execRefclkReturn t00
    t47 s = .next z2 → Kept z z2 := by grind -ring -linarith -lia [Machine.execRefclkReturn, Kept.setFs, Kept.fallMod,
    Kept.updClk, Kept.coreStart, Kept.each, Kept.foldl, Kept.mk]
theorem Kept.execCdcTimeout {z s : State} (hk : Kept z s) (t : Tile) : ∀ z2, Machine.execCdcTimeout t s = .next z2 → Kept z
    z2 := by grind -ring -linarith -lia [Machine.execCdcTimeout, Kept.bump, Kept.assertTile, Kept.each, Kept.foldl, Kept.mk]
theorem Kept.resetDef {z : State} : ∀ s p o id, Kept z s → (Machine.resetDef.act s p o id).kept z := by
  intro s p o id hk
  dsimp only [Machine.resetDef]
  grind -ring -linarith -lia [Effect.kept, Kept.updClk, Kept.setF, Kept.each, Kept.foldl, Kept.mk]
theorem Kept.execReset {z s : State} (hk : Kept z s) (p : Packet) : ∀ z2, Machine.execReset p s = .next z2 → Kept z z2 :=
    fun _ e => by cases e; exact Kept.runCmd hk _ p Kept.resetDef
theorem Kept.sendDoze {z s : State} (hk : Kept z s) (t : Nat) : Kept z (State.sendDoze s t) := by grind -ring -linarith -lia
    [State.sendDoze, Kept.each, Kept.updLink, Kept.enqueue, Kept.each, Kept.foldl, Kept.mk]
theorem Kept.sendAwake {z s : State} (hk : Kept z s) (t : Nat) : Kept z (State.sendAwake s t) := by
    grind -ring -linarith -lia [State.sendAwake, Kept.each, Kept.updLink, Kept.enqueue, Kept.each, Kept.foldl, Kept.mk]
theorem Kept.endPowerRuns {z s : State} (hk : Kept z s) (t : Nat) (block : Nat) : Kept z (State.endPowerRuns s t block) :=
    by grind -ring -linarith -lia [State.endPowerRuns, Kept.updClk, Kept.each, Kept.finish, Kept.setF, Kept.each,
    Kept.foldl, Kept.mk]
theorem Kept.asleepNow {z s : State} (hk : Kept z s) (t : Nat) (mode : Nat) : Kept z (State.asleepNow s t mode) := by
  unfold State.asleepNow
  dsimp only
  (repeat' split) <;> grind -ring -linarith -lia [Kept.setF, Kept.setAsleep, Kept.updClk, Kept.endPowerRuns, Kept.requestWake, Kept.each, Kept.foldl, Kept.mk]
theorem Kept.abandon {z s : State} (hk : Kept z s) (t : Nat) (block : Nat) : Kept z (State.abandon s t block) := by
  unfold State.abandon
  (repeat' split) <;> grind -ring -linarith -lia [Kept.sendAwake, Kept.setFs, Kept.updClk, Kept.updOme, Kept.endPowerRuns, Kept.each, Kept.foldl, Kept.mk]
theorem Kept.enterD1 {z s : State} (hk : Kept z s) (t : Nat) : Kept z (State.enterD1 s t) := by
  unfold State.enterD1
  extract_lets s1 hold s2 s3 s4 s5
  have h1 : Kept z s1 := Kept.each hk _ _ fun s c hs => Kept.ite ((hs.setFs ..).updPh ..) hs
  clear_value s1
  have h2 : Kept z s2 := h1.updPh ..
  clear_value s2
  have h3 : Kept z s3 := Kept.ite (h2.setF ..) h2
  clear_value s3
  have h4 : Kept z s4 := Kept.ite (h3.setF ..) h3
  clear_value s4
  have h5 : Kept z s5 := Kept.each h4 _ _ fun s p hs => Kept.ite (hs.updLink ..) hs
  exact h5.asleepNow ..
theorem Kept.execD1Entry {z s : State} (hk : Kept z s) (t : Tile) : ∀ z2, Machine.execD1Entry t s = .next z2 → Kept z z2 :=
    by grind -ring -linarith -lia [Machine.execD1Entry, Kept.sendDoze, Kept.updOme, Kept.enterD1, Kept.each, Kept.foldl,
    Kept.mk]
theorem Kept.execD1EntryAbandon {z s : State} (hk : Kept z s) (t : Tile) : ∀ z2, Machine.execD1EntryAbandon t s = .next z2 →
    Kept z z2 := by grind -ring -linarith -lia [Machine.execD1EntryAbandon, Kept.abandon, Kept.each, Kept.foldl, Kept.mk]
theorem Kept.execPortActivityWake {z s : State} (hk : Kept z s) (p : Port) : ∀ z2, Machine.execPortActivityWake p s = .next
    z2 → Kept z z2 := by grind -ring -linarith -lia [Machine.execPortActivityWake, Kept.requestWake, Kept.each, Kept.foldl,
    Kept.mk]
theorem Kept.awakeNow {z s : State} (hk : Kept z s) (t : Nat) (left : Nat) : Kept z (State.awakeNow s t left) := by
  unfold State.awakeNow
  extract_lets us s1 m s2
  have h2 : Kept z s2 := ((((hk.setF ..).setSat ..).setAsleep ..).updClk ..).pumpStreams
  exact Kept.ite (h2.beginEntry ..) (Kept.ite ((h2.endPowerRuns ..).beginEntry ..) (Kept.ite (h2.endPowerRuns ..) h2))
theorem Kept.execD1Exit {z s : State} (hk : Kept z s) (t : Tile) : ∀ z2, Machine.execD1Exit t s = .next z2 → Kept z z2 := by
  unfold Machine.execD1Exit
  extract_lets n back s1 lock s2 s3 s4 s5
  have hb : Kept z back := Kept.each hk _ _ fun s c hs => Kept.ite (hs.setFs ..) hs
  clear_value back
  have h2 : Kept z s2 := (hb.updPh ..).updPh ..
  clear_value s2
  have h3 : Kept z s3 := Kept.ite (h2.setFs ..) h2
  clear_value s3
  have h4 : Kept z s4 := Kept.ite (h3.setF ..) h3
  clear_value s4
  have h5 : Kept z s5 := (h4.setF ..).updCr ..
  clear_value s5
  have h6 : Kept z ((s5.sendAwake n).awakeNow n 2) := (h5.sendAwake ..).awakeNow ..
  intro z2 e
  split at e
  · exact Host.Outcome.next.inj e ▸ hk
  · exact Host.Outcome.next.inj e ▸ h6
theorem Kept.enterD2 {z s : State} (hk : Kept z s) (t : Nat) : Kept z (State.enterD2 s t) := by
  unfold State.enterD2
  extract_lets s1 s2 s3 s4
  have h1 : Kept z s1 := Kept.each hk _ _ fun s p hs => (Kept.ite (hs.declareDown ..) hs).shut ..
  clear_value s1
  have h2 : Kept z s2 := (h1.abortRuns ..).omeStop ..
  clear_value s2
  have h3 : Kept z s3 := Kept.ite (h2.setF ..) h2
  clear_value s3
  exact ((Kept.each h3 _ _ fun s c hs => hs.darkComb ..).updPh ..).asleepNow ..
theorem Kept.execD2Entry {z s : State} (hk : Kept z s) (t : Tile) : ∀ z2, Machine.execD2Entry t s = .next z2 → Kept z z2 :=
    by grind -ring -linarith -lia [Machine.execD2Entry, Kept.enterD2, Kept.abandon, Kept.each, Kept.foldl, Kept.mk]
theorem Kept.execD2Exit {z s : State} (hk : Kept z s) (t : Tile) : ∀ z2, Machine.execD2Exit t s = .next z2 → Kept z z2 := by
    grind -ring -linarith -lia [Machine.execD2Exit, Kept.startTile, Kept.awakeNow, Kept.each, Kept.foldl, Kept.mk]
theorem Kept.pwrTileModeDef {z : State} : ∀ s p o id, Kept z s → (Machine.pwrTileModeDef.act s p o id).kept z := by
  intro s p o id hk
  have h1 : Kept z ((s.setF (F.TILE_PWR_CTL_MODE p.unit) (p.w 0)).applyMode p.unit) := (hk.setF ..).applyMode ..
  exact Effect.kept_ite (Effect.kept_now (hk.setF ..) ..) (Effect.kept_ite (Effect.kept_now h1 ..) (Effect.kept_later (h1.updClk ..)))
theorem Kept.execPwrTileMode {z s : State} (hk : Kept z s) (p : Packet) : ∀ z2, Machine.execPwrTileMode p s = .next z2 →
    Kept z z2 := fun _ e => by cases e; exact Kept.runCmd hk _ p Kept.pwrTileModeDef
theorem Kept.pwrModuleStandbyDef {z : State} : ∀ s p o id, Kept z s → (Machine.pwrModuleStandbyDef.act s p o id).kept z := by
  intro s p o id hk
  dsimp only [Machine.pwrModuleStandbyDef]
  grind -ring -linarith -lia [Effect.kept, Kept.each, Kept.foldl, Kept.mk]
theorem Kept.execPwrModuleStandby {z s : State} (hk : Kept z s) (p : Packet) : ∀ z2, Machine.execPwrModuleStandby p s =
    .next z2 → Kept z z2 := fun _ e => by cases e; exact Kept.runCmd hk _ p Kept.pwrModuleStandbyDef
theorem Kept.enterM1 {z s : State} (hk : Kept z s)  : Kept z (State.enterM1 s) := by
  unfold State.enterM1
  extract_lets s1 s2
  have h1 : Kept z s1 := ((Kept.each hk.condenseAll _ _ fun s q hs => hs.disableQueue ..).hostPortDown ..).hostPortDown ..
  clear_value s1
  have h2 : Kept z s2 := Kept.each h1 _ _ fun s t hs => Kept.ite hs (hs.enterD2 ..)
  exact h2.updClk ..
theorem Kept.pwrModuleResumeDef {z : State} : ∀ s p o id, Kept z s → (Machine.pwrModuleResumeDef.act s p o id).kept z := by
  intro s p o id hk
  dsimp only [Machine.pwrModuleResumeDef]
  grind -ring -linarith -lia [Effect.kept, Kept.updClk, Kept.each, Kept.foldl, Kept.mk]
theorem Kept.execPwrModuleResume {z s : State} (hk : Kept z s) (p : Packet) : ∀ z2, Machine.execPwrModuleResume p s = .next
    z2 → Kept z z2 := fun _ e => by cases e; exact Kept.runCmd hk _ p Kept.pwrModuleResumeDef
theorem Kept.execM1Exit {z s : State} (hk : Kept z s) (row : Fin 4) : ∀ z2, Machine.execM1Exit row s = .next z2 → Kept z z2
    := by grind -ring -linarith -lia [Machine.execM1Exit, Kept.each, Kept.startTile, Kept.awakeNow, Kept.updClk, Kept.each,
    Kept.foldl, Kept.mk]

/-! ### Machine/Thermal.lean -/

theorem Kept.syncMemMax {z s : State} (hk : Kept z s)  : Kept z (State.syncMemMax s) := by grind -ring -linarith -lia
    [State.syncMemMax, Kept.setF, Kept.each, Kept.foldl, Kept.mk]
theorem Kept.memTempTile {z s : State} (hk : Kept z s) (t : Nat) (temp : Nat) (trip : Bool) : Kept z (State.memTempTile s t
    temp trip) := by grind -ring -linarith -lia [State.memTempTile, Kept.setFs, Kept.updTh, Kept.memUnavailable,
    Kept.memReturn, Kept.each, Kept.foldl, Kept.mk]
theorem Kept.memSample {z s : State} (hk : Kept z s) (first : Nat) (tiles : List Nat) (v : Nat) : Kept z (State.memSample s first tiles v) := by
  unfold State.memSample
  extract_lets h cooled trip s1 s2 s3 s4
  clear_value trip
  have h1 : Kept z s1 := Kept.ite (hk.note ..) hk
  clear_value s1
  have h2 : Kept z s2 := Kept.ite (h1.note ..) h1
  clear_value s2
  have h3 : Kept z s3 := Kept.each h2 _ _ fun s u hs => hs.memTempTile ..
  have h4 : Kept z s4 := Kept.ite (Kept.each h3 _ _ fun s u hs => hs.assertTile ..) h3
  exact h4.syncMemMax.rewriteDist.pumpStreams
theorem Kept.execMemTempSample {z s : State} (hk : Kept z s) (t : Tile) (temp : BitVec 8) : ∀ z2, Machine.execMemTempSample t temp s = .next z2 → Kept z z2 := by
  intro z2 e
  unfold Machine.execMemTempSample at e
  generalize (if isMemTile t.val then stackTiles t.val else if isCorner t.val then [t.val] else []) = l at e
  cases l with
  | nil => cases e; exact hk
  | cons first rest =>
    have h := Host.Outcome.next.inj e
    rw [← h]
    exact hk.memSample ..
theorem Kept.syncTjMax {z s : State} (hk : Kept z s)  : Kept z (State.syncTjMax s) := by grind -ring -linarith -lia
    [State.syncTjMax, Kept.setFs, Kept.each, Kept.foldl, Kept.mk]
theorem Kept.tjActs {z s : State} (hk : Kept z s) (t : Nat) (tj : Int) : Kept z (State.tjActs s t tj) := by
  unfold State.tjActs
  (repeat' split) <;> grind -ring -linarith -lia [Kept.setF, Kept.note, Kept.updTh, Kept.setFs, Kept.assertTile, Kept.fall, Kept.each, Kept.foldl, Kept.mk]
theorem Kept.execTjSample {z s : State} (hk : Kept z s) (t : Tile) (diodes : List (BitVec 16)) (ring : Option (BitVec 16)) : ∀ z2, Machine.execTjSample t diodes ring s = .next z2 → Kept z z2 := by
  unfold Machine.execTjSample
  dsimp only
  (repeat' split) <;> grind -ring -linarith -lia [Kept.updTh, Kept.setFs, Kept.setF, Kept.note, Kept.fall, Kept.tjActs, Kept.syncTjMax, Kept.assertTile, Kept.each, Kept.foldl, Kept.mk]
theorem Kept.logClosed {z s : State} (hk : Kept z s) (r : Rec) (room : Option (List Rec)) : Kept z (State.logClosed s r room) := by
  unfold State.logClosed
  split
  · exact hk.of_same rfl rfl rfl rfl rfl
  · exact hk.bump ..
theorem Kept.thermtrip {z s : State} (hk : Kept z s) (t : Nat) : Kept z (State.thermtrip s t) := by
  unfold State.thermtrip
  extract_lets s1 s2 s3 r0 r s4
  have h2 : Kept z s2 := (((Kept.each ((hk.emit ..).emit ..) _ _ fun s t hs => hs.darken t).dropWork ..).dropPool).dropLog
  clear_value s2
  have h3 : Kept z s3 := Kept.setF (Kept.each ((h2.siteDown ..).siteDown ..) _ _ fun s t hs => hs.setFs ..) ..
  clear_value s3
  have h4 : Kept z s4 := h3.logClosed ..
  clear_value s4
  have h5 : Kept z { s4 with crownMap := {} } := Kept.mk h4 ..
  exact (h5.updClk ..).syncRc
theorem Kept.execThermtrip {z s : State} (hk : Kept z s) (t : Tile) : ∀ z2, Machine.execThermtrip t s = .next z2 → Kept z z2 := by
  intro z2 e
  rw [← Host.Outcome.next.inj e]
  exact Kept.ite hk (hk.thermtrip ..)
theorem Kept.setThermSteps {z s : State} (hk : Kept z s) (t : Nat) (k : Nat) : Kept z (State.setThermSteps s t k) := by
  unfold State.setThermSteps
  (repeat' split) <;> grind -ring -linarith -lia [Kept.dutyPct, Kept.updTh, Kept.setFs, Kept.syncDuty, Kept.each, Kept.foldl, Kept.mk]
theorem Kept.execThrottleLoopTick {z s : State} (hk : Kept z s) (t : Tile) : ∀ z2, Machine.execThrottleLoopTick t s = .next
    z2 → Kept z z2 := by grind -ring -linarith -lia [Machine.execThrottleLoopTick, Kept.setThermSteps, Kept.setFs,
    Kept.note, Kept.assertTile, Kept.updTh, Kept.setF, Kept.fall, Kept.each, Kept.foldl, Kept.mk]
theorem Kept.execRemoteDiodeUpdate {z s : State} (hk : Kept z s) (n : Fin 8) (v : BitVec 16) (open_ : Bool) (short : Bool) :
    ∀ z2, Machine.execRemoteDiodeUpdate n v open_ short s = .next z2 → Kept z z2 := by grind -ring -linarith -lia
    [Machine.execRemoteDiodeUpdate, Kept.setFs, Kept.note, Kept.raiseMod, Kept.fallMod, Kept.each, Kept.foldl, Kept.mk]
theorem Kept.inletCheck {z s : State} (hk : Kept z s) (v : Int) : Kept z (State.inletCheck s v) := by
  unfold State.inletCheck
  dsimp only
  repeat' (first | assumption | with_reducible apply Kept.ite | with_reducible apply Kept.updPow | with_reducible apply Kept.fallMod | with_reducible apply Kept.setF | with_reducible apply Kept.note | with_reducible apply Kept.raiseMod | with_reducible apply Kept.each | with_reducible apply Kept.foldl | with_reducible apply Kept.mk | split | intro _)
  all_goals grind -ring -linarith -lia [Kept.updPow, Kept.fallMod, Kept.setF, Kept.note, Kept.raiseMod, Kept.each, Kept.foldl, Kept.mk]
theorem Kept.riseCheck {z s : State} (hk : Kept z s) (v : Int) : Kept z (State.riseCheck s v) := by
  unfold State.riseCheck
  dsimp only
  (repeat' split) <;> grind -ring -linarith -lia [Kept.updPow, Kept.setF, Kept.note, Kept.each, Kept.foldl, Kept.mk]
theorem Kept.execCoolantCheck {z s : State} (hk : Kept z s)  : ∀ z2, Machine.execCoolantCheck s = .next z2 → Kept z z2 := by
    grind -ring -linarith -lia [Machine.execCoolantCheck, Kept.inletCheck, Kept.riseCheck, Kept.updCeil, Kept.each,
    Kept.foldl, Kept.mk]

/-! ### Machine/Faults.lean -/

theorem Kept.syncHour {z s : State} (hk : Kept z s) (sc : Scope) : Kept z (State.syncHour s sc) := by
    grind -ring -linarith -lia [State.syncHour, Kept.setSat, Kept.each, Kept.foldl, Kept.mk]
theorem Kept.watchdog {z s : State} (hk : Kept z s)  : Kept z (State.watchdog s) := by grind -ring -linarith -lia
    [State.watchdog, Kept.lineMod, Kept.assertModule, Kept.updClk, Kept.each, Kept.foldl, Kept.mk]
theorem Kept.assertSource {z s : State} (hk : Kept z s) (sc : Scope) (bit : Nat) (hold : Bool) : Kept z (State.assertSource s sc bit hold) := by
  cases sc <;> grind -ring -linarith -lia [State.assertSource, Kept.assertTile, Kept.clearCache, Kept.watchdog, Kept.assertModule, Kept.each, Kept.foldl, Kept.mk]
theorem Kept.execFaultSourceAssert {z s : State} (hk : Kept z s) (scope : Scope) (bit : BitVec 6) (hold : Bool) : ∀ z2,
    Machine.execFaultSourceAssert scope bit hold s = .next z2 → Kept z z2 := by grind -ring -linarith -lia
    [Machine.execFaultSourceAssert, Kept.assertSource, Kept.each, Kept.foldl, Kept.mk]
theorem Kept.execFaultSourceDeassert {z s : State} (hk : Kept z s) (scope : Scope) (bit : BitVec 6) : ∀ z2, Machine.execFaultSourceDeassert scope bit s = .next z2 → Kept z z2 := by
  cases scope <;> grind -ring -linarith -lia [Machine.execFaultSourceDeassert, Kept.fall, Kept.fallMod, Kept.startQuiet, Kept.each, Kept.foldl, Kept.mk]
theorem Kept.execProctorWdt {z s : State} (hk : Kept z s)  : ∀ z2, Machine.execProctorWdt s = .next z2 → Kept z z2 := by
    grind -ring -linarith -lia [Machine.execProctorWdt, Kept.watchdog, Kept.each, Kept.foldl, Kept.mk]
theorem Kept.execFfirstValidClear {z s : State} (hk : Kept z s) (scope : Scope) : ∀ z2, Machine.execFfirstValidClear scope s
    = .next z2 → Kept z z2 := by grind -ring -linarith -lia [Machine.execFfirstValidClear, Kept.clearFirst, Kept.each,
    Kept.foldl, Kept.mk]
theorem Kept.execSafeEntered {z s : State} (hk : Kept z s) (scope : Scope) : ∀ z2, Machine.execSafeEntered scope s = .next z2 → Kept z z2 := by
  unfold Machine.execSafeEntered
  extract_lets src s1 s2 s3 s4 s5
  have h1 : Kept z s1 := (hk.setF ..).syncFaultN
  clear_value s1
  have h2 : Kept z s2 := Kept.each h1 _ _ fun s t hs => hs.stopTile ..
  clear_value s2
  have h3 : Kept z s3 := Kept.ite (Kept.each h2 _ _ fun s n hs => Kept.ite hs (hs.siteDown ..)) h2
  clear_value s3
  have h5 : Kept z s5 := ((h3.record ..).rewriteDist).beginCondense
  clear_value s5
  intro z2 e
  split at e <;> cases e
  · exact hk
  · exact h5.of_same rfl rfl rfl rfl rfl
theorem Kept.sitesExit {z s : State} (hk : Kept z s) (scope : Scope) : Kept z (State.sitesExit s scope) := by
  cases scope <;> grind -ring -linarith -lia [State.sitesExit, Kept.siteStart, Kept.each, Kept.foldl, Kept.mk]
theorem Kept.execQuietTimerExpiry {z s : State} (hk : Kept z s) (scope : Scope) : ∀ z2, Machine.execQuietTimerExpiry scope s
    = .next z2 → Kept z z2 := by grind -ring -linarith -lia [Machine.execQuietTimerExpiry, Kept.setF, Kept.record,
    Kept.syncHour, Kept.each, Kept.moveDuties, Kept.rewriteDist, Kept.sitesExit, Kept.each, Kept.foldl, Kept.mk]
theorem Kept.recoverTile {z s : State} (hk : Kept z s) (t : Nat) : Kept z (State.recoverTile s t) := by
    grind -ring -linarith -lia [State.recoverTile, Kept.liftFences, Kept.clearCache, Kept.dropSleep, Kept.crownRestart,
    Kept.startTile, Kept.setFs, Kept.each, Kept.foldl, Kept.mk]
theorem Kept.execFaultRecoveryDone {z s : State} (hk : Kept z s) (scope : Scope) : ∀ z2, Machine.execFaultRecoveryDone scope
    s = .next z2 → Kept z z2 := by grind -ring -linarith -lia [Machine.execFaultRecoveryDone, Kept.setF, Kept.bump,
    Kept.each, Kept.recoverTile, Kept.record, Kept.syncFaultN, Kept.adoptFree, Kept.each, Kept.foldl, Kept.mk]
theorem Kept.faultStatusDef {z : State} : ∀ s p o id, Kept z s → (Machine.faultStatusDef.act s p o id).kept z := by
  intro s p o id hk
  dsimp only [Machine.faultStatusDef]
  grind -ring -linarith -lia [Effect.kept, Kept.syncHour, Kept.each, Kept.foldl, Kept.mk]
theorem Kept.execFaultStatus {z s : State} (hk : Kept z s) (p : Packet) : ∀ z2, Machine.execFaultStatus p s = .next z2 →
    Kept z z2 := fun _ e => by cases e; exact Kept.runCmd hk _ p Kept.faultStatusDef
theorem Kept.faultClearDef {z : State} : ∀ s p o id, Kept z s → (Machine.faultClearDef.act s p o id).kept z := by
  intro s p o id hk
  dsimp only [Machine.faultClearDef]
  grind -ring -linarith -lia [Effect.kept, Kept.wr, Kept.clearFirst, Kept.each, Kept.foldl, Kept.mk]
theorem Kept.execFaultClear {z s : State} (hk : Kept z s) (p : Packet) : ∀ z2, Machine.execFaultClear p s = .next z2 → Kept
    z z2 := fun _ e => by cases e; exact Kept.runCmd hk _ p Kept.faultClearDef
theorem Kept.faultReleaseDef {z : State} : ∀ s p o id, Kept z s → (Machine.faultReleaseDef.act s p o id).kept z := by
  intro s p o id hk
  have h1 : Kept z { s with faults := { s.faults with exits := Map.del (scopeOf p).key s.faults.exits } } := Kept.mk hk ..
  exact (((h1.setF ..).syncHour ..).sitesExit ..).record ..
theorem Kept.execFaultRelease {z s : State} (hk : Kept z s) (p : Packet) : ∀ z2, Machine.execFaultRelease p s = .next z2 →
    Kept z z2 := fun _ e => by cases e; exact Kept.runCmd hk _ p Kept.faultReleaseDef
theorem Kept.unfenceBlock {z s : State} (hk : Kept z s) (sc : Scope) (bit : Nat) : Kept z (State.unfenceBlock s sc bit) := by
  unfold State.unfenceBlock
  cases sc <;> simp only [] <;> (repeat' split) <;> grind -ring -linarith -lia [Kept.updLink, Kept.startFull, Kept.reapplyDetention, Kept.memReturn, Kept.rewriteDist, Kept.pumpStreams, Kept.setF, Kept.omeStart, Kept.endSwitchover, Kept.updSt, Kept.siteStart, Kept.each, Kept.foldl, Kept.mk]
theorem Kept.faultUnfenceDef {z : State} : ∀ s p o id, Kept z s → (Machine.faultUnfenceDef.act s p o id).kept z := by
  intro s p o id hk
  dsimp only [Machine.faultUnfenceDef]
  grind -ring -linarith -lia [Effect.kept, Kept.setFence, Kept.unfenceBlock, Kept.adoptFree, Kept.each, Kept.foldl, Kept.mk]
theorem Kept.execFaultUnfence {z s : State} (hk : Kept z s) (p : Packet) : ∀ z2, Machine.execFaultUnfence p s = .next z2 →
    Kept z z2 := fun _ e => by cases e; exact Kept.runCmd hk _ p Kept.faultUnfenceDef
theorem Kept.faultInjectDef {z : State} : ∀ s p o id, Kept z s → (Machine.faultInjectDef.act s p o id).kept z := by
  intro s p o id hk
  dsimp only [Machine.faultInjectDef]
  grind -ring -linarith -lia [Effect.kept, Kept.assertSource, Kept.each, Kept.foldl, Kept.mk]
theorem Kept.execFaultInject {z s : State} (hk : Kept z s) (p : Packet) : ∀ z2, Machine.execFaultInject p s = .next z2 →
    Kept z z2 := fun _ e => by cases e; exact Kept.runCmd hk _ p Kept.faultInjectDef
theorem Kept.rcReadDef {z : State} : ∀ s p o id, Kept z s → (Machine.rcReadDef.act s p o id).kept z := by
  intro s p o id hk
  dsimp only [Machine.rcReadDef]
  grind -ring -linarith -lia [Effect.kept, Kept.each, Kept.foldl, Kept.mk]
theorem Kept.execRcRead {z s : State} (hk : Kept z s) (p : Packet) : ∀ z2, Machine.execRcRead p s = .next z2 → Kept z z2 :=
    fun _ e => by cases e; exact Kept.runCmd hk _ p Kept.rcReadDef
theorem Kept.rcCondenseDef {z : State} : ∀ s p o id, Kept z s → (Machine.rcCondenseDef.act s p o id).kept z := by
  intro s p o id hk
  dsimp only [Machine.rcCondenseDef]
  grind -ring -linarith -lia [Effect.kept, Kept.beginCondense, Kept.each, Kept.foldl, Kept.mk]
theorem Kept.execRcCondense {z s : State} (hk : Kept z s) (p : Packet) : ∀ z2, Machine.execRcCondense p s = .next z2 → Kept
    z z2 := fun _ e => by cases e; exact Kept.runCmd hk _ p Kept.rcCondenseDef
theorem Kept.rcClearDef {z : State} : ∀ s p o id, Kept z s → (Machine.rcClearDef.act s p o id).kept z := by
  intro s p o id hk
  dsimp only [Machine.rcClearDef]
  grind -ring -linarith -lia [Effect.kept, Kept.syncRc, Kept.each, Kept.foldl, Kept.mk]
theorem Kept.execRcClear {z s : State} (hk : Kept z s) (p : Packet) : ∀ z2, Machine.execRcClear p s = .next z2 → Kept z z2
    := fun _ e => by cases e; exact Kept.runCmd hk _ p Kept.rcClearDef
theorem Kept.rcCodeListDef {z : State} : ∀ s p o id, Kept z s → (Machine.rcCodeListDef.act s p o id).kept z := by
  intro s p o id hk
  dsimp only [Machine.rcCodeListDef]
  grind -ring -linarith -lia [Effect.kept, Kept.each, Kept.foldl, Kept.mk]
theorem Kept.execRcCodeList {z s : State} (hk : Kept z s) (p : Packet) : ∀ z2, Machine.execRcCodeList p s = .next z2 → Kept
    z z2 := fun _ e => by cases e; exact Kept.runCmd hk _ p Kept.rcCodeListDef
theorem Kept.execCondensationDue {z s : State} (hk : Kept z s)  : ∀ z2, Machine.execCondensationDue s = .next z2 → Kept z z2
    := by grind -ring -linarith -lia [Machine.execCondensationDue, Kept.beginCondense, Kept.each, Kept.foldl, Kept.mk]
theorem Kept.execCondensationDone {z s : State} (hk : Kept z s)  : ∀ z2, Machine.execCondensationDone s = .next z2 → Kept z
    z2 := by grind -ring -linarith -lia [Machine.execCondensationDone, Kept.condense, Kept.each, Kept.finish, Kept.each,
    Kept.foldl, Kept.mk]
theorem Kept.execIslandBufferCopy {z s : State} (hk : Kept z s)  : ∀ z2, Machine.execIslandBufferCopy s = .next z2 → Kept z
    z2 := by grind -ring -linarith -lia [Machine.execIslandBufferCopy, Kept.each, Kept.bump, Kept.syncRc, Kept.each,
    Kept.foldl, Kept.mk]

/-! ### Machine/Sites.lean -/

theorem Kept.sendLimit {z s : State} (hk : Kept z s) (n : Nat) : Kept z (State.sendLimit s n) := by
    grind -ring -linarith -lia [State.sendLimit, Kept.setF, Kept.each, Kept.foldl, Kept.mk]
theorem Kept.endSiteRuns {z s : State} (hk : Kept z s) (n : Nat) (status : Nat) (detail : Nat) : Kept z (State.endSiteRuns s
    n status detail) := by grind -ring -linarith -lia [State.endSiteRuns, Kept.each, Kept.finishParam, Kept.updSt,
    Kept.each, Kept.foldl, Kept.mk]
theorem Kept.siteTrain {z s : State} (hk : Kept z s) (n : Nat) (t : SiteTrain) : Kept z (State.siteTrain s n t) := by
    grind -ring -linarith -lia [State.siteTrain, Kept.setFs, Kept.updSt, Kept.sublinksUp, Kept.note, Kept.each, Kept.foldl,
    Kept.mk]
theorem Kept.execSiteDiscovery {z s : State} (hk : Kept z s) (n : Fin 2) (reads : List (List Byte)) (train : SiteTrain) : ∀
    z2, Machine.execSiteDiscovery n reads train s = .next z2 → Kept z z2 := by grind -ring -linarith -lia
    [Machine.execSiteDiscovery, Kept.updSt, Kept.setFs, Kept.siteDown, Kept.setF, Kept.note, Kept.endSiteRuns,
    Kept.siteTrain, Kept.sendLimit, Kept.each, Kept.foldl, Kept.mk]
theorem Kept.execSidebandTimeout {z s : State} (hk : Kept z s) (n : Fin 2) : ∀ z2, Machine.execSidebandTimeout n s = .next
    z2 → Kept z z2 := by grind -ring -linarith -lia [Machine.execSidebandTimeout, Kept.siteDown, Kept.note,
    Kept.endSiteRuns, Kept.each, Kept.foldl, Kept.mk]
theorem Kept.subRetrain {z s : State} (hk : Kept z s) (k : Nat) : Kept z (State.subRetrain s k) := by
    grind -ring -linarith -lia [State.subRetrain, Kept.fastRetrain, Kept.each, Kept.foldl, Kept.mk]
theorem Kept.execUcieWidthDegrade {z s : State} (hk : Kept z s) (n : Fin 2) (k : Fin 4) : ∀ z2, Machine.execUcieWidthDegrade
    n k s = .next z2 → Kept z z2 := by grind -ring -linarith -lia [Machine.execUcieWidthDegrade, Kept.setF, Kept.subRetrain,
    Kept.sublinkDown, Kept.setFs, Kept.each, Kept.foldl, Kept.mk]
theorem Kept.execDieTempReport {z s : State} (hk : Kept z s) (n : Fin 2) (temp : BitVec 8) : ∀ z2, Machine.execDieTempReport
    n temp s = .next z2 → Kept z z2 := by grind -ring -linarith -lia [Machine.execDieTempReport, Kept.setF, Kept.updSt,
    Kept.note, Kept.sendLimit, Kept.assertModule, Kept.each, Kept.foldl, Kept.mk]
theorem Kept.execDieThrottleStep {z s : State} (hk : Kept z s) (n : Fin 2) : ∀ z2, Machine.execDieThrottleStep n s = .next
    z2 → Kept z z2 := by grind -ring -linarith -lia [Machine.execDieThrottleStep, Kept.updSt, Kept.sendLimit, Kept.each,
    Kept.foldl, Kept.mk]
theorem Kept.execDieTempReportTimeout {z s : State} (hk : Kept z s) (n : Fin 2) : ∀ z2, Machine.execDieTempReportTimeout n s
    = .next z2 → Kept z z2 := by grind -ring -linarith -lia [Machine.execDieTempReportTimeout, Kept.assertModule, Kept.each,
    Kept.foldl, Kept.mk]
theorem Kept.execSitePowerSample {z s : State} (hk : Kept z s) (n : Fin 2) (p : BitVec 16) : ∀ z2,
    Machine.execSitePowerSample n p s = .next z2 → Kept z z2 := by grind -ring -linarith -lia [Machine.execSitePowerSample,
    Kept.setF, Kept.updSt, Kept.note, Kept.assertModule, Kept.each, Kept.foldl, Kept.mk]
theorem Kept.xsiteResetDef {z : State} : ∀ s p o id, Kept z s → (Machine.xsiteResetDef.act s p o id).kept z := by
  intro s p o id hk
  dsimp only [Machine.xsiteResetDef]
  grind -ring -linarith -lia [Effect.kept, Kept.setFence, Kept.siteDown, Kept.updSt, Kept.each, Kept.foldl, Kept.mk]
theorem Kept.execXsiteReset {z s : State} (hk : Kept z s) (p : Packet) : ∀ z2, Machine.execXsiteReset p s = .next z2 → Kept
    z z2 := fun _ e => by cases e; exact Kept.runCmd hk _ p Kept.xsiteResetDef
theorem Kept.xsiteCapReadDef {z : State} : ∀ s p o id, Kept z s → (Machine.xsiteCapReadDef.act s p o id).kept z := by
  intro s p o id hk
  dsimp only [Machine.xsiteCapReadDef]
  grind -ring -linarith -lia [Effect.kept, Kept.each, Kept.foldl, Kept.mk]
theorem Kept.execXsiteCapRead {z s : State} (hk : Kept z s) (p : Packet) : ∀ z2, Machine.execXsiteCapRead p s = .next z2 →
    Kept z z2 := fun _ e => by cases e; exact Kept.runCmd hk _ p Kept.xsiteCapReadDef

/-! ### Machine/Bus.lean -/

theorem Kept.readReg {z s : State} (hk : Kept z s) (off : Nat) : Kept z (State.readReg s off).2 := by
    grind -ring -linarith -lia [State.readReg, Kept.note, Kept.each, Kept.foldl, Kept.mk]
theorem Kept.ctlWrite {z s : State} (hk : Kept z s) (q : Nat) (v : Word) : Kept z (State.ctlWrite s q v) := by
    grind -ring -linarith -lia [State.ctlWrite, Kept.wr, Kept.setFs, Kept.updQu, Kept.disableQueue, Kept.each, Kept.foldl,
    Kept.mk]
theorem Kept.renumber {z s : State} (hk : Kept z s)  : Kept z (State.renumber s) := by grind -ring -linarith -lia
    [State.renumber, Kept.each, Kept.declareDown, Kept.clearLink, Kept.shut, Kept.each, Kept.foldl, Kept.mk]
theorem Kept.linkEnable {z s : State} (hk : Kept z s) (p : Nat) (on : Bool) : Kept z (State.linkEnable s p on) := by
  unfold State.linkEnable
  dsimp only
  (repeat' split) <;> grind -ring -linarith -lia [Kept.setF, Kept.shut, Kept.declareDown, Kept.clearLink, Kept.each, Kept.foldl, Kept.mk]
theorem Kept.crownEnable {z s : State} (hk : Kept z s) (t : Nat) (on : Bool) : Kept z (State.crownEnable s t on) := by
    grind -ring -linarith -lia [State.crownEnable, Kept.setF, Kept.updCr, Kept.reapplyDetention, Kept.each, Kept.foldl,
    Kept.mk]
theorem Kept.siteNode {z s : State} (hk : Kept z s) (n : Nat) (old : Nat) : Kept z (State.siteNode s n old) := by
    grind -ring -linarith -lia [State.siteNode, Kept.sublinkDown, Kept.setFs, Kept.sublinksUp, Kept.each, Kept.foldl,
    Kept.mk]
theorem Kept.ringHeadWrite {z s : State} (hk : Kept z s) (t : Nat) (v : Nat) : Kept z (State.ringHeadWrite s t v) := by
    grind -ring -linarith -lia [State.ringHeadWrite, Kept.mirrorIf, Kept.updStream, Kept.dataDone, Kept.pumpStream,
    Kept.each, Kept.foldl, Kept.mk]
theorem Kept.afterWrite {z s : State} (hk : Kept z s) (pl : Place) (old : Word) (new : Word) : Kept z (State.afterWrite s pl
    old new) := by grind -ring -linarith -lia [State.afterWrite, Kept.renumber, Kept.updCeil, Kept.siteNode,
    Kept.clearFirst, Kept.linkEnable, Kept.crownEnable, Kept.omeStart, Kept.disableOme, Kept.applyMode, Kept.each,
    Kept.foldl, Kept.mk]
theorem Kept.storeReg {z s : State} (hk : Kept z s) (off : Nat) (v : Word) : Kept z (State.storeReg s off v).1 := by
    grind -ring -linarith -lia [State.storeReg, Kept.doorbell, Kept.ctlWrite, Kept.ringHeadWrite, Kept.wr, Kept.afterWrite,
    Kept.mirror, Kept.each, Kept.foldl, Kept.mk]
theorem Kept.busWrite {z s : State} (hk : Kept z s) (src : BusSrc) (off : Nat) (v : Word) : Kept z (State.busWrite s src off v) := by
  unfold State.busWrite
  refine Kept.ite hk (Kept.ite (hk.note ..) (Kept.ite (hk.setSq _ fun hm => Memory.wf_write hm ..) (Kept.ite (hk.note ..) (Kept.ite (hk.note ..)
    (Kept.ite (hk.note ..) ?_)))))
  extract_lets wrong r
  clear_value wrong
  cases wrong
  · exact Kept.ite (hk.storeReg ..) ((hk.storeReg ..).journalise ..)
  · exact hk.setF ..
theorem Kept.busRead {z s : State} (hk : Kept z s) (src : BusSrc) (off : Nat) : Kept z (State.busRead s src off) := by
    grind -ring -linarith -lia [State.busRead, Kept.note, Kept.emit, Kept.readReg, Kept.each, Kept.foldl, Kept.mk]
theorem Kept.execBar0BadAccess {z s : State} (hk : Kept z s) (src : BusSrc) (off : BitVec 27) (write : Option (List Byte)) : ∀ z2, Machine.execBar0BadAccess src off write s = .next z2 → Kept z z2 := by
  unfold Machine.execBar0BadAccess
  intro z2 e
  split at e
  · cases e; exact hk
  · split at e
    · cases e; exact Kept.ite (hk.setSq _ fun hm => Memory.wf_write hm ..) (hk.note ..)
    · cases e; exact (hk.note ..).emit ..
theorem Kept.execBar0RegWrite {z s : State} (hk : Kept z s) (src : BusSrc) (off : BitVec 27) (v : BitVec 32) : ∀ z2,
    Machine.execBar0RegWrite src off v s = .next z2 → Kept z z2 := by grind -ring -linarith -lia [Machine.execBar0RegWrite,
    Kept.busWrite, Kept.each, Kept.foldl, Kept.mk]
theorem Kept.execRegLoRead {z s : State} (hk : Kept z s) (src : BusSrc) (off : BitVec 27) : ∀ z2, Machine.execRegLoRead src
    off s = .next z2 → Kept z z2 := by grind -ring -linarith -lia [Machine.execRegLoRead, Kept.busRead, Kept.each,
    Kept.foldl, Kept.mk]
theorem Kept.execJrnlHeadSeqLoRead {z s : State} (hk : Kept z s) (src : BusSrc) : ∀ z2, Machine.execJrnlHeadSeqLoRead src s
    = .next z2 → Kept z z2 := by grind -ring -linarith -lia [Machine.execJrnlHeadSeqLoRead, Kept.busRead, Kept.each,
    Kept.foldl, Kept.mk]
theorem Kept.execSleepingTileAccess {z s : State} (hk : Kept z s) (src : BusSrc) (t : Tile) (rel : BitVec 20) (w : Option (BitVec 32)) : ∀ z2, Machine.execSleepingTileAccess src t rel w s = .next z2 → Kept z z2 := by
  unfold Machine.execSleepingTileAccess
  (repeat' split) <;> grind -ring -linarith -lia [Kept.busWrite, Kept.busRead, Kept.each, Kept.foldl, Kept.mk]
theorem Kept.execNodeCfgWrite {z s : State} (hk : Kept z s) (src : BusSrc) (v : BitVec 32) : ∀ z2, Machine.execNodeCfgWrite
    src v s = .next z2 → Kept z z2 := by grind -ring -linarith -lia [Machine.execNodeCfgWrite, Kept.busWrite, Kept.each,
    Kept.foldl, Kept.mk]
theorem Kept.execQdbSqTailWrite {z s : State} (hk : Kept z s) (src : BusSrc) (q : Queue) (v : BitVec 32) : ∀ z2,
    Machine.execQdbSqTailWrite src q v s = .next z2 → Kept z z2 := by grind -ring -linarith -lia
    [Machine.execQdbSqTailWrite, Kept.busWrite, Kept.each, Kept.foldl, Kept.mk]
theorem Kept.execQdbCqHeadWrite {z s : State} (hk : Kept z s) (src : BusSrc) (q : Queue) (v : BitVec 32) : ∀ z2,
    Machine.execQdbCqHeadWrite src q v s = .next z2 → Kept z z2 := by grind -ring -linarith -lia
    [Machine.execQdbCqHeadWrite, Kept.busWrite, Kept.each, Kept.foldl, Kept.mk]
theorem Kept.execQEnable {z s : State} (hk : Kept z s) (src : BusSrc) (q : Queue) (v : BitVec 32) : ∀ z2,
    Machine.execQEnable src q v s = .next z2 → Kept z z2 := by grind -ring -linarith -lia [Machine.execQEnable,
    Kept.busWrite, Kept.each, Kept.foldl, Kept.mk]
theorem Kept.execQDisable {z s : State} (hk : Kept z s) (src : BusSrc) (q : Queue) (v : BitVec 32) : ∀ z2,
    Machine.execQDisable src q v s = .next z2 → Kept z z2 := by grind -ring -linarith -lia [Machine.execQDisable,
    Kept.busWrite, Kept.each, Kept.foldl, Kept.mk]
theorem Kept.execLinkEnable {z s : State} (hk : Kept z s) (src : BusSrc) (p : Port) (v : BitVec 32) : ∀ z2,
    Machine.execLinkEnable src p v s = .next z2 → Kept z z2 := by grind -ring -linarith -lia [Machine.execLinkEnable,
    Kept.busWrite, Kept.each, Kept.foldl, Kept.mk]
theorem Kept.execLinkDisable {z s : State} (hk : Kept z s) (src : BusSrc) (p : Port) (v : BitVec 32) : ∀ z2,
    Machine.execLinkDisable src p v s = .next z2 → Kept z z2 := by grind -ring -linarith -lia [Machine.execLinkDisable,
    Kept.busWrite, Kept.each, Kept.foldl, Kept.mk]
theorem Kept.execCrownDisable {z s : State} (hk : Kept z s) (src : BusSrc) (t : Tile) (v : BitVec 32) : ∀ z2,
    Machine.execCrownDisable src t v s = .next z2 → Kept z z2 := by grind -ring -linarith -lia [Machine.execCrownDisable,
    Kept.busWrite, Kept.each, Kept.foldl, Kept.mk]
theorem Kept.execOmeDisable {z s : State} (hk : Kept z s) (src : BusSrc) (t : Tile) (v : BitVec 32) : ∀ z2,
    Machine.execOmeDisable src t v s = .next z2 → Kept z z2 := by grind -ring -linarith -lia [Machine.execOmeDisable,
    Kept.busWrite, Kept.each, Kept.foldl, Kept.mk]
theorem Kept.execTilePwrCtlWrite {z s : State} (hk : Kept z s) (src : BusSrc) (t : Tile) (v : BitVec 32) : ∀ z2,
    Machine.execTilePwrCtlWrite src t v s = .next z2 → Kept z z2 := by grind -ring -linarith -lia
    [Machine.execTilePwrCtlWrite, Kept.busWrite, Kept.each, Kept.foldl, Kept.mk]
theorem Kept.execStrmRingHeadWrite {z s : State} (hk : Kept z s) (src : BusSrc) (t : Tile) (v : BitVec 32) : ∀ z2,
    Machine.execStrmRingHeadWrite src t v s = .next z2 → Kept z z2 := by grind -ring -linarith -lia
    [Machine.execStrmRingHeadWrite, Kept.busWrite, Kept.each, Kept.foldl, Kept.mk]

end Sys2Proof.Machine
end

