-- ==== Sys2Proof/Laws/KeptRest.lean ====
section
/-! SUPPORT. Laws/KeptRest.lean: twin, service, security, power, host ports and the Proctor leave the queue alone and keep the canonical forms; one lemma per definition. -/

namespace Sys2Proof.Machine

/-! ### Machine/Twin.lean -/

theorem Kept.updTwin {z s : State} (hk : Kept z s) (f : Twin → Twin) : Kept z (State.updTwin s f) := hk.of_same rfl rfl rfl
    rfl rfl
theorem Kept.setEpoch {z s : State} (hk : Kept z s) (e : Nat) : Kept z (State.setEpoch s e) := by grind -ring -linarith -lia
    [State.setEpoch, Kept.setPair, Kept.each, Kept.foldl, Kept.mk]
theorem Kept.twinSend {z s : State} (hk : Kept z s) (via : TwinPath) (code : Nat) (body : List Byte) : Kept z (State.twinSend s via code body) := by
  cases via <;> grind -ring -linarith -lia [State.twinSend, Kept.enqueue, Kept.emit, Kept.each, Kept.foldl, Kept.mk]
theorem Kept.twinSendAll {z s : State} (hk : Kept z s) (code : Nat) (body : List Byte) : Kept z (State.twinSendAll s code
    body) := by grind -ring -linarith -lia [State.twinSendAll, Kept.each, Kept.twinSend, Kept.each, Kept.foldl, Kept.mk]
theorem Kept.sendLease {z s : State} (hk : Kept z s)  : Kept z (State.sendLease s) := by grind -ring -linarith -lia
    [State.sendLease, Kept.twinSendAll, Kept.each, Kept.foldl, Kept.mk]
theorem Kept.sendLeaseAck {z s : State} (hk : Kept z s) (via : TwinPath) (epoch : Nat) (bell : Nat) : Kept z
    (State.sendLeaseAck s via epoch bell) := by grind -ring -linarith -lia [State.sendLeaseAck, Kept.twinSend, Kept.each,
    Kept.foldl, Kept.mk]
theorem Kept.sendRelease {z s : State} (hk : Kept z s) (reason : Nat) : Kept z (State.sendRelease s reason) := by
    grind -ring -linarith -lia [State.sendRelease, Kept.flushMirror, Kept.twinSendAll, Kept.each, Kept.foldl, Kept.mk]
theorem Kept.releaseHold {z s : State} (hk : Kept z s) (w : MirWait) : Kept z (State.releaseHold s w) := by
    grind -ring -linarith -lia [State.releaseHold, Kept.updStream, Kept.creditCheck, Kept.returnData, Kept.emit, Kept.undo,
    Kept.settle, Kept.each, Kept.foldl, Kept.mk]
theorem Kept.releaseHolds {z s : State} (hk : Kept z s) (f : MirWait → Bool) : Kept z (State.releaseHolds s f) := by
    grind -ring -linarith -lia [State.releaseHolds, Kept.updTwin, Kept.each, Kept.releaseHold, Kept.each, Kept.foldl,
    Kept.mk]
theorem Kept.dropHolds {z s : State} (hk : Kept z s)  : Kept z (State.dropHolds s) := by grind -ring -linarith -lia
    [State.dropHolds, Kept.updTwin, Kept.each, Kept.postFinal, Kept.each, Kept.foldl, Kept.mk]
theorem Kept.enterResync {z s : State} (hk : Kept z s)  : Kept z (State.enterResync s) := by grind -ring -linarith -lia
    [State.enterResync, Kept.dropHolds, Kept.setTwin, Kept.setFs, Kept.updTwin, Kept.each, Kept.foldl, Kept.mk]
theorem Kept.mirrorBreak {z s : State} (hk : Kept z s)  : Kept z (State.mirrorBreak s) := by grind -ring -linarith -lia
    [State.mirrorBreak, Kept.note, Kept.enterResync, Kept.each, Kept.foldl, Kept.mk]
theorem Kept.standbyLost {z s : State} (hk : Kept z s)  : Kept z (State.standbyLost s) := by
  unfold State.standbyLost
  extract_lets s1 s2 jobs l1 s3 mark s4 ended
  have h2 : Kept z s2 := (((hk.setTwin ..).setF ..).setFs .. |>.updTwin ..).releaseHolds ..
  clear_value s2
  have h3 : Kept z s3 := h2.of_same rfl rfl rfl rfl rfl
  have h4 : Kept z s4 := Kept.each h3 _ _ fun s n hs => hs.updGroup ..
  exact (Kept.each h4 _ _ fun s j hs => hs.endJob ..).note ..
theorem Kept.fenceSelf {z s : State} (hk : Kept z s)  : Kept z (State.fenceSelf s) := by grind -ring -linarith -lia
    [State.fenceSelf, Kept.setTwin, Kept.setF, Kept.updTwin, Kept.each, Kept.foldl, Kept.mk]
theorem Kept.runRecord {z s : State} (hk : Kept z s) (code : Nat) (data : List Byte) : Kept z (State.runRecord s code data) := by
  unfold State.runRecord
  split
  · exact hk
  · next d hd =>
    have hact : ∀ s p o id, Kept z s → (d.act s p o id).kept z := by
      have hm := List.mem_of_find?_eq_some hd
      simp only [List.mem_cons, List.not_mem_nil, or_false] at hm
      rcases hm with rfl | rfl | rfl | rfl | rfl | rfl | rfl | rfl | rfl | rfl | rfl | rfl | rfl
      · exact Kept.memAllocDef
      · exact Kept.memFreeDef
      · exact Kept.memMigrateDef
      · exact Kept.memAttrDef
      · exact Kept.omeJobSubmitDef
      · exact Kept.collGroupCreateDef
      · exact Kept.collGroupDestroyDef
      · exact Kept.collGroupModifyDef
      · exact Kept.collOpPostDef
      · exact Kept.collOpAbortDef
      · exact Kept.famMapDef
      · exact Kept.reserveReleaseDef
      · exact Kept.reserveReturnDef
    generalize parseRecord data = w
    obtain ⟨o, p0, res⟩ := w
    dsimp only
    generalize (if code = 0x300 then _ else p0 : Packet) = p
    have h1 := fun x => hk.updTwin x
    refine Kept.ite (Kept.ite hk hk.mirrorBreak) ?_
    split
    · next heq =>
      have h2 : Effect.kept z (Effect.now _ _ _ _ _) := heq ▸ hact _ _ _ _ (h1 _)
      exact Kept.ite (Kept.journalise (Kept.updTwin h2 ..) ..) (Kept.updTwin h2 ..)
    · next heq =>
      have h2 : Effect.kept z (Effect.later _) := heq ▸ hact _ _ _ _ (h1 _)
      exact Kept.updPr (Kept.updTwin h2 ..) ..
theorem Kept.putStream {z s : State} (hk : Kept z s) (h : Nat) (c : Stream) : Kept z (State.putStream s h c) := by
    grind -ring -linarith -lia [State.putStream, Kept.each, Kept.foldl, Kept.mk]
theorem Kept.streamRec {z s : State} (hk : Kept z s) (aux : Nat) (h : Nat) (data : List Byte) : Kept z (State.streamRec s aux h data) := by
  unfold State.streamRec
  (repeat' split) <;> grind -ring -linarith -lia [Kept.putStream, Kept.closeStream, Kept.pumpStreams, Kept.updStream, Kept.updCtx, Kept.each, Kept.foldl, Kept.mk]
theorem Kept.contribution {z s : State} (hk : Kept z s) (h : Nat) (data : List Byte) : Kept z (State.contribution s h data) := by
  unfold State.contribution
  repeat' (first | assumption | split | with_reducible apply Kept.collTake | with_reducible apply Kept.each | with_reducible apply Kept.foldl | intro _)
  all_goals grind -ring -linarith -lia [Kept.collTake, Kept.each, Kept.foldl, Kept.mk]
theorem Kept.clearCopy {z s : State} (hk : Kept z s)  : Kept z (State.clearCopy s) := by grind -ring -linarith -lia
    [State.clearCopy, Kept.updPool, Kept.each, Kept.storeReg, Kept.updTwin, Kept.each, Kept.foldl, Kept.mk]
theorem Kept.copyRec {z s : State} (hk : Kept z s) (aux : Nat) (addr : Nat) (data : List Byte) : Kept z (State.copyRec s aux addr data) := by
  unfold State.copyRec
  (repeat' split) <;> grind -ring -linarith -lia [Kept.clearCopy, Kept.updPool, Kept.updTwin, Kept.each, Kept.foldl, Kept.mk]
theorem Kept.writeCopy {z s : State} (hk : Kept z s) (t : Nat) (addr : Nat) (data : List Byte) : Kept z (State.writeCopy s t addr data) := by
  unfold State.writeCopy
  have h := Kept.writeFabric hk t (s.fabricAddr (addrOffset addr)) data
  generalize s.writeFabric t (s.fabricAddr (addrOffset addr)) data = w at h
  obtain ⟨x | x, s1⟩ := w
  · exact h.2
  · exact h.1 _ rfl
theorem Kept.execRecord {z s : State} (hk : Kept z s) (t : Nat) (kind : Nat) (aux : Nat) (addr : Nat) (data : List Byte) : Kept z (State.execRecord s t kind aux addr data) := by
  unfold State.execRecord
  split
  · exact hk.writeCopy ..
  · exact hk.streamRec ..
  · exact Kept.ite (hk.contribution ..) (hk.runRecord ..)
  · exact Kept.ite (hk.copyRec ..) (hk.runRecord ..)
  · exact hk.writeCopy ..
  · exact Kept.ite (hk.storeReg ..) ((hk.storeReg ..).journalise ..)
  · exact Kept.ite (hk.setDram _ fun hm => Memory.wf_write hm ..) hk
  · exact hk
theorem Kept.sendMirrorAck {z s : State} (hk : Kept z s) (t : Nat) : Kept z (State.sendMirrorAck s t) := by
    grind -ring -linarith -lia [State.sendMirrorAck, Kept.enqueue, Kept.updTwin, Kept.each, Kept.foldl, Kept.mk]
theorem Kept.takeRecord {z s : State} (hk : Kept z s) (tu : Tu) : Kept z (State.takeRecord s tu) := by
    grind -ring -linarith -lia [State.takeRecord, Kept.updTwin, Kept.execRecord, Kept.sendMirrorAck, Kept.each, Kept.foldl,
    Kept.mk]
theorem Kept.drainRecords {z s : State} (hk : Kept z s) (x0 : Nat) : Kept z (State.drainRecords x0 s) := by
  induction x0 generalizing s <;> grind -ring -linarith -lia [State.drainRecords, Kept.popRx, Kept.takeRecord, Kept.each, Kept.foldl, Kept.mk]
theorem Kept.ownNotice {z s : State} (hk : Kept z s) (key : Nat) : Kept z (State.ownNotice s key) := by
    grind -ring -linarith -lia [State.ownNotice, Kept.enqueue, Kept.each, Kept.foldl, Kept.mk]
theorem Kept.claimStream {z s : State} (hk : Kept z s) (key : Nat) : Kept z (State.claimStream s key) := by
    grind -ring -linarith -lia [State.claimStream, Kept.updStream, Kept.ownNotice, Kept.each, Kept.foldl, Kept.mk]
theorem Kept.adoptReply {z s : State} (hk : Kept z s) (r : Running) : Kept z (State.adoptReply s r) := by
    grind -ring -linarith -lia [State.adoptReply, Kept.updPr, Kept.updLink, Kept.each, Kept.foldl, Kept.mk]
theorem Kept.takeHallPass {z s : State} (hk : Kept z s) (planned : Bool) : Kept z (State.takeHallPass s planned) := by
  unfold State.takeHallPass
  extract_lets s1 e old s2 s3 s4 s5 s6 s7
  have h3 : Kept z s3 := ((((((hk.drainRecords ..).setEpoch ..).policy ..).raiseMod ..).setTwin ..).setF ..).bump ..
  clear_value s3
  have h4 : Kept z s4 := h3.updTwin ..
  have h5 : Kept z s5 := Kept.each h4 _ _ fun s k hs => hs.claimStream k
  clear_value s5
  have h6 : Kept z s6 := by
    refine Kept.each h5 _ _ fun s n hs => ?_
    split
    · exact Kept.ite (hs.stopOps ..) hs
    · exact hs
  clear_value s6
  exact (Kept.each h6 _ _ fun s r hs => hs.adoptReply r).pumpStreams.sendLease
theorem Kept.copyOut {z s : State} (hk : Kept z s) (t : Nat) (kind : Nat) (aux : Nat) (addr : Nat) (words : List Nat) (tail
    : List Byte) : Kept z (State.copyOut s t kind aux addr words tail) := by grind -ring -linarith -lia [State.copyOut,
    Kept.mirror, Kept.each, Kept.foldl, Kept.mk]
theorem Kept.copyTables {z s : State} (hk : Kept z s)  : Kept z (State.copyTables s) := by
  unfold State.copyTables
  (repeat' split) <;> grind -ring -linarith -lia [Kept.copyOut, Kept.each, Kept.mirror, Kept.each, Kept.foldl, Kept.mk]
theorem Kept.startResync {z s : State} (hk : Kept z s)  : Kept z (State.startResync s) := by grind -ring -linarith -lia
    [State.startResync, Kept.updTwin, Kept.copyTables, Kept.each, Kept.mirror, Kept.copyOut, Kept.setSat, Kept.each,
    Kept.foldl, Kept.mk]

/-! ### Machine/TwinRows.lean -/

theorem Kept.pairMismatch {z s : State} (hk : Kept z s)  : Kept z (State.pairMismatch s) := by grind -ring -linarith -lia
    [State.pairMismatch, Kept.setTwin, Kept.setF, Kept.note, Kept.each, Kept.foldl, Kept.mk]
theorem Kept.pairUp {z s : State} (hk : Kept z s) (h : PairHello) (lead : Bool) : Kept z (State.pairUp s h lead) := by
    grind -ring -linarith -lia [State.pairUp, Kept.policyReg, Kept.setFs, Kept.setEpoch, Kept.updTwin, Kept.setTwin,
    Kept.enterResync, Kept.each, Kept.foldl, Kept.mk]
theorem Kept.hello {z s : State} (hk : Kept z s) (h : PairHello) : Kept z (State.hello s h) := by grind -ring -linarith -lia
    [State.hello, Kept.pairMismatch, Kept.updTwin, Kept.setF, Kept.note, Kept.pairUp, Kept.each, Kept.foldl, Kept.mk]
theorem Kept.execPairHello {z s : State} (hk : Kept z s) (via : TwinPath) (h : PairHello) : ∀ z2, Machine.execPairHello via
    h s = .next z2 → Kept z z2 := by grind -ring -linarith -lia [Machine.execPairHello, Kept.hello, Kept.each, Kept.foldl,
    Kept.mk]
theorem Kept.execPairHelloResend {z s : State} (hk : Kept z s)  : ∀ z2, Machine.execPairHelloResend s = .next z2 → Kept z z2
    := by grind -ring -linarith -lia [Machine.execPairHelloResend, Kept.emit, Kept.hello, Kept.each, Kept.foldl, Kept.mk]
theorem Kept.execPartnerWaitTimeout {z s : State} (hk : Kept z s)  : ∀ z2, Machine.execPartnerWaitTimeout s = .next z2 →
    Kept z z2 := by grind -ring -linarith -lia [Machine.execPartnerWaitTimeout, Kept.setTwin, Kept.setEpoch, Kept.each,
    Kept.foldl, Kept.mk]
theorem Kept.execLeaseRenewalDue {z s : State} (hk : Kept z s)  : ∀ z2, Machine.execLeaseRenewalDue s = .next z2 → Kept z z2
    := by grind -ring -linarith -lia [Machine.execLeaseRenewalDue, Kept.sendLease, Kept.each, Kept.foldl, Kept.mk]
theorem Kept.pathSeen {z s : State} (hk : Kept z s)  : Kept z (State.pathSeen s) := by grind -ring -linarith -lia
    [State.pathSeen, Kept.fallMod, Kept.updTwin, Kept.each, Kept.foldl, Kept.mk]
theorem Kept.yield {z s : State} (hk : Kept z s) (planned : Bool) : Kept z (State.yield s planned) := by
    grind -ring -linarith -lia [State.yield, Kept.finishParam, Kept.updTwin, Kept.enterResync, Kept.setTwin, Kept.raiseMod,
    Kept.each, Kept.foldl, Kept.mk]
theorem Kept.revert {z s : State} (hk : Kept z s)  : Kept z (State.revert s) := by grind -ring -linarith -lia [State.revert,
    Kept.sendRelease, Kept.updTwin, Kept.each, Kept.foldl, Kept.mk]
theorem Kept.lease {z s : State} (hk : Kept z s) (via : TwinPath) (epoch : Nat) (bell : Nat) : Kept z (State.lease s via
    epoch bell) := by grind -ring -linarith -lia [State.lease, Kept.updTwin, Kept.pathSeen, Kept.setEpoch,
    Kept.sendLeaseAck, Kept.revert, Kept.enterResync, Kept.yield, Kept.each, Kept.foldl, Kept.mk]
theorem Kept.execLease {z s : State} (hk : Kept z s) (via : TwinPath) (epoch : BitVec 64) (bell : BitVec 64) (_leaseT :
    BitVec 32) (_mseq : BitVec 64) (_health : BitVec 8) : ∀ z2, Machine.execLease via epoch bell _leaseT _mseq _health s =
    .next z2 → Kept z z2 := by grind -ring -linarith -lia [Machine.execLease, Kept.lease, Kept.each, Kept.foldl, Kept.mk]
theorem Kept.leaseAck {z s : State} (hk : Kept z s) (via : TwinPath) (epoch : Nat) (bell : Nat) : Kept z (State.leaseAck s
    via epoch bell) := by grind -ring -linarith -lia [State.leaseAck, Kept.updTwin, Kept.pathSeen, Kept.yield,
    Kept.takeHallPass, Kept.setTwin, Kept.startResync, Kept.each, Kept.foldl, Kept.mk]
theorem Kept.execLeaseAck {z s : State} (hk : Kept z s) (via : TwinPath) (epoch : BitVec 64) (bell : BitVec 64) (_mseq :
    BitVec 64) : ∀ z2, Machine.execLeaseAck via epoch bell _mseq s = .next z2 → Kept z z2 := by grind -ring -linarith -lia
    [Machine.execLeaseAck, Kept.leaseAck, Kept.each, Kept.foldl, Kept.mk]
theorem Kept.release {z s : State} (hk : Kept z s) (via : TwinPath) (epoch : Nat) (reason : Nat) : Kept z (State.release s
    via epoch reason) := by grind -ring -linarith -lia [State.release, Kept.sendLeaseAck, Kept.takeHallPass, Kept.note,
    Kept.flushMirror, Kept.updTwin, Kept.each, Kept.foldl, Kept.mk]
theorem Kept.execRelease {z s : State} (hk : Kept z s) (via : TwinPath) (epoch : BitVec 64) (_mseq : BitVec 64) (reason :
    BitVec 8) : ∀ z2, Machine.execRelease via epoch _mseq reason s = .next z2 → Kept z z2 := by grind -ring -linarith -lia
    [Machine.execRelease, Kept.release, Kept.each, Kept.foldl, Kept.mk]
theorem Kept.execLeaseExpiry {z s : State} (hk : Kept z s)  : ∀ z2, Machine.execLeaseExpiry s = .next z2 → Kept z z2 := by
    grind -ring -linarith -lia [Machine.execLeaseExpiry, Kept.takeHallPass, Kept.note, Kept.each, Kept.foldl, Kept.mk]
theorem Kept.execSelfFence {z s : State} (hk : Kept z s)  : ∀ z2, Machine.execSelfFence s = .next z2 → Kept z z2 := by
    grind -ring -linarith -lia [Machine.execSelfFence, Kept.fenceSelf, Kept.each, Kept.foldl, Kept.mk]
theorem Kept.execSelfDiagnosisFail {z s : State} (hk : Kept z s)  : ∀ z2, Machine.execSelfDiagnosisFail s = .next z2 → Kept
    z z2 := by grind -ring -linarith -lia [Machine.execSelfDiagnosisFail, Kept.sendRelease, Kept.updTwin, Kept.each,
    Kept.foldl, Kept.mk]
theorem Kept.execLeasePathLoss {z s : State} (hk : Kept z s)  : ∀ z2, Machine.execLeasePathLoss s = .next z2 → Kept z z2 :=
    by grind -ring -linarith -lia [Machine.execLeasePathLoss, Kept.updTwin, Kept.raiseMod, Kept.each, Kept.foldl, Kept.mk]
theorem Kept.execHolderNotice {z s : State} (hk : Kept z s) (v : Via) (bytes : List Byte) : ∀ z2, Machine.execHolderNotice v
    bytes s = .next z2 → Kept z z2 := by grind -ring -linarith -lia [Machine.execHolderNotice, Kept.takeTu, Kept.tuStream,
    Kept.each, Kept.foldl, Kept.mk]
theorem Kept.execMirror {z s : State} (hk : Kept z s) (p : Port) (bytes : List Byte) : ∀ z2, Machine.execMirror p bytes s = .next z2 → Kept z z2 := by
  unfold Machine.execMirror
  have hp : Kept z ((s.popRx p.val 0 (fitBytes 232 bytes)).getD s) := by
    cases h : s.popRx p.val 0 (fitBytes 232 bytes) with
    | none => exact hk
    | some s1 => exact hk.popRx _ _ _ _ h
  intro z2 e
  dsimp only at e
  split at e
  · cases e; exact hk
  · split at e
    · cases e; exact hp
    · split at e
      · cases e
        split
        · next h => exact (hk.popRx _ _ _ _ h).takeRecord ..
        · exact hk
      · split at e
        · cases e; exact hk
        · split at e
          · cases e; exact hk
          · next h =>
            cases e
            exact Kept.ite (hk.popRx _ _ _ _ h) (hk.popRx _ _ _ _ h).mirrorBreak
theorem Kept.execMirrorAck {z s : State} (hk : Kept z s) (p : Port) (bytes : List Byte) : ∀ z2, Machine.execMirrorAck p bytes s = .next z2 → Kept z z2 := by
  unfold Machine.execMirrorAck
  have hp : Kept z ((s.popRx p.val 1 (fitBytes 232 bytes)).getD s) := by
    cases h : s.popRx p.val 1 (fitBytes 232 bytes) with
    | none => exact hk
    | some s1 => exact hk.popRx _ _ _ _ h
  intro z2 e
  dsimp only at e
  split at e
  · cases e; exact hk
  · split at e
    · cases e; exact hp
    · split at e
      · cases e; exact hk
      · next h =>
        have h1 := hk.popRx _ _ _ _ h
        split at e
        · cases e; exact h1
        · cases e
          exact (Kept.releaseHolds (Kept.ite (Kept.setSat (h1.updTwin ..) ..) (h1.updTwin ..)) ..).syncMirror
theorem Kept.execMirrorAckDue {z s : State} (hk : Kept z s) (t : Tile) : ∀ z2, Machine.execMirrorAckDue t s = .next z2 →
    Kept z z2 := by grind -ring -linarith -lia [Machine.execMirrorAckDue, Kept.sendMirrorAck, Kept.each, Kept.foldl,
    Kept.mk]
theorem Kept.execTwinPortsUnreachable {z s : State} (hk : Kept z s)  : ∀ z2, Machine.execTwinPortsUnreachable s = .next z2 →
    Kept z z2 := by grind -ring -linarith -lia [Machine.execTwinPortsUnreachable, Kept.standbyLost, Kept.mirrorBreak,
    Kept.each, Kept.foldl, Kept.mk]
theorem Kept.execResyncComplete {z s : State} (hk : Kept z s)  : ∀ z2, Machine.execResyncComplete s = .next z2 → Kept z z2
    := by grind -ring -linarith -lia [Machine.execResyncComplete, Kept.setTwin, Kept.setFs, Kept.updTwin, Kept.each,
    Kept.foldl, Kept.mk]
theorem Kept.execRevertHoldExpiry {z s : State} (hk : Kept z s)  : ∀ z2, Machine.execRevertHoldExpiry s = .next z2 → Kept z
    z2 := by grind -ring -linarith -lia [Machine.execRevertHoldExpiry, Kept.updTwin, Kept.each, Kept.foldl, Kept.mk]
theorem Kept.twinStatusDef {z : State} : ∀ s p o id, Kept z s → (Machine.twinStatusDef.act s p o id).kept z := by
  intro s p o id hk
  dsimp only [Machine.twinStatusDef]
  grind -ring -linarith -lia [Effect.kept, Kept.each, Kept.foldl, Kept.mk]
theorem Kept.execTwinStatus {z s : State} (hk : Kept z s) (p : Packet) : ∀ z2, Machine.execTwinStatus p s = .next z2 → Kept
    z z2 := fun _ e => by cases e; exact Kept.runCmd hk _ p Kept.twinStatusDef
theorem Kept.twinBindDef {z : State} : ∀ s p o id, Kept z s → (Machine.twinBindDef.act s p o id).kept z := by
  intro s p o id hk
  dsimp only [Machine.twinBindDef]
  grind -ring -linarith -lia [Effect.kept, Kept.updTwin, Kept.setF, Kept.each, Kept.foldl, Kept.mk]
theorem Kept.execTwinBind {z s : State} (hk : Kept z s) (p : Packet) : ∀ z2, Machine.execTwinBind p s = .next z2 → Kept z z2
    := fun _ e => by cases e; exact Kept.runCmd hk _ p Kept.twinBindDef
theorem Kept.twinHandoverDef {z : State} : ∀ s p o id, Kept z s → (Machine.twinHandoverDef.act s p o id).kept z := by
  intro s p o id hk
  dsimp only [Machine.twinHandoverDef]
  grind -ring -linarith -lia [Effect.kept, Kept.sendRelease, Kept.updTwin, Kept.each, Kept.foldl, Kept.mk]
theorem Kept.execTwinHandover {z s : State} (hk : Kept z s) (p : Packet) : ∀ z2, Machine.execTwinHandover p s = .next z2 →
    Kept z z2 := fun _ e => by cases e; exact Kept.runCmd hk _ p Kept.twinHandoverDef
theorem Kept.twinForceTakeDef {z : State} : ∀ s p o id, Kept z s → (Machine.twinForceTakeDef.act s p o id).kept z := by
  intro s p o id hk
  dsimp only [Machine.twinForceTakeDef]
  grind -ring -linarith -lia [Effect.kept, Kept.takeHallPass, Kept.each, Kept.foldl, Kept.mk]
theorem Kept.execTwinForceTake {z s : State} (hk : Kept z s) (p : Packet) : ∀ z2, Machine.execTwinForceTake p s = .next z2 →
    Kept z z2 := fun _ e => by cases e; exact Kept.runCmd hk _ p Kept.twinForceTakeDef
theorem Kept.gangCfgDef {z : State} : ∀ s p o id, Kept z s → (Machine.gangCfgDef.act s p o id).kept z := by
  intro s p o id hk
  dsimp only [Machine.gangCfgDef]
  grind -ring -linarith -lia [Effect.kept, Kept.updTwin, Kept.each, Kept.foldl, Kept.mk]
theorem Kept.execGangCfg {z s : State} (hk : Kept z s) (p : Packet) : ∀ z2, Machine.execGangCfg p s = .next z2 → Kept z z2
    := fun _ e => by cases e; exact Kept.runCmd hk _ p Kept.gangCfgDef

/-! ### Machine/Service.lean -/

theorem Kept.setRole {z s : State} (hk : Kept z s) (t : Nat) (fs : List (Fld × Nat)) : Kept z (State.setRole s t fs) := by
    grind -ring -linarith -lia [State.setRole, Kept.policyReg, Kept.each, Kept.foldl, Kept.mk]
theorem Kept.shiftDuties {z s : State} (hk : Kept z s) (t : Nat) (r : Nat) : Kept z (State.shiftDuties s t r) := by
  unfold State.shiftDuties
  simp only [apply_ite]
  grind -ring -linarith -lia [Kept.setRole, Kept.omeStart, Kept.jobsMoved, Kept.rewriteDist, Kept.each, Kept.foldl, Kept.mk]
theorem Kept.takeBack {z s : State} (hk : Kept z s) (t : Nat) : Kept z (State.takeBack s t) := by
  unfold State.takeBack
  split
  · exact Kept.ite ((hk.setRole ..).omeStart ..).rewriteDist hk
  · next r _ =>
    extract_lets s1 restart jobs w s2
    have h1 : Kept z s1 := (hk.setRole ..).setRole ..
    clear_value s1
    have h2 : Kept z s2 := h1.of_same rfl rfl rfl rfl rfl
    exact (((h2.omeStop ..).omeStart ..).rewriteDist).adoptFree
theorem Kept.quietReset {z s : State} (hk : Kept z s) (t : Nat) : Kept z (State.quietReset s t) := by
  unfold State.quietReset
  extract_lets s0 s1 s2 s3
  have h0 : Kept z s0 := by
    simp only [s0]
    split
    · exact hk.sublinkDown ..
    · exact hk
  have h1 : Kept z s1 := Kept.each h0 _ _ fun s p hs => (hs.declareDown ..).shut ..
  exact (((((((h1.crownRestart ..).abortRuns ..).omeStop ..).liftFences ..).clearCache ..).dropSleep ..).startTile ..).setF .. |>.bump ..
theorem Kept.tileTestEnterDef {z : State} : ∀ s p o id, Kept z s → (Machine.tileTestEnterDef.act s p o id).kept z := by
  intro s p o id hk
  dsimp only [Machine.tileTestEnterDef]
  grind -ring -linarith -lia [Effect.kept, Kept.shiftDuties, Kept.setFs, Kept.each, Kept.foldl, Kept.mk]
theorem Kept.execTileTestEnter {z s : State} (hk : Kept z s) (p : Packet) : ∀ z2, Machine.execTileTestEnter p s = .next z2 →
    Kept z z2 := fun _ e => by cases e; exact Kept.runCmd hk _ p Kept.tileTestEnterDef
theorem Kept.testEntered {z s : State} (hk : Kept z s) (t : Nat) (away : Bool) : Kept z (State.testEntered s t away) := by
    grind -ring -linarith -lia [State.testEntered, Kept.memUnavailable, Kept.setF, Kept.setFs, Kept.quietReset,
    Kept.syncFaultN, Kept.each, Kept.foldl, Kept.mk]
theorem Kept.withdraw {z s : State} (hk : Kept z s) (t : Nat) (items : Nat) : Kept z (State.withdraw s t items).1 := by
  unfold State.withdraw
  extract_lets edges s1 s2 dark
  have h1 : Kept z s1 := by
    refine Kept.each hk edges _ fun s e hs => ?_
    split
    · exact (hs.setFs ..).updBr ..
    · exact hs
  have h2 : Kept z s2 := Kept.ite h1 h1.rewriteDist
  exact Kept.ite (Kept.each (h2.setFs ..) _ _ fun s pl hs => hs.setFs ..) h2
theorem Kept.tileTestRunDef {z : State} : ∀ s p o id, Kept z s → (Machine.tileTestRunDef.act s p o id).kept z := by
  intro s p o id hk
  dsimp only [Machine.tileTestRunDef]
  grind -ring -linarith -lia [Effect.kept, Kept.withdraw, Kept.setFs, Kept.each, Kept.foldl, Kept.mk]
theorem Kept.execTileTestRun {z s : State} (hk : Kept z s) (p : Packet) : ∀ z2, Machine.execTileTestRun p s = .next z2 →
    Kept z z2 := fun _ e => by cases e; exact Kept.runCmd hk _ p Kept.tileTestRunDef
theorem Kept.testDone {z s : State} (hk : Kept z s) (r : Running) (meas : List Byte) : Kept z (State.testDone s r meas) := by
  unfold State.testDone
  extract_lets t
  split
  · exact hk.finish ..
  · next x _ =>
    extract_lets fail pass first s1 s2 s3 s4 s5
    have h0 : Kept z { s with tests := Map.del t s.tests } := hk.of_same rfl rfl rfl rfl rfl
    have h1 : Kept z s1 := by
      refine Kept.foldl h0 _ _ fun s e hs => ?_
      split
      · exact hs.setFs ..
      · exact hs
    clear_value s1
    have h2 : Kept z s2 := Kept.ite h1 h1.rewriteDist
    have h3 : Kept z s3 := Kept.ite (h2.reapplyDetention ..) h2
    have h4 : Kept z s4 := h3.setFs ..
    exact (Kept.setSat (Kept.ite (h4.setF ..) h4) ..).finish ..
theorem Kept.tileTestExitDef {z : State} : ∀ s p o id, Kept z s → (Machine.tileTestExitDef.act s p o id).kept z := by
  intro s p o id hk
  dsimp only [Machine.tileTestExitDef]
  grind -ring -linarith -lia [Effect.kept, Kept.setFs, Kept.each, Kept.foldl, Kept.mk]
theorem Kept.execTileTestExit {z s : State} (hk : Kept z s) (p : Packet) : ∀ z2, Machine.execTileTestExit p s = .next z2 →
    Kept z z2 := fun _ e => by cases e; exact Kept.runCmd hk _ p Kept.tileTestExitDef
theorem Kept.testExited {z s : State} (hk : Kept z s) (t : Nat) (restore : Bool) : Kept z (State.testExited s t restore) := by
  unfold State.testExited
  have h1 : Kept z ((s.leaveTest t).quietReset t) := (hk.leaveTest ..).quietReset ..
  refine Kept.ite ?_ h1.adoptFree
  generalize (s.leaveTest t).quietReset t = s1 at h1
  have h2 : Kept z (s1.takeBack t) := h1.takeBack ..
  dsimp only
  generalize s1.takeBack t = s2 at h2
  exact (Kept.syncHour (Kept.mk h2 ..) ..).adoptFree

/-! ### Machine/Security.lean -/

theorem Kept.sign {z s : State} (hk : Kept z s) (nonce : List Byte) : Kept z (State.sign s nonce).2 := by
    grind -ring -linarith -lia [State.sign, Kept.takeLeaf, Kept.updSec, Kept.setB, Kept.note, Kept.each, Kept.foldl,
    Kept.mk]
theorem Kept.attestDef {z : State} : ∀ s p o id, Kept z s → (Machine.attestDef.act s p o id).kept z := by
  intro s p o id hk
  dsimp only [Machine.attestDef]
  grind -ring -linarith -lia [Effect.kept, Kept.updSec, Kept.sign, Kept.each, Kept.foldl, Kept.mk]
theorem Kept.execAttest {z s : State} (hk : Kept z s) (p : Packet) : ∀ z2, Machine.execAttest p s = .next z2 → Kept z z2 :=
    fun _ e => by cases e; exact Kept.runCmd hk _ p Kept.attestDef
theorem Kept.execLeafTreeBuilt {z s : State} (hk : Kept z s)  : ∀ z2, Machine.execLeafTreeBuilt s = .next z2 → Kept z z2 :=
    by grind -ring -linarith -lia [Machine.execLeafTreeBuilt, Kept.updSec, Kept.each, Kept.sign, Kept.finish, Kept.each,
    Kept.foldl, Kept.mk]
theorem Kept.idCertReadDef {z : State} : ∀ s p o id, Kept z s → (Machine.idCertReadDef.act s p o id).kept z := by
  intro s p o id hk
  exact hk
theorem Kept.execIdCertRead {z s : State} (hk : Kept z s) (p : Packet) : ∀ z2, Machine.execIdCertRead p s = .next z2 → Kept
    z z2 := fun _ e => by cases e; exact Kept.runCmd hk _ p Kept.idCertReadDef
/-- A signed command keeps what its opcode's act keeps. -/
theorem Kept.runSigned {z s : State} (hk : Kept z s) (d : CmdDef) (p : Packet)
    (hd : ∀ s p o id, Kept z s → (d.act s p o id).kept z) : Kept z (Machine.runSigned d p s) := by
  have h1 := Kept.runCmd hk d p hd
  exact Kept.ite h1.authFail h1
theorem Kept.fwStageDef {z : State} : ∀ s p o id, Kept z s → (Machine.fwStageDef.act s p o id).kept z := by
  intro s p o id hk
  dsimp only [Machine.fwStageDef]
  grind -ring -linarith -lia [Effect.kept, Kept.setSlot, Kept.updSec, Kept.each, Kept.foldl, Kept.mk]
theorem Kept.execFwStage {z s : State} (hk : Kept z s) (p : Packet) : ∀ z2, Machine.execFwStage p s = .next z2 → Kept z z2
    := fun _ e => by cases e; exact Kept.runSigned hk _ p Kept.fwStageDef
theorem Kept.stageWritten {z s : State} (hk : Kept z s) (r : Running) : Kept z (State.stageWritten s r) := by
    grind -ring -linarith -lia [State.stageWritten, Kept.finish, Kept.updSec, Kept.setSlot, Kept.each, Kept.foldl, Kept.mk]
theorem Kept.fwActivateDef {z : State} : ∀ s p o id, Kept z s → (Machine.fwActivateDef.act s p o id).kept z := by
  intro s p o id hk
  dsimp only [Machine.fwActivateDef]
  grind -ring -linarith -lia [Effect.kept, Kept.updSec, Kept.setB, Kept.each, Kept.foldl, Kept.mk]
theorem Kept.execFwActivate {z s : State} (hk : Kept z s) (p : Packet) : ∀ z2, Machine.execFwActivate p s = .next z2 → Kept
    z z2 := fun _ e => by cases e; exact Kept.runSigned hk _ p Kept.fwActivateDef
theorem Kept.noteBad {z s : State} (hk : Kept z s)  : Kept z (State.noteBad s) := by grind -ring -linarith -lia
    [State.noteBad, Kept.each, Kept.note, Kept.updSec, Kept.each, Kept.foldl, Kept.mk]
theorem Kept.execSwitchoverDone {z s : State} (hk : Kept z s)  : ∀ z2, Machine.execSwitchoverDone s = .next z2 → Kept z z2 := by
  intros
  rename_i e
  unfold Machine.execSwitchoverDone at e
  dsimp only at e
  (repeat' split at e)
  all_goals (try contradiction)
  all_goals (cases e)
  all_goals (repeat' (first | assumption | with_reducible apply Kept.ite | with_reducible apply Kept.setFence | with_reducible apply Kept.updSec | with_reducible apply Kept.endSwitchover | with_reducible apply Kept.noteBad | with_reducible apply Kept.authFail | with_reducible apply Kept.finish | with_reducible apply Kept.setF | with_reducible apply Kept.setSlot | with_reducible apply Kept.runImage | with_reducible apply Kept.each | with_reducible apply Kept.foldl | split | intro _))
  all_goals grind -ring -linarith -lia [Kept.setFence, Kept.updSec, Kept.endSwitchover, Kept.noteBad, Kept.authFail, Kept.finish, Kept.setF, Kept.setSlot, Kept.runImage, Kept.each, Kept.foldl, Kept.mk]
theorem Kept.execTrialExpiry {z s : State} (hk : Kept z s)  : ∀ z2, Machine.execTrialExpiry s = .next z2 → Kept z z2 := by
    grind -ring -linarith -lia [Machine.execTrialExpiry, Kept.setSlot, Kept.updSec, Kept.each, Kept.foldl, Kept.mk]
theorem Kept.execTrialBootFail {z s : State} (hk : Kept z s)  : ∀ z2, Machine.execTrialBootFail s = .next z2 → Kept z z2 :=
    by grind -ring -linarith -lia [Machine.execTrialBootFail, Kept.setSlot, Kept.updSec, Kept.bootSlots, Kept.noteBad,
    Kept.each, Kept.foldl, Kept.mk]
theorem Kept.setUcodeNew {z s : State} (hk : Kept z s) (t : Nat) : Kept z (State.setUcodeNew s t) := by
    grind -ring -linarith -lia [State.setUcodeNew, Kept.setBit, Kept.each, Kept.foldl, Kept.mk]
theorem Kept.fwTileUpdateDef {z : State} : ∀ s p o id, Kept z s → (Machine.fwTileUpdateDef.act s p o id).kept z := by
  intro s p o id hk
  dsimp only [Machine.fwTileUpdateDef]
  grind -ring -linarith -lia [Effect.kept, Kept.setUcodeNew, Kept.shiftDuties, Kept.setF, Kept.updSec, Kept.each, Kept.foldl, Kept.mk]
theorem Kept.execFwTileUpdate {z s : State} (hk : Kept z s) (p : Packet) : ∀ z2, Machine.execFwTileUpdate p s = .next z2 →
    Kept z z2 := fun _ e => by cases e; exact Kept.runSigned hk _ p Kept.fwTileUpdateDef
theorem Kept.updateDone {z s : State} (hk : Kept z s) (t : Nat) (r : Running) : Kept z (State.updateDone s t r) := by
    grind -ring -linarith -lia [State.updateDone, Kept.updSec, Kept.setF, Kept.finish, Kept.setUcodeNew, Kept.quietReset,
    Kept.takeBack, Kept.each, Kept.foldl, Kept.mk]
theorem Kept.execTileReset {z s : State} (hk : Kept z s) (t : Tile) : ∀ z2, Machine.execTileReset t s = .next z2 → Kept z z2
    := by grind -ring -linarith -lia [Machine.execTileReset, Kept.resetTile, Kept.finishParam, Kept.updateDone, Kept.setF,
    Kept.finish, Kept.testEntered, Kept.testExited, Kept.each, Kept.foldl, Kept.mk]
theorem Kept.secSvnCommitDef {z : State} : ∀ s p o id, Kept z s → (Machine.secSvnCommitDef.act s p o id).kept z := by
  intro s p o id hk
  dsimp only [Machine.secSvnCommitDef]
  grind -ring -linarith -lia [Effect.kept, Kept.setSlot, Kept.setF, Kept.each, Kept.foldl, Kept.mk]
theorem Kept.execSecSvnCommit {z s : State} (hk : Kept z s) (p : Packet) : ∀ z2, Machine.execSecSvnCommit p s = .next z2 →
    Kept z z2 := fun _ e => by cases e; exact Kept.runSigned hk _ p Kept.secSvnCommitDef
theorem Kept.secKeyRevokeDef {z : State} : ∀ s p o id, Kept z s → (Machine.secKeyRevokeDef.act s p o id).kept z := by
  intro s p o id hk
  dsimp only [Machine.secKeyRevokeDef]
  grind -ring -linarith -lia [Effect.kept, Kept.setB, Kept.each, Kept.foldl, Kept.mk]
theorem Kept.execSecKeyRevoke {z s : State} (hk : Kept z s) (p : Packet) : ∀ z2, Machine.execSecKeyRevoke p s = .next z2 →
    Kept z z2 := fun _ e => by cases e; exact Kept.runSigned hk _ p Kept.secKeyRevokeDef

/-! ### Machine/Power.lean -/

theorem Kept.applySteps {z s : State} (hk : Kept z s) (steps : List Nat) : Kept z (State.applySteps s steps) := by
    grind -ring -linarith -lia [State.applySteps, Kept.updPow, Kept.setFs, Kept.each, Kept.syncDuty, Kept.sendLimit,
    Kept.each, Kept.foldl, Kept.mk]
theorem Kept.fastStep {z s : State} (hk : Kept z s)  : Kept z (State.fastStep s) := by grind -ring -linarith -lia
    [State.fastStep, Kept.applySteps, Kept.setB, Kept.each, Kept.foldl, Kept.mk]
theorem Kept.powerOff {z s : State} (hk : Kept z s)  : Kept z (State.powerOff s) := by grind -ring -linarith -lia
    [State.powerOff, Kept.powerOn, Kept.updClk, Kept.emit, Kept.each, Kept.foldl, Kept.mk]
theorem Kept.bladeEvent {z s : State} (hk : Kept z s)  : Kept z (State.bladeEvent s) := by grind -ring -linarith -lia
    [State.bladeEvent, Kept.powerOff, Kept.syncFeeds, Kept.fastStep, Kept.each, Kept.foldl, Kept.mk]
theorem Kept.execBladeBreaker {z s : State} (hk : Kept z s) (x : Fin 2) : ∀ z2, Machine.execBladeBreaker x s = .next z2 →
    Kept z z2 := by grind -ring -linarith -lia [Machine.execBladeBreaker, Kept.updPow, Kept.setB, Kept.bladeEvent,
    Kept.each, Kept.foldl, Kept.mk]
theorem Kept.execFeedLost {z s : State} (hk : Kept z s) (x : Fin 2) : ∀ z2, Machine.execFeedLost x s = .next z2 → Kept z z2
    := by grind -ring -linarith -lia [Machine.execFeedLost, Kept.updPow, Kept.setB, Kept.bladeEvent, Kept.each, Kept.foldl,
    Kept.mk]
theorem Kept.execFeedReturn {z s : State} (hk : Kept z s) (x : Fin 2) : ∀ z2, Machine.execFeedReturn x s = .next z2 → Kept z
    z2 := by grind -ring -linarith -lia [Machine.execFeedReturn, Kept.updPow, Kept.syncFeeds, Kept.each, Kept.foldl,
    Kept.mk]
theorem Kept.execOvTrip {z s : State} (hk : Kept z s)  : ∀ z2, Machine.execOvTrip s = .next z2 → Kept z z2 := by
    grind -ring -linarith -lia [Machine.execOvTrip, Kept.updClk, Kept.powerOff, Kept.each, Kept.foldl, Kept.mk]
theorem Kept.execOvRecovery {z s : State} (hk : Kept z s) (a : Bool) (b : Bool) : ∀ z2, Machine.execOvRecovery a b s = .next
    z2 → Kept z z2 := by grind -ring -linarith -lia [Machine.execOvRecovery, Kept.powerOn, Kept.updClk, Kept.updPow,
    Kept.emit, Kept.each, Kept.foldl, Kept.mk]
theorem Kept.execConverterFail {z s : State} (hk : Kept z s) (k : Fin 4) : ∀ z2, Machine.execConverterFail k s = .next z2 → Kept z z2 := by
  unfold Machine.execConverterFail
  (repeat' split) <;> grind -ring -linarith -lia [Kept.updPow, Kept.setB, Kept.syncFeeds, Kept.fastStep, Kept.assertModule, Kept.each, Kept.foldl, Kept.mk]
theorem Kept.execVinLow {z s : State} (hk : Kept z s)  : ∀ z2, Machine.execVinLow s = .next z2 → Kept z z2 := by
    grind -ring -linarith -lia [Machine.execVinLow, Kept.setB, Kept.assertModule, Kept.each, Kept.foldl, Kept.mk]
theorem Kept.powerSample {z s : State} (hk : Kept z s) (va : Nat) (ia : Nat) (vb : Nat) (ib : Nat) (pin : Nat) (vbus : Nat)
    (pbus : Nat) : Kept z (State.powerSample s va ia vb ib pin vbus pbus) := by grind -ring -linarith -lia
    [State.powerSample, Kept.updPow, Kept.setFs, Kept.each, Kept.foldl, Kept.mk]
theorem Kept.ceilingStep {z s : State} (hk : Kept z s) (pin : Nat) : Kept z (State.ceilingStep s pin) := by
    grind -ring -linarith -lia [State.ceilingStep, Kept.updPow, Kept.applySteps, Kept.setB, Kept.note, Kept.each,
    Kept.foldl, Kept.mk]
theorem Kept.execCeilingLoopTick {z s : State} (hk : Kept z s) (va : BitVec 16) (ia : BitVec 16) (vb : BitVec 16) (ib :
    BitVec 16) (pin : BitVec 16) (vbus : BitVec 16) (pbus : BitVec 16) : ∀ z2, Machine.execCeilingLoopTick va ia vb ib pin
    vbus pbus s = .next z2 → Kept z z2 := by grind -ring -linarith -lia [Machine.execCeilingLoopTick, Kept.powerSample,
    Kept.updCeil, Kept.ceilingStep, Kept.each, Kept.foldl, Kept.mk]
theorem Kept.execPolicyIdleD1 {z s : State} (hk : Kept z s) (t : Tile) : ∀ z2, Machine.execPolicyIdleD1 t s = .next z2 →
    Kept z z2 := by grind -ring -linarith -lia [Machine.execPolicyIdleD1, Kept.beginEntry, Kept.each, Kept.foldl, Kept.mk]
theorem Kept.execPolicyIdleD2 {z s : State} (hk : Kept z s) (t : Tile) : ∀ z2, Machine.execPolicyIdleD2 t s = .next z2 →
    Kept z z2 := by grind -ring -linarith -lia [Machine.execPolicyIdleD2, Kept.beginEntry, Kept.requestWake, Kept.updClk,
    Kept.each, Kept.foldl, Kept.mk]
theorem Kept.pwrCapSetDef {z : State} : ∀ s p o id, Kept z s → (Machine.pwrCapSetDef.act s p o id).kept z := by
  intro s p o id hk
  dsimp only [Machine.pwrCapSetDef]
  grind -ring -linarith -lia [Effect.kept, Kept.wr, Kept.updCeil, Kept.each, Kept.foldl, Kept.mk]
theorem Kept.execPwrCapSet {z s : State} (hk : Kept z s) (p : Packet) : ∀ z2, Machine.execPwrCapSet p s = .next z2 → Kept z
    z2 := fun _ e => by cases e; exact Kept.runCmd hk _ p Kept.pwrCapSetDef
theorem Kept.pwrPolicySetDef {z : State} : ∀ s p o id, Kept z s → (Machine.pwrPolicySetDef.act s p o id).kept z := by
  intro s p o id hk
  dsimp only [Machine.pwrPolicySetDef]
  grind -ring -linarith -lia [Effect.kept, Kept.wr, Kept.each, Kept.foldl, Kept.mk]
theorem Kept.execPwrPolicySet {z s : State} (hk : Kept z s) (p : Packet) : ∀ z2, Machine.execPwrPolicySet p s = .next z2 →
    Kept z z2 := fun _ e => by cases e; exact Kept.runCmd hk _ p Kept.pwrPolicySetDef
theorem Kept.pwrQueryDef {z : State} : ∀ s p o id, Kept z s → (Machine.pwrQueryDef.act s p o id).kept z := by
  intro s p o id hk
  dsimp only [Machine.pwrQueryDef]
  grind -ring -linarith -lia [Effect.kept, Kept.each, Kept.foldl, Kept.mk]
theorem Kept.execPwrQuery {z s : State} (hk : Kept z s) (p : Packet) : ∀ z2, Machine.execPwrQuery p s = .next z2 → Kept z z2
    := fun _ e => by cases e; exact Kept.runCmd hk _ p Kept.pwrQueryDef

/-! ### Machine/Host.lean -/

theorem Kept.execQDrainDone {z s : State} (hk : Kept z s) (q : Queue) : ∀ z2, Machine.execQDrainDone q s = .next z2 → Kept z
    z2 := by grind -ring -linarith -lia [Machine.execQDrainDone, Kept.setF, Kept.each, Kept.foldl, Kept.mk]
theorem Kept.execCxlIoError {z s : State} (hk : Kept z s) (q : Queue) : ∀ z2, Machine.execCxlIoError q s = .next z2 → Kept z
    z2 := by grind -ring -linarith -lia [Machine.execCxlIoError, Kept.setFs, Kept.updQu, Kept.each, Kept.foldl, Kept.mk]
theorem Kept.execCxlHotReset {z s : State} (hk : Kept z s) (n : Fin 2) (lost : Bool) : ∀ z2, Machine.execCxlHotReset n lost
    s = .next z2 → Kept z z2 := by grind -ring -linarith -lia [Machine.execCxlHotReset, Kept.hostPortDown, Kept.each,
    Kept.disableQueue, Kept.each, Kept.foldl, Kept.mk]
theorem Kept.cxlFetch {z s : State} (hk : Kept z s) (t : Nat) (a : Nat) : Kept z (State.cxlFetch s t a).2 := by
    grind -ring -linarith -lia [State.cxlFetch, Kept.resolve, Kept.remoteAccess, Kept.each, Kept.foldl, Kept.mk]
theorem Kept.execCxlMemRead {z s : State} (hk : Kept z s) (n : Fin 2) (dpa : BitVec 64) (ecc : Ecc) : ∀ z2, Machine.execCxlMemRead n dpa ecc s = .next z2 → Kept z z2 := by
  intro z2 e
  unfold Machine.execCxlMemRead at e
  extract_lets d a poison at e
  split at e
  · cases e; exact hk
  · split at e
    · cases e; exact hk.emit ..
    · split at e
      · cases e; exact hk.requestWake ..
      · have h := Kept.cxlFetch (hk.eccAt a 64 ecc) (cxlTile n) a
        generalize State.cxlFetch (s.eccAt a 64 ecc) (cxlTile n) a = w at e h
        obtain ⟨_ | bs, s1⟩ := w
        · cases e; exact Kept.emit h ..
        · cases e; exact Kept.emit h ..
theorem Kept.cxlWritten {z s : State} (hk : Kept z s) (n : Nat) (m : Option (Nat × Nat)) : Kept z (State.cxlWritten s n m) := by
  unfold State.cxlWritten
  (repeat' split) <;> grind -ring -linarith -lia [Kept.holdFor, Kept.emit, Kept.each, Kept.foldl, Kept.mk]
theorem Kept.cxlLost {z s : State} (hk : Kept z s) (n : Fin 2) (a : Nat) (m : Option (Nat × Nat)) (notice : Bool) : Kept z
    (State.cxlLost s n a m notice) := by grind -ring -linarith -lia [State.cxlLost, Kept.bump, Kept.note, Kept.cxlWritten,
    Kept.each, Kept.foldl, Kept.mk]
theorem Kept.cxlStore {z s : State} (hk : Kept z s) (n : Fin 2) (a : Nat) (bs : List Byte) (m : Option (Nat × Nat)) : Kept z (State.cxlStore s n a bs m) := by
  unfold State.cxlStore
  have h := Kept.resolve hk (cxlTile n) a bs.length true
  generalize s.resolve (cxlTile n) a bs.length true = w at h
  obtain ⟨r, s1⟩ := w
  dsimp only at h ⊢
  cases r with
  | bad st => exact h.cxlLost ..
  | noCopy => exact h.cxlLost ..
  | remote node addr =>
    dsimp only
    have h2 := Kept.remoteAccess h (cxlTile n) node addr (cxlTu 3 addr bs) 0
    generalize s1.remoteAccess (cxlTile n) node addr (cxlTu 3 addr bs) 0 = w at h2
    obtain ⟨_ | _, s2⟩ := w
    · exact Kept.cxlLost h2 ..
    · exact Kept.cxlWritten h2 ..
  | at_ mt key e =>
    refine Kept.ite (h.updPool ..) ?_
    have h2 := Kept.store h mt key bs
    generalize s1.store mt key bs = w at h2
    cases w with
    | ok s2 => exact Kept.cxlWritten (h2 _ rfl) ..
    | error _ => exact h.cxlLost ..
theorem Kept.execCxlMemWrite {z s : State} (hk : Kept z s) (n : Fin 2) (dpa : BitVec 64) (bytes : List Byte) : ∀ z2,
    Machine.execCxlMemWrite n dpa bytes s = .next z2 → Kept z z2 := by grind -ring -linarith -lia [Machine.execCxlMemWrite,
    Kept.cxlLost, Kept.requestWake, Kept.mirrorIf, Kept.cxlStore, Kept.each, Kept.foldl, Kept.mk]
theorem Kept.execJournalEntryDurable {z s : State} (hk : Kept z s)  : ∀ z2, Machine.execJournalEntryDurable s = .next z2 → Kept z z2 := by
  unfold Machine.execJournalEntryDurable
  (repeat' split) <;> grind -ring -linarith -lia [Kept.appendEntry, Kept.postFinal, Kept.enterM1, Kept.each, Kept.foldl, Kept.mk]
theorem Kept.execJournalWriteTimeout {z s : State} (hk : Kept z s)  : ∀ z2, Machine.execJournalWriteTimeout s = .next z2 → Kept z z2 := by
  intros
  rename_i e
  unfold Machine.execJournalWriteTimeout at e
  dsimp only at e
  (repeat' split at e)
  all_goals (try contradiction)
  all_goals (cases e)
  all_goals (repeat' (first | assumption | with_reducible apply Kept.ite | with_reducible apply Kept.undo | with_reducible apply Kept.each | with_reducible apply Kept.tendMap | with_reducible apply Kept.updClk | with_reducible apply Kept.note | with_reducible apply Kept.postFinal | with_reducible apply Kept.each | with_reducible apply Kept.foldl | split | intro _))
  all_goals grind -ring -linarith -lia [Kept.undo, Kept.each, Kept.tendMap, Kept.updClk, Kept.note, Kept.postFinal, Kept.each, Kept.foldl, Kept.mk]
theorem Kept.execJournalFlashRecover {z s : State} (hk : Kept z s)  : ∀ z2, Machine.execJournalFlashRecover s = .next z2 →
    Kept z z2 := by grind -ring -linarith -lia [Machine.execJournalFlashRecover, Kept.undo, Kept.appendEntry, Kept.setF,
    Kept.raiseMod, Kept.each, Kept.foldl, Kept.mk]
theorem Kept.rollcall {z s : State} (hk : Kept z s) (src : Nat) (next : Nat) : Kept z (State.rollcall s src next) := by
    grind -ring -linarith -lia [State.rollcall, Kept.setF, Kept.emit, Kept.each, Kept.foldl, Kept.mk]
theorem Kept.execRollcall {z s : State} (hk : Kept z s) (next : BitVec 8) : ∀ z2, Machine.execRollcall next s = .next z2 →
    Kept z z2 := by grind -ring -linarith -lia [Machine.execRollcall, Kept.rollcall, Kept.each, Kept.foldl, Kept.mk]
theorem Kept.execMchLinkChange {z s : State} (hk : Kept z s) (_outSide : Bool) : ∀ z2, Machine.execMchLinkChange _outSide s
    = .next z2 → Kept z z2 := by grind -ring -linarith -lia [Machine.execMchLinkChange, Kept.emit, Kept.each, Kept.foldl,
    Kept.mk]
theorem Kept.chainCommand {z s : State} (hk : Kept z s) (src : BitVec 8) (bytes : List Byte) : Kept z (State.chainCommand s
    src bytes) := by grind -ring -linarith -lia [State.chainCommand, Kept.postFinal, Kept.updPr, Kept.each, Kept.foldl,
    Kept.mk]
theorem Kept.chainTwin {z s : State} (hk : Kept z s) (src : BitVec 8) (d : List Byte) : Kept z (State.chainTwin s src d) :=
    by grind -ring -linarith -lia [State.chainTwin, Kept.lease, Kept.leaseAck, Kept.release, Kept.each, Kept.foldl, Kept.mk]
theorem Kept.execChainFrameReceive {z s : State} (hk : Kept z s) (bytes : List Byte) : ∀ z2, Machine.execChainFrameReceive
    bytes s = .next z2 → Kept z z2 := by grind -ring -linarith -lia [Machine.execChainFrameReceive, Kept.raiseMod,
    Kept.rollcall, Kept.emit, Kept.chainCommand, Kept.chainTwin, Kept.each, Kept.foldl, Kept.mk]
theorem Kept.nopDef {z : State} : ∀ s p o id, Kept z s → (Machine.nopDef.act s p o id).kept z := by
  intro s p o id hk
  dsimp only [Machine.nopDef]
  grind -ring -linarith -lia [Effect.kept, Kept.each, Kept.foldl, Kept.mk]
theorem Kept.execNop {z s : State} (hk : Kept z s) (p : Packet) : ∀ z2, Machine.execNop p s = .next z2 → Kept z z2 := fun _
    e => by cases e; exact Kept.runCmd hk _ p Kept.nopDef
theorem Kept.identifyDef {z : State} : ∀ s p o id, Kept z s → (Machine.identifyDef.act s p o id).kept z := by
  intro s p o id hk
  dsimp only [Machine.identifyDef]
  grind -ring -linarith -lia [Effect.kept, Kept.each, Kept.foldl, Kept.mk]
theorem Kept.execIdentify {z s : State} (hk : Kept z s) (p : Packet) : ∀ z2, Machine.execIdentify p s = .next z2 → Kept z z2
    := fun _ e => by cases e; exact Kept.runCmd hk _ p Kept.identifyDef
theorem Kept.whoamiDef {z : State} : ∀ s p o id, Kept z s → (Machine.whoamiDef.act s p o id).kept z := by
  intro s p o id hk
  dsimp only [Machine.whoamiDef]
  grind -ring -linarith -lia [Effect.kept, Kept.each, Kept.foldl, Kept.mk]
theorem Kept.execWhoami {z s : State} (hk : Kept z s) (p : Packet) : ∀ z2, Machine.execWhoami p s = .next z2 → Kept z z2 :=
    fun _ e => by cases e; exact Kept.runCmd hk _ p Kept.whoamiDef
theorem Kept.readRegs {z s : State} (hk : Kept z s) (off : Nat) (x0 : Nat) : Kept z (State.readRegs s off x0).2 := by
    fun_induction State.readRegs <;> grind -ring -linarith -lia [Kept.readReg, Kept.each, Kept.foldl, Kept.mk]
theorem Kept.regReadDef {z : State} : ∀ s p o id, Kept z s → (Machine.regReadDef.act s p o id).kept z := by
  intro s p o id hk
  dsimp only [Machine.regReadDef]
  grind -ring -linarith -lia [Effect.kept, Kept.readRegs, Kept.each, Kept.foldl, Kept.mk]
theorem Kept.execRegRead {z s : State} (hk : Kept z s) (p : Packet) : ∀ z2, Machine.execRegRead p s = .next z2 → Kept z z2
    := fun _ e => by cases e; exact Kept.runCmd hk _ p Kept.regReadDef
theorem Kept.cmdWrite {z s : State} (hk : Kept z s) (off : Nat) (v : Word) : Kept z (State.cmdWrite s off v).1 := by
    grind -ring -linarith -lia [State.cmdWrite, Kept.note, Kept.storeReg, Kept.each, Kept.foldl, Kept.mk]
theorem Kept.cmdWrites {z s : State} (hk : Kept z s) (x0 : List (Nat × Word)) : Kept z (State.cmdWrites s x0).1 := by
    fun_induction State.cmdWrites <;> grind -ring -linarith -lia [Kept.cmdWrite, Kept.each, Kept.foldl, Kept.mk]
theorem Kept.regWriteDef {z : State} : ∀ s p o id, Kept z s → (Machine.regWriteDef.act s p o id).kept z := by
  intro s p o id hk
  dsimp only [Machine.regWriteDef]
  grind -ring -linarith -lia [Effect.kept, Kept.cmdWrites, Kept.each, Kept.foldl, Kept.mk]
theorem Kept.execRegWrite {z s : State} (hk : Kept z s) (p : Packet) : ∀ z2, Machine.execRegWrite p s = .next z2 → Kept z z2
    := fun _ e => by cases e; exact Kept.runCmd hk _ p Kept.regWriteDef
theorem Kept.regUpdateDef {z : State} : ∀ s p o id, Kept z s → (Machine.regUpdateDef.act s p o id).kept z := by
  intro s p o id hk
  dsimp only [Machine.regUpdateDef]
  grind -ring -linarith -lia [Effect.kept, Kept.readReg, Kept.cmdWrite, Kept.each, Kept.foldl, Kept.mk]
theorem Kept.execRegUpdate {z s : State} (hk : Kept z s) (p : Packet) : ∀ z2, Machine.execRegUpdate p s = .next z2 → Kept z
    z2 := fun _ e => by cases e; exact Kept.runCmd hk _ p Kept.regUpdateDef
theorem Kept.journalHeadDef {z : State} : ∀ s p o id, Kept z s → (Machine.journalHeadDef.act s p o id).kept z := by
  intro s p o id hk
  dsimp only [Machine.journalHeadDef]
  grind -ring -linarith -lia [Effect.kept, Kept.each, Kept.foldl, Kept.mk]
theorem Kept.execJournalHead {z s : State} (hk : Kept z s) (p : Packet) : ∀ z2, Machine.execJournalHead p s = .next z2 →
    Kept z z2 := fun _ e => by cases e; exact Kept.runCmd hk _ p Kept.journalHeadDef
theorem Kept.journalReadDef {z : State} : ∀ s p o id, Kept z s → (Machine.journalReadDef.act s p o id).kept z := by
  intro s p o id hk
  dsimp only [Machine.journalReadDef]
  grind -ring -linarith -lia [Effect.kept, Kept.each, Kept.foldl, Kept.mk]
theorem Kept.execJournalRead {z s : State} (hk : Kept z s) (p : Packet) : ∀ z2, Machine.execJournalRead p s = .next z2 →
    Kept z z2 := fun _ e => by cases e; exact Kept.runCmd hk _ p Kept.journalReadDef

/-! ### Machine/Proctor.lean -/

theorem Kept.group0 {z : State} : ∀ d ∈ Machine.group0, ∀ s p o id, Kept z s → (d.act s p o id).kept z := by
  intro d hd
  simp only [Machine.group0, List.mem_cons, List.not_mem_nil, or_false] at hd
  rcases hd with rfl | rfl | rfl | rfl | rfl
  · exact Kept.nopDef
  · exact Kept.identifyDef
  · exact Kept.whoamiDef
  · exact Kept.attestDef
  · exact Kept.idCertReadDef

theorem Kept.group1 {z : State} : ∀ d ∈ Machine.group1, ∀ s p o id, Kept z s → (d.act s p o id).kept z := by
  intro d hd
  simp only [Machine.group1, List.mem_cons, List.not_mem_nil, or_false] at hd
  rcases hd with rfl | rfl | rfl | rfl | rfl | rfl | rfl | rfl | rfl | rfl | rfl
  · exact Kept.regReadDef
  · exact Kept.regWriteDef
  · exact Kept.regUpdateDef
  · exact Kept.journalHeadDef
  · exact Kept.journalReadDef
  · exact Kept.resetDef
  · exact Kept.xsiteResetDef
  · exact Kept.xsiteCapReadDef
  · exact Kept.tileTestEnterDef
  · exact Kept.tileTestRunDef
  · exact Kept.tileTestExitDef

theorem Kept.group2 {z : State} : ∀ d ∈ Machine.group2, ∀ s p o id, Kept z s → (d.act s p o id).kept z := by
  intro d hd
  simp only [Machine.group2, List.mem_cons, List.not_mem_nil, or_false] at hd
  rcases hd with rfl | rfl | rfl | rfl | rfl | rfl | rfl | rfl | rfl | rfl | rfl
  · exact Kept.portTrainDef
  · exact Kept.portLanesetDef
  · exact Kept.phoCommissionDef
  · exact Kept.phoMonReadDef
  · exact Kept.phoSubstituteDef
  · exact Kept.phoRestoreDef
  · exact Kept.phoRefmonDef
  · exact Kept.portEyeScanDef
  · exact Kept.portPrbsDef
  · exact Kept.brimFenceDef
  · exact Kept.brimUnfenceDef

theorem Kept.group3 {z : State} : ∀ d ∈ Machine.group3, ∀ s p o id, Kept z s → (d.act s p o id).kept z := by
  intro d hd
  simp only [Machine.group3, List.mem_cons, List.not_mem_nil, or_false] at hd
  rcases hd with rfl | rfl | rfl | rfl | rfl | rfl
  · exact Kept.memAllocDef
  · exact Kept.memFreeDef
  · exact Kept.memMigrateDef
  · exact Kept.memQueryDef
  · exact Kept.memPoolStatDef
  · exact Kept.memAttrDef

theorem Kept.group4 {z : State} : ∀ d ∈ Machine.group4, ∀ s p o id, Kept z s → (d.act s p o id).kept z := by
  intro d hd
  simp only [Machine.group4, List.mem_cons, List.not_mem_nil, or_false] at hd
  rcases hd with rfl | rfl | rfl | rfl | rfl | rfl
  · exact Kept.omeJobSubmitDef
  · exact Kept.omeJobQueryDef
  · exact Kept.omeJobCancelDef
  · exact Kept.omeStageLoadDef
  · exact Kept.omeStageReleaseDef
  · exact Kept.omeStageQueryDef

theorem Kept.group5 {z : State} : ∀ d ∈ Machine.group5, ∀ s p o id, Kept z s → (d.act s p o id).kept z := by
  intro d hd
  simp only [Machine.group5, List.mem_cons, List.not_mem_nil, or_false] at hd
  rcases hd with rfl | rfl | rfl | rfl | rfl | rfl | rfl
  · exact Kept.collGroupCreateDef
  · exact Kept.collGroupDestroyDef
  · exact Kept.collGroupModifyDef
  · exact Kept.collGroupQueryDef
  · exact Kept.collOpPostDef
  · exact Kept.collOpQueryDef
  · exact Kept.collOpAbortDef

theorem Kept.group6 {z : State} : ∀ d ∈ Machine.group6, ∀ s p o id, Kept z s → (d.act s p o id).kept z := by
  intro d hd
  simp only [Machine.group6, List.mem_cons, List.not_mem_nil, or_false] at hd
  rcases hd with rfl | rfl | rfl | rfl | rfl | rfl | rfl
  · exact Kept.streamOpenDef
  · exact Kept.streamCloseDef
  · exact Kept.streamQueryDef
  · exact Kept.famMapDef
  · exact Kept.famReadDef
  · exact Kept.reserveReleaseDef
  · exact Kept.reserveReturnDef

theorem Kept.group7 {z : State} : ∀ d ∈ Machine.group7, ∀ s p o id, Kept z s → (d.act s p o id).kept z := by
  intro d hd
  simp only [Machine.group7, List.mem_cons, List.not_mem_nil, or_false] at hd
  rcases hd with rfl | rfl | rfl | rfl | rfl | rfl
  · exact Kept.blockRunDef
  · exact Kept.blockTraceDef
  · exact Kept.blockReleaseDef
  · exact Kept.blockQueryDef
  · exact Kept.ageReplanResetDef
  · exact Kept.ageQueryDef

theorem Kept.group8 {z : State} : ∀ d ∈ Machine.group8, ∀ s p o id, Kept z s → (d.act s p o id).kept z := by
  intro d hd
  simp only [Machine.group8, List.mem_cons, List.not_mem_nil, or_false] at hd
  rcases hd with rfl | rfl | rfl | rfl | rfl | rfl | rfl | rfl | rfl
  · exact Kept.faultStatusDef
  · exact Kept.faultClearDef
  · exact Kept.faultReleaseDef
  · exact Kept.faultUnfenceDef
  · exact Kept.faultInjectDef
  · exact Kept.rcReadDef
  · exact Kept.rcCondenseDef
  · exact Kept.rcClearDef
  · exact Kept.rcCodeListDef

theorem Kept.group9 {z : State} : ∀ d ∈ Machine.group9, ∀ s p o id, Kept z s → (d.act s p o id).kept z := by
  intro d hd
  simp only [Machine.group9, List.mem_cons, List.not_mem_nil, or_false] at hd
  rcases hd with rfl | rfl | rfl | rfl | rfl
  · exact Kept.fwStageDef
  · exact Kept.fwActivateDef
  · exact Kept.fwTileUpdateDef
  · exact Kept.secSvnCommitDef
  · exact Kept.secKeyRevokeDef

theorem Kept.groupA {z : State} : ∀ d ∈ Machine.groupA, ∀ s p o id, Kept z s → (d.act s p o id).kept z := by
  intro d hd
  simp only [Machine.groupA, List.mem_cons, List.not_mem_nil, or_false] at hd
  rcases hd with rfl | rfl | rfl | rfl | rfl
  · exact Kept.twinStatusDef
  · exact Kept.twinBindDef
  · exact Kept.twinHandoverDef
  · exact Kept.twinForceTakeDef
  · exact Kept.gangCfgDef

theorem Kept.groupB {z : State} : ∀ d ∈ Machine.groupB, ∀ s p o id, Kept z s → (d.act s p o id).kept z := by
  intro d hd
  simp only [Machine.groupB, List.mem_cons, List.not_mem_nil, or_false] at hd
  rcases hd with rfl | rfl | rfl | rfl | rfl | rfl
  · exact Kept.pwrTileModeDef
  · exact Kept.pwrModuleStandbyDef
  · exact Kept.pwrModuleResumeDef
  · exact Kept.pwrCapSetDef
  · exact Kept.pwrPolicySetDef
  · exact Kept.pwrQueryDef

/-- The act of every opcode keeps what it is given. -/
theorem Kept.cmdDef {z : State} {code : Nat} {d : CmdDef} (h : Machine.cmdDef code = some d) :
    ∀ s p o id, Kept z s → (d.act s p o id).kept z := by
  have hm := List.mem_of_find?_eq_some h
  simp only [Machine.cmdDefs, List.mem_append] at hm
  rcases hm with ((((((((((h | h) | h) | h) | h) | h) | h) | h) | h) | h) | h) | h
  · exact Kept.group0 d h
  · exact Kept.group1 d h
  · exact Kept.group2 d h
  · exact Kept.group3 d h
  · exact Kept.group4 d h
  · exact Kept.group5 d h
  · exact Kept.group6 d h
  · exact Kept.group7 d h
  · exact Kept.group8 d h
  · exact Kept.group9 d h
  · exact Kept.groupA d h
  · exact Kept.groupB d h

theorem Kept.dispatch {z s : State} (hk : Kept z s) {code : Nat} {d : CmdDef} (hd : Machine.cmdDef code = some d) (p : Packet) :
    Kept z (s.dispatch d p) := Kept.ite (Kept.runSigned hk d p (Kept.cmdDef hd)) (Kept.runCmd hk d p (Kept.cmdDef hd))

theorem Kept.runPacket {z s : State} (hk : Kept z s) (path : Path) (bs : List Byte) : Kept z (State.runPacket s path bs) := by
  unfold State.runPacket
  dsimp only
  split
  · exact hk.answer ..
  · split
    · exact hk
    · next hd => exact hk.dispatch hd _
theorem Kept.takeHost {z s : State} (hk : Kept z s) (q : Nat) (bs : List Byte) : Kept z (State.takeHost s q bs) := by
    grind -ring -linarith -lia [State.takeHost, Kept.answer, Kept.setFs, Kept.setF, Kept.runPacket, Kept.each, Kept.foldl,
    Kept.mk]
theorem Kept.takeAt {z s : State} (hk : Kept z s) (place : Nat) (r : RawPacket) (left : List Nat) : Kept z (State.takeAt s
    place r left) := by grind -ring -linarith -lia [State.takeAt, Kept.updPr, Kept.place, Kept.runPacket, Kept.takeHost,
    Kept.each, Kept.foldl, Kept.mk]
theorem Kept.execProctorTakePacket {z s : State} (hk : Kept z s)  : ∀ z2, Machine.execProctorTakePacket s = .next z2 → Kept
    z z2 := by grind -ring -linarith -lia [Machine.execProctorTakePacket, Kept.takeAt, Kept.each, Kept.foldl, Kept.mk]
theorem Kept.outcome {z s : State} (hk : Kept z s) (r : Running) (meas : List Byte) (gang : Option GangReply) : Kept z (State.outcome s r meas gang) := by
  unfold State.outcome
  (repeat' split) <;> grind -ring -linarith -lia [Kept.finish, Kept.testDone, Kept.stageWritten, Kept.each, Kept.foldl, Kept.mk]
theorem Kept.execCommandComplete {z s : State} (hk : Kept z s) (path : Path) (tag : BitVec 16) (meas : List Byte) (gang :
    Option GangReply) : ∀ z2, Machine.execCommandComplete path tag meas gang s = .next z2 → Kept z z2 := by
    grind -ring -linarith -lia [Machine.execCommandComplete, Kept.outcome, Kept.updPr, Kept.conclude, Kept.undo, Kept.each,
    Kept.foldl, Kept.mk]

end Sys2Proof.Machine
end

