-- ==== Sys2Proof/Laws/PerInstr.lean ====
section
/-! SUPPORT. Laws/PerInstr.lean: statements made for every command as syntax, one lemma per constructor. -/

namespace Sys2Proof

/-- The packet that a command carries, if it is one that carries a packet. -/
def Instr.packet : Instr → Option Packet
  | .nop p => some p
  | .identify p => some p
  | .whoami p => some p
  | .attest p => some p
  | .idCertRead p => some p
  | .regRead p => some p
  | .regWrite p => some p
  | .regUpdate p => some p
  | .journalHead p => some p
  | .journalRead p => some p
  | .reset p => some p
  | .xsiteReset p => some p
  | .xsiteCapRead p => some p
  | .tileTestEnter p => some p
  | .tileTestRun p => some p
  | .tileTestExit p => some p
  | .portTrain p => some p
  | .portLaneset p => some p
  | .phoCommission p => some p
  | .phoMonRead p => some p
  | .phoSubstitute p => some p
  | .phoRestore p => some p
  | .phoRefmon p => some p
  | .portEyeScan p => some p
  | .portPrbs p => some p
  | .brimFence p => some p
  | .brimUnfence p => some p
  | .memAlloc p => some p
  | .memFree p => some p
  | .memMigrate p => some p
  | .memQuery p => some p
  | .memPoolStat p => some p
  | .memAttr p => some p
  | .omeJobSubmit p => some p
  | .omeJobQuery p => some p
  | .omeJobCancel p => some p
  | .omeStageLoad p => some p
  | .omeStageRelease p => some p
  | .omeStageQuery p => some p
  | .collGroupCreate p => some p
  | .collGroupDestroy p => some p
  | .collGroupModify p => some p
  | .collGroupQuery p => some p
  | .collOpPost p => some p
  | .collOpQuery p => some p
  | .collOpAbort p => some p
  | .streamOpen p => some p
  | .streamClose p => some p
  | .streamQuery p => some p
  | .streamReserveRelease p => some p
  | .streamReserveReturn p => some p
  | .famMap p => some p
  | .famRead p => some p
  | .blockRun p => some p
  | .blockTrace p => some p
  | .blockRelease p => some p
  | .blockQuery p => some p
  | .ageReplanReset p => some p
  | .ageQuery p => some p
  | .faultStatus p => some p
  | .faultClear p => some p
  | .faultRelease p => some p
  | .faultUnfence p => some p
  | .faultInject p => some p
  | .rcRead p => some p
  | .rcCondense p => some p
  | .rcClear p => some p
  | .rcCodeList p => some p
  | .fwStage p => some p
  | .fwActivate p => some p
  | .fwTileUpdate p => some p
  | .secSvnCommit p => some p
  | .secKeyRevoke p => some p
  | .twinStatus p => some p
  | .twinBind p => some p
  | .twinHandover p => some p
  | .twinForceTake p => some p
  | .gangCfg p => some p
  | .pwrTileMode p => some p
  | .pwrModuleStandby p => some p
  | .pwrModuleResume p => some p
  | .pwrCapSet p => some p
  | .pwrPolicySet p => some p
  | .pwrQuery p => some p
  | _ => none

/-- A packet that can reach the block is at most 4,096 bytes long, in whole words (R52). -/
theorem Packet.wf_length {p : Packet} (h : p.wf = true) : 32 + p.params.length ≤ 4096 ∧ p.params.length % 4 = 0 := by
  simp only [Packet.wf, Bool.and_eq_true, beq_iff_eq, decide_eq_true_eq] at h
  refine ⟨?_, h.1.1⟩
  have h1 := h.1.2
  cases hp : p.path <;> simp [hp, Path.packetMax] at h1 <;> omega

end Sys2Proof

namespace Sys2Proof.Laws.OperandsInRange

/-- A well-formed command carries no packet longer than 4,096 bytes, and its packet is whole words (R52). -/
def Statement (i : Instr) : Prop := i.wellFormed = true → ∀ p, i.packet = some p → 32 + p.params.length ≤ 4096 ∧ p.params.length % 4 = 0

theorem nop (p : Packet) : Statement (.nop p) := fun h _ e => by cases e; exact Packet.wf_length h
theorem identify (p : Packet) : Statement (.identify p) := fun h _ e => by cases e; exact Packet.wf_length h
theorem whoami (p : Packet) : Statement (.whoami p) := fun h _ e => by cases e; exact Packet.wf_length h
theorem attest (p : Packet) : Statement (.attest p) := fun h _ e => by cases e; exact Packet.wf_length h
theorem idCertRead (p : Packet) : Statement (.idCertRead p) := fun h _ e => by cases e; exact Packet.wf_length h
theorem regRead (p : Packet) : Statement (.regRead p) := fun h _ e => by cases e; exact Packet.wf_length h
theorem regWrite (p : Packet) : Statement (.regWrite p) := fun h _ e => by cases e; exact Packet.wf_length h
theorem regUpdate (p : Packet) : Statement (.regUpdate p) := fun h _ e => by cases e; exact Packet.wf_length h
theorem journalHead (p : Packet) : Statement (.journalHead p) := fun h _ e => by cases e; exact Packet.wf_length h
theorem journalRead (p : Packet) : Statement (.journalRead p) := fun h _ e => by cases e; exact Packet.wf_length h
theorem reset (p : Packet) : Statement (.reset p) := fun h _ e => by cases e; exact Packet.wf_length h
theorem xsiteReset (p : Packet) : Statement (.xsiteReset p) := fun h _ e => by cases e; exact Packet.wf_length h
theorem xsiteCapRead (p : Packet) : Statement (.xsiteCapRead p) := fun h _ e => by cases e; exact Packet.wf_length h
theorem tileTestEnter (p : Packet) : Statement (.tileTestEnter p) := fun h _ e => by cases e; exact Packet.wf_length h
theorem tileTestRun (p : Packet) : Statement (.tileTestRun p) := fun h _ e => by cases e; exact Packet.wf_length h
theorem tileTestExit (p : Packet) : Statement (.tileTestExit p) := fun h _ e => by cases e; exact Packet.wf_length h
theorem portTrain (p : Packet) : Statement (.portTrain p) := fun h _ e => by cases e; exact Packet.wf_length h
theorem portLaneset (p : Packet) : Statement (.portLaneset p) := fun h _ e => by cases e; exact Packet.wf_length h
theorem phoCommission (p : Packet) : Statement (.phoCommission p) := fun h _ e => by cases e; exact Packet.wf_length h
theorem phoMonRead (p : Packet) : Statement (.phoMonRead p) := fun h _ e => by cases e; exact Packet.wf_length h
theorem phoSubstitute (p : Packet) : Statement (.phoSubstitute p) := fun h _ e => by cases e; exact Packet.wf_length h
theorem phoRestore (p : Packet) : Statement (.phoRestore p) := fun h _ e => by cases e; exact Packet.wf_length h
theorem phoRefmon (p : Packet) : Statement (.phoRefmon p) := fun h _ e => by cases e; exact Packet.wf_length h
theorem portEyeScan (p : Packet) : Statement (.portEyeScan p) := fun h _ e => by cases e; exact Packet.wf_length h
theorem portPrbs (p : Packet) : Statement (.portPrbs p) := fun h _ e => by cases e; exact Packet.wf_length h
theorem brimFence (p : Packet) : Statement (.brimFence p) := fun h _ e => by cases e; exact Packet.wf_length h
theorem brimUnfence (p : Packet) : Statement (.brimUnfence p) := fun h _ e => by cases e; exact Packet.wf_length h
theorem memAlloc (p : Packet) : Statement (.memAlloc p) := fun h _ e => by cases e; exact Packet.wf_length h
theorem memFree (p : Packet) : Statement (.memFree p) := fun h _ e => by cases e; exact Packet.wf_length h
theorem memMigrate (p : Packet) : Statement (.memMigrate p) := fun h _ e => by cases e; exact Packet.wf_length h
theorem memQuery (p : Packet) : Statement (.memQuery p) := fun h _ e => by cases e; exact Packet.wf_length h
theorem memPoolStat (p : Packet) : Statement (.memPoolStat p) := fun h _ e => by cases e; exact Packet.wf_length h
theorem memAttr (p : Packet) : Statement (.memAttr p) := fun h _ e => by cases e; exact Packet.wf_length h
theorem omeJobSubmit (p : Packet) : Statement (.omeJobSubmit p) := fun h _ e => by cases e; exact Packet.wf_length h
theorem omeJobQuery (p : Packet) : Statement (.omeJobQuery p) := fun h _ e => by cases e; exact Packet.wf_length h
theorem omeJobCancel (p : Packet) : Statement (.omeJobCancel p) := fun h _ e => by cases e; exact Packet.wf_length h
theorem omeStageLoad (p : Packet) : Statement (.omeStageLoad p) := fun h _ e => by cases e; exact Packet.wf_length h
theorem omeStageRelease (p : Packet) : Statement (.omeStageRelease p) := fun h _ e => by cases e; exact Packet.wf_length h
theorem omeStageQuery (p : Packet) : Statement (.omeStageQuery p) := fun h _ e => by cases e; exact Packet.wf_length h
theorem collGroupCreate (p : Packet) : Statement (.collGroupCreate p) := fun h _ e => by cases e; exact Packet.wf_length h
theorem collGroupDestroy (p : Packet) : Statement (.collGroupDestroy p) := fun h _ e => by cases e; exact Packet.wf_length h
theorem collGroupModify (p : Packet) : Statement (.collGroupModify p) := fun h _ e => by cases e; exact Packet.wf_length h
theorem collGroupQuery (p : Packet) : Statement (.collGroupQuery p) := fun h _ e => by cases e; exact Packet.wf_length h
theorem collOpPost (p : Packet) : Statement (.collOpPost p) := fun h _ e => by cases e; exact Packet.wf_length h
theorem collOpQuery (p : Packet) : Statement (.collOpQuery p) := fun h _ e => by cases e; exact Packet.wf_length h
theorem collOpAbort (p : Packet) : Statement (.collOpAbort p) := fun h _ e => by cases e; exact Packet.wf_length h
theorem streamOpen (p : Packet) : Statement (.streamOpen p) := fun h _ e => by cases e; exact Packet.wf_length h
theorem streamClose (p : Packet) : Statement (.streamClose p) := fun h _ e => by cases e; exact Packet.wf_length h
theorem streamQuery (p : Packet) : Statement (.streamQuery p) := fun h _ e => by cases e; exact Packet.wf_length h
theorem streamReserveRelease (p : Packet) : Statement (.streamReserveRelease p) := fun h _ e => by cases e; exact Packet.wf_length h
theorem streamReserveReturn (p : Packet) : Statement (.streamReserveReturn p) := fun h _ e => by cases e; exact Packet.wf_length h
theorem famMap (p : Packet) : Statement (.famMap p) := fun h _ e => by cases e; exact Packet.wf_length h
theorem famRead (p : Packet) : Statement (.famRead p) := fun h _ e => by cases e; exact Packet.wf_length h
theorem blockRun (p : Packet) : Statement (.blockRun p) := fun h _ e => by cases e; exact Packet.wf_length h
theorem blockTrace (p : Packet) : Statement (.blockTrace p) := fun h _ e => by cases e; exact Packet.wf_length h
theorem blockRelease (p : Packet) : Statement (.blockRelease p) := fun h _ e => by cases e; exact Packet.wf_length h
theorem blockQuery (p : Packet) : Statement (.blockQuery p) := fun h _ e => by cases e; exact Packet.wf_length h
theorem ageReplanReset (p : Packet) : Statement (.ageReplanReset p) := fun h _ e => by cases e; exact Packet.wf_length h
theorem ageQuery (p : Packet) : Statement (.ageQuery p) := fun h _ e => by cases e; exact Packet.wf_length h
theorem faultStatus (p : Packet) : Statement (.faultStatus p) := fun h _ e => by cases e; exact Packet.wf_length h
theorem faultClear (p : Packet) : Statement (.faultClear p) := fun h _ e => by cases e; exact Packet.wf_length h
theorem faultRelease (p : Packet) : Statement (.faultRelease p) := fun h _ e => by cases e; exact Packet.wf_length h
theorem faultUnfence (p : Packet) : Statement (.faultUnfence p) := fun h _ e => by cases e; exact Packet.wf_length h
theorem faultInject (p : Packet) : Statement (.faultInject p) := fun h _ e => by cases e; exact Packet.wf_length h
theorem rcRead (p : Packet) : Statement (.rcRead p) := fun h _ e => by cases e; exact Packet.wf_length h
theorem rcCondense (p : Packet) : Statement (.rcCondense p) := fun h _ e => by cases e; exact Packet.wf_length h
theorem rcClear (p : Packet) : Statement (.rcClear p) := fun h _ e => by cases e; exact Packet.wf_length h
theorem rcCodeList (p : Packet) : Statement (.rcCodeList p) := fun h _ e => by cases e; exact Packet.wf_length h
theorem fwStage (p : Packet) : Statement (.fwStage p) := fun h _ e => by cases e; exact Packet.wf_length h
theorem fwActivate (p : Packet) : Statement (.fwActivate p) := fun h _ e => by cases e; exact Packet.wf_length h
theorem fwTileUpdate (p : Packet) : Statement (.fwTileUpdate p) := fun h _ e => by cases e; exact Packet.wf_length h
theorem secSvnCommit (p : Packet) : Statement (.secSvnCommit p) := fun h _ e => by cases e; exact Packet.wf_length h
theorem secKeyRevoke (p : Packet) : Statement (.secKeyRevoke p) := fun h _ e => by cases e; exact Packet.wf_length h
theorem twinStatus (p : Packet) : Statement (.twinStatus p) := fun h _ e => by cases e; exact Packet.wf_length h
theorem twinBind (p : Packet) : Statement (.twinBind p) := fun h _ e => by cases e; exact Packet.wf_length h
theorem twinHandover (p : Packet) : Statement (.twinHandover p) := fun h _ e => by cases e; exact Packet.wf_length h
theorem twinForceTake (p : Packet) : Statement (.twinForceTake p) := fun h _ e => by cases e; exact Packet.wf_length h
theorem gangCfg (p : Packet) : Statement (.gangCfg p) := fun h _ e => by cases e; exact Packet.wf_length h
theorem pwrTileMode (p : Packet) : Statement (.pwrTileMode p) := fun h _ e => by cases e; exact Packet.wf_length h
theorem pwrModuleStandby (p : Packet) : Statement (.pwrModuleStandby p) := fun h _ e => by cases e; exact Packet.wf_length h
theorem pwrModuleResume (p : Packet) : Statement (.pwrModuleResume p) := fun h _ e => by cases e; exact Packet.wf_length h
theorem pwrCapSet (p : Packet) : Statement (.pwrCapSet p) := fun h _ e => by cases e; exact Packet.wf_length h
theorem pwrPolicySet (p : Packet) : Statement (.pwrPolicySet p) := fun h _ e => by cases e; exact Packet.wf_length h
theorem pwrQuery (p : Packet) : Statement (.pwrQuery p) := fun h _ e => by cases e; exact Packet.wf_length h
theorem proctorTakePacket : Statement .proctorTakePacket := fun _ _ e => nomatch e
theorem commandComplete (path : Path) (tag : BitVec 16) (meas : List Byte) (gang : Option GangReply) : Statement (.commandComplete path tag meas gang) := fun _ _ e => nomatch e
theorem qdbSqTailWrite (src : BusSrc) (q : Queue) (v : BitVec 32) : Statement (.qdbSqTailWrite src q v) := fun _ _ e => nomatch e
theorem qdbCqHeadWrite (src : BusSrc) (q : Queue) (v : BitVec 32) : Statement (.qdbCqHeadWrite src q v) := fun _ _ e => nomatch e
theorem qEnable (src : BusSrc) (q : Queue) (v : BitVec 32) : Statement (.qEnable src q v) := fun _ _ e => nomatch e
theorem qDisable (src : BusSrc) (q : Queue) (v : BitVec 32) : Statement (.qDisable src q v) := fun _ _ e => nomatch e
theorem qDrainDone (q : Queue) : Statement (.qDrainDone q) := fun _ _ e => nomatch e
theorem cxlIoError (q : Queue) : Statement (.cxlIoError q) := fun _ _ e => nomatch e
theorem cxlHotReset (n : Fin 2) (lost : Bool) : Statement (.cxlHotReset n lost) := fun _ _ e => nomatch e
theorem cxlLinkTrained (n : Fin 2) (rate : Fin 6) (width : Fin 17) (rev : Bool) : Statement (.cxlLinkTrained n rate width rev) := fun _ _ e => nomatch e
theorem cxlMemRead (n : Fin 2) (dpa : BitVec 64) (ecc : Ecc) : Statement (.cxlMemRead n dpa ecc) := fun _ _ e => nomatch e
theorem cxlMemWrite (n : Fin 2) (dpa : BitVec 64) (bytes : List Byte) : Statement (.cxlMemWrite n dpa bytes) := fun _ _ e => nomatch e
theorem bar0BadAccess (src : BusSrc) (off : BitVec 27) (write : Option (List Byte)) : Statement (.bar0BadAccess src off write) := fun _ _ e => nomatch e
theorem bar0RegWrite (src : BusSrc) (off : BitVec 27) (v : BitVec 32) : Statement (.bar0RegWrite src off v) := fun _ _ e => nomatch e
theorem regLoRead (src : BusSrc) (off : BitVec 27) : Statement (.regLoRead src off) := fun _ _ e => nomatch e
theorem jrnlHeadSeqLoRead (src : BusSrc) : Statement (.jrnlHeadSeqLoRead src) := fun _ _ e => nomatch e
theorem sleepingTileAccess (src : BusSrc) (t : Tile) (rel : BitVec 20) (w : Option (BitVec 32)) : Statement (.sleepingTileAccess src t rel w) := fun _ _ e => nomatch e
theorem nodeCfgWrite (src : BusSrc) (v : BitVec 32) : Statement (.nodeCfgWrite src v) := fun _ _ e => nomatch e
theorem linkEnable (src : BusSrc) (p : Port) (v : BitVec 32) : Statement (.linkEnable src p v) := fun _ _ e => nomatch e
theorem linkDisable (src : BusSrc) (p : Port) (v : BitVec 32) : Statement (.linkDisable src p v) := fun _ _ e => nomatch e
theorem crownDisable (src : BusSrc) (t : Tile) (v : BitVec 32) : Statement (.crownDisable src t v) := fun _ _ e => nomatch e
theorem omeDisable (src : BusSrc) (t : Tile) (v : BitVec 32) : Statement (.omeDisable src t v) := fun _ _ e => nomatch e
theorem tilePwrCtlWrite (src : BusSrc) (t : Tile) (v : BitVec 32) : Statement (.tilePwrCtlWrite src t v) := fun _ _ e => nomatch e
theorem strmRingHeadWrite (src : BusSrc) (t : Tile) (v : BitVec 32) : Statement (.strmRingHeadWrite src t v) := fun _ _ e => nomatch e
theorem ffirstValidClear (scope : Scope) : Statement (.ffirstValidClear scope) := fun _ _ e => nomatch e
theorem journalEntryDurable : Statement .journalEntryDurable := fun _ _ e => nomatch e
theorem journalWriteTimeout : Statement .journalWriteTimeout := fun _ _ e => nomatch e
theorem journalFlashRecover : Statement .journalFlashRecover := fun _ _ e => nomatch e
theorem chainFrameReceive (bytes : List Byte) : Statement (.chainFrameReceive bytes) := fun _ _ e => nomatch e
theorem rollcall (next : BitVec 8) : Statement (.rollcall next) := fun _ _ e => nomatch e
theorem mchLinkChange (outSide : Bool) : Statement (.mchLinkChange outSide) := fun _ _ e => nomatch e
theorem cmdPacketAssembled (v : Via) (bytes : List Byte) : Statement (.cmdPacketAssembled v bytes) := fun _ _ e => nomatch e
theorem refLoss (pwr : BitVec 16) : Statement (.refLoss pwr) := fun _ _ e => nomatch e
theorem refReturn (pwr : BitVec 16) (ofs : List (BitVec 12)) : Statement (.refReturn pwr ofs) := fun _ _ e => nomatch e
theorem combStart (t : Tile) (c : Fin 8) (found : CombStarted) : Statement (.combStart t c found) := fun _ _ e => nomatch e
theorem laserOvertemp (t : Tile) (c : Fin 8) (tj : BitVec 8) : Statement (.laserOvertemp t c tj) := fun _ _ e => nomatch e
theorem ringResonanceFound (t : Tile) (ring : BitVec 12) : Statement (.ringResonanceFound t ring) := fun _ _ e => nomatch e
theorem ringSearchTimeout (t : Tile) (ring : BitVec 12) : Statement (.ringSearchTimeout t ring) := fun _ _ e => nomatch e
theorem ringLockLost (t : Tile) (ring : BitVec 12) : Statement (.ringLockLost t ring) := fun _ _ e => nomatch e
theorem ringHeadroomLow (t : Tile) (ring : BitVec 12) (head : BitVec 8) : Statement (.ringHeadroomLow t ring head) := fun _ _ e => nomatch e
theorem fadeEvaluation (t : Tile) (readings : FadeReadings) : Statement (.fadeEvaluation t readings) := fun _ _ e => nomatch e
theorem substituteLocked (t : Tile) (u : Fin 2) : Statement (.substituteLocked t u) := fun _ _ e => nomatch e
theorem substituteLockTimeout (t : Tile) (u : Fin 2) : Statement (.substituteLockTimeout t u) := fun _ _ e => nomatch e
theorem laneSourceMoved (t : Tile) (role : Fin 6) (unit : Fin 64) (lock : Bool) : Statement (.laneSourceMoved t role unit lock) := fun _ _ e => nomatch e
theorem losAssert (p : Port) : Statement (.losAssert p) := fun _ _ e => nomatch e
theorem losDeassert (p : Port) : Statement (.losDeassert p) := fun _ _ e => nomatch e
theorem beaconWordReceive (p : Port) (w : BitVec 64) : Statement (.beaconWordReceive p w) := fun _ _ e => nomatch e
theorem trainingWordReceive (p : Port) (line : Lane) (w : BitVec 128) : Statement (.trainingWordReceive p line w) := fun _ _ e => nomatch e
theorem trainStageDone (p : Port) (pass : BitVec 17) : Statement (.trainStageDone p pass) := fun _ _ e => nomatch e
theorem trainStageTimeout (p : Port) (pass : BitVec 17) : Statement (.trainStageTimeout p pass) := fun _ _ e => nomatch e
theorem rateHuntStep (p : Port) : Statement (.rateHuntStep p) := fun _ _ e => nomatch e
theorem trainRetryTimer (p : Port) : Statement (.trainRetryTimer p) := fun _ _ e => nomatch e
theorem laneOffsetCheck (p : Port) (ofs : List (BitVec 16)) : Statement (.laneOffsetCheck p ofs) := fun _ _ e => nomatch e
theorem tapSaturated (p : Port) (j : Lane) : Statement (.tapSaturated p j) := fun _ _ e => nomatch e
theorem a1Entry (p : Port) : Statement (.a1Entry p) := fun _ _ e => nomatch e
theorem keepPhaseBurst (p : Port) : Statement (.keepPhaseBurst p) := fun _ _ e => nomatch e
theorem a1Exit (p : Port) : Statement (.a1Exit p) := fun _ _ e => nomatch e
theorem eyeScanPointDone (p : Port) (mism : BitVec 64) : Statement (.eyeScanPointDone p mism) := fun _ _ e => nomatch e
theorem marginSweepStep (p : Port) (j : Lane) (opening : BitVec 16) : Statement (.marginSweepStep p j opening) := fun _ _ e => nomatch e
theorem codewordReceive (v : Via) (bytes : List Byte) (onNew : Bool) : Statement (.codewordReceive v bytes onNew) := fun _ _ e => nomatch e
theorem flitSend (v : Via) : Statement (.flitSend v) := fun _ _ e => nomatch e
theorem ackIdleTimer (v : Via) : Statement (.ackIdleTimer v) := fun _ _ e => nomatch e
theorem replayTimerExpiry (v : Via) : Statement (.replayTimerExpiry v) := fun _ _ e => nomatch e
theorem fastRetrainDone (v : Via) (ok : Bool) : Statement (.fastRetrainDone v ok) := fun _ _ e => nomatch e
theorem rttMeasure (v : Via) : Statement (.rttMeasure v) := fun _ _ e => nomatch e
theorem laneset (p : Port) (msg : List Byte) : Statement (.laneset p msg) := fun _ _ e => nomatch e
theorem lanesetAck (p : Port) (msg : List Byte) : Statement (.lanesetAck p msg) := fun _ _ e => nomatch e
theorem lanesetBoundary (p : Port) : Statement (.lanesetBoundary p) := fun _ _ e => nomatch e
theorem lanesetAckTimeout (p : Port) : Statement (.lanesetAckTimeout p) := fun _ _ e => nomatch e
theorem lanesetCancel (p : Port) (msg : List Byte) : Statement (.lanesetCancel p msg) := fun _ _ e => nomatch e
theorem lanesetCancelWindowEnd (p : Port) : Statement (.lanesetCancelWindowEnd p) := fun _ _ e => nomatch e
theorem echo (v : Via) (msg : List Byte) : Statement (.echo v msg) := fun _ _ e => nomatch e
theorem echoReply (v : Via) (msg : List Byte) (elapsed : BitVec 32) : Statement (.echoReply v msg elapsed) := fun _ _ e => nomatch e
theorem verify (p : Port) (msg : List Byte) : Statement (.verify p msg) := fun _ _ e => nomatch e
theorem doze (p : Port) : Statement (.doze p) := fun _ _ e => nomatch e
theorem awake (p : Port) : Statement (.awake p) := fun _ _ e => nomatch e
theorem awakeTimeout (p : Port) : Statement (.awakeTimeout p) := fun _ _ e => nomatch e
theorem portReset (p : Port) : Statement (.portReset p) := fun _ _ e => nomatch e
theorem crownStartPulse : Statement .crownStartPulse := fun _ _ e => nomatch e
theorem crownSlot (offers : List CellOffer) : Statement (.crownSlot offers) := fun _ _ e => nomatch e
theorem crownBurstReceive (t : Tile) (plane : Fin 16) (lock : Bool) (body : List Byte) : Statement (.crownBurstReceive t plane lock body) := fun _ _ e => nomatch e
theorem crownHoldExpiry (t : Tile) (orig : Tile) (vc : Fin 3) : Statement (.crownHoldExpiry t orig vc) := fun _ _ e => nomatch e
theorem crownRtoExpiry (t : Tile) (final : Tile) (vc : Fin 3) : Statement (.crownRtoExpiry t final vc) := fun _ _ e => nomatch e
theorem crownProbeDue (t : Tile) (dst : Tile) : Statement (.crownProbeDue t dst) := fun _ _ e => nomatch e
theorem crownDeadMapUpdate (t : Tile) (tx : BitVec 16) (rx : BitVec 16) (asleep : Bool) : Statement (.crownDeadMapUpdate t tx rx asleep) := fun _ _ e => nomatch e
theorem brimFrameReceive (t : Tile) (e : Fin 2) (bytes : List Byte) (ce : BitVec 8) (ue : BitVec 8) : Statement (.brimFrameReceive t e bytes ce ue) := fun _ _ e => nomatch e
theorem brimUeLimit (t : Tile) (e : Fin 2) : Statement (.brimUeLimit t e) := fun _ _ e => nomatch e
theorem brimTestDone (t : Tile) (e : Fin 2) (ue : BitVec 16) (ce : BitVec 16) (farUe : BitVec 16) (farCe : BitVec 16) : Statement (.brimTestDone t e ue ce farUe farCe) := fun _ _ e => nomatch e
theorem stentStandinMove (t : Tile) : Statement (.stentStandinMove t) := fun _ _ e => nomatch e
theorem streamData (v : Via) (bytes : List Byte) : Statement (.streamData v bytes) := fun _ _ e => nomatch e
theorem memRead (v : Via) (bytes : List Byte) (ecc : Ecc) : Statement (.memRead v bytes ecc) := fun _ _ e => nomatch e
theorem memWrite (v : Via) (bytes : List Byte) : Statement (.memWrite v bytes) := fun _ _ e => nomatch e
theorem credit (v : Via) (bytes : List Byte) : Statement (.credit v bytes) := fun _ _ e => nomatch e
theorem creditReportDue (h : BitVec 32) : Statement (.creditReportDue h) := fun _ _ e => nomatch e
theorem streamReturnHold (h : BitVec 32) : Statement (.streamReturnHold h) := fun _ _ e => nomatch e
theorem streamSuspendTimeout (h : BitVec 32) : Statement (.streamSuspendTimeout h) := fun _ _ e => nomatch e
theorem streamCloseDrained (h : BitVec 32) : Statement (.streamCloseDrained h) := fun _ _ e => nomatch e
theorem closeNoticeDeliver (v : Via) : Statement (.closeNoticeDeliver v) := fun _ _ e => nomatch e
theorem famInvalidateDone : Statement .famInvalidateDone := fun _ _ e => nomatch e
theorem famCacheMissFill (t : Tile) (index : BitVec 21) : Statement (.famCacheMissFill t index) := fun _ _ e => nomatch e
theorem famCopyLost (c : Fin 2) : Statement (.famCopyLost c) := fun _ _ e => nomatch e
theorem famCopyRebuilt (c : Fin 2) : Statement (.famCopyRebuilt c) := fun _ _ e => nomatch e
theorem frameZeroed (slot : BitVec 16) : Statement (.frameZeroed slot) := fun _ _ e => nomatch e
theorem migratePass1Done (t : Tile) : Statement (.migratePass1Done t) := fun _ _ e => nomatch e
theorem migrateFrameSwitch (t : Tile) : Statement (.migrateFrameSwitch t) := fun _ _ e => nomatch e
theorem patrolScrubStep (t : Tile) (ecc : Ecc) : Statement (.patrolScrubStep t ecc) := fun _ _ e => nomatch e
theorem memoryUnavailable (t : Tile) : Statement (.memoryUnavailable t) := fun _ _ e => nomatch e
theorem memoryReturn (t : Tile) : Statement (.memoryReturn t) := fun _ _ e => nomatch e
theorem memTempSample (t : Tile) (temp : BitVec 8) : Statement (.memTempSample t temp) := fun _ _ e => nomatch e
theorem omePassStart (t : Tile) : Statement (.omePassStart t) := fun _ _ e => nomatch e
theorem omePassEnd (t : Tile) (pilot : BitVec 16) (row : BitVec 7) (bank : Fin 2) (readings : List (BitVec 12)) : Statement (.omePassEnd t pilot row bank readings) := fun _ _ e => nomatch e
theorem omeBankReloadDone (t : Tile) (bank : Fin 2) : Statement (.omeBankReloadDone t bank) := fun _ _ e => nomatch e
theorem pilotLimitExceeded (t : Tile) (pilot : BitVec 16) (row : BitVec 7) (bank : Fin 2) : Statement (.pilotLimitExceeded t pilot row bank) := fun _ _ e => nomatch e
theorem pilotAcquired (t : Tile) : Statement (.pilotAcquired t) := fun _ _ e => nomatch e
theorem reacqTimeout (t : Tile) : Statement (.reacqTimeout t) := fun _ _ e => nomatch e
theorem omeSubstituteChange (t : Tile) : Statement (.omeSubstituteChange t) := fun _ _ e => nomatch e
theorem omeFail (t : Tile) : Statement (.omeFail t) := fun _ _ e => nomatch e
theorem jobStagingDone (origin : BitVec 16) (tag : BitVec 16) : Statement (.jobStagingDone origin tag) := fun _ _ e => nomatch e
theorem jobUnitWritten (origin : BitVec 16) (tag : BitVec 16) (t : Tile) : Statement (.jobUnitWritten origin tag t) := fun _ _ e => nomatch e
theorem jobSharesEnded (origin : BitVec 16) (tag : BitVec 16) : Statement (.jobSharesEnded origin tag) := fun _ _ e => nomatch e
theorem jobMirrorDone (origin : BitVec 16) (tag : BitVec 16) : Statement (.jobMirrorDone origin tag) := fun _ _ e => nomatch e
theorem projectBatchWait (origin : BitVec 16) (tag : BitVec 16) : Statement (.projectBatchWait origin tag) := fun _ _ e => nomatch e
theorem collOpStart (c : BitVec 12) : Statement (.collOpStart c) := fun _ _ e => nomatch e
theorem collData (v : Via) (bytes : List Byte) : Statement (.collData v bytes) := fun _ _ e => nomatch e
theorem collRoute (v : Via) (bytes : List Byte) : Statement (.collRoute v bytes) := fun _ _ e => nomatch e
theorem collEnd (v : Via) (bytes : List Byte) : Statement (.collEnd v bytes) := fun _ _ e => nomatch e
theorem collSegmentReduced (c : BitVec 12) (seg : BitVec 32) (stage : Stage) : Statement (.collSegmentReduced c seg stage) := fun _ _ e => nomatch e
theorem collOpComplete (c : BitVec 12) : Statement (.collOpComplete c) := fun _ _ e => nomatch e
theorem peerPartialReceive (v : Via) (bytes : List Byte) (digestOk : Bool) : Statement (.peerPartialReceive v bytes digestOk) := fun _ _ e => nomatch e
theorem blockTempEvaluation (t : Tile) (avg : BitVec 16) : Statement (.blockTempEvaluation t avg) := fun _ _ e => nomatch e
theorem blockSettleTimeout (t : Tile) : Statement (.blockSettleTimeout t) := fun _ _ e => nomatch e
theorem blockTimetableDue (t : Tile) (chan : BitVec 16) : Statement (.blockTimetableDue t chan) := fun _ _ e => nomatch e
theorem blockRunStart (t : Tile) (slot : Fin 5) : Statement (.blockRunStart t slot) := fun _ _ e => nomatch e
theorem blockRunEnd (t : Tile) (chan : BitVec 16) (found : BlkFound) : Statement (.blockRunEnd t chan found) := fun _ _ e => nomatch e
theorem blockRunAbort (t : Tile) (chan : BitVec 16) : Statement (.blockRunAbort t chan) := fun _ _ e => nomatch e
theorem laneRunRefused (p : Port) : Statement (.laneRunRefused p) := fun _ _ e => nomatch e
theorem referenceTraceDue (t : Tile) : Statement (.referenceTraceDue t) := fun _ _ e => nomatch e
theorem referenceTraceEnd (t : Tile) (found : TraceFound) : Statement (.referenceTraceEnd t found) := fun _ _ e => nomatch e
theorem ageingEvaluation (t : Tile) (m : AgeMeasure) : Statement (.ageingEvaluation t m) := fun _ _ e => nomatch e
theorem refclkLoss : Statement .refclkLoss := fun _ _ e => nomatch e
theorem refclkReturn (t00 : Bool) (t47 : Bool) : Statement (.refclkReturn t00 t47) := fun _ _ e => nomatch e
theorem cdcTimeout (t : Tile) : Statement (.cdcTimeout t) := fun _ _ e => nomatch e
theorem strapSample (straps : BitVec 8) : Statement (.strapSample straps) := fun _ _ e => nomatch e
theorem powerOn (a : Bool) (b : Bool) : Statement (.powerOn a b) := fun _ _ e => nomatch e
theorem proctorReady : Statement .proctorReady := fun _ _ e => nomatch e
theorem mresetNLow : Statement .mresetNLow := fun _ _ e => nomatch e
theorem coldReset : Statement .coldReset := fun _ _ e => nomatch e
theorem warmReset : Statement .warmReset := fun _ _ e => nomatch e
theorem tileReset (t : Tile) : Statement (.tileReset t) := fun _ _ e => nomatch e
theorem d1Entry (t : Tile) : Statement (.d1Entry t) := fun _ _ e => nomatch e
theorem d1EntryAbandon (t : Tile) : Statement (.d1EntryAbandon t) := fun _ _ e => nomatch e
theorem portActivityWake (p : Port) : Statement (.portActivityWake p) := fun _ _ e => nomatch e
theorem d1Exit (t : Tile) : Statement (.d1Exit t) := fun _ _ e => nomatch e
theorem d2Entry (t : Tile) : Statement (.d2Entry t) := fun _ _ e => nomatch e
theorem d2Exit (t : Tile) : Statement (.d2Exit t) := fun _ _ e => nomatch e
theorem m1Exit (row : Fin 4) : Statement (.m1Exit row) := fun _ _ e => nomatch e
theorem tjSample (t : Tile) (diodes : List (BitVec 16)) (ring : Option (BitVec 16)) : Statement (.tjSample t diodes ring) := fun _ _ e => nomatch e
theorem thermtrip (t : Tile) : Statement (.thermtrip t) := fun _ _ e => nomatch e
theorem throttleLoopTick (t : Tile) : Statement (.throttleLoopTick t) := fun _ _ e => nomatch e
theorem remoteDiodeUpdate (n : Fin 8) (v : BitVec 16) (open_ : Bool) (short : Bool) : Statement (.remoteDiodeUpdate n v open_ short) := fun _ _ e => nomatch e
theorem coolantCheck : Statement .coolantCheck := fun _ _ e => nomatch e
theorem faultSourceAssert (scope : Scope) (bit : BitVec 6) (hold : Bool) : Statement (.faultSourceAssert scope bit hold) := fun _ _ e => nomatch e
theorem safeEntered (scope : Scope) : Statement (.safeEntered scope) := fun _ _ e => nomatch e
theorem quietTimerExpiry (scope : Scope) : Statement (.quietTimerExpiry scope) := fun _ _ e => nomatch e
theorem faultRecoveryDone (scope : Scope) : Statement (.faultRecoveryDone scope) := fun _ _ e => nomatch e
theorem condensationDue : Statement .condensationDue := fun _ _ e => nomatch e
theorem condensationDone : Statement .condensationDone := fun _ _ e => nomatch e
theorem islandBufferCopy : Statement .islandBufferCopy := fun _ _ e => nomatch e
theorem pairHello (via : TwinPath) (h : PairHello) : Statement (.pairHello via h) := fun _ _ e => nomatch e
theorem pairHelloResend : Statement .pairHelloResend := fun _ _ e => nomatch e
theorem partnerWaitTimeout : Statement .partnerWaitTimeout := fun _ _ e => nomatch e
theorem leaseRenewalDue : Statement .leaseRenewalDue := fun _ _ e => nomatch e
theorem lease (via : TwinPath) (epoch : BitVec 64) (bell : BitVec 64) (leaseT : BitVec 32) (mseq : BitVec 64) (health : BitVec 8) : Statement (.lease via epoch bell leaseT mseq health) := fun _ _ e => nomatch e
theorem leaseAck (via : TwinPath) (epoch : BitVec 64) (bell : BitVec 64) (mseq : BitVec 64) : Statement (.leaseAck via epoch bell mseq) := fun _ _ e => nomatch e
theorem release (via : TwinPath) (epoch : BitVec 64) (mseq : BitVec 64) (reason : BitVec 8) : Statement (.release via epoch mseq reason) := fun _ _ e => nomatch e
theorem leaseExpiry : Statement .leaseExpiry := fun _ _ e => nomatch e
theorem selfFence : Statement .selfFence := fun _ _ e => nomatch e
theorem selfDiagnosisFail : Statement .selfDiagnosisFail := fun _ _ e => nomatch e
theorem leasePathLoss : Statement .leasePathLoss := fun _ _ e => nomatch e
theorem holderNotice (v : Via) (bytes : List Byte) : Statement (.holderNotice v bytes) := fun _ _ e => nomatch e
theorem mirror (p : Port) (bytes : List Byte) : Statement (.mirror p bytes) := fun _ _ e => nomatch e
theorem mirrorAck (p : Port) (bytes : List Byte) : Statement (.mirrorAck p bytes) := fun _ _ e => nomatch e
theorem mirrorAckDue (t : Tile) : Statement (.mirrorAckDue t) := fun _ _ e => nomatch e
theorem twinPortsUnreachable : Statement .twinPortsUnreachable := fun _ _ e => nomatch e
theorem resyncComplete : Statement .resyncComplete := fun _ _ e => nomatch e
theorem revertHoldExpiry : Statement .revertHoldExpiry := fun _ _ e => nomatch e
theorem siteDiscovery (n : Fin 2) (reads : List (List Byte)) (train : SiteTrain) : Statement (.siteDiscovery n reads train) := fun _ _ e => nomatch e
theorem sidebandTimeout (n : Fin 2) : Statement (.sidebandTimeout n) := fun _ _ e => nomatch e
theorem ucieWidthDegrade (n : Fin 2) (k : Fin 4) : Statement (.ucieWidthDegrade n k) := fun _ _ e => nomatch e
theorem dieTempReport (n : Fin 2) (temp : BitVec 8) : Statement (.dieTempReport n temp) := fun _ _ e => nomatch e
theorem dieThrottleStep (n : Fin 2) : Statement (.dieThrottleStep n) := fun _ _ e => nomatch e
theorem dieTempReportTimeout (n : Fin 2) : Statement (.dieTempReportTimeout n) := fun _ _ e => nomatch e
theorem sitePowerSample (n : Fin 2) (p : BitVec 16) : Statement (.sitePowerSample n p) := fun _ _ e => nomatch e
theorem bootLoad (chain : List Byte) : Statement (.bootLoad chain) := fun _ _ e => nomatch e
theorem trialExpiry : Statement .trialExpiry := fun _ _ e => nomatch e
theorem trialBootFail : Statement .trialBootFail := fun _ _ e => nomatch e
theorem switchoverDone : Statement .switchoverDone := fun _ _ e => nomatch e
theorem leafTreeBuilt : Statement .leafTreeBuilt := fun _ _ e => nomatch e
theorem bladeBreaker (x : Fin 2) : Statement (.bladeBreaker x) := fun _ _ e => nomatch e
theorem feedLost (x : Fin 2) : Statement (.feedLost x) := fun _ _ e => nomatch e
theorem ovTrip : Statement .ovTrip := fun _ _ e => nomatch e
theorem ovRecovery (a : Bool) (b : Bool) : Statement (.ovRecovery a b) := fun _ _ e => nomatch e
theorem converterFail (k : Fin 4) : Statement (.converterFail k) := fun _ _ e => nomatch e
theorem vinLow : Statement .vinLow := fun _ _ e => nomatch e
theorem ceilingLoopTick (va : BitVec 16) (ia : BitVec 16) (vb : BitVec 16) (ib : BitVec 16) (pin : BitVec 16) (vbus : BitVec 16) (pbus : BitVec 16) : Statement (.ceilingLoopTick va ia vb ib pin vbus pbus) := fun _ _ e => nomatch e
theorem policyIdleD1 (t : Tile) : Statement (.policyIdleD1 t) := fun _ _ e => nomatch e
theorem policyIdleD2 (t : Tile) : Statement (.policyIdleD2 t) := fun _ _ e => nomatch e
theorem proctorWdt : Statement .proctorWdt := fun _ _ e => nomatch e
theorem faultSourceDeassert (scope : Scope) (bit : BitVec 6) : Statement (.faultSourceDeassert scope bit) := fun _ _ e => nomatch e
theorem feedReturn (x : Fin 2) : Statement (.feedReturn x) := fun _ _ e => nomatch e
theorem referenceTraceCrownEnd (t : Tile) : Statement (.referenceTraceCrownEnd t) := fun _ _ e => nomatch e

end Sys2Proof.Laws.OperandsInRange
end

