-- ==== Sys2Proof/Tests/Slice0.lean ====
section
/-! SUPPORT. Tests/Slice0.lean: ill-formed commands that WellFormed refuses, worked examples of the spec, and states that meet the
hypotheses of the statements, each clause's together: witness_<Statement>. -/

set_option Elab.async false

namespace Sys2Proof.Tests
open Sys2Proof.Machine

/-! ### Small states -/

/-- The state after reset with some fields set. -/
def st (fs : List (Fld × Nat)) : State := State.reset.setFs fs

/-- A module without a twin whose Proctor takes packets. -/
def up : State := st [(F.Q_GLOBAL_PROCTOR_READY, 1), (F.TWIN_STAT_STATE, 0)]

/-- The chain head as the sender. -/
def head : Path := .chain 0x7F

/-- A packet with TARGET and parameter words. -/
def pk (target : Nat) (ws : List Nat) (path : Path := head) (flags : Nat := 0) : Packet :=
  let p : Packet := { path := path, flags := BitVec.ofNat 16 flags, tag := 7, dataLen := 0, dataAddr := 0, target := BitVec.ofNat 32 target,
                      params := ws.flatMap (leBytes 4), data := [] }
  p

/-- A module with a queue of two commands. -/
def queued : State := { up with pending := [.crownStartPulse, .coldReset] }

/-- A module with tile t in a power state. -/
def asleep (t v : Nat) : State := up.setF (F.TILE_PWR_STAT_STATE t) v

/-- The row of the register map at an offset. -/
def row (off : Nat) : RegRow := (rowAt off).getD ⟨0, 0, 0, .C, 0, 0, 0, .none⟩

/-- A module in whose read port some halves are latched. -/
def latched : State := { up with latch := [(0xB008 + 4, 9)] }

/-- A module with queue 15 in a state. -/
def queue (v : Nat) (fs : List (Fld × Nat) := []) : State := up.setFs ((F.Q_STAT_STATE 15, v) :: fs)

/-- A command that still runs for a path. -/
def runs (p : Packet) (code : Nat) (o : Nat := 3) (fin : Option Finish := none) : Running :=
  { id := 9, opcode := code, origin := o, pkt := p, fin := fin }

/-- A module in which a command runs. -/
def running (s : State) (r : Running) : State := s.updPr (fun x => { x with running := [r], nextId := 10 })

/-- A reply with n result bytes. -/
def reply (n : Nat) : Reply := { tag := 0xBEEF, status := 1, detail := 2, result := List.replicate n 3 }

/-- A packet of host queue 15 with a data buffer of n bytes. -/
def toHost (n : Nat) : Packet := { pk 0 [] (.host 15) with dataLen := BitVec.ofNat 32 n, dataAddr := 0x2000 }

/-- A module whose journal holds one entry. -/
def journal1 : State :=
  let e : JEntry := { seq := 0, bell := 1, origin := 3, opcode := 0x101, target := 0, offset := 0x3004, tag := 7,
                      oldDigest := zeros 32, newDigest := zeros 32, link := zeros 32 }
  { up with journal := { up.journal with entries := [e], count := 1 } }

/-- A NOP as it waits in the chain queue. -/
def rawNop : RawPacket := { path := head, bytes := zeros 28 ++ leBytes 4 (crc32c (zeros 28)) }

/-- How a command has ended. -/
def ended : Finish := { status := 0, detail := 0, result := [1, 2, 3, 4], changes := [], undo := {} }

/-- A LOCAL entry of region slot 0 at frame 3 of tile 5. -/
def ent (ro migrating : Bool := false) : FamEntry := { kind := .local_, ro := ro, migrating := migrating, tile := 5, frame := 3, gen := 1, region := 0 }

/-- A module of node 9 that serves its hosts, whose first FAM entry is LOCAL on a tile with memory in state m. -/
def mapped (m : Nat) (e : FamEntry := ent) (fs : List (Fld × Nat) := []) : State :=
  let s := up.setFs ([(F.NODE_CFG_NODE, 9), (F.CXL_PHY_STAT_MEM_EN 0, 1), (F.CXL_PHY_STAT_MEM_EN 1, 1), (F.MEM_STAT_STATE 5, m)] ++ fs)
  { s with pool := { s.pool with fam := [(0, e)], regions := [(0, { gen := 1, live := some { base := 0, frames := 1, ro := false, ready := true } })],
                                 used := [(frameKey 5 3, .region 0)] }, dram := [(dramKey 5 3 64, 0xAB)] }

/-- A journal entry on its way to flash. -/
def wait (r : Option (Path × Reply)) : JPending :=
  { group := 4, bell := 1, origin := 3, opcode := 0x101, target := 0, offset := 0x3004, tag := 7, oldDigest := zeros 32,
    newDigest := zeros 32, reply := r, undo := {} }

/-- A module with one journal entry on its way. -/
def waits1 (r : Option (Path × Reply)) : State := { up with journal := { up.journal with waiting := [wait r] } }

/-- A module with two. -/
def waits (r : Option (Path × Reply)) : State := { up with journal := { up.journal with waiting := [wait r, wait r] } }

/-- A module whose last port holds a given link state. -/
def lnk (l : Link) (fs : List (Fld × Nat) := []) : State := (up.setFs fs).updLink 143 (fun _ => l)

/-- A word of n bits with its CRC in the low 16. -/
def sealed (n v : Nat) : Nat := v + crc16Bits (bitsDown v (n - 1) 16)

/-- A training in progress. -/
def tr (full : Bool) (rate : Nat) (lanes : Nat := 0x1FFFF) (ready : Bool := false) : Training :=
  { full := full, rate := rate, lanes := lanes, rounds := 0, ready := ready, farReady := ready, seen := false }

/-- A DATA flit of VC 0. -/
def flit : Flit := { type := .data, vc := 0, payload := List.replicate 232 5 }

/-- A running eye scan with n points left. -/
def scan (n : Nat) : EyeScan := { run := 9, lane := 16, eye := 0, points := List.replicate n (0, 0), counts := [], dwell := 1 }

/-- The bytes of a codeword that carries a flit. -/
def codeBytes (hdr : Nat) : List Byte := flitBytes hdr (List.replicate 232 5) ++ rsCheck (flitBytes hdr (List.replicate 232 5))

/-- A Blocking run on the lane of a slot. -/
def blkRun (slot chan : Nat) (carrier : Carrier := .none) (phase : Nat := 1) : BlkRun := { slot := slot, chan := chan, prio := 2, carrier := carrier, at_ := 0, phase := phase }

/-- A link message as it waits at the last port. -/
def rxMsg (msg : List Byte) : Flit := { type := .lctl, vc := 2, payload := fitBytes 232 msg }

/-- An UP link at which a link message waits. -/
def lctl (l : Link) (msg : List Byte) (fs : List (Fld × Nat) := []) : State :=
  lnk { l with rxq := [rxMsg msg] } ((F.LINK_STAT_STATE 143, 3) :: fs)

/-- The state once the message is taken. -/
def took (s : State) (msg : List Byte) : State := (s.popRx 143 2 (fitBytes 232 msg)).getD s

/-- A LANESET in hand. -/
def lset (mine acked cancelled : Bool) : Laneset :=
  { mine := mine, reqId := 5, width := 4, rate := 0, pos := [0, 1, 2, 3], newEpoch := 1, txAt := 0, rxAt := none, acked := acked,
    txDone := false, rxDone := false, cancelled := cancelled, run := none }

/-- The photonics of the last tile. -/
def pho (f : Photo) (fs : List (Fld × Nat) := []) : State := (up.setFs fs).updPh 47 (fun _ => f)

/-- Lanes 0 to 3 of the last port in the map of an UP link. -/
def lanes4 : List (Fld × Nat) := [(F.LINK_STAT_STATE 143, 3), (F.LANE_STAT_IN_MAP 143 0, 1), (F.LANE_STAT_IN_MAP 143 1, 1),
  (F.LANE_STAT_IN_MAP 143 2, 1), (F.LANE_STAT_IN_MAP 143 3, 1)]

/-- A command packet received in-band. -/
def cmdIn : Flit := { type := .cmd, vc := 2, payload := zeros 32 }

/-- A module whose second expansion site is UP. -/
def site1 : State := up.setFs [(F.XSITE_STAT_STATE 1, 3), (F.XSITE_STAT_SUB_UP 1, 3)]

/-- A stream on the last port, whose endpoint is node 7. -/
def ctx (st : StreamState) (alt : Option Nat := none) : Stream :=
  { state := st, epNode := 7, epQueue := 1, pri := 143, alt := alt, memOnly := false, rxSlots := 4, ring := 0, epCredits := 4, reqCredits := 4 }

/-- The key of slot 3 of tile 5. -/
def key5 : Nat := slotKey 5 3

/-- The handle of that slot. -/
def handle5 : Nat := 2 ^ 21 + key5

/-- A module with that stream, whose last port is UP to node 7. -/
def strm (c : Stream) (l : Link := { farNode := 7 }) (fs : List (Fld × Nat) := []) : State :=
  let s := (mapped 3 ent ((F.LINK_STAT_STATE 143, 3) :: fs)).updLink 143 (fun _ => l)
  { s with streams := { slots := [(key5, { gen := 1, ctx := some c })] } }

/-- The transport unit of that stream. -/
def tu (type tsn aux : Nat) (addr : Nat := 0) (data : List Byte := []) : Tu :=
  { type := type, flags := 0, stream := handle5, tsn := tsn, aux := aux, addr := addr, data := data }

/-- A unit as it waits at the last port. -/
def rxTu (vc : Nat) (t : Tu) : Flit := { type := .data, vc := vc, payload := t.bytes }

/-- A STREAM_OPEN of node 7 on the last port, memory only. -/
def openPk (home : Nat) : Packet := pk 0 [7, 1, home, 255 * 256 + 143, 0, 0, 0, 0, 4] head 0x100

/-- The Crown engine of the last tile. -/
def crn (c : Crown) (fs : List (Fld × Nat) := []) : State :=
  let s := (up.setFs fs).updCr 47 (fun _ => c)
  { s with crownMap := { started := true } }

/-- A DATA cell from tile 0 to tile 47. -/
def cell (eseq : Nat) : Cell := { ctype := 1, cvc := 1, orig := 0, final := 47, eseq := eseq, payload := [1] }

/-- Both ends of the first Brim link in a state. -/
def brm (b : Brim) (v : Nat) (fs : List (Fld × Nat) := []) : State :=
  (up.setFs ([(F.BRIM_STAT_STATE 0 1, v), (F.BRIM_STAT_STATE 1 0, v)] ++ fs)).updBr 0 1 (fun _ => b)

/-- A module whose tile 0 has a cell to send to tile 1 on plane 0. -/
def crownQ : State :=
  let s := (up.setFs [(F.CROWN_STAT_STATE 0, 2), (F.CROWN_CTL_EN 0, 1), (F.CROWN_CTL_RELAY_EN 0, 0), (F.BRIM_STAT_STATE 0 1, 3)]).updCr 0
    (fun _ => { tx := [(flowKey 1 0, { queue := [[7]] })] })
  { s with crownMap := { started := true } }

/-- A module with a pool change. -/
def pooled (s : State) (f : Pool → Pool) : State := s.updPool f

/-- A migration of region slot 0 from tile 5 to tile 6. -/
def mig (ph : MigPhase) (todo : List MigFrame := [⟨0, 5, 3, 6, 0⟩]) : Migration :=
  { id := 0, slot := 0, tier := 1, todo := todo, done := 0, phase := ph, dirty := [], run := 9 }

/-- A module in which that migration runs. -/
def migrating (ph : MigPhase) (e : FamEntry := ent) : State :=
  (mapped 2 e [(F.MEM_STAT_STATE 6, 2)]).updPool (fun p => { p with migs := [mig ph], used := [(frameKey 5 3, .region 0), (frameKey 6 0, .reserved 0)] })

/-- A line of tile 5 that holds byte 64 of frame 3. -/
def line5 : Nat := dramKey 5 3 64 / 64

/-- A module with that line poisoned. -/
def poisoned (fs : List (Fld × Nat) := []) : State := (mapped 2 ent fs).updPool (fun p => { p with poison := [line5] })

/-- An OME_JOB_SUBMIT of one row by 32 columns for tile 5, from and to memory. -/
def jobPk : Packet :=
  let hi := 9 * 2 ^ 17
  pk 0 ([0, 0, 0, 1, 32, 1, 0x20, 0, 0, hi, 4096, hi, 8192, hi, 4096, 4096, 0, 0, 0xFFFFFFFF, 0] ++ List.replicate 12 0)

/-- A module whose tile 5 serves matrix jobs. -/
def omeUp (v : Nat := 3) (fs : List (Fld × Nat) := []) : State := mapped 3 ent ((F.OME_STAT_STATE 5, v) :: (F.OME_CTL_EN 5, 1) :: fs)

/-- A job of ORIGIN 3 and TAG 7 on tile 5. -/
def job (st : JobState) (sh : Share) (d : JobDesc := JobDesc.parse jobPk.params) : Job :=
  { id := 9, origin := 3, tag := 7, desc := d, srcs := [], nc := 1, shares := [sh], set := some 0, state := st }

/-- A module in which the job runs, with its staging set. -/
def jobs (j : Job) (o : Ome := {}) (v : Nat := 3) (fs : List (Fld × Nat) := []) : State :=
  let s := omeUp v fs
  { running s (runs jobPk 0x400) with work := { ome := [(5, o)], jobs := [j], sets := [(0, { live := true, need := [(5, 64)], run := none })] } }

/-- Staging set slot 0. -/
def withSet (s : State) (x : StageSet) : State := { s with work := { s.work with sets := [(0, x)] } }

/-- A set of one row-block at the start of frame 3 of tile 5. -/
def stageSet (ready : Bool) (run : Option Nat := none) : StageSet :=
  { live := true, origin := 3, waddr := 9 * 2 ^ 49, m := 1, k := 32, mask := 0x20, need := [(5, 64)], data := [(0, [])], ready := ready, run := run }

/-- The share of tile 5 with its one row-block. -/
def share (active ready : Bool := false) (next : Nat := 0) : Share := { tile := 5, blocks := [0], active := active, ready := ready, next := next }

/-- A Substitute change that waits at tile 5. -/
def subWaits (c : SubChange) : State := { omeUp 3 with work := { ome := [(5, { subs := [c] })] } }

/-- A PROJECT job that holds one vector. -/
def projJob : Job := { job .running share with desc := { (JobDesc.parse jobPk.params) with kind := 3, isrc := 1 }, inq := [(0, [zeros 32])] }

/-- A job of a pair. -/
def pairJob : Job := { job .running (share false false 1) with mirrored := true }

/-- The state once the row-block of that set has been read. -/
def afterCopy (d : JobDesc) (s : State) : State := (State.copyBlocks 5 d [0] [] s).2

/-- A packet with inline data. -/
def pkd (ws : List Nat) (data : List Byte) : Packet := { pk 0 ws with data := data, dataLen := BitVec.ofNat 32 data.length }

/-- The stream of slot 3 of tile 5 as rank 0, and a peer. -/
def rank0 (peer : Bool := false) : Member := ⟨handle5, peer, 0, 0⟩

/-- The bytes of that member in a list. -/
def rank0Bytes : List Byte := leBytes 4 handle5 ++ zeros 4

/-- A collective post of context 0, from and to streams. -/
def postPk (op count : Nat) : Packet := pk 0 ([0, op, 0x110000, 0x10000, count] ++ List.replicate 12 0)

/-- A group of the stream, with an operation that runs. -/
def grp (cur : Option CollOp := none) (runs : List CollRun := []) (peer : Bool := false) : Group :=
  { members := [rank0 peer], mask := 0x20, moduleRank := 0, cur := cur, runs := runs }

/-- A module with that group in context 0. -/
def coll (g : Group) : State := { strm (ctx .open_) with work := { ctxs := [(0, { gen := 0, group := some g })] } }

/-- An operation on the last OPSEQ. -/
def cop (op : Nat) (out : Bool := false) : CollOp :=
  { seq := 65535, run := 9, desc := postDesc (postPk op 1), segs := [(0, {})], nextSeg := 1, resultsOut := out }

/-- A run of two operations of which done are complete. -/
def crun (op : Nat) (done : Nat := 0) (state : Nat := 1) : CollRun :=
  { id := 9, desc := postDesc (postPk op 1), first := 65535, count := 2, done := done, state := state }

/-- A group of that stream and one more handle. -/
def grp2 : Group := { grp with members := [rank0, ⟨handle5 + 1, false, 0, 0⟩] }

/-- A group and a unit that waits at the last port. -/
def collRx (g : Group) (t : Tu) : State :=
  { strm (ctx .open_) { farNode := 7, rxq := [rxTu 0 t] } with work := { ctxs := [(0, { gen := 0, group := some g })] } }

/-- A collective unit of OPSEQ seq. -/
def ctu (type seq : Nat) : Tu := tu type 0 (seq * 4096) 0 [1, 2, 3, 4]

/-- The state once a unit is taken from the last port. -/
def tookTu (s : State) (t : Tu) : State := (s.popRx 143 0 (fitBytes 232 t.bytes)).getD s

/-- A module at a stage of the start. -/
def started (ph : Nat) : State := up.updClk (fun c => { c with phase := ph })

/-- Whether a slot holds an image that runs. -/
def slots (a b : Nat) : State := ((started 1).setSlot 0 a).setSlot 1 b

/-- The state after a boot from flash. -/
def booted (s : State) : State := (s.boot []).1

/-- A module whose straps stand in the journal. -/
def logged : State := (slots 1 1).updClk (fun c => { c with strapsLogged := true })

/-- A module in service with a byte of DRAM written and its counters at their ends. -/
def dirty : State := { (started 4).setFs [(F.RST_CNT_COLD, 65535), (F.Q_CTL_EN 0, 1)] with dram := [(dramKey 5 3 64, 1)] }

/-- A module whose MRESET_N is low. -/
def held : State := (started 1).updClk (fun c => { c with mresetLow := true })

/-- A module in which a reset of KIND k from ORIGIN o is due. -/
def due (k o : Nat) : State := dirty.updClk (fun c => { c with resetDue := some (k, o) })

/-- A tile that enters D1 or D2. -/
def entering (t m : Nat) (fs : List (Fld × Nat) := []) : State :=
  (up.setFs ((F.TILE_PWR_STAT_STATE t, 1) :: fs)).updClk (fun c => { c with entering := [(t, m)] })

/-- A tile that leaves D1 or D2. -/
def leaving (t m bell : Nat) (fs : List (Fld × Nat) := []) : State :=
  { (up.setFs ((F.TILE_PWR_STAT_STATE t, 4) :: fs)).updClk (fun c => { c with sleep := [(t, m)], exitAt := [(t, 0)] }) with bell := bell }

/-- A module that leaves M1. -/
def waking (rows : List Nat) : State := up.updClk (fun c => { c with standby := true, wakeOrder := rows })

/-- A tile in power state v that the idle policy covers. -/
def idle (t v : Nat) : State :=
  (started 4).setFs [(F.TILE_PWR_STAT_STATE t, v), (F.TILE_PWR_CTL_MODE t, 0), (F.PWR_CTL_POLICY_EN, 1), (F.PWR_POLICY_D1_IDLE, 1), (F.PWR_POLICY_D2_IDLE, 1)]

/-- A module in service whose power input is in a given condition, 10 ms after power-on. -/
def powered (p : Power) (fs : List (Fld × Nat) := []) : State := { ((started 4).setFs fs).updPow (fun _ => p) with bell := 10000 }

/-- The Blocking of the last tile. -/
def blk (b : Blk) (fs : List (Fld × Nat) := []) : State := (up.setFs fs).updBl 47 (fun _ => b)

/-- A lane run whose LANESET was refused n times. -/
def againRun (phase n : Nat) : BlkRun := { blkRun 2 0x40 .none phase with again := true, refused := n }

/-- A module whose last tile is in fault state v with a level and a latched source of the upper word. -/
def faulty (v lvl sw : Nat) : State :=
  ((up.setF (F.FSTATE_STATE 47) v).wr (R.FLVL_HI 47) (BitVec.ofNat 32 lvl)).wr (R.FSW_HI 47) (BitVec.ofNat 32 sw)

/-- A module in which source b of the last tile has a severity. -/
def sevs (b sev : Nat) : State := up.setF (F.FSEV_SEV 47 b) sev

/-- A module whose Proctor watchdog has severity v. -/
def wdt (v : Nat) (fences : List (Nat × Fence)) (fs : List (Fld × Nat) := []) : State :=
  { up.setFs ((F.MFSEV_SEV 0, v) :: fs) with faults := { fences := fences } }

/-- The last tile in SAFE for long. -/
def quiet47 : State := { faulty 2 0 0 with bell := 2 ^ 40 }

/-- A fenced block of the last tile. -/
def fenced18 : State := up.setFence (47 * 64 + 18) { on := true }

/-- An open record. -/
def rec0 : Rec := Rec.start .faultRelease 1 0 0 0 false 7

/-- A record of another source. -/
def rec3 : Rec := { rec0 with source := 3, opn := false }

/-- A module that holds records. -/
def recs (live island : List Rec) (fs : List (Fld × Nat) := []) : State :=
  { up.setFs fs with report := { live := live, island := island, nextSeq := 5 } }

/-- A module that condenses. -/
def condensing (live : List Rec) : State := { up with report := { live := live, condensing := true, condRuns := [9] } }

/-- A module of a pair, home-active, in twin state v at a Bell count; its partner is node 9 at chain address 5, and P036 is UP to it. -/
def twin (v : Nat) (t : Twin := {}) (bell : Nat := 0) (fs : List (Fld × Nat) := []) : State :=
  let s := (up.setFs ([(F.TWIN_STAT_STATE, v), (F.TWIN_STAT_HOME, 1), (F.TWIN_PARTNER_NODE, 9), (F.TWIN_STAT_PARTNER_MCH, 5), (F.LINK_STAT_STATE 36, 3)] ++ fs)).updLink 36
    (fun _ => { farNode := 9 })
  { s with twin := t, bell := bell }

/-- A unit of the mirror of tile 5. -/
def mtu (type tsn : Nat) : Tu := { type := type, flags := 0, stream := 5, tsn := tsn, aux := 0, addr := 0, data := [] }

/-- A unit that waits at P036. -/
def twinRx (s : State) (vc : Nat) (t : Tu) : State := s.updLink 36 (fun l => { l with rxq := [rxTu vc t] })

/-- The state once it is taken. -/
def twinTook (s : State) (vc : Nat) (t : Tu) : State := (s.popRx 36 vc t.bytes).getD s

/-- A module that pairs for the first time, and the hello of a partner of the same build. -/
def pairing : State := up.setFs [(F.TWIN_STAT_STATE, 1), (F.TWIN_STAT_HOME, 2)]

/-- That hello. -/
def hello1 : PairHello := { pairing.ownHello with node := 9, home := 1, chain := 5 }

/-- The partner of the same build has the same microcode. -/
theorem sameUcode (h : PairHello) : ({ h with node := 9, home := 1, chain := 5 } : PairHello).ucode = h.ucode := rfl

/-- A module that has no partner yet binds the identity it is given. -/
theorem pairing_identity : pairing.twin.identity = none := by decide +kernel

theorem firstPartner (h : PairHello) : pairing.twin.identity.getD h.idHash = h.idHash := by
  have first (x : List Byte) : pairing.twin.identity.getD x = x := by rw [pairing_identity]; rfl
  exact first _

/-- A hello of another stepping. -/
def helloX : PairHello := { hello1 with stepping := 0x3141 }

/-- The thermal state of the last tile. -/
def warm (t : Therm) (fs : List (Fld × Nat) := []) : State := (up.setFs fs).updTh 47 (fun _ => t)

/-- A module cut off by THERMTRIP. -/
def tripped : State := up.updClk (fun c => { c with tripped := true })

/-- An expansion die's record with a valid CRC and a value in its reserved byte. -/
def cap0 : List Byte :=
  let b := leBytes 8 0x0301000000000000 ++ zeros 52
  b ++ leBytes 4 (crc32c b)

/-- How the sublinks of a site trained. -/
def trained : SiteTrain := ⟨0xF, 0, 0xF, 0, 1, 0⟩

/-- The second expansion site in state v. -/
def site (v : Nat) (x : Site := {}) (fs : List (Fld × Nat) := []) : State := (up.setFs ((F.XSITE_STAT_STATE 1, v) :: fs)).updSt 1 (fun _ => x)

/-- A module that reads its coolant on channel 0. -/
def cool (v : Nat) (p : Power := {}) : State :=
  (up.setFs [(F.TH_CTL_COOL_EN, 1), (F.TH_CTL_INLET_CH, 0), (F.TH_CTL_OUTLET_CH, 1), (F.TH_CTL_INLET_MAX, 32), (F.TH_RD_VAL_TEMP 0, v), (F.TH_RD_VAL_TEMP 1, 0x8000)]).updPow (fun _ => p)

/-! ### Commands that cannot reach the block -/

theorem test_wf_packet : (Instr.nop (pk 0 [1])).wellFormed = true ∧ (Instr.nop { pk 0 [] with params := [1] }).wellFormed = false ∧
    (Instr.nop (pk 0 (List.replicate 457 0) (.port 0))).wellFormed = false ∧ (Instr.nop { toHost 1 with data := [1] }).wellFormed = false := by decide +kernel

theorem test_wf_bus : (Instr.bar0RegWrite .jtag 3 0).wellFormed = false ∧ (Instr.regLoRead .jtag 6).wellFormed = false ∧
    (Instr.sleepingTileAccess .jtag 0 1 none).wellFormed = false ∧ (Instr.cxlMemWrite 0 63 [1, 2]).wellFormed = false ∧
    (Instr.cxlMemWrite 0 63 []).wellFormed = false ∧ (Instr.commandComplete head 0 (zeros 77) none).wellFormed = false := by decide +kernel

theorem test_wf_messages : (Instr.chainFrameReceive (zeros 4107)).wellFormed = false ∧ (Instr.cmdPacketAssembled (.port 0) (zeros 1857)).wellFormed = false ∧
    (Instr.laneset 0 (zeros 233)).wellFormed = false ∧ (Instr.lanesetCancel 0 (zeros 233)).wellFormed = false ∧ (Instr.echo (.port 0) (zeros 233)).wellFormed = false ∧
    (Instr.echoReply (.port 0) (zeros 233) 0).wellFormed = false ∧ (Instr.verify 0 (zeros 233)).wellFormed = false ∧
    (Instr.codewordReceive (.port 0) (zeros 256) false).wellFormed = false ∧ (Instr.codewordReceive (.site 0) (zeros 272) false).wellFormed = false := by
  decide +kernel

theorem test_wf_units : (Instr.streamData (.port 0) (zeros 233)).wellFormed = false ∧ (Instr.memRead (.port 0) (zeros 233) .clean).wellFormed = false ∧
    (Instr.memWrite (.port 0) (zeros 233)).wellFormed = false ∧ (Instr.credit (.port 0) (zeros 233)).wellFormed = false ∧
    (Instr.collData (.port 0) (zeros 233)).wellFormed = false ∧ (Instr.collRoute (.port 0) (zeros 233)).wellFormed = false ∧
    (Instr.collEnd (.port 0) (zeros 233)).wellFormed = false ∧ (Instr.peerPartialReceive (.port 0) (zeros 233) false).wellFormed = false ∧
    (Instr.holderNotice (.port 0) (zeros 233)).wellFormed = false ∧ (Instr.mirror 0 (zeros 233)).wellFormed = false ∧
    (Instr.mirrorAck 0 (zeros 233)).wellFormed = false := by decide +kernel

theorem test_wf_readings : (Instr.laneOffsetCheck 0 (List.replicate 18 0)).wellFormed = false ∧ (Instr.refReturn 1 []).wellFormed = false ∧
    (Instr.fadeEvaluation 0 ⟨[(0x30, 0)], []⟩).wellFormed = false ∧ (Instr.fadeEvaluation 0 ⟨[], List.replicate 9 0⟩).wellFormed = false ∧
    (Instr.crownBurstReceive 0 0 true (zeros 767)).wellFormed = false ∧ (Instr.brimFrameReceive 0 0 (zeros 255) 0 0).wellFormed = false ∧
    (Instr.tjSample 0 [] none).wellFormed = false ∧ (Instr.faultSourceAssert .module 21 false).wellFormed = false ∧
    (Instr.faultSourceDeassert (.tile 0) 44).wellFormed = false := by decide +kernel

theorem test_wf_offers : (Instr.crownSlot [⟨0, 0, 0, []⟩]).wellFormed = false := by decide +kernel

/-! ### Worked examples of the spec -/

/-- The port sub-block and the OME block of P112 (00_scope.md, after R19). -/
theorem test_port_block : tileBase 37 + 0x10000 + 1 * 0x4000 = 0x03514000 ∧ tileBase 37 + 0x50000 = 0x03550000 := by decide +kernel

/-- TILE_ROLE of T24 and how it reads (02_command_interface.md, the example of REG_READ). -/
theorem test_tile_role : R.TILE_ROLE 24 = 0x02800010 ∧ (up.startRoles).rd (R.TILE_ROLE 24) = 0x3F2 := by decide +kernel

/-- The address that an endpoint reads (07_streams_and_addressing.md, after R219). -/
theorem test_fabric_address : let a := 0x0A42002468A0ABC0
    addrNode a = 0x0521 ∧ addrValid a = true ∧ addrIndex a = 0x12345 ∧ addrByte a = 0xABC0 ∧
    ({ kind := .local_, tile := 19, gen := 7, frame := 5000 } : FamEntry).bytes.take 8 = leBytes 4 0x00071301 ++ leBytes 4 0x1388 := by decide +kernel

/-- A stream's handle: its slot and Homeroom (07_streams_and_addressing.md, the example of a failed port). -/
theorem test_handle : handleKey 0x0192A00F = slotKey 37 8207 ∧ 0x0192A00F / 2 ^ 21 = 12 := by decide +kernel

/-- T15 and T27 on the Timetable (06_crown_and_brim.md, after R193). -/
theorem test_timetable : pairSlots 15 27 = [(0, 11)] ∧ pairSlots 27 15 = [(2, 3)] ∧ destOf 15 11 3000001 = 43 ∧ destOf 15 0 3000001 = 32 := by decide +kernel

/-- The headroom of 200 m of fibre (05_link_layer.md, after R181). -/
theorem test_headroom : roomFor 2000 2048 = (1885, 1949) := by decide +kernel

/-- A block of BF16 words, the rest zeros. -/
def bf16Block (ws : List Nat) : OmeBlk := convertBlock (ws.map bf16Num ++ List.replicate (32 - ws.length) (.fin ⟨0, 0⟩))

/-- An input block and a weight row, their slices and their sums (09_matrix_engine.md, after R280). -/
theorem test_dot_product : let x := bf16Block [0x40FC, 0xC040, 0x3E00, 0x4028]
    let w := bf16Block [0x3F00, 0x3E80, 0xBF80, 0x3F40]
    x.exp = 130 ∧ x.hi.take 4 = [31, -12, 0, 10] ∧ x.lo.take 4 = [16, 0, 16, 16] ∧ w.exp = 128 ∧ w.hi.take 4 = [8, 4, -16, 12] ∧
    w.lo = List.replicate 32 0 ∧ rowSum w.hi x.hi = 320 ∧ rowSum w.hi x.lo = 64 := by decide +kernel

/-! ### Witnesses -/

theorem witness_StepRunsFront : (∃ (c : Instr) (rest : List Instr) (s : State), s.pending = c :: rest) ∧ (∃ (s : State), s.pending = []) :=
  ⟨⟨.crownStartPulse, [.coldReset], queued, by decide +kernel⟩,
⟨st [], by decide +kernel⟩⟩

theorem witness_StepKeepsCanonical : ∃ (s : State) (t : State), s.canonical ∧ step s = Host.Outcome.next t :=
  ⟨st [], { (st []) with bell := 1 }, by decide +kernel, rfl⟩

theorem witness_MemoryReadsBack : (∃ (m : List Host.Cell) (s : State) (x : Fld) (y : Fld), Memory.wf m = true ∧ s.canonical ∧ x.lo + x.width ≤ 32 ∧
    (y.off ≠ x.off ∨ x.lo + x.width ≤ y.lo ∨ y.lo + y.width ≤ x.lo)) ∧ (∃ (m : List (Nat × QueueSt)) (k : Nat) (j : Nat), Map.rising m = true ∧ j ≠ k)
    :=
  ⟨⟨[(5, 1), (6, 255)], up, F.Q_STAT_CQ_TAIL 15, F.Q_STAT_STATE 15, by decide +kernel⟩,
⟨[(2, { phase := true }), (3, {})], 3, 2, by decide +kernel⟩⟩

theorem witness_BarBadAccess : (∃ (src : BusSrc) (t : Tile) (rel : BitVec 20) (s : State), s.busOk src = true ∧ rel.toNat % 4 = 0 ∧ s.sleepsAt
    (tileBase t.val + rel.toNat) = true ∧ (8192 ≤ rel.toNat ∧ rel.toNat < 655360 ∨ 720896 ≤ rel.toNat) ∧ (s.f (F.TILE_PWR_STAT_STATE t.val) = 2 ∨ s.f
    (F.TILE_PWR_STAT_STATE t.val) = 3 ∨ s.f (F.TILE_PWR_STAT_STATE t.val) = 5)) ∧ (∃ (rel : BitVec 20), (rel.toNat < 8192 ∨ 655360 ≤ rel.toNat ∧
    rel.toNat < 720896)) ∧ (∃ (src : BusSrc) (off : BitVec 27) (bs : List Byte) (s : State), s.busOk src = true ∧ sqWrite off.toNat bs = false) ∧ (∃
    (src : BusSrc) (off : BitVec 27) (bs : List Byte) (s : State), s.busOk src = true ∧ s.canonical ∧ sqWrite off.toNat bs = true) :=
  ⟨⟨.chain, 0, 0x2000, asleep 0 5, by decide +kernel⟩,
⟨0x1FFC, by decide +kernel⟩,
⟨.cxl 1, 3, [1], up, by decide +kernel⟩,
⟨.cxl 1, 0x4000000, List.replicate 8 1, up, by decide +kernel⟩⟩

theorem witness_BarWrite : ∃ (src : BusSrc) (off : BitVec 27) (s : State) (pl : Place) (r : RegRow), s.canonical ∧ s.busOk src = true ∧ off.toNat % 4
    = 0 ∧ placeOf off.toNat = some pl ∧ rowAtPlace pl = some r ∧ pl.tile = 48 ∧ pl.rel < 65536 ∧ pl.rel ∉ [32, 12288, 20496, 36864, 37120] ∧ clampsAt
    pl s.maxInput = [] :=
  ⟨.cxl 0, 0x4100, up, ⟨48, 3, 0x4100⟩, row 0x4100, by decide +kernel⟩

theorem witness_SubmissionWrite : (∃ (src : BusSrc) (off : BitVec 27) (s : State), s.canonical ∧ s.busOk src = true ∧ off.toNat % 4 = 0 ∧ sqArea
    off.toNat = true ∧ Map.find off.toNat s.latch = none ∧ rowAt off.toNat = none ∧ s.sleepsAt off.toNat = false ∧ jrnlHeld off.toNat = false) ∧ (∃
    (src : BusSrc) (off : BitVec 27) (s : State), s.busOk src = true ∧ off.toNat % 4 = 0 ∧ rowAt off.toNat = none ∧ s.sleepsAt off.toNat = false ∧
    sqArea off.toNat = false ∧ s.standbyReg off.toNat = false) :=
  ⟨⟨.cxl 1, 0x04F3FFFC, up, by decide +kernel⟩,
⟨.chain, 0x04040000, up, by decide +kernel⟩⟩

theorem witness_LatchedHalf : (∃ (src : BusSrc) (off : BitVec 27) (hi : Nat) (s : State), s.busOk src = true ∧ off.toNat % 4 = 0 ∧ hiOf off.toNat =
    some hi ∧ off.toNat ≠ R.JRNL_HEAD_SEQ_LO ∧ s.sleepsAt off.toNat = false ∧ Map.find off.toNat s.latch = none ∧ Map.find R.JRNL_HEAD_SEQ_LO s.latch
    = none) ∧ (∃ (src : BusSrc) (off : BitVec 27) (w : Word) (s : State), s.busOk src = true ∧ off.toNat % 4 = 0 ∧ s.sleepsAt off.toNat = false ∧
    off.toNat ≠ R.JRNL_HEAD_SEQ_LO ∧ Map.find off.toNat s.latch = some w) :=
  ⟨⟨.cxl 0, 0xB008, 0xB00C, up, by decide +kernel⟩,
⟨.cxl 0, 0xB00C, 9, latched, by decide +kernel⟩⟩

theorem witness_RefusedCommand_1 : (∃ (c : Instr) (d : CmdDef) (p : Packet) (s : State) (o : Nat) (st : Nat) (det : Nat), c.command = some (d, p) ∧
    d.code / 256 ≠ 9 ∧ s.receives d p o ∧ s.verdict d p o = some (st, det) ∧ s.mayUse (d.code / 256) (originCode o) = true ∧ d.origins.contains
    (originCode o) = true ∧ d.auth s p o = none ∧ d.len p ≠ some p.plen) ∧ (∃ (d : CmdDef) (s : State) (o : Nat), (s.mayUse (d.code / 256) (originCode
    o) = false ∨ d.origins.contains (originCode o) = false)) ∧ (∃ (d : CmdDef) (p : Packet) (s : State) (o : Nat) (off : Nat), s.mayUse (d.code / 256)
    (originCode o) = true ∧ d.origins.contains (originCode o) = true ∧ d.auth s p o = none ∧ d.len p = some p.plen ∧ d.dataLen p = none ∧ d.resLen s p
    = none ∧ s.genericPar d p = some off) ∧ (∃ (c : Instr) (d : CmdDef) (p : Packet) (s : State), c.command = some (d, p) ∧ d.code / 256 ≠ 9 ∧
    (s.takes p.path d.code = false ∨ (p.fence && s.outstanding p.path) = true)) :=
  ⟨⟨.nop (pk 0 [1]), nopDef, pk 0 [1], up, 3, stLength, 0, rfl, by decide +kernel⟩,
⟨regWriteDef, up, 0x8000, by decide +kernel⟩,
⟨nopDef, pk 1 [], up, 3, 24, by decide +kernel⟩,
⟨.nop (pk 0 []), nopDef, pk 0 [], State.reset, rfl, by decide +kernel⟩⟩

theorem witness_RefusedCommand_2 : (∃ (d : CmdDef) (p : Packet) (s : State) (o : Nat) (off : Nat), s.mayUse (d.code / 256) (originCode o) = true ∧
    d.origins.contains (originCode o) = true ∧ d.auth s p o = none ∧ d.len p = some p.plen ∧ d.dataLen p = none ∧ d.resLen s p = none ∧ s.genericPar d
    p = none ∧ d.par s p o = some off) ∧ (∃ (d : CmdDef) (p : Packet) (s : State) (o : Nat), s.mayUse (d.code / 256) (originCode o) = true ∧
    d.origins.contains (originCode o) = true ∧ d.auth s p o = none ∧ d.len p = some p.plen ∧ d.dataLen p = none ∧ d.resLen s p = none ∧ s.genericPar d
    p = none ∧ d.par s p o = none ∧ d.zero p = true) :=
  ⟨⟨regWriteDef, pk 0 [1, 2, 3], up, 3, 36, by decide +kernel⟩,
⟨rcClearDef, pk 0 [0], up, 3, by decide +kernel⟩⟩

theorem witness_ReplyPosting : (∃ (q : Queue) (r : Reply) (s : State) (p : Port), s.canonical ∧ s.b F.Q_GLOBAL_SWITCHOVER = false ∧ s.dropsReplies
    q.val = false ∧ s.cqFull q.val = false ∧ (s.qu q.val).held = [] ∧ r.result.length ≤ 48 ∧ r.inBuffer = 0 ∧ (s.link p.val).inband.contains
    r.tag.toNat = false) ∧ (∃ (q : Queue) (s : State), s.canonical ∧ s.b F.Q_GLOBAL_SWITCHOVER = false ∧ s.dropsReplies q.val = false ∧ s.cqFull q.val
    = true) ∧ (∃ (s : State), s.b F.Q_GLOBAL_SWITCHOVER = true) ∧ (∃ (s : State) (q : Queue), s.b F.Q_GLOBAL_SWITCHOVER = false ∧ s.dropsReplies q.val
    = true) :=
  ⟨⟨15, reply 48, queue 1 [(F.Q_CTL_EN 15, 1), (F.Q_CQ_BASE_LO_ADDR 15, 5), (F.Q_STAT_CQ_TAIL 15, 4095), (F.QDB_CQ_HEAD_HEAD 15, 1)], 3,
    by decide +kernel⟩,
⟨15, queue 1 [(F.Q_CTL_EN 15, 1), (F.Q_STAT_CQ_TAIL 15, 4094), (F.QDB_CQ_HEAD_HEAD 15, 4095)], by decide +kernel⟩,
⟨up.setB F.Q_GLOBAL_SWITCHOVER true, by decide +kernel⟩,
⟨queue 0, 15, by decide +kernel⟩⟩

theorem witness_ResultPlacement : (∃ (s : State) (p : Packet) (res : List Byte), s.canonical ∧ s.inlineLimit p.path < res.length ∧ res.length ≤
    p.bufLen ∧ p.dataFabric = false ∧ s.bufferLost p.path = false) ∧ (∃ (s : State) (p : Packet) (res : List Byte), s.canonical ∧ res.length ≤
    s.inlineLimit p.path) ∧ (∃ (s : State) (p : Packet) (res : List Byte), s.canonical ∧ s.inlineLimit p.path < res.length ∧ p.bufLen < res.length) ∧
    (∃ (s : State) (p : Packet) (res : List Byte), s.canonical ∧ s.inlineLimit p.path < res.length ∧ res.length ≤ p.bufLen ∧ p.dataFabric = false ∧
    s.bufferLost p.path = true) :=
  ⟨⟨up, toHost 49, List.replicate 49 1, by decide +kernel⟩,
⟨up, toHost 100, List.replicate 48 1, by decide +kernel⟩,
⟨up, toHost 48, List.replicate 49 1, by decide +kernel⟩,
⟨{ up with queues := [(15, { dead := true })] }, toHost 49, List.replicate 49 1, by decide +kernel⟩⟩

theorem witness_IdentityCommands : (∃ (p : Packet) (s : State) (o : Nat), s.accepts nopDef p o ∧ s.accepts identifyDef p o ∧ s.accepts whoamiDef p o ∧
    s.accepts journalHeadDef p o) ∧ (∃ (p : Packet) (s : State) (o : Nat) (t : State) (ch : List JChange), s.accepts journalReadDef p o ∧ s.accepts
    regWriteDef p o ∧ (s.begun p).cmdWrites (writePairs p) = (t, ch) ∧ t.twinState ≠ 4) ∧ (∃ (p : Packet) (s : State) (o : Nat), s.accepts regReadDef
    p o) ∧ (∃ (p : Packet) (s : State) (o : Nat) (t : State) (ch : List JChange), s.accepts regUpdateDef p o ∧ ((s.begun p).readReg (p.w
    0)).2.cmdWrite (p.w 0) (updated p ((s.begun p).readReg (p.w 0)).1) = (t, ch) ∧ t.twinState ≠ 4) :=
  ⟨⟨pk 0 [], up, 3, by decide +kernel⟩,
⟨pk 0 [1, 0x3004, 9], up, 3, (up.cmdWrites (writePairs (pk 0 [1, 0x3004, 9]))).1, (up.cmdWrites (writePairs (pk 0 [1, 0x3004, 9]))).2,
    by decide +kernel⟩,
⟨pk 0 [0x20, 1], up, 3, by decide +kernel⟩,
⟨pk 0 [0x3004, 9, 3], up, 3, ((up.readReg 0x3004).2.cmdWrite 0x3004 (updated (pk 0 [0x3004, 9, 3]) (up.readReg 0x3004).1)).1, ((up.readReg
    0x3004).2.cmdWrite 0x3004 (updated (pk 0 [0x3004, 9, 3]) (up.readReg 0x3004).1)).2, by decide +kernel⟩⟩

theorem witness_QueueStates : (∃ (src : BusSrc) (q : Queue) (s : State), s.canonical ∧ s.busOk src = true ∧ (s.f (F.Q_STAT_STATE q.val) = 1 ∨ s.f
    (F.Q_STAT_STATE q.val) = 2)) ∧ (∃ (src : BusSrc) (q : Queue) (s : State), s.canonical ∧ s.busOk src = true ∧ s.f (F.Q_STAT_STATE q.val) = 0) ∧ (∃
    (src : BusSrc) (q : Queue) (s : State), s.canonical ∧ s.busOk src = true ∧ s.f (F.Q_STAT_STATE q.val) = 3 ∧ s.outstanding (Path.host q) = false)
    :=
  ⟨⟨.chain, 15, queue 1, by decide +kernel⟩,
⟨.cxl 1, 15, queue 0, by decide +kernel⟩,
⟨.chain, 15, queue 3, by decide +kernel⟩⟩

theorem witness_Doorbells_1 : (∃ (src : BusSrc) (q : Queue) (v : BitVec 32) (s : State), s.canonical ∧ s.busOk src = true ∧ (∀ (n : Fin 2), src =
    BusSrc.cxl n → s.f (F.Q_CTL_PORT q.val) = ↑n) ∧ s.b F.Q_GLOBAL_SWITCHOVER = false ∧ s.f (F.Q_STAT_STATE q.val) = 1 ∧ (s.f (F.Q_STAT_STATE q.val) =
    1 ∨ s.f (F.Q_STAT_STATE q.val) = 2) ∧ (s.f (F.Q_STAT_CQ_TAIL q.val) + 4096 - s.f (F.QDB_CQ_HEAD_HEAD q.val)) % 4096 < (v.toNat % 4096 + 4096 - s.f
    (F.QDB_CQ_HEAD_HEAD q.val)) % 4096 ∧ s.f (F.Q_STAT_STATE q.val) ≠ 0) ∧ (∃ (src : BusSrc) (q : Queue) (s : State), s.canonical ∧ s.busOk src = true
    ∧ (∀ (n : Fin 2), src = BusSrc.cxl n → s.f (F.Q_CTL_PORT q.val) = ↑n) ∧ s.b F.Q_GLOBAL_SWITCHOVER = false ∧ (s.f (F.Q_STAT_STATE q.val) = 0 ∨ s.f
    (F.Q_STAT_STATE q.val) = 3) ∧ s.f (F.Q_STAT_STATE q.val) = 3) ∧ (∃ (src : BusSrc) (q : Queue) (s : State), s.canonical ∧ s.busOk src = true ∧ (∀
    (n : Fin 2), src = BusSrc.cxl n → s.f (F.Q_CTL_PORT q.val) = ↑n) ∧ s.b F.Q_GLOBAL_SWITCHOVER = true) ∧ (∃ (src : BusSrc) (q : Queue) (v : BitVec
    32) (s : State), s.canonical ∧ s.busOk src = true ∧ (∀ (n : Fin 2), src = BusSrc.cxl n → s.f (F.Q_CTL_PORT q.val) = ↑n) ∧ s.b
    F.Q_GLOBAL_SWITCHOVER = false ∧ (s.f (F.Q_STAT_STATE q.val) = 1 ∨ s.f (F.Q_STAT_STATE q.val) = 2) ∧ (v.toNat % 4096 + 4096 - s.f
    (F.QDB_CQ_HEAD_HEAD q.val)) % 4096 ≤ (s.f (F.Q_STAT_CQ_TAIL q.val) + 4096 - s.f (F.QDB_CQ_HEAD_HEAD q.val)) % 4096 ∧ (s.qu q.val).held = []) :=
  ⟨⟨.cxl 1, 15, 4095, queue 1 [(F.Q_CTL_PORT 15, 1), (F.Q_CTL_EN 15, 1)], by decide +kernel⟩,
⟨.chain, 15, queue 3, by decide +kernel⟩,
⟨.cxl 1, 15, queue 1 [(F.Q_CTL_PORT 15, 1), (F.Q_GLOBAL_SWITCHOVER, 1)], by decide +kernel⟩,
⟨.chain, 15, 4094, queue 1 [(F.Q_STAT_CQ_TAIL 15, 4094)], by decide +kernel⟩⟩

theorem witness_Doorbells_2 : ∃ (src : BusSrc) (q : Queue) (s : State), s.canonical ∧ s.busOk src = true ∧ (∀ (n : Fin 2), src = BusSrc.cxl n → s.f
    (F.Q_CTL_PORT q.val) = ↑n) ∧ s.b F.Q_GLOBAL_SWITCHOVER = false ∧ s.f (F.Q_STAT_STATE q.val) = 2 :=
  ⟨.chain, 15, queue 2 [(F.Q_ERR_BAD_DB 15, 1)], by decide +kernel⟩

theorem witness_ProctorRounds : (∃ (s : State) (q : Queue) (bs : List Byte), s.canonical ∧ s.b F.Q_GLOBAL_SWITCHOVER = false ∧ s.f (F.Q_STAT_STATE
    q.val) = 1 ∧ s.cqFull q.val = false ∧ (s.qu q.val).held = [] ∧ (s.f (F.QDB_SQ_TAIL_TAIL q.val) + 4096 - s.f (F.Q_STAT_SQ_HEAD q.val)) % 4096 <
    entriesOf (leAt bs 8 4)) ∧ (∃ (s : State) (path : Sys2Proof.Path) (tag : BitVec 16) (r : Running) (f : Finish), (List.find? (fun r => decide
    (r.pkt.path = path) && r.pkt.tag == tag) s.proctor.running = some r) ∧ r.fin = some f ∧ s.running r.id = some r ∧ mirroredKind r.opcode = none ∧
    r.opcode ≠ 257 ∧ r.opcode ≠ 258 ∧ f.result.length ≤ s.inlineLimit path) ∧ (∃ (s : State) (r : RawPacket) (rest : List RawPacket) (d : CmdDef),
    s.proctor.round = [] ∧ s.proctor.chainQ = r :: rest ∧ s.listens r.path = true ∧ s.fenceWaits r.path r.bytes = false ∧ earlyFault r.path r.bytes =
    none ∧ cmdDef (leAt r.bytes 0 2) = some d) ∧ (∃ (path : Sys2Proof.Path) (tag : BitVec 16) (s : State), (List.find? (fun r => decide (r.pkt.path =
    path) && r.pkt.tag == tag) s.proctor.running = none)) :=
  ⟨⟨queue 1 [(F.Q_CTL_EN 15, 1), (F.QDB_SQ_TAIL_TAIL 15, 1)], 15, zeros 8 ++ leBytes 4 33 ++ zeros 20, by decide +kernel⟩,
⟨running up (runs (pk 0 []) 0x200 3 (some ended)), head, 7, runs (pk 0 []) 0x200 3 (some ended), ended, by decide +kernel⟩,
⟨up.updPr (fun x => { x with chainQ := [rawNop, rawNop] }), rawNop, [rawNop], nopDef, by decide +kernel, by decide +kernel, by decide +kernel,
    by decide +kernel, by decide +kernel, rfl⟩,
⟨head, 7, up, by decide +kernel⟩⟩

theorem witness_HostMemoryReads_1 : (∃ (n : Fin 2) (dpa : BitVec 64) (s : State) (mt : Nat) (key : Nat) (e : FamEntry) (s1 : State) (r : State), s.b
    (F.CXL_PHY_STAT_MEM_EN n.val) = true ∧ s.twinState ≠ 6 ∧ dpa.toNat / 64 * 64 < 2 ^ 42 ∧ s.waitsForTile (s.fabricAddr (dpa.toNat / 64 * 64)) = none
    ∧ s.resolve (cxlTile n) (s.fabricAddr (dpa.toNat / 64 * 64)) 64 false = (Resolved.at_ mt key e, s1) ∧ s1.memDown mt = false ∧ (linesOf key 64).any
    s1.poisoned = false ∧ (s.resolve (cxlTile n) (s.fabricAddr (dpa.toNat / 64 * 64)) 64 false).2 = r) ∧ (∃ (n : Fin 2) (dpa : BitVec 64) (s : State)
    (mt : Nat) (key : Nat) (e : FamEntry) (s1 : State), s.b (F.CXL_PHY_STAT_MEM_EN n.val) = true ∧ s.twinState ≠ 6 ∧ dpa.toNat / 64 * 64 < 2 ^ 42 ∧
    s.waitsForTile (s.fabricAddr (dpa.toNat / 64 * 64)) = none ∧ s.resolve (cxlTile n) (s.fabricAddr (dpa.toNat / 64 * 64)) 64 false = (Resolved.at_
    mt key e, s1) ∧ (s1.memDown mt = true ∨ (linesOf key 64).any s1.poisoned = true)) ∧ (∃ (n : Fin 2) (dpa : BitVec 64) (s : State) (st : Nat) (s1 :
    State), s.b (F.CXL_PHY_STAT_MEM_EN n.val) = true ∧ s.twinState ≠ 6 ∧ dpa.toNat / 64 * 64 < 2 ^ 42 ∧ s.waitsForTile (s.fabricAddr (dpa.toNat / 64 *
    64)) = none ∧ s.resolve (cxlTile n) (s.fabricAddr (dpa.toNat / 64 * 64)) 64 false = (Resolved.bad st, s1)) ∧ (∃ (n : Fin 2) (dpa : BitVec 64) (s :
    State), s.b (F.CXL_PHY_STAT_MEM_EN n.val) = true ∧ (s.twinState = 6 ∨ 2 ^ 42 ≤ dpa.toNat / 64 * 64)) :=
  ⟨⟨1, 0x47, mapped 2, 5, dramKey 5 3 64, ent, ((mapped 2).resolve (cxlTile 1) ((mapped 2).fabricAddr 64) 64 false).2, ((mapped 2).resolve (cxlTile 1)
    ((mapped 2).fabricAddr 64) 64 false).2, by decide +kernel⟩,
⟨1, 0x47, mapped 0, 5, dramKey 5 3 64, ent, ((mapped 0).resolve (cxlTile 1) ((mapped 0).fabricAddr 64) 64 false).2, by decide +kernel⟩,
⟨0, 0x3FFFFFFFFFF, mapped 2, stNotFound, ((mapped 2).resolve (cxlTile 0) ((mapped 2).fabricAddr 0x3FFFFFFFFC0) 64 false).2, by decide +kernel⟩,
⟨0, 0x40000000000, mapped 2, by decide +kernel⟩⟩

theorem witness_HostMemoryReads_2 : ∃ (n : Fin 2) (dpa : BitVec 64) (s : State) (s1 : State), s.b (F.CXL_PHY_STAT_MEM_EN n.val) = true ∧ s.twinState ≠
    6 ∧ dpa.toNat / 64 * 64 < 2 ^ 42 ∧ s.waitsForTile (s.fabricAddr (dpa.toNat / 64 * 64)) = none ∧ s.resolve (cxlTile n) (s.fabricAddr (dpa.toNat /
    64 * 64)) 64 false = (Resolved.noCopy, s1) :=
  ⟨0, 0, (mapped 2).updPool (fun p => { p with copyUp := (false, false) }), (((mapped 2).updPool (fun p => { p with copyUp := (false, false) })).resolve
    (cxlTile 0) (((mapped 2).updPool (fun p => { p with copyUp := (false, false) })).fabricAddr 0) 64 false).2, by decide +kernel⟩

theorem witness_HostMemoryWrites : (∃ (n : Fin 2) (dpa : BitVec 64) (bytes : List Byte) (s : State) (mt : Nat) (key : Nat) (e : FamEntry) (s1 :
    State), s.canonical ∧ s.b (F.CXL_PHY_STAT_MEM_EN n.val) = true ∧ bytes ≠ [] ∧ dpa.toNat % 64 + bytes.length ≤ 64 ∧ dpa.toNat < 2 ^ 42 ∧
    s.notHolder = false ∧ s.mirrors = false ∧ s.waitsForTile (s.fabricAddr dpa.toNat) = none ∧ s.resolve (cxlTile n) (s.fabricAddr dpa.toNat)
    bytes.length true = (Resolved.at_ mt key e, s1) ∧ e.migrating = false ∧ s1.memDown mt = false ∧ s1.gated mt = false ∧ (linesOf key
    bytes.length).any s1.poisoned = false) ∧ (∃ (n : Fin 2) (dpa : BitVec 64) (bytes : List Byte) (s : State) (st : Nat) (s1 : State), s.canonical ∧
    s.b (F.CXL_PHY_STAT_MEM_EN n.val) = true ∧ bytes ≠ [] ∧ dpa.toNat % 64 + bytes.length ≤ 64 ∧ dpa.toNat < 2 ^ 42 ∧ s.notHolder = false ∧ s.mirrors
    = false ∧ s.waitsForTile (s.fabricAddr dpa.toNat) = none ∧ s.resolve (cxlTile n) (s.fabricAddr dpa.toNat) bytes.length true = (Resolved.bad st,
    s1)) ∧ (∃ (n : Fin 2) (dpa : BitVec 64) (bytes : List Byte) (s : State), s.canonical ∧ s.b (F.CXL_PHY_STAT_MEM_EN n.val) = true ∧ bytes ≠ [] ∧
    dpa.toNat % 64 + bytes.length ≤ 64 ∧ dpa.toNat < 2 ^ 42 ∧ s.notHolder = true) :=
  ⟨⟨1, 0x7F, [0xFF], mapped 3, 5, dramKey 5 3 0x7F, ent, ((mapped 3).resolve (cxlTile 1) ((mapped 3).fabricAddr 0x7F) 1 true).2, by decide +kernel⟩,
⟨0, 0x3FFFFFFFFFF, [1], mapped 3, stNotFound, ((mapped 3).resolve (cxlTile 0) ((mapped 3).fabricAddr 0x3FFFFFFFFFF) 1 true).2, by decide +kernel⟩,
⟨0, 0, [1], mapped 3 ent [(F.TWIN_STAT_STATE, 2), (F.TWIN_STAT_HOME, 1)], by decide +kernel⟩⟩

theorem witness_HostPorts : (∃ (n : Fin 2) (s : State) (rate : Fin 6) (width : Fin 17), s.canonical ∧ s.cxlTrains n.val rate.val width.val = true) ∧
    (∃ (n : Fin 2) (rate : Fin 6) (width : Fin 17) (s : State), s.cxlTrains n.val rate.val width.val = false) :=
  ⟨⟨0, queue 1 [(F.Q_CTL_EN 15, 1)], 5, 16, by decide +kernel⟩,
⟨1, 3, 3, up, by decide +kernel⟩⟩

theorem witness_JournalDurability : (∃ (s : State) (e : JPending) (rest : List JPending), s.canonical ∧ s.journal.waiting = e :: rest ∧ (∀ w ∈
    s.journal.waiting, w.group = e.group → w.reply = none)) ∧ (∃ (s : State) (e : JPending) (path : Sys2Proof.Path) (r : Reply), s.journal.waiting =
    [e] ∧ e.reply = some (path, r) ∧ e.opcode ≠ 288 ∧ e.undo.maps = []) ∧ (∃ (s : State), s.canonical ∧ s.journal.lost ≠ 0) :=
  ⟨⟨waits none, wait none, [wait none], by decide +kernel⟩,
⟨waits1 (some (head, reply 4)), wait (some (head, reply 4)), head, reply 4, by decide +kernel⟩,
⟨{ up with journal := { up.journal with lost := 3 } }, by decide +kernel⟩⟩

theorem witness_ChangeUndone : ∃ (old : State) (new : State), old.canonical ∧ new.canonical ∧ Map.rising new.pool.fam = true ∧ Map.rising
    new.pool.regions = true ∧ Map.rising new.pool.used = true ∧ Map.rising new.blk = true :=
  ⟨mapped 2, { mapped 3 (ent true) with host := [(7, 7)] }, by decide +kernel⟩

theorem witness_ChainFrames_1 : (∃ (bytes : List Byte) (next : BitVec 8), chainFrameOk bytes = false ∧ next.toNat < 64) ∧ (∃ (bytes : List Byte) (s :
    State) (next : BitVec 8), chainFrameOk bytes = true ∧ leAt bytes 2 1 ≠ 1 ∧ (leAt bytes 0 1 = 0 ∨ leAt bytes 0 1 ≠ s.f F.MCH_ADDR_ADDR) ∧ 64 ≤
    next.toNat) ∧ (∃ (bytes : List Byte) (s : State), chainFrameOk bytes = true ∧ leAt bytes 2 1 = 16 ∧ leAt bytes 0 1 ≠ 0 ∧ leAt bytes 0 1 = s.f
    F.MCH_ADDR_ADDR ∧ BitVec.ofNat 8 (leAt bytes 1 1) = 127 ∧ s.proctor.chainQ.length + s.proctor.twinQ.length < 64) ∧ (∃ (bytes : List Byte) (s :
    State), chainFrameOk bytes = true ∧ leAt bytes 2 1 = 16 ∧ leAt bytes 0 1 ≠ 0 ∧ leAt bytes 0 1 = s.f F.MCH_ADDR_ADDR ∧ BitVec.ofNat 8 (leAt bytes 1
    1) = 127 ∧ 64 ≤ s.proctor.chainQ.length + s.proctor.twinQ.length) :=
  ⟨⟨[1, 2, 3], 63, by decide +kernel⟩,
⟨chainFrame 6 0x7F 0x10 (zeros 32), st [(F.MCH_ADDR_ADDR, 5)], 64, by decide +kernel⟩,
⟨chainFrame 5 0x7F 0x10 (zeros 32), st [(F.MCH_ADDR_ADDR, 5)], by decide +kernel⟩,
⟨chainFrame 5 0x7F 0x10 (zeros 32), (st [(F.MCH_ADDR_ADDR, 5)]).updPr (fun x => { x with chainQ := List.replicate 64 rawNop }), by decide +kernel⟩⟩

theorem witness_ChainFrames_2 : ∃ (bytes : List Byte) (s : State), chainFrameOk bytes = true ∧ leAt bytes 2 1 = 16 ∧ leAt bytes 0 1 ≠ 0 ∧ leAt bytes 0
    1 = s.f F.MCH_ADDR_ADDR ∧ s.originOf (Path.chain (BitVec.ofNat 8 (leAt bytes 1 1))) = none :=
  ⟨chainFrame 5 9 0x10 (zeros 32), st [(F.MCH_ADDR_ADDR, 5)], by decide +kernel⟩

theorem witness_EnableRegisters : (∃ (src : BusSrc) (v : BitVec 32) (s : State) (p : Port) (t : Tile), s.busOk src = true ∧ s.nodeRefused v = false ∧
    s.rd R.NODE_CFG &&& ~~~32767 ||| v &&& 32767 ≠ s.rd R.NODE_CFG ∧ s.canonical ∧ s.sleepsAt (R.LINK_CTL p.val) = false ∧ s.f (F.LINK_CTL_EN p.val) =
    0 ∧ s.f (F.LINK_STAT_STATE p.val) = 0 ∧ s.inTest (p.val / 3) = false ∧ s.sleepsAt (R.CROWN_CTL t.val) = false ∧ s.f (F.CROWN_CTL_EN t.val) = 1 ∧
    s.sleepsAt (R.OME_CTL t.val) = false ∧ s.standbyReg (R.OME_CTL t.val) = false ∧ s.mirrors = false ∧ s.f (F.OME_STAT_STATE t.val) ≠ 1 ∧ s.f
    (F.OME_CTL_EN t.val) = 1 ∧ s.rd (R.TILE_PWR_CTL t.val) &&& ~~~3 ||| v &&& 3 ≠ s.rd (R.TILE_PWR_CTL t.val)) ∧ (∃ (src : BusSrc) (v : BitVec 32) (s
    : State) (p : Port), s.busOk src = true ∧ s.nodeRefused v = true ∧ s.canonical ∧ s.sleepsAt (R.LINK_CTL p.val) = false ∧ s.f (F.LINK_CTL_EN p.val)
    = 1 ∧ s.f (F.LINK_STAT_STATE p.val) = 1 ∧ (s.link p.val).laneset = none) :=
  ⟨⟨.cxl 0, 1, up.setFs [(F.NODE_CFG_NODE, 9), (F.LINK_CTL_EN 143, 0), (F.LINK_STAT_STATE 143, 0)], 143, 47, by decide +kernel⟩,
⟨.cxl 0, 0, mapped 3, 143, by decide +kernel⟩⟩

theorem witness_ShutterEvents_1 : (∃ (p : Port) (s : State) (w : BitVec 64), s.canonical ∧ s.linkKeeps p.val = true ∧ s.b (F.EYESAFE_BEACON_OK (p.val
    / 3) (p.val % 3)) = false ∧ s.f (F.LINK_STAT_STATE p.val) ≠ 5 ∧ crc16Bits (bitsDown w.toNat 63 16) ≠ w.toNat % 65536) ∧ (∃ (p : Port) (s : State)
    (w : BitVec 64), s.canonical ∧ (s.f (F.LINK_STAT_STATE p.val) < 2 ∨ s.f (F.LINK_STAT_STATE p.val) = 5) ∧ s.b (F.EYESAFE_BEACON_OK (p.val / 3)
    (p.val % 3)) = true ∧ s.f (F.LINK_STAT_STATE p.val) ≠ 5 ∧ s.b (F.LINK_CTL_EN p.val) = true ∧ s.node ≠ 0 ∧ s.gated (p.val / 3) = false ∧ s.f
    (F.EYESAFE_STATE (p.val / 3) (p.val % 3)) ≠ 0 ∧ crc16Bits (bitsDown w.toNat 63 16) = w.toNat % 65536 ∧ (s.link p.val).beacon ≠ some w.toNat) ∧ (∃
    (p : Port) (s : State), s.canonical ∧ s.b (F.EYESAFE_BEACON_OK (p.val / 3) (p.val % 3)) = false ∧ s.f (F.LINK_STAT_STATE p.val) = 5) ∧ (∃ (p :
    Port) (s : State) (w : BitVec 64), s.canonical ∧ crc16Bits (bitsDown w.toNat 63 16) = w.toNat % 65536 ∧ (s.link p.val).beacon = some w.toNat) :=
  ⟨⟨143, up.setFs [(F.LINK_STAT_STATE 143, 3), (F.NODE_CFG_NODE, 9)], 1, by decide +kernel⟩,
⟨143, up.setFs [(F.LINK_STAT_STATE 143, 1), (F.NODE_CFG_NODE, 9), (F.EYESAFE_BEACON_OK 47 2, 1), (F.EYESAFE_STATE 47 2, 1)], BitVec.ofNat 64 (sealed
    64 (5 * 2^49)), by decide +kernel⟩,
⟨143, up.setFs [(F.LINK_STAT_STATE 143, 5)], by decide +kernel⟩,
⟨143, lnk { beacon := some (sealed 64 (5 * 2^49)) }, BitVec.ofNat 64 (sealed 64 (5 * 2^49)), by decide +kernel⟩⟩

theorem witness_ShutterEvents_2 : ∃ (p : Port) (s : State), s.canonical ∧ s.f (F.LINK_STAT_STATE p.val) = 2 :=
  ⟨143, up.setFs [(F.LINK_STAT_STATE 143, 2), (F.NODE_CFG_NODE, 9)], by decide +kernel⟩

theorem witness_TrainingEvents_1 : (∃ (p : Port) (s : State) (line : Lane) (w : BitVec 128) (v : Nat) (inv : Bool) (tr : Training) (pass : BitVec 17),
    s.trainWord p.val (↑line) w = some (v, inv) ∧ s.f (F.LINK_STAT_STATE p.val) = 2 ∧ (s.link p.val).train = some tr ∧ v / 2 ^ 118 % 4 = tr.rate ∧ s.f
    (F.SDS_STAT_STAGE p.val) ≠ 4 ∧ s.canonical ∧ s.f (F.SDS_STAT_STAGE p.val) = 1 ∧ 4 ≤ dataLanes (tr.lanes &&& pass.toNat) ∧ tr.full = true ∧ tr.seen
    = false ∧ tr.rate < 4) ∧ (∃ (p : Port) (s : State) (pass : BitVec 17) (tr : Training), (s.link p.val).train = some tr ∧ s.f (F.SDS_STAT_STAGE
    p.val) = 1 ∧ dataLanes (tr.lanes &&& pass.toNat) < 4 ∧ (s.f (F.SDS_STAT_STAGE p.val) = 4 ∨ s.f (F.SDS_STAT_STAGE p.val) = 1 ∧ dataLanes (tr.lanes
    &&& pass.toNat) < 4) ∧ tr.full = true ∧ tr.rate < 3) ∧ (∃ (p : Port) (s : State) (pass : BitVec 17) (tr : Training), (s.link p.val).train = some
    tr ∧ s.f (F.SDS_STAT_STAGE p.val) = 4 ∧ s.f (F.LINK_STAT_STATE p.val) = 2 ∧ tr.ready = true ∧ tr.farReady = true ∧ (s.f (F.SDS_STAT_STAGE p.val) =
    4 ∨ s.f (F.SDS_STAT_STAGE p.val) = 1 ∧ dataLanes (tr.lanes &&& pass.toNat) < 4) ∧ tr.full = true ∧ 3 ≤ tr.rate) ∧ (∃ (p : Port) (s : State) (line
    : Lane) (w : BitVec 128), s.trainWord p.val (↑line) w = none) :=
  ⟨⟨143, lnk { train := some (tr true 3) } [(F.LINK_STAT_STATE 143, 2), (F.SDS_STAT_STAGE 143, 1)], 16, BitVec.ofNat 128 (sealed 128 (2^120 + 3 * 2^118
    + 16 * 2^123)), sealed 128 (2^120 + 3 * 2^118 + 16 * 2^123), false, tr true 3, 0x1000F, by decide +kernel⟩,
⟨143, lnk { train := some (tr true 2) } [(F.LINK_STAT_STATE 143, 2), (F.SDS_STAT_STAGE 143, 1)], 0x10007, tr true 2, by decide +kernel⟩,
⟨143, lnk { train := some (tr true 3 0xF true) } [(F.LINK_STAT_STATE 143, 2), (F.SDS_STAT_STAGE 143, 4)], 0x1FFFF, tr true 3 0xF true,
    by decide +kernel⟩,
⟨143, up, 16, 1, by decide +kernel⟩⟩

theorem witness_TrainingEvents_2 : (∃ (p : Port) (s : State) (line : Lane) (w : BitVec 128) (v : Nat) (inv : Bool), s.trainWord p.val (↑line) w = some
    (v, inv) ∧ s.f (F.LINK_STAT_STATE p.val) = 3 ∧ v / 2 ^ 120 % 8 = 6) ∧ (∃ (p : Port) (s : State) (pass : BitVec 17) (tr : Training), (s.link
    p.val).train = some tr ∧ (s.f (F.SDS_STAT_STAGE p.val) = 4 ∨ s.f (F.SDS_STAT_STAGE p.val) = 1 ∧ dataLanes (tr.lanes &&& pass.toNat) < 4) ∧ tr.full
    = false) ∧ (∃ (p : Port) (s : State), (s.link p.val).retryWait = true ∧ s.b (F.EYESAFE_LOS (p.val / 3) (p.val % 3)) = false) :=
  ⟨⟨143, up.setF (F.LINK_STAT_STATE 143) 3, 16, BitVec.ofNat 128 (sealed 128 (6 * 2^120)), sealed 128 (6 * 2^120), false, by decide +kernel⟩,
⟨143, lnk { train := some (tr false 3 0xF true) } [(F.LINK_STAT_STATE 143, 4), (F.SDS_STAT_STAGE 143, 4)], 0x1FFFF, tr false 3 0xF true,
    by decide +kernel⟩,
⟨143, lnk { retryWait := true } [(F.EYESAFE_LOS 47 2, 0)], by decide +kernel⟩⟩

theorem witness_LaneEvents_1 : (∃ (p : Port) (s : State) (j : Lane), s.linkUp p.val = true ∧ s.b (F.SDS_CTL_A1_EN p.val) = true ∧ s.b
    (F.SDS_STAT_A1_BLOCKED p.val) = false ∧ (s.link p.val).idle = true ∧ s.ackDue p.val = false ∧ (∀ r ∈ (s.bl (p.val / 3)).runs, r.slot ≠ p.val % 3)
    ∧ ((s.link p.val).txQuiet = false ∨ (s.link p.val).idle = true ∧ s.ackDue p.val = false ∧ s.laneRunOn p.val = false) ∧ s.laneRunOn p.val = false ∧
    (s.link p.val).scan = none ∧ s.b (F.LANE_STAT_IN_MAP p.val ↑j) = true ∧ s.canonical) ∧ (∃ (s : State) (ofs : List (BitVec 16)), ofs.length = 17 ∧
    s.canonical) ∧ (∃ (p : Port) (s : State) (sc : EyeScan), (s.link p.val).scan = some sc ∧ s.laneRunOn p.val = false ∧ sc.points.length ≤ 1) ∧ (∃ (p
    : Port) (s : State) (sc : EyeScan), (s.link p.val).scan = some sc ∧ s.laneRunOn p.val = false ∧ 1 < sc.points.length) :=
  ⟨⟨143, lnk {} [(F.LINK_STAT_STATE 143, 3), (F.LANE_STAT_IN_MAP 143 16, 1)], 16, by decide +kernel⟩,
⟨up, List.replicate 16 0 ++ [3001], by decide +kernel⟩,
⟨143, lnk { scan := some (scan 1) }, scan 1, by decide +kernel⟩,
⟨143, lnk { scan := some (scan 2) }, scan 2, by decide +kernel⟩⟩

theorem witness_LaneEvents_2 : (∃ (s : State) (o : Nat) (pk : Packet), s.accepts portEyeScanDef pk o) ∧ (∃ (s : State) (o : Nat) (pk : Packet),
    s.accepts portPrbsDef pk o) ∧ (∃ (p : Port) (s : State), (s.link p.val).txQuiet = true ∧ ((s.link p.val).idle = false ∨ s.ackDue p.val = true ∨
    s.laneRunOn p.val = true)) :=
  ⟨⟨mapped 2 ent [(F.LINK_STAT_STATE 143, 3), (F.LANE_STAT_IN_MAP 143 16, 1)], 3, Tests.pk 0x108F03 [2, 0, 0, 0, 0, 20], by decide +kernel⟩,
⟨mapped 2 ent, 3, Tests.pk 0x8F02 [1, 2, 1000000], by decide +kernel⟩,
⟨143, lnk { txQuiet := true, txq := [flit] }, by decide +kernel⟩⟩

theorem witness_FlitsSent_1 : (∃ (v : Via) (s : State) (k : Nat) (f : Flit), s.linkRuns v.code = true ∧ (s.link v.code).txQuiet = false ∧ s.awaitsAck
    v.code = false ∧ (s.link v.code).replayPos = some k ∧ (s.link v.code).unacked[k]? = some f ∧ s.canonical ∧ (s.link v.code).timerOn = true ∧
    (s.link v.code).unacked ≠ [] ∧ s.f (F.LINK_STAT_REPLAY_NUM v.code) < s.replayLimit v.code) ∧ (∃ (v : Via) (s : State), s.linkRuns v.code = true ∧
    (s.link v.code).txQuiet = false ∧ (s.link v.code).replayPos = none ∧ s.txHeld v.code = false ∧ (s.link v.code).unacked.length < 8192 ∧ s.nextFlit
    v.code = none ∧ (s.link v.code).laneset = none ∧ (s.link v.code).timerOn = true ∧ (s.link v.code).unacked ≠ [] ∧ s.replayLimit v.code ≤ s.f
    (F.LINK_STAT_REPLAY_NUM v.code) ∧ s.f (F.LINK_STAT_POST_RETRAIN v.code) = 0) ∧ (∃ (p : Port) (s : State) (tr : Training), (s.link p.val).train =
    some tr ∧ s.f (F.LINK_STAT_STATE p.val) = 4 ∧ tr.ready = true ∧ tr.farReady = true ∧ s.f (F.SDS_STAT_STAGE p.val) = 4 ∧ tr.full = false) ∧ (∃ (k :
    Fin 4) (s : State), s.linkUp (240 + k.val) = true ∧ (s.link (240 + k.val)).train ≠ none) :=
  ⟨⟨.port 143, lnk { unacked := [flit, flit], replayPos := some 1, timerOn := true } [(F.LINK_STAT_STATE 143, 3)], 1, flit, by decide +kernel⟩,
⟨.port 143, lnk { unacked := [flit, flit], timerOn := true } [(F.LINK_STAT_STATE 143, 3), (F.LINK_STAT_REPLAY_NUM 143, 7), (F.LINK_CTL_REPLAY_LIMIT
    143, 7)], by decide +kernel⟩,
⟨143, lnk { train := some (tr false 3 0xF true) } [(F.LINK_STAT_STATE 143, 4), (F.SDS_STAT_STAGE 143, 4)], tr false 3 0xF true, by decide +kernel⟩,
⟨3, site1.updLink 243 (fun _ => { train := some (tr false 3 0xF true) }), by decide +kernel⟩⟩

theorem witness_FlitsSent_2 : (∃ (v : Via) (s : State), (s.linkRuns v.code = false ∨ (s.link v.code).txQuiet = true)) ∧ (∃ (v : Via) (s : State) (f :
    Flit), s.linkRuns v.code = true ∧ (s.link v.code).txQuiet = false ∧ (s.link v.code).replayPos = none ∧ s.txHeld v.code = false ∧ (s.link
    v.code).unacked.length < 8192 ∧ s.nextFlit v.code = some f) ∧ (∃ (v : Via) (s : State), s.linkRuns v.code = true ∧ s.ackDue v.code = true) ∧ (∃ (v
    : Via) (s : State), s.linkRuns v.code = true ∧ (s.link v.code).timerOn = true ∧ (s.link v.code).unacked ≠ [] ∧ s.replayLimit v.code ≤ s.f
    (F.LINK_STAT_REPLAY_NUM v.code) ∧ s.f (F.LINK_STAT_POST_RETRAIN v.code) ≠ 0) :=
  ⟨⟨.port 143, up, by decide +kernel⟩,
⟨.port 143, lnk { txq := [flit], rttDone := true } [(F.LINK_STAT_STATE 143, 3), (F.LINK_SEQ_TX_SEQ 143, 0xFFFFFF), (F.LINK_SEQ_ACK_SEQ 143,
    0xFFFFFF)], flit, by decide +kernel⟩,
⟨.port 143, lnk { ackValid := true } [(F.LINK_STAT_STATE 143, 3)], by decide +kernel⟩,
⟨.port 143, lnk { unacked := [flit, flit], timerOn := true } [(F.LINK_STAT_STATE 143, 3), (F.LINK_STAT_REPLAY_NUM 143, 7), (F.LINK_CTL_REPLAY_LIMIT
    143, 7), (F.LINK_STAT_POST_RETRAIN 143, 1)], by decide +kernel⟩⟩

theorem witness_FlitsSent_3 : (∃ (v : Via) (s : State), s.linkRuns v.code = true ∧ (s.link v.code).txQuiet = false ∧ (s.link v.code).replayPos = none
    ∧ s.txHeld v.code = true) ∧ (∃ (v : Via) (s : State) (ls : Laneset), s.linkRuns v.code = true ∧ (s.link v.code).txQuiet = false ∧ (s.link
    v.code).replayPos = none ∧ s.txHeld v.code = false ∧ (s.link v.code).unacked.length < 8192 ∧ s.nextFlit v.code = none ∧ (s.link v.code).laneset =
    some ls ∧ ls.txDone = false ∧ ls.cancelled = false) :=
  ⟨⟨.port 143, lnk { dozed := true } [(F.LINK_STAT_STATE 143, 3)], by decide +kernel⟩,
⟨.port 143, lnk { laneset := some (lset true false false) } [(F.LINK_STAT_STATE 143, 3), (F.LINK_SEQ_TX_SEQ 143, 9)], lset true false false,
    by decide +kernel⟩⟩

theorem witness_LinkControl_1 : (∃ (v : Via) (msg : List Byte) (s : State) (s1 : State), s.linkRuns v.code = true ∧ (s.link v.code).dozed = false ∧
    s.popRx v.code 2 (fitBytes 232 msg) = some s1 ∧ leAt msg 0 1 = 3) ∧ (∃ (p : Port) (s : State) (ls : Laneset), (s.link p.val).laneset = some ls ∧
    s.f (F.LINK_SEQ_TX_SEQ p.val) = ls.txAt ∧ ls.acked = true ∧ ls.txDone = false ∧ ls.cancelled = true ∧ s.linkUp p.val = true ∧ (s.link p.val).dozed
    = true ∧ (s.link p.val).txq ≠ []) ∧ (∃ (p : Port) (msg : List Byte) (s : State) (s1 : State) (ls : Laneset), s.popRx p.val 2 (fitBytes 232 msg) =
    some s1 ∧ (s1.link p.val).laneset = some ls ∧ leAt msg 0 1 = 2 ∧ ls.mine = true ∧ ls.reqId = leAt msg 1 1 ∧ leAt msg 2 1 ≠ 0 ∧ ls.acked = false ∧
    (s.link p.val).laneset = some ls ∧ s.f (F.LINK_SEQ_TX_SEQ p.val) = ls.txAt ∧ ls.cancelled = false) ∧ (∃ (p : Port) (msg : List Byte) (s : State)
    (s1 : State) (r : Nat), s.popRx p.val 2 (fitBytes 232 msg) = some s1 ∧ leAt msg 0 1 = 1 ∧ leAt msg 26 1 ≠ 1 ∧ s1.linkUp p.val = true ∧ (s1.link
    p.val).laneset = none ∧ (s1.lanesetRefusal p.val (leAt msg 2 1) (leAt msg 3 1) (List.map (fun i => leAt msg (10 + i) 1) (List.range 16)) = some
    r)) :=
  ⟨⟨.port 143, [3, 0, 0, 0, 8], lctl {} [3, 0, 0, 0, 8], took (lctl {} [3, 0, 0, 0, 8]) [3, 0, 0, 0, 8], by decide +kernel⟩,
⟨143, lnk { laneset := some (lset true true true), dozed := true, txq := [flit] } [(F.LINK_STAT_STATE 143, 3)], lset true true true,
    by decide +kernel⟩,
⟨143, [2, 5, 1], lctl { laneset := some (lset true false false) } [2, 5, 1], took (lctl { laneset := some (lset true false false) } [2, 5, 1]) [2, 5,
    1], lset true false false, by decide +kernel⟩,
⟨143, [1, 5, 3], lctl {} [1, 5, 3], took (lctl {} [1, 5, 3]) [1, 5, 3], 3, by decide +kernel⟩⟩

theorem witness_LinkControl_2 : (∃ (p : Port) (msg : List Byte) (s : State) (s1 : State), s.popRx p.val 2 (fitBytes 232 msg) = some s1 ∧ leAt msg 0 1
    = 1 ∧ leAt msg 26 1 ≠ 1 ∧ s1.linkUp p.val = true ∧ (s1.link p.val).laneset = none ∧ (s1.lanesetRefusal p.val (leAt msg 2 1) (leAt msg 3 1)
    (List.map (fun i => leAt msg (10 + i) 1) (List.range 16)) = none)) ∧ (∃ (p : Port) (msg : List Byte) (s : State) (s1 : State) (ls : Laneset),
    s.popRx p.val 2 (fitBytes 232 msg) = some s1 ∧ (s1.link p.val).laneset = some ls ∧ leAt msg 0 1 = 2 ∧ ls.mine = true ∧ ls.reqId = leAt msg 1 1 ∧
    leAt msg 2 1 = 0) ∧ (∃ (p : Port) (msg : List Byte) (s : State) (s1 : State) (ls : Laneset), s.popRx p.val 2 (fitBytes 232 msg) = some s1 ∧
    (s1.link p.val).laneset = some ls ∧ leAt msg 0 1 = 1 ∧ leAt msg 26 1 = 1 ∧ ls.mine = false ∧ ls.reqId = leAt msg 1 1 ∧ ls.txDone = false) ∧ (∃ (p
    : Port) (msg : List Byte) (s : State) (s1 : State), s.popRx p.val 2 (fitBytes 232 msg) = some s1 ∧ leAt msg 0 1 = 5) :=
  ⟨⟨143, [1, 5, 4, 0, 0, 0, 0, 0, 1, 0, 0, 1, 2, 3], lctl {} [1, 5, 4, 0, 0, 0, 0, 0, 1, 0, 0, 1, 2, 3] lanes4, took (lctl {} [1, 5, 4, 0, 0, 0, 0, 0,
    1, 0, 0, 1, 2, 3] lanes4) [1, 5, 4, 0, 0, 0, 0, 0, 1, 0, 0, 1, 2, 3], by decide +kernel⟩,
⟨143, [2, 5, 0], lctl { laneset := some (lset true false false) } [2, 5, 0], took (lctl { laneset := some (lset true false false) } [2, 5, 0]) [2, 5,
    0], lset true false false, by decide +kernel⟩,
⟨143, 1 :: 5 :: zeros 24 ++ [1], lctl { laneset := some (lset false true false) } (1 :: 5 :: zeros 24 ++ [1]), took (lctl
    { laneset := some (lset false true false) } (1 :: 5 :: zeros 24 ++ [1])) (1 :: 5 :: zeros 24 ++ [1]), lset false true false, by decide +kernel⟩,
⟨143, [5, 255, 0], lctl {} [5, 255, 0], took (lctl {} [5, 255, 0]) [5, 255, 0], by decide +kernel⟩⟩

theorem witness_LinkControl_3 : (∃ (p : Port) (s : State) (s1 : State), s.popRx p.val 2 (fitBytes 232 [6]) = some s1) ∧ (∃ (p : Port) (s : State) (s1
    : State), s.popRx p.val 2 (fitBytes 232 [7]) = some s1) ∧ (∃ (p : Port) (msg : List Byte) (s : State) (s1 : State) (ls : Laneset), s.popRx p.val 2
    (fitBytes 232 msg) = some s1 ∧ (s1.link p.val).laneset = some ls ∧ leAt msg 0 1 = 1 ∧ leAt msg 26 1 = 1 ∧ ls.mine = false ∧ ls.reqId = leAt msg 1
    1 ∧ ls.txDone = true) :=
  ⟨⟨143, lctl {} [6], took (lctl {} [6]) [6], by decide +kernel⟩,
⟨143, lctl {} [7], took (lctl {} [7]) [7], by decide +kernel⟩,
⟨143, 1 :: 5 :: zeros 24 ++ [1], lctl { laneset := some { lset false true false with txDone := true } } (1 :: 5 :: zeros 24 ++ [1]), took (lctl
    { laneset := some { lset false true false with txDone := true } } (1 :: 5 :: zeros 24 ++ [1])) (1 :: 5 :: zeros 24 ++ [1]),
    { lset false true false with txDone := true }, by decide +kernel⟩⟩

theorem witness_PortCommands_1 : (∃ (v : Via) (bytes : List Byte) (f : Flit) (s : State), (List.find? (fun f => decide (f.type = FlitType.cmd) &&
    decide (f.payload = bytes)) (s.link v.code).rxq = some f) ∧ (((s.updLink v.code fun l =>
    { train := l.train, retryWait := l.retryWait, farNode := l.farNode, farPort := l.farPort, farEpoch := l.farEpoch, farMap := l.farMap, fcLower := l.fcLower, ackIdle := l.ackIdle, rttDone := l.rttDone, ackValid := l.ackValid, ackSent := l.ackSent, dupAt := l.dupAt, nakOut := l.nakOut, nakAt := l.nakAt, nakDue := l.nakDue, unacked := l.unacked, replayPos := l.replayPos, timerOn := l.timerOn, txq := l.txq, rxq := l.rxq.erase f, asmBytes := l.asmBytes, asmFlits := l.asmFlits, asmDrop := l.asmDrop, inband := l.inband, telLane := l.telLane, tel := l.tel, laneset := l.laneset, nextReq := l.nextReq, echoAt := l.echoAt, dozeSent := l.dozeSent, dozeAcked := l.dozeAcked, dozed := l.dozed, txQuiet := l.txQuiet, fenced := l.fenced, upSince := l.upSince, scan := l.scan, beacon := l.beacon, verify := l.verify, mapRate := l.mapRate, rxPhase := l.rxPhase, txPhase := l.txPhase, eq := l.eq, phaseAt := l.phaseAt, away := l.away, back := l.back, swap := l.swap, revert := l.revert, trainSeen := l.trainSeen, eyes := l.eyes, oldMap := l.oldMap }).link
    v.code).inband.length < 4)) ∧ (∃ (v : Via) (bytes : List Byte) (f : Flit) (s : State), (List.find? (fun f => decide (f.type = FlitType.cmd) &&
    decide (f.payload = bytes)) (s.link v.code).rxq = some f) ∧ (4 ≤ ((s.updLink v.code fun l =>
    { train := l.train, retryWait := l.retryWait, farNode := l.farNode, farPort := l.farPort, farEpoch := l.farEpoch, farMap := l.farMap, fcLower := l.fcLower, ackIdle := l.ackIdle, rttDone := l.rttDone, ackValid := l.ackValid, ackSent := l.ackSent, dupAt := l.dupAt, nakOut := l.nakOut, nakAt := l.nakAt, nakDue := l.nakDue, unacked := l.unacked, replayPos := l.replayPos, timerOn := l.timerOn, txq := l.txq, rxq := l.rxq.erase f, asmBytes := l.asmBytes, asmFlits := l.asmFlits, asmDrop := l.asmDrop, inband := l.inband, telLane := l.telLane, tel := l.tel, laneset := l.laneset, nextReq := l.nextReq, echoAt := l.echoAt, dozeSent := l.dozeSent, dozeAcked := l.dozeAcked, dozed := l.dozed, txQuiet := l.txQuiet, fenced := l.fenced, upSince := l.upSince, scan := l.scan, beacon := l.beacon, verify := l.verify, mapRate := l.mapRate, rxPhase := l.rxPhase, txPhase := l.txPhase, eq := l.eq, phaseAt := l.phaseAt, away := l.away, back := l.back, swap := l.swap, revert := l.revert, trainSeen := l.trainSeen, eyes := l.eyes, oldMap := l.oldMap }).link
    v.code).inband.length)) ∧ (∃ (p : Packet) (s : State) (o : Nat), s.accepts portTrainDef p o ∧ p.w 0 = 0) ∧ (∃ (p : Packet) (s : State) (o : Nat),
    s.accepts portTrainDef p o ∧ p.w 0 ≠ 0 ∧ (s.begun p).f (F.LINK_STAT_STATE p.unit) ≠ 3) :=
  ⟨⟨.port 143, zeros 32, cmdIn, lnk { rxq := [cmdIn] }, by decide +kernel⟩,
⟨.port 143, zeros 32, cmdIn, lnk { rxq := [cmdIn], inband := [1, 2, 3, 4] }, by decide +kernel⟩,
⟨pk 0x8F02 [0], up.setFs [(F.LINK_STAT_STATE 143, 3)], 3, by decide +kernel⟩,
⟨pk 0x8F02 [1], up.setFs [(F.LINK_STAT_STATE 143, 2)], 3, by decide +kernel⟩⟩

theorem witness_PortCommands_2 : (∃ (p : Packet) (s : State) (o : Nat), s.accepts portLanesetDef p o) ∧ (∃ (p : Port) (s : State) (id : Nat),
    s.resetRun 2 p.val = some id) ∧ (∃ (p : Packet) (s : State) (o : Nat), s.accepts portTrainDef p o ∧ p.w 0 ≠ 0 ∧ (s.begun p).f (F.LINK_STAT_STATE
    p.unit) = 3) :=
  ⟨⟨pk 0x8F02 [4, 3, 0x03020100, 0, 0, 0], up.setFs (lanes4), 3, by decide +kernel⟩,
⟨143, running up (runs (pk 0x8F02 [1]) 0x120), 9, by decide +kernel⟩,
⟨pk 0x8F02 [1], up.setFs [(F.LINK_STAT_STATE 143, 3)], 3, by decide +kernel⟩⟩

theorem witness_RingsAndReference : (∃ (t : Tile) (n : BitVec 12) (s : State) (head : BitVec 8) (ofs : List (BitVec 12)) (c : Fin 8) (tj : BitVec 8),
    s.ring t.val n.toNat = RingState.locked ∧ head.toNat < 20 ∧ s.canonical ∧ ofs.length = 48 ∧ s.f (F.LAS_STAT_STATE t.val c.val) = 1 ∧ c.val < 6 ∧
    Map.find c.val (s.ph t.val).subst = none ∧ Map.find (s.f (F.LAS_STAT_ROLE t.val c.val)) ((((s.setFs [(F.LAS_STAT_TJ t.val c.val, tj.toNat),
    (F.LAS_STAT_STATE t.val c.val, 0), (F.LAS_STAT_ROLE t.val c.val, 7), (F.LAS_BIAS_BIAS t.val c.val, 0)]).note 2 RecEv.laserOvertemp 3 (tgtTile
    t.val) ↑tj.toNat).raise t.val 6 ↑tj.toNat).ph t.val).subst = none) ∧ (∃ (t : Tile) (n : BitVec 12) (s : State), s.ring t.val n.toNat =
    RingState.search) :=
  ⟨⟨47, 0, pho { ringBase := .locked } [(F.GRID_STAT_REF_OK 0, 1), (F.LAS_STAT_STATE 47 5, 1)], 19, List.replicate 48 4095, 5, 255, by decide +kernel⟩,
⟨47, 4095, pho { ringBase := .search }, by decide +kernel⟩⟩

theorem witness_FadesAndMonitors : (∃ (p : Packet) (o : Nat) (s : State), s.accepts phoMonReadDef p o ∧ s.accepts phoCommissionDef p o ∧ p.kind = 2 ∧
    Map.rising (s.begun p).photoNv = true ∧ Map.rising ((s.begun p).phNv (p.unit / 3)).comm = true) ∧ (∃ (p : Packet) (o : Nat) (s : State), s.accepts
    phoRefmonDef p o) ∧ (∃ (t : Nat) (r : Nat) (s : State) (f : Nat), r < 6 ∧ s.f (F.FADE_STAT_STAGE t r) = 1 ∧ s.canonical ∧ 300 ≤ f) ∧ (∃ (t : Nat)
    (r : Nat) (s : State) (f : Nat), r < 6 ∧ s.f (F.FADE_STAT_STAGE t r) = 1 ∧ s.canonical ∧ 200 ≤ f ∧ f < 300 ∧ s.substDue t r f false = false) :=
  ⟨⟨pk 0x8F02 [], 3, pho { ringBase := .locked } [(F.EYESAFE_LOS 47 2, 0)], by decide +kernel⟩,
⟨pk 0x2F01 [7], 3, up, by decide +kernel⟩,
⟨(47 : Nat), (5 : Nat), up.setFs [(F.FADE_STAT_STAGE 47 5, 1)], (300 : Nat), by decide +kernel⟩,
⟨(47 : Nat), (5 : Nat), up.setFs [(F.FADE_STAT_STAGE 47 5, 1)], (299 : Nat), by decide +kernel⟩⟩

theorem witness_Substitution_1 : (∃ (t : Tile) (r : Fin 6) (i : Fin 64) (x : Subst) (rest : List Nat) (s : State), Map.find r.val (s.ph t.val).subst =
    some x ∧ x.todo = i.val :: rest ∧ s.f (F.FADE_STAT_STAGE t.val r.val) = 5 ∧ r.val ≠ 3 ∧ r.val < 3 ∧ s.linkKeeps (3 * t.val + r.val) = false) ∧ (∃
    (t : Tile) (u : Fin 2) (e : Nat × Subst) (s : State), (List.find? (fun e => e.2.target == 6 + u.val && !e.2.restore) (s.ph t.val).subst = some e)
    ∧ s.f (F.LAS_STAT_STATE t.val (6 + u.val)) = 1) ∧ (∃ (t : Tile) (u : Fin 2) (s : State), (List.find? (fun e => e.2.target == 6 + u.val &&
    !e.2.restore) (s.ph t.val).subst = none)) ∧ (∃ (t : Tile) (c : Fin 8) (x : Subst) (fade : BitVec 12) (s : State), c.val < 6 ∧ s.f
    (F.LAS_STAT_STATE t.val c.val) = 1 ∧ Map.find c.val (s.ph t.val).subst = some x ∧ x.restore = true ∧ fade.toNat < 100) :=
  ⟨⟨47, 1, 3, { target := 7, todo := [3, 4], restore := false, run := none }, [4], pho
    { subst := [(1, { target := 7, todo := [3, 4], restore := false, run := none })] } [(F.FADE_STAT_STAGE 47 1, 5)], by decide +kernel⟩,
⟨47, 1, (5, { target := 7, todo := [33], restore := false, run := none }), pho
    { subst := [(5, { target := 7, todo := [33], restore := false, run := none })] } [(F.LAS_STAT_STATE 47 7, 1)], by decide +kernel⟩,
⟨47, 1, up, by decide +kernel⟩,
⟨47, 5, { target := 5, todo := [33], restore := true, run := some 9 }, 99, pho
    { subst := [(5, { target := 5, todo := [33], restore := true, run := some 9 })] } [(F.LAS_STAT_STATE 47 5, 1)], by decide +kernel⟩⟩

theorem witness_Substitution_2 : (∃ (t : Nat) (u : Nat) (s : State), s.freeSub t = some u) ∧ (∃ (t : Nat) (s : State), s.freeSub t = none) ∧ (∃ (p :
    Packet) (o : Nat) (s : State), s.accepts phoSubstituteDef p o) ∧ (∃ (p : Packet) (o : Nat) (s : State), s.accepts phoRestoreDef p o) :=
  ⟨⟨(47 : Nat), (6 : Nat), up, by decide +kernel⟩,
⟨(47 : Nat), up.setFs [(F.SUB_MAP_SUB0_FOR 47, 0), (F.SUB_MAP_SUB1_FOR 47, 1)], by decide +kernel⟩,
⟨pk 0x2F01 [5], 3, up, by decide +kernel⟩,
⟨pk 0x2F01 [5], 3, up.setFs [(F.FADE_STAT_STAGE 47 5, 6)], by decide +kernel⟩⟩

theorem witness_Substitution_3 : (∃ (t : Tile) (r : Fin 6) (i : Fin 64) (x : Subst) (rest : List Nat) (s : State), Map.find r.val (s.ph t.val).subst =
    some x ∧ x.todo = i.val :: rest ∧ s.f (F.FADE_STAT_STAGE t.val r.val) = 5 ∧ r.val < 3 ∧ s.linkUp (3 * t.val + r.val) = true ∧ (s.link (3 * t.val +
    r.val)).laneset = none ∧ s.laneRunOn (3 * t.val + r.val) = false ∧ i.val ≠ 16 ∧ ((s.outFirst (3 * t.val + r.val)).mapLanes (3 * t.val +
    r.val)).contains i.val = false ∧ ((s.outFirst (3 * t.val + r.val)).link (3 * t.val + r.val)).verified i.val = some true) ∧ (∃ (t : Tile) (r : Fin
    6) (i : Fin 64) (x : Subst) (rest : List Nat) (s : State), Map.find r.val (s.ph t.val).subst = some x ∧ x.todo = i.val :: rest ∧ s.f
    (F.FADE_STAT_STAGE t.val r.val) = 5 ∧ r.val = 3 ∧ s.runBars t.val 3 = false) ∧ (∃ (t : Tile) (r : Fin 6) (i : Fin 64) (x : Subst) (rest : List
    Nat) (s : State), Map.find r.val (s.ph t.val).subst = some x ∧ x.todo = i.val :: rest ∧ s.f (F.FADE_STAT_STAGE t.val r.val) = 5 ∧ 4 ≤ r.val ∧
    s.runBars t.val r.val = false ∧ x.held = true ∧ 32 ≤ i.val) :=
  ⟨⟨47, 2, 3, { target := 7, todo := [3, 4], restore := false, run := none }, [4], (pho
    { subst := [(2, { target := 7, todo := [3, 4], restore := false, run := none })] } [(F.FADE_STAT_STAGE 47 2, 5), (F.LINK_STAT_STATE 143,
    3)]).updLink 143 (fun l => { l with verify := [(3, (0, 0))] }), by decide +kernel⟩,
⟨47, 3, 33, { target := 7, todo := [33], restore := false, run := none }, [], pho
    { subst := [(3, { target := 7, todo := [33], restore := false, run := none })] } [(F.FADE_STAT_STAGE 47 3, 5)], by decide +kernel⟩,
⟨47, 5, 33, { target := 7, todo := [33], restore := false, run := none, held := true }, [], pho
    { subst := [(5, { target := 7, todo := [33], restore := false, run := none, held := true })] } [(F.FADE_STAT_STAGE 47 5, 5)], by decide +kernel⟩⟩

theorem witness_TimetableRoutes : (∃ (x : Nat) (p : Nat) (y : Nat) (s : State), x < 48 ∧ p < 16 ∧ y < 48 ∧ s.crownMap.started = false) ∧ (∃ (s :
    State), s.crownMap.started = true) :=
  ⟨⟨47, 15, 0, up, by decide +kernel⟩,
⟨{ up with crownMap := { started := true } }, by decide +kernel⟩⟩

theorem witness_CellsRoundTrip : ∃ (c : Cell) (a : Eack) (cells : List Cell), c.ctype < 8 ∧ c.cvc < 4 ∧ c.orig < 64 ∧ c.final < 64 ∧ c.eseq < 1024 ∧
    c.payload.length ≤ 232 ∧ a.eack < 1024 ∧ cells.length ≤ 3 :=
  ⟨{ ctype := 2, cvc := 2, orig := 47, final := 0, eseq := 1023, payload := List.replicate 232 255 }, { eack := 1023 }, [], by decide +kernel⟩

theorem witness_CrownTraffic_1 : (∃ (t : Nat) (c : Cell) (s : State), (s.cr t).stale.contains c = false ∧ c.eseq = (s.rxFlow t c.orig c.cvc).next ∧
    (s.rxFlow t c.orig c.cvc).next < 1024 ∧ (s.rxFlow t c.orig c.cvc).held = [] ∧ s.viaBrim t c.orig = false ∧ c.cvc < 4 ∧ (s.cr t).relay.length <
    8192) ∧ (∃ (x : Nat) (p : Nat) (s : State), (s.mayTransmit x p = false ∨ s.planeDead x (destOf x p s.crownMap.slot) p = true ∨ s.asleep (destOf x
    p s.crownMap.slot) = true)) ∧ (∃ (t : Tile) (p : Fin 16) (body : List Byte) (s : State) (cw : List Byte), s.crownMap.started = true ∧ s.f
    (F.CROWN_STAT_STATE t.val) ≠ 0 ∧ (s.f (F.CROWN_DEAD_RX_DEAD t.val)).testBit p.val = false ∧ body.length = 768 ∧ (rsDecode (fun b => cellCrcOk
    (List.take 240 b)) cw = none)) ∧ (∃ (t : Nat) (c : Cell) (s : State), (s.cr t).stale.contains c = false ∧ (256 ≤ (c.eseq + 1024 - (s.rxFlow t
    c.orig c.cvc).next) % 1024 ∨ ((s.rxFlow t c.orig c.cvc).held.any fun x => x.eseq == c.eseq) = true) ∧ 8192 ≤ (s.cr t).relay.length) :=
  ⟨⟨(47 : Nat), cell 1023, crn { rx := [(flowKey 0 1, { next := 1023 })] }, by decide +kernel⟩,
⟨3, (15 : Fin 16), crn {} [(F.CROWN_STAT_STATE 47, 2)], by decide +kernel⟩,
⟨47, (15 : Fin 16), List.replicate 768 0, crn {} [(F.CROWN_STAT_STATE 47, 2)], [], by decide +kernel⟩,
⟨(47 : Nat), cell 3, crn { relay := List.replicate 8192 (cell 2), rx := [(flowKey 0 1, { held := [cell 3] })] }, by decide +kernel⟩⟩

theorem witness_CrownTraffic_2 : (∃ (t : Tile) (o : Tile) (vc : Fin 3) (s : State), ((s.rxFlow t.val o.val vc.val).held = [] ∨ s.slotsPast (s.rxFlow
    t.val o.val vc.val).since (s.f (F.CROWN_CTL_HOLD t.val)) = false ∨ ∃ a, (s.rxFlow t.val o.val vc.val).enakAt = some a ∧ s.slotsPast a (s.f
    (F.CROWN_CTL_HOLD t.val)) = false) ∧ ((s.txFlow t.val o.val vc.val).unacked = [] ∨ s.slotsPast (s.txFlow t.val o.val vc.val).since (s.f
    (F.CROWN_CTL_RTO t.val)) = false)) ∧ (∃ (t : Nat) (a : Nat) (s : State), s.f (F.CROWN_STAT_STATE t) = 1 ∧ (s.cr t).align = some a ∧ s.startTrace1
    t = false ∧ (s.bl t).traceCrown = false ∧ s.canonical ∧ a ≤ s.crownMap.slot) ∧ (∃ (t : Tile) (o : Tile) (vc : Fin 3) (s : State), (s.rxFlow t.val
    o.val vc.val).held ≠ [] ∧ s.slotsPast (s.rxFlow t.val o.val vc.val).since (s.f (F.CROWN_CTL_HOLD t.val)) = true ∧ (∀ (a : Nat), (s.rxFlow t.val
    o.val vc.val).enakAt = some a → s.slotsPast a (s.f (F.CROWN_CTL_HOLD t.val)) = true) ∧ s.viaBrim t.val o.val = false ∧ (s.txFlow t.val o.val
    vc.val).unacked ≠ [] ∧ s.slotsPast (s.txFlow t.val o.val vc.val).since (s.f (F.CROWN_CTL_RTO t.val)) = true) ∧ (∃ (x : Nat) (p : Nat) (cells :
    List Cell) (s : State) (s1 : State), s.mayTransmit x p = true ∧ s.planeDead x (destOf x p s.crownMap.slot) p = false ∧ s.asleep (destOf x p
    s.crownMap.slot) = false ∧ s.probing x = false ∧ s.probing (destOf x p s.crownMap.slot) = false ∧ s.f (F.CROWN_STAT_STATE (destOf x p
    s.crownMap.slot)) ≠ 1 ∧ s.cellsTo x (destOf x p s.crownMap.slot) 3 = (cells, s1) ∧ s1.f (F.CROWN_CTL_RELAY_EN x) = 0 ∧ cells ≠ []) :=
  ⟨⟨(47 : Tile), (0 : Tile), 1, up, by decide +kernel⟩,
⟨(47 : Nat), (0 : Nat), crn { align := some 0 } [(F.CROWN_STAT_STATE 47, 1)], by decide +kernel⟩,
⟨(47 : Tile), (0 : Tile), 1,
    { crn { rx := [(flowKey 0 1, { held := [cell 3] })], tx := [(flowKey 0 1, { unacked := [cell 3] })] } with crownMap := { started := true, slot := 100000 } },
    by decide +kernel⟩,
⟨(0 : Nat), (0 : Nat), (crownQ.cellsTo 0 1 3).1, crownQ, (crownQ.cellsTo 0 1 3).2, by decide +kernel⟩⟩

theorem witness_CrownTraffic_3 : (∃ (t : Tile) (p : Fin 16) (s : State), (s.crownMap.started = false ∨ s.f (F.CROWN_STAT_STATE t.val) = 0 ∨ (s.f
    (F.CROWN_DEAD_RX_DEAD t.val)).testBit p.val = true)) ∧ (∃ (t : Tile) (d : Tile) (ps : Nat × Nat) (s : State), (List.find? (fun ps => ps.1 ==
    s.crownMap.slot % 3 && s.mayTransmit t.val ps.2 && !s.planeDead t.val d.val ps.2) (pairSlots t.val d.val) = some ps) ∧ s.crownMap.started = true ∧
    s.asleep d.val = false ∧ Map.get 0 (s.cr t.val).last d.val + 192 ≤ s.crownMap.slot) ∧ (∃ (t : Tile) (s : State), s.canonical ∧ s.dueMarks t.val =
    (0, 0) ∧ s.dozing t.val = false) ∧ (∃ (x : Nat) (p : Nat) (s : State), s.mayTransmit x p = true ∧ s.planeDead x (destOf x p s.crownMap.slot) p =
    false ∧ s.asleep (destOf x p s.crownMap.slot) = false ∧ (s.probing x = true ∨ s.probing (destOf x p s.crownMap.slot) = true)) :=
  ⟨⟨47, (15 : Fin 16), up, by decide +kernel⟩,
⟨(47 : Tile), (0 : Tile), (0, 0), { crn {} [(F.CROWN_STAT_STATE 47, 2), (F.CROWN_CTL_EN 47, 1)] with crownMap := { started := true, slot := 192 } },
    by decide +kernel⟩,
⟨(47 : Tile), crn {} [(F.CROWN_CTL_EN 47, 1)], by decide +kernel⟩,
⟨(0 : Nat), (0 : Nat),
    { (up.setFs [(F.CROWN_STAT_STATE 0, 1), (F.CROWN_CTL_EN 0, 1)]).updCr 0 (fun _ => { align := some 5 }) with crownMap := { started := true } },
    by decide +kernel⟩⟩

theorem witness_CrownTraffic_4 : (∃ (t : Nat) (a : Nat) (s : State), s.f (F.CROWN_STAT_STATE t) = 1 ∧ (s.cr t).align = some a ∧ s.startTrace1 t =
    false ∧ (s.bl t).traceCrown = false ∧ s.canonical ∧ s.crownMap.slot < a) ∧ (∃ (t : Nat) (c : Cell) (s : State), (s.cr t).stale.contains c = true)
    :=
  ⟨⟨(47 : Nat), (5 : Nat), crn { align := some 5 } [(F.CROWN_STAT_STATE 47, 1)], by decide +kernel⟩,
⟨(47 : Nat), cell 3, crn { stale := [cell 3] }, by decide +kernel⟩⟩

theorem witness_BrimLinks_1 : (∃ (t : Nat) (e : Nat) (u : Nat) (d : Nat) (s : State), brimPeer t e = some (u, d) ∧ s.canonical ∧ t < 48 ∧ e < 2) ∧ (∃
    (t : Tile) (e : Fin 2) (bytes : List Byte) (ue : BitVec 8) (s : State), s.f (F.BRIM_STAT_STATE t.val e.val) = 2 ∧ (s.br t.val e.val).testing =
    false ∧ ue = 0 ∧ bytes.length = 256 ∧ (List.countP (fun b => decide (s.bell < b + s.f (F.BRIM_CTL_UE_WIN t.val e.val) * 1000000)) (s.br t.val
    e.val).ueTimes ≤ s.ueLimit t.val e.val)) ∧ (∃ (p : Packet) (o : Nat) (s : State) (u : Nat) (d : Nat), s.accepts brimFenceDef p o ∧ (s.begun p).f
    (F.BRIM_STAT_STATE p.unit (p.w 0)) = 3 ∧ s.accepts brimUnfenceDef p o ∧ brimPeer p.unit (p.w 0) = some (u, d)) ∧ (∃ (t : Tile) (e : Fin 2) (s :
    State), (s.f (F.BRIM_STAT_STATE t.val e.val) ≠ 2 ∨ (s.br t.val e.val).testing = true)) :=
  ⟨⟨(0 : Nat), (1 : Nat), (1 : Nat), (0 : Nat), up, by decide +kernel⟩,
⟨(0 : Tile), (1 : Fin 2), List.replicate 256 0, 0, brm {} 2, by decide +kernel⟩,
⟨pk 0x0001 [1], 3, brm {} 3, 1, 0, by decide +kernel⟩,
⟨(0 : Tile), (1 : Fin 2), brm {} 3, by decide +kernel⟩⟩

theorem witness_BrimLinks_2 : (∃ (t : Tile) (e : Fin 2) (ue : BitVec 8) (s : State), s.f (F.BRIM_STAT_STATE t.val e.val) = 2 ∧ (s.br t.val
    e.val).testing = false ∧ ue ≠ 0) ∧ (∃ (t : Tile) (e : Fin 2) (s : State), s.f (F.BRIM_STAT_STATE t.val e.val) = 2 ∧ (s.ueLimit t.val e.val <
    List.countP (fun b => decide (s.bell < b + s.f (F.BRIM_CTL_UE_WIN t.val e.val) * 1000000)) (s.br t.val e.val).ueTimes)) ∧ (∃ (p : Packet) (o :
    Nat) (s : State), s.accepts brimFenceDef p o ∧ (s.begun p).f (F.BRIM_STAT_STATE p.unit (p.w 0)) ≠ 3) ∧ (∃ (t : Tile) (e : Fin 2) (ue : BitVec 16)
    (ce : BitVec 16) (fue : BitVec 16) (fce : BitVec 16) (id : Nat) (u : Nat) (d : Nat) (s : State), s.canonical ∧ (s.br t.val e.val).testRun = some
    id ∧ brimPeer t.val e.val = some (u, d) ∧ ue.toNat = 0 ∧ fue.toNat = 0 ∧ ce.toNat ≤ 16 ∧ fce.toNat ≤ 16) :=
  ⟨⟨(0 : Tile), (1 : Fin 2), 1, brm {} 2, by decide +kernel⟩,
⟨(0 : Tile), (1 : Fin 2), brm { ueTimes := List.replicate 70 0 } 2 [(F.BRIM_CTL_UE_WIN 0 1, 1)], by decide +kernel⟩,
⟨pk 0x0001 [1], 3, brm {} 2, by decide +kernel⟩,
⟨(0 : Tile), (1 : Fin 2), 0, 16, 0, 16, 9, 1, 0, brm { testRun := some 9, testing := true } 3, by decide +kernel⟩⟩

theorem witness_BrimLinks_3 : (∃ (t : Tile) (e : Fin 2) (ue : BitVec 16) (ce : BitVec 16) (fue : BitVec 16) (fce : BitVec 16) (id : Nat) (u : Nat) (d
    : Nat) (s : State), s.canonical ∧ (s.br t.val e.val).testRun = some id ∧ brimPeer t.val e.val = some (u, d) ∧ 0 < ue.toNat ∧ fue.toNat ≤ ue.toNat
    ∧ (fue = ue → fce.toNat ≤ ce.toNat)) ∧ (∃ (t : Tile) (s : State), (s.f (F.OME_STAT_STATE t.val) = 8 ∨ s.f (F.FSTATE_STATE t.val) = 4)) :=
  ⟨⟨(0 : Tile), (1 : Fin 2), 1, 16, 1, 16, 9, 1, 0, brm { testRun := some 9, testing := true, failTimes := [1, 2, 3] } 3, by decide +kernel⟩,
⟨(12 : Tile), up.setFs [(F.OME_STAT_STATE 12, 8)], by decide +kernel⟩⟩

theorem witness_StreamLifecycle_1 : (∃ (p : Packet) (o : Nat) (key : Nat) (c : Machine.Stream) (s : State), s.accepts streamQueryDef p o ∧ (s.begun
    p).liveKey (p.w 0) = some key ∧ (s.begun p).stream key = some c ∧ s.mirrors = false ∧ Map.rising s.streams.slots = true) ∧ (∃ (h : BitVec 32) (key
    : Nat) (c : Machine.Stream) (s : State), s.liveKey h.toNat = some key ∧ s.stream key = some c ∧ (c.state ≠ StreamState.closing ∨ ¬(s.allAcked key
    = true ∧ c.waiting = [] ∧ (s.pool.held.any fun x => x.stream == some key) = false) ∧ s.bell < c.stateAt + 100000) ∧ s.bell < c.stateAt + s.f
    (F.STRM_CTL_SUSPEND_TMO (s.homeServer (key / 2 ^ 15))) * 1000000 ∧ c.state = StreamState.onAlt ∧ s.upTo c.pri c.epNode = true ∧ (s.link
    c.pri).upSince + s.f (F.STRM_CTL_RETURN_HOLD (s.homeServer (key / 2 ^ 15))) * 100000 ≤ s.bell) ∧ (∃ (p : Packet) (o : Nat) (s : State), (s.begun
    p).mirrors = false ∧ s.accepts reserveReleaseDef p o ∧ (s.begun p).f (F.TILE_ROLE_RELEASED p.unit) = 0 ∧ s.accepts reserveReturnDef p o ∧ (s.begun
    p).f (F.TILE_ROLE_STANDIN p.unit) = 0) ∧ (∃ (p : Packet) (o : Nat) (s : State), (s.begun p).mirrors = false ∧ s.accepts reserveReleaseDef p o ∧
    (s.begun p).f (F.TILE_ROLE_RELEASED p.unit) = 1 ∧ s.accepts reserveReturnDef p o ∧ ((s.begun p).f (F.TILE_ROLE_RELEASED p.unit) = 1 ∨ (s.begun
    p).f (F.TILE_ROLE_STANDIN p.unit) = 1)) :=
  ⟨⟨pk 0 [handle5], 3, key5, ctx .open_, strm (ctx .open_), by decide +kernel⟩,
⟨BitVec.ofNat 32 handle5, key5, ctx .onAlt (some 0), strm (ctx .onAlt (some 0)) { farNode := 7 } [(F.STRM_CTL_RETURN_HOLD 5, 0)], by decide +kernel⟩,
⟨pk 0x2301 [], 3, up, by decide +kernel⟩,
⟨pk 0x2301 [], 3, up.setF (F.TILE_ROLE_RELEASED 35) 1, by decide +kernel⟩⟩

theorem witness_StreamLifecycle_2 : (∃ (p : Packet) (o : Nat) (home : Nat) (s : State), s.accepts streamOpenDef p o ∧ (s.begun p).mirrors = false ∧
    (s.begun p).twin.want = none ∧ ((s.begun p).autoHome (openPri p) (if p.w 2 ≠ 255 then [p.w 2] else List.filter (fun t => !(s.begun p).homeFailed
    t) (s.begun p).homeTiles) = some home) ∧ (∃ i < slotsPerTile, (s.begun p).stream (slotKey home i) = none) ∧ home < 64) ∧ (∃ (p : Packet) (o : Nat)
    (s : State), s.accepts streamOpenDef p o ∧ (s.begun p).mirrors = false ∧ (s.begun p).twin.want = none ∧ ((s.begun p).autoHome (openPri p) (if p.w
    2 ≠ 255 then [p.w 2] else List.filter (fun t => !(s.begun p).homeFailed t) (s.begun p).homeTiles) = none) ∧ ((s.begun p).reclaimPick (if p.w 2 ≠
    255 then [p.w 2] else List.filter (fun t => !(s.begun p).homeFailed t) (s.begun p).homeTiles) = none)) ∧ (∃ (p : Packet) (o : Nat) (key : Nat) (c
    : Machine.Stream) (s : State), s.accepts streamCloseDef p o ∧ (s.begun p).liveKey (p.w 0) = some key ∧ (s.begun p).stream key = some c ∧ (p.w 1 =
    1 ∨ c.state = StreamState.faulted)) ∧ (∃ (p : Packet) (o : Nat) (key : Nat) (c : Machine.Stream) (s : State), s.accepts streamCloseDef p o ∧
    (s.begun p).liveKey (p.w 0) = some key ∧ (s.begun p).stream key = some c ∧ p.w 1 = 0 ∧ c.state ≠ StreamState.faulted) :=
  ⟨⟨openPk 5, 3, 5, strm (ctx .open_), by decide +kernel, by decide +kernel, by decide +kernel, by decide +kernel, ⟨0, by decide +kernel⟩,
    by decide +kernel⟩,
⟨openPk 0xFF, 3, strm (ctx .open_) { farNode := 7 } (allTiles.map (fun t => (F.FSTATE_STATE t, 4))), by decide +kernel⟩,
⟨pk 0 [handle5, 1], 3, key5, ctx .open_, strm (ctx .open_), by decide +kernel⟩,
⟨pk 0 [handle5, 0], 3, key5, ctx .closing, strm (ctx .closing), by decide +kernel⟩⟩

theorem witness_StreamLifecycle_3 : (∃ (h : BitVec 32) (key : Nat) (c : Machine.Stream) (s : State), s.liveKey h.toNat = some key ∧ s.stream key =
    some c ∧ c.state = StreamState.closing ∧ (s.allAcked key = true ∧ c.waiting = [] ∧ (s.pool.held.any fun x => x.stream == some key) = false ∨
    c.stateAt + 100000 ≤ s.bell)) ∧ (∃ (h : BitVec 32) (key : Nat) (c : Machine.Stream) (s : State), s.liveKey h.toNat = some key ∧ s.stream key =
    some c ∧ c.stateAt + s.f (F.STRM_CTL_SUSPEND_TMO (s.homeServer (key / 2 ^ 15))) * 1000000 ≤ s.bell ∧ c.state = StreamState.suspended) ∧ (∃ (h :
    BitVec 32) (key : Nat) (c : Machine.Stream) (s : State), s.liveKey h.toNat = some key ∧ s.stream key = some c ∧ c.stateAt + s.f
    (F.STRM_CTL_SUSPEND_TMO (s.homeServer (key / 2 ^ 15))) * 1000000 ≤ s.bell ∧ c.state = StreamState.faulted) ∧ (∃ (v : Via) (s : State), s.linkUp
    v.code = true) :=
  ⟨⟨BitVec.ofNat 32 handle5, key5, ctx .closing, strm (ctx .closing), by decide +kernel⟩,
⟨BitVec.ofNat 32 handle5, key5, ctx .suspended, strm (ctx .suspended) { farNode := 7 } [(F.STRM_CTL_SUSPEND_TMO 5, 0)], by decide +kernel⟩,
⟨BitVec.ofNat 32 handle5, key5, ctx .faulted, strm (ctx .faulted) { farNode := 7 } [(F.STRM_CTL_SUSPEND_TMO 5, 0)], by decide +kernel⟩,
⟨.port 143, { strm (ctx .open_) with streams := { notices := [{ epNode := 7, epQueue := 1, reason := 1 }] } }, by decide +kernel⟩⟩

theorem witness_StreamLifecycle_4 : ∃ (v : Via) (s : State), s.linkUp v.code = false :=
  ⟨.site 3, up, by decide +kernel⟩

theorem witness_StreamUnits_1 : (∃ (t : Nat) (mt : Nat) (a : Nat) (tu : Tu) (e : FamEntry) (s : State) (s1 : State), s.canonical ∧ s.resolve t tu.addr
    tu.data.length true = (Resolved.at_ mt a e, s1) ∧ tu.data ≠ [] ∧ e.migrating = false ∧ s1.memDown e.tile = false ∧ s1.gated e.tile = false ∧
    (linesOf a tu.data.length).any s1.poisoned = false) ∧ (∃ (p : Nat) (key : Nat) (tu : Tu) (c : Machine.Stream) (s : State), s.tuStream p tu =
    Except.ok (key, c) ∧ c.state = StreamState.faulted ∧ ((tu.aux + 2 ^ 32 - c.epFreed) % 2 ^ 32 = 0 ∨ 2 ^ 31 ≤ (tu.aux + 2 ^ 32 - c.epFreed) % 2 ^
    32)) ∧ (∃ (v : Via) (bytes : List Byte) (s : State) (s1 : State) (vc : Nat), s.popRx v.code vc (fitBytes 232 bytes) = some s1 ∧ vc = 0 ∧ (Tu.parse
    bytes).type = 1) ∧ (∃ (v : Via) (bytes : List Byte) (s : State) (s1 : State) (vc : Nat), s.popRx v.code vc (fitBytes 232 bytes) = some s1 ∧ vc = 0
    ∧ (Tu.parse bytes).type ∉ [1, 2, 3, 6, 9, 10, 16, 17, 18, 32]) :=
  ⟨⟨(47 : Nat), (5 : Nat), dramKey 5 3 64, tu 3 0 0 (9 * 2^49 + 64) [0, 7], ent, strm (ctx .open_), ((strm (ctx .open_)).resolve 47 (9 * 2^49 + 64) 2
    true).2, by decide +kernel⟩,
⟨143, key5, tu 1 5 0, ctx .faulted, strm (ctx .faulted), by decide +kernel⟩,
⟨.port 143, (tu 1 0 0 0 [1]).bytes, strm (ctx .open_) { farNode := 7, rxq := [rxTu 0 (tu 1 0 0 0 [1])] }, ((strm (ctx .open_)
    { farNode := 7, rxq := [rxTu 0 (tu 1 0 0 0 [1])] }).popRx 143 0 (tu 1 0 0 0 [1]).bytes).getD up, 0, by decide +kernel⟩,
⟨.port 143, (tu 0xFF 0 0).bytes, strm (ctx .open_) { farNode := 7, rxq := [rxTu 0 (tu 0xFF 0 0)] }, ((strm (ctx .open_)
    { farNode := 7, rxq := [rxTu 0 (tu 0xFF 0 0)] }).popRx 143 0 (tu 0xFF 0 0).bytes).getD up, 0, by decide +kernel⟩⟩

theorem witness_StreamUnits_2 : (∃ (v : Via) (bytes : List Byte) (s : State) (s1 : State) (vc : Nat), s.popRx v.code vc (fitBytes 232 bytes) = some s1
    ∧ vc = 0 ∧ (Tu.parse bytes).type = 2) ∧ (∃ (v : Via) (bytes : List Byte) (s : State) (s1 : State) (vc : Nat), s.popRx v.code vc (fitBytes 232
    bytes) = some s1 ∧ vc = 0 ∧ (Tu.parse bytes).type = 3) ∧ (∃ (v : Via) (bytes : List Byte) (s : State) (s1 : State) (vc : Nat), s.popRx v.code vc
    (fitBytes 232 bytes) = some s1 ∧ vc = 1 ∧ (Tu.parse bytes).type = 6) ∧ (∃ (p : Nat) (key : Nat) (tu : Tu) (c : Machine.Stream) (s : State),
    s.tuStream p tu = Except.ok (key, c) ∧ c.state ≠ StreamState.faulted ∧ 2 ^ 31 ≤ (tu.tsn + 2 ^ 32 - c.rx0) % 2 ^ 32) :=
  ⟨⟨.port 143, (tu 2 0 208 0x900000000).bytes, strm (ctx .open_) { farNode := 7, rxq := [rxTu 0 (tu 2 0 208 0x900000000)] }, ((strm (ctx .open_)
    { farNode := 7, rxq := [rxTu 0 (tu 2 0 208 0x900000000)] }).popRx 143 0 (tu 2 0 208 0x900000000).bytes).getD up, 0, by decide +kernel⟩,
⟨.port 143, (tu 3 0 0 0 [1]).bytes, strm (ctx .open_) { farNode := 7, rxq := [rxTu 0 (tu 3 0 0 0 [1])] }, ((strm (ctx .open_)
    { farNode := 7, rxq := [rxTu 0 (tu 3 0 0 0 [1])] }).popRx 143 0 (tu 3 0 0 0 [1]).bytes).getD up, 0, by decide +kernel⟩,
⟨.port 143, (tu 6 0 0).bytes, strm (ctx .open_) { farNode := 7, rxq := [rxTu 1 (tu 6 0 0)] }, ((strm (ctx .open_)
    { farNode := 7, rxq := [rxTu 1 (tu 6 0 0)] }).popRx 143 1 (tu 6 0 0).bytes).getD up, 1, by decide +kernel⟩,
⟨143, key5, tu 1 (2^31) 0, ctx .open_, strm (ctx .open_), by decide +kernel⟩⟩

theorem witness_StreamUnits_3 : (∃ (p : Nat) (key : Nat) (tu : Tu) (c : Machine.Stream) (s : State), s.tuStream p tu = Except.ok (key, c) ∧ c.state ≠
    StreamState.faulted ∧ 0 < (tu.tsn + 2 ^ 32 - c.rx0) % 2 ^ 32 ∧ (tu.tsn + 2 ^ 32 - c.rx0) % 2 ^ 32 < 2 ^ 31) ∧ (∃ (p : Nat) (key : Nat) (tu : Tu)
    (c : Machine.Stream) (s : State), s.tuStream p tu = Except.ok (key, c) ∧ c.state ≠ StreamState.faulted ∧ (tu.tsn + 2 ^ 32 - c.rx0) % 2 ^ 32 = 0 ∧
    ((tu.type = 2 ∨ tu.type = 3) ∧ c.reqCredits ≤ (c.reqs + 2 ^ 32 - c.executed) % 2 ^ 32 ∨ ¬(tu.type = 2 ∨ tu.type = 3) ∧ c.rxSlots ≤ c.dataUsed)) ∧
    (∃ (p : Nat) (key : Nat) (tu : Tu) (c : Machine.Stream) (s : State), s.tuStream p tu = Except.ok (key, c) ∧ c.state ≠ StreamState.faulted ∧
    (tu.tsn + 2 ^ 32 - c.rx0) % 2 ^ 32 = 0 ∧ (tu.type = 2 ∨ tu.type = 3) ∧ (c.reqs + 2 ^ 32 - c.executed) % 2 ^ 32 < c.reqCredits) ∧ (∃ (p : Nat) (key
    : Nat) (tu : Tu) (c : Machine.Stream) (s : State), s.tuStream p tu = Except.ok (key, c) ∧ c.state ≠ StreamState.faulted ∧ (tu.tsn + 2 ^ 32 -
    c.rx0) % 2 ^ 32 = 0 ∧ (¬(tu.type = 2 ∨ tu.type = 3)) ∧ c.dataUsed < c.rxSlots) :=
  ⟨⟨143, key5, tu 1 (2^31 - 1) 0, ctx .open_, strm (ctx .open_), by decide +kernel⟩,
⟨143, key5, tu 2 0 0, { ctx .open_ with reqs := 4 }, strm { ctx .open_ with reqs := 4 }, by decide +kernel⟩,
⟨143, key5, tu 2 0 8 (9 * 2^49 + 64), { ctx .open_ with reqs := 3 }, strm { ctx .open_ with reqs := 3 }, by decide +kernel⟩,
⟨143, key5, tu 1 0 0 0 [1], { ctx .open_ with written := 3 }, strm { ctx .open_ with written := 3 }, by decide +kernel⟩⟩

theorem witness_StreamUnits_4 : (∃ (tu : Tu), tu.type = 2 ∧ 208 < tu.aux) ∧ (∃ (tu : Tu) (s : State), tu.type = 2 ∧ tu.aux ≤ 208 ∧ (addrValid tu.addr
    = false ∨ s.ownNode (addrNode tu.addr) = false ∧ s.foreign tu.addr = false)) ∧ (∃ (t : Nat) (tu : Tu) (s : State) (e : FamEntry) (s1 : State),
    tu.type = 2 ∧ tu.aux ≤ 208 ∧ addrValid tu.addr = true ∧ s.ownNode (addrNode tu.addr) = true ∧ s.lookup t (addrIndex tu.addr) = (some e, s1) ∧
    e.kind = FamKind.unmapped) ∧ (∃ (t : Nat) (tu : Tu) (s : State) (e : FamEntry) (s1 : State), tu.type = 2 ∧ tu.aux ≤ 208 ∧ addrValid tu.addr = true
    ∧ s.ownNode (addrNode tu.addr) = true ∧ s.lookup t (addrIndex tu.addr) = (some e, s1) ∧ e.kind ≠ FamKind.unmapped ∧ 2 ^ 21 < addrByte tu.addr +
    tu.aux) :=
  ⟨⟨tu 2 0 209 0, by decide +kernel⟩,
⟨tu 2 0 208 (2^42), strm (ctx .open_), by decide +kernel⟩,
⟨(47 : Nat), tu 2 0 208 (9 * 2^49 + 2^21), strm (ctx .open_), {}, ((strm (ctx .open_)).lookup 47 1).2, by decide +kernel⟩,
⟨(47 : Nat), tu 2 0 2 (9 * 2^49 + 2^21 - 1), strm (ctx .open_), ent, ((strm (ctx .open_)).lookup 47 0).2, by decide +kernel⟩⟩

theorem witness_StreamUnits_5 : (∃ (t : Nat) (tu : Tu) (s : State) (e : FamEntry) (s1 : State), tu.type = 2 ∧ tu.aux ≤ 208 ∧ addrValid tu.addr = true
    ∧ s.ownNode (addrNode tu.addr) = true ∧ s.lookup t (addrIndex tu.addr) = (some e, s1) ∧ e.kind = FamKind.local_ ∧ addrByte tu.addr + tu.aux ≤ 2 ^
    21 ∧ tu.aux = 0) ∧ (∃ (t : Nat) (tu : Tu) (s : State) (e : FamEntry) (s1 : State), tu.type = 2 ∧ tu.aux ≤ 208 ∧ addrValid tu.addr = true ∧
    s.ownNode (addrNode tu.addr) = true ∧ s.lookup t (addrIndex tu.addr) = (some e, s1) ∧ e.kind = FamKind.local_ ∧ addrByte tu.addr + tu.aux ≤ 2 ^ 21
    ∧ 0 < tu.aux ∧ s1.memDown e.tile = false ∧ (linesOf (dramKey e.tile e.frame (addrByte tu.addr)) tu.aux).any s1.poisoned = false) ∧ (∃ (t : Nat)
    (tu : Tu) (s : State) (e : FamEntry) (s1 : State), tu.type = 2 ∧ tu.aux ≤ 208 ∧ addrValid tu.addr = true ∧ s.ownNode (addrNode tu.addr) = true ∧
    s.lookup t (addrIndex tu.addr) = (some e, s1) ∧ e.kind = FamKind.local_ ∧ addrByte tu.addr + tu.aux ≤ 2 ^ 21 ∧ 0 < tu.aux ∧ (s1.memDown e.tile =
    true ∨ (linesOf (dramKey e.tile e.frame (addrByte tu.addr)) tu.aux).any s1.poisoned = true)) ∧ (∃ (h : BitVec 32) (key : Nat) (c : Machine.Stream)
    (s : State), s.liveKey h.toNat = some key ∧ s.stream key = some c ∧ c.state ≠ StreamState.faulted ∧ c.unreported = 0) :=
  ⟨⟨(47 : Nat), tu 2 0 0 (9 * 2^49), strm (ctx .open_), ent, ((strm (ctx .open_)).lookup 47 0).2, by decide +kernel⟩,
⟨(47 : Nat), tu 2 0 1 (9 * 2^49 + 2^21 - 1), strm (ctx .open_), ent, ((strm (ctx .open_)).lookup 47 0).2, by decide +kernel⟩,
⟨(47 : Nat), tu 2 0 208 (9 * 2^49), strm (ctx .open_) {} [(F.MEM_STAT_STATE 5, 1)], ent, ((strm (ctx .open_) {} [(F.MEM_STAT_STATE 5, 1)]).lookup 47
    0).2, by decide +kernel⟩,
⟨BitVec.ofNat 32 handle5, key5, ctx .open_, strm (ctx .open_), by decide +kernel⟩⟩

theorem witness_StreamUnits_6 : ∃ (h : BitVec 32) (key : Nat) (c : Machine.Stream) (s : State), s.liveKey h.toNat = some key ∧ s.stream key = some c ∧
    c.state ≠ StreamState.faulted ∧ c.unreported ≠ 0 :=
  ⟨BitVec.ofNat 32 handle5, key5, { ctx .open_ with freed := 1 }, strm { ctx .open_ with freed := 1 }, by decide +kernel⟩

theorem witness_AddressMap : (∃ (p : Packet) (o : Nat) (s : State), s.accepts famMapDef p o ∧ Map.rising (s.begun p).pool.fam = true ∧ s.pool.invals =
    []) ∧ (∃ (p : Packet) (o : Nat) (s : State), s.accepts famReadDef p o) ∧ (∃ (s : State) (i : Inval) (rest : List Inval), s.pool.invals = i ::
    rest) :=
  ⟨⟨pk 0 [2097151, 0, 0, 0, 0], 3, mapped 2, by decide +kernel⟩,
⟨pk 0 [2097151, 1], 3, mapped 2, by decide +kernel⟩,
⟨(mapped 2).updPool (fun p => { p with invals := [{ base := 0, count := 1, kind := .map, run := some 9 }], cache := [(0, [(0, ent)])] }),
    { base := 0, count := 1, kind := .map, run := some 9 }, [], by decide +kernel⟩⟩

theorem witness_MemoryRegions_1 : (∃ (p : Packet) (o : Nat) (n : Nat) (r : Region) (s : State), Map.rising (s.begun p).pool.fam = true ∧ (s.begun
    p).regionOf (p.w 0) = some (n, r) ∧ s.accepts memFreeDef p o ∧ s.accepts memQueryDef p o) ∧ (∃ (n : Nat) (i : Inval) (s : State) (h : Nat), i.kind
    = InvalKind.free n ∧ Map.rising s.pool.regions = true ∧ h % 65536 = n) ∧ (∃ (p : Packet) (o : Nat) (s : State), s.accepts memAllocDef p o ∧
    (s.begun p).twin.want = none ∧ p.w 5 / 2 % 2 = 0 ∧ (∃ n < 65536, ((s.begun p).slot n).live = none)) ∧ (∃ (slot : BitVec 16) (x : Nat × Nat) (r :
    Region) (s : State), s.canonical ∧ Map.rising s.pool.fam = true ∧ (List.find? (fun x => x.1 == slot.toNat) s.pool.zeroing = some x) ∧ (s.slot
    slot.toNat).live = some r) :=
  ⟨⟨pk 0 [0x10000], 3, (0 : Nat), { base := 0, frames := 1, ro := false, ready := true }, mapped 2, by decide +kernel⟩,
⟨(0 : Nat), { base := 0, count := 1, kind := .free 0, run := none }, mapped 2, 0x10000, by decide +kernel⟩,
⟨pk 0 [2, 0, 0x60, 0, 2097150, 1], 3, mapped 2 ent [(F.MEM_STAT_STATE 6, 3)], by decide +kernel, by decide +kernel, by decide +kernel, ⟨1,
    by decide +kernel⟩⟩,
⟨0, (0, 9), { base := 0, frames := 1, ro := false, ready := false }, (mapped 2).updPool (fun p =>
    { p with regions := [(0, { gen := 1, live := some { base := 0, frames := 1, ro := false, ready := false } })], zeroing := [(0, 9)] }),
    by decide +kernel⟩⟩

theorem witness_MemoryRegions_2 : (∃ (p : Packet) (o : Nat) (n : Nat) (r : Region) (s : State), Map.rising (s.begun p).pool.fam = true ∧ (s.begun
    p).regionOf (p.w 0) = some (n, r) ∧ s.accepts memAttrDef p o) ∧ (∃ (p : Packet) (o : Nat) (s : State), s.accepts memPoolStatDef p o) :=
  ⟨⟨pk 0 [0x10000, 1], 3, (0 : Nat), { base := 0, frames := 1, ro := false, ready := true }, mapped 2, by decide +kernel⟩,
⟨pk 0 [], 3, mapped 2, by decide +kernel⟩⟩

theorem witness_MemoryMigration : (∃ (t : Tile) (m : Migration) (f : MigFrame) (rest : List MigFrame) (s : State), s.canonical ∧ Map.rising s.pool.fam = true ∧ m.todo = f :: rest ∧ (List.find? (fun m => decide (m.phase = MigPhase.pass1) && match m.todo with | f :: tail => f.srcTile == t.val | [] => false) s.pool.migs = some m) ∧ (s.famEntry f.index).migrating = false ∧ s.sec.switch = none ∧ (List.find? (fun m => decide (m.phase = MigPhase.hold) && match m.todo with | f :: tail => f.srcTile == t.val | [] => false) s.pool.migs = none)) ∧ (∃ (t : Tile) (m : Migration) (f : MigFrame) (rest : List MigFrame) (s : State), s.canonical ∧ Map.rising s.pool.fam = true ∧ m.todo = f :: rest ∧ (List.find? (fun m => decide (m.phase = MigPhase.hold) && match m.todo with | f :: tail => f.srcTile == t.val | [] => false) s.pool.migs = some m) ∧ (s.famEntry f.index).migrating = true ∧ (List.find? (fun m => decide (m.phase = MigPhase.pass1) && match m.todo with | f :: tail => f.srcTile == t.val | [] => false) s.pool.migs = none)) ∧ (∃ (p : Packet) (o : Nat) (n : Nat) (r : Region) (s : State), s.accepts memMigrateDef p o ∧ (s.begun p).regionOf (p.w 0) = some (n, r) ∧ (s.begun p).migPlan r (p.w 1) (p.w 2) (poolTiles p 3) = [] ∧ (s.begun p).mirrors = false) ∧ (∃ (p : Packet) (o : Nat) (n : Nat) (r : Region) (s : State), s.accepts memMigrateDef p o ∧ (s.begun p).regionOf (p.w 0) = some (n, r) ∧ (s.begun p).migPlan r (p.w 1) (p.w 2) (poolTiles p 3) ≠ []) :=
  ⟨⟨5, mig .pass1, ⟨0, 5, 3, 6, 0⟩, [], migrating .pass1, by decide +kernel⟩,
⟨5, mig .hold, ⟨0, 5, 3, 6, 0⟩, [], migrating .hold (ent false true), by decide +kernel⟩,
⟨pk 0 [0x10000, 0, 1, 0, 0x20, 0], 3, 0, { base := 0, frames := 1, ro := false, ready := true }, mapped 2, by decide +kernel⟩,
⟨pk 0 [0x10000, 0, 1, 0, 0x40, 0], 3, 0, { base := 0, frames := 1, ro := false, ready := true }, mapped 2 ent [(F.MEM_STAT_STATE 6, 2)],
    by decide +kernel⟩⟩

theorem witness_MemoryHealth_1 : (∃ (line : Nat) (s : State) (t : Nat) (key : Nat) (bs : List Byte), s.poisoned line = false ∧ bs ≠ [] ∧ s.memDown t =
    false ∧ s.gated t = false ∧ (∀ l ∈ linesOf key bs.length, s.poisoned l = true → key ≤ l * 64 ∧ l * 64 + 64 ≤ key + bs.length) ∧ s.canonical ∧
    s.pool.poison.Nodup) ∧ (∃ (t : Tile) (s : State), (s.f (F.MEM_STAT_STATE t.val) = 0 ∨ s.f (F.MEM_STAT_STATE t.val) = 4) ∧ s.f (F.MEM_STAT_STATE
    t.val) = 4 ∧ s.memBarred t.val = false ∧ s.canonical ∧ isReserve t.val = false) ∧ (∃ (line : Nat) (s : State) (t : Nat) (key : Nat) (bs : List
    Byte), s.poisoned line = true ∧ bs ≠ [] ∧ s.memDown t = false ∧ s.gated t = false ∧ (∃ l ∈ linesOf key bs.length, s.poisoned l = true ∧ (l * 64 <
    key ∨ key + bs.length < l * 64 + 64))) ∧ (∃ (t : Tile) (s : State), (s.f (F.MEM_CTL_SCRUB_HOURS t.val) = 0 ∨ s.f (F.MEM_STAT_STATE t.val) ≠ 2) ∧
    s.f (F.MEM_STAT_STATE t.val) ≠ 4) :=
  ⟨⟨line5, mapped 2, (5 : Nat), dramKey 5 3 64, [1], by decide +kernel⟩,
⟨(5 : Tile), mapped 4, by decide +kernel⟩,
⟨line5, poisoned, (5 : Nat), dramKey 5 3 64, [1], by decide +kernel⟩,
⟨(5 : Tile), mapped 2 ent [(F.MEM_CTL_SCRUB_HOURS 5, 0)], by decide +kernel⟩⟩

theorem witness_MemoryHealth_2 : (∃ (t : Nat) (bs : List Byte) (s : State), bs ≠ [] ∧ s.memDown t = true) ∧ (∃ (t : Nat) (bs : List Byte) (s : State),
    bs ≠ [] ∧ s.memDown t = false ∧ s.gated t = true) ∧ (∃ (t : Tile) (s : State), s.f (F.MEM_CTL_SCRUB_HOURS t.val) ≠ 0 ∧ s.f (F.MEM_STAT_STATE
    t.val) = 2 ∧ s.pool.migs = [] ∧ s.canonical ∧ Map.rising s.pool.scrubHi = true) ∧ (∃ (t : Tile) (s : State), s.f (F.MEM_STAT_STATE t.val) = 4 ∧
    (s.gated t.val = true ∨ (s.fence (t.val * 64 + 27)).on = true ∨ (s.fence (t.val * 64 + 39)).on = true ∨ (s.th t.val).memTrip = true ∨ s.f
    (F.TILE_TEST_STAT_MEM_OUT t.val) = 1)) :=
  ⟨⟨(5 : Nat), [1], mapped 1, by decide +kernel⟩,
⟨(5 : Nat), [1], mapped 2 ent [(F.FSTATE_STATE 5, 1)], by decide +kernel⟩,
⟨(5 : Tile), mapped 2 ent [(F.MEM_CTL_SCRUB_HOURS 5, 24)], by decide +kernel⟩,
⟨(5 : Tile), mapped 4 ent [(F.FSTATE_STATE 5, 1)], by decide +kernel⟩⟩

theorem witness_NumberFormats : (∃ (x : List Machine.Num) (range : Nat) (sum : Int) (w : Nat) (a : Nat) (b : Nat), x.length = 32 ∧ (convertBlock
    x).exp = 0 ∧ (convertBlock x).nonfinite = true ∧ range ≤ 8 ∧ sum < -↑(127 * 2 ^ (8 - range)) ∧ w < 2 ^ 32 ∧ w / 2 ^ 23 % 256 ≠ 255 ∧ w ≠ 2 ^ 31 ∧
    a < 2 ^ 32 ∧ b < 2 ^ 32) ∧ (∃ (range : Nat) (sum : Int), range ≤ 8 ∧ ↑(127 * 2 ^ (8 - range)) < sum) :=
  ⟨⟨List.replicate 31 (f32Num 0x3F800000) ++ [f32Num 0x7F800000], 0, (-32513), 0xFF7FFFFF, 0x7F800000, 0xFF800000, by decide +kernel⟩,
⟨8, 128, by decide +kernel⟩⟩

theorem witness_EnginePasses_1 : (∃ (t : Tile) (s : State) (pilot : BitVec 16) (w : PassWork), (s.f (F.OME_STAT_STATE t.val) ≠ 3 ∧ s.f
    (F.OME_STAT_STATE t.val) ≠ 4 ∨ (s.ome t.val).work ≠ none ∨ (s.ome t.val).paused ≠ 0 ∨ (s.ome t.val).traceReq = true ∨ (s.ome t.val).reacqReq =
    true ∨ (s.ome t.val).dozeReq = true ∨ s.startTrace1 t.val = true ∨ s.gated t.val = true ∨ s.nextWork t.val = none) ∧ (s.ome t.val).work = some w ∧
    s.f (F.OME_STAT_STATE t.val) = 4 ∧ s.canonical ∧ s.f (F.OME_CTL_PILOT_LIM t.val) * 10 < pilot.toNat ∧ (s.f (F.OME_STAT_STATE t.val) = 3 ∨ s.f
    (F.OME_STAT_STATE t.val) = 4) ∧ s.f (F.OME_STAT_STATE t.val) ≠ 5 ∧ ((s.ome t.val).work ≠ none ∨ s.f (F.OME_STAT_STATE t.val) = 5) ∧ s.f
    (F.OME_STAT_STATE t.val) ≠ 0 ∧ s.f (F.OME_STAT_STATE t.val) ≠ 8) ∧ (∃ (t : Tile) (b : Fin 2) (s : State), (s.f (F.OME_STAT_STATE t.val) ∈ [0, 1,
    8] ∨ (s.ome t.val).withdrawn.contains b.val = true ∨ (s.ome t.val).ready.contains b.val = true) ∧ (s.f (F.OME_STAT_STATE t.val) = 0 ∨ s.f
    (F.OME_STAT_STATE t.val) = 8)) ∧ (∃ (t : Tile) (s : State), ((s.ome t.val).work = none ∨ s.f (F.OME_STAT_STATE t.val) ≠ 4)) ∧ (∃ (t : Tile) (s :
    State), (s.f (F.OME_STAT_STATE t.val) = 2 ∨ s.f (F.OME_STAT_STATE t.val) = 5) ∧ s.f (F.OME_STAT_STATE t.val) = 5) :=
  ⟨⟨(5 : Tile), jobs (job .running (share true)) { work := some (.job 9) } 4 [(F.OME_CTL_PILOT_LIM 5, 50)], 0x7FFF, PassWork.job 9, by decide +kernel⟩,
⟨(5 : Tile), (1 : Fin 2), omeUp 8, by decide +kernel⟩,
⟨(5 : Tile), omeUp 3, by decide +kernel⟩,
⟨(5 : Tile), omeUp 5, by decide +kernel⟩⟩

theorem witness_EnginePasses_2 : (∃ (t : Tile) (s : State) (id : Nat) (j : Job) (sh : Share) (p : Nat) (cls : Nat) (bank : Nat), (s.f
    (F.OME_STAT_STATE t.val) = 3 ∨ s.f (F.OME_STAT_STATE t.val) = 4) ∧ (s.ome t.val).work = none ∧ (s.ome t.val).paused = 0 ∧ (s.ome t.val).traceReq =
    false ∧ (s.ome t.val).reacqReq = false ∧ (s.ome t.val).dozeReq = false ∧ s.startTrace1 t.val = false ∧ s.gated t.val = false ∧ s.nextWork t.val =
    some (PassWork.job id) ∧ s.passOf t.val (PassWork.job id) = some (p, cls) ∧ s.bankFor t.val p cls = some bank ∧ s.job id = some j ∧ s.shareAt
    t.val j = some sh ∧ sh.active = true ∧ j.state = JobState.running ∧ s.f (F.OME_CTL_CAL_STRICT t.val) = 0) ∧ (∃ (t : Tile) (b : Fin 2) (s : State),
    s.f (F.OME_STAT_STATE t.val) ∉ [0, 1, 8] ∧ (s.ome t.val).withdrawn.contains b.val = false ∧ (s.ome t.val).ready.contains b.val = false) ∧ (∃ (t :
    Tile) (pilot : BitVec 16) (s : State) (w : PassWork), (s.ome t.val).work = some w ∧ s.f (F.OME_STAT_STATE t.val) = 4 ∧ pilot.toNat ≤ s.f
    (F.OME_CTL_PILOT_LIM t.val) * 10 ∧ s.f (F.OME_STAT_PILOT_LOCK t.val) = 0) ∧ (∃ (t : Tile) (pilot : BitVec 16) (row : BitVec 7) (bank : Fin 2) (s :
    State) (w : PassWork) (id : Nat) (j : Job) (sh : Share), (s.ome t.val).work = some w ∧ s.f (F.OME_STAT_STATE t.val) = 4 ∧ w = PassWork.job id ∧
    pilot.toNat ≤ s.f (F.OME_CTL_PILOT_LIM t.val) * 10 ∧ s.f (F.OME_STAT_PILOT_LOCK t.val) = 1 ∧ ((s.notePilot t.val pilot.toNat row.toNat
    bank.val).countPass t.val w).job id = some j ∧ ((s.notePilot t.val pilot.toNat row.toNat bank.val).countPass t.val w).shareAt t.val j = some sh ∧
    j.state = JobState.running ∧ sh.active = true ∧ j.desc.cls ≤ sh.reads.length) :=
  ⟨⟨(5 : Tile), jobs (job .running (share true)) { ready := [1] }, 9, job .running (share true), share true, 0, 0, 1, by decide +kernel⟩,
⟨(5 : Tile), (1 : Fin 2), omeUp 3, by decide +kernel⟩,
⟨(5 : Tile), 500, jobs (job .running (share true)) { work := some (.job 9) } 4 [(F.OME_CTL_PILOT_LIM 5, 50)], PassWork.job 9, by decide +kernel⟩,
⟨(5 : Tile), 500, 64, 1, jobs (job .running (share true)) { work := some (.job 9) } 4 [(F.OME_CTL_PILOT_LIM 5, 50), (F.OME_STAT_PILOT_LOCK 5, 1)],
    PassWork.job 9, 9, { job .running (share true) with passes := 1, rflags := 2 }, share true, by decide +kernel⟩⟩

theorem witness_EnginePasses_3 : ∃ (t : Tile) (s : State) (c : SubChange), (s.ome t.val).work = none ∧ s.f (F.OME_STAT_STATE t.val) ≠ 5 ∧ (s.ome
    t.val).subs = [c] ∧ (s.ome t.val).traceReq = false ∧ (s.ome t.val).reacqReq = false ∧ (s.ome t.val).dozeReq = false :=
  ⟨(5 : Tile), subWaits ⟨2, some 31, 3⟩, (⟨2, some 31, 3⟩ : SubChange), by decide +kernel⟩

theorem witness_MatrixJobs_1 : (∃ (o : BitVec 16) (g : BitVec 16) (j : Job) (s : State), (List.find? (fun j => j.origin == o.toNat && j.tag == g.toNat
    && decide (j.state = JobState.running)) s.work.jobs = some j) ∧ j.shares.all j.shareDone = false ∧ j.desc.kind = 3 ∧ Map.get [] j.inq 0 ≠ [] ∧
    (List.find? (fun j => j.origin == o.toNat && j.tag == g.toNat && decide (j.state = JobState.mirrorWait)) s.work.jobs = none)) ∧ (∃ (id : Nat) (st
    : Nat) (det : Nat) (tile : Nat) (j : Job) (s : State) (x : Job), s.job id = some j ∧ (j.live = true ∨ j.state = JobState.mirrorWait) ∧ (s.endJob
    id st det tile).job id = some x ∧ (s.running id).isSome = true) ∧ (∃ (p : Packet) (o : Nat) (j : Job) (s : State), (s.begun p).jobNamed (p.w 0)
    (p.w 1) = some j ∧ s.accepts omeJobQueryDef p o ∧ s.accepts omeJobCancelDef p o) ∧ (∃ (p : Packet) (o : Nat) (s : State), s.accepts
    omeJobSubmitDef p o ∧ (s.begun p).mirrors = false ∧ (∀ k ∈ (s.begun p).streamKeys, ∀ (c : Machine.Stream), (s.begun p).stream k = some c →
    c.waiting = [])) :=
  ⟨⟨3, 7, projJob, jobs projJob, by decide +kernel⟩,
⟨9, 0x8401, 0, 255, job .running share, jobs (job .running share), (((jobs (job .running share)).endJob 9 0x8401 0 255).job 9).getD (job .running
    share), by decide +kernel⟩,
⟨pk 0 [3, 7], 3, job .running share, jobs (job .running share), by decide +kernel⟩,
⟨jobPk, 3, omeUp, by decide +kernel⟩⟩

theorem witness_MatrixJobs_2 : (∃ (o : BitVec 16) (g : BitVec 16) (j : Job) (s : State), (List.find? (fun j => j.origin == o.toNat && j.tag == g.toNat
    && decide (j.state = JobState.running)) s.work.jobs = some j) ∧ j.shares.all j.shareDone = true ∧ (j.mirrored = false ∨ s.mirrors = false) ∧
    (j.desc.kind ≠ 3 ∨ Map.get [] j.inq 0 = [])) ∧ (∃ (o : BitVec 16) (g : BitVec 16) (j : Job) (s : State), (List.find? (fun j => j.origin == o.toNat
    && j.tag == g.toNat && decide (j.state = JobState.running)) s.work.jobs = some j) ∧ j.shares.all j.shareDone = true ∧ j.mirrored = true ∧
    s.mirrors = true) ∧ (∃ (o : BitVec 16) (g : BitVec 16) (s : State) (j : Job), (List.find? (fun j => j.origin == o.toNat && j.tag == g.toNat &&
    decide (j.state = JobState.mirrorWait)) s.work.jobs = some j)) :=
  ⟨⟨3, 7, job .running (share false false 1), jobs (job .running (share false false 1)), by decide +kernel⟩,
⟨3, 7, pairJob, (jobs pairJob).setFs [(F.TWIN_STAT_STATE, 4), (F.TWIN_STAT_HOLDER, 1)], by decide +kernel⟩,
⟨3, 7, jobs (job .mirrorWait share), job .mirrorWait share, by decide +kernel⟩⟩

theorem witness_StagingSets : (∃ (n : Nat) (s : State) (o : BitVec 16) (g : BitVec 16) (j : Job) (data : List (Nat × List Byte)) (s1 : State), n < 256
    ∧ Map.rising s.work.sets = true ∧ (List.find? (fun j => j.origin == o.toNat && j.tag == g.toNat && decide (j.state = JobState.staging))
    s.work.jobs = some j) ∧ j.set = some n ∧ State.copyBlocks ((maskTiles j.desc.mask).headD 0) j.desc (Map.keys (s.set_ n).data) [] s = (Except.ok
    data, s1)) ∧ (∃ (p : Packet) (o : Nat) (s : State), s.accepts omeStageReleaseDef p o ∧ s.accepts omeStageQueryDef p o) ∧ (∃ (p : Packet) (o : Nat)
    (s : State), s.accepts omeStageLoadDef p o ∧ (s.begun p).twin.want = none ∧ (∃ n < 256, ((s.begun p).set_ n).live = false)) ∧ (∃ (o : BitVec 16)
    (g : BitVec 16) (r : Running) (x : Nat × StageSet) (data : List (Nat × List Byte)) (s : State) (s1 : State), (List.find? (fun j => j.origin ==
    o.toNat && j.tag == g.toNat && decide (j.state = JobState.staging)) s.work.jobs = none) ∧ (List.find? (fun r => r.opcode == 1040 && r.origin ==
    o.toNat && r.pkt.tag == g && r.fin.isNone) s.proctor.running = some r) ∧ (List.find? (fun e => e.2.run == some r.id) s.work.sets = some x) ∧
    State.copyBlocks ((maskTiles (stageDesc r.pkt).mask).headD 0) (stageDesc r.pkt) (Map.keys x.2.data) [] s = (Except.ok data, s1)) :=
  ⟨⟨(0 : Nat), withSet (jobs (job .staging share)) (stageSet false), 3, 7, job .staging share, [(0, zeros 32)], afterCopy (job .staging share).desc
    (withSet (jobs (job .staging share)) (stageSet false)), by decide +kernel⟩,
⟨pk 0 [0], 3, withSet omeUp (stageSet true), by decide +kernel⟩,
⟨pk 0 [0, 9*2^17, 1, 32, 0, 0x20, 0], 3, omeUp, by decide +kernel⟩,
⟨3, 7, runs (pk 0 [0, 9*2^17, 1, 32, 0, 0x20, 0]) 0x410, (0, stageSet false (some 9)), [(0, zeros 32)], withSet (running omeUp (runs (pk 0 [0, 9*2^17,
    1, 32, 0, 0x20, 0]) 0x410)) (stageSet false (some 9)), afterCopy (stageDesc (pk 0 [0, 9*2^17, 1, 32, 0, 0x20, 0])) (withSet (running omeUp (runs
    (pk 0 [0, 9*2^17, 1, 32, 0, 0x20, 0]) 0x410)) (stageSet false (some 9))), by decide +kernel⟩⟩

theorem witness_CollectiveGroups_1 : (∃ (p : Packet) (o : Nat) (s : State) (g : Machine.Group), s.accepts collGroupDestroyDef p o ∧ ((s.begun p).group
    (p.w 0 % 4096) = none ∨ (s.begun p).collPosted (p.w 0 % 4096) = 0) ∧ (s.begun p).group (p.w 0 % 4096) = some g ∧ s.accepts collGroupQueryDef p o)
    ∧ (∃ (p : Packet) (o : Nat) (g : Machine.Group) (s : State) (r : CollRun), (s.begun p).group (p.w 0 % 4096) = some g ∧ s.accepts collOpQueryDef p
    o ∧ (s.begun p).ctxOf (p.w 0) = some (p.w 0 % 4096) ∧ g.runOf (p.w 1) = some r) ∧ (∃ (p : Packet) (o : Nat) (s : State), s.accepts
    collGroupCreateDef p o ∧ (s.begun p).mirrors = false ∧ (s.begun p).twin.want = none ∧ (∃ n < 4096, (s.begun p).group n = none) ∧ (∀ m ∈ memberList
    ((s.begun p).inputOr p (p.w 0 * 8)) (p.w 0), ∀ (c : Machine.Stream), (s.begun p).stream m.key = some c → c.waiting = [])) ∧ (∃ (p : Packet) (o :
    Nat) (g : Machine.Group) (s : State), s.accepts collGroupModifyDef p o ∧ (s.begun p).mirrors = false ∧ (s.begun p).group (p.w 0 % 4096) = some g ∧
    (∀ m ∈ (s.begun p).membersOf (p.w 0) ++ if p.w 1 = 0 then (s.begun p).membersOf (p.w 0) ++ memberList ((s.begun p).inputOr p (modifyBytes p)) (p.w
    2) else List.map (fun x => x.1) (List.filter (fun x => !(removeRanks ((s.begun p).inputOr p (modifyBytes p)) (p.w 2)).contains x.2) ((s.begun
    p).membersOf (p.w 0)).zipIdx), ∀ (c : Machine.Stream), (s.begun p).stream m.key = some c → c.waiting = [])) :=
  ⟨⟨pk 0 [0], 3, coll grp, grp, by decide +kernel⟩,
⟨pk 0 [0, 0], 3, grp none [crun 0], coll (grp none [crun 0]), crun 0, by decide +kernel⟩,
⟨pkd [1, 0x20, 0, 0] rank0Bytes, 3, strm (ctx .open_), by decide +kernel, by decide +kernel, by decide +kernel, ⟨0, by decide +kernel⟩,
    by decide +kernel⟩,
⟨pkd [0, 1, 1] (zeros 4), 3, grp2, coll grp2, by decide +kernel⟩⟩

theorem witness_CollectiveGroups_2 : (∃ (n : Nat) (s : State) (h : Nat), n < 4096 ∧ Map.rising s.work.ctxs = true ∧ h % 4096 = n) ∧ (∃ (p : Packet) (o
    : Nat) (g : Machine.Group) (s : State), (s.begun p).group (p.w 0 % 4096) = some g ∧ s.accepts collOpPostDef p o ∧ (s.begun p).mirrors = false) :=
  ⟨⟨4095, coll grp, 4095, by decide +kernel⟩,
⟨postPk 0 1, 3, grp, coll grp, by decide +kernel⟩⟩

theorem witness_CollectiveWork_1 : (∃ (c : BitVec 12) (s : State) (g : Machine.Group) (o : CollOp), s.group c.toNat = some g ∧ g.cur ≠ none ∧ g.cur =
    some o ∧ o.desc.op < 2) ∧ (∃ (v : Via) (bytes : List Byte) (s : State) (s1 : State) (g : Machine.Group) (o : CollOp), s.popRx v.code 0 (fitBytes
    232 bytes) = some s1 ∧ (Tu.parse bytes).type = 16 ∧ s.group ((Tu.parse bytes).aux % 4096) = some g ∧ ((g.members.any fun m => m.peer && m.key ==
    handleKey (Tu.parse bytes).stream) = true) ∧ g.cur = some o ∧ o.seq = (Tu.parse bytes).aux / 4096 % 65536) ∧ (∃ (c : BitVec 12) (s : State),
    s.group c.toNat = none) ∧ (∃ (v : Via) (bytes : List Byte) (s : State) (s1 : State), s.popRx v.code 0 (fitBytes 232 bytes) = some s1 ∧ (Tu.parse
    bytes).type = 17) :=
  ⟨⟨0, coll (grp (some (cop 0)) [crun 0]), grp (some (cop 0)) [crun 0], cop 0, by decide +kernel⟩,
⟨.port 143, (ctu 0x10 65535).bytes, collRx (grp (some (cop 0)) [crun 0] true) (ctu 0x10 65535), tookTu (collRx (grp (some (cop 0)) [crun 0] true) (ctu
    0x10 65535)) (ctu 0x10 65535), grp (some (cop 0)) [crun 0] true, cop 0, by decide +kernel⟩,
⟨4095, coll grp, by decide +kernel⟩,
⟨.port 143, (ctu 0x11 65535).bytes, collRx (grp (some (cop 5)) [crun 5]) (ctu 0x11 65535), tookTu (collRx (grp (some (cop 5)) [crun 5]) (ctu 0x11
    65535)) (ctu 0x11 65535), by decide +kernel⟩⟩

theorem witness_CollectiveWork_2 : (∃ (v : Via) (bytes : List Byte) (s : State) (s1 : State), s.popRx v.code 0 (fitBytes 232 bytes) = some s1 ∧
    (Tu.parse bytes).type = 18) ∧ (∃ (tu : Tu) (s : State), s.group (tu.aux % 4096) = none) ∧ (∃ (key : Nat) (tu : Tu) (g : Machine.Group) (s :
    State), s.group (tu.aux % 4096) = some g ∧ (List.findIdx? (fun m => m.key == key) g.members = none)) ∧ (∃ (key : Nat) (rank : Nat) (tu : Tu) (g :
    Machine.Group) (s : State) (o : CollOp), s.group (tu.aux % 4096) = some g ∧ (List.findIdx? (fun m => m.key == key) g.members = some rank) ∧ g.cur
    = some o ∧ 32768 ≤ (tu.aux / 4096 % 65536 + 65536 - o.seq) % 65536) :=
  ⟨⟨.port 143, (ctu 0x12 65535).bytes, collRx (grp (some (cop 5)) [crun 5]) (ctu 0x12 65535), tookTu (collRx (grp (some (cop 5)) [crun 5]) (ctu 0x12
    65535)) (ctu 0x12 65535), by decide +kernel⟩,
⟨ctu 0x10 65535, up, by decide +kernel⟩,
⟨key5 + 1, ctu 0x10 65535, grp, coll grp, by decide +kernel⟩,
⟨key5, 0, ctu 0x10 65534, grp (some (cop 0)) [crun 0], coll (grp (some (cop 0)) [crun 0]), cop 0, by decide +kernel⟩⟩

theorem witness_CollectiveWork_3 : (∃ (key : Nat) (rank : Nat) (tu : Tu) (g : Machine.Group) (s : State) (o : CollOp), s.group (tu.aux % 4096) = some
    g ∧ (List.findIdx? (fun m => m.key == key) g.members = some rank) ∧ g.cur = some o ∧ 0 < (tu.aux / 4096 % 65536 + 65536 - o.seq) % 65536 ∧ (tu.aux
    / 4096 % 65536 + 65536 - o.seq) % 65536 < 32768) ∧ (∃ (key : Nat) (rank : Nat) (tu : Tu) (g : Machine.Group) (s : State) (o : CollOp), s.group
    (tu.aux % 4096) = some g ∧ (List.findIdx? (fun m => m.key == key) g.members = some rank) ∧ g.cur = some o ∧ o.seq = tu.aux / 4096 % 65536 ∧
    o.resultsOut = false) ∧ (∃ (key : Nat) (rank : Nat) (tu : Tu) (g : Machine.Group) (s : State) (o : CollOp), s.group (tu.aux % 4096) = some g ∧
    (List.findIdx? (fun m => m.key == key) g.members = some rank) ∧ g.cur = some o ∧ o.seq = tu.aux / 4096 % 65536 ∧ o.resultsOut = true) ∧ (∃ (c :
    BitVec 12) (g : Machine.Group) (o : CollOp) (s : State), s.group c.toNat = some g ∧ g.cur = some o ∧ o.desc.op = 6) :=
  ⟨⟨key5, 0, ctu 0x10 0, grp (some (cop 0)) [crun 0], coll (grp (some (cop 0)) [crun 0]), cop 0, by decide +kernel⟩,
⟨key5, 0, ctu 0x10 65535, grp (some (cop 0)) [crun 0], coll (grp (some (cop 0)) [crun 0]), cop 0, by decide +kernel⟩,
⟨key5, 0, ctu 0x10 65535, grp (some (cop 0 true)) [crun 0], coll (grp (some (cop 0 true)) [crun 0]), cop 0 true, by decide +kernel⟩,
⟨0, grp (some (cop 6)) [crun 6], cop 6, coll (grp (some (cop 6)) [crun 6]), by decide +kernel⟩⟩

theorem witness_CollectiveWork_4 : (∃ (c : BitVec 12) (g : Machine.Group) (o : CollOp) (s : State) (r : CollRun), s.group c.toNat = some g ∧ g.cur =
    some o ∧ g.head = some r ∧ s.collComplete g o = false) ∧ (∃ (c : BitVec 12) (g : Machine.Group) (o : CollOp) (s : State) (r : CollRun), s.group
    c.toNat = some g ∧ g.cur = some o ∧ g.head = some r ∧ s.collComplete g o = true ∧ (∀ m ∈ g.members, ∀ (x : Machine.Stream), s.stream m.key = some
    x → x.waiting = [])) ∧ (∃ (words : List Nat), words.length = 1) ∧ (∃ (p : Packet) (o : Nat) (s : State), s.accepts collOpAbortDef p o) :=
  ⟨⟨0, grp (some (cop 0)) [crun 0], cop 0, coll (grp (some (cop 0)) [crun 0]), crun 0, by decide +kernel⟩,
⟨0, grp (some (cop 0 true)) [crun 0], cop 0 true, coll (grp (some (cop 0 true)) [crun 0]), crun 0, by decide +kernel⟩,
⟨[0xFFFFFFFF], by decide +kernel⟩,
⟨pk 0 [0], 3, coll (grp (some (cop 0)) [crun 0]), by decide +kernel⟩⟩

theorem witness_ClockAndStart_1 : (∃ (s : State), s.canonical ∧ (s.f F.CLK_STAT_HOLDOVER = 1 ∨ s.f F.CLK_STAT_PLL_LOCK = 0) ∧ (s.clocks.phase ≠ 3 ∨
    s.b (F.CXL_PHY_STAT_LINK_UP (s.f F.STRAP_STAT_CXLP)) = false)) ∧ (∃ (chain : List Byte) (s : State) (u : State) (ok : Bool), s.clocks.phase = 1 ∧
    s.clocks.mresetLow = false ∧ s.clocks.tripped = false ∧ s.boot chain = (u, ok) ∧ ok = false) ∧ (∃ (s : State), s.canonical ∧ s.f
    F.CLK_STAT_HOLDOVER = 0 ∧ s.f F.CLK_STAT_PLL_LOCK = 1) ∧ (∃ (s : State), s.canonical ∧ s.clocks.phase ≠ 0 ∧ s.clocks.phase ≠ 2) :=
  ⟨⟨up.setF (F.TILE_CDC_TMO_COUNT 47) 0xFFFFFFFF, by decide +kernel⟩,
⟨[], slots 0 0, booted (slots 0 0), false, by decide +kernel⟩,
⟨up.setF F.CLK_STAT_PLL_LOCK 1, by decide +kernel⟩,
⟨started 4, by decide +kernel⟩⟩

theorem witness_ClockAndStart_2 : (∃ (s : State), s.canonical ∧ (s.clocks.phase ≠ 0 ∨ s.clocks.off = true)) ∧ (∃ (s : State), s.canonical ∧
    s.clocks.phase = 0 ∧ s.clocks.off = false) ∧ (∃ (chain : List Byte) (s : State) (u : State) (ok : Bool), s.clocks.phase = 1 ∧ s.clocks.mresetLow =
    false ∧ s.clocks.tripped = false ∧ s.boot chain = (u, ok) ∧ ok = true ∧ u.clocks.strapsLogged = false ∧ u.f F.CLK_STAT_PLL_LOCK = 0) ∧ (∃ (chain :
    List Byte) (s : State) (u : State) (ok : Bool), s.clocks.phase = 1 ∧ s.clocks.mresetLow = false ∧ s.clocks.tripped = false ∧ s.boot chain = (u,
    ok) ∧ ok = true ∧ u.clocks.strapsLogged = true) :=
  ⟨⟨started 3, by decide +kernel⟩,
⟨up, by decide +kernel⟩,
⟨[], slots 1 1, booted (slots 1 1), true, by decide +kernel⟩,
⟨[], logged, booted logged, true, by decide +kernel⟩⟩

theorem witness_ClockAndStart_3 : ∃ (s : State), s.canonical ∧ s.clocks.phase = 3 ∧ s.b (F.CXL_PHY_STAT_LINK_UP (s.f F.STRAP_STAT_CXLP)) = true ∧
    s.sec.badDue = [] :=
  ⟨(started 3).setF (F.CXL_PHY_STAT_LINK_UP 0) 1, by decide +kernel⟩

theorem witness_ModuleResets_1 : (∃ (s : State) (n : Tile), s.canonical ∧ (s.clocks.phase = 0 ∨ s.clocks.tripped = true) ∧ (s.clocks.resetDue = none ∨
    s.resetWaits = true) ∧ s.clocks.mresetLow = false ∧ (List.find? (fun r => [288, 336, 338, 2306].contains r.opcode && r.pkt.kind == 1 && r.pkt.unit
    == n.val && r.fin.isNone) s.proctor.running = none)) ∧ (∃ (s : State), s.canonical ∧ s.clocks.phase ≠ 0 ∧ s.clocks.tripped = false ∧
    s.clocks.mresetLow = true) ∧ (∃ (s : State) (o : Nat), s.canonical ∧ s.clocks.tripped = false ∧ s.clocks.mresetLow = false ∧ s.clocks.resetDue =
    some (2, o) ∧ s.resetWaits = false ∧ o < 16) ∧ (∃ (s : State) (k : Nat) (o : Nat), s.canonical ∧ s.clocks.tripped = false ∧ s.clocks.resetDue =
    some (k, o) ∧ 3 ≤ k ∧ k < 8 ∧ s.resetWaits = false ∧ o < 16) :=
  ⟨⟨up, (1 : Tile), by decide +kernel⟩,
⟨held, by decide +kernel⟩,
⟨due 2 15, 15, by decide +kernel⟩,
⟨due 4 0, 4, 0, by decide +kernel⟩⟩

theorem witness_ModuleResets_2 : (∃ (p : Packet) (s : State) (o : Nat), s.accepts resetDef p o ∧ p.kind = 0) ∧ (∃ (p : Packet) (s : State) (o : Nat),
    s.accepts resetDef p o ∧ p.kind ≠ 0) ∧ (∃ (n : Tile) (s : State) (r : Running), (List.find? (fun r => [288, 336, 338, 2306].contains r.opcode &&
    r.pkt.kind == 1 && r.pkt.unit == n.val && r.fin.isNone) s.proctor.running = some r) ∧ r.opcode = 288) :=
  ⟨⟨pk 0 [0], up, 3, by decide +kernel⟩,
⟨pk 0x101 [2], up, 3, by decide +kernel⟩,
⟨(1 : Tile), running up (runs (pk 0x101 [2]) 0x120), runs (pk 0x101 [2]) 0x120, by decide +kernel⟩⟩

theorem witness_TilePowerStates_1 : (∃ (n : Tile) (s : State), s.canonical ∧ s.f (F.TILE_PWR_STAT_STATE n.val) = 1 ∧ Map.get 0 s.clocks.entering n.val
    = 2 ∧ s.gated n.val = false ∧ (∀ p ∈ portsOf n.val, s.linkUp p = false) ∧ s.f (F.OME_STAT_STATE n.val) ≠ 4 ∧ s.d1Block n.val ≠ 0) ∧ (∃ (n : Tile)
    (s : State), s.policyOn n.val = true ∧ s.policyIdle n.val = true ∧ s.f (F.FSTATE_STATE n.val) = 0 ∧ s.inTest n.val = false ∧ s.f
    (F.TILE_PWR_STAT_STATE n.val) = 0 ∧ s.f F.PWR_POLICY_D2_IDLE ≠ 0 ∧ s.d2Block n.val = 0) ∧ (∃ (n : Tile) (s : State), s.policyOn n.val = true ∧
    s.policyIdle n.val = true ∧ s.f (F.FSTATE_STATE n.val) = 0 ∧ s.inTest n.val = false ∧ s.f (F.TILE_PWR_STAT_STATE n.val) ≠ 0 ∧ s.f
    F.PWR_POLICY_D2_IDLE ≠ 0 ∧ s.d2Block n.val = 0 ∧ s.f (F.TILE_PWR_STAT_STATE n.val) = 2) ∧ (∃ (p : Packet) (s : State) (o : Nat), s.accepts
    pwrModuleStandbyDef p o ∧ s.accepts pwrModuleResumeDef p o ∧ (s.begun p).clocks.standby = false) :=
  ⟨⟨(46 : Tile), (entering 46 2).updBl 46 (fun b => { b with tracing := true }), by decide +kernel⟩,
⟨(20 : Tile), idle 20 0, by decide +kernel⟩,
⟨(20 : Tile), idle 20 2, by decide +kernel⟩,
⟨pk 0 [], started 4, 3, by decide +kernel⟩⟩

theorem witness_TilePowerStates_2 : (∃ (n : Tile) (s : State), s.canonical ∧ s.f (F.TILE_PWR_STAT_STATE n.val) = 1 ∧ Map.get 0 s.clocks.entering n.val
    = 2 ∧ s.gated n.val = false ∧ (∀ p ∈ portsOf n.val, s.linkUp p = false) ∧ s.f (F.OME_STAT_STATE n.val) ≠ 4 ∧ s.d1Block n.val = 0) ∧ (∃ (n : Tile)
    (s : State), s.canonical ∧ s.f (F.TILE_PWR_STAT_STATE n.val) = 1 ∧ Map.get 0 s.clocks.entering n.val = 2 ∧ s.gated n.val = false ∧ (∃ p ∈ portsOf
    n.val, s.linkUp p = true ∧ (s.link p).dozeAcked = false)) ∧ (∃ (p : Port) (s : State), s.clocks.standby = false ∧ (s.f (F.TILE_PWR_STAT_STATE
    (p.val / 3)) = 2 ∨ s.f (F.TILE_PWR_STAT_STATE (p.val / 3)) = 3)) ∧ (∃ (p : Port) (s : State), s.clocks.standby = false ∧ (s.f
    (F.TILE_PWR_STAT_STATE (p.val / 3)) = 0 ∨ s.f (F.TILE_PWR_STAT_STATE (p.val / 3)) = 4 ∨ s.f (F.TILE_PWR_STAT_STATE (p.val / 3)) = 5)) :=
  ⟨⟨(46 : Tile), entering 46 2, by decide +kernel⟩,
⟨(47 : Tile), entering 47 2 [(F.LINK_STAT_STATE 143, 3), (F.OME_STAT_STATE 47, 3)], by decide +kernel⟩,
⟨143, asleep 47 2, by decide +kernel⟩,
⟨143, asleep 47 5, by decide +kernel⟩⟩

theorem witness_TilePowerStates_3 : (∃ (n : Tile) (s : State), s.canonical ∧ s.f (F.TILE_PWR_STAT_STATE n.val) = 4 ∧ s.gated n.val = false ∧ Map.get 0
    s.clocks.sleep n.val = 2 ∧ s.f (F.TILE_PWR_CTL_MODE n.val) ≠ 3 ∧ (s.f (F.TILE_PWR_CTL_MODE n.val) = 0 → n.val ∉ s.clocks.wantD2) ∧ (∀ k ∈
    s.streamKeys, ∀ (c : Machine.Stream), s.stream k = some c → c.waiting = [])) ∧ (∃ (n : Tile) (s : State), s.canonical ∧ s.f (F.TILE_PWR_STAT_STATE
    n.val) = 1 ∧ Map.get 0 s.clocks.entering n.val = 3 ∧ s.gated n.val = false ∧ s.d2Block n.val = 0) ∧ (∃ (n : Tile) (s : State), s.canonical ∧ s.f
    (F.TILE_PWR_STAT_STATE n.val) = 1 ∧ Map.get 0 s.clocks.entering n.val = 3 ∧ s.gated n.val = false ∧ s.d2Block n.val ≠ 0) ∧ (∃ (s : State),
    s.clocks.wakeOrder = []) :=
  ⟨⟨(46 : Tile), leaving 46 2 0 [(F.LAS_STAT_STATE 46 0, 3), (F.MEM_STAT_STATE 46, 3), (F.OME_STAT_STATE 46, 7)], by decide +kernel⟩,
⟨(20 : Tile), entering 20 3, by decide +kernel⟩,
⟨(25 : Tile), entering 25 3, by decide +kernel⟩,
⟨up, by decide +kernel⟩⟩

theorem witness_TilePowerStates_4 : (∃ (row : Fin 4) (rest : List Nat) (s : State), s.clocks.wakeOrder = row.val :: rest) ∧ (∃ (n : Tile) (s : State),
    s.policyOn n.val = true ∧ s.policyIdle n.val = true ∧ s.f (F.FSTATE_STATE n.val) = 0 ∧ s.inTest n.val = false ∧ (s.f F.PWR_POLICY_D2_IDLE = 0 ∨
    s.d2Block n.val ≠ 0)) ∧ (∃ (p : Packet) (s : State) (o : Nat), s.accepts pwrTileModeDef p o ∧ p.w 0 = 3 ∧ (s.begun p).d2Block p.unit ≠ 0) ∧ (∃ (p
    : Packet) (s : State) (o : Nat), s.accepts pwrTileModeDef p o ∧ p.w 0 < 2 ∧ (s.begun p).f (F.TILE_PWR_STAT_STATE p.unit) = 0) :=
  ⟨⟨3, [], waking [3], by decide +kernel⟩,
⟨(1 : Tile), idle 1 0, by decide +kernel⟩,
⟨pk 0x101 [3], up, 3, by decide +kernel⟩,
⟨pk 0x1401 [1], up, 3, by decide +kernel⟩⟩

theorem witness_TilePowerStates_5 : (∃ (p : Packet) (s : State) (o : Nat), s.accepts pwrTileModeDef p o ∧ 2 ≤ p.w 0 ∧ s.canonical ∧ (p.w 0 = 3 →
    (s.begun p).d2Block p.unit = 0) ∧ (s.begun p).f (F.TILE_PWR_STAT_STATE p.unit) = 0 ∧ (s.begun p).f (F.FSTATE_STATE p.unit) = 0 ∧ (s.begun
    p).inTest p.unit = false) ∧ (∃ (n : Tile) (s : State), s.canonical ∧ s.f (F.TILE_PWR_STAT_STATE n.val) = 4 ∧ s.gated n.val = false ∧ Map.get 0
    s.clocks.sleep n.val = 3) ∧ (∃ (p : Packet) (s : State) (o : Nat), s.accepts pwrModuleResumeDef p o ∧ (s.begun p).clocks.standby = true) :=
  ⟨⟨pk 0x1401 [3], up, 3, by decide +kernel⟩,
⟨(46 : Tile), leaving 46 3 0 [(F.CLK_STAT_HOLDOVER, 1)], by decide +kernel⟩,
⟨pk 0 [], up.updClk (fun c => { c with standby := true }), 3, by decide +kernel⟩⟩

theorem witness_PowerInput_1 : (∃ (x : Fin 2) (s : State) (k : Fin 4), s.canonical ∧ s.clocks.off = false ∧ (List.countP (fun k => k == 0)
    s.power.steps ≤ 6) ∧ (List.countP (fun k => k == 1) s.power.steps ≤ 6) ∧ s.power.breakers.contains x.val = false ∧ s.bladeOut (1 - x.val) = false
    ∧ s.power.feedLost.contains x.val = false ∧ s.power.convFail.contains k.val = false ∧ 3 ≤ s.clocks.phase ∧ s.clocks.tripped = false) ∧ (∃ (pin :
    Nat) (s : State), s.canonical ∧ 10 * s.f F.PWR_STAT_CEIL_W < pin ∧ (List.countP (fun k => k == 0) s.power.steps < 6)) ∧ (∃ (x : Fin 2) (s : State)
    (pin : Nat), s.canonical ∧ s.clocks.off = false ∧ (List.countP (fun k => k == 0) s.power.steps ≤ 6) ∧ (List.countP (fun k => k == 1) s.power.steps
    ≤ 6) ∧ s.bladeOut (1 - x.val) = true ∧ s.power.breakers.contains x.val = false ∧ s.power.feedLost.contains x.val = false ∧ pin ≤ 10 * s.f
    F.PWR_STAT_CEIL_W ∧ 10 * s.f F.PWR_STAT_CEIL_W < pin + 10 * s.f F.PWR_CTL_HYST_W) ∧ (∃ (s : State), s.canonical ∧ s.clocks.off = true ∧
    (s.clocks.phase < 3 ∨ s.clocks.tripped = true ∨ s.clocks.off = true)) :=
  ⟨⟨(0 : Fin 2), powered {}, (3 : Fin 4), by decide +kernel⟩,
⟨0xFFFF, powered {}, by decide +kernel⟩,
⟨(1 : Fin 2), powered { feedLost := [0] }, 0, by decide +kernel⟩,
⟨(powered {}).updClk (fun c => { c with off := true, ovLatch := true }), by decide +kernel⟩⟩

theorem witness_PowerInput_2 : (∃ (pin : Nat) (s : State), s.canonical ∧ 10 * s.f F.PWR_STAT_CEIL_W < pin ∧ (6 ≤ List.countP (fun k => k == 0)
    s.power.steps) ∧ (List.countP (fun k => k == 1) s.power.steps < 6)) ∧ (∃ (pin : Nat) (s : State) (since : Nat) (k : Nat) (rest : List Nat),
    s.canonical ∧ pin + 10 * s.f F.PWR_CTL_HYST_W ≤ 10 * s.f F.PWR_STAT_CEIL_W ∧ s.power.underAt = some since ∧ since + 10000 ≤ s.bell ∧ s.power.steps
    = k :: rest) ∧ (∃ (x : Fin 2) (s : State), s.canonical ∧ s.clocks.off = false ∧ (List.countP (fun k => k == 0) s.power.steps ≤ 6) ∧ (List.countP
    (fun k => k == 1) s.power.steps ≤ 6) ∧ s.power.feedLost.contains x.val = true) ∧ (∃ (pin : Nat) (s : State), s.canonical ∧ pin + 10 * s.f
    F.PWR_CTL_HYST_W ≤ 10 * s.f F.PWR_STAT_CEIL_W ∧ s.power.underAt = none) :=
  ⟨⟨(20001 : Nat), powered { steps := [0, 0, 0, 0, 0, 0, 1, 1, 1, 1, 1] } [(F.PWR_STAT_CEIL_W, 2000)], by decide +kernel⟩,
⟨(19900 : Nat), powered { steps := [0], underAt := some 0 } [(F.PWR_STAT_CEIL_W, 2000), (F.PWR_CTL_HYST_W, 10)], 0, 0, [], by decide +kernel⟩,
⟨(0 : Fin 2), powered { feedLost := [0] }, by decide +kernel⟩,
⟨(19900 : Nat), powered { steps := [0] } [(F.PWR_STAT_CEIL_W, 2000), (F.PWR_CTL_HYST_W, 10)], by decide +kernel⟩⟩

theorem witness_PowerInput_3 : (∃ (p : Packet) (s : State) (o : Nat), s.canonical ∧ s.accepts pwrCapSetDef p o) ∧ (∃ (p : Packet) (s : State) (o :
    Nat), s.canonical ∧ s.accepts pwrPolicySetDef p o) ∧ (∃ (p : Packet) (s : State) (o : Nat), s.canonical ∧ s.accepts pwrQueryDef p o) :=
  ⟨⟨pk 0 [1000], up, 3, by decide +kernel⟩,
⟨pk 0 [1, 10, 20], up, 3, by decide +kernel⟩,
⟨pk 0 [], up, 3, by decide +kernel⟩⟩

theorem witness_BlockingRuns_1 : (∃ (s : State) (t : Nat) (c : Nat) (e : BlkEntry), Map.rising s.blk = true ∧ (((s.bl t).runs.any fun r => r.chan ==
    c) = false) ∧ e ∈ (s.bl t).queue ∧ e.chan ≠ c) ∧ (∃ (n : Tile) (chan : BitVec 16) (s : State) (found : BlkFound) (r : BlkRun), chanOk chan.toNat =
    true ∧ chan.toNat < 16384 ∧ s.f (F.BLK_CTL_EN n.val) = 1 ∧ s.dozing n.val = false ∧ s.mayQueue n.val chan.toNat = true ∧ (∀ (a : Nat), Map.find
    chan.toNat (s.bl n.val).done = some a → a + s.f (F.BLK_CTL_INTERVAL n.val) * 1000000 ≤ s.bell) ∧ s.canonical ∧ Map.rising s.blk = true ∧ 4096 ≤
    chan.toNat ∧ chan.toNat < 4112 ∧ (List.find? (fun r => r.chan == chan.toNat && r.phase == 1) (s.bl n.val).runs = some r) ∧ s.detained n.val
    chan.toNat = false ∧ found.limits = true ∧ found.residual = true ∧ (List.filter (fun r => r.chan == chan.toNat && r.phase != 2) (s.bl n.val).runs
    = [r])) ∧ (∃ (n : Tile) (s : State), s.canonical ∧ Map.rising s.blk = true ∧ (s.bl n.val).traceDue = none ∧ (s.blkAwake n.val = false ∨ (s.bl
    n.val).queue = [])) ∧ (∃ (n : Tile) (chan : BitVec 16) (s : State), (((s.bl n.val).runs.any fun r => r.chan == chan.toNat) = false)) :=
  ⟨⟨blk { queue := [⟨0x1000, 1, 0, 0⟩, ⟨0x100F, 3, 0, 0⟩] }, (47 : Nat), (0x100F : Nat), (⟨0x1000, 1, 0, 0⟩ : BlkEntry), by decide +kernel⟩,
⟨(47 : Tile), 0x100F, blk { runs := [blkRun 4 0x100F] }, ⟨[], 0, true, true⟩, blkRun 4 0x100F, by decide +kernel⟩,
⟨(47 : Tile), blk {}, by decide +kernel⟩,
⟨(47 : Tile), 0x1000, blk { runs := [blkRun 4 0x1001] }, by decide +kernel⟩⟩

theorem witness_BlockingRuns_2 : (∃ (p : Packet) (s : State) (o : Nat), Map.rising s.blk = true ∧ s.accepts blockRunDef p o ∧ s.accepts blockQueryDef
    p o) ∧ (∃ (n : Tile) (s : State), Map.rising s.blk = true ∧ (s.f (F.BLK_CTL_EN n.val) = 0 ∨ s.dozing n.val = true)) ∧ (∃ (n : Tile) (s : State),
    Map.rising s.blk = true ∧ s.f (F.BLK_CTL_EN n.val) = 1 ∧ s.dozing n.val = false) ∧ (∃ (n : Tile) (chan : BitVec 16) (s : State), (chanOk
    chan.toNat = false ∨ s.f (F.BLK_CTL_EN n.val) = 0 ∨ s.dozing n.val = true ∨ s.detained n.val chan.toNat = true ∨ ∃ a, Map.find chan.toNat (s.bl
    n.val).done = some a ∧ s.bell < a + s.f (F.BLK_CTL_INTERVAL n.val) * 1000000)) :=
  ⟨⟨pk 0x2F01 [0x100F], blk {}, 3, by decide +kernel⟩,
⟨(47 : Tile), blk {} [(F.BLK_CTL_EN 47, 0)], by decide +kernel⟩,
⟨(47 : Tile), blk { temp := [(0x1000, 100)] } [(F.BLK_CTL_EN 47, 1), (F.BLK_CTL_DT 47, 20)], by decide +kernel⟩,
⟨(47 : Tile), 0x1010, blk {} [(F.BLK_CTL_EN 47, 1)], by decide +kernel⟩⟩

theorem witness_BlockingRuns_3 : (∃ (n : Tile) (slot : Fin 5) (e : BlkEntry) (s : State), s.canonical ∧ Map.rising s.blk = true ∧ (s.bl
    n.val).traceDue = none ∧ s.blkAwake n.val = true ∧ slot.val = 4 ∧ (s.bl n.val).queue = [e] ∧ 4096 ≤ e.chan ∧ e.chan < 4112 ∧ s.entryDue n.val e =
    true ∧ (s.bl n.val).runs = [] ∧ (s.bl n.val).traceCrown = false ∧ s.f (F.CROWN_STAT_STATE n.val) = 2 ∧ s.roleMoves n.val 3 = false) ∧ (∃ (n :
    Tile) (chan : BitVec 16) (found : BlkFound) (r : BlkRun) (s : State), s.canonical ∧ Map.rising s.blk = true ∧ 4096 ≤ chan.toNat ∧ chan.toNat <
    4112 ∧ (List.find? (fun r => r.chan == chan.toNat && r.phase == 1) (s.bl n.val).runs = some r) ∧ s.detained n.val chan.toNat = false ∧
    (found.limits = false ∨ found.residual = false)) ∧ (∃ (p : Port) (s : State), (List.find? (fun r => r.slot == p.val % 3 && r.again) (s.bl (p.val /
    3)).runs = none)) ∧ (∃ (p : Port) (s : State) (r : BlkRun), (List.find? (fun r => r.slot == p.val % 3 && r.again) (s.bl (p.val / 3)).runs = some
    r) ∧ r.phase = 2) :=
  ⟨⟨(47 : Tile), 4, (⟨0x100F, 0, 0, 0⟩ : BlkEntry), blk { queue := [⟨0x100F, 0, 0, 0⟩] } [(F.CROWN_STAT_STATE 47, 2)], by decide +kernel⟩,
⟨(47 : Tile), 0x1000, ⟨[], 0, true, false⟩, blkRun 4 0x1000, blk { runs := [blkRun 4 0x1000], fails := [(0x1000, 1)] }, by decide +kernel⟩,
⟨143, blk {}, by decide +kernel⟩,
⟨143, blk { runs := [againRun 2 0] }, againRun 2 0, by decide +kernel⟩⟩

theorem witness_BlockingRuns_4 : (∃ (p : Port) (s : State) (r : BlkRun), (List.find? (fun r => r.slot == p.val % 3 && r.again) (s.bl (p.val / 3)).runs
    = some r) ∧ r.phase ≠ 2 ∧ 16 ≤ r.refused) ∧ (∃ (p : Packet) (s : State) (o : Nat), Map.rising s.blk = true ∧ s.accepts blockTraceDef p o) ∧ (∃ (p
    : Packet) (s : State) (o : Nat), Map.rising s.blk = true ∧ s.accepts blockReleaseDef p o) :=
  ⟨⟨143, blk { runs := [againRun 0 16] }, againRun 0 16, by decide +kernel⟩,
⟨pk 0x2F01 [], blk {}, 3, by decide +kernel⟩,
⟨pk 0x2F01 [0x100F], blk { detained := [0x100F] }, 3, by decide +kernel⟩⟩

theorem witness_TracesAndAgeing_1 : (∃ (n : Tile) (s : State) (found : TraceFound), Map.rising s.blk = true ∧ (s.bl n.val).traceDue = none ∧ (s.f
    (F.BLK_CTL_EN n.val) = 0 ∨ (s.bl n.val).tracing = true) ∧ (s.bl n.val).traceCrown = false ∧ s.canonical ∧ (s.bl n.val).tracing = true ∧ (s.bl
    n.val).traceRuns = [] ∧ found.crown = true ∧ found.ome = true ∧ found.other = true) ∧ (∃ (n : Tile) (s : State), Map.rising s.blk = true ∧
    s.canonical ∧ (s.bl n.val).traceCrown = true ∧ ((s.bl n.val).tracing = false ∨ (s.bl n.val).traceCrown = true)) ∧ (∃ (n : Tile) (s : State) (x :
    Int), Map.rising s.blk = true ∧ s.f (F.BLK_CTL_EN n.val) = 1 ∧ (s.bl n.val).tracing = false ∧ (s.b F.CLK_STAT_HOLDOVER = true ∨ s.blkAwake n.val =
    false) ∧ (s.bl n.val).traceTemp = some x ∧ 4 * s.f (F.BLK_CTL_DT n.val) < ((s.bl n.val).avg - x).natAbs) ∧ (∃ (n : Tile) (s : State), Map.rising
    s.blk = true ∧ s.f (F.BLK_CTL_EN n.val) = 1 ∧ (s.bl n.val).tracing = false ∧ (s.b F.CLK_STAT_HOLDOVER = true ∨ s.blkAwake n.val = false) ∧ (s.bl
    n.val).traceTemp = none ∧ (s.bl n.val).traceTried = none) :=
  ⟨⟨(47 : Tile), blk { tracing := true } [(F.OME_STAT_STATE 47, 6)], ⟨true, true, true, 0xFFF, 0x3FF, 3⟩, by decide +kernel⟩,
⟨(47 : Tile), blk { traceCrown := true }, by decide +kernel⟩,
⟨(47 : Tile), blk { traceTemp := some (-500), avg := 900 } [(F.BLK_CTL_EN 47, 1), (F.CLK_STAT_HOLDOVER, 1)], (-500 : Int), by decide +kernel⟩,
⟨(47 : Tile), blk { traceDue := some 5 } [(F.BLK_CTL_EN 47, 1), (F.TILE_PWR_STAT_STATE 47, 2)], by decide +kernel⟩⟩

theorem witness_TracesAndAgeing_2 : (∃ (n : Tile) (found : TraceFound) (s : State), s.canonical ∧ Map.rising s.blk = true ∧ (s.bl n.val).tracing =
    true ∧ (s.bl n.val).traceCrown = false ∧ (s.bl n.val).traceRuns = [] ∧ (found.crown = false ∨ found.ome = false ∨ found.other = false) ∧ (s.bl
    n.val).traceFails ≠ 2) ∧ (∃ (n : Tile) (s : State) (perHour : BitVec 32), s.canonical ∧ 1000 < perHour.toNat ∧ isReserve n.val = false ∧ s.f
    (F.MEM_STAT_TIER n.val) = 1 ∧ s.f (F.AGE_PLAN_LP_RATE n.val) < 2) ∧ (∃ (n : Tile) (s : State) (perHour : BitVec 32), s.canonical ∧ (perHour.toNat
    ≤ 1000 ∨ isReserve n.val = true)) ∧ (∃ (p : Packet) (s : State) (o : Nat), s.canonical ∧ s.accepts ageReplanResetDef p o) :=
  ⟨⟨(47 : Tile), ⟨true, false, true, 0xFFF, 0x3FF, 3⟩, blk { tracing := true, traceFails := 1 }, by decide +kernel⟩,
⟨(47 : Tile), up.setF (F.AGE_PLAN_LP_RATE 47) 1, 1001, by decide +kernel⟩,
⟨(47 : Tile), up, 1000, by decide +kernel⟩,
⟨pk 0x2F01 [31], up.setFs [(F.AGE_PLAN_PORT_RATE 47, 63), (F.AGE_PLAN_SPLIT3_OFF 47, 1)], 3, by decide +kernel⟩⟩

theorem witness_TracesAndAgeing_3 : ∃ (p : Packet) (s : State) (o : Nat), s.canonical ∧ s.accepts ageQueryDef p o :=
  ⟨pk 0x2F01 [], up, 3, by decide +kernel⟩

theorem witness_FaultStates_1 : (∃ (bit : BitVec 6) (s : State), 44 ≤ bit.toNat ∧ 21 ≤ bit.toNat ∧ s.canonical ∧ s.f F.Q_GLOBAL_SWITCHOVER = 0 ∧
    s.sevModule 0 = 2 ∧ s.bit R.MFLVL_SRC 0 = false ∧ s.lostModule = false ∧ (s.fence (48 * 64)).on = false ∧ s.escalates (48 * 64) = false) ∧ (∃ (sc
    : Scope) (s : State), s.canonical ∧ s.f sc.stateF = 1 ∧ (s.f sc.stateF ≠ 2 ∨ s.quietOver sc = false) ∧ s.f sc.stateF ≠ 3) ∧ (∃ (n : Tile) (bit :
    BitVec 6) (s : State), bit.toNat ≠ 34 ∧ s.bit (if bit.toNat < 32 then R.FLVL_LO n.val else R.FLVL_HI n.val) (bit.toNat % 32) = true ∧ s.canonical
    ∧ bit.toNat < 44) ∧ (∃ (bit : BitVec 6) (s : State), s.canonical ∧ bit.toNat ≠ 0 ∧ bit.toNat < 21 ∧ s.bit R.MFLVL_SRC bit.toNat = false ∧
    s.sevModule bit.toNat = 3 ∧ s.f F.MFSTATE_STATE = 0) :=
  ⟨⟨44, up, by decide +kernel⟩,
⟨.tile 47, faulty 1 0 0, by decide +kernel⟩,
⟨(47 : Tile), 43, faulty 0 0x800 3, by decide +kernel⟩,
⟨20, up.setF (F.MFSEV_SEV 20) 3, by decide +kernel⟩⟩

theorem witness_FaultStates_2 : (∃ (sc : Scope) (s : State), s.f sc.stateF ≠ 1 ∧ s.canonical ∧ s.f sc.stateF = 2 ∧ s.quietOver sc = true) ∧ (∃ (p :
    Packet) (s : State) (o : Nat), s.accepts faultStatusDef p o ∧ p.kind = 1 ∧ s.accepts faultReleaseDef p o ∧ s.canonical) ∧ (∃ (p : Packet) (s :
    State) (o : Nat), s.accepts faultInjectDef p o) ∧ (∃ (n : Tile) (bit : BitVec 6) (s : State), s.canonical ∧ bit.toNat < 44 ∧ bit.toNat ≠ 34 ∧
    s.bit (if bit.toNat < 32 then R.FLVL_LO n.val else R.FLVL_HI n.val) (bit.toNat % 32) = false ∧ s.lostTile n.val = false ∧ s.sevTile n.val
    bit.toNat = 0) :=
  ⟨⟨.tile 47, quiet47, by decide +kernel⟩,
⟨pk 0x2F01 [], faulty 4 0 1, 3, by decide +kernel⟩,
⟨pk 0x2F01 [43], up.setF F.MFCTL_INJECT_EN 1, 3, by decide +kernel⟩,
⟨(47 : Tile), 43, sevs 43 0, by decide +kernel⟩⟩

theorem witness_FaultStates_3 : (∃ (n : Tile) (bit : BitVec 6) (s : State), s.canonical ∧ bit.toNat < 44 ∧ bit.toNat ≠ 34 ∧ s.bit (if bit.toNat < 32
    then R.FLVL_LO n.val else R.FLVL_HI n.val) (bit.toNat % 32) = false ∧ s.lostTile n.val = false ∧ s.sevTile n.val bit.toNat = 3 ∧ s.f
    (F.FSTATE_STATE n.val) = 0 ∧ s.f F.MFSTATE_STATE = 0) ∧ (∃ (s : State), s.f F.Q_GLOBAL_SWITCHOVER = 1 ∧ (s.fence (48 * 64)).on = false) ∧ (∃ (s :
    State), s.f F.Q_GLOBAL_SWITCHOVER = 0 ∧ s.sevModule 0 = 2 ∧ s.bit R.MFLVL_SRC 0 = false ∧ s.lostModule = false ∧ s.escalates (48 * 64) = true) ∧
    (∃ (sc : Scope) (s : State), s.canonical ∧ s.f sc.stateF = 3) :=
  ⟨⟨(47 : Tile), 31, sevs 31 3, by decide +kernel⟩,
⟨wdt 2 [] [(F.Q_GLOBAL_SWITCHOVER, 1)], by decide +kernel⟩,
⟨wdt 2 [(48 * 64, { lifted := some 0 })] [(F.MFCTL_ESC_WIN, 1)], by decide +kernel⟩,
⟨.tile 47, faulty 3 0 0, by decide +kernel⟩⟩

theorem witness_FaultStates_4 : (∃ (p : Packet) (s : State) (o : Nat), s.accepts faultClearDef p o ∧ s.canonical) ∧ (∃ (p : Packet) (s : State) (o :
    Nat), s.accepts faultStatusDef p o ∧ p.kind = 0) ∧ (∃ (p : Packet) (s : State) (o : Nat), s.accepts faultUnfenceDef p o) ∧ (∃ (n : Tile) (bit :
    BitVec 6) (s : State), bit.toNat ≠ 34 ∧ s.lostTile n.val = true) :=
  ⟨⟨pk 0x2F01 [0xFFFFFFFF, 0xFFF, 1], faulty 0 0 1, 3, by decide +kernel⟩,
⟨pk 0 [], up, 3, by decide +kernel⟩,
⟨pk 0x2F01 [18], fenced18, 3, by decide +kernel⟩,
⟨(47 : Tile), 43, faulty 1 0 0, by decide +kernel⟩⟩

theorem witness_ReportCard_1 : (∃ (s : State) (code : RecCode) (source : Nat), s.islandMode = false ∧ List.find? (Rec.isKey code source)
    (s.report.live ++ s.report.island) = none ∧ s.report.live.length < 1048576 ∧ (List.countP (fun x => x.opn) s.report.live < 4096) ∧
    s.report.condensing = false) ∧ (∃ (s : State) (code : RecCode) (source : Nat) (r : Rec), s.islandMode = false ∧ List.find? (Rec.isKey code source)
    (s.report.live ++ s.report.island) = some r ∧ s.bell - r.tStart < s.f F.RC_CTL_WINDOW * 100000 ∧ r.hist.length = 8) ∧ (∃ (s : State) (p : Packet)
    (o : Nat), s.islandMode = true ∧ s.accepts rcCondenseDef p o ∧ s.accepts rcCodeListDef p o) ∧ (∃ (s : State), s.report.condensing = true) :=
  ⟨⟨recs [] [] [(F.MEM_STAT_STATE 0, 2)], .faultRelease, 0, by decide +kernel⟩,
⟨recs [rec0] [] [(F.MEM_STAT_STATE 0, 2)], .faultRelease, 0, rec0, by decide +kernel⟩,
⟨queue 1 [(F.Q_CTL_EN 15, 1)], toHost 20000, 241, by decide +kernel⟩,
⟨condensing [rec0], by decide +kernel⟩⟩

theorem witness_ReportCard_2 : (∃ (p : Packet) (s : State) (o : Nat), s.accepts rcReadDef p o) ∧ (∃ (p : Packet) (s : State) (o : Nat), s.accepts
    rcClearDef p o) :=
  ⟨⟨pk 0 [0, 0, 65536], recs [rec0] [] [(F.MEM_STAT_STATE 0, 2)], 3, by decide +kernel⟩,
⟨pk 0 [3], recs [rec0] [] [(F.MEM_STAT_STATE 0, 2)], 3, by decide +kernel⟩⟩

theorem witness_TwinPairs_1 : (∃ (s : State), (s.twinState ≠ 1 ∨ s.f F.TWIN_STAT_HOME ≠ 1 ∨ s.twin.readyAt = none) ∧ s.twinState ≠ 4 ∧ s.twinState ≠ 5 ∧ (∀ (b : Nat), latest s.twin.leasePort s.twin.leaseChain = some b → s.bell < b + s.leaseUs + 100) ∧ s.canonical ∧ s.waitingRecords = [] ∧ s.streams.slots = [] ∧ s.work.ctxs = [] ∧ ((fun a b => match latest a b with | some x => decide (s.bell < x + 1000) | none => false) s.twin.leasePort s.twin.ackPort = (fun a b => match latest a b with | some x => decide (s.bell < x + 1000) | none => false) s.twin.leaseChain s.twin.ackChain ∨ s.twinState = 0) ∧ (s.paired = false ∨ (allPorts.any fun p => isTwinPort p && s.twinUp p) = true) ∧ (s.twinState ≠ 3 ∨ s.f F.TWIN_CFG_REVERT_EN = 0)) ∧ (∃ (s : State) (st : Nat) (via : TwinPath), s.canonical ∧ st < 8 ∧ (s.twinVia via = false ∨ s.f F.TWIN_STAT_HOME = 0 ∨ s.twinState ≠ 1 ∧ s.twinState ≠ 5)) ∧ (∃ (s : State) (p : Port) (n : Tile) (bytes : List Byte) (s1 : State) (a : Nat) (d : Nat), (s.twinState = 4 ∨ s.twinState = 5) ∧ s.paired = true ∧ s.twin.released = none ∧ (s.notHolder = false ∨ (Tu.parse bytes).type = 0 ∨ 3 < (Tu.parse bytes).type) ∧ (Tu.parse bytes).type ≠ 9 ∧ (Tu.parse bytes).type = 10 ∧ s.twinUp p.val = true ∧ s.popRx p.val 1 (fitBytes 232 bytes) = some s1 ∧ a = Map.get 0 s.twin.acked ((Tu.parse bytes).stream % 64) ∧ d = ((Tu.parse bytes).tsn + 1 + 2 ^ 32 - a % 2 ^ 32) % 2 ^ 32 ∧ d ≠ 0 ∧ a + d ≤ Map.get 0 s.twin.sent ((Tu.parse bytes).stream % 64) ∧ s.twin.waits = [] ∧ Map.get 0 s.twin.done n.val ≤ Map.get 0 s.twin.doneAcked n.val) ∧ (∃ (s : State), s.f F.TWIN_STAT_STATE = 7) :=
  ⟨⟨up, by decide +kernel⟩,
⟨twin 3, 4, .chain 5, by decide +kernel⟩,
⟨twinRx (twin 4 { sent := [(5, 4)], acked := [(5, 3)] }) 1 (mtu 10 3), 36, (5 : Tile), (mtu 10 3).bytes, twinTook (twinRx (twin 4
    { sent := [(5, 4)], acked := [(5, 3)] }) 1 (mtu 10 3)) 1 (mtu 10 3), (3 : Nat), (1 : Nat), by decide +kernel⟩,
⟨twin 7, by decide +kernel⟩⟩

theorem witness_TwinPairs_2 : (∃ (via : TwinPath) (e : BitVec 64) (s : State), (s.fromPartner via = false ∨ e.toNat < s.epoch)) ∧ (∃ (via : TwinPath)
    (e : BitVec 64) (reason : BitVec 8) (s : State), s.canonical ∧ s.fromPartner via = true ∧ s.epoch ≤ e.toNat ∧ (s.twinState = 4 ∨ s.twinState = 5)
    ∧ s.epoch < e.toNat ∧ s.twin.released = some 0 ∧ s.twinState = 4 ∧ reason.toNat = 2) ∧ (∃ (p : Port) (n : Tile) (bytes : List Byte) (s : State)
    (s1 : State) (x : Nat), (Tu.parse bytes).type = 9 ∧ s.twinUp p.val = true ∧ (s.twinState = 2 ∨ s.twinState = 3) ∧ s.popRx p.val 0 (fitBytes 232
    bytes) = some s1 ∧ s.canonical ∧ s.waitingRecords = [(p.val, { type := FlitType.data, vc := 0, payload := bytes })] ∧ Map.find ((Tu.parse
    bytes).stream % 64) s.twin.done = some x ∧ x % 2 ^ 32 < (Tu.parse bytes).tsn ∧ (Tu.parse bytes).tsn < x % 2 ^ 32 + 2 ^ 31 ∧ (Tu.parse bytes).type
    ≠ 10 ∧ Map.get 0 s.twin.doneAcked n.val < Map.get 0 s.twin.done n.val) ∧ (∃ (p : Packet) (s : State) (o : Nat), s.accepts twinStatusDef p o ∧
    s.accepts twinBindDef p o ∧ s.canonical ∧ s.accepts twinForceTakeDef p o) :=
  ⟨⟨.chain 5, 0, twin 3 {} 0 [(F.TWIN_HP_EPOCH_LO, 1)], by decide +kernel⟩,
⟨.chain 5, 1, 2, twin 4 { released := some 0 }, by decide +kernel⟩,
⟨36, (5 : Tile), (mtu 9 6).bytes, twinRx (twin 3 { done := [(5, 5)] }) 0 (mtu 9 6), twinTook (twinRx (twin 3 { done := [(5, 5)] }) 0 (mtu 9 6)) 0 (mtu
    9 6), 5, by decide +kernel⟩,
⟨pk 0 [], twin 1 { partner := some hello1 } 0 [(F.TWIN_STAT_CAUSE, 2)], 3, by decide +kernel⟩⟩

theorem witness_TwinPairs_3 : (∃ (via : TwinPath) (e : BitVec 64) (reason : BitVec 8) (s : State), s.canonical ∧ s.fromPartner via = true ∧ s.epoch ≤ e.toNat ∧ (s.twinState = 2 ∨ s.twinState = 3) ∧ s.twinState = 3 ∧ reason.toNat ≤ 1) ∧ (∃ (s : State), ((fun a b => match latest a b with | some x => decide (s.bell < x + 1000) | none => false) s.twin.leasePort s.twin.ackPort ≠ (fun a b => match latest a b with | some x => decide (s.bell < x + 1000) | none => false) s.twin.leaseChain s.twin.ackChain) ∧ s.twinState ≠ 0 ∧ s.paired = true ∧ ((allPorts.any fun p => isTwinPort p && s.twinUp p) = false) ∧ s.twinState = 4 ∧ (∃ b, s.twin.ackChain = some b ∧ s.bell ≤ b + s.leaseUs)) ∧ (∃ (via : TwinPath) (h : PairHello) (s : State), s.canonical ∧ s.twinVia via = true ∧ s.f F.TWIN_STAT_HOME ≠ 0 ∧ (s.twinState = 1 ∨ s.twinState = 5) ∧ (h.stepping ≠ s.ownHello.stepping ∨ h.fw ≠ s.ownHello.fw ∨ h.ucode ≠ s.ownHello.ucode ∨ h.pairNode ≠ s.ownHello.pairNode)) ∧ (∃ (via : TwinPath) (h : PairHello) (s : State), s.canonical ∧ s.twinVia via = true ∧ s.f F.TWIN_STAT_HOME ≠ 0 ∧ (s.twinState = 1 ∨ s.twinState = 5) ∧ h.stepping = s.ownHello.stepping ∧ h.fw = s.ownHello.fw ∧ h.ucode = s.ownHello.ucode ∧ h.pairNode = s.ownHello.pairNode ∧ s.twin.identity.getD h.idHash = h.idHash ∧ s.f F.TWIN_STAT_HOME = 2 ∧ h.home = 1 ∧ s.twinState = 1) :=
  ⟨⟨.chain 5, 0xFFFFFFFFFFFFFFFF, 1, twin 3, by decide +kernel⟩,
⟨twin 4 { ackChain := some 0 } 0 [(F.LINK_STAT_STATE 36, 2)], by decide +kernel⟩,
⟨.chain 5, helloX, pairing, by decide +kernel⟩,
⟨.chain 5, hello1, pairing, by decide +kernel, by decide +kernel, by decide +kernel, by decide +kernel, by decide +kernel, by decide +kernel,
    sameUcode _, by decide +kernel, firstPartner hello1, by decide +kernel⟩⟩

theorem witness_TwinPairs_4 : (∃ (s : State), s.canonical ∧ s.twinState = 1 ∧ s.f F.TWIN_STAT_HOME = 1 ∧ (∃ b, s.twin.readyAt = some b ∧ b + 1000000 ≤
    s.bell)) ∧ (∃ (s : State), s.canonical ∧ (s.twinState = 4 ∨ s.twinState = 5) ∧ (∃ b, s.twin.ackedLease = some b ∧ b + s.leaseUs ≤ s.bell)) ∧ (∃ (s
    : State), (s.twinState = 4 ∨ s.twinState = 5) ∧ s.paired = true ∧ s.twin.released = none ∧ s.diagnosisFails = true) ∧ (∃ (s : State), s.twinState
    = 3 ∧ (∃ b, latest s.twin.leasePort s.twin.leaseChain = some b ∧ b + s.leaseUs + 100 ≤ s.bell)) :=
  ⟨⟨twin 1 { readyAt := some 0 } 1000000, by decide +kernel⟩,
⟨twin 4 { ackedLease := some 0 } 1550, by decide +kernel⟩,
⟨twin 5 {} 0 [(F.MFSTATE_STATE, 1)], by decide +kernel⟩,
⟨twin 3 { leasePort := some 0, syncedAt := some 0 } 1700 [(F.TWIN_CFG_LEASE_T, 31)], by decide +kernel⟩⟩

theorem witness_TwinPairs_5 : (∃ (s : State), (s.twinState = 2 ∨ s.twinState = 6) ∧ (∃ b, latest s.twin.leasePort s.twin.leaseChain = some b ∧ b +
    s.leaseUs + 100 ≤ s.bell)) ∧ (∃ (via : TwinPath) (e : BitVec 64) (reason : BitVec 8) (s : State), s.canonical ∧ s.fromPartner via = true ∧ s.epoch
    ≤ e.toNat ∧ s.twinState = 2 ∧ reason.toNat ≤ 1) ∧ (∃ (via : TwinPath) (e : BitVec 64) (s : State), s.canonical ∧ s.fromPartner via = true ∧
    s.epoch ≤ e.toNat ∧ s.twinState = 6) ∧ (∃ (via : TwinPath) (e : BitVec 64) (s : State), s.canonical ∧ s.fromPartner via = true ∧ s.epoch ≤ e.toNat
    ∧ s.twinState = 5 ∧ s.twin.released = none ∧ s.twin.planned = true) :=
  ⟨⟨twin 2 { leaseChain := some 0 } 1700 [(F.TWIN_CFG_LEASE_T, 31)], by decide +kernel⟩,
⟨.port 36, 1, 0, twin 2, by decide +kernel⟩,
⟨.chain 5, 1, twin 6, by decide +kernel⟩,
⟨.chain 5, 0, twin 5 { planned := true }, by decide +kernel⟩⟩

theorem witness_TwinPairs_6 : (∃ (s : State), s.paired = true ∧ ((allPorts.any fun p => isTwinPort p && s.twinUp p) = false) ∧ s.twinState = 3) ∧ (∃
    (s : State), s.canonical ∧ s.twinState = 5 ∧ s.twin.resyncing = true ∧ s.twin.queue = [] ∧ s.twin.frames = [] ∧ (∀ e ∈ s.twin.sent, Map.get 0
    s.twin.acked e.1 = e.2)) ∧ (∃ (s : State), s.canonical ∧ s.twinState = 2 ∧ s.twin.copyDone = true ∧ s.twin.asm = [] ∧ (∀ e ∈ s.twin.done, Map.get
    0 s.twin.doneAcked e.1 = e.2)) ∧ (∃ (s : State), s.twinState = 3 ∧ s.f F.TWIN_STAT_HOME = 1 ∧ s.f F.TWIN_CFG_REVERT_EN = 1 ∧ s.bothPaths = true ∧
    (∃ b, s.twin.syncedAt = some b ∧ b + s.f F.TWIN_CFG_REVERT_HOLD * 1000000 ≤ s.bell)) :=
  ⟨⟨twin 3 {} 0 [(F.LINK_STAT_STATE 36, 2)], by decide +kernel⟩,
⟨twin 5 { resyncing := true, sent := [(5, 1)], acked := [(5, 1)] }, by decide +kernel⟩,
⟨twin 2 { copyDone := true, done := [(5, 1)], doneAcked := [(5, 1)] }, by decide +kernel⟩,
⟨twin 3 { leasePort := some 100000000, leaseChain := some 100000000, syncedAt := some 0 } 100000000 [(F.TWIN_CFG_REVERT_EN, 1),
    (F.TWIN_CFG_REVERT_HOLD, 100)], by decide +kernel⟩⟩

theorem witness_TwinPairs_7 : (∃ (bytes : List Byte) (s : State), s.notHolder = true ∧ (Tu.parse bytes).type ≠ 0 ∧ (Tu.parse bytes).type ≤ 3) ∧ (∃ (p
    : Port) (bytes : List Byte) (s : State) (s1 : State), (Tu.parse bytes).type = 9 ∧ s.twinUp p.val = true ∧ (s.twinState = 2 ∨ s.twinState = 3) ∧
    s.popRx p.val 0 (fitBytes 232 bytes) = some s1 ∧ s.nextRecord (Tu.parse bytes) = true) ∧ (∃ (p : Port) (bytes : List Byte) (s : State) (s1 :
    State) (a : Nat) (d : Nat), (Tu.parse bytes).type = 10 ∧ s.twinUp p.val = true ∧ (s.twinState = 4 ∨ s.twinState = 5) ∧ s.popRx p.val 1 (fitBytes
    232 bytes) = some s1 ∧ a = Map.get 0 s.twin.acked ((Tu.parse bytes).stream % 64) ∧ d = ((Tu.parse bytes).tsn + 1 + 2 ^ 32 - a % 2 ^ 32) % 2 ^ 32 ∧
    (d = 0 ∨ Map.get 0 s.twin.sent ((Tu.parse bytes).stream % 64) < a + d)) ∧ (∃ (p : Port) (bytes : List Byte) (s : State), (Tu.parse bytes).type =
    10 ∧ (s.twinUp p.val = false ∨ s.twinState ≠ 4 ∧ s.twinState ≠ 5)) :=
  ⟨⟨(mtu 1 0).bytes, twin 3, by decide +kernel⟩,
⟨36, (mtu 9 0).bytes, twinRx (twin 3) 0 (mtu 9 0), twinTook (twinRx (twin 3) 0 (mtu 9 0)) 0 (mtu 9 0), by decide +kernel⟩,
⟨36, (mtu 10 4).bytes, twinRx (twin 4 { sent := [(5, 4)], acked := [(5, 3)] }) 1 (mtu 10 4), twinTook (twinRx (twin 4
    { sent := [(5, 4)], acked := [(5, 3)] }) 1 (mtu 10 4)) 1 (mtu 10 4), (3 : Nat), (2 : Nat), by decide +kernel⟩,
⟨36, (mtu 10 4).bytes, twin 3 { done := [(5, 2)], doneAcked := [(5, 1)] }, by decide +kernel⟩⟩

theorem witness_TwinPairs_8 : (∃ (p : Packet) (s : State) (o : Nat), s.accepts twinHandoverDef p o) ∧ (∃ (p : Packet) (s : State) (o : Nat), s.accepts
    gangCfgDef p o) ∧ (∃ (via : TwinPath) (e : BitVec 64) (s : State), s.canonical ∧ s.fromPartner via = true ∧ s.epoch ≤ e.toNat ∧ s.twinState = 3 ∧
    s.twin.revertDue = true) ∧ (∃ (via : TwinPath) (e : BitVec 64) (s : State), s.canonical ∧ s.fromPartner via = true ∧ s.epoch ≤ e.toNat ∧
    s.twinState = 3 ∧ s.twin.released = some 2) :=
  ⟨⟨pk 0 [], twin 4, 3, by decide +kernel⟩,
⟨pk 0 [1, 2, 3, 4], up, 3, by decide +kernel⟩,
⟨.chain 5, 1, twin 3 { revertDue := true }, by decide +kernel⟩,
⟨.port 36, 1, twin 3 { released := some 2 }, by decide +kernel⟩⟩

theorem witness_TwinPairs_9 : ∃ (p : Port) (bytes : List Byte) (s : State), (Tu.parse bytes).type = 9 ∧ (s.twinUp p.val = false ∨ s.twinState ≠ 2 ∧
    s.twinState ≠ 3) :=
  ⟨36, (mtu 9 0).bytes, twinRx up 0 (mtu 9 0), by decide +kernel⟩

theorem witness_ThermalAndSites_1 : (∃ (n : Tile) (s : State) (tj : Int), s.canonical ∧ s.f (F.TILE_PWR_STAT_STATE n.val) ≠ 3 ∧ s.clocks.tripped =
    false ∧ Map.rising s.therm = true ∧ 1050 ≤ tj ∧ s.bit (R.FLVL_LO n.val) 3 = false ∧ s.lostTile n.val = false ∧ s.f (F.FSTATE_STATE n.val) = 0 ∧
    s.f F.MFSTATE_STATE = 0 ∧ (s.th n.val).tj < 1000 ∧ (s.th n.val).steps = 0 ∧ s.f (F.TTH_STAT_THROTTLE n.val) = 0 ∧ (s.f F.TH_CTL_COOL_EN = 0 ∨
    s.channel (s.f F.TH_CTL_INLET_CH) = none)) ∧ (∃ (n : Tile) (temp : BitVec 8) (s : State), isCorner n.val = true ∧ s.canonical ∧ Map.rising s.therm
    = true ∧ temp.toNat < 105 ∧ (s.th n.val).memTrip = false ∧ 85 ≤ temp.toNat) ∧ (∃ (n : Fin 2) (s : State), s.diePowered n.val = false) ∧ (∃ (n :
    Fin 2) (t : BitVec 8) (w : BitVec 16) (s : State) (b : Nat), s.canonical ∧ Map.rising s.site = true ∧ s.diePowered n.val = true ∧ t.toNat < s.f
    (F.XSITE_TEMP_T_TRIP n.val) ∧ s.f (F.XSITE_TEMP_TEMP n.val) < s.f (F.XSITE_TEMP_T_THROTTLE n.val) ∧ (s.st n.val).lastReport = some b ∧ w.toNat *
    10 ≤ capPmax (s.st n.val).cap * 11 ∧ s.f (F.XSITE_PWR_LIMIT n.val) = 0 ∧ w.toNat ≤ 2100) :=
  ⟨⟨(47 : Tile), up, (1050 : Int), by decide +kernel⟩,
⟨(47 : Tile), 104, up, by decide +kernel⟩,
⟨(1 : Fin 2), up, by decide +kernel⟩,
⟨(1 : Fin 2), 104, 2100, site 3 { lastReport := some 0, cap := List.replicate 64 255 } [(F.XSITE_TEMP_T_TRIP 1, 105), (F.XSITE_TEMP_T_THROTTLE 1,
    108), (F.XSITE_TEMP_TEMP 1, 107)], 0, by decide +kernel⟩⟩

theorem witness_ThermalAndSites_2 : (∃ (n : Tile) (s : State), (s.f (F.TILE_PWR_STAT_STATE n.val) = 3 ∨ s.clocks.tripped = true) ∧ s.clocks.tripped =
    true) ∧ (∃ (n : Fin 2) (k : Fin 4) (s : State), s.canonical ∧ Map.rising s.site = true ∧ s.f (F.XSITE_STAT_STATE n.val) ≠ 1 ∧ s.f
    (F.XSITE_STAT_MOD_UP n.val) / 2 ^ k.val % 2 = 0) ∧ (∃ (n : Fin 2) (reads : List (List Byte)) (train : SiteTrain) (k : Fin 4) (s : State) (cap :
    List Byte), s.canonical ∧ Map.rising s.site = true ∧ s.f (F.XSITE_STAT_STATE n.val) = 1 ∧ List.find? capOk (List.take 3 reads) = some cap ∧
    cap.length = 64 ∧ train.held = 0 ∧ s.f (F.XSITE_STAT_MOD_UP n.val) / 2 ^ k.val % 2 = 1) ∧ (∃ (n : Tile) (s : State) (tj : Int), s.canonical ∧ tj <
    1000 ∧ s.bit (R.FLVL_LO n.val) 3 = true) :=
  ⟨⟨(47 : Tile), tripped, by decide +kernel⟩,
⟨(1 : Fin 2), 3, up, by decide +kernel⟩,
⟨(1 : Fin 2), [[], [], cap0], trained, 3, site 1 {} [(F.XSITE_STAT_MOD_UP 1, 8)], cap0, by decide +kernel⟩,
⟨(47 : Tile), up.wr (R.FLVL_LO 47) 8, (999 : Int), by decide +kernel⟩⟩

theorem witness_ThermalAndSites_3 : (∃ (n : Tile) (temp : BitVec 8) (s : State), isReserve n.val = true ∧ s.canonical ∧ Map.rising s.therm = true ∧
    temp.toNat < 105 ∧ (s.th n.val).memTrip = false ∧ temp.toNat < 82) ∧ (∃ (n : Fin 2) (t : BitVec 8) (s : State), s.canonical ∧ Map.rising s.site =
    true ∧ s.diePowered n.val = true ∧ s.f (F.XSITE_TEMP_T_TRIP n.val) ≤ t.toNat ∧ s.f (F.XSITE_TEMP_T_THROTTLE n.val) ≤ s.f (F.XSITE_TEMP_TEMP
    n.val)) ∧ (∃ (p : Packet) (s : State) (o : Nat), s.canonical ∧ s.accepts xsiteResetDef p o ∧ (s.begun p).f (F.XSITE_CFG_EN p.unit) = 1 ∧ s.accepts
    xsiteCapReadDef p o) ∧ (∃ (n : Tile) (s : State), s.canonical ∧ Map.rising s.therm = true ∧ s.f (F.TILE_PWR_STAT_STATE n.val) ≠ 3 ∧
    s.clocks.tripped = false ∧ 1000 ≤ (s.th n.val).tj ∧ (s.th n.val).steps < 6) :=
  ⟨⟨(12 : Tile), 81, up, by decide +kernel⟩,
⟨(1 : Fin 2), 105, site 3 { steps := 3, lastReport := some 0, cap := List.replicate 64 255 } [(F.XSITE_TEMP_T_TRIP 1, 105), (F.XSITE_TEMP_T_THROTTLE
    1, 100), (F.XSITE_TEMP_TEMP 1, 100)], by decide +kernel⟩,
⟨pk 0x107 [], site 3 {} [(F.XSITE_CFG_EN 1, 1)], 3, by decide +kernel⟩,
⟨(47 : Tile), warm { tj := 1000, steps := 5 }, by decide +kernel⟩⟩

theorem witness_ThermalAndSites_4 : (∃ (n : Tile), isMemTile n.val = true) ∧ (∃ (n : Fin 8) (s : State), s.f (F.TH_RD_CFG_MODE n.val) ≠ 1 ∧ s.f
    (F.TH_RD_CFG_MODE n.val) ≠ 2) ∧ (∃ (n : Fin 8) (s : State), s.canonical ∧ (s.f (F.TH_RD_CFG_MODE n.val) = 1 ∨ s.f (F.TH_RD_CFG_MODE n.val) = 2)) ∧
    (∃ (s : State) (v : Int), s.canonical ∧ s.f F.TH_CTL_COOL_EN = 1 ∧ s.channel (s.f F.TH_CTL_INLET_CH) = some v ∧ v ≤ ↑(s.f F.TH_CTL_INLET_MAX) * 16
    ∧ s.power.inletOkAt = none ∧ s.channel (s.f F.TH_CTL_OUTLET_CH) = none) :=
  ⟨⟨(46 : Tile), by decide +kernel⟩,
⟨(7 : Fin 8), up, by decide +kernel⟩,
⟨(7 : Fin 8), up.setFs [(F.TH_RD_CFG_MODE 7, 1), (F.TH_RD_LIM_WARN_C 7, 126)], by decide +kernel⟩,
⟨cool 512, (512 : Int), by decide +kernel⟩⟩

theorem witness_ThermalAndSites_5 : (∃ (s : State) (v : Int), s.canonical ∧ s.f F.TH_CTL_COOL_EN = 1 ∧ s.channel (s.f F.TH_CTL_INLET_CH) = some v ∧
    ↑(s.f F.TH_CTL_INLET_MAX) * 16 + 80 ≤ v) ∧ (∃ (n : Fin 2) (reads : List (List Byte)) (s : State), s.canonical ∧ Map.rising s.site = true ∧ s.f
    (F.XSITE_STAT_STATE n.val) = 1 ∧ List.find? capOk (List.take 3 reads) = none) ∧ (∃ (p : Packet) (s : State) (o : Nat), s.canonical ∧ s.accepts
    xsiteResetDef p o ∧ (s.begun p).f (F.XSITE_CFG_EN p.unit) = 0) :=
  ⟨⟨cool 592, (592 : Int), by decide +kernel⟩,
⟨(1 : Fin 2), [[], zeros 64, []], site 1 { runs := [] }, by decide +kernel⟩,
⟨pk 0x107 [], site 3 {} [(F.XSITE_CFG_EN 1, 0)], 3, by decide +kernel⟩⟩

theorem witness_FirmwareAndTest_1 : (∃ (s : State), 2 ^ 30 ≤ s.nextLeaf ∧ s.sec.waiting = [] ∧ s.sec.trialAt = none ∧ s.slotState 0 ≠ 2 ∧ s.slotState
    1 ≠ 2 ∧ (s.f F.Q_GLOBAL_SWITCHOVER = 0 ∨ (s.pool.fam.any fun e => e.2.migrating) = true)) ∧ (∃ (p : Packet) (s : State) (o : Nat), s.canonical ∧
    s.accepts attestDef p o ∧ (s.begun p).nextLeaf / 2 ^ 15 < (s.begun p).sec.trees) ∧ (∃ (p : Packet) (s : State) (o : Nat), s.canonical ∧ s.accepts
    attestDef p o ∧ (s.begun p).sec.trees ≤ (s.begun p).nextLeaf / 2 ^ 15) ∧ (∃ (p : Packet) (s : State) (o : Nat), s.canonical ∧ s.accepts
    idCertReadDef p o) :=
  ⟨⟨up.setNextLeaf (2 ^ 30), by decide +kernel⟩,
⟨{ toHost 6000 with params := zeros 32 }, queue 1 [(F.Q_CTL_EN 15, 1)], 241, by decide +kernel⟩,
⟨{ toHost 6000 with params := zeros 32 }, (queue 1 [(F.Q_CTL_EN 15, 1)]).updSec (fun x => { x with trees := 0 }), 241, by decide +kernel⟩,
⟨toHost 6000, queue 1 [(F.Q_CTL_EN 15, 1)], 241, by decide +kernel⟩⟩

theorem witness_FirmwareAndTest_2 : (∃ (p : Packet) (s : State) (o : Nat), s.canonical ∧ s.accepts tileTestEnterDef p o ∧ (s.begun p).inTest p.unit =
    false) ∧ (∃ (p : Packet) (s : State) (o : Nat), s.canonical ∧ s.accepts tileTestEnterDef p o ∧ (s.begun p).inTest p.unit = true) ∧ (∃ (p : Packet)
    (s : State) (o : Nat), s.canonical ∧ s.accepts tileTestRunDef p o) ∧ (∃ (p : Packet) (s : State) (o : Nat), s.canonical ∧ s.accepts
    tileTestExitDef p o) :=
  ⟨⟨pk 0x1401 [], up, 3, by decide +kernel⟩,
⟨pk 0x1401 [], up.setF (F.TILE_TEST_STAT_STATE 20) 2, 3, by decide +kernel⟩,
⟨pk 0x1401 [1], up.setF (F.TILE_TEST_STAT_STATE 20) 2, 3, by decide +kernel⟩,
⟨pk 0x1401 [0], up.setF (F.TILE_TEST_STAT_STATE 20) 2, 3, by decide +kernel⟩⟩

theorem witness_FirmwareAndTest_3 : (∃ (n : Tile) (r : Running) (s : State), s.canonical ∧ (List.find? (fun r => [288, 336, 338, 2306].contains
    r.opcode && r.pkt.kind == 1 && r.pkt.unit == n.val && r.fin.isNone) s.proctor.running = some r) ∧ r.opcode = 336 ∧ s.f (F.TILE_TEST_STAT_STATE
    n.val) ≠ 0) ∧ (∃ (n : Tile) (r : Running) (s : State), s.canonical ∧ (List.find? (fun r => [288, 336, 338, 2306].contains r.opcode && r.pkt.kind
    == 1 && r.pkt.unit == n.val && r.fin.isNone) s.proctor.running = some r) ∧ (r.opcode = 336 ∨ r.opcode = 338) ∧ s.f (F.TILE_TEST_STAT_STATE n.val)
    = 0) ∧ (∃ (n : Tile) (r : Running) (s : State), s.canonical ∧ (List.find? (fun r => [288, 336, 338, 2306].contains r.opcode && r.pkt.kind == 1 &&
    r.pkt.unit == n.val && r.fin.isNone) s.proctor.running = some r) ∧ r.opcode = 338 ∧ s.f (F.TILE_TEST_STAT_STATE n.val) ≠ 0) ∧ (∃ (n : Tile) (r :
    Running) (s : State), s.canonical ∧ (List.find? (fun r => [288, 336, 338, 2306].contains r.opcode && r.pkt.kind == 1 && r.pkt.unit == n.val &&
    r.fin.isNone) s.proctor.running = some r) ∧ r.opcode = 2306) :=
  ⟨⟨(20 : Tile), runs (pk 0x1401 []) 0x150, running (up.setF (F.TILE_TEST_STAT_STATE 20) 1) (runs (pk 0x1401 []) 0x150), by decide +kernel⟩,
⟨(20 : Tile), runs (pk 0x1401 []) 0x150, running up (runs (pk 0x1401 []) 0x150), by decide +kernel⟩,
⟨(20 : Tile), runs (pk 0x1401 [1]) 0x152, running (up.setF (F.TILE_TEST_STAT_STATE 20) 4) (runs (pk 0x1401 [1]) 0x152), by decide +kernel⟩,
⟨(20 : Tile), runs (pk 0x1401 [1]) 0x902, running up (runs (pk 0x1401 [1]) 0x902), by decide +kernel⟩⟩

theorem witness_FirmwareAndTest_4 : (∃ (s : State) (a : Nat), s.canonical ∧ s.sec.trialAt = some a ∧ a + 600000000 ≤ s.bell) ∧ (∃ (s : State) (a :
    Nat), s.sec.trialAt = some a ∧ s.bell < a + 600000000) ∧ (∃ (s : State) (k : Nat), k < 2 ∧ s.canonical ∧ s.slotState k = 2 ∧ s.slotState (1 - k) =
    1 ∧ s.slotFault (1 - k) = none) ∧ (∃ (s : State) (w : Switch), s.canonical ∧ s.f F.Q_GLOBAL_SWITCHOVER = 1 ∧ ((s.pool.fam.any fun e =>
    e.2.migrating) = false) ∧ s.sec.switch = some w ∧ w.slot < 2) :=
  ⟨⟨{ (up.setSlot 1 2).updSec (fun x => { x with trialAt := some 5 }) with bell := 600000005 }, 5, by decide +kernel⟩,
⟨up.updSec (fun x => { x with trialAt := some 5 }), 5, by decide +kernel⟩,
⟨(up.setSlot 1 2).setSlot 0 1, (1 : Nat), by decide +kernel⟩,
⟨(up.setSlot 1 1).setF F.Q_GLOBAL_SWITCHOVER 1 |>.updSec (fun x => { x with switch := some { run := 9, slot := 1, noTrial := false } }),
    { run := 9, slot := 1, noTrial := false }, by decide +kernel⟩⟩

/-- A signed object without a body: type, SVN and key (R464). -/
def signedObj (type svn key : Nat) : List Byte :=
  leBytes 4 type ++ leBytes 4 1 ++ zeros 24 ++ leBytes 1 svn ++ leBytes 1 key ++ zeros 6 ++ sha256 [] ++ leBytes 4 0x3142 ++ zeros 5244

/-- What R465 asks of an object beside its signature. -/
def objSound (s : State) (o : List Byte) (len type : Nat) (body : Bool) : Bool :=
  !(decide (len < objHeader + (if body then objBodyLen o else 0)) || decide (objVer o ≠ 1)) && !s.keyBad (objKey o) &&
  !(!(decide (objSerial o = zeros 16) || decide (objSerial o = s.serial16)) || decide (leAt o 72 4 ≠ 0x3142) || decide (objType o ≠ type) ||
    (decide (type = 5) && decide (objKey o ≠ 1))) && !decide (objSvn o < s.svn) && !(body && !decide (objDigest o = sha256 (objBody o)))

theorem signed_sound {s : State} {o : List Byte} {len type : Nat} {body : Bool} (h : objSound s o len type body = true)
    (sig : Config.signatureOk (objKey o) (o.take objHeader) = true) : s.objFault o len type body = none := by
  simp only [objSound, Bool.and_eq_true, Bool.not_eq_true', Bool.or_eq_false_iff, decide_eq_false_iff_not] at h
  obtain ⟨⟨⟨⟨h1, h2⟩, h3⟩, h4⟩, h5⟩ := h
  unfold State.objFault
  simp_all
  split_ifs <;> first | rfl | (exfalso; simp_all; done) | (exfalso; simp_all; omega) | (exfalso; simp_all; tauto)

/-- A command whose object is signed is accepted where all else is as it must be. -/
theorem accepts_signed {s : State} {d : CmdDef} {p : Packet} {o : Nat} (hr : s.receives d p o) (ha : d.auth s p o = none)
    (hv : s.verdict { d with auth := fun _ _ _ => none } p o = none) : s.accepts d p o := by
  refine ⟨hr, ?_⟩
  rw [← hv]
  unfold State.verdict State.early
  simp only [ha]
  rfl

/-- The check of a command's signed object passes where the object is sound and its signature verifies. -/
theorem auth_signed {s : State} {p : Packet} {type : Nat} {body : Bool} (hi : (s.inputBad p p.dataLen.toNat).isSome = false)
    (hs : objSound s (s.object p) p.dataLen.toNat type body = true)
    (sig : Config.signatureOk (objKey (s.object p)) ((s.object p).take objHeader) = true) : s.objectAuth p type body = none := by
  unfold State.objectAuth
  rw [hi]
  exact signed_sound hs sig

/-- A command whose data buffer is a signed object. -/
def signedPk (target : Nat) (ws : List Nat) (type svn key : Nat) : Packet :=
  { pk target ws with data := signedObj type svn key, dataLen := 5320 }

/-- A module whose spare slot of a kind holds such an object. -/
def staged (kind type : Nat) : State := up.updSec (fun x => { x with slots := [(2 * kind + 1, signedObj type 0 0)] })

set_option maxRecDepth 100000 in
theorem witness_FirmwareAndTest_stage : ∃ (p : Packet) (s : State) (o : Nat), s.canonical ∧
    (Config.signatureOk (objKey (s.object p)) ((s.object p).take objHeader) = true → s.accepts fwStageDef p o) :=
  ⟨signedPk 0 [1] 1 0 0, up, 3, by decide +kernel, fun sig => accepts_signed (by decide +kernel)
    (auth_signed (type := 1) (body := true) (by decide +kernel) (by decide +kernel) sig) (by decide +kernel)⟩

set_option maxRecDepth 100000 in
theorem witness_FirmwareAndTest_manifest : ∃ (p : Packet) (s : State) (o : Nat), s.canonical ∧
    (Config.signatureOk (objKey (s.object p)) ((s.object p).take objHeader) = true → s.accepts fwActivateDef p o) ∧ p.w 0 = 3 :=
  ⟨signedPk 0 [3] 3 0 0, staged 3 3, 3, by decide +kernel, fun sig => accepts_signed (by decide +kernel)
    (auth_signed (type := 3) (body := false) (by decide +kernel) (by decide +kernel) sig) (by decide +kernel), by decide +kernel⟩

set_option maxRecDepth 100000 in
theorem witness_FirmwareAndTest_image : ∃ (p : Packet) (s : State) (o : Nat), s.canonical ∧
    (Config.signatureOk (objKey (s.object p)) ((s.object p).take objHeader) = true → s.accepts fwActivateDef p o) ∧ p.w 0 = 1 :=
  ⟨signedPk 0 [1] 1 0 0, staged 1 1, 3, by decide +kernel, fun sig => accepts_signed (by decide +kernel)
    (auth_signed (type := 1) (body := false) (by decide +kernel) (by decide +kernel) sig) (by decide +kernel), by decide +kernel⟩

set_option maxRecDepth 100000 in
theorem witness_FirmwareAndTest_master : ∃ (p : Packet) (s : State) (o : Nat), s.canonical ∧
    (Config.signatureOk (objKey (s.object p)) ((s.object p).take objHeader) = true → s.accepts fwTileUpdateDef p o) ∧ p.unit = (s.begun p).clockMaster :=
  ⟨signedPk 0x1 [] 2 0 0, staged 2 2, 3, by decide +kernel, fun sig => accepts_signed (by decide +kernel)
    (auth_signed (type := 2) (body := false) (by decide +kernel) (by decide +kernel) sig) (by decide +kernel), by decide +kernel⟩

set_option maxRecDepth 100000 in
theorem witness_FirmwareAndTest_tile : ∃ (p : Packet) (s : State) (o : Nat), s.canonical ∧
    (Config.signatureOk (objKey (s.object p)) ((s.object p).take objHeader) = true → s.accepts fwTileUpdateDef p o) ∧ p.unit ≠ (s.begun p).clockMaster :=
  ⟨signedPk 0x1401 [] 2 0 0, staged 2 2, 3, by decide +kernel, fun sig => accepts_signed (by decide +kernel)
    (auth_signed (type := 2) (body := false) (by decide +kernel) (by decide +kernel) sig) (by decide +kernel), by decide +kernel⟩

set_option maxRecDepth 100000 in
theorem witness_FirmwareAndTest_svn : ∃ (p : Packet) (s : State) (o : Nat), s.canonical ∧
    (Config.signatureOk (objKey (s.object p)) ((s.object p).take objHeader) = true → s.accepts secSvnCommitDef p o) ∧ (s.begun p).svn ≠ p.w 0 :=
  ⟨signedPk 0 [1] 4 1 0, up.setFs [(F.SEC_STAT_A_STATE, 0), (F.SEC_STAT_B_STATE, 0)], 3, by decide +kernel, fun sig => accepts_signed (by decide +kernel)
    (auth_signed (type := 4) (body := true) (by decide +kernel) (by decide +kernel) sig) (by decide +kernel), by decide +kernel⟩

set_option maxRecDepth 100000 in
theorem witness_FirmwareAndTest_svnSame : ∃ (p : Packet) (s : State) (o : Nat), s.canonical ∧
    (Config.signatureOk (objKey (s.object p)) ((s.object p).take objHeader) = true → s.accepts secSvnCommitDef p o) ∧ (s.begun p).svn = p.w 0 :=
  ⟨signedPk 0 [0] 4 0 0, up, 3, by decide +kernel, fun sig => accepts_signed (by decide +kernel)
    (auth_signed (type := 4) (body := true) (by decide +kernel) (by decide +kernel) sig) (by decide +kernel), by decide +kernel⟩

set_option maxRecDepth 100000 in
theorem witness_FirmwareAndTest_revoke : ∃ (p : Packet) (s : State) (o : Nat), s.canonical ∧
    (Config.signatureOk (objKey (s.object p)) ((s.object p).take objHeader) = true → s.accepts secKeyRevokeDef p o) :=
  ⟨signedPk 0 [] 5 0 1, up, 3, by decide +kernel, fun sig => accepts_signed (by decide +kernel)
    (auth_signed (type := 5) (body := true) (by decide +kernel) (by decide +kernel) sig) (by decide +kernel)⟩

/-- How a link's flit is decoded. -/
def heardFlit (v : Via) (bytes : List Byte) : Option (List Byte × List Nat) :=
  let crcOk := fun (c : List Byte) => crc64 (c.take 248) == leAt c 248 8
  if v.code < 240 then rsDecode crcOk (fitBytes 272 bytes) else if crcOk (fitBytes 256 bytes) then some (fitBytes 256 bytes, []) else none

/-- What a clean flit with header h changes before its type is looked at. -/
def heard (s : State) (q h : Nat) : State :=
  ((s.updLink q (fun l => { l with rxPhase := phaseAfter (s.dirMap q true).1 l.rxPhase 272 })).setFs
    [(F.LINK_FC_TX_XOFF0 q, h / 2 ^ 80 % 2), (F.LINK_FC_TX_XOFF1 q, h / 2 ^ 81 % 2)]).updLink q (fun l =>
      if h / 2 ^ 82 % 32 ≤ 16 then { l with tel := Map.put (h / 2 ^ 82 % 32) (h / 2 ^ 88 % 65536) l.tel } else l)

/-- How far a flit of header h is ahead of the expected number. -/
def aheadBy (s : State) (q h : Nat) : Nat := (h / 2 ^ 8 % 2 ^ 24 + seqMod - (heard s q h).f (F.LINK_SEQ_RX_SEQ q)) % seqMod

set_option maxRecDepth 100000 in
theorem witness_FlitsReceived_bad : ∃ (v : Via) (bytes : List Byte) (s : State), s.linkRuns v.code = true ∧ s.b (F.SDS_STAT_RX_QUIET v.code) = false ∧
    heardFlit v bytes = none :=
  ⟨.site 3, [1], site1, by decide +kernel⟩

set_option maxRecDepth 100000 in
theorem witness_FlitsReceived_ack : ∃ (v : Via) (bytes : List Byte) (s : State), s.linkRuns v.code = true ∧ s.b (F.SDS_STAT_RX_QUIET v.code) = false ∧
    heardFlit v bytes = some (bytes, []) ∧ leAt bytes 0 16 / 2 ^ 6 % 2 = 0 ∧ leAt bytes 0 16 / 2 ^ 7 % 2 = 0 ∧ leAt bytes 0 16 % 16 = 1 ∧ leAt bytes 0 16 / 2 ^ 4 % 4 = 0 :=
  ⟨.site 3, flitBytes (1 + 15 * 2 ^ 112) [], site1, by decide +kernel⟩

set_option maxRecDepth 100000 in
theorem witness_FlitsReceived_next : ∃ (v : Via) (bytes : List Byte) (s : State), s.linkRuns v.code = true ∧ s.b (F.SDS_STAT_RX_QUIET v.code) = false ∧
    heardFlit v bytes = some (bytes, []) ∧ leAt bytes 0 16 / 2 ^ 6 % 2 = 0 ∧ leAt bytes 0 16 / 2 ^ 7 % 2 = 0 ∧ leAt bytes 0 16 % 16 = 2 ∧ leAt bytes 0 16 / 2 ^ 4 % 4 = 0 ∧ aheadBy s v.code (leAt bytes 0 16) = 0 ∧
    ((heard s v.code (leAt bytes 0 16)).link v.code).occ 0 < (heard s v.code (leAt bytes 0 16)).f (F.LINK_FC_VC0_PART v.code) ∧
    ((heard s v.code (leAt bytes 0 16)).link v.code).dozeSent = false :=
  ⟨.site 3, flitBytes (2 + 0xFFFFFF * 2 ^ 8) [], site1.setFs [(F.LINK_SEQ_RX_SEQ 243, 0xFFFFFF), (F.LINK_FC_VC0_PART 243, 1)], by decide +kernel⟩

set_option maxRecDepth 100000 in
theorem witness_FlitsReceived_ahead : ∃ (v : Via) (bytes : List Byte) (s : State), s.linkRuns v.code = true ∧ s.b (F.SDS_STAT_RX_QUIET v.code) = false ∧
    heardFlit v bytes = some (bytes, []) ∧ leAt bytes 0 16 / 2 ^ 6 % 2 = 0 ∧ leAt bytes 0 16 / 2 ^ 7 % 2 = 0 ∧ leAt bytes 0 16 % 16 = 2 ∧ leAt bytes 0 16 / 2 ^ 4 % 4 = 0 ∧ 0 < aheadBy s v.code (leAt bytes 0 16) ∧ aheadBy s v.code (leAt bytes 0 16) < 2 ^ 22 :=
  ⟨.site 3, flitBytes 2 [], site1.setFs [(F.LINK_SEQ_RX_SEQ 243, 0xFFFFFF)], by decide +kernel⟩

set_option maxRecDepth 100000 in
theorem witness_FlitsReceived_again : ∃ (v : Via) (bytes : List Byte) (s : State), s.linkRuns v.code = true ∧ s.b (F.SDS_STAT_RX_QUIET v.code) = false ∧
    heardFlit v bytes = some (bytes, []) ∧ leAt bytes 0 16 / 2 ^ 6 % 2 = 0 ∧ leAt bytes 0 16 / 2 ^ 7 % 2 = 0 ∧ leAt bytes 0 16 % 16 = 2 ∧ leAt bytes 0 16 / 2 ^ 4 % 4 = 0 ∧ seqMod - 2 ^ 22 ≤ aheadBy s v.code (leAt bytes 0 16) ∧
    ((heard s v.code (leAt bytes 0 16)).link v.code).dupAt = some (heard s v.code (leAt bytes 0 16)).bell ∧ 0 < ((heard s v.code (leAt bytes 0 16)).link v.code).ackIdle :=
  ⟨.site 3, flitBytes (2 + 0xFFFFFF * 2 ^ 8) [], site1.updLink 243 (fun l => { l with dupAt := some 0 }), by decide +kernel⟩

theorem witness_FlitsReceived_nak : ∃ (v : Via) (s : State) (n : Nat), (s.link v.code).unacked.length < (n + seqMod - s.f (F.LINK_SEQ_ACK_SEQ v.code)) % seqMod :=
  ⟨.port 143, lnk {} [(F.LINK_STAT_STATE 143, 3)], 1, by decide +kernel⟩

theorem witness_FlitsReceived_off : ∃ (v : Via) (s : State), s.linkRuns v.code = false := ⟨.port 143, up, by decide +kernel⟩

theorem witness_ProctorRounds_idle : ∃ s : State, ∀ c, s.waitingAt c = none := by
  refine ⟨State.reset, fun c => ?_⟩
  have h (path : Sys2Proof.Path) : State.reset.listens path = false := by
    unfold State.listens
    rw [show (State.reset.clocks.tripped || State.reset.sec.recovery) = false by decide +kernel,
      show State.reset.b F.Q_GLOBAL_PROCTOR_READY = false by decide +kernel]
    rfl
  unfold State.waitingAt
  simp only [h]
  split <;> simp

end Sys2Proof.Tests
end

section
/-! SUPPORT. Every command keeps the canonical forms. -/

namespace Sys2Proof.Machine
/-- Every command leaves the queue alone and keeps the canonical forms: the law of each command's meaning, collected over the
commands. -/
theorem Kept.exec {z s : State} (hk : Kept z s) (c : Instr) : ∀ t, Machine.exec c s = .next t → Kept z t := by
  cases c with
  | nop p => exact Kept.execNop hk p
  | identify p => exact Kept.execIdentify hk p
  | whoami p => exact Kept.execWhoami hk p
  | attest p => exact Kept.execAttest hk p
  | idCertRead p => exact Kept.execIdCertRead hk p
  | regRead p => exact Kept.execRegRead hk p
  | regWrite p => exact Kept.execRegWrite hk p
  | regUpdate p => exact Kept.execRegUpdate hk p
  | journalHead p => exact Kept.execJournalHead hk p
  | journalRead p => exact Kept.execJournalRead hk p
  | reset p => exact Kept.execReset hk p
  | xsiteReset p => exact Kept.execXsiteReset hk p
  | xsiteCapRead p => exact Kept.execXsiteCapRead hk p
  | tileTestEnter p => exact Kept.execTileTestEnter hk p
  | tileTestRun p => exact Kept.execTileTestRun hk p
  | tileTestExit p => exact Kept.execTileTestExit hk p
  | portTrain p => exact Kept.execPortTrain hk p
  | portLaneset p => exact Kept.execPortLaneset hk p
  | phoCommission p => exact Kept.execPhoCommission hk p
  | phoMonRead p => exact Kept.execPhoMonRead hk p
  | phoSubstitute p => exact Kept.execPhoSubstitute hk p
  | phoRestore p => exact Kept.execPhoRestore hk p
  | phoRefmon p => exact Kept.execPhoRefmon hk p
  | portEyeScan p => exact Kept.execPortEyeScan hk p
  | portPrbs p => exact Kept.execPortPrbs hk p
  | brimFence p => exact Kept.execBrimFence hk p
  | brimUnfence p => exact Kept.execBrimUnfence hk p
  | memAlloc p => exact Kept.execMemAlloc hk p
  | memFree p => exact Kept.execMemFree hk p
  | memMigrate p => exact Kept.execMemMigrate hk p
  | memQuery p => exact Kept.execMemQuery hk p
  | memPoolStat p => exact Kept.execMemPoolStat hk p
  | memAttr p => exact Kept.execMemAttr hk p
  | omeJobSubmit p => exact Kept.execOmeJobSubmit hk p
  | omeJobQuery p => exact Kept.execOmeJobQuery hk p
  | omeJobCancel p => exact Kept.execOmeJobCancel hk p
  | omeStageLoad p => exact Kept.execOmeStageLoad hk p
  | omeStageRelease p => exact Kept.execOmeStageRelease hk p
  | omeStageQuery p => exact Kept.execOmeStageQuery hk p
  | collGroupCreate p => exact Kept.execCollGroupCreate hk p
  | collGroupDestroy p => exact Kept.execCollGroupDestroy hk p
  | collGroupModify p => exact Kept.execCollGroupModify hk p
  | collGroupQuery p => exact Kept.execCollGroupQuery hk p
  | collOpPost p => exact Kept.execCollOpPost hk p
  | collOpQuery p => exact Kept.execCollOpQuery hk p
  | collOpAbort p => exact Kept.execCollOpAbort hk p
  | streamOpen p => exact Kept.execStreamOpen hk p
  | streamClose p => exact Kept.execStreamClose hk p
  | streamQuery p => exact Kept.execStreamQuery hk p
  | streamReserveRelease p => exact Kept.execStreamReserveRelease hk p
  | streamReserveReturn p => exact Kept.execStreamReserveReturn hk p
  | famMap p => exact Kept.execFamMap hk p
  | famRead p => exact Kept.execFamRead hk p
  | blockRun p => exact Kept.execBlockRun hk p
  | blockTrace p => exact Kept.execBlockTrace hk p
  | blockRelease p => exact Kept.execBlockRelease hk p
  | blockQuery p => exact Kept.execBlockQuery hk p
  | ageReplanReset p => exact Kept.execAgeReplanReset hk p
  | ageQuery p => exact Kept.execAgeQuery hk p
  | faultStatus p => exact Kept.execFaultStatus hk p
  | faultClear p => exact Kept.execFaultClear hk p
  | faultRelease p => exact Kept.execFaultRelease hk p
  | faultUnfence p => exact Kept.execFaultUnfence hk p
  | faultInject p => exact Kept.execFaultInject hk p
  | rcRead p => exact Kept.execRcRead hk p
  | rcCondense p => exact Kept.execRcCondense hk p
  | rcClear p => exact Kept.execRcClear hk p
  | rcCodeList p => exact Kept.execRcCodeList hk p
  | fwStage p => exact Kept.execFwStage hk p
  | fwActivate p => exact Kept.execFwActivate hk p
  | fwTileUpdate p => exact Kept.execFwTileUpdate hk p
  | secSvnCommit p => exact Kept.execSecSvnCommit hk p
  | secKeyRevoke p => exact Kept.execSecKeyRevoke hk p
  | twinStatus p => exact Kept.execTwinStatus hk p
  | twinBind p => exact Kept.execTwinBind hk p
  | twinHandover p => exact Kept.execTwinHandover hk p
  | twinForceTake p => exact Kept.execTwinForceTake hk p
  | gangCfg p => exact Kept.execGangCfg hk p
  | pwrTileMode p => exact Kept.execPwrTileMode hk p
  | pwrModuleStandby p => exact Kept.execPwrModuleStandby hk p
  | pwrModuleResume p => exact Kept.execPwrModuleResume hk p
  | pwrCapSet p => exact Kept.execPwrCapSet hk p
  | pwrPolicySet p => exact Kept.execPwrPolicySet hk p
  | pwrQuery p => exact Kept.execPwrQuery hk p
  | proctorTakePacket => exact Kept.execProctorTakePacket hk
  | commandComplete path tag meas gang => exact Kept.execCommandComplete hk path tag meas gang
  | qdbSqTailWrite src q v => exact Kept.execQdbSqTailWrite hk src q v
  | qdbCqHeadWrite src q v => exact Kept.execQdbCqHeadWrite hk src q v
  | qEnable src q v => exact Kept.execQEnable hk src q v
  | qDisable src q v => exact Kept.execQDisable hk src q v
  | qDrainDone q => exact Kept.execQDrainDone hk q
  | cxlIoError q => exact Kept.execCxlIoError hk q
  | cxlHotReset n lost => exact Kept.execCxlHotReset hk n lost
  | cxlLinkTrained n rate width rev => exact Kept.execCxlLinkTrained hk n rate width rev
  | cxlMemRead n dpa ecc => exact Kept.execCxlMemRead hk n dpa ecc
  | cxlMemWrite n dpa bytes => exact Kept.execCxlMemWrite hk n dpa bytes
  | bar0BadAccess src off write => exact Kept.execBar0BadAccess hk src off write
  | bar0RegWrite src off v => exact Kept.execBar0RegWrite hk src off v
  | regLoRead src off => exact Kept.execRegLoRead hk src off
  | jrnlHeadSeqLoRead src => exact Kept.execJrnlHeadSeqLoRead hk src
  | sleepingTileAccess src t rel w => exact Kept.execSleepingTileAccess hk src t rel w
  | nodeCfgWrite src v => exact Kept.execNodeCfgWrite hk src v
  | linkEnable src p v => exact Kept.execLinkEnable hk src p v
  | linkDisable src p v => exact Kept.execLinkDisable hk src p v
  | crownDisable src t v => exact Kept.execCrownDisable hk src t v
  | omeDisable src t v => exact Kept.execOmeDisable hk src t v
  | tilePwrCtlWrite src t v => exact Kept.execTilePwrCtlWrite hk src t v
  | strmRingHeadWrite src t v => exact Kept.execStrmRingHeadWrite hk src t v
  | ffirstValidClear scope => exact Kept.execFfirstValidClear hk scope
  | journalEntryDurable => exact Kept.execJournalEntryDurable hk
  | journalWriteTimeout => exact Kept.execJournalWriteTimeout hk
  | journalFlashRecover => exact Kept.execJournalFlashRecover hk
  | chainFrameReceive bytes => exact Kept.execChainFrameReceive hk bytes
  | rollcall next => exact Kept.execRollcall hk next
  | mchLinkChange outSide => exact Kept.execMchLinkChange hk outSide
  | cmdPacketAssembled v bytes => exact Kept.execCmdPacketAssembled hk v bytes
  | refLoss pwr => exact Kept.execRefLoss hk pwr
  | refReturn pwr ofs => exact Kept.execRefReturn hk pwr ofs
  | combStart t c found => exact Kept.execCombStart hk t c found
  | laserOvertemp t c tj => exact Kept.execLaserOvertemp hk t c tj
  | ringResonanceFound t ring => exact Kept.execRingResonanceFound hk t ring
  | ringSearchTimeout t ring => exact Kept.execRingSearchTimeout hk t ring
  | ringLockLost t ring => exact Kept.execRingLockLost hk t ring
  | ringHeadroomLow t ring head => exact Kept.execRingHeadroomLow hk t ring head
  | fadeEvaluation t readings => exact Kept.execFadeEvaluation hk t readings
  | substituteLocked t u => exact Kept.execSubstituteLocked hk t u
  | substituteLockTimeout t u => exact Kept.execSubstituteLockTimeout hk t u
  | laneSourceMoved t role unit lock => exact Kept.execLaneSourceMoved hk t role unit lock
  | losAssert p => exact Kept.execLosAssert hk p
  | losDeassert p => exact Kept.execLosDeassert hk p
  | beaconWordReceive p w => exact Kept.execBeaconWordReceive hk p w
  | trainingWordReceive p line w => exact Kept.execTrainingWordReceive hk p line w
  | trainStageDone p pass => exact Kept.execTrainStageDone hk p pass
  | trainStageTimeout p pass => exact Kept.execTrainStageTimeout hk p pass
  | rateHuntStep p => exact Kept.execRateHuntStep hk p
  | trainRetryTimer p => exact Kept.execTrainRetryTimer hk p
  | laneOffsetCheck p ofs => exact Kept.execLaneOffsetCheck hk p ofs
  | tapSaturated p j => exact Kept.execTapSaturated hk p j
  | a1Entry p => exact Kept.execA1Entry hk p
  | keepPhaseBurst p => exact Kept.execKeepPhaseBurst hk p
  | a1Exit p => exact Kept.execA1Exit hk p
  | eyeScanPointDone p mism => exact Kept.execEyeScanPointDone hk p mism
  | marginSweepStep p j opening => exact Kept.execMarginSweepStep hk p j opening
  | codewordReceive v bytes onNew => exact Kept.execCodewordReceive hk v bytes onNew
  | flitSend v => exact Kept.execFlitSend hk v
  | ackIdleTimer v => exact Kept.execAckIdleTimer hk v
  | replayTimerExpiry v => exact Kept.execReplayTimerExpiry hk v
  | fastRetrainDone v ok => exact Kept.execFastRetrainDone hk v ok
  | rttMeasure v => exact Kept.execRttMeasure hk v
  | laneset p msg => exact Kept.execLaneset hk p msg
  | lanesetAck p msg => exact Kept.execLanesetAck hk p msg
  | lanesetBoundary p => exact Kept.execLanesetBoundary hk p
  | lanesetAckTimeout p => exact Kept.execLanesetAckTimeout hk p
  | lanesetCancel p msg => exact Kept.execLanesetCancel hk p msg
  | lanesetCancelWindowEnd p => exact Kept.execLanesetCancelWindowEnd hk p
  | echo v msg => exact Kept.execEcho hk v msg
  | echoReply v msg elapsed => exact Kept.execEchoReply hk v msg elapsed
  | verify p msg => exact Kept.execVerify hk p msg
  | doze p => exact Kept.execDoze hk p
  | awake p => exact Kept.execAwake hk p
  | awakeTimeout p => exact Kept.execAwakeTimeout hk p
  | portReset p => exact Kept.execPortReset hk p
  | crownStartPulse => exact Kept.execCrownStartPulse hk
  | crownSlot offers => exact Kept.execCrownSlot hk offers
  | crownBurstReceive t plane lock body => exact Kept.execCrownBurstReceive hk t plane lock body
  | crownHoldExpiry t orig vc => exact Kept.execCrownHoldExpiry hk t orig vc
  | crownRtoExpiry t final vc => exact Kept.execCrownRtoExpiry hk t final vc
  | crownProbeDue t dst => exact Kept.execCrownProbeDue hk t dst
  | crownDeadMapUpdate t tx rx asleep => exact Kept.execCrownDeadMapUpdate hk t tx rx asleep
  | brimFrameReceive t e bytes ce ue => exact Kept.execBrimFrameReceive hk t e bytes ce ue
  | brimUeLimit t e => exact Kept.execBrimUeLimit hk t e
  | brimTestDone t e ue ce farUe farCe => exact Kept.execBrimTestDone hk t e ue ce farUe farCe
  | stentStandinMove t => exact Kept.execStentStandinMove hk t
  | streamData v bytes => exact Kept.execStreamData hk v bytes
  | memRead v bytes ecc => exact Kept.execMemRead hk v bytes ecc
  | memWrite v bytes => exact Kept.execMemWrite hk v bytes
  | credit v bytes => exact Kept.execCredit hk v bytes
  | creditReportDue h => exact Kept.execCreditReportDue hk h
  | streamReturnHold h => exact Kept.execStreamReturnHold hk h
  | streamSuspendTimeout h => exact Kept.execStreamSuspendTimeout hk h
  | streamCloseDrained h => exact Kept.execStreamCloseDrained hk h
  | closeNoticeDeliver v => exact Kept.execCloseNoticeDeliver hk v
  | famInvalidateDone => exact Kept.execFamInvalidateDone hk
  | famCacheMissFill t index => exact Kept.execFamCacheMissFill hk t index
  | famCopyLost c => exact Kept.execFamCopyLost hk c
  | famCopyRebuilt c => exact Kept.execFamCopyRebuilt hk c
  | frameZeroed slot => exact Kept.execFrameZeroed hk slot
  | migratePass1Done t => exact Kept.execMigratePass1Done hk t
  | migrateFrameSwitch t => exact Kept.execMigrateFrameSwitch hk t
  | patrolScrubStep t ecc => exact Kept.execPatrolScrubStep hk t ecc
  | memoryUnavailable t => exact Kept.execMemoryUnavailable hk t
  | memoryReturn t => exact Kept.execMemoryReturn hk t
  | memTempSample t temp => exact Kept.execMemTempSample hk t temp
  | omePassStart t => exact Kept.execOmePassStart hk t
  | omePassEnd t pilot row bank readings => exact Kept.execOmePassEnd hk t pilot row bank readings
  | omeBankReloadDone t bank => exact Kept.execOmeBankReloadDone hk t bank
  | pilotLimitExceeded t pilot row bank => exact Kept.execPilotLimitExceeded hk t pilot row bank
  | pilotAcquired t => exact Kept.execPilotAcquired hk t
  | reacqTimeout t => exact Kept.execReacqTimeout hk t
  | omeSubstituteChange t => exact Kept.execOmeSubstituteChange hk t
  | omeFail t => exact Kept.execOmeFail hk t
  | jobStagingDone origin tag => exact Kept.execJobStagingDone hk origin tag
  | jobUnitWritten origin tag t => exact Kept.execJobUnitWritten hk origin tag t
  | jobSharesEnded origin tag => exact Kept.execJobSharesEnded hk origin tag
  | jobMirrorDone origin tag => exact Kept.execJobMirrorDone hk origin tag
  | projectBatchWait origin tag => exact Kept.execProjectBatchWait hk origin tag
  | collOpStart c => exact Kept.execCollOpStart hk c
  | collData v bytes => exact Kept.execCollData hk v bytes
  | collRoute v bytes => exact Kept.execCollRoute hk v bytes
  | collEnd v bytes => exact Kept.execCollEnd hk v bytes
  | collSegmentReduced c seg stage => exact Kept.execCollSegmentReduced hk c seg stage
  | collOpComplete c => exact Kept.execCollOpComplete hk c
  | peerPartialReceive v bytes digestOk => exact Kept.execPeerPartialReceive hk v bytes digestOk
  | blockTempEvaluation t avg => exact Kept.execBlockTempEvaluation hk t avg
  | blockSettleTimeout t => exact Kept.execBlockSettleTimeout hk t
  | blockTimetableDue t chan => exact Kept.execBlockTimetableDue hk t chan
  | blockRunStart t slot => exact Kept.execBlockRunStart hk t slot
  | blockRunEnd t chan found => exact Kept.execBlockRunEnd hk t chan found
  | blockRunAbort t chan => exact Kept.execBlockRunAbort hk t chan
  | laneRunRefused p => exact Kept.execLaneRunRefused hk p
  | referenceTraceDue t => exact Kept.execReferenceTraceDue hk t
  | referenceTraceEnd t found => exact Kept.execReferenceTraceEnd hk t found
  | ageingEvaluation t m => exact Kept.execAgeingEvaluation hk t m
  | refclkLoss => exact Kept.execRefclkLoss hk
  | refclkReturn t00 t47 => exact Kept.execRefclkReturn hk t00 t47
  | cdcTimeout t => exact Kept.execCdcTimeout hk t
  | strapSample straps => exact Kept.execStrapSample hk straps
  | powerOn a b => exact Kept.execPowerOn hk a b
  | proctorReady => exact Kept.execProctorReady hk
  | mresetNLow => exact Kept.execMresetNLow hk
  | coldReset => exact Kept.execColdReset hk
  | warmReset => exact Kept.execWarmReset hk
  | tileReset t => exact Kept.execTileReset hk t
  | d1Entry t => exact Kept.execD1Entry hk t
  | d1EntryAbandon t => exact Kept.execD1EntryAbandon hk t
  | portActivityWake p => exact Kept.execPortActivityWake hk p
  | d1Exit t => exact Kept.execD1Exit hk t
  | d2Entry t => exact Kept.execD2Entry hk t
  | d2Exit t => exact Kept.execD2Exit hk t
  | m1Exit row => exact Kept.execM1Exit hk row
  | tjSample t diodes ring => exact Kept.execTjSample hk t diodes ring
  | thermtrip t => exact Kept.execThermtrip hk t
  | throttleLoopTick t => exact Kept.execThrottleLoopTick hk t
  | remoteDiodeUpdate n v open_ short => exact Kept.execRemoteDiodeUpdate hk n v open_ short
  | coolantCheck => exact Kept.execCoolantCheck hk
  | faultSourceAssert scope bit hold => exact Kept.execFaultSourceAssert hk scope bit hold
  | safeEntered scope => exact Kept.execSafeEntered hk scope
  | quietTimerExpiry scope => exact Kept.execQuietTimerExpiry hk scope
  | faultRecoveryDone scope => exact Kept.execFaultRecoveryDone hk scope
  | condensationDue => exact Kept.execCondensationDue hk
  | condensationDone => exact Kept.execCondensationDone hk
  | islandBufferCopy => exact Kept.execIslandBufferCopy hk
  | pairHello via h => exact Kept.execPairHello hk via h
  | pairHelloResend => exact Kept.execPairHelloResend hk
  | partnerWaitTimeout => exact Kept.execPartnerWaitTimeout hk
  | leaseRenewalDue => exact Kept.execLeaseRenewalDue hk
  | lease via epoch bell leaseT mseq health => exact Kept.execLease hk via epoch bell leaseT mseq health
  | leaseAck via epoch bell mseq => exact Kept.execLeaseAck hk via epoch bell mseq
  | release via epoch mseq reason => exact Kept.execRelease hk via epoch mseq reason
  | leaseExpiry => exact Kept.execLeaseExpiry hk
  | selfFence => exact Kept.execSelfFence hk
  | selfDiagnosisFail => exact Kept.execSelfDiagnosisFail hk
  | leasePathLoss => exact Kept.execLeasePathLoss hk
  | holderNotice v bytes => exact Kept.execHolderNotice hk v bytes
  | mirror p bytes => exact Kept.execMirror hk p bytes
  | mirrorAck p bytes => exact Kept.execMirrorAck hk p bytes
  | mirrorAckDue t => exact Kept.execMirrorAckDue hk t
  | twinPortsUnreachable => exact Kept.execTwinPortsUnreachable hk
  | resyncComplete => exact Kept.execResyncComplete hk
  | revertHoldExpiry => exact Kept.execRevertHoldExpiry hk
  | siteDiscovery n reads train => exact Kept.execSiteDiscovery hk n reads train
  | sidebandTimeout n => exact Kept.execSidebandTimeout hk n
  | ucieWidthDegrade n k => exact Kept.execUcieWidthDegrade hk n k
  | dieTempReport n temp => exact Kept.execDieTempReport hk n temp
  | dieThrottleStep n => exact Kept.execDieThrottleStep hk n
  | dieTempReportTimeout n => exact Kept.execDieTempReportTimeout hk n
  | sitePowerSample n p => exact Kept.execSitePowerSample hk n p
  | bootLoad chain => exact Kept.execBootLoad hk chain
  | trialExpiry => exact Kept.execTrialExpiry hk
  | trialBootFail => exact Kept.execTrialBootFail hk
  | switchoverDone => exact Kept.execSwitchoverDone hk
  | leafTreeBuilt => exact Kept.execLeafTreeBuilt hk
  | bladeBreaker x => exact Kept.execBladeBreaker hk x
  | feedLost x => exact Kept.execFeedLost hk x
  | ovTrip => exact Kept.execOvTrip hk
  | ovRecovery a b => exact Kept.execOvRecovery hk a b
  | converterFail k => exact Kept.execConverterFail hk k
  | vinLow => exact Kept.execVinLow hk
  | ceilingLoopTick va ia vb ib pin vbus pbus => exact Kept.execCeilingLoopTick hk va ia vb ib pin vbus pbus
  | policyIdleD1 t => exact Kept.execPolicyIdleD1 hk t
  | policyIdleD2 t => exact Kept.execPolicyIdleD2 hk t
  | proctorWdt => exact Kept.execProctorWdt hk
  | faultSourceDeassert scope bit => exact Kept.execFaultSourceDeassert hk scope bit
  | feedReturn x => exact Kept.execFeedReturn hk x
  | referenceTraceCrownEnd t => exact Kept.execReferenceTraceCrownEnd hk t

end Sys2Proof.Machine

open Sys2Proof Sys2Proof.Machine

/-- Settles O3: the idle step moves only the Bell, and a command's step starts from the state without that command, whose tables
are the same. -/
theorem stepKeepsCanonical : Obligations.StepKeepsCanonical := by
  unfold Obligations.StepKeepsCanonical
  intro s t hs e
  unfold step at e
  split at e
  · cases e; exact hs
  · next c rest _ => exact ((Kept.refl { s with pending := rest }).exec c t e).2 hs
end

section
/-! SUPPORT. What a table, a memory, a field reads after a change. -/

namespace Sys2Proof.Machine

/-! ### Tables and memories -/

/-- Dropping entries by their keys drops what is found at those keys. -/
theorem Map.find_filter_key {α : Type} (p : Nat → Bool) (k : Nat) (m : List (Nat × α)) :
    Map.find k (m.filter (fun e => p e.1)) = if p k then Map.find k m else none := by
  induction m with
  | nil => simp [Map.find]
  | cons e m ih =>
    obtain ⟨k', v⟩ := e
    by_cases hk : k = k'
    · subst hk
      by_cases hp : p k <;> simp_all [Map.find]
    · by_cases hp : p k' <;> simp_all [Map.find]

theorem Memory.byte_clear (m : List Host.Cell) (a n b : Nat) :
    Memory.byte (Memory.clear m a n) b = if a ≤ b ∧ b < a + n then 0 else Memory.byte m b := by
  unfold Memory.byte Memory.clear Map.get
  rw [Map.find_filter_key (fun k => !(decide (a ≤ k) && decide (k < a + n)))]
  by_cases h : a ≤ b ∧ b < a + n
  · simp [h]
  · rw [if_pos (by simp; omega), if_neg h]

/-- A memory reads as the bytes it holds. -/
theorem Memory.read_eq {m : List Host.Cell} {a : Nat} {bs : List Byte}
    (h : ∀ i (hi : i < bs.length), Memory.byte m (a + i) = bs[i]) : Memory.read m a bs.length = bs := by
  induction bs generalizing a with
  | nil => rfl
  | cons b bs ih =>
    have hb : Memory.byte m a = b := h 0 (by simp)
    have ht : Memory.read m (a + 1) bs.length = bs :=
      ih (fun i hi => by rw [Nat.add_assoc, Nat.add_comm 1 i]; exact h (i + 1) (by simpa using hi))
    simp only [List.length_cons, Memory.read, hb, ht]

theorem Memory.read_write {m : List Host.Cell} (hm : Memory.wf m = true) (a : Nat) (bs : List Byte) :
    Memory.read (Memory.write m a bs) a bs.length = bs :=
  Memory.read_eq (fun i hi => Memory.byte_write_inside hm a bs i hi)

theorem Map.get_upd_same {α : Type} [DecidableEq α] {d : α} {m : List (Nat × α)} (h : Map.rising m = true) (k : Nat) (f : α → α) :
    Map.get d (Map.upd d m k f) k = f (Map.get d m k) := Map.get_set_same h k _

theorem Map.get_upd_ne {α : Type} [DecidableEq α] {d : α} {j k : Nat} (h : j ≠ k) (m : List (Nat × α)) (f : α → α) :
    Map.get d (Map.upd d m k f) j = Map.get d m j := Map.get_set_ne h m _

theorem Map.rising_upd {α : Type} [DecidableEq α] {d : α} {m : List (Nat × α)} (h : Map.rising m = true) (k : Nat) (f : α → α) :
    Map.rising (Map.upd d m k f) = true := by
  unfold Map.upd Map.set
  split
  · exact Map.rising_del h
  · exact Map.rising_put h

/-! ### Registers and fields -/

/-- The register file of a canonical state has rising keys. -/
theorem State.canonical.rising {s : State} (h : s.canonical) : Map.rising s.regs = true := (Map.canon_iff.1 h.1).1

theorem State.keepsRegs_setF (s : State) (x : Fld) (v : Nat) : s.keepsRegs (s.setF x v) [x.off] := fun _ h =>
  State.rd_wr_ne (by simpa using h) _

theorem State.setF_canonical {s : State} (h : s.canonical) (x : Fld) (v : Nat) : (s.setF x v).canonical :=
  ((Kept.refl s).setF x v).2 h

/-- A field bumped is a counter that saturates at all ones (R12). -/
theorem State.f_bump_same {s : State} (h : Map.rising s.regs = true) {x : Fld} (hw : x.lo + x.width ≤ 32) (n : Nat) :
    (s.bump x n).f x = min (s.f x + n) (2 ^ x.width - 1) := by
  unfold State.bump State.setSat
  rw [State.f_setF_same h x _ hw]
  have hp := Nat.two_pow_pos x.width
  exact Nat.mod_eq_of_lt (by omega)

end Sys2Proof.Machine

open Sys2Proof Sys2Proof.Machine

/-- Settles O5: each clause is the law of its operation. -/
theorem memoryReadsBack : Obligations.MemoryReadsBack := by
  unfold Obligations.MemoryReadsBack
  refine ⟨fun m a n bs hm => ?_, fun m k j f hm => ?_, fun s x y v n hs hw => ?_⟩
  · exact ⟨Memory.wf_write hm a bs, fun i hi => Memory.byte_write_inside hm a bs i hi,
      fun b hb => Memory.byte_write_outside m a bs b hb, Memory.read_write hm a bs, fun b => Memory.byte_clear m a n b⟩
  · exact ⟨Map.get_upd_same hm k f, fun hj => Map.get_upd_ne hj m f, Map.rising_upd hm k f⟩
  · refine ⟨State.f_setF_same hs.rising x v hw, fun h => ?_, State.f_bump_same hs.rising hw n, rfl, s.keepsRegs_setF x v,
      State.setF_canonical hs x v⟩
    rcases h with ho | ha
    · exact State.f_setF_off ho v
    · exact State.f_setF_apart hs.rising ha v
end

section
/-! SUPPORT. Where an offset of BAR0 lies, what sleeps, and the accesses that BAR0 turns away (R7, R16 to R18, R366). -/

namespace Sys2Proof.Machine

/-! ### Places of BAR0 (R16 to R18) -/

/-- An offset of the module global block. -/
theorem placeOf_module {off : Nat} (h : off < 0x100000) : placeOf off = some ⟨48, 3, off⟩ := by
  unfold placeOf
  rw [if_pos h]

/-- A place of the module global block is its offset. -/
theorem placeOf_tile48 {off : Nat} {pl : Place} (h : placeOf off = some pl) (ht : pl.tile = 48) :
    off < 0x100000 ∧ pl = ⟨48, 3, off⟩ := by
  unfold placeOf at h
  split at h
  · next hlt => exact ⟨hlt, (Option.some.inj h).symm⟩
  · dsimp only at h
    split at h
    · next hr =>
      simp only [Bool.and_eq_true, decide_eq_true_eq] at hr
      have htile : pl.tile = (off - 0x01000000) / 0x100000 := by
        split at h <;> exact (congrArg Place.tile (Option.some.inj h)).symm
      omega
    · exact absurd h (by simp)

/-- An offset of a tile's block: a port sub-block's place, or the tile's own. -/
theorem placeOf_tile {t rel : Nat} (ht : t < 48) (hr : rel < 0x100000) : placeOf (tileBase t + rel) =
    if 0x10000 ≤ rel ∧ rel < 0x1C000 then some ⟨t, (rel - 0x10000) / 0x4000, (rel - 0x10000) % 0x4000⟩ else some ⟨t, 3, rel⟩ := by
  have hq : (tileBase t + rel - 0x01000000) / 0x100000 = t := by unfold tileBase; omega
  have hm : (tileBase t + rel - 0x01000000) % 0x100000 = rel := by unfold tileBase; omega
  have h1 : ¬ tileBase t + rel < 0x100000 := by unfold tileBase; omega
  have h2 : 0x01000000 ≤ tileBase t + rel ∧ tileBase t + rel < 0x01000000 + 48 * 0x100000 := by unfold tileBase; omega
  unfold placeOf
  simp only [h1, h2, hq, hm, if_false, if_true, decide_true, Bool.and_self, Bool.and_eq_true, decide_eq_true_eq]

theorem placeOf_tile_tile {t rel : Nat} (ht : t < 48) (hr : rel < 0x100000) :
    ∃ pl, placeOf (tileBase t + rel) = some pl ∧ pl.tile = t := by
  rw [placeOf_tile ht hr]
  split
  · exact ⟨_, rfl, rfl⟩
  · exact ⟨_, rfl, rfl⟩

/-- The submission areas lie beyond every register. -/
theorem placeOf_sqArea {off : Nat} (h : sqArea off = true) : placeOf off = none := by
  simp only [sqArea, Bool.and_eq_true, decide_eq_true_eq] at h
  unfold placeOf
  rw [if_neg (by omega), if_neg (by simp only [Bool.and_eq_true, decide_eq_true_eq]; omega)]

theorem sqArea_false {off : Nat} (h : off < 0x04000000) : sqArea off = false := by
  simp only [sqArea, Bool.and_eq_false_iff, decide_eq_false_iff_not]
  omega

/-! ### What sleeps (R366) -/

/-- The always-on parts of a tile's own block (R366): identity, clocks and power, and the fault collector. -/
def onIsland (rel : Nat) : Prop := rel < 0x2000 ∨ 0xA0000 ≤ rel ∧ rel < 0xB0000

theorem State.sleepsAt_place (s : State) {off : Nat} {pl : Place} (h : placeOf off = some pl) :
    s.sleepsAt off = true ↔ pl.tile < 48 ∧ ¬ (pl.port = 3 ∧ onIsland pl.rel) ∧ (s.dozing pl.tile = true ∨ s.pwr pl.tile = 5) := by
  simp only [State.sleepsAt, h, onIsland, Bool.and_eq_true, Bool.or_eq_true, decide_eq_true_eq, beq_iff_eq, Bool.not_eq_true',
    ← Bool.not_eq_true, and_assoc]

/-- Where an offset of a tile's block counts as asleep: outside the always-on parts of a tile in D1, in D2, on its way out of one,
or under tile reset. -/
theorem State.sleepsAt_tile (s : State) {t rel : Nat} (ht : t < 48) (hr : rel < 0x100000) :
    s.sleepsAt (tileBase t + rel) = true ↔ ¬ onIsland rel ∧ (s.dozing t = true ∨ s.pwr t = 5) := by
  have hp := placeOf_tile ht hr
  by_cases h : 0x10000 ≤ rel ∧ rel < 0x1C000
  · rw [if_pos h] at hp
    have hi : (rel - 0x10000) / 0x4000 ≠ 3 := by omega
    have hn : ¬ onIsland rel := by unfold onIsland; omega
    rw [s.sleepsAt_place hp]
    exact ⟨fun hs => ⟨hn, hs.2.2⟩, fun hs => ⟨ht, fun hc => hi hc.1, hs.2⟩⟩
  · rw [if_neg h] at hp
    rw [s.sleepsAt_place hp]
    exact ⟨fun hs => ⟨fun hc => hs.2.1 ⟨rfl, hc⟩, hs.2.2⟩, fun hs => ⟨ht, fun hc => hs.1 hc.2, hs.2⟩⟩

theorem State.sleepsAt_of_place (s : State) {off : Nat} {pl : Place} (h : placeOf off = some pl) (ht : pl.tile = 48) :
    s.sleepsAt off = false := by
  simp [State.sleepsAt, h, ht]

theorem State.sleepsAt_of_none (s : State) {off : Nat} (h : placeOf off = none) : s.sleepsAt off = false := by
  simp [State.sleepsAt, h]

/-! ### Accesses that BAR0 turns away (R7, R366) -/

/-- A record leaves everything but the Report Card and its registers. -/
theorem State.note_onlyLog (s : State) (g : Nat) (e : RecEv) (sev source : Nat) (v : Int) :
    s.onlyLog (s.note g e sev source v) ∧ s.keepsRegs (s.note g e sev source v) logRegs := s.note_logged g e sev source v

/-- A write to a sleeping part of a tile is only noted. -/
theorem State.busWrite_sleeping {s : State} {src : BusSrc} {off : Nat} (hb : s.busOk src = true) (ha : off % 4 = 0)
    (hs : s.sleepsAt off = true) (v : Word) :
    s.busWrite src off v = s.note 0x0 .sleepingAccess 1 (tgtTile (((placeOf off).map (·.tile)).getD 0)) off := by
  have hq : sqArea off = false := by
    by_contra hq
    rw [s.sleepsAt_of_none (placeOf_sqArea (by simpa using hq))] at hs
    exact absurd hs (by simp)
  simp [State.busWrite, hb, ha, hq, hs]

/-- A read of a sleeping part of a tile returns 0 and is noted. -/
theorem State.busRead_sleeping {s : State} {src : BusSrc} {off : Nat} (hb : s.busOk src = true) (ha : off % 4 = 0)
    (hs : s.sleepsAt off = true) :
    s.busRead src off = (s.note 0x0 .sleepingAccess 1 (tgtTile (((placeOf off).map (·.tile)).getD 0)) off).emit (.busRead 0) := by
  simp [State.busRead, State.readReg, hb, ha, hs]

end Sys2Proof.Machine

open Sys2Proof Sys2Proof.Machine

/-- Settles O4: no register is listed after reset, so each reads as an unlisted one. -/
theorem resetCanonical : Obligations.ResetCanonical :=
  ⟨⟨rfl, rfl, rfl, rfl⟩, fun _ => rfl, rfl⟩

/-- Settles O6: an access of no fitting width, or to a part that sleeps, ends in the NOTICE, which writes only its record's registers. -/
theorem barBadAccess : Obligations.BarBadAccess := by
  unfold Obligations.BarBadAccess
  refine ⟨fun src off bs s hb => ⟨fun hq => ?_, fun hs hq => ?_⟩, fun src t rel v s hb ha hs => ?_, fun t rel s => ?_⟩
  · refine ⟨s.note 0x0 .badBar 1 tgtModule off.toNat, ?_, ?_, rfl, s.note_onlyLog ..⟩
    · simp [exec, execBar0BadAccess, hb, hq]
    · simp [exec, execBar0BadAccess, hb]
  · exact ⟨{ s with sq := Memory.write s.sq off.toNat bs }, by simp [exec, execBar0BadAccess, hb, hq], rfl,
      Memory.read_write hs.2.1 .., fun a ha => Memory.byte_write_outside _ _ _ a ha⟩
  · obtain ⟨pl, hpl, ht⟩ := placeOf_tile_tile t.isLt rel.isLt
    have hal : (tileBase t.val + rel.toNat) % 4 = 0 := by unfold tileBase; omega
    have hw := State.busWrite_sleeping hb hal hs
    have hr := State.busRead_sleeping hb hal hs
    simp only [hpl, Option.map_some, Option.getD_some, ht] at hw hr
    exact ⟨_, congrArg Host.Outcome.next (hw v), congrArg Host.Outcome.next hr, rfl, s.note_onlyLog ..⟩
  · have h := s.sleepsAt_tile t.isLt rel.isLt
    refine ⟨fun hi => ?_, fun ho hd => h.2 ⟨by unfold onIsland; omega, ?_⟩⟩
    · by_contra hc
      exact (h.1 (by simpa using hc)).1 hi
    · simp only [State.dozing, State.pwr, Bool.or_eq_true, beq_iff_eq]
      omega
end

section
/-! SUPPORT. Reads with their latched halves and writes through the access masks (R8 to R10, R59, R79, R83). -/

namespace Sys2Proof.Machine

/-! ### Offsets that have a register -/

/-- Every doorbell offset has a register. -/
theorem rowAt_of_doorbell {off q : Nat} (ha : off % 4 = 0) (h : doorbellOf off = some q) : rowAt off ≠ none := by
  have hall : ∀ k < 32, rowAt (0x10000 + 4 * k) ≠ none := by decide
  unfold doorbellOf at h
  split at h
  · next hr =>
    simp only [Bool.and_eq_true, decide_eq_true_eq] at hr
    have := hall ((off - 0x10000) / 4) (by omega)
    rwa [show 0x10000 + 4 * ((off - 0x10000) / 4) = off by omega] at this
  · exact absurd h (by simp)

/-- What a _HI partner says of its _LO register: it lies four bytes below, and has a register (R8). -/
theorem hiOf_spec {off hi : Nat} (h : hiOf off = some hi) : hi = off + 4 ∧ rowAt off ≠ none := by
  have hm : ∀ x ∈ [0x2008, 0x5018, 0x7010, 0xA004, 0xB000, 0xB008], globalRows.find? (fun r => r.has x) ≠ none := by decide
  have hq : ∀ k < 16, globalRows.find? (fun r => r.has (0x10110 + 0x20 * k)) ≠ none := by decide
  have ht : ∀ x ∈ [0x20008, 0x50060, 0x60010, 0xA0018], tileRows.find? (fun r => r.has x) ≠ none := by decide
  unfold hiOf at h
  unfold rowAt
  split at h
  · exact absurd h (by simp)
  · next pl hpl =>
    rw [hpl, Option.bind_some]
    unfold rowAtPlace
    dsimp only at h
    split at h
    · next h48 =>
      rw [if_pos h48]
      split at h
      · next hlo =>
        refine ⟨(Option.some.inj h).symm, ?_⟩
        simp only [Bool.or_eq_true, Bool.and_eq_true, List.contains_iff_mem, decide_eq_true_eq, beq_iff_eq] at hlo
        rcases hlo with hlo | ⟨⟨h1, h2⟩, h3⟩
        · exact hm _ hlo
        · have := hq ((pl.rel - 0x10110) / 0x20) (by omega)
          rwa [show 0x10110 + 0x20 * ((pl.rel - 0x10110) / 0x20) = pl.rel by omega] at this
      · exact absurd h (by simp)
    · next h48 =>
      rw [if_neg h48]
      split at h
      · next hlo =>
        refine ⟨(Option.some.inj h).symm, ?_⟩
        simp only [Bool.and_eq_true, List.contains_iff_mem, beq_iff_eq] at hlo
        rw [if_neg (by omega)]
        exact ht _ hlo.2
      · exact absurd h (by simp)

/-- A reserved offset latches nothing. -/
theorem latches_of_rowAt {off : Nat} (h : rowAt off = none) : latches off = [] := by
  have hj : off ≠ R.JRNL_HEAD_SEQ_LO := by
    rintro rfl
    exact absurd h (by decide)
  unfold latches
  rw [if_neg hj]
  cases hh : hiOf off with
  | none => rfl
  | some hi => exact absurd h (hiOf_spec hh).2

/-! ### Reads (R8, R9) -/

/-- A reserved offset reads 0 (R9). -/
theorem State.view_of_rowAt (s : State) {off : Nat} (h : rowAt off = none) : s.view off = 0 := by
  unfold rowAt at h
  unfold State.view
  cases hp : placeOf off with
  | none => rfl
  | some pl =>
    rw [hp, Option.bind_some] at h
    simp only [h]

/-- The latched values after a read of an offset (R8, R83). -/
def State.latchAfter (s : State) (off : Nat) : List (Nat × Word) :=
  (latches off).foldl (fun m h => Map.put h (s.view h) m) (if jrnlHeld off then s.latch else Map.del off s.latch)

/-- An aligned read of a part that is awake returns the latched value, or what the register reads as. -/
theorem State.busRead_awake {s : State} {src : BusSrc} {off : Nat} (hb : s.busOk src = true) (ha : off % 4 = 0)
    (hs : s.sleepsAt off = false) :
    s.busRead src off = { s with latch := s.latchAfter off }.emit (.busRead ((Map.find off s.latch).getD (s.view off))) := by
  simp [State.busRead, State.readReg, State.latchAfter, hb, ha, hs]

/-- A reserved offset with no half latched under it reads 0 (R9). -/
theorem State.busRead_reserved {s : State} {src : BusSrc} {off : Nat} (hb : s.busOk src = true) (ha : off % 4 = 0)
    (hr : rowAt off = none) (hs : s.sleepsAt off = false) (hl : Map.find off s.latch = none) (hj : jrnlHeld off = false) :
    s.busRead src off = { s with latch := Map.del off s.latch }.emit (.busRead 0) := by
  have hk : s.latchAfter off = Map.del off s.latch := by simp [State.latchAfter, latches_of_rowAt hr, hj]
  rw [State.busRead_awake hb ha hs, hk, hl, s.view_of_rowAt hr, Option.getD_none]

/-- A module register whose value the module does not compute reads as it is stored. -/
theorem State.view_stored (s : State) {off : Nat} {pl : Place} {r : RegRow} (hp : placeOf off = some pl) (hr : rowAtPlace pl = some r)
    (ht : pl.tile = 48) (hn : pl.rel ∉ [0x2008, 0x200C, 0x5034, 0x7004, 0x7018, 0xA018]) : s.view off = s.rd off := by
  simp only [List.mem_cons, List.not_mem_nil, or_false, not_or] at hn
  obtain ⟨h1, h2, h3, h4, h5, h6⟩ := hn
  have hh : s.hidden pl r = false := by simp [State.hidden, placeFused, ht]
  simp only [State.view, hp, hr, hh, ht, if_true, Bool.false_eq_true, if_false]
  unfold State.viewGlobal
  split <;> first | contradiction | rfl

/-- The registers of the journal head read as they are stored. -/
theorem State.view_jrnl (s : State) {off : Nat} (h : off ∈ latches R.JRNL_HEAD_SEQ_LO ∨ off = R.JRNL_HEAD_SEQ_LO) :
    s.view off = s.rd off := by
  have hall : ∀ off ∈ R.JRNL_HEAD_SEQ_LO :: latches R.JRNL_HEAD_SEQ_LO, off < 0x100000 ∧ (rowAtPlace ⟨48, 3, off⟩).isSome = true ∧
      off ∉ [0x2008, 0x200C, 0x5034, 0x7004, 0x7018, 0xA018] := by decide
  obtain ⟨h1, h2, h3⟩ := hall off (by rcases h with h | h <;> simp [h])
  obtain ⟨r, hr⟩ := Option.isSome_iff_exists.1 h2
  exact s.view_stored (placeOf_module h1) hr rfl h3

/-- Latching other registers keeps a latched value. -/
theorem Map.find_latch_ne (g : Nat → Word) {k : Nat} {l : List Nat} (hk : k ∉ l) (m : List (Nat × Word)) :
    Map.find k (l.foldl (fun m h => Map.put h (g h) m) m) = Map.find k m := by
  induction l generalizing m with
  | nil => rfl
  | cons a l ih =>
    simp only [List.mem_cons, not_or] at hk
    rw [List.foldl_cons, ih hk.2, Map.find_put_ne hk.1]

/-- A read that latches several registers latches each at what it reads as. -/
theorem Map.find_latch (g : Nat → Word) {k : Nat} {l : List Nat} (hk : k ∈ l) (m : List (Nat × Word)) :
    Map.find k (l.foldl (fun m h => Map.put h (g h) m) m) = some (g k) := by
  induction l generalizing m with
  | nil => exact absurd hk (by simp)
  | cons a l ih =>
    rw [List.foldl_cons]
    by_cases hl : k ∈ l
    · exact ih hl _
    · obtain rfl : k = a := by simpa [hl] using hk
      rw [Map.find_latch_ne g hl, Map.find_put_same]

/-- A read latches the registers it is to latch. -/
theorem State.find_latchAfter (s : State) {off k : Nat} (hk : k ∈ latches off) : Map.find k (s.latchAfter off) = some (s.view k) :=
  Map.find_latch s.view hk _

/-- A register of the journal head keeps its latched value through its own reads (R83). -/
theorem State.find_latchAfter_held (s : State) {off : Nat} (hj : off ≠ R.JRNL_HEAD_SEQ_LO) (hh : jrnlHeld off = true) :
    Map.find off (s.latchAfter off) = Map.find off s.latch := by
  unfold State.latchAfter
  rw [if_pos hh]
  refine Map.find_latch_ne s.view ?_ _
  unfold latches
  rw [if_neg hj]
  intro hm
  have := (hiOf_spec (Option.mem_toList.1 hm)).1
  omega

/-! ### Writes (R9, R10, R59) -/

/-- The journal head's registers lie in the module global block. -/
theorem jrnlHeld_lt {off : Nat} (h : jrnlHeld off = true) : off < 0x100000 := by
  simp only [jrnlHeld, Bool.or_eq_true, Bool.and_eq_true, decide_eq_true_eq] at h
  unfold R.JRNL_HEAD_SEQ_HI R.JRNL_HEAD_HASH at h
  omega

/-- An aligned write into a submission area (R59). -/
theorem State.busWrite_sqArea {s : State} {src : BusSrc} {off : Nat} (hb : s.busOk src = true) (ha : off % 4 = 0)
    (hq : sqArea off = true) (v : Word) :
    s.busWrite src off v = { s with sq := Memory.write s.sq off (leBytes 4 v.toNat) } := by
  simp [State.busWrite, hb, ha, hq]

/-- An aligned write that no check turns away. -/
theorem State.busWrite_stores {s : State} {src : BusSrc} {off : Nat} (hb : s.busOk src = true) (ha : off % 4 = 0)
    (hq : sqArea off = false) (hs : s.sleepsAt off = false) (hm : s.standbyReg off = false) (hn : off ≠ R.NODE_CFG)
    (hd : doorbellOf off = none) (v : Word) :
    s.busWrite src off v = if (s.storeReg off v).2.isEmpty then (s.storeReg off v).1
      else (s.storeReg off v).1.journalise src.origin 0xFFFF 0 (s.storeReg off v).2 none {} := by
  simp [State.busWrite, hb, ha, hq, hs, hm, hn, hd]

/-- A reserved offset ignores a write (R9). -/
theorem State.storeReg_reserved (s : State) {off : Nat} (h : rowAt off = none) (v : Word) : s.storeReg off v = (s, []) := by
  unfold rowAt at h
  unfold State.storeReg
  cases hp : placeOf off with
  | none => rfl
  | some pl =>
    rw [hp, Option.bind_some] at h
    simp only [h]

theorem State.busWrite_reserved {s : State} {src : BusSrc} {off : Nat} (hb : s.busOk src = true) (ha : off % 4 = 0)
    (hr : rowAt off = none) (hs : s.sleepsAt off = false) (hq : sqArea off = false) (hm : s.standbyReg off = false) (v : Word) :
    s.busWrite src off v = s := by
  have hn : off ≠ R.NODE_CFG := by
    rintro rfl
    exact absurd hr (by decide)
  have hd : doorbellOf off = none := by
    cases h : doorbellOf off with
    | none => rfl
    | some q => exact absurd hr (rowAt_of_doorbell ha h)
  rw [State.busWrite_stores hb ha hq hs hm hn hd, s.storeReg_reserved hr]
  rfl

/-- A module register without an effect of its own: the write leaves the value of the access masks, and one change where RW bits
change (R10, R79). -/
theorem State.storeReg_module (s : State) {off : Nat} {r : RegRow} (hlt : off < 0x10000) (hr : rowAtPlace ⟨48, 3, off⟩ = some r)
    (hn : off ∉ [0x20, 0x3000, 0x5010, 0x9000, 0x9100]) (v : Word) :
    s.storeReg off v = (s.wr off (s.written off ⟨48, 3, off⟩ r v),
      if s.rd off &&& BitVec.ofNat 32 r.rw = s.written off ⟨48, 3, off⟩ r v &&& BitVec.ofNat 32 r.rw then []
      else [regChange off (s.rd off) (s.written off ⟨48, 3, off⟩ r v)]) := by
  have hp := placeOf_module (off := off) (by omega)
  have hm : mirroredReg off = false := by simp [mirroredReg, hp]
  have hh : s.hidden ⟨48, 3, off⟩ r = false := by simp [State.hidden, placeFused]
  have h1 : ¬ 0x10000 ≤ off := by omega
  have h2 : ¬ 0x10100 ≤ off := by omega
  have ha : ∀ (u : State) (old new : Word), u.afterWrite ⟨48, 3, off⟩ old new = u := by
    intro u old new
    simp only [List.mem_cons, List.not_mem_nil, or_false, not_or] at hn
    simp [State.afterWrite, hn]
  simp [State.storeReg, hp, hr, hm, hh, h1, h2, ha]

theorem State.busWrite_module {s : State} {src : BusSrc} {off : Nat} {r : RegRow} (hb : s.busOk src = true) (ha : off % 4 = 0)
    (hlt : off < 0x10000) (hr : rowAtPlace ⟨48, 3, off⟩ = some r) (hn : off ∉ [0x20, 0x3000, 0x5010, 0x9000, 0x9100])
    {v new : Word} (hw : s.written off ⟨48, 3, off⟩ r v = new) :
    s.busWrite src off v = if s.rd off &&& BitVec.ofNat 32 r.rw = new &&& BitVec.ofNat 32 r.rw then s.wr off new
      else (s.wr off new).journalise src.origin 0xFFFF 0 [regChange off (s.rd off) new] none {} := by
  have hp := placeOf_module (off := off) (by omega)
  have hd : doorbellOf off = none := by
    have : ¬ 0x10000 ≤ off := by omega
    simp [doorbellOf, this]
  have hm : s.standbyReg off = false := by simp [State.standbyReg, mirroredReg, hp]
  have hne : off ≠ R.NODE_CFG := fun h => hn (by simp [h, R.NODE_CFG])
  rw [State.busWrite_stores hb ha (sqArea_false (by omega)) (s.sleepsAt_of_place hp rfl) hm hne hd v, s.storeReg_module hlt hr hn, hw]
  by_cases hsame : s.rd off &&& BitVec.ofNat 32 r.rw = new &&& BitVec.ofNat 32 r.rw
  · simp only [if_pos hsame, List.isEmpty_nil, if_true]
  · simp only [if_neg hsame, List.isEmpty_cons, Bool.false_eq_true, if_false]

end Sys2Proof.Machine

open Sys2Proof Sys2Proof.Machine

/-- Settles O8: a submission area takes the bytes, and a reserved offset has no register to store to or to read. -/
theorem submissionWrite : Obligations.SubmissionWrite := by
  unfold Obligations.SubmissionWrite
  refine ⟨fun src off v s hs hb ha hq => ⟨?_, fun hl => ?_⟩, fun src off v s hb ha hr hsl => ⟨fun hq hm => ?_, fun hl hj => ?_⟩⟩
  · exact ⟨_, congrArg Host.Outcome.next (State.busWrite_sqArea hb ha hq v), rfl, Memory.read_write hs.2.1 _ (leBytes 4 v.toNat),
      fun a h => Memory.byte_write_outside _ _ _ a h⟩
  · have hp := placeOf_sqArea hq
    have hj : jrnlHeld off.toNat = false := by
      by_contra hj
      rw [placeOf_module (jrnlHeld_lt (by simpa using hj))] at hp
      exact absurd hp (by simp)
    exact congrArg Host.Outcome.next
      (State.busRead_reserved hb ha (by simp [rowAt, hp]) (s.sleepsAt_of_none hp) hl hj)
  · exact congrArg Host.Outcome.next (State.busWrite_reserved hb ha hr hsl hq hm v)
  · exact congrArg Host.Outcome.next (State.busRead_reserved hb ha hr hsl hl hj)

/-- Settles O9: a read changes only what it latches and drives out. -/
theorem latchedHalf : Obligations.LatchedHalf := by
  unfold Obligations.LatchedHalf
  refine ⟨fun src off hi s hb ha hh hj hs hl => ?_, fun src off w s hb ha hs hj hl => ?_, fun src s hb hl => ?_⟩
  · have he := State.busRead_awake hb ha hs
    rw [hl, Option.getD_none] at he
    exact ⟨_, congrArg Host.Outcome.next he, (hiOf_spec hh).1, rfl, s.find_latchAfter (by simp [latches, hj, hh]), rfl⟩
  · have he := State.busRead_awake hb ha hs
    rw [hl, Option.getD_some] at he
    exact ⟨_, congrArg Host.Outcome.next he, rfl, rfl, fun hheld => (s.find_latchAfter_held hj hheld).trans hl⟩
  · have he := State.busRead_awake (s := s) hb (off := R.JRNL_HEAD_SEQ_LO) rfl (s.sleepsAt_of_place (placeOf_module (by decide)) rfl)
    rw [hl, Option.getD_none, s.view_jrnl (.inr rfl)] at he
    have hL : ∀ k ∈ latches R.JRNL_HEAD_SEQ_LO, Map.find k (s.latchAfter R.JRNL_HEAD_SEQ_LO) = some (s.rd k) :=
      fun k hk => by rw [s.find_latchAfter hk, s.view_jrnl (.inl hk)]
    have hlist : latches R.JRNL_HEAD_SEQ_LO = R.JRNL_HEAD_SEQ_HI :: (List.range 8).map R.JRNL_HEAD_HASH := if_pos rfl
    rw [hlist] at hL
    exact ⟨_, congrArg Host.Outcome.next he, rfl, hL _ (List.mem_cons_self ..),
      fun i hi => hL _ (List.mem_cons_of_mem _ (List.mem_map_of_mem (List.mem_range.2 hi))), rfl⟩

/-- Settles O7: the store leaves the value of the masks, and without bounds the bits of RW and W1C give each bit of it. -/
theorem barWrite : Obligations.BarWrite := by
  unfold Obligations.BarWrite
  intro src off v s pl r hs hb ha hp hr ht hlt hn
  obtain ⟨_, rfl⟩ := placeOf_tile48 hp ht
  refine ⟨?_, fun hc i hi => ?_⟩
  · generalize hw : s.written off.toNat ⟨48, 3, off.toNat⟩ r v = new
    have he := State.busWrite_module hb ha hlt hr hn hw
    have hread := State.rd_wr_same hs.rising off.toNat new
    have hkeep : s.keepsRegs (s.wr off.toNat new) [off.toNat] := fun a h => State.rd_wr_ne (by simpa using h) _
    by_cases hsame : s.rd off.toNat &&& BitVec.ofNat 32 r.rw = new &&& BitVec.ofNat 32 r.rw
    · rw [if_pos hsame] at he
      exact ⟨_, congrArg Host.Outcome.next he, hread, hkeep, fun _ => ⟨rfl, rfl, rfl⟩, rfl, rfl, by rw [hread, if_pos hsame]; rfl⟩
    · rw [if_neg hsame] at he
      refine ⟨_, congrArg Host.Outcome.next he, hread, hkeep, fun _ => ⟨rfl, rfl, rfl⟩, rfl, rfl, ?_⟩
      have hread' : ((s.wr off.toNat new).journalise src.origin 0xFFFF 0 [regChange off.toNat (s.rd off.toNat) new] none {}).rd
        off.toNat = new := hread
      rw [hread', if_neg hsame]
      exact ⟨_, rfl, rfl, rfl, rfl, rfl, rfl⟩
  · have hbit : (BitVec.ofNat 32 r.rw).getLsbD i = r.rw.testBit i ∧ (BitVec.ofNat 32 r.w1c).getLsbD i = r.w1c.testBit i := by
      simp only [BitVec.getLsbD_ofNat, hi, decide_true, Bool.true_and, and_self]
    simp only [State.written, hc, List.foldl_nil, BitVec.getLsbD_and, BitVec.getLsbD_or, BitVec.getLsbD_not, hi, decide_true,
      Bool.true_and, hbit]
    cases r.rw.testBit i <;> cases v.getLsbD i <;> simp
end

section
/-! SUPPORT. NOP, IDENTIFY, WHOAMI, the journal's and the register commands (R49, R50, R75 to R82). -/

namespace Sys2Proof

/-! ### Bytes -/

theorem leBytes_length (n v : Nat) : (leBytes n v).length = n := by
  induction n generalizing v with
  | zero => rfl
  | succ n ih => simp [leBytes, ih]

theorem fitBytes_length (n : Nat) (bs : List Byte) : (fitBytes n bs).length = n := by
  simp [fitBytes, zeros]
  omega

/-- The bytes of a value give the value back, cut to their number (R20). -/
theorem leNat_leBytes (n v : Nat) : leNat (leBytes n v) = v % 256 ^ n := by
  induction n generalizing v with
  | zero => simp [leBytes, leNat, Nat.mod_one]
  | succ n ih =>
    have h := Nat.mod_mul (x := v) (a := 256) (b := 256 ^ n)
    simp only [leBytes, leNat, ih, BitVec.toNat_ofNat, Nat.pow_succ, Nat.mul_comm (256 ^ n) 256, h]

/-- The value that a layout begins with. -/
theorem leAt_head (n v : Nat) (c : List Byte) (h : v < 256 ^ n) : leAt (leBytes n v ++ c) 0 n = v := by
  unfold leAt
  rw [List.drop_zero, List.take_left' (leBytes_length n v), leNat_leBytes, Nat.mod_eq_of_lt h]

/-- A value further on in a layout. -/
theorem leAt_append (a : List Byte) {k : Nat} (hk : a.length = k) (c : List Byte) (n : Nat) : leAt (a ++ c) k n = leAt c 0 n := by
  unfold leAt
  rw [List.drop_left' hk, List.drop_zero]

end Sys2Proof

namespace Sys2Proof.Machine

theorem State.f_lt (s : State) (x : Fld) : s.f x < 2 ^ x.width := Nat.mod_lt _ (Nat.two_pow_pos _)

/-! ### IDENTIFY (R75) -/

theorem State.identity32_length (s : State) : s.identity32.length = 32 := by
  simp [State.identity32, leBytes_length, fitBytes_length]

/-- IDENTIFY begins with the node ID. -/
theorem State.identity32_node (s : State) : leAt s.identity32 0 2 = s.node := by
  have hlt : s.node < 256 ^ 2 := Nat.lt_trans (s.f_lt F.NODE_CFG_NODE) (by norm_num [F.NODE_CFG_NODE])
  unfold State.identity32
  simp only [List.append_assoc]
  exact leAt_head 2 _ _ hlt

/-- The chain address follows the node ID. -/
theorem State.identity32_chain (s : State) : leAt s.identity32 2 1 = s.f F.MCH_ADDR_ADDR := by
  have hlt : s.f F.MCH_ADDR_ADDR < 256 ^ 1 := Nat.lt_of_lt_of_le (s.f_lt F.MCH_ADDR_ADDR) (by decide)
  unfold State.identity32
  simp only [List.append_assoc]
  rw [leAt_append _ (leBytes_length 2 _)]
  exact leAt_head 1 _ _ hlt

/-- The serial ends IDENTIFY. -/
theorem State.identity32_serial (s : State) : s.identity32.drop 16 = fitBytes 16 s.ident.serial := by
  unfold State.identity32
  exact List.drop_left' (by simp [leBytes_length])

/-! ### Register writes by command (R79, R82) -/

theorem State.inlineLimit_ge (s : State) (path : Sys2Proof.Path) : 48 ≤ s.inlineLimit path := by
  cases path <;> simp [State.inlineLimit]
  split <;> omega

/-- A short result travels in the reply (R54). -/
theorem State.place_short (s : State) (p : Packet) (st det : Nat) {res : List Byte} (h : res.length ≤ 48) :
    s.place p st det res = (s, { tag := p.tag, status := st, detail := det, result := res }) := by
  unfold State.place
  rw [if_pos (Nat.le_trans h (s.inlineLimit_ge p.path))]

/-- A register write by command that no twin mirrors: its changes wait in the journal with the reply; without one the reply is posted
at once. -/
theorem State.conclude_journaled {t : State} {p : Packet} {o code : Nat} {res : List Byte} (ch : List JChange) (un : Undo)
    (hm : mirroredKind code = none) (ht : t.twinState ≠ 4) (hl : res.length ≤ 48) :
    t.conclude code o true p stOk 0 res ch un = if ch.isEmpty then t.replies p res
      else t.journalise o code p.tag.toNat ch (some (p.path, { tag := p.tag, status := stOk, detail := 0, result := res })) un := by
  simp only [State.conclude, State.replies, t.place_short p stOk 0 hl, hm, State.settle]
  cases ch <;> simp [ht]

end Sys2Proof.Machine

open Sys2Proof Sys2Proof.Machine

/-- Settles O13: each accepted command is its act, concluded with no mirror record and no change, or journaled. -/
theorem identityCommands : Obligations.IdentityCommands := by
  unfold Obligations.IdentityCommands
  intro p s o b
  have plain : ∀ {d : CmdDef} {u : State} {res : List Byte}, s.accepts d p o → d.journaled = false → mirroredKind d.code = none →
      d.code ≠ 0x101 ∧ d.code ≠ 0x102 → d.act b p o b.proctor.nextId = .now u stOk 0 res [] → runCmd d p s = u.replies p res := by
    intro d u res ha hj hm hc he
    rw [runCmd_accepted ha, show s.begun p = b from rfl, he, hj]
    exact u.conclude_plain hm hc
  refine ⟨fun h => ?_, fun h => ?_, ⟨b.identity32_length, b.identity32_node, b.identity32_chain, b.identity32_serial⟩, fun h => ?_,
    fun h => ?_, fun h => ?_, fun h => ?_, fun h t ch he ht => ?_, fun h t ch he ht => ?_⟩
  · exact congrArg _ (plain h rfl rfl (by decide) rfl)
  · exact congrArg _ (plain h rfl rfl (by decide) rfl)
  · exact congrArg _ (plain h rfl rfl (by decide) rfl)
  · exact congrArg _ (plain h rfl rfl (by decide) rfl)
  · exact congrArg _ (plain h rfl rfl (by decide) rfl)
  · exact congrArg _ (plain h rfl rfl (by decide) rfl)
  · have hact : regWriteDef.act b p o b.proctor.nextId = .now t stOk 0 [] ch := by simp only [regWriteDef, he]
    refine congrArg Host.Outcome.next ?_
    rw [runCmd_accepted h, show s.begun p = b from rfl, hact]
    exact State.conclude_journaled ch _ rfl ht (by simp)
  · have hact : regUpdateDef.act b p o b.proctor.nextId = .now t stOk 0 (leBytes 4 (b.readReg (p.w 0)).1.toNat) ch := by
      simp only [regUpdateDef, he]
    refine congrArg Host.Outcome.next ?_
    rw [runCmd_accepted h, show s.begun p = b from rfl, hact]
    exact State.conclude_journaled ch _ rfl ht (by simp [leBytes_length])
end

section
/-! SUPPORT. What a module reset loses at once, and the registers it writes itself (R368 to R371). -/

namespace Sys2Proof.Machine

/-! ### What a reset leaves alone -/

/-- `s` comes from `z` with the DRAM, the pool and the work as they were, and every register outside `W`. -/
structure Rewritten (W : Nat → Prop) (z s : State) : Prop where
  dram : s.dram = z.dram
  pool : s.pool = z.pool
  proctor : s.proctor = z.proctor
  work : s.work = z.work
  streams : s.streams = z.streams
  journal : s.journal = z.journal
  rd : ∀ off, ¬ W off → s.rd off = z.rd off

section
variable {W : Nat → Prop} {z s t : State}

theorem Rewritten.refl (W : Nat → Prop) (z : State) : Rewritten W z z := ⟨rfl, rfl, rfl, rfl, rfl, rfl, fun _ _ => rfl⟩

theorem Rewritten.trans (h : Rewritten W z s) (k : Rewritten W s t) : Rewritten W z t :=
  ⟨k.dram.trans h.dram, k.pool.trans h.pool, k.proctor.trans h.proctor, k.work.trans h.work, k.streams.trans h.streams,
    k.journal.trans h.journal, fun off ho => (k.rd off ho).trans (h.rd off ho)⟩

theorem Rewritten.mono {V : Nat → Prop} (h : Rewritten W z s) (hV : ∀ off, W off → V off) : Rewritten V z s :=
  ⟨h.dram, h.pool, h.proctor, h.work, h.streams, h.journal, fun off ho => h.rd off (fun hw => ho (hV off hw))⟩

theorem Rewritten.wr (h : Rewritten W z s) {off : Nat} (hw : W off) (v : Word) : Rewritten W z (s.wr off v) :=
  h.trans ⟨rfl, rfl, rfl, rfl, rfl, rfl, fun _ ha => State.rd_wr_ne (by rintro rfl; exact ha hw) v⟩

theorem Rewritten.setF (h : Rewritten W z s) {x : Fld} (hw : W x.off) (v : Nat) : Rewritten W z (s.setF x v) := h.wr hw _

theorem Rewritten.bump (h : Rewritten W z s) {x : Fld} (hw : W x.off) (n : Nat) : Rewritten W z (s.bump x n) := h.wr hw _

theorem Rewritten.setFs (h : Rewritten W z s) (l : List (Fld × Nat)) (hl : ∀ e ∈ l, W e.1.off) : Rewritten W z (s.setFs l) := by
  induction l generalizing s with
  | nil => exact h
  | cons e l ih => exact ih (h.setF (hl e (List.mem_cons_self ..)) e.2) (fun x hx => hl x (List.mem_cons_of_mem _ hx))

theorem Rewritten.each {α : Type} (h : Rewritten W z s) (l : List α) (f : State → α → State)
    (hf : ∀ x ∈ l, ∀ s, Rewritten W z s → Rewritten W z (f s x)) : Rewritten W z (s.each l f) := by
  unfold State.each
  induction l generalizing s with
  | nil => exact h
  | cons a l ih => exact ih (hf a (List.mem_cons_self ..) s h) (fun x hx => hf x (List.mem_cons_of_mem _ hx))

theorem Rewritten.of_logged (h : Logged z s) (hW : ∀ a ∈ logRegs, W a) : Rewritten W z s := by
  obtain ⟨he, hr⟩ := h
  exact ⟨by rw [he], by rw [he], by rw [he], by rw [he], by rw [he], by rw [he], fun off ho => hr off (fun hm => ho (hW off hm))⟩
end

/-! ### The registers of a module reset -/

/-- The registers that a module reset writes beside returning its classes to default: registers of the module and of tiles, none of a
port and none of the three that the statements read. -/
def resetOwn (off : Nat) : Prop := (∃ pl, placeOf off = some pl ∧ pl.port = 3) ∧ off ∉ [R.RST_CAUSE, R.RST_CNT, R.Q_GLOBAL]

theorem resetOwn_module {off : Nat} (h : off < 0x100000) (hn : off ∉ [R.RST_CAUSE, R.RST_CNT, R.Q_GLOBAL]) : resetOwn off :=
  ⟨⟨_, placeOf_module h, rfl⟩, hn⟩

theorem resetOwn_tile {t c : Nat} (ht : t ∈ allTiles) (hc : c < 0x10000 ∨ 0x1C000 ≤ c) (hlt : c < 0x100000) : resetOwn (tileBase t + c) := by
  refine ⟨⟨⟨t, 3, c⟩, ?_, rfl⟩, ?_⟩
  · rw [placeOf_tile (List.mem_range.1 ht) hlt, if_neg (by omega)]
  · simp only [R.RST_CAUSE, R.RST_CNT, R.Q_GLOBAL, tileBase, List.mem_cons, List.not_mem_nil, or_false]
    omega

/-- A port's registers are none of them. -/
theorem not_resetOwn_port {off : Nat} {pl : Place} (hp : placeOf off = some pl) (h3 : pl.port < 3) : ¬ resetOwn off := by
  rintro ⟨⟨pl', hp', h⟩, -⟩
  obtain rfl := Option.some.inj (hp.symm.trans hp')
  omega

theorem resetOwn_log : ∀ a ∈ logRegs, resetOwn a := by
  have hall : ∀ a ∈ logRegs, a < 0x100000 ∧ a ∉ [R.RST_CAUSE, R.RST_CNT, R.Q_GLOBAL] := by decide
  exact fun a ha => resetOwn_module (hall a ha).1 (hall a ha).2

/-- Registers lie below the offsets that hold what the sublinks' link layers keep. -/
theorem placeOf_lt {off : Nat} {pl : Place} (h : placeOf off = some pl) : off < portBase 144 := by
  have hb : portBase 144 = 0x4010000 := by decide
  rw [hb]
  by_contra hc
  unfold placeOf at h
  rw [if_neg (by omega), if_neg (by simp only [Bool.and_eq_true, decide_eq_true_eq]; omega)] at h
  exact absurd h (by simp)

/-- Does a register outlive a reset of the rows that satisfy `p`? -/
def outlives (p : Place → RegRow → Bool) (off : Nat) : Bool :=
  match placeOf off with
  | none => true
  | some pl => match rowAtPlace pl with
    | none => true
    | some r => !p pl r

/-- A register after its class returns to default, or keeps its value. -/
theorem State.rd_resetRegs (s : State) (p : Place → RegRow → Bool) {off : Nat} {pl : Place} {r : RegRow} (hp : placeOf off = some pl)
    (hr : rowAtPlace pl = some r) : (s.resetRegs p).rd off = if p pl r then regDefault off else s.rd off := by
  have hregs : (s.resetRegs p).regs = s.regs.filter (fun e => outlives p e.1) := rfl
  have ho : outlives p off = !p pl r := by simp only [outlives, hp, hr]
  unfold State.rd
  rw [hregs, Map.find_filter_key, ho]
  cases p pl r <;> rfl

theorem State.condenseAll_rewritten (s : State) : Rewritten resetOwn s s.condenseAll := by
  have hd : resetOwn F.RC_DROP.off ∧ resetOwn F.RC_DROP_CRIT.off :=
    ⟨resetOwn_log _ (by simp [logRegs, F.RC_DROP]), resetOwn_log _ (by simp [logRegs, F.RC_DROP_CRIT])⟩
  have hs : ∀ u : State, Rewritten resetOwn u u.syncRc := fun u => .of_logged (Logged.refl u).syncRc resetOwn_log
  have hrep : ∀ (u : State) (r : Report), Rewritten resetOwn u { u with report := r } := fun u r => ⟨rfl, rfl, rfl, rfl, rfl, rfl, fun _ _ => rfl⟩
  have hc : Rewritten resetOwn s s.closeRecords := (hrep s _).trans (hs _)
  unfold State.condenseAll State.condense
  refine (Rewritten.trans ?_ (hrep _ _)).trans (hs _)
  refine hc.each _ _ (fun r _ u hu => ?_)
  split
  · exact hu.trans (hrep u _)
  · split
    · exact hu.bump hd.2 1
    · exact hu.bump hd.1 1

theorem State.strapDefaults_rewritten (s : State) : Rewritten resetOwn s s.strapDefaults := by
  unfold State.strapDefaults
  refine ((Rewritten.refl _ s).setFs _ ?_).each _ _ (fun t ht u hu => hu.setF (resetOwn_tile ht (.inr (by decide)) (by decide)) _)
  simp only [List.mem_cons, List.not_mem_nil, or_false, forall_eq_or_imp, forall_eq]
  exact ⟨resetOwn_module (by decide) (by decide), resetOwn_module (by decide) (by decide)⟩

/-- What reset classes leave in a register that the reset does not write itself. -/
theorem State.wipe_rewritten (s : State) (classes : Cls → Bool) :
    Rewritten resetOwn (s.resetRegs (fun _ r => classes r.cls)) (s.wipe classes) := by
  have hc : ∀ (u : State) (g : Clocks → Clocks), Rewritten resetOwn u (u.updClk g) := fun u g => ⟨rfl, rfl, rfl, rfl, rfl, rfl, fun _ _ => rfl⟩
  unfold State.wipe
  refine (Rewritten.trans ?_ (State.strapDefaults_rewritten _)).trans (hc _ _)
  exact (Rewritten.refl _ _).each _ _ (fun t ht u hu => hu.wr (resetOwn_tile ht (.inl (by decide)) (by decide)) _)

theorem State.strapSafe_rewritten (s : State) : Rewritten resetOwn s s.strapSafe := by
  unfold State.strapSafe
  split
  · exact .refl _ s
  · refine ((Rewritten.refl _ s).each _ _ (fun t ht u hu => hu.each _ _ (fun k hk v hv => hv.setF ?_ _))).each _ _ (fun k hk v hv => hv.setF ?_ _)
    · have := List.mem_range.1 (List.mem_filter.1 hk).1
      have h := resetOwn_tile (c := 0xA0020 + 0x4 * (k / 16)) ht (.inr (by omega)) (by omega)
      rwa [← Nat.add_assoc] at h
    · have := List.mem_range.1 (List.mem_filter.1 hk).1
      refine resetOwn_module (?_ : 0x5020 + 0x4 * (k / 16) < 0x100000) ?_
      · omega
      · simp only [F.MFSEV_SEV, R.MFSEV, R.RST_CAUSE, R.RST_CNT, R.Q_GLOBAL, List.mem_cons, List.not_mem_nil, or_false]
        omega

/-- What a module reset loses at once: running commands, streams and jobs; registers keep their values but those of the host queues. -/
theorem State.dropWork_spec (s : State) (cold : Bool) : (s.dropWork cold).proctor.running = [] ∧ (s.dropWork cold).work = {} ∧
    (s.dropWork cold).streams = {} ∧ (s.dropWork cold).dram = s.dram ∧ (s.dropWork cold).journal.entries = s.journal.entries ∧
    ∀ off pl, placeOf off = some pl → ¬ resetOwn off → off ≠ R.Q_GLOBAL → (s.dropWork cold).rd off = s.rd off := by
  have hq : ∀ q ∈ List.range 16, resetOwn (R.Q_CTL q) ∧ resetOwn (R.Q_STAT q) := by
    have hall : ∀ q < 16, (R.Q_CTL q < 0x100000 ∧ R.Q_CTL q ∉ [R.RST_CAUSE, R.RST_CNT, R.Q_GLOBAL]) ∧
        R.Q_STAT q < 0x100000 ∧ R.Q_STAT q ∉ [R.RST_CAUSE, R.RST_CNT, R.Q_GLOBAL] := by decide
    intro q hm
    have h := hall q (List.mem_range.1 hm)
    exact ⟨resetOwn_module h.1.1 h.1.2, resetOwn_module h.2.1 h.2.2⟩
  have hW : ∀ z : State, Rewritten (fun off => resetOwn off ∨ off = R.Q_GLOBAL) z
      ((z.each (List.range 16) (fun s q => (s.setF (F.Q_CTL_EN q) 0).wr (R.Q_STAT q) 0)).setFs
        [(F.Q_GLOBAL_PROCTOR_READY, 0), (F.Q_GLOBAL_SWITCHOVER, 0)]) := fun z =>
    ((Rewritten.refl _ z).each _ _ (fun q hm u hu => (hu.setF (.inl (hq q hm).1) 0).wr (.inl (hq q hm).2) 0)).setFs _
      (by simp [F.Q_GLOBAL_PROCTOR_READY, F.Q_GLOBAL_SWITCHOVER])
  unfold State.dropWork
  extract_lets
  rename_i s1
  have h := hW s1
  refine ⟨congrArg Proctor.running h.proctor, h.work, h.streams, h.dram, (congrArg Journal.entries h.journal).trans rfl, fun off pl hp hn hg => ?_⟩
  rw [h.rd off (by simp [hn, hg])]
  have hf := Map.find_filter_key (fun k => decide (k < portBase 144)) off s.regs
  rw [if_pos (by simpa using placeOf_lt hp)] at hf
  unfold State.rd
  exact congrArg (·.getD (regDefault off)) hf

end Sys2Proof.Machine
end

section
/-! SUPPORT. The cold and the warm reset as a stripped state with the reset named and counted (R368, R370, R371). -/

namespace Sys2Proof.Machine

/-! ### What a module reset strips -/

/-- `u` comes from `s` with the running commands, jobs and streams gone and the registers of some classes at default; a register
that the reset writes itself is left open, and Q_GLOBAL where its class is not among them. -/
structure Stripped (classes : Cls → Bool) (s u : State) : Prop where
  running : u.proctor.running = []
  work : u.work = {}
  streams : u.streams = {}
  entries : u.journal.entries = s.journal.entries
  rd : ∀ off pl r, placeOf off = some pl → rowAtPlace pl = some r → ¬ resetOwn off → (off = R.Q_GLOBAL → classes r.cls = true) →
    u.rd off = if classes r.cls then regDefault off else s.rd off

section
variable {classes : Cls → Bool} {s u v : State}

theorem Stripped.rewritten (h : Stripped classes s u) (k : Rewritten resetOwn u v) : Stripped classes s v :=
  ⟨by rw [k.proctor, h.running], k.work.trans h.work, k.streams.trans h.streams, by rw [k.journal, h.entries],
    fun off pl r hp hr hn hq => (k.rd off hn).trans (h.rd off pl r hp hr hn hq)⟩

/-- A change of other parts of the state. -/
theorem Stripped.of_same (h : Stripped classes s u) (hp : v.proctor = u.proctor) (hw : v.work = u.work) (hs : v.streams = u.streams)
    (hj : v.journal.entries = u.journal.entries) (hr : v.regs = u.regs) : Stripped classes s v :=
  ⟨by rw [hp, h.running], hw.trans h.work, hs.trans h.streams, hj.trans h.entries, fun off pl r ho hrow hn hq => by
    rw [show v.rd off = u.rd off by simp only [State.rd, hr]]
    exact h.rd off pl r ho hrow hn hq⟩

/-- The pool and the log are lost. -/
theorem Stripped.dropPool (h : Stripped classes s u) : Stripped classes s u.dropPool.dropLog := h.of_same rfl rfl rfl rfl rfl

/-- What went before the reset. -/
theorem Stripped.after (h : Stripped classes u v) (k : Rewritten resetOwn s u) : Stripped classes s v :=
  ⟨h.running, h.work, h.streams, h.entries.trans (congrArg Journal.entries k.journal), fun off pl r hp hr hn hq => by
    rw [h.rd off pl r hp hr hn hq, k.rd off hn]⟩
end

theorem State.dropWork_wipe (s : State) (cold : Bool) (classes : Cls → Bool) : Stripped classes s ((s.dropWork cold).wipe classes) ∧
    ((s.dropWork cold).wipe classes).dram = s.dram := by
  obtain ⟨hrun, hwork, hstr, hdram, hent, hrd⟩ := s.dropWork_spec cold
  have hw := (s.dropWork cold).wipe_rewritten classes
  refine ⟨⟨(congrArg Proctor.running hw.proctor).trans hrun, hw.work.trans hwork, hw.streams.trans hstr,
    (congrArg Journal.entries hw.journal).trans hent, fun off pl r hp hr hn hq => ?_⟩, hw.dram.trans hdram⟩
  rw [hw.rd off hn, State.rd_resetRegs _ _ hp hr]
  split
  · rfl
  · next hc => exact hrd off pl hp hn (fun h => hc (hq h))

/-! ### Naming and counting a reset (R368) -/

/-- RST_CAUSE and RST_CNT as a module reset leaves them. -/
def State.showReset (u : State) (kind origin : Nat) (cnt : Fld) : State :=
  (u.setFs [(F.RST_CAUSE_KIND, kind), (F.RST_CAUSE_ORIGIN, origin)]).bump cnt

/-- The registers that name and count a reset. -/
def countRegs (off : Nat) : Prop := off = R.RST_CAUSE ∨ off = R.RST_CNT

theorem State.showReset_rewritten (u : State) (kind origin : Nat) {cnt : Fld} (hc : cnt.off = R.RST_CNT) :
    Rewritten countRegs u (u.showReset kind origin cnt) :=
  ((Rewritten.refl _ u).setFs _ (by simp [F.RST_CAUSE_KIND, F.RST_CAUSE_ORIGIN, countRegs])).bump (.inr hc) 1

theorem State.showReset_fields {u : State} (h : u.canonical) {kind origin : Nat} (hk : kind < 8) (ho : origin < 16) {cnt : Fld}
    (hc : cnt.off = R.RST_CNT) (hw : cnt.lo + cnt.width ≤ 32) :
    (u.showReset kind origin cnt).f F.RST_CAUSE_KIND = kind ∧ (u.showReset kind origin cnt).f F.RST_CAUSE_ORIGIN = origin ∧
      (u.showReset kind origin cnt).f cnt = min (u.f cnt + 1) (2 ^ cnt.width - 1) := by
  have h1 := State.setF_canonical h F.RST_CAUSE_KIND kind
  have h2 := State.setF_canonical h1 F.RST_CAUSE_ORIGIN origin
  have hne : ∀ x : Fld, x.off = R.RST_CAUSE → x.off ≠ cnt.off := fun x hx => by rw [hx, hc]; decide
  refine ⟨?_, ?_, ?_⟩
  · refine (State.f_setF_off (hne _ rfl) _).trans ?_
    refine (State.f_setF_apart h1.rising (.inr (by decide)) origin).trans ?_
    exact (State.f_setF_same h.rising _ _ (by decide)).trans (Nat.mod_eq_of_lt hk)
  · refine (State.f_setF_off (hne _ rfl) _).trans ?_
    exact (State.f_setF_same h1.rising _ _ (by decide)).trans (Nat.mod_eq_of_lt ho)
  · refine (State.f_bump_same h2.rising hw 1).trans ?_
    rw [State.f_setF_off (hne F.RST_CAUSE_ORIGIN rfl).symm, State.f_setF_off (hne F.RST_CAUSE_KIND rfl).symm]

/-- The counters of resets outlive every reset but a loss of power. -/
theorem Stripped.f_rstCnt {classes : Cls → Bool} {s u : State} (h : Stripped classes s u) (hP : classes .P = false) {cnt : Fld}
    (hc : cnt.off = R.RST_CNT) : u.f cnt = s.f cnt := by
  have hrow : rowAtPlace ⟨48, 3, R.RST_CNT⟩ = some ⟨0x100C, 0x4, 1, .P, 0x0, 0x0, 0x0, .none⟩ := rfl
  have hr := h.rd R.RST_CNT _ _ (placeOf_module (by decide)) hrow (fun hn => hn.2 (by simp)) (fun hq => absurd hq (by decide))
  simp only [hP, Bool.false_eq_true, if_false] at hr
  simp only [State.f, hc, hr]

/-! ### The module resets (R368 to R371, R385) -/

/-- The classes of a cold reset. -/
def coldClasses (c : Cls) : Bool := decide (c = .C) || decide (c = .W) || decide (c = .T) || decide (c = .K)

/-- The classes of a warm reset. -/
def warmClasses (c : Cls) : Bool := decide (c = .W) || decide (c = .T) || decide (c = .K)

/-- A cold reset is a state stripped of work, pool and DRAM, with the reset named and counted. -/
theorem State.coldReset_stripped (s : State) (kind origin : Nat) : ∃ u, Kept s u ∧ Stripped coldClasses s u ∧ u.dram = [] ∧
    u.pool.regions = [] ∧ s.coldReset kind origin = ((u.showReset kind origin F.RST_CNT_COLD).updClk (fun c => { c with
      phase := 1, warm := false, resetDue := none })).syncRc := by
  unfold State.coldReset
  extract_lets s0 cls s1 s2 s3
  have k0 : Kept s s0 := Kept.ite (Kept.refl s).condenseAll (Kept.refl s)
  have w0 : Rewritten resetOwn s s0 := by
    unfold s0
    split
    · exact s.condenseAll_rewritten
    · exact .refl _ s
  have k1 : Kept s s1 := ((((k0.dropWork true).wipe cls).dropPool).dropLog).strapSafe
  have k2 : Kept s s2 := k1.of_same rfl rfl rfl rfl rfl
  have hs := State.strapSafe_rewritten (((s0.dropWork true).wipe cls).dropPool).dropLog
  have t1 : Stripped cls s s1 := ((s0.dropWork_wipe true cls).1.after w0).dropPool.rewritten hs
  have t2 : Stripped cls s s2 := t1.of_same rfl rfl rfl rfl rfl
  have hd : s1.dram = [] := hs.dram.trans rfl
  have hp : s1.pool.regions = [] := (congrArg Pool.regions hs.pool).trans rfl
  clear_value s1
  have k3 : Kept s s3 := Kept.ite (k2.emit _) k2
  have h3 : Stripped cls s s3 ∧ s3.dram = [] ∧ s3.pool.regions = [] := by
    unfold s3
    split
    · exact ⟨t2.of_same rfl rfl rfl rfl rfl, hd, hp⟩
    · exact ⟨t2, hd, hp⟩
  clear_value s3
  exact ⟨s3, k3, h3.1, h3.2.1, h3.2.2, rfl⟩

/-- A warm reset is a state stripped of work, with the reset named and counted; the DRAM waits in self-refresh. -/
theorem State.warmReset_stripped (s : State) (kind origin : Nat) : ∃ u, Kept s u ∧ Stripped warmClasses s u ∧ u.dram = s.dram ∧
    s.warmReset kind origin = (u.showReset kind origin F.RST_CNT_WARM).updClk (fun c => { c with
      phase := 1, warm := true, resetDue := none }) := by
  unfold State.warmReset
  extract_lets s0 cls s1 scope s2 s3 fl cm s4
  have k1 : Kept s s1 := (((Kept.refl s).condenseAll).dropWork _).wipe _
  have t1 := s0.dropWork_wipe false cls
  have w0 := s.condenseAll_rewritten
  have kscope : ∀ (u : State) (a b : Fld), Kept s u → Kept s (scope u a b) := fun u a b hu =>
    Kept.ite (hu.setF ..) (Kept.ite ((hu.setF ..).bump ..) hu)
  have wscope : ∀ (z u : State) (a b : Fld), resetOwn a.off → resetOwn b.off → Rewritten resetOwn z u → Rewritten resetOwn z (scope u a b) := by
    intro z u a b ha hb hu
    unfold scope
    split
    · exact hu.setF ha _
    · split
      · exact (hu.setF ha _).bump hb 1
      · exact hu
  have hmf : resetOwn R.MFSTATE := resetOwn_module (by decide) (by decide)
  have hf : ∀ t ∈ allTiles, resetOwn (R.FSTATE t) := fun t ht => resetOwn_tile ht (.inr (by decide)) (by decide)
  have ht : ∀ t ∈ allTiles, resetOwn (R.TILE_TEST_STAT t) := fun t ht => resetOwn_tile ht (.inl (by decide)) (by decide)
  have k2 : Kept s s2 := kscope _ _ _ (Kept.each k1 _ _ fun u t h => kscope _ _ _ h)
  have w2 : Rewritten resetOwn s1 s2 :=
    wscope _ _ _ _ hmf hmf ((Rewritten.refl _ s1).each _ _ fun t hm u hu => wscope _ _ _ _ (hf t hm) (hf t hm) hu)
  have k3 : Kept s s3 := Kept.setF (Kept.each k2 _ _ fun u t hu => (hu.setF ..).leaveTest ..) ..
  have w3 : Rewritten resetOwn s1 s3 := by
    refine Rewritten.setF (w2.each _ _ fun t hm u hu => ?_) hmf 0
    exact (hu.setF (x := F.FSTATE_FENCED t) (hf t hm) 0).setFs _
      (by simp [F.TILE_TEST_STAT_STATE, F.TILE_TEST_STAT_MEM_OUT, F.TILE_TEST_STAT_ITEM, ht t hm])
  have t3 : Stripped cls s s3 := (t1.1.after w0).rewritten w3
  have hd : s3.dram = s.dram := w3.dram.trans (t1.2.trans w0.dram)
  clear_value s3
  have k4 : Kept s s4 := k3.of_same rfl rfl rfl rfl rfl
  have t4 : Stripped cls s s4 := t3.of_same rfl rfl rfl rfl rfl
  exact ⟨s4, k4, t4, hd, rfl⟩

end Sys2Proof.Machine
end

section
/-! SUPPORT. What power-on, the cold, the warm and a tile's reset leave (R368 to R372). -/

namespace Sys2Proof.Machine

/-! ### Registers after a module reset -/

theorem State.syncRc_rewritten (u : State) : Rewritten resetOwn u u.syncRc := .of_logged (Logged.refl u).syncRc resetOwn_log

theorem State.syncRc_clocks (u : State) : u.syncRc.clocks = u.clocks := by rw [(Logged.refl u).syncRc.1]

/-- A port's register after a module reset that covers some classes. -/
theorem Stripped.rd_port {classes : Cls → Bool} {s u v : State} (h : Stripped classes s u) {off : Nat} {pl : Place} {r : RegRow}
    (hp : placeOf off = some pl) (hr : rowAtPlace pl = some r) (h3 : pl.port < 3) (hv : v.rd off = u.rd off) :
    v.rd off = if classes r.cls then regDefault off else s.rd off := by
  have hn := not_resetOwn_port hp h3
  refine hv.trans (h.rd off pl r hp hr hn ?_)
  rintro rfl
  obtain rfl := Option.some.inj (hp.symm.trans (placeOf_module (by decide)))
  exact absurd h3 (by simp)

theorem not_countRegs_port {off : Nat} {pl : Place} (hp : placeOf off = some pl) (h3 : pl.port < 3) : ¬ countRegs off := by
  have hpl : ∀ a, a < 0x100000 → off ≠ a := by
    rintro a ha rfl
    obtain rfl := Option.some.inj (hp.symm.trans (placeOf_module ha))
    exact absurd h3 (by simp)
  rintro (h | h)
  · exact hpl _ (by decide) h
  · exact hpl _ (by decide) h

/-- What every cold reset does (R370). -/
theorem State.coldReset_spec {s : State} (h : s.canonical) {kind origin : Nat} (hk : kind < 8) (ho : origin < 16) :
    (s.coldReset kind origin).clocks.phase = 1 ∧ (s.coldReset kind origin).clocks.resetDue = none ∧
    (s.coldReset kind origin).f F.RST_CAUSE_KIND = kind ∧ (s.coldReset kind origin).f F.RST_CAUSE_ORIGIN = origin ∧
    (s.coldReset kind origin).f F.RST_CNT_COLD = min (s.f F.RST_CNT_COLD + 1) 65535 ∧ (s.coldReset kind origin).dram = [] ∧
    (s.coldReset kind origin).pool.regions = [] ∧ (s.coldReset kind origin).proctor.running = [] ∧ (s.coldReset kind origin).work = {} ∧
    ∀ off pl r, placeOf off = some pl → rowAtPlace pl = some r → pl.port < 3 →
      (s.coldReset kind origin).rd off = if r.cls = .N ∨ r.cls = .P then s.rd off else regDefault off := by
  obtain ⟨u, hku, ht, hdram, hpool, he⟩ := s.coldReset_stripped kind origin
  have hw := u.showReset_rewritten kind origin (cnt := F.RST_CNT_COLD) rfl
  obtain ⟨hf1, hf2, hf3⟩ := State.showReset_fields (hku.2 h) hk ho (cnt := F.RST_CNT_COLD) rfl (by decide)
  rw [ht.f_rstCnt rfl rfl] at hf3
  generalize u.showReset kind origin F.RST_CNT_COLD = v at he hw hf1 hf2 hf3
  have hs := State.syncRc_rewritten (v.updClk (fun c => { c with phase := 1, warm := false, resetDue := none }))
  have hclk := State.syncRc_clocks (v.updClk (fun c => { c with phase := 1, warm := false, resetDue := none }))
  rw [← he] at hs hclk
  generalize s.coldReset kind origin = t at hs hclk ⊢
  have hf : ∀ x : Fld, x.off ∈ [R.RST_CAUSE, R.RST_CNT, R.Q_GLOBAL] → t.f x = v.f x := fun x hx =>
    congrArg x.ext (hs.rd x.off (fun hn => hn.2 hx))
  refine ⟨congrArg Clocks.phase hclk, congrArg Clocks.resetDue hclk, ?_, ?_, ?_, hs.dram.trans (hw.dram.trans hdram),
    (congrArg Pool.regions (hs.pool.trans hw.pool)).trans hpool, (congrArg Proctor.running (hs.proctor.trans hw.proctor)).trans ht.running,
    hs.work.trans (hw.work.trans ht.work), fun off pl r hp hr h3 => ?_⟩
  · rw [hf _ (by simp [F.RST_CAUSE_KIND]), hf1]
  · rw [hf _ (by simp [F.RST_CAUSE_ORIGIN]), hf2]
  · rw [hf _ (by simp [F.RST_CNT_COLD]), hf3]
    rfl
  · have hv : t.rd off = u.rd off := (hs.rd off (not_resetOwn_port hp h3)).trans (hw.rd off (not_countRegs_port hp h3))
    rw [ht.rd_port hp hr h3 hv]
    cases r.cls <;> rfl

/-- What every warm reset does (R371). -/
theorem State.warmReset_spec {s : State} (h : s.canonical) {kind origin : Nat} (hk : kind < 8) (ho : origin < 16) :
    (s.warmReset kind origin).clocks.phase = 1 ∧ (s.warmReset kind origin).clocks.warm = true ∧
    (s.warmReset kind origin).f F.RST_CAUSE_KIND = kind ∧ (s.warmReset kind origin).f F.RST_CAUSE_ORIGIN = origin ∧
    (s.warmReset kind origin).f F.RST_CNT_WARM = min (s.f F.RST_CNT_WARM + 1) 65535 ∧ (s.warmReset kind origin).dram = s.dram ∧
    (s.warmReset kind origin).proctor.running = [] ∧ (s.warmReset kind origin).work = {} ∧
    ∀ off pl r, placeOf off = some pl → rowAtPlace pl = some r → pl.port < 3 →
      (s.warmReset kind origin).rd off = if r.cls = .N ∨ r.cls = .P ∨ r.cls = .C then s.rd off else regDefault off := by
  obtain ⟨u, hku, ht, hdram, he⟩ := s.warmReset_stripped kind origin
  have hw := u.showReset_rewritten kind origin (cnt := F.RST_CNT_WARM) rfl
  obtain ⟨hf1, hf2, hf3⟩ := State.showReset_fields (hku.2 h) hk ho (cnt := F.RST_CNT_WARM) rfl (by decide)
  rw [ht.f_rstCnt rfl rfl] at hf3
  rw [he]
  generalize u.showReset kind origin F.RST_CNT_WARM = v at hw hf1 hf2 hf3
  refine ⟨rfl, rfl, hf1, hf2, hf3, hw.dram.trans hdram, (congrArg Proctor.running hw.proctor).trans ht.running, hw.work.trans ht.work,
    fun off pl r hp hr h3 => ?_⟩
  rw [ht.rd_port hp hr h3 (v := v.updClk _) (hw.rd off (not_countRegs_port hp h3))]
  cases r.cls <;> rfl

/-- A power-on is a state stripped of everything but what non-volatile storage holds (R368, R369). -/
theorem State.powerOn_spec (s : State) : Stripped (fun c => !decide (c = .N)) s s.powerOn ∧ s.powerOn.bell = 0 ∧
    s.powerOn.clocks.phase = 0 ∧ s.powerOn.clocks.off = false ∧ s.powerOn.dram = [] ∧ s.powerOn.pool.regions = [] ∧
    s.powerOn.journal.waiting = [] := by
  unfold State.powerOn
  extract_lets cls s1 clocks blk journal sec s2
  have t1 : Stripped cls s s1 := (s.dropWork_wipe true cls).1.dropPool
  have hd : s1.dram = [] := rfl
  have hp : s1.pool.regions = [] := rfl
  clear_value s1
  have t2 : Stripped cls s s2 := t1.of_same rfl rfl rfl rfl rfl
  have h2 : s2.bell = 0 ∧ s2.clocks.phase = 0 ∧ s2.clocks.off = false ∧ s2.dram = [] ∧ s2.pool.regions = [] ∧ s2.journal.waiting = [] :=
    ⟨rfl, rfl, rfl, hd, hp, rfl⟩
  clear_value s2
  obtain ⟨hbell, hphase, hoff, hdram, hpool, hwait⟩ := h2
  have hev : Rewritten resetOwn s2 (s2.setB F.PWR_EVT_OV_TRIP s2.clocks.ovLatch) :=
    (Rewritten.refl _ s2).setF (resetOwn_module (by decide) (by decide)) _
  have hw := hev.trans (State.syncRc_rewritten _)
  have hclk := State.syncRc_clocks (s2.setB F.PWR_EVT_OV_TRIP s2.clocks.ovLatch)
  have hb : ∀ v : State, v.syncRc.bell = v.bell := fun v => by rw [(Logged.refl v).syncRc.1]
  exact ⟨t2.rewritten hw, (hb _).trans hbell, (congrArg Clocks.phase hclk).trans hphase, (congrArg Clocks.off hclk).trans hoff,
    hw.dram.trans hdram, (congrArg Pool.regions hw.pool).trans hpool, (congrArg Journal.waiting hw.journal).trans hwait⟩

theorem Stripped.f_proctorReady {classes : Cls → Bool} {s u : State} (h : Stripped classes s u) (hC : classes .C = true) :
    u.f F.Q_GLOBAL_PROCTOR_READY = 0 := by
  have hrow : rowAtPlace ⟨48, 3, R.Q_GLOBAL⟩ = some ⟨0x10300, 0x4, 1, .C, 0x0, 0x0, 0x0, .none⟩ := rfl
  have hr := h.rd R.Q_GLOBAL _ _ (placeOf_module (by decide)) hrow (fun hn => hn.2 (by simp)) (fun _ => hC)
  simp only [hC, if_true] at hr
  have hd : regDefault R.Q_GLOBAL = 0 := rfl
  unfold State.f
  rw [show F.Q_GLOBAL_PROCTOR_READY.off = R.Q_GLOBAL from rfl, hr, hd]
  rfl

/-! ### A tile's reset (R372) -/

theorem State.each_rd {α : Type} {off : Nat} (s : State) (l : List α) (f : State → α → State)
    (hf : ∀ x ∈ l, ∀ u : State, (f u x).rd off = u.rd off) : (s.each l f).rd off = s.rd off := by
  unfold State.each
  induction l generalizing s with
  | nil => rfl
  | cons a l ih => exact (ih (f s a) (fun x hx => hf x (List.mem_cons_of_mem _ hx))).trans (hf a (List.mem_cons_self ..) s)

theorem State.policyReg_rd (s : State) (tgt : Nat) {a off : Nat} (h : off ≠ a) (v : Word) : (s.policyReg tgt a v).rd off = s.rd off := by
  unfold State.policyReg
  split
  · rfl
  · exact State.rd_wr_ne h v

theorem State.omeStart_rd (s : State) (r : Nat) {off : Nat} (h : off ≠ R.OME_STAT r) : (s.omeStart r).rd off = s.rd off := by
  unfold State.omeStart
  dsimp only
  split
  · refine (State.updOme_rd ..).trans (State.setFs_keeps _ off ?_)
    simp [F.OME_STAT_STATE, F.OME_STAT_PILOT_LOCK, F.OME_STAT_BANK_A_OK, F.OME_STAT_BANK_B_OK, h]
  · rfl

theorem State.rewriteDist_rd (s : State) {off : Nat}
    (h : ∀ a ∈ allTiles, off ≠ R.TILE_DIST_GEN a ∧ ∀ n ∈ allTiles, off ≠ R.TILE_DIST a n) : s.rewriteDist.rd off = s.rd off := by
  refine s.each_rd _ _ (fun a ha u => ?_)
  unfold State.rewriteRow
  generalize allTiles.map (fun n => u.distEntry a n) = row
  dsimp only
  split
  · rfl
  · have hrow := u.each_rd (row.zip allTiles) (fun s x => s.wr (R.TILE_DIST a x.2) (BitVec.ofNat 32 x.1)) (fun x hx v =>
      State.rd_wr_ne ((h a ha).2 x.2 (List.of_mem_zip (a := x.1) (b := x.2) hx).2) _)
    exact (State.rd_wr_ne (h a ha).1 _).trans hrow

/-- A reserve tile that adopts duties writes no register of the tiles' power and reset state. -/
theorem State.adoptFree_rd (s : State) {t : Nat} {c : Nat} (hc : c = 0x1004 ∨ c = 0x1008) :
    s.adoptFree.rd (tileBase t + c) = s.rd (tileBase t + c) := by
  refine s.each_rd _ _ (fun r _ u => ?_)
  unfold State.adoptOrphan
  dsimp only
  split
  · rfl
  · split
    · rfl
    · rw [State.rewriteDist_rd, State.omeStart_rd, State.policyReg_rd]
      · simp only [R.TILE_ROLE, tileBase]
        omega
      · simp only [R.OME_STAT, tileBase]
        omega
      · intro a _
        refine ⟨?_, fun n hn => ?_⟩
        · simp only [R.TILE_DIST_GEN, tileBase]
          omega
        · have := List.mem_range.1 hn
          simp only [R.TILE_DIST, tileBase]
          omega

/-- A tile reset leaves the tile in A0 with its cause, and counted. -/
theorem State.resetTile_fields {s : State} (h : s.canonical) (t : Nat) {cause : Nat} (hc : cause < 4) :
    (s.resetTile t cause).f (F.TILE_PWR_STAT_STATE t) = 0 ∧ (s.resetTile t cause).f (F.TILE_RST_CAUSE_LAST t) = cause ∧
      (s.resetTile t cause).f (F.TILE_RST_CAUSE_COUNT t) = min (s.f (F.TILE_RST_CAUSE_COUNT t) + 1) 65535 := by
  unfold State.resetTile
  extract_lets s1
  have k1 : Kept s s1 := (((Kept.stopTile (Kept.refl s) ..).liftFences ..).clearCache ..).dropSleep ..
  have h0 : (s1.startTile t).canonical := (k1.startTile t).2 h
  generalize s1.startTile t = u at h0
  generalize hn : min (s.f (F.TILE_RST_CAUSE_COUNT t) + 1) (2 ^ (F.TILE_RST_CAUSE_COUNT t).width - 1) = n
  have hlt : n < 2 ^ 16 := by
    have hw : (F.TILE_RST_CAUSE_COUNT t).width = 16 := rfl
    rw [hw] at hn
    omega
  have h1 := State.setF_canonical h0 (F.TILE_RST_CAUSE_LAST t) cause
  have h2 := State.setF_canonical h1 (F.TILE_RST_CAUSE_COUNT t) n
  have hne : R.TILE_RST_CAUSE t ≠ R.TILE_PWR_STAT t := by
    simp only [R.TILE_RST_CAUSE, R.TILE_PWR_STAT]
    omega
  have hlast : (F.TILE_RST_CAUSE_LAST t).lo + (F.TILE_RST_CAUSE_LAST t).width ≤ 16 := by simp [F.TILE_RST_CAUSE_LAST]
  refine ⟨?_, ?_, ?_⟩
  · refine (congrArg (F.TILE_PWR_STAT_STATE t).ext (State.adoptFree_rd _ (.inl rfl))).trans ?_
    exact State.f_setF_same h2.rising _ 0 (by simp [F.TILE_PWR_STAT_STATE])
  · refine (congrArg (F.TILE_RST_CAUSE_LAST t).ext (State.adoptFree_rd _ (.inr rfl))).trans ?_
    refine (State.f_setF_off hne 0).trans ((State.f_setF_apart h1.rising (.inr hlast) n).trans ?_)
    exact (State.f_setF_same h0.rising _ _ (by omega)).trans (Nat.mod_eq_of_lt hc)
  · refine (congrArg (F.TILE_RST_CAUSE_COUNT t).ext (State.adoptFree_rd _ (.inr rfl))).trans ?_
    refine (State.f_setF_off hne 0).trans ((State.f_setF_same h1.rising _ _ (by simp [F.TILE_RST_CAUSE_COUNT])).trans ?_)
    exact (Nat.mod_eq_of_lt hlt).trans hn.symm

end Sys2Proof.Machine
end

section
/-! SUPPORT. The commands and events that reset (R368 to R372, R386, R419). -/

namespace Sys2Proof.Machine

/-! ### The commands and events that reset -/

theorem exec_mresetNLow (s : State) : exec .mresetNLow s = execMresetNLow s := rfl
theorem exec_coldReset (s : State) : exec .coldReset s = execColdReset s := rfl
theorem exec_warmReset (s : State) : exec .warmReset s = execWarmReset s := rfl
theorem exec_tileReset (n : Fin 48) (s : State) : exec (.tileReset n) s = execTileReset n s := rfl

/-- A stripped state at whose power-on the supplies rise. -/
def State.suppliesRise (u : State) (a b : Bool) : State :=
  ((u.updClk (fun c => { c with ovLatch := false })).updPow (fun p => { p with
    feedLost := (if a then [] else [0]) ++ (if b then [] else [1]) })).emit (.modPwrok true)

theorem State.suppliesRise_power (u : State) (a b : Bool) :
    (u.suppliesRise a b).power.feedLost = (if a then [] else [0]) ++ (if b then [] else [1]) := rfl

theorem State.suppliesRise_clocks (u : State) (a b : Bool) : (u.suppliesRise a b).clocks = { u.clocks with ovLatch := false } := rfl

/-- The rise shows in the clocks, the power and the outputs only. -/
theorem State.suppliesRise_frame (u : State) (a b : Bool) : (u.suppliesRise a b).bell = u.bell ∧ (u.suppliesRise a b).dram = u.dram ∧
    (u.suppliesRise a b).pool = u.pool ∧ (u.suppliesRise a b).journal = u.journal := ⟨rfl, rfl, rfl, rfl⟩

theorem Stripped.suppliesRise {classes : Cls → Bool} {s u : State} (h : Stripped classes s u) (a b : Bool) :
    Stripped classes s (u.suppliesRise a b) := h.of_same rfl rfl rfl rfl rfl

/-- POWER_ON (R368, R369). -/
theorem powerOn_resets (a b : Bool) (s : State) :
    ∃ t : State, exec (.powerOn a b) s = .next t ∧ t.bell = 0 ∧ t.clocks.phase = 0 ∧ t.clocks.off = false ∧ t.dram = [] ∧ t.pool.regions = [] ∧
      t.proctor.running = [] ∧ t.work = {} ∧ t.streams = {} ∧ t.journal.entries = s.journal.entries ∧ t.journal.waiting = [] ∧
      t.f F.Q_GLOBAL_PROCTOR_READY = 0 ∧ t.power.feedLost = (if a then [] else [0]) ++ (if b then [] else [1]) ∧
      ∀ off pl r, placeOf off = some pl → rowAtPlace pl = some r → pl.port < 3 →
        t.rd off = if r.cls = .N then s.rd off else regDefault off := by
  obtain ⟨hs, hbell, hphase, hoff, hdram, hpool, hwait⟩ := s.powerOn_spec
  obtain ⟨ebell, edram, epool, ejournal⟩ := s.powerOn.suppliesRise_frame a b
  have hclk := s.powerOn.suppliesRise_clocks a b
  have hfeed := s.powerOn.suppliesRise_power a b
  have ht := hs.suppliesRise a b
  have he : exec (.powerOn a b) s = .next (s.powerOn.suppliesRise a b) := rfl
  refine ⟨_, he, ?_⟩
  generalize s.powerOn.suppliesRise a b = t at *
  refine ⟨ebell.trans hbell, by rw [hclk]; exact hphase, by rw [hclk]; exact hoff, edram.trans hdram, by rw [epool, hpool], ht.running,
    ht.work, ht.streams, ht.entries, by rw [ejournal, hwait], ht.f_proctorReady rfl, hfeed, fun off pl r hp hr h3 => ?_⟩
  rw [ht.rd_port hp hr h3 rfl]
  cases r.cls <;> rfl

/-- The fall of MRESET_N (R368). -/
theorem mresetNLow_resets {s : State} (h : s.canonical) :
    (s.clocks.phase = 0 ∨ s.clocks.tripped = true → exec .mresetNLow s = .next s) ∧
    (s.clocks.phase ≠ 0 → s.clocks.tripped = false →
      ∃ t : State, exec .mresetNLow s = .next t ∧ t.clocks.mresetLow = true ∧ t.clocks.phase = 1 ∧ t.f F.RST_CAUSE_KIND = 1 ∧
        t.f F.RST_CNT_COLD = min (s.f F.RST_CNT_COLD + 1) 65535 ∧ t.dram = [] ∧ t.pool.regions = [] ∧ t.proctor.running = []) := by
  rw [exec_mresetNLow]
  unfold execMresetNLow
  refine ⟨fun hc => if_pos (by simpa using hc), fun hp ht => ?_⟩
  obtain ⟨hphase, -, hkind, -, hcnt, hdram, hpool, hrun, -, -⟩ := State.coldReset_spec h (kind := 1) (origin := 0) (by decide) (by decide)
  refine ⟨_, if_neg (by simp [hp, ht]), rfl, hphase, ?_, ?_, ?_, ?_, ?_⟩
  · rw [State.updClk_f, hkind]
  · rw [State.updClk_f, hcnt]
  · rw [State.updClk_dram, hdram]
  · rw [State.updClk_pool, hpool]
  · rw [State.updClk_proctor, hrun]

/-- The cold reset that a command asked for (R370). -/
theorem coldReset_resets {s : State} {o : Nat} (ht : s.clocks.tripped = false) (hl : s.clocks.mresetLow = false)
    (hd : s.clocks.resetDue = some (2, o)) (hw : s.resetWaits = false) : exec .coldReset s = .next (s.coldReset 2 o) := by
  rw [exec_coldReset]
  simp [execColdReset, ht, hl, hd, hw]

/-- The warm reset that is due (R371). -/
theorem warmReset_resets {s : State} {k o : Nat} (ht : s.clocks.tripped = false) (hd : s.clocks.resetDue = some (k, o)) (hk : 3 ≤ k)
    (hw : s.resetWaits = false) : exec .warmReset s = .next (s.warmReset k o) := by
  have hk' : ¬ k < 3 := by omega
  rw [exec_warmReset]
  simp [execWarmReset, ht, hd, hw, hk']

/-- A reset that is not due, or waits, changes nothing. -/
theorem resets_wait {s : State} (h : s.clocks.resetDue = none ∨ s.resetWaits = true) (hl : s.clocks.mresetLow = false) :
    exec .coldReset s = .next s ∧ exec .warmReset s = .next s := by
  rw [exec_coldReset, exec_warmReset]
  unfold execColdReset execWarmReset
  rcases h with h | h
  · simp [h, hl]
  · simp only [h, hl, if_true, Bool.or_true, Bool.false_eq_true, if_false]
    refine ⟨?_, by split <;> rfl⟩
    split
    · rfl
    · split <;> rfl

/-- RESET of the module is armed, and answered (R386). -/
theorem reset_module {p : Packet} {s : State} {o : Nat} (ha : s.accepts resetDef p o) (hk : p.kind = 0) :
    let b := s.begun p
    ∃ u : State, exec (.reset p) s = .next (u.conclude 0x120 o true p stOk 0 [] (paramChange p) (undoOf b u)) ∧
      u = b.updClk (fun c => { c with resetDue := some (if p.w 0 = 0 then 3 else 2, originCode o) }) := by
  intro b
  have hact : resetDef.act b p o b.proctor.nextId = .now (b.updClk (fun c => { c with
      resetDue := some (if p.w 0 = 0 then 3 else 2, originCode o) })) stOk 0 [] (paramChange p) := by
    simp only [resetDef, hk]
  refine ⟨_, congrArg Host.Outcome.next ?_, rfl⟩
  rw [runCmd_accepted ha, show s.begun p = b from rfl, hact]
  rfl

/-- A long-running command that starts is listed as running (R55). -/
theorem runCmd_later {d : CmdDef} {p : Packet} {s u : State} {o : Nat} (ha : s.accepts d p o)
    (hact : d.act (s.begun p) p o (s.begun p).proctor.nextId = .later u) (hp : u.proctor = (s.begun p).proctor) :
    (s.begun p).runsOn (runCmd d p s) p o d.code ∧ (runCmd d p s).regs = u.regs := by
  have he := runCmd_accepted ha
  rw [hact] at he
  rw [he]
  generalize s.begun p = b at hp
  exact ⟨by simp only [State.runsOn, State.updPr, hp]; rfl, rfl⟩

/-- RESET of a tile or a port runs on; a tile is held in reset meanwhile (R372, R386). -/
theorem reset_unit {p : Packet} {s : State} {o : Nat} (ha : s.accepts resetDef p o) (hk : p.kind ≠ 0) :
    let b := s.begun p
    ∃ t : State, exec (.reset p) s = .next t ∧ b.runsOn t p o 0x120 ∧
      (p.kind = 1 → s.canonical → t.f (F.TILE_PWR_STAT_STATE p.unit) = 5) := by
  intro b
  by_cases h1 : p.kind = 1
  · have hact : resetDef.act b p o b.proctor.nextId = .later (b.setF (F.TILE_PWR_STAT_STATE p.unit) 5) := by
      simp only [resetDef, h1]
    obtain ⟨hrun, hregs⟩ := runCmd_later ha hact (State.setF_proctor ..)
    refine ⟨_, rfl, hrun, fun _ hs => ?_⟩
    have hb : b.canonical := (Kept.ite ((Kept.refl s).post ..) (Kept.refl s) : Kept s b).2 hs
    have hf := State.f_setF_same hb.rising (F.TILE_PWR_STAT_STATE p.unit) 5 (by simp [F.TILE_PWR_STAT_STATE])
    refine Eq.trans ?_ hf
    simp only [State.f, State.rd, hregs]
  · have hact : resetDef.act b p o b.proctor.nextId = .later b := by
      unfold resetDef
      dsimp only
      split
      · exact absurd ‹_› hk
      · exact absurd ‹_› h1
      · rfl
    exact ⟨_, rfl, (runCmd_later ha hact rfl).1, fun h => absurd h h1⟩

end Sys2Proof.Machine

open Sys2Proof Sys2Proof.Machine

/-- Settles O51: power-on, the module resets, RESET and the end of a tile reset, in the order of the statement. -/
theorem moduleResets : Obligations.ModuleResets := by
  unfold Obligations.ModuleResets
  refine ⟨powerOn_resets, fun s h => ⟨(mresetNLow_resets h).1, (mresetNLow_resets h).2, fun ht hl => ?_, fun o ht hl hd hw ho => ?_,
    fun k o ht hd h3 h8 hw ho => ?_, resets_wait⟩, fun p s o ha => ⟨reset_module ha, reset_unit ha⟩, fun n s => ⟨fun hf => ?_, fun r hf hr => ?_,
    fun h => State.resetTile_fields h n.val (by decide)⟩⟩
  · rw [exec_coldReset]
    simp [execColdReset, ht, hl]
  · exact ⟨_, coldReset_resets ht hl hd hw, State.coldReset_spec h (by decide) ho⟩
  · exact ⟨_, warmReset_resets ht hd h3 hw, State.warmReset_spec h h8 ho⟩
  · rw [exec_tileReset]
    unfold execTileReset
    simp only [hf]
  · rw [exec_tileReset]
    unfold execTileReset
    simp only [hf, hr, if_true]
end

section
/-! SUPPORT. Both ends of a Brim link: its status registers, its frames, its fence and its unfence test (R206 to R211). -/

namespace Sys2Proof.Machine

/-! ### The two ends (R206) -/

/-- The far end of an edge is another end, whose far end is this one. -/
theorem brimPeer_symm {t e u d : Nat} (h : brimPeer t e = some (u, d)) (he : e < 2) :
    brimPeer u d = some (t, e) ∧ d < 2 ∧ 2 * u + d ≠ 2 * t + e := by
  unfold brimPeer tileCol at h ⊢
  by_cases h0 : e = 0
  · rw [if_pos h0] at h
    split at h
    · simp at h
    · obtain ⟨rfl, rfl⟩ : t - 1 = u ∧ 1 = d := by simpa using h
      rw [if_neg (by omega), if_neg (by omega), h0, Nat.sub_add_cancel (by omega)]
      exact ⟨rfl, by omega, by omega⟩
  · rw [if_neg h0] at h
    split at h
    · simp at h
    · obtain ⟨rfl, rfl⟩ : t + 1 = u ∧ 0 = d := by simpa using h
      obtain rfl : e = 1 := by omega
      rw [if_pos rfl, if_neg (by omega), Nat.add_sub_cancel]
      exact ⟨rfl, by omega, by omega⟩

/-- An entry changed to what an unlisted key does not read as is found, in any table. -/
theorem Map.get_upd_of_ne {α : Type} [DecidableEq α] {d : α} {m : List (Nat × α)} {k : Nat} {f : α → α} (h : f (Map.get d m k) ≠ d) :
    Map.get d (Map.upd d m k f) k = f (Map.get d m k) := by
  unfold Map.upd Map.set
  rw [if_neg h]
  exact congrArg (·.getD d) (Map.find_put_same ..)

theorem State.br_updBr_same {s : State} {t e : Nat} {g : Brim → Brim} (h : g (s.br t e) ≠ {}) : (s.updBr t e g).br t e = g (s.br t e) :=
  Map.get_upd_of_ne h

theorem State.br_updBr_ne {t e u d : Nat} (h : 2 * u + d ≠ 2 * t + e) (s : State) (g : Brim → Brim) : (s.updBr t e g).br u d = s.br u d :=
  Map.get_upd_ne h ..

/-! ### The status register of an end -/

theorem brimStat_ne {t e u d : Nat} (h : 2 * u + d ≠ 2 * t + e) (he : e < 2) (hd : d < 2) : R.BRIM_STAT u d ≠ R.BRIM_STAT t e := by
  simp only [R.BRIM_STAT, tileBase]
  omega

theorem brimStat_not_mem_log {e : Nat} (t : Nat) : R.BRIM_STAT t e ∉ logRegs := by
  intro hm
  have hall : ∀ a ∈ logRegs, a < 0x100000 := by decide
  have := hall _ hm
  simp only [R.BRIM_STAT, tileBase] at this
  omega

/-- No assertion of a tile's source writes the status of a Brim edge. -/
theorem brimStat_not_mem_fault {e : Nat} (he : e < 2) (t a : Nat) : R.BRIM_STAT t e ∉ tileFaultRegs a := by
  intro hm
  rcases List.mem_append.1 hm with hm | hm
  · exact brimStat_not_mem_log t hm
  rcases List.mem_append.1 hm with hm | hm
  · simp only [List.mem_cons, List.not_mem_nil, or_false, R.BRIM_STAT, R.MFSW_TILE_LO, R.MFSW_TILE_HI, R.FSW_LO, R.FSW_HI, R.FLVL_LO, R.FLVL_HI,
      R.FFIRST, R.FFIRST_BELL_LO, R.FFIRST_BELL_HI, R.FSTATE, tileBase] at hm
    omega
  · simp only [darkRegs, List.mem_cons, List.mem_append, List.mem_map, List.mem_range, R.BRIM_STAT, R.TILE_TEST_STAT, R.LAS_STAT, R.LAS_BIAS,
      R.EYESAFE, tileBase] at hm
    omega

theorem brimCe_off (t e : Nat) : (F.BRIM_CE t e).off = R.BRIM_CE t e := rfl

theorem brimUe_off (t e : Nat) : (F.BRIM_UE t e).off = R.BRIM_UE t e := rfl

theorem brimStatState_off (t e : Nat) : (F.BRIM_STAT_STATE t e).off = R.BRIM_STAT t e := rfl

theorem brimStatByCmd_off (t e : Nat) : (F.BRIM_STAT_BY_CMD t e).off = R.BRIM_STAT t e := rfl

theorem brimStatTestFails_off (t e : Nat) : (F.BRIM_STAT_TEST_FAILS t e).off = R.BRIM_STAT t e := rfl

section
variable {t e : Nat} {x : Fld}

/-- An assertion leaves the status fields of every Brim edge. -/
theorem State.raise_brimStat (hx : x.off = R.BRIM_STAT t e) (he : e < 2) (s : State) (a bit : Nat) : (s.raise a bit).f x = s.f x := by
  have h := (s.raise_faulted a bit 0 false).2 _ (hx ▸ brimStat_not_mem_fault he t a)
  simp only [State.f, h]

/-- So does a record. -/
theorem State.note_brimStat (hx : x.off = R.BRIM_STAT t e) (s : State) (g : Nat) (r : RecEv) (sev source : Nat) (v : Int) :
    (s.note g r sev source v).f x = s.f x :=
  s.note_f g r sev source v (hx ▸ brimStat_not_mem_log t)

/-- So does the rewriting of the distance table (R45). -/
theorem State.rewriteDist_brimStat (hx : x.off = R.BRIM_STAT t e) (he : e < 2) (s : State) : s.rewriteDist.f x = s.f x := by
  have h : s.rewriteDist.rd x.off = s.rd x.off := by
    rw [hx]
    refine s.rewriteDist_rd (fun a _ => ⟨?_, fun n hn => ?_⟩)
    · simp only [R.BRIM_STAT, R.TILE_DIST_GEN, tileBase]
      omega
    · have := List.mem_range.1 hn
      simp only [R.BRIM_STAT, R.TILE_DIST, tileBase]
      omega
  simp only [State.f, h]
end

theorem State.setFs_pair (s : State) (x y : Fld) (v w : Nat) : s.setFs [(x, v), (y, w)] = (s.setF x v).setF y w := rfl

/-- Storing the state of an edge and who asked for it. -/
theorem State.setBrimStat {s : State} (h : s.canonical) (t e : Nat) {v w : Nat} (hv : v < 4) (hw : w < 2) :
    let u := s.setFs [(F.BRIM_STAT_STATE t e, v), (F.BRIM_STAT_BY_CMD t e, w)]
    u.canonical ∧ u.f (F.BRIM_STAT_STATE t e) = v ∧ u.f (F.BRIM_STAT_BY_CMD t e) = w ∧ ∀ x : Fld, x.off ≠ R.BRIM_STAT t e → u.f x = s.f x := by
  have h1 := State.setF_canonical h (F.BRIM_STAT_STATE t e) v
  have hst : (s.setF (F.BRIM_STAT_STATE t e) v).f (F.BRIM_STAT_STATE t e) = v :=
    (State.f_setF_same h.rising _ _ (by simp [F.BRIM_STAT_STATE])).trans (Nat.mod_eq_of_lt hv)
  rw [State.setFs_pair]
  refine ⟨State.setF_canonical h1 _ w, ?_, ?_, fun x hx => ?_⟩
  · rw [State.f_setF_apart h1.rising (.inr (by simp [F.BRIM_STAT_STATE, F.BRIM_STAT_BY_CMD])), hst]
  · exact (State.f_setF_same h1.rising _ _ (by simp [F.BRIM_STAT_BY_CMD])).trans (Nat.mod_eq_of_lt hw)
  · rw [State.f_setF_off (by rwa [brimStatByCmd_off]), State.f_setF_off (by rwa [brimStatState_off])]

/-! ### Frames (R207) -/

theorem fitBytes_self {n : Nat} {bs : List Byte} (h : bs.length = n) : fitBytes n bs = bs := by
  simp [fitBytes, zeros, ← h]

theorem brimHeader_length (seq ack : Nat) (nak : Bool) (type : Nat) (r : AckRec) : (brimHeader seq ack nak type r).length = 16 :=
  leBytes_length ..

/-- Bit 24 of a header without an end-to-end record is NAK. -/
theorem brimHeader_nak (seq ack : Nat) (nak : Bool) {type : Nat} (ht : type < 8) (cell : List Byte) :
    (leAt (brimHeader seq ack nak type {} ++ cell) 0 16).testBit 24 = nak := by
  unfold brimHeader
  rw [leAt_head]
  · cases nak <;> simp [Nat.testBit_eq_decide_div_mod_eq] <;> omega
  · cases nak <;> simp <;> omega

/-- Counting in one register leaves the others. -/
theorem State.rd_bump_ne {s : State} {a : Nat} {x : Fld} (h : a ≠ x.off) (n : Nat) : (s.bump x n).rd a = s.rd a := State.rd_wr_ne h _

/-- The beats of a frame, corrected and uncorrectable, are counted (R209). -/
def State.countBeats (s : State) (t e ce ue : Nat) : State := (s.bump (F.BRIM_CE t e) ce).bump (F.BRIM_UE t e) ue

theorem State.countBeats_keeps (s : State) (t e ce ue : Nat) : s.keepsRegs (s.countBeats t e ce ue) [R.BRIM_CE t e, R.BRIM_UE t e] := by
  intro a ha
  have hce : a ≠ (F.BRIM_CE t e).off := fun h => ha (by rw [h, brimCe_off]; exact List.mem_cons_self ..)
  have hue : a ≠ (F.BRIM_UE t e).off := fun h => ha (by rw [h, brimUe_off]; exact List.mem_cons_of_mem _ (List.mem_cons_self ..))
  unfold State.countBeats
  rw [State.rd_bump_ne hue, State.rd_bump_ne hce]

theorem State.countBeats_frame (s : State) (t e ce ue : Nat) : (s.countBeats t e ce ue).out = s.out ∧ (s.countBeats t e ce ue).sq = s.sq ∧
    (s.countBeats t e ce ue).host = s.host ∧ (s.countBeats t e ce ue).dram = s.dram := by
  unfold State.countBeats
  rw [State.bump_out, State.bump_out, State.bump_sq, State.bump_sq, State.bump_host, State.bump_host, State.bump_dram, State.bump_dram]
  exact ⟨rfl, rfl, rfl, rfl⟩

theorem State.putFrame_rd (s : State) (t e type seq : Nat) (r : AckRec) (cell : List Byte) (off : Nat) :
    (s.putFrame t e type seq r cell).rd off = s.rd off := rfl

theorem State.putFrame_memory (s : State) (t e type seq : Nat) (r : AckRec) (cell : List Byte) :
    (s.putFrame t e type seq r cell).sq = s.sq ∧ (s.putFrame t e type seq r cell).host = s.host ∧
      (s.putFrame t e type seq r cell).dram = s.dram := ⟨rfl, rfl, rfl⟩

/-- A frame dropped for its uncorrectable beats: their times are kept, and an ACK frame asks for replay (R207). -/
def State.dropFrame (s : State) (t e n now : Nat) : State :=
  let s1 := s.updBr t e (fun b => { b with nak := true, ueTimes := b.ueTimes ++ List.replicate n now })
  s1.putFrame t e 1 (s1.br t e).txSeq {} []

theorem State.dropFrame_out (s : State) (t e n now : Nat) :
    ∃ frame, (s.dropFrame t e n now).out = .frame t e frame :: s.out ∧ frame.length = 256 ∧ (leAt frame 0 16).testBit 24 = true := by
  refine ⟨_, rfl, ?_, ?_⟩
  · simp [brimHeader_length, fitBytes_length]
  · rw [brimHeader_nak _ _ _ (by decide), State.br_updBr_same (fun hd => Bool.noConfusion (congrArg Brim.nak hd : true = false))]

theorem State.dropFrame_rd (s : State) (t e n now off : Nat) : (s.dropFrame t e n now).rd off = s.rd off := by
  unfold State.dropFrame
  rw [State.putFrame_rd, State.updBr_rd]

theorem State.dropFrame_memory (s : State) (t e n now : Nat) :
    (s.dropFrame t e n now).sq = s.sq ∧ (s.dropFrame t e n now).host = s.host ∧ (s.dropFrame t e n now).dram = s.dram := by
  unfold State.dropFrame
  extract_lets s1
  exact s1.putFrame_memory ..

/-- A frame at an edge that takes no traffic (R209, R210). -/
theorem brimFrameReceive_idle {t : Tile} {e : Fin 2} {s : State}
    (h : s.f (F.BRIM_STAT_STATE t.val e.val) ≠ 2 ∨ (s.br t.val e.val).testing = true) (bytes : List Byte) (ce ue : BitVec 8) :
    exec (.brimFrameReceive t e bytes ce ue) s = .next s :=
  congrArg Host.Outcome.next (if_pos (by simpa using h))

/-- A frame at an edge in service is taken, or dropped where a beat in it is uncorrectable. -/
theorem brimFrameReceive_live {t : Tile} {e : Fin 2} {s : State} (h2 : s.f (F.BRIM_STAT_STATE t.val e.val) = 2)
    (ht : (s.br t.val e.val).testing = false) (bytes : List Byte) (ce ue : BitVec 8) :
    exec (.brimFrameReceive t e bytes ce ue) s = .next (
      if ue = 0 then (s.countBeats t.val e.val ce.toNat ue.toNat).takeFrame t.val e.val (fitBytes 256 bytes)
      else (s.countBeats t.val e.val ce.toNat ue.toNat).dropFrame t.val e.val ue.toNat s.bell) :=
  congrArg Host.Outcome.next (if_neg (by simp [h2, ht]))

/-- The frame that is dropped is counted, and asked for again. -/
theorem State.countBeats_dropFrame (s : State) (t e ce ue n now : Nat) : ∃ frame,
    ((s.countBeats t e ce ue).dropFrame t e n now).out = .frame t e frame :: s.out ∧ frame.length = 256 ∧ (leAt frame 0 16).testBit 24 = true ∧
    s.keepsRegs ((s.countBeats t e ce ue).dropFrame t e n now) [R.BRIM_CE t e, R.BRIM_UE t e] ∧
    s.keepsMemory ((s.countBeats t e ce ue).dropFrame t e n now) := by
  obtain ⟨frame, hout, hlen, hbit⟩ := (s.countBeats t e ce ue).dropFrame_out t e n now
  obtain ⟨hsq, hhost, hdram⟩ := (s.countBeats t e ce ue).dropFrame_memory t e n now
  obtain ⟨cout, csq, chost, cdram⟩ := s.countBeats_frame t e ce ue
  refine ⟨frame, by rw [hout, cout], hlen, hbit, fun a ha => ?_, fun a => ?_⟩
  · rw [State.dropFrame_rd]
    exact s.countBeats_keeps t e ce ue a ha
  · rw [hsq, hhost, hdram, csq, chost, cdram]
    exact ⟨rfl, rfl, rfl⟩

/-! ### The fence (R209, R211) -/

/-- One end of a link that is fenced: BRIM_STAT, the replay buffer, and the source of its edge. -/
def State.fenceEnd (s : State) (t e : Nat) (byCmd : Bool) : State :=
  ((s.setFs [(F.BRIM_STAT_STATE t e, 3), (F.BRIM_STAT_BY_CMD t e, if byCmd then 1 else 0)]).updBr t e
    (fun b => { b with kept := [], ueTimes := [], testing := false })).raise t (24 + e)

theorem State.fenceBrim_eq {t e u d : Nat} (h : brimPeer t e = some (u, d)) (s : State) (c : Bool) :
    s.fenceBrim t e c = (((s.fenceEnd t e c).fenceEnd u d c).rewriteDist).note 0x2 .brimFence 2 (tgtTile t) := by
  unfold State.fenceBrim
  rw [h]
  rfl

theorem State.fenceEnd_fields {s : State} (h : s.canonical) {t e : Nat} (he : e < 2) (c : Bool) :
    (s.fenceEnd t e c).canonical ∧ (s.fenceEnd t e c).f (F.BRIM_STAT_STATE t e) = 3 ∧
      (s.fenceEnd t e c).f (F.BRIM_STAT_BY_CMD t e) = (if c then 1 else 0) ∧
      ∀ (x : Fld) (u d : Nat), x.off = R.BRIM_STAT u d → d < 2 → 2 * u + d ≠ 2 * t + e → (s.fenceEnd t e c).f x = s.f x := by
  obtain ⟨hc, hst, hby, hoff⟩ := State.setBrimStat h t e (v := 3) (w := if c then 1 else 0) (by decide) (by split <;> decide)
  unfold State.fenceEnd
  refine ⟨(((Kept.refl _).updBr ..).raise ..).2 hc, ?_, ?_, fun x u d hx hd hne => ?_⟩
  · rw [State.raise_brimStat (brimStatState_off ..) he, State.updBr_f, hst]
  · rw [State.raise_brimStat (brimStatByCmd_off ..) he, State.updBr_f, hby]
  · rw [State.raise_brimStat hx hd, State.updBr_f, hoff x (by rw [hx]; exact brimStat_ne hne he hd)]

/-- A fenced link is fenced at both ends. -/
theorem State.fenceBrim_fields {s : State} (h : s.canonical) {t e u d : Nat} (hp : brimPeer t e = some (u, d)) (he : e < 2) (c : Bool) :
    (s.fenceBrim t e c).f (F.BRIM_STAT_STATE t e) = 3 ∧ (s.fenceBrim t e c).f (F.BRIM_STAT_STATE u d) = 3 ∧
      (s.fenceBrim t e c).f (F.BRIM_STAT_BY_CMD t e) = (if c then 1 else 0) := by
  obtain ⟨-, hd, hne⟩ := brimPeer_symm hp he
  obtain ⟨hc, hst, hby, -⟩ := State.fenceEnd_fields h (t := t) he c
  obtain ⟨-, hst', -, hoff⟩ := State.fenceEnd_fields hc (t := u) hd c
  rw [State.fenceBrim_eq hp]
  refine ⟨?_, ?_, ?_⟩
  · rw [State.note_brimStat (brimStatState_off ..), State.rewriteDist_brimStat (brimStatState_off ..) he,
      hoff _ t e (brimStatState_off ..) he hne.symm, hst]
  · rw [State.note_brimStat (brimStatState_off ..), State.rewriteDist_brimStat (brimStatState_off ..) hd, hst']
  · rw [State.note_brimStat (brimStatByCmd_off ..), State.rewriteDist_brimStat (brimStatByCmd_off ..) he,
      hoff _ t e (brimStatByCmd_off ..) he hne.symm, hby]

/-- The window's count at an edge in service fences the link where it is over the limit. -/
theorem brimUeLimit_fences {t : Tile} {e : Fin 2} {s : State} (h2 : s.f (F.BRIM_STAT_STATE t.val e.val) = 2) :
    let n := (s.br t.val e.val).ueTimes.countP (fun b => s.bell < b + s.f (F.BRIM_CTL_UE_WIN t.val e.val) * 1000000)
    (n ≤ s.ueLimit t.val e.val → exec (.brimUeLimit t e) s = .next s) ∧
    (s.ueLimit t.val e.val < n → exec (.brimUeLimit t e) s = .next ((s.fenceBrim t.val e.val false).policyNote (tgtTile t.val))) := by
  intro n
  have he : exec (.brimUeLimit t e) s = execBrimUeLimit t e s := rfl
  rw [he, execBrimUeLimit]
  refine ⟨fun hn => ?_, fun hn => ?_⟩
  · exact congrArg Host.Outcome.next (if_pos (by simp only [decide_eq_true hn, Bool.or_true, n]))
  · exact congrArg Host.Outcome.next (if_neg (by simp only [h2, decide_eq_false (Nat.not_le.2 hn), n]; decide))

/-- A command with nothing to journal that no twin mirrors is answered at once. -/
theorem State.conclude_unchanged {t : State} {p : Packet} {o code : Nat} {j : Bool} {un : Undo} (hm : mirroredKind code = none) :
    t.conclude code o j p stOk 0 [] [] un = t.replies p [] := by
  simp [State.conclude, State.replies, hm, State.settle]

/-- BRIM_FENCE answers where the link is fenced, and fences it where it is not (R211). -/
theorem brimFence_fences {p : Packet} {o : Nat} {s : State} (ha : s.accepts brimFenceDef p o) :
    let b := s.begun p
    (b.f (F.BRIM_STAT_STATE p.unit (p.w 0)) = 3 → exec (.brimFence p) s = .next (b.replies p [])) ∧
    (b.f (F.BRIM_STAT_STATE p.unit (p.w 0)) ≠ 3 → ∃ u : State, u = b.fenceBrim p.unit (p.w 0) true ∧
      exec (.brimFence p) s = .next (u.conclude 0x260 o true p stOk 0 [] (paramChange p) (undoOf b u))) := by
  intro b
  have hrun : exec (.brimFence p) s = .next (runCmd brimFenceDef p s) := rfl
  rw [hrun, runCmd_accepted ha, show s.begun p = b from rfl]
  refine ⟨fun h3 => ?_, fun h3 => ⟨_, rfl, ?_⟩⟩
  · have hact : brimFenceDef.act b p o b.proctor.nextId = .now b stOk 0 [] [] := if_pos h3
    rw [hact]
    exact congrArg _ (State.conclude_unchanged rfl)
  · have hact : brimFenceDef.act b p o b.proctor.nextId = .now (b.fenceBrim p.unit (p.w 0) true) stOk 0 [] (paramChange p) := if_neg h3
    rw [hact]
    rfl

/-! ### The unfence test (R210, R211) -/

/-- A packet that passes the checks of R58 passes its opcode's own check of the fields. -/
theorem State.verdict_par {s : State} {d : CmdDef} {p : Packet} {o : Nat} (h : s.verdict d p o = none) : d.par s p o = none := by
  have hearly : s.early d p o (d.code / 256) = none := by
    unfold State.verdict at h
    cases he : s.early d p o (d.code / 256) with
    | none => rfl
    | some r => simp only [he, reduceCtorEq] at h
  have hfields : s.verdict6 d p o = none := by
    unfold State.early at hearly
    grind
  unfold State.verdict6 at hfields
  grind

theorem edgeBad_none {p : Packet} (h : edgeBad p = none) : p.w 0 < 2 := by
  unfold edgeBad at h
  by_contra hc
  rw [if_pos (by simp only [Bool.or_eq_true, decide_eq_true_eq]; exact .inl (by omega))] at h
  exact absurd h (by simp)

/-- One end of a link goes under test, for a running command at the end that was named. -/
def State.startTest (s : State) (t e : Nat) (run : Option Nat) : State := s.updBr t e (fun b => { b with testing := true, testRun := run })

theorem State.startTest_br (s : State) (t e : Nat) (run : Option Nat) :
    (s.startTest t e run).br t e = { s.br t e with testing := true, testRun := run } :=
  State.br_updBr_same (fun hd => Bool.noConfusion (congrArg Brim.testing hd : true = false))

theorem State.keepsMemory.trans {s t u : State} (h : s.keepsMemory t) (k : t.keepsMemory u) : s.keepsMemory u := fun a => by
  obtain ⟨hsq, hhost, hdram⟩ := h a
  obtain ⟨ksq, khost, kdram⟩ := k a
  exact ⟨ksq.trans hsq, khost.trans hhost, kdram.trans hdram⟩

theorem State.startTest_frame (s : State) (t e : Nat) (run : Option Nat) : (s.startTest t e run).proctor = s.proctor ∧
    (s.startTest t e run).regs = s.regs ∧ s.keepsMemory (s.startTest t e run) := ⟨rfl, rfl, fun _ => ⟨rfl, rfl, rfl⟩⟩

/-- Listing a command as running changes no edge and no memory. -/
theorem runCmd_later_frame {d : CmdDef} {p : Packet} {s u : State} {o : Nat} (ha : s.accepts d p o)
    (hact : d.act (s.begun p) p o (s.begun p).proctor.nextId = .later u) :
    (runCmd d p s).brim = u.brim ∧ u.keepsMemory (runCmd d p s) := by
  have he := runCmd_accepted ha
  rw [hact] at he
  rw [he]
  exact ⟨rfl, fun _ => ⟨rfl, rfl, rfl⟩⟩

/-- BRIM_UNFENCE puts both ends under test and runs on (R210). -/
theorem brimUnfence_tests {p : Packet} {o u d : Nat} {s : State} (ha : s.accepts brimUnfenceDef p o)
    (hp : brimPeer p.unit (p.w 0) = some (u, d)) :
    let b := s.begun p
    ∃ t : State, exec (.brimUnfence p) s = .next t ∧ (t.br p.unit (p.w 0)).testing = true ∧ (t.br p.unit (p.w 0)).testRun = some b.proctor.nextId ∧
      (t.br u d).testing = true ∧ b.runsOn t p o 0x261 ∧ t.regs = b.regs ∧ b.keepsMemory t := by
  intro b
  have hpar : edgeBad p = none := State.verdict_par ha.2
  obtain ⟨-, -, hne⟩ := brimPeer_symm hp (edgeBad_none hpar)
  generalize hu1 : b.startTest p.unit (p.w 0) (some b.proctor.nextId) = u1
  have hact : brimUnfenceDef.act b p o b.proctor.nextId = .later (u1.startTest u d none) := by
    simp only [brimUnfenceDef, hp, ← hu1, State.startTest]
  obtain ⟨hpr1, hregs1, hmem1⟩ := b.startTest_frame p.unit (p.w 0) (some b.proctor.nextId)
  rw [hu1] at hpr1 hregs1 hmem1
  obtain ⟨hpr2, hregs2, hmem2⟩ := u1.startTest_frame u d none
  obtain ⟨hruns, hregs⟩ := runCmd_later ha hact (hpr2.trans hpr1)
  obtain ⟨hbrim, hmem⟩ := runCmd_later_frame ha hact
  have hbr : ∀ t e, (runCmd brimUnfenceDef p s).br t e = (u1.startTest u d none).br t e := fun t e => by simp only [State.br, hbrim]
  have hnear : (runCmd brimUnfenceDef p s).br p.unit (p.w 0) =
      { b.br p.unit (p.w 0) with testing := true, testRun := some b.proctor.nextId } := by
    rw [hbr, State.startTest, State.br_updBr_ne hne.symm, ← hu1, State.startTest_br]
  have hfar : ((runCmd brimUnfenceDef p s).br u d).testing = true := by rw [hbr, State.startTest_br]
  exact ⟨_, rfl, by rw [hnear], by rw [hnear], hfar, hruns, hregs.trans (hregs2.trans hregs1), (hmem1.trans hmem2).trans hmem⟩

/-- The test is over at one end. -/
def State.stopTest (s : State) (t e : Nat) : State := s.updBr t e (fun b => { b with testing := false, testRun := none })

/-- One end of a link comes back into service, with its sequences at 0. -/
def State.brimUp (s : State) (t e : Nat) : State :=
  (s.setFs [(F.BRIM_STAT_STATE t e, 2), (F.BRIM_STAT_BY_CMD t e, 0)]).updBr t e
    (fun b => { b with txSeq := 0, rxSeq := 0, kept := [], ueTimes := [], nak := false })

/-- The failed tests of a link are kept and shown at both ends. -/
def State.showFails (s : State) (t e u d : Nat) (l : List Nat) : State :=
  ((s.updBr t e (fun b => { b with failTimes := l })).updBr u d (fun b => { b with failTimes := l })).setFs
    [(F.BRIM_STAT_TEST_FAILS t e, min 3 l.length), (F.BRIM_STAT_TEST_FAILS u d, min 3 l.length)]

theorem State.brimUp_fields {s : State} (h : s.canonical) {t e : Nat} (he : e < 2) :
    (s.brimUp t e).canonical ∧ (s.brimUp t e).f (F.BRIM_STAT_STATE t e) = 2 ∧
      ∀ u d, d < 2 → 2 * u + d ≠ 2 * t + e → (s.brimUp t e).f (F.BRIM_STAT_STATE u d) = s.f (F.BRIM_STAT_STATE u d) := by
  obtain ⟨hc, hst, -, hoff⟩ := State.setBrimStat h t e (v := 2) (w := 0) (by decide) (by decide)
  unfold State.brimUp
  refine ⟨((Kept.refl _).updBr ..).2 hc, ?_, fun u d hd hne => ?_⟩
  · rw [State.updBr_f, hst]
  · rw [State.updBr_f, hoff _ (by rw [brimStatState_off]; exact brimStat_ne hne he hd)]

theorem State.showFails_eq (s : State) (t e u d : Nat) (l : List Nat) : ∃ z, Kept s z ∧ (∀ x, z.f x = s.f x) ∧
    s.showFails t e u d l = (z.setF (F.BRIM_STAT_TEST_FAILS t e) (min 3 l.length)).setF (F.BRIM_STAT_TEST_FAILS u d) (min 3 l.length) := by
  refine ⟨_, ((Kept.refl s).updBr ..).updBr .., fun x => ?_, State.setFs_pair ..⟩
  rw [State.updBr_f, State.updBr_f]

/-- The count of failed tests is a field of its own. -/
theorem State.showFails_state {s : State} (h : s.canonical) (t e u d : Nat) (l : List Nat) (t' e' : Nat) :
    (s.showFails t e u d l).f (F.BRIM_STAT_STATE t' e') = s.f (F.BRIM_STAT_STATE t' e') := by
  have hapart : ∀ a i, (F.BRIM_STAT_STATE t' e').lo + (F.BRIM_STAT_STATE t' e').width ≤ (F.BRIM_STAT_TEST_FAILS a i).lo := fun a i => by
    simp [F.BRIM_STAT_STATE, F.BRIM_STAT_TEST_FAILS]
  obtain ⟨z, hz, hf, heq⟩ := s.showFails_eq t e u d l
  have h1 := State.setF_canonical (hz.2 h) (F.BRIM_STAT_TEST_FAILS t e) (min 3 l.length)
  rw [heq, State.f_setF_apart h1.rising (.inr (hapart u d)), State.f_setF_apart (hz.2 h).rising (.inr (hapart t e)), hf]

theorem State.showFails_count {s : State} (h : s.canonical) {t e u d : Nat} (hne : 2 * u + d ≠ 2 * t + e) (he : e < 2) (hd : d < 2) (l : List Nat) :
    (s.showFails t e u d l).f (F.BRIM_STAT_TEST_FAILS t e) = min 3 l.length := by
  have hoff : (F.BRIM_STAT_TEST_FAILS t e).off ≠ (F.BRIM_STAT_TEST_FAILS u d).off := by
    rw [brimStatTestFails_off, brimStatTestFails_off]
    exact brimStat_ne hne.symm hd he
  obtain ⟨z, hz, -, heq⟩ := s.showFails_eq t e u d l
  rw [heq, State.f_setF_off hoff, State.f_setF_same (hz.2 h).rising _ _ (by simp [F.BRIM_STAT_TEST_FAILS])]
  exact Nat.mod_eq_of_lt (Nat.lt_of_le_of_lt (Nat.min_le_left 3 _) (by simp [F.BRIM_STAT_TEST_FAILS]))

/-- The end of a command's work changes no register. -/
theorem State.finishParam_f (s : State) (id st det : Nat) (res : List Byte) (z : Undo) (x : Fld) : (s.finishParam id st det res z).f x = s.f x := by
  unfold State.finishParam
  split <;> rfl

section
variable {t : Tile} {e : Fin 2} {ue ce fue fce : BitVec 16} {id u d : Nat} {s : State}

/-- A test without uncorrectable beats and with at most 16 corrected ones at either end (R210). -/
theorem brimTestDone_pass (hid : (s.br t.val e.val).testRun = some id) (hp : brimPeer t.val e.val = some (u, d)) (hu : ue.toNat = 0)
    (hfu : fue.toNat = 0) (hc : ce.toNat ≤ 16) (hfc : fce.toNat ≤ 16) :
    let s1 := (s.stopTest t.val e.val).stopTest u d
    let s2 := (((s1.brimUp t.val e.val).brimUp u d).showFails t.val e.val u d (s.testFails t.val e.val)).rewriteDist
    exec (.brimTestDone t e ue ce fue fce) s = .next (s2.finishParam id stOk 0 [] (undoOf s1 s2)) := by
  have he : exec (.brimTestDone t e ue ce fue fce) s = execBrimTestDone t e ue ce fue fce s := rfl
  rw [he, execBrimTestDone, hid, hp]
  exact congrArg Host.Outcome.next (if_pos (by simp [hu, hfu, hc, hfc]))

/-- A test that fails with the worse counts at the end where the command was (R210). -/
theorem brimTestDone_fail (hid : (s.br t.val e.val).testRun = some id) (hp : brimPeer t.val e.val = some (u, d)) (hu : 0 < ue.toNat)
    (hfu : fue.toNat ≤ ue.toNat) (hc : fue = ue → fce.toNat ≤ ce.toNat) :
    exec (.brimTestDone t e ue ce fue fce) s = .next ((((s.stopTest t.val e.val).stopTest u d).showFails t.val e.val u d
      (s.testFails t.val e.val ++ [s.bell])).finish id 0x8260 (ue.toNat + ce.toNat * 65536)) := by
  have hnear : (decide (fue.toNat < ue.toNat) || (ue == fue && decide (fce.toNat ≤ ce.toNat))) = true := by
    rcases Nat.lt_or_eq_of_le hfu with hlt | heq
    · simp [hlt]
    · have hue : fue = ue := BitVec.eq_of_toNat_eq heq
      simp [hue, hc hue]
  have hpass : ¬ ((decide (ue.toNat = 0) && decide (fue.toNat = 0) && decide (ce.toNat ≤ 16) && decide (fce.toNat ≤ 16)) = true) := by
    simp [Nat.pos_iff_ne_zero.1 hu]
  have he : exec (.brimTestDone t e ue ce fue fce) s = execBrimTestDone t e ue ce fue fce s := rfl
  rw [he, execBrimTestDone, hid, hp]
  refine congrArg Host.Outcome.next ((if_neg hpass).trans ?_)
  dsimp only
  rw [if_pos hnear]
  rfl

/-- The end of the test, both ways. -/
theorem brimTestDone_ends (h : s.canonical) (hid : (s.br t.val e.val).testRun = some id) (hp : brimPeer t.val e.val = some (u, d)) :
    (ue.toNat = 0 → fue.toNat = 0 → ce.toNat ≤ 16 → fce.toNat ≤ 16 → ∃ (v w : State) (z : Undo), exec (.brimTestDone t e ue ce fue fce) s = .next v ∧
      v = w.finishParam id stOk 0 [] z ∧ v.f (F.BRIM_STAT_STATE t.val e.val) = 2 ∧ v.f (F.BRIM_STAT_STATE u d) = 2) ∧
    (0 < ue.toNat → fue.toNat ≤ ue.toNat → (fue = ue → fce.toNat ≤ ce.toNat) → ∃ w : State, exec (.brimTestDone t e ue ce fue fce) s =
      .next (w.finish id 0x8260 (ue.toNat + ce.toNat * 65536)) ∧ w.f (F.BRIM_STAT_STATE t.val e.val) = s.f (F.BRIM_STAT_STATE t.val e.val) ∧
      w.f (F.BRIM_STAT_TEST_FAILS t.val e.val) = min 3 ((s.testFails t.val e.val).length + 1)) := by
  obtain ⟨-, hd, hne⟩ := brimPeer_symm hp e.isLt
  have h1 : ((s.stopTest t.val e.val).stopTest u d).canonical := (((Kept.refl s).updBr ..).updBr ..).2 h
  refine ⟨fun hu hfu hc hfc => ?_, fun hu hfu hc => ?_⟩
  · obtain ⟨h2, hst, -⟩ := State.brimUp_fields h1 (t := t.val) e.isLt
    obtain ⟨h3, hst', hoff⟩ := State.brimUp_fields h2 (t := u) hd
    refine ⟨_, _, _, brimTestDone_pass hid hp hu hfu hc hfc, rfl, ?_, ?_⟩
    · rw [State.finishParam_f, State.rewriteDist_brimStat (brimStatState_off ..) e.isLt, State.showFails_state h3, hoff _ _ e.isLt hne.symm, hst]
    · rw [State.finishParam_f, State.rewriteDist_brimStat (brimStatState_off ..) hd, State.showFails_state h3, hst']
  · refine ⟨_, brimTestDone_fail hid hp hu hfu hc, State.showFails_state h1 .., ?_⟩
    rw [State.showFails_count h1 hne e.isLt hd, List.length_append, List.length_singleton]
end

/-- A failed or held tile's duties move (R31). -/
theorem stentStandinMove_moves {t : Tile} {s : State} (h : s.f (F.OME_STAT_STATE t.val) = 8 ∨ s.f (F.FSTATE_STATE t.val) = 4) :
    exec (.stentStandinMove t) s = .next (s.moveDuties t.val) :=
  congrArg Host.Outcome.next (if_pos (by simpa using h))

end Sys2Proof.Machine

open Sys2Proof Sys2Proof.Machine

/-- Settles O37: frames, fence, test and stand-in, in the order of the statement. -/
theorem brimLinks : Obligations.BrimLinks := by
  unfold Obligations.BrimLinks
  refine ⟨fun t e bytes ce ue s => ⟨fun h => brimFrameReceive_idle h bytes ce ue, fun h2 ht => ⟨fun h0 hl => ?_, fun h0 => ?_⟩⟩,
    fun t e s => brimUeLimit_fences, fun p o s => brimFence_fences, fun t e u d c s hp h _ he => ?_, fun p o u d s => brimUnfence_tests,
    fun t e ue ce fue fce id u d s => brimTestDone_ends, fun t s => stentStandinMove_moves⟩
  · rw [brimFrameReceive_live h2 ht, if_pos h0, fitBytes_self hl]
    rfl
  · obtain ⟨frame, hsent⟩ := s.countBeats_dropFrame t.val e.val ce.toNat ue.toNat ue.toNat s.bell
    exact ⟨frame, _, (brimFrameReceive_live h2 ht bytes ce ue).trans (congrArg _ (if_neg h0)), hsent⟩
  · obtain ⟨hst, hst', hby⟩ := State.fenceBrim_fields h hp he c
    exact ⟨hst, hst', hby, (brimPeer_symm hp he).1⟩
end

section
/-! SUPPORT. One step is the command at the front of the queue, and every command answers a next state (R58, R72, R364). -/

namespace Sys2Proof.Machine

/-- An outcome that is a next state. -/
def isNext : Host.Outcome State Fault Refusal → Bool
  | .next _ => true
  | _ => false

theorem isNext_iff {r : Host.Outcome State Fault Refusal} : isNext r = true ↔ ∃ t, r = .next t := by
  cases r <;> simp [isNext]

theorem execRemoteDiodeUpdate_isNext (n : Fin 8) (v : BitVec 16) (o c : Bool) (s : State) :
    isNext (execRemoteDiodeUpdate n v o c s) = true := by
  unfold execRemoteDiodeUpdate
  exact (apply_ite isNext _ _ _).trans (ite_self true)

/-- Every command answers a next state: the branches of each meaning end in one. -/
theorem exec_isNext (c : Instr) (s : State) : isNext (exec c s) = true := by
  cases c
  case remoteDiodeUpdate => exact execRemoteDiodeUpdate_isNext ..
  all_goals dsimp only [exec,
    execProctorTakePacket, execCommandComplete, execQDrainDone, execCxlIoError, execCxlHotReset, execCxlLinkTrained,
    execCxlMemRead, execCxlMemWrite, execBar0BadAccess, execSleepingTileAccess, execJournalEntryDurable,
    execJournalWriteTimeout, execJournalFlashRecover, execChainFrameReceive, execCmdPacketAssembled, execCombStart,
    execLaserOvertemp, execRingHeadroomLow, execSubstituteLocked, execSubstituteLockTimeout, execLaneSourceMoved,
    execBeaconWordReceive, execTrainingWordReceive, execTrainStageDone, execTrainStageTimeout, execRateHuntStep,
    execEyeScanPointDone, execMarginSweepStep, execCodewordReceive, execFastRetrainDone, execRttMeasure, execLaneset,
    execLanesetAck, execLanesetBoundary, execLanesetAckTimeout, execLanesetCancel, execLanesetCancelWindowEnd, execEcho,
    execEchoReply, execVerify, execDoze, execAwake, execPortReset, execMemRead, execMemWrite, execCredit, execCreditReportDue,
    execStreamReturnHold, execStreamSuspendTimeout, execStreamCloseDrained, execFamInvalidateDone, execFrameZeroed,
    execMigratePass1Done, execMigrateFrameSwitch, execPatrolScrubStep, execMemoryReturn, execMemTempSample, execOmePassStart,
    execOmePassEnd, execOmeBankReloadDone, execPilotLimitExceeded, execPilotAcquired, execJobStagingDone, execJobUnitWritten,
    execJobSharesEnded, execJobMirrorDone, execProjectBatchWait, execCollSegmentReduced, execCollOpComplete,
    execPeerPartialReceive, execBlockTempEvaluation, execLaneRunRefused, execAgeingEvaluation, execRefclkLoss, execRefclkReturn,
    execStrapSample, execProctorReady, execMresetNLow, execColdReset, execWarmReset, execTileReset, execD1Entry,
    execD1EntryAbandon, execD1Exit, execD2Entry, execD2Exit, execM1Exit, execTjSample, execThrottleLoopTick, execCoolantCheck,
    execSafeEntered, execQuietTimerExpiry, execFaultRecoveryDone, execCondensationDone, execIslandBufferCopy, execLeaseExpiry,
    execSelfDiagnosisFail, execHolderNotice, execMirror, execMirrorAck, execTwinPortsUnreachable, execResyncComplete,
    execSiteDiscovery, execSidebandTimeout, execUcieWidthDegrade, execDieTempReport, execDieThrottleStep,
    execDieTempReportTimeout, execSitePowerSample, execBootLoad, execTrialExpiry, execTrialBootFail, execSwitchoverDone,
    execBladeBreaker, execFeedLost, execOvRecovery, execConverterFail, execVinLow, execCeilingLoopTick, execPolicyIdleD2,
    execFeedReturn, execReferenceTraceCrownEnd]
  all_goals repeat' split
  all_goals rfl

end Sys2Proof.Machine

open Sys2Proof Sys2Proof.Machine

/-- Settles O1: both clauses are what `step` says for each form of the queue. -/
theorem stepRunsFront : Obligations.StepRunsFront := by
  unfold Obligations.StepRunsFront
  exact ⟨fun c rest s h => by simp only [step, h], fun s h => by simp only [step, h]⟩

/-- Settles O2: every command answers a next state, and in it the queue is as it was. -/
theorem everyCommandCompletes : Obligations.EveryCommandCompletes := by
  unfold Obligations.EveryCommandCompletes
  intro c s
  obtain ⟨t, ht⟩ := isNext_iff.1 (exec_isNext c s)
  exact ⟨t, ht, ((Kept.refl s).exec c t ht).1⟩
end

section
/-! SUPPORT. What a refused command does, the order of its checks, and where a result goes (R48, R54, R58, R71, R531). -/

namespace Sys2Proof.Machine

/-- A command outside group 0x09 is run as its opcode's description says. -/
theorem exec_command {c : Instr} {d : CmdDef} {p : Packet} (h : c.command = some (d, p)) (hg : d.code / 256 ≠ 9) (s : State) :
    exec c s = .next (runCmd d p s) := by
  cases c
  all_goals simp only [Instr.command, Option.some.injEq, Prod.mk.injEq, reduceCtorEq] at h
  all_goals obtain ⟨rfl, rfl⟩ := h
  case fwStage | fwActivate | fwTileUpdate | secSvnCommit | secKeyRevoke => exact absurd rfl hg
  all_goals rfl

/-- The Proctor leaves a packet where it is while it takes none of its path, and while FENCE holds it (R48, R65, R369). -/
theorem runCmd_waits {d : CmdDef} {p : Packet} {s : State} (h : s.takes p.path d.code = false ∨ (p.fence && s.outstanding p.path) = true) :
    runCmd d p s = s := by
  unfold runCmd
  rw [if_pos (by rcases h with h | h <;> simp [h])]

section
variable {s : State} {d : CmdDef} {p : Packet} {o : Nat}

/-- Step 4 of R58. -/
theorem State.verdict_origin (h : s.mayUse (d.code / 256) (originCode o) = false ∨ d.origins.contains (originCode o) = false) :
    s.verdict d p o = some (stAuth, 1) := by
  have he : s.early d p o (d.code / 256) = some (stAuth, 1) :=
    if_pos (by rcases h with h | h <;> simp only [h, Bool.not_false, Bool.true_or, Bool.or_true])
  simp only [State.verdict, he]

/-- Step 5 of R58. -/
theorem State.verdict_length (h1 : s.mayUse (d.code / 256) (originCode o) = true) (h2 : d.origins.contains (originCode o) = true)
    (h3 : d.auth s p o = none) (hl : d.len p ≠ some p.plen) : s.verdict d p o = some (stLength, (d.len p).getD 0xFFFFFFFF) := by
  simp only [State.verdict, State.early, h1, h2, h3, if_pos hl, Bool.not_true, Bool.or_self, Bool.false_eq_true, if_false]

/-- Past steps 4 and 5 the fields decide (steps 6 and 7 of R58). -/
theorem State.verdict_fields (h1 : s.mayUse (d.code / 256) (originCode o) = true) (h2 : d.origins.contains (originCode o) = true)
    (h3 : d.auth s p o = none) (hl : d.len p = some p.plen) (hd : d.dataLen p = none) (hr : d.resLen s p = none) {e : Nat × Nat}
    (he : s.verdict6 d p o = some e) : s.verdict d p o = some e := by
  simp only [State.verdict, State.early, h1, h2, h3, hl, hd, hr, he, Bool.not_true, Bool.or_self, Bool.false_eq_true, if_false,
    ne_eq, not_true_eq_false]

theorem State.verdict6_generic {off : Nat} (h : s.genericPar d p = some off) : s.verdict6 d p o = some (stParam, off) := by
  simp only [State.verdict6, h]

theorem State.verdict6_par {off : Nat} (h : s.genericPar d p = none) (hp : d.par s p o = some off) :
    s.verdict6 d p o = some (stParam, off) := by
  simp only [State.verdict6, h, hp]

theorem State.verdict6_empty (h : s.genericPar d p = none) (hp : d.par s p o = none) (hz : d.zero p = true) :
    s.verdict6 d p o = some (stOkEmpty, 0) := by
  simp only [State.verdict6, h, hp, hz, if_true]
end

/-! ### Result placement (R54, R531) -/

section
variable {s : State} {p : Packet} {res : List Byte} (st det : Nat)

theorem State.place_inline (h : res.length ≤ s.inlineLimit p.path) :
    s.place p st det res = (s, { tag := p.tag, status := st, detail := det, result := res }) := if_pos h

theorem State.place_tooLong (h : s.inlineLimit p.path < res.length) (hb : p.bufLen < res.length) :
    s.place p st det res = (s, { tag := p.tag, status := stLength, detail := res.length, result := [] }) := by
  unfold State.place
  rw [if_neg (Nat.not_le.2 h), if_pos hb]

theorem State.place_buffer (h : s.inlineLimit p.path < res.length) (hb : res.length ≤ p.bufLen) (hf : p.dataFabric = false) :
    s.place p st det res = (if s.bufferLost p.path then s else { s with host := Memory.write s.host p.dataAddr.toNat res },
      { tag := p.tag, status := st, detail := det, result := [], inBuffer := res.length }) := by
  unfold State.place
  rw [if_neg (Nat.not_le.2 h), if_neg (Nat.not_lt.2 hb), if_neg (by simp [hf])]
end

end Sys2Proof.Machine

open Sys2Proof Sys2Proof.Machine

/-- Settles O10: what a failed check answers, the order of the checks, and the packets that wait. -/
theorem refusedCommand : Obligations.RefusedCommand := by
  unfold Obligations.RefusedCommand
  refine ⟨fun c d p s o st det hc hg hr hv => ?_, fun d p s o => ⟨State.verdict_origin, fun h1 h2 h3 => ⟨State.verdict_length h1 h2 h3, ?_⟩⟩,
    fun c d p s hc hg hw => ?_⟩
  · rw [exec_command hc hg, runCmd_refused hr hv]
  · intro hl hd hres
    have fields {e} := State.verdict_fields (e := e) h1 h2 h3 hl hd hres
    exact ⟨fun off h => fields (State.verdict6_generic h), fun h off hp => fields (State.verdict6_par h hp),
      fun h hp hz => fields (State.verdict6_empty h hp hz)⟩
  · rw [exec_command hc hg, runCmd_waits hw]

/-- Settles O12: a result travels in the reply, is refused, or is written in its buffer. -/
theorem resultPlacement : Obligations.ResultPlacement := by
  unfold Obligations.ResultPlacement
  intro s p st det res hs
  refine ⟨State.place_inline st det, State.place_tooLong st det, fun h hb hf hlost => ?_, fun h hb hf hlost => ?_⟩
  · rw [State.place_buffer st det h hb hf, hlost]
    exact ⟨rfl, Memory.read_write hs.2.2.1 .., rfl, fun a ha => Memory.byte_write_outside _ _ _ a ha⟩
  · rw [State.place_buffer st det h hb hf, hlost]
    rfl
end

section
/-! SUPPORT. What a field reads after several are stored, and what a memory reads within a write (R3, R12, R61). -/

namespace Sys2Proof.Machine

/-! ### Fields -/

/-- Two fields share no bit. -/
abbrev Fld.apart (y x : Fld) : Prop := y.off ≠ x.off ∨ x.lo + x.width ≤ y.lo ∨ y.lo + y.width ≤ x.lo

theorem State.f_setF_ne {s : State} (h : s.canonical) {x y : Fld} (ha : y.apart x) (v : Nat) : (s.setF x v).f y = s.f y := by
  rcases ha with ho | ha
  · exact State.f_setF_off ho v
  · exact State.f_setF_apart h.rising ha v

theorem State.f_setFs_ne {s : State} (h : s.canonical) {y : Fld} (l : List (Fld × Nat)) (hl : ∀ e ∈ l, y.apart e.1) :
    (s.setFs l).f y = s.f y := by
  induction l generalizing s with
  | nil => rfl
  | cons e l ih =>
    obtain ⟨x, v⟩ := e
    have hx : y.apart x := hl (x, v) List.mem_cons_self
    rw [State.setFs, ih (State.setF_canonical h x v) (fun e he => hl e (List.mem_cons_of_mem _ he)), State.f_setF_ne h hx]

/-- A field reads as the list stores it where nothing after it in the list overlaps it. -/
theorem State.f_setFs_at {s : State} (h : s.canonical) {y : Fld} {v : Nat} (l : List (Fld × Nat)) (i : Nat) (hi : l[i]? = some (y, v))
    (hw : y.lo + y.width ≤ 32) (hb : ∀ e ∈ l.drop (i + 1), y.apart e.1) : (s.setFs l).f y = v % 2 ^ y.width := by
  induction l generalizing s i with
  | nil => exact absurd hi (by simp)
  | cons e l ih =>
    have hs := State.setF_canonical h e.1 e.2
    cases i with
    | zero =>
      obtain rfl : e = (y, v) := by simpa using hi
      rw [State.setFs, State.f_setFs_ne hs l hb, State.f_setF_same h.rising y v hw]
    | succ i => exact ih hs i (by simpa using hi) hb

theorem State.setFs_canonical {s : State} (h : s.canonical) (l : List (Fld × Nat)) : (s.setFs l).canonical := ((Kept.refl s).setFs l).2 h

theorem State.wr_canonical {s : State} (h : s.canonical) (off : Nat) (v : Word) : (s.wr off v).canonical := ((Kept.refl s).wr off v).2 h

theorem State.f_setB_same {s : State} (h : s.canonical) (x : Fld) (v : Bool) (hw : x.lo + x.width ≤ 32) (h1 : x.width = 1) :
    (s.setB x v).f x = if v then 1 else 0 := by
  unfold State.setB
  rw [State.f_setF_same h.rising x _ hw, h1]
  cases v <;> rfl

theorem State.b_setB_same {s : State} (h : s.canonical) (x : Fld) (v : Bool) (hw : x.lo + x.width ≤ 32) (h1 : x.width = 1) :
    (s.setB x v).b x = v := by
  unfold State.b
  rw [State.f_setB_same h x v hw h1]
  cases v <;> rfl

theorem State.keepsRegs_setB (s : State) (x : Fld) (v : Bool) : s.keepsRegs (s.setB x v) [x.off] := s.keepsRegs_setF x _

theorem State.keepsRegs.trans {s t u : State} {W : List Nat} (h : s.keepsRegs t W) (k : t.keepsRegs u W) : s.keepsRegs u W :=
  fun off hn => (k off hn).trans (h off hn)

theorem State.keepsRegs.mono {s t : State} {V W : List Nat} (h : s.keepsRegs t V) (hV : ∀ a ∈ V, a ∈ W) : s.keepsRegs t W :=
  fun off hn => h off (fun hm => hn (hV off hm))

theorem State.keepsRegs.f {s t : State} {W : List Nat} (h : s.keepsRegs t W) {x : Fld} (hx : x.off ∉ W) : t.f x = s.f x := by
  unfold State.f
  rw [h _ hx]

theorem State.keepsRegs_setFs (s : State) (l : List (Fld × Nat)) {W : List Nat} (hl : ∀ e ∈ l, e.1.off ∈ W) : s.keepsRegs (s.setFs l) W :=
  fun off hn => s.setFs_keeps l off (fun e he ho => hn (ho ▸ hl e he))

theorem State.keepsRegs_wr (s : State) (off : Nat) (v : Word) : s.keepsRegs (s.wr off v) [off] := fun _ hn =>
  State.rd_wr_ne (by simpa using hn) v

/-! ### Memory -/

/-- A part of what a write stores reads back. -/
theorem Memory.read_write_part {m : List Host.Cell} (hm : Memory.wf m = true) (a : Nat) {bs : List Byte} (pre mid post : List Byte)
    (hbs : bs = pre ++ (mid ++ post)) {k n : Nat} (hk : pre.length = k) (hn : mid.length = n) :
    Memory.read (Memory.write m a bs) (a + k) n = mid := by
  subst hbs hk hn
  refine Memory.read_eq (fun i hi => ?_)
  have hlt : pre.length + i < (pre ++ (mid ++ post)).length := by simp only [List.length_append]; omega
  rw [Nat.add_assoc, Memory.byte_write_inside hm a _ _ hlt, List.getElem_append_right (by omega), List.getElem_append_left (by omega)]
  simp

end Sys2Proof.Machine
end

section
/-! SUPPORT. Replies on every path, and a host queue's completion ring (R53, R55, R61, R62, R65, R67, R70). -/

namespace Sys2Proof.Machine

/-! ### The paths of a reply -/

section
variable {s : State} {path : Sys2Proof.Path} {r : Reply}

theorem State.postFinal_held (h : s.b F.Q_GLOBAL_SWITCHOVER = true) : s.postFinal path r = s.holdReply path r true := if_pos h

theorem State.post_held (h : s.b F.Q_GLOBAL_SWITCHOVER = true) : s.post path r = s.holdReply path r false := if_pos h

theorem State.postFinal_now (h : s.b F.Q_GLOBAL_SWITCHOVER = false) : s.postFinal path r = s.sendFinal path r := if_neg (by simp [h])

theorem State.post_now (h : s.b F.Q_GLOBAL_SWITCHOVER = false) : s.post path r = s.sendReply path r := if_neg (by simp [h])

end

section
variable {s : State} {q : Queue} {r : Reply}

theorem State.sendReply_dropped (h : s.dropsReplies q.val = true) : s.sendReply (.host q) r = s := if_pos h

/-- A full ring keeps the reply waiting and shows CQ_FULL (R62). -/
theorem State.sendReply_full (h : s.dropsReplies q.val = false) (hf : s.cqFull q.val = true) :
    s.sendReply (.host q) r = (s.updQu q.val (fun u => { u with held := u.held ++ [r] })).setB (F.Q_STAT_CQ_FULL q.val) true := by
  unfold State.sendReply
  dsimp only
  rw [if_neg (by simp [h]), if_pos (by simp [hf])]

theorem State.sendReply_room (h : s.dropsReplies q.val = false) (hf : s.cqFull q.val = false) (hh : (s.qu q.val).held = []) :
    s.sendReply (.host q) r = s.ringWrite q.val r := by
  unfold State.sendReply
  dsimp only
  rw [if_neg (by simp [h]), if_neg (by simp [hf, hh])]

theorem State.sendReply_port_gone {p : Port} (h : (s.link p.val).inband.contains r.tag.toNat = false) : s.sendReply (.port p) r = s :=
  if_neg (by rw [h]; exact Bool.false_ne_true)

end

/-! ### The completion ring (R61, R62) -/

/-- The address of the ring's entry at CQ_TAIL. -/
def State.ringEntry (s : State) (q : Nat) : Nat :=
  2 ^ 12 * s.f (F.Q_CQ_BASE_LO_ADDR q) + 2 ^ 32 * s.f (F.Q_CQ_BASE_HI_ADDR q) + s.f (F.Q_STAT_CQ_TAIL q) * 64

/-- SQ_HEAD and PHASE, as a ring's entry shows them. -/
def State.ringWord (s : State) (q : Nat) : Nat := s.f (F.Q_STAT_SQ_HEAD q) + if (s.qu q).phase then 0x10000 else 0

/-- A ring entry written and CQ_TAIL past it, with PHASE toggled at the wrap. -/
def State.ringStored (s : State) (q : Nat) (r : Reply) : State :=
  ({ s with host := Memory.write s.host (s.ringEntry q) (r.bytes (s.ringWord q)) }.setF (F.Q_STAT_CQ_TAIL q)
    ((s.f (F.Q_STAT_CQ_TAIL q) + 1) % 4096)).updQu q (fun u => if s.f (F.Q_STAT_CQ_TAIL q) = 4095 then { u with phase := !u.phase } else u)

/-- CQ_FULL brought in line with the indexes. -/
def State.showFull (s : State) (q : Nat) : State := s.setB (F.Q_STAT_CQ_FULL q) (s.cqFull q)

/-- A ring write is the stored entry with CQ_FULL shown; an interrupt may go out beside it. -/
theorem State.ringWrite_eq (s : State) (q : Nat) (r : Reply) :
    s.ringWrite q r = (s.ringStored q r).showFull q ∨ ∃ o, s.ringWrite q r = ((s.ringStored q r).showFull q).emit o := by
  have h : s.ringWrite q r = if ((s.ringStored q r).showFull q).b (F.Q_CTL_IRQ_EN q) then
      ((s.ringStored q r).showFull q).emit (.msix (((s.ringStored q r).showFull q).f (F.Q_CTL_PORT q)) (((s.ringStored q r).showFull q).f (F.Q_CTL_VEC q)))
    else (s.ringStored q r).showFull q := rfl
  rw [h]
  split
  · exact .inr ⟨_, rfl⟩
  · exact .inl rfl

theorem State.cqFull_congr {s t : State} {q : Nat} (h1 : t.f (F.Q_STAT_CQ_TAIL q) = s.f (F.Q_STAT_CQ_TAIL q))
    (h2 : t.f (F.QDB_CQ_HEAD_HEAD q) = s.f (F.QDB_CQ_HEAD_HEAD q)) : t.cqFull q = s.cqFull q := by
  simp only [State.cqFull, h1, h2]

theorem qdbHead_ne_qStat (q k : Nat) (hq : q < 16) : (F.QDB_CQ_HEAD_HEAD q).off ≠ R.Q_STAT k := by
  simp only [F.QDB_CQ_HEAD_HEAD, R.QDB_CQ_HEAD, R.Q_STAT]
  omega

/-- After CQ_FULL is shown it reads as the indexes say, and nothing but its register changes. -/
theorem State.showFull_spec {s : State} (h : s.canonical) {q : Nat} (hq : q < 16) :
    (s.showFull q).b (F.Q_STAT_CQ_FULL q) = (s.showFull q).cqFull q ∧ s.keepsRegs (s.showFull q) [R.Q_STAT q] ∧
    ∀ y : Fld, y.apart (F.Q_STAT_CQ_FULL q) → (s.showFull q).f y = s.f y := by
  have hf : ∀ y : Fld, y.apart (F.Q_STAT_CQ_FULL q) → (s.showFull q).f y = s.f y := fun y hy => State.f_setF_ne h hy _
  have hfull : (s.showFull q).cqFull q = s.cqFull q :=
    State.cqFull_congr (hf _ (.inr (by simp [F.Q_STAT_CQ_FULL, F.Q_STAT_CQ_TAIL]))) (hf _ (.inl (qdbHead_ne_qStat q q hq)))
  exact ⟨by rw [hfull]; exact State.b_setB_same h _ _ (by simp [F.Q_STAT_CQ_FULL]) rfl, s.keepsRegs_setB _ _, hf⟩

/-- The fields and memories of a stored entry. -/
theorem State.ringStored_spec {s : State} (h : s.canonical) (q : Nat) (r : Reply) :
    (s.ringStored q r).canonical ∧ (s.ringStored q r).f (F.Q_STAT_CQ_TAIL q) = (s.f (F.Q_STAT_CQ_TAIL q) + 1) % 4096 ∧
    s.keepsRegs (s.ringStored q r) [R.Q_STAT q] ∧
    (s.ringStored q r).host = Memory.write s.host (s.ringEntry q) (r.bytes (s.ringWord q)) ∧
    (s.ringStored q r).dram = s.dram ∧ (s.ringStored q r).sq = s.sq := by
  have hw : ({ s with host := Memory.write s.host (s.ringEntry q) (r.bytes (s.ringWord q)) } : State).canonical :=
    ⟨h.1, h.2.1, Memory.wf_write h.2.2.1 .., h.2.2.2⟩
  refine ⟨(((Kept.refl _).setF _ _).updQu ..).2 hw, ?_, s.keepsRegs_setF (F.Q_STAT_CQ_TAIL q) _, rfl, rfl, rfl⟩
  rw [State.ringStored, State.updQu_f, State.f_setF_same hw.rising _ _ (by simp [F.Q_STAT_CQ_TAIL])]
  exact Nat.mod_eq_of_lt (Nat.mod_lt _ (by decide))

theorem Reply.bytes_length (r : Reply) (w : Nat) : (r.bytes w).length = 16 + r.result.length := by
  simp only [Reply.bytes, List.length_append, leBytes_length]

/-- The fields of a reply's header and its result read back where they are written (R53). -/
theorem Reply.read_written {m : List Host.Cell} (hm : Memory.wf m = true) (a w : Nat) (r : Reply) (hb : r.inBuffer = 0) :
    let m' := Memory.write m a (r.bytes w)
    Memory.read m' a 2 = leBytes 2 r.tag.toNat ∧ Memory.read m' (a + 2) 2 = leBytes 2 r.status ∧
    Memory.read m' (a + 4) 4 = leBytes 4 r.detail ∧ Memory.read m' (a + 8) 4 = leBytes 4 r.result.length ∧
    Memory.read m' (a + 12) 4 = leBytes 4 w ∧ Memory.read m' (a + 16) r.result.length = r.result := by
  have part := fun pre mid post => Memory.read_write_part hm a (bs := r.bytes w) pre mid post
  have hl : r.result.length + r.inBuffer = r.result.length := by rw [hb, Nat.add_zero]
  dsimp only
  refine ⟨?_, ?_, ?_, ?_, ?_, ?_⟩
  · exact part [] _ (leBytes 2 r.status ++ (leBytes 4 r.detail ++ (leBytes 4 r.result.length ++ (leBytes 4 w ++ r.result))))
      (by simp [Reply.bytes, hl]) rfl (leBytes_length ..)
  · exact part (leBytes 2 r.tag.toNat) _ (leBytes 4 r.detail ++ (leBytes 4 r.result.length ++ (leBytes 4 w ++ r.result)))
      (by simp [Reply.bytes, hl]) (leBytes_length ..) (leBytes_length ..)
  · exact part (leBytes 2 r.tag.toNat ++ leBytes 2 r.status) _ (leBytes 4 r.result.length ++ (leBytes 4 w ++ r.result))
      (by simp [Reply.bytes, hl]) (by simp [leBytes_length]) (leBytes_length ..)
  · exact part (leBytes 2 r.tag.toNat ++ leBytes 2 r.status ++ leBytes 4 r.detail) _ (leBytes 4 w ++ r.result)
      (by simp [Reply.bytes, hl]) (by simp [leBytes_length]) (leBytes_length ..)
  · exact part (leBytes 2 r.tag.toNat ++ leBytes 2 r.status ++ leBytes 4 r.detail ++ leBytes 4 r.result.length) _ r.result
      (by simp [Reply.bytes, hl]) (by simp [leBytes_length]) (leBytes_length ..)
  · exact part (leBytes 2 r.tag.toNat ++ leBytes 2 r.status ++ leBytes 4 r.detail ++ leBytes 4 r.result.length ++ leBytes 4 w) _ []
      (by simp [Reply.bytes, hl]) (by simp [leBytes_length]) rfl

/-- A reply written into a ring with room (R61, R62). -/
theorem State.ringWrite_spec {s : State} (h : s.canonical) (q : Queue) {r : Reply} (hl : r.result.length ≤ 48) :
    let t := s.ringWrite q.val r
    t.host = Memory.write s.host (s.ringEntry q.val) (r.bytes (s.ringWord q.val)) ∧
    (∀ a, a < s.ringEntry q.val ∨ s.ringEntry q.val + 64 ≤ a → Memory.byte t.host a = Memory.byte s.host a) ∧
    t.f (F.Q_STAT_CQ_TAIL q.val) = (s.f (F.Q_STAT_CQ_TAIL q.val) + 1) % 4096 ∧
    t.queues = (s.ringStored q.val r).queues ∧ t.b (F.Q_STAT_CQ_FULL q.val) = t.cqFull q.val ∧ s.keepsRegs t [R.Q_STAT q.val] ∧
    t.dram = s.dram ∧ t.sq = s.sq := by
  obtain ⟨hc, htail, hregs, hhost, hdram, hsq⟩ := State.ringStored_spec h q.val r
  obtain ⟨hfull, hkeep, hf⟩ := State.showFull_spec hc q.isLt
  have hout : ∀ a, a < s.ringEntry q.val ∨ s.ringEntry q.val + 64 ≤ a →
      Memory.byte (Memory.write s.host (s.ringEntry q.val) (r.bytes (s.ringWord q.val))) a = Memory.byte s.host a := fun a ha =>
    Memory.byte_write_outside _ _ _ a (by rw [Reply.bytes_length]; omega)
  have htail' := (hf (F.Q_STAT_CQ_TAIL q.val) (.inr (by simp [F.Q_STAT_CQ_FULL, F.Q_STAT_CQ_TAIL]))).trans htail
  have hhost' : ((s.ringStored q.val r).showFull q.val).host = _ := hhost
  dsimp only
  rcases s.ringWrite_eq q.val r with ht | ⟨o, ht⟩
  · rw [ht, hhost']
    exact ⟨rfl, hout, htail', rfl, hfull, hregs.trans hkeep, hdram, hsq⟩
  · have hfull' : (((s.ringStored q.val r).showFull q.val).emit o).cqFull q.val = ((s.ringStored q.val r).showFull q.val).cqFull q.val :=
      State.cqFull_congr (State.emit_f ..) (State.emit_f ..)
    rw [ht, State.emit_f, State.emit_b, hfull', State.emit_host, State.emit_queues, State.emit_dram, State.emit_sq, hhost']
    exact ⟨rfl, hout, htail', rfl, hfull, hregs.trans hkeep, hdram, hsq⟩

end Sys2Proof.Machine

open Sys2Proof Sys2Proof.Machine

/-- Settles O11: the ring with room, the full ring, the switchover, and the paths without a ring. -/
theorem replyPosting : Obligations.ReplyPosting := by
  unfold Obligations.ReplyPosting
  refine ⟨fun q r s h hs hd => ⟨fun hf hh hl hb => ?_, fun hf => ?_⟩, fun s r path hs => ⟨State.postFinal_held hs, State.post_held hs⟩,
    fun s r hs => ⟨fun src => State.postFinal_now hs, State.postFinal_now hs, fun q hd => ?_, fun p hp => ?_⟩⟩
  · have hsent : s.postFinal (.host q) r = s.ringWrite q.val r := (State.postFinal_now hs).trans (State.sendReply_room hd hf hh)
    obtain ⟨hhost, hout, htail, hqueues, hfull, hregs, hdram, hsq⟩ := State.ringWrite_spec h q hl
    obtain ⟨htag, hstatus, hdetail, hlen, hword, hres⟩ := Reply.read_written h.2.2.1 (s.ringEntry q.val) (s.ringWord q.val) r hb
    rw [← hhost] at htag hstatus hdetail hlen hword hres
    rw [hsent]
    exact ⟨htag, hstatus, hdetail, hlen, hword, hres, hout, htail, hqueues, hfull, hregs, hdram, hsq⟩
  · have hsent := (State.postFinal_now (path := .host q) (r := r) hs).trans (State.sendReply_full hd hf)
    rw [hsent]
    refine ⟨rfl, ?_, rfl⟩
    exact State.f_setB_same (((Kept.refl s).updQu ..).2 h) _ true (by simp [F.Q_STAT_CQ_FULL]) rfl
  · exact (State.postFinal_now hs).trans (State.sendReply_dropped hd)
  · exact (State.post_now hs).trans (State.sendReply_port_gone hp)
end

section
/-! SUPPORT. Writes of the doorbells and of a queue's control register, and what ends a queue (R63 to R65, R374). -/

namespace Sys2Proof.Machine

/-! ### The host queues' registers on BAR0 -/

/-- A write by the port that owns the queue, or from beside the host ports (R64). -/
abbrev State.ownedBy (s : State) (src : BusSrc) (q : Nat) : Prop := ∀ n, src = .cxl n → s.f (F.Q_CTL_PORT q) = n.val

/-- A module register is not asleep and no twin's standby refuses it. -/
theorem State.module_open (s : State) {off : Nat} (h : off < 0x100000) :
    sqArea off = false ∧ s.sleepsAt off = false ∧ s.standbyReg off = false ∧ ∀ r, s.hidden ⟨48, 3, off⟩ r = false := by
  have hp := placeOf_module h
  exact ⟨sqArea_false (by omega), s.sleepsAt_of_place hp rfl, by simp [State.standbyReg, mirroredReg, hp],
    fun r => by simp [State.hidden, placeFused]⟩

/-- Every doorbell and every Q_CTL has a row of the register table. -/
theorem rowAtPlace_queue {off : Nat} (h : off ∈ (List.range 32).map (fun k => 0x10000 + 4 * k) ++ (List.range 16).map R.Q_CTL) :
    ∃ r, rowAtPlace ⟨48, 3, off⟩ = some r := by
  have hall : ∀ a ∈ (List.range 32).map (fun k => 0x10000 + 4 * k) ++ (List.range 16).map R.Q_CTL, (rowAtPlace ⟨48, 3, a⟩).isSome = true := by
    decide
  exact Option.isSome_iff_exists.1 (hall off h)

/-- The offset of a queue's doorbell: of the tail, or of the head. -/
def doorbellReg (q : Nat) (tail : Bool) : Nat := if tail then R.QDB_SQ_TAIL q else R.QDB_CQ_HEAD q

theorem doorbellReg_eq (q : Nat) (tail : Bool) : doorbellReg q tail = 0x10000 + 4 * (2 * q + if tail then 0 else 1) := by
  cases tail
  · simp only [doorbellReg, R.QDB_CQ_HEAD, Bool.false_eq_true, if_false]; omega
  · simp only [doorbellReg, R.QDB_SQ_TAIL, if_true]; omega

/-- A doorbell write of its own port acts as the doorbell says, and is not journaled (R64, R79). -/
theorem State.busWrite_doorbell {s : State} {src : BusSrc} (hb : s.busOk src = true) (q : Queue) (hp : s.ownedBy src q.val) (tail : Bool) (v : Word) :
    s.busWrite src (doorbellReg q.val tail) v = s.doorbell q.val tail v.toNat := by
  have hq := q.isLt
  have hoff := doorbellReg_eq q.val tail
  have hlo : 0x10000 ≤ doorbellReg q.val tail := by omega
  have hhi : doorbellReg q.val tail < 0x10080 := by rw [hoff]; split <;> omega
  have hlt : doorbellReg q.val tail < 0x100000 := by omega
  have hal : doorbellReg q.val tail % 4 = 0 := by omega
  have hne : doorbellReg q.val tail ≠ R.NODE_CFG := by simp only [R.NODE_CFG]; omega
  have hdiv : (doorbellReg q.val tail - 0x10000) / 8 = q.val := by rw [hoff]; split <;> omega
  have hmod : (doorbellReg q.val tail % 8 == 0) = tail := by
    cases tail
    · simp only [hoff, Bool.false_eq_true, if_false, beq_eq_false_iff_ne]; omega
    · simp only [hoff, if_true, beq_iff_eq]; omega
  have hdb : doorbellOf (doorbellReg q.val tail) = some q.val := by simp [doorbellOf, hlo, hhi, hdiv]
  obtain ⟨r, hr⟩ := rowAtPlace_queue (off := doorbellReg q.val tail) (List.mem_append_left _ (List.mem_map.2
    ⟨2 * q.val + if tail then 0 else 1, List.mem_range.2 (by split <;> omega), hoff.symm⟩))
  obtain ⟨hsq, hsl, hst, hh⟩ := s.module_open hlt
  have hstore : s.storeReg (doorbellReg q.val tail) v = (s.doorbell q.val tail v.toNat, []) := by
    simp only [State.storeReg, placeOf_module hlt, hr, hh, hlo, hhi, hdiv, hmod, decide_true, Bool.and_self, if_true, Bool.false_eq_true, if_false]
  cases src with
  | cxl n => simp [State.busWrite, hb, hal, hsq, hsl, hst, hne, hdb, hp n rfl, hstore]
  | chain => simp [State.busWrite, hb, hal, hsq, hsl, hst, hne, hdb, hstore]
  | jtag => simp [State.busWrite, hb, hal, hsq, hsl, hst, hne, hdb, hstore]

/-- A write of Q_CTL changes the queue as R63 says; the journal takes the register's change, if any (R79). -/
theorem State.busWrite_ctl {s : State} {src : BusSrc} (hb : s.busOk src = true) (q : Queue) (v : Word) :
    s.busWrite src (R.Q_CTL q.val) v = s.ctlWrite q.val v ∨
    ∃ c, s.busWrite src (R.Q_CTL q.val) v = (s.ctlWrite q.val v).journalise src.origin 0xFFFF 0 [c] none {} := by
  have hq := q.isLt
  have hoff : R.Q_CTL q.val = 0x10100 + 0x20 * q.val := rfl
  have hlt : R.Q_CTL q.val < 0x100000 := by omega
  obtain ⟨r, hr⟩ := rowAtPlace_queue (off := R.Q_CTL q.val) (List.mem_append_right _ (List.mem_map_of_mem (List.mem_range.2 hq)))
  obtain ⟨hsq, hsl, hst, hh⟩ := s.module_open hlt
  have hdb : doorbellOf (R.Q_CTL q.val) = none := if_neg (by simp only [Bool.and_eq_true, decide_eq_true_eq]; omega)
  have hstore : (s.storeReg (R.Q_CTL q.val) v).1 = s.ctlWrite q.val v ∧
      ((s.storeReg (R.Q_CTL q.val) v).2 = [] ∨ ∃ c, (s.storeReg (R.Q_CTL q.val) v).2 = [c]) := by
    have h1 : ¬ R.Q_CTL q.val < 0x10080 := by omega
    have h2 : 0x10100 ≤ R.Q_CTL q.val := by omega
    have h3 : R.Q_CTL q.val < 0x10300 := by omega
    have h4 : (R.Q_CTL q.val - 0x10100) % 0x20 = 0 := by omega
    have h5 : (R.Q_CTL q.val - 0x10100) / 0x20 = q.val := by omega
    have heq : s.storeReg (R.Q_CTL q.val) v = (s.ctlWrite q.val v,
        if s.rd (R.Q_CTL q.val) = (s.ctlWrite q.val v).rd (R.Q_CTL q.val) then []
        else [regChange (R.Q_CTL q.val) (s.rd (R.Q_CTL q.val)) ((s.ctlWrite q.val v).rd (R.Q_CTL q.val))]) := by
      simp only [State.storeReg, placeOf_module hlt, hr, hh, h1, h2, h3, h4, h5, decide_true, decide_false, Bool.and_true, Bool.and_false,
        if_true, Bool.false_eq_true, if_false]
    rw [heq]
    refine ⟨rfl, ?_⟩
    split
    · exact .inl rfl
    · exact .inr ⟨_, rfl⟩
  rw [State.busWrite_stores hb (by omega) hsq hsl hst (by simp only [R.NODE_CFG]; omega) hdb, hstore.1]
  rcases hstore.2 with h | ⟨c, h⟩
  · rw [h]; exact .inl rfl
  · rw [h]; exact .inr ⟨c, rfl⟩

/-! ### What a journal entry leaves alone -/

theorem State.rd_of_regs {s t : State} (h : t.regs = s.regs) (off : Nat) : t.rd off = s.rd off := by
  unfold State.rd
  rw [h]

theorem State.f_of_regs {s t : State} (h : t.regs = s.regs) (x : Fld) : t.f x = s.f x := by
  unfold State.f
  rw [State.rd_of_regs h]

/-- A journal entry that holds no reply keeps no path's commands outstanding. -/
theorem State.outstanding_journalise (s : State) (o code tag : Nat) (c : JChange) (u : Undo) (path : Sys2Proof.Path) :
    (s.journalise o code tag [c] none u).outstanding path = s.outstanding path := by
  simp [State.outstanding, State.journalise, State.qu]

/-- Two states that differ in the journal's waiting entries alone, none of which holds a reply. -/
def State.noted (s t : State) : Prop :=
  t.regs = s.regs ∧ t.queues = s.queues ∧ t.proctor = s.proctor ∧ s.keepsMemory t ∧ ∀ path, t.outstanding path = s.outstanding path

theorem State.noted_refl (s : State) : s.noted s := ⟨rfl, rfl, rfl, fun _ => ⟨rfl, rfl, rfl⟩, fun _ => rfl⟩

theorem State.busWrite_ctl_noted {s : State} {src : BusSrc} (hb : s.busOk src = true) (q : Queue) (v : Word) :
    (s.ctlWrite q.val v).noted (s.busWrite src (R.Q_CTL q.val) v) := by
  rcases State.busWrite_ctl hb q v with h | ⟨c, h⟩
  · rw [h]
    exact State.noted_refl _
  · rw [h]
    exact ⟨rfl, rfl, rfl, fun _ => ⟨rfl, rfl, rfl⟩, State.outstanding_journalise _ _ _ _ c _⟩

end Sys2Proof.Machine
end

section
/-! SUPPORT. The states of a host queue: enabled, disabled, drained, halted (R63, R64, R374). -/

namespace Sys2Proof.Machine

/-! ### The value that Q_CTL takes -/

/-- Two register values with the same bits in a field agree on it. -/
theorem Fld.ext_congr {x : Fld} {a b : Word} (h : ∀ i < x.width, a.getLsbD (x.lo + i) = b.getLsbD (x.lo + i)) : x.ext a = x.ext b := by
  refine Nat.eq_of_testBit_eq (fun i => ?_)
  simp only [Fld.ext, Nat.testBit_mod_two_pow, Nat.testBit_shiftRight]
  by_cases hi : i < x.width
  · simpa [hi, BitVec.testBit_toNat] using h i hi
  · simp [hi]

/-- A field of one bit is that bit. -/
theorem Fld.ext_bit {x : Fld} (hw : x.width = 1) (w : Word) : x.ext w = (w.getLsbD x.lo).toNat := by
  rw [Fld.ext, hw, pow_one, BitVec.getLsbD, Nat.testBit_eq_decide_div_mod_eq, Nat.shiftRight_eq_div_pow]
  rcases Nat.mod_two_eq_zero_or_one (w.toNat / 2 ^ x.lo) with h | h <;> simp [h]

/-- EN as a write of Q_CTL stores it on a queue that is not DISABLED: a DRAINING queue keeps it 0 (R63). -/
def State.ctlEn (s : State) (q : Nat) (v : Word) : Word := if s.f (F.Q_STAT_STATE q) = 3 then 0 else v &&& 0xFF &&& 1

/-- The value that a write of Q_CTL stores on a queue that is not DISABLED: PORT stays (R64). -/
def State.ctlValue (s : State) (q : Nat) (v : Word) : Word :=
  (v &&& 0xFF &&& 0xFC) ||| (if (s.rd (R.Q_CTL q)).getLsbD 1 then 2 else 0) ||| s.ctlEn q v

/-- A write of Q_CTL on a queue that is not DISABLED. -/
theorem State.ctlWrite_live {s : State} {q : Nat} (h : s.f (F.Q_STAT_STATE q) ≠ 0) (v : Word) :
    s.ctlWrite q v = if s.f (F.Q_STAT_STATE q) ≠ 3 ∧ s.ctlEn q v = 0 then (s.wr (R.Q_CTL q) (s.ctlValue q v)).disableQueue q
      else s.wr (R.Q_CTL q) (s.ctlValue q v) := by
  unfold State.ctlWrite
  dsimp only
  rw [if_neg h]
  simp only [Bool.and_eq_true, decide_eq_true_eq]
  rfl

/-- The fields that an enabled queue starts with (R63). -/
def queueStart (q : Nat) : List (Fld × Nat) :=
  [(F.QDB_SQ_TAIL_TAIL q, 0), (F.QDB_CQ_HEAD_HEAD q, 0), (F.Q_STAT_SQ_HEAD q, 0), (F.Q_STAT_CQ_TAIL q, 0), (F.Q_STAT_CQ_FULL q, 0),
    (F.Q_STAT_STATE q, 1)]

/-- EN written 1 on a DISABLED queue (R63). -/
theorem State.ctlWrite_start {s : State} {q : Nat} (h : s.f (F.Q_STAT_STATE q) = 0) {v : Word} (hv : v.getLsbD 0 = true) :
    s.ctlWrite q v = ((s.wr (R.Q_CTL q) (v &&& 0xFF)).setFs (queueStart q)).updQu q (fun _ => {}) := by
  unfold State.ctlWrite
  dsimp only
  rw [if_pos h, if_pos (by simp [hv])]
  rfl

theorem or_one_and_one (v : Word) : (v ||| 1) &&& 0xFF &&& 1 = 1 := by
  rw [BitVec.and_assoc, show (0xFF : Word) &&& 1 = 1 by decide]
  ext i hi
  rw [BitVec.getElem_and, BitVec.getElem_or]
  cases v[i] <;> cases (1 : Word)[i] <;> rfl

theorem and_not_one_and_one (v : Word) : (v &&& ~~~ 1) &&& 0xFF &&& 1 = 0 := by
  rw [BitVec.and_assoc, BitVec.and_assoc, show ~~~ (1 : Word) &&& (0xFF &&& 1) = 0 by decide]
  exact BitVec.and_zero

section
variable {s : State} {q : Nat} {v : Word}

theorem State.ctlEn_or (h : s.f (F.Q_STAT_STATE q) ≠ 3) : s.ctlEn q (v ||| 1) = 1 := by
  rw [State.ctlEn, if_neg h, or_one_and_one]

theorem State.ctlEn_and : s.ctlEn q (v &&& ~~~ 1) = 0 := by
  rw [State.ctlEn, and_not_one_and_one, ite_self]

/-- The bits of what is stored: EN as it may be, PORT as it was, the others as written. -/
theorem State.ctlValue_bit (i : Nat) : (s.ctlValue q v).getLsbD i =
    (v.getLsbD i && (0xFC : Word).getLsbD i || (s.rd (R.Q_CTL q)).getLsbD 1 && (2 : Word).getLsbD i || (s.ctlEn q v).getLsbD i) := by
  have hp : (if (s.rd (R.Q_CTL q)).getLsbD 1 then (2 : Word) else 0).getLsbD i = ((s.rd (R.Q_CTL q)).getLsbD 1 && (2 : Word).getLsbD i) := by
    cases (s.rd (R.Q_CTL q)).getLsbD 1 <;> simp
  rw [State.ctlValue, BitVec.getLsbD_or, BitVec.getLsbD_or, hp, BitVec.and_assoc, BitVec.getLsbD_and, show (0xFF : Word) &&& 0xFC = 0xFC by decide]

theorem State.ctlEn_bit {i : Nat} (h : 0 < i) : (s.ctlEn q v).getLsbD i = false := by
  unfold State.ctlEn
  split
  · simp
  · simp [h.ne']

theorem State.ctlValue_high {i : Nat} (h2 : 2 ≤ i) (h8 : i < 8) : (s.ctlValue q v).getLsbD i = v.getLsbD i := by
  have hmask : ∀ i < 8, 2 ≤ i → (0xFC : Word).getLsbD i = true ∧ (2 : Word).getLsbD i = false := by decide
  rw [State.ctlValue_bit, (hmask i h8 h2).1, (hmask i h8 h2).2, State.ctlEn_bit (by omega), Bool.and_true, Bool.and_false, Bool.or_false, Bool.or_false]

theorem State.ctlValue_port : (s.ctlValue q v).getLsbD 1 = (s.rd (R.Q_CTL q)).getLsbD 1 := by
  rw [State.ctlValue_bit, State.ctlEn_bit (by decide)]
  simp

theorem State.ctlValue_en : (s.ctlValue q v).getLsbD 0 = (s.ctlEn q v).getLsbD 0 := by
  rw [State.ctlValue_bit]
  simp
end

/-! ### A queue that stops (R63) -/

/-- The fields of Q_CTL lie in it, those of Q_STAT in Q_STAT, and the two apart. -/
theorem qCtl_ne_qStat {q k : Nat} : R.Q_CTL q ≠ R.Q_STAT k := by
  simp only [R.Q_CTL, R.Q_STAT]
  omega

theorem State.outstanding_setFs (s : State) (l : List (Fld × Nat)) (path : Sys2Proof.Path) : (s.setFs l).outstanding path = s.outstanding path := by
  simp only [State.outstanding, State.qu, State.setFs_proctor, State.setFs_journal, State.setFs_twin, State.setFs_queues]

/-- EN cleared and what waits for the queue dropped. -/
def State.stopQueue (s : State) (q : Queue) : State :=
  ((s.setF (F.Q_CTL_EN q.val) 0).updQu q.val (fun u => { u with held := [] })).updPr (fun pr => { pr with
    doorbells := pr.doorbells.filter (fun d => d.1 != q.val), replies := pr.replies.filter (fun r => !decide (r.1 = .host q)) })

theorem State.disableQueue_eq (s : State) (q : Queue) : s.disableQueue q.val =
    if (s.stopQueue q).f (F.Q_STAT_STATE q.val) = 0 then s.stopQueue q
    else (s.stopQueue q).setFs [(F.Q_STAT_STATE q.val, if (s.stopQueue q).outstanding (.host q) then 3 else 0), (F.Q_STAT_CQ_FULL q.val, 0)] := by
  have hq : Fin.ofNat 16 q.val = q := Fin.ofNat_val_eq_self q
  unfold State.disableQueue
  dsimp only
  rw [hq]
  rfl

theorem State.stopQueue_spec {s : State} (h : s.canonical) (q : Queue) :
    (s.stopQueue q).canonical ∧ (s.stopQueue q).f (F.Q_CTL_EN q.val) = 0 ∧
    (∀ y : Fld, y.apart (F.Q_CTL_EN q.val) → (s.stopQueue q).f y = s.f y) ∧ s.keepsRegs (s.stopQueue q) [R.Q_CTL q.val] :=
  ⟨(((Kept.refl s).setF _ _).updQu ..).updPr _ |>.2 h, State.f_setF_same h.rising _ 0 (by simp [F.Q_CTL_EN]),
    fun _ hy => State.f_setF_ne h hy 0, s.keepsRegs_setF (F.Q_CTL_EN q.val) 0⟩

/-- A queue whose EN is cleared: what it reads then, and what stays (R63). -/
theorem State.disableQueue_spec {s : State} (h : s.canonical) (q : Queue) :
    let t := s.disableQueue q.val
    t.canonical ∧ t.f (F.Q_CTL_EN q.val) = 0 ∧
    t.f (F.Q_STAT_STATE q.val) = (if s.f (F.Q_STAT_STATE q.val) = 0 then 0 else if t.outstanding (.host q) then 3 else 0) ∧
    (∀ y : Fld, y.apart (F.Q_CTL_EN q.val) → y.off ≠ R.Q_STAT q.val → t.f y = s.f y) ∧
    s.keepsRegs t [R.Q_CTL q.val, R.Q_STAT q.val] ∧ s.keepsMemory t ∧
    t.proctor.running = s.proctor.running ∧ t.queues = Map.upd {} s.queues q.val (fun u => { u with held := [] }) := by
  obtain ⟨hc, hen, hf, hregs⟩ := State.stopQueue_spec h q
  have hstate : (s.stopQueue q).f (F.Q_STAT_STATE q.val) = s.f (F.Q_STAT_STATE q.val) := hf _ (.inl qCtl_ne_qStat.symm)
  dsimp only
  rw [s.disableQueue_eq q, hstate]
  by_cases h0 : s.f (F.Q_STAT_STATE q.val) = 0
  · rw [if_pos h0, if_pos h0]
    exact ⟨hc, hen, hstate.trans h0, fun y hy _ => hf y hy, hregs.mono (by simp), fun _ => ⟨rfl, rfl, rfl⟩, rfl, rfl⟩
  · rw [if_neg h0, if_neg h0]
    generalize hl : [(F.Q_STAT_STATE q.val, if (s.stopQueue q).outstanding (.host q) then 3 else 0), (F.Q_STAT_CQ_FULL q.val, 0)] = l
    have hoff : ∀ e ∈ l, e.1.off = R.Q_STAT q.val := by
      subst hl
      simp [F.Q_STAT_STATE, F.Q_STAT_CQ_FULL]
    refine ⟨State.setFs_canonical hc l, ?_, ?_, fun y hy hne => ?_, ?_, fun _ => ?_, ?_, ?_⟩
    · rw [State.f_setFs_ne hc l (fun e he => .inl (by rw [hoff e he]; exact qCtl_ne_qStat)), hen]
    · rw [State.outstanding_setFs, ← hl, State.f_setFs_at hc _ 0 rfl (by simp [F.Q_STAT_STATE]) (by simp [Fld.apart, F.Q_STAT_STATE, F.Q_STAT_CQ_FULL])]
      split <;> rfl
    · rw [State.f_setFs_ne hc l (fun e he => .inl (by rw [hoff e he]; exact hne)), hf y hy]
    · exact (hregs.mono (by simp)).trans (State.keepsRegs_setFs _ l (fun e he => by simp [hoff e he]))
    · rw [State.setFs_sq, State.setFs_host, State.setFs_dram]
      exact ⟨rfl, rfl, rfl⟩
    · rw [State.setFs_proctor]
      rfl
    · rw [State.setFs_queues]
      rfl

/-! ### A queue that starts (R63) -/

/-- The offsets of a queue's registers. -/
theorem queueRegs_ne {q : Nat} (hq : q < 16) :
    R.Q_CTL q ≠ R.QDB_SQ_TAIL q ∧ R.Q_CTL q ≠ R.QDB_CQ_HEAD q ∧ R.QDB_SQ_TAIL q ≠ R.QDB_CQ_HEAD q ∧
    R.QDB_SQ_TAIL q ≠ R.Q_STAT q ∧ R.QDB_CQ_HEAD q ≠ R.Q_STAT q := by
  simp only [R.Q_CTL, R.Q_STAT, R.QDB_SQ_TAIL, R.QDB_CQ_HEAD]
  omega

theorem queueStart_off {q : Nat} : ∀ e ∈ queueStart q, e.1.off ∈ [R.QDB_SQ_TAIL q, R.QDB_CQ_HEAD q, R.Q_STAT q] := by
  simp [queueStart, F.QDB_SQ_TAIL_TAIL, F.QDB_CQ_HEAD_HEAD, F.Q_STAT_SQ_HEAD, F.Q_STAT_CQ_TAIL, F.Q_STAT_CQ_FULL, F.Q_STAT_STATE]

/-- RUN, and every index 0. -/
theorem State.setFs_queueStart {s : State} (h : s.canonical) {q : Nat} (hq : q < 16) :
    let t := s.setFs (queueStart q)
    t.f (F.Q_STAT_STATE q) = 1 ∧ t.f (F.QDB_SQ_TAIL_TAIL q) = 0 ∧ t.f (F.QDB_CQ_HEAD_HEAD q) = 0 ∧ t.f (F.Q_STAT_SQ_HEAD q) = 0 ∧
    t.f (F.Q_STAT_CQ_TAIL q) = 0 ∧ t.f (F.Q_STAT_CQ_FULL q) = 0 := by
  obtain ⟨-, -, h3, h4, h5⟩ := queueRegs_ne hq
  have at_ (i : Nat) {y : Fld} {w : Nat} := State.f_setFs_at (y := y) (v := w) h (queueStart q) i
  refine ⟨at_ 5 rfl ?_ ?_, at_ 0 rfl ?_ ?_, at_ 1 rfl ?_ ?_, at_ 2 rfl ?_ ?_, at_ 3 rfl ?_ ?_, at_ 4 rfl ?_ ?_⟩
  all_goals simp [queueStart, Fld.apart, F.QDB_SQ_TAIL_TAIL, F.QDB_CQ_HEAD_HEAD, F.Q_STAT_SQ_HEAD, F.Q_STAT_CQ_TAIL, F.Q_STAT_CQ_FULL,
    F.Q_STAT_STATE, h3, h4, h5]

/-- A DISABLED queue whose EN is written 1: RUN, every index 0, nothing held (R63). -/
theorem State.ctlWrite_start_spec {s : State} (h : s.canonical) (q : Queue) (h0 : s.f (F.Q_STAT_STATE q.val) = 0) {v : Word}
    (hv : v.getLsbD 0 = true) :
    let t := s.ctlWrite q.val v
    t.f (F.Q_STAT_STATE q.val) = 1 ∧ t.rd (R.Q_CTL q.val) = v &&& 0xFF ∧
    t.f (F.QDB_SQ_TAIL_TAIL q.val) = 0 ∧ t.f (F.QDB_CQ_HEAD_HEAD q.val) = 0 ∧ t.f (F.Q_STAT_SQ_HEAD q.val) = 0 ∧
    t.f (F.Q_STAT_CQ_TAIL q.val) = 0 ∧ t.f (F.Q_STAT_CQ_FULL q.val) = 0 ∧ t.queues = Map.upd {} s.queues q.val (fun _ => {}) ∧
    s.keepsRegs t [R.Q_CTL q.val, R.Q_STAT q.val, R.QDB_SQ_TAIL q.val, R.QDB_CQ_HEAD q.val] ∧ s.keepsMemory t := by
  obtain ⟨h1, h2, -⟩ := queueRegs_ne q.isLt
  obtain ⟨hst, htail, hhead, hsq, hcq, hfull⟩ := State.setFs_queueStart (State.wr_canonical h (R.Q_CTL q.val) (v &&& 0xFF)) q.isLt
  have hctl : ∀ e ∈ queueStart q.val, R.Q_CTL q.val ≠ e.1.off := fun e he ho => by
    have hm := ho ▸ queueStart_off e he
    simp [h1, h2, qCtl_ne_qStat] at hm
  have hregs := (s.keepsRegs_wr (R.Q_CTL q.val) (v &&& 0xFF)).mono (W := [R.Q_CTL q.val, R.Q_STAT q.val, R.QDB_SQ_TAIL q.val, R.QDB_CQ_HEAD q.val])
    (by simp) |>.trans (State.keepsRegs_setFs _ (queueStart q.val) (fun e he => by have := queueStart_off e he; simp at this ⊢; tauto))
  have hrd : ((s.wr (R.Q_CTL q.val) (v &&& 0xFF)).setFs (queueStart q.val)).rd (R.Q_CTL q.val) = v &&& 0xFF := by
    rw [State.setFs_keeps _ _ hctl, State.rd_wr_same h.rising]
  have hmem : s.keepsMemory ((s.wr (R.Q_CTL q.val) (v &&& 0xFF)).setFs (queueStart q.val)) := fun _ => by
    rw [State.setFs_sq, State.setFs_host, State.setFs_dram]
    exact ⟨rfl, rfl, rfl⟩
  have hqueues : ((s.wr (R.Q_CTL q.val) (v &&& 0xFF)).setFs (queueStart q.val)).queues = s.queues := State.setFs_queues _ _
  dsimp only
  rewrite [State.ctlWrite_start h0 hv]
  generalize (s.wr (R.Q_CTL q.val) (v &&& 0xFF)).setFs (queueStart q.val) = u at *
  refine ⟨?_, ?_, ?_, ?_, ?_, ?_, ?_, hqueues ▸ rfl, fun off hn => ?_, fun a => ?_⟩
  · rw [State.updQu_f, hst]
  · rw [State.updQu_rd, hrd]
  · rw [State.updQu_f, htail]
  · rw [State.updQu_f, hhead]
  · rw [State.updQu_f, hsq]
  · rw [State.updQu_f, hcq]
  · rw [State.updQu_f, hfull]
  · rw [State.updQu_rd, hregs off hn]
  · rw [State.updQu_sq, State.updQu_host, State.updQu_dram]
    exact hmem a

/-- A write of Q_CTL with EN 0 on a queue in RUN or HALTED (R63, R64). -/
theorem State.ctlWrite_stop {s : State} {q : Nat} (h0 : s.f (F.Q_STAT_STATE q) ≠ 0) (h3 : s.f (F.Q_STAT_STATE q) ≠ 3) (v : Word) :
    s.ctlWrite q (v &&& ~~~ 1) = (s.wr (R.Q_CTL q) (s.ctlValue q (v &&& ~~~ 1))).disableQueue q := by
  rw [State.ctlWrite_live h0, if_pos ⟨h3, State.ctlEn_and⟩]

/-- A write of Q_CTL that ends no queue (R63, R64). -/
theorem State.ctlWrite_kept {s : State} {q : Nat} (h0 : s.f (F.Q_STAT_STATE q) ≠ 0) {v : Word}
    (h : s.f (F.Q_STAT_STATE q) = 3 ∨ s.ctlEn q v ≠ 0) : s.ctlWrite q v = s.wr (R.Q_CTL q) (s.ctlValue q v) := by
  rw [State.ctlWrite_live h0, if_neg (fun hc => h.elim hc.1 (· hc.2))]

/-- The fields of Q_CTL after a write of `w` on a queue that is not DISABLED, where `w` has the high bits of `v`. -/
theorem State.ctlValue_fields {s : State} (h : s.canonical) (q : Queue) {v w : Word} (hw : ∀ i, 2 ≤ i → i < 8 → w.getLsbD i = v.getLsbD i) :
    let u := s.wr (R.Q_CTL q.val) (s.ctlValue q.val w)
    u.f (F.Q_CTL_PORT q.val) = s.f (F.Q_CTL_PORT q.val) ∧ u.f (F.Q_CTL_IRQ_EN q.val) = v.toNat / 4 % 2 ∧
    u.f (F.Q_CTL_VEC q.val) = v.toNat / 8 % 32 ∧ u.f (F.Q_CTL_EN q.val) = ((s.ctlEn q.val w).getLsbD 0).toNat := by
  have hf : ∀ x : Fld, x.off = R.Q_CTL q.val → (s.wr (R.Q_CTL q.val) (s.ctlValue q.val w)).f x = x.ext (s.ctlValue q.val w) := fun x hx => by
    rw [State.f, hx, State.rd_wr_same h.rising]
  have high : ∀ x : Fld, x.off = R.Q_CTL q.val → 2 ≤ x.lo → x.lo + x.width ≤ 8 →
      (s.wr (R.Q_CTL q.val) (s.ctlValue q.val w)).f x = x.ext v := fun x hx h2 h8 =>
    (hf x hx).trans (Fld.ext_congr (fun i hi => (State.ctlValue_high (by omega) (by omega)).trans (hw _ (by omega) (by omega))))
  refine ⟨?_, ?_, ?_, ?_⟩
  · rw [hf _ rfl, State.f, Fld.ext_bit rfl, Fld.ext_bit rfl]
    exact congrArg Bool.toNat State.ctlValue_port
  · rw [high _ rfl (by simp [F.Q_CTL_IRQ_EN]) (by simp [F.Q_CTL_IRQ_EN]), Fld.ext, Nat.shiftRight_eq_div_pow]
    rfl
  · rw [high _ rfl (by simp [F.Q_CTL_VEC]) (by simp [F.Q_CTL_VEC]), Fld.ext, Nat.shiftRight_eq_div_pow]
    rfl
  · rw [hf _ rfl, Fld.ext_bit rfl]
    exact congrArg Bool.toNat State.ctlValue_en

/-- EN forced to 1 or to 0 leaves the bits above it. -/
theorem or_one_high (v : Word) {i : Nat} (h : 2 ≤ i) : (v ||| 1).getLsbD i = v.getLsbD i := by
  rw [BitVec.getLsbD_or, show (1 : Word).getLsbD i = false by simp; omega, Bool.or_false]

theorem and_not_one_high (v : Word) {i : Nat} (h : 2 ≤ i) (h8 : i < 8) : (v &&& ~~~ 1).getLsbD i = v.getLsbD i := by
  have hbit : ∀ i < 8, 2 ≤ i → (~~~ (1 : Word)).getLsbD i = true := by decide
  rw [BitVec.getLsbD_and, hbit i h8 h, Bool.and_true]

end Sys2Proof.Machine
end

section
/-! SUPPORT. The enabled, disabled, drained and halted queue, and its doorbells (R62 to R65). -/

namespace Sys2Proof.Machine

/-! ### Doorbells (R64, R65) -/

section
variable {s : State} {src : BusSrc} {q : Queue}

theorem exec_tailDoorbell (hb : s.busOk src = true) (hp : s.ownedBy src q.val) (v : BitVec 32) :
    exec (.qdbSqTailWrite src q v) s = .next (s.doorbell q.val true v.toNat) :=
  congrArg Host.Outcome.next (State.busWrite_doorbell hb q hp true v)

theorem exec_headDoorbell (hb : s.busOk src = true) (hp : s.ownedBy src q.val) (v : BitVec 32) :
    exec (.qdbCqHeadWrite src q v) s = .next (s.doorbell q.val false v.toNat) :=
  congrArg Host.Outcome.next (State.busWrite_doorbell hb q hp false v)
end

section
variable {s : State} {q : Nat} (v : Nat)

theorem State.doorbell_held (h : s.b F.Q_GLOBAL_SWITCHOVER = true) (tail : Bool) :
    s.doorbell q tail v = s.updPr (fun pr => { pr with doorbells := pr.doorbells ++ [(q, tail, v)] }) := if_pos h

theorem State.doorbell_tail (h : s.b F.Q_GLOBAL_SWITCHOVER = false) : s.doorbell q true v = s.tailMoves q v :=
  (if_neg (by simp [h])).trans (if_pos rfl)

theorem State.doorbell_head (h : s.b F.Q_GLOBAL_SWITCHOVER = false) : s.doorbell q false v = s.headMoves q v :=
  (if_neg (by simp [h])).trans (if_neg Bool.false_ne_true)

/-- The entries that a tail doorbell may add, and those that it would add (R64). -/
theorem State.tailMoves_past (h : s.f (F.Q_STAT_STATE q) = 1)
    (hp : (s.f (F.Q_STAT_SQ_HEAD q) + 8192 - s.f (F.QDB_SQ_TAIL_TAIL q) - 1) % 4096 < (v % 4096 + 4096 - s.f (F.QDB_SQ_TAIL_TAIL q)) % 4096) :
    s.tailMoves q v = s.badDoorbell q := by
  unfold State.tailMoves
  dsimp only
  rw [if_neg (by omega), if_neg (by omega), if_pos hp]

theorem State.tailMoves_free (h : s.f (F.Q_STAT_STATE q) = 1)
    (hp : ¬ (s.f (F.Q_STAT_SQ_HEAD q) + 8192 - s.f (F.QDB_SQ_TAIL_TAIL q) - 1) % 4096 < (v % 4096 + 4096 - s.f (F.QDB_SQ_TAIL_TAIL q)) % 4096) :
    s.tailMoves q v = s.setF (F.QDB_SQ_TAIL_TAIL q) (v % 4096) := by
  unfold State.tailMoves
  dsimp only
  rw [if_neg (by omega), if_neg (by omega), if_neg hp]

theorem State.tailMoves_halted (h : s.f (F.Q_STAT_STATE q) = 2) : s.tailMoves q v = s := if_pos h

theorem State.tailMoves_idle (h : s.f (F.Q_STAT_STATE q) = 0 ∨ s.f (F.Q_STAT_STATE q) = 3) : s.tailMoves q v = s.badDoorbell q := by
  unfold State.tailMoves
  dsimp only
  rw [if_neg (by omega), if_pos (by omega)]

theorem State.headMoves_idle (h : s.f (F.Q_STAT_STATE q) = 0 ∨ s.f (F.Q_STAT_STATE q) = 3) : s.headMoves q v = s.badDoorbell q :=
  if_pos (by simpa using h)

theorem State.headMoves_past (h : s.f (F.Q_STAT_STATE q) = 1 ∨ s.f (F.Q_STAT_STATE q) = 2)
    (hp : (s.f (F.Q_STAT_CQ_TAIL q) + 4096 - s.f (F.QDB_CQ_HEAD_HEAD q)) % 4096 < (v % 4096 + 4096 - s.f (F.QDB_CQ_HEAD_HEAD q)) % 4096) :
    s.headMoves q v = s.badDoorbell q := by
  unfold State.headMoves
  dsimp only
  rw [if_neg (by simp; omega), if_pos hp]

/-- With no reply waiting, the head moves and CQ_FULL follows (R62). -/
theorem State.headMoves_empty (h : s.f (F.Q_STAT_STATE q) = 1 ∨ s.f (F.Q_STAT_STATE q) = 2)
    (hp : (v % 4096 + 4096 - s.f (F.QDB_CQ_HEAD_HEAD q)) % 4096 ≤ (s.f (F.Q_STAT_CQ_TAIL q) + 4096 - s.f (F.QDB_CQ_HEAD_HEAD q)) % 4096)
    (hh : (s.qu q).held = []) : s.headMoves q v = (s.setF (F.QDB_CQ_HEAD_HEAD q) (v % 4096)).showFull q := by
  have hheld : ((s.setF (F.QDB_CQ_HEAD_HEAD q) (v % 4096)).qu q).held = [] := hh
  unfold State.headMoves
  dsimp only
  rw [if_neg (by simp; omega), if_neg (Nat.not_lt.2 hp)]
  simp only [State.flushHeld, hheld]
  rfl

/-- The head's new value reads back, and only the queue's two registers change. -/
theorem State.headMoves_spec (h : s.canonical) (hq : q < 16) :
    let t := (s.setF (F.QDB_CQ_HEAD_HEAD q) (v % 4096)).showFull q
    t.f (F.QDB_CQ_HEAD_HEAD q) = v % 4096 ∧ t.b (F.Q_STAT_CQ_FULL q) = t.cqFull q ∧ s.keepsRegs t [R.QDB_CQ_HEAD q, R.Q_STAT q] := by
  obtain ⟨hfull, hregs, hf⟩ := State.showFull_spec (State.setF_canonical h (F.QDB_CQ_HEAD_HEAD q) (v % 4096)) hq
  refine ⟨?_, hfull, ((s.keepsRegs_setF _ _).mono (W := [R.QDB_CQ_HEAD q, R.Q_STAT q]) (by simp [F.QDB_CQ_HEAD_HEAD])).trans (hregs.mono (by simp))⟩
  rw [hf _ (.inl (qdbHead_ne_qStat q q hq)), State.f_setF_same h.rising _ _ (by simp [F.QDB_CQ_HEAD_HEAD])]
  exact Nat.mod_eq_of_lt (Nat.mod_lt _ (by decide))

end

/-! ### Writes of Q_CTL (R63, R64) -/

section
variable {s t : State} {src : BusSrc} {q : Queue} {v : BitVec 32}

/-- What the two writes of Q_CTL leave is the state that the queue's control gives, with its journal entry. -/
theorem qEnable_noted (hb : s.busOk src = true) (h : exec (.qEnable src q v) s = .next t) : (s.ctlWrite q.val (v ||| 1)).noted t := by
  cases h
  exact State.busWrite_ctl_noted hb q _

theorem qDisable_noted (hb : s.busOk src = true) (h : exec (.qDisable src q v) s = .next t) : (s.ctlWrite q.val (v &&& ~~~ 1)).noted t := by
  cases h
  exact State.busWrite_ctl_noted hb q _

theorem State.noted.f {u : State} (h : u.noted t) (x : Fld) : t.f x = u.f x := State.f_of_regs h.1 x

theorem State.noted.keepsRegs {u : State} (h : u.noted t) {W : List Nat} (k : s.keepsRegs u W) : s.keepsRegs t W :=
  fun off hn => (State.rd_of_regs h.1 off).trans (k off hn)

theorem State.noted.keepsMemory {u : State} (h : u.noted t) (k : s.keepsMemory u) : s.keepsMemory t := k.trans h.2.2.2.1

/-- A write of Q_CTL on a queue that is not DISABLED leaves PORT and Q_ERR, and stores the other fields (R64). -/
theorem State.ctlWrite_live_fields (h : s.canonical) (h0 : s.f (F.Q_STAT_STATE q.val) ≠ 0) {w : Word}
    (hw : ∀ i, 2 ≤ i → i < 8 → w.getLsbD i = v.getLsbD i) :
    let u := s.ctlWrite q.val w
    u.f (F.Q_CTL_PORT q.val) = s.f (F.Q_CTL_PORT q.val) ∧ u.f (F.Q_CTL_IRQ_EN q.val) = v.toNat / 4 % 2 ∧
    u.f (F.Q_CTL_VEC q.val) = v.toNat / 8 % 32 ∧ u.f (F.Q_ERR_BAD_DB q.val) = s.f (F.Q_ERR_BAD_DB q.val) := by
  obtain ⟨hport, hirq, hvec, -⟩ := State.ctlValue_fields h q hw
  have hc := State.wr_canonical h (R.Q_CTL q.val) (s.ctlValue q.val w)
  have herr : (s.wr (R.Q_CTL q.val) (s.ctlValue q.val w)).f (F.Q_ERR_BAD_DB q.val) = s.f (F.Q_ERR_BAD_DB q.val) :=
    (s.keepsRegs_wr _ _).f (by simp [F.Q_ERR_BAD_DB, R.Q_ERR, R.Q_CTL])
  have hqs : R.Q_CTL q.val ≠ R.Q_STAT q.val := qCtl_ne_qStat
  have hqe : R.Q_ERR q.val ≠ R.Q_CTL q.val ∧ R.Q_ERR q.val ≠ R.Q_STAT q.val := by
    simp only [R.Q_ERR, R.Q_CTL, R.Q_STAT]
    omega
  dsimp only
  rw [State.ctlWrite_live h0]
  split
  · obtain ⟨-, -, -, hf, -⟩ := State.disableQueue_spec hc q
    refine ⟨(hf _ ?_ ?_).trans hport, (hf _ ?_ ?_).trans hirq, (hf _ ?_ ?_).trans hvec, (hf _ ?_ ?_).trans herr⟩
    all_goals simp [Fld.apart, F.Q_CTL_PORT, F.Q_CTL_EN, F.Q_CTL_IRQ_EN, F.Q_CTL_VEC, F.Q_ERR_BAD_DB, hqs, hqe]
  · exact ⟨hport, hirq, hvec, herr⟩

end

end Sys2Proof.Machine

open Sys2Proof Sys2Proof.Machine

/-- Settles O14: EN written 1, EN written 0, the last command's end, and a CXL.io error. -/
theorem queueStates : Obligations.QueueStates := by
  unfold Obligations.QueueStates
  refine fun src q v s h hb => ⟨fun h0 => ?_, fun h12 => ?_, fun h3 ho => ?_, fun h12 => if_pos (by simpa using h12)⟩
  · have hn := qEnable_noted (q := q) (v := v) hb rfl
    obtain ⟨hst, hctl, htail, hhead, hsq, hcq, hfull, hqueues, hregs, hmem⟩ :=
      State.ctlWrite_start_spec h q h0 (v := v ||| 1) (by simp)
    exact ⟨_, rfl, (hn.f _).trans hst, (State.rd_of_regs hn.1 _).trans hctl, (hn.f _).trans htail, (hn.f _).trans hhead, (hn.f _).trans hsq,
      (hn.f _).trans hcq, (hn.f _).trans hfull, hn.2.1.trans hqueues, hn.keepsRegs hregs, hn.keepsMemory hmem⟩
  · have h0 : s.f (F.Q_STAT_STATE q.val) ≠ 0 := by omega
    have h3 : s.f (F.Q_STAT_STATE q.val) ≠ 3 := by omega
    have hn := qDisable_noted (q := q) (v := v) hb rfl
    rw [State.ctlWrite_stop h0 h3] at hn
    have hu := s.keepsRegs_wr (R.Q_CTL q.val) (s.ctlValue q.val (v &&& ~~~ 1))
    have hst : (s.wr (R.Q_CTL q.val) (s.ctlValue q.val (v &&& ~~~ 1))).f (F.Q_STAT_STATE q.val) = s.f (F.Q_STAT_STATE q.val) :=
      hu.f (by simpa [F.Q_STAT_STATE] using qCtl_ne_qStat.symm)
    obtain ⟨-, hen, hstate, hf, hregs, hmem, hrun, hqueues⟩ :=
      State.disableQueue_spec (State.wr_canonical h (R.Q_CTL q.val) (s.ctlValue q.val (v &&& ~~~ 1))) q
    rw [hst, if_neg h0] at hstate
    have hport := (hf (F.Q_CTL_PORT q.val) (.inr (by simp [F.Q_CTL_PORT, F.Q_CTL_EN])) qCtl_ne_qStat).trans (State.ctlValue_fields h q (fun _ _ _ => rfl)).1
    refine ⟨_, rfl, ?_, (congrArg Proctor.running hn.2.2.1).trans hrun, (hn.f _).trans hen, (hn.f _).trans hport, hn.2.1.trans hqueues,
      hn.keepsRegs ((hu.mono (by simp)).trans hregs), hn.keepsMemory hmem⟩
    rw [hn.f, hstate, hn.2.2.2.2]
  · exact if_pos (by simp [h3, ho])

/-- Settles O15: the held doorbells, the tail, the head, and the writes of Q_CTL. -/
theorem doorbells : Obligations.Doorbells := by
  unfold Obligations.Doorbells
  intro src q v s h hb hp st new tail head bad now
  have htail := exec_tailDoorbell hb hp v
  have hhead := exec_headDoorbell hb hp v
  refine ⟨fun hs => ?_, fun hn h1 => ?_, fun hn h2 => ?_, fun hn h03 => ?_, fun hn h12 hpast => ?_, fun hn h12 hin hh => ?_, fun h0 t ht => ?_,
    fun h12 => ⟨fun t ht => ?_, fun t ht => ?_⟩, fun h3 t ht => ?_⟩
  · rw [htail, hhead, State.doorbell_held _ hs, State.doorbell_held _ hs]
    exact ⟨rfl, rfl⟩
  · rw [htail, State.doorbell_tail _ hn]
    split
    · next hlt => rw [State.tailMoves_past _ h1 hlt]; rfl
    · next hge => rw [State.tailMoves_free _ h1 hge]
  · rw [htail, State.doorbell_tail _ hn, State.tailMoves_halted _ h2]
  · rw [htail, hhead, State.doorbell_tail _ hn, State.doorbell_head _ hn, State.tailMoves_idle _ h03, State.headMoves_idle _ h03]
    exact ⟨rfl, rfl⟩
  · rw [hhead, State.doorbell_head _ hn, State.headMoves_past _ h12 hpast]
    rfl
  · obtain ⟨hf, hfull, hregs⟩ := State.headMoves_spec v.toNat h q.isLt
    exact ⟨_, hhead.trans (by rw [State.doorbell_head _ hn, State.headMoves_empty _ h12 hin hh]), hf, hfull, hregs, rfl⟩
  · have fields {u : State} (hn : u.noted t) (hu : u.f (F.Q_CTL_PORT q.val) = s.f (F.Q_CTL_PORT q.val) ∧
        u.f (F.Q_CTL_IRQ_EN q.val) = v.toNat / 4 % 2 ∧ u.f (F.Q_CTL_VEC q.val) = v.toNat / 8 % 32 ∧
        u.f (F.Q_ERR_BAD_DB q.val) = s.f (F.Q_ERR_BAD_DB q.val)) := by
      rw [← hn.f, ← hn.f, ← hn.f, ← hn.f] at hu
      exact hu
    rcases ht with ht | ht
    · exact fields (qEnable_noted hb ht) (State.ctlWrite_live_fields h h0 (fun i h2 _ => or_one_high v h2))
    · exact fields (qDisable_noted hb ht) (State.ctlWrite_live_fields h h0 (fun i h2 h8 => and_not_one_high v h2 h8))
  · have h0 : s.f (F.Q_STAT_STATE q.val) ≠ 0 := by omega
    have hen : s.ctlEn q.val (v ||| 1) = 1 := State.ctlEn_or (by omega)
    rw [(qEnable_noted hb ht).f, State.ctlWrite_kept h0 (.inr (by rw [hen]; decide)), (State.ctlValue_fields h q (fun _ _ _ => rfl)).2.2.2, hen]
    rfl
  · have h0 : s.f (F.Q_STAT_STATE q.val) ≠ 0 := by omega
    have h3 : s.f (F.Q_STAT_STATE q.val) ≠ 3 := by omega
    rw [(qDisable_noted hb ht).f, State.ctlWrite_stop h0 h3]
    exact (State.disableQueue_spec (State.wr_canonical h _ _) q).2.1
  · have h0 : s.f (F.Q_STAT_STATE q.val) ≠ 0 := by omega
    have hen : s.ctlEn q.val (v ||| 1) = 0 := if_pos h3
    rw [(qEnable_noted hb ht).f, (qEnable_noted hb ht).f, State.ctlWrite_kept h0 (.inl h3), (State.ctlValue_fields h q (fun _ _ _ => rfl)).2.2.2, hen]
    exact ⟨rfl, ((s.keepsRegs_wr _ _).f (by simpa [F.Q_STAT_STATE] using qCtl_ne_qStat.symm)).trans h3⟩
end

section
/-! SUPPORT. A host port's reset and training (R63, R159, R160, R374). -/

namespace Sys2Proof.Machine

/-! ### The queues of a port (R374) -/

/-- A queue's stop leaves another queue's outstanding commands. -/
theorem State.outstanding_disableQueue (s : State) {q k : Queue} (hk : k ≠ q) :
    (s.disableQueue q.val).outstanding (.host k) = s.outstanding (.host k) := by
  have hstop : (s.stopQueue q).outstanding (.host k) = s.outstanding (.host k) := by
    have hqu : (s.stopQueue q).qu k.val = s.qu k.val := 
      Map.get_upd_ne (d := ({} : QueueSt)) (fun h => hk (Fin.ext h)) s.queues (fun u => { u with held := [] })
    have hrep : ((s.proctor.replies.filter (fun r => !decide (r.1 = .host q))).any (fun r => decide (r.1 = .host k))) =
        s.proctor.replies.any (fun r => decide (r.1 = .host k)) := by
      rw [List.any_filter]
      refine congrArg (s.proctor.replies.any ·) (funext fun r => ?_)
      by_cases hr : r.1 = .host k
      · simp [hr, hk]
      · simp [hr]
    unfold State.outstanding
    dsimp only
    rw [hqu]
    exact congrArg (· || _) (congrArg (_ || ·) hrep)
  rw [s.disableQueue_eq q]
  split
  · exact hstop
  · rw [State.outstanding_setFs, hstop]

/-- The registers that stopping a list of queues may write. -/
def ctlRegs (l : List Nat) : List Nat := l.flatMap (fun q => [R.Q_CTL q, R.Q_STAT q])

theorem not_mem_ctlRegs {q : Nat} {l : List Nat} (hq : q ∉ l) : R.Q_CTL q ∉ ctlRegs l ∧ R.Q_STAT q ∉ ctlRegs l := by
  constructor
  all_goals
    intro hm
    obtain ⟨k, hk, hm⟩ := List.mem_flatMap.1 hm
    simp only [R.Q_CTL, R.Q_STAT, List.mem_cons, List.not_mem_nil, or_false] at hm
    exact hq (by rwa [show q = k by omega])

/-- What a stopped queue of the state `s` reads in `t`. -/
def State.stopped (s t : State) (q : Queue) : Prop :=
  t.f (F.Q_CTL_EN q.val) = 0 ∧ t.f (F.Q_CTL_PORT q.val) = s.f (F.Q_CTL_PORT q.val) ∧
  t.f (F.Q_STAT_STATE q.val) = (if s.f (F.Q_STAT_STATE q.val) = 0 then 0 else if t.outstanding (.host q) then 3 else 0)

/-- Stopping several queues stops each of them and leaves the others. -/
theorem State.disableQueues_spec {s : State} (h : s.canonical) (l : List Nat) (hl : ∀ q ∈ l, q < 16) (hd : l.Nodup) :
    let t := s.each l State.disableQueue
    (∀ q : Queue, q.val ∈ l → s.stopped t q) ∧ (∀ q : Queue, q.val ∉ l → t.outstanding (.host q) = s.outstanding (.host q)) ∧
    s.keepsRegs t (ctlRegs l) ∧ s.keepsMemory t := by
  induction l generalizing s with
  | nil => exact ⟨fun _ hq => absurd hq (List.not_mem_nil), fun _ _ => rfl, fun _ _ => rfl, fun _ => ⟨rfl, rfl, rfl⟩⟩
  | cons a l ih =>
    obtain ⟨ha, hd⟩ := List.nodup_cons.1 hd
    let k : Queue := ⟨a, hl a List.mem_cons_self⟩
    obtain ⟨hc, hen, hstate, hf, hregs, hmem, -, -⟩ := State.disableQueue_spec h k
    obtain ⟨hin, hout, hkeep, hmem'⟩ := ih hc (fun q hq => hl q (List.mem_cons_of_mem _ hq)) hd
    have hfirst := not_mem_ctlRegs ha
    have houter : ∀ q : Queue, q.val ≠ a → R.Q_CTL q.val ∉ [R.Q_CTL a, R.Q_STAT a] ∧ R.Q_STAT q.val ∉ [R.Q_CTL a, R.Q_STAT a] := fun q hq => by
      have := not_mem_ctlRegs (q := q.val) (l := [a]) (by simpa using hq)
      simpa [ctlRegs] using this
    refine ⟨fun q hq => ?_, fun q hq => ?_, ?_, hmem.trans hmem'⟩
    · by_cases hqa : q.val = a
      · obtain rfl : q = k := Fin.ext hqa
        refine ⟨(hkeep.f hfirst.1).trans hen, (hkeep.f hfirst.1).trans ?_, (hkeep.f hfirst.2).trans (hstate.trans ?_)⟩
        · exact hf _ (.inr (by simp [F.Q_CTL_PORT, F.Q_CTL_EN])) qCtl_ne_qStat
        · rw [← hout k ha]
          rfl
      · obtain ⟨hen', hport', hstate'⟩ := hin q ((List.mem_cons.1 hq).resolve_left hqa)
        rw [hregs.f (houter q hqa).1] at hport'
        rw [hregs.f (houter q hqa).2] at hstate'
        exact ⟨hen', hport', hstate'⟩
    · obtain ⟨hqa, hql⟩ := not_or.1 (mt List.mem_cons.2 hq)
      exact (hout q hql).trans (s.outstanding_disableQueue (q := k) (fun h => hqa (congrArg Fin.val h)))
    · exact (hregs.mono (W := ctlRegs (a :: l)) (fun x hx => List.mem_append_left _ hx)).trans
        (hkeep.mono (fun x hx => List.mem_append_right _ hx))

/-- The host queues bound to a port. -/
def State.queuesOf (s : State) (n : Nat) : List Nat := (List.range 16).filter (fun q => s.f (F.Q_CTL_PORT q) == n)

theorem State.mem_queuesOf {s : State} {n : Nat} {q : Queue} : q.val ∈ s.queuesOf n ↔ s.f (F.Q_CTL_PORT q.val) = n := by
  simp [State.queuesOf, q.isLt]

theorem State.queuesOf_lt (s : State) (n : Nat) : ∀ q ∈ s.queuesOf n, q < 16 := fun _ hq => List.mem_range.1 (List.mem_of_mem_filter hq)

theorem State.queuesOf_nodup (s : State) (n : Nat) : (s.queuesOf n).Nodup := List.nodup_range.filter _

theorem State.ctlRegs_queuesOf (s : State) (n : Nat) : ∀ x ∈ ctlRegs (s.queuesOf n), x ∈ ctlRegs (List.range 16) := fun x hx => by
  obtain ⟨q, hq, hm⟩ := List.mem_flatMap.1 hx
  exact List.mem_flatMap.2 ⟨q, List.mem_of_mem_filter hq, hm⟩

/-! ### A host port's link (R159, R160, R374) -/

/-- The fields of a port that leaves its trained state. -/
def cxlDownFields (n : Nat) : List (Fld × Nat) :=
  [(F.CXL_PHY_STAT_LINK_UP n, 0), (F.CXL_PHY_STAT_RATE n, 0), (F.CXL_PHY_STAT_WIDTH n, 0), (F.CXL_PHY_STAT_L0P_WIDTH n, 0),
    (F.CXL_PHY_STAT_MEM_EN n, 0), (F.CXL_PHY_STAT_DEGRADED n, 0)]

/-- A port that leaves its trained state, before its line asserts: its fields cleared and its queues stopped. -/
def State.portLeft (s : State) (n : Nat) : State :=
  (s.setFs (cxlDownFields n)).each ((s.setFs (cxlDownFields n)).queuesOf n) State.disableQueue

theorem State.hostPortDown_eq (s : State) (n : Nat) : s.hostPortDown n =
    if s.b (F.CXL_PHY_STAT_LINK_UP n) then (s.portLeft n).raiseMod (8 + n) 0 true else s.portLeft n := rfl

theorem cxlPhyStat_ne {n q : Nat} (hn : n < 2) : R.CXL_PHY_STAT n ≠ R.Q_CTL q ∧ R.CXL_PHY_STAT n ≠ R.Q_STAT q := by
  simp only [R.CXL_PHY_STAT, R.Q_CTL, R.Q_STAT]
  omega

theorem cxlPhyStat_not_mem_ctlRegs {n : Nat} (hn : n < 2) (l : List Nat) : R.CXL_PHY_STAT n ∉ ctlRegs l := by
  intro hm
  obtain ⟨q, -, hm⟩ := List.mem_flatMap.1 hm
  simp [cxlPhyStat_ne hn] at hm

theorem State.portLeft_spec {s : State} (h : s.canonical) (n : Fin 2) :
    (s.portLeft n.val).f (F.CXL_PHY_STAT_LINK_UP n.val) = 0 ∧ (s.portLeft n.val).f (F.CXL_PHY_STAT_MEM_EN n.val) = 0 ∧
    ∀ q : Queue, s.f (F.Q_CTL_PORT q.val) = n.val → (s.portLeft n.val).f (F.Q_CTL_EN q.val) = 0 := by
  have hc := State.setFs_canonical h (cxlDownFields n.val)
  have hregs := s.keepsRegs_setFs (cxlDownFields n.val) (W := [R.CXL_PHY_STAT n.val]) (by
    simp [cxlDownFields, F.CXL_PHY_STAT_LINK_UP, F.CXL_PHY_STAT_RATE, F.CXL_PHY_STAT_WIDTH, F.CXL_PHY_STAT_L0P_WIDTH, F.CXL_PHY_STAT_MEM_EN,
      F.CXL_PHY_STAT_DEGRADED])
  have at_ (i : Nat) {y : Fld} {w : Nat} := State.f_setFs_at (y := y) (v := w) h (cxlDownFields n.val) i
  obtain ⟨hin, -, hkeep, -⟩ := State.disableQueues_spec hc ((s.setFs (cxlDownFields n.val)).queuesOf n.val) (State.queuesOf_lt _ _)
    (State.queuesOf_nodup _ _)
  have hph := cxlPhyStat_not_mem_ctlRegs n.isLt ((s.setFs (cxlDownFields n.val)).queuesOf n.val)
  refine ⟨(hkeep.f hph).trans (at_ 0 rfl ?_ ?_), (hkeep.f hph).trans (at_ 4 rfl ?_ ?_), fun q hq => (hin q (State.mem_queuesOf.2 ?_)).1⟩
  · simp [F.CXL_PHY_STAT_LINK_UP]
  · simp [cxlDownFields, Fld.apart, F.CXL_PHY_STAT_LINK_UP, F.CXL_PHY_STAT_RATE, F.CXL_PHY_STAT_WIDTH, F.CXL_PHY_STAT_L0P_WIDTH,
      F.CXL_PHY_STAT_MEM_EN, F.CXL_PHY_STAT_DEGRADED]
  · simp [F.CXL_PHY_STAT_MEM_EN]
  · simp [cxlDownFields, Fld.apart, F.CXL_PHY_STAT_MEM_EN, F.CXL_PHY_STAT_DEGRADED]
  · rw [hregs.f (by simpa [F.Q_CTL_PORT] using (cxlPhyStat_ne n.isLt).1.symm), hq]

/-- A module line's level falls: its bit is clear, and nothing but the level and the quiet timers changes (R401). -/
theorem State.fallMod_spec {s : State} (h : s.canonical) {i : Nat} (hi : i < 32) :
    (s.fallMod i).bit R.MFLVL_SRC i = false ∧ Faulted [R.MFLVL_SRC] s (s.fallMod i) := by
  have hbit : (s.clrBit R.MFLVL_SRC i).bit R.MFLVL_SRC i = false := by
    unfold State.bit State.clrBit
    rw [State.rd_wr_same h.rising, BitVec.getLsbD_and, BitVec.getLsbD_not, BitVec.getLsbD_shiftLeft]
    simp [hi]
  have hclr : Faulted [R.MFLVL_SRC] s (s.clrBit R.MFLVL_SRC i) := (Faulted.refl _ s).wr List.mem_cons_self _
  unfold State.fallMod
  dsimp only
  split
  · exact ⟨hbit, hclr.startQuiet 48⟩
  · exact ⟨hbit, hclr⟩

/-- The fields of a trained port. -/
def cxlUpFields (n rate width l0p mem deg rev : Nat) : List (Fld × Nat) :=
  [(F.CXL_PHY_STAT_LINK_UP n, 1), (F.CXL_PHY_STAT_RATE n, rate), (F.CXL_PHY_STAT_WIDTH n, width), (F.CXL_PHY_STAT_L0P_WIDTH n, l0p),
    (F.CXL_PHY_STAT_MEM_EN n, mem), (F.CXL_PHY_STAT_DEGRADED n, deg), (F.CXL_PHY_STAT_LANE_REV n, rev)]

theorem cxlUpFields_off {n rate width l0p mem deg rev : Nat} : ∀ e ∈ cxlUpFields n rate width l0p mem deg rev, e.1.off = R.CXL_PHY_STAT n := by
  simp [cxlUpFields, F.CXL_PHY_STAT_LINK_UP, F.CXL_PHY_STAT_RATE, F.CXL_PHY_STAT_WIDTH, F.CXL_PHY_STAT_L0P_WIDTH, F.CXL_PHY_STAT_MEM_EN,
    F.CXL_PHY_STAT_DEGRADED, F.CXL_PHY_STAT_LANE_REV]

/-- The fields of a trained port read as they are set. -/
theorem State.setFs_cxlUp {s : State} (h : s.canonical) {n rate width l0p mem deg rev : Nat} (hr : rate < 8) (hw : width < 32)
    (hm : mem < 2) (hd : deg < 2) (hv : rev < 2) :
    let t := s.setFs (cxlUpFields n rate width l0p mem deg rev)
    t.f (F.CXL_PHY_STAT_LINK_UP n) = 1 ∧ t.f (F.CXL_PHY_STAT_RATE n) = rate ∧ t.f (F.CXL_PHY_STAT_WIDTH n) = width ∧
    t.f (F.CXL_PHY_STAT_MEM_EN n) = mem ∧ t.f (F.CXL_PHY_STAT_DEGRADED n) = deg ∧ t.f (F.CXL_PHY_STAT_LANE_REV n) = rev := by
  have at_ (i : Nat) {y : Fld} {w : Nat} := State.f_setFs_at (y := y) (v := w) h (cxlUpFields n rate width l0p mem deg rev) i
  refine ⟨(at_ 0 rfl ?_ ?_).trans rfl, (at_ 1 rfl ?_ ?_).trans (Nat.mod_eq_of_lt hr), (at_ 2 rfl ?_ ?_).trans (Nat.mod_eq_of_lt hw),
    (at_ 4 rfl ?_ ?_).trans (Nat.mod_eq_of_lt hm), (at_ 5 rfl ?_ ?_).trans (Nat.mod_eq_of_lt hd), (at_ 6 rfl ?_ ?_).trans (Nat.mod_eq_of_lt hv)⟩
  all_goals simp [cxlUpFields, Fld.apart, F.CXL_PHY_STAT_LINK_UP, F.CXL_PHY_STAT_RATE, F.CXL_PHY_STAT_WIDTH, F.CXL_PHY_STAT_L0P_WIDTH,
    F.CXL_PHY_STAT_MEM_EN, F.CXL_PHY_STAT_DEGRADED, F.CXL_PHY_STAT_LANE_REV]

theorem cxlPhyStat_not_mem_log {n : Nat} (hn : n < 2) : R.CXL_PHY_STAT n ∉ logRegs := by
  have : ∀ n < 2, R.CXL_PHY_STAT n ∉ logRegs := by decide
  exact this n hn

theorem Faulted.mono {V W : List Nat} {z s : State} (h : Faulted V z s) (hV : ∀ a ∈ V, a ∈ W) : Faulted W z s := ⟨h.1, h.2.mono hV⟩

/-- A port's training as it is written, its line's end and the record of a degraded link (R159, R160). -/
def State.portTrained (s : State) (n : Nat) (deg : Bool) : State :=
  if deg then (s.fallMod (8 + n)).note 0x2 .cxlDegraded 2 (tgtHost n) else s.fallMod (8 + n)

theorem State.portTrained_spec {s : State} (h : s.canonical) {n : Nat} (hn : n < 2) (deg : Bool) :
    (s.portTrained n deg).bit R.MFLVL_SRC (8 + n) = false ∧ Faulted (R.MFLVL_SRC :: logRegs) s (s.portTrained n deg) := by
  obtain ⟨hbit, hfall⟩ := State.fallMod_spec h (i := 8 + n) (by omega)
  have hfall' : Faulted (R.MFLVL_SRC :: logRegs) s (s.fallMod (8 + n)) := hfall.mono (by simp)
  unfold State.portTrained
  split
  · have hnote := State.note_logged (s.fallMod (8 + n)) 0x2 .cxlDegraded 2 (tgtHost n) 0
    refine ⟨?_, hfall'.trans (Faulted.of_logged (fun a ha => List.mem_cons_of_mem _ ha) hnote)⟩
    rw [State.bit, hnote.2 _ (by decide)]
    exact hbit
  · exact ⟨hbit, hfall'⟩

end Sys2Proof.Machine

open Sys2Proof Sys2Proof.Machine

/-- Settles O19: the reset with the link kept, with the link lost, and the training. -/
theorem hostPorts : Obligations.HostPorts := by
  unfold Obligations.HostPorts
  refine ⟨fun n s h => ?_, fun n s h => ?_, fun n rate width rev s h ht => ?_, fun n rate width rev s ht => ?_⟩
  · obtain ⟨hin, -, hregs, hmem⟩ := State.disableQueues_spec h (s.queuesOf n.val) (s.queuesOf_lt _) (s.queuesOf_nodup _)
    refine ⟨_, rfl, fun q hq => ?_, fun q hq => ?_, hregs.mono (s.ctlRegs_queuesOf n.val), hmem⟩
    · obtain ⟨hen, hport, hstate⟩ := hin q (State.mem_queuesOf.2 hq)
      exact ⟨hen, hport.trans hq, hstate⟩
    · obtain ⟨h1, h2⟩ := not_mem_ctlRegs (mt State.mem_queuesOf.1 hq)
      exact ⟨hregs _ h1, hregs _ h2⟩
  · refine ⟨s.portLeft n.val, ?_, State.portLeft_spec h n⟩
    have he : exec (.cxlHotReset n true) s = .next (s.hostPortDown n.val) := rfl
    rw [he, s.hostPortDown_eq]
    split
    · rfl
    · rfl
  · intro deg
    let mem := if deg || s.standAlone then 0 else 1
    have hl : Faulted (R.CXL_PHY_STAT n.val :: R.MFLVL_SRC :: logRegs) s _ := (Faulted.refl _ s).setFs
      (cxlUpFields n.val rate.val width.val width.val mem (if deg then 1 else 0) (if rev then 1 else 0))
      (fun e he => by rw [cxlUpFields_off e he]; exact List.mem_cons_self)
    have hc := State.setFs_canonical h (cxlUpFields n.val rate.val width.val width.val mem (if deg then 1 else 0) (if rev then 1 else 0))
    obtain ⟨hup, hrate, hwidth, hmem, hdeg, hrev⟩ := State.setFs_cxlUp h (n := n.val) (rate := rate.val) (width := width.val) (l0p := width.val)
      (mem := mem) (deg := if deg then 1 else 0) (rev := if rev then 1 else 0) (by omega) (by omega) (by dsimp only [mem]; split <;> decide)
      (by split <;> decide) (by split <;> decide)
    obtain ⟨hbit, hfall⟩ := State.portTrained_spec hc n.isLt deg
    obtain ⟨honly, hregs⟩ := hl.trans (hfall.mono (fun a ha => List.mem_cons_of_mem _ ha))
    have hkeep := hfall.2
    have hph : R.CXL_PHY_STAT n.val ∉ R.MFLVL_SRC :: logRegs := fun hm => (List.mem_cons.1 hm).elim
      (fun h => by simp only [R.CXL_PHY_STAT, R.MFLVL_SRC] at h; omega) (cxlPhyStat_not_mem_log n.isLt)
    refine ⟨_, if_neg (by simp [ht]), (hkeep.f hph).trans hup, (hkeep.f hph).trans hrate, (hkeep.f hph).trans hwidth, (hkeep.f hph).trans hmem,
      (hkeep.f hph).trans hdeg, (hkeep.f hph).trans hrev, hbit, hregs, honly⟩
  · exact if_pos (by rw [ht]; rfl)
end

section
/-! SUPPORT. Frames on the management chain (R67 to R69). -/

namespace Sys2Proof.Machine

section
variable {s : State} {bytes : List Byte}

/-- The payload of a chain frame, and its sender (R67). -/
def framePayload (bytes : List Byte) : List Byte := (bytes.drop 6).take (leAt bytes 4 2)

def frameSender (bytes : List Byte) : BitVec 8 := BitVec.ofNat 8 (leAt bytes 1 1)

theorem chainFrame_broken (h : chainFrameOk bytes = false) : exec (.chainFrameReceive bytes) s = .next (s.raiseMod 19) :=
  if_pos (by rw [h]; rfl)

/-- A frame that is no Roll Call and names another module goes on unchanged (R68). -/
theorem chainFrame_forwarded (h : chainFrameOk bytes = true) (ht : leAt bytes 2 1 ≠ 1)
    (hd : leAt bytes 0 1 = 0 ∨ leAt bytes 0 1 ≠ s.f F.MCH_ADDR_ADDR) : exec (.chainFrameReceive bytes) s = .next (s.emit (.chain bytes)) :=
  (if_neg (by rw [h]; decide)).trans ((if_neg ht).trans (if_pos (by simpa using hd)))

/-- A COMMAND for this module (R68). -/
theorem chainFrame_command (h : chainFrameOk bytes = true) (ht : leAt bytes 2 1 = 0x10) (h0 : leAt bytes 0 1 ≠ 0)
    (hd : leAt bytes 0 1 = s.f F.MCH_ADDR_ADDR) :
    exec (.chainFrameReceive bytes) s = .next (s.chainCommand (frameSender bytes) (framePayload bytes)) :=
  (if_neg (by rw [h]; decide)).trans ((if_neg (by rw [ht]; decide)).trans ((if_neg (by simp [hd ▸ h0, hd])).trans (if_pos ht)))
end

section
variable {s : State} {src : BitVec 8} {bs : List Byte}

theorem State.originOf_head : s.originOf (.chain 0x7F) = some 3 := rfl

/-- A chain sender that is neither the head nor the partner (R68). -/
theorem State.chainCommand_foreign (h : s.originOf (.chain src) = none) : s.chainCommand src bs =
    s.postFinal (.chain src) { tag := BitVec.ofNat 16 (leAt bs 4 2), status := stAuth, detail := 1, result := [] } := by
  unfold State.chainCommand
  dsimp only
  rw [h]

/-- The head's packet while there is room for it, and while there is none (R68). -/
theorem State.chainCommand_head (h : s.proctor.chainQ.length + s.proctor.twinQ.length < 64) : s.chainCommand 0x7F bs =
    s.updPr (fun pr => { pr with chainQ := pr.chainQ ++ [{ path := .chain 0x7F, bytes := bs }] }) := by
  unfold State.chainCommand
  dsimp only
  rw [State.originOf_head]
  exact if_neg (by omega)

theorem State.chainCommand_busy (h : 64 ≤ s.proctor.chainQ.length + s.proctor.twinQ.length) : s.chainCommand 0x7F bs =
    s.postFinal (.chain 0x7F) { tag := BitVec.ofNat 16 (leAt bs 4 2), status := stBusy, detail := 0, result := [] } := by
  unfold State.chainCommand
  dsimp only
  rw [State.originOf_head]
  exact if_pos h

/-- A Roll Call with an address to give, and one beyond the last address (R69). -/
theorem State.rollcall_given {src next : Nat} (h : next < 64) : s.rollcall src next =
    let b := if s.f F.MCH_ADDR_ADDR < next then next else s.f F.MCH_ADDR_ADDR
    (s.setF F.MCH_ADDR_ADDR b).emit (.chain (chainFrame 0 src 1 (leBytes 1 (b + 1)))) := if_neg (by omega)

theorem State.rollcall_beyond {src next : Nat} (h : 64 ≤ next) :
    s.rollcall src next = (s.setF F.MCH_ADDR_ADDR 0).emit (.chain (chainFrame 0 src 1 [64])) := if_pos h
end

end Sys2Proof.Machine

open Sys2Proof Sys2Proof.Machine

/-- Settles O22: broken, forwarded and taken frames, the Roll Call, and LINK_CHANGE. -/
theorem chainFrames : Obligations.ChainFrames := by
  unfold Obligations.ChainFrames
  refine ⟨fun bytes s => ?_, fun next s h => congrArg _ (State.rollcall_given h), fun next s h => congrArg _ (State.rollcall_beyond h),
    fun side s => rfl⟩
  intro dest src payload tag
  refine ⟨chainFrame_broken, chainFrame_forwarded, fun hok ht h0 hd => ?_⟩
  have he := chainFrame_command hok ht h0 hd
  refine ⟨fun hs hlt => ?_, fun hs hge => ?_, fun ho => ?_⟩
  · rw [he, show frameSender bytes = 0x7F from hs, State.chainCommand_head hlt, hs]
    rfl
  · rw [he, show frameSender bytes = 0x7F from hs, State.chainCommand_busy hge, hs]
    rfl
  · rw [he]
    exact congrArg _ (State.chainCommand_foreign ho)
end

section
/-! SUPPORT. In-band packets and the port commands (R70, R79, R182, R190, R373, R386). -/

namespace Sys2Proof.Machine

/-- A command that succeeds with a change, which no twin mirrors: its reply waits for its journal entry (R79, R82). -/
theorem State.conclude_logged {t : State} {p : Packet} {o code : Nat} {res : List Byte} {ch : List JChange} {un : Undo}
    (hm : mirroredKind code = none) (hc : code ≠ 0x101 ∧ code ≠ 0x102) (hch : ch ≠ []) (hl : res.length ≤ 48) :
    t.conclude code o true p stOk 0 res ch un =
      t.journalise o code p.tag.toNat ch (some (p.path, { tag := p.tag, status := stOk, detail := 0, result := res })) un := by
  simp [State.conclude, State.place_short t p stOk 0 hl, hm, hc.1, hc.2, State.settle, hch]

/-- PORT_TRAIN, accepted: what it does to the port, journaled (R190). -/
theorem portTrain_accepted {p : Packet} {s u : State} {o : Nat} (ha : s.accepts portTrainDef p o)
    (hact : portTrainDef.act (s.begun p) p o (s.begun p).proctor.nextId = .now u stOk 0 [] (paramChange p)) :
    exec (.portTrain p) s = .next (u.journalise o 0x201 p.tag.toNat (paramChange p)
      (some (p.path, { tag := p.tag, status := stOk, detail := 0, result := [] })) (undoOf (s.begun p) u)) := by
  have he : exec (.portTrain p) s = .next (runCmd portTrainDef p s) := rfl
  rw [he, runCmd_accepted ha, hact]
  exact congrArg Host.Outcome.next (State.conclude_logged rfl (by decide) (List.cons_ne_nil _ _) (Nat.zero_le _))

/-- A LANESET's start lists no command and ends none (R187). -/
theorem State.startLaneset_proctor (s : State) (q : Nat) (pos : List Nat) (rate : Nat) (run : Option Nat) :
    (s.startLaneset q pos rate run).proctor = s.proctor := by
  have hwake : (s.wakeTx q).proctor = s.proctor := by
    unfold State.wakeTx
    split
    · rw [State.emit_proctor, State.setF_proctor, State.updLink_proctor]
    · rfl
  rw [State.startLaneset, State.enqueue, State.updLink_proctor, State.setF_proctor, State.updLink_proctor, hwake]

/-- PORT_LANESET, accepted: its LANESET starts and holds its reply (R190). -/
theorem portLaneset_accepted {p : Packet} {s : State} {o : Nat} (ha : s.accepts portLanesetDef p o) :
    let b := s.begun p
    exec (.portLaneset p) s = .next ((b.startLaneset p.unit (lanesetPos p) (p.w 1) (some b.proctor.nextId)).startsRunning b portLanesetDef p o) := by
  intro b
  have hp := b.startLaneset_proctor p.unit (lanesetPos p) (p.w 1) (some b.proctor.nextId)
  have he : exec (.portLaneset p) s = .next (runCmd portLanesetDef p s) := rfl
  have hact : portLanesetDef.act b p o b.proctor.nextId =
      .later (b.startLaneset p.unit (lanesetPos p) (p.w 1) (some b.proctor.nextId)) := rfl
  rw [he, runCmd_accepted ha, show s.begun p = b from rfl, hact, State.startsRunning]
  simp only [State.updPr, hp]

/-- The path of a link's in-band packets (R70). -/
def viaPath : Via → Sys2Proof.Path
  | .port p => .port p
  | .site k => .site k

/-- An in-band packet that the link has received whole (R70, R182). -/
theorem cmdPacket_taken {v : Via} {bytes : List Byte} {f : Flit} {s : State}
    (hf : (s.link v.code).rxq.find? (fun f => decide (f.type = .cmd) && decide (f.payload = bytes)) = some f) :
    exec (.cmdPacketAssembled v bytes) s =
      if 4 ≤ ((s.updLink v.code (fun l => { l with rxq := l.rxq.erase f })).link v.code).inband.length then
        .next ((s.updLink v.code (fun l => { l with rxq := l.rxq.erase f })).enqueue v.code (cmdFlits true
          (Reply.bytes { tag := BitVec.ofNat 16 (leAt bytes 4 2), status := stBusy, detail := 0, result := [] } 0)))
      else .next (((s.updLink v.code (fun l => { l with rxq := l.rxq.erase f })).updLink v.code (fun l => { l with
        inband := l.inband ++ [leAt bytes 4 2] })).updPr (fun pr => { pr with portQ := pr.portQ ++ [{ path := viaPath v, bytes := bytes }] })) := by
  cases v
  all_goals
    dsimp only [exec, execCmdPacketAssembled]
    rw [hf]
    rfl

end Sys2Proof.Machine

open Sys2Proof Sys2Proof.Machine

/-- Settles O30: the in-band packet, the two commands of a port, and its reset. -/
theorem portCommands : Obligations.PortCommands := by
  unfold Obligations.PortCommands
  refine ⟨fun v bytes f s => ?_, fun p s o => ?_, fun p s id hid => ?_⟩
  · intro q path s1 hf
    rw [cmdPacket_taken hf, show viaPath v = path by cases v <;> rfl]
    exact ⟨fun hlt => if_neg (Nat.not_le.2 hlt), fun hge => if_pos hge⟩
  · intro b q logged
    have hact : portTrainDef.act b p o b.proctor.nextId = .now (if p.w 0 = 0 then b.fastRetrain q
        else if b.f (F.LINK_STAT_STATE q) = 3 then b.downAndTrain q
        else ((b.setFs [(F.LINK_STAT_STATE q, 1), (F.LINK_STAT_CONFLICT q, 0)]).updLink q (fun l => { l with train := none })).startFull q)
        stOk 0 [] (paramChange p) := rfl
    refine ⟨fun ha => ⟨fun h0 => ?_, fun h0 h3 => ?_, fun h0 h3 => ?_⟩, portLaneset_accepted⟩
    · rw [if_pos h0] at hact
      exact portTrain_accepted ha hact
    · rw [if_neg h0, if_pos h3] at hact
      exact portTrain_accepted ha hact
    · rw [if_neg h0, if_neg h3] at hact
      exact portTrain_accepted ha hact
  · have he : exec (.portReset p) s = execPortReset p s := rfl
    rw [he, execPortReset, hid]
end

section
/-! SUPPORT. The Proctor's rounds, a torn packet, and the end of a running command (R55, R58, R60, R63, R72). -/

namespace Sys2Proof.Machine

/-! ### Rounds (R72) -/

theorem State.nextPlace_none {s : State} (h : ∀ c, s.waitingAt c = none) (l : List Nat) : s.nextPlace l = none := by
  induction l with
  | nil => rfl
  | cons c l ih => rw [State.nextPlace, h c, ih]

theorem exec_takePacket_idle {s : State} (h : ∀ c, s.waitingAt c = none) : exec .proctorTakePacket s = .next s := by
  have he : exec .proctorTakePacket s = execProctorTakePacket s := rfl
  rw [he, execProctorTakePacket, State.nextPlace_none h, State.nextPlace_none h]

/-- A packet at the head of the chain queue that the Proctor may take is what waits at the round's first place. -/
theorem State.waitingAt_chain {s : State} {r : RawPacket} {rest : List RawPacket} (hq : s.proctor.chainQ = r :: rest)
    (hl : s.listens r.path = true) (hf : s.fenceWaits r.path r.bytes = false) : s.waitingAt 0 = some r := by
  unfold State.waitingAt
  simp [hq, hl, hf]

/-- With no round under way, the chain's packet is taken first (R72). -/
theorem exec_takePacket_chain {s : State} {r : RawPacket} {rest : List RawPacket} (hr : s.proctor.round = []) (hq : s.proctor.chainQ = r :: rest)
    (hl : s.listens r.path = true) (hf : s.fenceWaits r.path r.bytes = false) : exec .proctorTakePacket s =
      .next ((s.updPr (fun pr => { pr with round := s.newRound.drop 1, chainQ := rest })).runPacket r.path r.bytes) := by
  have he : exec .proctorTakePacket s = execProctorTakePacket s := rfl
  have hnew : s.newRound = 0 :: s.newRound.drop 1 := rfl
  have hnext : s.nextPlace s.newRound = some (0, r, s.newRound.drop 1) := by
    rw [hnew, State.nextPlace, State.waitingAt_chain hq hl hf]
    rfl
  rw [he, execProctorTakePacket, hr, State.nextPlace, hnext]
  simp only [State.takeAt, State.updPr, hq, if_true, List.drop_one, List.tail_cons]

theorem State.runPacket_fault {s : State} {path : Sys2Proof.Path} {bs : List Byte} {st det : Nat} (h : earlyFault path bs = some (st, det)) :
    s.runPacket path bs = s.answer (parsePacket path bs) st det := by
  simp only [State.runPacket, h]

theorem State.runPacket_command {s : State} {path : Sys2Proof.Path} {bs : List Byte} {d : CmdDef} (h : earlyFault path bs = none)
    (hd : cmdDef (leAt bs 0 2) = some d) : s.runPacket path bs = s.dispatch d (parsePacket path bs) := by
  simp only [State.runPacket, h, hd]

/-! ### A torn packet (R60, R63) -/

/-- A ring write leaves the fields beside CQ_TAIL and CQ_FULL, and the Proctor. -/
theorem State.ringWrite_frame {s : State} (h : s.canonical) (q : Queue) (r : Reply) :
    (s.ringWrite q.val r).canonical ∧ (s.ringWrite q.val r).proctor = s.proctor ∧
    ∀ y : Fld, y.apart (F.Q_STAT_CQ_TAIL q.val) → y.apart (F.Q_STAT_CQ_FULL q.val) → (s.ringWrite q.val r).f y = s.f y := by
  refine ⟨((Kept.refl s).ringWrite ..).2 h, ?_, fun y ht hf => ?_⟩
  · rcases s.ringWrite_eq q.val r with he | ⟨o, he⟩
    · rw [he]; rfl
    · rw [he, State.emit_proctor]; rfl
  · have hstored : (s.ringStored q.val r).f y = s.f y := by
      rw [State.ringStored, State.updQu_f]
      have hw : ({ s with host := Memory.write s.host (s.ringEntry q.val) (r.bytes (s.ringWord q.val)) } : State).canonical :=
        ⟨h.1, h.2.1, Memory.wf_write h.2.2.1 .., h.2.2.2⟩
      exact State.f_setF_ne hw ht _
    have hshown := ((State.showFull_spec (State.ringStored_spec h q.val r).1 q.isLt).2.2 y hf).trans hstored
    rcases s.ringWrite_eq q.val r with he | ⟨o, he⟩
    · rw [he, hshown]
    · rw [he, State.emit_f, hshown]

/-- A host packet that reaches past the tail is answered, and halts its queue with SQ_HEAD where it is (R60, R63). -/
theorem State.takeHost_torn {s : State} (h : s.canonical) {q : Queue} {bs : List Byte} (hs : s.b F.Q_GLOBAL_SWITCHOVER = false)
    (h1 : s.f (F.Q_STAT_STATE q.val) = 1) (hf : s.cqFull q.val = false) (hh : (s.qu q.val).held = [])
    (ht : (s.f (F.QDB_SQ_TAIL_TAIL q.val) + 4096 - s.f (F.Q_STAT_SQ_HEAD q.val)) % 4096 < entriesOf (leAt bs 8 4)) :
    let t := s.takeHost q.val bs
    t.f (F.Q_STAT_STATE q.val) = 2 ∧ t.f (F.Q_ERR_TORN q.val) = 1 ∧ t.f (F.Q_STAT_SQ_HEAD q.val) = s.f (F.Q_STAT_SQ_HEAD q.val) ∧
    t.proctor = s.proctor ∧ t.dram = s.dram := by
  have hq : Fin.ofNat 16 q.val = q := Fin.ofNat_val_eq_self q
  have hd : s.dropsReplies q.val = false := by simp [State.dropsReplies, h1]
  generalize hdet : (if 4064 < leAt bs 8 4 then 4096 else 32 + leAt bs 8 4) = det
  generalize hr : ({ tag := (parsePacket (.host q) bs).tag, status := stLength, detail := det, result := [] } : Reply) = r
  have hsent : s.answer (parsePacket (.host q) bs) stLength det = s.ringWrite q.val r := by
    subst hr
    exact (State.postFinal_now hs).trans (State.sendReply_room hd hf hh)
  have htaken : s.takeHost q.val bs = (s.ringWrite q.val r).setFs [(F.Q_ERR_TORN q.val, 1), (F.Q_STAT_STATE q.val, 2)] := by
    unfold State.takeHost
    dsimp only
    rw [if_pos ht, hq, hdet, hsent]
  obtain ⟨hc, hpr, hframe⟩ := State.ringWrite_frame h q r
  have hne : R.Q_STAT q.val ≠ R.Q_ERR q.val := by simp [R.Q_STAT, R.Q_ERR]
  intro t
  let l := [(F.Q_ERR_TORN q.val, 1), (F.Q_STAT_STATE q.val, 2)]
  have ht' : t = (s.ringWrite q.val r).setFs l := htaken
  rw [ht']
  refine ⟨?_, ?_, ?_, ?_, ?_⟩
  · exact State.f_setFs_at hc l 1 rfl (by simp [F.Q_STAT_STATE]) (by simp [l])
  · exact State.f_setFs_at hc l 0 rfl (by simp [F.Q_ERR_TORN]) (by simp [l, Fld.apart, F.Q_ERR_TORN, F.Q_STAT_STATE])
  · rw [State.f_setFs_ne hc _ (by simp [l, Fld.apart, F.Q_STAT_SQ_HEAD, F.Q_ERR_TORN, F.Q_STAT_STATE, hne])]
    exact hframe _ (.inr (by simp [F.Q_STAT_SQ_HEAD, F.Q_STAT_CQ_TAIL])) (.inr (by simp [F.Q_STAT_SQ_HEAD, F.Q_STAT_CQ_FULL]))
  · rw [State.setFs_proctor, hpr]
  · rw [State.setFs_dram]
    exact (State.ringWrite_spec h q (by subst hr; exact Nat.zero_le _)).2.2.2.2.2.2.1

/-! ### The end of a running command (R55) -/

section
variable {path : Sys2Proof.Path} {tag : BitVec 16} {meas : List Byte} {g : Option GangReply} {s : State} {r : Running} {f : Finish}

theorem exec_commandComplete_none (h : s.proctor.running.find? (fun r => decide (r.pkt.path = path) && r.pkt.tag == tag) = none) :
    exec (.commandComplete path tag meas g) s = .next s := by
  have he : exec (.commandComplete path tag meas g) s = execCommandComplete path tag meas g s := rfl
  rw [he, execCommandComplete, h]

/-- Is an ended command journaled: its opcode is, and this module ran it (R79, R447)? -/
def Running.logged (r : Running) : Bool :=
  decide (r.pkt.member = 0) && (match cmdDef r.opcode with | some d => d.journaled | none => false)

/-- A running command taken off the list. -/
def State.unlisted (s : State) (r : Running) : State :=
  s.updPr (fun pr => { pr with running := pr.running.filter (fun x => x.id != r.id) })

theorem exec_commandComplete (h : s.proctor.running.find? (fun r => decide (r.pkt.path = path) && r.pkt.tag == tag) = some r)
    (hf : r.fin = some f) (hr : s.running r.id = some r) : exec (.commandComplete path tag meas g) s =
      .next ((s.unlisted r).conclude r.opcode r.origin r.logged r.pkt f.status f.detail f.result f.changes f.undo) := by
  have he : exec (.commandComplete path tag meas g) s = execCommandComplete path tag meas g s := rfl
  have ho : s.outcome r meas g = s := if_pos (by simp [hf])
  rw [he, execCommandComplete, h]
  dsimp only
  rw [ho, hr, Option.bind_some, hf]
  rfl

/-- The end of a command that no twin mirrors, with a result that its reply carries. -/
theorem State.conclude_inline {u : State} {p : Packet} {o code st det : Nat} {j : Bool} {res : List Byte} {ch : List JChange} {un : Undo}
    (hm : mirroredKind code = none) (h1 : code ≠ 0x101) (h2 : code ≠ 0x102) (hl : res.length ≤ u.inlineLimit p.path) :
    u.conclude code o j p st det res ch un = if j && st == stOk && !ch.isEmpty then
        u.journalise o code p.tag.toNat ch (some (p.path, { tag := p.tag, status := st, detail := det, result := res })) un
      else u.postFinal p.path { tag := p.tag, status := st, detail := det, result := res } := by
  simp [State.conclude, State.place_inline st det hl, hm, h1, h2, State.settle]

end

end Sys2Proof.Machine

open Sys2Proof Sys2Proof.Machine

/-- Settles O16: the chain's packet, the idle round, the torn packet, and the end of a command. -/
theorem proctorRounds : Obligations.ProctorRounds := by
  unfold Obligations.ProctorRounds
  refine ⟨fun s r rest hr hq hl hf => ?_, fun s h => exec_takePacket_idle h, fun s q bs h hs h1 hf hh ht => State.takeHost_torn h hs h1 hf hh ht,
    fun path tag meas g s r f h hf hr => ?_, fun path tag meas g s h => exec_commandComplete_none h⟩
  · intro u p
    have he := exec_takePacket_chain hr hq hl hf
    refine ⟨fun st det hst => ?_, fun d hst hd => ?_⟩
    · rw [he, State.runPacket_fault hst]
    · rw [he, State.runPacket_command hst hd]
      rfl
  · intro u logged
    have he := exec_commandComplete (meas := meas) (g := g) h hf hr
    refine ⟨he, fun hm h1 h2 hlen => ?_⟩
    obtain ⟨hpath, htag⟩ : r.pkt.path = path ∧ r.pkt.tag = tag := by simpa using List.find?_some h
    subst hpath htag
    intro reply
    have hend := State.conclude_inline (u := s.unlisted r) (o := r.origin) (st := f.status) (det := f.detail) (j := r.logged) (ch := f.changes)
      (un := f.undo) hm h1 h2 hlen
    exact he.trans (congrArg Host.Outcome.next hend)
end

section
/-! SUPPORT. The change journal's flash: an entry written, lost or undone, and the entry of a gap (R80 to R82). -/

namespace Sys2Proof.Machine

/-! ### What changes nothing but registers -/

theorem State.onlyRegs.refl (s : State) : s.onlyRegs s := rfl

theorem State.onlyRegs.eq {s t : State} (h : s.onlyRegs t) : t = { s with regs := t.regs } := h

theorem State.onlyRegs.trans {s t u : State} (h : s.onlyRegs t) (k : t.onlyRegs u) : s.onlyRegs u := by
  unfold State.onlyRegs at *
  rw [k, h]

theorem State.onlyRegs.setF {s t : State} (h : s.onlyRegs t) (x : Fld) (v : Nat) : s.onlyRegs (t.setF x v) :=
  h.trans (show t.onlyRegs (t.setF x v) from rfl)

theorem State.onlyRegs.setPair {s t : State} (h : s.onlyRegs t) (lo hi : Fld) (v : Nat) : s.onlyRegs (t.setPair lo hi v) :=
  (h.setF lo _).setF hi _

theorem State.onlyRegs.each {α : Type} {s t : State} (h : s.onlyRegs t) (l : List α) (f : State → α → State)
    (hf : ∀ x u, s.onlyRegs u → s.onlyRegs (f u x)) : s.onlyRegs (t.each l f) := by
  unfold State.each
  induction l generalizing t with
  | nil => exact h
  | cons a l ih => exact ih (hf a t h)

theorem State.onlyRegs.journal {s t : State} (h : s.onlyRegs t) : t.journal = s.journal := by rw [h.eq]

theorem State.onlyRegs.pool {s t : State} (h : s.onlyRegs t) : t.pool = s.pool := by rw [h.eq]

theorem State.onlyRegs.keepsMemory {s t : State} (h : s.onlyRegs t) : s.keepsMemory t := by
  have hsq : t.sq = s.sq := by rw [h.eq]
  have hhost : t.host = s.host := by rw [h.eq]
  have hdram : t.dram = s.dram := by rw [h.eq]
  exact fun a => ⟨by rw [hsq], by rw [hhost], by rw [hdram]⟩

/-- What each step of an iteration leaves, the iteration leaves. -/
theorem State.each_keeps {α β : Type} (g : State → β) (s : State) (l : List α) (f : State → α → State)
    (hf : ∀ x u, g (f u x) = g u) : g (s.each l f) = g s := by
  unfold State.each
  induction l generalizing s with
  | nil => rfl
  | cons a l ih => exact (ih (f s a)).trans (hf a s)

/-! ### An entry written (R80, R81) -/

/-- The entry that a waiting one becomes. -/
def State.writtenEntry (s : State) (p : JPending) : JEntry where
  seq := s.journal.count
  bell := p.bell
  origin := p.origin
  opcode := p.opcode
  target := p.target
  offset := p.offset
  tag := p.tag
  oldDigest := p.oldDigest
  newDigest := p.newDigest
  link := s.headHash

/-- The journal with an entry more, the oldest overwritten when full. -/
def State.journalWith (s : State) (p : JPending) : Journal :=
  { s.journal with
    entries := (if 1048576 ≤ s.journal.entries.length then s.journal.entries.drop 1 else s.journal.entries) ++ [s.writtenEntry p]
    count := s.journal.count + 1 }

/-- An entry written changes the journal so, and registers. -/
theorem State.appendEntry_onlyRegs (s : State) (p : JPending) :
    ({ s with journal := s.journalWith p } : State).onlyRegs (s.appendEntry p) := by
  unfold State.appendEntry
  simp only [decide_eq_true_eq]
  split
  · next hfull =>
    refine .setF (.each (.setPair (.setPair ?_ ..) ..) _ _ fun i u hu => hu.setF ..) ..
    unfold State.onlyRegs State.journalWith
    rw [if_pos hfull]
    rfl
  · next hfull =>
    refine .each (.setPair (.setPair ?_ ..) ..) _ _ fun i u hu => hu.setF ..
    unfold State.onlyRegs State.journalWith
    rw [if_neg hfull]
    rfl

theorem State.appendEntry_journal (s : State) (p : JPending) : (s.appendEntry p).journal = s.journalWith p :=
  (s.appendEntry_onlyRegs p).journal

/-! ### A change put back (R82) -/

/-- Putting a change back leaves the journal and what the module sends. -/
theorem State.undo_keeps (s : State) (u : Undo) : (s.undo u).journal = s.journal ∧ (s.undo u).out = s.out := by
  unfold State.undo
  dsimp only
  constructor
  · refine (State.each_keeps State.journal _ u.sources _ (by intros; rfl)).trans ?_
    refine (State.each_keeps State.journal _ u.maps _ (by intros; rfl)).trans ?_
    refine (State.each_keeps State.journal _ u.detained _ (by intros; rfl)).trans ?_
    exact State.each_keeps State.journal _ u.regs _ (by intros; rfl)
  · refine (State.each_keeps State.out _ u.sources _ (by intros; rfl)).trans ?_
    refine (State.each_keeps State.out _ u.maps _ (by intros; rfl)).trans ?_
    refine (State.each_keeps State.out _ u.detained _ (by intros; rfl)).trans ?_
    exact State.each_keeps State.out _ u.regs _ (by intros; rfl)

/-! ### The three events (R82) -/

theorem exec_journalEntryDurable {s : State} {e : JPending} {rest : List JPending} (h : s.journal.waiting = e :: rest) :
    let t := ({ s with journal := { s.journal with waiting := rest } } : State).appendEntry e
    (e.reply = none → exec .journalEntryDurable s = .next t) ∧
    ∀ path r, e.reply = some (path, r) → exec .journalEntryDurable s =
      .next (if e.opcode = 0xB10 && r.status == stOk then (t.postFinal path r).enterM1 else t.postFinal path r) := by
  have he : exec .journalEntryDurable s = execJournalEntryDurable s := rfl
  intro t
  refine ⟨fun hn => ?_, fun path r hs => ?_⟩
  · rw [he, execJournalEntryDurable, h]
    dsimp only
    rw [hn]
  · rw [he, execJournalEntryDurable, h]
    dsimp only
    rw [hs]

/-- The reply and the change that an entry's group holds. -/
def State.heldReply (s : State) (e : JPending) : Option ((Sys2Proof.Path × Reply) × Undo) :=
  (s.journal.waiting.filter (fun w => w.group == e.group)).findSome? (fun w => w.reply.map (fun r => (r, w.undo)))

theorem State.heldReply_none {s : State} {e : JPending} (h : ∀ w ∈ s.journal.waiting, w.group = e.group → w.reply = none) :
    s.heldReply e = none := by
  refine List.findSome?_eq_none_iff.2 fun w hw => ?_
  obtain ⟨hw, hg⟩ := List.mem_filter.1 hw
  rw [h w hw (by simpa using hg), Option.map_none]

theorem exec_journalWriteTimeout_lost {s : State} {e : JPending} {rest : List JPending} (h : s.journal.waiting = e :: rest)
    (hr : s.heldReply e = none) : exec .journalWriteTimeout s =
      .next { s with journal := { s.journal with waiting := rest, lost := s.journal.lost + 1 } } := by
  have he : exec .journalWriteTimeout s = execJournalWriteTimeout s := rfl
  unfold State.heldReply at hr
  rw [h] at hr
  rw [he, execJournalWriteTimeout, h]
  dsimp only
  rw [hr]

/-- A single entry that holds a reply is dropped, and its change is put back and noted (R82). -/
theorem exec_journalWriteTimeout_undone {s : State} {e : JPending} {path : Sys2Proof.Path} {r : Reply} (h : s.journal.waiting = [e])
    (hr : e.reply = some (path, r)) (ho : e.opcode ≠ 0x120) (hm : e.undo.maps = []) : exec .journalWriteTimeout s =
      .next (((({ s with journal := { s.journal with waiting := [] } } : State).undo e.undo).note 0x0 .journalLost 3 tgtModule e.opcode).postFinal path
        { tag := r.tag, status := stFault, detail := fsrcModule 1, result := [] }) := by
  have he : exec .journalWriteTimeout s = execJournalWriteTimeout s := rfl
  have hclk : (fun c : Clocks => if e.opcode = 0x120 && e.target = 0 then { c with resetDue := none } else c) = id := by
    funext c
    simp [ho]
  have hkept : [e].filter (fun w => w.group == e.group) = [e] := by simp
  have hdropped : [e].filter (fun w => w.group != e.group) = [] := by simp
  rw [he, execJournalWriteTimeout, h]
  dsimp only
  rw [hkept, hdropped]
  dsimp only [List.findSome?_cons]
  rw [hr]
  dsimp only [Option.map_some]
  rw [hm, hclk]
  rfl

end Sys2Proof.Machine

open Sys2Proof Sys2Proof.Machine

/-- Settles O20: the three events of the journal's flash, by what an entry written and a change put back leave as they were. -/
theorem journalDurability : Obligations.JournalDurability := by
  unfold Obligations.JournalDurability
  refine ⟨fun s e rest _ hw => ?_, fun s e rest hw hn => ?_, fun s e path r hw hr ho hm => ?_, fun s h hl => ?_⟩
  · obtain ⟨hnone, hsome⟩ := exec_journalEntryDurable hw
    let s0 : State := { s with journal := { s.journal with waiting := rest } }
    have honly := s0.appendEntry_onlyRegs e
    have hj := s0.appendEntry_journal e
    refine ⟨_, hnone, fun path r hr => ⟨fun hd => ?_, fun ho hk => ?_⟩, congrArg Journal.waiting hj, congrArg Journal.count hj,
      ⟨s0.writtenEntry e, congrArg Journal.entries hj, rfl, rfl, rfl, rfl, rfl, rfl, rfl⟩, honly.keepsMemory, honly.pool⟩
    · rw [hsome path r hr, if_neg (by simpa [imp_iff_not_or] using hd)]
    · rw [hsome path r hr, if_pos (by simp [ho, hk])]
  · exact ⟨_, exec_journalWriteTimeout_lost hw (State.heldReply_none hn), rfl, rfl, rfl, rfl, rfl, rfl⟩
  · let s0 : State := { s with journal := { s.journal with waiting := [] } }
    obtain ⟨honly, hregs⟩ := (s0.undo e.undo).note_logged 0x0 .journalLost 3 tgtModule e.opcode
    generalize hu : (s0.undo e.undo).note 0x0 .journalLost 3 tgtModule e.opcode = u at honly hregs
    have hj : u.journal = s0.journal := (congrArg State.journal honly).trans (s0.undo_keeps e.undo).1
    have hs : ({ s with journal := u.journal } : State) = s0 := by rw [hj]
    refine ⟨u, ?_, congrArg Journal.waiting hj, (congrArg State.out honly).trans (s0.undo_keeps e.undo).2, ?_, ?_⟩
    · rw [← hu]
      exact exec_journalWriteTimeout_undone hw hr ho hm
    · rw [hs]
      exact honly
    · rw [hs]
      exact hregs
  · let gap : JPending := { group := 0, bell := s.bell, origin := 0, opcode := 0xFFFD, target := 0, offset := s.journal.lost, tag := 0,
                            oldDigest := zeros 32, newDigest := zeros 32, reply := none, undo := {} }
    have hj := s.appendEntry_journal gap
    have hc : (s.appendEntry gap).canonical := ((Kept.refl s).appendEntry gap).2 h
    generalize ha : s.appendEntry gap = a at hj hc
    let u : State := { a with journal := { a.journal with lost := 0 } }
    have he : exec .journalFlashRecover s = execJournalFlashRecover s := rfl
    refine ⟨u.setF F.JRNL_STAT_GAP 1, ?_, rfl, State.f_setF_same (s := u) hc.rising _ _ (by simp [F.JRNL_STAT_GAP]), ?_, s.writtenEntry gap, ?_, rfl, rfl⟩
    · rw [he, execJournalFlashRecover, if_neg hl]
      dsimp only
      rw [ha]
    · exact (congrArg Journal.waiting hj : a.journal.waiting = (s.journalWith gap).waiting)
    · rw [show (u.setF F.JRNL_STAT_GAP 1).journal.entries = a.journal.entries from rfl, hj]
      exact List.getLast?_concat ..
end

section
/-! SUPPORT. A change put back by the difference of two states (R82). -/

namespace Sys2Proof.Machine

/-! ### Tables -/

theorem Map.mem_keys {α : Type} {k : Nat} {m : List (Nat × α)} (h : Map.find k m ≠ none) : k ∈ Map.keys m := by
  induction m with
  | nil => exact absurd rfl h
  | cons e m ih =>
    by_cases hk : k = e.1
    · exact hk ▸ List.mem_cons_self ..
    · refine List.mem_cons_of_mem _ (ih ?_)
      simpa [Map.find, hk] using h

/-- A difference gives at each of its keys what the first table gives there. -/
theorem Map.diff_val {α : Type} [DecidableEq α] {old new : List (Nat × α)} : ∀ e ∈ Map.diff old new, e.2 = Map.find e.1 old := by
  intro e he
  obtain ⟨k, -, rfl⟩ := List.mem_map.1 he
  rfl

/-- Where a difference has no key, the tables agree. -/
theorem Map.diff_covers {α : Type} [DecidableEq α] (old new : List (Nat × α)) (k : Nat) :
    Map.find k new = Map.find k old ∨ k ∈ Map.keys (Map.diff old new) := by
  by_cases h : Map.find k old = Map.find k new
  · exact .inl h.symm
  · have hk : k ∈ Map.keys old ∨ k ∈ Map.keys new := by
      by_cases ho : Map.find k old = none
      · exact .inr (Map.mem_keys (fun hn => h (ho.trans hn.symm)))
      · exact .inl (Map.mem_keys ho)
    right
    simpa [Map.keys, Map.diff, h] using hk

/-- Undoing gives every key its old value that had it, or that the list names with it. -/
theorem Map.find_undo {α : Type} {old m : List (Nat × α)} {l : List (Nat × Option α)} {k : Nat} (hm : Map.rising m = true)
    (hl : ∀ e ∈ l, e.2 = Map.find e.1 old) (hk : Map.find k m = Map.find k old ∨ k ∈ Map.keys l) :
    Map.find k (Map.undo m l) = Map.find k old := by
  induction l generalizing m with
  | nil => exact hk.resolve_right (List.not_mem_nil)
  | cons e l ih =>
    obtain ⟨j, v⟩ := e
    have hv : v = Map.find j old := hl _ (List.mem_cons_self ..)
    have ht : ∀ e ∈ l, e.2 = Map.find e.1 old := fun e he => hl e (List.mem_cons_of_mem _ he)
    have hrest : ∀ m', (k = j → Map.find k m' = Map.find k old) → (k ≠ j → Map.find k m' = Map.find k m) →
        Map.find k m' = Map.find k old ∨ k ∈ Map.keys l := by
      intro m' hs hn
      by_cases hj : k = j
      · exact .inl (hs hj)
      · rw [hn hj]
        exact hk.imp_right fun h => (List.mem_cons.1 h).resolve_left hj
    cases v with
    | none => exact ih (Map.rising_del hm) ht (hrest _ (fun hj => by rw [hj, Map.find_del_same hm, hv]) fun hj => Map.find_del_ne hj m)
    | some v => exact ih (Map.rising_put hm) ht (hrest _ (fun hj => by rw [hj, Map.find_put_same, hv]) fun hj => Map.find_put_ne hj v m)

theorem Map.find_undo_diff {α : Type} [DecidableEq α] {old new : List (Nat × α)} (h : Map.rising new = true) (k : Nat) :
    Map.find k (Map.undo new (Map.diff old new)) = Map.find k old :=
  Map.find_undo h Map.diff_val (Map.diff_covers old new k)

/-! ### Registers -/

/-- One register put back. -/
def State.putBack (s : State) (e : Nat × Option Word) : State := s.wr e.1 (e.2.getD (regDefault e.1))

/-- Writing old values back gives a register its old value that had it, or that the list names with it. -/
theorem State.rd_putBack {old s : State} {l : List (Nat × Option Word)} {off : Nat} (hs : s.canonical)
    (hl : ∀ e ∈ l, e.2 = Map.find e.1 old.regs) (hk : s.rd off = old.rd off ∨ off ∈ Map.keys l) :
    (s.each l State.putBack).rd off = old.rd off := by
  unfold State.each
  induction l generalizing s with
  | nil => exact hk.resolve_right (List.not_mem_nil)
  | cons e l ih =>
    have hv : e.2 = Map.find e.1 old.regs := hl _ (List.mem_cons_self ..)
    refine ih (State.wr_canonical hs _ _) (fun e he => hl e (List.mem_cons_of_mem _ he)) ?_
    by_cases hj : off = e.1
    · left
      rw [hj, State.putBack, State.rd_wr_same hs.rising, hv, State.rd]
    · rw [State.putBack, State.rd_wr_ne hj]
      exact hk.imp_right fun h => (List.mem_cons.1 h).resolve_left hj

/-! ### Detention -/

/-- The Detention of one tile's channels put back. -/
def State.redetain (s : State) (e : Nat × List Nat) : State := s.updBl e.1 (fun b => { b with detained := e.2 })

theorem State.redetain_rising {s : State} (h : Map.rising s.blk = true) (e : Nat × List Nat) : Map.rising (s.redetain e).blk = true := by
  unfold State.redetain State.updBl
  dsimp only
  exact Map.rising_upd h _ _

theorem State.detained_redetain_same {s : State} (h : Map.rising s.blk = true) (e : Nat × List Nat) :
    ((s.redetain e).bl e.1).detained = e.2 := by
  unfold State.redetain State.updBl State.bl
  rw [Map.get_upd_same h]

theorem State.bl_redetain_ne {s : State} {n : Nat} {e : Nat × List Nat} (h : n ≠ e.1) : (s.redetain e).bl n = s.bl n := by
  unfold State.redetain State.updBl State.bl
  rw [Map.get_upd_ne h]

/-- Redetaining gives a tile its old list that had it, or that the list names with it. -/
theorem State.detained_redetain {s : State} {d : Nat → List Nat} {l : List (Nat × List Nat)} {n : Nat} (hs : Map.rising s.blk = true)
    (hl : ∀ e ∈ l, e.2 = d e.1) (hk : (s.bl n).detained = d n ∨ n ∈ Map.keys l) : ((s.each l State.redetain).bl n).detained = d n := by
  unfold State.each
  induction l generalizing s with
  | nil => exact hk.resolve_right (List.not_mem_nil)
  | cons e l ih =>
    have hv : e.2 = d e.1 := hl _ (List.mem_cons_self ..)
    refine ih (State.redetain_rising hs e) (fun e he => hl e (List.mem_cons_of_mem _ he)) ?_
    by_cases hj : n = e.1
    · left
      rw [hj, State.detained_redetain_same hs, hv]
    · rw [State.bl_redetain_ne hj]
      exact hk.imp_right fun h => (List.mem_cons.1 h).resolve_left hj

/-- The tiles whose Detention differs, each with its old list. -/
theorem undoOf_detained (old new : State) : (∀ e ∈ (undoOf old new).detained, e.2 = (old.bl e.1).detained) ∧
    ∀ n : Tile, (new.bl n.val).detained = (old.bl n.val).detained ∨ n.val ∈ Map.keys (undoOf old new).detained := by
  refine ⟨fun e he => ?_, fun n => ?_⟩
  · obtain ⟨t, -, rfl⟩ := List.mem_map.1 he
    rfl
  · by_cases h : (old.bl n.val).detained = (new.bl n.val).detained
    · exact .inl h.symm
    · right
      simp [Map.keys, undoOf, h, allTiles]

/-! ### Single values -/

/-- An old value kept where it differs from the new one is restored. -/
theorem getD_ite_none {α : Type} [DecidableEq α] (a b : α) : (if a = b then none else some a : Option α).getD b = a := by
  by_cases h : a = b <;> simp [h]

theorem undoOf_current (old new : State) :
    (undoOf old new).current.getD (new.sec.ucode, new.sec.manifest) = (old.sec.ucode, old.sec.manifest) := by
  by_cases h : old.sec.ucode = new.sec.ucode ∧ old.sec.manifest = new.sec.manifest
  · rw [undoOf, if_pos h, Option.getD_none, h.1, h.2]
  · rw [undoOf, if_neg h, Option.getD_some]

/-- The twin and gang identity put back. -/
def Twin.withRoles (w : Twin) (o : Option (Option (List Byte) × Option (Bool × Nat × Nat × Nat))) : Twin :=
  match o with
  | some (i, g) => { w with identity := i, gangNext := g }
  | none => w

theorem undoOf_roles (old new : State) : (new.twin.withRoles (undoOf old new).roles).identity = old.twin.identity ∧
    (new.twin.withRoles (undoOf old new).roles).gangNext = old.twin.gangNext := by
  by_cases h : old.twin.identity = new.twin.identity ∧ old.twin.gangNext = new.twin.gangNext
  · rw [undoOf, if_pos h]
    exact ⟨h.1.symm, h.2.symm⟩
  · rw [undoOf, if_neg h]
    exact ⟨rfl, rfl⟩

/-! ### The whole state -/

/-- The registers and the Detention put back: what the rest of an undo starts from. -/
def State.restored (old new : State) : State := (new.each (undoOf old new).regs State.putBack).each (undoOf old new).detained State.redetain

/-- What neither the registers nor the Detention hold is as in the newer state. -/
theorem State.restored_keeps {β : Type} (g : State → β) (old new : State) (hr : ∀ s e, g (State.putBack s e) = g s)
    (hb : ∀ s e, g (State.redetain s e) = g s) : g (State.restored old new) = g new :=
  (State.each_keeps g _ _ _ (fun e s => hb s e)).trans (State.each_keeps g _ _ _ (fun e s => hr s e))

theorem State.restored_rd {old new : State} (h : new.canonical) (off : Nat) : (State.restored old new).rd off = old.rd off := by
  have hregs : (State.restored old new).rd off = (new.each (undoOf old new).regs State.putBack).rd off := State.each_rd _ _ _ fun _ _ _ => rfl
  refine hregs.trans (State.rd_putBack (old := old) h Map.diff_val ?_)
  refine (Map.diff_covers old.regs new.regs off).imp_left fun hf => ?_
  rw [State.rd, State.rd, hf]

theorem State.restored_detained {old new : State} (h : Map.rising new.blk = true) (n : Tile) :
    ((State.restored old new).bl n.val).detained = (old.bl n.val).detained := by
  obtain ⟨hval, hcov⟩ := undoOf_detained old new
  have hblk : (new.each (undoOf old new).regs State.putBack).blk = new.blk := State.each_keeps State.blk _ _ _ fun _ _ => rfl
  refine State.detained_redetain (d := fun k => (old.bl k).detained) (by rw [hblk]; exact h) hval ?_
  rw [State.bl, hblk]
  exact hcov n

end Sys2Proof.Machine

open Sys2Proof Sys2Proof.Machine

/-- Settles O21: each table, register and list by its difference. -/
theorem changeUndone : Obligations.ChangeUndone := by
  unfold Obligations.ChangeUndone
  intro old new _ hn hfam hregions hused hblk t
  have hpool : (State.restored old new).pool = new.pool := State.restored_keeps State.pool _ _ (fun _ _ => rfl) fun _ _ => rfl
  have hsec : (State.restored old new).sec = new.sec := State.restored_keeps State.sec _ _ (fun _ _ => rfl) fun _ _ => rfl
  have hmon : (State.restored old new).refmon = new.refmon := State.restored_keeps State.refmon _ _ (fun _ _ => rfl) fun _ _ => rfl
  have htwin : (State.restored old new).twin = new.twin := State.restored_keeps State.twin _ _ (fun _ _ => rfl) fun _ _ => rfl
  have hdram : t.dram = new.dram := State.restored_keeps State.dram _ _ (fun _ _ => rfl) fun _ _ => rfl
  have hhost : t.host = new.host := State.restored_keeps State.host _ _ (fun _ _ => rfl) fun _ _ => rfl
  have hsq : t.sq = new.sq := State.restored_keeps State.sq _ _ (fun _ _ => rfl) fun _ _ => rfl
  have htfam : t.pool.fam = Map.undo (State.restored old new).pool.fam (Map.diff old.pool.fam new.pool.fam) := rfl
  have htregions : t.pool.regions = Map.undo (State.restored old new).pool.regions (Map.diff old.pool.regions new.pool.regions) := rfl
  have htused : t.pool.used = Map.undo (State.restored old new).pool.used (Map.diff old.pool.used new.pool.used) := rfl
  rw [hpool] at htfam htregions htused
  refine ⟨State.restored_rd hn, fun i => ?_, fun i => ?_, fun k => ?_, State.restored_detained hblk, ?_, ?_, ?_, ?_, ?_, ?_, hdram, hhost, hsq⟩
  · rw [State.famEntry, State.famEntry, Map.get, Map.get, htfam, Map.find_undo_diff hfam]
  · rw [htregions, Map.find_undo_diff hregions]
  · rw [htused, Map.find_undo_diff hused]
  · have ht : t.sec.ucode = ((undoOf old new).current.getD ((State.restored old new).sec.ucode, (State.restored old new).sec.manifest)).1 := rfl
    rw [ht, hsec, undoOf_current]
  · have ht : t.sec.manifest = ((undoOf old new).current.getD ((State.restored old new).sec.ucode, (State.restored old new).sec.manifest)).2 := rfl
    rw [ht, hsec, undoOf_current]
  · have ht : t.refmon = (undoOf old new).refmon.getD (State.restored old new).refmon := rfl
    rw [ht, hmon, undoOf, getD_ite_none]
  · have ht : t.twin = (State.restored old new).twin.withRoles (undoOf old new).roles := rfl
    rw [ht, htwin, (undoOf_roles old new).1]
  · have ht : t.twin = (State.restored old new).twin.withRoles (undoOf old new).roles := rfl
    rw [ht, htwin, (undoOf_roles old new).2]
  · have ht : t.pool.marked = (undoOf old new).marked.getD (State.restored old new).pool.marked := rfl
    rw [ht, hpool, undoOf, getD_ite_none]
end

section
/-! SUPPORT. Direct writes of the registers that act: what is stored, what follows, and what the journal takes (R10, R77, R79). -/

namespace Sys2Proof.Machine

/-! ### The stored value -/

/-- A value put into a field above bit 0 leaves bit 0. -/
theorem Fld.ins_bit0 {x : Fld} (h : 0 < x.lo) (w : Word) (v : Nat) : (x.ins w v).getLsbD 0 = w.getLsbD 0 := by
  have hm : x.mask.getLsbD 0 = false := by
    rw [Fld.mask, BitVec.getLsbD_ofNat, Nat.testBit_shiftLeft]
    simp [Nat.ne_of_gt h]
  simp only [Fld.ins, BitVec.getLsbD_or, BitVec.getLsbD_and, BitVec.getLsbD_not, hm, Bool.not_false, Bool.and_true, Bool.and_false,
    Bool.or_false, Nat.zero_lt_succ, decide_true]

/-- Masking out nothing. -/
theorem and_not_zero (w : Word) : w &&& ~~~(0 : Word) = w := BitVec.and_allOnes

/-- A register whose bit 0 is RW, with no bound on it, stores that bit as written (R10). -/
theorem State.written_bit0 (s : State) {off : Nat} {pl : Place} {r : RegRow} (hrw : r.rw.testBit 0 = true) (hc : r.w1c = 0)
    (hf : fixedSev pl.rel = 0) (hcl : ∀ c ∈ clampsAt pl s.maxInput, 0 < c.1) (v : Word) :
    (s.written off pl r v).getLsbD 0 = v.getLsbD 0 := by
  unfold State.written
  dsimp only
  rw [hf, hc, ite_self, and_not_zero]
  generalize clampsAt pl s.maxInput = l at hcl
  have hfold : ∀ w : Word, (l.foldl (fun (w : Word) c => (⟨off, c.1, c.2.1⟩ : Fld).ins w
      (max c.2.2.1 (min c.2.2.2 ((⟨off, c.1, c.2.1⟩ : Fld).ext w)))) w).getLsbD 0 = w.getLsbD 0 := by
    induction l with
    | nil => exact fun _ => rfl
    | cons c l ih =>
      intro w
      rw [List.foldl_cons, ih (fun d hd => hcl d (List.mem_cons_of_mem _ hd))]
      exact Fld.ins_bit0 (x := ⟨off, c.1, c.2.1⟩) (hcl c (List.mem_cons_self ..)) _ _
  rw [hfold]
  have hbit : (BitVec.ofNat 32 r.rw).getLsbD 0 = true := by rw [BitVec.getLsbD_ofNat, hrw]; rfl
  have hnone : (BitVec.ofNat 32 0).getLsbD 0 = false := rfl
  simp only [BitVec.getLsbD_or, BitVec.getLsbD_and, BitVec.getLsbD_not, hbit, hnone, Bool.not_true, Bool.not_false, Bool.and_true,
    Bool.and_false, Bool.false_or, Nat.zero_lt_succ, decide_true]

/-- A register without bounds and W1C bits stores the RW bits as written and keeps the others (R10). -/
theorem State.written_plain (s : State) {off : Nat} {pl : Place} {r : RegRow} (hc : r.w1c = 0) (hf : fixedSev pl.rel = 0)
    (hcl : clampsAt pl s.maxInput = []) (v : Word) :
    s.written off pl r v = (s.rd off &&& ~~~ BitVec.ofNat 32 r.rw) ||| (v &&& BitVec.ofNat 32 r.rw) := by
  unfold State.written
  dsimp only
  rw [hf, hc, hcl, ite_self, and_not_zero, show v &&& BitVec.ofNat 32 0 = 0 from BitVec.and_zero, and_not_zero, List.foldl_nil]

/-- A value merged under a mask changes where it changes under the mask. -/
theorem merge_ne {old v m : Word} (h : (old &&& ~~~ m) ||| (v &&& m) ≠ old) : old &&& m ≠ ((old &&& ~~~ m) ||| (v &&& m)) &&& m := by
  refine fun he => h (BitVec.eq_of_getLsbD_eq fun i hi => ?_)
  have hb := congrArg (fun w : Word => w.getLsbD i) he
  simp only [BitVec.getLsbD_and, BitVec.getLsbD_or, BitVec.getLsbD_not, hi, decide_true, Bool.true_and] at hb ⊢
  cases ho : old.getLsbD i <;> cases hm : m.getLsbD i <;> cases hv : v.getLsbD i <;> simp_all

/-- Values that differ in bit 0 differ under a mask that has it. -/
theorem and_ne_of_bit0 {a b m : Word} (hm : m.getLsbD 0 = true) (h : a.getLsbD 0 ≠ b.getLsbD 0) : a &&& m ≠ b &&& m := by
  intro he
  have hb := congrArg (fun w : Word => w.getLsbD 0) he
  simp only [BitVec.getLsbD_and, hm, Bool.and_true] at hb
  exact h hb

/-! ### A write that acts -/

/-- A place that is no doorbell, no Q_CTL and no ring head. -/
def Place.plain (pl : Place) : Prop := (pl.tile = 48 ∧ pl.rel < 0x10000) ∨ (pl.tile < 48 ∧ ¬ (pl.port = 3 ∧ pl.rel = 0x70024))

/-- Storing a register that changes and that no twin mirrors: its effect follows, and the journal takes the change. -/
theorem State.storeReg_acts {s : State} {off : Nat} {pl : Place} {r : RegRow} {v new : Word} (hp : placeOf off = some pl)
    (hr : rowAtPlace pl = some r) (hh : s.hidden pl r = false) (hpl : pl.plain) (hm : (mirroredReg off && s.mirrors) = false)
    (hw : s.written off pl r v = new) (hne : s.rd off &&& BitVec.ofNat 32 r.rw ≠ new &&& BitVec.ofNat 32 r.rw) :
    s.storeReg off v = ((s.wr off new).afterWrite pl (s.rd off) new, [regChange off (s.rd off) new]) := by
  have h1 : (pl.tile = 48 && 0x10000 ≤ pl.rel && pl.rel < 0x10080) = false := by
    simp only [Bool.and_eq_false_iff, decide_eq_false_iff_not]
    rcases hpl with h | h <;> omega
  have h2 : (pl.tile = 48 && 0x10100 ≤ pl.rel && pl.rel < 0x10300 && (pl.rel - 0x10100) % 0x20 = 0) = false := by
    simp only [Bool.and_eq_false_iff, decide_eq_false_iff_not]
    rcases hpl with h | h <;> omega
  have h3 : (pl.tile < 48 && pl.port = 3 && pl.rel = 0x70024) = false := by
    simp only [Bool.and_eq_false_iff, decide_eq_false_iff_not]
    rcases hpl with h | h <;> omega
  unfold State.storeReg
  simp only [hp, hr, hh, h1, h2, h3, hw, hne, hm, Bool.false_eq_true, if_false, Bool.false_and]

/-- A direct write that no check turns away, of a register that changes (R79). -/
theorem State.busWrite_acts {s : State} {src : BusSrc} {off : Nat} {pl : Place} {r : RegRow} {v new : Word} (hb : s.busOk src = true)
    (ha : off % 4 = 0) (hp : placeOf off = some pl) (hs : s.sleepsAt off = false) (hst : s.standbyReg off = false)
    (hn : off = R.NODE_CFG → s.nodeRefused v = false)
    (hr : rowAtPlace pl = some r) (hh : s.hidden pl r = false) (hpl : pl.plain) (hm : (mirroredReg off && s.mirrors) = false)
    (hw : s.written off pl r v = new) (hne : s.rd off &&& BitVec.ofNat 32 r.rw ≠ new &&& BitVec.ofNat 32 r.rw) :
    s.busWrite src off v = ((s.wr off new).afterWrite pl (s.rd off) new).journalise src.origin 0xFFFF 0
      [regChange off (s.rd off) new] none {} := by
  have hq : sqArea off = false := by
    by_contra hq
    rw [placeOf_sqArea (by simpa using hq)] at hp
    exact absurd hp (by simp)
  have hd : doorbellOf off = none := by
    refine if_neg ?_
    simp only [Bool.and_eq_true, decide_eq_true_eq]
    intro hlt
    obtain rfl := Option.some.inj ((placeOf_module (off := off) (by omega)).symm.trans hp)
    rcases hpl with h | h <;> simp at h
    omega
  have hnode : (decide (off = R.NODE_CFG) && s.nodeRefused v) = false := by
    by_cases h : off = R.NODE_CFG
    · simp [hn h]
    · simp [h]
  unfold State.busWrite
  rw [State.storeReg_acts hp hr hh hpl hm hw hne]
  simp [hb, ha, hq, hs, hst, hnode, hd]

/-! ### NODE_CFG (R77) -/

/-- A write of NODE_CFG that R77 refuses is only noted. -/
theorem State.busWrite_node_refused {s : State} {src : BusSrc} {v : Word} (hb : s.busOk src = true) (hn : s.nodeRefused v = true) :
    s.busWrite src R.NODE_CFG v = s.note 0x0 .nodeCfgRefused 1 tgtModule := by
  obtain ⟨hq, hs, hst, -⟩ := s.module_open (off := R.NODE_CFG) (by decide)
  have ha : R.NODE_CFG % 4 = 0 := rfl
  unfold State.busWrite
  simp [hb, ha, hq, hs, hst, hn]

/-- A write of NODE_CFG that changes the node ID brings every port down and trains it again. -/
theorem State.busWrite_node {s : State} {src : BusSrc} {v new : Word} (hb : s.busOk src = true)
    (hnew : new = (s.rd R.NODE_CFG &&& ~~~(0x7FFF : Word)) ||| (v &&& 0x7FFF)) (hn : s.nodeRefused v = false) (hne : new ≠ s.rd R.NODE_CFG) :
    s.busWrite src R.NODE_CFG v = ((s.wr R.NODE_CFG new).renumber).journalise src.origin 0xFFFF 0
      [regChange R.NODE_CFG (s.rd R.NODE_CFG) new] none {} := by
  have hlt : R.NODE_CFG < 0x100000 := by decide
  have hp := placeOf_module hlt
  obtain ⟨-, hs, hst, hh⟩ := s.module_open hlt
  let r : RegRow := ⟨0x20, 0x4, 1, .N, 0x0, 0x7FFF, 0x0, .none⟩
  have hr : rowAtPlace ⟨48, 3, R.NODE_CFG⟩ = some r := by decide
  have hw : s.written R.NODE_CFG ⟨48, 3, R.NODE_CFG⟩ r v = new := by
    rw [hnew]
    exact s.written_plain rfl rfl rfl v
  have hmask : s.rd R.NODE_CFG &&& BitVec.ofNat 32 r.rw ≠ new &&& BitVec.ofNat 32 r.rw := by
    rw [hnew]
    exact merge_ne (m := 0x7FFF) (by rw [← hnew]; exact hne)
  have hafter : (s.wr R.NODE_CFG new).afterWrite ⟨48, 3, R.NODE_CFG⟩ (s.rd R.NODE_CFG) new = (s.wr R.NODE_CFG new).renumber := by
    unfold State.afterWrite
    dsimp only
    rw [if_pos rfl]
    exact (if_pos rfl).trans (if_neg hne.symm)
  rw [State.busWrite_acts hb rfl hp hs hst (fun _ => hn) hr (hh r) (.inl ⟨rfl, by decide⟩) (by simp [mirroredReg, hp]) hw hmask, hafter]

end Sys2Proof.Machine
end

section
/-! SUPPORT. What a port declared down, a Crown disabled and a shutter shut leave alone (R129, R184, R204). -/

namespace Sys2Proof.Machine

/-! ### Memory and some registers left alone -/

/-- `s` comes from `z` with every byte of memory, and the registers of `P`, as they were. -/
structure Leaves (P : Nat → Prop) (z s : State) : Prop where
  sq : s.sq = z.sq
  host : s.host = z.host
  dram : s.dram = z.dram
  rd : ∀ off, P off → s.rd off = z.rd off

section
variable {P : Nat → Prop} {z s t : State}

theorem Leaves.refl (P : Nat → Prop) (z : State) : Leaves P z z := ⟨rfl, rfl, rfl, fun _ _ => rfl⟩

theorem Leaves.trans (h : Leaves P z s) (k : Leaves P s t) : Leaves P z t :=
  ⟨k.sq.trans h.sq, k.host.trans h.host, k.dram.trans h.dram, fun off ho => (k.rd off ho).trans (h.rd off ho)⟩

theorem Leaves.mono {Q : Nat → Prop} (h : Leaves P z s) (hq : ∀ off, Q off → P off) : Leaves Q z s :=
  ⟨h.sq, h.host, h.dram, fun off ho => h.rd off (hq off ho)⟩

/-- A step that touches neither memory nor registers. -/
theorem Leaves.same (h : Leaves P z s) (hr : t.regs = s.regs) (hq : t.sq = s.sq) (hh : t.host = s.host) (hd : t.dram = s.dram) : Leaves P z t :=
  h.trans ⟨hq, hh, hd, fun off _ => State.rd_of_regs hr off⟩

theorem Leaves.wr (h : Leaves P z s) {off : Nat} (ho : ¬ P off) (v : Word) : Leaves P z (s.wr off v) :=
  h.trans ⟨rfl, rfl, rfl, fun a ha => State.rd_wr_ne (by rintro rfl; exact ho ha) v⟩

theorem Leaves.setF (h : Leaves P z s) {x : Fld} (ho : ¬ P x.off) (v : Nat) : Leaves P z (s.setF x v) := h.wr ho _

theorem Leaves.bump (h : Leaves P z s) {x : Fld} (ho : ¬ P x.off) (n : Nat) : Leaves P z (s.bump x n) := h.wr ho _

theorem Leaves.setFs (h : Leaves P z s) (l : List (Fld × Nat)) (hl : ∀ e ∈ l, ¬ P e.1.off) : Leaves P z (s.setFs l) := by
  induction l generalizing s with
  | nil => exact h
  | cons e l ih => exact ih (h.setF (hl e (List.mem_cons_self ..)) e.2) (fun x hx => hl x (List.mem_cons_of_mem _ hx))

theorem Leaves.each {α : Type} (h : Leaves P z s) (l : List α) (f : State → α → State)
    (hf : ∀ x ∈ l, ∀ u, Leaves P z u → Leaves P z (f u x)) : Leaves P z (s.each l f) := by
  unfold State.each
  induction l generalizing s with
  | nil => exact h
  | cons a l ih => exact ih (hf a (List.mem_cons_self ..) s h) (fun x hx => hf x (List.mem_cons_of_mem _ hx))

theorem Leaves.faulted (h : Leaves P z s) {W : List Nat} (k : Faulted W s t) (hW : ∀ a ∈ W, ¬ P a) : Leaves P z t := by
  obtain ⟨hf, hr⟩ := k
  unfold State.onlyFaults at hf
  exact h.trans ⟨by rw [hf], by rw [hf], by rw [hf], fun off ho => hr off (fun hm => hW off hm ho)⟩

theorem Leaves.updBl (h : Leaves P z s) (k : Nat) (g : Blk → Blk) : Leaves P z (s.updBl k g) := h.same rfl rfl rfl rfl

theorem Leaves.updOme (h : Leaves P z s) (k : Nat) (g : Ome → Ome) : Leaves P z (s.updOme k g) := h.same rfl rfl rfl rfl

theorem Leaves.updLink (h : Leaves P z s) (k : Nat) (g : Link → Link) : Leaves P z (s.updLink k g) := h.same rfl rfl rfl rfl

theorem Leaves.updPr (h : Leaves P z s) (g : Proctor → Proctor) : Leaves P z (s.updPr g) := h.same rfl rfl rfl rfl

theorem Leaves.emit (h : Leaves P z s) (o : Out) : Leaves P z (s.emit o) := h.same rfl rfl rfl rfl

theorem Leaves.keepsMemory (h : Leaves P z s) : z.keepsMemory s := fun a => by rw [h.sq, h.host, h.dram]; exact ⟨rfl, rfl, rfl⟩

theorem Leaves.f (h : Leaves P z s) {x : Fld} (hx : P x.off) : s.f x = z.f x := by rw [State.f, State.f, h.rd _ hx]

end

/-! ### The registers of ports and Crowns are no fault registers -/

/-- A register of a port, or of the Crown. -/
def linkOrCrown (off : Nat) : Prop := ∃ t c, off = tileBase t + c ∧ 0x10000 ≤ c ∧ c < 0x30000

theorem not_linkOrCrown_log : ∀ a ∈ logRegs, ¬ linkOrCrown a := by
  rintro a ha ⟨t, c, rfl, -, -⟩
  have hall : ∀ a ∈ logRegs, a < 0x100000 := by decide
  have := hall _ ha
  unfold tileBase at this
  omega

theorem not_linkOrCrown_fault (u : Nat) : ∀ a ∈ tileFaultRegs u, ¬ linkOrCrown a := by
  rintro a ha ⟨t, c, rfl, h1, h2⟩
  rcases List.mem_append.1 ha with hm | hm
  · exact not_linkOrCrown_log _ hm ⟨t, c, rfl, h1, h2⟩
  rcases List.mem_append.1 hm with hm | hm
  · simp only [List.mem_cons, List.not_mem_nil, or_false, R.MFSW_TILE_LO, R.MFSW_TILE_HI, R.FSW_LO, R.FSW_HI, R.FLVL_LO, R.FLVL_HI,
      R.FFIRST, R.FFIRST_BELL_LO, R.FFIRST_BELL_HI, R.FSTATE, tileBase] at hm
    omega
  · simp only [darkRegs, List.mem_cons, List.mem_append, List.mem_map, List.mem_range, R.TILE_TEST_STAT, R.LAS_STAT, R.LAS_BIAS,
      R.EYESAFE, tileBase] at hm
    omega

section
variable {P : Nat → Prop} {z s : State}

theorem Leaves.raise (hP : ∀ off, P off → linkOrCrown off) (h : Leaves P z s) (t bit : Nat) : Leaves P z (s.raise t bit) :=
  h.faulted (s.raise_faulted t bit 0 false) (fun a ha hp => not_linkOrCrown_fault t a ha (hP a hp))

theorem Leaves.note (hP : ∀ off, P off → linkOrCrown off) (h : Leaves P z s) (g : Nat) (e : RecEv) (sev source : Nat) (v : Int) :
    Leaves P z (s.note g e sev source v) :=
  h.faulted (Faulted.of_logged (fun _ ha => ha) (s.note_logged g e sev source v)) (fun a ha hp => not_linkOrCrown_log a ha (hP a hp))

end

/-! ### A port declared down (R184) -/

/-- LINK_CTL and LINK_STAT of a port. -/
def linkHead (p off : Nat) : Prop := off = R.LINK_CTL p ∨ off = R.LINK_STAT p

theorem linkHead_linkOrCrown (p : Nat) : ∀ off, linkHead p off → linkOrCrown off := by
  rintro off (rfl | rfl)
  · exact ⟨p / 3, 0x10000 + p % 3 * 0x4000, by simp only [R.LINK_CTL, portBase]; omega, by omega, by omega⟩
  · exact ⟨p / 3, 0x10000 + p % 3 * 0x4000 + 4, by simp only [R.LINK_STAT, portBase]; omega, by omega, by omega⟩

section
variable {P : Nat → Prop} {z s : State}

theorem Leaves.enqueue (h : Leaves P z s) (p : Nat) (fs : List Flit) : Leaves P z (s.enqueue p fs) := h.updLink p _

theorem Leaves.answerOn (h : Leaves P z s) (p det : Nat) (out : Option Nat) : Leaves P z (s.answerOn p det out) := by
  cases out with
  | none => exact h
  | some q => exact h.enqueue q _

theorem Leaves.answerInband (h : Leaves P z s) (p : Nat) : Leaves P z (s.answerInband p) := by
  unfold State.answerInband
  exact ((h.answerOn p _ _).updLink p _).updPr _

theorem Leaves.flushMirror (n : Nat) (h : Leaves P z s) : Leaves P z (State.flushMirror n s) := by
  induction n generalizing s with
  | zero => exact h
  | succ n ih =>
    unfold State.flushMirror
    split
    · exact h
    · split
      · exact h
      · exact ih (h.same rfl rfl rfl rfl)

theorem Leaves.mirrorBack (h : Leaves P z s) (back : List Flit) : Leaves P z (s.mirrorBack back) := by
  unfold State.mirrorBack
  dsimp only
  split
  · exact h
  · exact Leaves.flushMirror _ (h.same rfl rfl rfl rfl)

theorem Leaves.flushHeldTx (h : Leaves P z s) (key : Nat) : Leaves P z (s.flushHeldTx key) := by
  unfold State.flushHeldTx
  split
  · exact h
  · split
    · exact h
    · exact h.same rfl rfl rfl rfl

theorem Leaves.updStream (h : Leaves P z s) (key : Nat) (g : Stream → Stream) : Leaves P z (s.updStream key g) := by
  unfold State.updStream
  exact h.same rfl rfl rfl rfl

theorem Leaves.streamPortDown (h : Leaves P z s) (p key : Nat) (back : List (Nat × Tu)) : Leaves P z (s.streamPortDown p key back) := by
  unfold State.streamPortDown
  split
  · exact h
  · dsimp only
    split
    · split
      · exact h
      · split
        · split
          · exact (h.updStream ..).flushHeldTx key
          · exact h.updStream ..
        · exact h.updStream ..
    · split
      · split
        · exact (h.updStream ..).flushHeldTx key
        · exact h.updStream ..
      · split
        · exact (h.updStream ..).flushHeldTx key
        · exact h
    · split
      · exact h
      · exact (h.updStream ..).flushHeldTx key
    · exact h

theorem Leaves.streamsPortDown (h : Leaves P z s) (p : Nat) (back : List Flit) : Leaves P z (s.streamsPortDown p back) :=
  (h.mirrorBack _).each _ _ fun key _ _ hu => hu.streamPortDown p key _

end

theorem Leaves.syncBlk {p : Nat} {z s : State} (h : Leaves (linkHead p) z s) (t : Nat) : Leaves (linkHead p) z (s.syncBlk t) := by
  unfold State.syncBlk
  refine h.setFs _ ?_
  simp only [List.mem_cons, List.not_mem_nil, or_false, forall_eq_or_imp, forall_eq, linkHead, F.BLK_STAT_BUSY, F.BLK_STAT_QUEUED, F.BLK_STAT_TRACE,
    R.LINK_CTL, R.LINK_STAT, R.BLK_STAT, portBase, tileBase]
  omega

theorem Leaves.dropRun {p : Nat} {z s : State} (h : Leaves (linkHead p) z s) (t c : Nat) : Leaves (linkHead p) z (s.dropRun t c) := by
  have hscan : ∀ q, ¬ linkHead p (R.ESCAN_STAT q) := fun q => by
    simp only [linkHead, R.LINK_CTL, R.LINK_STAT, R.ESCAN_STAT, portBase, tileBase]
    omega
  have hplane : ¬ linkHead p (R.CROWN_PLANE t (c % 16)) := by
    simp only [linkHead, R.LINK_CTL, R.LINK_STAT, R.CROWN_PLANE, portBase, tileBase]
    omega
  unfold State.dropRun
  dsimp only
  refine Leaves.syncBlk ?_ t
  split
  · exact (h.updBl ..).setFs _ (by simp [F.ESCAN_STAT_LANE, F.ESCAN_STAT_USER, hscan])
  · exact Leaves.setF (x := F.CROWN_PLANE_BLOCKING t (c % 16)) (h.updBl ..) hplane 0
  · exact (h.updBl ..).updOme ..
  · exact (h.updBl ..).updOme ..
  · exact h.updBl ..

theorem Leaves.abortRuns {p : Nat} {z s : State} (h : Leaves (linkHead p) z s) (t : Nat) (g : BlkRun → Bool) :
    Leaves (linkHead p) z (s.abortRuns t g) := by
  have hlast : ¬ linkHead p (R.BLK_LAST t) := by
    simp only [linkHead, R.LINK_CTL, R.LINK_STAT, R.BLK_LAST, portBase, tileBase]
    omega
  refine h.each _ _ fun r _ u hu => ?_
  split
  · exact hu.dropRun t r.chan
  · refine Leaves.syncBlk (Leaves.updBl ?_ ..) t
    exact (hu.dropRun t r.chan).setFs _ (by simp [F.BLK_LAST_CHAN, F.BLK_LAST_RESULT, F.BLK_LAST_TRIGGER, hlast])

/-- Clearing a link leaves LINK_CTL, and STATE is as asked (R184). -/
theorem State.clearLink_spec {s : State} (h : s.canonical) (p state : Nat) :
    Leaves (· = R.LINK_CTL p) s (s.clearLink p state) ∧ (s.clearLink p state).f (F.LINK_STAT_STATE p) = state % 8 := by
  have hstat : R.LINK_STAT p ≠ R.LINK_CTL p := by simp only [R.LINK_STAT, R.LINK_CTL]; omega
  have hfc : R.LINK_FC p ≠ R.LINK_CTL p := by simp only [R.LINK_FC, R.LINK_CTL]; omega
  have hsds : R.SDS_STAT p ≠ R.LINK_CTL p := by simp only [R.SDS_STAT, R.LINK_CTL]; omega
  have hlane : ∀ j, R.LANE_STAT p j ≠ R.LINK_CTL p := fun j => by simp only [R.LANE_STAT, R.LINK_CTL]; omega
  have htile : R.LINK_REPLAY_TILE p ≠ R.LINK_CTL p := by simp only [R.LINK_REPLAY_TILE, R.LINK_CTL]; omega
  have hspill : R.LINK_REPLAY_SPILL p ≠ R.LINK_CTL p := by simp only [R.LINK_REPLAY_SPILL, R.LINK_CTL]; omega
  have hfs : R.LINK_FC p ≠ R.LINK_STAT p := by simp only [R.LINK_FC, R.LINK_STAT]; omega
  have hss : R.SDS_STAT p ≠ R.LINK_STAT p := by simp only [R.SDS_STAT, R.LINK_STAT]; omega
  have hts : R.LINK_STAT p ≠ R.LINK_REPLAY_TILE p := by simp only [R.LINK_REPLAY_TILE, R.LINK_STAT]; omega
  have hps : R.LINK_STAT p ≠ R.LINK_REPLAY_SPILL p := by simp only [R.LINK_REPLAY_SPILL, R.LINK_STAT]; omega
  have hcancel : Leaves (· = R.LINK_CTL p) s (s.cancelLaneset p state) := by
    unfold State.cancelLaneset
    split
    · exact .refl _ s
    · have h1 := (((Leaves.refl (· = R.LINK_CTL p) s).updLink p fun l => { l with laneset := none, oldMap := none }).setF
        (x := F.LINK_STAT_LANESET_PEND p) hstat 0)
      dsimp only
      split
      · exact h1.updPr _
      · exact h1
  have hkc : (s.cancelLaneset p state).canonical := ((Kept.refl s).cancelLaneset p state).2 h
  unfold State.clearLink
  dsimp only
  generalize s.cancelLaneset p state = c at hcancel hkc
  generalize hs2 : c.updLink p _ = s2
  have h2 : Leaves (· = R.LINK_CTL p) s s2 := hs2 ▸ hcancel.updLink p _
  have hc2 : s2.canonical := hs2 ▸ hkc
  have h3 : Leaves (· = R.LINK_CTL p) s (s2.each (List.range 17) fun s j => s.setF (F.LANE_STAT_STANDBY p j) 0) :=
    h2.each _ _ fun j _ u hu => hu.setF (x := F.LANE_STAT_STANDBY p j) (hlane j) 0
  have hc3 : (s2.each (List.range 17) fun s j => s.setF (F.LANE_STAT_STANDBY p j) 0).canonical :=
    (Kept.each (Kept.refl s2) _ _ fun _ _ hu => hu.setF _ _).2 hc2
  generalize (s2.each (List.range 17) fun s j => s.setF (F.LANE_STAT_STANDBY p j) 0) = s3 at h3 hc3
  generalize hl : [(F.LINK_STAT_STATE p, state), (F.LINK_STAT_REPLAY_NUM p, 0), (F.LINK_STAT_POST_RETRAIN p, 0),
    (F.LINK_STAT_LANESET_PEND p, 0), (F.SDS_STAT_RX_QUIET p, 0), (F.SDS_STAT_STAGE p, 0), (F.SDS_STAT_WIDTH p, 0),
    (F.LINK_FC_RX_XOFF0 p, 0), (F.LINK_FC_RX_XOFF1 p, 0), (F.LINK_FC_TX_XOFF0 p, 0), (F.LINK_FC_TX_XOFF1 p, 0)] = l
  have hstate : (s3.setFs l).f (F.LINK_STAT_STATE p) = state % 8 :=
    State.f_setFs_at hc3 l 0 (by rw [← hl]; rfl) (by simp [F.LINK_STAT_STATE]) (by
      rw [← hl]
      simp [Fld.apart, F.LINK_STAT_STATE, F.LINK_STAT_REPLAY_NUM, F.LINK_STAT_POST_RETRAIN, F.LINK_STAT_LANESET_PEND, F.SDS_STAT_RX_QUIET,
        F.SDS_STAT_STAGE, F.SDS_STAT_WIDTH, F.LINK_FC_RX_XOFF0, F.LINK_FC_RX_XOFF1, F.LINK_FC_TX_XOFF0, F.LINK_FC_TX_XOFF1, hfs.symm, hss.symm])
  have h4 : Leaves (· = R.LINK_CTL p) s (s3.setFs l) := h3.setFs l (by
    rw [← hl]
    simp [F.LINK_STAT_STATE, F.LINK_STAT_REPLAY_NUM, F.LINK_STAT_POST_RETRAIN, F.LINK_STAT_LANESET_PEND, F.SDS_STAT_RX_QUIET,
      F.SDS_STAT_STAGE, F.SDS_STAT_WIDTH, F.LINK_FC_RX_XOFF0, F.LINK_FC_RX_XOFF1, F.LINK_FC_TX_XOFF0, F.LINK_FC_TX_XOFF1, hstat, hfc, hsds])
  have hc4 := State.setFs_canonical hc3 l
  generalize s3.setFs l = s4 at h4 hstate hc4
  unfold State.syncReplay
  dsimp only
  refine ⟨(h4.setF (x := F.LINK_REPLAY_TILE_N p) htile _).setF (x := F.LINK_REPLAY_SPILL_N p) hspill _, ?_⟩
  rw [State.f_setF_ne (State.setF_canonical hc4 _ _) (.inl hps), State.f_setF_ne hc4 (.inl hts), hstate]

/-- A port declared down leaves memory and LINK_CTL, and STATE is as asked (R184). -/
theorem State.declareDown_spec {s : State} (h : s.canonical) (p state : Nat) :
    Leaves (· = R.LINK_CTL p) s (s.declareDown p state) ∧ (s.declareDown p state).f (F.LINK_STAT_STATE p) = state % 8 := by
  have hP := linkHead_linkOrCrown p
  have hin : Leaves (· = R.LINK_CTL p) s (s.answerInband p) := (Leaves.refl _ s).answerInband p
  have hcin : (s.answerInband p).canonical := ((Kept.refl s).answerInband p).2 h
  obtain ⟨hclear, hstate⟩ := State.clearLink_spec hcin p state
  unfold State.declareDown
  dsimp only
  generalize s.answerInband p = a at hin hclear hstate
  generalize a.clearLink p state = c at hclear hstate
  have hrest := Leaves.raise hP (Leaves.note hP (((Leaves.refl (linkHead p) c).streamsPortDown p (s.handback p)).abortRuns (p / 3)
    fun r => r.slot == p % 3) 0x2 .portDown 2 (tgtPort p) 0) (p / 3) (9 + p % 3)
  exact ⟨(hin.trans hclear).trans (hrest.mono fun off ho => .inl ho), (hrest.f (x := F.LINK_STAT_STATE p) (.inr rfl)).trans hstate⟩

/-! ### The shutter (R129) -/

/-- A shutter shut leaves all but its own register, which shows it dark, or sending the beacon. -/
theorem State.shut_spec {s : State} (h : s.canonical) (p : Nat) :
    Leaves (· ≠ R.EYESAFE (p / 3) (p % 3)) s (s.shut p) ∧ (s.shut p).f (F.EYESAFE_STATE (p / 3) (p % 3)) =
      if !s.b (F.LINK_CTL_EN p) || s.node == 0 || s.gated (p / 3) then 2 else 1 := by
  unfold State.shut
  dsimp only
  generalize hdark : (!s.b (F.LINK_CTL_EN p) || s.node == 0 || s.gated (p / 3)) = dark
  have h1 : Leaves (· ≠ R.EYESAFE (p / 3) (p % 3)) s
      (if s.f (F.EYESAFE_STATE (p / 3) (p % 3)) = 0 then s.bump (F.EYESAFE_SHUT_CNT (p / 3) (p % 3)) else s) := by
    split
    · exact (Leaves.refl _ s).bump (x := F.EYESAFE_SHUT_CNT (p / 3) (p % 3)) (fun hn => hn rfl) 1
    · exact .refl _ s
  have hc1 : (if s.f (F.EYESAFE_STATE (p / 3) (p % 3)) = 0 then s.bump (F.EYESAFE_SHUT_CNT (p / 3) (p % 3)) else s).canonical := by
    split
    · exact ((Kept.refl s).bump _ _).2 h
    · exact h
  generalize (if s.f (F.EYESAFE_STATE (p / 3) (p % 3)) = 0 then s.bump (F.EYESAFE_SHUT_CNT (p / 3) (p % 3)) else s) = s1 at h1 hc1
  generalize hl : [(F.EYESAFE_STATE (p / 3) (p % 3), if dark = true then 2 else 1), (F.EYESAFE_BEACON_OK (p / 3) (p % 3), 0)] = l
  have h2 : Leaves (· ≠ R.EYESAFE (p / 3) (p % 3)) s ((s1.setFs l).updLink p fun x => { x with beacon := none }) :=
    (h1.setFs l (by rw [← hl]; simp [F.EYESAFE_STATE, F.EYESAFE_BEACON_OK])).updLink p _
  have hf : ((s1.setFs l).updLink p fun x => { x with beacon := none }).f (F.EYESAFE_STATE (p / 3) (p % 3)) = if dark = true then 2 else 1 := by
    rw [State.updLink_f, State.f_setFs_at hc1 l 0 (by rw [← hl]; rfl) (by simp [F.EYESAFE_STATE]) (by
      rw [← hl]
      simp [Fld.apart, F.EYESAFE_STATE, F.EYESAFE_BEACON_OK])]
    split <;> rfl
  generalize ((s1.setFs l).updLink p fun x => { x with beacon := none }) = s2 at h2 hf
  split
  · next hd => exact ⟨h2, by rw [hf, if_pos hd]⟩
  · next hd =>
    refine ⟨h2.emit _, (State.emit_f ..).trans ?_⟩
    rw [hf, if_neg hd]

end Sys2Proof.Machine
end

section
/-! SUPPORT. The enables of ports, Crowns, engines and power modes, and the first-source latches (R183, R204, R287, R377, R405). -/

namespace Sys2Proof.Machine

/-! ### Places and rows of the enables -/

theorem placeOf_linkCtl {p : Nat} (hp : p < 144) : placeOf (R.LINK_CTL p) = some ⟨p / 3, p % 3, 0⟩ := by
  have hoff : R.LINK_CTL p = tileBase (p / 3) + (0x10000 + p % 3 * 0x4000) := by simp only [R.LINK_CTL, portBase]; omega
  have hi : (0x10000 + p % 3 * 0x4000 - 0x10000) / 0x4000 = p % 3 := by omega
  have hz : (0x10000 + p % 3 * 0x4000 - 0x10000) % 0x4000 = 0 := by omega
  rw [hoff, placeOf_tile (by omega) (by omega), if_pos (by omega), hi, hz]

/-- An offset of a tile's own block. -/
theorem placeOf_own {t rel : Nat} (ht : t < 48) (hr : rel < 0x10000 ∨ 0x1C000 ≤ rel) (hlt : rel < 0x100000) :
    placeOf (tileBase t + rel) = some ⟨t, 3, rel⟩ := by
  rw [placeOf_tile ht hlt, if_neg (by omega)]

theorem rowAtPlace_port {t i : Nat} (rel : Nat) (ht : t < 48) (hi : i < 3) :
    rowAtPlace ⟨t, i, rel⟩ = portRows.find? (fun r => r.has rel) := by
  unfold rowAtPlace
  rw [if_neg (Nat.ne_of_lt ht), if_pos hi]

theorem rowAtPlace_own {t : Nat} (rel : Nat) (ht : t < 48) : rowAtPlace ⟨t, 3, rel⟩ = tileRows.find? (fun r => r.has rel) := by
  unfold rowAtPlace
  rw [if_neg (Nat.ne_of_lt ht), if_neg (Nat.lt_irrefl 3)]

/-- No twin mirrors a register below the engines' (R437). -/
theorem mirroredReg_low {off : Nat} {pl : Place} (hp : placeOf off = some pl) (h : pl.rel < 0x40000) : mirroredReg off = false := by
  have : ¬ 0x40000 ≤ pl.rel := by omega
  simp [mirroredReg, hp, this]

/-- Nothing hides a register that no fuse turns off, beside those of the OME while it is HELD (R19). -/
theorem State.hidden_false (s : State) {pl : Place} {r : RegRow} (hf : r.fuse = .none)
    (h : pl.port < 3 ∨ pl.rel < 0x50000 ∨ s.f (F.OME_STAT_STATE pl.tile) ≠ 1) : s.hidden pl r = false := by
  unfold State.hidden placeFused
  rw [hf]
  rcases h with h | h | h
  · have : pl.port ≠ 3 := by omega
    simp [fusedOff, this]
  · have : ¬ 0x50000 ≤ pl.rel := by omega
    simp [fusedOff, this]
  · simp [fusedOff, h]

/-! ### A write that changes an enable -/

/-- The journal entry of a direct write of one register (R79). -/
def State.journalWrite (u : State) (src : BusSrc) (off : Nat) (old new : Word) : State :=
  u.journalise src.origin 0xFFFF 0 [regChange off old new] none {}

/-- A write that changes bit 0 of a register that has its enable there. -/
theorem State.busWrite_enable {s : State} {src : BusSrc} {off : Nat} {pl : Place} {r : RegRow} {v : Word} (hb : s.busOk src = true)
    (ha : off % 4 = 0) (hp : placeOf off = some pl) (hs : s.sleepsAt off = false) (hst : s.standbyReg off = false) (hn : off ≠ R.NODE_CFG)
    (hr : rowAtPlace pl = some r) (hh : s.hidden pl r = false) (hpl : pl.plain) (hm : (mirroredReg off && s.mirrors) = false)
    (hrw : r.rw.testBit 0 = true) (hc : r.w1c = 0) (hf : fixedSev pl.rel = 0) (hcl : ∀ c ∈ clampsAt pl s.maxInput, 0 < c.1)
    (hbit : (s.rd off).getLsbD 0 ≠ v.getLsbD 0) :
    ∃ new : Word, new.getLsbD 0 = v.getLsbD 0 ∧
      s.busWrite src off v = ((s.wr off new).afterWrite pl (s.rd off) new).journalWrite src off (s.rd off) new := by
  have h0 := s.written_bit0 (off := off) (pl := pl) hrw hc hf hcl v
  refine ⟨_, h0, State.busWrite_acts hb ha hp hs hst (fun h => absurd h hn) hr hh hpl hm rfl (and_ne_of_bit0 ?_ (by rw [h0]; exact hbit))⟩
  rw [BitVec.getLsbD_ofNat, hrw]
  rfl

/-- A field of one bit at bit 0. -/
theorem State.f_bit0 (s : State) (off : Nat) : s.f ⟨off, 0, 1⟩ = ((s.rd off).getLsbD 0).toNat := Fld.ext_bit rfl _

theorem State.f_bit0_false {s : State} {off : Nat} (h : s.f ⟨off, 0, 1⟩ = 0) : (s.rd off).getLsbD 0 = false := by
  rw [State.f_bit0] at h
  cases hb : (s.rd off).getLsbD 0
  · rfl
  · rw [hb] at h; exact absurd h (by decide)

theorem State.f_bit0_true {s : State} {off : Nat} (h : s.f ⟨off, 0, 1⟩ = 1) : (s.rd off).getLsbD 0 = true := by
  rw [State.f_bit0] at h
  cases hb : (s.rd off).getLsbD 0
  · rw [hb] at h; exact absurd h (by decide)
  · rfl

theorem State.f_bit0_wr {s : State} (h : s.canonical) (off : Nat) (v : Word) : (s.wr off v).f ⟨off, 0, 1⟩ = (v.getLsbD 0).toNat := by
  rw [State.f_bit0, State.rd_wr_same h.rising]

/-- Bit 0 of a word written with the enable 1, and with it 0. -/
theorem or_one_bit0 (v : Word) : (v ||| 1).getLsbD 0 = true := by
  rw [BitVec.getLsbD_or, show (1 : Word).getLsbD 0 = true from rfl, Bool.or_true]

theorem and_not_one_bit0 (v : Word) : (v &&& ~~~1).getLsbD 0 = false := by
  rw [BitVec.getLsbD_and, show (~~~(1 : Word)).getLsbD 0 = false from rfl, Bool.and_false]

/-! ### Ports (R183) -/

theorem State.afterWrite_link (u : State) {p : Nat} (hp : p < 144) {old new : Word} (h : old.getLsbD 0 ≠ new.getLsbD 0) :
    u.afterWrite ⟨p / 3, p % 3, 0⟩ old new = u.linkEnable p (new.getLsbD 0) := by
  have ht : ¬ p / 3 = 48 := by omega
  have hi : p % 3 < 3 := by omega
  have h3 : 3 * (p / 3) + p % 3 = p := by omega
  have hb : (old.getLsbD 0 != new.getLsbD 0) = true := bne_iff_ne.2 h
  unfold State.afterWrite
  simp only [ht, hi, h3, hb, if_false, if_true, decide_true, Bool.and_self]

/-- A write of LINK_CTL that changes EN (R183). -/
theorem State.busWrite_link {s : State} {src : BusSrc} {p : Nat} {v : Word} (hp : p < 144) (hb : s.busOk src = true)
    (hs : s.sleepsAt (R.LINK_CTL p) = false) (hbit : (s.rd (R.LINK_CTL p)).getLsbD 0 ≠ v.getLsbD 0) :
    ∃ new : Word, new.getLsbD 0 = v.getLsbD 0 ∧ s.busWrite src (R.LINK_CTL p) v =
      ((s.wr (R.LINK_CTL p) new).linkEnable p (v.getLsbD 0)).journalWrite src (R.LINK_CTL p) (s.rd (R.LINK_CTL p)) new := by
  have hpl := placeOf_linkCtl hp
  have ht : p / 3 < 48 := by omega
  have hi : p % 3 < 3 := by omega
  have hm : mirroredReg (R.LINK_CTL p) = false := mirroredReg_low hpl (Nat.zero_lt_succ _)
  let r : RegRow := ⟨0x0, 0x4, 1, .C, 0xFF887, 0x1FFFFF, 0x0, .none⟩
  have hr : rowAtPlace ⟨p / 3, p % 3, 0⟩ = some r := (rowAtPlace_port 0 ht hi).trans (by decide)
  have hne : R.LINK_CTL p ≠ R.NODE_CFG := by simp only [R.LINK_CTL, R.NODE_CFG, portBase, tileBase]; omega
  have hal : R.LINK_CTL p % 4 = 0 := by simp only [R.LINK_CTL, portBase, tileBase]; omega
  have hcl : ∀ c ∈ clampsAt ⟨p / 3, p % 3, 0⟩ s.maxInput, 0 < c.1 := by
    have : ¬ p / 3 = 48 := by omega
    simp [clampsAt, this, hi]
  obtain ⟨new, h0, he⟩ := State.busWrite_enable (r := r) hb hal hpl hs (by simp [State.standbyReg, hm]) hne hr
    (s.hidden_false rfl (.inl hi)) (.inr ⟨ht, fun h => by have := h.1; dsimp only at this; omega⟩) (by simp [hm]) (by decide) rfl rfl hcl hbit
  rw [State.afterWrite_link _ hp (by rw [h0]; exact hbit), h0] at he
  exact ⟨new, h0, he⟩

theorem State.linkEnable_off (u : State) (p : Nat) : u.linkEnable p false = (u.declareDown p 0).shut p := by
  unfold State.linkEnable
  exact if_neg Bool.false_ne_true

/-- The registers that enabling a port writes. -/
def enableRegs (p : Nat) : List Nat := [R.LINK_CTL p, R.LINK_STAT p, R.EYESAFE (p / 3) (p % 3)]

/-- A DISABLED port enabled is DOWN, its shutter shut (R129, R183). -/
theorem State.linkEnable_spec {s : State} (h : s.canonical) {p : Nat} {new : Word} (h1 : new.getLsbD 0 = true)
    (hst : s.f (F.LINK_STAT_STATE p) = 0) (ht : s.inTest (p / 3) = false) :
    let t := (s.wr (R.LINK_CTL p) new).linkEnable p true
    t.f (F.LINK_CTL_EN p) = 1 ∧ t.f (F.LINK_STAT_STATE p) = 1 ∧
      t.f (F.EYESAFE_STATE (p / 3) (p % 3)) = (if s.node = 0 ∨ s.gated (p / 3) = true then 2 else 1) ∧
      Leaves (· ∉ enableRegs p) s t := by
  have hsc : R.LINK_STAT p ≠ R.LINK_CTL p := by simp only [R.LINK_STAT, R.LINK_CTL]; omega
  have hec : R.LINK_CTL p ≠ R.EYESAFE (p / 3) (p % 3) := by simp only [R.LINK_CTL, R.EYESAFE, portBase]; omega
  have hes : R.LINK_STAT p ≠ R.EYESAFE (p / 3) (p % 3) := by simp only [R.LINK_STAT, R.EYESAFE, portBase]; omega
  let u := s.wr (R.LINK_CTL p) new
  have hu : u.canonical := State.wr_canonical h _ _
  have hen : u.f (F.LINK_CTL_EN p) = 1 := (State.f_bit0_wr h _ _).trans (by rw [h1]; rfl)
  have hust : u.f (F.LINK_STAT_STATE p) = 0 := (((Leaves.refl (· ≠ R.LINK_CTL p) s).wr (not_not.2 rfl) new).f (x := F.LINK_STAT_STATE p) hsc).trans hst
  have hlu : Leaves (· ∉ enableRegs p) s u := (Leaves.refl _ s).wr (by simp [enableRegs]) _
  let w := u.setF (F.LINK_STAT_STATE p) 1
  have hw : w.canonical := State.setF_canonical hu _ _
  have hlw : Leaves (· ∉ enableRegs p) s w := hlu.setF (x := F.LINK_STAT_STATE p) (by simp [enableRegs, F.LINK_STAT_STATE]) 1
  have hwen : w.f (F.LINK_CTL_EN p) = 1 := (State.f_setF_ne hu (.inl hsc.symm) _).trans hen
  have hwst : w.f (F.LINK_STAT_STATE p) = 1 := State.f_setF_same hu.rising _ _ (by simp [F.LINK_STAT_STATE])
  have hfar : ∀ x : Fld, x.off ∉ enableRegs p → w.f x = s.f x := fun x hx => hlw.f hx
  have htest : w.inTest (p / 3) = false := by
    rw [← ht, State.inTest, State.inTest, hfar]
    simp only [enableRegs, F.TILE_TEST_STAT_STATE, R.TILE_TEST_STAT, R.LINK_CTL, R.LINK_STAT, R.EYESAFE, portBase, List.mem_cons, List.not_mem_nil, or_false]
    omega
  have hnode : w.node = s.node := hfar _ (by
    simp only [enableRegs, F.NODE_CFG_NODE, R.NODE_CFG, R.LINK_CTL, R.LINK_STAT, R.EYESAFE, portBase, tileBase, List.mem_cons, List.not_mem_nil, or_false]
    omega)
  have hgate : w.gated (p / 3) = s.gated (p / 3) := by
    rw [State.gated, State.gated, hfar, hfar]
    · simp only [enableRegs, F.MFSTATE_STATE, R.MFSTATE, R.LINK_CTL, R.LINK_STAT, R.EYESAFE, portBase, tileBase, List.mem_cons, List.not_mem_nil, or_false]
      omega
    · simp only [enableRegs, F.FSTATE_STATE, R.FSTATE, R.LINK_CTL, R.LINK_STAT, R.EYESAFE, portBase, List.mem_cons, List.not_mem_nil, or_false]
      omega
  obtain ⟨hshut, heye⟩ := State.shut_spec hw p
  have he : u.linkEnable p true = w.shut p := by
    unfold State.linkEnable
    rw [if_pos rfl, if_pos hust]
    exact if_neg (by rw [htest]; decide)
  intro t
  have ht' : t = w.shut p := he
  rw [ht']
  refine ⟨(hshut.f (x := F.LINK_CTL_EN p) hec).trans hwen, (hshut.f (x := F.LINK_STAT_STATE p) hes).trans hwst, ?_,
    hlw.trans (hshut.mono fun off ho hc => ho (by simp [enableRegs, hc]))⟩
  have hb : w.b (F.LINK_CTL_EN p) = true := by rw [State.b, hwen]; rfl
  rw [heye, hb, hnode, hgate]
  simp

/-- The shutter of a port without EN is shut and dark (R129). -/
theorem State.shut_disabled {d : State} (h : d.canonical) {p : Nat} (h0 : d.f (F.LINK_CTL_EN p) = 0) :
    (d.shut p).f (F.LINK_CTL_EN p) = 0 ∧ (d.shut p).f (F.LINK_STAT_STATE p) = d.f (F.LINK_STAT_STATE p) ∧
      (d.shut p).f (F.EYESAFE_STATE (p / 3) (p % 3)) = 2 ∧ d.keepsMemory (d.shut p) := by
  have hec : R.LINK_CTL p ≠ R.EYESAFE (p / 3) (p % 3) := by simp only [R.LINK_CTL, R.EYESAFE, portBase]; omega
  have hes : R.LINK_STAT p ≠ R.EYESAFE (p / 3) (p % 3) := by simp only [R.LINK_STAT, R.EYESAFE, portBase]; omega
  obtain ⟨hshut, heye⟩ := State.shut_spec h p
  have hb : d.b (F.LINK_CTL_EN p) = false := by rw [State.b, h0]; rfl
  rw [hb, Bool.not_false, Bool.true_or, Bool.true_or, if_pos rfl] at heye
  exact ⟨(hshut.f (x := F.LINK_CTL_EN p) hec).trans h0, hshut.f (x := F.LINK_STAT_STATE p) hes, heye, hshut.keepsMemory⟩

/-- A port disabled is DISABLED and dark (R129, R183). -/
theorem State.linkDisable_spec {u : State} (h : u.canonical) {p : Nat} (h0 : u.f (F.LINK_CTL_EN p) = 0) :
    (u.linkEnable p false).f (F.LINK_CTL_EN p) = 0 ∧ (u.linkEnable p false).f (F.LINK_STAT_STATE p) = 0 ∧
      (u.linkEnable p false).f (F.EYESAFE_STATE (p / 3) (p % 3)) = 2 ∧ u.keepsMemory (u.linkEnable p false) := by
  obtain ⟨hdown, hstate⟩ := State.declareDown_spec h p 0
  have hd : (u.declareDown p 0).canonical := ((Kept.refl u).declareDown p 0).2 h
  rewrite [State.linkEnable_off]
  generalize u.declareDown p 0 = d at hdown hstate hd
  obtain ⟨hen, hst, heye, hmem⟩ := State.shut_disabled hd ((hdown.f (x := F.LINK_CTL_EN p) rfl).trans h0)
  exact ⟨hen, hst.trans hstate, heye, hdown.keepsMemory.trans hmem⟩

end Sys2Proof.Machine
end

section
/-! SUPPORT. The enables of Crowns and engines, power modes, and the first-source latches (R204, R287, R377, R405). -/

namespace Sys2Proof.Machine

/-! ### Registers of a tile's own block -/

section
variable {s : State} {src : BusSrc} {t : Nat} {v : Word} (ht : t < 48)
include ht

theorem State.afterWrite_crown (u : State) {old new : Word} (h : old.getLsbD 0 ≠ new.getLsbD 0) :
    u.afterWrite ⟨t, 3, 0x20000⟩ old new = u.crownEnable t (new.getLsbD 0) := by
  have h48 : ¬ t = 48 := Nat.ne_of_lt ht
  have hb : (old.getLsbD 0 != new.getLsbD 0) = true := bne_iff_ne.2 h
  unfold State.afterWrite
  dsimp only
  rw [if_neg h48, if_neg (Nat.lt_irrefl 3)]
  exact if_pos (by rw [hb]; rfl)

theorem State.afterWrite_ome (u : State) {old new : Word} (h : old.getLsbD 0 ≠ new.getLsbD 0) (h0 : new.getLsbD 0 = false) :
    u.afterWrite ⟨t, 3, 0x50000⟩ old new = u.disableOme t := by
  have h48 : ¬ t = 48 := Nat.ne_of_lt ht
  have hb : (old.getLsbD 0 != new.getLsbD 0) = true := bne_iff_ne.2 h
  unfold State.afterWrite
  dsimp only
  rw [if_neg h48, if_neg (Nat.lt_irrefl 3), if_neg (by simp), if_pos (by rw [hb]; rfl), h0]
  exact if_neg Bool.false_ne_true

theorem State.afterWrite_mode (u : State) {old new : Word} (h : old ≠ new) : u.afterWrite ⟨t, 3, 0x1000⟩ old new = u.applyMode t := by
  have h48 : ¬ t = 48 := Nat.ne_of_lt ht
  unfold State.afterWrite
  dsimp only
  rw [if_neg h48, if_neg (Nat.lt_irrefl 3), if_neg (by simp), if_neg (by simp)]
  exact if_pos (by simp [h])

/-- A write of CROWN_CTL that changes EN (R204). -/
theorem State.busWrite_crown (hb : s.busOk src = true) (hs : s.sleepsAt (R.CROWN_CTL t) = false)
    (hbit : (s.rd (R.CROWN_CTL t)).getLsbD 0 ≠ v.getLsbD 0) :
    ∃ new : Word, new.getLsbD 0 = v.getLsbD 0 ∧ s.busWrite src (R.CROWN_CTL t) v =
      ((s.wr (R.CROWN_CTL t) new).crownEnable t (v.getLsbD 0)).journalWrite src (R.CROWN_CTL t) (s.rd (R.CROWN_CTL t)) new := by
  have hpl : placeOf (R.CROWN_CTL t) = some ⟨t, 3, 0x20000⟩ := placeOf_own ht (by omega) (by omega)
  have hm : mirroredReg (R.CROWN_CTL t) = false := mirroredReg_low hpl (by show (0x20000 : Nat) < 0x40000; omega)
  let r : RegRow := ⟨0x20000, 0x4, 1, .C, 0x14281B, 0xFFFFFF, 0x0, .none⟩
  have hr : rowAtPlace ⟨t, 3, 0x20000⟩ = some r := (rowAtPlace_own 0x20000 ht).trans (by decide)
  have hne : R.CROWN_CTL t ≠ R.NODE_CFG := by simp only [R.CROWN_CTL, R.NODE_CFG, tileBase]; omega
  have hal : R.CROWN_CTL t % 4 = 0 := by simp only [R.CROWN_CTL, tileBase]; omega
  have hcl : ∀ c ∈ clampsAt ⟨t, 3, 0x20000⟩ s.maxInput, 0 < c.1 := by simp [clampsAt, Nat.ne_of_lt ht]
  obtain ⟨new, h0, he⟩ := State.busWrite_enable (r := r) hb hal hpl hs (by rw [State.standbyReg, hm, Bool.and_false]) hne hr
    (s.hidden_false rfl (.inr (.inl (by show (0x20000 : Nat) < 0x50000; omega)))) (.inr ⟨ht, fun h => absurd h.2 (by simp)⟩)
    (by rw [hm, Bool.false_and]) (by decide) rfl rfl hcl hbit
  rw [State.afterWrite_crown ht _ (by rw [h0]; exact hbit), h0] at he
  exact ⟨new, h0, he⟩

/-- A write of OME_CTL that clears EN (R287). -/
theorem State.busWrite_ome (hb : s.busOk src = true) (hs : s.sleepsAt (R.OME_CTL t) = false) (hst : s.standbyReg (R.OME_CTL t) = false)
    (hm : s.mirrors = false) (hh : s.f (F.OME_STAT_STATE t) ≠ 1) (hbit : (s.rd (R.OME_CTL t)).getLsbD 0 = true) (hv : v.getLsbD 0 = false) :
    ∃ new : Word, new.getLsbD 0 = false ∧ s.busWrite src (R.OME_CTL t) v =
      ((s.wr (R.OME_CTL t) new).disableOme t).journalWrite src (R.OME_CTL t) (s.rd (R.OME_CTL t)) new := by
  have hpl : placeOf (R.OME_CTL t) = some ⟨t, 3, 0x50000⟩ := placeOf_own ht (by omega) (by omega)
  let r : RegRow := ⟨0x50000, 0x4, 1, .C, 0x141, 0xFF3, 0x0, .none⟩
  have hr : rowAtPlace ⟨t, 3, 0x50000⟩ = some r := (rowAtPlace_own 0x50000 ht).trans (by decide)
  have hne : R.OME_CTL t ≠ R.NODE_CFG := by simp only [R.OME_CTL, R.NODE_CFG, tileBase]; omega
  have hal : R.OME_CTL t % 4 = 0 := by simp only [R.OME_CTL, tileBase]; omega
  have hcl : ∀ c ∈ clampsAt ⟨t, 3, 0x50000⟩ s.maxInput, 0 < c.1 := by simp [clampsAt, Nat.ne_of_lt ht]
  have hch : (s.rd (R.OME_CTL t)).getLsbD 0 ≠ v.getLsbD 0 := by rw [hbit, hv]; exact Bool.false_ne_true.symm
  obtain ⟨new, h0, he⟩ := State.busWrite_enable (r := r) hb hal hpl hs hst hne hr
    (s.hidden_false rfl (.inr (.inr hh))) (.inr ⟨ht, fun h => absurd h.2 (by simp)⟩) (by rw [hm, Bool.and_false]) (by decide) rfl rfl hcl hch
  rw [State.afterWrite_ome ht _ (by rw [h0]; exact hch) (h0.trans hv)] at he
  exact ⟨new, h0.trans hv, he⟩

/-- A write of TILE_PWR_CTL that changes MODE (R377). -/
theorem State.busWrite_mode {new : Word} (hb : s.busOk src = true)
    (hnew : new = (s.rd (R.TILE_PWR_CTL t) &&& ~~~(3 : Word)) ||| (v &&& 3)) (hne : new ≠ s.rd (R.TILE_PWR_CTL t)) :
    s.busWrite src (R.TILE_PWR_CTL t) v =
      ((s.wr (R.TILE_PWR_CTL t) new).applyMode t).journalWrite src (R.TILE_PWR_CTL t) (s.rd (R.TILE_PWR_CTL t)) new := by
  have hpl : placeOf (R.TILE_PWR_CTL t) = some ⟨t, 3, 0x1000⟩ := placeOf_own ht (by omega) (by omega)
  have hm : mirroredReg (R.TILE_PWR_CTL t) = false := mirroredReg_low hpl (by show (0x1000 : Nat) < 0x40000; omega)
  have hs : s.sleepsAt (R.TILE_PWR_CTL t) = false := by
    rw [← Bool.not_eq_true, s.sleepsAt_place hpl]
    exact fun h => h.2.1 ⟨rfl, .inl (by show (0x1000 : Nat) < 0x2000; omega)⟩
  let r : RegRow := ⟨0x1000, 0x4, 1, .C, 0x0, 0x3, 0x0, .none⟩
  have hr : rowAtPlace ⟨t, 3, 0x1000⟩ = some r := (rowAtPlace_own 0x1000 ht).trans (by decide)
  have hn : R.TILE_PWR_CTL t ≠ R.NODE_CFG := by simp only [R.TILE_PWR_CTL, R.NODE_CFG, tileBase]; omega
  have hal : R.TILE_PWR_CTL t % 4 = 0 := by simp only [R.TILE_PWR_CTL, tileBase]; omega
  have hw : s.written (R.TILE_PWR_CTL t) ⟨t, 3, 0x1000⟩ r v = new := by
    rw [hnew]
    exact s.written_plain rfl rfl (by simp [clampsAt, Nat.ne_of_lt ht]) v
  have hmask : s.rd (R.TILE_PWR_CTL t) &&& BitVec.ofNat 32 r.rw ≠ new &&& BitVec.ofNat 32 r.rw := by
    rw [hnew]
    exact merge_ne (m := 3) (by rw [← hnew]; exact hne)
  have he := State.busWrite_acts hb hal hpl hs (by rw [State.standbyReg, hm, Bool.and_false]) (fun h => absurd h hn) hr
    (s.hidden_false rfl (.inr (.inl (by show (0x1000 : Nat) < 0x50000; omega)))) (.inr ⟨ht, fun h => absurd h.2 (by simp)⟩)
    (by rw [hm, Bool.false_and]) hw hmask
  rw [State.afterWrite_mode ht _ hne.symm] at he
  exact he

end

/-! ### A Crown disabled (R204) -/

theorem Leaves.updCr {P : Nat → Prop} {z s : State} (h : Leaves P z s) (k : Nat) (g : Crown → Crown) : Leaves P z (s.updCr k g) :=
  h.same rfl rfl rfl rfl

/-- CROWN_CTL and CROWN_STAT of a tile. -/
def crownHead (t off : Nat) : Prop := off = R.CROWN_CTL t ∨ off = R.CROWN_STAT t

/-- Showing a tile's channels in Detention leaves the Crown's control and state. -/
theorem Leaves.showDetention {t : Nat} {z s : State} (h : Leaves (crownHead t) z s) : Leaves (crownHead t) z (s.showDetention t) := by
  have hsub : ¬ crownHead t (R.OME_SUB t) := by simp only [crownHead, R.CROWN_CTL, R.CROWN_STAT, R.OME_SUB]; omega
  have hstat : ¬ crownHead t (R.OME_STAT t) := by simp only [crownHead, R.CROWN_CTL, R.CROWN_STAT, R.OME_STAT]; omega
  have hport : ∀ i, ¬ crownHead t (R.BLK_DET_PORT t i) := fun i => by simp only [crownHead, R.CROWN_CTL, R.CROWN_STAT, R.BLK_DET_PORT]; omega
  have hplane : ∀ i, ¬ crownHead t (R.CROWN_PLANE t i) := fun i => by simp only [crownHead, R.CROWN_CTL, R.CROWN_STAT, R.CROWN_PLANE]; omega
  have hdet : ∀ off ∈ [R.OME_DET_A_LO t, R.OME_DET_A_HI t, R.OME_DET_B_LO t, R.OME_DET_B_HI t, R.OME_DET_LINE t], ¬ crownHead t off := by
    simp only [List.mem_cons, List.not_mem_nil, or_false, forall_eq_or_imp, forall_eq, crownHead, R.CROWN_CTL, R.CROWN_STAT, R.OME_DET_A_LO,
      R.OME_DET_A_HI, R.OME_DET_B_LO, R.OME_DET_B_HI, R.OME_DET_LINE]
    omega
  have hone : ∀ (unit use : Fld) (n : Nat) (d : Option Nat) (u : State), ¬ crownHead t unit.off → ¬ crownHead t use.off →
      Leaves (crownHead t) z u → Leaves (crownHead t) z (match d with
        | some c => u.setFs [(unit, c), (use, 2)]
        | none => if u.f use = 2 then u.setFs [(unit, n), (use, 0)] else u) := by
    intro unit use n d u h1 h2 hu
    split
    · exact hu.setFs _ (by simp [h1, h2])
    · split
      · exact hu.setFs _ (by simp [h1, h2])
      · exact hu
  unfold State.showDetention
  refine Leaves.updOme (Leaves.each (Leaves.each (Leaves.setF (x := F.OME_STAT_DEGRADED t) (hone _ _ _ _ _ hsub hsub (hone _ _ _ _ _ hsub hsub
    (hone _ _ _ _ _ hsub hsub (h.setFs _ ?_)))) hstat _) _ _ fun i _ u hu => ?_) _ _ fun i _ u hu => ?_) _ _
  · simpa [F.OME_DET_A_LO, F.OME_DET_A_HI, F.OME_DET_B_LO, F.OME_DET_B_HI, F.OME_DET_LINE] using hdet
  · exact hu.setF (x := F.BLK_DET_PORT_LANES t i) (hport i) _
  · exact hu.setF (x := F.CROWN_PLANE_DETENTION t i) (hplane i) _

theorem crownHead_linkOrCrown (t : Nat) : ∀ off, crownHead t off ∨ off = R.CROWN_DEAD t → linkOrCrown off := by
  rintro off ((rfl | rfl) | rfl)
  · exact ⟨t, 0x20000, rfl, by omega, by omega⟩
  · exact ⟨t, 0x20004, rfl, by omega, by omega⟩
  · exact ⟨t, 0x20014, rfl, by omega, by omega⟩

/-- Marking planes dead leaves the Crown's control and state, and the dead map is as marked (R204). -/
theorem State.markDead_spec {d : State} (h : d.canonical) (t a b : Nat) :
    Leaves (crownHead t) d (d.markDead t a b) ∧ (d.markDead t a b).f (F.CROWN_DEAD_TX_DEAD t) = a % 2 ^ 16 ∧
      (d.markDead t a b).f (F.CROWN_DEAD_RX_DEAD t) = b % 2 ^ 16 := by
  have hdead : ¬ crownHead t (R.CROWN_DEAD t) := by simp only [crownHead, R.CROWN_CTL, R.CROWN_STAT, R.CROWN_DEAD]; omega
  have hplane : ∀ i, ¬ (crownHead t (R.CROWN_PLANE t i) ∨ R.CROWN_PLANE t i = R.CROWN_DEAD t) := fun i => by
    simp only [crownHead, R.CROWN_CTL, R.CROWN_STAT, R.CROWN_DEAD, R.CROWN_PLANE]
    omega
  let l := [(F.CROWN_DEAD_TX_DEAD t, a), (F.CROWN_DEAD_RX_DEAD t, b)]
  have h1 : Leaves (crownHead t) d (d.setFs l) :=
    (Leaves.refl _ d).setFs l (by simp [l, F.CROWN_DEAD_TX_DEAD, F.CROWN_DEAD_RX_DEAD, hdead])
  have htx : (d.setFs l).f (F.CROWN_DEAD_TX_DEAD t) = a % 2 ^ 16 :=
    State.f_setFs_at h l 0 rfl (by simp [F.CROWN_DEAD_TX_DEAD]) (by simp [l, Fld.apart, F.CROWN_DEAD_TX_DEAD, F.CROWN_DEAD_RX_DEAD])
  have hrx : (d.setFs l).f (F.CROWN_DEAD_RX_DEAD t) = b % 2 ^ 16 :=
    State.f_setFs_at h l 1 rfl (by simp [F.CROWN_DEAD_RX_DEAD]) (by simp [l])
  have hrest : Leaves (fun off => crownHead t off ∨ off = R.CROWN_DEAD t) (d.setFs l) (d.markDead t a b) := by
    unfold State.markDead
    dsimp only
    have h2 := (Leaves.refl (fun off => crownHead t off ∨ off = R.CROWN_DEAD t) (d.setFs l)).each (List.range 16)
      (fun s pl => s.setFs [(F.CROWN_PLANE_TX_OK t pl, 1 - a / 2 ^ pl % 2), (F.CROWN_PLANE_RX_OK t pl, 1 - b / 2 ^ pl % 2)])
      (fun i _ u hu => hu.setFs _ (by simpa [F.CROWN_PLANE_TX_OK, F.CROWN_PLANE_RX_OK] using hplane i))
    split
    · exact h2.raise (crownHead_linkOrCrown t) t 22
    · exact h2
  exact ⟨h1.trans (hrest.mono fun _ ho => .inl ho), (hrest.f (x := F.CROWN_DEAD_TX_DEAD t) (.inr rfl)).trans htx,
    (hrest.f (x := F.CROWN_DEAD_RX_DEAD t) (.inr rfl)).trans hrx⟩

/-- Without EN every plane of the tile is due to be marked dead (R204). -/
theorem State.dueMarks_disabled {s : State} {t : Nat} (h : s.f (F.CROWN_CTL_EN t) = 0) : s.dueMarks t = (0xFFFF, 0xFFFF) := by
  have hb : s.b (F.CROWN_CTL_EN t) = false := by rw [State.b, h]; rfl
  unfold State.dueMarks
  dsimp only
  exact if_pos (by rw [hb, Bool.not_false, Bool.or_true])

/-- A Crown disabled is off, with all its planes marked dead (R204). -/
theorem State.crownDisable_spec {u : State} (h : u.canonical) {t : Nat} (h0 : u.f (F.CROWN_CTL_EN t) = 0) :
    (u.crownEnable t false).f (F.CROWN_CTL_EN t) = 0 ∧ (u.crownEnable t false).f (F.CROWN_STAT_STATE t) = 0 ∧
      (u.crownEnable t false).f (F.CROWN_DEAD_TX_DEAD t) = 0xFFFF ∧ (u.crownEnable t false).f (F.CROWN_DEAD_RX_DEAD t) = 0xFFFF ∧
      u.keepsMemory (u.crownEnable t false) := by
  have hsc : R.CROWN_CTL t ≠ R.CROWN_STAT t := by simp only [R.CROWN_CTL, R.CROWN_STAT]; omega
  have he : u.crownEnable t false =
      ((u.setF (F.CROWN_STAT_STATE t) 0).updCr t (fun c => { c with align := none })).reapplyDetention t := rfl
  have hen : ((u.setF (F.CROWN_STAT_STATE t) 0).updCr t (fun c => { c with align := none })).f (F.CROWN_CTL_EN t) = 0 :=
    (State.updCr_f ..).trans ((State.f_setF_ne h (.inl hsc) _).trans h0)
  have hst : ((u.setF (F.CROWN_STAT_STATE t) 0).updCr t (fun c => { c with align := none })).f (F.CROWN_STAT_STATE t) = 0 :=
    (State.updCr_f ..).trans ((State.f_setF_same h.rising _ _ (by simp [F.CROWN_STAT_STATE])).trans (Nat.zero_mod _))
  have hmem : u.keepsMemory ((u.setF (F.CROWN_STAT_STATE t) 0).updCr t (fun c => { c with align := none })) :=
    (((Leaves.refl (fun _ => False) u).setF id 0).updCr t _).keepsMemory
  have hc : ((u.setF (F.CROWN_STAT_STATE t) 0).updCr t (fun c => { c with align := none })).canonical :=
    (((Kept.refl u).setF _ _).updCr t _).2 h
  rewrite [he]
  generalize (u.setF (F.CROWN_STAT_STATE t) 0).updCr t (fun c => { c with align := none }) = w at hen hst hmem hc
  have hshow : Leaves (crownHead t) w (w.showDetention t) := (Leaves.refl _ w).showDetention
  have hcs : (w.showDetention t).canonical := ((Kept.refl w).showDetention t).2 hc
  have hmark : w.reapplyDetention t = (w.showDetention t).markDead t 0xFFFF 0xFFFF := by
    unfold State.reapplyDetention
    rw [State.dueMarks_disabled hen]
  obtain ⟨hdead, htx, hrx⟩ := State.markDead_spec hcs t 0xFFFF 0xFFFF
  have hall := hshow.trans hdead
  rewrite [hmark]
  exact ⟨(hall.f (x := F.CROWN_CTL_EN t) (.inl rfl)).trans hen, (hall.f (x := F.CROWN_STAT_STATE t) (.inr rfl)).trans hst, htx, hrx,
    hmem.trans hall.keepsMemory⟩

/-! ### The first-source latches (R405) -/

theorem State.onlyRegs.setFs {s t : State} (h : s.onlyRegs t) (l : List (Fld × Nat)) : s.onlyRegs (t.setFs l) := by
  induction l generalizing t with
  | nil => exact h
  | cons e l ih => exact ih (h.setF e.1 e.2)

/-- The parts of a latch cleared, and its Bell time. -/
theorem State.clearLatch {s : State} (h : s.canonical) {src sev valid ovf lo hi : Fld} (l : List (Fld × Nat))
    (hl : l = [(src, 0), (sev, 0), (valid, 0), (ovf, 0)]) (hw : ∀ e ∈ l, e.1.lo + e.1.width ≤ 32) (hlo : lo.lo + lo.width ≤ 32)
    (hhi : hi.lo + hi.width ≤ 32) (hoff : ∀ e ∈ l, e.1.off = src.off) (ha : l.Pairwise (fun a b => a.1.apart b.1))
    (h1 : lo.off ≠ src.off) (h2 : hi.off ≠ src.off) (h3 : lo.off ≠ hi.off) :
    let u := (s.setFs l).setPair lo hi 0
    (∀ e ∈ l, u.f e.1 = 0) ∧ u.pair lo hi = 0 ∧ s.onlyRegs u ∧ s.keepsRegs u [src.off, lo.off, hi.off] := by
  have hc := State.setFs_canonical h l
  have hc1 := State.setF_canonical hc lo (0 % 2 ^ 32)
  have hz : ∀ e ∈ l, e.2 = 0 := by subst hl; simp
  intro u
  refine ⟨fun e he => ?_, ?_, ?_, ?_⟩
  · obtain ⟨i, hi', hie⟩ := List.mem_iff_getElem.1 he
    have hfar : ∀ b ∈ l.drop (i + 1), e.1.apart b.1 := fun b hb => by
      obtain ⟨j, hj, rfl⟩ := List.mem_iff_getElem.1 hb
      rw [List.getElem_drop, ← hie]
      exact List.pairwise_iff_getElem.1 ha i (i + 1 + j) _ (by rw [List.length_drop] at hj; omega) (by omega)
    have hset : (s.setFs l).f e.1 = e.2 % 2 ^ e.1.width :=
      State.f_setFs_at h l i (by rw [List.getElem?_eq_getElem hi', hie]) (hw e he) hfar
    have hn1 : e.1.off ≠ lo.off := by rw [hoff e he]; exact h1.symm
    have hn2 : e.1.off ≠ hi.off := by rw [hoff e he]; exact h2.symm
    exact (State.f_setF_ne hc1 (.inl hn2) _).trans ((State.f_setF_ne hc (.inl hn1) _).trans (hset.trans (by rw [hz e he, Nat.zero_mod])))
  · have hvl : u.f lo = 0 := (State.f_setF_ne hc1 (.inl h3) _).trans ((State.f_setF_same hc.rising lo _ hlo).trans (by simp))
    have hvh : u.f hi = 0 := (State.f_setF_same hc1.rising hi _ hhi).trans (by simp)
    rw [State.pair, hvl, hvh, Nat.mul_zero]
  · exact .setPair (.setFs (.refl s) l) lo hi 0
  · refine ((s.keepsRegs_setFs l fun e he => ?_).trans (State.keepsRegs.mono (State.keepsRegs_setF _ lo _) ?_)).trans
      (State.keepsRegs.mono (State.keepsRegs_setF _ hi _) ?_)
    · rw [hoff e he]; exact List.mem_cons_self ..
    · simp
    · simp

/-! ### The four enables and the latches as the statement has them -/

theorem State.keepsMemory_wr (s : State) (off : Nat) (v : Word) : s.keepsMemory (s.wr off v) := fun _ => ⟨rfl, rfl, rfl⟩

theorem State.keepsMemory_journalWrite (u : State) (src : BusSrc) (off : Nat) (old new : Word) : u.keepsMemory (u.journalWrite src off old new) :=
  fun _ => ⟨rfl, rfl, rfl⟩

theorem State.f_journalWrite (u : State) (src : BusSrc) (off : Nat) (old new : Word) (x : Fld) : (u.journalWrite src off old new).f x = u.f x := rfl

theorem State.rd_journalWrite (u : State) (src : BusSrc) (off : Nat) (old new : Word) (a : Nat) : (u.journalWrite src off old new).rd a = u.rd a := rfl

section
variable {s : State} {src : BusSrc} {v : BitVec 32} (h : s.canonical) (hb : s.busOk src = true)
include h hb

theorem exec_linkEnable_spec {p : Port} (hs : s.sleepsAt (R.LINK_CTL p.val) = false) (hen : s.f (F.LINK_CTL_EN p.val) = 0)
    (hst : s.f (F.LINK_STAT_STATE p.val) = 0) (ht : s.inTest (p.val / 3) = false) :
    ∃ t : State, exec (.linkEnable src p v) s = .next t ∧ t.f (F.LINK_CTL_EN p.val) = 1 ∧ t.f (F.LINK_STAT_STATE p.val) = 1 ∧
      t.f (F.EYESAFE_STATE (p.val / 3) (p.val % 3)) = (if s.node = 0 ∨ s.gated (p.val / 3) = true then 2 else 1) ∧
      s.keepsRegs t (enableRegs p.val) ∧ s.keepsMemory t := by
  have hx : exec (.linkEnable src p v) s = .next (s.busWrite src (R.LINK_CTL p.val) (v ||| 1)) := rfl
  have hbit : (s.rd (R.LINK_CTL p.val)).getLsbD 0 ≠ (v ||| 1).getLsbD 0 := by
    rw [State.f_bit0_false hen, or_one_bit0]
    exact Bool.false_ne_true
  obtain ⟨new, h1, he⟩ := State.busWrite_link p.isLt hb hs hbit
  rw [or_one_bit0] at h1 he
  obtain ⟨hen1, hst1, heye, hleaves⟩ := State.linkEnable_spec h h1 hst ht
  generalize (s.wr (R.LINK_CTL p.val) new).linkEnable p.val true = u at he hen1 hst1 heye hleaves
  rewrite [hx, he]
  refine ⟨_, rfl, ?_, ?_, ?_, fun off ho => ?_, hleaves.keepsMemory.trans (u.keepsMemory_journalWrite _ _ _ _)⟩
  · rw [State.f_journalWrite, hen1]
  · rw [State.f_journalWrite, hst1]
  · rw [State.f_journalWrite, heye]
  · rw [State.rd_journalWrite, hleaves.rd off ho]

theorem exec_linkDisable_spec {p : Port} (hs : s.sleepsAt (R.LINK_CTL p.val) = false) (hen : s.f (F.LINK_CTL_EN p.val) = 1) :
    ∃ t : State, exec (.linkDisable src p v) s = .next t ∧ t.f (F.LINK_CTL_EN p.val) = 0 ∧ t.f (F.LINK_STAT_STATE p.val) = 0 ∧
      t.f (F.EYESAFE_STATE (p.val / 3) (p.val % 3)) = 2 ∧ s.keepsMemory t := by
  have hx : exec (.linkDisable src p v) s = .next (s.busWrite src (R.LINK_CTL p.val) (v &&& ~~~1)) := rfl
  have hbit : (s.rd (R.LINK_CTL p.val)).getLsbD 0 ≠ (v &&& ~~~1).getLsbD 0 := by
    rw [State.f_bit0_true hen, and_not_one_bit0]
    exact Bool.false_ne_true.symm
  obtain ⟨new, h0, he⟩ := State.busWrite_link p.isLt hb hs hbit
  rw [and_not_one_bit0] at h0 he
  have hu : (s.wr (R.LINK_CTL p.val) new).f (F.LINK_CTL_EN p.val) = 0 := (State.f_bit0_wr h _ _).trans (by rw [h0]; rfl)
  obtain ⟨hen0, hst0, heye, hmem⟩ := State.linkDisable_spec (State.wr_canonical h _ _) hu
  have hall := (s.keepsMemory_wr (R.LINK_CTL p.val) new).trans hmem
  generalize (s.wr (R.LINK_CTL p.val) new).linkEnable p.val false = u at he hen0 hst0 heye hall
  rewrite [hx, he]
  refine ⟨_, rfl, ?_, ?_, ?_, hall.trans (u.keepsMemory_journalWrite _ _ _ _)⟩
  · rw [State.f_journalWrite, hen0]
  · rw [State.f_journalWrite, hst0]
  · rw [State.f_journalWrite, heye]

theorem exec_crownDisable_spec {t : Tile} (hs : s.sleepsAt (R.CROWN_CTL t.val) = false) (hen : s.f (F.CROWN_CTL_EN t.val) = 1) :
    ∃ u : State, exec (.crownDisable src t v) s = .next u ∧ u.f (F.CROWN_CTL_EN t.val) = 0 ∧ u.f (F.CROWN_STAT_STATE t.val) = 0 ∧
      u.f (F.CROWN_DEAD_TX_DEAD t.val) = 0xFFFF ∧ u.f (F.CROWN_DEAD_RX_DEAD t.val) = 0xFFFF ∧ s.keepsMemory u := by
  have hx : exec (.crownDisable src t v) s = .next (s.busWrite src (R.CROWN_CTL t.val) (v &&& ~~~1)) := rfl
  have hbit : (s.rd (R.CROWN_CTL t.val)).getLsbD 0 ≠ (v &&& ~~~1).getLsbD 0 := by
    rw [State.f_bit0_true hen, and_not_one_bit0]
    exact Bool.false_ne_true.symm
  obtain ⟨new, h0, he⟩ := State.busWrite_crown t.isLt hb hs hbit
  rw [and_not_one_bit0] at h0 he
  have hu : (s.wr (R.CROWN_CTL t.val) new).f (F.CROWN_CTL_EN t.val) = 0 := (State.f_bit0_wr h _ _).trans (by rw [h0]; rfl)
  obtain ⟨hen0, hst0, htx, hrx, hmem⟩ := State.crownDisable_spec (State.wr_canonical h _ _) hu
  have hall := (s.keepsMemory_wr (R.CROWN_CTL t.val) new).trans hmem
  generalize (s.wr (R.CROWN_CTL t.val) new).crownEnable t.val false = u at he hen0 hst0 htx hrx hall
  rewrite [hx, he]
  refine ⟨_, rfl, ?_, ?_, ?_, ?_, hall.trans (u.keepsMemory_journalWrite _ _ _ _)⟩
  · rw [State.f_journalWrite, hen0]
  · rw [State.f_journalWrite, hst0]
  · rw [State.f_journalWrite, htx]
  · rw [State.f_journalWrite, hrx]

end

theorem State.clearFirst_tile {s : State} (h : s.canonical) (t : Tile) :
    ∃ u : State, s.clearFirst (.tile t) = u ∧ u.f (F.FFIRST_VALID t.val) = 0 ∧ u.f (F.FFIRST_SRC t.val) = 0 ∧ u.f (F.FFIRST_SEV t.val) = 0 ∧
      u.f (F.FFIRST_OVF t.val) = 0 ∧ u.pair (F.FFIRST_BELL_LO t.val) (F.FFIRST_BELL_HI t.val) = 0 ∧ s.onlyRegs u ∧
      s.keepsRegs u [R.FFIRST t.val, R.FFIRST_BELL_LO t.val, R.FFIRST_BELL_HI t.val] := by
  have h1 : R.FFIRST_BELL_LO t.val ≠ R.FFIRST t.val := by simp only [R.FFIRST, R.FFIRST_BELL_LO]; omega
  have h2 : R.FFIRST_BELL_HI t.val ≠ R.FFIRST t.val := by simp only [R.FFIRST, R.FFIRST_BELL_HI]; omega
  have h3 : R.FFIRST_BELL_LO t.val ≠ R.FFIRST_BELL_HI t.val := by simp only [R.FFIRST_BELL_LO, R.FFIRST_BELL_HI]; omega
  obtain ⟨hf, hpair, honly, hregs⟩ := State.clearLatch h _ rfl (src := F.FFIRST_SRC t.val) (sev := F.FFIRST_SEV t.val)
    (valid := F.FFIRST_VALID t.val) (ovf := F.FFIRST_OVF t.val) (lo := F.FFIRST_BELL_LO t.val) (hi := F.FFIRST_BELL_HI t.val)
    (by simp [F.FFIRST_SRC, F.FFIRST_SEV, F.FFIRST_VALID, F.FFIRST_OVF]) (by simp [F.FFIRST_BELL_LO]) (by simp [F.FFIRST_BELL_HI])
    (by simp [F.FFIRST_SRC, F.FFIRST_SEV, F.FFIRST_VALID, F.FFIRST_OVF])
    (by simp [Fld.apart, F.FFIRST_SRC, F.FFIRST_SEV, F.FFIRST_VALID, F.FFIRST_OVF]) h1 h2 h3
  exact ⟨_, rfl, hf (F.FFIRST_VALID t.val, 0) (by simp), hf (F.FFIRST_SRC t.val, 0) (by simp), hf (F.FFIRST_SEV t.val, 0) (by simp),
    hf (F.FFIRST_OVF t.val, 0) (by simp), hpair, honly, hregs⟩

theorem State.clearFirst_module {s : State} (h : s.canonical) :
    ∃ u : State, s.clearFirst .module = u ∧ u.f F.MFIRST_VALID = 0 ∧ u.f F.MFIRST_SRC = 0 ∧ u.f F.MFIRST_SEV = 0 ∧
      u.f F.MFIRST_OVF = 0 ∧ u.pair F.MFIRST_BELL_LO F.MFIRST_BELL_HI = 0 ∧ s.onlyRegs u ∧
      s.keepsRegs u [R.MFIRST, R.MFIRST_BELL_LO, R.MFIRST_BELL_HI] := by
  obtain ⟨hf, hpair, honly, hregs⟩ := State.clearLatch h _ rfl (src := F.MFIRST_SRC) (sev := F.MFIRST_SEV) (valid := F.MFIRST_VALID)
    (ovf := F.MFIRST_OVF) (lo := F.MFIRST_BELL_LO) (hi := F.MFIRST_BELL_HI) (by decide) (by decide) (by decide) (by decide)
    (by simp [Fld.apart, F.MFIRST_SRC, F.MFIRST_SEV, F.MFIRST_VALID, F.MFIRST_OVF]) (by decide) (by decide) (by decide)
  exact ⟨_, rfl, hf (F.MFIRST_VALID, 0) (by simp), hf (F.MFIRST_SRC, 0) (by simp), hf (F.MFIRST_SEV, 0) (by simp),
    hf (F.MFIRST_OVF, 0) (by simp), hpair, honly, hregs⟩

end Sys2Proof.Machine

open Sys2Proof Sys2Proof.Machine

/-- Settles O23: each register's write by its place and row, and then by what follows the stored value. -/
theorem enableRegisters : Obligations.EnableRegisters := by
  unfold Obligations.EnableRegisters
  refine ⟨fun src v s hb => ⟨fun hn => ?_, fun new hnew hn hne => ?_⟩,
    fun src p v s h hb hs => ⟨fun hen hst ht => exec_linkEnable_spec h hb hs hen hst ht, fun hen _ _ => exec_linkDisable_spec h hb hs hen⟩,
    fun src t v s h hb => ⟨fun hs hen => exec_crownDisable_spec h hb hs hen, fun hs hst hm hh hen => ?_, fun new hnew hne => ?_⟩,
    fun s h => ⟨fun t => ?_, ?_⟩⟩
  · have hx : exec (.nodeCfgWrite src v) s = .next (s.busWrite src R.NODE_CFG v) := rfl
    rw [hx, State.busWrite_node_refused hb hn]
  · have hx : exec (.nodeCfgWrite src v) s = .next (s.busWrite src R.NODE_CFG v) := rfl
    exact hx.trans (congrArg Host.Outcome.next (State.busWrite_node hb hnew hn hne))
  · have hx : exec (.omeDisable src t v) s = .next (s.busWrite src (R.OME_CTL t.val) (v &&& ~~~1)) := rfl
    obtain ⟨new, h0, he⟩ := State.busWrite_ome t.isLt hb hs hst hm hh (State.f_bit0_true hen) (and_not_one_bit0 v)
    exact ⟨new, h0, hx.trans (congrArg Host.Outcome.next he)⟩
  · have hx : exec (.tilePwrCtlWrite src t v) s = .next (s.busWrite src (R.TILE_PWR_CTL t.val) v) := rfl
    exact hx.trans (congrArg Host.Outcome.next (State.busWrite_mode t.isLt hb hnew hne))
  · have hx : exec (.ffirstValidClear (.tile t)) s = .next (s.clearFirst (.tile t)) := rfl
    obtain ⟨u, hu, hfields⟩ := State.clearFirst_tile h t
    exact ⟨u, hx.trans (congrArg Host.Outcome.next hu), hfields⟩
  · have hx : exec (.ffirstValidClear .module) s = .next (s.clearFirst .module) := rfl
    obtain ⟨u, hu, hfields⟩ := State.clearFirst_module h
    exact ⟨u, hx.trans (congrArg Host.Outcome.next hu), hfields⟩
end

section
/-! SUPPORT. Fields that each unit of a list stores in registers of its own (R3). -/

namespace Sys2Proof.Machine

/-- Fields stored unit by unit read as stored, where a unit's own do not disturb each other and another unit's lie in other registers. -/
theorem State.each_setFs {s : State} (h : s.canonical) (g : Nat → List (Fld × Nat)) (l : List Nat) {W : List Nat}
    (hW : ∀ j ∈ l, ∀ e ∈ g j, e.1.off ∈ W) (hown : ∀ j, ∀ u : State, u.canonical → ∀ e ∈ g j, (u.setFs (g j)).f e.1 = e.2)
    (hfar : ∀ i j, i ≠ j → ∀ e ∈ g i, ∀ x ∈ g j, e.1.off ≠ x.1.off) :
    let u := s.each l (fun s j => s.setFs (g j))
    u.canonical ∧ s.onlyRegs u ∧ s.keepsRegs u W ∧ ∀ j, (j ∈ l ∨ ∀ e ∈ g j, s.f e.1 = e.2) → ∀ e ∈ g j, u.f e.1 = e.2 := by
  induction l generalizing s with
  | nil => exact ⟨h, .refl s, fun _ _ => rfl, fun j hj => hj.resolve_left List.not_mem_nil⟩
  | cons a l ih =>
    have hk : s.keepsRegs (s.setFs (g a)) W := s.keepsRegs_setFs _ (hW a (List.mem_cons_self ..))
    have honly := (State.onlyRegs.refl s).setFs (g a)
    obtain ⟨ic, io, ik, il⟩ := ih (State.setFs_canonical h (g a)) (fun j hj => hW j (List.mem_cons_of_mem _ hj))
    refine ⟨ic, honly.trans io, hk.trans ik, fun j hj => il j ?_⟩
    by_cases ha : j = a
    · subst ha
      exact .inr (hown j s h)
    · refine hj.imp (fun hm => (List.mem_cons.1 hm).resolve_left ha) fun hs e he => ?_
      rw [State.f_setFs_ne h (g a) (fun x hx => .inl (hfar j a ha e he x hx))]
      exact hs e he

end Sys2Proof.Machine
end

section
/-! SUPPORT. A port whose light is lost, and whose light is back (R128, R129, R183). -/

namespace Sys2Proof.Machine

/-! ### Light lost (R128) -/

/-- What a lane shows without light. -/
def laneDark (q j : Nat) : List (Fld × Nat) := [(F.LANE_STAT_CDR_LOCK q j, 0), (F.LANE_STAT_STANDBY q j, 0)]

/-- LOS set, and no lane of the port in CDR lock or STANDBY. -/
def State.loseLight (s : State) (q : Nat) : State :=
  (s.each (List.range 17) (fun s j => s.setFs (laneDark q j))).setF (F.EYESAFE_LOS (q / 3) (q % 3)) 1

/-- The registers that the loss of light writes. -/
def lightRegs (q : Nat) : List Nat := R.EYESAFE (q / 3) (q % 3) :: (List.range 17).map (R.LANE_STAT q)

theorem mem_lightRegs {q off : Nat} : off ∈ lightRegs q ↔ off = R.EYESAFE (q / 3) (q % 3) ∨ ∃ j < 17, R.LANE_STAT q j = off := by
  simp only [lightRegs, List.mem_cons, List.mem_map, List.mem_range]

theorem laneStat_ne {q i j : Nat} (h : i ≠ j) : R.LANE_STAT q i ≠ R.LANE_STAT q j := by
  simp only [R.LANE_STAT]
  omega

theorem laneStat_ne_eyesafe (q j : Nat) (hj : j < 17) : R.LANE_STAT q j ≠ R.EYESAFE (q / 3) (q % 3) := by
  simp only [R.LANE_STAT, R.EYESAFE, portBase]
  omega

theorem laneDark_off {q j : Nat} : ∀ e ∈ laneDark q j, e.1.off = R.LANE_STAT q j := by
  simp [laneDark, F.LANE_STAT_CDR_LOCK, F.LANE_STAT_STANDBY]

theorem State.f_laneDark {u : State} (h : u.canonical) (q j : Nat) : ∀ e ∈ laneDark q j, (u.setFs (laneDark q j)).f e.1 = e.2 := by
  have hlock : (u.setFs (laneDark q j)).f (F.LANE_STAT_CDR_LOCK q j) = 0 :=
    (State.f_setFs_at (v := 0) h _ 0 rfl (by simp [F.LANE_STAT_CDR_LOCK])
      (by simp [laneDark, Fld.apart, F.LANE_STAT_CDR_LOCK, F.LANE_STAT_STANDBY])).trans (Nat.zero_mod _)
  have hstand : (u.setFs (laneDark q j)).f (F.LANE_STAT_STANDBY q j) = 0 :=
    (State.f_setFs_at (v := 0) h _ 1 rfl (by simp [F.LANE_STAT_STANDBY]) (by simp [laneDark])).trans (Nat.zero_mod _)
  intro e he
  rcases List.mem_cons.1 he with rfl | he
  · exact hlock
  · obtain rfl := List.mem_singleton.1 he
    exact hstand

theorem State.loseLight_spec {s : State} (h : s.canonical) (q : Nat) :
    (s.loseLight q).canonical ∧ s.onlyRegs (s.loseLight q) ∧ s.keepsRegs (s.loseLight q) (lightRegs q) ∧
      (s.loseLight q).f (F.EYESAFE_LOS (q / 3) (q % 3)) = 1 ∧
      ∀ j < 17, (s.loseLight q).f (F.LANE_STAT_CDR_LOCK q j) = 0 ∧ (s.loseLight q).f (F.LANE_STAT_STANDBY q j) = 0 := by
  obtain ⟨hc, honly, hk, hl⟩ := State.each_setFs h (laneDark q) (List.range 17) (W := lightRegs q)
    (fun j hj e he => mem_lightRegs.2 (.inr ⟨j, List.mem_range.1 hj, (laneDark_off e he).symm⟩)) (fun j u hu => State.f_laneDark hu q j)
    (fun i j hij e he x hx => by rw [laneDark_off e he, laneDark_off x hx]; exact laneStat_ne hij)
  refine ⟨State.setF_canonical hc _ _, honly.setF _ _,
    hk.trans ((State.keepsRegs_setF _ _ _).mono fun a ha => mem_lightRegs.2 (.inl (List.mem_singleton.1 ha))),
    (State.f_setF_same hc.rising _ _ (by simp [F.EYESAFE_LOS])).trans (Nat.mod_eq_of_lt (by simp [F.EYESAFE_LOS])), fun j hj => ?_⟩
  have hdark : ∀ e ∈ laneDark q j, (s.loseLight q).f e.1 = e.2 := fun e he =>
    (State.f_setF_off (by rw [laneDark_off e he]; exact laneStat_ne_eyesafe q j hj) _).trans (hl j (.inl (List.mem_range.2 hj)) e he)
  exact ⟨hdark (F.LANE_STAT_CDR_LOCK q j, 0) (List.mem_cons_self ..),
    hdark (F.LANE_STAT_STANDBY q j, 0) (List.mem_cons_of_mem _ (List.mem_singleton.2 rfl))⟩

/-- A shutter shut leaves LOS and forgets the beacon; it changes registers and the port's link, and drives the beacon. -/
theorem State.shut_light {s : State} (h : s.canonical) (p : Nat) :
    (s.shut p).f (F.EYESAFE_LOS (p / 3) (p % 3)) = s.f (F.EYESAFE_LOS (p / 3) (p % 3)) ∧ (s.shut p).f (F.EYESAFE_BEACON_OK (p / 3) (p % 3)) = 0 ∧
      s.shut p = { s with regs := (s.shut p).regs, links := (s.shut p).links, out := (s.shut p).out } := by
  unfold State.shut
  dsimp only
  generalize (!s.b (F.LINK_CTL_EN p) || s.node == 0 || s.gated (p / 3)) = dark
  have hcount : ∃ s1, s1 = (if s.f (F.EYESAFE_STATE (p / 3) (p % 3)) = 0 then s.bump (F.EYESAFE_SHUT_CNT (p / 3) (p % 3)) else s) ∧
      s1.canonical ∧ s.onlyRegs s1 ∧ s1.f (F.EYESAFE_LOS (p / 3) (p % 3)) = s.f (F.EYESAFE_LOS (p / 3) (p % 3)) := by
    refine ⟨_, rfl, ?_⟩
    split
    · exact ⟨((Kept.refl s).bump _ _).2 h, rfl, State.f_setF_apart h.rising (.inr (by simp [F.EYESAFE_LOS, F.EYESAFE_SHUT_CNT])) _⟩
    · exact ⟨h, .refl s, rfl⟩
  obtain ⟨s1, he, hc1, honly, hlos⟩ := hcount
  rw [← he]
  generalize hl : [(F.EYESAFE_STATE (p / 3) (p % 3), if dark = true then 2 else 1), (F.EYESAFE_BEACON_OK (p / 3) (p % 3), 0)] = l
  have hlos2 : (s1.setFs l).f (F.EYESAFE_LOS (p / 3) (p % 3)) = s.f (F.EYESAFE_LOS (p / 3) (p % 3)) := by
    rw [← hlos]
    exact State.f_setFs_ne hc1 l (by rw [← hl]; simp [Fld.apart, F.EYESAFE_LOS, F.EYESAFE_STATE, F.EYESAFE_BEACON_OK])
  have hok : (s1.setFs l).f (F.EYESAFE_BEACON_OK (p / 3) (p % 3)) = 0 :=
    (State.f_setFs_at (v := 0) hc1 l 1 (by rw [← hl]; rfl) (by simp [F.EYESAFE_BEACON_OK]) (by rw [← hl]; simp)).trans (Nat.zero_mod _)
  have h2 := honly.setFs l
  generalize s1.setFs l = s2 at hlos2 hok h2
  obtain ⟨regs, rfl⟩ : ∃ regs, s2 = { s with regs := regs } := ⟨_, h2.eq⟩
  cases dark with
  | true => exact ⟨hlos2, hok, rfl⟩
  | false => exact ⟨hlos2, hok, rfl⟩

theorem State.linkKeeps_iff {s : State} {p : Nat} (hp : p < 240) :
    s.linkKeeps p = true ↔ s.f (F.LINK_STAT_STATE p) = 3 ∨ s.f (F.LINK_STAT_STATE p) = 4 := by
  simp [State.linkKeeps, hp]

/-- The registers that decide how a shutter is shut are not those of the light. -/
theorem not_mem_lightRegs (q : Nat) {off : Nat} (h : off = R.LINK_CTL q ∨ off = R.LINK_STAT q ∨ off = R.NODE_CFG ∨ off = R.MFSTATE ∨
    off = R.FSTATE (q / 3)) :
    off ∉ lightRegs q := by
  intro hm
  simp only [R.LINK_CTL, R.LINK_STAT, R.NODE_CFG, R.MFSTATE, R.FSTATE] at h
  rcases mem_lightRegs.1 hm with rfl | ⟨j, hj, rfl⟩
  · simp only [R.EYESAFE, portBase, tileBase] at h
    omega
  · simp only [R.LANE_STAT, portBase, tileBase] at h
    omega

/-- What the loss of light shows on a port, whatever it does to the link after (R128, R129). -/
theorem State.loseLight_shut {s : State} (h : s.canonical) (q : Nat) :
    let u := (s.loseLight q).shut q
    u.f (F.EYESAFE_LOS (q / 3) (q % 3)) = 1 ∧ u.f (F.EYESAFE_BEACON_OK (q / 3) (q % 3)) = 0 ∧
      u.f (F.EYESAFE_STATE (q / 3) (q % 3)) = (if s.b (F.LINK_CTL_EN q) = false ∨ s.node = 0 ∨ s.gated (q / 3) = true then 2 else 1) ∧
      (∀ j < 17, u.f (F.LANE_STAT_CDR_LOCK q j) = 0 ∧ u.f (F.LANE_STAT_STANDBY q j) = 0) ∧
      s.keepsRegs u (lightRegs q) ∧ u = { s with regs := u.regs, links := u.links, out := u.out } := by
  obtain ⟨hc, honly, hk, hlos, hlanes⟩ := s.loseLight_spec h q
  have hen : (s.loseLight q).b (F.LINK_CTL_EN q) = s.b (F.LINK_CTL_EN q) := by
    rw [State.b, State.b, hk.f (not_mem_lightRegs q (.inl rfl))]
  have hnode : (s.loseLight q).node = s.node := hk.f (not_mem_lightRegs q (.inr (.inr (.inl rfl))))
  have hgate : (s.loseLight q).gated (q / 3) = s.gated (q / 3) := by
    rw [State.gated, State.gated, hk.f (not_mem_lightRegs q (.inr (.inr (.inr (.inr rfl))))),
      hk.f (not_mem_lightRegs q (.inr (.inr (.inr (.inl rfl)))))]
  obtain ⟨hleaves, hstate⟩ := State.shut_spec hc q
  obtain ⟨hlos2, hok, hframe⟩ := State.shut_light hc q
  intro u
  have hu : u = (s.loseLight q).shut q := rfl
  rw [← hu] at hleaves hstate hlos2 hok hframe
  refine ⟨hlos2.trans hlos, hok, ?_, fun j hj => ?_, fun off hn => ?_, ?_⟩
  · rw [hstate, hen, hnode, hgate]
    simp [or_assoc]
  · obtain ⟨h1, h2⟩ := hlanes j hj
    exact ⟨(hleaves.f (laneStat_ne_eyesafe q j hj)).trans h1, (hleaves.f (laneStat_ne_eyesafe q j hj)).trans h2⟩
  · exact (hleaves.rd off fun he => hn (mem_lightRegs.2 (.inl he))).trans (hk off hn)
  · exact hframe.trans (by rw [honly.eq])

theorem exec_losAssert (p : Port) (s : State) :
    let u := (s.loseLight p.val).shut p.val
    exec (.losAssert p) s = .next (if u.linkKeeps p.val then u.declareDown p.val 1
      else if u.f (F.LINK_STAT_STATE p.val) = 2 then
        (u.setFs [(F.LINK_STAT_STATE p.val, 1), (F.SDS_STAT_STAGE p.val, 0)]).updLink p.val (fun l => { l with train := none, retryWait := false })
      else u.updLink p.val (fun l => { l with retryWait := false })) := rfl

section
variable {s : State} {p : Port}

theorem State.loseLight_state (h : s.canonical) (q : Nat) :
    ((s.loseLight q).shut q).f (F.LINK_STAT_STATE q) = s.f (F.LINK_STAT_STATE q) := by
  obtain ⟨-, -, -, -, hk, -⟩ := State.loseLight_shut h q
  exact hk.f (not_mem_lightRegs q (.inr (.inl rfl)))

theorem exec_losAssert_kept (h : s.canonical) (hk : s.linkKeeps p.val = true) :
    exec (.losAssert p) s = .next (((s.loseLight p.val).shut p.val).declareDown p.val 1) := by
  have hp : p.val < 240 := Nat.lt_of_lt_of_le p.isLt (by decide)
  have hu : ((s.loseLight p.val).shut p.val).linkKeeps p.val = true := by
    rw [State.linkKeeps_iff hp, State.loseLight_state h, ← State.linkKeeps_iff hp]
    exact hk
  rw [exec_losAssert, if_pos hu]

theorem exec_losAssert_training (h : s.canonical) (h2 : s.f (F.LINK_STAT_STATE p.val) = 2) :
    exec (.losAssert p) s = .next ((((s.loseLight p.val).shut p.val).setFs [(F.LINK_STAT_STATE p.val, 1), (F.SDS_STAT_STAGE p.val, 0)]).updLink p.val
      (fun l => { l with train := none, retryWait := false })) := by
  have hp : p.val < 240 := Nat.lt_of_lt_of_le p.isLt (by decide)
  have hu : ¬ ((s.loseLight p.val).shut p.val).linkKeeps p.val = true := by
    rw [State.linkKeeps_iff hp, State.loseLight_state h]
    omega
  rw [exec_losAssert, if_neg hu, if_pos ((State.loseLight_state h _).trans h2)]

theorem exec_losAssert_idle (h : s.canonical) (hs : s.f (F.LINK_STAT_STATE p.val) < 2 ∨ s.f (F.LINK_STAT_STATE p.val) = 5) :
    exec (.losAssert p) s = .next (((s.loseLight p.val).shut p.val).updLink p.val (fun l => { l with retryWait := false })) := by
  have hp : p.val < 240 := Nat.lt_of_lt_of_le p.isLt (by decide)
  have hu : ¬ ((s.loseLight p.val).shut p.val).linkKeeps p.val = true := by
    rw [State.linkKeeps_iff hp, State.loseLight_state h]
    omega
  have h2 : ¬ ((s.loseLight p.val).shut p.val).f (F.LINK_STAT_STATE p.val) = 2 := by
    rw [State.loseLight_state h]
    omega
  rw [exec_losAssert, if_neg hu, if_neg h2]

end

theorem State.updLink_within {s u : State} (h : u = { s with regs := u.regs, links := u.links, out := u.out }) (q : Nat) (g : Link → Link) :
    u.updLink q g = { s with regs := (u.updLink q g).regs, links := (u.updLink q g).links, out := (u.updLink q g).out } := by
  obtain ⟨regs, links, out, rfl⟩ : ∃ regs links out, u = { s with regs := regs, links := links, out := out } := ⟨_, _, _, h⟩
  rfl

/-! ### Light back (R128, R129, R183) -/

/-- What follows LOS cleared: a HELD port is DOWN, and the shutter may open where the far end has been seen. -/
def State.lightBack (s : State) (q : Nat) : State :=
  let u := if s.f (F.LINK_STAT_STATE q) = 5 then s.setFs [(F.LINK_STAT_STATE q, 1), (F.LINK_STAT_CONFLICT q, 0)] else s
  if u.b (F.EYESAFE_BEACON_OK (q / 3) (q % 3)) then u.openShutter q else u

theorem exec_losDeassert (p : Port) (s : State) :
    exec (.losDeassert p) s = .next ((s.setF (F.EYESAFE_LOS (p.val / 3) (p.val % 3)) 0).lightBack p.val) := rfl

section
variable {s : State} {q : Nat}

theorem State.lightBack_unseen (h5 : s.f (F.LINK_STAT_STATE q) ≠ 5) (hb : s.b (F.EYESAFE_BEACON_OK (q / 3) (q % 3)) = false) :
    s.lightBack q = s := by
  unfold State.lightBack
  rw [if_neg h5]
  exact if_neg (by rw [hb]; decide)

theorem State.lightBack_held (h : s.canonical) (h5 : s.f (F.LINK_STAT_STATE q) = 5) (hb : s.b (F.EYESAFE_BEACON_OK (q / 3) (q % 3)) = false) :
    s.lightBack q = s.setFs [(F.LINK_STAT_STATE q, 1), (F.LINK_STAT_CONFLICT q, 0)] := by
  have hne : R.EYESAFE (q / 3) (q % 3) ≠ R.LINK_STAT q := by
    simp only [R.EYESAFE, R.LINK_STAT, portBase]
    omega
  have hu : (s.setFs [(F.LINK_STAT_STATE q, 1), (F.LINK_STAT_CONFLICT q, 0)]).b (F.EYESAFE_BEACON_OK (q / 3) (q % 3)) = false := by
    rw [State.b, State.f_setFs_ne h _ (by simp [Fld.apart, F.EYESAFE_BEACON_OK, F.LINK_STAT_STATE, F.LINK_STAT_CONFLICT, hne])]
    exact hb
  unfold State.lightBack
  rw [if_pos h5]
  exact if_neg (by rw [hu]; decide)

theorem State.lightBack_seen (h5 : s.f (F.LINK_STAT_STATE q) ≠ 5) (hb : s.b (F.EYESAFE_BEACON_OK (q / 3) (q % 3)) = true) :
    s.lightBack q = s.openShutter q := by
  unfold State.lightBack
  rw [if_neg h5]
  exact if_pos hb

end

theorem State.openShutter_opens {s : State} {p : Nat} (hen : s.b (F.LINK_CTL_EN p) = true) (hn : s.node ≠ 0) (hg : s.gated (p / 3) = false)
    (hlos : s.f (F.EYESAFE_LOS (p / 3) (p % 3)) = 0) (hst : s.f (F.EYESAFE_STATE (p / 3) (p % 3)) ≠ 0) :
    s.openShutter p = (s.setF (F.EYESAFE_STATE (p / 3) (p % 3)) 0).startFull p := by
  have hdark : s.b (F.EYESAFE_LOS (p / 3) (p % 3)) = false := by rw [State.b, hlos]; rfl
  unfold State.openShutter
  exact if_pos (by simp [hen, hn, hg, hdark, hst])

/-- Clearing LOS leaves the link's state, the beacon's, the shutter's, and what lets the shutter open. -/
theorem State.clearLos_spec {s : State} (h : s.canonical) (q : Nat) :
    let u := s.setF (F.EYESAFE_LOS (q / 3) (q % 3)) 0
    u.canonical ∧ u.f (F.EYESAFE_LOS (q / 3) (q % 3)) = 0 ∧ u.b (F.EYESAFE_BEACON_OK (q / 3) (q % 3)) = s.b (F.EYESAFE_BEACON_OK (q / 3) (q % 3)) ∧
      u.f (F.EYESAFE_STATE (q / 3) (q % 3)) = s.f (F.EYESAFE_STATE (q / 3) (q % 3)) ∧ u.f (F.LINK_STAT_STATE q) = s.f (F.LINK_STAT_STATE q) ∧
      u.b (F.LINK_CTL_EN q) = s.b (F.LINK_CTL_EN q) ∧ u.node = s.node ∧ u.gated (q / 3) = s.gated (q / 3) := by
  intro u
  have hk : s.keepsRegs u (lightRegs q) := (s.keepsRegs_setF _ _).mono fun a ha => mem_lightRegs.2 (.inl (List.mem_singleton.1 ha))
  refine ⟨State.setF_canonical h _ _, (State.f_setF_same h.rising _ _ (by simp [F.EYESAFE_LOS])).trans (Nat.zero_mod _), ?_,
    State.f_setF_apart h.rising (.inr (by simp [F.EYESAFE_LOS, F.EYESAFE_STATE])) _, hk.f (not_mem_lightRegs q (.inr (.inl rfl))), ?_,
    hk.f (not_mem_lightRegs q (.inr (.inr (.inl rfl)))), ?_⟩
  · rw [State.b, State.b, State.f_setF_apart h.rising (.inl (by simp [F.EYESAFE_LOS, F.EYESAFE_BEACON_OK]))]
  · rw [State.b, State.b, hk.f (not_mem_lightRegs q (.inl rfl))]
  · rw [State.gated, State.gated, hk.f (not_mem_lightRegs q (.inr (.inr (.inr (.inr rfl))))),
      hk.f (not_mem_lightRegs q (.inr (.inr (.inr (.inl rfl)))))]

/-! ### Beacon words (R129) -/

theorem exec_beaconWordReceive (p : Port) (w : BitVec 64) (s : State) :
    exec (.beaconWordReceive p w) s =
      if crc16Bits (bitsDown w.toNat 63 16) ≠ w.toNat % 65536 then .next (s.updLink p.val (fun l => { l with beacon := none }))
      else if (s.link p.val).beacon = some w.toNat then
        .next (((s.setF (F.EYESAFE_BEACON_OK (p.val / 3) (p.val % 3)) 1).updLink p.val (fun l => { l with
          farNode := w.toNat / 2 ^ 49, farPort := w.toNat / 2 ^ 41 % 256, farEpoch := w.toNat / 2 ^ 25 % 65536 })).openShutter p.val)
      else .next (s.updLink p.val (fun l => { l with beacon := some w.toNat })) := rfl

end Sys2Proof.Machine

open Sys2Proof Sys2Proof.Machine

/-- Settles O24: light lost by the state of the link, light back by the state and the beacon, and the beacon's words. -/
theorem shutterEvents : Obligations.ShutterEvents := by
  unfold Obligations.ShutterEvents
  intro p s h q t i
  obtain ⟨hc, clos, cok, cst, clink, cen, cnode, cgate⟩ := State.clearLos_spec h q
  refine ⟨fun h1 => ?_, ⟨fun hk => exec_losAssert_kept h hk, fun h2 => exec_losAssert_training h h2⟩, fun hb h5 => ?_, fun hb h5 => ?_,
    fun hb h5 hen hn hg he => ?_, fun w hw => ?_, fun w hw => ⟨fun hb => ?_, fun hb => ?_⟩⟩
  · obtain ⟨hlos, hok, hst, hlanes, hk, hframe⟩ := State.loseLight_shut h q
    refine ⟨_, exec_losAssert_idle h h1, ?_, ?_, ?_, fun j hj => ?_, fun off hn => ?_, State.updLink_within hframe q _⟩
    · rw [State.updLink_f, hlos]
    · rw [State.updLink_f, hok]
    · rw [State.updLink_f, hst]
    · rw [State.updLink_f, State.updLink_f]
      exact hlanes j hj
    · rw [State.updLink_rd]
      exact hk off hn
  · exact congrArg Host.Outcome.next (State.lightBack_unseen (by rw [clink]; exact h5) (cok.trans hb))
  · exact congrArg Host.Outcome.next (State.lightBack_held hc (clink.trans h5) (cok.trans hb))
  · exact congrArg Host.Outcome.next ((State.lightBack_seen (by rw [clink]; exact h5) (cok.trans hb)).trans
      (State.openShutter_opens (cen.trans hen) (by rw [cnode]; exact hn) (cgate.trans hg) clos (by rw [cst]; exact he)))
  · rw [exec_beaconWordReceive, if_pos hw]
  · rw [exec_beaconWordReceive, if_neg (not_not.2 hw), if_neg hb]
  · rw [exec_beaconWordReceive, if_neg (not_not.2 hw), if_pos hb]
end

section
/-! SUPPORT. Ring locks, the optical reference, and combs started and stopped (R114 to R121, R356, R401). -/

namespace Sys2Proof.Machine

/-! ### Rings (R121) -/

section
variable {t : Tile} {n : BitVec 12} {s : State}

theorem exec_ring_searching (h : s.ring t.val n.toNat = .search) :
    exec (.ringResonanceFound t n) s = .next ((s.setRing t.val n.toNat .locked).syncHeads t.val) ∧
    exec (.ringSearchTimeout t n) s = .next ((s.bump (F.RING_SUM_LOST t.val)).note 0x2 .ringLost 2 (tgtTile t.val) n.toNat) ∧
    exec (.ringLockLost t n) s = .next s :=
  ⟨congrArg Host.Outcome.next (if_pos h), congrArg Host.Outcome.next (if_pos h),
    congrArg Host.Outcome.next (if_neg (by rw [h]; exact RingState.noConfusion))⟩

theorem exec_ring_locked (h : s.ring t.val n.toNat = .locked) :
    exec (.ringResonanceFound t n) s = .next s ∧ exec (.ringSearchTimeout t n) s = .next s ∧
    exec (.ringLockLost t n) s = .next (((s.setRing t.val n.toNat .search).bump (F.RING_SUM_LOST t.val)).raise t.val 8) := by
  have hn : ¬ s.ring t.val n.toNat = .search := by rw [h]; exact RingState.noConfusion
  exact ⟨congrArg Host.Outcome.next (if_neg hn), congrArg Host.Outcome.next (if_neg hn), congrArg Host.Outcome.next (if_pos h)⟩

end

theorem Map.mem_put_same {α : Type} (k : Nat) (v : α) (m : List (Nat × α)) : (k, v) ∈ Map.put k v m := by
  induction m with
  | nil => exact List.mem_singleton.2 rfl
  | cons e m ih =>
    unfold Map.put
    split
    · exact List.mem_cons_self
    · split
      · exact List.mem_cons_self
      · exact List.mem_cons_of_mem _ ih

theorem foldl_min_le {l : List Nat} {b x : Nat} (h : b ≤ x ∨ x ∈ l) : l.foldl min b ≤ x := by
  induction l generalizing b with
  | nil => exact h.resolve_right List.not_mem_nil
  | cons a l ih =>
    rw [List.foldl_cons]
    refine ih (h.elim (fun hb => .inl ((Nat.min_le_left b a).trans hb)) fun hm => (List.mem_cons.1 hm).imp_left fun ha => ?_)
    exact ha ▸ Nat.min_le_right b a

theorem State.syncHeads_low {s : State} {t : Nat} (h : (s.ph t).heads ≠ []) :
    s.syncHeads t = s.setFs [(F.RING_SUM_MIN_HEAD t, ((s.ph t).heads.map (·.2)).foldl min 255), (F.RING_SUM_HEADROOM_LOW t, 1)] := by
  unfold State.syncHeads
  split
  · next he => exact absurd he h
  · rfl

/-- A low headroom shows in HEADROOM_LOW and bounds the least headroom (R121). -/
theorem State.syncHeads_spec {s : State} (h : s.canonical) {t n head : Nat} (hm : (n, head) ∈ (s.ph t).heads) :
    (s.syncHeads t).f (F.RING_SUM_HEADROOM_LOW t) = 1 ∧ (s.syncHeads t).f (F.RING_SUM_MIN_HEAD t) ≤ head ∧
      s.keepsRegs (s.syncHeads t) [R.RING_SUM t] ∧ s.onlyRegs (s.syncHeads t) := by
  rw [State.syncHeads_low (List.ne_nil_of_mem hm)]
  refine ⟨?_, ?_, s.keepsRegs_setFs _ (by simp [F.RING_SUM_MIN_HEAD, F.RING_SUM_HEADROOM_LOW]), (State.onlyRegs.refl s).setFs _⟩
  · exact (State.f_setFs_at (v := 1) h _ 1 rfl (by simp [F.RING_SUM_HEADROOM_LOW]) (by simp)).trans
      (Nat.mod_eq_of_lt (by simp [F.RING_SUM_HEADROOM_LOW]))
  · rw [State.f_setFs_at h _ 0 rfl (by simp [F.RING_SUM_MIN_HEAD]) (by simp [Fld.apart, F.RING_SUM_MIN_HEAD, F.RING_SUM_HEADROOM_LOW])]
    exact (Nat.mod_le ..).trans (foldl_min_le (.inr (List.mem_map_of_mem hm)))

theorem tileReg_not_mem_log (t c : Nat) : tileBase t + c ∉ logRegs := by
  intro hm
  have hall : ∀ a ∈ logRegs, a < 0x100000 := by decide
  have := hall _ hm
  unfold tileBase at this
  omega

theorem State.ph_updPh_same {s : State} {t : Nat} {g : Photo → Photo} (h : g (s.ph t) ≠ {}) : (s.updPh t g).ph t = g (s.ph t) :=
  Map.get_upd_of_ne h

/-- A tile's photonics with a ring's headroom reported low. -/
def State.reportHead (s : State) (t n head : Nat) : State := s.updPh t (fun p => { p with heads := Map.put n head p.heads })

theorem State.reportHead_ph (s : State) (t n head : Nat) :
    (s.reportHead t n head).ph t = { s.ph t with heads := Map.put n head (s.ph t).heads } :=
  State.ph_updPh_same fun hd => List.ne_nil_of_mem (Map.mem_put_same n head (s.ph t).heads) (congrArg Photo.heads hd)

theorem exec_ringHeadroomLow {t : Tile} {n : BitVec 12} {head : BitVec 8} {s : State} (h : s.ring t.val n.toNat = .locked) (hl : head.toNat < 20) :
    exec (.ringHeadroomLow t n head) s =
      .next (((s.reportHead t.val n.toNat head.toNat).syncHeads t.val).note 0x2 .headroomLow 1 (tgtTile t.val) head.toNat) :=
  if_pos (by rw [h, decide_eq_true hl]; rfl)

/-- The headroom of a locked ring below 5 °C (R121). -/
theorem ringHeadroomLow_spec {t : Tile} {n : BitVec 12} {head : BitVec 8} {s : State} (h : s.ring t.val n.toNat = .locked)
    (hl : head.toNat < 20) (hc : s.canonical) :
    ∃ u, exec (.ringHeadroomLow t n head) s = .next u ∧ u.f (F.RING_SUM_HEADROOM_LOW t.val) = 1 ∧
      u.f (F.RING_SUM_MIN_HEAD t.val) ≤ head.toNat ∧ u.ring t.val n.toNat = .locked ∧
      s.keepsRegs u (R.RING_SUM t.val :: logRegs) ∧ s.keepsMemory u := by
  have hph := s.reportHead_ph t.val n.toNat head.toNat
  have hc1 : (s.reportHead t.val n.toNat head.toNat).canonical := hc
  have hm : (n.toNat, head.toNat) ∈ ((s.reportHead t.val n.toNat head.toNat).ph t.val).heads := by
    rw [hph]
    exact Map.mem_put_same ..
  obtain ⟨hlow, hmin, hk, honly⟩ := State.syncHeads_spec hc1 hm
  have hoff : R.RING_SUM t.val ∉ logRegs := tileReg_not_mem_log t.val 0x80400
  have hlog := State.note_logged ((s.reportHead t.val n.toNat head.toNat).syncHeads t.val) 0x2 .headroomLow 1 (tgtTile t.val) head.toNat
  refine ⟨_, exec_ringHeadroomLow h hl, (State.note_f _ _ _ _ _ _ hoff).trans hlow, (State.note_f _ _ _ _ _ _ hoff).trans_le hmin, ?_, ?_, ?_⟩
  · generalize ((s.reportHead t.val n.toNat head.toNat).syncHeads t.val) = v at honly hlog
    rw [State.ring, State.ph, hlog.1, honly.eq]
    exact (congrArg (fun p : Photo => Map.get p.ringBase p.rings n.toNat) hph).trans h
  · intro off hn
    rw [(hlog.2 off fun hm => hn (List.mem_cons_of_mem _ hm)), hk off fun hm => hn (List.mem_cons.2 (.inl (List.mem_singleton.1 hm)))]
    rfl
  · generalize ((s.reportHead t.val n.toNat head.toNat).syncHeads t.val) = v at honly hlog
    rw [hlog.1, honly.eq]
    exact fun _ => ⟨rfl, rfl, rfl⟩

/-! ### The reference (R114, R115, R356) -/

theorem gridStat_ne {t k : Nat} (h : t ≠ k) : R.GRID_STAT t ≠ R.GRID_STAT k := by
  simp only [R.GRID_STAT, tileBase]
  omega

/-- What a tile shows once the reference is lost. -/
def refLost (pwr t : Nat) : List (Fld × Nat) := [(F.GRID_STAT_REF_OK t, 0), (F.GRID_STAT_REF_PWR t, pwr)]

theorem State.f_refLost {u : State} (h : u.canonical) {pwr : Nat} (hp : pwr < 65536) (t : Nat) :
    ∀ e ∈ refLost pwr t, (u.setFs (refLost pwr t)).f e.1 = e.2 := by
  have hok : (u.setFs (refLost pwr t)).f (F.GRID_STAT_REF_OK t) = 0 :=
    (State.f_setFs_at (v := 0) h _ 0 rfl (by simp [F.GRID_STAT_REF_OK])
      (by simp [refLost, Fld.apart, F.GRID_STAT_REF_OK, F.GRID_STAT_REF_PWR])).trans (Nat.zero_mod _)
  have hpwr : (u.setFs (refLost pwr t)).f (F.GRID_STAT_REF_PWR t) = pwr :=
    (State.f_setFs_at (v := pwr) h _ 1 rfl (by simp [F.GRID_STAT_REF_PWR]) (by simp [refLost])).trans
      (Nat.mod_eq_of_lt hp)
  intro e he
  rcases List.mem_cons.1 he with rfl | he
  · exact hok
  · obtain rfl := List.mem_singleton.1 he
    exact hpwr

/-- Losing the reference (R115): every tile shows it, and a WARN record is written. -/
theorem refLoss_spec (pwr : BitVec 16) {s : State} (h : s.canonical) : ∃ t : State, exec (.refLoss pwr) s = .next t ∧
    (∀ k : Tile, t.f (F.GRID_STAT_REF_OK k.val) = 0 ∧ t.f (F.GRID_STAT_REF_PWR k.val) = pwr.toNat) ∧
    s.keepsRegs t (allTiles.map R.GRID_STAT ++ logRegs) ∧ t = { s with refOn := false, regs := t.regs, report := t.report } := by
  have hz : ({ s with refOn := false } : State).canonical := h
  have hoff : ∀ j, ∀ e ∈ refLost pwr.toNat j, e.1.off = R.GRID_STAT j := by
    simp [refLost, F.GRID_STAT_REF_OK, F.GRID_STAT_REF_PWR]
  obtain ⟨-, honly, hk, hall⟩ := State.each_setFs hz (refLost pwr.toNat) allTiles (W := allTiles.map R.GRID_STAT)
    (fun j hj e he => List.mem_map.2 ⟨j, hj, (hoff j e he).symm⟩) (fun j u hu => State.f_refLost hu pwr.isLt j)
    (fun i j hij e he x hx => by rw [hoff i e he, hoff j x hx]; exact gridStat_ne hij)
  have hx : exec (.refLoss pwr) s =
    .next ((({ s with refOn := false } : State).each allTiles (fun s t => s.setFs (refLost pwr.toNat t))).note 0x2 .refLoss 2 tgtModule) := rfl
  generalize ({ s with refOn := false } : State).each allTiles (fun s t => s.setFs (refLost pwr.toNat t)) = v at honly hk hall hx
  have hlog := v.note_logged 0x2 .refLoss 2 tgtModule 0
  refine ⟨_, hx, fun k => ?_, fun off hn => ?_, ?_⟩
  · have hm : ∀ e ∈ refLost pwr.toNat k.val, v.f e.1 = e.2 := hall k.val (.inl (List.mem_range.2 k.isLt))
    have hg : R.GRID_STAT k.val ∉ logRegs := tileReg_not_mem_log k.val 0x80500
    exact ⟨(State.note_f _ _ _ _ _ _ hg).trans (hm _ (List.mem_cons_self ..)),
      (State.note_f _ _ _ _ _ _ hg).trans (hm _ (List.mem_cons_of_mem _ (List.mem_singleton.2 rfl)))⟩
  · exact (hlog.2 off fun hm => hn (List.mem_append_right _ hm)).trans (hk off fun hm => hn (List.mem_append_left _ hm))
  · obtain ⟨regs, rfl⟩ : ∃ regs, v = { s with refOn := false, regs := regs } := ⟨_, honly.eq⟩
    exact hlog.1

/-- What a tile stores when the reference is back. -/
def refFound (pwr ofs grid t : Nat) : List (Fld × Nat) :=
  [(F.GRID_STAT_REF_OK t, 1), (F.GRID_STAT_REF_PWR t, pwr), (F.GRID_STAT_LINE23_OFS t, ofs), (F.GRID_STAT_GRID_OFS t, grid)]

/-- The reference is back at a tile: one that had lost it stores its readings, and a reference trace is due. -/
def State.refBack (s : State) (pwr : BitVec 16) (ofs : List (BitVec 12)) (t : Nat) : State :=
  if s.b (F.GRID_STAT_REF_OK t) then s
  else (s.setFs (refFound pwr.toNat (ofs.getD t 0).toNat (s.f F.STRAP_STAT_GRID) t)).updBl t (fun b =>
    { b with traceDue := some s.bell, tracePrio := min 1 b.tracePrio })

/-- A tile's readings of the reference and its Blocking state are as they were. -/
def State.sameTile (s u : State) (k : Nat) : Prop := u.rd (R.GRID_STAT k) = s.rd (R.GRID_STAT k) ∧ u.bl k = s.bl k

/-- A tile shows the reference back, its reference trace due since `bell`. -/
def State.showsRef (u : State) (pwr : BitVec 16) (ofs : List (BitVec 12)) (bell k : Nat) : Prop :=
  u.f (F.GRID_STAT_REF_OK k) = 1 ∧ u.f (F.GRID_STAT_REF_PWR k) = pwr.toNat ∧ u.f (F.GRID_STAT_LINE23_OFS k) = (ofs.getD k 0).toNat ∧
    (u.bl k).traceDue = some bell

section
variable {s u v : State} {k : Nat}

theorem State.sameTile.trans (h : s.sameTile u k) (g : u.sameTile v k) : s.sameTile v k := ⟨g.1.trans h.1, g.2.trans h.2⟩

theorem State.sameTile.f (h : s.sameTile u k) {x : Fld} (hx : x.off = R.GRID_STAT k) : u.f x = s.f x := by
  rw [State.f, State.f, hx, h.1]

theorem State.sameTile.showsRef (h : u.sameTile v k) {pwr : BitVec 16} {ofs : List (BitVec 12)} {bell : Nat} (g : u.showsRef pwr ofs bell k) :
    v.showsRef pwr ofs bell k := by
  obtain ⟨h1, h2, h3, h4⟩ := g
  exact ⟨(h.f rfl).trans h1, (h.f rfl).trans h2, (h.f rfl).trans h3, by rw [h.2]; exact h4⟩

theorem State.sameTile.refOk (h : s.sameTile u k) : u.b (F.GRID_STAT_REF_OK k) = s.b (F.GRID_STAT_REF_OK k) := by
  rw [State.b, State.b, h.f rfl]

theorem State.bl_updBl_same {g : Blk → Blk} (h : g (s.bl k) ≠ {}) : (s.updBl k g).bl k = g (s.bl k) := Map.get_upd_of_ne h

theorem State.bl_updBl_ne {t : Nat} (h : k ≠ t) (g : Blk → Blk) : (s.updBl t g).bl k = s.bl k := Map.get_upd_ne h ..

theorem State.refBack_kept (pwr : BitVec 16) (ofs : List (BitVec 12)) (h : s.b (F.GRID_STAT_REF_OK k) = true) : s.refBack pwr ofs k = s := if_pos h

/-- A tile that had lost the reference (R115, R356). -/
theorem State.refBack_shows (pwr : BitVec 16) (ofs : List (BitVec 12)) (h : s.canonical) (hb : s.b (F.GRID_STAT_REF_OK k) = false) :
    (s.refBack pwr ofs k).showsRef pwr ofs s.bell k := by
  have he : s.refBack pwr ofs k = (s.setFs (refFound pwr.toNat (ofs.getD k 0).toNat (s.f F.STRAP_STAT_GRID) k)).updBl k (fun b =>
      { b with traceDue := some s.bell, tracePrio := min 1 b.tracePrio }) := if_neg (by rw [hb]; decide)
  rw [he]
  generalize hl : refFound pwr.toNat (ofs.getD k 0).toNat (s.f F.STRAP_STAT_GRID) k = l
  refine ⟨?_, ?_, ?_, ?_⟩
  · rw [State.updBl_f, State.f_setFs_at (v := 1) h l 0 (by rw [← hl]; rfl) (by simp [F.GRID_STAT_REF_OK])
      (by rw [← hl]; simp [refFound, Fld.apart, F.GRID_STAT_REF_OK, F.GRID_STAT_REF_PWR, F.GRID_STAT_LINE23_OFS, F.GRID_STAT_GRID_OFS])]
    exact Nat.mod_eq_of_lt (by simp [F.GRID_STAT_REF_OK])
  · rw [State.updBl_f, State.f_setFs_at (v := pwr.toNat) h l 1 (by rw [← hl]; rfl) (by simp [F.GRID_STAT_REF_PWR])
      (by rw [← hl]; simp [refFound, Fld.apart, F.GRID_STAT_REF_PWR, F.GRID_STAT_LINE23_OFS, F.GRID_STAT_GRID_OFS])]
    exact Nat.mod_eq_of_lt pwr.isLt
  · rw [State.updBl_f, State.f_setFs_at (v := (ofs.getD k 0).toNat) h l 2 (by rw [← hl]; rfl) (by simp [F.GRID_STAT_LINE23_OFS])
      (by rw [← hl]; simp [refFound, Fld.apart, F.GRID_STAT_LINE23_OFS, F.GRID_STAT_GRID_OFS])]
    exact Nat.mod_eq_of_lt (ofs.getD k 0).isLt
  · rw [State.bl_updBl_same (fun hd => Option.some_ne_none _ (congrArg Blk.traceDue hd))]

theorem State.refBack_other (pwr : BitVec 16) (ofs : List (BitVec 12)) {t : Nat} (h : k ≠ t) : s.sameTile (s.refBack pwr ofs t) k := by
  unfold State.refBack
  split
  · exact ⟨rfl, rfl⟩
  · refine ⟨?_, by rw [State.bl_updBl_ne h, State.bl, State.setFs_blk, ← State.bl]⟩
    rw [State.updBl_rd, State.setFs_keeps _ _ (by simp [refFound, F.GRID_STAT_REF_OK, F.GRID_STAT_REF_PWR, F.GRID_STAT_LINE23_OFS,
      F.GRID_STAT_GRID_OFS, gridStat_ne h])]

theorem State.refBack_bell (s : State) (pwr : BitVec 16) (ofs : List (BitVec 12)) (t : Nat) : (s.refBack pwr ofs t).bell = s.bell := by
  unfold State.refBack
  split
  · rfl
  · rw [State.updBl_bell, State.setFs_bell]

theorem State.refBack_refOn (s : State) (pwr : BitVec 16) (ofs : List (BitVec 12)) (t : Nat) : (s.refBack pwr ofs t).refOn = s.refOn := by
  unfold State.refBack
  split
  · rfl
  · rw [State.updBl_refOn, State.setFs_refOn]

theorem Leaves.refBack {z : State} (h : Leaves (fun _ => False) z s) (pwr : BitVec 16) (ofs : List (BitVec 12)) (t : Nat) :
    Leaves (fun _ => False) z (s.refBack pwr ofs t) := by
  unfold State.refBack
  split
  · exact h
  · exact (h.setFs _ fun _ _ => not_false).updBl t _

theorem State.refBack_canonical (pwr : BitVec 16) (ofs : List (BitVec 12)) (h : s.canonical) (t : Nat) : (s.refBack pwr ofs t).canonical := by
  unfold State.refBack
  split
  · exact h
  · exact (((Kept.refl s).setFs _).updBl _ _).2 h

end

/-- The reference is back at the tiles of a list: those that had lost it show it, and the others, and all outside it, stay. -/
theorem State.each_refBack (pwr : BitVec 16) (ofs : List (BitVec 12)) {s : State} (h : s.canonical) (l : List Nat) (hd : l.Nodup) (k : Nat) :
    (k ∉ l ∨ s.b (F.GRID_STAT_REF_OK k) = true → s.sameTile (s.each l (fun s t => s.refBack pwr ofs t)) k) ∧
    (k ∈ l → s.b (F.GRID_STAT_REF_OK k) = false → (s.each l (fun s t => s.refBack pwr ofs t)).showsRef pwr ofs s.bell k) := by
  induction l generalizing s with
  | nil => exact ⟨fun _ => ⟨rfl, rfl⟩, fun hm => absurd hm List.not_mem_nil⟩
  | cons a l ih =>
    obtain ⟨hna, hd⟩ := List.nodup_cons.1 hd
    have hc := State.refBack_canonical pwr ofs h a
    obtain ⟨hstay, hshow⟩ := ih hc hd
    by_cases hka : k = a
    · subst hka
      refine ⟨fun hk => ?_, fun _ hb => (hstay (.inl hna)).showsRef (State.refBack_shows pwr ofs h hb)⟩
      have hb := hk.resolve_left (not_not.2 (List.mem_cons_self ..))
      have hsame : s.sameTile (s.refBack pwr ofs k) k := by
        rw [State.refBack_kept pwr ofs hb]
        exact ⟨rfl, rfl⟩
      exact hsame.trans (hstay (.inl hna))
    · have hsame : s.sameTile (s.refBack pwr ofs a) k := State.refBack_other pwr ofs hka
      refine ⟨fun hk => hsame.trans (hstay ?_), fun hm hb => ?_⟩
      · rw [hsame.refOk]
        exact hk.imp_left fun hn hm => hn (List.mem_cons_of_mem _ hm)
      · have := hshow ((List.mem_cons.1 hm).resolve_left hka) (hsame.refOk.trans hb)
        rw [s.refBack_bell] at this
        exact this

/-- The reference's return (R115, R356). -/
theorem refReturn_spec (pwr : BitVec 16) (ofs : List (BitVec 12)) {s : State} (h : s.canonical) :
    ∃ t : State, exec (.refReturn pwr ofs) s = .next t ∧
      (∀ k : Tile, s.b (F.GRID_STAT_REF_OK k.val) = false → t.showsRef pwr ofs s.bell k.val) ∧
      (∀ k : Tile, s.b (F.GRID_STAT_REF_OK k.val) = true → s.sameTile t k.val) ∧ t.refOn = true ∧ s.keepsMemory t := by
  let z : State := { s with refOn := true }
  have hall := State.each_refBack pwr ofs (show z.canonical from h) allTiles List.nodup_range
  have hmem : Leaves (fun _ => False) z (z.each allTiles (fun s t => s.refBack pwr ofs t)) :=
    (Leaves.refl _ z).each allTiles _ fun t _ u hu => hu.refBack pwr ofs t
  exact ⟨z.each allTiles (fun s t => s.refBack pwr ofs t), rfl, fun k hb => (hall k.val).2 (List.mem_range.2 k.isLt) hb,
    fun k hb => (hall k.val).1 (.inr hb), State.each_keeps State.refOn z allTiles _ fun t u => u.refBack_refOn pwr ofs t, hmem.keepsMemory⟩

/-! ### Combs (R117 to R119, R401) -/

section
variable {t : Tile} {c : Fin 8} {s : State}

/-- A role's comb started from dark, with no substitution under way for the role (R118). -/
theorem exec_combStart_fresh (h1 : s.f (F.LAS_STAT_STATE t.val c.val) = 1) (hc : c.val < 6) (hx : Map.find c.val (s.ph t.val).subst = none)
    (fade : BitVec 12) :
    let s1 := s.setFs [(F.LAS_STAT_STATE t.val c.val, 2), (F.LAS_STAT_ROLE t.val c.val, c.val)]
    exec (.combStart t c ⟨true, fade⟩) s = .next (if c.val = 4 ∨ c.val = 5 then s1.omeStart t.val else s1) ∧
    exec (.combStart t c ⟨false, fade⟩) s = .next (s.setF (F.LAS_STAT_STATE t.val c.val) 4) := by
  have he (locked : Bool) : exec (.combStart t c ⟨locked, fade⟩) s = execCombStart t c ⟨locked, fade⟩ s := rfl
  have hrole : ¬ (decide (6 ≤ c.val) || s.f (F.LAS_STAT_STATE t.val c.val) ≠ 1) = true := by simp [h1]; omega
  intro s1
  refine ⟨?_, ?_⟩
  · rw [he, execCombStart]
    dsimp only
    rw [if_neg hrole, hx]
    simp [s1]
  · rw [he, execCombStart]
    dsimp only
    rw [if_neg hrole, hx]
    rfl

end

/-- A comb at its maximum temperature is dark, with its CRIT record and LASER_OVERTEMP (R119, R401). -/
def State.stopHot (s : State) (t c tj : Nat) : State :=
  ((s.setFs [(F.LAS_STAT_TJ t c, tj), (F.LAS_STAT_STATE t c, 0), (F.LAS_STAT_ROLE t c, 7), (F.LAS_BIAS_BIAS t c, 0)]).note 0x2 .laserOvertemp 3
    (tgtTile t) tj).raise t 6 tj

/-- The role that the comb served, without a substitution under way, claims a Substitute; a Substitute so stopped is marked failed. -/
theorem exec_laserOvertemp {t : Tile} {c : Fin 8} {tj : BitVec 8} {s : State}
    (h : Map.find (s.f (F.LAS_STAT_ROLE t.val c.val)) ((s.stopHot t.val c.val tj.toNat).ph t.val).subst = none) :
    let r := s.f (F.LAS_STAT_ROLE t.val c.val)
    let dark := s.stopHot t.val c.val tj.toNat
    exec (.laserOvertemp t c tj) s =
      .next (if r = 7 then dark
        else if 6 ≤ c.val then (dark.setF (subFor t.val c.val) 6).claimSub t.val r none
        else dark.claimSub t.val r none) := by
  have he : exec (.laserOvertemp t c tj) s = execLaserOvertemp t c tj s := rfl
  have hd : s.stopHot t.val c.val tj.toNat = ((((s.setF (F.LAS_STAT_TJ t.val c.val) tj.toNat).darkComb t.val c.val).note 0x2 .laserOvertemp 3
    (tgtTile t.val) tj.toNat).raise t.val 6 tj.toNat) := rfl
  intro r dark
  rw [he, execLaserOvertemp]
  dsimp only
  rw [← hd, h]
  dsimp only
  split
  · rfl
  · split <;> rfl

end Sys2Proof.Machine

open Sys2Proof Sys2Proof.Machine

/-- Settles O31: rings in SEARCH and locked, the reference lost and back, a comb started and a comb stopped. -/
theorem ringsAndReference : Obligations.RingsAndReference := by
  unfold Obligations.RingsAndReference
  refine ⟨fun t n s => ⟨fun h => exec_ring_searching h, fun h => ?_⟩,
    fun pwr s h => refLoss_spec pwr h, fun pwr ofs s h _ => refReturn_spec pwr ofs h,
    fun t c fade s h1 hc hx => exec_combStart_fresh h1 hc hx fade, fun t c tj s => ?_⟩
  · obtain ⟨hfound, htimeout, hlost⟩ := exec_ring_locked h
    exact ⟨hfound, htimeout, hlost, fun head hl hc => ringHeadroomLow_spec h hl hc⟩
  · intro r dark h
    exact exec_laserOvertemp h
end

section
/-! SUPPORT. A port commissioned while it is fed by a comb that no tile has (R117, R124). Nothing in the statement bounds the source table
of a tile's photonics by the tile's eight combs, and R.LAS_BIAS t 17 is R.FADE_STAT t 1. -/

namespace Sys2Proof.Machine

/-- A command whose change is journaled, and that no twin mirrors, ends without a change of registers (R82). -/
theorem State.conclude_logged_f {t : State} {p : Packet} {o code : Nat} {ch : List JChange} {un : Undo} (hm : mirroredKind code = none)
    (hc : code ≠ 0x101 ∧ code ≠ 0x102) (hch : ch ≠ []) (x : Fld) : (t.conclude code o true p stOk 0 [] ch un).f x = t.f x := by
  rw [State.conclude_logged hm hc hch (Nat.zero_le _)]
  exact State.f_of_regs rfl x

/-- Tile 47 with its rings locked and light at port index 1, whose lane 0 has comb 17 for its source, LOCKED at a bias of 51.2 mA. -/
def farComb : State :=
  (State.reset.setFs [(F.Q_GLOBAL_PROCTOR_READY, 1), (F.TWIN_STAT_STATE, 0), (F.EYESAFE_LOS 47 1, 0), (F.LAS_STAT_STATE 47 17, 2),
    (F.LAS_BIAS_BIAS 47 17, 0x200)]).updPh 47 (fun _ => { ringBase := .locked, source := [(64, 17)] })

/-- PHO_COMMISSION of port 142, from the chain head. -/
def commissionPort : Packet :=
  { path := .chain 0x7F, flags := 0, tag := 7, dataLen := 0, dataAddr := 0, target := 0x8E02, params := [], data := [] }

theorem farComb_accepts : farComb.accepts phoCommissionDef commissionPort 3 := by decide +kernel

theorem farComb_canonical : farComb.canonical := by decide +kernel

/-- The comb that feeds lane 0 is LOCKED, and its bias is what the commissioned bias should become. -/
theorem farComb_bias : (farComb.begun commissionPort).combAt 47 1 0 = 17 ∧ (farComb.begun commissionPort).f (F.LAS_STAT_STATE 47 17) = 2 ∧
    (farComb.begun commissionPort).f (F.LAS_BIAS_BIAS 47 17) = 0x200 := by decide +kernel

/-- What a step's next state shows as comb 17's commissioned bias on tile 47. -/
def commBiasShown : Host.Outcome State Fault Refusal → Option Nat
  | .next v => some (v.f (F.LAS_BIAS_COMM_BIAS 47 17))
  | _ => none

/-- Clearing FAST of port index 1 clears the one bit of the commissioned bias just stored. -/
theorem farComb_commissioned : commBiasShown (exec (.phoCommission commissionPort) farComb) = some 0 := by decide +kernel

end Sys2Proof.Machine

open Sys2Proof Sys2Proof.Machine

/-- Refutes O32: the statement takes any source of lane 0, so also comb 17. PHO_COMMISSION stores that comb's bias as its commissioned
bias in the register that is also FADE_STAT of port index 1, and clearing FAST then clears bit 9 of it: 0 is read for 0x200. -/
theorem not_fadesAndMonitors : ¬ Obligations.FadesAndMonitors := by
  unfold Obligations.FadesAndMonitors
  rintro ⟨-, hcommission, -⟩
  obtain ⟨u, hu, -, -, -, hbias, -⟩ := hcommission commissionPort 3 farComb farComb_accepts (by decide) (by decide +kernel) (by decide +kernel)
  obtain ⟨hcomb, hlocked, hb⟩ := farComb_bias
  have hstored : u.f (F.LAS_BIAS_COMM_BIAS 47 17) = 0x200 := by
    have h := hbias farComb_canonical
    rw [show commissionPort.unit / 3 = 47 by decide, show commissionPort.unit % 3 = 1 by decide, hcomb] at h
    exact (h hlocked).trans hb
  have hshown := farComb_commissioned
  rw [hu, commBiasShown, State.conclude_logged_f rfl (by decide) (List.cons_ne_nil _ _), hstored] at hshown
  exact absurd hshown (by decide)
end

section
/-! SUPPORT. A Substitute claimed, a role's moves, and what they leave to the running commands (R131 to R139). -/

namespace Sys2Proof.Machine

/-! ### A long-running command that starts (R55) -/

/-- An accepted long-running command is listed as running, with the number that was next. -/
theorem runCmd_starts {d : CmdDef} {p : Packet} {s u : State} {o : Nat} (ha : s.accepts d p o)
    (hact : d.act (s.begun p) p o (s.begun p).proctor.nextId = .later u) (hn : u.proctor.nextId = (s.begun p).proctor.nextId) :
    runCmd d p s = u.startsRunning (s.begun p) d p o := by
  have he := runCmd_accepted ha
  rw [hact] at he
  rw [he, State.startsRunning]
  simp only [State.updPr, hn]

/-! ### A role that claims a Substitute (R132, R359) -/

section
variable {s : State} {t r u : Nat}

theorem State.claimSub_free (run : Option Nat) (h : s.freeSub t = some u) : s.claimSub t r run =
    ((((s.updPh t (fun p => { p with subst := Map.put r { target := u, todo := roleUnits r, restore := false, run := run } p.subst })).setFs
      [(F.LAS_STAT_STATE t u, 1), (F.LAS_STAT_ROLE t u, r), (F.LAS_BIAS_BIAS t u, s.commBias t u), (F.LAS_BIAS_COMM_BIAS t u, s.commBias t u)]).setF
        (F.FADE_STAT_STAGE t r) 4).note 0x2 .subStarted 2 (tgtTile t) r) := by
  rw [State.claimSub, h]
  rfl

/-- A role without a Substitute is in NO_SUB (R132). -/
def State.noSub (s : State) (t r : Nat) : State :=
  ((s.updPh t (fun p => { p with subst := Map.del r p.subst })).setF (F.FADE_STAT_STAGE t r) 3).note 0x2 .subFailed 2 (tgtTile t) 0x8240

theorem State.claimSub_none (run : Option Nat) (h : s.freeSub t = none) : s.claimSub t r run =
    match run with
    | some id => (if r < 3 then (s.noSub t r).replanRate (3 * t + r) else s.noSub t r).finish id 0x8240 0
    | none => if r < 3 then (s.noSub t r).replanRate (3 * t + r) else s.noSub t r := by
  rw [State.claimSub, h]
  cases run <;> rfl

end

theorem State.note_proctor (s : State) (g : Nat) (e : RecEv) (sev source : Nat) (v : Int) : (s.note g e sev source v).proctor = s.proctor := by
  rw [(s.note_logged g e sev source v).1]

theorem State.outFirst_proctor (s : State) (p : Nat) : (s.outFirst p).proctor = s.proctor := by
  unfold State.outFirst
  split
  · rfl
  · split
    · rfl
    · split <;> rfl

theorem State.tendMap_proctor (s : State) (p : Nat) : (s.tendMap p).proctor = s.proctor := by
  unfold State.tendMap
  split
  · dsimp only
    split
    · exact s.outFirst_proctor p
    · exact (State.startLaneset_proctor ..).trans (s.outFirst_proctor p)
  · rfl

theorem State.policyReg_proctor (s : State) (target off : Nat) (v : Word) : (s.policyReg target off v).proctor = s.proctor := by
  unfold State.policyReg
  split <;> rfl

theorem State.replanRate_proctor (s : State) (p : Nat) : (s.replanRate p).proctor = s.proctor := by
  unfold State.replanRate State.replan
  dsimp only
  split
  · rfl
  · rw [State.tendMap_proctor]
    split
    · rfl
    · rw [State.note_proctor, State.policyReg_proctor]

theorem State.noSub_proctor (s : State) (t r : Nat) : (s.noSub t r).proctor = s.proctor := by
  rw [State.noSub, State.note_proctor, State.setF_proctor, State.updPh_proctor]

theorem State.finish_nextId (s : State) (id st det : Nat) (res : List Byte) (ch : List JChange) (un : Undo) :
    (s.finish id st det res ch un).proctor.nextId = s.proctor.nextId := rfl

/-- A claim gives no command a number. -/
theorem State.claimSub_nextId (s : State) (t r : Nat) (run : Option Nat) : (s.claimSub t r run).proctor.nextId = s.proctor.nextId := by
  cases h : s.freeSub t with
  | some u => rw [State.claimSub_free run h, State.note_proctor, State.setF_proctor, State.setFs_proctor, State.updPh_proctor]
  | none =>
    have hn : (if r < 3 then (s.noSub t r).replanRate (3 * t + r) else s.noSub t r).proctor = s.proctor := by
      split
      · rw [State.replanRate_proctor, State.noSub_proctor]
      · exact s.noSub_proctor t r
    rw [State.claimSub_none run h]
    cases run with
    | none => dsimp only; rw [hn]
    | some id => dsimp only; rw [State.finish_nextId, hn]

/-! ### PHO_SUBSTITUTE and PHO_RESTORE (R139) -/

theorem phoSubstitute_accepted {p : Packet} {s : State} {o : Nat} (ha : s.accepts phoSubstituteDef p o) :
    exec (.phoSubstitute p) s =
      .next (((s.begun p).claimSub p.unit (p.w 0) (some (s.begun p).proctor.nextId)).startsRunning (s.begun p) phoSubstituteDef p o) :=
  congrArg Host.Outcome.next (runCmd_starts ha rfl (State.claimSub_nextId ..))

theorem State.lightComb_proctor (s : State) (t c state role : Nat) : (s.lightComb t c state role).proctor = s.proctor := State.setFs_proctor ..

/-! ### A Substitute that locks, or does not (R132) -/

section
variable {t : Tile} {u : Fin 2} {e : Nat × Subst} {s : State}

theorem exec_substituteLocked (he : (s.ph t.val).subst.find? (fun e => e.2.target == 6 + u.val && !e.2.restore) = some e)
    (h1 : s.f (F.LAS_STAT_STATE t.val (6 + u.val)) = 1) :
    exec (.substituteLocked t u) s = .next ((s.setF (F.LAS_STAT_STATE t.val (6 + u.val)) 2).startMoves t.val e.1) := by
  have hx : exec (.substituteLocked t u) s = execSubstituteLocked t u s := rfl
  rw [hx, execSubstituteLocked, he]
  exact congrArg Host.Outcome.next (if_pos h1)

theorem exec_substituteLockTimeout (he : (s.ph t.val).subst.find? (fun e => e.2.target == 6 + u.val && !e.2.restore) = some e)
    (h1 : s.f (F.LAS_STAT_STATE t.val (6 + u.val)) = 1) :
    exec (.substituteLockTimeout t u) s = .next (((((s.updPh t.val (fun p => { p with subst := Map.del e.1 p.subst })).setFs
      [(subFor t.val (6 + u.val), 6), (F.LAS_STAT_STATE t.val (6 + u.val), 4), (F.LAS_STAT_ROLE t.val (6 + u.val), 7)]).note 0x2 .subFailed 3
        (tgtTile t.val) (6 + u.val)).raise t.val 7).claimSub t.val e.1 e.2.run) := by
  have hx : exec (.substituteLockTimeout t u) s = execSubstituteLockTimeout t u s := rfl
  rw [hx, execSubstituteLockTimeout]
  dsimp only
  rw [he]
  exact if_neg (not_not.2 h1)

theorem exec_substituteLock_idle (he : (s.ph t.val).subst.find? (fun e => e.2.target == 6 + u.val && !e.2.restore) = none) :
    exec (.substituteLocked t u) s = .next s ∧ exec (.substituteLockTimeout t u) s = .next s := by
  have hx : exec (.substituteLocked t u) s = execSubstituteLocked t u s := rfl
  have hy : exec (.substituteLockTimeout t u) s = execSubstituteLockTimeout t u s := rfl
  rw [hx, hy, execSubstituteLocked, execSubstituteLockTimeout]
  dsimp only
  rw [he]
  exact ⟨rfl, rfl⟩

end

/-! ### A unit of a role that moves (R134, R137, R138) -/

theorem State.unitMoved_cons {x : Subst} {i : Nat} {rest : List Nat} (h : x.todo = i :: rest) (z : State) (t r : Nat) :
    let z1 := z.updPh t (fun q => { q with
      source := Map.set r q.source (r * 64 + i) (if x.restore then r else x.target)
      subst := Map.put r { x with todo := rest, tried := false, held := false } q.subst })
    z.unitMoved t r x i = if rest = [] then z1.substDone t r x else z1 := by
  unfold State.unitMoved
  rw [h]
  cases rest with
  | nil => rfl
  | cons j l => rfl

section
variable {t : Tile} {r : Fin 6} {i : Fin 64} {x : Subst} {rest : List Nat} {s : State}

/-- A MOVING role takes the report for the unit that moves next: of a lane or a line, once its ring has locked. -/
theorem exec_laneSourceMoved (hx : Map.find r.val (s.ph t.val).subst = some x) (hi : x.todo = i.val :: rest)
    (h5 : s.f (F.FADE_STAT_STAGE t.val r.val) = 5) (lock : Bool) :
    exec (.laneSourceMoved t r i lock) s = .next (
      if !lock && r.val != 3 then s
      else if r.val < 3 then s.laneMoved t.val r.val x i.val
      else if r.val = 3 then
        if s.runBars t.val r.val then s
        else (s.updPh t.val (fun q => { q with quiet := Map.put i.val (s.crownMap.slot + 2) q.quiet })).unitMoved t.val r.val x i.val
      else s.lineMoved t.val r.val x i.val) := by
  have he : exec (.laneSourceMoved t r i lock) s = execLaneSourceMoved t r i lock s := rfl
  rw [he, execLaneSourceMoved, hx]
  simp only [h5, hi, List.head?_cons, ne_eq, not_true_eq_false, decide_false, Bool.false_or]
  split
  · rfl
  · split
    · rfl
    · split <;> rfl

end

/-- A lane of a port without traffic moves at once (R134). -/
theorem State.laneMoved_idle {s : State} {t r : Nat} (h : s.linkKeeps (3 * t + r) = false) (x : Subst) (j : Nat) :
    s.laneMoved t r x j = s.unitMoved t r x j := by
  unfold State.laneMoved
  exact if_pos (by rw [h]; rfl)

theorem State.linkKeeps_of_linkUp {s : State} {p : Nat} (h : s.linkUp p = true) : s.linkKeeps p = true := by
  unfold State.linkKeeps
  split
  · next hp =>
    rw [State.linkUp, if_pos hp] at h
    rw [h, Bool.true_or]
  · exact h

/-- A lane out of the map comes back once the far end's check has passed (R134). -/
theorem State.laneMoved_verified {s : State} {t r j : Nat} (hup : s.linkUp (3 * t + r) = true) (hls : (s.link (3 * t + r)).laneset = none)
    (hrun : s.laneRunOn (3 * t + r) = false) (hj : j ≠ 16) (hout : ((s.outFirst (3 * t + r)).mapLanes (3 * t + r)).contains j = false)
    (hok : ((s.outFirst (3 * t + r)).link (3 * t + r)).verified j = some true) (x : Subst) :
    s.laneMoved t r x j = ((((s.outFirst (3 * t + r)).updLink (3 * t + r) (fun l => { l with
      away := l.away &&& (0x1FFFF ^^^ 2 ^ j), back := if l.away.testBit j then l.back ||| 2 ^ j else l.back,
      verify := Map.del j l.verify })).unitMoved t r x j).tendMap (3 * t + r)) := by
  unfold State.laneMoved
  dsimp only
  rw [State.linkKeeps_of_linkUp hup, hup, hls, hrun, hout, hok]
  exact (if_neg Bool.false_ne_true).trans ((if_neg Bool.false_ne_true).trans ((if_neg Bool.false_ne_true).trans (if_neg hj)))

/-- The pilot of MAT or LO moves while the passes are held for it, and acquires phase at the next boundary (R137). -/
theorem State.lineMoved_pilot {s : State} {t r i : Nat} {x : Subst} (hh : x.held = true) (hb : s.runBars t r = false) (hi : 32 ≤ i) :
    s.lineMoved t r x i =
      ((((s.updOme t (fun o => { o with reacqReq := true })).unitMoved t r x i).readyLine t r).passBoundary t) := by
  unfold State.lineMoved
  dsimp only
  simp only [hh, hb, decide_eq_false (Nat.not_lt.2 hi), if_pos hi]
  rfl

/-! ### The role's own comb starts for PHO_RESTORE (R139) -/

section
variable {t : Tile} {c : Fin 8} {x : Subst} {fade : BitVec 12} {s : State}

theorem exec_combStart_restore (hc : c.val < 6) (h1 : s.f (F.LAS_STAT_STATE t.val c.val) = 1)
    (hx : Map.find c.val (s.ph t.val).subst = some x) (hr : x.restore = true) (locked : Bool) :
    exec (.combStart t c ⟨locked, fade⟩) s =
      if locked && fade.toNat < 100 then
        .next ((s.setFs [(F.LAS_STAT_STATE t.val c.val, 2), (F.LAS_STAT_ROLE t.val c.val, c.val)]).startMoves t.val c.val)
      else
        let s1 := (s.darkComb t.val c.val).updPh t.val (fun p => { p with subst := Map.del c.val p.subst })
        .next (match x.run with | some id => s1.finish id stState 0 | none => s1) := by
  have he : exec (.combStart t c ⟨locked, fade⟩) s = execCombStart t c ⟨locked, fade⟩ s := rfl
  rw [he, execCombStart]
  dsimp only
  rw [if_neg (by simp [h1]; omega), hx]
  dsimp only
  rw [hr]
  rfl

end

end Sys2Proof.Machine

open Sys2Proof Sys2Proof.Machine

/-- Settles O33: the claim, the two commands, the lock, the moves in their order, and the way back. -/
theorem substitution : Obligations.Substitution := by
  unfold Obligations.Substitution
  refine ⟨fun t r u run s h => State.claimSub_free run h, fun t r s h => State.claimSub_none none h, fun p o s ha => phoSubstitute_accepted ha,
    fun p o s ha => ?_, fun t u e s he h1 => ⟨exec_substituteLocked he h1, exec_substituteLockTimeout he h1⟩,
    fun t u s he => exec_substituteLock_idle he, fun t r i lock x rest s hx hi h5 => ?_,
    fun t c x fade s hc h1 hx hr => ⟨fun hf => ?_, fun id locked hl hid => ?_⟩⟩
  · exact congrArg Host.Outcome.next (runCmd_starts ha rfl (congrArg Proctor.nextId (State.lightComb_proctor ..)))
  · intro p
    have he := exec_laneSourceMoved hx hi h5
    refine ⟨fun z => State.unitMoved_cons hi z t.val r.val, fun h3 => ?_, fun h3 hk => ?_, fun h3 hup hls hrun h16 => ?_, fun h3 hb => ?_,
      fun h4 hb hh h32 => ?_⟩
    · rw [he, if_pos (by simpa using h3)]
    · rw [he, if_neg (by simp), if_pos h3, State.laneMoved_idle hk]
    · intro s1 hout hok
      rw [he, if_neg (by simp), if_pos h3, State.laneMoved_verified hup hls hrun h16 hout hok]
    · rw [he, if_neg (by simp [h3]), if_neg (by omega), if_pos h3, h3, hb]
      rfl
    · rw [he, if_neg (by simp), if_neg (by omega), if_neg (by omega), State.lineMoved_pilot hh hb h32]
  · rw [exec_combStart_restore hc h1 hx hr, if_pos (by simpa using hf)]
  · rw [exec_combStart_restore hc h1 hx hr, if_neg (by rcases hl with rfl | h <;> simp; omega), hid]
end

section
/-! SUPPORT. Training words, the stages of training, and the rate hunt (R143 to R146, R183, R528). -/

namespace Sys2Proof.Machine

/-! ### Training words (R143) -/

section
variable {p : Port} {line : Lane} {w : BitVec 128} {s : State} {q l v : Nat} {inv : Bool}

theorem exec_trainingWord_broken (h : s.trainWord p.val line.val w = none) : exec (.trainingWordReceive p line w) s = .next s := by
  have he : exec (.trainingWordReceive p line w) s = execTrainingWordReceive p line w s := rfl
  rw [he, execTrainingWordReceive, h]

theorem exec_trainingWord_sound (h : s.trainWord p.val line.val w = some (v, inv)) :
    exec (.trainingWordReceive p line w) s = .next (s.takeTrainWord p.val line.val v inv) := by
  have he : exec (.trainingWordReceive p line w) s = execTrainingWordReceive p line w s := rfl
  rw [he, execTrainingWordReceive, h]

/-- STAGE 6 in service: the far end goes into A1 (R183). -/
theorem State.takeTrainWord_quiet (h3 : s.f (F.LINK_STAT_STATE q) = 3) (h6 : v / 2 ^ 120 % 8 = 6) :
    s.takeTrainWord q l v inv = s.setF (F.SDS_STAT_RX_QUIET q) 1 := by
  unfold State.takeTrainWord
  dsimp only
  rw [if_neg (by rw [h3]; decide), if_pos h3, if_pos h6]

/-- In full training before MAP, a word of the port's own rate shows the far end and the line's lane (R144, R145). -/
theorem State.takeTrainWord_own {tr : Training} (h2 : s.f (F.LINK_STAT_STATE q) = 2) (ht : (s.link q).train = some tr)
    (hr : v / 2 ^ 118 % 4 = tr.rate) (h4 : s.f (F.SDS_STAT_STAGE q) ≠ 4) :
    s.takeTrainWord q l v inv = ((s.updLink q (fun k => { k with
      farNode := v / 2 ^ 102 % 2 ^ 15, farPort := v / 2 ^ 94 % 256, farEpoch := v / 2 ^ 78 % 65536 })).setF
        (F.LANE_STAT_FAR_LANE q l) (v / 2 ^ 123 % 32)).updTrain q (fun t => { t with
          seen := true, hunt := none, lines := Map.put l (v / 2 ^ 123 % 32, inv) t.lines }) := by
  unfold State.takeTrainWord
  dsimp only
  rw [if_pos (by rw [h2]; decide), ht]
  dsimp only
  rw [if_neg (by simp [h2]), if_neg (not_not.2 hr), if_neg (by simp [h4])]

end

/-! ### A stage that ends (R144) -/

/-- CDR_LOCK of each lane, by a mask of lanes. -/
def State.showLock (s : State) (q lanes : Nat) : State :=
  s.each (List.range 17) (fun s j => s.setF (F.LANE_STAT_CDR_LOCK q j) (if lanes.testBit j then 1 else 0))

theorem State.showLock_spec {s : State} (h : s.canonical) (q lanes : Nat) :
    (s.showLock q lanes).canonical ∧ s.onlyRegs (s.showLock q lanes) ∧
      ∀ j < 17, (s.showLock q lanes).f (F.LANE_STAT_CDR_LOCK q j) = if lanes.testBit j then 1 else 0 := by
  have hbit : ∀ j, (if lanes.testBit j then 1 else 0) < 2 := fun j => by split <;> decide
  obtain ⟨hc, honly, -, hl⟩ := State.each_setFs h (fun j => [(F.LANE_STAT_CDR_LOCK q j, if lanes.testBit j then 1 else 0)]) (List.range 17)
    (W := (List.range 17).map (R.LANE_STAT q)) (fun j hj e he => by
      obtain rfl := List.mem_singleton.1 he
      exact List.mem_map.2 ⟨j, hj, rfl⟩)
    (fun j u hu e he => by
      obtain rfl := List.mem_singleton.1 he
      exact (State.f_setF_same hu.rising _ _ (by simp [F.LANE_STAT_CDR_LOCK])).trans (Nat.mod_eq_of_lt (hbit j)))
    (fun i j hij e he x hx => by
      obtain rfl := List.mem_singleton.1 he
      obtain rfl := List.mem_singleton.1 hx
      exact laneStat_ne hij)
  exact ⟨hc, honly, fun j hj =>
    hl j (.inl (List.mem_range.2 hj)) (F.LANE_STAT_CDR_LOCK q j, if lanes.testBit j then 1 else 0) (List.mem_singleton.2 rfl)⟩

theorem State.trainWordOf_sendBlocks (s : State) (p st : Nat) (lanes : List Nat) (q j stage : Nat) :
    (s.sendBlocks p st lanes).trainWordOf q j stage = s.trainWordOf q j stage := by
  unfold State.trainWordOf
  rfl

/-- The words that leave are those of the state that they leave behind. -/
theorem State.sendBlocks_out (s : State) (q stage : Nat) (lanes : List Nat) : (s.sendBlocks q stage lanes).out =
    .training q (lanes.map (fun j => (j, (s.sendBlocks q stage lanes).trainWordOf q j stage))) :: s.out := by
  rw [funext fun j => congrArg (Prod.mk j) (s.trainWordOf_sendBlocks q stage lanes q j stage)]
  rfl

theorem State.sendBlocks_f (s : State) (q stage : Nat) (lanes : List Nat) (x : Fld) : (s.sendBlocks q stage lanes).f x = s.f x := State.emit_f ..

theorem State.sendBlocks_frame (s : State) (q stage : Nat) (lanes : List Nat) :
    s.sendBlocks q stage lanes = { s with out := (s.sendBlocks q stage lanes).out } := rfl

section
variable {p : Port} {pass : BitVec 17} {tr : Training} {s : State}

/-- LOCK met on some lanes: ALIGN on 4 data lanes or more, else nothing yet (R144). -/
theorem exec_trainStageDone_lock (ht : (s.link p.val).train = some tr) (h1 : s.f (F.SDS_STAT_STAGE p.val) = 1) :
    exec (.trainStageDone p pass) s = .next (if dataLanes (tr.lanes &&& pass.toNat) < 4 then s
      else ((s.showLock p.val (tr.lanes &&& pass.toNat)).updTrain p.val (fun t => { t with
        lanes := tr.lanes &&& pass.toNat, seen := true, hunt := none })).toStage p.val 2) := by
  have he : exec (.trainStageDone p pass) s = execTrainStageDone p pass s := rfl
  have hmet : s.stageMet p.val pass.toNat = true := by
    rw [State.stageMet, ht]
    simp [h1]
  rw [he, execTrainStageDone]
  rw [if_neg (by simp [h1]), if_pos hmet, State.stageEnds, ht]
  dsimp only
  rw [h1]
  rfl

/-- ALIGN entered: the stage, each lane's CDR_LOCK, and the blocks that leave. -/
theorem State.toAlign_spec (h : s.canonical) (q lanes : Nat) (g : Training → Training) :
    let t := ((s.showLock q lanes).updTrain q g).toStage q 2
    t.f (F.SDS_STAT_STAGE q) = 2 ∧ t.out = .training q ((List.range 17).map (fun j => (j, t.trainWordOf q j 2))) :: s.out ∧
      (∀ j < 17, t.f (F.LANE_STAT_CDR_LOCK q j) = if lanes.testBit j then 1 else 0) ∧
      t = { s with regs := t.regs, links := t.links, out := t.out } := by
  obtain ⟨hc, honly, hlock⟩ := s.showLock_spec h q lanes
  have hlocked (j : Nat) (hj : j < 17) : ((s.showLock q lanes).updTrain q g).f (F.LANE_STAT_CDR_LOCK q j) = if lanes.testBit j then 1 else 0 :=
    (State.updLink_f ..).trans (hlock j hj)
  have hcu : ((s.showLock q lanes).updTrain q g).canonical := ((Kept.refl _).updTrain q g).2 hc
  have hu : (s.showLock q lanes).updTrain q g =
      { s with regs := (s.showLock q lanes).regs, links := ((s.showLock q lanes).updTrain q g).links } := by
    generalize s.showLock q lanes = u at honly
    obtain ⟨regs, rfl⟩ : ∃ regs, u = { s with regs := regs } := ⟨_, honly.eq⟩
    rfl
  intro t
  have ht : t = (((s.showLock q lanes).updTrain q g).setF (F.SDS_STAT_STAGE q) 2).sendBlocks q 2 (List.range 17) := rfl
  clear_value t
  generalize (s.showLock q lanes).updTrain q g = u at *
  obtain rfl := ht
  refine ⟨?_, ?_, fun j hj => ?_, ?_⟩
  · rw [State.sendBlocks_f, State.f_setF_same hcu.rising _ _ (by simp [F.SDS_STAT_STAGE])]
    rfl
  · rw [State.sendBlocks_out, State.setF_out, hu]
  · have hne : (F.LANE_STAT_CDR_LOCK q j).off ≠ (F.SDS_STAT_STAGE q).off := by
      simp only [F.LANE_STAT_CDR_LOCK, F.SDS_STAT_STAGE, R.LANE_STAT, R.SDS_STAT]
      omega
    rw [State.sendBlocks_f, State.f_setF_off hne, hlocked j hj]
  · rw [State.sendBlocks_frame, ((State.onlyRegs.refl u).setF (F.SDS_STAT_STAGE q) 2).eq, hu]

/-- MAP with both ends READY: UP on the lanes agreed (R144). -/
theorem exec_trainStageDone_map (ht : (s.link p.val).train = some tr) (h4 : s.f (F.SDS_STAT_STAGE p.val) = 4)
    (h2 : s.f (F.LINK_STAT_STATE p.val) = 2) (hr : tr.ready = true) (hf : tr.farReady = true) :
    exec (.trainStageDone p pass) s = .next (s.enterUp p.val (tr.lanes &&& (0x1FFFF ^^^ s.barred p.val))) := by
  have he : exec (.trainStageDone p pass) s = execTrainStageDone p pass s := rfl
  rw [he, execTrainStageDone]
  rw [if_pos (by simp [h4, h2]), ht]
  exact congrArg Host.Outcome.next (if_pos (by rw [hr, hf]; rfl))

/-! ### An attempt that fails (R144, R146) -/

/-- The time of MAP, or of LOCK with fewer than 4 data lanes, runs out. -/
theorem exec_trainStageTimeout_fails (ht : (s.link p.val).train = some tr)
    (h : s.f (F.SDS_STAT_STAGE p.val) = 4 ∨ (s.f (F.SDS_STAT_STAGE p.val) = 1 ∧ dataLanes (tr.lanes &&& pass.toNat) < 4)) :
    exec (.trainStageTimeout p pass) s = .next (s.attemptFails p.val) := by
  have he : exec (.trainStageTimeout p pass) s = execTrainStageTimeout p pass s := rfl
  rw [he, execTrainStageTimeout]
  rw [ht]
  refine congrArg Host.Outcome.next (if_pos ?_)
  rcases h with h4 | ⟨h1, hl⟩
  · simp [h4]
  · simp [h1, hl]

end

section
variable {s : State} {q : Nat} {tr : Training}

theorem State.attemptFails_lower (ht : (s.link q).train = some tr) (hf : tr.full = true) (hr : tr.rate < 3) :
    s.attemptFails q = s.beginTraining q true (tr.rate + 1) := by
  rw [State.attemptFails, ht]
  exact (if_neg (by rw [hf]; decide)).trans (if_pos hr)

theorem State.attemptFails_last (ht : (s.link q).train = some tr) (hf : tr.full = true) (hr : 3 ≤ tr.rate) :
    s.attemptFails q = (s.setFs [(F.LINK_STAT_STATE q, 1), (F.SDS_STAT_STAGE q, 0)]).updLink q (fun l => { l with
      train := none, retryWait := true }) := by
  rw [State.attemptFails, ht]
  exact (if_neg (by rw [hf]; decide)).trans (if_neg (Nat.not_lt.2 hr))

theorem State.attemptFails_fast (ht : (s.link q).train = some tr) (hf : tr.full = false) :
    s.attemptFails q = if (s.declareDown q 1).mayTrain q = true then (s.declareDown q 1).beginTraining q true tr.rate else s.declareDown q 1 := by
  rw [State.attemptFails, ht]
  exact if_pos (by rw [hf]; rfl)

end

/-! ### The rate hunt and the retry (R146, R528) -/

/-- The rate that the receiver hunts at next: the one after the last, but for the training's own. -/
def Training.nextHunt (tr : Training) : Nat :=
  if (tr.hunt.getD tr.rate + 1) % 4 = tr.rate then ((tr.hunt.getD tr.rate + 1) % 4 + 1) % 4 else (tr.hunt.getD tr.rate + 1) % 4

theorem Training.nextHunt_other (tr : Training) : tr.nextHunt < 4 ∧ tr.nextHunt ≠ tr.rate := by
  unfold Training.nextHunt
  split <;> omega

theorem exec_rateHuntStep {p : Port} {s : State} {tr : Training} (ht : (s.link p.val).train = some tr)
    (h1 : s.f (F.SDS_STAT_STAGE p.val) = 1) (hf : tr.full = true) (hs : tr.seen = false) :
    exec (.rateHuntStep p) s = .next (s.updTrain p.val (fun t => { t with hunt := some tr.nextHunt })) := by
  have he : exec (.rateHuntStep p) s = execRateHuntStep p s := rfl
  rw [he, execRateHuntStep]
  dsimp only
  rw [ht]
  exact if_pos (by rw [h1, hf, hs]; rfl)

theorem exec_trainRetryTimer {p : Port} {s : State} (hw : (s.link p.val).retryWait = true)
    (hl : s.b (F.EYESAFE_LOS (p.val / 3) (p.val % 3)) = false) :
    exec (.trainRetryTimer p) s = .next ((s.updLink p.val (fun l => { l with retryWait := false })).startFull p.val) := by
  have he : exec (.trainRetryTimer p) s = execTrainRetryTimer p s := rfl
  rw [he, execTrainRetryTimer]
  exact congrArg Host.Outcome.next (if_pos (by rw [hw, hl]; rfl))

end Sys2Proof.Machine

open Sys2Proof Sys2Proof.Machine

/-- Settles O25: training words, the end of LOCK and of MAP, a failed attempt, the hunt, and the retry. -/
theorem trainingEvents : Obligations.TrainingEvents := by
  unfold Obligations.TrainingEvents
  intro p s q
  refine ⟨fun line w h => exec_trainingWord_broken h, fun line w v inv h h3 h6 => ?_, fun line w v inv tr h h2 ht hr h4 => ?_,
    fun pass tr hc ht h1 h4 => ?_, fun pass tr ht h1 h4 => ?_, fun pass tr ht h4 h2 hr hf => exec_trainStageDone_map ht h4 h2 hr hf,
    fun pass tr ht h => ⟨fun hf hr => ?_, fun hf hr => ?_, fun hf => ?_⟩,
    fun tr ht h1 hf hs _ => ⟨tr.nextHunt, tr.nextHunt_other.1, tr.nextHunt_other.2, exec_rateHuntStep ht h1 hf hs⟩,
    fun hw hl => exec_trainRetryTimer hw hl⟩
  · rw [exec_trainingWord_sound h, State.takeTrainWord_quiet h3 h6]
  · rw [exec_trainingWord_sound h, State.takeTrainWord_own h2 ht hr h4]
  · exact ⟨_, (exec_trainStageDone_lock ht h1).trans (congrArg Host.Outcome.next (if_neg (Nat.not_lt.2 h4))), State.toAlign_spec hc q _ _⟩
  · rw [exec_trainStageDone_lock ht h1, if_pos h4]
  · rw [exec_trainStageTimeout_fails ht h, State.attemptFails_lower ht hf hr]
  · rw [exec_trainStageTimeout_fails ht h, State.attemptFails_last ht hf hr]
  · rw [exec_trainStageTimeout_fails ht h, State.attemptFails_fast ht hf]
end

section
/-! SUPPORT. Lanes in service: offsets and taps, A1, eye scans, margins and PRBS (R141, R149, R152 to R156, R359). -/

namespace Sys2Proof.Machine

/-! ### What adaptation may change (R149) -/

/-- `s` comes from `z` by changes of links, of free values drawn, and of the registers in `W`. -/
structure Tuned (W : List Nat) (z s : State) : Prop where
  frame : s = { z with regs := s.regs, links := s.links, free := s.free }
  keeps : z.keepsRegs s W

section
variable {V W : List Nat} {z s t : State}

theorem Tuned.refl (W : List Nat) (z : State) : Tuned W z z := ⟨rfl, fun _ _ => rfl⟩

theorem Tuned.trans (h : Tuned W z s) (k : Tuned W s t) : Tuned W z t := by
  obtain ⟨hs, hz⟩ := h
  obtain ⟨regs, links, free, rfl⟩ : ∃ regs links free, s = { z with regs := regs, links := links, free := free } := ⟨_, _, _, hs⟩
  exact ⟨k.frame, hz.trans k.keeps⟩

theorem Tuned.mono (h : Tuned V z s) (hV : ∀ a ∈ V, a ∈ W) : Tuned W z s := ⟨h.frame, h.keeps.mono hV⟩

theorem Tuned.wr (h : Tuned W z s) {off : Nat} (ho : off ∈ W) (v : Word) : Tuned W z (s.wr off v) :=
  h.trans ⟨rfl, fun _ hn => State.rd_wr_ne (by rintro rfl; exact hn ho) v⟩

theorem Tuned.setF (h : Tuned W z s) {x : Fld} (ho : x.off ∈ W) (v : Nat) : Tuned W z (s.setF x v) := h.wr ho _

theorem Tuned.setFs (h : Tuned W z s) (l : List (Fld × Nat)) (hl : ∀ e ∈ l, e.1.off ∈ W) : Tuned W z (s.setFs l) := by
  induction l generalizing s with
  | nil => exact h
  | cons e l ih => exact ih (h.setF (hl e (List.mem_cons_self ..)) e.2) (fun x hx => hl x (List.mem_cons_of_mem _ hx))

theorem Tuned.updLink (h : Tuned W z s) (p : Nat) (g : Link → Link) : Tuned W z (s.updLink p g) := h.trans ⟨rfl, fun _ _ => rfl⟩

theorem Tuned.fresh (h : Tuned W z s) : Tuned W z s.fresh.2 := h.trans ⟨rfl, fun _ _ => rfl⟩

end

/-- The registers of a lane's equaliser (R148). -/
def tapRegs (q j : Nat) : List Nat := [R.LANE_TAP q j 0, R.LANE_TAP q j 1, R.LANE_TAP q j 2, R.LANE_THR q j]

/-- The registers of a lane. -/
def laneRegs (q j : Nat) : List Nat := R.LANE_STAT q j :: tapRegs q j

theorem laneStat_not_mem_tapRegs (q i j : Nat) : R.LANE_STAT q i ∉ tapRegs q j := by
  simp only [tapRegs, List.mem_cons, List.not_mem_nil, or_false, R.LANE_STAT, R.LANE_TAP, R.LANE_THR]
  omega

theorem laneStat_not_mem_laneRegs {q i j : Nat} (h : i ≠ j) : R.LANE_STAT q i ∉ laneRegs q j :=
  List.not_mem_cons_of_ne_of_not_mem (laneStat_ne h) (laneStat_not_mem_tapRegs q i j)

theorem laneStat_mem_laneRegs (q j : Nat) : R.LANE_STAT q j ∈ laneRegs q j := List.mem_cons_self ..

theorem sdsStat_not_mem_laneRegs (q j : Nat) : R.SDS_STAT q ∉ laneRegs q j := by
  simp only [laneRegs, tapRegs, List.mem_cons, List.not_mem_nil, or_false, R.SDS_STAT, R.LANE_STAT, R.LANE_TAP, R.LANE_THR]
  omega

/-- Adaptation draws free values for a lane's taps and thresholds (assumption 161). -/
theorem State.adapt_tuned (s : State) (q j : Nat) : Tuned (tapRegs q j) s (s.adapt q j) :=
  (((((Tuned.refl _ s).fresh.fresh.wr (by simp [tapRegs]) _).wr (by simp [tapRegs]) _).wr (by simp [tapRegs]) _).wr (by simp [tapRegs]) _)

theorem State.saveEq_f (s : State) (q j rate : Nat) (x : Fld) : (s.saveEq q j rate).f x = s.f x := State.updLink_f ..

/-! ### The offset check (R141, R149) -/

/-- What the offset check does to one lane: its peak stored, its lock lost above 300 ppm, and its taps where it adapts. -/
def State.checkOffset (s : State) (q : Nat) (x : Nat × BitVec 16) : State :=
  let s1 := s.setF (F.LANE_STAT_FREQ_OFS q x.1) x.2.toNat
  if 3000 < x.2.toInt.natAbs then s1.setFs (laneDark q x.1)
  else if s1.adapts q x.1 then (s1.adapt q x.1).saveEq q x.1 (s1.link q).mapRate
  else s1

theorem exec_laneOffsetCheck (p : Port) (ofs : List (BitVec 16)) (s : State) :
    exec (.laneOffsetCheck p ofs) s = .next ((s.each ((List.range 17).zip ofs) (fun s x => s.checkOffset p.val x)).setB
      (F.SDS_STAT_A1_BLOCKED p.val) (((List.range 17).zip ofs).any (fun x => decide (2500 < x.2.toInt.natAbs)))) := rfl

/-- A lane after its offset check: the offset shown, and CDR_LOCK. -/
def State.showsOffset (s u : State) (q : Nat) (x : Nat × BitVec 16) : Prop :=
  u.f (F.LANE_STAT_FREQ_OFS q x.1) = x.2.toNat ∧
    u.f (F.LANE_STAT_CDR_LOCK q x.1) = if 3000 < x.2.toInt.natAbs then 0 else s.f (F.LANE_STAT_CDR_LOCK q x.1)

theorem State.checkOffset_canonical {s : State} (h : s.canonical) (q : Nat) (x : Nat × BitVec 16) : (s.checkOffset q x).canonical := by
  have h1 := State.setF_canonical h (F.LANE_STAT_FREQ_OFS q x.1) x.2.toNat
  unfold State.checkOffset
  dsimp only
  split
  · exact State.setFs_canonical h1 _
  · split
    · exact (((Kept.refl _).adapt q x.1).saveEq q x.1 _).2 h1
    · exact h1

theorem State.checkOffset_tuned (s : State) (q : Nat) (x : Nat × BitVec 16) : Tuned (laneRegs q x.1) s (s.checkOffset q x) := by
  have h1 : Tuned (laneRegs q x.1) s (s.setF (F.LANE_STAT_FREQ_OFS q x.1) x.2.toNat) :=
    (Tuned.refl _ s).setF (x := F.LANE_STAT_FREQ_OFS q x.1) (laneStat_mem_laneRegs q x.1) _
  unfold State.checkOffset
  dsimp only
  split
  · exact h1.setFs _ fun e he => by rw [laneDark_off e he]; exact laneStat_mem_laneRegs q x.1
  · split
    · exact (h1.trans ((State.adapt_tuned _ q x.1).mono fun a ha => List.mem_cons_of_mem _ ha)).updLink q _
    · exact h1

theorem State.checkOffset_shows {s : State} (h : s.canonical) (q : Nat) (x : Nat × BitVec 16) : s.showsOffset (s.checkOffset q x) q x := by
  have h1 := State.setF_canonical h (F.LANE_STAT_FREQ_OFS q x.1) x.2.toNat
  have hofs : (s.setF (F.LANE_STAT_FREQ_OFS q x.1) x.2.toNat).f (F.LANE_STAT_FREQ_OFS q x.1) = x.2.toNat :=
    (State.f_setF_same h.rising _ _ (by simp [F.LANE_STAT_FREQ_OFS])).trans (Nat.mod_eq_of_lt x.2.isLt)
  have hlock : (s.setF (F.LANE_STAT_FREQ_OFS q x.1) x.2.toNat).f (F.LANE_STAT_CDR_LOCK q x.1) = s.f (F.LANE_STAT_CDR_LOCK q x.1) :=
    State.f_setF_ne h (.inr (by simp [F.LANE_STAT_FREQ_OFS, F.LANE_STAT_CDR_LOCK])) _
  unfold State.showsOffset State.checkOffset
  dsimp only
  generalize s.setF (F.LANE_STAT_FREQ_OFS q x.1) x.2.toNat = u at h1 hofs hlock
  split
  · have hdark := State.f_laneDark h1 q x.1 (F.LANE_STAT_CDR_LOCK q x.1, 0) (List.mem_cons_self ..)
    have hkept : (u.setFs (laneDark q x.1)).f (F.LANE_STAT_FREQ_OFS q x.1) = u.f (F.LANE_STAT_FREQ_OFS q x.1) :=
      State.f_setFs_ne h1 _ (by simp [laneDark, Fld.apart, F.LANE_STAT_FREQ_OFS, F.LANE_STAT_CDR_LOCK, F.LANE_STAT_STANDBY])
    exact ⟨hkept.trans hofs, hdark⟩
  · split
    · have hk := (u.adapt_tuned q x.1).keeps
      have hn := laneStat_not_mem_tapRegs q x.1 x.1
      rw [State.saveEq_f, State.saveEq_f]
      exact ⟨(hk.f (x := F.LANE_STAT_FREQ_OFS q x.1) hn).trans hofs, (hk.f (x := F.LANE_STAT_CDR_LOCK q x.1) hn).trans hlock⟩
    · exact ⟨hofs, hlock⟩

/-- Lanes checked one after another: each shows its own offset, and only their registers change. -/
theorem State.each_checkOffset {s : State} (h : s.canonical) (q : Nat) (l : List (Nat × BitVec 16)) (hd : (l.map Prod.fst).Nodup) :
    let u := s.each l (fun s x => s.checkOffset q x)
    u.canonical ∧ Tuned ((l.map Prod.fst).flatMap (laneRegs q)) s u ∧ ∀ x ∈ l, s.showsOffset u q x := by
  induction l generalizing s with
  | nil => exact ⟨h, .refl _ s, fun _ hx => absurd hx List.not_mem_nil⟩
  | cons a l ih =>
    obtain ⟨hna, hd⟩ := List.nodup_cons.1 hd
    have hone := s.checkOffset_tuned q a
    obtain ⟨hofs, hlock⟩ := State.checkOffset_shows h q a
    obtain ⟨hc, htuned, hall⟩ := ih (State.checkOffset_canonical h q a) hd
    refine ⟨hc, (hone.mono fun _ hr => List.mem_append_left _ hr).trans (htuned.mono fun _ hr => List.mem_append_right _ hr), fun x hx => ?_⟩
    rcases List.mem_cons.1 hx with rfl | hx
    · have hfar : R.LANE_STAT q x.1 ∉ (l.map Prod.fst).flatMap (laneRegs q) := fun hm => by
        obtain ⟨j, hj, hr⟩ := List.mem_flatMap.1 hm
        exact laneStat_not_mem_laneRegs (by rintro rfl; exact hna hj) hr
      exact ⟨(htuned.keeps.f (x := F.LANE_STAT_FREQ_OFS q x.1) hfar).trans hofs,
        (htuned.keeps.f (x := F.LANE_STAT_CDR_LOCK q x.1) hfar).trans hlock⟩
    · have hne : x.1 ≠ a.1 := fun he => hna (he ▸ List.mem_map_of_mem hx)
      obtain ⟨hx1, hx2⟩ := hall x hx
      rw [hone.keeps.f (x := F.LANE_STAT_CDR_LOCK q x.1) (laneStat_not_mem_laneRegs hne)] at hx2
      exact ⟨hx1, hx2⟩

theorem laneOffsetCheck_spec (p : Port) {ofs : List (BitVec 16)} {s : State} (hl : ofs.length = 17) (h : s.canonical) :
    let q := p.val
    ∃ t : State, exec (.laneOffsetCheck p ofs) s = .next t ∧ Tuned (R.SDS_STAT q :: (List.range 17).flatMap (laneRegs q)) s t ∧
      (∀ j (hj : j < ofs.length), s.showsOffset t q (j, ofs[j])) ∧
      t.f (F.SDS_STAT_A1_BLOCKED q) = if ofs.any (fun x => decide (2500 < x.toInt.natAbs)) then 1 else 0 := by
  intro q
  have hfst : ((List.range 17).zip ofs).map Prod.fst = List.range 17 := List.map_fst_zip (by rw [List.length_range, hl])
  have hsnd : ((List.range 17).zip ofs).map Prod.snd = ofs := List.map_snd_zip (by rw [List.length_range, hl])
  have hany : ((List.range 17).zip ofs).any (fun x => decide (2500 < x.2.toInt.natAbs)) = ofs.any (fun x => decide (2500 < x.toInt.natAbs)) := by
    rw [← congrArg (fun l => l.any fun x => decide (2500 < x.toInt.natAbs)) hsnd, List.any_map]
    rfl
  obtain ⟨hc, htuned, hall⟩ := State.each_checkOffset h q ((List.range 17).zip ofs) (by rw [hfst]; exact List.nodup_range)
  rw [hfst] at htuned
  rw [exec_laneOffsetCheck, hany]
  refine ⟨_, rfl, Tuned.setF (x := F.SDS_STAT_A1_BLOCKED q)
    (htuned.mono fun _ hr => List.mem_cons_of_mem _ hr) (show R.SDS_STAT q ∈ _ from List.mem_cons_self ..) _, fun j hj => ?_,
    State.f_setB_same hc _ _ (by simp [F.SDS_STAT_A1_BLOCKED]) rfl⟩
  have hm : (j, ofs[j]) ∈ (List.range 17).zip ofs := List.mem_iff_getElem.2 ⟨j, by simp [hl] at hj ⊢; exact hj, by simp⟩
  obtain ⟨hofs, hlock⟩ := hall _ hm
  have hne : R.LANE_STAT q j ≠ R.SDS_STAT q := fun he => sdsStat_not_mem_laneRegs q j (he ▸ List.mem_cons_self ..)
  exact ⟨(State.f_setF_off (x := F.SDS_STAT_A1_BLOCKED q) (y := F.LANE_STAT_FREQ_OFS q j) hne _).trans hofs,
    (State.f_setF_off (x := F.SDS_STAT_A1_BLOCKED q) (y := F.LANE_STAT_CDR_LOCK q j) hne _).trans hlock⟩

/-! ### A1 (R154, R155, R156) -/

section
variable {p : Port} {s : State} {q : Nat}

theorem exec_tapSaturated (p : Port) (j : Lane) (s : State) :
    exec (.tapSaturated p j) s = .next ((s.setF (F.LANE_STAT_TAP_SAT p.val j.val) 1).note 0x2 .tapSat 1 (tgtLane p.val j.val)) := rfl

theorem State.laneRunOn_false (h : ∀ r ∈ (s.bl (q / 3)).runs, r.slot ≠ q % 3) : s.laneRunOn q = false :=
  List.any_eq_false.2 fun r hr => by simpa using h r hr

theorem exec_a1Entry (hu : s.linkUp p.val = true) (he : s.b (F.SDS_CTL_A1_EN p.val) = true) (hb : s.b (F.SDS_STAT_A1_BLOCKED p.val) = false)
    (hi : (s.link p.val).idle = true) (ha : s.ackDue p.val = false) (hr : s.laneRunOn p.val = false) :
    exec (.a1Entry p) s = .next (((s.updLink p.val (fun l => { l with txQuiet := true })).setF (F.SDS_STAT_STAGE p.val) 6).sendBlocks p.val 6
      (s.mapLanes p.val)) := by
  have hx : exec (.a1Entry p) s = execA1Entry p s := rfl
  unfold State.laneRunOn at hr
  rw [hx, execA1Entry]
  exact congrArg Host.Outcome.next (if_pos (by rw [hu, he, hb, hi, ha, hr]; rfl))

/-- A burst leaves while the transmitter is in A1, and one that comes realigns the phase of a receiver in A1. -/
theorem exec_keepPhaseBurst (p : Port) (s : State) :
    let sent := if (s.link p.val).txQuiet then s.emit (.keepPhase p.val) else s
    exec (.keepPhaseBurst p) s =
      .next (if s.b (F.SDS_STAT_RX_QUIET p.val) then sent.updLink p.val (fun l => { l with phaseAt := some s.bell }) else sent) := by
  have hx : exec (.keepPhaseBurst p) s = execKeepPhaseBurst p s := rfl
  intro sent
  have hq : sent.b (F.SDS_STAT_RX_QUIET p.val) = s.b (F.SDS_STAT_RX_QUIET p.val) := by
    subst sent
    split <;> rfl
  rw [hx, execKeepPhaseBurst, ← hq]

theorem State.wakeTx_quiet (h : (s.link q).txQuiet = true) : s.wakeTx q =
    ((s.updLink q (fun l => { l with txQuiet := false })).setF (F.SDS_STAT_STAGE q) 5).emit (.wake q (s.link q).mapRate) := if_pos h

theorem State.wakeTx_awake (h : (s.link q).txQuiet = false) : s.wakeTx q = s := if_neg (by rw [h]; decide)

theorem State.wakeTx_proctor (s : State) (q : Nat) : (s.wakeTx q).proctor = s.proctor := by
  cases h : (s.link q).txQuiet with
  | true => rw [State.wakeTx_quiet h, State.emit_proctor, State.setF_proctor, State.updLink_proctor]
  | false => rw [State.wakeTx_awake h]

theorem exec_a1Exit (p : Port) (s : State) :
    exec (.a1Exit p) s = .next (if !(s.link p.val).idle || s.ackDue p.val || s.laneRunOn p.val then s.wakeTx p.val else s) := rfl

theorem exec_a1Exit_wakes (hq : (s.link p.val).txQuiet = true)
    (h : (s.link p.val).idle = false ∨ s.ackDue p.val = true ∨ s.laneRunOn p.val = true) :
    exec (.a1Exit p) s = .next (((s.updLink p.val (fun l => { l with txQuiet := false })).setF (F.SDS_STAT_STAGE p.val) 5).emit
      (.wake p.val (s.link p.val).mapRate)) := by
  rw [exec_a1Exit, if_pos (by simpa [or_assoc] using h), State.wakeTx_quiet hq]

theorem exec_a1Exit_stays
    (h : (s.link p.val).txQuiet = false ∨ ((s.link p.val).idle = true ∧ s.ackDue p.val = false ∧ s.laneRunOn p.val = false)) :
    exec (.a1Exit p) s = .next s := by
  rw [exec_a1Exit]
  rcases h with hq | ⟨hi, ha, hr⟩
  · rw [State.wakeTx_awake hq, ite_self]
  · rw [if_neg (by simp [hi, ha, hr])]

/-! ### Eye scans (R152, R153) -/

theorem exec_eyeScanPoint_held (mism : BitVec 64) (hr : s.laneRunOn p.val = true) : exec (.eyeScanPointDone p mism) s = .next s := by
  have hx : exec (.eyeScanPointDone p mism) s = execEyeScanPointDone p mism s := rfl
  rw [hx, execEyeScanPointDone]
  dsimp only
  split
  · rfl
  · exact if_pos hr

/-- The last point ends the command, with 8 bytes a point. -/
theorem exec_eyeScanPoint_last (mism : BitVec 64) {sc : EyeScan} (hs : (s.link p.val).scan = some sc) (hr : s.laneRunOn p.val = false)
    (hl : sc.points.length ≤ 1) :
    exec (.eyeScanPointDone p mism) s = .next (((s.updLink p.val (fun l => { l with scan := none })).setFs
      [(F.ESCAN_STAT_LANE p.val, 0), (F.ESCAN_STAT_USER p.val, 0)]).finish sc.run stOk 0 ((sc.counts ++ [mism.toNat]).flatMap (leBytes 8))) := by
  have hx : exec (.eyeScanPointDone p mism) s = execEyeScanPointDone p mism s := rfl
  rw [hx, execEyeScanPointDone]
  dsimp only
  rw [hs]
  dsimp only
  rw [if_neg (by rw [hr]; decide), List.drop_eq_nil_of_le hl]

theorem exec_eyeScanPoint_next (mism : BitVec 64) {sc : EyeScan} (hs : (s.link p.val).scan = some sc) (hr : s.laneRunOn p.val = false)
    (hl : 1 < sc.points.length) :
    exec (.eyeScanPointDone p mism) s = .next (s.updLink p.val (fun l => { l with
      scan := some { sc with points := sc.points.drop 1, counts := sc.counts ++ [mism.toNat] } })) := by
  have hx : exec (.eyeScanPointDone p mism) s = execEyeScanPointDone p mism s := rfl
  obtain ⟨a, rest, hrest⟩ : ∃ a rest, sc.points.drop 1 = a :: rest :=
    List.exists_cons_of_ne_nil fun h => absurd (List.drop_eq_nil_iff.1 h) (Nat.not_le.2 hl)
  rw [hx, execEyeScanPointDone]
  dsimp only
  rw [hs]
  dsimp only
  rw [if_neg (by rw [hr]; decide), hrest]

/-- The scan that an accepted command starts. -/
def eyeScanOf (b : State) (pk : Packet) : EyeScan :=
  ⟨b.proctor.nextId, pk.sub, pk.w 0, scanPoints (pk.int 1) (pk.int 2) (pk.int 3) (pk.int 4), [], pk.w 5⟩

theorem portEyeScan_accepted {pk : Packet} {o : Nat} (ha : s.accepts portEyeScanDef pk o) :
    let b := s.begun pk
    let u := ((b.updLink pk.unit (fun l => { l with scan := some (eyeScanOf b pk) })).wakeTx pk.unit).setFs
      (if b.laneRunOn pk.unit then [] else [(F.ESCAN_STAT_LANE pk.unit, pk.sub), (F.ESCAN_STAT_USER pk.unit, 2)])
    exec (.portEyeScan pk) s = .next (u.startsRunning b portEyeScanDef pk o) := by
  intro b u
  refine congrArg Host.Outcome.next (runCmd_starts ha rfl (congrArg Proctor.nextId ?_))
  rw [State.setFs_proctor, State.wakeTx_proctor, State.updLink_proctor]

theorem portPrbs_accepted {pk : Packet} {o : Nat} (ha : s.accepts portPrbsDef pk o) :
    exec (.portPrbs pk) s = .next ((s.begun pk).startsRunning (s.begun pk) portPrbsDef pk o) :=
  congrArg Host.Outcome.next (runCmd_starts ha rfl rfl)

end

/-! ### Margins (R152, R359) -/

/-- An opening noted for a lane, with the time since which it has been below a limit. -/
def eyeNoted (bell k v lim : Nat) (m : List (Nat × Nat × Option Nat)) : List (Nat × Nat × Option Nat) :=
  let since := match Map.find k m with
    | some (_, some b) => some b
    | _ => some bell
  Map.put k (v, if v < lim then since else none) m

theorem find_eyeNoted_same (bell k v lim : Nat) (m : List (Nat × Nat × Option Nat)) :
    ∃ since, Map.find k (eyeNoted bell k v lim m) = some (v, since) := ⟨_, Map.find_put_same ..⟩

theorem find_eyeNoted_ne {j k : Nat} (h : j ≠ k) (bell v lim : Nat) (m : List (Nat × Nat × Option Nat)) :
    Map.find j (eyeNoted bell k v lim m) = Map.find j m := Map.find_put_ne h ..

/-- A lane's opening noted at a port. -/
def State.noteEye (s : State) (q k v lim : Nat) : State := s.updLink q (fun l => { l with eyes := eyeNoted s.bell k v lim l.eyes })

theorem State.noteEye_eyes (s : State) (q k v lim : Nat) : ((s.noteEye q k v lim).link q).eyes = eyeNoted s.bell k v lim (s.link q).eyes := by
  obtain ⟨since, hf⟩ := find_eyeNoted_same s.bell k v lim (s.link q).eyes
  refine congrArg Link.eyes (Map.get_upd_of_ne (d := ({} : Link)) (m := s.links) (k := q)
    (f := fun l => { l with eyes := eyeNoted s.bell k v lim l.eyes }) fun hd => ?_)
  have hnil : eyeNoted s.bell k v lim (s.link q).eyes = [] := congrArg Link.eyes hd
  rw [hnil] at hf
  exact absurd hf (by simp [Map.find])

/-- The middle of the lanes' openings. -/
def State.medianEye (s : State) (q : Nat) : Nat := median (((s.link q).eyes.filter (fun e => e.1 != 31)).map (fun e => e.2.1))

theorem exec_marginSweepStep {p : Port} {j : Lane} {s : State} (opening : BitVec 16) (hr : s.laneRunOn p.val = false)
    (hs : (s.link p.val).scan = none) (hu : s.linkUp p.val = true) (hm : s.b (F.LANE_STAT_IN_MAP p.val j.val) = true) :
    let s1 := s.noteEye p.val j.val opening.toNat 16
    exec (.marginSweepStep p j opening) s =
      .next ((s1.noteEye p.val 31 (s1.medianEye p.val) 24).setFs [(F.ESCAN_STAT_LANE p.val, j.val), (F.ESCAN_STAT_USER p.val, 1)]) := by
  have hx : exec (.marginSweepStep p j opening) s = execMarginSweepStep p j opening s := rfl
  intro s1
  rw [hx, execMarginSweepStep]
  dsimp only
  rw [if_neg (by simp [hr, hs, hu, hm])]
  rfl

theorem marginSweepStep_spec {p : Port} {j : Lane} {s : State} (opening : BitVec 16) (hr : s.laneRunOn p.val = false)
    (hs : (s.link p.val).scan = none) (hu : s.linkUp p.val = true) (hm : s.b (F.LANE_STAT_IN_MAP p.val j.val) = true) (h : s.canonical) :
    ∃ t : State, exec (.marginSweepStep p j opening) s = .next t ∧ t.f (F.ESCAN_STAT_LANE p.val) = j.val ∧ t.f (F.ESCAN_STAT_USER p.val) = 1 ∧
      s.keepsRegs t [R.ESCAN_STAT p.val] ∧ t = { s with regs := t.regs, links := t.links } ∧
      ∃ since, Map.find j.val (t.link p.val).eyes = some (opening.toNat, since) := by
  have hx := exec_marginSweepStep opening hr hs hu hm
  dsimp only at hx
  generalize (s.noteEye p.val j.val opening.toNat 16).medianEye p.val = med at hx
  have hc : ((s.noteEye p.val j.val opening.toNat 16).noteEye p.val 31 med 24).canonical := (((Kept.refl s).updLink _ _).updLink _ _).2 h
  obtain ⟨since, hf⟩ := find_eyeNoted_same s.bell j.val opening.toNat 16 (s.link p.val).eyes
  have heye : Map.find j.val (((s.noteEye p.val j.val opening.toNat 16).noteEye p.val 31 med 24).link p.val).eyes = some (opening.toNat, since) := by
    rw [State.noteEye_eyes, find_eyeNoted_ne (by omega), State.noteEye_eyes, hf]
  obtain ⟨links, hv⟩ : ∃ links, (s.noteEye p.val j.val opening.toNat 16).noteEye p.val 31 med 24 = { s with links := links } := ⟨_, rfl⟩
  rw [hv] at hx hc heye
  have honly := (State.onlyRegs.refl ({ s with links := links } : State)).setFs [(F.ESCAN_STAT_LANE p.val, j.val), (F.ESCAN_STAT_USER p.val, 1)]
  refine ⟨_, hx, ?_, ?_, ?_, honly.eq.trans ?_, since, ?_⟩
  · exact (State.f_setFs_at (v := j.val) hc _ 0 rfl (by simp [F.ESCAN_STAT_LANE])
      (by simp [Fld.apart, F.ESCAN_STAT_LANE, F.ESCAN_STAT_USER])).trans (Nat.mod_eq_of_lt (Nat.lt_of_lt_of_le j.isLt (by simp [F.ESCAN_STAT_LANE])))
  · exact (State.f_setFs_at (v := 1) hc _ 1 rfl (by simp [F.ESCAN_STAT_USER]) (by simp)).trans (Nat.mod_eq_of_lt (by simp [F.ESCAN_STAT_USER]))
  · exact State.keepsRegs_setFs ({ s with links := links } : State) _ (by simp [F.ESCAN_STAT_LANE, F.ESCAN_STAT_USER])
  · rw [State.setFs_links]
  · rw [State.link, State.setFs_links]
    exact heye

end Sys2Proof.Machine

open Sys2Proof Sys2Proof.Machine

/-- Settles O26: the offset check, A1, the scan, the sweep, and the two commands. -/
theorem laneEvents : Obligations.LaneEvents := by
  unfold Obligations.LaneEvents
  intro p s q
  refine ⟨fun ofs hl h => ?_, fun j => exec_tapSaturated p j s, fun hu he hb hi ha hr => exec_a1Entry hu he hb hi ha (State.laneRunOn_false hr),
    exec_keepPhaseBurst p s, exec_a1Exit_wakes, exec_a1Exit_stays,
    fun mism sc hs hr => ⟨exec_eyeScanPoint_last mism hs hr, exec_eyeScanPoint_next mism hs hr⟩, fun mism hr => exec_eyeScanPoint_held mism hr,
    fun j opening hr hs hu hm h => marginSweepStep_spec opening hr hs hu hm h, fun o pk ha => portEyeScan_accepted ha,
    fun o pk ha => portPrbs_accepted ha⟩
  obtain ⟨t, he, htuned, hall, hblocked⟩ := laneOffsetCheck_spec p hl h
  exact ⟨t, he, htuned.frame, htuned.keeps, hall, hblocked⟩
end

section
/-! SUPPORT. Link control messages: the round trip, LANESET, VERIFY and the doze (R151, R157, R178, R187, R188, R379, R533). -/

namespace Sys2Proof.Machine

/-! ### The round trip (R178, R187) -/

section
variable {v : Via} {msg : List Byte} {s s1 : State}

theorem exec_rttMeasure (hr : s.linkRuns v.code = true) (hd : (s.link v.code).dozed = false) :
    exec (.rttMeasure v) s = .next ((s.fresh.2.updLink v.code (fun l => { l with echoAt := some s.fresh.1.toNat })).enqueue v.code
      [lctlFlit ([3, 0, 0, 0] ++ leBytes 8 s.fresh.1.toNat)]) := by
  have he : exec (.rttMeasure v) s = execRttMeasure v s := rfl
  rw [he, execRttMeasure]
  exact if_pos (by rw [hr, hd]; rfl)

theorem exec_echo (hp : s.popRx v.code 2 (fitBytes 232 msg) = some s1) (hm : leAt msg 0 1 = 3) :
    exec (.echo v msg) s = .next (s1.fresh.2.enqueue v.code
      [lctlFlit ([4, 0, 0, 0] ++ fitBytes 8 (msg.drop 4) ++ leBytes 4 (s1.fresh.1.toNat % 2 ^ 32))]) := by
  have he : exec (.echo v msg) s = execEcho v msg s := rfl
  rw [he, execEcho, hp]
  exact if_neg (not_not.2 hm)

/-- The round trip stored, and the ECHO in hand answered. -/
def State.storeRtt (s : State) (q rtt : Nat) : State := (s.setF (F.LINK_RTT_RTT_NS q) rtt).updLink q (fun l => { l with echoAt := none })

/-- The reply to the ECHO in hand (R178). -/
theorem exec_echoReply {elapsed : BitVec 32} (hp : s.popRx v.code 2 (fitBytes 232 msg) = some s1) (hm : leAt msg 0 1 = 4)
    (ha : (s1.link v.code).echoAt = some (leAt msg 4 8)) (hr : s1.linkRuns v.code = true) :
    let rtt := min 65535 (elapsed.toNat - leAt msg 12 4)
    let s2 := s1.storeRtt v.code rtt
    exec (.echoReply v msg elapsed) s = .next (if (s2.link v.code).rttDone then s2 else s2.fixPartitions v.code rtt) := by
  have he : exec (.echoReply v msg elapsed) s = execEchoReply v msg elapsed s := rfl
  intro rtt s2
  rw [he, execEchoReply]
  dsimp only
  rw [hp]
  exact if_neg (by simp [hm, ha, hr])

end

/-! ### A request of the far end (R188, R189) -/

/-- The lanes that a LANESET message names by position (R187). -/
def lanesetLanes (msg : List Byte) : List Nat := (List.range 16).map (fun i => leAt msg (10 + i) 1)

/-- The answer to a LANESET message (R188). -/
def lanesetAnswer (msg : List Byte) (res at_ : Nat) : Flit := lctlFlit ([2] ++ leBytes 1 (leAt msg 1 1) ++ leBytes 1 res ++ [0] ++ leBytes 3 at_)

/-- This end's boundary for a LANESET that it accepts: a round trip and 1 µs ahead (R188). -/
def State.nextBoundary (s : State) (q : Nat) : Nat := (s.f (F.LINK_SEQ_TX_SEQ q) + s.boundaryFlits q + 1) % seqMod

/-- The far end's request as this end holds it once accepted. -/
def State.farLaneset (s : State) (q : Nat) (msg : List Byte) : Laneset :=
  { mine := false, reqId := leAt msg 1 1, width := leAt msg 2 1, rate := leAt msg 3 1, pos := (lanesetLanes msg).take (leAt msg 2 1),
    newEpoch := leAt msg 8 2, txAt := s.nextBoundary q, rxAt := some (leAt msg 4 3), acked := true, txDone := false, rxDone := false,
    cancelled := false, run := none }

/-- A request accepted: it pends, and is answered with this end's boundary. -/
def State.acceptLaneset (s : State) (q : Nat) (msg : List Byte) : State :=
  ((s.updLink q (fun l => { l with laneset := some (s.farLaneset q msg), oldMap := some (s.mapNow q) })).setF
    (F.LINK_STAT_LANESET_PEND q) 1).enqueue q [lanesetAnswer msg 0 (s.nextBoundary q)]

/-- The answer to a request that finds no other in hand: refused with its reason, or accepted. -/
def State.answerLaneset (s : State) (q : Nat) (msg : List Byte) : State :=
  match s.lanesetRefusal q (leAt msg 2 1) (leAt msg 3 1) (lanesetLanes msg) with
  | some r => s.enqueue q [lanesetAnswer msg r 0]
  | none => s.acceptLaneset q msg

theorem State.answerLaneset_refused {s : State} {q r : Nat} {msg : List Byte}
    (h : s.lanesetRefusal q (leAt msg 2 1) (leAt msg 3 1) (lanesetLanes msg) = some r) :
    s.answerLaneset q msg = s.enqueue q [lanesetAnswer msg r 0] := by
  rw [State.answerLaneset, h]

theorem State.answerLaneset_accepted {s : State} {q : Nat} {msg : List Byte}
    (h : s.lanesetRefusal q (leAt msg 2 1) (leAt msg 3 1) (lanesetLanes msg) = none) : s.answerLaneset q msg = s.acceptLaneset q msg := by
  rw [State.answerLaneset, h]

section
variable {p : Port} {msg : List Byte} {s s1 : State} {ls : Laneset}

theorem exec_laneset (hp : s.popRx p.val 2 (fitBytes 232 msg) = some s1) (hm : leAt msg 0 1 = 1) (hn : leAt msg 26 1 ≠ 1)
    (hu : s1.linkUp p.val = true) (hl : (s1.link p.val).laneset = none) : exec (.laneset p msg) s = .next (s1.answerLaneset p.val msg) := by
  have he : exec (.laneset p msg) s = execLaneset p msg s := rfl
  rw [he, execLaneset]
  dsimp only
  rw [if_neg (by simp [hm, hn]), hp]
  dsimp only
  rw [if_neg (by rw [hu]; decide), hl]
  rfl

/-! ### The answer, and its absence (R188, R533) -/

/-- A request accepted by the far end, after CANCEL from the next sequenced flit on. -/
def State.ackedLaneset (s : State) (q : Nat) (ls : Laneset) (rxAt : Nat) : Laneset :=
  { ls with acked := true, rxAt := some rxAt, cancelled := false, txAt := if ls.cancelled then s.f (F.LINK_SEQ_TX_SEQ q) else ls.txAt }

/-- The answer to the request in hand: a refusal ends it unless it was accepted before. -/
theorem exec_lanesetAck (hp : s.popRx p.val 2 (fitBytes 232 msg) = some s1) (hl : (s1.link p.val).laneset = some ls)
    (hm : leAt msg 0 1 = 2) (hmine : ls.mine = true) (hid : ls.reqId = leAt msg 1 1) :
    exec (.lanesetAck p msg) s = if leAt msg 2 1 ≠ 0 then .next (if ls.acked then s1 else s1.endLaneset p.val 0x8201 (leAt msg 2 1))
      else .next (s1.updLink p.val (fun l => { l with laneset := some (s1.ackedLaneset p.val ls (leAt msg 4 3)) })) := by
  have he : exec (.lanesetAck p msg) s = execLanesetAck p msg s := rfl
  rw [he, execLanesetAck, if_neg (not_not.2 hm), hp]
  dsimp only
  rw [hl]
  dsimp only
  rw [if_neg (by simp [hmine, hid])]
  rfl

/-- CANCEL: a responder that has not switched withdraws the request; one that has stays on the new map. -/
theorem exec_lanesetCancel (hp : s.popRx p.val 2 (fitBytes 232 msg) = some s1) (hl : (s1.link p.val).laneset = some ls)
    (hm : leAt msg 0 1 = 1) (hc : leAt msg 26 1 = 1) (hmine : ls.mine = false) (hid : ls.reqId = leAt msg 1 1) :
    exec (.lanesetCancel p msg) s = .next (if !ls.txDone then s1.endLaneset p.val stOk 0
      else (s1.setF (F.LINK_STAT_EPOCH p.val) ls.newEpoch).updLink p.val (fun l => { l with farEpoch := ls.newEpoch })) := by
  have he : exec (.lanesetCancel p msg) s = execLanesetCancel p msg s := rfl
  rw [he, execLanesetCancel, if_neg (by simp [hm, hc]), hp]
  dsimp only
  rw [hl]
  dsimp only
  rw [if_neg (by simp [hmine, hid])]

/-- The transmit map switches at its boundary, with a wake burst where the rate changes (R157). -/
theorem exec_lanesetBoundary (hl : (s.link p.val).laneset = some ls) (ht : s.f (F.LINK_SEQ_TX_SEQ p.val) = ls.txAt) (ha : ls.acked = true)
    (hd : ls.txDone = false) :
    let u := s.updLink p.val (fun l => { l with laneset := some { ls with txDone := true }, txPhase := 0 })
    exec (.lanesetBoundary p) s = .next ((if ls.rate = (s.link p.val).mapRate then u else u.emit (.wake p.val ls.rate)).commitLaneset p.val) := by
  have he : exec (.lanesetBoundary p) s = execLanesetBoundary p s := rfl
  intro u
  rw [he, execLanesetBoundary, hl]
  dsimp only
  rw [if_pos (by rw [ha, hd, ht, beq_self_eq_true]; rfl), State.switchTx, hl]

theorem exec_lanesetAckTimeout (hl : (s.link p.val).laneset = some ls) (ht : s.f (F.LINK_SEQ_TX_SEQ p.val) = ls.txAt) (hm : ls.mine = true)
    (ha : ls.acked = false) (hc : ls.cancelled = false) :
    exec (.lanesetAckTimeout p) s = .next
      ((s.updLink p.val (fun l => { l with laneset := some { ls with cancelled := true } })).enqueue p.val [lctlFlit (lanesetMsg ls true)]) := by
  have he : exec (.lanesetAckTimeout p) s = execLanesetAckTimeout p s := rfl
  rw [he, execLanesetAckTimeout, hl]
  exact if_pos (by rw [hm, ha, hc, ht, beq_self_eq_true]; rfl)

theorem exec_lanesetCancelWindowEnd (hl : (s.link p.val).laneset = some ls) (hc : ls.cancelled = true) :
    exec (.lanesetCancelWindowEnd p) s = .next ((s.setF (F.LINK_ERR_LANESET_TIMEOUT p.val) 1).endLaneset p.val 0x8201 0x100) := by
  have he : exec (.lanesetCancelWindowEnd p) s = execLanesetCancelWindowEnd p s := rfl
  rw [he, execLanesetCancelWindowEnd, hl]
  exact congrArg Host.Outcome.next (if_pos hc)

/-! ### VERIFY and the doze (R151, R379) -/

theorem exec_verify (hp : s.popRx p.val 2 (fitBytes 232 msg) = some s1) (hm : leAt msg 0 1 = 5) :
    exec (.verify p msg) s = .next (s1.updLink p.val (fun l => { l with
      verify := Map.put (leAt msg 1 1) (leAt msg 4 8, leAt msg 12 4) l.verify })) := by
  have he : exec (.verify p msg) s = execVerify p msg s := rfl
  rw [he, execVerify, if_neg (not_not.2 hm), hp]

theorem exec_doze (hp : s.popRx p.val 2 (fitBytes 232 [6]) = some s1) :
    exec (.doze p) s = .next (s1.updLink p.val (fun l => { l with dozed := true })) := by
  have he : exec (.doze p) s = execDoze p s := rfl
  rw [he, execDoze, hp]

theorem exec_awake (hp : s.popRx p.val 2 (fitBytes 232 [7]) = some s1) :
    exec (.awake p) s = .next (s1.updLink p.val (fun l => { l with dozed := false })) := by
  have he : exec (.awake p) s = execAwake p s := rfl
  rw [he, execAwake, hp]

/-- Flits have been due to a dozing far end for too long. -/
theorem exec_awakeTimeout (hu : s.linkUp p.val = true) (hd : (s.link p.val).dozed = true) (hq : (s.link p.val).txq ≠ []) :
    exec (.awakeTimeout p) s = .next (s.downAndTrain p.val) := by
  have he : exec (.awakeTimeout p) s = execAwakeTimeout p s := rfl
  rw [he, execAwakeTimeout]
  exact congrArg Host.Outcome.next (if_pos (by simp [hu, hd, hq]))

end

end Sys2Proof.Machine

open Sys2Proof Sys2Proof.Machine

/-- Settles O29: the round trip, the request and its answer, its boundary and its absence, VERIFY, and the doze. -/
theorem linkControl : Obligations.LinkControl := by
  unfold Obligations.LinkControl
  refine ⟨fun v msg s s1 => ⟨fun hr hd => exec_rttMeasure hr hd,
    fun hp => ⟨fun hm => exec_echo hp hm, fun elapsed hm ha hr => exec_echoReply hp hm ha hr⟩⟩, fun p msg s s1 => ?_⟩
  refine ⟨fun hp => ⟨fun hm hn hu hl => ?_, fun ls hl => ⟨fun hm hmine hid => ?_, fun hm hc hmine hid => ?_⟩, fun hm => exec_verify hp hm⟩,
    fun ls hl ht => ⟨fun ha hd => exec_lanesetBoundary hl ht ha hd, fun hm ha hc => exec_lanesetAckTimeout hl ht hm ha hc,
      fun hc => exec_lanesetCancelWindowEnd hl hc⟩,
    exec_doze, exec_awake, exec_awakeTimeout⟩
  · have hx := exec_laneset hp hm hn hu hl
    exact ⟨fun r hr => hx.trans (congrArg Host.Outcome.next (State.answerLaneset_refused hr)),
      fun hr => hx.trans (congrArg Host.Outcome.next (State.answerLaneset_accepted hr))⟩
  · have hx := exec_lanesetAck hp hl hm hmine hid
    exact ⟨fun hr ha => by rw [hx, if_pos hr, if_neg (by rw [ha]; decide)], fun hr => by rw [hx, if_neg (not_not.2 hr)]; rfl⟩
  · have hx := exec_lanesetCancel hp hl hm hc hmine hid
    exact ⟨fun hd => by rw [hx, if_pos (by rw [hd]; rfl)], fun hd => by rw [hx, if_neg (by rw [hd]; decide)]⟩
end

section
/-! SUPPORT. Flits received: decoded, their header taken, and a numbered one taken in its turn (R163 to R171, R177, R179, R450). -/

namespace Sys2Proof.Machine

/-! ### From the line (R166, R167, R450) -/

/-- How what arrives on a link is decoded: a port's codeword with its check bytes, a sublink's flit by its CRC alone. -/
def heardBytes (v : Via) (bytes : List Byte) : Option (List Byte × List Nat) :=
  let crcOk := fun (c : List Byte) => crc64 (c.take 248) == leAt c 248 8
  if v.code < 240 then rsDecode crcOk (fitBytes 272 bytes)
  else if crcOk (fitBytes 256 bytes) then some (fitBytes 256 bytes, []) else none

/-- A codeword has gone by: the stripe position of the receive direction moves on. -/
def State.wordPassed (s : State) (q : Nat) : State :=
  s.updLink q (fun l => { l with rxPhase := phaseAfter (s.dirMap q true).1 l.rxPhase 272 })

theorem State.wordPassed_linkKeeps (s : State) (q : Nat) : (s.wordPassed q).linkKeeps q = s.linkKeeps q := rfl

theorem State.linkUp_of_linkRuns {s : State} {q : Nat} (h : s.linkRuns q = true) : s.linkUp q = true := by
  rw [State.linkRuns, Bool.and_eq_true] at h
  exact h.1

section
variable {v : Via} {bytes : List Byte} {s : State}

theorem exec_codewordReceive_off (h : s.linkRuns v.code = false) (onNew : Bool) : exec (.codewordReceive v bytes onNew) s = .next s := by
  have he : exec (.codewordReceive v bytes onNew) s = execCodewordReceive v bytes onNew s := rfl
  rw [he, execCodewordReceive]
  exact if_pos (by rw [h]; rfl)

/-- What arrives on a running link on the map in force is decoded, or is lost. -/
theorem exec_codewordReceive (hr : s.linkRuns v.code = true) (hq : s.b (F.SDS_STAT_RX_QUIET v.code) = false) :
    (heardBytes v bytes = none →
      exec (.codewordReceive v bytes false) s = .next (((s.wordPassed v.code).bump (F.LINK_CNT_DROP v.code)).lostFlit v.code)) ∧
    ∀ b, heardBytes v bytes = some (b, []) → exec (.codewordReceive v bytes false) s = .next ((s.wordPassed v.code).takeFlit v.code b) := by
  have he : exec (.codewordReceive v bytes false) s = execCodewordReceive v bytes false s := rfl
  rw [he, execCodewordReceive]
  dsimp only
  rw [if_neg (by rw [hr]; decide), hq, if_neg Bool.false_ne_true]
  constructor
  · intro hd
    rw [heardBytes] at hd
    dsimp only at hd
    rw [hd]
    rfl
  · intro b hd
    rw [heardBytes] at hd
    dsimp only at hd
    rw [hd]
    rcases (s.link v.code).laneset with _ | ls
    · rfl
    · simp only [Bool.and_false, Bool.false_eq_true, if_false]
      rfl

end

/-! ### The header (R163, R169, R180) -/

/-- What a header sets of this end but for its acknowledgements: the far end's XOFF levels, and its report of a lane's power. -/
def State.headerTaken (s : State) (q h : Nat) : State :=
  (s.setFs [(F.LINK_FC_TX_XOFF0 q, h / 2 ^ 80 % 2), (F.LINK_FC_TX_XOFF1 q, h / 2 ^ 81 % 2)]).updLink q (fun l =>
    if h / 2 ^ 82 % 32 ≤ 16 then { l with tel := Map.put (h / 2 ^ 82 % 32) (h / 2 ^ 88 % 65536) l.tel } else l)

/-- The DATA flit of some bytes. -/
def dataFlit (b : List Byte) : Flit :=
  let h := leAt b 0 16
  { type := .data, vc := h / 2 ^ 4 % 4, payload := (b.drop 16).take 232, last := h / 2 ^ 120 % 2 == 1, reply := h / 2 ^ 121 % 2 == 1 }

/-- How far a sequence number is ahead of the expected one. -/
def State.aheadBy (s : State) (q seq : Nat) : Nat := (seq + seqMod - s.f (F.LINK_SEQ_RX_SEQ q)) % seqMod

/-- A sequenced flit by how far its number is ahead: taken in its turn, missing one before it, a duplicate, or out of the window
(R169, R177). -/
def State.takeNumbered (s : State) (q d : Nat) (f : Flit) : State :=
  if d = 0 then s.acceptFlit q f
  else if d < 2 ^ 22 then s.lostFlit q
  else if seqMod - 2 ^ 22 ≤ d then
    let soon := match (s.link q).dupAt with
      | some b => decide ((s.bell - b) * 4 < (s.link q).ackIdle)
      | none => false
    if soon then s.bump (F.LINK_CNT_DUP q)
    else (((s.bump (F.LINK_CNT_DUP q)).updLink q (fun l => { l with dupAt := some s.bell })).wakeTx q).sendFlit q 0
      { type := .ack, vc := 0, payload := [] }
  else s.proto q

section
variable {s : State} {q : Nat} {b : List Byte}

/-- A flit without acknowledgement or NAK whose type has a meaning: its header is taken, and then it is acted on. -/
theorem State.takeFlit_plain (hk : s.linkKeeps q = true) (h6 : leAt b 0 16 / 2 ^ 6 % 2 = 0) (h7 : leAt b 0 16 / 2 ^ 7 % 2 = 0) :
    (leAt b 0 16 % 16 = 0 ∨ leAt b 0 16 % 16 = 1 → leAt b 0 16 / 2 ^ 4 % 4 = 0 → s.takeFlit q b = s.headerTaken q (leAt b 0 16)) ∧
    (leAt b 0 16 % 16 = 2 → leAt b 0 16 / 2 ^ 4 % 4 ≤ 1 →
      s.takeFlit q b = (s.headerTaken q (leAt b 0 16)).takeNumbered q
        ((s.headerTaken q (leAt b 0 16)).aheadBy q (leAt b 0 16 / 2 ^ 8 % 2 ^ 24)) (dataFlit b)) := by
  have hack : (decide (leAt b 0 16 / 2 ^ 6 % 2 ^ 1 = 1) && decide (leAt b 0 16 / 2 ^ 0 % 2 ^ 4 ≠ 0)) = false := by
    rw [Bool.and_eq_false_iff]
    exact .inl (decide_eq_false (fun h => absurd (h.symm.trans h6) (by decide)))
  have hnak : ¬ leAt b 0 16 / 2 ^ 7 % 2 ^ 1 = 1 := fun h => absurd (h.symm.trans h7) (by decide)
  have hcode : leAt b 0 16 / 2 ^ 0 % 2 ^ 4 = leAt b 0 16 % 16 := by rw [pow_zero, Nat.div_one]; rfl
  have hkeeps : ¬ (!s.linkKeeps q) = true := by rw [hk]; decide
  rw [State.takeFlit]
  dsimp only
  rw [hack, if_neg Bool.false_ne_true, if_neg hnak, if_neg hkeeps]
  refine ⟨fun ht hvc => ?_, fun ht hvc => ?_⟩
  · have htype : flitType (leAt b 0 16 / 2 ^ 0 % 2 ^ 4) (leAt b 0 16 / 2 ^ 4 % 2 ^ 2) = some .fill ∨
        flitType (leAt b 0 16 / 2 ^ 0 % 2 ^ 4) (leAt b 0 16 / 2 ^ 4 % 2 ^ 2) = some .ack := by
      rw [hcode, show leAt b 0 16 / 2 ^ 4 % 2 ^ 2 = 0 from hvc]
      exact ht.imp (fun h => by rw [h]; rfl) (fun h => by rw [h]; rfl)
    rcases htype with h | h
    · rw [h]; rfl
    · rw [h]; rfl
  · have htype : flitType (leAt b 0 16 / 2 ^ 0 % 2 ^ 4) (leAt b 0 16 / 2 ^ 4 % 2 ^ 2) = some .data := by
      rw [hcode, ht]
      rcases Nat.le_one_iff_eq_zero_or_eq_one.1 hvc with h | h
      · rw [show leAt b 0 16 / 2 ^ 4 % 2 ^ 2 = 0 from h]; rfl
      · rw [show leAt b 0 16 / 2 ^ 4 % 2 ^ 2 = 1 from h]; rfl
    rw [htype]
    rfl

/-! ### By its number (R171, R177, R179) -/

theorem State.takeNumbered_next {d : Nat} (f : Flit) (h : d = 0) : s.takeNumbered q d f = s.acceptFlit q f := if_pos h

theorem State.takeNumbered_ahead {d : Nat} (f : Flit) (h : 0 < d) (hlt : d < 2 ^ 22) : s.takeNumbered q d f = s.lostFlit q :=
  (if_neg h.ne').trans (if_pos hlt)

/-- A duplicate right after another is counted, and not acknowledged again. -/
theorem State.takeNumbered_again {d : Nat} (f : Flit) (h : seqMod - 2 ^ 22 ≤ d) (hd : (s.link q).dupAt = some s.bell)
    (hi : 0 < (s.link q).ackIdle) : s.takeNumbered q d f = s.bump (F.LINK_CNT_DUP q) := by
  have hge : 2 ^ 22 ≤ d := le_trans (by decide) h
  rw [State.takeNumbered, if_neg (by omega), if_neg (by omega), if_pos h, hd]
  exact if_pos (by simpa using hi)

/-- A DATA flit in its turn with room in its partition is kept, and RX_NEXT counts on. -/
theorem State.acceptFlit_data {f : Flit} (ht : f.type = .data)
    (hroom : (s.link q).occ f.vc < s.f (if f.vc = 0 then F.LINK_FC_VC0_PART q else F.LINK_FC_VC1_PART q))
    (hz : (s.link q).dozeSent = false) :
    s.acceptFlit q f = ((((s.updLink q (fun l => { l with rxq := l.rxq ++ [f] })).syncXoff q).setF (F.LINK_SEQ_RX_SEQ q)
      ((s.f (F.LINK_SEQ_RX_SEQ q) + 1) % seqMod)).updLink q (fun l => { l with
        nakOut := none, ackValid := true, dozeSent := false, dozeAcked := false })) := by
  rw [State.acceptFlit]
  dsimp only
  rw [if_neg (by simpa [ht] using hroom), ht, hz]
  rfl

/-- A NAK beyond what was sent is stale. -/
theorem State.takeNak_stale {n : Nat} (h : (s.link q).unacked.length < (n + seqMod - s.f (F.LINK_SEQ_ACK_SEQ q)) % seqMod) :
    s.takeNak q n = s.setF (F.LINK_ERR_NAK_STALE q) 1 := if_pos h

end

end Sys2Proof.Machine

open Sys2Proof Sys2Proof.Machine

/-- Settles O27: what arrives is decoded or lost, its header is taken, and a DATA flit goes by its number. -/
theorem flitsReceived : Obligations.FlitsReceived := by
  unfold Obligations.FlitsReceived
  intro v bytes s
  refine ⟨fun h n => exec_codewordReceive_off h n, fun hr hq => ?_, fun n h => State.takeNak_stale h⟩
  obtain ⟨hlost, hclean⟩ := exec_codewordReceive (bytes := bytes) hr hq
  have hk : (s.wordPassed v.code).linkKeeps v.code = true :=
    (s.wordPassed_linkKeeps v.code).trans (State.linkKeeps_of_linkUp (State.linkUp_of_linkRuns hr))
  refine ⟨hlost, fun b hd h6 h7 => ?_⟩
  obtain ⟨hunnumbered, hdata⟩ := State.takeFlit_plain hk h6 h7
  refine ⟨fun ht hvc => (hclean b hd).trans (congrArg Host.Outcome.next (hunnumbered ht hvc)), fun ht hvc => ?_⟩
  have hnum := (hclean b hd).trans (congrArg Host.Outcome.next (hdata ht hvc))
  exact ⟨fun h0 hroom hz => hnum.trans (congrArg Host.Outcome.next ((State.takeNumbered_next _ h0).trans (State.acceptFlit_data rfl hroom hz))),
    fun hpos hlt => hnum.trans (congrArg Host.Outcome.next (State.takeNumbered_ahead _ hpos hlt)),
    fun hge hdup hi => hnum.trans (congrArg Host.Outcome.next (State.takeNumbered_again _ hge hdup hi))⟩
end

section
/-! SUPPORT. Flits sent, sent again, and the fast retrain (R164, R166, R167, R170, R172 to R175, R183, R188, R450, R454). -/

namespace Sys2Proof.Machine

/-! ### One flit on the line (R163, R166, R167, R450) -/

/-- What a flit's bytes leave the module as: a port's striped codeword, or a sublink's flit as it is. -/
def State.onLine (s : State) (q : Nat) (flit : List Byte) : Out :=
  if 240 ≤ q then Out.site (q - 240) flit
  else Out.flit q (s.dirMap q false).2 (flit ++ rsCheck flit) (stripes (s.dirMap q false).1 (s.link q).txPhase (flit ++ rsCheck flit))

theorem State.putFlit_out (s : State) (q : Nat) (flit : List Byte) : (s.putFlit q flit).out = s.onLine q flit :: s.out := by
  rw [State.putFlit, State.onLine]
  split
  · rfl
  · rfl

theorem State.sendFlit_out (s : State) (q seq : Nat) (f : Flit) :
    ∃ hdr, (s.sendFlit q seq f).out = s.onLine q (flitBytes hdr f.payload) :: s.out :=
  ⟨_, State.putFlit_out s.fresh.2 q _⟩

/-! ### A new sequenced flit (R172, R175) -/

theorem State.syncReplay_out (s : State) (q : Nat) : (s.syncReplay q).out = s.out := by
  rw [State.syncReplay, State.setF_out, State.setF_out]

theorem State.sendNew_out (s : State) (q : Nat) (f : Flit) :
    ∃ hdr, (s.sendNew q f).out = s.onLine q (flitBytes hdr f.payload) :: s.out := by
  obtain ⟨hdr, h⟩ := s.sendFlit_out q (s.f (F.LINK_SEQ_TX_SEQ q)) f
  refine ⟨hdr, Eq.trans ?_ h⟩
  rw [State.sendNew]
  split
  · rw [State.setF_out, State.syncReplay_out, State.setF_out, State.updLink_out]
  · rw [State.syncReplay_out, State.setF_out, State.updLink_out]

theorem State.syncReplay_txSeq (s : State) (q : Nat) : (s.syncReplay q).f (F.LINK_SEQ_TX_SEQ q) = s.f (F.LINK_SEQ_TX_SEQ q) := by
  have htile : R.LINK_SEQ_TX q ≠ R.LINK_REPLAY_TILE q := by simp only [R.LINK_SEQ_TX, R.LINK_REPLAY_TILE]; omega
  have hspill : R.LINK_SEQ_TX q ≠ R.LINK_REPLAY_SPILL q := by simp only [R.LINK_SEQ_TX, R.LINK_REPLAY_SPILL]; omega
  rw [State.syncReplay, State.f_setF_off hspill, State.f_setF_off htile]

/-- A new flit takes the next sequence number. -/
theorem State.sendNew_txSeq {s : State} (h : s.canonical) (q : Nat) (f : Flit) :
    (s.sendNew q f).f (F.LINK_SEQ_TX_SEQ q) = (s.f (F.LINK_SEQ_TX_SEQ q) + 1) % seqMod := by
  have herr : R.LINK_SEQ_TX q ≠ R.LINK_ERR q := by simp only [R.LINK_SEQ_TX, R.LINK_ERR]; omega
  have hsent : (s.sendFlit q (s.f (F.LINK_SEQ_TX_SEQ q)) f).canonical := ((Kept.refl s).sendFlit q _ f).2 h
  rw [State.sendNew]
  generalize hu : (s.sendFlit q (s.f (F.LINK_SEQ_TX_SEQ q)) f).updLink q _ = u
  have hrising : Map.rising u.regs = true := hu ▸ hsent.rising
  have hset : ((u.setF (F.LINK_SEQ_TX_SEQ q) ((s.f (F.LINK_SEQ_TX_SEQ q) + 1) % seqMod)).syncReplay q).f (F.LINK_SEQ_TX_SEQ q) =
      (s.f (F.LINK_SEQ_TX_SEQ q) + 1) % seqMod := by
    rw [State.syncReplay_txSeq, State.f_setF_same hrising _ _ (by simp [F.LINK_SEQ_TX_SEQ])]
    exact Nat.mod_mod _ _
  split
  · rw [State.f_setF_off herr, hset]
  · exact hset

/-! ### What is sent next (R164, R173, R175, R188) -/

/-- The flit that fills a LANESET's wait for its boundary. -/
def padFlit : Flit := { type := .pad, vc := 0, payload := [] }

section
variable {s : State} {q : Nat}

theorem State.dueFlit_held (h : s.txHeld q = true) : s.dueFlit q = none := if_pos h

theorem State.dueFlit_next {f : Flit} (h : s.txHeld q = false) (hn : s.nextFlit q = some f) : s.dueFlit q = some f := by
  rw [State.dueFlit, if_neg (by rw [h]; decide), hn]

theorem State.dueFlit_pad {ls : Laneset} (h : s.txHeld q = false) (hn : s.nextFlit q = none) (hl : (s.link q).laneset = some ls)
    (hd : ls.txDone = false) (hc : ls.cancelled = false) : s.dueFlit q = some padFlit := by
  rw [State.dueFlit, if_neg (by rw [h]; decide), hn, hl]
  exact if_pos (by rw [hd, hc]; rfl)

theorem State.dueFlit_idle (hn : s.nextFlit q = none) (hl : (s.link q).laneset = none) : s.dueFlit q = none := by
  rw [State.dueFlit, hn, hl]
  exact ite_self _

/-- A flit of a replay leaves with its old number. -/
theorem State.sendNext_replay {k : Nat} {f : Flit} (ha : s.awaitsAck q = false) (hp : (s.link q).replayPos = some k)
    (hf : (s.link q).unacked[k]? = some f) :
    s.sendNext q = (s.sendFlit q ((s.f (F.LINK_SEQ_ACK_SEQ q) + k) % seqMod) f).updLink q (fun l => { l with
      replayPos := if k + 1 < l.unacked.length then some (k + 1) else none, timerOn := true }) := by
  rw [State.sendNext]
  dsimp only
  rw [ha, if_neg (by decide), hp]
  dsimp only
  rw [hf]

theorem State.sendNext_fill (hp : (s.link q).replayPos = none) (hd : s.dueFlit q = none) : s.sendNext q = s.sendFill q := by
  rw [State.sendNext]
  dsimp only
  rw [hp, ite_self, hd]

/-- With room in the tile's replay buffer the flit that is due leaves its queue. -/
theorem State.sendNext_due {f : Flit} (hp : (s.link q).replayPos = none) (hd : s.dueFlit q = some f)
    (hroom : (s.link q).unacked.length < 8192) :
    s.sendNext q = (s.updLink q (fun l => { l with txq := l.txq.erase f })).sendNew q f := by
  rw [State.sendNext]
  dsimp only
  rw [hp, ite_self, hd]
  dsimp only
  rw [State.spillShort, if_pos hroom]
  exact if_neg Bool.false_ne_true

end

section
variable {v : Via} {s : State}

theorem exec_flitSend_stays (h : s.linkRuns v.code = false ∨ (s.link v.code).txQuiet = true) : exec (.flitSend v) s = .next s := by
  have he : exec (.flitSend v) s = execFlitSend v s := rfl
  rw [he, execFlitSend]
  refine congrArg Host.Outcome.next (if_neg ?_)
  rcases h with h | h
  · simp [h]
  · simp [h]

theorem exec_flitSend (hr : s.linkRuns v.code = true) (hq : (s.link v.code).txQuiet = false) :
    exec (.flitSend v) s = .next (s.sendNext v.code) := by
  have he : exec (.flitSend v) s = execFlitSend v s := rfl
  rw [he, execFlitSend]
  exact congrArg Host.Outcome.next (if_pos (by rw [hr, hq]; rfl))

/-! ### The timers (R170, R172 to R174) -/

theorem exec_ackIdleTimer (hr : s.linkRuns v.code = true) (ha : s.ackDue v.code = true) :
    exec (.ackIdleTimer v) s = .next ((s.wakeTx v.code).sendFlit v.code 0 { type := .ack, vc := 0, payload := [] }) := by
  have he : exec (.ackIdleTimer v) s = execAckIdleTimer v s := rfl
  rw [he, execAckIdleTimer]
  exact congrArg Host.Outcome.next (if_pos (by rw [hr, ha]; rfl))

theorem exec_replayTimerExpiry (hr : s.linkRuns v.code = true) (ht : (s.link v.code).timerOn = true) (hu : (s.link v.code).unacked ≠ []) :
    exec (.replayTimerExpiry v) s = .next (s.replayTrigger v.code) := by
  have he : exec (.replayTimerExpiry v) s = execReplayTimerExpiry v s := rfl
  rw [he, execReplayTimerExpiry]
  exact congrArg Host.Outcome.next (if_pos (by simp [hr, ht, hu]))

end

section
variable {s : State} {q : Nat}

/-- Two changes of a link that agree on its present state are one. -/
theorem State.updLink_congr {g g' : Link → Link} (h : g (s.link q) = g' (s.link q)) : s.updLink q g = s.updLink q g' := by
  unfold State.updLink Map.upd
  rw [show g (Map.get {} s.links q) = g' (Map.get {} s.links q) from h]

/-- Below the limit a trigger starts a replay from the first unacknowledged flit. -/
theorem State.replayTrigger_replays (hu : (s.link q).unacked ≠ []) (h : s.f (F.LINK_STAT_REPLAY_NUM q) < s.replayLimit q) :
    s.replayTrigger q = ((s.bump (F.LINK_STAT_REPLAY_NUM q)).bump (F.LINK_CNT_REPLAY q)).updLink q (fun l => { l with
      replayPos := some 0, timerOn := true }) := by
  have hlink : ((s.bump (F.LINK_STAT_REPLAY_NUM q)).bump (F.LINK_CNT_REPLAY q)).link q = s.link q := by
    rw [State.link, State.bump_links, State.bump_links, State.link]
  rw [State.replayTrigger, if_pos h]
  refine State.updLink_congr ?_
  rw [hlink, List.isEmpty_eq_false_iff.2 hu]
  rfl

/-- At the limit a trigger starts a fast retrain, once. -/
theorem State.replayTrigger_retrains (h : s.replayLimit q ≤ s.f (F.LINK_STAT_REPLAY_NUM q)) (hp : s.f (F.LINK_STAT_POST_RETRAIN q) = 0) :
    s.replayTrigger q = (s.setFs [(F.LINK_STAT_REPLAY_NUM q, 0), (F.LINK_STAT_POST_RETRAIN q, 1)]).fastRetrain q :=
  (if_neg (Nat.not_lt.2 h)).trans (if_pos hp)

/-- At the limit after a fast retrain a trigger takes the link down. -/
theorem State.replayTrigger_down (h : s.replayLimit q ≤ s.f (F.LINK_STAT_REPLAY_NUM q)) (hp : s.f (F.LINK_STAT_POST_RETRAIN q) ≠ 0) :
    s.replayTrigger q = s.downAndTrain q := (if_neg (Nat.not_lt.2 h)).trans (if_neg hp)

end

/-! ### The end of a fast retrain (R183, R454) -/

section
variable {p : Port} {s : State} {tr : Training}

theorem exec_fastRetrainDone_up (ht : (s.link p.val).train = some tr) (h4 : s.f (F.LINK_STAT_STATE p.val) = 4) (hr : tr.ready = true)
    (hf : tr.farReady = true) (hs : s.f (F.SDS_STAT_STAGE p.val) = 4) :
    exec (.fastRetrainDone (.port p) true) s = .next (s.enterUp p.val (tr.lanes &&& (0x1FFFF ^^^ s.barred p.val))) := by
  have he : exec (.fastRetrainDone (.port p) true) s = execFastRetrainDone (.port p) true s := rfl
  rw [he, execFastRetrainDone]
  rw [ht]
  dsimp only
  rw [if_neg (not_not.2 h4), if_neg (by decide)]
  exact congrArg Host.Outcome.next (if_pos (by rw [hr, hf, hs]; rfl))

theorem exec_fastRetrainDone_fails (ht : (s.link p.val).train = some tr) (h4 : s.f (F.LINK_STAT_STATE p.val) = 4) :
    exec (.fastRetrainDone (.port p) false) s = .next (s.attemptFails p.val) := by
  have he : exec (.fastRetrainDone (.port p) false) s = execFastRetrainDone (.port p) false s := rfl
  rw [he, execFastRetrainDone]
  rw [ht]
  dsimp only
  rw [if_neg (not_not.2 h4)]
  rfl

/-- A sublink's fast retrain ends: it sends again from the first unacknowledged flit, or goes down. -/
theorem exec_fastRetrainDone_site (k : Fin 4) (hu : s.linkUp (240 + k.val) = true) (ht : (s.link (240 + k.val)).train ≠ none) (ok : Bool) :
    exec (.fastRetrainDone (.site k) ok) s = .next (if ok then s.updLink (240 + k.val) (fun l => { l with
      train := none, replayPos := if l.unacked.isEmpty then none else some 0 }) else s.sublinkDown k.val) := by
  have he : exec (.fastRetrainDone (.site k) ok) s = .next (s.subTrained k.val ok) := rfl
  rw [he, State.subTrained]
  rw [if_neg (by rw [hu]; decide), if_neg (by simpa using ht)]

end

end Sys2Proof.Machine

open Sys2Proof Sys2Proof.Machine

/-- Settles O28: what is sent next and how it leaves, what the timers send and send again, and how a fast retrain ends. -/
theorem flitsSent : Obligations.FlitsSent := by
  unfold Obligations.FlitsSent
  refine ⟨fun v s => ⟨exec_flitSend_stays, fun hr hq => ?_, fun f h => ⟨State.sendNew_txSeq h v.code f, State.sendNew_out s v.code f⟩,
    exec_ackIdleTimer, fun hr ht hu => ?_⟩, fun p s tr ht h4 => ⟨exec_fastRetrainDone_up ht h4, fun hf => ?_⟩, fun k s hu ht => ?_⟩
  · have hx := exec_flitSend hr hq
    refine ⟨fun k f ha hp hf => hx.trans (congrArg Host.Outcome.next (State.sendNext_replay ha hp hf)), fun hp => ?_⟩
    refine ⟨fun hh => hx.trans (congrArg Host.Outcome.next (State.sendNext_fill hp (State.dueFlit_held hh))), fun hh hroom => ?_⟩
    exact ⟨fun f hn => hx.trans (congrArg Host.Outcome.next (State.sendNext_due hp (State.dueFlit_next hh hn) hroom)),
      fun ls hn hl hd hc => hx.trans (congrArg Host.Outcome.next (State.sendNext_due hp (State.dueFlit_pad hh hn hl hd hc) hroom)),
      fun hn hl => hx.trans (congrArg Host.Outcome.next (State.sendNext_fill hp (State.dueFlit_idle hn hl)))⟩
  · have hx := exec_replayTimerExpiry hr ht hu
    exact ⟨fun h => hx.trans (congrArg Host.Outcome.next (State.replayTrigger_replays hu h)),
      fun h hp => hx.trans (congrArg Host.Outcome.next (State.replayTrigger_retrains h hp)),
      fun h hp => hx.trans (congrArg Host.Outcome.next (State.replayTrigger_down h hp))⟩
  · exact (exec_fastRetrainDone_fails ht h4).trans (congrArg Host.Outcome.next (State.attemptFails_fast ht hf))
  · exact ⟨exec_fastRetrainDone_site k hu ht true, exec_fastRetrainDone_site k hu ht false⟩
end

section
/-! SUPPORT. A cell's bytes and the reading of them, and the length of a burst (R195, R196). -/

namespace Sys2Proof

/-- Two byte lists one after the other, the first least significant (R20). -/
theorem leNat_append (a b : List Byte) : leNat (a ++ b) = leNat a + 256 ^ a.length * leNat b := by
  induction a with
  | nil => simp [leNat]
  | cons x a ih =>
    rw [List.cons_append, leNat, leNat, ih, List.length_cons, Nat.pow_succ]
    ring

end Sys2Proof

namespace Sys2Proof.Machine

/-! ### The checks (R22, R166) -/

theorem crcStep_lt {w poly : Nat} (hp : poly < 2 ^ w) (r : Nat) (bit : Bool) : crcStep w poly r bit < 2 ^ w := by
  have hr : 2 * r % 2 ^ w < 2 ^ w := Nat.mod_lt _ (Nat.two_pow_pos w)
  rw [crcStep]
  split
  · exact Nat.xor_lt_two_pow hr hp
  · exact hr

theorem crc16_lt (bs : List Byte) : crc16 bs < 2 ^ 16 := by
  rw [crc16, crc16Bits]
  exact List.foldlRecOn (motive := fun r => r < 2 ^ 16) _ _ (by decide) fun r _ bit _ => crcStep_lt (by decide) r bit

theorem rsGen_length : rsGen.length = 16 := by decide +kernel

theorem rsCheck_length (msg : List Byte) : (rsCheck msg).length = 16 := by
  rw [rsCheck, List.length_map]
  refine List.foldlRecOn (motive := fun r : List Nat => r.length = 16) _ _ List.length_replicate fun r hr b _ => ?_
  rw [List.length_zipWith, List.length_append, List.length_drop, hr, List.length_map, rsGen_length]
  rfl

/-! ### The header (R196) -/

/-- The 48 bits of a cell's header, its fields in the order of R196 from bit 0 up. -/
def Cell.header (c : Cell) (a : Eack) (rbusy : Bool) : Nat :=
  c.ctype + c.cvc * 2 ^ 3 + c.orig * 2 ^ 5 + c.final * 2 ^ 11 + c.eseq % 1024 * 2 ^ 17 + a.eack % 1024 * 2 ^ 27 +
    (if a.valid then 1 else 0) * 2 ^ 37 + (if a.enak then 1 else 0) * 2 ^ 38 + (if rbusy then 1 else 0) * 2 ^ 39 + c.payload.length * 2 ^ 40

/-- The CRC of a cell: over its header and its padded payload. -/
def Cell.crc (c : Cell) (a : Eack) (rbusy : Bool) : Nat := crc16 (leBytes 6 (c.header a rbusy) ++ fitBytes 232 c.payload)

theorem Cell.bytes_eq (c : Cell) (a : Eack) (rbusy : Bool) :
    c.bytes a rbusy = leBytes 6 (c.header a rbusy) ++ (leBytes 2 (c.crc a rbusy) ++ fitBytes 232 c.payload) := List.append_assoc ..

theorem Cell.bytes_length (c : Cell) (a : Eack) (rbusy : Bool) : (c.bytes a rbusy).length = 240 := by
  rw [c.bytes_eq, List.length_append, List.length_append, leBytes_length, leBytes_length, fitBytes_length]

/-- A cell of the form of R196: each field within its width. -/
structure Cell.Fits (c : Cell) (a : Eack) : Prop where
  ctype : c.ctype < 8
  cvc : c.cvc < 4
  orig : c.orig < 64
  final : c.final < 64
  eseq : c.eseq < 1024
  payload : c.payload.length ≤ 232
  eack : a.eack < 1024

section
variable {c : Cell} {a : Eack} {rbusy : Bool}

/-- The payload follows the eight bytes of header and CRC. -/
theorem Cell.drop_bytes (c : Cell) (a : Eack) (rbusy : Bool) : (c.bytes a rbusy).drop 8 = fitBytes 232 c.payload := by
  rw [c.bytes_eq, ← List.append_assoc]
  exact List.drop_left' (by rw [List.length_append, leBytes_length, leBytes_length])

theorem Cell.crcOk_bytes (c : Cell) (a : Eack) (rbusy : Bool) : cellCrcOk (c.bytes a rbusy) = true := by
  have hhead : (c.bytes a rbusy).take 6 = leBytes 6 (c.header a rbusy) := by
    rw [c.bytes_eq]
    exact List.take_left' (leBytes_length ..)
  have hcrc : leAt (c.bytes a rbusy) 6 2 = c.crc a rbusy := by
    rw [c.bytes_eq, leAt_append _ (leBytes_length ..)]
    exact leAt_head 2 _ _ (crc16_lt _)
  rw [cellCrcOk, hhead, c.drop_bytes, hcrc]
  exact beq_self_eq_true _

/-- One bit as a number. -/
theorem bitNat_le (x : Bool) : (if x then 1 else 0) ≤ 1 := by cases x <;> decide

theorem Cell.Fits.header_lt (h : c.Fits a) : c.header a rbusy < 256 ^ 6 := by
  obtain ⟨hct, hvc, ho, hf, he, hp, ha⟩ := h
  have := bitNat_le a.valid; have := bitNat_le a.enak; have := bitNat_le rbusy
  unfold Cell.header
  omega

/-- The first eight bytes are the header, below the CRC. -/
theorem Cell.Fits.leAt_bytes (h : c.Fits a) : leAt (c.bytes a rbusy) 0 8 = c.header a rbusy + 2 ^ 48 * c.crc a rbusy := by
  have hcrc : c.crc a rbusy < 256 ^ 2 := crc16_lt _
  have hpow : 256 ^ 6 = 2 ^ 48 := by norm_num
  rw [c.bytes_eq, ← List.append_assoc, leAt, List.drop_zero, List.take_left' (by rw [List.length_append, leBytes_length, leBytes_length]),
    leNat_append, leNat_leBytes, leNat_leBytes, leBytes_length, Nat.mod_eq_of_lt h.header_lt, Nat.mod_eq_of_lt hcrc, hpow]

/-- The fields of a cell's first 64 bits, whatever the CRC above them. -/
theorem Cell.Fits.fields (h : c.Fits a) (x : Nat) :
    let w := c.header a rbusy + 2 ^ 48 * x
    w % 8 = c.ctype ∧ w / 2 ^ 3 % 4 = c.cvc ∧ w / 2 ^ 5 % 64 = c.orig ∧ w / 2 ^ 11 % 64 = c.final ∧ w / 2 ^ 17 % 1024 = c.eseq ∧
      w / 2 ^ 27 % 1024 = a.eack ∧ w / 2 ^ 40 % 256 = c.payload.length := by
  obtain ⟨hct, hvc, ho, hf, he, hp, ha⟩ := h
  have := bitNat_le a.valid; have := bitNat_le a.enak; have := bitNat_le rbusy
  unfold Cell.header
  omega

/-- Its three bits. -/
theorem Cell.Fits.bits (h : c.Fits a) (x : Nat) :
    let w := c.header a rbusy + 2 ^ 48 * x
    w.testBit 37 = a.valid ∧ w.testBit 38 = a.enak ∧ w.testBit 39 = rbusy := by
  obtain ⟨hct, hvc, ho, hf, he, hp, ha⟩ := h
  have hbit : ∀ b : Bool, decide ((if b then 1 else 0) = 1) = b := by decide
  have := bitNat_le a.valid; have := bitNat_le a.enak; have := bitNat_le rbusy
  have hsplit : ∀ w, w = c.header a rbusy + 2 ^ 48 * x → w / 2 ^ 37 % 2 = (if a.valid then 1 else 0) ∧
      w / 2 ^ 38 % 2 = (if a.enak then 1 else 0) ∧ w / 2 ^ 39 % 2 = (if rbusy then 1 else 0) := by
    unfold Cell.header
    omega
  obtain ⟨h37, h38, h39⟩ := hsplit _ rfl
  intro w
  rw [Nat.testBit_eq_decide_div_mod_eq, Nat.testBit_eq_decide_div_mod_eq, Nat.testBit_eq_decide_div_mod_eq, h37, h38, h39, hbit, hbit, hbit]
  exact ⟨rfl, rfl, rfl⟩

/-- The padding behind a payload goes again. -/
theorem take_fitBytes {n : Nat} {bs : List Byte} (h : bs.length ≤ n) : (fitBytes n bs).take bs.length = bs := by
  rw [fitBytes, List.take_take, Nat.min_eq_left h, List.take_left]

/-- The bytes of a cell give it back where R196 allows it, and are dropped where it does not. -/
theorem Cell.Fits.parse_bytes (h : c.Fits a) : Cell.parse (c.bytes a rbusy) =
    if c.ctype ≤ 2 ∧ c.cvc ≠ 3 ∧ c.orig ≠ c.final ∧ c.orig < 48 ∧ c.final < 48 then some (c, a, rbusy) else none := by
  obtain ⟨hct, hvc, ho, hf, he, hk, hl⟩ := h.fields (rbusy := rbusy) (c.crc a rbusy)
  obtain ⟨hvalid, henak, hbusy⟩ := h.bits (rbusy := rbusy) (c.crc a rbusy)
  have hpay : (fitBytes 232 c.payload).take (min c.payload.length 232) = c.payload := by
    rw [Nat.min_eq_left h.payload, take_fitBytes h.payload]
  unfold Cell.parse
  simp only [h.leAt_bytes, hct, hvc, ho, hf, he, hk, hl, hvalid, henak, hbusy, c.drop_bytes, hpay, c.crcOk_bytes, Bool.not_true, Bool.false_or,
    Bool.or_eq_true, decide_eq_true_eq]
  split
  · next hbad => rw [if_neg (by omega)]
  · next hgood => rw [if_pos (by omega)]

end

/-! ### A burst (R195) -/

theorem burstBody_length {l : List (List Byte)} (h : ∀ x ∈ l, x.length = 240) : (burstBody l).length = 256 * l.length := by
  induction l with
  | nil => rfl
  | cons x l ih =>
    have hx : (x ++ rsCheck x).length = 256 := by rw [List.length_append, h x List.mem_cons_self, rsCheck_length]
    have hl := ih fun y hy => h y (List.mem_cons_of_mem _ hy)
    rw [burstBody] at hl ⊢
    rw [List.flatMap_cons, List.length_append, hx, hl, List.length_cons]
    omega

/-- The body of a launched burst: the three positions with the acknowledgements of VC 0 to 2 (R197). -/
def State.launchBody (s : State) (x y pad : Nat) (cells : List Cell) : List Byte :=
  burstBody (((cells ++ List.replicate (3 - cells.length) (bareCell pad x y)).take 3).mapIdx
    (fun k c => c.bytes (s.eackTo x y k) (s.rbusy x)))

theorem State.launchBody_length (s : State) (x y pad : Nat) (cells : List Cell) : (s.launchBody x y pad cells).length = 768 := by
  rw [State.launchBody, burstBody_length, List.length_mapIdx, List.length_take, List.length_append, List.length_replicate]
  · omega
  · intro b hb
    obtain ⟨k, hk, rfl⟩ := List.mem_mapIdx.1 hb
    exact Cell.bytes_length ..

/-- A launch: the acknowledgements of VC 0 to 2 are sent, the slot is noted, and the burst goes out. -/
theorem State.launch_eq (s : State) (x y p pad : Nat) (cells : List Cell) : s.launch x y p pad cells =
    ((s.each [0, 1, 2] (fun s k => s.eackSent x y k)).updCr x (fun c => { c with last := Map.put y s.crownMap.slot c.last })).emit
      (.burst x y p (s.launchBody x y pad cells)) := by
  rw [State.launch, State.launchBody]

theorem State.emit_out (s : State) (o : Out) : (s.emit o).out = o :: s.out := rfl

theorem State.launch_out (s : State) (x y p pad : Nat) (cells : List Cell) :
    (s.launch x y p pad cells).out = .burst x y p (s.launchBody x y pad cells) :: s.out := by
  have hsent : (s.each [0, 1, 2] (fun s k => s.eackSent x y k)).out = s.out := State.each_keeps State.out s _ _ fun _ _ => rfl
  rw [State.launch_eq, State.emit_out, State.updCr_out, hsent]

end Sys2Proof.Machine

open Sys2Proof Sys2Proof.Machine

/-- Settles O35: header, CRC and payload are read from where they are written; a burst holds three codewords of 256 bytes. -/
theorem cellsRoundTrip : Obligations.CellsRoundTrip := by
  unfold Obligations.CellsRoundTrip
  refine ⟨fun c a busy hct hvc ho hf he hp ha => ?_, fun x y p pad cells s _ => ?_⟩
  · exact ⟨c.bytes_length a busy, Cell.Fits.parse_bytes ⟨hct, hvc, ho, hf, he, hp, ha⟩⟩
  · exact ⟨s.launchBody x y pad cells, s.launchBody_length x y pad cells, s.launch_out x y p pad cells⟩
end

section
/-! SUPPORT. The Timetable, and what the steps of a Crown slot leave alone (R191 to R193, R197 to R204). -/

namespace Sys2Proof.Machine

/-! ### Routes (R192, R193) -/

theorem colourOf_bounds (p n : Nat) : 1 ≤ colourOf p n ∧ colourOf p n < 48 := by
  unfold colourOf
  omega

/-- A transmitter reaches another tile, and that tile's receiver finds it back. -/
theorem destOf_route {x : Nat} (hx : x < 48) (p n : Nat) :
    destOf x p n < 48 ∧ destOf x p n ≠ x ∧ sourceTile (destOf x p n) p n = x := by
  obtain ⟨h1, h48⟩ := colourOf_bounds p n
  unfold destOf sourceTile
  omega

/-- Tile `y` is reached where its distance to the east, round the 48 tiles, is the colour. -/
theorem destOf_eq_iff {x y : Nat} (hx : x < 48) (hy : y < 48) (p n : Nat) : destOf x p n = y ↔ (y + 48 - x) % 48 = colourOf p n := by
  obtain ⟨h1, h48⟩ := colourOf_bounds p n
  unfold destOf
  omega

/-- The plane-slots listed for a pair are those of its colour. -/
theorem mem_pairSlots {x y p : Nat} (hp : p < 16) (n : Nat) : (n % 3, p) ∈ pairSlots x y ↔ (y + 48 - x) % 48 = colourOf p n := by
  have hlt : (y + 48 - x) % 48 < 48 := Nat.mod_lt _ (by decide)
  have hm : n % 3 < 3 := Nat.mod_lt _ (by decide)
  unfold pairSlots colourOf
  dsimp only
  generalize (y + 48 - x) % 48 = o at hlt ⊢
  generalize n % 3 = m at hm ⊢
  have hk : 16 * m + p < 47 ∧ (16 * m + p) % 47 = 16 * m + p ∨ 16 * m + p = 47 ∧ (16 * m + p) % 47 = 0 := by omega
  split
  · simp only [List.not_mem_nil, false_iff]
    omega
  · split
    · simp only [List.mem_cons, List.not_mem_nil, or_false, Prod.mk.injEq]
      omega
    · simp only [List.mem_cons, List.not_mem_nil, or_false, Prod.mk.injEq]
      constructor
      · omega
      · omega

/-! ### What a Crown slot leaves alone -/

/-- `s` comes from `z` by changes of registers, of the Crown and Brim engines, of the wake requests and of what is driven outward. -/
def CrownOnly (z s : State) : Prop := s = { z with regs := s.regs, out := s.out, crown := s.crown, brim := s.brim, clocks := s.clocks }

section
variable {z s t : State}

theorem CrownOnly.refl (z : State) : CrownOnly z z := rfl

theorem CrownOnly.trans (h : CrownOnly z s) (k : CrownOnly s t) : CrownOnly z t := by
  unfold CrownOnly at h k ⊢
  rw [k, h]

theorem CrownOnly.wr (h : CrownOnly z s) (off : Nat) (v : Word) : CrownOnly z (s.wr off v) := h.trans rfl

theorem CrownOnly.setF (h : CrownOnly z s) (x : Fld) (v : Nat) : CrownOnly z (s.setF x v) := h.trans rfl

theorem CrownOnly.bump (h : CrownOnly z s) (x : Fld) (n : Nat) : CrownOnly z (s.bump x n) := h.trans rfl

theorem CrownOnly.setFs (h : CrownOnly z s) (l : List (Fld × Nat)) : CrownOnly z (s.setFs l) := by
  induction l generalizing s with
  | nil => exact h
  | cons e l ih => exact ih (h.setF e.1 e.2)

theorem CrownOnly.each {α : Type} (h : CrownOnly z s) (l : List α) (f : State → α → State)
    (hf : ∀ u x, CrownOnly z u → CrownOnly z (f u x)) : CrownOnly z (s.each l f) := by
  unfold State.each
  induction l generalizing s with
  | nil => exact h
  | cons a l ih => exact ih (hf s a h)

theorem CrownOnly.ite {a b : State} {c : Prop} [Decidable c] (ha : CrownOnly z a) (hb : CrownOnly z b) : CrownOnly z (if c then a else b) := by
  split
  · exact ha
  · exact hb

theorem CrownOnly.emit (h : CrownOnly z s) (o : Out) : CrownOnly z (s.emit o) := h.trans rfl

theorem CrownOnly.updCr (h : CrownOnly z s) (k : Nat) (g : Crown → Crown) : CrownOnly z (s.updCr k g) := h.trans rfl

theorem CrownOnly.updBr (h : CrownOnly z s) (k e : Nat) (g : Brim → Brim) : CrownOnly z (s.updBr k e g) := h.trans rfl

theorem CrownOnly.updClk (h : CrownOnly z s) (g : Clocks → Clocks) : CrownOnly z (s.updClk g) := h.trans rfl

theorem CrownOnly.updTx (h : CrownOnly z s) (x y vc : Nat) (g : TxFlow → TxFlow) : CrownOnly z (s.updTx x y vc g) := h.updCr x _

theorem CrownOnly.eackSent (h : CrownOnly z s) (x y vc : Nat) : CrownOnly z (s.eackSent x y vc) := h.updCr x _

/-! ### Cells that leave (R197 to R203) -/

theorem CrownOnly.newCells (h : CrownOnly z s) (x y vc n : Nat) : CrownOnly z (s.newCells x y vc n).2 := by
  unfold State.newCells
  dsimp only
  split
  · exact h
  · exact h.updTx x y vc _

theorem CrownOnly.againCell (h : CrownOnly z s) (x y vc : Nat) : CrownOnly z (s.againCell x y vc).2 := by
  unfold State.againCell
  dsimp only
  split
  · split
    · exact (h.updTx x y vc _).bump _ _
    · exact h
  · exact h

theorem CrownOnly.relayCells (h : CrownOnly z s) (x y vc n : Nat) : CrownOnly z (s.relayCells x y vc n).2 := by
  unfold State.relayCells
  dsimp only
  split
  · exact h
  · exact ((h.updCr x _).setFs _).bump _ _

theorem CrownOnly.cellsOfVc (h : CrownOnly z s) (x y vc n : Nat) : CrownOnly z (s.cellsOfVc x y vc n).2 := by
  have hagain : ∀ c : Bool, CrownOnly z (if c = true then s.againCell x y vc else ([], s)).2 := fun c => by
    cases c
    · exact h
    · exact h.againCell x y vc
  unfold State.cellsOfVc
  dsimp only
  split
  · exact ((hagain _).relayCells x y vc _).newCells x y vc _
  · exact (hagain _).relayCells x y vc _

theorem CrownOnly.cellsTo (h : CrownOnly z s) (x y n : Nat) : CrownOnly z (s.cellsTo x y n).2 :=
  ((h.cellsOfVc x y 2 n).cellsOfVc x y 1 _).cellsOfVc x y 0 _

theorem CrownOnly.relayFill (h : CrownOnly z s) (x i p n : Nat) : CrownOnly z (State.relayFill x i p n s).2 := by
  induction n generalizing s with
  | zero => exact h
  | succ n ih =>
    unfold State.relayFill
    split
    · exact h
    · exact ih ((h.newCells ..).bump _ _)

theorem CrownOnly.launch (h : CrownOnly z s) (x y p pad : Nat) (cells : List Cell) : CrownOnly z (s.launch x y p pad cells) := by
  rw [State.launch_eq]
  exact ((h.each _ _ fun u k hu => hu.eackSent x y k).updCr x _).emit _

theorem CrownOnly.planeSlot (h : CrownOnly z s) (x p : Nat) : CrownOnly z (s.planeSlot x p) := by
  have hdirect := h.cellsTo x (destOf x p s.crownMap.slot) 3
  unfold State.planeSlot
  dsimp only
  refine .ite h (.ite (h.launch ..) (.ite h (.ite h (.launch ?_ ..))))
  split
  · exact hdirect.relayFill ..
  · exact hdirect

/-! ### The Brim links (R204, R207) -/

theorem CrownOnly.putFrame (h : CrownOnly z s) (k e type seq : Nat) (r : AckRec) (cell : List Byte) :
    CrownOnly z (s.putFrame k e type seq r cell) := (h.updBr k e _).emit _

theorem CrownOnly.pumpEdge (h : CrownOnly z s) (k e n : Nat) : CrownOnly z (State.pumpEdge k e n s) := by
  induction n generalizing s with
  | zero => exact h
  | succ n ih =>
    unfold State.pumpEdge
    dsimp only
    split
    · exact h
    · split
      · exact h
      · exact ih (((h.putFrame ..).eackSent ..).updBr k e _)

theorem CrownOnly.sendEdge (h : CrownOnly z s) (k e : Nat) (c : Cell) : CrownOnly z (s.sendEdge k e c) := (h.updBr k e _).pumpEdge k e _

theorem CrownOnly.pumpFlow (h : CrownOnly z s) (x y vc : Nat) : CrownOnly z (s.pumpFlow x y vc) := by
  unfold State.pumpFlow
  dsimp only
  exact .ite (((h.againCell x y vc).newCells x y vc 256).each _ _ fun u c hu => hu.sendEdge x _ c) h

theorem CrownOnly.bypassOut (h : CrownOnly z s) (x : Nat) : CrownOnly z (s.bypassOut x) := by
  unfold State.bypassOut
  dsimp only
  split
  · exact h
  · next e _ => exact h.each _ _ fun u k hu => .ite hu ((hu.newCells ..).each _ _ fun w c hw => hw.sendEdge x e c)

/-! ### The slot (R193, R204) -/

theorem CrownOnly.alignStep (h : CrownOnly z s) (k : Nat) : CrownOnly z (s.alignStep k) := by
  unfold State.alignStep
  split
  · exact h
  · split
    · exact h.updCr k _
    · exact .ite ((h.setF _ _).updCr k _) h

theorem CrownOnly.requestWake (h : CrownOnly z s) (k : Nat) : CrownOnly z (s.requestWake k) := by
  unfold State.requestWake
  split
  · exact h
  · split
    · exact (h.setF _ _).updClk _
    · exact (h.setF _ _).updClk _
    · exact h.updClk _
    · exact h

theorem CrownOnly.keepsMemory (h : CrownOnly z s) : z.keepsMemory s := by
  have hsq : s.sq = z.sq := by rw [h]
  have hhost : s.host = z.host := by rw [h]
  have hdram : s.dram = z.dram := by rw [h]
  exact fun a => ⟨by rw [hsq], by rw [hhost], by rw [hdram]⟩

theorem exec_crownSlot_stopped (h : s.crownMap.started = false) (offers : List CellOffer) : exec (.crownSlot offers) s = .next s := by
  have hx : exec (.crownSlot offers) s = execCrownSlot offers s := rfl
  rw [hx, execCrownSlot, if_pos (by rw [h]; rfl)]

/-- In a slot the count advances by 1; beside it only Crown and Brim engines, registers, wake requests and what is sent change. -/
theorem exec_crownSlot_started (h : s.crownMap.started = true) (offers : List CellOffer) :
    ∃ u : State, exec (.crownSlot offers) s = .next u ∧
      CrownOnly { s with crownMap := { s.crownMap with slot := s.crownMap.slot + 1 } } u := by
  have hx : exec (.crownSlot offers) s = execCrownSlot offers s := rfl
  rw [hx, execCrownSlot, if_neg (by rw [h]; decide)]
  refine ⟨_, rfl, ?_⟩
  refine .each (.each (.each (.each (.each (.each (CrownOnly.refl _) _ _ ?_) _ _ ?_) _ _ ?_) _ _ ?_) _ _ ?_) _ _ ?_
  · exact fun u k hu => hu.alignStep k
  · exact fun u o hu => .ite hu ((hu.updTx ..).pumpFlow ..)
  · exact fun u k hu => hu.requestWake k
  · exact fun u x hu => hu.bypassOut x
  · exact fun u x hu => hu.each _ _ fun w k hw => hw.pumpFlow ..
  · exact fun u x hu => hu.each _ _ fun w p hw => hw.planeSlot x p

theorem exec_crownStartPulse (s : State) : exec .crownStartPulse s =
    .next (if s.crownMap.started then s else { s with crownMap := { s.crownMap with started := true, slot := 0 } }) := rfl

end

end Sys2Proof.Machine

open Sys2Proof Sys2Proof.Machine

/-- Settles O34: a pair's plane-slots are those of its distance round the tiles, and a slot moves nothing but the Crown. -/
theorem timetableRoutes : Obligations.TimetableRoutes := by
  unfold Obligations.TimetableRoutes
  refine ⟨fun x p n hx _ => destOf_route hx p n, fun x y p n hx hy hp => (destOf_eq_iff hx hy p n).trans (mem_pairSlots hp n).symm,
    fun s h => ⟨?_, exec_crownSlot_stopped h⟩, fun s h => ⟨?_, fun offers => ?_⟩⟩
  · rw [exec_crownStartPulse, if_neg (by rw [h]; decide)]
  · rw [exec_crownStartPulse, if_pos h]
  · obtain ⟨u, hu, hk⟩ := exec_crownSlot_started h offers
    exact ⟨u, hu, by rw [hk], by rw [hk], by rw [hk], by rw [hk], hk.keepsMemory⟩
end

section
/-! SUPPORT. What a tile sends and takes over the Crown (R192, R195 to R200, R202 to R204). -/

namespace Sys2Proof.Machine

/-! ### A transmitter's slot (R192, R197, R198) -/

section
variable {s s1 : State} {x p y : Nat}

theorem State.planeSlot_dark (h : s.mayTransmit x p = false ∨ s.planeDead x (destOf x p s.crownMap.slot) p = true ∨
    s.asleep (destOf x p s.crownMap.slot) = true) : s.planeSlot x p = s := by
  rw [State.planeSlot]
  exact if_pos (by rcases h with h | h | h <;> simp [h])

/-- A transmitter that may send, to a tile that is awake, on a plane that is not dead. -/
def State.slotOpen (s : State) (x p y : Nat) : Prop :=
  y = destOf x p s.crownMap.slot ∧ s.mayTransmit x p = true ∧ s.planeDead x y p = false ∧ s.asleep y = false

theorem State.planeSlot_probes (h : s.slotOpen x p y) (hp : s.probing x = true ∨ s.probing y = true) : s.planeSlot x p = s.launch x y p 2 [] := by
  obtain ⟨rfl, hm, hd, ha⟩ := h
  rw [State.planeSlot]
  dsimp only
  rw [if_neg (by rw [hm, hd, ha]; decide), if_pos (by rcases hp with hp | hp <;> simp [hp])]

theorem State.planeSlot_launches {cells : List Cell} (h : s.slotOpen x p y) (hx : s.probing x = false) (hy : s.probing y = false)
    (h1 : s.f (F.CROWN_STAT_STATE y) ≠ 1) (hc : s.cellsTo x y 3 = (cells, s1)) (hr : s1.f (F.CROWN_CTL_RELAY_EN x) = 0) (hne : cells ≠ []) :
    s.planeSlot x p = s1.launch x y p 0 cells := by
  obtain ⟨rfl, hm, hd, ha⟩ := h
  have hb : s1.b (F.CROWN_CTL_RELAY_EN x) = false := by rw [State.b, hr]; rfl
  rw [State.planeSlot]
  dsimp only
  rw [if_neg (by rw [hm, hd, ha]; decide), if_neg (by rw [hx, hy]; decide), if_neg h1, hc]
  dsimp only
  rw [if_neg (show ¬ s1.b (F.CROWN_CTL_RELAY_EN x) = true by rw [hb]; decide)]
  dsimp only
  rw [List.append_nil, if_neg (by simp [hne])]

/-! ### ALIGN (R192, R198, R356) -/

/-- A tile in ALIGN that exchanges PROBEs, its trace at the start made. -/
theorem State.alignStep_probing {t a : Nat} (h1 : s.f (F.CROWN_STAT_STATE t) = 1) (ha : (s.cr t).align = some a)
    (ht : s.startTrace1 t = false) (hc : (s.bl t).traceCrown = false) : s.alignStep t =
      if a ≤ s.crownMap.slot then (s.setF (F.CROWN_STAT_STATE t) 2).updCr t (fun c => { c with align := none }) else s := by
  rw [State.alignStep, if_neg (by simp [h1, ht, hc]), ha]

theorem State.alignStep_runs {t : Nat} (h : s.canonical) :
    let u := (s.setF (F.CROWN_STAT_STATE t) 2).updCr t (fun c => { c with align := none })
    u.f (F.CROWN_STAT_STATE t) = 2 ∧ s.keepsRegs u [R.CROWN_STAT t] :=
  ⟨(State.updCr_f ..).trans (State.f_setF_same h.rising _ _ (by simp [F.CROWN_STAT_STATE])),
    fun off hn => (State.updCr_rd ..).trans (s.keepsRegs_setF (F.CROWN_STAT_STATE t) 2 off hn)⟩

end

/-! ### What a cell that arrives leaves alone -/

section
variable {z s : State}

theorem CrownOnly.crownMap (h : CrownOnly z s) : s.crownMap = z.crownMap := by rw [h]

theorem CrownOnly.updRx (h : CrownOnly z s) (t o vc : Nat) (g : RxFlow → RxFlow) : CrownOnly z (s.updRx t o vc g) := h.updCr t _

theorem CrownOnly.sendAckRec (h : CrownOnly z s) (t e : Nat) (r : AckRec) : CrownOnly z (s.sendAckRec t e r) := .ite (h.putFrame ..) h

theorem CrownOnly.deliverHeld (h : CrownOnly z s) (t o vc n : Nat) : CrownOnly z (State.deliverHeld t o vc n s) := by
  induction n generalizing s with
  | zero => exact h
  | succ n ih =>
    unfold State.deliverHeld
    dsimp only
    split
    · exact h
    · exact ih ((h.updRx ..).emit _)

theorem CrownOnly.takeCell (h : CrownOnly z s) (t : Nat) (c : Cell) : CrownOnly z (s.takeCell t c) := by
  have hdel := fun n => (h.updRx t c.orig c.cvc (fun r =>
    { r with held := r.held ++ [c], since := if r.held.isEmpty then s.crownMap.slot else r.since })).deliverHeld t c.orig c.cvc n
  unfold State.takeCell
  dsimp only
  exact .ite (h.updCr t _) (.ite h (.ite (((hdel _).sendAckRec ..).eackSent ..) (hdel _)))

theorem CrownOnly.takeRelay (h : CrownOnly z s) (t : Nat) (c : Cell) : CrownOnly z (s.takeRelay t c) :=
  .ite (h.bump _ _) ((h.updCr t _).setFs _)

theorem CrownOnly.takeEack (h : CrownOnly z s) (x y vc : Nat) (a : Eack) : CrownOnly z (s.takeEack x y vc a) := by
  unfold State.takeEack
  dsimp only
  exact .ite h ((h.updTx ..).pumpFlow ..)

theorem CrownOnly.noteBusy (h : CrownOnly z s) (t x : Nat) (busy : Bool) : CrownOnly z (s.noteBusy t x busy) := h.updCr t _

theorem State.raise_crownMap (s : State) (a bit : Nat) : (s.raise a bit).crownMap = s.crownMap := by
  rw [(s.raise_faulted a bit 0 false).1]

theorem State.countDrop_crownMap (s : State) (t : Nat) : (s.countDrop t).crownMap = s.crownMap := by
  unfold State.countDrop
  extract_lets s1 recent s2
  have h2 : s2.crownMap = s.crownMap := (State.updCr_crownMap ..).trans (State.bump_crownMap ..)
  split
  · exact (State.raise_crownMap ..).trans h2
  · exact h2

/-- No cell of a burst moves the slot count. -/
theorem State.takePosition_crownMap (s : State) (x t p k : Nat) (cw : List Byte) : (s.takePosition x t p k cw).crownMap = s.crownMap := by
  have hack := fun busy a => ((CrownOnly.refl s).noteBusy t x busy).takeEack t x k a
  unfold State.takePosition
  split
  · exact (State.bump_crownMap ..).trans (State.countDrop_crownMap ..)
  · next c a busy _ => exact (CrownOnly.ite (hack busy a) (.ite ((hack busy a).takeCell t c) ((hack busy a).takeRelay t c))).crownMap

end

/-- An iteration whose steps ask for what none of them changes asks for it as it was at the start. -/
theorem State.each_reads {α β : Type} (g : State → β) (f : β → State → α → State) (hf : ∀ b u x, g (f b u x) = g u) (s : State) (l : List α) :
    s.each l (fun u x => f (g u) u x) = s.each l (f (g s)) := by
  unfold State.each
  induction l generalizing s with
  | nil => rfl
  | cons a l ih => exact (ih (f (g s) s a)).trans (by rw [hf]; rfl)

/-! ### A burst that arrives (R195, R196, R198) -/

section
variable {t : Tile} {p : Fin 16} {body : List Byte} {s : State}

theorem exec_burstReceive (t : Tile) (p : Fin 16) (lock : Bool) (body : List Byte) (s : State) :
    exec (.crownBurstReceive t p lock body) s = execCrownBurstReceive t p lock body s := rfl

theorem exec_burstReceive_off (lock : Bool)
    (h : s.crownMap.started = false ∨ s.f (F.CROWN_STAT_STATE t.val) = 0 ∨ (s.f (F.CROWN_DEAD_RX_DEAD t.val)).testBit p.val = true) :
    exec (.crownBurstReceive t p lock body) s = .next s := by
  rw [exec_burstReceive, execCrownBurstReceive, if_pos (by rcases h with h | h | h <;> simp [h])]

/-- A receiver that takes bursts: its Crown on, its plane not dead. -/
def State.burstsTaken (s : State) (t : Tile) (p : Fin 16) : Prop :=
  s.crownMap.started = true ∧ s.f (F.CROWN_STAT_STATE t.val) ≠ 0 ∧ (s.f (F.CROWN_DEAD_RX_DEAD t.val)).testBit p.val = false

theorem exec_burstReceive_unlocked (h : s.burstsTaken t p) :
    exec (.crownBurstReceive t p false body) s = .next (s.bump (F.CROWN_CNT_PRE_FAIL t.val)) := by
  obtain ⟨hs, h0, hd⟩ := h
  rw [exec_burstReceive, execCrownBurstReceive, if_neg (by simp [hs, h0, hd]), if_pos (by decide)]

/-- A burst whose source the Timetable names: what the receiver keeps for it is refined, and it is counted (R195, R198). -/
def State.burstHeard (s : State) (t p : Nat) : State :=
  (s.updCr t (fun c => { c with cache := Map.put (sourceTile t p s.crownMap.slot * 16 + p) s.crownMap.slot c.cache })).bump (F.CROWN_CNT_BURST t)

/-- The position k of a burst of 768 bytes, sent in a slot that the Crown map counts. -/
def State.heardPosition (t p : Nat) (body : List Byte) (m : CrownMap) (s : State) (k : Nat) : State :=
  s.takePosition (sourceTile t p m.slot) t p k ((body.drop (256 * k)).take 256)

theorem State.burstHeard_crownMap (s : State) (t p : Nat) : (s.burstHeard t p).crownMap = s.crownMap := by
  rw [State.burstHeard, State.bump_crownMap, State.updCr_crownMap]

theorem exec_burstReceive_locked (h : s.burstsTaken t p) (hl : body.length = 768) : exec (.crownBurstReceive t p true body) s =
    .next ((s.burstHeard t.val p.val).each [0, 1, 2] (fun s k => State.heardPosition t.val p.val body s.crownMap s k)) := by
  obtain ⟨hs, h0, hd⟩ := h
  have hreads := State.each_reads State.crownMap (State.heardPosition t.val p.val body) (fun _ _ _ => State.takePosition_crownMap ..)
    (s.burstHeard t.val p.val) [0, 1, 2]
  rw [exec_burstReceive, execCrownBurstReceive, if_neg (by simp [hs, h0, hd]), if_neg (by decide), fitBytes_self hl, hreads,
    State.burstHeard_crownMap]
  unfold State.heardPosition State.burstHeard
  dsimp only

end

/-- A position that does not decode, or whose cell is not of the form of R196, is counted on the tile and the plane (R196). -/
theorem State.takePosition_lost {cw : List Byte} (h : rsDecode (fun b => cellCrcOk (b.take 240)) cw = none) (s : State) (x t p k : Nat) :
    s.takePosition x t p k cw = (s.countDrop t).bump (F.CROWN_PLANE_UNCORR t p) := by
  rw [State.takePosition, h]
  rfl

/-! ### Flows at one tile -/

section
variable {s : State} {t : Nat}

theorem State.cr_updCr_same {g : Crown → Crown} (h : g (s.cr t) ≠ {}) : (s.updCr t g).cr t = g (s.cr t) := Map.get_upd_of_ne h

theorem Map.upd_ne_nil {α : Type} [DecidableEq α] {d : α} {m : List (Nat × α)} {k : Nat} {f : α → α} (h : f (Map.get d m k) ≠ d) :
    Map.upd d m k f ≠ [] := by
  rw [Map.upd, Map.set, if_neg h]
  exact List.ne_nil_of_mem (Map.mem_put_same ..)

/-- A flow that a tile receives reads as it was changed, where it is not as it starts. -/
theorem State.rxFlow_updRx_same {o vc : Nat} {g : RxFlow → RxFlow} (h : g (s.rxFlow t o vc) ≠ {}) :
    (s.updRx t o vc g).rxFlow t o vc = g (s.rxFlow t o vc) := by
  rw [State.rxFlow, State.updRx, State.cr_updCr_same fun hd => Map.upd_ne_nil h (congrArg Crown.rx hd)]
  exact Map.get_upd_of_ne h

theorem State.viaBrim_updRx (s : State) (a o vc : Nat) (g : RxFlow → RxFlow) (x y : Nat) :
    (s.updRx a o vc g).viaBrim x y = s.viaBrim x y := rfl

theorem State.viaBrim_updTx (s : State) (a o vc : Nat) (g : TxFlow → TxFlow) (x y : Nat) :
    (s.updTx a o vc g).viaBrim x y = s.viaBrim x y := rfl

/-! ### Cells for the tile itself (R199, R205) -/

theorem State.takeCell_stale {c : Cell} (h : (s.cr t).stale.contains c = true) :
    s.takeCell t c = s.updCr t (fun x => { x with stale := x.stale.erase c }) := by
  rw [State.takeCell, if_pos h]

theorem State.takeCell_again {c : Cell} (h : (s.cr t).stale.contains c = false)
    (hd : 256 ≤ (c.eseq + 1024 - (s.rxFlow t c.orig c.cvc).next) % 1024 ∨
      (s.rxFlow t c.orig c.cvc).held.any (fun x => x.eseq == c.eseq) = true) : s.takeCell t c = s := by
  rw [State.takeCell, if_neg (by rw [h]; decide)]
  exact if_pos (by simpa using hd)

/-- A cell is held until those before it have come. -/
def RxFlow.hold (c : Cell) (slot : Nat) (r : RxFlow) : RxFlow :=
  { r with held := r.held ++ [c], since := if r.held.isEmpty then slot else r.since }

/-- A held cell goes to the engines: it is owed an acknowledgement, and the next ESEQ is due. -/
def RxFlow.deliver (c : Cell) (slot : Nat) (r : RxFlow) : RxFlow :=
  { r with next := (r.next + 1) % 1024, held := r.held.filter (fun x => x.eseq != c.eseq), acked := true, changed := true, since := slot, enakAt := none }

theorem RxFlow.hold_ne (c : Cell) (slot : Nat) (r : RxFlow) : r.hold c slot ≠ {} := fun h => by
  simpa [RxFlow.hold] using congrArg RxFlow.held h

theorem RxFlow.deliver_ne (c : Cell) (slot : Nat) (r : RxFlow) : r.deliver c slot ≠ {} := fun h => by
  simpa [RxFlow.deliver] using congrArg RxFlow.acked h

/-- Over the Brim links an acknowledgement that has changed is sent at once (R199). -/
def State.ackDelivered (s : State) (t : Nat) (c : Cell) : State :=
  if s.viaBrim t c.orig && (s.rxFlow t c.orig c.cvc).changed then
    (s.sendAckRec t (edgeTo t c.orig) { orig := c.orig, final := t, vc := c.cvc, ack := s.eackTo t c.orig c.cvc }).eackSent t c.orig c.cvc
  else s

/-- The next cell of a flow that holds none goes to the engines at once. -/
theorem State.takeCell_next {c : Cell} (h : (s.cr t).stale.contains c = false) (he : c.eseq = (s.rxFlow t c.orig c.cvc).next)
    (hh : (s.rxFlow t c.orig c.cvc).held = []) (hv : s.viaBrim t c.orig = false) :
    s.takeCell t c = ((s.updRx t c.orig c.cvc (RxFlow.hold c s.crownMap.slot)).updRx t c.orig c.cvc
      (RxFlow.deliver c s.crownMap.slot)).emit (.engine t c.payload) := by
  have hnew : ¬ (decide (256 ≤ (c.eseq + 1024 - (s.rxFlow t c.orig c.cvc).next) % 1024) ||
      (s.rxFlow t c.orig c.cvc).held.any (fun x => x.eseq == c.eseq)) = true := by
    rw [he, hh, Nat.add_sub_cancel_left]
    simp
  have hr := State.rxFlow_updRx_same (RxFlow.hold_ne c s.crownMap.slot (s.rxFlow t c.orig c.cvc))
  have hone : ((s.updRx t c.orig c.cvc (RxFlow.hold c s.crownMap.slot)).rxFlow t c.orig c.cvc).held = [c] := by
    rw [hr, RxFlow.hold, hh, List.nil_append]
  have hnext : ((s.updRx t c.orig c.cvc (RxFlow.hold c s.crownMap.slot)).rxFlow t c.orig c.cvc).next = c.eseq := by
    rw [hr, he]
    rfl
  have hall : State.deliverHeld t c.orig c.cvc 1 (s.updRx t c.orig c.cvc (RxFlow.hold c s.crownMap.slot)) =
      ((s.updRx t c.orig c.cvc (RxFlow.hold c s.crownMap.slot)).updRx t c.orig c.cvc (RxFlow.deliver c s.crownMap.slot)).emit (.engine t c.payload) := by
    rw [State.deliverHeld, hone, hnext, List.find?_cons_of_pos (by exact beq_self_eq_true _)]
    rfl
  have hx : s.takeCell t c = if (s.cr t).stale.contains c then s.updCr t (fun x => { x with stale := x.stale.erase c })
      else if decide (256 ≤ (c.eseq + 1024 - (s.rxFlow t c.orig c.cvc).next) % 1024) ||
        (s.rxFlow t c.orig c.cvc).held.any (fun x => x.eseq == c.eseq) then s
      else (State.deliverHeld t c.orig c.cvc ((s.updRx t c.orig c.cvc (RxFlow.hold c s.crownMap.slot)).rxFlow t c.orig c.cvc).held.length
        (s.updRx t c.orig c.cvc (RxFlow.hold c s.crownMap.slot))).ackDelivered t c := rfl
  have hv2 : (((s.updRx t c.orig c.cvc (RxFlow.hold c s.crownMap.slot)).updRx t c.orig c.cvc (RxFlow.deliver c s.crownMap.slot)).emit
      (.engine t c.payload)).viaBrim t c.orig = false := hv
  rw [hx, if_neg (by rw [h]; decide), if_neg hnew, hone, List.length_singleton, hall, State.ackDelivered, hv2, Bool.false_and,
    if_neg (by decide)]

/-- The flow and the outward record after a cell that was delivered at once, and what it leaves alone. -/
theorem State.takeCell_next_spec {c : Cell} (h : (s.cr t).stale.contains c = false) (he : c.eseq = (s.rxFlow t c.orig c.cvc).next)
    (hh : (s.rxFlow t c.orig c.cvc).held = []) (hv : s.viaBrim t c.orig = false) :
    (s.takeCell t c).out = .engine t c.payload :: s.out ∧
    (s.takeCell t c).rxFlow t c.orig c.cvc = { s.rxFlow t c.orig c.cvc with
      next := ((s.rxFlow t c.orig c.cvc).next + 1) % 1024, held := [], acked := true, changed := true, since := s.crownMap.slot, enakAt := none } ∧
    (s.takeCell t c).regs = s.regs ∧ s.keepsMemory (s.takeCell t c) := by
  have hflow : (((s.updRx t c.orig c.cvc (RxFlow.hold c s.crownMap.slot)).updRx t c.orig c.cvc (RxFlow.deliver c s.crownMap.slot)).emit
      (.engine t c.payload)).rxFlow t c.orig c.cvc = RxFlow.deliver c s.crownMap.slot (RxFlow.hold c s.crownMap.slot (s.rxFlow t c.orig c.cvc)) := by
    refine (State.rxFlow_updRx_same (RxFlow.deliver_ne _ _ _)).trans ?_
    rw [State.rxFlow_updRx_same (RxFlow.hold_ne _ _ _)]
  rw [State.takeCell_next h he hh hv]
  refine ⟨rfl, hflow.trans ?_, rfl, fun _ => ⟨rfl, rfl, rfl⟩⟩
  have hgone : [c].filter (fun x => x.eseq != c.eseq) = [] := by simp
  rw [RxFlow.deliver, RxFlow.hold, hh, List.nil_append, hgone]

/-! ### Cells to relay (R203) -/

theorem State.takeRelay_room {c : Cell} (h : (s.cr t).relay.length < 8192) :
    s.takeRelay t c = (s.updCr t (fun x => { x with relay := x.relay ++ [c] })).syncRelay t := if_neg (Nat.not_le.2 h)

theorem State.takeRelay_full {c : Cell} (h : 8192 ≤ (s.cr t).relay.length) : s.takeRelay t c = s.bump (F.CROWN_RELAY_STAT_DROP t) := if_pos h

end

/-! ### Timers (R193, R198, R200) -/

section
variable {t o : Tile} {vc : Fin 3} {s : State}

/-- May a flow ask for its missing cell: no ENAK is younger than HOLD (R200)? -/
def State.enakDue (s : State) (t : Nat) (r : RxFlow) : Bool :=
  match r.enakAt with | some a => s.slotsPast a (s.f (F.CROWN_CTL_HOLD t)) | none => true

theorem State.enakDue_iff {s : State} {t : Nat} {r : RxFlow} :
    s.enakDue t r = true ↔ ∀ a, r.enakAt = some a → s.slotsPast a (s.f (F.CROWN_CTL_HOLD t)) = true := by
  unfold State.enakDue
  cases r.enakAt <;> simp

/-- A flow asks for its missing cell in its next acknowledgement. -/
def RxFlow.ask (slot : Nat) (r : RxFlow) : RxFlow := { r with enak := true, changed := true, enakAt := some slot }

theorem exec_holdExpiry (t o : Tile) (vc : Fin 3) (s : State) : exec (.crownHoldExpiry t o vc) s =
    .next (if (s.rxFlow t.val o.val vc.val).held.isEmpty || !s.slotsPast (s.rxFlow t.val o.val vc.val).since (s.f (F.CROWN_CTL_HOLD t.val)) ||
        !s.enakDue t.val (s.rxFlow t.val o.val vc.val) then s
      else
        let s1 := s.updRx t.val o.val vc.val (RxFlow.ask s.crownMap.slot)
        if s1.viaBrim t.val o.val then
          (s1.sendAckRec t.val (edgeTo t.val o.val) { orig := o.val, final := t.val, vc := vc.val, ack := s1.eackTo t.val o.val vc.val }).eackSent
            t.val o.val vc.val
        else s1) := rfl

theorem exec_holdExpiry_waits (h : (s.rxFlow t.val o.val vc.val).held = [] ∨
    s.slotsPast (s.rxFlow t.val o.val vc.val).since (s.f (F.CROWN_CTL_HOLD t.val)) = false ∨
    s.enakDue t.val (s.rxFlow t.val o.val vc.val) = false) : exec (.crownHoldExpiry t o vc) s = .next s := by
  rw [exec_holdExpiry, if_pos (by rcases h with h | h | h <;> simp [h])]

theorem exec_holdExpiry_asks (hh : (s.rxFlow t.val o.val vc.val).held ≠ [])
    (hp : s.slotsPast (s.rxFlow t.val o.val vc.val).since (s.f (F.CROWN_CTL_HOLD t.val)) = true)
    (hd : s.enakDue t.val (s.rxFlow t.val o.val vc.val) = true) (hv : s.viaBrim t.val o.val = false) :
    exec (.crownHoldExpiry t o vc) s = .next (s.updRx t.val o.val vc.val (RxFlow.ask s.crownMap.slot)) := by
  rw [exec_holdExpiry, if_neg (by simp [hh, hp, hd])]
  dsimp only
  rw [State.viaBrim_updRx, hv, if_neg (by decide)]

theorem exec_rtoExpiry (t o : Tile) (vc : Fin 3) (s : State) : exec (.crownRtoExpiry t o vc) s = execCrownRtoExpiry t o vc s := rfl

theorem exec_rtoExpiry_waits (h : (s.txFlow t.val o.val vc.val).unacked = [] ∨
    s.slotsPast (s.txFlow t.val o.val vc.val).since (s.f (F.CROWN_CTL_RTO t.val)) = false) : exec (.crownRtoExpiry t o vc) s = .next s := by
  rw [exec_rtoExpiry, execCrownRtoExpiry, if_pos (by rcases h with h | h <;> simp [h])]

/-- The own cells of a flow that does not take the Brim links are the Crown's. -/
theorem State.pumpFlow_crown {x y : Nat} (h : s.viaBrim x y = false) (k : Nat) : s.pumpFlow x y k = s := by
  rw [State.pumpFlow, if_neg (by simp [h])]

theorem exec_rtoExpiry_resends (hu : (s.txFlow t.val o.val vc.val).unacked ≠ [])
    (hp : s.slotsPast (s.txFlow t.val o.val vc.val).since (s.f (F.CROWN_CTL_RTO t.val)) = true) (hv : s.viaBrim t.val o.val = false) :
    exec (.crownRtoExpiry t o vc) s = .next (s.updTx t.val o.val vc.val (fun f => { f with resend := true })) := by
  rw [exec_rtoExpiry, execCrownRtoExpiry, if_neg (by simp [hu, hp]), State.pumpFlow_crown ((State.viaBrim_updTx ..).trans hv)]

theorem exec_probeDue {d : Tile} {ps : Nat × Nat} (hf : (pairSlots t.val d.val).find?
      (fun ps => ps.1 == s.crownMap.slot % 3 && s.mayTransmit t.val ps.2 && !s.planeDead t.val d.val ps.2) = some ps)
    (hs : s.crownMap.started = true) (ha : s.asleep d.val = false) (hl : Map.get 0 (s.cr t.val).last d.val + 192 ≤ s.crownMap.slot) :
    exec (.crownProbeDue t d) s = .next (s.launch t.val d.val ps.2 2 []) := by
  have hx : exec (.crownProbeDue t d) s = execCrownProbeDue t d s := rfl
  rw [hx, execCrownProbeDue, hf]
  dsimp only
  rw [if_pos (by simp [hs, ha, hl])]

end

/-! ### The dead map (R204) -/

section
variable {s : State} {t : Nat}

theorem State.markDead_crownMap (s : State) (t tx rx : Nat) : (s.markDead t tx rx).crownMap = s.crownMap := by
  have hplanes : ((s.setFs [(F.CROWN_DEAD_TX_DEAD t, tx), (F.CROWN_DEAD_RX_DEAD t, rx)]).each (List.range 16) (fun s pl =>
      s.setFs [(F.CROWN_PLANE_TX_OK t pl, 1 - tx / 2 ^ pl % 2), (F.CROWN_PLANE_RX_OK t pl, 1 - rx / 2 ^ pl % 2)])).crownMap = s.crownMap :=
    (State.each_keeps State.crownMap _ _ _ fun _ _ => State.setFs_crownMap ..).trans (State.setFs_crownMap ..)
  rw [State.markDead]
  split
  · exact (State.raise_crownMap ..).trans hplanes
  · exact hplanes

theorem State.asleep_setAsleep_same (s : State) (t : Nat) (a : Bool) : (s.setAsleep t a).asleep t = a := by
  rw [State.setAsleep, State.asleep, State.setB_crownMap]
  cases a <;> simp

theorem State.asleep_setAsleep_ne {k : Nat} (h : k ≠ t) (s : State) (a : Bool) : (s.setAsleep t a).asleep k = s.asleep k := by
  rw [State.setAsleep, State.asleep, State.asleep, State.setB_crownMap]
  cases a <;> simp [h]

theorem State.setAsleep_f {x : Fld} (h : x.off ≠ R.CROWN_STAT t) (s : State) (a : Bool) : (s.setAsleep t a).f x = s.f x :=
  State.f_setF_off (x := F.CROWN_STAT_ASLEEP t) h _

theorem State.setAsleep_shown (h : s.canonical) (a : Bool) : (s.setAsleep t a).f (F.CROWN_STAT_ASLEEP t) = if a then 1 else 0 :=
  State.f_setB_same (s := { s with crownMap := _ }) h (F.CROWN_STAT_ASLEEP t) a (by simp [F.CROWN_STAT_ASLEEP]) rfl

/-- The Proctor's update, at a tile whose own state asks for no mark and no sleep. -/
theorem exec_deadMapUpdate {t : Tile} {tx rx : BitVec 16} {a : Bool} (hm : s.dueMarks t.val = (0, 0)) (hd : s.dozing t.val = false) :
    exec (.crownDeadMapUpdate t tx rx a) s = .next ((s.markDead t.val tx.toNat rx.toNat).setAsleep t.val a) := by
  have hx : exec (.crownDeadMapUpdate t tx rx a) s = execCrownDeadMapUpdate t tx rx a s := rfl
  rw [hx, execCrownDeadMapUpdate]
  rw [hm, hd]
  dsimp only
  rw [Nat.or_zero, Nat.or_zero, Bool.or_false]

theorem deadMapUpdate_spec {t : Tile} (tx rx : BitVec 16) (a : Bool) (h : s.canonical) :
    let u := (s.markDead t.val tx.toNat rx.toNat).setAsleep t.val a
    u.f (F.CROWN_DEAD_TX_DEAD t.val) = tx.toNat ∧ u.f (F.CROWN_DEAD_RX_DEAD t.val) = rx.toNat ∧ u.asleep t.val = a ∧
      u.f (F.CROWN_STAT_ASLEEP t.val) = (if a then 1 else 0) ∧ ∀ k : Tile, k ≠ t → u.asleep k.val = s.asleep k.val := by
  obtain ⟨-, htx, hrx⟩ := State.markDead_spec h t.val tx.toNat rx.toNat
  have hne : R.CROWN_DEAD t.val ≠ R.CROWN_STAT t.val := by
    unfold R.CROWN_DEAD R.CROWN_STAT
    omega
  refine ⟨?_, ?_, State.asleep_setAsleep_same .., State.setAsleep_shown (((Kept.refl s).markDead ..).2 h) a, fun k hk => ?_⟩
  · exact (State.setAsleep_f hne ..).trans (htx.trans (Nat.mod_eq_of_lt tx.isLt))
  · exact (State.setAsleep_f hne ..).trans (hrx.trans (Nat.mod_eq_of_lt rx.isLt))
  · rw [State.asleep_setAsleep_ne (fun he => hk (Fin.ext he)), State.asleep, State.markDead_crownMap, ← State.asleep]

end

end Sys2Proof.Machine

open Sys2Proof Sys2Proof.Machine

/-- Settles O36: a slot, a burst, a position, a cell, the timers, the probe and the dead map, each by its cases. -/
theorem crownTraffic : Obligations.CrownTraffic := by
  unfold Obligations.CrownTraffic
  refine ⟨fun x p s h => State.planeSlot_dark h, ?_, ?_, ?_, ?_, ?_, ?_, fun t d ps s hf hs ha hl => exec_probeDue hf hs ha hl, ?_⟩
  · exact fun x p cells s s1 hm hd ha hx hy h1 hc hr hne => State.planeSlot_launches ⟨rfl, hm, hd, ha⟩ hx hy h1 hc hr hne
  · exact fun x p s hm hd ha hp => State.planeSlot_probes ⟨rfl, hm, hd, ha⟩ hp
  · intro t a s h1 ha ht hc hcan
    rw [State.alignStep_probing h1 ha ht hc]
    refine ⟨fun hlt => if_neg (Nat.not_le.2 hlt), fun hle => ?_⟩
    rw [if_pos hle]
    exact State.alignStep_runs hcan
  · refine fun t p lock body s => ⟨exec_burstReceive_off lock, fun hs h0 hd => ?_, fun x k cw h => State.takePosition_lost h ..⟩
    exact ⟨exec_burstReceive_unlocked ⟨hs, h0, hd⟩, exec_burstReceive_locked ⟨hs, h0, hd⟩⟩
  · exact fun t c s => ⟨State.takeCell_stale, fun h he _ hh hv _ => State.takeCell_next_spec h he hh hv, State.takeCell_again,
      State.takeRelay_room, State.takeRelay_full⟩
  · refine fun t o vc s => ⟨fun h => exec_holdExpiry_waits (h.imp_right (Or.imp_right fun ⟨a, ha, hp⟩ => ?_)),
      fun hh hp hd hv => exec_holdExpiry_asks hh hp (State.enakDue_iff.2 hd) hv, exec_rtoExpiry_waits, exec_rtoExpiry_resends⟩
    exact Bool.eq_false_iff.2 fun hdue => Bool.false_ne_true (hp.symm.trans (State.enakDue_iff.1 hdue a ha))
  · exact fun t tx rx a s hcan hm hd => ⟨_, exec_deadMapUpdate hm hd, deadMapUpdate_spec tx rx a hcan⟩
end

section
/-! SUPPORT. Reference traces: when one is due, its Crown part, and how it ends (R204, R340, R355 to R358). -/

namespace Sys2Proof.Machine

/-! ### A tile's Blocking state and its status register -/

section
variable {s : State} {n : Nat}

/-- A tile's Blocking state reads as it was changed. -/
theorem State.bl_updBl (h : Map.rising s.blk = true) (n : Nat) (g : Blk → Blk) : (s.updBl n g).bl n = g (s.bl n) := Map.get_upd_same h n g

theorem State.updBl_rising (h : Map.rising s.blk = true) (n : Nat) (g : Blk → Blk) : Map.rising (s.updBl n g).blk = true := Map.rising_upd h n g

theorem State.syncBlk_blk (s : State) (n : Nat) : (s.syncBlk n).blk = s.blk := State.setFs_blk ..

theorem State.syncBlk_bl (s : State) (n k : Nat) : (s.syncBlk n).bl k = s.bl k := by rw [State.bl, State.syncBlk_blk, ← State.bl]

theorem State.syncBlk_bell (s : State) (n : Nat) : (s.syncBlk n).bell = s.bell := State.setFs_bell ..

theorem State.syncBlk_keeps (s : State) (n : Nat) : s.keepsRegs (s.syncBlk n) [R.BLK_STAT n] :=
  s.keepsRegs_setFs _ (by simp [F.BLK_STAT_BUSY, F.BLK_STAT_QUEUED, F.BLK_STAT_TRACE])

/-! ### A trace that is due (R355, R356) -/

theorem State.wantTrace_bl (h : Map.rising s.blk = true) (prio : Nat) : (s.wantTrace n prio).bl n = { s.bl n with
    traceDue := some ((s.bl n).traceDue.getD s.bell)
    tracePrio := if (s.bl n).traceDue.isSome then min (s.bl n).tracePrio prio else prio } := State.bl_updBl h n _

theorem State.startTrace_idle (h : (s.bl n).traceDue = none) : s.startTrace n = s := by
  rw [State.startTrace, h]

/-- Without REFCLK, or while the tile sleeps or reacts to a fault, no trace starts (R345, R351, R356). -/
theorem State.startTrace_held (h : s.b F.CLK_STAT_HOLDOVER = true ∨ s.blkAwake n = false) : s.startTrace n = s := by
  rw [State.startTrace]
  split
  · rfl
  · exact if_pos (by rcases h with h | h <;> simp [h])

theorem State.wantTrace_held (h : s.b F.CLK_STAT_HOLDOVER = true ∨ s.blkAwake n = false) (prio : Nat) :
    (s.wantTrace n prio).startTrace n = s.wantTrace n prio := State.startTrace_held h

end

section
variable {n : Tile} {s : State}

theorem exec_traceDue (n : Tile) (s : State) : exec (.referenceTraceDue n) s = execReferenceTraceDue n s := rfl

theorem exec_traceDue_idle (hd : (s.bl n.val).traceDue = none) (h : s.f (F.BLK_CTL_EN n.val) = 0 ∨ (s.bl n.val).tracing = true) :
    exec (.referenceTraceDue n) s = .next s := by
  have hstop : (!s.b (F.BLK_CTL_EN n.val) || (s.bl n.val).tracing) = true := by rcases h with h | h <;> simp [State.b, h]
  rw [exec_traceDue, execReferenceTraceDue]
  rw [if_pos hstop, State.startTrace_idle hd]

/-- Blocking is enabled, and no trace runs. -/
theorem State.traceFree (he : s.f (F.BLK_CTL_EN n.val) = 1) (ht : (s.bl n.val).tracing = false) :
    ¬ (!s.b (F.BLK_CTL_EN n.val) || (s.bl n.val).tracing) = true := by simp [State.b, he, ht]

/-- The temperature has moved by more than 4 × DT since the last trace. -/
theorem exec_traceDue_hot (he : s.f (F.BLK_CTL_EN n.val) = 1) (ht : (s.bl n.val).tracing = false) {x : Int} (hx : (s.bl n.val).traceTemp = some x)
    (hd : 4 * s.f (F.BLK_CTL_DT n.val) < ((s.bl n.val).avg - x).natAbs) :
    exec (.referenceTraceDue n) s = .next ((s.wantTrace n.val 2).startTrace n.val) := by
  rw [exec_traceDue, execReferenceTraceDue]
  rw [if_neg (State.traceFree he ht), hx]
  dsimp only
  rw [if_pos (decide_eq_true hd)]

/-- No trace has been made. -/
theorem exec_traceDue_first (he : s.f (F.BLK_CTL_EN n.val) = 1) (ht : (s.bl n.val).tracing = false) (hx : (s.bl n.val).traceTemp = none)
    (hy : (s.bl n.val).traceTried = none) : exec (.referenceTraceDue n) s = .next ((s.wantTrace n.val 3).startTrace n.val) := by
  rw [exec_traceDue, execReferenceTraceDue]
  rw [if_neg (State.traceFree he ht), hx, hy]
  rfl

/-- A trace that is wanted waits for REFCLK and for the tile. -/
theorem wantTrace_waits (hr : Map.rising s.blk = true) (hw : s.b F.CLK_STAT_HOLDOVER = true ∨ s.blkAwake n.val = false) {prio : Nat}
    (hx : exec (.referenceTraceDue n) s = .next ((s.wantTrace n.val prio).startTrace n.val)) :
    ∃ u : State, exec (.referenceTraceDue n) s = .next u ∧ (u.bl n.val).traceDue = some ((s.bl n.val).traceDue.getD s.bell) ∧
      (u.bl n.val).tracePrio ≤ prio ∧ s.keepsRegs u [] := by
  rw [State.wantTrace_held hw] at hx
  refine ⟨_, hx, ?_, ?_, fun _ _ => rfl⟩
  · rw [State.wantTrace_bl hr]
  · rw [State.wantTrace_bl hr]
    dsimp only
    split
    · exact Nat.min_le_right ..
    · exact Nat.le_refl _

/-! ### The Crown part of a trace (R204, R340) -/

theorem exec_traceCrownEnd (n : Tile) (s : State) : exec (.referenceTraceCrownEnd n) s = execReferenceTraceCrownEnd n s := rfl

theorem exec_traceCrownEnd_idle (h : (s.bl n.val).traceCrown = false) : exec (.referenceTraceCrownEnd n) s = .next s := by
  rw [exec_traceCrownEnd, execReferenceTraceCrownEnd]
  exact if_pos (by rw [h]; rfl)

/-- A state field that leaves one value for another. -/
theorem State.leaveState_spec {s : State} (h : s.canonical) (x : Fld) {a b : Nat} (hw : x.lo + x.width ≤ 32) (hb : b < 2 ^ x.width) :
    let u := if s.f x = a then s.setF x b else s
    u.canonical ∧ u.f x = (if s.f x = a then b else s.f x) ∧ s.keepsRegs u [x.off] ∧ u.blk = s.blk ∧ u.bell = s.bell := by
  intro u
  by_cases ha : s.f x = a
  · have hu : u = s.setF x b := if_pos ha
    rw [hu, if_pos ha, State.f_setF_same h.rising x b hw, Nat.mod_eq_of_lt hb]
    exact ⟨State.setF_canonical h x b, rfl, s.keepsRegs_setF x b, rfl, rfl⟩
  · have hu : u = s := if_neg ha
    rw [hu, if_neg ha]
    exact ⟨h, rfl, fun _ _ => rfl, rfl, rfl⟩

theorem crownStat_ne_blkStat (n : Nat) : R.CROWN_STAT n ≠ R.BLK_STAT n := by
  unfold R.CROWN_STAT R.BLK_STAT
  omega

/-- The transmitters resume. -/
theorem traceCrownEnd_spec (h : s.canonical) (hr : Map.rising s.blk = true) (hc : (s.bl n.val).traceCrown = true) :
    ∃ u : State, exec (.referenceTraceCrownEnd n) s = .next u ∧ (u.bl n.val).traceCrown = false ∧
      u.f (F.CROWN_STAT_STATE n.val) = (if s.f (F.CROWN_STAT_STATE n.val) = 3 then 2 else s.f (F.CROWN_STAT_STATE n.val)) ∧
      s.keepsRegs u [R.CROWN_STAT n.val, R.BLK_STAT n.val] := by
  have hx : exec (.referenceTraceCrownEnd n) s = .next (((if s.f (F.CROWN_STAT_STATE n.val) = 3 then s.setF (F.CROWN_STAT_STATE n.val) 2
      else s).updBl n.val (fun b => { b with traceCrown := false })).syncBlk n.val) := by
    rw [exec_traceCrownEnd, execReferenceTraceCrownEnd]
    exact if_neg (by rw [hc]; decide)
  obtain ⟨-, hst, hkeep, hblk, -⟩ := State.leaveState_spec h (F.CROWN_STAT_STATE n.val) (a := 3) (b := 2) (by simp [F.CROWN_STAT_STATE])
    (by simp [F.CROWN_STAT_STATE])
  generalize (if s.f (F.CROWN_STAT_STATE n.val) = 3 then s.setF (F.CROWN_STAT_STATE n.val) 2 else s) = v at hx hst hkeep hblk
  have hsync := (v.updBl n.val (fun b => { b with traceCrown := false })).syncBlk_keeps n.val
  refine ⟨_, hx, ?_, ?_, fun off hn => ?_⟩
  · rw [State.syncBlk_bl, State.bl_updBl (hblk ▸ hr)]
  · have hne : R.CROWN_STAT n.val ∉ [R.BLK_STAT n.val] := fun hm => crownStat_ne_blkStat _ (List.mem_singleton.1 hm)
    exact (hsync.f (x := F.CROWN_STAT_STATE n.val) hne).trans ((State.updBl_f ..).trans hst)
  · exact (hsync off fun hm => hn (List.mem_cons_of_mem _ hm)).trans
      ((State.updBl_rd ..).trans (hkeep off fun hm => hn (List.mem_cons.2 (.inl (List.mem_singleton.1 hm)))))

end

/-! ### A trace that ends (R355, R357, R358) -/

section
variable {s : State} {n : Nat}

/-- What ends with a trace: the tile and its engine no longer run it. -/
def State.traceClosed (s : State) (n : Nat) : State :=
  (s.updBl n (fun b => { b with tracing := false, traceRuns := [] })).updOme n (fun o => { o with traceReq := false })

/-- A trace that is over: nothing of it is left but the time and the trigger it began with. -/
theorem State.traceOver_spec (h : s.canonical) (hr : Map.rising s.blk = true) (n : Nat) :
    (s.traceOver n).canonical ∧ Map.rising (s.traceOver n).blk = true ∧
    (s.traceOver n).bl n = { s.bl n with tracing := false, traceRuns := [] } ∧ (s.traceOver n).bell = s.bell ∧
    (s.traceOver n).f (F.OME_STAT_STATE n) = (if s.f (F.OME_STAT_STATE n) = 6 then 2 else s.f (F.OME_STAT_STATE n)) ∧
    s.keepsRegs (s.traceOver n) [R.OME_STAT n, R.BLK_STAT n] := by
  have hs1 : (s.traceClosed n).canonical := (((Kept.refl s).updBl n _).updOme n _).2 h
  have hb1 : (s.traceClosed n).bl n = { s.bl n with tracing := false, traceRuns := [] } := State.bl_updBl hr n fun b => { b with tracing := false, traceRuns := [] }
  have hr1 : Map.rising (s.traceClosed n).blk = true := State.updBl_rising hr n fun b => { b with tracing := false, traceRuns := [] }
  have hf1 : ∀ off, (s.traceClosed n).rd off = s.rd off := fun _ => rfl
  obtain ⟨hc2, hst, hkeep, hblk, hbell⟩ := State.leaveState_spec hs1 (F.OME_STAT_STATE n) (a := 6) (b := 2) (by simp [F.OME_STAT_STATE])
    (by simp [F.OME_STAT_STATE])
  have he : s.traceOver n =
    (if (s.traceClosed n).f (F.OME_STAT_STATE n) = 6 then (s.traceClosed n).setF (F.OME_STAT_STATE n) 2 else s.traceClosed n).syncBlk n := rfl
  generalize (if (s.traceClosed n).f (F.OME_STAT_STATE n) = 6 then (s.traceClosed n).setF (F.OME_STAT_STATE n) 2 else s.traceClosed n) = v
    at he hc2 hst hkeep hblk hbell
  have hne : R.OME_STAT n ∉ [R.BLK_STAT n] := by
    rw [List.mem_singleton, R.OME_STAT, R.BLK_STAT]
    omega
  rw [he]
  refine ⟨((Kept.refl v).syncBlk n).2 hc2, by rw [State.syncBlk_blk, hblk]; exact hr1, ?_, (State.syncBlk_bell ..).trans hbell, ?_,
    fun off hn => ?_⟩
  · rw [State.syncBlk_bl, State.bl, hblk, ← State.bl, hb1]
  · exact ((v.syncBlk_keeps n).f (x := F.OME_STAT_STATE n) hne).trans hst
  · exact (v.syncBlk_keeps n off fun hm => hn (List.mem_cons_of_mem _ hm)).trans
      ((hkeep off fun hm => hn (List.mem_cons.2 (.inl (List.mem_singleton.1 hm)))).trans (hf1 off))

/-- What a committed trace stores (R355). -/
def traceItems (n trig ok : Nat) (found : TraceFound) : List (Fld × Nat) :=
  [(F.CROWN_DLY_TX_DLY n, found.txDly.toNat), (F.CROWN_DLY_RX_DLY n, found.rxDly.toNat), (F.GRID_STAT_LINE23_OFS n, found.line23.toNat),
    (F.BLK_STAT_TRACE_AGE n, 0), (F.BLK_STAT_TRACE_OK n, ok), (F.BLK_LAST_CHAN n, 0x4000), (F.BLK_LAST_RESULT n, 0), (F.BLK_LAST_TRIGGER n, trig)]

/-- A committed trace that no command waits for. -/
theorem State.traceTaken_quiet {b : Blk} (h : b.traceRuns = []) (us trig ok : Nat) (found : TraceFound) : s.traceTaken b n us trig ok found =
    ((s.bump (F.BLK_CNT_RUN n)).setFs (traceItems n trig ok found)).updBl n (fun b =>
      { b with traceFails := 0, traceTemp := some b.avg, traceAt := some s.bell, traceTried := some s.bell }) := by
  rw [State.traceTaken, h]
  rfl

theorem State.updBl_canonical {u : State} (h : u.canonical) (k : Nat) (g : Blk → Blk) : (u.updBl k g).canonical := ((Kept.refl u).updBl k g).2 h

/-- What a committed trace stores reads back, and its run is counted (R355, R357). -/
theorem traceItems_spec {u : State} (h : u.canonical) (n trig ok : Nat) (found : TraceFound) :
    let v := (u.bump (F.BLK_CNT_RUN n)).setFs (traceItems n trig ok found)
    v.f (F.BLK_CNT_RUN n) = min (u.f (F.BLK_CNT_RUN n) + 1) (2 ^ 32 - 1) ∧ v.f (F.BLK_LAST_CHAN n) = 0x4000 ∧ v.f (F.BLK_LAST_RESULT n) = 0 ∧
      v.f (F.CROWN_DLY_TX_DLY n) = found.txDly.toNat % 2 ^ (F.CROWN_DLY_TX_DLY n).width ∧ v.f (F.BLK_STAT_TRACE_AGE n) = 0 ∧
      v.f (F.BLK_STAT_TRACE_OK n) = ok % 2 ∧ v.f (F.OME_STAT_STATE n) = u.f (F.OME_STAT_STATE n) := by
  have hc : (u.bump (F.BLK_CNT_RUN n)).canonical := ((Kept.refl u).bump _ _).2 h
  have hcnt : ∀ e ∈ traceItems n trig ok found, (F.BLK_CNT_RUN n).apart e.1 := by
    simp [traceItems, Fld.apart, F.BLK_CNT_RUN, F.CROWN_DLY_TX_DLY, F.CROWN_DLY_RX_DLY, F.GRID_STAT_LINE23_OFS, F.BLK_STAT_TRACE_AGE,
      F.BLK_STAT_TRACE_OK, F.BLK_LAST_CHAN, F.BLK_LAST_RESULT, F.BLK_LAST_TRIGGER, R.BLK_CNT_RUN, R.CROWN_DLY, R.GRID_STAT, R.BLK_STAT, R.BLK_LAST]
  have hmode : ∀ e ∈ traceItems n trig ok found, (F.OME_STAT_STATE n).apart e.1 := by
    simp [traceItems, Fld.apart, F.OME_STAT_STATE, F.CROWN_DLY_TX_DLY, F.CROWN_DLY_RX_DLY, F.GRID_STAT_LINE23_OFS, F.BLK_STAT_TRACE_AGE,
      F.BLK_STAT_TRACE_OK, F.BLK_LAST_CHAN, F.BLK_LAST_RESULT, F.BLK_LAST_TRIGGER, R.OME_STAT, R.CROWN_DLY, R.GRID_STAT, R.BLK_STAT, R.BLK_LAST]
  have hat : ∀ (i : Nat) (y : Fld) (w : Nat), (traceItems n trig ok found)[i]? = some (y, w) → y.lo + y.width ≤ 32 →
      (∀ e ∈ (traceItems n trig ok found).drop (i + 1), y.apart e.1) →
      ((u.bump (F.BLK_CNT_RUN n)).setFs (traceItems n trig ok found)).f y = w % 2 ^ y.width := fun i y w hi hw hb => State.f_setFs_at hc _ i hi hw hb
  have hne : R.OME_STAT n ≠ R.BLK_CNT_RUN n := by
    unfold R.OME_STAT R.BLK_CNT_RUN
    omega
  refine ⟨?_, hat 5 _ _ rfl (by simp [F.BLK_LAST_CHAN]) ?_, hat 6 _ _ rfl (by simp [F.BLK_LAST_RESULT]) ?_,
    hat 0 _ _ rfl (by simp [F.CROWN_DLY_TX_DLY]) ?_, hat 3 _ _ rfl (by simp [F.BLK_STAT_TRACE_AGE]) ?_,
    hat 4 _ _ rfl (by simp [F.BLK_STAT_TRACE_OK]) ?_, ?_⟩
  · exact (State.f_setFs_ne hc _ hcnt).trans (State.f_bump_same h.rising (by simp [F.BLK_CNT_RUN]) 1)
  · simp [traceItems, Fld.apart, F.BLK_LAST_CHAN, F.BLK_LAST_RESULT, F.BLK_LAST_TRIGGER]
  · simp [traceItems, Fld.apart, F.BLK_LAST_RESULT, F.BLK_LAST_TRIGGER]
  · simp [traceItems, Fld.apart, F.CROWN_DLY_TX_DLY, F.CROWN_DLY_RX_DLY, F.GRID_STAT_LINE23_OFS, F.BLK_STAT_TRACE_AGE, F.BLK_STAT_TRACE_OK,
      F.BLK_LAST_CHAN, F.BLK_LAST_RESULT, F.BLK_LAST_TRIGGER, R.CROWN_DLY, R.GRID_STAT, R.BLK_STAT, R.BLK_LAST]
  · simp [traceItems, Fld.apart, F.BLK_STAT_TRACE_AGE, F.BLK_STAT_TRACE_OK, F.BLK_LAST_CHAN, F.BLK_LAST_RESULT, F.BLK_LAST_TRIGGER, R.BLK_STAT, R.BLK_LAST]
  · simp [traceItems, Fld.apart, F.BLK_STAT_TRACE_OK, F.BLK_LAST_CHAN, F.BLK_LAST_RESULT, F.BLK_LAST_TRIGGER, R.BLK_STAT, R.BLK_LAST]
  · exact (State.f_setFs_ne hc _ hmode).trans (State.f_setF_off (x := F.BLK_CNT_RUN n) hne _)

/-- What a rejected trace shows as the last run (R357). -/
def rejectItems (n trig : Nat) : List (Fld × Nat) := [(F.BLK_LAST_CHAN n, 0x4000), (F.BLK_LAST_RESULT n, 2), (F.BLK_LAST_TRIGGER n, trig)]

/-- A rejected trace that no command waits for, before the third in a row. -/
theorem State.traceKept_quiet {b : Blk} (h : b.traceRuns = []) (h2 : b.traceFails ≠ 2) (trig : Nat) (found : TraceFound) :
    s.traceKept b n trig found = ((s.bump (F.BLK_CNT_REJ n)).setFs (rejectItems n trig)).updBl n (fun b =>
      { b with traceFails := b.traceFails + 1, traceTemp := some b.avg, traceTried := some s.bell }) := by
  have h3 : ¬ b.traceFails + 1 = 3 := by omega
  rw [State.traceKept, h, if_neg h3]
  rfl

theorem rejectItems_spec {u : State} (h : u.canonical) (n trig : Nat) :
    let v := (u.bump (F.BLK_CNT_REJ n)).setFs (rejectItems n trig)
    v.f (F.BLK_CNT_REJ n) = min (u.f (F.BLK_CNT_REJ n) + 1) (2 ^ 32 - 1) ∧ v.f (F.BLK_LAST_RESULT n) = 2 ∧
      u.keepsRegs v [R.BLK_LAST n, R.BLK_CNT_REJ n] := by
  have hc : (u.bump (F.BLK_CNT_REJ n)).canonical := ((Kept.refl u).bump _ _).2 h
  have hcnt : ∀ e ∈ rejectItems n trig, (F.BLK_CNT_REJ n).apart e.1 := by
    simp [rejectItems, Fld.apart, F.BLK_CNT_REJ, F.BLK_LAST_CHAN, F.BLK_LAST_RESULT, F.BLK_LAST_TRIGGER, R.BLK_CNT_REJ, R.BLK_LAST]
  refine ⟨?_, ?_, fun off hn => ?_⟩
  · exact (State.f_setFs_ne hc _ hcnt).trans (State.f_bump_same h.rising (by simp [F.BLK_CNT_REJ]) 1)
  · exact State.f_setFs_at (v := 2) hc _ 1 rfl (by simp [F.BLK_LAST_RESULT]) (by simp [rejectItems, Fld.apart, F.BLK_LAST_RESULT, F.BLK_LAST_TRIGGER])
  · have hlast : (u.bump (F.BLK_CNT_REJ n)).keepsRegs _ [R.BLK_LAST n] := (u.bump (F.BLK_CNT_REJ n)).keepsRegs_setFs (rejectItems n trig)
      (by simp [rejectItems, F.BLK_LAST_CHAN, F.BLK_LAST_RESULT, F.BLK_LAST_TRIGGER])
    exact (hlast off fun hm => hn (List.mem_cons.2 (.inl (List.mem_singleton.1 hm)))).trans
      (State.rd_bump_ne (x := F.BLK_CNT_REJ n) (fun he => hn (List.mem_cons_of_mem _ (List.mem_singleton.2 he))) 1)

end

section
variable {n : Tile} {found : TraceFound} {s : State}

theorem exec_traceEnd (n : Tile) (found : TraceFound) (s : State) : exec (.referenceTraceEnd n found) s = execReferenceTraceEnd n found s := rfl

theorem exec_traceEnd_idle (h : (s.bl n.val).tracing = false ∨ (s.bl n.val).traceCrown = true) : exec (.referenceTraceEnd n found) s = .next s := by
  rw [exec_traceEnd, execReferenceTraceEnd]
  exact congrArg Host.Outcome.next (if_pos (by rcases h with h | h <;> simp [h]))

/-- Is the reference there for what a trace has found (R357)? -/
def State.traceRef (s : State) (n : Nat) : Nat := if s.b (F.GRID_STAT_REF_OK n) && !s.b F.CLK_STAT_HOLDOVER then 1 else 0

theorem exec_traceEnd_found (ht : (s.bl n.val).tracing = true) (hc : (s.bl n.val).traceCrown = false)
    (hf : found.crown = true ∧ found.ome = true ∧ found.other = true) : exec (.referenceTraceEnd n found) s =
      .next ((s.traceOver n.val).traceTaken (s.bl n.val) n.val (s.bell - (s.bl n.val).traceBegan) (s.bl n.val).traceTrig (s.traceRef n.val) found) := by
  obtain ⟨h1, h2, h3⟩ := hf
  rw [exec_traceEnd, execReferenceTraceEnd]
  exact congrArg Host.Outcome.next ((if_neg (by simp [ht, hc])).trans (if_pos (by simp [h1, h2, h3])))

theorem exec_traceEnd_missed (ht : (s.bl n.val).tracing = true) (hc : (s.bl n.val).traceCrown = false)
    (hf : found.crown = false ∨ found.ome = false ∨ found.other = false) : exec (.referenceTraceEnd n found) s =
      .next ((s.traceOver n.val).traceKept (s.bl n.val) n.val (s.bl n.val).traceTrig found) := by
  rw [exec_traceEnd, execReferenceTraceEnd]
  exact congrArg Host.Outcome.next ((if_neg (by simp [ht, hc])).trans (if_neg (by rcases hf with h | h | h <;> simp [h])))

/-- A trace that found everything, and that no command waits for. -/
theorem traceEnd_found_spec (h : s.canonical) (hr : Map.rising s.blk = true) (ht : (s.bl n.val).tracing = true)
    (hc : (s.bl n.val).traceCrown = false) (hq : (s.bl n.val).traceRuns = []) (hf : found.crown = true ∧ found.ome = true ∧ found.other = true) :
    ∃ u : State, exec (.referenceTraceEnd n found) s = .next u ∧
      (u.bl n.val).tracing = false ∧ (u.bl n.val).traceFails = 0 ∧ (u.bl n.val).traceAt = some s.bell ∧ (u.bl n.val).traceTemp = some (s.bl n.val).avg ∧
      u.f (F.BLK_CNT_RUN n.val) = min (s.f (F.BLK_CNT_RUN n.val) + 1) (2 ^ 32 - 1) ∧ u.f (F.BLK_LAST_CHAN n.val) = 0x4000 ∧
      u.f (F.BLK_LAST_RESULT n.val) = 0 ∧ u.f (F.CROWN_DLY_TX_DLY n.val) = found.txDly.toNat % 2 ^ (F.CROWN_DLY_TX_DLY n.val).width ∧
      u.f (F.BLK_STAT_TRACE_AGE n.val) = 0 ∧ u.f (F.BLK_STAT_TRACE_OK n.val) = s.traceRef n.val ∧
      u.f (F.OME_STAT_STATE n.val) = (if s.f (F.OME_STAT_STATE n.val) = 6 then 2 else s.f (F.OME_STAT_STATE n.val)) := by
  have hx := exec_traceEnd_found ht hc hf
  rw [State.traceTaken_quiet hq] at hx
  obtain ⟨hover, hrise, hbl, hbell, hst, hkeep⟩ := s.traceOver_spec h hr n.val
  obtain ⟨hrun, hchan, hres, hdly, hage, hok, hmode⟩ := traceItems_spec hover n.val (s.bl n.val).traceTrig (s.traceRef n.val) found
  have hblk : (((s.traceOver n.val).bump (F.BLK_CNT_RUN n.val)).setFs
      (traceItems n.val (s.bl n.val).traceTrig (s.traceRef n.val) found)).blk = (s.traceOver n.val).blk := (State.setFs_blk ..).trans (State.bump_blk ..)
  have hcnt : R.BLK_CNT_RUN n.val ∉ [R.OME_STAT n.val, R.BLK_STAT n.val] := by
    simp [R.BLK_CNT_RUN, R.OME_STAT, R.BLK_STAT]
  have hone : s.traceRef n.val % 2 = s.traceRef n.val := by
    unfold State.traceRef
    split <;> rfl
  rw [hkeep.f (x := F.BLK_CNT_RUN n.val) hcnt] at hrun
  generalize ((s.traceOver n.val).bump (F.BLK_CNT_RUN n.val)).setFs (traceItems n.val (s.bl n.val).traceTrig (s.traceRef n.val) found) = v
    at hx hrun hchan hres hdly hage hok hmode hblk
  have hbv : v.bl n.val = { s.bl n.val with tracing := false, traceRuns := [] } := by rw [State.bl, hblk, ← State.bl, hbl]
  refine ⟨_, hx, ?_⟩
  rw [State.bl_updBl (by rw [hblk]; exact hrise), hbv, hbell]
  exact ⟨rfl, rfl, rfl, rfl, (State.updBl_f ..).trans hrun, (State.updBl_f ..).trans hchan, (State.updBl_f ..).trans hres,
    (State.updBl_f ..).trans hdly, (State.updBl_f ..).trans hage, (State.updBl_f ..).trans (hok.trans hone), (State.updBl_f ..).trans (hmode.trans hst)⟩

/-- A trace that did not find everything, before the third in a row, and that no command waits for. -/
theorem traceEnd_missed_spec (h : s.canonical) (hr : Map.rising s.blk = true) (ht : (s.bl n.val).tracing = true)
    (hc : (s.bl n.val).traceCrown = false) (hq : (s.bl n.val).traceRuns = []) (hf : found.crown = false ∨ found.ome = false ∨ found.other = false)
    (h2 : (s.bl n.val).traceFails ≠ 2) : ∃ u : State, exec (.referenceTraceEnd n found) s = .next u ∧
      (u.bl n.val).tracing = false ∧ (u.bl n.val).traceFails = (s.bl n.val).traceFails + 1 ∧ u.f (F.BLK_LAST_RESULT n.val) = 2 ∧
      u.f (F.BLK_CNT_REJ n.val) = min (s.f (F.BLK_CNT_REJ n.val) + 1) (2 ^ 32 - 1) ∧
      s.keepsRegs u [R.OME_STAT n.val, R.BLK_STAT n.val, R.BLK_LAST n.val, R.BLK_CNT_REJ n.val] := by
  have hx := exec_traceEnd_missed ht hc hf
  rw [State.traceKept_quiet hq h2] at hx
  obtain ⟨hover, hrise, hbl, -, -, hkeep⟩ := s.traceOver_spec h hr n.val
  obtain ⟨hrej, hres, hregs⟩ := rejectItems_spec hover n.val (s.bl n.val).traceTrig
  have hblk : (((s.traceOver n.val).bump (F.BLK_CNT_REJ n.val)).setFs (rejectItems n.val (s.bl n.val).traceTrig)).blk = (s.traceOver n.val).blk :=
    (State.setFs_blk ..).trans (State.bump_blk ..)
  have hcnt : R.BLK_CNT_REJ n.val ∉ [R.OME_STAT n.val, R.BLK_STAT n.val] := by
    simp [R.BLK_CNT_REJ, R.OME_STAT, R.BLK_STAT]
  rw [hkeep.f (x := F.BLK_CNT_REJ n.val) hcnt] at hrej
  generalize ((s.traceOver n.val).bump (F.BLK_CNT_REJ n.val)).setFs (rejectItems n.val (s.bl n.val).traceTrig) = v at hx hrej hres hregs hblk
  have hbv : v.bl n.val = { s.bl n.val with tracing := false, traceRuns := [] } := by rw [State.bl, hblk, ← State.bl, hbl]
  refine ⟨_, hx, ?_⟩
  rw [State.bl_updBl (by rw [hblk]; exact hrise), hbv]
  refine ⟨rfl, rfl, (State.updBl_f ..).trans hres, (State.updBl_f ..).trans hrej, fun off hn => (State.updBl_rd ..).trans ?_⟩
  exact (hregs off fun hm => hn (List.mem_append_right [R.OME_STAT n.val, R.BLK_STAT n.val] hm)).trans
    (hkeep off fun hm => hn (List.mem_append_left [R.BLK_LAST n.val, R.BLK_CNT_REJ n.val] hm))

end

end Sys2Proof.Machine
end

section
/-! SUPPORT. Ageing: a tile's re-planning, a channel that enters Detention, and the commands of AGE_PLAN (R359, R360). -/

namespace Sys2Proof.Machine

/-! ### Re-planning (R359) -/

section
variable {s : State} {t : Nat}

/-- A journal entry of the policy leaves memories and registers. -/
theorem State.policy_leaves (s : State) (target off : Nat) (old new : Option (List Byte)) : Leaves (fun _ => True) s (s.policy target off old new) :=
  ⟨rfl, rfl, rfl, fun _ _ => rfl⟩

theorem State.policyReg_rd_same (h : s.canonical) (target off : Nat) (w : Word) : (s.policyReg target off w).rd off = w := by
  unfold State.policyReg
  split
  · next he => exact he
  · rw [(State.policy_leaves ..).rd off trivial, State.rd_wr_same h.rising]

theorem State.policyReg_leaves (s : State) (target off : Nat) (w : Word) : Leaves (fun _ => False) s (s.policyReg target off w) := by
  unfold State.policyReg
  split
  · exact .refl _ s
  · exact ((Leaves.refl _ s).wr id w).trans ((State.policy_leaves ..).mono fun _ h => h.elim)

/-- AGE_PLAN is as the fields of a re-planning make it. -/
theorem State.replan_rd (h : s.canonical) (t : Nat) (fs : List (Fld × Nat)) (v : Int) :
    (s.replan t fs v).rd (R.AGE_PLAN t) = fs.foldl (fun w x => x.1.ins w x.2) (s.rd (R.AGE_PLAN t)) := by
  unfold State.replan
  extract_lets w
  split
  · next he => exact he.symm
  · exact (State.note_rd _ _ _ _ _ _ (off := R.AGE_PLAN t) (tileReg_not_mem_log t 0x90030)).trans (State.policyReg_rd_same h _ _ w)

theorem State.replan_keepsMemory (s : State) (t : Nat) (fs : List (Fld × Nat)) (v : Int) : s.keepsMemory (s.replan t fs v) := by
  unfold State.replan
  extract_lets w
  split
  · exact fun _ => ⟨rfl, rfl, rfl⟩
  · exact ((s.policyReg_leaves _ _ w).note (fun _ hf => hf.elim) ..).keepsMemory

/-- A tile's fields of AGE_PLAN that a re-planning stores, and one that it leaves alone. -/
theorem State.replan_one (h : s.canonical) {x : Fld} (hx : x.off = R.AGE_PLAN t) (hw : x.lo + x.width ≤ 32) (a : Nat) (v : Int) :
    (s.replan t [(x, a)] v).f x = a % 2 ^ x.width := by
  rw [State.f, hx, State.replan_rd h]
  exact Fld.ext_ins x _ a hw

theorem State.replan_one_ne (h : s.canonical) {x y : Fld} (hy : y.off = R.AGE_PLAN t) (hxy : x.lo + x.width ≤ y.lo ∨ y.lo + y.width ≤ x.lo)
    (a : Nat) (v : Int) : (s.replan t [(x, a)] v).f y = s.f y := by
  rw [State.f, hy, State.replan_rd h, State.f, hy]
  exact Fld.ext_ins_ne x y _ a hxy

theorem State.replan_two (h : s.canonical) {x y : Fld} (hx : x.off = R.AGE_PLAN t) (hy : y.off = R.AGE_PLAN t) (hwx : x.lo + x.width ≤ 32)
    (hwy : y.lo + y.width ≤ 32) (hxy : y.lo + y.width ≤ x.lo ∨ x.lo + x.width ≤ y.lo) (a b : Nat) (v : Int) :
    (s.replan t [(x, a), (y, b)] v).f x = a % 2 ^ x.width ∧ (s.replan t [(x, a), (y, b)] v).f y = b % 2 ^ y.width := by
  constructor
  · rw [State.f, hx, State.replan_rd h]
    exact (Fld.ext_ins_ne y x _ b hxy).trans (Fld.ext_ins x _ a hwx)
  · rw [State.f, hy, State.replan_rd h]
    exact Fld.ext_ins y _ b hwy

end

section
variable {n : Tile} {s : State}

theorem exec_ageing (n : Tile) (m : AgeMeasure) (s : State) : exec (.ageingEvaluation n m) s = execAgeingEvaluation n m s := rfl

/-- A quiet memory, or a reserve tile's, keeps its rate. -/
theorem exec_ageing_memory_quiet {perHour : BitVec 32} (h : perHour.toNat ≤ 1000 ∨ isReserve n.val = true) :
    exec (.ageingEvaluation n (.memory perHour)) s = .next s := by
  rw [exec_ageing]
  exact if_pos (by rcases h with h | h <;> simp [h])

/-- An LPDDR5X package with too many corrected lines takes the next refresh rate, from the next reset. -/
theorem ageing_memory_spec {perHour : BitVec 32} (h : s.canonical) (hp : 1000 < perHour.toNat) (hr : isReserve n.val = false)
    (ht : s.f (F.MEM_STAT_TIER n.val) = 1) (hl : s.f (F.AGE_PLAN_LP_RATE n.val) < 2) :
    ∃ u : State, exec (.ageingEvaluation n (.memory perHour)) s = .next u ∧ u.f (F.AGE_PLAN_LP_RATE n.val) = s.f (F.AGE_PLAN_LP_RATE n.val) + 1 ∧
      u.f (F.AGE_PLAN_MEM_PENDING n.val) = 1 ∧ s.keepsMemory u := by
  have hx : exec (.ageingEvaluation n (.memory perHour)) s = .next (s.replan n.val
      [(F.AGE_PLAN_LP_RATE n.val, s.f (F.AGE_PLAN_LP_RATE n.val) + 1), (F.AGE_PLAN_MEM_PENDING n.val, 1)] (s.f (F.AGE_PLAN_LP_RATE n.val))) := by
    rw [exec_ageing]
    refine (if_neg (by simp [hr, hp])).trans ((if_pos ht).trans ?_)
    exact congrArg Host.Outcome.next (if_pos hl)
  obtain ⟨hrate, hpend⟩ := State.replan_two h (t := n.val) (x := F.AGE_PLAN_LP_RATE n.val) (y := F.AGE_PLAN_MEM_PENDING n.val) rfl rfl
    (by simp [F.AGE_PLAN_LP_RATE]) (by simp [F.AGE_PLAN_MEM_PENDING]) (.inr (by simp [F.AGE_PLAN_LP_RATE, F.AGE_PLAN_MEM_PENDING]))
    (s.f (F.AGE_PLAN_LP_RATE n.val) + 1) 1 (s.f (F.AGE_PLAN_LP_RATE n.val))
  exact ⟨_, hx, hrate.trans (Nat.mod_eq_of_lt (by simp only [F.AGE_PLAN_LP_RATE] at hl ⊢; omega)), hpend, s.replan_keepsMemory _ _ _⟩

/-- A weak pilot withdraws FP8x3, a weaker one FP8x2 too. -/
theorem ageing_pilot_spec (h : s.canonical) (worst : BitVec 16) : ∃ u : State, exec (.ageingEvaluation n (.pilot worst)) s = .next u ∧
    u.f (F.AGE_PLAN_SPLIT3_OFF n.val) = (if 80 < worst.toNat then 1 else s.f (F.AGE_PLAN_SPLIT3_OFF n.val)) ∧
    u.f (F.AGE_PLAN_SPLIT2_OFF n.val) = (if 120 < worst.toNat then 1 else s.f (F.AGE_PLAN_SPLIT2_OFF n.val)) ∧ s.keepsMemory u := by
  have hw3 : (F.AGE_PLAN_SPLIT3_OFF n.val).lo + (F.AGE_PLAN_SPLIT3_OFF n.val).width ≤ 32 := by simp [F.AGE_PLAN_SPLIT3_OFF]
  have hw2 : (F.AGE_PLAN_SPLIT2_OFF n.val).lo + (F.AGE_PLAN_SPLIT2_OFF n.val).width ≤ 32 := by simp [F.AGE_PLAN_SPLIT2_OFF]
  have hap : (F.AGE_PLAN_SPLIT3_OFF n.val).lo + (F.AGE_PLAN_SPLIT3_OFF n.val).width ≤ (F.AGE_PLAN_SPLIT2_OFF n.val).lo := by
    simp [F.AGE_PLAN_SPLIT3_OFF, F.AGE_PLAN_SPLIT2_OFF]
  rw [exec_ageing]
  by_cases h120 : 120 < worst.toNat
  · have h80 : 80 < worst.toNat := by omega
    obtain ⟨h3, h2⟩ := State.replan_two h (t := n.val) rfl rfl hw3 hw2 (.inr hap) 1 1 worst.toNat
    rw [if_pos h80, if_pos h120]
    exact ⟨_, if_pos h120, h3, h2, s.replan_keepsMemory _ _ _⟩
  by_cases h80 : 80 < worst.toNat
  · rw [if_pos h80, if_neg h120]
    exact ⟨_, (if_neg h120).trans (if_pos h80), State.replan_one h rfl hw3 1 worst.toNat,
      State.replan_one_ne h (t := n.val) rfl (.inl hap) 1 worst.toNat, s.replan_keepsMemory _ _ _⟩
  · rw [if_neg h80, if_neg h120]
    exact ⟨_, (if_neg h120).trans (if_neg h80), rfl, rfl, fun _ => ⟨rfl, rfl, rfl⟩⟩

end

/-! ### A Crown ring that enters Detention (R350, R359) -/

section
variable {s : State}

theorem State.note_blk (s : State) (g : Nat) (e : RecEv) (sev source : Nat) (v : Int) : (s.note g e sev source v).blk = s.blk := by
  rw [(s.note_logged g e sev source v).1]

theorem State.raise_blk (s : State) (a bit : Nat) : (s.raise a bit).blk = s.blk := by
  rw [(s.raise_faulted a bit 0 false).1]

theorem State.markDead_blk (s : State) (t tx rx : Nat) : (s.markDead t tx rx).blk = s.blk := by
  have hplanes : ((s.setFs [(F.CROWN_DEAD_TX_DEAD t, tx), (F.CROWN_DEAD_RX_DEAD t, rx)]).each (List.range 16) (fun s pl =>
      s.setFs [(F.CROWN_PLANE_TX_OK t pl, 1 - tx / 2 ^ pl % 2), (F.CROWN_PLANE_RX_OK t pl, 1 - rx / 2 ^ pl % 2)])).blk = s.blk :=
    (State.each_keeps State.blk _ _ _ fun _ _ => State.setFs_blk ..).trans (State.setFs_blk ..)
  rw [State.markDead]
  split
  · exact (State.raise_blk ..).trans hplanes
  · exact hplanes

/-- Showing a tile's channels in Detention does not change them. -/
theorem State.showDetention_blk (s : State) (t : Nat) : (s.showDetention t).blk = s.blk := by
  have hone : ∀ (unit use : Fld) (k : Nat) (d : Option Nat) (u : State), (match d with
      | some c => u.setFs [(unit, c), (use, 2)]
      | none => if u.f use = 2 then u.setFs [(unit, k), (use, 0)] else u).blk = u.blk := by
    intro unit use k d u
    split
    · exact State.setFs_blk ..
    · split
      · exact State.setFs_blk ..
      · rfl
  unfold State.showDetention
  refine (State.updOme_blk ..).trans ((State.each_keeps State.blk _ _ _ fun _ _ => State.setF_blk ..).trans
    ((State.each_keeps State.blk _ _ _ fun _ _ => State.setF_blk ..).trans ((State.setF_blk ..).trans ?_)))
  exact (hone ..).trans ((hone ..).trans ((hone ..).trans (State.setFs_blk ..)))

theorem State.policyNote_blk (s : State) (target : Nat) : (s.policyNote target).blk = s.blk := rfl

/-- The journal entry, the record and the marks of a channel's Detention do not change the channels. -/
theorem State.shown_blk (s : State) (t tgt sev src : Nat) (v : Int) :
    ((((s.policyNote tgt).note 0x7 .detention sev src v).showDetention t).syncBlk t).blk = s.blk := by
  rw [State.syncBlk_blk, State.showDetention_blk, State.note_blk, State.policyNote_blk]

theorem State.detained_of_blk {s u : State} (h : u.blk = s.blk) (t c : Nat) : u.detained t c = s.detained t c := by
  rw [State.detained, State.detained, State.bl, State.bl, h]

/-- A channel put on the list of those in Detention is in Detention. -/
theorem State.updBl_detained {s : State} {t c : Nat} {g : Blk → Blk} (hg : (g (s.bl t)).detained = (s.bl t).detained ++ [c]) :
    (s.updBl t g).detained t c = true := by
  rw [State.detained, State.bl_updBl_same fun hd => by rw [hd] at hg; exact List.append_ne_nil_of_right_ne_nil _ (List.cons_ne_nil c []) hg.symm, hg]
  simp

/-- A Crown channel put in Detention is in Detention. -/
theorem State.detain_crown {s : State} {t c : Nat} (hc : c / 4096 = 1) : (s.detain t c).detained t c = true := by
  rw [State.detain]
  split
  · next h => exact h
  · extract_lets s1 s2
    have h1 : s1.detained t c = true := State.updBl_detained rfl
    have h2 : s2.blk = s1.blk := s1.shown_blk ..
    clear_value s1 s2
    simp only [hc]
    rw [State.detained_of_blk ((s2.markDead_blk ..).trans h2), h1]

/-- A ring of the Crown without headroom: its channel's runs end, and it enters Detention. -/
theorem ageing_ring_spec {n : Tile} {chan : BitVec 16} {head : BitVec 8} (hh : head.toNat < 20) (h1 : 0x1000 ≤ chan.toNat)
    (h2 : chan.toNat < 0x1010) : ∃ u : State, exec (.ageingEvaluation n (.ring chan head)) s = .next u ∧ u.detained n.val chan.toNat = true := by
  have hc : chan.toNat / 4096 = 1 := by omega
  have hok : chanOk chan.toNat = true := by
    unfold chanOk
    rw [hc]
    exact decide_eq_true (by omega)
  have hx : exec (.ageingEvaluation n (.ring chan head)) s =
      .next ((s.abortRuns n.val (fun r => r.chan == chan.toNat)).detain n.val chan.toNat) := by
    rw [exec_ageing]
    exact (if_neg (by simp [hok]; omega)).trans (if_neg (by omega))
  exact ⟨_, hx, State.detain_crown hc⟩

theorem exec_ageing_ring_sound {n : Tile} {chan : BitVec 16} {head : BitVec 8} (h : 20 ≤ head.toNat ∨ chanOk chan.toNat = false) :
    exec (.ageingEvaluation n (.ring chan head)) s = .next s := by
  rw [exec_ageing]
  exact if_pos (by rcases h with h | h <;> simp [h])

end

/-! ### AGE_REPLAN_RESET and AGE_QUERY (R359, R360) -/

/-- The rate floors of a tile's ports, those that a mask names taken back. -/
def freedRates (m v : Nat) : Nat := (List.range 3).foldl (fun v i => if m.testBit i then floorWith v i 0 else v) v

theorem floorWith_zero_le (v i : Nat) : floorWith v i 0 ≤ v := by
  rw [floorWith, Nat.zero_mul, Nat.add_zero]
  exact Nat.sub_le ..

theorem freedRates_le (m v : Nat) : freedRates m v ≤ v := by
  refine List.foldlRecOn (motive := (· ≤ v)) _ _ (Nat.le_refl v) fun u hu i _ => ?_
  split
  · exact Nat.le_trans (floorWith_zero_le u i) hu
  · exact hu

/-- Taking back one port's floor leaves the others'. -/
theorem floorWith_zero_digit (v : Nat) {i j : Nat} (hi : i < 3) (hj : j < 3) :
    floorWith v j 0 / 4 ^ i % 4 = if j = i then 0 else v / 4 ^ i % 4 := by
  unfold floorWith
  interval_cases i <;> interval_cases j <;> simp <;> omega

theorem freedRates_digit (m v : Nat) {i : Nat} (hi : i < 3) : freedRates m v / 4 ^ i % 4 = if m.testBit i then 0 else v / 4 ^ i % 4 := by
  have hstep : ∀ u j, j < 3 → (if m.testBit j then floorWith u j 0 else u) / 4 ^ i % 4 = if j = i ∧ m.testBit j = true then 0 else u / 4 ^ i % 4 := by
    intro u j hj
    by_cases hb : m.testBit j = true
    · simp only [hb, if_true, and_true, floorWith_zero_digit u hi hj]
    · simp only [hb, if_false, and_false, Bool.false_eq_true]
  have hfold : freedRates m v = (fun u j => if m.testBit j then floorWith u j 0 else u)
      ((fun u j => if m.testBit j then floorWith u j 0 else u) ((fun u j => if m.testBit j then floorWith u j 0 else u) v 0) 1) 2 := rfl
  rw [hfold, hstep _ 2 (by decide), hstep _ 1 (by decide), hstep _ 0 (by decide)]
  interval_cases i <;> simp

/-- The memory refresh rates of a tile's AGE_PLAN go back: to those in force while a change waits for a reset, else to 0 at the next. -/
def State.cancelRates (s : State) (u : Nat) : State :=
  if s.b (F.AGE_PLAN_MEM_PENDING u) then
    s.setFs [(F.AGE_PLAN_HBM_RATE u, (s.bl u).memRate.1), (F.AGE_PLAN_LP_RATE u, (s.bl u).memRate.2), (F.AGE_PLAN_MEM_PENDING u, 0)]
  else s.setFs [(F.AGE_PLAN_HBM_RATE u, 0), (F.AGE_PLAN_LP_RATE u, 0), (F.AGE_PLAN_MEM_PENDING u, if (s.bl u).memRate = (0, 0) then 0 else 1)]

/-- The rates of the tile's package, or of its stack, go back. -/
def State.cancelMemory (s : State) (t : Nat) : State :=
  if s.f (F.MEM_STAT_TIER t) = 1 || !isMemTile t then s.cancelRates t else s.each (stackTiles t) State.cancelRates

/-- The rate floors that a mask names are taken back, and the splits where its bit 3 says so. -/
def State.freeRates (s : State) (t m : Nat) : State :=
  (s.setF (F.AGE_PLAN_PORT_RATE t) (freedRates m (s.f (F.AGE_PLAN_PORT_RATE t)))).setFs
    (if m.testBit 3 then [(F.AGE_PLAN_SPLIT3_OFF t, 0), (F.AGE_PLAN_SPLIT2_OFF t, 0)] else [])

/-- AGE_REPLAN_RESET: what its mask names. -/
def State.replanReset (s : State) (t m : Nat) : State := if m.testBit 4 then (s.freeRates t m).cancelMemory t else s.freeRates t m

theorem ageReplanReset_act (s : State) (p : Packet) (o id : Nat) :
    ageReplanResetDef.act s p o id = .now (s.replanReset p.unit (p.w 0)) stOk 0 [] (paramChange p) := rfl

section
variable {s : State} {t : Nat} {y : Fld}

/-- A field of AGE_PLAN, or of another register, that is not of the memory rates. -/
def Fld.beside (y : Fld) : Prop := y.lo + y.width ≤ 6 ∨ 10 ≤ y.lo ∧ y.lo + y.width ≤ 12

theorem Fld.beside.apart (h : y.beside) (u : Nat) : y.apart (F.AGE_PLAN_HBM_RATE u) ∧ y.apart (F.AGE_PLAN_LP_RATE u) ∧
    y.apart (F.AGE_PLAN_MEM_PENDING u) := by
  simp only [Fld.beside] at h
  simp only [Fld.apart, F.AGE_PLAN_HBM_RATE, F.AGE_PLAN_LP_RATE, F.AGE_PLAN_MEM_PENDING]
  omega

theorem State.cancelRates_f (hs : s.canonical) (h : y.beside) (u : Nat) : (s.cancelRates u).canonical ∧ (s.cancelRates u).f y = s.f y := by
  obtain ⟨h1, h2, h3⟩ := h.apart u
  unfold State.cancelRates
  split
  · exact ⟨State.setFs_canonical hs _, State.f_setFs_ne hs _ (by simp [h1, h2, h3])⟩
  · exact ⟨State.setFs_canonical hs _, State.f_setFs_ne hs _ (by simp [h1, h2, h3])⟩

theorem State.cancelMemory_f (hs : s.canonical) (h : y.beside) (t : Nat) : (s.cancelMemory t).f y = s.f y := by
  have hall : ∀ l : List Nat, (s.each l State.cancelRates).canonical ∧ (s.each l State.cancelRates).f y = s.f y := fun l => by
    refine List.foldlRecOn (motive := fun u : State => u.canonical ∧ u.f y = s.f y) _ _ ⟨hs, rfl⟩ fun u hu k _ => ?_
    obtain ⟨hc, hf⟩ := State.cancelRates_f hu.1 h k
    exact ⟨hc, hf.trans hu.2⟩
  unfold State.cancelMemory
  split
  · exact (State.cancelRates_f hs h t).2
  · exact (hall _).2

theorem State.freeRates_canonical (hs : s.canonical) (t m : Nat) : (s.freeRates t m).canonical :=
  State.setFs_canonical (State.setF_canonical hs _ _) _

theorem State.replanReset_f (hs : s.canonical) (h : y.beside) (t m : Nat) : (s.replanReset t m).f y = (s.freeRates t m).f y := by
  unfold State.replanReset
  split
  · exact State.cancelMemory_f (s.freeRates_canonical hs t m) h t
  · rfl

theorem State.freeRates_spec (hs : s.canonical) (t m : Nat) :
    (m.testBit 3 = true → (s.freeRates t m).f (F.AGE_PLAN_SPLIT3_OFF t) = 0 ∧ (s.freeRates t m).f (F.AGE_PLAN_SPLIT2_OFF t) = 0) ∧
    (m.testBit 3 = false → (s.freeRates t m).f (F.AGE_PLAN_SPLIT3_OFF t) = s.f (F.AGE_PLAN_SPLIT3_OFF t)) ∧
    (s.freeRates t m).f (F.AGE_PLAN_PORT_RATE t) = freedRates m (s.f (F.AGE_PLAN_PORT_RATE t)) := by
  have h1 := State.setF_canonical hs (F.AGE_PLAN_PORT_RATE t) (freedRates m (s.f (F.AGE_PLAN_PORT_RATE t)))
  refine ⟨fun hb => ?_, fun hb => ?_, ?_⟩
  · rw [State.freeRates, if_pos hb]
    exact ⟨State.f_setFs_at (v := 0) h1 _ 0 rfl (by simp [F.AGE_PLAN_SPLIT3_OFF]) (by simp [Fld.apart, F.AGE_PLAN_SPLIT3_OFF, F.AGE_PLAN_SPLIT2_OFF]),
      State.f_setFs_at (v := 0) h1 _ 1 rfl (by simp [F.AGE_PLAN_SPLIT2_OFF]) (by simp)⟩
  · rw [State.freeRates, if_neg (by rw [hb]; decide)]
    exact State.f_setF_ne hs (.inr (.inl (by simp [F.AGE_PLAN_PORT_RATE, F.AGE_PLAN_SPLIT3_OFF]))) _
  · have hlt : freedRates m (s.f (F.AGE_PLAN_PORT_RATE t)) < 2 ^ (F.AGE_PLAN_PORT_RATE t).width :=
      Nat.lt_of_le_of_lt (freedRates_le ..) (s.f_lt _)
    refine (State.f_setFs_ne h1 _ ?_).trans ((State.f_setF_same hs.rising _ _ (by simp [F.AGE_PLAN_PORT_RATE])).trans (Nat.mod_eq_of_lt hlt))
    split <;> simp [Fld.apart, F.AGE_PLAN_PORT_RATE, F.AGE_PLAN_SPLIT3_OFF, F.AGE_PLAN_SPLIT2_OFF]

end

section
variable {p : Packet} {s : State} {o : Nat}

/-- An accepted command starts from a canonical state. -/
theorem State.begun_canonical (h : s.canonical) (p : Packet) : (s.begun p).canonical := by
  unfold State.begun
  split
  · exact ((Kept.refl s).post ..).2 h
  · exact h

theorem ageReplanReset_spec (h : s.canonical) (ha : s.accepts ageReplanResetDef p o) :
    let b := s.begun p
    ∃ u : State, exec (.ageReplanReset p) s = .next (u.conclude 0x710 o true p stOk 0 [] (paramChange p) (undoOf b u)) ∧
      ((p.w 0).testBit 3 = true → u.f (F.AGE_PLAN_SPLIT3_OFF p.unit) = 0 ∧ u.f (F.AGE_PLAN_SPLIT2_OFF p.unit) = 0) ∧
      ((p.w 0).testBit 3 = false → u.f (F.AGE_PLAN_SPLIT3_OFF p.unit) = b.f (F.AGE_PLAN_SPLIT3_OFF p.unit)) ∧
      ∀ i < 3, u.f (F.AGE_PLAN_PORT_RATE p.unit) / 4 ^ i % 4 = if (p.w 0).testBit i then 0 else b.f (F.AGE_PLAN_PORT_RATE p.unit) / 4 ^ i % 4 := by
  intro b
  have hb : b.canonical := State.begun_canonical h p
  have hx : exec (.ageReplanReset p) s = .next (runCmd ageReplanResetDef p s) := rfl
  obtain ⟨hset, hkept, hrate⟩ := State.freeRates_spec hb p.unit (p.w 0)
  have hf := fun {y : Fld} (hy : y.beside) => State.replanReset_f hb hy p.unit (p.w 0)
  have h3 := hf (y := F.AGE_PLAN_SPLIT3_OFF p.unit) (.inr (by simp [F.AGE_PLAN_SPLIT3_OFF]))
  have h2 := hf (y := F.AGE_PLAN_SPLIT2_OFF p.unit) (.inr (by simp [F.AGE_PLAN_SPLIT2_OFF]))
  have hp := hf (y := F.AGE_PLAN_PORT_RATE p.unit) (.inl (by simp [F.AGE_PLAN_PORT_RATE]))
  refine ⟨b.replanReset p.unit (p.w 0), ?_, fun h => ?_, fun h => ?_, fun i hi => ?_⟩
  · rw [hx, runCmd_accepted ha, ageReplanReset_act]
    rfl
  · rw [h3, h2]
    exact hset h
  · rw [h3]
    exact hkept h
  · rw [hp, hrate]
    exact freedRates_digit _ _ hi

theorem ageQuery_answers (ha : s.accepts ageQueryDef p o) :
    exec (.ageQuery p) s = .next ((s.begun p).replies p (leBytes 4 ((s.begun p).rd (R.AGE_PLAN p.unit)).toNat)) := by
  have hx : exec (.ageQuery p) s = .next (runCmd ageQueryDef p s) := rfl
  have hact : ageQueryDef.act (s.begun p) p o (s.begun p).proctor.nextId =
    .now (s.begun p) stOk 0 (leBytes 4 ((s.begun p).rd (R.AGE_PLAN p.unit)).toNat) [] := rfl
  rw [hx, runCmd_accepted ha, hact]
  exact congrArg Host.Outcome.next (State.conclude_plain _ rfl (by decide))

end

end Sys2Proof.Machine

open Sys2Proof Sys2Proof.Machine

/-- Settles O55: a trace from its request to its end, then each ageing measure and the two commands of AGE_PLAN. -/
theorem tracesAndAgeing : Obligations.TracesAndAgeing := by
  unfold Obligations.TracesAndAgeing
  refine ⟨fun n s hr => ⟨exec_traceDue_idle, fun he ht hw => ⟨fun x hx hd => ?_, fun hx hy => ?_⟩, exec_traceCrownEnd_idle,
      fun h hc => traceCrownEnd_spec h hr hc⟩,
    fun n found s h hr => ⟨exec_traceEnd_idle, fun ht hc hq => ⟨fun h1 h2 h3 => ?_, fun hf h2 => ?_⟩⟩,
    fun n s h => ⟨fun c days => rfl, fun chan head => ⟨exec_ageing_ring_sound, fun hh h1 h2 _ => ageing_ring_spec hh h1 h2⟩,
      fun perHour => ⟨exec_ageing_memory_quiet, ageing_memory_spec h⟩, ageing_pilot_spec h, fun i => rfl⟩,
    fun p s o h => ⟨ageReplanReset_spec h, ageQuery_answers⟩⟩
  · exact wantTrace_waits hr hw (exec_traceDue_hot he ht hx hd)
  · obtain ⟨u, hu, hdue, -, hkeep⟩ := wantTrace_waits hr hw (exec_traceDue_first he ht hx hy)
    exact ⟨u, hu, hdue, hkeep⟩
  · exact traceEnd_found_spec h hr ht hc hq ⟨h1, h2, h3⟩
  · exact traceEnd_missed_spec h hr ht hc hq hf h2
end

section
/-! SUPPORT. What a FAM lookup leaves alone, and reads and stores in clean memory (R214, R217, R222, R252, R256, R258). -/

namespace Sys2Proof.Machine

/-! ### Lookups (R217) -/

/-- `u` is `s` but for the FAM caches and the two counters of tile t's lookups. -/
structure Looked (t : Nat) (s u : State) : Prop where
  frame : u = { s with regs := u.regs, pool := { s.pool with cache := u.pool.cache } }
  keeps : s.keepsRegs u [R.FAMC_CNT_HIT t, R.FAMC_CNT_MISS t]

section
variable {s u s1 : State} {t a n : Nat} {w : Bool}

theorem Looked.refl (t : Nat) (s : State) : Looked t s s := ⟨rfl, fun _ _ => rfl⟩

theorem Looked.dram (h : Looked t s u) : u.dram = s.dram := by rw [h.frame]

theorem Looked.host (h : Looked t s u) : u.host = s.host := by rw [h.frame]

theorem Looked.sq (h : Looked t s u) : u.sq = s.sq := by rw [h.frame]

theorem Looked.out (h : Looked t s u) : u.out = s.out := by rw [h.frame]

theorem Looked.keepsMemory (h : Looked t s u) : s.keepsMemory u := fun a => by
  rw [h.sq, h.host, h.dram]
  exact ⟨rfl, rfl, rfl⟩

theorem Looked.trans {v : State} (h : Looked t s u) (k : Looked t u v) : Looked t s v :=
  ⟨by rw [k.frame, h.frame], h.keeps.trans k.keeps⟩

/-- A counter of the tile's cache moves. -/
theorem Looked.count (h : Looked t s u) {x : Fld} (hx : x.off = R.FAMC_CNT_HIT t ∨ x.off = R.FAMC_CNT_MISS t) (n : Nat) :
    Looked t s (u.bump x n) :=
  h.trans ⟨rfl, (u.keepsRegs_setF x _).mono (by simpa using hx)⟩

theorem State.lookup_looked (s : State) (t i : Nat) : Looked t s (s.lookup t i).2 := by
  have hcount (u : State) (hu : Looked t s u) := hu.count (x := F.FAMC_CNT_HIT t) (.inl rfl) 1
  have hmiss (u : State) (hu : Looked t s u) := hu.count (x := F.FAMC_CNT_MISS t) (.inr rfl) 1
  unfold State.lookup
  dsimp only
  split
  · exact hcount _ ⟨rfl, fun _ _ => rfl⟩
  · split
    · exact hmiss _ ⟨rfl, fun _ _ => rfl⟩
    · exact hmiss _ (.refl t s)

/-! ### Addresses resolved (R222) -/

theorem State.resolve_looked (s : State) (t a n : Nat) (w : Bool) : Looked t s (s.resolve t a n w).2 := by
  have h := s.lookup_looked t (addrIndex a)
  unfold State.resolve
  split
  · exact .refl t s
  · split
    · next hl => rwa [hl] at h
    · next hl =>
      rw [hl] at h
      split_ifs <;> exact h

theorem Looked.of_resolve {r : Resolved} (h : s.resolve t a n w = (r, s1)) : Looked t s s1 := by
  have hl := s.resolve_looked t a n w
  rwa [h] at hl

/-- A resolved place is the byte of its entry's frame. -/
theorem State.resolve_place {mt key : Nat} {e : FamEntry} (h : s.resolve t a n w = (.at_ mt key e, s1)) :
    mt = e.tile ∧ key = dramKey e.tile e.frame (addrByte a) := by
  unfold State.resolve at h
  split at h
  · simp at h
  · split at h
    · simp at h
    · split_ifs at h <;> simp only [Prod.mk.injEq, reduceCtorEq, false_and, Resolved.at_.injEq] at h
      obtain ⟨⟨rfl, rfl, rfl⟩, -⟩ := h
      exact ⟨rfl, rfl⟩

end

/-! ### Memory read and stored (R222, R256, R258) -/

section
variable {s : State} {mt key n : Nat} {bs : List Byte}

theorem State.fetch_clean (hm : s.memDown mt = false) (hp : (linesOf key n).any s.poisoned = false) :
    s.fetch mt key n = .ok (Memory.read s.dram key n) := by
  simp only [State.fetch, hm, hp, Bool.false_eq_true, if_false]

theorem State.fetch_fails (h : s.memDown mt = true ∨ (linesOf key n).any s.poisoned = true) : s.fetch mt key n = .error stFault := by
  unfold State.fetch
  rcases h with h | h
  · rw [if_pos h]
  · rw [if_pos h, ite_self]

/-- Bytes stored where no line is poisoned clear no poison. -/
theorem State.store_clean (hb : bs ≠ []) (hm : s.memDown mt = false) (hg : s.gated mt = false)
    (hp : (linesOf key bs.length).any s.poisoned = false) :
    s.store mt key bs = .ok (({ s with dram := Memory.write s.dram key bs }).markDirty key bs.length) := by
  have hls : (linesOf key bs.length).filter s.poisoned = [] := List.filter_eq_nil_iff.2 (by simpa using hp)
  have he : bs.isEmpty = false := by simpa using hb
  simp only [State.store, he, hm, hg, hls, Bool.false_eq_true, if_false, List.any_nil, List.foldl_nil]

/-- A state that a write of `bs` at `key` leaves: the bytes read back, and no other byte of any memory changes. -/
structure Stores (key : Nat) (bs : List Byte) (s u : State) : Prop where
  dram : u.dram = Memory.write s.dram key bs
  host : u.host = s.host
  sq : u.sq = s.sq

theorem Stores.reads {u : State} (h : Stores key bs s u) (hs : s.canonical) :
    Memory.read u.dram key bs.length = bs ∧ (∀ b, b < key ∨ key + bs.length ≤ b → Memory.byte u.dram b = Memory.byte s.dram b) := by
  rw [h.dram]
  exact ⟨Memory.read_write hs.2.2.2 key bs, fun b hb => Memory.byte_write_outside s.dram key bs b hb⟩

/-- What a lookup and a store of bytes in clean memory leave. -/
theorem Looked.stores {t : Nat} {s1 : State} (h : Looked t s s1) (key : Nat) (bs : List Byte) :
    Stores key bs s (({ s1 with dram := Memory.write s1.dram key bs }).markDirty key bs.length) :=
  ⟨congrArg (Memory.write · key bs) h.dram, h.host, h.sq⟩

end

/-! ### CXL.mem (R263, R264) -/

/-- The answer to a host's read: the bytes, or poison where there are none. -/
def State.cxlAnswer (n : Fin 2) (r : Option (List Byte) × State) : State := r.2.emit (.cxlData n.val r.1.isNone (r.1.getD []))

section
variable {s s1 : State} {n : Fin 2} {t a mt key : Nat} {e : FamEntry} {bytes : List Byte} {dpa : BitVec 64}

theorem State.eccAt_clean (s : State) (a n : Nat) : s.eccAt a n .clean = s := ite_self s

theorem State.cxlFetch_at (h : s.resolve t a 64 false = (.at_ mt key e, s1)) : s.cxlFetch t a = ((s1.fetch mt key 64).toOption, s1) := by
  unfold State.cxlFetch
  rw [h]
  dsimp only
  split
  · next hf => rw [hf]; rfl
  · next hf => rw [hf]; rfl

theorem State.cxlFetch_bad {st : Nat} (h : s.resolve t a 64 false = (.bad st, s1)) : s.cxlFetch t a = (none, s1) := by
  unfold State.cxlFetch
  rw [h]

theorem State.cxlFetch_noCopy (h : s.resolve t a 64 false = (.noCopy, s1)) : s.cxlFetch t a = (none, s1) := by
  unfold State.cxlFetch
  rw [h]

/-- A host's read of a DPA of the pool, in an awake tile's memory. -/
theorem exec_cxlMemRead (he : s.b (F.CXL_PHY_STAT_MEM_EN n.val) = true) (hf : s.twinState ≠ 6) (hd : dpa.toNat / 64 * 64 < 2 ^ 42)
    (hw : s.waitsForTile (s.fabricAddr (dpa.toNat / 64 * 64)) = none) :
    exec (.cxlMemRead n dpa .clean) s = .next (State.cxlAnswer n (s.cxlFetch (cxlTile n) (s.fabricAddr (dpa.toNat / 64 * 64)))) := by
  have hx : exec (.cxlMemRead n dpa .clean) s = execCxlMemRead n dpa .clean s := rfl
  have hdec : (decide (s.twinState = 6) || decide (2 ^ 42 ≤ dpa.toNat / 64 * 64)) = false := by
    simp only [hf, decide_false, Bool.false_or, decide_eq_false_iff_not]
    omega
  rw [hx]
  simp only [execCxlMemRead, he, hdec, hw, State.eccAt_clean, Bool.not_true, Bool.false_eq_true, if_false]
  generalize s.cxlFetch (cxlTile n) _ = r
  obtain ⟨_ | bs, s1⟩ := r <;> rfl

/-- A FENCED module and a DPA beyond the pool answer poison. -/
theorem exec_cxlMemRead_poison (he : s.b (F.CXL_PHY_STAT_MEM_EN n.val) = true) (h : s.twinState = 6 ∨ 2 ^ 42 ≤ dpa.toNat / 64 * 64) (ecc : Ecc) :
    exec (.cxlMemRead n dpa ecc) s = .next (s.emit (.cxlData n.val true [])) := by
  have hx : exec (.cxlMemRead n dpa ecc) s = execCxlMemRead n dpa ecc s := rfl
  have hdec : (decide (s.twinState = 6) || decide (2 ^ 42 ≤ dpa.toNat / 64 * 64)) = true := by simpa using h
  rw [hx]
  simp only [execCxlMemRead, he, hdec, Bool.not_true, Bool.false_eq_true, if_false, if_true]

/-- A host's write of a module that acts and mirrors nothing, to an awake tile's memory. -/
theorem exec_cxlMemWrite (he : s.b (F.CXL_PHY_STAT_MEM_EN n.val) = true) (hb : bytes ≠ []) (hl : dpa.toNat % 64 + bytes.length ≤ 64)
    (hd : dpa.toNat < 2 ^ 42) (hn : s.notHolder = false) (hm : s.mirrors = false) (hw : s.waitsForTile (s.fabricAddr dpa.toNat) = none) :
    exec (.cxlMemWrite n dpa bytes) s = .next (s.cxlStore n (s.fabricAddr dpa.toNat) bytes none) := by
  have hx : exec (.cxlMemWrite n dpa bytes) s = execCxlMemWrite n dpa bytes s := rfl
  have hemp : bytes.isEmpty = false := by simpa using hb
  rw [hx]
  simp only [execCxlMemWrite, he, hemp, decide_eq_false (Nat.not_lt.2 hl), hn, if_neg (Nat.not_le.2 hd), hw, State.mirrorIf, hm, Bool.not_true,
    Bool.or_self, Bool.false_eq_true, if_false]

/-- A module without the Hall Pass loses a host's write. -/
theorem exec_cxlMemWrite_lost (he : s.b (F.CXL_PHY_STAT_MEM_EN n.val) = true) (hb : bytes ≠ []) (hl : dpa.toNat % 64 + bytes.length ≤ 64)
    (hn : s.notHolder = true) :
    exec (.cxlMemWrite n dpa bytes) s = .next ((s.bump (F.MEM_LOST_WR (cxlTile n))).emit (.cxlDone n.val)) := by
  have hx : exec (.cxlMemWrite n dpa bytes) s = execCxlMemWrite n dpa bytes s := rfl
  have hemp : bytes.isEmpty = false := by simpa using hb
  rw [hx]
  simp only [execCxlMemWrite, he, hemp, decide_eq_false (Nat.not_lt.2 hl), hn, Bool.not_true, Bool.or_self, Bool.false_eq_true, if_false, if_true]
  rfl

/-- A host's write that an entry refuses is counted with a NOTICE, and completes. -/
theorem State.cxlStore_bad {st : Nat} (h : s.resolve (cxlTile n) a bytes.length true = (.bad st, s1)) :
    s.cxlStore n a bytes none = (((s1.bump (F.MEM_LOST_WR (cxlTile n))).note 0x3 .cxlWriteLost 1 (tgtHost n.val) a).emit (.cxlDone n.val)) := by
  simp only [State.cxlStore, h, State.cxlLost, State.cxlWritten, if_true]

/-- A host's write into clean memory is stored, and completes. -/
theorem State.cxlStore_clean (h : s.resolve (cxlTile n) a bytes.length true = (.at_ mt key e, s1)) (hb : bytes ≠ []) (hg : e.migrating = false)
    (hm : s1.memDown mt = false) (hw : s1.gated mt = false) (hp : (linesOf key bytes.length).any s1.poisoned = false) :
    s.cxlStore n a bytes none =
      (({ s1 with dram := Memory.write s1.dram key bytes }).markDirty key bytes.length).emit (.cxlDone n.val) := by
  unfold State.cxlStore
  simp only [h, hg, State.store_clean hb hm hw hp, Bool.false_eq_true, if_false]
  rfl

end

end Sys2Proof.Machine

open Sys2Proof Sys2Proof.Machine

/-- Settles O17: a read of the module's own memory goes through the place that its address resolves to; all else is poison. -/
theorem hostMemoryReads : Obligations.HostMemoryReads := by
  unfold Obligations.HostMemoryReads
  intro n dpa s he d a
  refine ⟨fun hf hd hw => ?_, fun h ecc => exec_cxlMemRead_poison he h ecc, fun r hr => hr ▸ (s.resolve_looked (cxlTile n) a 64 false).keepsMemory⟩
  rw [exec_cxlMemRead he hf hd hw]
  refine ⟨fun mt key e s1 hr hm hp => ?_, fun mt key e s1 hr h => ?_, fun st s1 hr => ?_, fun s1 hr => ?_⟩
  · rw [State.cxlFetch_at hr, State.fetch_clean hm hp]
    rfl
  · rw [State.cxlFetch_at hr, State.fetch_fails h]
    rfl
  · rw [State.cxlFetch_bad hr]
    rfl
  · rw [State.cxlFetch_noCopy hr]
    rfl
end

section
open Sys2Proof Sys2Proof.Machine

/-- Settles O18: a write goes to the place that its address resolves to, or is lost. -/
theorem hostMemoryWrites : Obligations.HostMemoryWrites := by
  unfold Obligations.HostMemoryWrites
  intro n dpa bytes s h he hb hl hd a
  refine ⟨fun hn hm hw => ⟨fun mt key e s1 hr hg hdown hgate hp => ?_, fun st s1 hr => ?_⟩, exec_cxlMemWrite_lost he hb hl⟩
  · have hlook := Looked.of_resolve hr
    obtain ⟨hread, hrest⟩ := (hlook.stores key bytes).reads h
    refine ⟨_, (exec_cxlMemWrite he hb hl hd hn hm hw).trans (congrArg _ (State.cxlStore_clean hr hb hg hdown hgate hp)), hread, hrest,
      hlook.host, hlook.sq, ?_, hlook.keeps⟩
    exact congrArg (List.cons (Out.cxlDone n.val)) hlook.out
  · exact (exec_cxlMemWrite he hb hl hd hn hm hw).trans (congrArg _ (State.cxlStore_bad hr))
end

section
/-! SUPPORT. The Fabric Address Map, its caches and its copies (R212 to R218, R239). -/

namespace Sys2Proof.Machine

/-! ### Entries (R215, R218, R239) -/

theorem FamEntry.bytes_length (e : FamEntry) : e.bytes.length = 16 := by
  unfold FamEntry.bytes
  cases e.kind <;> simp [leBytes_length, zeros]

section
variable {s : State} {p : Packet} {o : Nat}

/-- A FAM entry written changes the map, and is told to a gang's members. -/
theorem State.setFam_frame (s : State) (i : Nat) (e : FamEntry) : (s.setFam i e).proctor = s.proctor ∧ (s.setFam i e).regs = s.regs ∧
    s.keepsMemory (s.setFam i e) ∧
    (s.setFam i e).pool = { s.pool with fam := Map.set {} s.pool.fam i { e with gen := ((s.famEntry i).gen + 1) % 0x10000 } } := by
  unfold State.setFam
  dsimp only
  split <;> exact ⟨rfl, rfl, fun _ => ⟨rfl, rfl, rfl⟩, rfl⟩

/-- The FAM change that FAM_MAP leaves waiting for its acknowledgements. -/
def State.mapInval (b : State) (p : Packet) : Inval :=
  { base := p.w 0, count := 1, kind := .map, run := some b.proctor.nextId, old := some (b.famEntry (p.w 0)).bytes }

/-- FAM_MAP writes its entry, and runs on until every tile has dropped it. -/
theorem famMap_accepted (ha : s.accepts famMapDef p o) (hr : Map.rising (s.begun p).pool.fam = true) :
    let b := s.begun p
    ∃ t : State, exec (.famMap p) s = .next t ∧
      t.famEntry (p.w 0) = { mapEntry p with gen := ((b.famEntry (p.w 0)).gen + 1) % 65536 } ∧
      (∀ i, i ≠ p.w 0 → t.famEntry i = b.famEntry i) ∧ t.pool.invals = b.pool.invals ++ [b.mapInval p] ∧
      b.runsOn t p o 0x610 ∧ t.regs = b.regs ∧ b.keepsMemory t := by
  intro b
  obtain ⟨hpr, hregs, hmem, hpool⟩ := b.setFam_frame (p.w 0) (mapEntry p)
  generalize hu : (b.setFam (p.w 0) (mapEntry p)).updPool (fun x => { x with invals := x.invals ++ [b.mapInval p] }) = u
  have hact : famMapDef.act b p o b.proctor.nextId = .later u := hu ▸ rfl
  have hup : u.proctor = b.proctor := hu ▸ hpr
  have hfam : u.pool.fam = Map.set {} b.pool.fam (p.w 0) { mapEntry p with gen := ((b.famEntry (p.w 0)).gen + 1) % 0x10000 } := by
    rw [← hu]
    exact congrArg Pool.fam hpool
  have hinv : u.pool.invals = b.pool.invals ++ [b.mapInval p] := by
    have h0 : (b.setFam (p.w 0) (mapEntry p)).pool.invals = b.pool.invals := by rw [hpool]
    rw [← hu]
    exact congrArg (· ++ [b.mapInval p]) h0
  obtain ⟨hruns, hrun_regs⟩ := runCmd_later ha hact hup
  have hrun := runCmd_starts ha hact (congrArg Proctor.nextId hup)
  have hmem2 : b.keepsMemory (runCmd famMapDef p s) := (hu ▸ hmem : b.keepsMemory u).trans (runCmd_later_frame ha hact).2
  have hpool2 : (runCmd famMapDef p s).pool = u.pool := by rw [hrun]; rfl
  refine ⟨runCmd famMapDef p s, rfl, ?_, fun i hi => ?_, by rw [hpool2, hinv], hruns, hrun_regs.trans (hu ▸ hregs), hmem2⟩
  · rw [State.famEntry, hpool2, hfam, Map.get_set_same hr]
  · rw [State.famEntry, hpool2, hfam, Map.get_set_ne hi]
    rfl

theorem famRead_answers (ha : s.accepts famReadDef p o) :
    exec (.famRead p) s =
      .next ((s.begun p).replies p ((List.range (p.w 1)).flatMap (fun i => ((s.begun p).famEntry (p.w 0 + i)).bytes))) := by
  have hx : exec (.famRead p) s = .next (runCmd famReadDef p s) := rfl
  rw [hx, runCmd_accepted ha]
  exact congrArg Host.Outcome.next (State.conclude_plain _ rfl (by decide))

end

/-! ### Invalidations (R218) -/

/-- `u` is `s` with an invalidation taken off the list, and none of the indexes it names in any cache. -/
structure Dropped (i : Inval) (rest : List Inval) (s u : State) : Prop where
  invals : u.pool.invals = rest
  fam : u.pool.fam = s.pool.fam
  regs : u.regs = s.regs
  cache : ∀ x ∈ u.pool.cache, ∀ y ∈ x.2, ¬ (i.base ≤ y.1 ∧ y.1 < i.base + i.count)

section
variable {s u : State} {i : Inval} {rest : List Inval}

theorem State.dropRange_dropped (s : State) (i : Inval) (rest : List Inval) :
    Dropped i rest s ((s.updPool (fun p => { p with invals := rest })).dropRange i.base i.count) := by
  refine ⟨rfl, rfl, rfl, fun x hx y hy => ?_⟩
  obtain ⟨e, -, rfl⟩ := List.mem_map.1 (List.mem_of_mem_filter hx)
  have hkept := (List.mem_filter.1 hy).2
  simpa [Nat.not_lt, imp_iff_not_or] using hkept

theorem Dropped.clearCache (h : Dropped i rest s u) (t : Nat) : Dropped i rest s (u.clearCache t) :=
  ⟨h.invals, h.fam, h.regs, fun x hx => h.cache x (List.mem_of_mem_filter hx)⟩

theorem Dropped.each_clearCache (h : Dropped i rest s u) (l : List Nat) : Dropped i rest s (u.each l State.clearCache) := by
  unfold State.each
  induction l generalizing u with
  | nil => exact h
  | cons t l ih => exact ih (h.clearCache t)

theorem exec_famInvalidateDone_none (h : s.pool.invals = []) : exec .famInvalidateDone s = .next s := by
  have hx : exec .famInvalidateDone s = execFamInvalidateDone s := rfl
  rw [hx]
  unfold execFamInvalidateDone
  rw [h]

theorem exec_famInvalidateDone (h : s.pool.invals = i :: rest) :
    ∃ u, exec .famInvalidateDone s = .next (u.invalDone i) ∧ Dropped i rest s u := by
  have hx : exec .famInvalidateDone s = execFamInvalidateDone s := rfl
  rw [hx]
  unfold execFamInvalidateDone
  rw [h]
  exact ⟨_, rfl, (s.dropRange_dropped i rest).each_clearCache _⟩

end

/-! ### The caches (R217) -/

/-- What tile t's FAM cache holds of index i. -/
def State.cached (s : State) (t i : Nat) : Option (Nat × FamEntry) :=
  (Map.get [] s.pool.cache (t * 4096 + i % 4096)).find? (fun x => x.1 == i)

section
variable {s : State} {t i : Nat}

/-- A lookup gives the cached entry, and where there is none the copy's. -/
theorem State.lookup_entry (s : State) (t i : Nat) :
    (s.lookup t i).1 = ((s.cached t i).map (·.2)).or (if s.famUp then some (s.famEntry i) else none) := by
  unfold State.lookup State.cached
  dsimp only
  split
  · next h => rw [h]; rfl
  · next h =>
    rw [h]
    split <;> rfl

/-- What a lookup has given stays in the cache. -/
theorem State.cached_lookup (hu : s.famUp = true) : ((s.lookup t i).2.cached t i).map (·.2) = (s.lookup t i).1 := by
  unfold State.lookup
  dsimp only
  split
  · next x hx =>
    have hi : (x.1 == i) = true := List.find?_some (p := fun x : Nat × FamEntry => x.1 == i) hx
    simp only [State.cached, State.bump_pool, State.updPool, Map.get, Map.find_put_same, Option.getD_some, List.find?_cons, hi, Option.map_some]
  · rw [if_pos hu]
    simp [State.cached, State.updPool, Map.get, Map.find_put_same]

/-- A lookup done again gives the same entry. -/
theorem State.lookup_again (hu : s.famUp = true) : ((s.lookup t i).2.lookup t i).1 = (s.lookup t i).1 := by
  have hsome : (s.lookup t i).1 ≠ none := by
    rw [s.lookup_entry, if_pos hu]
    simp
  rw [State.lookup_entry, State.cached_lookup hu]
  obtain ⟨e, he⟩ := Option.ne_none_iff_exists'.1 hsome
  rw [he]
  rfl

/-- FAM_CACHE_MISS_FILL gives the tile the entry it lacks, and moves no byte of memory. -/
theorem exec_famCacheMissFill (t : Tile) (i : BitVec 21) (s : State) :
    ∃ u : State, exec (.famCacheMissFill t i) s = .next u ∧ s.keepsMemory u ∧ s.keepsRegs u [R.FAMC_CNT_HIT t.val, R.FAMC_CNT_MISS t.val] ∧
      (s.famUp = true → (u.lookup t.val i.toNat).1 = (s.lookup t.val i.toNat).1 ∧
        (s.cached t.val i.toNat = none → (s.lookup t.val i.toNat).1 = some (s.famEntry i.toNat))) := by
  have hl := s.lookup_looked t.val i.toNat
  refine ⟨(s.lookup t.val i.toNat).2, rfl, hl.keepsMemory, hl.keeps, fun hu => ⟨State.lookup_again hu, fun hn => ?_⟩⟩
  rw [State.lookup_entry, hn, if_pos hu]
  rfl

end

/-! ### The copies (R214) -/

theorem State.note_pool (s : State) (g : Nat) (e : RecEv) (sev source : Nat) (v : Int) : (s.note g e sev source v).pool = s.pool := by
  rw [(s.note_logged g e sev source v).1]

theorem State.raiseMod_pool (s : State) (bit : Nat) : (s.raiseMod bit).pool = s.pool := by
  rw [(s.raiseMod_faulted bit 0 false).1]

theorem State.showCopies_pool (s : State) (t : Nat) : (s.showCopies t).pool = s.pool := State.setFs_pool ..

theorem State.each_showCopies_pool (s : State) (l : List Nat) : (s.each l State.showCopies).pool = s.pool := by
  unfold State.each
  induction l generalizing s with
  | nil => rfl
  | cons t l ih => rw [List.foldl_cons, ih, s.showCopies_pool]

theorem State.setCopies_copyUp (s : State) (c0 c1 : Bool) : (s.setCopies c0 c1).pool.copyUp = (c0, c1) := by
  have hshown : ((s.updPool (fun p => { p with copyUp := (c0, c1) })).each allTiles State.showCopies).pool.copyUp = (c0, c1) :=
    congrArg Pool.copyUp (State.each_showCopies_pool (s.updPool (fun p => { p with copyUp := (c0, c1) })) allTiles)
  unfold State.setCopies
  dsimp only
  split
  · rw [State.raiseMod_pool, State.note_pool, hshown]
  · exact hshown

/-- The tile whose memory holds a FAM copy. -/
def copyTile (c : Fin 2) : Nat := if c = 0 then 1 else 25

/-- The copies with one of them set. -/
def setCopy (c : Fin 2) (v : Bool) (up : Bool × Bool) : Bool × Bool := if c = 0 then (v, up.2) else (up.1, v)

theorem exec_famCopyLost (c : Fin 2) (s : State) : ∃ t, exec (.famCopyLost c) s = .next t ∧ t.pool.copyUp = setCopy c false s.pool.copyUp := by
  refine ⟨_, rfl, ?_⟩
  unfold setCopy
  split <;> exact State.setCopies_copyUp ..

theorem exec_famCopyRebuilt (c : Fin 2) (s : State) : ∃ u, exec (.famCopyRebuilt c) s = .next u ∧ (s.memDown (copyTile c) = true → u = s) ∧
    (s.memDown (copyTile c) = false → u.pool.copyUp = setCopy c true s.pool.copyUp) := by
  refine ⟨_, rfl, ?_⟩
  unfold copyTile setCopy
  split
  · exact ⟨fun h => if_pos h, fun h => (congrArg (fun u : State => u.pool.copyUp) (if_neg (by simp [h]))).trans (State.setCopies_copyUp ..)⟩
  · exact ⟨fun h => if_pos h, fun h => (congrArg (fun u : State => u.pool.copyUp) (if_neg (by simp [h]))).trans (State.setCopies_copyUp ..)⟩

end Sys2Proof.Machine

open Sys2Proof Sys2Proof.Machine

/-- Settles O40: the map's commands, an invalidation taken from every cache, a cache's miss, and the two copies. -/
theorem addressMap : Obligations.AddressMap := by
  unfold Obligations.AddressMap
  refine ⟨fun p o s ha hr => famMap_accepted ha hr, fun p o s ha => famRead_answers ha, FamEntry.bytes_length,
    fun s => ⟨exec_famInvalidateDone_none, fun i rest h => ?_⟩, exec_famCacheMissFill, fun c s => ?_⟩
  · obtain ⟨u, hx, hd⟩ := exec_famInvalidateDone h
    exact ⟨u, hx, hd.invals, hd.fam, hd.regs, hd.cache⟩
  · obtain ⟨t, ht, hlost⟩ := exec_famCopyLost c s
    obtain ⟨u, hu, hdown, hup⟩ := exec_famCopyRebuilt c s
    exact ⟨t, u, ht, hu, hlost, hdown, hup⟩
end

section
/-! SUPPORT. Transport units at a Homeroom: taken from a buffer, accepted by TSN and credit, and executed (R221 to R226, R231 to R234). -/

namespace Sys2Proof.Machine

/-! ### Units taken from a buffer (R221) -/

/-- A type that the table of R221 does not list has no place on either VC. -/
theorem rowVc_unlisted {type : Nat} (h : type ∉ [1, 2, 3, 6, 9, 0xA, 0x10, 0x11, 0x12, 0x20]) : rowVc type = none := by
  simp only [List.mem_cons, List.not_mem_nil, or_false, not_or] at h
  simp [rowVc, h]

section
variable {s s1 : State} {q vc : Nat} {v : Via} {bytes : List Byte}

theorem State.takeTu_popped (h : s.popRx q vc (fitBytes 232 bytes) = some s1) (f : State → Tu → State) :
    s.takeTu q vc bytes f = f s1 (Tu.parse bytes) := by
  unfold State.takeTu
  rw [h]

theorem State.takeMisplaced_placed (h : rowVc (Tu.parse bytes).type = some vc) : s.takeMisplaced q bytes vc = s := if_pos h

theorem State.takeMisplaced_popped (hr : rowVc (Tu.parse bytes).type ≠ some vc) (h : s.popRx q vc (fitBytes 232 bytes) = some s1) :
    s.takeMisplaced q bytes vc = s1.badTu (Tu.parse bytes).stream := (if_neg hr).trans (State.takeTu_popped h _)

theorem exec_streamData_accepted (h : s.popRx v.code 0 (fitBytes 232 bytes) = some s1) (ht : (Tu.parse bytes).type = 1) :
    exec (.streamData v bytes) s = .next ((s1.acceptTu v.code (Tu.parse bytes)).takeMisplaced v.code bytes 1) := by
  have hx : exec (.streamData v bytes) s = execStreamData v bytes s := rfl
  have h0 : ∀ u : State, u.takeMisplaced v.code bytes 0 = u := fun u => State.takeMisplaced_placed (by rw [ht]; rfl)
  rw [hx]
  simp only [execStreamData, if_pos ht, State.takeTu_popped h, State.each, List.foldl_cons, List.foldl_nil, h0]

theorem exec_streamData_unlisted (h : s.popRx v.code 0 (fitBytes 232 bytes) = some s1)
    (ht : (Tu.parse bytes).type ∉ [1, 2, 3, 6, 9, 0xA, 0x10, 0x11, 0x12, 0x20]) :
    exec (.streamData v bytes) s = .next ((s1.badTu (Tu.parse bytes).stream).takeMisplaced v.code bytes 1) := by
  have hx : exec (.streamData v bytes) s = execStreamData v bytes s := rfl
  have h1 : (Tu.parse bytes).type ≠ 1 := fun h1 => ht (by simp [h1])
  have h0 : s.takeMisplaced v.code bytes 0 = s1.badTu (Tu.parse bytes).stream :=
    State.takeMisplaced_popped (by simp [rowVc_unlisted ht]) h
  rw [hx]
  simp only [execStreamData, if_neg h1, State.each, List.foldl_cons, List.foldl_nil, h0]

theorem exec_memRead_taken (h : s.popRx v.code 0 (fitBytes 232 bytes) = some s1) (ht : (Tu.parse bytes).type = 2) (ecc : Ecc) :
    exec (.memRead v bytes ecc) s =
      .next ((s1.eccAt (Tu.parse bytes).addr (Tu.parse bytes).aux ecc).acceptTu v.code (Tu.parse bytes)) :=
  (if_neg (not_not.2 ht)).trans (congrArg Host.Outcome.next (State.takeTu_popped h _))

theorem exec_memWrite_taken (h : s.popRx v.code 0 (fitBytes 232 bytes) = some s1) (ht : (Tu.parse bytes).type = 3) :
    exec (.memWrite v bytes) s = .next (s1.acceptTu v.code (Tu.parse bytes)) :=
  (if_neg (not_not.2 ht)).trans (congrArg Host.Outcome.next (State.takeTu_popped h _))

theorem exec_credit_taken (h : s.popRx v.code 1 (fitBytes 232 bytes) = some s1) (ht : (Tu.parse bytes).type = 6) :
    exec (.credit v bytes) s = .next (s1.takeCredit v.code (Tu.parse bytes)) :=
  (if_neg (not_not.2 ht)).trans (congrArg Host.Outcome.next (State.takeTu_popped h _))

end

/-! ### Acceptance (R226, R231, R233, R234) -/

/-- How far a unit's TSN is ahead of the one its stream expects, modulo 2^32. -/
def Stream.gap (c : Stream) (tu : Tu) : Nat := (tu.tsn + 2 ^ 32 - c.rx0) % 2 ^ 32

/-- Is a unit a memory request? -/
def Tu.request (tu : Tu) : Bool := tu.type == 2 || tu.type == 3

/-- Memory requests of a stream that hold a credit. -/
def Stream.reqUsed (c : Stream) : Nat := (c.reqs + 2 ^ 32 - c.executed) % 2 ^ 32

/-- Is a unit beyond its credit pool? -/
def Stream.overrun (c : Stream) (tu : Tu) : Bool :=
  (tu.request && decide (c.reqCredits ≤ c.reqUsed)) || (!tu.request && decide (c.rxSlots ≤ c.dataUsed))

/-- A unit accepted takes its stream's next TSN, and a credit of its pool. -/
def Stream.accept (c : Stream) (tu : Tu) (bell : Nat) : Stream :=
  { c with
    rx0 := (c.rx0 + 1) % 2 ^ 32, lastTu := bell, waiting := c.waiting ++ [tu],
    reqs := if tu.request then (c.reqs + 1) % 2 ^ 32 else c.reqs, written := if tu.request then c.written else (c.written + 1) % 2 ^ 32 }

theorem Tu.request_iff (tu : Tu) : tu.request = true ↔ tu.type = 2 ∨ tu.type = 3 := by simp [Tu.request]

theorem Stream.overrun_iff (c : Stream) (tu : Tu) : c.overrun tu = true ↔
    ((tu.type = 2 ∨ tu.type = 3) ∧ c.reqCredits ≤ c.reqUsed) ∨ (¬ (tu.type = 2 ∨ tu.type = 3) ∧ c.rxSlots ≤ c.dataUsed) := by
  rw [← tu.request_iff]
  simp [Stream.overrun]

section
variable {s : State} {q key : Nat} {tu : Tu} {c : Stream} (h : s.tuStream q tu = .ok (key, c))
include h

/-- What becomes of a unit of a stream at its Homeroom. -/
theorem State.acceptTu_eq : s.acceptTu q tu =
    if c.state = .faulted then s
    else if 2 ^ 31 ≤ c.gap tu then s.bump (F.STRM_CNT_DUP (s.homeServer (key / 2 ^ 15)))
    else if c.gap tu ≠ 0 then (s.faultStream key).streamGone key
    else if c.overrun tu then ((s.bump (F.STRM_CNT_BAD (s.homeServer (key / 2 ^ 15)))).faultStream key).streamGone key
    else (s.updStream key (fun c => c.accept tu s.bell)).pumpStream key := by
  have hor (a b : Bool) (x y : State) : (if a then x else if b then x else y) = if a || b then x else y := by cases a <;> rfl
  unfold State.acceptTu
  rw [h]
  exact if_congr Iff.rfl rfl (if_congr Iff.rfl rfl (if_congr Iff.rfl rfl (hor _ _ _ _)))

theorem State.acceptTu_faulted (hf : c.state = .faulted) : s.acceptTu q tu = s := by rw [State.acceptTu_eq h, if_pos hf]

theorem State.acceptTu_duplicate (hf : c.state ≠ .faulted) (hd : 2 ^ 31 ≤ c.gap tu) :
    s.acceptTu q tu = s.bump (F.STRM_CNT_DUP (s.homeServer (key / 2 ^ 15))) := by rw [State.acceptTu_eq h, if_neg hf, if_pos hd]

theorem State.acceptTu_gap (hf : c.state ≠ .faulted) (h0 : 0 < c.gap tu) (hd : c.gap tu < 2 ^ 31) :
    s.acceptTu q tu = (s.faultStream key).streamGone key := by
  rw [State.acceptTu_eq h, if_neg hf, if_neg (Nat.not_le.2 hd), if_pos (Nat.ne_of_gt h0)]

theorem State.acceptTu_overrun (hf : c.state ≠ .faulted) (hd : c.gap tu = 0)
    (ho : ((tu.type = 2 ∨ tu.type = 3) ∧ c.reqCredits ≤ c.reqUsed) ∨ (¬ (tu.type = 2 ∨ tu.type = 3) ∧ c.rxSlots ≤ c.dataUsed)) :
    s.acceptTu q tu = ((s.bump (F.STRM_CNT_BAD (s.homeServer (key / 2 ^ 15)))).faultStream key).streamGone key := by
  rw [State.acceptTu_eq h, if_neg hf, if_neg (by omega), if_neg (not_not.2 hd), if_pos ((c.overrun_iff tu).2 ho)]

/-- The unit expected, within its credit pool, is accepted and executed in its turn. -/
theorem State.acceptTu_accepted (hf : c.state ≠ .faulted) (hd : c.gap tu = 0) (ho : c.overrun tu = false) :
    s.acceptTu q tu = (s.updStream key (fun c => c.accept tu s.bell)).pumpStream key := by
  rw [State.acceptTu_eq h, if_neg hf, if_neg (by omega), if_neg (not_not.2 hd), if_neg (by simp [ho])]

theorem State.acceptTu_request (hf : c.state ≠ .faulted) (hd : c.gap tu = 0) (hr : tu.type = 2 ∨ tu.type = 3) (hc : c.reqUsed < c.reqCredits) :
    s.acceptTu q tu = (s.updStream key (fun c => { c with
      rx0 := (c.rx0 + 1) % 2 ^ 32, lastTu := s.bell, waiting := c.waiting ++ [tu], reqs := (c.reqs + 1) % 2 ^ 32 })).pumpStream key := by
  have hreq : tu.request = true := tu.request_iff.2 hr
  rw [State.acceptTu_accepted h hf hd (by simp [Stream.overrun, hreq, hc])]
  simp only [Stream.accept, hreq, if_true]

theorem State.acceptTu_data (hf : c.state ≠ .faulted) (hd : c.gap tu = 0) (hr : ¬ (tu.type = 2 ∨ tu.type = 3)) (hc : c.dataUsed < c.rxSlots) :
    s.acceptTu q tu = (s.updStream key (fun c => { c with
      rx0 := (c.rx0 + 1) % 2 ^ 32, lastTu := s.bell, waiting := c.waiting ++ [tu], written := (c.written + 1) % 2 ^ 32 })).pumpStream key := by
  have hreq : tu.request = false := Bool.eq_false_iff.2 (mt tu.request_iff.1 hr)
  rw [State.acceptTu_accepted h hf hd (by simp [Stream.overrun, hreq, hc])]
  simp only [Stream.accept, hreq, Bool.false_eq_true, if_false]

/-- A CREDIT that is no newer than the one taken only shows that its stream is in use. -/
theorem State.takeCredit_old {e : Nat} (he : e = (tu.aux + 2 ^ 32 - c.epFreed) % 2 ^ 32) (ho : e = 0 ∨ 2 ^ 31 ≤ e) :
    s.takeCredit q tu = s.updStream key (fun c => { c with lastTu := s.bell }) := by
  subst he
  unfold State.takeCredit
  rw [h]
  exact if_pos (by
    simp only [Bool.or_eq_true, decide_eq_true_eq]
    exact ho.imp_left .inr)

end

/-! ### Reads (R222) -/

section
variable {s s1 : State} {t a n : Nat} {w : Bool} {e : FamEntry} {tu : Tu}

theorem State.resolve_elsewhere (h : addrValid a = false ∨ (s.ownNode (addrNode a) = false ∧ s.foreign a = false)) :
    s.resolve t a n w = (.bad stNotFound, s) := by
  unfold State.resolve
  rw [if_pos (by rcases h with h | ⟨h, k⟩ <;> simp [*])]

section
variable (hv : addrValid a = true) (ho : s.ownNode (addrNode a) = true) (hl : s.lookup t (addrIndex a) = (some e, s1))
include hv ho hl

/-- An own address that its cache or a copy gives an entry. -/
theorem State.resolve_entry : s.resolve t a n w =
    if e.kind = .unmapped then (.bad stNotFound, s1)
    else if 2 ^ 21 < addrByte a + n then (.bad stParam, s1)
    else if w && e.ro then (.bad stLocked, s1)
    else if e.kind = .remote then (.remote e.remNode (e.remBase + addrByte a), s1)
    else (.at_ e.tile (dramKey e.tile e.frame (addrByte a)) e, s1) := by
  unfold State.resolve
  rw [if_neg (by simp [hv, ho]), hl]

theorem State.resolve_unmapped (hk : e.kind = .unmapped) : s.resolve t a n w = (.bad stNotFound, s1) :=
  (State.resolve_entry hv ho hl).trans (if_pos hk)

theorem State.resolve_crosses (hk : e.kind ≠ .unmapped) (hn : 2 ^ 21 < addrByte a + n) : s.resolve t a n w = (.bad stParam, s1) :=
  (State.resolve_entry hv ho hl).trans ((if_neg hk).trans (if_pos hn))

theorem State.resolve_local (hk : e.kind = .local_) (hn : addrByte a + n ≤ 2 ^ 21) :
    s.resolve t a n false = (.at_ e.tile (dramKey e.tile e.frame (addrByte a)) e, s1) := by
  rw [State.resolve_entry hv ho hl, if_neg (by simp [hk]), if_neg (Nat.not_lt.2 hn), if_neg (by simp), if_neg (by simp [hk])]

end

theorem State.memRead_long (h : 208 < tu.aux) : s.memRead t tu = (stParam, [], s) := if_pos h

theorem State.memRead_bad {st : Nat} (hn : tu.aux ≤ 208) (h : s.resolve t tu.addr tu.aux false = (.bad st, s1)) :
    s.memRead t tu = (st, [], s1) := by
  unfold State.memRead
  rw [if_neg (Nat.not_lt.2 hn), h]

section
variable {mt key : Nat} (hn : tu.aux ≤ 208) (h : s.resolve t tu.addr tu.aux false = (.at_ mt key e, s1))
include hn h

theorem State.memRead_empty (h0 : tu.aux = 0) : s.memRead t tu = (stOkEmpty, [], s1) := by
  unfold State.memRead
  rw [if_neg (Nat.not_lt.2 hn), h]
  exact if_pos h0

theorem State.memRead_fails (h0 : 0 < tu.aux) (hm : s1.memDown mt = true ∨ (linesOf key tu.aux).any s1.poisoned = true) :
    s.memRead t tu = (stFault, [], s1) := by
  unfold State.memRead
  rw [if_neg (Nat.not_lt.2 hn), h]
  simp only [if_neg (Nat.ne_of_gt h0), State.fetch_fails hm]

theorem State.memRead_bytes (h0 : 0 < tu.aux) (hm : s1.memDown mt = false) (hp : (linesOf key tu.aux).any s1.poisoned = false) :
    s.memRead t tu = (stOk, Memory.read s.dram key tu.aux, s1) := by
  unfold State.memRead
  rw [if_neg (Nat.not_lt.2 hn), h]
  simp only [if_neg (Nat.ne_of_gt h0), State.fetch_clean hm hp, (Looked.of_resolve h).dram]

end

end

/-! ### Writes, and what they leave alone (R222, R234) -/

section
variable {P : Nat → Prop} {z s s1 u : State} {key t mt a : Nat} {e : FamEntry} {tu : Tu}

theorem Leaves.dispatchTu (h : Leaves P z s) (key vc : Nat) (tu : Tu) : Leaves P z (s.dispatchTu key vc tu) := by
  unfold State.dispatchTu
  split
  · exact h
  · dsimp only
    split
    · exact h
    · split
      · exact h.updStream ..
      · split
        · exact h.updStream ..
        · exact (h.enqueue ..).updStream ..

theorem Leaves.sendCredit (h : Leaves P z s) (key : Nat) : Leaves P z (s.sendCredit key) := by
  unfold State.sendCredit
  split
  · exact h
  · exact (h.updStream ..).dispatchTu ..

theorem Leaves.creditCheck (h : Leaves P z s) (key : Nat) : Leaves P z (s.creditCheck key) := by
  unfold State.creditCheck
  split
  · exact h
  · split
    · exact h.sendCredit key
    · exact h

theorem Leaves.reqDone (h : Leaves P z s) (key : Nat) (m : Option (Nat × Nat)) : Leaves P z (s.reqDone key m) := by
  unfold State.reqDone
  split
  · split
    · exact h.same rfl rfl rfl rfl
    · exact (h.updStream ..).creditCheck key
  · exact (h.updStream ..).creditCheck key

theorem Stores.leaves {bs : List Byte} (h : Stores a bs z s) (k : Leaves P s u) : Stores a bs z u :=
  ⟨k.dram.trans h.dram, k.host.trans h.host, k.sq.trans h.sq⟩

/-- A stream's write into clean memory stores its bytes. -/
theorem State.pumpWrite_stores (hr : s.resolve t tu.addr tu.data.length true = (.at_ mt a e, s1)) (hb : tu.data ≠ []) (hg : e.migrating = false)
    (hm : s1.memDown e.tile = false) (hw : s1.gated e.tile = false) (hp : (linesOf a tu.data.length).any s1.poisoned = false)
    (m : Option (Nat × Nat)) : Stores a tu.data s (s.pumpWrite key t tu m) := by
  obtain ⟨-, hplace⟩ := State.resolve_place hr
  have hstore := State.store_clean hb hm hw hp
  rw [hplace] at hstore
  have hemp : tu.data.isEmpty = false := by simpa using hb
  have hdone := ((Looked.of_resolve hr).stores a tu.data).leaves ((Leaves.refl (fun _ => True) _).reqDone key m)
  rw [hplace] at hdone
  unfold State.pumpWrite
  simp only [hr, hemp, hg, hstore, Bool.false_eq_true, if_false]
  rw [hplace]
  exact hdone

end

/-! ### Credit reports (R234) -/

section
variable {s : State} {h : BitVec 32} {key : Nat} {c : Stream}

/-- The stream that a live handle names. -/
theorem State.liveStream (hk : s.liveKey h.toNat = some key) (hc : s.stream key = some c) :
    (s.liveKey h.toNat).bind (fun k => (s.stream k).map (fun c => (k, c))) = some (key, c) := by
  simp [hk, hc]

theorem exec_creditReportDue (hk : s.liveKey h.toNat = some key) (hc : s.stream key = some c) (hf : c.state ≠ .faulted) :
    exec (.creditReportDue h) s = .next (if c.unreported = 0 then s else s.sendCredit key) := by
  have hx : exec (.creditReportDue h) s = execCreditReportDue h s := rfl
  rw [hx]
  unfold execCreditReportDue
  rw [State.liveStream hk hc]
  simp [hf]

end

end Sys2Proof.Machine

open Sys2Proof Sys2Proof.Machine

/-- Settles O39: each unit where it is taken, by its TSN and its credit pool, and then each access by its address. -/
theorem streamUnits : Obligations.StreamUnits := by
  unfold Obligations.StreamUnits
  refine ⟨fun v bytes ecc s s1 vc h => ?_, fun q key tu c s h => ?_, fun t tu s _ => ⟨State.memRead_long, fun hn ha => ?_, fun hn hv ho e s1 hl => ?_⟩,
    fun key t mt a tu e s s1 hs hr hb hg hm hw hp => ?_, fun src t v s => rfl, fun h key c s hk hc hf => ?_⟩
  · refine ⟨?_, ?_, ?_, ?_, ?_⟩
    all_goals
      rintro rfl ht
    · exact exec_streamData_accepted h ht
    · exact exec_streamData_unlisted h ht
    · exact exec_memRead_taken h ht ecc
    · exact exec_memWrite_taken h ht
    · exact exec_credit_taken h ht
  · exact ⟨State.acceptTu_faulted h, State.acceptTu_duplicate h, State.acceptTu_gap h, State.acceptTu_overrun h, State.acceptTu_request h,
      State.acceptTu_data h, fun e => State.takeCredit_old h⟩
  · exact State.memRead_bad hn (State.resolve_elsewhere ha)
  · refine ⟨fun hk => State.memRead_bad hn (State.resolve_unmapped hv ho hl hk),
      fun hk hx => State.memRead_bad hn (State.resolve_crosses hv ho hl hk hx), fun hk hx => ?_⟩
    have hr := State.resolve_local hv ho hl hk hx
    exact ⟨State.memRead_empty hn hr, State.memRead_fails hn hr, State.memRead_bytes hn hr⟩
  · have hstores := State.pumpWrite_stores (key := key) hr hb hg hm hw hp none
    obtain ⟨hread, hrest⟩ := hstores.reads hs
    exact ⟨hread, hrest, hstores.host, hstores.sq⟩
  · rw [exec_creditReportDue hk hc hf]
    exact ⟨fun h0 => by rw [if_pos h0], fun h0 => by rw [if_neg h0]⟩
end

section
/-! SUPPORT. Streams opened, closed, queried and timed out (R223, R224, R227 to R230, R235 to R238). -/

namespace Sys2Proof.Machine

/-! ### The end of a command that a holder mirrors (R437) -/

/-- In a module that mirrors nothing, the reply of a mirrored opcode that journals nothing is posted at once. -/
theorem State.conclude_unmirrored {u : State} {p : Packet} {o code st det : Nat} {j : Bool} {res : List Byte} {ch : List JChange} {un : Undo}
    (hk : (mirroredKind code).isSome = true) (hm : u.mirrors = false) (hl : res.length ≤ 48) (hj : j = false ∨ ch = []) :
    u.conclude code o j p st det res ch un = (u.place p st det res).1.postFinal p.path (u.place p st det res).2 := by
  obtain ⟨kind, hkind⟩ := Option.isSome_iff_exists.1 hk
  rw [u.place_short p st det hl]
  simp only [State.conclude, u.place_short p st det hl, hkind, hm, Bool.false_and, Bool.false_eq_true, if_false, State.settle]
  exact if_neg (by rcases hj with rfl | rfl <;> simp)

/-! ### Slots (R224) -/

section
variable {s : State} {key k h : Nat} {c : Stream}

/-- The stream table with the slot of one key changed. -/
def State.updSlot (s : State) (key : Nat) (g : StreamSlot → StreamSlot) : State :=
  { s with streams := { s.streams with slots := Map.upd {} s.streams.slots key g } }

theorem State.stream_updSlot_ne (hk : k ≠ key) (g : StreamSlot → StreamSlot) : (s.updSlot key g).stream k = s.stream k :=
  congrArg StreamSlot.ctx (Map.get_upd_ne hk ..)

theorem State.stream_updSlot_same {g : StreamSlot → StreamSlot} (hg : ∀ sl : StreamSlot, sl.ctx = s.stream key → (g sl).ctx = some c) :
    (s.updSlot key g).stream key = some c := by
  have hctx := hg (Map.get {} s.streams.slots key) rfl
  have hne : g (Map.get {} s.streams.slots key) ≠ {} := fun he => by
    rw [he] at hctx
    exact absurd hctx (by simp)
  exact (congrArg StreamSlot.ctx (Map.get_upd_of_ne hne)).trans hctx

theorem State.stream_updStream_same (hc : s.stream key = some c) (g : Stream → Stream) : (s.updStream key g).stream key = some (g c) :=
  State.stream_updSlot_same (g := fun sl => { sl with ctx := sl.ctx.map g }) fun sl hsl => by rw [hsl, hc, Option.map_some]

theorem State.freeSlot_eq (hm : s.mirrors = false) (key : Nat) :
    s.freeSlot key = s.updSlot key (fun sl => { gen := (sl.gen + 1) % 2048, ctx := none }) := by
  simp only [State.freeSlot, hm, Bool.false_eq_true, if_false, State.updSlot]

/-- The handle of a freed slot is stale, and no other stream changes. -/
theorem State.freeSlot_spec (hm : s.mirrors = false) (hr : Map.rising s.streams.slots = true) (hh : handleKey h = key) :
    (s.freeSlot key).liveKey h = none ∧ ∀ k, k ≠ key → (s.freeSlot key).stream k = s.stream k := by
  rw [State.freeSlot_eq hm]
  refine ⟨?_, fun k hk => State.stream_updSlot_ne hk _⟩
  have hctx : (Map.get {} (s.updSlot key (fun sl => { gen := (sl.gen + 1) % 2048, ctx := none })).streams.slots (handleKey h)).ctx = none := by
    rw [hh]
    exact congrArg StreamSlot.ctx (Map.get_upd_same (d := {}) hr key (fun sl => { gen := (sl.gen + 1) % 2048, ctx := none }))
  unfold State.liveKey
  dsimp only
  rw [hctx]
  rfl

end

/-! ### STREAM_OPEN (R227, R228, R235, R238) -/

/-- A fold whose steps all give something gives nothing on the empty list only. -/
theorem foldl_eq_none_iff {α β : Type} {f : Option β → α → Option β} (hf : ∀ m x, f m x ≠ none) (l : List α) :
    l.foldl f none = none ↔ l = [] := by
  induction l using List.reverseRecOn with
  | nil => simp
  | append_singleton l a => simp [hf]

section
variable {b : State} {p : Packet} {o id home : Nat}

/-- An automatic choice finds no Homeroom where every one is full. -/
theorem State.autoHome_eq_none_iff (b : State) (pri : Nat) (homes : List Nat) :
    b.autoHome pri homes = none ↔ homes.all (fun t => decide (slotsPerTile ≤ b.openCount t)) = true := by
  have hite (c : Prop) [Decidable c] (x y : Nat) : (if c then some x else some y) ≠ none := by split <;> simp
  unfold State.autoHome
  rw [foldl_eq_none_iff]
  · simp [List.filter_eq_nil_iff]
  · intro m x
    cases m with
    | none => exact Option.some_ne_none x
    | some y => exact hite _ x y

/-- Where a number is free, a free one is picked. -/
theorem State.pickFree_free {n : Nat} {taken : Nat → Bool} (hw : b.twin.want = none) (h : ∃ i < n, taken i = false) :
    ∃ k < n, taken k = false ∧ b.pickFree n taken = (some k, b.fresh.2) := by
  obtain ⟨i, hi, hfree⟩ := h
  have hpick : b.pickFree n taken =
      (((List.range n).map (fun i => (b.fresh.1.toNat + i) % n)).find? (fun i => !taken i), b.fresh.2) := by
    unfold State.pickFree
    rw [hw]
  generalize b.fresh.1.toNat = v at hpick
  generalize hfind : ((List.range n).map (fun i => (v + i) % n)).find? (fun i => !taken i) = r at hpick
  have hmem : i ∈ (List.range n).map (fun i => (v + i) % n) := by
    have hv := Nat.mod_lt v (Nat.zero_lt_of_lt hi)
    refine List.mem_map.2 ⟨(i + n - v % n) % n, List.mem_range.2 (Nat.mod_lt _ (by omega)), ?_⟩
    rw [Nat.add_mod_mod, ← Nat.mod_add_mod, show v % n + (i + n - v % n) = i + n by omega, Nat.add_mod_right, Nat.mod_eq_of_lt hi]
  cases r with
  | none => exact absurd (List.find?_eq_none.1 hfind i hmem) (by simp [hfree])
  | some k =>
    have hk := List.find?_some hfind
    obtain ⟨j, -, rfl⟩ := List.mem_map.1 (List.mem_of_find?_eq_some hfind)
    exact ⟨_, Nat.mod_lt _ (Nat.zero_lt_of_lt hi), by simpa using hk, hpick⟩

/-- The Homerooms among which STREAM_OPEN chooses. -/
def State.openHomes (b : State) (p : Packet) : List Nat :=
  if p.w 2 ≠ 0xFF then [p.w 2] else b.homeTiles.filter (fun t => !b.homeFailed t)

/-- The alternate port of a STREAM_OPEN. -/
def State.openAlt (b : State) (p : Packet) (o : Nat) : Option Nat :=
  if p.w 3 / 256 % 256 ≠ 255 then some (p.w 3 / 256 % 256) else b.autoAlt (openPri p) (openNode p o)

/-- A new context in a slot, with the NOTICE of a stream that has no alternate. -/
def State.opened (b : State) (p : Packet) (o : Nat) (alt : Option Nat) (home slot : Nat) : State :=
  let u := b.fresh.2.updSlot (slotKey home slot) (fun sl => { sl with ctx := some (newStream p (openNode p o) (openPri p) alt b.bell) })
  if alt.isNone then u.note 0x6 .streamNoAlt 1 (tgtTile (b.homeServer home)) else u

/-- The result of STREAM_OPEN. -/
def State.openResult (u : State) (p : Packet) (alt : Option Nat) (home slot : Nat) : List Byte :=
  leBytes 4 (u.handleOf (slotKey home slot)) ++ leBytes 1 home ++ leBytes 1 (openPri p) ++ leBytes 1 (alt.getD 255) ++ [0]

section
variable (b : State) (p : Packet) (o : Nat) (alt : Option Nat) (home slot : Nat)

theorem State.opened_logged :
    Logged (b.fresh.2.updSlot (slotKey home slot) (fun sl => { sl with ctx := some (newStream p (openNode p o) (openPri p) alt b.bell) }))
      (b.opened p o alt home slot) := by
  unfold State.opened
  dsimp only
  split
  · exact State.note_logged ..
  · exact .refl _

theorem State.opened_stream : (b.opened p o alt home slot).stream (slotKey home slot) = some (newStream p (openNode p o) (openPri p) alt b.bell) ∧
    ∀ k, k ≠ slotKey home slot → (b.opened p o alt home slot).stream k = b.stream k := by
  have hslots : ∀ k, (b.opened p o alt home slot).stream k = (b.fresh.2.updSlot (slotKey home slot)
      (fun sl => { sl with ctx := some (newStream p (openNode p o) (openPri p) alt b.bell) })).stream k := fun k => by
    rw [(b.opened_logged p o alt home slot).1]
    rfl
  exact ⟨(hslots _).trans (State.stream_updSlot_same fun _ _ => rfl), fun k hk => (hslots k).trans (State.stream_updSlot_ne hk _)⟩

theorem State.opened_frame : b.keepsRegs (b.opened p o alt home slot) logRegs ∧ b.keepsMemory (b.opened p o alt home slot) := by
  obtain ⟨hf, hr⟩ := b.opened_logged p o alt home slot
  exact ⟨hr, fun a => by rw [hf]; exact ⟨rfl, rfl, rfl⟩⟩

theorem State.opened_mirrors : (b.opened p o alt home slot).mirrors = b.mirrors := by
  obtain ⟨hf, hr⟩ := b.opened_logged p o alt home slot
  have htwin : (b.opened p o alt home slot).twin = b.twin := by rw [hf]; rfl
  have hstate : (b.opened p o alt home slot).twinState = b.twinState :=
    congrArg F.TWIN_STAT_STATE.ext (hr R.TWIN_STAT (by decide))
  rw [State.mirrors, htwin, hstate]
  rfl

end

/-- Where a Homeroom has room, STREAM_OPEN puts a context into a free slot of the one chosen. -/
theorem streamOpen_act_opens {alt : Option Nat} (hh : b.autoHome (openPri p) (b.openHomes p) = some home) (hw : b.twin.want = none)
    (hfree : ∃ i, i < slotsPerTile ∧ b.stream (slotKey home i) = none) (halt : alt = b.openAlt p o) :
    ∃ slot < slotsPerTile, b.stream (slotKey home slot) = none ∧
      streamOpenDef.act b p o id = .now (b.opened p o alt home slot) stOk 0 ((b.opened p o alt home slot).openResult p alt home slot) [] := by
  obtain ⟨i, hi, hnone⟩ := hfree
  obtain ⟨slot, hslot, htaken, hpick⟩ := State.pickFree_free (taken := fun i => (b.stream (slotKey home i)).isSome) hw ⟨i, hi, by simp [hnone]⟩
  have hroom : (b.openHomes p).all (fun t => decide (slotsPerTile ≤ b.openCount t)) = false := by
    rw [Bool.eq_false_iff, ne_eq, ← b.autoHome_eq_none_iff (openPri p), hh]
    simp
  have hhomes : (if (p.w 2 != 0xFF) = true then [p.w 2] else b.homeTiles.filter (fun t => !b.homeFailed t)) = b.openHomes p := by
    simp [State.openHomes]
  unfold State.openAlt at halt
  subst halt
  refine ⟨slot, hslot, by simpa using htaken, ?_⟩
  simp only [streamOpenDef, hhomes, hroom, Bool.false_eq_true, if_false, hh, hpick, Option.getD_some, State.opened, State.openResult,
    State.updSlot]

/-- Where every Homeroom is full and no stream may be reclaimed, STREAM_OPEN is counted and refused. -/
theorem streamOpen_act_full (hh : b.autoHome (openPri p) (b.openHomes p) = none) (hr : b.reclaimPick (b.openHomes p) = none) :
    streamOpenDef.act b p o id = .now (b.bump (F.STRM_CNT_FULL (portTile (openPri p)))) stTableFull
      (if p.w 2 ≠ 0xFF then slotsPerTile else slotsPerTile * b.homeTiles.length) [] [] := by
  have hfull := (b.autoHome_eq_none_iff (openPri p) (b.openHomes p)).1 hh
  have hhomes : (if (p.w 2 != 0xFF) = true then [p.w 2] else b.homeTiles.filter (fun t => !b.homeFailed t)) = b.openHomes p := by
    simp [State.openHomes]
  simp only [streamOpenDef, hhomes, hfull, if_true, hr, hh]
  simp

end

section
variable {s : State} {p : Packet} {o home : Nat}

theorem streamOpen_opens (ha : s.accepts streamOpenDef p o) (hm : (s.begun p).mirrors = false) (hw : (s.begun p).twin.want = none)
    (hh : (s.begun p).autoHome (openPri p) ((s.begun p).openHomes p) = some home)
    (hfree : ∃ i, i < slotsPerTile ∧ (s.begun p).stream (slotKey home i) = none) :
    let b := s.begun p
    ∃ u slot, exec (.streamOpen p) s = .next (u.replies p (u.openResult p (b.openAlt p o) home slot)) ∧ slot < slotsPerTile ∧
      b.stream (slotKey home slot) = none ∧
      u.stream (slotKey home slot) = some (newStream p (openNode p o) (openPri p) (b.openAlt p o) b.bell) ∧
      (∀ k, k ≠ slotKey home slot → u.stream k = b.stream k) ∧ b.keepsRegs u logRegs ∧ b.keepsMemory u := by
  intro b
  obtain ⟨slot, hslot, hnone, hact⟩ := streamOpen_act_opens (b := b) (o := o) (id := b.proctor.nextId) hh hw hfree rfl
  obtain ⟨hnew, hothers⟩ := b.opened_stream p o (b.openAlt p o) home slot
  obtain ⟨hregs, hmem⟩ := b.opened_frame p o (b.openAlt p o) home slot
  refine ⟨b.opened p o (b.openAlt p o) home slot, slot, ?_, hslot, hnone, hnew, hothers, hregs, hmem⟩
  have hx : exec (.streamOpen p) s = .next (runCmd streamOpenDef p s) := rfl
  rw [hx, runCmd_accepted ha, show s.begun p = b from rfl, hact]
  refine congrArg Host.Outcome.next (State.conclude_unmirrored rfl ((b.opened_mirrors p o (b.openAlt p o) home slot).trans hm) ?_ (.inl rfl))
  simp [State.openResult, leBytes_length]

theorem streamOpen_full (ha : s.accepts streamOpenDef p o) (hm : (s.begun p).mirrors = false)
    (hh : (s.begun p).autoHome (openPri p) ((s.begun p).openHomes p) = none)
    (hr : (s.begun p).reclaimPick ((s.begun p).openHomes p) = none) :
    let b := s.begun p
    let r := (b.bump (F.STRM_CNT_FULL (portTile (openPri p)))).place p stTableFull
      (if p.w 2 ≠ 0xFF then slotsPerTile else slotsPerTile * b.homeTiles.length) []
    exec (.streamOpen p) s = .next (r.1.postFinal p.path r.2) := by
  intro b r
  have hx : exec (.streamOpen p) s = .next (runCmd streamOpenDef p s) := rfl
  have hkeep : (b.bump (F.STRM_CNT_FULL (portTile (openPri p)))).twinState = b.twinState :=
    State.f_setF_off (by simp only [F.TWIN_STAT_STATE, F.STRM_CNT_FULL, R.TWIN_STAT, R.STRM_CNT_FULL, tileBase]; omega) _
  have hmirrors : (b.bump (F.STRM_CNT_FULL (portTile (openPri p)))).mirrors = false := by
    rw [State.mirrors, hkeep, State.bump_twin]
    exact hm
  rw [hx, runCmd_accepted ha, show s.begun p = b from rfl, streamOpen_act_full hh hr]
  exact congrArg Host.Outcome.next (State.conclude_unmirrored rfl hmirrors (by simp) (.inl rfl))

end

/-! ### STREAM_CLOSE and STREAM_QUERY (R229) -/

section
variable {s : State} {p : Packet} {o key : Nat} {c : Stream}

/-- A stream that drains: it is CLOSING since its first close, and one more command waits for its end. -/
def Stream.draining (c : Stream) (bell run : Nat) : Stream :=
  { c with state := .closing, stateAt := if c.state = .closing then c.stateAt else bell, closeRuns := c.closeRuns ++ [run] }

theorem streamClose_closes (ha : s.accepts streamCloseDef p o) (hk : (s.begun p).liveKey (p.w 0) = some key)
    (hc : (s.begun p).stream key = some c) (hmode : p.w 1 = 1 ∨ c.state = .faulted) :
    let b := s.begun p
    ∃ u : State, u = (b.closeStream key 0).pumpStreams ∧ exec (.streamClose p) s = .next (u.conclude 0x601 o false p stOk 0 [] [] (undoOf b u)) := by
  intro b
  have hx : exec (.streamClose p) s = .next (runCmd streamCloseDef p s) := rfl
  have hact : streamCloseDef.act b p o b.proctor.nextId = .now (b.closeStream key 0).pumpStreams stOk 0 [] [] := by
    simp only [streamCloseDef, show b.liveKey (p.w 0) = some key from hk, show b.stream key = some c from hc]
    exact if_pos (by simpa using hmode)
  rw [hx, runCmd_accepted ha, show s.begun p = b from rfl, hact]
  exact ⟨_, rfl, rfl⟩

theorem streamClose_drains (ha : s.accepts streamCloseDef p o) (hk : (s.begun p).liveKey (p.w 0) = some key)
    (hc : (s.begun p).stream key = some c) (hmode : p.w 1 = 0) (hf : c.state ≠ .faulted) :
    let b := s.begun p
    ∃ t : State, exec (.streamClose p) s = .next t ∧ t.stream key = some (c.draining b.bell b.proctor.nextId) ∧
      b.runsOn t p o 0x601 ∧ t.regs = b.regs ∧ b.keepsMemory t := by
  intro b
  generalize hu : b.updStream key (fun c => c.draining b.bell b.proctor.nextId) = u
  have hact : streamCloseDef.act b p o b.proctor.nextId = .later u := by
    simp only [streamCloseDef, show b.liveKey (p.w 0) = some key from hk, show b.stream key = some c from hc]
    exact (if_neg (by simp [hmode, hf])).trans (congrArg Effect.later hu)
  have hproctor : u.proctor = b.proctor := hu ▸ rfl
  obtain ⟨hruns, hregs⟩ := runCmd_later ha hact hproctor
  have hmem : b.keepsMemory u := fun a => hu ▸ ⟨rfl, rfl, rfl⟩
  have hstream : (runCmd streamCloseDef p s).stream key = u.stream key := by
    rw [runCmd_starts ha hact (congrArg Proctor.nextId hproctor)]
    rfl
  refine ⟨runCmd streamCloseDef p s, rfl, hstream.trans ?_, hruns, hregs.trans (hu ▸ rfl), hmem.trans (runCmd_later_frame ha hact).2⟩
  rw [← hu]
  exact State.stream_updStream_same hc _

theorem State.streamRecord_length (s : State) (key : Nat) (c : Stream) : (s.streamRecord key c).length = 32 := by
  simp [State.streamRecord, leBytes_length]

theorem streamQuery_answers (ha : s.accepts streamQueryDef p o) (hk : (s.begun p).liveKey (p.w 0) = some key)
    (hc : (s.begun p).stream key = some c) : exec (.streamQuery p) s = .next ((s.begun p).replies p ((s.begun p).streamRecord key c)) := by
  have hx : exec (.streamQuery p) s = .next (runCmd streamQueryDef p s) := rfl
  have hact : streamQueryDef.act (s.begun p) p o (s.begun p).proctor.nextId = .now (s.begun p) stOk 0 ((s.begun p).streamRecord key c) [] := by
    simp only [streamQueryDef, hk, Option.bind_some, hc, Option.map_some]
  rw [hx, runCmd_accepted ha, hact]
  exact congrArg Host.Outcome.next (State.conclude_plain _ rfl (by decide))

end

/-! ### Stream timers and held notices (R229, R230) -/

section
variable {s : State} {h : BitVec 32} {key : Nat} {c : Stream}

/-- Is all that a stream has sent acknowledged, and all that it has received delivered? -/
def State.drained (s : State) (key : Nat) (c : Stream) : Prop :=
  s.allAcked key = true ∧ c.waiting = [] ∧ s.pool.held.any (fun x => x.stream == some key) = false

/-- SUSPEND_TMO of the stream's Homeroom, in µs. -/
def State.suspendTmo (s : State) (key : Nat) : Nat := s.f (F.STRM_CTL_SUSPEND_TMO (s.homeServer (key / 2 ^ 15))) * 1000000

section
variable (hk : s.liveKey h.toNat = some key) (hc : s.stream key = some c)
include hk hc

theorem exec_streamCloseDrained_ends (hs : c.state = .closing) (hd : s.drained key c ∨ c.stateAt + 100000 ≤ s.bell) :
    exec (.streamCloseDrained h) s = .next (s.closeStream key 0).pumpStreams := by
  have hx : exec (.streamCloseDrained h) s = execStreamCloseDrained h s := rfl
  rw [hx]
  unfold execStreamCloseDrained
  rw [State.liveStream hk hc]
  refine if_pos ?_
  rcases hd with ⟨hack, hwait, hheld⟩ | hd
  · simp only [hs, hack, hwait, hheld]
    rfl
  · simp only [hs, decide_eq_true hd]
    simp

theorem exec_streamCloseDrained_waits (hw : c.state ≠ .closing ∨ (¬ s.drained key c ∧ s.bell < c.stateAt + 100000)) :
    exec (.streamCloseDrained h) s = .next s := by
  have hx : exec (.streamCloseDrained h) s = execStreamCloseDrained h s := rfl
  rw [hx]
  unfold execStreamCloseDrained
  rw [State.liveStream hk hc]
  refine if_neg fun hif => ?_
  simp only [Bool.and_eq_true, Bool.or_eq_true, decide_eq_true_eq, List.isEmpty_iff, Bool.not_eq_true'] at hif
  obtain ⟨hs, ⟨⟨hack, hwait⟩, hheld⟩ | hlate⟩ := hif
  · rcases hw with hw | ⟨hw, -⟩
    · exact hw hs
    · exact hw ⟨hack, hwait, hheld⟩
  · rcases hw with hw | ⟨-, hw⟩
    · exact hw hs
    · omega

theorem exec_streamSuspendTimeout_early (hw : s.bell < c.stateAt + s.suspendTmo key) : exec (.streamSuspendTimeout h) s = .next s := by
  have hx : exec (.streamSuspendTimeout h) s = execStreamSuspendTimeout h s := rfl
  rw [hx]
  unfold execStreamSuspendTimeout
  rw [State.liveStream hk hc]
  exact if_pos hw

theorem exec_streamSuspendTimeout_suspended (hw : c.stateAt + s.suspendTmo key ≤ s.bell) (hs : c.state = .suspended) :
    exec (.streamSuspendTimeout h) s =
      .next (((s.closeStream key 3).note 0x6 .streamSuspend 2 (tgtTile (s.homeServer (key / 2 ^ 15)))).pumpStreams) := by
  have hx : exec (.streamSuspendTimeout h) s = execStreamSuspendTimeout h s := rfl
  rw [hx]
  unfold execStreamSuspendTimeout
  rw [State.liveStream hk hc]
  exact (if_neg (Nat.not_lt.2 hw)).trans (if_pos hs)

theorem exec_streamSuspendTimeout_faulted (hw : c.stateAt + s.suspendTmo key ≤ s.bell) (hs : c.state = .faulted) :
    exec (.streamSuspendTimeout h) s = .next ((s.freeSlot key).streamGone key) := by
  have hx : exec (.streamSuspendTimeout h) s = execStreamSuspendTimeout h s := rfl
  rw [hx]
  unfold execStreamSuspendTimeout
  rw [State.liveStream hk hc]
  exact (if_neg (Nat.not_lt.2 hw)).trans ((if_neg (by simp [hs])).trans (if_pos hs))

/-- A stream whose primary has been UP for RETURN_HOLD holds new units, and returns once the alternate is clear. -/
theorem exec_streamReturnHold (hs : c.state = .onAlt) (hu : s.upTo c.pri c.epNode = true)
    (ht : (s.link c.pri).upSince + s.f (F.STRM_CTL_RETURN_HOLD (s.homeServer (key / 2 ^ 15))) * 100000 ≤ s.bell) :
    let s1 := s.updStream key (fun c => { c with returning := true })
    exec (.streamReturnHold h) s =
      .next (if s1.linkClear key then (s1.updStream key (fun c => { c with state := .open_, returning := false })).flushHeldTx key else s1) := by
  intro s1
  have hx : exec (.streamReturnHold h) s = execStreamReturnHold h s := rfl
  have hc1 : s1.stream key = some { c with returning := true } := State.stream_updStream_same hc _
  have hreturn : s1.returnPrimary key =
      if s1.linkClear key then (s1.updStream key (fun c => { c with state := .open_, returning := false })).flushHeldTx key else s1 := by
    unfold State.returnPrimary
    rw [hc1]
    simp [hs]
  rw [hx, ← hreturn]
  unfold execStreamReturnHold
  rw [State.liveStream hk hc]
  exact if_pos (by
    simp only [Bool.and_eq_true, decide_eq_true_eq]
    exact ⟨⟨hs, hu⟩, ht⟩)

end

end

end Sys2Proof.Machine
end

section
/-! SUPPORT. Reserve tiles released and returned (R31, R32, R236, R287). -/

namespace Sys2Proof.Machine

/-! ### What leaves TILE_ROLE alone -/

section
variable {s : State}

theorem State.rewriteDist_role (s : State) (t : Nat) : s.rewriteDist.rd (R.TILE_ROLE t) = s.rd (R.TILE_ROLE t) :=
  s.rewriteDist_rd fun a _ => by
    refine ⟨by simp only [R.TILE_ROLE, R.TILE_DIST_GEN, tileBase]; omega, fun n hn => ?_⟩
    have := List.mem_range.1 hn
    simp only [R.TILE_ROLE, R.TILE_DIST, tileBase]
    omega

theorem role_ne_omeStat (t r : Nat) : R.TILE_ROLE t ≠ R.OME_STAT r := by
  simp only [R.TILE_ROLE, R.OME_STAT, tileBase]
  omega

theorem State.omeStart_role (s : State) (r t : Nat) : (s.omeStart r).rd (R.TILE_ROLE t) = s.rd (R.TILE_ROLE t) :=
  s.omeStart_rd r (role_ne_omeStat t r)

theorem State.omeStop_rd (s : State) (r st : Nat) {off : Nat} (h : off ≠ R.OME_STAT r) : (s.omeStop r st).rd off = s.rd off := by
  have hkeeps := s.setFs_keeps [(F.OME_STAT_STATE r, st), (F.OME_STAT_PILOT_LOCK r, 0), (F.OME_STAT_BANK_A_OK r, 0), (F.OME_STAT_BANK_B_OK r, 0)]
    off (by simp [F.OME_STAT_STATE, F.OME_STAT_PILOT_LOCK, F.OME_STAT_BANK_A_OK, F.OME_STAT_BANK_B_OK, h])
  unfold State.omeStop
  generalize s.setFs _ = u at hkeeps ⊢
  refine (State.rd_of_regs ?_ off).trans hkeeps
  dsimp only
  exact State.updOme_regs ..

theorem State.omeStop_role (s : State) (r st t : Nat) : (s.omeStop r st).rd (R.TILE_ROLE t) = s.rd (R.TILE_ROLE t) :=
  s.omeStop_rd r st (role_ne_omeStat t r)

/-- RELEASED is read from TILE_ROLE. -/
theorem State.released_of_role {u : State} {t : Nat} (h : u.rd (R.TILE_ROLE t) = s.rd (R.TILE_ROLE t)) :
    u.f (F.TILE_ROLE_RELEASED t) = s.f (F.TILE_ROLE_RELEASED t) := congrArg (F.TILE_ROLE_RELEASED t).ext h

/-- A tile that adopts duties stands in; it is as released as before. -/
theorem State.adoptOrphan_released (h : s.canonical) (r t : Nat) :
    (s.adoptOrphan r).f (F.TILE_ROLE_RELEASED t) = s.f (F.TILE_ROLE_RELEASED t) := by
  unfold State.adoptOrphan
  dsimp only
  split
  · rfl
  · split
    · rfl
    · next orphan _ _ =>
      rw [State.released_of_role (State.rewriteDist_role ..), State.released_of_role (State.omeStart_role ..)]
      by_cases hr : R.TILE_ROLE t = R.TILE_ROLE r
      · have htr : t = r := by simpa [R.TILE_ROLE, tileBase] using hr
        subst htr
        rw [State.f, State.f]
        refine (congrArg (F.TILE_ROLE_RELEASED t).ext (State.policyReg_rd_same h ..)).trans ?_
        rw [Fld.ext_ins_ne (F.TILE_ROLE_STANDIN_FOR t) _ _ _ (.inr (by simp [F.TILE_ROLE_RELEASED, F.TILE_ROLE_STANDIN_FOR])),
          Fld.ext_ins_ne (F.TILE_ROLE_STANDIN t) _ _ _ (.inr (by simp [F.TILE_ROLE_RELEASED, F.TILE_ROLE_STANDIN]))]
        rfl
      · exact State.released_of_role (State.policyReg_rd _ _ hr _)

theorem State.adoptFree_released (h : s.canonical) (t : Nat) : s.adoptFree.f (F.TILE_ROLE_RELEASED t) = s.f (F.TILE_ROLE_RELEASED t) := by
  unfold State.adoptFree State.each
  generalize [12, 23, 24, 35] = l
  induction l generalizing s with
  | nil => rfl
  | cons r l ih => exact (ih (((Kept.refl s).adoptOrphan r).2 h)).trans (State.adoptOrphan_released h r t)

end

/-! ### STREAM_RESERVE_RELEASE and STREAM_RESERVE_RETURN (R236) -/

section
variable {s : State} {p : Packet} {o : Nat}

theorem State.b_eq_false {x : Fld} (h : s.f x = 0) : s.b x = false := by simp [State.b, h]

theorem State.b_eq_true {x : Fld} (h : s.f x = 1) : s.b x = true := by simp [State.b, h]

theorem reserveRelease_again (ha : s.accepts reserveReleaseDef p o) (hm : (s.begun p).mirrors = false)
    (h : (s.begun p).f (F.TILE_ROLE_RELEASED p.unit) = 1) : exec (.streamReserveRelease p) s = .next ((s.begun p).replies p []) := by
  have hx : exec (.streamReserveRelease p) s = .next (runCmd reserveReleaseDef p s) := rfl
  have hact : reserveReleaseDef.act (s.begun p) p o (s.begun p).proctor.nextId = .now (s.begun p) stOk 0 [] [] :=
    if_pos (State.b_eq_true h)
  rw [hx, runCmd_accepted ha, hact]
  exact congrArg Host.Outcome.next (State.conclude_unmirrored rfl hm (by simp) (.inr rfl))

theorem reserveRelease_releases (ha : s.accepts reserveReleaseDef p o) (h : (s.begun p).f (F.TILE_ROLE_RELEASED p.unit) = 0) :
    let b := s.begun p
    ∃ (u : State) (ch : List JChange), ch ≠ [] ∧ u = ((b.setF (F.TILE_ROLE_RELEASED p.unit) 1).omeStart p.unit).rewriteDist ∧
      exec (.streamReserveRelease p) s = .next (u.conclude 0x620 o true p stOk 0 [] ch (undoOf b u)) ∧
      (s.canonical → u.f (F.TILE_ROLE_RELEASED p.unit) = 1) := by
  intro b
  have hx : exec (.streamReserveRelease p) s = .next (runCmd reserveReleaseDef p s) := rfl
  generalize hs1 : (b.setF (F.TILE_ROLE_RELEASED p.unit) 1).omeStart p.unit = s1
  have hact : reserveReleaseDef.act b p o b.proctor.nextId =
      .now s1.rewriteDist stOk 0 [] (b.regChangeAt p.target.toNat (R.TILE_ROLE p.unit) (s1.rd (R.TILE_ROLE p.unit))) := by
    rw [← hs1]
    exact if_neg (by rw [State.b_eq_false h]; simp)
  rw [hx, runCmd_accepted ha, show s.begun p = b from rfl, hact]
  refine ⟨_, _, List.cons_ne_nil _ _, rfl, rfl, fun hs => ?_⟩
  rw [← hs1, State.released_of_role (State.rewriteDist_role ..), State.released_of_role (State.omeStart_role ..),
    State.f_setF_same (State.begun_canonical hs p).rising _ _ (by simp [F.TILE_ROLE_RELEASED])]
  rfl

theorem reserveReturn_again (ha : s.accepts reserveReturnDef p o) (hm : (s.begun p).mirrors = false)
    (hr : (s.begun p).f (F.TILE_ROLE_RELEASED p.unit) = 0) (hs : (s.begun p).f (F.TILE_ROLE_STANDIN p.unit) = 0) :
    exec (.streamReserveReturn p) s = .next ((s.begun p).replies p []) := by
  have hx : exec (.streamReserveReturn p) s = .next (runCmd reserveReturnDef p s) := rfl
  have hact : reserveReturnDef.act (s.begun p) p o (s.begun p).proctor.nextId = .now (s.begun p) stOk 0 [] [] :=
    if_pos (by rw [State.b_eq_false hr, State.b_eq_false hs]; rfl)
  rw [hx, runCmd_accepted ha, hact]
  exact congrArg Host.Outcome.next (State.conclude_unmirrored rfl hm (by simp) (.inr rfl))

/-- A tile neither released nor a stand-in. -/
def State.roleCleared (b : State) (t : Nat) : State :=
  b.setFs [(F.TILE_ROLE_RELEASED t, 0), (F.TILE_ROLE_STANDIN t, 0), (F.TILE_ROLE_STANDIN_FOR t, 0x3F)]

theorem State.roleCleared_released (h : s.canonical) (t : Nat) : (s.roleCleared t).f (F.TILE_ROLE_RELEASED t) = 0 := by
  unfold State.roleCleared
  rw [State.f_setFs_at h (v := 0) _ 0 rfl (by simp [F.TILE_ROLE_RELEASED])
    (by simp [Fld.apart, F.TILE_ROLE_RELEASED, F.TILE_ROLE_STANDIN, F.TILE_ROLE_STANDIN_FOR])]
  rfl

/-- A tile returned: its engine stops, and one that stood in for no tile may adopt duties. -/
def State.returned (b : State) (t : Nat) : State :=
  if b.b (F.TILE_ROLE_STANDIN t) then ((b.roleCleared t).omeStop t 1).rewriteDist else (((b.roleCleared t).omeStop t 1).rewriteDist).adoptFree

theorem State.returned_released (h : s.canonical) (t : Nat) : (s.returned t).f (F.TILE_ROLE_RELEASED t) = 0 := by
  have hstop : (((s.roleCleared t).omeStop t 1).rewriteDist).f (F.TILE_ROLE_RELEASED t) = 0 := by
    rw [State.released_of_role (State.rewriteDist_role ..), State.released_of_role (State.omeStop_role ..), State.roleCleared_released h]
  have hcanon : (((s.roleCleared t).omeStop t 1).rewriteDist).canonical :=
    ((((Kept.refl s).setFs _).omeStop t 1).rewriteDist).2 h
  unfold State.returned
  split
  · exact hstop
  · rw [State.adoptFree_released hcanon, hstop]

theorem reserveReturn_returns (ha : s.accepts reserveReturnDef p o)
    (h : (s.begun p).f (F.TILE_ROLE_RELEASED p.unit) = 1 ∨ (s.begun p).f (F.TILE_ROLE_STANDIN p.unit) = 1) :
    let b := s.begun p
    ∃ (u : State) (ch : List JChange), ch ≠ [] ∧
      exec (.streamReserveReturn p) s = .next (u.conclude 0x621 o true p stOk 0 [] ch (undoOf b u)) ∧
      (s.canonical → u.f (F.TILE_ROLE_RELEASED p.unit) = 0) := by
  intro b
  have hx : exec (.streamReserveReturn p) s = .next (runCmd reserveReturnDef p s) := rfl
  have hact : reserveReturnDef.act b p o b.proctor.nextId = .now (b.returned p.unit) stOk 0 []
      (b.regChangeAt p.target.toNat (R.TILE_ROLE p.unit) ((b.roleCleared p.unit).rd (R.TILE_ROLE p.unit))) :=
    if_neg (by rcases h with h | h <;> rw [State.b_eq_true h] <;> simp)
  rw [hx, runCmd_accepted ha, show s.begun p = b from rfl, hact]
  exact ⟨_, _, List.cons_ne_nil _ _, rfl, fun hs => State.returned_released (State.begun_canonical hs p) p.unit⟩

end

end Sys2Proof.Machine

open Sys2Proof Sys2Proof.Machine

/-- Settles O38: a stream opened or refused, closed, queried and timed out, its slot freed, the notices, and the reserve tiles. -/
theorem streamLifecycle : Obligations.StreamLifecycle := by
  unfold Obligations.StreamLifecycle
  refine ⟨fun p o home s ha hm hw => ⟨fun hh hfree _ => streamOpen_opens ha hm hw hh hfree, streamOpen_full ha hm⟩,
    fun p o key c s ha hk hc => ⟨streamClose_closes ha hk hc, streamClose_drains ha hk hc⟩,
    fun p o key c s ha hk hc => ⟨streamQuery_answers ha hk hc, State.streamRecord_length ..⟩,
    fun h key c s hk hc => ⟨exec_streamCloseDrained_ends hk hc, exec_streamCloseDrained_waits hk hc,
      fun ht => ⟨exec_streamSuspendTimeout_suspended hk hc ht, exec_streamSuspendTimeout_faulted hk hc ht⟩,
      exec_streamSuspendTimeout_early hk hc, exec_streamReturnHold hk hc⟩,
    fun key s hm hr h hh => State.freeSlot_spec hm hr hh,
    fun v s => ⟨fun hu => congrArg Host.Outcome.next (if_pos hu), fun hu => congrArg Host.Outcome.next (if_neg (by simp [hu]))⟩,
    fun p o s hm => ⟨fun ha h => reserveRelease_again ha hm h, reserveRelease_releases, fun ha hr hs => reserveReturn_again ha hm hr hs,
      reserveReturn_returns⟩⟩
end

section
/-! SUPPORT. Poison cleared, and memory cleared and copied in runs (R246, R254, R256). -/

namespace Sys2Proof.Machine

/-! ### Memory copied in runs (R246, R254) -/

/-- A memory with the listed bytes of `[src, src + n)` copied to `[dst, dst + n)`, and nothing else listed there. -/
def Memory.copied (m : List Host.Cell) (src dst n : Nat) : List Host.Cell :=
  (m.filter (fun e => decide (src ≤ e.1) && decide (e.1 < src + n))).foldl (fun (m : List Host.Cell) (e : Host.Cell) =>
    Map.set 0 m (dst + (e.1 - src)) e.2) (Memory.clear m dst n)

/-- Cells moved one by one from `src` to `dst` read there as they were listed; other bytes from `dst` on stay. -/
theorem Memory.byte_moved {src dst : Nat} {cells : List Host.Cell} (hr : Map.rising cells = true) (hs : ∀ e ∈ cells, src ≤ e.1)
    {m : List Host.Cell} (hm : Memory.wf m = true) (a : Nat) :
    Memory.byte (cells.foldl (fun m e => Map.set 0 m (dst + (e.1 - src)) e.2) m) (dst + a) =
      (Map.find (src + a) cells).getD (Memory.byte m (dst + a)) := by
  induction cells generalizing m with
  | nil => rfl
  | cons e cells ih =>
    obtain ⟨k, v⟩ := e
    obtain ⟨habove, hrise⟩ := (Map.rising_cons _ _).1 hr
    have hk : src ≤ k := hs (k, v) List.mem_cons_self
    rw [List.foldl_cons, ih hrise (fun e he => hs e (List.mem_cons_of_mem _ he)) (Map.canon_set hm), Map.find]
    split
    · next heq =>
      have hkey : dst + (k - src) = dst + a := by omega
      rw [heq, Map.find_above habove, hkey]
      exact Map.get_set_same (Map.canon_iff.1 hm).1 _ _
    · next hne => exact congrArg (Option.getD _) (Map.get_set_ne (by omega) m v)

/-- Cells moved to `dst` and above leave the bytes below it. -/
theorem Memory.byte_moved_below (src : Nat) {dst b : Nat} (h : b < dst) (cells m : List Host.Cell) :
    Memory.byte (cells.foldl (fun m e => Map.set 0 m (dst + (e.1 - src)) e.2) m) b = Memory.byte m b := by
  induction cells generalizing m with
  | nil => rfl
  | cons e cells ih => exact (ih _).trans (Map.get_set_ne (by omega) m e.2)

theorem State.canonical.dram {s : State} (h : s.canonical) : Memory.wf s.dram = true := by
  obtain ⟨-, -, -, hdram⟩ := h
  exact hdram

section
variable {m : List Host.Cell}

/-- A copy reads at its place as the original did, wherever the two overlap. -/
theorem Memory.byte_copied (hm : Memory.wf m = true) (src dst : Nat) {n a : Nat} (h : a < n) :
    Memory.byte (Memory.copied m src dst n) (dst + a) = Memory.byte m (src + a) := by
  have hr : Map.rising m = true := (Map.canon_iff.1 hm).1
  rw [Memory.copied, Memory.byte_moved (Map.rising_filter _ hr) (by simp +contextual) (Memory.wf_clear hm ..), Memory.byte_clear,
    if_pos (by omega), Map.find_filter_key (fun k => decide (src ≤ k) && decide (k < src + n)), if_pos (by simp [h])]
  rfl

theorem Memory.byte_copied_outside (hm : Memory.wf m = true) (src : Nat) {dst n b : Nat} (h : b < dst ∨ dst + n ≤ b) :
    Memory.byte (Memory.copied m src dst n) b = Memory.byte m b := by
  have hr : Map.rising m = true := (Map.canon_iff.1 hm).1
  have hclear : Memory.byte (Memory.clear m dst n) b = Memory.byte m b := by rw [Memory.byte_clear, if_neg (by omega)]
  rcases h with hb | hb
  · rw [Memory.copied, Memory.byte_moved_below src hb, hclear]
  · obtain ⟨a, rfl⟩ := Nat.exists_eq_add_of_le (Nat.le_of_add_right_le hb)
    rw [Memory.copied, Memory.byte_moved (Map.rising_filter _ hr) (by simp +contextual) (Memory.wf_clear hm ..),
      Map.find_filter_key (fun k => decide (src ≤ k) && decide (k < src + n)), if_neg (by simp; omega), hclear]
    rfl

end

/-! ### What moves only memory and poison -/

/-- `s` is `z` but for registers, the module's DRAM and the list of poisoned lines. -/
def State.onlyData (z s : State) : Prop := s = { z with regs := s.regs, dram := s.dram, pool := { z.pool with poison := s.pool.poison } }

section
variable {z s t : State}

theorem State.onlyData.refl (z : State) : z.onlyData z := rfl

theorem State.onlyData.trans (h : z.onlyData s) (k : s.onlyData t) : z.onlyData t := by
  unfold State.onlyData at *
  rw [k, h]

theorem State.onlyData.foldl {α : Type} (h : z.onlyData s) (l : List α) {f : State → α → State} (hf : ∀ (u : State) x, u.onlyData (f u x)) :
    z.onlyData (l.foldl f s) := by
  induction l generalizing s with
  | nil => exact h
  | cons x l ih => exact ih (h.trans (hf s x))

theorem State.onlyData.setF (h : z.onlyData s) (x : Fld) (v : Nat) : z.onlyData (s.setF x v) := h.trans rfl

theorem State.onlyData.updPoison (h : z.onlyData s) (g : List Nat → List Nat) :
    z.onlyData (s.updPool (fun p => { p with poison := g p.poison })) := h.trans rfl

theorem State.onlyData.pool (h : z.onlyData s) : s.pool = { z.pool with poison := s.pool.poison } := congrArg State.pool h

theorem State.onlyData.fam (h : z.onlyData s) : s.pool.fam = z.pool.fam := by rw [h.pool]

theorem State.onlyData.regions (h : z.onlyData s) : s.pool.regions = z.pool.regions := by rw [h.pool]

theorem State.onlyData.invals (h : z.onlyData s) : s.pool.invals = z.pool.invals := by rw [h.pool]

theorem State.onlyData.famEntry (h : z.onlyData s) (i : Nat) : s.famEntry i = z.famEntry i := by rw [State.famEntry, h.fam, State.famEntry]

theorem State.onlyData.memories (h : z.onlyData s) : s.host = z.host ∧ s.sq = z.sq := by
  unfold State.onlyData at h
  rw [h]
  exact ⟨rfl, rfl⟩

end

theorem State.onlyData_dram (s : State) (m : List Host.Cell) : s.onlyData { s with dram := m } := rfl

/-! ### Poison cleared (R256) -/

theorem State.clearPoison_onlyData (s : State) (line : Nat) : s.onlyData (s.clearPoison line) := by
  unfold State.clearPoison
  split
  · exact ((State.onlyData.refl s).updPoison (·.erase line)).setF _ _
  · exact .refl s

theorem State.clearPoison_dram (s : State) (line : Nat) : (s.clearPoison line).dram = s.dram := by
  unfold State.clearPoison
  split
  · exact State.setF_dram ..
  · rfl

theorem State.clearPoison_poison (s : State) (line : Nat) : (s.clearPoison line).pool.poison = s.pool.poison.erase line := by
  unfold State.clearPoison State.poisoned
  split
  · rfl
  · next h => rw [List.erase_of_not_mem (by simpa using h)]

theorem State.clearPoison_keeps (s : State) (line : Nat) : s.keepsRegs (s.clearPoison line) [R.MEM_POISON (line * 64 / 2 ^ 40)] := by
  unfold State.clearPoison
  split
  · exact State.keepsRegs_setF (s.updPool _) (F.MEM_POISON (line * 64 / 2 ^ 40)) _
  · exact fun _ _ => rfl

section
variable (ls : List Nat) (s : State)

theorem State.clearPoisons_dram : (ls.foldl State.clearPoison s).dram = s.dram := by
  induction ls generalizing s with
  | nil => rfl
  | cons l ls ih => rw [List.foldl_cons, ih, State.clearPoison_dram]

theorem State.clearPoisons_poison : (ls.foldl State.clearPoison s).pool.poison = s.pool.poison.diff ls := by
  induction ls generalizing s with
  | nil => rfl
  | cons l ls ih => rw [List.foldl_cons, ih, State.clearPoison_poison, List.diff_cons]

theorem State.clearPoisons_keeps {W : List Nat} (hW : ∀ l ∈ ls, R.MEM_POISON (l * 64 / 2 ^ 40) ∈ W) :
    s.keepsRegs (ls.foldl State.clearPoison s) W := by
  induction ls generalizing s with
  | nil => exact fun _ _ => rfl
  | cons l ls ih =>
    have hl : s.keepsRegs (s.clearPoison l) W := (s.clearPoison_keeps l).mono (by simpa using hW l List.mem_cons_self)
    exact hl.trans (ih _ fun k hk => hW k (List.mem_cons_of_mem _ hk))

end

/-! ### Frames zeroed (R246) -/

/-- A byte of the frame with a key. -/
abbrev inFrame (k b : Nat) : Prop := dramKey (k / 2 ^ 17) (k % 2 ^ 17) 0 ≤ b ∧ b < dramKey (k / 2 ^ 17) (k % 2 ^ 17) 0 + 2 ^ 21

theorem State.zeroFrame_onlyData (s : State) (k : Nat) : s.onlyData (s.zeroFrame k) := by
  unfold State.zeroFrame
  exact State.onlyData.foldl (s.onlyData_dram _) _ State.clearPoison_onlyData

theorem State.byte_zeroFrame (s : State) (k b : Nat) :
    Memory.byte (s.zeroFrame k).dram b = if inFrame k b then 0 else Memory.byte s.dram b := by
  unfold State.zeroFrame
  rw [State.clearPoisons_dram, Memory.byte_clear]

/-- A byte is 0 in a frame that has been zeroed, and as before in every other one. -/
theorem State.byte_zeroFrames (ks : List Nat) (s : State) (b : Nat) :
    Memory.byte (ks.foldl State.zeroFrame s).dram b = if ∃ k ∈ ks, inFrame k b then 0 else Memory.byte s.dram b := by
  induction ks generalizing s with
  | nil => simp
  | cons k ks ih =>
    rw [List.foldl_cons, ih, State.byte_zeroFrame]
    simp only [List.exists_mem_cons_iff]
    by_cases hk : inFrame k b
    · rw [if_pos hk, ite_self, if_pos (.inl hk)]
    · simp only [hk, if_false, false_or]

/-! ### Memory copied (R254) -/

section
variable (s : State) (src dst n : Nat)

/-- The lines of the place that a copy writes, as far as they are poisoned. -/
def State.overwritten : List Nat := s.pool.poison.filter (fun l => decide (dst / 64 ≤ l) && decide (l < (dst + n) / 64))

/-- A copy as the bytes copied, the poison that they overwrite cleared, and that of the original added. -/
theorem State.copyMem_eq : ∃ bad, s.copyMem src dst n =
    (((s.overwritten dst n).foldl State.clearPoison { s with dram := Memory.copied s.dram src dst n }).updPool (fun p =>
      { p with poison := bad ++ p.poison })).setF (F.MEM_POISON (dst / 2 ^ 40))
      (((s.overwritten dst n).foldl State.clearPoison { s with dram := Memory.copied s.dram src dst n }).f (F.MEM_POISON (dst / 2 ^ 40)) + bad.length) := by
  unfold State.copyMem State.overwritten
  generalize dst / 2 ^ 40 = t
  exact ⟨_, rfl⟩

theorem State.copyMem_onlyData : s.onlyData (s.copyMem src dst n) := by
  obtain ⟨bad, he⟩ := s.copyMem_eq src dst n
  rw [he]
  exact (State.onlyData.foldl (s.onlyData_dram _) _ State.clearPoison_onlyData).updPoison (bad ++ ·) |>.setF _ _

theorem State.copyMem_dram : (s.copyMem src dst n).dram = Memory.copied s.dram src dst n := by
  obtain ⟨bad, he⟩ := s.copyMem_eq src dst n
  rw [he, State.setF_dram, State.updPool_dram, State.clearPoisons_dram]

theorem State.copyMem_keeps : s.keepsRegs (s.copyMem src dst n)
    (R.MEM_POISON (dst / 2 ^ 40) :: s.pool.poison.map (fun l => R.MEM_POISON (l * 64 / 2 ^ 40))) := by
  obtain ⟨bad, he⟩ := s.copyMem_eq src dst n
  have hclear := State.clearPoisons_keeps (s.overwritten dst n) { s with dram := Memory.copied s.dram src dst n }
    (W := R.MEM_POISON (dst / 2 ^ 40) :: s.pool.poison.map (fun l => R.MEM_POISON (l * 64 / 2 ^ 40)))
    fun l hl => List.mem_cons_of_mem _ (List.mem_map.2 ⟨l, List.mem_of_mem_filter hl, rfl⟩)
  rw [he]
  exact State.keepsRegs.trans hclear
    ((State.keepsRegs_setF (State.updPool _ _) (F.MEM_POISON (dst / 2 ^ 40)) _).mono fun a ha => List.mem_cons.2 (.inl (List.mem_singleton.1 ha)))

end

end Sys2Proof.Machine
end

section
/-! SUPPORT. Poisoned lines, stores over them, the patrol scrub, and memory that returns to service (R256 to R258). -/

namespace Sys2Proof.Machine

/-! ### A line found bad (R255 to R257) -/

/-- `s` is `z` but for registers, the Report Card, the fault collectors and the pool, whose scrub positions stay. -/
def State.onlyHealth (z s : State) : Prop :=
  s = { z with regs := s.regs, report := s.report, faults := s.faults, pool := { s.pool with scrubHi := z.pool.scrubHi } }

section
variable {z s t : State}

theorem State.onlyHealth.refl (z : State) : z.onlyHealth z := rfl

theorem State.onlyHealth.trans (h : z.onlyHealth s) (k : s.onlyHealth t) : z.onlyHealth t := by
  unfold State.onlyHealth at *
  rw [k, h]

theorem State.onlyHealth.bump (h : z.onlyHealth s) (x : Fld) (n : Nat) : z.onlyHealth (s.bump x n) := h.trans rfl

theorem State.onlyHealth.updPool (h : z.onlyHealth s) {g : Pool → Pool} (hg : ∀ p, (g p).scrubHi = p.scrubHi) : z.onlyHealth (s.updPool g) := by
  refine h.trans ?_
  unfold State.onlyHealth State.updPool
  dsimp only
  rw [← hg s.pool]

theorem State.onlyHealth.note (h : z.onlyHealth s) (g : Nat) (e : RecEv) (sev source : Nat) (v : Int) : z.onlyHealth (s.note g e sev source v) := by
  refine h.trans ?_
  unfold State.onlyHealth
  rw [(s.note_logged g e sev source v).1]

theorem State.onlyHealth.raise (h : z.onlyHealth s) (n bit : Nat) : z.onlyHealth (s.raise n bit) := by
  refine h.trans ?_
  have hf := (s.raise_faulted n bit 0 false).1
  unfold State.onlyFaults at hf
  unfold State.onlyHealth
  rw [hf]

theorem State.onlyHealth.eq (h : z.onlyHealth s) :
    s = { z with regs := s.regs, report := s.report, faults := s.faults, pool := { s.pool with scrubHi := z.pool.scrubHi } } := h

theorem State.onlyHealth.keepsMemory (h : z.onlyHealth s) : z.keepsMemory s := by
  have hsq : s.sq = z.sq := by rw [h.eq]
  have hhost : s.host = z.host := by rw [h.eq]
  have hdram : s.dram = z.dram := by rw [h.eq]
  exact fun a => ⟨by rw [hsq], by rw [hhost], by rw [hdram]⟩

theorem State.onlyHealth.scrubHi (h : z.onlyHealth s) : s.pool.scrubHi = z.pool.scrubHi := congrArg (fun u => u.pool.scrubHi) h

end

section
variable (s : State) (line : Nat)

/-- A line newly found bad: listed as poisoned, counted, recorded and raised. -/
def State.poisoning : State :=
  (((((s.updPool (fun p => { p with poison := line :: p.poison })).bump (F.MEM_UE (line * 64 / 2 ^ 40))).bump
    (F.MEM_POISON (line * 64 / 2 ^ 40))).note 0x3 .poison 3 (tgtTile (line * 64 / 2 ^ 40)))).raise (line * 64 / 2 ^ 40) 26

theorem State.poisonLine_new {s : State} {line : Nat} (h : s.poisoned line = false) : s.poisonLine line = s.poisoning line :=
  if_neg (by simp [h])

theorem State.poisoning_onlyHealth : s.onlyHealth (s.poisoning line) := by
  have hlisted : s.onlyHealth (s.updPool (fun p => { p with poison := line :: p.poison })) := (State.onlyHealth.refl s).updPool fun _ => rfl
  exact (((hlisted.bump _ 1).bump _ 1).note 0x3 .poison 3 _ 0).raise _ 26

theorem State.raise_pool (n bit : Nat) : (s.raise n bit).pool = s.pool := by rw [(s.raise_faulted n bit 0 false).1]

theorem State.poisoning_poisoned : (s.poisoning line).poisoned line = true := by
  have hpool : (s.poisoning line).pool.poison = line :: s.pool.poison := by
    unfold State.poisoning
    rw [State.raise_pool, State.note_pool, State.bump_pool, State.bump_pool]
    rfl
  simp [State.poisoned, hpool]

theorem State.poisonLine_onlyHealth : s.onlyHealth (s.poisonLine line) := by
  by_cases h : s.poisoned line = true
  · rw [State.poisonLine, if_pos h]
    exact .refl s
  · rw [State.poisonLine_new (by simpa using h)]
    exact s.poisoning_onlyHealth line

theorem State.correctedLine_onlyHealth : s.onlyHealth (s.correctedLine line) := by
  unfold State.correctedLine
  generalize line * 64 / 2 ^ 40 = t
  generalize frameOfKey (line * 64) = k
  dsimp only
  generalize s.bell :: (Map.get [] s.pool.corrected k).filter _ = times
  have hcount : s.onlyHealth ((s.bump (F.MEM_CE t)).updPool (fun p => { p with corrected := Map.put k times p.corrected })) :=
    ((State.onlyHealth.refl s).bump _ 1).updPool fun _ => rfl
  have hmark := (hcount.note 0x3 .retireMark 2 (tgtTile t) 0).raise t 29
  split
  · exact hcount
  · split
    · refine State.onlyHealth.bump ?_ _ 1
      exact hmark.updPool fun _ => rfl
    · exact hmark.updPool fun _ => rfl

theorem State.applyEcc_onlyHealth (key n : Nat) (ecc : Ecc) : s.onlyHealth (s.applyEcc key n ecc) := by
  cases ecc with
  | clean => exact .refl s
  | corrected l =>
    unfold State.applyEcc
    dsimp only
    split
    · exact s.correctedLine_onlyHealth _
    · exact .refl s
  | uncorrectable l =>
    unfold State.applyEcc
    dsimp only
    split
    · exact s.poisonLine_onlyHealth _
    · exact .refl s

end

/-! ### Stores (R256, R258, R407) -/

theorem State.markDirty_dram (s : State) (key n : Nat) : (s.markDirty key n).dram = s.dram := rfl

theorem State.markDirty_poisoned (s : State) (key n line : Nat) : (s.markDirty key n).poisoned line = s.poisoned line := rfl

section
variable {s : State} {t key : Nat} {bs : List Byte} (hb : bs ≠ [])
include hb

theorem State.store_down (hm : s.memDown t = true) : s.store t key bs = .error stFault := by
  simp [State.store, hb, hm]

theorem State.store_gated (hm : s.memDown t = false) (hg : s.gated t = true) : s.store t key bs = .ok s := by
  simp [State.store, hb, hm, hg]

/-- A store over part of a poisoned line fails. -/
theorem State.store_part (hm : s.memDown t = false) (hg : s.gated t = false)
    (hl : ∃ l ∈ linesOf key bs.length, s.poisoned l = true ∧ (l * 64 < key ∨ key + bs.length < l * 64 + 64)) :
    s.store t key bs = .error stFault := by
  obtain ⟨l, hmem, hp, hpart⟩ := hl
  simp only [State.store, List.isEmpty_iff, hb, hm, hg, Bool.false_eq_true, if_false]
  refine if_pos (List.any_eq_true.2 ⟨l, List.mem_filter.2 ⟨hmem, hp⟩, ?_⟩)
  simp
  omega

/-- A store over whole poisoned lines writes its bytes and clears their poison. -/
theorem State.store_whole (hm : s.memDown t = false) (hg : s.gated t = false)
    (hl : ∀ l ∈ linesOf key bs.length, s.poisoned l = true → key ≤ l * 64 ∧ l * 64 + 64 ≤ key + bs.length) :
    s.store t key bs = .ok ((((linesOf key bs.length).filter s.poisoned).foldl State.clearPoison
      { s with dram := Memory.write s.dram key bs }).markDirty key bs.length) := by
  simp only [State.store, List.isEmpty_iff, hb, hm, hg, Bool.false_eq_true, if_false]
  refine if_neg fun hany => ?_
  obtain ⟨l, hmem, hpart⟩ := List.any_eq_true.1 hany
  have hwhole := hl l (List.mem_of_mem_filter hmem) (List.mem_filter.1 hmem).2
  simp at hpart
  omega

theorem State.store_clears (hm : s.memDown t = false) (hg : s.gated t = false)
    (hl : ∀ l ∈ linesOf key bs.length, s.poisoned l = true → key ≤ l * 64 ∧ l * 64 + 64 ≤ key + bs.length) (hs : s.canonical)
    (hd : s.pool.poison.Nodup) :
    ∃ u : State, s.store t key bs = .ok u ∧ Memory.read u.dram key bs.length = bs ∧
      (∀ a, a < key ∨ key + bs.length ≤ a → Memory.byte u.dram a = Memory.byte s.dram a) ∧
      ∀ l ∈ linesOf key bs.length, u.poisoned l = false := by
  refine ⟨_, State.store_whole hb hm hg hl, ?_, fun a ha => ?_, fun l hmem => ?_⟩
  · rw [State.markDirty_dram, State.clearPoisons_dram]
    exact Memory.read_write hs.dram key bs
  · rw [State.markDirty_dram, State.clearPoisons_dram]
    exact Memory.byte_write_outside s.dram key bs a ha
  · rw [State.markDirty_poisoned, State.poisoned, State.clearPoisons_poison, List.contains_eq_mem, decide_eq_false_iff_not, hd.mem_sdiff_iff]
    exact fun ⟨hp, hn⟩ => hn (List.mem_filter.2 ⟨hmem, by simpa [State.poisoned] using hp⟩)

end

/-! ### The patrol scrub (R257) -/

section
variable {t : Tile} {s : State} (ecc : Ecc)

theorem exec_patrolScrubStep (t : Tile) (s : State) : exec (.patrolScrubStep t ecc) s = execPatrolScrubStep t ecc s := rfl

theorem exec_patrolScrubStep_stopped (h : s.f (F.MEM_CTL_SCRUB_HOURS t.val) = 0 ∨ s.f (F.MEM_STAT_STATE t.val) ≠ 2) :
    exec (.patrolScrubStep t ecc) s = .next s := by
  have hs : s.scrubbing t.val = false := by rcases h with h | h <;> simp [State.scrubbing, h]
  rw [exec_patrolScrubStep, execPatrolScrubStep, hs]
  rfl

/-- The scrub's position stored, its low bits in the register. -/
def State.scrubTo (s : State) (n lo hi : Nat) : State :=
  (s.setF (F.MEM_SCRUB_POS_POS n) lo).updPool (fun p => { p with scrubHi := Map.set 0 p.scrubHi n hi })

theorem State.setF_updPool_keepsMemory (s : State) (x : Fld) (v : Nat) (g : Pool → Pool) : s.keepsMemory ((s.setF x v).updPool g) :=
  fun _ => ⟨rfl, rfl, rfl⟩

theorem State.setF_updPool_keepsRegs (s : State) (x : Fld) (v : Nat) (g : Pool → Pool) : s.keepsRegs ((s.setF x v).updPool g) [x.off] :=
  s.keepsRegs_setF x v

theorem State.setF_updPool_scrubHi (s : State) (x : Fld) (v : Nat) (g : Pool → Pool) :
    ((s.setF x v).updPool g).pool.scrubHi = (g s.pool).scrubHi := rfl

theorem State.scrubLine_scrubTo (h : s.canonical) (hr : Map.rising s.pool.scrubHi = true) (n next : Nat) :
    (s.scrubTo n (next % 2 ^ 29) (next / 2 ^ 29)).scrubLine n = next := by
  have hlow (lo hi : Nat) : (s.scrubTo n lo hi).f (F.MEM_SCRUB_POS_POS n) = lo % 2 ^ 29 := by
    rw [State.scrubTo, State.updPool_f, State.f_setF_same h.rising _ _ (by simp [F.MEM_SCRUB_POS_POS]),
      show (F.MEM_SCRUB_POS_POS n).width = 29 from rfl]
  have hhigh (lo hi : Nat) : Map.get 0 (s.scrubTo n lo hi).pool.scrubHi n = hi := by
    rw [State.scrubTo, State.setF_updPool_scrubHi, Map.get_set_same hr]
  rw [State.scrubLine, hlow, hhigh, Nat.mod_mod, Nat.mul_comm, Nat.mod_add_div]

/-- Where nothing is being copied, the scrub reads its line and moves to the next one. -/
theorem exec_patrolScrubStep_reads (hh : s.f (F.MEM_CTL_SCRUB_HOURS t.val) ≠ 0) (h2 : s.f (F.MEM_STAT_STATE t.val) = 2) (hm : s.pool.migs = []) :
    exec (.patrolScrubStep t ecc) s = .next ((s.applyEcc (dramKey t.val 0 (s.scrubLine t.val * 64)) 64 ecc).scrubTo t.val
      ((s.scrubLine t.val + 1) % lineCount t.val % 2 ^ 29) ((s.scrubLine t.val + 1) % lineCount t.val / 2 ^ 29)) := by
  have hs : s.scrubbing t.val = true := by simp [State.scrubbing, hh, h2]
  simp only [exec_patrolScrubStep, execPatrolScrubStep, hs, hm, List.any_nil, Bool.not_true, Bool.false_eq_true, if_false, State.scrubTo]

theorem patrolScrubStep_spec (hh : s.f (F.MEM_CTL_SCRUB_HOURS t.val) ≠ 0) (h2 : s.f (F.MEM_STAT_STATE t.val) = 2) (hm : s.pool.migs = [])
    (h : s.canonical) (hr : Map.rising s.pool.scrubHi = true) :
    ∃ u : State, exec (.patrolScrubStep t ecc) s = .next u ∧ u.scrubLine t.val = (s.scrubLine t.val + 1) % lineCount t.val ∧ s.keepsMemory u ∧
      (ecc = .clean → s.keepsRegs u [R.MEM_SCRUB_POS t.val]) := by
  have hread := s.applyEcc_onlyHealth (dramKey t.val 0 (s.scrubLine t.val * 64)) 64 ecc
  have hcanon := ((Kept.refl s).applyEcc (dramKey t.val 0 (s.scrubLine t.val * 64)) 64 ecc).2 h
  refine ⟨_, exec_patrolScrubStep_reads ecc hh h2 hm, State.scrubLine_scrubTo hcanon (hread.scrubHi ▸ hr) _ _,
    State.keepsMemory.trans hread.keepsMemory (State.setF_updPool_keepsMemory _ (F.MEM_SCRUB_POS_POS t.val) _ _), fun hc => ?_⟩
  subst hc
  exact s.setF_updPool_keepsRegs (F.MEM_SCRUB_POS_POS t.val) _ _

end

/-! ### Memory that returns to service (R214, R258) -/

section
variable {s : State} {n : Nat}

theorem State.memUnavailable_out (h : s.f (F.MEM_STAT_STATE n) = 0 ∨ s.f (F.MEM_STAT_STATE n) = 4) : s.memUnavailable n = s :=
  if_pos (by simpa using h)

theorem State.memReturn_barred (h : s.memBarred n = true) : s.memReturn n = s := by simp [State.memReturn, h]

theorem State.memReturn_free (h4 : s.f (F.MEM_STAT_STATE n) = 4) (h : s.memBarred n = false) : s.memReturn n = s.memStart n := by
  simp [State.memReturn, h4, h]

/-- While both FAM copies are lost, none can be lost again: a copy that returns changes only what the tiles show. -/
theorem State.setCopies_gained (h : s.pool.copyUp = (false, false)) (c0 c1 : Bool) :
    s.setCopies c0 c1 = (s.updPool (fun p => { p with copyUp := (c0, c1) })).each allTiles State.showCopies := by
  simp [State.setCopies, h]

theorem memStat_ne_famcStat (n k : Nat) : R.MEM_STAT n ≠ R.FAMC_STAT k := by
  unfold R.MEM_STAT R.FAMC_STAT tileBase
  omega

theorem State.showCopies_memStat (s : State) (n k : Nat) : (s.showCopies k).f (F.MEM_STAT_STATE n) = s.f (F.MEM_STAT_STATE n) := by
  have hk : s.keepsRegs (s.showCopies k) [R.FAMC_STAT k] :=
    s.keepsRegs_setFs _ (by simp [F.FAMC_STAT_SINGLE, F.FAMC_STAT_COPY])
  exact hk.f (by simpa [F.MEM_STAT_STATE] using memStat_ne_famcStat n k)

theorem State.setCopies_memStat (h : s.pool.copyUp = (false, false)) (c0 c1 : Bool) :
    (s.setCopies c0 c1).f (F.MEM_STAT_STATE n) = s.f (F.MEM_STAT_STATE n) := by
  rw [State.setCopies_gained h]
  exact State.each_keeps (fun u => u.f (F.MEM_STAT_STATE n)) _ allTiles State.showCopies fun k u => u.showCopies_memStat n k

theorem State.copiesLost (h : s.famUp = false) : s.pool.copyUp = (false, false) := by
  simpa [State.famUp, Prod.ext_iff] using h

/-- Memory that starts is in service. -/
theorem State.memStart_state (h : s.canonical) (hr : isReserve n = false) : (s.memStart n).f (F.MEM_STAT_STATE n) = 2 := by
  have hshown (tier : Nat) : (s.setFs [(F.MEM_STAT_STATE n, 2), (F.MEM_STAT_TIER n, tier)]).f (F.MEM_STAT_STATE n) = 2 :=
    State.f_setFs_at h [(F.MEM_STAT_STATE n, 2), (F.MEM_STAT_TIER n, tier)] 0 rfl (by simp [F.MEM_STAT_STATE])
      (by simp [Fld.apart, F.MEM_STAT_STATE, F.MEM_STAT_TIER])
  unfold State.memStart
  rw [hr, if_neg Bool.false_ne_true]
  generalize (if isCorner n then 1 else 0) = tier
  have h2 := hshown tier
  generalize s.setFs [(F.MEM_STAT_STATE n, 2), (F.MEM_STAT_TIER n, tier)] = u at h2
  by_cases hup : u.famUp = true
  · simpa only [hup, if_true] using h2
  · have hlost := State.copiesLost (Bool.eq_false_iff.2 hup)
    simp only [hup, Bool.false_eq_true, if_false]
    split_ifs
    · exact (State.setCopies_memStat hlost ..).trans h2
    · exact (State.setCopies_memStat hlost ..).trans h2
    · exact h2

theorem State.memDown_inService (h : s.f (F.MEM_STAT_STATE n) = 2) : s.memDown n = false := by simp [State.memDown, h]

theorem State.memBarred_true (h : s.gated n = true ∨ (s.fence (n * 64 + 27)).on = true ∨ (s.fence (n * 64 + 39)).on = true ∨
    (s.th n).memTrip = true ∨ s.f (F.TILE_TEST_STAT_MEM_OUT n) = 1) : s.memBarred n = true := by
  rcases h with h | h | h | h | h <;> simp [State.memBarred, State.b, h]

end

section
variable {t : Tile} {s : State}

theorem exec_memoryReturn (t : Tile) (s : State) : exec (.memoryReturn t) s = execMemoryReturn t s := rfl

theorem exec_memoryReturn_none (h : s.f (F.MEM_STAT_STATE t.val) ≠ 4) : exec (.memoryReturn t) s = .next s :=
  (exec_memoryReturn t s).trans (if_pos h)

theorem exec_memoryReturn_out (h : s.f (F.MEM_STAT_STATE t.val) = 4) :
    exec (.memoryReturn t) s = .next ((s.memReturn t.val).rewriteDist.pumpStreams) :=
  (exec_memoryReturn t s).trans (if_neg (by simp [h]))

end

end Sys2Proof.Machine

open Sys2Proof Sys2Proof.Machine

/-- Settles O43: a line found bad, a store by what lies under it, the scrub's step, and memory out of reach and back. -/
theorem memoryHealth : Obligations.MemoryHealth := by
  unfold Obligations.MemoryHealth
  refine ⟨fun line s => ⟨fun h => if_pos h, fun h => ?_⟩,
    fun t key bs s hb => ⟨State.store_down hb, State.store_gated hb, fun hm hg => ⟨State.store_part hb hm hg, State.store_clears hb hm hg⟩⟩,
    fun t ecc s => ⟨exec_patrolScrubStep_stopped ecc, patrolScrubStep_spec ecc⟩,
    fun t s => ⟨rfl, State.memUnavailable_out, exec_memoryReturn_none, fun h4 => ⟨exec_memoryReturn_out h4,
      fun hb => State.memReturn_barred (State.memBarred_true hb), fun hb hs hr => ?_⟩⟩⟩
  · rw [State.poisonLine_new h]
    exact ⟨s.poisoning_poisoned line, (s.poisoning_onlyHealth line).keepsMemory, rfl⟩
  · have hstate : (s.memReturn t.val).f (F.MEM_STAT_STATE t.val) = 2 := by
      rw [State.memReturn_free h4 hb]
      exact State.memStart_state hs hr
    exact ⟨hstate, State.memDown_inService hstate⟩
end

section
/-! SUPPORT. Regions of the pool: FAM entries written in runs, frames held, and the commands of a region (R242 to R251). -/

namespace Sys2Proof.Machine

/-! ### FAM entries (R215) -/

section
variable {s : State} {i j : Nat}

theorem State.setFam_fam (s : State) (i : Nat) (e : FamEntry) : (s.setFam i e).pool.fam =
    Map.set {} s.pool.fam i { e with gen := ((s.famEntry i).gen + 1) % 65536 } := by
  obtain ⟨-, -, -, hpool⟩ := s.setFam_frame i e
  rw [hpool]

theorem State.setFam_rising (h : Map.rising s.pool.fam = true) (i : Nat) (e : FamEntry) : Map.rising (s.setFam i e).pool.fam = true := by
  rw [State.setFam_fam]
  exact Map.rising_upd h i fun _ => _

theorem State.famEntry_setFam_same (h : Map.rising s.pool.fam = true) (i : Nat) (e : FamEntry) :
    (s.setFam i e).famEntry i = { e with gen := ((s.famEntry i).gen + 1) % 65536 } := by
  rw [State.famEntry, State.setFam_fam, Map.get_set_same h]

theorem State.famEntry_setFam_ne (h : j ≠ i) (s : State) (e : FamEntry) : (s.setFam i e).famEntry j = s.famEntry j := by
  rw [State.famEntry, State.setFam_fam, Map.get_set_ne h]
  rfl

end

/-- `s` is `z` but for the FAM, and for what a gang's members are told. -/
def State.onlyFam (z s : State) : Prop := s = { z with out := s.out, pool := { z.pool with fam := s.pool.fam } }

section
variable {z s t : State}

theorem State.onlyFam.refl (z : State) : z.onlyFam z := rfl

theorem State.onlyFam.trans (h : z.onlyFam s) (k : s.onlyFam t) : z.onlyFam t := by
  unfold State.onlyFam at *
  rw [k, h]

theorem State.setFam_onlyFam (s : State) (i : Nat) (e : FamEntry) : s.onlyFam (s.setFam i e) := by
  unfold State.setFam
  dsimp only
  split <;> rfl

theorem State.onlyFam.pool (h : z.onlyFam s) : s.pool = { z.pool with fam := s.pool.fam } := congrArg State.pool h

theorem State.onlyFam.invals (h : z.onlyFam s) : s.pool.invals = z.pool.invals := by rw [h.pool]

theorem State.onlyFam.frame (h : z.onlyFam s) : s.proctor = z.proctor ∧ s.regs = z.regs := by
  unfold State.onlyFam at h
  rw [h]
  exact ⟨rfl, rfl⟩

theorem State.onlyFam.memories (h : z.onlyFam s) : s.dram = z.dram ∧ s.host = z.host ∧ s.sq = z.sq := by
  unfold State.onlyFam at h
  rw [h]
  exact ⟨rfl, rfl, rfl⟩

theorem State.onlyFam.keepsMemory (h : z.onlyFam s) : z.keepsMemory s := fun a => by
  obtain ⟨hdram, hhost, hsq⟩ := h.memories
  rw [hdram, hhost, hsq]
  exact ⟨rfl, rfl, rfl⟩

end

/-! ### Runs of entries (R247, R251) -/

section
variable {α : Type}

/-- An entry written for each item of a list, from the entry that stood there. -/
def State.setRun (s : State) (l : List α) (at_ : α → Nat) (e : α → FamEntry → FamEntry) : State :=
  s.each l (fun u x => u.setFam (at_ x) (e x (u.famEntry (at_ x))))

theorem State.setRun_onlyFam (s : State) (l : List α) (at_ : α → Nat) (e : α → FamEntry → FamEntry) : s.onlyFam (s.setRun l at_ e) := by
  unfold State.setRun State.each
  induction l generalizing s with
  | nil => exact .refl s
  | cons x l ih => exact (s.setFam_onlyFam ..).trans (ih _)

theorem State.famEntry_setRun_outside (s : State) {l : List α} {at_ : α → Nat} (e : α → FamEntry → FamEntry) {j : Nat} (hj : j ∉ l.map at_) :
    (s.setRun l at_ e).famEntry j = s.famEntry j := by
  unfold State.setRun State.each
  induction l generalizing s with
  | nil => rfl
  | cons x l ih =>
    have hx : j ≠ at_ x := fun he => hj (he ▸ List.mem_cons_self)
    exact (ih _ fun hm => hj (List.mem_cons_of_mem _ hm)).trans (State.famEntry_setFam_ne hx ..)

/-- Where no index comes twice, each item's entry is the one written from what stood there before the run. -/
theorem State.famEntry_setRun {s : State} (h : Map.rising s.pool.fam = true) {l : List α} {at_ : α → Nat} (hd : (l.map at_).Nodup)
    (e : α → FamEntry → FamEntry) : ∀ x ∈ l, (s.setRun l at_ e).famEntry (at_ x) =
      { e x (s.famEntry (at_ x)) with gen := ((s.famEntry (at_ x)).gen + 1) % 65536 } := by
  induction l generalizing s with
  | nil => simp
  | cons y l ih =>
    obtain ⟨hy, hl⟩ := List.nodup_cons.1 hd
    intro x hx
    rcases List.mem_cons.1 hx with rfl | hx
    · exact (State.famEntry_setRun_outside _ e hy).trans (State.famEntry_setFam_same h ..)
    · have hne : at_ x ≠ at_ y := fun he => hy (he ▸ List.mem_map_of_mem hx)
      have hrest := ih (State.setFam_rising h (at_ y) (e y (s.famEntry (at_ y)))) hl x hx
      rwa [State.famEntry_setFam_ne hne] at hrest

end

/-! ### The indexes of a region (R244) -/

section
variable {r : Region} {i : Nat}

theorem Region.indexes_length (r : Region) : r.indexes.length = r.frames := by simp [Region.indexes]

theorem Region.indexes_nodup (r : Region) : r.indexes.Nodup := List.nodup_range.map fun _ _ h => Nat.add_left_cancel h

theorem Region.mem_indexes (h : i < r.frames) : r.base + i ∈ r.indexes := List.mem_map_of_mem (List.mem_range.2 h)

theorem Region.not_mem_indexes (h : i < r.base ∨ r.base + r.frames ≤ i) : i ∉ r.indexes := by
  simp only [Region.indexes, List.mem_map, List.mem_range, not_exists, not_and]
  omega

theorem Region.mem_zip_indexes {β : Type} {l : List β} (hl : l.length = r.frames) (h : i < r.frames) : ∃ b, (r.base + i, b) ∈ r.indexes.zip l := by
  refine ⟨l[i], List.mem_iff_getElem.2 ⟨i, by simp [Region.indexes_length, hl, h], ?_⟩⟩
  simp [Region.indexes]

end

/-! ### Frames held (R245, R248) -/

/-- After several keys have been put with one value, each of them has it. -/
theorem Map.find_puts {α β : Type} (key : β → Nat) (v : α) (l : List β) (m : List (Nat × α)) (k : Nat) :
    Map.find k (l.foldl (fun u x => Map.put (key x) v u) m) = if k ∈ l.map key then some v else Map.find k m := by
  induction l generalizing m with
  | nil => rfl
  | cons x l ih =>
    rw [List.foldl_cons, ih]
    by_cases hk : k = key x
    · subst hk
      simp [Map.find_put_same]
    · simp [hk, Map.find_put_ne hk]

/-- The frames that a placement chooses take the mask tiles in turn (R245). -/
theorem State.chosen_getElem (s : State) (tiles : List Nat) {n f : Nat} (h : f < n) :
    ∃ k, (s.chosen tiles n)[f]? = some (tiles.getD (f % tiles.length) 0, k) :=
  ⟨_, by simp [State.chosen, h]; rfl⟩

theorem State.slot_of_regions {s t : State} (h : t.pool.regions = s.pool.regions) (n : Nat) : t.slot n = s.slot n := by
  rw [State.slot, State.slot, h]

/-! ### MEM_ALLOC (R245, R246, R248) -/

/-- A region's frames held and its slot taken, to be zeroed before its entries are mapped. -/
def State.allocated (b : State) (tiles : List Nat) (r : Region) (n run : Nat) : State :=
  b.fresh.2.updPool (fun x => { x with
    used := (b.chosen tiles r.frames).foldl (fun u f => Map.put (frameKey f.1 f.2) (.region n) u) x.used
    regions := Map.upd ({} : RegionSlot) x.regions n (fun y => { y with live := some r })
    zeroing := x.zeroing ++ [(n, run)] })

/-- The region that a MEM_ALLOC asks for. -/
def State.newRegion (b : State) (p : Packet) : Region :=
  { base := if p.w 4 = 0xFFFFFFFF then (b.lowestRun (p.w 0)).getD 0 else p.w 4, frames := p.w 0, ro := p.w 5 % 2 == 1, ready := false }

section
variable {s b : State} {p : Packet} {o : Nat}

theorem State.allocated_slot (b : State) (tiles : List Nat) (r : Region) (n run : Nat) :
    (b.allocated tiles r n run).slot n = { gen := (b.slot n).gen, live := some r } := by
  have hne : ({ Map.get ({} : RegionSlot) b.pool.regions n with live := some r } : RegionSlot) ≠ {} := by simp
  exact Map.get_upd_of_ne (f := fun y : RegionSlot => { y with live := some r }) hne

theorem State.allocated_used (b : State) (tiles : List Nat) (r : Region) (n run : Nat) {x : Nat × Nat} (hx : x ∈ b.chosen tiles r.frames) :
    Map.find (frameKey x.1 x.2) (b.allocated tiles r n run).pool.used = some (.region n) :=
  (Map.find_puts (fun f : Nat × Nat => frameKey f.1 f.2) (FrameUse.region n) _ _ _).trans (if_pos (List.mem_map_of_mem hx))

theorem memAlloc_act {id : Nat} (hw : b.twin.want = none) (hz : p.w 5 / 2 % 2 = 0) (hfree : ∃ n, n < 65536 ∧ (b.slot n).live = none) :
    ∃ n < 65536, (b.slot n).live = none ∧ memAllocDef.act b p o id = .later (b.allocated (poolTiles p 1) (b.newRegion p) n id) := by
  obtain ⟨i, hi, hnone⟩ := hfree
  obtain ⟨n, hn, htaken, hpick⟩ := State.pickFree_free (taken := fun n => (b.slot n).live.isSome) hw ⟨i, hi, by simp [hnone]⟩
  refine ⟨n, hn, by simpa using htaken, ?_⟩
  simp only [memAllocDef, hpick, hz, Nat.zero_ne_one, if_false]
  rfl

theorem memAlloc_allocates (ha : s.accepts memAllocDef p o) (hw : (s.begun p).twin.want = none) (hz : p.w 5 / 2 % 2 = 0)
    (hfree : ∃ n, n < 65536 ∧ ((s.begun p).slot n).live = none) :
    let b := s.begun p
    let tiles := poolTiles p 1
    ∃ (t : State) (n : Nat), exec (.memAlloc p) s = .next t ∧ n < 65536 ∧ (b.slot n).live = none ∧
      t.slot n = { gen := (b.slot n).gen, live := some (b.newRegion p) } ∧
      (∀ f, f < p.w 0 → ∃ k, (b.chosen tiles (p.w 0))[f]? = some (tiles.getD (f % tiles.length) 0, k) ∧
        Map.find (frameKey (tiles.getD (f % tiles.length) 0) k) t.pool.used = some (.region n)) ∧
      t.pool.fam = b.pool.fam ∧ t.pool.zeroing = b.pool.zeroing ++ [(n, b.proctor.nextId)] ∧
      b.runsOn t p o 0x300 ∧ t.regs = b.regs ∧ b.keepsMemory t := by
  intro b tiles
  obtain ⟨n, hn, hnone, hact⟩ := memAlloc_act (b := b) (o := o) (id := b.proctor.nextId) hw hz hfree
  obtain ⟨hruns, hregs⟩ := runCmd_later ha hact rfl
  have hpool : (runCmd memAllocDef p s).pool = (b.allocated tiles (b.newRegion p) n b.proctor.nextId).pool := by
    rw [runCmd_starts ha hact rfl]
    rfl
  refine ⟨_, n, rfl, hn, hnone, ?_, fun f hf => ?_, by rw [hpool]; rfl, by rw [hpool]; rfl, hruns, hregs,
    State.keepsMemory.trans (fun _ => ⟨rfl, rfl, rfl⟩) (runCmd_later_frame ha hact).2⟩
  · rw [State.slot_of_regions (congrArg Pool.regions hpool), State.allocated_slot]
  · obtain ⟨k, hk⟩ := b.chosen_getElem tiles hf
    exact ⟨k, hk, hpool ▸ State.allocated_used b tiles (b.newRegion p) n _ (List.mem_of_getElem? hk)⟩

end

/-! ### FRAME_ZEROED (R246, R247) -/

section
variable {s : State} {n id : Nat} {r : Region}

/-- The entry of a frame that an allocation maps: its index, then its tile and frame. -/
def Region.entryOf (r : Region) (handle : Nat) (x : Nat × Nat × Nat) : FamEntry :=
  { kind := .local_, tier := if isCorner x.2.1 then 1 else 0, ro := r.ro, tile := x.2.1, frame := x.2.2, region := handle }

theorem State.mapRegion_eq (hl : (s.slot n).live = some r) (frames : List (Nat × Nat)) (run : Option Nat) : s.mapRegion n frames run =
    (s.setRun (r.indexes.zip frames) Prod.fst (fun x _ => r.entryOf (s.regionHandle n) x)).updPool (fun p =>
      { p with invals := p.invals ++ [{ base := r.base, count := r.frames, kind := .alloc n, run := run }] }) := by
  rw [State.mapRegion, hl]
  rfl

/-- Entries mapped in a run are LOCAL under the region's handle, and no other entry changes. -/
theorem State.mapRegion_spec (hr : Map.rising s.pool.fam = true) (hl : (s.slot n).live = some r) {frames : List (Nat × Nat)}
    (hf : frames.length = r.frames) (run : Option Nat) : let t := s.mapRegion n frames run
    t.dram = s.dram ∧
    (∀ i, i < r.frames → (t.famEntry (r.base + i)).kind = .local_ ∧ (t.famEntry (r.base + i)).ro = r.ro ∧
      (t.famEntry (r.base + i)).region = s.regionHandle n) ∧
    (∀ i, i < r.base ∨ r.base + r.frames ≤ i → t.famEntry i = s.famEntry i) := by
  intro t
  have honly := s.setRun_onlyFam (r.indexes.zip frames) Prod.fst (fun x _ => r.entryOf (s.regionHandle n) x)
  have hidx : (r.indexes.zip frames).map Prod.fst = r.indexes := List.map_fst_zip (by rw [r.indexes_length, hf])
  have ht : t = _ := State.mapRegion_eq hl frames run
  clear_value t
  subst ht
  obtain ⟨hdram, -, -⟩ := honly.memories
  refine ⟨hdram, fun i hi => ?_, fun i hi => s.famEntry_setRun_outside _ (by rw [hidx]; exact Region.not_mem_indexes hi)⟩
  obtain ⟨x, hx⟩ := Region.mem_zip_indexes hf hi
  have hentry := State.famEntry_setRun hr (hidx ▸ r.indexes_nodup) (fun x _ => r.entryOf (s.regionHandle n) x) _ hx
  exact ⟨congrArg FamEntry.kind hentry, congrArg FamEntry.ro hentry, congrArg FamEntry.region hentry⟩

/-- The frames of a region, by their keys. -/
def State.regionFrames (s : State) (n : Nat) : List Nat := (s.pool.used.filter (fun e => decide (e.2 = .region n))).map (·.1)

theorem State.mem_regionFrames {k : Nat} : k ∈ s.regionFrames n ↔ ∃ e ∈ s.pool.used, e.2 = .region n ∧ e.1 = k := by
  simp [State.regionFrames]

/-- What FRAME_ZEROED leaves before the entries are mapped: the region's frames zeroed, and its zeroing ended. -/
def State.zeroed (s : State) (n : Nat) : State :=
  (s.regionFrames n).foldl State.zeroFrame (s.updPool (fun p => { p with zeroing := p.zeroing.filter (fun x => x.1 != n) }))

theorem State.zeroed_onlyData (s : State) (n : Nat) :
    (s.updPool (fun p => { p with zeroing := p.zeroing.filter (fun x => x.1 != n) })).onlyData (s.zeroed n) :=
  State.onlyData.foldl (.refl _) _ State.zeroFrame_onlyData

theorem State.placed_length (s : State) (n : Nat) (tiles : List Nat) (frames : Nat) : (s.placed n tiles frames).length = frames := by
  simp [State.placed]

theorem exec_frameZeroed {slot : BitVec 16} {x : Nat × Nat} (hx : s.pool.zeroing.find? (fun x => x.1 == slot.toNat) = some x)
    (hl : (s.slot slot.toNat).live = some r) : ∃ frames : List (Nat × Nat), frames.length = r.frames ∧
      exec (.frameZeroed slot) s = .next ((s.zeroed slot.toNat).mapRegion slot.toNat frames (some x.2)) := by
  obtain ⟨y, id⟩ := x
  rw [show exec (.frameZeroed slot) s = execFrameZeroed slot s from rfl, execFrameZeroed]
  dsimp only
  rw [hx, hl]
  refine ⟨_, ?_, rfl⟩
  exact State.placed_length ..

theorem frameZeroed_spec {slot : BitVec 16} {x : Nat × Nat} (hr : Map.rising s.pool.fam = true)
    (hx : s.pool.zeroing.find? (fun x => x.1 == slot.toNat) = some x) (hl : (s.slot slot.toNat).live = some r) :
    ∃ t : State, exec (.frameZeroed slot) s = .next t ∧
      (∀ e ∈ s.pool.used, e.2 = .region slot.toNat → ∀ a, a < 2 ^ 21 → Memory.byte t.dram (dramKey (e.1 / 2 ^ 17) (e.1 % 2 ^ 17) 0 + a) = 0) ∧
      (∀ a, (∀ e ∈ s.pool.used, e.2 = .region slot.toNat →
          a < dramKey (e.1 / 2 ^ 17) (e.1 % 2 ^ 17) 0 ∨ dramKey (e.1 / 2 ^ 17) (e.1 % 2 ^ 17) 0 + 2 ^ 21 ≤ a) →
        Memory.byte t.dram a = Memory.byte s.dram a) ∧
      (∀ i, i < r.frames → (t.famEntry (r.base + i)).kind = .local_ ∧ (t.famEntry (r.base + i)).ro = r.ro ∧
        (t.famEntry (r.base + i)).region = s.regionHandle slot.toNat) ∧
      (∀ i, i < r.base ∨ r.base + r.frames ≤ i → t.famEntry i = s.famEntry i) := by
  obtain ⟨frames, hlen, hexec⟩ := exec_frameZeroed hx hl
  have honly := s.zeroed_onlyData slot.toNat
  have hfam : (s.zeroed slot.toNat).pool.fam = s.pool.fam := honly.fam
  have hslot : (s.zeroed slot.toNat).slot slot.toNat = s.slot slot.toNat := State.slot_of_regions honly.regions slot.toNat
  obtain ⟨hdram, hlocal, hothers⟩ := State.mapRegion_spec (hfam ▸ hr) (hslot ▸ hl) hlen (some x.2)
  have hbyte (a : Nat) : Memory.byte ((s.zeroed slot.toNat).mapRegion slot.toNat frames (some x.2)).dram a =
      if ∃ k ∈ s.regionFrames slot.toNat, inFrame k a then 0 else Memory.byte s.dram a := by
    rw [hdram]
    exact State.byte_zeroFrames ..
  have hentry (j : Nat) : (s.zeroed slot.toNat).famEntry j = s.famEntry j := honly.famEntry j
  have hhandle : (s.zeroed slot.toNat).regionHandle slot.toNat = s.regionHandle slot.toNat := by rw [State.regionHandle, hslot, State.regionHandle]
  refine ⟨_, hexec, fun e he hn a ha => ?_, fun a hout => ?_, fun i hi => hhandle ▸ hlocal i hi, fun i hi => (hothers i hi).trans (hentry i)⟩
  · rw [hbyte, if_pos ⟨e.1, State.mem_regionFrames.2 ⟨e, he, hn, rfl⟩, Nat.le_add_right .., Nat.add_lt_add_left ha _⟩]
  · refine (hbyte a).trans (if_neg ?_)
    rintro ⟨k, hk, hlo, hhi⟩
    obtain ⟨e, he, hn, rfl⟩ := State.mem_regionFrames.1 hk
    exact (hout e he hn).elim (Nat.not_lt.2 hlo) (Nat.not_le.2 hhi)

end

/-! ### MEM_FREE and MEM_ATTR (R248, R251) -/

section
variable {s b : State} {p : Packet} {o n : Nat} {r : Region}

/-- A region's entries unmapped, their invalidation begun. -/
def State.freed (b : State) (n : Nat) (r : Region) (run : Nat) : State :=
  (b.setRun r.indexes id (fun _ _ => {})).updPool (fun x => { x with
    invals := x.invals ++ [{ base := r.base, count := r.frames, kind := .free n, run := some run, old := some (b.regionRecord n) }] })

/-- The RO bit of a region's entries written, their invalidation begun. -/
def State.roWritten (b : State) (n : Nat) (r : Region) (ro : Bool) (run : Nat) : State :=
  (b.setRun r.indexes id (fun _ e => { e with ro := ro })).updPool (fun x => { x with
    regions := Map.upd ({} : RegionSlot) x.regions n (fun y => { y with live := y.live.map (fun r => { r with ro := ro }) })
    invals := x.invals ++ [{ base := r.base, count := r.frames, kind := .attr, run := some run, old := some (b.regionRecord n) }] })

theorem memFree_act {id : Nat} (h : b.regionOf (p.w 0) = some (n, r)) : memFreeDef.act b p o id = .later (b.freed n r id) := by
  simp only [memFreeDef, h]
  rfl

theorem memAttr_act {id : Nat} (h : b.regionOf (p.w 0) = some (n, r)) :
    memAttrDef.act b p o id = .later (b.roWritten n r (p.w 1 == 1) id) := by
  simp only [memAttrDef, h]
  rfl

/-- A long-running command that starts with a run of entries written leaves registers and memory alone. -/
theorem runCmd_setRun {d : CmdDef} {l : List Nat} {e : Nat → FamEntry → FamEntry} {g : Pool → Pool} (ha : s.accepts d p o)
    (hact : d.act (s.begun p) p o (s.begun p).proctor.nextId = .later (((s.begun p).setRun l id e).updPool g)) (hg : ∀ q, (g q).fam = q.fam) :
    (∀ i, (runCmd d p s).famEntry i = ((s.begun p).setRun l id e).famEntry i) ∧
      (runCmd d p s).pool = g ((s.begun p).setRun l id e).pool ∧ (runCmd d p s).regs = (s.begun p).regs ∧
      (s.begun p).keepsMemory (runCmd d p s) := by
  have honly := (s.begun p).setRun_onlyFam l id e
  obtain ⟨hproc, hregs⟩ := honly.frame
  have hmem : (s.begun p).keepsMemory (((s.begun p).setRun l id e).updPool g) := honly.keepsMemory
  have hpool : (runCmd d p s).pool = g ((s.begun p).setRun l id e).pool := by
    rw [runCmd_starts ha hact (congrArg Proctor.nextId hproc)]
    rfl
  exact ⟨fun i => by rw [State.famEntry, hpool, hg, State.famEntry], hpool, (runCmd_later ha hact hproc).2.trans hregs,
    hmem.trans (runCmd_later_frame ha hact).2⟩

theorem memFree_frees (hr : Map.rising (s.begun p).pool.fam = true) (h : (s.begun p).regionOf (p.w 0) = some (n, r))
    (ha : s.accepts memFreeDef p o) :
    let b := s.begun p
    ∃ t : State, exec (.memFree p) s = .next t ∧ (∀ i, i < r.frames → (t.famEntry (r.base + i)).kind = .unmapped) ∧
      (∀ i, i < r.base ∨ r.base + r.frames ≤ i → t.famEntry i = b.famEntry i) ∧ t.regs = b.regs ∧ b.keepsMemory t ∧
      t.pool.invals = b.pool.invals ++ [{ base := r.base, count := r.frames, kind := .free n, run := some b.proctor.nextId, old := some (b.regionRecord n) }] := by
  intro b
  obtain ⟨hentry, hpool, hregs, hmem⟩ := runCmd_setRun ha (memFree_act h) fun _ => rfl
  have hd : (r.indexes.map id).Nodup := by simpa using r.indexes_nodup
  refine ⟨_, rfl, fun i hi => ?_, fun i hi => ?_, hregs, hmem, ?_⟩
  · rw [hentry]
    exact congrArg FamEntry.kind (State.famEntry_setRun hr hd (fun _ _ => {}) _ (Region.mem_indexes hi))
  · rw [hentry]
    exact b.famEntry_setRun_outside _ (by simpa using Region.not_mem_indexes hi)
  · rw [hpool]
    exact congrArg (· ++ _) (b.setRun_onlyFam r.indexes id (fun _ _ => {})).invals

theorem memAttr_writes (hr : Map.rising (s.begun p).pool.fam = true) (h : (s.begun p).regionOf (p.w 0) = some (n, r))
    (ha : s.accepts memAttrDef p o) :
    let b := s.begun p
    ∃ t : State, exec (.memAttr p) s = .next t ∧ (∀ i, i < r.frames → t.famEntry (r.base + i) =
        { b.famEntry (r.base + i) with ro := p.w 1 == 1, gen := ((b.famEntry (r.base + i)).gen + 1) % 65536 }) ∧
      (∀ i, i < r.base ∨ r.base + r.frames ≤ i → t.famEntry i = b.famEntry i) ∧ t.regs = b.regs ∧ b.keepsMemory t := by
  intro b
  obtain ⟨hentry, -, hregs, hmem⟩ := runCmd_setRun ha (memAttr_act h) fun _ => rfl
  have hd : (r.indexes.map id).Nodup := by simpa using r.indexes_nodup
  refine ⟨_, rfl, fun i hi => ?_, fun i hi => ?_, hregs, hmem⟩
  · rw [hentry]
    exact State.famEntry_setRun hr hd (fun _ e => { e with ro := p.w 1 == 1 }) _ (Region.mem_indexes hi)
  · rw [hentry]
    exact b.famEntry_setRun_outside _ (by simpa using Region.not_mem_indexes hi)

end

/-! ### A slot freed (R244, R251) -/

section
variable {s : State} {n : Nat} {i : Inval}

theorem State.releaseFrame_regions (s : State) (t frame : Nat) : (s.releaseFrame t frame).pool.regions = s.pool.regions := by
  unfold State.releaseFrame
  dsimp only
  split
  · rw [State.bump_pool]
    rfl
  · rfl

/-- Once every tile has dropped a freed region's entries, its slot holds no region and its handles are stale. -/
theorem State.invalDone_free (hk : i.kind = .free n) : (s.invalDone i).pool.regions =
    Map.upd ({} : RegionSlot) s.pool.regions n (fun x => { gen := (x.gen + 1) % 0x10000, live := none }) := by
  have hrel (l : List Nat) : (s.each l (fun s k => s.releaseFrame (k / 2 ^ 17) (k % 2 ^ 17))).pool.regions = s.pool.regions :=
    State.each_keeps (fun u => u.pool.regions) s l _ fun k u => u.releaseFrame_regions ..
  have hfreed (l : List Nat) : ((s.each l (fun s k => s.releaseFrame (k / 2 ^ 17) (k % 2 ^ 17))).updPool (fun p => { p with
      regions := Map.upd ({} : RegionSlot) p.regions n (fun x => { gen := (x.gen + 1) % 0x10000, live := none }) })).pool.regions =
      Map.upd ({} : RegionSlot) s.pool.regions n (fun x => { gen := (x.gen + 1) % 0x10000, live := none }) :=
    congrArg (Map.upd ({} : RegionSlot) · n (fun x => { gen := (x.gen + 1) % 0x10000, live := none })) (hrel l)
  unfold State.invalDone
  rw [hk]
  dsimp only
  split
  · exact hfreed _
  · exact hfreed _

theorem State.slot_freed (hk : i.kind = .free n) (hr : Map.rising s.pool.regions = true) :
    (s.invalDone i).slot n = { gen := ((s.slot n).gen + 1) % 65536, live := none } := by
  rw [State.slot, State.invalDone_free hk, Map.get_upd_same hr]
  rfl

theorem State.regionOf_dead {h : Nat} (hh : h % 65536 = n) (hl : (s.slot n).live = none) : s.regionOf h = none := by
  unfold State.regionOf
  dsimp only
  rw [hh, hl]
  exact ite_self _

end

/-! ### MEM_QUERY and MEM_POOL_STAT (R250, R251) -/

section
variable {s : State} {p : Packet} {o : Nat}

theorem memQuery_answers (ha : s.accepts memQueryDef p o) :
    exec (.memQuery p) s = .next ((s.begun p).replies p ((s.begun p).regionRecord (p.w 0 % 65536))) := by
  rw [show exec (.memQuery p) s = .next (runCmd memQueryDef p s) from rfl, runCmd_accepted ha]
  exact congrArg Host.Outcome.next (State.conclude_plain _ rfl (by decide))

theorem memPoolStat_answers (ha : s.accepts memPoolStatDef p o) :
    exec (.memPoolStat p) s = .next ((s.begun p).replies p (allTiles.flatMap (fun t =>
      leBytes 4 ((s.begun p).poolStat t).1 ++ leBytes 4 ((s.begun p).poolStat t).2))) := by
  rw [show exec (.memPoolStat p) s = .next (runCmd memPoolStatDef p s) from rfl, runCmd_accepted ha]
  exact congrArg Host.Outcome.next (State.conclude_plain _ rfl (by decide))

end

end Sys2Proof.Machine

open Sys2Proof Sys2Proof.Machine

/-- Settles O41: the allocation, its frames zeroed and mapped, a region freed or changed, its slot freed, and the two queries. -/
theorem memoryRegions : Obligations.MemoryRegions := by
  unfold Obligations.MemoryRegions
  exact ⟨fun p o s ha hw hz hfree => memAlloc_allocates ha hw hz hfree, fun slot x r s _ hr hx hl => frameZeroed_spec hr hx hl,
    fun p o n r s hr h => ⟨memFree_frees hr h, memAttr_writes hr h⟩,
    fun n i s hk hr => ⟨State.slot_freed hk hr, fun h hh => State.regionOf_dead hh (congrArg RegionSlot.live (State.slot_freed hk hr))⟩,
    fun p o s => ⟨memQuery_answers, memPoolStat_answers⟩⟩
end

section
/-! SUPPORT. Migration: frames reserved, copied, and switched to (R248, R252 to R254). -/

namespace Sys2Proof.Machine

/-! ### Frames put in hand (R252) -/

/-- `s` is `z` but for the migrations, each of which is listed still with nothing changed but its phase and its dirty blocks. -/
structure MigsStarted (z s : State) : Prop where
  frame : s = { z with pool := { z.pool with migs := s.pool.migs } }
  kept : ∀ m ∈ z.pool.migs, ∃ k ∈ s.pool.migs, k = { m with phase := k.phase, dirty := k.dirty }

section
variable {z s t : State}

theorem MigsStarted.refl (z : State) : MigsStarted z z := ⟨rfl, fun m hm => ⟨m, hm, rfl⟩⟩

theorem MigsStarted.trans (h : MigsStarted z s) (k : MigsStarted s t) : MigsStarted z t := by
  refine ⟨by rw [k.frame, h.frame], fun m hm => ?_⟩
  obtain ⟨m1, hm1, he1⟩ := h.kept m hm
  obtain ⟨m2, hm2, he2⟩ := k.kept m1 hm1
  exact ⟨m2, hm2, by rw [he2, he1]⟩

theorem MigsStarted.each {α : Type} (h : MigsStarted z s) (l : List α) (f : State → α → State) (hf : ∀ u x, MigsStarted u (f u x)) :
    MigsStarted z (s.each l f) := by
  unfold State.each
  induction l generalizing s with
  | nil => exact h
  | cons x l ih => exact ih (h.trans (hf s x))

/-- A migration's frame taken in hand. -/
def Migration.begin (id : Nat) (x : Migration) : Migration := if x.id = id then { x with phase := .pass1, dirty := [] } else x

theorem MigsStarted.begin (s : State) (id : Nat) : MigsStarted s (s.updPool (fun p => { p with migs := p.migs.map (Migration.begin id) })) := by
  refine ⟨rfl, fun m hm => ⟨m.begin id, List.mem_map_of_mem hm, ?_⟩⟩
  unfold Migration.begin
  split <;> rfl

theorem State.startMigs_started (s : State) : MigsStarted s s.startMigs := by
  unfold State.startMigs
  refine (MigsStarted.refl s).each _ _ fun u id => ?_
  dsimp only
  split
  · exact .refl u
  · split
    · exact .refl u
    · split
      · exact .begin u id
      · exact .refl u

end

/-! ### MEM_MIGRATE (R248, R252) -/

/-- The frames of a plan with the free frames that they go to. -/
def State.migTodo (b : State) (tiles : List Nat) (plan : List (Nat × Nat)) : List MigFrame :=
  let free := (planShares tiles plan).map (fun x => (x.1, b.freeFrames x.1 x.2))
  plan.mapIdx (fun i x => {
    index := x.1, srcTile := (b.famEntry x.1).tile, srcFrame := (b.famEntry x.1).frame, dstTile := x.2
    dstFrame := (Map.get [] free x.2).getD ((plan.take i).countP (fun y => y.2 == x.2)) 0 })

/-- The migration that a MEM_MIGRATE starts. -/
def State.newMig (b : State) (p : Packet) (n run : Nat) (todo : List MigFrame) : Migration :=
  { id := b.pool.nextMig, slot := n, tier := p.w 3, todo := todo, done := 0, phase := .queued, dirty := [], run := run, old := b.regionRecord n }

/-- A migration listed, and its destination frames reserved. -/
def State.reserved (b : State) (m : Migration) : State :=
  b.updPool (fun x => { x with
    used := m.todo.foldl (fun u f => Map.put (frameKey f.dstTile f.dstFrame) (.reserved m.id) u) x.used
    migs := x.migs ++ [m], nextMig := m.id + 1 })

section
variable {s b : State} {p : Packet} {o n : Nat} {r : Region}

theorem State.migTodo_plan (b : State) (tiles : List Nat) (plan : List (Nat × Nat)) :
    (b.migTodo tiles plan).map (fun f => (f.index, f.dstTile)) = plan := by
  refine List.ext_getElem (by simp [State.migTodo]) fun i _ _ => ?_
  simp [State.migTodo]

theorem State.migTodo_source (b : State) (tiles : List Nat) (plan : List (Nat × Nat)) {f : MigFrame} (hf : f ∈ b.migTodo tiles plan) :
    f.srcTile = (b.famEntry f.index).tile ∧ f.srcFrame = (b.famEntry f.index).frame := by
  obtain ⟨i, hi, rfl⟩ := List.mem_mapIdx.1 hf
  exact ⟨rfl, rfl⟩

theorem State.reserved_used (b : State) (m : Migration) {f : MigFrame} (hf : f ∈ m.todo) :
    Map.find (frameKey f.dstTile f.dstFrame) (b.reserved m).pool.used = some (.reserved m.id) :=
  (Map.find_puts (fun f : MigFrame => frameKey f.dstTile f.dstFrame) (FrameUse.reserved m.id) _ _ _).trans (if_pos (List.mem_map_of_mem hf))

theorem memMigrate_act_none {id : Nat} (h : b.regionOf (p.w 0) = some (n, r)) (hp : b.migPlan r (p.w 1) (p.w 2) (poolTiles p 3) = []) :
    memMigrateDef.act b p o id = .now b stOk 0 [] [] := by
  simp only [memMigrateDef, h, hp]
  rfl

theorem memMigrate_act {id : Nat} (h : b.regionOf (p.w 0) = some (n, r)) (hp : b.migPlan r (p.w 1) (p.w 2) (poolTiles p 3) ≠ []) :
    memMigrateDef.act b p o id = .later ((b.reserved (b.newMig p n id (b.migTodo (poolTiles p 3)
      (b.migPlan r (p.w 1) (p.w 2) (poolTiles p 3))))).startMigs) := by
  simp only [memMigrateDef, h]
  generalize b.migPlan r (p.w 1) (p.w 2) (poolTiles p 3) = plan at hp ⊢
  rw [if_neg (by simpa using hp)]
  rfl

/-- Where every frame is in place, MEM_MIGRATE answers at once. -/
theorem memMigrate_answers (ha : s.accepts memMigrateDef p o) (h : (s.begun p).regionOf (p.w 0) = some (n, r))
    (hp : (s.begun p).migPlan r (p.w 1) (p.w 2) (poolTiles p 3) = []) (hm : (s.begun p).mirrors = false) :
    exec (.memMigrate p) s = .next ((s.begun p).replies p []) := by
  rw [show exec (.memMigrate p) s = .next (runCmd memMigrateDef p s) from rfl, runCmd_accepted ha, memMigrate_act_none h hp]
  exact congrArg Host.Outcome.next (State.conclude_unmirrored rfl hm (by simp) (.inr rfl))

theorem memMigrate_starts (ha : s.accepts memMigrateDef p o) (h : (s.begun p).regionOf (p.w 0) = some (n, r))
    (hp : (s.begun p).migPlan r (p.w 1) (p.w 2) (poolTiles p 3) ≠ []) :
    let b := s.begun p
    ∃ (t : State) (m : Migration), exec (.memMigrate p) s = .next t ∧ m ∈ t.pool.migs ∧ m.id = b.pool.nextMig ∧ m.slot = n ∧ m.done = 0 ∧
      m.todo.map (fun f => (f.index, f.dstTile)) = b.migPlan r (p.w 1) (p.w 2) (poolTiles p 3) ∧
      (∀ f ∈ m.todo, f.srcTile = (b.famEntry f.index).tile ∧ f.srcFrame = (b.famEntry f.index).frame ∧
        Map.find (frameKey f.dstTile f.dstFrame) t.pool.used = some (.reserved m.id)) ∧ t.pool.fam = b.pool.fam ∧
      b.runsOn t p o 0x302 ∧ t.regs = b.regs ∧ b.keepsMemory t := by
  intro b
  generalize hm0 : b.newMig p n b.proctor.nextId (b.migTodo (poolTiles p 3) (b.migPlan r (p.w 1) (p.w 2) (poolTiles p 3))) = m0
  have hact : memMigrateDef.act b p o b.proctor.nextId = .later (b.reserved m0).startMigs := hm0 ▸ memMigrate_act h hp
  have hst := (b.reserved m0).startMigs_started
  generalize (b.reserved m0).startMigs = u at hact hst
  obtain ⟨m, hmem, hm⟩ := hst.kept m0 (List.mem_append_right _ (List.mem_singleton.2 rfl))
  have hused : u.pool.used = (b.reserved m0).pool.used := by rw [hst.frame]
  have hfam : u.pool.fam = b.pool.fam := by rw [hst.frame]; rfl
  have hproc : u.proctor = b.proctor := by rw [hst.frame]; rfl
  have hregs : u.regs = b.regs := by rw [hst.frame]; rfl
  have hkeeps : b.keepsMemory u := by rw [hst.frame]; exact fun _ => ⟨rfl, rfl, rfl⟩
  obtain ⟨hruns, hrunregs⟩ := runCmd_later ha hact hproc
  have hpool : (runCmd memMigrateDef p s).pool = u.pool := by
    rw [runCmd_starts ha hact (congrArg Proctor.nextId hproc)]
    rfl
  have htodo : m.todo = m0.todo := by rw [hm]
  have hid : m.id = m0.id := by rw [hm]
  refine ⟨_, m, rfl, by rwa [hpool], by rw [hid, ← hm0]; rfl, by rw [hm, ← hm0]; rfl, by rw [hm, ← hm0]; rfl, ?_, fun f hf => ?_,
    by rw [hpool, hfam], hruns, hrunregs.trans hregs, hkeeps.trans (runCmd_later_frame ha hact).2⟩
  · rw [htodo, ← hm0]
    exact b.migTodo_plan (poolTiles p 3) _
  · have hf0 : f ∈ m0.todo := htodo ▸ hf
    obtain ⟨htile, hframe⟩ := b.migTodo_source (poolTiles p 3) _ (by rw [← hm0] at hf0; exact hf0)
    exact ⟨htile, hframe, by rw [hpool, hused, hid]; exact b.reserved_used m0 hf0⟩

end

/-! ### The first pass done (R252, R254) -/

/-- The migration in a phase whose frame in hand lies on a tile. -/
def State.inHand (s : State) (t : Nat) (ph : MigPhase) : Option Migration :=
  s.pool.migs.find? (fun m => decide (m.phase = ph) && (match m.todo with | f :: _ => f.srcTile == t | [] => false))

section
variable {t : Tile} {m : Migration} {f : MigFrame} {rest : List MigFrame} {s : State}

theorem exec_pass1Done_none (h : s.inHand t.val .pass1 = none) : exec (.migratePass1Done t) s = .next s := by
  rw [show exec (.migratePass1Done t) s = execMigratePass1Done t s from rfl]
  unfold execMigratePass1Done
  split
  · rfl
  · next k hk => exact absurd (hk.symm.trans h) (by simp)

theorem exec_frameSwitch_none (h : s.inHand t.val .hold = none) : exec (.migrateFrameSwitch t) s = .next s := by
  rw [show exec (.migrateFrameSwitch t) s = execMigrateFrameSwitch t s from rfl]
  unfold execMigrateFrameSwitch
  split
  · rfl
  · next k hk => exact absurd (hk.symm.trans h) (by simp)

/-- A frame in hand copied. -/
def State.frameCopied (s : State) (f : MigFrame) : State := s.copyMem (dramKey f.srcTile f.srcFrame 0) (dramKey f.dstTile f.dstFrame 0) (2 ^ 21)

/-- MIGRATING set in an entry, and its invalidation begun. -/
def State.heldBack (s : State) (m : Migration) (i : Nat) : State :=
  (s.setFam i { s.famEntry i with migrating := true }).updPool (fun p => { p with
    invals := p.invals ++ [{ base := i, count := 1, kind := .migHold m.id, run := none }] })

theorem exec_pass1Done (h : s.inHand t.val .pass1 = some m) (ht : m.todo = f :: rest) (hm : (s.famEntry f.index).migrating = false)
    (hw : s.sec.switch = none) : exec (.migratePass1Done t) s = .next ((s.frameCopied f).heldBack m f.index) := by
  rw [show exec (.migratePass1Done t) s = execMigratePass1Done t s from rfl]
  unfold execMigratePass1Done
  split
  · next hk => exact absurd (hk.symm.trans h) (by simp)
  · next k hk =>
    obtain rfl : k = m := Option.some.inj (hk.symm.trans h)
    simp only [ht, hm, hw, Option.isSome_none, Bool.or_false, Bool.false_eq_true, if_false]
    rfl

theorem State.heldBack_famEntry {u : State} (hr : Map.rising u.pool.fam = true) (m : Migration) (i : Nat) :
    (u.heldBack m i).famEntry i = { u.famEntry i with migrating := true, gen := ((u.famEntry i).gen + 1) % 65536 } ∧
      ∀ j, j ≠ i → (u.heldBack m i).famEntry j = u.famEntry j :=
  ⟨State.famEntry_setFam_same hr i _, fun _ hj => State.famEntry_setFam_ne hj u _⟩

theorem State.heldBack_frame (u : State) (m : Migration) (i : Nat) : (u.heldBack m i).regs = u.regs ∧ (u.heldBack m i).dram = u.dram ∧
    (u.heldBack m i).host = u.host ∧ (u.heldBack m i).sq = u.sq ∧
    (u.heldBack m i).pool.invals = u.pool.invals ++ [{ base := i, count := 1, kind := .migHold m.id, run := none }] := by
  have honly := u.setFam_onlyFam i { u.famEntry i with migrating := true }
  obtain ⟨-, hregs⟩ := honly.frame
  obtain ⟨hdram, hhost, hsq⟩ := honly.memories
  exact ⟨hregs, hdram, hhost, hsq, congrArg (· ++ _) honly.invals⟩

theorem State.frameCopied_onlyData (s : State) (f : MigFrame) : s.onlyData (s.frameCopied f) := s.copyMem_onlyData ..

theorem pass1Done_spec (hs : s.canonical) (hr : Map.rising s.pool.fam = true) (ht : m.todo = f :: rest) (h : s.inHand t.val .pass1 = some m)
    (hm : (s.famEntry f.index).migrating = false) (hw : s.sec.switch = none) :
    let src := dramKey f.srcTile f.srcFrame 0
    let dst := dramKey f.dstTile f.dstFrame 0
    ∃ u : State, exec (.migratePass1Done t) s = .next u ∧ (∀ a, a < 2 ^ 21 → Memory.byte u.dram (dst + a) = Memory.byte s.dram (src + a)) ∧
      (∀ a, a < dst ∨ dst + 2 ^ 21 ≤ a → Memory.byte u.dram a = Memory.byte s.dram a) ∧
      u.famEntry f.index = { s.famEntry f.index with migrating := true, gen := ((s.famEntry f.index).gen + 1) % 65536 } ∧
      (∀ i, i ≠ f.index → u.famEntry i = s.famEntry i) ∧
      u.pool.invals = s.pool.invals ++ [{ base := f.index, count := 1, kind := .migHold m.id, run := none }] ∧
      u.host = s.host ∧ u.sq = s.sq ∧ s.keepsRegs u ((allTiles.map R.MEM_POISON) ++ [R.MEM_POISON (dst / 2 ^ 40)] ++
        (s.pool.poison.map (fun l => R.MEM_POISON (l * 64 / 2 ^ 40)))) := by
  intro src dst
  obtain ⟨hregs, hdram, hhost, hsq, hinvals⟩ := (s.frameCopied f).heldBack_frame m f.index
  have honly := s.frameCopied_onlyData f
  obtain ⟨hhost0, hsq0⟩ := honly.memories
  obtain ⟨hentry, hothers⟩ := State.heldBack_famEntry (honly.fam ▸ hr) m f.index
  have hcopied : ((s.frameCopied f).heldBack m f.index).dram = Memory.copied s.dram src dst (2 ^ 21) := hdram.trans (s.copyMem_dram ..)
  refine ⟨_, exec_pass1Done h ht hm hw, fun a ha => ?_, fun a ha => ?_, by rw [hentry, honly.famEntry],
    fun i hi => (hothers i hi).trans (honly.famEntry i), by rw [hinvals, honly.invals], hhost.trans hhost0, hsq.trans hsq0, fun off hoff => ?_⟩
  · rw [hcopied]
    exact Memory.byte_copied hs.dram src dst ha
  · rw [hcopied]
    exact Memory.byte_copied_outside hs.dram src ha
  · refine (State.rd_of_regs hregs off).trans (s.copyMem_keeps src dst (2 ^ 21) off fun hmem => hoff ?_)
    rcases List.mem_cons.1 hmem with hd | hp
    · exact List.mem_append_left _ (List.mem_append_right _ (List.mem_singleton.2 hd))
    · exact List.mem_append_right _ hp

/-! ### The switch (R252) -/

/-- The dirty blocks of the frame in hand copied again. -/
def State.dirtyCopied (s : State) (m : Migration) (f : MigFrame) : State :=
  s.each m.dirty (fun s b => s.copyMem (dramKey f.srcTile f.srcFrame (b * 4096)) (dramKey f.dstTile f.dstFrame (b * 4096)) 4096)

theorem State.dirtyCopied_onlyData (s : State) (m : Migration) (f : MigFrame) : s.onlyData (s.dirtyCopied m f) :=
  State.onlyData.foldl (.refl s) m.dirty fun u _ => u.copyMem_onlyData ..

/-- An entry that names the frame its own has moved to. -/
def FamEntry.movedTo (e : FamEntry) (tier : Nat) (f : MigFrame) : FamEntry :=
  { e with tier := tier, migrating := false, tile := f.dstTile, frame := f.dstFrame }

/-- The entry of the frame in hand switched to its destination, which is the region's now. -/
def State.switched (s : State) (m : Migration) (f : MigFrame) (e : FamEntry) : State :=
  (s.setFam f.index (e.movedTo m.tier f)).updPool (fun p => { p with
    used := Map.put (frameKey f.dstTile f.dstFrame) (.region m.slot) p.used
    invals := p.invals ++ [{ base := f.index, count := 1, kind := .migSwitch m.id, run := none }] })

theorem exec_frameSwitch (h : s.inHand t.val .hold = some m) (ht : m.todo = f :: rest) (hm : (s.famEntry f.index).migrating = true) :
    exec (.migrateFrameSwitch t) s = .next ((s.dirtyCopied m f).switched m f (s.famEntry f.index)) := by
  rw [show exec (.migrateFrameSwitch t) s = execMigrateFrameSwitch t s from rfl]
  unfold execMigrateFrameSwitch
  split
  · next hk => exact absurd (hk.symm.trans h) (by simp)
  · next k hk =>
    obtain rfl : k = m := Option.some.inj (hk.symm.trans h)
    simp only [ht, hm, Bool.not_true, Bool.false_eq_true, if_false]
    rfl

theorem frameSwitch_spec (hr : Map.rising s.pool.fam = true) (ht : m.todo = f :: rest) (h : s.inHand t.val .hold = some m)
    (hm : (s.famEntry f.index).migrating = true) :
    ∃ u : State, exec (.migrateFrameSwitch t) s = .next u ∧ u.famEntry f.index = { s.famEntry f.index with
        tier := m.tier, migrating := false, tile := f.dstTile, frame := f.dstFrame, gen := ((s.famEntry f.index).gen + 1) % 65536 } ∧
      (∀ i, i ≠ f.index → u.famEntry i = s.famEntry i) ∧ Map.find (frameKey f.dstTile f.dstFrame) u.pool.used = some (.region m.slot) ∧
      u.pool.invals = s.pool.invals ++ [{ base := f.index, count := 1, kind := .migSwitch m.id, run := none }] := by
  have honly := s.dirtyCopied_onlyData m f
  have hinvals : ((s.dirtyCopied m f).setFam f.index ((s.famEntry f.index).movedTo m.tier f)).pool.invals = s.pool.invals :=
    (State.setFam_onlyFam ..).invals.trans honly.invals
  have hentry := State.famEntry_setFam_same (honly.fam ▸ hr) f.index ((s.famEntry f.index).movedTo m.tier f)
  rw [honly.famEntry] at hentry
  exact ⟨_, exec_frameSwitch h ht hm, hentry, fun i hi => (State.famEntry_setFam_ne hi ..).trans (honly.famEntry i), Map.find_put_same ..,
    congrArg (· ++ _) hinvals⟩

end

end Sys2Proof.Machine

open Sys2Proof Sys2Proof.Machine

/-- Settles O42: a migration planned and reserved, its first pass, its switch, and the events with no frame in hand. -/
theorem memoryMigration : Obligations.MemoryMigration := by
  unfold Obligations.MemoryMigration
  exact ⟨fun p o n r s ha h => ⟨memMigrate_answers ha h, memMigrate_starts ha h⟩,
    fun t m f rest s hs hr ht => ⟨pass1Done_spec hs hr ht, frameSwitch_spec hr ht, exec_pass1Done_none, exec_frameSwitch_none⟩⟩
end

section
/-! SUPPORT. The OME block format, the readings, and binary32 (R272, R274 to R276, R325). -/

namespace Sys2Proof.Machine

/-! ### Conversion (R272, R274) -/

theorem clamp31_bounds (v : Int) : -31 ≤ clamp31 v ∧ clamp31 v ≤ 31 := by
  unfold clamp31
  omega

/-- What R272 and R274 ask of a converted block. -/
structure OmeBlk.WellFormed (b : OmeBlk) : Prop where
  hi_length : b.hi.length = 32
  lo_length : b.lo.length = 32
  mantissa : ∀ m ∈ b.hi ++ b.lo, -31 ≤ m ∧ m ≤ 31
  exp : b.exp = 0 ∨ (2 ≤ b.exp ∧ b.exp ≤ 255)
  zero : b.exp = 0 → ∀ m ∈ b.hi ++ b.lo, m = 0
  nonfinite : b.nonfinite = true → b.exp = 0

/-- The block with exponent and mantissas 0. -/
def zeroBlk (nonfinite : Bool) : OmeBlk :=
  { exp := 0, hi := List.replicate 32 0, lo := List.replicate 32 0, nonfinite := nonfinite }

/-- The block of finite values, the largest of them below 2^e and not below 2^(e − 1). -/
def scaledBlk (ds : List Dy) (e : Int) : OmeBlk :=
  let t := ds.map (fun d => (⟨d.num, d.exp + 5 - e⟩ : Dy))
  let hi := t.map (fun d => clamp31 d.rne)
  { exp := (e + 127).toNat, hi := hi,
    lo := (t.zip hi).map (fun x => clamp31 (Dy.rne (let r := x.1.add ⟨-x.2, 0⟩; ⟨r.num, r.exp + 5⟩))),
    nonfinite := false }

/-- CONVERT_BLOCK gives a zero block, or scales 32 finite values by an exponent of the normal range. -/
theorem convertBlock_cases (x : List Num) : (∃ nf, convertBlock x = zeroBlk nf) ∨
    ∃ ds e, ds.length = x.length ∧ -125 ≤ e ∧ e ≤ 128 ∧ convertBlock x = scaledBlk ds e := by
  unfold convertBlock
  extract_lets zero ds a e
  by_cases hlen : ds.length ≠ x.length
  · exact .inl ⟨true, if_pos hlen⟩
  rw [if_neg hlen]
  by_cases h0 : a.num = 0
  · exact .inl ⟨false, if_pos h0⟩
  rw [if_neg h0]
  by_cases hbig : 128 ≤ a.log2
  · exact .inl ⟨true, if_pos hbig⟩
  rw [if_neg hbig]
  by_cases hsmall : a.log2 < -126
  · exact .inl ⟨false, if_pos hsmall⟩
  rw [if_neg hsmall]
  exact .inr ⟨ds, e, not_not.1 hlen, by omega, by omega, rfl⟩

theorem zeroBlk_wellFormed (nf : Bool) : (zeroBlk nf).WellFormed := by
  have hm : ∀ m ∈ (zeroBlk nf).hi ++ (zeroBlk nf).lo, m = 0 := fun m h => by
    rcases List.mem_append.1 h with h | h <;> exact List.eq_of_mem_replicate h
  exact ⟨List.length_replicate, List.length_replicate, fun m h => by rw [hm m h]; decide, .inl rfl, fun _ => hm, fun _ => rfl⟩

theorem scaledBlk_wellFormed {ds : List Dy} {e : Int} (hl : ds.length = 32) (h1 : -125 ≤ e) (h2 : e ≤ 128) : (scaledBlk ds e).WellFormed := by
  have hexp : (scaledBlk ds e).exp = (e + 127).toNat := rfl
  have hhi : (scaledBlk ds e).hi.length = 32 := by simp [scaledBlk, hl]
  have hlo : (scaledBlk ds e).lo.length = 32 := by simp [scaledBlk, hl]
  refine ⟨hhi, hlo, fun m h => ?_, by omega, fun h => by omega, fun h => absurd h Bool.false_ne_true⟩
  rcases List.mem_append.1 h with h | h
  · obtain ⟨d, -, rfl⟩ := List.mem_map.1 h
    exact clamp31_bounds _
  · obtain ⟨d, -, rfl⟩ := List.mem_map.1 h
    exact clamp31_bounds _

theorem convertBlock_wellFormed {x : List Num} (hx : x.length = 32) : (convertBlock x).WellFormed := by
  obtain ⟨nf, h⟩ | ⟨ds, e, hl, h1, h2, h⟩ := convertBlock_cases x
  · exact h ▸ zeroBlk_wellFormed nf
  · exact h ▸ scaledBlk_wellFormed (hl.trans hx) h1 h2

/-! ### Readings (R275) -/

theorem readingOf_bounds (range : Nat) (s given : Int) : -2032 ≤ readingOf range s given ∧ readingOf range s given ≤ 2032 := by
  unfold readingOf
  split
  · split <;> decide
  · omega

theorem readingOf_above {range : Nat} {s : Int} (h : ((127 * 2 ^ (8 - range) : Nat) : Int) < s) (given : Int) : readingOf range s given = 2032 := by
  generalize hk : 127 * 2 ^ (8 - range) = k at h
  have hsat : saturates range s = true := decide_eq_true (by omega)
  rw [readingOf, if_pos hsat, if_neg (by omega)]

theorem readingOf_below {range : Nat} {s : Int} (h : s < -((127 * 2 ^ (8 - range) : Nat) : Int)) (given : Int) : readingOf range s given = -2032 := by
  generalize hk : 127 * 2 ^ (8 - range) = k at h
  have hsat : saturates range s = true := decide_eq_true (by omega)
  rw [readingOf, if_pos hsat, if_pos (by omega)]

/-! ### binary32 codes (R276) -/

/-- A magnitude with a sign. -/
def signMag (neg : Bool) (n : Nat) : Int := if neg then -(n : Int) else (n : Int)

@[simp] theorem natAbs_signMag (neg : Bool) (n : Nat) : (signMag neg n).natAbs = n := by
  cases neg
  · exact Int.natAbs_natCast n
  · exact (Int.natAbs_neg _).trans (Int.natAbs_natCast n)

theorem signMag_lt_zero {n : Nat} (hn : n ≠ 0) (neg : Bool) : signMag neg n < 0 ↔ neg = true := by
  cases neg <;> simp only [signMag, Bool.false_eq_true, if_true, if_false, iff_true, iff_false] <;> omega

theorem roundShift_zero (n : Nat) : roundShift n 0 = n := by
  rw [roundShift, if_pos le_rfl]
  exact Nat.mul_one n

/-- A subnormal code decoded. -/
theorem f32Num_subnormal {w : Nat} (h : w / 2 ^ 23 % 256 = 0) :
    f32Num w = .fin ⟨signMag (decide (2 ^ 31 ≤ w)) (w % 2 ^ 23), -149⟩ := by
  rw [f32Num, h]
  rfl

/-- A normal code decoded. -/
theorem f32Num_normal {w : Nat} (h0 : w / 2 ^ 23 % 256 ≠ 0) (h255 : w / 2 ^ 23 % 256 ≠ 255) :
    f32Num w = .fin ⟨signMag (decide (2 ^ 31 ≤ w)) (w % 2 ^ 23 + 2 ^ 23), (w / 2 ^ 23 % 256 : Nat) - 150⟩ := by
  rw [f32Num, if_neg h255, if_neg h0]
  rfl

/-- A multiple of 2^−149 below the normal range is its own code. -/
theorem encodeMag_subnormal {f : Nat} (hf : f < 2 ^ 23) (neg : Bool) : encodeMag 23 127 255 ⟨signMag neg f, -149⟩ = some f := by
  by_cases h0 : f = 0
  · subst h0
    cases neg <;> rfl
  · have hlog : Nat.log2 f < 23 := (Nat.log2_lt h0).2 hf
    have hsub : (Nat.log2 f : Int) + -149 < 1 - ((127 : Nat) : Int) := by omega
    simp only [encodeMag, Dy.log2, natAbs_signMag, if_neg h0, if_pos hsub]
    exact congrArg some (roundShift_zero f)

/-- A value of 24 significant bits is encoded without rounding: its exponent above its fraction. -/
theorem encodeMag_normal {e f : Nat} (h0 : e ≠ 0) (h255 : e < 255) (hf : f < 2 ^ 23) (neg : Bool) :
    encodeMag 23 127 255 ⟨signMag neg (f + 2 ^ 23), (e : Int) - 150⟩ = some (e * 2 ^ 23 + f) := by
  have hlog : Nat.log2 (f + 2 ^ 23) = 23 := (Nat.log2_eq_iff (by omega)).2 ⟨by omega, by omega⟩
  have hnormal : ¬ ((23 : Nat) : Int) + ((e : Int) - 150) < 1 - ((127 : Nat) : Int) := by omega
  have hshift : ((23 : Nat) : Int) + ((e : Int) - 150) - ((23 : Nat) : Int) - ((e : Int) - 150) = 0 := by omega
  have hexp : (((23 : Nat) : Int) + ((e : Int) - 150) + ((127 : Nat) : Int)).toNat = e := by omega
  have hcode : (e - 1) * 2 ^ 23 + (f + 2 ^ 23) = e * 2 ^ 23 + f := by omega
  have hmax : ¬ 255 * 2 ^ 23 ≤ e * 2 ^ 23 + f := by omega
  simp only [encodeMag, Dy.log2, natAbs_signMag, hlog, if_neg (show f + 2 ^ 23 ≠ 0 by omega), if_neg hnormal, hshift, roundShift_zero, hexp,
    hcode, if_neg hmax]

/-- The code of a value that is not a negative zero: its sign, and its magnitude's code. -/
theorem f32Of_signMag {neg : Bool} {n c : Nat} {e : Int} (hz : n = 0 → neg = false) (hc : encodeMag 23 127 255 ⟨signMag neg n, e⟩ = some c) :
    f32Of (.fin ⟨signMag neg n, e⟩) = (if neg then 2 ^ 31 else 0) + c := by
  have hsign : (signMag neg n < 0) = (neg = true) := by
    by_cases hn : n = 0
    · subst hn
      rw [hz rfl]
      decide
    · exact propext (signMag_lt_zero hn neg)
  simp only [f32Of, hsign, hc]
  rfl

/-- A finite code but negative zero is the code of what it decodes to. -/
theorem f32Of_f32Num {w : Nat} (hw : w < 2 ^ 32) (hfin : w / 2 ^ 23 % 256 ≠ 255) (hz : w ≠ 2 ^ 31) : f32Of (f32Num w) = w := by
  have hf : w % 2 ^ 23 < 2 ^ 23 := Nat.mod_lt _ (by decide)
  by_cases h0 : w / 2 ^ 23 % 256 = 0
  · rw [f32Num_subnormal h0, f32Of_signMag (fun h => decide_eq_false (by omega)) (encodeMag_subnormal hf _)]
    simp only [decide_eq_true_eq]
    split <;> omega
  · rw [f32Num_normal h0 hfin, f32Of_signMag (fun h => by omega) (encodeMag_normal h0 (by omega) hf _)]
    simp only [decide_eq_true_eq]
    split <;> omega

/-! ### binary32 addition (R276, R325) -/

theorem Dy.add_comm (a b : Dy) : a.add b = b.add a := by
  simp only [Dy.add, min_comm b.exp a.exp]
  rw [Int.add_comm]

theorem f32Add_comm (a b : Nat) : f32Add a b = f32Add b a := by
  unfold f32Add
  cases f32Num a with
  | nan => cases f32Num b <;> rfl
  | inf x =>
    cases f32Num b with
    | nan => rfl
    | inf y =>
      by_cases hxy : x = y
      · rw [hxy]
      · simp only [if_neg hxy, if_neg (Ne.symm hxy)]
    | fin _ => rfl
  | fin x =>
    cases f32Num b with
    | nan => rfl
    | inf _ => rfl
    | fin y => simp only [Dy.add_comm y x, Bool.and_comm (decide (2 ^ 31 ≤ b))]

end Sys2Proof.Machine

open Sys2Proof Sys2Proof.Machine

/-- Settles O44: a converted block is well formed, a reading is held within its range, finite codes decode and encode, and addition commutes. -/
theorem numberFormats : Obligations.NumberFormats := by
  unfold Obligations.NumberFormats
  refine ⟨fun x hx => ?_, fun range sum given => ?_, fun w => f32Of_f32Num, fun a b _ _ => f32Add_comm a b⟩
  · obtain ⟨hhi, hlo, hman, hexp, hzero, hnon⟩ := convertBlock_wellFormed hx
    exact ⟨hhi, hlo, hman, hexp, hzero, hnon⟩
  · obtain ⟨hlow, hhigh⟩ := readingOf_bounds range sum given
    exact ⟨hlow, hhigh, fun _ h => readingOf_above h given, fun _ h => readingOf_below h given⟩
end

section
/-! SUPPORT. The matrix engine's passes: how one starts, what its end records, and what waits for a pass boundary
(R270, R281 to R287, R304). -/

namespace Sys2Proof.Machine

/-! ### A pass starts (R270, R287, R304) -/

/-- What keeps an engine from taking any pass: its state, a pass in hand, a pause, something that waits for the boundary, or the gate. -/
def State.passBarred (s : State) (n : Nat) : Prop :=
  (s.f (F.OME_STAT_STATE n) ≠ 3 ∧ s.f (F.OME_STAT_STATE n) ≠ 4) ∨ (s.ome n).work ≠ none ∨ (s.ome n).paused ≠ 0 ∨ (s.ome n).traceReq = true ∨
    (s.ome n).reacqReq = true ∨ (s.ome n).dozeReq = true ∨ s.startTrace1 n = true ∨ s.gated n = true

/-- An engine in IDLE or RUN that takes its next pass when a bank is ready. -/
structure State.PassOpen (s : State) (n : Nat) : Prop where
  state : s.f (F.OME_STAT_STATE n) = 3 ∨ s.f (F.OME_STAT_STATE n) = 4
  work : (s.ome n).work = none
  paused : (s.ome n).paused = 0
  trace : (s.ome n).traceReq = false
  reacq : (s.ome n).reacqReq = false
  doze : (s.ome n).dozeReq = false
  trace1 : s.startTrace1 n = false
  gate : s.gated n = false

section
variable {s : State} {t : Tile}

theorem omePassStart_barred (h : s.passBarred t.val) : exec (.omePassStart t) s = .next s := by
  rw [show exec (.omePassStart t) s = execOmePassStart t s from rfl]
  refine if_pos ?_
  simpa [State.passBarred, or_assoc, Option.isSome_iff_ne_none] using h

theorem omePassStart_idle (h : s.nextWork t.val = none) : exec (.omePassStart t) s = .next s := by
  rw [show exec (.omePassStart t) s = execOmePassStart t s from rfl]
  simp only [execOmePassStart, h, ite_self]

/-- A pass begun on a bank for a job whose unit is in hand. -/
def State.jobPassOn (s : State) (n id prio p bank : Nat) : State :=
  (s.setFs [(F.OME_STAT_STATE n, 4), (F.OME_STAT_ACTIVE_BANK n, bank), (F.OMEJ_STAT_RUN_PRIO n, prio)]).updOme n (fun o =>
    { o with work := some (.job id), ready := if p = 1 then o.ready else o.ready.erase bank, lastJob := id, lastColl := false })

theorem omePassStart_job {id p cls bank : Nat} {j : Job} {sh : Share} (ho : s.PassOpen t.val) (hw : s.nextWork t.val = some (.job id))
    (hp : s.passOf t.val (.job id) = some (p, cls)) (hb : s.bankFor t.val p cls = some bank) (hj : s.job id = some j)
    (hsh : s.shareAt t.val j = some sh) (hact : sh.active = true) (hrun : j.state = .running) (hcal : s.f (F.OME_CTL_CAL_STRICT t.val) = 0) :
    exec (.omePassStart t) s = .next (s.jobPassOn t.val id j.desc.prio p bank) := by
  have hopen : (!(s.f (F.OME_STAT_STATE t.val) == 3 || s.f (F.OME_STAT_STATE t.val) == 4) || (s.ome t.val).work.isSome ||
      decide ((s.ome t.val).paused ≠ 0) || (s.ome t.val).traceReq || (s.ome t.val).reacqReq || (s.ome t.val).dozeReq || s.startTrace1 t.val ||
      s.gated t.val) = false := by
    obtain ⟨hst, hwork, hpaused, htrace, hreacq, hdoze, htrace1, hgate⟩ := ho
    simpa [hwork, hpaused, htrace, hreacq, hdoze, htrace1, hgate] using fun h => hst.resolve_left h
  have hlive : j.live = true := by simp [Job.live, hrun]
  rw [show exec (.omePassStart t) s = execOmePassStart t s from rfl]
  simp only [execOmePassStart, hopen, hw, hp, hb, hj, hsh, hact, hlive, State.b_eq_false hcal, Bool.false_eq_true, if_false, if_true, Bool.not_true,
    Bool.false_and]
  rfl

/-! ### A bank is ready (R270) -/

theorem omeBankReloadDone_ready {b : Fin 2} (hst : s.f (F.OME_STAT_STATE t.val) ∉ [0, 1, 8]) (hw : (s.ome t.val).withdrawn.contains b.val = false)
    (hr : (s.ome t.val).ready.contains b.val = false) :
    exec (.omeBankReloadDone t b) s = .next (s.updOme t.val (fun o => { o with ready := o.ready ++ [b.val] })) := by
  rw [show exec (.omeBankReloadDone t b) s = execOmeBankReloadDone t b s from rfl]
  refine if_neg ?_
  simpa [-List.contains_eq_mem, hw, hr, not_or, and_assoc] using hst

theorem omeBankReloadDone_stays {b : Fin 2} (h : s.f (F.OME_STAT_STATE t.val) ∈ [0, 1, 8] ∨ (s.ome t.val).withdrawn.contains b.val = true ∨
    (s.ome t.val).ready.contains b.val = true) : exec (.omeBankReloadDone t b) s = .next s := by
  rw [show exec (.omeBankReloadDone t b) s = execOmeBankReloadDone t b s from rfl]
  refine if_pos ?_
  simpa [-List.contains_eq_mem, or_assoc] using h

end

/-! ### What every pass records (R269, R279, R282) -/

theorem State.collFlag_regs (s : State) (n bits : Nat) : (s.collFlag n bits).regs = s.regs := by
  unfold State.collFlag
  split <;> rfl

/-- The counters of a pass: with the MACs performed, and without calibration currency or with it. -/
def State.passCounted (s : State) (t macs : Nat) (stale : Bool) : State :=
  let s1 := (s.bump (F.OME_CNT_PASS t)).setPair (F.OME_MAC_LO t) (F.OME_MAC_HI t) macs
  if stale then s1.bump (F.OME_CNT_STALE t) else s1

theorem State.countPass_regs (s : State) (t : Nat) (w : PassWork) : ∃ macs stale, (s.countPass t w).regs = (s.passCounted t macs stale).regs := by
  unfold State.countPass
  obtain ⟨rows, lines, n⟩ := s.passShape t w
  dsimp only
  generalize (s.pair (F.OME_MAC_LO t) (F.OME_MAC_HI t) + 2048 * n) % 2 ^ 64 = macs
  generalize s.stalePass t (s.f (F.OME_STAT_ACTIVE_BANK t)) rows lines = stale
  refine ⟨macs, stale, ?_⟩
  cases w with
  | job id => rfl
  | coll k seq sg =>
    cases stale with
    | false => exact congrArg State.regs (if_neg Bool.false_ne_true)
    | true => exact (congrArg State.regs (if_pos rfl)).trans (State.collFlag_regs ..)

theorem State.bump_f_off {s : State} {x y : Fld} (h : y.off ≠ x.off) (n : Nat) : (s.bump x n).f y = s.f y := State.f_setF_off h _

theorem State.setPair_f_off {s : State} {lo hi y : Fld} (hlo : y.off ≠ lo.off) (hhi : y.off ≠ hi.off) (v : Nat) : (s.setPair lo hi v).f y = s.f y :=
  (State.f_setF_off hhi _).trans (State.f_setF_off hlo _)

/-- The MAC and staleness counters of a pass leave the other registers to its pass counter. -/
theorem State.passCounted_f {s : State} {t : Nat} {y : Fld} (h : y.off ∉ [R.OME_MAC_LO t, R.OME_MAC_HI t, R.OME_CNT_STALE t]) (macs : Nat)
    (stale : Bool) : (s.passCounted t macs stale).f y = (s.bump (F.OME_CNT_PASS t)).f y := by
  simp only [List.mem_cons, List.not_mem_nil, or_false, not_or] at h
  obtain ⟨hlo, hhi, hst⟩ := h
  have hpair := State.setPair_f_off (s := s.bump (F.OME_CNT_PASS t)) (lo := F.OME_MAC_LO t) (hi := F.OME_MAC_HI t) hlo hhi
  cases stale with
  | false => exact hpair _
  | true => exact (State.bump_f_off hst 1).trans (hpair _)

theorem State.countPass_f {s : State} {t : Nat} {y : Fld} (h : y.off ∉ [R.OME_MAC_LO t, R.OME_MAC_HI t, R.OME_CNT_STALE t]) (w : PassWork) :
    (s.countPass t w).f y = (s.bump (F.OME_CNT_PASS t)).f y := by
  obtain ⟨macs, stale, hregs⟩ := s.countPass_regs t w
  exact (State.f_of_regs hregs y).trans (State.passCounted_f h macs stale)

theorem State.notePilot_f_pass {s : State} (hs : s.canonical) (t pilot row bank : Nat) :
    (s.notePilot t pilot row bank).f (F.OME_CNT_PASS t) = s.f (F.OME_CNT_PASS t) :=
  State.f_setFs_ne hs _ (by
    simp [Fld.apart, F.OME_CNT_PASS, F.OME_PILOT_LAST_MAX, F.OME_PILOT_WORST_ROW, F.OME_PILOT_WORST_BANK, R.OME_CNT_PASS, R.OME_PILOT])

theorem State.notePilot_f_max {s : State} (hs : s.canonical) (t pilot row bank : Nat) :
    (s.notePilot t pilot row bank).f (F.OME_PILOT_LAST_MAX t) = pilot % 2 ^ 16 :=
  State.f_setFs_at hs _ 0 rfl (by simp [F.OME_PILOT_LAST_MAX])
    (by simp [Fld.apart, F.OME_PILOT_LAST_MAX, F.OME_PILOT_WORST_ROW, F.OME_PILOT_WORST_BANK])

/-- A pass is counted once, and its largest pilot error recorded. -/
theorem State.notePilot_countPass_f {s : State} (hs : s.canonical) (t : Nat) (pilot : BitVec 16) (row bank : Nat) (w : PassWork) :
    ((s.notePilot t pilot.toNat row bank).countPass t w).f (F.OME_CNT_PASS t) = min (2 ^ 32 - 1) (s.f (F.OME_CNT_PASS t) + 1) ∧
      ((s.notePilot t pilot.toNat row bank).countPass t w).f (F.OME_PILOT_LAST_MAX t) = pilot.toNat := by
  have hu : (s.notePilot t pilot.toNat row bank).canonical := State.setFs_canonical hs _
  constructor
  · rw [State.countPass_f (by simp [F.OME_CNT_PASS, R.OME_CNT_PASS, R.OME_MAC_LO, R.OME_MAC_HI, R.OME_CNT_STALE]),
      State.f_bump_same hu.rising (by simp [F.OME_CNT_PASS]), State.notePilot_f_pass hs]
    exact min_comm ..
  · rw [State.countPass_f (by simp [F.OME_PILOT_LAST_MAX, R.OME_PILOT, R.OME_MAC_LO, R.OME_MAC_HI, R.OME_CNT_STALE]),
      State.bump_f_off (by simp [F.OME_CNT_PASS, F.OME_PILOT_LAST_MAX, R.OME_PILOT, R.OME_CNT_PASS]), State.notePilot_f_max hs]
    exact Nat.mod_eq_of_lt pilot.isLt

/-! ### A pass ends (R275, R282) -/

section
variable {s : State} {t : Tile} {w : PassWork}

theorem omePassEnd_stays (h : (s.ome t.val).work = none ∨ s.f (F.OME_STAT_STATE t.val) ≠ 4) (pilot : BitVec 16) (row : BitVec 7) (bank : Fin 2)
    (readings : List (BitVec 12)) : exec (.omePassEnd t pilot row bank readings) s = .next s := by
  rw [show exec (.omePassEnd t pilot row bank readings) s = execOmePassEnd t pilot row bank readings s from rfl]
  unfold execOmePassEnd
  dsimp only
  split
  · rfl
  · next w hw => exact if_pos (h.resolve_left (by simp [hw]))

theorem pilotLimitExceeded_stays (h : (s.ome t.val).work = none ∨ s.f (F.OME_STAT_STATE t.val) ≠ 4) (pilot : BitVec 16) (row : BitVec 7)
    (bank : Fin 2) : exec (.pilotLimitExceeded t pilot row bank) s = .next s := by
  rw [show exec (.pilotLimitExceeded t pilot row bank) s = execPilotLimitExceeded t pilot row bank s from rfl]
  unfold execPilotLimitExceeded
  dsimp only
  split
  · rfl
  · next w hw => exact if_pos (h.resolve_left (by simp [hw]))

theorem pilotLimitExceeded_bad (hw : (s.ome t.val).work = some w) (h4 : s.f (F.OME_STAT_STATE t.val) = 4) (pilot : BitVec 16)
    (row : BitVec 7) (bank : Fin 2) : exec (.pilotLimitExceeded t pilot row bank) s =
      .next (((s.notePilot t.val pilot.toNat row.toNat bank.val).countPass t.val w).badPass t.val w true) := by
  rw [show exec (.pilotLimitExceeded t pilot row bank) s = execPilotLimitExceeded t pilot row bank s from rfl]
  simp only [execPilotLimitExceeded, hw, h4, ne_eq, not_true_eq_false, if_false]

theorem omePassEnd_above {pilot : BitVec 16} (hw : (s.ome t.val).work = some w) (h4 : s.f (F.OME_STAT_STATE t.val) = 4)
    (hp : s.f (F.OME_CTL_PILOT_LIM t.val) * 10 < pilot.toNat) (row : BitVec 7) (bank : Fin 2) (readings : List (BitVec 12)) :
    exec (.omePassEnd t pilot row bank readings) s =
      .next (((s.notePilot t.val pilot.toNat row.toNat bank.val).countPass t.val w).badPass t.val w true) := by
  rw [show exec (.omePassEnd t pilot row bank readings) s = execOmePassEnd t pilot row bank readings s from rfl]
  simp only [execOmePassEnd, hw, h4, ne_eq, not_true_eq_false, if_false, decide_eq_true hp, Bool.true_or, if_true]

theorem omePassEnd_unlocked {pilot : BitVec 16} (hw : (s.ome t.val).work = some w) (h4 : s.f (F.OME_STAT_STATE t.val) = 4)
    (hp : pilot.toNat ≤ s.f (F.OME_CTL_PILOT_LIM t.val) * 10) (hl : s.f (F.OME_STAT_PILOT_LOCK t.val) = 0) (row : BitVec 7) (bank : Fin 2)
    (readings : List (BitVec 12)) : exec (.omePassEnd t pilot row bank readings) s =
      .next (((s.notePilot t.val pilot.toNat row.toNat bank.val).countPass t.val w).badPass t.val w false) := by
  rw [show exec (.omePassEnd t pilot row bank readings) s = execOmePassEnd t pilot row bank readings s from rfl]
  simp only [execOmePassEnd, hw, h4, ne_eq, not_true_eq_false, if_false, decide_eq_false (Nat.not_lt.2 hp), State.b_eq_false hl, Bool.not_false,
    Bool.or_true, if_true]

/-- A good pass that is the last of its group: its readings go to its job's share. -/
theorem omePassEnd_good {pilot : BitVec 16} {row : BitVec 7} {bank : Fin 2} {id : Nat} {j : Job} {sh : Share}
    (hw : (s.ome t.val).work = some (.job id)) (h4 : s.f (F.OME_STAT_STATE t.val) = 4) (hp : pilot.toNat ≤ s.f (F.OME_CTL_PILOT_LIM t.val) * 10)
    (hl : s.f (F.OME_STAT_PILOT_LOCK t.val) = 1)
    (hj : ((s.notePilot t.val pilot.toNat row.toNat bank.val).countPass t.val (.job id)).job id = some j)
    (hsh : ((s.notePilot t.val pilot.toNat row.toNat bank.val).countPass t.val (.job id)).shareAt t.val j = some sh) (hrun : j.state = .running)
    (hact : sh.active = true) (hlast : j.desc.cls ≤ sh.reads.length) (readings : List (BitVec 12)) :
    exec (.omePassEnd t pilot row bank readings) s =
      .next (((((s.notePilot t.val pilot.toNat row.toNat bank.val).countPass t.val (.job id)).updOme t.val (fun o =>
        { o with work := none, regroup := none })).jobPass t.val j sh (readings.map (fun x => signedOf 12 x.toNat))).afterPass t.val) := by
  rw [show exec (.omePassEnd t pilot row bank readings) s = execOmePassEnd t pilot row bank readings s from rfl]
  generalize hs1 : (s.notePilot t.val pilot.toNat row.toNat bank.val).countPass t.val (.job id) = s1 at hj hsh
  have hj' : (s1.updOme t.val (fun o => { o with work := none, regroup := none })).job id = some j := hj
  have hsh' : (s1.updOme t.val (fun o => { o with work := none, regroup := none })).shareAt t.val j = some sh := hsh
  simp only [execOmePassEnd, hw, h4, hs1, hj', hsh', ne_eq, not_true_eq_false, if_false, decide_eq_false (Nat.not_lt.2 hp), State.b_eq_true hl,
    Bool.not_true, Bool.or_false, Bool.false_eq_true, hrun, hact, decide_true, Bool.and_true, if_true, if_neg (Nat.not_lt.2 hlast)]

end

/-! ### What waits for a boundary (R281 to R284, R287) -/

theorem State.passBoundary_stays {s : State} {t : Nat} (h : (s.ome t).work ≠ none ∨ s.f (F.OME_STAT_STATE t) = 5) : s.passBoundary t = s :=
  if_pos (by simpa [Option.isSome_iff_ne_none] using h)

/-- With nothing else asked of the engine, a boundary makes the waiting Substitute changes. -/
theorem State.passBoundary_subs {s : State} {t : Nat} (hw : (s.ome t).work = none) (h5 : s.f (F.OME_STAT_STATE t) ≠ 5)
    (htrace : (s.ome t).traceReq = false) (hreacq : (s.ome t).reacqReq = false) (hdoze : (s.ome t).dozeReq = false) :
    s.passBoundary t = (s.each (s.ome t).subs (fun s c => s.applySub t c)).updOme t (fun o => { o with subs := [] }) := by
  simp only [State.passBoundary, hw, h5, htrace, hreacq, hdoze, Option.isSome_none, Bool.false_or, Bool.false_and,
    decide_false, Bool.false_eq_true, if_false]

section
variable {s : State} {t : Tile}

theorem pilotAcquired_ends (h : s.f (F.OME_STAT_STATE t.val) = 2 ∨ s.f (F.OME_STAT_STATE t.val) = 5) :
    exec (.pilotAcquired t) s = .next ((s.setFs [(F.OME_STAT_STATE t.val, 3), (F.OME_STAT_PILOT_LOCK t.val, 1)]).passBoundary t.val) := by
  rw [show exec (.pilotAcquired t) s = execPilotAcquired t s from rfl]
  exact if_pos (by simpa using h)

theorem pilotAcquired_locks (h : s.f (F.OME_STAT_STATE t.val) = 3 ∨ s.f (F.OME_STAT_STATE t.val) = 4) :
    exec (.pilotAcquired t) s = .next (s.setF (F.OME_STAT_PILOT_LOCK t.val) 1) := by
  rw [show exec (.pilotAcquired t) s = execPilotAcquired t s from rfl]
  exact (if_neg (by rcases h with h | h <;> simp [h])).trans (if_pos (by simpa using h))

theorem reacqTimeout_ends (h : s.f (F.OME_STAT_STATE t.val) = 5) :
    exec (.reacqTimeout t) s = .next ((s.setFs [(F.OME_STAT_STATE t.val, 3), (F.OME_STAT_PILOT_LOCK t.val, 0)]).passBoundary t.val) :=
  congrArg Host.Outcome.next (if_pos h)

theorem reacqTimeout_stays (h : s.f (F.OME_STAT_STATE t.val) ≠ 5) : exec (.reacqTimeout t) s = .next s := congrArg Host.Outcome.next (if_neg h)

/-! ### A failed engine (R285, R287) -/

theorem State.failOme_fails {s : State} {t : Nat} (h0 : s.f (F.OME_STAT_STATE t) ≠ 0) (h8 : s.f (F.OME_STAT_STATE t) ≠ 8) :
    s.failOme t = (((s.omeStop t 8).moveDuties t).note 0x4 .omeFailed 2 (tgtTile t)).assertTile t 30 := if_neg (by simp [h0, h8])

theorem State.failOme_stays {s : State} {t : Nat} (h : s.f (F.OME_STAT_STATE t) = 0 ∨ s.f (F.OME_STAT_STATE t) = 8) : s.failOme t = s :=
  if_pos (by simpa using h)

end

end Sys2Proof.Machine

open Sys2Proof Sys2Proof.Machine

/-- Settles O45: how a pass starts, a bank is ready, a pass ends and is taken or marked bad, and what the pilot, a boundary and a failure do. -/
theorem enginePasses : Obligations.EnginePasses := by
  unfold Obligations.EnginePasses
  refine ⟨fun t s => ⟨fun h => ?_, fun id j sh p cls bank hst hw hpa htr hre hdo ht1 hg hn hp hb hj hsh ha hrun hcal => ?_⟩,
    fun t b s => ⟨omeBankReloadDone_ready, omeBankReloadDone_stays⟩, fun t pilot row bank readings s => ⟨fun h => ?_, fun w hw h4 => ?_⟩,
    fun t s => ⟨pilotAcquired_ends, pilotAcquired_locks, reacqTimeout_ends, reacqTimeout_stays, fun h => ?_, fun c hw h5 hsubs htr hre hdo => ?_,
      fun h0 h8 => ?_, fun h => ?_⟩⟩
  · by_cases hn : s.nextWork t.val = none
    · exact omePassStart_idle hn
    · exact omePassStart_barred (by simpa only [State.passBarred, hn, or_false] using h)
  · exact omePassStart_job ⟨hst, hw, hpa, htr, hre, hdo, ht1, hg⟩ hn hp hb hj hsh ha hrun hcal
  · exact ⟨omePassEnd_stays h pilot row bank readings, pilotLimitExceeded_stays h pilot row bank⟩
  · refine ⟨fun hs => State.notePilot_countPass_f hs t.val pilot row.toNat bank.val w, pilotLimitExceeded_bad hw h4 pilot row bank,
      fun hp => omePassEnd_above hw h4 hp row bank readings, fun hp hl => omePassEnd_unlocked hw h4 hp hl row bank readings, ?_⟩
    rintro id j sh rfl hp hl hj hsh hrun ha hlast
    exact omePassEnd_good hw h4 hp hl hj hsh hrun ha hlast readings
  · exact congrArg Host.Outcome.next (State.passBoundary_stays h)
  · refine (congrArg Host.Outcome.next (State.passBoundary_subs hw h5 htr hre hdo)).trans ?_
    rw [hsubs]
    rfl
  · exact congrArg (fun u : State => Host.Outcome.next u.pumpStreams) (State.failOme_fails h0 h8)
  · exact congrArg (fun u : State => Host.Outcome.next u.pumpStreams) (State.failOme_stays h)
end

section
/-! SUPPORT. Matrix jobs: entered, queried, cancelled, ended, and the events of a running job (R291, R302 to R311). -/

namespace Sys2Proof.Machine

/-! ### The deal (R291) -/

/-- A fold whose steps all keep a value keeps it. -/
theorem foldl_keeps {α β γ : Type} (g : β → γ) (f : β → α → β) (hf : ∀ b a, g (f b a) = g b) (b : β) (l : List α) :
    g (l.foldl f b) = g b :=
  (List.foldl_hom g (g₂ := fun x _ => x) fun b a => (hf b a).symm).symm.trans (List.foldl_fixed l)

/-- Giving a row-block to a tile leaves the tiles as they are. -/
theorem dealt_tiles (l : List (Nat × List (Nat × Bool))) (t b : Nat) (r : Bool) :
    (l.map (fun e => if e.1 = t then (e.1, e.2 ++ [(b, r)]) else e)).map Prod.fst = l.map Prod.fst := by
  rw [List.map_map]
  refine List.map_congr_left fun e _ => ?_
  simp only [Function.comp_apply]
  split <;> rfl

/-- The deal has a share for every mask tile. -/
theorem State.deal_tiles (s : State) (d : JobDesc) : (s.deal d).map Prod.fst = maskTiles d.mask := by
  unfold State.deal
  refine (foldl_keeps (List.map Prod.fst) _ (fun l b => ?_) _ _).trans ((foldl_keeps (List.map Prod.fst) _ (fun l b => ?_) _ _).trans ?_)
  · dsimp only
    split
    · rfl
    · split
      · rfl
      · exact dealt_tiles ..
  · dsimp only
    split
    · exact dealt_tiles ..
    · rfl
  · exact (List.map_map ..).trans (List.map_id _)

/-! ### A job entered (R298, R301, R302) -/

/-- Taking tier-2 frames changes the memory pool only. -/
theorem State.takeTier2_pool {s t : State} {id n : Nat} {got l : List Nat} (h : s.takeTier2 id n got = some (t, l)) :
    t = { s with pool := t.pool } := by
  induction n generalizing s got with
  | zero =>
    obtain ⟨rfl, -⟩ := Prod.mk.inj (Option.some.inj h)
    rfl
  | succ n ih =>
    simp only [State.takeTier2] at h
    split at h
    · exact nomatch h
    · split at h
      · exact nomatch h
      · exact (ih h :)

theorem State.tier2For_pool (s : State) (id n : Nat) : (s.tier2For id n).1 = { s with pool := (s.tier2For id n).1.pool } := by
  unfold State.tier2For
  cases h : s.takeTier2 id n [] with
  | none => rfl
  | some x => exact State.takeTier2_pool h

/-- Where nothing that a stream has accepted waits, there is nothing to execute. -/
theorem State.pumpStreams_quiet {s : State} (h : ∀ k ∈ s.streamKeys, ∀ c, s.stream k = some c → c.waiting = []) : s.pumpStreams = s := by
  have hnone : s.streamKeys.filter (fun k => match s.stream k with | some c => !c.waiting.isEmpty | none => false) = [] := by
    refine List.filter_eq_nil_iff.2 fun k hk => ?_
    cases hc : s.stream k with
    | none => exact Bool.false_ne_true
    | some c => simp [h k hk c hc]
  exact congrArg (fun l => s.each l State.pumpStream) hnone

/-- In a module that mirrors nothing and whose streams wait for nothing, a submit enters one job beside the frames it takes. -/
theorem State.submitJob_enters {b : State} (hm : b.mirrors = false) (hq : ∀ k ∈ b.streamKeys, ∀ c, b.stream k = some c → c.waiting = [])
    (p : Packet) (o id : Nat) : ∃ (j : Job) (n : Nat) (sets : List (Nat × StageSet)), b.submitJob p o id = (b.tier2For id n).1.putJob j sets ∧
      j.id = id ∧ j.origin = o ∧ j.tag = p.tag.toNat ∧ j.desc = JobDesc.parse p.params ∧ (j.state = .staging ∨ j.state = .running) ∧
      j.shares.map (·.tile) = maskTiles (JobDesc.parse p.params).mask ∧ j.mirrored = false := by
  have hpump (n : Nat) (j : Job) (sets : List (Nat × StageSet)) :
      ((b.tier2For id n).1.putJob j sets).pumpStreams = (b.tier2For id n).1.putJob j sets := by
    refine State.pumpStreams_quiet ?_
    rw [State.tier2For_pool]
    exact hq
  unfold State.submitJob
  generalize JobDesc.parse p.params = d
  simp only [hm, Bool.and_false, Bool.false_eq_true, if_false, hpump]
  refine ⟨_, _, _, rfl, rfl, rfl, rfl, rfl, ite_eq_or_eq .., ?_, rfl⟩
  rw [List.map_map, ← b.deal_tiles d]
  rfl

/-! ### Query and cancel (R309, R311) -/

theorem State.jobRecord_length (s : State) (j : Job) : (s.jobRecord j).length = 32 := by
  simp [State.jobRecord, leBytes_length, zeros]

section
variable {s : State} {p : Packet} {o : Nat} {j : Job}

theorem omeJobQuery_answers (ha : s.accepts omeJobQueryDef p o) (hj : (s.begun p).jobNamed (p.w 0) (p.w 1) = some j) :
    exec (.omeJobQuery p) s = .next ((s.begun p).replies p ((s.begun p).jobRecord j)) := by
  have hact : omeJobQueryDef.act (s.begun p) p o (s.begun p).proctor.nextId = .now (s.begun p) stOk 0 ((s.begun p).jobRecord j) [] := by
    simp only [omeJobQueryDef, hj]
  rw [exec_command rfl (by decide), runCmd_accepted ha, hact]
  exact congrArg Host.Outcome.next (State.conclude_plain _ rfl (by decide))

theorem omeJobCancel_ends (ha : s.accepts omeJobCancelDef p o) (hj : (s.begun p).jobNamed (p.w 0) (p.w 1) = some j) :
    exec (.omeJobCancel p) s = .next (((s.begun p).endJob j.id 0x8401 0 255).pumpStreams.replies p []) := by
  have hact : omeJobCancelDef.act (s.begun p) p o (s.begun p).proctor.nextId =
      .now ((s.begun p).endJob j.id 0x8401 0 255).pumpStreams stOk 0 [] [] := by
    simp only [omeJobCancelDef, hj]
  rw [exec_command rfl (by decide), runCmd_accepted ha, hact]
  exact congrArg Host.Outcome.next (State.conclude_plain _ rfl (by decide))

end

/-! ### The end of a job (R305 to R308) -/

/-- The state in which a job ends with a status. -/
def endState (status : Nat) : JobState := if status = 0x8401 then .cancelled else if status = stOk then .done else .failed

/-- A job that has ended. -/
def Job.ended (status tile bell : Nat) (j : Job) : Job := { j with state := endState status, failTile := tile, endBell := some bell }

/-- A job without what it held: its tier-2 frames, its staging set, its engines' work. -/
def Job.released (j : Job) : Job :=
  { j with frames := [], set := none, shares := j.shares.map (fun sh => { sh with active := false, ready := false, reads := [], terms := [] }) }

theorem Job.ended_live (status tile bell : Nat) (j : Job) : (j.ended status tile bell).live = false := by
  simp only [Job.live, Job.ended, endState]
  split
  · rfl
  · split <;> rfl

section
variable {s : State} {id : Nat} {j : Job}

/-- A change of a job that leaves its number is seen by the number. -/
theorem State.job_updJob {f : Job → Job} (hf : ∀ x, (f x).id = x.id) : (s.updJob id f).job id = (s.job id).map f := by
  have hid : (fun x : Job => x.id == id) ∘ (fun x : Job => if x.id = id then f x else x) = fun x => x.id == id := by
    funext x
    simp only [Function.comp_apply, apply_ite Job.id, hf, ite_self]
  simp only [State.job, State.updJob, List.find?_map, hid]
  cases h : s.work.jobs.find? (fun x => x.id == id) with
  | none => rfl
  | some x => exact congrArg some (if_pos (by simpa using List.find?_some h))

/-- Two changes of a job, one after the other, are one. -/
theorem State.updJob_updJob {f g : Job → Job} (hf : ∀ x, (f x).id = x.id) : (s.updJob id f).updJob id g = s.updJob id (fun x => g (f x)) := by
  simp only [State.updJob, List.map_map]
  congr 3
  funext x
  by_cases hx : x.id = id
  · simp only [Function.comp_apply, if_pos hx, hf]
  · simp only [Function.comp_apply, if_neg hx]

/-- After a change that ends a job, none of its number is at work. -/
theorem State.updJob_ends {f : Job → Job} (hl : ∀ x, (f x).live = false) :
    ∀ x ∈ (s.updJob id f).work.jobs, x.id = id → x.live = false := by
  intro x hx hid
  obtain ⟨y, -, rfl⟩ := List.mem_map.1 hx
  by_cases hy : y.id = id
  · rw [if_pos hy]
    exact hl y
  · rw [if_neg hy] at hid
    exact absurd hid hy

theorem State.releaseFrame_frame (s : State) (t frame : Nat) :
    (s.releaseFrame t frame).work = s.work ∧ (s.releaseFrame t frame).proctor = s.proctor := by
  unfold State.releaseFrame
  dsimp only
  split
  · exact ⟨by rw [State.bump_work]; rfl, by rw [State.bump_proctor]; rfl⟩
  · exact ⟨rfl, rfl⟩

/-- Frames by their keys given back. -/
def State.releaseFrames (s : State) (l : List Nat) : State := s.each l (fun s k => s.releaseFrame (k / 2 ^ 17) (k % 2 ^ 17))

theorem State.releaseFrames_frame (s : State) (l : List Nat) : (s.releaseFrames l).work = s.work ∧ (s.releaseFrames l).proctor = s.proctor :=
  ⟨State.each_keeps State.work s l _ fun _ u => (u.releaseFrame_frame ..).1,
    State.each_keeps State.proctor s l _ fun _ u => (u.releaseFrame_frame ..).2⟩

/-- What a job holds is given back: of the jobs only it changes, and no running command does. -/
theorem State.releaseJob_frame (s : State) (j : Job) :
    (s.releaseJob j).work.jobs = (s.updJob j.id Job.released).work.jobs ∧ (s.releaseJob j).proctor = s.proctor := by
  have hframes (u : State) (hj : u.work.jobs = s.work.jobs) (hp : u.proctor = s.proctor) :
      ((u.releaseFrames j.frames).updJob j.id Job.released).work.jobs = (s.updJob j.id Job.released).work.jobs ∧
      ((u.releaseFrames j.frames).updJob j.id Job.released).proctor = s.proctor := by
    obtain ⟨hwork, hproc⟩ := u.releaseFrames_frame j.frames
    exact ⟨by simp only [State.updJob, hwork, hj], hproc.trans hp⟩
  unfold State.releaseJob
  cases j.set with
  | none => exact hframes s rfl rfl
  | some slot =>
    dsimp only
    split
    · exact hframes (s.freeSet slot) rfl rfl
    · exact hframes s rfl rfl

/-- The end of a command's work takes no command off the list. -/
theorem State.finish_running (s : State) (id st det : Nat) (res : List Byte) (k : Nat) :
    ((s.finish id st det res).running k).isSome = (s.running k).isSome := by
  simp only [State.running, State.finish, State.updPr, List.find?_map, Option.isSome_map]
  congr 2
  funext r
  simp only [Function.comp_apply]
  split <;> rfl

/-- Where all jobs of a number have ended, one stays in the table only while its command runs. -/
theorem State.dropUnnamed_job (h : ∀ x ∈ s.work.jobs, x.id = id → x.live = false) :
    (s.dropUnnamed id).job id = if (s.running id).isSome then s.job id else none := by
  unfold State.dropUnnamed
  split
  · rfl
  · refine List.find?_eq_none.2 fun x hx hid => ?_
    obtain ⟨hmem, hkeep⟩ := List.mem_filter.1 hx
    have hxid : x.id = id := by simpa using hid
    simp [hxid, h x hmem hxid] at hkeep

/-- A job at work ends with its state, its record and nothing held, and leaves the table where no command names it. -/
theorem State.endJob_eq (st det tile : Nat) (hj : s.job id = some j) (hl : j.live = true ∨ j.state = .mirrorWait) :
    let u := s.updJob id (Job.ended st tile s.bell)
    let x := j.ended st tile s.bell
    s.endJob id st det tile = ((u.releaseJob x).finish id st det (u.jobRecord x)).dropUnnamed id := by
  intro u x
  have hopen : (!(j.live || decide (j.state = .mirrorWait))) = false := by simpa [or_iff_not_imp_left] using hl
  have hu : s.updJob id (fun x => { x with
    state := if st = 0x8401 then .cancelled else if st = stOk then .done else .failed, failTile := tile, endBell := some s.bell }) = u := rfl
  have hx : u.job id = some x := (State.job_updJob (f := Job.ended st tile s.bell) fun _ => rfl).trans (by rw [hj]; rfl)
  simp only [State.endJob, hj, hopen, Bool.false_eq_true, if_false]
  rw [hu, hx]

/-- A job that ends keeps its place while its command runs, and leaves the table else. -/
theorem State.endJob_job (st det tile : Nat) (hj : s.job id = some j) (hl : j.live = true ∨ j.state = .mirrorWait) :
    (s.endJob id st det tile).job id = if (s.running id).isSome then some (j.ended st tile s.bell).released else none := by
  have hid : (j.ended st tile s.bell).id = id := (by simpa using List.find?_some hj : j.id = id)
  obtain ⟨hjobs, hproc⟩ := (s.updJob id (Job.ended st tile s.bell)).releaseJob_frame (j.ended st tile s.bell)
  rw [hid, State.updJob_updJob (f := Job.ended st tile s.bell) fun _ => rfl] at hjobs
  rw [State.endJob_eq st det tile hj hl, State.dropUnnamed_job, State.finish_running]
  · have hrun : ((s.updJob id (Job.ended st tile s.bell)).releaseJob (j.ended st tile s.bell)).running id = s.running id :=
      congrArg (fun pr => pr.running.find? (fun r => r.id == id)) hproc
    have hjob : (s.updJob id (fun x => (x.ended st tile s.bell).released)).job id = some (j.ended st tile s.bell).released :=
      (State.job_updJob (f := fun x => (x.ended st tile s.bell).released) fun _ => rfl).trans (by rw [hj]; rfl)
    rw [hrun]
    exact if_congr Iff.rfl ((congrArg (List.find? (fun x : Job => x.id == id)) hjobs).trans hjob) rfl
  · exact fun x hx => State.updJob_ends (f := fun x => (x.ended st tile s.bell).released) (fun y => y.ended_live st tile s.bell) x
      ((congrArg (x ∈ ·) hjobs).mp hx)

end

/-! ### Events of a running job (R303, R304, R308, R310) -/

section
variable {o g : BitVec 16} {j : Job} {s : State}
variable (hj : s.work.jobs.find? (fun j => j.origin == o.toNat && j.tag == g.toNat && decide (j.state = .running)) = some j)
include hj

theorem jobUnitWritten_waits {t : Tile} {sh : Share} (hsh : j.shares.find? (fun sh => sh.tile == t.val) = some sh) (hr : sh.ready = false) :
    exec (.jobUnitWritten o g t) s = .next s := by
  rw [show exec (.jobUnitWritten o g t) s = execJobUnitWritten o g t s from rfl]
  simp only [execJobUnitWritten, hj, hsh, hr, Bool.not_false, Bool.true_or, if_true]

theorem jobUnitWritten_writes {t : Tile} {sh : Share} (hsh : j.shares.find? (fun sh => sh.tile == t.val) = some sh) (hr : sh.ready = true)
    (ho : j.desc.odst = 0) : exec (.jobUnitWritten o g t) s = .next (s.writeUnit ((s.server t.val).getD t.val) j sh).pumpStreams := by
  rw [show exec (.jobUnitWritten o g t) s = execJobUnitWritten o g t s from rfl]
  simp only [execJobUnitWritten, hj, hsh, hr, ho, Nat.zero_ne_one, decide_false, Bool.false_and, Bool.not_true, Bool.or_self, Bool.false_eq_true,
    if_false]

theorem jobSharesEnded_waits (hd : j.shares.all j.shareDone = false) : exec (.jobSharesEnded o g) s = .next s := by
  rw [show exec (.jobSharesEnded o g) s = execJobSharesEnded o g s from rfl]
  simp only [execJobSharesEnded, hj, hd, Bool.not_false, if_true]

theorem jobSharesEnded_mirrored (hd : j.shares.all j.shareDone = true) (hm : j.mirrored = true) (hs : s.mirrors = true) :
    exec (.jobSharesEnded o g) s = .next (s.updJob j.id (fun j => { j with state := .mirrorWait })) := by
  rw [show exec (.jobSharesEnded o g) s = execJobSharesEnded o g s from rfl]
  simp only [execJobSharesEnded, hj, hd, hm, hs, Bool.not_true, Bool.and_self, Bool.false_eq_true, if_false, if_true]

theorem jobSharesEnded_done (hd : j.shares.all j.shareDone = true) (hm : j.mirrored = false ∨ s.mirrors = false) :
    exec (.jobSharesEnded o g) s = .next (s.endJob j.id stOk 0 255) := by
  have halone : (j.mirrored && s.mirrors) = false := by simpa only [Bool.and_eq_false_iff] using hm
  rw [show exec (.jobSharesEnded o g) s = execJobSharesEnded o g s from rfl]
  simp only [execJobSharesEnded, hj, hd, halone, Bool.not_true, Bool.false_eq_true, if_false]

theorem projectBatchWait_due (hk : j.desc.kind = 3) (hq : Map.get [] j.inq 0 ≠ []) :
    exec (.projectBatchWait o g) s = .next ((s.updJob j.id (fun j => Job.formAll { j with due := true })).pumpStreams) := by
  rw [show exec (.projectBatchWait o g) s = execProjectBatchWait o g s from rfl]
  simp only [execProjectBatchWait, hj]
  exact if_neg (by simpa [hk] using hq)

theorem projectBatchWait_idle (h : j.desc.kind ≠ 3 ∨ Map.get [] j.inq 0 = []) : exec (.projectBatchWait o g) s = .next s := by
  rw [show exec (.projectBatchWait o g) s = execProjectBatchWait o g s from rfl]
  simp only [execProjectBatchWait, hj]
  exact if_pos (by simpa using h)

end

theorem jobMirrorDone_ends {o g : BitVec 16} {j : Job} {s : State}
    (hj : s.work.jobs.find? (fun j => j.origin == o.toNat && j.tag == g.toNat && decide (j.state = .mirrorWait)) = some j) :
    exec (.jobMirrorDone o g) s = .next (s.endJob j.id stOk 0 255) := by
  rw [show exec (.jobMirrorDone o g) s = execJobMirrorDone o g s from rfl]
  simp only [execJobMirrorDone, hj]

theorem jobMirrorDone_none {o g : BitVec 16} {s : State}
    (hj : s.work.jobs.find? (fun j => j.origin == o.toNat && j.tag == g.toNat && decide (j.state = .mirrorWait)) = none) :
    exec (.jobMirrorDone o g) s = .next s := by
  rw [show exec (.jobMirrorDone o g) s = execJobMirrorDone o g s from rfl]
  simp only [execJobMirrorDone, hj]

end Sys2Proof.Machine

open Sys2Proof Sys2Proof.Machine

/-- Settles O46: what a submit enters, what query and cancel answer, how a job ends, and what the events of a running job do. -/
theorem matrixJobs : Obligations.MatrixJobs := by
  unfold Obligations.MatrixJobs
  refine ⟨fun p o s ha => ⟨(exec_command rfl (by decide) s).trans (congrArg Host.Outcome.next (runCmd_accepted ha)), fun hm hq => ?_⟩,
    fun p o j s hj => ⟨fun ha => ⟨omeJobQuery_answers ha hj, State.jobRecord_length _ j⟩, fun ha => omeJobCancel_ends ha hj⟩,
    fun id st det tile j s hj hl => ?_,
    fun o g j s hj => ⟨fun t sh hsh => ⟨jobUnitWritten_waits hj hsh, jobUnitWritten_writes hj hsh⟩, jobSharesEnded_waits hj,
      jobSharesEnded_mirrored hj, jobSharesEnded_done hj, projectBatchWait_due hj, projectBatchWait_idle hj⟩,
    fun o g s => ⟨fun j => jobMirrorDone_ends, jobMirrorDone_none⟩⟩
  · obtain ⟨j, n, sets, henters, hid, horigin, htag, hdesc, hstate, htiles, hmir⟩ :=
      State.submitJob_enters hm hq p o (s.begun p).proctor.nextId
    rw [henters, State.tier2For_pool]
    exact ⟨j, rfl, hid, horigin, htag, hdesc, hstate, htiles, hmir, rfl, fun _ => ⟨rfl, rfl, rfl⟩⟩
  · rw [State.endJob_job st det tile hj hl]
    refine ⟨fun x hx => ?_, fun hrun => by rw [if_pos hrun]; rfl⟩
    obtain ⟨-, hx⟩ := Option.ite_none_right_eq_some.1 hx
    obtain rfl := Option.some.inj hx
    exact ⟨rfl, rfl, rfl⟩
end

section
/-! SUPPORT. Staging sets: loaded, copied, released and queried (R297, R298, R300, R303, R311). -/

namespace Sys2Proof.Machine

/-! ### The table of staging sets -/

/-- A staging set stored in a slot. -/
def State.putSet (s : State) (n : Nat) (x : StageSet) : State := { s with work := { s.work with sets := Map.put n x s.work.sets } }

section
variable {s : State} {n i : Nat}

theorem State.putSet_same (s : State) (n : Nat) (x : StageSet) : (s.putSet n x).set_ n = x :=
  congrArg (Option.getD · ({} : StageSet)) (Map.find_put_same n x s.work.sets)

theorem State.putSet_ne (h : i ≠ n) (s : State) (x : StageSet) : (s.putSet n x).set_ i = s.set_ i :=
  congrArg (Option.getD · ({} : StageSet)) (Map.find_put_ne h x s.work.sets)

/-- A named set's slot is freed by leaving nothing of it but its GEN, raised. -/
theorem State.freeSet_sets (s : State) (h : n < 256) :
    (s.freeSet n).work.sets = Map.upd ({} : StageSet) s.work.sets n (fun x => { gen := (x.gen + 1) % 2 ^ 24 }) := if_neg (by omega)

theorem State.freeSet_same (h : n < 256) (hr : Map.rising s.work.sets = true) :
    (s.freeSet n).set_ n = { gen := ((s.set_ n).gen + 1) % 2 ^ 24 } := by
  rw [State.set_, s.freeSet_sets h, Map.get_upd_same hr]
  rfl

theorem State.freeSet_ne (h : n < 256) (hi : i ≠ n) (s : State) : (s.freeSet n).set_ i = s.set_ i := by
  rw [State.set_, s.freeSet_sets h, Map.get_upd_ne hi]
  rfl

/-- No handle names a slot that holds no live set. -/
theorem State.setOf_free {h : Nat} (hl : (s.set_ (h % 256)).live = false) : s.setOf h = none := by
  simp [State.setOf, hl]

end

/-! ### OME_STAGE_LOAD, OME_STAGE_RELEASE and OME_STAGE_QUERY (R298, R300, R311) -/

/-- The set that an OME_STAGE_LOAD makes in a slot, with none of its row-blocks copied. -/
def State.newSet (b : State) (p : Packet) (o n run : Nat) : StageSet :=
  let d := stageDesc p
  { gen := (b.set_ n).gen, live := true, origin := o, waddr := d.waddr, m := d.m, k := d.k, wfmt := d.wfmt, mask := d.mask
    need := needOf d (b.deal d)
    free := (needOf d (b.deal d)).map (fun e => (e.1, b.stagingFree e.1))
    data := (stagedOf (b.deal d)).foldl (fun (m : List (Nat × List Byte)) i => Map.put i [] m) []
    run := some run }

section
variable {s b : State} {p : Packet} {o : Nat}

theorem omeStageLoad_act {id : Nat} (hw : b.twin.want = none) (hfree : ∃ n, n < 256 ∧ (b.set_ n).live = false) :
    ∃ n < 256, (b.set_ n).live = false ∧ omeStageLoadDef.act b p o id = .later (b.fresh.2.putSet n (b.newSet p o n id)) := by
  obtain ⟨n, hn, hlive, hpick⟩ := State.pickFree_free (taken := fun n => (b.set_ n).live) hw hfree
  refine ⟨n, hn, hlive, ?_⟩
  simp only [omeStageLoadDef, hpick]
  rfl

/-- A load that is accepted takes a free slot and runs on (R298). -/
theorem omeStageLoad_loads (ha : s.accepts omeStageLoadDef p o) (hw : (s.begun p).twin.want = none)
    (hfree : ∃ n, n < 256 ∧ ((s.begun p).set_ n).live = false) : let b := s.begun p
    ∃ (t : State) (n : Nat), exec (.omeStageLoad p) s = .next t ∧ n < 256 ∧ (b.set_ n).live = false ∧
      t.set_ n = b.newSet p o n b.proctor.nextId ∧ (∀ i, i ≠ n → t.set_ i = b.set_ i) ∧ t.regs = b.regs ∧ b.keepsMemory t ∧
      b.runsOn t p o 0x410 := by
  intro b
  obtain ⟨n, hn, hlive, hact⟩ := omeStageLoad_act (p := p) (o := o) (id := b.proctor.nextId) hw hfree
  obtain ⟨hruns, hregs⟩ := runCmd_later ha hact rfl
  have hsets (i : Nat) : (runCmd omeStageLoadDef p s).set_ i = (b.fresh.2.putSet n (b.newSet p o n b.proctor.nextId)).set_ i := by
    rw [runCmd_starts ha hact rfl]
    rfl
  exact ⟨_, n, exec_command rfl (by decide) s, hn, hlive, (hsets n).trans (State.putSet_same ..),
    fun i hi => (hsets i).trans (State.putSet_ne hi ..), hregs,
    State.keepsMemory.trans (fun _ => ⟨rfl, rfl, rfl⟩) (runCmd_later_frame ha hact).2, hruns⟩

theorem omeStageRelease_frees (ha : s.accepts omeStageReleaseDef p o) :
    exec (.omeStageRelease p) s = .next (((s.begun p).freeSet (p.w 0 % 256)).replies p []) := by
  rw [exec_command rfl (by decide), runCmd_accepted ha]
  exact congrArg Host.Outcome.next (State.conclude_plain _ rfl (by decide))

/-- All the bytes that a staging set is to hold. -/
def StageSet.total (x : StageSet) : Nat := (x.need.map (·.2)).foldl (· + ·) 0

/-- The record of a set says how many of its bytes are staged: all of them once it is ready. -/
theorem State.stageRecord_spec (s : State) (n : Nat) : ∃ bytes ratio : Nat, s.stageRecord n = (leBytes 8 bytes ++ leBytes 4 ratio ++
      leBytes 1 (if (s.set_ n).ready then 1 else 0) ++ zeros 3, s.fresh.2) ∧ bytes ≤ (s.set_ n).total ∧
      ((s.set_ n).ready = true → bytes = (s.set_ n).total) := by
  refine ⟨_, _, rfl, ?_, fun h => if_pos h⟩
  split
  · exact Nat.le_refl _
  · exact Nat.le_of_lt_succ (Nat.mod_lt _ (Nat.succ_pos _))

theorem omeStageQuery_answers (ha : s.accepts omeStageQueryDef p o) : exec (.omeStageQuery p) s =
    .next (((s.begun p).stageRecord (p.w 0 % 256)).2.replies p ((s.begun p).stageRecord (p.w 0 % 256)).1) := by
  rw [exec_command rfl (by decide), runCmd_accepted ha]
  exact congrArg Host.Outcome.next (State.conclude_plain _ rfl (by decide))

end

/-! ### JOB_STAGING_DONE (R297, R308) -/

section
variable {o g : BitVec 16} {data : List (Nat × List Byte)} {s s1 : State}

/-- The row-blocks of a job's own set are copied: the set is ready and the job runs. -/
theorem jobStagingDone_runs {j : Job} {n : Nat}
    (hj : s.work.jobs.find? (fun j => j.origin == o.toNat && j.tag == g.toNat && decide (j.state = .staging)) = some j) (hn : j.set = some n)
    (hc : State.copyBlocks ((maskTiles j.desc.mask).headD 0) j.desc (Map.keys (s.set_ n).data) [] s = (.ok data, s1)) :
    exec (.jobStagingDone o g) s =
      .next ((s1.putSet n { s.set_ n with data := data, ready := true }).updJob j.id (fun j => { j with state := .running })).pumpStreams := by
  rw [show exec (.jobStagingDone o g) s = execJobStagingDone o g s from rfl]
  simp only [execJobStagingDone, hj, hn, hc]
  rfl

/-- The row-blocks of a named set are copied: the set is ready and its load ends with the handle. -/
theorem jobStagingDone_loads {r : Running} {x : Nat × StageSet}
    (hj : s.work.jobs.find? (fun j => j.origin == o.toNat && j.tag == g.toNat && decide (j.state = .staging)) = none)
    (hr : s.proctor.running.find? (fun r => r.opcode == 0x410 && r.origin == o.toNat && r.pkt.tag == g && r.fin.isNone) = some r)
    (hx : s.work.sets.find? (fun e => e.2.run == some r.id) = some x)
    (hc : State.copyBlocks ((maskTiles (stageDesc r.pkt).mask).headD 0) (stageDesc r.pkt) (Map.keys x.2.data) [] s = (.ok data, s1)) :
    exec (.jobStagingDone o g) s =
      .next ((s1.putSet x.1 { x.2 with data := data, ready := true, run := none }).finish r.id stOk 0 (leBytes 4 (x.1 + x.2.gen * 256))) := by
  rw [show exec (.jobStagingDone o g) s = execJobStagingDone o g s from rfl]
  simp only [execJobStagingDone, hj, hr, hx, hc]
  rfl

end

end Sys2Proof.Machine

open Sys2Proof Sys2Proof.Machine

/-- Settles O47: what a load takes and its end answers, what a release frees, what a query tells, and when a job with a set of its own runs. -/
theorem stagingSets : Obligations.StagingSets := by
  unfold Obligations.StagingSets
  refine ⟨fun p o s ha hw hfree => ?_, fun p o s => ⟨omeStageRelease_frees, fun ha => ?_⟩, fun n s hn hr => ?_,
    fun o g j n data s s1 => jobStagingDone_runs, fun o g r x data s s1 => jobStagingDone_loads⟩
  · obtain ⟨t, n, hexec, hn, hlive, hset, hothers, hregs, hmem, hruns⟩ := omeStageLoad_loads ha hw hfree
    refine ⟨t, n, hexec, hn, hlive, ?_⟩
    rw [hset]
    exact ⟨rfl, rfl, rfl, rfl, rfl, rfl, rfl, rfl, rfl, rfl, rfl, hothers, hregs, hmem, hruns⟩
  · obtain ⟨bytes, ratio, hrec, hle, hall⟩ := (s.begun p).stageRecord_spec (p.w 0 % 256)
    refine ⟨(s.begun p).fresh.2, bytes, ratio, ?_, rfl, hle, hall⟩
    rw [omeStageQuery_answers ha, hrec]
  · refine ⟨congrArg StageSet.gen (State.freeSet_same hn hr), fun h hh => State.setOf_free ?_, fun i hi => State.freeSet_ne hn hi s⟩
    rw [hh, State.freeSet_same hn hr]
end

section
/-! SUPPORT. Collective contexts, the streams of their members, and the commands of groups (R312 to R314, R333, R334, R336, R338). -/

namespace Sys2Proof.Machine

/-! ### What waits on a stream -/

section
variable {s t : State} {key k n : Nat}

/-- Nothing that the stream of a key has accepted waits. -/
def State.quiet (s : State) (key : Nat) : Prop := ∀ c, s.stream key = some c → c.waiting = []

theorem State.pumpStream_quiet (h : s.quiet key) : s.pumpStream key = s := by
  unfold State.pumpStream
  cases hc : s.stream key with
  | none => simp [State.pumpStreamN, hc]
  | some c => simp [State.pumpStreamN, hc, h c hc]

theorem State.each_pumpStream_quiet {l : List Nat} (h : ∀ k ∈ l, s.quiet k) : s.each l (fun s k => s.pumpStream k) = s := by
  unfold State.each
  induction l with
  | nil => rfl
  | cons k l ih =>
    rw [List.foldl_cons, State.pumpStream_quiet (h k List.mem_cons_self)]
    exact ih fun k hk => h k (List.mem_cons_of_mem _ hk)

theorem State.pumpMembers_none (h : s.group n = none) : s.pumpMembers n = s := by
  unfold State.pumpMembers
  rw [h]

theorem State.pumpMembers_quiet {g : Group} (hg : s.group n = some g) (h : ∀ m ∈ g.members, s.quiet m.key) : s.pumpMembers n = s := by
  unfold State.pumpMembers
  rw [hg]
  refine State.each_pumpStream_quiet fun k hk => ?_
  obtain ⟨m, hm, rfl⟩ := List.mem_map.1 hk
  exact h m hm

/-- `t` comes from `s` by changes of one stream and of the links. -/
def State.onlyStream (s t : State) (key : Nat) : Prop :=
  t = { s with streams := t.streams, links := t.links } ∧ ∀ k, k ≠ key → t.stream k = s.stream k

theorem State.onlyStream.refl (s : State) (key : Nat) : s.onlyStream s key := ⟨rfl, fun _ _ => rfl⟩

theorem State.onlyStream.trans {u : State} (h : s.onlyStream t key) (k : t.onlyStream u key) : s.onlyStream u key :=
  ⟨by rw [k.1, h.1], fun i hi => (k.2 i hi).trans (h.2 i hi)⟩

theorem State.onlyStream.updStream (h : s.onlyStream t key) (g : Stream → Stream) : s.onlyStream (t.updStream key g) key :=
  h.trans ⟨rfl, fun _ hk => State.stream_updSlot_ne (s := t) hk (fun sl => { sl with ctx := sl.ctx.map g })⟩

theorem State.onlyStream.enqueue (h : s.onlyStream t key) (p : Nat) (fs : List Flit) : s.onlyStream (t.enqueue p fs) key :=
  h.trans ⟨rfl, fun _ _ => rfl⟩

theorem State.onlyStream.dispatchTu (h : s.onlyStream t key) (vc : Nat) (tu : Tu) : s.onlyStream (t.dispatchTu key vc tu) key := by
  unfold State.dispatchTu
  split
  · exact h
  · dsimp only
    split
    · exact h
    · split
      · exact h.updStream _
      · split
        · exact h.updStream _
        · exact (h.enqueue ..).updStream _

theorem State.onlyStream.returnData (h : s.onlyStream t key) (n : Nat) : s.onlyStream (t.returnData key n) key := by
  have h1 := h.updStream (fun c => { c with freed := (c.freed + n) % 2 ^ 32 })
  unfold State.returnData State.creditCheck
  split
  · exact h1
  · split
    · unfold State.sendCredit
      split
      · exact h1
      · exact (h1.updStream _).dispatchTu ..
    · exact h1

theorem State.dropHeldColl_only (s : State) (n : Nat) (upto : Nat → Bool) (m : Member) : s.onlyStream (s.dropHeldColl n upto m) m.key := by
  unfold State.dropHeldColl
  split
  · exact .refl s _
  · dsimp only
    split
    · exact .refl s _
    · exact ((State.onlyStream.refl s m.key).updStream _).returnData _

/-- What is dropped from one stream leaves a stream on which nothing waits as it is. -/
theorem State.dropHeldColl_quiet (h : s.quiet key) (n : Nat) (upto : Nat → Bool) (m : Member) : (s.dropHeldColl n upto m).quiet key := by
  by_cases hk : key = m.key
  · subst hk
    have hs : s.dropHeldColl n upto m = s := by
      unfold State.dropHeldColl
      split
      · rfl
      · next c hc => simp [h c hc]
    rw [hs]
    exact h
  · intro c hc
    exact h c (((s.dropHeldColl_only n upto m).2 key hk).symm.trans hc)

/-- Units of a context dropped from members' streams: nothing else changes but links. -/
theorem State.each_dropHeldColl (s : State) (n : Nat) (upto : Nat → Bool) (l : List Member) :
    let t := s.each l (fun s m => s.dropHeldColl n upto m)
    t = { s with streams := t.streams, links := t.links } ∧ ∀ key, s.quiet key → t.quiet key := by
  refine List.foldlRecOn (motive := fun t : State => t = { s with streams := t.streams, links := t.links } ∧ ∀ key, s.quiet key → t.quiet key)
    l _ ⟨rfl, fun _ h => h⟩ fun t ht m _ => ⟨?_, fun key hq => State.dropHeldColl_quiet (ht.2 key hq) n upto m⟩
  have hm := (t.dropHeldColl_only n upto m).1
  rw [hm, ht.1]

end

/-! ### Contexts (R312) -/

section
variable {s : State} {n i h : Nat} {g g' : Group}

theorem State.ctx_updCtx_ne (hi : i ≠ n) (f : CollCtx → CollCtx) : (s.updCtx n f).ctx i = s.ctx i := Map.get_upd_ne hi ..

/-- A context that holds a group once it is changed reads as changed. -/
theorem State.ctx_updCtx_live {f : CollCtx → CollCtx} (hf : (f (s.ctx n)).group = some g) : (s.updCtx n f).ctx n = f (s.ctx n) :=
  Map.get_upd_of_ne fun he => absurd ((congrArg CollCtx.group he).symm.trans hf) (by simp)

theorem State.group_updCtx {f : CollCtx → CollCtx} (hf : (f (s.ctx n)).group = some g) : (s.updCtx n f).group n = some g :=
  (congrArg CollCtx.group (State.ctx_updCtx_live hf)).trans hf

theorem State.group_updGroup (hg : s.group n = some g) (f : Group → Group) : (s.updGroup n f).group n = some (f g) :=
  State.group_updCtx (congrArg (Option.map f) hg)

theorem State.ctx_updGroup_ne (hi : i ≠ n) (f : Group → Group) : (s.updGroup n f).ctx i = s.ctx i := State.ctx_updCtx_ne hi _

/-- A run of a group changed by its number. -/
theorem State.group_updRun (hg : s.group n = some g) (id : Nat) (f : CollRun → CollRun) :
    (s.updRun n id f).group n = some { g with runs := g.runs.map (fun r => if r.id = id then f r else r) } := State.group_updGroup hg _

theorem State.ctx_updRun_ne (hi : i ≠ n) (id : Nat) (f : CollRun → CollRun) : (s.updRun n id f).ctx i = s.ctx i := State.ctx_updGroup_ne hi _

/-- A context freed is named by no handle. -/
theorem State.ctxOf_freed (hr : Map.rising s.work.ctxs = true) (hh : h % 4096 = n) :
    (s.updCtx n (fun c => { gen := (c.gen + 1) % 2 ^ 20, group := none })).ctxOf h = none := by
  have hctx : (s.updCtx n (fun c => { gen := (c.gen + 1) % 2 ^ 20, group := none })).ctx n = { gen := ((s.ctx n).gen + 1) % 2 ^ 20, group := none } :=
    Map.get_upd_same hr n fun c => { gen := (c.gen + 1) % 2 ^ 20, group := none }
  unfold State.ctxOf
  rw [hh]
  dsimp only
  rw [hctx]
  rfl

theorem State.collPosted_of_group (hg : s.group n = some g) : s.collPosted n = g.runs.countP (fun r => decide (r.state < 2)) := by
  unfold State.collPosted
  rw [hg]

/-- A context without a group, or with nothing posted, has nothing to stop (R333). -/
theorem State.stopOps_idle (hi : s.group n = none ∨ s.collPosted n = 0) (status detail state rank tile : Nat) :
    s.stopOps n status detail state rank tile = s := by
  unfold State.stopOps
  split
  · rfl
  · next g hg =>
    have hhead : g.head = none := by
      rcases hi with hi | hi
      · exact absurd (hi.symm.trans hg) (by simp)
      · rw [State.collPosted_of_group hg, List.countP_eq_zero] at hi
        exact List.find?_eq_none.2 hi
    rw [hhead]

end

/-! ### Commands of groups (R312, R336, R338) -/

section
variable {s : State} {p : Packet} {o n : Nat} {g : Group}

/-- The group that a COLL_GROUP_CREATE makes. -/
def State.madeGroup (b : State) (p : Packet) : Group :=
  { members := memberList (b.inputOr p (p.w 0 * 8)) (p.w 0), mask := createMask p, moduleRank := p.w 3 }

/-- A COLL_GROUP_CREATE takes a free context, where nothing waits on a member's stream (R312). -/
theorem collGroupCreate_creates (ha : s.accepts collGroupCreateDef p o) (hm : (s.begun p).mirrors = false) (hw : (s.begun p).twin.want = none)
    (hfree : ∃ n, n < 4096 ∧ (s.begun p).group n = none) (hq : ∀ m ∈ ((s.begun p).madeGroup p).members, (s.begun p).quiet m.key) :
    let b := s.begun p
    ∃ (t : State) (n : Nat), exec (.collGroupCreate p) s = .next (t.replies p (leBytes 4 (n + (b.ctx n).gen * 4096))) ∧ n < 4096 ∧
      b.group n = none ∧ t.group n = some (b.madeGroup p) ∧ (∀ i, i ≠ n → t.ctx i = b.ctx i) ∧ t.streams = b.streams ∧ t.regs = b.regs ∧
      b.keepsMemory t := by
  intro b
  obtain ⟨n, hn, hnone, hpick⟩ := State.pickFree_free (b := b) (taken := fun n => (b.group n).isSome) hw
    (hfree.imp fun n h => ⟨h.1, Option.isSome_eq_false_iff.2 (Option.isNone_iff_eq_none.2 h.2)⟩)
  have hgroup := Option.not_isSome_iff_eq_none.1 (Bool.eq_false_iff.1 hnone)
  have hact : collGroupCreateDef.act b p o b.proctor.nextId = .now (b.fresh.2.updCtx n (fun c => { c with group := some (b.madeGroup p) }))
      stOk 0 (leBytes 4 (n + (b.ctx n).gen * 4096)) [] := by
    have hpump := State.each_pumpStream_quiet (s := b.fresh.2.updCtx n (fun c => { c with group := some (b.madeGroup p) }))
      (l := (b.madeGroup p).members.map Member.key) fun k hk => by
        obtain ⟨m, hm, rfl⟩ := List.mem_map.1 hk
        exact hq m hm
    simp only [collGroupCreateDef, hpick]
    exact congrArg (fun u => Effect.now u stOk 0 (leBytes 4 (n + (b.ctx n).gen * 4096)) []) hpump
  refine ⟨_, n, ?_, hn, hgroup, State.group_updCtx (s := b.fresh.2) (f := fun c => { c with group := some (b.madeGroup p) }) rfl, fun i hi => State.ctx_updCtx_ne hi _, rfl, rfl, fun _ => ⟨rfl, rfl, rfl⟩⟩
  rw [exec_command rfl (by decide), runCmd_accepted ha, hact]
  exact congrArg Host.Outcome.next (State.conclude_unmirrored rfl hm (by simp [leBytes_length]) (.inl rfl))

/-- The members of a group once a COLL_GROUP_MODIFY has added or removed some (R336). -/
def State.modified (b : State) (p : Packet) : List Member :=
  if p.w 1 = 0 then b.membersOf (p.w 0) ++ memberList (b.inputOr p (modifyBytes p)) (p.w 2)
  else ((b.membersOf (p.w 0)).zipIdx.filter (fun x => !(removeRanks (b.inputOr p (modifyBytes p)) (p.w 2)).contains x.2)).map (·.1)

/-- A COLL_GROUP_MODIFY that is accepted adds or removes (R336). -/
theorem collGroupModify_checked (ha : s.accepts collGroupModifyDef p o) : p.w 1 ≤ 1 := by
  have hpar := State.verdict_par ha.2
  by_contra hlt
  simp [collGroupModifyDef, Nat.lt_of_not_le hlt] at hpar

theorem State.mirrors_congr {s t : State} (hr : t.regs = s.regs) (ht : t.twin = s.twin) : t.mirrors = s.mirrors := by
  simp only [State.mirrors, State.twinState, State.f_of_regs hr, ht]

/-- The members that a COLL_GROUP_MODIFY takes out: what of theirs waits is dropped (R336). -/
def State.removedMembers (b : State) (p : Packet) : List Member :=
  (if p.w 1 = 1 then removeRanks (b.inputOr p (modifyBytes p)) (p.w 2) else []).map (fun r => (b.membersOf (p.w 0)).getD r ⟨0, false, 0, 0⟩)

/-- The group as a COLL_GROUP_MODIFY leaves it: BROKEN as long as a member it still has is lost (R335, R336). -/
def State.regrouped (b : State) (p : Packet) (g : Group) : Group :=
  { g with members := b.modified p, broken := match g.broken with
    | some _ => (b.modified p).findIdx? (fun m => b.memberGone m)
    | none => none }

theorem collGroupModify_act {b : State} {id : Nat} (hle : p.w 1 ≤ 1) :
    collGroupModifyDef.act b p o id = .now (((b.each (b.removedMembers p) (fun s m => s.dropHeldColl (p.w 0 % 4096) (fun _ => true) m)).updGroup
      (p.w 0 % 4096) (b.regrouped p)).each ((b.modified p).map Member.key) (fun s k => s.pumpStream k)) stOk 0 (leBytes 4 (b.modified p).length) [] := by
  rcases Nat.le_one_iff_eq_zero_or_eq_one.1 hle with h | h
  · have hmod : b.modified p = b.membersOf (p.w 0) ++ memberList (b.inputOr p (modifyBytes p)) (p.w 2) := if_pos h
    have hrg : b.regrouped p = fun g => { g with members := b.modified p, broken := match g.broken with
      | some _ => (b.modified p).findIdx? (fun m => b.memberGone m)
      | none => none } := rfl
    simp only [collGroupModifyDef, State.removedMembers, hrg, hmod, if_pos h] <;> rfl
  · have hn : ¬ p.w 1 = 0 := by omega
    have hmod : b.modified p = ((b.membersOf (p.w 0)).zipIdx.filter (fun x => !(removeRanks (b.inputOr p (modifyBytes p)) (p.w 2)).contains x.2)).map (·.1) := if_neg hn
    have hrg : b.regrouped p = fun g => { g with members := b.modified p, broken := match g.broken with
      | some _ => (b.modified p).findIdx? (fun m => b.memberGone m)
      | none => none } := rfl
    simp only [collGroupModifyDef, State.removedMembers, hrg, hmod, if_pos h, if_neg hn] <;> rfl

/-- A COLL_GROUP_MODIFY adds the members given, or takes the named ranks out, where nothing waits on a member's stream (R336). -/
theorem collGroupModify_modifies (ha : s.accepts collGroupModifyDef p o) (hm : (s.begun p).mirrors = false)
    (hg : (s.begun p).group (p.w 0 % 4096) = some g)
    (hq : ∀ m ∈ (s.begun p).modified p, (s.begun p).quiet m.key) :
    let b := s.begun p
    let n := p.w 0 % 4096
    ∃ t : State, exec (.collGroupModify p) s = .next (t.replies p (leBytes 4 (b.modified p).length)) ∧
      (∃ g2, t.group n = some g2 ∧ g2.members = b.modified p ∧ g2.mask = g.mask ∧ g2.nextSeq = g.nextSeq ∧ g2.runs = g.runs) ∧
      (∀ i, i ≠ n → t.ctx i = b.ctx i) ∧ t.regs = b.regs ∧ b.keepsMemory t := by
  intro b n
  have hle := collGroupModify_checked ha
  have hact := collGroupModify_act (o := o) (b := b) (id := b.proctor.nextId) hle
  obtain ⟨honly, hquiet⟩ := State.each_dropHeldColl b n (fun _ => true) (b.removedMembers p)
  generalize b.each (b.removedMembers p) (fun s m => s.dropHeldColl n (fun _ => true) m) = c at honly hquiet hact
  have hcg : c.group n = some g := by rw [honly]; exact hg
  rw [State.each_pumpStream_quiet fun k hk => ?_] at hact
  · refine ⟨c.updGroup n (b.regrouped p), ?_, ⟨b.regrouped p g, State.group_updGroup hcg _, rfl, rfl, rfl, rfl⟩, fun i hi => (State.ctx_updGroup_ne hi _).trans (by rw [honly]; rfl),
      (congrArg State.regs honly :), fun _ => by rw [honly]; exact ⟨rfl, rfl, rfl⟩⟩
    rw [exec_command rfl (by decide), runCmd_accepted ha, hact]
    refine congrArg Host.Outcome.next (State.conclude_unmirrored rfl ?_ (by simp [leBytes_length]) (.inl rfl))
    exact (State.mirrors_congr (congrArg State.regs honly :) (congrArg State.twin honly :)).trans hm
  · obtain ⟨m, hmem, rfl⟩ := List.mem_map.1 hk
    exact hquiet m.key (hq m hmem)

/-- A COLL_GROUP_DESTROY of a group with nothing posted frees its context (R312). -/
theorem collGroupDestroy_frees (ha : s.accepts collGroupDestroyDef p o)
    (hi : (s.begun p).group (p.w 0 % 4096) = none ∨ (s.begun p).collPosted (p.w 0 % 4096) = 0) :
    let b := s.begun p
    let n := p.w 0 % 4096
    let u := (b.updCtx n (fun c => { gen := (c.gen + 1) % 2 ^ 20, group := none })).each
      (((b.group n).map (fun g => g.members.map Member.key)).getD []) (fun s k => s.pumpStream k)
    exec (.collGroupDestroy p) s = .next (u.conclude 0x501 o false p stOk 0 [] [] (undoOf b u)) := by
  intro b n u
  have hact : collGroupDestroyDef.act b p o b.proctor.nextId = .now u stOk 0 [] [] := by
    simp only [collGroupDestroyDef, b, State.stopOps_idle hi]
    rfl
  rw [exec_command rfl (by decide), runCmd_accepted ha, hact]
  rfl

/-- COLL_GROUP_QUERY answers a group's members, state, next OPSEQ and posted operations (R338). -/
theorem collGroupQuery_answers (ha : s.accepts collGroupQueryDef p o) (hg : (s.begun p).group (p.w 0 % 4096) = some g) :
    let b := s.begun p
    exec (.collGroupQuery p) s = .next (b.replies p (leBytes 4 g.members.length ++
      leBytes 4 (if g.broken.isSome then 2 else if 0 < b.collPosted (p.w 0 % 4096) then 1 else 0) ++ leBytes 4 g.nextSeq ++
      leBytes 4 (b.collPosted (p.w 0 % 4096)))) := by
  intro b
  have hact : collGroupQueryDef.act b p o b.proctor.nextId = .now b stOk 0 (leBytes 4 g.members.length ++
      leBytes 4 (if g.broken.isSome then 2 else if 0 < b.collPosted (p.w 0 % 4096) then 1 else 0) ++ leBytes 4 g.nextSeq ++
      leBytes 4 (b.collPosted (p.w 0 % 4096))) [] := by
    simp only [collGroupQueryDef, show b.group (p.w 0 % 4096) = some g from hg]
  rw [exec_command rfl (by decide), runCmd_accepted ha, hact]
  exact congrArg Host.Outcome.next (b.conclude_plain rfl ⟨by decide, by decide⟩)

/-- The run that a COLL_OP_POST appends to a group's runs (R333). -/
def State.postedRun (b : State) (p : Packet) (g : Group) : CollRun :=
  { id := b.proctor.nextId, desc := postDesc p, first := g.nextSeq, count := (postDesc p).rep }

/-- COLL_OP_POST appends a run of REPEAT operations from the next OPSEQ and runs on (R333). -/
theorem collOpPost_posts (ha : s.accepts collOpPostDef p o) (hm : (s.begun p).mirrors = false) (hg : (s.begun p).group (p.w 0 % 4096) = some g) :
    let b := s.begun p
    let n := p.w 0 % 4096
    let r := b.postedRun p g
    ∃ t : State, exec (.collOpPost p) s = .next t ∧
      t.group n = some { g with runs := g.runs ++ [r], nextSeq := (g.nextSeq + r.count) % 65536 } ∧ (∀ i, i ≠ n → t.ctx i = b.ctx i) ∧
      b.runsOn t p o 0x510 ∧ t.regs = b.regs ∧ b.keepsMemory t := by
  intro b n r
  have hact : collOpPostDef.act b p o b.proctor.nextId = .later (b.updGroup n (fun g => { g with
      runs := g.runs ++ [b.postedRun p g], nextSeq := (g.nextSeq + (postDesc p).rep) % 65536 })) := by
    simp only [collOpPostDef, show b.mirrors = false from hm, Bool.false_eq_true, if_false]
    rfl
  obtain ⟨hruns, hregs⟩ := runCmd_later ha hact rfl
  rw [runCmd_starts ha hact rfl] at hruns hregs
  refine ⟨_, (exec_command rfl (by decide) s).trans (congrArg Host.Outcome.next (runCmd_starts ha hact rfl)), State.group_updGroup hg _,
    fun i hi => State.ctx_updGroup_ne hi _, hruns, hregs, fun _ => ⟨rfl, rfl, rfl⟩⟩

/-- The record of an operation is 32 bytes (R334). -/
theorem State.collRecord_length (s : State) (r : CollRun) : (s.collRecord r).length = 32 := by
  simp [State.collRecord, leBytes_length, zeros]

/-- COLL_OP_QUERY answers an operation's record (R334). -/
theorem collOpQuery_answers {r : CollRun} (ha : s.accepts collOpQueryDef p o) (hg : (s.begun p).group (p.w 0 % 4096) = some g)
    (hc : (s.begun p).ctxOf (p.w 0) = some (p.w 0 % 4096)) (hr : g.runOf (p.w 1) = some r) :
    exec (.collOpQuery p) s = .next ((s.begun p).replies p ((s.begun p).collRecord r)) := by
  generalize hb : s.begun p = b at *
  have hact : collOpQueryDef.act b p o b.proctor.nextId = .now b stOk 0 (b.collRecord r) [] := by
    simp only [collOpQueryDef, hc, Option.bind_some, hg, hr]
  rw [← hb] at hact
  rw [exec_command rfl (by decide), runCmd_accepted ha, hact, hb]
  exact congrArg Host.Outcome.next (b.conclude_plain rfl ⟨by decide, by decide⟩)

end
end Sys2Proof.Machine

open Sys2Proof Sys2Proof.Machine

/-- Settles O48: what waits on a stream stays there unless the stream is pumped, and each command's change to its context is read back. -/
theorem collectiveGroups : Obligations.CollectiveGroups := by
  unfold Obligations.CollectiveGroups
  refine ⟨fun p o s ha hm hw => collGroupCreate_creates ha hm hw, fun p o g s ha hm hg hq => ?_,
    fun n s hn hr h hh => State.ctxOf_freed hr hh, fun p o s ha hi u hu => ?_, fun p o g s hg => ⟨fun ha => collGroupQuery_answers ha hg, ?_, ?_⟩⟩
  · exact collGroupModify_modifies ha hm hg fun m hmem => hq m (List.mem_append_right _ hmem)
  · rw [hu]
    exact collGroupDestroy_frees ha hi
  · rintro r rfl ha hm
    exact collOpPost_posts ha hm hg
  · exact fun r ha hc hr => ⟨collOpQuery_answers ha hg hc hr, State.collRecord_length _ r⟩

end

section
/-! SUPPORT. How a collective operation runs: its start, the units of its streams, its stages and its end (R319 to R335). -/

namespace Sys2Proof.Machine

/-! ### Starting, and units that come in (R319, R320, R323) -/

section
variable {s s1 : State} {n key rank : Nat} {g : Group} {o : CollOp} {tu : Tu} {v : Via} {bytes : List Byte}

theorem State.startOp_none (h : s.group n = none) : s.startOp n = s := by
  unfold State.startOp
  rw [h]

/-- Nothing starts where an operation runs (R323). -/
theorem State.startOp_running (h : s.group n = some g) (hc : g.cur ≠ none) : s.startOp n = s := by
  obtain ⟨o, ho⟩ := Option.ne_none_iff_exists'.1 hc
  simp only [State.startOp, h, ho]

/-- A unit of a collective type is taken to its stream at its port (R319). -/
theorem State.collTu_accepts {ty : Nat} (h : s.popRx v.code 0 (fitBytes 232 bytes) = some s1) (ht : (Tu.parse bytes).type = ty) :
    s.collTu v bytes ty = s1.acceptTu v.code (Tu.parse bytes) := by
  unfold State.collTu
  rw [if_neg (not_not_intro ht)]
  exact State.takeTu_popped h _

/-- A peer's partial goes to its stream, or ends the operation it belongs to where its digest differs (R332). -/
theorem peerPartialReceive_spec (h : s.popRx v.code 0 (fitBytes 232 bytes) = some s1) (ht : (Tu.parse bytes).type = 0x10)
    (hg : s.group ((Tu.parse bytes).aux % 4096) = some g)
    (hp : g.members.any (fun m => m.peer && m.key == handleKey (Tu.parse bytes).stream) = true) :
    exec (.peerPartialReceive v bytes true) s = .next (s1.acceptTu v.code (Tu.parse bytes)) ∧
    (g.cur = some o → o.seq = (Tu.parse bytes).aux / 4096 % 65536 →
      exec (.peerPartialReceive v bytes false) s = .next (s1.collFail ((Tu.parse bytes).aux % 4096) 0x8502 0 0xFFFF 255)) := by
  have hexec (ok : Bool) : exec (.peerPartialReceive v bytes ok) s = execPeerPartialReceive v bytes ok s := rfl
  constructor
  · rw [hexec]
    simp only [execPeerPartialReceive, hg, hp, ht, State.takeTu_popped h]
    simp
  · intro hc hs
    rw [hexec]
    simp only [execPeerPartialReceive, hg, hp, ht, Option.bind_some, hc, hs, State.takeTu_popped h]
    simp

/-- A unit of a context that holds no group is dropped (R320). -/
theorem State.collTake_none (h : s.group (tu.aux % 4096) = none) : s.collTake key tu = .drop := by
  simp only [State.collTake, h]

theorem State.collTake_stranger (h : s.group (tu.aux % 4096) = some g) (hm : g.members.findIdx? (fun m => m.key == key) = none) :
    s.collTake key tu = .drop := by
  simp only [State.collTake, h, hm]

/-- A member's unit while an operation runs: an older one is dropped, a later one waits, and one of the operation itself is taken
until its results are out (R320). -/
theorem State.collTake_member (h : s.group (tu.aux % 4096) = some g) (hm : g.members.findIdx? (fun m => m.key == key) = some rank)
    (hc : g.cur = some o) :
    s.collTake key tu = if 32768 ≤ (tu.aux / 4096 % 65536 + 65536 - o.seq) % 65536 then .drop
      else if o.seq ≠ tu.aux / 4096 % 65536 then .hold else if o.resultsOut then .drop else s.takeInto (tu.aux % 4096) g o rank tu := by
  simp only [State.collTake, h, hm, hc]

end

/-! ### Stages and the end of an operation (R321, R324, R325, R331) -/

section
variable {s : State} {c : BitVec 12} {g : Group} {o : CollOp} {r : CollRun}

theorem execCollSegmentReduced_of_cur (hg : s.group c.toNat = some g) (hc : g.cur = some o) (seg : BitVec 32) (st : Stage) :
    exec (.collSegmentReduced c seg st) s =
      if o.desc.op < 2 then .next ((match st with
        | .entry t => s.entryStage c.toNat seg.toNat t.val
        | .collector r => s.collectStage c.toNat seg.toNat r.val
        | .owner => s.ownerStage c.toNat seg.toNat).pumpMembers c.toNat)
      else if o.desc.op = 6 then .next ((State.returnTokens c.toNat seg.toNat (g.routes.length + 1) s).routeDone c.toNat) else .next s := by
  have hexec : exec (.collSegmentReduced c seg st) s = execCollSegmentReduced c seg st s := rfl
  rw [hexec]
  simp only [execCollSegmentReduced, hg, hc] <;> rfl

/-- The run of a group as the end of one of its operations leaves it (R324). -/
def State.ranOne (s : State) (r : CollRun) : CollRun :=
  { r with done := r.done + 1, state := (if r.count ≤ r.done + 1 then 2 else 0), endBell := (if r.count ≤ r.done + 1 then some s.bell else none) }

/-- A context as the end of an operation leaves it. -/
def State.endedOp (s : State) (n : Nat) (r : CollRun) : State :=
  (s.updGroup n (fun g => { g with cur := none })).updRun n r.id (fun _ => s.ranOne r)

theorem State.group_endedOp {n : Nat} (hg : s.group n = some g) (r : CollRun) :
    (s.endedOp n r).group n = some { g with cur := none, runs := g.runs.map (fun x => if x.id = r.id then s.ranOne r else x) } :=
  State.group_updRun (State.group_updGroup hg _) ..

theorem execCollOpComplete_of_cur (hg : s.group c.toNat = some g) (hc : g.cur = some o) (hr : g.head = some r) :
    exec (.collOpComplete c) s = if s.collComplete g o = false then .next s
      else .next ((if r.count ≤ r.done + 1 then (s.endedOp c.toNat r).finish r.id stOk 0 ((s.endedOp c.toNat r).collRecord (s.ranOne r))
        else s.endedOp c.toNat r).pumpMembers c.toNat) := by
  have hexec : exec (.collOpComplete c) s = execCollOpComplete c s := rfl
  rw [hexec]
  simp only [execCollOpComplete, hg, hc, hr, decide_eq_true_eq, Bool.not_eq_true']
  rfl

/-- An operation whose results are out and acknowledged ends; its run goes on, or ends with its record (R324, R333). -/
theorem collOpComplete_ends (hg : s.group c.toNat = some g) (hc : g.cur = some o) (hr : g.head = some r) (hd : s.collComplete g o = true)
    (hq : ∀ m ∈ g.members, s.quiet m.key) :
    ∃ t : State, exec (.collOpComplete c) s = .next t ∧ (∃ g2, t.group c.toNat = some g2 ∧ g2.cur = none ∧ g2.members = g.members ∧ g2.nextSeq = g.nextSeq) ∧
      (∀ i, i ≠ c.toNat → t.ctx i = s.ctx i) ∧ t.regs = s.regs ∧ s.keepsMemory t ∧ t.streams = s.streams ∧
      (r.done + 1 < r.count → t.proctor = s.proctor) := by
  have hend := State.group_endedOp hg r
  have hctx (i : Nat) (hi : i ≠ c.toNat) : (s.endedOp c.toNat r).ctx i = s.ctx i := (State.ctx_updRun_ne hi _ _).trans (State.ctx_updGroup_ne hi _)
  rw [execCollOpComplete_of_cur hg hc hr, if_neg (by simp [hd])]
  by_cases hl : r.count ≤ r.done + 1
  · rw [if_pos hl, State.pumpMembers_quiet (s := (s.endedOp c.toNat r).finish r.id stOk 0 ((s.endedOp c.toNat r).collRecord (s.ranOne r))) hend hq]
    exact ⟨_, rfl, ⟨_, hend, rfl, rfl, rfl⟩, hctx, rfl, fun _ => ⟨rfl, rfl, rfl⟩, rfl, fun h => absurd hl (Nat.not_le_of_lt h)⟩
  · rw [if_neg hl, State.pumpMembers_quiet (s := s.endedOp c.toNat r) hend hq]
    exact ⟨_, rfl, ⟨_, hend, rfl, rfl, rfl⟩, hctx, rfl, fun _ => ⟨rfl, rfl, rfl⟩, rfl, fun _ => rfl⟩

/-- One word alone is combined to itself; the place it is taken from is a free value (R325). -/
theorem State.foldAny_one (f : Nat → Nat → Nat) (w : Nat) (s : State) : s.foldAny f [w] = (w, { s with free := s.free + 1 }) := by
  simp [State.foldAny, State.fresh, State.foldFree, Nat.mod_one]

/-- COLL_OP_ABORT ends what is posted (R333). -/
theorem collOpAbort_stops {p : Packet} {o : Nat} (ha : s.accepts collOpAbortDef p o) :
    let u := (s.begun p).stopOps (p.w 0 % 4096) 0x8503 0 4 0xFFFF 255
    exec (.collOpAbort p) s = .next (u.conclude 0x512 o false p stOk 0 [] [] (undoOf (s.begun p) u)) := by
  intro u
  rw [exec_command rfl (by decide), runCmd_accepted ha]
  rfl

end
end Sys2Proof.Machine

open Sys2Proof Sys2Proof.Machine

/-- Settles O49: where a unit of an operation goes, what each stage and the operation's end change, and how one ends early. -/
theorem collectiveWork : Obligations.CollectiveWork := by
  unfold Obligations.CollectiveWork
  refine ⟨fun c s => ⟨rfl, fun h => ?_, fun g => State.startOp_running⟩,
    fun v bytes s s1 h => ⟨fun ht => congrArg Host.Outcome.next (State.collTu_accepts h ht), fun ht => congrArg Host.Outcome.next (State.collTu_accepts h ht),
      fun ht => congrArg Host.Outcome.next (State.collTu_accepts h ht), fun g o ht hg hp => peerPartialReceive_spec h ht hg hp⟩,
    fun key rank tu g s => ⟨State.collTake_none, fun h => ⟨State.collTake_stranger h, fun o hm hc => ?_⟩⟩,
    fun c seg g o s hg hc => ⟨fun hop => ⟨fun t => ?_, fun r => ?_, ?_⟩, fun st hop => ?_, fun r hr => ⟨fun hd => ?_, fun hd hq => collOpComplete_ends hg hc hr hd hq⟩⟩,
    fun words s hl => ?_, fun p o s ha => ⟨_, rfl, collOpAbort_stops ha⟩⟩
  · have hpump : exec (.collOpStart c) s = .next ((s.startOp c.toNat).pumpMembers c.toNat) := rfl
    rw [hpump, State.startOp_none h, State.pumpMembers_none h]
  · rw [State.collTake_member h hm hc]
    refine ⟨fun hlt => if_pos hlt, fun h0 hlt => ?_, fun he hout => ?_, fun he hout => ?_⟩
    · rw [if_neg (by omega), if_pos (by omega)]
    · rw [if_neg (by omega), if_neg (by omega), if_pos hout]
    · rw [if_neg (by omega), if_neg (by omega), if_neg (by simp [hout])]
  · rw [execCollSegmentReduced_of_cur hg hc, if_pos hop]
  · rw [execCollSegmentReduced_of_cur hg hc, if_pos hop]
  · rw [execCollSegmentReduced_of_cur hg hc, if_pos hop]
  · rw [execCollSegmentReduced_of_cur hg hc, if_neg (by omega), if_pos hop]
  · rw [execCollOpComplete_of_cur hg hc hr, if_pos hd]
  · obtain ⟨w, rfl⟩ := List.length_eq_one_iff.1 hl
    exact State.foldAny_one _ w s

end

section
/-! SUPPORT. The Report Card: what an event, a condensation and the island buffer's copy do to the stores, and its commands (R414 to R420). -/

namespace Sys2Proof.Machine

/-! ### The stores (R414, R417) -/

section
variable {s : State} {r : Rec}

theorem closeOldest_few {l : List Rec} (h : l.countP (·.opn) < 4096) : closeOldest l = l := if_pos h

theorem makeRoom_room {cap sev : Nat} {l : List Rec} (h : l.length < cap) : makeRoom cap sev l = some l := if_pos h

theorem State.syncRc_report (s : State) : s.syncRc.report = s.report := by simp [State.syncRc]

theorem State.syncRc_keeps (s : State) : s.keepsRegs s.syncRc [R.RC_STAT, R.RC_SEQ, R.RC_FLASH_SEQ] := fun off h =>
  s.setFs_keeps _ off fun e he => by
    simp only [List.mem_cons, List.not_mem_nil, or_false, not_or] at h he
    rcases he with rfl | rfl | rfl | rfl | rfl | rfl
    · exact h.1
    · exact h.1
    · exact h.1
    · exact h.1
    · exact h.2.1
    · exact h.2.2

/-- The live log takes a record at its end while it has room and few are open (R417). -/
theorem State.addRec_live (hi : s.islandMode = false) (hl : s.report.live.length < 1048576) (ho : s.report.live.countP (·.opn) < 4096) :
    s.addRec r = ({ s with report := { s.report with nextSeq := s.report.nextSeq + 1, live := s.report.live ++ [r] } }, false) := by
  simp only [State.addRec, hi, Bool.false_eq_true, if_false, closeOldest_few ho, makeRoom_room hl]

/-- The state once a token of a code is taken where its bucket holds one (R414). -/
def State.charged (s : State) (code : RecCode) : State := if decide (s.tokens code < 1000000) then s else s.takeToken code

theorem State.charged_report (s : State) (code : RecCode) : ∃ b, s.charged code = { s with report := { s.report with buckets := b } } := by
  unfold State.charged
  split
  · exact ⟨s.report.buckets, rfl⟩
  · exact ⟨_, rfl⟩

variable {code : RecCode} {sev source : Nat} {v : Int}

/-- An event that finds no open record of its own starts one in the live log (R414). -/
theorem State.record_starts (hi : s.islandMode = false) (hn : (s.report.live ++ s.report.island).find? (Rec.isKey code source) = none)
    (hl : s.report.live.length < 1048576) (ho : s.report.live.countP (·.opn) < 4096) :
    (s.record code sev source v).report.live = s.report.live ++ [Rec.start code sev source s.bell (s.report.nextSeq % 2 ^ 32) false v] ∧
    (s.record code sev source v).report.nextSeq = s.report.nextSeq + 1 := by
  obtain ⟨b, hb⟩ := s.charged_report code
  have hi2 : (s.charged code).islandMode = false := by rw [hb]; exact hi
  have hadd := State.addRec_live (s := s.charged code) (r := Rec.start code sev source s.bell ((s.charged code).report.nextSeq % 2 ^ 32)
    (s.charged code).islandMode v) hi2 (by rw [hb]; exact hl) (by rw [hb]; exact ho)
  have hev : s.event code sev source v = (((s.charged code).addRec (Rec.start code sev source s.bell ((s.charged code).report.nextSeq % 2 ^ 32)
      (s.charged code).islandMode v)).1.syncRc, ((s.charged code).addRec (Rec.start code sev source s.bell ((s.charged code).report.nextSeq % 2 ^ 32)
      (s.charged code).islandMode v)).2) := by
    simp only [State.event, hn, State.charged]
  rw [hadd, hi2, hb] at hev
  simp only [State.record, hev, Bool.not_false, if_true, State.syncRc_report, and_self]

/-- An event whose open record is younger than the window is folded into it (R414). -/
theorem State.record_folds (hf : (s.report.live ++ s.report.island).find? (Rec.isKey code source) = some r)
    (hw : s.bell - r.tStart < s.f F.RC_CTL_WINDOW * 100000) :
    (s.record code sev source v).report.live = s.report.live.map (fun x => if Rec.isKey code source x then x.fold s.bell v else x) ∧
    (s.record code sev source v).report.nextSeq = s.report.nextSeq := by
  simp only [State.record, State.event, hf, hw, decide_true, Bool.true_or, if_true, Bool.not_false, State.syncRc_report, and_self]

theorem Rec.bytes_length (h : r.hist.length = 8) : r.bytes.length = 64 := by
  simp [Rec.bytes, leBytes_length, zeros, List.length_flatMap, h]

theorem mem_insertSeq {a b : Rec} {l : List Rec} : a ∈ insertSeq b l ↔ a = b ∨ a ∈ l := by
  induction l with
  | nil => simp [insertSeq]
  | cons x l ih =>
    unfold insertSeq
    split
    · simp only [List.mem_cons, ih]
      tauto
    · simp

theorem length_insertSeq {b : Rec} {l : List Rec} : (insertSeq b l).length = l.length + 1 := by
  induction l with
  | nil => rfl
  | cons x l ih =>
    unfold insertSeq
    split
    · simp [ih]
    · simp

/-- Records in SEQ order are the same records. -/
theorem mem_seqSort {a : Rec} {l : List Rec} : a ∈ seqSort l ↔ a ∈ l := by
  induction l with
  | nil => simp [seqSort]
  | cons x l ih => exact mem_insertSeq.trans (by simp [seqSort] at ih; simp [ih])

theorem length_seqSort (l : List Rec) : (seqSort l).length = l.length := by
  induction l with
  | nil => rfl
  | cons x l ih => exact length_insertSeq.trans (congrArg (· + 1) ih)

end

/-! ### Condensation (R419) -/

section
variable {s : State}

/-- The records of a store, all of them closed. -/
def closedAll (l : List Rec) : List Rec := l.map (fun r => { r with opn := false })

/-- The state with every open record closed. -/
def State.recordsClosed (s : State) : State :=
  { s with report := { s.report with live := closedAll s.report.live, island := closedAll s.report.island } }

theorem State.beginCondense_eq (s : State) :
    s.beginCondense = { s.recordsClosed.syncRc with report := { s.recordsClosed.syncRc.report with condensing := true } } := rfl

/-- A condensation that falls due closes every record (R414). -/
theorem State.beginCondense_report (s : State) :
    s.beginCondense.report = { s.report with live := closedAll s.report.live, island := closedAll s.report.island, condensing := true } := by
  rw [State.beginCondense_eq, State.syncRc_report]
  rfl

theorem State.beginCondense_onlyLog (s : State) : s.onlyLog s.beginCondense := by
  have h : Logged s s.recordsClosed := (Logged.refl s).report s.recordsClosed.report
  rw [State.beginCondense_eq]
  exact (h.syncRc.report _).1

theorem State.rd_withReport (u : State) (r : Report) (off : Nat) : ({ u with report := r } : State).rd off = u.rd off := rfl

theorem State.beginCondense_keeps (s : State) : s.keepsRegs s.beginCondense [R.RC_STAT, R.RC_SEQ, R.RC_FLASH_SEQ] := fun off h => by
  rw [State.beginCondense_eq, State.rd_withReport, s.recordsClosed.syncRc_keeps off h]
  exact s.rd_withReport _ off

/-- One record put into the flash ring, or counted as dropped (R417, R419). -/
def State.burn (s : State) (r : Rec) : State :=
  match makeRoom 4194304 r.sev s.report.flash with
  | some fl => { s with report := { s.report with flash := fl ++ [r] } }
  | none => if r.sev = 3 then s.bump F.RC_DROP_CRIT else s.bump F.RC_DROP

theorem State.burn_stores (s : State) (r : Rec) : (s.burn r).report.live = s.report.live ∧ (s.burn r).report.island = s.report.island := by
  unfold State.burn
  split
  · exact ⟨rfl, rfl⟩
  · split <;> exact ⟨rfl, rfl⟩

theorem State.burn_room {r : Rec} (h : s.report.flash.length < 4194304) : (s.burn r).report.flash = s.report.flash ++ [r] := by
  unfold State.burn
  rw [makeRoom_room h]

theorem State.each_burn_stores (s : State) (l : List Rec) :
    (s.each l State.burn).report.live = s.report.live ∧ (s.each l State.burn).report.island = s.report.island := by
  unfold State.each
  refine List.foldlRecOn (motive := fun t : State => t.report.live = s.report.live ∧ t.report.island = s.report.island) l _ ⟨rfl, rfl⟩ fun t ht r _ => ?_
  obtain ⟨h1, h2⟩ := t.burn_stores r
  exact ⟨h1.trans ht.1, h2.trans ht.2⟩

theorem State.each_burn_room (s : State) (l : List Rec) (h : s.report.flash.length + l.length ≤ 4194304) :
    (s.each l State.burn).report.flash = s.report.flash ++ l := by
  unfold State.each
  induction l generalizing s with
  | nil => simp
  | cons r l ih =>
    rw [List.length_cons] at h
    have hr := State.burn_room (s := s) (r := r) (by omega)
    rw [List.foldl_cons, ih _ (by rw [hr, List.length_append]; simp; omega), hr, List.append_assoc]
    rfl

/-- The records that a condensation copies, in the order it copies them (R419). -/
def State.burning (s : State) (critFirst : Bool) : List Rec :=
  if critFirst then s.toCondense.filter (fun r => r.sev == 3) ++ s.toCondense.filter (fun r => r.sev != 3) else s.toCondense

theorem State.condense_report (s : State) (critFirst : Bool) :
    ∃ c, (s.condense critFirst).report = { (s.each (s.burning critFirst) State.burn).report with condensed := c } := by
  refine ⟨?w, ?_⟩
  case w =>
    exact ((((s.each (s.burning critFirst) State.burn).report.condensed) ++ (s.burning critFirst).map Rec.seq).filter fun q =>
      (((s.each (s.burning critFirst) State.burn).report.live ++ (s.each (s.burning critFirst) State.burn).report.island).map Rec.seq).contains q)
  · simp only [State.condense, State.syncRc_report]
    rfl

/-- The end of a condensation: the live log and the buffer stay, and what is copied stands in flash (R419). -/
theorem condensationDone_spec (hc : s.report.condensing = true) :
    ∃ u : State, exec .condensationDone s = .next u ∧ u.report.condensing = false ∧ u.report.condRuns = [] ∧
      u.report.live = s.report.live ∧ u.report.island = s.report.island ∧
      (s.report.critFirst = false → s.report.flash.length + s.toCondense.length ≤ 4194304 → u.report.flash = s.report.flash ++ s.toCondense) := by
  have hexec : exec .condensationDone s = execCondensationDone s := rfl
  obtain ⟨c, hrep⟩ := s.condense_report s.report.critFirst
  obtain ⟨hlive, hisland⟩ := s.each_burn_stores (s.burning s.report.critFirst)
  have hfin : ((s.condense s.report.critFirst).each s.report.condRuns (fun s id => s.finish id stOk 0)).report = (s.condense s.report.critFirst).report := by
    unfold State.each
    exact List.foldlRecOn (motive := fun t : State => t.report = (s.condense s.report.critFirst).report) _ _ rfl fun t ht _ _ => ht
  rw [hrep] at hfin
  rw [hexec]
  simp only [execCondensationDone, hc, Bool.not_true, Bool.false_eq_true, if_false, hfin]
  refine ⟨_, rfl, rfl, rfl, hlive, hisland, fun hf hr => ?_⟩
  have hb : s.burning s.report.critFirst = s.toCondense := by simp [State.burning, hf]
  dsimp only
  rw [hb]
  exact s.each_burn_room _ hr

end

/-! ### The island buffer (R418) -/

section
variable {s : State}

/-- One record of the island buffer put into the live log in SEQ order, or counted as dropped (R418). -/
def State.landRec (s : State) (r : Rec) : State :=
  match makeRoom 1048576 r.sev (if r.opn then closeOldest s.report.live else s.report.live) with
  | some live => { s with report := { s.report with live := seqSort (live ++ [r]) } }
  | none => if r.sev = 3 then s.bump F.RC_DROP_CRIT else s.bump F.RC_DROP

theorem State.landRec_stores (s : State) (r : Rec) : (s.landRec r).report.island = s.report.island ∧ (s.landRec r).report.flash = s.report.flash := by
  unfold State.landRec
  split
  · exact ⟨rfl, rfl⟩
  · split <;> exact ⟨rfl, rfl⟩

theorem State.landRec_room {r : Rec} (hr : r.opn = false) (h : s.report.live.length < 1048576) :
    (s.landRec r).report.live = seqSort (s.report.live ++ [r]) := by
  unfold State.landRec
  rw [hr, if_neg (by simp), makeRoom_room h]

theorem State.each_landRec_stores (s : State) (l : List Rec) :
    (s.each l State.landRec).report.island = s.report.island ∧ (s.each l State.landRec).report.flash = s.report.flash := by
  unfold State.each
  refine List.foldlRecOn (motive := fun t : State => t.report.island = s.report.island ∧ t.report.flash = s.report.flash) l _ ⟨rfl, rfl⟩ fun t ht r _ => ?_
  obtain ⟨h1, h2⟩ := t.landRec_stores r
  exact ⟨h1.trans ht.1, h2.trans ht.2⟩

/-- Closed records that the live log has room for are all in it once they have landed. -/
theorem State.each_landRec_room (s : State) (l : List Rec) (ho : ∀ r ∈ l, r.opn = false) (h : s.report.live.length + l.length ≤ 1048576) (a : Rec) :
    a ∈ (s.each l State.landRec).report.live ↔ a ∈ s.report.live ∨ a ∈ l := by
  unfold State.each
  induction l generalizing s with
  | nil => simp
  | cons r l ih =>
    rw [List.length_cons] at h
    have hr := State.landRec_room (s := s) (ho r List.mem_cons_self) (by omega)
    have hlen : (s.landRec r).report.live.length = s.report.live.length + 1 := by rw [hr, length_seqSort, List.length_append]; rfl
    rw [List.foldl_cons, ih _ (fun x hx => ho x (List.mem_cons_of_mem _ hx)) (by omega), hr, mem_seqSort]
    simp only [List.mem_append, List.mem_cons, List.not_mem_nil, or_false, or_assoc]

/-- The island buffer goes into the live log once the clock master's memory is back (R418). -/
theorem islandBufferCopy_spec (hi : s.islandMode = false) :
    ∃ u : State, exec .islandBufferCopy s = .next u ∧ u.report.island = [] ∧ u.report.flash = s.report.flash ∧
      (s.report.live.length + s.report.island.length ≤ 1048576 → (s.report.island.all (fun r => !r.opn)) = true →
        ∀ r, r ∈ u.report.live ↔ r ∈ s.report.live ∨ r ∈ s.report.island) := by
  have hexec : exec .islandBufferCopy s = if s.islandMode = true then .next s
      else .next (({ s with report := { s.report with island := [] } } : State).each s.report.island State.landRec).syncRc := rfl
  rw [hexec, if_neg (by simp [hi])]
  obtain ⟨hisland, hflash⟩ := State.each_landRec_stores { s with report := { s.report with island := [] } } s.report.island
  refine ⟨_, rfl, ?_, ?_, fun hl ho a => ?_⟩
  · rw [State.syncRc_report]
    exact hisland
  · rw [State.syncRc_report]
    exact hflash
  · rw [State.syncRc_report]
    exact State.each_landRec_room { s with report := { s.report with island := [] } } _ (by simpa using ho) hl a

end

/-! ### The Report Card's commands (R420) -/

section
variable {s : State} {p : Packet} {o : Nat}

theorem rcRead_answers (ha : s.accepts rcReadDef p o) :
    let b := s.begun p
    exec (.rcRead p) s = .next (b.replies p ((((b.store_ (p.w 0)).filter (fun r => decide (p.w 1 ≤ r.seq))).take (p.w 2)).flatMap Rec.bytes)) := by
  intro b
  rw [exec_command rfl (by decide), runCmd_accepted ha]
  exact congrArg Host.Outcome.next (b.conclude_plain rfl ⟨by decide, by decide⟩)

/-- The Report Card as an RC_CONDENSE starts a condensation that answers it. -/
def State.condensingFor (b : State) (id : Nat) : State :=
  { b.beginCondense with report := { b.beginCondense.report with condRuns := b.beginCondense.report.condRuns ++ [id] } }

theorem rcCondense_act (b : State) (p : Packet) (o id : Nat) : rcCondenseDef.act b p o id = .later (b.condensingFor id) := rfl

theorem rcCondense_runs (ha : s.accepts rcCondenseDef p o) :
    let b := s.begun p
    ∃ t : State, exec (.rcCondense p) s = .next t ∧ t.report.condensing = true ∧ t.report.condRuns = b.report.condRuns ++ [b.proctor.nextId] ∧
      t.report.live = b.report.live.map (fun r => { r with opn := false }) ∧ b.runsOn t p o 0x811 := by
  intro b
  have hrep := b.beginCondense_report
  have hlog := b.beginCondense_onlyLog
  have hact : rcCondenseDef.act b p o b.proctor.nextId = .later (b.condensingFor b.proctor.nextId) := rcCondense_act b p o _
  have hp : (b.condensingFor b.proctor.nextId).proctor = b.proctor := by
    unfold State.condensingFor
    rw [hlog]
  have hrun := (runCmd_later ha hact hp).1
  have hs := runCmd_starts ha hact (congrArg Proctor.nextId hp)
  have hcond : (b.condensingFor b.proctor.nextId).report = { b.report with
      live := closedAll b.report.live, island := closedAll b.report.island, condensing := true, condRuns := b.report.condRuns ++ [b.proctor.nextId] } := by
    simp only [State.condensingFor, hrep]
  have ht : (runCmd rcCondenseDef p s).report = (b.condensingFor b.proctor.nextId).report := by
    rw [hs]
    rfl
  rw [hcond] at ht
  refine ⟨_, exec_command rfl (by decide) s, ?_, ?_, ?_, hrun⟩
  · rw [ht]
  · rw [ht]
  · rw [ht]
    rfl

/-- The state as an RC_CLEAR leaves the stores it names. -/
def State.cleared (b : State) (p : Packet) : State :=
  let s1 := if p.w 0 % 2 = 1 then { b with report := { b.report with live := [], island := [], condensed := [] } } else b
  if 2 ≤ p.w 0 then { s1 with report := { s1.report with flash := [] } } else s1

theorem State.cleared_report (b : State) (p : Packet) :
    (b.cleared p).report.live = (if p.w 0 % 2 = 1 then [] else b.report.live) ∧
    (b.cleared p).report.island = (if p.w 0 % 2 = 1 then [] else b.report.island) ∧
    (b.cleared p).report.flash = (if 2 ≤ p.w 0 then [] else b.report.flash) := by
  unfold State.cleared
  by_cases h1 : p.w 0 % 2 = 1 <;> by_cases h2 : 2 ≤ p.w 0 <;> simp [h1, h2]

theorem rcClear_clears (ha : s.accepts rcClearDef p o) :
    let b := s.begun p
    ∃ u : State, exec (.rcClear p) s = .next (u.conclude 0x812 o true p stOk 0 [] (paramChange p) (undoOf b u)) ∧
      u.report.live = (if p.w 0 % 2 = 1 then [] else b.report.live) ∧ u.report.island = (if p.w 0 % 2 = 1 then [] else b.report.island) ∧
      u.report.flash = (if 2 ≤ p.w 0 then [] else b.report.flash) := by
  intro b
  refine ⟨(b.cleared p).syncRc, ?_, by rw [State.syncRc_report]; exact b.cleared_report p⟩
  rw [exec_command rfl (by decide), runCmd_accepted ha]
  rfl

theorem rcCodeList_answers (ha : s.accepts rcCodeListDef p o) :
    let b := s.begun p
    ∃ res : List Byte, exec (.rcCodeList p) s = .next (b.replies p res) ∧ res.length = 48 * b.codeList.length := by
  intro b
  refine ⟨b.codeList.flatMap (fun x =>
      leBytes 2 x.1.num ++ leBytes 1 x.2 ++ leBytes 1 x.1.shift ++ (List.range 44).map (fun i => Config.recordName x.1.num i)), ?_, ?_⟩
  · rw [exec_command rfl (by decide), runCmd_accepted ha]
    exact congrArg Host.Outcome.next (b.conclude_plain rfl ⟨by decide, by decide⟩)
  · simp [List.length_flatMap, leBytes_length, Nat.mul_comm]

end
end Sys2Proof.Machine

open Sys2Proof Sys2Proof.Machine

/-- Settles O57: each store's change by an event, by a condensation, by the buffer's copy and by a command. -/
theorem reportCard : Obligations.ReportCard := by
  unfold Obligations.ReportCard
  refine ⟨fun s code sev source v hi => ⟨fun hn hl ho => ?_, fun r hf hw => State.record_folds hf hw⟩,
    fun s => ⟨?_, fun hc => ?_, condensationDone_spec, fun hi => ?_, islandBufferCopy_spec⟩, fun r => Rec.bytes_length,
    fun p s o => ⟨rcRead_answers, rcCondense_runs, rcClear_clears, rcCodeList_answers⟩⟩
  · obtain ⟨hlive, hseq⟩ := State.record_starts (sev := sev) (v := v) hi hn hl ho
    exact ⟨hlive, hseq, ((Logged.refl s).record code sev source v).1⟩
  · have hrep := s.beginCondense_report
    exact ⟨s.beginCondense, rfl, by rw [hrep], by rw [hrep]; rfl, by rw [hrep]; rfl, by rw [hrep], s.beginCondense_onlyLog, s.beginCondense_keeps⟩
  · have hexec : exec .condensationDone s = execCondensationDone s := rfl
    rw [hexec, execCondensationDone, hc]
    rfl
  · exact if_pos hi

end

section
/-! SUPPORT. The registers that assertions may write; references, straps and the start sequence (R361 to R369). -/

namespace Sys2Proof.Machine

/-! ### What assertions may write (R399 to R413) -/

/-- Offsets within a tile's block that an assertion may write: test status, lasers, shutters, and the fault registers. -/
def assertOffset (c : Nat) : Prop := c = 0x20 ∨ 0x80000 ≤ c ∧ c < 0x80080 ∨ 0x80200 ≤ c ∧ c < 0x8020C ∨ 0xA0000 ≤ c ∧ c < 0xA0020 ∨ c = 0xA0030

/-- Registers that an assertion may write: the module's fault words, levels, latch and state, the Report Card's, and those of a tile. -/
def assertReg (off : Nat) : Prop :=
  0x5000 ≤ off ∧ off < 0x5020 ∨ off = 0x5034 ∨ 0x6004 ≤ off ∧ off < 0x601C ∨ ∃ t c, off = tileBase t + c ∧ assertOffset c

section
variable {off t c : Nat}

theorem assertReg_of_log (h : off ∈ logRegs) : assertReg off := by
  simp only [logRegs, List.mem_cons, List.not_mem_nil, or_false, R.RC_STAT, R.RC_SEQ, R.RC_FLASH_SEQ, R.RC_FOLD, R.RC_DROP, R.RC_DROP_CRIT,
    R.MFSW_SRC, R.MFIRST, R.MFIRST_BELL_LO, R.MFIRST_BELL_HI] at h
  unfold assertReg
  omega

theorem assertReg_of_dark (h : off ∈ darkRegs t) : assertReg off := by
  simp only [darkRegs, List.mem_cons, List.mem_append, List.mem_map, List.mem_range] at h
  refine .inr (.inr (.inr ?_))
  rcases h with rfl | ⟨k, hk, rfl⟩ | ⟨k, hk, rfl⟩ | ⟨k, hk, rfl⟩
  · exact ⟨t, 0x20, rfl, .inl rfl⟩
  · exact ⟨t, 0x80000 + 0x10 * k, Nat.add_assoc .., .inr (.inl (by omega))⟩
  · exact ⟨t, 0x80004 + 0x10 * k, Nat.add_assoc .., .inr (.inl (by omega))⟩
  · exact ⟨t, 0x80200 + 0x4 * k, Nat.add_assoc .., .inr (.inr (.inl (by omega)))⟩

theorem assertReg_of_tile (h : off ∈ tileFaultRegs t) : assertReg off := by
  rcases List.mem_append.1 h with h | h
  · exact assertReg_of_log h
  rcases List.mem_append.1 h with h | h
  · simp only [List.mem_cons, List.not_mem_nil, or_false, R.MFSW_TILE_LO, R.MFSW_TILE_HI, R.FSW_LO, R.FSW_HI, R.FLVL_LO, R.FLVL_HI,
      R.FFIRST, R.FFIRST_BELL_LO, R.FFIRST_BELL_HI, R.FSTATE] at h
    by_cases hm : off < 0x5020 ∧ 0x5000 ≤ off
    · exact .inl hm.symm
    · refine .inr (.inr (.inr ⟨t, off - tileBase t, ?_⟩))
      unfold assertOffset
      omega
  · exact assertReg_of_dark h

theorem assertReg_of_module (h : off ∈ moduleFaultRegs) : assertReg off := by
  rcases List.mem_append.1 h with h | h
  · exact assertReg_of_log h
  rcases List.mem_append.1 h with h | h
  · simp only [List.mem_cons, List.not_mem_nil, or_false, R.MFLVL_SRC, R.MFSTATE] at h
    unfold assertReg
    omega
  · obtain ⟨t, -, h⟩ := List.mem_flatMap.1 h
    exact assertReg_of_dark h

theorem not_assertReg_tile (t : Nat) (hc : c < 0x100000) (h : ¬ assertOffset c) : ¬ assertReg (tileBase t + c) := by
  rintro (h1 | h1 | h1 | ⟨u, d, he, hd⟩)
  · simp only [tileBase] at h1
    omega
  · simp only [tileBase] at h1
    omega
  · simp only [tileBase] at h1
    omega
  · have hlt : d < 0x100000 := by
      unfold assertOffset at hd
      omega
    simp only [tileBase] at he
    exact h (by rwa [show c = d by omega])

theorem not_assertReg_module (hlt : off < 0x1000000) (h : ¬ (0x5000 ≤ off ∧ off < 0x5020 ∨ off = 0x5034 ∨ 0x6004 ≤ off ∧ off < 0x601C)) : ¬ assertReg off := by
  rintro (h1 | h1 | h1 | ⟨u, d, he, -⟩)
  · exact h (.inl h1)
  · exact h (.inr (.inl h1))
  · exact h (.inr (.inr h1))
  · simp only [tileBase] at he
    omega

/-- An assertion on the module leaves a field of any other register. -/
theorem State.raiseMod_f (s : State) (bit : Nat) (v : Int) (hold : Bool) {x : Fld} (hx : ¬ assertReg x.off) : (s.raiseMod bit v hold).f x = s.f x :=
  State.keepsRegs.f (s.raiseMod_faulted bit v hold).2 fun h => hx (assertReg_of_module h)

theorem Logged.f {s u : State} (h : Logged s u) {x : Fld} (hx : ¬ assertReg x.off) : u.f x = s.f x :=
  State.keepsRegs.f h.2 fun hm => hx (assertReg_of_log hm)

end

section
variable {W : List Nat} {z s : State}

theorem Faulted.clocks (h : Faulted W z s) : s.clocks = z.clocks := by rw [h.1]

theorem Logged.clocks (h : Logged z s) : s.clocks = z.clocks := by rw [h.1]

theorem Logged.keepsMemory (h : Logged z s) : z.keepsMemory s := fun _ => by rw [h.1]; exact ⟨rfl, rfl, rfl⟩

theorem Faulted.keepsMemory (h : Faulted W z s) : z.keepsMemory s := fun _ => by rw [h.1]; exact ⟨rfl, rfl, rfl⟩

end

/-! ### References (R361, R363) -/

section
variable {s : State}

theorem State.f_of_rd {s t : State} {x : Fld} (h : t.rd x.off = s.rd x.off) : t.f x = s.f x := congrArg x.ext h

theorem State.f_updClk (s : State) (g : Clocks → Clocks) (x : Fld) : (s.updClk g).f x = s.f x := State.f_of_regs (State.updClk_regs s g) x

/-- CLK_STAT as a loss of REFCLK under a locked PLL shows it. -/
def refLossFields : List (Fld × Nat) :=
  [(F.CLK_STAT_REF_T00, 0), (F.CLK_STAT_REF_T47, 0), (F.CLK_STAT_PLL_LOCK, 0), (F.CLK_STAT_HOLDOVER, 1), (F.CLK_STAT_BELL_OSC, 1)]

/-- Every tile's TRACE_OK is dropped (R363). -/
def State.tracesLost (s : State) : State := s.each allTiles (fun s t => s.setF (F.BLK_STAT_TRACE_OK t) 0)

theorem State.tracesLost_spec (h : s.canonical) :
    s.onlyRegs s.tracesLost ∧ s.keepsRegs s.tracesLost (allTiles.map R.BLK_STAT) ∧ ∀ n < 48, s.tracesLost.f (F.BLK_STAT_TRACE_OK n) = 0 := by
  obtain ⟨-, ho, hk, hf⟩ := State.each_setFs h (fun t => [(F.BLK_STAT_TRACE_OK t, 0)]) allTiles (W := allTiles.map R.BLK_STAT)
    (fun t ht e he => by rw [List.mem_singleton.1 he]; exact List.mem_map_of_mem ht)
    (fun t u hu e he => by
      rw [List.mem_singleton.1 he]
      exact State.f_setF_same hu.rising _ _ (by simp [F.BLK_STAT_TRACE_OK]))
    (fun i j hij e he x hx => by
      rw [List.mem_singleton.1 he, List.mem_singleton.1 hx]
      simpa [F.BLK_STAT_TRACE_OK, R.BLK_STAT, tileBase] using hij)
  exact ⟨ho, hk, fun n hn => hf n (.inl (List.mem_range.2 hn)) _ List.mem_cons_self⟩

theorem blkStat_not_assert (n : Nat) : ¬ assertReg (R.BLK_STAT n) := not_assertReg_tile n (c := 0x90004) (by omega) (by unfold assertOffset; omega)

theorem clkStat_not_assert : ¬ assertReg R.CLK_STAT := not_assertReg_module (by decide) (by decide)

theorem clkStat_ne_blkStat : R.CLK_STAT ∉ allTiles.map R.BLK_STAT := by
  intro h
  obtain ⟨t, -, ht⟩ := List.mem_map.1 h
  simp only [R.CLK_STAT, R.BLK_STAT, tileBase] at ht
  omega

/-- CLK_STAT with the references lost under a locked PLL, and the loss counted. -/
def State.clkLost (s : State) : State := (s.setFs refLossFields).bump F.CLK_STAT_LOSS_CNT

theorem State.clkLost_canonical (h : s.canonical) : s.clkLost.canonical := ((Kept.refl _).bump ..).2 (State.setFs_canonical h _)

theorem State.clkLost_onlyRegs (s : State) : s.onlyRegs s.clkLost := by
  unfold State.clkLost State.bump State.setSat
  exact ((State.onlyRegs.refl s).setFs refLossFields).setF ..

theorem State.clkLost_keeps (s : State) : s.keepsRegs s.clkLost [R.CLK_STAT] := by
  have h : s.keepsRegs (s.setFs refLossFields) [R.CLK_STAT] := s.keepsRegs_setFs _ (by decide)
  exact h.trans (State.keepsRegs_setF _ F.CLK_STAT_LOSS_CNT _)

theorem State.clkLost_fields (h : s.canonical) :
    s.clkLost.f F.CLK_STAT_REF_T00 = 0 ∧ s.clkLost.f F.CLK_STAT_REF_T47 = 0 ∧ s.clkLost.f F.CLK_STAT_PLL_LOCK = 0 ∧
    s.clkLost.f F.CLK_STAT_HOLDOVER = 1 ∧ s.clkLost.f F.CLK_STAT_BELL_OSC = 1 := by
  have hc := State.setFs_canonical h refLossFields
  unfold State.clkLost State.bump State.setSat
  refine ⟨?_, ?_, ?_, ?_, ?_⟩
  · exact (State.f_setF_ne hc (by decide) _).trans (State.f_setFs_at h refLossFields 0 rfl (by decide) (by decide))
  · exact (State.f_setF_ne hc (by decide) _).trans (State.f_setFs_at h refLossFields 1 rfl (by decide) (by decide))
  · exact (State.f_setF_ne hc (by decide) _).trans (State.f_setFs_at h refLossFields 2 rfl (by decide) (by decide))
  · exact (State.f_setF_ne hc (by decide) _).trans (State.f_setFs_at h refLossFields 3 rfl (by decide) (by decide))
  · exact (State.f_setF_ne hc (by decide) _).trans (State.f_setFs_at h refLossFields 4 rfl (by decide) (by decide))

theorem State.clkLost_count (h : s.canonical) : s.clkLost.f F.CLK_STAT_LOSS_CNT = min (s.f F.CLK_STAT_LOSS_CNT + 1) 65535 := by
  unfold State.clkLost
  rw [State.f_bump_same (State.setFs_canonical h _).rising (by decide), State.f_setFs_ne h _ (by decide)]
  rfl

/-- The state with the references lost under a locked PLL, before the record and the assertion. -/
def State.refsLost (s : State) : State := s.clkLost.tracesLost.updClk (fun c => { c with refLostAt := some s.bell })

theorem State.refsLost_clk {x : Fld} (h : s.canonical) (hx : x.off = R.CLK_STAT) : s.refsLost.f x = s.clkLost.f x := by
  obtain ⟨-, hk, -⟩ := State.tracesLost_spec (State.clkLost_canonical h)
  rw [State.refsLost, State.f_updClk]
  exact hk.f (by rw [hx]; exact clkStat_ne_blkStat)

theorem State.refsLost_keeps (h : s.canonical) : s.keepsRegs s.refsLost (R.CLK_STAT :: allTiles.map R.BLK_STAT) := by
  obtain ⟨-, hk, -⟩ := State.tracesLost_spec (State.clkLost_canonical h)
  intro off hn
  simp only [List.mem_cons, not_or] at hn
  rw [State.refsLost, State.rd_of_regs (State.updClk_regs _ _), hk off hn.2, s.clkLost_keeps off (by simpa using hn.1)]

theorem State.refsLost_eq (h : s.canonical) :
    s.refsLost = { s with regs := s.refsLost.regs, clocks := { s.clocks with refLostAt := some s.bell } } := by
  obtain ⟨ho, -, -⟩ := State.tracesLost_spec (State.clkLost_canonical h)
  have heq := ((s.clkLost_onlyRegs).trans ho).eq
  unfold State.refsLost
  generalize s.clkLost.tracesLost = u at heq
  rw [heq]
  rfl

theorem refclkLoss_locked (hh : s.f F.CLK_STAT_HOLDOVER = 0) (hp : s.f F.CLK_STAT_PLL_LOCK = 1) :
    exec .refclkLoss s = .next ((s.refsLost.note 0x1 .refclkLoss 2 tgtModule).raiseMod 2 0 true) := by
  have hexec : exec .refclkLoss s = execRefclkLoss s := rfl
  rw [hexec, execRefclkLoss, if_neg (by simp [State.b, hh, hp])]
  rfl

theorem refclkLoss_spec (h : s.canonical) (hh : s.f F.CLK_STAT_HOLDOVER = 0) (hp : s.f F.CLK_STAT_PLL_LOCK = 1) :
    ∃ t : State, exec .refclkLoss s = .next t ∧ t.f F.CLK_STAT_REF_T00 = 0 ∧ t.f F.CLK_STAT_REF_T47 = 0 ∧ t.f F.CLK_STAT_PLL_LOCK = 0 ∧
      t.f F.CLK_STAT_HOLDOVER = 1 ∧ t.f F.CLK_STAT_BELL_OSC = 1 ∧ t.f F.CLK_STAT_LOSS_CNT = min (s.f F.CLK_STAT_LOSS_CNT + 1) 65535 ∧
      (∀ n < 48, t.f (F.BLK_STAT_TRACE_OK n) = 0) ∧ t.clocks = { s.clocks with refLostAt := some s.bell } ∧ s.keepsMemory t ∧
      s.keepsRegs t (R.CLK_STAT :: moduleFaultRegs ++ allTiles.map R.BLK_STAT) := by
  have hlog := s.refsLost.note_logged 0x1 .refclkLoss 2 tgtModule 0
  have hraise := (s.refsLost.note 0x1 .refclkLoss 2 tgtModule).raiseMod_faulted 2 0 true
  have hclk (x : Fld) (hx : x.off = R.CLK_STAT) : ((s.refsLost.note 0x1 .refclkLoss 2 tgtModule).raiseMod 2 0 true).f x = s.clkLost.f x :=
    ((State.raiseMod_f _ _ _ _ (by rw [hx]; exact clkStat_not_assert)).trans (hlog.f (by rw [hx]; exact clkStat_not_assert))).trans (State.refsLost_clk h hx)
  obtain ⟨h1, h2, h3, h4, h5⟩ := State.clkLost_fields h
  have hclocks : s.refsLost.clocks = { s.clocks with refLostAt := some s.bell } := congrArg State.clocks (State.refsLost_eq h)
  have hmem : s.keepsMemory s.refsLost := fun _ => by rw [State.refsLost_eq h]; exact ⟨rfl, rfl, rfl⟩
  refine ⟨_, refclkLoss_locked hh hp, (hclk _ rfl).trans h1, (hclk _ rfl).trans h2, (hclk _ rfl).trans h3, (hclk _ rfl).trans h4, (hclk _ rfl).trans h5,
    (hclk _ rfl).trans (State.clkLost_count h), fun n hn => ?_, (hraise.clocks.trans hlog.clocks).trans hclocks,
    (hmem.trans hlog.keepsMemory).trans hraise.keepsMemory, fun off hn => ?_⟩
  · have htrace := (State.tracesLost_spec (State.clkLost_canonical h)).2.2 n hn
    exact ((State.raiseMod_f _ _ _ _ (blkStat_not_assert n)).trans (hlog.f (blkStat_not_assert n))).trans ((State.f_updClk ..).trans htrace)
  · simp only [List.cons_append, List.mem_cons, List.mem_append, not_or] at hn
    obtain ⟨hoff, hfault, htile⟩ := hn
    rw [hraise.2 off hfault, hlog.2 off fun hm => hfault (log_moduleFaultRegs off hm)]
    exact State.refsLost_keeps h off (by simp only [List.mem_cons, not_or]; exact ⟨hoff, htile⟩)

/-- A loss in holdover, or without a locked PLL, only drops the references (R363). -/
theorem refclkLoss_again (h : s.canonical) (hh : s.f F.CLK_STAT_HOLDOVER = 1 ∨ s.f F.CLK_STAT_PLL_LOCK = 0) :
    ∃ t : State, exec .refclkLoss s = .next t ∧ t.f F.CLK_STAT_REF_T00 = 0 ∧ t.f F.CLK_STAT_REF_T47 = 0 ∧
      t.f F.CLK_STAT_LOSS_CNT = s.f F.CLK_STAT_LOSS_CNT ∧ s.onlyRegs t ∧ s.keepsRegs t [R.CLK_STAT] := by
  have hexec : exec .refclkLoss s = .next (s.setFs [(F.CLK_STAT_REF_T00, 0), (F.CLK_STAT_REF_T47, 0)]) := if_pos (by
    rcases hh with hh | hh <;> simp [State.b, hh])
  exact ⟨_, hexec, State.f_setFs_at h [(F.CLK_STAT_REF_T00, 0), (F.CLK_STAT_REF_T47, 0)] 0 rfl (by decide) (by decide),
    State.f_setFs_at h [(F.CLK_STAT_REF_T00, 0), (F.CLK_STAT_REF_T47, 0)] 1 rfl (by decide) (by decide), State.f_setFs_ne h _ (by decide), (State.onlyRegs.refl s).setFs _, s.keepsRegs_setFs _ (by decide)⟩

/-- CLK_STAT with the references that a return brings. -/
def State.refsShown (s : State) (a b : Bool) : State := s.setFs [(F.CLK_STAT_REF_T00, if a then 1 else 0), (F.CLK_STAT_REF_T47, if b then 1 else 0)]

/-- CLK_STAT with the PLL locked. -/
def lockFields : List (Fld × Nat) := [(F.CLK_STAT_PLL_LOCK, 1), (F.CLK_STAT_HOLDOVER, 0), (F.CLK_STAT_BELL_OSC, 0)]

/-- The PLL locked again: HOLDOVER over, and its assertion's level falls (R363). -/
def State.relocked (s : State) : State :=
  ((s.setFs lockFields).fallMod 2).updClk (fun c => { c with refLostAt := none })

theorem State.refsShown_spec (h : s.canonical) (a b : Bool) :
    (s.refsShown a b).b F.CLK_STAT_REF_T00 = a ∧ (s.refsShown a b).b F.CLK_STAT_REF_T47 = b ∧
    (s.refsShown a b).f F.CLK_STAT_PLL_LOCK = s.f F.CLK_STAT_PLL_LOCK ∧ (s.refsShown a b).f F.CLK_STAT_HOLDOVER = s.f F.CLK_STAT_HOLDOVER ∧
    s.onlyRegs (s.refsShown a b) ∧ s.keepsRegs (s.refsShown a b) [R.CLK_STAT] := by
  unfold State.refsShown
  refine ⟨?_, ?_, State.f_setFs_ne h _ (by simp [Fld.apart, F.CLK_STAT_PLL_LOCK, F.CLK_STAT_REF_T00, F.CLK_STAT_REF_T47]),
    State.f_setFs_ne h _ (by simp [Fld.apart, F.CLK_STAT_HOLDOVER, F.CLK_STAT_REF_T00, F.CLK_STAT_REF_T47]), (State.onlyRegs.refl s).setFs _,
    s.keepsRegs_setFs _ (by simp [F.CLK_STAT_REF_T00, F.CLK_STAT_REF_T47])⟩
  · rw [State.b, State.f_setFs_at h _ 0 rfl (by decide) (by simp [Fld.apart, F.CLK_STAT_REF_T00, F.CLK_STAT_REF_T47])]
    cases a <;> rfl
  · rw [State.b, State.f_setFs_at h _ 1 rfl (by decide) (by simp)]
    cases b <;> rfl

theorem State.relocked_spec (h : s.canonical) :
    s.relocked.f F.CLK_STAT_PLL_LOCK = 1 ∧ s.relocked.f F.CLK_STAT_HOLDOVER = 0 ∧ s.relocked.f F.CLK_STAT_BELL_OSC = 0 ∧
    s.relocked.f F.CLK_STAT_REF_T00 = s.f F.CLK_STAT_REF_T00 ∧ s.relocked.f F.CLK_STAT_REF_T47 = s.f F.CLK_STAT_REF_T47 ∧
    s.relocked.clocks = { s.clocks with refLostAt := none } ∧ s.keepsRegs s.relocked [R.CLK_STAT, R.MFLVL_SRC] := by
  have hc := State.setFs_canonical h lockFields
  have honly := ((State.onlyRegs.refl s).setFs lockFields).eq
  have hkeep : s.keepsRegs (s.setFs lockFields) [R.CLK_STAT] :=
    s.keepsRegs_setFs _ (by decide)
  obtain ⟨-, hfall⟩ := State.fallMod_spec hc (i := 2) (by decide)
  have hf (x : Fld) (hx : x.off = R.CLK_STAT) :
      s.relocked.f x = (s.setFs lockFields).f x :=
    (State.f_updClk ..).trans (State.keepsRegs.f hfall.2 (by rw [hx]; decide))
  refine ⟨?_, ?_, ?_, ?_, ?_, ?_, fun off hn => ?_⟩
  · exact (hf _ rfl).trans (State.f_setFs_at h lockFields 0 rfl (by decide) (by decide))
  · exact (hf _ rfl).trans (State.f_setFs_at h lockFields 1 rfl (by decide) (by decide))
  · exact (hf _ rfl).trans (State.f_setFs_at h lockFields 2 rfl (by decide) (by decide))
  · exact (hf _ rfl).trans (State.f_setFs_ne h _ (by decide))
  · exact (hf _ rfl).trans (State.f_setFs_ne h _ (by decide))
  · have hclk : ((s.setFs lockFields).fallMod 2).clocks = s.clocks := hfall.clocks.trans (by rw [honly])
    exact congrArg (fun c : Clocks => { c with refLostAt := none }) hclk
  · simp only [List.mem_cons, List.not_mem_nil, or_false, not_or] at hn
    rw [State.relocked, State.rd_of_regs (State.updClk_regs _ _), hfall.2 off (by simpa using hn.2), hkeep off (by simpa using hn.1)]

/-- REFCLK at the pins: shown, and at the clock master's pins it locks the PLL (R363). -/
theorem refclkReturn_shows (h : s.canonical) (a b : Bool) (h0 : s.clocks.phase ≠ 0) (h2 : s.clocks.phase ≠ 2) :
    exec (.refclkReturn a b) s = .next (if (if s.clockMaster = 0 then a else b) = true then (s.refsShown a b).relocked else s.refsShown a b) := by
  obtain ⟨-, -, -, -, honly, hkeep⟩ := State.refsShown_spec h a b
  have hm : (s.refsShown a b).clockMaster = s.clockMaster := by
    unfold State.clockMaster State.b
    rw [State.keepsRegs.f hkeep (by decide)]
  have hp : (s.refsShown a b).clocks = s.clocks := by rw [honly.eq]
  obtain ⟨-, -, -, -, -, hrel, -⟩ := State.relocked_spec (s := s.refsShown a b) (State.setFs_canonical h _)
  have hr : (s.refsShown a b).relocked.clocks.phase = s.clocks.phase := by rw [hrel, hp]
  have hexec : exec (.refclkReturn a b) s = if !(if (s.refsShown a b).clockMaster = 0 then a else b) || (s.refsShown a b).clocks.phase = 0 then
      .next (s.refsShown a b)
    else .next (if (s.refsShown a b).relocked.clocks.phase = 2 then (s.refsShown a b).relocked.coreStart else (s.refsShown a b).relocked) := rfl
  rw [hexec, hm, hp, hr, if_neg h2]
  cases (if s.clockMaster = 0 then a else b) <;> simp [h0]

theorem refclkReturn_spec (h : s.canonical) (a b : Bool) (h0 : s.clocks.phase ≠ 0) (h2 : s.clocks.phase ≠ 2) :
    ∃ t : State, exec (.refclkReturn a b) s = .next t ∧ t.b F.CLK_STAT_REF_T00 = a ∧ t.b F.CLK_STAT_REF_T47 = b ∧
      s.keepsRegs t [R.CLK_STAT, R.MFLVL_SRC] ∧
      (if (if s.clockMaster = 0 then a else b) = true then
        t.f F.CLK_STAT_PLL_LOCK = 1 ∧ t.f F.CLK_STAT_HOLDOVER = 0 ∧ t.f F.CLK_STAT_BELL_OSC = 0 ∧ t.clocks = { s.clocks with refLostAt := none }
      else t.f F.CLK_STAT_PLL_LOCK = s.f F.CLK_STAT_PLL_LOCK ∧ t.f F.CLK_STAT_HOLDOVER = s.f F.CLK_STAT_HOLDOVER ∧ t.clocks = s.clocks) := by
  obtain ⟨ha, hb, hpll, hhold, honly, hkeep⟩ := State.refsShown_spec h a b
  have hclk : (s.refsShown a b).clocks = s.clocks := by rw [honly.eq]
  refine ⟨_, refclkReturn_shows h a b h0 h2, ?_⟩
  by_cases hm : (if s.clockMaster = 0 then a else b) = true
  · obtain ⟨h1, h3, h4, h5, h6, h7, h8⟩ := State.relocked_spec (s := s.refsShown a b) (State.setFs_canonical h _)
    rw [if_pos hm, if_pos hm, State.b, h5, State.b, h6]
    exact ⟨ha, hb, (hkeep.mono (by simp)).trans h8, h1, h3, h4, h7.trans (by rw [hclk])⟩
  · rw [if_neg hm, if_neg hm]
    exact ⟨ha, hb, hkeep.mono (by simp), hpll, hhold, hclk⟩

end

/-! ### Straps (R367) -/

section
variable {s : State}

/-- The registers that the strapped defaults write. -/
theorem State.strapDefaults_keeps (s : State) : s.keepsRegs s.strapDefaults (R.CLK_STAT :: R.TWIN_STAT :: allTiles.map R.GRID_STAT) := by
  intro off hn
  simp only [List.mem_cons, not_or] at hn
  obtain ⟨h1, h2, h3⟩ := hn
  refine (State.each_rd _ _ _ fun t ht u => ?_).trans (s.setFs_keeps _ off ?_)
  · exact State.rd_wr_ne (fun he : off = R.GRID_STAT t => h3 (by rw [he]; exact List.mem_map_of_mem ht)) _
  · simp [F.CLK_STAT_MASTER, F.TWIN_STAT_HOME, h1, h2]

theorem State.strapDefaults_onlyRegs (s : State) : s.onlyRegs s.strapDefaults :=
  ((State.onlyRegs.refl s).setFs _).each _ _ fun _ _ hu => hu.setF ..

theorem State.strapDefaults_master (h : s.canonical) : s.strapDefaults.f F.CLK_STAT_MASTER = s.f F.STRAP_STAT_CLKM := by
  have hgrid (u : State) : (u.each allTiles (fun s t => s.setF (F.GRID_STAT_GRID_OFS t) (s.f F.STRAP_STAT_GRID))).f F.CLK_STAT_MASTER =
      u.f F.CLK_STAT_MASTER := State.each_keeps (fun s => s.f F.CLK_STAT_MASTER) u _ _ fun t v =>
    State.f_setF_off (by simp only [F.CLK_STAT_MASTER, F.GRID_STAT_GRID_OFS, R.CLK_STAT, R.GRID_STAT, tileBase]; omega) _
  have hlt := s.f_lt F.STRAP_STAT_CLKM
  unfold State.strapDefaults
  rw [hgrid, State.f_setFs_at h _ 0 rfl (by decide) (by simp [Fld.apart, F.CLK_STAT_MASTER, F.TWIN_STAT_HOME, R.CLK_STAT, R.TWIN_STAT])]
  exact Nat.mod_eq_of_lt hlt

/-- The severities of a list of a tile's sources raised to SAFE. -/
def State.sevSafe (s : State) (t : Nat) (l : List Nat) : State := s.each l (fun s k => s.setF (F.FSEV_SEV t k) 3)

theorem fsevSev_apart (t : Nat) {j k : Nat} (h : k ≠ j) : (F.FSEV_SEV t k).apart (F.FSEV_SEV t j) := by
  simp only [Fld.apart, F.FSEV_SEV, R.FSEV]
  omega

theorem fsevSev_off {t u k j : Nat} (h : t ≠ u) (hk : k < 48) (hj : j < 48) : (F.FSEV_SEV t k).off ≠ (F.FSEV_SEV u j).off := by
  simp only [F.FSEV_SEV, R.FSEV, tileBase]
  omega

theorem State.sevSafe_spec (h : s.canonical) (t : Nat) (l : List Nat) :
    (s.sevSafe t l).canonical ∧ ∀ k, (s.sevSafe t l).f (F.FSEV_SEV t k) = if k ∈ l then 3 else s.f (F.FSEV_SEV t k) := by
  unfold State.sevSafe State.each
  induction l generalizing s with
  | nil => exact ⟨h, fun k => rfl⟩
  | cons j l ih =>
    obtain ⟨hc, hf⟩ := ih (State.setF_canonical h (F.FSEV_SEV t j) 3)
    refine ⟨hc, fun k => (hf k).trans ?_⟩
    by_cases hk : k = j
    · subst hk
      rw [State.f_setF_same h.rising _ _ (by simp only [F.FSEV_SEV]; omega), if_pos List.mem_cons_self, ite_eq_left_iff]
      exact fun _ => rfl
    · rw [State.f_setF_ne h (fsevSev_apart t hk)]
      simp [hk]

/-- The sources of a tile whose severity is CONTAIN. -/
def State.contains (s : State) (t : Nat) : List Nat := (List.range 44).filter (fun k => s.f (F.FSEV_SEV t k) == 2)

theorem State.each_sevSafe (h : s.canonical) (l : List Nat) (hd : l.Nodup) :
    (s.each l (fun s t => s.sevSafe t (s.contains t))).canonical ∧ ∀ n k, k < 44 →
      (s.each l (fun s t => s.sevSafe t (s.contains t))).f (F.FSEV_SEV n k) = if n ∈ l ∧ s.f (F.FSEV_SEV n k) = 2 then 3 else s.f (F.FSEV_SEV n k) := by
  induction l generalizing s with
  | nil => exact ⟨h, fun n k _ => by simp [State.each]⟩
  | cons t l ih =>
    obtain ⟨hc, hown⟩ := State.sevSafe_spec h t (s.contains t)
    obtain ⟨hcan, hf⟩ := ih hc (List.nodup_cons.1 hd).2
    refine ⟨hcan, fun n k hk => (hf n k hk).trans ?_⟩
    by_cases hn : n = t
    · subst hn
      have hnot : n ∉ l := (List.nodup_cons.1 hd).1
      rw [if_neg (by simp [hnot]), hown k]
      simp [State.contains, hk]
    · have hfar : (s.sevSafe t (s.contains t)).f (F.FSEV_SEV n k) = s.f (F.FSEV_SEV n k) :=
        State.f_of_rd (State.each_rd _ _ _ fun j hj u => State.rd_wr_ne (fsevSev_off hn (by omega)
          (by have := List.mem_range.1 (List.mem_of_mem_filter hj); omega)) _)
      simp [hfar, hn]

/-- The sources of the module whose severity is CONTAIN, raised to SAFE. -/
def State.modSafe (s : State) : State :=
  s.each ((List.range 21).filter (fun k => s.f (F.MFSEV_SEV k) == 2)) (fun s k => s.setF (F.MFSEV_SEV k) 3)

theorem State.modSafe_rd (s : State) {off : Nat} (h : ∀ i < 2, off ≠ R.MFSEV i) : s.modSafe.rd off = s.rd off :=
  State.each_rd _ _ _ fun k hk _ => State.rd_wr_ne (h (k / 16) (by have := List.mem_range.1 (List.mem_of_mem_filter hk); omega)) _

theorem State.strapSafe_eq (s : State) :
    s.strapSafe = if s.b F.STRAP_STAT_SAFE = false then s else (s.each allTiles (fun s t => s.sevSafe t (s.contains t))).modSafe := by
  unfold State.strapSafe
  simp only [Bool.not_eq_true']
  rfl

theorem State.strapSafe_onlyRegs (s : State) : s.onlyRegs s.strapSafe := by
  rw [State.strapSafe_eq]
  split
  · exact .refl s
  · exact ((State.onlyRegs.refl s).each _ _ fun _ _ hu => hu.each _ _ fun _ _ hv => hv.setF ..).each _ _ fun _ _ hu => hu.setF ..

theorem State.strapSafe_rd (s : State) {off : Nat} (ht : ∀ t, ∀ i < 3, off ≠ R.FSEV t i) (hm : ∀ i < 2, off ≠ R.MFSEV i) :
    s.strapSafe.rd off = s.rd off := by
  rw [State.strapSafe_eq]
  split
  · rfl
  · refine (State.modSafe_rd _ hm).trans (State.each_rd _ _ _ fun t _ u => State.each_rd _ _ _ fun k hk v => State.rd_wr_ne (ht t (k / 16) ?_) _)
    have := List.mem_range.1 (List.mem_of_mem_filter hk)
    omega

/-- STRAP_SAFE turns CONTAIN defaults of tile sources into SAFE. -/
theorem State.strapSafe_fsev (h : s.canonical) {n k : Nat} (hn : n < 48) (hk : k < 44) :
    s.strapSafe.f (F.FSEV_SEV n k) = if s.b F.STRAP_STAT_SAFE && s.f (F.FSEV_SEV n k) == 2 then 3 else s.f (F.FSEV_SEV n k) := by
  rw [State.strapSafe_eq]
  cases s.b F.STRAP_STAT_SAFE with
  | false => simp
  | true =>
    obtain ⟨-, hf⟩ := State.each_sevSafe h allTiles List.nodup_range
    have hmod := (s.each allTiles (fun s t => s.sevSafe t (s.contains t))).modSafe_rd (off := (F.FSEV_SEV n k).off) fun i hi => by
      simp only [F.FSEV_SEV, R.FSEV, R.MFSEV, tileBase]
      omega
    rw [if_neg (by simp), State.f_of_rd hmod, hf n k hk]
    simp [allTiles, hn]

/-- The state with the straps sampled, before the record of a wrong TWIN strap. -/
def State.strapped (s : State) (straps : BitVec 8) : State :=
  ((s.wr R.STRAP_STAT (straps.setWidth 32)).strapDefaults.strapSafe).updClk (fun c => { c with phase := 1, warm := false })

theorem strapSample_strapped (straps : BitVec 8) (hp : s.clocks.phase = 0) (ho : s.clocks.off = false) :
    exec (.strapSample straps) s = .next (if (s.strapped straps).f F.STRAP_STAT_TWIN = 3 then (s.strapped straps).note 0x1 .strapTwin 2 tgtModule
      else s.strapped straps) := if_neg (by simp [hp, ho])

theorem State.strapped_rd (s : State) (straps : BitVec 8) {off : Nat} (h : off ∈ [R.STRAP_STAT, R.CLK_STAT]) :
    (s.strapped straps).rd off = (s.wr R.STRAP_STAT (straps.setWidth 32)).strapDefaults.rd off := by
  refine (State.rd_of_regs (State.updClk_regs _ _) off).trans (State.strapSafe_rd _ ?_ ?_)
  · intro t i hi
    simp only [List.mem_cons, List.not_mem_nil, or_false, R.STRAP_STAT, R.CLK_STAT] at h
    simp only [R.FSEV, tileBase]
    omega
  · intro i hi
    simp only [List.mem_cons, List.not_mem_nil, or_false, R.STRAP_STAT, R.CLK_STAT] at h
    simp only [R.MFSEV]
    omega

/-- The straps read in STRAP_STAT, and the clock master's in CLK_STAT (R367). -/
theorem State.strapped_straps (h : s.canonical) (straps : BitVec 8) :
    (s.strapped straps).rd R.STRAP_STAT = straps.setWidth 32 ∧ (s.strapped straps).b F.CLK_STAT_MASTER = straps.getLsbD 0 := by
  have hc := State.wr_canonical h R.STRAP_STAT (straps.setWidth 32)
  have hgrid : R.STRAP_STAT ∉ R.CLK_STAT :: R.TWIN_STAT :: allTiles.map R.GRID_STAT := by
    simp only [List.mem_cons, List.mem_map, not_or, not_exists, not_and]
    refine ⟨by decide, by decide, fun t _ ht => ?_⟩
    simp only [R.STRAP_STAT, R.GRID_STAT, tileBase] at ht
    omega
  have hw : (s.wr R.STRAP_STAT (straps.setWidth 32)).rd R.STRAP_STAT = straps.setWidth 32 := State.rd_wr_same h.rising ..
  refine ⟨(s.strapped_rd straps (by decide)).trans ((State.strapDefaults_keeps _ _ hgrid).trans hw), ?_⟩
  have hclkm : (s.wr R.STRAP_STAT (straps.setWidth 32)).f F.STRAP_STAT_CLKM = (straps.getLsbD 0).toNat := by
    unfold State.f
    rw [show F.STRAP_STAT_CLKM.off = R.STRAP_STAT from rfl, hw, Fld.ext_bit rfl]
    simp [F.STRAP_STAT_CLKM]
  rw [State.b, State.f_of_rd (s.strapped_rd straps (by decide)), State.strapDefaults_master hc, hclkm]
  cases straps.getLsbD 0 <;> rfl

theorem State.strapped_eq (s : State) (straps : BitVec 8) :
    s.strapped straps = { s with regs := (s.strapped straps).regs, clocks := { s.clocks with phase := 1, warm := false } } := by
  have honly := ((State.strapDefaults_onlyRegs (s.wr R.STRAP_STAT (straps.setWidth 32))).trans (State.strapSafe_onlyRegs _)).eq
  unfold State.strapped
  generalize (s.wr R.STRAP_STAT (straps.setWidth 32)).strapDefaults.strapSafe = u at honly
  rw [honly]
  rfl

theorem State.strapped_fsev (h : s.canonical) (straps : BitVec 8) {n k : Nat} (hn : n < 48) (hk : k < 44) :
    (s.strapped straps).f (F.FSEV_SEV n k) = if straps.getLsbD 7 && s.f (F.FSEV_SEV n k) == 2 then 3 else s.f (F.FSEV_SEV n k) := by
  have hc := State.wr_canonical h R.STRAP_STAT (straps.setWidth 32)
  have hkeep (off : Nat) (h1 : off ≠ R.CLK_STAT) (h2 : off ≠ R.TWIN_STAT) (h3 : ∀ t, off ≠ R.GRID_STAT t) :
      (s.wr R.STRAP_STAT (straps.setWidth 32)).strapDefaults.rd off = (s.wr R.STRAP_STAT (straps.setWidth 32)).rd off :=
    State.strapDefaults_keeps _ _ (by simpa [h1, h2] using fun t _ => (h3 t).symm)
  have hsafe : (s.wr R.STRAP_STAT (straps.setWidth 32)).strapDefaults.b F.STRAP_STAT_SAFE = straps.getLsbD 7 := by
    unfold State.b State.f
    rw [hkeep _ (by decide) (by decide) (by simp only [F.STRAP_STAT_SAFE, R.STRAP_STAT, R.GRID_STAT, tileBase]; omega),
      show F.STRAP_STAT_SAFE.off = R.STRAP_STAT from rfl, State.rd_wr_same h.rising, Fld.ext_bit rfl]
    simp only [F.STRAP_STAT_SAFE, BitVec.getLsbD_setWidth]
    cases straps.getLsbD 7 <;> rfl
  have hsev : (s.wr R.STRAP_STAT (straps.setWidth 32)).strapDefaults.f (F.FSEV_SEV n k) = s.f (F.FSEV_SEV n k) := by
    refine State.f_of_rd ((hkeep _ ?_ ?_ fun t => ?_).trans (State.rd_wr_ne ?_ _))
    all_goals simp only [F.FSEV_SEV, R.FSEV, R.CLK_STAT, R.TWIN_STAT, R.GRID_STAT, R.STRAP_STAT, tileBase]
    all_goals omega
  have hset := State.strapSafe_fsev (((Kept.refl _).strapDefaults).2 hc) hn hk
  rw [hsafe, hsev] at hset
  exact (State.f_updClk ..).trans hset

/-- The straps are sampled once, before the start (R367). -/
theorem strapSample_spec (h : s.canonical) (straps : BitVec 8) (hp : s.clocks.phase = 0) (ho : s.clocks.off = false) :
    ∃ t : State, exec (.strapSample straps) s = .next t ∧ t.rd R.STRAP_STAT = straps.setWidth 32 ∧
      t.b F.CLK_STAT_MASTER = straps.getLsbD 0 ∧ t.clocks = { s.clocks with phase := 1, warm := false } ∧
      (∀ n < 48, ∀ k < 44, t.f (F.FSEV_SEV n k) = if straps.getLsbD 7 && s.f (F.FSEV_SEV n k) == 2 then 3 else s.f (F.FSEV_SEV n k)) ∧
      s.keepsMemory t := by
  obtain ⟨hstrap, hmaster⟩ := State.strapped_straps h straps
  have hclk : (s.strapped straps).clocks = { s.clocks with phase := 1, warm := false } := congrArg State.clocks (s.strapped_eq straps)
  have hmem : s.keepsMemory (s.strapped straps) := fun _ => by rw [s.strapped_eq straps]; exact ⟨rfl, rfl, rfl⟩
  have hlog : Logged (s.strapped straps) (if (s.strapped straps).f F.STRAP_STAT_TWIN = 3 then (s.strapped straps).note 0x1 .strapTwin 2 tgtModule
      else s.strapped straps) := by
    split
    · exact State.note_logged ..
    · exact .refl _
  refine ⟨_, strapSample_strapped straps hp ho, (hlog.2 _ (by decide)).trans hstrap, ?_, hlog.clocks.trans hclk, fun n hn k hk => ?_, hmem.trans hlog.keepsMemory⟩
  · rw [State.b, hlog.f (not_assertReg_module (by decide) (by decide))]
    exact hmaster
  · refine (hlog.f ?_).trans (State.strapped_fsev h straps hn hk)
    simp only [F.FSEV_SEV, R.FSEV]
    rw [Nat.add_assoc]
    exact not_assertReg_tile n (by omega) (by unfold assertOffset; omega)

end

/-! ### The start (R369) -/

section
variable {s u : State}

theorem State.boot_failed {chain : List Byte} (h : s.boot chain = (u, false)) : u.sec.recovery = true := by
  have key (r : State × Bool) (hr : (if r.2 then r else (r.1.updSec (fun x => { x with recovery := true }), false)) = (u, false)) :
      u.sec.recovery = true := by
    split at hr
    · next h1 => exact absurd ((congrArg Prod.snd hr).symm.trans h1) (by simp)
    · obtain ⟨rfl, -⟩ := Prod.mk.inj hr
      rfl
  exact key _ h

theorem bootLoad_failed {chain : List Byte} (hp : s.clocks.phase = 1) (hm : s.clocks.mresetLow = false) (ht : s.clocks.tripped = false)
    (hb : s.boot chain = (u, false)) : exec (.bootLoad chain) s = .next u := by
  have hexec : exec (.bootLoad chain) s = execBootLoad chain s := rfl
  rw [hexec]
  simp [execBootLoad, hp, hm, ht, hb]

/-- The journal entry of the straps at a power-on (R79, R369). -/
def State.strapEntry (u : State) : JPending :=
  { group := u.journal.nextGroup, bell := u.bell, origin := 0x7, opcode := 0xFFFE, target := 0, offset := R.STRAP_STAT, tag := 0,
    oldDigest := zeros 32, newDigest := sha256 (leBytes 4 (u.rd R.STRAP_STAT).toNat), reply := none, undo := {} }

/-- The straps' entry waits in the journal at the first start after power-on. -/
def State.strapsNoted (u : State) : State :=
  if u.clocks.strapsLogged then u
  else { u with journal := { u.journal with waiting := u.journal.waiting ++ [u.strapEntry], nextGroup := u.journal.nextGroup + 1 },
                clocks := { u.clocks with strapsLogged := true } }

theorem bootLoad_boots {chain : List Byte} (hp : s.clocks.phase = 1) (hm : s.clocks.mresetLow = false) (ht : s.clocks.tripped = false)
    (hb : s.boot chain = (u, true)) :
    exec (.bootLoad chain) s = .next (if u.b F.CLK_STAT_PLL_LOCK = true then (u.strapsNoted.updClk (fun c => { c with phase := 2 })).coreStart
      else u.strapsNoted.updClk (fun c => { c with phase := 2 })) := by
  have hexec : exec (.bootLoad chain) s = execBootLoad chain s := rfl
  have hpll : (u.strapsNoted.updClk (fun c => { c with phase := 2 })).b F.CLK_STAT_PLL_LOCK = u.b F.CLK_STAT_PLL_LOCK := by
    unfold State.strapsNoted
    split <;> rfl
  rw [hexec, ← hpll]
  simp only [execBootLoad, hp, hm, ht, hb]
  rfl

theorem State.policyReg_clocks (s : State) (tgt off : Nat) (v : Word) : (s.policyReg tgt off v).clocks = s.clocks := by
  unfold State.policyReg
  split <;> rfl

theorem State.omeStart_clocks (s : State) (t : Nat) : (s.omeStart t).clocks = s.clocks := by
  unfold State.omeStart
  dsimp only
  split
  · rw [State.updOme_clocks, State.setFs_clocks]
  · rfl

theorem State.foldl_wr_clocks {α : Type} (s : State) (l : List α) (off : α → Nat) (v : α → Word) :
    (l.foldl (fun s x => s.wr (off x) (v x)) s).clocks = s.clocks :=
  State.each_keeps State.clocks s l (fun s x => s.wr (off x) (v x)) fun _ _ => rfl

theorem State.rewriteRow_clocks (s : State) (a : Nat) : (s.rewriteRow a).clocks = s.clocks := by
  unfold State.rewriteRow
  dsimp only
  split
  · rfl
  · rw [State.setF_clocks, State.foldl_wr_clocks]

theorem State.rewriteDist_clocks (s : State) : s.rewriteDist.clocks = s.clocks :=
  State.each_keeps State.clocks s allTiles State.rewriteRow fun a u => u.rewriteRow_clocks a

theorem State.adoptFree_clocks (s : State) : s.adoptFree.clocks = s.clocks := by
  refine State.each_keeps State.clocks s _ _ fun r u => ?_
  unfold State.adoptOrphan
  dsimp only
  split
  · rfl
  · split
    · rfl
    · rw [State.rewriteDist_clocks, State.omeStart_clocks, State.policyReg_clocks]

theorem State.syncFaultN_clocks (s : State) : s.syncFaultN.clocks = s.clocks := by
  unfold State.syncFaultN
  dsimp only
  split <;> rfl

/-- The end of the start leads to the wait for the primary CXL port (R369). -/
theorem State.coreStart_phase (s : State) : s.coreStart.clocks.phase = 3 := by
  unfold State.coreStart
  dsimp only
  rw [State.syncFaultN_clocks, State.adoptFree_clocks]
  rfl

theorem proctorReady_waits (h : s.clocks.phase ≠ 3 ∨ s.b (F.CXL_PHY_STAT_LINK_UP (s.f F.STRAP_STAT_CXLP)) = false) :
    exec .proctorReady s = .next s := if_pos (by rcases h with h | h <;> simp [h])

theorem proctorReady_reads (h : s.canonical) (hp : s.clocks.phase = 3) (hu : s.b (F.CXL_PHY_STAT_LINK_UP (s.f F.STRAP_STAT_CXLP)) = true)
    (hb : s.sec.badDue = []) :
    ∃ t : State, exec .proctorReady s = .next t ∧ t.f F.Q_GLOBAL_PROCTOR_READY = 1 ∧ t.clocks = { s.clocks with phase := 4, warm := false } ∧
      t.twin.readyAt = some s.bell ∧ s.keepsRegs t [R.Q_GLOBAL] := by
  have hexec : exec .proctorReady s = execProctorReady s := rfl
  have hnone : ((s.setB F.Q_GLOBAL_PROCTOR_READY true).updClk (fun c => { c with phase := 4, warm := false })).sec.badDue = [] := hb
  rw [hexec, execProctorReady, if_neg (by simp [hp, hu])]
  dsimp only
  rw [hnone]
  exact ⟨_, rfl, State.f_setB_same h F.Q_GLOBAL_PROCTOR_READY true (by decide) rfl, rfl, rfl, s.keepsRegs_setB F.Q_GLOBAL_PROCTOR_READY true⟩

end
end Sys2Proof.Machine

open Sys2Proof Sys2Proof.Machine

/-- Settles O50: what each event of the clocks and of the start shows, keeps and leads to. -/
theorem clockAndStart : Obligations.ClockAndStart := by
  unfold Obligations.ClockAndStart
  refine ⟨fun s h => ⟨refclkLoss_spec h, refclkLoss_again h⟩, fun a b s h h0 h2 => refclkReturn_spec h a b h0 h2,
    fun n s h => ⟨rfl, State.f_bump_same (x := F.TILE_CDC_TMO_COUNT n.val) h.rising (Nat.le_refl 32) 1⟩,
    fun straps s h => ⟨fun hp => if_pos (by rcases hp with hp | hp <;> simp [hp]), strapSample_spec h straps⟩,
    fun chain s u ok hp hm ht hb => ⟨?_, ?_, ?_⟩, State.coreStart_phase, fun s h => ⟨proctorReady_waits, proctorReady_reads h⟩⟩
  · rintro rfl
    exact ⟨bootLoad_failed hp hm ht hb, State.boot_failed hb⟩
  · rintro rfl hl
    have hnoted : u.strapsNoted = u := if_pos hl
    rw [bootLoad_boots hp hm ht hb, hnoted]
  · rintro rfl hl hpll
    have hnoted : u.strapsNoted = { u with
        journal := { u.journal with waiting := u.journal.waiting ++ [u.strapEntry], nextGroup := u.journal.nextGroup + 1 },
        clocks := { u.clocks with strapsLogged := true } } := if_neg (by simp [hl])
    rw [bootLoad_boots hp hm ht hb, if_neg (by simp [State.b, hpll]), hnoted]
    exact ⟨_, u.strapEntry, rfl, rfl, rfl, rfl, rfl, rfl, rfl⟩

end

section
/-! SUPPORT. Duty steps, the ceiling, feeds and converters, and the power commands (R500 to R513). -/

namespace Sys2Proof.Machine

/-! ### Duty steps (R508) -/

section
variable {s t u : State}

/-- Nothing changes but registers and the source of free values. -/
def State.onlyDraws (s t : State) : Prop := t = { s with regs := t.regs, free := t.free }

theorem State.onlyDraws.refl (s : State) : s.onlyDraws s := rfl

theorem State.onlyDraws.trans (h : s.onlyDraws t) (k : t.onlyDraws u) : s.onlyDraws u := by
  unfold State.onlyDraws at *
  rw [k, h]

theorem State.onlyDraws.onlyRegs (h : s.onlyDraws t) (k : t.onlyRegs u) : s.onlyDraws u := by
  unfold State.onlyDraws at *
  rw [k.eq, h]

theorem State.onlyDraws.each {α : Type} (h : s.onlyDraws t) (l : List α) (f : State → α → State) (hf : ∀ x v, s.onlyDraws v → s.onlyDraws (f v x)) :
    s.onlyDraws (t.each l f) := by
  unfold State.each
  exact List.foldlRecOn (motive := s.onlyDraws) l _ h fun v hv x _ => hf x v hv

theorem State.syncDuty_draws (s : State) (n : Nat) : s.onlyDraws (s.syncDuty n) := by
  unfold State.syncDuty State.dutyPct
  dsimp only
  refine State.onlyDraws.onlyRegs ?_ ((State.onlyRegs.refl _).setFs _)
  split
  · exact .refl s
  · split <;> exact rfl

theorem State.syncDuty_rd (s : State) (n : Nat) {off : Nat} (h : off ≠ R.OME_DUTY n) : (s.syncDuty n).rd off = s.rd off := by
  unfold State.syncDuty State.dutyPct
  dsimp only
  rw [State.setFs_keeps _ off (by simp [F.OME_DUTY_DUTY_PCT, F.OME_DUTY_CAUSE, h])]
  split
  · rfl
  · split <;> rfl

/-- A die's power limit is sent where it changes. -/
theorem State.sendLimit_cases (s : State) (n : Nat) : s.sendLimit n = s ∨ ∃ v, s.sendLimit n = s.setF (F.XSITE_PWR_LIMIT n) v := by
  unfold State.sendLimit
  dsimp only
  generalize (if s.diePct n = 100 then 0 else capPmax (s.st n).cap * s.diePct n / 100) = v
  split
  · exact .inl rfl
  · exact .inr ⟨v, rfl⟩

theorem State.sendLimit_draws (s : State) (n : Nat) : s.onlyDraws (s.sendLimit n) := by
  rcases s.sendLimit_cases n with h | ⟨v, h⟩ <;> rw [h]
  · exact .refl s
  · exact (State.onlyDraws.refl s).onlyRegs ((State.onlyRegs.refl s).setF ..)

theorem State.sendLimit_rd (s : State) (n : Nat) {off : Nat} (h : off ≠ R.XSITE_PWR n) : (s.sendLimit n).rd off = s.rd off := by
  rcases s.sendLimit_cases n with hs | ⟨v, hs⟩ <;> rw [hs]
  exact State.rd_wr_ne h _

/-- The ceiling loop's steps stored and counted in PWR_STAT. -/
def State.stepsShown (s : State) (steps : List Nat) : State :=
  (s.updPow (fun p => { p with steps := steps, dieSteps := steps.countP (fun x => x == 2) })).setFs
    [(F.PWR_STAT_OME_STEP, steps.countP (fun x => x == 0)), (F.PWR_STAT_CROWN_STEP, steps.countP (fun x => x == 1))]

/-- Applied, the steps change no other part of the state than the counted power steps (R508). -/
theorem State.applySteps_draws (s : State) (steps : List Nat) : (s.stepsShown steps).onlyDraws (s.applySteps steps) := by
  have htiles : (s.stepsShown steps).onlyDraws ((s.stepsShown steps).each allTiles State.syncDuty) :=
    (State.onlyDraws.refl _).each _ _ fun n v hv => hv.trans (v.syncDuty_draws n)
  unfold State.applySteps
  refine htiles.each _ _ fun x v hv => ?_
  dsimp only
  split
  · exact hv.trans (v.sendLimit_draws x)
  · exact hv

/-- Beside PWR_STAT the steps are written to the tiles' duty registers and the dies' power limits. -/
theorem State.applySteps_rd (s : State) (steps : List Nat) {off : Nat} (ht : ∀ n, off ≠ R.OME_DUTY n) (hx : off ≠ R.XSITE_PWR 0 ∧ off ≠ R.XSITE_PWR 1) :
    (s.applySteps steps).rd off = (s.stepsShown steps).rd off := by
  unfold State.applySteps
  refine (State.each_rd _ _ _ fun x hx2 v => ?_).trans (State.each_rd _ _ _ fun n _ v => v.syncDuty_rd n (ht n))
  dsimp only
  split
  · refine v.sendLimit_rd x ?_
    simp only [List.mem_cons, List.not_mem_nil, or_false] at hx2
    rcases hx2 with rfl | rfl
    · exact hx.1
    · exact hx.2
  · rfl

theorem State.stepsShown_eq (s : State) (steps : List Nat) : s.stepsShown steps = { s with
    regs := (s.stepsShown steps).regs, power := { s.power with steps := steps, dieSteps := steps.countP (fun x => x == 2) } } :=
  ((State.onlyRegs.refl (s.updPow (fun p => { p with steps := steps, dieSteps := steps.countP (fun x => x == 2) }))).setFs _).eq

theorem State.applySteps_power (s : State) (steps : List Nat) :
    (s.applySteps steps).power = { s.power with steps := steps, dieSteps := steps.countP (fun x => x == 2) } := by
  rw [s.applySteps_draws steps, s.stepsShown_eq steps]

theorem State.applySteps_keepsMemory (s : State) (steps : List Nat) : s.keepsMemory (s.applySteps steps) := fun _ => by
  rw [s.applySteps_draws steps, s.stepsShown_eq steps]
  exact ⟨rfl, rfl, rfl⟩

/-- A register of the power block of the module (R500 to R513). -/
theorem powerReg_apart {off : Nat} (h : off < 0x9000) : (∀ n, off ≠ R.OME_DUTY n) ∧ off ≠ R.XSITE_PWR 0 ∧ off ≠ R.XSITE_PWR 1 := by
  simp only [R.OME_DUTY, R.XSITE_PWR, tileBase]
  exact ⟨fun n => by omega, by omega, by omega⟩

/-- A field of PWR_STAT that counts no steps stays. -/
theorem State.applySteps_f (h : s.canonical) (steps : List Nat) {x : Fld} (hlt : x.off < 0x9000) (h0 : x.apart F.PWR_STAT_OME_STEP)
    (h1 : x.apart F.PWR_STAT_CROWN_STEP) : (s.applySteps steps).f x = s.f x := by
  obtain ⟨ht, hx⟩ := powerReg_apart hlt
  rw [State.f_of_rd (s.applySteps_rd steps ht hx), State.stepsShown]
  exact State.f_setFs_ne (s := s.updPow _) h _ (by simp [h0, h1])

theorem State.applySteps_counts (h : s.canonical) (steps : List Nat) :
    (s.applySteps steps).f F.PWR_STAT_OME_STEP = steps.countP (fun x => x == 0) % 8 ∧
    (s.applySteps steps).f F.PWR_STAT_CROWN_STEP = steps.countP (fun x => x == 1) % 8 := by
  obtain ⟨ht, hx⟩ := powerReg_apart (off := R.PWR_STAT) (by decide)
  rw [State.f_of_rd (x := F.PWR_STAT_OME_STEP) (s.applySteps_rd steps ht hx), State.f_of_rd (x := F.PWR_STAT_CROWN_STEP) (s.applySteps_rd steps ht hx)]
  unfold State.stepsShown
  exact ⟨State.f_setFs_at (s := s.updPow _) h _ 0 rfl (by decide) (by simp [Fld.apart, F.PWR_STAT_OME_STEP, F.PWR_STAT_CROWN_STEP]),
    State.f_setFs_at (s := s.updPow _) h _ 1 rfl (by decide) (by simp)⟩

end

/-! ### The ceiling (R507) -/

section
variable {s : State}

/-- The lower of two ceilings, the first where they are equal. -/
def lowerCeil (m c : Nat × Nat) : Nat × Nat := if c.1 < m.1 then c else m

theorem foldl_lowerCeil (l : List (Nat × Nat)) (m : Nat × Nat) :
    (l.foldl lowerCeil m).1 ≤ m.1 ∧ ∀ c ∈ l, (l.foldl lowerCeil m).1 ≤ c.1 := by
  induction l generalizing m with
  | nil => exact ⟨Nat.le_refl _, fun c hc => absurd hc List.not_mem_nil⟩
  | cons a l ih =>
    obtain ⟨h1, h2⟩ := ih (lowerCeil m a)
    have hm : (lowerCeil m a).1 ≤ m.1 ∧ (lowerCeil m a).1 ≤ a.1 := by
      unfold lowerCeil
      split <;> omega
    exact ⟨h1.trans hm.1, fun c hc => (List.mem_cons.1 hc).elim (fun h => h ▸ h1.trans hm.2) (h2 c)⟩

/-- The ceiling shown is at most the part's maximum and every ceiling in force (R507). -/
theorem State.updCeil_ceil (h : s.canonical) :
    s.updCeil.f F.PWR_STAT_CEIL_W ≤ s.maxInput ∧ ∀ c ∈ s.ceilings, s.updCeil.f F.PWR_STAT_CEIL_W ≤ c.1 := by
  obtain ⟨hmax, hall⟩ := foldl_lowerCeil s.ceilings (s.maxInput, 4)
  have hf : s.updCeil.f F.PWR_STAT_CEIL_W = min (s.ceilings.foldl lowerCeil (s.maxInput, 4)).1 4095 % 4096 :=
    State.f_setFs_at h _ 0 rfl (by decide) (by simp [Fld.apart, F.PWR_STAT_CEIL_W, F.PWR_STAT_CEIL_SRC])
  have hle : s.updCeil.f F.PWR_STAT_CEIL_W ≤ (s.ceilings.foldl lowerCeil (s.maxInput, 4)).1 := by omega
  exact ⟨hle.trans hmax, fun c hc => hle.trans (hall c hc)⟩

theorem State.updCeil_onlyRegs (s : State) : s.onlyRegs s.updCeil := (State.onlyRegs.refl s).setFs _

theorem State.updCeil_keeps (s : State) : s.keepsRegs s.updCeil [R.PWR_STAT] := s.keepsRegs_setFs _ (by simp [F.PWR_STAT_CEIL_W, F.PWR_STAT_CEIL_SRC])

theorem State.updCeil_f (h : s.canonical) {x : Fld} (h0 : x.apart F.PWR_STAT_CEIL_W) (h1 : x.apart F.PWR_STAT_CEIL_SRC) : s.updCeil.f x = s.f x :=
  State.f_setFs_ne h _ (by simp [h0, h1])

/-- The ceilings are read from PWR_CTL, the blades' voltages and the power inputs. -/
theorem State.ceilings_congr {t : State} (hk : s.keepsRegs t [R.PWR_STAT]) (hp : t.power = s.power) : t.ceilings = s.ceilings := by
  have hcap : t.f F.PWR_CTL_CAP_W = s.f F.PWR_CTL_CAP_W := hk.f (by decide)
  have ha : t.f F.PWR_VIN_A_VIN = s.f F.PWR_VIN_A_VIN := hk.f (by decide)
  have hb : t.f F.PWR_VIN_B_VIN = s.f F.PWR_VIN_B_VIN := hk.f (by decide)
  simp only [State.ceilings, hcap, ha, hb, hp]

/-- The feeds and converters as PWR_STAT shows them. -/
def State.feedFields (s : State) : List (Fld × Nat) :=
  [(F.PWR_STAT_FEED_A_OK, if s.bladeOut 0 then 0 else 1), (F.PWR_STAT_FEED_B_OK, if s.bladeOut 1 then 0 else 1),
    (F.PWR_STAT_CONV_OK, ((List.range 4).filter (fun k => !s.power.convFail.contains k)).foldl (fun n k => n + 2 ^ k) 0)]

theorem State.syncFeeds_eq (s : State) : s.syncFeeds = (s.setFs s.feedFields).updCeil := by
  have hok (x : Nat) : (if (!s.power.feedLost.contains x && !s.power.breakers.contains x) = true then 1 else 0) = if s.bladeOut x then 0 else 1 := by
    unfold State.bladeOut
    cases s.power.feedLost.contains x <;> cases s.power.breakers.contains x <;> rfl
  simp only [State.syncFeeds, State.feedFields, hok]

theorem State.syncFeeds_onlyRegs (s : State) : s.onlyRegs s.syncFeeds := by
  rw [State.syncFeeds_eq]
  exact ((State.onlyRegs.refl s).setFs _).trans (State.updCeil_onlyRegs _)

theorem State.feedFields_keeps (s : State) : s.keepsRegs (s.setFs s.feedFields) [R.PWR_STAT] :=
  s.keepsRegs_setFs _ (by simp [State.feedFields, F.PWR_STAT_FEED_A_OK, F.PWR_STAT_FEED_B_OK, F.PWR_STAT_CONV_OK])

theorem State.syncFeeds_keeps (s : State) : s.keepsRegs s.syncFeeds [R.PWR_STAT] := by
  rw [State.syncFeeds_eq]
  exact s.feedFields_keeps.trans (State.updCeil_keeps _)

theorem State.syncFeeds_ceil (h : s.canonical) {c : Nat × Nat} (hc : c ∈ s.ceilings) : s.syncFeeds.f F.PWR_STAT_CEIL_W ≤ c.1 := by
  have hpow : (s.setFs s.feedFields).power = s.power := by rw [((State.onlyRegs.refl s).setFs s.feedFields).eq]
  rw [State.syncFeeds_eq]
  exact (State.updCeil_ceil (State.setFs_canonical h _)).2 c (by rwa [State.ceilings_congr s.feedFields_keeps hpow])

/-- A blade's OK bit (R500). -/
def feedOk (x : Nat) : Fld := if x = 0 then F.PWR_STAT_FEED_A_OK else F.PWR_STAT_FEED_B_OK

/-- A blade's OK bit reads whether it has power. -/
theorem State.syncFeeds_ok (h : s.canonical) {x : Nat} (hx : x < 2) : s.syncFeeds.f (feedOk x) = if s.bladeOut x then 0 else 1 := by
  have hc := State.setFs_canonical h s.feedFields
  rw [State.syncFeeds_eq]
  obtain rfl | rfl : x = 0 ∨ x = 1 := by omega
  · rw [show feedOk 0 = F.PWR_STAT_FEED_A_OK from rfl, State.updCeil_f hc (by decide) (by decide),
      State.f_setFs_at h _ 0 rfl (by decide) (by simp [State.feedFields, Fld.apart, F.PWR_STAT_FEED_A_OK, F.PWR_STAT_FEED_B_OK, F.PWR_STAT_CONV_OK])]
    split <;> rfl
  · rw [show feedOk 1 = F.PWR_STAT_FEED_B_OK from rfl, State.updCeil_f hc (by decide) (by decide),
      State.f_setFs_at h _ 1 rfl (by decide) (by simp [State.feedFields, Fld.apart, F.PWR_STAT_FEED_B_OK, F.PWR_STAT_CONV_OK])]
    split <;> rfl

end

/-! ### The fast step (R509) -/

section
variable {s : State}

/-- The loop's steps with the fast step's: four at least of the engine and of the Crown. -/
def fastSteps (l : List Nat) : List Nat :=
  List.replicate (4 - l.countP (fun x => x == 1)) 1 ++ List.replicate (4 - l.countP (fun x => x == 0)) 0 ++ l

theorem fastSteps_counts (l : List Nat) :
    (fastSteps l).countP (fun x => x == 0) = max 4 (l.countP (fun x => x == 0)) ∧ (fastSteps l).countP (fun x => x == 1) = max 4 (l.countP (fun x => x == 1)) := by
  unfold fastSteps
  simp only [List.countP_append, List.countP_replicate]
  constructor <;> simp <;> omega

theorem State.fastStep_eq (s : State) : s.fastStep = (s.applySteps (fastSteps s.power.steps)).setB F.PWR_EVT_FAST_STEP true := rfl

theorem State.fastStep_event (h : s.canonical) : s.fastStep.f F.PWR_EVT_FAST_STEP = 1 :=
  State.f_setB_same (((Kept.refl s).applySteps _).2 h) _ true (by decide) rfl

theorem State.fastStep_f (h : s.canonical) {x : Fld} (hlt : x.off < 0x9000) (h0 : x.apart F.PWR_STAT_OME_STEP) (h1 : x.apart F.PWR_STAT_CROWN_STEP)
    (h2 : x.apart F.PWR_EVT_FAST_STEP) : s.fastStep.f x = s.f x :=
  (State.f_setF_ne (((Kept.refl s).applySteps _).2 h) h2 _).trans (State.applySteps_f h _ hlt h0 h1)

/-- The fast step leaves each count at four or more (R509). -/
theorem State.fastStep_counts (h : s.canonical) (h0 : s.power.steps.countP (fun k => k == 0) ≤ 6) (h1 : s.power.steps.countP (fun k => k == 1) ≤ 6) :
    s.fastStep.f F.PWR_STAT_OME_STEP = max 4 (s.power.steps.countP (fun k => k == 0)) ∧
    s.fastStep.f F.PWR_STAT_CROWN_STEP = max 4 (s.power.steps.countP (fun k => k == 1)) := by
  have hc := ((Kept.refl s).applySteps (fastSteps s.power.steps)).2 h
  obtain ⟨ho, hcr⟩ := State.applySteps_counts h (fastSteps s.power.steps)
  obtain ⟨e0, e1⟩ := fastSteps_counts s.power.steps
  rw [State.fastStep_eq]
  refine ⟨(State.f_setF_ne hc (by decide) _).trans ?_, (State.f_setF_ne hc (by decide) _).trans ?_⟩
  · rw [ho, e0]
    omega
  · rw [hcr, e1]
    omega

theorem State.fastStep_power (s : State) : s.fastStep.power = { s.power with
    steps := fastSteps s.power.steps, dieSteps := (fastSteps s.power.steps).countP (fun x => x == 2) } := State.applySteps_power ..

theorem State.fastStep_keepsMemory (s : State) : s.keepsMemory s.fastStep := (s.applySteps_keepsMemory _).trans fun _ => ⟨rfl, rfl, rfl⟩

end

/-! ### Events of the power input (R500, R501, R506) -/

section
variable {s : State}

/-- The event bit of a blade's open breaker, and of its lost feed. -/
def breakerEvt (x : Nat) : Fld := if x = 0 then F.PWR_EVT_BREAKER_A else F.PWR_EVT_BREAKER_B

def feedLostEvt (x : Nat) : Fld := if x = 0 then F.PWR_EVT_FEED_LOST_A else F.PWR_EVT_FEED_LOST_B

/-- A blade that loses power while the other has it: its OK bit drops and the fast step is taken under the new ceiling (R500, R509). -/
theorem State.bladeEvent_spec (h : s.canonical) {x : Nat} (hx : x < 2) (hout : s.bladeOut x = true) (hother : s.bladeOut (1 - x) = false) :
    s.bladeEvent = s.syncFeeds.fastStep ∧ s.bladeEvent.f (feedOk x) = 0 ∧ s.bladeEvent.f F.PWR_EVT_FAST_STEP = 1 ∧
    s.bladeEvent.f F.PWR_STAT_CEIL_W ≤ 29 * s.f (if x = 0 then F.PWR_VIN_B_VIN else F.PWR_VIN_A_VIN) / 100 ∧ s.keepsMemory s.bladeEvent := by
  have hc := State.onlyRegs.refl s
  have hcan : s.syncFeeds.canonical := ((Kept.refl s).syncFeeds).2 h
  have hev : s.bladeEvent = s.syncFeeds.fastStep := if_neg (by
    obtain rfl | rfl : x = 0 ∨ x = 1 := by omega
    · simp [show s.bladeOut 1 = false from hother]
    · simp [show s.bladeOut 0 = false from hother])
  have hceil : s.syncFeeds.f F.PWR_STAT_CEIL_W ≤ 29 * s.f (if x = 0 then F.PWR_VIN_B_VIN else F.PWR_VIN_A_VIN) / 100 := by
    unfold State.bladeOut at hout hother
    obtain rfl | rfl : x = 0 ∨ x = 1 := by omega
    · exact State.syncFeeds_ceil h (c := (29 * s.f F.PWR_VIN_B_VIN / 100, 2)) (by
        simp only [State.ceilings, hout, show (s.power.feedLost.contains 1 || s.power.breakers.contains 1) = false from hother]
        simp)
    · exact State.syncFeeds_ceil h (c := (29 * s.f F.PWR_VIN_A_VIN / 100, 2)) (by
        simp only [State.ceilings, hout, show (s.power.feedLost.contains 0 || s.power.breakers.contains 0) = false from hother]
        simp)
  rw [hev]
  refine ⟨rfl, ?_, State.fastStep_event hcan, ?_, (State.syncFeeds_onlyRegs s).keepsMemory.trans (State.fastStep_keepsMemory _)⟩
  · obtain rfl | rfl : x = 0 ∨ x = 1 := by omega
    · rw [show feedOk 0 = F.PWR_STAT_FEED_A_OK from rfl, State.fastStep_f hcan (by decide) (by decide) (by decide) (by decide)]
      exact (State.syncFeeds_ok h (x := 0) hx).trans (by rw [hout]; rfl)
    · rw [show feedOk 1 = F.PWR_STAT_FEED_B_OK from rfl, State.fastStep_f hcan (by decide) (by decide) (by decide) (by decide)]
      exact (State.syncFeeds_ok h (x := 1) hx).trans (by rw [hout]; rfl)
  · rw [State.fastStep_f hcan (by decide) (by decide) (by decide) (by decide)]
    exact hceil

/-- An event bit of the power input stays with the fast step. -/
theorem State.bladeEvent_f {x : Fld} (h : s.canonical) (he : s.bladeEvent = s.syncFeeds.fastStep) (hx : x.off = R.PWR_EVT) (ha : x.apart F.PWR_EVT_FAST_STEP) :
    s.bladeEvent.f x = s.f x := by
  have hcan : s.syncFeeds.canonical := ((Kept.refl s).syncFeeds).2 h
  rw [he, State.fastStep_f hcan (by rw [hx]; decide) (.inl (by rw [hx]; decide)) (.inl (by rw [hx]; decide)) ha]
  exact s.syncFeeds_keeps.f (by rw [hx]; decide)

/-- With both blades out the module is off and its DRAM lost (R501, R511). -/
theorem State.bladeEvent_off (h0 : s.bladeOut 0 = true) (h1 : s.bladeOut 1 = true) :
    s.bladeEvent = s.powerOff := if_pos (by simp [h0, h1])

/-- What stays of a state whose switches open. -/
theorem State.switchesOpen (u : State) :
    ((u.updClk (fun c => { c with off := true })).emit (.modPwrok false)).clocks.off = true ∧
    ((u.updClk (fun c => { c with off := true })).emit (.modPwrok false)).dram = u.dram ∧
    ((u.updClk (fun c => { c with off := true })).emit (.modPwrok false)).proctor = u.proctor ∧
    ((u.updClk (fun c => { c with off := true })).emit (.modPwrok false)).pool = u.pool ∧
    ((u.updClk (fun c => { c with off := true })).emit (.modPwrok false)).out.head? = some (.modPwrok false) := ⟨rfl, rfl, rfl, rfl, rfl⟩

theorem State.powerOff_spec (s : State) : s.powerOff.clocks.off = true ∧ s.powerOff.dram = [] ∧ s.powerOff.proctor.running = [] ∧
    s.powerOff.pool.regions = [] ∧ s.powerOff.out.head? = some (.modPwrok false) := by
  obtain ⟨hs, -, -, -, hdram, hpool, -⟩ := s.powerOn_spec
  obtain ⟨h1, h2, h3, h4, h5⟩ := s.powerOn.switchesOpen
  unfold State.powerOff
  exact ⟨h1, h2.trans hdram, by rw [h3, hs.running], by rw [h4, hpool], h5⟩

/-- A blade with a fault added to it. -/
def State.breakerOpen (s : State) (x : Nat) : State := (s.updPow (fun p => { p with breakers := p.breakers ++ [x] })).setB (breakerEvt x) true

def State.feedDown (s : State) (x : Nat) : State := (s.updPow (fun p => { p with feedLost := p.feedLost ++ [x] })).setB (feedLostEvt x) true

theorem exec_bladeBreaker (x : Fin 2) (ho : s.clocks.off = false) (hb : s.power.breakers.contains x.val = false) :
    exec (.bladeBreaker x) s = .next (s.breakerOpen x.val).bladeEvent := if_neg (by simpa [ho] using hb)

theorem exec_feedLost (x : Fin 2) (ho : s.clocks.off = false) (hb : s.power.feedLost.contains x.val = false) :
    exec (.feedLost x) s = .next (s.feedDown x.val).bladeEvent := if_neg (by simpa [ho] using hb)

/-- The blade is out; the other is as it was. -/
theorem State.breakerOpen_out (s : State) {x : Nat} (hx : x < 2) :
    (s.breakerOpen x).bladeOut x = true ∧ (s.breakerOpen x).bladeOut (1 - x) = s.bladeOut (1 - x) := by
  have hp : (s.breakerOpen x).power = { s.power with breakers := s.power.breakers ++ [x] } := rfl
  have hne : 1 - x ≠ x := by omega
  simp [State.bladeOut, hp, hne]

theorem State.feedDown_out (s : State) {x : Nat} (hx : x < 2) :
    (s.feedDown x).bladeOut x = true ∧ (s.feedDown x).bladeOut (1 - x) = s.bladeOut (1 - x) := by
  have hp : (s.feedDown x).power = { s.power with feedLost := s.power.feedLost ++ [x] } := rfl
  have hne : 1 - x ≠ x := by omega
  simp [State.bladeOut, hp, hne]

/-- The voltages of the blades are read as before. -/
theorem powerEvt_vin {x : Fld} (hx : x.off = R.PWR_EVT) (y : Nat) : (if y = 0 then F.PWR_VIN_B_VIN else F.PWR_VIN_A_VIN).off ≠ x.off := by
  rw [hx]
  split <;> decide

theorem breakerEvt_off (x : Nat) : (breakerEvt x).off = R.PWR_EVT := by
  unfold breakerEvt
  split <;> rfl

theorem feedLostEvt_off (x : Nat) : (feedLostEvt x).off = R.PWR_EVT := by
  unfold feedLostEvt
  split <;> rfl

/-- BLADE_BREAKER with the other blade in service (R500, R509). -/
theorem bladeBreaker_spec (h : s.canonical) (x : Fin 2) (ho : s.clocks.off = false) (h0 : s.power.steps.countP (fun k => k == 0) ≤ 6)
    (h1 : s.power.steps.countP (fun k => k == 1) ≤ 6) (hb : s.power.breakers.contains x.val = false) (hother : s.bladeOut (1 - x.val) = false) :
    ∃ t : State, exec (.bladeBreaker x) s = .next t ∧ t.f (breakerEvt x.val) = 1 ∧ t.f F.PWR_EVT_FAST_STEP = 1 ∧
      t.f (feedOk x.val) = 0 ∧ t.power.breakers = s.power.breakers ++ [x.val] ∧
      t.f F.PWR_STAT_OME_STEP = max 4 (s.power.steps.countP (fun k => k == 0)) ∧ t.f F.PWR_STAT_CROWN_STEP = max 4 (s.power.steps.countP (fun k => k == 1)) ∧
      t.f F.PWR_STAT_CEIL_W ≤ 29 * s.f (if x.val = 0 then F.PWR_VIN_B_VIN else F.PWR_VIN_A_VIN) / 100 ∧ s.keepsMemory t := by
  have hc : (s.breakerOpen x.val).canonical := State.setF_canonical (s := s.updPow _) h _ _
  obtain ⟨hout, hrest⟩ := s.breakerOpen_out x.isLt
  obtain ⟨hev, hok, hfast, hceil, hmem⟩ := State.bladeEvent_spec hc x.isLt hout (hrest.trans hother)
  have hpow : (s.breakerOpen x.val).syncFeeds.power = { s.power with breakers := s.power.breakers ++ [x.val] } := by
    rw [(State.syncFeeds_onlyRegs _).eq]
    rfl
  obtain ⟨hn0, hn1⟩ := State.fastStep_counts (s := (s.breakerOpen x.val).syncFeeds) (((Kept.refl _).syncFeeds).2 hc) (by rw [hpow]; exact h0) (by rw [hpow]; exact h1)
  have hvin : (s.breakerOpen x.val).f (if x.val = 0 then F.PWR_VIN_B_VIN else F.PWR_VIN_A_VIN) = s.f (if x.val = 0 then F.PWR_VIN_B_VIN else F.PWR_VIN_A_VIN) :=
    State.f_setF_off (powerEvt_vin (breakerEvt_off x.val) x.val) _
  rw [hpow, ← hev] at hn0 hn1
  rw [hvin] at hceil
  refine ⟨_, exec_bladeBreaker x ho hb, ?_, hfast, hok, ?_, hn0, hn1, hceil, hmem⟩
  · rw [State.bladeEvent_f hc hev (breakerEvt_off _) (by unfold breakerEvt; split <;> decide)]
    exact State.f_setB_same (s := s.updPow _) h _ true (by unfold breakerEvt; split <;> decide) (by unfold breakerEvt; split <;> rfl)
  · rw [hev, State.fastStep_power, hpow]

/-- FEED_LOST with the other blade in service (R500, R509). -/
theorem feedLost_spec (h : s.canonical) (x : Fin 2) (ho : s.clocks.off = false) (hb : s.power.feedLost.contains x.val = false)
    (hother : s.bladeOut (1 - x.val) = false) :
    ∃ t : State, exec (.feedLost x) s = .next t ∧ t.f (feedLostEvt x.val) = 1 ∧ t.f F.PWR_EVT_FAST_STEP = 1 ∧
      t.f (feedOk x.val) = 0 ∧ t.power.feedLost = s.power.feedLost ++ [x.val] ∧ s.keepsMemory t := by
  have hc : (s.feedDown x.val).canonical := State.setF_canonical (s := s.updPow _) h _ _
  obtain ⟨hout, hrest⟩ := s.feedDown_out x.isLt
  obtain ⟨hev, hok, hfast, -, hmem⟩ := State.bladeEvent_spec hc x.isLt hout (hrest.trans hother)
  have hpow : (s.feedDown x.val).syncFeeds.power = { s.power with feedLost := s.power.feedLost ++ [x.val] } := by
    rw [(State.syncFeeds_onlyRegs _).eq]
    rfl
  refine ⟨_, exec_feedLost x ho hb, ?_, hfast, hok, ?_, hmem⟩
  · rw [State.bladeEvent_f hc hev (feedLostEvt_off _) (by unfold feedLostEvt; split <;> decide)]
    exact State.f_setB_same (s := s.updPow _) h _ true (by unfold feedLostEvt; split <;> decide) (by unfold feedLostEvt; split <;> rfl)
  · rw [hev, State.fastStep_power, hpow]

/-- A blade's loss with the other one out (R501, R511). -/
theorem bladeEvent_both {u : State} {x : Nat} (hx : x < 2) (h : u.bladeOut x = true) (ho : u.bladeOut (1 - x) = true) :
    u.bladeEvent.clocks.off = true ∧ u.bladeEvent.dram = [] ∧ u.bladeEvent.proctor.running = [] := by
  have he : u.bladeEvent = u.powerOff := by
    obtain rfl | rfl : x = 0 ∨ x = 1 := by omega
    · exact State.bladeEvent_off h ho
    · exact State.bladeEvent_off ho h
  obtain ⟨hoff, hdram, hrun, -, -⟩ := u.powerOff_spec
  rw [he]
  exact ⟨hoff, hdram, hrun⟩

/-- A blade's supply is back. -/
def State.feedBack (s : State) (x : Nat) : State :=
  s.updPow (fun p => { p with feedLost := p.feedLost.filter (fun y => y != x), breakers := p.breakers.filter (fun y => y != x) })

/-- FEED_RETURN (R500). -/
theorem feedReturn_spec (h : s.canonical) (x : Fin 2) (ho : s.clocks.off = false) (hl : s.power.feedLost.contains x.val = true) :
    ∃ t : State, exec (.feedReturn x) s = .next t ∧ t.bladeOut x.val = false ∧
      t.bladeOut (1 - x.val) = s.bladeOut (1 - x.val) ∧ t.f (feedOk x.val) = 1 ∧ s.keepsRegs t [R.PWR_STAT] ∧ s.keepsMemory t := by
  have hexec : exec (.feedReturn x) s = .next (s.feedBack x.val).syncFeeds := if_neg (by simpa [ho] using hl)
  have hpow : (s.feedBack x.val).syncFeeds.power = (s.feedBack x.val).power := by rw [(State.syncFeeds_onlyRegs _).eq]
  have hcan : (s.feedBack x.val).canonical := h
  have hmem : s.keepsMemory (s.feedBack x.val) := fun _ => ⟨rfl, rfl, rfl⟩
  have hrd (off : Nat) : (s.feedBack x.val).rd off = s.rd off := State.rd_of_regs rfl off
  have hin : (s.feedBack x.val).bladeOut x.val = false := by simp [State.bladeOut, State.feedBack, State.updPow]
  have hne : 1 - x.val ≠ x.val := by omega
  have hrest : (s.feedBack x.val).bladeOut (1 - x.val) = s.bladeOut (1 - x.val) := by simp [State.bladeOut, State.feedBack, State.updPow, hne]
  have hout (y : Nat) : (s.feedBack x.val).syncFeeds.bladeOut y = (s.feedBack x.val).bladeOut y := by unfold State.bladeOut; rw [hpow]
  refine ⟨_, hexec, (hout _).trans hin, (hout _).trans hrest, ?_, fun off hn => (State.syncFeeds_keeps _ off hn).trans (hrd off),
    hmem.trans (State.syncFeeds_onlyRegs _).keepsMemory⟩
  rw [State.syncFeeds_ok hcan x.isLt, hin]
  rfl

end

/-! ### Overvoltage and converters (R501, R506) -/

section
variable {s : State}

theorem State.syncRc_f (s : State) {x : Fld} (h : x.off ∉ [R.RC_STAT, R.RC_SEQ, R.RC_FLASH_SEQ]) : s.syncRc.f x = s.f x := s.syncRc_keeps.f h

/-- A power-on shows the latched trip (R501). -/
theorem State.powerOn_trip (h : s.canonical) :
    s.powerOn.f F.PWR_EVT_OV_TRIP = (if s.clocks.ovLatch then 1 else 0) ∧ s.powerOn.clocks.ovLatch = s.clocks.ovLatch := by
  unfold State.powerOn
  extract_lets cls s1 clocks blk journal sec s2
  have hc1 : s1.canonical := (((((Kept.refl s).dropWork true).wipe cls).dropPool).dropLog).2 h
  clear_value s1
  have hc2 : Map.rising s2.regs = true := hc1.rising
  have hl : s2.clocks.ovLatch = s.clocks.ovLatch := rfl
  clear_value s2
  refine ⟨?_, ?_⟩
  · rw [State.syncRc_f _ (by decide), hl]
    unfold State.setB
    rw [State.f_setF_same hc2 _ _ (by decide)]
    cases s.clocks.ovLatch <;> rfl
  · rw [State.syncRc_clocks]
    exact hl

/-- The trip latched in the hot-swap controller. -/
def State.latched (s : State) : State := s.updClk (fun c => { c with ovLatch := true })

theorem exec_ovTrip (s : State) : exec .ovTrip s = .next (if s.clocks.off then s.latched else s.latched.powerOff) := rfl

theorem State.switchesOpen_evt (u : State) (x : Fld) :
    ((u.updClk (fun c => { c with off := true })).emit (.modPwrok false)).f x = u.f x ∧
    ((u.updClk (fun c => { c with off := true })).emit (.modPwrok false)).clocks.ovLatch = u.clocks.ovLatch := ⟨rfl, rfl⟩

/-- An overvoltage trip turns the module off (R501). -/
theorem ovTrip_off (h : s.canonical) (ho : s.clocks.off = false) :
    ∃ t : State, exec .ovTrip s = .next t ∧ t.clocks.off = true ∧ t.clocks.ovLatch = true ∧ t.out.head? = some (.modPwrok false) ∧ t.dram = [] ∧
      t.pool.regions = [] ∧ t.f F.PWR_EVT_OV_TRIP = 1 := by
  have hcan : s.latched.canonical := h
  have hlatch : s.latched.clocks.ovLatch = true := rfl
  obtain ⟨hoff, hdram, -, hpool, hout⟩ := s.latched.powerOff_spec
  obtain ⟨hevt, hl⟩ := State.powerOn_trip hcan
  obtain ⟨hf, hl2⟩ := s.latched.powerOn.switchesOpen_evt F.PWR_EVT_OV_TRIP
  refine ⟨s.latched.powerOff, by rw [exec_ovTrip, ho]; rfl, hoff, ?_, hout, hdram, hpool, ?_⟩
  · exact hl2.trans (hl.trans hlatch)
  · exact hf.trans (hevt.trans (by rw [hlatch]; rfl))

theorem State.suppliesRise_regs (u : State) (a b : Bool) : (u.suppliesRise a b).regs = u.regs := rfl

/-- OV_RECOVERY starts the module as a power-on does; OV_TRIP reads the latch (R501). -/
theorem ovRecovery_spec (h : s.canonical) (a b : Bool) (ho : s.clocks.off = true) (hl : s.clocks.ovLatch = true) :
    ∃ t : State, exec (.ovRecovery a b) s = .next t ∧ t.clocks.off = false ∧ t.clocks.ovLatch = false ∧
      t.clocks.phase = 0 ∧ t.f F.PWR_EVT_OV_TRIP = 1 ∧ t.power.feedLost = (if a then [] else [0]) ++ (if b then [] else [1]) := by
  have hexec : exec (.ovRecovery a b) s = .next (s.powerOn.suppliesRise a b) := if_neg (by simp [ho, hl])
  obtain ⟨-, -, hphase, hoff, -, -, -⟩ := s.powerOn_spec
  have hclk := s.powerOn.suppliesRise_clocks a b
  have hf : (s.powerOn.suppliesRise a b).f F.PWR_EVT_OV_TRIP = s.powerOn.f F.PWR_EVT_OV_TRIP :=
    State.f_of_regs (s.powerOn.suppliesRise_regs a b) _
  refine ⟨_, hexec, by rw [hclk]; exact hoff, by rw [hclk], by rw [hclk]; exact hphase, ?_, s.powerOn.suppliesRise_power a b⟩
  rw [hf, (State.powerOn_trip h).1, hl]
  rfl

/-- A converter shown as failed (R506). -/
def State.convDown (s : State) (k : Nat) : State := (s.updPow (fun p => { p with convFail := p.convFail ++ [k] })).setB F.PWR_EVT_CONV_FAIL true

theorem converterFail_spec (h : s.canonical) (ho : s.clocks.off = false) (k : Fin 4) (hk : s.power.convFail.contains k.val = false) :
    ∃ t : State, t.f F.PWR_EVT_CONV_FAIL = 1 ∧ t.f F.PWR_STAT_CEIL_W ≤ 2154 ∧
      t.power.convFail = s.power.convFail ++ [k.val] ∧ t.f F.PWR_EVT_FAST_STEP = 1 ∧
      exec (.converterFail k) s = .next (match s.power.convFail.length with
        | 0 => t.assertModule 3 0 true
        | 1 => t.assertModule 4 0 true
        | _ => t) := by
  have hc : (s.convDown k.val).canonical := State.setF_canonical (s := s.updPow _) h _ _
  have hcan : (s.convDown k.val).syncFeeds.canonical := ((Kept.refl _).syncFeeds).2 hc
  have hconv : (s.convDown k.val).power.convFail = s.power.convFail ++ [k.val] := rfl
  have hpow : (s.convDown k.val).syncFeeds.power = (s.convDown k.val).power := by rw [(State.syncFeeds_onlyRegs _).eq]
  have hexec : exec (.converterFail k) s = .next (match s.power.convFail.length with
        | 0 => (s.convDown k.val).syncFeeds.fastStep.assertModule 3 0 true
        | 1 => (s.convDown k.val).syncFeeds.fastStep.assertModule 4 0 true
        | _ => (s.convDown k.val).syncFeeds.fastStep) := if_neg (by simpa [ho] using hk)
  refine ⟨(s.convDown k.val).syncFeeds.fastStep, ?_, ?_, ?_, State.fastStep_event hcan, hexec⟩
  · rw [State.fastStep_f hcan (by decide) (by decide) (by decide) (by decide), (State.syncFeeds_keeps _).f (by decide)]
    exact State.f_setB_same (s := s.updPow _) h _ true (by decide) rfl
  · rw [State.fastStep_f hcan (by decide) (by decide) (by decide) (by decide)]
    refine State.syncFeeds_ceil hc (c := (2154, 3)) ?_
    simp [State.ceilings, hconv]
  · rw [State.fastStep_power, hpow, hconv]

end

/-! ### The ceiling loop (R508) -/

section
variable {s : State}

theorem foldl_max (l : List Nat) (m : Nat) : m ≤ l.foldl max m ∧ ∀ b, m < b → (∀ x ∈ l, x < b) → l.foldl max m < b := by
  induction l generalizing m with
  | nil => exact ⟨Nat.le_refl m, fun b hm _ => hm⟩
  | cons a l ih =>
    obtain ⟨h1, h2⟩ := ih (max m a)
    exact ⟨(Nat.le_max_left m a).trans h1, fun b hm hl => h2 b (Nat.max_lt.2 ⟨hm, hl a List.mem_cons_self⟩) fun x hx => hl x (List.mem_cons_of_mem a hx)⟩

/-- The samples of the last second with a new one. -/
def State.newPeaks (s : State) (pin : Nat) : List (Nat × Nat) := (s.bell, pin / 10) :: s.power.peaks.filter (fun e => decide (s.bell < e.1 + 1000000))

/-- What the sensors show. -/
def State.sampleFields (s : State) (va ia vb ib pin vbus pbus : Nat) : List (Fld × Nat) :=
  [(F.PWR_VIN_A_VIN, va), (F.PWR_VIN_A_IIN, ia), (F.PWR_VIN_B_VIN, vb), (F.PWR_VIN_B_IIN, ib),
    (F.PWR_IN_PIN, pin), (F.PWR_IN_PEAK_W, ((s.newPeaks pin).map (·.2)).foldl max 0), (F.PWR_BUS_VBUS, vbus), (F.PWR_BUS_PBUS, pbus)]

theorem State.powerSample_eq (s : State) (va ia vb ib pin vbus pbus : Nat) : s.powerSample va ia vb ib pin vbus pbus =
    (s.updPow (fun p => { p with peaks := s.newPeaks pin })).setFs (s.sampleFields va ia vb ib pin vbus pbus) := rfl

/-- The fields of the samples read as sampled. -/
theorem State.powerSample_fields (h : s.canonical) (va ia vb ib pin vbus pbus : Nat) :
    let b := s.powerSample va ia vb ib pin vbus pbus
    b.f F.PWR_VIN_A_VIN = va % 2 ^ 16 ∧ b.f F.PWR_VIN_B_IIN = ib % 2 ^ 16 ∧ b.f F.PWR_IN_PIN = pin % 2 ^ 16 ∧
    b.f F.PWR_IN_PEAK_W = ((s.newPeaks pin).map (·.2)).foldl max 0 % 2 ^ 16 ∧ b.f F.PWR_BUS_PBUS = pbus % 2 ^ 16 := by
  have hc : (s.updPow (fun p => { p with peaks := s.newPeaks pin })).canonical := h
  rw [State.powerSample_eq]
  generalize s.updPow (fun p => { p with peaks := s.newPeaks pin }) = u at hc
  generalize hm : ((s.newPeaks pin).map (·.2)).foldl max 0 = m
  unfold State.sampleFields
  rw [hm]
  refine ⟨State.f_setFs_at hc _ 0 rfl (by decide) ?_, State.f_setFs_at hc _ 3 rfl (by decide) ?_, State.f_setFs_at hc _ 4 rfl (by decide) ?_,
    State.f_setFs_at hc _ 5 rfl (by decide) ?_, State.f_setFs_at hc _ 7 rfl (by decide) ?_⟩
  all_goals simp [Fld.apart, F.PWR_VIN_A_VIN, F.PWR_VIN_A_IIN, F.PWR_VIN_B_VIN, F.PWR_VIN_B_IIN, F.PWR_IN_PIN, F.PWR_IN_PEAK_W, F.PWR_BUS_VBUS,
    F.PWR_BUS_PBUS, R.PWR_VIN_A, R.PWR_VIN_B, R.PWR_IN, R.PWR_BUS]

/-- The greatest sample of the last second is at least the new one. -/
theorem State.newPeaks_max (s : State) (pin : Nat) (hp : pin < 65536) (hs : ∀ e ∈ s.power.peaks, e.2 < 65536) :
    pin / 10 ≤ ((s.newPeaks pin).map (·.2)).foldl max 0 % 2 ^ 16 := by
  have hcons : ((s.newPeaks pin).map (·.2)).foldl max 0 =
      ((s.power.peaks.filter (fun e => decide (s.bell < e.1 + 1000000))).map (·.2)).foldl max (pin / 10) := by
    simp [State.newPeaks]
  obtain ⟨hle, hlt⟩ := foldl_max ((s.power.peaks.filter (fun e => decide (s.bell < e.1 + 1000000))).map (·.2)) (pin / 10)
  have hb := hlt 65536 (by omega) fun x hx => by
    obtain ⟨e, he, rfl⟩ := List.mem_map.1 hx
    exact hs e (List.mem_of_mem_filter he)
  rw [hcons]
  omega

/-- A tick of the loop shows the samples and the ceiling, then takes a step (R508). -/
theorem ceilingLoopTick_spec (h : s.canonical) (va ia vb ib pin vbus pbus : BitVec 16) (h3 : 3 ≤ s.clocks.phase) (ht : s.clocks.tripped = false)
    (ho : s.clocks.off = false) :
    ∃ b : State, b.f F.PWR_IN_PIN = pin.toNat ∧ b.f F.PWR_VIN_A_VIN = va.toNat ∧ b.f F.PWR_VIN_B_IIN = ib.toNat ∧ b.f F.PWR_BUS_PBUS = pbus.toNat ∧
      ((∀ e ∈ s.power.peaks, e.2 < 65536) → pin.toNat / 10 ≤ b.f F.PWR_IN_PEAK_W) ∧ b.f F.PWR_STAT_CEIL_W ≤ s.maxInput ∧
      b.power.steps = s.power.steps ∧ b.bell = s.bell ∧
      exec (.ceilingLoopTick va ia vb ib pin vbus pbus) s = .next (b.ceilingStep pin.toNat) := by
  have hexec : exec (.ceilingLoopTick va ia vb ib pin vbus pbus) s =
      .next (((s.powerSample va.toNat ia.toNat vb.toNat ib.toNat pin.toNat vbus.toNat pbus.toNat).updCeil).ceilingStep pin.toNat) :=
    if_neg (by simp [ht, ho]; omega)
  have hc : (s.powerSample va.toNat ia.toNat vb.toNat ib.toNat pin.toNat vbus.toNat pbus.toNat).canonical :=
    State.setFs_canonical (s := s.updPow (fun p => { p with peaks := s.newPeaks pin.toNat })) h _
  obtain ⟨f1, f2, f3, f4, f5⟩ := State.powerSample_fields h va.toNat ia.toNat vb.toNat ib.toNat pin.toNat vbus.toNat pbus.toNat
  have hsame : (s.powerSample va.toNat ia.toNat vb.toNat ib.toNat pin.toNat vbus.toNat pbus.toNat) = { s with
      regs := (s.powerSample va.toNat ia.toNat vb.toNat ib.toNat pin.toNat vbus.toNat pbus.toNat).regs,
      power := { s.power with peaks := s.newPeaks pin.toNat } } :=
    ((State.onlyRegs.refl (s.updPow (fun p => { p with peaks := s.newPeaks pin.toNat }))).setFs _).eq
  generalize s.powerSample va.toNat ia.toNat vb.toNat ib.toNat pin.toNat vbus.toNat pbus.toNat = b at *
  have hmax : b.maxInput = s.maxInput := by
    unfold State.maxInput
    rw [hsame]
  have heq := (b.updCeil_onlyRegs).eq
  refine ⟨b.updCeil, ?_, ?_, ?_, ?_, fun hs => ?_, hmax ▸ (State.updCeil_ceil hc).1, by rw [heq, hsame], by rw [heq, hsame], hexec⟩
  · rw [State.updCeil_f hc (by decide) (by decide), f3]
    exact Nat.mod_eq_of_lt pin.isLt
  · rw [State.updCeil_f hc (by decide) (by decide), f1]
    exact Nat.mod_eq_of_lt va.isLt
  · rw [State.updCeil_f hc (by decide) (by decide), f2]
    exact Nat.mod_eq_of_lt ib.isLt
  · rw [State.updCeil_f hc (by decide) (by decide), f5]
    exact Nat.mod_eq_of_lt pbus.isLt
  · rw [State.updCeil_f hc (by decide) (by decide), f4]
    exact s.newPeaks_max pin.toNat pin.isLt hs

end

/-! ### One run of the ceiling loop (R508) -/

section
variable {s : State} {pin : Nat}

/-- Above the ceiling the engine's duty steps first (R508). -/
theorem State.ceilingStep_engine (hp : 10 * s.f F.PWR_STAT_CEIL_W < pin) (h0 : s.power.steps.countP (fun k => k == 0) < 6) :
    s.ceilingStep pin = (s.updPow (fun p => { p with underAt := none })).applySteps (0 :: s.power.steps) := by
  simp only [State.ceilingStep, if_pos hp, if_pos h0]

theorem State.ceilingStep_crown (hp : 10 * s.f F.PWR_STAT_CEIL_W < pin) (h0 : 6 ≤ s.power.steps.countP (fun k => k == 0))
    (h1 : s.power.steps.countP (fun k => k == 1) < 6) :
    s.ceilingStep pin = (s.updPow (fun p => { p with underAt := none })).applySteps (1 :: s.power.steps) := by
  simp only [State.ceilingStep, if_pos hp, if_neg (Nat.not_lt.2 h0), if_pos h1]

/-- At or below the ceiling, CAP_UNMET clear (R508). -/
def State.capMet (s : State) : State := s.setB F.PWR_STAT_CAP_UNMET false

/-- Between the undo threshold and the ceiling the loop holds (R508). -/
theorem State.ceilingStep_holds (hp : pin ≤ 10 * s.f F.PWR_STAT_CEIL_W) (hu : 10 * s.f F.PWR_STAT_CEIL_W < pin + 10 * s.f F.PWR_CTL_HYST_W) :
    s.ceilingStep pin = s.capMet.updPow (fun p => { p with underAt := none }) := by
  simp only [State.ceilingStep, if_neg (Nat.not_lt.2 hp), if_neg (Nat.not_le.2 hu)]
  rfl

/-- At or below the undo threshold the loop waits 10 ms, then undoes the newest step (R508). -/
theorem State.ceilingStep_under (hp : pin + 10 * s.f F.PWR_CTL_HYST_W ≤ 10 * s.f F.PWR_STAT_CEIL_W) :
    s.ceilingStep pin = if s.bell < s.power.underAt.getD s.bell + 10000 then s.capMet.updPow (fun p => { p with underAt := some (s.power.underAt.getD s.bell) })
      else match s.power.steps with
        | [] => s.capMet.updPow (fun p => { p with underAt := some (s.power.underAt.getD s.bell) })
        | _ :: rest => (s.capMet.applySteps rest).updPow (fun p => { p with underAt := some s.bell }) := by
  have hle : pin ≤ 10 * s.f F.PWR_STAT_CEIL_W := by omega
  simp only [State.ceilingStep, if_neg (Nat.not_lt.2 hle), if_pos hp]
  rfl

/-- A run of the loop at or below the ceiling leaves CAP_UNMET clear (R508). -/
theorem State.ceilingStep_met (h : s.canonical) (hp : pin ≤ 10 * s.f F.PWR_STAT_CEIL_W) : (s.ceilingStep pin).f F.PWR_STAT_CAP_UNMET = 0 := by
  have hc : s.capMet.canonical := State.setF_canonical h _ _
  have hf : s.capMet.f F.PWR_STAT_CAP_UNMET = 0 := State.f_setB_same h _ false (by decide) rfl
  by_cases hu : pin + 10 * s.f F.PWR_CTL_HYST_W ≤ 10 * s.f F.PWR_STAT_CEIL_W
  · rw [State.ceilingStep_under hu]
    split
    · exact hf
    · split
      · exact hf
      · next rest _ => exact (State.f_of_regs (State.updPow_regs _ _) _).trans ((State.applySteps_f hc rest (by decide) (by decide) (by decide)).trans hf)
  · rw [State.ceilingStep_holds hp (Nat.lt_of_not_le hu)]
    exact hf

/-- A step taken counts in PWR_STAT. -/
theorem State.stepTaken (h : s.canonical) (steps : List Nat) :
    ((s.updPow (fun p => { p with underAt := none })).applySteps steps).power.steps = steps ∧
    ((s.updPow (fun p => { p with underAt := none })).applySteps steps).f F.PWR_STAT_OME_STEP = steps.countP (fun x => x == 0) % 8 ∧
    ((s.updPow (fun p => { p with underAt := none })).applySteps steps).f F.PWR_STAT_CROWN_STEP = steps.countP (fun x => x == 1) % 8 := by
  have hc : (s.updPow (fun p => { p with underAt := none })).canonical := h
  exact ⟨by rw [State.applySteps_power], State.applySteps_counts hc steps⟩

theorem State.ceilingStep_spec (h : s.canonical) (pin : Nat) :
    let n0 := s.power.steps.countP (fun k => k == 0)
    let n1 := s.power.steps.countP (fun k => k == 1)
    let t := s.ceilingStep pin
    let ceil := 10 * s.f F.PWR_STAT_CEIL_W
    (ceil < pin → n0 < 6 → t.power.steps = 0 :: s.power.steps ∧ t.f F.PWR_STAT_OME_STEP = n0 + 1) ∧
    (ceil < pin → 6 ≤ n0 → n1 < 6 → t.power.steps = 1 :: s.power.steps ∧ t.f F.PWR_STAT_CROWN_STEP = n1 + 1) ∧
    (pin ≤ ceil → t.f F.PWR_STAT_CAP_UNMET = 0) ∧
    (pin ≤ ceil → ceil < pin + 10 * s.f F.PWR_CTL_HYST_W → t.power = { s.power with underAt := none }) ∧
    (pin + 10 * s.f F.PWR_CTL_HYST_W ≤ ceil →
      (s.power.underAt = none → t.power = { s.power with underAt := some s.bell }) ∧
      (∀ (since k : Nat) (rest : List Nat), s.power.underAt = some since → since + 10000 ≤ s.bell → s.power.steps = k :: rest →
        t.power.steps = rest ∧ t.power.underAt = some s.bell)) := by
  intro n0 n1 t ceil
  refine ⟨fun hp h0 => ?_, fun hp h0 h1 => ?_, State.ceilingStep_met h, fun hp hu => ?_, fun hp => ⟨fun hn => ?_, fun since k rest hs hb hst => ?_⟩⟩
  · obtain ⟨hsteps, hn, -⟩ := State.stepTaken h (0 :: s.power.steps)
    rw [show t = _ from State.ceilingStep_engine hp h0]
    refine ⟨hsteps, hn.trans ?_⟩
    rw [List.countP_cons_of_pos (by rfl)]
    exact Nat.mod_eq_of_lt (by omega)
  · obtain ⟨hsteps, -, hn⟩ := State.stepTaken h (1 :: s.power.steps)
    rw [show t = _ from State.ceilingStep_crown hp h0 h1]
    refine ⟨hsteps, hn.trans ?_⟩
    rw [List.countP_cons_of_pos (by rfl)]
    exact Nat.mod_eq_of_lt (by omega)
  · rw [show t = _ from State.ceilingStep_holds hp hu]
    rfl
  · rw [show t = _ from State.ceilingStep_under hp, hn, if_pos (by simp)]
    rfl
  · rw [show t = _ from State.ceilingStep_under hp, hs, hst, Option.getD_some, if_neg (Nat.not_lt.2 hb)]
    have hpow : (s.capMet.applySteps rest).power.steps = rest := by rw [State.applySteps_power]
    exact ⟨hpow, rfl⟩

end

/-! ### The power commands (R513) -/

section
variable {s : State} {p : Packet} {o : Nat}

theorem State.maxInput_lt (s : State) : s.maxInput < 4096 := by
  unfold State.maxInput
  split <;> decide

/-- A field inserted in a register that is stored. -/
theorem State.f_wr_ins (h : s.canonical) (x y : Fld) (w : Word) (v : Nat) (hoff : y.off = x.off) :
    (s.wr x.off (x.ins w v)).f y = y.ext (x.ins w v) := by
  unfold State.f
  rw [hoff, State.rd_wr_same h.rising]

/-- PWR_CTL with the cap that a PWR_CAP_SET gives. -/
def State.capSet (b : State) (p : Packet) : Word := F.PWR_CTL_CAP_W.ins (b.rd R.PWR_CTL) (p.w 0)

theorem pwrCapSet_spec (h : s.canonical) (ha : s.accepts pwrCapSetDef p o) :
    let b := s.begun p
    ∃ (u : State) (ch : List JChange), exec (.pwrCapSet p) s = .next (u.conclude 0xB20 o true p stOk 0 [] ch (undoOf b u)) ∧
      u.f F.PWR_CTL_CAP_W = p.w 0 ∧ u.f F.PWR_STAT_CEIL_W ≤ p.w 0 ∧ (ch = [] ↔ b.rd R.PWR_CTL = u.rd R.PWR_CTL) ∧ b.keepsRegs u [R.PWR_CTL, R.PWR_STAT] := by
  intro b
  have hb : b.canonical := State.begun_canonical h p
  have hlt : p.w 0 < 2 ^ 12 := by
    have hpar := State.verdict_par ha.2
    have hmax := s.maxInput_lt
    by_contra hn
    have hgt : s.maxInput < p.w 0 := by omega
    simp [pwrCapSetDef, hgt] at hpar
  have hc : (b.wr R.PWR_CTL (b.capSet p)).canonical := State.wr_canonical hb _ _
  have hcap : (b.wr R.PWR_CTL (b.capSet p)).f F.PWR_CTL_CAP_W = p.w 0 := by
    rw [show R.PWR_CTL = F.PWR_CTL_CAP_W.off from rfl, State.capSet, State.f_wr_ins hb _ _ _ _ rfl, Fld.ext_ins _ _ _ (by decide)]
    exact Nat.mod_eq_of_lt hlt
  have hkeep := State.updCeil_keeps (b.wr R.PWR_CTL (b.capSet p))
  have hctl : (b.wr R.PWR_CTL (b.capSet p)).updCeil.rd R.PWR_CTL = b.capSet p := (hkeep _ (by decide)).trans (State.rd_wr_same hb.rising ..)
  have hexec : exec (.pwrCapSet p) s = .next ((b.wr R.PWR_CTL (b.capSet p)).updCeil.conclude 0xB20 o true p stOk 0 []
      (if b.rd R.PWR_CTL = b.capSet p then [] else [regChange R.PWR_CTL (b.rd R.PWR_CTL) (b.capSet p)])
      (undoOf b (b.wr R.PWR_CTL (b.capSet p)).updCeil)) := by
    rw [exec_command rfl (by decide), runCmd_accepted ha]
    rfl
  refine ⟨_, _, hexec, ?_, ?_, ?_, fun off hn => ?_⟩
  · exact (State.updCeil_f hc (.inl (by decide)) (.inl (by decide))).trans hcap
  · exact (State.updCeil_ceil hc).2 (p.w 0, 0) (by rw [← hcap]; simp [State.ceilings])
  · rw [hctl]
    split <;> simp_all
  · simp only [List.mem_cons, List.not_mem_nil, or_false, not_or] at hn
    exact (hkeep off (by simpa using hn.2)).trans (State.rd_wr_ne hn.1 _)

/-- PWR_CTL and PWR_POLICY with the policy that a PWR_POLICY_SET gives. -/
def State.policyCtl (b : State) (p : Packet) : Word := F.PWR_CTL_POLICY_EN.ins (b.rd R.PWR_CTL) (p.w 0)

def State.policyIdles (b : State) (p : Packet) : Word := F.PWR_POLICY_D2_IDLE.ins (F.PWR_POLICY_D1_IDLE.ins (b.rd R.PWR_POLICY) (p.w 1)) (p.w 2)

theorem pwrPolicySet_spec (h : s.canonical) (ha : s.accepts pwrPolicySetDef p o) :
    let b := s.begun p
    ∃ (u : State) (ch : List JChange), exec (.pwrPolicySet p) s = .next (u.conclude 0xB21 o true p stOk 0 [] ch (undoOf b u)) ∧
      u.f F.PWR_CTL_POLICY_EN = p.w 0 ∧ u.f F.PWR_POLICY_D1_IDLE = p.w 1 ∧ u.f F.PWR_POLICY_D2_IDLE = p.w 2 ∧ b.keepsRegs u [R.PWR_CTL, R.PWR_POLICY] := by
  intro b
  have hb : b.canonical := State.begun_canonical h p
  have hpar := State.verdict_par ha.2
  have h0 : p.w 0 < 2 := by
    by_contra hn
    simp [pwrPolicySetDef, show 1 < p.w 0 by omega] at hpar
  have h1 : p.w 1 < 2 ^ 16 := by
    by_contra hn
    simp [pwrPolicySetDef, Nat.not_lt.2 (Nat.le_of_lt_succ h0), show 65535 < p.w 1 by omega] at hpar
  have h2 : p.w 2 < 2 ^ 16 := by
    by_contra hn
    simp only [pwrPolicySetDef, show 65535 < p.w 2 by omega, if_true] at hpar
    split at hpar
    · cases hpar
    · split at hpar <;> cases hpar
  have hc := State.wr_canonical hb R.PWR_CTL (b.policyCtl p)
  have hexec : exec (.pwrPolicySet p) s = .next (((b.wr R.PWR_CTL (b.policyCtl p)).wr R.PWR_POLICY (b.policyIdles p)).conclude 0xB21 o true p stOk 0 []
      ((if b.rd R.PWR_CTL = b.policyCtl p then [] else [regChange R.PWR_CTL (b.rd R.PWR_CTL) (b.policyCtl p)]) ++
        (if b.rd R.PWR_POLICY = b.policyIdles p then [] else [regChange R.PWR_POLICY (b.rd R.PWR_POLICY) (b.policyIdles p)]))
      (undoOf b ((b.wr R.PWR_CTL (b.policyCtl p)).wr R.PWR_POLICY (b.policyIdles p)))) := by
    rw [exec_command rfl (by decide), runCmd_accepted ha]
    rfl
  have hpol : ((b.wr R.PWR_CTL (b.policyCtl p)).wr R.PWR_POLICY (b.policyIdles p)).rd R.PWR_POLICY = b.policyIdles p := State.rd_wr_same hc.rising ..
  have hctl : ((b.wr R.PWR_CTL (b.policyCtl p)).wr R.PWR_POLICY (b.policyIdles p)).rd R.PWR_CTL = b.policyCtl p :=
    (State.rd_wr_ne (by decide) _).trans (State.rd_wr_same hb.rising ..)
  refine ⟨_, _, hexec, ?_, ?_, ?_, fun off hn => ?_⟩
  · refine (congrArg F.PWR_CTL_POLICY_EN.ext hctl).trans ?_
    rw [State.policyCtl, Fld.ext_ins _ _ _ (by decide)]
    exact Nat.mod_eq_of_lt h0
  · refine (congrArg F.PWR_POLICY_D1_IDLE.ext hpol).trans ?_
    rw [State.policyIdles, Fld.ext_ins_ne _ _ _ _ (by decide), Fld.ext_ins _ _ _ (by decide)]
    exact Nat.mod_eq_of_lt h1
  · refine (congrArg F.PWR_POLICY_D2_IDLE.ext hpol).trans ?_
    rw [State.policyIdles, Fld.ext_ins _ _ _ (by decide)]
    exact Nat.mod_eq_of_lt h2
  · simp only [List.mem_cons, List.not_mem_nil, or_false, not_or] at hn
    exact (State.rd_wr_ne hn.2 _).trans (State.rd_wr_ne hn.1 _)

theorem pwrQuery_answers (ha : s.accepts pwrQueryDef p o) :
    let b := s.begun p
    exec (.pwrQuery p) s = .next (b.replies p
      ([R.PWR_STAT, R.PWR_IN, R.PWR_VIN_A, R.PWR_VIN_B, R.PWR_BUS, R.PWR_CTL, R.PWR_POLICY, R.PWR_EVT].flatMap (fun off => leBytes 4 (b.rd off).toNat))) := by
  intro b
  rw [exec_command rfl (by decide), runCmd_accepted ha]
  exact congrArg Host.Outcome.next (b.conclude_plain rfl ⟨by decide, by decide⟩)

end

end Sys2Proof.Machine

open Sys2Proof Sys2Proof.Machine

/-- Settles O53: what each event of the power input shows and does, each run of the ceiling loop, and what the commands store and answer. -/
theorem powerInput : Obligations.PowerInput := by
  unfold Obligations.PowerInput
  refine ⟨fun x s h ho h0 h1 => ⟨fun hb hother => bladeBreaker_spec h x ho h0 h1 hb hother, fun hb hother => feedLost_spec h x ho hb hother,
      fun hother => ⟨fun hb => ?_, fun hb => ?_⟩, feedReturn_spec h x ho⟩,
    fun s h => ⟨fun ho => by rw [exec_ovTrip, if_pos ho]; rfl, ovTrip_off h, fun a b => ovRecovery_spec h a b,
      fun ho => ⟨if_neg (by simp [ho]), fun k hk => converterFail_spec h ho k hk⟩⟩,
    fun va ia vb ib pin vbus pbus s h => ⟨fun hq => if_pos ?_, ceilingLoopTick_spec h va ia vb ib pin vbus pbus⟩,
    fun pin s h => State.ceilingStep_spec h pin, fun p s o h => ⟨pwrCapSet_spec h, pwrPolicySet_spec h, pwrQuery_answers⟩⟩
  · obtain ⟨hout, hrest⟩ := s.breakerOpen_out x.isLt
    exact ⟨_, exec_bladeBreaker x ho hb, bladeEvent_both x.isLt hout (hrest.trans hother)⟩
  · obtain ⟨hout, hrest⟩ := s.feedDown_out x.isLt
    exact ⟨_, exec_feedLost x ho hb, bladeEvent_both x.isLt hout (hrest.trans hother)⟩
  · rcases hq with hq | hq | hq <;> simp [hq]

end

section
/-! SUPPORT. Blocking runs: how channels are queued, how a Crown run starts and ends, and the commands (R343 to R360). -/

namespace Sys2Proof.Machine

/-! ### Blocking steps leave the registers that they do not write -/

section
variable {P : Nat → Prop} {z s : State} {t : Nat}

theorem Leaves.syncBlk_of (h : Leaves P z s) (hn : ¬ P (R.BLK_STAT t)) : Leaves P z (s.syncBlk t) :=
  h.setFs _ (by simp [F.BLK_STAT_BUSY, F.BLK_STAT_QUEUED, F.BLK_STAT_TRACE, hn])

theorem Leaves.passBoundary (h : Leaves P z s) (hsub : ¬ P (R.OME_SUB t)) (hstat : ¬ P (R.OME_STAT t)) (hreacq : ¬ P (R.OME_CNT_REACQ t)) :
    Leaves P z (s.passBoundary t) := by
  have happly : ∀ c : SubChange, ∀ u, Leaves P z u → Leaves P z (u.applySub t c) := by
    intro c u hu
    unfold State.applySub
    split
    · exact hu.setFs _ (by simp [F.OME_SUB_SUBROW_A, F.OME_SUB_USE_A, hsub])
    · exact hu.setFs _ (by simp [F.OME_SUB_SUBROW_B, F.OME_SUB_USE_B, hsub])
    · exact hu.setFs _ (by simp [F.OME_SUB_SUBLINE, F.OME_SUB_USE_LINE, hsub])
  unfold State.passBoundary
  dsimp only
  split
  · exact h
  · have h1 := (h.each (s.ome t).subs (fun s c => s.applySub t c) fun c _ u hu => happly c u hu).updOme t (fun o => { o with subs := [] })
    split
    · exact (h1.setFs _ (by simp [F.OME_STAT_STATE, F.OME_STAT_PILOT_LOCK, hstat])).updOme t _
    · split
      · exact ((h1.setFs _ (by simp [F.OME_STAT_STATE, F.OME_STAT_PILOT_LOCK, hstat])).bump (x := F.OME_CNT_REACQ t) hreacq 1).updOme t _
      · split
        · exact (h1.setF (x := F.OME_STAT_STATE t) hstat 7).updOme t _
        · exact h1

theorem Leaves.updPh (h : Leaves P z s) (k : Nat) (g : Photo → Photo) : Leaves P z (s.updPh k g) := h.same rfl rfl rfl rfl

theorem Leaves.fresh (h : Leaves P z s) : Leaves P z s.fresh.2 := h.same rfl rfl rfl rfl

theorem Leaves.recentre (h : Leaves P z s) (hr : ¬ P (R.RING_SUM t)) (c : Nat) : Leaves P z (s.recentre t c) := by
  unfold State.recentre
  split
  · unfold State.syncHeads
    split
    · exact (h.updPh t _).fresh.setFs _ (by simp [F.RING_SUM_MIN_HEAD, F.RING_SUM_HEADROOM_LOW, hr])
    · exact (h.updPh t _).setFs _ (by simp [F.RING_SUM_MIN_HEAD, F.RING_SUM_HEADROOM_LOW, hr])
  · exact h

/-- Notices write only what any record of a fault may write (R414). -/
theorem Leaves.note_of (h : Leaves P z s) (hP : ∀ off, P off → ¬ assertReg off) (g : Nat) (e : RecEv) (sev source : Nat) (v : Int) :
    Leaves P z (s.note g e sev source v) :=
  h.faulted (Faulted.of_logged (fun _ ha => ha) (s.note_logged g e sev source v)) fun _ ha hp => hP _ hp (assertReg_of_log ha)

end

/-! ### The Blocking state through other chapters' steps -/

section
variable {s : State} {t : Nat}

theorem State.applySub_blk (s : State) (t : Nat) (c : SubChange) : (s.applySub t c).blk = s.blk := by
  unfold State.applySub
  split <;> exact State.setFs_blk ..

theorem State.passBoundary_blk (s : State) (t : Nat) : (s.passBoundary t).blk = s.blk := by
  have hone : ((s.each (s.ome t).subs (fun s c => s.applySub t c)).updOme t (fun o => { o with subs := [] })).blk = s.blk :=
    (State.updOme_blk ..).trans (State.each_keeps State.blk _ _ _ fun c u => u.applySub_blk t c)
  unfold State.passBoundary
  dsimp only
  generalize (s.each (s.ome t).subs (fun s c => s.applySub t c)).updOme t (fun o => { o with subs := [] }) = u at hone
  split
  · rfl
  · split
    · rw [State.updOme_blk, State.setFs_blk, hone]
    · split
      · rw [State.updOme_blk, State.bump_blk, State.setFs_blk, hone]
      · split
        · rw [State.updOme_blk, State.setF_blk, hone]
        · exact hone

theorem State.recentre_blk (s : State) (t c : Nat) : (s.recentre t c).blk = s.blk := by
  unfold State.recentre
  split
  · unfold State.syncHeads
    split <;> exact State.setFs_blk ..
  · rfl

theorem State.finish_blk (s : State) (id st det : Nat) (res : List Byte) (ch : List JChange) (un : Undo) :
    (s.finish id st det res ch un).blk = s.blk := rfl

end

/-! ### Queueing a channel (R343) -/

/-- A queue once channel `c` has been put in it: one entry, at the higher of its priorities. -/
def queuedWith (q : List BlkEntry) (c prio diff at_ : Nat) : List BlkEntry :=
  if q.any (fun e => e.chan == c) then q.map (fun e => if e.chan = c && prio < e.prio then { e with prio := prio, diff := diff } else e)
  else q ++ [{ chan := c, prio := prio, diff := diff, at_ := at_ }]

theorem mem_queuedWith (q : List BlkEntry) (c prio diff at_ : Nat) : ∃ e ∈ queuedWith q c prio diff at_, e.chan = c ∧ e.prio ≤ prio := by
  unfold queuedWith
  split
  · next h =>
    obtain ⟨e, he, hc⟩ := List.any_eq_true.1 h
    have hc : e.chan = c := by simpa using hc
    refine ⟨_, List.mem_map_of_mem he, ?_⟩
    split
    · exact ⟨hc, Nat.le_refl _⟩
    · next hn => exact ⟨hc, by simpa [hc] using hn⟩
  · exact ⟨_, List.mem_append_right _ (List.mem_singleton_self _), rfl, Nat.le_refl _⟩

theorem mem_queuedWith_ne {q : List BlkEntry} {c : Nat} {e : BlkEntry} (he : e ∈ q) (hc : e.chan ≠ c) (prio diff at_ : Nat) :
    e ∈ queuedWith q c prio diff at_ := by
  unfold queuedWith
  split
  · exact List.mem_map.2 ⟨e, he, by simp [hc]⟩
  · exact List.mem_append_left _ he

section
variable {s : State} {t c : Nat}

/-- A channel with a run under way is not queued again. -/
theorem State.queueChan_live (h : (s.bl t).runs.any (fun r => r.chan == c && r.phase != 2) = true) (prio diff : Nat) :
    s.queueChan t c prio diff = s := if_pos h

theorem State.queueChan_bl (hr : Map.rising s.blk = true) (h : (s.bl t).runs.any (fun r => r.chan == c && r.phase != 2) = false)
    (prio diff : Nat) : (s.queueChan t c prio diff).bl t = { s.bl t with queue := queuedWith (s.bl t).queue c prio diff s.bell } := by
  unfold State.queueChan
  dsimp only
  rw [if_neg (by rw [h]; decide), State.syncBlk_bl]
  split
  · next hq => rw [State.bl_updBl hr, queuedWith, if_pos hq]
  · next hq => rw [State.bl_updBl hr, queuedWith, if_neg hq]

/-- Without a run of the channel no run of it is under way. -/
theorem live_of_idle {l : List BlkRun} (h : l.any (fun r => r.chan == c) = false) : l.any (fun r => r.chan == c && r.phase != 2) = false := by
  rw [List.any_eq_false] at h ⊢
  intro r hr
  simp [h r hr]

/-- Queueing a channel is one change of the Blocking state, shown in BLK_STAT. -/
theorem State.queueChan_eq (s : State) (t c prio diff : Nat) :
    s.queueChan t c prio diff = s ∨ ∃ g, s.queueChan t c prio diff = (s.updBl t g).syncBlk t := by
  unfold State.queueChan
  dsimp only
  split
  · exact .inl rfl
  · split
    · exact .inr ⟨_, rfl⟩
    · exact .inr ⟨_, rfl⟩

theorem State.queueChan_rising (hr : Map.rising s.blk = true) (prio diff : Nat) : Map.rising (s.queueChan t c prio diff).blk = true := by
  obtain h | ⟨g, h⟩ := s.queueChan_eq t c prio diff <;> rw [h]
  · exact hr
  · rw [State.syncBlk_blk]
    exact State.updBl_rising hr t g

theorem State.queueChan_keeps (s : State) (t c prio diff : Nat) : s.keepsRegs (s.queueChan t c prio diff) [R.BLK_STAT t] := by
  obtain h | ⟨g, h⟩ := s.queueChan_eq t c prio diff <;> rw [h]
  · exact fun _ _ => rfl
  · exact (s.updBl t g).syncBlk_keeps t

theorem State.queueChan_leaves (s : State) (t c prio diff : Nat) : Leaves (fun _ => False) s (s.queueChan t c prio diff) := by
  obtain h | ⟨g, h⟩ := s.queueChan_eq t c prio diff <;> rw [h]
  · exact .refl _ s
  · exact ((Leaves.refl _ s).updBl t g).syncBlk_of id

theorem State.queueChan_proctor (s : State) (t c prio diff : Nat) : (s.queueChan t c prio diff).proctor = s.proctor := by
  obtain h | ⟨g, h⟩ := s.queueChan_eq t c prio diff <;> rw [h]
  exact (State.setFs_proctor ..).trans rfl

/-- Queueing changes nothing of a tile's Blocking state but the queue. -/
theorem State.queueChan_queue (hr : Map.rising s.blk = true) (prio diff : Nat) :
    ∃ q, (s.queueChan t c prio diff).bl t = { s.bl t with queue := q } := by
  cases h : (s.bl t).runs.any (fun r => r.chan == c && r.phase != 2) with
  | true => exact ⟨_, congrArg (fun u => u.bl t) (State.queueChan_live h prio diff)⟩
  | false => exact ⟨_, State.queueChan_bl hr h prio diff⟩

theorem State.queueChan_other (hr : Map.rising s.blk = true) (prio diff : Nat) {e : BlkEntry} (he : e ∈ (s.bl t).queue) (hc : e.chan ≠ c) :
    e ∈ ((s.queueChan t c prio diff).bl t).queue := by
  cases h : (s.bl t).runs.any (fun r => r.chan == c && r.phase != 2) with
  | true => rwa [State.queueChan_live h prio diff]
  | false =>
    rw [State.queueChan_bl hr h prio diff]
    exact mem_queuedWith_ne he hc ..

/-- Does a channel wait in its tile's queue, at this priority or a higher one? -/
def State.queuedAt (s : State) (t c prio : Nat) : Prop := ∃ e ∈ (s.bl t).queue, e.chan = c ∧ e.prio ≤ prio

theorem State.queueChan_queuedAt (hr : Map.rising s.blk = true) (h : (s.bl t).runs.any (fun r => r.chan == c) = false) (prio diff : Nat) :
    (s.queueChan t c prio diff).queuedAt t c prio := by
  rw [State.queuedAt, State.queueChan_bl hr (live_of_idle h) prio diff]
  exact mem_queuedWith ..

/-- What waits at a priority still does once a channel has been queued at that priority. -/
theorem State.queuedAt.queueChan {k prio : Nat} (h : s.queuedAt t k prio) (hr : Map.rising s.blk = true) (diff : Nat) :
    (s.queueChan t c prio diff).queuedAt t k prio := by
  obtain ⟨e, he, hk, hp⟩ := h
  cases hl : (s.bl t).runs.any (fun r => r.chan == c && r.phase != 2) with
  | true =>
    rw [State.queueChan_live hl prio diff]
    exact ⟨e, he, hk, hp⟩
  | false =>
    by_cases hc : k = c
    · subst hc
      rw [State.queuedAt, State.queueChan_bl hr hl prio diff]
      exact mem_queuedWith ..
    · exact ⟨e, State.queueChan_other hr prio diff he (by rw [hk]; exact hc), hk, hp⟩

end

/-! ### A temperature evaluation (R343, R344) -/

/-- What a trigger that queues channels of a tile leaves. -/
structure State.Queues (t : Nat) (s u : State) : Prop where
  rising : Map.rising u.blk = true
  queue : ∃ q, u.bl t = { s.bl t with queue := q }
  regs : s.keepsRegs u [R.BLK_STAT t]
  mem : s.keepsMemory u

section
variable {s u : State} {t : Nat}

theorem State.Queues.refl (h : Map.rising s.blk = true) : s.Queues t s := ⟨h, ⟨_, rfl⟩, fun _ _ => rfl, fun _ => ⟨rfl, rfl, rfl⟩⟩

theorem State.Queues.queueChan (h : s.Queues t u) (c prio diff : Nat) : s.Queues t (u.queueChan t c prio diff) := by
  obtain ⟨hr, ⟨q, hq⟩, hregs, hmem⟩ := h
  obtain ⟨q', hq'⟩ := State.queueChan_queue (c := c) (t := t) hr prio diff
  exact ⟨State.queueChan_rising hr prio diff, ⟨q', by rw [hq', hq]⟩, hregs.trans (u.queueChan_keeps t c prio diff),
    hmem.trans (u.queueChan_leaves t c prio diff).keepsMemory⟩

/-- A trigger that goes through a list of channels queues those that it names and that have no run. -/
theorem State.each_queues {l : List Nat} {f : State → Nat → State} {named : Nat → Prop} {prio : Nat} (diff : Nat → Nat)
    (hyes : ∀ c v, named c → f v c = v.queueChan t c prio (diff c)) (hno : ∀ c v, ¬ named c → f v c = v) (h : s.Queues t u) :
    s.Queues t (u.each l f) ∧ (∀ k, u.queuedAt t k prio → (u.each l f).queuedAt t k prio) ∧
      ∀ c ∈ l, named c → (s.bl t).runs.any (fun r => r.chan == c) = false → (u.each l f).queuedAt t c prio := by
  unfold State.each
  induction l generalizing u with
  | nil => exact ⟨h, fun _ hk => hk, by simp⟩
  | cons a l ih =>
    by_cases ha : named a
    · obtain ⟨h1, h2, h3⟩ := ih (h.queueChan a prio (diff a))
      rw [List.foldl_cons, hyes a u ha]
      refine ⟨h1, fun k hk => h2 k (hk.queueChan h.rising _), fun c hc hn hr => ?_⟩
      rcases List.mem_cons.1 hc with rfl | hc
      · obtain ⟨q, hq⟩ := h.queue
        exact h2 c (State.queueChan_queuedAt h.rising (by rw [hq]; exact hr) prio _)
      · exact h3 c hc hn hr
    · obtain ⟨h1, h2, h3⟩ := ih h
      rw [List.foldl_cons, hno a u ha]
      refine ⟨h1, h2, fun c hc hn hr => ?_⟩
      rcases List.mem_cons.1 hc with rfl | hc
      · exact absurd hn ha
      · exact h3 c hc hn hr

end

section
variable {n : Tile} {s : State}

/-- The Blocking state once an average of the tile temperature has been taken. -/
def State.averaged (s : State) (n : Nat) (avg : BitVec 16) : State :=
  s.updBl n (fun b => { b with settled := decide ((avg.toInt - b.avg).natAbs ≤ 10), avg := avg.toInt })

theorem tempEvaluation_off (avg : BitVec 16) (h : s.f (F.BLK_CTL_EN n.val) = 0 ∨ s.dozing n.val = true) :
    exec (.blockTempEvaluation n avg) s = .next (s.averaged n.val avg) :=
  if_pos (by rcases h with h | h <;> simp [State.b, h])

theorem tempEvaluation_on (avg : BitVec 16) (hb : Map.rising s.blk = true) (he : s.f (F.BLK_CTL_EN n.val) = 1) (hd : s.dozing n.val = false) :
    ∃ u : State, exec (.blockTempEvaluation n avg) s = .next u ∧ (u.bl n.val).avg = avg.toInt ∧ s.keepsRegs u [R.BLK_STAT n.val] ∧
      s.keepsMemory u ∧ ∀ c ∈ allChans, ∀ x, s.mayQueue n.val c = true → Map.find c (s.bl n.val).temp = some x →
        s.f (F.BLK_CTL_DT n.val) < (avg.toInt - x).natAbs → (s.bl n.val).runs.any (fun r => r.chan == c) = false → u.queuedAt n.val c 2 := by
  let s1 := s.averaged n.val avg
  have hbl : s1.bl n.val = { s.bl n.val with settled := decide ((avg.toInt - (s.bl n.val).avg).natAbs ≤ 10), avg := avg.toInt } :=
    State.bl_updBl hb n.val _
  have hmay : s1.mayQueue n.val = s.mayQueue n.val := by
    funext c
    simp only [State.mayQueue, State.detained, hbl]
    rfl
  let moved : Nat → Prop := fun c => ∃ x, Map.find c (s1.bl n.val).temp = some x ∧ s1.f (F.BLK_CTL_DT n.val) < (avg.toInt - x).natAbs
  let diff : Nat → Nat := fun c => match Map.find c (s1.bl n.val).temp with | some x => (avg.toInt - x).natAbs | none => 0
  have hx : exec (.blockTempEvaluation n avg) s = .next (s1.each (allChans.filter (s1.mayQueue n.val)) (fun s c =>
      match Map.find c (s1.bl n.val).temp with
      | some x => let d := (avg.toInt - x).natAbs; if s1.f (F.BLK_CTL_DT n.val) < d then s.queueChan n.val c 2 d else s
      | none => s)) := if_neg (by simp [State.b, he, hd])
  obtain ⟨⟨-, ⟨q, hq⟩, hregs, hmem⟩, -, hnamed⟩ := State.each_queues (s := s1) (u := s1) (t := n.val) (named := moved) (prio := 2) diff
    (l := allChans.filter (s1.mayQueue n.val)) (f := fun s c => match Map.find c (s1.bl n.val).temp with
      | some x => let d := (avg.toInt - x).natAbs; if s1.f (F.BLK_CTL_DT n.val) < d then s.queueChan n.val c 2 d else s
      | none => s)
    (fun c v ⟨x, hfind, hdt⟩ => by simp only [diff, hfind, if_pos hdt])
    (fun c v hn => by
      dsimp only
      split
      · next x hfind => exact if_neg fun hdt => hn ⟨x, hfind, hdt⟩
      · rfl)
    (State.Queues.refl (State.updBl_rising hb n.val _))
  refine ⟨_, hx, by rw [hq, hbl], hregs, hmem, fun c hc x hm hfind hdt hr => hnamed c ?_ ⟨x, by rw [hbl]; exact hfind, hdt⟩ (by rw [hbl]; exact hr)⟩
  exact List.mem_filter.2 ⟨hc, by rw [hmay]; exact hm⟩

/-! ### The timetable (R343, R345) -/

theorem timetable_queues {chan : BitVec 16} (hok : chanOk chan.toNat = true) (hlt : chan.toNat < 0x4000) (he : s.f (F.BLK_CTL_EN n.val) = 1)
    (hd : s.dozing n.val = false) (hm : s.mayQueue n.val chan.toNat = true)
    (hdue : ∀ a, Map.find chan.toNat (s.bl n.val).done = some a → a + s.f (F.BLK_CTL_INTERVAL n.val) * 1000000 ≤ s.bell) :
    exec (.blockTimetableDue n chan) s = .next (s.queueChan n.val chan.toNat 3 0) := by
  refine congrArg Host.Outcome.next (if_pos ?_)
  cases hfind : Map.find chan.toNat (s.bl n.val).done with
  | none => simp [hok, hlt, State.b, he, hd, hm]
  | some a =>
    have := hdue a hfind
    simp [hok, hlt, State.b, he, hd, hm, this]

theorem timetable_waits {chan : BitVec 16} (h : chanOk chan.toNat = false ∨ s.f (F.BLK_CTL_EN n.val) = 0 ∨ s.dozing n.val = true ∨
    s.detained n.val chan.toNat = true ∨
    ∃ a, Map.find chan.toNat (s.bl n.val).done = some a ∧ s.bell < a + s.f (F.BLK_CTL_INTERVAL n.val) * 1000000) :
    exec (.blockTimetableDue n chan) s = .next s := by
  refine congrArg Host.Outcome.next (if_neg ?_)
  rcases h with h | h | h | h | ⟨a, ha, hlt⟩
  · simp [h]
  · simp [State.b, h]
  · simp [h]
  · simp [State.mayQueue, h]
  · have hnot : ¬ a + s.f (F.BLK_CTL_INTERVAL n.val) * 1000000 ≤ s.bell := by omega
    simp only [ha, decide_eq_false hnot]
    simp

end

end Sys2Proof.Machine
end
section
/-! SUPPORT. Crown runs: their start, their end inside and outside the limits, and an abort (R204, R347 to R351). -/

namespace Sys2Proof.Machine

/-! ### A Crown run starts (R347, R348, R204) -/

section
variable {s : State} {t slot : Nat}

/-- A slot without an entry that is due starts nothing. -/
theorem State.startSlot_none (h : s.slotQueue t slot = []) : s.startSlot t slot = s := by
  rw [State.startSlot, h]
  exact ite_self _

theorem State.startSlot_asleep (h : s.blkAwake t = false) : s.startSlot t slot = s := if_pos (by rw [h]; rfl)

theorem State.slotQueue_empty (h : (s.bl t).queue = []) : s.slotQueue t slot = [] := by
  rw [State.slotQueue, h]
  rfl

theorem State.slotQueue_other {e : BlkEntry} (h : (s.bl t).queue = [e]) (hs : slotOf e.chan ≠ slot) : s.slotQueue t slot = [] := by
  rw [State.slotQueue, h, List.filter_cons_of_neg (by simp [hs])]
  rfl

theorem State.slotQueue_single {e : BlkEntry} (h : (s.bl t).queue = [e]) (hd : s.entryDue t e = true) : s.slotQueue t (slotOf e.chan) = [e] := by
  rw [State.slotQueue, h, List.filter_cons_of_pos (by simp [hd])]
  rfl

theorem slotOf_crown {c : Nat} (h1 : 0x1000 ≤ c) (h2 : c < 0x1010) : slotOf c = 4 := by
  simp only [slotOf, show c / 4096 = 1 by omega]

theorem State.setF_bl (s : State) (x : Fld) (v k : Nat) : (s.setF x v).bl k = s.bl k := by rw [State.bl, State.setF_blk, ← State.bl]

/-- The state with a Crown channel's run in its slot: its transmitter is silent. -/
def State.crownStarted (s : State) (t : Nat) (e : BlkEntry) : State := (s.setF (F.CROWN_PLANE_BLOCKING t (e.chan % 16)) 1).addRun t e .none 1

theorem State.startSlot_crown {e : BlkEntry} (ha : s.blkAwake t = true) (hq : (s.bl t).queue = [e]) (h1 : 0x1000 ≤ e.chan) (h2 : e.chan < 0x1010)
    (hd : s.entryDue t e = true) (hr : (s.bl t).runs = []) (htc : (s.bl t).traceCrown = false) (htd : (s.bl t).traceDue = none)
    (hst : s.f (F.CROWN_STAT_STATE t) = 2) (hm : s.roleMoves t 3 = false) : s.startSlot t 4 = s.crownStarted t e := by
  have hslot := slotOf_crown h1 h2
  have hchan : e.chan / 4096 = 1 := by omega
  have hqueue : s.slotQueue t 4 = [e] := by rw [← hslot, State.slotQueue_single hq hd]
  have hhold : s.traceHolds t 4 e.prio = false := by simp [State.traceHolds, htc, htd]
  have hentry : s.startEntry t e = some (s.crownStarted t e) := by
    rw [State.startEntry, hslot, hhold]
    simp only [hchan, State.startCrown, hst, hm]
    rfl
  have hfirst : State.startFirst t [e] s = some (e, s.crownStarted t e) := by rw [State.startFirst, hentry]
  rw [State.startSlot, if_neg (by rw [ha, hr]; decide), hqueue, hfirst]
  exact if_pos (by omega)

theorem State.crownStarted_spec (h : s.canonical) (hb : Map.rising s.blk = true) {e : BlkEntry} (h1 : 0x1000 ≤ e.chan) (h2 : e.chan < 0x1010)
    (hq : (s.bl t).queue = [e]) (hr : (s.bl t).runs = []) :
    (s.crownStarted t e).f (F.CROWN_PLANE_BLOCKING t (e.chan % 16)) = 1 ∧ ((s.crownStarted t e).bl t).queue = [] ∧
      ((s.crownStarted t e).bl t).runs = [{ slot := 4, chan := e.chan, prio := e.prio, carrier := .none, at_ := s.bell, phase := 1 }] ∧
      s.keepsMemory (s.crownStarted t e) := by
  have hplane : R.CROWN_PLANE t (e.chan % 16) ≠ R.BLK_STAT t := by simp only [R.CROWN_PLANE, R.BLK_STAT]; omega
  have hbl : (s.crownStarted t e).bl t = { s.bl t with
      runs := (s.bl t).runs ++ [{ slot := slotOf e.chan, chan := e.chan, prio := e.prio, carrier := .none, at_ := s.bell, phase := 1 }]
      queue := (s.bl t).queue.filter (fun x => x.chan != e.chan)
      deferred := (s.bl t).deferred.erase e.chan } := by
    unfold State.crownStarted State.addRun
    rw [State.syncBlk_bl, State.bl_updBl (by rw [State.setF_blk]; exact hb), State.setF_bl, State.setF_bell]
  refine ⟨?_, ?_, ?_, ?_⟩
  · unfold State.crownStarted State.addRun
    rw [(State.syncBlk_keeps _ t).f (by simp [F.CROWN_PLANE_BLOCKING, hplane]), State.updBl_f,
      State.f_setF_same h.rising _ _ (by simp [F.CROWN_PLANE_BLOCKING])]
    rfl
  · rw [hbl, hq]
    simp
  · rw [hbl, hr, slotOf_crown h1 h2]
    rfl
  · have hset : Leaves (fun _ => False) s (s.setF (F.CROWN_PLANE_BLOCKING t (e.chan % 16)) 1) := (Leaves.refl _ s).setF id 1
    unfold State.crownStarted State.addRun
    generalize s.setF (F.CROWN_PLANE_BLOCKING t (e.chan % 16)) 1 = u at hset
    exact ((hset.updBl t _).syncBlk_of id).keepsMemory

end

section
variable {n : Tile} {s : State}

theorem runStart_idle (slot : Fin 5) (ht : (s.bl n.val).traceDue = none) (h : s.blkAwake n.val = false ∨ (s.bl n.val).queue = []) :
    exec (.blockRunStart n slot) s = .next s ∧ exec (.blockSettleTimeout n) s = .next s := by
  have hslot : ∀ k, s.startSlot n.val k = s := fun k => by
    rcases h with h | h
    · exact State.startSlot_asleep h
    · exact State.startSlot_none (State.slotQueue_empty h)
  have htrace := State.startTrace_idle ht
  constructor
  · refine congrArg Host.Outcome.next ?_
    rw [htrace, ite_self, hslot]
  · refine congrArg Host.Outcome.next ?_
    rw [htrace]
    simp only [State.each, List.range, List.range.loop, List.foldl, hslot]

theorem runStart_crown {slot : Fin 5} {e : BlkEntry} (htd : (s.bl n.val).traceDue = none)
    (ha : s.blkAwake n.val = true) (hs : slot.val = 4) (hq : (s.bl n.val).queue = [e]) (h1 : 0x1000 ≤ e.chan) (h2 : e.chan < 0x1010)
    (hd : s.entryDue n.val e = true) (hr : (s.bl n.val).runs = []) (htc : (s.bl n.val).traceCrown = false)
    (hst : s.f (F.CROWN_STAT_STATE n.val) = 2) (hm : s.roleMoves n.val 3 = false) :
    exec (.blockRunStart n slot) s = .next (s.crownStarted n.val e) ∧ exec (.blockSettleTimeout n) s = .next (s.crownStarted n.val e) := by
  have hcrown := State.startSlot_crown ha hq h1 h2 hd hr htc htd hst hm
  have hother : ∀ k, k ≠ 4 → s.startSlot n.val k = s := fun k hk =>
    State.startSlot_none (State.slotQueue_other hq (by rw [slotOf_crown h1 h2]; exact Ne.symm hk))
  have htrace := State.startTrace_idle htd
  constructor
  · refine congrArg Host.Outcome.next ?_
    rw [htrace, ite_self, hs, hcrown]
  · refine congrArg Host.Outcome.next ?_
    rw [htrace]
    simp only [State.each, List.range, List.range.loop, List.foldl, hother 0 (by decide), hother 1 (by decide), hother 2 (by decide),
      hother 3 (by decide), hcrown]

end

/-! ### A run leaves its slot (R286, R349) -/

section
variable {s : State} {t c : Nat}

theorem State.dropRun_blk (s : State) (t c : Nat) :
    (s.dropRun t c).blk = (s.updBl t (fun b => { b with runs := b.runs.filter (fun r => r.chan != c) })).blk := by
  unfold State.dropRun
  dsimp only
  rw [State.syncBlk_blk]
  generalize s.updBl t _ = s1
  split
  · exact State.setFs_blk ..
  · exact State.setF_blk ..
  · rfl
  · rfl
  · rfl

theorem State.dropRun_bl (hb : Map.rising s.blk = true) (t c : Nat) :
    (s.dropRun t c).bl t = { s.bl t with runs := (s.bl t).runs.filter (fun r => r.chan != c) } := by
  rw [State.bl, State.dropRun_blk]
  exact State.bl_updBl hb t _

theorem State.dropRun_rising (hb : Map.rising s.blk = true) (t c : Nat) : Map.rising (s.dropRun t c).blk = true := by
  rw [State.dropRun_blk]
  exact State.updBl_rising hb t _

theorem State.dropRun_free (hb : Map.rising s.blk = true) (t c : Nat) : ((s.dropRun t c).bl t).runs.any (fun r => r.chan == c) = false := by
  rw [State.dropRun_bl hb]
  simp

/-- A Crown run that ends lets its transmitter speak again. -/
theorem State.dropRun_crown (hc : c / 4096 = 1) : s.dropRun t c =
    ((s.updBl t (fun b => { b with runs := b.runs.filter (fun r => r.chan != c) })).setF (F.CROWN_PLANE_BLOCKING t (c % 16)) 0).syncBlk t := by
  unfold State.dropRun
  simp only [hc]

theorem State.dropRun_speaks (h : s.canonical) (hc : c / 4096 = 1) : (s.dropRun t c).f (F.CROWN_PLANE_BLOCKING t (c % 16)) = 0 := by
  have hplane : R.CROWN_PLANE t (c % 16) ≠ R.BLK_STAT t := by simp only [R.CROWN_PLANE, R.BLK_STAT]; omega
  rw [State.dropRun_crown hc, (State.syncBlk_keeps _ t).f (by simp [F.CROWN_PLANE_BLOCKING, hplane])]
  exact State.f_setF_same (State.updBl_canonical h t _).rising _ _ (by simp [F.CROWN_PLANE_BLOCKING])

end

/-! ### The marks of a run: BLK_LAST and its counters (R360) -/

/-- BLK_LAST and the counters of runs committed and rejected, of a tile. -/
def runMark (t off : Nat) : Prop := off = R.BLK_LAST t ∨ off = R.BLK_CNT_RUN t ∨ off = R.BLK_CNT_REJ t

theorem runMark_not_assert (t : Nat) : ∀ off, runMark t off → ¬ assertReg off := by
  rintro off (rfl | rfl | rfl)
  · exact not_assertReg_tile t (c := 0x90010) (by omega) (by unfold assertOffset; omega)
  · exact not_assertReg_tile t (c := 0x90020) (by omega) (by unfold assertOffset; omega)
  · exact not_assertReg_tile t (c := 0x90024) (by omega) (by unfold assertOffset; omega)

section
variable {z s : State} {t c : Nat}

theorem Leaves.dropRun_mark (h : Leaves (runMark t) z s) (hc : c / 4096 = 1) : Leaves (runMark t) z (s.dropRun t c) := by
  have hplane : ¬ runMark t (R.CROWN_PLANE t (c % 16)) := by
    simp only [runMark, R.CROWN_PLANE, R.BLK_LAST, R.BLK_CNT_RUN, R.BLK_CNT_REJ]
    omega
  have hstat : ¬ runMark t (R.BLK_STAT t) := by
    simp only [runMark, R.BLK_STAT, R.BLK_LAST, R.BLK_CNT_RUN, R.BLK_CNT_REJ]
    omega
  rw [State.dropRun_crown hc]
  exact ((h.updBl t _).setF (x := F.CROWN_PLANE_BLOCKING t (c % 16)) hplane 0).syncBlk_of hstat

theorem Leaves.passBoundary_mark (h : Leaves (runMark t) z s) : Leaves (runMark t) z (s.passBoundary t) :=
  h.passBoundary (by simp only [runMark, R.OME_SUB, R.BLK_LAST, R.BLK_CNT_RUN, R.BLK_CNT_REJ]; omega)
    (by simp only [runMark, R.OME_STAT, R.BLK_LAST, R.BLK_CNT_RUN, R.BLK_CNT_REJ]; omega)
    (by simp only [runMark, R.OME_CNT_REACQ, R.BLK_LAST, R.BLK_CNT_RUN, R.BLK_CNT_REJ]; omega)

theorem Leaves.recentre_mark (h : Leaves (runMark t) z s) (c : Nat) : Leaves (runMark t) z (s.recentre t c) :=
  h.recentre (by simp only [runMark, R.RING_SUM, R.BLK_LAST, R.BLK_CNT_RUN, R.BLK_CNT_REJ]; omega) c

/-- Telling the commands that wait for a channel changes no register. -/
theorem Leaves.blkNotify {P : Nat → Prop} (h : Leaves P z s) (t c result trigger fails us : Nat) :
    Leaves P z (s.blkNotify t c result trigger fails us) := by
  have hfin : ∀ {u : State} (id st det : Nat) (res : List Byte) (ch : List JChange), Leaves P z u → Leaves P z (u.finish id st det res ch) :=
    fun _ _ _ _ _ hu => hu.updPr _
  have hans : ∀ (x : BlkCmd) (u : State), Leaves P z u → Leaves P z (u.blkAnswer x result trigger fails us) := by
    intro x u hu
    unfold State.blkAnswer
    split
    · split
      · unfold State.finishParam
        split
        · exact hu
        · exact hfin _ _ _ _ _ hu
      · exact hfin _ _ _ _ _ hu
    · exact hfin _ _ _ _ _ hu
    · exact hfin _ _ _ _ _ hu
  unfold State.blkNotify
  extract_lets upd s1
  have h1 : Leaves P z s1 := h.each _ _ fun x _ u hu => by
    split
    · exact hans x u hu
    · split
      · exact hfin _ _ _ _ _ hu
      · exact hu
  exact h1.updBl t _

theorem State.blkAnswer_blk (s : State) (x : BlkCmd) (result trigger fails us : Nat) : (s.blkAnswer x result trigger fails us).blk = s.blk := by
  unfold State.blkAnswer
  split
  · split
    · unfold State.finishParam
      split <;> rfl
    · rfl
  · rfl
  · rfl

/-- Telling the commands that wait for a channel changes the list of those commands alone. -/
theorem State.blkNotify_blk (s : State) (t c result trigger fails us : Nat) :
    ∃ g : List BlkCmd → List BlkCmd, (s.blkNotify t c result trigger fails us).blk = (s.updBl t (fun b => { b with cmds := g b.cmds })).blk := by
  unfold State.blkNotify
  extract_lets upd s1
  have h1 : s1.blk = s.blk := State.each_keeps State.blk _ _ _ fun x u => by
    split
    · exact State.blkAnswer_blk ..
    · split
      · rfl
      · rfl
  refine ⟨fun l => (l.map upd).filter (fun x => !x.left.isEmpty), ?_⟩
  clear_value s1
  unfold State.updBl
  rw [h1]

theorem State.blkNotify_bl (hb : Map.rising s.blk = true) (t c result trigger fails us : Nat) :
    Map.rising (s.blkNotify t c result trigger fails us).blk = true ∧
      ∃ l, (s.blkNotify t c result trigger fails us).bl t = { s.bl t with cmds := l } := by
  obtain ⟨g, hg⟩ := s.blkNotify_blk t c result trigger fails us
  rw [State.bl, hg]
  exact ⟨State.updBl_rising hb t _, _, State.bl_updBl hb t _⟩

end

end Sys2Proof.Machine
end
section
/-! SUPPORT. What a Crown run that has ended leaves: the marks of the run, the channel and its Detention (R349, R350). -/

namespace Sys2Proof.Machine

/-! ### What follows once a Crown run's marks are set (R350, R352) -/

section
variable {z s : State} {n c : Nat}

/-- Showing the channels in Detention leaves what no register of it holds. -/
theorem Leaves.showDetention_of {P : Nat → Prop} {t : Nat} (h : Leaves P z s) (hsub : ¬ P (R.OME_SUB t)) (hstat : ¬ P (R.OME_STAT t))
    (hport : ∀ i < 3, ¬ P (R.BLK_DET_PORT t i)) (hplane : ∀ i < 16, ¬ P (R.CROWN_PLANE t i))
    (hdet : ∀ off ∈ [R.OME_DET_A_LO t, R.OME_DET_A_HI t, R.OME_DET_B_LO t, R.OME_DET_B_HI t, R.OME_DET_LINE t], ¬ P off) :
    Leaves P z (s.showDetention t) := by
  have hone : ∀ (unit use : Fld) (k : Nat) (d : Option Nat) (u : State), ¬ P unit.off → ¬ P use.off → Leaves P z u → Leaves P z (match d with
      | some c => u.setFs [(unit, c), (use, 2)]
      | none => if u.f use = 2 then u.setFs [(unit, k), (use, 0)] else u) := by
    intro unit use k d u h1 h2 hu
    split
    · exact hu.setFs _ (by simp [h1, h2])
    · split
      · exact hu.setFs _ (by simp [h1, h2])
      · exact hu
  unfold State.showDetention
  refine Leaves.updOme (Leaves.each (Leaves.each (Leaves.setF (x := F.OME_STAT_DEGRADED t) (hone _ _ _ _ _ hsub hsub (hone _ _ _ _ _ hsub hsub
    (hone _ _ _ _ _ hsub hsub (h.setFs _ ?_)))) hstat _) _ _ fun i hi u hu => ?_) _ _ fun i hi u hu => ?_) _ _
  · simpa [F.OME_DET_A_LO, F.OME_DET_A_HI, F.OME_DET_B_LO, F.OME_DET_B_HI, F.OME_DET_LINE] using hdet
  · exact hu.setF (x := F.BLK_DET_PORT_LANES t i) (hport i (List.mem_range.1 hi)) _
  · exact hu.setF (x := F.CROWN_PLANE_DETENTION t i) (hplane i (List.mem_range.1 hi)) _

theorem Leaves.markDead_of {P : Nat → Prop} {t : Nat} (h : Leaves P z s) (hP : ∀ off, P off → ¬ assertReg off) (hdead : ¬ P (R.CROWN_DEAD t))
    (hplane : ∀ i < 16, ¬ P (R.CROWN_PLANE t i)) (a b : Nat) : Leaves P z (s.markDead t a b) := by
  unfold State.markDead
  dsimp only
  have h2 := (h.setFs [(F.CROWN_DEAD_TX_DEAD t, a), (F.CROWN_DEAD_RX_DEAD t, b)] (by
      simp [F.CROWN_DEAD_TX_DEAD, F.CROWN_DEAD_RX_DEAD, hdead])).each (List.range 16)
    (fun s pl => s.setFs [(F.CROWN_PLANE_TX_OK t pl, 1 - a / 2 ^ pl % 2), (F.CROWN_PLANE_RX_OK t pl, 1 - b / 2 ^ pl % 2)])
    (fun i hi u hu => hu.setFs _ (by simpa [F.CROWN_PLANE_TX_OK, F.CROWN_PLANE_RX_OK] using hplane i (List.mem_range.1 hi)))
  split
  · exact h2.faulted (State.raise_faulted _ t 22 0 false) fun _ ha hp => hP _ hp (assertReg_of_tile ha)
  · exact h2

/-- No register that shows Detention or dead planes is a mark of a run. -/
theorem not_runMark_shown (n : Nat) : ¬ runMark n (R.OME_SUB n) ∧ ¬ runMark n (R.OME_STAT n) ∧ ¬ runMark n (R.BLK_STAT n) ∧ ¬ runMark n (R.CROWN_DEAD n) ∧
    (∀ i < 3, ¬ runMark n (R.BLK_DET_PORT n i)) ∧ (∀ i < 16, ¬ runMark n (R.CROWN_PLANE n i)) ∧
    ∀ off ∈ [R.OME_DET_A_LO n, R.OME_DET_A_HI n, R.OME_DET_B_LO n, R.OME_DET_B_HI n, R.OME_DET_LINE n], ¬ runMark n off := by
  simp only [List.mem_cons, List.not_mem_nil, or_false, forall_eq_or_imp, forall_eq, runMark, R.OME_SUB, R.OME_STAT, R.BLK_STAT, R.CROWN_DEAD,
    R.BLK_DET_PORT, R.CROWN_PLANE, R.OME_DET_A_LO, R.OME_DET_A_HI, R.OME_DET_B_LO, R.OME_DET_B_HI, R.OME_DET_LINE, R.BLK_LAST, R.BLK_CNT_RUN,
    R.BLK_CNT_REJ]
  refine ⟨?_, ?_, ?_, ?_, fun i hi => ?_, fun i hi => ?_, ?_⟩ <;> omega

/-- A Crown channel's Detention leaves the marks of its run, and the runs (R350). -/
theorem State.detain_crown_spec (hb : Map.rising s.blk = true) (hc : c / 4096 = 1) (hd : s.detained n c = false) :
    Leaves (runMark n) s (s.detain n c) ∧ ((s.detain n c).bl n).runs = (s.bl n).runs := by
  obtain ⟨hsub, hstat, hblk, hdead, hport, hplane, hdet⟩ := not_runMark_shown n
  rw [State.detain, if_neg (by rw [hd]; decide)]
  extract_lets s1 s2
  have h1 : Leaves (runMark n) s s1 := (Leaves.refl _ s).updBl n _
  have hbl : (s1.bl n).runs = (s.bl n).runs := by simp only [s1, State.bl_updBl hb]
  have h2 : s2.blk = s1.blk := s1.shown_blk ..
  have hpolicy : Leaves (runMark n) s (s1.policyNote (chanTarget n c)) :=
    h1.trans ((s1.policy_leaves _ _ _ _).mono fun _ _ => trivial)
  have h3 : Leaves (runMark n) s s2 :=
    ((hpolicy.note_of (runMark_not_assert n) _ _ _ _ _).showDetention_of hsub hstat hport hplane hdet).syncBlk_of hblk
  clear_value s1 s2
  simp only [hc]
  exact ⟨h3.markDead_of (runMark_not_assert n) hdead hplane _ _, by rw [State.bl, State.markDead_blk, h2, ← State.bl, hbl]⟩

/-- After a Crown run that stays in service: its slot is free, its transmitter speaks, and only the commands that wait hear of it. -/
theorem State.runLeft_spec {w : State} (h : w.canonical) (hb : Map.rising w.blk = true) (hc : c / 4096 = 1) (res trig fails us : Nat) :
    let u := (((w.recentre n c).blkNotify n c res trig fails us).dropRun n c).passBoundary n
    Leaves (runMark n) w u ∧ u.f (F.CROWN_PLANE_BLOCKING n (c % 16)) = 0 ∧
      ∃ l, u.bl n = { w.bl n with cmds := l, runs := (w.bl n).runs.filter (fun r => r.chan != c) } := by
  intro u
  have h1 : Leaves (runMark n) w ((w.recentre n c).blkNotify n c res trig fails us) := ((Leaves.refl _ w).recentre_mark c).blkNotify ..
  have hk : ((w.recentre n c).blkNotify n c res trig fails us).canonical := (((Kept.refl w).recentre n c).blkNotify ..).2 h
  have hrb : (w.recentre n c).bl n = w.bl n := by rw [State.bl, State.recentre_blk, ← State.bl]
  obtain ⟨hr, l, hl⟩ := State.blkNotify_bl (s := w.recentre n c) (by rw [State.recentre_blk]; exact hb) n c res trig fails us
  rw [hrb] at hl
  simp only [u]
  generalize (w.recentre n c).blkNotify n c res trig fails us = v at h1 hk hr hl
  have hpass : Leaves (· = R.CROWN_PLANE n (c % 16)) (v.dropRun n c) ((v.dropRun n c).passBoundary n) :=
    (Leaves.refl _ _).passBoundary (by simp only [R.OME_SUB, R.CROWN_PLANE]; omega) (by simp only [R.OME_STAT, R.CROWN_PLANE]; omega)
      (by simp only [R.OME_CNT_REACQ, R.CROWN_PLANE]; omega)
  refine ⟨(h1.dropRun_mark hc).passBoundary_mark, ?_, l, ?_⟩
  · exact (hpass.f (x := F.CROWN_PLANE_BLOCKING n (c % 16)) rfl).trans (State.dropRun_speaks hk hc)
  · rw [State.bl, State.passBoundary_blk, ← State.bl, State.dropRun_bl hr, hl]

/-- After a Crown run whose channel enters Detention. -/
theorem State.runDetained_spec {w : State} (hb : Map.rising w.blk = true) (hc : c / 4096 = 1) (hd : w.detained n c = false)
    (res trig fails us : Nat) :
    let u := (((w.recentre n c).blkNotify n c res trig fails us).dropRun n c).detain n c
    Leaves (runMark n) w u ∧ u.detained n c = true ∧ (u.bl n).runs.any (fun r => r.chan == c) = false := by
  intro u
  have h1 : Leaves (runMark n) w ((w.recentre n c).blkNotify n c res trig fails us) := ((Leaves.refl _ w).recentre_mark c).blkNotify ..
  have hrb : (w.recentre n c).bl n = w.bl n := by rw [State.bl, State.recentre_blk, ← State.bl]
  obtain ⟨hr, l, hl⟩ := State.blkNotify_bl (s := w.recentre n c) (by rw [State.recentre_blk]; exact hb) n c res trig fails us
  rw [hrb] at hl
  simp only [u]
  generalize (w.recentre n c).blkNotify n c res trig fails us = v at h1 hr hl
  have hdv : (v.dropRun n c).detained n c = false := by
    rw [State.detained, State.dropRun_bl hr, hl]
    exact hd
  obtain ⟨hleaves, hruns⟩ := State.detain_crown_spec (State.dropRun_rising hr n c) hc hdv
  exact ⟨(h1.dropRun_mark hc).trans hleaves, State.detain_crown hc, by rw [hruns]; exact State.dropRun_free hr n c⟩

end

/-! ### The end of a Crown run (R349, R350) -/

section
variable {s : State} {n c : Nat} {r : BlkRun}

/-- A run's channel, result and trigger in BLK_LAST. -/
def State.runMarked (s : State) (n c res prio : Nat) : State :=
  s.setFs [(F.BLK_LAST_CHAN n, c), (F.BLK_LAST_RESULT n, res), (F.BLK_LAST_TRIGGER n, triggerOf prio)]

theorem State.runMarked_spec (h : s.canonical) (n c res prio : Nat) :
    (s.runMarked n c res prio).f (F.BLK_LAST_CHAN n) = c % 65536 ∧ (s.runMarked n c res prio).f (F.BLK_LAST_RESULT n) = res % 16 ∧
      (∀ x : Fld, x.off ≠ R.BLK_LAST n → (s.runMarked n c res prio).f x = s.f x) ∧ (s.runMarked n c res prio).canonical ∧
      (s.runMarked n c res prio).blk = s.blk :=
  ⟨State.f_setFs_at h [(F.BLK_LAST_CHAN n, c), (F.BLK_LAST_RESULT n, res), (F.BLK_LAST_TRIGGER n, triggerOf prio)] 0 rfl (by simp [F.BLK_LAST_CHAN])
      (by simp [Fld.apart, F.BLK_LAST_CHAN, F.BLK_LAST_RESULT, F.BLK_LAST_TRIGGER]),
    State.f_setFs_at h [(F.BLK_LAST_CHAN n, c), (F.BLK_LAST_RESULT n, res), (F.BLK_LAST_TRIGGER n, triggerOf prio)] 1 rfl (by simp [F.BLK_LAST_RESULT])
      (by simp [Fld.apart, F.BLK_LAST_RESULT, F.BLK_LAST_TRIGGER]),
    fun x hx => (s.keepsRegs_setFs _ (W := [R.BLK_LAST n]) (by simp [F.BLK_LAST_CHAN, F.BLK_LAST_RESULT, F.BLK_LAST_TRIGGER])).f (by simpa using hx),
    State.setFs_canonical h _, State.setFs_blk ..⟩

theorem State.updLink_bl (s : State) (k : Nat) (g : Link → Link) (t : Nat) : (s.updLink k g).bl t = s.bl t := by
  rw [State.bl, State.updLink_blk, ← State.bl]

/-- A run that is committed: the channel's reference and fails, and the counter (R349). -/
theorem State.committed_spec {m : State} (h : m.canonical) (hb : Map.rising m.blk = true) (n c : Nat) :
    ((m.commitChan n c).bump (F.BLK_CNT_RUN n)).canonical ∧ Map.rising ((m.commitChan n c).bump (F.BLK_CNT_RUN n)).blk = true ∧
      (∀ x : Fld, x.off ≠ R.BLK_CNT_RUN n → ((m.commitChan n c).bump (F.BLK_CNT_RUN n)).f x = m.f x) ∧
      ((m.commitChan n c).bump (F.BLK_CNT_RUN n)).f (F.BLK_CNT_RUN n) = min (m.f (F.BLK_CNT_RUN n) + 1) (2 ^ 32 - 1) ∧
      ((m.commitChan n c).bump (F.BLK_CNT_RUN n)).bl n = { m.bl n with
        temp := Map.put c (m.bl n).avg (m.bl n).temp, done := Map.put c m.bell (m.bl n).done, fails := Map.del c (m.bl n).fails,
        deferred := (m.bl n).deferred.erase c } := by
  have hc : (m.commitChan n c).canonical := ((Kept.refl m).commitChan n c).2 h
  have hbl : (m.commitChan n c).bl n = { m.bl n with
      temp := Map.put c (m.bl n).avg (m.bl n).temp, done := Map.put c m.bell (m.bl n).done, fails := Map.del c (m.bl n).fails,
      deferred := (m.bl n).deferred.erase c } := State.bl_updBl hb n _
  have hr : Map.rising (m.commitChan n c).blk = true := State.updBl_rising hb n _
  have hf : ∀ x, (m.commitChan n c).f x = m.f x := fun x => State.updBl_f ..
  generalize m.commitChan n c = v at hc hbl hr hf
  refine ⟨((Kept.refl v).bump _ _).2 hc, by rw [State.bump_blk]; exact hr, fun x hx => ?_, ?_, ?_⟩
  · rw [State.bump_f_off hx, hf]
  · have hcount := State.f_bump_same hc.rising (x := F.BLK_CNT_RUN n) (by simp [F.BLK_CNT_RUN]) 1
    rwa [hf] at hcount
  · rw [State.bl, State.bump_blk, ← State.bl, hbl]

/-- A run that is rejected: the channel's fails, the counter, and a NOTICE (R350). -/
theorem State.rejected_spec {m : State} (h : m.canonical) (hb : Map.rising m.blk = true) (n c fails : Nat) (g : Nat) (e : RecEv) (sev src : Nat) (v : Int) :
    let w := (((m.updBl n (fun b => { b with fails := Map.put c fails b.fails })).bump (F.BLK_CNT_REJ n)).note g e sev src v)
    w.canonical ∧ Map.rising w.blk = true ∧ w.f (F.BLK_LAST_RESULT n) = m.f (F.BLK_LAST_RESULT n) ∧
      w.f (F.BLK_CNT_REJ n) = min (m.f (F.BLK_CNT_REJ n) + 1) (2 ^ 32 - 1) ∧ w.bl n = { m.bl n with fails := Map.put c fails (m.bl n).fails } := by
  intro w
  have hoff : (F.BLK_LAST_RESULT n).off ≠ R.BLK_CNT_REJ n := by simp only [F.BLK_LAST_RESULT, R.BLK_LAST, R.BLK_CNT_REJ]; omega
  have hc := State.updBl_canonical h n (fun b => { b with fails := Map.put c fails b.fails })
  have hbl := State.bl_updBl hb n (fun b => { b with fails := Map.put c fails b.fails })
  have hr := State.updBl_rising hb n (fun b => { b with fails := Map.put c fails b.fails })
  have hf : ∀ x, (m.updBl n (fun b => { b with fails := Map.put c fails b.fails })).f x = m.f x := fun x => State.updBl_f ..
  simp only [w]
  generalize m.updBl n (fun b => { b with fails := Map.put c fails b.fails }) = u at hc hbl hr hf
  have hcb : (u.bump (F.BLK_CNT_REJ n)).canonical := ((Kept.refl u).bump _ _).2 hc
  have hlast : (u.bump (F.BLK_CNT_REJ n)).f (F.BLK_LAST_RESULT n) = m.f (F.BLK_LAST_RESULT n) := by rw [State.bump_f_off hoff, hf]
  have hcount := State.f_bump_same hc.rising (x := F.BLK_CNT_REJ n) (by simp [F.BLK_CNT_REJ]) 1
  rw [hf] at hcount
  have hblk : (u.bump (F.BLK_CNT_REJ n)).blk = u.blk := State.bump_blk ..
  generalize u.bump (F.BLK_CNT_REJ n) = b at hcb hlast hcount hblk
  have hmark := (Leaves.refl (runMark n) b).note_of (runMark_not_assert n) g e sev src v
  refine ⟨((Kept.refl b).note ..).2 hcb, by rw [State.note_blk, hblk]; exact hr, ?_, ?_, ?_⟩
  · exact (hmark.f (x := F.BLK_LAST_RESULT n) (.inl rfl)).trans hlast
  · exact (hmark.f (x := F.BLK_CNT_REJ n) (.inr (.inr rfl))).trans hcount
  · rw [State.bl, State.note_blk, hblk, ← State.bl, hbl]

end

end Sys2Proof.Machine
end
section
/-! SUPPORT. The end of a Crown run, the abort of a run, and a lane run that was refused (R349 to R353). -/

namespace Sys2Proof.Machine

section
variable {s : State} {n c : Nat} {r : BlkRun}

/-- The state once a Crown run's end stands in BLK_LAST. -/
def State.crownMarked (s : State) (n c res prio : Nat) : State := (s.runMarked n c res prio).updLink (3 * n + c / 32) (fun l => l)

theorem State.crownMarked_spec (h : s.canonical) (hlt : c < 65536) {res : Nat} (hres : res < 16) (n prio : Nat) :
    let m := s.crownMarked n c res prio
    m.canonical ∧ m.blk = s.blk ∧ m.bell = s.bell ∧ m.f (F.BLK_LAST_CHAN n) = c ∧ m.f (F.BLK_LAST_RESULT n) = res ∧
      m.f (F.BLK_CNT_RUN n) = s.f (F.BLK_CNT_RUN n) ∧ m.f (F.BLK_CNT_REJ n) = s.f (F.BLK_CNT_REJ n) := by
  intro w
  have hw : w = (s.runMarked n c res prio).updLink (3 * n + c / 32) (fun l => l) := rfl
  clear_value w
  obtain ⟨hchan, hr, hkeep, hcan, hblk⟩ := State.runMarked_spec h n c res prio
  have hbell : (s.runMarked n c res prio).bell = s.bell := State.setFs_bell ..
  rw [Nat.mod_eq_of_lt hlt] at hchan
  rw [Nat.mod_eq_of_lt hres] at hr
  have hrun := hkeep (F.BLK_CNT_RUN n) (by simp only [F.BLK_CNT_RUN, R.BLK_CNT_RUN, R.BLK_LAST]; omega)
  have hrej := hkeep (F.BLK_CNT_REJ n) (by simp only [F.BLK_CNT_REJ, R.BLK_CNT_REJ, R.BLK_LAST]; omega)
  generalize s.runMarked n c res prio = m at hw hchan hr hcan hblk hbell hrun hrej
  rw [hw]
  exact ⟨((Kept.refl m).updLink _ _).2 hcan, (State.updLink_blk ..).trans hblk, (State.updLink_bell ..).trans hbell, (State.updLink_f ..).trans hchan,
    (State.updLink_f ..).trans hr, (State.updLink_f ..).trans hrun, (State.updLink_f ..).trans hrej⟩

theorem State.runFound_commit (hc : c / 4096 = 1) (hd : s.detained n c = false) (found : BlkFound) : s.runFound n c 0 r found =
    ((((((s.crownMarked n c 0 r.prio).commitChan n c).bump (F.BLK_CNT_RUN n)).recentre n c).blkNotify n c 0 (triggerOf r.prio) 0
      (s.bell - r.at_)).dropRun n c).passBoundary n := by
  unfold State.runFound State.crownMarked State.runMarked
  simp only [hc, hd, if_true]
  simp

/-- A Crown run rejected, before its channel goes back to service or into Detention. -/
def State.crownRejected (s : State) (n c res prio : Nat) : State :=
  (((s.crownMarked n c res prio).updBl n (fun b => { b with fails := Map.put c (Map.get 0 (s.bl n).fails c + 1) b.fails })).bump (F.BLK_CNT_REJ n)).note
    0x7 .blockRejected 1 (chanTarget n c) c

theorem State.runFound_reject {res : Nat} (hr : res ≠ 0) (hc : c / 4096 = 1) (hd : s.detained n c = false) (found : BlkFound) :
    s.runFound n c res r found =
    let w := (((s.crownRejected n c res r.prio).recentre n c).blkNotify n c res (triggerOf r.prio) (Map.get 0 (s.bl n).fails c + 1)
      (s.bell - r.at_)).dropRun n c
    if Map.get 0 (s.bl n).fails c = 2 then w.detain n c else w.passBoundary n := by
  unfold State.runFound State.crownRejected State.crownMarked State.runMarked
  simp only [hc, hd, if_neg hr]
  simp [hr]

theorem State.runResult_crown (hc : c / 4096 = 1) (found : BlkFound) :
    s.runResult n c found = some (if !found.limits then 1 else if !found.residual then 2 else 0) := if_pos (by omega)

theorem State.bl_of_blk {s u : State} (h : u.blk = s.blk) (t : Nat) : u.bl t = s.bl t := by rw [State.bl, h, ← State.bl]

/-- A Crown run inside its limits is committed (R349). -/
theorem State.runFound_commit_spec (h : s.canonical) (hb : Map.rising s.blk = true) (hc : c / 4096 = 1) (hlt : c < 65536)
    (hd : s.detained n c = false) (found : BlkFound) : let u := s.runFound n c 0 r found
    u.f (F.BLK_LAST_CHAN n) = c ∧ u.f (F.BLK_LAST_RESULT n) = 0 ∧ u.f (F.BLK_CNT_RUN n) = min (s.f (F.BLK_CNT_RUN n) + 1) (2 ^ 32 - 1) ∧
      Map.find c (u.bl n).temp = some (s.bl n).avg ∧ Map.find c (u.bl n).done = some s.bell ∧ u.f (F.CROWN_PLANE_BLOCKING n (c % 16)) = 0 ∧
      (u.bl n).runs.any (fun r => r.chan == c) = false := by
  obtain ⟨hcm, hblk, hbell, hchan, hres, hrun, -⟩ := State.crownMarked_spec h hlt (res := 0) (by decide) n r.prio
  have hbl := State.bl_of_blk hblk n
  rw [State.runFound_commit hc hd]
  generalize s.crownMarked n c 0 r.prio = m at hcm hblk hbell hchan hres hrun hbl
  obtain ⟨hcw, hbw, hfw, hcnt, hblw⟩ := State.committed_spec hcm (by rw [hblk]; exact hb) n c
  have hoff : R.BLK_LAST n ≠ R.BLK_CNT_RUN n := by simp only [R.BLK_LAST, R.BLK_CNT_RUN]; omega
  have hchan' := (hfw (F.BLK_LAST_CHAN n) hoff).trans hchan
  have hres' := (hfw (F.BLK_LAST_RESULT n) hoff).trans hres
  rw [hrun] at hcnt
  rw [hbl, hbell] at hblw
  generalize (m.commitChan n c).bump (F.BLK_CNT_RUN n) = w at hcw hbw hchan' hres' hcnt hblw
  obtain ⟨hmark, hspeak, l, hl⟩ := State.runLeft_spec hcw hbw hc 0 (triggerOf r.prio) 0 (s.bell - r.at_) (n := n)
  refine ⟨(hmark.f (x := F.BLK_LAST_CHAN n) (.inl rfl)).trans hchan', (hmark.f (x := F.BLK_LAST_RESULT n) (.inl rfl)).trans hres',
    (hmark.f (x := F.BLK_CNT_RUN n) (.inr (.inl rfl))).trans hcnt, ?_, ?_, hspeak, ?_⟩
  · rw [hl, hblw]
    exact Map.find_put_same ..
  · rw [hl, hblw]
    exact Map.find_put_same ..
  · rw [hl]
    simp

/-- A Crown run outside its limits is rejected, and the third in a row puts its channel in Detention (R350). -/
theorem State.runFound_reject_spec (h : s.canonical) (hb : Map.rising s.blk = true) (hc : c / 4096 = 1) (hlt : c < 65536)
    (hd : s.detained n c = false) {res : Nat} (h0 : res ≠ 0) (hr : res < 16) (found : BlkFound) : let u := s.runFound n c res r found
    u.f (F.BLK_LAST_RESULT n) = res ∧ u.f (F.BLK_CNT_REJ n) = min (s.f (F.BLK_CNT_REJ n) + 1) (2 ^ 32 - 1) ∧
      (u.bl n).runs.any (fun r => r.chan == c) = false ∧ (Map.get 0 (s.bl n).fails c = 2 → u.detained n c = true) ∧
      (Map.get 0 (s.bl n).fails c < 2 → Map.find c (u.bl n).fails = some (Map.get 0 (s.bl n).fails c + 1) ∧ u.detained n c = false) := by
  obtain ⟨hcm, hblk, -, -, hres, -, hrej⟩ := State.crownMarked_spec h hlt hr n r.prio
  have hbl := State.bl_of_blk hblk n
  rw [State.runFound_reject h0 hc hd]
  unfold State.crownRejected
  generalize s.crownMarked n c res r.prio = m at hcm hblk hres hrej hbl
  obtain ⟨hcw, hbw, hlast, hcnt, hblw⟩ := State.rejected_spec hcm (by rw [hblk]; exact hb) n c (Map.get 0 (s.bl n).fails c + 1) 0x7 .blockRejected 1
    (chanTarget n c) c
  rw [hres] at hlast
  rw [hrej] at hcnt
  rw [hbl] at hblw
  generalize State.note _ 0x7 .blockRejected 1 (chanTarget n c) c = w at hcw hbw hlast hcnt hblw
  have hdw : w.detained n c = false := by
    rw [State.detained, hblw]
    exact hd
  by_cases h2 : Map.get 0 (s.bl n).fails c = 2
  · obtain ⟨hmark, hdet, hruns⟩ := State.runDetained_spec hbw hc hdw res (triggerOf r.prio) (Map.get 0 (s.bl n).fails c + 1) (s.bell - r.at_)
    simp only [if_pos h2]
    exact ⟨(hmark.f (x := F.BLK_LAST_RESULT n) (.inl rfl)).trans hlast, (hmark.f (x := F.BLK_CNT_REJ n) (.inr (.inr rfl))).trans hcnt, hruns,
      fun _ => hdet, fun hlt => absurd h2 (by omega)⟩
  · obtain ⟨hmark, -, l, hl⟩ := State.runLeft_spec hcw hbw hc res (triggerOf r.prio) (Map.get 0 (s.bl n).fails c + 1) (s.bell - r.at_) (n := n)
    simp only [if_neg h2]
    refine ⟨(hmark.f (x := F.BLK_LAST_RESULT n) (.inl rfl)).trans hlast, (hmark.f (x := F.BLK_CNT_REJ n) (.inr (.inr rfl))).trans hcnt, ?_,
      fun h => absurd h h2, fun _ => ⟨?_, ?_⟩⟩
    · rw [hl]
      simp
    · rw [hl, hblw]
      exact Map.find_put_same ..
    · rw [State.detained, hl]
      exact hdw

end

section
variable {n : Tile} {chan : BitVec 16} {found : BlkFound} {r : BlkRun} {s : State}

theorem runEnd_found {res : Nat} (hr : (s.bl n.val).runs.find? (fun r => r.chan == chan.toNat && r.phase == 1) = some r)
    (hres : s.runResult n.val chan.toNat found = some res) :
    exec (.blockRunEnd n chan found) s = .next (s.runFound n.val chan.toNat res r found) := by
  have hx : exec (.blockRunEnd n chan found) s = execBlockRunEnd n chan found s := rfl
  rw [hx, execBlockRunEnd, hr, hres]

/-- Without a run of the channel neither its end nor its abort does anything. -/
theorem run_absent (h : (s.bl n.val).runs.any (fun r => r.chan == chan.toNat) = false) :
    exec (.blockRunEnd n chan found) s = .next s ∧ exec (.blockRunAbort n chan) s = .next s := by
  rw [List.any_eq_false] at h
  constructor
  · have hx : exec (.blockRunEnd n chan found) s = execBlockRunEnd n chan found s := rfl
    have hnone : (s.bl n.val).runs.find? (fun r => r.chan == chan.toNat && r.phase == 1) = none :=
      List.find?_eq_none.2 fun r hr => by simp [h r hr]
    rw [hx, execBlockRunEnd, hnone]
  · have hnil : (s.bl n.val).runs.filter (fun r => r.chan == chan.toNat && r.phase != 2) = [] :=
      List.filter_eq_nil_iff.2 fun r hr => by simp [h r hr]
    refine congrArg Host.Outcome.next ?_
    rw [State.abortRuns, hnil]
    rfl

/-! ### An abort (R351) -/

/-- A run that an event outside it ends: BLK_LAST shows it, its slot is free, and its channel is queued again. -/
theorem runAbort_spec (h : s.canonical) (hb : Map.rising s.blk = true)
    (hr : (s.bl n.val).runs.filter (fun r => r.chan == chan.toNat && r.phase != 2) = [r]) :
    ∃ u : State, exec (.blockRunAbort n chan) s = .next u ∧ u.f (F.BLK_LAST_CHAN n.val) = chan.toNat ∧ u.f (F.BLK_LAST_RESULT n.val) = 3 ∧
      (u.bl n.val).runs.any (fun r => r.chan == chan.toNat) = false ∧
      (u.bl n.val).queue = { chan := chan.toNat, prio := r.prio, diff := 0, at_ := s.bell } :: (s.bl n.val).queue ∧
      (u.bl n.val).fails = (s.bl n.val).fails := by
  have hmem : r ∈ (s.bl n.val).runs.filter (fun r => r.chan == chan.toNat && r.phase != 2) := by rw [hr]; exact List.mem_singleton_self r
  obtain ⟨hchan, hphase⟩ : r.chan = chan.toNat ∧ r.phase ≠ 2 := by simpa using (List.mem_filter.1 hmem).2
  have hx : exec (.blockRunAbort n chan) s = .next ((((s.dropRun n.val chan.toNat).runMarked n.val chan.toNat 3 r.prio).updBl n.val (fun b =>
      { b with queue := { chan := chan.toNat, prio := r.prio, diff := 0, at_ := s.bell } ::
        b.queue })).syncBlk n.val) := by
    refine congrArg Host.Outcome.next ?_
    simp only [State.abortRuns, hr, State.each, List.foldl_cons, List.foldl_nil, if_neg hphase, State.runMarked, hchan]
  have hcd : (s.dropRun n.val chan.toNat).canonical := ((Kept.refl s).dropRun _ _).2 h
  have hbd := State.dropRun_bl hb n.val chan.toNat
  have hrd := State.dropRun_rising hb n.val chan.toNat
  generalize s.dropRun n.val chan.toNat = d at hx hcd hbd hrd
  obtain ⟨hlast, hres, -, hcm, hblk⟩ := State.runMarked_spec hcd n.val chan.toNat 3 r.prio
  have hbl := State.bl_of_blk hblk n.val
  rw [Nat.mod_eq_of_lt chan.isLt] at hlast
  generalize d.runMarked n.val chan.toNat 3 r.prio = m at hx hlast hres hcm hblk hbl
  have hoff : R.BLK_LAST n.val ∉ [R.BLK_STAT n.val] := by simp only [List.mem_singleton, R.BLK_LAST, R.BLK_STAT]; omega
  have hkeep := State.syncBlk_keeps (m.updBl n.val (fun b =>
    { b with queue := { chan := chan.toNat, prio := r.prio, diff := 0, at_ := s.bell } :: b.queue })) n.val
  have hbu := State.bl_updBl (s := m) (by rw [hblk]; exact hrd) n.val (fun b =>
    { b with queue := { chan := chan.toNat, prio := r.prio, diff := 0, at_ := s.bell } :: b.queue })
  refine ⟨_, hx, ?_, ?_, ?_, ?_, ?_⟩
  · rw [hkeep.f (x := F.BLK_LAST_CHAN n.val) hoff, State.updBl_f, hlast]
  · rw [hkeep.f (x := F.BLK_LAST_RESULT n.val) hoff, State.updBl_f, hres]
  · rw [State.syncBlk_bl, hbu, hbl, hbd]
    simp
  · rw [State.syncBlk_bl, hbu, hbl, hbd]
  · rw [State.syncBlk_bl, hbu, hbl, hbd]

end

/-! ### A lane run that the far end refused (R353) -/

theorem laneRefused_none {p : Port} {s : State}
    (h : (s.bl (p.val / 3)).runs.find? (fun r => r.slot == p.val % 3 && r.again) = none) : exec (.laneRunRefused p) s = .next s := by
  have hx : exec (.laneRunRefused p) s = execLaneRunRefused p s := rfl
  rw [hx, execLaneRunRefused, h]

theorem laneRefused_some {p : Port} {s : State} {r : BlkRun}
    (h : (s.bl (p.val / 3)).runs.find? (fun r => r.slot == p.val % 3 && r.again) = some r) :
    (r.phase = 2 → exec (.laneRunRefused p) s = .next (s.restoreLane (p.val / 3) r)) ∧
      (r.phase ≠ 2 → 16 ≤ r.refused →
        exec (.laneRunRefused p) s = .next ((s.dropRun (p.val / 3) r.chan).deferLane (p.val / 3) r.chan r.prio)) := by
  have hx : exec (.laneRunRefused p) s = execLaneRunRefused p s := rfl
  rw [hx, execLaneRunRefused, h]
  exact ⟨fun h2 => if_pos h2, fun h2 h16 => (if_neg h2).trans (if_pos h16)⟩

end Sys2Proof.Machine
end
section
/-! SUPPORT. The Blocking commands (R360). -/

namespace Sys2Proof.Machine

section
variable {s : State} {p : Packet} {o : Nat}

/-- ACCEPTED changes no tile's Blocking state (R55). -/
theorem State.begun_blk (s : State) (p : Packet) : (s.begun p).blk = s.blk := by
  have hring : ∀ q r, (s.ringWrite q r).blk = s.blk := fun q r => by obtain h | ⟨_, h⟩ := s.ringWrite_eq q r <;> rw [h] <;> rfl
  have hsend : ∀ path r, (s.sendReply path r).blk = s.blk := fun path r => by
    unfold State.sendReply
    split
    · split
      · rfl
      · split
        · exact State.setB_blk ..
        · exact hring ..
    · rfl
    · split <;> rfl
    · split <;> rfl
    · rfl
    · rfl
  unfold State.begun State.post
  split
  · split
    · rfl
    · exact hsend ..
  · rfl

/-- A command that runs on changes the Blocking state by its effect alone. -/
theorem runCmd_later_blk {d : CmdDef} {u : State} (ha : s.accepts d p o)
    (hact : d.act (s.begun p) p o (s.begun p).proctor.nextId = .later u) (hp : u.proctor = (s.begun p).proctor) :
    (s.begun p).runsOn (runCmd d p s) p o d.code ∧ (runCmd d p s).blk = u.blk := by
  refine ⟨(runCmd_later ha hact hp).1, ?_⟩
  have he := runCmd_accepted ha
  rw [hact] at he
  rw [he]
  rfl

theorem State.askTrace_bl (hb : Map.rising s.blk = true) (t id : Nat) : (s.askTrace t id).proctor = s.proctor ∧
    ((s.askTrace t id).bl t).traceRuns = (s.bl t).traceRuns ++ [id] ∧
    ((s.bl t).tracing = false → ((s.askTrace t id).bl t).tracePrio = 0 ∧ ((s.askTrace t id).bl t).traceDue.isSome = true) := by
  unfold State.askTrace
  split
  · next h =>
    rw [State.bl_updBl hb]
    exact ⟨rfl, rfl, fun hn => absurd hn (by rw [h]; decide)⟩
  · rw [State.bl_updBl (s := s.wantTrace t 0) (State.updBl_rising hb t _), State.wantTrace_bl hb]
    refine ⟨rfl, rfl, fun _ => ⟨?_, rfl⟩⟩
    dsimp only
    split
    · exact Nat.min_zero _
    · rfl

/-- A command that asks for a channel's run: the channel waits at the highest priority. -/
theorem State.queueChan_asked (hb : Map.rising s.blk = true) (t c id : Nat) (release : Bool) :
    ((s.queueChan t c 0 0).addBlkCmd t id c [c] release).proctor = s.proctor ∧
    ((s.bl t).runs = [] → ∃ e ∈ (((s.queueChan t c 0 0).addBlkCmd t id c [c] release).bl t).queue, e.chan = c ∧ e.prio = 0) := by
  refine ⟨State.queueChan_proctor .., fun hr => ?_⟩
  obtain ⟨e, he, hc, hp⟩ := State.queueChan_queuedAt (t := t) (c := c) hb (by rw [hr]; rfl) 0 0
  refine ⟨e, ?_, hc, Nat.le_zero.1 hp⟩
  unfold State.addBlkCmd
  rw [State.bl_updBl (State.queueChan_rising hb 0 0)]
  exact he

theorem blockRun_runs (hb : Map.rising s.blk = true) (ha : s.accepts blockRunDef p o) : let b := s.begun p
    ∃ t : State, exec (.blockRun p) s = .next t ∧ (p.w 0 = 0x4000 → (t.bl p.unit).traceRuns = (b.bl p.unit).traceRuns ++ [b.proctor.nextId]) ∧
      (p.w 0 ≠ 0xFFFF → p.w 0 ≠ 0x4000 → (b.bl p.unit).runs = [] → ∃ e ∈ (t.bl p.unit).queue, e.chan = p.w 0 ∧ e.prio = 0) ∧
      b.runsOn t p o 0x700 := by
  intro b
  have hbb : Map.rising b.blk = true := by rw [State.begun_blk]; exact hb
  refine ⟨_, rfl, ?_⟩
  by_cases hall : p.w 0 = 0xFFFF
  · obtain ⟨l, hact⟩ : ∃ l : List Nat, blockRunDef.act b p o b.proctor.nextId =
        .later ((b.each l (fun s c => s.queueChan p.unit c 0 0)).addBlkCmd p.unit b.proctor.nextId 0xFFFF l false) :=
      ⟨allChans.filter (fun c => !b.detained p.unit c && b.chanThere p.unit c), by simp only [blockRunDef, if_pos hall]⟩
    have hp : (b.each l (fun s c => s.queueChan p.unit c 0 0)).proctor = b.proctor :=
      State.each_keeps State.proctor b l _ fun c u => u.queueChan_proctor p.unit c 0 0
    exact ⟨fun h => absurd (hall.symm.trans h) (by omega), fun h => absurd hall h, (runCmd_later_blk ha hact hp).1⟩
  · by_cases htrace : p.w 0 = 0x4000
    · have hact : blockRunDef.act b p o b.proctor.nextId = .later (b.askTrace p.unit b.proctor.nextId) := (if_neg hall).trans (if_pos htrace)
      obtain ⟨hp, hruns, -⟩ := State.askTrace_bl hbb p.unit b.proctor.nextId
      obtain ⟨hon, hblk⟩ := runCmd_later_blk ha hact hp
      exact ⟨fun _ => by rw [State.bl_of_blk hblk, hruns], fun _ h => absurd htrace h, hon⟩
    · have hact : blockRunDef.act b p o b.proctor.nextId =
          .later ((b.queueChan p.unit (p.w 0) 0 0).addBlkCmd p.unit b.proctor.nextId (p.w 0) [p.w 0] false) := (if_neg hall).trans (if_neg htrace)
      obtain ⟨hp, hq⟩ := State.queueChan_asked hbb p.unit (p.w 0) b.proctor.nextId false
      obtain ⟨hon, hblk⟩ := runCmd_later_blk ha hact hp
      exact ⟨fun h => absurd h htrace, fun _ _ hr => by rw [State.bl_of_blk hblk]; exact hq hr, hon⟩

theorem blockTrace_asks (hb : Map.rising s.blk = true) (ha : s.accepts blockTraceDef p o) : let b := s.begun p
    ∃ t : State, exec (.blockTrace p) s = .next t ∧ (t.bl p.unit).traceRuns = (b.bl p.unit).traceRuns ++ [b.proctor.nextId] ∧
      ((b.bl p.unit).tracing = false → (t.bl p.unit).tracePrio = 0 ∧ (t.bl p.unit).traceDue.isSome = true) ∧ b.runsOn t p o 0x701 := by
  intro b
  obtain ⟨hp, hruns, hdue⟩ := State.askTrace_bl (s := b) (by rw [State.begun_blk]; exact hb) p.unit b.proctor.nextId
  obtain ⟨hon, hblk⟩ := runCmd_later_blk ha (u := b.askTrace p.unit b.proctor.nextId) rfl hp
  refine ⟨_, rfl, ?_, ?_, hon⟩
  · rw [State.bl_of_blk hblk, hruns]
  · rw [State.bl_of_blk hblk]
    exact hdue

theorem blockRelease_runs (hb : Map.rising s.blk = true) (ha : s.accepts blockReleaseDef p o) : let b := s.begun p
    ∃ t : State, exec (.blockRelease p) s = .next t ∧
      ((b.bl p.unit).runs = [] → ∃ e ∈ (t.bl p.unit).queue, e.chan = p.w 0 ∧ e.prio = 0) ∧ b.runsOn t p o 0x702 := by
  intro b
  obtain ⟨hp, hq⟩ := State.queueChan_asked (s := b) (by rw [State.begun_blk]; exact hb) p.unit (p.w 0) b.proctor.nextId true
  obtain ⟨hon, hblk⟩ := runCmd_later_blk ha
    (u := (b.queueChan p.unit (p.w 0) 0 0).addBlkCmd p.unit b.proctor.nextId (p.w 0) [p.w 0] true) rfl hp
  exact ⟨_, rfl, fun hr => by rw [State.bl_of_blk hblk]; exact hq hr, hon⟩

theorem blockQuery_answers (ha : s.accepts blockQueryDef p o) : let b := s.begun p
    exec (.blockQuery p) s = .next (b.replies p
      (leBytes 4 (b.chanStat p.unit (p.w 0)) ++ leBytes 8 (Map.get 0 (b.bl p.unit).done (p.w 0)) ++ zeros 4)) := by
  intro b
  have hact : blockQueryDef.act b p o b.proctor.nextId = .now b stOk 0
    (leBytes 4 (b.chanStat p.unit (p.w 0)) ++ leBytes 8 (Map.get 0 (b.bl p.unit).done (p.w 0)) ++ zeros 4) [] := rfl
  refine congrArg Host.Outcome.next ?_
  rw [runCmd_accepted ha, hact]
  exact State.conclude_plain _ rfl (by decide)

end

end Sys2Proof.Machine

open Sys2Proof Sys2Proof.Machine

/-- Settles O54: queueing, the two triggers, the start and end of a Crown run, the abort, the refusal and the commands, in the order of
the statement. -/
theorem blockingRuns : Obligations.BlockingRuns := by
  unfold Obligations.BlockingRuns
  refine ⟨fun s t c prio diff hb hr => ⟨State.queueChan_queuedAt hb hr prio diff, fun e he hc => State.queueChan_other hb prio diff he hc,
      s.queueChan_keeps t c prio diff, (s.queueChan_leaves t c prio diff).keepsMemory⟩,
    fun n avg s hb => ⟨tempEvaluation_off avg, tempEvaluation_on avg hb⟩,
    fun n chan s => ⟨timetable_queues, timetable_waits⟩,
    fun n slot e s h hb ht => ⟨runStart_idle slot ht, fun ha hs hq h1 h2 hd hr htc hst hm => ?_⟩,
    fun n chan found r s h hb => ?_, fun n chan found s => run_absent, fun n chan r s h hb => runAbort_spec h hb,
    fun p s => ⟨laneRefused_none, fun r hr => laneRefused_some hr⟩,
    fun p s o hb => ⟨blockRun_runs hb, blockTrace_asks hb, blockRelease_runs hb, blockQuery_answers⟩⟩
  · obtain ⟨hrun, hsettle⟩ := runStart_crown ht ha hs hq h1 h2 hd hr htc hst hm
    obtain ⟨hplane, hqueue, hruns, hmem⟩ := State.crownStarted_spec h hb h1 h2 hq hr
    exact ⟨_, hrun, hsettle, hplane, hqueue, hruns, hmem⟩
  · intro c h1 h2 hr hd
    have hc : c / 4096 = 1 := by omega
    constructor
    · intro hl hres
      have hx := runEnd_found (res := 0) hr ((State.runResult_crown hc found).trans (by simp [hl, hres]))
      exact ⟨_, hx, State.runFound_commit_spec h hb hc (by omega) hd found⟩
    · intro hbad
      have hx := runEnd_found (res := if found.limits then 2 else 1) hr ((State.runResult_crown hc found).trans (by
        rcases hbad with hl | hres
        · simp [hl]
        · cases hl : found.limits <;> simp [hres]))
      exact ⟨_, hx, State.runFound_reject_spec h hb hc (by omega) hd (by split <;> decide) (by split <;> decide) found⟩
end

section
/-! SUPPORT. A register table that lists TILE_PWR_CTL of a tile twice (R386). Nothing in the statement asks PWR_TILE_MODE's state to be in
canonical form, and a stored default uncovers the second entry. -/

namespace Sys2Proof.Machine

/-- A module at work on whose tile 5 TILE_PWR_CTL is listed twice: with MODE 1, and behind it with MODE 2. -/
def doubleMode : State :=
  let s := State.reset.setFs [(F.Q_GLOBAL_PROCTOR_READY, 1), (F.TWIN_STAT_STATE, 0)]
  { s with regs := (R.TILE_PWR_CTL 5, 1) :: (R.TILE_PWR_CTL 5, 2) :: s.regs }

/-- PWR_TILE_MODE of tile 5 with MODE 0, from the chain head. -/
def setModeZero : Packet :=
  { path := .chain 0x7F, flags := 0, tag := 7, dataLen := 0, dataAddr := 0, target := 0x0501, params := [0, 0, 0, 0], data := [] }

theorem doubleMode_accepts : doubleMode.accepts pwrTileModeDef setModeZero 3 := by decide +kernel

/-- The tile is in A0, and MODE 0 stored shows as MODE 2. -/
theorem doubleMode_stored : (doubleMode.begun setModeZero).f (F.TILE_PWR_STAT_STATE 5) = 0 ∧
    (doubleMode.begun setModeZero).rd (R.TILE_PWR_CTL 5) = 1 ∧
    ((doubleMode.begun setModeZero).setF (F.TILE_PWR_CTL_MODE 5) 0).rd (R.TILE_PWR_CTL 5) = 2 ∧
    ((doubleMode.begun setModeZero).setF (F.TILE_PWR_CTL_MODE 5) 0).f (F.TILE_PWR_STAT_STATE 5) = 0 := by decide +kernel

/-- What a step's next state shows as tile 5's power state. -/
def powerShown : Host.Outcome State Fault Refusal → Option Nat
  | .next v => some (v.f (F.TILE_PWR_STAT_STATE 5))
  | _ => none

/-- The command sends the tile into D1. -/
theorem doubleMode_enters : powerShown (exec (.pwrTileMode setModeZero) doubleMode) = some 1 := by decide +kernel

end Sys2Proof.Machine

open Sys2Proof Sys2Proof.Machine

/-- Refutes O52: the statement takes any state for PWR_TILE_MODE with MODE 0 or 1 on a tile in A0. Where the register table lists
TILE_PWR_CTL twice, MODE 0 stored removes one entry and uncovers the other, MODE 2, so that the tile begins to enter D1 and the command
runs on in place of its answer. -/
theorem not_tilePowerStates : ¬ Obligations.TilePowerStates := by
  unfold Obligations.TilePowerStates
  rintro ⟨-, -, -, -, -, -, hcommands, -⟩
  obtain ⟨htile, -⟩ := hcommands setModeZero doubleMode 3
  obtain ⟨-, hmode, -⟩ := htile doubleMode_accepts
  obtain ⟨hawake, hold, hnew, hstays⟩ := doubleMode_stored
  have hunit : setModeZero.unit = 5 := by decide
  have hzero : setModeZero.w 0 = 0 := by decide
  obtain ⟨u, ch, hx, hu, hch⟩ := hmode (by decide) (by rw [hunit]; exact hawake)
  rw [hunit, hzero] at hu
  have hne : ch ≠ [] := fun h => by
    have hsame := hch.1 h
    rw [hunit, hu, hold, hnew] at hsame
    exact absurd hsame (by decide)
  have hshown := doubleMode_enters
  rw [hx, powerShown, State.conclude_logged_f rfl (by decide) hne, hu, hstays] at hshown
  exact absurd hshown (by decide)
end

section
/-! SUPPORT. The twin registers and the twin engine's state: what sends, replies, records and assertions leave of them, and the
states that the roles enter (R426 to R444). -/

namespace Sys2Proof.Machine

/-! ### The twin registers left alone -/

/-- The offsets of the twin registers. -/
def twinOffset (off : Nat) : Prop := 0x7000 ≤ off ∧ off < 0x7100

/-- `s` comes from `z` with the time, the twin engine and the twin registers as they were. -/
structure TwinKept (z s : State) : Prop where
  twin : s.twin = z.twin
  bell : s.bell = z.bell
  rd : ∀ off, twinOffset off → s.rd off = z.rd off

section
variable {z s t : State} {x : Fld}

theorem TwinKept.refl (z : State) : TwinKept z z := ⟨rfl, rfl, fun _ _ => rfl⟩

theorem TwinKept.trans (h : TwinKept z s) (k : TwinKept s t) : TwinKept z t :=
  ⟨k.twin.trans h.twin, k.bell.trans h.bell, fun off ho => (k.rd off ho).trans (h.rd off ho)⟩

theorem TwinKept.same (h : TwinKept z s) (hr : t.regs = s.regs) (ht : t.twin = s.twin) (hb : t.bell = s.bell) : TwinKept z t :=
  ⟨ht.trans h.twin, hb.trans h.bell, fun off ho => (State.rd_of_regs hr off).trans (h.rd off ho)⟩

theorem TwinKept.setF (h : TwinKept z s) (hx : ¬ twinOffset x.off) (v : Nat) : TwinKept z (s.setF x v) :=
  ⟨h.twin, h.bell, fun off ho => (State.keepsRegs_setF s x v off fun hm => hx (List.mem_singleton.1 hm ▸ ho)).trans (h.rd off ho)⟩

theorem TwinKept.each {α : Type} (h : TwinKept z s) (l : List α) (f : State → α → State) (hf : ∀ x u, TwinKept u (f u x)) :
    TwinKept z (s.each l f) := by
  induction l generalizing s with
  | nil => exact h
  | cons x xs ih => exact ih (h.trans (hf x s))

theorem TwinKept.f (h : TwinKept z s) (hx : twinOffset x.off) : s.f x = z.f x := State.f_of_rd (h.rd _ hx)

theorem TwinKept.twinState (h : TwinKept z s) : s.twinState = z.twinState := h.f ⟨by decide, by decide⟩

theorem TwinKept.epoch (h : TwinKept z s) : s.epoch = z.epoch := by
  unfold State.epoch State.pair
  rw [h.f (x := F.TWIN_HP_EPOCH_LO) ⟨by decide, by decide⟩, h.f (x := F.TWIN_HP_EPOCH_HI) ⟨by decide, by decide⟩]

theorem not_assertReg_of_twin {off : Nat} (h : twinOffset off) : ¬ assertReg off := by
  obtain ⟨hlo, hhi⟩ := h
  exact not_assertReg_module (by omega) (by omega)

theorem TwinKept.faulted {W : List Nat} (h : Faulted W z s) (hW : ∀ a ∈ W, assertReg a) : TwinKept z s :=
  ⟨by rw [h.1], by rw [h.1], fun off ho => h.2 off fun hm => not_assertReg_of_twin ho (hW off hm)⟩

end

section
variable (s : State)

theorem State.note_twinKept (g : Nat) (e : RecEv) (sev source : Nat) (v : Int) : TwinKept s (s.note g e sev source v) :=
  .faulted (.of_logged (fun _ h => h) (s.note_logged g e sev source v)) fun _ => assertReg_of_log

theorem State.raiseMod_twinKept (bit : Nat) (v : Int) (hold : Bool) : TwinKept s (s.raiseMod bit v hold) :=
  .faulted (s.raiseMod_faulted bit v hold) fun _ => assertReg_of_module

theorem State.fallMod_twinKept {s : State} (h : s.canonical) {i : Nat} (hi : i < 32) : TwinKept s (s.fallMod i) :=
  .faulted (State.fallMod_spec h hi).2 fun a ha => by
    rw [List.mem_singleton.1 ha]
    exact assertReg_of_module (by simp [moduleFaultRegs])

/-- A completion ring's status is no twin register. -/
theorem not_twinOffset_qStat (q : Nat) : ¬ twinOffset (R.Q_STAT q) := by
  simp only [twinOffset, R.Q_STAT]
  omega

variable {s : State}

theorem TwinKept.updLink {z : State} (h : TwinKept z s) (p : Nat) (g : Link → Link) : TwinKept z (s.updLink p g) := h.same rfl rfl rfl

theorem TwinKept.emit {z : State} (h : TwinKept z s) (o : Out) : TwinKept z (s.emit o) := h.same rfl rfl rfl

theorem TwinKept.enqueue {z : State} (h : TwinKept z s) (p : Nat) (fs : List Flit) : TwinKept z (s.enqueue p fs) := h.updLink p _

/-- The offsets of a port's registers. -/
theorem not_twinOffset_port {p c : Nat} : ¬ twinOffset (portBase p + c) := by
  simp only [twinOffset, portBase, tileBase]
  omega

theorem TwinKept.wakeTx {z : State} (h : TwinKept z s) (p : Nat) : TwinKept z (s.wakeTx p) := by
  unfold State.wakeTx
  split
  · exact ((h.updLink p _).setF (x := F.SDS_STAT_STAGE p) not_twinOffset_port 5).emit _
  · exact h

theorem TwinKept.syncXoff {z : State} (h : TwinKept z s) (p : Nat) : TwinKept z (s.syncXoff p) := by
  have hset : ∀ a b : Bool, TwinKept z ((s.setB (F.LINK_FC_RX_XOFF0 p) a).setB (F.LINK_FC_RX_XOFF1 p) b) := fun a b =>
    (h.setF (x := F.LINK_FC_RX_XOFF0 p) not_twinOffset_port _).setF (x := F.LINK_FC_RX_XOFF1 p) not_twinOffset_port _
  have hwake : ∀ (c : Prop) [Decidable c] (u : State), TwinKept z u → TwinKept z (if c then u else u.wakeTx p) := fun c _ u hu => by
    split
    · exact hu
    · exact hu.wakeTx p
  exact hwake _ _ (hset _ _)

theorem State.popRx_twinKept {t : State} {p vc : Nat} {payload : List Byte} (h : s.popRx p vc payload = some t) : TwinKept s t := by
  unfold State.popRx at h
  split at h
  · cases h
  · cases h
    exact ((TwinKept.refl s).updLink p _).syncXoff p

/-! ### Replies (R53, R61) -/

theorem TwinKept.ringWrite {z : State} (h : TwinKept z s) (q : Nat) (r : Reply) : TwinKept z (s.ringWrite q r) := by
  have hstored : TwinKept z (s.ringStored q r) := by
    have hhost : TwinKept z { s with host := Memory.write s.host (s.ringEntry q) (r.bytes (s.ringWord q)) } := h.same rfl rfl rfl
    exact (hhost.setF (x := F.Q_STAT_CQ_TAIL q) (not_twinOffset_qStat q) _).same rfl rfl rfl
  have hshown : TwinKept z ((s.ringStored q r).showFull q) := hstored.setF (x := F.Q_STAT_CQ_FULL q) (not_twinOffset_qStat q) _
  obtain hw | ⟨o, hw⟩ := s.ringWrite_eq q r
  · exact hw ▸ hshown
  · exact hw ▸ hshown.emit o

theorem TwinKept.sendReply {z : State} (h : TwinKept z s) (path : Sys2Proof.Path) (r : Reply) : TwinKept z (s.sendReply path r) := by
  unfold State.sendReply
  cases path with
  | host q =>
    dsimp only
    split
    · exact h
    · split
      · have hq : TwinKept z (s.updQu q fun u => { u with held := u.held ++ [r] }) := h.same rfl rfl rfl
        exact hq.setF (x := F.Q_STAT_CQ_FULL q) (not_twinOffset_qStat q) _
      · exact h.ringWrite q r
  | chain src => exact h.emit _
  | port p =>
    dsimp only
    split
    · exact h.updLink p _
    · exact h
  | site k =>
    dsimp only
    split
    · exact h.enqueue _ _
    · exact h
  | jtag => exact h.emit _
  | mirror => exact h

theorem TwinKept.postFinal {z : State} (h : TwinKept z s) (path : Sys2Proof.Path) (r : Reply) : TwinKept z (s.postFinal path r) := by
  unfold State.postFinal
  split
  · exact h.same rfl rfl rfl
  · have hsent := h.sendReply path r
    unfold State.sendFinal
    dsimp only
    split
    · exact hsent.updLink _ _
    · exact hsent.updLink _ _
    · exact hsent

/-! ### Messages (R428) -/

theorem TwinKept.twinSend {z : State} (h : TwinKept z s) (via : TwinPath) (code : Nat) (body : List Byte) : TwinKept z (s.twinSend via code body) := by
  unfold State.twinSend
  split
  · exact h.enqueue _ _
  · exact h.emit _

theorem TwinKept.sendLease {z : State} (h : TwinKept z s) : TwinKept z s.sendLease :=
  h.each s.twinPaths _ fun via u => (TwinKept.refl u).twinSend via 8 _

theorem TwinKept.sendLeaseAck {z : State} (h : TwinKept z s) (via : TwinPath) (e b : Nat) : TwinKept z (s.sendLeaseAck via e b) :=
  h.twinSend via 9 _

/-- A lease message is only sent: no register and no memory changes. -/
theorem State.sendLease_leaves (s : State) : Leaves (fun _ => True) s s.sendLease := by
  refine (Leaves.refl _ s).each _ _ fun via _ u hu => ?_
  unfold State.twinSend
  split
  · exact hu.enqueue _ _
  · exact hu.emit _

/-- Records that wait for a twin port, once sent, leave the twin engine but for its queue. -/
theorem State.flushMirror_kept (n : Nat) (s : State) :
    (State.flushMirror n s).regs = s.regs ∧ (State.flushMirror n s).bell = s.bell ∧ (State.flushMirror n s).proctor = s.proctor ∧
      ∃ l, (State.flushMirror n s).twin = { s.twin with queue := l } := by
  induction n generalizing s with
  | zero => exact ⟨rfl, rfl, rfl, _, rfl⟩
  | succ n ih =>
    unfold State.flushMirror
    split
    · exact ⟨rfl, rfl, rfl, _, rfl⟩
    · split
      · exact ⟨rfl, rfl, rfl, _, rfl⟩
      · next tu rest _ _ p _ =>
        obtain ⟨hr, hb, hp, l, ht⟩ := ih (({ s with twin := { s.twin with queue := rest } } : State).updLink p fun l =>
          { l with txq := l.txq ++ [({ type := .data, vc := 0, payload := tu.bytes } : Flit)] })
        exact ⟨hr, hb, hp, l, ht⟩

/-- RELEASE leaves the twin engine but for the records that wait to be sent. -/
theorem State.sendRelease_twin (s : State) (reason : Nat) : ∃ l, (s.sendRelease reason).twin = { s.twin with queue := l } := by
  obtain ⟨-, -, -, l, ht⟩ := State.flushMirror_kept s.twin.queue.length s
  refine ⟨l, Eq.trans ?_ ht⟩
  exact State.each_keeps (fun t : State => t.twin) _ _ _ fun via u => ((TwinKept.refl u).twinSend via 10 _).twin

theorem State.sendRelease_proctor (s : State) (reason : Nat) : (s.sendRelease reason).proctor = s.proctor := by
  obtain ⟨-, -, hp, -⟩ := State.flushMirror_kept s.twin.queue.length s
  refine Eq.trans (State.each_keeps (fun t : State => t.proctor) _ _ _ fun via u => ?_) hp
  unfold State.twinSend
  split <;> rfl

/-! ### HP_EPOCH (R428) -/

theorem State.epoch_lt (s : State) : s.epoch < 2 ^ 64 := by
  have hlo := s.f_lt F.TWIN_HP_EPOCH_LO
  have hhi := s.f_lt F.TWIN_HP_EPOCH_HI
  unfold State.epoch State.pair
  simp only [F.TWIN_HP_EPOCH_LO, F.TWIN_HP_EPOCH_HI] at *
  omega

theorem State.epoch_setEpoch (h : s.canonical) (e : Nat) : (s.setEpoch e).epoch = e % 2 ^ 64 := by
  unfold State.epoch State.setEpoch State.setPair State.pair
  rw [State.f_setF_off (x := F.TWIN_HP_EPOCH_HI) (y := F.TWIN_HP_EPOCH_LO) (by decide), State.f_setF_same h.rising _ _ (by decide),
    State.f_setF_same (State.setF_canonical h _ _).rising _ _ (by decide)]
  simp only [F.TWIN_HP_EPOCH_LO, F.TWIN_HP_EPOCH_HI]
  omega

theorem State.setEpoch_f (s : State) (e : Nat) {x : Fld} (hlo : x.off ≠ R.TWIN_HP_EPOCH_LO) (hhi : x.off ≠ R.TWIN_HP_EPOCH_HI) :
    (s.setEpoch e).f x = s.f x := by
  unfold State.setEpoch State.setPair
  rw [State.f_setF_off (x := F.TWIN_HP_EPOCH_HI) hhi, State.f_setF_off (x := F.TWIN_HP_EPOCH_LO) hlo]

theorem State.setEpoch_twinState (s : State) (e : Nat) : (s.setEpoch e).twinState = s.twinState := s.setEpoch_f e (by decide) (by decide)

/-! ### The states of a module of a pair (R427) -/

/-- What TWIN_STAT shows in a twin state. -/
theorem State.setTwin_shows (h : s.canonical) {st : Nat} (hst : st < 8) :
    (s.setTwin st).f F.TWIN_STAT_STATE = st ∧ (s.setTwin st).f F.TWIN_STAT_HOLDER = (if st = 4 ∨ st = 5 then 1 else 0) ∧
      (s.setTwin st).f F.TWIN_STAT_SYNCED = (if st = 3 ∨ st = 4 then 1 else 0) := by
  have hflag : ∀ c : Bool, (if c then 1 else 0) % 2 ^ 1 = if c then 1 else 0 := by decide
  refine ⟨?_, ?_, ?_⟩
  · refine (State.f_setFs_at h _ 0 rfl (by decide) (by simp [Fld.apart, F.TWIN_STAT_STATE, F.TWIN_STAT_HOLDER, F.TWIN_STAT_SYNCED])).trans ?_
    exact Nat.mod_eq_of_lt (by simp only [F.TWIN_STAT_STATE]; omega)
  · refine (State.f_setFs_at h _ 1 rfl (by decide) (by simp [Fld.apart, F.TWIN_STAT_HOLDER, F.TWIN_STAT_SYNCED])).trans ?_
    refine (hflag _).trans ?_
    simp
  · refine (State.f_setFs_at h _ 2 rfl (by decide) (by simp)).trans ?_
    refine (hflag _).trans ?_
    simp

/-- The fields that a twin state sets. -/
def twinStateFields : List Fld := [F.TWIN_STAT_STATE, F.TWIN_STAT_HOLDER, F.TWIN_STAT_SYNCED]

theorem State.setTwin_f (h : s.canonical) (st : Nat) {y : Fld} (hy : ∀ x ∈ twinStateFields, y.apart x) : (s.setTwin st).f y = s.f y := by
  simp only [twinStateFields, List.forall_mem_cons, List.not_mem_nil, false_implies, implies_true, and_true] at hy
  exact State.f_setFs_ne h _ (by simpa using hy)

theorem State.setTwin_keepsRegs (s : State) (st : Nat) : s.keepsRegs (s.setTwin st) [R.TWIN_STAT] :=
  s.keepsRegs_setFs _ (by simp [F.TWIN_STAT_STATE, F.TWIN_STAT_HOLDER, F.TWIN_STAT_SYNCED])

theorem State.setTwin_onlyRegs (s : State) (st : Nat) : s.onlyRegs (s.setTwin st) := (State.onlyRegs.refl s).setFs _

theorem State.setTwin_canonical (h : s.canonical) (st : Nat) : (s.setTwin st).canonical := ((Kept.refl s).setTwin st).2 h

theorem State.setTwin_epoch (s : State) (st : Nat) : (s.setTwin st).epoch = s.epoch := by
  unfold State.epoch State.pair
  rw [(s.setTwin_keepsRegs st).f (x := F.TWIN_HP_EPOCH_LO) (by decide), (s.setTwin_keepsRegs st).f (x := F.TWIN_HP_EPOCH_HI) (by decide)]

theorem State.setTwin_twinState (h : s.canonical) {st : Nat} (hst : st < 8) : (s.setTwin st).twinState = st := (State.setTwin_shows h hst).1

end

end Sys2Proof.Machine
end
section
/-! SUPPORT. Entering RESYNC, taking the Hall Pass, pairing and yielding (R426, R427, R434, R435). -/

namespace Sys2Proof.Machine

section
variable {s : State}

theorem State.epoch_updTwin (s : State) (g : Twin → Twin) : (s.updTwin g).epoch = s.epoch := rfl

theorem State.onlyRegs.twin {t : State} (h : s.onlyRegs t) : t.twin = s.twin := by rw [h.eq]

theorem State.twinState_of {t : State} {W : List Nat} (h : s.keepsRegs t W) (hW : R.TWIN_STAT ∉ W) : t.twinState = s.twinState :=
  h.f (x := F.TWIN_STAT_STATE) hW

theorem State.epoch_of {t : State} {W : List Nat} (h : s.keepsRegs t W) (hlo : R.TWIN_HP_EPOCH_LO ∉ W) (hhi : R.TWIN_HP_EPOCH_HI ∉ W) :
    t.epoch = s.epoch := by
  unfold State.epoch State.pair
  rw [h.f (x := F.TWIN_HP_EPOCH_LO) hlo, h.f (x := F.TWIN_HP_EPOCH_HI) hhi]

/-! ### RESYNC (R427, R440) -/

/-- The twin engine of a module that enters RESYNC. -/
def Twin.resynced (w : Twin) : Twin :=
  { w with waits := [], done := [], doneAcked := [], asm := [], queue := [], frames := [], resyncing := false, released := none, planned := false,
           begun := false, copyDone := false, syncedAt := none, revertDue := false, ackedLease := none, resetAfter := none, want := none }

/-- Held completions that are dropped leave the twin registers. -/
theorem State.dropHolds_twinKept (s : State) : TwinKept (s.updTwin fun t => { t with waits := [] }) s.dropHolds := by
  refine (TwinKept.refl _).each _ _ fun w u => ?_
  split
  · exact (TwinKept.refl u).postFinal _ _
  · exact .refl u

/-- The registers that entering RESYNC writes. -/
def State.resyncShown (s : State) : State := (s.setTwin 2).setFs [(F.TWIN_MIRROR_N, 0), (F.TWIN_RESYNC_N, 0)]

theorem State.resyncShown_onlyRegs (s : State) : s.onlyRegs s.resyncShown := (s.setTwin_onlyRegs 2).setFs _

theorem State.resyncShown_keepsRegs (s : State) : s.keepsRegs s.resyncShown [R.TWIN_STAT, R.TWIN_MIRROR, R.TWIN_RESYNC] :=
  ((s.setTwin_keepsRegs 2).mono (by simp)).trans (State.keepsRegs_setFs _ _ (by simp [F.TWIN_MIRROR_N, F.TWIN_RESYNC_N]))

theorem State.resyncShown_f (s : State) {y : Fld} (hm : y.off ≠ R.TWIN_MIRROR) (hr : y.off ≠ R.TWIN_RESYNC) :
    s.resyncShown.f y = (s.setTwin 2).f y :=
  State.keepsRegs.f (W := [R.TWIN_MIRROR, R.TWIN_RESYNC]) (State.keepsRegs_setFs _ _ (by simp [F.TWIN_MIRROR_N, F.TWIN_RESYNC_N])) (by simp [hm, hr])

theorem State.enterResync_regs (s : State) : s.enterResync.regs = s.dropHolds.resyncShown.regs := rfl

theorem State.enterResync_twin (s : State) : s.enterResync.twin = s.twin.resynced := by
  have h : s.dropHolds.twin = { s.twin with waits := [] } := s.dropHolds_twinKept.twin
  unfold State.enterResync
  simp only [State.updTwin, State.setFs_twin, State.setTwin, h, Twin.resynced]

theorem State.enterResync_canonical (h : s.canonical) : s.enterResync.canonical := ((Kept.refl s).enterResync).2 h

theorem State.dropHolds_canonical (h : s.canonical) : s.dropHolds.canonical := ((Kept.refl s).dropHolds).2 h

/-- A module that enters RESYNC keeps the fields of the twin registers but for its state and what is mirrored. -/
theorem State.enterResync_f (h : s.canonical) {y : Fld} (ho : twinOffset y.off) (hm : y.off ≠ R.TWIN_MIRROR) (hr : y.off ≠ R.TWIN_RESYNC)
    (hy : ∀ x ∈ twinStateFields, y.apart x) : s.enterResync.f y = s.f y :=
  calc s.enterResync.f y = s.dropHolds.resyncShown.f y := State.f_of_regs s.enterResync_regs y
    _ = (s.dropHolds.setTwin 2).f y := State.resyncShown_f _ hm hr
    _ = s.dropHolds.f y := State.setTwin_f (State.dropHolds_canonical h) 2 hy
    _ = s.f y := s.dropHolds_twinKept.f ho

theorem State.enterResync_twinState (h : s.canonical) : s.enterResync.twinState = 2 :=
  (State.f_of_regs s.enterResync_regs F.TWIN_STAT_STATE).trans <| (State.resyncShown_f (y := F.TWIN_STAT_STATE) _ (by decide) (by decide)).trans (State.setTwin_twinState (State.dropHolds_canonical h) (by decide))

theorem State.enterResync_epoch (h : s.canonical) : s.enterResync.epoch = s.epoch := by
  unfold State.epoch State.pair
  rw [State.enterResync_f h (y := F.TWIN_HP_EPOCH_LO) ⟨by decide, by decide⟩ (by decide) (by decide) (by decide),
    State.enterResync_f h (y := F.TWIN_HP_EPOCH_HI) ⟨by decide, by decide⟩ (by decide) (by decide) (by decide)]

/-! ### The Hall Pass taken (R434) -/

/-- The epoch of a takeover. -/
def State.nextEpoch (s : State) : State :=
  ((s.setEpoch (s.epoch + 1)).policy tgtModule R.TWIN_HP_EPOCH_LO (some (leBytes 8 s.epoch)) (some (leBytes 8 (s.epoch + 1)))).raiseMod 12

/-- The twin engine of a module that takes the Hall Pass. -/
def Twin.taking (w : Twin) (planned : Bool) : Twin :=
  { w with planned := planned, released := none, resyncing := false, queue := [], frames := [], ackedLease := none, acked := w.sent, asm := [],
           waits := [], syncedAt := none, revertDue := false, resetAfter := none }

/-- A module that has taken the Hall Pass, before it claims its streams and operations. -/
def State.holdingAlone (s : State) (planned : Bool) : State :=
  (((s.nextEpoch.setTwin 5).setF F.TWIN_STAT_CAUSE 0).bump F.TWIN_CNT_HANDOVER).updTwin fun w => w.taking planned

theorem State.policy_same (s : State) (target off : Nat) (old new : Option (List Byte)) :
    (s.policy target off old new).regs = s.regs ∧ (s.policy target off old new).twin = s.twin ∧ (s.policy target off old new).bell = s.bell ∧
      (s.policy target off old new).streams = s.streams ∧ (s.policy target off old new).work = s.work := ⟨rfl, rfl, rfl, rfl, rfl⟩

theorem State.nextEpoch_spec (h : s.canonical) :
    s.nextEpoch.canonical ∧ s.nextEpoch.epoch = (s.epoch + 1) % 2 ^ 64 ∧ s.nextEpoch.twin = s.twin ∧ s.nextEpoch.streams = s.streams ∧
      s.nextEpoch.work = s.work ∧ s.nextEpoch.f F.TWIN_CNT_HANDOVER = s.f F.TWIN_CNT_HANDOVER := by
  obtain ⟨hr, ht, -, hs, hw⟩ := (s.setEpoch (s.epoch + 1)).policy_same tgtModule R.TWIN_HP_EPOCH_LO (some (leBytes 8 s.epoch)) (some (leBytes 8 (s.epoch + 1)))
  have hcan : s.nextEpoch.canonical :=
    (((Kept.refl s).setPair F.TWIN_HP_EPOCH_LO F.TWIN_HP_EPOCH_HI (s.epoch + 1)).policy _ _ _ _ |>.raiseMod 12 0 false).2 h
  unfold State.nextEpoch at hcan ⊢
  generalize (s.setEpoch (s.epoch + 1)).policy tgtModule R.TWIN_HP_EPOCH_LO (some (leBytes 8 s.epoch)) (some (leBytes 8 (s.epoch + 1))) = v
    at hr ht hs hw hcan
  have hraise := v.raiseMod_faulted 12 0 false
  have hkept := v.raiseMod_twinKept 12 0 false
  have hepoch : v.epoch = (s.setEpoch (s.epoch + 1)).epoch := State.epoch_of (W := []) (fun off _ => State.rd_of_regs hr off) (by simp) (by simp)
  refine ⟨hcan, ?_, hkept.twin.trans ht, ?_, ?_, ?_⟩
  · rw [hkept.epoch, hepoch, State.epoch_setEpoch h]
  · rw [hraise.1]
    exact hs
  · rw [hraise.1]
    exact hw
  · rw [hkept.f (x := F.TWIN_CNT_HANDOVER) ⟨by decide, by decide⟩, State.f_of_regs hr]
    exact s.setEpoch_f _ (by decide) (by decide)

theorem State.adoptReply_kept (s : State) (r : Running) : (s.adoptReply r).regs = s.regs ∧ (s.adoptReply r).twin = s.twin ∧
    (s.adoptReply r).bell = s.bell ∧ (s.adoptReply r).streams = s.streams := by
  unfold State.adoptReply
  split
  · exact ⟨rfl, rfl, rfl, rfl⟩
  · dsimp only
    split <;> exact ⟨rfl, rfl, rfl, rfl⟩

/-- The mirrored jobs that a new holder completes post their replies here. -/
def State.repliesAdopted (s : State) : State :=
  s.each (s.proctor.running.filter fun r => r.opcode == 0x400 && decide (r.pkt.path = .mirror)) State.adoptReply

theorem State.repliesAdopted_twinKept (s : State) : TwinKept s s.repliesAdopted :=
  (TwinKept.refl s).each _ _ fun r u =>
    have ⟨hr, ht, hb, _⟩ := u.adoptReply_kept r
    (TwinKept.refl u).same hr ht hb

theorem State.repliesAdopted_streams (s : State) : s.repliesAdopted.streams = s.streams :=
  State.each_keeps (fun t : State => t.streams) _ _ _ fun r u => (u.adoptReply_kept r).2.2.2

theorem State.streamKeys_nil (h : s.streams.slots = []) : s.streamKeys = [] := by rw [State.streamKeys, h]; rfl

theorem State.ctxKeys_nil (h : s.work.ctxs = []) : s.ctxKeys = [] := by rw [State.ctxKeys, h]; rfl

theorem State.pumpStreams_none (h : s.streams.slots = []) : s.pumpStreams = s := by
  rw [State.pumpStreams, State.streamKeys_nil h]
  rfl

/-- The streams of a new holder, claimed. -/
def State.streamsClaimed (s : State) : State := s.each s.streamKeys State.claimStream

/-- The operations of a new holder, stopped. -/
def State.opsStopped (s : State) : State :=
  s.each s.ctxKeys fun s n => match s.group n with
    | some g => if g.cur.isSome then s.stopOps n 0x8503 0 4 0xFFFF 255 else s
    | none => s

theorem State.takeHallPass_steps (s : State) (planned : Bool) : s.takeHallPass planned =
    ((State.drainRecords s.waitingRecords.length s).holdingAlone planned).streamsClaimed.opsStopped.repliesAdopted.pumpStreams.sendLease := by
  unfold State.takeHallPass State.holdingAlone State.nextEpoch
  generalize State.drainRecords s.waitingRecords.length s = v
  rfl

/-- With no record, stream or collective context open, taking the Hall Pass is its own state, the jobs adopted, and a LEASE. -/
theorem State.takeHallPass_eq (h : s.canonical) (hw : s.waitingRecords = []) (hs : s.streams.slots = []) (hc : s.work.ctxs = []) (planned : Bool) :
    s.takeHallPass planned = (s.holdingAlone planned).repliesAdopted.sendLease := by
  obtain ⟨-, -, -, hstreams, hwork, -⟩ := State.nextEpoch_spec h
  have hs4 : (s.holdingAlone planned).streams.slots = [] := (congrArg Streams.slots hstreams).trans hs
  have hc4 : (s.holdingAlone planned).work.ctxs = [] := (congrArg Work.ctxs hwork).trans hc
  have hs7 : (s.holdingAlone planned).repliesAdopted.streams.slots = [] := (congrArg Streams.slots (State.repliesAdopted_streams _)).trans hs4
  have hdrain : State.drainRecords s.waitingRecords.length s = s := by rw [hw]; rfl
  have hclaimed : (s.holdingAlone planned).streamsClaimed = s.holdingAlone planned := by
    rw [State.streamsClaimed, State.streamKeys_nil hs4]
    rfl
  have hstopped : (s.holdingAlone planned).opsStopped = s.holdingAlone planned := by
    rw [State.opsStopped, State.ctxKeys_nil hc4]
    rfl
  rw [State.takeHallPass_steps, hdrain, hclaimed, hstopped, State.pumpStreams_none hs7]

theorem State.holdingAlone_spec (h : s.canonical) (planned : Bool) : let u := s.holdingAlone planned
    u.f F.TWIN_STAT_STATE = 5 ∧ u.f F.TWIN_STAT_HOLDER = 1 ∧ u.f F.TWIN_STAT_CAUSE = 0 ∧ u.epoch = (s.epoch + 1) % 2 ^ 64 ∧
      u.f F.TWIN_CNT_HANDOVER = min (s.f F.TWIN_CNT_HANDOVER + 1) (2 ^ 32 - 1) ∧ u.twin = s.twin.taking planned := by
  obtain ⟨hcan, hepoch, htwin, -, -, hcnt⟩ := State.nextEpoch_spec h
  have hcan5 := State.setTwin_canonical hcan 5
  have hcan6 := State.setF_canonical hcan5 F.TWIN_STAT_CAUSE 0
  obtain ⟨hstate, hholder, -⟩ := State.setTwin_shows hcan (st := 5) (by decide)
  have hbump : ∀ y : Fld, y.off ≠ R.TWIN_CNT_HANDOVER →
      (s.holdingAlone planned).f y = ((s.nextEpoch.setTwin 5).setF F.TWIN_STAT_CAUSE 0).f y := fun y hy => State.bump_f_off hy 1
  have hcause : ∀ y : Fld, y.off ≠ R.TWIN_CNT_HANDOVER → y.apart F.TWIN_STAT_CAUSE → (s.holdingAlone planned).f y = (s.nextEpoch.setTwin 5).f y :=
    fun y hy ha => (hbump y hy).trans (State.f_setF_ne hcan5 ha 0)
  dsimp only
  refine ⟨?_, ?_, ?_, ?_, ?_, ?_⟩
  · exact (hcause _ (by decide) (by decide)).trans hstate
  · exact (hcause _ (by decide) (by decide)).trans hholder
  · exact (hbump _ (by decide)).trans (State.f_setF_same hcan5.rising _ _ (by decide))
  · have hpair : (s.holdingAlone planned).epoch = (s.nextEpoch.setTwin 5).epoch := by
      unfold State.epoch State.pair
      rw [hcause F.TWIN_HP_EPOCH_LO (by decide) (by decide), hcause F.TWIN_HP_EPOCH_HI (by decide) (by decide)]
    rw [hpair, State.setTwin_epoch, hepoch]
  · refine (State.f_bump_same hcan6.rising (by decide) 1).trans ?_
    rw [State.f_setF_off (x := F.TWIN_STAT_CAUSE) (y := F.TWIN_CNT_HANDOVER) (by decide), (s.nextEpoch.setTwin_keepsRegs 5).f (by decide), hcnt]
    rfl
  · have htwin5 : (s.nextEpoch.setTwin 5).twin = s.twin := (s.nextEpoch.setTwin_onlyRegs 5).twin.trans htwin
    exact congrArg (fun w => Twin.taking w planned) htwin5

end

end Sys2Proof.Machine
end
section
/-! SUPPORT. Pairing, lease messages and yielding (R426 to R435, R442). -/

namespace Sys2Proof.Machine

section
variable {s : State} {h : PairHello}

/-! ### Pairing (R426) -/

theorem State.hello_unread (hr : s.f F.TWIN_STAT_HOME = 0 ∨ (s.twinState ≠ 1 ∧ s.twinState ≠ 5)) (h : PairHello) : s.hello h = s := by
  unfold State.hello
  refine if_pos ?_
  obtain h0 | ⟨h1, h5⟩ := hr
  · simp [h0]
  · simp [h1, h5]

/-- Is a hello of another stepping, firmware, microcode or pair node? -/
def State.helloDiffers (s : State) (h : PairHello) : Prop :=
  h.stepping ≠ s.ownHello.stepping ∨ h.fw ≠ s.ownHello.fw ∨ h.ucode ≠ s.ownHello.ucode ∨ h.pairNode ≠ s.ownHello.pairNode

theorem State.hello_differs (hh : s.f F.TWIN_STAT_HOME ≠ 0) (hst : s.twinState = 1 ∨ s.twinState = 5) (hd : s.helloDiffers h) :
    s.hello h = s.pairMismatch := by
  unfold State.hello
  dsimp only
  refine (if_neg ?_).trans (if_pos ?_)
  · obtain h1 | h1 := hst <;> simp [h1, hh]
  · simpa [State.helloDiffers, or_assoc] using hd

/-- The home-standby that pairs hears the home-active module and becomes its standby. -/
theorem State.hello_standby (hst : s.twinState = 1) (hd : ¬ s.helloDiffers h) (hid : s.twin.identity.getD h.idHash = h.idHash)
    (hh : s.f F.TWIN_STAT_HOME = 2) (hr : h.home = 1) : s.hello h = (s.updTwin fun t => { t with partner := some h }).pairUp h false := by
  have hsame : (match s.twin.identity with | some x => !decide (x = h.idHash) | none => false) = false := by
    cases hi : s.twin.identity with
    | none => rfl
    | some x => simpa [hi] using hid
  unfold State.hello
  dsimp only
  refine (if_neg ?_).trans ((if_neg ?_).trans ((if_neg ?_).trans ((if_neg ?_).trans ?_)))
  · simp [hst, hh]
  · simpa [State.helloDiffers, or_assoc] using hd
  · exact (Bool.eq_false_iff.1 hsame)
  · simp [hh, hr]
  · rw [hh]
    rfl

theorem State.pairMismatch_spec (hc : s.canonical) :
    s.pairMismatch.f F.TWIN_STAT_STATE = 7 ∧ s.pairMismatch.f F.TWIN_STAT_CAUSE = 1 ∧ s.keepsRegs s.pairMismatch (R.TWIN_STAT :: logRegs) ∧
      s.onlyLog s.pairMismatch := by
  have hcan := State.setTwin_canonical hc 7
  have honly : s.onlyRegs ((s.setTwin 7).setF F.TWIN_STAT_CAUSE 1) := (s.setTwin_onlyRegs 7).setF _ _
  have hkeep : s.keepsRegs ((s.setTwin 7).setF F.TWIN_STAT_CAUSE 1) [R.TWIN_STAT] := (s.setTwin_keepsRegs 7).trans (State.keepsRegs_setF _ F.TWIN_STAT_CAUSE 1)
  have hstate : ((s.setTwin 7).setF F.TWIN_STAT_CAUSE 1).f F.TWIN_STAT_STATE = 7 :=
    (State.f_setF_ne hcan (by decide) 1).trans (State.setTwin_twinState hc (by decide))
  have hcause : ((s.setTwin 7).setF F.TWIN_STAT_CAUSE 1).f F.TWIN_STAT_CAUSE = 1 := State.f_setF_same hcan.rising _ _ (by decide)
  unfold State.pairMismatch
  generalize (s.setTwin 7).setF F.TWIN_STAT_CAUSE 1 = v at honly hkeep hstate hcause
  have hlog := v.note_logged 0xA .pairingRefused 3 tgtModule 0
  have hk := v.note_twinKept 0xA .pairingRefused 3 tgtModule 0
  refine ⟨(hk.f ⟨by decide, by decide⟩).trans hstate, (hk.f ⟨by decide, by decide⟩).trans hcause, ?_, ?_⟩
  · exact (hkeep.mono (by simp)).trans (State.keepsRegs.mono hlog.2 fun _ => List.mem_cons_of_mem _)
  · have h1 := hlog.1
    unfold State.onlyLog at h1 ⊢
    generalize v.note 0xA .pairingRefused 3 tgtModule = n at h1
    exact h1.trans (by rw [honly.eq])

/-- LEASE_T as the home-active module's hello gives it. -/
theorem State.leaseSet_f (hc : s.canonical) (n : BitVec 5) :
    (s.policyReg tgtModule R.TWIN_CFG (F.TWIN_CFG_LEASE_T.ins (s.rd R.TWIN_CFG) (max 4 n.toNat))).f F.TWIN_CFG_LEASE_T = max 4 n.toNat := by
  have hn := n.isLt
  unfold State.f
  rw [show F.TWIN_CFG_LEASE_T.off = R.TWIN_CFG from rfl, State.policyReg_rd_same hc, Fld.ext_ins _ _ _ (by decide)]
  exact Nat.mod_eq_of_lt (by simp only [F.TWIN_CFG_LEASE_T]; omega)

/-- What a paired module shows of its partner. -/
def partnerFields (h : PairHello) : List (Fld × Nat) :=
  [(F.TWIN_PARTNER_NODE, h.node.toNat), (F.TWIN_STAT_PARTNER_MCH, h.chain.toNat), (F.TWIN_STAT_CAUSE, 0)]

theorem State.partnerFields_shown (hc : s.canonical) (h : PairHello) :
    (s.setFs (partnerFields h)).f F.TWIN_PARTNER_NODE = h.node.toNat ∧ (s.setFs (partnerFields h)).f F.TWIN_STAT_PARTNER_MCH = h.chain.toNat ∧
      s.keepsRegs (s.setFs (partnerFields h)) [R.TWIN_PARTNER, R.TWIN_STAT] ∧ (s.setFs (partnerFields h)).twinState = s.twinState := by
  refine ⟨?_, ?_, s.keepsRegs_setFs _ ?_, ?_⟩
  · refine (State.f_setFs_at hc (partnerFields h) 0 rfl (by decide) ?_).trans (Nat.mod_eq_of_lt h.node.isLt)
    simp [partnerFields, Fld.apart, F.TWIN_PARTNER_NODE, F.TWIN_STAT_PARTNER_MCH, F.TWIN_STAT_CAUSE, R.TWIN_PARTNER, R.TWIN_STAT]
  · refine (State.f_setFs_at hc (partnerFields h) 1 rfl (by decide) ?_).trans (Nat.mod_eq_of_lt h.chain.isLt)
    simp [partnerFields, Fld.apart, F.TWIN_STAT_PARTNER_MCH, F.TWIN_STAT_CAUSE]
  · simp [partnerFields, F.TWIN_PARTNER_NODE, F.TWIN_STAT_PARTNER_MCH, F.TWIN_STAT_CAUSE]
  · exact State.f_setFs_ne hc _ (by
      simp [partnerFields, Fld.apart, F.TWIN_STAT_STATE, F.TWIN_PARTNER_NODE, F.TWIN_STAT_PARTNER_MCH, F.TWIN_STAT_CAUSE, R.TWIN_PARTNER, R.TWIN_STAT])

/-- A home-standby that has paired: LEASE_T, partner and epoch known. -/
def State.pairedWith (s : State) (h : PairHello) : State :=
  let s1 := s.policyReg tgtModule R.TWIN_CFG (F.TWIN_CFG_LEASE_T.ins (s.rd R.TWIN_CFG) (max 4 h.leaseT.toNat))
  ((s1.setFs (partnerFields h)).setEpoch (max 1 s1.epoch)).updTwin fun t => { t with partner := some h, identity := some (t.identity.getD h.idHash) }

theorem State.pairedWith_spec (hc : s.canonical) (h : PairHello) :
    (s.pairedWith h).canonical ∧ (s.pairedWith h).f F.TWIN_PARTNER_NODE = h.node.toNat ∧ (s.pairedWith h).f F.TWIN_STAT_PARTNER_MCH = h.chain.toNat ∧
      (s.pairedWith h).f F.TWIN_CFG_LEASE_T = max 4 h.leaseT.toNat ∧ (s.pairedWith h).epoch = max 1 s.epoch ∧
      (s.pairedWith h).twinState = s.twinState := by
  have hcan1 : (s.policyReg tgtModule R.TWIN_CFG (F.TWIN_CFG_LEASE_T.ins (s.rd R.TWIN_CFG) (max 4 h.leaseT.toNat))).canonical :=
    ((Kept.refl s).policyReg _ _ _).2 hc
  have hlease := State.leaseSet_f hc h.leaseT
  have hkeep1 : s.keepsRegs (s.policyReg tgtModule R.TWIN_CFG (F.TWIN_CFG_LEASE_T.ins (s.rd R.TWIN_CFG) (max 4 h.leaseT.toNat))) [R.TWIN_CFG] :=
    fun off ho => s.policyReg_rd tgtModule (by simpa using ho) _
  unfold State.pairedWith
  dsimp only
  generalize s.policyReg tgtModule R.TWIN_CFG (F.TWIN_CFG_LEASE_T.ins (s.rd R.TWIN_CFG) (max 4 h.leaseT.toNat)) = s1 at hcan1 hlease hkeep1
  obtain ⟨hnode, hmch, hkeep2, hst⟩ := State.partnerFields_shown hcan1 h
  have hcan2 : (s1.setFs (partnerFields h)).canonical := State.setFs_canonical hcan1 _
  generalize s1.setFs (partnerFields h) = s2 at hnode hmch hkeep2 hst hcan2
  have hcan3 : (s2.setEpoch (max 1 s1.epoch)).canonical := ((Kept.refl s2).setEpoch _).2 hcan2
  refine ⟨((Kept.refl _).updTwin _).2 hcan3, ?_, ?_, ?_, ?_, ?_⟩
  · rw [State.updTwin_f, s2.setEpoch_f _ (by decide) (by decide), hnode]
  · rw [State.updTwin_f, s2.setEpoch_f _ (by decide) (by decide), hmch]
  · rw [State.updTwin_f, s2.setEpoch_f _ (by decide) (by decide), hkeep2.f (by decide), hlease]
  · have hepoch : s1.epoch = s.epoch := State.epoch_of hkeep1 (by decide) (by decide)
    have hlt := s.epoch_lt
    rw [State.epoch_updTwin, State.epoch_setEpoch hcan2, hepoch]
    omega
  · rw [State.twinState, State.updTwin_f, ← State.twinState, s2.setEpoch_twinState, hst, State.twinState_of hkeep1 (by decide)]

theorem State.policyReg_twin (s : State) (target off : Nat) (w : Word) : (s.policyReg target off w).twin = s.twin := by
  unfold State.policyReg
  split <;> rfl

theorem State.pairedWith_twin (s : State) (h : PairHello) :
    (s.pairedWith h).twin = { s.twin with partner := some h, identity := some (s.twin.identity.getD h.idHash) } := by
  have h1 := s.policyReg_twin tgtModule R.TWIN_CFG (F.TWIN_CFG_LEASE_T.ins (s.rd R.TWIN_CFG) (max 4 h.leaseT.toNat))
  unfold State.pairedWith
  dsimp only
  generalize s.policyReg tgtModule R.TWIN_CFG (F.TWIN_CFG_LEASE_T.ins (s.rd R.TWIN_CFG) (max 4 h.leaseT.toNat)) = s1 at h1
  have h2 : (s1.setFs (partnerFields h)).twin = s.twin := (State.setFs_twin ..).trans h1
  exact congrArg (fun t : Twin => { t with partner := some h, identity := some (t.identity.getD h.idHash) }) h2

theorem State.pairUp_standby (hc : s.canonical) (hh : s.f F.TWIN_STAT_HOME = 2) (hst : s.twinState = 1) (h : PairHello) :
    s.pairUp h false = (s.pairedWith h).enterResync := by
  have hpaired : s.pairUp h false = if (s.pairedWith h).twinState ≠ 1 then s.pairedWith h
      else if false && (s.pairedWith h).silentFor (s.pairedWith h).leaseUs then (s.pairedWith h).setTwin 5 else (s.pairedWith h).enterResync := by
    unfold State.pairUp State.pairedWith partnerFields
    rw [if_neg (show ¬ s.f F.TWIN_STAT_HOME = 1 by rw [hh]; decide)]
  obtain ⟨-, -, -, -, -, hst2⟩ := State.pairedWith_spec hc h
  rw [hpaired, if_neg (by rw [hst2]; exact not_not.2 hst), if_neg (by simp)]

/-- The home-standby that hears the home-active module knows its partner and resynchronises (R426). -/
theorem exec_pairHello_standby {via : TwinPath} (hc : s.canonical) (hv : s.twinVia via = true) (hst : s.twinState = 1) (hd : ¬ s.helloDiffers h)
    (hid : s.twin.identity.getD h.idHash = h.idHash) (hh : s.f F.TWIN_STAT_HOME = 2) (hr : h.home = 1) :
    ∃ u : State, exec (.pairHello via h) s = .next u ∧ u.f F.TWIN_STAT_STATE = 2 ∧ u.f F.TWIN_PARTNER_NODE = h.node.toNat ∧
      u.f F.TWIN_STAT_PARTNER_MCH = h.chain.toNat ∧ u.f F.TWIN_CFG_LEASE_T = max 4 h.leaseT.toNat ∧ u.epoch = max 1 s.epoch ∧
      u.twin.partner = some h ∧ u.twin.identity = some h.idHash := by
  have hs0 : ∀ x, (s.updTwin fun t => { t with partner := some h }).f x = s.f x := fun _ => rfl
  have hc0 : (s.updTwin fun t => { t with partner := some h }).canonical := ((Kept.refl s).updTwin _).2 hc
  have hid0 : (s.updTwin fun t => { t with partner := some h }).twin.identity = s.twin.identity := rfl
  have he0 : (s.updTwin fun t => { t with partner := some h }).epoch = s.epoch := rfl
  have hexec : exec (.pairHello via h) s = .next (s.hello h) := congrArg _ (if_pos hv)
  rw [hexec, State.hello_standby hst hd hid hh hr]
  generalize (s.updTwin fun t => { t with partner := some h }) = v at hs0 hc0 hid0 he0
  rw [State.pairUp_standby hc0 ((hs0 _).trans hh) ((hs0 F.TWIN_STAT_STATE).trans hst)]
  obtain ⟨hcan, hnode, hmch, hlease, hepoch, -⟩ := State.pairedWith_spec hc0 h
  have htwin := v.pairedWith_twin h
  rw [hid0, hid] at htwin
  rw [he0] at hepoch
  generalize v.pairedWith h = w at hcan hnode hmch hlease hepoch htwin
  have hrt := w.enterResync_twin
  rw [htwin] at hrt
  refine ⟨_, rfl, State.enterResync_twinState hcan, ?_, ?_, ?_, (State.enterResync_epoch hcan).trans hepoch, ?_, ?_⟩
  · exact (State.enterResync_f hcan (y := F.TWIN_PARTNER_NODE) ⟨by decide, by decide⟩ (by decide) (by decide) (by decide)).trans hnode
  · exact (State.enterResync_f hcan (y := F.TWIN_STAT_PARTNER_MCH) ⟨by decide, by decide⟩ (by decide) (by decide) (by decide)).trans hmch
  · exact (State.enterResync_f hcan (y := F.TWIN_CFG_LEASE_T) ⟨by decide, by decide⟩ (by decide) (by decide) (by decide)).trans hlease
  · rw [hrt, Twin.resynced]
  · rw [hrt, Twin.resynced]

end

end Sys2Proof.Machine
end
section
/-! SUPPORT. Lease messages, yielding and the timers of a pair (R427 to R435, R442). -/

namespace Sys2Proof.Machine

section
variable {s : State} {via : TwinPath} {e b : Nat}

theorem State.updTwin_twin (s : State) (g : Twin → Twin) : (s.updTwin g).twin = g s.twin := rfl

theorem State.twinState_updTwin (s : State) (g : Twin → Twin) : (s.updTwin g).twinState = s.twinState := rfl

theorem State.updTwin_canonical (h : s.canonical) (g : Twin → Twin) : (s.updTwin g).canonical := ((Kept.refl s).updTwin g).2 h

/-! ### A path heard again (R430) -/

/-- A lease message seen may clear TWIN_PATH and start the revert hold; nothing else changes. -/
theorem State.pathSeen_spec (h : s.canonical) : s.pathSeen.canonical ∧ s.pathSeen.bell = s.bell ∧ s.keepsRegs s.pathSeen [R.MFLVL_SRC] ∧
    ∃ o, s.pathSeen.twin = { s.twin with syncedAt := o } := by
  have hfall := (State.fallMod_spec h (i := 13) (by decide)).2
  have hkept := State.fallMod_twinKept h (i := 13) (by decide)
  have hcan : (s.fallMod 13).canonical := ((Kept.refl s).fallMod 13).2 h
  unfold State.pathSeen
  dsimp only
  split
  · exact ⟨h, rfl, fun _ _ => rfl, _, rfl⟩
  · split
    · exact ⟨State.updTwin_canonical hcan _, hkept.bell, hfall.2, some (s.fallMod 13).bell, by
        rw [State.updTwin_twin, hkept.twin]⟩
    · exact ⟨hcan, hkept.bell, hfall.2, s.twin.syncedAt, hkept.twin⟩

theorem State.pathSeen_twinState (h : s.canonical) : s.pathSeen.twinState = s.twinState :=
  State.twinState_of (State.pathSeen_spec h).2.2.1 (by decide)

theorem State.pathSeen_epoch (h : s.canonical) : s.pathSeen.epoch = s.epoch :=
  State.epoch_of (State.pathSeen_spec h).2.2.1 (by decide) (by decide)

/-! ### Yielding (R434, R435) -/

theorem State.raiseMod_twinState (s : State) (bit : Nat) (v : Int) (hold : Bool) : (s.raiseMod bit v hold).twinState = s.twinState :=
  (s.raiseMod_twinKept bit v hold).twinState

/-- A module whose running handover has ended. -/
def State.handoverEnded (s : State) : State :=
  (match s.twin.handover with | some id => s.finishParam id stOk 0 | none => s).updTwin fun t => { t with handover := none }

theorem State.handoverEnded_canonical (h : s.canonical) : s.handoverEnded.canonical := by
  refine State.updTwin_canonical ?_ _
  split
  · exact ((Kept.refl s).finishParam _ _ _ _ _).2 h
  · exact h

theorem State.yield_eq (s : State) (planned : Bool) : s.yield planned =
    (if planned then (s.handoverEnded.enterResync.setTwin 3).updTwin fun t =>
        { t with syncedAt := if s.handoverEnded.enterResync.bothPaths then some s.handoverEnded.enterResync.bell else none }
      else s.handoverEnded.enterResync).raiseMod 12 := by
  unfold State.yield State.handoverEnded
  rfl

/-- A module that hands the Hall Pass over is SYNCED where the handover was planned, and in RESYNC else. -/
theorem State.yield_twinState (h : s.canonical) (planned : Bool) : (s.yield planned).twinState = if planned then 3 else 2 := by
  have hv := State.handoverEnded_canonical h
  rw [State.yield_eq, State.raiseMod_twinState]
  cases planned with
  | false => exact State.enterResync_twinState hv
  | true =>
    rw [if_pos rfl, if_pos rfl, State.twinState_updTwin]
    exact State.setTwin_twinState (State.enterResync_canonical hv) (by decide)

theorem State.yield_canonical (h : s.canonical) (planned : Bool) : (s.yield planned).canonical := ((Kept.refl s).yield planned).2 h

/-! ### LEASE (R428) -/

/-- The epoch of a lease taken, and its answer. -/
def State.leaseTaken (s : State) (via : TwinPath) (e b : Nat) : State := (s.setEpoch e).sendLeaseAck via e b

theorem State.leaseTaken_spec (h : s.canonical) (he : e < 2 ^ 64) :
    (s.leaseTaken via e b).epoch = e ∧ (s.leaseTaken via e b).twinState = s.twinState ∧ (s.leaseTaken via e b).twin = s.twin := by
  have hsent := (TwinKept.refl (s.setEpoch e)).sendLeaseAck via e b
  exact ⟨hsent.epoch.trans ((State.epoch_setEpoch h e).trans (Nat.mod_eq_of_lt he)), hsent.twinState.trans (s.setEpoch_twinState e), hsent.twin⟩

theorem State.sendRelease_regs (s : State) (reason : Nat) : (s.sendRelease reason).regs = s.regs := by
  refine (State.each_keeps (fun t : State => t.regs) _ _ _ fun via u => ?_).trans (State.flushMirror_kept s.twin.queue.length s).1
  unfold State.twinSend
  split <;> rfl

/-- Asking for the Hall Pass back changes no register, and of the twin engine its queue and what was released. -/
theorem State.revert_spec (s : State) : s.revert.regs = s.regs ∧ s.revert.twin.leasePort = s.twin.leasePort ∧
    s.revert.twin.leaseChain = s.twin.leaseChain := by
  obtain ⟨l, hl⟩ := s.sendRelease_twin 2
  unfold State.revert
  split
  · refine ⟨s.sendRelease_regs 2, ?_, ?_⟩
    · rw [State.updTwin_twin, hl]
    · rw [State.updTwin_twin, hl]
  · exact ⟨rfl, rfl, rfl⟩

/-- The time of a lease noted, by its path. -/
def Twin.leaseSeen (w : Twin) (via : TwinPath) (at_ : Nat) : Twin :=
  match via with
  | .port _ => { w with leasePort := some at_ }
  | .chain _ => { w with leaseChain := some at_ }

/-- A module that has noted a lease of its partner. -/
def State.leaseNoted (s : State) (via : TwinPath) : State := (s.updTwin fun t => t.leaseSeen via s.bell).pathSeen

theorem State.lease_unheard (h : s.fromPartner via = false ∨ e < s.epoch) : s.lease via e b = s ∧ s.leaseAck via e b = s ∧ ∀ r, s.release via e r = s := by
  have hc : (!s.fromPartner via || decide (e < s.epoch)) = true := by
    obtain h | h := h <;> simp [h]
  exact ⟨if_pos hc, if_pos hc, fun _ => if_pos hc⟩

theorem State.heard (h : s.fromPartner via = true) (he : s.epoch ≤ e) : ¬ (!s.fromPartner via || decide (e < s.epoch)) = true := by
  simp [h, Nat.not_lt.2 he]

theorem State.lease_heard (h : s.fromPartner via = true) (he : s.epoch ≤ e) : s.lease via e b =
    let s1 := s.leaseNoted via
    if s1.twinState = 2 || s1.twinState = 3 then (s1.leaseTaken via e b).revert
    else if s1.twinState = 6 then s1.enterResync.leaseTaken via e b
    else if (s1.twinState = 4 || s1.twinState = 5) && s1.epoch < e then (s1.yield s1.twin.planned).leaseTaken via e b
    else s1 := by
  cases via <;> exact if_neg (State.heard h he)

theorem State.leaseNoted_spec (h : s.canonical) (via : TwinPath) : (s.leaseNoted via).canonical ∧ (s.leaseNoted via).bell = s.bell ∧
    s.keepsRegs (s.leaseNoted via) [R.MFLVL_SRC] ∧ (∃ o, (s.leaseNoted via).twin = { s.twin.leaseSeen via s.bell with syncedAt := o }) ∧
    (s.leaseNoted via).twinState = s.twinState ∧ (s.leaseNoted via).epoch = s.epoch := by
  have hc : (s.updTwin fun t => t.leaseSeen via s.bell).canonical := State.updTwin_canonical h _
  have hr : s.keepsRegs (s.updTwin fun t => t.leaseSeen via s.bell) [R.MFLVL_SRC] := fun _ _ => rfl
  obtain ⟨hcan, hbell, hregs, htwin⟩ := State.pathSeen_spec hc
  exact ⟨hcan, hbell, fun off ho => (hregs off ho).trans (hr off ho), htwin, State.pathSeen_twinState hc, State.pathSeen_epoch hc⟩

/-- The path's time of a noted lease. -/
def Twin.heardAt (w : Twin) (via : TwinPath) (at_ : Nat) : Prop :=
  match via with
  | .port _ => w.leasePort = some at_
  | .chain _ => w.leaseChain = some at_

theorem Twin.leaseSeen_heardAt (w : Twin) (via : TwinPath) (at_ : Nat) : (w.leaseSeen via at_).heardAt via at_ := by cases via <;> rfl

theorem Twin.heardAt_of {v w : Twin} {at_ : Nat} (h : w.heardAt via at_) (hp : v.leasePort = w.leasePort) (hc : v.leaseChain = w.leaseChain) :
    v.heardAt via at_ := by
  cases via with
  | port p => exact hp.trans h
  | chain c => exact hc.trans h

/-- A standby renews its lease (R428). -/
theorem State.lease_standby (h : s.canonical) (hp : s.fromPartner via = true) (he : s.epoch ≤ e) (hlt : e < 2 ^ 64)
    (hst : s.twinState = 2 ∨ s.twinState = 3) :
    (s.lease via e b).epoch = e ∧ (s.lease via e b).twinState = s.twinState ∧ (s.lease via e b).twin.heardAt via s.bell := by
  obtain ⟨hcan, -, -, ⟨o, htwin⟩, hstate, -⟩ := State.leaseNoted_spec h via
  have hl : s.lease via e b = ((s.leaseNoted via).leaseTaken via e b).revert := by
    rw [State.lease_heard hp he]
    refine if_pos ?_
    rw [hstate]
    obtain h2 | h3 := hst
    · simp [h2]
    · simp [h3]
  obtain ⟨hepoch, hstate2, htwin2⟩ := State.leaseTaken_spec (via := via) (b := b) hcan hlt
  rw [hl]
  generalize (s.leaseNoted via).leaseTaken via e b = v at hepoch hstate2 htwin2
  obtain ⟨hregs, hport, hchain⟩ := v.revert_spec
  have hk : v.keepsRegs v.revert [] := fun off _ => State.rd_of_regs hregs off
  refine ⟨(State.epoch_of hk (by simp) (by simp)).trans hepoch, (State.twinState_of hk (by simp)).trans (hstate2.trans hstate), ?_⟩
  refine Twin.heardAt_of (Twin.heardAt_of (Twin.leaseSeen_heardAt s.twin via s.bell) (v := v.twin) ?_ ?_) hport hchain
  · rw [htwin2, htwin]
  · rw [htwin2, htwin]

/-- A fenced module enters RESYNC at its successor's lease (R427). -/
theorem State.lease_fenced (h : s.canonical) (hp : s.fromPartner via = true) (he : s.epoch ≤ e) (hlt : e < 2 ^ 64) (hst : s.twinState = 6) :
    (s.lease via e b).twinState = 2 ∧ (s.lease via e b).epoch = e := by
  obtain ⟨hcan, -, -, -, hstate, -⟩ := State.leaseNoted_spec h via
  have hl : s.lease via e b = (s.leaseNoted via).enterResync.leaseTaken via e b := by
    rw [State.lease_heard hp he]
    refine (if_neg ?_).trans (if_pos (hstate.trans hst))
    rw [hstate, hst]
    decide
  obtain ⟨hepoch, hstate2, -⟩ := State.leaseTaken_spec (via := via) (b := b) (State.enterResync_canonical hcan) hlt
  rw [hl]
  exact ⟨hstate2.trans (State.enterResync_twinState hcan), hepoch⟩

/-- A holder yields to a newer epoch (R434). -/
theorem State.lease_yields (h : s.canonical) (hp : s.fromPartner via = true) (hlt : e < 2 ^ 64) (hst : s.twinState = 4 ∨ s.twinState = 5)
    (hnew : s.epoch < e) :
    (s.lease via e b).epoch = e ∧ (s.lease via e b).twinState = if s.twin.planned then 3 else 2 := by
  obtain ⟨hcan, -, -, ⟨o, htwin⟩, hstate, hep⟩ := State.leaseNoted_spec h via
  have hplanned : (s.leaseNoted via).twin.planned = s.twin.planned := by
    rw [htwin]
    cases via <;> rfl
  have hl : s.lease via e b = ((s.leaseNoted via).yield s.twin.planned).leaseTaken via e b := by
    rw [State.lease_heard hp hnew.le]
    dsimp only
    rw [hplanned, hstate, hep]
    refine (if_neg ?_).trans ((if_neg ?_).trans (if_pos ?_))
    · obtain h4 | h5 := hst
      · simp [h4]
      · simp [h5]
    · omega
    · obtain h4 | h5 := hst
      · simp [h4, hnew]
      · simp [h5, hnew]
  obtain ⟨hepoch, hstate2, -⟩ := State.leaseTaken_spec (via := via) (b := b) (State.yield_canonical hcan s.twin.planned) hlt
  rw [hl]
  exact ⟨hepoch, hstate2.trans (State.yield_twinState hcan _)⟩

/-- A home-active standby whose hold has run out asks for the Hall Pass back (R442). -/
theorem State.lease_reverts (h : s.canonical) (hp : s.fromPartner via = true) (he : s.epoch ≤ e) (hlt : e < 2 ^ 64) (hst : s.twinState = 3)
    (hr : s.twin.revertDue = true) : (s.lease via e b).twin.released = some 2 ∧ (s.lease via e b).twin.revertDue = false := by
  obtain ⟨hcan, -, -, ⟨o, htwin⟩, hstate, -⟩ := State.leaseNoted_spec h via
  have hl : s.lease via e b = ((s.leaseNoted via).leaseTaken via e b).revert := by
    rw [State.lease_heard hp he]
    refine if_pos ?_
    rw [hstate]
    simp [hst]
  obtain ⟨-, hstate2, htwin2⟩ := State.leaseTaken_spec (via := via) (b := b) hcan hlt
  have hdue : ((s.leaseNoted via).leaseTaken via e b).twin.revertDue = true := by
    rw [htwin2, htwin]
    cases via <;> exact hr
  rw [hl]
  generalize (s.leaseNoted via).leaseTaken via e b = v at hstate2 hdue
  have hrev : v.revert = (v.sendRelease 2).updTwin fun t => { t with released := some 2, revertDue := false } :=
    if_pos (by simp [hstate2.trans (hstate.trans hst), hdue])
  rw [hrev]
  exact ⟨rfl, rfl⟩

/-! ### LEASE_ACK (R432, R434, R435) -/

/-- The time of a LEASE_ACK noted, and of the lease that it answers. -/
def Twin.ackSeen (w : Twin) (via : TwinPath) (at_ bell : Nat) : Twin :=
  match via with
  | .port _ => { w with ackPort := some at_, ackedLease := latest w.ackedLease (some bell) }
  | .chain _ => { w with ackChain := some at_, ackedLease := latest w.ackedLease (some bell) }

/-- A module that has noted a LEASE_ACK of its partner. -/
def State.ackNoted (s : State) (via : TwinPath) (bell : Nat) : State := (s.updTwin fun t => t.ackSeen via s.bell bell).pathSeen

theorem State.ackNoted_spec (h : s.canonical) (via : TwinPath) (b : Nat) : (s.ackNoted via b).canonical ∧
    s.keepsRegs (s.ackNoted via b) [R.MFLVL_SRC] ∧ (∃ o, (s.ackNoted via b).twin = { s.twin.ackSeen via s.bell b with syncedAt := o }) ∧
    (s.ackNoted via b).twinState = s.twinState := by
  have hc : (s.updTwin fun t => t.ackSeen via s.bell b).canonical := State.updTwin_canonical h _
  have hr : s.keepsRegs (s.updTwin fun t => t.ackSeen via s.bell b) [R.MFLVL_SRC] := fun _ _ => rfl
  obtain ⟨hcan, -, hregs, htwin⟩ := State.pathSeen_spec hc
  exact ⟨hcan, fun off ho => (hregs off ho).trans (hr off ho), htwin, State.pathSeen_twinState hc⟩

theorem State.leaseAck_heard (h : s.fromPartner via = true) (he : s.epoch ≤ e) : s.leaseAck via e b =
    let s1 := s.ackNoted via b
    match s1.twin.released with
    | some 0 => if s1.twinState = 4 || s1.twinState = 5 then s1.yield false else s1
    | some 2 => if s1.twinState = 3 then s1.takeHallPass true else s1
    | some _ => s1
    | none =>
      if s1.twinState ≠ 5 then s1
      else if s1.twin.planned then (s1.setTwin 4).updTwin (fun t => { t with planned := false })
      else if !s1.twin.resyncing && (allPorts.any (fun p => isTwinPort p && s1.twinUp p)) then s1.startResync
      else s1 := by
  cases via <;> exact if_neg (State.heard h he)

/-- A holder whose release is answered stands by (R434). -/
theorem State.leaseAck_released (h : s.canonical) (hp : s.fromPartner via = true) (he : s.epoch ≤ e) (hst : s.twinState = 4 ∨ s.twinState = 5)
    (hr : s.twin.released = some 0) : (s.leaseAck via e b).twinState = 2 := by
  obtain ⟨hcan, -, ⟨o, htwin⟩, hstate⟩ := State.ackNoted_spec h via b
  have hrel : (s.ackNoted via b).twin.released = some 0 := by
    rw [htwin]
    cases via <;> exact hr
  have hl : s.leaseAck via e b = (s.ackNoted via b).yield false := by
    rw [State.leaseAck_heard hp he]
    dsimp only
    rw [hrel, hstate]
    refine if_pos ?_
    obtain h4 | h5 := hst
    · simp [h4]
    · simp [h5]
  rw [hl]
  exact State.yield_twinState hcan false

/-- A holder after a planned handover is HOLDER once its partner answers (R435). -/
theorem State.leaseAck_planned (h : s.canonical) (hp : s.fromPartner via = true) (he : s.epoch ≤ e) (hst : s.twinState = 5)
    (hr : s.twin.released = none) (hpl : s.twin.planned = true) : (s.leaseAck via e b).twinState = 4 ∧ (s.leaseAck via e b).twin.planned = false ∧
      (s.leaseAck via e b).twin.ackedLease = latest s.twin.ackedLease (some b) := by
  obtain ⟨hcan, -, ⟨o, htwin⟩, hstate⟩ := State.ackNoted_spec h via b
  have hrel : (s.ackNoted via b).twin.released = none ∧ (s.ackNoted via b).twin.planned = true ∧
      (s.ackNoted via b).twin.ackedLease = latest s.twin.ackedLease (some b) := by
    rw [htwin]
    cases via <;> exact ⟨hr, hpl, rfl⟩
  obtain ⟨hrel, hplan, hacked⟩ := hrel
  have hl : s.leaseAck via e b = ((s.ackNoted via b).setTwin 4).updTwin fun t => { t with planned := false } := by
    rw [State.leaseAck_heard hp he]
    dsimp only
    rw [hrel]
    exact (if_neg (not_not.2 (hstate.trans hst))).trans (if_pos hplan)
  have ht4 : ((s.ackNoted via b).setTwin 4).twin = (s.ackNoted via b).twin := ((s.ackNoted via b).setTwin_onlyRegs 4).twin
  rw [hl, State.twinState_updTwin, State.updTwin_twin, ht4]
  exact ⟨State.setTwin_twinState hcan (by decide), rfl, hacked⟩

/-- A module that asked for the Hall Pass back takes it once it is answered (R442). -/
theorem State.leaseAck_reverts (h : s.canonical) (hp : s.fromPartner via = true) (he : s.epoch ≤ e) (hst : s.twinState = 3)
    (hr : s.twin.released = some 2) : ∃ v, s.leaseAck via e b = (v : State).takeHallPass true ∧ s.keepsRegs v [R.MFLVL_SRC] := by
  obtain ⟨-, hregs, ⟨o, htwin⟩, hstate⟩ := State.ackNoted_spec h via b
  have hrel : (s.ackNoted via b).twin.released = some 2 := by
    rw [htwin]
    cases via <;> exact hr
  refine ⟨_, ?_, hregs⟩
  rw [State.leaseAck_heard hp he]
  dsimp only
  rw [hrel]
  exact if_pos (hstate.trans hst)

/-! ### RELEASE (R434, R442) -/

theorem State.release_taken (hp : s.fromPartner via = true) (he : s.epoch ≤ e) {r : Nat} (hr : r ≤ 1) :
    (s.twinState = 3 → s.release via e r = (s.sendLeaseAck via e s.bell).takeHallPass (r == 1)) ∧
      (s.twinState = 2 → s.release via e r = s.note 0xA .holderChange 3 tgtModule) := by
  unfold State.release
  dsimp only
  rw [if_neg (State.heard hp he), if_pos hr]
  exact ⟨fun h3 => if_pos h3, fun h2 => (if_neg (by omega)).trans (if_pos h2)⟩

theorem State.release_reverts (hp : s.fromPartner via = true) (he : s.epoch ≤ e) (hst : s.twinState = 4) :
    (s.release via e 2).twin.released = some 1 ∧ (s.release via e 2).twin.planned = true := by
  have hl : s.release via e 2 =
      ((State.flushMirror s.twin.queue.length s).updTwin fun t => { t with released := some 1, planned := true }).sendLeaseAck via e s.bell := by
    unfold State.release
    dsimp only
    rw [if_neg (State.heard hp he), if_neg (by decide), if_pos (by simp [hst])]
  rw [hl, ((TwinKept.refl _).sendLeaseAck via e s.bell).twin]
  exact ⟨rfl, rfl⟩

end

end Sys2Proof.Machine
end
section
/-! SUPPORT. The timers of a pair, its mirror records and its commands (R430 to R444). -/

namespace Sys2Proof.Machine

/-- A command that is accepted passes the state checks of its own (R58 step 8). -/
theorem State.verdict_pre {s : State} {d : CmdDef} {p : Packet} {o : Nat} (h : s.verdict d p o = none) : d.pre s p o = none := by
  unfold State.verdict at h
  dsimp only at h
  split at h
  · cases h
  · unfold State.verdict8 at h
    split at h
    · cases h
    · split at h
      · cases h
      · split at h
        · cases h
        · exact h

/-! ### Messages (R426, R428) -/

section
variable (s : State) (via : TwinPath) (e bell mseq : BitVec 64)

theorem exec_pairHello (h : PairHello) : exec (.pairHello via h) s = .next (if s.twinVia via then s.hello h else s) := rfl

theorem exec_lease (lt : BitVec 32) (health : BitVec 8) : exec (.lease via e bell lt mseq health) s = .next (s.lease via e.toNat bell.toNat) := rfl

theorem exec_leaseAck : exec (.leaseAck via e bell mseq) s = .next (s.leaseAck via e.toNat bell.toNat) := rfl

theorem exec_release (reason : BitVec 8) : exec (.release via e mseq reason) s = .next (s.release via e.toNat reason.toNat) := rfl

end

/-! ### Timers (R427 to R434) -/

section
variable {s : State}

theorem exec_partnerWaitTimeout_due (h : s.canonical) (hst : s.twinState = 1) (hh : s.f F.TWIN_STAT_HOME = 1)
    (hb : ∃ b, s.twin.readyAt = some b ∧ b + 1000000 ≤ s.bell) :
    ∃ u : State, exec .partnerWaitTimeout s = .next u ∧ u.f F.TWIN_STAT_STATE = 5 ∧ u.f F.TWIN_STAT_HOLDER = 1 ∧ u.epoch = max 1 s.epoch ∧ s.onlyRegs u := by
  obtain ⟨b, hr, hb⟩ := hb
  have hexec : exec .partnerWaitTimeout s = .next ((s.setTwin 5).setEpoch (max 1 s.epoch)) :=
    congrArg _ (if_pos (by simp [hst, hh, hr, hb]))
  obtain ⟨hstate, hholder, -⟩ := State.setTwin_shows h (st := 5) (by decide)
  have hlt := s.epoch_lt
  refine ⟨_, hexec, ?_, ?_, ?_, (s.setTwin_onlyRegs 5).setPair _ _ _⟩
  · exact (State.setEpoch_f _ _ (by decide) (by decide)).trans hstate
  · exact (State.setEpoch_f _ _ (by decide) (by decide)).trans hholder
  · rw [State.epoch_setEpoch (State.setTwin_canonical h 5)]
    omega

theorem exec_partnerWaitTimeout_off (h : s.twinState ≠ 1 ∨ s.f F.TWIN_STAT_HOME ≠ 1 ∨ s.twin.readyAt = none) :
    exec .partnerWaitTimeout s = .next s := by
  refine congrArg _ (if_neg ?_)
  obtain h | h | h := h <;> simp [h]

/-- A module that does not hold the Hall Pass has no lease to renew and nothing to fence. -/
theorem exec_holderTimers_off (h4 : s.twinState ≠ 4) (h5 : s.twinState ≠ 5) :
    exec .leaseRenewalDue s = .next s ∧ exec .selfFence s = .next s ∧ exec .selfDiagnosisFail s = .next s := by
  refine ⟨congrArg _ (if_neg ?_), congrArg _ (if_neg ?_), if_pos ?_⟩ <;> simp [h4, h5]

/-- The holder's state, as the model's tests read it. -/
theorem State.holds_of (h : s.twinState = 4 ∨ s.twinState = 5) : (s.twinState == 4 || s.twinState == 5) = true := by
  obtain h | h := h <;> simp [h]

theorem exec_leaseRenewalDue_sends (h : s.twinState = 4 ∨ s.twinState = 5) (hp : s.paired = true) (hr : s.twin.released = none) :
    exec .leaseRenewalDue s = .next s.sendLease := congrArg _ (if_pos (by simp [State.holds_of h, hp, hr]))

theorem State.fenceSelf_spec (h : s.canonical) : s.fenceSelf.f F.TWIN_STAT_STATE = 6 ∧ s.fenceSelf.f F.TWIN_STAT_CAUSE = 4 ∧
    s.fenceSelf.f F.TWIN_STAT_HOLDER = 0 ∧ s.keepsRegs s.fenceSelf [R.TWIN_STAT] ∧ s.fenceSelf.twin.queue = [] := by
  have hcan := State.setTwin_canonical h 6
  obtain ⟨hstate, hholder, -⟩ := State.setTwin_shows h (st := 6) (by decide)
  have hregs : s.fenceSelf.regs = ((s.setTwin 6).setF F.TWIN_STAT_CAUSE 4).regs := rfl
  refine ⟨?_, ?_, ?_, ?_, rfl⟩
  · exact (State.f_of_regs hregs _).trans ((State.f_setF_ne hcan (by decide) 4).trans hstate)
  · exact (State.f_of_regs hregs _).trans (State.f_setF_same hcan.rising _ _ (by decide))
  · exact (State.f_of_regs hregs _).trans ((State.f_setF_ne hcan (by decide) 4).trans hholder)
  · exact fun off ho => (State.rd_of_regs hregs off).trans (((s.setTwin_keepsRegs 6).trans (State.keepsRegs_setF _ F.TWIN_STAT_CAUSE 4)) off ho)

theorem exec_selfFence_due (h : s.twinState = 4 ∨ s.twinState = 5) (hb : ∃ b, s.twin.ackedLease = some b ∧ b + s.leaseUs ≤ s.bell) :
    exec .selfFence s = .next s.fenceSelf := by
  obtain ⟨b, ha, hb⟩ := hb
  exact congrArg _ (if_pos (by simp [State.holds_of h, ha, hb]))

theorem exec_selfDiagnosisFail_releases (h : s.twinState = 4 ∨ s.twinState = 5) (hp : s.paired = true) (hr : s.twin.released = none)
    (hd : s.diagnosisFails = true) :
    exec .selfDiagnosisFail s = .next ((s.sendRelease 0).updTwin fun t => { t with released := some 0, resetAfter := some (s.bell + 1000) }) :=
  if_neg (by simp [State.holds_of h, hp, hr, hd])

/-- The lease has run out: nothing seen for LEASE_T + 100 µs (R431). -/
def State.leaseOver (s : State) : Prop := ∃ b, latest s.twin.leasePort s.twin.leaseChain = some b ∧ b + s.leaseUs + 100 ≤ s.bell

theorem exec_leaseExpiry_over (h : s.leaseOver) : (s.twinState = 3 → exec .leaseExpiry s = .next (s.takeHallPass false)) ∧
    (s.twinState = 2 ∨ s.twinState = 6 → exec .leaseExpiry s = .next (s.note 0xA .holderChange 3 tgtModule)) := by
  obtain ⟨b, hl, hb⟩ := h
  have hdue : exec .leaseExpiry s = match s.twinState with
      | 3 => .next (s.takeHallPass false)
      | 1 => .next (s.note 0xA .holderChange 3 tgtModule)
      | 2 => .next (s.note 0xA .holderChange 3 tgtModule)
      | 6 => .next (s.note 0xA .holderChange 3 tgtModule)
      | _ => .next s := if_neg (by simp [hl, hb])
  rw [hdue]
  refine ⟨fun h3 => ?_, fun h26 => ?_⟩
  · rw [h3]
    rfl
  · obtain h2 | h6 := h26
    · rw [h2]
      rfl
    · rw [h6]
      rfl

theorem exec_leaseExpiry_early (h : ∀ b, latest s.twin.leasePort s.twin.leaseChain = some b → s.bell < b + s.leaseUs + 100) :
    exec .leaseExpiry s = .next s := by
  refine if_pos ?_
  cases hl : latest s.twin.leasePort s.twin.leaseChain with
  | none => rfl
  | some b => simpa using h b hl

/-- Taking the Hall Pass with nothing open (R434). -/
theorem State.takeHallPass_spec (h : s.canonical) (hw : s.waitingRecords = []) (hs : s.streams.slots = []) (hc : s.work.ctxs = []) (planned : Bool) :
    let u := s.takeHallPass planned
    u.f F.TWIN_STAT_STATE = 5 ∧ u.f F.TWIN_STAT_HOLDER = 1 ∧ u.f F.TWIN_STAT_CAUSE = 0 ∧ u.epoch = (s.epoch + 1) % 2 ^ 64 ∧
      u.f F.TWIN_CNT_HANDOVER = min (s.f F.TWIN_CNT_HANDOVER + 1) (2 ^ 32 - 1) ∧ u.twin.waits = [] ∧ u.twin.released = none := by
  obtain ⟨hstate, hholder, hcause, hepoch, hcnt, htwin⟩ := State.holdingAlone_spec h planned
  dsimp only
  rw [State.takeHallPass_eq h hw hs hc planned]
  generalize s.holdingAlone planned = v at hstate hholder hcause hepoch hcnt htwin
  have hk : TwinKept v v.repliesAdopted.sendLease := v.repliesAdopted_twinKept.sendLease
  have hf : ∀ x : Fld, twinOffset x.off → v.repliesAdopted.sendLease.f x = v.f x := fun _ hx => hk.f hx
  refine ⟨(hf _ ⟨by decide, by decide⟩).trans hstate, (hf _ ⟨by decide, by decide⟩).trans hholder, (hf _ ⟨by decide, by decide⟩).trans hcause,
    hk.epoch.trans hepoch, (hf _ ⟨by decide, by decide⟩).trans hcnt, ?_, ?_⟩
  · rw [hk.twin, htwin, Twin.taking]
  · rw [hk.twin, htwin, Twin.taking]

/-! ### Paths, breaks and resynchronisation (R430, R438 to R442) -/

theorem State.mirrorBreak_spec (h : s.canonical) : s.mirrorBreak.f F.TWIN_STAT_STATE = 2 ∧ s.mirrorBreak.twin.done = [] ∧ s.mirrorBreak.twin.copyDone = false := by
  have hc : (s.note 0xA .twinResync 2 tgtModule).canonical := ((Kept.refl s).note ..).2 h
  have ht := (s.note 0xA .twinResync 2 tgtModule).enterResync_twin
  refine ⟨State.enterResync_twinState hc, ?_, ?_⟩
  · rw [State.mirrorBreak, ht, Twin.resynced]
  · rw [State.mirrorBreak, ht, Twin.resynced]

theorem exec_twinPortsUnreachable_off (h : s.paired = false ∨ (allPorts.any fun p => isTwinPort p && s.twinUp p) = true) :
    exec .twinPortsUnreachable s = .next s := by
  refine if_pos ?_
  obtain h | h := h <;> rw [h] <;> simp

theorem exec_twinPortsUnreachable_on (hp : s.paired = true) (hn : (allPorts.any fun p => isTwinPort p && s.twinUp p) = false) :
    (s.twinState = 3 → exec .twinPortsUnreachable s = .next s.mirrorBreak) ∧
      (s.twinState = 4 → (∃ b, s.twin.ackChain = some b ∧ s.bell ≤ b + s.leaseUs) → exec .twinPortsUnreachable s = .next s.standbyLost) := by
  have hoff : ¬ ((allPorts.any fun p => isTwinPort p && s.twinUp p) || !s.paired) = true := by rw [hn, hp]; decide
  refine ⟨fun h3 => ?_, fun h4 hb => ?_⟩
  · exact (if_neg hoff).trans ((if_neg (by simp [h3])).trans (if_pos h3))
  · obtain ⟨b, ha, hb⟩ := hb
    exact (if_neg hoff).trans (if_pos (by simp [h4, ha, hb]))

theorem exec_resyncComplete_holder (h : s.canonical) (hst : s.twinState = 5) (hr : s.twin.resyncing = true) (hq : s.twin.queue = [])
    (hf : s.twin.frames = []) (ha : ∀ e ∈ s.twin.sent, Map.get 0 s.twin.acked e.1 = e.2) :
    ∃ u : State, exec .resyncComplete s = .next u ∧ u.twinState = 4 ∧ u.f F.TWIN_STAT_SYNCED = 1 ∧ u.twin.resyncing = false := by
  have hcan := State.setTwin_canonical h 4
  obtain ⟨hstate, -, hsynced⟩ := State.setTwin_shows h (st := 4) (by decide)
  have hset : ∀ y : Fld, y.apart F.TWIN_STAT_CAUSE → y.apart F.TWIN_RESYNC_N →
      ((s.setTwin 4).setFs [(F.TWIN_STAT_CAUSE, 0), (F.TWIN_RESYNC_N, 0)]).f y = (s.setTwin 4).f y := fun y h1 h2 =>
    State.f_setFs_ne hcan _ (by simpa using ⟨h1, h2⟩)
  refine ⟨_, if_pos ?_, ?_, ?_, rfl⟩
  · simpa [hst, hr, hq, hf] using fun a b hm => ha (a, b) hm
  · exact (hset _ (by decide) (by decide)).trans hstate
  · exact (hset _ (by decide) (by decide)).trans hsynced

theorem exec_resyncComplete_standby (h : s.canonical) (hst : s.twinState = 2) (hd : s.twin.copyDone = true) (hm : s.twin.asm = [])
    (ha : ∀ e ∈ s.twin.done, Map.get 0 s.twin.doneAcked e.1 = e.2) :
    ∃ u : State, exec .resyncComplete s = .next u ∧ u.twinState = 3 ∧ u.f F.TWIN_STAT_SYNCED = 1 := by
  obtain ⟨hstate, -, hsynced⟩ := State.setTwin_shows h (st := 3) (by decide)
  refine ⟨_, (if_neg ?_).trans (if_pos ?_), hstate, hsynced⟩
  · simp [hst]
  · simpa [hst, hd, hm] using fun a b hm => ha (a, b) hm

theorem exec_revertHoldExpiry_due (hst : s.twinState = 3) (hh : s.f F.TWIN_STAT_HOME = 1) (he : s.f F.TWIN_CFG_REVERT_EN = 1) (hb : s.bothPaths = true)
    (hd : ∃ b, s.twin.syncedAt = some b ∧ b + s.f F.TWIN_CFG_REVERT_HOLD * 1000000 ≤ s.bell) :
    exec .revertHoldExpiry s = .next (s.updTwin fun t => { t with revertDue := true }) := by
  obtain ⟨b, hs, hb'⟩ := hd
  exact congrArg _ (if_pos (by simp [hst, hh, State.b, he, hb, hs, hb']))

theorem exec_revertHoldExpiry_off (h : s.twinState ≠ 3 ∨ s.f F.TWIN_CFG_REVERT_EN = 0) : exec .revertHoldExpiry s = .next s := by
  refine congrArg _ (if_neg ?_)
  obtain h | h := h <;> simp [h, State.b]

end

/-! ### Mirror records (R436 to R440) -/

section
variable {s s1 : State} {p : Port} {bytes : List Byte}

theorem exec_holderNotice_off {v : Via} (h : s.notHolder = false ∨ (Tu.parse bytes).type = 0 ∨ 3 < (Tu.parse bytes).type) :
    exec (.holderNotice v bytes) s = .next s := by
  refine if_pos ?_
  obtain h | h | h := h <;> simp [h]

theorem exec_holderNotice_on {v : Via} (h : s.notHolder = true) (h0 : (Tu.parse bytes).type ≠ 0) (h3 : (Tu.parse bytes).type ≤ 3) :
    exec (.holderNotice v bytes) s = .next
      (s.takeTu v.code 0 bytes (fun s tu => match s.tuStream v.code tu with | .error s1 => s1 | .ok _ => s)) :=
  if_neg (by simp [h, h0, h3])

theorem exec_mirror_other (h : (Tu.parse bytes).type ≠ 9) : exec (.mirror p bytes) s = .next s := if_pos h

theorem exec_mirror_off (h : (Tu.parse bytes).type = 9) (hu : s.twinUp p.val = false ∨ (s.twinState ≠ 2 ∧ s.twinState ≠ 3)) :
    exec (.mirror p bytes) s = .next ((s.popRx p.val 0 (fitBytes 232 bytes)).getD s) := by
  refine (if_neg (not_not.2 h)).trans (if_pos ?_)
  obtain hu | ⟨h2, h3⟩ := hu
  · simp [hu]
  · simp [h2, h3]

/-- The tests of a record at a module that executes records. -/
theorem State.takesRecords (hu : s.twinUp p.val = true) (hst : s.twinState = 2 ∨ s.twinState = 3) :
    ¬ (!s.twinUp p.val || !(s.twinState == 2 || s.twinState == 3)) = true := by
  obtain h | h := hst <;> simp [hu, h]

theorem exec_mirror_next (h : (Tu.parse bytes).type = 9) (hu : s.twinUp p.val = true) (hst : s.twinState = 2 ∨ s.twinState = 3)
    (hp : s.popRx p.val 0 (fitBytes 232 bytes) = some s1) (hn : s.nextRecord (Tu.parse bytes) = true) :
    exec (.mirror p bytes) s = .next (s1.takeRecord (Tu.parse bytes)) := by
  refine (if_neg (not_not.2 h)).trans ((if_neg (State.takesRecords hu hst)).trans ((if_pos hn).trans ?_))
  rw [hp]

/-- A record ahead of its tile's next, with the next nowhere in the buffers, breaks the mirror (R438). -/
theorem exec_mirror_breaks (h : (Tu.parse bytes).type = 9) (hu : s.twinUp p.val = true) (hst : s.twinState = 2 ∨ s.twinState = 3)
    (hp : s.popRx p.val 0 (fitBytes 232 bytes) = some s1) (hw : s.waitingRecords = [(p.val, { type := .data, vc := 0, payload := bytes })])
    {x : Nat} (hx : Map.find ((Tu.parse bytes).stream % 64) s.twin.done = some x) (hlo : x % 2 ^ 32 < (Tu.parse bytes).tsn)
    (hhi : (Tu.parse bytes).tsn < x % 2 ^ 32 + 2 ^ 31) : exec (.mirror p bytes) s = .next s1.mirrorBreak := by
  have hn : s.nextRecord (Tu.parse bytes) = false := by
    unfold State.nextRecord
    rw [hx]
    exact beq_eq_false_iff_ne.2 hlo.ne
  refine (if_neg (not_not.2 h)).trans ((if_neg (State.takesRecords hu hst)).trans ((if_neg (Bool.eq_false_iff.1 hn)).trans ((if_neg ?_).trans ?_)))
  · rw [hw]
    simp [hn]
  · rw [hp]
    dsimp only
    rw [hx]
    refine congrArg _ (if_neg ?_)
    simp only [Option.getD_some]
    omega

theorem exec_mirrorAck_other (h : (Tu.parse bytes).type ≠ 10) : exec (.mirrorAck p bytes) s = .next s := if_pos h

theorem exec_mirrorAck_off (h : (Tu.parse bytes).type = 10) (hu : s.twinUp p.val = false ∨ (s.twinState ≠ 4 ∧ s.twinState ≠ 5)) :
    exec (.mirrorAck p bytes) s = .next ((s.popRx p.val 1 (fitBytes 232 bytes)).getD s) := by
  refine (if_neg (not_not.2 h)).trans (if_pos ?_)
  obtain hu | ⟨h4, h5⟩ := hu
  · simp [hu]
  · simp [h4, h5]

/-- How far a MIRROR_ACK's number is past the number `a` acknowledged. -/
def Tu.ackedBy (tu : Tu) (a : Nat) : Nat := (tu.tsn + 1 + 2 ^ 32 - a % 2 ^ 32) % 2 ^ 32

/-- The records of tile t below `n` acknowledged. -/
def State.recordsAcked (s : State) (t n : Nat) : State :=
  s.updTwin fun x => { x with acked := Map.put t n x.acked, frames := x.frames.filter (fun f => !(f.1 == t && decide (f.2 < n))) }

/-- The frames left to copy, shown while a resync runs. -/
def State.framesShown (s : State) : State := if s.twin.resyncing then s.setSat F.TWIN_RESYNC_N s.twin.frames.length else s

theorem exec_mirrorAck_eq (h : (Tu.parse bytes).type = 10) (hu : s.twinUp p.val = true) (hst : s.twinState = 4 ∨ s.twinState = 5)
    (hp : s.popRx p.val 1 (fitBytes 232 bytes) = some s1) : exec (.mirrorAck p bytes) s =
      let t := (Tu.parse bytes).stream % 64
      let a := Map.get 0 s1.twin.acked t
      let d := (Tu.parse bytes).ackedBy a
      if d = 0 || Map.get 0 s1.twin.sent t < a + d then .next s1
      else .next (((s1.recordsAcked t (a + d)).framesShown.releaseHolds (fun w => w.tile == t && decide (w.mseq < a + d))).syncMirror) := by
  refine (if_neg (not_not.2 h)).trans ((if_neg ?_).trans ?_)
  · obtain h | h := hst <;> simp [hu, h]
  · rw [hp]
    rfl

theorem State.framesShown_twin (s : State) : s.framesShown.twin = s.twin := by
  unfold State.framesShown
  split <;> rfl

/-- With no completion held, none is released. -/
theorem State.releaseHolds_none (h : s.twin.waits = []) (f : MirWait → Bool) : (s.releaseHolds f).twin = s.twin := by
  have hr : s.releaseHolds f = s.updTwin fun t => { t with waits := t.waits.filter fun w => !f w } := by
    rw [State.releaseHolds, h]
    rfl
  rw [hr, State.updTwin_twin, h, List.filter_nil, ← h]

theorem State.recordsAcked_twin (t n : Nat) (hw : s.twin.waits = []) (f : MirWait → Bool) :
    (((s.recordsAcked t n).framesShown.releaseHolds f).syncMirror).twin = (s.recordsAcked t n).twin := by
  have h1 : (s.recordsAcked t n).framesShown.twin.waits = [] := (congrArg Twin.waits (State.framesShown_twin _)).trans hw
  rw [State.syncMirror, State.setSat_twin, State.releaseHolds_none h1, State.framesShown_twin]

theorem exec_mirrorAck_stale (h : (Tu.parse bytes).type = 10) (hu : s.twinUp p.val = true) (hst : s.twinState = 4 ∨ s.twinState = 5)
    (hp : s.popRx p.val 1 (fitBytes 232 bytes) = some s1)
    (hd : (Tu.parse bytes).ackedBy (Map.get 0 s.twin.acked ((Tu.parse bytes).stream % 64)) = 0 ∨
      Map.get 0 s.twin.sent ((Tu.parse bytes).stream % 64) < Map.get 0 s.twin.acked ((Tu.parse bytes).stream % 64) +
        (Tu.parse bytes).ackedBy (Map.get 0 s.twin.acked ((Tu.parse bytes).stream % 64))) :
    exec (.mirrorAck p bytes) s = .next s1 := by
  have ht := (State.popRx_twinKept hp).twin
  rw [exec_mirrorAck_eq h hu hst hp]
  dsimp only
  rw [ht]
  refine if_pos ?_
  obtain hd | hd := hd <;> simp [hd]

theorem exec_mirrorAck_acks (h : (Tu.parse bytes).type = 10) (hu : s.twinUp p.val = true) (hst : s.twinState = 4 ∨ s.twinState = 5)
    (hp : s.popRx p.val 1 (fitBytes 232 bytes) = some s1) {a d : Nat} (ha : a = Map.get 0 s.twin.acked ((Tu.parse bytes).stream % 64))
    (hd : d = (Tu.parse bytes).ackedBy a) (h0 : d ≠ 0) (hs : a + d ≤ Map.get 0 s.twin.sent ((Tu.parse bytes).stream % 64)) (hw : s.twin.waits = []) :
    ∃ u : State, exec (.mirrorAck p bytes) s = .next u ∧ Map.find ((Tu.parse bytes).stream % 64) u.twin.acked = some (a + d) ∧
      u.twin.frames = s.twin.frames.filter (fun f => !(f.1 == (Tu.parse bytes).stream % 64 && decide (f.2 < a + d))) := by
  have ht := (State.popRx_twinKept hp).twin
  have hshown := State.recordsAcked_twin (s := s1) ((Tu.parse bytes).stream % 64) (a + d) (by rw [ht]; exact hw)
    fun w => w.tile == (Tu.parse bytes).stream % 64 && decide (w.mseq < a + d)
  have htwin : (s1.recordsAcked ((Tu.parse bytes).stream % 64) (a + d)).twin = { s.twin with
      acked := Map.put ((Tu.parse bytes).stream % 64) (a + d) s.twin.acked
      frames := s.twin.frames.filter fun f => !(f.1 == (Tu.parse bytes).stream % 64 && decide (f.2 < a + d)) } := by
    rw [State.recordsAcked, State.updTwin_twin, ht]
  refine ⟨((s1.recordsAcked ((Tu.parse bytes).stream % 64) (a + d)).framesShown.releaseHolds fun w =>
    w.tile == (Tu.parse bytes).stream % 64 && decide (w.mseq < a + d)).syncMirror, ?_, ?_, ?_⟩
  · rw [exec_mirrorAck_eq h hu hst hp]
    dsimp only
    rw [ht, ← ha, ← hd]
    exact if_neg (by simp [h0, hs])
  · rw [hshown, htwin]
    exact Map.find_put_same ..
  · rw [hshown, htwin]

theorem exec_mirrorAckDue_none {n : Tile} (h : Map.get 0 s.twin.done n.val ≤ Map.get 0 s.twin.doneAcked n.val) : exec (.mirrorAckDue n) s = .next s :=
  congrArg _ (if_neg (by simp [Nat.not_lt.2 h]))

theorem exec_mirrorAckDue_sends {n : Tile} (hst : s.twinState = 2 ∨ s.twinState = 3)
    (h : Map.get 0 s.twin.doneAcked n.val < Map.get 0 s.twin.done n.val) : exec (.mirrorAckDue n) s = .next (s.sendMirrorAck n.val) := by
  refine congrArg _ (if_pos ?_)
  obtain h2 | h3 := hst
  · simp [h2, h]
  · simp [h3, h]

end

/-! ### Commands of group 0x0A (R444) -/

section
variable {s : State} {p : Packet} {o : Nat}

theorem twinStatus_answers (ha : s.accepts twinStatusDef p o) : let b := s.begun p
    exec (.twinStatus p) s = .next (b.replies p (([R.TWIN_STAT, R.TWIN_PARTNER, R.TWIN_HP_EPOCH_LO, R.TWIN_HP_EPOCH_HI, R.TWIN_LEASE,
      R.TWIN_MIRROR, R.TWIN_RESYNC].flatMap (fun off => leBytes 4 (b.view off).toNat)) ++ zeros 4)) := by
  intro b
  have hact : runCmd twinStatusDef p s = b.conclude 0xA00 o false p stOk 0 (leBytes 4 (b.view R.TWIN_STAT).toNat ++ leBytes 4 (b.view R.TWIN_PARTNER).toNat ++
      leBytes 4 (b.view R.TWIN_HP_EPOCH_LO).toNat ++ leBytes 4 (b.view R.TWIN_HP_EPOCH_HI).toNat ++ leBytes 4 (b.view R.TWIN_LEASE).toNat ++
      leBytes 4 (b.view R.TWIN_MIRROR).toNat ++ leBytes 4 (b.view R.TWIN_RESYNC).toNat ++ zeros 4) [] (undoOf b b) := runCmd_accepted ha
  rw [exec_command rfl (by decide), hact, State.conclude_plain _ rfl (by decide), State.replies]
  simp only [List.flatMap_cons, List.flatMap_nil, List.append_nil, List.append_assoc]

/-- The twin engine and TWIN_STAT after TWIN_BIND. -/
def State.bound (s : State) : State := (s.updTwin fun t => { t with identity := (t.partner.map (·.idHash)).or t.identity }).setF F.TWIN_STAT_CAUSE 0

theorem twinBind_binds (ha : s.accepts twinBindDef p o) (hc : s.canonical) : let b := s.begun p
    ∃ u : State, exec (.twinBind p) s = .next (u.conclude 0xA01 o true p stOk 0 [] (paramChange p) (undoOf b u)) ∧
      u.f F.TWIN_STAT_CAUSE = 0 ∧ (∀ h, b.twin.partner = some h → u.twin.identity = some h.idHash) ∧ b.keepsRegs u [R.TWIN_STAT] := by
  intro b
  have hb : b.canonical := State.begun_canonical hc p
  have hact : runCmd twinBindDef p s = b.bound.conclude 0xA01 o true p stOk 0 [] (paramChange p) (undoOf b b.bound) := runCmd_accepted ha
  refine ⟨b.bound, ?_, ?_, fun h hp => ?_, State.keepsRegs_setF _ F.TWIN_STAT_CAUSE 0⟩
  · rw [exec_command rfl (by decide), hact]
  · exact State.f_setF_same (State.updTwin_canonical hb _).rising _ _ (by decide)
  · rw [State.bound, State.setF_twin, State.updTwin_twin, hp]
    rfl

theorem twinHandover_runs (ha : s.accepts twinHandoverDef p o) : let b := s.begun p
    ∃ t : State, exec (.twinHandover p) s = .next t ∧ t.twin.released = some 1 ∧ t.twin.planned = true ∧
      t.twin.handover = some b.proctor.nextId ∧ b.runsOn t p o 0xA02 := by
  intro b
  obtain ⟨u, hu⟩ : ∃ u : State, u = (b.sendRelease 1).updTwin fun t => { t with released := some 1, planned := true, handover := some b.proctor.nextId } :=
    ⟨_, rfl⟩
  have hact : twinHandoverDef.act b p o b.proctor.nextId = .later u := by
    rw [hu]
    rfl
  have hp : u.proctor = b.proctor := by
    rw [hu, State.updTwin_proctor, b.sendRelease_proctor]
  have ht : (runCmd twinHandoverDef p s).twin = u.twin := by
    rw [runCmd_starts ha hact (congrArg Proctor.nextId hp)]
    rfl
  refine ⟨_, exec_command rfl (by decide) s, ?_, ?_, ?_, (runCmd_later ha hact hp).1⟩
  · rw [ht, hu]
    rfl
  · rw [ht, hu]
    rfl
  · rw [ht, hu]
    rfl

theorem twinForceTake_takes (ha : s.accepts twinForceTakeDef p o) : let b := s.begun p
    exec (.twinForceTake p) s = .next ((b.takeHallPass false).conclude 0xA03 o true p stOk 0 [] (paramChange p) (undoOf b (b.takeHallPass false))) := by
  have hact : ∀ id, twinForceTakeDef.act (s.begun p) p o id = .now ((s.begun p).takeHallPass false) stOk 0 [] (paramChange p) := fun _ => rfl
  have hrun := runCmd_accepted ha
  rw [hact] at hrun
  intro b
  rw [exec_command rfl (by decide), hrun]
  generalize (s.begun p).takeHallPass false = u
  rfl

theorem gangCfg_keeps (ha : s.accepts gangCfgDef p o) : let b := s.begun p
    ∃ u : State, u = b.updTwin (fun t => { t with gangNext := some (p.w 0 == 1, p.w 1, p.w 2, p.w 3) }) ∧
      exec (.gangCfg p) s = .next (u.conclude 0xA10 o true p stOk 0 [] (if b.twin.gangNext = u.twin.gangNext then [] else paramChange p) (undoOf b u)) :=
  ⟨_, rfl, (exec_command rfl (by decide) s).trans (congrArg _ (runCmd_accepted ha))⟩

/-- In MISMATCH no command of the group is accepted (R426). -/
theorem not_accepts_of_mismatch {d : CmdDef} {rest : Option (Nat × Nat)} (h : s.f F.TWIN_STAT_STATE = 7) (hd : d.pre s p o = s.twinPre rest) :
    ¬ s.accepts d p o := by
  rintro ⟨-, hv⟩
  have hp := State.verdict_pre hv
  rw [hd, State.twinPre, if_pos (show s.twinState = 7 from h)] at hp
  cases hp

end

end Sys2Proof.Machine

open Sys2Proof Sys2Proof.Machine

/-- Settles O58: each message, timer and command sets the state and the engine named, and the frames follow from what replies, sends and
assertions leave of the twin registers. -/
theorem twinPairs : Obligations.TwinPairs := by
  unfold Obligations.TwinPairs
  refine ⟨fun s st h hst => ?_, fun via h s hc => ⟨fun hr => ?_, fun hv hh hst => ⟨fun hd => ?_, fun h1 h2 h3 h4 hid hh2 hr hs1 => ?_⟩⟩,
    fun s => ⟨?_, exec_partnerWaitTimeout_due, exec_partnerWaitTimeout_off, exec_holderTimers_off, exec_leaseRenewalDue_sends, ?_, fun hc hst hb => ?_,
      fun hst hp hr hd => ⟨_, exec_selfDiagnosisFail_releases hst hp hr hd, rfl, rfl⟩, fun h3 ho => (exec_leaseExpiry_over ho).1 h3,
      fun h26 ho => (exec_leaseExpiry_over ho).2 h26, exec_leaseExpiry_early, fun planned hc hw hs hx => State.takeHallPass_spec hc hw hs hx planned⟩,
    fun via e bell mseq lt health reason s => ⟨fun hn => ?_, fun hc hp he => ⟨fun hst => ?_, fun hst => ?_, fun hst hnew => ?_, fun hst hr => ?_,
      fun hst hr hpl => ?_, fun hst hr => ?_, fun hst hr => ?_, fun hst hr => ?_, fun hst hr => ?_, fun hst hr => ?_⟩⟩,
    fun s => ⟨fun hp => ?_, fun hne h0 => ?_, State.mirrorBreak_spec, exec_twinPortsUnreachable_off, exec_twinPortsUnreachable_on,
      exec_resyncComplete_holder, exec_resyncComplete_standby, exec_revertHoldExpiry_due, exec_revertHoldExpiry_off⟩,
    fun v p n bytes s s1 => ⟨exec_holderNotice_off, exec_holderNotice_on, exec_mirror_other, exec_mirror_off, fun h9 hu hst hp => ⟨exec_mirror_next h9 hu hst hp, fun hc hw x hx hlo hhi => ?_⟩,
      exec_mirrorAck_other, exec_mirrorAck_off, fun h10 hu hst hp a d ha hd => ⟨fun hs => ?_, exec_mirrorAck_acks h10 hu hst hp ha hd⟩,
      exec_mirrorAckDue_none, exec_mirrorAckDue_sends⟩,
    fun p s o => ⟨twinStatus_answers, twinBind_binds, twinHandover_runs, twinForceTake_takes, gangCfg_keeps, fun h7 => ?_⟩⟩
  · obtain ⟨hs, hh, hy⟩ := State.setTwin_shows h hst
    exact ⟨hs, hh, hy, State.setTwin_f h st (by decide), s.setTwin_onlyRegs st, s.setTwin_keepsRegs st⟩
  · rw [exec_pairHello]
    obtain hv | hr := hr
    · rw [hv]
      rfl
    · rw [State.hello_unread hr h, ite_self]
  · obtain ⟨h7, h1, hk, hl⟩ := State.pairMismatch_spec hc
    refine ⟨_, ?_, h7, h1, hk, hl⟩
    rw [exec_pairHello, if_pos hv, State.hello_differs hh hst hd]
  · exact exec_pairHello_standby hc hv hs1 (by simp [State.helloDiffers, h1, h2, h3, h4]) hid hh2 hr
  · refine congrArg _ (if_congr ?_ rfl rfl)
    simp
  · exact ⟨fun off _ => s.sendLease_leaves.rd off trivial, (TwinKept.refl s).sendLease.twin, s.sendLease_leaves.keepsMemory⟩
  · obtain ⟨h6, h4, h0, hk, hq⟩ := State.fenceSelf_spec hc
    exact ⟨_, exec_selfFence_due hst hb, h6, h4, h0, hk, hq⟩
  · obtain ⟨h1, h2, h3⟩ := State.lease_unheard (b := bell.toNat) hn
    rw [exec_lease, exec_leaseAck, exec_release, h1, h2, h3]
    exact ⟨rfl, rfl, rfl⟩
  · obtain ⟨hep, hs, hseen⟩ := State.lease_standby (b := bell.toNat) hc hp he e.isLt hst
    exact ⟨_, exec_lease .., hep, hs, by cases via <;> exact hseen⟩
  · obtain ⟨hs, hep⟩ := State.lease_fenced (b := bell.toNat) hc hp he e.isLt hst
    exact ⟨_, exec_lease .., hs, hep⟩
  · obtain ⟨hep, hs⟩ := State.lease_yields (b := bell.toNat) hc hp e.isLt hst hnew
    exact ⟨_, exec_lease .., hep, hs⟩
  · exact ⟨_, exec_leaseAck .., State.leaseAck_released hc hp he hst hr⟩
  · obtain ⟨hs, hplanned, hacked⟩ := State.leaseAck_planned (b := bell.toNat) hc hp he hst hr hpl
    exact ⟨_, exec_leaseAck .., hs, hplanned, hacked⟩
  · rw [exec_release, (State.release_taken hp he hr).1 hst]
  · obtain ⟨hrel, hdue⟩ := State.lease_reverts (b := bell.toNat) hc hp he e.isLt hst hr
    exact ⟨_, exec_lease .., hrel, hdue⟩
  · obtain ⟨v, hv, hk⟩ := State.leaseAck_reverts (b := bell.toNat) hc hp he hst hr
    exact ⟨v, by rw [exec_leaseAck, hv], hk⟩
  · rw [exec_release, (State.release_taken hp he hr).2 hst]
  · obtain ⟨hrel, hplanned⟩ := State.release_reverts hp he hst
    exact ⟨s.release via e.toNat 2, by rw [exec_release, hr], hrel, hplanned⟩
  · refine congrArg _ (if_pos ?_)
    obtain hp | h0 := hp
    · exact Bool.or_eq_true_iff.2 (.inl (decide_eq_true hp))
    · exact Bool.or_eq_true_iff.2 (.inr (decide_eq_true h0))
  · refine congrArg _ (if_neg ?_)
    rw [Bool.or_eq_true, decide_eq_true_eq, decide_eq_true_eq]
    exact fun h => h.elim hne h0
  · have hs1 : s1.canonical := ((Kept.refl s).popRx p.val 0 _ _ hp).2 hc
    exact ⟨_, exec_mirror_breaks h9 hu hst hp hw hx hlo hhi, (State.mirrorBreak_spec hs1).1⟩
  · rw [ha] at hd
    rw [ha, hd] at hs
    exact exec_mirrorAck_stale h10 hu hst hp hs
  · exact ⟨not_accepts_of_mismatch h7 rfl, not_accepts_of_mismatch h7 rfl, not_accepts_of_mismatch h7 rfl, not_accepts_of_mismatch h7 rfl,
      not_accepts_of_mismatch h7 rfl⟩
end

section
/-! SUPPORT. A doorbell held for queue 96, which the module does not have: its SQ_TAIL offset is Q_GLOBAL's, so that the end of a
switchover stores its tail there (R65, R473). -/

namespace Sys2Proof.Machine

theorem qdbTail_96 : R.QDB_SQ_TAIL 96 = R.Q_GLOBAL := rfl

/-- A switchover to slot A in progress, with a tail of 2 held for a queue 96 that reads as enabled. -/
def strayDoorbell : State :=
  let s := State.reset.setFs [(F.Q_GLOBAL_SWITCHOVER, 1), (F.Q_STAT_STATE 96, 1)]
  { s with
    sec := { s.sec with switch := some { run := 0, slot := 0, noTrial := true } }
    proctor := { s.proctor with doorbells := [(96, true, 2)] } }

theorem strayDoorbell_canonical : strayDoorbell.canonical := by decide +kernel

theorem strayDoorbell_switches : strayDoorbell.f F.Q_GLOBAL_SWITCHOVER = 1 ∧ strayDoorbell.pool.fam.any (fun e => e.2.migrating) = false := by
  decide +kernel

/-- What a step's next state shows as SWITCHOVER. -/
def switchoverShown : Host.Outcome State Fault Refusal → Option Nat
  | .next v => some (v.f F.Q_GLOBAL_SWITCHOVER)
  | _ => none

/-- The held doorbell sets SWITCHOVER again. -/
theorem strayDoorbell_stays : switchoverShown (exec .switchoverDone strayDoorbell) = some 1 := by decide +kernel

end Sys2Proof.Machine

open Sys2Proof Sys2Proof.Machine

/-- Refutes O60: the statement takes any canonical state for SWITCHOVER_DONE, also one whose held doorbells name a queue past the sixteenth.
The tail of a queue 96 is stored at Q_GLOBAL, so that a held tail of 2 leaves SWITCHOVER at 1 where the statement asks for 0. -/
theorem not_firmwareAndTest : ¬ Obligations.FirmwareAndTest := by
  unfold Obligations.FirmwareAndTest
  rintro ⟨-, -, -, hsecurity⟩
  obtain ⟨-, -, -, -, -, -, -, hdone⟩ := hsecurity strayDoorbell
  obtain ⟨hon, hfam⟩ := strayDoorbell_switches
  obtain ⟨u, hu, hoff, -⟩ := hdone _ strayDoorbell_canonical hon hfam rfl (by decide)
  have hshown := strayDoorbell_stays
  rw [hu, switchoverShown, hoff] at hshown
  exact absurd hshown (by decide)
end

section
/-! SUPPORT. A tile source at SAFE severity, the fall of its line, and the thermal state of a tile (R387 to R392, R399 to R410). -/

namespace Sys2Proof.Machine

/-! ### A tile's line (R399 to R408) -/

section
variable {s z u : State} {t bit : Nat}

/-- What latching a tile source's assertion writes before any reaction. -/
def latchRegs (t : Nat) : List Nat :=
  logRegs ++ [R.MFSW_TILE_LO, R.MFSW_TILE_HI, R.FSW_LO t, R.FSW_HI t, R.FFIRST t, R.FFIRST_BELL_LO t, R.FFIRST_BELL_HI t]

theorem log_latchRegs (t : Nat) : ∀ a ∈ logRegs, a ∈ latchRegs t := fun _ h => List.mem_append_left _ h

/-- The first-source latch of a tile takes a source, or keeps the one it has. -/
def State.firstLatched (s : State) (t bit sev : Nat) : State :=
  if s.b (F.FFIRST_VALID t) then s.setB (F.FFIRST_OVF t) true
  else (s.setFs [(F.FFIRST_SRC t, bit), (F.FFIRST_SEV t, sev), (F.FFIRST_VALID t, 1)]).setPair (F.FFIRST_BELL_LO t) (F.FFIRST_BELL_HI t) s.bell

theorem Faulted.firstLatched {W : List Nat} (h : Faulted W z s) (hW : ∀ a ∈ latchRegs t, a ∈ W) (bit sev : Nat) :
    Faulted W z (s.firstLatched t bit sev) := by
  have hff : R.FFIRST t ∈ W := hW _ (by simp [latchRegs])
  have hbl : R.FFIRST_BELL_LO t ∈ W := hW _ (by simp [latchRegs])
  have hbh : R.FFIRST_BELL_HI t ∈ W := hW _ (by simp [latchRegs])
  unfold State.firstLatched
  split
  · exact h.setF (x := F.FFIRST_OVF t) hff _
  · exact ((h.setFs _ (by simp [F.FFIRST_SRC, F.FFIRST_SEV, F.FFIRST_VALID, hff])).setF (x := F.FFIRST_BELL_LO t) hbl _).setF
      (x := F.FFIRST_BELL_HI t) hbh _

/-- A tile source's assertion before any reaction: its bit, the latches and the record. -/
def State.tileLatched (s : State) (t bit : Nat) (v : Int) : State :=
  let s1 := s.setBit (if bit < 32 then R.FSW_LO t else R.FSW_HI t) (bit % 32)
  let sev := s.sevTile t bit
  let s3 := ((s1.firstLatched t bit sev).setBit (if t < 32 then R.MFSW_TILE_LO else R.MFSW_TILE_HI) (t % 32)).latchModule t sev
  s3.record (.tileSrc bit) sev (tgtTile t) v

theorem Faulted.setBit {W : List Nat} (h : Faulted W z s) {off : Nat} (hm : off ∈ W) (i : Nat) : Faulted W z (s.setBit off i) := h.wr hm _

theorem State.tileLatched_faulted (s : State) (t bit : Nat) (v : Int) : Faulted (latchRegs t) s (s.tileLatched t bit v) := by
  have hl := log_latchRegs t
  have h1 : Faulted (latchRegs t) s (s.setBit (if bit < 32 then R.FSW_LO t else R.FSW_HI t) (bit % 32)) :=
    (Faulted.refl _ s).setBit (by split <;> simp [latchRegs]) _
  have h2 := h1.firstLatched (fun _ h => h) bit (s.sevTile t bit)
  have h3 := h2.setBit (off := if t < 32 then R.MFSW_TILE_LO else R.MFSW_TILE_HI) (by split <;> simp [latchRegs]) (t % 32)
  unfold State.tileLatched
  exact (h3.latchModule hl t _).record hl _ _ _ _

theorem Kept.firstLatched (hk : Kept z s) (t bit sev : Nat) : Kept z (s.firstLatched t bit sev) := by
  unfold State.firstLatched
  split
  · exact hk.setB _ _
  · exact (hk.setFs _).setPair _ _ _

theorem State.tileLatched_canonical (h : s.canonical) (t bit : Nat) (v : Int) : (s.tileLatched t bit v).canonical := by
  have h1 : Kept s (s.setBit (if bit < 32 then R.FSW_LO t else R.FSW_HI t) (bit % 32)) := (Kept.refl s).setBit _ _
  have h2 := (h1.firstLatched t bit (s.sevTile t bit)).setBit (if t < 32 then R.MFSW_TILE_LO else R.MFSW_TILE_HI) (t % 32)
  unfold State.tileLatched
  exact ((h2.latchModule t _).record _ _ _ _).2 h

/-- A source at SAFE severity latches and reacts. -/
theorem State.latchTile_safe (h : s.sevTile t bit = 3) (v : Int) : s.latchTile t bit v = (s.tileLatched t bit v).reactTile t bit := by
  unfold State.latchTile State.tileLatched State.firstLatched
  dsimp only
  rw [h, if_neg (by decide), if_neg (by simp), if_pos rfl]

/-- What the reaction darkens lies at the test status and among the lasers and shutters. -/
theorem dark_offset {off : Nat} (h : off ∈ darkRegs t) : off = tileBase t + 0x20 ∨ tileBase t + 0x80000 ≤ off ∧ off < tileBase t + 0x80300 := by
  simp only [darkRegs, List.mem_cons, List.mem_append, List.mem_map, List.mem_range] at h
  rcases h with rfl | ⟨k, hk, rfl⟩ | ⟨k, hk, rfl⟩ | ⟨k, hk, rfl⟩
  · exact .inl rfl
  · simp only [R.LAS_STAT]
    omega
  · simp only [R.LAS_BIAS]
    omega
  · simp only [R.EYESAFE]
    omega

/-- Where the tile is NORMAL and the module not in SAFE, the reaction takes the tile into REACT. -/
theorem State.reactTile_state (hc : s.canonical) (h0 : s.f (F.FSTATE_STATE t) = 0) (hm : s.f F.MFSTATE_STATE ≠ 2) :
    (s.reactTile t bit).f (F.FSTATE_STATE t) = 1 := by
  obtain ⟨w, hw, hr⟩ : ∃ w : State, w.canonical ∧ s.reactTile t bit = ((w.setF (F.FSTATE_STATE t) 1).darken t).leaveTest t := by
    refine ⟨{ s.startQuiet t with faults := { (s.startQuiet t).faults with cause := Map.put t (fsrcTile t bit) (s.startQuiet t).faults.cause } }, hc, ?_⟩
    unfold State.reactTile
    dsimp only
    rw [if_neg (not_not.2 h0), if_neg hm]
  rw [hr]
  have hdark := (Faulted.refl (darkRegs t) (w.setF (F.FSTATE_STATE t) 1)).darken t fun _ h => h
  rw [hdark.2.f (x := F.FSTATE_STATE t) ?_]
  · exact State.f_setF_same hw.rising _ _ (by simp [F.FSTATE_STATE])
  · intro hm
    have hb := dark_offset hm
    simp only [F.FSTATE_STATE, R.FSTATE] at hb
    omega

theorem State.reactTile_faulted (s : State) (t bit : Nat) : Faulted (R.FSTATE t :: darkRegs t) s (s.reactTile t bit) := by
  have hd : ∀ a ∈ darkRegs t, a ∈ R.FSTATE t :: darkRegs t := fun _ => List.mem_cons_of_mem _
  have ht : R.TILE_TEST_STAT t ∈ R.FSTATE t :: darkRegs t := hd _ (List.mem_cons_self ..)
  have h0 := (Faulted.refl (R.FSTATE t :: darkRegs t) s).startQuiet t
  unfold State.reactTile
  dsimp only
  split
  · exact h0
  · split
    · unfold State.leaveTest
      exact ((h0.faults _).setF (x := F.FSTATE_STATE t) (List.mem_cons_self ..) _).setFs _
        (by simpa [F.TILE_TEST_STAT_STATE, F.TILE_TEST_STAT_MEM_OUT, F.TILE_TEST_STAT_ITEM] using ht)
    · exact ((h0.faults _).setF (x := F.FSTATE_STATE t) (List.mem_cons_self ..) _).darken t hd

/-- The register of a tile source's line. -/
def lineReg (t bit : Nat) : Nat := if bit < 32 then R.FLVL_LO t else R.FLVL_HI t

theorem State.bit_setBit (h : s.canonical) (off : Nat) {i : Nat} (hi : i < 32) : (s.setBit off i).bit off i = true := by
  unfold State.bit State.setBit
  have h1 : (BitVec.ofNat 32 (1 <<< i)).getLsbD i = true := by
    rw [BitVec.getLsbD_ofNat, Nat.one_shiftLeft, Nat.testBit_two_pow_self, decide_eq_true hi, Bool.and_true]
  rw [State.rd_wr_same h.rising, BitVec.getLsbD_or]
  exact (congrArg _ h1).trans (Bool.or_true _)

theorem State.bit_clrBit (h : s.canonical) (off : Nat) {i : Nat} (hi : i < 32) : (s.clrBit off i).bit off i = false := by
  unfold State.bit State.clrBit
  rw [State.rd_wr_same h.rising, BitVec.getLsbD_and, BitVec.getLsbD_not, BitVec.getLsbD_shiftLeft]
  simp [hi]

theorem State.bit_clrBit_ne (h : s.canonical) (off : Nat) {i j : Nat} (hj : j < 32) (hne : j ≠ i) :
    (s.clrBit off i).bit off j = s.bit off j := by
  have h1 : ((1 : Word) <<< i).getLsbD j = false := by
    rw [BitVec.getLsbD_shiftLeft]
    simp
    omega
  unfold State.bit State.clrBit
  rw [State.rd_wr_same h.rising, BitVec.getLsbD_and, BitVec.getLsbD_not, h1]
  simp [hj]

theorem State.bit_of_rd {off i : Nat} (h : u.rd off = s.rd off) : u.bit off i = s.bit off i := by rw [State.bit, State.bit, h]

theorem State.assertTile_unblocked (hb : tileBlock bit = false) (v : Int) (hold : Bool) : s.assertTile t bit v hold = s.raise t bit v hold := by
  have hk : ∀ w : State, w.containTile t bit = w := fun w => if_neg (by simp [hb])
  unfold State.assertTile State.raise
  generalize s.lineTile t bit hold v = r
  obtain ⟨w, hit⟩ := r
  cases hit with
  | false => rfl
  | true =>
    dsimp only
    rw [hb, Bool.and_false, Bool.false_and]
    exact hk w

/-- A held line of a SAFE source that rises on a tile that is NORMAL, outside the module's reaction (R407). -/
theorem State.raise_safe (hc : s.canonical) (h32 : bit < 32) (hlow : s.bit (R.FLVL_LO t) bit = false) (hsev : s.sevTile t bit = 3)
    (h0 : s.f (F.FSTATE_STATE t) = 0) (hm : s.f F.MFSTATE_STATE = 0) (hlost : s.lostTile t = false) (v : Int) :
    (s.raise t bit v true).f (F.FSTATE_STATE t) = 1 ∧ (s.raise t bit v true).bit (R.FLVL_LO t) bit = true := by
  have hset : (s.setBit (R.FLVL_LO t) bit).bit (R.FLVL_LO t) bit = true := State.bit_setBit hc _ h32
  have hkeep : s.keepsRegs (s.setBit (R.FLVL_LO t) bit) [R.FLVL_LO t] := s.keepsRegs_wr _ _
  have hcan : (s.setBit (R.FLVL_LO t) bit).canonical := ((Kept.refl s).setBit ..).2 hc
  have hmod : R.MFSTATE ≠ R.FLVL_LO t := by
    simp only [R.MFSTATE, R.FLVL_LO, tileBase]
    omega
  have hfs : R.FSTATE t ≠ R.FLVL_LO t := by
    simp only [R.FSTATE, R.FLVL_LO]
    omega
  have h0' : (s.setBit (R.FLVL_LO t) bit).f (F.FSTATE_STATE t) = 0 := (hkeep.f (x := F.FSTATE_STATE t) (by simpa [F.FSTATE_STATE] using hfs)).trans h0
  have hm' : (s.setBit (R.FLVL_LO t) bit).f F.MFSTATE_STATE = 0 := (hkeep.f (x := F.MFSTATE_STATE) (by simpa [F.MFSTATE_STATE] using hmod)).trans hm
  have hsev' : (s.setBit (R.FLVL_LO t) bit).sevTile t bit = 3 := by
    have hoff : (F.FSEV_SEV t bit).off ∉ [R.FLVL_LO t] := by
      simp only [F.FSEV_SEV, R.FSEV, R.FLVL_LO, List.mem_singleton]
      omega
    unfold State.sevTile at hsev ⊢
    rw [hkeep.f hoff]
    exact hsev
  have hraise : s.raise t bit v true = ((s.setBit (R.FLVL_LO t) bit).tileLatched t bit v).reactTile t bit := by
    unfold State.raise State.lineTile
    dsimp only
    rw [if_pos h32, Nat.mod_eq_of_lt h32, hlow, if_neg Bool.false_ne_true, if_pos rfl, hlost, if_neg Bool.false_ne_true,
      State.latchTile_safe hsev']
  have hlatch := (s.setBit (R.FLVL_LO t) bit).tileLatched_faulted t bit v
  have hcan2 : ((s.setBit (R.FLVL_LO t) bit).tileLatched t bit v).canonical := State.tileLatched_canonical hcan t bit v
  rw [hraise]
  generalize s.setBit (R.FLVL_LO t) bit = w at hset h0' hm' hlatch hcan2
  have hn : ∀ off, off = R.FSTATE t ∨ off = R.MFSTATE ∨ off = R.FLVL_LO t → off ∉ latchRegs t := by
    simp only [latchRegs, logRegs, List.mem_append, List.mem_cons, List.not_mem_nil, or_false, R.FSTATE, R.MFSTATE, R.FLVL_LO, R.MFSW_TILE_LO, R.MFSW_TILE_HI,
      R.FSW_LO, R.FSW_HI, R.FFIRST, R.FFIRST_BELL_LO, R.FFIRST_BELL_HI, R.RC_STAT, R.RC_SEQ, R.RC_FLASH_SEQ, R.RC_FOLD, R.RC_DROP, R.RC_DROP_CRIT,
      R.MFSW_SRC, R.MFIRST, R.MFIRST_BELL_LO, R.MFIRST_BELL_HI, tileBase]
    omega
  refine ⟨State.reactTile_state hcan2 ((hlatch.2.f (x := F.FSTATE_STATE t) (hn _ (.inl rfl))).trans h0') ?_, ?_⟩
  · rw [hlatch.2.f (x := F.MFSTATE_STATE) (hn _ (.inr (.inl rfl))), hm']
    decide
  · refine (State.bit_of_rd ((State.reactTile_faulted _ t bit).2 _ ?_)).trans ((State.bit_of_rd (hlatch.2 _ (hn _ (.inr (.inr rfl))))).trans hset)
    intro hm
    rcases List.mem_cons.1 hm with he | hd
    · simp only [R.FLVL_LO, R.FSTATE] at he
      omega
    · have hb := dark_offset hd
      simp only [R.FLVL_LO] at hb
      omega

theorem State.startQuiet_bit (s : State) (k off i : Nat) : (s.startQuiet k).bit off i = s.bit off i := rfl

/-- A tile's line that falls. -/
theorem State.fall_spec (hc : s.canonical) (t : Nat) {bit : Nat} (hb : bit < 32) : Faulted [R.FLVL_LO t] s (s.fall t bit) ∧
    (s.fall t bit).bit (R.FLVL_LO t) bit = false ∧ ∀ j < 32, j ≠ bit → (s.fall t bit).bit (R.FLVL_LO t) j = s.bit (R.FLVL_LO t) j := by
  have hclr : Faulted [R.FLVL_LO t] s (s.clrBit (R.FLVL_LO t) bit) := (Faulted.refl _ s).wr List.mem_cons_self _
  have hf : (s.clrBit (R.FLVL_LO t) bit).bit (R.FLVL_LO t) bit = false := State.bit_clrBit hc (R.FLVL_LO t) hb
  have hne : ∀ j < 32, j ≠ bit → (s.clrBit (R.FLVL_LO t) bit).bit (R.FLVL_LO t) j = s.bit (R.FLVL_LO t) j := fun j hj hn =>
    State.bit_clrBit_ne hc _ hj hn
  unfold State.fall
  dsimp only
  rw [if_pos hb, Nat.mod_eq_of_lt hb]
  split
  · exact ⟨hclr.startQuiet t, (State.startQuiet_bit ..).trans hf, fun j hj hn => (State.startQuiet_bit ..).trans (hne j hj hn)⟩
  · exact ⟨hclr, hf, hne⟩

end

/-! ### Tables -/

section
variable {s : State} {k j : Nat}

theorem State.th_updTh_same (h : Map.rising s.therm = true) (k : Nat) (g : Therm → Therm) : (s.updTh k g).th k = g (s.th k) := Map.get_upd_same h k g

theorem State.th_updTh_ne (h : j ≠ k) (g : Therm → Therm) : (s.updTh k g).th j = s.th j := Map.get_upd_ne h _ _

theorem State.updTh_rising (h : Map.rising s.therm = true) (k : Nat) (g : Therm → Therm) : Map.rising (s.updTh k g).therm = true := Map.rising_upd h _ _

theorem State.st_updSt_same (h : Map.rising s.site = true) (k : Nat) (g : Site → Site) : (s.updSt k g).st k = g (s.st k) := Map.get_upd_same h k g

theorem State.updSt_rising (h : Map.rising s.site = true) (k : Nat) (g : Site → Site) : Map.rising (s.updSt k g).site = true := Map.rising_upd h _ _

theorem State.th_of {t : State} (h : t.therm = s.therm) (k : Nat) : t.th k = s.th k := congrArg (fun m => Map.get ({} : Therm) m k) h

theorem State.st_of {t : State} (h : t.site = s.site) (k : Nat) : t.st k = s.st k := congrArg (fun m => Map.get ({} : Site) m k) h

end

end Sys2Proof.Machine
end
section
/-! SUPPORT. A tile's junction temperature and its thresholds (R387 to R389). -/

namespace Sys2Proof.Machine

section
variable {s : State} {t : Nat} {tj : Int}

/-! ### The thresholds (R389, R394) -/

/-- What a new TJ may write: the tile's thermal status and events, and the record. -/
def tjRegs (t : Nat) : List Nat := R.TTH_STAT t :: R.TTH_EVT t :: logRegs

theorem log_tjRegs (t : Nat) : ∀ a ∈ logRegs, a ∈ tjRegs t := fun _ h => List.mem_cons_of_mem _ (List.mem_cons_of_mem _ h)

/-- A tile's offset `c` is no register that logs. -/
theorem not_log_tile (t c : Nat) : tileBase t + c ∉ logRegs := by
  simp only [logRegs, List.mem_cons, List.not_mem_nil, or_false, R.RC_STAT, R.RC_SEQ, R.RC_FLASH_SEQ, R.RC_FOLD, R.RC_DROP, R.RC_DROP_CRIT,
    R.MFSW_SRC, R.MFIRST, R.MFIRST_BELL_LO, R.MFIRST_BELL_HI, tileBase]
  omega

/-- TJ shown, with the event of 95 °C where it is new. -/
def State.tjWarned (s : State) (t : Nat) (tj : Int) : State :=
  let s1 := s.setF (F.TTH_STAT_TJ t) (wholeC tj)
  if 950 ≤ tj && !(s.th t).warn then (s1.setF (F.TTH_EVT_WARN t) 1).note 0xB .thermWarn 2 (tgtTile t) (tj / 10) else s1

/-- Does a new TJ slew from the reading kept (R394)? -/
def Therm.slews (h : Therm) (tj : Int) (bell : Nat) : Bool :=
  match h.last with
  | some (v, b) => decide (b + 1000 ≤ bell) && decide (50 * ((bell - b : Nat) : Int) < (tj - v).natAbs * 1000)
  | none => false

/-- The slew of TJ noted. -/
def State.tjSlewed (s : State) (t : Nat) (tj : Int) : State :=
  if (s.th t).slews tj s.bell then ((s.tjWarned t tj).setF (F.TTH_EVT_STEP t) 1).note 0xB .thermStep 1 (tgtTile t) (tj / 10) else s.tjWarned t tj

/-- A tile's thermal state with a new TJ. -/
def Therm.taken (h x : Therm) (tj : Int) (bell : Nat) : Therm :=
  { x with
    tj := tj
    warn := decide (950 ≤ tj) || (h.warn && decide (920 ≤ tj))
    last := match h.last with
      | some (v, b) => if b + 1000 ≤ bell then some (tj, bell) else some (v, b)
      | none => some (tj, bell) }

/-- A new TJ taken, before the SAFE threshold acts. -/
def State.tjTaken (s : State) (t : Nat) (tj : Int) : State := (s.tjSlewed t tj).updTh t fun x => (s.th t).taken x tj s.bell

/-- TJ at the SAFE threshold shown. -/
def State.tjSafe (s : State) (t : Nat) (tj : Int) : State := (s.tjTaken t tj).setFs [(F.TTH_EVT_SAFE t, 1), (F.TTH_STAT_SAFE_SRC t, 1)]

theorem State.tjActs_eq (s : State) (t : Nat) (tj : Int) : s.tjActs t tj =
    if 1050 ≤ tj && !s.bit (R.FLVL_LO t) 3 then (s.tjSafe t tj).assertTile t 3 (tj / 10) true
    else if s.bit (R.FLVL_LO t) 3 && tj < 1000 then ((s.tjTaken t tj).setF (F.TTH_STAT_SAFE_SRC t) 0).fall t 3
    else s.tjTaken t tj := by
  unfold State.tjActs State.tjSafe State.tjTaken State.tjSlewed State.tjWarned
  rfl

theorem wholeC_lt (v : Int) : wholeC v < 2 ^ 8 := BitVec.isLt _

theorem tthEvt_ne (t : Nat) : R.TTH_STAT t ≠ R.TTH_EVT t := by
  simp only [R.TTH_STAT, R.TTH_EVT]
  omega

theorem State.tjWarned_spec (hc : s.canonical) (t : Nat) (tj : Int) : (s.tjWarned t tj).canonical ∧ Faulted (tjRegs t) s (s.tjWarned t tj) ∧
    (s.tjWarned t tj).f (F.TTH_STAT_TJ t) = wholeC tj ∧ (∀ y : Fld, y.off = R.TTH_STAT t → y.apart (F.TTH_STAT_TJ t) → (s.tjWarned t tj).f y = s.f y) ∧
    (950 ≤ tj → (s.th t).warn = false → (s.tjWarned t tj).f (F.TTH_EVT_WARN t) = 1) := by
  have hshown : (s.setF (F.TTH_STAT_TJ t) (wholeC tj)).f (F.TTH_STAT_TJ t) = wholeC tj :=
    (State.f_setF_same hc.rising _ _ (by simp [F.TTH_STAT_TJ])).trans (Nat.mod_eq_of_lt (wholeC_lt tj))
  have hrest : ∀ y : Fld, y.apart (F.TTH_STAT_TJ t) → (s.setF (F.TTH_STAT_TJ t) (wholeC tj)).f y = s.f y := fun y hy => State.f_setF_ne hc hy _
  have hcan : (s.setF (F.TTH_STAT_TJ t) (wholeC tj)).canonical := State.setF_canonical hc _ _
  have hk : Faulted (tjRegs t) s (s.setF (F.TTH_STAT_TJ t) (wholeC tj)) := (Faulted.refl _ s).setF (x := F.TTH_STAT_TJ t) (List.mem_cons_self ..) _
  unfold State.tjWarned
  dsimp only
  generalize s.setF (F.TTH_STAT_TJ t) (wholeC tj) = w at hshown hrest hcan hk
  split
  · have hev : Faulted (tjRegs t) s (w.setF (F.TTH_EVT_WARN t) 1) := hk.setF (x := F.TTH_EVT_WARN t) (by simp [tjRegs, F.TTH_EVT_WARN]) 1
    have hcan2 : (w.setF (F.TTH_EVT_WARN t) 1).canonical := State.setF_canonical hcan _ _
    have hset : (w.setF (F.TTH_EVT_WARN t) 1).f (F.TTH_EVT_WARN t) = 1 := State.f_setF_same hcan.rising _ _ (by simp [F.TTH_EVT_WARN])
    have hoff : ∀ y : Fld, y.off = R.TTH_STAT t → (w.setF (F.TTH_EVT_WARN t) 1).f y = w.f y := fun y hy =>
      State.f_setF_off (x := F.TTH_EVT_WARN t) (by rw [hy]; exact tthEvt_ne t) 1
    generalize w.setF (F.TTH_EVT_WARN t) 1 = v at hev hcan2 hset hoff
    have hnote : ∀ c (y : Fld), y.off = tileBase t + c → (v.note 0xB .thermWarn 2 (tgtTile t) (tj / 10)).f y = v.f y := fun c y hy =>
      v.note_f _ _ _ _ _ (by rw [hy]; exact not_log_tile t c)
    refine ⟨((Kept.refl v).note _ _ _ _ _).2 hcan2, hev.trans (.of_logged (log_tjRegs t) (v.note_logged _ _ _ _ _)), ?_, fun y hy ha => ?_, fun _ _ => ?_⟩
    · rw [hnote 0xB0000 _ rfl, hoff _ rfl, hshown]
    · rw [hnote 0xB0000 y hy, hoff y hy, hrest y ha]
    · rw [hnote 0xB0008 _ rfl, hset]
  · next hno =>
    refine ⟨hcan, hk, hshown, fun y _ ha => hrest y ha, fun h950 hw => absurd ?_ hno⟩
    simp [h950, hw]

theorem State.tjSlewed_spec (hc : s.canonical) (t : Nat) (tj : Int) : (s.tjSlewed t tj).canonical ∧ Faulted (tjRegs t) s (s.tjSlewed t tj) ∧
    (s.tjSlewed t tj).f (F.TTH_STAT_TJ t) = wholeC tj ∧ (∀ y : Fld, y.off = R.TTH_STAT t → y.apart (F.TTH_STAT_TJ t) → (s.tjSlewed t tj).f y = s.f y) ∧
    (950 ≤ tj → (s.th t).warn = false → (s.tjSlewed t tj).f (F.TTH_EVT_WARN t) = 1) := by
  obtain ⟨hcan, hk, hshown, hrest, hwarn⟩ := State.tjWarned_spec hc t tj
  unfold State.tjSlewed
  generalize s.tjWarned t tj = w at hcan hk hshown hrest hwarn
  split
  · have hev : Faulted (tjRegs t) s (w.setF (F.TTH_EVT_STEP t) 1) := hk.setF (x := F.TTH_EVT_STEP t) (by simp [tjRegs, F.TTH_EVT_STEP]) 1
    have hcan2 : (w.setF (F.TTH_EVT_STEP t) 1).canonical := State.setF_canonical hcan _ _
    have hset : (w.setF (F.TTH_EVT_STEP t) 1).f (F.TTH_EVT_WARN t) = w.f (F.TTH_EVT_WARN t) :=
      State.f_setF_ne hcan (by simp [Fld.apart, F.TTH_EVT_WARN, F.TTH_EVT_STEP]) 1
    have hoff : ∀ y : Fld, y.off = R.TTH_STAT t → (w.setF (F.TTH_EVT_STEP t) 1).f y = w.f y := fun y hy =>
      State.f_setF_off (x := F.TTH_EVT_STEP t) (by rw [hy]; exact tthEvt_ne t) 1
    generalize w.setF (F.TTH_EVT_STEP t) 1 = v at hev hcan2 hset hoff
    have hnote : ∀ c (y : Fld), y.off = tileBase t + c → (v.note 0xB .thermStep 1 (tgtTile t) (tj / 10)).f y = v.f y := fun c y hy =>
      v.note_f _ _ _ _ _ (by rw [hy]; exact not_log_tile t c)
    refine ⟨((Kept.refl v).note _ _ _ _ _).2 hcan2, hev.trans (.of_logged (log_tjRegs t) (v.note_logged _ _ _ _ _)), ?_, fun y hy ha => ?_,
      fun h950 hw => ?_⟩
    · rw [hnote 0xB0000 _ rfl, hoff _ rfl, hshown]
    · rw [hnote 0xB0000 y hy, hoff y hy, hrest y hy ha]
    · rw [hnote 0xB0008 _ rfl, hset, hwarn h950 hw]
  · exact ⟨hcan, hk, hshown, hrest, hwarn⟩

theorem State.tjTaken_regs (s : State) (t : Nat) (tj : Int) : (s.tjTaken t tj).regs = (s.tjSlewed t tj).regs := rfl

theorem State.tjTaken_canonical (hc : s.canonical) (t : Nat) (tj : Int) : (s.tjTaken t tj).canonical :=
  ((Kept.refl _).updTh t _).2 (State.tjSlewed_spec hc t tj).1

theorem State.tjTaken_keepsRegs (hc : s.canonical) (t : Nat) (tj : Int) : s.keepsRegs (s.tjTaken t tj) (tjRegs t) := fun off ho =>
  (State.rd_of_regs (s.tjTaken_regs t tj) off).trans ((State.tjSlewed_spec hc t tj).2.1.2 off ho)

/-- A register of a tile that is neither its thermal status nor its thermal events is left by a new TJ. -/
theorem not_tjRegs_tile {c : Nat} (h0 : c ≠ 0xB0000) (h8 : c ≠ 0xB0008) : tileBase t + c ∉ tjRegs t := by
  intro hm
  rcases List.mem_cons.1 hm with h | h
  · simp only [R.TTH_STAT] at h
    omega
  rcases List.mem_cons.1 h with h | h
  · simp only [R.TTH_EVT] at h
    omega
  · exact not_log_tile t c h

theorem mfstate_not_tjRegs (t : Nat) : R.MFSTATE ∉ tjRegs t := by
  simp only [tjRegs, logRegs, List.mem_cons, List.not_mem_nil, or_false, R.MFSTATE, R.TTH_STAT, R.TTH_EVT, R.RC_STAT, R.RC_SEQ, R.RC_FLASH_SEQ, R.RC_FOLD,
    R.RC_DROP, R.RC_DROP_CRIT, R.MFSW_SRC, R.MFIRST, R.MFIRST_BELL_LO, R.MFIRST_BELL_HI, tileBase]
  omega

/-- 105 °C on a tile that is NORMAL takes it into the SAFE reaction (R389). -/
theorem State.tjActs_hot (hc : s.canonical) (h : 1050 ≤ tj) (hlow : s.bit (R.FLVL_LO t) 3 = false)
    (h0 : s.f (F.FSTATE_STATE t) = 0) (hm : s.f F.MFSTATE_STATE = 0) :
    (s.tjActs t tj).f (F.FSTATE_STATE t) = 1 ∧ (s.tjActs t tj).f (F.TTH_EVT_SAFE t) = 1 ∧ (s.tjActs t tj).bit (R.FLVL_LO t) 3 = true := by
  have hcan := State.tjTaken_canonical hc t tj
  have hkeep := State.tjTaken_keepsRegs hc t tj
  have hset : (s.tjTaken t tj).keepsRegs (s.tjSafe t tj) [R.TTH_EVT t, R.TTH_STAT t] :=
    State.keepsRegs_setFs _ _ (by simp [F.TTH_EVT_SAFE, F.TTH_STAT_SAFE_SRC])
  have hrd : s.keepsRegs (s.tjSafe t tj) (tjRegs t) := State.keepsRegs.trans hkeep (hset.mono (by simp [tjRegs]))
  have hcan2 : (s.tjSafe t tj).canonical := State.setFs_canonical hcan _
  have hev : (s.tjSafe t tj).f (F.TTH_EVT_SAFE t) = 1 := State.f_setFs_at hcan [(F.TTH_EVT_SAFE t, 1), (F.TTH_STAT_SAFE_SRC t, 1)] 0 rfl (by simp [F.TTH_EVT_SAFE])
    (by simp [Fld.apart, F.TTH_EVT_SAFE, F.TTH_STAT_SAFE_SRC])
  have hact : s.tjActs t tj = (s.tjSafe t tj).raise t 3 (tj / 10) true := by
    rw [State.tjActs_eq, if_pos (by simp [h, hlow]), State.assertTile_unblocked rfl]
  rw [hact]
  generalize s.tjSafe t tj = w at hrd hcan2 hev
  have hfs : w.f (F.FSTATE_STATE t) = 0 := (hrd.f (x := F.FSTATE_STATE t) (not_tjRegs_tile (by decide) (by decide))).trans h0
  have hmf : w.f F.MFSTATE_STATE = 0 := (hrd.f (x := F.MFSTATE_STATE) (mfstate_not_tjRegs t)).trans hm
  have hbit : w.bit (R.FLVL_LO t) 3 = false := (State.bit_of_rd (hrd _ (not_tjRegs_tile (by decide) (by decide)))).trans hlow
  have hlost2 : w.lostTile t = false := by
    unfold State.lostTile
    rw [hfs, hmf]
    rfl
  obtain ⟨hstate, hline⟩ := State.raise_safe hcan2 (by decide) hbit rfl hfs hmf hlost2 (tj / 10)
  refine ⟨hstate, ?_, hline⟩
  rw [(w.raise_faulted t 3 (tj / 10) true).2.f (x := F.TTH_EVT_SAFE t) ?_, hev]
  exact fun hm => not_assertReg_tile t (c := 0xB0008) (by decide) (by unfold assertOffset; omega) (assertReg_of_tile hm)

/-- Below 100 °C the line falls (R389). -/
theorem State.tjActs_cool (hc : s.canonical) (h : tj < 1000) (hhigh : s.bit (R.FLVL_LO t) 3 = true) :
    (s.tjActs t tj).bit (R.FLVL_LO t) 3 = false ∧ (s.tjActs t tj).f (F.TTH_STAT_SAFE_SRC t) = 0 := by
  have hcan := State.tjTaken_canonical hc t tj
  have hact : s.tjActs t tj = ((s.tjTaken t tj).setF (F.TTH_STAT_SAFE_SRC t) 0).fall t 3 := by
    rw [State.tjActs_eq, if_neg (by simp [hhigh]), if_pos (by simp [h, hhigh])]
  have hset : ((s.tjTaken t tj).setF (F.TTH_STAT_SAFE_SRC t) 0).f (F.TTH_STAT_SAFE_SRC t) = 0 :=
    State.f_setF_same hcan.rising _ _ (by simp [F.TTH_STAT_SAFE_SRC])
  have hcan2 : ((s.tjTaken t tj).setF (F.TTH_STAT_SAFE_SRC t) 0).canonical := State.setF_canonical hcan _ _
  rw [hact]
  generalize (s.tjTaken t tj).setF (F.TTH_STAT_SAFE_SRC t) 0 = w at hset hcan2
  obtain ⟨hk, hbit, -⟩ := State.fall_spec hcan2 t (bit := 3) (by decide)
  refine ⟨hbit, (hk.2.f (x := F.TTH_STAT_SAFE_SRC t) ?_).trans hset⟩
  simp only [F.TTH_STAT_SAFE_SRC, R.TTH_STAT, R.FLVL_LO, List.mem_singleton]
  omega

end

end Sys2Proof.Machine
end
section
/-! SUPPORT. Eight equal diodes, the hottest tile, throttling and the memory temperature (R387, R391, R392). -/

namespace Sys2Proof.Machine

section
variable {s : State} {t : Nat}

/-! ### Eight equal diodes (R387) -/

theorem median2_replicate (v : Int) : median2 (List.replicate 8 v) = 2 * v := by
  have hi : ∀ l : List Int, insertInt v (v :: l) = v :: v :: l := fun l => if_neg (lt_irrefl v)
  have hr : (List.replicate 8 v).foldr insertInt [] = List.replicate 8 v := by
    have h0 : insertInt v [] = [v] := rfl
    simp only [List.replicate, List.foldr, h0, hi]
  unfold median2
  rw [hr]
  simp [List.replicate]
  omega

/-- A tile's sensing status where no diode is out and no ring is locked. -/
def sensedFields (t pic las : Nat) : List (Fld × Nat) :=
  [(F.TTH_STAT_PIC t, pic), (F.TTH_STAT_LAS_MAX t, las), (F.TTH_STAT_DIODE_FAIL t, 0), (F.TTH_STAT_RING_FAIL t, 1)]

/-- A tile that has read eight equal diodes. -/
def State.sensed (s : State) (t : Nat) : State :=
  (s.updTh t (fun x => { x with off := [], bad := [] })).setFs
    (sensedFields t (s.f (F.TTH_STAT_PIC t)) ((List.range 8).foldl (fun m c => max m (s.f (F.LAS_STAT_TJ t c))) 0))

theorem exec_tjSample_equal {n : Tile} (hp : s.f (F.TILE_PWR_STAT_STATE n.val) ≠ 3) (ht : s.clocks.tripped = false) {d : BitVec 16} (hlo : 0 ≤ d.toInt)
    (hhi : d.toInt < 1050) :
    exec (.tjSample n (List.replicate 8 d) none) s = .next ((((s.sensed n.val).fall n.val 4).tjActs n.val d.toInt).syncTjMax) := by
  have h1 : -200 ≤ d.toInt := by omega
  have h2 : d.toInt ≤ 1500 := by omega
  have hvs : ((List.replicate 8 d).take 8).mapIdx (fun i v => (i, v.toInt)) = (List.range 8).map fun i => (i, d.toInt) := rfl
  have hin : ((List.range 8).map fun i => (i, d.toInt)).filter (fun x => decide (-200 ≤ x.2) && decide (x.2 ≤ 1500)) =
      (List.range 8).map fun i => (i, d.toInt) := List.filter_eq_self.2 (by simp [h1, h2])
  have hmed : median2 (((List.range 8).map fun i => (i, d.toInt)).map (·.2)) = 2 * d.toInt := median2_replicate d.toInt
  have hoff : ((List.range 8).map fun i => (i, d.toInt)).filter (fun x => decide (160 < (2 * x.2 - 2 * d.toInt).natAbs)) = [] :=
    List.filter_eq_nil_iff.2 (by simp)
  have hout : ((List.range 8).map fun i => (i, d.toInt)).filter (fun x => !((List.range 8).map fun i => (i, d.toInt)).contains x) = [] :=
    List.filter_eq_nil_iff.2 (by simp)
  have hgood : (((List.range 8).map fun i => (i, d.toInt)).filter (fun x => !([] : List Nat).contains x.1)).map (·.2) = List.replicate 8 d.toInt := by
    rw [List.filter_eq_self.2 (by simp)]
    rfl
  have hmax : (List.replicate 7 d.toInt).foldl max d.toInt = d.toInt := by simp [List.replicate]
  change execTjSample n _ none s = _
  unfold execTjSample
  dsimp only
  rw [if_neg (by simp [State.pwr, hp, ht]), hvs, hin, hmed, hoff, hout]
  simp only [List.map_nil, List.filter_nil, List.append_nil, hgood]
  rw [show List.replicate 8 d.toInt = d.toInt :: List.replicate 7 d.toInt from rfl]
  dsimp only
  rw [hmax, if_pos (show ([] : List Nat).isEmpty = true from rfl), if_pos (show ([] : List Nat).isEmpty = true from rfl)]
  rfl

/-- What sensing leaves: the SAFE line, the warning in force, the memories; and what it shows. -/
theorem State.sensed_spec (hc : s.canonical) (hth : Map.rising s.therm = true) (t : Nat) :
    (s.sensed t).canonical ∧ (s.sensed t).f (F.TTH_STAT_DIODE_FAIL t) = 0 ∧ (s.sensed t).f (F.TTH_STAT_RING_FAIL t) = 1 ∧
      s.keepsRegs (s.sensed t) [R.TTH_STAT t] ∧ ((s.sensed t).th t).warn = (s.th t).warn ∧ Map.rising (s.sensed t).therm = true ∧
      Leaves (fun _ => False) s (s.sensed t) := by
  obtain ⟨w, hw⟩ : ∃ w, w = s.updTh t (fun x => { x with off := [], bad := [] }) := ⟨_, rfl⟩
  have hcan : w.canonical := hw ▸ ((Kept.refl s).updTh t _).2 hc
  have hregs : w.regs = s.regs := by
    rw [hw]
    rfl
  have hwth : w.th t = { s.th t with off := [], bad := [] } := by
    rw [hw]
    exact State.th_updTh_same hth t _
  have hrise : Map.rising w.therm = true := by
    rw [hw]
    exact State.updTh_rising hth t _
  have hleaves : Leaves (fun _ => False) s w := by
    rw [hw]
    exact (Leaves.refl _ s).same rfl rfl rfl rfl
  obtain ⟨pic, las, hsensed⟩ : ∃ pic las, s.sensed t = w.setFs (sensedFields t pic las) := by
    unfold State.sensed
    rw [← hw]
    exact ⟨_, _, rfl⟩
  rw [hsensed]
  refine ⟨State.setFs_canonical hcan _, ?_, ?_, ?_, ?_, ?_, hleaves.setFs _ (by simp)⟩
  · exact State.f_setFs_at hcan (sensedFields t pic las) 2 rfl (by simp [F.TTH_STAT_DIODE_FAIL])
      (by simp [sensedFields, Fld.apart, F.TTH_STAT_DIODE_FAIL, F.TTH_STAT_RING_FAIL])
  · exact State.f_setFs_at hcan (sensedFields t pic las) 3 rfl (by simp [F.TTH_STAT_RING_FAIL]) (by simp [sensedFields])
  · have hset := w.keepsRegs_setFs (sensedFields t pic las) (W := [R.TTH_STAT t])
      (by simp [sensedFields, F.TTH_STAT_PIC, F.TTH_STAT_LAS_MAX, F.TTH_STAT_DIODE_FAIL, F.TTH_STAT_RING_FAIL])
    exact fun off ho => (hset off ho).trans (State.rd_of_regs hregs off)
  · rw [State.th_of (State.setFs_therm ..), hwth]
  · rw [State.setFs_therm]
    exact hrise

/-! ### The hottest tile (R387) -/

/-- One tile weighed against the hottest so far. -/
def State.hotter (s : State) (m : Int × Nat) (t : Nat) : Int × Nat := if m.1 < (s.th t).tj / 10 then ((s.th t).tj / 10, t) else m

/-- The hottest of a list of tiles, at least as hot as the start. -/
theorem State.hotter_foldl (s : State) (l : List Nat) (m : Int × Nat) (hm : m.1 = (s.th m.2).tj / 10) :
    (l.foldl s.hotter m).1 = (s.th (l.foldl s.hotter m).2).tj / 10 ∧ m.1 ≤ (l.foldl s.hotter m).1 ∧
      (∀ t ∈ l, (s.th t).tj / 10 ≤ (l.foldl s.hotter m).1) ∧ ((l.foldl s.hotter m).2 = m.2 ∨ (l.foldl s.hotter m).2 ∈ l) := by
  induction l generalizing m with
  | nil => exact ⟨hm, le_refl _, by simp, .inl rfl⟩
  | cons t l ih =>
    have hstep : (s.hotter m t).1 = (s.th (s.hotter m t).2).tj / 10 := by
      unfold State.hotter
      split
      · rfl
      · exact hm
    have hle : m.1 ≤ (s.hotter m t).1 ∧ (s.th t).tj / 10 ≤ (s.hotter m t).1 := by
      unfold State.hotter
      split
      · next h => exact ⟨le_of_lt h, le_refl _⟩
      · next h => exact ⟨le_refl _, not_lt.1 h⟩
    have hwho : (s.hotter m t).2 = m.2 ∨ (s.hotter m t).2 = t := by
      unfold State.hotter
      split
      · exact .inr rfl
      · exact .inl rfl
    obtain ⟨h1, h2, h3, h4⟩ := ih (s.hotter m t) hstep
    refine ⟨h1, hle.1.trans h2, ?_, ?_⟩
    · intro u hu
      rcases List.mem_cons.1 hu with rfl | hu
      · exact hle.2.trans h2
      · exact h3 u hu
    · rcases h4 with h4 | h4
      · rcases hwho with hw | hw
        · exact .inl (h4.trans hw)
        · exact .inr (List.mem_cons.2 (.inl (h4.trans hw)))
      · exact .inr (List.mem_cons_of_mem _ h4)

/-- TH_STAT names the hottest tile. -/
theorem State.syncTjMax_spec (hc : s.canonical) : (∀ m < 48, (s.th m).tj / 10 ≤ (s.th (s.syncTjMax.f F.TH_STAT_TJ_TILE)).tj / 10) ∧
    s.onlyRegs s.syncTjMax ∧ s.keepsRegs s.syncTjMax [R.TH_STAT] := by
  obtain ⟨h1, -, h3, h4⟩ := s.hotter_foldl allTiles ((s.th 0).tj / 10, 0) rfl
  obtain ⟨hot, hhot⟩ : ∃ hot, hot = allTiles.foldl s.hotter ((s.th 0).tj / 10, 0) := ⟨_, rfl⟩
  have heq : s.syncTjMax = s.setFs [(F.TH_STAT_TJ_MAX, fieldOf 8 hot.1), (F.TH_STAT_TJ_TILE, hot.2)] := by
    rw [hhot]
    rfl
  rw [← hhot] at h1 h3 h4
  have hlt : hot.2 < 64 := by
    rcases h4 with h4 | h4
    · rw [h4]
      exact Nat.zero_lt_succ 63
    · exact (List.mem_range.1 h4).trans (by decide)
  have htile : s.syncTjMax.f F.TH_STAT_TJ_TILE = hot.2 := by
    rw [heq]
    exact (State.f_setFs_at hc _ 1 rfl (by decide) (by simp)).trans (Nat.mod_eq_of_lt hlt)
  refine ⟨fun m hm => ?_, heq ▸ (State.onlyRegs.refl s).setFs _, heq ▸ s.keepsRegs_setFs _ (by simp [F.TH_STAT_TJ_MAX, F.TH_STAT_TJ_TILE])⟩
  rw [htile, ← h1]
  exact h3 m (List.mem_range.2 hm)

end

/-! ### TJ_SAMPLE (R387) -/

section
variable {s : State} {n : Tile} {d : BitVec 16}

theorem Leaves.updTh {P : Nat → Prop} {z : State} (h : Leaves P z s) (k : Nat) (g : Therm → Therm) : Leaves P z (s.updTh k g) := h.same rfl rfl rfl rfl

theorem Leaves.tjTaken {P : Nat → Prop} {z : State} (t : Nat) (tj : Int) (h : Leaves P z (s.tjSlewed t tj)) : Leaves P z (s.tjTaken t tj) :=
  h.updTh t _

theorem wholeC_of_nonneg {v : Int} (h0 : 0 ≤ v) (h1 : v < 1050) : wholeC v = (v / 10).toNat := by
  have hlo : 0 ≤ v / 10 := Int.ediv_nonneg h0 (by decide)
  have hhi : v / 10 < 256 := by omega
  unfold wholeC fieldOf
  rw [BitVec.toNat_ofInt, Int.emod_eq_of_lt hlo (by exact_mod_cast hhi)]

theorem State.tjTaken_th (hc : s.canonical) (hth : Map.rising s.therm = true) (t : Nat) (tj : Int) :
    (s.tjTaken t tj).th t = (s.th t).taken (s.th t) tj s.bell := by
  have hk := (State.tjSlewed_spec hc t tj).2.1.1
  unfold State.tjTaken
  generalize s.tjSlewed t tj = w at hk
  have htherm : w.therm = s.therm := by rw [hk]
  rw [State.th_updTh_same (by rw [htherm]; exact hth), State.th_of htherm]

/-- Eight equal diodes below 105 °C on a tile whose SAFE line is low. -/
theorem tjSample_shows (hc : s.canonical) (hp : s.f (F.TILE_PWR_STAT_STATE n.val) ≠ 3) (ht : s.clocks.tripped = false) (hth : Map.rising s.therm = true)
    (hlo : 0 ≤ d.toInt) (hhi : d.toInt < 1050) (hline : s.bit (R.FLVL_LO n.val) 3 = false) :
    ∃ u : State, exec (.tjSample n (List.replicate 8 d) none) s = .next u ∧ (u.th n.val).tj = d.toInt ∧ u.f (F.TTH_STAT_TJ n.val) = (d.toInt / 10).toNat ∧
      u.f (F.TTH_STAT_DIODE_FAIL n.val) = 0 ∧ u.f (F.TTH_STAT_RING_FAIL n.val) = 1 ∧ (950 ≤ d.toInt → (u.th n.val).warn = true) ∧
      (950 ≤ d.toInt → (s.th n.val).warn = false → u.f (F.TTH_EVT_WARN n.val) = 1) ∧ s.keepsMemory u ∧
      (∀ m < 48, (u.th m).tj / 10 ≤ (u.th (u.f F.TH_STAT_TJ_TILE)).tj / 10) := by
  obtain ⟨hcan1, hdiode, hring, hkeep1, hwarn1, hrise1, hleaves1⟩ := State.sensed_spec hc hth n.val
  have hflvl : ∀ c, c ≠ 0xA0008 → tileBase n.val + c ∉ [R.FLVL_LO n.val] := fun c hne => by
    simp only [R.FLVL_LO, List.mem_singleton]
    omega
  have hbit1 : (s.sensed n.val).bit (R.FLVL_LO n.val) 3 = false := by
    refine (State.bit_of_rd (hkeep1 _ ?_)).trans hline
    simp only [R.FLVL_LO, R.TTH_STAT, List.mem_singleton]
    omega
  refine ⟨_, exec_tjSample_equal hp ht hlo hhi, ?_⟩
  generalize s.sensed n.val = v at hcan1 hdiode hring hkeep1 hwarn1 hrise1 hleaves1 hbit1
  obtain ⟨hfall, -, hbits⟩ := State.fall_spec hcan1 n.val (bit := 4) (by decide)
  have hcan2 : (v.fall n.val 4).canonical := ((Kept.refl v).fall _ _).2 hcan1
  have hfall_f : ∀ c (y : Fld), c ≠ 0xA0008 → y.off = tileBase n.val + c → (v.fall n.val 4).f y = v.f y := fun c y hne hy =>
    hfall.2.f (by rw [hy]; exact hflvl c hne)
  have htherm2 : (v.fall n.val 4).therm = v.therm := by rw [hfall.1]
  have hbit2 : (v.fall n.val 4).bit (R.FLVL_LO n.val) 3 = false := (hbits 3 (by decide) (by decide)).trans hbit1
  have hleaves2 : Leaves (fun _ => False) s (v.fall n.val 4) := hleaves1.faulted hfall fun _ _ h => h
  have hdiode2 := (hfall_f 0xB0000 (F.TTH_STAT_DIODE_FAIL n.val) (by decide) rfl).trans hdiode
  have hring2 := (hfall_f 0xB0000 (F.TTH_STAT_RING_FAIL n.val) (by decide) rfl).trans hring
  have hwarn2 : ((v.fall n.val 4).th n.val).warn = (s.th n.val).warn := (congrArg Therm.warn (State.th_of htherm2 n.val)).trans hwarn1
  have hrise2 : Map.rising (v.fall n.val 4).therm = true := htherm2 ▸ hrise1
  generalize v.fall n.val 4 = w at hcan2 hbit2 hleaves2 hdiode2 hring2 hwarn2 hrise2
  have hact : w.tjActs n.val d.toInt = w.tjTaken n.val d.toInt := by
    rw [State.tjActs_eq, hbit2, if_neg (by simp; omega), if_neg (by simp)]
  obtain ⟨hcan3, hk3, htj3, hrest3, hev3⟩ := State.tjSlewed_spec hcan2 n.val d.toInt
  have hcan4 := State.tjTaken_canonical hcan2 n.val d.toInt
  have hth4 := State.tjTaken_th hcan2 hrise2 n.val d.toInt
  have hf4 : ∀ y, (w.tjTaken n.val d.toInt).f y = (w.tjSlewed n.val d.toInt).f y := State.f_of_regs (w.tjTaken_regs n.val d.toInt)
  have hleaves4 : Leaves (fun _ => False) s (w.tjTaken n.val d.toInt) := (hleaves2.faulted hk3 fun _ _ h => h).tjTaken n.val d.toInt
  rw [hact]
  generalize w.tjTaken n.val d.toInt = x at hcan4 hth4 hf4 hleaves4
  obtain ⟨hmax, honly, hkeep⟩ := State.syncTjMax_spec hcan4
  have hxth : ∀ k, x.syncTjMax.th k = x.th k := fun k => State.th_of (by rw [honly.eq]) k
  have hxf : ∀ c (y : Fld), y.off = tileBase n.val + c → x.syncTjMax.f y = x.f y := fun c y hy => hkeep.f (by
    rw [hy]
    simp only [R.TH_STAT, tileBase, List.mem_singleton]
    omega)
  refine ⟨?_, ?_, ?_, ?_, fun h950 => ?_, fun h950 hw => ?_, ?_, fun m hm => ?_⟩
  · rw [hxth, hth4, Therm.taken]
  · rw [hxf 0xB0000 _ rfl, hf4, htj3, wholeC_of_nonneg hlo hhi]
  · rw [hxf 0xB0000 _ rfl, hf4, hrest3 _ rfl (by simp [Fld.apart, F.TTH_STAT_DIODE_FAIL, F.TTH_STAT_TJ]), hdiode2]
  · rw [hxf 0xB0000 _ rfl, hf4, hrest3 _ rfl (by simp [Fld.apart, F.TTH_STAT_RING_FAIL, F.TTH_STAT_TJ]), hring2]
  · rw [hxth, hth4, Therm.taken]
    simp [h950]
  · rw [hxf 0xB0008 _ rfl, hf4]
    exact hev3 h950 (hwarn2.trans hw)
  · exact hleaves4.keepsMemory.trans honly.keepsMemory
  · rw [hxth, hxth]
    exact hmax m hm

end

end Sys2Proof.Machine
end
section
/-! SUPPORT. What the sublinks of a site leave alone, and a site that goes down (R184, R402, R451, R454, R459). -/

namespace Sys2Proof.Machine

section
variable {s z u : State} {k n p key : Nat}

/-! ### What traffic leaves alone -/

/-- What a sublink that comes up or goes down leaves alone outside the registers. -/
def State.offTraffic (s : State) := (s.site, s.faults, s.dram, s.out, s.report, s.clocks, s.proctor.running, s.proctor.nextId)

theorem State.updLink_offTraffic (s : State) (p : Nat) (g : Link → Link) : (s.updLink p g).offTraffic = s.offTraffic := rfl

theorem State.enqueue_offTraffic (s : State) (p : Nat) (fs : List Flit) : (s.enqueue p fs).offTraffic = s.offTraffic := rfl

theorem State.setF_offTraffic (s : State) (x : Fld) (v : Nat) : (s.setF x v).offTraffic = s.offTraffic := rfl

theorem State.updStream_offTraffic (s : State) (key : Nat) (g : Stream → Stream) : (s.updStream key g).offTraffic = s.offTraffic := by
  unfold State.updStream
  rfl

theorem State.flushHeldTx_offTraffic (s : State) (key : Nat) : (s.flushHeldTx key).offTraffic = s.offTraffic := by
  unfold State.flushHeldTx
  split
  · rfl
  · split
    · rfl
    · rw [State.updStream_offTraffic, State.enqueue_offTraffic]

theorem State.flushMirror_offTraffic (n : Nat) (s : State) : (State.flushMirror n s).offTraffic = s.offTraffic := by
  induction n generalizing s with
  | zero => rfl
  | succ n ih =>
    unfold State.flushMirror
    split
    · rfl
    · split
      · rfl
      · exact (ih _).trans rfl

theorem State.mirrorBack_offTraffic (s : State) (back : List Flit) : (s.mirrorBack back).offTraffic = s.offTraffic := by
  unfold State.mirrorBack
  dsimp only
  split
  · rfl
  · exact (State.flushMirror_offTraffic _ _).trans rfl

theorem State.updFlush_offTraffic (s : State) (key : Nat) (g : Stream → Stream) : ((s.updStream key g).flushHeldTx key).offTraffic = s.offTraffic := by
  rw [State.flushHeldTx_offTraffic, State.updStream_offTraffic]

theorem State.streamPortDown_offTraffic (s : State) (p key : Nat) (back : List (Nat × Tu)) :
    (s.streamPortDown p key back).offTraffic = s.offTraffic := by
  unfold State.streamPortDown
  split
  · rfl
  · dsimp only
    split
    · split
      · rfl
      · split
        · split
          · exact State.updFlush_offTraffic ..
          · exact State.updStream_offTraffic ..
        · exact State.updStream_offTraffic ..
    · split
      · split
        · exact State.updFlush_offTraffic ..
        · exact State.updStream_offTraffic ..
      · split
        · exact State.updFlush_offTraffic ..
        · rfl
    · split
      · rfl
      · exact State.updFlush_offTraffic ..
    · rfl

theorem State.streamsPortDown_offTraffic (s : State) (p : Nat) (back : List Flit) : (s.streamsPortDown p back).offTraffic = s.offTraffic := by
  unfold State.streamsPortDown
  exact (State.each_keeps State.offTraffic _ _ _ fun key u => State.streamPortDown_offTraffic u p key _).trans (State.mirrorBack_offTraffic _ _)

theorem State.answerOn_offTraffic (s : State) (p det : Nat) (out : Option Nat) : (s.answerOn p det out).offTraffic = s.offTraffic := by
  cases out with
  | none => rfl
  | some q => exact State.enqueue_offTraffic ..

/-! ### A sublink that goes down (R184) -/

/-- The registers, apart from what a sublink's link layer holds. -/
def isRegister (off : Nat) : Prop := off < portBase 144

theorem Leaves.clearSub (h : Leaves isRegister z s) (p : Nat) (hp : 144 ≤ p) : Leaves isRegister z (s.clearSub p) := by
  refine h.trans ⟨rfl, rfl, rfl, fun off ho => ?_⟩
  have hf := Map.find_filter_key (fun a => !(decide (portBase p ≤ a) && decide (a < portBase p + 0x4000))) off s.regs
  have hlt : off < portBase p := ho.trans_le (by unfold portBase tileBase; omega)
  rw [if_pos (by simp; omega)] at hf
  exact congrArg (·.getD (regDefault off)) hf

/-- A site's sublink that is UP, down. -/
def State.subFallen (s : State) (k : Nat) (other : Option Nat) : State :=
  let s1 := s.answerOn (240 + k) (fsrcModule (14 + k / 2)) other
  (((s1.setF (F.XSITE_STAT_SUB_UP (k / 2)) (s1.f (F.XSITE_STAT_SUB_UP (k / 2)) - 2 ^ (k % 2))).updPr
    (fun pr => { pr with portQ := pr.portQ.filter (fun r => match r.path with | .site j => j.val != k | _ => true) })).clearSub (240 + k)).streamsPortDown
    (240 + k) (s.handback (240 + k))

theorem State.sublinkDown_cases (s : State) (k : Nat) : s.sublinkDown k = s ∨ ∃ other, s.sublinkDown k = s.subFallen k other := by
  unfold State.sublinkDown
  dsimp only
  split
  · exact .inr ⟨_, rfl⟩
  · exact .inl rfl

theorem State.sublinkDown_offTraffic (s : State) (k : Nat) : (s.sublinkDown k).offTraffic = s.offTraffic := by
  rcases s.sublinkDown_cases k with h | ⟨other, h⟩
  · rw [h]
  · rw [h]
    unfold State.subFallen
    dsimp only
    rw [State.streamsPortDown_offTraffic]
    exact Eq.trans rfl (s.answerOn_offTraffic (240 + k) (fsrcModule (14 + k / 2)) other)

/-- A sublink that goes down writes its bit of SUB_UP and no other field of a register. -/
theorem State.sublinkDown_f (hc : s.canonical) (k : Nat) {y : Fld} (hy : isRegister y.off) (ha : y.apart (F.XSITE_STAT_SUB_UP (k / 2))) :
    (s.sublinkDown k).f y = s.f y := by
  rcases s.sublinkDown_cases k with h | ⟨other, h⟩
  · rw [h]
  rw [h]
  have hans := (Leaves.refl isRegister s).answerOn (240 + k) (fsrcModule (14 + k / 2)) other
  have hcan : (s.answerOn (240 + k) (fsrcModule (14 + k / 2)) other).canonical := ((Kept.refl s).answerOn _ _ _).2 hc
  unfold State.subFallen
  dsimp only
  generalize s.answerOn (240 + k) (fsrcModule (14 + k / 2)) other = w at hans hcan
  obtain ⟨v, hv⟩ : ∃ v, v = w.setF (F.XSITE_STAT_SUB_UP (k / 2)) (w.f (F.XSITE_STAT_SUB_UP (k / 2)) - 2 ^ (k % 2)) := ⟨_, rfl⟩
  rw [← hv, (((Leaves.refl isRegister v).updPr _).clearSub (240 + k) (by omega)).streamsPortDown (240 + k) (s.handback (240 + k)) |>.f hy, hv,
    State.f_setF_ne hcan ha, hans.f hy]

/-! ### A site that goes down (R402, R454) -/

/-- What a site shows that is down in a state. -/
def siteFields (n state : Nat) : List (Fld × Nat) :=
  [(F.XSITE_STAT_STATE n, state), (F.XSITE_STAT_REASON n, 0), (F.XSITE_STAT_MOD_UP n, 0), (F.XSITE_STAT_MOD_X32 n, 0), (F.XSITE_STAT_SUB_UP n, 0),
    (F.XSITE_PWR_P n, 0), (F.XSITE_PWR_LIMIT n, 0)]

/-- A site's own state when it is down. -/
def Site.down (x : Site) (state : Nat) : Site := { x with fenced := state == 4, held := 0, lastReport := none, overs := [], steps := 0 }

/-- Both sublinks of a site down. -/
def State.subsDown (s : State) (n : Nat) : State := (s.sublinkDown (2 * n)).sublinkDown (2 * n + 1)

theorem State.siteDown_eq (s : State) (n state : Nat) :
    s.siteDown n state = ((s.subsDown n).setFs (siteFields n state)).updSt n (fun x => x.down state) := rfl

theorem State.subsDown_offTraffic (s : State) (n : Nat) : (s.subsDown n).offTraffic = s.offTraffic := by
  unfold State.subsDown
  rw [State.sublinkDown_offTraffic, State.sublinkDown_offTraffic]

theorem State.subsDown_canonical (hc : s.canonical) (n : Nat) : (s.subsDown n).canonical := (((Kept.refl s).sublinkDown _).sublinkDown _).2 hc

theorem State.subsDown_f (hc : s.canonical) (n : Nat) {y : Fld} (hy : isRegister y.off) (ha : y.apart (F.XSITE_STAT_SUB_UP n)) :
    (s.subsDown n).f y = s.f y := by
  have h0 : 2 * n / 2 = n := by omega
  have h1 : (2 * n + 1) / 2 = n := by omega
  unfold State.subsDown
  rw [State.sublinkDown_f (((Kept.refl s).sublinkDown _).2 hc) _ hy (by rw [h1]; exact ha), State.sublinkDown_f hc _ hy (by rw [h0]; exact ha)]

theorem State.siteDown_canonical (hc : s.canonical) (n state : Nat) : (s.siteDown n state).canonical := ((Kept.refl s).siteDown n state).2 hc

/-- A site that goes down shows the state. -/
theorem State.siteDown_state (hc : s.canonical) (n : Nat) {state : Nat} (h : state < 8) : (s.siteDown n state).f (F.XSITE_STAT_STATE n) = state := by
  have hcan := State.subsDown_canonical hc n
  rw [State.siteDown_eq, State.updSt_f]
  exact (State.f_setFs_at hcan (siteFields n state) 0 rfl (by simp [F.XSITE_STAT_STATE])
    (by simp [siteFields, Fld.apart, F.XSITE_STAT_STATE, F.XSITE_STAT_REASON, F.XSITE_STAT_MOD_UP, F.XSITE_STAT_MOD_X32, F.XSITE_STAT_SUB_UP,
      F.XSITE_PWR_P, F.XSITE_PWR_LIMIT, R.XSITE_STAT, R.XSITE_PWR])).trans (Nat.mod_eq_of_lt h)

/-- A site that goes down writes its own status and power registers alone. -/
theorem State.siteDown_f (hc : s.canonical) (n state : Nat) {y : Fld} (hy : isRegister y.off) (h1 : y.off ≠ R.XSITE_STAT n) (h2 : y.off ≠ R.XSITE_PWR n) :
    (s.siteDown n state).f y = s.f y := by
  rw [State.siteDown_eq, State.updSt_f, State.f_setFs_ne (State.subsDown_canonical hc n), State.subsDown_f hc n hy (.inl h1)]
  simp only [siteFields, List.mem_cons, List.not_mem_nil, or_false, forall_eq_or_imp, forall_eq]
  exact ⟨.inl h1, .inl h1, .inl h1, .inl h1, .inl h1, .inl h2, .inl h2⟩

theorem State.siteDown_site (s : State) (n state : Nat) : (s.siteDown n state).site = Map.upd {} s.site n (fun x => x.down state) := by
  have h := congrArg Prod.fst (s.subsDown_offTraffic n)
  rw [State.siteDown_eq, State.updSt, State.setFs_site]
  exact congrArg (fun m => Map.upd {} m n fun x => x.down state) h

theorem State.siteDown_rest (s : State) (n state : Nat) : (s.siteDown n state).offTraffic.2 = s.offTraffic.2 := by
  refine Eq.trans ?_ (congrArg Prod.snd (s.subsDown_offTraffic n))
  rw [State.siteDown_eq]
  generalize s.subsDown n = w
  rw [State.offTraffic, State.offTraffic, State.updSt]
  simp only [State.setFs_faults, State.setFs_dram, State.setFs_out, State.setFs_report, State.setFs_clocks, State.setFs_proctor]

theorem State.siteDown_running (s : State) (n state : Nat) : (s.siteDown n state).proctor.running = s.proctor.running := by
  have h := s.siteDown_rest n state
  generalize s.siteDown n state = w at h
  exact congrArg (·.2.2.2.2.2.1) h

theorem State.siteDown_faults (s : State) (n state : Nat) : (s.siteDown n state).faults = s.faults := by
  have h := s.siteDown_rest n state
  generalize s.siteDown n state = w at h
  exact congrArg (·.1) h

/-! ### A sublink that comes up (R451, R454) -/

theorem State.streamsPortUp_offTraffic (s : State) {p : Nat} (hp : 240 ≤ p) (node : Nat) : (s.streamsPortUp p node).offTraffic = s.offTraffic := by
  have htwin : ∀ u : State, u.twinPortUp p = u := fun u => by
    unfold State.twinPortUp
    rw [if_pos (by simp [hp])]
  unfold State.streamsPortUp
  dsimp only
  rw [htwin]
  refine Eq.trans (b := (s.each s.streamKeys _).offTraffic) rfl (State.each_keeps State.offTraffic _ _ _ fun key u => ?_)
  split
  · rfl
  · split
    · rfl
    · split
      · exact State.updFlush_offTraffic ..
      · split
        · exact State.updFlush_offTraffic ..
        · split
          · exact State.flushHeldTx_offTraffic ..
          · rfl

theorem Leaves.streamsPortUp {P : Nat → Prop} (h : Leaves P z s) {p : Nat} (hp : 240 ≤ p) (node : Nat) : Leaves P z (s.streamsPortUp p node) := by
  have htwin : ∀ u : State, u.twinPortUp p = u := fun u => by
    unfold State.twinPortUp
    rw [if_pos (by simp [hp])]
  unfold State.streamsPortUp
  dsimp only
  rw [htwin]
  refine Leaves.same (s := s.each s.streamKeys _) (h.each _ _ fun key _ u hu => ?_) rfl rfl rfl rfl
  split
  · exact hu
  · split
    · exact hu
    · split
      · exact (hu.updStream ..).flushHeldTx _
      · split
        · exact (hu.updStream ..).flushHeldTx _
        · split
          · exact hu.flushHeldTx _
          · exact hu

theorem State.sublinkUp_offTraffic (s : State) (k : Nat) : (s.sublinkUp k).offTraffic = s.offTraffic := by
  unfold State.sublinkUp
  dsimp only
  split
  · rw [State.streamsPortUp_offTraffic _ (by omega), State.setF_offTraffic]
  · rfl

/-- A sublink that comes up writes its bit of SUB_UP and no other field of a register. -/
theorem State.sublinkUp_f (hc : s.canonical) (k : Nat) {y : Fld} (ha : y.apart (F.XSITE_STAT_SUB_UP (k / 2))) : (s.sublinkUp k).f y = s.f y := by
  unfold State.sublinkUp
  dsimp only
  split
  · rw [((Leaves.refl (fun _ => True) _).streamsPortUp (by omega) _).f trivial, State.f_setF_ne hc ha]
  · rfl

theorem State.sublinksUp_offTraffic (s : State) (n : Nat) : (s.sublinksUp n).offTraffic = s.offTraffic := by
  unfold State.sublinksUp
  rw [State.sublinkUp_offTraffic, State.sublinkUp_offTraffic]

theorem State.sublinksUp_f (hc : s.canonical) (n : Nat) {y : Fld} (ha : y.apart (F.XSITE_STAT_SUB_UP n)) : (s.sublinksUp n).f y = s.f y := by
  have h0 : 2 * n / 2 = n := by omega
  have h1 : (2 * n + 1) / 2 = n := by omega
  unfold State.sublinksUp
  rw [State.sublinkUp_f (((Kept.refl s).sublinkUp _).2 hc) _ (by rw [h1]; exact ha), State.sublinkUp_f hc _ (by rw [h0]; exact ha)]

end

end Sys2Proof.Machine
end
section
/-! SUPPORT. A site's die found, refused or lost, a lost width and the site's commands (R451 to R454, R460). -/

namespace Sys2Proof.Machine

section
variable {s z : State} {n : Nat}

/-- A site's registers hold no record of a fault. -/
theorem site_not_log (n c : Nat) : 0x9000 + c + 0x100 * n ∉ logRegs := by
  simp only [logRegs, List.mem_cons, List.not_mem_nil, or_false, R.RC_STAT, R.RC_SEQ, R.RC_FLASH_SEQ, R.RC_FOLD, R.RC_DROP, R.RC_DROP_CRIT,
    R.MFSW_SRC, R.MFIRST, R.MFIRST_BELL_LO, R.MFIRST_BELL_HI]
  omega

theorem site_isRegister {off : Nat} (h : off < 0x1000000) : isRegister off := h.trans_le (by decide)

/-- A record leaves a site's fields. -/
theorem State.note_site_f (s : State) (c : Nat) {y : Fld} (hy : y.off = 0x9000 + c + 0x100 * n) (g : Nat) (e : RecEv) (sev source : Nat) (v : Int) :
    (s.note g e sev source v).f y = s.f y := s.note_f g e sev source v (by rw [hy]; exact site_not_log n c)

theorem State.note_site (s : State) (g : Nat) (e : RecEv) (sev source : Nat) (v : Int) : (s.note g e sev source v).site = s.site := by
  rw [(s.note_logged g e sev source v).1]

/-! ### The end of the site's resets (R460) -/

theorem State.finishParam_site (s : State) (id st det : Nat) : (s.finishParam id st det).site = s.site := by
  unfold State.finishParam
  split <;> rfl

theorem State.endSiteRuns_f (s : State) (n status detail : Nat) (y : Fld) : (s.endSiteRuns n status detail).f y = s.f y := by
  unfold State.endSiteRuns
  rw [State.updSt_f]
  exact State.each_keeps (fun u : State => u.f y) s _ _ fun id u => State.finishParam_f u id status detail [] {} y

theorem State.endSiteRuns_runs (h : Map.rising s.site = true) (n status detail : Nat) : ((s.endSiteRuns n status detail).st n).runs = [] := by
  unfold State.endSiteRuns
  have hsite : (s.each (s.st n).runs fun s id => s.finishParam id status detail).site = s.site :=
    State.each_keeps State.site s _ _ fun id u => u.finishParam_site id status detail
  rw [State.st_updSt_same (by rw [hsite]; exact h)]

/-! ### SIDEBAND_TIMEOUT (R451) -/

theorem State.siteDown_rising (h : Map.rising s.site = true) (n state : Nat) : Map.rising (s.siteDown n state).site = true := by
  rw [State.siteDown_site]
  exact Map.rising_upd h _ _

theorem sidebandTimeout_ends (hc : s.canonical) (hr : Map.rising s.site = true) {n : Fin 2} (h : s.f (F.XSITE_STAT_STATE n.val) = 1) :
    ∃ u : State, exec (.sidebandTimeout n) s = .next u ∧ u.f (F.XSITE_STAT_STATE n.val) = 0 ∧ (u.st n.val).runs = [] := by
  refine ⟨_, if_neg (not_not.2 h), ?_, State.endSiteRuns_runs ?_ ..⟩
  · rw [State.endSiteRuns_f, State.note_site_f _ 4 rfl, State.siteDown_state hc n.val (by decide)]
  · rw [State.note_site]
    exact State.siteDown_rising hr _ _

/-! ### SITE_DISCOVERY (R451 to R455) -/

/-- The limits that a capability record gives. -/
def capLimits (n : Nat) (cap : List Byte) : List (Fld × Nat) :=
  [(F.XSITE_TEMP_T_WARN n, leAt cap 50 1), (F.XSITE_TEMP_T_THROTTLE n, leAt cap 51 1), (F.XSITE_TEMP_T_TRIP n, leAt cap 52 1)]

/-- The record read, and its limits shown. -/
def State.capRead (s : State) (n : Nat) (cap : List Byte) : State := (s.updSt n (fun x => { x with cap := cap })).setFs (capLimits n cap)

/-- What a trained site shows. -/
def trainFields (n : Nat) (width : Nat × Nat) (epoch node : Nat) : List (Fld × Nat) :=
  [(F.XSITE_STAT_MOD_UP n, width.1), (F.XSITE_STAT_MOD_X32 n, width.2), (F.XSITE_STAT_EPOCH n, epoch),
    (F.XSITE_STAT_STATE n, if node = 0 then 2 else 3), (F.XSITE_STAT_REASON n, if node = 0 then 5 else 0)]

theorem leAt_one_lt (bs : List Byte) (off : Nat) : leAt bs off 1 < 2 ^ 8 := by
  unfold leAt
  match h : (bs.drop off).take 1 with
  | [] => decide
  | [b] => 
    have := b.isLt
    simp [leNat]
    omega
  | a :: b :: l =>
    have := congrArg List.length h
    simp at this
    omega

theorem State.capRead_canonical (hc : s.canonical) (n : Nat) (cap : List Byte) : (s.capRead n cap).canonical :=
  (((Kept.refl s).updSt n _).setFs _).2 hc

theorem State.capRead_f (hc : s.canonical) (cap : List Byte) {y : Fld} (hy : y.off ≠ R.XSITE_TEMP n) : (s.capRead n cap).f y = s.f y := by
  unfold State.capRead
  rw [State.f_setFs_ne (((Kept.refl s).updSt n _).2 hc), State.updSt_f]
  simp only [capLimits, List.mem_cons, List.not_mem_nil, or_false, forall_eq_or_imp, forall_eq]
  exact ⟨.inl hy, .inl hy, .inl hy⟩

theorem State.capRead_trip (hc : s.canonical) (n : Nat) (cap : List Byte) : (s.capRead n cap).f (F.XSITE_TEMP_T_TRIP n) = leAt cap 52 1 := by
  have hcan : (s.updSt n (fun x => { x with cap := cap })).canonical := ((Kept.refl s).updSt n _).2 hc
  exact (State.f_setFs_at hcan (capLimits n cap) 2 rfl (by simp [F.XSITE_TEMP_T_TRIP]) (by simp [capLimits])).trans
    (Nat.mod_eq_of_lt (leAt_one_lt cap 52))

theorem State.siteTrain_eq (s : State) (n : Nat) {t : SiteTrain} (h : t.held = 0) : ∃ epoch g, s.siteTrain n t =
    ((s.setFs (trainFields n (s.siteWidth n t) epoch (s.f (F.XSITE_CFG_NODE n)))).updSt n g).sublinksUp n := by
  unfold State.siteTrain
  dsimp only
  rw [h]
  exact ⟨_, _, rfl⟩

theorem State.sendLimit_f (s : State) (n : Nat) {y : Fld} (hy : y.off ≠ R.XSITE_PWR n) : (s.sendLimit n).f y = s.f y := by
  unfold State.sendLimit
  dsimp only
  generalize (if s.diePct n = 100 then 0 else capPmax (s.st n).cap * s.diePct n / 100) = lim
  split
  · rfl
  · exact State.f_setF_off (x := F.XSITE_PWR_LIMIT n) hy lim

theorem State.siteWidth_lt (s : State) (n : Nat) (t : SiteTrain) : (s.siteWidth n t).1 < 2 ^ 4 ∧ (s.siteWidth n t).2 < 2 ^ 4 := by
  unfold State.siteWidth
  dsimp only
  split
  · exact ⟨BitVec.isLt _, BitVec.isLt _⟩
  · exact ⟨BitVec.isLt _, Nat.two_pow_pos 4⟩

/-- A site that has trained with no sublink held shows its modules and its state, and leaves its limits. -/
theorem State.siteTrain_shows (hc : s.canonical) (n : Nat) {t : SiteTrain} (h : t.held = 0) :
    (s.siteTrain n t).f (F.XSITE_STAT_STATE n) = (if s.f (F.XSITE_CFG_NODE n) = 0 then 2 else 3) ∧
    (s.siteTrain n t).f (F.XSITE_STAT_MOD_UP n) = (s.siteWidth n t).1 ∧ (s.siteTrain n t).f (F.XSITE_STAT_MOD_X32 n) = (s.siteWidth n t).2 ∧
    (s.siteTrain n t).f (F.XSITE_TEMP_T_TRIP n) = s.f (F.XSITE_TEMP_T_TRIP n) := by
  obtain ⟨epoch, g, he⟩ := s.siteTrain_eq n h
  obtain ⟨hup, hx32⟩ := s.siteWidth_lt n t
  generalize s.siteWidth n t = width at he hup hx32
  obtain ⟨l, hl⟩ : ∃ l, l = trainFields n width epoch (s.f (F.XSITE_CFG_NODE n)) := ⟨_, rfl⟩
  have hcan : ((s.setFs l).updSt n g).canonical := (((Kept.refl s).setFs l).updSt n g).2 hc
  have hf : ∀ y : Fld, y.apart (F.XSITE_STAT_SUB_UP n) → (s.siteTrain n t).f y = (s.setFs l).f y := fun y ha => by
    rw [he, ← hl, State.sublinksUp_f hcan n ha, State.updSt_f]
  refine ⟨?_, ?_, ?_, ?_⟩
  · rw [hf _ (by simp [Fld.apart, F.XSITE_STAT_STATE, F.XSITE_STAT_SUB_UP]), hl]
    refine (State.f_setFs_at hc (trainFields n width epoch (s.f (F.XSITE_CFG_NODE n))) 3 rfl (by simp [F.XSITE_STAT_STATE])
      (by simp [trainFields, Fld.apart, F.XSITE_STAT_STATE, F.XSITE_STAT_REASON])).trans (Nat.mod_eq_of_lt ?_)
    show (if s.f (F.XSITE_CFG_NODE n) = 0 then 2 else 3) < 8
    split <;> decide
  · rw [hf _ (by simp [Fld.apart, F.XSITE_STAT_MOD_UP, F.XSITE_STAT_SUB_UP]), hl]
    exact (State.f_setFs_at hc (trainFields n width epoch (s.f (F.XSITE_CFG_NODE n))) 0 rfl (by simp [F.XSITE_STAT_MOD_UP])
      (by simp [trainFields, Fld.apart, F.XSITE_STAT_STATE, F.XSITE_STAT_REASON, F.XSITE_STAT_MOD_UP, F.XSITE_STAT_MOD_X32, F.XSITE_STAT_EPOCH])).trans
      (Nat.mod_eq_of_lt hup)
  · rw [hf _ (by simp [Fld.apart, F.XSITE_STAT_MOD_X32, F.XSITE_STAT_SUB_UP]), hl]
    exact (State.f_setFs_at hc (trainFields n width epoch (s.f (F.XSITE_CFG_NODE n))) 1 rfl (by simp [F.XSITE_STAT_MOD_X32])
      (by simp [trainFields, Fld.apart, F.XSITE_STAT_STATE, F.XSITE_STAT_REASON, F.XSITE_STAT_MOD_X32, F.XSITE_STAT_EPOCH])).trans (Nat.mod_eq_of_lt hx32)
  · have hoff : R.XSITE_TEMP n ≠ R.XSITE_STAT n := by simp [R.XSITE_TEMP, R.XSITE_STAT]
    rw [hf _ (.inl hoff), hl, State.f_setFs_ne hc]
    simp only [trainFields, List.mem_cons, List.not_mem_nil, or_false, forall_eq_or_imp, forall_eq]
    exact ⟨.inl hoff, .inl hoff, .inl hoff, .inl hoff, .inl hoff⟩

end

section
variable {s : State} {n : Fin 2} {reads : List (List Byte)} {train : SiteTrain}

/-- A die that is not admitted: its site down in MISMATCH with the reason. -/
def State.dieRefused (s : State) (n reason : Nat) (cap : List Byte) : State :=
  ((((s.capRead n cap).siteDown n 5).setF (F.XSITE_STAT_REASON n) reason).note 0x1 .siteState 3 (tgtSite n)).endSiteRuns n stSetMismatch reason

/-- An admitted die: trained, with its power limit sent. -/
def State.dieAdmitted (s : State) (n : Nat) (cap : List Byte) (train : SiteTrain) : State :=
  (((s.capRead n cap).siteTrain n train).sendLimit n).endSiteRuns n stOk 0

theorem exec_siteDiscovery (h : s.f (F.XSITE_STAT_STATE n.val) = 1) : exec (.siteDiscovery n reads train) s =
    (let cap := fitBytes 64 (((reads.take 3).find? capOk).getD ((reads.take 3).getLast?.getD []))
     let reason := if ((reads.take 3).find? capOk).isSome then s.admission cap else 4
     if reason ≠ 0 then .next (s.dieRefused n.val reason cap) else .next (s.dieAdmitted n.val cap train)) :=
  if_neg (not_not.2 h)

theorem State.dieRefused_shows (hc : s.canonical) (n : Nat) {reason : Nat} (hr : reason < 8) (cap : List Byte) :
    (s.dieRefused n reason cap).f (F.XSITE_STAT_STATE n) = 5 ∧ (s.dieRefused n reason cap).f (F.XSITE_STAT_REASON n) = reason := by
  have hcan := State.siteDown_canonical (State.capRead_canonical hc n cap) n 5
  have hstate := State.siteDown_state (State.capRead_canonical hc n cap) n (state := 5) (by decide)
  unfold State.dieRefused
  generalize (s.capRead n cap).siteDown n 5 = w at hcan hstate
  refine ⟨?_, ?_⟩
  · rw [State.endSiteRuns_f, State.note_site_f _ 4 rfl, State.f_setF_ne hcan (by simp [Fld.apart, F.XSITE_STAT_STATE, F.XSITE_STAT_REASON]), hstate]
  · rw [State.endSiteRuns_f, State.note_site_f _ 4 rfl, State.f_setF_same hcan.rising _ _ (by simp [F.XSITE_STAT_REASON])]
    exact Nat.mod_eq_of_lt hr

theorem State.dieAdmitted_shows (hc : s.canonical) (n : Nat) (cap : List Byte) (h : train.held = 0) :
    (s.dieAdmitted n cap train).f (F.XSITE_STAT_STATE n) = (if s.f (F.XSITE_CFG_NODE n) = 0 then 2 else 3) ∧
    (s.dieAdmitted n cap train).f (F.XSITE_STAT_MOD_UP n) = (s.siteWidth n train).1 ∧
    (s.dieAdmitted n cap train).f (F.XSITE_STAT_MOD_X32 n) = (s.siteWidth n train).2 ∧
    (s.dieAdmitted n cap train).f (F.XSITE_TEMP_T_TRIP n) = leAt cap 52 1 := by
  have hcfg : ∀ y : Fld, y.off = R.XSITE_CFG n → (s.capRead n cap).f y = s.f y := fun y hy => State.capRead_f hc cap (by
    rw [hy]
    simp [R.XSITE_CFG, R.XSITE_TEMP])
  have hwidth : (s.capRead n cap).siteWidth n train = s.siteWidth n train := by
    unfold State.siteWidth State.b
    rw [hcfg (F.XSITE_CFG_X32_EN n) rfl]
  obtain ⟨hstate, hup, hx32, htrip⟩ := State.siteTrain_shows (State.capRead_canonical hc n cap) n h
  rw [hcfg _ rfl] at hstate
  rw [hwidth] at hup hx32
  rw [State.capRead_trip hc] at htrip
  have hend : ∀ y : Fld, y.off ≠ R.XSITE_PWR n → (s.dieAdmitted n cap train).f y = ((s.capRead n cap).siteTrain n train).f y := fun y hy => by
    unfold State.dieAdmitted
    rw [State.endSiteRuns_f, State.sendLimit_f _ _ hy]
  have hne : R.XSITE_STAT n ≠ R.XSITE_PWR n := by simp [R.XSITE_STAT, R.XSITE_PWR]
  exact ⟨(hend _ hne).trans hstate, (hend _ hne).trans hup, (hend _ hne).trans hx32, (hend _ (by simp [F.XSITE_TEMP_T_TRIP, R.XSITE_TEMP, R.XSITE_PWR])).trans htrip⟩

theorem State.admission_lt (s : State) (cap : List Byte) : s.admission cap < 8 := by
  unfold State.admission
  dsimp only
  split
  · decide
  split
  · decide
  split
  · decide
  split <;> decide

theorem fitBytes_exact {l : List Byte} {k : Nat} (h : l.length = k) : fitBytes k l = l := by
  subst h
  simp [fitBytes, zeros]

theorem siteDiscovery_unread (hc : s.canonical) (h : s.f (F.XSITE_STAT_STATE n.val) = 1) (hr : (reads.take 3).find? capOk = none) :
    ∃ u : State, exec (.siteDiscovery n reads train) s = .next u ∧ u.f (F.XSITE_STAT_STATE n.val) = 5 ∧ u.f (F.XSITE_STAT_REASON n.val) = 4 := by
  refine ⟨_, ?_, State.dieRefused_shows hc n.val (reason := 4) (by decide) (fitBytes 64 ((reads.take 3).getLast?.getD []))⟩
  rw [exec_siteDiscovery h, hr]
  rfl

theorem siteDiscovery_read (hc : s.canonical) (h : s.f (F.XSITE_STAT_STATE n.val) = 1) {cap : List Byte} (hr : (reads.take 3).find? capOk = some cap)
    (hlen : cap.length = 64) (hh : train.held = 0) :
    ∃ u : State, exec (.siteDiscovery n reads train) s = .next u ∧
      (s.admission cap ≠ 0 → u.f (F.XSITE_STAT_STATE n.val) = 5 ∧ u.f (F.XSITE_STAT_REASON n.val) = s.admission cap) ∧
      (s.admission cap = 0 → u.f (F.XSITE_STAT_STATE n.val) = (if s.f (F.XSITE_CFG_NODE n.val) = 0 then 2 else 3) ∧
        u.f (F.XSITE_STAT_MOD_UP n.val) = (s.siteWidth n.val train).1 ∧
        u.f (F.XSITE_STAT_MOD_X32 n.val) = (s.siteWidth n.val train).2 ∧ u.f (F.XSITE_TEMP_T_TRIP n.val) = leAt cap 52 1) := by
  have hx : exec (.siteDiscovery n reads train) s =
      if s.admission cap ≠ 0 then .next (s.dieRefused n.val (s.admission cap) cap) else .next (s.dieAdmitted n.val cap train) := by
    rw [exec_siteDiscovery h, hr]
    simp only [Option.getD_some, Option.isSome_some, if_true, fitBytes_exact hlen]
  by_cases ha : s.admission cap = 0
  · exact ⟨_, hx.trans (if_neg (not_not.2 ha)), fun hn => absurd ha hn, fun _ => State.dieAdmitted_shows hc n.val cap hh⟩
  · exact ⟨_, hx.trans (if_pos ha), fun _ => State.dieRefused_shows hc n.val (s.admission_lt cap) cap, fun h0 => absurd h0 ha⟩

end

/-! ### UCIE_WIDTH_DEGRADE (R454) -/

section
variable {s : State} {n : Fin 2} {k : Fin 4}

theorem State.subRetrain_f (s : State) (k : Nat) (y : Fld) : (s.subRetrain k).f y = s.f y := by
  unfold State.subRetrain
  split
  · unfold State.fastRetrain
    rw [if_neg (by omega)]
    rfl
  · rfl

/-- A bit set where it was clear. -/
theorem bit_added : ∀ k < 4, ∀ x < 16, x / 2 ^ k % 2 = 0 → (x + 2 ^ k) % 16 / 2 ^ k % 2 = 1 := by decide

theorem ucieWidthDegrade_lost (hc : s.canonical) (hup : s.f (F.XSITE_STAT_MOD_UP n.val) / 2 ^ k.val % 2 = 1) :
    ∃ u : State, exec (.ucieWidthDegrade n k) s = .next u ∧
      (s.f (F.XSITE_CFG_X32_EN n.val) = 1 → s.f (F.XSITE_STAT_MOD_X32 n.val) / 2 ^ k.val % 2 = 0 →
        u.f (F.XSITE_STAT_MOD_X32 n.val) / 2 ^ k.val % 2 = 1 ∧ u.f (F.XSITE_STAT_MOD_UP n.val) = s.f (F.XSITE_STAT_MOD_UP n.val)) ∧
      (s.f (F.XSITE_CFG_X32_EN n.val) = 0 ∨ s.f (F.XSITE_STAT_MOD_X32 n.val) / 2 ^ k.val % 2 = 1 →
        u.f (F.XSITE_STAT_MOD_UP n.val) = s.f (F.XSITE_STAT_MOD_UP n.val) - 2 ^ k.val) := by
  obtain ⟨w, hw⟩ : ∃ w, w = s.setF (F.XSITE_STAT_EPOCH n.val) (epochNext (s.f (F.XSITE_STAT_EPOCH n.val)) 0) := ⟨_, rfl⟩
  have hcan : w.canonical := hw ▸ State.setF_canonical hc _ _
  have hwup : w.f (F.XSITE_STAT_MOD_UP n.val) = s.f (F.XSITE_STAT_MOD_UP n.val) := by
    rw [hw, State.f_setF_ne hc (by simp [Fld.apart, F.XSITE_STAT_MOD_UP, F.XSITE_STAT_EPOCH])]
  have hx : exec (.ucieWidthDegrade n k) s =
      if (s.b (F.XSITE_CFG_X32_EN n.val) && s.f (F.XSITE_STAT_MOD_X32 n.val) / 2 ^ k.val % 2 = 0) then
        .next ((w.setF (F.XSITE_STAT_MOD_X32 n.val) (s.f (F.XSITE_STAT_MOD_X32 n.val) + 2 ^ k.val)).subRetrain (2 * n.val + k.val / 2))
      else .next ((if (s.f (F.XSITE_STAT_MOD_UP n.val) - 2 ^ k.val) / 4 ^ (k.val / 2) % 4 = 0 then w.sublinkDown (2 * n.val + k.val / 2)
          else w.subRetrain (2 * n.val + k.val / 2)).setFs [(F.XSITE_STAT_MOD_UP n.val, s.f (F.XSITE_STAT_MOD_UP n.val) - 2 ^ k.val),
            (F.XSITE_STAT_MOD_X32 n.val, s.f (F.XSITE_STAT_MOD_X32 n.val) - (s.f (F.XSITE_STAT_MOD_X32 n.val) / 2 ^ k.val % 2) * 2 ^ k.val)]) := by
    rw [hw]
    exact if_neg (by rw [hup]; decide)
  have hlt32 : s.f (F.XSITE_STAT_MOD_X32 n.val) < 16 := s.f_lt _
  have hltup : s.f (F.XSITE_STAT_MOD_UP n.val) < 16 := s.f_lt _
  by_cases hd : s.b (F.XSITE_CFG_X32_EN n.val) = true ∧ s.f (F.XSITE_STAT_MOD_X32 n.val) / 2 ^ k.val % 2 = 0
  · refine ⟨_, hx.trans (if_pos (by simp [hd])), fun _ h0 => ⟨?_, ?_⟩, fun h => ?_⟩
    · rw [State.subRetrain_f, State.f_setF_same hcan.rising _ _ (by simp [F.XSITE_STAT_MOD_X32])]
      exact bit_added k.val k.isLt _ hlt32 h0
    · rw [State.subRetrain_f, State.f_setF_ne hcan (by simp [Fld.apart, F.XSITE_STAT_MOD_UP, F.XSITE_STAT_MOD_X32]), hwup]
    · rcases h with h | h
      · have := hd.1
        rw [State.b_eq_false h] at this
        cases this
      · omega
  · refine ⟨_, hx.trans (if_neg (by simpa using hd)), fun h1 h0 => absurd ⟨State.b_eq_true h1, h0⟩ hd, fun _ => ?_⟩
    generalize hv : (if (s.f (F.XSITE_STAT_MOD_UP n.val) - 2 ^ k.val) / 4 ^ (k.val / 2) % 4 = 0 then w.sublinkDown (2 * n.val + k.val / 2)
      else w.subRetrain (2 * n.val + k.val / 2)) = v
    have hvc : v.canonical := by
      rw [← hv]
      split
      · exact ((Kept.refl w).sublinkDown _).2 hcan
      · exact ((Kept.refl w).subRetrain _).2 hcan
    refine (State.f_setFs_at hvc [(F.XSITE_STAT_MOD_UP n.val, s.f (F.XSITE_STAT_MOD_UP n.val) - 2 ^ k.val),
      (F.XSITE_STAT_MOD_X32 n.val, s.f (F.XSITE_STAT_MOD_X32 n.val) - (s.f (F.XSITE_STAT_MOD_X32 n.val) / 2 ^ k.val % 2) * 2 ^ k.val)] 0 rfl
      (by simp [F.XSITE_STAT_MOD_UP]) (by simp [Fld.apart, F.XSITE_STAT_MOD_UP, F.XSITE_STAT_MOD_X32])).trans (Nat.mod_eq_of_lt ?_)
    exact (Nat.sub_le _ _).trans_lt hltup

end

/-! ### The site's commands (R460) -/

section
variable {s : State} {p : Packet} {o : Nat}

/-- A fence of a site lifted, where it stands (R404). -/
def State.fenceLifted (s : State) (k : Nat) : State := if (s.fence k).on then s.setFence k { on := false, lifted := some s.bell, esc := false } else s

/-- A fence changed: the table and one FENCED bit. -/
theorem State.setFence_eq (s : State) (k : Nat) (g : Fence) : ∃ v, s.setFence k g =
    ({ s with faults := { s.faults with fences := Map.set {} s.faults.fences k g } } : State).setB (if k < 48 * 64 then F.FSTATE_FENCED (k / 64) else F.MFSTATE_FENCED) v := by
  unfold State.setFence
  dsimp only
  split
  · exact ⟨_, rfl⟩
  · exact ⟨_, rfl⟩

theorem State.fenceLifted_off (s : State) (k : Nat) : ((s.fenceLifted k).fence k).on = false := by
  unfold State.fenceLifted
  split
  · have hne : ({ on := false, lifted := some s.bell, esc := false } : Fence) ≠ {} := by simp
    obtain ⟨v, hv⟩ := s.setFence_eq k { on := false, lifted := some s.bell, esc := false }
    unfold State.fence
    rw [hv, State.setB_faults, Map.set, if_neg hne]
    exact congrArg (fun g : Option Fence => (g.getD {}).on) (Map.find_put_same k _ _)
  · next h => simpa using h

theorem State.fenceLifted_proctor (s : State) (k : Nat) : (s.fenceLifted k).proctor = s.proctor := by
  unfold State.fenceLifted
  split
  · obtain ⟨v, hv⟩ := s.setFence_eq k { on := false, lifted := some s.bell, esc := false }
    rw [hv, State.setB_proctor]
  · rfl

theorem State.fenceLifted_canonical (hc : s.canonical) (k : Nat) : (s.fenceLifted k).canonical := by
  unfold State.fenceLifted
  split
  · exact ((Kept.refl s).setFence _ _).2 hc
  · exact hc

theorem State.fenceLifted_cfg (s : State) (n m : Nat) : (s.fenceLifted (48 * 64 + 14 + n)).b (F.XSITE_CFG_EN m) = s.b (F.XSITE_CFG_EN m) := by
  unfold State.fenceLifted
  split
  · obtain ⟨v, hv⟩ := s.setFence_eq (48 * 64 + 14 + n) { on := false, lifted := some s.bell, esc := false }
    rw [hv, if_neg (by omega)]
    unfold State.b
    rw [State.setB, State.f_setF_off (by simp only [F.XSITE_CFG_EN, F.MFSTATE_FENCED, R.XSITE_CFG, R.MFSTATE]; omega)]
    exact congrArg (· != 0) (State.f_of_regs rfl _)
  · rfl

/-- XSITE_RESET lifts the fence, then starts discovery or, where EN keeps the site OFF, ends. -/
theorem xsiteResetDef_act (b : State) (p : Packet) (o id : Nat) : xsiteResetDef.act b p o id =
    if (b.fenceLifted (48 * 64 + 14 + p.unit)).b (F.XSITE_CFG_EN p.unit) then
      .later (((b.fenceLifted (48 * 64 + 14 + p.unit)).siteDown p.unit 1).updSt p.unit (fun x => { x with runs := x.runs ++ [id] }))
    else .now ((b.fenceLifted (48 * 64 + 14 + p.unit)).siteDown p.unit 0) stOk 0 [] (paramChange p) := rfl

/-- An entry that a change does not leave at its default reads as changed. -/
theorem State.st_updSt_of_ne {k : Nat} {g : Site → Site} (h : g (s.st k) ≠ {}) : (s.updSt k g).st k = g (s.st k) := Map.get_upd_of_ne h

/-- A command that goes on is listed as running where its start kept the list. -/
theorem runCmd_later_running {d : CmdDef} {u : State} (ha : s.accepts d p o) (hact : d.act (s.begun p) p o (s.begun p).proctor.nextId = .later u)
    (hp : u.proctor.running = (s.begun p).proctor.running) :
    (s.begun p).runsOn (runCmd d p s) p o d.code ∧ (∀ y, (runCmd d p s).f y = u.f y) ∧ (runCmd d p s).site = u.site ∧ (runCmd d p s).faults = u.faults := by
  have he := runCmd_accepted ha
  rw [hact] at he
  rw [he]
  generalize s.begun p = b at hp
  exact ⟨by simp only [State.runsOn, State.updPr, hp]; rfl, fun _ => rfl, rfl, rfl⟩

theorem xsiteReset_discovers (hc : s.canonical) (ha : s.accepts xsiteResetDef p o) : let b := s.begun p
    b.f (F.XSITE_CFG_EN p.unit) = 1 → ∃ t : State, exec (.xsiteReset p) s = .next t ∧ t.f (F.XSITE_STAT_STATE p.unit) = 1 ∧
      b.proctor.nextId ∈ (t.st p.unit).runs ∧ (t.fence (48 * 64 + 14 + p.unit)).on = false ∧ b.runsOn t p o 0x140 := by
  intro b hen
  obtain ⟨w, hw⟩ : ∃ w, w = b.fenceLifted (48 * 64 + 14 + p.unit) := ⟨_, rfl⟩
  have hwc : w.canonical := hw ▸ State.fenceLifted_canonical (State.begun_canonical hc p) _
  have hact : xsiteResetDef.act b p o b.proctor.nextId =
      .later ((w.siteDown p.unit 1).updSt p.unit (fun x => { x with runs := x.runs ++ [b.proctor.nextId] })) := by
    rw [xsiteResetDef_act, State.fenceLifted_cfg, if_pos (State.b_eq_true hen), hw]
  have hrun : ((w.siteDown p.unit 1).updSt p.unit (fun x => { x with runs := x.runs ++ [b.proctor.nextId] })).proctor.running = b.proctor.running := by
    rw [State.updSt_proctor, State.siteDown_running, hw, State.fenceLifted_proctor]
  obtain ⟨hruns, hf, hsite, hfl⟩ := runCmd_later_running ha hact hrun
  refine ⟨runCmd xsiteResetDef p s, exec_command rfl (by decide) s, ?_, ?_, ?_, hruns⟩
  · rw [hf, State.updSt_f, State.siteDown_state hwc _ (by decide)]
  · rw [State.st_of hsite, State.st_updSt_of_ne]
    · exact List.mem_append_right _ (List.mem_cons_self ..)
    · exact fun h => List.append_ne_nil_of_right_ne_nil _ (by simp) (congrArg Site.runs h)
  · unfold State.fence
    rw [hfl, State.updSt_faults, State.siteDown_faults, hw]
    exact b.fenceLifted_off _

theorem xsiteReset_off (hc : s.canonical) (ha : s.accepts xsiteResetDef p o) : let b := s.begun p
    b.f (F.XSITE_CFG_EN p.unit) = 0 → ∃ u : State, exec (.xsiteReset p) s =
      .next (u.conclude 0x140 o true p stOk 0 [] (paramChange p) (undoOf b u)) ∧ u.f (F.XSITE_STAT_STATE p.unit) = 0 := by
  intro b hen
  obtain ⟨w, hw⟩ : ∃ w, w = b.fenceLifted (48 * 64 + 14 + p.unit) := ⟨_, rfl⟩
  have hwc : w.canonical := hw ▸ State.fenceLifted_canonical (State.begun_canonical hc p) _
  have hact : xsiteResetDef.act b p o b.proctor.nextId = .now (w.siteDown p.unit 0) stOk 0 [] (paramChange p) := by
    rw [xsiteResetDef_act, State.fenceLifted_cfg, if_neg (by rw [State.b_eq_false hen]; decide), hw]
  refine ⟨w.siteDown p.unit 0, ?_, State.siteDown_state hwc _ (by decide)⟩
  rw [exec_command rfl (by decide), runCmd_accepted ha, hact]
  rfl

theorem xsiteCapRead_answers (ha : s.accepts xsiteCapReadDef p o) :
    exec (.xsiteCapRead p) s = .next ((s.begun p).replies p (fitBytes 64 ((s.begun p).st p.unit).cap)) := by
  rw [exec_command rfl (by decide), runCmd_accepted ha]
  exact congrArg Host.Outcome.next (State.conclude_plain _ rfl (by decide))

end

end Sys2Proof.Machine
end
section
/-! SUPPORT. What a die, a remote diode and the coolant channels report (R396, R398, R457, R458). -/

namespace Sys2Proof.Machine

/-! ### The die's readings (R457, R458) -/

section
variable {s : State} {n : Fin 2}

theorem die_unpowered (h : s.diePowered n.val = false) (t : BitVec 8) (w : BitVec 16) :
    exec (.dieTempReport n t) s = .next s ∧ exec (.dieThrottleStep n) s = .next s ∧ exec (.dieTempReportTimeout n) s = .next s ∧
      exec (.sitePowerSample n w) s = .next s := by
  refine ⟨if_pos (by rw [h]; rfl), if_pos (by rw [h]; rfl), ?_, if_pos (by rw [h]; rfl)⟩
  have hx : exec (.dieTempReportTimeout n) s = execDieTempReportTimeout n s := rfl
  rw [hx, execDieTempReportTimeout]
  split
  · rw [h]
    rfl
  · rfl

theorem State.sendLimit_site (s : State) (n : Nat) : (s.sendLimit n).site = s.site := by
  unfold State.sendLimit
  dsimp only
  generalize (if s.diePct n = 100 then 0 else capPmax (s.st n).cap * s.diePct n / 100) = lim
  split
  · rfl
  · rw [State.setF_site]

/-- A temperature shown, warned of from T_WARN on. -/
def State.dieTemp (s : State) (n t : Nat) : State :=
  let s1 := (s.setF (F.XSITE_TEMP_TEMP n) t).updSt n (fun x => { x with lastReport := some s.bell })
  if s1.f (F.XSITE_TEMP_T_WARN n) ≤ t then s1.note 0x1 .siteTemp 2 (tgtSite n) t else s1

/-- Cooled 4 °C below T_THROTTLE, a die takes its steps back. -/
def State.dieEased (s : State) (n t : Nat) : State :=
  if t + 3 < s.f (F.XSITE_TEMP_T_THROTTLE n) then (s.updSt n (fun x => { x with steps := 0 })).sendLimit n else s

theorem exec_dieTempReport (hp : s.diePowered n.val = true) (t : BitVec 8) : exec (.dieTempReport n t) s =
    .next (let u := (s.dieTemp n.val t.toNat).dieEased n.val t.toNat
      if u.f (F.XSITE_TEMP_T_TRIP n.val) ≤ t.toNat then u.assertModule (14 + n.val) t.toNat else u) :=
  if_neg (by rw [hp]; decide)

theorem State.dieTemp_spec (hc : s.canonical) (hr : Map.rising s.site = true) (n : Nat) {t : Nat} (ht : t < 256) :
    (s.dieTemp n t).f (F.XSITE_TEMP_TEMP n) = t ∧ (s.dieTemp n t).f (F.XSITE_TEMP_T_TRIP n) = s.f (F.XSITE_TEMP_T_TRIP n) ∧
    (s.dieTemp n t).f (F.XSITE_TEMP_T_THROTTLE n) = s.f (F.XSITE_TEMP_T_THROTTLE n) ∧ ((s.dieTemp n t).st n).lastReport = some s.bell ∧
    Map.rising (s.dieTemp n t).site = true := by
  obtain ⟨w, hw⟩ : ∃ w, w = s.setF (F.XSITE_TEMP_TEMP n) t := ⟨_, rfl⟩
  have h1 : w.f (F.XSITE_TEMP_TEMP n) = t := by
    rw [hw]
    exact (State.f_setF_same hc.rising _ _ (by simp [F.XSITE_TEMP_TEMP])).trans (Nat.mod_eq_of_lt ht)
  have h2 : w.f (F.XSITE_TEMP_T_TRIP n) = s.f (F.XSITE_TEMP_T_TRIP n) := by
    rw [hw]
    exact State.f_setF_ne hc (by simp [Fld.apart, F.XSITE_TEMP_TEMP, F.XSITE_TEMP_T_TRIP]) _
  have h3 : w.f (F.XSITE_TEMP_T_THROTTLE n) = s.f (F.XSITE_TEMP_T_THROTTLE n) := by
    rw [hw]
    exact State.f_setF_ne hc (by simp [Fld.apart, F.XSITE_TEMP_TEMP, F.XSITE_TEMP_T_THROTTLE]) _
  have hrw : Map.rising w.site = true := by
    rw [hw, State.setF_site]
    exact hr
  obtain ⟨v, hv⟩ : ∃ v, v = w.updSt n (fun x => { x with lastReport := some s.bell }) := ⟨_, rfl⟩
  have hlast : (v.st n).lastReport = some s.bell := by rw [hv, State.st_updSt_same hrw]
  have hrv : Map.rising v.site = true := by
    rw [hv]
    exact State.updSt_rising hrw _ _
  have hf : ∀ y, v.f y = w.f y := fun y => by rw [hv, State.updSt_f]
  unfold State.dieTemp
  rw [← hw, ← hv]
  dsimp only
  split
  · rw [State.note_site_f _ 0xC rfl, State.note_site_f _ 0xC rfl, State.note_site_f _ 0xC rfl, State.st_of (v.note_site ..), v.note_site, hf, hf, hf]
    exact ⟨h1, h2, h3, hlast, hrv⟩
  · rw [hf, hf, hf]
    exact ⟨h1, h2, h3, hlast, hrv⟩

theorem State.dieEased_spec (hr : Map.rising s.site = true) (n t : Nat) :
    (∀ y : Fld, y.off = R.XSITE_TEMP n → (s.dieEased n t).f y = s.f y) ∧ ((s.dieEased n t).st n).lastReport = (s.st n).lastReport ∧
    (t + 3 < s.f (F.XSITE_TEMP_T_THROTTLE n) → ((s.dieEased n t).st n).steps = 0) := by
  unfold State.dieEased
  split
  · have hst := State.st_updSt_same hr n fun x => { x with steps := 0 }
    refine ⟨fun y hy => ?_, ?_, fun _ => ?_⟩
    · rw [State.sendLimit_f _ _ (by rw [hy]; simp [R.XSITE_TEMP, R.XSITE_PWR]), State.updSt_f]
    · rw [State.st_of (State.sendLimit_site _ _), hst]
    · rw [State.st_of (State.sendLimit_site _ _), hst]
  · next h => exact ⟨fun _ _ => rfl, rfl, fun h' => absurd h' h⟩

/-- A die's temperature below its trip temperature. -/
theorem dieTempReport_below (hc : s.canonical) (hr : Map.rising s.site = true) (hp : s.diePowered n.val = true) {t : BitVec 8}
    (ht : t.toNat < s.f (F.XSITE_TEMP_T_TRIP n.val)) :
    ∃ u : State, exec (.dieTempReport n t) s = .next u ∧ u.f (F.XSITE_TEMP_TEMP n.val) = t.toNat ∧ (u.st n.val).lastReport = some s.bell ∧
      (t.toNat + 3 < s.f (F.XSITE_TEMP_T_THROTTLE n.val) → (u.st n.val).steps = 0) := by
  obtain ⟨htemp, htrip, hthr, hlast, hrise⟩ := State.dieTemp_spec hc hr n.val t.isLt
  have hx := exec_dieTempReport hp t
  generalize s.dieTemp n.val t.toNat = v at htemp htrip hthr hlast hrise hx
  obtain ⟨hf, hl, hsteps⟩ := State.dieEased_spec hrise n.val t.toNat
  refine ⟨v.dieEased n.val t.toNat, hx.trans (congrArg _ (if_neg ?_)), (hf _ rfl).trans htemp, hl.trans hlast, fun h => hsteps (by rw [hthr]; exact h)⟩
  rw [hf _ rfl, htrip]
  exact not_le.2 ht

/-- A die's temperature at its trip temperature asserts its site's failure. -/
theorem dieTempReport_trips (hc : s.canonical) (hr : Map.rising s.site = true) (hp : s.diePowered n.val = true) {t : BitVec 8}
    (ht : s.f (F.XSITE_TEMP_T_TRIP n.val) ≤ t.toNat) :
    ∃ v, (v : State).f (F.XSITE_TEMP_TEMP n.val) = t.toNat ∧ exec (.dieTempReport n t) s = .next (v.assertModule (14 + n.val) t.toNat) := by
  obtain ⟨htemp, htrip, -, -, hrise⟩ := State.dieTemp_spec hc hr n.val t.isLt
  have hx := exec_dieTempReport hp t
  generalize s.dieTemp n.val t.toNat = v at htemp htrip hrise hx
  obtain ⟨hf, -⟩ := State.dieEased_spec hrise n.val t.toNat
  refine ⟨v.dieEased n.val t.toNat, (hf _ rfl).trans htemp, hx.trans (congrArg _ (if_pos ?_))⟩
  rw [hf _ rfl, htrip]
  exact ht

theorem dieThrottleStep_steps (hr : Map.rising s.site = true) (hp : s.diePowered n.val = true)
    (h : s.f (F.XSITE_TEMP_T_THROTTLE n.val) ≤ s.f (F.XSITE_TEMP_TEMP n.val)) :
    ∃ u : State, exec (.dieThrottleStep n) s = .next u ∧ (u.st n.val).steps = min 3 ((s.st n.val).steps + 1) ∧ s.keepsRegs u [R.XSITE_PWR n.val] := by
  refine ⟨(s.updSt n.val (fun x => { x with steps := min 3 (x.steps + 1) })).sendLimit n.val, if_neg (by simp [hp, h]), ?_, ?_⟩
  · rw [State.st_of (State.sendLimit_site _ _), State.st_updSt_same hr]
  · generalize hv : s.updSt n.val (fun x => { x with steps := min 3 (x.steps + 1) }) = v
    have hrd : ∀ off, v.rd off = s.rd off := fun off => by rw [← hv, State.updSt_rd]
    have hset : v.keepsRegs (v.sendLimit n.val) [R.XSITE_PWR n.val] := by
      unfold State.sendLimit
      dsimp only
      generalize (if v.diePct n.val = 100 then 0 else capPmax (v.st n.val).cap * v.diePct n.val / 100) = lim
      split
      · exact fun _ _ => rfl
      · exact v.keepsRegs_setF (F.XSITE_PWR_LIMIT n.val) lim
    exact fun off ho => (hset off ho).trans (hrd off)

theorem dieThrottleStep_below (h : s.f (F.XSITE_TEMP_TEMP n.val) < s.f (F.XSITE_TEMP_T_THROTTLE n.val)) : exec (.dieThrottleStep n) s = .next s :=
  if_pos (by simp [h])

theorem exec_dieTempReportTimeout (hp : s.diePowered n.val = true) {b : Nat} (h : (s.st n.val).lastReport = some b) :
    exec (.dieTempReportTimeout n) s = .next (if b + 10000 ≤ s.bell then s.assertModule (14 + n.val) else s) := by
  have hx : exec (.dieTempReportTimeout n) s = execDieTempReportTimeout n s := rfl
  rw [hx, execDieTempReportTimeout, h]
  dsimp only
  rw [hp, Bool.true_and]
  simp only [decide_eq_true_eq]

/-- Power under every limit shows, and no timer runs. -/
theorem sitePowerSample_under (hc : s.canonical) (hr : Map.rising s.site = true) (hp : s.diePowered n.val = true) {w : BitVec 16}
    (hmax : w.toNat * 10 ≤ capPmax (s.st n.val).cap * 11) (hlim : s.f (F.XSITE_PWR_LIMIT n.val) = 0) (h2100 : w.toNat ≤ 2100) :
    ∃ u : State, exec (.sitePowerSample n w) s = .next u ∧ u.f (F.XSITE_PWR_P n.val) = w.toNat ∧ (u.st n.val).overs = [] ∧
      s.keepsRegs u [R.XSITE_PWR n.val] := by
  have hx : exec (.sitePowerSample n w) s = .next ((s.setF (F.XSITE_PWR_P n.val) w.toNat).updSt n.val (fun x => { x with overs := [] })) := by
    have he : exec (.sitePowerSample n w) s = execSitePowerSample n w s := rfl
    have hfree : ¬ (decide (s.f (F.XSITE_PWR_LIMIT n.val) ≠ 0) && decide (s.f (F.XSITE_PWR_LIMIT n.val) * 11 < w.toNat * 10)) = true := by simp [hlim]
    rw [he, execSitePowerSample]
    dsimp only
    rw [if_neg (by rw [hp]; decide), if_neg (not_lt.2 hmax), if_neg hfree, if_neg (not_lt.2 h2100)]
    rfl
  obtain ⟨v, hv⟩ : ∃ v, v = s.setF (F.XSITE_PWR_P n.val) w.toNat := ⟨_, rfl⟩
  refine ⟨v.updSt n.val (fun x => { x with overs := [] }), by rw [hx, hv], ?_, ?_, fun off ho => ?_⟩
  · rw [State.updSt_f, hv]
    exact (State.f_setF_same hc.rising _ _ (by simp [F.XSITE_PWR_P])).trans (Nat.mod_eq_of_lt w.isLt)
  · rw [State.st_updSt_same]
    rw [hv, State.setF_site]
    exact hr
  · rw [State.updSt_rd, hv]
    exact s.keepsRegs_setF (F.XSITE_PWR_P n.val) w.toNat off ho

end

end Sys2Proof.Machine
end
section
/-! SUPPORT. The remote diodes and the coolant channels (R396, R398). -/

namespace Sys2Proof.Machine

/-! ### REMOTE_DIODE_UPDATE (R396) -/

section
variable {s : State} {n : Fin 8} {v : BitVec 16} {op sh : Bool}

/-- What a remote-diode channel shows. -/
def diodeFields (k temp : Nat) (op sh warn crit : Bool) : List (Fld × Nat) :=
  [(F.TH_RD_VAL_TEMP k, temp), (F.TH_RD_VAL_OPEN k, if op then 1 else 0), (F.TH_RD_VAL_SHORT k, if sh then 1 else 0),
    (F.TH_RD_VAL_WARN k, if warn then 1 else 0), (F.TH_RD_VAL_CRIT k, if crit then 1 else 0)]

/-- Does a reading pass a limit in °C? -/
def State.diodeAbove (s : State) (v : BitVec 16) (good : Bool) (x : Fld) : Bool := good && s.f x != 127 && decide (signedOf 8 (s.f x) * 16 < v.toInt)

/-- The channel's reading shown, with the records of a limit newly passed and the line of a critical channel. -/
def State.diodeShown (s : State) (k temp : Nat) (v : BitVec 16) (op sh warn crit : Bool) : State :=
  let s1 := s.setFs (diodeFields k temp op sh warn crit)
  let s2 := if warn && !s.b (F.TH_RD_VAL_WARN k) then s1.note 0xB .remoteDiode 2 tgtModule (v.toInt / 16) else s1
  let s3 := if crit && !s.b (F.TH_RD_VAL_CRIT k) then (s2.note 0xB .remoteDiode 3 tgtModule (v.toInt / 16)).raiseMod 6 (v.toInt / 16) true else s2
  if (List.range 8).any (fun i => s3.b (F.TH_RD_VAL_CRIT i)) then s3 else s3.fallMod 6

theorem exec_remoteDiodeUpdate (h : s.f (F.TH_RD_CFG_MODE n.val) = 1 ∨ s.f (F.TH_RD_CFG_MODE n.val) = 2) :
    exec (.remoteDiodeUpdate n v op sh) s = .next (s.diodeShown n.val (if !op && !sh then v.toNat else 0x8000) v op sh
      (s.diodeAbove v (!op && !sh) (F.TH_RD_LIM_WARN_C n.val)) (s.diodeAbove v (!op && !sh) (F.TH_RD_LIM_CRIT_C n.val))) := by
  have he : exec (.remoteDiodeUpdate n v op sh) s = execRemoteDiodeUpdate n v op sh s := rfl
  rw [he, execRemoteDiodeUpdate]
  dsimp only
  rw [if_neg (by rcases h with h | h <;> simp [h])]
  rfl

theorem remoteDiodeUpdate_idle (h1 : s.f (F.TH_RD_CFG_MODE n.val) ≠ 1) (h2 : s.f (F.TH_RD_CFG_MODE n.val) ≠ 2) :
    exec (.remoteDiodeUpdate n v op sh) s = .next s := if_pos (by simp [h1, h2])

/-- The registers of the remote diodes hold no fault. -/
theorem thRdVal_not_assert (k : Nat) (hk : k < 8) : ¬ assertReg (R.TH_RD_VAL k) :=
  not_assertReg_module (by unfold R.TH_RD_VAL; omega) (by unfold R.TH_RD_VAL; omega)

/-- Records, lines and their fall leave a channel's reading and every memory. -/
theorem State.diodeShown_kept (s : State) (k temp : Nat) (v : BitVec 16) (op sh warn crit : Bool) :
    Faulted moduleFaultRegs (s.setFs (diodeFields k temp op sh warn crit)) (s.diodeShown k temp v op sh warn crit) := by
  unfold State.diodeShown
  dsimp only
  generalize s.setFs (diodeFields k temp op sh warn crit) = w
  have hlog : ∀ a ∈ logRegs, a ∈ moduleFaultRegs := fun _ h => List.mem_append_left _ h
  have hnote : ∀ (u : State) (sev : Nat), Faulted moduleFaultRegs u (u.note 0xB .remoteDiode sev tgtModule (v.toInt / 16)) := fun u sev =>
    .of_logged hlog (u.note_logged _ _ _ _ _)
  have h2 : Faulted moduleFaultRegs w
      (if warn && !s.b (F.TH_RD_VAL_WARN k) then w.note 0xB .remoteDiode 2 tgtModule (v.toInt / 16) else w) := by
    split
    · exact hnote w 2
    · exact .refl _ w
  generalize (if warn && !s.b (F.TH_RD_VAL_WARN k) then w.note 0xB .remoteDiode 2 tgtModule (v.toInt / 16) else w) = x at h2
  have h3 : Faulted moduleFaultRegs w (if crit && !s.b (F.TH_RD_VAL_CRIT k) then
      (x.note 0xB .remoteDiode 3 tgtModule (v.toInt / 16)).raiseMod 6 (v.toInt / 16) true else x) := by
    split
    · exact (h2.trans (hnote x 3)).trans (State.raiseMod_faulted _ _ _ _)
    · exact h2
  generalize (if crit && !s.b (F.TH_RD_VAL_CRIT k) then
    (x.note 0xB .remoteDiode 3 tgtModule (v.toInt / 16)).raiseMod 6 (v.toInt / 16) true else x) = y at h3
  split
  · exact h3
  · unfold State.fallMod
    dsimp only
    have hclr : Faulted moduleFaultRegs w (y.clrBit R.MFLVL_SRC 6) := h3.wr (by simp [moduleFaultRegs]) _
    split
    · exact hclr.startQuiet 48
    · exact hclr

theorem State.diodeFields_f (hc : s.canonical) (k : Nat) {temp : Nat} (ht : temp < 2 ^ 16) (op sh warn crit : Bool) :
    let u := s.setFs (diodeFields k temp op sh warn crit)
    u.f (F.TH_RD_VAL_TEMP k) = temp ∧ u.b (F.TH_RD_VAL_OPEN k) = op ∧ u.b (F.TH_RD_VAL_SHORT k) = sh ∧ u.f (F.TH_RD_VAL_WARN k) = (if warn then 1 else 0) ∧
      u.f (F.TH_RD_VAL_CRIT k) = (if crit then 1 else 0) := by
  have hbit : ∀ b : Bool, (if b then 1 else 0) % 2 ^ 1 = (if b then 1 else 0) := by decide
  have hb : ∀ {u : State} {x : Fld} (b : Bool), u.f x = (if b then 1 else 0) → u.b x = b := fun b h => by
    unfold State.b
    rw [h]
    cases b <;> rfl
  refine ⟨?_, hb op ?_, hb sh ?_, ?_, ?_⟩
  · exact (State.f_setFs_at hc (diodeFields k temp op sh warn crit) 0 rfl (by simp [F.TH_RD_VAL_TEMP]) (by
      simp [diodeFields, Fld.apart, F.TH_RD_VAL_TEMP, F.TH_RD_VAL_OPEN, F.TH_RD_VAL_SHORT, F.TH_RD_VAL_WARN, F.TH_RD_VAL_CRIT])).trans (Nat.mod_eq_of_lt ht)
  · exact (State.f_setFs_at hc (diodeFields k temp op sh warn crit) 1 rfl (by simp [F.TH_RD_VAL_OPEN]) (by
      simp [diodeFields, Fld.apart, F.TH_RD_VAL_OPEN, F.TH_RD_VAL_SHORT, F.TH_RD_VAL_WARN, F.TH_RD_VAL_CRIT])).trans (hbit op)
  · exact (State.f_setFs_at hc (diodeFields k temp op sh warn crit) 2 rfl (by simp [F.TH_RD_VAL_SHORT]) (by
      simp [diodeFields, Fld.apart, F.TH_RD_VAL_SHORT, F.TH_RD_VAL_WARN, F.TH_RD_VAL_CRIT])).trans (hbit sh)
  · exact (State.f_setFs_at hc (diodeFields k temp op sh warn crit) 3 rfl (by simp [F.TH_RD_VAL_WARN]) (by
      simp [diodeFields, Fld.apart, F.TH_RD_VAL_WARN, F.TH_RD_VAL_CRIT])).trans (hbit warn)
  · exact (State.f_setFs_at hc (diodeFields k temp op sh warn crit) 4 rfl (by simp [F.TH_RD_VAL_CRIT]) (by simp [diodeFields])).trans (hbit crit)

theorem remoteDiodeUpdate_shows (hc : s.canonical) (h : s.f (F.TH_RD_CFG_MODE n.val) = 1 ∨ s.f (F.TH_RD_CFG_MODE n.val) = 2) :
    ∃ u : State, exec (.remoteDiodeUpdate n v op sh) s = .next u ∧
      u.b (F.TH_RD_VAL_OPEN n.val) = op ∧ u.b (F.TH_RD_VAL_SHORT n.val) = sh ∧ u.f (F.TH_RD_VAL_TEMP n.val) = (if op || sh then 0x8000 else v.toNat) ∧
      (op = false → sh = false → s.f (F.TH_RD_LIM_WARN_C n.val) ≠ 127 →
        (u.b (F.TH_RD_VAL_WARN n.val) = true ↔ signedOf 8 (s.f (F.TH_RD_LIM_WARN_C n.val)) * 16 < v.toInt)) ∧
      (op = true ∨ sh = true → u.f (F.TH_RD_VAL_WARN n.val) = 0 ∧ u.f (F.TH_RD_VAL_CRIT n.val) = 0) ∧ s.keepsMemory u := by
  have hx := exec_remoteDiodeUpdate (v := v) (op := op) (sh := sh) h
  generalize hwarn : s.diodeAbove v (!op && !sh) (F.TH_RD_LIM_WARN_C n.val) = warn at hx
  generalize hcrit : s.diodeAbove v (!op && !sh) (F.TH_RD_LIM_CRIT_C n.val) = crit at hx
  have htemp : (if !op && !sh then v.toNat else 0x8000) = if op || sh then 0x8000 else v.toNat := by cases op <;> cases sh <;> rfl
  rw [htemp] at hx
  have hlt : (if op || sh then 0x8000 else v.toNat) < 2 ^ 16 := by
    split
    · decide
    · exact v.isLt
  generalize (if op || sh then 0x8000 else v.toNat) = temp at hx hlt
  have hk := s.diodeShown_kept n.val temp v op sh warn crit
  obtain ⟨f1, f2, f3, f4, f5⟩ := State.diodeFields_f hc n.val hlt op sh warn crit
  have hmem : s.keepsMemory (s.setFs (diodeFields n.val temp op sh warn crit)) := ((Leaves.refl (fun _ => False) s).setFs _ (by simp)).keepsMemory
  generalize s.setFs (diodeFields n.val temp op sh warn crit) = w at hk f1 f2 f3 f4 f5 hmem
  have hf : ∀ y : Fld, y.off = R.TH_RD_VAL n.val → (s.diodeShown n.val temp v op sh warn crit).f y = w.f y := fun y hy => hk.2.f (by rw [hy]; exact fun hm => thRdVal_not_assert n.val n.isLt (assertReg_of_module hm))
  refine ⟨_, hx, (congrArg (· != 0) (hf _ rfl)).trans f2, (congrArg (· != 0) (hf _ rfl)).trans f3, (hf _ rfl).trans f1, fun hop hsh h127 => ?_, fun hbad => ?_,
    hmem.trans hk.keepsMemory⟩
  · have hb : (s.diodeShown n.val temp v op sh warn crit).b (F.TH_RD_VAL_WARN n.val) = warn := by
      refine (congrArg (· != 0) ((hf _ rfl).trans f4)).trans ?_
      cases warn <;> rfl
    rw [hb, ← hwarn, hop, hsh]
    simp [State.diodeAbove, h127]
  · have hoff : warn = false ∧ crit = false := by
      rw [← hwarn, ← hcrit]
      rcases hbad with hb | hb <;> simp [State.diodeAbove, hb]
    rw [hf _ rfl, hf _ rfl, f4, f5, hoff.1, hoff.2]
    exact ⟨rfl, rfl⟩

end

end Sys2Proof.Machine
end
section
/-! SUPPORT. The coolant channels (R398). -/

namespace Sys2Proof.Machine

section
variable {s : State} {v : Int}

theorem coolantCheck_off (h : s.f F.TH_CTL_COOL_EN = 0 ∨ s.channel (s.f F.TH_CTL_INLET_CH) = none) : exec .coolantCheck s = .next s := by
  have hx : exec .coolantCheck s = execCoolantCheck s := rfl
  rw [hx, execCoolantCheck]
  rcases h with h | h
  · rw [State.b_eq_false h]
    rfl
  · rw [h]
    split <;> rfl

/-- The check of the rise, where the outlet has a reading. -/
def State.outletCheck (s : State) (v : Int) : State :=
  match s.channel (s.f F.TH_CTL_OUTLET_CH) with
  | some o => s.riseCheck (o - v)
  | none => s

theorem exec_coolantCheck (h : s.f F.TH_CTL_COOL_EN = 1) (hv : s.channel (s.f F.TH_CTL_INLET_CH) = some v) :
    exec .coolantCheck s = .next ((s.inletCheck v).outletCheck v).updCeil := by
  have hx : exec .coolantCheck s = execCoolantCheck s := rfl
  rw [hx, execCoolantCheck, State.b_eq_true h, hv]
  rfl

theorem State.updCeil_power (s : State) : s.updCeil.power = s.power := by rw [s.updCeil_onlyRegs.eq]

theorem State.note_power (s : State) (g : Nat) (e : RecEv) (sev source : Nat) (x : Int) : (s.note g e sev source x).power = s.power := by
  rw [(s.note_logged g e sev source x).1]

/-- A channel without a reading still has none where the registers of the diodes and of the check are kept. -/
theorem State.outletCheck_none (h : s.channel (s.f F.TH_CTL_OUTLET_CH) = none) {u : State} (hf : ∀ y : Fld, y.off ≠ R.MFLVL_SRC → u.f y = s.f y) :
    u.outletCheck v = u := by
  have hval : ∀ k, (F.TH_RD_VAL_TEMP k).off ≠ R.MFLVL_SRC := fun k => by
    simp only [F.TH_RD_VAL_TEMP, R.TH_RD_VAL, R.MFLVL_SRC]
    omega
  have hn : u.channel (u.f F.TH_CTL_OUTLET_CH) = none := by
    unfold State.channel at h ⊢
    rw [hf F.TH_CTL_OUTLET_CH (by decide), hf _ (hval _)]
    exact h
  unfold State.outletCheck
  rw [hn]

/-- An inlet within its limit. -/
theorem coolantCheck_ok (hc : s.canonical) (hen : s.f F.TH_CTL_COOL_EN = 1) (hv : s.channel (s.f F.TH_CTL_INLET_CH) = some v)
    (hlim : v ≤ s.f F.TH_CTL_INLET_MAX * 16) (hok : s.power.inletOkAt = none) (hout : s.channel (s.f F.TH_CTL_OUTLET_CH) = none) :
    ∃ u : State, exec .coolantCheck s = .next u ∧ u.power.inletOkAt = some s.bell ∧ u.power.inletHighAt = none ∧ u.bit R.MFLVL_SRC 7 = false ∧
      s.keepsRegs u [R.MFLVL_SRC, R.PWR_STAT] := by
  obtain ⟨w, hw⟩ : ∃ w, w = s.updPow (fun x => { x with inletHighAt := none, inletOkAt := some s.bell }) := ⟨_, rfl⟩
  have hinlet : s.inletCheck v = w.fallMod 7 := by
    unfold State.inletCheck
    dsimp only
    rw [if_pos hlim, hok, Option.getD_none, if_neg (by omega), hw]
  have hwc : w.canonical := hw ▸ ((Kept.refl s).updPow _).2 hc
  have hrd : ∀ off, w.rd off = s.rd off := fun off => by rw [hw, State.updPow_rd]
  have hpow : w.power = { s.power with inletHighAt := none, inletOkAt := some s.bell } := by
    rw [hw]
    rfl
  obtain ⟨hbit, hfall⟩ := State.fallMod_spec hwc (i := 7) (by decide)
  have hx := exec_coolantCheck hen hv
  rw [hinlet, State.outletCheck_none hout fun y hy => (hfall.2.f (by simpa using hy)).trans (State.f_of_rd (hrd _))] at hx
  have hfp : (w.fallMod 7).power = w.power := by rw [hfall.1]
  refine ⟨_, hx, ?_, ?_, (State.bit_of_rd (State.updCeil_keeps _ _ (by decide))).trans hbit, fun off ho => ?_⟩
  · rw [State.updCeil_power, hfp, hpow]
  · rw [State.updCeil_power, hfp, hpow]
  · simp only [List.mem_cons, List.not_mem_nil, or_false, not_or] at ho
    rw [State.updCeil_keeps _ off (by simpa using ho.2), hfall.2 off (by simpa using ho.1), hrd]

/-! ### An inlet 5 °C above its limit -/

/-- The ceiling that coolant asks for, brought down. -/
def State.coolLow (s : State) (w : Nat) : State := s.updPow (fun x => { x with coolant := some (min w (x.coolant.getD w)) })

/-- INLET_HIGH shown, noted where it is new. -/
def State.inletShown (s : State) (v : Int) : State :=
  if s.b F.TH_STAT_INLET_HIGH then s else (s.setF F.TH_STAT_INLET_HIGH 1).note 0xB .coolant 2 tgtModule (v / 16)

/-- The critical inlet, noted where it is new. -/
def State.inletCritical (s : State) (was : Bool) (v : Int) : State :=
  if was then s else (s.updPow (fun x => { x with inletCrit := true })).note 0xB .coolant 3 tgtModule (v / 16)

theorem State.inletCheck_crit (h : s.f F.TH_CTL_INLET_MAX * 16 + 80 ≤ v) : ∃ at_ w, s.inletCheck v =
    ((((((s.updPow (fun x => { x with inletHighAt := some at_, inletOkAt := none })).inletShown v).coolLow w).coolLow 1100).inletCritical s.power.inletCrit v).raiseMod 7
      (v / 16) true) := by
  unfold State.inletCheck
  dsimp only
  rw [if_neg (by omega), decide_eq_true h, Bool.true_or, if_pos rfl, if_pos rfl]
  exact ⟨_, _, rfl⟩

theorem State.inletShown_spec (hc : s.canonical) (v : Int) : (s.inletShown v).canonical ∧ (s.inletShown v).f F.TH_STAT_INLET_HIGH = 1 ∧
    (s.inletShown v).power = s.power := by
  unfold State.inletShown
  split
  · next hb =>
    have hlt : s.f F.TH_STAT_INLET_HIGH < 2 := s.f_lt F.TH_STAT_INLET_HIGH
    have hne : s.f F.TH_STAT_INLET_HIGH ≠ 0 := by simpa [State.b] using hb
    exact ⟨hc, by omega, rfl⟩
  · have hcan := State.setF_canonical hc F.TH_STAT_INLET_HIGH 1
    have hset : (s.setF F.TH_STAT_INLET_HIGH 1).f F.TH_STAT_INLET_HIGH = 1 := State.f_setF_same hc.rising _ _ (by decide)
    have hpow : (s.setF F.TH_STAT_INLET_HIGH 1).power = s.power := State.setF_power ..
    generalize s.setF F.TH_STAT_INLET_HIGH 1 = w at hcan hset hpow
    exact ⟨((Kept.refl w).note _ _ _ _ _).2 hcan, (w.note_f _ _ _ _ _ (by decide)).trans hset, (w.note_power _ _ _ _ _).trans hpow⟩

theorem State.inletCritical_spec (hc : s.canonical) {was : Bool} (hwas : was = true → s.power.inletCrit = true) (v : Int) :
    (s.inletCritical was v).canonical ∧ (s.inletCritical was v).f F.TH_STAT_INLET_HIGH = s.f F.TH_STAT_INLET_HIGH ∧
    (s.inletCritical was v).power.coolant = s.power.coolant ∧ (s.inletCritical was v).power.inletCrit = true := by
  unfold State.inletCritical
  split
  · next h => exact ⟨hc, rfl, rfl, hwas h⟩
  · have hcan := ((Kept.refl s).updPow fun x => { x with inletCrit := true }).2 hc
    have hf : (s.updPow fun x => { x with inletCrit := true }).f F.TH_STAT_INLET_HIGH = s.f F.TH_STAT_INLET_HIGH := State.updPow_f ..
    have hpow : (s.updPow fun x => { x with inletCrit := true }).power = { s.power with inletCrit := true } := rfl
    generalize s.updPow (fun x => { x with inletCrit := true }) = w at hcan hf hpow
    refine ⟨((Kept.refl w).note _ _ _ _ _).2 hcan, (w.note_f _ _ _ _ _ (by decide)).trans hf, ?_, ?_⟩
    · rw [w.note_power, hpow]
    · rw [w.note_power, hpow]

/-- What the check of a critical inlet leaves. -/
theorem State.inletCheck_hot (hc : s.canonical) (h : s.f F.TH_CTL_INLET_MAX * 16 + 80 ≤ v) :
    (s.inletCheck v).canonical ∧ (s.inletCheck v).f F.TH_STAT_INLET_HIGH = 1 ∧ (∃ w ≤ 1100, (s.inletCheck v).power.coolant = some w) ∧
      (s.inletCheck v).power.inletCrit = true := by
  obtain ⟨at_, w, he⟩ := s.inletCheck_crit h
  have hcan0 := ((Kept.refl s).updPow fun x => { x with inletHighAt := some at_, inletOkAt := none }).2 hc
  have hp0 : (s.updPow fun x => { x with inletHighAt := some at_, inletOkAt := none }).power.inletCrit = s.power.inletCrit := rfl
  rw [he]
  generalize s.updPow (fun x => { x with inletHighAt := some at_, inletOkAt := none }) = a at hcan0 hp0
  obtain ⟨hcan1, hf1, hp1⟩ := State.inletShown_spec hcan0 v
  generalize a.inletShown v = b at hcan1 hf1 hp1
  have hcan2 : ((b.coolLow w).coolLow 1100).canonical := (((Kept.refl b).updPow _).updPow _).2 hcan1
  have hf2 : ((b.coolLow w).coolLow 1100).f F.TH_STAT_INLET_HIGH = b.f F.TH_STAT_INLET_HIGH := rfl
  have hp2 : ((b.coolLow w).coolLow 1100).power.coolant = some (min 1100 (min w (b.power.coolant.getD w))) := rfl
  have hi2 : ((b.coolLow w).coolLow 1100).power.inletCrit = b.power.inletCrit := rfl
  generalize (b.coolLow w).coolLow 1100 = c at hcan2 hf2 hp2 hi2
  obtain ⟨hcan3, hf3, hp3, hi3⟩ := State.inletCritical_spec hcan2 (was := s.power.inletCrit) (fun hw => by rw [hi2, hp1, hp0, hw]) v
  generalize c.inletCritical s.power.inletCrit v = d at hcan3 hf3 hp3 hi3
  have hpow : (d.raiseMod 7 (v / 16) true).power = d.power := by rw [(d.raiseMod_faulted 7 (v / 16) true).1]
  refine ⟨((Kept.refl d).raiseMod _ _ _).2 hcan3, ?_, ⟨min 1100 (min w (b.power.coolant.getD w)), Nat.min_le_left .., ?_⟩, ?_⟩
  · rw [State.raiseMod_f d _ _ _ (x := F.TH_STAT_INLET_HIGH) (not_assertReg_module (by decide) (by decide)), hf3, hf2, hf1]
  · rw [hpow, hp3, hp2]
  · rw [hpow, hi3]

theorem State.riseCheck_keeps (hc : s.canonical) (v : Int) : (s.riseCheck v).canonical ∧
    (s.riseCheck v).f F.TH_STAT_INLET_HIGH = s.f F.TH_STAT_INLET_HIGH ∧ (s.riseCheck v).power.coolant = s.power.coolant ∧
    (s.riseCheck v).power.inletCrit = s.power.inletCrit := by
  refine ⟨((Kept.refl s).riseCheck v).2 hc, ?_⟩
  have hrise : ∀ (u : State) (k : Nat), u.canonical → (u.setF F.TH_STAT_RISE_HIGH k).f F.TH_STAT_INLET_HIGH = u.f F.TH_STAT_INLET_HIGH := fun u k hu =>
    State.f_setF_ne hu (by decide) k
  have hpow : ∀ g : Power → Power, (s.updPow g).canonical := fun g => ((Kept.refl s).updPow g).2 hc
  unfold State.riseCheck
  split
  · rw [hrise _ _ (hpow _), State.setF_power]
    exact ⟨rfl, rfl, rfl⟩
  · dsimp only
    split
    · rw [State.note_f _ _ _ _ _ _ (by decide), hrise _ _ (hpow _), State.note_power, State.setF_power]
      exact ⟨rfl, rfl, rfl⟩
    · exact ⟨rfl, rfl, rfl⟩

theorem State.outletCheck_keeps (hc : s.canonical) (v : Int) : (s.outletCheck v).canonical ∧
    (s.outletCheck v).f F.TH_STAT_INLET_HIGH = s.f F.TH_STAT_INLET_HIGH ∧ (s.outletCheck v).power.coolant = s.power.coolant ∧
    (s.outletCheck v).power.inletCrit = s.power.inletCrit := by
  unfold State.outletCheck
  split
  · exact State.riseCheck_keeps hc _
  · exact ⟨hc, rfl, rfl, rfl⟩

theorem coolantCheck_critical (hc : s.canonical) (hen : s.f F.TH_CTL_COOL_EN = 1) (hv : s.channel (s.f F.TH_CTL_INLET_CH) = some v)
    (h : s.f F.TH_CTL_INLET_MAX * 16 + 80 ≤ v) :
    ∃ u : State, exec .coolantCheck s = .next u ∧ u.f F.TH_STAT_INLET_HIGH = 1 ∧ u.f F.PWR_STAT_CEIL_W ≤ 1100 ∧ u.power.inletCrit = true := by
  obtain ⟨hcan, hhigh, ⟨w, hw, hcool⟩, hcrit⟩ := State.inletCheck_hot hc h
  have hx := exec_coolantCheck hen hv
  generalize s.inletCheck v = a at hcan hhigh hcool hcrit hx
  obtain ⟨hcan2, hhigh2, hcool2, hcrit2⟩ := State.outletCheck_keeps hcan v
  generalize a.outletCheck v = b at hcan2 hhigh2 hcool2 hcrit2 hx
  refine ⟨_, hx, ?_, ?_, ?_⟩
  · exact ((State.updCeil_keeps b).f (x := F.TH_STAT_INLET_HIGH) (by decide)).trans (hhigh2.trans hhigh)
  · exact ((State.updCeil_ceil hcan2).2 (w, 1) (by simp [State.ceilings, hcool2, hcool])).trans hw
  · rw [State.updCeil_power, hcrit2, hcrit]

end

end Sys2Proof.Machine
end
section
/-! SUPPORT. The memory temperature, throttling and the cut-off at THERMTRIP (R390, R391, R392). -/

namespace Sys2Proof.Machine

/-! ### MEM_TEMP_SAMPLE (R391) -/

section
variable {s : State} {n : Tile} {temp : BitVec 8}

/-- The tiles that share a tile's memory: none for a reserve tile, itself for a corner, its stack for a memory tile. -/
theorem memShare_cases : ∀ n : Tile, (isReserve n.val = true → isMemTile n.val = false ∧ isCorner n.val = false) ∧
    (isCorner n.val = true → isMemTile n.val = false) := by decide

theorem stackTiles_ne_nil (t : Nat) : stackTiles t ≠ [] := by
  unfold stackTiles
  split <;> simp

theorem memTempSample_reserve (h : isReserve n.val = true) : exec (.memTempSample n temp) s = .next s := by
  obtain ⟨hm, hc⟩ := (memShare_cases n).1 h
  have hx : exec (.memTempSample n temp) s = execMemTempSample n temp s := rfl
  rw [hx, execMemTempSample, hm, hc]
  rfl

theorem memTempSample_corner (h : isCorner n.val = true) : exec (.memTempSample n temp) s = .next (s.memSample n.val [n.val] temp.toNat) := by
  have hx : exec (.memTempSample n temp) s = execMemTempSample n temp s := rfl
  rw [hx, execMemTempSample, (memShare_cases n).2 h, h]
  rfl

theorem memTempSample_stack (h : isMemTile n.val = true) : ∃ first rest, stackTiles n.val = first :: rest ∧
    exec (.memTempSample n temp) s = .next (s.memSample first (first :: rest) temp.toNat) := by
  obtain ⟨first, rest, hl⟩ := List.exists_cons_of_ne_nil (stackTiles_ne_nil n.val)
  have hx : exec (.memTempSample n temp) s = execMemTempSample n temp s := rfl
  refine ⟨first, rest, hl, ?_⟩
  rw [hx, execMemTempSample, if_pos h, hl]

/-- What a tile's memory shows below 105 °C. -/
def memFields (t temp twoX : Nat) : List (Fld × Nat) := [(F.MEM_STAT_TEMP t, temp), (F.MEM_STAT_REFRESH_2X t, twoX)]

/-- The rate of refresh at a temperature: doubled from 85 °C on, single below 82 °C. -/
def State.refreshAt (s : State) (t temp : Nat) : Nat := if 85 ≤ temp then 1 else if temp < 82 then 0 else s.f (F.MEM_STAT_REFRESH_2X t)

theorem State.memTempTile_served (s : State) (t temp : Nat) (h : (s.th t).memTrip = false) : ∃ warn, s.memTempTile t temp false =
    (s.setFs (memFields t temp (s.refreshAt t temp))).updTh t (fun x => { x with memWarn := warn, memTrip := false, memCool := none }) := by
  unfold State.memTempTile
  dsimp only
  rw [h, if_neg (by simp), if_neg (by simp)]
  exact ⟨_, rfl⟩

theorem memTempTile_shows (hc : s.canonical) (hr : Map.rising s.therm = true) {t temp : Nat} (ht : temp < 2 ^ 8) (h : (s.th t).memTrip = false) :
    (s.memTempTile t temp false).f (F.MEM_STAT_TEMP t) = temp ∧ ((s.memTempTile t temp false).th t).memTrip = false ∧
    (85 ≤ temp → (s.memTempTile t temp false).f (F.MEM_STAT_REFRESH_2X t) = 1) ∧
    (temp < 82 → (s.memTempTile t temp false).f (F.MEM_STAT_REFRESH_2X t) = 0) := by
  obtain ⟨warn, he⟩ := s.memTempTile_served t temp h
  have hlt : s.refreshAt t temp < 2 ^ 1 := by
    unfold State.refreshAt
    split
    · decide
    split
    · decide
    · exact s.f_lt (F.MEM_STAT_REFRESH_2X t)
  have h85 : 85 ≤ temp → s.refreshAt t temp = 1 := fun h => if_pos h
  have h82 : temp < 82 → s.refreshAt t temp = 0 := fun h => (if_neg (by omega)).trans (if_pos h)
  generalize s.refreshAt t temp = twoX at he hlt h85 h82
  have htemp : (s.setFs (memFields t temp twoX)).f (F.MEM_STAT_TEMP t) = temp :=
    (State.f_setFs_at hc (memFields t temp twoX) 0 rfl (by simp [F.MEM_STAT_TEMP])
      (by simp [memFields, Fld.apart, F.MEM_STAT_TEMP, F.MEM_STAT_REFRESH_2X])).trans (Nat.mod_eq_of_lt ht)
  have hx2 : (s.setFs (memFields t temp twoX)).f (F.MEM_STAT_REFRESH_2X t) = twoX :=
    (State.f_setFs_at hc (memFields t temp twoX) 1 rfl (by simp [F.MEM_STAT_REFRESH_2X]) (by simp [memFields])).trans (Nat.mod_eq_of_lt hlt)
  have hrise : Map.rising (s.setFs (memFields t temp twoX)).therm = true := by rw [State.setFs_therm]; exact hr
  rw [he]
  generalize s.setFs (memFields t temp twoX) = w at htemp hx2 hrise
  rw [State.updTh_f, State.updTh_f, State.th_updTh_same hrise]
  exact ⟨htemp, rfl, fun h => hx2.trans (h85 h), fun h => hx2.trans (h82 h)⟩

end

/-! ### Throttling (R392) -/

section
variable {s : State} {n : Tile} {t : Nat}

/-- A tile's duty and its throttling steps. -/
theorem State.setThermSteps_spec (hr : Map.rising s.therm = true) (t k : Nat) :
    ((s.setThermSteps t k).th t).steps = k ∧ s.keepsRegs (s.setThermSteps t k) [R.TTH_DUTY t, R.OME_DUTY t] := by
  have hduty : ∀ (u : State) (k : Nat), (u.dutyPct k).2.therm = u.therm ∧ (u.dutyPct k).2.regs = u.regs := fun u k => by
    unfold State.dutyPct
    dsimp only
    split
    · exact ⟨rfl, rfl⟩
    · exact ⟨rfl, rfl⟩
  obtain ⟨ht1, hg1⟩ := hduty s k
  obtain ⟨ht2, hg2⟩ := hduty (s.dutyPct k).2 k
  have hsync : ∀ u : State, (u.syncDuty t).therm = u.therm ∧ u.keepsRegs (u.syncDuty t) [R.OME_DUTY t] := fun u => by
    unfold State.syncDuty
    dsimp only
    generalize hd : (if u.f F.PWR_STAT_OME_STEP ≤ (Map.get ({} : Therm) u.therm t).steps then (u.f (F.TTH_DUTY_OME_PCT t), u)
      else u.dutyPct (u.f F.PWR_STAT_OME_STEP)) = d
    have hdk : d.2.therm = u.therm ∧ d.2.regs = u.regs := by
      rw [← hd]
      split
      · exact ⟨rfl, rfl⟩
      · exact hduty u _
    refine ⟨(State.setFs_therm ..).trans hdk.1, fun off ho => ?_⟩
    exact (State.keepsRegs_setFs d.2 _ (W := [R.OME_DUTY t]) (by simp [F.OME_DUTY_DUTY_PCT, F.OME_DUTY_CAUSE]) off ho).trans (State.rd_of_regs hdk.2 off)
  obtain ⟨w, ome, crown, hw, hwt, hwg⟩ : ∃ w ome crown, s.setThermSteps t k =
      ((w.updTh t (fun x => { x with steps := k })).setFs [(F.TTH_DUTY_OME_PCT t, ome), (F.TTH_DUTY_CROWN_PCT t, crown)]).syncDuty t ∧
      w.therm = s.therm ∧ w.regs = s.regs :=
    ⟨((s.dutyPct k).2.dutyPct k).2, (s.dutyPct k).1, ((s.dutyPct k).2.dutyPct k).1, rfl, ht2.trans ht1, hg2.trans hg1⟩
  obtain ⟨v, hv⟩ : ∃ v, v = w.updTh t (fun x => { x with steps := k }) := ⟨_, rfl⟩
  have hsteps : (v.th t).steps = k := by rw [hv, State.th_updTh_same (by rw [hwt]; exact hr)]
  have hvg : v.regs = s.regs := by
    rw [hv, State.updTh_regs, hwg]
  obtain ⟨hst, hsk⟩ := hsync (v.setFs [(F.TTH_DUTY_OME_PCT t, ome), (F.TTH_DUTY_CROWN_PCT t, crown)])
  rw [hw, ← hv]
  refine ⟨?_, fun off ho => ?_⟩
  · rw [State.th_of hst, State.th_of (State.setFs_therm ..), hsteps]
  · simp only [List.mem_cons, List.not_mem_nil, or_false, not_or] at ho
    rw [hsk off (by simpa using ho.2)]
    exact (State.keepsRegs_setFs v _ (W := [R.TTH_DUTY t]) (by simp [F.TTH_DUTY_OME_PCT, F.TTH_DUTY_CROWN_PCT]) off (by simpa using ho.1)).trans
      (State.rd_of_regs hvg off)

theorem thermal_idle {diodes : List (BitVec 16)} {ring : Option (BitVec 16)} (h : s.f (F.TILE_PWR_STAT_STATE n.val) = 3 ∨ s.clocks.tripped = true) :
    exec (.tjSample n diodes ring) s = .next s ∧ exec (.throttleLoopTick n) s = .next s := by
  have hc : (s.pwr n.val = 3 || s.clocks.tripped) = true := by
    rcases h with h | h
    · simp [State.pwr, h]
    · simp [h]
  exact ⟨if_pos hc, if_pos hc⟩

/-- Where a tile has begun to throttle. -/
def State.throttled (s : State) (t : Nat) (tj : Int) : State :=
  if s.b (F.TTH_STAT_THROTTLE t) then s
  else ((s.setFs [(F.TTH_STAT_THROTTLE t, 1), (F.TTH_EVT_THROTTLED t, 1)]).note 0xB .thermThrottle 2 (tgtTile t) (tj / 10)).assertTile t 5 (tj / 10) true

theorem State.throttled_shows (hc : s.canonical) (t : Nat) (tj : Int) : (s.throttled t tj).f (F.TTH_STAT_THROTTLE t) = 1 ∧ (s.throttled t tj).therm = s.therm := by
  unfold State.throttled
  split
  · next hb =>
    have hlt : s.f (F.TTH_STAT_THROTTLE t) < 2 := s.f_lt _
    have hne : s.f (F.TTH_STAT_THROTTLE t) ≠ 0 := by simpa [State.b] using hb
    exact ⟨by omega, rfl⟩
  · have hset : (s.setFs [(F.TTH_STAT_THROTTLE t, 1), (F.TTH_EVT_THROTTLED t, 1)]).f (F.TTH_STAT_THROTTLE t) = 1 :=
      State.f_setFs_at hc [(F.TTH_STAT_THROTTLE t, 1), (F.TTH_EVT_THROTTLED t, 1)] 0 rfl (by simp [F.TTH_STAT_THROTTLE])
        (by simp [Fld.apart, F.TTH_STAT_THROTTLE, F.TTH_EVT_THROTTLED, R.TTH_STAT, R.TTH_EVT])
    have htherm : (s.setFs [(F.TTH_STAT_THROTTLE t, 1), (F.TTH_EVT_THROTTLED t, 1)]).therm = s.therm := State.setFs_therm ..
    generalize s.setFs [(F.TTH_STAT_THROTTLE t, 1), (F.TTH_EVT_THROTTLED t, 1)] = w at hset htherm
    rw [State.assertTile_unblocked rfl]
    have hnf : (w.note 0xB .thermThrottle 2 (tgtTile t) (tj / 10)).f (F.TTH_STAT_THROTTLE t) = 1 := (w.note_f _ _ _ _ _ (not_log_tile t 0xB0000)).trans hset
    have hnt : (w.note 0xB .thermThrottle 2 (tgtTile t) (tj / 10)).therm = w.therm := by rw [(w.note_logged _ _ _ _ _).1]
    generalize w.note 0xB .thermThrottle 2 (tgtTile t) (tj / 10) = x at hnf hnt
    have hk := x.raise_faulted t 5 (tj / 10) true
    refine ⟨(hk.2.f (x := F.TTH_STAT_THROTTLE t) fun hm => ?_).trans hnf, ?_⟩
    · exact not_assertReg_tile t (c := 0xB0000) (by decide) (by unfold assertOffset; omega) (assertReg_of_tile hm)
    · rw [hk.1]
      exact hnt.trans htherm

theorem throttleLoopTick_steps (hc : s.canonical) (hr : Map.rising s.therm = true) (hp : s.f (F.TILE_PWR_STAT_STATE n.val) ≠ 3)
    (ht : s.clocks.tripped = false) (htj : 1000 ≤ (s.th n.val).tj) (hs : (s.th n.val).steps < 6) :
    ∃ u : State, exec (.throttleLoopTick n) s = .next u ∧ (u.th n.val).steps = (s.th n.val).steps + 1 ∧ u.f (F.TTH_STAT_THROTTLE n.val) = 1 := by
  obtain ⟨hsteps, hkeep⟩ := State.setThermSteps_spec hr n.val ((s.th n.val).steps + 1)
  have hcan : (s.setThermSteps n.val ((s.th n.val).steps + 1)).canonical := ((Kept.refl s).setThermSteps _ _).2 hc
  have hf : (s.setThermSteps n.val ((s.th n.val).steps + 1)).f (F.TTH_STAT_THROTTLE n.val) = s.f (F.TTH_STAT_THROTTLE n.val) := hkeep.f (by
    simp [F.TTH_STAT_THROTTLE, R.TTH_STAT, R.TTH_DUTY, R.OME_DUTY])
  have hx : exec (.throttleLoopTick n) s = .next ((s.setThermSteps n.val ((s.th n.val).steps + 1)).throttled n.val (s.th n.val).tj) := by
    have he : exec (.throttleLoopTick n) s = execThrottleLoopTick n s := rfl
    rw [he, execThrottleLoopTick]
    dsimp only
    rw [if_neg (by simp [State.pwr, hp, ht]), if_pos htj, if_pos hs]
    unfold State.throttled State.b
    rw [hf]
  generalize s.setThermSteps n.val ((s.th n.val).steps + 1) = w at hsteps hcan hx
  obtain ⟨hthr, htherm⟩ := State.throttled_shows hcan n.val (s.th n.val).tj
  exact ⟨_, hx, (congrArg Therm.steps (State.th_of htherm n.val)).trans hsteps, hthr⟩

theorem throttleLoopTick_rests (hp : s.f (F.TILE_PWR_STAT_STATE n.val) ≠ 3) (ht : s.clocks.tripped = false) (htj : (s.th n.val).tj < 1000)
    (hs : (s.th n.val).steps = 0) (hoff : s.f (F.TTH_STAT_THROTTLE n.val) = 0) : exec (.throttleLoopTick n) s = .next s := by
  have he : exec (.throttleLoopTick n) s = execThrottleLoopTick n s := rfl
  rw [he, execThrottleLoopTick]
  dsimp only
  rw [if_neg (by simp [State.pwr, hp, ht]), if_neg (not_le.2 htj), hs, decide_eq_false (lt_irrefl 0), Bool.and_false, Bool.false_and,
    if_neg Bool.false_ne_true, State.b_eq_false hoff]
  rfl

end

end Sys2Proof.Machine
end
section
/-! SUPPORT. The cut-off of the module by a tile's comparator (R390). -/

namespace Sys2Proof.Machine

section
variable {s u : State} {t : Nat}

theorem State.darken_out (s : State) (t : Nat) : (s.darken t).out = s.out := by
  unfold State.darken
  rw [State.each_keeps State.out _ (List.range 3), State.each_keeps State.out _ (List.range 8)]
  · exact fun c u => u.setFs_out _
  · intro i u
    rw [State.setF_out]
    split
    · exact u.bump_out _ _
    · rfl

theorem State.dropWork_out (s : State) (cold : Bool) : (s.dropWork cold).out = s.out := by
  unfold State.dropWork
  extract_lets
  rename_i s1
  rw [State.setFs_out]
  exact State.each_keeps State.out s1 (List.range 16) (fun s q => (s.setF (F.Q_CTL_EN q) 0).wr (R.Q_STAT q) 0) fun q u => rfl

/-- What is lost with the DRAM: the memory and the live log, and nothing of the Proctor. -/
theorem State.dropMemory_spec (s : State) : s.dropPool.dropLog.dram = [] ∧ s.dropPool.dropLog.out = s.out ∧ s.dropPool.dropLog.proctor = s.proctor ∧
    s.dropPool.dropLog.report.live = [] := ⟨rfl, rfl, rfl, rfl⟩

/-- The module dark and without work, memory and log. -/
def State.cutOff (s : State) : State :=
  ((((((s.emit .thermtripN).emit (.modPwrok false)).each allTiles State.darken).dropWork true).dropPool).dropLog)

theorem State.cutOff_spec (hc : s.canonical) : s.cutOff.canonical ∧ Out.thermtripN ∈ s.cutOff.out ∧ s.cutOff.dram = [] ∧
    s.cutOff.proctor.running = [] ∧ s.cutOff.report.live = [] := by
  have hcan : s.cutOff.canonical :=
    ((((Kept.each (((Kept.refl s).emit _).emit _) _ _ fun _ t hs => hs.darken t).dropWork _).dropPool).dropLog).2 hc
  have hout : Out.thermtripN ∈ (((s.emit .thermtripN).emit (.modPwrok false)).each allTiles State.darken).out := by
    rw [State.each_keeps State.out _ _ _ fun t u => u.darken_out t]
    exact List.mem_cons_of_mem _ (List.mem_cons_self ..)
  refine ⟨hcan, ?_⟩
  unfold State.cutOff
  generalize ((s.emit .thermtripN).emit (.modPwrok false)).each allTiles State.darken = w at hout
  obtain ⟨hrun, -⟩ := w.dropWork_spec true
  have hwork := w.dropWork_out true
  generalize w.dropWork true = v at hrun hwork
  obtain ⟨h1, h2, h3, h4⟩ := v.dropMemory_spec
  rw [h1, h2, h3, h4, hwork, hrun]
  exact ⟨hout, rfl, rfl, rfl⟩

/-- What a tile shows while the module is cut off. -/
def tileOff (t : Nat) : List (Fld × Nat) := [(F.TILE_PWR_STAT_STATE t, 5), (F.MEM_STAT_STATE t, 0)]

/-- Both sites off, every tile in RESET without memory, and THERMTRIP shown. -/
def State.tripShown (s : State) : State :=
  (((s.siteDown 0 0).siteDown 1 0).each allTiles (fun s t => s.setFs (tileOff t))).setF F.TH_STAT_THERMTRIP 1

theorem State.tripShown_spec (hc : s.canonical) : s.tripShown.f F.TH_STAT_THERMTRIP = 1 ∧
    (∀ m < 48, s.tripShown.f (F.TILE_PWR_STAT_STATE m) = 5 ∧ s.tripShown.f (F.MEM_STAT_STATE m) = 0) ∧ s.tripShown.out = s.out ∧
    s.tripShown.dram = s.dram ∧ s.tripShown.proctor.running = s.proctor.running ∧ s.tripShown.report = s.report := by
  have hcan : ((s.siteDown 0 0).siteDown 1 0).canonical := (((Kept.refl s).siteDown 0 0).siteDown 1 0).2 hc
  have hrest : ((s.siteDown 0 0).siteDown 1 0).offTraffic.2 = s.offTraffic.2 := (State.siteDown_rest _ 1 0).trans (s.siteDown_rest 0 0)
  unfold State.tripShown
  generalize (s.siteDown 0 0).siteDown 1 0 = w at hcan hrest
  simp only [State.offTraffic, Prod.mk.injEq] at hrest
  obtain ⟨-, hdram, hout, hreport, -, hrunning, -⟩ := hrest
  obtain ⟨hec, heo, -, hef⟩ := State.each_setFs (W := (allTiles.map R.TILE_PWR_STAT) ++ allTiles.map R.MEM_STAT) hcan tileOff allTiles
    (fun j hj e he => by
      simp only [tileOff, List.mem_cons, List.not_mem_nil, or_false] at he
      rcases he with rfl | rfl
      · exact List.mem_append_left _ (List.mem_map_of_mem hj)
      · exact List.mem_append_right _ (List.mem_map_of_mem hj))
    (fun j u hu e he => by
      simp only [tileOff, List.mem_cons, List.not_mem_nil, or_false] at he
      rcases he with rfl | rfl
      · exact (State.f_setFs_at hu (tileOff j) 0 rfl (by simp [F.TILE_PWR_STAT_STATE])
          (by simp [tileOff, Fld.apart, F.TILE_PWR_STAT_STATE, F.MEM_STAT_STATE, R.TILE_PWR_STAT, R.MEM_STAT])).trans rfl
      · exact (State.f_setFs_at hu (tileOff j) 1 rfl (by simp [F.MEM_STAT_STATE]) (by simp [tileOff])).trans rfl)
    (fun i j hij e he x hx => by
      simp only [tileOff, List.mem_cons, List.not_mem_nil, or_false] at he hx
      rcases he with rfl | rfl <;> rcases hx with rfl | rfl <;> simp only [F.TILE_PWR_STAT_STATE, F.MEM_STAT_STATE, R.TILE_PWR_STAT, R.MEM_STAT, tileBase] <;> omega)
  generalize w.each allTiles (fun s t => s.setFs (tileOff t)) = v at hec heo hef
  have hne : ∀ m : Nat, (F.TILE_PWR_STAT_STATE m).off ≠ F.TH_STAT_THERMTRIP.off ∧ (F.MEM_STAT_STATE m).off ≠ F.TH_STAT_THERMTRIP.off := fun m => by
    simp only [F.TILE_PWR_STAT_STATE, F.MEM_STAT_STATE, F.TH_STAT_THERMTRIP, R.TILE_PWR_STAT, R.MEM_STAT, R.TH_STAT, tileBase]
    omega
  refine ⟨State.f_setF_same hec.rising _ _ (by decide), fun m hm => ?_, ?_, ?_, ?_, ?_⟩
  · have hl := hef m (.inl (List.mem_range.2 hm))
    rw [State.f_setF_off (hne m).1, State.f_setF_off (hne m).2]
    exact ⟨hl (F.TILE_PWR_STAT_STATE m, 5) (by simp [tileOff]), hl (F.MEM_STAT_STATE m, 0) (by simp [tileOff])⟩
  · rw [State.setF_out, heo.eq, hout]
  · rw [State.setF_dram, heo.eq, hdram]
  · rw [State.setF_proctor, heo.eq, hrunning]
  · rw [State.setF_report, heo.eq, hreport]

/-- A record put into flash leaves registers other than the log's, the live log and the rest of the state. -/
theorem State.logClosed_spec (s : State) (r : Rec) (room : Option (List Rec)) : Logged s (s.logClosed r room) ∧
    (s.logClosed r room).report.live = s.report.live := by
  unfold State.logClosed
  split
  · exact ⟨(Logged.refl s).report _, rfl⟩
  · exact ⟨(Logged.refl s).bump (by decide) 1, rfl⟩

/-- The module's record of the cut-off. -/
def State.tripRec (s : State) (t : Nat) : Rec :=
  { Rec.start (.chapter 0xB .thermSafe 3) 3 (tgtTile t) s.bell (s.report.nextSeq % 2 ^ 32) false 110 with opn := false }

/-- The record in flash, the Crown's map gone, and the module marked as tripped. -/
def State.tripLogged (s : State) (t : Nat) : State :=
  (({ s.logClosed (s.tripRec t) (makeRoom 4194304 3 s.report.flash) with crownMap := {} } : State).updClk (fun c =>
    { c with tripped := true, resetDue := none })).syncRc

theorem State.thermtrip_eq (s : State) (t : Nat) : s.thermtrip t = s.cutOff.tripShown.tripLogged t := by
  unfold State.thermtrip State.tripLogged State.tripShown State.cutOff State.tripRec
  rfl

theorem State.tripLogged_spec (s : State) (t : Nat) : (∀ y : Fld, ¬ assertReg y.off → (s.tripLogged t).f y = s.f y) ∧
    (s.tripLogged t).clocks.tripped = true ∧ (s.tripLogged t).out = s.out ∧ (s.tripLogged t).dram = s.dram ∧
    (s.tripLogged t).proctor = s.proctor ∧ (s.tripLogged t).report.live = s.report.live := by
  obtain ⟨hlog, hlive⟩ := s.logClosed_spec (s.tripRec t) (makeRoom 4194304 3 s.report.flash)
  unfold State.tripLogged
  generalize s.logClosed (s.tripRec t) (makeRoom 4194304 3 s.report.flash) = w at hlog hlive
  obtain ⟨v, hv⟩ : ∃ v, v = ({ w with crownMap := {} } : State).updClk (fun c => { c with tripped := true, resetDue := none }) := ⟨_, rfl⟩
  have hvf : ∀ y, v.f y = w.f y := fun y => by
    rw [hv]
    exact State.f_of_regs rfl y
  have hvs : v.clocks.tripped = true ∧ v.out = w.out ∧ v.dram = w.dram ∧ v.proctor = w.proctor ∧ v.report = w.report := by
    rw [hv]
    exact ⟨rfl, rfl, rfl, rfl, rfl⟩
  obtain ⟨htrip, hout, hdram, hproctor, hreport⟩ := hvs
  rw [← hv]
  have hsync := (Logged.refl v).syncRc
  have heq := hsync.1
  have hrep : v.syncRc.report = v.report := v.syncRc_report
  refine ⟨fun y hy => ?_, ?_, ?_, ?_, ?_, ?_⟩
  · rw [hsync.f hy, hvf, hlog.f hy]
  · rw [hsync.clocks, htrip]
  · rw [heq, hout, hlog.1]
  · rw [heq, hdram, hlog.1]
  · rw [heq, hproctor, hlog.1]
  · rw [hrep, hreport, hlive]

end

theorem exec_thermtrip_tripped {s : State} {n : Tile} (h : s.clocks.tripped = true) : exec (.thermtrip n) s = .next s :=
  congrArg Host.Outcome.next (if_pos h)

theorem thermtrip_cuts {s : State} {n : Tile} (hc : s.canonical) (h : s.clocks.tripped = false) :
    ∃ u : State, exec (.thermtrip n) s = .next u ∧ u.clocks.tripped = true ∧ Out.thermtripN ∈ u.out ∧ u.dram = [] ∧ u.proctor.running = [] ∧
      u.f F.TH_STAT_THERMTRIP = 1 ∧ (∀ m < 48, u.f (F.TILE_PWR_STAT_STATE m) = 5 ∧ u.f (F.MEM_STAT_STATE m) = 0) ∧ u.report.live = [] := by
  have hx : exec (.thermtrip n) s = .next (s.thermtrip n.val) := congrArg Host.Outcome.next (if_neg (by rw [h]; decide))
  rw [State.thermtrip_eq] at hx
  obtain ⟨hcan, hout, hdram, hrun, hlive⟩ := State.cutOff_spec hc
  generalize s.cutOff = a at hcan hout hdram hrun hlive hx
  obtain ⟨htrip, htiles, hout2, hdram2, hrun2, hrep2⟩ := State.tripShown_spec hcan
  generalize a.tripShown = b at htrip htiles hout2 hdram2 hrun2 hrep2 hx
  obtain ⟨hf, htr, hout3, hdram3, hpr3, hlive3⟩ := b.tripLogged_spec n.val
  generalize b.tripLogged n.val = c at hf htr hout3 hdram3 hpr3 hlive3 hx
  refine ⟨c, hx, htr, ?_, by rw [hdram3, hdram2, hdram], by rw [hpr3, hrun2, hrun], ?_, fun m hm => ?_, by rw [hlive3, hrep2, hlive]⟩
  · rw [hout3, hout2]
    exact hout
  · exact (hf _ (not_assertReg_module (by decide) (by decide))).trans htrip
  · have hs := hf (F.TILE_PWR_STAT_STATE m) (not_assertReg_tile m (c := 0x1004) (by decide) (by unfold assertOffset; omega))
    have hmm := hf (F.MEM_STAT_STATE m) (not_assertReg_tile m (c := 0x40004) (by decide) (by unfold assertOffset; omega))
    exact ⟨hs.trans (htiles m hm).1, hmm.trans (htiles m hm).2⟩

end Sys2Proof.Machine

open Sys2Proof Sys2Proof.Machine

/-- Settles O59: each sample, report and check as one change of state that shows the reading and acts on its limit, THERMTRIP as
four steps that lose the module's work, and a site's discovery by what its die's record admits. -/
theorem thermalAndSites : Obligations.ThermalAndSites := by
  unfold Obligations.ThermalAndSites
  refine ⟨fun n diodes ring s => ⟨thermal_idle, ?_, fun tj hc h hl _ h0 hm => State.tjActs_hot hc h hl h0 hm, fun tj hc h hh => State.tjActs_cool hc h hh,
      exec_thermtrip_tripped, thermtrip_cuts, throttleLoopTick_steps, throttleLoopTick_rests⟩,
    fun n temp s => ⟨memTempSample_reserve, memTempSample_corner, memTempSample_stack, fun hc hr _ h => memTempTile_shows hc hr temp.isLt h⟩,
    fun n v op sh s => ⟨remoteDiodeUpdate_idle, remoteDiodeUpdate_shows⟩,
    fun s => ⟨coolantCheck_off, fun hc hen v hv hlim hok hout => coolantCheck_ok hc hen hv hlim hok hout,
      fun hc hen v hv h => coolantCheck_critical hc hen hv h⟩,
    fun n reads train k s hc hr => ⟨fun h => ⟨if_pos h, if_pos h⟩, fun h => ⟨sidebandTimeout_ends hc hr h, siteDiscovery_unread hc h,
      fun cap hcap hlen hh => siteDiscovery_read hc h hcap hlen hh⟩, fun h => if_pos h, ucieWidthDegrade_lost hc⟩,
    fun n t w s => ⟨fun h => die_unpowered h t w, fun hc hr hp => ⟨dieTempReport_below hc hr hp, dieTempReport_trips hc hr hp, dieThrottleStep_steps hr hp,
      dieThrottleStep_below, fun b hb => exec_dieTempReportTimeout hp hb, sitePowerSample_under hc hr hp⟩⟩,
    fun p s o hc => ⟨fun ha => ⟨xsiteReset_discovers hc ha, xsiteReset_off hc ha⟩, xsiteCapRead_answers⟩⟩
  intro hc hp ht hth d hlo hhi hd hring hline
  subst hd hring
  exact tjSample_shows hc hp ht hth hlo hhi hline
end

section
/-! SUPPORT. What may change the fault state of a scope: an assertion alone, and it only enters the reaction (R407 to R413). -/

namespace Sys2Proof.Machine

/-! ### The registers that show a scope's fault state -/

/-- FSTATE of a tile, or MFSTATE. -/
def scopeReg (off : Nat) : Prop := off = R.MFSTATE ∨ ∃ t, off = R.FSTATE t

theorem tile_apart (t c : Nat) (h : c < 0x100000) (hne : c ≠ 0xA0030) : ¬ scopeReg (tileBase t + c) := by
  rintro (he | ⟨u, he⟩)
  · simp only [R.MFSTATE, tileBase] at he
    omega
  · simp only [R.FSTATE, tileBase] at he
    omega

theorem module_apart {off : Nat} (h : off < 0x1000000) (hne : off ≠ 0x5034) : ¬ scopeReg off := by
  rintro (he | ⟨u, he⟩)
  · exact hne he
  · simp only [R.FSTATE, tileBase] at he
    omega

theorem port_apart (p c : Nat) (h : c < 0x4000) : ¬ scopeReg (portBase p + c) := by
  have hp : portBase p + c = tileBase (p / 3) + (0x10000 + p % 3 * 0x4000 + c) := by
    unfold portBase
    omega
  rw [hp]
  exact tile_apart _ _ (by omega) (by omega)

theorem log_apart : ∀ a ∈ logRegs, ¬ scopeReg a := by
  have hall : ∀ a ∈ logRegs, a < 0x1000000 ∧ a ≠ 0x5034 := by decide
  exact fun a ha => module_apart (hall a ha).1 (hall a ha).2

theorem dark_apart {t : Nat} : ∀ a ∈ darkRegs t, ¬ scopeReg a := by
  intro a ha
  rcases dark_offset ha with rfl | ⟨h1, h2⟩
  · exact tile_apart t 0x20 (by decide) (by decide)
  · obtain ⟨c, rfl⟩ : ∃ c, a = tileBase t + c := ⟨a - tileBase t, by omega⟩
    exact tile_apart t c (by omega) (by omega)

/-! ### The relation -/

/-- A fault state stays as it is, or a NORMAL scope enters REACT or SAFE. -/
def entersOnly (a b : Nat) : Prop := b = a ∨ a = 0 ∧ (b = 1 ∨ b = 2)

theorem entersOnly.trans {a b c : Nat} (h : entersOnly a b) (k : entersOnly b c) : entersOnly a c := by
  unfold entersOnly at *
  omega

/-- `s` comes from `z` in canonical form, with each scope's recoveries as they were and its fault state as it was, but for assertions. -/
structure Steady (z s : State) : Prop where
  canonical : s.canonical
  tile : ∀ t, entersOnly (z.f (F.FSTATE_STATE t)) (s.f (F.FSTATE_STATE t))
  tileCnt : ∀ t, s.f (F.FSTATE_RECOV_CNT t) = z.f (F.FSTATE_RECOV_CNT t)
  module : entersOnly (z.f F.MFSTATE_STATE) (s.f F.MFSTATE_STATE)
  moduleCnt : s.f F.MFSTATE_RECOV_CNT = z.f F.MFSTATE_RECOV_CNT
  faultN : s.f F.MFSTATE_FAULT_N = z.f F.MFSTATE_FAULT_N

section
variable {z s u : State}

theorem Steady.refl (hc : z.canonical) : Steady z z := ⟨hc, fun _ => .inl rfl, fun _ => rfl, .inl rfl, rfl, rfl⟩

theorem Steady.trans (h : Steady z s) (k : Steady s u) : Steady z u :=
  ⟨k.canonical, fun t => (h.tile t).trans (k.tile t), fun t => (k.tileCnt t).trans (h.tileCnt t), h.module.trans k.module,
    k.moduleCnt.trans h.moduleCnt, k.faultN.trans h.faultN⟩

/-- A step that leaves the registers of the scopes. -/
theorem Steady.leaves (h : Steady z s) (hc : u.canonical) (hr : ∀ off, scopeReg off → u.rd off = s.rd off) : Steady z u := by
  have ht : ∀ (t : Nat) (y : Fld), y.off = R.FSTATE t → u.f y = s.f y := fun t y hy => State.f_of_rd (hr _ (.inr ⟨t, hy⟩))
  have hm : ∀ y : Fld, y.off = R.MFSTATE → u.f y = s.f y := fun y hy => State.f_of_rd (hr _ (.inl hy))
  exact h.trans ⟨hc, fun t => .inl (ht t _ rfl), fun t => ht t _ rfl, .inl (hm _ rfl), hm _ rfl, hm _ rfl⟩

/-- A step that leaves the registers and the memories. -/
theorem Steady.of_same (h : Steady z s) (hr : u.regs = s.regs) (hq : u.sq = s.sq) (hh : u.host = s.host) (hd : u.dram = s.dram) : Steady z u :=
  h.leaves (by simpa [State.canonical, hr, hq, hh, hd] using h.canonical) fun off _ => State.rd_of_regs hr off

/-- The same, for a state written out field by field. -/
theorem Steady.written (h : Steady z s) (latch : List (Nat × Word)) (bell : Nat) (free : Nat) (out : List Out) (queues : List (Nat × QueueSt))
    (proctor : Proctor) (journal : Journal) (report : Report) (faults : FaultSt) (pool : Pool) (streams : Streams) (links : List (Nat × Link))
    (photo : List (Nat × Photo)) (photoNv : List (Nat × PhotoNv)) (refmon : Option (Nat × Nat)) (refOn : Bool) (crown : List (Nat × Crown))
    (crownMap : CrownMap) (brim : List (Nat × Brim)) (work : Work) (blk : List (Nat × Blk)) (site : List (Nat × Site)) (twin : Twin)
    (clocks : Clocks) (sec : Sec) (therm : List (Nat × Therm)) (tests : List (Nat × TestRun)) (power : Power) (ident : Ident)
    (pending : List Instr) :
    Steady z (State.mk s.regs latch bell free out s.host s.sq s.dram queues proctor journal report faults pool streams links photo photoNv
      refmon refOn crown crownMap brim work blk site twin clocks sec therm tests power ident pending) := h.of_same rfl rfl rfl rfl

theorem Steady.foldl {α : Type} (h : Steady z s) (l : List α) (f : State → α → State) (hf : ∀ s x, Steady z s → Steady z (f s x)) :
    Steady z (l.foldl f s) := by
  induction l generalizing s with
  | nil => exact h
  | cons a l ih => exact ih (hf s a h)

theorem Steady.each {α : Type} (h : Steady z s) (l : List α) (f : State → α → State) (hf : ∀ s x, Steady z s → Steady z (f s x)) :
    Steady z (s.each l f) := h.foldl l f hf

/-- An iteration whose steps need their member. -/
theorem Steady.each_mem {α : Type} (h : Steady z s) (l : List α) (f : State → α → State) (hf : ∀ x ∈ l, ∀ s, Steady z s → Steady z (f s x)) :
    Steady z (s.each l f) := by
  unfold State.each
  induction l generalizing s with
  | nil => exact h
  | cons a l ih => exact ih (hf a (List.mem_cons_self ..) s h) fun x hx => hf x (List.mem_cons_of_mem _ hx)

theorem Steady.ite {a b : State} {c : Prop} [Decidable c] (ha : Steady z a) (hb : Steady z b) : Steady z (if c then a else b) := by
  split
  · exact ha
  · exact hb

/-! ### Writes to other registers -/

theorem Steady.wr (h : Steady z s) {off : Nat} (ho : ¬ scopeReg off) (v : Word) : Steady z (s.wr off v) :=
  h.leaves (((Kept.refl s).wr off v).2 h.canonical) fun a ha => State.rd_wr_ne (by rintro rfl; exact ho ha) v

theorem Steady.setF (h : Steady z s) {x : Fld} (ho : ¬ scopeReg x.off) (v : Nat) : Steady z (s.setF x v) := h.wr ho _

theorem Steady.setB (h : Steady z s) {x : Fld} (ho : ¬ scopeReg x.off) (v : Bool) : Steady z (s.setB x v) := h.wr ho _

theorem Steady.bump (h : Steady z s) {x : Fld} (ho : ¬ scopeReg x.off) (n : Nat) : Steady z (s.bump x n) := h.wr ho _

theorem Steady.setBit (h : Steady z s) {off : Nat} (ho : ¬ scopeReg off) (i : Nat) : Steady z (s.setBit off i) := h.wr ho _

theorem Steady.setFs (h : Steady z s) (l : List (Fld × Nat)) (hl : l.Forall fun e => ¬ scopeReg e.1.off) : Steady z (s.setFs l) := by
  induction l generalizing s with
  | nil => exact h
  | cons e l ih =>
    obtain ⟨he, hl⟩ := (List.forall_cons _ _ _).1 hl
    exact ih (h.setF he e.2) hl

/-- An assertion's registers outside the scopes, the Report Card and what the collectors keep. -/
theorem Steady.faulted (h : Steady z s) {W : List Nat} (k : Faulted W s u) (hc : u.canonical) (hW : ∀ a ∈ W, ¬ scopeReg a) : Steady z u :=
  h.leaves hc fun off ho => k.2 off fun hm => hW off hm ho

theorem Steady.logged (h : Steady z s) (k : Logged s u) (hc : u.canonical) : Steady z u := h.leaves hc fun off ho => k.2 off fun hm => log_apart off hm ho

theorem Steady.note (h : Steady z s) (g : Nat) (e : RecEv) (sev source : Nat) (v : Int) : Steady z (s.note g e sev source v) :=
  h.logged (s.note_logged g e sev source v) (((Kept.refl s).note g e sev source v).2 h.canonical)

theorem Steady.record (h : Steady z s) (code : RecCode) (sev source : Nat) (v : Int) : Steady z (s.record code sev source v) :=
  h.logged ((Logged.refl s).record code sev source v) (((Kept.refl s).record code sev source v).2 h.canonical)

theorem Steady.latchModule (h : Steady z s) (src sev : Nat) : Steady z (s.latchModule src sev) :=
  h.logged ((Logged.refl s).latchModule src sev) (((Kept.refl s).latchModule src sev).2 h.canonical)

theorem Steady.darken (h : Steady z s) (t : Nat) : Steady z ((s.darken t).leaveTest t) :=
  h.faulted ((Faulted.refl (darkRegs t) s).darken t fun _ hm => hm) ((((Kept.refl s).darken t).leaveTest t).2 h.canonical) dark_apart

theorem Steady.leaveTest (h : Steady z s) (t : Nat) : Steady z (s.leaveTest t) := by
  have ht : ¬ scopeReg (R.TILE_TEST_STAT t) := tile_apart t 0x20 (by decide) (by decide)
  exact h.setFs _ ⟨ht, ht, ht⟩

/-! ### The reactions (R407, R412, R413) -/

/-- A tile's fault state that leaves NORMAL. -/
theorem Steady.enterTile (h : Steady z s) {t v : Nat} (h0 : s.f (F.FSTATE_STATE t) = 0) (hv : v = 1 ∨ v = 2) : Steady z (s.setF (F.FSTATE_STATE t) v) := by
  have hc := State.setF_canonical h.canonical (F.FSTATE_STATE t) v
  have hmod : ∀ y : Fld, y.off = R.MFSTATE → (s.setF (F.FSTATE_STATE t) v).f y = s.f y := fun y hy => State.f_setF_off (x := F.FSTATE_STATE t) (by
    rw [hy]
    simp only [F.FSTATE_STATE, R.FSTATE, R.MFSTATE, tileBase]
    omega) v
  have hcnt : ∀ k, (s.setF (F.FSTATE_STATE t) v).f (F.FSTATE_RECOV_CNT k) = s.f (F.FSTATE_RECOV_CNT k) := fun k =>
    State.f_setF_ne h.canonical (by simp [Fld.apart, F.FSTATE_RECOV_CNT, F.FSTATE_STATE]) v
  refine h.trans ⟨hc, fun k => ?_, hcnt, .inl (hmod _ rfl), hmod _ rfl, hmod _ rfl⟩
  by_cases hk : k = t
  · subst hk
    rw [h0, State.f_setF_same h.canonical.rising _ _ (by simp [F.FSTATE_STATE])]
    rcases hv with rfl | rfl
    · exact .inr ⟨rfl, .inl rfl⟩
    · exact .inr ⟨rfl, .inr rfl⟩
  · refine .inl (State.f_setF_off (x := F.FSTATE_STATE t) ?_ v)
    simp only [F.FSTATE_STATE, R.FSTATE, tileBase]
    omega

/-- The module's fault state that leaves NORMAL. -/
theorem Steady.enterModule (h : Steady z s) (h0 : s.f F.MFSTATE_STATE = 0) : Steady z (s.setF F.MFSTATE_STATE 1) := by
  have htile : ∀ (k : Nat) (y : Fld), y.off = R.FSTATE k → (s.setF F.MFSTATE_STATE 1).f y = s.f y := fun k y hy => State.f_setF_off (x := F.MFSTATE_STATE) (by
    rw [hy]
    simp only [F.MFSTATE_STATE, R.FSTATE, R.MFSTATE, tileBase]
    omega) 1
  refine h.trans ⟨State.setF_canonical h.canonical _ _, fun k => .inl (htile k _ rfl), fun k => htile k _ rfl, ?_, ?_, ?_⟩
  · rw [h0, State.f_setF_same h.canonical.rising _ _ (by decide)]
    exact .inr ⟨rfl, .inl rfl⟩
  · exact State.f_setF_ne h.canonical (by decide) 1
  · exact State.f_setF_ne h.canonical (by decide) 1

theorem Steady.faults (h : Steady z s) (f : FaultSt) : Steady z { s with faults := f } := h.of_same rfl rfl rfl rfl

theorem Steady.reactTile (h : Steady z s) (t bit : Nat) : Steady z (s.reactTile t bit) := by
  have h0 : Steady z (s.startQuiet t) := h.faults _
  have h1 := h0.faults { (s.startQuiet t).faults with cause := Map.put t (fsrcTile t bit) (s.startQuiet t).faults.cause }
  unfold State.reactTile
  dsimp only
  split
  · exact h0
  · next hn =>
    have hz : s.f (F.FSTATE_STATE t) = 0 := not_not.1 hn
    split
    · exact (h1.enterTile (v := 2) hz (.inr rfl)).leaveTest t
    · exact (h1.enterTile (v := 1) hz (.inl rfl)).darken t

theorem Steady.reactModule (h : Steady z s) (bit : Nat) : Steady z (s.reactModule bit) := by
  have h0 : Steady z (s.startQuiet 48) := h.faults _
  have h1 := h0.faults { (s.startQuiet 48).faults with cause := Map.put 48 (fsrcModule bit) (s.startQuiet 48).faults.cause }
  unfold State.reactModule
  dsimp only
  split
  · exact h0
  · next hn => exact (h1.enterModule (not_not.1 hn)).each _ _ fun u t hu => hu.darken t

theorem tileLatch_apart (t : Nat) : ∀ a ∈ latchRegs t, ¬ scopeReg a := by
  intro a ha
  rcases List.mem_append.1 ha with ha | ha
  · exact log_apart a ha
  simp only [List.mem_cons, List.not_mem_nil, or_false] at ha
  rcases ha with rfl | rfl | rfl | rfl | rfl | rfl | rfl
  · exact module_apart (by decide) (by decide)
  · exact module_apart (by decide) (by decide)
  all_goals exact tile_apart t _ (by decide) (by decide)

theorem Steady.firstLatched (h : Steady z s) (t bit sev : Nat) : Steady z (s.firstLatched t bit sev) :=
  h.faulted ((Faulted.refl (latchRegs t) s).firstLatched (fun _ hm => hm) bit sev) (((Kept.refl s).firstLatched t bit sev).2 h.canonical) (tileLatch_apart t)

theorem Steady.latchTile (h : Steady z s) (t bit : Nat) (v : Int) : Steady z (s.latchTile t bit v) := by
  have h1 : Steady z (s.setBit (if bit < 32 then R.FSW_LO t else R.FSW_HI t) (bit % 32)) := h.setBit (by
    split
    · exact tileLatch_apart t _ (by simp [latchRegs])
    · exact tileLatch_apart t _ (by simp [latchRegs])) _
  have h2 := h1.firstLatched t bit (s.sevTile t bit)
  have h3 := (h2.setBit (off := if t < 32 then R.MFSW_TILE_LO else R.MFSW_TILE_HI) (by
    split
    · exact module_apart (by decide) (by decide)
    · exact module_apart (by decide) (by decide)) (t % 32)).latchModule t (s.sevTile t bit)
  have h4 := h3.record (.tileSrc bit) (s.sevTile t bit) (tgtTile t) v
  unfold State.latchTile
  exact h1.ite (h3.ite ((h4.reactTile t bit).ite h4))

theorem Steady.latchMod (h : Steady z s) (bit : Nat) (v : Int) : Steady z (s.latchMod bit v) := by
  have h1 : Steady z (s.setBit R.MFSW_SRC bit) := h.setBit (module_apart (by decide) (by decide)) _
  have h2 := h1.latchModule (64 + bit) (s.sevModule bit)
  have h3 := h2.record (.modSrc bit) (s.sevModule bit) tgtModule v
  unfold State.latchMod
  exact h1.ite (h2.ite ((h3.reactModule bit).ite h3))

theorem Steady.raise (h : Steady z s) (t bit : Nat) (v : Int) (hold : Bool) : Steady z (s.raise t bit v hold) := by
  have ho : ¬ scopeReg (if bit < 32 then R.FLVL_LO t else R.FLVL_HI t) := by
    split
    · exact tile_apart t _ (by decide) (by decide)
    · exact tile_apart t _ (by decide) (by decide)
  unfold State.raise State.lineTile
  dsimp only
  generalize (if bit < 32 then R.FLVL_LO t else R.FLVL_HI t) = off at ho
  have h1 : Steady z (if hold = true then s.setBit off (bit % 32) else s) := (h.setBit ho _).ite h
  split
  · exact h
  · split
    · exact h1
    · exact h1.latchTile t bit v

theorem Steady.raiseMod (h : Steady z s) (bit : Nat) (v : Int) (hold : Bool) : Steady z (s.raiseMod bit v hold) := by
  unfold State.raiseMod State.lineMod
  dsimp only
  have h1 : Steady z (if hold = true then s.setBit R.MFLVL_SRC bit else s) := (h.setBit (module_apart (by decide) (by decide)) _).ite h
  split
  · exact h
  · split
    · exact h1
    · exact h1.latchMod bit v

/-- A fence writes the FENCED bit of its scope alone. -/
theorem Steady.setFence (h : Steady z s) (k : Nat) (g : Fence) : Steady z (s.setFence k g) := by
  obtain ⟨v, hv⟩ := s.setFence_eq k g
  have h1 := h.faults { s.faults with fences := Map.set {} s.faults.fences k g }
  have hc : (s.setFence k g).canonical := ((Kept.refl s).setFence k g).2 h.canonical
  rw [hv] at hc ⊢
  generalize ({ s with faults := { s.faults with fences := Map.set {} s.faults.fences k g } } : State) = w at h1 hc
  have hf : ∀ y x : Fld, y.apart x → (w.setB x v).f y = w.f y := fun y x ha => State.f_setF_ne h1.canonical ha _
  refine h1.trans ⟨hc, fun t => .inl (hf _ _ ?_), fun t => hf _ _ ?_, .inl (hf _ _ ?_), hf _ _ ?_, hf _ _ ?_⟩ <;> split <;>
    simp [Fld.apart, F.FSTATE_STATE, F.FSTATE_RECOV_CNT, F.FSTATE_FENCED, F.MFSTATE_STATE, F.MFSTATE_RECOV_CNT, F.MFSTATE_FAULT_N, F.MFSTATE_FENCED]

end

end Sys2Proof.Machine
end
section
/-! SUPPORT. What writes no register leaves every scope steady. -/

namespace Sys2Proof.Machine

section
variable {z s : State}

theorem Steady.fresh (hk : Steady z s) : Steady z (State.fresh s).2 := by
  grind [State.fresh, Steady.written]

theorem Steady.freshBytes (hk : Steady z s) (x0 : Nat) : Steady z (State.freshBytes x0 s).2 := by
  induction x0 generalizing s <;> grind [State.freshBytes, Steady.fresh]

theorem Steady.dutyPct (hk : Steady z s) (steps : Nat) : Steady z (s.dutyPct steps).2 := by
  grind [State.dutyPct, Steady.fresh]

theorem Steady.emit (hk : Steady z s) (o : Out) : Steady z (s.emit o) := hk.of_same rfl rfl rfl rfl

theorem Steady.updLink (hk : Steady z s) (p : Nat) (f : Link → Link) : Steady z (s.updLink p f) := hk.of_same rfl rfl rfl rfl

theorem Steady.updPh (hk : Steady z s) (t : Nat) (f : Photo → Photo) : Steady z (s.updPh t f) := hk.of_same rfl rfl rfl rfl

theorem Steady.updBl (hk : Steady z s) (t : Nat) (f : Blk → Blk) : Steady z (s.updBl t f) := hk.of_same rfl rfl rfl rfl

theorem Steady.updSt (hk : Steady z s) (n : Nat) (f : Site → Site) : Steady z (s.updSt n f) := hk.of_same rfl rfl rfl rfl

theorem Steady.updClk (hk : Steady z s) (f : Clocks → Clocks) : Steady z (s.updClk f) := hk.of_same rfl rfl rfl rfl

theorem Steady.updSec (hk : Steady z s) (f : Sec → Sec) : Steady z (s.updSec f) := hk.of_same rfl rfl rfl rfl

theorem Steady.updPool (hk : Steady z s) (f : Pool → Pool) : Steady z (s.updPool f) := hk.of_same rfl rfl rfl rfl

theorem Steady.updPr (hk : Steady z s) (f : Proctor → Proctor) : Steady z (s.updPr f) := hk.of_same rfl rfl rfl rfl

theorem Steady.enqueue (hk : Steady z s) (p : Nat) (fs : List Flit) : Steady z (s.enqueue p fs) := by
  grind [State.enqueue, Steady.updLink]

theorem Steady.setFam (hk : Steady z s) (i : Nat) (e : FamEntry) : Steady z (s.setFam i e) := by
  grind [State.setFam, Steady.updPool, Steady.emit]

theorem Steady.dropCache (hk : Steady z s) (i : Nat) : Steady z (s.dropCache i) := by
  grind [State.dropCache, Steady.updPool]

theorem Steady.clearCache (hk : Steady z s) (t : Nat) : Steady z (s.clearCache t) := by
  grind [State.clearCache, Steady.updPool]

theorem Steady.markDirty (hk : Steady z s) (key n : Nat) : Steady z (s.markDirty key n) := by
  grind [State.markDirty, Steady.updPool]

theorem Steady.journalise (hk : Steady z s) (origin opcode tag : Nat) (cs : List JChange) (reply : Option (Path × Reply)) (undo : Undo) :
    Steady z (s.journalise origin opcode tag cs reply undo) := by
  grind [State.journalise, Steady.written]

theorem Steady.policy (hk : Steady z s) (target off : Nat) (old : Option (List Byte)) (new : Option (List Byte)) :
    Steady z (s.policy target off old new) := by
  grind [State.policy, Steady.fresh, Steady.journalise]

theorem Steady.flushMirror (hk : Steady z s) (x0 : Nat) : Steady z (State.flushMirror x0 s) := by
  induction x0 generalizing s <;> grind [State.flushMirror, Steady.updLink, Steady.written]

theorem Steady.mirrorBack (hk : Steady z s) (back : List Flit) : Steady z (s.mirrorBack back) := by
  grind [State.mirrorBack, Steady.flushMirror, Steady.written]

theorem Steady.holdFor (hk : Steady z s) (t m : Nat) (h : Held) : Steady z (s.holdFor t m h) := hk.of_same rfl rfl rfl rfl

theorem Steady.finish (hk : Steady z s) (id status detail : Nat) (result : List Byte) (changes : List JChange) (undo : Undo) :
    Steady z (s.finish id status detail result changes undo) := by
  grind [State.finish, Steady.updPr]

theorem Steady.answerOn (hk : Steady z s) (p det : Nat) (out : Option Nat) : Steady z (s.answerOn p det out) := by
  cases out with
  | none => exact hk
  | some q => exact hk.enqueue q _

theorem Steady.answerInband (hk : Steady z s) (p : Nat) : Steady z (s.answerInband p) := by
  grind [State.answerInband, Steady.answerOn, Steady.updLink, Steady.updPr]

theorem Steady.updStream (hk : Steady z s) (key : Nat) (f : Stream → Stream) : Steady z (s.updStream key f) := hk.of_same rfl rfl rfl rfl

theorem Steady.dispatchTu (hk : Steady z s) (key vc : Nat) (tu : Tu) : Steady z (s.dispatchTu key vc tu) := by
  grind [State.dispatchTu, Steady.updStream, Steady.enqueue]

theorem Steady.sendTu (hk : Steady z s) (key vc : Nat) (tu : Tu) : Steady z (s.sendTu key vc tu) := by
  grind [State.sendTu, Steady.updStream, Steady.dispatchTu]

theorem Steady.pumpData (hk : Steady z s) (x0 x1 : Nat) : Steady z (State.pumpData x0 x1 s) := by
  fun_induction State.pumpData <;> grind [Steady.updStream, Steady.each, Steady.sendTu]

theorem Steady.pump (hk : Steady z s) (key : Nat) : Steady z (s.pump key) := by
  grind [State.pump, Steady.pumpData]

theorem Steady.flushHeldTx (hk : Steady z s) (key : Nat) : Steady z (s.flushHeldTx key) := by
  grind [State.flushHeldTx, Steady.enqueue, Steady.updStream]

theorem Steady.sendNotice (hk : Steady z s) (node queue reason : Nat) (prefer : Option Nat) :
    Steady z (s.sendNotice node queue reason prefer) := by
  unfold State.sendNotice
  (repeat' split) <;> grind [Steady.enqueue, Steady.written]

theorem Steady.dropUndelivered (hk : Steady z s) (key : Nat) : Steady z (s.dropUndelivered key) := by
  grind [State.dropUndelivered, Steady.updPool, Steady.updStream]

theorem Steady.streamPortDown (hk : Steady z s) (p key : Nat) (back : List (Nat × Tu)) : Steady z (s.streamPortDown p key back) := by
  grind [State.streamPortDown, Steady.updStream, Steady.flushHeldTx]

theorem Steady.streamsPortDown (hk : Steady z s) (p : Nat) (back : List Flit) : Steady z (s.streamsPortDown p back) := by
  grind [State.streamsPortDown, Steady.mirrorBack, Steady.each, Steady.streamPortDown]

theorem Steady.sendCredit (hk : Steady z s) (key : Nat) : Steady z (s.sendCredit key) := by
  grind [State.sendCredit, Steady.updStream, Steady.dispatchTu]

theorem Steady.creditCheck (hk : Steady z s) (key : Nat) : Steady z (s.creditCheck key) := by
  unfold State.creditCheck
  (repeat' split) <;> grind [Steady.sendCredit]

theorem Steady.reqDone (hk : Steady z s) (key : Nat) (m : Option (Nat × Nat)) : Steady z (s.reqDone key m) := by
  unfold State.reqDone
  (repeat' split) <;> grind [Steady.holdFor, Steady.updStream, Steady.creditCheck]

theorem Steady.returnData (hk : Steady z s) (key n : Nat) : Steady z (s.returnData key n) := by
  grind [State.returnData, Steady.updStream, Steady.creditCheck]

theorem Steady.updOme (hk : Steady z s) (t : Nat) (f : Ome → Ome) : Steady z (s.updOme t f) := hk.of_same rfl rfl rfl rfl

theorem Steady.updJob (hk : Steady z s) (id : Nat) (f : Job → Job) : Steady z (s.updJob id f) := hk.of_same rfl rfl rfl rfl

theorem Steady.freeSet (hk : Steady z s) (slot : Nat) : Steady z (s.freeSet slot) := by
  grind [State.freeSet, Steady.written]

theorem Steady.dropUnnamed (hk : Steady z s) (id : Nat) : Steady z (s.dropUnnamed id) := by
  grind [State.dropUnnamed, Steady.written]

theorem Steady.streamShare (hk : Steady z s) (id t : Nat) (standin : Bool) : Steady z (s.streamShare id t standin) := by
  grind [State.streamShare, Steady.updJob]

theorem Steady.updCtx (hk : Steady z s) (n : Nat) (f : CollCtx → CollCtx) : Steady z (s.updCtx n f) := hk.of_same rfl rfl rfl rfl

theorem Steady.updGroup (hk : Steady z s) (n : Nat) (f : Group → Group) : Steady z (s.updGroup n f) := by
  grind [State.updGroup, Steady.updCtx]

theorem Steady.updRun (hk : Steady z s) (n id : Nat) (f : CollRun → CollRun) : Steady z (s.updRun n id f) := by
  grind [State.updRun, Steady.updGroup]

theorem Steady.sendDone (hk : Steady z s) (n seq status path flags recv drop : Nat) (m : Member) :
    Steady z (s.sendDone n seq status path flags recv drop m) := by
  grind [State.sendDone, Steady.updStream, Steady.pump]

theorem Steady.dropHeldColl (hk : Steady z s) (n : Nat) (upto : Nat → Bool) (m : Member) : Steady z (s.dropHeldColl n upto m) := by
  grind [State.dropHeldColl, Steady.updStream, Steady.returnData]

theorem Steady.stopOps (hk : Steady z s) (n status detail state failRank failTile : Nat) :
    Steady z (s.stopOps n status detail state failRank failTile) := by
  unfold State.stopOps
  (repeat' split) <;> grind [Steady.updRun, Steady.updGroup, Steady.each, Steady.sendDone, Steady.dropHeldColl,
    Steady.finish]

theorem Steady.memberLost (hk : Steady z s) (key : Nat) : Steady z (s.memberLost key) := by
  grind [State.memberLost, Steady.each, Steady.updGroup, Steady.stopOps]

theorem Steady.collTileLost (hk : Steady z s) (t : Nat) (cause : Option Nat) : Steady z (s.collTileLost t cause) := by
  grind [State.collTileLost, Steady.each, Steady.stopOps]

theorem Steady.collOver (hk : Steady z s) (hit : Nat → Nat → Bool) (status detail : Nat) : Steady z (s.collOver hit status detail) := by
  grind [State.collOver, Steady.each, Steady.stopOps]

theorem Steady.crownRestart (hk : Steady z s) (t : Nat) : Steady z (s.crownRestart t) := by
  grind [State.crownRestart, Steady.each, Steady.emit, Steady.written]

theorem Steady.dropSleep (hk : Steady z s) (t : Nat) : Steady z (s.dropSleep t) := by
  grind [State.dropSleep, Steady.each, Steady.finish, Steady.updClk, Steady.written]

end

end Sys2Proof.Machine
end
section
/-! SUPPORT. The memory, the links and the work that a stopped tile ends leave every scope steady. -/

namespace Sys2Proof.Machine

section
variable {z s : State}

/-- A tile's own register at an offset that is not FSTATE's. -/
theorem own_apart {off : Nat} (t : Nat) (h : tileBase t ≤ off) (hlt : off < tileBase t + 0x100000) (hne : off ≠ tileBase t + 0xA0030) : ¬ scopeReg off := by
  obtain ⟨c, rfl⟩ : ∃ c, off = tileBase t + c := ⟨off - tileBase t, by omega⟩
  exact tile_apart t c (by omega) (by omega)

theorem las_apart (t : Nat) {c : Nat} (hc : c < 8) : ¬ scopeReg (R.LAS_STAT t c) := by
  unfold R.LAS_STAT
  exact own_apart t (by omega) (by omega) (by omega)

theorem bias_apart (t : Nat) {c : Nat} (hc : c < 8) : ¬ scopeReg (R.LAS_BIAS t c) := by
  unfold R.LAS_BIAS
  exact own_apart t (by omega) (by omega) (by omega)

theorem fade_apart (t : Nat) {r : Nat} (hr : r < 6) : ¬ scopeReg (R.FADE_STAT t r) := by
  unfold R.FADE_STAT
  exact own_apart t (by omega) (by omega) (by omega)

theorem eye_apart (t : Nat) {i : Nat} (hi : i < 3) : ¬ scopeReg (R.EYESAFE t i) := by
  unfold R.EYESAFE
  exact own_apart t (by omega) (by omega) (by omega)

theorem plane_apart (t : Nat) {pl : Nat} (h : pl < 16) : ¬ scopeReg (R.CROWN_PLANE t pl) := by
  unfold R.CROWN_PLANE
  exact own_apart t (by omega) (by omega) (by omega)

theorem dist_apart (t : Nat) {n : Nat} (h : n < 48) : ¬ scopeReg (R.TILE_DIST t n) := by
  unfold R.TILE_DIST
  exact own_apart t (by omega) (by omega) (by omega)

theorem detPort_apart (t : Nat) {i : Nat} (hi : i < 3) : ¬ scopeReg (R.BLK_DET_PORT t i) := by
  unfold R.BLK_DET_PORT
  exact own_apart t (by omega) (by omega) (by omega)

theorem lane_apart (p : Nat) {j : Nat} (hj : j < 17) : ¬ scopeReg (R.LANE_STAT p j) := by
  unfold R.LANE_STAT
  rw [Nat.add_assoc]
  exact port_apart p _ (by omega)

theorem siteStat_apart (n : Nat) : ¬ scopeReg (R.XSITE_STAT n) := by
  rintro (h | ⟨t, h⟩) <;> simp only [R.XSITE_STAT, R.MFSTATE, R.FSTATE, tileBase] at h <;> omega

theorem sitePower_apart (n : Nat) : ¬ scopeReg (R.XSITE_PWR n) := by
  rintro (h | ⟨t, h⟩) <;> simp only [R.XSITE_PWR, R.MFSTATE, R.FSTATE, tileBase] at h <;> omega

/-! ### The FAM and the memory -/

theorem Steady.syncDuty (h : Steady z s) (t : Nat) : Steady z (s.syncDuty t) := by
  unfold State.syncDuty
  extract_lets th cap r
  have hr : Steady z r.2 := by
    simp only [r]
    split
    · exact h
    · exact h.dutyPct _
  exact hr.setFs _ ⟨tile_apart _ _ (by decide) (by decide), tile_apart _ _ (by decide) (by decide)⟩

theorem Steady.lookup (h : Steady z s) (t i : Nat) : Steady z (s.lookup t i).2 := by
  unfold State.lookup
  dsimp only
  split
  · exact (h.updPool _).bump (tile_apart _ _ (by decide) (by decide)) _
  · split
    · exact (h.updPool _).bump (tile_apart _ _ (by decide) (by decide)) _
    · exact h.bump (tile_apart _ _ (by decide) (by decide)) _

theorem Steady.releaseFrame (h : Steady z s) (t frame : Nat) : Steady z (s.releaseFrame t frame) := by
  unfold State.releaseFrame
  exact Steady.ite ((h.updPool _).bump (tile_apart _ _ (by decide) (by decide)) _) (h.updPool _)

theorem Steady.clearPoison (h : Steady z s) (line : Nat) : Steady z (s.clearPoison line) := by
  unfold State.clearPoison
  exact Steady.ite ((h.updPool _).setF (tile_apart _ _ (by decide) (by decide)) _) h

theorem Steady.resolve (h : Steady z s) (t a n : Nat) (write : Bool) : Steady z (s.resolve t a n write).2 := by
  have hl := h.lookup t (addrIndex a)
  unfold State.resolve
  split
  · exact h
  · split
    · next heq => rwa [heq] at hl
    · next heq =>
      rw [heq] at hl
      (repeat' split) <;> exact hl

theorem Steady.setDram (h : Steady z s) (key : Nat) (bs : List Byte) : Steady z { s with dram := Memory.write s.dram key bs } :=
  h.leaves (((Kept.refl s).setDram _ fun hm => Memory.wf_write hm ..).2 h.canonical) fun _ _ => rfl

theorem Steady.store (h : Steady z s) {t key : Nat} {bs : List Byte} {u : State} (hu : s.store t key bs = .ok u) : Steady z u := by
  unfold State.store at hu
  dsimp only at hu
  split at hu
  · cases hu
    exact h
  · split at hu
    · cases hu
    · split at hu
      · cases hu
        exact h
      · split at hu
        · cases hu
        · cases hu
          exact ((h.setDram key bs).foldl _ _ fun _ l hs => hs.clearPoison l).markDirty key _

theorem Steady.readHere (h : Steady z s) (t a n : Nat) : Steady z (s.readHere t a n).2 := by
  have hr := h.resolve t a n false
  unfold State.readHere
  split <;> next heq => rwa [heq] at hr

/-- A write's outcome leaves the scopes steady, whether it was done or not. -/
def steadyWrite (z : State) (r : Except Nat State × State) : Prop := (∀ u, r.1 = .ok u → Steady z u) ∧ Steady z r.2

theorem steadyWrite_ok {u : State} (hu : Steady z u) (h : Steady z s) : steadyWrite z (.ok u, s) := by
  refine ⟨fun w hw => ?_, h⟩
  cases hw
  exact hu

theorem steadyWrite_error (h : Steady z s) (st : Nat) : steadyWrite z (.error st, s) := by
  refine ⟨fun w hw => ?_, h⟩
  cases hw

theorem Steady.writeAt (h : Steady z s) (t a : Nat) (bs : List Byte) (mt key : Nat) (e : FamEntry) : steadyWrite z (s.writeAt t a bs mt key e) := by
  unfold State.writeAt
  split
  · exact steadyWrite_ok (h.updPool _) h
  · split
    · next heq => exact steadyWrite_ok (h.store heq) h
    · exact steadyWrite_error h _

theorem Steady.writeHere (h : Steady z s) (t a : Nat) (bs : List Byte) : steadyWrite z (s.writeHere t a bs) := by
  have hr := h.resolve t a bs.length true
  unfold State.writeHere
  generalize s.resolve t a bs.length true = r at hr
  obtain ⟨res, u⟩ := r
  cases res with
  | bad st => exact steadyWrite_error hr _
  | noCopy => exact steadyWrite_error hr _
  | remote node addr => exact steadyWrite_error hr _
  | at_ mt key e => exact Steady.writeAt hr ..

theorem Steady.remoteAccess (h : Steady z s) (t node addr : Nat) (tu : Tu) (n : Nat) : Steady z (s.remoteAccess t node addr tu n).2 := by
  unfold State.remoteAccess
  obtain ⟨hok, herr⟩ := h.writeHere t addr tu.data
  split
  · split
    · exact h.readHere t addr n
    · split
      · next heq => exact hok _ (by rw [heq])
      · next heq => rwa [heq] at herr
  · split
    · exact h
    · dsimp only
      split
      · exact (h.enqueue _ _).freshBytes n
      · exact h.enqueue _ _

theorem Steady.writeFabric (h : Steady z s) (t a : Nat) (bs : List Byte) : steadyWrite z (s.writeFabric t a bs) := by
  have hr := h.resolve t a bs.length true
  unfold State.writeFabric
  generalize s.resolve t a bs.length true = r at hr
  obtain ⟨res, u⟩ := r
  cases res with
  | bad st => exact steadyWrite_error hr _
  | noCopy => exact steadyWrite_error hr _
  | at_ mt key e => exact Steady.writeAt hr ..
  | remote node addr =>
    have ha := Steady.remoteAccess hr t node addr (bareTu 3 bs) 0
    dsimp only
    generalize u.remoteAccess t node addr (bareTu 3 bs) 0 = w at ha
    obtain ⟨_ | _, v⟩ := w
    · exact steadyWrite_error ha _
    · exact steadyWrite_ok ha hr

theorem Steady.writeFabric_ok (h : Steady z s) {t a : Nat} {bs : List Byte} {u x : State} (hu : s.writeFabric t a bs = (.ok u, x)) : Steady z u :=
  (h.writeFabric t a bs).1 u (by rw [hu])

theorem Steady.writeFabric_state (h : Steady z s) {t a : Nat} {bs : List Byte} {r : Except Nat State} {u : State}
    (hu : s.writeFabric t a bs = (r, u)) : Steady z u := by
  have := (h.writeFabric t a bs).2
  rwa [hu] at this

theorem Steady.policyReg (h : Steady z s) (target : Nat) {off : Nat} (ho : ¬ scopeReg off) (v : Word) : Steady z (s.policyReg target off v) := by
  unfold State.policyReg
  exact Steady.ite h ((h.wr ho v).policy _ _ _ _)

/-! ### Ports and sublinks -/

theorem Steady.syncReplay (h : Steady z s) (p : Nat) : Steady z (s.syncReplay p) :=
  (h.setF (x := F.LINK_REPLAY_TILE_N p) (port_apart _ _ (by decide)) _).setF (x := F.LINK_REPLAY_SPILL_N p) (port_apart _ _ (by decide)) _

theorem Steady.cancelLaneset (h : Steady z s) (p state : Nat) : Steady z (s.cancelLaneset p state) := by
  have h1 : ∀ g : Link → Link, Steady z ((s.updLink p g).setF (F.LINK_STAT_LANESET_PEND p) 0) := fun g => (h.updLink p g).setF (port_apart _ _ (by decide)) _
  unfold State.cancelLaneset
  split
  · exact h
  · dsimp only
    split
    · exact (h1 _).finish _ _ _ _ _ _
    · exact h1 _

theorem Steady.clearLink (h : Steady z s) (p state : Nat) : Steady z (s.clearLink p state) := by
  unfold State.clearLink
  have h1 := ((h.cancelLaneset p state).updLink p (fun l => { l with
    train := none, unacked := [], txq := [], rxq := [], replayPos := none, timerOn := false, laneset := none, echoAt := none,
    nakOut := none, nakDue := false, ackValid := false, ackSent := none, dupAt := none,
    dozeSent := false, dozeAcked := false, dozed := false, txQuiet := false, rttDone := false, verify := [], trainSeen := [], oldMap := none,
    phaseAt := none, away := 0, back := 0, swap := none, revert := none })).each_mem (List.range 17) (fun s j => s.setF (F.LANE_STAT_STANDBY p j) 0)
    fun j hj s hs => hs.setF (lane_apart p (List.mem_range.1 hj)) _
  have hp : ∀ c : Nat, c < 0x4000 → ¬ scopeReg (portBase p + c) := port_apart p
  refine Steady.syncReplay (Steady.setFs h1 _ ?_) p
  exact ⟨hp _ (by decide), hp _ (by decide), hp _ (by decide), hp _ (by decide), hp _ (by decide), hp _ (by decide), hp _ (by decide),
    hp _ (by decide), hp _ (by decide), hp _ (by decide), hp _ (by decide)⟩

theorem Steady.shut (h : Steady z s) (p : Nat) : Steady z (s.shut p) := by
  have he : ¬ scopeReg (R.EYESAFE (p / 3) (p % 3)) := eye_apart _ (Nat.mod_lt _ (by decide))
  unfold State.shut
  dsimp only
  have h1 : Steady z (if s.f (F.EYESAFE_STATE (p / 3) (p % 3)) = 0 then s.bump (F.EYESAFE_SHUT_CNT (p / 3) (p % 3)) else s) := (h.bump he _).ite h
  have h2 := fun v => (h1.setFs [(F.EYESAFE_STATE (p / 3) (p % 3), v), (F.EYESAFE_BEACON_OK (p / 3) (p % 3), 0)] ⟨he, he⟩).updLink p
    (fun l => { l with beacon := none })
  exact Steady.ite (h2 _) ((h2 _).emit _)

theorem Steady.clearSub (h : Steady z s) (p : Nat) : Steady z (s.clearSub p) := by
  unfold State.clearSub
  refine Steady.updLink (h.leaves ?_ fun off ho => ?_) p _
  · exact ⟨Map.canon_filter _ h.canonical.1, h.canonical.2⟩
  · have hf := Map.find_filter_key (fun a => !(decide (portBase p ≤ a) && decide (a < portBase p + 0x4000))) off s.regs
    have hout : ¬ (portBase p ≤ off ∧ off < portBase p + 0x4000) := by
      rintro ⟨hlo, hhi⟩
      obtain ⟨c, rfl⟩ : ∃ c, off = portBase p + c := ⟨off - portBase p, by omega⟩
      exact port_apart p c (by omega) ho
    rw [if_pos (by simp; omega)] at hf
    exact congrArg (·.getD (regDefault off)) hf

theorem Steady.sublinkDown (h : Steady z s) (k : Nat) : Steady z (s.sublinkDown k) := by
  rcases s.sublinkDown_cases k with hk | ⟨other, hk⟩
  · rwa [hk]
  · rw [hk]
    unfold State.subFallen
    exact ((((h.answerOn _ _ other).setF (siteStat_apart _) _).updPr _).clearSub _).streamsPortDown _ _

theorem Steady.siteDown (h : Steady z s) (n state : Nat) : Steady z (s.siteDown n state) := by
  rw [State.siteDown_eq]
  have hs := siteStat_apart n
  have hp := sitePower_apart n
  have h1 : Steady z (s.subsDown n) := (h.sublinkDown _).sublinkDown _
  exact (h1.setFs (siteFields n state) ⟨hs, hs, hs, hs, hs, hp, hp⟩).updSt n _

theorem Steady.siteStart (h : Steady z s) (n : Nat) : Steady z (s.siteStart n) := by
  unfold State.siteStart
  exact (h.siteDown n 1).ite h

theorem Steady.streamsPortUp (h : Steady z s) {p : Nat} (hp : 240 ≤ p) (node : Nat) : Steady z (s.streamsPortUp p node) :=
  h.leaves (((Kept.refl s).streamsPortUp p node).2 h.canonical) ((Leaves.refl scopeReg s).streamsPortUp hp node).rd

theorem Steady.sublinkUp (h : Steady z s) (k : Nat) : Steady z (s.sublinkUp k) := by
  unfold State.sublinkUp
  exact Steady.ite ((h.setF (siteStat_apart _) _).streamsPortUp (by omega) _) h

theorem Steady.sublinksUp (h : Steady z s) (n : Nat) : Steady z (s.sublinksUp n) := (h.sublinkUp _).sublinkUp _

end

end Sys2Proof.Machine
end
section
/-! SUPPORT. Work that ends, memory that goes, and a tile that stops leave every scope steady. -/

namespace Sys2Proof.Machine

section
variable {z s : State}

/-! ### Streams, jobs and Blocking runs -/

theorem Steady.faultStream (h : Steady z s) (key : Nat) : Steady z (s.faultStream key) := by
  unfold State.faultStream
  split
  · exact h
  · split
    · exact h
    · dsimp only
      exact (((((h.sendNotice _ _ _ _).dropUndelivered key).updStream key _).note _ _ _ _ _).raise _ _ _ _)

theorem Steady.releaseJob (h : Steady z s) (j : Job) : Steady z (s.releaseJob j) := by
  unfold State.releaseJob
  extract_lets s1 s2 s3
  have h1 : Steady z s1 := by
    simp only [s1]
    split
    · exact (h.freeSet _).ite h
    · exact h
  have h3 : Steady z s3 := (h1.each _ _ fun _ k hs => hs.releaseFrame _ _).updJob _ _
  clear_value s3
  exact h3.of_same rfl rfl rfl rfl

theorem Steady.endJob (h : Steady z s) (id status detail failTile : Nat) : Steady z (s.endJob id status detail failTile) := by
  unfold State.endJob
  split
  · exact h
  · split
    · exact h
    · dsimp only
      split
      · exact h.updJob _ _
      · exact (((h.updJob _ _).releaseJob _).finish _ _ _ _ _ _).dropUnnamed _

theorem Steady.jobsMoved (h : Steady z s) (t : Nat) (cause : Option Nat) : Steady z (s.jobsMoved t cause) := by
  unfold State.jobsMoved
  extract_lets standin
  exact h.each _ _ fun s j hs => Steady.ite ((hs.updJob _ _).streamShare _ _ _) ((hs.updJob _ _).endJob _ _ _ _)

theorem Steady.endJobsOver (h : Steady z s) (hit : Nat → Nat → Bool) (status detail failTile : Nat) :
    Steady z (s.endJobsOver hit status detail failTile) := h.each _ _ fun _ _ hs => hs.endJob _ _ _ _

theorem Steady.streamGone (h : Steady z s) (key : Nat) : Steady z (s.streamGone key) := by
  refine Steady.memberLost (h.each _ _ fun s j hs => ?_) key
  split
  · exact hs.updJob _ _
  · exact hs.endJob _ _ _ _

theorem Steady.syncBlk (h : Steady z s) (t : Nat) : Steady z (s.syncBlk t) :=
  h.setFs _ ⟨tile_apart _ _ (by decide) (by decide), tile_apart _ _ (by decide) (by decide), tile_apart _ _ (by decide) (by decide)⟩

theorem Steady.queueChan (h : Steady z s) (t c prio diff : Nat) : Steady z (s.queueChan t c prio diff) := by
  unfold State.queueChan
  dsimp only
  split
  · exact h
  · exact Steady.syncBlk (Steady.ite (h.updBl _ _) (h.updBl _ _)) t

theorem Steady.dropRun (h : Steady z s) (t c : Nat) : Steady z (s.dropRun t c) := by
  have hp : ¬ scopeReg (R.ESCAN_STAT (3 * t + c / 32)) := port_apart _ _ (by decide)
  unfold State.dropRun
  dsimp only
  refine Steady.syncBlk ?_ t
  split
  · refine Steady.setFs (h.updBl t _) _ ?_
    exact ⟨hp, hp⟩
  · exact (h.updBl t _).setF (x := F.CROWN_PLANE_BLOCKING t (c % 16)) (plane_apart t (Nat.mod_lt _ (by decide))) _
  · exact (h.updBl t _).updOme t _
  · exact (h.updBl t _).updOme t _
  · exact h.updBl t _

theorem Steady.abortRuns (h : Steady z s) (t : Nat) (p : BlkRun → Bool) : Steady z (s.abortRuns t p) := by
  have hl : ¬ scopeReg (R.BLK_LAST t) := tile_apart _ _ (by decide) (by decide)
  refine h.each _ _ fun s r hs => ?_
  dsimp only
  split
  · exact hs.dropRun t r.chan
  · exact Steady.syncBlk (((hs.dropRun t r.chan).setFs [(F.BLK_LAST_CHAN t, r.chan), (F.BLK_LAST_RESULT t, 3), (F.BLK_LAST_TRIGGER t, triggerOf r.prio)]
      ⟨hl, hl, hl⟩).updBl t _) t

theorem Steady.startUpRuns (h : Steady z s) (t : Nat) : Steady z (s.startUpRuns t) := by
  unfold State.startUpRuns
  exact Steady.ite (h.each _ _ fun _ _ hs => hs.queueChan _ _ _ _) h

/-! ### Ports, the distances and the Crown -/

theorem Steady.declareDown (h : Steady z s) (p state : Nat) : Steady z (s.declareDown p state) :=
  ((((((h.answerInband p).clearLink p state).streamsPortDown p _).abortRuns _ _).note _ _ _ _ _).raise _ _ _ _)

theorem Steady.rewriteRow (h : Steady z s) (a : Nat) : Steady z (s.rewriteRow a) := by
  unfold State.rewriteRow
  extract_lets row
  refine Steady.ite h (Steady.setF ?_ (tile_apart _ _ (by decide) (by decide)) _)
  refine h.each_mem (row.zip allTiles) (fun s x => s.wr (R.TILE_DIST a x.2) (BitVec.ofNat 32 x.1)) fun x hx s hs => hs.wr (dist_apart a ?_) _
  exact List.mem_range.1 (List.of_mem_zip hx).2

theorem Steady.rewriteDist (h : Steady z s) : Steady z s.rewriteDist := h.each _ _ fun _ a hs => hs.rewriteRow a

theorem Steady.markDead (h : Steady z s) (t txm rxm : Nat) : Steady z (s.markDead t txm rxm) := by
  have hd : ¬ scopeReg (R.CROWN_DEAD t) := tile_apart _ _ (by decide) (by decide)
  unfold State.markDead
  extract_lets worse s1 s2
  have h1 : Steady z s1 := h.setFs _ ⟨hd, hd⟩
  have h2 : Steady z s2 := h1.each_mem _ _ fun pl hpl s hs => by
    have hp := plane_apart t (List.mem_range.1 hpl)
    exact hs.setFs _ ⟨hp, hp⟩
  exact Steady.ite (h2.raise _ _ _ _) h2

/-! ### The FAM's copies and the memory -/

theorem Steady.showCopies (h : Steady z s) (t : Nat) : Steady z (s.showCopies t) :=
  h.setFs _ ⟨tile_apart _ _ (by decide) (by decide), tile_apart _ _ (by decide) (by decide)⟩

theorem Steady.setCopies (h : Steady z s) (c0 c1 : Bool) : Steady z (s.setCopies c0 c1) := by
  unfold State.setCopies
  extract_lets s2
  have h2 : Steady z s2 := (h.updPool _).each _ _ fun _ t hs => hs.showCopies t
  exact Steady.ite ((h2.note _ _ _ _ _).raiseMod _ _ _) h2

theorem Steady.copyLost (h : Steady z s) (t : Nat) : Steady z (s.copyLost t) := by
  unfold State.copyLost
  exact Steady.ite (h.setCopies _ _) (Steady.ite (h.setCopies _ _) h)

theorem Steady.dropMigFrame (h : Steady z s) (m : Migration) : Steady z (s.dropMigFrame m).2 := by
  unfold State.dropMigFrame
  split
  · exact h
  · dsimp only
    split
    · exact h
    · split
      · exact (h.setFam _ _).dropCache _
      · split
        · exact (h.releaseFrame _ _).dropCache _
        · exact h

theorem Steady.abortMig (h : Steady z s) (m : Migration) : Steady z (s.abortMig m) := by
  have hd := h.dropMigFrame m
  unfold State.abortMig
  generalize s.dropMigFrame m = r at hd
  obtain ⟨moved, u⟩ := r
  exact (hd.updPool _).finish _ _ _ _ _ _

theorem Steady.releaseHeld (h : Steady z s) : Steady z s.releaseHeld := by
  unfold State.releaseHeld
  dsimp only
  refine Steady.each (h.updPool _) _ _ fun s x hs => ?_
  split
  · next s2 _ heq =>
    have h2 := hs.writeFabric_ok heq
    split
    · exact h2.reqDone _ _
    · split
      · exact Steady.ite (h2.holdFor _ _ _) (h2.emit _)
      · exact h2.emit _
    · exact h2
  · next heq =>
    have h2 := hs.writeFabric_state heq
    split
    · exact (h2.sendTu _ _ _).reqDone _ _
    · exact Steady.emit (h2.bump (x := F.MEM_LOST_WR x.tile) (tile_apart _ _ (by decide) (by decide)) _) _
    · exact h2

theorem Steady.memUnavailable (h : Steady z s) (t : Nat) : Steady z (s.memUnavailable t) := by
  unfold State.memUnavailable
  refine Steady.ite h ?_
  extract_lets s1 hits s2 overs det s3 s4
  have h1 : Steady z s1 := (h.setF (x := F.MEM_STAT_STATE t) (tile_apart _ _ (by decide) (by decide)) _).note _ _ _ _ _
  clear_value s1
  have h2 : Steady z s2 := (h1.each _ _ fun _ m hs => hs.abortMig m).releaseHeld
  clear_value s2
  have h3 : Steady z s3 := h2.endJobsOver _ _ _ _
  clear_value s3
  exact (h3.collOver _ _ _).copyLost t

theorem Steady.memStart (h : Steady z s) (t : Nat) : Steady z (s.memStart t) := by
  have hm : ¬ scopeReg (R.MEM_STAT t) := tile_apart _ _ (by decide) (by decide)
  unfold State.memStart
  refine Steady.ite h ?_
  extract_lets s1
  have h1 : Steady z s1 := h.setFs _ ⟨hm, hm⟩
  exact Steady.ite h1 (Steady.ite (h1.setCopies _ _) (Steady.ite (h1.setCopies _ _) h1))

/-! ### The engine and its duties -/

theorem Steady.omeStart (h : Steady z s) (t : Nat) : Steady z (s.omeStart t) := by
  have ho : ¬ scopeReg (R.OME_STAT t) := tile_apart _ _ (by decide) (by decide)
  unfold State.omeStart
  dsimp only
  refine Steady.ite (Steady.updOme (Steady.setFs h _ ?_) t _) h
  exact ⟨ho, ho, ho, ho⟩

theorem Steady.omeStop (h : Steady z s) (t state : Nat) : Steady z (s.omeStop t state) := by
  have ho : ¬ scopeReg (R.OME_STAT t) := tile_apart _ _ (by decide) (by decide)
  unfold State.omeStop
  extract_lets s1
  have h1 : Steady z s1 := by
    refine Steady.updOme (h.setFs _ ?_) t _
    exact ⟨ho, ho, ho, ho⟩
  clear_value s1
  exact h1.of_same rfl rfl rfl rfl

theorem role_apart (t : Nat) : ¬ scopeReg (R.TILE_ROLE t) := tile_apart _ _ (by decide) (by decide)

theorem Steady.moveDuties (h : Steady z s) (t : Nat) : Steady z (s.moveDuties t) := by
  unfold State.moveDuties
  split
  · exact h
  next owner _ =>
    extract_lets cause cands pick role s1 s2 s3
    have hrole : ∀ (s : State) (u : Nat) (fs : List (Fld × Nat)), Steady z s → Steady z (role s u fs) := fun s u fs hs => hs.policyReg _ (role_apart u) _
    have h1 : Steady z s1 := Steady.ite h (hrole _ _ _ h)
    have h2 : Steady z s2 := hrole _ _ _ h1
    clear_value s1 pick
    cases pick with
    | some r => exact ((((hrole _ r [(F.TILE_ROLE_STANDIN r, 1), (F.TILE_ROLE_STANDIN_FOR r, owner)] h2).omeStart r).jobsMoved _ _).collTileLost _ _).rewriteDist
    | none => exact (((h2.each _ _ fun _ k hs => (hs.faultStream k).streamGone k).jobsMoved _ _).collTileLost _ _).rewriteDist

theorem Steady.adoptOrphan (h : Steady z s) (r : Nat) : Steady z (s.adoptOrphan r) := by
  unfold State.adoptOrphan
  dsimp only
  split
  · exact h
  · split
    · exact h
    · exact ((h.policyReg _ (role_apart r) _).omeStart r).rewriteDist

theorem Steady.adoptFree (h : Steady z s) : Steady z s.adoptFree := h.each _ _ fun _ r hs => hs.adoptOrphan r

/-! ### A tile that stops (R372 steps 2 to 4) -/

theorem Steady.stopTile (h : Steady z s) (t : Nat) (cause : Option Nat) : Steady z (s.stopTile t cause) := by
  unfold State.stopTile
  extract_lets s0 s1 s2 s3 s4
  have h0 : Steady z s0 := by
    simp only [s0]
    split
    · exact h.sublinkDown _
    · exact h
  have h1 : Steady z s1 := h0.each _ _ fun _ p hs => (hs.declareDown p _).shut p
  have h3 : Steady z s3 := ((h1.crownRestart t).abortRuns t _).each _ _ fun _ j hs => hs.endJob _ _ _ _
  have h4 : Steady z s4 := by
    simp only [s4]
    split
    · exact h3.collTileLost _ _
    · exact h3
  exact (h4.omeStop t 0).memUnavailable t

end

end Sys2Proof.Machine
end
section
/-! SUPPORT. A tile that starts again leaves every scope steady (R372 steps 4 to 8). -/

namespace Sys2Proof.Machine

/-! ### The registers of class T and K -/

/-- FSTATE and MFSTATE are of class C. -/
theorem scopeReg_class {off : Nat} {pl : Place} {r : RegRow} (ho : scopeReg off) (hp : placeOf off = some pl) (hr : rowAtPlace pl = some r) : r.cls = .C := by
  rcases ho with rfl | ⟨t, rfl⟩
  · have hrow : (rowAtPlace ⟨48, 3, R.MFSTATE⟩).map (·.cls) = some .C := by decide
    obtain rfl := Option.some.inj ((placeOf_module (by decide)).symm.trans hp)
    rw [hr] at hrow
    exact Option.some.inj hrow
  · have ht : t < 48 := by
      have hlt := placeOf_lt hp
      unfold R.FSTATE portBase tileBase at hlt
      omega
    have hrow : (tileRows.find? (fun r => r.has 0xA0030)).map (·.cls) = some .C := by decide
    obtain rfl := Option.some.inj ((placeOf_own ht (.inr (by decide)) (by decide)).symm.trans hp)
    rw [← rowAtPlace_own 0xA0030 ht, hr] at hrow
    exact Option.some.inj hrow

theorem outlives_scopeReg (p : Place → RegRow → Bool) (hp : ∀ pl r, p pl r = true → r.cls ≠ .C) {off : Nat} (ho : scopeReg off) : outlives p off = true := by
  unfold outlives
  split
  · rfl
  · next pl hpl =>
    split
    · rfl
    · next r hr =>
      rw [Bool.not_eq_true']
      exact Bool.eq_false_iff.2 fun h => hp pl r h (scopeReg_class ho hpl hr)

section
variable {z s : State}

theorem Steady.resetRegs (h : Steady z s) (p : Place → RegRow → Bool) (hp : ∀ pl r, p pl r = true → r.cls ≠ .C) : Steady z (s.resetRegs p) := by
  refine h.leaves (((Kept.refl s).resetRegs p).2 h.canonical) fun off ho => ?_
  have hregs : (s.resetRegs p).regs = s.regs.filter (fun e => outlives p e.1) := rfl
  unfold State.rd
  rw [hregs, Map.find_filter_key, outlives_scopeReg p hp ho, if_pos rfl]

theorem Steady.tileDefaults (h : Steady z s) (t : Nat) : Steady z (s.tileDefaults t) := by
  refine Steady.showCopies (Steady.setF (h.resetRegs _ fun pl r hr hc => ?_) (tile_apart _ _ (by decide) (by decide)) _) t
  rw [hc] at hr
  simp at hr

/-! ### The combs and their lines -/

theorem Steady.lightComb (h : Steady z s) (t : Nat) {c : Nat} (hc : c < 8) (state role : Nat) : Steady z (s.lightComb t c state role) :=
  h.setFs _ ⟨las_apart t hc, las_apart t hc, bias_apart t hc, bias_apart t hc⟩

theorem Steady.darkComb (h : Steady z s) (t : Nat) {c : Nat} (hc : c < 8) : Steady z (s.darkComb t c) :=
  h.setFs _ ⟨las_apart t hc, las_apart t hc, bias_apart t hc⟩

theorem Steady.traceGrid (h : Steady z s) (t : Nat) : Steady z (s.traceGrid t) := by
  have hg : ¬ scopeReg (R.GRID_STAT t) := tile_apart _ _ (by decide) (by decide)
  unfold State.traceGrid
  refine Steady.ite (Steady.setFs h.fresh.fresh _ ?_) h
  exact ⟨hg, hg, hg⟩

theorem Steady.lightTile (h : Steady z s) (t : Nat) : Steady z (s.lightTile t) := by
  unfold State.lightTile
  extract_lets sub s1 s2 s3
  have h1 : Steady z s1 := h.each_mem _ _ fun c hc s hs => by
    have h8 : c < 8 := (List.mem_range.1 hc).trans (by decide)
    exact (hs.darkComb t h8).ite (hs.lightComb t h8 2 c)
  clear_value s1
  have h2 : Steady z s2 := h1.each_mem _ _ fun u hu s hs => by
    have h8 : u < 8 := by
      simp only [List.mem_cons, List.not_mem_nil, or_false] at hu
      omega
    split
    · next hr => exact ((hs.lightComb t h8 _ _).setF (x := F.FADE_STAT_STAGE t (sub u)) (fade_apart t hr) _).updPh t _
    · exact hs.darkComb t h8
  clear_value s2
  have h3 : Steady z s3 := h2.each_mem _ _ fun c hc s hs => hs.setF (x := F.LAS_BIAS_COMM_BIAS t c) (bias_apart t (List.mem_range.1 hc)) _
  clear_value s3
  exact (h3.updPh t _).traceGrid t

theorem Steady.showDetention (h : Steady z s) (t : Nat) : Steady z (s.showDetention t) := by
  have ht : ∀ c : Nat, c < 0x100000 → c ≠ 0xA0030 → ¬ scopeReg (tileBase t + c) := tile_apart t
  have hsub : ¬ scopeReg (R.OME_SUB t) := ht _ (by decide) (by decide)
  unfold State.showDetention
  extract_lets d set row firstRow rows line wd s1 sub s2 s3 dead
  have hs : ∀ (s : State) (a b : Fld) (c : Nat) (d : Option Nat), ¬ scopeReg a.off → ¬ scopeReg b.off → Steady z s → Steady z (sub a b c d s) := by
    intro s a b c d ha hb hs
    simp only [sub]
    split
    · exact hs.setFs _ ⟨ha, hb⟩
    · refine Steady.ite (hs.setFs _ ?_) hs
      exact ⟨ha, hb⟩
  have h1 : Steady z s1 := h.setFs _ ⟨ht _ (by decide) (by decide), ht _ (by decide) (by decide), ht _ (by decide) (by decide), ht _ (by decide) (by decide),
    ht _ (by decide) (by decide)⟩
  have h2 : Steady z s2 := hs _ _ _ _ _ hsub hsub (hs _ _ _ _ _ hsub hsub (hs _ _ _ _ _ hsub hsub h1))
  have h3 : Steady z s3 := (h2.setF (x := F.OME_STAT_DEGRADED t) (ht _ (by decide) (by decide)) _).each_mem _ _ fun i hi s hs =>
    hs.setF (x := F.BLK_DET_PORT_LANES t i) (detPort_apart t (List.mem_range.1 hi)) _
  exact (h3.each_mem _ _ fun pl hpl s hs => hs.setF (x := F.CROWN_PLANE_DETENTION t pl) (plane_apart t (List.mem_range.1 hpl)) _).updOme t _

theorem Steady.reapplyDetention (h : Steady z s) (t : Nat) : Steady z (s.reapplyDetention t) := (h.showDetention t).markDead t _ _

theorem Steady.loadUcode (h : Steady z s) (t : Nat) : Steady z (s.loadUcode t) := by
  unfold State.loadUcode
  extract_lets new slot s1 mixed s2
  have h2 : Steady z s2 := (h.updSec _).setB (x := F.SEC_STAT_UCODE_MIXED) (module_apart (by decide) (by decide)) _
  clear_value s2
  exact Steady.ite (((h2.wr (module_apart (by decide) (by decide)) 0).wr (module_apart (by decide) (by decide)) 0).updSec _) h2

/-! ### The start -/

theorem Steady.startTile (h : Steady z s) (t : Nat) : Steady z (s.startTile t) := by
  have ht : ∀ c : Nat, c < 0x100000 → c ≠ 0xA0030 → ¬ scopeReg (tileBase t + c) := tile_apart t
  have hb : ∀ e : Nat, e < 2 → ¬ scopeReg (R.BRIM_STAT t e) := fun e he => by
    unfold R.BRIM_STAT
    exact own_apart t (by omega) (by omega) (by omega)
  unfold State.startTile
  extract_lets subMap brim s1 s2 safe test lit own s3 s4 s5 l0 s6 s7 s8 s9 s10
  have h2 : Steady z s2 := (((h.tileDefaults t).wr (ht _ (by decide) (by decide)) _).wr (hb 0 (by decide)) _).wr (hb 1 (by decide)) _
  have hlit : ∀ s : State, Steady z s → Steady z (lit s) := fun s hs => hs.ite (hs.lightTile t)
  clear_value s2 lit
  have h3 : Steady z s3 := (hlit _ ((h2.ite (h2.loadUcode t)).updPh t _)).updOme t _
  clear_value s3
  have h4 : Steady z s4 := (h3.reapplyDetention t).setF (x := F.CROWN_STAT_STATE t) (ht _ (by decide) (by decide)) _
  clear_value s4
  have h5 : Steady z s5 := h4.updBl t _
  clear_value s5
  have h6 : Steady z s6 := h5.each _ _ fun s p hs => by
    extract_lets dark s1
    have h1 : Steady z s1 := by
      refine (Steady.setFs hs _ ?_).updLink p _
      exact ⟨port_apart p _ (by decide), eye_apart t (Nat.mod_lt _ (by decide))⟩
    exact h1.ite (h1.emit _)
  clear_value s6
  have h7 : Steady z s7 := by
    refine h6.ite (Steady.ite (Steady.copyLost (h6.setFs _ ?_) t) (h6.memStart t))
    exact ⟨ht _ (by decide) (by decide), ht _ (by decide) (by decide)⟩
  clear_value s7
  have h8 : Steady z s8 := (h7.setF (x := F.OME_STAT_STATE t) (ht _ (by decide) (by decide)) _).ite (h7.ite (h7.omeStart t))
  clear_value s8
  have h9 : Steady z s9 := h8.ite (h8.startUpRuns t)
  clear_value s9
  have h10 : Steady z s10 := by
    simp only [s10]
    split
    · exact h9.sublinksUp _
    · exact h9
  clear_value s10
  have h11 : Steady z { s10 with therm := Map.del t s10.therm } := h10.of_same rfl rfl rfl rfl
  exact (h11.syncDuty t).rewriteDist

theorem Steady.liftFences (h : Steady z s) (t : Nat) : Steady z (s.liftFences t) := by
  refine h.each _ _ fun s k hs => ?_
  extract_lets g s1
  have h1 : Steady z s1 := hs.setFence _ _
  exact Steady.ite (h1.updLink _ _) h1

theorem Steady.recoverTile (h : Steady z s) (t : Nat) : Steady z (s.recoverTile t) := by
  have hc : ¬ scopeReg (R.TILE_RST_CAUSE t) := tile_apart _ _ (by decide) (by decide)
  unfold State.recoverTile
  extract_lets s1
  have h1 : Steady z s1 := (((h.liftFences t).clearCache t).dropSleep t).crownRestart t
  clear_value s1
  refine Steady.setFs (h1.startTile t) _ ?_
  exact ⟨hc, hc, tile_apart _ _ (by decide) (by decide)⟩

end

end Sys2Proof.Machine
end
section
/-! SUPPORT. The fault state of a scope: SAFE, the end of QUIET and the recovery (R407 to R413). -/

namespace Sys2Proof.Machine

section
variable {z s u : State}

/-! ### A scope's own fields -/

theorem Steady.state (h : Steady z s) (sc : Scope) : entersOnly (z.f sc.stateF) (s.f sc.stateF) := by
  cases sc with
  | tile t => exact h.tile t.val
  | module => exact h.module

theorem Steady.cnt (h : Steady z s) (sc : Scope) : s.f sc.cntF = z.f sc.cntF := by
  cases sc with
  | tile t => exact h.tileCnt t.val
  | module => exact h.moduleCnt

/-- A scope out of NORMAL stays as it is. -/
theorem Steady.state_eq (h : Steady z s) {sc : Scope} {v : Nat} (hz : z.f sc.stateF = v) (hv : v ≠ 0) : s.f sc.stateF = v := by
  rcases h.state sc with hs | ⟨h0, _⟩
  · exact hs.trans hz
  · exact absurd (hz.symm.trans h0) hv

theorem scope_stateF_fits (sc : Scope) : sc.stateF.lo + sc.stateF.width ≤ 32 ∧ sc.stateF.width = 3 := by
  cases sc <;> exact ⟨by simp [Scope.stateF, F.FSTATE_STATE, F.MFSTATE_STATE], rfl⟩

theorem scope_cntF_fits (sc : Scope) : sc.cntF.lo + sc.cntF.width ≤ 32 ∧ sc.cntF.width = 8 := by
  cases sc <;> exact ⟨by simp [Scope.cntF, F.FSTATE_RECOV_CNT, F.MFSTATE_RECOV_CNT], rfl⟩

theorem State.setStateF_same (h : s.canonical) (sc : Scope) {v : Nat} (hv : v < 8) : (s.setF sc.stateF v).f sc.stateF = v := by
  rw [State.f_setF_same h.rising _ _ (scope_stateF_fits sc).1, (scope_stateF_fits sc).2]
  exact Nat.mod_eq_of_lt hv

theorem scope_apart (sc : Scope) : sc.stateF.apart sc.hourF ∧ sc.stateF.apart sc.cntF ∧ sc.cntF.apart sc.stateF := by
  cases sc <;> simp [Fld.apart, Scope.stateF, Scope.hourF, Scope.cntF, F.FSTATE_STATE, F.FSTATE_RECOV_HOUR, F.FSTATE_RECOV_CNT, F.MFSTATE_STATE,
    F.MFSTATE_RECOV_HOUR, F.MFSTATE_RECOV_CNT]

theorem apart_faultN (sc : Scope) : sc.stateF.apart F.MFSTATE_FAULT_N ∧ sc.cntF.apart F.MFSTATE_FAULT_N := by
  cases sc with
  | tile t =>
    have hne : R.FSTATE t.val ≠ R.MFSTATE := by
      simp only [R.FSTATE, R.MFSTATE, tileBase]
      omega
    exact ⟨.inl hne, .inl hne⟩
  | module => exact ⟨by decide, by decide⟩

theorem State.syncHour_canonical (h : s.canonical) (sc : Scope) : (s.syncHour sc).canonical := State.setF_canonical h _ _

theorem State.syncHour_state (h : s.canonical) (sc : Scope) : (s.syncHour sc).f sc.stateF = s.f sc.stateF := State.f_setF_ne h (scope_apart sc).1 _

/-! ### FAULT_N -/

theorem State.syncFaultN_canonical (h : s.canonical) : s.syncFaultN.canonical := ((Kept.refl s).syncFaultN).2 h

theorem State.syncFaultN_f (h : s.canonical) {y : Fld} (hy : y.apart F.MFSTATE_FAULT_N) : s.syncFaultN.f y = s.f y := by
  unfold State.syncFaultN
  dsimp only
  split
  · rfl
  · exact State.f_setF_ne h hy _

/-- FAULT_N is low while a scope is out of NORMAL. -/
theorem State.syncFaultN_low (h : s.canonical) {sc : Scope} (hs : s.f sc.stateF ≠ 0) : s.syncFaultN.f F.MFSTATE_FAULT_N = 1 := by
  have hlow : (s.f F.MFSTATE_STATE != 0 || allTiles.any (fun t => s.f (F.FSTATE_STATE t) != 0)) = true := by
    cases sc with
    | tile t =>
      rw [Bool.or_eq_true, List.any_eq_true]
      exact .inr ⟨t.val, List.mem_range.2 t.isLt, bne_iff_ne.2 hs⟩
    | module =>
      rw [Bool.or_eq_true]
      exact .inl (bne_iff_ne.2 hs)
  have hlt : s.f F.MFSTATE_FAULT_N < 2 := Nat.mod_lt _ (by decide)
  unfold State.syncFaultN
  dsimp only
  rw [hlow]
  split
  · next hb =>
    have hne : s.f F.MFSTATE_FAULT_N ≠ 0 := bne_iff_ne.1 hb
    omega
  · exact State.f_setB_same h F.MFSTATE_FAULT_N true (by decide) rfl

/-! ### SAFE entered (R407, R409) -/

theorem Steady.beginCondense (h : Steady z s) : Steady z s.beginCondense := by
  have hc : s.beginCondense.canonical := ((Kept.refl s).beginCondense).2 h.canonical
  exact h.leaves hc fun off ho => s.beginCondense_keeps off fun hm => log_apart off (List.mem_append_left _ hm) ho

/-- The sites of a module that entered SAFE, down unless they are fenced. -/
def State.sitesSafe (s : State) (sc : Scope) : State :=
  if sc = .module then s.each [0, 1] (fun s n => if (s.st n).fenced then s else s.siteDown n 0) else s

theorem Steady.sitesSafe (h : Steady z s) (sc : Scope) : Steady z (s.sitesSafe sc) :=
  Steady.ite (h.each _ _ fun _ n hs => hs.ite (hs.siteDown n 0)) h

/-- What the Proctor does once a scope is SAFE, up to its condensation. -/
def State.safeWork (s : State) (sc : Scope) (src : Nat) : State :=
  ((((s.each sc.tiles (fun s t => s.stopTile t (some src))).sitesSafe sc).record .safeEntered 3 sc.target src).rewriteDist)

theorem Steady.safeWork (h : Steady z s) (sc : Scope) (src : Nat) : Steady z (s.safeWork sc src) :=
  (((h.each _ _ fun _ t hs => hs.stopTile t _).sitesSafe sc).record _ _ _ _).rewriteDist

theorem exec_safeEntered {sc : Scope} (h : s.f sc.stateF = 1) :
    ∃ w : State, w = (((s.setF sc.stateF 2).syncFaultN).safeWork sc (s.faultDetail (Map.find sc.key s.faults.cause))).beginCondense ∧
      exec (.safeEntered sc) s = .next { w with report := { w.report with critFirst := true } } := by
  refine ⟨_, rfl, ?_⟩
  show execSafeEntered sc s = _
  unfold execSafeEntered State.safeWork State.sitesSafe
  rw [if_neg (not_not.2 h)]

/-- SAFE_ENTERED leads from REACT to SAFE, drives FAULT_N and starts a condensation. -/
theorem safeEntered_spec {sc : Scope} (hc : s.canonical) (h : s.f sc.stateF = 1) : ∃ u : State, exec (.safeEntered sc) s = .next u ∧ u.f sc.stateF = 2 ∧
    u.f F.MFSTATE_FAULT_N = 1 ∧ u.report.condensing = true ∧ u.report.critFirst = true := by
  obtain ⟨w, hw, he⟩ := exec_safeEntered h
  generalize s.faultDetail (Map.find sc.key s.faults.cause) = src at hw
  have h1 : (s.setF sc.stateF 2).canonical := State.setF_canonical hc _ _
  have h2 : (s.setF sc.stateF 2).f sc.stateF = 2 := State.setStateF_same hc sc (by decide)
  generalize s.setF sc.stateF 2 = a at h1 h2 hw
  have hk : a.syncFaultN.canonical := State.syncFaultN_canonical h1
  have hs : a.syncFaultN.f sc.stateF = 2 := (State.syncFaultN_f h1 (apart_faultN sc).1).trans h2
  have hn : a.syncFaultN.f F.MFSTATE_FAULT_N = 1 := State.syncFaultN_low h1 (sc := sc) (by omega)
  generalize a.syncFaultN = b at hk hs hn hw
  have hsw := (Steady.refl hk).safeWork sc src
  generalize b.safeWork sc src = c at hsw hw
  have hst := hsw.beginCondense
  have hcond : c.beginCondense.report.condensing = true := by rw [State.beginCondense_report]
  rw [← hw] at hst hcond
  exact ⟨_, he, hst.state_eq hs (by decide), hst.faultN.trans hn, hcond, rfl⟩

/-! ### The end of QUIET (R410, R411) -/

theorem Steady.sitesExit (h : Steady z s) (sc : Scope) : Steady z (s.sitesExit sc) := by
  cases sc with
  | tile t => exact h
  | module => exact (h.siteStart 0).siteStart 1

/-- A scope held: its tiles' duties move. -/
def State.heldWork (s : State) (sc : Scope) : State := (s.each sc.tiles State.moveDuties).rewriteDist

theorem Steady.heldWork (h : Steady z s) (sc : Scope) : Steady z (s.heldWork sc) := (h.each _ _ fun _ t hs => hs.moveDuties t).rewriteDist

/-- A scope in EXIT with its recoveries shown. -/
def State.exitBegun (s : State) (sc : Scope) : State :=
  (({ s with faults := { s.faults with exits := Map.put sc.key (s.bell :: s.recovHour sc) s.faults.exits } } : State).setF sc.stateF 3).syncHour sc

theorem exec_quietTimerExpiry {sc : Scope} (h : s.f sc.stateF = 2) (hq : s.quietOver sc = true) : exec (.quietTimerExpiry sc) s =
    .next (if s.f F.MFCTL_RECOV_MAX ≤ (s.recovHour sc).length then (((s.setF sc.stateF 4).record .heldEntered 3 sc.target).syncHour sc).heldWork sc
      else (s.exitBegun sc).sitesExit sc) := by
  show execQuietTimerExpiry sc s = _
  unfold execQuietTimerExpiry
  rw [if_neg (by simp [h, hq])]
  dsimp only
  split <;> rfl

theorem State.exitBegun_spec (hc : s.canonical) (sc : Scope) : (s.exitBegun sc).canonical ∧ (s.exitBegun sc).f sc.stateF = 3 := by
  have hk : ({ s with faults := { s.faults with exits := Map.put sc.key (s.bell :: s.recovHour sc) s.faults.exits } } : State).canonical :=
    ((Steady.refl hc).faults { s.faults with exits := Map.put sc.key (s.bell :: s.recovHour sc) s.faults.exits }).canonical
  unfold State.exitBegun
  generalize ({ s with faults := { s.faults with exits := Map.put sc.key (s.bell :: s.recovHour sc) s.faults.exits } } : State) = a at hk
  have h1 := State.setF_canonical hk sc.stateF 3
  exact ⟨State.syncHour_canonical h1 sc, (State.syncHour_state h1 sc).trans (State.setStateF_same hk sc (by decide))⟩

/-- QUIET_TIMER_EXPIRY leads to EXIT, or to HELD at RECOV_MAX recoveries within the hour. -/
theorem quietTimerExpiry_spec {sc : Scope} (hc : s.canonical) (h : s.f sc.stateF = 2) (hq : s.quietOver sc = true) :
    ∃ u : State, exec (.quietTimerExpiry sc) s = .next u ∧ u.f sc.stateF = (if s.f F.MFCTL_RECOV_MAX ≤ (s.recovHour sc).length then 4 else 3) := by
  refine ⟨_, exec_quietTimerExpiry h hq, ?_⟩
  split
  · have h1 := State.setF_canonical hc sc.stateF 4
    have h2 := State.setStateF_same hc sc (v := 4) (by decide)
    have h3 := (Steady.refl h1).record .heldEntered 3 sc.target 0
    have h4 := h3.state_eq h2 (by decide)
    generalize (s.setF sc.stateF 4).record .heldEntered 3 sc.target = a at h3 h4
    exact ((Steady.refl (State.syncHour_canonical h3.canonical sc)).heldWork sc).state_eq ((State.syncHour_state h3.canonical sc).trans h4) (by decide)
  · obtain ⟨h1, h2⟩ := State.exitBegun_spec hc sc
    exact ((Steady.refl h1).sitesExit sc).state_eq h2 (by decide)

end

end Sys2Proof.Machine
end
section
/-! SUPPORT. FAULT_RECOVERY_DONE: the scope NORMAL, its recovery counted and its tiles started again (R410, R413). -/

namespace Sys2Proof.Machine

section
variable {z s u : State}

/-- The module's recovery takes the tiles with it whose own QUIET has run. -/
def State.tilesNormal (s : State) : Scope → State
  | .tile _ => s
  | .module => s.each allTiles (fun s t =>
      if s.f (F.FSTATE_STATE t) = 2 && s.quietOver (.tile (Fin.ofNat 48 t)) then s.setF (F.FSTATE_STATE t) 0 else s)

/-- The scope NORMAL and its recovery counted. -/
def State.scopeNormal (s : State) (sc : Scope) : State := ((s.setF sc.stateF 0).bump sc.cntF).tilesNormal sc

/-- The tiles of a scope that are free to start, started. -/
def State.tilesRecovered (s : State) (sc : Scope) : State := s.each (sc.tiles.filter (fun t => !s.gated t)) State.recoverTile

/-- The end of a recovery, recorded. -/
def State.exitRecorded (s : State) (sc : Scope) : State := s.record .exitDone 2 sc.target (s.recovHour sc).length

theorem exec_faultRecoveryDone {sc : Scope} (h : s.f sc.stateF = 3) :
    exec (.faultRecoveryDone sc) s = .next ((((s.scopeNormal sc).tilesRecovered sc).exitRecorded sc).syncFaultN).adoptFree := by
  show execFaultRecoveryDone sc s = _
  unfold execFaultRecoveryDone State.exitRecorded State.tilesRecovered State.scopeNormal State.tilesNormal
  refine (if_neg (not_not.2 h)).trans ?_
  cases sc <;> rfl

theorem State.tilesNormal_spec (hc : s.canonical) (sc : Scope) :
    (s.tilesNormal sc).canonical ∧ (s.tilesNormal sc).f sc.stateF = s.f sc.stateF ∧ (s.tilesNormal sc).f sc.cntF = s.f sc.cntF := by
  cases sc with
  | tile t => exact ⟨hc, rfl, rfl⟩
  | module =>
    have hf : ∀ y : Fld, y.off = R.MFSTATE → (s.tilesNormal .module).f y = s.f y := fun y hy => by
      unfold State.tilesNormal
      refine State.each_keeps (fun u => u.f y) s _ _ fun t u => ?_
      split
      · refine State.f_setF_off (x := F.FSTATE_STATE t) ?_ 0
        rw [hy]
        simp only [F.FSTATE_STATE, R.FSTATE, R.MFSTATE, tileBase]
        omega
      · rfl
    refine ⟨?_, hf _ rfl, hf _ rfl⟩
    unfold State.tilesNormal
    refine (Kept.each (Kept.refl s) _ _ fun u t hu => ?_).2 hc
    exact Kept.ite (hu.setF _ _) hu

theorem State.scopeNormal_spec (hc : s.canonical) (sc : Scope) : (s.scopeNormal sc).canonical ∧ (s.scopeNormal sc).f sc.stateF = 0 ∧
    (s.scopeNormal sc).f sc.cntF = min (s.f sc.cntF + 1) 255 := by
  have h1 := State.setF_canonical hc sc.stateF 0
  have h0 := State.setStateF_same hc sc (v := 0) (by decide)
  have hc0 : (s.setF sc.stateF 0).f sc.cntF = s.f sc.cntF := State.f_setF_ne hc (scope_apart sc).2.2 0
  unfold State.scopeNormal
  generalize s.setF sc.stateF 0 = a at h1 h0 hc0
  have h2 : (a.bump sc.cntF).canonical := State.setF_canonical h1 _ _
  have hst : (a.bump sc.cntF).f sc.stateF = a.f sc.stateF := State.f_setF_ne h1 (scope_apart sc).2.1 _
  have hcnt : (a.bump sc.cntF).f sc.cntF = min (a.f sc.cntF + 1) 255 := by
    refine (State.f_setF_same h1.rising _ _ (scope_cntF_fits sc).1).trans ?_
    rw [(scope_cntF_fits sc).2]
    exact Nat.mod_eq_of_lt (by omega)
  generalize a.bump sc.cntF = b at h2 hst hcnt
  obtain ⟨hcan, ht, hk⟩ := State.tilesNormal_spec h2 sc
  exact ⟨hcan, ht.trans (hst.trans h0), hk.trans (hcnt.trans (by rw [hc0]))⟩

theorem Steady.tilesRecovered (h : Steady z s) (sc : Scope) : Steady z (s.tilesRecovered sc) := h.each _ _ fun _ t hs => hs.recoverTile t

/-- What a recovery leaves of its scope. -/
theorem recovered_scope {a b : State} {sc : Scope} (h : Steady a b) (h0 : a.f sc.stateF = 0) :
    b.syncFaultN.adoptFree.f sc.stateF ≠ 3 ∧ b.syncFaultN.adoptFree.f sc.cntF = a.f sc.cntF := by
  have hfree := (Steady.refl (State.syncFaultN_canonical h.canonical)).adoptFree
  have hstate := hfree.state sc
  have hcnt := hfree.cnt sc
  rw [State.syncFaultN_f h.canonical (apart_faultN sc).1] at hstate
  rw [State.syncFaultN_f h.canonical (apart_faultN sc).2, h.cnt sc] at hcnt
  have hb := h.state sc
  refine ⟨?_, hcnt⟩
  unfold entersOnly at hb hstate
  omega

/-- A tile that recovered is in A0 with its cause. -/
theorem State.recoverTile_shown (hc : s.canonical) (t : Nat) :
    (s.recoverTile t).f (F.TILE_RST_CAUSE_LAST t) = 2 ∧ (s.recoverTile t).f (F.TILE_PWR_STAT_STATE t) = 0 := by
  have hne : R.TILE_RST_CAUSE t ≠ R.TILE_PWR_STAT t := by
    simp only [R.TILE_RST_CAUSE, R.TILE_PWR_STAT]
    omega
  unfold State.recoverTile
  extract_lets s1
  have h1 := (((((Kept.refl s).liftFences t).clearCache t).dropSleep t).crownRestart t).2 hc
  have h2 : (s1.startTile t).canonical := ((Kept.refl s1).startTile t).2 h1
  generalize s1.startTile t = w at h2
  refine ⟨(State.f_setFs_at h2 [(F.TILE_RST_CAUSE_LAST t, 2), (F.TILE_RST_CAUSE_COUNT t, min (s.f (F.TILE_RST_CAUSE_COUNT t) + 1) 0xFFFF),
    (F.TILE_PWR_STAT_STATE t, 0)] 0 rfl (by simp [F.TILE_RST_CAUSE_LAST]) ?_).trans (by rfl), (State.f_setFs_at h2
    [(F.TILE_RST_CAUSE_LAST t, 2), (F.TILE_RST_CAUSE_COUNT t, min (s.f (F.TILE_RST_CAUSE_COUNT t) + 1) 0xFFFF), (F.TILE_PWR_STAT_STATE t, 0)] 2 rfl
    (by simp [F.TILE_PWR_STAT_STATE]) (by simp)).trans (by rfl)⟩
  simp [Fld.apart, F.TILE_RST_CAUSE_LAST, F.TILE_RST_CAUSE_COUNT, F.TILE_PWR_STAT_STATE, hne]

/-- The end of a recovery leaves a tile's power state and its reset cause. -/
theorem State.recoveryEnd_f (hc : s.canonical) (sc : Scope) {t c : Nat} (ht : c = 0x1004 ∨ c = 0x1008) {y : Fld} (hy : y.off = tileBase t + c) :
    (s.exitRecorded sc).syncFaultN.adoptFree.f y = s.f y := by
  have hlog : Logged s (s.exitRecorded sc) := (Logged.refl s).record _ _ _ _
  have hcan : (s.exitRecorded sc).canonical := ((Kept.refl s).record _ _ _ _).2 hc
  have hout : y.off ∉ logRegs := fun hm => by
    have hall : ∀ a ∈ logRegs, a < 0x100000 := by decide
    have := hall _ hm
    unfold tileBase at hy
    omega
  have hmf : y.off ≠ R.MFSTATE := by
    rw [hy]
    simp only [R.MFSTATE, tileBase]
    omega
  have hfree : (s.exitRecorded sc).syncFaultN.adoptFree.rd y.off = (s.exitRecorded sc).syncFaultN.rd y.off := by
    rw [hy]
    exact State.adoptFree_rd _ ht
  exact (State.f_of_rd hfree).trans ((State.syncFaultN_f hcan (.inl hmf)).trans (State.f_of_rd (hlog.2 _ hout)))

/-- A tile whose module is NORMAL starts again. -/
theorem State.tilesRecovered_tile (hc : s.canonical) (n : Tile) (hm : s.f F.MFSTATE_STATE = 0) :
    (s.scopeNormal (.tile n)).tilesRecovered (.tile n) = (s.scopeNormal (.tile n)).recoverTile n.val := by
  obtain ⟨_, hst, _⟩ := State.scopeNormal_spec hc (.tile n)
  have hmod : (s.scopeNormal (.tile n)).f F.MFSTATE_STATE = 0 := by
    have hne : R.MFSTATE ≠ R.FSTATE n.val := by
      simp only [R.FSTATE, R.MFSTATE, tileBase]
      omega
    exact (State.f_setF_off hne _).trans ((State.f_setF_off hne 0).trans hm)
  unfold State.tilesRecovered
  generalize s.scopeNormal (.tile n) = a at hst hmod
  have hg : a.gated n.val = false := by
    unfold State.gated
    rw [show a.f (F.FSTATE_STATE n.val) = 0 from hst, hmod]
    rfl
  have hl : Scope.tiles (.tile n) = [n.val] := rfl
  rw [hl, List.filter_cons, hg]
  rfl

/-- FAULT_RECOVERY_DONE ends EXIT, counts the recovery and starts a tile whose module is NORMAL. -/
theorem faultRecoveryDone_spec {sc : Scope} (hc : s.canonical) (h : s.f sc.stateF = 3) : ∃ u : State, exec (.faultRecoveryDone sc) s = .next u ∧
    u.f sc.stateF ≠ 3 ∧ u.f sc.cntF = min (s.f sc.cntF + 1) 255 ∧
    ∀ n : Tile, sc = .tile n → s.f F.MFSTATE_STATE = 0 → u.f (F.TILE_RST_CAUSE_LAST n.val) = 2 ∧ u.f (F.TILE_PWR_STAT_STATE n.val) = 0 := by
  obtain ⟨hcan, h0, hcnt⟩ := State.scopeNormal_spec hc sc
  have hrec := ((Steady.refl hcan).tilesRecovered sc).record .exitDone 2 sc.target (((s.scopeNormal sc).tilesRecovered sc).recovHour sc).length
  obtain ⟨hne, hk⟩ := recovered_scope hrec h0
  refine ⟨_, exec_faultRecoveryDone h, hne, hk.trans hcnt, ?_⟩
  rintro n rfl hm
  rw [State.tilesRecovered_tile hc n hm]
  have hw := ((Kept.refl _).recoverTile n.val).2 hcan
  obtain ⟨hlast, hpwr⟩ := State.recoverTile_shown hcan n.val
  generalize (s.scopeNormal (.tile n)).recoverTile n.val = w at hw hlast hpwr
  exact ⟨(State.recoveryEnd_f hw _ (.inr rfl) rfl).trans hlast, (State.recoveryEnd_f hw _ (.inl rfl) rfl).trans hpwr⟩

end

end Sys2Proof.Machine
end
section
/-! SUPPORT. The commands of group 0x08 (R404, R405, R411, R420). -/

namespace Sys2Proof.Machine

section
variable {s b u : State} {p : Packet} {o : Nat}

/-! ### What ACCEPTED leaves alone, and what an accepted packet holds -/

/-- ACCEPTED writes a queue's status alone, and no fault state (R55). -/
theorem State.begun_shown (s : State) (p : Packet) :
    (s.begun p).faults = s.faults ∧ ∀ y : Fld, (∀ q, y.off ≠ R.Q_STAT q) → (s.begun p).f y = s.f y := by
  have hring : ∀ q r, (s.ringWrite q r).faults = s.faults ∧ ∀ y : Fld, (∀ q, y.off ≠ R.Q_STAT q) → (s.ringWrite q r).f y = s.f y := fun q r => by
    have hstored : ((s.ringStored q r).showFull q).faults = s.faults ∧
        ∀ y : Fld, (∀ q, y.off ≠ R.Q_STAT q) → ((s.ringStored q r).showFull q).f y = s.f y :=
      ⟨rfl, fun y hy => (State.f_setF_off (hy q) _).trans ((State.updQu_f ..).trans (State.f_setF_off (hy q) _))⟩
    generalize hw : (s.ringStored q r).showFull q = w at hstored
    obtain h | ⟨e, h⟩ := s.ringWrite_eq q r
    · rw [h, hw]
      exact hstored
    · rw [h, hw, State.emit_faults]
      exact ⟨hstored.1, fun y hy => (State.emit_f ..).trans (hstored.2 y hy)⟩
  have hsame : ∀ t : State, t.faults = s.faults → t.regs = s.regs → t.faults = s.faults ∧ ∀ y : Fld, (∀ q, y.off ≠ R.Q_STAT q) → t.f y = s.f y :=
    fun t hf hr => ⟨hf, fun y _ => State.f_of_regs hr y⟩
  have hsend : ∀ path r, (s.sendReply path r).faults = s.faults ∧ ∀ y : Fld, (∀ q, y.off ≠ R.Q_STAT q) → (s.sendReply path r).f y = s.f y := fun path r => by
    unfold State.sendReply
    split
    · split
      · exact hsame s rfl rfl
      · split
        · exact ⟨rfl, fun y hy => (State.f_setF_off (hy _) _).trans (State.updQu_f ..)⟩
        · exact hring ..
    · exact hsame _ rfl rfl
    · split
      · exact hsame _ rfl rfl
      · exact hsame s rfl rfl
    · split
      · exact hsame _ rfl rfl
      · exact hsame s rfl rfl
    · exact hsame _ rfl rfl
    · exact hsame s rfl rfl
  unfold State.begun State.post
  split
  · split
    · exact hsame _ rfl rfl
    · exact hsend ..
  · exact hsame s rfl rfl

/-- A packet that passes the checks of R58 passes its generic ones. -/
theorem State.verdict_generic {d : CmdDef} (h : s.verdict d p o = none) : s.genericPar d p = none := by
  have hearly : s.early d p o (d.code / 256) = none := by
    unfold State.verdict at h
    cases he : s.early d p o (d.code / 256) with
    | none => rfl
    | some r => simp only [he, reduceCtorEq] at h
  have hfields : s.verdict6 d p o = none := by
    unfold State.early at hearly
    grind
  unfold State.verdict6 at hfields
  grind

/-- TARGET names a unit of its kind. -/
theorem State.verdict_unit {d : CmdDef} (h : s.verdict d p o = none) : p.unit < unitCount p.kind := by
  have hg := State.verdict_generic h
  unfold State.genericPar at hg
  have ht : s.targetOk d.kinds p = true := by grind
  unfold State.targetOk at ht
  grind

theorem scopeOf_tile (hk : p.kind = 1) : scopeOf p = .tile (Fin.ofNat 48 p.unit) := if_pos hk

theorem scopeOf_module (hk : p.kind = 0) : scopeOf p = .module := if_neg (by omega)

/-! ### FAULT_STATUS and FAULT_CLEAR (R420) -/

theorem faultStatus_act (hr : s.accepts faultStatusDef p o) {bs : List Byte}
    (hact : faultStatusDef.act (s.begun p) p o (s.begun p).proctor.nextId = .now ((s.begun p).syncHour (scopeOf p)) stOk 0 bs []) :
    exec (.faultStatus p) s = .next (((s.begun p).syncHour (scopeOf p)).replies p bs) := by
  have hrun := runCmd_accepted hr
  rw [hact] at hrun
  rw [exec_command rfl (by decide), hrun]
  exact congrArg _ (State.conclude_plain _ rfl (by decide))

theorem faultStatus_tile (hr : s.accepts faultStatusDef p o) (hk : p.kind = 1) : let v := (s.begun p).syncHour (scopeOf p)
    exec (.faultStatus p) s = .next (v.replies p ([R.FSW_LO p.unit, R.FSW_HI p.unit, R.FLVL_LO p.unit, R.FLVL_HI p.unit, R.FFIRST p.unit,
      R.FFIRST_BELL_LO p.unit, R.FFIRST_BELL_HI p.unit, R.FSTATE p.unit].flatMap (fun off => leBytes 4 (v.rd off).toNat))) := by
  refine faultStatus_act hr (congrArg (fun r => Effect.now _ stOk 0 r []) ((if_pos hk).trans ?_))
  simp only [List.flatMap_cons, List.flatMap_nil, List.append_nil, List.append_assoc]

theorem faultStatus_module (hr : s.accepts faultStatusDef p o) (hk : p.kind = 0) : let v := (s.begun p).syncHour (scopeOf p)
    exec (.faultStatus p) s = .next (v.replies p (leBytes 4 (v.rd R.MFSW_SRC).toNat ++ zeros 4 ++ leBytes 4 (v.rd R.MFLVL_SRC).toNat ++ zeros 4 ++
      [R.MFIRST, R.MFIRST_BELL_LO, R.MFIRST_BELL_HI, R.MFSTATE].flatMap (fun off => leBytes 4 (v.rd off).toNat))) := by
  refine faultStatus_act hr (congrArg (fun r => Effect.now _ stOk 0 r []) ((if_neg (by omega)).trans ?_))
  simp only [List.flatMap_cons, List.flatMap_nil, List.append_nil, List.append_assoc]

/-- Bits of a register cleared. -/
def State.clearBits (s : State) (off m : Nat) : State := s.wr off (s.rd off &&& ~~~ (BitVec.ofNat 32 m))

theorem State.clearBits_same (h : s.canonical) (off m : Nat) : (s.clearBits off m).rd off = s.rd off &&& ~~~ (BitVec.ofNat 32 m) := State.rd_wr_same h.rising _ _

theorem State.clearBits_ne {off a : Nat} (h : a ≠ off) (m : Nat) : (s.clearBits off m).rd a = s.rd a := State.rd_wr_ne h _

theorem State.clearBits_canonical (h : s.canonical) (off m : Nat) : (s.clearBits off m).canonical := ((Kept.refl s).wr _ _).2 h

/-- A first-source latch emptied: VALID 0, and no register but the latch's written. -/
theorem State.clearFirst_frame (h : s.canonical) (sc : Scope) {off : Nat}
    (hoff : off ∈ [R.MFSW_SRC, R.MFSW_TILE_LO, R.MFSW_TILE_HI] ∨ ∃ t, off = R.FSW_LO t ∨ off = R.FSW_HI t) : (s.clearFirst sc).rd off = s.rd off := by
  cases sc with
  | tile t =>
    obtain ⟨u, hu, -, -, -, -, -, -, hkeep⟩ := State.clearFirst_tile h t
    rw [hu]
    refine hkeep off ?_
    simp only [List.mem_cons, List.not_mem_nil, or_false] at hoff ⊢
    rcases hoff with (rfl | rfl | rfl) | ⟨k, rfl | rfl⟩ <;>
      simp only [R.MFSW_SRC, R.MFSW_TILE_LO, R.MFSW_TILE_HI, R.FSW_LO, R.FSW_HI, R.FFIRST, R.FFIRST_BELL_LO, R.FFIRST_BELL_HI, tileBase] <;> omega
  | module =>
    obtain ⟨u, hu, -, -, -, -, -, -, hkeep⟩ := State.clearFirst_module h
    rw [hu]
    refine hkeep off ?_
    simp only [List.mem_cons, List.not_mem_nil, or_false] at hoff ⊢
    rcases hoff with (rfl | rfl | rfl) | ⟨k, rfl | rfl⟩ <;>
      simp only [R.MFSW_SRC, R.MFSW_TILE_LO, R.MFSW_TILE_HI, R.FSW_LO, R.FSW_HI, R.MFIRST, R.MFIRST_BELL_LO, R.MFIRST_BELL_HI, tileBase] <;> omega

theorem State.clearFirst_onlyRegs (h : s.canonical) (sc : Scope) : s.onlyRegs (s.clearFirst sc) := by
  cases sc with
  | tile t =>
    obtain ⟨u, hu, -, -, -, -, -, honly, -⟩ := State.clearFirst_tile h t
    exact hu ▸ honly
  | module =>
    obtain ⟨u, hu, -, -, -, -, -, honly, -⟩ := State.clearFirst_module h
    exact hu ▸ honly

/-- The fault word's bits that FAULT_CLEAR names, cleared. -/
def State.wordCleared (s : State) (p : Packet) : State :=
  if p.kind = 1 then (s.clearBits (R.FSW_LO p.unit) (p.w 0)).clearBits (R.FSW_HI p.unit) (p.w 1) else s.clearBits R.MFSW_SRC (p.w 0)

/-- The first-source latch that FAULT_CLEAR names, emptied. -/
def State.latchCleared (s : State) (p : Packet) : State := if p.w 2 % 2 = 1 then s.clearFirst (scopeOf p) else s

/-- The tiles' bits of the module, cleared where FAULT_CLEAR asks for it. -/
def State.tilesCleared (s : State) (p : Packet) : State :=
  if p.kind = 0 && p.w 2 / 2 % 2 = 1 then (s.wr R.MFSW_TILE_LO 0).wr R.MFSW_TILE_HI 0 else s

theorem faultClear_exec (hr : s.accepts faultClearDef p o) : ∃ u : State, u = (((s.begun p).wordCleared p).latchCleared p).tilesCleared p ∧
    exec (.faultClear p) s = .next (u.conclude 0x801 o true p stOk 0 [] (paramChange p) (undoOf (s.begun p) u)) :=
  ⟨_, rfl, (exec_command rfl (by decide) s).trans (congrArg _ (runCmd_accepted hr))⟩

theorem State.latchCleared_rd (h : s.canonical) (p : Packet) {off : Nat}
    (hoff : off ∈ [R.MFSW_SRC, R.MFSW_TILE_LO, R.MFSW_TILE_HI] ∨ ∃ t, off = R.FSW_LO t ∨ off = R.FSW_HI t) : (s.latchCleared p).rd off = s.rd off := by
  unfold State.latchCleared
  split
  · exact State.clearFirst_frame h _ hoff
  · rfl

theorem State.onlyRegs.clearBits (h : s.onlyRegs u) (off m : Nat) : s.onlyRegs (u.clearBits off m) :=
  h.trans (rfl : u.onlyRegs (u.clearBits off m))

theorem State.wordCleared_onlyRegs (b : State) (p : Packet) : b.onlyRegs (b.wordCleared p) := by
  unfold State.wordCleared
  split
  · exact (State.onlyRegs.refl b).clearBits _ _ |>.clearBits _ _
  · exact (State.onlyRegs.refl b).clearBits _ _

theorem State.latchCleared_onlyRegs (h : s.canonical) (p : Packet) : s.onlyRegs (s.latchCleared p) := by
  unfold State.latchCleared
  split
  · exact State.clearFirst_onlyRegs h _
  · exact State.onlyRegs.refl s

theorem State.tilesCleared_onlyRegs (s : State) (p : Packet) : s.onlyRegs (s.tilesCleared p) := by
  unfold State.tilesCleared
  split
  · exact rfl
  · exact State.onlyRegs.refl s

theorem State.wordCleared_canonical (h : s.canonical) (p : Packet) : (s.wordCleared p).canonical := by
  unfold State.wordCleared
  split
  · exact State.clearBits_canonical (State.clearBits_canonical h _ _) _ _
  · exact State.clearBits_canonical h _ _

theorem State.latchCleared_canonical (h : s.canonical) (p : Packet) : (s.latchCleared p).canonical := by
  unfold State.latchCleared
  split
  · exact ((Kept.refl s).clearFirst _).2 h
  · exact h

/-- FAULT_CLEAR of a tile. -/
theorem State.cleared_tile (h : b.canonical) (hk : p.kind = 1) (hu : p.unit < 48) : let u := ((b.wordCleared p).latchCleared p).tilesCleared p
    u.rd (R.FSW_LO p.unit) = b.rd (R.FSW_LO p.unit) &&& ~~~ (BitVec.ofNat 32 (p.w 0)) ∧
    u.rd (R.FSW_HI p.unit) = b.rd (R.FSW_HI p.unit) &&& ~~~ (BitVec.ofNat 32 (p.w 1)) ∧ (p.w 2 = 1 → u.f (F.FFIRST_VALID p.unit) = 0) := by
  have hne : R.FSW_LO p.unit ≠ R.FSW_HI p.unit := by
    simp only [R.FSW_LO, R.FSW_HI]
    omega
  have h1 := State.clearBits_canonical h (R.FSW_LO p.unit) (p.w 0)
  have h2 := State.wordCleared_canonical h p
  have hw : b.wordCleared p = (b.clearBits (R.FSW_LO p.unit) (p.w 0)).clearBits (R.FSW_HI p.unit) (p.w 1) := if_pos hk
  have hlo : (b.wordCleared p).rd (R.FSW_LO p.unit) = b.rd (R.FSW_LO p.unit) &&& ~~~ (BitVec.ofNat 32 (p.w 0)) := by
    rw [hw, State.clearBits_ne hne, State.clearBits_same h]
  have hhi : (b.wordCleared p).rd (R.FSW_HI p.unit) = b.rd (R.FSW_HI p.unit) &&& ~~~ (BitVec.ofNat 32 (p.w 1)) := by
    rw [hw, State.clearBits_same h1, State.clearBits_ne hne.symm]
  generalize b.wordCleared p = w at h2 hlo hhi
  intro u
  have hu3 : u = w.latchCleared p := if_neg (by simp [hk])
  rw [hu3]
  refine ⟨(State.latchCleared_rd h2 p (.inr ⟨_, .inl rfl⟩)).trans hlo, (State.latchCleared_rd h2 p (.inr ⟨_, .inr rfl⟩)).trans hhi, fun hone => ?_⟩
  obtain ⟨x, hx, hv, -⟩ := State.clearFirst_tile h2 (Fin.ofNat 48 p.unit)
  have hval : (Fin.ofNat 48 p.unit).val = p.unit := Nat.mod_eq_of_lt hu
  rw [State.latchCleared, if_pos (by omega), scopeOf_tile hk, hx]
  rwa [hval] at hv

/-- FAULT_CLEAR of the module. -/
theorem State.cleared_module (h : b.canonical) (hk : p.kind = 0) (hw2 : p.w 2 ≤ 3) : let u := ((b.wordCleared p).latchCleared p).tilesCleared p
    u.rd R.MFSW_SRC = b.rd R.MFSW_SRC &&& ~~~ (BitVec.ofNat 32 (p.w 0)) ∧ (p.w 2 % 2 = 1 → u.f F.MFIRST_VALID = 0) ∧
    (2 ≤ p.w 2 → u.rd R.MFSW_TILE_LO = 0 ∧ u.rd R.MFSW_TILE_HI = 0) := by
  have h2 := State.wordCleared_canonical h p
  have hword : (b.wordCleared p).rd R.MFSW_SRC = b.rd R.MFSW_SRC &&& ~~~ (BitVec.ofNat 32 (p.w 0)) := by
    rw [State.wordCleared, if_neg (by omega), State.clearBits_same h]
  generalize b.wordCleared p = w at h2 hword
  have h3 := State.latchCleared_canonical h2 p
  have hsrc : (w.latchCleared p).rd R.MFSW_SRC = w.rd R.MFSW_SRC := State.latchCleared_rd h2 p (.inl (by simp))
  have hvalid : p.w 2 % 2 = 1 → (w.latchCleared p).f F.MFIRST_VALID = 0 := fun hodd => by
    obtain ⟨x, hx, hv, -⟩ := State.clearFirst_module h2
    rw [State.latchCleared, if_pos hodd, scopeOf_module hk, hx]
    exact hv
  generalize w.latchCleared p = v at h3 hsrc hvalid
  have hrd : ∀ off, off ≠ R.MFSW_TILE_LO → off ≠ R.MFSW_TILE_HI → (v.tilesCleared p).rd off = v.rd off := fun off hlo hhi => by
    unfold State.tilesCleared
    split
    · exact (State.rd_wr_ne hhi _).trans (State.rd_wr_ne hlo _)
    · rfl
  refine ⟨(hrd _ (by decide) (by decide)).trans (hsrc.trans hword), fun hodd => (State.f_of_rd (hrd _ (by decide) (by decide))).trans (hvalid hodd),
    fun htwo => ?_⟩
  have hif : (p.kind = 0 && p.w 2 / 2 % 2 = 1 : Bool) = true := by
    rw [hk, Bool.and_eq_true, decide_eq_true_eq, decide_eq_true_eq]
    omega
  rw [State.tilesCleared, if_pos hif]
  exact ⟨(State.rd_wr_ne (by decide) _).trans (State.rd_wr_same h3.rising _ _), State.rd_wr_same (State.wr_canonical h3 _ _).rising _ _⟩

theorem faultClear_clears (hr : s.accepts faultClearDef p o) (hc : s.canonical) : let b := s.begun p
    ∃ u : State, exec (.faultClear p) s = .next (u.conclude 0x801 o true p stOk 0 [] (paramChange p) (undoOf b u)) ∧
      (p.kind = 1 → u.rd (R.FSW_LO p.unit) = b.rd (R.FSW_LO p.unit) &&& ~~~ (BitVec.ofNat 32 (p.w 0)) ∧
        u.rd (R.FSW_HI p.unit) = b.rd (R.FSW_HI p.unit) &&& ~~~ (BitVec.ofNat 32 (p.w 1)) ∧ (p.w 2 = 1 → u.f (F.FFIRST_VALID p.unit) = 0)) ∧
      (p.kind = 0 → u.rd R.MFSW_SRC = b.rd R.MFSW_SRC &&& ~~~ (BitVec.ofNat 32 (p.w 0)) ∧ (p.w 2 % 2 = 1 → u.f F.MFIRST_VALID = 0) ∧
        (2 ≤ p.w 2 → u.rd R.MFSW_TILE_LO = 0 ∧ u.rd R.MFSW_TILE_HI = 0)) ∧ b.onlyRegs u := by
  intro b
  obtain ⟨u, hu, he⟩ := faultClear_exec hr
  have hb : b.canonical := State.begun_canonical hc p
  have hpar : faultClearDef.par s p o = none := State.verdict_par hr.2
  have hunit := State.verdict_unit hr.2
  have hwc := State.wordCleared_canonical hb p
  refine ⟨u, he, fun hk => ?_, fun hk => ?_, ?_⟩
  · rw [hk] at hunit
    rw [hu]
    exact State.cleared_tile hb hk hunit
  · have hw2 : p.w 2 ≤ 3 := by
      simp only [faultClearDef, hk] at hpar
      grind
    rw [hu]
    exact State.cleared_module hb hk hw2
  · rw [hu]
    exact ((State.wordCleared_onlyRegs b p).trans (State.latchCleared_onlyRegs hwc p)).trans (State.tilesCleared_onlyRegs _ p)

/-! ### FAULT_RELEASE, FAULT_UNFENCE and FAULT_INJECT (R404, R411, R420) -/

theorem scope_noQueue (sc : Scope) (q : Nat) : sc.stateF.off ≠ R.Q_STAT q := by
  cases sc with
  | tile t =>
    simp only [Scope.stateF, F.FSTATE_STATE, R.FSTATE, R.Q_STAT, tileBase]
    omega
  | module =>
    simp only [Scope.stateF, F.MFSTATE_STATE, R.MFSTATE, R.Q_STAT]
    omega

/-- A scope's recoveries within the hour forgotten. -/
def State.exitsForgotten (s : State) (sc : Scope) : State := { s with faults := { s.faults with exits := Map.del sc.key s.faults.exits } }

/-- A scope released from HELD. -/
def State.released (s : State) (sc : Scope) : State :=
  (((((s.exitsForgotten sc).setF sc.stateF 3).syncHour sc).sitesExit sc).record .faultRelease 1 sc.target)

theorem State.released_state (h : s.canonical) (sc : Scope) : (s.released sc).f sc.stateF = 3 := by
  have h0 : (s.exitsForgotten sc).canonical := ((Steady.refl h).faults _).canonical
  unfold State.released
  generalize s.exitsForgotten sc = a at h0
  have h1 := State.setF_canonical h0 sc.stateF 3
  have h2 := (State.syncHour_state h1 sc).trans (State.setStateF_same h0 sc (v := 3) (by decide))
  exact (((Steady.refl (State.syncHour_canonical h1 sc)).sitesExit sc).record _ _ _ _).state_eq h2 (by decide)

theorem faultRelease_exec (hr : s.accepts faultReleaseDef p o) : ∃ u : State, u = (s.begun p).released (scopeOf p) ∧
    exec (.faultRelease p) s = .next (u.conclude 0x802 o true p stOk 0 [] (paramChange p) (undoOf (s.begun p) u)) :=
  ⟨_, rfl, (exec_command rfl (by decide) s).trans (congrArg _ (runCmd_accepted hr))⟩

theorem faultRelease_held (hr : s.accepts faultReleaseDef p o) : (s.begun p).f (scopeOf p).stateF = 4 := by
  have hpre : (if s.f (scopeOf p).stateF = 4 then none else some (stState, s.f (scopeOf p).stateF)) = none := State.verdict_pre hr.2
  rw [(State.begun_shown s p).2 _ (scope_noQueue _)]
  by_contra hne
  rw [if_neg hne] at hpre
  cases hpre

theorem State.fence_setFence (s : State) (k : Nat) {g : Fence} (hg : g ≠ {}) : (s.setFence k g).fence k = g := by
  obtain ⟨v, hv⟩ := s.setFence_eq k g
  unfold State.fence
  rw [hv, State.setB_faults, Map.set, if_neg hg]
  exact congrArg (fun g : Option Fence => g.getD {}) (Map.find_put_same k _ _)

theorem faultUnfence_fenced (hr : s.accepts faultUnfenceDef p o) : ((s.begun p).fence ((scopeOf p).key * 64 + p.w 0)).on = true := by
  have hpre := State.verdict_pre hr.2
  have hf : (s.begun p).fence = s.fence := funext fun k => congrArg (fun f : FaultSt => Map.get ({} : Fence) f.fences k) (State.begun_shown s p).1
  rw [hf]
  by_contra hoff
  rw [Bool.not_eq_true] at hoff
  simp [faultUnfenceDef, hoff] at hpre

/-- A block's fence taken off by command. -/
def State.unfenced (s : State) (k : Nat) : State := s.setFence k { s.fence k with on := false, lifted := some s.bell }

theorem faultUnfence_exec (hr : s.accepts faultUnfenceDef p o) : let b := s.begun p
    let u := ((b.unfenced ((scopeOf p).key * 64 + p.w 0)).unfenceBlock (scopeOf p) (p.w 0)).adoptFree
    exec (.faultUnfence p) s = .next (u.conclude 0x803 o true p stOk 0 [] (paramChange p) (undoOf b u)) :=
  (exec_command rfl (by decide) s).trans (congrArg _ (runCmd_accepted hr))

theorem faultInject_exec (hr : s.accepts faultInjectDef p o) : let b := s.begun p
    let u := b.assertSource (scopeOf p) (p.w 0) false
    exec (.faultInject p) s = .next (u.conclude 0x804 o true p stOk 0 [] (paramChange p) (undoOf b u)) :=
  (exec_command rfl (by decide) s).trans (congrArg _ (runCmd_accepted hr))

theorem faultInject_enabled (hr : s.accepts faultInjectDef p o) : (s.begun p).f F.MFCTL_INJECT_EN = 1 := by
  have hpre : (if s.b F.MFCTL_INJECT_EN then none else some (stLocked, 0)) = none := State.verdict_pre hr.2
  have hb : s.b F.MFCTL_INJECT_EN = true := by
    by_contra hne
    rw [if_neg hne] at hpre
    cases hpre
  have hlt : s.f F.MFCTL_INJECT_EN < 2 := Nat.mod_lt _ (by decide)
  have hne : s.f F.MFCTL_INJECT_EN ≠ 0 := bne_iff_ne.1 hb
  rw [(State.begun_shown s p).2 _ fun q => by simp only [F.MFCTL_INJECT_EN, R.MFCTL, R.Q_STAT]; omega]
  omega

end

end Sys2Proof.Machine
end
section
/-! SUPPORT. A source that asserts: its line, its bit, the latch and the reaction (R399 to R408). -/

namespace Sys2Proof.Machine

section
variable {s u z : State} {t bit : Nat}

/-! ### A tile gone dark (R407) -/

/-- What each member's step brings about, and the other steps keep, holds after an iteration. -/
theorem State.each_establishes {P : State → Nat → Prop} {f : State → Nat → State} (hcan : ∀ u k, u.canonical → (f u k).canonical) (l : List Nat)
    (hown : ∀ k ∈ l, ∀ u : State, u.canonical → P (f u k) k) (hkeep : ∀ k ∈ l, ∀ j, j ≠ k → ∀ u : State, u.canonical → P u j → P (f u k) j)
    (hc : s.canonical) {j : Nat} (hj : j ∈ l ∨ P s j) : P (s.each l f) j := by
  unfold State.each
  induction l generalizing s with
  | nil => exact hj.resolve_left List.not_mem_nil
  | cons k l ih =>
    refine ih (fun i hi => hown i (List.mem_cons_of_mem _ hi)) (fun i hi => hkeep i (List.mem_cons_of_mem _ hi)) (hcan s k hc) ?_
    by_cases hk : j = k
    · exact .inr (hk ▸ hown k List.mem_cons_self s hc)
    · rcases hj with hm | hp
      · exact .inl ((List.mem_cons.1 hm).resolve_left hk)
      · exact .inr (hkeep k List.mem_cons_self j hk s hc hp)

/-- Every comb of a tile is dark and every shutter shut. -/
def State.darkTile (s : State) (t : Nat) : Prop := (∀ c < 8, s.f (F.LAS_STAT_STATE t c) = 0) ∧ ∀ i < 3, s.f (F.EYESAFE_STATE t i) = 2

/-- A tile's shutter shut, and counted where it was open. -/
def State.shutter (s : State) (t i : Nat) : State := (if s.f (F.EYESAFE_STATE t i) = 0 then s.bump (F.EYESAFE_SHUT_CNT t i) else s).setF (F.EYESAFE_STATE t i) 2

theorem State.shutter_canonical (h : s.canonical) (t i : Nat) : (s.shutter t i).canonical :=
  (Kept.setF (Kept.ite ((Kept.refl s).bump _ _) (Kept.refl s)) (F.EYESAFE_STATE t i) 2).2 h

theorem State.shutter_same (h : s.canonical) (t i : Nat) : (s.shutter t i).f (F.EYESAFE_STATE t i) = 2 := by
  have hc : (if s.f (F.EYESAFE_STATE t i) = 0 then s.bump (F.EYESAFE_SHUT_CNT t i) else s).canonical := (Kept.ite ((Kept.refl s).bump _ _) (Kept.refl s)).2 h
  exact State.f_setF_same hc.rising _ _ (by simp [F.EYESAFE_STATE])

theorem State.shutter_ne (s : State) (t i : Nat) {y : Fld} (hy : y.off ≠ R.EYESAFE t i) : (s.shutter t i).f y = s.f y := by
  unfold State.shutter
  rw [State.f_setF_off (x := F.EYESAFE_STATE t i) hy]
  split
  · exact State.f_setF_off hy _
  · rfl

theorem State.darken_dark (hc : s.canonical) (t : Nat) : ((s.darken t).leaveTest t).darkTile t := by
  have hcomb : ∀ u k, u.canonical → (State.setFs u [(F.LAS_STAT_STATE t k, 0), (F.LAS_BIAS_BIAS t k, 0)]).canonical := fun u k hu => ((Kept.refl u).setFs _).2 hu
  obtain ⟨a, ha⟩ : ∃ a, a = s.each (List.range 8) (fun s c => s.setFs [(F.LAS_STAT_STATE t c, 0), (F.LAS_BIAS_BIAS t c, 0)]) := ⟨_, rfl⟩
  have hac : a.canonical := ha ▸ (Kept.each (Kept.refl s) _ _ fun _ _ hs => hs.setFs _).2 hc
  have hlas : ∀ c < 8, a.f (F.LAS_STAT_STATE t c) = 0 := fun c hlt => by
    rw [ha]
    refine State.each_establishes (P := fun u c => u.f (F.LAS_STAT_STATE t c) = 0) hcomb _ (fun k _ u hu => ?_) (fun k _ j hj u hu hp => ?_) hc
      (.inl (List.mem_range.2 hlt))
    · exact (State.f_setFs_at hu [(F.LAS_STAT_STATE t k, 0), (F.LAS_BIAS_BIAS t k, 0)] 0 rfl (by simp [F.LAS_STAT_STATE]) (by
        simp only [List.drop_succ_cons, List.drop_zero, List.mem_singleton, forall_eq, Fld.apart, F.LAS_STAT_STATE, F.LAS_BIAS_BIAS, R.LAS_STAT, R.LAS_BIAS]
        omega))
    · refine (State.f_setFs_ne hu _ ?_).trans hp
      simp only [List.mem_cons, List.not_mem_nil, or_false, forall_eq_or_imp, forall_eq, Fld.apart, F.LAS_STAT_STATE, F.LAS_BIAS_BIAS, R.LAS_STAT, R.LAS_BIAS]
      omega
  have hd : s.darken t = a.each (List.range 3) (fun s i => s.shutter t i) := by rw [ha]; rfl
  rw [hd]
  have htest : ∀ y : Fld, y.off ≠ R.TILE_TEST_STAT t → ((a.each (List.range 3) (fun s i => s.shutter t i)).leaveTest t).f y =
      (a.each (List.range 3) (fun s i => s.shutter t i)).f y := fun y hy =>
    (State.f_setF_off (x := F.TILE_TEST_STAT_ITEM t) hy _).trans ((State.f_setF_off (x := F.TILE_TEST_STAT_MEM_OUT t) hy _).trans
      (State.f_setF_off (x := F.TILE_TEST_STAT_STATE t) hy _))
  refine ⟨fun c hlt => ?_, fun i hlt => ?_⟩
  · rw [htest _ (by simp only [F.LAS_STAT_STATE, R.LAS_STAT, R.TILE_TEST_STAT]; omega)]
    refine (State.each_keeps (fun u => u.f (F.LAS_STAT_STATE t c)) a _ _ fun i u => State.shutter_ne u t i ?_).trans (hlas c hlt)
    simp only [F.LAS_STAT_STATE, R.LAS_STAT, R.EYESAFE]
    omega
  · rw [htest _ (by simp only [F.EYESAFE_STATE, R.EYESAFE, R.TILE_TEST_STAT]; omega)]
    refine State.each_establishes (P := fun u i => u.f (F.EYESAFE_STATE t i) = 2) (f := fun s i => s.shutter t i) (fun u k hu => State.shutter_canonical hu t k)
      (List.range 3) (fun k _ u hu => State.shutter_same hu t k) (fun k _ j hj u _ hp => (State.shutter_ne u t k ?_).trans hp) hac (.inl (List.mem_range.2 hlt))
    simp only [F.EYESAFE_STATE, R.EYESAFE]
    omega

/-- What leaves the combs and shutters of a tile leaves it dark. -/
theorem State.darkTile.keeps (h : s.darkTile t) {W : List Nat} (k : s.keepsRegs u W)
    (hW : ∀ off, tileBase t + 0x80000 ≤ off → off < tileBase t + 0x80300 → off ∉ W) :
    u.darkTile t := by
  refine ⟨fun c hc => (k.f (x := F.LAS_STAT_STATE t c) (hW _ ?_ ?_)).trans (h.1 c hc), fun i hi => (k.f (x := F.EYESAFE_STATE t i) (hW _ ?_ ?_)).trans (h.2 i hi)⟩ <;>
    simp only [F.LAS_STAT_STATE, F.EYESAFE_STATE, R.LAS_STAT, R.EYESAFE] <;> omega

/-! ### A tile source that asserts (R399, R403, R405) -/

/-- The register of a tile source's bit in the fault word. -/
def wordReg (t bit : Nat) : Nat := if bit < 32 then R.FSW_LO t else R.FSW_HI t

theorem State.raise_eq (hlow : s.bit (lineReg t bit) (bit % 32) = false) (hlost : s.lostTile t = false) (v : Int) (hold : Bool) :
    s.raise t bit v hold = (if hold then s.setBit (lineReg t bit) (bit % 32) else s).latchTile t bit v := by
  have hr : s.raise t bit v hold = (if s.bit (lineReg t bit) (bit % 32) then (s, false)
    else if s.lostTile t then ((if hold then s.setBit (lineReg t bit) (bit % 32) else s), false)
      else ((if hold then s.setBit (lineReg t bit) (bit % 32) else s).latchTile t bit v, true)).1 := rfl
  rw [hr, hlow, hlost, if_neg Bool.false_ne_true, if_neg Bool.false_ne_true]

/-- A source whose severity is not CONTAIN asserts and fences no block. -/
theorem State.assertTile_plain (hb : bit < 44) (hsev : s.sevTile t bit ≠ 2) (v : Int) (hold : Bool) : s.assertTile t bit v hold = s.raise t bit v hold := by
  have hout : (F.FSEV_SEV t bit).off ∉ tileFaultRegs t := by
    have hoff : (F.FSEV_SEV t bit).off = tileBase t + (0xA0020 + 0x4 * (bit / 16)) := Nat.add_assoc ..
    rw [hoff]
    unfold tileFaultRegs
    simp only [List.mem_append, not_or]
    refine ⟨?_, ?_, fun hm => ?_⟩
    · intro hm
      have hall : ∀ a ∈ logRegs, a < 0x100000 := by decide
      have := hall _ hm
      unfold tileBase at this
      omega
    · simp only [List.mem_cons, List.not_mem_nil, or_false, R.MFSW_TILE_LO, R.MFSW_TILE_HI, R.FSW_LO, R.FSW_HI, R.FLVL_LO, R.FLVL_HI, R.FFIRST,
        R.FFIRST_BELL_LO, R.FFIRST_BELL_HI, R.FSTATE, tileBase]
      omega
    · have := dark_offset hm
      omega
  have hk : (s.raise t bit v hold).sevTile t bit = s.sevTile t bit := by
    unfold State.sevTile
    rw [(s.raise_faulted t bit v hold).2.f hout]
  unfold State.raise at hk ⊢
  unfold State.assertTile
  generalize s.lineTile t bit hold v = r at hk
  obtain ⟨w, hit⟩ := r
  dsimp only at hk ⊢
  have hcon : w.containTile t bit = w := if_neg (by simp [hk, hsev])
  have hesc : (s.sevTile t bit == 2) = false := beq_eq_false_iff_ne.2 hsev
  rw [hcon, hesc]
  cases hit <;> rfl

theorem wordReg_ne_lineReg : wordReg t bit ≠ lineReg t bit := by
  unfold wordReg lineReg
  split <;> simp only [R.FSW_LO, R.FSW_HI, R.FLVL_LO, R.FLVL_HI] <;> omega

/-- The line as it is left by a rise: high where it is held. -/
def State.lineRisen (s : State) (t bit : Nat) (hold : Bool) : State := if hold then s.setBit (lineReg t bit) (bit % 32) else s

theorem State.lineRisen_spec (hc : s.canonical) (hlow : s.bit (lineReg t bit) (bit % 32) = false) (hold : Bool) :
    (s.lineRisen t bit hold).canonical ∧ (s.lineRisen t bit hold).bit (lineReg t bit) (bit % 32) = hold ∧
      s.keepsRegs (s.lineRisen t bit hold) [lineReg t bit] ∧ s.onlyRegs (s.lineRisen t bit hold) := by
  unfold State.lineRisen
  cases hold with
  | false => exact ⟨hc, hlow, fun _ _ => rfl, rfl⟩
  | true => exact ⟨((Kept.refl s).setBit _ _).2 hc, State.bit_setBit hc _ (Nat.mod_lt _ (by decide)), s.keepsRegs_wr _ _, rfl⟩

theorem lineReg_apart {off : Nat}
    (h : off < 0x1000000 ∨ ∃ u c, off = tileBase u + c ∧ c < 0x100000 ∧ c ≠ 0xA0008 ∧ c ≠ 0xA000C) : off ≠ lineReg t bit := by
  unfold lineReg
  rcases h with h | ⟨u, c, rfl, hc, h8, hC⟩
  · split <;> simp only [R.FLVL_LO, R.FLVL_HI, tileBase] <;> omega
  · split <;> simp only [R.FLVL_LO, R.FLVL_HI, tileBase] <;> omega

/-- An assertion at severity 0 sets its bit alone. -/
theorem State.raise_ignored (hc : s.canonical) (hlow : s.bit (lineReg t bit) (bit % 32) = false) (hlost : s.lostTile t = false) (hb : bit < 44)
    (hsev : s.sevTile t bit = 0) (v : Int) (hold : Bool) : let u := s.raise t bit v hold
    u.bit (wordReg t bit) (bit % 32) = true ∧ u.bit (lineReg t bit) (bit % 32) = hold ∧ s.keepsRegs u [wordReg t bit, lineReg t bit] ∧ s.onlyRegs u := by
  obtain ⟨h1, h2, h3, h4⟩ := State.lineRisen_spec hc hlow hold
  have hsev1 : (s.lineRisen t bit hold).sevTile t bit = 0 := by
    have hout : (F.FSEV_SEV t bit).off ∉ [lineReg t bit] := by
      rw [List.mem_singleton]
      exact lineReg_apart (.inr ⟨t, 0xA0020 + 0x4 * (bit / 16), Nat.add_assoc .., by omega, by omega, by omega⟩)
    unfold State.sevTile at hsev ⊢
    rw [h3.f hout, hsev]
  intro u
  have hu : u = (s.lineRisen t bit hold).setBit (wordReg t bit) (bit % 32) := by
    refine (State.raise_eq hlow hlost v hold).trans ?_
    show (s.lineRisen t bit hold).latchTile t bit v = _
    unfold State.latchTile
    dsimp only
    rw [hsev1, if_pos rfl]
    rfl
  rw [hu]
  generalize s.lineRisen t bit hold = w at h1 h2 h3 h4
  refine ⟨State.bit_setBit h1 _ (Nat.mod_lt _ (by decide)), ?_, fun off ho => ?_, h4.trans rfl⟩
  · rw [← h2]
    exact State.bit_of_rd (State.rd_wr_ne wordReg_ne_lineReg.symm _)
  · rw [List.mem_cons, List.mem_singleton, not_or] at ho
    exact (State.rd_wr_ne ho.1 _).trans (h3 off (by rw [List.mem_singleton]; exact ho.2))

end

end Sys2Proof.Machine
end
section
/-! SUPPORT. A tile source at SAFE severity, line by line (R403, R405, R407). -/

namespace Sys2Proof.Machine

section
variable {s u z : State} {t bit : Nat}

/-! ### The latch -/

/-- What an assertion writes of the module, and its record. -/
def summaryRegs : List Nat := logRegs ++ [R.MFSW_TILE_LO, R.MFSW_TILE_HI]

theorem summaryRegs_low {off : Nat} (h : 0x1000000 ≤ off) : off ∉ summaryRegs := fun hm => by
  have hall : ∀ a ∈ summaryRegs, a < 0x1000000 := by decide
  exact absurd (hall _ hm) (by omega)

theorem State.firstLatched_keeps (s : State) (t bit sev : Nat) :
    s.keepsRegs (s.firstLatched t bit sev) [R.FFIRST t, R.FFIRST_BELL_LO t, R.FFIRST_BELL_HI t] := fun off ho => by
  simp only [List.mem_cons, List.not_mem_nil, or_false, not_or] at ho
  obtain ⟨h1, h2, h3⟩ := ho
  unfold State.firstLatched
  split
  · exact State.rd_wr_ne h1 _
  · exact (State.rd_wr_ne h3 _).trans ((State.rd_wr_ne h2 _).trans ((State.rd_wr_ne h1 _).trans ((State.rd_wr_ne h1 _).trans (State.rd_wr_ne h1 _))))

/-- After the first-source latch an assertion writes the module's summaries and its record. -/
theorem State.tileLatched_keeps (s : State) (t bit : Nat) (v : Int) :
    ((s.setBit (wordReg t bit) (bit % 32)).firstLatched t bit (s.sevTile t bit)).keepsRegs (s.tileLatched t bit v) summaryRegs := by
  have hlog : ∀ a ∈ logRegs, a ∈ summaryRegs := fun _ h => List.mem_append_left _ h
  have hw : s.tileLatched t bit v = ((((s.setBit (wordReg t bit) (bit % 32)).firstLatched t bit (s.sevTile t bit)).setBit
      (if t < 32 then R.MFSW_TILE_LO else R.MFSW_TILE_HI) (t % 32)).latchModule t (s.sevTile t bit)).record (.tileSrc bit) (s.sevTile t bit) (tgtTile t) v := rfl
  rw [hw]
  generalize (s.setBit (wordReg t bit) (bit % 32)).firstLatched t bit (s.sevTile t bit) = w
  have h1 : Faulted summaryRegs w (w.setBit (if t < 32 then R.MFSW_TILE_LO else R.MFSW_TILE_HI) (t % 32)) :=
    (Faulted.refl _ w).setBit (by split <;> simp [summaryRegs]) _
  exact ((h1.latchModule hlog _ _).record hlog _ _ _ _).2

theorem State.tileLatched_word (hc : s.canonical) (t bit : Nat) (v : Int) : (s.tileLatched t bit v).bit (wordReg t bit) (bit % 32) = true := by
  have hset := State.bit_setBit hc (wordReg t bit) (i := bit % 32) (Nat.mod_lt _ (by decide))
  refine (State.bit_of_rd (s.tileLatched_keeps t bit v _ (summaryRegs_low ?_))).trans ((State.bit_of_rd (State.firstLatched_keeps _ _ _ _ _ ?_)).trans hset)
  · unfold wordReg
    split <;> simp only [R.FSW_LO, R.FSW_HI, tileBase] <;> omega
  · unfold wordReg
    split <;> simp only [List.mem_cons, List.not_mem_nil, or_false, R.FSW_LO, R.FSW_HI, R.FFIRST, R.FFIRST_BELL_LO, R.FFIRST_BELL_HI] <;> omega

/-- An empty latch takes the source. -/
theorem State.tileLatched_first (hc : s.canonical) (hb : bit < 44) (hsev : s.sevTile t bit = 3) (h0 : s.f (F.FFIRST_VALID t) = 0) (v : Int) :
    (s.tileLatched t bit v).f (F.FFIRST_SRC t) = bit ∧ (s.tileLatched t bit v).f (F.FFIRST_SEV t) = 3 ∧ (s.tileLatched t bit v).f (F.FFIRST_VALID t) = 1 := by
  have hkeep := s.tileLatched_keeps t bit v
  have hoff : ∀ y : Fld, y.off = R.FFIRST t → y.off ∉ summaryRegs := fun y hy => summaryRegs_low (by rw [hy]; simp only [R.FFIRST, tileBase]; omega)
  rw [hkeep.f (x := F.FFIRST_SRC t) (hoff _ rfl), hkeep.f (x := F.FFIRST_SEV t) (hoff _ rfl), hkeep.f (x := F.FFIRST_VALID t) (hoff _ rfl), hsev]
  have h1 : (s.setBit (wordReg t bit) (bit % 32)).canonical := ((Kept.refl s).setBit _ _).2 hc
  have hv : (s.setBit (wordReg t bit) (bit % 32)).f (F.FFIRST_VALID t) = 0 := by
    refine (State.f_of_rd (State.rd_wr_ne ?_ _)).trans h0
    unfold wordReg
    simp only [F.FFIRST_VALID, R.FFIRST, R.FSW_LO, R.FSW_HI]
    split <;> omega
  generalize s.setBit (wordReg t bit) (bit % 32) = w at h1 hv
  have h2 : (w.setFs [(F.FFIRST_SRC t, bit), (F.FFIRST_SEV t, 3), (F.FFIRST_VALID t, 1)]).canonical := ((Kept.refl w).setFs _).2 h1
  have hpair : ∀ y : Fld, y.off = R.FFIRST t → (w.firstLatched t bit 3).f y =
      (w.setFs [(F.FFIRST_SRC t, bit), (F.FFIRST_SEV t, 3), (F.FFIRST_VALID t, 1)]).f y := fun y hy => by
    unfold State.firstLatched
    rw [if_neg (by simp [State.b, hv])]
    exact (State.f_setF_off (x := F.FFIRST_BELL_HI t) (by rw [hy]; simp only [F.FFIRST_BELL_HI, R.FFIRST_BELL_HI, R.FFIRST]; omega) _).trans
      (State.f_setF_off (x := F.FFIRST_BELL_LO t) (by rw [hy]; simp only [F.FFIRST_BELL_LO, R.FFIRST_BELL_LO, R.FFIRST]; omega) _)
  rw [hpair _ rfl, hpair _ rfl, hpair _ rfl]
  refine ⟨(State.f_setFs_at h1 [(F.FFIRST_SRC t, bit), (F.FFIRST_SEV t, 3), (F.FFIRST_VALID t, 1)] 0 rfl (by simp [F.FFIRST_SRC])
      (by simp [Fld.apart, F.FFIRST_SRC, F.FFIRST_SEV, F.FFIRST_VALID])).trans (Nat.mod_eq_of_lt (hb.trans (by simp [F.FFIRST_SRC]))),
    State.f_setFs_at h1 [(F.FFIRST_SRC t, bit), (F.FFIRST_SEV t, 3), (F.FFIRST_VALID t, 1)] 1 rfl (by simp [F.FFIRST_SEV])
      (by simp [Fld.apart, F.FFIRST_SEV, F.FFIRST_VALID]), State.f_setFs_at h1 [(F.FFIRST_SRC t, bit), (F.FFIRST_SEV t, 3), (F.FFIRST_VALID t, 1)] 2 rfl
      (by simp [F.FFIRST_VALID]) (by simp)⟩

/-! ### The reaction -/

theorem State.reactTile_dark (hc : s.canonical) (h0 : s.f (F.FSTATE_STATE t) = 0) (hm : s.f F.MFSTATE_STATE ≠ 2) : (s.reactTile t bit).darkTile t := by
  obtain ⟨w, hw, hr⟩ : ∃ w : State, w.canonical ∧ s.reactTile t bit = ((w.setF (F.FSTATE_STATE t) 1).darken t).leaveTest t := by
    refine ⟨{ s.startQuiet t with faults := { (s.startQuiet t).faults with cause := Map.put t (fsrcTile t bit) (s.startQuiet t).faults.cause } }, hc, ?_⟩
    unfold State.reactTile
    dsimp only
    rw [if_neg (not_not.2 h0), if_neg hm]
  rw [hr]
  exact State.darken_dark (State.setF_canonical hw _ _) t

theorem not_reactRegs {off : Nat} (h : ∃ c, off = tileBase t + c ∧ 0xA0000 ≤ c ∧ c < 0xA0030) : off ∉ R.FSTATE t :: darkRegs t := fun hm => by
  obtain ⟨c, rfl, h1, h2⟩ := h
  rcases List.mem_cons.1 hm with he | hd
  · simp only [R.FSTATE] at he
    omega
  · have := dark_offset hd
    omega

/-- A source at SAFE severity on a tile that is NORMAL, its module too. -/
theorem State.raise_reacts (hc : s.canonical) (hlow : s.bit (lineReg t bit) (bit % 32) = false) (hlost : s.lostTile t = false) (hb : bit < 44)
    (hsev : s.sevTile t bit = 3) (h0 : s.f (F.FSTATE_STATE t) = 0) (hm : s.f F.MFSTATE_STATE = 0) (v : Int) (hold : Bool) : let u := s.raise t bit v hold
    u.bit (wordReg t bit) (bit % 32) = true ∧ u.f (F.FSTATE_STATE t) = 1 ∧ u.darkTile t ∧
      (s.f (F.FFIRST_VALID t) = 0 → u.f (F.FFIRST_SRC t) = bit ∧ u.f (F.FFIRST_SEV t) = 3 ∧ u.f (F.FFIRST_VALID t) = 1) := by
  obtain ⟨h1, -, h3, -⟩ := State.lineRisen_spec hc hlow hold
  have hline : ∀ y : Fld, y.off ≠ lineReg t bit → (s.lineRisen t bit hold).f y = s.f y := fun y hy => h3.f (by rw [List.mem_singleton]; exact hy)
  have hsev1 : (s.lineRisen t bit hold).sevTile t bit = 3 := by
    have hy : (F.FSEV_SEV t bit).off ≠ lineReg t bit :=
      lineReg_apart (.inr ⟨t, 0xA0020 + 0x4 * (bit / 16), Nat.add_assoc .., by omega, by omega, by omega⟩)
    unfold State.sevTile at hsev ⊢
    rw [hline _ hy, hsev]
  have h01 : (s.lineRisen t bit hold).f (F.FSTATE_STATE t) = 0 :=
    (hline _ (lineReg_apart (.inr ⟨t, 0xA0030, rfl, by decide, by decide, by decide⟩))).trans h0
  have hm1 : (s.lineRisen t bit hold).f F.MFSTATE_STATE = 0 := (hline _ (lineReg_apart (.inl (by decide)))).trans hm
  have hv1 : s.f (F.FFIRST_VALID t) = 0 → (s.lineRisen t bit hold).f (F.FFIRST_VALID t) = 0 := fun hv =>
    (hline _ (lineReg_apart (.inr ⟨t, 0xA0010, rfl, by decide, by decide, by decide⟩))).trans hv
  intro u
  have hu : u = ((s.lineRisen t bit hold).tileLatched t bit v).reactTile t bit := (State.raise_eq hlow hlost v hold).trans (State.latchTile_safe hsev1 v)
  rw [hu]
  clear hu u
  generalize s.lineRisen t bit hold = a at h1 hsev1 h01 hm1 hv1
  have hcan := State.tileLatched_canonical h1 t bit v
  have hword := State.tileLatched_word h1 t bit v
  have hfirst := fun hv => State.tileLatched_first h1 hb hsev1 (hv1 hv) v
  have hlatch := (a.tileLatched_faulted t bit v).2
  have hst : (a.tileLatched t bit v).f (F.FSTATE_STATE t) = 0 :=
    (hlatch.f fun hx => tileLatch_apart t _ hx (.inr ⟨t, rfl⟩)).trans h01
  have hmod : (a.tileLatched t bit v).f F.MFSTATE_STATE = 0 := (hlatch.f fun hx => tileLatch_apart t _ hx (.inl rfl)).trans hm1
  generalize a.tileLatched t bit v = b at hcan hword hfirst hst hmod
  have hkeep := (b.reactTile_faulted t bit).2
  refine ⟨?_, State.reactTile_state hcan hst (by omega), State.reactTile_dark hcan hst (by omega), fun hv => ?_⟩
  · refine (State.bit_of_rd (hkeep _ (not_reactRegs ?_))).trans hword
    unfold wordReg
    split
    · exact ⟨_, rfl, by decide, by decide⟩
    · exact ⟨_, rfl, by decide, by decide⟩
  · obtain ⟨e1, e2, e3⟩ := hfirst hv
    exact ⟨(hkeep.f (x := F.FFIRST_SRC t) (not_reactRegs ⟨_, rfl, by decide, by decide⟩)).trans e1,
      (hkeep.f (x := F.FFIRST_SEV t) (not_reactRegs ⟨_, rfl, by decide, by decide⟩)).trans e2,
      (hkeep.f (x := F.FFIRST_VALID t) (not_reactRegs ⟨_, rfl, by decide, by decide⟩)).trans e3⟩

/-! ### A line that falls (R399, R410) -/

theorem State.fall_low (hc : s.canonical) (t bit : Nat) : (s.fall t bit).bit (lineReg t bit) (bit % 32) = false ∧ s.keepsRegs (s.fall t bit) [lineReg t bit] := by
  have hf := State.bit_clrBit hc (lineReg t bit) (i := bit % 32) (Nat.mod_lt _ (by decide))
  have hk : s.keepsRegs (s.clrBit (lineReg t bit) (bit % 32)) [lineReg t bit] := s.keepsRegs_wr _ _
  have he : s.fall t bit = if s.safeHighTile t && !(s.clrBit (lineReg t bit) (bit % 32)).safeHighTile t then (s.clrBit (lineReg t bit) (bit % 32)).startQuiet t
      else s.clrBit (lineReg t bit) (bit % 32) := rfl
  rw [he]
  split
  · exact ⟨(State.startQuiet_bit ..).trans hf, hk⟩
  · exact ⟨hf, hk⟩

end

end Sys2Proof.Machine
end
section
/-! SUPPORT. A module source that asserts, and the Proctor's watchdog (R399 to R408). -/

namespace Sys2Proof.Machine

section
variable {s u z : State} {bit : Nat}

/-! ### The module's fault word -/

/-- The Report Card's own registers (R414). -/
def eventRegs : List Nat := [R.RC_STAT, R.RC_SEQ, R.RC_FLASH_SEQ, R.RC_FOLD]

theorem State.syncRc_rd (s : State) {off : Nat} (h : off ∉ eventRegs) : s.syncRc.rd off = s.rd off :=
  s.syncRc_keeps off fun hm => h (by simp only [List.mem_cons, List.not_mem_nil, or_false, eventRegs] at hm ⊢; tauto)

theorem State.addRec_rd (s : State) (r : Rec) (off : Nat) : (s.addRec r).1.rd off = s.rd off := by
  unfold State.addRec
  dsimp only
  split <;> rfl

/-- An event writes the Report Card's registers alone. -/
theorem State.event_rd (s : State) (code : RecCode) (sev source : Nat) (v : Int) {off : Nat} (h : off ∉ eventRegs) :
    (s.event code sev source v).1.rd off = s.rd off := by
  have hfold : off ≠ R.RC_FOLD := fun he => h (by simp [eventRegs, he])
  unfold State.event
  dsimp only
  split
  · split
    · refine (State.syncRc_rd _ h).trans ?_
      split
      · rfl
      · exact (State.rd_wr_ne (b := R.RC_FOLD) hfold _).trans rfl
    · exact (State.syncRc_rd _ h).trans ((State.addRec_rd ..).trans rfl)
  · refine (State.syncRc_rd _ h).trans ((State.addRec_rd ..).trans ?_)
    split <;> rfl

theorem State.latchModule_rd (s : State) (src sev : Nat) {off : Nat} (h : off ∉ [R.MFIRST, R.MFIRST_BELL_LO, R.MFIRST_BELL_HI]) :
    (s.latchModule src sev).rd off = s.rd off := by
  simp only [List.mem_cons, List.not_mem_nil, or_false, not_or] at h
  obtain ⟨h1, h2, h3⟩ := h
  unfold State.latchModule
  split
  · exact State.rd_wr_ne h1 _
  · exact (State.rd_wr_ne h3 _).trans ((State.rd_wr_ne h2 _).trans ((State.rd_wr_ne h1 _).trans ((State.rd_wr_ne h1 _).trans (State.rd_wr_ne h1 _))))

theorem State.bit_setBit_mono (h : s.canonical) (off i : Nat) {j : Nat} (hj : s.bit off j = true) : (s.setBit off i).bit off j = true := by
  unfold State.bit State.setBit at *
  rw [State.rd_wr_same h.rising, BitVec.getLsbD_or, hj, Bool.true_or]

/-- A record clears no bit of the module's fault word. -/
theorem State.record_src (hc : s.canonical) (code : RecCode) (sev source : Nat) (v : Int) {j : Nat} (hj : s.bit R.MFSW_SRC j = true) :
    (s.record code sev source v).bit R.MFSW_SRC j = true := by
  have hev : ∀ (w : State) (code : RecCode) (sev source : Nat) (v : Int), w.bit R.MFSW_SRC j = true → (w.event code sev source v).1.bit R.MFSW_SRC j = true :=
    fun w code sev source v hw => (State.bit_of_rd (w.event_rd code sev source v (by decide))).trans hw
  have hbump : ∀ (w : State) (x : Fld) (n : Nat), x.off ≠ R.MFSW_SRC → w.bit R.MFSW_SRC j = true → (w.bump x n).bit R.MFSW_SRC j = true :=
    fun w x n hx hw => (State.bit_of_rd (State.rd_wr_ne hx.symm _)).trans hw
  have he := hev s code sev source v hj
  have hce : (s.event code sev source v).1.canonical := ((Kept.refl s).event code sev source v).2 hc
  unfold State.record
  generalize s.event code sev source v = r at he hce
  obtain ⟨e, d⟩ := r
  dsimp only
  split
  · exact he
  · split
    · have hcb : (e.bump F.RC_DROP_CRIT).canonical := ((Kept.refl e).bump _ _).2 hce
      have h2 := State.bit_setBit_mono hcb R.MFSW_SRC 18 (hbump e F.RC_DROP_CRIT 1 (by decide) he)
      generalize (e.bump F.RC_DROP_CRIT).setBit R.MFSW_SRC 18 = w at h2
      have h3 : (w.latchModule (64 + 18) (w.f (F.MFSEV_SEV 18))).bit R.MFSW_SRC j = true := (State.bit_of_rd (w.latchModule_rd _ _ (by decide))).trans h2
      generalize w.latchModule (64 + 18) (w.f (F.MFSEV_SEV 18)) = x at h3
      have h4 := hev x (.modSrc 18) (w.f (F.MFSEV_SEV 18)) tgtModule 0 h3
      split
      · exact h2
      · split
        · exact hbump _ F.RC_DROP 1 (by decide) h4
        · exact h4
    · exact hbump e F.RC_DROP 1 (by decide) he

/-! ### The module's reaction -/

theorem dark_module {t off : Nat} (h : off < 0x1000000) : off ∉ darkRegs t := fun hm => by
  have := dark_offset hm
  unfold tileBase at this
  omega

/-- Every tile dark. -/
def State.allDark (s : State) : State := s.each allTiles (fun s t => (s.darken t).leaveTest t)

theorem State.allDark_rd (s : State) {off : Nat} (h : off < 0x1000000) : s.allDark.rd off = s.rd off :=
  s.each_rd _ _ fun t _ u => ((Faulted.refl (darkRegs t) u).darken t fun _ hm => hm).2 off (dark_module h)

theorem State.allDark_dark (hc : s.canonical) {n : Nat} (hn : n < 48) : s.allDark.darkTile n := by
  refine State.each_establishes (P := fun u t => u.darkTile t) (fun u k hu => (((Kept.refl u).darken k).leaveTest k).2 hu) allTiles
    (fun k _ u hu => State.darken_dark hu k) (fun k _ j hj u _ hp => ?_) hc (.inl (List.mem_range.2 hn))
  refine hp.keeps ((Faulted.refl (darkRegs k) u).darken k fun _ hm => hm).2 fun off h1 h2 hm => ?_
  have := dark_offset hm
  unfold tileBase at *
  omega

theorem State.reactModule_spec (hc : s.canonical) (h0 : s.f F.MFSTATE_STATE = 0) (bit : Nat) : (s.reactModule bit).f F.MFSTATE_STATE = 1 ∧
    (∀ n < 48, ∀ c < 8, (s.reactModule bit).f (F.LAS_STAT_STATE n c) = 0) ∧ (s.reactModule bit).rd R.MFSW_SRC = s.rd R.MFSW_SRC := by
  obtain ⟨w, hw, hr, he⟩ : ∃ w : State, w.canonical ∧ s.reactModule bit = (w.setF F.MFSTATE_STATE 1).allDark ∧ w.rd R.MFSW_SRC = s.rd R.MFSW_SRC := by
    refine ⟨{ s.startQuiet 48 with faults := { (s.startQuiet 48).faults with cause := Map.put 48 (fsrcModule bit) (s.startQuiet 48).faults.cause } }, hc, ?_, rfl⟩
    unfold State.reactModule State.allDark
    dsimp only
    rw [if_neg (not_not.2 h0)]
  rw [hr]
  have hx := State.setF_canonical hw F.MFSTATE_STATE 1
  exact ⟨(State.f_of_rd (State.allDark_rd _ (by decide))).trans (State.f_setF_same hw.rising _ _ (by decide)), fun n hn c hlt => (State.allDark_dark hx hn).1 c hlt,
    (State.allDark_rd _ (by decide)).trans ((State.rd_wr_ne (by decide) _).trans he)⟩

/-! ### A module source that asserts -/

theorem State.raiseMod_eq (hlow : s.bit R.MFLVL_SRC bit = false) (hlost : s.lostModule = false) (v : Int) (hold : Bool) :
    s.lineMod bit hold v = ((if hold then s.setBit R.MFLVL_SRC bit else s).latchMod bit v, true) := by
  have hr : s.lineMod bit hold v = (if s.bit R.MFLVL_SRC bit then (s, false)
    else if s.lostModule then ((if hold then s.setBit R.MFLVL_SRC bit else s), false) else ((if hold then s.setBit R.MFLVL_SRC bit else s).latchMod bit v, true)) := rfl
  rw [hr, hlow, hlost, if_neg Bool.false_ne_true, if_neg Bool.false_ne_true]

theorem sevField_module {bit : Nat} (hb : bit < 21) : (F.MFSEV_SEV bit).off ∉ R.MFLVL_SRC :: R.MFSTATE :: logRegs := by
  have hall : ∀ a ∈ R.MFLVL_SRC :: R.MFSTATE :: logRegs, a < 0x5020 ∨ 0x5030 ≤ a := by decide
  intro hm
  have := hall _ hm
  simp only [F.MFSEV_SEV, R.MFSEV] at this
  omega

theorem sevField_notFault {bit : Nat} (hb : bit < 21) : (F.MFSEV_SEV bit).off ∉ moduleFaultRegs := fun hm => by
  have hs := sevField_module hb
  rcases List.mem_append.1 hm with hm | hm
  · exact hs (List.mem_cons_of_mem _ (List.mem_cons_of_mem _ hm))
  rcases List.mem_append.1 hm with hm | hm
  · simp only [List.mem_cons, List.not_mem_nil, or_false] at hm
    rcases hm with he | he
    · exact hs (he ▸ List.mem_cons_self)
    · exact hs (he ▸ List.mem_cons_of_mem _ List.mem_cons_self)
  · obtain ⟨t, -, hd⟩ := List.mem_flatMap.1 hm
    refine dark_module ?_ hd
    simp only [F.MFSEV_SEV, R.MFSEV]
    omega

/-- A module source whose severity is not CONTAIN fences no block. -/
theorem State.assertModule_plain (hb : bit < 21) (hsev : s.sevModule bit ≠ 2) (v : Int) (hold : Bool) : s.assertModule bit v hold = s.raiseMod bit v hold := by
  have hk : (s.raiseMod bit v hold).sevModule bit = s.sevModule bit := (s.raiseMod_faulted bit v hold).2.f (sevField_notFault hb)
  unfold State.raiseMod at hk ⊢
  unfold State.assertModule
  generalize s.lineMod bit hold v = r at hk
  obtain ⟨w, hit⟩ := r
  dsimp only at hk ⊢
  have hcon : w.containModule bit = w := if_neg (by simp [hk, hsev])
  have hesc : (s.sevModule bit == 2) = false := beq_eq_false_iff_ne.2 hsev
  rw [hcon, hesc]
  cases hit <;> rfl

/-- A module source's assertion before any reaction: its bit, the latch and the record. -/
def State.modLatched (s : State) (bit : Nat) (v : Int) : State :=
  ((s.setBit R.MFSW_SRC bit).latchModule (64 + bit) (s.sevModule bit)).record (.modSrc bit) (s.sevModule bit) tgtModule v

theorem State.modLatched_logged (s : State) (bit : Nat) (v : Int) : Logged s (s.modLatched bit v) :=
  (((Logged.refl s).wr (off := R.MFSW_SRC) (by simp [logRegs]) _).latchModule _ _).record _ _ _ _

theorem State.modLatched_canonical (hc : s.canonical) (bit : Nat) (v : Int) : (s.modLatched bit v).canonical :=
  ((((Kept.refl s).setBit R.MFSW_SRC bit).latchModule _ _).record _ _ _ _).2 hc

theorem State.modLatched_src (hc : s.canonical) (hb : bit < 32) (v : Int) : (s.modLatched bit v).bit R.MFSW_SRC bit = true := by
  have h1 : (s.setBit R.MFSW_SRC bit).canonical := ((Kept.refl s).setBit _ _).2 hc
  have h2 := State.bit_setBit hc R.MFSW_SRC hb
  unfold State.modLatched
  generalize s.setBit R.MFSW_SRC bit = w at h1 h2
  exact State.record_src (((Kept.refl w).latchModule _ _).2 h1) _ _ _ _ ((State.bit_of_rd (w.latchModule_rd _ _ (by decide))).trans h2)

theorem State.latchMod_safe (hsev : s.sevModule bit = 3) (v : Int) : s.latchMod bit v = (s.modLatched bit v).reactModule bit := by
  unfold State.latchMod State.modLatched
  dsimp only
  rw [hsev, if_neg (by decide), if_neg (by simp), if_pos rfl]

/-- A module source at SAFE severity while the module is NORMAL. -/
theorem State.latchMod_reacts (hc : s.canonical) (hb : bit < 32) (hsev : s.sevModule bit = 3) (h0 : s.f F.MFSTATE_STATE = 0) (v : Int) :
    (s.latchMod bit v).bit R.MFSW_SRC bit = true ∧ (s.latchMod bit v).f F.MFSTATE_STATE = 1 ∧
      ∀ n < 48, ∀ c < 8, (s.latchMod bit v).f (F.LAS_STAT_STATE n c) = 0 := by
  rw [State.latchMod_safe hsev]
  have h1 := State.modLatched_canonical hc bit v
  have h2 := State.modLatched_src hc hb v
  have h3 : (s.modLatched bit v).f F.MFSTATE_STATE = 0 := (State.keepsRegs.f (s.modLatched_logged bit v).2 (by decide)).trans h0
  generalize s.modLatched bit v = w at h1 h2 h3
  obtain ⟨hst, hdark, hrd⟩ := State.reactModule_spec h1 h3 bit
  exact ⟨(State.bit_of_rd hrd).trans h2, hst, hdark⟩

/-- A module source's line as a rise leaves it. -/
def State.modRisen (s : State) (bit : Nat) (hold : Bool) : State := if hold then s.setBit R.MFLVL_SRC bit else s

theorem State.modRisen_spec (hc : s.canonical) (bit : Nat) (hold : Bool) : (s.modRisen bit hold).canonical ∧ s.keepsRegs (s.modRisen bit hold) [R.MFLVL_SRC] := by
  cases hold with
  | false => exact ⟨hc, fun _ _ => rfl⟩
  | true => exact ⟨((Kept.refl s).setBit _ _).2 hc, s.keepsRegs_wr _ _⟩

theorem State.raiseMod_reacts (hc : s.canonical) (hb : bit < 21) (hlow : s.bit R.MFLVL_SRC bit = false) (hsev : s.sevModule bit = 3)
    (h0 : s.f F.MFSTATE_STATE = 0) (v : Int) (hold : Bool) : ∃ u : State, s.raiseMod bit v hold = u ∧
    u.bit R.MFSW_SRC bit = true ∧ u.f F.MFSTATE_STATE = 1 ∧ (∀ n < 48, ∀ c < 8, u.f (F.LAS_STAT_STATE n c) = 0) ∧ s.keepsMemory u := by
  have hlost : s.lostModule = false := by simp [State.lostModule, h0]
  obtain ⟨hcan, hline⟩ := State.modRisen_spec hc bit hold
  have hsev1 : (s.modRisen bit hold).sevModule bit = 3 :=
    (hline.f (x := F.MFSEV_SEV bit) fun hm => sevField_module hb (List.mem_cons.2 (.inl (List.mem_singleton.1 hm)))).trans hsev
  have h01 : (s.modRisen bit hold).f F.MFSTATE_STATE = 0 := (hline.f (by decide)).trans h0
  obtain ⟨h1, h2, h3⟩ := State.latchMod_reacts hcan (hb.trans (by decide)) hsev1 h01 v
  have hu : s.raiseMod bit v hold = (s.modRisen bit hold).latchMod bit v := congrArg Prod.fst (State.raiseMod_eq hlow hlost v hold)
  exact ⟨_, hu, h1, h2, h3, hu ▸ (s.raiseMod_faulted bit v hold).keepsMemory⟩

theorem State.fallMod_low (hc : s.canonical) {bit : Nat} (hb : bit < 32) : (s.fallMod bit).bit R.MFLVL_SRC bit = false ∧ s.keepsRegs (s.fallMod bit) [R.MFLVL_SRC] := by
  have hf := State.bit_clrBit hc R.MFLVL_SRC hb
  have hk : s.keepsRegs (s.clrBit R.MFLVL_SRC bit) [R.MFLVL_SRC] := s.keepsRegs_wr _ _
  unfold State.fallMod
  dsimp only
  split
  · exact ⟨(State.startQuiet_bit ..).trans hf, hk⟩
  · exact ⟨hf, hk⟩

/-! ### The Proctor's watchdog (R402, R404) -/

theorem exec_proctorWdt (s : State) : exec .proctorWdt s = .next s.watchdog := rfl

theorem watchdog_switching (hsw : s.f F.Q_GLOBAL_SWITCHOVER = 1) (hf : (s.fence (48 * 64)).on = false) : exec .proctorWdt s = .next s := by
  rw [exec_proctorWdt, State.watchdog]
  dsimp only
  rw [if_pos (by simp [State.b, hsw, hf])]

/-- The watchdog outside a switchover: the assertion, and a warm reset due where it escalates. -/
theorem State.watchdog_eq (hsw : s.f F.Q_GLOBAL_SWITCHOVER = 0) (hsev : s.sevModule 0 = 2) (hlow : s.bit R.MFLVL_SRC 0 = false)
    (hlost : s.lostModule = false) : s.watchdog = if s.escalates (48 * 64) then (s.assertModule 0).updClk (fun c => { c with resetDue := some (4, 0) })
      else s.assertModule 0 := by
  have hhit : (s.lineMod 0 false 0).2 = true := congrArg Prod.snd (State.raiseMod_eq hlow hlost 0 false)
  unfold State.watchdog
  dsimp only
  rw [if_neg (by simp [State.b, hsw]), hhit, hsev, Bool.true_and]
  rfl

theorem watchdog_escalates (hsw : s.f F.Q_GLOBAL_SWITCHOVER = 0) (hsev : s.sevModule 0 = 2) (hlow : s.bit R.MFLVL_SRC 0 = false)
    (hlost : s.lostModule = false) (hesc : s.escalates (48 * 64) = true) : ∃ u : State, exec .proctorWdt s = .next u ∧ u.clocks.resetDue = some (4, 0) := by
  rw [exec_proctorWdt, State.watchdog_eq hsw hsev hlow hlost, if_pos hesc]
  generalize s.assertModule 0 = w
  exact ⟨_, rfl, rfl⟩

theorem State.latchMod_contain (hsev : s.sevModule 0 = 2) (hf : (s.fence (48 * 64)).on = false) (v : Int) : s.latchMod 0 v = s.modLatched 0 v := by
  unfold State.latchMod State.modLatched
  dsimp only
  rw [hsev, if_neg (by decide), if_neg (by simp [hf]), if_neg (by decide)]

/-- The Proctor's fence and its queues held. -/
theorem State.containModule_watchdog (hc : s.canonical) (hsev : s.sevModule 0 = 2) (hf : (s.fence (48 * 64)).on = false) : let u := s.containModule 0
    u.f F.Q_GLOBAL_SWITCHOVER = 1 ∧ (u.fence (48 * 64)).on = true ∧ u.clocks = s.clocks := by
  have hne : ({ s.fence (48 * 64) with on := true, esc := false } : Fence) ≠ {} := fun he => Bool.noConfusion (congrArg Fence.on he)
  have hfence := s.fence_setFence (48 * 64) hne
  have hcan := ((Kept.refl s).setFence (48 * 64) { s.fence (48 * 64) with on := true, esc := false }).2 hc
  have hclk : (s.setFence (48 * 64) { s.fence (48 * 64) with on := true, esc := false }).clocks = s.clocks := by
    obtain ⟨v, hv⟩ := s.setFence_eq (48 * 64) { s.fence (48 * 64) with on := true, esc := false }
    rw [hv, State.setB_clocks]
  have hu : s.containModule 0 = (s.setFence (48 * 64) { s.fence (48 * 64) with on := true, esc := false }).setB F.Q_GLOBAL_SWITCHOVER true := by
    unfold State.containModule
    dsimp only
    rw [Nat.add_zero, hsev, hf, if_pos (by decide)]
    rfl
  rw [hu]
  generalize s.setFence (48 * 64) { s.fence (48 * 64) with on := true, esc := false } = w at hfence hcan hclk
  refine ⟨State.f_setB_same hcan F.Q_GLOBAL_SWITCHOVER true (by decide) rfl, ?_, (State.setB_clocks ..).trans hclk⟩
  unfold State.fence at hfence ⊢
  rw [State.setB_faults, hfence]

theorem watchdog_contains (hc : s.canonical) (hsw : s.f F.Q_GLOBAL_SWITCHOVER = 0) (hsev : s.sevModule 0 = 2) (hlow : s.bit R.MFLVL_SRC 0 = false)
    (hlost : s.lostModule = false) (hf : (s.fence (48 * 64)).on = false) (hesc : s.escalates (48 * 64) = false) :
    ∃ u : State, exec .proctorWdt s = .next u ∧ u.f F.Q_GLOBAL_SWITCHOVER = 1 ∧ (u.fence (48 * 64)).on = true ∧ u.clocks = s.clocks := by
  have hlog := s.modLatched_logged 0 0
  have hcan := State.modLatched_canonical hc 0 0
  have hsev1 : (s.modLatched 0 0).sevModule 0 = 2 := (State.keepsRegs.f (x := F.MFSEV_SEV 0) hlog.2 (by decide)).trans hsev
  have hfaults : (s.modLatched 0 0).faults = s.faults := by rw [hlog.1]
  have hf1 : ((s.modLatched 0 0).fence (48 * 64)).on = false := by
    unfold State.fence at hf ⊢
    rw [hfaults, hf]
  have hassert : s.assertModule 0 = (s.modLatched 0 0).containModule 0 := by
    unfold State.assertModule
    rw [State.raiseMod_eq hlow hlost, if_neg Bool.false_ne_true, State.latchMod_contain hsev hf]
    dsimp only
    rw [Nat.add_zero, hesc, Bool.and_false]
    rfl
  rw [exec_proctorWdt, State.watchdog_eq hsw hsev hlow hlost, if_neg (by rw [hesc]; exact Bool.false_ne_true), hassert]
  obtain ⟨h1, h2, h3⟩ := State.containModule_watchdog hcan hsev1 hf1
  exact ⟨_, rfl, h1, h2, h3.trans hlog.clocks⟩

end

end Sys2Proof.Machine
end
section
/-! SUPPORT. The assertions and the watchdog as the events make them (R399 to R408). -/

namespace Sys2Proof.Machine

section
variable {s : State} {n : Tile} {bit : BitVec 6} {hold : Bool}

theorem exec_assert_tile (h : bit.toNat < 44) (h34 : bit.toNat ≠ 34) :
    exec (.faultSourceAssert (.tile n) bit hold) s = .next (s.assertTile n.val bit.toNat 0 hold) := by
  show Host.Outcome.next (s.assertSource (.tile n) bit.toNat hold) = _
  unfold State.assertSource
  dsimp only
  rw [if_neg (by omega), if_neg h34]

theorem exec_assert_reserved (h : 44 ≤ bit.toNat) :
    exec (.faultSourceAssert (.tile n) bit hold) s = .next s ∧ exec (.faultSourceDeassert (.tile n) bit) s = .next s :=
  ⟨congrArg _ (if_pos h), congrArg _ (if_neg (by omega))⟩

/-- A rise that latches nothing leaves the state where the line does not stay. -/
theorem exec_assert_lost (h34 : bit.toNat ≠ 34) (h : s.lineTile n.val bit.toNat hold 0 = (s, false)) :
    exec (.faultSourceAssert (.tile n) bit hold) s = .next s := by
  by_cases h44 : 44 ≤ bit.toNat
  · exact (exec_assert_reserved h44).1
  · rw [exec_assert_tile (by omega) h34]
    unfold State.assertTile
    rw [h]
    rfl

theorem exec_assert_high (h34 : bit.toNat ≠ 34) (h : s.bit (lineReg n.val bit.toNat) (bit.toNat % 32) = true) :
    exec (.faultSourceAssert (.tile n) bit hold) s = .next s := exec_assert_lost h34 (if_pos h)

theorem exec_assert_window (h34 : bit.toNat ≠ 34) (h : s.lostTile n.val = true) : exec (.faultSourceAssert (.tile n) bit false) s = .next s := by
  refine exec_assert_lost h34 ?_
  by_cases hh : s.bit (lineReg n.val bit.toNat) (bit.toNat % 32) = true
  · exact if_pos hh
  · exact (if_neg hh).trans (if_pos h)

theorem exec_assert_ignored (hc : s.canonical) (hb : bit.toNat < 44) (h34 : bit.toNat ≠ 34) (hlow : s.bit (lineReg n.val bit.toNat) (bit.toNat % 32) = false)
    (hlost : s.lostTile n.val = false) (hsev : s.sevTile n.val bit.toNat = 0) : ∃ u : State, exec (.faultSourceAssert (.tile n) bit hold) s = .next u ∧
      u.bit (wordReg n.val bit.toNat) (bit.toNat % 32) = true ∧ u.bit (lineReg n.val bit.toNat) (bit.toNat % 32) = hold ∧
      s.keepsRegs u [wordReg n.val bit.toNat, lineReg n.val bit.toNat] ∧ s.onlyRegs u := by
  rw [exec_assert_tile hb h34, State.assertTile_plain hb (by omega)]
  exact ⟨_, rfl, State.raise_ignored hc hlow hlost hb hsev 0 hold⟩

theorem exec_assert_safe (hc : s.canonical) (hb : bit.toNat < 44) (h34 : bit.toNat ≠ 34) (hlow : s.bit (lineReg n.val bit.toNat) (bit.toNat % 32) = false)
    (hlost : s.lostTile n.val = false) (hsev : s.sevTile n.val bit.toNat = 3) (h0 : s.f (F.FSTATE_STATE n.val) = 0) (hm : s.f F.MFSTATE_STATE = 0) :
    ∃ u : State, exec (.faultSourceAssert (.tile n) bit hold) s = .next u ∧ u.bit (wordReg n.val bit.toNat) (bit.toNat % 32) = true ∧
      u.f (F.FSTATE_STATE n.val) = 1 ∧ (∀ c < 8, u.f (F.LAS_STAT_STATE n.val c) = 0) ∧ (∀ i < 3, u.f (F.EYESAFE_STATE n.val i) = 2) ∧
      (s.f (F.FFIRST_VALID n.val) = 0 → u.f (F.FFIRST_SRC n.val) = bit.toNat ∧ u.f (F.FFIRST_SEV n.val) = 3 ∧ u.f (F.FFIRST_VALID n.val) = 1) ∧
      s.onlyFaults u ∧ s.keepsRegs u (tileFaultRegs n.val) := by
  obtain ⟨hword, hst, hdark, hfirst⟩ := State.raise_reacts hc hlow hlost hb hsev h0 hm 0 hold
  obtain ⟨honly, hkeep⟩ := s.raise_faulted n.val bit.toNat 0 hold
  rw [exec_assert_tile hb h34, State.assertTile_plain hb (by omega)]
  exact ⟨_, rfl, hword, hst, hdark.1, hdark.2, hfirst, honly, hkeep⟩

theorem exec_deassert_tile (hc : s.canonical) (hb : bit.toNat < 44) : ∃ u : State, exec (.faultSourceDeassert (.tile n) bit) s = .next u ∧
    u.bit (lineReg n.val bit.toNat) (bit.toNat % 32) = false ∧ s.keepsRegs u [lineReg n.val bit.toNat] := by
  have he : exec (.faultSourceDeassert (.tile n) bit) s = .next (s.fall n.val bit.toNat) := congrArg Host.Outcome.next (if_pos hb)
  exact ⟨_, he, State.fall_low hc n.val bit.toNat⟩

theorem exec_assert_module_reserved (h : 21 ≤ bit.toNat) :
    exec (.faultSourceAssert .module bit hold) s = .next s ∧ exec (.faultSourceDeassert .module bit) s = .next s :=
  ⟨congrArg _ (if_pos h), congrArg _ (if_neg (by omega))⟩

theorem exec_assert_module (hc : s.canonical) (h0 : bit.toNat ≠ 0) (hb : bit.toNat < 21) (hlow : s.bit R.MFLVL_SRC bit.toNat = false)
    (hsev : s.sevModule bit.toNat = 3) (hm : s.f F.MFSTATE_STATE = 0) : ∃ u : State, exec (.faultSourceAssert .module bit hold) s = .next u ∧
      u.bit R.MFSW_SRC bit.toNat = true ∧ u.f F.MFSTATE_STATE = 1 ∧ (∀ n < 48, ∀ c < 8, u.f (F.LAS_STAT_STATE n c) = 0) ∧ s.keepsMemory u := by
  obtain ⟨u, hu, h1, h2, h3, h4⟩ := State.raiseMod_reacts hc hb hlow hsev hm 0 hold
  have he : s.assertSource .module bit.toNat hold = u := by
    unfold State.assertSource
    dsimp only
    rw [if_neg (by omega), if_neg h0, State.assertModule_plain hb (by omega), hu]
  exact ⟨u, congrArg _ he, h1, h2, h3, h4⟩

theorem exec_deassert_module (hc : s.canonical) (hb : bit.toNat < 21) : ∃ u : State, exec (.faultSourceDeassert .module bit) s = .next u ∧
    u.bit R.MFLVL_SRC bit.toNat = false ∧ s.keepsRegs u [R.MFLVL_SRC] := by
  have he : exec (.faultSourceDeassert .module bit) s = .next (s.fallMod bit.toNat) := congrArg Host.Outcome.next (if_pos hb)
  exact ⟨_, he, State.fallMod_low hc (hb.trans (by decide))⟩

end

/-! ### Events that find the scope in another state -/

theorem exec_safeEntered_other {s : State} {sc : Scope} (h : s.f sc.stateF ≠ 1) : exec (.safeEntered sc) s = .next s := if_pos h

theorem exec_quietTimerExpiry_other {s : State} {sc : Scope} (h : s.f sc.stateF ≠ 2 ∨ s.quietOver sc = false) : exec (.quietTimerExpiry sc) s = .next s :=
  if_pos (by simpa using h)

theorem exec_faultRecoveryDone_other {s : State} {sc : Scope} (h : s.f sc.stateF ≠ 3) : exec (.faultRecoveryDone sc) s = .next s := if_pos h

end Sys2Proof.Machine

open Sys2Proof Sys2Proof.Machine

/-- Settles O56: an assertion is its line, its bit, its latch and its reaction in turn; the states of a scope follow from the frame of what the
Proctor does between them, which enters a reaction at most; and each command is what its act writes. -/
theorem faultStates : Obligations.FaultStates := by
  unfold Obligations.FaultStates
  refine ⟨fun n bit hold s => ⟨exec_assert_reserved, exec_assert_high, exec_assert_window, fun hc hb h34 hlow hlost => ⟨fun hsev => ?_, fun hsev h0 hm => ?_⟩,
      exec_deassert_tile⟩,
    fun bit hold s => ⟨exec_assert_module_reserved, exec_assert_module, exec_deassert_module⟩,
    fun s => ⟨watchdog_switching, watchdog_escalates, watchdog_contains⟩,
    fun sc s => ⟨exec_safeEntered_other, safeEntered_spec, exec_quietTimerExpiry_other, quietTimerExpiry_spec, exec_faultRecoveryDone_other,
      faultRecoveryDone_spec⟩,
    fun p s o => ⟨fun hr => ⟨faultStatus_tile hr, faultStatus_module hr⟩, faultClear_clears, fun hr hc => ?_, fun hr => ?_,
      fun hr => ⟨faultInject_exec hr, faultInject_enabled hr⟩⟩⟩
  · exact exec_assert_ignored hc hb h34 hlow hlost hsev
  · exact exec_assert_safe hc hb h34 hlow hlost hsev h0 hm
  · obtain ⟨u, hu, he⟩ := faultRelease_exec hr
    exact ⟨u, he, hu ▸ State.released_state (State.begun_canonical hc p) _, faultRelease_held hr⟩
  · exact ⟨_, faultUnfence_fenced hr, State.fence_setFence _ _ (by simp), faultUnfence_exec hr⟩
end
